-- ==== Sys2Proof/Word.lean ====
section
/-! DEFINITION. The byte, the byte images of values, and the sparse table that every repeated piece of state is held in. -/

namespace Sys2Proof

/-- One byte. -/
abbrev Byte := BitVec 8

/-- A sparse table: pairs of key and value, keys strictly rising, no entry equal to what an unlisted key reads as.
Memory, the dictionary's registers and every numbered unit (channels, engines, queues …) are such tables. -/
abbrev Tbl (α : Type) := List (Nat × α)

/-- The value at key `k`, or `d` where the table lists none. -/
def Tbl.get {α : Type} (d : α) : Tbl α → Nat → α
  | [], _ => d
  | (j, v) :: r, k => if k = j then v else Tbl.get d r k

/-- A table without the entries of key `k`. -/
def Tbl.drop {α : Type} : Tbl α → Nat → Tbl α
  | [], _ => []
  | (j, v) :: r, k => if j = k then Tbl.drop r k else (j, v) :: Tbl.drop r k

/-- Put `v` at key `k`, keeping the canonical form: an entry equal to the default `d` is removed. -/
def Tbl.set {α : Type} [DecidableEq α] (d : α) : Tbl α → Nat → α → Tbl α
  | [], k, v => if v = d then [] else [(k, v)]
  | (j, w) :: r, k, v =>
    if k < j then (if v = d then (j, w) :: Tbl.drop r k else (k, v) :: (j, w) :: r)
    else if k = j then (if v = d then Tbl.drop r k else (k, v) :: r)
    else (j, w) :: Tbl.set d r k v

/-- The canonical form for a table whose key `k` reads `d k` where unlisted. -/
def Tbl.wf {α : Type} [DecidableEq α] (d : Nat → α) : Tbl α → Bool
  | [] => true
  | [(k, v)] => decide (v ≠ d k)
  | (k, v) :: (j, w) :: r => decide (v ≠ d k) && decide (k < j) && Tbl.wf d ((j, w) :: r)

/-- The low `n` bytes of a number, least significant first (R6). -/
def leBytes : Nat → Nat → List Byte
  | 0, _ => []
  | n + 1, v => BitVec.ofNat 8 v :: leBytes n (v / 256)

/-- The number whose bytes, least significant first, are given (R6). -/
def leNat : List Byte → Nat
  | [] => 0
  | b :: r => b.toNat + 256 * leNat r

/-- The `n` bytes from offset `o`; bytes beyond the end are left out. -/
def slice (o n : Nat) (l : List Byte) : List Byte := (l.drop o).take n

/-- The little-endian field of `n` bytes at offset `o`. -/
def fieldLE (l : List Byte) (o n : Nat) : Nat := leNat (slice o n l)

/-- The byte at offset `o`, 0 beyond the end. -/
def byteAt (l : List Byte) (o : Nat) : Nat := ((l.drop o).headD 0).toNat

/-- Overwrite the bytes of `l` from offset `o` with `b`, cut at the end of `l`. -/
def splice (l : List Byte) (o : Nat) (b : List Byte) : List Byte :=
  (l.take o ++ b ++ l.drop (o + b.length)).take l.length

/-- Bits [hi:lo] of a number (R5). -/
def bits (v hi lo : Nat) : Nat := v / 2 ^ lo % 2 ^ (hi + 1 - lo)

/-- Bit n of a number. -/
def bit (v n : Nat) : Bool := v.testBit n

/-- A number with bit n set or cleared. -/
def setBit (v n : Nat) (b : Bool) : Nat :=
  if v.testBit n = b then v else if b then v + 2 ^ n else v - 2 ^ n

/-- A Bool as a one-bit number. -/
def b2n (b : Bool) : Nat := if b then 1 else 0

/-- The integer a two's complement word of w bits stands for. -/
def signed (w v : Nat) : Int := if v < 2 ^ (w - 1) then (v : Int) else (v : Int) - 2 ^ w

/-- The two's complement word of w bits of an integer. -/
def unsigned (w : Nat) (i : Int) : Nat := (i % 2 ^ w).toNat

/-- A list of `n` copies (kept as a name of its own for images of repeated bytes). -/
def fill (n v : Nat) : List Byte := List.replicate n (BitVec.ofNat 8 v)

end Sys2Proof
end

