-- ==== Sys2Proof/Syntax.lean ====
section
/-! DEFINITION. The commands the device takes: one constructor per row of `spec/opcode_table.json`, with its operands. The
instant `t` at which a command happens is in units of 0.5 ps since power-on. -/

namespace Sys2Proof

/-- The two management controllers (R15). -/
inductive Ctl where
  | a | b
  deriving DecidableEq, Repr

/-- 0 for MC-A, 1 for MC-B. -/
def Ctl.num : Ctl → Nat
  | .a => 0
  | .b => 1

/-- The other controller. -/
def Ctl.partner : Ctl → Ctl
  | .a => .b
  | .b => .a

/-- The path by which a dictionary access arrives (R37, R40, R420). -/
inductive Requester where
  /-- an operation record of the Kisko session in a slot -/
  | session (slot : Fin 64)
  /-- firmware of a controller, through the spine alias -/
  | firmware (c : Ctl)
  /-- a debug port, checked as the controller named in DBG_AS -/
  | debugPort
  deriving DecidableEq, Repr

/-- A CLAIM (R64, R68): one requester's write, or the CLAIMs of both controllers in the same cycle. -/
inductive Claimants where
  | one (r : Requester) (v : Nat)
  | both (va vb : Nat)
  deriving DecidableEq, Repr

/-- Who sent a UDP datagram, and where to (R280): the Ethernet source, whether over IPv6, the source address and UDP port, and the device's
own address and port that it names. -/
structure Peer where
  mac : Nat := 0
  v6 : Bool := false
  addr : Nat := 0
  port : Nat := 0
  own : Nat := 0
  dport : Nat := 0
  deriving DecidableEq, Repr

/-- What closes a session (R58). -/
inductive Closer where
  /-- a CLOSE datagram that arrived at the port of a controller -/
  | datagram (port : Ctl) (peer : Peer) (d : List Byte)
  /-- a write to CLOSE of the slot -/
  | write (r : Requester) (slot : Fin 64) (v : Bool)
  deriving DecidableEq, Repr


/-- A step of a schedulable DOMAIN object that has one row for both: its commit, or the effect of a commit that was
scheduled (R43, R85). -/
inductive CommitStep where
  | commit (r : Requester) (crc tt : Nat)
  | effect
  deriving DecidableEq, Repr

/-- What a strobe sees on CMH and CML (R108, R109): the two samples of an edge strobe; or, for a window, how long the longest
excursion inside it lasts, in units of 0.5 ps, for each condition: CMH low, CML low, either high, both high. -/
inductive Look where
  | edge (cmh cml : Bool)
  | window (cmhLow cmlLow anyHigh bothHigh : Nat)
  deriving DecidableEq, Repr

/-- An action that is armed and cancelled by writes to its own objects (*Table 3.5*). -/
inductive Arming where
  | trigger (u : Fin 16)
  | start (e : Fin 512)
  | swap (p : Fin 24)
  | sleep
  | deadline (q : Fin 32768)
  | ptpSwitch
  | bank (b : Fin 4)
  deriving DecidableEq, Repr

/-- A lane word that fabric logic presents at a fabric lane port (R299). -/
structure FabricWord where
  word : Nat
  a0 : Nat
  p0 : Nat
  a1 : Nat
  p1 : Nat
  mark : Bool
  stop : Bool
  half : Bool
  deriving DecidableEq, Repr

/-- A rising edge of CFG_CLK: CFG_CS_N and CFG_D (R309). -/
structure PortEdge where
  csN : Bool
  d : BitVec 32
  deriving DecidableEq, Repr

/-- An error that the patrol meets in the unit it visits (R389): an array with one wrong bit or two, in both copies where there are
two; or, in LPDDR4X, a byte of the line and its tag bytes that has changed, with the bits that did. -/
inductive PatrolErr where
  | single (array : Nat)
  | double (array : Nat) (both : Bool)
  | flip (byte bits : Nat)
  deriving DecidableEq, Repr

/-- What the start-up march leaves (R386): physical engine slots whose stores fail; words in rows without a spare, of Feed stores, of
Carafe slices and of the six spine arrays of STARTUP_RESULT's byte 69; and block memories with their failing columns. -/
structure MarchFinds where
  slots : List Nat
  feeds : List (Nat × Nat)
  carafe : List (Nat × Nat)
  spine : List (Nat × Nat)
  columns : List (Nat × List Nat)
  deriving DecidableEq, Repr


/-- What a block does with a request that reaches its tether (R335, R348): it takes it and answers; takes it and holds it; leaves it
untaken; or answers the oldest one it holds. -/
inductive Tether where
  | deliver | hold | stall | answer
  deriving DecidableEq, Repr


/-- The registers that choose a fabric clock (*Table 15.13*): SRC of a global clock; SRC or DIV of a regional one. -/
inductive ClockSet where
  | global (g : Fin 16)
  | regional (p : Fin 24)
  | divider (p : Fin 24)
  deriving DecidableEq, Repr

/-- How an instruction of a controller reaches an address (R429): it executes there, loads, stores, or does both (an AMO). -/
inductive McAccess where
  | execute | load | store | amo
  deriving DecidableEq, Repr

/-- The commands, one constructor per row of the table; each docstring gives the row's rule and summary. -/
inductive Instr where
  /-- R10: A WRITE or alias store to an object that has no row of its own is checked for role, charge, type, range and access, then applied or refused. -/
  | registerWrite (t : Nat) (r : Requester) (idx sub off : Nat) (bytes : List Byte)
  /-- R54: A Kisko READ record returns the object image, or a status. -/
  | read (t : Nat) (slot : Fin 64) (idx sub ty : Nat)
  /-- R54: A Kisko WRITE record writes an object image, subject to role, charge, type and access checks. -/
  | write (t : Nat) (slot : Fin 64) (idx sub ty : Nat) (bytes : List Byte)
  /-- R54: A Kisko MASK_WRITE record writes only the bits that are set in the mask. -/
  | maskWrite (t : Nat) (slot : Fin 64) (idx sub ty : Nat) (val mask : List Byte)
  /-- R42: Opens a DOMAIN transfer with its total length, staged in a buffer of the owner. -/
  | segOpen (t : Nat) (r : Requester) (idx sub total : Nat)
  /-- R460: Writes a segment at the next unwritten offset of the opener's open transfer. -/
  | segWrite (t : Nat) (r : Requester) (idx sub off : Nat) (bytes : List Byte)
  /-- R460: Returns bytes of the committed image from OFFSET onwards. -/
  | segRead (t : Nat) (r : Requester) (idx sub off count : Nat)
  /-- R42: Checks completeness and CRC, then the owner accepts or rejects the image, which takes effect at once or at the given TT. -/
  | segCommit (t : Nat) (r : Requester) (idx sub crc tt : Nat)
  /-- R44: Aborts the opener's open DOMAIN transfer with nothing committed. -/
  | segAbort (t : Nat) (r : Requester) (idx sub : Nat)
  /-- R460: An alias DATA store writes 8 bytes at OFFSET of an open transfer and advances OFFSET by 8. -/
  | dataStore (t : Nat) (c : Ctl) (idx sub : Nat) (v : BitVec 64)
  /-- R44: An open transfer with no segment or commit for 10 s is aborted and counted in SEG_ABORTS. -/
  | segTransferTimeout (t idx sub : Nat)
  /-- R60: Opens a Kisko stream on a queue as its consumer or producer, within the stream limits. -/
  | streamOpen (t : Nat) (slot : Fin 64) (queue dir credit : Nat)
  /-- R61: Closes a stream, leaving unacknowledged or enqueued granules in the ring. -/
  | streamClose (t : Nat) (slot : Fin 64) (stream : Nat)
  /-- R54: Returns the STAMP of the reply. -/
  | ping (t : Nat) (slot : Fin 64)
  /-- R55: A HELLO reserves a session slot and is answered with a CHALLENGE, or with BUSY when no slot is free. -/
  | hello (t : Nat) (port : Ctl) (peer : Peer) (d : List Byte)
  /-- R55: A correct PROOF within 1 s opens the session and is answered with ACCEPT; a wrong or late one frees the slot with DENIED. -/
  | proof (t : Nat) (port : Ctl) (peer : Peer) (d : List Byte)
  /-- R58: A CLOSE datagram, or a write of 1 to a slot's CLOSE, closes the session, its open transfers and its streams. -/
  | close (t : Nat) (w : Closer)
  /-- R58: A session that receives no datagram with a correct MAC for SESSION_TIMEOUT closes. -/
  | sessionTimeout (t : Nat) (slot : Fin 64)
  /-- R57: A request datagram is checked for MAC and SEQ, answered from the reply cache or refused, or has its records executed in order. -/
  | requestDatagram (t : Nat) (port : Ctl) (peer : Peer) (d : List Byte) (late : List Nat)
  /-- R60: Host-to-device stream granules are enqueued within the granted credit; granules beyond it are refused and counted. -/
  | streamData (t : Nat) (port : Ctl) (peer : Peer) (d : List Byte)
  /-- R60: A stream ack acknowledges granules, advances the consumer pointer and adds credit. -/
  | streamAck (t : Nat) (port : Ctl) (peer : Peer) (d : List Byte)
  /-- R60: When STREAM_RTO passes without an ACKED, the device resends from the oldest unacknowledged granule. -/
  | streamRto (t : Nat) (stream : Fin 128)
  /-- R68: A controller claims charge in NONE; MC-A wins when both claim in the same cycle. -/
  | claim (t : Nat) (w : Claimants)
  /-- R67: The holder offers charge; the latch enters OFFERED and the holder's shared writes are denied. -/
  | offer (t : Nat) (r : Requester) (v : Nat)
  /-- R67: The partner accepts an open offer, becomes holder, and EPOCH increments. -/
  | accept (t : Nat) (r : Requester) (v : Nat)
  /-- R67: An offer not accepted within OFFER_TIMEOUT returns the latch to HELD and interrupts the holder with ABORTED. -/
  | offerTimeout (t : Nat)
  /-- R65: In HOLDER_LOST, the partner takes charge and EPOCH increments. -/
  | take (t : Nat) (r : Requester) (v : Nat) (heartbeat : Bool)
  /-- R63: The host asks the holder to offer charge, which raises an interrupt at the holder. -/
  | handoverRequest (t : Nat) (r : Requester) (v : Bool)
  /-- R65: A controller heartbeat resets HB_MISSED, and returns a HOLDER_LOST latch to HELD. -/
  | heartbeat (t : Nat) (r : Requester) (x : Ctl) (v : Nat)
  /-- R65: At the end of each 1 ms window without a heartbeat, HB_MISSED increments; on the holder's third miss the latch enters HOLDER_LOST. -/
  | heartbeatWindowEnd (t : Nat)
  /-- R69: A checked controller image commit resets that controller's shed and boots the new image. -/
  | firmwareImageCommit (t : Nat) (r : Requester) (x : Ctl) (crc tt : Nat)
  /-- R71: A role, firmware or debug key is committed to the non-volatile key section and applies from its next use. -/
  | keyCommit (t : Nat) (r : Requester) (k : Fin 5) (crc tt : Nat)
  /-- R48: Copies all terms of a ledger in one cycle and sets MISMATCH if the snapshot does not close. -/
  | ledgerSnap (t : Nat) (r : Requester) (l : Fin 63) (v : Bool)
  /-- R77: In SEARCH and VERIFY, good frames are found and verified until TT is loaded and LOCKED is entered. -/
  | markerFrameSearch (t : Nat) (falls : List (Option Nat))
  /-- R79: In LOCKED, FLYWHEEL and MISMATCH, each 128-edge frame slot is sorted as matching, bad or mismatched and moves the decoder's state. -/
  | markerFrameSlot (t : Nat) (falls : List (Option Nat))
  /-- R80: Clears TT_VALID, returns the decoder to SEARCH and both PTP domains to LISTENING, if allowed. -/
  | ttResync (t : Nat) (r : Requester) (v : Bool)
  /-- R84: Arms a scheduled action if its signed distance lies within the horizon and TT is valid. -/
  | scheduledArm (t : Nat) (r : Requester) (a : Arming) (v : Bool)
  /-- R87: Cancels an armed action at the first tick boundary after the cancel arrives, or refuses. -/
  | scheduledCancel (t : Nat) (r : Requester) (a : Arming) (v : Bool)
  /-- R90: A Sync exchange from the selected master gives an offset, and the servo corrects the mapping and moves the domain state. -/
  | ptpSync (t : Nat) (k : Fin 2) (master : Nat) (offset : Int) (delay interval : Nat)
  /-- R90: No Sync for 4 sync intervals while LOCKED moves the domain to HOLDOVER. -/
  | ptpSyncLoss (t : Nat) (k : Fin 2)
  /-- R90: A domain still in HOLDOVER after HOLDOVER_LIMIT enters LISTENING. -/
  | holdoverLimit (t : Nat) (k : Fin 2)
  /-- R92: Arms a switch of the active PTP domain at SWITCH_AT. -/
  | switchArm (t : Nat) (r : Requester) (v : Bool)
  /-- R87: Cancels a pending switch of the active PTP domain. -/
  | switchCancel (t : Nat) (r : Requester) (v : Bool)
  /-- R91: At S, checks the residual and the target, then switches the active timeline by slew or by step. -/
  | activeDomainSwitch (t : Nat)
  /-- R93: The active timeline's slew completes when RESIDUAL reaches 0. -/
  | slewEnd (t : Nat)
  /-- R95: Arms a trigger output train at AT. -/
  | arm (t : Nat) (r : Requester) (u : Fin 16) (v : Bool)
  /-- R95: Cancels a trigger train under R87; a pulse already begun completes its width. -/
  | cancel (t : Nat) (r : Requester) (u : Fin 16) (v : Bool)
  /-- R95: A trigger's pulse leading edge is placed at its instant and the next pulse is scheduled by PERIOD. -/
  | triggerPulse (t : Nat) (u : Fin 16)
  /-- R95: A MODE write affects a pending or running train, or closes an open input record. -/
  | triggerModeWrite (t : Nat) (r : Requester) (u : Fin 16) (v : Nat)
  /-- R96: A selected input edge opens a record, or increments COALESCED. -/
  | triggerInputEdge (t : Nat) (u : Fin 16) (rising : Bool)
  /-- R96: At the end of DEADTIME, the input record is written to its queue or dropped. -/
  | deadtimeEnd (t : Nat) (u : Fin 16)
  /-- R101: Commits a channel-map bank that is neither active nor named by a pending switch. -/
  | mapCommit (t : Nat) (r : Requester) (b : Fin 4) (crc tt : Nat)
  /-- R102: Arms a switch to a channel-map bank at SWITCH_AT. -/
  | bankSwitchArm (t : Nat) (r : Requester) (b : Fin 4) (v : Bool)
  /-- R87: Cancels a pending switch to a channel-map bank. -/
  | bankSwitchCancel (t : Nat) (r : Requester) (b : Fin 4) (v : Bool)
  /-- R102: At S, the input side of every channel switches to the new bank. -/
  | bankSwitch (t : Nat) (b : Fin 4)
  /-- R102: A channel FIFO switches to its new source once the last word of its old source is consumed. -/
  | fifoOutputSwitch (t : Nat) (ch : Fin 144)
  /-- R111: Checks a timing-set table and applies it at the first period boundary at or after the commit instant. -/
  | timingSetsCommit (t : Nat) (ch : Fin 144) (w : CommitStep)
  /-- R113: Checks and applies the masked sections of a quad edge-schedule image. -/
  | quadScheduleCommit (t : Nat) (n : Fin 36) (w : CommitStep)
  /-- R115: At each period boundary of a running channel, the next vector resolves its timing set and has its edges queued, after the boundary events of R123. -/
  | vectorBegin (t : Nat) (ch : Fin 144)
  /-- R115: The start of a source, or the first fabric-lane word, makes a PARKED channel begin its first vector START_OFFSET later. -/
  | patternStart (t : Nat) (ch : Fin 144)
  /-- R108: At a strobe, the channel samples CMH and CML and judges each slot into fail and match bits. -/
  | strobe (t : Nat) (ch : Fin 144) (look : Look)
  /-- R121: After the stop and the last edge, the channel drives PARK_CODE and enters PARKED at the next period boundary. -/
  | channelStop (t : Nat) (ch : Fin 144)
  /-- R117: A TRIM write applies to vectors that begin after the next period boundary, or is refused. -/
  | trimWrite (t : Nat) (r : Requester) (ch : Fin 144) (v : Nat)
  /-- R126: A PARK_CODE write reaches the pad-state latch in the cycle of the write. -/
  | parkCodeWrite (t : Nat) (r : Requester) (ch : Fin 144) (v : Nat)
  /-- R127: A MODE write moves a PARKED channel between P-mode and S-mode, latched for at most 2 µs. -/
  | modeChange (t : Nat) (r : Requester) (ch : Fin 144) (v : Nat)
  /-- R128: Foreground calibration of a pair's DESKEW while the channel is PARKED. -/
  | deskewWrite (t : Nat) (r : Requester) (ch : Fin 144) (pair : Fin 4) (v : Nat)
  /-- R129: Every 10 µs a quad measures its replica line and corrects each pair's fine mapping by at most one step. -/
  | bgcalMeasurement (t : Nat) (n : Fin 36) (steps : List Int)
  /-- R140: Advances PC by one. -/
  | next (t : Nat) (e : Fin 512)
  /-- R140: Jumps to TARGET when COND holds. -/
  | jmp (t : Nat) (e : Fin 512)
  /-- R142: Pushes PC + 1 and jumps when COND holds, or is illegal on a full stack. -/
  | call (t : Nat) (e : Fin 512)
  /-- R142: Pops PC when COND holds, or is illegal on an empty stack. -/
  | ret (t : Nat) (e : Fin 512)
  /-- R140: Decrements LCk and branches, or reloads LCk and falls through. -/
  | loop (t : Nat) (e : Fin 512)
  /-- R140: Loads LCk and LCRk from TARGET. -/
  | ldlci (t : Nat) (e : Fin 512)
  /-- R140: Loads LCk and LCRk from Gm. -/
  | ldlc (t : Nat) (e : Fin 512)
  /-- R155: Waits for the TT instant in a register pair, or retires at once and sets LATE. -/
  | waittt (t : Nat) (e : Fin 512)
  /-- R155: The waited boundary is reached and WAITTT retires. -/
  | waitttRetire (t : Nat) (e : Fin 512)
  /-- R155: Waits Gm word clocks, optionally repeating its emit slot. -/
  | waitc (t : Nat) (e : Fin 512)
  /-- R155: The WAITC count ends and the instruction retires. -/
  | waitcRetire (t : Nat) (e : Fin 512)
  /-- R154: Pushes a stop to every lane that is not OFF, enters STOPPED and writes an event record. -/
  | stop (t : Nat) (e : Fin 512)
  /-- R153: Records a new site value for the masked lanes, to travel with their next words. -/
  | site (t : Nat) (e : Fin 512)
  /-- R146: Loads a scramble table from the Feed store in 32 accesses and checks MAGIC. -/
  | scrld (t : Nat) (e : Fin 512)
  /-- R202: Issues a claim of a Halter unit and stalls until it is decided. -/
  | hclaim (t : Nat) (e : Fin 512)
  /-- R205: The allocator decides a claim passed by a quadrant port, granting it or refusing it with a cause. -/
  | claimDecision (t : Nat) (q : Fin 4)
  /-- R204: Releases a Halter unit that the engine holds, or counts RELEASE_NOT_HELD. -/
  | hrelease (t : Nat) (e : Fin 512)
  /-- R204: Four word clocks after HRELEASE, the unit is freed and disarmed. -/
  | releaseDisarm (t : Nat) (e : Fin 512)
  /-- R140: Loads Gd from a data-store word. -/
  | lds (t : Nat) (e : Fin 512)
  /-- R140: Stores Gd to a data-store word. -/
  | sts (t : Nat) (e : Fin 512)
  /-- R141: Gd takes the source value, with flags. -/
  | mov (t : Nat) (e : Fin 512)
  /-- R141: Adds the source to Gd and sets ZF, NF and CF. -/
  | add (t : Nat) (e : Fin 512)
  /-- R141: Subtracts the source from Gd and sets the flags. -/
  | sub (t : Nat) (e : Fin 512)
  /-- R141: ANDs the source into Gd and clears CF. -/
  | and (t : Nat) (e : Fin 512)
  /-- R141: ORs the source into Gd and clears CF. -/
  | or (t : Nat) (e : Fin 512)
  /-- R141: XORs the source into Gd and clears CF. -/
  | xor (t : Nat) (e : Fin 512)
  /-- R141: Shifts Gd left by the source. -/
  | shl (t : Nat) (e : Fin 512)
  /-- R141: Shifts Gd right by the source. -/
  | shr (t : Nat) (e : Fin 512)
  /-- R141: Compares Gd with the source and sets the flags only. -/
  | cmp (t : Nat) (e : Fin 512)
  /-- R141: Tests Gd AND the source and sets the flags only. -/
  | tst (t : Nat) (e : Fin 512)
  /-- R141: MOV with an immediate. -/
  | movi (t : Nat) (e : Fin 512)
  /-- R141: ADD with an immediate. -/
  | addi (t : Nat) (e : Fin 512)
  /-- R141: SUB with an immediate. -/
  | subi (t : Nat) (e : Fin 512)
  /-- R141: AND with an immediate. -/
  | andi (t : Nat) (e : Fin 512)
  /-- R141: OR with an immediate. -/
  | ori (t : Nat) (e : Fin 512)
  /-- R141: XOR with an immediate. -/
  | xori (t : Nat) (e : Fin 512)
  /-- R141: SHL with an immediate. -/
  | shli (t : Nat) (e : Fin 512)
  /-- R141: SHR with an immediate. -/
  | shri (t : Nat) (e : Fin 512)
  /-- R141: CMP with an immediate. -/
  | cmpi (t : Nat) (e : Fin 512)
  /-- R141: TST with an immediate. -/
  | tsti (t : Nat) (e : Fin 512)
  /-- R140: Loads Gd[10:0] from TARGET. -/
  | ldk0 (t : Nat) (e : Fin 512)
  /-- R140: Loads Gd[21:11] from TARGET. -/
  | ldk1 (t : Nat) (e : Fin 512)
  /-- R140: Loads Gd[31:22] from TARGET. -/
  | ldk2 (t : Nat) (e : Fin 512)
  /-- R158: When the refresh timer reaches RFI, REF_PENDING increments and REF_LATE may be set. -/
  | refreshTimer (t : Nat) (e : Fin 512)
  /-- R165: Arms an engine start at START_AT in READY or STOPPED. -/
  | startArm (t : Nat) (r : Requester) (e : Fin 512) (v : Bool)
  /-- R87: Cancels an armed engine start. -/
  | startCancel (t : Nat) (r : Requester) (e : Fin 512) (v : Bool)
  /-- R165: At the start instant, the engine enters RUNNING at ENTRY with an empty stack and empty assemblers. -/
  | engineStart (t : Nat) (e : Fin 512)
  /-- R165: A stop request in RUNNING takes effect as STOP at the next word clock. -/
  | stopReq (t : Nat) (r : Requester) (e : Fin 512) (v : Bool)
  /-- R164: At the load instant, the engine stops, enters LOADING, releases its Halter units and copies the image. -/
  | programLoad (t : Nat) (e : Fin 512) (w : CommitStep)
  /-- R164: The copy ends and the engine enters READY with the registers cleared by load. -/
  | loadComplete (t : Nat) (e : Fin 512)
  /-- R166: Marks a visible engine as failed, for a remap at its next load. -/
  | failedMark (t : Nat) (r : Requester) (e : Fin 512) (v : Bool)
  /-- R169: Commits a Feed-store access schedule, effective at a word-clock boundary. -/
  | feedSchedCommit (t : Nat) (c : Fin 16) (w : CommitStep)
  /-- R177: Loads operands, multiplies under SHARE and combines the products into the accumulators with clamping. -/
  | mac (t : Nat) (e : Fin 512)
  /-- R179: Updates the minimum or maximum and its index from one value. -/
  | mmx (t : Nat) (e : Fin 512)
  /-- R174: Resets the minimum, maximum and index registers. -/
  | mmclr (t : Nat) (e : Fin 512)
  /-- R178: Reads a shifted, rounded and saturated accumulator into Gd. -/
  | accrd (t : Nat) (e : Fin 512)
  /-- R174: Reads a min, max or index register into Gd. -/
  | mmrd (t : Nat) (e : Fin 512)
  /-- R174: Clears or loads the masked accumulators. -/
  | accset (t : Nat) (e : Fin 512)
  /-- R174: Loads one or all A or B operand registers from Gm. -/
  | ldop (t : Nat) (e : Fin 512)
  /-- R186: Captures the active bank into the shadow bank in D4, optionally clearing it and interrupting. -/
  | switch (t : Nat) (e : Fin 512)
  /-- R181: Reads a field of the head result entry into Gd, optionally popping it. -/
  | resrd (t : Nat) (e : Fin 512)
  /-- R180: When a channel's step closes, its result entry is delivered to every lane that names the channel. -/
  | stepResult (t : Nat) (ch : Fin 144)
  /-- R189: Writes the datapath state in one word clock and then applies FLUSH. -/
  | dspStateCommit (t : Nat) (r : Requester) (e : Fin 512) (crc tt : Nat)
  /-- R200: At its instant, a Halter table commit reassigns the named lines, or refuses if a running holder would change. -/
  | table (t : Nat) (w : CommitStep)
  /-- R201: A line's site mask changes at a word-clock boundary. -/
  | siteMask (t : Nat) (k : Fin 8) (w : CommitStep)
  /-- R208: Frees units of an engine that is not ARMED, RUNNING or HALTED. -/
  | forceRelease (t : Nat) (r : Requester) (k : Fin 8) (v : Nat)
  /-- R193: Three word clocks after a holder's MARK instruction, the unit's sticky latch clears. -/
  | stickyClear (t : Nat) (k : Fin 8) (u : Fin 16)
  /-- R210: At the end of a slot window of a DIVIDED line, the held contributions clear and the engines sample the virtual line. -/
  | slotWindowEnd (t : Nat) (k : Fin 8) (u : Fin 16)
  /-- R215: A down yard port or a non-zero DEG byte puts yard-enabled lines into failsafe within 100 ns. -/
  | failsafeEntry (t : Nat)
  /-- R215: Ends a line's failsafe if its ports are up and its DEG bytes are clear. -/
  | clearFailsafe (t : Nat) (r : Requester) (k : Fin 8) (v : Bool)
  /-- R218: Commits the site table, effective for fail bits from a word-clock boundary. -/
  | sitesCommit (t : Nat) (w : CommitStep)
  /-- R219: Clears every per-site fail counter. -/
  | siteFailsClear (t : Nat) (r : Requester) (v : Bool)
  /-- R220: Commits the capture entries of a fail-capture unit for PARKED channels. -/
  | chanCfgCommit (t : Nat) (r : Requester) (q : Fin 4) (crc tt : Nat)
  /-- R223: A word record closes MERGE_WINDOW word clocks after it opened. -/
  | wordRecordClose (t : Nat) (q : Fin 4) (g : Fin 16)
  /-- R224: A run record closes after RUN_IDLE word clocks without an absorption. -/
  | runIdleExpiry (t : Nat) (q : Fin 4) (src : Fin 52)
  /-- R224: Closes every open record of a fail-capture unit. -/
  | fcFlush (t : Nat) (r : Requester) (q : Fin 4) (v : Bool)
  /-- R224: Writing RUN_EN 0 closes every open run record at once. -/
  | runEnWrite (t : Nat) (r : Requester) (q : Fin 4) (v : Bool)
  /-- R225: The output buffer offers one closed record per word clock to FAIL_QUEUE, or drops it. -/
  | recordOffer (t : Nat) (q : Fin 4)
  /-- R228: Commits a queue descriptor in DISABLED and resets its pointers. -/
  | descCommit (t : Nat) (r : Requester) (q : Fin 32768) (crc tt : Nat)
  /-- R230: Moves a queue between DISABLED, ENABLED and DRAINING. -/
  | enable (t : Nat) (r : Requester) (q : Fin 32768) (v : Bool)
  /-- R230: A DRAINING queue enters DISABLED once FILL is 0 and no reservation is in flight. -/
  | drainComplete (t : Nat) (q : Fin 32768)
  /-- R231: A hardware offer reserves a granule if the queue is ENABLED and not full, or is refused. -/
  | producerOffer (t : Nat) (q : Fin 32768) (gran : List Byte)
  /-- R231: The completion of a ring write commits its reservation in order and raises FILL. -/
  | ringWriteComplete (t : Nat) (q : Fin 32768) (num : Nat)
  /-- R233: A controller commits granules it wrote to the ring. -/
  | prodDoorbell (t : Nat) (r : Requester) (q : Fin 32768) (n : Nat)
  /-- R233: A controller consumes granules. -/
  | consDoorbell (t : Nat) (r : Requester) (q : Fin 32768) (n : Nat)
  /-- R235: Arms a queue deadline. -/
  | deadlineArm (t : Nat) (r : Requester) (q : Fin 32768) (v : Bool)
  /-- R87: Cancels a pending queue deadline. -/
  | deadlineCancel (t : Nat) (r : Requester) (q : Fin 32768) (v : Bool)
  /-- R235: At the end of the tick of S, the units that feed the queue wait for older fail bits and then flush their records. -/
  | queueDeadline (t : Nat) (q : Fin 32768)
  /-- R235: Once the flushed records are committed or dropped, DEADLINE is set. -/
  | deadline (t : Nat) (q : Fin 32768)
  /-- R236: Discards every committed granule of a DRAINING or FAULTED queue. -/
  | queueFlush (t : Nat) (r : Requester) (q : Fin 32768) (v : Bool)
  /-- R240: Presented fail bits are coalesced into an update and forwarded to the site's home unit. -/
  | repairPresentation (t : Nat) (q : Fin 4)
  /-- R242: The unit takes an update from its backlog and routes it to counts, cells and must-repair lines. -/
  | repairUpdate (t : Nat) (q : Fin 4)
  /-- R241: Commits repair contexts, resetting those that change. -/
  | contextsCommit (t : Nat) (r : Requester) (q : Fin 4) (crc tt : Nat)
  /-- R246: Resets one context, or every context. -/
  | repairClear (t : Nat) (r : Requester) (q : Fin 4) (v : Nat)
  /-- R245: Writes the report granules of one or every valid context to REPORT_QUEUE in one offer. -/
  | report (t : Nat) (r : Requester) (q : Fin 4) (v : Nat)
  /-- R248: Starts or stops the serial lane of an S-mode channel. -/
  | serEn (t : Nat) (r : Requester) (ch : Fin 144) (v : Bool)
  /-- R251: A due transmit word that is absent is replaced by the fill and counted as an underrun. -/
  | serialFill (t : Nat) (ch : Fin 144)
  /-- R252: Delays the word boundary by one UI in manual alignment. -/
  | bitslip (t : Nat) (r : Requester) (ch : Fin 144) (v : Bool)
  /-- R252: The receiver finds or loses the word boundary by pattern or by line code. -/
  | alignment (t : Nat) (ch : Fin 144) (line : List Bool)
  /-- R254: Clock recovery gains lock. -/
  | cdrLock (t : Nat) (ch : Fin 144)
  /-- R254: Clock recovery loses lock after accumulated phase error. -/
  | lockLoss (t : Nat) (ch : Fin 144)
  /-- R253: One-time adaptation of CTLE and DFE completes after CDR lock. -/
  | rxAdaptDone (t : Nat) (ch : Fin 144) (v : Nat)
  /-- R257: A PRBS write while SER_EN is 1 reseeds the generator and the checker. -/
  | prbsWrite (t : Nat) (r : Requester) (ch : Fin 144) (v : Nat)
  /-- R257: The checker locks after 64 error-free bits, or loses lock and reseeds. -/
  | prbsLock (t : Nat) (ch : Fin 144) (line : List Bool)
  /-- R257: Zeroes BITS and ERRORS. -/
  | errClear (t : Nat) (r : Requester) (ch : Fin 144) (v : Bool)
  /-- R258: Starts an eye scan over EYE_TABLE. -/
  | eyeStart (t : Nat) (r : Requester) (ch : Fin 144) (v : Bool)
  /-- R258: At the end of a point's dwell, its entry and a result are written. -/
  | eyePointEnd (t : Nat) (ch : Fin 144) (errors : Nat)
  /-- R265: Enabling a yard port starts training at DETECT; disabling takes it DOWN. -/
  | yardEnable (t : Nat) (r : Requester) (p : Fin 4) (v : Bool)
  /-- R265: A received TRAIN frame advances the local training step when its condition holds. -/
  | train (t : Nat) (p : Fin 4) (lane : Bool) (frame : List Byte) (adapted : Bool)
  /-- R265: A training step's limit passes and the port goes DOWN, or steps back its rate. -/
  | trainingLimit (t : Nat) (p : Fin 4)
  /-- R266: After READY, the link enters UP and sends CREDIT for every enabled VC. -/
  | linkUp (t : Nat) (p : Fin 4)
  /-- R263: A received frame is HCRC-checked, its Halter field is released and its header is used. -/
  | yardFrame (t : Nat) (p : Fin 4) (frame : List Byte)
  /-- R270: A sequenced DATA frame is accepted in order or NAKed, and its granule half is held for its tag. -/
  | data (t : Nat) (p : Fin 4)
  /-- R267: A CREDIT message updates ENQ_SEQ and CREDIT_SEQ of a VC. -/
  | credit (t : Nat) (p : Fin 4)
  /-- R273: A partner's REKEY is answered with REKEY_ACK, OK if the slot holds a key. -/
  | rekey (t : Nat) (p : Fin 4)
  /-- R273: A REKEY_ACK completes or refuses the rotation. -/
  | rekeyAck (t : Nat) (p : Fin 4)
  /-- R272: A TAG frame verifies the 31 frames before it, releases them, or takes the port DOWN. -/
  | tag (t : Nat) (p : Fin 4)
  /-- R270: A received NAK makes the transmitter replay from ACK. -/
  | nak (t : Nat) (p : Fin 4)
  /-- R270: When ACK has not advanced for 1 µs with frames outstanding, the transmitter replays from ACK. -/
  | replayTimeout (t : Nat) (p : Fin 4)
  /-- R273: Starts a link key rotation by sending REKEY. -/
  | keyRotate (t : Nat) (r : Requester) (p : Fin 4) (v : Bool)
  /-- R274: The port enters DOWN on its first cause, discards held frames and releases credit reservations. -/
  | linkDown (t : Nat) (p : Fin 4) (cause : Fin 10)
  /-- R274: Ten microseconds after DOWN, with AUTO_RETRAIN 1, the port begins DETECT. -/
  | autoRetrain (t : Nat) (p : Fin 4)
  /-- R268: Commits the virtual-channel configuration of a port in DISABLED or DOWN. -/
  | vcCfgCommit (t : Nat) (r : Requester) (p : Fin 4) (crc tt : Nat)
  /-- R273: Commits a link key slot, refused for the active slot while encrypting. -/
  | linkKeyCommit (t : Nat) (r : Requester) (p : Fin 4) (slot : Fin 2) (crc tt : Nat)
  /-- R277: 64 good STATE 7 TRAIN frames carrying the yard's ID set WAKE_SEEN and raise a yard wake event. -/
  | yardWake (t : Nat) (p : Fin 4) (frames : List (List Byte))
  /-- R280: A received Ethernet frame is answered as ARP, ICMP, neighbour solicitation, PTP or Kisko, or is dropped. -/
  | managementFrame (t : Nat) (c : Ctl) (frame : List Byte)
  /-- R281: A wake-pattern frame sets WAKE_SEEN and raises a management wake event. -/
  | managementWake (t : Nat) (c : Ctl) (frame : List Byte)
  /-- R279: A PHY_MODE write takes the link down and restarts auto-negotiation. -/
  | phyMode (t : Nat) (r : Requester) (c : Ctl) (v : Nat)
  /-- R279: The management link goes up or down, and LINK_CHANGE is set. -/
  | mgtLinkChange (t : Nat) (c : Ctl) (up : Bool) (speed : Fin 3)
  /-- R300: A fabric lane port takes a word on VALID and READY and moves buffered words to the channel FIFOs. -/
  | fabricLaneWord (t : Nat) (q : Fin 4) (n : Fin 64)
  /-- R302: A received serial word is delivered to the fabric receive port, or dropped when its buffer is full. -/
  | receivePortWord (t : Nat) (ch : Fin 144)
  /-- R303: A fabric producer port offers a granule to its queue and returns its status. -/
  | queuePortOffer (t : Nat) (q : Fin 4) (k : Fin 2)
  /-- R304: A fabric consumer port takes a presented granule and advances the consumer pointer. -/
  | queuePortTake (t : Nat) (q : Fin 4) (k : Fin 2)
  /-- R304: Binds or unbinds a fabric queue port, subject to consumer conflicts. -/
  | queuePortBind (t : Nat) (r : Requester) (q : Fin 4) (consumer : Bool) (k : Fin 2) (v : Nat)
  /-- R306: A probe SOURCE write selects a new probe point within 1 µs. -/
  | source (t : Nat) (r : Requester) (p : Fin 8) (v : Nat)
  /-- R305: Changes a GPIO input delay within 1 µs. -/
  | idelay (t : Nat) (r : Requester) (g : Fin 48) (v : Nat)
  /-- R312: The loader finds the SYNC word and starts taking packets. -/
  | sync (t : Nat) (bus : List PortEdge)
  /-- R312: The first packet gives format, kind, Paddock, design and target serial. -/
  | header (t : Nat) (bus : List PortEdge)
  /-- R312: Loads the frame locator LOC. -/
  | locate (t : Nat) (bus : List PortEdge)
  /-- R313: Writes n frames at LOC onwards, checking each one and advancing LOC. -/
  | writeFrames (t : Nat) (bus : List PortEdge)
  /-- R312: Writes one frame to N successive addresses while CFG_BUSY is high. -/
  | repeat (t : Nat) (bus : List PortEdge)
  /-- R316: Writes zero-suppressed compressed frames. -/
  | zwrite (t : Nat) (bus : List PortEdge)
  /-- R317: Checks the running CRC-32 of the stream and restarts it. -/
  | crc (t : Nat) (bus : List PortEdge)
  /-- R321: Checks and stores the startup program. -/
  | startup (t : Nat) (bus : List PortEdge)
  /-- R319: Loads and checks a controller firmware image. -/
  | fwload (t : Nat) (bus : List PortEdge)
  /-- R311: Ends the stream; a full stream runs its startup program and a partial stream becomes loadable. -/
  | seal (t : Nat) (bus : List PortEdge)
  /-- R312: A stream packet that does nothing. -/
  | nop (t : Nat) (bus : List PortEdge)
  /-- R318: After a full-stream error, clearing ends, CFG_INIT_N is released and the loader searches for SYNC again. -/
  | configClearDone (t : Nat)
  /-- R322: A startup step that waits until the named lock conditions hold. -/
  | waitLock (t : Nat)
  /-- R322: A WAIT_LOCK timeout halts the startup program with TIMEOUT. -/
  | waitLockTimeout (t : Nat)
  /-- R321: A startup step that waits its time. -/
  | waitTime (t : Nat)
  /-- R320: Releases global set/reset in the masked quadrants. -/
  | releaseGsr (t : Nat)
  /-- R320: Enables block-memory writes in the masked quadrants. -/
  | enableWrites (t : Nat)
  /-- R320: Releases GPIO pads and probes in the masked quadrants. -/
  | releaseGpio (t : Nat)
  /-- R320: Releases the channel and trigger pad-state latches. -/
  | releaseOutputs (t : Nat)
  /-- R319: Releases the named controllers from reset to boot their images. -/
  | startMc (t : Nat)
  /-- R321: Releases CFG_DONE. -/
  | doneStep (t : Nat)
  /-- R321: Last startup step; DEVICE_STATE becomes Active. -/
  | endStep (t : Nat)
  /-- R323: Opens a partial stream into a Paddock's shadow plane and clears it. -/
  | paddockStreamOpen (t : Nat) (r : Requester) (p : Fin 24) (total : Nat)
  /-- R323: Discards a LOADED shadow plane. -/
  | shadowDiscard (t : Nat) (r : Requester) (p : Fin 24) (v : Bool)
  /-- R326: Arms a Paddock swap at SWAP_AT. -/
  | swapArm (t : Nat) (r : Requester) (p : Fin 24) (v : Bool)
  /-- R87: Cancels a pending Paddock swap. -/
  | swapCancel (t : Nat) (r : Requester) (p : Fin 24) (v : Bool)
  /-- R327: At E0, the live and shadow planes exchange, with persistent state kept. -/
  | paddockSwap (t : Nat) (p : Fin 24)
  /-- R328: After HOLD_CYCLES, the border outputs show the new logic. -/
  | holdEnd (t : Nat) (p : Fin 24)
  /-- R331: Runs a readback audit of the named plane. -/
  | auditStart (t : Nat) (r : Requester) (v : Bool)
  /-- R331: An audit ends and compares its CRC with the reference, setting AUDIT_MISMATCH on a difference. -/
  | auditComplete (t : Nat) (changed : Option (BitVec 32))
  /-- R331: Every AUTO_PERIOD ms, the next live region is audited. -/
  | autoAudit (t : Nat)
  /-- R335: A source stop decodes a request, reserves its response and injects it, or completes it with DECODE. -/
  | networkRequest (t : Nat) (src : Fin 98) (sport : Fin 16) (write : Bool) (addr n : Nat) (data : List Byte)
  /-- R347: A destination stop delivers a packet, or answers ISOLATED, FENCED or GATED itself. -/
  | packetEjection (t : Nat) (src dst : Fin 98) (cls : Fin 3) (how : Tether)
  /-- R335: A response reaches its requester and completes the request. -/
  | response (t : Nat) (src dst : Fin 98)
  /-- R345: An on-demand reservation request is queued and granted from the pool in FIFO order. -/
  | rsvReq (t : Nat) (src dst : Fin 98)
  /-- R345: A grant lets the source inject its packet in class DEMAND. -/
  | rsvGrant (t : Nat) (src dst : Fin 98)
  /-- R344: Freed standing credits return to the source in a control flit. -/
  | creditReturn (t : Nat) (r : Fin 2048)
  /-- R340: A turn credit returns over its credit wire after its flit leaves the turn buffer. -/
  | turnCreditReturn (t : Nat) (rs : Fin 98) (y : Fin 4) (cls : Fin 3)
  /-- R343: Commits the standing reservations. -/
  | standing (t : Nat) (r : Requester) (crc tt : Nat)
  /-- R350: Moves a ring stop to DRAINING and sends FENCE notices. -/
  | fence (t : Nat) (rs : Fin 98)
  /-- R351: A source stop stops using the reservation and sends FENCE_ACK. -/
  | fenceNotice (t : Nat) (src dst : Fin 98)
  /-- R351: Arrives at the fenced stop, which enters FENCED once its drain conditions hold. -/
  | fenceAck (t : Nat) (src dst : Fin 98)
  /-- R351: When FENCED is not reached in DRAIN_LIMIT, the ports still working are isolated. -/
  | drainLimit (t : Nat) (rs : Fin 98)
  /-- R351: Returns a stop to OPEN, sends UNFENCE notices and returns the held credits. -/
  | unfence (t : Nat) (rs : Fin 98)
  /-- R348: A flit left untaken for STALL_LIMIT isolates its port. -/
  | stallLimit (t : Nat) (rs : Fin 98) (port : Fin 16)
  /-- R348: A request held unanswered for RESP_LIMIT isolates the port. -/
  | respLimit (t : Nat) (rs : Fin 98) (port : Fin 16)
  /-- R349: A request without a response in REQ_LIMIT completes with TIMEOUT. -/
  | reqLimit (t : Nat) (rs : Fin 98)
  /-- R348: Host isolation of a port. -/
  | isolate (t : Nat) (r : Requester) (rs : Fin 98) (v : Nat)
  /-- R348: Ends a port's isolation if its shed has been reset since. -/
  | deisolate (t : Nat) (r : Requester) (rs : Fin 98) (v : Nat)
  /-- R352: Rebinds a port's target at the next packet boundary. -/
  | binding (t : Nat) (r : Requester) (rs : Fin 98) (crc tt : Nat)
  /-- R341: A block raises an event bit that travels to its controller's stop. -/
  | networkEvent (t : Nat) (rs : Fin 98) (port : Fin 16)
  /-- R355: Initialises all eight LPDDR4X channels, or returns them to OFF. -/
  | memEnable (t : Nat) (r : Requester) (v : Bool)
  /-- R355: An initialisation step passing its bound fails the channel. -/
  | trainingStepTimeout (t : Nat) (m : Fin 8) (step : Fin 7)
  /-- R355: Initialisation ends and MEM_STATE becomes READY. -/
  | memInitComplete (t : Nat)
  /-- R356: Every RETRAIN_INTERVAL, the DQS oscillator is read and the write delays are corrected. -/
  | retrainInterval (t : Nat) (m : Fin 8) (drift : Int)
  /-- R356: A 64 ms periodic ZQ calibration latch. -/
  | zqLatch (t : Nat) (m : Fin 8)
  /-- R357: A per-bank refresh becomes due and is issued or postponed. -/
  | refreshInterval (t : Nat) (m : Fin 8) (waiting : Bool)
  /-- R357: Polls MR4 every 4 ms and sets HOT on a high refresh rate. -/
  | mr4Poll (t : Nat) (m : Fin 8) (code : Nat)
  /-- R367: A line read is checked, decrypted and completed in the order of R364. -/
  | memoryRead (t : Nat) (addr lines lat wait : Nat)
  /-- R367: A partial line write is checked, merged and re-encrypted, or marks the line poisoned. -/
  | partialWrite (t : Nat) (addr : Nat) (bytes : List Byte) (lat wait : Nat)
  /-- R368: A full-line write is written without a read and clears poison. -/
  | fullLineWrite (t : Nat) (addr : Nat) (bytes : List Byte) (lat wait : Nat)
  /-- R366: A MINOR overflow triggers re-encryption of the page under MAJOR + 1. -/
  | pageReencryption (t : Nat) (addr : Nat) (bytes : List Byte)
  /-- R366: Page re-encryption completes and the waiting accesses proceed. -/
  | pageReencryptionDone (t : Nat) (page : Nat) (wait : Nat)
  /-- R361: Commits the protection regions. -/
  | regions (t : Nat) (r : Requester) (crc tt : Nat)
  /-- R363: Initialisation of a new region completes, and INIT_STATUS is set. -/
  | regionInitDone (t : Nat) (e : Fin 16) (wait : Nat)
  /-- R364: A WINDOW commit writes memory at WINDOW_ADDR. -/
  | window (t : Nat) (r : Requester) (crc tt : Nat)
  /-- R374: Commits a KID key, making the KID ACTIVE. -/
  | key (t : Nat) (r : Requester) (k : Fin 64) (crc tt : Nat)
  /-- R374: Starts retiring a KID. -/
  | retire (t : Nat) (r : Requester) (k : Fin 64) (v : Bool)
  /-- R374: The cache flush ends and the KID becomes RETIRED. -/
  | retireFlushEnd (t : Nat) (k : Fin 64)
  /-- R375: Starts a re-key walk from OLD to NEW. -/
  | walkStart (t : Nat) (r : Requester)
  /-- R375: Stops the walk after its present page. -/
  | walkAbort (t : Nat) (r : Requester)
  /-- R375: The walker re-keys one page and advances WALK_PTR. -/
  | walkPage (t : Nat) (wait : Nat)
  /-- R376: Commits the Grind stream descriptors. -/
  | streamsCommit (t : Nat) (r : Requester) (q : Fin 4) (crc tt : Nat)
  /-- R378: A port discards its words and restarts decompression from BASE. -/
  | portRewind (t : Nat) (q : Fin 4) (k : Fin 512)
  /-- R378: A read line of a compressed stream arrives and is decompressed into the extent. -/
  | grindLine (t : Nat) (q : Fin 4) (k : Fin 512)
  /-- R378: A stream port delivers one word to its engine, or stalls it. -/
  | streamWordTake (t : Nat) (q : Fin 4) (k : Fin 512)
  /-- R386: After reset, every array is marched and soft-repaired. -/
  | startupMarch (t : Nat)
  /-- R386: The start-up march ends, with its failures recorded. -/
  | startupMarchDone (t : Nat) (x : MarchFinds)
  /-- R387: Starts a march on request. -/
  | marchStart (t : Nat) (r : Requester) (v : Bool)
  /-- R387: A march on request ends with its status and repairs. -/
  | marchDone (t : Nat) (found first : Nat) (left : List Nat)
  /-- R388: Commits the scrub schedule. -/
  | scrubProgram (t : Nat) (r : Requester) (crc tt : Nat)
  /-- R389: The patrol checks one unit and writes corrections back. -/
  | patrolUnit (t : Nat) (ups : List (Nat × Nat × Nat)) (errs : List PatrolErr) (busy : List Nat) (wait : Nat)
  /-- R390: A credit held for FORCE_AFTER forces an engine stall to patrol. -/
  | forcedSteal (t : Nat) (data : Bool) (slot : Fin 528)
  /-- R410: A WAIT step of the scrub schedule ends. -/
  | scrubWaitEnd (t : Nat)
  /-- R393: At the end of each gate, the CLKREF count is judged good or bad. -/
  | clkrefGate (t count : Nat)
  /-- R394: The missing-edge detector fires when no CLKREF rising edge has arrived for 20 to 30 ns. -/
  | missingEdge (t : Nat)
  /-- R394: After STABLE_GATES good gates, CLKREF is judged stable. -/
  | clkrefStable (t : Nat)
  /-- R402: On loss of CLKREF, pads are latched, schedules abort, engines stop and the device enters the safe state. -/
  | clkrefLoss (t : Nat)
  /-- R403: After CLKREF is stable again, the PLLs lock, domains restart and memories exit self-refresh. -/
  | clkrefRecovery (t : Nat)
  /-- R403: Releases holds that a CLKREF loss or a PLL unlock engaged. -/
  | padRelease (t : Nat) (r : Requester) (v : Bool)
  /-- R395: A PLL locks, and its domains become READY. -/
  | pllLock (t : Nat) (n : Fin 51)
  /-- R404: A PLL loses lock while CLKREF is stable, with the outcome of Table 15.4. -/
  | pllUnlock (t : Nat) (n : Fin 51)
  /-- R398: Commits the domain enable bits if every change is allowed. -/
  | clkEnable (t : Nat) (r : Requester) (crc tt : Nat)
  /-- R401: Switches a global or regional clock source glitch-free. -/
  | src (t : Nat) (r : Requester) (w : ClockSet) (v : Nat)
  /-- R400: Writes an FPLL multiplier or divider and relocks it. -/
  | fpllSetting (t : Nat) (r : Requester) (f : Fin 4) (divider : Bool) (v : Nat)
  /-- R409: Fences, resets and unfences one shed. -/
  | shedReset (t : Nat) (r : Requester) (sh : Fin 98) (v : Bool)
  /-- R410: A shed-program step that fences the named sheds and waits until they are FENCED. -/
  | fenceStep (t : Nat)
  /-- R410: A shed-program step that unfences the named sheds. -/
  | unfenceStep (t : Nat)
  /-- R410: A shed-program step that moves the named sheds to a state. -/
  | setShed (t : Nat)
  /-- R410: A shed-program step that waits its time. -/
  | shedWait (t : Nat)
  /-- R416: The commit point of a sleep entry. -/
  | commit (t : Nat)
  /-- R410: A shed-program step that writes DEVICE_STATE. -/
  | setState (t : Nat)
  /-- R410: A shed program ends, and program 2 runs if a wake is pending. -/
  | programEnd (t : Nat)
  /-- R411: Commits a shed program. -/
  | shedProgramCommit (t : Nat) (r : Requester) (k : Fin 4) (crc tt : Nat)
  /-- R414: Arms a sleep entry at SLEEP_AT. -/
  | sleepArm (t : Nat) (r : Requester) (v : Bool)
  /-- R87: Cancels an armed sleep entry. -/
  | sleepCancel (t : Nat) (r : Requester) (v : Bool)
  /-- R414: At S, program 0 or 1 runs. -/
  | sleepEntry (t : Nat)
  /-- R416: A wake event aborts an entry, is latched, starts program 2 or is absorbed. -/
  | wakeEvent (t : Nat)
  /-- R415: Wake source 0. -/
  | wakeRequest (t : Nat) (r : Requester) (v : Bool)
  /-- R412: Runs program 3. -/
  | runUser (t : Nat) (r : Requester) (v : Bool)
  /-- R419: An SE read that draws a fresh debug nonce. -/
  | challenge (t : Nat) (r : Requester)
  /-- R419: A correct debug response raises DEBUG_LEVEL to 2; a failed one is counted. -/
  | responseWrite (t : Nat) (r : Requester) (crc tt : Nat)
  /-- R419: Returns DEBUG_LEVEL to 1. -/
  | debugLock (t : Nat) (r : Requester) (v : Bool)
  /-- R426: A debug-port READ peeks an address without side effects. -/
  | debugRead (t : Nat) (tap : Bool)
  /-- R420: A debug-port WRITE is performed as a write of the controller in DBG_AS. -/
  | debugWrite (t : Nat) (tap : Bool)
  /-- R421: Returns debug level, device state, run states and configuration state. -/
  | debugStatus (t : Nat) (tap : Bool)
  /-- R421: A RESET transaction at level 2 causes a pin reset 10 µs after its reply. -/
  | debugReset (t : Nat) (tap : Bool) (mode : Fin 4) (bad : List (Fin 5))
  /-- R423: A TAP Update-DR issues the debug request held in the DBG register. -/
  | dbg (t : Nat) (req : List Byte)
  /-- R423: A TAP instruction takes effect at Update-IR, or is blocked. -/
  | tapInstruction (t : Nat) (opcode : BitVec 8)
  /-- R425: A one-wire BREAK begins a frame and abandons any frame in progress. -/
  | break (t : Nat)
  /-- R425: A one-wire request frame with a good CRC is executed and its reply is returned in slots. -/
  | oneWireFrame (t : Nat) (frame : List Byte)
  /-- R428: Halts a controller at an instruction boundary. -/
  | haltReq (t : Nat) (r : Requester) (x : Ctl) (v : Bool)
  /-- R428: Resumes a halted controller at DPC. -/
  | resume (t : Nat) (r : Requester) (x : Ctl) (v : Bool)
  /-- R428: Executes one controller instruction and halts again. -/
  | step (t : Nat) (r : Requester) (x : Ctl) (v : Bool)
  /-- R431: A halt takes effect, sets DEBUG_ABSENT and interrupts the partner. -/
  | controllerHalt (t : Nat) (x : Ctl) (dpc : Nat) (gpr : List Byte)
  /-- R429: A controller address comparator matches and halts or traces. -/
  | comparatorMatch (t : Nat) (x : Ctl) (how : McAccess) (addr : Nat) (first : Bool)
  /-- R430: A halt held back by a locked sequence is taken after 64 MC cycles. -/
  | lockedSequenceLimit (t : Nat) (x : Ctl) (dpc : Nat) (gpr : List Byte)
  /-- R432: Reloads the watchdog. -/
  | kick (t : Nat) (r : Requester) (x : Ctl) (v : Nat)
  /-- R432: Enables the watchdog; it cannot then be cleared. -/
  | watchdogEnable (t : Nat) (r : Requester) (x : Ctl) (v : Bool)
  /-- R432: The watchdog reaches PRETIMEOUT and interrupts its controller. -/
  | pretimeout (t : Nat) (x : Ctl)
  /-- R432: The watchdog expires and resets its controller's shed. -/
  | watchdogExpiry (t : Nat) (x : Ctl)
  /-- R434: Halts a running engine and its gang. -/
  | engHalt (t : Nat) (r : Requester) (v : Nat)
  /-- R434: Resumes a halted engine gang. -/
  | engResume (t : Nat) (r : Requester) (v : Nat)
  /-- R434: Steps a halted engine gang by one instruction. -/
  | engStep (t : Nat) (r : Requester) (v : Nat)
  /-- R436: Starts or stops trace capture. -/
  | traceRun (t : Nat) (r : Requester) (v : Bool)
  /-- R436: A trace record enters the trace FIFO, or is lost when the FIFO is full. -/
  | traceRecord (t : Nat) (x : Ctl) (kind : Fin 3) (target : Nat)
  /-- R436: The trace FIFO drains after the trace stops. -/
  | traceDrainEnd (t : Nat)
  /-- R436: Writes a class 5 trace record. -/
  | traceUser (t : Nat) (r : Requester) (v : Nat)
  /-- R437: Zeroes an event counter. -/
  | counterClear (t : Nat) (r : Requester) (k : Fin 16) (v : Bool)
  /-- R437: Copies all event counts in one cycle. -/
  | snap (t : Nat) (r : Requester) (v : Bool)
  /-- R446: Power-on reset ends once the rails have been above their thresholds for 2 ms, and the pads take their start-up holds. -/
  | powerOnReset (t : Nat) (mode : Fin 4) (bad : List (Fin 5))
  /-- R424: A low pulse of 20 µs or more on RESET_N resets the device. -/
  | pinReset (t width : Nat) (mode : Fin 4) (bad : List (Fin 5))
  /-- R449: A rail leaves its range and sets SUPPLY_WARN. -/
  | supplyOutOfRange (t : Nat) (rail : Fin 8)
  /-- R449: A rail below its reset threshold for 1 µs asserts power-on reset. -/
  | supplyBelowThreshold (t : Nat) (rail : Fin 8)
  /-- R449: VDDQ_MEM below 0.54 V fails every memory channel that is not OFF. -/
  | vddqLow (t : Nat)
  /-- R450: Every 100 µs TEMP is refreshed, and FAULT bit 2 is set at TEMP_WARN. -/
  | tempRefresh (t : Nat) (sensors : List Int) (sense : List Nat)
  /-- R450: At 120 °C, pads are latched, engines stop and channels park. -/
  | thermalTrip (t : Nat)
  /-- R450: Releases the trip holds once the junction has cooled. -/
  | thermRelease (t : Nat) (r : Requester) (v : Bool)
  /-- R269: At each transmit frame slot of a yard port, the transmitter fills the slot by the priority of R269 and sends the shifted Halter field of R212. -/
  | yardFrameSlot (t : Nat) (p : Fin 4)
  /-- R358: A memory controller finishes its self-refresh exit and the repeat of steps 2 and 7, leaves SELF_REFRESH and accepts accesses again. -/
  | selfRefreshExit (t : Nat) (m : Fin 8)
  /-- R323: The clear of a Paddock shadow plane after an open ends, and the segments that arrived during it complete. -/
  | shadowClearDone (t : Nat) (p : Fin 24)
  /-- R54: A Kisko operation record that has not completed at its owner within 1 ms of dispatch completes with TIMEOUT. -/
  | recordTimeout (t : Nat) (slot : Fin 64) (rcd : List Byte)
  /-- R421: A debug-port request not answered within 20 µs completes with TIMEOUT. -/
  | debugRequestTimeout (t : Nat) (tap : Bool)
  /-- R449: A rail returns to its range, which sets its SUPPLY_OK bit and, for VDDQ_MEM above 0.54 V, clears VDDQ_LOW. -/
  | supplyInRange (t : Nat) (rail : Fin 8)
  /-- R95: The trailing edge of a trigger pulse ends the pulse after WIDTH; after the last pulse the train ends and OUT_STATE returns to idle. -/
  | pulseEnd (t : Nat) (u : Fin 16)
  /-- R106: At a queued drive or enable edge's ball instant, DRV or DEN makes its transition if the level changes. -/
  | driveEdge (t : Nat) (ch : Fin 144) (den : Bool)
  /-- R127: The change of a channel between P-mode and S-mode ends and the pad-state latch releases, so the channel leaves LATCHED. -/
  | modeChangeDone (t : Nat) (ch : Fin 144)
  /-- R296: A block memory port access by fabric logic reads or writes the array, with SECDED correction, port-collision rules and failed-memory behaviour. -/
  | blockMemoryAccess (t : Nat) (m : Fin 2304) (upsets : List (Nat × Nat))
  /-- R250: When an S-mode transmit word is due and present, the channel consumes it from its FIFOs and serialises it under its line code. -/
  | serialTransmitWord (t : Nat) (ch : Fin 144)
  deriving DecidableEq, Repr

end Sys2Proof
end

