-- ==== Sys2Proof/Machine/Crypto.lean ====
section
/-! DEFINITION. The checks and ciphers that `spec/` names by their standards: CRC-32 (R42), CRC-16 (R75), CRC-8 (R425),
SHA-256 and HMAC (R53), AES-256 and GHASH (R365), and the Reed-Solomon check over GF(2^16) of *Table 13.4*. -/

namespace Sys2Proof.Machine

/-! ### Cyclic redundancy checks -/

/-- One shift of the reflected CRC-32 register of R42. -/
def crc32Shift (r : Nat) : Nat := if r % 2 = 1 then (r / 2) ^^^ 0xEDB88320 else r / 2

/-- CRC-32 register after one byte. -/
def crc32Byte (r : Nat) (b : Byte) : Nat := Nat.repeat crc32Shift 8 (r ^^^ b.toNat)

/-- CRC-32 of R42: polynomial 0x04C1_1DB7 reflected, initial value and final inversion all ones. -/
def crc32 (l : List Byte) : Nat := l.foldl crc32Byte 0xFFFFFFFF ^^^ 0xFFFFFFFF

/-- CRC-16 register after one bit (R75): polynomial 0x1021, not reflected. -/
def crc16Bit (r : Nat) (b : Bool) : Nat :=
  let top := r.testBit 15
  let s := r * 2 % 0x10000
  if top = b then s else s ^^^ 0x1021

/-- CRC-16 of R75 over bits in transmission order, from 0xFFFF. -/
def crc16 (l : List Bool) : Nat := l.foldl crc16Bit 0xFFFF

/-- One shift of the CRC-8 register of R425. -/
def crc8Shift (r : Nat) : Nat := if r.testBit 7 then (r * 2 % 256) ^^^ 0x07 else r * 2 % 256

/-- CRC-8 of R425: polynomial 0x07, initial value 0, each byte most significant bit first. -/
def crc8 (l : List Byte) : Nat := l.foldl (fun r b => Nat.repeat crc8Shift 8 (r ^^^ b.toNat)) 0

/-! ### SHA-256 and HMAC -/

/-- The 64 round constants of FIPS 180-4. -/
def shaK : List (BitVec 32) :=
  [0x428a2f98, 0x71374491, 0xb5c0fbcf, 0xe9b5dba5, 0x3956c25b, 0x59f111f1, 0x923f82a4, 0xab1c5ed5,
   0xd807aa98, 0x12835b01, 0x243185be, 0x550c7dc3, 0x72be5d74, 0x80deb1fe, 0x9bdc06a7, 0xc19bf174] ++
  [0xe49b69c1, 0xefbe4786, 0x0fc19dc6, 0x240ca1cc, 0x2de92c6f, 0x4a7484aa, 0x5cb0a9dc, 0x76f988da,
   0x983e5152, 0xa831c66d, 0xb00327c8, 0xbf597fc7, 0xc6e00bf3, 0xd5a79147, 0x06ca6351, 0x14292967] ++
  [0x27b70a85, 0x2e1b2138, 0x4d2c6dfc, 0x53380d13, 0x650a7354, 0x766a0abb, 0x81c2c92e, 0x92722c85,
   0xa2bfe8a1, 0xa81a664b, 0xc24b8b70, 0xc76c51a3, 0xd192e819, 0xd6990624, 0xf40e3585, 0x106aa070] ++
  [0x19a4c116, 0x1e376c08, 0x2748774c, 0x34b0bcb5, 0x391c0cb3, 0x4ed8aa4a, 0x5b9cca4f, 0x682e6ff3,
   0x748f82ee, 0x78a5636f, 0x84c87814, 0x8cc70208, 0x90befffa, 0xa4506ceb, 0xbef9a3f7, 0xc67178f2]

/-- The initial hash value of FIPS 180-4. -/
def shaInit : List (BitVec 32) :=
  [0x6a09e667, 0xbb67ae85, 0x3c6ef372, 0xa54ff53a, 0x510e527f, 0x9b05688c, 0x1f83d9ab, 0x5be0cd19]

/-- Big-endian 32-bit words of a byte list. -/
def beWords : List Byte → List (BitVec 32)
  | a :: b :: c :: d :: r => (a ++ b ++ c ++ d : BitVec 32) :: beWords r
  | _ => []

/-- The bytes of a 32-bit word, most significant first. -/
def beBytes32 (w : BitVec 32) : List Byte :=
  [w.extractLsb' 24 8, w.extractLsb' 16 8, w.extractLsb' 8 8, w.extractLsb' 0 8]

/-- Extend the message schedule, held newest word first, by `n` words. -/
def shaExtend : Nat → List (BitVec 32) → List (BitVec 32)
  | 0, w => w
  | n + 1, w =>
    let a := w.getD 14 0
    let b := w.getD 1 0
    let s0 := a.rotateRight 7 ^^^ a.rotateRight 18 ^^^ (a >>> 3)
    let s1 := b.rotateRight 17 ^^^ b.rotateRight 19 ^^^ (b >>> 10)
    shaExtend n ((w.getD 15 0 + s0 + w.getD 6 0 + s1) :: w)

/-- One SHA-256 round on the eight working variables. -/
def shaRound (v : List (BitVec 32)) (kw : BitVec 32 × BitVec 32) : List (BitVec 32) :=
  match v with
  | [a, b, c, d, e, f, g, h] =>
    let s1 := e.rotateRight 6 ^^^ e.rotateRight 11 ^^^ e.rotateRight 25
    let ch := (e &&& f) ^^^ (~~~e &&& g)
    let t1 := h + s1 + ch + kw.1 + kw.2
    let s0 := a.rotateRight 2 ^^^ a.rotateRight 13 ^^^ a.rotateRight 22
    let mj := (a &&& b) ^^^ (a &&& c) ^^^ (b &&& c)
    [t1 + s0 + mj, a, b, c, d + t1, e, f, g]
  | _ => v

/-- The hash value after one 64-byte block. -/
def shaBlock (h : List (BitVec 32)) (blk : List Byte) : List (BitVec 32) :=
  let w := (shaExtend 48 (beWords blk).reverse).reverse
  List.zipWith (· + ·) h ((shaK.zip w).foldl shaRound h)

/-- Fold the blocks of a padded message; the first argument bounds their number. -/
def shaBlocks : Nat → List (BitVec 32) → List Byte → List (BitVec 32)
  | 0, h, _ => h
  | n + 1, h, l => shaBlocks n (shaBlock h (l.take 64)) (l.drop 64)

/-- SHA-256 of FIPS 180-4. -/
def sha256 (m : List Byte) : List Byte :=
  let n := m.length
  let p := m ++ [0x80#8] ++ fill ((119 - n % 64) % 64) 0 ++ (leBytes 8 (n * 8)).reverse
  (shaBlocks (p.length / 64) shaInit p).flatMap beBytes32

/-- HMAC-SHA-256 of FIPS 198-1 (R53); an empty key is the empty HMAC key of R56. -/
def hmac (key msg : List Byte) : List Byte :=
  let k0 := if key.length > 64 then sha256 key else key
  let k := k0 ++ fill (64 - k0.length) 0
  sha256 (k.map (· ^^^ 0x5C#8) ++ sha256 (k.map (· ^^^ 0x36#8) ++ msg))

/-- The ASCII bytes of a label, without a terminator. -/
def ascii (s : String) : List Byte := s.toList.map fun c => BitVec.ofNat 8 c.toNat

/-! ### AES-256 -/

/-- Multiplication by x in the AES field. -/
def xtime (b : Byte) : Byte := if b.getLsbD 7 then (b <<< 1) ^^^ 0x1B#8 else b <<< 1

/-- Product in the AES field; the first argument counts the bits of `b` still to take. -/
def aesMulAux : Nat → Byte → Byte → Byte → Byte
  | 0, _, _, acc => acc
  | n + 1, a, b, acc => aesMulAux n (xtime a) (b >>> 1) (if b.getLsbD 0 then acc ^^^ a else acc)

/-- Product in the AES field. -/
def aesMul (a b : Byte) : Byte := aesMulAux 8 a b 0

/-- Multiplicative inverse in the AES field, as the 254th power; 0 for 0. -/
def aesInv (a : Byte) : Byte :=
  let a2 := aesMul a a
  let a4 := aesMul a2 a2
  let a8 := aesMul a4 a4
  let a16 := aesMul a8 a8
  let a32 := aesMul a16 a16
  let a64 := aesMul a32 a32
  let a128 := aesMul a64 a64
  aesMul (aesMul (aesMul a2 a4) (aesMul a8 a16)) (aesMul (aesMul a32 a64) a128)

/-- The AES S-box of FIPS 197. -/
def aesSbox (a : Byte) : Byte :=
  let i := aesInv a
  i ^^^ i.rotateLeft 1 ^^^ i.rotateLeft 2 ^^^ i.rotateLeft 3 ^^^ i.rotateLeft 4 ^^^ 0x63#8

/-- Extend the AES-256 key schedule, held newest word (4 bytes) first; `i` is the number of the next word. -/
def aesExpand : Nat → Nat → Byte → List (List Byte) → List (List Byte)
  | 0, _, _, w => w
  | n + 1, i, rcon, w =>
    let prev := w.getD 0 []
    let old := w.getD 7 []
    let t :=
      if i % 8 = 0 then
        match prev.map aesSbox with
        | [a, b, c, d] => [b ^^^ rcon, c, d, a]
        | x => x
      else if i % 8 = 4 then prev.map aesSbox
      else prev
    aesExpand n (i + 1) (if i % 8 = 0 then xtime rcon else rcon) (List.zipWith (· ^^^ ·) t old :: w)

/-- Group a list in chunks of four, at most `n` of them. -/
def chunks4 : Nat → List Byte → List (List Byte)
  | 0, _ => []
  | n + 1, l => l.take 4 :: chunks4 n (l.drop 4)

/-- The 15 round keys of 16 bytes, in order. -/
def aesKeys (key : List Byte) : List (List Byte) :=
  let w := (aesExpand 52 8 1 (chunks4 8 key).reverse).reverse
  (List.range 15).map fun r => (slice4 w r).flatten
where
  slice4 (w : List (List Byte)) (r : Nat) : List (List Byte) := (w.drop (4 * r)).take 4

/-- ShiftRows on a 16-byte state in address order. -/
def aesShift (s : List Byte) : List Byte :=
  (List.range 16).map fun i => s.getD ((i + 4 * (i % 4)) % 16) 0

/-- MixColumns on one column. -/
def aesMixCol : List Byte → List Byte
  | [a, b, c, d] =>
    [xtime a ^^^ (xtime b ^^^ b) ^^^ c ^^^ d, a ^^^ xtime b ^^^ (xtime c ^^^ c) ^^^ d,
     a ^^^ b ^^^ xtime c ^^^ (xtime d ^^^ d), (xtime a ^^^ a) ^^^ b ^^^ c ^^^ xtime d]
  | x => x

/-- Add (exclusive or) two byte lists. -/
def xorBytes (a b : List Byte) : List Byte := List.zipWith (· ^^^ ·) a b

/-- The middle rounds of AES, one per round key but the last. -/
def aesRounds : List (List Byte) → List Byte → List Byte
  | [], s => s
  | [k], s => xorBytes (aesShift (s.map aesSbox)) k
  | k :: r, s => aesRounds r (xorBytes ((chunks4 4 (aesShift (s.map aesSbox))).flatMap aesMixCol) k)

/-- AES-256 (FIPS 197) of one 16-byte block under a 32-byte key. -/
def aes256 (key blk : List Byte) : List Byte :=
  match aesKeys key with
  | [] => blk
  | k0 :: r => aesRounds r (xorBytes blk k0)

/-! ### GHASH -/

/-- Product in the field of NIST SP 800-38D on 128-bit numbers whose most significant bit is the block's first bit. -/
def gmulAux : Nat → BitVec 128 → BitVec 128 → BitVec 128 → BitVec 128
  | 0, _, _, z => z
  | n + 1, x, v, z =>
    gmulAux n (x <<< 1) (if v.getLsbD 0 then (v >>> 1) ^^^ (0xE1#128 <<< 120) else v >>> 1)
      (if x.getLsbD 127 then z ^^^ v else z)

/-- Product of two GHASH blocks. -/
def gmul (x y : BitVec 128) : BitVec 128 := gmulAux 128 x y 0

/-- A 16-byte block in address order as a 128-bit number, first byte most significant. -/
def blockNat (l : List Byte) : BitVec 128 := BitVec.ofNat 128 (leNat l.reverse)

/-- The 16 bytes of a block number, most significant first. -/
def natBlock (v : BitVec 128) : List Byte := (leBytes 16 v.toNat).reverse

/-- GHASH over a list of blocks under hash key `h`. -/
def ghash (h : BitVec 128) (l : List (BitVec 128)) : BitVec 128 :=
  l.foldl (fun y b => gmul (y ^^^ b) h) 0

/-! ### The Reed-Solomon check of *Table 13.4* -/

/-- Product in GF(2^16) with x^16 + x^12 + x^3 + x + 1. -/
def rsMulAux : Nat → Nat → Nat → Nat → Nat
  | 0, _, _, acc => acc
  | n + 1, a, b, acc =>
    let a2 := if a.testBit 15 then (a * 2 % 0x10000) ^^^ 0x100B else a * 2
    rsMulAux n a2 (b / 2) (if b % 2 = 1 then acc ^^^ a else acc)

/-- Product in GF(2^16). -/
def rsMul (a b : Nat) : Nat := rsMulAux 16 a b 0

/-- Little-endian 16-bit symbols of a byte list. -/
def symbols16 : List Byte → List Nat
  | a :: b :: r => (a.toNat + 256 * b.toNat) :: symbols16 r
  | _ => []

/-- The value of a codeword polynomial at `x`, first symbol of highest degree. -/
def rsEval (x : Nat) (l : List Nat) : Nat := l.foldl (fun a s => rsMul a x ^^^ s) 0

/-- α to the power n. -/
def rsPow : Nat → Nat
  | 0 => 1
  | n + 1 => rsMul 2 (rsPow n)

/-- Inverse in GF(2^16): the power 2^16 − 2, by 15 squarings. -/
def rsInvAux : Nat → Nat → Nat → Nat
  | 0, _, acc => acc
  | n + 1, sq, acc => let s := rsMul sq sq; rsInvAux n s (rsMul acc s)

/-- Inverse in GF(2^16); 0 for 0. -/
def rsInv (a : Nat) : Nat := rsInvAux 15 a 1

/-- The two check symbols of a message, generator (x − 1)(x − α): the remainder of m(x)·x² (bytes 4 in number). -/
def rsCheck (msg : List Byte) : List Byte :=
  let m := symbols16 msg
  -- r(1) = r1 + r0 = m(1), r(α) = r1·α + r0 = m(α)·α²
  let s0 := rsEval 1 m
  let s1 := rsMul (rsEval 2 m) (rsPow 2)
  let r1 := rsMul (s0 ^^^ s1) (rsInv 3)
  let r0 := s0 ^^^ r1
  leBytes 2 r1 ++ leBytes 2 r0

/-- The outcome of the Reed-Solomon check (R367). -/
inductive RsResult where
  | clean
  /-- one symbol corrected; the whole codeword as corrected -/
  | corrected (l : List Byte)
  | uncorrectable
  deriving DecidableEq, Repr

/-- The place, counted from the last symbol, whose locator α^k equals `x`, below `n`; `none` if there is none. -/
def rsLocate (x : Nat) : Nat → Nat → Nat → Option Nat
  | 0, _, _ => none
  | n + 1, k, p => if p = x then some k else rsLocate x n (k + 1) (rsMul 2 p)

/-- Check a codeword (message bytes followed by its 4 check bytes) and correct an error confined to one symbol. -/
def rsDecode (cw : List Byte) : RsResult :=
  let s := symbols16 cw
  let s0 := rsEval 1 s
  let s1 := rsEval 2 s
  if s0 = 0 ∧ s1 = 0 then .clean
  else if s0 = 0 ∨ s1 = 0 then .uncorrectable
  else
    match rsLocate (rsMul s1 (rsInv s0)) s.length 0 1 with
    | none => .uncorrectable
    | some k =>
      let i := s.length - 1 - k
      .corrected (splice cw (2 * i) (leBytes 2 (s.getD i 0 ^^^ s0)))

end Sys2Proof.Machine
end

