-- ==== Sys2Proof/Config.lean ====
section
/-! DEFINITION. What an implementation fixes or leaves open: the figures of time, and the free values. A free value is an
opaque constant with no body, applied to the model's own draw counter (`State.draws`), so that no proof can see what it is;
each is named in the assumption log. -/

namespace Sys2Proof.Config

/-- The model's unit of time is the fine step of R83, 0.5 ps: one TT tick is 20,000 units. -/
def tickUnits : Nat := 20000

/-- One word clock (800 MHz) in units of 0.5 ps. -/
def wordUnits : Nat := 2500

/-- One always-on cycle, 25 ns nominal (chapter 15), in units of 0.5 ps. -/
def aonUnits : Nat := 50000

/-- One nanosecond, one microsecond and one millisecond in units of 0.5 ps. -/
def nsUnits : Nat := 2000
def usUnits : Nat := 2000000
def msUnits : Nat := 2000000000

/-- FREE VALUE: the n-th byte drawn from the device's random source (nonces, R55, R419). -/
opaque randomByte : Nat → BitVec 8

/-- FREE VALUE: the n-th number the spec leaves open (a correction, a measurement, an unstated result). -/
opaque freeNat : Nat → Nat

/-- FREE VALUE: the n-th yes-or-no the spec leaves open. -/
opaque freeBool : Nat → Bool

/-- FREE VALUE: a signal of fabric logic that the model does not hold, by instant and signal: what a pad receives, when a status pulse
comes, and a loop of logic without a register. -/
opaque inputBit : Nat → Nat → Bool

end Sys2Proof.Config
end

