-- ==== Sys2Proof/WellFormed.lean ====
section
/-! DEFINITION. Well-formedness of a command: the bounds and relations of its operands that the types do not say. A command that is not
well-formed cannot arrive: its carrier has no room for it. `exec` still answers for one, so no statement need assume it. -/

namespace Sys2Proof

/-- A value fits n bits. -/
def isWord (n v : Nat) : Bool := decide (v < 2 ^ n)

/-- An object's index and subindex (R37). -/
def isObject (idx sub : Nat) : Bool := isWord 16 idx && isWord 8 sub

/-- The CRC-32 and the TT image of a commit (R43). -/
def isCommit (crc tt : Nat) : Bool := isWord 32 crc && isWord 80 tt

/-- Bytes inside the 64-byte alias window of an object (R40). -/
def isWindow (off n : Nat) : Bool := decide (off + n ≤ 64)

/-- The bytes that a packet reads or writes: 1 to 512 (*Table 12.2*). -/
def isTransfer (write : Bool) (n len : Nat) : Bool :=
  let k := if write then len else n
  decide (1 ≤ k) && decide (k ≤ 512)

/-- A step of a schedulable commit. -/
def CommitStep.wf : CommitStep → Bool
  | .commit _ crc tt => isCommit crc tt
  | .effect => true

/-- Whether a command is well-formed. -/
def wellFormed : Instr → Bool
  | .registerWrite _ _ idx sub off bytes => isObject idx sub && isWindow off bytes.length
  | .read _ _ idx sub _ => isObject idx sub
  | .write _ _ idx sub _ _ => isObject idx sub
  | .maskWrite _ _ idx sub _ val mask => isObject idx sub && decide (val.length = mask.length)
  | .segOpen _ _ idx sub total => isObject idx sub && isWord 32 total
  | .segWrite _ _ idx sub _ _ => isObject idx sub
  | .segRead _ _ idx sub _ _ => isObject idx sub
  | .segCommit _ _ idx sub crc tt => isObject idx sub && isCommit crc tt
  | .segAbort _ _ idx sub => isObject idx sub
  | .dataStore _ _ idx sub _ => isObject idx sub
  | .segTransferTimeout _ idx sub => isObject idx sub
  | .streamOpen _ _ _ _ _ => true
  | .streamClose _ _ _ => true
  | .ping _ _ => true
  | .hello _ _ _ _ => true
  | .proof _ _ _ _ => true
  | .close _ _ => true
  | .sessionTimeout _ _ => true
  | .requestDatagram _ _ _ _ _ => true
  | .streamData _ _ _ _ => true
  | .streamAck _ _ _ _ => true
  | .streamRto _ _ => true
  | .claim _ _ => true
  | .offer _ _ v => isWord 64 v
  | .accept _ _ v => isWord 64 v
  | .offerTimeout _ => true
  | .take _ _ v _ => isWord 64 v
  | .handoverRequest _ _ _ => true
  | .heartbeat _ _ _ v => isWord 64 v
  | .heartbeatWindowEnd _ => true
  | .firmwareImageCommit _ _ _ crc tt => isCommit crc tt
  | .keyCommit _ _ _ crc tt => isCommit crc tt
  | .ledgerSnap _ _ _ _ => true
  | .markerFrameSearch _ _ => true
  | .markerFrameSlot _ falls => decide (falls.length = 128)
  | .ttResync _ _ _ => true
  | .scheduledArm _ _ _ _ => true
  | .scheduledCancel _ _ _ _ => true
  | .ptpSync _ _ _ _ _ _ => true
  | .ptpSyncLoss _ _ => true
  | .holdoverLimit _ _ => true
  | .switchArm _ _ _ => true
  | .switchCancel _ _ _ => true
  | .activeDomainSwitch _ => true
  | .slewEnd _ => true
  | .arm _ _ _ _ => true
  | .cancel _ _ _ _ => true
  | .triggerPulse _ _ => true
  | .triggerModeWrite _ _ _ v => isWord 64 v
  | .triggerInputEdge _ _ _ => true
  | .deadtimeEnd _ _ => true
  | .mapCommit _ _ _ crc tt => isCommit crc tt
  | .bankSwitchArm _ _ _ _ => true
  | .bankSwitchCancel _ _ _ _ => true
  | .bankSwitch _ _ => true
  | .fifoOutputSwitch _ _ => true
  | .timingSetsCommit _ _ w => CommitStep.wf w
  | .quadScheduleCommit _ _ w => CommitStep.wf w
  | .vectorBegin _ _ => true
  | .patternStart _ _ => true
  | .strobe _ _ _ => true
  | .channelStop _ _ => true
  | .trimWrite _ _ _ v => isWord 64 v
  | .parkCodeWrite _ _ _ v => isWord 64 v
  | .modeChange _ _ _ v => isWord 64 v
  | .deskewWrite _ _ _ _ v => isWord 64 v
  | .bgcalMeasurement _ _ steps => decide (steps.length = 16)
  | .next _ _ => true
  | .jmp _ _ => true
  | .call _ _ => true
  | .ret _ _ => true
  | .loop _ _ => true
  | .ldlci _ _ => true
  | .ldlc _ _ => true
  | .waittt _ _ => true
  | .waitttRetire _ _ => true
  | .waitc _ _ => true
  | .waitcRetire _ _ => true
  | .stop _ _ => true
  | .site _ _ => true
  | .scrld _ _ => true
  | .hclaim _ _ => true
  | .claimDecision _ _ => true
  | .hrelease _ _ => true
  | .releaseDisarm _ _ => true
  | .lds _ _ => true
  | .sts _ _ => true
  | .mov _ _ => true
  | .add _ _ => true
  | .sub _ _ => true
  | .and _ _ => true
  | .or _ _ => true
  | .xor _ _ => true
  | .shl _ _ => true
  | .shr _ _ => true
  | .cmp _ _ => true
  | .tst _ _ => true
  | .movi _ _ => true
  | .addi _ _ => true
  | .subi _ _ => true
  | .andi _ _ => true
  | .ori _ _ => true
  | .xori _ _ => true
  | .shli _ _ => true
  | .shri _ _ => true
  | .cmpi _ _ => true
  | .tsti _ _ => true
  | .ldk0 _ _ => true
  | .ldk1 _ _ => true
  | .ldk2 _ _ => true
  | .refreshTimer _ _ => true
  | .startArm _ _ _ _ => true
  | .startCancel _ _ _ _ => true
  | .engineStart _ _ => true
  | .stopReq _ _ _ _ => true
  | .programLoad _ _ w => CommitStep.wf w
  | .loadComplete _ _ => true
  | .failedMark _ _ _ _ => true
  | .feedSchedCommit _ _ w => CommitStep.wf w
  | .mac _ _ => true
  | .mmx _ _ => true
  | .mmclr _ _ => true
  | .accrd _ _ => true
  | .mmrd _ _ => true
  | .accset _ _ => true
  | .ldop _ _ => true
  | .switch _ _ => true
  | .resrd _ _ => true
  | .stepResult _ _ => true
  | .dspStateCommit _ _ _ crc tt => isCommit crc tt
  | .table _ w => CommitStep.wf w
  | .siteMask _ _ w => CommitStep.wf w
  | .forceRelease _ _ _ v => isWord 64 v
  | .stickyClear _ _ _ => true
  | .slotWindowEnd _ _ _ => true
  | .failsafeEntry _ => true
  | .clearFailsafe _ _ _ _ => true
  | .sitesCommit _ w => CommitStep.wf w
  | .siteFailsClear _ _ _ => true
  | .chanCfgCommit _ _ _ crc tt => isCommit crc tt
  | .wordRecordClose _ _ _ => true
  | .runIdleExpiry _ _ _ => true
  | .fcFlush _ _ _ _ => true
  | .runEnWrite _ _ _ _ => true
  | .recordOffer _ _ => true
  | .descCommit _ _ _ crc tt => isCommit crc tt
  | .enable _ _ _ _ => true
  | .drainComplete _ _ => true
  | .producerOffer _ _ gran => decide (gran.length = 32)
  | .ringWriteComplete _ _ _ => true
  | .prodDoorbell _ _ _ n => isWord 32 n
  | .consDoorbell _ _ _ n => isWord 32 n
  | .deadlineArm _ _ _ _ => true
  | .deadlineCancel _ _ _ _ => true
  | .queueDeadline _ _ => true
  | .deadline _ _ => true
  | .queueFlush _ _ _ _ => true
  | .repairPresentation _ _ => true
  | .repairUpdate _ _ => true
  | .contextsCommit _ _ _ crc tt => isCommit crc tt
  | .repairClear _ _ _ v => isWord 64 v
  | .report _ _ _ v => isWord 64 v
  | .serEn _ _ _ _ => true
  | .serialFill _ _ => true
  | .bitslip _ _ _ _ => true
  | .alignment _ _ _ => true
  | .cdrLock _ _ => true
  | .lockLoss _ _ => true
  | .rxAdaptDone _ _ v => isWord 64 v
  | .prbsWrite _ _ _ v => isWord 64 v
  | .prbsLock _ _ _ => true
  | .errClear _ _ _ _ => true
  | .eyeStart _ _ _ _ => true
  | .eyePointEnd _ _ _ => true
  | .yardEnable _ _ _ _ => true
  | .train _ _ _ frame _ => decide (frame.length = 42)
  | .trainingLimit _ _ => true
  | .linkUp _ _ => true
  | .yardFrame _ _ frame => decide (frame.length = 42)
  | .data _ _ => true
  | .credit _ _ => true
  | .rekey _ _ => true
  | .rekeyAck _ _ => true
  | .tag _ _ => true
  | .nak _ _ => true
  | .replayTimeout _ _ => true
  | .keyRotate _ _ _ _ => true
  | .linkDown _ _ _ => true
  | .autoRetrain _ _ => true
  | .vcCfgCommit _ _ _ crc tt => isCommit crc tt
  | .linkKeyCommit _ _ _ _ crc tt => isCommit crc tt
  | .yardWake _ _ _ => true
  | .managementFrame _ _ _ => true
  | .managementWake _ _ _ => true
  | .phyMode _ _ _ v => isWord 64 v
  | .mgtLinkChange _ _ _ _ => true
  | .fabricLaneWord _ _ _ => true
  | .receivePortWord _ _ => true
  | .queuePortOffer _ _ _ => true
  | .queuePortTake _ _ _ => true
  | .queuePortBind _ _ _ _ _ v => isWord 64 v
  | .source _ _ _ v => isWord 64 v
  | .idelay _ _ _ v => isWord 64 v
  | .sync _ _ => true
  | .header _ _ => true
  | .locate _ _ => true
  | .writeFrames _ _ => true
  | .repeat _ _ => true
  | .zwrite _ _ => true
  | .crc _ _ => true
  | .startup _ _ => true
  | .fwload _ _ => true
  | .seal _ _ => true
  | .nop _ _ => true
  | .configClearDone _ => true
  | .waitLock _ => true
  | .waitLockTimeout _ => true
  | .waitTime _ => true
  | .releaseGsr _ => true
  | .enableWrites _ => true
  | .releaseGpio _ => true
  | .releaseOutputs _ => true
  | .startMc _ => true
  | .doneStep _ => true
  | .endStep _ => true
  | .paddockStreamOpen _ _ _ total => isWord 32 total
  | .shadowDiscard _ _ _ _ => true
  | .swapArm _ _ _ _ => true
  | .swapCancel _ _ _ _ => true
  | .paddockSwap _ _ => true
  | .holdEnd _ _ => true
  | .auditStart _ _ _ => true
  | .auditComplete _ _ => true
  | .autoAudit _ => true
  | .networkRequest _ _ _ write addr n data => isWord 48 addr && isTransfer write n data.length
  | .packetEjection _ _ _ _ _ => true
  | .response _ _ _ => true
  | .rsvReq _ _ _ => true
  | .rsvGrant _ _ _ => true
  | .creditReturn _ _ => true
  | .turnCreditReturn _ _ _ _ => true
  | .standing _ _ crc tt => isCommit crc tt
  | .fence _ _ => true
  | .fenceNotice _ _ _ => true
  | .fenceAck _ _ _ => true
  | .drainLimit _ _ => true
  | .unfence _ _ => true
  | .stallLimit _ _ _ => true
  | .respLimit _ _ _ => true
  | .reqLimit _ _ => true
  | .isolate _ _ _ v => isWord 64 v
  | .deisolate _ _ _ v => isWord 64 v
  | .binding _ _ _ crc tt => isCommit crc tt
  | .networkEvent _ _ _ => true
  | .memEnable _ _ _ => true
  | .trainingStepTimeout _ _ _ => true
  | .memInitComplete _ => true
  | .retrainInterval _ _ _ => true
  | .zqLatch _ _ => true
  | .refreshInterval _ _ _ => true
  | .mr4Poll _ _ code => isWord 3 code
  | .memoryRead _ addr _ _ _ => isWord 48 addr
  | .partialWrite _ addr bytes _ _ => isWord 48 addr && decide (0 < bytes.length) && decide (addr % 64 + bytes.length ≤ 64)
  | .fullLineWrite _ addr bytes _ _ => isWord 48 addr && decide (addr % 64 = 0) && decide (bytes.length = 64)
  | .pageReencryption _ addr bytes => isWord 48 addr && decide (0 < bytes.length) && decide (addr % 64 + bytes.length ≤ 64)
  | .pageReencryptionDone _ _ _ => true
  | .regions _ _ crc tt => isCommit crc tt
  | .regionInitDone _ _ _ => true
  | .window _ _ crc tt => isCommit crc tt
  | .key _ _ _ crc tt => isCommit crc tt
  | .retire _ _ _ _ => true
  | .retireFlushEnd _ _ => true
  | .walkStart _ _ => true
  | .walkAbort _ _ => true
  | .walkPage _ _ => true
  | .streamsCommit _ _ _ crc tt => isCommit crc tt
  | .portRewind _ _ _ => true
  | .grindLine _ _ _ => true
  | .streamWordTake _ _ _ => true
  | .startupMarch _ => true
  | .startupMarchDone _ _ => true
  | .marchStart _ _ _ => true
  | .marchDone _ _ _ _ => true
  | .scrubProgram _ _ crc tt => isCommit crc tt
  | .patrolUnit _ _ _ _ _ => true
  | .forcedSteal _ _ _ => true
  | .scrubWaitEnd _ => true
  | .clkrefGate _ _ => true
  | .missingEdge _ => true
  | .clkrefStable _ => true
  | .clkrefLoss _ => true
  | .clkrefRecovery _ => true
  | .padRelease _ _ _ => true
  | .pllLock _ _ => true
  | .pllUnlock _ _ => true
  | .clkEnable _ _ crc tt => isCommit crc tt
  | .src _ _ _ v => isWord 64 v
  | .fpllSetting _ _ _ _ v => isWord 64 v
  | .shedReset _ _ _ _ => true
  | .fenceStep _ => true
  | .unfenceStep _ => true
  | .setShed _ => true
  | .shedWait _ => true
  | .commit _ => true
  | .setState _ => true
  | .programEnd _ => true
  | .shedProgramCommit _ _ _ crc tt => isCommit crc tt
  | .sleepArm _ _ _ => true
  | .sleepCancel _ _ _ => true
  | .sleepEntry _ => true
  | .wakeEvent _ => true
  | .wakeRequest _ _ _ => true
  | .runUser _ _ _ => true
  | .challenge _ _ => true
  | .responseWrite _ _ crc tt => isCommit crc tt
  | .debugLock _ _ _ => true
  | .debugRead _ _ => true
  | .debugWrite _ _ => true
  | .debugStatus _ _ => true
  | .debugReset _ _ _ _ => true
  | .dbg _ req => decide (req.length = 16)
  | .tapInstruction _ _ => true
  | .break _ => true
  | .oneWireFrame _ frame => decide (frame.length = 17)
  | .haltReq _ _ _ _ => true
  | .resume _ _ _ _ => true
  | .step _ _ _ _ => true
  | .controllerHalt _ _ dpc gpr => isWord 64 dpc && decide (gpr.length = 256)
  | .comparatorMatch _ _ _ addr _ => isWord 64 addr
  | .lockedSequenceLimit _ _ dpc gpr => isWord 64 dpc && decide (gpr.length = 256)
  | .kick _ _ _ v => isWord 64 v
  | .watchdogEnable _ _ _ _ => true
  | .pretimeout _ _ => true
  | .watchdogExpiry _ _ => true
  | .engHalt _ _ v => isWord 64 v
  | .engResume _ _ v => isWord 64 v
  | .engStep _ _ v => isWord 64 v
  | .traceRun _ _ _ => true
  | .traceRecord _ _ _ _ => true
  | .traceDrainEnd _ => true
  | .traceUser _ _ v => isWord 64 v
  | .counterClear _ _ _ _ => true
  | .snap _ _ _ => true
  | .powerOnReset _ _ _ => true
  | .pinReset _ _ _ _ => true
  | .supplyOutOfRange _ _ => true
  | .supplyBelowThreshold _ _ => true
  | .vddqLow _ => true
  | .tempRefresh _ sensors sense => decide (sensors.length = 20) && decide (sense.length = 4)
  | .thermalTrip _ => true
  | .thermRelease _ _ _ => true
  | .yardFrameSlot _ _ => true
  | .selfRefreshExit _ _ => true
  | .shadowClearDone _ _ => true
  | .recordTimeout _ _ _ => true
  | .debugRequestTimeout _ _ => true
  | .supplyInRange _ _ => true
  | .pulseEnd _ _ => true
  | .driveEdge _ _ _ => true
  | .modeChangeDone _ _ => true
  | .blockMemoryAccess _ _ _ => true
  | .serialTransmitWord _ _ => true

end Sys2Proof
end

