-- ==== Sys2Proof/Machine/State.lean ====
section
/-! DEFINITION. The state of the device, as plain data: the dictionary's registers and images, the memories, and for every
block the state behind its objects; the queue of waiting commands; and the state after reset. Times are in units of 0.5 ps
since power-on. Numbered units are sparse tables (`Tbl`) whose unlisted entries hold the reset value of their structure. -/

namespace Sys2Proof.Machine

/-! ### The dictionary -/

/-- The twelve statuses of *Table 0.5* (R11). -/
inductive Status where
  | okay | decode | denied | gated | fenced | isolated | poisoned | retired | busy | aborted | refused | timeout
  deriving DecidableEq, Repr

/-- The code of a status, *Table 2.4* (R45). -/
def Status.code : Status → Nat
  | .okay => 0x00
  | .decode => 0x01
  | .denied => 0x02
  | .gated => 0x03
  | .fenced => 0x04
  | .isolated => 0x05
  | .poisoned => 0x06
  | .retired => 0x07
  | .busy => 0x08
  | .aborted => 0x09
  | .refused => 0x0A
  | .timeout => 0x0B

/-- The types of *Table 2.2* (R39). -/
inductive Ty where
  | bool | u8 | u16 | u32 | u64 | i32 | i64 | tt | stamp | string | domain
  deriving DecidableEq, Repr

/-- The access codes of R10. -/
inductive Access where
  | ro | rw | wo | w1c | rwl
  deriving DecidableEq, Repr

/-- One line of an object card (R10): subindex, type, access, the SE attribute, the value after reset, the bits that
are defined (the others are reserved, R7) and the range of a written value. -/
structure Card where
  sub : Nat
  ty : Ty
  acc : Access
  se : Bool
  dflt : Nat
  mask : Nat
  lo : Int
  hi : Int
  deriving DecidableEq, Repr

/-- An open DOMAIN transfer (R42, R460). -/
structure Xfer where
  opener : Requester
  total : Nat
  data : List Byte
  last : Nat
  deriving DecidableEq, Repr

/-- The alias window registers of a DOMAIN object (*Table 2.3*). -/
structure AliasWin where
  status : Nat := 0
  totalLen : Nat := 0
  offset : Nat := 0
  crc : Nat := 0
  commitTT : Nat := 0
  deriving DecidableEq, Repr

/-- Bytes of a TT or STAMP object held by stores to offsets 0 to 7 of its alias window (R40). -/
structure Held where
  mask : Nat := 0
  val : Nat := 0
  deriving DecidableEq, Repr

/-- What the last request returned: the model's own output. -/
structure Reply where
  status : Status := .okay
  data : List Byte := []
  deriving DecidableEq, Repr

/-- A frame or datagram the device sends: 0 and 1 the management ports, 2 + p the yard ports, 6 the one-wire and test
access port, 7 + q the fabric ports. The model's own output. -/
structure Sent where
  port : Nat
  bytes : List Byte
  deriving DecidableEq, Repr

/-! ### Kisko and the charge latch (chapter 2) -/

/-- What a session slot holds behind its objects (R55, R57, R58). -/
structure Session where
  opens : Nat := 0
  nc : List Byte := []
  nd : List Byte := []
  /-- the role key as it stood at the HELLO, and the session key (R56) -/
  kRole : List Byte := []
  key : List Byte := []
  challengeAt : Nat := 0
  lastGood : Nat := 0
  /-- where the last datagram with a right MAC came from (R280) -/
  peer : Peer := {}
  /-- the last 16 accepted requests, newest first: SEQ and reply body with its header FLAGS and COUNT -/
  cache : List (Nat × List Byte) := []
  deriving DecidableEq, Repr

/-- A Kisko stream (R60). -/
structure Stream where
  isOpen : Bool := false
  slot : Nat := 0
  queue : Nat := 0
  toDevice : Bool := false
  /-- granules the receiver still grants -/
  credit : Nat := 0
  /-- sequence of the next granule never sent before (to the host) or not yet accepted (to the device) -/
  next : Nat := 0
  /-- every granule below this sequence is acknowledged -/
  acked : Nat := 0
  lastAck : Nat := 0
  refused : Nat := 0
  deriving DecidableEq, Repr

/-- What the charge latch and a controller hold behind their objects (R65, R67). -/
structure CtlState where
  hbSeen : Bool := false
  /-- the running window is not a full one and is not counted (R431) -/
  skipWindow : Bool := false
  /-- instant at which the present halt took effect, and since when a halt waits for a locked sequence, with its cause (R430) -/
  haltedAt : Nat := 0
  arose : Option (Nat × Nat) := none
  /-- the next instruction ends a STEP -/
  stepping : Bool := false
  /-- the watchdog's count: REMAINING as it stood at `wdAt`, and whether the pre-timeout of this count was raised (R432) -/
  wdAt : Nat := 0
  wdLeft : Nat := 1000000
  wdPre : Bool := false
  deriving DecidableEq, Repr

/-! ### Time (chapter 3) -/

/-- An armed action (R84): the full tick and fine part of S, and the value of its object at the arm. -/
structure Sched where
  tick : Nat
  fine : Nat
  arg : Nat := 0
  deriving DecidableEq, Repr

/-- The marker decoder behind its objects (R77, R79): the last symbols, newest first (`none` is a symbol error). -/
structure Marker where
  syms : List (Option Bool) := []
  candF : Nat := 0
  candY : Nat := 0
  /-- symbols since the candidate frame ended, or since the slot began -/
  count : Nat := 0
  bad : Nat := 0
  matching : Nat := 0
  mismatched : Nat := 0
  deriving DecidableEq, Repr

/-- A master that a PTP domain has heard (R89): clockIdentity and port number, the port, what it is ranked by, the instants of its last two
Announce messages, newest first, and their interval. -/
structure PtpMaster where
  sender : Nat
  mgt : Nat
  rank : List Nat
  heard : List Nat
  interval : Nat
  deriving DecidableEq, Repr

/-- The mapping of a PTP domain (R90), and its exchanges with masters (R89). Values of PTP time are in units of 0.5 ps divided by 10^10. -/
structure Ptp where
  base : Int := 0
  baseAt : Nat := 0
  good : Nat := 0
  lastSync : Nat := 0
  interval : Nat := 0
  holdoverAt : Nat := 0
  masters : List PtpMaster := []
  /-- the Sync whose Follow_Up is awaited: its number, its instant here, its correction; and the last Sync known at both ends -/
  sync : Option (Nat × Nat × Int) := none
  last : Option (Nat × Int) := none
  syncInterval : Nat := 0
  /-- the number of the last delay request, and its instant while it is unanswered; and the mean path delay, once known, in ns -/
  reqSeq : Nat := 0
  reqAt : Option Nat := none
  delay : Option Int := none
  deriving DecidableEq, Repr

/-- The active timeline (R91, R93): its value at `at` and the rate it runs at; `slewing` while a slew is in progress. -/
structure Timeline where
  base : Int := 0
  baseAt : Nat := 0
  rate : Int := 0
  slewing : Bool := false
  paused : Bool := false
  deriving DecidableEq, Repr

/-- An open trigger input record (R96). -/
structure TrigRec where
  stamp : Nat
  edge : Nat
  coalesced : Nat
  /-- edges beyond the saturation of COALESCED -/
  beyond : Nat
  openAt : Nat
  deriving DecidableEq, Repr

/-- A trigger unit behind its objects (R95, R96). -/
structure Trig where
  /-- COUNT, WIDTH and PERIOD as they stood at the ARM -/
  count : Nat := 0
  width : Nat := 0
  period : Nat := 0
  left : Nat := 0
  nextEdge : Nat := 0
  inPulse : Bool := false
  pulseEnd : Nat := 0
  ending : Bool := false
  /-- instant at which a cancel of the running train takes effect, 0 none -/
  cancelAt : Nat := 0
  rcd : Option TrigRec := none
  /-- causes that hold the pad-state latch, a bit each: 0 start-up, 1 CLKREF loss, 4 thermal trip -/
  holds : Nat := 1
  deriving DecidableEq, Repr

/-! ### Queues (chapter 8) -/

/-- A reservation in flight (R231): its number, the granule its ring write carries (empty while a yard link's credit holds the
place and no granule has come, R267), who offered it, and whether its ring write has completed. -/
structure Resv where
  num : Nat
  gran : List Byte
  who : Nat
  written : Bool
  /-- the ring index reserved -/
  place : Nat := 0
  deriving DecidableEq, Repr

/-- A queue behind its objects (R227, R231). -/
structure Queue where
  base : Nat := 0
  size : Nat := 0
  loc : Bool := false
  pkind : Nat := 0
  ckind : Nat := 0
  prod : Nat := 0
  cons : Nat := 0
  prodPh : Bool := false
  consPh : Bool := false
  resvs : List Resv := []
  nextResv : Nat := 0
  /-- a deadline that waits for records: each fail-capture unit, and the record number it waits to be past (R235) -/
  dlWait : Option (List (Nat × Nat)) := none
  /-- S of the deadline that fired last, with which DEADLINE is stamped; no object shows the stamp (R98, R235) -/
  dlStamp : Nat := 0
  /-- the spine cycle in which FILL changed last, plus one, and FILL as that cycle found it (R234, R237) -/
  fillCycle : Nat := 0
  fillWas : Nat := 0
  deriving DecidableEq, Repr

/-- A fabric queue port (R303, R304): the offers whose status PSTATUS has not returned, oldest first (`none` is in flight), the status
that PSTATUS shows since the port's last clock edge, and the instant from which it takes a granule; and what logic finds at it up to an
instant, before its last change: PREADY, and the granule presented. -/
structure QPort where
  offers : List (Option Status) := []
  pst : Option Status := none
  readyAt : Nat := 0
  wasAt : Nat := 0
  wasReady : Bool := false
  wasGran : Option (List Byte) := none
  deriving DecidableEq, Repr

/-! ### Fail capture (chapter 8) -/

/-- A failing vector of a channel as it is presented to fail capture (R217, R223): the failing slots judged so far, the
programmed instant of the earliest and its TT image. -/
structure FailVec where
  ch : Nat
  inst : Nat
  tt : Nat
  /-- instant of the vector's period start -/
  start : Nat
  site : Nat
  p : Nat
  a : Nat
  slots : Nat
  flags : Nat
  /-- instant at which the last of its fail bits judged so far leaves the compare pipeline -/
  doneAt : Nat := 0
  deriving DecidableEq, Repr

/-- A fail record (*Table 8.3*) of a source, and where its merge stands. -/
structure FailRec where
  source : Nat
  tt : Nat
  p : Nat
  a : Nat
  siteGrp : Nat
  channel : Nat
  slots : Nat
  chmask : Nat
  flags : Nat
  count : Nat
  /-- period start of its vector, the programmed instant that TT gives, and when the record opened or last absorbed -/
  start : Nat
  inst : Nat
  openAt : Nat
  deriving DecidableEq, Repr

/-- A fail-capture unit behind its objects (R221 to R226): open word and run records and held vectors by source (group g, or 16
+ channel), the output buffer with each record's number, and the number of the next record. -/
structure FcUnit where
  word : Tbl (Option FailRec) := []
  run : Tbl (Option FailRec) := []
  held : Tbl (List FailVec) := []
  buffer : List (Nat × FailRec) := []
  nextRec : Nat := 0
  /-- sources whose run closes once their open word record has joined it, because a channel parked (R224) -/
  parkClose : List Nat := []
  /-- records were dropped since the last committed one -/
  gap : Bool := false
  /-- the word clock of the last offer, plus one -/
  offerAt : Nat := 0
  deriving DecidableEq, Repr

/-! ### Repair (chapter 8) -/

/-- An update (R240): fail bits of one vector at one period start, of one site, P and step validity. -/
structure RepUpd where
  start : Nat
  site : Nat
  p : Nat
  invalid : Bool
  mask : Nat
  count : Nat
  openAt : Nat
  /-- the quadrant of the home unit, by the site table at its strobes -/
  home : Nat := 0
  /-- bank, row and column, decoded by the home unit on arrival -/
  bank : Nat := 0
  row : Nat := 0
  col : Nat := 0
  deriving DecidableEq, Repr

/-- A failing cell (*Table 8.12*). -/
structure RepCell where
  row : Nat
  col : Nat
  iomask : Nat
  count : Nat
  deriving DecidableEq, Repr

/-- What a repair context has gathered (R243, *Table 8.11*). -/
structure RepCtx where
  verdict : Nat := 0
  invalidSeen : Bool := false
  srl : Int := 0
  scl : Int := 0
  rows : List Nat := []
  cols : List Nat := []
  /-- the set, in ascending order of row and column -/
  cells : List RepCell := []
  invalid : Nat := 0
  fails : Nat := 0
  covered : Nat := 0
  deriving DecidableEq, Repr

/-- A repair unit behind its objects (R240 to R242): the front stage, oldest first; the backlog; and the contexts that differ
from their cleared state. -/
structure RepUnit where
  front : List RepUpd := []
  backlog : List RepUpd := []
  ctxs : Tbl (Option RepCtx) := []
  /-- the word clock in which the last update was taken from the backlog, plus one -/
  takenAt : Nat := 0
  deriving DecidableEq, Repr

/-! ### The Halter (chapter 7) -/

/-- Who holds a unit (R196). -/
inductive Holding where
  | free
  | held (e : Nat)
  | yard
  deriving DecidableEq, Repr

/-- A unit of a line (R192, R193, R196). Word clocks are counted from power-on; lists are newest first. -/
structure HUnit where
  holding : Holding := .free
  /-- word clocks, at the engines' inputs, in which the unit's local sources were asserted -/
  asserts : List Nat := []
  /-- word clocks in which the sticky latch was cleared -/
  clears : List Nat := []
  /-- clears still to come of a MARK instruction of the holder -/
  marks : List Nat := []
  /-- the form in which engines see the unit from a word clock on: 0 not armed, 1 PULSE, 2 the sticky latch (R194) -/
  forms : List (Nat × Nat) := []
  /-- instants at which contributions reached the launch point of the unit's slot (R210) -/
  slotIn : List Nat := []
  /-- what the last window of the slot carried -/
  slotLast : Bool := false
  deriving DecidableEq, Repr

/-- A line beyond its table (R212, R215). -/
structure HLine where
  /-- value bytes received at the ports YARD_CW and YARD_CCW name, each pair with the word clock from which it holds, newest
  first -/
  yard : List (Nat × Nat × Nat) := []
  /-- degraded bytes received at the two ports -/
  degCw : Nat := 0
  degCcw : Nat := 0
  /-- failsafe entered or left, with the word clock, newest first -/
  fails : List (Nat × Bool) := []
  /-- the level last recorded in the trace -/
  traced : Bool := false
  /-- the last window of a slot, its sample not yet taken: the slot, what it carried, and the instant of the sample (R210) -/
  sample : Option (Nat × Bool × Nat) := none
  /-- causes of failsafe that DEGRADED has counted: bit 0 the port of YARD_CW, bit 1 that of YARD_CCW, bit 2 a DEG byte (R215) -/
  causes : Nat := 0
  deriving DecidableEq, Repr

/-- A fail or match bit on its way out of a channel's compare pipeline (R192): the instant at which it leaves, its channel and
site, and its kind. -/
structure HBit where
  leave : Nat
  ch : Nat
  site : Nat
  fail : Bool
  deriving DecidableEq, Repr

/-- A quadrant's claim port (R205): engines served in the present window, and the word clock last passed, plus one. -/
structure HPort where
  served : List Nat := []
  last : Nat := 0
  deriving DecidableEq, Repr

/-- What an engine holds of a virtual line (R210): its sample, since when, and the sample before. -/
structure HSample where
  value : Bool := false
  since : Nat := 0
  before : Bool := false
  deriving DecidableEq, Repr

/-! ### Channels (chapter 4) -/

/-- A word in a channel FIFO, with what travels beside it (R99, R118, R154, R216): how many vectors it carries (0 for a bare
stop), the stop after it, the marks before its vectors, the site, the address sidebands, its source code, and the instant at which
it is in the FIFO. -/
structure LaneWord where
  word : Nat
  vecs : Nat
  stop : Bool := false
  mark0 : Bool := false
  mark1 : Bool := false
  site : Option Nat := none
  a0 : Nat := 0
  p0 : Nat := 0
  a1 : Nat := 0
  p1 : Nat := 0
  src : Nat
  inst : Nat
  deriving DecidableEq, Repr

/-- A queued drive or enable edge: its ball instant, the level it drives, and whether it was moved (R116). -/
structure Edge where
  inst : Nat
  level : Bool
  late : Bool
  deriving DecidableEq, Repr

/-- A queued strobe (R108, R109): programmed instant, ball instants on CMH and CML, the closing ball instants of a window, what its
vector gave it, and where it has been placed so far. Codes: 0 X, 1 H, 2 L, 3 M. -/
structure Strobe where
  prog : Nat
  ballH : Nat
  ballL : Nat
  closeH : Nat
  closeL : Nat
  window : Bool
  /-- the opening of a window that abuts the one before -/
  abuts : Bool
  late : Bool
  slot : Nat
  code : Nat
  start : Nat
  site : Nat
  a : Nat
  p : Nat
  step : Nat
  /-- the instants at which it is placed on CMH and CML, and those at which its window closes; the same for an edge strobe (R116) -/
  atH : Option Nat := none
  atL : Option Nat := none
  endH : Option Nat := none
  endL : Option Nat := none
  deriving DecidableEq, Repr

/-- A step of a channel (R180). -/
structure StepRec where
  id : Nat
  fails : Nat := 0
  hits : Nat := 0
  valid : Bool := true
  vectors : Nat := 0
  closed : Bool := false
  deriving DecidableEq, Repr

/-- A channel behind its objects. -/
structure Chan where
  drv : List LaneWord := []
  exp : List LaneWord := []
  /-- the sources of the output side of the two FIFOs (R102) -/
  drvOut : Nat := 0xFFF
  expOut : Nat := 0xFFF
  /-- vector 1 of the head words is next -/
  half : Bool := false
  /-- the next period boundary, and PERIOD of the last vector begun -/
  nextStart : Nat := 0
  period : Nat := 0
  /-- no vector has begun since the channel left PARKED; and the timing set of the last one -/
  first : Bool := true
  lastTs : Nat := 0
  drvQ : List Edge := []
  denQ : List Edge := []
  strobes : List Strobe := []
  /-- levels on DRV and DEN as the core drives them, and the last instants placed on each pair -/
  drvLevel : Bool := false
  denLevel : Bool := false
  /-- the last samples of CMH and CML at an edge strobe -/
  cmhS : Bool := false
  cmlS : Bool := false
  drvLast : Nat := 0
  denLast : Nat := 0
  cmhLast : Nat := 0
  cmlLast : Nat := 0
  /-- the last ball instant of any edge or strobe of the vectors begun -/
  lastEdge : Nat := 0
  stopping : Bool := false
  /-- the instant at which the channel last entered PARKED -/
  parkedAt : Nat := 0
  /-- committed tables that wait for a period boundary at or after their instant, oldest first (R112) -/
  tables : List (Nat × List Byte) := []
  /-- background corrections of DRV, DEN, CMH and CML in 0.5 ps, and steps measured and not yet applied (R129) -/
  corr : List Int := [0, 0, 0, 0]
  corrNext : List Int := []
  /-- causes that hold the pad-state latch, a bit each: 0 start-up, 1 CLKREF loss, 2 PLL unlock, 3 shed, 4 thermal trip,
  5 mode change -/
  holds : Nat := 1
  /-- failing vectors whose strobes are not all judged (R223) -/
  fails : List FailVec := []
  steps : List StepRec := []
  stepId : Nat := 0
  deriving DecidableEq, Repr

/-! ### Engines (chapters 5 and 6) -/

/-- A half-built lane word (R151). -/
structure HalfWord where
  vec : Nat
  drive : Nat
  expect : Nat
  mask : Nat
  a : Nat
  p : Nat
  mark : Bool
  site : Option Nat
  deriving DecidableEq, Repr

/-- One of the four lanes of an engine: its assembler, a site recorded and not yet sent, and a step mark not yet sent. -/
structure Lane where
  asm : Option HalfWord := none
  site : Option Nat := none
  mark : Bool := false
  deriving DecidableEq, Repr

/-- A result entry (*Table 6.6*). -/
structure ResEntry where
  fails : Nat
  hits : Nat
  valid : Bool
  deriving DecidableEq, Repr

/-- The bank that SWITCH captures (*Table 6.1*). -/
structure DspBank where
  acc : List Int := [0, 0, 0, 0]
  minv : Int := 2 ^ 47 - 1
  maxv : Int := - 2 ^ 47
  mini : Nat := 0xFFFFFFFF
  maxi : Nat := 0xFFFFFFFF
  idx : Nat := 0
  sat : Bool := false
  deriving DecidableEq, Repr

/-- An operation in the datapath's pipeline, as its D4 will perform it (R183). -/
inductive DspOp where
  | mac (aop : Nat) (vals : List (Option Int))
  | mmx (v : Int) (which : Nat) (last noidx : Bool)
  | mmclr (idx : Nat)
  | accset (mask : Nat) (v : Int)
  | switch (irq clr : Bool) (capTt : Nat)
  | gsat
  deriving DecidableEq, Repr

/-- The datapath of an engine (*Table 6.1*). -/
structure Dsp where
  ar : List Int := [0, 0, 0, 0]
  br : List Int := [0, 0, 0, 0]
  bank : DspBank := {}
  shadow : DspBank := {}
  seq : Nat := 0
  capTt : Nat := 0
  rf0 : List ResEntry := []
  rf1 : List ResEntry := []
  rf2 : List ResEntry := []
  rf3 : List ResEntry := []
  /-- operations in flight, oldest first, with the word clock of their issue -/
  pipe : List (Nat × DspOp) := []
  /-- event counters of the five flags -/
  counts : List Nat := [0, 0, 0, 0, 0]
  deriving DecidableEq, Repr

/-- A claim of an engine (R202, R205): line, VIRT, SLOT, word clock of issue, and once decided its outcome and the word
clock of the decision. -/
structure Claim where
  line : Nat
  virt : Bool
  slot : Nat
  issued : Nat
  decided : Option (Bool × Nat) := none
  deriving DecidableEq, Repr

/-- An engine behind its objects. -/
structure Engine where
  /-- the instant of its last start -/
  startAt : Option Nat := none
  /-- the word clock after the last one in which the engine issued, stalled or retired -/
  free : Nat := 0
  /-- return addresses, newest first, and whether a refresh call pushed them (R158) -/
  stack : List (Nat × Bool) := []
  lanes : List Lane := [{}, {}, {}, {}]
  /-- the active scramble table, `none` for the identity (R146) -/
  scramble : Option (List Byte) := none
  /-- accesses of a running SCRLD that are done, and the bytes that they have read -/
  scrDone : Nat := 0
  scrBytes : List Byte := []
  /-- the word clock at which a wait ends, and whether it is a WAITTT (R155) -/
  wait : Option Nat := none
  waitTt : Bool := false
  /-- word clocks that a WAITC has left while the engine is HALTED; and a WAITTT whose instant passed while it was (R434) -/
  waitLeft : Option Nat := none
  waitLate : Bool := false
  /-- the step mark of a waiting instruction has been placed -/
  marked : Bool := false
  claim : Option Claim := none
  /-- releases issued and not yet disarmed: line, VIRT, SLOT, word clock of disarm (R204) -/
  releases : List (Nat × Bool × Nat × Nat) := []
  /-- the word clock from which the refresh timer counts, and its count while HALTED (R158) -/
  refBase : Nat := 0
  refKept : Nat := 0
  /-- word clocks a Feed request has waited -/
  feedWait : Nat := 0
  /-- the word clock of the second data-store access of an instruction, plus one (R384) -/
  dsStall : Nat := 0
  /-- a stop request, a halt (HALT_CAUSE) and a load that wait for an HCLAIM (R162, R434, R207) -/
  stopReq : Bool := false
  haltReq : Nat := 0
  loadWaits : Bool := false
  /-- ENG_STEP: halt after the next instruction; and the execute match that a resume ignores (R434, R435) -/
  stepping : Bool := false
  skipMatch : Bool := false
  /-- the state from which it was armed -/
  armedFrom : Nat := 0
  /-- failed under R166 -/
  failed : Bool := false
  views : Nat := 0
  dsp : Dsp := {}
  deriving DecidableEq, Repr

/-- A cluster's Feed-store port and gangs (R136, R168): contenders served in the window, the last word clock granted plus one
and its winner, the last word clock the network used plus one; by gang, the last word clock decided plus one. -/
structure Cluster where
  served : List Nat := []
  grantAt : Nat := 0
  winner : Nat := 0
  /-- network-port accesses not yet granted, the word clock from which the port takes one in each word clock that no engine disputes,
  and the word clocks that the oldest has waited -/
  netReqs : Nat := 0
  netAt : Nat := 0
  netWait : Nat := 0
  gangs : Tbl Nat := []
  /-- the engine whose load holds the load buffer -/
  loadFor : Option Nat := none
  deriving DecidableEq, Repr

/-! ### Serial lanes and yard ports (chapter 9) -/

/-- A running eye scan (R258): the present point, when it began, whether CDR lock has held through it, and whether SER_EN was
cleared. -/
structure EyeRun where
  point : Nat
  start : Nat
  lock : Bool
  ending : Bool
  deriving DecidableEq, Repr

/-- The serial lane of a channel behind its objects. -/
structure SerLane where
  /-- when the transmitter started, the UI it has sent since, the last word sent and its line bits in order of sending -/
  txAt : Nat := 0
  txUi : Nat := 0
  txWord : Nat := 0
  txLine : List Bool := []
  /-- the PRBS generator, last bits newest first in bit 0 upwards (R257) -/
  gen : Nat := 2 ^ 31 - 1
  /-- running disparity positive (8b/10b), scrambler (64b/66b), second word of a block is next (128b/130b) -/
  rd : Bool := false
  scr : Nat := 2 ^ 58 - 1
  second : Bool := false
  /-- bit slips of the word boundary, modulo 64, and the line bits that slips have yet to pass over -/
  slips : Nat := 0
  skip : Nat := 0
  /-- the receiver: line bits since the word boundary, oldest first; its running disparity, descrambler and half of a block; received
  words on their way to the fabric port, oldest first; RX_ADAPT 1 has adapted since the last lock -/
  rxPend : List Bool := []
  rxRd : Bool := false
  dscr : Nat := 0
  rxSecond : Bool := false
  rxWords : List (Nat × Nat) := []
  adapted : Bool := false
  /-- the PRBS checker: its last bits newest first, good bits in a row, and checked bits since each error of the last 1,024 -/
  chk : List Bool := []
  good : Nat := 0
  errs : List Nat := []
  /-- validity of the last 64 sync headers, newest first -/
  headers : List Bool := []
  eye : Option EyeRun := none
  deriving DecidableEq, Repr

/-- A sequenced yard frame that waits for its acknowledgement (R270). -/
structure TxEntry where
  seq : Nat
  ftype : Nat
  vc : Nat
  half : Bool
  payload : Nat
  deriving DecidableEq, Repr

/-- A received yard frame whose header has been used: its type, sequence, channel and half, whether its PCRC was good, its payload
in clear, and its frame number. -/
structure RxFrame where
  ftype : Nat
  seq : Nat
  vc : Nat
  half : Bool
  ok : Bool
  payload : Nat
  key : Bool
  f : Nat
  /-- of a TAG frame: whether its TAG is that of the frames before it, and whether one of those was bad -/
  tagOk : Bool := false
  covBad : Bool := false
  deriving DecidableEq, Repr

/-- A virtual channel of a yard port (R267, R268). -/
structure YVc where
  /-- number of the next granule never sent, and of the first that ENQ_SEQ does not cover -/
  txNext : Nat := 0
  txEnq : Nat := 0
  /-- CREDIT_SEQ of the partner, valid once a CREDIT has come since UP -/
  credit : Nat := 0
  known : Bool := false
  /-- number of the next granule to enqueue, and the first half of one -/
  rxEnq : Nat := 0
  first : Option Nat := none
  /-- a reservation was lost to a queue fault: what comes is discarded until the next UP -/
  lost : Bool := false
  /-- ENQ_SEQ and CREDIT_SEQ as last reported; `none` while a report is due whatever they are -/
  told : Option (Nat × Nat) := none
  deriving DecidableEq, Repr

/-- Training of a yard port (R265, R266). -/
structure YTrain where
  stepAt : Nat := 0
  trainAt : Nat := 0
  /-- consecutive good frames by lane; frames that count towards the step's condition by lane; frames sent in the step -/
  good0 : Nat := 0
  good1 : Nat := 0
  heard0 : Nat := 0
  heard1 : Nat := 0
  sent : Nat := 0
  bad : Bool := false
  adapted : Bool := false
  /-- from the partner's last good frame: STATE, QUAL_OK, MAX_RATE, SERIAL, YARD_ID, POS, ENC, KEYSLOT, KEY_OTHER, NONCE -/
  pState : Nat := 0
  pQual : Bool := false
  pMax : Nat := 0
  pSerial : Nat := 0
  pYard : Nat := 0
  pPos : Nat := 0
  pEnc : Bool := false
  pSlot : Nat := 0
  pOther : Bool := false
  pNonce : Nat := 0
  /-- own last qualification, own nonce, the limit rate, this DETECT follows a step up, STEP goes back a rate -/
  qual : Bool := false
  nonce : Nat := 0
  limit : Nat := 6
  stepped : Bool := false
  back : Bool := false
  /-- the transmitter taps the partner asked for -/
  pre : Nat := 0
  post : Nat := 0
  deriving DecidableEq, Repr

/-- A key rotation in progress (R273): the new slot, whether this end began it, whether it may send under it, and whether it has
sent and received a frame under it. -/
structure YRot where
  slot : Nat
  initiator : Bool
  may : Bool := false
  sent : Bool := false
  got : Bool := false
  deriving DecidableEq, Repr

/-- A yard port behind its objects. -/
structure YPort where
  train : YTrain := {}
  downAt : Nat := 0
  /-- frame counters of the two directions, and the scramblers of UP -/
  txF : Nat := 0
  rxF : Nat := 0
  txScr : Nat := 2 ^ 31 - 1
  rxScr : Nat := 2 ^ 31 - 1
  txSeq : Nat := 0
  rxSeq : Nat := 0
  /-- frames not acknowledged, oldest first; the place from which a replay goes on; replays begun at the same SEQ -/
  replay : List TxEntry := []
  replayAt : Option Nat := none
  replayRuns : Nat := 0
  /-- the instant from which the acknowledgement time counts -/
  ackAt : Nat := 0
  /-- slots since the last CONTROL frame, and messages of R273 that wait -/
  sinceCtl : Nat := 3
  ctl : List Nat := []
  /-- the second half of a granule under way: its channel and payload -/
  second : Option (Nat × Nat) := none
  /-- the channel served last of each priority -/
  rr0 : Nat := 7
  rr1 : Nat := 7
  /-- the channel that sent CREDIT last, the last word clock of which assertions were sent, and the first frame number that a TAG can
  still cover -/
  rrc : Nat := 7
  haltSent : Nat := 0
  tagFrom : Nat := 0
  /-- ciphertext blocks since the last TAG, oldest first, and TAG frames since UP, by direction -/
  txBlocks : List Nat := []
  txTags : Nat := 0
  rxBlocks : List Nat := []
  rxTags : Nat := 0
  /-- slot under which it sends -/
  txSlot : Nat := 0
  /-- a NAK to send; one was sent and the expected frame has not come; the ACK of a NAK received -/
  nak : Bool := false
  nakOpen : Bool := false
  nakGot : Option Nat := none
  /-- uncorrectable frames in a row; covered frames that cannot verify -/
  badRun : Nat := 0
  rxBad : Bool := false
  /-- frames that wait to be acted on, and accepted ones held for a TAG, oldest first -/
  inbox : List RxFrame := []
  heldFrames : List RxFrame := []
  vcs : Tbl YVc := []
  rot : Option YRot := none
  /-- CONTROL messages of an unknown KIND (CODE_ERRORS of lane 0, which has no object) -/
  codeErrors : Nat := 0
  deriving DecidableEq, Repr

/-! ### Configuration and fabric (chapters 10 and 11) -/

/-- The loader in a stream (R312 to R319). Word lists are newest first. -/
structure Loader where
  /-- words taken since SYNC, and the running CRC register -/
  words : Nat := 0
  crc : Nat := 0xFFFFFFFF
  /-- the packet in progress: its command, its COUNT, payload words still to come, words of the present frame or field -/
  cmd : Nat := 0
  count : Nat := 0
  left : Nat := 0
  buf : List Nat := []
  /-- HEADER was taken; the last packet was CRC; STARTUP was taken; targets loaded, a bit each; SEAL was taken -/
  header : Bool := false
  afterCrc : Bool := false
  startup : Option (List Nat) := none
  firmware : Nat := 0
  sealed : Bool := false
  /-- LOC, `none` past quadrant 3 -/
  loc : Option Nat := some 0
  id : Nat := 0
  deriving DecidableEq, Repr

/-- The configuration port and the startup program (R308 to R322). -/
structure CfgPort where
  loader : Loader := {}
  /-- nibbles of a serial word, newest first: those of the word in progress, or the last eight while SYNC is sought (R309, R312) -/
  nibs : List Nat := []
  /-- CFG_ERR_N is low, CFG_INIT_N is low, CFG_DOUT is low, CFG_DONE is released -/
  errLow : Bool := false
  initLow : Bool := true
  doutLow : Bool := false
  done : Bool := false
  /-- the startup program, the step in progress and when it began -/
  program : List Nat := []
  step : Nat := 0
  stepAt : Nat := 0
  deriving DecidableEq, Repr

/-- The stage registers of a MAC slice (R293, R294): X and W after one and two stages, Y likewise, K, the product, and the sum; numbers
are two's complement, the product an integer; and SATS. -/
structure MacRegs where
  x1 : Nat := 0
  x2 : Nat := 0
  w1 : Nat := 0
  w2 : Nat := 0
  y1 : Nat := 0
  y2 : Nat := 0
  k : Nat := 0
  prod : Int := 0
  sum : Nat := 0
  sats : Bool := false
  deriving DecidableEq, Repr

/-- A Paddock's loading and swap (R323 to R328). -/
structure Pad where
  loader : Loader := {}
  /-- the shadow plane is being cleared; bytes of the transfer the loader has taken -/
  clearing : Bool := false
  fed : Nat := 0
  /-- the instant until which the border outputs hold, 0 for none, and the wires that hold 1 -/
  holdUntil : Nat := 0
  border : List Nat := []
  deriving DecidableEq, Repr

/-- An audit in progress (R331): its plane, and when it began. -/
structure Audit where
  region : Nat
  start : Nat
  deriving DecidableEq, Repr

/-- What a block-memory port shows (R295): DOUT, SBE and DBE, and what waits before its output register; and what logic finds there up to
an instant, before its last change. -/
structure BmOut where
  dout : Nat := 0
  sbe : Bool := false
  dbe : Bool := false
  preDout : Nat := 0
  preSbe : Bool := false
  preDbe : Bool := false
  wasAt : Nat := 0
  wasDout : Nat := 0
  wasSbe : Bool := false
  wasDbe : Bool := false
  deriving DecidableEq, Repr

/-- A fabric lane port (R300): its buffer, oldest first, each word with the word clock in which it was taken, and the word clock
after the last one in which a word moved on; and READY as logic finds it up to an instant, before its last change. -/
structure FlPort where
  buf : List (FabricWord × Nat) := []
  movedAt : Nat := 0
  wasAt : Nat := 0
  wasReady : Bool := true
  deriving DecidableEq, Repr

/-- A pad of the general-purpose I/O (R305): TXD and OE as its last port-clock edge found them, when that was, and the RXD it gave. -/
structure GpioPad where
  txd : Nat := 0
  oe : Bool := false
  at_ : Nat := 0
  rxd : Nat := 0
  deriving DecidableEq, Repr

/-! ### The on-die network (chapter 12) -/

/-- What a packet is (*Table 12.2*): a request, a response with its status and whether a ring stop gave it, or one of the control
flits: a reservation request of n flits and its grant, and the fence messages of a standing reservation. -/
inductive PktKind where
  | read
  | write
  | response (st : Status) (byStop : Bool)
  | rsvReq (n : Nat)
  | grant
  | fence (r : Nat)
  | unfence (r : Nat)
  | fenceAck (r : Nat)
  deriving DecidableEq, Repr

/-- A packet (R334): its transaction, route, class, reservation, address, BYTES and data; its flits, and those not yet injected. -/
structure NetPkt where
  txn : Nat
  src : Nat
  sport : Nat
  dst : Nat
  dport : Nat
  cls : Nat
  kind : PktKind
  rsv : Nat := 0x7FF
  addr : Nat := 0
  n : Nat := 0
  data : List Byte := []
  flits : Nat
  left : Nat
  deriving DecidableEq, Repr

/-- A request that a stop has issued and that is unanswered (R342, R349): its port, when it was issued, and the flits of the RESP
area that its response has reserved. -/
structure NetOut where
  txn : Nat
  sport : Nat
  start : Nat
  resp : Nat
  /-- whether it is an alias access (R41) -/
  alias_ : Bool := false
  deriving DecidableEq, Repr

/-- A ring stop behind its objects (R340, R342, R345, R348 to R351). Lists are oldest first. -/
structure NetStop where
  /-- packets that wait for injection, by class -/
  resp : List NetPkt := []
  rsv : List NetPkt := []
  demand : List NetPkt := []
  /-- requests that wait for the RESP area, and requests on demand that wait for their grant -/
  waiting : List NetPkt := []
  ungranted : List NetPkt := []
  /-- ports with a reservation request outstanding, a bit each -/
  asking : Nat := 0
  out : List NetOut := []
  /-- turn credits spent, by crossing router × 3 + class -/
  turns : Tbl Nat := []
  /-- reservation requests that wait for the pool, each with the instant it came; and flits of the pool granted or in flits -/
  fifo : List (NetPkt × Nat) := []
  pool : Nat := 0
  /-- packets that wait at the tether, and requests that blocks hold unanswered, each with the instant since -/
  buf : List (NetPkt × Nat) := []
  held : List (NetPkt × Nat) := []
  /-- when the fence began, and FENCE_ACK flits still to come -/
  fenceAt : Nat := 0
  acks : Nat := 0
  /-- isolated ports whose shed has been reset since -/
  resetPorts : Nat := 0
  /-- place of its owned slots in the rotation of classes (R339) -/
  rot : Nat := 0
  deriving DecidableEq, Repr

/-- A standing reservation behind its entry (R344, R351): credits in flits, credits freed and not returned, since when, and whether
its source has had a FENCE notice. -/
structure NetResv where
  away : Nat := 0
  freed : Nat := 0
  freedAt : Nat := 0
  fenced : Bool := false
  deriving DecidableEq, Repr

/-! ### Memory (chapter 13) -/

/-- The patrol (R388 to R390): units still to patrol in the present step (`none` until it begins), when the last unit or the wait
began, whether the schedule has ended, the cursor of each target, and by target × 4096 + array the credits an array holds and since
which word clock, and how many it has lost. -/
structure Patrol where
  left : Option Nat := none
  unitAt : Nat := 0
  stopped : Bool := false
  cursors : Tbl Nat := []
  credits : Tbl (Nat × Nat) := []
  lags : Tbl Nat := []
  deriving DecidableEq, Repr

/-- A memory request that waits (R366, R358): read, or write of bytes at an offset. -/
structure MemReq where
  write : Bool
  addr : Nat
  bytes : List Byte
  len : Nat
  deriving DecidableEq, Repr

/-- A line of the counter and tag cache (R373). -/
structure TagLine where
  line : Nat
  dirty : Bool
  usedKid : Nat
  wroteKid : Nat
  /-- upsets of its words since it was brought in or corrected (R383) -/
  upset : Nat := 0
  deriving DecidableEq, Repr

/-- An engine stream port of Grind (R376 to R379). -/
structure GrindPort where
  st : Nat := 0
  cause : Nat := 0
  memStatus : Nat := 0
  loopNo : Nat := 0
  delivered : Nat := 0
  /-- compressed bytes fetched and not yet consumed, and how many bytes of LENGTH were fetched -/
  buf : List Byte := []
  fetched : Nat := 0
  /-- words in the extent, oldest first (non-resident), or the whole stream (resident) -/
  words : List (BitVec 48) := []
  /-- the last 4,096 words produced, newest first -/
  history : List (BitVec 48) := []
  produced : Nat := 0
  ended : Bool := false
  /-- a token in progress: kind, words still to produce, distance -/
  tok : Option (Nat × Nat × Nat) := none
  /-- place of the next word of a resident stream -/
  pos : Nat := 0
  deriving DecidableEq, Repr

/-! ### Debug (chapter 16) -/

/-- The challenge and the two debug ports behind their objects (R419 to R425): when the live nonce was drawn, failed responses in a row,
until when every response fails; the test access port's instruction register, the request it has outstanding and the reply it
holds; whether a one-wire frame has begun, the one-wire port's request outstanding and whether its reply is to be discarded; and when a
RESET transaction resets the device. -/
structure DebugState where
  nonceAt : Option Nat := none
  fails : Nat := 0
  lockUntil : Nat := 0
  tapIr : Nat := 0x02
  tapReq : Option (List Byte × Nat) := none
  tapReply : Option (List Byte) := none
  owFrame : Bool := false
  owReq : Option (List Byte × Nat) := none
  owDrop : Bool := false
  resetAt : Option Nat := none
  deriving DecidableEq, Repr

/-! ### Clocks and power (chapter 15) -/

/-- What the CLKREF monitor and the recovery hold behind their objects (R393, R394, R402, R403): consecutive good gates; whether the
missing-edge detector fired in the present gate; whether the later actions of *Table 15.3* are due; DEVICE_STATE before the loss, and
when it came; and whether recovery's steps 1 to 3 are done and its end waits for TT_VALID. -/
structure ClkMon where
  good : Nat := 0
  missing : Bool := false
  due : Bool := false
  prior : Nat := 0
  since : Nat := 0
  ending : Bool := false
  /-- the loss is an unlock of SPLL (R404) -/
  bySpll : Bool := false
  deriving DecidableEq, Repr

/-- The shed-program sequencer (R410 to R416): when the present step issues, whether it has begun, the always-on cycle in which COMMIT
issued plus one, and the sheds that the program has fenced. -/
structure Sequencer where
  stepAt : Nat := 0
  begun : Bool := false
  commitAt : Nat := 0
  fenced : List Nat := []
  deriving DecidableEq, Repr

/-! ### The machine -/

/-- The state of the device. -/
structure State where
  /-- commands that wait, first in, first out -/
  pending : List Instr := []
  /-- the present instant, in units of 0.5 ps since power-on -/
  now : Nat := 0
  /-- the instant of the last power-on or pin reset (UPTIME); and, while power-on reset is asserted, the instant at which a rail was last
  found below its reset threshold (R446) -/
  resetAt : Nat := 0
  porAt : Option Nat := none
  /-- the model's own counter of draws of free values -/
  draws : Nat := 0
  /-- scalar objects of the dictionary that differ from their default, by index × 256 + subindex -/
  regs : Tbl Nat := []
  /-- committed DOMAIN images that differ from their default -/
  images : Tbl (List Byte) := []
  /-- the images that an object had before its last changes, newest first: each with the word clock from which the next one holds -/
  past : Tbl (List (Nat × List Byte)) := []
  /-- open DOMAIN transfers -/
  xfers : Tbl (Option Xfer) := []
  aliasWins : Tbl AliasWin := []
  held : Tbl Held := []
  /-- scheduled commits that wait: object and staged image -/
  staged : Tbl (List Byte) := []
  /-- the cycle of its block's clock in which each W1C flag was last set by hardware, plus one (R46) -/
  flagCycle : Tbl Nat := []
  /-- interrupts raised: source × 2 + controller, and how often -/
  irqs : Tbl Nat := []
  reply : Reply := {}
  sent : List Sent := []
  sessions : Tbl Session := []
  streams : Tbl Stream := []
  ctls : Tbl CtlState := []
  offerAt : Nat := 0
  /-- the tick, counted from power-on, at which the last heartbeat window ended (R65) -/
  windowAt : Nat := 0
  /-- TT tick at `now` 0, modulo 2^64 -/
  ttOff : Nat := 0
  marker : Marker := {}
  scheds : Tbl (Option Sched) := []
  ptp : Tbl Ptp := []
  act : Timeline := {}
  trigs : Tbl Trig := []
  queues : Tbl Queue := []
  qports : Tbl QPort := []
  fcs : Tbl FcUnit := []
  /-- SITE_FAILS by site -/
  siteFails : Tbl Nat := []
  reps : Tbl RepUnit := []
  /-- units of the Halter, by line × 16 + slot; lines; and samples of virtual lines, by engine × 8 + line -/
  hunits : Tbl HUnit := []
  hlines : Tbl HLine := []
  hsamples : Tbl HSample := []
  /-- compare bits that have not left their pipelines, and the claim ports -/
  hbits : List HBit := []
  hports : Tbl HPort := []
  chans : Tbl Chan := []
  sers : Tbl SerLane := []
  yards : Tbl YPort := []
  /-- events at the wake sources of R415 that the wake latch has not taken, a bit each -/
  wakeIn : Nat := 0
  clk : ClkMon := {}
  dbg : DebugState := {}
  seq : Sequencer := {}
  /-- sheds whose reset waits for their fence (R409), oldest first -/
  resetting : List Nat := []
  /-- TEMP is at or above TEMP_WARN and FAULT bit 2 has not re-armed; a thermal trip holds (R450) -/
  hot : Bool := false
  tripped : Bool := false
  cfg : CfgPort := {}
  pads : Tbl Pad := []
  /-- frames of the live and shadow planes that differ from the unconfigured state, by locator (R313) -/
  live : Tbl (List Byte) := []
  shadow : Tbl (List Byte) := []
  /-- references that differ from those of unconfigured planes, by region; bit 5 for shadow planes (R330) -/
  refs : Tbl Nat := []
  hostAudit : Option Audit := none
  autoAudit : Option Audit := none
  /-- next region of the automatic audit, and when its period began -/
  autoNext : Nat := 0
  autoAt : Nat := 0
  /-- fabric logic (R285 to R294): flip-flops that differ from their INIT_FF, by tile × 32 + 2 × cell + flip-flop; wire registers that
  hold 1, by tile × 32 + output; and the stage registers of MAC slices, by their lowest tile. A tile's number is its locator over 1,024. -/
  ffs : Tbl Bool := []
  wregs : Tbl Bool := []
  macs : Tbl MacRegs := []
  /-- block memories: internal words, upset bits of words, and what the ports show, by memory × 2 + port (R295, R296) -/
  bram : Tbl Nat := []
  bramUpset : Tbl Nat := []
  bramOut : Tbl BmOut := []
  /-- columns of a block memory that repair entries name (R298) -/
  bramRepair : Tbl (List Nat) := []
  /-- fabric lane ports; buffers of receive ports by channel: DATA and CTRL, oldest first, and what a port shows since its last clock
  edge (R300, R302) -/
  flPorts : Tbl FlPort := []
  rxBuf : Tbl (List (Nat × Nat)) := []
  rxOut : Tbl (Option (Nat × Nat)) := []
  /-- what the TT port of a quadrant shows since its last clock edge: TICK, PHASE and TT_VALID from bit 0 up (R301); and when TT_VALID
  last changed -/
  ttPorts : Tbl Nat := []
  ttEdge : Nat := 0
  gpios : Tbl GpioPad := []
  /-- the instant up to which fabric logic has run -/
  fabAt : Nat := 0
  /-- word clock of the last event at a probe point, plus one: class × 2^12 + index of *Table 10.12*, by quadrant × 2^16 (R306) -/
  pulses : Tbl Nat := []
  /-- ring stops, standing reservations, packets on the network (oldest first), and transactions numbered so far -/
  stops : Tbl NetStop := []
  netResvs : Tbl NetResv := []
  pkts : List NetPkt := []
  txns : Nat := 0
  /-- the network cycle up to which the stops have injected -/
  netAt : Nat := 0
  engines : Tbl Engine := []
  clusters : Tbl Cluster := []
  /-- instruction words that a debugger has written since the program was loaded: engine × 2^11 + address (R427) -/
  progPatch : Tbl (Option Nat) := []
  /-- stores of the physical engine slots that serve no visible engine: slot × 2^16 + byte address (*Table 16.5*) -/
  spareMem : List Host.Cell := []
  /-- the engines' data stores: engine × 2^14 + byte address -/
  data : List Host.Cell := []
  /-- the 16 Feed stores: cluster × 2^20 + byte offset (R134) -/
  feed : List Host.Cell := []
  /-- words of on-chip memories left with a double-bit error (R383): target × 2^48 + array × 2^24 + word -/
  badWords : Tbl Bool := []
  /-- words of on-chip memories with one bit upset (R383), by the same key -/
  upWords : Tbl Bool := []
  /-- words in rows that no spare row replaces (R386, R387), by the same key -/
  hardBad : Tbl Bool := []
  /-- LPDDR4X lines whose tag bytes were lost with a dirty line of the counter and tag cache (*Table 14.1*) -/
  lostLines : Tbl Bool := []
  /-- local memory of the controllers: controller × 2^23 + byte offset (*Table 16.5*) -/
  mcMem : List Host.Cell := []
  /-- when the march in progress began -/
  marchAt : Option Nat := none
  patrol : Patrol := {}
  /-- LPDDR4X as the devices hold it, by physical address -/
  dram : List Host.Cell := []
  /-- region entries whose initialisation has not ended, by entry -/
  regionInit : Tbl Bool := []
  /-- pages being re-encrypted (physical page number): the triggering write -/
  reenc : Tbl (Option MemReq) := []
  memWait : List MemReq := []
  /-- WALK_ABORT was written during the present page (R375) -/
  walkAborting : Bool := false
  /-- write DQ delay of a memory channel, in 1/256 UI (R356), and the instants of its last drift measurement and ZQ latch -/
  dqDelay : Tbl Int := []
  retrainAt : Tbl Nat := []
  zqAt : Tbl Nat := []
  /-- when the last initialisation began, and channels that have completed step 1 of *Table 13.1* since power-on reset (R446) -/
  memInitAt : Nat := 0
  memStep1 : Tbl Bool := []
  /-- next bank and postponed refreshes of a memory channel (R357) -/
  refresh : Tbl (Nat × Nat) := []
  tagCache : Tbl (List TagLine) := []
  grind : Tbl GrindPort := []
  /-- up to when the cycles of the controllers have been counted (R437) -/
  mcAt : Nat := 0
  /-- the trace buffer: record by record index (R436) -/
  traceBuf : Tbl Nat := []
  /-- records that wait in the trace FIFO, oldest first, and the instant up to which it has drained -/
  traceFifo : List Nat := []
  traceAt : Nat := 0
  /-- records entered since the trace started, and records lost since the last LOSS record -/
  traceCount : Nat := 0
  traceLossPending : Nat := 0
  deriving DecidableEq, Repr

/-- Why the machine stops with a fault. No command of the table stops so in this model. -/
inductive Fault where
  /-- never raised: the device answers every request with a status (R11) -/
  | none
  deriving DecidableEq, Repr

/-- Why a command is refused by the model itself. -/
inductive Refusal where
  /-- the command has no meaning yet; raised by `exec` only; safe, it claims nothing -/
  | notModelled (mnemonic : String)
  deriving DecidableEq, Repr

/-- The machine right after power-on reset, with nothing waiting (R9, R10): every register at its card's default, every
image at its default, every block idle. -/
def State.reset : State := {}

end Sys2Proof.Machine
end

