-- ==== Sys2Proof/Machine/Cards.lean ====
section
/-! DEFINITION. The object dictionary as data: the number of every object (`O.<BLOCK>_<NAME>`, index × 256 + subindex), and one card per
object with its type, access, default, defined bits and range, block by block as the object cards of `spec/` list them
(R10, R37, R38, R39). -/

namespace Sys2Proof.Machine

/-- ALLOWED of shed s, from *Table 15.6* (R406): bit n set when the shed may be in state n. -/
def shedAllowed (s : Nat) : Nat :=
  if s < 92 then (if s % 23 = 19 then 0b0111 else 0b1111)
  else if s = 93 ∨ s = 94 then 0b0101
  else if s = 96 ∨ s = 97 then 0b0011
  else 0b0001

/-- KIND of ledger 0x1041 + i (R47, R49): 1 flow, 2 constant, 0 where no chapter defines the ledger. -/
def ledgerKind (i : Nat) : Nat :=
  let l := 0x1041 + i
  if l = 0x1041 ∨ (0x1048 ≤ l ∧ l ≤ 0x104F) ∨ l = 0x1051 ∨ (0x1058 ≤ l ∧ l ≤ 0x105A) ∨ l = 0x1066 ∨ l = 0x1069 ∨ l = 0x106D then 2
  else if (0x1042 ≤ l ∧ l ≤ 0x1046) ∨ l = 0x1050 ∨ l = 0x1052 ∨ l = 0x1053 ∨ l = 0x105B ∨ (0x1060 ≤ l ∧ l ≤ 0x1062) ∨
    l = 0x1064 ∨ l = 0x1065 ∨ l = 0x1067 ∨ l = 0x1068 ∨ l = 0x106C ∨ l = 0x106E then 1
  else 0

/-- NTERMS of ledger 0x1041 + i (R47), as the owning chapters define their ledgers. -/
def ledgerTerms (i : Nat) : Nat :=
  let l := 0x1041 + i
  if ledgerKind i = 0 then 0
  else if l = 0x1043 ∨ l = 0x1064 then 3
  else if l = 0x1050 ∨ l = 0x1053 then 6
  else if l = 0x1052 ∨ l = 0x105B ∨ l = 0x1067 ∨ l = 0x1068 ∨ l = 0x1069 ∨ l = 0x106E then 5
  else 4

/-- The fixed total T0 of a constant ledger and the term T1 that holds all of it after reset (R59, R197, R346, R381, R417, R167). -/
def ledgerInit (i k : Nat) : Nat :=
  let l := 0x1041 + i
  if k > 1 then 0
  else if l = 0x1041 then 64
  else if 0x1048 ≤ l ∧ l ≤ 0x104F then 16
  else if l = 0x1059 then 6272
  else if l = 0x105A then 9408
  else if l = 0x1066 then 4096
  else if l = 0x1069 then 98
  else if l = 0x106D then 16
  else 0

namespace O

/-! Objects of *Table 2.6*. -/
abbrev LED_KIND (i : Nat) : Nat := 0x104101 + i * 256
abbrev LED_NTERMS (i : Nat) : Nat := 0x104102 + i * 256
abbrev LED_SNAP (i : Nat) : Nat := 0x104103 + i * 256
abbrev LED_SNAP_TT (i : Nat) : Nat := 0x104104 + i * 256
abbrev LED_CLOSED (i : Nat) : Nat := 0x104105 + i * 256
abbrev LED_MISMATCH (i : Nat) : Nat := 0x104106 + i * 256
abbrev LED_MISMATCH_COUNT (i : Nat) : Nat := 0x104107 + i * 256
abbrev LED_TERM0 (i : Nat) : Nat := 0x104110 + i * 256
abbrev LED_TERM1 (i : Nat) : Nat := 0x104111 + i * 256
abbrev LED_TERM2 (i : Nat) : Nat := 0x104112 + i * 256
abbrev LED_TERM3 (i : Nat) : Nat := 0x104113 + i * 256
abbrev LED_TERM4 (i : Nat) : Nat := 0x104114 + i * 256
abbrev LED_TERM5 (i : Nat) : Nat := 0x104115 + i * 256
abbrev LED_TERM6 (i : Nat) : Nat := 0x104116 + i * 256
abbrev LED_TERM7 (i : Nat) : Nat := 0x104117 + i * 256
abbrev LED_SNAP0 (i : Nat) : Nat := 0x104118 + i * 256
abbrev LED_SNAP1 (i : Nat) : Nat := 0x104119 + i * 256
abbrev LED_SNAP2 (i : Nat) : Nat := 0x10411A + i * 256
abbrev LED_SNAP3 (i : Nat) : Nat := 0x10411B + i * 256
abbrev LED_SNAP4 (i : Nat) : Nat := 0x10411C + i * 256
abbrev LED_SNAP5 (i : Nat) : Nat := 0x10411D + i * 256
abbrev LED_SNAP6 (i : Nat) : Nat := 0x10411E + i * 256
abbrev LED_SNAP7 (i : Nat) : Nat := 0x10411F + i * 256

/-! Objects of *Table 2.8*. -/
abbrev ID_DEVICE_NAME : Nat := 0x100001
abbrev ID_VENDOR : Nat := 0x100002
abbrev ID_FAMILY : Nat := 0x100003
abbrev ID_SILICON_REV : Nat := 0x100004
abbrev ID_SERIAL : Nat := 0x100005
abbrev ID_DICT_REV : Nat := 0x100006
abbrev ID_ACCESS_LEVEL : Nat := 0x100007
abbrev ID_YARD_ID : Nat := 0x100008
abbrev ID_PROVISIONED : Nat := 0x100009

/-! Objects of *Table 2.9*. -/
abbrev DEV_DEVICE_STATE : Nat := 0x100101
abbrev DEV_UPTIME : Nat := 0x100102
abbrev DEV_RESET_CAUSE : Nat := 0x100103
abbrev DEV_CLKREF_STABLE : Nat := 0x100104
abbrev DEV_FAULT : Nat := 0x100105
abbrev DEV_RECOVERY_ACTIVE : Nat := 0x100106
abbrev DEV_TEMP : Nat := 0x100107
abbrev DEV_REFUSED_WRITES : Nat := 0x100108
abbrev DEV_DECODE_COUNT : Nat := 0x100109
abbrev DEV_DENIED_COUNT : Nat := 0x10010A
abbrev DEV_TIMEOUT_COUNT : Nat := 0x10010B
abbrev DEV_FAULT_COUNT0 : Nat := 0x100110
abbrev DEV_FAULT_COUNT1 : Nat := 0x100111
abbrev DEV_FAULT_COUNT2 : Nat := 0x100112
abbrev DEV_FAULT_COUNT3 : Nat := 0x100113
abbrev DEV_FAULT_COUNT4 : Nat := 0x100114
abbrev DEV_FAULT_COUNT5 : Nat := 0x100115
abbrev DEV_FAULT_COUNT6 : Nat := 0x100116
abbrev DEV_FAULT_COUNT7 : Nat := 0x100117
abbrev DEV_FAULT_COUNT8 : Nat := 0x100118

/-! Objects of *Table 2.14*. -/
abbrev SES_STATE (i : Nat) : Nat := 0x114001 + i * 256
abbrev SES_ROLE (i : Nat) : Nat := 0x114002 + i * 256
abbrev SES_CONTROLLER (i : Nat) : Nat := 0x114003 + i * 256
abbrev SES_PEER_PORT (i : Nat) : Nat := 0x114004 + i * 256
abbrev SES_LAST_SEQ (i : Nat) : Nat := 0x114005 + i * 256
abbrev SES_MAC_FAILS (i : Nat) : Nat := 0x114006 + i * 256
abbrev SES_REPLAYS (i : Nat) : Nat := 0x114007 + i * 256
abbrev SES_OPEN_TT (i : Nat) : Nat := 0x114008 + i * 256
abbrev SES_CLOSE (i : Nat) : Nat := 0x114009 + i * 256

/-! Objects of *Table 2.16*. -/
abbrev LATCH_HOLDER : Nat := 0x120001
abbrev LATCH_LATCH_STATE : Nat := 0x120002
abbrev LATCH_EPOCH : Nat := 0x120003
abbrev LATCH_CLAIM : Nat := 0x120004
abbrev LATCH_OFFER : Nat := 0x120005
abbrev LATCH_ACCEPT : Nat := 0x120006
abbrev LATCH_TAKE : Nat := 0x120007
abbrev LATCH_OFFER_TIMEOUT : Nat := 0x120008
abbrev LATCH_HANDOVER_REQUEST : Nat := 0x120009
abbrev LATCH_CHANGE : Nat := 0x12000A
abbrev LATCH_CHANGE_COUNT : Nat := 0x12000B
abbrev LATCH_CHARGE_DENIED : Nat := 0x12000C

/-! Objects of *Table 2.17*. -/
abbrev MC_HEARTBEAT (i : Nat) : Nat := 0x120101 + i * 256
abbrev MC_HB_MISSED (i : Nat) : Nat := 0x120102 + i * 256
abbrev MC_PRESENT (i : Nat) : Nat := 0x120103 + i * 256
abbrev MC_DEBUG_ABSENT (i : Nat) : Nat := 0x120104 + i * 256
abbrev MC_FW_VERSION (i : Nat) : Nat := 0x120105 + i * 256
abbrev MC_FW_STATE (i : Nat) : Nat := 0x120106 + i * 256
abbrev MC_LAST_BUS_STATUS (i : Nat) : Nat := 0x120107 + i * 256
abbrev MC_BOOT_COUNT (i : Nat) : Nat := 0x120108 + i * 256

/-! Objects of *Table 2.20*. -/
abbrev KISKO_KISKO_PORT : Nat := 0x111001
abbrev KISKO_SESSION_TIMEOUT : Nat := 0x111002
abbrev KISKO_STREAM_RTO : Nat := 0x111003
abbrev KISKO_SESSIONS_OPEN : Nat := 0x111004
abbrev KISKO_STREAMS_OPEN : Nat := 0x111005
abbrev KISKO_SEG_ABORTS : Nat := 0x111006

/-! Objects of *Table 2.21*. -/
abbrev KEYS_KEY_OBSERVER : Nat := 0x112001
abbrev KEYS_KEY_OPERATOR : Nat := 0x112002
abbrev KEYS_KEY_ENGINEER : Nat := 0x112003
abbrev KEYS_KEY_FIRMWARE : Nat := 0x112004
abbrev KEYS_KEY_DEBUG : Nat := 0x112005
abbrev KEYS_KEY_WRITES : Nat := 0x112006
abbrev KEYS_KEY_CHECK_FAIL : Nat := 0x112007

/-! Objects of *Table 3.4*. -/
abbrev MARK_MARKER_STATE : Nat := 0x1A0001
abbrev MARK_TT_VALID : Nat := 0x1A0002
abbrev MARK_MARKER_AUX : Nat := 0x1A0003
abbrev MARK_CTU_HOLDOVER : Nat := 0x1A0004
abbrev MARK_MARKER_MISMATCH : Nat := 0x1A0005
abbrev MARK_MISMATCH_COUNT : Nat := 0x1A0006
abbrev MARK_SYMBOL_ERRORS : Nat := 0x1A0007
abbrev MARK_LAST_FRAME_TT : Nat := 0x1A0008
abbrev MARK_LOCK_TT : Nat := 0x1A0009
abbrev MARK_TT_RESYNC : Nat := 0x1A000A
abbrev MARK_LOCK_COUNT : Nat := 0x1A000B

/-! Objects of *Table 3.6*. -/
abbrev SCHED_TT_NOW : Nat := 0x1A0101
abbrev SCHED_PENDING : Nat := 0x1A0102
abbrev SCHED_ABORTED_ON_LOSS : Nat := 0x1A0103

/-! Objects of *Table 3.8*. -/
abbrev PTP_ENABLE (i : Nat) : Nat := 0x1A1001 + i * 256
abbrev PTP_DOMAIN_NUMBER (i : Nat) : Nat := 0x1A1002 + i * 256
abbrev PTP_PORT (i : Nat) : Nat := 0x1A1003 + i * 256
abbrev PTP_STATE (i : Nat) : Nat := 0x1A1004 + i * 256
abbrev PTP_MASTER_ID (i : Nat) : Nat := 0x1A1005 + i * 256
abbrev PTP_OFFSET (i : Nat) : Nat := 0x1A1006 + i * 256
abbrev PTP_RATE (i : Nat) : Nat := 0x1A1007 + i * 256
abbrev PTP_SERVO_BW (i : Nat) : Nat := 0x1A1008 + i * 256
abbrev PTP_LOCK_THRESHOLD (i : Nat) : Nat := 0x1A1009 + i * 256
abbrev PTP_HOLDOVER_LIMIT (i : Nat) : Nat := 0x1A100A + i * 256
abbrev PTP_STATE_CHANGE (i : Nat) : Nat := 0x1A100B + i * 256
abbrev PTP_STATE_CHANGE_COUNT (i : Nat) : Nat := 0x1A100C + i * 256
abbrev PTP_MEAN_PATH_DELAY (i : Nat) : Nat := 0x1A100D + i * 256

/-! Objects of *Table 3.9*. -/
abbrev ACT_ACTIVE_DOMAIN : Nat := 0x1A1201
abbrev ACT_SWITCH_AT : Nat := 0x1A1202
abbrev ACT_SWITCH_ARM : Nat := 0x1A1203
abbrev ACT_SWITCH_CANCEL : Nat := 0x1A1204
abbrev ACT_SWITCH_MODE : Nat := 0x1A1205
abbrev ACT_SLEW_RATE : Nat := 0x1A1206
abbrev ACT_RESIDUAL : Nat := 0x1A1207
abbrev ACT_SWITCH_LIMIT : Nat := 0x1A1208
abbrev ACT_SWITCH_STATUS : Nat := 0x1A1209
abbrev ACT_SWITCH_DONE : Nat := 0x1A120A
abbrev ACT_SWITCH_COUNT : Nat := 0x1A120B

/-! Objects of *Table 3.12*. -/
abbrev TRIG_MODE (i : Nat) : Nat := 0x1A2001 + i * 256
abbrev TRIG_POLARITY (i : Nat) : Nat := 0x1A2002 + i * 256
abbrev TRIG_AT (i : Nat) : Nat := 0x1A2003 + i * 256
abbrev TRIG_WIDTH (i : Nat) : Nat := 0x1A2004 + i * 256
abbrev TRIG_PERIOD (i : Nat) : Nat := 0x1A2005 + i * 256
abbrev TRIG_COUNT (i : Nat) : Nat := 0x1A2006 + i * 256
abbrev TRIG_ARM (i : Nat) : Nat := 0x1A2007 + i * 256
abbrev TRIG_CANCEL (i : Nat) : Nat := 0x1A2008 + i * 256
abbrev TRIG_OUT_STATE (i : Nat) : Nat := 0x1A2009 + i * 256
abbrev TRIG_DEADTIME (i : Nat) : Nat := 0x1A200A + i * 256
abbrev TRIG_QUEUE (i : Nat) : Nat := 0x1A200B + i * 256
abbrev TRIG_DROPPED (i : Nat) : Nat := 0x1A200C + i * 256
abbrev TRIG_DROPPED_COUNT (i : Nat) : Nat := 0x1A200D + i * 256
abbrev TRIG_PULSES (i : Nat) : Nat := 0x1A200E + i * 256

/-! Objects of *Table 4.4*. -/
abbrev BANK_MAP (i : Nat) : Nat := 0x210001 + i * 256
abbrev BANK_ACTIVE (i : Nat) : Nat := 0x210002 + i * 256
abbrev BANK_SWITCH_AT (i : Nat) : Nat := 0x210003 + i * 256
abbrev BANK_SWITCH_ARM (i : Nat) : Nat := 0x210004 + i * 256
abbrev BANK_SWITCH_CANCEL (i : Nat) : Nat := 0x210005 + i * 256
abbrev BANK_SWITCH_COUNT (i : Nat) : Nat := 0x210006 + i * 256

/-! Objects of *Table 4.15*. -/
abbrev CH_MODE (i : Nat) : Nat := 0x200001 + i * 256
abbrev CH_STATE (i : Nat) : Nat := 0x200002 + i * 256
abbrev CH_SITE (i : Nat) : Nat := 0x200003 + i * 256
abbrev CH_FIFO_MODE (i : Nat) : Nat := 0x200004 + i * 256
abbrev CH_PARK_CODE (i : Nat) : Nat := 0x200005 + i * 256
abbrev CH_PARK_VECTOR (i : Nat) : Nat := 0x200006 + i * 256
abbrev CH_TRIM (i : Nat) : Nat := 0x200007 + i * 256
abbrev CH_DESKEW_DRV (i : Nat) : Nat := 0x200008 + i * 256
abbrev CH_DESKEW_DEN (i : Nat) : Nat := 0x200009 + i * 256
abbrev CH_DESKEW_CMH (i : Nat) : Nat := 0x20000A + i * 256
abbrev CH_DESKEW_CML (i : Nat) : Nat := 0x20000B + i * 256
abbrev CH_BGCAL_ENABLE (i : Nat) : Nat := 0x20000C + i * 256
abbrev CH_BGCAL_STEPS (i : Nat) : Nat := 0x20000D + i * 256
abbrev CH_STEP_VALID (i : Nat) : Nat := 0x20000E + i * 256
abbrev CH_STEP_INVALID_COUNT (i : Nat) : Nat := 0x20000F + i * 256
abbrev CH_TIMING_SETS (i : Nat) : Nat := 0x200010 + i * 256
abbrev CH_QUAD_SCHEDULE (i : Nat) : Nat := 0x200011 + i * 256
abbrev CH_UNDERRUN (i : Nat) : Nat := 0x200012 + i * 256
abbrev CH_UNDERRUN_COUNT (i : Nat) : Nat := 0x200013 + i * 256
abbrev CH_EDGE_FAULT (i : Nat) : Nat := 0x200014 + i * 256
abbrev CH_EDGE_FAULT_COUNT (i : Nat) : Nat := 0x200015 + i * 256
abbrev CH_EDGE_FAULT_CAUSE (i : Nat) : Nat := 0x200016 + i * 256
abbrev CH_CONFLICT (i : Nat) : Nat := 0x200017 + i * 256
abbrev CH_TS_REFUSED (i : Nat) : Nat := 0x200018 + i * 256
abbrev CH_ACTIVE_TS (i : Nat) : Nat := 0x200019 + i * 256
abbrev CH_VECTORS (i : Nat) : Nat := 0x20001A + i * 256
abbrev CH_PAD_LATCHED (i : Nat) : Nat := 0x20001B + i * 256
abbrev CH_SCHEDULE_PENDING (i : Nat) : Nat := 0x20001C + i * 256

/-! Objects of *Table 5.17*. -/
abbrev ENG_STATE (i : Nat) : Nat := 0x240001 + i * 256
abbrev ENG_PC (i : Nat) : Nat := 0x240002 + i * 256
abbrev ENG_FLAGS (i : Nat) : Nat := 0x240003 + i * 256
abbrev ENG_GANG (i : Nat) : Nat := 0x240004 + i * 256
abbrev ENG_START_AT (i : Nat) : Nat := 0x240005 + i * 256
abbrev ENG_START_ARM (i : Nat) : Nat := 0x240006 + i * 256
abbrev ENG_START_CANCEL (i : Nat) : Nat := 0x240007 + i * 256
abbrev ENG_STOP_REQ (i : Nat) : Nat := 0x240008 + i * 256
abbrev ENG_LCTL0 (i : Nat) : Nat := 0x240009 + i * 256
abbrev ENG_LCTL1 (i : Nat) : Nat := 0x24000A + i * 256
abbrev ENG_LCTL2 (i : Nat) : Nat := 0x24000B + i * 256
abbrev ENG_LCTL3 (i : Nat) : Nat := 0x24000C + i * 256
abbrev ENG_RFI (i : Nat) : Nat := 0x24000D + i * 256
abbrev ENG_REF_ENTRY (i : Nat) : Nat := 0x24000E + i * 256
abbrev ENG_REF_MAXDEFER (i : Nat) : Nat := 0x24000F + i * 256
abbrev ENG_PROGRAM (i : Nat) : Nat := 0x240010 + i * 256
abbrev ENG_EVQ (i : Nat) : Nat := 0x240011 + i * 256
abbrev ENG_ILLEGAL (i : Nat) : Nat := 0x240012 + i * 256
abbrev ENG_ILLEGAL_COUNT (i : Nat) : Nat := 0x240013 + i * 256
abbrev ENG_ILL_CAUSE (i : Nat) : Nat := 0x240014 + i * 256
abbrev ENG_ILL_PC (i : Nat) : Nat := 0x240015 + i * 256
abbrev ENG_WAIT_LATE (i : Nat) : Nat := 0x240016 + i * 256
abbrev ENG_WAIT_LATE_COUNT (i : Nat) : Nat := 0x240017 + i * 256
abbrev ENG_REF_LATE (i : Nat) : Nat := 0x240018 + i * 256
abbrev ENG_REF_LATE_COUNT (i : Nat) : Nat := 0x240019 + i * 256
abbrev ENG_EVT_DROPPED (i : Nat) : Nat := 0x24001A + i * 256
abbrev ENG_EVT_DROPPED_COUNT (i : Nat) : Nat := 0x24001B + i * 256
abbrev ENG_STALL_FIFO (i : Nat) : Nat := 0x24001C + i * 256
abbrev ENG_STALL_FEED (i : Nat) : Nat := 0x24001D + i * 256
abbrev ENG_STALL_STREAM (i : Nat) : Nat := 0x24001E + i * 256
abbrev ENG_STALL_HALTER (i : Nat) : Nat := 0x24001F + i * 256
abbrev ENG_STALL_GANG (i : Nat) : Nat := 0x240020 + i * 256
abbrev ENG_RETIRED (i : Nat) : Nat := 0x240021 + i * 256
abbrev ENG_PHYS (i : Nat) : Nat := 0x240022 + i * 256
abbrev ENG_FAILED_MARK (i : Nat) : Nat := 0x240023 + i * 256
abbrev ENG_REF_PENDING (i : Nat) : Nat := 0x240024 + i * 256
abbrev ENG_DSEL (i : Nat) : Nat := 0x240025 + i * 256
abbrev ENG_SCR_ADDR (i : Nat) : Nat := 0x240026 + i * 256
abbrev ENG_SITEV0 (i : Nat) : Nat := 0x240027 + i * 256
abbrev ENG_SITEV1 (i : Nat) : Nat := 0x240028 + i * 256
abbrev ENG_SITEV2 (i : Nat) : Nat := 0x240029 + i * 256
abbrev ENG_SITEV3 (i : Nat) : Nat := 0x24002A + i * 256
abbrev ENG_EVENT_HITS (i : Nat) : Nat := 0x24002B + i * 256
abbrev ENG_DSP_STATE (i : Nat) : Nat := 0x24002C + i * 256
abbrev ENG_DSP_CONFIG (i : Nat) : Nat := 0x24002D + i * 256
abbrev ENG_DSP_FLAGS (i : Nat) : Nat := 0x24002E + i * 256
abbrev ENG_STALL_RESULT (i : Nat) : Nat := 0x24002F + i * 256
abbrev ENG_G0 (i : Nat) : Nat := 0x240030 + i * 256
abbrev ENG_G1 (i : Nat) : Nat := 0x240031 + i * 256
abbrev ENG_G2 (i : Nat) : Nat := 0x240032 + i * 256
abbrev ENG_G3 (i : Nat) : Nat := 0x240033 + i * 256
abbrev ENG_G4 (i : Nat) : Nat := 0x240034 + i * 256
abbrev ENG_G5 (i : Nat) : Nat := 0x240035 + i * 256
abbrev ENG_G6 (i : Nat) : Nat := 0x240036 + i * 256
abbrev ENG_G7 (i : Nat) : Nat := 0x240037 + i * 256
abbrev ENG_G8 (i : Nat) : Nat := 0x240038 + i * 256
abbrev ENG_G9 (i : Nat) : Nat := 0x240039 + i * 256
abbrev ENG_G10 (i : Nat) : Nat := 0x24003A + i * 256
abbrev ENG_G11 (i : Nat) : Nat := 0x24003B + i * 256
abbrev ENG_G12 (i : Nat) : Nat := 0x24003C + i * 256
abbrev ENG_G13 (i : Nat) : Nat := 0x24003D + i * 256
abbrev ENG_G14 (i : Nat) : Nat := 0x24003E + i * 256
abbrev ENG_G15 (i : Nat) : Nat := 0x24003F + i * 256
abbrev ENG_D0 (i : Nat) : Nat := 0x240040 + i * 256
abbrev ENG_D1 (i : Nat) : Nat := 0x240041 + i * 256
abbrev ENG_D2 (i : Nat) : Nat := 0x240042 + i * 256
abbrev ENG_D3 (i : Nat) : Nat := 0x240043 + i * 256
abbrev ENG_D4 (i : Nat) : Nat := 0x240044 + i * 256
abbrev ENG_D5 (i : Nat) : Nat := 0x240045 + i * 256
abbrev ENG_D6 (i : Nat) : Nat := 0x240046 + i * 256
abbrev ENG_D7 (i : Nat) : Nat := 0x240047 + i * 256
abbrev ENG_LC0 (i : Nat) : Nat := 0x240048 + i * 256
abbrev ENG_LC1 (i : Nat) : Nat := 0x240049 + i * 256
abbrev ENG_LC2 (i : Nat) : Nat := 0x24004A + i * 256
abbrev ENG_LC3 (i : Nat) : Nat := 0x24004B + i * 256
abbrev ENG_LC4 (i : Nat) : Nat := 0x24004C + i * 256
abbrev ENG_LC5 (i : Nat) : Nat := 0x24004D + i * 256
abbrev ENG_LC6 (i : Nat) : Nat := 0x24004E + i * 256
abbrev ENG_LC7 (i : Nat) : Nat := 0x24004F + i * 256
abbrev ENG_LCR0 (i : Nat) : Nat := 0x240050 + i * 256
abbrev ENG_LCR1 (i : Nat) : Nat := 0x240051 + i * 256
abbrev ENG_LCR2 (i : Nat) : Nat := 0x240052 + i * 256
abbrev ENG_LCR3 (i : Nat) : Nat := 0x240053 + i * 256
abbrev ENG_LCR4 (i : Nat) : Nat := 0x240054 + i * 256
abbrev ENG_LCR5 (i : Nat) : Nat := 0x240055 + i * 256
abbrev ENG_LCR6 (i : Nat) : Nat := 0x240056 + i * 256
abbrev ENG_LCR7 (i : Nat) : Nat := 0x240057 + i * 256
abbrev ENG_X (i : Nat) : Nat := 0x240058 + i * 256
abbrev ENG_Y (i : Nat) : Nat := 0x240059 + i * 256
abbrev ENG_Z (i : Nat) : Nat := 0x24005A + i * 256
abbrev ENG_XB (i : Nat) : Nat := 0x24005B + i * 256
abbrev ENG_YB (i : Nat) : Nat := 0x24005C + i * 256
abbrev ENG_ZB (i : Nat) : Nat := 0x24005D + i * 256
abbrev ENG_XMAX (i : Nat) : Nat := 0x24005E + i * 256
abbrev ENG_YMAX (i : Nat) : Nat := 0x24005F + i * 256
abbrev ENG_ZMAX (i : Nat) : Nat := 0x240060 + i * 256

/-! Objects of *Table 5.18*. -/
abbrev CLU_SPARE_STATE (i : Nat) : Nat := 0x260001 + i * 256
abbrev CLU_SPARE_FOR (i : Nat) : Nat := 0x260002 + i * 256
abbrev CLU_FEED_SCHED (i : Nat) : Nat := 0x260003 + i * 256
abbrev CLU_FEED_GRANTS (i : Nat) : Nat := 0x260004 + i * 256
abbrev CLU_FEED_LOSSES (i : Nat) : Nat := 0x260005 + i * 256
abbrev CLU_FEED_MAXWAIT (i : Nat) : Nat := 0x260006 + i * 256
abbrev CLU_LOAD_BUSY (i : Nat) : Nat := 0x260007 + i * 256
abbrev CLU_REMAPS (i : Nat) : Nat := 0x260008 + i * 256

/-! Objects of *Table 7.9*. -/
abbrev HALT_YARD_POS : Nat := 0x340001
abbrev HALT_YARD_CW : Nat := 0x340002
abbrev HALT_YARD_CCW : Nat := 0x340003
abbrev HALT_TABLE : Nat := 0x340004
abbrev HALT_TABLE_REFUSED : Nat := 0x340005
abbrev HALT_TABLE_COMMITS : Nat := 0x340006

/-! Objects of *Table 7.10*. -/
abbrev ALLOC_CLAIMS : Nat := 0x340101
abbrev ALLOC_GRANTS : Nat := 0x340102
abbrev ALLOC_REFUSALS : Nat := 0x340103
abbrev ALLOC_RELEASES : Nat := 0x340104
abbrev ALLOC_RELEASE_NOT_HELD : Nat := 0x340105
abbrev ALLOC_FORCED : Nat := 0x340106
abbrev ALLOC_MAX_CLAIM_WAIT : Nat := 0x340107
abbrev ALLOC_LAST_REFUSE : Nat := 0x340108
abbrev ALLOC_VIEWS : Nat := 0x340109

/-! Objects of *Table 7.11*. -/
abbrev LINE_MODE (i : Nat) : Nat := 0x340801 + i * 256
abbrev LINE_VALUE (i : Nat) : Nat := 0x340802 + i * 256
abbrev LINE_HOLDERS (i : Nat) : Nat := 0x340803 + i * 256
abbrev LINE_STICKY (i : Nat) : Nat := 0x340804 + i * 256
abbrev LINE_ASSERTED (i : Nat) : Nat := 0x340805 + i * 256
abbrev LINE_CLAIMS_REFUSED (i : Nat) : Nat := 0x340806 + i * 256
abbrev LINE_FORCE_RELEASE (i : Nat) : Nat := 0x340807 + i * 256
abbrev LINE_DEGRADED (i : Nat) : Nat := 0x340808 + i * 256
abbrev LINE_DEGRADED_COUNT (i : Nat) : Nat := 0x340809 + i * 256
abbrev LINE_FAILSAFE_ACTIVE (i : Nat) : Nat := 0x34080A + i * 256
abbrev LINE_CLEAR_FAILSAFE (i : Nat) : Nat := 0x34080B + i * 256

/-! Objects of *Table 7.12*. -/
abbrev SMASK_SITE_MASK (i : Nat) : Nat := 0x341001 + i * 256

/-! Objects of *Table 8.4*. -/
abbrev FC_CHAN_CFG (i : Nat) : Nat := 0x300001 + i * 256
abbrev FC_FAIL_QUEUE (i : Nat) : Nat := 0x300002 + i * 256
abbrev FC_MERGE_WINDOW (i : Nat) : Nat := 0x300003 + i * 256
abbrev FC_RUN_EN (i : Nat) : Nat := 0x300004 + i * 256
abbrev FC_RUN_IDLE (i : Nat) : Nat := 0x300005 + i * 256
abbrev FC_RUN_MAX (i : Nat) : Nat := 0x300006 + i * 256
abbrev FC_FLUSH (i : Nat) : Nat := 0x300007 + i * 256
abbrev FC_RECORDS (i : Nat) : Nat := 0x300008 + i * 256
abbrev FC_DROPPED (i : Nat) : Nat := 0x300009 + i * 256
abbrev FC_DROPPED_COUNT (i : Nat) : Nat := 0x30000A + i * 256
abbrev FC_DROP_QUEUE (i : Nat) : Nat := 0x30000B + i * 256
abbrev FC_DROP_BUFFER (i : Nat) : Nat := 0x30000C + i * 256
abbrev FC_OPEN (i : Nat) : Nat := 0x30000D + i * 256
abbrev FC_BUF_LEVEL (i : Nat) : Nat := 0x30000E + i * 256
abbrev FC_BUF_MAX (i : Nat) : Nat := 0x30000F + i * 256

/-! Objects of *Table 8.8*. -/
abbrev Q_DESC (i : Nat) : Nat := 0x400001 + i * 256
abbrev Q_ENABLE (i : Nat) : Nat := 0x400002 + i * 256
abbrev Q_FILL (i : Nat) : Nat := 0x400003 + i * 256
abbrev Q_PROD (i : Nat) : Nat := 0x400004 + i * 256
abbrev Q_CONS (i : Nat) : Nat := 0x400005 + i * 256
abbrev Q_PROD_DOORBELL (i : Nat) : Nat := 0x400006 + i * 256
abbrev Q_CONS_DOORBELL (i : Nat) : Nat := 0x400007 + i * 256
abbrev Q_WM_HIGH (i : Nat) : Nat := 0x400008 + i * 256
abbrev Q_WM_LOW (i : Nat) : Nat := 0x400009 + i * 256
abbrev Q_INT_TARGET (i : Nat) : Nat := 0x40000A + i * 256
abbrev Q_EVENTS (i : Nat) : Nat := 0x40000B + i * 256
abbrev Q_HIGH_COUNT (i : Nat) : Nat := 0x40000C + i * 256
abbrev Q_LOW_COUNT (i : Nat) : Nat := 0x40000D + i * 256
abbrev Q_FULL_COUNT (i : Nat) : Nat := 0x40000E + i * 256
abbrev Q_DEADLINE_COUNT (i : Nat) : Nat := 0x40000F + i * 256
abbrev Q_FAULT_COUNT (i : Nat) : Nat := 0x400010 + i * 256
abbrev Q_DEADLINE_AT (i : Nat) : Nat := 0x400011 + i * 256
abbrev Q_DEADLINE_ARM (i : Nat) : Nat := 0x400012 + i * 256
abbrev Q_DEADLINE_CANCEL (i : Nat) : Nat := 0x400013 + i * 256
abbrev Q_ENQUEUED (i : Nat) : Nat := 0x400014 + i * 256
abbrev Q_CONSUMED (i : Nat) : Nat := 0x400015 + i * 256
abbrev Q_FAULT_STATUS (i : Nat) : Nat := 0x400016 + i * 256
abbrev Q_FLUSH (i : Nat) : Nat := 0x400017 + i * 256
abbrev Q_FLUSHED (i : Nat) : Nat := 0x400018 + i * 256
abbrev Q_STATE (i : Nat) : Nat := 0x400019 + i * 256

/-! Objects of *Table 8.13*. -/
abbrev RU_ADDR_MAP (i : Nat) : Nat := 0x300401 + i * 256
abbrev RU_CONTEXTS (i : Nat) : Nat := 0x300402 + i * 256
abbrev RU_CTX_STATUS (i : Nat) : Nat := 0x300403 + i * 256
abbrev RU_CLEAR (i : Nat) : Nat := 0x300404 + i * 256
abbrev RU_REPORT (i : Nat) : Nat := 0x300405 + i * 256
abbrev RU_REPORT_QUEUE (i : Nat) : Nat := 0x300406 + i * 256
abbrev RU_REPORT_STATUS (i : Nat) : Nat := 0x300407 + i * 256
abbrev RU_BACKLOG (i : Nat) : Nat := 0x300408 + i * 256
abbrev RU_BACKLOG_MAX (i : Nat) : Nat := 0x300409 + i * 256
abbrev RU_FORWARDED (i : Nat) : Nat := 0x30040A + i * 256
abbrev RU_UNMAPPED (i : Nat) : Nat := 0x30040B + i * 256
abbrev RU_INCOMPLETE (i : Nat) : Nat := 0x30040C + i * 256
abbrev RU_INCOMPLETE_COUNT (i : Nat) : Nat := 0x30040D + i * 256
abbrev RU_UNREPAIRABLE (i : Nat) : Nat := 0x30040E + i * 256
abbrev RU_UNREPAIRABLE_COUNT (i : Nat) : Nat := 0x30040F + i * 256

/-! Objects of *Table 9.4*. -/
abbrev SER_SER_EN (i : Nat) : Nat := 0x360001 + i * 256
abbrev SER_RATE (i : Nat) : Nat := 0x360002 + i * 256
abbrev SER_LINE_CODE (i : Nat) : Nat := 0x360003 + i * 256
abbrev SER_TX_SRC (i : Nat) : Nat := 0x360004 + i * 256
abbrev SER_RX_SINK (i : Nat) : Nat := 0x360005 + i * 256
abbrev SER_LOOPBACK (i : Nat) : Nat := 0x360006 + i * 256
abbrev SER_PRBS (i : Nat) : Nat := 0x360007 + i * 256
abbrev SER_PATTERN (i : Nat) : Nat := 0x360008 + i * 256
abbrev SER_FFE (i : Nat) : Nat := 0x360009 + i * 256
abbrev SER_CTLE (i : Nat) : Nat := 0x36000A + i * 256
abbrev SER_DFE (i : Nat) : Nat := 0x36000B + i * 256
abbrev SER_RX_ADAPT (i : Nat) : Nat := 0x36000C + i * 256
abbrev SER_CDR_BW (i : Nat) : Nat := 0x36000D + i * 256
abbrev SER_CDR_LOCK (i : Nat) : Nat := 0x36000E + i * 256
abbrev SER_LOCK_LOSS (i : Nat) : Nat := 0x36000F + i * 256
abbrev SER_LOCK_LOSS_COUNT (i : Nat) : Nat := 0x360010 + i * 256
abbrev SER_ALIGN (i : Nat) : Nat := 0x360011 + i * 256
abbrev SER_ALIGN_PATTERN (i : Nat) : Nat := 0x360012 + i * 256
abbrev SER_BITSLIP (i : Nat) : Nat := 0x360013 + i * 256
abbrev SER_ALIGNED (i : Nat) : Nat := 0x360014 + i * 256
abbrev SER_PRBS_LOCK (i : Nat) : Nat := 0x360015 + i * 256
abbrev SER_BITS (i : Nat) : Nat := 0x360016 + i * 256
abbrev SER_ERRORS (i : Nat) : Nat := 0x360017 + i * 256
abbrev SER_ERR_CLEAR (i : Nat) : Nat := 0x360018 + i * 256
abbrev SER_CODE_ERRORS (i : Nat) : Nat := 0x360019 + i * 256
abbrev SER_EYE_TABLE (i : Nat) : Nat := 0x36001A + i * 256
abbrev SER_EYE_DWELL (i : Nat) : Nat := 0x36001B + i * 256
abbrev SER_EYE_START (i : Nat) : Nat := 0x36001C + i * 256
abbrev SER_EYE_STATE (i : Nat) : Nat := 0x36001D + i * 256
abbrev SER_EYE_RESULTS (i : Nat) : Nat := 0x36001E + i * 256
abbrev SER_ADAPTED (i : Nat) : Nat := 0x36001F + i * 256

/-! Objects of *Table 9.14*. -/
abbrev YARD_ENABLE (i : Nat) : Nat := 0x36A001 + i * 256
abbrev YARD_STATE (i : Nat) : Nat := 0x36A002 + i * 256
abbrev YARD_MAX_RATE (i : Nat) : Nat := 0x36A003 + i * 256
abbrev YARD_RATE (i : Nat) : Nat := 0x36A004 + i * 256
abbrev YARD_AUTO_RETRAIN (i : Nat) : Nat := 0x36A005 + i * 256
abbrev YARD_DOWN_CAUSE (i : Nat) : Nat := 0x36A006 + i * 256
abbrev YARD_LINK_DOWN (i : Nat) : Nat := 0x36A007 + i * 256
abbrev YARD_LINK_DOWN_COUNT (i : Nat) : Nat := 0x36A008 + i * 256
abbrev YARD_PARTNER_POS (i : Nat) : Nat := 0x36A009 + i * 256
abbrev YARD_PARTNER_SERIAL (i : Nat) : Nat := 0x36A00A + i * 256
abbrev YARD_ENCRYPT (i : Nat) : Nat := 0x36A00B + i * 256
abbrev YARD_LINK_KEY0 (i : Nat) : Nat := 0x36A00C + i * 256
abbrev YARD_LINK_KEY1 (i : Nat) : Nat := 0x36A00D + i * 256
abbrev YARD_KEY_ACTIVE (i : Nat) : Nat := 0x36A00E + i * 256
abbrev YARD_KEY_ROTATE (i : Nat) : Nat := 0x36A00F + i * 256
abbrev YARD_ROTATE_STATUS (i : Nat) : Nat := 0x36A010 + i * 256
abbrev YARD_VC_CFG (i : Nat) : Nat := 0x36A011 + i * 256
abbrev YARD_HCRC_CORRECTED (i : Nat) : Nat := 0x36A012 + i * 256
abbrev YARD_HCRC_BAD (i : Nat) : Nat := 0x36A013 + i * 256
abbrev YARD_PCRC_BAD (i : Nat) : Nat := 0x36A014 + i * 256
abbrev YARD_REPLAYS (i : Nat) : Nat := 0x36A015 + i * 256
abbrev YARD_TAG_FAILS (i : Nat) : Nat := 0x36A016 + i * 256
abbrev YARD_TRAIN_TIME (i : Nat) : Nat := 0x36A017 + i * 256
abbrev YARD_WAKE_EN (i : Nat) : Nat := 0x36A018 + i * 256
abbrev YARD_WAKE_SEND (i : Nat) : Nat := 0x36A019 + i * 256
abbrev YARD_WAKE_SEEN (i : Nat) : Nat := 0x36A01A + i * 256
abbrev YARD_WAKE_COUNT (i : Nat) : Nat := 0x36A01B + i * 256

/-! Objects of *Table 9.15*. -/
abbrev MGT_PHY_MODE (i : Nat) : Nat := 0x110001 + i * 256
abbrev MGT_LINK_UP (i : Nat) : Nat := 0x110002 + i * 256
abbrev MGT_SPEED (i : Nat) : Nat := 0x110003 + i * 256
abbrev MGT_MAC_ADDR (i : Nat) : Nat := 0x110004 + i * 256
abbrev MGT_VLAN_ID (i : Nat) : Nat := 0x110005 + i * 256
abbrev MGT_IPV4_ADDR (i : Nat) : Nat := 0x110006 + i * 256
abbrev MGT_IPV4_PREFIX (i : Nat) : Nat := 0x110007 + i * 256
abbrev MGT_IPV6_ADDR (i : Nat) : Nat := 0x110008 + i * 256
abbrev MGT_IPV6_PREFIX (i : Nat) : Nat := 0x110009 + i * 256
abbrev MGT_RX_FRAMES (i : Nat) : Nat := 0x11000A + i * 256
abbrev MGT_RX_DROPPED (i : Nat) : Nat := 0x11000B + i * 256
abbrev MGT_LINK_CHANGE (i : Nat) : Nat := 0x11000C + i * 256
abbrev MGT_LINK_CHANGE_COUNT (i : Nat) : Nat := 0x11000D + i * 256
abbrev MGT_WAKE_EN (i : Nat) : Nat := 0x11000E + i * 256
abbrev MGT_WAKE_SEEN (i : Nat) : Nat := 0x11000F + i * 256
abbrev MGT_WAKE_COUNT (i : Nat) : Nat := 0x110010 + i * 256

/-! Objects of *Table 10.13*. -/
abbrev FAB_BM_CORRECTED : Nat := 0x380001
abbrev FAB_BM_UNCORRECTABLE : Nat := 0x380002
abbrev FAB_BM_ERR : Nat := 0x380003
abbrev FAB_BM_ERR_COUNT : Nat := 0x380004
abbrev FAB_BM_COLLISIONS : Nat := 0x380005
abbrev FAB_BM_FAILED : Nat := 0x380006
abbrev FAB_BM_REPAIRED : Nat := 0x380007
abbrev FAB_BM_FAILED_COUNT : Nat := 0x380008

/-! Objects of *Table 10.14*. -/
abbrev FP_FL_WORDS (i : Nat) : Nat := 0x380401 + i * 256
abbrev FP_FL_DISCARDED (i : Nat) : Nat := 0x380402 + i * 256
abbrev FP_RXP_DROPS (i : Nat) : Nat := 0x380403 + i * 256
abbrev FP_RXP_DROPPED (i : Nat) : Nat := 0x380404 + i * 256
abbrev FP_RXP_DROPPED_COUNT (i : Nat) : Nat := 0x380405 + i * 256
abbrev FP_QP0 (i : Nat) : Nat := 0x380406 + i * 256
abbrev FP_QP1 (i : Nat) : Nat := 0x380407 + i * 256
abbrev FP_QC0 (i : Nat) : Nat := 0x380408 + i * 256
abbrev FP_QC1 (i : Nat) : Nat := 0x380409 + i * 256
abbrev FP_QP_OFFERS (i : Nat) : Nat := 0x38040A + i * 256
abbrev FP_QP_NOT_OK (i : Nat) : Nat := 0x38040B + i * 256
abbrev FP_QC_TAKEN (i : Nat) : Nat := 0x38040C + i * 256

/-! Objects of *Table 10.15*. -/
abbrev PROBE_SOURCE (i : Nat) : Nat := 0x381001 + i * 256

/-! Objects of *Table 10.16*. -/
abbrev GPIO_CONFIG (i : Nat) : Nat := 0x382001 + i * 256
abbrev GPIO_IDELAY (i : Nat) : Nat := 0x382002 + i * 256
abbrev GPIO_LEVEL (i : Nat) : Nat := 0x382003 + i * 256
abbrev GPIO_OE (i : Nat) : Nat := 0x382004 + i * 256

/-! Objects of *Table 11.9*. -/
abbrev CFG_CFG_STATE : Nat := 0x180001
abbrev CFG_CFG_MODE : Nat := 0x180002
abbrev CFG_STREAM_ERRORS : Nat := 0x180003
abbrev CFG_LAST_ERR_CAUSE : Nat := 0x180004
abbrev CFG_LAST_ERR_ADDR : Nat := 0x180005
abbrev CFG_LAST_ERR_WORD : Nat := 0x180006
abbrev CFG_STARTUP_STEP : Nat := 0x180007
abbrev CFG_STARTUP_STATUS : Nat := 0x180008
abbrev CFG_RELEASED : Nat := 0x180009
abbrev CFG_STATIC_ID : Nat := 0x18000A
abbrev CFG_FRAMES : Nat := 0x18000B

/-! Objects of *Table 11.10*. -/
abbrev AUD_AUDIT_REGION : Nat := 0x180101
abbrev AUD_AUDIT_START : Nat := 0x180102
abbrev AUD_AUDIT_STATE : Nat := 0x180103
abbrev AUD_AUDIT_STATUS : Nat := 0x180104
abbrev AUD_AUDIT_CRC : Nat := 0x180105
abbrev AUD_AUDIT_REF : Nat := 0x180106
abbrev AUD_AUDIT_MISMATCH : Nat := 0x180107
abbrev AUD_AUDIT_MISMATCH_COUNT : Nat := 0x180108
abbrev AUD_AUDITS : Nat := 0x180109
abbrev AUD_AUTO_PERIOD : Nat := 0x18010A

/-! Objects of *Table 11.11*. -/
abbrev PAD_STREAM (i : Nat) : Nat := 0x181001 + i * 256
abbrev PAD_SHADOW_STATE (i : Nat) : Nat := 0x181002 + i * 256
abbrev PAD_LIVE_ID (i : Nat) : Nat := 0x181003 + i * 256
abbrev PAD_SHADOW_ID (i : Nat) : Nat := 0x181004 + i * 256
abbrev PAD_SHADOW_DISCARD (i : Nat) : Nat := 0x181005 + i * 256
abbrev PAD_HOLD_CYCLES (i : Nat) : Nat := 0x181006 + i * 256
abbrev PAD_SWAP_AT (i : Nat) : Nat := 0x181007 + i * 256
abbrev PAD_SWAP_ARM (i : Nat) : Nat := 0x181008 + i * 256
abbrev PAD_SWAP_CANCEL (i : Nat) : Nat := 0x181009 + i * 256
abbrev PAD_SWAP_STATUS (i : Nat) : Nat := 0x18100A + i * 256
abbrev PAD_SWAPS (i : Nat) : Nat := 0x18100B + i * 256
abbrev PAD_ABORTED (i : Nat) : Nat := 0x18100C + i * 256
abbrev PAD_ABORT_COUNT (i : Nat) : Nat := 0x18100D + i * 256
abbrev PAD_ABORT_CAUSE (i : Nat) : Nat := 0x18100E + i * 256
abbrev PAD_ABORT_ADDR (i : Nat) : Nat := 0x18100F + i * 256
abbrev PAD_OOR_COUNT (i : Nat) : Nat := 0x181010 + i * 256
abbrev PAD_LAST_SWAP_TT (i : Nat) : Nat := 0x181011 + i * 256

/-! Objects of *Table 12.7*. -/
abbrev NET_NET_STATE : Nat := 0x1E0001
abbrev NET_STANDING : Nat := 0x1E0002
abbrev NET_STALL_LIMIT : Nat := 0x1E0003
abbrev NET_RESP_LIMIT : Nat := 0x1E0004
abbrev NET_REQ_LIMIT : Nat := 0x1E0005
abbrev NET_DRAIN_LIMIT : Nat := 0x1E0006
abbrev NET_LATE_RESPONSES : Nat := 0x1E0007
abbrev NET_TIMEOUTS : Nat := 0x1E0008
abbrev NET_MAX_DEMAND_WAIT : Nat := 0x1E0009

/-! Objects of *Table 12.9*. -/
abbrev RS_FENCE_STATE (i : Nat) : Nat := 0x1E1001 + i * 256
abbrev RS_ISOLATED_PORTS (i : Nat) : Nat := 0x1E1002 + i * 256
abbrev RS_ISOLATE (i : Nat) : Nat := 0x1E1003 + i * 256
abbrev RS_DEISOLATE (i : Nat) : Nat := 0x1E1004 + i * 256
abbrev RS_ISOLATIONS (i : Nat) : Nat := 0x1E1005 + i * 256
abbrev RS_ISOLATION_COUNT (i : Nat) : Nat := 0x1E1006 + i * 256
abbrev RS_BINDING (i : Nat) : Nat := 0x1E1007 + i * 256
abbrev RS_EVENT_PENDING (i : Nat) : Nat := 0x1E1008 + i * 256
abbrev RS_EVENT_COUNT (i : Nat) : Nat := 0x1E1009 + i * 256
abbrev RS_DISCARDED (i : Nat) : Nat := 0x1E100A + i * 256
abbrev RS_ANSWERED (i : Nat) : Nat := 0x1E100B + i * 256
abbrev RS_FLITS (i : Nat) : Nat := 0x1E100C + i * 256

/-! Objects of *Table 13.14*. -/
abbrev MEM_MEM_STATE : Nat := 0x1C0001
abbrev MEM_MEM_CONFIG : Nat := 0x1C0002
abbrev MEM_MEM_ENABLE : Nat := 0x1C0003
abbrev MEM_CAPACITY : Nat := 0x1C0004
abbrev MEM_REGIONS : Nat := 0x1C0005
abbrev MEM_INIT_STATUS : Nat := 0x1C0006
abbrev MEM_INTEGRITY_FAIL : Nat := 0x1C0007
abbrev MEM_INTEGRITY_FAIL_COUNT : Nat := 0x1C0008
abbrev MEM_CORRECTED : Nat := 0x1C0009
abbrev MEM_POISONED_READS : Nat := 0x1C000A
abbrev MEM_POISONED_WRITES : Nat := 0x1C000B
abbrev MEM_RETIRED_ACCESSES : Nat := 0x1C000C
abbrev MEM_MEM_REFUSED : Nat := 0x1C000D
abbrev MEM_SCRUB_UNCORRECTABLE : Nat := 0x1C000E
abbrev MEM_REENCRYPTIONS : Nat := 0x1C000F
abbrev MEM_TC_HITS : Nat := 0x1C0010
abbrev MEM_TC_MISSES : Nat := 0x1C0011
abbrev MEM_TC_WRITEBACKS : Nat := 0x1C0012
abbrev MEM_PIPE_MAXWAIT : Nat := 0x1C0013
abbrev MEM_WINDOW_ADDR : Nat := 0x1C0014
abbrev MEM_WINDOW : Nat := 0x1C0015
abbrev MEM_WALK : Nat := 0x1C0016
abbrev MEM_WALK_CTRL : Nat := 0x1C0017

/-! Objects of *Table 13.15*. -/
abbrev MEMC_STATE (i : Nat) : Nat := 0x1C0801 + i * 256
abbrev MEMC_TRAIN_STEP (i : Nat) : Nat := 0x1C0802 + i * 256
abbrev MEMC_TRAIN_STATUS (i : Nat) : Nat := 0x1C0803 + i * 256
abbrev MEMC_RETRAIN_INTERVAL (i : Nat) : Nat := 0x1C0804 + i * 256
abbrev MEMC_RETRAINS (i : Nat) : Nat := 0x1C0805 + i * 256
abbrev MEMC_REF_POSTPONED (i : Nat) : Nat := 0x1C0806 + i * 256
abbrev MEMC_MR4 (i : Nat) : Nat := 0x1C0807 + i * 256
abbrev MEMC_HOT (i : Nat) : Nat := 0x1C0808 + i * 256
abbrev MEMC_HOT_COUNT (i : Nat) : Nat := 0x1C0809 + i * 256
abbrev MEMC_READS (i : Nat) : Nat := 0x1C080A + i * 256
abbrev MEMC_WRITES (i : Nat) : Nat := 0x1C080B + i * 256
abbrev MEMC_MAX_ACCESS_NS (i : Nat) : Nat := 0x1C080C + i * 256

/-! Objects of *Table 13.16*. -/
abbrev GRIND_STREAMS (i : Nat) : Nat := 0x1C2001 + i * 256
abbrev GRIND_PORT_STATUS (i : Nat) : Nat := 0x1C2002 + i * 256
abbrev GRIND_CARAFE_FREE (i : Nat) : Nat := 0x1C2003 + i * 256
abbrev GRIND_GRIND_ERR (i : Nat) : Nat := 0x1C2004 + i * 256
abbrev GRIND_GRIND_ERR_COUNT (i : Nat) : Nat := 0x1C2005 + i * 256
abbrev GRIND_WORDS_OUT (i : Nat) : Nat := 0x1C2006 + i * 256

/-! Objects of *Table 13.17*. -/
abbrev KID_KID_STATE (i : Nat) : Nat := 0x1C4001 + i * 256
abbrev KID_KEY (i : Nat) : Nat := 0x1C4002 + i * 256
abbrev KID_RETIRE (i : Nat) : Nat := 0x1C4003 + i * 256
abbrev KID_RETIRE_STATUS (i : Nat) : Nat := 0x1C4004 + i * 256
abbrev KID_ACCESSES (i : Nat) : Nat := 0x1C4005 + i * 256
abbrev KID_KEY_LOADS (i : Nat) : Nat := 0x1C4006 + i * 256

/-! Objects of *Table 14.8*. -/
abbrev MARCH_MARCH_TARGET : Nat := 0x1C3001
abbrev MARCH_MARCH_MODE : Nat := 0x1C3002
abbrev MARCH_MARCH_START : Nat := 0x1C3003
abbrev MARCH_MARCH_STATE : Nat := 0x1C3004
abbrev MARCH_MARCH_STATUS : Nat := 0x1C3005
abbrev MARCH_MARCH_RESULT : Nat := 0x1C3006
abbrev MARCH_STARTUP_RESULT : Nat := 0x1C3007
abbrev MARCH_MARCH_RUNS : Nat := 0x1C3008

/-! Objects of *Table 14.9*. -/
abbrev PATROL_SCRUB_PROGRAM : Nat := 0x1C3101
abbrev PATROL_SCRUB_ENABLE : Nat := 0x1C3102
abbrev PATROL_SCRUB_STEP : Nat := 0x1C3103
abbrev PATROL_FORCE_AFTER : Nat := 0x1C3104
abbrev PATROL_PASSES : Nat := 0x1C3105
abbrev PATROL_CORRECTED_SCRUB : Nat := 0x1C3106
abbrev PATROL_UNCORRECTABLE_SCRUB : Nat := 0x1C3107
abbrev PATROL_STEALS : Nat := 0x1C3108
abbrev PATROL_LAG : Nat := 0x1C3109
abbrev PATROL_SRAM_CORRECTED : Nat := 0x1C310A
abbrev PATROL_SRAM_UNCORRECTABLE : Nat := 0x1C310B
abbrev PATROL_SRAM_ERR : Nat := 0x1C310C
abbrev PATROL_SRAM_ERR_COUNT : Nat := 0x1C310D

/-! Objects of *Table 15.11*. -/
abbrev CLKREF_STABLE_GATES : Nat := 0x140001
abbrev CLKREF_LAST_GATE : Nat := 0x140002
abbrev CLKREF_BAD_GATES : Nat := 0x140003
abbrev CLKREF_MISSING_EDGES : Nat := 0x140004
abbrev CLKREF_CLKREF_LOST : Nat := 0x140005
abbrev CLKREF_CLKREF_LOST_COUNT : Nat := 0x140006
abbrev CLKREF_PAD_RELEASE : Nat := 0x140007
abbrev CLKREF_AUTO_RELEASE : Nat := 0x140008
abbrev CLKREF_LOSS_TT : Nat := 0x140009

/-! Objects of *Table 15.12*. -/
abbrev CLK_CLK_ENABLE : Nat := 0x140101
abbrev CLK_CLK_READY : Nat := 0x140102
abbrev CLK_CLK_RUNNING : Nat := 0x140103
abbrev CLK_ENABLE_REFUSED : Nat := 0x140104
abbrev CLK_GATED_COUNT : Nat := 0x140105
abbrev CLK_PLL_LOCKED : Nat := 0x140106
abbrev CLK_UNLOCK : Nat := 0x140107
abbrev CLK_UNLOCK_COUNT : Nat := 0x140108
abbrev CLK_LAST_UNLOCK : Nat := 0x140109
abbrev CLK_DISCARDED : Nat := 0x14010A
abbrev CLK_SWITCH_REFUSED : Nat := 0x14010B

/-! Objects of *Table 15.13*. -/
abbrev FPLL_M (i : Nat) : Nat := 0x140201 + i * 256
abbrev FPLL_DIV (i : Nat) : Nat := 0x140202 + i * 256
abbrev FPLL_LOCKED (i : Nat) : Nat := 0x140203 + i * 256

/-! Objects of *Table 15.13*. -/
abbrev GCLK_SRC (i : Nat) : Nat := 0x141001 + i * 256
abbrev GCLK_FREQ (i : Nat) : Nat := 0x141002 + i * 256

/-! Objects of *Table 15.13*. -/
abbrev RCLK_SRC (i : Nat) : Nat := 0x142001 + i * 256
abbrev RCLK_DIV (i : Nat) : Nat := 0x142002 + i * 256
abbrev RCLK_FREQ (i : Nat) : Nat := 0x142003 + i * 256

/-! Objects of *Table 15.14*. -/
abbrev PWR_SLEEP_TARGET : Nat := 0x150001
abbrev PWR_SLEEP_AT : Nat := 0x150002
abbrev PWR_SLEEP_ARM : Nat := 0x150003
abbrev PWR_SLEEP_CANCEL : Nat := 0x150004
abbrev PWR_SLEEP_STATUS : Nat := 0x150005
abbrev PWR_SLEEP_CAUSE : Nat := 0x150006
abbrev PWR_PROG_RUN : Nat := 0x150007
abbrev PWR_PROG_STEP : Nat := 0x150008
abbrev PWR_WAKE_ENABLE : Nat := 0x150009
abbrev PWR_WAKE_PENDING : Nat := 0x15000A
abbrev PWR_WAKE_EVENT : Nat := 0x15000B
abbrev PWR_WAKE_EVENT_COUNT : Nat := 0x15000C
abbrev PWR_WAKE_REQUEST : Nat := 0x15000D
abbrev PWR_WAKE_TRIG : Nat := 0x15000E
abbrev PWR_RUN_USER : Nat := 0x15000F
abbrev PWR_USER_STATUS : Nat := 0x150010

/-! Objects of *Table 15.15*. -/
abbrev SPROG_PROGRAM (i : Nat) : Nat := 0x150101 + i * 256

/-! Objects of *Table 15.15*. -/
abbrev SHED_STATE (i : Nat) : Nat := 0x151001 + i * 256
abbrev SHED_ALLOWED (i : Nat) : Nat := 0x151002 + i * 256
abbrev SHED_SHED_RESET (i : Nat) : Nat := 0x151003 + i * 256
abbrev SHED_RESETS (i : Nat) : Nat := 0x151004 + i * 256
abbrev SHED_TRANSITIONS (i : Nat) : Nat := 0x151005 + i * 256

/-! Objects of *Table 16.11*. -/
abbrev DBG_DEBUG_LEVEL : Nat := 0x3A0001
abbrev DBG_CHALLENGE : Nat := 0x3A0002
abbrev DBG_RESPONSE : Nat := 0x3A0003
abbrev DBG_DEBUG_LOCK : Nat := 0x3A0004
abbrev DBG_RESPONSE_FAILS : Nat := 0x3A0005
abbrev DBG_DBG_AS : Nat := 0x3A0006
abbrev DBG_PORT_TRANSACTIONS : Nat := 0x3A0007
abbrev DBG_OW_ERRORS : Nat := 0x3A0008
abbrev DBG_TAP_BLOCKED : Nat := 0x3A0009
abbrev DBG_PORT_OVERRUNS : Nat := 0x3A000A

/-! Objects of *Table 16.12*. -/
abbrev TRACE_TRACE_RUN : Nat := 0x3A0101
abbrev TRACE_TRACE_MODE : Nat := 0x3A0102
abbrev TRACE_TRACE_CLASSES : Nat := 0x3A0103
abbrev TRACE_TRACE_MC : Nat := 0x3A0104
abbrev TRACE_TRACE_ENGINES : Nat := 0x3A0105
abbrev TRACE_TRACE_CHANNELS : Nat := 0x3A0106
abbrev TRACE_TRACE_WPTR : Nat := 0x3A0107
abbrev TRACE_TRACE_WRAPPED : Nat := 0x3A0108
abbrev TRACE_TRACE_LOST : Nat := 0x3A0109
abbrev TRACE_TRACE_DATA : Nat := 0x3A010A
abbrev TRACE_TRACE_USER : Nat := 0x3A010B

/-! Objects of *Table 16.13*. -/
abbrev RUN_HALT_REQ (i : Nat) : Nat := 0x3A1001 + i * 256
abbrev RUN_RESUME (i : Nat) : Nat := 0x3A1002 + i * 256
abbrev RUN_STEP (i : Nat) : Nat := 0x3A1003 + i * 256
abbrev RUN_RUN_STATE (i : Nat) : Nat := 0x3A1004 + i * 256
abbrev RUN_HALT_CAUSE (i : Nat) : Nat := 0x3A1005 + i * 256
abbrev RUN_DPC (i : Nat) : Nat := 0x3A1006 + i * 256
abbrev RUN_GPR (i : Nat) : Nat := 0x3A1007 + i * 256
abbrev RUN_COMP (i : Nat) : Nat := 0x3A1008 + i * 256

/-! Objects of *Table 16.14*. -/
abbrev ENGDBG_ENG_HALT : Nat := 0x3A2001
abbrev ENGDBG_ENG_RESUME : Nat := 0x3A2002
abbrev ENGDBG_ENG_STEP : Nat := 0x3A2003
abbrev ENGDBG_ENG_COMP : Nat := 0x3A2004
abbrev ENGDBG_ENG_HALT_CAUSE : Nat := 0x3A2005
abbrev ENGDBG_ENG_COMP_HITS : Nat := 0x3A2006

/-! Objects of *Table 16.15*. -/
abbrev EVC_EVSEL (i : Nat) : Nat := 0x3A3001 + i * 256
abbrev EVC_COUNT (i : Nat) : Nat := 0x3A3002 + i * 256
abbrev EVC_CLEAR (i : Nat) : Nat := 0x3A3003 + i * 256

/-! Objects of *Table 16.15*. -/
abbrev EVSNAP_SNAP : Nat := 0x3A4001
abbrev EVSNAP_SNAP_TT : Nat := 0x3A4002
abbrev EVSNAP_SNAP_VALUES : Nat := 0x3A4003

/-! Objects of *Table 16.16*. -/
abbrev WD_ENABLE (i : Nat) : Nat := 0x121001 + i * 256
abbrev WD_TIMEOUT (i : Nat) : Nat := 0x121002 + i * 256
abbrev WD_PRETIMEOUT (i : Nat) : Nat := 0x121003 + i * 256
abbrev WD_KICK (i : Nat) : Nat := 0x121004 + i * 256
abbrev WD_REMAINING (i : Nat) : Nat := 0x121005 + i * 256
abbrev WD_FROZEN (i : Nat) : Nat := 0x121006 + i * 256
abbrev WD_EXPIRED (i : Nat) : Nat := 0x121007 + i * 256
abbrev WD_EXPIRED_COUNT (i : Nat) : Nat := 0x121008 + i * 256
abbrev WD_BAD_KICKS (i : Nat) : Nat := 0x121009 + i * 256

/-! Objects of *Table 17.8*. -/
abbrev SUP_SUPPLY_OK : Nat := 0x100201
abbrev SUP_SUPPLY_WARN : Nat := 0x100202
abbrev SUP_SUPPLY_WARN_COUNT : Nat := 0x100203
abbrev SUP_VSENSE : Nat := 0x100204
abbrev SUP_TEMP_WARN : Nat := 0x100205
abbrev SUP_TEMP_SENSORS : Nat := 0x100206
abbrev SUP_THERM_TRIP : Nat := 0x100207
abbrev SUP_THERM_TRIP_COUNT : Nat := 0x100208
abbrev SUP_THERM_RELEASE : Nat := 0x100209
abbrev SUP_VDDQ_LOW : Nat := 0x10020A

/-! Objects that the text defines outside a card: R69, R218, R219, R384. -/
abbrev MC_IMAGE (i : Nat) : Nat := 0x122001 + i * 256
abbrev SITES : Nat := 0x301001
abbrev SITE_FAILS : Nat := 0x301002
abbrev SITE_FAILS_CLEAR : Nat := 0x301003
abbrev DS_DOUBLE : Nat := 0x1C3201

end O

/-- Cards of *Table 2.6*, base index 0x1041, 63 objects. -/
def cards_LED (i : Nat) : List Card :=
  [⟨0x01, .u8, .ro, false, ledgerKind i, 0xFF, 0, 255⟩,
   ⟨0x02, .u8, .ro, false, ledgerTerms i, 0xFF, 0, 255⟩,
   ⟨0x03, .bool, .wo, false, 0, 0x1, 0, 255⟩,
   ⟨0x04, .tt, .ro, false, 0, 0xFFFFFFFFFFFFFFFF7FFF, 0, 1208925819614629174706175⟩,
   ⟨0x05, .bool, .ro, false, 1, 0x1, 0, 255⟩,
   ⟨0x06, .bool, .w1c, false, 0, 0x1, 0, 255⟩,
   ⟨0x07, .u32, .ro, false, 0, 0xFFFFFFFF, 0, 4294967295⟩,
   ⟨0x10, .u64, .ro, false, ledgerInit i 0, 0xFFFFFFFFFFFFFFFF, 0, 18446744073709551615⟩,
   ⟨0x11, .u64, .ro, false, ledgerInit i 1, 0xFFFFFFFFFFFFFFFF, 0, 18446744073709551615⟩,
   ⟨0x12, .u64, .ro, false, 0, 0xFFFFFFFFFFFFFFFF, 0, 18446744073709551615⟩,
   ⟨0x13, .u64, .ro, false, 0, 0xFFFFFFFFFFFFFFFF, 0, 18446744073709551615⟩,
   ⟨0x14, .u64, .ro, false, 0, 0xFFFFFFFFFFFFFFFF, 0, 18446744073709551615⟩,
   ⟨0x15, .u64, .ro, false, 0, 0xFFFFFFFFFFFFFFFF, 0, 18446744073709551615⟩,
   ⟨0x16, .u64, .ro, false, 0, 0xFFFFFFFFFFFFFFFF, 0, 18446744073709551615⟩,
   ⟨0x17, .u64, .ro, false, 0, 0xFFFFFFFFFFFFFFFF, 0, 18446744073709551615⟩,
   ⟨0x18, .u64, .ro, false, ledgerInit i 0, 0xFFFFFFFFFFFFFFFF, 0, 18446744073709551615⟩] ++
  [⟨0x19, .u64, .ro, false, ledgerInit i 1, 0xFFFFFFFFFFFFFFFF, 0, 18446744073709551615⟩,
   ⟨0x1A, .u64, .ro, false, 0, 0xFFFFFFFFFFFFFFFF, 0, 18446744073709551615⟩,
   ⟨0x1B, .u64, .ro, false, 0, 0xFFFFFFFFFFFFFFFF, 0, 18446744073709551615⟩,
   ⟨0x1C, .u64, .ro, false, 0, 0xFFFFFFFFFFFFFFFF, 0, 18446744073709551615⟩,
   ⟨0x1D, .u64, .ro, false, 0, 0xFFFFFFFFFFFFFFFF, 0, 18446744073709551615⟩,
   ⟨0x1E, .u64, .ro, false, 0, 0xFFFFFFFFFFFFFFFF, 0, 18446744073709551615⟩,
   ⟨0x1F, .u64, .ro, false, 0, 0xFFFFFFFFFFFFFFFF, 0, 18446744073709551615⟩]

/-- Cards of *Table 2.8*, base index 0x1000, 1 object. -/
def cards_ID (_ : Nat) : List Card :=
  [⟨0x01, .string, .ro, false, 0, 0, 0, 0⟩,
   ⟨0x02, .string, .ro, false, 0, 0, 0, 0⟩,
   ⟨0x03, .string, .ro, false, 0, 0, 0, 0⟩,
   ⟨0x04, .u16, .ro, false, 0, 0xFFFF, 0, 65535⟩,
   ⟨0x05, .u64, .ro, false, 0, 0xFFFFFFFFFFFFFFFF, 0, 18446744073709551615⟩,
   ⟨0x06, .u16, .ro, false, 256, 0xFFFF, 0, 65535⟩,
   ⟨0x07, .u8, .ro, false, 0, 0xFF, 0, 255⟩,
   ⟨0x08, .u8, .ro, false, 255, 0xFF, 0, 255⟩,
   ⟨0x09, .bool, .ro, false, 0, 0x1, 0, 255⟩]

/-- Cards of *Table 2.9*, base index 0x1001, 1 object. -/
def cards_DEV (_ : Nat) : List Card :=
  [⟨0x01, .u8, .ro, false, 0, 0xFF, 0, 255⟩,
   ⟨0x02, .u64, .ro, false, 0, 0xFFFFFFFFFFFFFFFF, 0, 18446744073709551615⟩,
   ⟨0x03, .u8, .ro, false, 0, 0xFF, 0, 255⟩,
   ⟨0x04, .bool, .ro, false, 0, 0x1, 0, 255⟩,
   ⟨0x05, .u32, .w1c, false, 0, 0xFFFFFFFF, 0, 4294967295⟩,
   ⟨0x06, .u32, .ro, false, 0, 0xFFFFFFFF, 0, 4294967295⟩,
   ⟨0x07, .i32, .ro, false, 0, 0xFFFFFFFF, -2147483648, 2147483647⟩,
   ⟨0x08, .u32, .ro, false, 0, 0xFFFFFFFF, 0, 4294967295⟩,
   ⟨0x09, .u32, .ro, false, 0, 0xFFFFFFFF, 0, 4294967295⟩,
   ⟨0x0A, .u32, .ro, false, 0, 0xFFFFFFFF, 0, 4294967295⟩,
   ⟨0x0B, .u32, .ro, false, 0, 0xFFFFFFFF, 0, 4294967295⟩,
   ⟨0x10, .u32, .ro, false, 0, 0xFFFFFFFF, 0, 4294967295⟩,
   ⟨0x11, .u32, .ro, false, 0, 0xFFFFFFFF, 0, 4294967295⟩,
   ⟨0x12, .u32, .ro, false, 0, 0xFFFFFFFF, 0, 4294967295⟩,
   ⟨0x13, .u32, .ro, false, 0, 0xFFFFFFFF, 0, 4294967295⟩,
   ⟨0x14, .u32, .ro, false, 0, 0xFFFFFFFF, 0, 4294967295⟩] ++
  [⟨0x15, .u32, .ro, false, 0, 0xFFFFFFFF, 0, 4294967295⟩,
   ⟨0x16, .u32, .ro, false, 0, 0xFFFFFFFF, 0, 4294967295⟩,
   ⟨0x17, .u32, .ro, false, 0, 0xFFFFFFFF, 0, 4294967295⟩,
   ⟨0x18, .u32, .ro, false, 0, 0xFFFFFFFF, 0, 4294967295⟩]

/-- Cards of *Table 2.14*, base index 0x1140, 64 objects. -/
def cards_SES (_ : Nat) : List Card :=
  [⟨0x01, .u8, .ro, false, 0, 0xFF, 0, 255⟩,
   ⟨0x02, .u8, .ro, false, 0, 0xFF, 0, 255⟩,
   ⟨0x03, .u8, .ro, false, 0, 0xFF, 0, 255⟩,
   ⟨0x04, .u16, .ro, false, 0, 0xFFFF, 0, 65535⟩,
   ⟨0x05, .u32, .ro, false, 0, 0xFFFFFFFF, 0, 4294967295⟩,
   ⟨0x06, .u32, .ro, false, 0, 0xFFFFFFFF, 0, 4294967295⟩,
   ⟨0x07, .u32, .ro, false, 0, 0xFFFFFFFF, 0, 4294967295⟩,
   ⟨0x08, .tt, .ro, false, 0, 0xFFFFFFFFFFFFFFFF7FFF, 0, 1208925819614629174706175⟩,
   ⟨0x09, .bool, .wo, false, 0, 0x1, 0, 255⟩]

/-- Cards of *Table 2.16*, base index 0x1200, 1 object. -/
def cards_LATCH (_ : Nat) : List Card :=
  [⟨0x01, .u8, .ro, false, 0, 0xFF, 0, 255⟩,
   ⟨0x02, .u8, .ro, false, 0, 0xFF, 0, 255⟩,
   ⟨0x03, .u32, .ro, false, 0, 0xFFFFFFFF, 0, 4294967295⟩,
   ⟨0x04, .u8, .wo, false, 0, 0xFF, 0, 255⟩,
   ⟨0x05, .u8, .wo, false, 0, 0xFF, 0, 255⟩,
   ⟨0x06, .u8, .wo, false, 0, 0xFF, 0, 255⟩,
   ⟨0x07, .u8, .wo, false, 0, 0xFF, 0, 255⟩,
   ⟨0x08, .u16, .rw, false, 10, 0xFFFF, 1, 1000⟩,
   ⟨0x09, .bool, .wo, false, 0, 0x1, 0, 255⟩,
   ⟨0x0A, .bool, .w1c, false, 0, 0x1, 0, 255⟩,
   ⟨0x0B, .u32, .ro, false, 0, 0xFFFFFFFF, 0, 4294967295⟩,
   ⟨0x0C, .u32, .ro, false, 0, 0xFFFFFFFF, 0, 4294967295⟩]

/-- Cards of *Table 2.17*, base index 0x1201, 2 objects. -/
def cards_MC (_ : Nat) : List Card :=
  [⟨0x01, .u32, .wo, false, 0, 0xFFFFFFFF, 0, 4294967295⟩,
   ⟨0x02, .u8, .ro, false, 0, 0xFF, 0, 255⟩,
   ⟨0x03, .bool, .ro, false, 0, 0x1, 0, 255⟩,
   ⟨0x04, .bool, .ro, false, 0, 0x1, 0, 255⟩,
   ⟨0x05, .u32, .ro, false, 0, 0xFFFFFFFF, 0, 4294967295⟩,
   ⟨0x06, .u8, .ro, false, 0, 0xFF, 0, 255⟩,
   ⟨0x07, .u8, .ro, false, 0, 0xFF, 0, 255⟩,
   ⟨0x08, .u32, .ro, false, 0, 0xFFFFFFFF, 0, 4294967295⟩]

/-- Cards of *Table 2.20*, base index 0x1110, 1 object. -/
def cards_KISKO (_ : Nat) : List Card :=
  [⟨0x01, .u16, .rwl, false, 47210, 0xFFFF, 1, 65535⟩,
   ⟨0x02, .u32, .rw, false, 10000, 0xFFFFFFFF, 100, 600000⟩,
   ⟨0x03, .u16, .rw, false, 5000, 0xFFFF, 100, 65535⟩,
   ⟨0x04, .u8, .ro, false, 0, 0xFF, 0, 255⟩,
   ⟨0x05, .u8, .ro, false, 0, 0xFF, 0, 255⟩,
   ⟨0x06, .u32, .ro, false, 0, 0xFFFFFFFF, 0, 4294967295⟩]

/-- Cards of *Table 2.21*, base index 0x1120, 1 object. -/
def cards_KEYS (_ : Nat) : List Card :=
  [⟨0x01, .domain, .wo, false, 0, 0, 0, 0⟩,
   ⟨0x02, .domain, .wo, false, 0, 0, 0, 0⟩,
   ⟨0x03, .domain, .wo, false, 0, 0, 0, 0⟩,
   ⟨0x04, .domain, .wo, false, 0, 0, 0, 0⟩,
   ⟨0x05, .domain, .wo, false, 0, 0, 0, 0⟩,
   ⟨0x06, .domain, .ro, false, 0, 0, 0, 0⟩,
   ⟨0x07, .u8, .ro, false, 0, 0xFF, 0, 255⟩]

/-- Cards of *Table 3.4*, base index 0x1A00, 1 object. -/
def cards_MARK (_ : Nat) : List Card :=
  [⟨0x01, .u8, .ro, false, 0, 0xFF, 0, 255⟩,
   ⟨0x02, .bool, .ro, false, 0, 0x1, 0, 255⟩,
   ⟨0x03, .u16, .ro, false, 0, 0xFFFF, 0, 65535⟩,
   ⟨0x04, .bool, .ro, false, 0, 0x1, 0, 255⟩,
   ⟨0x05, .bool, .w1c, false, 0, 0x1, 0, 255⟩,
   ⟨0x06, .u32, .ro, false, 0, 0xFFFFFFFF, 0, 4294967295⟩,
   ⟨0x07, .u32, .ro, false, 0, 0xFFFFFFFF, 0, 4294967295⟩,
   ⟨0x08, .u64, .ro, false, 0, 0xFFFFFFFFFFFFFFFF, 0, 18446744073709551615⟩,
   ⟨0x09, .tt, .ro, false, 0, 0xFFFFFFFFFFFFFFFF7FFF, 0, 1208925819614629174706175⟩,
   ⟨0x0A, .bool, .wo, false, 0, 0x1, 0, 255⟩,
   ⟨0x0B, .u32, .ro, false, 0, 0xFFFFFFFF, 0, 4294967295⟩]

/-- Cards of *Table 3.6*, base index 0x1A01, 1 object. -/
def cards_SCHED (_ : Nat) : List Card :=
  [⟨0x01, .tt, .ro, false, 1208925819614629174640640, 0xFFFFFFFFFFFFFFFF7FFF, 0, 1208925819614629174706175⟩,
   ⟨0x02, .u32, .ro, false, 0, 0xFFFFFFFF, 0, 4294967295⟩,
   ⟨0x03, .u32, .ro, false, 0, 0xFFFFFFFF, 0, 4294967295⟩]

/-- Cards of *Table 3.8*, base index 0x1A10, 2 objects. -/
def cards_PTP (i : Nat) : List Card :=
  [⟨0x01, .bool, .rw, false, 0, 0x1, 0, 255⟩,
   ⟨0x02, .u8, .rwl, false, i, 0xFF, 0, 127⟩,
   ⟨0x03, .u8, .rwl, false, 2, 0xFF, 0, 2⟩,
   ⟨0x04, .u8, .ro, false, 0, 0xFF, 0, 255⟩,
   ⟨0x05, .u64, .ro, false, 0, 0xFFFFFFFFFFFFFFFF, 0, 18446744073709551615⟩,
   ⟨0x06, .i64, .ro, false, 0, 0xFFFFFFFFFFFFFFFF, -9223372036854775808, 9223372036854775807⟩,
   ⟨0x07, .i32, .ro, false, 0, 0xFFFFFFFF, -2147483648, 2147483647⟩,
   ⟨0x08, .u16, .rw, false, 100, 0xFFFF, 10, 2000⟩,
   ⟨0x09, .u32, .rw, false, 100, 0xFFFFFFFF, 10, 1000000⟩,
   ⟨0x0A, .u32, .rw, false, 10000, 0xFFFFFFFF, 100, 3600000⟩,
   ⟨0x0B, .bool, .w1c, false, 0, 0x1, 0, 255⟩,
   ⟨0x0C, .u32, .ro, false, 0, 0xFFFFFFFF, 0, 4294967295⟩,
   ⟨0x0D, .u64, .ro, false, 0, 0xFFFFFFFFFFFFFFFF, 0, 18446744073709551615⟩]

/-- Cards of *Table 3.9*, base index 0x1A12, 1 object. -/
def cards_ACT (_ : Nat) : List Card :=
  [⟨0x01, .u8, .ro, false, 0, 0xFF, 0, 255⟩,
   ⟨0x02, .tt, .rw, false, 0, 0xFFFFFFFFFFFFFFFF7FFF, 0, 1208925819614629174706175⟩,
   ⟨0x03, .bool, .wo, false, 0, 0x1, 0, 255⟩,
   ⟨0x04, .bool, .wo, false, 0, 0x1, 0, 255⟩,
   ⟨0x05, .u8, .rw, false, 0, 0xFF, 0, 1⟩,
   ⟨0x06, .u32, .rw, false, 10000, 0xFFFFFFFF, 1, 100000⟩,
   ⟨0x07, .i64, .ro, false, 0, 0xFFFFFFFFFFFFFFFF, -9223372036854775808, 9223372036854775807⟩,
   ⟨0x08, .u32, .rw, false, 1000000, 0xFFFFFFFF, 0, 4294967295⟩,
   ⟨0x09, .u8, .ro, false, 0, 0xFF, 0, 255⟩,
   ⟨0x0A, .bool, .w1c, false, 0, 0x1, 0, 255⟩,
   ⟨0x0B, .u32, .ro, false, 0, 0xFFFFFFFF, 0, 4294967295⟩]

/-- Cards of *Table 3.12*, base index 0x1A20, 16 objects. -/
def cards_TRIG (_ : Nat) : List Card :=
  [⟨0x01, .u8, .rw, false, 0, 0xFF, 0, 2⟩,
   ⟨0x02, .u8, .rw, false, 0, 0xFF, 0, 2⟩,
   ⟨0x03, .tt, .rw, false, 0, 0xFFFFFFFFFFFFFFFF7FFF, 0, 1208925819614629174706175⟩,
   ⟨0x04, .u32, .rw, false, 10000, 0xFFFFFFFF, 1000, 4000000000⟩,
   ⟨0x05, .u64, .rw, false, 40000, 0xFFFFFFFFFFFFFFFF, 40000, 9223372036854775807⟩,
   ⟨0x06, .u32, .rw, false, 1, 0xFFFFFFFF, 1, 4294967295⟩,
   ⟨0x07, .bool, .wo, false, 0, 0x1, 0, 255⟩,
   ⟨0x08, .bool, .wo, false, 0, 0x1, 0, 255⟩,
   ⟨0x09, .u8, .ro, false, 0, 0xFF, 0, 255⟩,
   ⟨0x0A, .u32, .rw, false, 10000, 0xFFFFFFFF, 10000, 1000000000⟩,
   ⟨0x0B, .u16, .rw, false, 0, 0xFFFF, 0, 32767⟩,
   ⟨0x0C, .bool, .w1c, false, 0, 0x1, 0, 255⟩,
   ⟨0x0D, .u32, .ro, false, 0, 0xFFFFFFFF, 0, 4294967295⟩,
   ⟨0x0E, .u64, .ro, false, 0, 0xFFFFFFFFFFFFFFFF, 0, 18446744073709551615⟩]

/-- Cards of *Table 4.4*, base index 0x2100, 4 objects. -/
def cards_BANK (i : Nat) : List Card :=
  [⟨0x01, .domain, .rw, false, 0, 0, 0, 0⟩,
   ⟨0x02, .bool, .ro, false, if i = 0 then 1 else 0, 0x1, 0, 255⟩,
   ⟨0x03, .tt, .rw, false, 0, 0xFFFFFFFFFFFFFFFF7FFF, 0, 1208925819614629174706175⟩,
   ⟨0x04, .bool, .wo, false, 0, 0x1, 0, 255⟩,
   ⟨0x05, .bool, .wo, false, 0, 0x1, 0, 255⟩,
   ⟨0x06, .u32, .ro, false, 0, 0xFFFFFFFF, 0, 4294967295⟩]

/-- Cards of *Table 4.15*, base index 0x2000, 144 objects. -/
def cards_CH (_ : Nat) : List Card :=
  [⟨0x01, .u8, .rwl, false, 0, 0xFF, 0, 1⟩,
   ⟨0x02, .u8, .ro, false, 4, 0xFF, 0, 255⟩,
   ⟨0x03, .u16, .rwl, false, 0, 0xFFFF, 0, 1023⟩,
   ⟨0x04, .u8, .rwl, false, 0, 0xFF, 0, 1⟩,
   ⟨0x05, .u8, .rw, false, 0, 0x3, 0, 255⟩,
   ⟨0x06, .u8, .rw, false, 17, 0x1F, 0, 255⟩,
   ⟨0x07, .i32, .rw, false, 0, 0xFFFFFFFF, -2147483648, 2147483647⟩,
   ⟨0x08, .i32, .rwl, false, 0, 0xFFFFFFFF, -2048, 2047⟩,
   ⟨0x09, .i32, .rwl, false, 0, 0xFFFFFFFF, -2048, 2047⟩,
   ⟨0x0A, .i32, .rwl, false, 0, 0xFFFFFFFF, -2048, 2047⟩,
   ⟨0x0B, .i32, .rwl, false, 0, 0xFFFFFFFF, -2048, 2047⟩,
   ⟨0x0C, .bool, .rw, false, 1, 0x1, 0, 255⟩,
   ⟨0x0D, .u32, .ro, false, 0, 0xFFFFFFFF, 0, 4294967295⟩,
   ⟨0x0E, .bool, .ro, false, 0, 0x1, 0, 255⟩,
   ⟨0x0F, .u32, .ro, false, 0, 0xFFFFFFFF, 0, 4294967295⟩,
   ⟨0x10, .domain, .rw, false, 0, 0, 0, 0⟩] ++
  [⟨0x11, .domain, .rw, false, 0, 0, 0, 0⟩,
   ⟨0x12, .bool, .w1c, false, 0, 0x1, 0, 255⟩,
   ⟨0x13, .u32, .ro, false, 0, 0xFFFFFFFF, 0, 4294967295⟩,
   ⟨0x14, .bool, .w1c, false, 0, 0x1, 0, 255⟩,
   ⟨0x15, .u32, .ro, false, 0, 0xFFFFFFFF, 0, 4294967295⟩,
   ⟨0x16, .u8, .ro, false, 0, 0xFF, 0, 255⟩,
   ⟨0x17, .u32, .ro, false, 0, 0xFFFFFFFF, 0, 4294967295⟩,
   ⟨0x18, .u32, .ro, false, 0, 0xFFFFFFFF, 0, 4294967295⟩,
   ⟨0x19, .u8, .ro, false, 0, 0xFF, 0, 255⟩,
   ⟨0x1A, .u64, .ro, false, 0, 0xFFFFFFFFFFFFFFFF, 0, 18446744073709551615⟩,
   ⟨0x1B, .bool, .ro, false, 1, 0x1, 0, 255⟩,
   ⟨0x1C, .bool, .ro, false, 0, 0x1, 0, 255⟩]

/-- Cards of *Table 5.17*, base index 0x2400, 512 objects. -/
def cards_ENG (i : Nat) : List Card :=
  [⟨0x01, .u8, .ro, false, 0, 0xFF, 0, 255⟩,
   ⟨0x02, .u16, .ro, false, 0, 0xFFFF, 0, 65535⟩,
   ⟨0x03, .u8, .ro, false, 0, 0xFF, 0, 255⟩,
   ⟨0x04, .u8, .rwl, false, 0, 0xFF, 0, 15⟩,
   ⟨0x05, .tt, .rw, false, 0, 0xFFFFFFFFFFFFFFFF7FFF, 0, 1208925819614629174706175⟩,
   ⟨0x06, .bool, .wo, false, 0, 0x1, 0, 255⟩,
   ⟨0x07, .bool, .wo, false, 0, 0x1, 0, 255⟩,
   ⟨0x08, .bool, .wo, false, 0, 0x1, 0, 255⟩,
   ⟨0x09, .u32, .rwl, false, 0, 0xFFFFFFFF, 0, 4294967295⟩,
   ⟨0x0A, .u32, .rwl, false, 0, 0xFFFFFFFF, 0, 4294967295⟩,
   ⟨0x0B, .u32, .rwl, false, 0, 0xFFFFFFFF, 0, 4294967295⟩,
   ⟨0x0C, .u32, .rwl, false, 0, 0xFFFFFFFF, 0, 4294967295⟩,
   ⟨0x0D, .u32, .rwl, false, 0, 0xFFFFFFFF, 0, 4294967295⟩,
   ⟨0x0E, .u16, .rwl, false, 0, 0xFFFF, 0, 65535⟩,
   ⟨0x0F, .u8, .rwl, false, 8, 0xFF, 1, 14⟩,
   ⟨0x10, .domain, .rw, false, 0, 0, 0, 0⟩] ++
  [⟨0x11, .u16, .rwl, false, 65535, 0xFFFF, 0, 65535⟩,
   ⟨0x12, .bool, .w1c, false, 0, 0x1, 0, 255⟩,
   ⟨0x13, .u32, .ro, false, 0, 0xFFFFFFFF, 0, 4294967295⟩,
   ⟨0x14, .u8, .ro, false, 0, 0xFF, 0, 255⟩,
   ⟨0x15, .u16, .ro, false, 0, 0xFFFF, 0, 65535⟩,
   ⟨0x16, .bool, .w1c, false, 0, 0x1, 0, 255⟩,
   ⟨0x17, .u32, .ro, false, 0, 0xFFFFFFFF, 0, 4294967295⟩,
   ⟨0x18, .bool, .w1c, false, 0, 0x1, 0, 255⟩,
   ⟨0x19, .u32, .ro, false, 0, 0xFFFFFFFF, 0, 4294967295⟩,
   ⟨0x1A, .bool, .w1c, false, 0, 0x1, 0, 255⟩,
   ⟨0x1B, .u32, .ro, false, 0, 0xFFFFFFFF, 0, 4294967295⟩,
   ⟨0x1C, .u64, .ro, false, 0, 0xFFFFFFFFFFFFFFFF, 0, 18446744073709551615⟩,
   ⟨0x1D, .u64, .ro, false, 0, 0xFFFFFFFFFFFFFFFF, 0, 18446744073709551615⟩,
   ⟨0x1E, .u64, .ro, false, 0, 0xFFFFFFFFFFFFFFFF, 0, 18446744073709551615⟩,
   ⟨0x1F, .u64, .ro, false, 0, 0xFFFFFFFFFFFFFFFF, 0, 18446744073709551615⟩,
   ⟨0x20, .u64, .ro, false, 0, 0xFFFFFFFFFFFFFFFF, 0, 18446744073709551615⟩] ++
  [⟨0x21, .u64, .ro, false, 0, 0xFFFFFFFFFFFFFFFF, 0, 18446744073709551615⟩,
   ⟨0x22, .u8, .ro, false, i % 32, 0xFF, 0, 255⟩,
   ⟨0x23, .bool, .wo, false, 0, 0x1, 0, 255⟩,
   ⟨0x24, .u8, .ro, false, 0, 0xFF, 0, 255⟩,
   ⟨0x25, .u8, .rwl, false, 0, 0x7, 0, 255⟩,
   ⟨0x26, .u32, .ro, false, 4294967295, 0xFFFFFFFF, 0, 4294967295⟩,
   ⟨0x27, .u16, .ro, false, 0, 0xFFFF, 0, 65535⟩,
   ⟨0x28, .u16, .ro, false, 0, 0xFFFF, 0, 65535⟩,
   ⟨0x29, .u16, .ro, false, 0, 0xFFFF, 0, 65535⟩,
   ⟨0x2A, .u16, .ro, false, 0, 0xFFFF, 0, 65535⟩,
   ⟨0x2B, .u64, .ro, false, 0, 0xFFFFFFFFFFFFFFFF, 0, 18446744073709551615⟩,
   ⟨0x2C, .domain, .rwl, false, 0, 0, 0, 0⟩,
   ⟨0x2D, .u64, .rwl, false, 4294967295, 0xF0FFFFFFFF, 0, 18446744073709551615⟩,
   ⟨0x2E, .u8, .w1c, false, 0, 0xFF, 0, 255⟩,
   ⟨0x2F, .u64, .ro, false, 0, 0xFFFFFFFFFFFFFFFF, 0, 18446744073709551615⟩,
   ⟨0x30, .u32, .rwl, false, 0, 0xFFFFFFFF, 0, 4294967295⟩] ++
  [⟨0x31, .u32, .rwl, false, 0, 0xFFFFFFFF, 0, 4294967295⟩,
   ⟨0x32, .u32, .rwl, false, 0, 0xFFFFFFFF, 0, 4294967295⟩,
   ⟨0x33, .u32, .rwl, false, 0, 0xFFFFFFFF, 0, 4294967295⟩,
   ⟨0x34, .u32, .rwl, false, 0, 0xFFFFFFFF, 0, 4294967295⟩,
   ⟨0x35, .u32, .rwl, false, 0, 0xFFFFFFFF, 0, 4294967295⟩,
   ⟨0x36, .u32, .rwl, false, 0, 0xFFFFFFFF, 0, 4294967295⟩,
   ⟨0x37, .u32, .rwl, false, 0, 0xFFFFFFFF, 0, 4294967295⟩,
   ⟨0x38, .u32, .rwl, false, 0, 0xFFFFFFFF, 0, 4294967295⟩,
   ⟨0x39, .u32, .rwl, false, 0, 0xFFFFFFFF, 0, 4294967295⟩,
   ⟨0x3A, .u32, .rwl, false, 0, 0xFFFFFFFF, 0, 4294967295⟩,
   ⟨0x3B, .u32, .rwl, false, 0, 0xFFFFFFFF, 0, 4294967295⟩,
   ⟨0x3C, .u32, .rwl, false, 0, 0xFFFFFFFF, 0, 4294967295⟩,
   ⟨0x3D, .u32, .rwl, false, 0, 0xFFFFFFFF, 0, 4294967295⟩,
   ⟨0x3E, .u32, .rwl, false, 0, 0xFFFFFFFF, 0, 4294967295⟩,
   ⟨0x3F, .u32, .rwl, false, 0, 0xFFFFFFFF, 0, 4294967295⟩,
   ⟨0x40, .u32, .rwl, false, 0, 0xFFFFFFFF, 0, 4294967295⟩] ++
  [⟨0x41, .u32, .rwl, false, 0, 0xFFFFFFFF, 0, 4294967295⟩,
   ⟨0x42, .u32, .rwl, false, 0, 0xFFFFFFFF, 0, 4294967295⟩,
   ⟨0x43, .u32, .rwl, false, 0, 0xFFFFFFFF, 0, 4294967295⟩,
   ⟨0x44, .u32, .rwl, false, 0, 0xFFFFFFFF, 0, 4294967295⟩,
   ⟨0x45, .u32, .rwl, false, 0, 0xFFFFFFFF, 0, 4294967295⟩,
   ⟨0x46, .u32, .rwl, false, 0, 0xFFFFFFFF, 0, 4294967295⟩,
   ⟨0x47, .u32, .rwl, false, 0, 0xFFFFFFFF, 0, 4294967295⟩,
   ⟨0x48, .u32, .rwl, false, 0, 0xFFFFFFFF, 0, 4294967295⟩,
   ⟨0x49, .u32, .rwl, false, 0, 0xFFFFFFFF, 0, 4294967295⟩,
   ⟨0x4A, .u32, .rwl, false, 0, 0xFFFFFFFF, 0, 4294967295⟩,
   ⟨0x4B, .u32, .rwl, false, 0, 0xFFFFFFFF, 0, 4294967295⟩,
   ⟨0x4C, .u32, .rwl, false, 0, 0xFFFFFFFF, 0, 4294967295⟩,
   ⟨0x4D, .u32, .rwl, false, 0, 0xFFFFFFFF, 0, 4294967295⟩,
   ⟨0x4E, .u32, .rwl, false, 0, 0xFFFFFFFF, 0, 4294967295⟩,
   ⟨0x4F, .u32, .rwl, false, 0, 0xFFFFFFFF, 0, 4294967295⟩,
   ⟨0x50, .u32, .rwl, false, 0, 0xFFFFFFFF, 0, 4294967295⟩] ++
  [⟨0x51, .u32, .rwl, false, 0, 0xFFFFFFFF, 0, 4294967295⟩,
   ⟨0x52, .u32, .rwl, false, 0, 0xFFFFFFFF, 0, 4294967295⟩,
   ⟨0x53, .u32, .rwl, false, 0, 0xFFFFFFFF, 0, 4294967295⟩,
   ⟨0x54, .u32, .rwl, false, 0, 0xFFFFFFFF, 0, 4294967295⟩,
   ⟨0x55, .u32, .rwl, false, 0, 0xFFFFFFFF, 0, 4294967295⟩,
   ⟨0x56, .u32, .rwl, false, 0, 0xFFFFFFFF, 0, 4294967295⟩,
   ⟨0x57, .u32, .rwl, false, 0, 0xFFFFFFFF, 0, 4294967295⟩,
   ⟨0x58, .u32, .rwl, false, 0, 0xFFFFF, 0, 4294967295⟩,
   ⟨0x59, .u32, .rwl, false, 0, 0xFFFFF, 0, 4294967295⟩,
   ⟨0x5A, .u32, .rwl, false, 0, 0xFF, 0, 4294967295⟩,
   ⟨0x5B, .u32, .rwl, false, 0, 0xFFFFF, 0, 4294967295⟩,
   ⟨0x5C, .u32, .rwl, false, 0, 0xFFFFF, 0, 4294967295⟩,
   ⟨0x5D, .u32, .rwl, false, 0, 0xFF, 0, 4294967295⟩,
   ⟨0x5E, .u32, .rwl, false, 1048575, 0xFFFFF, 0, 4294967295⟩,
   ⟨0x5F, .u32, .rwl, false, 1048575, 0xFFFFF, 0, 4294967295⟩,
   ⟨0x60, .u32, .rwl, false, 255, 0xFF, 0, 4294967295⟩]

/-- Cards of *Table 5.18*, base index 0x2600, 16 objects. -/
def cards_CLU (_ : Nat) : List Card :=
  [⟨0x01, .u8, .ro, false, 0, 0xFF, 0, 255⟩,
   ⟨0x02, .u16, .ro, false, 65535, 0xFFFF, 0, 65535⟩,
   ⟨0x03, .domain, .rw, false, 0, 0, 0, 0⟩,
   ⟨0x04, .u64, .ro, false, 0, 0xFFFFFFFFFFFFFFFF, 0, 18446744073709551615⟩,
   ⟨0x05, .u64, .ro, false, 0, 0xFFFFFFFFFFFFFFFF, 0, 18446744073709551615⟩,
   ⟨0x06, .u8, .ro, false, 0, 0xFF, 0, 255⟩,
   ⟨0x07, .bool, .ro, false, 0, 0x1, 0, 255⟩,
   ⟨0x08, .u32, .ro, false, 0, 0xFFFFFFFF, 0, 4294967295⟩]

/-- Cards of *Table 7.9*, base index 0x3400, 1 object. -/
def cards_HALT (_ : Nat) : List Card :=
  [⟨0x01, .u8, .rwl, false, 0, 0xFF, 0, 15⟩,
   ⟨0x02, .u8, .rwl, false, 255, 0xFF, 0, 255⟩,
   ⟨0x03, .u8, .rwl, false, 255, 0xFF, 0, 255⟩,
   ⟨0x04, .domain, .rw, false, 0, 0, 0, 0⟩,
   ⟨0x05, .u32, .ro, false, 0, 0xFFFFFFFF, 0, 4294967295⟩,
   ⟨0x06, .u32, .ro, false, 0, 0xFFFFFFFF, 0, 4294967295⟩]

/-- Cards of *Table 7.10*, base index 0x3401, 1 object. -/
def cards_ALLOC (_ : Nat) : List Card :=
  [⟨0x01, .u64, .ro, false, 0, 0xFFFFFFFFFFFFFFFF, 0, 18446744073709551615⟩,
   ⟨0x02, .u64, .ro, false, 0, 0xFFFFFFFFFFFFFFFF, 0, 18446744073709551615⟩,
   ⟨0x03, .u64, .ro, false, 0, 0xFFFFFFFFFFFFFFFF, 0, 18446744073709551615⟩,
   ⟨0x04, .u64, .ro, false, 0, 0xFFFFFFFFFFFFFFFF, 0, 18446744073709551615⟩,
   ⟨0x05, .u32, .ro, false, 0, 0xFFFFFFFF, 0, 4294967295⟩,
   ⟨0x06, .u32, .ro, false, 0, 0xFFFFFFFF, 0, 4294967295⟩,
   ⟨0x07, .u8, .ro, false, 0, 0xFF, 0, 255⟩,
   ⟨0x08, .u32, .ro, false, 0, 0xFFFFFFFF, 0, 4294967295⟩,
   ⟨0x09, .domain, .ro, false, 0, 0, 0, 0⟩]

/-- Cards of *Table 7.11*, base index 0x3408, 8 objects. -/
def cards_LINE (_ : Nat) : List Card :=
  [⟨0x01, .u8, .ro, false, 0, 0xFF, 0, 255⟩,
   ⟨0x02, .u16, .ro, false, 0, 0xFFFF, 0, 65535⟩,
   ⟨0x03, .domain, .ro, false, 0, 0, 0, 0⟩,
   ⟨0x04, .u16, .ro, false, 0, 0xFFFF, 0, 65535⟩,
   ⟨0x05, .u64, .ro, false, 0, 0xFFFFFFFFFFFFFFFF, 0, 18446744073709551615⟩,
   ⟨0x06, .u32, .ro, false, 0, 0xFFFFFFFF, 0, 4294967295⟩,
   ⟨0x07, .u8, .wo, false, 0, 0x8F, 0, 255⟩,
   ⟨0x08, .bool, .w1c, false, 0, 0x1, 0, 255⟩,
   ⟨0x09, .u32, .ro, false, 0, 0xFFFFFFFF, 0, 4294967295⟩,
   ⟨0x0A, .bool, .ro, false, 0, 0x1, 0, 255⟩,
   ⟨0x0B, .bool, .wo, false, 0, 0x1, 0, 255⟩]

/-- Cards of *Table 7.12*, base index 0x3410, 8 objects. -/
def cards_SMASK (_ : Nat) : List Card :=
  [⟨0x01, .domain, .rw, false, 0, 0, 0, 0⟩]

/-- Cards of *Table 8.4*, base index 0x3000, 4 objects. -/
def cards_FC (_ : Nat) : List Card :=
  [⟨0x01, .domain, .rwl, false, 0, 0, 0, 0⟩,
   ⟨0x02, .u16, .rw, false, 65535, 0xFFFF, 0, 65535⟩,
   ⟨0x03, .u8, .rw, false, 8, 0xFF, 1, 32⟩,
   ⟨0x04, .bool, .rw, false, 0, 0x1, 0, 255⟩,
   ⟨0x05, .u16, .rw, false, 800, 0xFFFF, 1, 65535⟩,
   ⟨0x06, .u32, .rw, false, 4294967295, 0xFFFFFFFF, 2, 4294967295⟩,
   ⟨0x07, .bool, .wo, false, 0, 0x1, 0, 255⟩,
   ⟨0x08, .u64, .ro, false, 0, 0xFFFFFFFFFFFFFFFF, 0, 18446744073709551615⟩,
   ⟨0x09, .bool, .w1c, false, 0, 0x1, 0, 255⟩,
   ⟨0x0A, .u32, .ro, false, 0, 0xFFFFFFFF, 0, 4294967295⟩,
   ⟨0x0B, .u64, .ro, false, 0, 0xFFFFFFFFFFFFFFFF, 0, 18446744073709551615⟩,
   ⟨0x0C, .u64, .ro, false, 0, 0xFFFFFFFFFFFFFFFF, 0, 18446744073709551615⟩,
   ⟨0x0D, .u16, .ro, false, 0, 0xFFFF, 0, 65535⟩,
   ⟨0x0E, .u16, .ro, false, 0, 0xFFFF, 0, 65535⟩,
   ⟨0x0F, .u16, .ro, false, 0, 0xFFFF, 0, 65535⟩]

/-- Cards of *Table 8.8*, base index 0x4000, 32768 objects. -/
def cards_Q (_ : Nat) : List Card :=
  [⟨0x01, .domain, .rwl, false, 0, 0, 0, 0⟩,
   ⟨0x02, .bool, .rw, false, 0, 0x1, 0, 255⟩,
   ⟨0x03, .u32, .ro, false, 0, 0xFFFFFFFF, 0, 4294967295⟩,
   ⟨0x04, .u32, .ro, false, 0, 0xFFFFFFFF, 0, 4294967295⟩,
   ⟨0x05, .u32, .ro, false, 0, 0xFFFFFFFF, 0, 4294967295⟩,
   ⟨0x06, .u32, .wo, false, 0, 0xFFFFFFFF, 0, 4294967295⟩,
   ⟨0x07, .u32, .wo, false, 0, 0xFFFFFFFF, 0, 4294967295⟩,
   ⟨0x08, .u32, .rw, false, 1, 0xFFFFFFFF, 1, 16777215⟩,
   ⟨0x09, .u32, .rw, false, 0, 0xFFFFFFFF, 0, 16777214⟩,
   ⟨0x0A, .u8, .rw, false, 0, 0xFF, 0, 3⟩,
   ⟨0x0B, .u8, .w1c, false, 0, 0xFF, 0, 255⟩,
   ⟨0x0C, .u32, .ro, false, 0, 0xFFFFFFFF, 0, 4294967295⟩,
   ⟨0x0D, .u32, .ro, false, 0, 0xFFFFFFFF, 0, 4294967295⟩,
   ⟨0x0E, .u32, .ro, false, 0, 0xFFFFFFFF, 0, 4294967295⟩,
   ⟨0x0F, .u32, .ro, false, 0, 0xFFFFFFFF, 0, 4294967295⟩,
   ⟨0x10, .u32, .ro, false, 0, 0xFFFFFFFF, 0, 4294967295⟩] ++
  [⟨0x11, .tt, .rw, false, 0, 0xFFFFFFFFFFFFFFFF7FFF, 0, 1208925819614629174706175⟩,
   ⟨0x12, .bool, .wo, false, 0, 0x1, 0, 255⟩,
   ⟨0x13, .bool, .wo, false, 0, 0x1, 0, 255⟩,
   ⟨0x14, .u64, .ro, false, 0, 0xFFFFFFFFFFFFFFFF, 0, 18446744073709551615⟩,
   ⟨0x15, .u64, .ro, false, 0, 0xFFFFFFFFFFFFFFFF, 0, 18446744073709551615⟩,
   ⟨0x16, .u8, .ro, false, 0, 0xFF, 0, 255⟩,
   ⟨0x17, .bool, .wo, false, 0, 0x1, 0, 255⟩,
   ⟨0x18, .u64, .ro, false, 0, 0xFFFFFFFFFFFFFFFF, 0, 18446744073709551615⟩,
   ⟨0x19, .u8, .ro, false, 0, 0xFF, 0, 255⟩]

/-- Cards of *Table 8.13*, base index 0x3004, 4 objects. -/
def cards_RU (_ : Nat) : List Card :=
  [⟨0x01, .u64, .rwl, false, 0, 0x7FFFFFFF, 0, 18446744073709551615⟩,
   ⟨0x02, .domain, .rw, false, 0, 0, 0, 0⟩,
   ⟨0x03, .domain, .ro, false, 0, 0, 0, 0⟩,
   ⟨0x04, .u16, .wo, false, 0, 0x87FF, 0, 65535⟩,
   ⟨0x05, .u16, .wo, false, 0, 0x87FF, 0, 65535⟩,
   ⟨0x06, .u16, .rw, false, 65535, 0xFFFF, 0, 65535⟩,
   ⟨0x07, .u8, .ro, false, 0, 0xFF, 0, 255⟩,
   ⟨0x08, .u16, .ro, false, 0, 0xFFFF, 0, 65535⟩,
   ⟨0x09, .u16, .ro, false, 0, 0xFFFF, 0, 65535⟩,
   ⟨0x0A, .u64, .ro, false, 0, 0xFFFFFFFFFFFFFFFF, 0, 18446744073709551615⟩,
   ⟨0x0B, .u64, .ro, false, 0, 0xFFFFFFFFFFFFFFFF, 0, 18446744073709551615⟩,
   ⟨0x0C, .bool, .w1c, false, 0, 0x1, 0, 255⟩,
   ⟨0x0D, .u32, .ro, false, 0, 0xFFFFFFFF, 0, 4294967295⟩,
   ⟨0x0E, .bool, .w1c, false, 0, 0x1, 0, 255⟩,
   ⟨0x0F, .u32, .ro, false, 0, 0xFFFFFFFF, 0, 4294967295⟩]

/-- Cards of *Table 9.4*, base index 0x3600, 144 objects. -/
def cards_SER (_ : Nat) : List Card :=
  [⟨0x01, .bool, .rw, false, 0, 0x1, 0, 255⟩,
   ⟨0x02, .u32, .rwl, false, 10000000, 0xFFFFFFFF, 1250000, 32000000⟩,
   ⟨0x03, .u8, .rwl, false, 0, 0xFF, 0, 3⟩,
   ⟨0x04, .u8, .rwl, false, 0, 0xFF, 0, 2⟩,
   ⟨0x05, .u8, .rwl, false, 0, 0xFF, 0, 1⟩,
   ⟨0x06, .u8, .rwl, false, 0, 0xFF, 0, 3⟩,
   ⟨0x07, .u8, .rw, false, 12, 0xF, 0, 255⟩,
   ⟨0x08, .u64, .rw, false, 6148914691236517205, 0xFFFFFFFFFFFFFFFF, 0, 18446744073709551615⟩,
   ⟨0x09, .u16, .rw, false, 2176, 0xFFF, 0, 65535⟩,
   ⟨0x0A, .u8, .rw, false, 6, 0xFF, 0, 15⟩,
   ⟨0x0B, .u64, .rw, false, 0, 0xFFFFFFFFFF, 0, 18446744073709551615⟩,
   ⟨0x0C, .u8, .rw, false, 1, 0xFF, 0, 2⟩,
   ⟨0x0D, .u16, .rw, false, 4000, 0xFFFF, 1000, 20000⟩,
   ⟨0x0E, .bool, .ro, false, 0, 0x1, 0, 255⟩,
   ⟨0x0F, .bool, .w1c, false, 0, 0x1, 0, 255⟩,
   ⟨0x10, .u32, .ro, false, 0, 0xFFFFFFFF, 0, 4294967295⟩] ++
  [⟨0x11, .u8, .rw, false, 0, 0xFF, 0, 2⟩,
   ⟨0x12, .u32, .rw, false, 0, 0xFFFFFFFF, 0, 4294967295⟩,
   ⟨0x13, .bool, .wo, false, 0, 0x1, 0, 255⟩,
   ⟨0x14, .bool, .ro, false, 0, 0x1, 0, 255⟩,
   ⟨0x15, .bool, .ro, false, 0, 0x1, 0, 255⟩,
   ⟨0x16, .u64, .ro, false, 0, 0xFFFFFFFFFFFFFFFF, 0, 18446744073709551615⟩,
   ⟨0x17, .u64, .ro, false, 0, 0xFFFFFFFFFFFFFFFF, 0, 18446744073709551615⟩,
   ⟨0x18, .bool, .wo, false, 0, 0x1, 0, 255⟩,
   ⟨0x19, .u64, .ro, false, 0, 0xFFFFFFFFFFFFFFFF, 0, 18446744073709551615⟩,
   ⟨0x1A, .domain, .rwl, false, 0, 0, 0, 0⟩,
   ⟨0x1B, .u32, .rwl, false, 65536, 0xFFFFFFFF, 1024, 4294967295⟩,
   ⟨0x1C, .bool, .wo, false, 0, 0x1, 0, 255⟩,
   ⟨0x1D, .u8, .ro, false, 0, 0xFF, 0, 255⟩,
   ⟨0x1E, .domain, .ro, false, 0, 0, 0, 0⟩,
   ⟨0x1F, .u64, .ro, false, 0, 0xFFFFFFFFFFFFFFFF, 0, 18446744073709551615⟩]

/-- Cards of *Table 9.14*, base index 0x36A0, 4 objects. -/
def cards_YARD (_ : Nat) : List Card :=
  [⟨0x01, .bool, .rw, false, 0, 0x1, 0, 255⟩,
   ⟨0x02, .u8, .ro, false, 0, 0xFF, 0, 255⟩,
   ⟨0x03, .u8, .rwl, false, 6, 0xFF, 0, 6⟩,
   ⟨0x04, .u8, .ro, false, 255, 0xFF, 0, 255⟩,
   ⟨0x05, .bool, .rw, false, 1, 0x1, 0, 255⟩,
   ⟨0x06, .u8, .ro, false, 0, 0xFF, 0, 255⟩,
   ⟨0x07, .bool, .w1c, false, 0, 0x1, 0, 255⟩,
   ⟨0x08, .u32, .ro, false, 0, 0xFFFFFFFF, 0, 4294967295⟩,
   ⟨0x09, .u8, .ro, false, 255, 0xFF, 0, 255⟩,
   ⟨0x0A, .u64, .ro, false, 0, 0xFFFFFFFFFFFFFFFF, 0, 18446744073709551615⟩,
   ⟨0x0B, .bool, .rwl, false, 0, 0x1, 0, 255⟩,
   ⟨0x0C, .domain, .wo, false, 0, 0, 0, 0⟩,
   ⟨0x0D, .domain, .wo, false, 0, 0, 0, 0⟩,
   ⟨0x0E, .u8, .ro, false, 0, 0xFF, 0, 255⟩,
   ⟨0x0F, .bool, .wo, false, 0, 0x1, 0, 255⟩,
   ⟨0x10, .u8, .ro, false, 0, 0xFF, 0, 255⟩] ++
  [⟨0x11, .domain, .rwl, false, 0, 0, 0, 0⟩,
   ⟨0x12, .u64, .ro, false, 0, 0xFFFFFFFFFFFFFFFF, 0, 18446744073709551615⟩,
   ⟨0x13, .u64, .ro, false, 0, 0xFFFFFFFFFFFFFFFF, 0, 18446744073709551615⟩,
   ⟨0x14, .u64, .ro, false, 0, 0xFFFFFFFFFFFFFFFF, 0, 18446744073709551615⟩,
   ⟨0x15, .u64, .ro, false, 0, 0xFFFFFFFFFFFFFFFF, 0, 18446744073709551615⟩,
   ⟨0x16, .u32, .ro, false, 0, 0xFFFFFFFF, 0, 4294967295⟩,
   ⟨0x17, .u32, .ro, false, 0, 0xFFFFFFFF, 0, 4294967295⟩,
   ⟨0x18, .bool, .rw, false, 0, 0x1, 0, 255⟩,
   ⟨0x19, .bool, .rw, false, 0, 0x1, 0, 255⟩,
   ⟨0x1A, .bool, .w1c, false, 0, 0x1, 0, 255⟩,
   ⟨0x1B, .u32, .ro, false, 0, 0xFFFFFFFF, 0, 4294967295⟩]

/-- Cards of *Table 9.15*, base index 0x1100, 2 objects. -/
def cards_MGT (_ : Nat) : List Card :=
  [⟨0x01, .u8, .rw, false, 0, 0xFF, 0, 1⟩,
   ⟨0x02, .bool, .ro, false, 0, 0x1, 0, 255⟩,
   ⟨0x03, .u8, .ro, false, 0, 0xFF, 0, 255⟩,
   ⟨0x04, .u64, .rw, false, 0, 0xFFFFFFFFFFFF, 0, 18446744073709551615⟩,
   ⟨0x05, .u16, .rw, false, 0, 0xFFFF, 0, 4094⟩,
   ⟨0x06, .u32, .rw, false, 0, 0xFFFFFFFF, 0, 4294967295⟩,
   ⟨0x07, .u8, .rw, false, 0, 0xFF, 0, 32⟩,
   ⟨0x08, .domain, .rw, false, 0, 0, 0, 0⟩,
   ⟨0x09, .u8, .rw, false, 0, 0xFF, 0, 128⟩,
   ⟨0x0A, .u64, .ro, false, 0, 0xFFFFFFFFFFFFFFFF, 0, 18446744073709551615⟩,
   ⟨0x0B, .u64, .ro, false, 0, 0xFFFFFFFFFFFFFFFF, 0, 18446744073709551615⟩,
   ⟨0x0C, .bool, .w1c, false, 0, 0x1, 0, 255⟩,
   ⟨0x0D, .u32, .ro, false, 0, 0xFFFFFFFF, 0, 4294967295⟩,
   ⟨0x0E, .bool, .rw, false, 0, 0x1, 0, 255⟩,
   ⟨0x0F, .bool, .w1c, false, 0, 0x1, 0, 255⟩,
   ⟨0x10, .u32, .ro, false, 0, 0xFFFFFFFF, 0, 4294967295⟩]

/-- Cards of *Table 10.13*, base index 0x3800, 1 object. -/
def cards_FAB (_ : Nat) : List Card :=
  [⟨0x01, .u64, .ro, false, 0, 0xFFFFFFFFFFFFFFFF, 0, 18446744073709551615⟩,
   ⟨0x02, .u64, .ro, false, 0, 0xFFFFFFFFFFFFFFFF, 0, 18446744073709551615⟩,
   ⟨0x03, .bool, .w1c, false, 0, 0x1, 0, 255⟩,
   ⟨0x04, .u32, .ro, false, 0, 0xFFFFFFFF, 0, 4294967295⟩,
   ⟨0x05, .u64, .ro, false, 0, 0xFFFFFFFFFFFFFFFF, 0, 18446744073709551615⟩,
   ⟨0x06, .domain, .ro, false, 0, 0, 0, 0⟩,
   ⟨0x07, .u16, .ro, false, 0, 0xFFFF, 0, 65535⟩,
   ⟨0x08, .u16, .ro, false, 0, 0xFFFF, 0, 65535⟩]

/-- Cards of *Table 10.14*, base index 0x3804, 4 objects. -/
def cards_FP (_ : Nat) : List Card :=
  [⟨0x01, .u64, .ro, false, 0, 0xFFFFFFFFFFFFFFFF, 0, 18446744073709551615⟩,
   ⟨0x02, .u64, .ro, false, 0, 0xFFFFFFFFFFFFFFFF, 0, 18446744073709551615⟩,
   ⟨0x03, .u64, .ro, false, 0, 0xFFFFFFFFFFFFFFFF, 0, 18446744073709551615⟩,
   ⟨0x04, .bool, .w1c, false, 0, 0x1, 0, 255⟩,
   ⟨0x05, .u32, .ro, false, 0, 0xFFFFFFFF, 0, 4294967295⟩,
   ⟨0x06, .u16, .rwl, false, 65535, 0xFFFF, 0, 65535⟩,
   ⟨0x07, .u16, .rwl, false, 65535, 0xFFFF, 0, 65535⟩,
   ⟨0x08, .u16, .rwl, false, 65535, 0xFFFF, 0, 65535⟩,
   ⟨0x09, .u16, .rwl, false, 65535, 0xFFFF, 0, 65535⟩,
   ⟨0x0A, .u64, .ro, false, 0, 0xFFFFFFFFFFFFFFFF, 0, 18446744073709551615⟩,
   ⟨0x0B, .u64, .ro, false, 0, 0xFFFFFFFFFFFFFFFF, 0, 18446744073709551615⟩,
   ⟨0x0C, .u64, .ro, false, 0, 0xFFFFFFFFFFFFFFFF, 0, 18446744073709551615⟩]

/-- Cards of *Table 10.15*, base index 0x3810, 8 objects. -/
def cards_PROBE (_ : Nat) : List Card :=
  [⟨0x01, .u16, .rw, false, 0, 0xFFFF, 0, 65535⟩]

/-- Cards of *Table 10.16*, base index 0x3820, 48 objects. -/
def cards_GPIO (_ : Nat) : List Card :=
  [⟨0x01, .u32, .ro, false, 65536, 0xFFFFFFFF, 0, 4294967295⟩,
   ⟨0x02, .u8, .rw, false, 0, 0xFF, 0, 127⟩,
   ⟨0x03, .bool, .ro, false, 0, 0x1, 0, 255⟩,
   ⟨0x04, .bool, .ro, false, 0, 0x1, 0, 255⟩]

/-- Cards of *Table 11.9*, base index 0x1800, 1 object. -/
def cards_CFG (_ : Nat) : List Card :=
  [⟨0x01, .u8, .ro, false, 0, 0xFF, 0, 255⟩,
   ⟨0x02, .u8, .ro, false, 0, 0xFF, 0, 255⟩,
   ⟨0x03, .u32, .ro, false, 0, 0xFFFFFFFF, 0, 4294967295⟩,
   ⟨0x04, .u8, .ro, false, 0, 0xFF, 0, 255⟩,
   ⟨0x05, .u32, .ro, false, 0, 0xFFFFFFFF, 0, 4294967295⟩,
   ⟨0x06, .u32, .ro, false, 0, 0xFFFFFFFF, 0, 4294967295⟩,
   ⟨0x07, .u8, .ro, false, 0, 0xFF, 0, 255⟩,
   ⟨0x08, .u8, .ro, false, 0, 0xFF, 0, 255⟩,
   ⟨0x09, .u32, .ro, false, 0, 0xFFFFFFFF, 0, 4294967295⟩,
   ⟨0x0A, .u32, .ro, false, 0, 0xFFFFFFFF, 0, 4294967295⟩,
   ⟨0x0B, .u64, .ro, false, 0, 0xFFFFFFFFFFFFFFFF, 0, 18446744073709551615⟩]

/-- Cards of *Table 11.10*, base index 0x1801, 1 object. -/
def cards_AUD (_ : Nat) : List Card :=
  [⟨0x01, .u8, .rw, false, 0, 0x3F, 0, 255⟩,
   ⟨0x02, .bool, .wo, false, 0, 0x1, 0, 255⟩,
   ⟨0x03, .u8, .ro, false, 0, 0xFF, 0, 255⟩,
   ⟨0x04, .u8, .ro, false, 0, 0xFF, 0, 255⟩,
   ⟨0x05, .u32, .ro, false, 0, 0xFFFFFFFF, 0, 4294967295⟩,
   ⟨0x06, .u32, .ro, false, 0, 0xFFFFFFFF, 0, 4294967295⟩,
   ⟨0x07, .bool, .w1c, false, 0, 0x1, 0, 255⟩,
   ⟨0x08, .u32, .ro, false, 0, 0xFFFFFFFF, 0, 4294967295⟩,
   ⟨0x09, .u64, .ro, false, 0, 0xFFFFFFFFFFFFFFFF, 0, 18446744073709551615⟩,
   ⟨0x0A, .u32, .rw, false, 1000, 0xFFFFFFFF, 0, 3600000⟩]

/-- Cards of *Table 11.11*, base index 0x1810, 24 objects. -/
def cards_PAD (_ : Nat) : List Card :=
  [⟨0x01, .domain, .wo, false, 0, 0, 0, 0⟩,
   ⟨0x02, .u8, .ro, false, 0, 0xFF, 0, 255⟩,
   ⟨0x03, .u32, .ro, false, 0, 0xFFFFFFFF, 0, 4294967295⟩,
   ⟨0x04, .u32, .ro, false, 0, 0xFFFFFFFF, 0, 4294967295⟩,
   ⟨0x05, .bool, .wo, false, 0, 0x1, 0, 255⟩,
   ⟨0x06, .u8, .rw, false, 4, 0xFF, 1, 16⟩,
   ⟨0x07, .tt, .rw, false, 0, 0xFFFFFFFFFFFFFFFF7FFF, 0, 1208925819614629174706175⟩,
   ⟨0x08, .bool, .wo, false, 0, 0x1, 0, 255⟩,
   ⟨0x09, .bool, .wo, false, 0, 0x1, 0, 255⟩,
   ⟨0x0A, .u8, .ro, false, 0, 0xFF, 0, 255⟩,
   ⟨0x0B, .u32, .ro, false, 0, 0xFFFFFFFF, 0, 4294967295⟩,
   ⟨0x0C, .bool, .w1c, false, 0, 0x1, 0, 255⟩,
   ⟨0x0D, .u32, .ro, false, 0, 0xFFFFFFFF, 0, 4294967295⟩,
   ⟨0x0E, .u8, .ro, false, 0, 0xFF, 0, 255⟩,
   ⟨0x0F, .u32, .ro, false, 0, 0xFFFFFFFF, 0, 4294967295⟩,
   ⟨0x10, .u32, .ro, false, 0, 0xFFFFFFFF, 0, 4294967295⟩] ++
  [⟨0x11, .tt, .ro, false, 0, 0xFFFFFFFFFFFFFFFF7FFF, 0, 1208925819614629174706175⟩]

/-- Cards of *Table 12.7*, base index 0x1E00, 1 object. -/
def cards_NET (_ : Nat) : List Card :=
  [⟨0x01, .u8, .ro, false, 0, 0xFF, 0, 255⟩,
   ⟨0x02, .domain, .rw, false, 0, 0, 0, 0⟩,
   ⟨0x03, .u32, .rw, false, 12000, 0xFFFFFFFF, 1200, 1200000⟩,
   ⟨0x04, .u32, .rw, false, 120000, 0xFFFFFFFF, 1200, 12000000⟩,
   ⟨0x05, .u32, .rw, false, 240000, 0xFFFFFFFF, 0, 4294967295⟩,
   ⟨0x06, .u32, .rw, false, 240000, 0xFFFFFFFF, 1200, 12000000⟩,
   ⟨0x07, .u64, .ro, false, 0, 0xFFFFFFFFFFFFFFFF, 0, 18446744073709551615⟩,
   ⟨0x08, .u64, .ro, false, 0, 0xFFFFFFFFFFFFFFFF, 0, 18446744073709551615⟩,
   ⟨0x09, .u32, .ro, false, 0, 0xFFFFFFFF, 0, 4294967295⟩]

/-- Cards of *Table 12.9*, base index 0x1E10, 98 objects. -/
def cards_RS (_ : Nat) : List Card :=
  [⟨0x01, .u8, .ro, false, 0, 0xFF, 0, 255⟩,
   ⟨0x02, .u16, .ro, false, 0, 0xFFFF, 0, 65535⟩,
   ⟨0x03, .u8, .wo, false, 0, 0xF, 0, 255⟩,
   ⟨0x04, .u8, .wo, false, 0, 0xF, 0, 255⟩,
   ⟨0x05, .bool, .w1c, false, 0, 0x1, 0, 255⟩,
   ⟨0x06, .u32, .ro, false, 0, 0xFFFFFFFF, 0, 4294967295⟩,
   ⟨0x07, .domain, .rw, false, 0, 0, 0, 0⟩,
   ⟨0x08, .u16, .w1c, false, 0, 0xFFFF, 0, 65535⟩,
   ⟨0x09, .u32, .ro, false, 0, 0xFFFFFFFF, 0, 4294967295⟩,
   ⟨0x0A, .u64, .ro, false, 0, 0xFFFFFFFFFFFFFFFF, 0, 18446744073709551615⟩,
   ⟨0x0B, .u64, .ro, false, 0, 0xFFFFFFFFFFFFFFFF, 0, 18446744073709551615⟩,
   ⟨0x0C, .u64, .ro, false, 0, 0xFFFFFFFFFFFFFFFF, 0, 18446744073709551615⟩]

/-- Cards of *Table 13.14*, base index 0x1C00, 1 object. -/
def cards_MEM (_ : Nat) : List Card :=
  [⟨0x01, .u8, .ro, false, 0, 0xFF, 0, 255⟩,
   ⟨0x02, .u32, .rwl, false, 4, 0x3F, 0, 4294967295⟩,
   ⟨0x03, .bool, .rw, false, 0, 0x1, 0, 255⟩,
   ⟨0x04, .u64, .ro, false, 0, 0xFFFFFFFFFFFFFFFF, 0, 18446744073709551615⟩,
   ⟨0x05, .domain, .rw, false, 0, 0, 0, 0⟩,
   ⟨0x06, .u8, .ro, false, 0, 0xFF, 0, 255⟩,
   ⟨0x07, .bool, .w1c, false, 0, 0x1, 0, 255⟩,
   ⟨0x08, .u32, .ro, false, 0, 0xFFFFFFFF, 0, 4294967295⟩,
   ⟨0x09, .u64, .ro, false, 0, 0xFFFFFFFFFFFFFFFF, 0, 18446744073709551615⟩,
   ⟨0x0A, .u64, .ro, false, 0, 0xFFFFFFFFFFFFFFFF, 0, 18446744073709551615⟩,
   ⟨0x0B, .u64, .ro, false, 0, 0xFFFFFFFFFFFFFFFF, 0, 18446744073709551615⟩,
   ⟨0x0C, .u64, .ro, false, 0, 0xFFFFFFFFFFFFFFFF, 0, 18446744073709551615⟩,
   ⟨0x0D, .u64, .ro, false, 0, 0xFFFFFFFFFFFFFFFF, 0, 18446744073709551615⟩,
   ⟨0x0E, .u64, .ro, false, 0, 0xFFFFFFFFFFFFFFFF, 0, 18446744073709551615⟩,
   ⟨0x0F, .u64, .ro, false, 0, 0xFFFFFFFFFFFFFFFF, 0, 18446744073709551615⟩,
   ⟨0x10, .u64, .ro, false, 0, 0xFFFFFFFFFFFFFFFF, 0, 18446744073709551615⟩] ++
  [⟨0x11, .u64, .ro, false, 0, 0xFFFFFFFFFFFFFFFF, 0, 18446744073709551615⟩,
   ⟨0x12, .u64, .ro, false, 0, 0xFFFFFFFFFFFFFFFF, 0, 18446744073709551615⟩,
   ⟨0x13, .u32, .ro, false, 0, 0xFFFFFFFF, 0, 4294967295⟩,
   ⟨0x14, .u64, .rw, false, 0, 0xFFFFFFFFFFFF, 0, 18446744073709551615⟩,
   ⟨0x15, .domain, .rw, false, 0, 0, 0, 0⟩,
   ⟨0x16, .domain, .rw, false, 0, 0, 0, 0⟩,
   ⟨0x17, .u64, .rw, false, 0, 0xFFFFFFFFFFFFFFFF, 0, 18446744073709551615⟩]

/-- Cards of *Table 13.15*, base index 0x1C08, 8 objects. -/
def cards_MEMC (_ : Nat) : List Card :=
  [⟨0x01, .u8, .ro, false, 0, 0xFF, 0, 255⟩,
   ⟨0x02, .u8, .ro, false, 0, 0xFF, 0, 255⟩,
   ⟨0x03, .u8, .ro, false, 0, 0xFF, 0, 255⟩,
   ⟨0x04, .u32, .rw, false, 100, 0xFFFFFFFF, 10, 10000⟩,
   ⟨0x05, .u64, .ro, false, 0, 0xFFFFFFFFFFFFFFFF, 0, 18446744073709551615⟩,
   ⟨0x06, .u64, .ro, false, 0, 0xFFFFFFFFFFFFFFFF, 0, 18446744073709551615⟩,
   ⟨0x07, .u8, .ro, false, 0, 0xFF, 0, 255⟩,
   ⟨0x08, .bool, .w1c, false, 0, 0x1, 0, 255⟩,
   ⟨0x09, .u32, .ro, false, 0, 0xFFFFFFFF, 0, 4294967295⟩,
   ⟨0x0A, .u64, .ro, false, 0, 0xFFFFFFFFFFFFFFFF, 0, 18446744073709551615⟩,
   ⟨0x0B, .u64, .ro, false, 0, 0xFFFFFFFFFFFFFFFF, 0, 18446744073709551615⟩,
   ⟨0x0C, .u32, .ro, false, 0, 0xFFFFFFFF, 0, 4294967295⟩]

/-- Cards of *Table 13.16*, base index 0x1C20, 4 objects. -/
def cards_GRIND (_ : Nat) : List Card :=
  [⟨0x01, .domain, .rw, false, 0, 0, 0, 0⟩,
   ⟨0x02, .domain, .ro, false, 0, 0, 0, 0⟩,
   ⟨0x03, .u16, .ro, false, 1024, 0xFFFF, 0, 65535⟩,
   ⟨0x04, .bool, .w1c, false, 0, 0x1, 0, 255⟩,
   ⟨0x05, .u32, .ro, false, 0, 0xFFFFFFFF, 0, 4294967295⟩,
   ⟨0x06, .u64, .ro, false, 0, 0xFFFFFFFFFFFFFFFF, 0, 18446744073709551615⟩]

/-- Cards of *Table 13.17*, base index 0x1C40, 64 objects. -/
def cards_KID (i : Nat) : List Card :=
  [⟨0x01, .u8, .ro, false, if i = 0 then 1 else 0, 0xFF, 0, 255⟩,
   ⟨0x02, .domain, .wo, false, 0, 0, 0, 0⟩,
   ⟨0x03, .bool, .wo, false, 0, 0x1, 0, 255⟩,
   ⟨0x04, .u8, .ro, false, 0, 0xFF, 0, 255⟩,
   ⟨0x05, .u64, .ro, false, 0, 0xFFFFFFFFFFFFFFFF, 0, 18446744073709551615⟩,
   ⟨0x06, .u32, .ro, false, 0, 0xFFFFFFFF, 0, 4294967295⟩]

/-- Cards of *Table 14.8*, base index 0x1C30, 1 object. -/
def cards_MARCH (_ : Nat) : List Card :=
  [⟨0x01, .u32, .rw, false, 0, 0xF00003FF, 0, 4294967295⟩,
   ⟨0x02, .u8, .rw, false, 0, 0xFF, 0, 1⟩,
   ⟨0x03, .bool, .wo, false, 0, 0x1, 0, 255⟩,
   ⟨0x04, .u8, .ro, false, 1, 0xFF, 0, 255⟩,
   ⟨0x05, .u8, .ro, false, 0, 0xFF, 0, 255⟩,
   ⟨0x06, .u32, .ro, false, 0, 0xFFFFFFFF, 0, 4294967295⟩,
   ⟨0x07, .domain, .ro, false, 0, 0, 0, 0⟩,
   ⟨0x08, .u32, .ro, false, 0, 0xFFFFFFFF, 0, 4294967295⟩]

/-- Cards of *Table 14.9*, base index 0x1C31, 1 object. -/
def cards_PATROL (_ : Nat) : List Card :=
  [⟨0x01, .domain, .rw, false, 0, 0, 0, 0⟩,
   ⟨0x02, .bool, .rw, false, 1, 0x1, 0, 255⟩,
   ⟨0x03, .u8, .ro, false, 0, 0xFF, 0, 255⟩,
   ⟨0x04, .u32, .rw, false, 0, 0xFFFFFFFF, 0, 4294967295⟩,
   ⟨0x05, .domain, .ro, false, 0, 0, 0, 0⟩,
   ⟨0x06, .u64, .ro, false, 0, 0xFFFFFFFFFFFFFFFF, 0, 18446744073709551615⟩,
   ⟨0x07, .u64, .ro, false, 0, 0xFFFFFFFFFFFFFFFF, 0, 18446744073709551615⟩,
   ⟨0x08, .u64, .ro, false, 0, 0xFFFFFFFFFFFFFFFF, 0, 18446744073709551615⟩,
   ⟨0x09, .u64, .ro, false, 0, 0xFFFFFFFFFFFFFFFF, 0, 18446744073709551615⟩,
   ⟨0x0A, .domain, .ro, false, 0, 0, 0, 0⟩,
   ⟨0x0B, .domain, .ro, false, 0, 0, 0, 0⟩,
   ⟨0x0C, .bool, .w1c, false, 0, 0x1, 0, 255⟩,
   ⟨0x0D, .u32, .ro, false, 0, 0xFFFFFFFF, 0, 4294967295⟩]

/-- Cards of *Table 15.11*, base index 0x1400, 1 object. -/
def cards_CLKREF (_ : Nat) : List Card :=
  [⟨0x01, .u8, .rw, false, 16, 0xFF, 1, 255⟩,
   ⟨0x02, .u16, .ro, false, 0, 0xFFFF, 0, 65535⟩,
   ⟨0x03, .u32, .ro, false, 0, 0xFFFFFFFF, 0, 4294967295⟩,
   ⟨0x04, .u32, .ro, false, 0, 0xFFFFFFFF, 0, 4294967295⟩,
   ⟨0x05, .bool, .w1c, false, 0, 0x1, 0, 255⟩,
   ⟨0x06, .u32, .ro, false, 0, 0xFFFFFFFF, 0, 4294967295⟩,
   ⟨0x07, .bool, .wo, false, 0, 0x1, 0, 255⟩,
   ⟨0x08, .bool, .rw, false, 0, 0x1, 0, 255⟩,
   ⟨0x09, .tt, .ro, false, 0, 0xFFFFFFFFFFFFFFFF7FFF, 0, 1208925819614629174706175⟩]

/-- Cards of *Table 15.12*, base index 0x1401, 1 object. -/
def cards_CLK (_ : Nat) : List Card :=
  [⟨0x01, .domain, .rw, false, 0, 0, 0, 0⟩,
   ⟨0x02, .domain, .ro, false, 0, 0, 0, 0⟩,
   ⟨0x03, .domain, .ro, false, 0, 0, 0, 0⟩,
   ⟨0x04, .u32, .ro, false, 0, 0xFFFFFFFF, 0, 4294967295⟩,
   ⟨0x05, .u64, .ro, false, 0, 0xFFFFFFFFFFFFFFFF, 0, 18446744073709551615⟩,
   ⟨0x06, .domain, .ro, false, 0, 0, 0, 0⟩,
   ⟨0x07, .bool, .w1c, false, 0, 0x1, 0, 255⟩,
   ⟨0x08, .u32, .ro, false, 0, 0xFFFFFFFF, 0, 4294967295⟩,
   ⟨0x09, .u8, .ro, false, 0, 0xFF, 0, 255⟩,
   ⟨0x0A, .u64, .ro, false, 0, 0xFFFFFFFFFFFFFFFF, 0, 18446744073709551615⟩,
   ⟨0x0B, .u32, .ro, false, 0, 0xFFFFFFFF, 0, 4294967295⟩]

/-- Cards of *Table 15.13*, base index 0x1402, 4 objects. -/
def cards_FPLL (_ : Nat) : List Card :=
  [⟨0x01, .u8, .rwl, false, 40, 0xFF, 20, 50⟩,
   ⟨0x02, .u32, .rwl, false, 268960772, 0xFFFFFFFF, 0, 4294967295⟩,
   ⟨0x03, .bool, .ro, false, 0, 0x1, 0, 255⟩]

/-- Cards of *Table 15.13*, base index 0x1410, 16 objects. -/
def cards_GCLK (i : Nat) : List Card :=
  [⟨0x01, .u8, .rw, false, i, 0xFF, 0, 17⟩,
   ⟨0x02, .u32, .ro, false, 0, 0xFFFFFFFF, 0, 4294967295⟩]

/-- Cards of *Table 15.13*, base index 0x1420, 24 objects. -/
def cards_RCLK (_ : Nat) : List Card :=
  [⟨0x01, .u8, .rw, false, 0, 0xFF, 0, 15⟩,
   ⟨0x02, .u8, .rw, false, 1, 0xFF, 1, 16⟩,
   ⟨0x03, .u32, .ro, false, 0, 0xFFFFFFFF, 0, 4294967295⟩]

/-- Cards of *Table 15.14*, base index 0x1500, 1 object. -/
def cards_PWR (_ : Nat) : List Card :=
  [⟨0x01, .u8, .rw, false, 2, 0xFF, 2, 3⟩,
   ⟨0x02, .tt, .rw, false, 0, 0xFFFFFFFFFFFFFFFF7FFF, 0, 1208925819614629174706175⟩,
   ⟨0x03, .bool, .wo, false, 0, 0x1, 0, 255⟩,
   ⟨0x04, .bool, .wo, false, 0, 0x1, 0, 255⟩,
   ⟨0x05, .u8, .ro, false, 0, 0xFF, 0, 255⟩,
   ⟨0x06, .u8, .ro, false, 0, 0xFF, 0, 255⟩,
   ⟨0x07, .u8, .ro, false, 0, 0xFF, 0, 255⟩,
   ⟨0x08, .u8, .ro, false, 0, 0xFF, 0, 255⟩,
   ⟨0x09, .u16, .rw, false, 0, 0xFF, 0, 65535⟩,
   ⟨0x0A, .u16, .ro, false, 0, 0xFFFF, 0, 65535⟩,
   ⟨0x0B, .u16, .w1c, false, 0, 0xFFFF, 0, 65535⟩,
   ⟨0x0C, .u32, .ro, false, 0, 0xFFFFFFFF, 0, 4294967295⟩,
   ⟨0x0D, .bool, .wo, false, 0, 0x1, 0, 255⟩,
   ⟨0x0E, .u8, .rw, false, 0, 0xFF, 0, 15⟩,
   ⟨0x0F, .bool, .wo, false, 0, 0x1, 0, 255⟩,
   ⟨0x10, .u8, .ro, false, 0, 0xFF, 0, 255⟩]

/-- Cards of *Table 15.15*, base index 0x1501, 4 objects. -/
def cards_SPROG (_ : Nat) : List Card :=
  [⟨0x01, .domain, .rw, false, 0, 0, 0, 0⟩]

/-- Cards of *Table 15.15*, base index 0x1510, 98 objects. -/
def cards_SHED (i : Nat) : List Card :=
  [⟨0x01, .u8, .ro, false, 0, 0xFF, 0, 255⟩,
   ⟨0x02, .u8, .ro, false, shedAllowed i, 0xFF, 0, 255⟩,
   ⟨0x03, .bool, .wo, false, 0, 0x1, 0, 255⟩,
   ⟨0x04, .u32, .ro, false, 0, 0xFFFFFFFF, 0, 4294967295⟩,
   ⟨0x05, .u32, .ro, false, 0, 0xFFFFFFFF, 0, 4294967295⟩]

/-- Cards of *Table 16.11*, base index 0x3A00, 1 object. -/
def cards_DBG (_ : Nat) : List Card :=
  [⟨0x01, .u8, .ro, false, 1, 0xFF, 0, 255⟩,
   ⟨0x02, .domain, .ro, true, 0, 0, 0, 0⟩,
   ⟨0x03, .domain, .wo, false, 0, 0, 0, 0⟩,
   ⟨0x04, .bool, .wo, false, 0, 0x1, 0, 255⟩,
   ⟨0x05, .u32, .ro, false, 0, 0xFFFFFFFF, 0, 4294967295⟩,
   ⟨0x06, .u8, .rw, false, 0, 0xFF, 0, 1⟩,
   ⟨0x07, .u64, .ro, false, 0, 0xFFFFFFFFFFFFFFFF, 0, 18446744073709551615⟩,
   ⟨0x08, .u32, .ro, false, 0, 0xFFFFFFFF, 0, 4294967295⟩,
   ⟨0x09, .u32, .ro, false, 0, 0xFFFFFFFF, 0, 4294967295⟩,
   ⟨0x0A, .u32, .ro, false, 0, 0xFFFFFFFF, 0, 4294967295⟩]

/-- Cards of *Table 16.12*, base index 0x3A01, 1 object. -/
def cards_TRACE (_ : Nat) : List Card :=
  [⟨0x01, .bool, .rw, false, 0, 0x1, 0, 255⟩,
   ⟨0x02, .u8, .rwl, false, 0, 0xFF, 0, 1⟩,
   ⟨0x03, .u16, .rw, false, 0, 0x3F, 0, 65535⟩,
   ⟨0x04, .u8, .rw, false, 0, 0x3, 0, 255⟩,
   ⟨0x05, .domain, .rw, false, 0, 0, 0, 0⟩,
   ⟨0x06, .domain, .rw, false, 0, 0, 0, 0⟩,
   ⟨0x07, .u32, .ro, false, 0, 0xFFFFFFFF, 0, 4294967295⟩,
   ⟨0x08, .bool, .ro, false, 0, 0x1, 0, 255⟩,
   ⟨0x09, .u64, .ro, false, 0, 0xFFFFFFFFFFFFFFFF, 0, 18446744073709551615⟩,
   ⟨0x0A, .domain, .ro, false, 0, 0, 0, 0⟩,
   ⟨0x0B, .u64, .wo, false, 0, 0xFFFFFFFFFFFFFFFF, 0, 18446744073709551615⟩]

/-- Cards of *Table 16.13*, base index 0x3A10, 2 objects. -/
def cards_RUN (_ : Nat) : List Card :=
  [⟨0x01, .bool, .wo, false, 0, 0x1, 0, 255⟩,
   ⟨0x02, .bool, .wo, false, 0, 0x1, 0, 255⟩,
   ⟨0x03, .bool, .wo, false, 0, 0x1, 0, 255⟩,
   ⟨0x04, .u8, .ro, false, 3, 0xFF, 0, 255⟩,
   ⟨0x05, .u8, .ro, false, 0, 0xFF, 0, 255⟩,
   ⟨0x06, .u64, .rwl, false, 0, 0xFFFFFFFFFFFFFFFF, 0, 18446744073709551615⟩,
   ⟨0x07, .domain, .rwl, false, 0, 0, 0, 0⟩,
   ⟨0x08, .domain, .rw, false, 0, 0, 0, 0⟩]

/-- Cards of *Table 16.14*, base index 0x3A20, 1 object. -/
def cards_ENGDBG (_ : Nat) : List Card :=
  [⟨0x01, .u16, .wo, false, 0, 0x1FF, 0, 65535⟩,
   ⟨0x02, .u16, .wo, false, 0, 0x1FF, 0, 65535⟩,
   ⟨0x03, .u16, .wo, false, 0, 0x1FF, 0, 65535⟩,
   ⟨0x04, .domain, .rw, false, 0, 0, 0, 0⟩,
   ⟨0x05, .domain, .ro, false, 0, 0, 0, 0⟩,
   ⟨0x06, .domain, .ro, false, 0, 0, 0, 0⟩]

/-- Cards of *Table 16.15*, base index 0x3A30, 16 objects. -/
def cards_EVC (_ : Nat) : List Card :=
  [⟨0x01, .u32, .rw, false, 0, 0xFFFFFF03, 0, 4294967295⟩,
   ⟨0x02, .u64, .ro, false, 0, 0xFFFFFFFFFFFFFFFF, 0, 18446744073709551615⟩,
   ⟨0x03, .bool, .wo, false, 0, 0x1, 0, 255⟩]

/-- Cards of *Table 16.15*, base index 0x3A40, 1 object. -/
def cards_EVSNAP (_ : Nat) : List Card :=
  [⟨0x01, .bool, .wo, false, 0, 0x1, 0, 255⟩,
   ⟨0x02, .tt, .ro, false, 0, 0xFFFFFFFFFFFFFFFF7FFF, 0, 1208925819614629174706175⟩,
   ⟨0x03, .domain, .ro, false, 0, 0, 0, 0⟩]

/-- Cards of *Table 16.16*, base index 0x1210, 2 objects. -/
def cards_WD (_ : Nat) : List Card :=
  [⟨0x01, .bool, .rw, false, 0, 0x1, 0, 255⟩,
   ⟨0x02, .u32, .rwl, false, 1000000, 0xFFFFFFFF, 1000, 60000000⟩,
   ⟨0x03, .u32, .rw, false, 0, 0xFFFFFFFF, 0, 4294967295⟩,
   ⟨0x04, .u8, .wo, false, 0, 0xFF, 0, 255⟩,
   ⟨0x05, .u32, .ro, false, 1000000, 0xFFFFFFFF, 0, 4294967295⟩,
   ⟨0x06, .bool, .ro, false, 0, 0x1, 0, 255⟩,
   ⟨0x07, .bool, .w1c, false, 0, 0x1, 0, 255⟩,
   ⟨0x08, .u32, .ro, false, 0, 0xFFFFFFFF, 0, 4294967295⟩,
   ⟨0x09, .u32, .ro, false, 0, 0xFFFFFFFF, 0, 4294967295⟩]

/-- Cards of *Table 17.8*, base index 0x1002, 1 object. -/
def cards_SUP (_ : Nat) : List Card :=
  [⟨0x01, .u8, .ro, false, 255, 0xFF, 0, 255⟩,
   ⟨0x02, .u8, .w1c, false, 0, 0xFF, 0, 255⟩,
   ⟨0x03, .u32, .ro, false, 0, 0xFFFFFFFF, 0, 4294967295⟩,
   ⟨0x04, .domain, .ro, false, 0, 0, 0, 0⟩,
   ⟨0x05, .i32, .rw, false, 100000, 0xFFFFFFFF, 60000, 115000⟩,
   ⟨0x06, .domain, .ro, false, 0, 0, 0, 0⟩,
   ⟨0x07, .bool, .w1c, false, 0, 0x1, 0, 255⟩,
   ⟨0x08, .u32, .ro, false, 0, 0xFFFFFFFF, 0, 4294967295⟩,
   ⟨0x09, .bool, .wo, false, 0, 0x1, 0, 255⟩,
   ⟨0x0A, .bool, .ro, false, 0, 0x1, 0, 255⟩]

/-- Cards of the objects that the text defines outside a card table. -/
def cards_SITE : List Card :=
  [⟨0x01, .domain, .rw, false, 0, 0, 0, 0⟩, ⟨0x02, .domain, .ro, false, 0, 0, 0, 0⟩, ⟨0x03, .bool, .wo, false, 0, 0x1, 0, 1⟩]

/-- The ledger directory 0x1040 (R47): 64 read-only entries. -/
def cards_LEDGERDIR : List Card :=
  (List.range 64).map fun k => ⟨k + 1, .u32, .ro, false, 0, 0xFFFFFFFF, 0, 0xFFFFFFFF⟩

/-- Whether index i lies in the block of `n` indices from `b`. -/
def inBlock (i b n : Nat) : Bool := decide (b ≤ i) && decide (i < b + n)

/-- QUAD_SCHEDULE, subindex 0x11, is defined by channel 4n of a quad only (R113). -/
def quadOnly (ch : Nat) (l : List Card) : List Card := if ch % 4 = 0 then l else l.filter fun c => c.sub != 0x11

/-- The cards of an index and the value of its subindex 0x00 (R38); `none` where no chapter defines the index (R37). -/
def cardsOf (i : Nat) : Option (Nat × List Card) :=
  if inBlock i 0x1000 1 then some (0x09, cards_ID (i - 0x1000))
  else if inBlock i 0x1001 1 then some (0x18, cards_DEV (i - 0x1001))
  else if inBlock i 0x1002 1 then some (0x0A, cards_SUP (i - 0x1002))
  else if inBlock i 0x1041 63 then some (0x1F, cards_LED (i - 0x1041))
  else if inBlock i 0x1100 2 then some (0x10, cards_MGT (i - 0x1100))
  else if inBlock i 0x1110 1 then some (0x06, cards_KISKO (i - 0x1110))
  else if inBlock i 0x1120 1 then some (0x07, cards_KEYS (i - 0x1120))
  else if inBlock i 0x1140 64 then some (0x09, cards_SES (i - 0x1140))
  else if inBlock i 0x1200 1 then some (0x0C, cards_LATCH (i - 0x1200))
  else if inBlock i 0x1201 2 then some (0x08, cards_MC (i - 0x1201))
  else if inBlock i 0x1210 2 then some (0x09, cards_WD (i - 0x1210))
  else if inBlock i 0x1400 1 then some (0x09, cards_CLKREF (i - 0x1400))
  else if inBlock i 0x1401 1 then some (0x0B, cards_CLK (i - 0x1401))
  else if inBlock i 0x1402 4 then some (0x03, cards_FPLL (i - 0x1402))
  else if inBlock i 0x1410 16 then some (0x02, cards_GCLK (i - 0x1410))
  else if inBlock i 0x1420 24 then some (0x03, cards_RCLK (i - 0x1420))
  else if inBlock i 0x1500 1 then some (0x10, cards_PWR (i - 0x1500))
  else if inBlock i 0x1501 4 then some (0x01, cards_SPROG (i - 0x1501))
  else if inBlock i 0x1510 98 then some (0x05, cards_SHED (i - 0x1510))
  else if inBlock i 0x1800 1 then some (0x0B, cards_CFG (i - 0x1800))
  else if inBlock i 0x1801 1 then some (0x0A, cards_AUD (i - 0x1801))
  else if inBlock i 0x1810 24 then some (0x11, cards_PAD (i - 0x1810))
  else if inBlock i 0x1A00 1 then some (0x0B, cards_MARK (i - 0x1A00))
  else if inBlock i 0x1A01 1 then some (0x03, cards_SCHED (i - 0x1A01))
  else if inBlock i 0x1A10 2 then some (0x0D, cards_PTP (i - 0x1A10))
  else if inBlock i 0x1A12 1 then some (0x0B, cards_ACT (i - 0x1A12))
  else if inBlock i 0x1A20 16 then some (0x0E, cards_TRIG (i - 0x1A20))
  else if inBlock i 0x1C00 1 then some (0x17, cards_MEM (i - 0x1C00))
  else if inBlock i 0x1C08 8 then some (0x0C, cards_MEMC (i - 0x1C08))
  else if inBlock i 0x1C20 4 then some (0x06, cards_GRIND (i - 0x1C20))
  else if inBlock i 0x1C30 1 then some (0x08, cards_MARCH (i - 0x1C30))
  else if inBlock i 0x1C31 1 then some (0x0D, cards_PATROL (i - 0x1C31))
  else if inBlock i 0x1C40 64 then some (0x06, cards_KID (i - 0x1C40))
  else if inBlock i 0x1E00 1 then some (0x09, cards_NET (i - 0x1E00))
  else if inBlock i 0x1E10 98 then some (0x0C, cards_RS (i - 0x1E10))
  else if inBlock i 0x2000 144 then some (0x1C, quadOnly (i - 0x2000) (cards_CH (i - 0x2000)))
  else if inBlock i 0x2100 4 then some (0x06, cards_BANK (i - 0x2100))
  else if inBlock i 0x2400 512 then some (0x60, cards_ENG (i - 0x2400))
  else if inBlock i 0x2600 16 then some (0x08, cards_CLU (i - 0x2600))
  else if inBlock i 0x3000 4 then some (0x0F, cards_FC (i - 0x3000))
  else if inBlock i 0x3004 4 then some (0x0F, cards_RU (i - 0x3004))
  else if inBlock i 0x3400 1 then some (0x06, cards_HALT (i - 0x3400))
  else if inBlock i 0x3401 1 then some (0x09, cards_ALLOC (i - 0x3401))
  else if inBlock i 0x3408 8 then some (0x0B, cards_LINE (i - 0x3408))
  else if inBlock i 0x3410 8 then some (0x01, cards_SMASK (i - 0x3410))
  else if inBlock i 0x3600 144 then some (0x1F, cards_SER (i - 0x3600))
  else if inBlock i 0x36A0 4 then some (0x1B, cards_YARD (i - 0x36A0))
  else if inBlock i 0x3800 1 then some (0x08, cards_FAB (i - 0x3800))
  else if inBlock i 0x3804 4 then some (0x0C, cards_FP (i - 0x3804))
  else if inBlock i 0x3810 8 then some (0x01, cards_PROBE (i - 0x3810))
  else if inBlock i 0x3820 48 then some (0x04, cards_GPIO (i - 0x3820))
  else if inBlock i 0x3A00 1 then some (0x0A, cards_DBG (i - 0x3A00))
  else if inBlock i 0x3A01 1 then some (0x0B, cards_TRACE (i - 0x3A01))
  else if inBlock i 0x3A10 2 then some (0x08, cards_RUN (i - 0x3A10))
  else if inBlock i 0x3A20 1 then some (0x06, cards_ENGDBG (i - 0x3A20))
  else if inBlock i 0x3A30 16 then some (0x03, cards_EVC (i - 0x3A30))
  else if inBlock i 0x3A40 1 then some (0x03, cards_EVSNAP (i - 0x3A40))
  else if inBlock i 0x4000 32768 then some (0x19, cards_Q (i - 0x4000))
  else if i = 0x1040 then some (64, cards_LEDGERDIR)
  else if inBlock i 0x1220 2 then some (0x01, [⟨0x01, .domain, .rw, false, 0, 0, 0, 0⟩])
  else if i = 0x3010 then some (0x03, cards_SITE)
  else if i = 0x1C32 then some (0x01, [⟨0x01, .u64, .ro, false, 0, 0xFFFFFFFFFFFFFFFF, 0, 0xFFFFFFFFFFFFFFFF⟩])
  else none

/-- The card of an object, subindex 0x00 included (R38: a U8, RO object holding the highest subindex); `none` answers DECODE (R37). -/
def cardOf (o : Nat) : Option Card :=
  match cardsOf (o / 256) with
  | none => none
  | some (top, cs) =>
    if o % 256 = 0 then some ⟨0, .u8, .ro, false, top, 0xFF, 0, 0xFF⟩
    else cs.find? fun c => c.sub == o % 256

/-- The value a scalar object holds after power-on reset (R10). -/
def regDefault (o : Nat) : Nat :=
  match cardOf o with
  | some c => c.dflt
  | none => 0

end Sys2Proof.Machine
end

