-- ==== Sys2Proof/Machine/Images.lean ====
section
/-! DEFINITION. The DOMAIN images the device holds after reset (R10), and the longest image each DOMAIN object takes (R42). -/

namespace Sys2Proof.Machine

/-- An image that repeats a byte group. -/
def repeatBytes (n : Nat) (b : List Byte) : List Byte := (List.replicate n b).flatten

/-- The default shed programs of *Table 15.8*. -/
def shedProgramDefault (k : Nat) : List Byte :=
  (match k with
   | 0 => [0x105C0000, 0x50000000, 0x315C0000, 0x60000002, 0x00000000]
   | 1 => [0x105C0000, 0x1002005D, 0x10020060, 0x50000000, 0x325C0000, 0x3202005D, 0x31020060, 0x60000003, 0x00000000]
   | 2 => [0x30620000, 0x20620000, 0x60000001, 0x00000000]
   | _ => [0x00000000]).flatMap (leBytes 4)

/-- MAGIC and 2,048 unused entries: STANDING after reset (R343, *Table 12.7*). -/
def standingDefault : List Byte :=
  leBytes 4 0x5253564E ++ fill 12 0 ++ repeatBytes 2048 (0xFF#8 :: fill 7 0)

/-- BINDING of a ring stop after reset: the spec gives "per block"; the model takes 16 entries, each naming the target of
its own port number (DESIGN CHOICE, notes/assumptions). -/
def bindingDefault : List Byte := (List.range 16).flatMap fun p => leBytes 2 p

/-- The Halter table after reset (*Table 7.9*): every line WHOLE, PULSE, no flags, YARD_OWNER 0xFF, all units free, every COND 0,
every site mask all ones; the header names every line. -/
def haltTableDefault : List Byte :=
  leBytes 4 0x48544C41 ++ [0xFF#8] ++ fill 11 0 ++ repeatBytes 8 (leBytes 8 0xFF000000 ++ fill 32 0xFF) ++ fill 1152 0 ++ fill 1024 0xFF

/-- Timing-set record 0 of the reset table (R110): PERIOD 20,000, MUX ×1, NRZ, FIXED_OFF, edge strobe, VALID, D0 at 0, S0 at
10,000. -/
def timingSetZero : List Byte :=
  leBytes 4 20000 ++ leBytes 1 0 ++ leBytes 1 1 ++ fill 10 0 ++ leBytes 8 (2 ^ 63) ++ fill 72 0 ++ leBytes 8 (2 ^ 63 + 16 * 2 ^ 10) ++
    fill 56 0

/-- The timing-set table after reset. -/
def timingSetsDefault : List Byte := timingSetZero ++ fill 10080 0

/-- The default scrub schedule (*Table 14.7*). -/
def scrubProgramDefault : List Byte :=
  [0x10000000000003E8, 0x11000000000001F4, 0x1200000000000064, 0x1300000000000014, 0x1400000000000064, 0x1500000000000064,
   0x16000000000003E8, 0x1700000000000064, 0x1800000000000014, 0x19000000000003E8, 0x1A400000000000FA, 0x0000000000000001].flatMap (leBytes 8)

/-- The image a DOMAIN object holds after reset. -/
def imageDefault (o : Nat) : List Byte :=
  if o = O.KEYS_KEY_WRITES then fill 20 0
  else if o = O.CLK_CLK_ENABLE then fill 51 0 ++ [0x7C#8]
  else if o = O.CLK_CLK_READY ∨ o = O.CLK_CLK_RUNNING then fill 52 0
  else if o = O.CLK_PLL_LOCKED then fill 7 0
  else if o = O.TRACE_TRACE_ENGINES then fill 64 0
  else if o = O.TRACE_TRACE_CHANNELS then fill 18 0
  else if o = O.DBG_CHALLENGE then fill 16 0
  else if inBlock (o / 256) 0x3A10 2 then (if o % 256 = 0x07 then fill 256 0 else fill 128 0)
  else if o = O.ENGDBG_ENG_COMP then fill 16384 0
  else if o = O.ENGDBG_ENG_HALT_CAUSE then fill 512 0
  else if o = O.ENGDBG_ENG_COMP_HITS then fill 4096 0
  else if o = O.EVSNAP_SNAP_VALUES then fill 128 0
  else if o = O.SUP_VSENSE then fill 8 0
  else if o = O.SUP_TEMP_SENSORS then fill 80 0
  else if inBlock (o / 256) 0x1100 2 then fill 16 0
  else if o = O.MEM_REGIONS then fill 512 0
  else if o = O.MEM_WALK then fill 24 0
  else if inBlock (o / 256) 0x1C20 4 then (if o % 256 = 0x01 then fill 16384 0 else fill 8192 0)
  else if o = O.NET_STANDING then standingDefault
  else if inBlock (o / 256) 0x1E10 98 then bindingDefault
  else if o = O.HALT_TABLE then haltTableDefault
  else if inBlock (o / 256) 0x3000 4 then (if o % 256 = 0x01 then repeatBytes 36 (leBytes 2 1) else [])
  else if inBlock (o / 256) 0x2100 4 then repeatBytes 144 (leBytes 4 0x0FFF0FFF)
  else if inBlock (o / 256) 0x2000 144 then (if o % 256 = 0x10 then timingSetsDefault else [])
  else if o = O.SITES then repeatBytes 1024 (leBytes 4 8)
  else if inBlock (o / 256) 0x3004 4 then (if o % 256 = 0x02 then fill 32768 0 else [])
  else if o = O.PATROL_PASSES then fill 88 0
  else if o = O.PATROL_SRAM_CORRECTED ∨ o = O.PATROL_SRAM_UNCORRECTABLE then fill 80 0
  else if o = O.MARCH_STARTUP_RESULT then fill 128 0
  else if o = O.FAB_BM_FAILED then fill 288 0
  else if o = O.PATROL_SCRUB_PROGRAM then scrubProgramDefault
  else if inBlock (o / 256) 0x2600 16 then fill 64 0xFF
  else if inBlock (o / 256) 0x36A0 4 then (if o % 256 = 0x11 then fill 64 0 else [])
  else if inBlock (o / 256) 0x1501 4 then shedProgramDefault (o / 256 - 0x1501)
  else []

/-! ### Reserved fields (R7) -/

/-- Bytes under a mask that repeats, from place i of it on. -/
def maskEvery (m : List Nat) : Nat → List Byte → List Byte
  | _, [] => []
  | i, b :: r => (b &&& BitVec.ofNat 8 (m.getD (i % m.length) 0)) :: maskEvery m (i + 1) r

/-- `n` bytes of which every bit is defined, or none. -/
def defined (n : Nat) : List Nat := List.replicate n 0xFF
def reserved (n : Nat) : List Nat := List.replicate n 0

/-- The defined bits of a timing-set record (*Table 4.9*, *Table 4.10*). -/
def timingSetMask : List Nat :=
  defined 5 ++ [0x01] ++ reserved 10 ++ (List.replicate 18 [0xFF, 0xFF, 0xFF, 0xFF, 0x03, 0x00, 0x00, 0x80]).flatten

/-- The defined bits of a DSP slot (*Table 6.2*). -/
def dspSlotMask (slot : Nat) : Nat :=
  match slot / 2 ^ 28 with
  | 0x0 => 0xF0000000
  | 0x1 => 0xFFFFFFF0
  | 0x2 => 0xFFFFF000
  | 0x3 => 0xF80F0000
  | 0x4 => 0xFFFF8000
  | 0x5 => 0xFE078000
  | 0x6 => 0xFF8F0000
  | 0x7 => 0xFF0F0000
  | 0x8 => 0xFC000000
  | 0x9 => 0xFF878000
  | _ => 0xFFFFFFFF

/-- An instruction word without its reserved bits: bits [5:0] of the address and data slots, and those of the DSP slot (R143, R147,
R173). -/
def instrMasked (w : Nat) : Nat :=
  w &&& (dspSlotMask (w % 2 ^ 32) + 0xFFFFF * 2 ^ 32 + 0xFFFC0 * 2 ^ 52 + 0xFFFFC0 * 2 ^ 72 + 0xFFFFFFFF * 2 ^ 96)

/-- Instruction words, one after another. -/
def instrsMasked : Nat → List Byte → List Byte
  | 0, l => l
  | n + 1, l => leBytes 16 (instrMasked (leNat (l.take 16))) ++ instrsMasked n (l.drop 16)

/-- A program image of a right length without its reserved fields (*Table 5.16*). -/
def programMasked (img : List Byte) : List Byte :=
  let ev := 8 * byteAt img 10
  let code := img.drop (64 + ev)
  let n := min (fieldLE img 4 2) (code.length / 16)
  img.take 11 ++ fill (min 53 (img.length - 11)) 0 ++
    maskEvery ([0xFF, 0xFF, 0x03, 0x0F] ++ reserved 4) 0 (slice 64 ev img) ++ instrsMasked n code

/-- A DOMAIN image as its owner takes it: what is written to a reserved field is ignored, and reads as 0. -/
def imageMasked (o : Nat) (img : List Byte) : List Byte :=
  let i := o / 256
  let every := fun (m : List Nat) => maskEvery m 0 img
  if inBlock i 0x2000 144 then
    if o % 256 = 0x10 then every timingSetMask
    else maskEvery (defined 5 ++ [0x0F] ++ reserved 10) 0 (img.take 16) ++ maskEvery timingSetMask 0 (img.drop 16)
  else if inBlock i 0x2100 4 then every [0xFF, 0x0F, 0xFF, 0x0F]
  else if inBlock i 0x2400 512 ∧ o % 256 = 0x10 then programMasked img
  else if inBlock i 0x3000 4 then every [0xFF, 0x3F]
  else if inBlock i 0x3004 4 then every ([0xFF, 0x83] ++ defined 3 ++ reserved 3 ++ defined 6 ++ reserved 2)
  else if o = O.SITES then every ([0x0F] ++ reserved 3)
  else if inBlock i 0x3600 144 then every ([0xFF, 0xFF] ++ reserved 2)
  else if inBlock i 0x36A0 4 ∧ o % 256 = 0x11 then every (defined 5 ++ [0x03] ++ reserved 2)
  else if o = O.MEM_REGIONS then every (defined 5 ++ reserved 3 ++ defined 13 ++ reserved 3 ++ [0xFF, 0x03, 0xFF] ++ reserved 5)
  else if o = O.MEM_WALK then every (defined 18 ++ reserved 6)
  else if inBlock i 0x1C20 4 then every (defined 6 ++ reserved 2 ++ defined 12 ++ [0x03] ++ reserved 11)
  else if o = O.NET_STANDING then img.take 4 ++ fill (min 12 (img.length - 4)) 0 ++ maskEvery (defined 3 ++ reserved 1 ++ defined 2 ++ reserved 2) 0 (img.drop 16)
  else if o = O.CLK_CLK_ENABLE then every (defined 51 ++ [0x7F])
  else if inBlock i 0x3A10 2 ∧ o % 256 = 0x08 then every (defined 8 ++ [0xF1, 0xFC] ++ reserved 2 ++ defined 4)
  else if o = O.ENGDBG_ENG_COMP then every (defined 6 ++ reserved 2 ++ defined 6 ++ [0x1F, 0x00])
  else img

end Sys2Proof.Machine
end

