-- ==== Sys2Proof/Machine/Ops.lean ====
section
/-! DEFINITION. The named operations every family uses: the dictionary's registers and images, time and stamps, free values,
flags and interrupts, ledgers, event counters and trace, replies. -/

namespace Sys2Proof.Machine

/-! ### Registers and images -/

/-- The value of a scalar object as stored. -/
def State.reg (s : State) (o : Nat) : Nat := Tbl.get (regDefault o) s.regs o

/-- Store a scalar object. -/
def State.setReg (s : State) (o v : Nat) : State := { s with regs := Tbl.set (regDefault o) s.regs o v }

/-- Store a BOOL object. -/
def State.setBool (s : State) (o : Nat) (b : Bool) : State := s.setReg o (b2n b)

/-- Whether a BOOL object is 1. -/
def State.isSet (s : State) (o : Nat) : Bool := s.reg o == 1

/-- The number of bytes of a scalar type (*Table 2.2*). -/
def Ty.bytes : Ty → Nat
  | .bool => 1
  | .u8 => 1
  | .u16 => 2
  | .u32 => 4
  | .u64 => 8
  | .i32 => 4
  | .i64 => 8
  | .tt => 10
  | .stamp => 20
  | .string => 0
  | .domain => 0

/-- The width in bits of a scalar object. -/
def regBits (o : Nat) : Nat :=
  match cardOf o with
  | some c => 8 * c.ty.bytes
  | none => 0

/-- Add to a counter object, which wraps modulo the width of its type (R46). -/
def State.bump (s : State) (o n : Nat) : State := s.setReg o ((s.reg o + n) % 2 ^ regBits o)

/-- Raise an object that records a maximum. -/
def State.raiseMax (s : State) (o v : Nat) : State := if s.reg o < v then s.setReg o v else s

/-- The committed image of a DOMAIN object. -/
def State.image (s : State) (o : Nat) : List Byte := Tbl.get (imageDefault o) s.images o

/-- Replace the committed image of a DOMAIN object. -/
def State.setImage (s : State) (o : Nat) (b : List Byte) : State :=
  { s with images := Tbl.set (imageDefault o) s.images o b }

/-- Replace a committed image that takes effect at the boundary at which word clock w begins. -/
def State.swapImage (s : State) (o w : Nat) (b : List Byte) : State :=
  let h := Tbl.get [] s.past o
  { s.setImage o b with past := Tbl.set [] s.past o (if h.any (·.1 == w) then h else ((w, s.image o) :: h).take 16) }

/-- The image of an object that is in force in word clock w. -/
def State.imageAt (s : State) (o w : Nat) : List Byte :=
  match (Tbl.get [] s.past o).reverse.find? fun p => decide (w < p.1) with
  | some p => p.2
  | none => s.image o

/-- The number of the running word clock, counted from power-on. -/
def State.wc (s : State) : Nat := s.now / Config.wordUnits

/-- The word clock that begins at the first boundary at or after now. -/
def State.nextWc (s : State) : Nat := (s.now + Config.wordUnits - 1) / Config.wordUnits

/-- Bit n of a bitmap image. -/
def imgBit (l : List Byte) (n : Nat) : Bool := (byteAt l (n / 8)).testBit (n % 8)

/-- A bitmap image with bit n set or cleared. -/
def setImgBit (l : List Byte) (n : Nat) (b : Bool) : List Byte :=
  splice l (n / 8) [BitVec.ofNat 8 (setBit (byteAt l (n / 8)) (n % 8) b)]

/-! ### Time -/

/-- The clock moves to the instant of a command; it never moves back. -/
def State.tickTo (s : State) (t : Nat) : State := { s with now := max s.now t }

/-- An event at a probe point, of a class and index of *Table 10.12* in a quadrant, in the present word clock (R306). -/
def State.pulse (s : State) (q v : Nat) : State := { s with pulses := Tbl.set 0 s.pulses (q * 2 ^ 16 + v) (s.now / Config.wordUnits + 1) }

/-- An event at a probe point of a channel, and of an engine, of a kind. -/
def State.chanPulse (s : State) (ch k : Nat) : State := s.pulse (ch / 36) (2 * 2 ^ 12 + 8 * (ch % 36) + k)
def State.engPulse (s : State) (e k : Nat) : State := s.pulse (e / 128) (3 * 2 ^ 12 + 4 * (e % 128) + k)

/-- The present TT tick as counted, modulo 2^64 (R83). -/
def State.tick (s : State) : Nat := (s.now / Config.tickUnits + s.ttOff) % 2 ^ 64

/-- The present fine part (R83). -/
def State.fine (s : State) : Nat := s.now % Config.tickUnits

/-- Whether the local TT is valid (*Table 3.4*). -/
def State.ttValid (s : State) : Bool := s.isSet O.MARK_TT_VALID

/-- A TT image (R39): fine part in bytes 0 and 1, tick count in bytes 2 to 9. -/
def ttImage (tick fine : Nat) : Nat := fine + tick * 65536

/-- The tick and the fine part of a TT image. -/
def ttTick (v : Nat) : Nat := v / 65536 % 2 ^ 64
def ttFine (v : Nat) : Nat := v % 32768

/-- The tick count and the TT image of any instant, while TT is valid (R83). -/
def State.tickOf (s : State) (inst : Nat) : Nat := (inst / Config.tickUnits + s.ttOff) % 2 ^ 64

/-- The TT image that means "TT not valid" (R78). -/
def ttInvalid : Nat := ttImage 0xFFFFFFFFFFFFFFFF 0

/-- The TT image of the present instant, to the fine step (R83). -/
def State.ttNow (s : State) : Nat := if s.ttValid then ttImage s.tick s.fine else ttInvalid

/-- The TT image of an instant, to the fine step. -/
def State.ttOf (s : State) (inst : Nat) : Nat := if s.ttValid then ttImage (s.tickOf inst) (inst % Config.tickUnits) else ttInvalid

/-- The TT image of the present tick, fine part 0 (R98). -/
def State.ttTickNow (s : State) : Nat := if s.ttValid then ttImage s.tick 0 else ttInvalid

/-- The instant, in the model's units, at which the tick count is `tick` (taken as the nearest one within half the range). -/
def State.instantOf (s : State) (tick fine : Nat) : Nat :=
  let d := (tick + 2 ^ 64 - s.tick) % 2 ^ 64
  let base := s.now / Config.tickUnits
  (if d < 2 ^ 63 then base + d else base - (2 ^ 64 - d)) * Config.tickUnits + fine

/-- The first boundary of a clock of period `p` at or after an instant (R85). -/
def ceilTo (p t : Nat) : Nat := (t + p - 1) / p * p

/-- The signed difference of R84 between a 40-bit tick and the present one. -/
def schedDiff (stick ttick : Nat) : Int :=
  let d : Nat := (stick % 2 ^ 40 + 2 ^ 40 - ttick % 2 ^ 40) % 2 ^ 40
  if d ≥ 2 ^ 39 then (d : Int) - 2 ^ 40 else (d : Int)

/-! ### PTP time and stamps (R90 to R94) -/

/-- PTP time is held in units of 0.5 ps divided by 10^10; one nanosecond is 2·10^13 of them. -/
def ptpNs : Int := 20000000000000

/-- The mapping of a domain at the present instant: PTP_BASE + (TT − TT_BASE) × (1 + RATE × 10^−10) (R90). -/
def State.ptpNow (s : State) (k : Nat) : Int :=
  let p := Tbl.get ({} : Ptp) s.ptp k
  p.base + ((s.now : Int) - p.baseAt) * (10000000000 + signed 32 (s.reg (O.PTP_RATE k)))

/-- The active timeline at the present instant (R91): its value at `baseAt` run on at its rate; a slew stops at the mapping it
runs to. -/
def State.actNow (s : State) : Int :=
  let v := s.act.base + ((s.now : Int) - s.act.baseAt) * (10000000000 + s.act.rate)
  if s.act.slewing && !s.act.paused then
    let m := s.ptpNow (s.reg O.ACT_ACTIVE_DOMAIN)
    if signed 32 (s.reg (O.PTP_RATE (s.reg O.ACT_ACTIVE_DOMAIN))) < s.act.rate then min v m else max v m
  else v

/-- Whether the active domain is LOCKED or HOLDOVER (R94). -/
def State.ptpValid (s : State) : Bool :=
  let st := s.reg (O.PTP_STATE (s.reg O.ACT_ACTIVE_DOMAIN))
  st == 3 || st == 4

/-- The PTP part of a STAMP, bytes 10 to 19, for a value of the active timeline (R39, R94). -/
def ptpImage (v : Int) (valid : Bool) (dom : Nat) : Nat :=
  let ns := (v / ptpNs).toNat
  (ns / 1000000000) % 2 ^ 48 + (ns % 1000000000) * 2 ^ 48 + b2n valid * 2 ^ 78 + (dom % 2) * 2 ^ 79

/-- A STAMP image of the instant `at` (R39, R94); while TT is not valid its tick is all ones and PTP_VALID is 0 (R78). -/
def State.stampAt (s : State) (inst : Nat) (tt : Nat) : Nat :=
  let v := s.actNow + ((inst : Int) - s.now) * (10000000000 + s.act.rate)
  tt + ptpImage v (s.ttValid && s.ptpValid) (s.reg O.ACT_ACTIVE_DOMAIN) * 2 ^ 80

/-- The STAMP of the present instant. -/
def State.stampNow (s : State) : Nat := s.stampAt s.now s.ttNow

/-! ### Free values -/

/-- Draw a free number; the counter advances. -/
def State.drawNat (s : State) : Nat × State := (Config.freeNat s.draws, { s with draws := s.draws + 1 })

/-- Draw a free yes-or-no; the counter advances. -/
def State.drawBool (s : State) : Bool × State := (Config.freeBool s.draws, { s with draws := s.draws + 1 })

/-- Draw n bytes of the random source; the counter advances by n. -/
def State.drawBytes (s : State) (n : Nat) : List Byte × State :=
  ((List.range n).map fun i => Config.randomByte (s.draws + i), { s with draws := s.draws + n })

/-! ### Flags (R46) -/

/-- The data rate of the LPDDR4X channels in MT/s (R354, *Table 13.14*). -/
def State.memRate (s : State) : Nat :=
  match s.reg O.MEM_MEM_CONFIG % 8 with
  | 0 => 1600
  | 1 => 2133
  | 2 => 3200
  | 3 => 3733
  | _ => 4266

/-- The number of the running cycle of the clock of the block that owns an object: the word clock for channels and their serial lanes,
engines, clusters, Halter and fail units, the network cycle for the network's objects, the always-on cycle for status, latch, clock and
power objects, the controller clock, an eighth of the data rate, for a memory channel, the 1.0 GHz spine clock otherwise. -/
def State.cycleOf (s : State) (o : Nat) : Nat :=
  let i := o / 256
  if inBlock i 0x2000 0x0610 || inBlock i 0x3000 0x0500 || inBlock i 0x3600 144 then s.now / Config.wordUnits
  else if inBlock i 0x1E00 0x0100 then s.now * 3 / 5000
  else if inBlock i 0x1001 2 || inBlock i 0x1200 0x10 || inBlock i 0x1400 0x0200 then s.now / Config.aonUnits
  else if inBlock i 0x1C08 8 then s.now * s.memRate / 16000000
  else s.now / Config.nsUnits

/-- Key of a flag bit in `flagCycle`. -/
def flagKey (o b : Nat) : Nat := o * 64 + b

/-- Hardware sets bit b of a W1C object: the bit, its event counter and the cycle are recorded (R46). -/
def State.setFlag (s : State) (o b cnt n : Nat) : State :=
  if n = 0 then s
  else
    let s1 := (s.setReg o (setBit (s.reg o) b true)).bump cnt n
    { s1 with flagCycle := Tbl.set 0 s1.flagCycle (flagKey o b) (s.cycleOf o + 1) }

/-- The bits of a W1C write that take effect: not those that hardware set in the same cycle, for set wins (R46). -/
def State.clearable (s : State) (o v : Nat) : Nat :=
  (List.range 64).foldl
    (fun acc b => if v.testBit b && Tbl.get 0 s.flagCycle (flagKey o b) != s.cycleOf o + 1 then acc + 2 ^ b else acc) 0

/-- A W1C write (R10, R46). -/
def State.clearFlags (s : State) (o v : Nat) : State :=
  s.setReg o ((List.range 64).foldl (fun acc b => if (s.clearable o v).testBit b then setBit acc b false else acc) (s.reg o))

/-- Set bit n of the device FAULT flags and count it (R50). -/
def State.fault (s : State) (n : Nat) : State := s.setFlag O.DEV_FAULT n (O.DEV_FAULT_COUNT0 + n) 1

/-- Set or clear bit n of RECOVERY_ACTIVE (R31, R50). -/
def State.recovery (s : State) (n : Nat) (b : Bool) : State :=
  s.setReg O.DEV_RECOVERY_ACTIVE (setBit (s.reg O.DEV_RECOVERY_ACTIVE) n b)

/-! ### On-chip memories (R383) -/

/-- Key of a word of an array: its target in *Table 14.1*, the array's number among them, the word. -/
def badKey (target array word : Nat) : Nat := target * 2 ^ 48 + array * 2 ^ 24 + word

/-- Whether a word holds a double-bit error, or lies in a row that no spare replaces. -/
def State.badWord (s : State) (target array word : Nat) : Bool :=
  Tbl.get false s.badWords (badKey target array word) || Tbl.get false s.hardBad (badKey target array word)

/-- Words `w`, …, `w` + n − 1 of an array are bad, or good again because they were written. -/
def State.setBad (s : State) (target array w n : Nat) (b : Bool) : State :=
  let put := fun (m : Tbl Bool) (b : Bool) => (List.range n).foldl (fun m i => Tbl.set false m (badKey target array (w + i)) b) m
  { s with badWords := put s.badWords b, upWords := put s.upWords false }

/-- Words, by target, array and word, are written with fresh check bits: their upsets and double-bit errors are gone. -/
def State.freshWords (s : State) (f : Nat → Nat → Nat → Bool) : State :=
  let keep := fun (p : Nat × Bool) => !f (p.1 / 2 ^ 48) (p.1 / 2 ^ 24 % 2 ^ 24) (p.1 % 2 ^ 24)
  { s with badWords := s.badWords.filter keep, upWords := s.upWords.filter keep }

/-- One bit of a word is upset; a second upset joins it to a double-bit error (R383). -/
def State.upset (s : State) (target array word : Nat) : State :=
  let k := badKey target array word
  if s.badWord target array word then s
  else if Tbl.get false s.upWords k then s.setBad target array word 1 true
  else { s with upWords := Tbl.set false s.upWords k true }

/-- Add to entry i of an image of U64 counters. -/
def State.bumpImage (s : State) (o i n : Nat) : State :=
  s.setImage o (splice (s.image o) (8 * i) (leBytes 8 ((fieldLE (s.image o) (8 * i) 8 + n) % 2 ^ 64)))

/-- A demand read of n words of an array: each word with one bit upset is corrected in the data used and counted, and stays as it is
(R383). -/
def State.sramRead (s : State) (target array word n : Nat) : State :=
  let k := (List.range n).countP fun i => Tbl.get false s.upWords (badKey target array (word + i))
  if k = 0 then s else s.bumpImage O.PATROL_SRAM_CORRECTED target k

/-- A demand read finds an uncorrectable error in a target. -/
def State.sramBad (s : State) (target : Nat) : State :=
  ((s.bumpImage O.PATROL_SRAM_UNCORRECTABLE target 1).setFlag O.PATROL_SRAM_ERR 0 O.PATROL_SRAM_ERR_COUNT 1).fault 4

/-- Whether a march on request runs on an array of a target: 3 the Feed store of a cluster, 4 the Carafe slice of a quadrant (R387). -/
def State.marchOn (s : State) (kind unit : Nat) : Bool :=
  s.reg O.MARCH_MARCH_STATE == 2 && bits (s.reg O.MARCH_MARCH_TARGET) 31 28 == kind && s.reg O.MARCH_MARCH_TARGET % 1024 == unit

/-- Whether a march runs on a store of visible engine e (R386, R387): every array at start-up, else the one MARCH_TARGET names. -/
def State.marchEngine (s : State) (e : Nat) : Bool :=
  let t := s.reg O.MARCH_MARCH_TARGET
  s.reg O.MARCH_MARCH_STATE == 1 || (s.reg O.MARCH_MARCH_STATE == 2 && decide (bits t 31 28 ≤ 2) && t % 1024 == e)

/-! ### Interrupts -/

/-- The interrupts the spec names, by source. -/
inductive Irq where
  | handoverRequest | offerAborted | partnerAbsent | partnerPresent | preTimeout | queue | controllerAccess
  | event
  | network
  deriving DecidableEq, Repr

/-- Number of an interrupt source. -/
def Irq.num : Irq → Nat
  | .handoverRequest => 0
  | .offerAborted => 1
  | .partnerAbsent => 2
  | .partnerPresent => 3
  | .preTimeout => 4
  | .queue => 5
  | .controllerAccess => 6
  | .event => 7
  | .network => 8

/-- Raise an interrupt at a controller; `unit` tells units of one source apart. -/
def State.raise (s : State) (i : Irq) (unit : Nat) (c : Ctl) : State :=
  let k := (i.num * 65536 + unit) * 2 + c.num
  { s with irqs := Tbl.set 0 s.irqs k (Tbl.get 0 s.irqs k + 1) }

/-- Whether a controller is absent: halted by a debugger, or its shed not ON (R15, R431). -/
def State.absent (s : State) (c : Ctl) : Bool := s.isSet (O.MC_DEBUG_ABSENT c.num) || s.reg (O.SHED_STATE (93 + c.num)) != 0

/-- The controller that serves a quadrant's half: MC-A the west (Q0, Q1), MC-B the east (Q2, Q3); its partner while it is absent
(R14, R15). -/
def State.halfCtl (s : State) (q : Nat) : Ctl :=
  let c : Ctl := if q < 2 then .a else .b
  if s.absent c then c.partner else c

/-- The controller that holds charge, `none` in NONE (*Table 2.16*). -/
def State.holder (s : State) : Option Ctl :=
  let h := s.reg O.LATCH_HOLDER
  if h = 1 then some .a else if h = 2 then some .b else none

/-- An event at a source of R415 waits for the wake latch. -/
def State.wakeAt (s : State) (b : Nat) : State := { s with wakeIn := setBit s.wakeIn b true }

/-! ### Ledgers (R48) -/

/-- Object of the live term k of ledger l. -/
def ledTerm (l k : Nat) : Nat := l * 256 + 0x10 + k

/-- Add to a term of a ledger. -/
def State.ledAdd (s : State) (l k n : Nat) : State := s.bump (ledTerm l k) n

/-- Take from a term of a ledger. -/
def State.ledSub (s : State) (l k n : Nat) : State := s.setReg (ledTerm l k) (s.reg (ledTerm l k) - n)

/-- Move n items of a ledger from one term to another. -/
def State.ledMove (s : State) (l i j n : Nat) : State := (s.ledSub l i n).ledAdd l j n

/-! ### Event counters (R437) -/

/-- Count an event of a class, unit and event code in every counter whose EVSEL names it and whose GATE is open. -/
def State.countEvent (s : State) (cls unit ev n : Nat) : State :=
  (List.range 16).foldl
    (fun (s : State) k =>
      let e := s.reg (O.EVC_EVSEL k)
      if e ≠ 0 ∧ bits e 31 28 = cls ∧ bits e 27 16 = unit ∧ bits e 15 8 = ev ∧
          (bits e 1 0 = 1 ∨ (bits e 1 0 = 2 ∧ s.isSet O.TRACE_TRACE_RUN)) then s.bump (O.EVC_COUNT k) n
      else s) s

end Sys2Proof.Machine
end

