-- ==== Sys2Proof/Machine/Operands.lean ====
section
/-! DEFINITION. How a dictionary access is checked and completed: the target of every object, the order of the statuses
(R459), the form of a value (R39), the charge check (R62, R63), and the counters of every completion (R12, R50). -/

namespace Sys2Proof.Machine

/-! ### Requesters -/

/-- The controller whose identity an access carries (R62, R420). -/
def State.ctlOf (s : State) : Requester → Ctl
  | .session i => if s.reg (O.SES_CONTROLLER i.val) = 0 then .a else .b
  | .firmware c => c
  | .debugPort => if s.reg O.DBG_DBG_AS = 0 then .a else .b

/-- The role an access has: a session's while it is open, ENGINEER for firmware and debug ports (R37). -/
def State.roleOf (s : State) : Requester → Nat
  | .session i => if s.reg (O.SES_STATE i.val) = 2 then s.reg (O.SES_ROLE i.val) else 0
  | .firmware _ => 3
  | .debugPort => 3

/-- The lowest role that may write an index (*Table 2.1*): 2 OPERATOR, 3 ENGINEER. -/
def writeRole (i : Nat) : Nat :=
  if inBlock i 0x1A00 0x100 || inBlock i 0x2000 0x1800 || inBlock i 0x4000 0x8000 then 2 else 3

/-! ### The target of an object -/

/-- Ring stop of quadrant block j of the quadrant (*Table 12.1*). -/
def quadStop (q j : Nat) : Nat := 23 * q + j

/-- The ring stop behind which an index lives (*Table 12.1*; DEDUCED from the blocks it lists). -/
def stopOf (i : Nat) : Nat :=
  if inBlock i 0x1100 1 then 93
  else if inBlock i 0x1101 1 then 94
  else if inBlock i 0x1001 2 || inBlock i 0x1200 0x100 || inBlock i 0x1400 0x200 || inBlock i 0x1E00 0x100 then 92
  else if inBlock i 0x1C08 8 then quadStop ((i - 0x1C08) / 2) 20
  else if inBlock i 0x1C20 4 then quadStop (i - 0x1C20) 20
  else if inBlock i 0x2000 144 then quadStop ((i - 0x2000) / 36) ((i - 0x2000) % 36 / 4)
  else if inBlock i 0x2400 512 then quadStop ((i - 0x2400) / 128) (9 + (i - 0x2400) % 128 / 32)
  else if inBlock i 0x2600 16 then quadStop ((i - 0x2600) / 4) (9 + (i - 0x2600) % 4)
  else if inBlock i 0x3000 4 then quadStop (i - 0x3000) 21
  else if inBlock i 0x3004 4 then quadStop (i - 0x3004) 21
  else if inBlock i 0x3600 144 then quadStop ((i - 0x3600) / 36) ((i - 0x3600) % 36 / 4)
  else if inBlock i 0x36A0 4 then quadStop (i - 0x36A0) 22
  else if inBlock i 0x3804 4 then quadStop (i - 0x3804) 19
  else if inBlock i 0x3810 8 then quadStop ((i - 0x3810) / 2) 19
  else if inBlock i 0x3820 48 then quadStop ((i - 0x3820) / 12) 19
  else 95

/-- The clock domain in which the objects of an index are held (R396, R399); `none` for the spine, the always-on shed and the
blocks that have no domain of their own. -/
def domainOf (i : Nat) : Option Nat :=
  if inBlock i 0x1100 2 then some (404 + 2 * (i - 0x1100))
  else if inBlock i 0x1C08 8 then some (380 + (i - 0x1C08))
  else if inBlock i 0x2000 144 then some (i - 0x2000)
  else if inBlock i 0x2400 512 then some (324 + (i - 0x2400) / 32)
  else if inBlock i 0x2600 16 then some (324 + (i - 0x2600))
  else if inBlock i 0x3600 144 then some (i - 0x3600)
  else if inBlock i 0x36A0 4 then some (388 + 2 * (i - 0x36A0))
  else none

/-- The shed of a clock domain (R396, *Table 12.1*). -/
def shedOfDomain (d : Nat) : Nat :=
  if d < 144 then quadStop (d / 36) (d % 36 / 4)
  else if d < 288 then quadStop ((d - 144) / 36) ((d - 144) % 36 / 4)
  else if d < 324 then quadStop ((d - 288) / 9) ((d - 288) % 9)
  else if d < 340 then quadStop ((d - 324) / 4) (9 + (d - 324) % 4)
  else if d < 356 then 95
  else if d < 380 then quadStop ((d - 356) / 6) (13 + (d - 356) % 6)
  else if d < 388 then quadStop ((d - 380) / 2) 20
  else if d < 404 then quadStop ((d - 388) % 8 / 2) 22
  else if d < 406 then 93
  else if d < 408 then 94
  else if d = 408 then 93
  else if d = 409 then 94
  else if d = 412 then 92
  else 95

/-- Bit numbers of PLL_LOCKED (*Table 15.12*). -/
def pllSpll : Nat := 0
def pllQ (n : Nat) : Nat := 1 + n
def pllF (f : Nat) : Nat := 37 + f
def pllM (q : Nat) : Nat := 41 + q
def pllYard (p : Nat) : Nat := 45 + p
def pllMgt (m : Nat) : Nat := 49 + m

/-- Whether a PLL is locked. -/
def State.pllLocked (s : State) (b : Nat) : Bool := imgBit (s.image O.CLK_PLL_LOCKED) b

/-- Whether a shed is ON (*Table 15.5*). -/
def State.shedOn (s : State) (sh : Nat) : Bool := s.reg (O.SHED_STATE sh) == 0

/-- Whether the source named by a global clock's SRC runs (R398, R400). -/
def State.gclkSource (s : State) (code : Nat) : Bool :=
  if code < 16 then s.pllLocked (pllF (code / 4)) else s.pllLocked pllSpll

/-- READY of a domain that is clocked by a PLL directly (R398). -/
def State.rootReady (s : State) (d : Nat) : Bool :=
  s.shedOn (shedOfDomain d) &&
    (if 288 ≤ d ∧ d < 324 then s.pllLocked (pllQ (d - 288))
     else if 324 ≤ d ∧ d < 340 then s.pllLocked pllSpll
     else if 340 ≤ d ∧ d < 356 then s.gclkSource (s.reg (O.GCLK_SRC (d - 340)))
     else if 380 ≤ d ∧ d < 388 then s.pllLocked (pllM ((d - 380) / 2))
     else if 388 ≤ d ∧ d < 396 then s.pllLocked (pllYard ((d - 388) / 2))
     else if d = 404 ∨ d = 406 then s.pllLocked (pllMgt ((d - 404) / 2))
     else true)

/-- Whether the device waits for CLKREF (R402): DEVICE_STATE reads 4. -/
def State.devWaits (s : State) : Bool := s.reg O.DEV_DEVICE_STATE == 4

/-- Whether CLKREF is lost, in the sense of R397: from the loss until CLKREF is stable and SPLL has locked again (R403, R404). -/
def State.clkLost (s : State) : Bool := s.devWaits && !(s.isSet O.DEV_CLKREF_STABLE && s.pllLocked pllSpll)

/-- Whether a domain's enable bit is set (R397). -/
def State.clkBit (s : State) (d : Nat) : Bool := imgBit (s.image O.CLK_CLK_ENABLE) d

/-- Whether a domain clocked by a PLL directly runs (R397). -/
def State.rootRunning (s : State) (d : Nat) : Bool := s.clkBit d && s.rootReady d && !s.clkLost

/-- READY of a domain (R398): channel domains need the QPLL domain of their quad, regional clocks their global clock. -/
def State.domainReady (s : State) (d : Nat) : Bool :=
  if d < 144 then s.shedOn (shedOfDomain d) && s.rootRunning (288 + d / 4)
  else if d < 288 then
    s.shedOn (shedOfDomain d) && (s.reg (O.CH_MODE (d - 144)) == 1 || s.rootRunning (288 + (d - 144) / 4))
  else if 356 ≤ d ∧ d < 380 then s.shedOn (shedOfDomain d) && s.rootRunning (340 + s.reg (O.RCLK_SRC (d - 356)))
  else s.rootReady d

/-- Whether a domain runs: its bit is 1, its shed is ON with its source running, and CLKREF is not lost (R397). Domains 412
to 414 do not depend on CLKREF. -/
def State.domainRunning (s : State) (d : Nat) : Bool :=
  if d ≥ 412 then s.clkBit d else s.clkBit d && s.domainReady d && !s.clkLost

/-! ### Events measured in cycles (R437) -/

/-- The events of controllers since they were last counted: one per MC cycle of 1.0 GHz while the clock runs; and, of the instructions
retired and the interrupts taken, whose source the model leaves out, a free number of at most one per cycle, none while halted. -/
def State.countMc (s : State) : State :=
  let n := s.now / Config.nsUnits - s.mcAt / Config.nsUnits
  (List.range 16).foldl
    (fun (s : State) k =>
      let e := s.reg (O.EVC_EVSEL k)
      let x := bits e 27 16
      if bits e 31 28 = 5 ∧ 0 < n ∧ (bits e 1 0 = 1 ∨ (bits e 1 0 = 2 ∧ s.isSet O.TRACE_TRACE_RUN)) ∧ s.domainRunning (408 + x) then
        if bits e 15 8 = 1 then s.bump (O.EVC_COUNT k) n
        else if 2 ≤ s.reg (O.RUN_RUN_STATE x) then s
        else
          let (m, s1) := s.drawNat
          s1.bump (O.EVC_COUNT k) (m % (n + 1))
      else s) { s with mcAt := s.now }

/-- The trace stops (R436). -/
def State.stopTrace (s : State) : State := s.countMc.setReg O.TRACE_TRACE_RUN 0

/-! ### Trace (R436) -/

/-- The tick field and the fine part of a time stamp of the present instant: all ones and 0 while TT is not valid (R78). -/
def State.stampTick (s : State) : Nat := if s.ttValid then s.tick else 2 ^ 64 - 1
def State.stampFine (s : State) : Nat := if s.ttValid then s.fine else 0

/-- A trace record of *Table 16.8* at the present instant. -/
def State.traceWord (s : State) (cls unit kind payload : Nat) : Nat :=
  payload % 2 ^ 64 + (s.stampTick % 2 ^ 39) * 2 ^ 64 + (s.stampFine / Config.wordUnits) * 2 ^ 103 + (kind % 64) * 2 ^ 106 +
    (unit % 4096) * 2 ^ 112 + (cls % 16) * 2 ^ 124

/-- Write one record of 16 bytes to the trace buffer; with TRACE_MODE 1 a full buffer stops the trace (R436). -/
def State.traceStore (s : State) (w : Nat) : State :=
  if s.isSet O.TRACE_TRACE_WRAPPED && s.reg O.TRACE_TRACE_MODE == 1 then s
  else
    let p := s.reg O.TRACE_TRACE_WPTR
    let s1 := { s with traceBuf := Tbl.set 0 s.traceBuf p w }.setBad 7 0 (2 * p) 2 false
    if p + 1 = 65536 then
      let s2 := (s1.setReg O.TRACE_TRACE_WPTR 0).setReg O.TRACE_TRACE_WRAPPED 1
      if s.reg O.TRACE_TRACE_MODE = 1 then s2.stopTrace else s2
    else s1.setReg O.TRACE_TRACE_WPTR (p + 1)

/-- The trace FIFO is written to the buffer at one record per ns: drain what the elapsed time allows (R436). -/
def State.traceDrain (s : State) : State :=
  let n := (s.now - s.traceAt) / Config.nsUnits
  let out := s.traceFifo.take n
  let s1 := out.foldl State.traceStore { s with traceFifo := s.traceFifo.drop n }
  { s1 with traceAt := if s1.traceFifo = [] then s.now else s.traceAt + n * Config.nsUnits }

/-- Put one record into the trace FIFO, or lose it when the FIFO holds 256 records (R436). -/
def State.tracePut (s : State) (w : Nat) : State :=
  if s.traceFifo.length < 256 then { s with traceFifo := s.traceFifo ++ [w] }
  else { s.bump O.TRACE_TRACE_LOST 1 with traceLossPending := s.traceLossPending + 1 }

/-- A record enters the FIFO: after a loss a LOSS record goes before it, and every 4,096 records a TIME record (R436). -/
def State.traceEnter (s : State) (cls unit kind payload : Nat) : State :=
  if !s.isSet O.TRACE_TRACE_RUN then s
  else
    let s1 := s.traceDrain
    let s2 :=
      if s1.traceLossPending > 0 ∧ s1.traceFifo.length < 256 then
        { s1.tracePut (s1.traceWord 0 0 1 s1.traceLossPending) with traceLossPending := 0 }
      else s1
    let s3 := if s2.traceCount % 4096 = 0 ∧ s2.traceCount ≠ 0 then s2.tracePut (s2.traceWord 0 0 0 s2.stampTick) else s2
    { s3.tracePut (s3.traceWord cls unit kind payload) with traceCount := s3.traceCount + 1 }

/-- A source records an event when its class and its unit are selected (R436). -/
def State.trace (s : State) (cls unit kind payload : Nat) : State :=
  let sel :=
    match cls with
    | 1 => (s.reg O.TRACE_TRACE_MC).testBit unit
    | 2 => imgBit (s.image O.TRACE_TRACE_ENGINES) unit
    | 4 => imgBit (s.image O.TRACE_TRACE_CHANNELS) unit
    | _ => true
  if (s.reg O.TRACE_TRACE_CLASSES).testBit cls && sel then s.traceEnter cls unit kind payload else s

/-! ### Clocks -/

/-- Frequency of FPLL f's output k in kHz (R400). -/
def State.fpllKhz (s : State) (f k : Nat) : Nat :=
  let d := bits (s.reg (O.FPLL_DIV f)) (8 * k + 7) (8 * k)
  if d = 0 then 0 else 100000 * s.reg (O.FPLL_M f) / d

/-- Frequency of the source a global clock's code names. -/
def State.srcKhz (s : State) (code : Nat) : Nat := if code < 16 then s.fpllKhz (code / 4) (code % 4) else if code = 16 then 800000 else 1000000

/-- Frequency of a Paddock's regional clock. -/
def State.regionalKhz (s : State) (p : Nat) : Nat := s.srcKhz (s.reg (O.GCLK_SRC (s.reg (O.RCLK_SRC p)))) / max 1 (s.reg (O.RCLK_DIV p))

/-- Units of 0.5 ps that n cycles of a clock in kHz take. -/
def cycleUnits (khz n : Nat) : Nat := n * (2 * 10 ^ 9) / max 1 khz

/-- The first edge of a clock of `khz` at or after an instant: clocks are in step with TT (R20). -/
def edgeFrom (khz t : Nat) : Nat :=
  let period := 2 * 10 ^ 9
  ((t * khz + period - 1) / period * period + khz - 1) / max 1 khz

/-- The target a ring stop binds to a port (*Table 12.8*). -/
def State.binding (s : State) (rs port : Nat) : Nat := byteAt (s.image (O.RS_BINDING rs)) (2 * port)

/-- The isolation of ports of a stop ends, by a DEISOLATE or a rebinding (R348, R352); RECOVERY_ACTIVE bit 5 clears when no port of the
device is isolated. -/
def State.deisolate (s : State) (rs mask : Nat) : State :=
  let was := s.reg (O.RS_ISOLATED_PORTS rs)
  let v := (List.range 16).foldl (fun v b => if mask.testBit b then setBit v b false else v) was
  let s1 := s.setReg (O.RS_ISOLATED_PORTS rs) v
  if v = was then s
  else if (List.range 98).all fun r => s1.reg (O.RS_ISOLATED_PORTS r) == 0 then s1.recovery 5 false else s1

/-- What a ring stop itself answers to an on-demand request for a port, in the order of R347; OKAY where it delivers it. -/
def State.stopAnswer (s : State) (rs port : Nat) (dom : Option Nat) : Status :=
  if (s.reg (O.RS_ISOLATED_PORTS rs)).testBit port then .isolated
  else if s.reg (O.RS_FENCE_STATE rs) ≠ 0 then .fenced
  else if dom.any (fun d => !s.domainRunning d) then .gated
  else .okay

/-- The ring stop's answer for an object of the dictionary: its session slots live with their controller. -/
def State.objAnswer (s : State) (o : Nat) : Status :=
  let i := o / 256
  if inBlock i 0x1140 64 then s.stopAnswer (if s.reg (O.SES_CONTROLLER (i - 0x1140)) = 0 then 93 else 94) 0 none
  else s.stopAnswer (stopOf i) 0 (domainOf i)

/-! ### Rights -/

/-- Whether an object is one of the private objects of a controller (R63). -/
def State.isPrivate (s : State) (c : Ctl) (o : Nat) : Bool :=
  let i := o / 256
  i == 0x1201 + c.num || i == 0x1100 + c.num || i == 0x1210 + c.num ||
    (inBlock i 0x1140 64 && s.reg (O.SES_STATE (i - 0x1140)) != 0 && s.reg (O.SES_CONTROLLER (i - 0x1140)) == c.num) ||
    (O.LATCH_CLAIM ≤ o && o ≤ O.LATCH_TAKE)

/-- Whether the latch lets a controller write shared objects: it is the holder and the latch is not OFFERED (R62, R67). -/
def State.mayWriteShared (s : State) (c : Ctl) : Bool :=
  s.holder == some c && s.reg O.LATCH_LATCH_STATE != 2

/-- A path that the owning chapter excludes (R459): latch commands and doorbells from a session (R64, R233), HEARTBEAT and
the watchdog from any but their controller (*Table 2.17*, R432). -/
def State.pathExcluded (s : State) (r : Requester) (o : Nat) : Bool :=
  let kisko := match r with
    | .session _ => true
    | _ => false
  let i := o / 256
  if O.LATCH_CLAIM ≤ o && o ≤ O.LATCH_TAKE then kisko
  else if inBlock i 0x4000 0x8000 && (o % 256 == 0x06 || o % 256 == 0x07) then kisko
  else if inBlock i 0x1201 2 && o % 256 == 0x01 then kisko || (s.ctlOf r).num != i - 0x1201
  else if inBlock i 0x1210 2 then kisko || (s.ctlOf r).num != i - 0x1210
  else false

/-- Whether a write needs debug level 2 by any path (*Table 16.1*): halts, steps, resumes and register writes. -/
def needsLevel2 (o : Nat) : Bool :=
  (inBlock (o / 256) 0x3A10 2 && o % 256 != 0x08) || o == O.ENGDBG_ENG_HALT || o == O.ENGDBG_ENG_RESUME || o == O.ENGDBG_ENG_STEP

/-- The first of the statuses of R459 steps 1 to 4 that applies to an access, and whether it is the charge check that
denies. -/
def State.checkAccess (s : State) (r : Requester) (o : Nat) (write : Bool) : Status × Bool :=
  match cardOf o with
  | none => (.decode, false)
  | some c =>
    if (write && s.roleOf r < writeRole (o / 256)) || (!write && c.se && s.roleOf r < 2) ||
        (!write && s.roleOf r = 0) then (.denied, false)
    else if write && (needsLevel2 o || r == .debugPort) && s.reg O.DBG_DEBUG_LEVEL != 2 then (.denied, false)
    else if s.objAnswer o ≠ .okay then (s.objAnswer o, false)
    else if write && s.pathExcluded r o then (.denied, false)
    else if write && !s.isPrivate (s.ctlOf r) o && !s.mayWriteShared (s.ctlOf r) then (.denied, true)
    else (.okay, false)

/-! ### The form of a value -/

/-- The value as it is stored: reserved bits are dropped (R7). -/
def Card.masked (c : Card) (v : Nat) : Nat := v &&& c.mask

/-- Whether a value is one the object's type and range take (R39, R8). -/
def Card.inRange (c : Card) (v : Nat) : Bool :=
  match c.ty with
  | .bool => v ≤ 1
  | .i32 => decide (v < 2 ^ 32) && decide (c.lo ≤ signed 32 v) && decide (signed 32 v ≤ c.hi)
  | .i64 => decide (v < 2 ^ 64) && decide (c.lo ≤ signed 64 v) && decide (signed 64 v ≤ c.hi)
  | .tt => decide (v < 2 ^ 80) && decide (ttFine v ≤ 19999)
  | .stamp => false
  | .string => false
  | .domain => false
  | _ => decide (v < 2 ^ (8 * c.ty.bytes)) && decide (c.lo ≤ (c.masked v : Nat)) && decide ((c.masked v : Int) ≤ c.hi)

/-- Step 5 of R459 for a write of a value: REFUSED for a read-only object, a DOMAIN object or a value out of range. -/
def formStatus (o v : Nat) : Status :=
  match cardOf o with
  | none => .decode
  | some c => if c.acc = .ro ∨ c.ty = .domain ∨ !c.inRange v then .refused else .okay

/-! ### Completion -/

/-- The counters of a completion (R12, R50, R399, R346): `write` for every write, commit and segment command. -/
def State.tally (s : State) (write : Bool) (rs : Nat) (st : Status) : State :=
  match st with
  | .okay => (s.ledAdd 0x105B 0 1).ledAdd 0x105B 1 1
  | .decode => ((s.bump O.DEV_DECODE_COUNT 1).ledAdd 0x105B 0 1).ledAdd 0x105B 2 1
  | .denied => s.bump O.DEV_DENIED_COUNT 1
  | .refused => ((if write then s.bump O.DEV_REFUSED_WRITES 1 else s).ledAdd 0x105B 0 1).ledAdd 0x105B 1 1
  | .timeout => s.bump O.DEV_TIMEOUT_COUNT 1
  | .gated =>
    ((((s.bump O.CLK_GATED_COUNT 1).bump (O.RS_ANSWERED rs) 1).countEvent 2 rs 2 1).ledAdd 0x105B 0 1).ledAdd 0x105B 2 1
  | .fenced => (((s.bump (O.RS_ANSWERED rs) 1).countEvent 2 rs 2 1).ledAdd 0x105B 0 1).ledAdd 0x105B 2 1
  | .isolated => (((s.bump (O.RS_ANSWERED rs) 1).countEvent 2 rs 2 1).ledAdd 0x105B 0 1).ledAdd 0x105B 2 1
  | _ => (s.ledAdd 0x105B 0 1).ledAdd 0x105B 1 1

/-- A request completes: its counters, its reply, and for a firmware access that fails the latched status and the access
fault of R41. -/
def State.complete (s : State) (r : Requester) (o : Nat) (write : Bool) (st : Status) (data : List Byte) : State :=
  let s1 := s.tally write (stopOf (o / 256)) st
  let s2 := { s1 with reply := ⟨st, data⟩ }
  match r with
  | .firmware c =>
    if st = .okay then s2 else (s2.setReg (O.MC_LAST_BUS_STATUS c.num) st.code).raise .controllerAccess 0 c
  | _ => s2

/-- An owner's answer to a write: its status and the state it leaves. -/
abbrev Owner := Nat → State → Status × State

/-- A write of a value to an object, checked in the order of R459 and then performed by its owner. -/
def State.writeObj (s : State) (r : Requester) (o v : Nat) (owner : Owner) : State :=
  match s.checkAccess r o true with
  | (.okay, _) =>
    match cardOf o, formStatus o v with
    | some c, .okay =>
      let (st, s1) := owner (c.masked v) s
      s1.complete r o true st []
    | _, st => s.complete r o true st []
  | (st, charge) => (if charge then s.bump O.LATCH_CHARGE_DENIED 1 else s).complete r o true st []

/-- The owner of a WO BOOL command: a write of 0 completes with OKAY and does nothing (R10). -/
def command (f : State → Status × State) : Owner := fun v s => if v = 0 then (.okay, s) else f s

/-- The owner of an object that only holds its value. -/
def store (o : Nat) : Owner := fun v s => (.okay, s.setReg o v)

/-- The owner of an RWL object: stored in the safe state, refused outside it (R10). -/
def storeIf (safe : State → Bool) (o : Nat) : Owner := fun v s => if safe s then (.okay, s.setReg o v) else (.refused, s)

/-! ### DOMAIN transfers (R42 to R44, R460) -/

/-- The open transfer of an object. -/
def State.xfer (s : State) (o : Nat) : Option Xfer := Tbl.get none s.xfers o

/-- To whom a transfer belongs (R460): a session, or the controller as which the window was written. -/
def State.openerOf (s : State) : Requester → Requester
  | .debugPort => .firmware (s.ctlOf .debugPort)
  | r => r

/-- Set or end the open transfer of an object. -/
def State.setXfer (s : State) (o : Nat) (x : Option Xfer) : State := { s with xfers := Tbl.set none s.xfers o x }

/-- Whether a TT may be armed or committed at (R43, R84): armed only if it lies 1 to 2^39 − 1 ticks ahead, in full. -/
def State.ttAhead (s : State) (tt : Nat) : Bool :=
  s.ttValid && decide (ttFine tt ≤ 19999) && decide (s.tick < ttTick tt) && decide (ttTick tt - s.tick < 2 ^ 39)

/-- What the owner of a DOMAIN object does with a complete image whose CRC matches, and the TT the commit carries. -/
abbrev ImgOwner := List Byte → Nat → State → Status × State

/-- An owner whose object cannot be scheduled refuses any commit that carries a TT (R43). -/
def unscheduled (f : List Byte → State → Status × State) : ImgOwner := fun img tt s => if tt ≠ 0 then (.refused, s) else f img s

/-- A commit of an open transfer, checked in the order of R459 and R42 and then decided by its owner, which finds nothing in reserved bits
of the image and of the TT (R7). -/
def State.commitObj (s : State) (r : Requester) (o crc tt : Nat) (owner : ImgOwner) : State :=
  match s.checkAccess r o true with
  | (.okay, _) =>
    match cardOf o with
    | none => s.complete r o true .decode []
    | some c =>
      if c.ty ≠ .domain ∨ c.acc = .ro then s.complete r o true .refused []
      else
        match s.xfer o with
        | none => s.complete r o true .refused []
        | some x =>
          if x.opener ≠ s.openerOf r then s.complete r o true .busy []
          else if x.data.length < x.total then
            (s.setXfer o (some { x with last := s.now })).complete r o true .refused []
          else if crc32 x.data ≠ crc then (s.setXfer o none).complete r o true .aborted []
          else
            let (st, s1) := owner (imageMasked o x.data) (ttImage (ttTick tt) (ttFine tt)) (s.setXfer o none)
            s1.complete r o true st []
  | (st, charge) => (if charge then s.bump O.LATCH_CHARGE_DENIED 1 else s).complete r o true st []

/-! ### Scheduled actions (R84, R87, R88) -/

/-- The kinds of scheduled action (*Table 3.5*). R20 lists "pattern start and stop", and no object of the spec arms a stop: only starts are
scheduled, and STOP_REQ acts at once (DESIGN CHOICE, notes/assumptions). -/
inductive ActKind where
  | trigger | start | timingSets | swap | sleep | deadline | ptpSwitch | load | bank | haltTable | siteMask | sites | feed
  | quadSchedule
  deriving DecidableEq, Repr

/-- Number of a kind. -/
def ActKind.num : ActKind → Nat
  | .trigger => 0
  | .start => 1
  | .timingSets => 2
  | .swap => 3
  | .sleep => 4
  | .deadline => 5
  | .ptpSwitch => 6
  | .load => 7
  | .bank => 8
  | .haltTable => 9
  | .siteMask => 10
  | .sites => 11
  | .feed => 12
  | .quadSchedule => 13

/-- Key of an action in `scheds`. -/
def schedKey (k : ActKind) (unit : Nat) : Nat := k.num * 65536 + unit

/-- The armed action of a kind and unit. -/
def State.sched (s : State) (k : ActKind) (unit : Nat) : Option Sched := Tbl.get none s.scheds (schedKey k unit)

/-- What every arm needs before its own rules are looked at: TT is valid (R78), and the fine part is 0 where *Table 3.5* wants it so
(R85). -/
def State.mayArm (s : State) (tt : Nat) (whole : Bool) : Bool := s.ttValid && (!whole || ttFine tt == 0)

/-- The owner of an ARM object whose S stands in another one. -/
def arming (o : Nat) (whole : Bool) (f : State → Status × State) : Owner := command fun s =>
  if s.mayArm (s.reg o) whole then f s else (.refused, s)

/-- An owner whose object can be scheduled refuses every commit with a TT while TT is not valid (R78). -/
def scheduled (f : List Byte → Nat → State → Status × State) : ImgOwner := fun img tt s =>
  if tt ≠ 0 ∧ !s.ttValid then (.refused, s) else f img tt s

/-- Arm an action at a TT: REFUSED unless R43 and R84 hold; T0 and T3 of ledger 0x1045 count it (R88). -/
def State.armAction (s : State) (k : ActKind) (unit tt arg : Nat) : Status × State :=
  if !s.ttAhead tt then (.refused, s)
  else
    (.okay, ((({ s with scheds := Tbl.set none s.scheds (schedKey k unit) (some ⟨ttTick tt, ttFine tt, arg⟩) }).ledAdd 0x1045 0 1).ledAdd
      0x1045 3 1).bump O.SCHED_PENDING 1)

/-- End an armed action: fired (term 1) or cancelled (term 2) (R88). -/
def State.endAction (s : State) (k : ActKind) (unit term : Nat) : State :=
  ((({ s with scheds := Tbl.set none s.scheds (schedKey k unit) none }).ledMove 0x1045 3 term 1)).setReg O.SCHED_PENDING
    (s.reg O.SCHED_PENDING - 1)

/-- The instant of S of an armed action. -/
def State.schedInstant (s : State) (a : Sched) : Nat := s.instantOf a.tick a.fine

/-- The effect instant of an armed action of a kind and unit (*Table 3.5*, R85): S itself, the first word-clock boundary at or after S,
the end of the tick of S, or, for a swap, the first edge of the Paddock's running fabric clock at or after S. A timing set, which takes
effect at a period boundary of its channel at or after S, gives S. -/
def State.effectAt (s : State) (k : ActKind) (unit : Nat) (a : Sched) : Nat :=
  match k with
  | .deadline => s.schedInstant a + Config.tickUnits
  | .trigger => s.schedInstant a
  | .timingSets => s.schedInstant a
  | .swap => if s.domainRunning (356 + unit) then edgeFrom (s.regionalKhz unit) (s.schedInstant a) else s.schedInstant a
  | .sleep => s.schedInstant a
  | .ptpSwitch => s.schedInstant a
  | _ => ceilTo Config.wordUnits (s.schedInstant a)

/-- The groups of R86, in the order in which actions of one instant are applied; 0 for the kinds that stand apart. -/
def ActKind.group : ActKind → Nat
  | .timingSets => 1
  | .quadSchedule => 1
  | .bank => 1
  | .haltTable => 1
  | .siteMask => 1
  | .sites => 1
  | .feed => 1
  | .swap => 2
  | .load => 2
  | .start => 3
  | .trigger => 4
  | .sleep => 0
  | .deadline => 0
  | .ptpSwitch => 0

/-- The kinds in the order of their numbers. -/
def actKinds : List ActKind :=
  [.trigger, .start, .timingSets, .swap, .sleep, .deadline, .ptpSwitch, .load, .bank, .haltTable, .siteMask, .sites, .feed, .quadSchedule]

/-- Whether an action of a kind with an effect instant waits for another one (R86): one of the groups that is still armed and takes effect
earlier, or at the same instant in an earlier group. -/
def State.waitsFor (s : State) (k : ActKind) (inst : Nat) : Bool :=
  k.group != 0 && s.scheds.any fun e =>
    match e.2, actKinds[e.1 / 65536]? with
    | some a, some j =>
      let at_ := s.effectAt j (e.1 % 65536) a
      j.group != 0 && (decide (at_ < inst) || (at_ == inst && decide (j.group < k.group)))
    | _, _ => false

/-- Whether the effect instant of an armed action has come (R85), and no action that R86 puts before it is still to be applied. -/
def State.due (s : State) (k : ActKind) (unit : Nat) (a : Sched) : Bool :=
  decide (s.effectAt k unit a ≤ s.now) && !s.waitsFor k (s.effectAt k unit a)

/-- A cancel (R87): it takes effect at the first tick boundary strictly after now; an action whose instant falls before that
boundary still fires, and the cancel completes with REFUSED. -/
def State.cancelAction (s : State) (k : ActKind) (unit : Nat) : Status × State :=
  match s.sched k unit with
  | none => (.refused, s)
  | some a =>
    if s.effectAt k unit a < (s.now / Config.tickUnits + 1) * Config.tickUnits then (.refused, s) else (.okay, s.endAction k unit 2)

end Sys2Proof.Machine
end

