-- ==== Sys2Proof/Machine/Time.lean ====
section
/-! DEFINITION. Tester time (R72 to R83), the PTP domains (R90), and the active timeline with its switch (R91 to R94). -/

namespace Sys2Proof.Machine

/-! ### Marker frames (R73 to R75) -/

/-- The symbol of a falling edge measured in ps from its rising edge; `none` is a symbol error (R73). -/
def symbolOf : Option Nat → Option Bool
  | none => none
  | some p => if 2400 ≤ p ∧ p ≤ 3600 then some true else if 4400 ≤ p ∧ p ≤ 5600 then some false else none

/-- The number whose bits are given, most significant first. -/
def msbNat (l : List Bool) : Nat := l.foldl (fun n b => 2 * n + b2n b) 0

/-- A good frame: its TT field, YARD_ID, FLAGS and AUX. -/
structure Frame where
  tt : Nat
  yard : Nat
  flags : Nat
  aux : Nat
  deriving DecidableEq, Repr

/-- The good frame of 128 symbols, first transmitted first (R74, R75); `none` for a bad one. -/
def frameOf (l : List (Option Bool)) : Option Frame :=
  let b := l.filterMap id
  if b.length ≠ 128 ∨ msbNat (b.take 16) ≠ 0xF628 ∨ msbNat (b.drop 112) ≠ crc16 ((b.drop 16).take 96) then none
  else
    let y := msbNat ((b.drop 80).take 8)
    if y = 255 then none
    else some ⟨msbNat ((b.drop 16).take 64), y, msbNat ((b.drop 88).take 8), msbNat ((b.drop 96).take 16)⟩

/-- Replace the decoder's state. -/
def State.setMarker (s : State) (m : Marker) : State := { s with marker := m }

/-- What every good frame leaves: MARKER_AUX, CTU_HOLDOVER and LAST_FRAME_TT. -/
def State.noteFrame (s : State) (f : Frame) : State :=
  ((s.setReg O.MARK_MARKER_AUX f.aux).setBool O.MARK_CTU_HOLDOVER (f.flags.testBit 0)).setReg O.MARK_LAST_FRAME_TT f.tt

/-- Enter LOCKED at a rising edge (R77, R79): LOCK_TT is the tick there, fine part 0 (R98). -/
def State.enterLocked (s : State) (edge : Nat) : State :=
  (((s.setReg O.MARK_MARKER_STATE 2).setReg O.MARK_LOCK_TT (ttImage ((edge + s.ttOff) % 2 ^ 64) 0)).recovery 1 false)

/-- The frame slot that ended at rising edge number `edge` is sorted and moves the state (R79, R82). -/
def State.markerSlot (s1 : State) (fr : Option Frame) (edge : Nat) : State :=
  let s := (List.range 4).foldl (fun (s : State) q => s.pulse q (5 * 2 ^ 12 + 1)) s1
  let m := s.marker
  let st := s.reg O.MARK_MARKER_STATE
  let slotTt := (edge - 128 + s.ttOff) % 2 ^ 64
  match fr with
  | none =>
    let s1 := ((s.setMarker { m with bad := m.bad + 1, matching := 0, mismatched := 0 }).ledAdd 0x1044 0 1).ledAdd 0x1044 2 1
    if st = 2 ∧ m.bad + 1 ≥ 8 then ((s1.setReg O.MARK_MARKER_STATE 3).fault 1).recovery 1 true else s1
  | some f =>
    let s0 := s.noteFrame f
    if f.tt = slotTt ∧ f.yard = s.reg O.ID_YARD_ID then
      let s1 := ((s0.setMarker { m with bad := 0, matching := m.matching + 1, mismatched := 0 }).ledAdd 0x1044 0 1).ledAdd 0x1044 1 1
      if st ≠ 2 ∧ m.matching + 1 ≥ 2 then s1.enterLocked edge else s1
    else
      let s1 := ((s0.setMarker { m with bad := 0, matching := 0, mismatched := m.mismatched + 1 }).ledAdd 0x1044 0 1).ledAdd 0x1044 3 1
      let s2 := (s1.fault 1).setFlag O.MARK_MARKER_MISMATCH 0 O.MARK_MISMATCH_COUNT 1
      if st ≠ 4 ∧ m.mismatched + 1 ≥ 4 then (s2.setReg O.MARK_MARKER_STATE 4).recovery 1 true else s2

/-- Acquisition completes (R77): TT is loaded so that the rising edge that begins the following frame has TT F + 256. -/
def State.acquire (s : State) (f : Frame) (edge : Nat) : State :=
  let s1 : State := { s.setMarker { syms := s.marker.syms } with ttOff := (f.tt + 128 + 2 ^ 64 - edge % 2 ^ 64) % 2 ^ 64, ttEdge := if s.ttValid then s.ttEdge else s.now }
  ((((s1.setReg O.ID_YARD_ID f.yard).setReg O.MARK_TT_VALID 1).enterLocked edge).bump O.MARK_LOCK_COUNT 1)

/-- One symbol reaches the decoder; `edge` is the number of the rising edge that ends its period (R77, R79). -/
def State.feedSymbol (s : State) (edge : Nat) (x : Option Bool) : State :=
  if !(s.isSet O.DEV_CLKREF_STABLE && s.pllLocked pllSpll) then s
  else
    let s0 := if x = none then s.bump O.MARK_SYMBOL_ERRORS 1 else s
    let syms := x :: s0.marker.syms.take 127
    let s1 := s0.setMarker { s0.marker with syms := syms, count := s0.marker.count + 1 }
    match s1.reg O.MARK_MARKER_STATE with
    | 0 =>
      match frameOf syms.reverse with
      | none => s1
      | some f =>
        ((s1.noteFrame f).setMarker { s1.marker with candF := f.tt, candY := f.yard, count := 0 }).setReg O.MARK_MARKER_STATE 1
    | 1 =>
      if s1.marker.count < 128 then s1
      else
        match frameOf syms.reverse with
        | none => s1.setReg O.MARK_MARKER_STATE 0
        | some f =>
          let s2 := s1.noteFrame f
          if f.tt = (s1.marker.candF + 128) % 2 ^ 64 ∧ f.yard = s1.marker.candY then s2.acquire f edge
          else s2.setMarker { s2.marker with candF := f.tt, candY := f.yard, count := 0 }
    | _ =>
      if s1.marker.count < 128 then s1
      else (s1.setMarker { s1.marker with count := 0 }).markerSlot (frameOf syms.reverse) edge

/-- Symbols measured from rising edge number `edge` on, one per tick. -/
def State.feedSymbols (s : State) (edge : Nat) : List (Option Nat) → State
  | [] => s
  | f :: r => (s.feedSymbol (edge + 1) (symbolOf f)).feedSymbols (edge + 1) r

/-- The decoder takes the falling edges of consecutive CLKREF periods, the first of which begins at `t`; time runs to the rising
edge after the last. -/
def State.markerEdges (s : State) (t : Nat) (falls : List (Option Nat)) : State :=
  (s.feedSymbols (t / Config.tickUnits) falls).tickTo ((t / Config.tickUnits + falls.length) * Config.tickUnits)

/-! ### PTP domains (R90) -/

def State.ptpDom (s : State) (k : Nat) : Ptp := Tbl.get {} s.ptp k
def State.setPtp (s : State) (k : Nat) (p : Ptp) : State := { s with ptp := Tbl.set {} s.ptp k p }

/-- RATE of a domain, in 0.1 ppb. -/
def State.ptpRate (s : State) (k : Nat) : Int := signed 32 (s.reg (O.PTP_RATE k))

/-- Whether a domain is LOCKED or in HOLDOVER. -/
def State.ptpGood (s : State) (k : Nat) : Bool := s.reg (O.PTP_STATE k) == 3 || s.reg (O.PTP_STATE k) == 4

/-- The residual of the active timeline in ns (R91). -/
def State.residual (s : State) : Int := (s.ptpNow (s.reg O.ACT_ACTIVE_DOMAIN) - s.actNow).tdiv ptpNs

/-- RESIDUAL as it reads: live during a slew, its last value while the slew is paused, 0 otherwise. -/
def State.residualRead (s : State) : Nat :=
  if s.act.slewing && !s.act.paused then unsigned 64 s.residual else s.reg O.ACT_RESIDUAL

/-- The active timeline takes up the state of its domain after a change at the present instant (R91 to R93). -/
def State.followDomain (s : State) (v : Int) : State :=
  let k := s.reg O.ACT_ACTIVE_DOMAIN
  if s.act.slewing then
    if s.ptpGood k then
      let slew := (s.reg O.ACT_SLEW_RATE : Int) * 10
      let m := s.ptpNow k
      { s with act := { base := v, baseAt := s.now, slewing := true, rate := s.ptpRate k + (if v ≤ m then slew else - slew) } }
    else s
  else if s.ptpGood k then { s with act := { base := s.ptpNow k, baseAt := s.now, rate := s.ptpRate k } }
  else s

/-- A slew pauses when its domain leaves LOCKED and HOLDOVER: it runs on at the domain's rate, and RESIDUAL holds (R93). -/
def State.pauseSlew (s : State) (k : Nat) : State :=
  if s.act.slewing ∧ !s.act.paused ∧ k = s.reg O.ACT_ACTIVE_DOMAIN then
    { s with act := { base := s.actNow, baseAt := s.now, rate := s.ptpRate k, slewing := true, paused := true } }.setReg O.ACT_RESIDUAL
      (unsigned 64 s.residual)
  else s

/-- A domain enters a state; every change sets STATE_CHANGE. -/
def State.ptpEnter (s : State) (k st : Nat) : State :=
  if s.reg (O.PTP_STATE k) = st then s
  else (s.setReg (O.PTP_STATE k) st).setFlag (O.PTP_STATE_CHANGE k) 0 (O.PTP_STATE_CHANGE_COUNT k) 1

/-- A domain enters a state in which its mapping is not valid: a slew towards it pauses. -/
def State.ptpLeave (s : State) (k st : Nat) : State := (s.pauseSlew k).ptpEnter k st

/-- The mapping set so that its offset to the master is 0 (R90: the first correction after ACQUIRING is entered). -/
def State.ptpDirect (s : State) (k : Nat) (offset : Int) : State :=
  s.setPtp k { s.ptpDom k with base := s.ptpNow k - offset * ptpNs, baseAt := s.now, good := 0 }

/-- A correction of the servo: a small step of PTP_BASE and RATE that the spec does not give; both are free values. -/
def State.ptpServo (s : State) (k : Nat) : State :=
  let (a, s1) := s.drawNat
  let (b, s2) := s1.drawNat
  let (neg, s3) := s2.drawBool
  let step : Int := if neg then - (a : Int) else a
  (s3.setPtp k { s3.ptpDom k with base := s3.ptpNow k + step, baseAt := s3.now }).setReg (O.PTP_RATE k) (b % 2 ^ 32)

/-- A Sync exchange with the selected master moves the domain (R90, *Table 3.7*). -/
def State.ptpSync (s : State) (k : Nat) (offset : Int) : State :=
  let th := s.reg (O.PTP_LOCK_THRESHOLD k)
  let small := decide (offset.natAbs < th)
  let p := s.ptpDom k
  let n := if small then p.good + 1 else 0
  match s.reg (O.PTP_STATE k) with
  | 1 => (s.ptpEnter k 2).ptpDirect k offset
  | 2 =>
    let s1 := (s.setPtp k { p with good := n }).ptpServo k
    if n ≥ 16 then (s1.setPtp k { s1.ptpDom k with good := 0 }).ptpEnter k 3 else s1
  | 3 => if offset.natAbs > 8 * th then (s.ptpLeave k 2).ptpDirect k offset else s.ptpServo k
  | 4 => if n ≥ 16 then (s.setPtp k { p with good := 0 }).ptpEnter k 3 else s.setPtp k { p with good := n }
  | _ => s

/-- A Sync exchange of an enabled domain with its selected master has given an offset and a mean path delay, in ns; the sync interval is in
units of 0.5 ps (R90, R93). -/
def State.ptpExchange (s : State) (k master : Nat) (offset : Int) (delay interval : Nat) : State :=
  if s.reg (O.PTP_STATE k) = 0 then s
  else
    let v := s.actNow
    let s1 := ((s.setReg (O.PTP_MASTER_ID k) (master % 2 ^ 64)).setReg (O.PTP_OFFSET k) (unsigned 64 offset)).setReg (O.PTP_MEAN_PATH_DELAY k)
      (delay % 2 ^ 64)
    let s2 := (s1.setPtp k { s1.ptpDom k with lastSync := s1.now, interval := interval }).ptpSync k offset
    if k = s2.reg O.ACT_ACTIVE_DOMAIN then s2.followDomain v else s2

/-- PTP_SYNC: a Sync exchange with the selected master of domain k gives an offset in ns, a mean path delay in ns and the sync
interval in units of 0.5 ps (R90, R93). -/
def execPtpSync (t : Nat) (k : Fin 2) (master : Nat) (offset : Int) (delay interval : Nat) (s : State) :
    Host.Outcome State Fault Refusal :=
  .next ((s.tickTo t).ptpExchange k.val master offset delay interval)

/-- PTP_SYNC_LOSS: no Sync for 4 sync intervals while LOCKED (R90). -/
def execPtpSyncLoss (t : Nat) (k : Fin 2) (s : State) : Host.Outcome State Fault Refusal :=
  let s1 := s.tickTo t
  let p := s1.ptpDom k.val
  .next
    (if s1.reg (O.PTP_STATE k.val) = 3 ∧ p.lastSync + 4 * p.interval ≤ s1.now then
      (s1.setPtp k.val { p with good := 0, holdoverAt := s1.now }).ptpEnter k.val 4
     else s1)

/-- HOLDOVER_LIMIT: a domain still in HOLDOVER after HOLDOVER_LIMIT enters LISTENING (R90). -/
def execHoldoverLimit (t : Nat) (k : Fin 2) (s : State) : Host.Outcome State Fault Refusal :=
  let s1 := s.tickTo t
  .next
    (if s1.reg (O.PTP_STATE k.val) = 4 ∧ (s1.ptpDom k.val).holdoverAt + s1.reg (O.PTP_HOLDOVER_LIMIT k.val) * Config.msUnits ≤ s1.now then
      s1.ptpLeave k.val 1
     else s1)

/-- The exchange in progress of a domain, and its path delay, are forgotten. -/
def State.ptpForget (s : State) (k : Nat) : State :=
  s.setPtp k { s.ptpDom k with sync := none, last := none, reqAt := none, delay := none }

/-- Both domains that are enabled enter LISTENING (R80, R81). -/
def State.ptpListen (s : State) : State :=
  [0, 1].foldl (fun (s : State) k => if s.reg (O.PTP_STATE k) = 0 then s else (s.ptpForget k).ptpLeave k 1) s

/-- The owner of ENABLE of a domain (*Table 3.7*). -/
def ownPtpEnable (k : Nat) : Owner := fun v s =>
  let s1 := s.setReg (O.PTP_ENABLE k) v
  if v = 0 then (.okay, ((s1.ptpForget k).setPtp k { (s1.ptpForget k).ptpDom k with masters := [] }).ptpLeave k 0)
  else if s1.reg (O.PTP_STATE k) = 0 then (.okay, s1.ptpEnter k 1)
  else (.okay, s1)

/-! ### The active timeline (R91, R92) -/

/-- The owner of SWITCH_ARM (R92). -/
def ownSwitchArm : Owner := arming O.ACT_SWITCH_AT true fun s =>
  let target := 1 - s.reg O.ACT_ACTIVE_DOMAIN
  if (s.sched .ptpSwitch 0).isSome ∨ s.act.slewing then (.busy, s)
  else if s.reg (O.PTP_STATE target) ≠ 3 then (.refused, s)
  else s.armAction .ptpSwitch 0 (s.reg O.ACT_SWITCH_AT) target

/-- SWITCH_ARM. -/
def execSwitchArm (t : Nat) (r : Requester) (v : Bool) (s : State) : Host.Outcome State Fault Refusal :=
  .next ((s.tickTo t).writeObj r O.ACT_SWITCH_ARM (b2n v) ownSwitchArm)

/-- The owner of SWITCH_CANCEL (R87). -/
def ownSwitchCancel : Owner := command fun s => s.cancelAction .ptpSwitch 0

/-- SWITCH_CANCEL. -/
def execSwitchCancel (t : Nat) (r : Requester) (v : Bool) (s : State) : Host.Outcome State Fault Refusal :=
  .next ((s.tickTo t).writeObj r O.ACT_SWITCH_CANCEL (b2n v) ownSwitchCancel)

/-- A switch completes with a status (*Table 3.9*). -/
def State.switchDone (s : State) (st : Status) : State :=
  (s.setReg O.ACT_SWITCH_STATUS st.code).setFlag O.ACT_SWITCH_DONE 0 O.ACT_SWITCH_COUNT 1

/-- ACTIVE_DOMAIN_SWITCH: at S the residual and the target are checked and the switch is made (R91). -/
def execActiveDomainSwitch (t : Nat) (s : State) : Host.Outcome State Fault Refusal :=
  let s1 := s.tickTo t
  .next
    (match s1.sched .ptpSwitch 0 with
     | none => s1
     | some a =>
       if !s1.due .ptpSwitch 0 a then s1
       else
         let s2 := s1.endAction .ptpSwitch 0 1
         let v := s2.actNow
         let res := (s2.ptpNow a.arg - v).tdiv ptpNs
         if s2.reg (O.PTP_STATE a.arg) ≠ 3 ∨ res.natAbs > s2.reg O.ACT_SWITCH_LIMIT then s2.switchDone .aborted
         else
           let s3 := s2.setReg O.ACT_ACTIVE_DOMAIN a.arg
           if s3.reg O.ACT_SWITCH_MODE = 0 ∧ res ≠ 0 then
             ({ s3 with act := { s3.act with slewing := true, paused := false } }.followDomain v).switchDone .okay
           else ({ s3 with act := {} }.followDomain v).switchDone .okay)

/-- SLEW_END: RESIDUAL has reached 0, and the active timeline equals its domain's mapping (R91). -/
def execSlewEnd (t : Nat) (s : State) : Host.Outcome State Fault Refusal :=
  let s1 := s.tickTo t
  .next
    (if s1.act.slewing ∧ !s1.act.paused ∧ s1.residual = 0 then
      { s1 with act := {} }.setReg O.ACT_RESIDUAL 0 |>.followDomain 0
     else s1)

/-! ### TT_RESYNC (R80) -/

/-- Whether an engine is RUNNING. -/
def State.anyRunning (s : State) : Bool := (List.range 512).any fun e => s.reg (O.ENG_STATE e) == 4

/-- TT stops being valid: when that was. -/
def State.ttGone (s : State) : State := { s with ttEdge := if s.ttValid then s.now else s.ttEdge }

/-- The owner of TT_RESYNC (R80). -/
def ownTtResync : Owner := command fun s =>
  let st := s.reg O.MARK_MARKER_STATE
  if s.reg O.SCHED_PENDING ≠ 0 ∨ s.anyRunning ∨ st < 2 then (.refused, s)
  else (.okay, (((s.ttGone.setReg O.MARK_TT_VALID 0).setReg O.MARK_MARKER_STATE 0).setMarker {}).ptpListen)

/-- TT_RESYNC. -/
def execTtResync (t : Nat) (r : Requester) (v : Bool) (s : State) : Host.Outcome State Fault Refusal :=
  .next ((s.tickTo t).writeObj r O.MARK_TT_RESYNC (b2n v) ownTtResync)

end Sys2Proof.Machine
end

