-- ==== Sys2Proof/Machine/Ethernet.lean ====
section
/-! DEFINITION. What leaves by a management port: numbers in network order, frames, and UDP datagrams in IP packets (R51, R279, R280).
Formats of the protocols named come from their standards (PRESUMED, notes/assumptions). -/

namespace Sys2Proof.Machine

/-- A number as n bytes, most significant first, and back. -/
def beBytes (n v : Nat) : List Byte := (leBytes n v).reverse
def beNat (l : List Byte) : Nat := leNat l.reverse
def fieldBE (l : List Byte) (o n : Nat) : Nat := beNat (slice o n l)

/-- The Internet checksum of bytes. -/
def inetSum (l : List Byte) : Nat :=
  let s := (List.range ((l.length + 1) / 2)).foldl (fun a i => a + byteAt l (2 * i) * 256 + byteAt l (2 * i + 1)) 0
  let f := fun x => x % 65536 + x / 65536
  65535 - f (f (f s))

/-- Send a frame or datagram. -/
def State.send (s : State) (port : Nat) (b : List Byte) : State := { s with sent := s.sent ++ [⟨port, b⟩] }

/-- MAC_ADDR of a port as six bytes. -/
def State.mgtMac (s : State) (m : Nat) : List Byte := beBytes 6 (s.reg (O.MGT_MAC_ADDR m))

/-- Send a frame from a port, tagged where VLAN_ID says so, padded to 60 bytes, with its FCS. -/
def State.ethSend (s : State) (m : Nat) (dst : List Byte) (kind : Nat) (body : List Byte) : State :=
  let vid := s.reg (O.MGT_VLAN_ID m)
  let h := dst ++ s.mgtMac m ++ (if vid = 0 then [] else beBytes 2 0x8100 ++ beBytes 2 vid) ++ beBytes 2 kind ++ body
  let p := h ++ fill (60 - h.length) 0
  s.send m (p ++ leBytes 4 (crc32 p))

/-- The checksum of a UDP message between two addresses, over its pseudo header. -/
def udpSum (src dst msg : List Byte) : Nat := inetSum (src ++ dst ++ beBytes 4 msg.length ++ beBytes 4 17 ++ msg)

/-- A UDP message with its checksum. -/
def udpMessage (src dst : List Byte) (sport dport : Nat) (d : List Byte) : List Byte :=
  let h := beBytes 2 sport ++ beBytes 2 dport ++ beBytes 2 (8 + d.length)
  let c := udpSum src dst (h ++ fill 2 0 ++ d)
  h ++ beBytes 2 (if c = 0 then 65535 else c) ++ d

/-- Send a datagram to a peer from a UDP port: an unfragmented IP packet in a frame to the peer's Ethernet address (R51, R280). -/
def State.sendUdp (s : State) (m : Nat) (p : Peer) (sport : Nat) (d : List Byte) : State :=
  if p.v6 then
    let u := udpMessage (beBytes 16 p.own) (beBytes 16 p.addr) sport p.port d
    s.ethSend m (beBytes 6 p.mac) 0x86DD
      (beBytes 4 0x60000000 ++ beBytes 2 u.length ++ beBytes 1 17 ++ beBytes 1 64 ++ beBytes 16 p.own ++ beBytes 16 p.addr ++ u)
  else
    let u := udpMessage (beBytes 4 p.own) (beBytes 4 p.addr) sport p.port d
    let a := beBytes 2 0x4500 ++ beBytes 2 (20 + u.length) ++ beBytes 4 0x00004000 ++ beBytes 1 64 ++ beBytes 1 17
    let z := beBytes 4 p.own ++ beBytes 4 p.addr
    s.ethSend m (beBytes 6 p.mac) 0x0800 (a ++ beBytes 2 (inetSum (a ++ z)) ++ z ++ u)

/-- Send a Kisko datagram, from KISKO_PORT. -/
def State.sendKisko (s : State) (m : Nat) (p : Peer) (d : List Byte) : State := s.sendUdp m p (s.reg O.KISKO_KISKO_PORT) d

end Sys2Proof.Machine
end

