-- ==== Sys2Proof/Machine/Memory.lean ====
section
/-! DEFINITION. Pattern memory and inline encryption (chapter 13): the devices, the address decode, the protection regions,
encryption and checks, counters, keys and the re-key walk. -/

namespace Sys2Proof.Machine

/-! ### The devices as bytes -/

/-- The byte LPDDR4X holds at a physical address; a byte nothing has written reads 0 (DESIGN CHOICE). -/
def dramGet (m : List Host.Cell) (a : Nat) : Byte := Tbl.get 0#8 m a

/-- Write one byte, keeping the canonical form. -/
def dramSet (m : List Host.Cell) (a : Nat) (b : Byte) : List Host.Cell := Tbl.set 0#8 m a b

/-- The canonical form of memory: addresses strictly rising, no entry equal to what an unlisted address reads as. -/
def Memory.wf (m : List Host.Cell) : Bool := Tbl.wf (fun _ => 0#8) m

/-- Read n bytes from an address upwards. -/
def dramRead (m : List Host.Cell) (a : Nat) : Nat → List Byte
  | 0 => []
  | n + 1 => dramGet m a :: dramRead m (a + 1) n

/-- Write bytes from an address upwards. -/
def dramWrite (m : List Host.Cell) (a : Nat) : List Byte → List Host.Cell
  | [] => m
  | b :: r => dramWrite (dramSet m a b) (a + 1) r

/-- Write bytes of the devices. -/
def State.poke (s : State) (a : Nat) (b : List Byte) : State := { s with dram := dramWrite s.dram a b }

/-! ### Configuration and the controllers (R354 to R358) -/

/-- Bytes of one channel die, times two, by density code. -/
def densityHalves (code : Nat) : Nat := match code with
  | 0 => 2
  | 1 => 3
  | 2 => 4
  | _ => 6

/-- The device capacity 8 × C in bytes for a MEM_CONFIG (R354). -/
def capacityOf (cfg : Nat) : Nat := 8 * (densityHalves (bits cfg 4 3) * 2 ^ 29 * (if cfg.testBit 5 then 2 else 1))

/-- MEM_CONFIG is written in OFF only; rate codes 5 to 7 and dual rank with 24 Gb dies are refused (R354, *Table 13.14*). -/
def ownMemConfig : Owner := fun v s =>
  if bits v 2 0 > 4 ∨ (v.testBit 5 ∧ bits v 4 3 = 3) then (.refused, s)
  else if s.reg O.MEM_MEM_STATE ≠ 0 then (.refused, s)
  else (.okay, s.setReg O.MEM_MEM_CONFIG v)

/-- A region entry (*Table 13.3*). -/
structure Region where
  base : Nat
  size : Nat
  tagBase : Nat
  mode : Nat
  flags : Nat
  kid : Nat
  deriving DecidableEq, Repr

/-- Entry e of a REGIONS image. -/
def regionAt (img : List Byte) (e : Nat) : Region :=
  let b := slice (32 * e) 32 img
  ⟨bits (fieldLE b 0 8) 39 0, fieldLE b 8 8, bits (fieldLE b 16 8) 39 0, byteAt b 24, byteAt b 25, byteAt b 26⟩

/-- Whether an entry is valid. -/
def Region.valid (r : Region) : Bool := r.flags.testBit 0

/-- Bytes of tag storage of an entry (*Table 13.4*). -/
def Region.tagSize (r : Region) : Nat :=
  match r.mode with
  | 1 => r.size / 8
  | 2 => r.size / 8 + r.size / 64
  | 3 => r.size / 4
  | _ => 0

/-- Whether the address lies in the entry. -/
def Region.has (r : Region) (pa : Nat) : Bool := r.valid && decide (r.base ≤ pa) && decide (pa < r.base + r.size)

/-- The valid entry that holds a physical address, with its number (R361). -/
def State.regionOf (s : State) (pa : Nat) : Option (Nat × Region) :=
  ((List.range 16).map fun e => (e, regionAt (s.image O.MEM_REGIONS) e)).find? fun p => p.2.has pa

/-- Whether some entry is valid. -/
def State.anyRegion (s : State) : Bool := (List.range 16).any fun e => (regionAt (s.image O.MEM_REGIONS) e).valid

/-- Whether a channel has completed step 1 of *Table 13.1* since power-on reset: what is on record, or, of a channel still in TRAINING, that
the step's bound of 2.5 ms has passed. When within its bound a step ends the spec leaves open; the model takes the bound (DESIGN CHOICE,
notes/assumptions). -/
def State.step1Done (s : State) (m : Nat) : Bool :=
  Tbl.get false s.memStep1 m || (s.reg (O.MEMC_STATE m) == 1 && decide (s.memInitAt + 2500 * Config.usUnits ≤ s.now))

/-- Which channels have completed step 1 is put on record before their state changes. -/
def State.noteStep1 (s : State) : State :=
  { s with memStep1 := (List.range 8).foldl (fun t m => Tbl.set false t m (s.step1Done m)) s.memStep1 }

/-- RESET_N, CKE and ODT_CA of a memory channel as they stand (R446, R456, *Table 15.9*): low in power-on reset but for ODT_CA, which is
undriven; low until step 1 has ended; from then on RESET_N and ODT_CA are high, and CKE, low while the shed's outputs are held, is the
controller's own (`none`). -/
def State.memPins (s : State) (m : Nat) : Option Bool × Option Bool × Option Bool :=
  if s.porAt.isSome then (some false, some false, none)
  else if !s.step1Done m then (some false, some false, some false)
  else (some true, if s.shedOn (23 * (m / 2) + 20) && !s.clkLost then none else some false, some true)

/-- MEM_ENABLE (R355, *Table 13.14*): 1 starts the initialisation of all eight channels from OFF or FAULT, refused while a
memory PLL is unlocked or VDDQ_LOW is set (R449); 0 is refused while a region is valid and otherwise returns to OFF. -/
def ownMemEnable : Owner := fun v s =>
  if v = 1 then
    if s.reg O.MEM_MEM_STATE = 0 ∨ s.reg O.MEM_MEM_STATE = 3 then
      if ((List.range 4).any fun q => !s.pllLocked (pllM q)) || s.isSet O.SUP_VDDQ_LOW then (.refused, s)
      else
        let s1 : State := { (s.noteStep1.setReg O.MEM_MEM_ENABLE 1).setReg O.MEM_MEM_STATE 1 with memInitAt := s.now }
        (.okay, (List.range 8).foldl
          (fun (s : State) m => ((s.setReg (O.MEMC_STATE m) 1).setReg (O.MEMC_TRAIN_STEP m) 0).setReg (O.MEMC_TRAIN_STATUS m) 0) s1)
    else (.okay, s)
  else if s.anyRegion then (.refused, s)
  else
    let s1 := ((s.noteStep1.setReg O.MEM_MEM_ENABLE 0).setReg O.MEM_MEM_STATE 0).setReg O.MEM_CAPACITY 0
    (.okay, (List.range 8).foldl (fun (s : State) m => s.setReg (O.MEMC_STATE m) 0) s1)

/-- MEM_ENABLE. -/
def execMemEnable (t : Nat) (r : Requester) (v : Bool) (s : State) : Host.Outcome State Fault Refusal :=
  .next ((s.tickTo t).writeObj r O.MEM_MEM_ENABLE (b2n v) ownMemEnable)

/-- A failed channel takes the memory system to FAULT (R355). -/
def State.memChannelFail (s : State) (m step : Nat) (st : Status) : State :=
  (((s.setReg (O.MEMC_STATE m) 4).setReg (O.MEMC_TRAIN_STEP m) step).setReg (O.MEMC_TRAIN_STATUS m) st.code).setReg
    O.MEM_MEM_STATE 3

/-- TRAINING_STEP_TIMEOUT: step `step + 1` of *Table 13.1* passes its bound in a channel in TRAINING (R355). -/
def execTrainingStepTimeout (t : Nat) (m : Fin 8) (step : Fin 7) (s : State) : Host.Outcome State Fault Refusal :=
  let s1 := s.tickTo t
  .next
    (if s1.reg (O.MEMC_STATE m.val) = 1 then
      let s2 : State := if step.val = 0 then s1 else { s1 with memStep1 := Tbl.set false s1.memStep1 m.val true }
      s2.memChannelFail m.val (step.val + 1) .timeout
     else s1)

/-- MEM_INIT_COMPLETE: with every channel in TRAINING the initialisation ends, and the memory is READY (R355). -/
def execMemInitComplete (t : Nat) (s : State) : Host.Outcome State Fault Refusal :=
  let s1 := s.tickTo t
  .next
    (if s1.reg O.MEM_MEM_STATE = 1 ∧ (List.range 8).all (fun m => s1.reg (O.MEMC_STATE m) = 1) then
      (List.range 8).foldl
        (fun (s : State) m =>
          ({ s with memStep1 := Tbl.set false s.memStep1 m true }.setReg (O.MEMC_STATE m) 2).setReg (O.MEMC_TRAIN_STEP m) 7)
        ((s1.setReg O.MEM_MEM_STATE 2).setReg O.MEM_CAPACITY (capacityOf (s1.reg O.MEM_MEM_CONFIG)))
    else s1)

/-- RETRAIN_INTERVAL: RETRAIN_INTERVAL has passed since the last measurement; a drift (in 1/256 UI) beyond 1/16 UI moves the write DQ delays by the drift (R356). -/
def execRetrainInterval (t : Nat) (m : Fin 8) (drift : Int) (s : State) : Host.Outcome State Fault Refusal :=
  let s1 := s.tickTo t
  .next
    (if s1.reg (O.MEMC_STATE m.val) ≠ 2 ∨
        s1.now < Tbl.get 0 s1.retrainAt m.val + s1.reg (O.MEMC_RETRAIN_INTERVAL m.val) * Config.msUnits then s1
     else
       let s2 : State := { s1 with retrainAt := Tbl.set 0 s1.retrainAt m.val s1.now }
       if drift.natAbs > 16 then
         { s2.bump (O.MEMC_RETRAINS m.val) 1 with dqDelay := Tbl.set 0 s2.dqDelay m.val (Tbl.get 0 s2.dqDelay m.val + drift) }
       else s2)

/-- ZQ_LATCH: the latch of a READY channel, every 64 ms (R356). -/
def execZqLatch (t : Nat) (m : Fin 8) (s : State) : Host.Outcome State Fault Refusal :=
  let s1 := s.tickTo t
  .next (if s1.reg (O.MEMC_STATE m.val) = 2 ∧ Tbl.get 0 s1.zqAt m.val + 64 * Config.msUnits ≤ s1.now then { s1 with zqAt := Tbl.set 0 s1.zqAt m.val s1.now } else s1)

/-- REFRESH_INTERVAL: a per-bank refresh is due; it is postponed while the bank has accesses waiting, by at most 8 intervals,
and otherwise issued in bank order, the postponed ones with it (R357). -/
def execRefreshInterval (t : Nat) (m : Fin 8) (waiting : Bool) (s : State) : Host.Outcome State Fault Refusal :=
  let s1 := s.tickTo t
  let (bank, late) := Tbl.get (0, 0) s1.refresh m.val
  .next
    (if s1.reg (O.MEMC_STATE m.val) ≠ 2 then s1
     else if waiting ∧ late < 8 then
      ({ s1 with refresh := Tbl.set (0, 0) s1.refresh m.val (bank, late + 1) }.bump (O.MEMC_REF_POSTPONED m.val) 1).countEvent 3 m.val 2 1
     else if waiting then { s1 with refresh := Tbl.set (0, 0) s1.refresh m.val ((bank + 1) % 8, late) }
     else { s1 with refresh := Tbl.set (0, 0) s1.refresh m.val ((bank + 1 + late) % 8, 0) })

/-- MR4_POLL: the refresh-rate code is recorded; codes 5 to 7 (a rate of 0.25 × or faster, PRESUMED from JESD209-4) set
HOT (R357). -/
def execMr4Poll (t : Nat) (m : Fin 8) (code : Nat) (s : State) : Host.Outcome State Fault Refusal :=
  let s1 := s.tickTo t
  .next
    (if s1.reg (O.MEMC_STATE m.val) ≠ 2 then s1
     else
      let s2 := s1.setReg (O.MEMC_MR4 m.val) (code % 8)
      if code % 8 ≥ 5 then s2.setFlag (O.MEMC_HOT m.val) 0 (O.MEMC_HOT_COUNT m.val) 1 else s2)

/-! ### Address decode and access rights (R359 to R364) -/

/-- The controller that serves a physical address: span q, and bit 8 of the offset within it (R360). -/
def State.memCtl (s : State) (pa : Nat) : Nat :=
  let span := s.reg O.MEM_CAPACITY / 4
  if span = 0 then 0 else 2 * (pa / span) + (pa % span) / 256 % 2

/-- KID and physical address of a system address (*Table 13.2*). -/
def kidOf (addr : Nat) : Nat := bits addr 45 40
def paOf (addr : Nat) : Nat := bits addr 39 0

/-- State of a KID (*Table 13.10*). -/
def State.kidState (s : State) (k : Nat) : Nat := s.reg (O.KID_KID_STATE k)

/-- The first status of R364, steps 1 to 8, for an access to a system address; OKAY where the line itself decides. -/
def State.memStatus (s : State) (addr : Nat) : Status :=
  let pa := paOf addr
  let kid := kidOf addr
  if addr / 2 ^ 40 > 0x3F ∨ s.reg O.MEM_MEM_STATE = 3 ∨ pa ≥ s.reg O.MEM_CAPACITY then .decode
  else
    match s.regionOf pa with
    | none => .decode
    | some (e, rg) =>
      let m := s.memCtl pa
      if rg.mode = 4 then .denied
      else if s.stopAnswer (quadStop (m / 2) 20) (m % 2) (some (380 + m)) ≠ .okay then
        s.stopAnswer (quadStop (m / 2) 20) (m % 2) (some (380 + m))
      else if s.kidState kid ≥ 2 then .retired
      else if s.kidState kid = 0 ∨ (kid = 0 ∧ rg.mode ≥ 2) ∨ (kid ≠ 0 ∧ rg.mode < 2) then .refused
      else if Tbl.get false s.regionInit e then .busy
      else if kid ≠ 0 ∧ s.badWord 6 0 kid then .poisoned
      else .okay

/-! ### Lines: encryption, tags and checks (R362, R365, R367) -/

/-- The counter block of *Table 13.6* as a 16-byte block, bit 127 first (DEDUCED). -/
def counterBlock (dom pa major minor j : Nat) : List Byte :=
  natBlock (BitVec.ofNat 128 (dom % 4 * 2 ^ 126 + pa / 64 % 2 ^ 34 * 2 ^ 73 + major % 2 ^ 64 * 2 ^ 9 + minor % 128 * 4 + j % 4))

/-- The four data blocks of a line exclusive-ored with their counter blocks: encryption and decryption alike (R365). -/
def cryptLine (key : List Byte) (pa major minor : Nat) (line : List Byte) : List Byte :=
  (List.range 4).flatMap fun j => xorBytes (slice (16 * j) 16 line) (aes256 key (counterBlock 0 pa major minor j))

/-- The 64-bit TAG of a ciphertext line: `dom` 1 the tag, 2 the poisoned tag (R365). -/
def lineTag (key : List Byte) (dom pa major minor : Nat) (ct : List Byte) : Nat :=
  let h := blockNat (aes256 key (fill 16 0))
  let blocks := BitVec.ofNat 128 (pa / 64 % 2 ^ 34) :: (List.range 4).map (fun j => blockNat (slice (16 * j) 16 ct)) ++
    [BitVec.ofNat 128 (128 * 2 ^ 64 + 512)]
  (ghash h blocks ^^^ blockNat (aes256 key (counterBlock dom pa major minor 0))).toNat / 2 ^ 64

/-- Line number within its entry. -/
def Region.lineNo (r : Region) (pa : Nat) : Nat := (pa - r.base) / 64

/-- Address of a line's tag bytes (*Table 13.4*). -/
def Region.tagAddr (r : Region) (i : Nat) : Nat := r.tagBase + (if r.mode = 3 then 16 else 8) * i

/-- Address of a page's MODE 2 counter line. -/
def Region.ctrAddr (r : Region) (i : Nat) : Nat := r.tagBase + r.size / 8 + 64 * (i / 64)

/-- META of line i of a MODE 1 or 3 entry. -/
def metaOf (m : List Host.Cell) (r : Region) (i : Nat) : Nat :=
  leNat (dramRead m (r.tagAddr i + (if r.mode = 3 then 8 else 0)) 4)

/-- MAJOR of the page of line i (*Table 13.4*). -/
def majorOf (m : List Host.Cell) (r : Region) (i : Nat) : Nat :=
  if r.mode = 2 then leNat (dramRead m (r.ctrAddr i) 8)
  else if r.mode = 3 then
    let f := i / 64 * 64
    bits (metaOf m r f) 23 0 + bits (metaOf m r (f + 1)) 23 0 * 2 ^ 24 + bits (metaOf m r (f + 2)) 15 0 * 2 ^ 48
  else 0

/-- MINOR of line i (*Table 13.4*). -/
def minorOf (m : List Host.Cell) (r : Region) (i : Nat) : Nat :=
  if r.mode = 2 then bits (leNat (dramRead m (r.ctrAddr i + 8) 56)) (7 * (i % 64) + 6) (7 * (i % 64))
  else if r.mode = 3 then bits (metaOf m r i) 30 24
  else 0

/-- What the check of a line finds (R367). -/
inductive Check where
  | pass | poisoned | bad
  deriving DecidableEq, Repr

/-- A line as read: what the check found, the plaintext, whether a symbol was corrected, its counters, and its raw bytes as
corrected (data, then tag bytes). -/
structure LineRead where
  check : Check
  data : List Byte
  fixed : Bool
  major : Nat
  minor : Nat
  raw : List Byte
  deriving DecidableEq, Repr

/-- Read and check line i of an entry under a key (R367, *Table 13.7*). -/
def readLine (m : List Host.Cell) (r : Region) (pa : Nat) (key : List Byte) : LineRead :=
  let i := r.lineNo pa
  let data := dramRead m pa 64
  match r.mode with
  | 1 =>
    let tag := dramRead m (r.tagAddr i) 8
    match rsDecode (data ++ tag) with
    | .uncorrectable => ⟨.bad, [], false, 0, 0, data ++ tag⟩
    | .clean => ⟨if (leNat (tag.take 4)).testBit 31 then .poisoned else .pass, data, false, 0, 0, data ++ tag⟩
    | .corrected l => ⟨if (fieldLE l 64 4).testBit 31 then .poisoned else .pass, l.take 64, true, 0, 0, l⟩
  | 2 =>
    let tag := leNat (dramRead m (r.tagAddr i) 8)
    let mj := majorOf m r i
    let mn := minorOf m r i
    let raw := data ++ dramRead m (r.tagAddr i) 8
    if tag = lineTag key 1 pa mj mn data then ⟨.pass, cryptLine key pa mj mn data, false, mj, mn, raw⟩
    else if tag = lineTag key 2 pa mj mn data then ⟨.poisoned, [], false, mj, mn, raw⟩
    else ⟨.bad, [], false, mj, mn, raw⟩
  | 3 =>
    let tag := dramRead m (r.tagAddr i) 16
    let fin (l : List Byte) (fixed : Bool) : LineRead :=
      let mta := fieldLE l 72 4
      -- MAJOR of a page's first three lines is taken from the corrected META where the line is one of them
      let mj0 := majorOf m r i
      let mj := if i % 64 = 0 then mj0 / 2 ^ 24 * 2 ^ 24 + bits mta 23 0
        else if i % 64 = 1 then mj0 / 2 ^ 48 * 2 ^ 48 + bits mta 23 0 * 2 ^ 24 + mj0 % 2 ^ 24
        else if i % 64 = 2 then bits mta 15 0 * 2 ^ 48 + mj0 % 2 ^ 48
        else mj0
      let mn := bits mta 30 24
      if mta.testBit 31 then ⟨.poisoned, [], fixed, mj, mn, l⟩
      else if fieldLE l 64 8 = lineTag key 1 pa mj mn (l.take 64) then
        ⟨.pass, cryptLine key pa mj mn (l.take 64), fixed, mj, mn, l⟩
      else ⟨.bad, [], fixed, mj, mn, l⟩
    match rsDecode (data ++ tag) with
    | .uncorrectable => ⟨.bad, [], false, majorOf m r i, minorOf m r i, data ++ tag⟩
    | .clean => fin (data ++ tag) false
    | .corrected l => fin l true
  | _ => ⟨.pass, data, false, 0, 0, data⟩

/-- Put the MINOR of line i of a MODE 2 entry. -/
def setMinor2 (m : List Host.Cell) (r : Region) (i mn : Nat) : List Host.Cell :=
  let v := leNat (dramRead m (r.ctrAddr i + 8) 56)
  let sh := 2 ^ (7 * (i % 64))
  dramWrite m (r.ctrAddr i + 8) (leBytes 56 (v - v / sh % 128 * sh + mn % 128 * sh))

/-- Write a plaintext line under given counters; `poison` marks it poisoned under them (R366 to R368). -/
def writeLine (m : List Host.Cell) (r : Region) (pa : Nat) (key : List Byte) (major minor : Nat) (poison : Bool)
    (data : List Byte) : List Host.Cell :=
  let i := r.lineNo pa
  match r.mode with
  | 1 =>
    let mt := leBytes 4 (b2n poison * 2 ^ 31)
    dramWrite (dramWrite m pa data) (r.tagAddr i) (mt ++ rsCheck (data ++ mt))
  | 2 =>
    let ct := cryptLine key pa major minor data
    let m1 := setMinor2 (dramWrite (dramWrite m pa ct) (r.ctrAddr i) (leBytes 8 major)) r i minor
    dramWrite m1 (r.tagAddr i) (leBytes 8 (lineTag key (if poison then 2 else 1) pa major minor ct))
  | 3 =>
    let ct := cryptLine key pa major minor data
    let sl := if i % 64 = 0 then bits major 23 0 else if i % 64 = 1 then bits major 47 24
      else if i % 64 = 2 then bits major 63 48 else 0
    let tag := leBytes 8 (lineTag key 1 pa major minor ct) ++ leBytes 4 (b2n poison * 2 ^ 31 + minor % 128 * 2 ^ 24 + sl)
    dramWrite (dramWrite m pa ct) (r.tagAddr i) (tag ++ rsCheck (ct ++ tag))
  | _ => dramWrite m pa data

/-- Mark a line poisoned: in MODE 1 and 3 POISON is set and the RS check recomputed, every other byte unchanged; in MODE 2 TAG
becomes the poisoned tag under the present counters (R367). -/
def poisonLine (m : List Host.Cell) (r : Region) (pa : Nat) (key : List Byte) : List Host.Cell :=
  let i := r.lineNo pa
  let data := dramRead m pa 64
  match r.mode with
  | 1 =>
    let mt := leBytes 4 (setBit (metaOf m r i) 31 true)
    dramWrite m (r.tagAddr i) (mt ++ rsCheck (data ++ mt))
  | 2 => dramWrite m (r.tagAddr i) (leBytes 8 (lineTag key 2 pa (majorOf m r i) (minorOf m r i) data))
  | 3 =>
    let tag := dramRead m (r.tagAddr i) 8 ++ leBytes 4 (setBit (metaOf m r i) 31 true)
    dramWrite m (r.tagAddr i) (tag ++ rsCheck (data ++ tag))
  | _ => m

/-! ### The counter and tag cache (R373) -/

/-- The tag lines an access to line i of an entry needs. -/
def Region.tagLines (r : Region) (i : Nat) : List Nat :=
  match r.mode with
  | 1 => [r.tagAddr i / 64]
  | 2 => [r.tagAddr i / 64, r.ctrAddr i / 64]
  | 3 => if r.tagAddr i / 64 = r.tagAddr (i / 64 * 64) / 64 then [r.tagAddr i / 64]
         else [r.tagAddr i / 64, r.tagAddr (i / 64 * 64) / 64]
  | _ => []

/-- LPDDR4X lines that lose their tag bytes with a dirty line of the cache (*Table 14.1*). -/
def State.linesOfTag (s : State) (line : Nat) : List Nat :=
  let a := 64 * line
  (List.range 16).flatMap fun e =>
    let r := regionAt (s.image O.MEM_REGIONS) e
    let n := r.size / 64
    if !r.valid ∨ a < r.tagBase ∨ r.tagBase + r.tagSize ≤ a then []
    else
      let o := a - r.tagBase
      let span := fun (first n : Nat) => (List.range n).map fun i => r.base / 64 + first + i
      match r.mode with
      | 1 => span (o / 8) 8
      | 2 => if o < r.size / 8 then span (o / 8) 8 else span (o - 8 * n) 64
      | 3 => if o / 16 % 64 = 0 then span (o / 16) 64 else span (o / 16) 4
      | _ => []

/-- An uncorrectable error in a line of the counter and tag cache: a clean line is invalidated, a dirty one discarded (*Table 14.1*). -/
def State.cacheBad (s : State) (w : TagLine) : State :=
  let set := w.line % 1024
  let s1 := { s with tagCache := Tbl.set [] s.tagCache set ((Tbl.get [] s.tagCache set).filter fun x => x.line != w.line) }
  if w.dirty then { s1 with lostLines := (s1.linesOfTag w.line).foldl (fun m l => Tbl.set false m l true) s1.lostLines } else s1

/-- A demand read of a line of the cache: an upset is corrected in the data used, and a second one makes the line uncorrectable (R383). -/
def State.cacheCheck (s : State) (line : Nat) : State :=
  match (Tbl.get [] s.tagCache (line % 1024)).find? fun w => w.line == line with
  | some w =>
    if w.upset = 0 then s
    else if w.upset = 1 then s.bumpImage O.PATROL_SRAM_CORRECTED 4 1
    else (s.sramBad 4).cacheBad w
  | none => s

/-- One access to a tag line: a hit moves it to the front of its set, a miss brings it in and, with 16 ways in use, the
least recently used line leaves, written back if dirty. -/
def State.tagTouch (s0 : State) (m line : Nat) (write : Bool) (kid : Nat) : State :=
  let s := s0.cacheCheck line
  let set := line % 1024
  let ways := Tbl.get [] s.tagCache set
  match ways.find? fun w => w.line == line with
  | some w =>
    let w1 : TagLine := ⟨line, w.dirty || write, kid, if write then kid else w.wroteKid, w.upset⟩
    { s.bump O.MEM_TC_HITS 1 with tagCache := Tbl.set [] s.tagCache set (w1 :: ways.filter fun x => x.line != line) }
  | none =>
    let s1 := (s.bump O.MEM_TC_MISSES 1).countEvent 3 m 3 1
    let gone := ways.drop 15
    let s2 := s1.bump O.MEM_TC_WRITEBACKS (gone.filter (·.dirty)).length
    { s2 with tagCache := Tbl.set [] s2.tagCache set (⟨line, write, kid, if write then kid else 0, 0⟩ :: ways.take 15) }

/-- The tag lines of an access to line i of an entry, in order: a write changes the line's own tag bytes, and in MODE 2 its page's
counter line with them; the line of a MODE 3 page that holds MAJOR is only read. -/
def State.tagAccess (s : State) (m : Nat) (r : Region) (i : Nat) (write : Bool) (kid : Nat) : State :=
  match r.tagLines i with
  | [] => s
  | own :: rest => rest.foldl (fun s l => s.tagTouch m l (write && r.mode == 2) kid) (s.tagTouch m own write kid)

/-! ### Lost tag bytes (*Table 14.1*) -/

/-- Whether a line's tag bytes were lost with a dirty cache line, so that it fails its check. -/
def State.lostLine (s : State) (pa : Nat) : Bool := Tbl.get false s.lostLines (pa / 64)

/-- A line's tag bytes are written again. -/
def State.lineWritten (s : State) (pa : Nat) : State := { s with lostLines := Tbl.set false s.lostLines (pa / 64) false }

/-- A line read with its check, lost tag bytes taken into account. -/
def State.readLineAt (s : State) (r : Region) (pa : Nat) (key : List Byte) : LineRead :=
  let l := readLine s.dram r pa key
  if s.lostLine pa then { l with check := .bad, data := [] } else l

/-! ### Accesses -/

/-- The fields of WALK_CTRL (*Table 13.14*). -/
def State.walkRunning (s : State) : Bool := bits (s.reg O.MEM_WALK_CTRL) 3 2 == 1
def State.walkPtr (s : State) : Nat := bits (s.reg O.MEM_WALK_CTRL) 39 12

/-- The KID whose key an access to a page uses: during a walk NEW below WALK_PTR and OLD at or above it (R375). -/
def State.effKid (s : State) (kid pa : Nat) : Nat :=
  let w := s.image O.MEM_WALK
  let base := bits (fieldLE w 0 8) 39 0
  let size := fieldLE w 8 8
  let old := byteAt w 16
  let new := byteAt w 17
  if s.walkRunning ∧ (kid = old ∨ kid = new) ∧ base ≤ pa ∧ pa < base + size then
    (if pa / 4096 < s.walkPtr then new else old)
  else kid

/-- The key of a KID. -/
def State.kidKey (s : State) (k : Nat) : List Byte := s.image (O.KID_KEY k)

/-- Whether an access must wait: its page is being re-encrypted (R366), or its controller is in self-refresh (R358). -/
def State.memWaits (s : State) (addr : Nat) : Bool :=
  let pa := paOf addr
  (Tbl.get none s.reenc (pa / 4096)).isSome || s.reg (O.MEMC_STATE (s.memCtl pa)) == 3

/-- The counters of a completed memory request that its ring stop or its controller answered (R364, R371). -/
def State.memTally (s : State) (addr : Nat) (write : Bool) (st : Status) : State :=
  let rs := quadStop (s.memCtl (paOf addr) / 2) 20
  let s1 := s.tally false rs st
  let s2 := if st = .refused then s1.bump O.MEM_MEM_REFUSED 1
    else if st = .retired then s1.bump O.MEM_RETIRED_ACCESSES 1 else s1
  if !write ∨ st = .gated ∨ st = .fenced ∨ st = .isolated then s2
  else
    (s2.ledAdd 0x1067 0 1).ledAdd 0x1067 (if st = .okay then 1 else if st = .poisoned then 2 else 3) 1

/-- A failed check: INTEGRITY_FAIL and FAULT bit 4 (R367). -/
def State.integrityFail (s : State) : State :=
  (s.setFlag O.MEM_INTEGRITY_FAIL 0 O.MEM_INTEGRITY_FAIL_COUNT 1).fault 4

/-- A request whose first status under R364 is not OKAY completes with it. POISONED here is a key that both copies of the Tack store
have lost: each use counts as an uncorrectable read (*Table 14.1*). -/
def State.memRefuse (s : State) (addr : Nat) (write part : Bool) (st : Status) : State :=
  let s1 := if st = .poisoned then
      (s.sramBad 6).bump (if write then O.MEM_POISONED_WRITES else O.MEM_POISONED_READS) (b2n (!write || part))
    else s
  s1.memTally addr write st

/-- Read one line (R364, R367); `none` where the access waits. A failing line's data reads 0. -/
def State.memReadLine (s : State) (addr : Nat) : Option (Status × List Byte) × State :=
  let a := addr / 64 * 64
  let st := s.memStatus a
  if st ≠ .okay then (some (st, fill 64 0), s.memRefuse a false false st)
  else if s.memWaits a then (none, s)
  else
    let pa := paOf a
    match s.regionOf pa with
    | none => (some (.decode, fill 64 0), s.memTally a false .decode)
    | some (_, rg) =>
      let m := s.memCtl pa
      let kid := kidOf a
      let s0 := if kid = 0 then s else s.sramRead 6 0 kid 1
      let s1 := (((s0.bump (O.MEMC_READS m) 1).countEvent 3 m 0 1).bump (O.KID_ACCESSES kid) 1).tagAccess m rg
        (rg.lineNo pa) false kid
      let l := s1.readLineAt rg pa (s1.kidKey (s1.effKid kid pa))
      let s2 := if l.fixed then s1.bump O.MEM_CORRECTED 1 else s1
      match l.check with
      | .pass => (some (.okay, l.data), s2.memTally a false .okay)
      | .poisoned => (some (.poisoned, fill 64 0), (s2.bump O.MEM_POISONED_READS 1).memTally a false .poisoned)
      | .bad => (some (.poisoned, fill 64 0), ((s2.integrityFail).bump O.MEM_POISONED_READS 1).memTally a false .poisoned)

/-- A write that would take MINOR to 128 triggers the re-encryption of its page and waits for it (R366). -/
def State.triggerReenc (s : State) (addr : Nat) (b : List Byte) : State :=
  let page := paOf addr / 4096
  ((({ s with reenc := Tbl.set none s.reenc page (some ⟨true, addr, b, b.length⟩) }.ledAdd 0x1064 0 1).ledAdd 0x1064 2 1).ledAdd
    0x1067 0 1).ledAdd 0x1067 4 1

/-- Write bytes within one line (R364, R366 to R368): 64 bytes are a full-line write, fewer a partial one; `none` where the
write waits. -/
def State.memWriteLine (s : State) (addr : Nat) (b : List Byte) : Option Status × State :=
  let st := s.memStatus addr
  if st ≠ .okay then (some st, s.memRefuse addr true (b.length != 64) st)
  else if s.memWaits addr then (none, s)
  else
    let pa := paOf addr / 64 * 64
    match s.regionOf pa with
    | none => (some .decode, s.memTally addr true .decode)
    | some (_, rg) =>
      let m := s.memCtl pa
      let kid := kidOf addr
      let key := s.kidKey (s.effKid kid pa)
      let i := rg.lineNo pa
      let l := s.readLineAt rg pa key
      let whole := b.length == 64 || rg.mode == 0
      let s0 := if kid = 0 then s else s.sramRead 6 0 kid 1
      let s1 := (((s0.bump (O.MEMC_WRITES m) 1).countEvent 3 m 1 1).bump (O.KID_ACCESSES kid) 1).tagAccess m rg i
        (whole || l.check != .poisoned) kid
      if whole then
        let data := if b.length = 64 then b else splice (dramRead s1.dram pa 64) (paOf addr % 64) b
        if rg.mode ≥ 2 ∧ minorOf s1.dram rg i = 127 then (none, s1.triggerReenc addr b)
        else
          (some .okay, ({ s1 with dram := writeLine s1.dram rg pa key (majorOf s1.dram rg i) (minorOf s1.dram rg i + 1) false data }.lineWritten
            pa).memTally addr true .okay)
      else
        let s2 := if l.fixed then s1.bump O.MEM_CORRECTED 1 else s1
        match l.check with
        | .pass =>
          if rg.mode ≥ 2 ∧ l.minor = 127 then (none, s2.triggerReenc addr b)
          else
            (some .okay, { s2 with dram := writeLine s2.dram rg pa key l.major (l.minor + 1) false
                                      (splice l.data (paOf addr % 64) b) }.memTally addr true .okay)
        | .poisoned => (some .poisoned, (s2.bump O.MEM_POISONED_WRITES 1).memTally addr true .poisoned)
        | .bad =>
          (some .poisoned, ((({ s2 with dram := poisonLine s2.dram rg pa key }.lineWritten pa |>.integrityFail).bump O.MEM_POISONED_WRITES 1).memTally
            addr true .poisoned))

/-- The longest wait in slots of a class of the pipelines, its wait bounded as R372 bounds it: 0 demand, 1 re-encryption, 2 walk,
3 scrub. -/
def State.pipeWait (s : State) (cls wait : Nat) : State :=
  let w := s.reg O.MEM_PIPE_MAXWAIT
  let old := bits w (8 * cls + 7) (8 * cls)
  let new := max old (min wait ([1, 10, 16, 16].getD cls 0))
  s.setReg O.MEM_PIPE_MAXWAIT (w - old * 2 ^ (8 * cls) + new * 2 ^ (8 * cls))

/-- The longest access and the longest demand wait seen (*Table 13.15*, R372); a KID 0 line bypasses the pipeline (R19). -/
def State.memMeasure (s : State) (addr lat wait : Nat) : State :=
  (s.raiseMax (O.MEMC_MAX_ACCESS_NS (s.memCtl (paOf addr))) (lat % 2 ^ 32)).pipeWait 0 (if kidOf addr = 0 then 0 else wait)

/-- Read n lines in order: the first status other than OKAY, and the data; `none` where a line waits (R364). -/
def State.memReadLines (s : State) (addr : Nat) : Nat → Option (Status × List Byte) × State
  | 0 => (some (.okay, []), s)
  | n + 1 =>
    match s.memReadLine addr with
    | (none, s1) => (none, s1)
    | (some (st, d), s1) =>
      match s1.memReadLines (addr + 64) n with
      | (none, s2) => (none, s2)
      | (some (st2, d2), s2) => (some (if st = .okay then st2 else st, d ++ d2), s2)

/-- A request that waits joins the queue of waiting requests; a write is outstanding in ledger 0x1067 from its arrival. -/
def State.memPark (s : State) (q : MemReq) : State :=
  let s1 := { s with memWait := s.memWait ++ [q] }
  if q.write then (s1.ledAdd 0x1067 0 1).ledAdd 0x1067 4 1 else s1

/-- Whether the write was the one that triggered a re-encryption and is held with its page. -/
def State.heldByPage (s : State) (addr : Nat) (b : List Byte) : Bool :=
  Tbl.get none s.reenc (paOf addr / 4096) == some ⟨true, addr, b, b.length⟩

/-- A write request as it reaches the memory system: performed, answered, or waiting. -/
def State.memWriteReq (s : State) (addr : Nat) (b : List Byte) : Option Status × State :=
  if s.memStatus addr = .okay ∧ s.memWaits addr then (none, s.memPark ⟨true, addr, b, b.length⟩)
  else s.memWriteLine addr b

/-- Write bytes over consecutive lines in ascending order; the first status other than OKAY (R361's WINDOW, ring writes). The
first argument bounds the number of lines. -/
def State.memWriteBytes (s : State) (addr : Nat) (b : List Byte) : Nat → Status × State
  | 0 => (.okay, s)
  | n + 1 =>
    if b = [] then (.okay, s)
    else
      let k := 64 - addr % 64
      let (st, s1) := s.memWriteReq addr (b.take k)
      let (st2, s2) := s1.memWriteBytes (addr + k) (b.drop k) n
      (match st with
       | some .okay => st2
       | none => st2
       | some x => x, s2)

/-- The reply to a memory request. -/
def State.memReply (s : State) (st : Status) (d : List Byte) : State := { s with reply := ⟨st, d⟩ }

/-- MEMORY_READ: `lines` lines from a system address (R364, R367); `lat` and `wait` are the access time in ns and the pipeline
wait in slots as measured. A read that must wait joins the waiting requests. -/
def execMemoryRead (t addr lines lat wait : Nat) (s : State) : Host.Outcome State Fault Refusal :=
  let s1 := (s.tickTo t).memMeasure addr lat wait
  .next
    (match s1.memReadLines addr lines with
     | (some (st, d), s2) => s2.memReply st d
     | (none, _) => s1.memPark ⟨false, addr, [], lines⟩)

/-- PARTIAL_WRITE: fewer than 64 bytes within one line (R367). -/
def execPartialWrite (t addr : Nat) (bytes : List Byte) (lat wait : Nat) (s : State) : Host.Outcome State Fault Refusal :=
  let s1 := (s.tickTo t).memMeasure addr lat wait
  let (st, s2) := s1.memWriteReq addr bytes
  .next (match st with
    | some x => s2.memReply x []
    | none => s2)

/-- FULL_LINE_WRITE: the 64 bytes of one line, without a read (R368). -/
def execFullLineWrite (t addr : Nat) (bytes : List Byte) (lat wait : Nat) (s : State) : Host.Outcome State Fault Refusal :=
  let s1 := (s.tickTo t).memMeasure addr lat wait
  let (st, s2) := s1.memWriteReq (addr / 64 * 64) bytes
  .next (match st with
    | some x => s2.memReply x []
    | none => s2)

/-! ### Page re-encryption (R366) -/

/-- Whether a write to an address finds MINOR at 127, so that it triggers a re-encryption (R28, R366). -/
def State.overflows (s : State) (addr : Nat) : Bool :=
  match s.regionOf (paOf addr) with
  | some (_, rg) => decide (rg.mode = 2 ∨ rg.mode = 3) && minorOf s.dram rg (rg.lineNo (paOf addr)) == 127
  | none => false

/-- PAGE_REENCRYPTION: a write that overflows MINOR arrives and triggers the re-encryption of its page; a write that does
not overflow is none of this row's. -/
def execPageReencryption (t addr : Nat) (bytes : List Byte) (s : State) : Host.Outcome State Fault Refusal :=
  let s1 := s.tickTo t
  .next
    (if s1.overflows addr then
      let (st, s2) := s1.memWriteReq addr bytes
      match st with
      | some x => s2.memReply x []
      | none => s2
    else s1)

/-- Move one line of a page from (oldKey) to (newKey) under MAJOR `mj` and MINOR 0; a line that is poisoned or fails its
check is poisoned under the new key (R366, R375). Returns the devices and whether the line was bad. -/
def rekeyLine (m0 m : List Host.Cell) (lost : Nat → Bool) (r : Region) (pa : Nat) (oldKey newKey : List Byte) (mj : Nat) :
    List Host.Cell × Bool :=
  let l := readLine m0 r pa oldKey
  match if lost pa then Check.bad else l.check with
  | .pass => (writeLine m r pa newKey mj 0 false l.data, false)
  | _ => (writeLine m r pa newKey mj 0 true (cryptLine oldKey pa l.major l.minor (l.raw.take 64)), true)

/-- Re-encrypt the 64 lines of a page; the count of bad lines comes with the devices. -/
def rekeyPage (m : List Host.Cell) (lost : Nat → Bool) (r : Region) (page : Nat) (oldKey newKey : List Byte) : List Host.Cell × Nat :=
  let mj := majorOf m r (r.lineNo (page * 4096)) + 1
  (List.range 64).foldl
    (fun acc k =>
      let (m1, bad) := rekeyLine m acc.1 lost r (page * 4096 + 64 * k) oldKey newKey mj
      (m1, acc.2 + b2n bad)) (m, 0)

/-- A request accepted before the RETIRE write of its KID completes normally: it is served as under an ACTIVE KID (R374). -/
def State.asAccepted (s : State) (kid : Nat) (f : State → State) : State :=
  if s.kidState kid = 2 then (f (s.setReg (O.KID_KID_STATE kid) 1)).setReg (O.KID_KID_STATE kid) 2 else f s

/-- Every waiting request proceeds, in order of arrival; those that still must wait stay. A waiting write moves from
outstanding to its outcome in ledger 0x1067. -/
def State.memDrain (s : State) : State :=
  s.memWait.foldl
    (fun (s : State) q => s.asAccepted (kidOf q.addr) fun s =>
      if s.memStatus q.addr = .okay ∧ s.memWaits q.addr then { s with memWait := s.memWait ++ [q] }
      else if q.write then
        let s0 := (s.ledSub 0x1067 0 1).ledSub 0x1067 4 1
        match s0.memWriteLine q.addr q.bytes with
        | (some st, s1) => s1.memReply st []
        | (none, s1) => s1
      else
        match s.memReadLines q.addr q.len with
        | (some (st, d), s1) => s1.memReply st d
        | (none, s1) => { s1 with memWait := s1.memWait ++ [q] })
    { s with memWait := [] }

/-- A page being re-encrypted is done: every line of it is under MAJOR + 1 with MINOR 0, the triggering write is merged into its
line and completes, and the waiting accesses proceed (R366). -/
def State.pageDone (s : State) (page : Nat) : State :=
  match Tbl.get none s.reenc page, s.regionOf (page * 4096) with
  | some q, some (_, rg) =>
    let key := s.kidKey (s.effKid (kidOf q.addr) (page * 4096))
    let pa := paOf q.addr / 64 * 64
    let l := s.readLineAt rg pa key
    let (m1, _) := rekeyPage s.dram s.lostLine rg page key key
    let data := if q.bytes.length = 64 then q.bytes else splice l.data (paOf q.addr % 64) q.bytes
    let m2 := writeLine m1 rg pa key (majorOf s.dram rg (rg.lineNo pa) + 1) 0 false data
    let s1 := { s with dram := m2, reenc := Tbl.set none s.reenc page none, lostLines := s.lostLines.filter fun x => x.1 / 64 != page }
    let s2 := ((s1.bump O.MEM_REENCRYPTIONS 1).ledMove 0x1064 2 1 1).ledMove 0x1067 4 1 1
    (s2.memReply .okay []).memDrain
  | _, _ => s

/-- The pages being re-encrypted that `f` names are done. -/
def State.pagesDone (s : State) (f : Nat → Bool) : State := ((s.reenc.map (·.1)).filter f).foldl State.pageDone s

/-- PAGE_REENCRYPTION_DONE: the re-encryption of a page ends; `wait` is the longest wait in slots of its lines (R366, R372). -/
def execPageReencryptionDone (t page wait : Nat) (s : State) : Host.Outcome State Fault Refusal :=
  let s1 := s.tickTo t
  .next (if (Tbl.get none s1.reenc page).isSome ∧ !s1.clkLost then (s1.pipeWait 1 wait).pageDone page else s1)

/-- SELF_REFRESH_EXIT: the controller leaves SELF_REFRESH, having repeated steps 2 and 7 of *Table 13.1*, and the accesses
that waited for it proceed (R358). -/
def execSelfRefreshExit (t : Nat) (m : Fin 8) (s : State) : Host.Outcome State Fault Refusal :=
  let s1 := s.tickTo t
  .next
    (if s1.reg (O.MEMC_STATE m.val) = 3 ∧ s1.shedOn (quadStop (m.val / 2) 20) ∧ s1.pllLocked (pllM (m.val / 2)) ∧ !s1.clkLost ∧ !s1.isSet O.SUP_VDDQ_LOW then
      ((s1.setReg (O.MEMC_STATE m.val) 2).setReg (O.MEMC_TRAIN_STEP m.val) 7).memDrain
    else s1)

/-! ### Regions (R361, R363) -/

/-- Whether two address ranges overlap. -/
def overlap (a n b m : Nat) : Bool := decide (a < b + m) && decide (b < a + n)

/-- Whether a REGIONS image breaks a rule of R361 for which the commit is REFUSED. -/
def State.regionsRefused (s : State) (img : List Byte) : Bool :=
  let rs := (List.range 16).map (regionAt img)
  let vs := rs.filter (·.valid)
  img.length != 512 || rs.any (fun r => decide (4 < r.mode)) ||
  (List.range vs.length).any (fun i => (List.range i).any fun j =>
    match vs[i]?, vs[j]? with
    | some a, some b => overlap a.base a.size b.base b.size || (a.tagSize != 0 && b.tagSize != 0 && overlap a.tagBase a.tagSize b.tagBase b.tagSize)
    | _, _ => false) ||
  vs.any fun r =>
    r.kid > 63 || r.size = 0 || r.size % 2 ^ 20 != 0 || r.base % 2 ^ 20 != 0 ||
      r.base + r.size > s.reg O.MEM_CAPACITY ||
      (r.tagSize != 0 && (r.tagBase % 64 != 0 ||
        !(vs.any fun g => g.mode == 4 && decide (g.base ≤ r.tagBase) && decide (r.tagBase + r.tagSize ≤ g.base + g.size)))) ||
      (if r.mode = 2 ∨ r.mode = 3 then r.kid = 0 || s.kidState r.kid != 1 else r.kid != 0)

/-- A valid stream descriptor of Grind q: its BASE (*Table 13.11*). -/
def streamBases (img : List Byte) : List Nat :=
  ((List.range 512).filter fun k => (byteAt img (32 * k + 20)).testBit 0).map fun k => bits (fieldLE img (32 * k) 8) 47 0

/-- Whether a valid stream descriptor, the running walk or an initialisation refers to an entry (R361). -/
def State.regionInUse (s : State) (e : Nat) (r : Region) : Bool :=
  ((List.range 4).any fun q => (streamBases (s.image (O.GRIND_STREAMS q))).any fun b => r.has (paOf b)) ||
    (s.walkRunning && r.has (bits (fieldLE (s.image O.MEM_WALK) 0 8) 39 0)) || Tbl.get false s.regionInit e

/-- The owner of REGIONS (R361, R363): new entries of MODE 1 to 3 begin their initialisation. -/
def ownRegions : ImgOwner := unscheduled fun img s =>
  if s.regionsRefused img then (.refused, s)
  else
    let old := fun e => regionAt (s.image O.MEM_REGIONS) e
    let changed := (List.range 16).filter fun e => old e != regionAt img e
    if changed.any fun e => (old e).valid && s.regionInUse e (old e) then (.busy, s)
    else
      -- the accesses in flight of the old entries complete first
      let s1 := (s.pagesDone fun page => changed.any fun e => (old e).has (page * 4096)).setImage O.MEM_REGIONS img
      (.okay, changed.foldl
        (fun (s : State) e =>
          let r := regionAt img e
          { s with regionInit := Tbl.set false s.regionInit e (r.valid && decide (1 ≤ r.mode) && decide (r.mode ≤ 3)) }) s1)

/-- REGIONS: commits the protection regions (R361). -/
def execRegions (t : Nat) (r : Requester) (crc tt : Nat) (s : State) : Host.Outcome State Fault Refusal :=
  .next ((s.tickTo t).commitObj r O.MEM_REGIONS crc tt ownRegions)

/-- Initialise every line of an entry with zero plaintext, MAJOR 1 and MINOR 0 (R363). -/
def initRegion (key : List Byte) (r : Region) (m : List Host.Cell) : Nat → List Host.Cell
  | 0 => m
  | n + 1 => writeLine (initRegion key r m n) r (r.base + 64 * n) key 1 0 false (fill 64 0)

/-- REGION_INIT_DONE: the initialisation of an entry completes: its lines hold zero plaintext, INIT_STATUS reads OKAY and
its accesses are no longer BUSY (R363); `wait` is the longest wait in slots of its lines, in the class of the walk (R372). -/
def execRegionInitDone (t : Nat) (e : Fin 16) (wait : Nat) (s : State) : Host.Outcome State Fault Refusal :=
  let s1 := s.tickTo t
  .next
    (if Tbl.get false s1.regionInit e.val ∧ !s1.clkLost then
      let rg := regionAt (s1.image O.MEM_REGIONS) e.val
      { (s1.pipeWait 2 (if rg.kid = 0 then 0 else wait)).setReg O.MEM_INIT_STATUS 0 with
        dram := initRegion (s1.kidKey rg.kid) rg s1.dram (rg.size / 64), regionInit := Tbl.set false s1.regionInit e.val false,
        lostLines := s1.lostLines.filter fun x => !rg.has (64 * x.1) }
    else s1)

/-! ### The memory window -/

/-- The owner of WINDOW: the image is written at WINDOW_ADDR in ascending order (*Table 13.14*). -/
def ownWindow : ImgOwner := unscheduled fun img s =>
  if img.length > 65536 then (.refused, s)
  else s.memWriteBytes (bits (s.reg O.MEM_WINDOW_ADDR) 47 0) img 1025

/-- WINDOW: a commit writes memory at WINDOW_ADDR. -/
def execWindow (t : Nat) (r : Requester) (crc tt : Nat) (s : State) : Host.Outcome State Fault Refusal :=
  .next ((s.tickTo t).commitObj r O.MEM_WINDOW crc tt ownWindow)

/-- WINDOW_ADDR names a system address in region 0x00 to 0x3F. -/
def ownWindowAddr : Owner := fun v s =>
  if v / 2 ^ 40 > 0x3F then (.refused, s) else (.okay, s.setReg O.MEM_WINDOW_ADDR v)

/-! ### Keys (R374) -/

/-- The owner of KEY of KID k: 32 bytes, in EMPTY or RETIRED, never for KID 0. -/
def ownKidKey (k : Nat) : ImgOwner := unscheduled fun img s =>
  if k = 0 ∨ img.length ≠ 32 ∨ s.kidState k = 1 ∨ s.kidState k = 2 then (.refused, s)
  else (.okay, (((s.setImage (O.KID_KEY k) img).setBad 6 0 k 1 false).setReg (O.KID_KID_STATE k) 1).bump (O.KID_KEY_LOADS k) 1)

/-- KEY: commits the key of a KID, making it ACTIVE. -/
def execKey (t : Nat) (r : Requester) (k : Fin 64) (crc tt : Nat) (s : State) : Host.Outcome State Fault Refusal :=
  .next ((s.tickTo t).commitObj r (O.KID_KEY k.val) crc tt (ownKidKey k.val))

/-- Whether a stream, the walk or an initialisation uses a KID (R374). -/
def State.kidInUse (s : State) (k : Nat) : Bool :=
  ((List.range 4).any fun q => (streamBases (s.image (O.GRIND_STREAMS q))).any fun b => kidOf b == k) ||
    (s.walkRunning && (byteAt (s.image O.MEM_WALK) 16 == k || byteAt (s.image O.MEM_WALK) 17 == k)) ||
    ((List.range 16).any fun e => Tbl.get false s.regionInit e && (regionAt (s.image O.MEM_REGIONS) e).kid == k)

/-- The owner of RETIRE of KID k. -/
def ownRetire (k : Nat) : Owner := command fun s =>
  if k = 0 ∨ s.kidState k ≠ 1 then (.refused, s)
  else if s.kidInUse k then (.busy, s)
  else (.okay, s.setReg (O.KID_KID_STATE k) 2)

/-- RETIRE: starts retiring a KID. -/
def execRetire (t : Nat) (r : Requester) (k : Fin 64) (v : Bool) (s : State) : Host.Outcome State Fault Refusal :=
  .next ((s.tickTo t).writeObj r (O.KID_RETIRE k.val) (b2n v) (ownRetire k.val))

/-- RETIRE_FLUSH_END: the cache writes back every dirty line last written under the KID and invalidates every line last used
under it; the KID is RETIRED (R374). The flush waits for the accesses accepted earlier (*Table 13.8*). -/
def execRetireFlushEnd (t : Nat) (k : Fin 64) (s : State) : Host.Outcome State Fault Refusal :=
  let s1 := s.tickTo t
  let waits := s1.memWait.any (fun q => kidOf q.addr == k.val) || s1.reenc.any fun p => p.2.any fun q => kidOf q.addr == k.val
  .next
    (if s1.kidState k.val = 2 ∧ !waits then
      let dirty := (s1.tagCache.map fun p => (p.2.filter fun w => w.dirty && w.wroteKid == k.val).length).foldl (· + ·) 0
      let keep := s1.tagCache.foldl
        (fun (acc : Tbl (List TagLine)) p =>
          Tbl.set [] acc p.1 ((p.2.map fun (w : TagLine) => if w.wroteKid == k.val then { w with dirty := false } else w).filter
            fun w => w.usedKid != k.val)) s1.tagCache
      (({ s1 with tagCache := keep }.bump O.MEM_TC_WRITEBACKS dirty).setReg (O.KID_KID_STATE k.val) 3).setReg
        (O.KID_RETIRE_STATUS k.val) 0
    else s1)

/-! ### The re-key walk (R375) -/

/-- The owner of WALK: writable while no walk runs. -/
def ownWalkImage : ImgOwner := unscheduled fun img s =>
  if img.length ≠ 24 ∨ (slice 18 6 img).any (· != 0#8) ∨ byteAt img 16 > 63 ∨ byteAt img 17 > 63 ∨ s.walkRunning then (.refused, s)
  else (.okay, s.setImage O.MEM_WALK img)

/-- A WALK_CTRL value from its fields. -/
def walkCtrl (st status ptr skipped : Nat) : Nat := st * 4 + status * 16 + ptr % 2 ^ 28 * 2 ^ 12 + skipped % 2 ^ 24 * 2 ^ 40

/-- Start of a walk (R375). -/
def walkStart (s : State) : Status × State :=
  let w := s.image O.MEM_WALK
  let base := bits (fieldLE w 0 8) 39 0
  let size := fieldLE w 8 8
  let old := byteAt w 16
  let new := byteAt w 17
  let inOne := match s.regionOf base with
    | some (_, r) => decide (r.mode = 2 ∨ r.mode = 3) && decide (base + size ≤ r.base + r.size)
    | none => false
  if s.walkRunning then (.busy, s)
  else if base % 4096 ≠ 0 ∨ size % 4096 ≠ 0 ∨ size = 0 ∨ !inOne ∨ old = new ∨ old = 0 ∨ new = 0 ∨ s.kidState old ≠ 1 ∨
      s.kidState new ≠ 1 then (.refused, s)
  else (.okay, { s.setReg O.MEM_WALK_CTRL (walkCtrl 1 0 (base / 4096) 0) with walkAborting := false })

/-- Abort of a walk: it stops after its present page; outside a walk there is nothing to stop (REFUSED, DESIGN CHOICE). -/
def walkAbort (s : State) : Status × State :=
  if s.walkRunning then (.okay, { s with walkAborting := true }) else (.refused, s)

/-- The owner of WALK_CTRL: bit 0 starts, bit 1 aborts, the other fields are read-only. -/
def ownWalkCtrl : Owner := fun v s =>
  if v.testBit 0 then walkStart s else if v.testBit 1 then walkAbort s else (.okay, s)

/-- WALK_START. -/
def execWalkStart (t : Nat) (r : Requester) (s : State) : Host.Outcome State Fault Refusal :=
  .next ((s.tickTo t).writeObj r O.MEM_WALK_CTRL 1 ownWalkCtrl)

/-- WALK_ABORT. -/
def execWalkAbort (t : Nat) (r : Requester) (s : State) : Host.Outcome State Fault Refusal :=
  .next ((s.tickTo t).writeObj r O.MEM_WALK_CTRL 2 ownWalkCtrl)

/-- WALK_PAGE: the walker re-keys the page at WALK_PTR from OLD to NEW and advances; a page being re-encrypted goes first
(R34). After the last page the walk is done; after an abort it is idle with ABORTED. `wait` is the longest wait in slots of the
page's lines (R372). -/
def execWalkPage (t wait : Nat) (s : State) : Host.Outcome State Fault Refusal :=
  let s1 := s.tickTo t
  let p := s1.walkPtr
  let w := s1.image O.MEM_WALK
  .next
    (match s1.walkRunning && !s1.clkLost, s1.regionOf (p * 4096) with
     | true, some (_, rg) =>
      if (Tbl.get none s1.reenc p).isSome then s1
      else
        let (m, bad) := rekeyPage s1.dram s1.lostLine rg p (s1.kidKey (byteAt w 16)) (s1.kidKey (byteAt w 17))
        let skipped := bits (s1.reg O.MEM_WALK_CTRL) 63 40 + bad
        let last := (bits (fieldLE w 0 8) 39 0 + fieldLE w 8 8) / 4096
        let s2 := { s1.pipeWait 2 wait with dram := m, lostLines := s1.lostLines.filter fun x => x.1 / 64 != p }
        if p + 1 ≥ last then { s2.setReg O.MEM_WALK_CTRL (walkCtrl 2 0 (p + 1) skipped) with walkAborting := false }
        else if s1.walkAborting then
          { s2.setReg O.MEM_WALK_CTRL (walkCtrl 0 Status.aborted.code (p + 1) skipped) with walkAborting := false }
        else s2.setReg O.MEM_WALK_CTRL (walkCtrl 1 0 (p + 1) skipped)
     | _, _ => s1)

end Sys2Proof.Machine
end

