-- ==== Sys2Proof/Machine/Queue.lean ====
section
/-! DEFINITION. The queue table (R227 to R239): descriptors, states, reservations and ring writes, doorbells, watermarks and
flushes; and what a commit or an advance does to the Kisko stream on the queue (R60). -/

namespace Sys2Proof.Machine

/-! ### The Feed stores -/

/-- Bytes of one Feed store (R134). -/
def feedBytes : Nat := 2 ^ 20

/-- Read n bytes of the Feed store of a cluster. -/
def State.feedRead (s : State) (cluster off n : Nat) : List Byte := dramRead s.feed (cluster * feedBytes + off) n

/-- Write bytes to the Feed store of a cluster; a whole word of 16 bytes that is written is good again (*Table 14.1*), and a word written
in part takes fresh check bits over its corrected data. -/
def State.feedWrite (s : State) (cluster off : Nat) (b : List Byte) : State :=
  let first := (off + 15) / 16
  let s1 : State := { s with
    feed := dramWrite s.feed (cluster * feedBytes + off) b,
    upWords := s.upWords.filter fun p =>
      !(p.1 / 2 ^ 24 == badKey 2 cluster 0 / 2 ^ 24 && decide (off / 16 ≤ p.1 % 2 ^ 24) && decide (16 * (p.1 % 2 ^ 24) < off + b.length)) }
  s1.setBad 2 cluster first ((off + b.length) / 16 - first) false

/-- What the ring stop of a cluster answers (*Table 12.1*, R347); BUSY while its store is under test (R387). -/
def State.feedStatus (s : State) (cluster : Nat) : Status :=
  match s.stopAnswer (quadStop (cluster / 4) (9 + cluster % 4)) 0 (some (324 + cluster)) with
  | .okay => if s.marchOn 3 cluster then .busy else .okay
  | st => st

/-- Network-port accesses of a cluster that wait in a word clock: one is granted in each word clock that has no other request. -/
def Cluster.netLeft (c : Cluster) (wc : Nat) : Nat := c.netReqs - (wc - c.netAt)

/-- The network port of a Feed store asks for the 16-byte accesses of n bytes from an offset (R168). -/
def State.netFeed (s : State) (cluster off n : Nat) : State :=
  let c := Tbl.get ({} : Cluster) s.clusters cluster
  let k := (off % 16 + n + 15) / 16
  { s with clusters := Tbl.set {} s.clusters cluster { c with netReqs := c.netLeft s.wc + k, netAt := s.wc } }.bump (O.CLU_FEED_GRANTS cluster) k

/-- Bytes of a Feed store as the network reads them: POISONED where a word is bad (*Table 14.1*). -/
def State.feedNetRead (s : State) (cluster off n : Nat) : Status × List Byte × State :=
  if s.feedStatus cluster ≠ .okay then (s.feedStatus cluster, [], s)
  else
    let s1 := (s.netFeed cluster off n).sramRead 2 cluster (off / 16) ((off % 16 + n + 15) / 16)
    if (List.range ((off % 16 + n + 15) / 16)).any fun i => s.badWord 2 cluster (off / 16 + i) then (.poisoned, [], s1.sramBad 2)
    else (.okay, s1.feedRead cluster off n, s1)

/-! ### Descriptors and rings -/

def State.queue (s : State) (q : Nat) : Queue := Tbl.get {} s.queues q
def State.setQueue (s : State) (q : Nat) (c : Queue) : State := { s with queues := Tbl.set {} s.queues q c }

/-- FILL of a descriptor (R227). -/
def Queue.fill (c : Queue) : Nat := if c.prodPh = c.consPh then c.prod - c.cons else c.size - c.cons + c.prod

/-- Granules that are neither committed nor reserved. -/
def Queue.room (c : Queue) : Nat := c.size - c.fill - c.resvs.length

/-- An index and its phase, n granules on (R227). -/
def advance (size idx : Nat) (ph : Bool) (n : Nat) : Nat × Bool :=
  if idx + n < size then (idx + n, ph) else (idx + n - size, !ph)

def Queue.advProd (c : Queue) (n : Nat) : Queue :=
  { c with prod := (advance c.size c.prod c.prodPh n).1, prodPh := (advance c.size c.prod c.prodPh n).2 }

def Queue.advCons (c : Queue) (n : Nat) : Queue :=
  { c with cons := (advance c.size c.cons c.consPh n).1, consPh := (advance c.size c.cons c.consPh n).2 }

/-- The 16 bytes of *Table 8.5* as they stand. -/
def Queue.image (c : Queue) : List Byte :=
  leBytes 16 (c.base + c.size * 2 ^ 43 + c.prod * 2 ^ 67 + b2n c.prodPh * 2 ^ 91 + c.cons * 2 ^ 92 + b2n c.consPh * 2 ^ 116 +
    c.pkind * 2 ^ 117 + c.ckind * 2 ^ 120 + b2n c.loc * 2 ^ 126)

/-- Cluster and byte offset of granule i of a ring in a Feed store (*Table 8.5*). -/
def Queue.feedPlace (c : Queue) (i : Nat) : Nat × Nat := (bits c.base 18 15, bits c.base 14 0 * 32 + 32 * i)

/-- System address of granule i of a ring in LPDDR4X (*Table 8.5*). -/
def Queue.memPlace (c : Queue) (i : Nat) : Nat := (c.base + i) * 32

/-- Read granule i of a ring: its status and bytes; `none` where the access waits. -/
def State.ringRead (s : State) (c : Queue) (i : Nat) : Option (Status × List Byte) × State :=
  if c.loc then
    let (k, o) := c.feedPlace i
    let (st, d, s1) := s.feedNetRead k o 32
    (some (st, d), s1)
  else
    match s.memReadLine (c.memPlace i) with
    | (some (st, d), s1) => (some (st, slice (c.memPlace i % 64) 32 d), s1)
    | (none, _) => (none, s)

/-- Write granule i of a ring: the completion status; `none` where the access waits. -/
def State.ringWrite (s : State) (c : Queue) (i : Nat) (g : List Byte) : Option Status × State :=
  if c.loc then
    let (k, o) := c.feedPlace i
    (some (s.feedStatus k), if s.feedStatus k = .okay then (s.netFeed k o g.length).feedWrite k o g else s)
  else s.memWriteLine (c.memPlace i) g

/-! ### Events and watermarks (R234) -/

/-- Set bit b of EVENTS and raise the queue interrupt at INT_TARGET. -/
def State.queueEvent (s : State) (q b : Nat) : State :=
  let s1 := s.setFlag (O.Q_EVENTS q) b (O.Q_HIGH_COUNT q + b) 1
  match s.reg (O.Q_INT_TARGET q) with
  | 1 => s1.raise .queue (8 * q + b) .a
  | 2 => s1.raise .queue (8 * q + b) .b
  | 3 => s1.raise .queue (8 * q + b) (s.holder.getD .a)
  | _ => s1

/-- Evaluate the watermarks of a queue whose FILL was `before`: against the FILL that the present cycle found, where an earlier change
of the cycle has moved it (R234, R237). -/
def State.watermarks (s : State) (q before : Nat) : State :=
  let c := s.queue q
  let cycle := s.now / Config.nsUnits
  let old := if c.fillCycle = cycle + 1 then c.fillWas else before
  let s0 := s.setQueue q { c with fillCycle := cycle + 1, fillWas := old }
  let s1 := if old < s.reg (O.Q_WM_HIGH q) ∧ s.reg (O.Q_WM_HIGH q) ≤ c.fill then s0.queueEvent q 0 else s0
  if s.reg (O.Q_WM_LOW q) < old ∧ c.fill ≤ s.reg (O.Q_WM_LOW q) then s1.queueEvent q 1 else s1

/-! ### Kisko streams on a queue (R60) -/

def State.stream (s : State) (i : Nat) : Stream := Tbl.get {} s.streams i
def State.setStream (s : State) (i : Nat) (x : Stream) : State := { s with streams := Tbl.set {} s.streams i x }
def State.session (s : State) (i : Nat) : Session := Tbl.get {} s.sessions i
def State.setSession (s : State) (i : Nat) (x : Session) : State := { s with sessions := Tbl.set {} s.sessions i x }

/-- The SESSION identifier of a slot (R55). -/
def State.sessionId (s : State) (i : Nat) : Nat :=
  i + (s.session i).opens % 2 ^ 25 * 64 + s.reg (O.SES_CONTROLLER i) * 2 ^ 31

/-- A Kisko datagram: the header of *Table 2.10*, the body, and with a key the MAC trailer of R53. -/
def kiskoDatagram (dtype session seq flags count : Nat) (body : List Byte) (key : Option (List Byte)) : List Byte :=
  let d := leBytes 2 0x4B53 ++ leBytes 1 0x01 ++ leBytes 1 dtype ++ leBytes 4 session ++ leBytes 4 seq ++
    leBytes 2 body.length ++ leBytes 1 flags ++ leBytes 1 count ++ body
  match key with
  | some k => d ++ (hmac k d).take 16
  | none => d

/-- Send a datagram of a session to where its last datagram came from; the SEQ of one that answers no request is a free value
(notes/assumptions). -/
def State.sendSession (s : State) (i dtype : Nat) (body : List Byte) : State :=
  let (n, s1) := s.drawNat
  s1.sendKisko (s1.reg (O.SES_CONTROLLER i)) (s1.session i).peer (kiskoDatagram dtype (s1.sessionId i) (n % 2 ^ 32) 0 0 body (some (s1.session i).key))

/-- A stream ack (*Table 2.15*). -/
def State.sendAck (s : State) (slot i : Nat) (st : Status) (credit acked : Nat) : State :=
  s.sendSession slot 4 (leBytes 1 i ++ leBytes 1 st.code ++ leBytes 2 credit ++ leBytes 4 acked)

/-- The granules from ring index `k` past the consumer index, at most n, up to the first whose read does not complete with
OKAY. -/
def State.ringGranules (s : State) (c : Queue) (k : Nat) : Nat → List Byte × Nat × State
  | 0 => ([], 0, s)
  | n + 1 =>
    match s.ringRead c (advance c.size c.cons c.consPh k).1 with
    | (some (.okay, g), s1) =>
      let (gs, m, s2) := s1.ringGranules c (k + 1) n
      (g ++ gs, m + 1, s2)
    | (_, s1) => ([], 0, s1)

/-- Send one stream-data datagram of granules from sequence `first` on, at most 43 (*Table 2.15*); the granules sent. -/
def State.sendGranules (s : State) (i first n : Nat) : Nat × State :=
  let x := s.stream i
  let (gs, m, s1) := s.ringGranules (s.queue x.queue) (first - x.acked) (min n 43)
  if m = 0 then (0, s1)
  else (m, s1.sendSession x.slot 3 (leBytes 1 i ++ leBytes 1 0 ++ leBytes 2 m ++ leBytes 4 (first % 2 ^ 32) ++ gs))

/-- Send what the credit of a device-to-host stream allows (R60); the second argument bounds the datagrams. -/
def State.pumpStream (s : State) (i : Nat) : Nat → State
  | 0 => s
  | n + 1 =>
    let x := s.stream i
    let avail := (s.queue x.queue).fill - (x.next - x.acked)
    if !x.isOpen ∨ x.toDevice ∨ min x.credit avail = 0 then s
    else
      match s.sendGranules i x.next (min x.credit avail) with
      | (0, s1) => s1
      | (m, s1) =>
        let y := s1.stream i
        (((s1.setStream i { y with
          next := y.next + m, credit := y.credit - m,
          lastAck := if y.next = y.acked then s1.now else y.lastAck }).ledAdd 0x1042 0 m).ledAdd 0x1042 2 m).pumpStream i n

/-- The open stream on a queue in a direction. -/
def State.streamOn (s : State) (q : Nat) (toDevice : Bool) : Option Nat :=
  (s.streams.find? fun p => p.2.isOpen && p.2.queue == q && p.2.toDevice == toDevice).map (·.1)

/-- Grant the free room of the ring to a host-to-device stream (R60): what is free and not granted yet goes out as credit in a
stream ack. -/
def State.grantStream (s : State) (i : Nat) : State :=
  let x := s.stream i
  let g := min 65535 ((s.queue x.queue).room - x.credit)
  if !x.isOpen ∨ !x.toDevice ∨ s.reg (O.Q_STATE x.queue) ≠ 1 ∨ g = 0 then s
  else (s.setStream i { x with credit := x.credit + g }).sendAck x.slot i .okay g (x.next % 2 ^ 32)

/-- After FILL rose, the stream that consumes the queue sends; after it fell, the one that produces is granted credit. -/
def State.queueMoved (s : State) (q : Nat) : State :=
  let s1 := match s.streamOn q false with
    | some i => s.pumpStream i ((s.queue q).size / 43 + 2)
    | none => s
  match s1.streamOn q true with
  | some i => s1.grantStream i
  | none => s1

/-! ### Offers (R231, R232) -/

/-- The producers of the device; a reservation holds the kind and the unit in one number. -/
inductive Producer where
  | other | engine | fail | repair | trigger | yard | stream | fabric
  deriving DecidableEq, Repr

def Producer.num : Producer → Nat
  | .other => 0
  | .engine => 1
  | .fail => 2
  | .repair => 3
  | .trigger => 4
  | .yard => 5
  | .stream => 6
  | .fabric => 7

/-- A producer's kind and unit as one number; the unit of a fail-capture record is the unit plus 4 times the record's number,
that of a trigger record the trigger plus 16 times the edges beyond COALESCED. -/
def Producer.who (p : Producer) (unit : Nat) : Nat := p.num + 8 * unit

/-- Fail bits that a fail record stands for (R222). -/
def recordFails (g : List Byte) : Nat :=
  let pop := fun v => (List.range 8).countP fun b => v.testBit b
  pop (byteAt g 26) * pop (byteAt g 25) * fieldLE g 28 4

/-- The status of an offer comes to its port, which gives them back in offer order (R303): a refused offer is the newest one, any other the oldest in flight. -/
def QPort.answer (p : QPort) (st : Status) : QPort :=
  { p with
    offers :=
      if st = .refused then p.offers.dropLast ++ [some st]
      else
        match p.offers.findIdx? (·.isNone) with
        | some i => p.offers.set i (some st)
        | none => p.offers }

/-- An offer of a producer completes with a status: its own counters and ledger terms (R96, R160, R225, R245, R303). -/
def State.offerDone (s : State) (who : Nat) (g : List Byte) (st : Status) : State :=
  let u := who / 8
  match who % 8 with
  | 1 =>
    if st = .okay then s
    else (s.ledMove 0x106C 1 2 1).setFlag (O.ENG_EVT_DROPPED u) 0 (O.ENG_EVT_DROPPED_COUNT u) 1
  | 2 =>
    let u := u % 4
    if st = .okay then (s.ledMove 0x1052 3 1 (recordFails g)).bump (O.FC_RECORDS u) 1
    else
      let s1 := ((s.ledMove 0x1052 3 2 (recordFails g)).bump (O.FC_DROP_QUEUE u) 1).setFlag (O.FC_DROPPED u) 0 (O.FC_DROPPED_COUNT u) 1
      { s1 with fcs := Tbl.set {} s1.fcs u { Tbl.get {} s1.fcs u with gap := true } }
  | 3 => s.setReg (O.RU_REPORT_STATUS u) st.code
  | 4 =>
    let n := 1 + fieldLE g 22 2 + u / 16
    if st = .okay then s.ledMove 0x1046 3 1 n
    else (s.ledMove 0x1046 3 2 n).setFlag (O.TRIG_DROPPED (u % 16)) 0 (O.TRIG_DROPPED_COUNT (u % 16)) 1
  | 5 => if g = [] then s.ledMove 0x1062 2 3 1 else s
  | 7 =>
    let s1 := if st = .okay then s else s.bump (O.FP_QP_NOT_OK (u / 2)) 1
    { s1 with qports := Tbl.set {} s1.qports u ((Tbl.get ({} : QPort) s1.qports u).answer st) }
  | _ => s

/-- Whether an offer of n granules is accepted: the queue is ENABLED and has the room (R231). -/
def State.accepts (s : State) (q n : Nat) : Bool := s.reg (O.Q_STATE q) == 1 && decide (n ≤ (s.queue q).room)

/-- Reserve the next granule of a ring (R231, step 1); `gran` is empty while a credit holds the place. -/
def State.reserve (s : State) (q who : Nat) (g : List Byte) : State :=
  let c := s.queue q
  (s.setQueue q { c with resvs := c.resvs ++ [⟨c.nextResv, g, who, false, (advance c.size c.prod c.prodPh c.resvs.length).1⟩], nextResv := c.nextResv + 1 }).ledMove 0x1051 1 2 1

/-- A refused offer: FULL, and the producer's own account (R231). -/
def State.refuseOffer (s : State) (q who : Nat) (g : List Byte) : State :=
  (((s.ledAdd 0x1050 0 1).ledAdd 0x1050 3 1).queueEvent q 2).offerDone who g .refused

/-- A ring write fails (R232): the queue faults, and the failing and every later reservation complete with the status. -/
def State.ringFault (s : State) (q num : Nat) (st : Status) : State :=
  let c := s.queue q
  let lost := c.resvs.filter fun r => decide (num ≤ r.num)
  let s1 := s.setQueue q { c with resvs := c.resvs.filter fun r => decide (r.num < num) }
  let s2 := (((s1.ledMove 0x1051 2 1 lost.length).ledMove 0x1050 2 4 (lost.countP fun r => r.gran ≠ [])).queueEvent q 4).setReg
    (O.Q_FAULT_STATUS q) st.code
  lost.foldl (fun (s : State) r => s.offerDone r.who r.gran st) (s2.setReg (O.Q_STATE q) 3)

/-- A producer or a consumer reads a descriptor in both copies of the queue table (*Table 14.1*): an upset is corrected, a copy with a
double-bit error repaired from the other, and with both copies bad the queue is FAULTED. -/
def State.descRead (s : State) (q : Nat) : State :=
  let s1 := [0, 1].foldl (fun (s : State) c => if s.badWord 5 c q then s.sramBad 5 else s.sramRead 5 c q 1) s
  if !(s.badWord 5 0 q && s.badWord 5 1 q) then (s1.setBad 5 0 q 1 false).setBad 5 1 q 1 false
  else if s1.reg (O.Q_STATE q) = 1 ∨ s1.reg (O.Q_STATE q) = 2 then s1.ringFault q 0 .poisoned
  else s1

/-- A hardware producer offers one granule (R231). -/
def State.offer (s : State) (q who : Nat) (g : List Byte) : State :=
  let s1 := s.descRead q
  if s1.accepts q 1 then ((s1.reserve q who g).ledAdd 0x1050 0 1).ledAdd 0x1050 2 1
  else s1.refuseOffer q who g

/-- PRODUCER_OFFER: an offer reaches the queue table. -/
def execProducerOffer (t : Nat) (q : Fin 32768) (gran : List Byte) (s : State) : Host.Outcome State Fault Refusal :=
  let s1 := s.tickTo t
  let s2 := s1.offer q.val 0 gran
  .next { s2 with reply := ⟨if s1.accepts q.val 1 then .okay else .refused, []⟩ }

/-- Commit n reserved granules that head the ring (R231, step 3). -/
def State.commitGranules (s : State) (q n : Nat) : State :=
  let c := s.queue q
  ((s.setQueue q { c.advProd n with resvs := c.resvs.drop n }).ledMove 0x1051 2 3 n).bump (O.Q_ENQUEUED q) n

/-- Commit every reservation at the head whose ring write has completed, in order, then evaluate the watermarks (R231,
R234). -/
def State.commitHead (s : State) (q : Nat) : State :=
  let c := s.queue q
  let done := c.resvs.takeWhile (·.written)
  let s1 := s.commitGranules q done.length
  let s2 := done.foldl (fun (s : State) r => s.offerDone r.who r.gran .okay) s1
  if done.length = 0 then s2 else (s2.watermarks q c.fill).queueMoved q

/-- RING_WRITE_COMPLETE: the ring write of reservation `num` completes (R231, R232). -/
def execRingWriteComplete (t : Nat) (q : Fin 32768) (num : Nat) (s : State) : Host.Outcome State Fault Refusal :=
  let s1 := s.tickTo t
  let c := s1.queue q.val
  .next
    (match c.resvs.find? (fun r => r.num == num) with
     | none => s1
     | some r =>
       if r.written ∨ r.gran = [] then s1
       else
         match s1.ringWrite c r.place r.gran with
         | (none, s2) => s2
         | (some .okay, s2) =>
           let d := s2.queue q.val
           (s2.setQueue q.val { d with resvs := d.resvs.map fun x => if x.num = num then { x with written := true } else x }).commitHead
             q.val
         | (some st, s2) => s2.ringFault q.val num st)

/-! ### Consumers -/

/-- A consumer advances past n committed granules (R237, step 3). -/
def State.consume (s : State) (q n : Nat) : State :=
  let s1 := s.descRead q
  let c := s1.queue q
  ((((s1.setQueue q (c.advCons n)).ledMove 0x1051 3 1 n).ledMove 0x1050 2 1 n).bump (O.Q_CONSUMED q) n).watermarks q c.fill

/-! ### Objects of a queue -/

/-- What makes a DESC commit REFUSED (R228). -/
def State.descRefused (s : State) (q : Nat) (img : List Byte) : Bool :=
  let v := leNat img
  let size := bits v 66 43
  img.length != 16 || s.reg (O.Q_STATE q) != 0 || decide (size < 16) ||
    (if v.testBit 126 then decide (bits v 14 0 * 32 + size * 32 > feedBytes) else decide (bits v 42 35 > 0x3F)) ||
    (decide (1 ≤ bits v 122 120) && decide (bits v 122 120 ≤ 4)) || bits v 122 120 == 6 || bits v 119 117 == 6 ||
    decide (size < s.reg (O.Q_WM_HIGH q)) || decide (size ≤ s.reg (O.Q_WM_LOW q))

/-- The owner of DESC (R228). -/
def ownDesc (q : Nat) : ImgOwner := unscheduled fun img s =>
  let v := leNat img
  if s.descRefused q img then (.refused, s)
  else
    (.okay, s.setQueue q
      { s.queue q with
        base := if v.testBit 126 then bits v 18 0 else bits v 42 0, size := bits v 66 43, loc := v.testBit 126,
        -- the kind of an open stream reads 6 until it closes (R229)
        pkind := if (s.streamOn q true).isSome then 6 else bits v 119 117, ckind := if (s.streamOn q false).isSome then 6 else bits v 122 120, prod := 0, cons := 0, prodPh := false, consPh := false })

/-- DESC_COMMIT. -/
def execDescCommit (t : Nat) (r : Requester) (q : Fin 32768) (crc tt : Nat) (s : State) : Host.Outcome State Fault Refusal :=
  .next ((s.tickTo t).commitObj r (O.Q_DESC q.val) crc tt (ownDesc q.val))

/-- The owner of ENABLE (R230, R239). -/
def ownEnable (q : Nat) : Owner := fun v s =>
  let st := s.reg (O.Q_STATE q)
  let n := (s.queue q).size
  if v = 1 then
    if st = 0 then (.okay, (((s.setReg (O.Q_STATE q) 1).setReg (O.Q_ENABLE q) 1).ledAdd 0x1051 0 n).ledAdd 0x1051 1 n |>.queueMoved q)
    else if st = 1 then (.okay, s)
    else (.refused, s)
  else if st = 1 ∨ st = 3 then (.okay, (s.setReg (O.Q_STATE q) 2).setReg (O.Q_ENABLE q) 0)
  else (.okay, s)

/-- ENABLE. -/
def execEnable (t : Nat) (r : Requester) (q : Fin 32768) (v : Bool) (s : State) : Host.Outcome State Fault Refusal :=
  .next ((s.tickTo t).writeObj r (O.Q_ENABLE q.val) (b2n v) (ownEnable q.val))

/-- DRAIN_COMPLETE: a DRAINING queue with FILL 0 and no reservation in flight enters DISABLED (R230, R239). -/
def execDrainComplete (t : Nat) (q : Fin 32768) (s : State) : Host.Outcome State Fault Refusal :=
  let s1 := s.tickTo t
  let c := s1.queue q.val
  .next
    (if s1.reg (O.Q_STATE q.val) = 2 ∧ c.fill = 0 ∧ c.resvs = [] then
      ((s1.setReg (O.Q_STATE q.val) 0).ledSub 0x1051 0 c.size).ledSub 0x1051 1 c.size
     else s1)

/-- Whether a doorbell is performed at all: the kind is 7 (R233); the path is checked with the charge. -/
def ownProdDoorbell (q : Nat) : Owner := fun n s =>
  let c := s.queue q
  if c.pkind ≠ 7 then (.denied, s)
  else if s.reg (O.Q_STATE q) ≠ 1 ∨ n > c.size - c.fill then (.refused, s)
  else
    (.okay, ((((((s.setQueue q (c.advProd n)).ledMove 0x1051 1 3 n).ledAdd 0x1050 0 n).ledAdd 0x1050 2 n).bump (O.Q_ENQUEUED q)
      n).watermarks q c.fill).queueMoved q)

/-- PROD_DOORBELL. -/
def execProdDoorbell (t : Nat) (r : Requester) (q : Fin 32768) (n : Nat) (s : State) : Host.Outcome State Fault Refusal :=
  .next ((s.tickTo t).writeObj r (O.Q_PROD_DOORBELL q.val) n (ownProdDoorbell q.val))

/-- The owner of CONS_DOORBELL (R233). -/
def ownConsDoorbell (q : Nat) : Owner := fun n s =>
  let c := s.queue q
  if c.ckind ≠ 7 then (.denied, s)
  else if n > c.fill then (.refused, s)
  else (.okay, (s.consume q n).queueMoved q)

/-- CONS_DOORBELL. -/
def execConsDoorbell (t : Nat) (r : Requester) (q : Fin 32768) (n : Nat) (s : State) : Host.Outcome State Fault Refusal :=
  .next ((s.tickTo t).writeObj r (O.Q_CONS_DOORBELL q.val) n (ownConsDoorbell q.val))

/-- SIZE as the watermark checks use it: the largest SIZE while no DESC has been committed (R234). -/
def State.markSize (s : State) (q : Nat) : Nat := if (s.queue q).size = 0 then 16777215 else (s.queue q).size

/-- The owner of WM_HIGH (R234). -/
def ownWmHigh (q : Nat) : Owner := fun v s => if v > s.markSize q then (.refused, s) else (.okay, s.setReg (O.Q_WM_HIGH q) v)

/-- The owner of WM_LOW (R234). -/
def ownWmLow (q : Nat) : Owner := fun v s => if v ≥ s.markSize q then (.refused, s) else (.okay, s.setReg (O.Q_WM_LOW q) v)

/-- The owner of DEADLINE_ARM (R235). -/
def ownDeadlineArm (q : Nat) : Owner := arming (O.Q_DEADLINE_AT q) true fun s =>
  if (s.sched .deadline q).isSome then (.busy, s) else s.armAction .deadline q (s.reg (O.Q_DEADLINE_AT q)) 0

/-- DEADLINE_ARM. -/
def execDeadlineArm (t : Nat) (r : Requester) (q : Fin 32768) (v : Bool) (s : State) : Host.Outcome State Fault Refusal :=
  .next ((s.tickTo t).writeObj r (O.Q_DEADLINE_ARM q.val) (b2n v) (ownDeadlineArm q.val))

/-- The owner of DEADLINE_CANCEL (R87). -/
def ownDeadlineCancel (q : Nat) : Owner := command fun s => s.cancelAction .deadline q

/-- DEADLINE_CANCEL. -/
def execDeadlineCancel (t : Nat) (r : Requester) (q : Fin 32768) (v : Bool) (s : State) : Host.Outcome State Fault Refusal :=
  .next ((s.tickTo t).writeObj r (O.Q_DEADLINE_CANCEL q.val) (b2n v) (ownDeadlineCancel q.val))

/-- The owner of FLUSH (R236). -/
def ownQueueFlush (q : Nat) : Owner := command fun s =>
  let c := s.queue q
  let st := s.reg (O.Q_STATE q)
  if st ≠ 2 ∧ st ≠ 3 then (.refused, s)
  else
    (.okay, (((((s.setQueue q { c with cons := c.prod, consPh := c.prodPh }).ledMove 0x1051 3 1 c.fill).ledMove 0x1050 2 5 c.fill).bump
      (O.Q_FLUSHED q) c.fill).watermarks q c.fill).queueMoved q)

/-- QUEUE_FLUSH. -/
def execQueueFlush (t : Nat) (r : Requester) (q : Fin 32768) (v : Bool) (s : State) : Host.Outcome State Fault Refusal :=
  .next ((s.tickTo t).writeObj r (O.Q_FLUSH q.val) (b2n v) (ownQueueFlush q.val))

/-- Whether a fabric consumer port is bound to a queue (R304). -/
def State.fabricConsumes (s : State) (q : Nat) : Bool :=
  (List.range 4).any fun k => s.reg (O.FP_QC0 k) == q || s.reg (O.FP_QC1 k) == q

/-- Entry v of a VC_CFG image (*Table 9.12*): TX_QUEUE, RX_QUEUE, CREDIT_MAX, FLAGS. -/
def vcEntry (img : List Byte) (v : Nat) : Nat × Nat × Nat × Nat :=
  (fieldLE img (8 * v) 2, fieldLE img (8 * v + 2) 2, byteAt img (8 * v + 4), byteAt img (8 * v + 5))

/-- Whether an enabled virtual channel names a queue as its TX_QUEUE. -/
def State.yardConsumes (s : State) (q : Nat) : Bool :=
  (List.range 4).any fun p => (List.range 8).any fun v =>
    let e := vcEntry (s.image (O.YARD_VC_CFG p)) v
    e.2.2.2.testBit 0 && e.1 == q

/-- A queue as its objects read it: FILL, PROD and CONS. -/
def Queue.ptr (idx : Nat) (ph : Bool) : Nat := idx + b2n ph * 2 ^ 24

end Sys2Proof.Machine
end

