-- ==== Sys2Proof/Machine/FailCapture.lean ====
section
/-! DEFINITION. Sites (R218, R219) and the fail-capture units (R220 to R226), with the queue deadlines that flush them (R235). -/

namespace Sys2Proof.Machine

/-- Number of bits set among the low n of a number. -/
def popCount (n v : Nat) : Nat := (List.range n).countP fun b => v.testBit b

/-! ### Sites -/

/-- The entry of a site in SITES (*Table 8.1*). -/
def State.siteEntry (s : State) (site : Nat) : Nat := fieldLE (s.image O.SITES) (4 * site) 4

/-- The entry that applies to a strobe of a programmed instant: that of the table in force in its word clock (R218). -/
def State.siteEntryAt (s : State) (site inst : Nat) : Nat := fieldLE (s.imageAt O.SITES (inst / Config.wordUnits)) (4 * site) 4

/-- Apply a site table from word clock w on. -/
def State.applySites (s : State) (w : Nat) (img : List Byte) : State := s.swapImage O.SITES w img

/-- The owner of SITES (R218): length exactly 4,096; schedulable at a word-clock boundary. -/
def ownSites : ImgOwner := scheduled fun img tt s =>
  if img.length ≠ 4096 then (.refused, s)
  else if tt = 0 then (.okay, s.applySites s.nextWc img)
  else if (s.sched .sites 0).isSome then (.busy, s)
  else
    let (st, s1) := s.armAction .sites 0 tt 0
    (st, if st = .okay then { s1 with staged := Tbl.set [] s1.staged O.SITES img } else s1)

/-- SITES_COMMIT: a commit of the site table, or its effect at the instant of a scheduled one. -/
def execSitesCommit (t : Nat) (w : CommitStep) (s : State) : Host.Outcome State Fault Refusal :=
  let s1 := s.tickTo t
  .next
    (match w with
     | .commit r crc tt => s1.commitObj r O.SITES crc tt ownSites
     | .effect =>
       match s1.sched .sites 0 with
       | none => s1
       | some a =>
         if s1.due .sites 0 a then
           let img := Tbl.get [] s1.staged O.SITES
           ({ s1.endAction .sites 0 1 with staged := Tbl.set [] s1.staged O.SITES [] }).applySites (s1.effectAt .sites 0 a / Config.wordUnits) img
         else s1)

/-- Count a fail bit of a site (R219). -/
def State.countSite (s : State) (site : Nat) : State :=
  { s with siteFails := Tbl.set 0 s.siteFails site ((Tbl.get 0 s.siteFails site + 1) % 2 ^ 64) }

/-- SITE_FAILS as it reads (R219). -/
def State.siteFailsImage (s : State) : List Byte := (List.range 1024).flatMap fun i => leBytes 8 (Tbl.get 0 s.siteFails i)

/-- The owner of SITE_FAILS_CLEAR (R219). -/
def ownSiteFailsClear : Owner := command fun s => (.okay, { s with siteFails := [] })

/-- SITE_FAILS_CLEAR. -/
def execSiteFailsClear (t : Nat) (r : Requester) (v : Bool) (s : State) : Host.Outcome State Fault Refusal :=
  .next ((s.tickTo t).writeObj r O.SITE_FAILS_CLEAR (b2n v) ownSiteFailsClear)

/-! ### Channel capture entries (R220) -/

/-- The capture entry of a channel (*Table 8.2*). -/
def State.chanCfg (s : State) (ch : Nat) : Nat := fieldLE (s.image (O.FC_CHAN_CFG (ch / 36))) (2 * (ch % 36)) 2

def cfgCapture (v : Nat) : Bool := v.testBit 0
def cfgGrouped (v : Nat) : Bool := v.testBit 1
def cfgGroup (v : Nat) : Nat := bits v 5 2
def cfgMember (v : Nat) : Nat := bits v 8 6
def cfgIo (v : Nat) : Nat := bits v 12 9
def cfgRepair (v : Nat) : Bool := v.testBit 13

/-- The source of a channel's records in its unit: group g, or 16 plus the channel's place (R221). -/
def State.fcSource (s : State) (ch : Nat) : Nat :=
  let v := s.chanCfg ch
  if cfgGrouped v then cfgGroup v else 16 + ch % 36

/-- The channel at MEMBER 0 of a group of a unit (*Table 8.3*). -/
def State.memberZero (s : State) (q g : Nat) : Nat :=
  ((List.range 36).find? fun i =>
    let v := s.chanCfg (36 * q + i)
    cfgGrouped v && cfgGroup v == g && cfgMember v == 0).getD 0 + 36 * q

/-- Whether a channel is PARKED, as LATCHED counts (R126). -/
def State.parked (s : State) (ch : Nat) : Bool := s.reg (O.CH_STATE ch) == 0 || s.reg (O.CH_STATE ch) == 4

/-- What makes a CHAN_CFG commit REFUSED (R220). -/
def cfgRefused (img : List Byte) : Bool :=
  let es := (List.range 36).map fun i => fieldLE img (2 * i) 2
  let gs := es.filter cfgGrouped
  img.length != 72 || es.any (fun v => decide (v ≥ 2 ^ 14)) ||
    !(gs.map fun v => bits v 8 2).Nodup ||
    (List.range 16).any fun g => gs.any (fun v => cfgGroup v == g) && !gs.any (fun v => cfgGroup v == g && cfgMember v == 0)

/-- The owner of CHAN_CFG of a unit (R220): the channels whose entries change must be PARKED. -/
def ownChanCfg (q : Nat) : ImgOwner := unscheduled fun img s =>
  if cfgRefused img then (.refused, s)
  else if (List.range 36).any fun i => fieldLE img (2 * i) 2 != s.chanCfg (36 * q + i) && !s.parked (36 * q + i) then (.refused, s)
  else (.okay, s.setImage (O.FC_CHAN_CFG q) img)

/-- CHAN_CFG_COMMIT. -/
def execChanCfgCommit (t : Nat) (r : Requester) (q : Fin 4) (crc tt : Nat) (s : State) : Host.Outcome State Fault Refusal :=
  .next ((s.tickTo t).commitObj r (O.FC_CHAN_CFG q.val) crc tt (ownChanCfg q.val))

/-- The owner of FAIL_QUEUE: 0 to 32,767, or 0xFFFF. -/
def ownQueueNo (o : Nat) : Owner := fun v s => if v < 32768 ∨ v = 0xFFFF then (.okay, s.setReg o v) else (.refused, s)

/-! ### Records (R222 to R225) -/

def State.fc (s : State) (q : Nat) : FcUnit := Tbl.get {} s.fcs q

/-- Replace a unit, and take OPEN, BUF_LEVEL and BUF_MAX along. -/
def State.setFc (s : State) (q : Nat) (u : FcUnit) : State :=
  ((({ s with fcs := Tbl.set {} s.fcs q u }).setReg (O.FC_OPEN q) (u.word.length + u.run.length)).setReg (O.FC_BUF_LEVEL q)
    u.buffer.length).raiseMax (O.FC_BUF_MAX q) u.buffer.length

/-- The granule of a record (*Table 8.3*). -/
def FailRec.granule (r : FailRec) (gap : Bool) : List Byte :=
  leBytes 10 r.tt ++ leBytes 6 r.p ++ leBytes 6 r.a ++ leBytes 2 r.siteGrp ++ leBytes 1 r.channel ++ leBytes 1 r.slots ++
    leBytes 1 r.chmask ++ leBytes 1 (setBit r.flags 3 gap) ++ leBytes 4 r.count

/-- Fail bits a record stands for (R222). -/
def FailRec.bits (r : FailRec) : Nat := popCount 8 r.chmask * popCount 8 r.slots * r.count

/-- The record that a failing vector opens (*Table 8.3*). -/
def State.recordOf (s : State) (v : FailVec) : FailRec :=
  let c := s.chanCfg v.ch
  let q := v.ch / 36
  { source := s.fcSource v.ch, tt := v.tt, p := v.p, a := v.a,
    siteGrp := v.site % 1024 + (if cfgGrouped c then 2 ^ 15 + cfgGroup c * 2 ^ 10 else 0),
    channel := if cfgGrouped c then s.memberZero q (cfgGroup c) else v.ch,
    slots := v.slots, chmask := if cfgGrouped c then 2 ^ cfgMember c else 1, flags := v.flags % 8, count := 1,
    start := v.start, inst := v.inst, openAt := max s.now v.doneAt }

/-- Put a record into a buffer: the places keep the order in which records closed, and the records of one source take its places in the
order of their TT (R225). -/
def insertRec (r : FailRec) (n : Nat) : List (Nat × FailRec) → List (Nat × FailRec)
  | [] => [(n, r)]
  | (m, x) :: rest => if x.source = r.source ∧ r.inst < x.inst then (m, r) :: insertRec x n rest else (m, x) :: insertRec r n rest

/-- A closed record enters the output buffer, or is dropped when it is full (R225). -/
def State.fcOutput (s : State) (q : Nat) (r : FailRec) : State :=
  let u := s.fc q
  if u.buffer.length < 512 then s.setFc q { u with buffer := insertRec r u.nextRec u.buffer, nextRec := u.nextRec + 1 }
  else
    (((s.setFc q { u with gap := true }).ledMove 0x1052 3 2 r.bits).bump (O.FC_DROP_BUFFER q) 1).setFlag (O.FC_DROPPED q) 0
      (O.FC_DROPPED_COUNT q) 1

/-- Close the run record of a source. -/
def State.closeRun (s : State) (q src : Nat) : State :=
  match Tbl.get none (s.fc q).run src with
  | none => s
  | some r => (s.setFc q { s.fc q with run := Tbl.set none (s.fc q).run src none }).fcOutput q r

/-- Whether two records are equal but for TT, GAP and COUNT (R224). -/
def FailRec.same (x y : FailRec) : Bool :=
  x.p == y.p && x.a == y.a && x.siteGrp == y.siteGrp && x.channel == y.channel && x.slots == y.slots && x.chmask == y.chmask &&
    x.flags == y.flags

/-- A closed word record goes to the run record of its source, or to the output (R224). -/
def State.runMerge (s : State) (q : Nat) (r : FailRec) : State :=
  if !s.isSet (O.FC_RUN_EN q) then s.fcOutput q r
  else
    let put := fun (s : State) (x : FailRec) => s.setFc q { s.fc q with run := Tbl.set none (s.fc q).run r.source (some x) }
    match Tbl.get none (s.fc q).run r.source with
    | none => put s { r with openAt := max s.now r.openAt }
    | some x =>
      if x.same r then
        let s1 := put s { x with count := x.count + 1, openAt := max s.now r.openAt }
        if x.count + 1 ≥ s.reg (O.FC_RUN_MAX q) then s1.closeRun q r.source else s1
      else put (s.closeRun q r.source) { r with openAt := max s.now r.openAt }

/-- Whether a vector joins an open word record (R223). -/
def FailRec.joins (r : FailRec) (x : FailRec) : Bool :=
  r.start == x.start && r.siteGrp == x.siteGrp && r.p == x.p && r.a == x.a && r.slots == x.slots && r.flags == x.flags &&
    r.chmask &&& x.chmask == 0

/-- Whether a strobe of a vector lies at or after the S of a deadline of the unit's queue that has not fired (R235). -/
def State.afterDeadline (s : State) (q : Nat) (v : FailVec) : Bool :=
  match s.sched .deadline (s.reg (O.FC_FAIL_QUEUE q)) with
  | none => false
  | some a => decide (s.schedInstant a ≤ v.inst)

/-- Whether a record that opened is still open in the word clock in which another one's vector is complete (R223). -/
def FailRec.openFor (x r : FailRec) (window : Nat) : Bool := decide (r.openAt / Config.wordUnits < x.openAt / Config.wordUnits + window)

/-- Present a complete failing vector to its unit (R223). -/
def State.presentFail (s : State) (v : FailVec) : State :=
  let q := v.ch / 36
  let u := s.fc q
  let src := s.fcSource v.ch
  let r := s.recordOf v
  let hold := fun (s : State) => s.setFc q { u with held := Tbl.set [] u.held src (Tbl.get [] u.held src ++ [v]) }
  if s.afterDeadline q v then hold s
  else if src ≥ 16 then s.runMerge q r
  else
    match Tbl.get none u.word src with
    | none => s.setFc q { u with word := Tbl.set none u.word src (some r) }
    | some x =>
      if x.joins r && x.openFor r (s.reg (O.FC_MERGE_WINDOW q)) then
        let first := decide (x.inst ≤ r.inst)
        s.setFc q { u with
          word := Tbl.set none u.word src
            (some { x with chmask := x.chmask + r.chmask, tt := if first then x.tt else r.tt, inst := min x.inst r.inst }) }
      else hold s

/-- Present the held vectors of a source again, once its record has closed. -/
def State.releaseHeld (s : State) (q src : Nat) : State :=
  let u := s.fc q
  let vs := Tbl.get [] u.held src
  vs.foldl State.presentFail (s.setFc q { u with held := Tbl.set [] u.held src [] })

/-- Close the word record of a source; its run closes too when a channel of the source has parked (R224). -/
def State.closeWord (s : State) (q src : Nat) : State :=
  match Tbl.get none (s.fc q).word src with
  | none => s
  | some r =>
    let s1 := ((s.setFc q { s.fc q with word := Tbl.set none (s.fc q).word src none }).runMerge q r).releaseHeld q src
    if (s1.fc q).parkClose.contains src ∧ Tbl.get none (s1.fc q).word src = none then
      (s1.setFc q { s1.fc q with parkClose := (s1.fc q).parkClose.filter (· ≠ src) }).closeRun q src
    else s1

/-- WORD_RECORD_CLOSE: a group's word record closes MERGE_WINDOW word clocks after it opened (R223). -/
def execWordRecordClose (t : Nat) (q : Fin 4) (g : Fin 16) (s : State) : Host.Outcome State Fault Refusal :=
  let s1 := s.tickTo t
  .next
    (match Tbl.get none (s1.fc q.val).word g.val with
     | none => s1
     | some r =>
       if r.openAt / Config.wordUnits + s1.reg (O.FC_MERGE_WINDOW q.val) ≤ s1.now / Config.wordUnits then s1.closeWord q.val g.val
       else s1)

/-- RUN_IDLE_EXPIRY: RUN_IDLE word clocks pass without an absorption (R224). -/
def execRunIdleExpiry (t : Nat) (q : Fin 4) (src : Fin 52) (s : State) : Host.Outcome State Fault Refusal :=
  let s1 := s.tickTo t
  .next
    (match Tbl.get none (s1.fc q.val).run src.val with
     | none => s1
     | some r =>
       if r.openAt / Config.wordUnits + s1.reg (O.FC_RUN_IDLE q.val) ≤ s1.now / Config.wordUnits then s1.closeRun q.val src.val
       else s1)

/-- The failing vectors of a unit's channels that are not complete are presented with the slots judged so far (R223). -/
def State.presentOpen (s : State) (q : Nat) : State :=
  (List.range 36).foldl
    (fun (s : State) i =>
      let c := Tbl.get ({} : Chan) s.chans (36 * q + i)
      if c.fails = [] then s
      else
        c.fails.foldl State.presentFail { s with chans := Tbl.set {} s.chans (36 * q + i) { c with fails := [] } }) s

/-- Close the word records of a source until none is open; the second argument bounds the rounds. -/
def State.closeWords (s : State) (q src : Nat) : Nat → State
  | 0 => s
  | n + 1 =>
    match Tbl.get none (s.fc q).word src with
    | none => s
    | some _ => (s.closeWord q src).closeWords q src n

/-- Close every open record of a unit (R223, R224). -/
def State.flushUnit (s : State) (q : Nat) : State :=
  let s1 := s.presentOpen q
  let s2 := (List.range 16).foldl (fun (s : State) g => s.closeWords q g ((Tbl.get [] (s.fc q).held g).length + 1)) s1
  (List.range 52).foldl (fun (s : State) k => s.closeRun q k) s2

/-- The owner of FLUSH of a fail-capture unit. -/
def ownFcFlush (q : Nat) : Owner := command fun s => (.okay, s.flushUnit q)

/-- FC_FLUSH. -/
def execFcFlush (t : Nat) (r : Requester) (q : Fin 4) (v : Bool) (s : State) : Host.Outcome State Fault Refusal :=
  .next ((s.tickTo t).writeObj r (O.FC_FLUSH q.val) (b2n v) (ownFcFlush q.val))

/-- The owner of RUN_EN (R224): a write of 0 closes every open run record. -/
def ownRunEn (q : Nat) : Owner := fun v s =>
  let s1 := s.setReg (O.FC_RUN_EN q) v
  (.okay, if v = 0 then (List.range 52).foldl (fun (s : State) k => s.closeRun q k) s1 else s1)

/-- RUN_EN_WRITE. -/
def execRunEnWrite (t : Nat) (r : Requester) (q : Fin 4) (v : Bool) (s : State) : Host.Outcome State Fault Refusal :=
  .next ((s.tickTo t).writeObj r (O.FC_RUN_EN q.val) (b2n v) (ownRunEn q.val))

/-- A channel enters PARKED (R224): its source's run closes, after the word record that is still open has joined it. -/
def State.parkCapture (s : State) (ch : Nat) : State :=
  let q := ch / 36
  let src := s.fcSource ch
  if Tbl.get none (s.fc q).word src = none ∧ Tbl.get [] (s.fc q).held src = [] then s.closeRun q src
  else s.setFc q { s.fc q with parkClose := src :: (s.fc q).parkClose.filter (· ≠ src) }

/-- Whether something of a record's source may still give a record of an earlier TT: a strobe of one of its channels that is carried, a
failing vector that is not presented, or an open record (R225). -/
def State.earlierOpen (s : State) (q : Nat) (r : FailRec) : Bool :=
  let u := s.fc q
  ((Tbl.get [] u.held r.source).any fun v => decide (v.inst < r.inst)) ||
    ([Tbl.get none u.word r.source, Tbl.get none u.run r.source].any fun x => x.any fun y => decide (y.inst < r.inst)) ||
    (List.range 36).any fun i =>
      let c := Tbl.get ({} : Chan) s.chans (36 * q + i)
      s.fcSource (36 * q + i) == r.source &&
        ((c.strobes.any fun y => decide (y.prog < r.inst)) || c.fails.any fun v => decide (v.inst < r.inst))

/-- RECORD_OFFER: the oldest record of the output buffer is offered to FAIL_QUEUE, one in a word clock, once nothing of its source can
still come before it (R225). -/
def execRecordOffer (t : Nat) (q : Fin 4) (s : State) : Host.Outcome State Fault Refusal :=
  let s1 := s.tickTo t
  let u := s1.fc q.val
  let fq := s1.reg (O.FC_FAIL_QUEUE q.val)
  .next
    (match u.buffer with
     | [] => s1
     | (n, r) :: rest =>
       let g := r.granule u.gap
       let s2 := s1.setFc q.val { u with buffer := rest, offerAt := s1.wc + 1 }
       let who := Producer.fail.who (q.val + 4 * n)
       if s1.earlierOpen q.val r ∨ u.offerAt = s1.wc + 1 then s1
       else if fq ≥ 32768 then s2.offerDone who g .decode
       else if s2.accepts fq 1 then (s2.setFc q.val { s2.fc q.val with gap := false }).offer fq who g
       else s2.offer fq who g)

/-- Fail bits of failing vectors. -/
def vecBits (l : List FailVec) : Nat := (l.map fun v => popCount 8 v.slots).sum

/-- What a unit that is reset holds is dropped: its open records, its held vectors and its buffer count as dropped fail bits (R226). -/
def State.dropRecords (s : State) (q : Nat) : State :=
  let u := s.fc q
  let recs := u.word.filterMap (·.2) ++ u.run.filterMap (·.2) ++ u.buffer.map (·.2)
  s.ledMove 0x1052 3 2 ((recs.map FailRec.bits).sum + (u.held.map fun p => vecBits p.2).sum)

/-- The same for the failing vectors of a channel that is reset. -/
def State.dropFails (s : State) (ch : Nat) : State := s.ledMove 0x1052 3 2 (vecBits (Tbl.get ({} : Chan) s.chans ch).fails)

/-! ### A fail bit at its unit (R221, R226) -/

/-- Whether a fail bit of a strobe of a programmed instant may form part of a record (R218, R221). -/
def State.captures (s : State) (ch site inst : Nat) : Bool :=
  cfgCapture (s.chanCfg ch) && (s.siteEntryAt site inst).testBit 3 && s.reg (O.FC_FAIL_QUEUE (ch / 36)) != 0xFFFF

/-- Count a fail bit in ledger 0x1052 and in its site; it forms part of a record or not. -/
def State.countFail (s : State) (ch site inst : Nat) : State :=
  ((s.countSite site).ledAdd 0x1052 0 1).ledAdd 0x1052 (if s.captures ch site inst then 3 else 4) 1

/-! ### Queue deadlines (R235) -/

/-- Units that feed a queue. -/
def State.feeders (s : State) (q : Nat) : List Nat := (List.range 4).filter fun u => s.reg (O.FC_FAIL_QUEUE u) == q

/-- Held vectors of a unit are presented again after its flush at a deadline. -/
def State.representHeld (s : State) (u : Nat) : State := (List.range 52).foldl (fun (s : State) k => s.releaseHeld u k) s

/-- Whether a fail bit of a strobe programmed before S may still be on its way to a unit (R235). -/
def State.failsBefore (s : State) (u S : Nat) : Bool :=
  (List.range 36).any fun i =>
    let c := Tbl.get ({} : Chan) s.chans (36 * u + i)
    (c.strobes.any fun y => decide (y.prog < S)) || c.fails.any fun v => decide (v.inst < S) && decide (s.now < v.doneAt)

/-- QUEUE_DEADLINE: at the end of the tick of S, once older fail bits have arrived, the units that feed the queue close their open
records; what lies at or after S forms new ones (R235). -/
def execQueueDeadline (t : Nat) (q : Fin 32768) (s : State) : Host.Outcome State Fault Refusal :=
  let s1 := s.tickTo t
  .next
    (match s1.sched .deadline q.val with
     | none => s1
     | some a =>
       let us := s1.feeders q.val
       if !s1.due .deadline q.val a ∨ us.any (fun u => s1.failsBefore u (s1.schedInstant a)) then s1
       else
         -- the deadline is still armed while the records close, so that vectors at or after S stay held
         let s2 := (us.foldl State.flushUnit s1).endAction .deadline q.val 1
         let waits := us.map fun u => (u, (s2.fc u).nextRec)
         (us.foldl State.representHeld s2).setQueue q.val { (us.foldl State.representHeld s2).queue q.val with
           dlWait := some waits, dlStamp := s1.ttOf (s1.schedInstant a) })

/-- Whether every record that a deadline waits for has been committed or dropped. -/
def State.deadlineMet (s : State) (q : Nat) (waits : List (Nat × Nat)) : Bool :=
  waits.all fun w =>
    (s.fc w.1).buffer.all (fun b => decide (w.2 ≤ b.1)) &&
      (s.queue q).resvs.all fun r => !(r.who % 8 == Producer.fail.num && r.who / 8 % 4 == w.1 && decide (r.who / 8 / 4 < w.2))

/-- DEADLINE: once the flushed records are committed or dropped, DEADLINE is set (R235). -/
def execDeadline (t : Nat) (q : Fin 32768) (s : State) : Host.Outcome State Fault Refusal :=
  let s1 := s.tickTo t
  .next
    (match (s1.queue q.val).dlWait with
     | none => s1
     | some waits =>
       if s1.deadlineMet q.val waits then (s1.setQueue q.val { s1.queue q.val with dlWait := none }).queueEvent q.val 3 else s1)

end Sys2Proof.Machine
end

