-- ==== Sys2Proof/Machine/Halter.lean ====
section
/-! DEFINITION. The Halter (R191 to R215): units and holdings, contributions, sticky latches, what an engine sees, the Halter
table and site masks, claims and releases at the allocator, time-divided lines, and failsafe. -/

namespace Sys2Proof.Machine

/-! ### The Halter table (R198, *Table 7.2* to *Table 7.4*) -/

/-- The settings of all lines, in the layout of the Halter table. -/
def State.haltImg (s : State) : List Byte := s.image O.HALT_TABLE

/-- The 40 bytes of line k's record. -/
def lineRec (img : List Byte) (k : Nat) : List Byte := slice (16 + 40 * k) 40 img

def recDivided (r : List Byte) : Bool := byteAt r 0 == 1
def recSticky (r : List Byte) : Bool := byteAt r 1 == 1
def recYard (r : List Byte) : Bool := (byteAt r 2).testBit 0
def recFailsafe (r : List Byte) : Bool := (byteAt r 2).testBit 1
def recPin (r : List Byte) : Bool := (byteAt r 2).testBit 2
def recYardOwner (r : List Byte) : Nat := byteAt r 3
def recOwner (r : List Byte) (u : Nat) : Nat := fieldLE r (8 + 2 * u) 2

/-- Line k's record in force; and that in force in word clock w. -/
def State.hrec (s : State) (k : Nat) : List Byte := lineRec s.haltImg k
def State.hrecAt (s : State) (k w : Nat) : List Byte := lineRec (s.imageAt O.HALT_TABLE w) k

/-- A channel's source entry for a line: COND and SLOT. -/
def srcCond (img : List Byte) (ch k : Nat) : Nat := byteAt img (336 + 8 * ch + k) % 4
def srcSlot (img : List Byte) (ch k : Nat) : Nat := bits (byteAt img (336 + 8 * ch + k)) 5 2

/-- Bit `site` of line k's site mask. -/
def haltSite (img : List Byte) (k site : Nat) : Bool := (byteAt img (1488 + 128 * k + site / 8)).testBit (site % 8)

/-- Whether a yard-enabled line is owned by another position of the yard. -/
def State.yardForeign (s : State) (r : List Byte) : Bool := recYard r && recYardOwner r != s.reg O.HALT_YARD_POS

/-! ### Units -/

def hKey (k u : Nat) : Nat := k * 16 + u
def State.hunit (s : State) (k u : Nat) : HUnit := Tbl.get {} s.hunits (hKey k u)
def State.setHunit (s : State) (k u : Nat) (x : HUnit) : State := { s with hunits := Tbl.set {} s.hunits (hKey k u) x }
def State.hline (s : State) (k : Nat) : HLine := Tbl.get {} s.hlines k
def State.setHline (s : State) (k : Nat) (x : HLine) : State := { s with hlines := Tbl.set {} s.hlines k x }

/-- Whether a unit is armed (R196). -/
def HUnit.armed (x : HUnit) : Bool := x.holding != .free

/-- The form in which engines see a unit in word clock w (R194): 0 not armed, 1 PULSE, 2 the sticky latch. -/
def HUnit.formAt (x : HUnit) (w : Nat) : Nat :=
  match x.forms.find? (fun p => decide (p.1 ≤ w)) with
  | some p => p.2
  | none => 0

/-- The form in which engines see a unit of a holding (R193, R194): a sticky latch exists only where a local engine holds it. -/
def formOf (sticky : Bool) : Holding → Nat
  | .free => 0
  | .held _ => if sticky then 2 else 1
  | .yard => 1

/-- Give a unit a holding; the engines see the form it brings from word clock w on (R194). -/
def State.holdUnitAt (s : State) (w k u : Nat) (h : Holding) : State :=
  let x := s.hunit k u
  s.setHunit k u { x with holding := h, forms := (w, formOf (recSticky (s.hrec k)) h) :: x.forms }

/-- Clear a unit's sticky latch in word clock w. -/
def State.clearStickyAt (s : State) (w k u : Nat) : State :=
  let x := s.hunit k u
  s.setHunit k u { x with clears := w :: x.clears }

/-- Both in the present word clock. -/
def State.holdUnit (s : State) (k u : Nat) (h : Holding) : State := s.holdUnitAt s.wc k u h
def State.clearSticky (s : State) (k u : Nat) : State := s.clearStickyAt s.wc k u

/-- The units a token names: all 16 of a WHOLE line, one slot of a DIVIDED one. -/
def tokenUnits (divided : Bool) (slot : Nat) : List Nat := if divided then [slot] else List.range 16

/-- The terms of a line's ledger follow the holdings (R197). -/
def State.haltLedger (s : State) (k : Nat) : State :=
  let us := (List.range 16).map fun u => (s.hunit k u).holding
  let free := us.countP (· == Holding.free)
  let yard := us.countP (· == Holding.yard)
  ((s.setReg (ledTerm (0x1048 + k) 1) free).setReg (ledTerm (0x1048 + k) 3) yard).setReg (ledTerm (0x1048 + k) 2) (16 - free - yard)

/-- Free units: they are disarmed and their sticky latches clear (R193, R196). -/
def State.freeUnits (s : State) (k : Nat) (us : List Nat) : State :=
  (us.foldl (fun (s : State) u => (s.holdUnit k u .free).clearSticky k u) s).haltLedger k

/-! ### Values -/

/-- Whether a value byte pair of the yard holds in a word clock. -/
def yardAt (l : List (Nat × Nat × Nat)) (w : Nat) : Bool :=
  match l.find? (fun p => decide (p.1 ≤ w)) with
  | some p => p.2.1 ||| p.2.2 != 0
  | none => false

/-- The last word clock up to w in which a received value vector asserted the line, plus one; 0 for none. -/
def yardLast (w : Nat) : List (Nat × Nat × Nat) → Nat
  | [] => 0
  | p :: r => if p.1 ≤ w ∧ p.2.1 ||| p.2.2 ≠ 0 then w + 1 else yardLast (min w (p.1 - 1)) r

/-- The merged value of a unit in a word clock, at the engines' inputs (R192, R212). -/
def State.mergedAt (s : State) (k u w : Nat) : Bool :=
  (s.hunit k u).asserts.contains w || (u == 0 && recYard (s.hrecAt k w) && yardAt (s.hline k).yard w)

/-- The largest entry of a list not above w, plus one; 0 for none. -/
def lastUpTo (w : Nat) (l : List Nat) : Nat := l.foldl (fun m x => if x ≤ w then max m (x + 1) else m) 0

/-- A unit's sticky latch in a word clock: an assertion in the word clock of a clear leaves it set (R193). -/
def State.stickyAt (s : State) (k u w : Nat) : Bool :=
  let x := s.hunit k u
  let up := max (lastUpTo w x.asserts) (if u = 0 ∧ recYard (s.hrec k) then yardLast w (s.hline k).yard else 0)
  decide (0 < up) && decide (max (lastUpTo w x.clears) (lastUpTo w x.marks) ≤ up)

/-- Whether a line was in failsafe in a word clock. -/
def State.failsafeAt (s : State) (k w : Nat) : Bool :=
  match (s.hline k).fails.find? (fun p => decide (p.1 ≤ w)) with
  | some p => p.2
  | none => false

/-- VIEWk of an engine (R202). -/
def State.view (s : State) (e k : Nat) : Nat := bits (Tbl.get ({} : Engine) s.engines e).views (4 * k + 3) (4 * k)

/-- The value of Hk at an engine's input in a word clock: by the table, the holding and the failsafe of that word clock (R194, R210,
R215). -/
def State.haltSeen (s : State) (e k w : Nat) : Bool :=
  let r := s.hrecAt k w
  if s.failsafeAt k w then recFailsafe r
  else
    let u := if recDivided r then s.view e k else 0
    let form := (s.hunit k u).formAt w
    if form = 0 then false
    else if form = 2 then s.stickyAt k u w
    else if recDivided r then
      let x := Tbl.get ({} : HSample) s.hsamples (e * 8 + k)
      if x.since ≤ w then x.value else x.before
    else s.mergedAt k 0 w

/-- VALUE as it reads (*Table 7.11*). -/
def State.haltValue (s : State) (k : Nat) : Nat :=
  if recDivided (s.hrec k) then
    (List.range 16).foldl (fun v u => if (s.hunit k u).slotLast then v + 2 ^ u else v) 0
  else b2n (s.mergedAt k 0 s.wc)

/-- STICKY as it reads. -/
def State.haltSticky (s : State) (k : Nat) : Nat :=
  let r := s.hrec k
  (List.range 16).foldl
    (fun v u =>
      let held := match (s.hunit k u).holding with
        | .held _ => true
        | _ => false
      let latch := if s.isSet (O.LINE_FAILSAFE_ACTIVE k) then recFailsafe r else s.stickyAt k u s.wc
      if recSticky r && held && (recDivided r || u == 0) && latch then v + 2 ^ u else v) 0

/-- HOLDERS as it reads. -/
def State.haltHolders (s : State) (k : Nat) : List Byte :=
  (List.range 16).flatMap fun u =>
    leBytes 2 (match (s.hunit k u).holding with
      | .free => 0xFFFF
      | .held e => e
      | .yard => 0xFFFE)

/-- VIEWS as it reads. -/
def State.haltViews (s : State) : List Byte :=
  (List.range 512).flatMap fun e => leBytes 4 (Tbl.get ({} : Engine) s.engines e).views

/-! ### Contributions (R192, R210) -/

/-- Count n word clocks in which a line's merged value was asserted. -/
def State.haltCount (s : State) (k n : Nat) : State := (s.bump (O.LINE_ASSERTED k) n).countEvent 4 k 0 n

/-- Record a change of a line's level in the trace (*Table 16.9*). -/
def State.haltTrace (s : State) (k : Nat) (level : Bool) : State :=
  if (s.hline k).traced = level then s
  else (s.setHline k { s.hline k with traced := level }).trace 3 k (if level then 0 else 1) (s.haltValue k)

/-- A local source asserts unit u in word clock w at the engines' inputs. -/
def State.assertUnit (s : State) (k u w : Nat) : State :=
  let x := s.hunit k u
  if x.asserts.contains w then s
  else
    let s1 := if (List.range 16).any fun v => s.mergedAt k v w then s else s.haltCount k 1
    (s1.setHunit k u { x with asserts := w :: x.asserts }).haltTrace k true

/-- Word clocks from the one in which a bit leaves its compare pipeline to the one in which its line has the value: 6 at the engines'
inputs, where R195 allows 8.0 ns, and 3 at the yard ports, where R214 allows 4.0 ns. -/
def haltDelay : Nat := 6
def yardDelay : Nat := 3

/-- A bit leaves its compare pipeline: it contributes to each line whose condition, site mask and arming in that word clock let it, and
asserts the line for exactly one word clock (R192). -/
def State.contribute (s : State) (b : HBit) : State :=
  let w := b.leave / Config.wordUnits
  (List.range 8).foldl
    (fun (s : State) k =>
      let img := s.imageAt O.HALT_TABLE w
      let r := lineRec img k
      let u := if recDivided r then srcSlot img b.ch k else 0
      if srcCond img b.ch k = (if b.fail then 1 else 2) ∧ haltSite img k b.site ∧ (s.hunit k u).formAt w ≠ 0 then
        if recDivided r then s.setHunit k u { s.hunit k u with slotIn := (b.leave + Config.nsUnits) :: (s.hunit k u).slotIn }
        else s.assertUnit k 0 (w + haltDelay)
      else s) s

/-- Every engine whose VIEW of line k names the slot of the line's last window takes its sample, where that is due by an instant
(R210). -/
def State.takeSample (s : State) (upto k : Nat) : State :=
  match (s.hline k).sample with
  | some (u, value, at_) =>
    if upto < at_ then s
    else
      (List.range 512).foldl
        (fun (s : State) e =>
          if s.view e k = u then
            let old := Tbl.get ({} : HSample) s.hsamples (e * 8 + k)
            { s with hsamples := Tbl.set {} s.hsamples (e * 8 + k) ⟨value, at_ / Config.wordUnits, old.value⟩ }
          else s) (s.setHline k { s.hline k with sample := none })
  | none => s
def State.takeSamples (s : State) (upto : Nat) : State := (List.range 8).foldl (fun (s : State) k => s.takeSample upto k) s

/-- Every bit that has left its compare pipeline by now contributes; lines that no longer assert are recorded so. -/
def State.haltPump (s : State) : State :=
  let s1 := (s.hbits.filter fun b => decide (b.leave ≤ s.now)).foldl State.contribute
    { s with hbits := s.hbits.filter fun b => decide (s.now < b.leave) }
  (List.range 8).foldl
    (fun (s : State) k =>
      if recDivided (s.hrec k) ∨ (s.hunit k 0).asserts.any (fun w => decide (s.wc ≤ w)) ∨ s.mergedAt k 0 s.wc then s else s.haltTrace k false)
    (s1.takeSamples s1.now)

/-- A strobe at ball instant b gives a fail or match bit, which leaves the compare pipeline 12 ns later. -/
def State.haltBit (s : State) (b ch site : Nat) (fail : Bool) : State :=
  { s with hbits := s.hbits ++ [⟨b + 12 * Config.nsUnits, ch, site, fail⟩] }

/-! ### Commits (R198 to R201) -/

/-- An engine state in which units stay with their holder (R200, R208): ARMED, RUNNING or HALTED. -/
def State.engineLive (s : State) (e : Nat) : Bool :=
  let st := s.reg (O.ENG_STATE e)
  st == 3 || st == 4 || st == 7

/-- What an image breaks for line k under R199. -/
def tableRefusedLine (img : List Byte) (yardPos k : Nat) : Bool :=
  let r := lineRec img k
  let owners := (List.range 16).map (recOwner r)
  let free := fun o => o == 0xFFFF
  decide (byteAt r 0 > 1) || decide (byteAt r 1 > 1) || decide (byteAt r 2 ≥ 8) || fieldLE r 4 4 != 0 ||
    (List.range 144).any (fun n => decide (byteAt img (336 + 8 * n + k) ≥ 64) || srcCond img n k == 3) ||
    !owners.all (fun o => decide (o < 512) || free o) || (!recDivided r && !(owners.drop 1).all free) ||
    (if recYard r then decide (recYardOwner r > 15) else recYardOwner r != 0xFF) ||
    (recYard r && recYardOwner r != yardPos && !owners.all free) || (recPin r && (recDivided r || decide (recOwner r 0 ≥ 512))) ||
    (recYard r && recDivided r)

/-- What makes a TABLE commit REFUSED (R199). -/
def tableRefused (img : List Byte) (yardPos : Nat) : Bool :=
  fieldLE img 0 4 != 0x48544C41 || fieldLE img 5 11 != 0 ||
    (List.range 8).any fun k => (byteAt img 4).testBit k && tableRefusedLine img yardPos k

/-- The holding that a table gives unit u of line k (R200). -/
def State.tableHolding (s : State) (r : List Byte) (u : Nat) : Holding :=
  if s.yardForeign r then .yard
  else
    let o := recOwner r (if recDivided r then u else 0)
    if o < 512 then .held o else .free

/-- Whether a table takes a unit from an engine that is ARMED, RUNNING or HALTED (R200). -/
def State.tableTakes (s : State) (img : List Byte) : Bool :=
  (List.range 8).any fun k =>
    (byteAt img 4).testBit k &&
      (List.range 16).any fun u =>
        match (s.hunit k u).holding with
        | .held e => s.engineLive e && s.tableHolding (lineRec img k) u != .held e
        | _ => false

/-- Apply a table to line k from word clock w on (R200). Clears that a MARK has under way stay under way. -/
def State.applyLine (s : State) (w : Nat) (img : List Byte) (k : Nat) : State :=
  let old := s.haltImg
  let src := (List.range 144).foldl (fun l n => splice l (336 + 8 * n + k) (slice (336 + 8 * n + k) 1 img)) old
  let new := splice (splice src (16 + 40 * k) (lineRec img k)) (1488 + 128 * k) (slice (1488 + 128 * k) 128 img)
  let s1 := (s.swapImage O.HALT_TABLE w new).setReg (O.LINE_MODE k) (b2n (recDivided (lineRec img k)))
  ((List.range 16).foldl
    (fun (s : State) u =>
      let s2 := (s.holdUnitAt w k u (s.tableHolding (lineRec img k) u)).clearStickyAt w k u
      s2.setHunit k u { s2.hunit k u with slotIn := [], slotLast := false }) s1).haltLedger k

/-- A table at its instant, from word clock w on (R200): refused as a whole, or every named line applied. -/
def State.applyTable (s : State) (w : Nat) (img : List Byte) : Status × State :=
  let s0 := s.haltPump
  if s0.tableTakes img then (.refused, s0.bump O.HALT_TABLE_REFUSED 1)
  else
    let s1 := s0.swapImage O.HALT_TABLE w (splice s0.haltImg 4 (slice 4 1 img))
    (.okay, ((List.range 8).foldl (fun (s : State) k => if (byteAt img 4).testBit k then s.applyLine w img k else s) s1).bump
      O.HALT_TABLE_COMMITS 1)

/-- The owner of TABLE (R198, R199). -/
def ownHaltTable : ImgOwner := scheduled fun img tt s =>
  if img.length ≠ 2512 then (.refused, s)
  else if tableRefused img (s.reg O.HALT_YARD_POS) then (.refused, s.bump O.HALT_TABLE_REFUSED 1)
  else if tt = 0 then s.applyTable s.nextWc img
  else if (s.sched .haltTable 0).isSome then (.busy, s)
  else
    let (st, s1) := s.armAction .haltTable 0 tt 0
    (st, if st = .okay then { s1 with staged := Tbl.set [] s1.staged O.HALT_TABLE img } else s1)

/-- A scheduled table whose instant has come takes effect. -/
def State.tableDue (s : State) : State :=
  match s.sched .haltTable 0 with
  | none => s
  | some a =>
    if s.due .haltTable 0 a then
      let img := Tbl.get [] s.staged O.HALT_TABLE
      let (st, s2) := { s with staged := Tbl.set [] s.staged O.HALT_TABLE [] }.applyTable (s.effectAt .haltTable 0 a / Config.wordUnits) img
      s2.endAction .haltTable 0 (if st = .okay then 1 else 2)
    else s

/-- TABLE: a commit of the Halter table, or its effect at the instant of a scheduled one. -/
def execTable (t : Nat) (w : CommitStep) (s : State) : Host.Outcome State Fault Refusal :=
  let s1 := s.tickTo t
  .next
    (match w with
     | .commit r crc tt => s1.commitObj r O.HALT_TABLE crc tt ownHaltTable
     | .effect => s1.tableDue)

/-- Replace line k's site mask from word clock w on; no unit moves (R201). -/
def State.applySiteMask (s : State) (w k : Nat) (img : List Byte) : State :=
  let s1 := s.haltPump
  s1.swapImage O.HALT_TABLE w (splice s1.haltImg (1488 + 128 * k) img)

/-- SITE_MASK as it reads. -/
def State.siteMaskImage (s : State) (k : Nat) : List Byte := slice (1488 + 128 * k) 128 s.haltImg

/-- The owner of SITE_MASK of line k (R201). -/
def ownSiteMask (k : Nat) : ImgOwner := scheduled fun img tt s =>
  if img.length ≠ 128 then (.refused, s)
  else if tt = 0 then (.okay, s.applySiteMask s.nextWc k img)
  else if (s.sched .siteMask k).isSome then (.busy, s)
  else
    let (st, s1) := s.armAction .siteMask k tt 0
    (st, if st = .okay then { s1 with staged := Tbl.set [] s1.staged (O.SMASK_SITE_MASK k) img } else s1)

/-- SITE_MASK: a commit of a line's site mask, or its effect at the instant of a scheduled one. -/
def execSiteMask (t : Nat) (k : Fin 8) (w : CommitStep) (s : State) : Host.Outcome State Fault Refusal :=
  let s1 := s.tickTo t
  .next
    (match w with
     | .commit r crc tt => s1.commitObj r (O.SMASK_SITE_MASK k.val) crc tt (ownSiteMask k.val)
     | .effect =>
       match s1.sched .siteMask k.val with
       | none => s1
       | some a =>
         if s1.due .siteMask k.val a then
           let img := Tbl.get [] s1.staged (O.SMASK_SITE_MASK k.val)
           ({ s1 with staged := Tbl.set [] s1.staged (O.SMASK_SITE_MASK k.val) [] }.applySiteMask (s1.effectAt .siteMask k.val a / Config.wordUnits) k.val img).endAction .siteMask k.val 1
         else s1)

/-- Whether any line is yard-enabled. -/
def State.anyYardLine (s : State) : Bool := (List.range 8).any fun k => recYard (s.hrec k)

/-- The owner of YARD_CW and YARD_CCW: a yard port or none, while no line is yard-enabled. -/
def ownYardSide (o : Nat) : Owner := fun v s =>
  if s.anyYardLine ∨ (v > 3 ∧ v ≠ 0xFF) then (.refused, s) else (.okay, s.setReg o v)

/-! ### The allocator (R202 to R208) -/

/-- The outcome of a claim by the tests of R203: `none` granted, or the cause of *Table 7.5*. -/
def State.claimCause (s : State) (e k : Nat) (virt : Bool) (slot : Nat) : Option Nat :=
  let r := s.hrec k
  if recPin r ∧ recOwner r 0 ≠ e then some 2
  else if s.yardForeign r then some 3
  else if virt ≠ recDivided r then some 4
  else if s.isSet (O.LINE_FAILSAFE_ACTIVE k) then some 5
  else
    match (s.hunit k (if virt then slot else 0)).holding with
    | .free => none
    | .held f => if f = e then none else some 1
    | .yard => some 1

/-- Decide a claim with a port wait of w word clocks (R203, R205); whether it is granted. -/
def State.decideClaim (s : State) (e k : Nat) (virt : Bool) (slot w : Nat) : Bool × State :=
  let s1 := ((s.haltPump).bump O.ALLOC_CLAIMS 1).raiseMax O.ALLOC_MAX_CLAIM_WAIT (min w 127)
  match s1.claimCause e k virt slot with
  | none =>
    let us := tokenUnits virt slot
    let s2 :=
      if (s1.hunit k (if virt then slot else 0)).armed then s1
      else (us.foldl (fun (s : State) u => (s.holdUnit k u (.held e)).clearSticky k u) s1).haltLedger k
    (true, ((s2.bump O.ALLOC_GRANTS 1).countEvent 4 k 1 1).trace 3 k 2 (e * 2 ^ 16))
  | some c =>
    (false, ((((s1.bump O.ALLOC_REFUSALS 1).bump (O.LINE_CLAIMS_REFUSED k) 1).setReg O.ALLOC_LAST_REFUSE
      (c * 2 ^ 20 + slot * 2 ^ 16 + k * 2 ^ 12 + e)).countEvent 0 e 3 1).trace 3 k 3 (e * 2 ^ 16))

/-- Whether an engine holds the unit that VIRT and SLOT name (R202, R204). -/
def State.holdsUnit (s : State) (e k : Nat) (virt : Bool) (slot : Nat) : Bool :=
  virt == recDivided (s.hrec k) && (s.hunit k (if virt then slot else 0)).holding == .held e

/-- Release every unit an engine holds, as a load does (R207). -/
def State.releaseAll (s : State) (e : Nat) : State :=
  (List.range 8).foldl
    (fun (s : State) k =>
      let us := (List.range 16).filter fun u => (s.hunit k u).holding == .held e
      if us = [] then s else (s.freeUnits k us).bump O.ALLOC_RELEASES us.length) s.haltPump

/-- The oldest release of an engine takes effect, if 4 word clocks have passed since its HRELEASE; a release of a unit that the engine
no longer holds, because a load took it, does nothing (R204, R207). -/
def State.disarm (s : State) (e : Nat) : State :=
  let g := Tbl.get ({} : Engine) s.engines e
  match g.releases with
  | [] => s
  | (k, virt, slot, due) :: rest =>
    if s.wc < due then s
    else
      let s2 := { s with engines := Tbl.set {} s.engines e { g with releases := rest } }
      if s2.holdsUnit e k virt slot then
        let us := tokenUnits virt slot
        (s2.freeUnits k us).bump O.ALLOC_RELEASES us.length
      else s2

/-- RELEASE_DISARM. -/
def execReleaseDisarm (t : Nat) (e : Fin 512) (s : State) : Host.Outcome State Fault Refusal := .next (((s.tickTo t).haltPump).disarm e.val)

/-- Every release whose word clock has come takes effect, as it does ahead of the claims of that word clock (R206). -/
def State.disarmAll (s : State) : State :=
  s.engines.foldl (fun (s : State) e => e.2.releases.foldl (fun (s : State) _ => s.disarm e.1) s) s

/-- The engine that holds a unit, if any. -/
def Holding.engine : Holding → Option Nat
  | .held e => some e
  | _ => none

/-- The owner of FORCE_RELEASE of line k (R208); on a WHOLE line any slot names the token. -/
def ownForceRelease (k : Nat) : Owner := fun v s =>
  let us := if v.testBit 7 ∨ !recDivided (s.hrec k) then List.range 16 else [v % 16]
  let held := us.filter fun u => (s.hunit k u).holding.engine.isSome
  if held.any fun u => (s.hunit k u).holding.engine.any s.engineLive then (.refused, s)
  else (.okay, ((s.haltPump).freeUnits k held).bump O.ALLOC_FORCED held.length)

/-- FORCE_RELEASE. -/
def execForceRelease (t : Nat) (r : Requester) (k : Fin 8) (v : Nat) (s : State) : Host.Outcome State Fault Refusal :=
  .next ((s.tickTo t).writeObj r (O.LINE_FORCE_RELEASE k.val) v (ownForceRelease k.val))

/-- An engine that issues an instruction with MARK in word clock w clears the sticky latches of its units 3 word clocks on
(R193). -/
def State.markUnits (s : State) (e w : Nat) : State :=
  (List.range 128).foldl
    (fun (s : State) i =>
      let x := s.hunit (i / 16) (i % 16)
      if x.holding = .held e then s.setHunit (i / 16) (i % 16) { x with marks := (w + 3) :: x.marks } else s) s

/-- STICKY_CLEAR: clears of MARK instructions that are due take effect. -/
def execStickyClear (t : Nat) (k : Fin 8) (u : Fin 16) (s : State) : Host.Outcome State Fault Refusal :=
  let s1 := (s.tickTo t).haltPump
  let x := s1.hunit k.val u.val
  .next (s1.setHunit k.val u.val
    { x with clears := x.marks.filter (fun w => decide (w ≤ s1.wc)) ++ x.clears, marks := x.marks.filter fun w => decide (s1.wc < w) })

/-! ### Time-divided lines (R209, R210) -/

/-- The tick at a word clock (R155, R169). -/
def State.tickAt (s : State) (w : Nat) : Nat := (w / 8 + s.ttOff) % 2 ^ 64

/-- The index of the running word clock, 8 × tick + phase (R169). -/
def State.wcIndex (s : State) : Nat := 8 * s.tickAt s.wc + s.wc % 8

/-- SLOT_WINDOW_END: the window of slot u ends; what it carried is cleared, and 7.0 ns later every engine with VIEWk = u then takes it as
its sample (R210). -/
def execSlotWindowEnd (t : Nat) (k : Fin 8) (u : Fin 16) (s : State) : Host.Outcome State Fault Refusal :=
  let s1 := (s.tickTo t).haltPump
  .next
    (if !recDivided (s1.hrec k.val) ∨ s1.wcIndex % 96 ≠ (6 * u.val + 6) % 96 then s1
     else
       let x := s1.hunit k.val u.val
       let edge := s1.wc * Config.wordUnits
       let arrived := x.slotIn.filter fun b => decide (b ≤ edge)
       let value := !arrived.isEmpty
       let at_ := edge + 7 * Config.nsUnits
       let first := arrived.foldl min edge
       let s2 := if value then s1.haltCount k.val (min 6 ((edge - first + Config.wordUnits - 1) / Config.wordUnits)) else s1
       let s3 := s2.setHunit k.val u.val
         { x with slotIn := x.slotIn.filter (fun b => decide (edge < b)), slotLast := value,
                  asserts := if value then at_ / Config.wordUnits :: x.asserts else x.asserts }
       ((s3.takeSample edge k.val).setHline k.val { (s3.takeSample edge k.val).hline k.val with sample := some (u.val, value, at_) }).haltTrace k.val
         (decide (s3.haltValue k.val ≠ 0)))

/-! ### Failsafe (R215) -/

/-- Whether a yard port named by YARD_CW or YARD_CCW is not UP (R264). -/
def State.sideDown (s : State) (side : Nat) : Bool := decide (side ≤ 3) && s.reg (O.YARD_STATE side) != 7

/-- Whether a named port is down. -/
def State.anySideDown (s : State) : Bool := s.sideDown (s.reg O.HALT_YARD_CW) || s.sideDown (s.reg O.HALT_YARD_CCW)

/-- Whether line k must be in failsafe: it is yard-enabled, and a named port is down or a DEG byte received for it is non-zero. -/
def State.lineAffected (s : State) (k : Nat) : Bool :=
  recYard (s.hrec k) && (s.anySideDown || (s.hline k).degCw ||| (s.hline k).degCcw != 0)

/-- The causes of failsafe that line k has now: a bit each, as HLine.causes has them. -/
def State.failCauses (s : State) (k : Nat) : Nat :=
  if !recYard (s.hrec k) then 0
  else
    b2n (s.sideDown (s.reg O.HALT_YARD_CW)) + 2 * b2n (s.sideDown (s.reg O.HALT_YARD_CCW)) +
      4 * b2n ((s.hline k).degCw ||| (s.hline k).degCcw != 0)

/-- A line enters failsafe: the value and the sticky latch become FAILSAFE (R215). -/
def State.enterFailsafe (s : State) (k : Nat) : State :=
  let s1 := s.setReg (O.LINE_FAILSAFE_ACTIVE k) 1
  s1.setHline k { s1.hline k with fails := (s1.wc, true) :: (s1.hline k).fails }

/-- A cause of failsafe that has ended is forgotten: its next occurrence sets DEGRADED anew. -/
def State.forgetCauses (s : State) : State :=
  (List.range 8).foldl
    (fun (s : State) k =>
      if (s.hline k).causes = 0 then s else s.setHline k { s.hline k with causes := (s.hline k).causes &&& s.failCauses k }) s

/-- FAILSAFE_ENTRY: every affected yard-enabled line enters failsafe, if it is not in it; a cause that is new sets DEGRADED; what a down
port last gave counts as zero. -/
def execFailsafeEntry (t : Nat) (s : State) : Host.Outcome State Fault Refusal :=
  let s1 := (s.tickTo t).haltPump
  let cw := s1.sideDown (s1.reg O.HALT_YARD_CW)
  let ccw := s1.sideDown (s1.reg O.HALT_YARD_CCW)
  .next ((List.range 8).foldl
    (fun (s : State) k =>
      if !s.lineAffected k then s
      else
        let l := s.hline k
        let v := match l.yard with
          | p :: _ => p.2
          | [] => (0, 0)
        let s2 := if cw ∨ ccw then s.setHline k { l with yard := (s.wc, if cw then 0 else v.1, if ccw then 0 else v.2) :: l.yard } else s
        let now := s2.failCauses k
        let s3 := if now ||| (s2.hline k).causes = (s2.hline k).causes then s2
          else s2.setFlag (O.LINE_DEGRADED k) 0 (O.LINE_DEGRADED_COUNT k) 1
        let s4 := s3.setHline k { s3.hline k with causes := now }
        if s4.isSet (O.LINE_FAILSAFE_ACTIVE k) then s4 else s4.enterFailsafe k) s1)

/-- A line leaves failsafe; its sticky latch holds the FAILSAFE value it had taken. -/
def State.leaveFailsafe (s : State) (k : Nat) : State :=
  let s1 := s.setReg (O.LINE_FAILSAFE_ACTIVE k) 0
  let s2 := s1.setHline k { s1.hline k with fails := (s1.wc, false) :: (s1.hline k).fails }
  if recFailsafe (s2.hrec k) then s2.setHunit k 0 { s2.hunit k 0 with asserts := (s2.wc - 1) :: (s2.hunit k 0).asserts }
  else s2.clearSticky k 0

/-- The owner of CLEAR_FAILSAFE of line k (R215). -/
def ownClearFailsafe (k : Nat) : Owner := command fun s =>
  if s.lineAffected k then (.refused, s) else (.okay, if s.isSet (O.LINE_FAILSAFE_ACTIVE k) then (s.haltPump).leaveFailsafe k else s)

/-- CLEAR_FAILSAFE. -/
def execClearFailsafe (t : Nat) (r : Requester) (k : Fin 8) (v : Bool) (s : State) : Host.Outcome State Fault Refusal :=
  .next ((s.tickTo t).writeObj r (O.LINE_CLEAR_FAILSAFE k.val) (b2n v) (ownClearFailsafe k.val))

end Sys2Proof.Machine
end

