-- ==== Sys2Proof/Machine/Repair.lean ====
section
/-! DEFINITION. The repair units (R240 to R247): presentation and coalescing, the home unit's backlog, cells and must-repair
lines, and reports. -/

namespace Sys2Proof.Machine

def State.rep (s : State) (q : Nat) : RepUnit := Tbl.get {} s.reps q

/-- Replace a repair unit, and take BACKLOG and BACKLOG_MAX along. -/
def State.setRep (s : State) (q : Nat) (u : RepUnit) : State :=
  (({ s with reps := Tbl.set {} s.reps q u }).setReg (O.RU_BACKLOG q) u.backlog.length).raiseMax (O.RU_BACKLOG_MAX q) u.backlog.length

/-! ### Presentation (R240) -/

/-- Whether a fail bit of a strobe of a programmed instant is presented for repair: a shed that is ON or IDLE is powered (R240,
*Table 15.5*). -/
def State.presentsRepair (s : State) (ch site inst : Nat) : Bool :=
  cfgRepair (s.chanCfg ch) && (s.siteEntryAt site inst).testBit 2 && decide (s.reg (O.SHED_STATE (quadStop (ch / 36) 21)) ≤ 1)

/-- Two fail bits coalesce: one period start, site, P and step validity (R240), and one home. -/
def RepUpd.joins (u : RepUpd) (start site p home : Nat) (invalid : Bool) : Bool :=
  u.start == start && u.site == site && u.p == p && u.home == home && u.invalid == invalid

/-- A presented fail bit, which leaves the compare pipeline at `leave`, enters the front stage of its quadrant's unit: it joins an update opened within 8 word clocks, or
opens one (R240, R247). -/
def State.presentRepair (s : State) (leave ch start site p inst : Nat) (invalid : Bool) : State :=
  if !s.presentsRepair ch site inst then s
  else
    let q := ch / 36
    let home := s.siteEntryAt site inst % 4
    let io := cfgIo (s.chanCfg ch)
    let u := s.rep q
    let hit := fun (x : RepUpd) => x.joins start site p home invalid && decide (leave < x.openAt + 8 * Config.wordUnits)
    let front :=
      if u.front.any hit then u.front.map fun x => if hit x then { x with mask := setBit x.mask io true, count := x.count + 1 } else x
      else u.front ++ [{ start := start, site := site, p := p, invalid := invalid, mask := 2 ^ io, count := 1, openAt := leave, home := home }]
    ((s.setRep q { u with front := front }).ledAdd 0x1053 0 1).ledAdd 0x1053 5 1

/-- A field of P. -/
def pField (p lsb n : Nat) : Nat := p / 2 ^ lsb % 2 ^ n

/-- Bank, row and column of an update by the ADDR_MAP of its home unit (R240, *Table 8.13*). -/
def RepUpd.decode (x : RepUpd) (m : Nat) : RepUpd :=
  { x with row := pField x.p (bits m 5 0) (bits m 10 6), col := pField x.p (bits m 16 11) (bits m 21 17),
           bank := pField x.p (bits m 27 22) (bits m 30 28) }

/-! ### Contexts (R241) -/

/-- A context descriptor (*Table 8.9*). -/
structure CtxDesc where
  valid : Bool
  site : Nat
  bank : Nat
  spareRows : Nat
  spareCols : Nat
  base : Nat
  cap : Nat
  deriving DecidableEq, Repr

/-- Descriptor i of a CONTEXTS image. -/
def ctxDesc (img : List Byte) (i : Nat) : CtxDesc :=
  let e := slice (16 * i) 16 img
  { valid := (fieldLE e 0 2).testBit 15, site := fieldLE e 0 2 % 1024, bank := byteAt e 2, spareRows := byteAt e 3,
    spareCols := byteAt e 4, base := fieldLE e 8 4, cap := fieldLE e 12 2 }

/-- The valid context of a site and bank. -/
def ctxFind (img : List Byte) (site bank : Nat) : Option Nat :=
  (List.range 2048).find? fun i => let d := ctxDesc img i; d.valid && d.site == site && d.bank == bank

/-- Whether no two of a list are in conflict. -/
def noClash {α : Type} (clash : α → α → Bool) : List α → Bool
  | [] => true
  | x :: r => !(r.any (clash x)) && noClash clash r

/-- What makes a CONTEXTS commit REFUSED (R241). -/
def contextsRefused (img : List Byte) (bankBits : Nat) : Bool :=
  let ds := ((List.range 2048).map (ctxDesc img)).filter (·.valid)
  img.length != 32768 ||
    ds.any (fun d => decide (d.bank ≥ 2 ^ bankBits) || decide (d.base + d.cap > 262144) || d.cap == 0 || decide (d.cap > 512) ||
      decide (d.spareRows > 31) || decide (d.spareCols > 31)) ||
    !noClash (fun x y => (x.site == y.site && x.bank == y.bank) || (decide (x.base < y.base + y.cap) && decide (y.base < x.base + x.cap))) ds

/-- The owner of CONTEXTS (R241): entries that change are reset, the others keep their state. -/
def ownContexts (q : Nat) : ImgOwner := unscheduled fun img s =>
  if contextsRefused img (bits (s.reg (O.RU_ADDR_MAP q)) 30 28) then (.refused, s)
  else
    let old := s.image (O.RU_CONTEXTS q)
    let u := s.rep q
    (.okay, (s.setRep q { u with ctxs := u.ctxs.filter fun c => slice (16 * c.1) 16 img == slice (16 * c.1) 16 old }).setImage
      (O.RU_CONTEXTS q) img)

/-- CONTEXTS_COMMIT. -/
def execContextsCommit (t : Nat) (r : Requester) (q : Fin 4) (crc tt : Nat) (s : State) : Host.Outcome State Fault Refusal :=
  .next ((s.tickTo t).commitObj r (O.RU_CONTEXTS q.val) crc tt (ownContexts q.val))

/-- The state of a context: cleared, its spares are those of its descriptor. -/
def State.repCtx (s : State) (q i : Nat) : RepCtx :=
  match Tbl.get none (s.rep q).ctxs i with
  | some c => c
  | none =>
    let d := ctxDesc (s.image (O.RU_CONTEXTS q)) i
    { srl := d.spareRows, scl := d.spareCols }

def State.setRepCtx (s : State) (q i : Nat) (c : RepCtx) : State :=
  let u := s.rep q
  s.setRep q { u with ctxs := Tbl.set none u.ctxs i (some c) }

/-- Whether an ADDR_MAP is one the object takes: field sizes, fields within P, no overlap (*Table 8.13*). -/
def addrMapOk (m : Nat) : Bool :=
  let row := (bits m 5 0, bits m 10 6)
  let col := (bits m 16 11, bits m 21 17)
  let bank := (bits m 27 22, bits m 30 28)
  decide (1 ≤ row.2) && decide (row.2 ≤ 20) && decide (1 ≤ col.2) && decide (col.2 ≤ 16) && decide (bank.2 ≤ 4) &&
    [row, col, bank].all (fun f => decide (f.1 + f.2 ≤ 48)) &&
    noClash (fun (x y : Nat × Nat) => decide (x.1 < y.1 + y.2) && decide (y.1 < x.1 + x.2)) [row, col, bank]

/-- The owner of ADDR_MAP: writable while no context is valid. -/
def ownAddrMap (q : Nat) : Owner := fun v s =>
  let img := s.image (O.RU_CONTEXTS q)
  if (List.range 2048).any (fun i => (ctxDesc img i).valid) ∨ !addrMapOk v then (.refused, s)
  else (.okay, s.setReg (O.RU_ADDR_MAP q) v)

/-! ### Cells and must-repair lines (R243) -/

/-- Put a number into an ascending list. -/
def insertAsc (n : Nat) : List Nat → List Nat
  | [] => [n]
  | x :: r => if n < x then n :: x :: r else if n = x then x :: r else x :: insertAsc n r

/-- Put a cell into the set, in ascending order of row and column; a cell already there takes the mask and the count. -/
def insertCell (c : RepCell) : List RepCell → List RepCell
  | [] => [{ c with count := min c.count 4095 }]
  | x :: r =>
    if x.row = c.row ∧ x.col = c.col then { x with iomask := x.iomask ||| c.iomask, count := min (x.count + c.count) 4095 } :: r
    else if c.row < x.row ∨ (c.row = x.row ∧ c.col < x.col) then { c with count := min c.count 4095 } :: x :: r
    else x :: insertCell c r

/-- The lowest row whose cells outnumber SCL. -/
def RepCtx.badRow (c : RepCtx) : Option Nat :=
  (c.cells.map (·.row)).find? fun r => decide (c.scl < ((c.cells.countP fun x => x.row = r : Nat) : Int))

/-- The lowest column whose cells outnumber SRL. -/
def RepCtx.badCol (c : RepCtx) : Option Nat :=
  let cols := (c.cells.map (·.col)).foldl (fun l n => insertAsc n l) []
  cols.find? fun k => decide (c.srl < ((c.cells.countP fun x => x.col = k : Nat) : Int))

/-- The row and column rules until neither holds or a spare count falls below 0; each marking takes at least one cell, so
the number of cells bounds the rounds (R243, step 3). -/
def RepCtx.mark (c : RepCtx) : Nat → RepCtx
  | 0 => c
  | n + 1 =>
    if c.srl < 0 ∨ c.scl < 0 then c
    else
      match c.badRow with
      | some r => { c with rows := insertAsc r c.rows, srl := c.srl - 1, cells := c.cells.filter (·.row ≠ r) }.mark n
      | none =>
        match c.badCol with
        | some k => { c with cols := insertAsc k c.cols, scl := c.scl - 1, cells := c.cells.filter (·.col ≠ k) }.mark n
        | none => c

/-- The verdict of a context that no sticky verdict holds (*Table 8.10*). -/
def RepCtx.live (c : RepCtx) : Nat := if c.cells ≠ [] then 2 else if c.fails = 0 then 0 else 1

/-- An update is applied to its cell (R243). -/
def RepCtx.apply (c : RepCtx) (cap : Nat) (x : RepUpd) : RepCtx :=
  let c1 := { c with cells := insertCell ⟨x.row, x.col, x.mask, x.count⟩ c.cells, fails := c.fails + x.count }
  let known := c.cells.any fun y => decide (y.row = x.row ∧ y.col = x.col)
  let c2 := if known then c1 else c1.mark (c1.cells.length + 1)
  if c2.srl < 0 ∨ c2.scl < 0 ∨ ((c2.cells.length : Nat) : Int) > 2 * c2.srl * c2.scl then { c2 with verdict := 3 }
  else if c2.cells.length > cap then
    { c2 with verdict := 4, cells := c2.cells.filter fun y => ¬ (y.row = x.row ∧ y.col = x.col) }
  else { c2 with verdict := c2.live }

/-! ### Routing (R242) -/

/-- A context becomes UNREPAIRABLE or INCOMPLETE: the unit's flag of that name (R244). -/
def State.verdictFlag (s : State) (q old new : Nat) : State :=
  if old = new then s
  else if new = 3 then s.setFlag (O.RU_UNREPAIRABLE q) 0 (O.RU_UNREPAIRABLE_COUNT q) 1
  else if new = 5 then s.setFlag (O.RU_INCOMPLETE q) 0 (O.RU_INCOMPLETE_COUNT q) 1
  else s

/-- Route an update by the first case that holds; `full` is set for one that found the backlog full (R242). -/
def State.repRoute (s : State) (q : Nat) (x : RepUpd) (full : Bool) : State :=
  let img := s.image (O.RU_CONTEXTS q)
  let hit := ctxFind img x.site x.bank
  if x.invalid then
    let s1 := s.ledMove 0x1053 5 3 x.count
    match hit with
    | none => s1
    | some i =>
      let c := s1.repCtx q i
      s1.setRepCtx q i { c with invalid := min 65535 (c.invalid + x.count), invalidSeen := true }
  else
    match hit with
    | none => (s.ledMove 0x1053 5 4 x.count).bump (O.RU_UNMAPPED q) x.count
    | some i =>
      let c := s.repCtx q i
      if c.verdict ≥ 3 then (s.ledMove 0x1053 5 2 x.count).setRepCtx q i { c with fails := c.fails + x.count }
      else if full then
        ((s.ledMove 0x1053 5 2 x.count).setRepCtx q i { c with fails := c.fails + x.count, verdict := 5 }).verdictFlag q c.verdict 5
      else if c.rows.contains x.row ∨ c.cols.contains x.col then
        let c1 := { c with fails := c.fails + x.count, covered := c.covered + x.count }
        (s.ledMove 0x1053 5 1 x.count).setRepCtx q i { c1 with verdict := c1.live }
      else
        let c1 := c.apply (ctxDesc img i).cap x
        ((s.ledMove 0x1053 5 1 x.count).setRepCtx q i c1).verdictFlag q c.verdict c1.verdict

/-- REPAIR_PRESENTATION: the oldest update of a quadrant's front stage, once its 8 word clocks are over, goes to the home unit of
its site, over the on-die network where that is another quadrant; the home unit decodes it and queues it (R240, R242). -/
def execRepairPresentation (t : Nat) (q : Fin 4) (s : State) : Host.Outcome State Fault Refusal :=
  let s1 := s.tickTo t
  let u := s1.rep q.val
  .next
    (match u.front with
     | [] => s1
     | x :: rest =>
       if s1.now < x.openAt + 8 * Config.wordUnits then s1
       else
         let home := x.home % 4
         let s2 := s1.setRep q.val { u with front := rest }
         let s3 := if home = q.val then s2 else s2.bump (O.RU_FORWARDED q.val) 1
         let y := x.decode (s3.reg (O.RU_ADDR_MAP home))
         if (s3.rep home).backlog.length < 16384 then s3.setRep home { s3.rep home with backlog := (s3.rep home).backlog ++ [y] }
         else s3.repRoute home y true)

/-- The unit takes the update at the head of its backlog, one in a word clock (R242, R243). -/
def State.takeUpdate (s : State) (q : Nat) : State :=
  let u := s.rep q
  match u.backlog with
  | [] => s
  | x :: rest => if u.takenAt = s.wc + 1 then s else (s.setRep q { u with backlog := rest, takenAt := s.wc + 1 }).repRoute q x false

/-- REPAIR_UPDATE. -/
def execRepairUpdate (t : Nat) (q : Fin 4) (s : State) : Host.Outcome State Fault Refusal := .next ((s.tickTo t).takeUpdate q.val)

/-- A unit that is reset has no context left: what its front stage and its backlog hold is routed so (R242, R247). -/
def State.routeAll (s : State) (q : Nat) : State :=
  let u := s.rep q
  (u.front ++ u.backlog).foldl (fun (s : State) x => s.ledMove 0x1053 5 (if x.invalid then 3 else 4) x.count) (s.setRep q { u with front := [], backlog := [] })

/-! ### Clear and reports (R245) -/

/-- The owner of CLEAR. -/
def ownRepairClear (q : Nat) : Owner := fun v s =>
  let u := s.rep q
  (.okay, s.setRep q { u with ctxs := if v.testBit 15 then [] else Tbl.set none u.ctxs (v % 2048) none })

/-- REPAIR_CLEAR. -/
def execRepairClear (t : Nat) (r : Requester) (q : Fin 4) (v : Nat) (s : State) : Host.Outcome State Fault Refusal :=
  .next ((s.tickTo t).writeObj r (O.RU_CLEAR q.val) v (ownRepairClear q.val))

/-- The header granule of a context (*Table 8.11*). -/
def repHeader (kind i : Nat) (d : CtxDesc) (c : RepCtx) : List Byte :=
  leBytes 1 kind ++ leBytes 1 c.verdict ++ leBytes 2 i ++ leBytes 2 d.site ++ leBytes 1 d.bank ++ leBytes 1 (b2n c.invalidSeen) ++
    leBytes 1 (unsigned 8 c.srl) ++ leBytes 1 (unsigned 8 c.scl) ++ leBytes 1 c.rows.length ++ leBytes 1 c.cols.length ++
    leBytes 2 c.cells.length ++ leBytes 2 c.invalid ++ leBytes 8 c.fails ++ leBytes 8 c.covered

/-- A list in groups of n; the last argument bounds the groups. -/
def groupsOf {α : Type} (n : Nat) (l : List α) : Nat → List (List α)
  | 0 => []
  | k + 1 => if l.isEmpty then [] else l.take n :: groupsOf n (l.drop n) k

/-- A line or cell granule: KIND, N, CONTEXT and its entries, the unused ones 0 (*Table 8.12*). -/
def repGranule (kind i n : Nat) (body : List Byte) : List Byte :=
  leBytes 1 kind ++ leBytes 1 n ++ leBytes 2 i ++ leBytes 4 0 ++ (body ++ fill 24 0).take 24

/-- The granules of a context's report (R245). -/
def repReport (i : Nat) (d : CtxDesc) (c : RepCtx) : List (List Byte) :=
  let lines := c.rows ++ c.cols.map (· + 2 ^ 31)
  let word := fun (x : RepCell) => leBytes 8 (x.count + x.iomask * 2 ^ 12 + x.col * 2 ^ 28 + x.row * 2 ^ 44)
  [repHeader 1 i d c] ++ (groupsOf 6 lines lines.length).map (fun g => repGranule 2 i g.length (g.flatMap (leBytes 4))) ++
    (groupsOf 3 c.cells c.cells.length).map fun g => repGranule 3 i g.length (g.flatMap word)

/-- CTX_STATUS as it reads: the live header of each valid context, KIND 0. -/
def State.ctxStatus (s : State) (q : Nat) : List Byte :=
  let img := s.image (O.RU_CONTEXTS q)
  (List.range 2048).flatMap fun i =>
    let d := ctxDesc img i
    if d.valid then repHeader 0 i d (s.repCtx q i) else fill 32 0

/-- Offer the granules of one report, all or none (R245, R231). -/
def State.offerAll (s : State) (q who : Nat) (gs : List (List Byte)) : State :=
  ((gs.foldl (fun (s : State) g => s.reserve q who g) s).ledAdd 0x1050 0 gs.length).ledAdd 0x1050 2 gs.length

/-- The owner of REPORT (R245): the update taken in the word clock of the write goes first (R246). -/
def ownReport (q : Nat) : Owner := fun v s0 =>
  let s := s0.takeUpdate q
  let img := s.image (O.RU_CONTEXTS q)
  let is := if v.testBit 15 then (List.range 2048).filter fun i => (ctxDesc img i).valid else [v % 2048]
  let done := fun (st : Status) (s : State) => (st, s.setReg (O.RU_REPORT_STATUS q) st.code)
  let rq := s.reg (O.RU_REPORT_QUEUE q)
  if rq ≥ 32768 ∨ is.any (fun i => !(ctxDesc img i).valid) then done .refused s
  else if is = [] then done .okay s
  else
    let gs := is.flatMap fun i => repReport i (ctxDesc img i) (s.repCtx q i)
    if s.reg (O.Q_STATE rq) ≠ 1 then done .refused (((s.ledAdd 0x1050 0 gs.length).ledAdd 0x1050 3 gs.length).queueEvent rq 2)
    else if gs.length > (s.queue rq).room then done .busy s
    else (.okay, s.offerAll rq (Producer.repair.who q) gs)

/-- REPORT. -/
def execReport (t : Nat) (r : Requester) (q : Fin 4) (v : Nat) (s : State) : Host.Outcome State Fault Refusal :=
  .next ((s.tickTo t).writeObj r (O.RU_REPORT q.val) v (ownReport q.val))

end Sys2Proof.Machine
end

