-- ==== Sys2Proof/Machine/TimingSets.lean ====
section
/-! DEFINITION. Timing-set tables: records and edge words (R110, *Table 4.9*, *Table 4.10*), what a set can do, and the rules a
commit is checked by (R111); the edges, enable edges and strobes that a set gives a vector (R106, R107, R109). -/

namespace Sys2Proof.Machine

/-- A timing set; an edge that is not enabled is `none`, an enabled one its offset in 0.5 ps (R110). -/
structure TSet where
  valid : Bool
  period : Nat
  mux : Nat
  fmt : Nat
  enm : Nat
  window : Bool
  d : List (Option Nat)
  e : List (Option Nat)
  s : List (Option Nat)
  deriving DecidableEq, Repr

/-- The offset of an edge word, where it is enabled (*Table 4.10*). -/
def edgeOff (w : Nat) : Option Nat := if w.testBit 63 then some (bits w 33 10 * 625 + bits w 9 0) else none

/-- Record i of a table. -/
def tsRec (img : List Byte) (i : Nat) : List Byte := slice (160 * i) 160 img

/-- Edge words of a record from a byte offset. -/
def recEdges (r : List Byte) (o n : Nat) : List Nat := (List.range n).map fun k => fieldLE r (o + 8 * k) 8

/-- Timing set i of a table (*Table 4.9*). -/
def tsetAt (img : List Byte) (i : Nat) : TSet :=
  let r := tsRec img i
  let c := byteAt r 4
  { valid := (byteAt r 5).testBit 0, period := fieldLE r 0 4, mux := 2 ^ bits c 1 0, fmt := bits c 4 2, enm := bits c 6 5,
    window := c.testBit 7, d := (recEdges r 16 8).map edgeOff, e := (recEdges r 80 2).map edgeOff, s := (recEdges r 96 8).map edgeOff }

/-- Drive edges that each slot of a formatter has (*Table 4.6*). -/
def edgesPerSlot (fmt : Nat) : Nat := if fmt = 0 then 1 else if fmt = 3 then 3 else 2

/-- Drive edges that a set's formatter needs for its mux; strobes that its compare mode needs. -/
def TSet.driveNeed (t : TSet) : Nat := t.mux * edgesPerSlot t.fmt
def TSet.strobeNeed (t : TSet) : Nat := if t.window then 2 * t.mux else t.mux

/-- Drive-capable: every needed drive edge is enabled. -/
def TSet.drives (t : TSet) : Bool := decide (t.driveNeed ≤ 8) && (t.d.take t.driveNeed).all Option.isSome

/-- Compare-capable: every needed strobe is enabled. -/
def TSet.compares (t : TSet) : Bool := decide (t.strobeNeed ≤ 8) && (t.s.take t.strobeNeed).all Option.isSome

/-- A list in groups of n, at most k of them. -/
def inGroups {α : Type} (n : Nat) : Nat → List α → List (List α)
  | 0, _ => []
  | k + 1, l => l.take n :: inGroups n k (l.drop n)

/-- Consecutive entries lie at least 156 units apart, in order. -/
def spaced : List Nat → Bool
  | x :: y :: r => decide (x + 156 ≤ y) && spaced (y :: r)
  | _ => true

/-- Every edge of a slot lies at least 156 units after every edge of the slot before. -/
def slotsSpaced : List (List Nat) → Bool
  | x :: y :: r => x.all (fun a => y.all fun b => decide (a + 156 ≤ b)) && slotsSpaced (y :: r)
  | _ => true

/-- The last of a list of edges lies at most PERIOD − 156 after the first. -/
def spanOk (period : Nat) (l : List Nat) : Bool :=
  match l with
  | [] => true
  | x :: r => decide (r.foldl max x + 156 ≤ r.foldl min x + period)

/-- Rule 5 of R111, for slots of a formatter. -/
def driveRule (fmt period : Nat) (slots : List (List Nat)) : Bool :=
  slots.all (fun g => if fmt = 4 then spaced g || spaced g.reverse else spaced g) && slotsSpaced slots && spanOk period slots.flatten

/-- Windows are at least 156 units long, and adjacent ones abut or lie 156 units apart (R111, rule 6). -/
def windowRule : List Nat → Bool
  | o :: c :: o2 :: r => decide (o + 156 ≤ c) && (o2 == c || decide (c + 156 ≤ o2)) && windowRule (o2 :: r)
  | o :: c :: [] => decide (o + 156 ≤ c)
  | _ => true

/-- An edge word that R8 refuses in a valid record: enabled, with FINE of 625 to 1,023. -/
def edgeBad (w : Nat) : Bool := w.testBit 63 && decide (bits w 9 0 ≥ 625)

/-- The rules of R111 for one valid record. -/
def recordOk (img : List Byte) (i trimAbs : Nat) : Bool :=
  let t := tsetAt img i
  let r := tsRec img i
  let words := recEdges r 16 8 ++ recEdges r 80 2 ++ recEdges r 96 8
  let dn := (t.d.take t.driveNeed).filterMap id
  let sn := (t.s.take t.strobeNeed).filterMap id
  decide (t.fmt ≤ 4) && !words.any edgeBad && decide (1250 ≤ t.period) && decide (t.period ≤ 2097152000) &&
    (t.d ++ t.e ++ t.s).all (fun o => o.all fun x => decide (x < 4 * t.period)) &&
    decide (t.driveNeed ≤ 8) && decide (t.strobeNeed ≤ 8) && (t.drives || t.compares) &&
    (!t.drives || driveRule t.fmt t.period (inGroups (edgesPerSlot t.fmt) t.mux dn)) &&
    (!t.compares || ((if t.window then windowRule sn else spaced sn) && spanOk t.period sn)) &&
    (t.enm != 2 || ((!t.drives || t.e[0]?.join.isSome) && (!t.compares || t.e[1]?.join.isSome))) &&
    (t.enm != 3 || (t.drives && match t.e with
      | [some a, some b] => decide (a < b)
      | _ => false)) &&
    decide (trimAbs ≤ t.period)

/-- Whether a table passes R111 for a channel with a given |TRIM|. -/
def tableOk (img : List Byte) (trimAbs : Nat) : Bool :=
  (tsetAt img 0).valid && (List.range 64).all fun i => !(tsetAt img i).valid || recordOk img i trimAbs

/-- The smallest PERIOD of a table's valid sets (R117). -/
def minPeriod (img : List Byte) : Nat :=
  (List.range 64).foldl (fun m i => if (tsetAt img i).valid then min m (tsetAt img i).period else m) 2097152000

/-! ### What a set gives a vector -/

/-- Offset n of a list of edges, 0 where absent. -/
def offAt (l : List (Option Nat)) (n : Nat) : Nat := ((l[n]?).join).getD 0

/-- The drive edges of slot k with datum x (*Table 4.6*). -/
def TSet.slotEdges (t : TSet) (k : Nat) (x : Bool) : List (Nat × Bool) :=
  match t.fmt with
  | 0 => [(offAt t.d k, x)]
  | 1 => [(offAt t.d (2 * k), x), (offAt t.d (2 * k + 1), false)]
  | 2 => [(offAt t.d (2 * k), x), (offAt t.d (2 * k + 1), true)]
  | 3 => [(offAt t.d (3 * k), !x), (offAt t.d (3 * k + 1), x), (offAt t.d (3 * k + 2), !x)]
  | _ => [if x then (offAt t.d (2 * k), true) else (offAt t.d (2 * k + 1), false)]

/-- The drive edges of a vector with drive data `data`. -/
def TSet.driveEdges (t : TSet) (data : Nat) : List (Nat × Bool) :=
  (List.range t.mux).flatMap fun k => t.slotEdges k (data.testBit k)

/-- The enable edges of a vector whose MODE drives or not (*Table 4.7*); FIXED modes move DEN at offset 0. -/
def TSet.enableEdges (t : TSet) (drives : Bool) : List (Nat × Bool) :=
  let at_ := fun (n : Nat) (b : Bool) => match (t.e[n]?).join with
    | some o => [(o, b)]
    | none => []
  match t.enm with
  | 0 => [(0, false)]
  | 1 => [(0, true)]
  | 2 => if drives then at_ 0 true else at_ 1 false
  | _ => if drives then at_ 0 true ++ at_ 1 false else at_ 1 false

/-- The strobes of a vector: slot, opening and closing offset, and whether its window abuts the one before (R109, R111). -/
def TSet.strobeEdges (t : TSet) : List (Nat × Nat × Nat × Bool) :=
  (List.range t.mux).map fun k =>
    if t.window then
      (k, offAt t.s (2 * k), offAt t.s (2 * k + 1), decide (0 < k) && offAt t.s (2 * k) == offAt t.s (2 * k - 1))
    else (k, offAt t.s k, offAt t.s k, false)

/-- The expect code of a slot: 0 X, 1 H, 2 L, 3 M (*Table 4.5*). -/
def expectCode (mode : Nat) (expect mask : Bool) : Nat :=
  if mask then 0
  else match mode with
    | 0 => 0
    | 2 => if expect then 3 else 0
    | _ => if expect then 1 else 2

/-- Whether a vector MODE drives, and whether it compares (R105). -/
def modeDrives (m : Nat) : Bool := m == 0 || m == 3
def modeCompares (m : Nat) : Bool := m != 0

end Sys2Proof.Machine
end

