-- ==== Sys2Proof/Machine/Channels.lean ====
section
/-! DEFINITION. The channels (R99 to R133): the channel map and its banks, input FIFOs, period boundaries and vectors, edges and
strobes, judgement, stop, and the pad-state latch. -/

namespace Sys2Proof.Machine

def State.chan (s : State) (ch : Nat) : Chan := Tbl.get {} s.chans ch
def State.setChan (s : State) (ch : Nat) (c : Chan) : State := { s with chans := Tbl.set {} s.chans ch c }

/-- The output pipeline, FIFO head to a transition at offset 0, and the compare pipeline: 12 ns (*Table 4.14*). -/
def pipeUnits : Nat := 12 * Config.nsUnits

/-- A signed register of a channel. -/
def State.ireg (s : State) (o : Nat) : Int := signed 32 (s.reg o)

/-! ### The channel map (R101, R102) -/

/-- The code for no source. -/
def srcNone : Nat := 0xFFF

/-- Entry of a channel in a bank: DRV_SRC and EXP_SRC (*Table 4.2*). -/
def State.mapEntry (s : State) (b ch : Nat) : Nat × Nat :=
  let v := fieldLE (s.image (O.BANK_MAP b)) (4 * ch) 4
  (bits v 11 0, bits v 27 16)

/-- The active bank. -/
def State.activeBank (s : State) : Nat := ((List.range 4).find? fun b => s.isSet (O.BANK_ACTIVE b)).getD 0

/-- A bank that a pending switch names. -/
def State.pendingBank (s : State) : Option Nat := (List.range 4).find? fun b => (s.sched .bank b).isSome

/-- A reserved source code (*Table 4.3*). -/
def srcReserved (c : Nat) : Bool := decide (0x900 ≤ c) && decide (c ≤ 0xFFE)

/-- The owner of MAP of bank b (R101). -/
def ownMap (b : Nat) : ImgOwner := unscheduled fun img s =>
  let es := (List.range 144).map fun i => fieldLE img (4 * i) 4
  if img.length ≠ 576 ∨ es.any (fun v => srcReserved (bits v 11 0) || srcReserved (bits v 27 16)) then (.refused, s)
  else if s.activeBank = b then (.refused, s)
  else if s.pendingBank = some b then (.busy, s)
  else (.okay, s.setImage (O.BANK_MAP b) (es.flatMap fun v => leBytes 4 (v &&& 0x0FFF0FFF)))

/-- MAP_COMMIT. -/
def execMapCommit (t : Nat) (r : Requester) (b : Fin 4) (crc tt : Nat) (s : State) : Host.Outcome State Fault Refusal :=
  .next ((s.tickTo t).commitObj r (O.BANK_MAP b.val) crc tt (ownMap b.val))

/-- The owner of SWITCH_ARM of bank b (R102). -/
def ownBankArm (b : Nat) : Owner := arming (O.BANK_SWITCH_AT b) false fun s =>
  if s.pendingBank.isSome then (.busy, s)
  else if s.activeBank = b then (.refused, s)
  else s.armAction .bank b (s.reg (O.BANK_SWITCH_AT b)) 0

/-- BANK_SWITCH_ARM. -/
def execBankSwitchArm (t : Nat) (r : Requester) (b : Fin 4) (v : Bool) (s : State) : Host.Outcome State Fault Refusal :=
  .next ((s.tickTo t).writeObj r (O.BANK_SWITCH_ARM b.val) (b2n v) (ownBankArm b.val))

/-- The owner of SWITCH_CANCEL of bank b (R87). -/
def ownBankCancel (b : Nat) : Owner := command fun s => s.cancelAction .bank b

/-- BANK_SWITCH_CANCEL. -/
def execBankSwitchCancel (t : Nat) (r : Requester) (b : Fin 4) (v : Bool) (s : State) : Host.Outcome State Fault Refusal :=
  .next ((s.tickTo t).writeObj r (O.BANK_SWITCH_CANCEL b.val) (b2n v) (ownBankCancel b.val))

/-- The source of a FIFO's output side: the one that placed its oldest word, or the mapped one once no older word is left
(R102). -/
def outSource (fifo : List LaneWord) (mapped : Nat) : Nat :=
  match fifo with
  | w :: _ => w.src
  | [] => mapped

/-- The output side of a channel's two FIFOs switches where the old words are consumed (R102). -/
def State.switchOut (s : State) (ch : Nat) : State :=
  let c := s.chan ch
  let m := s.mapEntry s.activeBank ch
  s.setChan ch { c with drvOut := outSource c.drv m.1, expOut := outSource c.exp m.2 }

/-- FIFO_OUTPUT_SWITCH. -/
def execFifoOutputSwitch (t : Nat) (ch : Fin 144) (s : State) : Host.Outcome State Fault Refusal :=
  .next ((s.tickTo t).switchOut ch.val)

/-- BANK_SWITCH: at S the input side of every channel switches (R102). -/
def execBankSwitch (t : Nat) (b : Fin 4) (s : State) : Host.Outcome State Fault Refusal :=
  let s1 := s.tickTo t
  .next
    (match s1.sched .bank b.val with
     | none => s1
     | some a =>
       if !s1.due .bank b.val a then s1
       else
         let old := s1.activeBank
         let s2 := (((s1.endAction .bank b.val 1).setReg (O.BANK_ACTIVE old) 0).setReg (O.BANK_ACTIVE b.val) 1).bump
           (O.BANK_SWITCH_COUNT b.val) 1
         (List.range 144).foldl
           (fun (s : State) ch =>
             if s.mapEntry old ch = s.mapEntry b.val ch then s
             else (s.setChan ch { s.chan ch with parkedAt := max (s.chan ch).parkedAt s.now }).switchOut ch) s2)

/-! ### Input FIFOs (R100) -/

/-- Words a channel FIFO holds in its mode. -/
def State.fifoDepth (s : State) (ch : Nat) : Nat := if s.reg (O.CH_FIFO_MODE ch) = 1 then 256 else 16

/-- Channels that the active bank gives a source, and whether for drive and for expect. -/
def State.targets (s : State) (src : Nat) : List (Nat × Bool × Bool) :=
  let b := s.activeBank
  (List.range 144).filterMap fun ch =>
    let m := s.mapEntry b ch
    if src ≠ srcNone ∧ (m.1 = src ∨ m.2 = src) then some (ch, m.1 == src, m.2 == src) else none

/-- Whether every FIFO that a source writes has room for n words. -/
def State.laneRoom (s : State) (src n : Nat) : Bool :=
  (s.targets src).all fun (ch, d, e) =>
    (!d || decide ((s.chan ch).drv.length + n ≤ s.fifoDepth ch)) && (!e || decide ((s.chan ch).exp.length + n ≤ s.fifoDepth ch))

/-- A source writes a word into the FIFO of every channel that the active bank gives it. While a quad's PLL is unlocked, what is written
to its channels is discarded and counted (*Table 15.4*). -/
def State.pushLane (s : State) (w : LaneWord) : State :=
  (s.targets w.src).foldl
    (fun (s : State) (ch, d, e) =>
      let c := s.chan ch
      if c.holds.testBit 2 && !s.pllLocked (pllQ (ch / 4)) then s.bump O.CLK_DISCARDED (b2n d + b2n e)
      else s.setChan ch { c with drv := if d then c.drv ++ [w] else c.drv, exp := if e then c.exp ++ [w] else c.exp }) s

/-! ### Tables (R110 to R114) -/

/-- The table in effect of a channel. -/
def State.tsTable (s : State) (ch : Nat) : List Byte := s.image (O.CH_TIMING_SETS ch)

/-- Every waiting table whose instant lies at or before `lim` takes effect, oldest first (R112). -/
def State.takeTables (s : State) (ch lim : Nat) : State :=
  let c := s.chan ch
  let s1 := s.setChan ch { c with tables := c.tables.filter fun x => decide (lim < x.1) }
  (c.tables.filter fun x => decide (x.1 ≤ lim)).foldl (fun (s : State) x => s.setImage (O.CH_TIMING_SETS ch) x.2) s1

/-- A table is committed to a channel with an instant: a PARKED channel takes it at once (R112). -/
def State.giveTable (s : State) (ch inst : Nat) (img : List Byte) : State :=
  if s.parked ch then (s.takeTables ch s.now).setImage (O.CH_TIMING_SETS ch) img
  else s.setChan ch { s.chan ch with tables := (s.chan ch).tables ++ [(inst, img)] }

/-- Unit of the scheduled commit of a quad image with a CH_MASK: commits of one quad whose masks share no channel wait side by side. -/
def quadUnit (n mask : Nat) : Nat := 256 + n * 16 + mask

/-- Where the image of a quad's scheduled commit with a CH_MASK waits. -/
def quadStage (n mask : Nat) : Nat := O.CH_QUAD_SCHEDULE (4 * n) * 16 + mask

/-- The scheduled effect of a table commit for its channels and images, at its instant (R112). -/
def State.tableEffect (s : State) (unit o : Nat) (tables : List Byte → List (Nat × List Byte)) : State :=
  match s.sched .timingSets unit with
  | none => s
  | some a =>
    if !s.due .timingSets unit a then s
    else
      let img := Tbl.get [] s.staged o
      let s1 := { s.endAction .timingSets unit 1 with staged := Tbl.set [] s.staged o [] }
      (tables img).foldl (fun (s : State) x => (s.setReg (O.CH_SCHEDULE_PENDING x.1) 0).giveTable x.1 (s.schedInstant a) x.2) s1

/-- A commit of tables to channels, checked whole under R111 and then given out or armed (R112 to R114). Of an image with several bad
sections TS_REFUSED counts at the first channel alone (DESIGN CHOICE, notes/assumptions). -/
def State.tableCommit (s : State) (unit o tt : Nat) (img : List Byte) (ts : List (Nat × List Byte)) : Status × State :=
  match ts.find? fun x => !tableOk x.2 (s.ireg (O.CH_TRIM x.1)).natAbs with
  | some x => (.refused, s.bump (O.CH_TS_REFUSED x.1) 1)
  | none =>
    if ts.any fun x => s.isSet (O.CH_SCHEDULE_PENDING x.1) then (.busy, s)
    else if tt = 0 then (.okay, ts.foldl (fun (s : State) x => s.giveTable x.1 (s.now + pipeUnits) x.2) s)
    else
      let (st, s1) := s.armAction .timingSets unit tt 0
      if st = .okay then
        (st, ts.foldl (fun (s : State) x => s.setReg (O.CH_SCHEDULE_PENDING x.1) 1) { s1 with staged := Tbl.set [] s1.staged o img })
      else (st, s1)

/-- The owner of TIMING_SETS of a channel. -/
def ownTimingSets (ch : Nat) : ImgOwner := scheduled fun img tt s =>
  if img.length ≠ 10240 then (.refused, s) else s.tableCommit ch (O.CH_TIMING_SETS ch) tt img [(ch, img)]

/-- TIMING_SETS_COMMIT: a commit of a table, or the instant of a scheduled one. -/
def execTimingSetsCommit (t : Nat) (ch : Fin 144) (w : CommitStep) (s : State) : Host.Outcome State Fault Refusal :=
  let s1 := s.tickTo t
  .next
    (match w with
     | .commit r crc tt => s1.commitObj r (O.CH_TIMING_SETS ch.val) crc tt (ownTimingSets ch.val)
     | .effect => s1.tableEffect ch.val (O.CH_TIMING_SETS ch.val) fun img => [(ch.val, img)])

/-- The channels and tables that a quad image applies (*Table 4.11*). -/
def quadTables (n : Nat) (img : List Byte) : List (Nat × List Byte) :=
  ((List.range 4).filter fun i => (byteAt img 5).testBit i).map fun i => (4 * n + i, slice (16 + 10240 * i) 10240 img)

/-- The owner of QUAD_SCHEDULE of quad n (R113). -/
def ownQuadSchedule (n : Nat) : ImgOwner := scheduled fun img tt s =>
  if img.length ≠ 40976 ∨ fieldLE img 0 4 ≠ 0x44515345 ∨ byteAt img 4 ≠ n then (.refused, s)
  else
    let mask := byteAt img 5 % 16
    s.tableCommit (quadUnit n mask) (quadStage n mask) tt img (quadTables n img)

/-- QUAD_SCHEDULE_COMMIT: a commit of a quad image, or the instant of scheduled ones. -/
def execQuadScheduleCommit (t : Nat) (n : Fin 36) (w : CommitStep) (s : State) : Host.Outcome State Fault Refusal :=
  let s1 := s.tickTo t
  .next
    (match w with
     | .commit r crc tt => s1.commitObj r (O.CH_QUAD_SCHEDULE (4 * n.val)) crc tt (ownQuadSchedule n.val)
     | .effect =>
       (List.range 16).foldl (fun (s : State) mask => s.tableEffect (quadUnit n.val mask) (quadStage n.val mask) (quadTables n.val)) s1)

/-- QUAD_SCHEDULE as it reads: the four tables in effect, CH_MASK 0x0F (R113). -/
def State.quadImage (s : State) (n : Nat) : List Byte :=
  leBytes 4 0x44515345 ++ leBytes 1 n ++ leBytes 1 0x0F ++ fill 10 0 ++ (List.range 4).flatMap fun i => s.tsTable (4 * n + i)

/-! ### The pad-state latch and MODE (R125 to R127) -/

/-- What a powered channel gives its pads on DRV and DEN: PARK_CODE while the latch is engaged, the core's levels otherwise. -/
def State.padLevels (s : State) (ch : Nat) : Bool × Bool :=
  if s.isSet (O.CH_PAD_LATCHED ch) then ((s.reg (O.CH_PARK_CODE ch)).testBit 0, (s.reg (O.CH_PARK_CODE ch)).testBit 1)
  else ((s.chan ch).drvLevel, (s.chan ch).denLevel)

/-- The levels at the balls of DRV and DEN; `none` is undriven, as every output but the memory resets is in power-on reset (R446, R447). -/
def State.padPins (s : State) (ch : Nat) : Option (Bool × Bool) := if s.porAt.isSome then none else some (s.padLevels ch)

/-- A parked channel drives PARK_CODE. -/
def State.parkLevels (s : State) (ch : Nat) : State :=
  let v := s.reg (O.CH_PARK_CODE ch)
  s.setChan ch { s.chan ch with drvLevel := v.testBit 0, denLevel := v.testBit 1 }

/-- Engage or release the latch for a cause; STATE follows (R126). -/
def State.holdPad (s : State) (ch cause : Nat) (on : Bool) : State :=
  let c := s.chan ch
  let h := setBit c.holds cause on
  let s1 := (s.setChan ch { c with holds := h }).setBool (O.CH_PAD_LATCHED ch) (h != 0)
  let st := s.reg (O.CH_STATE ch)
  if h ≠ 0 then (if st = 0 ∨ st = 3 then s1.setReg (O.CH_STATE ch) 4 else s1)
  else if st = 4 then
    if s.isSet (O.SER_SER_EN ch) then s1.setReg (O.CH_STATE ch) 3
    else (s1.setChan ch { s1.chan ch with parkedAt := s.now }).setReg (O.CH_STATE ch) 0
  else s1

/-- The owner of PARK_CODE: it reaches the latch, and the pads of a PARKED channel, at once (R126); in S-mode DEN stands at PARK_DEN
(*Table 4.12*). -/
def ownParkCode (ch : Nat) : Owner := fun v s =>
  let s1 := s.setReg (O.CH_PARK_CODE ch) v
  (.okay,
    if s1.parked ch then s1.parkLevels ch
    else if s1.reg (O.CH_STATE ch) = 3 then
      (if s1.reg (O.SER_LOOPBACK ch) = 1 ∨ s1.reg (O.SER_LOOPBACK ch) = 2 then s1.parkLevels ch
       else s1.setChan ch { s1.chan ch with denLevel := v.testBit 1 })
    else s1)

/-- PARK_CODE_WRITE. -/
def execParkCodeWrite (t : Nat) (r : Requester) (ch : Fin 144) (v : Nat) (s : State) : Host.Outcome State Fault Refusal :=
  .next ((s.tickTo t).writeObj r (O.CH_PARK_CODE ch.val) v (ownParkCode ch.val))

/-- The owner of MODE (R127). -/
def ownChMode (ch : Nat) : Owner := fun v s =>
  if !s.parked ch then (.refused, s)
  else if s.reg (O.CH_MODE ch) = v then (.okay, s)
  else (.okay, (s.setReg (O.CH_MODE ch) v).holdPad ch 5 true)

/-- MODE_CHANGE. -/
def execModeChange (t : Nat) (r : Requester) (ch : Fin 144) (v : Nat) (s : State) : Host.Outcome State Fault Refusal :=
  .next ((s.tickTo t).writeObj r (O.CH_MODE ch.val) v (ownChMode ch.val))

/-- MODE_CHANGE_DONE: the change ends and the latch lets go (R127). -/
def execModeChangeDone (t : Nat) (ch : Fin 144) (s : State) : Host.Outcome State Fault Refusal :=
  let s1 := s.tickTo t
  .next (if ((s1.chan ch.val).holds).testBit 5 then s1.holdPad ch.val 5 false else s1)

/-- The owner of TRIM (R117). -/
def ownTrim (ch : Nat) : Owner := fun v s =>
  if (signed 32 v).natAbs > minPeriod (s.tsTable ch) then (.refused, s) else (.okay, s.setReg (O.CH_TRIM ch) v)

/-- TRIM_WRITE. -/
def execTrimWrite (t : Nat) (r : Requester) (ch : Fin 144) (v : Nat) (s : State) : Host.Outcome State Fault Refusal :=
  .next ((s.tickTo t).writeObj r (O.CH_TRIM ch.val) v (ownTrim ch.val))

/-- DESKEW of a pair: 0 DRV, 1 DEN, 2 CMH, 3 CML. -/
def deskewObj (ch pair : Nat) : Nat := O.CH_DESKEW_DRV ch + pair

/-- DESKEW_WRITE (R128). -/
def execDeskewWrite (t : Nat) (r : Requester) (ch : Fin 144) (pair : Fin 4) (v : Nat) (s : State) : Host.Outcome State Fault Refusal :=
  let o := deskewObj ch.val pair.val
  .next ((s.tickTo t).writeObj r o v (storeIf (fun s => s.parked ch.val) o))

/-- The owner of EDGE_FAULT: clearing it clears the gathered causes (*Table 4.15*). -/
def ownEdgeFault (ch : Nat) : Owner := fun v s =>
  let s1 := s.clearFlags (O.CH_EDGE_FAULT ch) v
  (.okay, if s1.isSet (O.CH_EDGE_FAULT ch) then s1 else s1.setReg (O.CH_EDGE_FAULT_CAUSE ch) 0)

/-! ### Background calibration (R129) -/

/-- Apply the pending correction steps of a channel; each step counts. With BGCAL_ENABLE at 0 the mapping is frozen, and they are lost. -/
def State.takeCorr (s : State) (ch : Nat) : State :=
  let c := s.chan ch
  if c.corrNext = [] then s
  else if !s.isSet (O.CH_BGCAL_ENABLE ch) then s.setChan ch { c with corrNext := [] }
  else (s.setChan ch { c with corr := List.zipWith (· + ·) c.corr c.corrNext, corrNext := [] }).bump (O.CH_BGCAL_STEPS ch)
    (c.corrNext.countP fun x => x ≠ 0)

/-- BGCAL_MEASUREMENT: quad n measures its replica line; `steps` gives, for each channel and pair in turn, the correction
measured, at most one step of 0.5 ps. -/
def execBgcalMeasurement (t : Nat) (n : Fin 36) (steps : List Int) (s : State) : Host.Outcome State Fault Refusal :=
  .next ((List.range 4).foldl
    (fun (s : State) i =>
      let ch := 4 * n.val + i
      if !s.isSet (O.CH_BGCAL_ENABLE ch) then s
      else
        let d := (List.range 4).map fun p => max (-1) (min 1 (steps.getD (4 * i + p) 0))
        let s1 := s.setChan ch { s.chan ch with corrNext := d }
        if s1.parked ch then s1.takeCorr ch else s1) (s.tickTo t))

/-! ### Steps (R122, R180) -/

/-- STEP_VALID clears (R122). -/
def State.invalidate (s : State) (ch : Nat) : State :=
  let c := s.chan ch
  let s1 := s.setChan ch { c with steps := c.steps.map fun x => if x.id = c.stepId then { x with valid := false } else x }
  if s1.isSet (O.CH_STEP_VALID ch) then
    ((s1.setReg (O.CH_STEP_VALID ch) 0).bump (O.CH_STEP_INVALID_COUNT ch) 1).trace 4 ch 2 (s1.reg (O.CH_ACTIVE_TS ch))
  else s1

/-- An edge fault (R116, R120). -/
def State.edgeFault (s : State) (ch cause : Nat) : State :=
  ((((s.setFlag (O.CH_EDGE_FAULT ch) 0 (O.CH_EDGE_FAULT_COUNT ch) 1).setReg (O.CH_EDGE_FAULT_CAUSE ch)
    (setBit (s.reg (O.CH_EDGE_FAULT_CAUSE ch)) cause true)).trace 4 ch 1 (s.reg (O.CH_ACTIVE_TS ch)))).invalidate ch

/-- Close the present step; one without a vector leaves no result (R180). -/
def State.closeStep (s : State) (ch : Nat) : State :=
  let c := s.chan ch
  s.setChan ch { c with
    steps := (c.steps.filter fun x => x.id ≠ c.stepId || decide (0 < x.vectors)).map fun x =>
      if x.id = c.stepId then { x with closed := true } else x }

/-- Open the next step: STEP_VALID is set. -/
def State.openStep (s : State) (ch : Nat) : State :=
  let c := s.chan ch
  (s.setChan ch { c with stepId := c.stepId + 1, steps := c.steps ++ [{ id := c.stepId + 1 }] }).setReg (O.CH_STEP_VALID ch) 1

/-- Change a step of a channel by its number. -/
def State.updStep (s : State) (ch id : Nat) (f : StepRec → StepRec) : State :=
  let c := s.chan ch
  s.setChan ch { c with steps := c.steps.map fun x => if x.id = id then f x else x }

/-! ### Placing edges and strobes (R115, R116) -/

/-- Put an edge into a queue that is ordered by instant, after those of the same instant. -/
def insertEdge (e : Edge) : List Edge → List Edge
  | [] => [e]
  | x :: r => if e.inst < x.inst then e :: x :: r else x :: insertEdge e r

def insertStrobe (e : Strobe) : List Strobe → List Strobe
  | [] => [e]
  | x :: r => if e.ballH < x.ballH then e :: x :: r else x :: insertStrobe e r

/-- The ball instant of a programmed instant on a pair (R115). -/
def State.ball (s : State) (ch pair : Nat) (prog : Int) : Nat :=
  (prog + s.ireg (deskewObj ch pair) + (s.chan ch).corr.getD pair 0).toNat

/-- Queue one drive or enable edge programmed for `prog`, of a vector resolved at instant `from_`. -/
def State.queueEdge (s : State) (ch : Nat) (den : Bool) (from_ : Nat) (prog : Int) (level : Bool) : State :=
  let c := s.chan ch
  let b := s.ball ch (b2n den) prog
  let e : Edge := ⟨max b from_, level, decide (b < from_)⟩
  let q := if den then c.denQ else c.drvQ
  if q.length ≥ 64 then s.edgeFault ch 1
  else
    let c1 := { c with lastEdge := max c.lastEdge e.inst }
    s.setChan ch (if den then { c1 with denQ := insertEdge e q } else { c1 with drvQ := insertEdge e q })

/-- Entries that the queued strobes take on a pair's queue. -/
def strobeEntries (l : List Strobe) : Nat := l.foldl (fun n x => n + if x.window then 2 else 1) 0

/-- Queue one strobe. -/
def State.queueStrobe (s : State) (ch from_ : Nat) (x : Strobe) : State :=
  let c := s.chan ch
  if strobeEntries c.strobes + (if x.window then 2 else 1) > 64 then s.edgeFault ch 1
  else
    let y := { x with ballH := max x.ballH from_, ballL := max x.ballL from_, closeH := max x.closeH from_, closeL := max x.closeL from_,
                      late := decide (x.ballH < from_) || decide (x.ballL < from_) }
    s.setChan ch { c with strobes := insertStrobe y c.strobes, lastEdge := max c.lastEdge (max y.closeH y.closeL) }

/-- What a vector gives a channel: its MODE, drive, expect and mask bytes, and its sideband. -/
structure VecData where
  mode : Nat
  drive : Nat
  expect : Nat
  mask : Nat
  a : Nat
  p : Nat

/-- Begin a vector with timing set i at the period start P: its edges and strobes are queued (R105 to R109, R115). -/
def State.beginVector (s : State) (ch P i : Nat) (t : TSet) (v : VecData) : State :=
  let base : Int := (P : Int) + s.ireg (O.CH_TRIM ch)
  let from_ := P - pipeUnits
  let s1 := if modeDrives v.mode && t.drives then
      (t.driveEdges v.drive).foldl (fun (s : State) e => s.queueEdge ch false from_ (base + (e.1 : Int)) e.2) s
    else s
  let s2 := (t.enableEdges (modeDrives v.mode)).foldl (fun (s : State) e => s.queueEdge ch true from_ (base + (e.1 : Int)) e.2) s1
  let site := s.reg (O.CH_SITE ch)
  let s3 := if modeCompares v.mode && t.compares then
      t.strobeEdges.foldl
        (fun (s : State) (k, o, cl, ab) =>
          s.queueStrobe ch from_
            { prog := (base + (o : Int)).toNat, ballH := s.ball ch 2 (base + (o : Int)), ballL := s.ball ch 3 (base + (o : Int)),
              closeH := s.ball ch 2 (base + (cl : Int)), closeL := s.ball ch 3 (base + (cl : Int)), window := t.window, abuts := ab,
              late := false, slot := k, code := expectCode v.mode (v.expect.testBit k) (v.mask.testBit k), start := P, site := site,
              a := v.a, p := v.p, step := (s.chan ch).stepId }) s2
    else s2
  let c := s3.chan ch
  let s4 := (s3.setChan ch { c with nextStart := P + t.period, period := t.period, lastTs := i, first := false }).updStep ch c.stepId
    fun x => { x with vectors := x.vectors + 1 }
  ((s4.setReg (O.CH_ACTIVE_TS ch) i).bump (O.CH_VECTORS ch) 1).countEvent 1 ch 0 1

/-- The park vector at a period start P (R119, R120): PARK_VECTOR with the last timing set begun, or set 0. -/
def State.parkVector (s : State) (ch P : Nat) : State :=
  let pv := s.reg (O.CH_PARK_VECTOR ch)
  let c := s.chan ch
  let img := s.tsTable ch
  let i := if (tsetAt img c.lastTs).valid then c.lastTs else 0
  let all := fun b => if pv.testBit b then 0xFF else 0
  (s.beginVector ch P i (tsetAt img i) ⟨pv % 4, all 2, all 3, all 4, 0, 0⟩).countEvent 1 ch 3 1

/-! ### Parking -/

/-- A channel enters PARKED (R121, R125): it drives PARK_CODE, waiting tables take effect, its step closes, and its source's run
record closes (R224). -/
def State.enterParked (s : State) (ch : Nat) : State :=
  let s1 := s.setReg (O.CH_STATE ch) (if s.isSet (O.CH_PAD_LATCHED ch) then 4 else 0)
  let c := s1.chan ch
  let s2 := (s1.setChan ch { c with half := false, stopping := false, first := true, lastTs := 0, parkedAt := s.now }).parkLevels ch
  ((((s2.takeTables ch (c.tables.foldl (fun m x => max m x.1) 0)).closeStep ch).takeCorr ch).parkCapture ch).trace 4 ch 3
    (s2.reg (O.CH_ACTIVE_TS ch))

/-- A channel is parked by force (R402): words, edges and strobes are discarded. -/
def State.forcePark (s : State) (ch : Nat) : State :=
  let c := s.chan ch
  let s1 := s.setChan ch { c with drv := [], exp := [], drvQ := [], denQ := [], strobes := [] }
  let s2 := c.fails.foldl State.presentFail (s1.setChan ch { s1.chan ch with fails := [] })
  if s2.parked ch ∨ s2.reg (O.CH_STATE ch) = 3 then s2 else s2.enterParked ch

/-- CHANNEL_STOP: after the stop and the last edge, at the first period boundary after it, the channel enters PARKED (R121). -/
def execChannelStop (t : Nat) (ch : Fin 144) (s : State) : Host.Outcome State Fault Refusal :=
  let s1 := s.tickTo t
  let c := s1.chan ch.val
  let n := if c.lastEdge < c.nextStart ∨ c.period = 0 then 0 else (c.lastEdge - c.nextStart) / c.period + 1
  .next
    (if !c.stopping ∨ c.drvQ ≠ [] ∨ c.denQ ≠ [] ∨ c.strobes ≠ [] ∨ s1.now < c.nextStart + n * c.period then s1
     else s1.enterParked ch.val)

/-! ### Pattern start and vectors (R115, R123) -/

/-- The instant of a pattern start of a PARKED channel, where one has come: a start of an engine that is one of its sources, or the entry of
the first word, of the fabric lane that leads it, that has entered the FIFO since it parked (R115, R300). -/
def State.patternStart (s : State) (ch : Nat) : Option Nat :=
  let c := s.chan ch
  let eng := fun (src : Nat) =>
    if src < 0x800 then
      match (Tbl.get ({} : Engine) s.engines (src / 4)).startAt with
      | some a => if c.parkedAt ≤ a ∧ a ≤ s.now then some a else none
      | none => none
    else none
  let lead := if c.drvOut = srcNone then c.expOut else c.drvOut
  let fab :=
    if 0x800 ≤ lead ∧ lead < 0x900 then
      ((if c.drvOut = srcNone then c.exp else c.drv).find? fun w => decide (c.parkedAt ≤ w.inst)).map (·.inst)
    else none
  [eng c.drvOut, eng c.expOut, fab].foldl
    (fun m x => match m, x with
      | some a, some b => some (min a b)
      | some a, none => some a
      | none, y => y) none

/-- PATTERN_START: a PARKED channel in P-mode begins its first vector START_OFFSET after its pattern's start instant. -/
def execPatternStart (t : Nat) (ch : Fin 144) (s : State) : Host.Outcome State Fault Refusal :=
  let s1 := (s.tickTo t).switchOut ch.val
  let c := s1.chan ch.val
  .next
    (if s1.reg (O.CH_STATE ch.val) ≠ 0 ∨ s1.reg (O.CH_MODE ch.val) ≠ 0 ∨ (c.drvOut = srcNone ∧ c.expOut = srcNone) then s1
     else
       match s1.patternStart ch.val with
       | none => s1
       | some a =>
         let off := (if s1.reg (O.CH_FIFO_MODE ch.val) = 1 then 332 else 32) * Config.nsUnits
         (s1.setChan ch.val { c with nextStart := a + off, period := 0, first := true, lastTs := 0, half := false,
                                     stopping := false, lastEdge := 0 }).setReg (O.CH_STATE ch.val) 1)

/-- The word at a FIFO's head, where it is present for a vector that begins at P: one output pipeline before (R100, R119). -/
def presentWord (fifo : List LaneWord) (P : Nat) : Option LaneWord :=
  match fifo with
  | w :: _ => if w.inst + pipeUnits ≤ P then some w else none
  | [] => none

/-- The due vector finds no word: the park vector, counted (R119). -/
def State.underrun (s : State) (ch P : Nat) : State :=
  let s1 := (s.chanPulse ch 7).setFlag (O.CH_UNDERRUN ch) 0 (O.CH_UNDERRUN_COUNT ch) 1
  let s2 := if s1.reg (O.CH_STATE ch) = 2 then s1 else (s1.setReg (O.CH_STATE ch) 2).trace 4 ch 0 (s1.reg (O.CH_ACTIVE_TS ch))
  (s2.parkVector ch P).invalidate ch

/-- The first vector of a pattern, or the first after a step mark, closes the step and opens the next (R122, R180). -/
def State.stepAt (s : State) (ch : Nat) (mark : Bool) : State :=
  if (s.chan ch).first || mark then (s.closeStep ch).openStep ch else s

/-- Consume the vector at the head of the FIFOs: its words leave when vector 1, or a word's only vector, begins (R100). -/
def State.consumeVector (s : State) (ch : Nat) (lead : LaneWord) : State :=
  let c := s.chan ch
  if !c.half ∧ lead.vecs = 2 then s.setChan ch { c with half := true }
  else s.setChan ch { c with drv := c.drv.drop 1, exp := c.exp.drop 1, half := false, stopping := lead.stop }

/-- The vector begins from the words of the two sources (R103, R120, R123). -/
def State.wordVector (s : State) (ch P : Nat) (lead exp : LaneWord) (haveDrv haveExp : Bool) : State :=
  let v := b2n (s.chan ch).half
  let s0 := match lead.site with
    | some x => if haveDrv ∧ v = 0 then s.setReg (O.CH_SITE ch) (x % 1024) else s
    | none => s
  let f := bits lead.word (8 * v + 7) (8 * v)
  let i := f / 4
  let byte := fun (w lo : Nat) => bits w (lo + 8 * v + 7) (lo + 8 * v)
  let d : VecData :=
    { mode := f % 4, drive := if haveDrv then byte lead.word 16 else 0, expect := if haveExp then byte exp.word 32 else 0,
      mask := if haveExp then byte exp.word 48 else 0xFF,
      a := if v = 1 then exp.a1 else exp.a0, p := if v = 1 then exp.p1 else exp.p0 }
  let t := tsetAt (s0.tsTable ch) i
  let s1 := (s0.stepAt ch (if v = 1 then lead.mark1 else lead.mark0)).consumeVector ch lead
  let s2 := if s1.reg (O.CH_STATE ch) = 2 then s1.setReg (O.CH_STATE ch) 1 else s1
  if !t.valid || (modeDrives d.mode && !t.drives) || (modeCompares d.mode && !t.compares) then
    (s2.parkVector ch P).edgeFault ch 2
  else s2.beginVector ch P i t d

/-- One period boundary at P, in the order of R123. -/
def State.boundary (s : State) (ch P : Nat) : State :=
  let s1 := ((s.switchOut ch).takeTables ch P).takeCorr ch
  let c := s1.chan ch
  let needD := decide (c.drvOut ≠ srcNone)
  let needE := decide (c.expOut ≠ srcNone)
  let stop := fun (s : State) (c : Chan) => s.setChan ch { c with stopping := true, half := false }
  if !needD && !needE then stop s1 c
  else
    let d := presentWord c.drv P
    let e := presentWord c.exp P
    let lead := if needD then d else e
    match lead with
    | none => (s1.stepAt ch false).underrun ch P
    | some w =>
      if w.vecs = 0 then
        let bare := fun (l : List LaneWord) => match l with
          | x :: r => if x.vecs = 0 then r else l
          | [] => []
        stop s1 { c with drv := bare c.drv, exp := bare c.exp }
      else if needE then
        match e with
        | none => (s1.stepAt ch false).underrun ch P
        | some x => if x.vecs = 0 then (s1.stepAt ch false).underrun ch P else s1.wordVector ch P w x needD true
      else s1.wordVector ch P w w needD false

/-- VECTOR_BEGIN: a running channel comes to its next period boundary. -/
def execVectorBegin (t : Nat) (ch : Fin 144) (s : State) : Host.Outcome State Fault Refusal :=
  let s1 := s.tickTo t
  let c := s1.chan ch.val
  let st := s1.reg (O.CH_STATE ch.val)
  .next (if (st ≠ 1 ∧ st ≠ 2) ∨ c.stopping ∨ s1.now < c.nextStart then s1 else s1.boundary ch.val c.nextStart)

/-! ### Edges at the ball (R106, R107, R116) -/

/-- 77.0 ps, the least distance of two transitions placed on a pair. -/
def crowdUnits : Nat := 154

/-- Place the head of a drive or enable queue: `last` is the last instant placed, `level` the level reached. Gives the queue, the
level and last instant after it, and whether a crowding fault is due; `none` where nothing is due yet. -/
def placeEdge (q : List Edge) (last : Nat) (level : Bool) (now : Nat) : Option (List Edge × Nat × Bool × Bool) :=
  match q with
  | [] => none
  | e :: r =>
    if now < e.inst then none
    else if e.level = level then some (r, last, level, false)
    else if 0 < last ∧ e.inst < last + crowdUnits then
      if now < last + crowdUnits then some ({ e with inst := last + crowdUnits, late := true } :: r, last, level, false)
      else some (r, last + crowdUnits, e.level, true)
    else some (r, e.inst, e.level, e.late)

/-- DRIVE_EDGE: the next queued edge of DRV (or of DEN) comes to its ball instant. -/
def execDriveEdge (t : Nat) (ch : Fin 144) (den : Bool) (s : State) : Host.Outcome State Fault Refusal :=
  let s1 := s.tickTo t
  let c := s1.chan ch.val
  .next
    (match placeEdge (if den then c.denQ else c.drvQ) (if den then c.denLast else c.drvLast) (if den then c.denLevel else c.drvLevel)
       s1.now with
     | none => s1
     | some (q, last, level, crowded) =>
       let c1 := { c with lastEdge := max c.lastEdge last }
       let s2 := s1.setChan ch.val
         (if den then { c1 with denQ := q, denLast := last, denLevel := level }
          else { c1 with drvQ := q, drvLast := last, drvLevel := level })
       if crowded then s2.edgeFault ch.val 0 else s2)

/-! ### Judgement (R108, R109) -/

/-- Whether a window detects an excursion: 40 ps or longer always, none never, a shorter one perhaps (R109). -/
def State.detects (s : State) (len : Nat) : Bool × State :=
  if len ≥ 80 then (true, s) else if len = 0 then (false, s) else s.drawBool

/-- The longest excursions that a look shows, whatever its form: CMH low, CML low, either high, both high. -/
def lookSpans : Look → Nat × Nat × Nat × Nat
  | .edge h l => (if h then 0 else 80, if l then 0 else 80, if h || l then 80 else 0, if h && l then 80 else 0)
  | .window a b c d => (a, b, c, d)

/-- Judge a strobe: whether it fails, and whether the comparator is in conflict (*Table 4.8*). -/
def State.judge (s : State) (code : Nat) (look : Look) : Bool × Bool × State :=
  let (hl, ll, any, both) := lookSpans look
  let (conf, s1) := s.detects both
  let (cond, s2) := s1.detects (if code = 1 then hl else if code = 2 then ll else if code = 3 then any else 0)
  (decide (code ≠ 0) && (conf || cond), conf, s2)

/-- A failing slot joins its vector's fail so far (R217, R223). -/
def State.failSlot (s : State) (ch : Nat) (x : Strobe) (flags leave : Nat) : State :=
  let c := s.chan ch
  let fresh : FailVec :=
    { ch := ch, inst := x.prog, tt := s.ttOf x.prog, start := x.start, site := x.site, p := x.p, a := x.a, slots := 2 ^ x.slot,
      flags := flags, doneAt := leave }
  let join := fun (v : FailVec) =>
    { v with slots := v.slots ||| 2 ^ x.slot, flags := v.flags ||| flags, doneAt := max v.doneAt leave,
             inst := min v.inst x.prog, tt := if x.prog < v.inst then s.ttOf x.prog else v.tt }
  -- a pending deadline of the unit's queue keeps the slots before its S and those at or after it apart (R235)
  let same := fun (v : FailVec) => v.start == x.start && s.afterDeadline (ch / 36) v == s.afterDeadline (ch / 36) fresh
  let fails := if c.fails.any same then c.fails.map (fun v => if same v then join v else v) else c.fails ++ [fresh]
  s.setChan ch { c with fails := fails }

/-- A fail bit reaches fail capture, repair, its site, the Halter and its step (R108, R217). -/
def State.failBit (s : State) (ch ball : Nat) (x : Strobe) (conflict : Bool) : State :=
  let valid := s.isSet (O.CH_STEP_VALID ch)
  let leave := ball + pipeUnits
  let flags := b2n (!valid) + 2 * b2n x.window + 4 * b2n conflict
  let s1 := s.countFail ch x.site x.prog
  let s2 := if s1.captures ch x.site x.prog then s1.failSlot ch x flags leave else s1
  (((s2.presentRepair leave ch x.start x.site x.p x.prog (!valid)).haltBit ball ch x.site true).updStep ch x.step fun y =>
    { y with fails := y.fails + 1 }).countEvent 1 ch 1 1

/-- A match bit reaches the Halter and its step (R217). -/
def State.matchBit (s : State) (ch ball : Nat) (x : Strobe) : State :=
  ((s.haltBit ball ch x.site false).updStep ch x.step fun y => { y with hits := y.hits + 1 }).countEvent 1 ch 2 1

/-- The failing vectors of a channel whose last strobe has been judged go to fail capture (R223). -/
def State.presentDone (s : State) (ch : Nat) : State :=
  let c := s.chan ch
  let open_ := fun (v : FailVec) => c.strobes.any fun y => y.start == v.start
  (c.fails.filter fun v => !open_ v).foldl State.presentFail (s.setChan ch { c with fails := c.fails.filter open_ })

/-- Where a strobe stands on one of the pairs CMH (`h`) and CML: the instant it is to be placed at, that of its close, and those placed. -/
def Strobe.ball (x : Strobe) (h : Bool) : Nat := if h then x.ballH else x.ballL
def Strobe.close (x : Strobe) (h : Bool) : Nat := if h then x.closeH else x.closeL
def Strobe.placed (x : Strobe) (h : Bool) : Option Nat := if h then x.atH else x.atL
def Strobe.ended (x : Strobe) (h : Bool) : Option Nat := if h then x.endH else x.endL

/-- A strobe placed on a pair, or its window closed there. -/
def Strobe.put (x : Strobe) (h closing : Bool) (p : Nat) : Strobe :=
  let y := if closing then x else if h then { x with atH := some p } else { x with atL := some p }
  if closing || !x.window then (if h then { y with endH := some p } else { y with endL := some p }) else y

/-- The next event of a strobe on a pair: its instant, and whether it closes a window. -/
def Strobe.next (x : Strobe) (h : Bool) : Option (Nat × Bool) :=
  match x.placed h, x.ended h with
  | none, _ => some (x.ball h, false)
  | some _, none => some (x.close h, true)
  | some _, some _ => none

/-- The earliest event of the queued strobes on a pair, with the place of its strobe; of several at one instant a close comes first. -/
def firstEvent (h : Bool) (l : List Strobe) : Option (Nat × Nat × Bool) :=
  (l.zipIdx).foldl
    (fun m (x, i) =>
      match x.next h, m with
      | none, _ => m
      | some (b, c), none => some (i, b, c)
      | some (b, c), some (_, b', c') => if b < b' ∨ (b = b' ∧ c ∧ !c') then some (i, b, c) else m) none

/-- Place the strobes of a pair in time order up to an instant, each at least 77.0 ps after the one before, but for an opening that abuts
the close before it (R116): the strobes and the last instant placed. The last argument bounds the events. -/
def placeStrobes (h : Bool) (now : Nat) (l : List Strobe) (last : Nat) : Nat → List Strobe × Nat
  | 0 => (l, last)
  | n + 1 =>
    match firstEvent h l with
    | none => (l, last)
    | some (i, b, closing) =>
      match l[i]? with
      | none => (l, last)
      | some x =>
        let p := if last = 0 then b else if x.abuts ∧ !closing then max b last else max b (last + crowdUnits)
        if now < p then (l, last) else placeStrobes h now (l.set i (x.put h closing p)) p n

/-- The instant at which a strobe has ended on both pairs. -/
def Strobe.doneAt (x : Strobe) : Option Nat :=
  match x.endH, x.endL with
  | some a, some b => some (max a b)
  | _, _ => none

/-- How many of a strobe's edges were moved: its opening, or its close (R116). -/
def Strobe.moved (x : Strobe) : Nat :=
  let later := fun (p : Option Nat) (b : Nat) => p.any fun a => decide (b < a)
  b2n (x.late || (!x.abuts && (later x.atH x.ballH || later x.atL x.ballL))) + b2n (x.window && (later x.endH x.closeH || later x.endL x.closeL))

/-- The strobe of a channel that has ended first, where one has ended at an instant: it, when it ended, and the channel without it. -/
def Chan.nextStrobe (c : Chan) (now : Nat) : Option (Strobe × Nat × Chan) :=
  let (l1, h) := placeStrobes true now c.strobes c.cmhLast (2 * c.strobes.length)
  let (l2, l) := placeStrobes false now l1 c.cmlLast (2 * c.strobes.length)
  let c1 := { c with strobes := l2, cmhLast := h, cmlLast := l, lastEdge := max c.lastEdge (max h l) }
  ((l2.zipIdx).foldl
    (fun (m : Option (Strobe × Nat × Nat)) (x, i) =>
      match x.doneAt, m with
      | none, _ => m
      | some d, none => some (x, d, i)
      | some d, some (_, d', _) => if d < d' then some (x, d, i) else m) none).map fun (x, d, i) => (x, d, { c1 with strobes := l2.eraseIdx i })

/-- What an edge strobe sampled. -/
def Chan.sampled (c : Chan) : Look → Chan
  | .edge h l => { c with cmhS := h, cmlS := l }
  | .window _ _ _ _ => c

/-- STROBE: the queued strobe of a channel that ends next has sampled CMH and CML and is judged. -/
def execStrobe (t : Nat) (ch : Fin 144) (look : Look) (s : State) : Host.Outcome State Fault Refusal :=
  let s1 := s.tickTo t
  .next
    (match (s1.chan ch.val).nextStrobe s1.now with
     | none => s1
     | some (x, ball, c) =>
       let s2 := (List.range x.moved).foldl (fun (s : State) _ => s.edgeFault ch.val 0) ((s1.setChan ch.val (c.sampled look)).chanPulse ch.val 2)
       if s2.isSet (O.CH_PAD_LATCHED ch.val) then s2.presentDone ch.val
       else
         let (fail, conflict, s3) := s2.judge x.code look
         let s4 := if conflict then s3.bump (O.CH_CONFLICT ch.val) 1 else s3
         (if x.code = 0 then s4
          else if fail then (s4.chanPulse ch.val 3).failBit ch.val ball x conflict
          else (s4.chanPulse ch.val 4).matchBit ch.val ball x).presentDone ch.val)

end Sys2Proof.Machine
end

