-- ==== Sys2Proof/Machine/Grind.lean ====
section
/-! DEFINITION. Grind and the Carafe (R376 to R381): stream descriptors, decompression, and delivery to the engine ports. -/

namespace Sys2Proof.Machine

/-- Key of port k of Grind q. -/
def grindKey (q k : Nat) : Nat := q * 512 + k

/-- A port behind its descriptor. -/
def State.port (s : State) (q k : Nat) : GrindPort := Tbl.get {} s.grind (grindKey q k)

/-- Replace a port. -/
def State.setPort (s : State) (q k : Nat) (p : GrindPort) : State := { s with grind := Tbl.set {} s.grind (grindKey q k) p }

/-- A stream descriptor (*Table 13.11*). -/
structure StreamDesc where
  base : Nat
  length : Nat
  loops : Nat
  first : Nat
  units : Nat
  flags : Nat
  deriving DecidableEq, Repr

/-- Descriptor k of a STREAMS image. -/
def descAt (img : List Byte) (k : Nat) : StreamDesc :=
  let b := slice (32 * k) 32 img
  ⟨fieldLE b 0 8, fieldLE b 8 4, fieldLE b 12 4, fieldLE b 16 2, fieldLE b 18 2, byteAt b 20⟩

def StreamDesc.valid (d : StreamDesc) : Bool := d.flags.testBit 0
def StreamDesc.resident (d : StreamDesc) : Bool := d.flags.testBit 1

/-- The descriptor of a port. -/
def State.desc (s : State) (q k : Nat) : StreamDesc := descAt (s.image (O.GRIND_STREAMS q)) k

/-- Words of an extent (R376). -/
def StreamDesc.capacity (d : StreamDesc) : Nat := d.units * 1024

/-- The engine a port belongs to (R376). -/
def portEngine (q k : Nat) : Nat := 128 * q + k / 4

/-- A stream error (R379): the port stops producing; words already produced are still delivered, so those of a resident
stream that had not reached END become due now. -/
def State.grindError (s : State) (q k cause memStatus : Nat) (p : GrindPort) : State :=
  let n := if (s.desc q k).resident && !p.ended then p.words.length else 0
  (((s.ledAdd 0x1065 0 n).ledAdd 0x1065 2 n).setPort q k { p with st := 5, cause := cause, memStatus := memStatus }).setFlag (O.GRIND_GRIND_ERR q) 0 (O.GRIND_GRIND_ERR_COUNT q) 1

/-- Put one decompressed word into the extent. -/
def GrindPort.produce (p : GrindPort) (w : BitVec 48) : GrindPort :=
  { p with words := p.words ++ [w], history := w :: p.history.take 4095, produced := p.produced + 1 }

/-- What one step of decompression finds. -/
inductive GrindStep where
  /-- a word produced, or a token taken -/
  | go (p : GrindPort)
  /-- more bytes, or room in the extent, are needed -/
  | wait
  | ended (p : GrindPort)
  | error (cause : Nat)
  deriving DecidableEq, Repr

/-- One step of decompression (R377, R379): one word of the token in progress, or the next token's header. -/
def grindStep (d : StreamDesc) (p : GrindPort) : GrindStep :=
  match p.tok with
  | some (kind, n + 1, dist) =>
    if p.words.length ≥ d.capacity then (if d.resident then .error 3 else .wait)
    else if kind = 0 then
      if p.buf.length < 6 then (if p.fetched ≥ d.length then .error 2 else .wait)
      else .go { p.produce (BitVec.ofNat 48 (leNat (p.buf.take 6))) with buf := p.buf.drop 6, tok := some (kind, n, dist) }
    else .go { p.produce (p.history.getD (dist - 1) 0) with tok := some (kind, n, dist) }
  | some (_, 0, _) => .go { p with tok := none }
  | none =>
    if p.buf.length < 2 then (if p.fetched ≥ d.length then .error 2 else .wait)
    else
      let h := leNat (p.buf.take 2)
      let n := h % 2 ^ 14 + 1
      match h / 2 ^ 14 with
      | 0 => .go { p with buf := p.buf.drop 2, tok := some (0, n, 0) }
      | 1 => if p.produced = 0 then .error 1 else .go { p with buf := p.buf.drop 2, tok := some (1, n, 1) }
      | 2 =>
        if p.buf.length < 4 then (if p.fetched ≥ d.length then .error 2 else .wait)
        else
          let w := leNat (slice 2 2 p.buf)
          if w / 2 ^ 12 ≠ 0 ∨ w % 2 ^ 12 + 1 > p.produced then .error 1
          else .go { p with buf := p.buf.drop 4, tok := some (2, n, w % 2 ^ 12 + 1) }
      | _ => if h % 2 ^ 14 = 0 then .ended { p with ended := true } else .error 1

/-- Decompress as far as the bytes and the extent allow: the port after the last good step, and what stopped it. The second
argument bounds the steps. -/
def grindRun (d : StreamDesc) : Nat → GrindPort → GrindPort × GrindStep
  | 0, p => (p, .wait)
  | n + 1, p =>
    match grindStep d p with
    | .go p1 => grindRun d n p1
    | r => (p, r)

/-- Steps that one line of compressed bytes and one extent can need at most. -/
def grindFuel (d : StreamDesc) : Nat := 2 * d.capacity + 200

/-- The Carafe words that a port has produced since it was as `p` are written, and good again. -/
def State.carafeWritten (s : State) (q : Nat) (d : StreamDesc) (p p1 : GrindPort) : State :=
  let cap := max 1 d.capacity
  s.freshWords fun tg a w =>
    tg == 3 && a == q && decide (d.first * 1024 ≤ w) && decide (w < d.first * 1024 + cap) &&
      decide ((w - d.first * 1024 + cap - p.produced % cap) % cap < p1.produced - p.produced)

/-- Let a port decompress what it holds, and take its state and the ledgers along (R378, R381). -/
def State.grindAdvance (s : State) (q k : Nat) : State :=
  let d := s.desc q k
  let p := s.port q k
  if p.st = 0 ∨ p.st = 5 ∨ p.ended then s
  else
    let (p1, r) := grindRun d (grindFuel d) p
    let made := p1.produced - p.produced
    let s0 := s.carafeWritten q d p p1
    let s1 := if d.resident then s0 else (s0.ledAdd 0x1065 0 made).ledAdd 0x1065 2 made
    match r with
    | .error c => s1.grindError q k c 0 p1
    | .ended p2 =>
      let s2 := if d.resident then (s1.ledAdd 0x1065 0 p2.produced).ledAdd 0x1065 2 p2.produced else s1
      s2.setPort q k { p2 with st := if p2.st = 1 then 2 else p2.st, loopNo := if d.resident then 1 else p2.loopNo }
    | _ =>
      s1.setPort q k { p1 with st := if p1.st = 1 ∧ !d.resident ∧ p1.words.length ≥ d.capacity then 2 else p1.st }

/-- Rewind a port: the words it holds are discarded and counted, and decompression starts from BASE (R378). -/
def State.grindRewind (s : State) (q k : Nat) : State :=
  let d := s.desc q k
  let p := s.port q k
  let heldWords := if d.resident then (if p.ended ∨ p.st = 5 then p.words.length - p.pos else 0) else p.words.length
  let s1 := s.ledMove 0x1065 2 3 heldWords
  s1.setPort q k { st := if d.valid then 1 else 0 }

/-- PORT_REWIND. -/
def execPortRewind (t : Nat) (q : Fin 4) (k : Fin 512) (s : State) : Host.Outcome State Fault Refusal :=
  .next ((s.tickTo t).grindRewind q.val k.val)

/-- Rewind the four ports of an engine that enters READY, STOPPED or FAULTED (R378). -/
def State.rewindEngine (s : State) (e : Nat) : State :=
  (List.range 4).foldl
    (fun (s : State) l => if (s.desc (e / 128) (4 * (e % 128) + l)).valid then s.grindRewind (e / 128) (4 * (e % 128) + l) else s) s

/-- What the ring stop of the encryption pipeline that serves a line answers (R19, R347): every stored-vector line crosses it. An address
that names no line is answered before. -/
def State.pipeAnswer (s : State) (addr : Nat) : Status :=
  if s.memStatus addr = .decode then .okay
  else
    let m := s.memCtl (paOf addr)
    s.stopAnswer (if m < 4 then 96 else 97) (m % 4) none

/-- GRIND_LINE: the next line of a port's compressed stream arrives, and is decompressed into the extent (R377 to R379). -/
def execGrindLine (t : Nat) (q : Fin 4) (k : Fin 512) (s : State) : Host.Outcome State Fault Refusal :=
  let s1 := s.tickTo t
  let d := s1.desc q.val k.val
  let p := s1.port q.val k.val
  .next
    (if p.st = 0 ∨ p.st = 5 ∨ p.ended ∨ !d.valid ∨ p.fetched ≥ d.length ∨ p.buf.length ≥ 64 then s1
     else
      if s1.pipeAnswer (d.base + p.fetched) ≠ .okay then s1.grindError q.val k.val 4 (s1.pipeAnswer (d.base + p.fetched)).code p
      else match s1.memReadLine (d.base + p.fetched) with
      | (none, _) => s1
      | (some (.okay, data), s2) =>
        let n := min 64 (d.length - p.fetched)
        (s2.setPort q.val k.val { p with buf := p.buf ++ data.take n, fetched := p.fetched + n }).grindAdvance q.val k.val
      | (some (st, _), s2) => s2.grindError q.val k.val 4 st.code p)

/-- The Carafe word in which a port's next word lies: its extent is filled round and round. -/
def carafeWord (d : StreamDesc) (p : GrindPort) : Nat :=
  d.first * 1024 + (if d.resident then p.pos else (p.produced - p.words.length) % max 1 d.capacity)

/-- A port meets an uncorrectable Carafe word (*Table 14.1*): ERROR with cause 4 and memory status POISONED; the word and those
behind it are not delivered. -/
def State.carafeBad (s : State) (q k : Nat) : State :=
  let p := s.port q k
  let due := (s.desc q k).resident && !p.ended && p.st != 5
  let n := if due then 0 else p.words.length - (if (s.desc q k).resident then p.pos else 0)
  ((s.sramBad 3).ledMove 0x1065 2 3 n).grindError q k 4 Status.poisoned.code { p with words := [], pos := 0, ended := true }

/-- A take of one word from a port (R378): `none` where the take stalls. -/
def State.portTake (s0 : State) (q k : Nat) : Option (BitVec 48) × State :=
  let d := s0.desc q k
  let p := s0.port q k
  let s := if p.words = [] then s0 else s0.sramRead 3 q (carafeWord d p) 1
  if !d.valid ∨ p.st = 0 ∨ p.st = 4 then (none, s0)
  else if p.words ≠ [] ∧ s0.badWord 3 q (carafeWord d p) then (none, s0.carafeBad q k)
  else if d.resident then
    if !p.ended ∧ p.st ≠ 5 then (none, s)
    else
      match p.words[p.pos]? with
      | none => (none, s)
      | some w =>
        let lastWord := decide (p.pos + 1 ≥ p.words.length)
        let lastLoop := decide (p.loopNo ≥ d.loops) || p.st == 5
        let p1 := { p with
          pos := if lastWord ∧ !lastLoop then 0 else p.pos + 1, delivered := p.delivered + 1,
          loopNo := if lastWord ∧ !lastLoop then p.loopNo + 1 else p.loopNo,
          st := if p.st = 5 then 5 else if lastWord ∧ lastLoop then 4 else 3 }
        let s1 := ((s.setPort q k p1).ledMove 0x1065 2 1 1).bump (O.GRIND_WORDS_OUT q) 1
        (some w, if lastWord ∧ !lastLoop then (s1.ledAdd 0x1065 0 p.words.length).ledAdd 0x1065 2 p.words.length else s1)
  else
    match p.words with
    | [] => (none, s)
    | w :: r =>
      let p1 := { p with words := r, delivered := p.delivered + 1, st := if p.st = 5 then 5 else if r = [] ∧ p.ended then 4 else 3 }
      (some w, (((s.setPort q k p1).ledMove 0x1065 2 1 1).bump (O.GRIND_WORDS_OUT q) 1).grindAdvance q k)

/-- STREAM_WORD_TAKE: a port delivers one word to its engine, or stalls it (R378). -/
def execStreamWordTake (t : Nat) (q : Fin 4) (k : Fin 512) (s : State) : Host.Outcome State Fault Refusal :=
  let (w, s1) := (s.tickTo t).portTake q.val k.val
  .next (match w with
    | some w => s1.memReply .okay (leBytes 6 w.toNat)
    | none => s1.memReply .busy [])

/-- Whether a STREAMS image breaks a rule of R376 for which the commit is REFUSED. -/
def streamsRefused (img : List Byte) : Bool :=
  let ds := (List.range 512).map (descAt img)
  let vs := ds.filter (·.valid)
  img.length != 16384 ||
  vs.any (fun d => d.base % 64 != 0 || d.base / 2 ^ 40 > 0x3F || d.loops == 0 || (d.loops > 1 && !d.resident) || d.length < 2 ||
    d.units == 0 || d.first + d.units > 1024) ||
  (List.range vs.length).any fun i => (List.range i).any fun j =>
    match vs[i]?, vs[j]? with
    | some a, some b => overlap a.first a.units b.first b.units
    | _, _ => false

/-- Units of valid extents of an image, resident or not (R381). -/
def extentUnits (img : List Byte) (resident : Bool) : Nat :=
  (((List.range 512).map (descAt img)).filter fun d => d.valid && d.resident == resident).foldl (fun n d => n + d.units) 0

/-- The owner of STREAMS of Grind q: only the entries that differ change, and their ports rewind (R376, R378). -/
def ownStreams (q : Nat) : ImgOwner := unscheduled fun img s =>
  if streamsRefused img then (.refused, s)
  else
    let old := s.image (O.GRIND_STREAMS q)
    let changed := (List.range 512).filter fun k => descAt old k != descAt img k
    if s.marchOn 4 q ∧ changed.any (fun k => (descAt img k).valid) then (.busy, s)
    else if changed.any fun k => [3, 4, 7].contains (s.reg (O.ENG_STATE (portEngine q k))) then (.busy, s)
    else
      -- words held under the old descriptors are discarded before the image changes
      let s0 := changed.foldl (fun (s : State) k => s.grindRewind q k) s
      let s1 := s0.setImage (O.GRIND_STREAMS q) img
      let s2 := changed.foldl (fun (s : State) k => s.setPort q k { st := if (descAt img k).valid then 1 else 0 }) s1
      let n0 := extentUnits img false
      let n1 := extentUnits img true
      let m0 := extentUnits old false
      let m1 := extentUnits old true
      let s3 := s2.setReg (O.GRIND_CARAFE_FREE q) (1024 - n0 - n1)
      let s4 := ((s3.ledSub 0x1066 2 m0).ledSub 0x1066 3 m1).ledAdd 0x1066 1 (m0 + m1)
      (.okay, ((s4.ledSub 0x1066 1 (n0 + n1)).ledAdd 0x1066 2 n0).ledAdd 0x1066 3 n1)

/-- STREAMS_COMMIT: commits the stream descriptors of a Grind. -/
def execStreamsCommit (t : Nat) (r : Requester) (q : Fin 4) (crc tt : Nat) (s : State) : Host.Outcome State Fault Refusal :=
  .next ((s.tickTo t).commitObj r (O.GRIND_STREAMS q.val) crc tt (ownStreams q.val))

/-- PORT_STATUS of Grind q (*Table 13.16*): 16 bytes per port. -/
def State.portStatus (s : State) (q : Nat) : List Byte :=
  (List.range 512).flatMap fun k =>
    let p := s.port q k
    leBytes 1 p.st ++ leBytes 1 p.cause ++ leBytes 1 p.memStatus ++ leBytes 1 0 ++ leBytes 4 p.loopNo ++ leBytes 8 p.delivered

end Sys2Proof.Machine
end

