-- ==== Sys2Proof/Machine/EngineIsa.lean ====
section
/-! DEFINITION. The instruction word of the pattern engines and what its slots compute from the state that stands at its start: the
program image (R163), the sequence, address, data and emit slots (R138 to R150), scramble tables (R146), conditions and the ALU
(R140, R141), and the causes that make an instruction illegal (*Table 5.14*). -/

namespace Sys2Proof.Machine

def State.engine (s : State) (e : Nat) : Engine := Tbl.get {} s.engines e
def State.setEngine (s : State) (e : Nat) (g : Engine) : State := { s with engines := Tbl.set {} s.engines e g }

/-! ### The program image (*Table 5.16*) -/

def progCount (img : List Byte) : Nat := fieldLE img 4 2
def progEntry (img : List Byte) : Nat := fieldLE img 6 2
def progDataLen (img : List Byte) : Nat := fieldLE img 8 2
def progEvents (img : List Byte) : Nat := byteAt img 10

/-- Event point i: ADDR, ACTION and CAPTURE (*Table 5.12*). -/
def progEvent (img : List Byte) (i : Nat) : Nat × Nat × Nat :=
  (fieldLE img (64 + 8 * i) 2, byteAt img (64 + 8 * i + 2), byteAt img (64 + 8 * i + 3) % 16)

/-- The instruction at an address. -/
def progInsn (img : List Byte) (pc : Nat) : Nat := fieldLE img (64 + 8 * progEvents img + 16 * pc) 16

/-- The data-store image. -/
def progData (img : List Byte) : List Byte := img.drop (64 + 8 * progEvents img + 16 * progCount img)

/-- What makes a PROGRAM commit REFUSED (R163). -/
def progRefused (img : List Byte) : Bool :=
  img.length != 64 + 8 * progEvents img + 16 * progCount img + progDataLen img || fieldLE img 0 4 != 0x4E475045 ||
    progCount img == 0 || decide (progCount img > 2048) || decide (progEntry img ≥ progCount img) || decide (progDataLen img > 16384) ||
    progDataLen img % 4 != 0 || decide (progEvents img > 32) ||
    (List.range (progEvents img)).any fun i => decide ((progEvent img i).1 ≥ progCount img)

/-! ### Fields of the instruction word (*Table 5.3*) -/

def iOp (w : Nat) : Nat := bits w 127 122
def iCond (w : Nat) : Nat := bits w 121 117
def iTarget (w : Nat) : Nat := bits w 116 106
def iOpnd (w : Nat) : Nat := bits w 105 97
def iRa (w : Nat) : Bool := bit w 96
def iAop (w i : Nat) : Nat := bits w (95 - 4 * i) (92 - 4 * i)
def iCarry (w : Nat) : Nat := bits w 83 82
def iAgm (w : Nat) : Nat := bits w 81 78
def iDop (w : Nat) : Nat := bits w 71 68
def iDn (w : Nat) : Nat := bits w 67 65
def iBg (w : Nat) : Nat := bits w 64 62
def iDgm (w : Nat) : Nat := bits w 61 58
def iVcnt (w : Nat) : Nat := bits w 51 50
def iTs (w : Nat) : Nat := bits w 49 44
def iMode (w : Nat) : Nat := bits w 43 42
def iLane (w k : Nat) : Bool := bit w (38 + k)
def iMark (w : Nat) : Bool := bit w 37
def iXall (w : Nat) : Bool := bit w 36
def iCtl (w : Nat) : Nat := bits w 35 32
def iDsp (w : Nat) : Nat := w % 2 ^ 32

/-! OPND as *Table 5.4* splits it. -/

def iD (w : Nat) : Nat := iOpnd w % 16
def iM (w : Nat) : Nat := bits (iOpnd w) 7 4
def iM5 (w : Nat) : Nat := bits (iOpnd w) 8 5
def iK (w : Nat) : Nat := iOpnd w % 8
def iS (w : Nat) : Nat := bits (iOpnd w) 8 4
def iV (w : Nat) : Bool := bit (iOpnd w) 3
def iVirt (w : Nat) : Bool := bit (iTarget w) 4
def iSlot (w : Nat) : Nat := iTarget w % 16

/-- The immediate, TARGET sign-extended to 32 bits. -/
def iImm (w : Nat) : Nat := unsigned 32 (signed 11 (iTarget w))

/-- Whether a sequence opcode is listed in *Table 5.4*. -/
def opListed (op : Nat) : Bool :=
  decide (op ≤ 0x19) || (decide (0x20 ≤ op) && decide (op ≤ 0x29)) || (decide (0x2A ≤ op) && decide (op ≤ 0x2C))

/-- Whether an opcode is an ALU operation with a source code, or with an immediate. -/
def opAlu (op : Nat) : Bool := decide (0x10 ≤ op) && decide (op ≤ 0x19)
def opAluImm (op : Nat) : Bool := decide (0x20 ≤ op) && decide (op ≤ 0x29)

/-! ### Registers (*Table 5.2*) -/

def State.eG (s : State) (e k : Nat) : Nat := s.reg (O.ENG_G0 e + k)
def State.eD (s : State) (e k : Nat) : Nat := s.reg (O.ENG_D0 e + k)
def State.lctl (s : State) (e k : Nat) : Nat := s.reg (O.ENG_LCTL0 e + k)

/-- A flag: 0 ZF, 1 CF, 2 NF, 3 LATE. -/
def State.eFlag (s : State) (e n : Nat) : Bool := (s.reg (O.ENG_FLAGS e)).testBit n

def State.setEFlag (s : State) (e n : Nat) (b : Bool) : State := s.setReg (O.ENG_FLAGS e) (setBit (s.reg (O.ENG_FLAGS e)) n b)

/-- Whether a lane is OFF. -/
def State.laneOff (s : State) (e k : Nat) : Bool := bits (s.lctl e k) 31 29 == 0

/-! ### Address slot (R143 to R145) -/

/-- An address register with its base, its maximum and its width. -/
structure Axis where
  r : Nat := 0
  b : Nat := 0
  m : Nat := 0
  wid : Nat := 0
  deriving DecidableEq, Repr

/-- The registers X, Y and Z of an engine. -/
def State.axes (s : State) (e : Nat) : List Axis :=
  [⟨s.reg (O.ENG_X e), s.reg (O.ENG_XB e), s.reg (O.ENG_XMAX e), 20⟩, ⟨s.reg (O.ENG_Y e), s.reg (O.ENG_YB e), s.reg (O.ENG_YMAX e), 20⟩,
   ⟨s.reg (O.ENG_Z e), s.reg (O.ENG_ZB e), s.reg (O.ENG_ZMAX e), 8⟩]

/-- The logical address A = Z, Y, X. -/
def axesAddr (l : List Axis) : Nat :=
  match l with
  | [x, y, z] => x.r % 2 ^ 20 + y.r % 2 ^ 20 * 2 ^ 20 + z.r % 2 ^ 8 * 2 ^ 40
  | _ => 0

/-- Operations that are illegal over an empty range (R143). -/
def opRanged (op : Nat) : Bool := op == 1 || op == 2 || op == 5 || op == 9

/-- One operation of *Table 5.7* on a register; whether it wraps. -/
def Axis.step (a : Axis) (op gm : Nat) : Axis × Bool :=
  let put := fun (v : Int) => { a with r := unsigned a.wid v }
  match op with
  | 1 => if a.r ≥ a.m then (put a.b, true) else (put (a.r + 1), false)
  | 2 => if a.r ≤ a.b then (put a.m, true) else (put (a.r - 1), false)
  | 3 => (put a.b, false)
  | 4 => (put a.m, false)
  | 5 =>
    let x : Int := (a.r : Int) - a.b + gm
    (put ((a.b : Int) + x % ((a.m : Int) - a.b + 1)), decide (x > (a.m : Int) - a.b))
  | 6 => (put gm, false)
  | 7 => ({ a with b := gm % 2 ^ a.wid }, false)
  | 8 => ({ a with m := gm % 2 ^ a.wid }, false)
  | 9 => (put ((a.b : Int) + a.m - a.r), false)
  | _ => (a, false)

/-- The registers in the order in which CARRY passes a wrap on (R144). -/
def carryChain : Nat → List Nat
  | 0 => []
  | 1 => [0, 1, 2]
  | 2 => [1, 0, 2]
  | _ => [0, 1]

/-- The state of an address step: the registers, which of them wrapped, and whether an operation met an empty range. -/
structure AddrStep where
  axes : List Axis
  wraps : List Bool := [false, false, false]
  bad : Bool := false
  deriving DecidableEq, Repr

/-- Perform an operation on register i. -/
def AddrStep.act (a : AddrStep) (i op gm : Nat) : AddrStep :=
  let x := a.axes.getD i {}
  let r := x.step op gm
  ⟨a.axes.set i r.1, a.wraps.set i (a.wraps.getD i false || r.2), a.bad || (opRanged op && decide (x.b > x.m))⟩

/-- Pass a wrap along a chain (R144): `w` says whether the register before it wrapped in this step. -/
def AddrStep.carry (a : AddrStep) (op gm : Nat) (w : Bool) : List Nat → AddrStep
  | [] => a
  | i :: r => if w then (a.act i op gm).carry op gm ((a.axes.getD i {}).step op gm).2 r else a

/-- One step of the address slot of an instruction. -/
def addrStep (w gm : Nat) (a : AddrStep) : AddrStep :=
  let own := (List.range 3).foldl (fun (x : AddrStep) i => x.act i (iAop w i) gm) a
  match carryChain (iCarry w) with
  | [] => own
  | i :: r =>
    let op := iAop w i
    if op = 1 ∨ op = 2 then own.carry op gm ((a.axes.getD i {}).step op gm).2 r else own

/-- The address slot of an instruction: the address of vector 1, and the registers after the last step (R145). -/
def State.addrSlot (s : State) (e w : Nat) : Nat × AddrStep :=
  let gm := s.eG e (iAgm w)
  let one := addrStep w gm { axes := s.axes e }
  (axesAddr one.axes, if iVcnt w = 2 then addrStep w gm one else one)

/-! ### Scramble and data (R146, R147) -/

/-- Whether the number of bits set among the low n is odd. -/
def parity (n v : Nat) : Bool := popCount n v % 2 == 1

/-- The physical address P of a logical address under a table (*Table 5.8*). -/
def scramble (t : List Byte) (a : Nat) : Nat :=
  (List.range 48).foldl
    (fun p j => if parity 48 (a &&& fieldLE t (8 + 8 * j) 8) != (fieldLE t 392 8).testBit j then p + 2 ^ j else p) 0

/-- P of an engine's scramble unit. -/
def State.physAddr (s : State) (e a : Nat) : Nat :=
  match (s.engine e).scramble with
  | some t => scramble t a
  | none => a

/-- The background B of a vector with physical address P. -/
def State.background (s : State) (e bg p : Nat) : Nat :=
  if bg = 5 then 0xFFFFFFFF
  else if 1 ≤ bg ∧ bg ≤ 4 then
    match (s.engine e).scramble with
    | some t => if parity 48 (p &&& fieldLE t (400 + 8 * (bg - 1)) 8) then 0xFFFFFFFF else 0
    | none => 0
  else 0

/-- What a vector carries: its addresses and its data output. -/
structure Vec where
  a : Nat
  p : Nat
  dout : Nat
  deriving DecidableEq, Repr

/-- The vector of an instruction that carries logical address `a`. -/
def State.vecAt (s : State) (e w a : Nat) : Vec :=
  let p := s.physAddr e a
  ⟨a, p, s.eD e (s.reg (O.ENG_DSEL e) % 8) ^^^ s.background e (iBg w) p⟩

/-- Vector 0 and vector 1 of an instruction. -/
def State.vec0 (s : State) (e w : Nat) : Vec := s.vecAt e w (axesAddr (s.axes e))
def State.vec1 (s : State) (e w : Nat) : Vec := s.vecAt e w (s.addrSlot e w).1

/-- PRBS31: n shifts of bit 30 XOR bit 27 into bit 0. -/
def prbs : Nat → Nat → Nat
  | 0, v => v
  | n + 1, v => prbs n ((v * 2) % 2 ^ 32 + b2n (v.testBit 30 != v.testBit 27))

/-- A data-store address that a word access takes; a Feed-store address. -/
def dsAddrOk (a : Nat) : Bool := a % 4 == 0 && decide (a < 16384)
def feedAddrOk (a : Nat) : Bool := a % 4 == 0 && decide (a < 1048576)

/-- A word of an engine's data store. -/
def State.dataWord (s : State) (e a : Nat) : Nat := leNat (dramRead s.data (e * 2 ^ 14 + a) 4)

/-- A word of its cluster's Feed store. -/
def State.feedWord (s : State) (e a : Nat) : Nat := leNat (s.feedRead (e / 32) a 4)

/-- The register writes of the data slot (*Table 5.9*). -/
def State.dataWrites (s : State) (e w : Nat) : List (Nat × Nat) :=
  let o := O.ENG_D0 e + iDn w
  let v := s.eD e (iDn w)
  let gm := s.eG e (iDgm w)
  match iDop w with
  | 1 => [(O.ENG_DSEL e, iDn w)]
  | 2 => [(o, gm)]
  | 3 => [(o, (v + 1) % 2 ^ 32)]
  | 4 => [(o, (v * 2) % 2 ^ 32 + b2n (v.testBit 31))]
  | 5 => [(o, v ^^^ gm)]
  | 6 => [(o, prbs 32 v)]
  | 7 => [(o, s.dataWord e gm)]
  | 8 => [(o, s.feedWord e gm)]
  | _ => []

/-! ### Sequence slot (R140 to R142) -/

/-- A condition of *Table 5.5*, tested in word clock `wc`; a Halter line as it stood two word clocks before (R156). -/
def State.condHolds (s : State) (e w wc : Nat) : Bool :=
  let wr := fun i => (s.addrSlot e w).2.wraps.getD i false
  let c := iCond w
  if c ≥ 0x18 then !s.haltSeen e (c - 0x18) (wc - 2)
  else if c ≥ 0x10 then s.haltSeen e (c - 0x10) (wc - 2)
  else
    match c with
    | 0x01 => s.eFlag e 0
    | 0x02 => !s.eFlag e 0
    | 0x03 => s.eFlag e 1
    | 0x04 => !s.eFlag e 1
    | 0x05 => s.eFlag e 2
    | 0x06 => !s.eFlag e 2
    | 0x07 => wr 0
    | 0x08 => !wr 0
    | 0x09 => wr 1
    | 0x0A => !wr 1
    | 0x0B => wr 2
    | 0x0C => !wr 2
    | 0x0D => s.eFlag e 3
    | 0x0E => s.reg (O.ENG_REF_PENDING e) != 0
    | 0x0F => s.reg (O.ENG_REF_PENDING e) == 0
    | _ => true

/-- A source of *Table 5.6*. -/
def State.source (s : State) (e w wc : Nat) : Nat :=
  let c := iS w
  if c < 16 then s.eG e c
  else
    match c with
    | 16 => s.reg (O.ENG_X e)
    | 17 => s.reg (O.ENG_Y e)
    | 18 => s.reg (O.ENG_Z e)
    | 19 => s.reg (O.ENG_XB e)
    | 20 => s.reg (O.ENG_YB e)
    | 21 => s.reg (O.ENG_ZB e)
    | 22 => s.reg (O.ENG_XMAX e)
    | 23 => s.reg (O.ENG_YMAX e)
    | 24 => s.reg (O.ENG_ZMAX e)
    | 25 => (s.vec0 e w).dout
    | 26 => s.tickAt wc % 2 ^ 32
    | 27 => s.tickAt wc / 2 ^ 32 % 256 + wc % 8 * 256
    | _ => s.reg (O.ENG_REF_PENDING e)

/-- An ALU operation, 0 MOV to 9 TST: the result and CF (R141). -/
def alu (i a b : Nat) (cf : Bool) : Nat × Bool :=
  let n := b % 32
  match i with
  | 0 => (b, cf)
  | 1 => ((a + b) % 2 ^ 32, decide (a + b ≥ 2 ^ 32))
  | 2 => ((a + 2 ^ 32 - b) % 2 ^ 32, decide (a < b))
  | 3 => (a &&& b, false)
  | 4 => (a ||| b, false)
  | 5 => (a ^^^ b, false)
  | 6 => (a * 2 ^ n % 2 ^ 32, decide (0 < n) && a.testBit (32 - n))
  | 7 => (a / 2 ^ n, decide (0 < n) && a.testBit (n - 1))
  | 8 => ((a + 2 ^ 32 - b) % 2 ^ 32, decide (a < b))
  | _ => (a &&& b, false)

/-- The G registers that the sequence slot writes (R140). -/
def seqDest (w : Nat) : Option Nat :=
  let op := iOp w
  if (opAlu op || opAluImm op) && decide (op % 16 < 8) then some (iD w)
  else if op = 0x0E ∨ op = 0x2A ∨ op = 0x2B ∨ op = 0x2C then some (iD w)
  else none

/-- LCk after LOOP: it counts down, an LCk of 0 acts as 1, and 0 is reloaded (R140). -/
def State.loopLeft (s : State) (e w : Nat) : Nat := max 1 (s.reg (O.ENG_LC0 e + iK w)) - 1

/-- The value that an ALU instruction combines with Gd. -/
def State.aluSource (s : State) (e w wc : Nat) : Nat := if opAlu (iOp w) then s.source e w wc else iImm w

/-- The register writes of the sequence slot. -/
def State.seqWrites (s : State) (e w wc : Nat) : List (Nat × Nat) :=
  let gd := O.ENG_G0 e + iD w
  let old := s.eG e (iD w)
  let op := iOp w
  if opAlu op || opAluImm op then
    let (r, c) := alu (op % 16) old (s.aluSource e w wc) (s.eFlag e 1)
    let flags := setBit (setBit (setBit (s.reg (O.ENG_FLAGS e)) 0 (r == 0)) 1 c) 2 (r.testBit 31)
    if op % 16 < 8 then [(gd, r), (O.ENG_FLAGS e, flags)] else [(O.ENG_FLAGS e, flags)]
  else
    match op with
    | 0x04 =>
      if !s.condHolds e w wc then []
      else [(O.ENG_LC0 e + iK w, if s.loopLeft e w = 0 then s.reg (O.ENG_LCR0 e + iK w) else s.loopLeft e w)]
    | 0x05 => [(O.ENG_LC0 e + iK w, iTarget w), (O.ENG_LCR0 e + iK w, iTarget w)]
    | 0x06 => [(O.ENG_LC0 e + iK w, s.eG e (iM w)), (O.ENG_LCR0 e + iK w, s.eG e (iM w))]
    | 0x0E => [(gd, s.dataWord e (s.eG e (iM5 w)))]
    | 0x2A => [(gd, old / 2 ^ 11 * 2 ^ 11 + iTarget w)]
    | 0x2B => [(gd, old / 2 ^ 22 * 2 ^ 22 + iTarget w * 2 ^ 11 + old % 2 ^ 11)]
    | 0x2C => [(gd, iTarget w % 2 ^ 10 * 2 ^ 22 + old % 2 ^ 22)]
    | _ => []

/-- Where the instruction continues: PC, and the call stack. -/
def State.seqNext (s : State) (e w wc : Nat) : Nat × List (Nat × Bool) :=
  let next := (s.reg (O.ENG_PC e) + 1) % 2048
  let stack := (s.engine e).stack
  if (iOp w = 1 ∨ iOp w = 2 ∨ iOp w = 3 ∨ iOp w = 4) ∧ !s.condHolds e w wc then (next, stack)
  else
    match iOp w with
    | 0x01 => (iTarget w, stack)
    | 0x02 => (iTarget w, (next, false) :: stack)
    | 0x03 =>
      match stack with
      | (a, _) :: r => (a, r)
      | [] => (next, stack)
    | 0x04 => (if s.loopLeft e w = 0 then next else iTarget w, stack)
    | _ => (next, stack)

/-- The signed distance in word clocks from a word clock to the instant that WAITTT names (R155). -/
def State.waitDist (s : State) (e w wc : Nat) : Int :=
  let lo := s.eG e (2 * iK w)
  let hi := s.eG e (2 * iK w + 1)
  schedDiff (lo + hi % 256 * 2 ^ 32) (s.tickAt wc) * 8 + (bits hi 10 8 : Nat) - (wc % 8 : Nat)

/-! ### Feed-store and data-store accesses -/

/-- Whether the instruction needs the Feed store. -/
def needsFeed (w : Nat) : Bool := iOp w == 0x0B || iDop w == 8

/-- Whether its sequence slot and its data slot both access the data store (R384). -/
def dsDouble (w : Nat) : Bool := (iOp w == 0x0E || iOp w == 0x0F) && iDop w == 7

/-! ### Emit slot (R148 to R150) -/

/-- Source of a lane: 0 OFF to 5 STREAM. -/
def lcSrc (l : Nat) : Nat := bits l 31 29

/-- Width of a source (*Table 5.11*). -/
def srcWidth : Nat → Nat
  | 1 => 48
  | 2 => 32
  | 3 => 4
  | 4 => 32
  | _ => 64

/-- Whether an LCTL value is one the object takes (R149): no reserved encoding, BIT within the source. -/
def lctlOk (l : Nat) : Bool :=
  decide (lcSrc l ≤ 5) && bits l 12 11 != 3 &&
    (lcSrc l == 0 || lcSrc l == 5 || decide (bits l 28 23 < srcWidth (lcSrc l)))

/-- The Grind port of a lane: its quadrant and number (R376). -/
def lanePort (e k : Nat) : Nat × Nat := (e / 128, e % 128 * 4 + k)

/-- Whether a stream port is bound. -/
def State.portBound (s : State) (e k : Nat) : Bool := (descAt (s.image (O.GRIND_STREAMS (lanePort e k).1)) (lanePort e k).2).valid

/-- Whether the instruction emits on lane k: enabled and not OFF. -/
def State.emits (s : State) (e w k : Nat) : Bool := iLane w k && !s.laneOff e k && iVcnt w != 0

/-- DRIVE of a vector on a lane (R150). -/
def laneDrive (l ctl src : Nat) : Nat :=
  (List.range 8).foldl
    (fun d i =>
      let datum := src.testBit ((bits l 28 23 + i * bits l 22 19) % srcWidth (lcSrc l))
      if (datum != l.testBit 14) || (ctl.testBit 3 && l.testBit 13) then d + 2 ^ i else d) 0

/-- A vector of the instruction on lane k, of a source other than STREAM (R150). -/
def State.laneVec (s : State) (e w k : Nat) (v : Vec) : HalfWord :=
  let l := s.lctl e k
  let src := match lcSrc l with
    | 1 => v.p
    | 2 => v.dout
    | 3 => iCtl w
    | _ => s.eG e (bits l 18 15)
  let drive := laneDrive l (iCtl w) src
  { vec := (if l.testBit 9 then bits l 8 3 else iTs w) * 4 + (if l.testBit 2 then bits l 1 0 else iMode w),
    drive := drive, expect := (match bits l 12 11 with
      | 0 => drive
      | 1 => 255 - drive
      | _ => 0),
    mask := if l.testBit 10 || iXall w then 255 else 0, a := v.a, p := v.p, mark := false, site := none }

/-! ### The DSP slot's fields (*Table 6.2*) -/

def dOp (d : Nat) : Nat := bits d 31 28

/-- The G register that the DSP slot writes. -/
def dspDest (d : Nat) : Option Nat := if dOp d = 4 ∨ dOp d = 5 ∨ dOp d = 9 then some (bits d 18 15) else none

/-- The cause that makes a DSP slot illegal (R173 to R179). -/
def State.dspCause (s : State) (e d : Nat) : Option Nat :=
  match dOp d with
  | 0 => none
  | 1 =>
    let side := fun (src m : Nat) => decide (src ≥ 6) || (src == 2 && m % 2 == 1)
    if bits d 25 24 = 3 || side (bits d 23 21) (bits d 17 14) || side (bits d 20 18) (bits d 13 10) then some 6
    else if bits d 23 21 = 3 ∨ bits d 20 18 = 3 then
      if !s.portBound e (bits d 9 8) then some 16 else if !s.laneOff e (bits d 9 8) then some 6 else none
    else none
  | 2 => if bits d 27 25 ≥ 4 ∨ bits d 24 23 = 3 then some 6 else none
  | 4 => if bits d 20 19 = 3 then some 6 else none
  | 5 => if bits d 27 25 ≥ 5 then some 6 else none
  | 9 => if bits d 27 26 = 3 then some 6 else none
  | n => if n ≥ 10 then some 6 else none

/-! ### Illegal instructions (*Table 5.14*) -/

/-- The first cause that holds of a list. -/
def firstCause (l : List (Bool × Nat)) : Option Nat := (l.find? (·.1)).map (·.2)

/-- Lanes enabled with a stream source. -/
def State.streamLanes (s : State) (e w : Nat) : List Nat := (List.range 4).filter fun k => iLane w k && lcSrc (s.lctl e k) == 5

/-- The instruction word that an engine's program store holds at an address: a debugger's, or that of the image. -/
def State.progWord (s : State) (e pc : Nat) : Nat :=
  match Tbl.get none s.progPatch (e * 2 ^ 11 + pc) with
  | some w => w
  | none => progInsn (s.image (O.ENG_PROGRAM e)) pc

/-- The instruction at PC. -/
def State.insn (s : State) (e : Nat) : Nat := s.progWord e (s.reg (O.ENG_PC e))

/-- Whether a refresh call at the instruction would find 8 entries on the stack (R142, R158): the instruction's own push or pop comes
first. -/
def State.refreshOverflow (s : State) (e w wc : Nat) : Bool :=
  let stack := (s.seqNext e w wc).2
  iRa w && iOp w != 9 && s.reg (O.ENG_REF_PENDING e) != 0 && !stack.any (·.2) && decide (stack.length ≥ 8)

/-- The cause that makes the instruction at PC illegal, `none` where it may issue in word clock `wc` (R139 to R152, R161): the
encodings slot by slot, then what the operations meet, then the DSP slot, then a refresh call that finds the stack full. -/
def State.illegalCause (s : State) (e wc : Nat) : Option Nat :=
  let img := s.image (O.ENG_PROGRAM e)
  let pc := s.reg (O.ENG_PC e)
  let w := s.insn e
  let op := iOp w
  let lanes := s.streamLanes e w
  let dgm := s.eG e (iDgm w)
  let stack := (s.engine e).stack
  let taken := s.condHolds e w wc
  let encoding := firstCause
    [(decide (pc ≥ progCount img), 15), (!opListed op, 1), (opAlu op && decide (iS w ≥ 29), 2),
     ((List.range 3).any (fun i => decide (iAop w i > 9)), 3), (decide (iDop w > 8) || decide (iBg w > 5), 4), (iVcnt w == 3, 5),
     (!lanes.isEmpty && iVcnt w == 1, 13), (lanes.any (fun k => !s.portBound e k), 16),
     ((carryChain (iCarry w)).drop 1 |>.any (fun i => iAop w i != 0), 9),
     ((s.addrSlot e w).2.bad, 10), (iDop w == 7 && !dsAddrOk dgm, 11), (iDop w == 8 && !feedAddrOk dgm, 12),
     (op == 2 && taken && decide (stack.length ≥ 8), 7), (op == 3 && taken && stack.isEmpty, 8),
     ((op == 0x0E || op == 0x0F) && !dsAddrOk (s.eG e (iM5 w)), 11),
     (op == 0x0B && (s.eG e (iD w) % 16 != 0 || decide (s.eG e (iD w) + 512 > 1048576)), 12)]
  match encoding with
  | some c => some c
  | none =>
    match s.dspCause e (iDsp w) with
    | some c => some c
    | none =>
      match seqDest w, dspDest (iDsp w) with
      | some a, some b => if a = b then some 14 else if s.refreshOverflow e w wc then some 7 else none
      | _, _ => if s.refreshOverflow e w wc then some 7 else none

/-- An engine's program store holds only what its image gave it. -/
def State.dropPatch (s : State) (e : Nat) : State := { s with progPatch := s.progPatch.filter fun p => p.1 / 2 ^ 11 != e }

end Sys2Proof.Machine
end

