-- ==== Sys2Proof/Machine/EngineDsp.lean ====
section
/-! DEFINITION. The engine analysis datapath (R172 to R190): operand loads and products, accumulators and their rounding, minimum and
maximum search, the exposed pipeline, the shadow bank, step results from the channels, and DSP_STATE. -/

namespace Sys2Proof.Machine

/-! ### State of the datapath -/

def State.dsp (s : State) (e : Nat) : Dsp := (s.engine e).dsp
def State.setDsp (s : State) (e : Nat) (d : Dsp) : State := s.setEngine e { s.engine e with dsp := d }

/-- Result FIFO k. -/
def Dsp.rf (d : Dsp) : Nat → List ResEntry
  | 0 => d.rf0
  | 1 => d.rf1
  | 2 => d.rf2
  | _ => d.rf3

/-- Replace result FIFO k. -/
def Dsp.setRf (d : Dsp) (k : Nat) (l : List ResEntry) : Dsp :=
  match k with
  | 0 => { d with rf0 := l }
  | 1 => { d with rf1 := l }
  | 2 => { d with rf2 := l }
  | _ => { d with rf3 := l }

/-- The return channel of lane k, 0xFF none (R180). -/
def State.retch (s : State) (e k : Nat) : Nat := bits (s.reg (O.ENG_DSP_CONFIG e)) (8 * k + 7) (8 * k)

/-- What an entry reads as: FAILS, MATCHES and PASS (*Table 6.6*, R181). -/
def ResEntry.read (r : ResEntry) : Nat × Nat × Nat :=
  if r.valid then (min r.fails 131071, min r.hits 131071, b2n (r.fails == 0)) else (131071, 0, 0)

/-- Set flag n of DSP_FLAGS in word clock w, count it, and raise the engine-event interrupt where it is enabled (R188). -/
def State.dspFlag (s : State) (e n w : Nat) : State :=
  let o := O.ENG_DSP_FLAGS e
  let d := s.dsp e
  let s1 := (s.setReg o (setBit (s.reg o) n true)).setDsp e { d with counts := d.counts.set n ((d.counts.getD n 0 + 1) % 2 ^ 32) }
  let s2 := { s1 with flagCycle := Tbl.set 0 s1.flagCycle (flagKey o n) (w + 1) }
  let ie := if n = 4 then 39 else 36 + n
  if n ≠ 3 ∧ (s.reg (O.ENG_DSP_CONFIG e)).testBit ie then s2.raise .event e (s.halfCtl (e / 128)) else s2

/-! ### Numbers -/

/-- Clamp to n bits, signed (R177, R178). -/
def clampTo (n : Nat) (v : Int) : Int := max (-(2 : Int) ^ (n - 1)) (min ((2 : Int) ^ (n - 1) - 1) v)

/-- A division by 2^SH rounded by RND: 0 floor, 1 half up, 2 half even (R178). -/
def roundShift (v : Int) (sh rnd : Nat) : Int :=
  if sh = 0 then v
  else
    let up := (v + (2 : Int) ^ (sh - 1)) / (2 : Int) ^ sh
    match rnd with
    | 0 => v / (2 : Int) ^ sh
    | 1 => up
    | _ => if v % (2 : Int) ^ sh = (2 : Int) ^ (sh - 1) ∧ up % 2 = 1 then up - 1 else up

/-- The products and sums that reach the accumulators under SHARE; `none` where COMPLEX writes nothing (*Table 6.4*). -/
def shareValues (share : Nat) (a b : List Int) : List (Option Int) :=
  let x := fun k => a.getD k 0
  let y := fun k => b.getD k 0
  match share with
  | 0 => [some (x 0 * y 0), some (x 1 * y 1), some (x 2 * y 2), some (x 3 * y 3)]
  | 1 => [some (x 0 * y 0), some (x 0 * y 1), some (x 0 * y 2), some (x 0 * y 3)]
  | 2 => [some (x 0 * y 0), some (x 0 * y 1), some (x 1 * y 0), some (x 1 * y 1)]
  | _ => [some (x 0 * y 0 - x 1 * y 1), some (x 0 * y 1 + x 1 * y 0), none, none]

/-! ### The last stage, D4 (R177, R179, R186) -/

/-- Combine a value with an accumulator, exactly, then clamp (R177). -/
def accumulate (aop : Nat) (acc v : Int) : Int := clampTo 48 (if aop = 0 then acc + v else if aop = 1 then acc - v else v)

/-- Whether that clamps. -/
def clamps (aop : Nat) (acc v : Int) : Bool := accumulate aop acc v != (if aop = 0 then acc + v else if aop = 1 then acc - v else v)

/-- The accumulators after a MAC; and whether one of them clamped. -/
def DspBank.mac (b : DspBank) (aop : Nat) (vals : List (Option Int)) : DspBank × Bool :=
  let pairs := List.zip b.acc vals
  let sat := pairs.any fun p => match p.2 with
    | some v => clamps aop p.1 v
    | none => false
  ({ b with
     acc := pairs.map fun p => match p.2 with
       | some v => accumulate aop p.1 v
       | none => p.1
     sat := b.sat || sat }, sat)

/-- One MMX (R179): WHICH 0 both, 1 minimum, 2 maximum; the last of equal values with TIE 1. -/
def DspBank.mmx (b : DspBank) (v : Int) (which : Nat) (last noidx : Bool) : DspBank :=
  let lo := which ≠ 2 ∧ (v < b.minv ∨ (last = true ∧ v = b.minv))
  let hi := which ≠ 1 ∧ (b.maxv < v ∨ (last = true ∧ v = b.maxv))
  { b with
    minv := if lo then v else b.minv, mini := if lo then b.idx else b.mini, maxv := if hi then v else b.maxv,
    maxi := if hi then b.idx else b.maxi, idx := if noidx then b.idx else (b.idx + 1) % 2 ^ 32 }

/-- MMCLR: the searches start anew, IDX at a value. -/
def DspBank.clear (b : DspBank) (idx : Nat) : DspBank :=
  { b with minv := 2 ^ 47 - 1, maxv := - 2 ^ 47, mini := 0xFFFFFFFF, maxi := 0xFFFFFFFF, idx := idx }

/-- Perform the D4 of an operation, in word clock w. -/
def State.dspApply (s : State) (e w : Nat) (op : DspOp) : State :=
  let d := s.dsp e
  match op with
  | .mac aop vals =>
    let (b, sat) := d.bank.mac aop vals
    let s1 := s.setDsp e { d with bank := b }
    if sat then s1.dspFlag e 0 w else s1
  | .mmx v which last noidx => s.setDsp e { d with bank := d.bank.mmx v which last noidx }
  | .mmclr idx => s.setDsp e { d with bank := d.bank.clear idx }
  | .accset mask v =>
    s.setDsp e { d with bank := { d.bank with acc := (List.range 4).map fun k => if mask.testBit k then v else d.bank.acc.getD k 0 } }
  | .switch irq clr tt =>
    let s1 := if (s.reg (O.ENG_DSP_FLAGS e)).testBit 3 then s.dspFlag e 4 w else s
    let d1 := s1.dsp e
    let next := if clr then { d1.bank.clear 0 with acc := [0, 0, 0, 0], sat := false } else { d1.bank with sat := false }
    let s2 := (s1.setDsp e { d1 with shadow := d1.bank, bank := next, seq := (d1.seq + 1) % 2 ^ 64, capTt := tt }).dspFlag e 3 w
    if irq then s2.raise .event e (s2.halfCtl (e / 128)) else s2
  | .gsat => s.dspFlag e 1 w

/-- The stages advance once per word clock, whatever stalls: every operation whose D4 has ended before word clock w is performed, in
issue order (R183). -/
def State.dspPump (s : State) (e w : Nat) : State :=
  let d := s.dsp e
  (d.pipe.filter fun x => decide (x.1 + 4 ≤ w)).foldl (fun (s : State) x => s.dspApply e (x.1 + 3) x.2)
    (s.setDsp e { d with pipe := d.pipe.filter fun x => decide (w < x.1 + 4) })

/-- The stages of every engine advance up to the present word clock. -/
def State.dspPumpAll (s : State) : State :=
  s.engines.foldl (fun (s : State) x => if x.2.dsp.pipe = [] then s else s.dspPump x.1 s.wc) s

/-- Put an operation issued in word clock w into the pipeline. -/
def State.dspPush (s : State) (e w : Nat) (op : DspOp) : State :=
  let d := s.dsp e
  s.setDsp e { d with pipe := d.pipe ++ [(w, op)] }

/-! ### Issue (R174 to R181) -/

/-- Lanes from which the DSP slot takes the head result. -/
def dspTakes (d : Nat) : List Nat :=
  match dOp d with
  | 1 => if (bits d 23 21 = 4 ∨ bits d 23 21 = 5) ∨ (bits d 20 18 = 4 ∨ bits d 20 18 = 5) then [0, 1, 2, 3] else []
  | 2 => if bits d 27 25 = 2 ∨ bits d 27 25 = 3 then [bits d 13 12] else []
  | 9 => [bits d 24 23]
  | _ => []

/-- Whether the slot stalls on an empty result FIFO. -/
def State.resultStall (s : State) (e d : Nat) : Bool :=
  (dspTakes d).any fun k => s.retch e k != 0xFF && ((s.dsp e).rf k).isEmpty

/-- The lane whose stream port the DSP slot takes a word from. -/
def dspStream (d : Nat) : Option Nat := if dOp d = 1 ∧ (bits d 23 21 = 3 ∨ bits d 20 18 = 3) then some (bits d 9 8) else none

/-- The head entry of lane k as it reads; 0 for a lane with no return channel. -/
def State.resHead (s : State) (e k : Nat) : Nat × Nat × Nat :=
  if s.retch e k = 0xFF then (0, 0, 0)
  else
    match (s.dsp e).rf k with
    | r :: _ => r.read
    | [] => (0, 0, 0)

/-- Pop the head entry of lane k, where it has a return channel; ledger 0x106E counts it (R182). -/
def State.resPop (s : State) (e k : Nat) : State :=
  if s.retch e k = 0xFF ∨ (s.dsp e).rf k = [] then s
  else (s.setDsp e ((s.dsp e).setRf k (((s.dsp e).rf k).drop 1))).ledMove 0x106E 2 1 1

/-- The operand registers of a side after a load (R175): `stream` is the stream word, `heads` the four result entries. -/
def State.operands (s : State) (e src m stream : Nat) (heads : List (Nat × Nat × Nat)) (old : List Int) : List Int :=
  match src with
  | 1 => List.replicate 4 (signed 18 (s.eG e m % 2 ^ 18))
  | 2 =>
    [signed 16 (s.eG e m % 2 ^ 16), signed 16 (s.eG e m / 2 ^ 16), signed 16 (s.eG e (m + 1) % 2 ^ 16), signed 16 (s.eG e (m + 1) / 2 ^ 16)]
  | 3 => (List.range 4).map fun j => signed 16 (bits stream (16 * j + 15) (16 * j))
  | 4 => heads.map fun h => (h.2.2 : Int)
  | 5 => heads.map fun h => (h.1 : Int)
  | _ => old

/-- Issue the DSP slot in word clock w (stage D1): `f` is the state the instruction found, `stream` the word its stream port gave.
The state, and the value for Gd where it writes one. -/
def State.dspIssue (s f : State) (e w slot stream : Nat) : State × Option Nat :=
  let d := f.dsp e
  let gm := f.eG e (bits slot 19 16)
  match dOp slot with
  | 1 =>
    let heads := (List.range 4).map fun k => f.resHead e k
    let a := f.operands e (bits slot 23 21) (bits slot 17 14) stream heads d.ar
    let b := f.operands e (bits slot 20 18) (bits slot 13 10) stream heads d.br
    let s1 := (dspTakes slot).foldl (fun (s : State) k => s.resPop e k) s
    let vals := (List.range 4).map fun k =>
      if (bits slot 7 4).testBit k then (shareValues (bits slot 27 26) a b).getD k none else none
    ((s1.setDsp e { s1.dsp e with ar := a, br := b }).dspPush e w (.mac (bits slot 25 24) vals), none)
  | 2 =>
    let h := f.resHead e (bits slot 13 12)
    let v : Int :=
      match bits slot 27 25 with
      | 0 => d.bank.acc.getD (bits slot 15 14) 0
      | 1 => signed 32 gm
      | 2 => h.1
      | _ => h.2.1
    let v := if slot.testBit 21 then clampTo 48 (-v) else v
    (((dspTakes slot).foldl (fun (s : State) k => s.resPop e k) s).dspPush e w
      (.mmx v (bits slot 24 23) (slot.testBit 22) (slot.testBit 20)), none)
  | 3 => (s.dspPush e w (.mmclr (if slot.testBit 27 then gm else 0)), none)
  | 4 =>
    let r := roundShift (d.bank.acc.getD (bits slot 27 26) 0) (bits slot 25 21) (bits slot 20 19)
    (if clampTo 32 r = r then s else s.dspPush e w .gsat, some (unsigned 32 (clampTo 32 r)))
  | 5 =>
    let wide := fun (v : Int) => (if clampTo 32 v = v then s else s.dspPush e w .gsat, some (unsigned 32 (clampTo 32 v)))
    match bits slot 27 25 with
    | 0 => wide d.bank.minv
    | 1 => (s, some d.bank.mini)
    | 2 => wide d.bank.maxv
    | 3 => (s, some d.bank.maxi)
    | _ => (s, some d.bank.idx)
  | 6 => (s.dspPush e w (.accset (bits slot 27 24) (if slot.testBit 23 then signed 32 gm else 0)), none)
  | 7 =>
    let v := signed 18 (gm % 2 ^ 18)
    let put := fun (l : List Int) => if slot.testBit 26 then [v, v, v, v] else l.set (bits slot 25 24) v
    let x := s.dsp e
    (s.setDsp e (if slot.testBit 27 then { x with br := put x.br } else { x with ar := put x.ar }), none)
  | 8 => (s.dspPush e w (.switch (slot.testBit 27) (slot.testBit 26) (s.ttOf (w * Config.wordUnits))), none)
  | 9 =>
    let k := bits slot 24 23
    let h := f.resHead e k
    let v := match bits slot 27 26 with
      | 0 => h.1
      | 1 => h.2.1
      | _ => h.2.2
    (if slot.testBit 25 then s.resPop e k else s, some v)
  | _ => (s, none)

/-! ### Step results (R180 to R182) -/

/-- Deliver an entry to a lane, or drop it at a full FIFO (R181). -/
def State.resDeliver (s : State) (e k : Nat) (r : ResEntry) : State :=
  let l := (s.dsp e).rf k
  let s1 := s.ledAdd 0x106E 0 1
  if l.length < 64 then (s1.setDsp e ((s1.dsp e).setRf k (l ++ [r]))).ledAdd 0x106E 2 1
  else (s1.ledAdd 0x106E 3 1).dspFlag e 2 s.wc

/-- Whether an engine has an instruction still to issue in the present word clock that takes the head result of lane k. -/
def State.popsNow (s : State) (e k : Nat) : Bool :=
  s.reg (O.ENG_STATE e) == 4 && decide ((s.engine e).free ≤ s.wc) && s.domainRunning (324 + e / 32) &&
    (dspTakes (iDsp (s.insn e))).contains k && (dOp (iDsp (s.insn e)) != 9 || (iDsp (s.insn e)).testBit 25)

/-- The lanes, each with its engine, that name a channel (R180). -/
def State.retLanes (s : State) (ch : Nat) : List (Nat × Nat) :=
  ((List.range 512).flatMap fun e => (List.range 4).map fun k => (e, k)).filter fun p => s.retch p.1 p.2 == ch

/-- STEP_RESULT: the oldest closed step of a channel whose strobes have all been judged is delivered to every lane that names the
channel. A pop of the same word clock goes first (R181): the delivery waits for it where it finds a full FIFO. -/
def execStepResult (t : Nat) (ch : Fin 144) (s : State) : Host.Outcome State Fault Refusal :=
  let s1 := s.tickTo t
  let c := s1.chan ch.val
  .next
    (match c.steps with
     | [] => s1
     | x :: rest =>
       if !x.closed ∨ c.strobes.any (fun y => y.step == x.id) ∨
           (s1.retLanes ch.val).any (fun p => decide (64 ≤ ((s1.dsp p.1).rf p.2).length) && s1.popsNow p.1 p.2) then s1
       else
         (s1.retLanes ch.val).foldl (fun (s : State) p => s.resDeliver p.1 p.2 ⟨x.fails, x.hits, x.valid⟩)
           (s1.setChan ch.val { c with steps := rest }))

/-! ### DSP_STATE (*Table 6.11*) -/

/-- A signed field of an image. -/
def fieldInt (img : List Byte) (o n : Nat) : Int := signed (8 * n) (fieldLE img o n)

/-- A bank as the image lays it out from a byte. -/
def bankBytes (b : DspBank) : List Byte :=
  b.acc.flatMap (fun v => leBytes 8 (unsigned 64 v)) ++ leBytes 8 (unsigned 64 b.minv) ++ leBytes 4 b.mini ++ leBytes 8 (unsigned 64 b.maxv) ++
    leBytes 4 b.maxi ++ leBytes 4 b.idx ++ leBytes 1 (b2n b.sat) ++ fill 3 0

/-- The bank that an image holds from a byte. -/
def bankAt (img : List Byte) (o : Nat) : DspBank :=
  { acc := (List.range 4).map fun k => fieldInt img (o + 8 * k) 8, minv := fieldInt img (o + 32) 8, mini := fieldLE img (o + 40) 4,
    maxv := fieldInt img (o + 44) 8, maxi := fieldLE img (o + 52) 4, idx := fieldLE img (o + 56) 4, sat := byteAt img (o + 60) == 1 }

/-- DSP_STATE as it reads. -/
def State.dspImage (s : State) (e : Nat) : List Byte :=
  let d := (s.dspPump e s.wc).dsp e
  bankBytes d.bank ++ (d.ar ++ d.br).flatMap (fun v => leBytes 4 (unsigned 32 v)) ++ leBytes 8 d.seq ++ leBytes 10 d.capTt ++ fill 6 0 ++
    bankBytes d.shadow ++ d.counts.flatMap (leBytes 4) ++ (List.range 4).flatMap (fun k => leBytes 1 (d.rf k).length) ++ fill 48 0

/-- The states in which RWL objects of an engine are writable (R165). -/
def State.engineSafe (s : State) (e : Nat) : Bool :=
  let st := s.reg (O.ENG_STATE e)
  st == 0 || st == 2 || st == 5 || st == 6 || st == 7

/-- Whether an image's values lie in their ranges. -/
def dspImageOk (img : List Byte) : Bool :=
  let wide := fun (b : DspBank) => (b.minv :: b.maxv :: b.acc).all fun v => clampTo 48 v == v
  img.length == 256 && wide (bankAt img 0) && wide (bankAt img 120) &&
    (List.range 8).all (fun k => let v := fieldInt img (64 + 4 * k) 4; clampTo 18 v == v) &&
    decide (byteAt img 60 ≤ 1) && decide (byteAt img 180 ≤ 1) && decide (byteAt img 208 ≤ 1)

/-- Empty the four result FIFOs; what they held is discarded (R182). -/
def State.resFlush (s : State) (e : Nat) : State :=
  let d := s.dsp e
  let n := d.rf0.length + d.rf1.length + d.rf2.length + d.rf3.length
  (s.setDsp e { d with rf0 := [], rf1 := [], rf2 := [], rf3 := [] }).ledMove 0x106E 2 4 n

/-- The owner of DSP_STATE. -/
def ownDspState (e : Nat) : ImgOwner := unscheduled fun img s =>
  if !s.engineSafe e ∨ !dspImageOk img then (.refused, s)
  else
    let s1 := s.dspPump e s.wc
    let d := s1.dsp e
    let ops := fun o => (List.range 4).map fun k => fieldInt img (o + 4 * k) 4
    let s2 := s1.setDsp e { d with bank := bankAt img 0, ar := ops 64, br := ops 80, shadow := bankAt img 120 }
    (.okay, if byteAt img 208 = 1 then s2.resFlush e else s2)

/-- DSP_STATE_COMMIT. -/
def execDspStateCommit (t : Nat) (r : Requester) (e : Fin 512) (crc tt : Nat) (s : State) : Host.Outcome State Fault Refusal :=
  .next ((s.tickTo t).commitObj r (O.ENG_DSP_STATE e.val) crc tt (ownDspState e.val))

/-- The owner of DSP_CONFIG (R190): operations whose D4 has ended are judged by the enables it replaces. -/
def ownDspConfig (e : Nat) : Owner := fun v s0 =>
  let s := s0.dspPump e s0.wc
  if !s.engineSafe e ∨ (List.range 4).any (fun k => decide (144 ≤ bits v (8 * k + 7) (8 * k)) && bits v (8 * k + 7) (8 * k) != 255) then
    (.refused, s)
  else (.okay, s.setReg (O.ENG_DSP_CONFIG e) v)

/-- The owner of DSP_FLAGS: flags of operations whose D4 has ended are there to be cleared (R187). -/
def ownDspFlags (e : Nat) : Owner := fun v s => (.okay, (s.dspPump e s.wc).clearFlags (O.ENG_DSP_FLAGS e) v)

end Sys2Proof.Machine
end

