-- ==== Sys2Proof/Machine/Engines.lean ====
section
/-! DEFINITION. The pattern engines at run time (R134 to R171): lanes and their assemblers, event records, stops and illegal
instructions, stalls and gangs, Feed-store arbitration, the issue of one instruction, waits, claims, refresh, and the commands of
the sequence and DSP slots. -/

namespace Sys2Proof.Machine

/-- Cluster of an engine, its number in *Table 5.18*. -/
def State.cluster (s : State) (c : Nat) : Cluster := Tbl.get {} s.clusters c
def State.setCluster (s : State) (c : Nat) (x : Cluster) : State := { s with clusters := Tbl.set {} s.clusters c x }

/-- The physical slot of an engine's stores, over all clusters (R134). -/
def State.physSlot (s : State) (e : Nat) : Nat := e / 32 * 33 + s.reg (O.ENG_PHYS e)

/-! ### Lanes (R151 to R154) -/

def State.lane (s : State) (e k : Nat) : Lane := (s.engine e).lanes.getD k {}
def State.setLane (s : State) (e k : Nat) (l : Lane) : State := s.setEngine e { s.engine e with lanes := (s.engine e).lanes.set k l }

/-- The lane word that two vectors make (*Table 4.1*); without a second one it carries only vector 0, and a stop after it. It is in
the FIFOs 3 word clocks after its issue (R157). -/
def pairWord (src wc : Nat) (x : HalfWord) (y : Option HalfWord) : LaneWord :=
  let z : HalfWord := y.getD ⟨0, 0, 0, 0, 0, 0, false, none⟩
  { word := x.vec + z.vec * 2 ^ 8 + (x.drive + z.drive * 2 ^ 8) * 2 ^ 16 + (x.expect + z.expect * 2 ^ 8) * 2 ^ 32 +
      (x.mask + z.mask * 2 ^ 8) * 2 ^ 48,
    vecs := if y.isSome then 2 else 1, stop := y.isNone, mark0 := x.mark, mark1 := z.mark, site := x.site, a0 := x.a, p0 := x.p,
    a1 := z.a, p1 := z.p, src := src, inst := (wc + 3) * Config.wordUnits }

/-- A vector reaches a lane's assembler: it waits there as vector 0, or completes the word (R151). -/
def State.addVec (s : State) (e k wc : Nat) (v : HalfWord) : State :=
  let l := s.lane e k
  match l.asm with
  | none => s.setLane e k { asm := some { v with mark := l.mark, site := l.site }, site := none, mark := false }
  | some x =>
    (s.setLane e k { l with asm := none, mark := false }).pushLane (pairWord (4 * e + k) wc x (some { v with mark := l.mark }))

/-- A word of a stream port goes to a lane whole (R152); MASKX makes every slot X. -/
def State.addStream (s : State) (e k wc : Nat) (word : BitVec 48) (v0 v1 : Vec) : State :=
  let l := s.lane e k
  (s.setLane e k { l with site := none, mark := false }).pushLane
    { word := word.toNat + (if (s.lctl e k).testBit 10 then 0xFFFF * 2 ^ 48 else 0), vecs := 2, mark0 := l.mark, site := l.site, a0 := v0.a,
      p0 := v0.p, a1 := v1.a, p1 := v1.p, src := 4 * e + k, inst := (wc + 3) * Config.wordUnits }

/-- The step mark of an instruction, once (R148, R193). -/
def State.placeMark (s : State) (e w wc : Nat) : State :=
  if !iMark w ∨ (s.engine e).marked then s
  else
    let s1 := (List.range 4).foldl (fun (s : State) k => if s.laneOff e k then s else s.setLane e k { s.lane e k with mark := true }) s
    (s1.setEngine e { s1.engine e with marked := true }).markUnits e wc

/-- The emit slot of an instruction in a word clock: `f` is the state it found (R150 to R152). -/
def State.emitSlot (s f : State) (e w wc : Nat) : State :=
  let v0 := f.vec0 e w
  let v1 := f.vec1 e w
  (List.range 4).foldl
    (fun (s : State) k =>
      if !f.emits e w k then s
      else if lcSrc (f.lctl e k) = 5 then
        match s.portTake (lanePort e k).1 (lanePort e k).2 with
        | (some word, s1) => s1.addStream e k wc word v0 v1
        | (none, s1) => s1
      else
        let s1 := s.addVec e k wc (f.laneVec e w k v0)
        if iVcnt w = 2 then s1.addVec e k wc (f.laneVec e w k v1) else s1) (s.placeMark e w wc)

/-- A stop goes to every lane that is not OFF; a half-built word goes with vector 1 marked empty (R154). -/
def State.stopLanes (s : State) (e wc : Nat) : State :=
  (List.range 4).foldl
    (fun (s : State) k =>
      if s.laneOff e k then s
      else
        let bare : LaneWord := { word := 0, vecs := 0, stop := true, src := 4 * e + k, inst := (wc + 3) * Config.wordUnits }
        match (s.lane e k).asm with
        | some x => (s.setLane e k { s.lane e k with asm := none }).pushLane (pairWord (4 * e + k) wc x none)
        | none => s.pushLane bare) s

/-- Words that the instruction pushes on lane k. -/
def State.wordsOf (s : State) (e w k : Nat) : Nat :=
  let on := s.emits e w k
  let stream := lcSrc (s.lctl e k) == 5
  let vecs := b2n (s.lane e k).asm.isSome + (if on && !stream then iVcnt w else 0)
  vecs / 2 + b2n (on && stream) + (if iOp w = 9 && !s.laneOff e k then vecs % 2 else 0)

/-- Whether every FIFO that the instruction's words reach has room for them (R151). -/
def State.emitRoom (s : State) (e w : Nat) : Bool :=
  (List.range 4).all fun k => s.wordsOf e w k == 0 || s.laneRoom (4 * e + k) (s.wordsOf e w k)

/-- Whether every stream port that the emit slot takes a word from has one (R152). -/
def State.emitStreams (s : State) (e w : Nat) : Bool :=
  (List.range 4).all fun k =>
    !(s.emits e w k && lcSrc (s.lctl e k) == 5) || (s.portTake (lanePort e k).1 (lanePort e k).2).1.isSome

/-! ### Event records (R159, R160) -/

/-- What an event record says beside its kind: word clock, PC, INFO, CAPTURE, and the vector 0 of the instruction. -/
structure EventInfo where
  wc : Nat
  pc : Nat
  info : Nat := 0
  capture : Nat := 0
  v : Vec

/-- The granule of an event record (*Table 5.13*). -/
def State.eventGranule (s : State) (e kind : Nat) (x : EventInfo) : List Byte :=
  leBytes 10 (s.ttOf (x.wc * Config.wordUnits)) ++ leBytes 2 e ++ leBytes 2 x.pc ++ leBytes 1 kind ++ leBytes 1 x.info ++ leBytes 4 x.capture ++
    leBytes 4 x.v.dout ++ leBytes 6 x.v.a ++ leBytes 2 0

/-- An event record is produced: it goes to EVQ, or is discarded and counted (R160). -/
def State.eventRecord (s : State) (e kind : Nat) (x : EventInfo) : State :=
  let q := s.reg (O.ENG_EVQ e)
  let s1 := s.ledAdd 0x106C 0 1
  if q ≥ 32768 then s1.ledAdd 0x106C 3 1 else (s1.ledAdd 0x106C 1 1).offer q (Producer.engine.who e) (s.eventGranule e kind x)

/-- A trace record of an engine (*Table 16.9*). -/
def State.engineTrace (s : State) (e kind comp : Nat) : State :=
  s.trace 2 e kind (axesAddr (s.axes e) * 2 ^ 16 + comp * 2 ^ 15 + s.reg (O.ENG_PC e))

/-! ### Ends of a run (R154, R161, R165) -/

/-- The engine leaves RUNNING or HALTED for a state; what was in progress is abandoned, and its stream ports rewind (R378). -/
def State.endRun (s : State) (e st : Nat) : State :=
  ((s.setEngine e { s.engine e with
      scrDone := 0, scrBytes := [], wait := none, waitLeft := none, waitLate := false, marked := false, claim := none, stopReq := false, haltReq := 0,
      stepping := false, skipMatch := false, dsStall := 0 }).setReg (O.ENG_STATE e) st).rewindEngine e

/-- What an event record says of the instruction at PC. -/
def State.eventAt (s : State) (e wc : Nat) : EventInfo := { wc := wc, pc := s.reg (O.ENG_PC e), v := s.vec0 e (s.insn e) }

/-- The engine stops in a word clock (R154): `x` describes the instruction at which it does. -/
def State.stopEngine (s : State) (e wc : Nat) (x : EventInfo) : State :=
  (((((s.stopLanes e wc).eventRecord e 4 x).setReg (O.ENG_REF_PENDING e) 0).engineTrace e 5 0).endRun e 5)

/-- An illegal instruction (R161). -/
def State.illegal (s : State) (e wc cause : Nat) (x : EventInfo) : State :=
  let s1 := ((s.setReg (O.ENG_ILL_CAUSE e) cause).setReg (O.ENG_ILL_PC e) x.pc).setFlag (O.ENG_ILLEGAL e) 0 (O.ENG_ILLEGAL_COUNT e) 1
  (((s1.stopLanes e wc).eventRecord e 1 { x with info := cause }).engineTrace e 4 0).endRun e 6

/-! ### Halts (R434) -/

/-- The engines that stall and halt with an engine: the RUNNING members of its gang in its cluster, or itself (R136). -/
def State.gangOf (s : State) (e : Nat) : List Nat :=
  let g := s.reg (O.ENG_GANG e)
  if g = 0 then [e]
  else ((List.range 32).map (e / 32 * 32 + ·)).filter fun m => m == e || (s.reg (O.ENG_GANG m) == g && s.reg (O.ENG_STATE m) == 4)

/-- HALT_CAUSE of an engine. -/
def State.setHaltCause (s : State) (e c : Nat) : State :=
  s.setImage O.ENGDBG_ENG_HALT_CAUSE (splice (s.image O.ENGDBG_ENG_HALT_CAUSE) e (leBytes 1 c))

/-- A RUNNING engine halts: a WAITC keeps its remaining count, and the refresh timer stops. -/
def State.haltEngine (s : State) (e wc cause : Nat) : State :=
  let g := s.engine e
  let left := match g.wait with
    | some d => if g.waitTt then none else some (d - wc)
    | none => none
  if s.reg (O.ENG_STATE e) ≠ 4 then s
  else
    (((s.setEngine e { g with waitLeft := left, refKept := wc - g.refBase, haltReq := 0, stepping := false, skipMatch := false }).setReg
      (O.ENG_STATE e) 7).setHaltCause e cause).engineTrace e 1 0

/-- The gang of an engine halts in one word clock: `causes` gives the cause of the members that have one of their own. -/
def State.haltGang (s : State) (e wc : Nat) (causes : List (Nat × Nat)) : State :=
  (s.gangOf e).foldl
    (fun (s : State) m =>
      s.haltEngine m wc (match causes.find? (fun c => c.1 == m) with
        | some c => c.2
        | none => 5)) s

/-! ### Comparators (R435) -/

/-- Whether comparator k of an engine matches the instruction at PC; an execute match just after a resume is ignored. -/
def State.compMatches (s : State) (e k : Nat) : Bool :=
  let r := slice (16 * (2 * e + k)) 16 (s.image O.ENGDBG_ENG_COMP)
  let c := byteAt r 14
  let v := s.vec0 e (s.insn e)
  let x := match bits c 2 1 with
    | 0 => s.reg (O.ENG_PC e)
    | 1 => v.a
    | _ => v.dout
  c.testBit 0 && bits c 2 1 != 3 && !(bits c 2 1 == 0 && (s.engine e).skipMatch) &&
    (x &&& fieldLE r 8 6) == (fieldLE r 0 6 &&& fieldLE r 8 6)

/-- ACTION of comparator k. -/
def State.compAction (s : State) (e k : Nat) : Nat := bits (byteAt (s.image O.ENGDBG_ENG_COMP) (16 * (2 * e + k) + 14)) 4 3

/-- Count a match. -/
def State.countMatch (s : State) (e k : Nat) : State :=
  let o := O.ENGDBG_ENG_COMP_HITS
  let i := 4 * (2 * e + k)
  s.setImage o (splice (s.image o) i (leBytes 4 ((fieldLE (s.image o) i 4 + 1) % 2 ^ 32)))

/-- The lowest comparator of an engine that halts it now. -/
def State.haltingComp (s : State) (e : Nat) : Option Nat := [0, 1].find? fun k => s.compMatches e k && s.compAction e k == 0

/-- Matches of an instruction that issues: counted, and recorded in the trace; ACTION 2 stops the trace after its record. -/
def State.traceMatches (s : State) (e : Nat) : State :=
  [0, 1].foldl
    (fun (s : State) k =>
      if !s.compMatches e k then s
      else
        let s1 := s.countMatch e k
        match s1.compAction e k with
        | 1 => s1.engineTrace e 3 k
        | 2 => (s1.engineTrace e 3 k).stopTrace
        | _ => s1) s

/-! ### Feed-store arbitration (R168, R169) -/

/-- Whether an engine comes to its next instruction fresh: no wait, no claim, no table load in progress. -/
def Engine.fresh (g : Engine) : Bool := g.wait.isNone && g.claim.isNone && g.scrDone == 0

/-- The wait in word clocks that the instruction at PC begins, where it begins one (R155). -/
def State.beginsWait (s : State) (e w wc : Nat) : Nat :=
  match iOp w with
  | 7 => (s.waitDist e w wc).toNat
  | 8 => s.eG e (iM w)
  | _ => 0

/-- Whether an engine's instruction waits in a word clock: it begins a wait, or its wait is not over. -/
def State.waits (s : State) (e wc : Nat) : Bool :=
  match (s.engine e).wait with
  | some d => decide (wc < d)
  | none => (s.engine e).fresh && decide (0 < s.beginsWait e (s.insn e) wc)

/-- The word clock in which a claim retires, once it is decided (R205). -/
def Claim.retires (c : Claim) : Option Nat := c.decided.map (·.2 + 4)

/-- Whether an engine has a Feed-store request pending in a word clock. -/
def State.wantsFeed (s : State) (e wc : Nat) : Bool :=
  let g := s.engine e
  s.reg (O.ENG_STATE e) == 4 && decide (g.free ≤ wc) && g.dsStall != wc + 1 && g.claim.all (fun c => c.retires.any fun r => decide (r ≤ wc)) && needsFeed (s.insn e) && !s.waits e wc &&
    (!g.fresh || (s.illegalCause e wc).isNone)

/-- Owner of a word clock in FEED_SCHED (R169): 0 to 31 an engine, 32 the network port. -/
def State.feedOwner (s : State) (c wc : Nat) : Nat :=
  byteAt (s.imageAt (O.CLU_FEED_SCHED c) wc) ((wc + 8 * s.ttOff) % 64)

/-- Contenders served in the window that is open when a word clock begins (R168). A network access granted with no engine about
opened one too. -/
def Cluster.servedAt (x : Cluster) (wc : Nat) : List Nat :=
  if x.grantAt = wc then x.served else if wc ≠ 0 ∧ x.netAt < wc ∧ 0 < x.netLeft (wc - 1) then [32] else []

/-- Arbitrate the Feed store of a cluster in a word clock, once (R168, R169): the owner of the word clock, then the network port, then
the engines in visible order, those first that the window has not served. The winner is an engine of the cluster, 32 the network port,
or 33 none. -/
def State.feedTurn (s : State) (c wc : Nat) : State :=
  let x := s.cluster c
  if x.grantAt = wc + 1 then s
  else
    let want := (List.range 32).filter fun i => s.wantsFeed (32 * c + i) wc
    let left := x.netLeft wc
    let all := if 0 < left then 32 :: want else want
    if all = [] then s.setCluster c { x with winner := 33 }
    else
      let open_ := all.filter fun i => !(x.servedAt wc).contains i
      let (cand, served) := if open_ = [] then (all, []) else (open_, x.servedAt wc)
      let owner := s.feedOwner c wc
      let winner := if cand.contains owner then owner else cand.headD 33
      let net := winner = 32
      let s0 := s.setCluster c
        { x with
          served := winner :: served, grantAt := wc + 1, winner := winner, netAt := wc + 1, netReqs := if net then left - 1 else left,
          netWait := if net ∨ left = 0 then 0 else x.netWait + 1 }
      let s1 := if net then s0.raiseMax (O.CLU_FEED_MAXWAIT c) (min x.netWait 255)
        else (if left = 0 then s0 else s0.bump (O.CLU_FEED_LOSSES c) 1).bump (O.CLU_FEED_GRANTS c) 1
      want.foldl
        (fun (s : State) i =>
          let g := s.engine (32 * c + i)
          if i = winner then (s.raiseMax (O.CLU_FEED_MAXWAIT c) (min g.feedWait 255)).setEngine (32 * c + i) { g with feedWait := 0 }
          else (s.bump (O.CLU_FEED_LOSSES c) 1).setEngine (32 * c + i) { g with feedWait := g.feedWait + 1 }) s1

/-- Whether an engine's Feed-store request is granted in a word clock. -/
def State.feedGranted (s : State) (e wc : Nat) : Bool :=
  (s.cluster (e / 32)).grantAt == wc + 1 && (s.cluster (e / 32)).winner == e % 32

/-! ### Stalls and gangs (R136, R162) -/

/-- The causes for which an engine stalls in a word clock. -/
structure Stalls where
  fifo : Bool := false
  feed : Bool := false
  stream : Bool := false
  result : Bool := false
  halter : Bool := false
  second : Bool := false
  deriving DecidableEq, Repr

def Stalls.any (c : Stalls) : Bool := c.fifo || c.feed || c.stream || c.result || c.halter || c.second

/-- The stalls of an engine in a word clock, once the Feed store has been arbitrated. -/
def State.stalls (s : State) (e wc : Nat) : Stalls :=
  let g := s.engine e
  let w := s.insn e
  let feed := s.wantsFeed e wc && !s.feedGranted e wc
  let emit : Stalls := { fifo := !s.emitRoom e w, stream := !s.emitStreams e w }
  let issue : Stalls := { emit with
    feed := feed, result := s.resultStall e (iDsp w),
    stream := emit.stream || (match dspStream (iDsp w) with
      | some k => (s.portTake (lanePort e k).1 (lanePort e k).2).1.isNone
      | none => false) }
  if g.dsStall = wc + 1 then { second := true }
  else
    match g.claim with
    | some c => if c.retires.any (fun r => decide (r ≤ wc)) then issue else { halter := true }
    | none =>
      if g.fresh && (s.illegalCause e wc).isSome then {}
      else if s.waits e wc then (if iV w then emit else {})
      else if iOp w = 0x0B ∧ g.scrDone < 31 then { feed := feed }
      else if iOp w = 0x0C then {}
      else issue

/-- One word clock of stall of an engine: counted in every counter whose cause held, and for a gang member in STALL_GANG. -/
def State.stallEngine (s : State) (e wc : Nat) (c : Stalls) : State :=
  let count := fun (s : State) (b : Bool) (o : Nat) => if b then s.bump o 1 else s
  let s1 := count (count (count (count (count s c.fifo (O.ENG_STALL_FIFO e)) c.feed (O.ENG_STALL_FEED e)) c.stream (O.ENG_STALL_STREAM e))
    c.result (O.ENG_STALL_RESULT e)) c.halter (O.ENG_STALL_HALTER e)
  let s2 := count (count s1 c.second O.DS_DOUBLE) (s.reg (O.ENG_GANG e) != 0) (O.ENG_STALL_GANG e)
  let s3 := if c.feed then s2.countEvent 0 e 2 1 else s2
  ((s3.engPulse e 1).setEngine e { s3.engine e with free := wc + 1, dsStall := if c.second then 0 else (s3.engine e).dsStall }).countEvent 0 e 1 1

/-- The word clock of an engine's gang: whether the engine goes on in it. The first member that comes decides for all: any stall
stalls every member (R136), and a comparator that matches halts them before they issue (R435). -/
def State.gangTurn (s : State) (e wc : Nat) : Bool × State :=
  let c := e / 32
  let gang := s.reg (O.ENG_GANG e)
  if gang ≠ 0 ∧ Tbl.get 0 (s.cluster c).gangs gang = wc + 1 then (true, s)
  else
    let s1 := s.feedTurn c wc
    let ms := s1.gangOf e
    let st := (ms.filter fun m => decide ((s1.engine m).free ≤ wc)).map fun m => (m, s1.stalls m wc)
    if st.any (fun p => p.2.any) then (false, st.foldl (fun (s : State) p => s.stallEngine p.1 wc p.2) s1)
    else
      let hits := st.filterMap fun p =>
        let g := s1.engine p.1
        if g.fresh && (s1.illegalCause p.1 wc).isNone then (s1.haltingComp p.1).map fun k => (p.1, 2 + k) else none
      if hits ≠ [] then
        let s2 := hits.foldl
          (fun (s : State) h =>
            [0, 1].foldl (fun (s : State) k => if s.compMatches h.1 k && s.compAction h.1 k == 0 then s.countMatch h.1 k else s) s) s1
        (false, s2.haltGang e wc hits)
      else
        (true, if gang = 0 then s1
               else s1.setCluster c { s1.cluster c with gangs := Tbl.set 0 (s1.cluster c).gangs gang (wc + 1) })

/-! ### Program loading and spares (R163 to R167) -/

/-- The cluster's load buffer is taken for an engine, or let go (R164). -/
def State.holdBuffer (s : State) (c : Nat) (e : Option Nat) : State :=
  (s.setCluster c { s.cluster c with loadFor := e }).setBool (O.CLU_LOAD_BUSY c) e.isSome

/-- The data store of an engine takes an image; the rest of it is cleared. -/
def State.loadData (s : State) (e : Nat) (b : List Byte) : State :=
  { s with data := dramWrite (s.data.filter fun c => c.1 / 2 ^ 14 != e) (e * 2 ^ 14) b }

/-- The stores of a physical slot, as an engine leaves them there. -/
def State.leaveStores (s : State) (slot e : Nat) : State :=
  let prog := (List.range 2048).flatMap fun i => leBytes 16 (s.progWord e i)
  { s with spareMem := dramWrite (dramWrite s.spareMem (slot * 2 ^ 16) prog) (slot * 2 ^ 16 + 0x8000) (dramRead s.data (e * 2 ^ 14) 16384) }

/-- A failed engine moves to its cluster's spare (R166, R189). -/
def State.remap (s0 : State) (e wc : Nat) : State :=
  let c := e / 32
  let s := s0.dspPump e (wc + 4)
  let s1 := ((((s.leaveStores (s.physSlot e) e).setReg (O.ENG_PHYS e) 32).setReg (O.CLU_SPARE_STATE c) 1).setReg (O.CLU_SPARE_FOR c) e).bump (O.CLU_REMAPS c) 1
  let s2 := ((s1.ledMove 0x106D 1 2 1).fault 6).resFlush e
  let s3 := (s2.setEngine e { s2.engine e with failed := false, dsp := { counts := (s2.dsp e).counts } }).deisolate (quadStop (c / 4) (9 + c % 4)) 1
  s3.eventRecord e 5 (s3.eventAt e wc)

/-- Every word of the stores of a physical slot is written. -/
def State.storesWritten (s : State) (slot : Nat) : State :=
  s.freshWords fun tg a _ => decide (tg ≤ 1) && a == slot

/-- A stop request takes effect at a word clock (*Table 5.15*): not before a stalled HCLAIM has retired; an illegal instruction's
fault goes first; a wait or a stall is abandoned. -/
def State.stopNow (s : State) (e wc : Nat) : State :=
  let s1 := (s.haltPump).dspPump e wc
  let g := s1.engine e
  if g.claim.isSome then s1.setEngine e { g with stopReq := true }
  else
    match if g.fresh then s1.illegalCause e wc else none with
    | some c => s1.illegal e wc c (s1.eventAt e wc)
    | none => s1.stopEngine e wc (s1.eventAt e wc)

/-- A load takes effect at its instant (R164): REFUSED where a failed engine finds no spare. -/
def State.loadNow (s : State) (e wc : Nat) (img : List Byte) : Status × State :=
  let c := e / 32
  if (s.engine e).failed ∧ (s.reg (O.ENG_PHYS e) = 32 ∨ s.reg (O.CLU_SPARE_STATE c) ≠ 0) then (.refused, s.holdBuffer c none)
  else
    let st := s.reg (O.ENG_STATE e)
    let s1 :=
      if st = 3 then (s.cancelAction .start e).2
      else if st = 4 then s.stopNow e wc
      else if st = 7 then s.stopEngine e wc (s.eventAt e wc)
      else s
    let s2 := s1.releaseAll e
    let s3 := if (s2.engine e).failed then s2.remap e wc else s2
    let s4 := ((s3.setEngine e { s3.engine e with loadWaits := false, releases := [], views := 0 }).setImage (O.ENG_PROGRAM e) img).loadData e
      (progData img)
    (.okay, ((((s4.dropPatch e).storesWritten (s4.physSlot e)).setReg (O.ENG_STATE e) 1).holdBuffer c (some e)))

/-- What a load clears (*Table 5.2*). -/
def State.loadClears (s : State) (e : Nat) : State :=
  let g := s.engine e
  ((((s.setEngine e { g with stack := [], scramble := none, lanes := g.lanes.map fun l => { l with asm := none } }).setReg (O.ENG_FLAGS e)
    0).setReg (O.ENG_PC e) (progEntry (s.image (O.ENG_PROGRAM e)))).setReg (O.ENG_SCR_ADDR e) 0xFFFFFFFF).setReg (O.ENG_REF_PENDING e) 0

/-- A load whose engine stalls on an HCLAIM waits for it (R164, R207); any other takes effect now. -/
def State.loadProgram (s : State) (e wc : Nat) (img : List Byte) : Status × State :=
  if s.reg (O.ENG_STATE e) = 4 ∧ (s.engine e).claim.isSome then
    (.okay, { (s.setEngine e { s.engine e with stopReq := true, loadWaits := true }).holdBuffer (e / 32) (some e) with
              staged := Tbl.set [] s.staged (O.ENG_PROGRAM e) img })
  else s.loadNow e wc img

/-- The load that waited for an HCLAIM takes effect. -/
def State.waitedLoad (s : State) (e wc : Nat) : State :=
  if !(s.engine e).loadWaits then s
  else
    let img := Tbl.get [] s.staged (O.ENG_PROGRAM e)
    ({ s.setEngine e { s.engine e with loadWaits := false } with staged := Tbl.set [] s.staged (O.ENG_PROGRAM e) [] }.loadNow e wc img).2

/-! ### Retirement (R158, R159) -/

/-- The event points on the instruction at an address fire (R159). CAPTURE takes the G register after the instruction's own writes, as its
retirement leaves it (DESIGN CHOICE). -/
def State.firePoints (s : State) (e : Nat) (x : EventInfo) : State :=
  let img := s.image (O.ENG_PROGRAM e)
  (List.range (progEvents img)).foldl
    (fun (s : State) i =>
      let p := progEvent img i
      if p.1 ≠ x.pc then s
      else
        let s1 := ((s.engPulse e 2).bump (O.ENG_EVENT_HITS e) 1).engineTrace e 0 0
        let s2 := if p.2.1.testBit 0 then s1.eventRecord e 0 { x with info := i, capture := s1.eG e p.2.2 } else s1
        if p.2.1.testBit 1 then s2.raise .event e (s2.halfCtl (e / 128)) else s2) s

/-- A refresh call at an RA point (R158), on the stack that the instruction leaves: RA on the RET that ends a refresh routine may take
the next call (DESIGN CHOICE). An overflow has been found before the instruction issued. -/
def State.refreshCall (s : State) (e w : Nat) : State :=
  let g := s.engine e
  if !iRa w ∨ s.reg (O.ENG_REF_PENDING e) = 0 ∨ g.stack.any (·.2) then s
  else
    ((s.setEngine e { g with stack := (s.reg (O.ENG_PC e), true) :: g.stack }).setReg (O.ENG_PC e) (s.reg (O.ENG_REF_ENTRY e) % 2048)).setReg
      (O.ENG_REF_PENDING e) (s.reg (O.ENG_REF_PENDING e) - 1)

/-- A stop or a halt that waited for an HCLAIM, or a step that ends with this instruction (R162, R434). -/
def State.afterIssue (s : State) (e wc : Nat) : State :=
  let g := s.engine e
  if s.reg (O.ENG_STATE e) ≠ 4 then s
  else if g.stopReq then (s.stopEngine e wc (s.eventAt e wc)).waitedLoad e wc
  else
    let ms := s.gangOf e
    if ms.any (fun m => (s.engine m).haltReq != 0) && !ms.any (fun m => (s.engine m).claim.isSome) then
      s.haltGang e wc (ms.filterMap fun m => if (s.engine m).haltReq = 0 then none else some (m, (s.engine m).haltReq))
    else if g.stepping then s.haltEngine e wc 4
    else s

/-- The instruction retires: its event points, a late wait's record, then STOP or a refresh call. -/
def State.retire (s : State) (e w wc : Nat) (x : EventInfo) (late : Bool) : State :=
  let s0 := s.setEngine e { s.engine e with wait := none, waitLate := false, marked := false, scrDone := 0, scrBytes := [], claim := none, skipMatch := false }
  let s1 := (((s0.engPulse e 3).bump (O.ENG_RETIRED e) 1).countEvent 0 e 0 1).firePoints e x
  let s2 := if late then (s1.setFlag (O.ENG_WAIT_LATE e) 0 (O.ENG_WAIT_LATE_COUNT e) 1).eventRecord e 2 x else s1
  if iOp w = 9 then s2.stopEngine e wc x else (s2.refreshCall e w).afterIssue e wc

/-! ### Issue (R139) -/

/-- Write registers in order. -/
def State.writeAll (s : State) (l : List (Nat × Nat)) : State := l.foldl (fun (s : State) p => s.setReg p.1 p.2) s

/-- The register writes of the address slot. -/
def State.addrWrites (s : State) (e w : Nat) : List (Nat × Nat) :=
  match (s.addrSlot e w).2.axes with
  | [x, y, z] =>
    [(O.ENG_X e, x.r), (O.ENG_Y e, y.r), (O.ENG_Z e, z.r), (O.ENG_XB e, x.b), (O.ENG_YB e, y.b), (O.ENG_ZB e, z.b), (O.ENG_XMAX e, x.m),
     (O.ENG_YMAX e, y.m), (O.ENG_ZMAX e, z.m)]
  | _ => []

/-- SITE records a site on the lanes of its mask (R153). -/
def State.recordSite (s : State) (e w v : Nat) : State :=
  (List.range 4).foldl
    (fun (s : State) k =>
      if (iOpnd w).testBit k then (s.setLane e k { s.lane e k with site := some v }).setReg (O.ENG_SITEV0 e + k) v else s) s

/-- The effects of the sequence slot that are not register writes: STS, SITE, HRELEASE and SCRLD, read from the found state `f`. -/
def State.seqEffects (s f : State) (e w wc : Nat) : State :=
  match iOp w with
  | 0x0A => s.recordSite e w ((if (iOpnd w).testBit 4 then f.eG e (iM5 w) else iTarget w) % 1024)
  | 0x0B =>
    (s.setEngine e { s.engine e with scramble := some (f.engine e).scrBytes }).setReg (O.ENG_SCR_ADDR e) (f.eG e (iD w))
  | 0x0D =>
    let g := s.engine e
    let k := iK w
    let twice := g.releases.any fun r => r.1 == k && r.2.1 == iVirt w && (!iVirt w || r.2.2.1 == iSlot w)
    if f.holdsUnit e k (iVirt w) (iSlot w) ∧ !twice then
      s.setEngine e { g with releases := g.releases ++ [(k, iVirt w, iSlot w, wc + 4)] }
    else s.bump O.ALLOC_RELEASE_NOT_HELD 1
  | 0x0F =>
    let k := badKey 1 (s.physSlot e) (f.eG e (iM5 w) / 4)
    { s with
      data := dramWrite s.data (e * 2 ^ 14 + f.eG e (iM5 w)) (leBytes 4 (f.eG e (iD w))), upWords := Tbl.set false s.upWords k false }
  | _ => s

/-- The word that the DSP slot takes from its stream port. -/
def State.takeDspStream (s : State) (e w : Nat) : Nat × State :=
  match dspStream (iDsp w) with
  | none => (0, s)
  | some k =>
    match s.portTake (lanePort e k).1 (lanePort e k).2 with
    | (some x, s1) => (x.toNat, s1)
    | (none, s1) => (0, s1)

/-- The instruction at PC issues in word clock wc and retires: all five slots read the present state and write at its end (R139). `late`
says whether a WAITTT is late, `cf` what an HCLAIM sets CF to. A refresh call that has fallen due since the instruction began to wait may
find the stack full. -/
def State.issue (s0 : State) (e wc : Nat) (late : Bool) (cf : Option Bool) : State :=
  if s0.refreshOverflow e (s0.insn e) wc then s0.illegal e wc 7 (s0.eventAt e wc) else
  let s1 := if iOp (s0.insn e) = 7 then s0.setEFlag e 3 late else s0
  let s := match cf with
    | some b => s1.setEFlag e 1 b
    | none => s1
  let f := s.traceMatches e
  let w := f.insn e
  let x := f.eventAt e wc
  let (pc, stack) := f.seqNext e w wc
  let s1 := (f.seqEffects f e w wc).emitSlot f e w wc
  let (word, s2) := s1.takeDspStream e w
  let (s3, gd) := s2.dspIssue f e wc (iDsp w) word
  let s4 := s3.writeAll (f.addrWrites e w ++ f.dataWrites e w ++ f.seqWrites e w wc)
  let s5 := match dspDest (iDsp w), gd with
    | some d, some v => s4.setReg (O.ENG_G0 e + d) v
    | _, _ => s4
  let s6 := s5.setEngine e { s5.engine e with
    stack := stack, free := wc + 1, dsStall := if dsDouble w then wc + 2 else 0 }
  (s6.setReg (O.ENG_PC e) pc).retire e w wc x late

/-! ### One word clock of an engine -/

/-- The words that the instruction reads, by target, array and word: its own in the program store, then those in the data store and in
the Feed store. -/
def State.readsOf (s : State) (e : Nat) : List (Nat × Nat × Nat) :=
  let w := s.insn e
  let ph := s.physSlot e
  let c := e / 32
  let opt := fun (b : Bool) (x : Nat × Nat × Nat) => if b then [x] else []
  [(0, ph, s.reg (O.ENG_PC e))] ++ opt (iOp w == 0x0E) (1, ph, s.eG e (iM5 w) / 4) ++ opt (iDop w == 7) (1, ph, s.eG e (iDgm w) / 4) ++
    opt (iDop w == 8) (2, c, s.eG e (iDgm w) / 16) ++ opt (iOp w == 0x0B) (2, c, s.eG e (iD w) / 16 + (s.engine e).scrDone)

/-- Whether the instruction reads a word with a double-bit error (*Table 14.1*), and the target of the first. -/
def State.readsBad (s : State) (e : Nat) : Option Nat :=
  ((s.readsOf e).find? fun x => s.badWord x.1 x.2.1 x.2.2).map (·.1)

/-- The instruction's reads, each word with one bit upset corrected and counted (R383); it is fetched once. -/
def State.engReads (s : State) (e : Nat) : State :=
  (if (s.engine e).fresh then s.readsOf e else (s.readsOf e).drop 1).foldl (fun (s : State) x => s.sramRead x.1 x.2.1 x.2.2 1) s

/-- A word clock of waiting: with V the emit slot repeats (R155). -/
def State.waitClock (s : State) (e wc due : Nat) (tt : Bool) : State :=
  let w := s.insn e
  let s1 := s.setEngine e { s.engine e with wait := some due, waitTt := tt, free := wc + 1 }
  if iV w then s1.emitSlot s e w wc else s1

/-- One Feed-store access of SCRLD; the last checks MAGIC and retires (R146). -/
def State.scrAccess (s : State) (e wc : Nat) : State :=
  let g := s.engine e
  let b := g.scrBytes ++ s.feedRead (e / 32) (s.eG e (iD (s.insn e)) + 16 * g.scrDone) 16
  if g.scrDone < 31 then s.setEngine e { g with scrDone := g.scrDone + 1, scrBytes := b, free := wc + 1 }
  else if fieldLE b 0 4 ≠ 0x53435242 then s.illegal e wc 17 (s.eventAt e wc)
  else (s.setEngine e { g with scrBytes := b }).issue e wc false none

/-- HCLAIM issues its claim; VIEW follows VIRT's slot whatever the outcome (R202). -/
def State.issueClaim (s0 : State) (e wc : Nat) : State :=
  let s := s0.takeSamples ((wc + 1) * Config.wordUnits)
  let w := s.insn e
  let k := iK w
  let g := s.engine e
  let views := if iVirt w then g.views - bits g.views (4 * k + 3) (4 * k) * 2 ^ (4 * k) + iSlot w * 2 ^ (4 * k) else g.views
  s.setEngine e { g with claim := some ⟨k, iVirt w, iSlot w, wc, none⟩, views := views, free := wc + 1 }

/-- The stalled word clocks of an HCLAIM that have not been counted yet, up to a word clock or to its retirement (R156): its own, and its
gang's. The word clock of its issue and that of its retirement are none. -/
def State.countClaimStall (s : State) (e wc : Nat) : State :=
  match (s.engine e).claim with
  | none => s
  | some c =>
    let upto := match c.retires with
      | some r => min r wc
      | none => wc
    let n := upto - (s.engine e).free
    let s1 := (s.bump (O.ENG_STALL_HALTER e) n).countEvent 0 e 1 n
    (s.gangOf e).foldl
      (fun (s : State) m =>
        let g := s.engine m
        ((if s.reg (O.ENG_GANG m) = 0 then s else s.bump (O.ENG_STALL_GANG m) (upto - g.free)).setEngine m { g with free := max g.free upto })) s1

/-- An HCLAIM whose claim is decided retires: CF takes the outcome (R141, R205). -/
def State.retireClaim (s : State) (e wc : Nat) (c : Claim) : State :=
  match c.decided with
  | none => s
  | some (granted, _) => s.issue e wc false (some granted)

/-- The engine goes on in word clock wc: nothing stalls it. -/
def State.goOn (s : State) (e wc : Nat) : State :=
  let g := s.engine e
  let w := s.insn e
  match g.claim, g.wait with
  | some c, _ => s.retireClaim e wc c
  | none, some due =>
    if wc < due then s.waitClock e wc due g.waitTt
    else s.issue e wc (g.waitTt && g.waitLate) none
  | none, none =>
    match s.readsBad e with
    | some t => (s.sramBad t).stopEngine e wc (s.eventAt e wc)
    | none =>
      let s := s.engReads e
      match if g.fresh then s.illegalCause e wc else none with
      | some c => s.illegal e wc c (s.eventAt e wc)
      | none =>
        match iOp w with
        | 0x07 =>
          if 0 < s.beginsWait e w wc then s.waitClock e wc (wc + s.beginsWait e w wc) true
          else s.issue e wc true none
        | 0x08 => if 0 < s.beginsWait e w wc then s.waitClock e wc (wc + s.beginsWait e w wc) false else s.issue e wc false none
        | 0x0B => s.scrAccess e wc
        | 0x0C => s.issueClaim e wc
        | _ => s.issue e wc false none

/-- Whether an engine can issue: RUNNING, in a cluster whose clock runs, not yet past this word clock. -/
def State.engineReady (s : State) (e wc : Nat) : Bool :=
  s.reg (O.ENG_STATE e) == 4 && decide ((s.engine e).free ≤ wc) && s.domainRunning (324 + e / 32)

/-- A word clock of an engine whose instruction at PC is of a kind (R139): stalled with its gang, or going on. -/
def State.engineTurn (s : State) (e : Nat) (kind : State → Bool) : State :=
  let s0 := (s.haltPump).dspPump e s.wc
  let missed := (s0.engine e).dsStall
  -- the second word clock of a double data-store access has passed without a command
  let s1 := if missed ≠ 0 ∧ missed ≤ s.wc then s0.stallEngine e (missed - 1) { second := true } else s0
  if !s1.engineReady e s.wc ∨ !kind s1 then s1
  else
    let s2 := (s1.gangOf e).foldl (fun (s : State) m => s.countClaimStall m s1.wc) s1
    match s2.gangTurn e s.wc with
    | (true, s3) => s3.goOn e s.wc
    | (false, s3) => s3

/-- The instruction at PC has a sequence opcode. -/
def hasOp (e op : Nat) (s : State) : Bool := iOp (s.insn e) == op

/-- The instruction at PC has a DSP opcode. -/
def hasDsp (e op : Nat) (s : State) : Bool := dOp (iDsp (s.insn e)) == op

end Sys2Proof.Machine
end

