-- ==== Sys2Proof/Machine/EngineCmds.lean ====
section
/-! DEFINITION. The commands of the engines: one per instruction of the sequence and DSP slots, each naming the engine that comes to
such an instruction in the present word clock; starting, stopping, loading and refresh (R140, R155, R158, R164 to R166), claims at the
allocator (R205), and FEED_SCHED (R169). -/

namespace Sys2Proof.Machine

/-! ### Instructions -/

/-- Whether the wait of an engine has reached its end. -/
def State.waitOver (s : State) (e : Nat) : Bool := (s.engine e).wait.any fun d => decide (d ≤ s.wc)

/-- NEXT: an engine comes to NEXT; a word whose sequence opcode is reserved, or that lies at or above INSTR_COUNT, comes here too and is illegal (R140, R161). -/
def execNext (t : Nat) (e : Fin 512) (s : State) : Host.Outcome State Fault Refusal :=
  .next ((s.tickTo t).engineTurn e.val (fun s => hasOp e.val 0x00 s || !opListed (iOp (s.insn e.val)) || decide (s.reg (O.ENG_PC e.val) ≥ progCount (s.image (O.ENG_PROGRAM e.val)))))

/-- JMP: an engine comes to JMP. -/
def execJmp (t : Nat) (e : Fin 512) (s : State) : Host.Outcome State Fault Refusal :=
  .next ((s.tickTo t).engineTurn e.val (hasOp e.val 0x01))

/-- CALL: an engine comes to CALL. -/
def execCall (t : Nat) (e : Fin 512) (s : State) : Host.Outcome State Fault Refusal :=
  .next ((s.tickTo t).engineTurn e.val (hasOp e.val 0x02))

/-- RET: an engine comes to RET. -/
def execRet (t : Nat) (e : Fin 512) (s : State) : Host.Outcome State Fault Refusal :=
  .next ((s.tickTo t).engineTurn e.val (hasOp e.val 0x03))

/-- LOOP: an engine comes to LOOP. -/
def execLoop (t : Nat) (e : Fin 512) (s : State) : Host.Outcome State Fault Refusal :=
  .next ((s.tickTo t).engineTurn e.val (hasOp e.val 0x04))

/-- LDLCI: an engine comes to LDLCI. -/
def execLdlci (t : Nat) (e : Fin 512) (s : State) : Host.Outcome State Fault Refusal :=
  .next ((s.tickTo t).engineTurn e.val (hasOp e.val 0x05))

/-- LDLC: an engine comes to LDLC. -/
def execLdlc (t : Nat) (e : Fin 512) (s : State) : Host.Outcome State Fault Refusal :=
  .next ((s.tickTo t).engineTurn e.val (hasOp e.val 0x06))

/-- WAITTT: WAITTT issues, or waits one word clock more (R155). -/
def execWaittt (t : Nat) (e : Fin 512) (s : State) : Host.Outcome State Fault Refusal :=
  .next ((s.tickTo t).engineTurn e.val (fun s => hasOp e.val 0x07 s && !s.waitOver e.val))

/-- WAITTT_RETIRE: the boundary of a WAITTT has come and it retires (R155). -/
def execWaitttRetire (t : Nat) (e : Fin 512) (s : State) : Host.Outcome State Fault Refusal :=
  .next ((s.tickTo t).engineTurn e.val (fun s => hasOp e.val 0x07 s && s.waitOver e.val))

/-- WAITC: WAITC issues, or waits one word clock more (R155). -/
def execWaitc (t : Nat) (e : Fin 512) (s : State) : Host.Outcome State Fault Refusal :=
  .next ((s.tickTo t).engineTurn e.val (fun s => hasOp e.val 0x08 s && !s.waitOver e.val))

/-- WAITC_RETIRE: the count of a WAITC has ended and it retires (R155). -/
def execWaitcRetire (t : Nat) (e : Fin 512) (s : State) : Host.Outcome State Fault Refusal :=
  .next ((s.tickTo t).engineTurn e.val (fun s => hasOp e.val 0x08 s && s.waitOver e.val))

/-- STOP: an engine comes to STOP. -/
def execStop (t : Nat) (e : Fin 512) (s : State) : Host.Outcome State Fault Refusal :=
  .next ((s.tickTo t).engineTurn e.val (hasOp e.val 0x09))

/-- SITE: an engine comes to SITE. -/
def execSite (t : Nat) (e : Fin 512) (s : State) : Host.Outcome State Fault Refusal :=
  .next ((s.tickTo t).engineTurn e.val (hasOp e.val 0x0A))

/-- SCRLD: one Feed-store access of SCRLD (R146). -/
def execScrld (t : Nat) (e : Fin 512) (s : State) : Host.Outcome State Fault Refusal :=
  .next ((s.tickTo t).engineTurn e.val (hasOp e.val 0x0B))

/-- HCLAIM: HCLAIM issues its claim, stalls, or retires once it is decided (R202, R205). -/
def execHclaim (t : Nat) (e : Fin 512) (s : State) : Host.Outcome State Fault Refusal :=
  .next ((s.tickTo t).engineTurn e.val (hasOp e.val 0x0C))

/-- HRELEASE: an engine comes to HRELEASE. -/
def execHrelease (t : Nat) (e : Fin 512) (s : State) : Host.Outcome State Fault Refusal :=
  .next ((s.tickTo t).engineTurn e.val (hasOp e.val 0x0D))

/-- LDS: an engine comes to LDS. -/
def execLds (t : Nat) (e : Fin 512) (s : State) : Host.Outcome State Fault Refusal :=
  .next ((s.tickTo t).engineTurn e.val (hasOp e.val 0x0E))

/-- STS: an engine comes to STS. -/
def execSts (t : Nat) (e : Fin 512) (s : State) : Host.Outcome State Fault Refusal :=
  .next ((s.tickTo t).engineTurn e.val (hasOp e.val 0x0F))

/-- MOV: an engine comes to MOV. -/
def execMov (t : Nat) (e : Fin 512) (s : State) : Host.Outcome State Fault Refusal :=
  .next ((s.tickTo t).engineTurn e.val (hasOp e.val 0x10))

/-- ADD: an engine comes to ADD. -/
def execAdd (t : Nat) (e : Fin 512) (s : State) : Host.Outcome State Fault Refusal :=
  .next ((s.tickTo t).engineTurn e.val (hasOp e.val 0x11))

/-- SUB: an engine comes to SUB. -/
def execSub (t : Nat) (e : Fin 512) (s : State) : Host.Outcome State Fault Refusal :=
  .next ((s.tickTo t).engineTurn e.val (hasOp e.val 0x12))

/-- AND: an engine comes to AND. -/
def execAnd (t : Nat) (e : Fin 512) (s : State) : Host.Outcome State Fault Refusal :=
  .next ((s.tickTo t).engineTurn e.val (hasOp e.val 0x13))

/-- OR: an engine comes to OR. -/
def execOr (t : Nat) (e : Fin 512) (s : State) : Host.Outcome State Fault Refusal :=
  .next ((s.tickTo t).engineTurn e.val (hasOp e.val 0x14))

/-- XOR: an engine comes to XOR. -/
def execXor (t : Nat) (e : Fin 512) (s : State) : Host.Outcome State Fault Refusal :=
  .next ((s.tickTo t).engineTurn e.val (hasOp e.val 0x15))

/-- SHL: an engine comes to SHL. -/
def execShl (t : Nat) (e : Fin 512) (s : State) : Host.Outcome State Fault Refusal :=
  .next ((s.tickTo t).engineTurn e.val (hasOp e.val 0x16))

/-- SHR: an engine comes to SHR. -/
def execShr (t : Nat) (e : Fin 512) (s : State) : Host.Outcome State Fault Refusal :=
  .next ((s.tickTo t).engineTurn e.val (hasOp e.val 0x17))

/-- CMP: an engine comes to CMP. -/
def execCmp (t : Nat) (e : Fin 512) (s : State) : Host.Outcome State Fault Refusal :=
  .next ((s.tickTo t).engineTurn e.val (hasOp e.val 0x18))

/-- TST: an engine comes to TST. -/
def execTst (t : Nat) (e : Fin 512) (s : State) : Host.Outcome State Fault Refusal :=
  .next ((s.tickTo t).engineTurn e.val (hasOp e.val 0x19))

/-- MOVI: an engine comes to MOVI. -/
def execMovi (t : Nat) (e : Fin 512) (s : State) : Host.Outcome State Fault Refusal :=
  .next ((s.tickTo t).engineTurn e.val (hasOp e.val 0x20))

/-- ADDI: an engine comes to ADDI. -/
def execAddi (t : Nat) (e : Fin 512) (s : State) : Host.Outcome State Fault Refusal :=
  .next ((s.tickTo t).engineTurn e.val (hasOp e.val 0x21))

/-- SUBI: an engine comes to SUBI. -/
def execSubi (t : Nat) (e : Fin 512) (s : State) : Host.Outcome State Fault Refusal :=
  .next ((s.tickTo t).engineTurn e.val (hasOp e.val 0x22))

/-- ANDI: an engine comes to ANDI. -/
def execAndi (t : Nat) (e : Fin 512) (s : State) : Host.Outcome State Fault Refusal :=
  .next ((s.tickTo t).engineTurn e.val (hasOp e.val 0x23))

/-- ORI: an engine comes to ORI. -/
def execOri (t : Nat) (e : Fin 512) (s : State) : Host.Outcome State Fault Refusal :=
  .next ((s.tickTo t).engineTurn e.val (hasOp e.val 0x24))

/-- XORI: an engine comes to XORI. -/
def execXori (t : Nat) (e : Fin 512) (s : State) : Host.Outcome State Fault Refusal :=
  .next ((s.tickTo t).engineTurn e.val (hasOp e.val 0x25))

/-- SHLI: an engine comes to SHLI. -/
def execShli (t : Nat) (e : Fin 512) (s : State) : Host.Outcome State Fault Refusal :=
  .next ((s.tickTo t).engineTurn e.val (hasOp e.val 0x26))

/-- SHRI: an engine comes to SHRI. -/
def execShri (t : Nat) (e : Fin 512) (s : State) : Host.Outcome State Fault Refusal :=
  .next ((s.tickTo t).engineTurn e.val (hasOp e.val 0x27))

/-- CMPI: an engine comes to CMPI. -/
def execCmpi (t : Nat) (e : Fin 512) (s : State) : Host.Outcome State Fault Refusal :=
  .next ((s.tickTo t).engineTurn e.val (hasOp e.val 0x28))

/-- TSTI: an engine comes to TSTI. -/
def execTsti (t : Nat) (e : Fin 512) (s : State) : Host.Outcome State Fault Refusal :=
  .next ((s.tickTo t).engineTurn e.val (hasOp e.val 0x29))

/-- LDK0: an engine comes to LDK0. -/
def execLdk0 (t : Nat) (e : Fin 512) (s : State) : Host.Outcome State Fault Refusal :=
  .next ((s.tickTo t).engineTurn e.val (hasOp e.val 0x2A))

/-- LDK1: an engine comes to LDK1. -/
def execLdk1 (t : Nat) (e : Fin 512) (s : State) : Host.Outcome State Fault Refusal :=
  .next ((s.tickTo t).engineTurn e.val (hasOp e.val 0x2B))

/-- LDK2: an engine comes to LDK2. -/
def execLdk2 (t : Nat) (e : Fin 512) (s : State) : Host.Outcome State Fault Refusal :=
  .next ((s.tickTo t).engineTurn e.val (hasOp e.val 0x2C))

/-- MAC: an engine comes to an instruction whose DSP slot holds MAC. -/
def execMac (t : Nat) (e : Fin 512) (s : State) : Host.Outcome State Fault Refusal :=
  .next ((s.tickTo t).engineTurn e.val (hasDsp e.val 1))

/-- MMX: an engine comes to an instruction whose DSP slot holds MMX. -/
def execMmx (t : Nat) (e : Fin 512) (s : State) : Host.Outcome State Fault Refusal :=
  .next ((s.tickTo t).engineTurn e.val (hasDsp e.val 2))

/-- MMCLR: an engine comes to an instruction whose DSP slot holds MMCLR. -/
def execMmclr (t : Nat) (e : Fin 512) (s : State) : Host.Outcome State Fault Refusal :=
  .next ((s.tickTo t).engineTurn e.val (hasDsp e.val 3))

/-- ACCRD: an engine comes to an instruction whose DSP slot holds ACCRD. -/
def execAccrd (t : Nat) (e : Fin 512) (s : State) : Host.Outcome State Fault Refusal :=
  .next ((s.tickTo t).engineTurn e.val (hasDsp e.val 4))

/-- MMRD: an engine comes to an instruction whose DSP slot holds MMRD. -/
def execMmrd (t : Nat) (e : Fin 512) (s : State) : Host.Outcome State Fault Refusal :=
  .next ((s.tickTo t).engineTurn e.val (hasDsp e.val 5))

/-- ACCSET: an engine comes to an instruction whose DSP slot holds ACCSET. -/
def execAccset (t : Nat) (e : Fin 512) (s : State) : Host.Outcome State Fault Refusal :=
  .next ((s.tickTo t).engineTurn e.val (hasDsp e.val 6))

/-- LDOP: an engine comes to an instruction whose DSP slot holds LDOP. -/
def execLdop (t : Nat) (e : Fin 512) (s : State) : Host.Outcome State Fault Refusal :=
  .next ((s.tickTo t).engineTurn e.val (hasDsp e.val 7))

/-- SWITCH: an engine comes to an instruction whose DSP slot holds SWITCH. -/
def execSwitch (t : Nat) (e : Fin 512) (s : State) : Host.Outcome State Fault Refusal :=
  .next ((s.tickTo t).engineTurn e.val (hasDsp e.val 8))

/-- RESRD: an engine comes to an instruction whose DSP slot holds RESRD. -/
def execResrd (t : Nat) (e : Fin 512) (s : State) : Host.Outcome State Fault Refusal :=
  .next ((s.tickTo t).engineTurn e.val (hasDsp e.val 9))

/-! ### Refresh (R158) -/

/-- The refresh timer of a RUNNING engine has reached RFI. -/
def State.refreshDue (s : State) (e : Nat) : Bool :=
  s.reg (O.ENG_STATE e) == 4 && s.reg (O.ENG_RFI e) != 0 && decide ((s.engine e).refBase + s.reg (O.ENG_RFI e) ≤ s.wc)

/-- REFRESH_TIMER. -/
def execRefreshTimer (t : Nat) (e : Fin 512) (s : State) : Host.Outcome State Fault Refusal :=
  let s1 := s.tickTo t
  let g := s1.engine e.val
  let n := s1.reg (O.ENG_REF_PENDING e.val)
  let max := s1.reg (O.ENG_REF_MAXDEFER e.val)
  .next
    (if !s1.refreshDue e.val then s1
     else
       let s2 := (s1.setEngine e.val { g with refBase := g.refBase + s1.reg (O.ENG_RFI e.val) }).setReg (O.ENG_REF_PENDING e.val) (min 15 (n + 1))
       if n ≤ max ∧ max < min 15 (n + 1) then
         (s2.setFlag (O.ENG_REF_LATE e.val) 0 (O.ENG_REF_LATE_COUNT e.val) 1).eventRecord e.val 3 (s2.eventAt e.val s2.wc)
       else s2)

/-! ### Starting and stopping (R165) -/

/-- The owner of START_ARM. -/
def ownStartArm (e : Nat) : Owner := arming (O.ENG_START_AT e) false fun s =>
  let st := s.reg (O.ENG_STATE e)
  if s.marchEngine e then (.busy, s)
  else if st ≠ 2 ∧ st ≠ 5 then (.refused, s)
  else
    match s.armAction .start e (s.reg (O.ENG_START_AT e)) 0 with
    | (.okay, s1) => (.okay, (s1.setEngine e { s1.engine e with armedFrom := st }).setReg (O.ENG_STATE e) 3)
    | r => r

/-- START_ARM. -/
def execStartArm (t : Nat) (r : Requester) (e : Fin 512) (v : Bool) (s : State) : Host.Outcome State Fault Refusal :=
  .next ((s.tickTo t).writeObj r (O.ENG_START_ARM e.val) (b2n v) (ownStartArm e.val))

/-- The owner of START_CANCEL (R87): the engine returns to the state it was armed from. -/
def ownStartCancel (e : Nat) : Owner := command fun s =>
  match s.cancelAction .start e with
  | (.okay, s1) => (.okay, if s1.reg (O.ENG_STATE e) = 3 then s1.setReg (O.ENG_STATE e) (s1.engine e).armedFrom else s1)
  | r => r

/-- START_CANCEL. -/
def execStartCancel (t : Nat) (r : Requester) (e : Fin 512) (v : Bool) (s : State) : Host.Outcome State Fault Refusal :=
  .next ((s.tickTo t).writeObj r (O.ENG_START_CANCEL e.val) (b2n v) (ownStartCancel e.val))

/-- An engine enters RUNNING at a word clock: PC at ENTRY, the call stack and the assemblers empty. -/
def State.startEngine (s : State) (e wc : Nat) : State :=
  let g := s.engine e
  ((s.setEngine e { g with
      startAt := some (wc * Config.wordUnits), stack := [], lanes := g.lanes.map fun l => { l with asm := none }, refBase := wc, free := wc }).setReg
    (O.ENG_PC e) (progEntry (s.image (O.ENG_PROGRAM e)))).setReg (O.ENG_STATE e) 4

/-- ENGINE_START: at the instant of an armed start the engine runs; a start that finds it no longer ARMED completes with REFUSED and
counts as cancelled (R164, R165). -/
def execEngineStart (t : Nat) (e : Fin 512) (s : State) : Host.Outcome State Fault Refusal :=
  let s1 := s.tickTo t
  .next
    (match s1.sched .start e.val with
     | none => s1
     | some a =>
       if !s1.due .start e.val a then s1
       else if s1.reg (O.ENG_STATE e.val) ≠ 3 then s1.endAction .start e.val 2
       else (s1.endAction .start e.val 1).startEngine e.val (s1.effectAt .start e.val a / Config.wordUnits))

/-- The owner of STOP_REQ. -/
def ownStopReq (e : Nat) : Owner := command fun s =>
  if s.reg (O.ENG_STATE e) ≠ 4 then (.refused, s) else (.okay, s.stopNow e (s.wc + 1))

/-- STOP_REQ. -/
def execStopReq (t : Nat) (r : Requester) (e : Fin 512) (v : Bool) (s : State) : Host.Outcome State Fault Refusal :=
  .next ((s.tickTo t).writeObj r (O.ENG_STOP_REQ e.val) (b2n v) (ownStopReq e.val))

/-! ### Loading (R163 to R167) -/

/-- The owner of PROGRAM. -/
def ownProgram (e : Nat) : ImgOwner := scheduled fun img tt s =>
  if progRefused img then (.refused, s)
  else if tt = 0 then s.loadProgram e s.wc img
  else if (s.sched .load e).isSome then (.busy, s)
  else
    let (st, s1) := s.armAction .load e tt 0
    (st, if st = .okay then { s1 with staged := Tbl.set [] s1.staged (O.ENG_PROGRAM e) img } else s1)

/-- Whether an engine's open transfer, its waiting load or its copy holds the load buffer. -/
def State.bufferUsed (s : State) (e : Nat) : Bool :=
  (s.xfer (O.ENG_PROGRAM e)).isSome || (s.sched .load e).isSome || (s.engine e).loadWaits || s.reg (O.ENG_STATE e) == 1

/-- The load buffer is let go when nothing holds it any more. -/
def State.settleBuffer (s : State) (e : Nat) : State :=
  if (s.cluster (e / 32)).loadFor = some e ∧ !s.bufferUsed e then s.holdBuffer (e / 32) none else s

/-- PROGRAM_LOAD: a commit of a program, or the instant of a scheduled one; a load whose instant falls during a march of the engine's
stores completes with REFUSED and counts as cancelled (R387). -/
def execProgramLoad (t : Nat) (e : Fin 512) (w : CommitStep) (s : State) : Host.Outcome State Fault Refusal :=
  let s1 := s.tickTo t
  .next
    (match w with
     | .commit r crc tt => (s1.commitObj r (O.ENG_PROGRAM e.val) crc tt (ownProgram e.val)).settleBuffer e.val
     | .effect =>
       match s1.sched .load e.val with
       | none => s1
       | some a =>
         if !s1.due .load e.val a then s1
         else
           let img := Tbl.get [] s1.staged (O.ENG_PROGRAM e.val)
           let s2 := { s1 with staged := Tbl.set [] s1.staged (O.ENG_PROGRAM e.val) [] }
           let (st, s3) := if s1.marchEngine e.val then (.refused, s2) else s2.loadProgram e.val (s1.effectAt .load e.val a / Config.wordUnits) img
           (s3.endAction .load e.val (if st = .okay then 1 else 2)).settleBuffer e.val)

/-- LOAD_COMPLETE: the copy ends, and the engine is READY. -/
def execLoadComplete (t : Nat) (e : Fin 512) (s : State) : Host.Outcome State Fault Refusal :=
  let s1 := s.tickTo t
  .next
    (if s1.reg (O.ENG_STATE e.val) ≠ 1 then s1
     else (((s1.loadClears e.val).setReg (O.ENG_STATE e.val) 2).holdBuffer (e.val / 32) none).rewindEngine e.val)

/-- The owner of FAILED_MARK (R166). -/
def ownFailedMark (e : Nat) : Owner := command fun s => (.okay, s.setEngine e { s.engine e with failed := true })

/-- FAILED_MARK. -/
def execFailedMark (t : Nat) (r : Requester) (e : Fin 512) (v : Bool) (s : State) : Host.Outcome State Fault Refusal :=
  .next ((s.tickTo t).writeObj r (O.ENG_FAILED_MARK e.val) (b2n v) (ownFailedMark e.val))

/-! ### The claim ports (R205) -/

/-- Engines of a quadrant whose claims the allocator can decide in a word clock. -/
def State.claimants (s : State) (q wc : Nat) : List Nat :=
  ((List.range 128).map (q * 128 + ·)).filter fun e =>
    match (s.engine e).claim with
    | some c => c.decided.isNone && decide (c.issued + 3 ≤ wc)
    | none => false

/-- A quadrant's port passes the lowest-numbered claimant not yet served in its window, and the allocator decides it; at most one in a
word clock. -/
def State.portDecide (s : State) (q : Nat) : State :=
  let p := Tbl.get ({} : HPort) s.hports q
  let all := s.claimants q s.wc
  let served := if p.last = s.wc then p.served else []
  let open_ := all.filter fun e => !served.contains e
  let (cand, served) := if open_ = [] then (all, []) else (open_, served)
  match cand with
  | [] => s
  | e :: _ =>
    match (s.engine e).claim with
    | none => s
    | some c =>
      if p.last = s.wc + 1 then s
      else
        let (granted, s2) := s.decideClaim e c.line c.virt c.slot (s.wc - 3 - c.issued)
        { s2.setEngine e { s2.engine e with claim := some { c with decided := some (granted, s.wc) } } with
          hports := Tbl.set {} s2.hports q ⟨e :: served, s.wc + 1⟩ }

/-- CLAIM_DECISION: the claim that a quadrant's port passes is decided, after what goes ahead of it in this word clock: a table that takes
effect, the releases, and the claims of the quadrants below (R205, R206). -/
def execClaimDecision (t : Nat) (q : Fin 4) (s : State) : Host.Outcome State Fault Refusal :=
  .next ((List.range (q.val + 1)).foldl State.portDecide (((s.tickTo t).tableDue.haltPump).disarmAll))

/-! ### FEED_SCHED (R169) -/

/-- The owner of FEED_SCHED of a cluster: 64 bytes, each an engine, the network port, or none. -/
def ownFeedSched (c : Nat) : ImgOwner := scheduled fun img tt s =>
  if img.length ≠ 64 ∨ img.any (fun b => decide (b.toNat > 0x20) && b != 0xFF#8) then (.refused, s)
  else if tt = 0 then (.okay, s.swapImage (O.CLU_FEED_SCHED c) s.nextWc img)
  else if (s.sched .feed c).isSome then (.busy, s)
  else
    let (st, s1) := s.armAction .feed c tt 0
    (st, if st = .okay then { s1 with staged := Tbl.set [] s1.staged (O.CLU_FEED_SCHED c) img } else s1)

/-- FEED_SCHED_COMMIT: a commit of a schedule, or its effect at the instant of a scheduled one. -/
def execFeedSchedCommit (t : Nat) (c : Fin 16) (w : CommitStep) (s : State) : Host.Outcome State Fault Refusal :=
  let s1 := s.tickTo t
  .next
    (match w with
     | .commit r crc tt => s1.commitObj r (O.CLU_FEED_SCHED c.val) crc tt (ownFeedSched c.val)
     | .effect =>
       match s1.sched .feed c.val with
       | none => s1
       | some a =>
         if !s1.due .feed c.val a then s1
         else
           let img := Tbl.get [] s1.staged (O.CLU_FEED_SCHED c.val)
           ({ s1.endAction .feed c.val 1 with staged := Tbl.set [] s1.staged (O.CLU_FEED_SCHED c.val) [] }).swapImage
             (O.CLU_FEED_SCHED c.val) (s1.effectAt .feed c.val a / Config.wordUnits) img)

end Sys2Proof.Machine
end

