-- ==== Sys2Proof/Machine/Serial.lean ====
section
/-! DEFINITION. Serial lanes of channels in S-mode (R248 to R259): the transmitter and its line codes, alignment, clock recovery,
PRBS and eye scan. -/

namespace Sys2Proof.Machine

def State.ser (s : State) (ch : Nat) : SerLane := Tbl.get {} s.sers ch
def State.setSer (s : State) (ch : Nat) (x : SerLane) : State := { s with sers := Tbl.set {} s.sers ch x }

/-- Whether the serial lane of a channel runs (R248). -/
def State.serOn (s : State) (ch : Nat) : Bool := s.isSet (O.SER_SER_EN ch)

/-- RWL objects of a serial lane are writable while SER_EN is 0 (R248). -/
def State.serSafe (s : State) (ch : Nat) : Bool := !s.serOn ch

/-! ### PRBS (R256, R257) -/

/-- Degree and second tap of a polynomial code. -/
def prbsTaps : Nat → Nat × Nat
  | 1 => (7, 6)
  | 2 => (15, 14)
  | 3 => (23, 18)
  | _ => (31, 28)

/-- The next n bits of a generator whose last bits stand newest first from bit 0 upwards, and the generator after them. -/
def prbsBits (deg tap : Nat) : Nat → Nat → List Bool × Nat
  | 0, g => ([], g)
  | n + 1, g =>
    let b := g.testBit (deg - 1) != g.testBit (tap - 1)
    let (r, g1) := prbsBits deg tap n (g * 2 % 2 ^ deg + b2n b)
    (b :: r, g1)

/-- Seed the generator and the checker (R257). -/
def State.seedPrbs (s : State) (ch : Nat) : State :=
  (s.setSer ch { s.ser ch with gen := 2 ^ 31 - 1, chk := [], good := 0, errs := [] }).setReg (O.SER_PRBS_LOCK ch) 0

/-- The owner of PRBS: codes 5 to 7 are reserved (R256). -/
def ownPrbs (ch : Nat) : Owner := fun v s =>
  if v % 8 > 4 then (.refused, s)
  else
    let s1 := s.setReg (O.SER_PRBS ch) v
    (.okay, if s1.serOn ch then s1.seedPrbs ch else s1)

/-- PRBS_WRITE. -/
def execPrbsWrite (t : Nat) (r : Requester) (ch : Fin 144) (v : Nat) (s : State) : Host.Outcome State Fault Refusal :=
  .next ((s.tickTo t).writeObj r (O.SER_PRBS ch.val) v (ownPrbs ch.val))

/-- One received bit comes to the checker (R257). -/
def State.checkBit (s : State) (ch : Nat) (line : Bool) : State :=
  let v := s.reg (O.SER_PRBS ch)
  if v % 8 = 0 then s
  else
    let (deg, tap) := prbsTaps (v % 8)
    let b := line != v.testBit 3
    let x := s.ser ch
    if x.chk.length < deg then s.setSer ch { x with chk := b :: x.chk }
    else
      let want := x.chk.getD (deg - 1) false != x.chk.getD (tap - 1) false
      let err := b != want
      let chk := (want :: x.chk).take deg
      if s.isSet (O.SER_PRBS_LOCK ch) then
        let errs := (x.errs.map (· + 1)).filter fun n => decide (n < 1024)
        let s1 := if err then (s.bump (O.SER_BITS ch) 1).bump (O.SER_ERRORS ch) 1 else s.bump (O.SER_BITS ch) 1
        let e1 := if err then 0 :: errs else errs
        if 64 ≤ e1.length then (s1.setSer ch { x with chk := [], good := 0, errs := [] }).setReg (O.SER_PRBS_LOCK ch) 0
        else s1.setSer ch { x with chk := chk, errs := e1 }
      else if err then s.setSer ch { x with chk := [], good := 0 }
      else if x.good + 1 = 64 then (s.setSer ch { x with chk := chk, good := 0, errs := [] }).setReg (O.SER_PRBS_LOCK ch) 1
      else s.setSer ch { x with chk := chk, good := x.good + 1 }

/-- The owner of ERR_CLEAR. -/
def ownErrClear (ch : Nat) : Owner := command fun s => (.okay, (s.setReg (O.SER_BITS ch) 0).setReg (O.SER_ERRORS ch) 0)

/-- ERR_CLEAR. -/
def execErrClear (t : Nat) (r : Requester) (ch : Fin 144) (v : Bool) (s : State) : Host.Outcome State Fault Refusal :=
  .next ((s.tickTo t).writeObj r (O.SER_ERR_CLEAR ch.val) (b2n v) (ownErrClear ch.val))

/-! ### SER_EN (R248) -/

/-- The owner of SER_EN. -/
def ownSerEn (ch : Nat) : Owner := fun v s =>
  if v = 1 then
    if s.reg (O.CH_MODE ch) = 0 then (.refused, s)
    else if s.serOn ch then (.okay, s)
    else
      let s1 := (s.setReg (O.SER_SER_EN ch) 1).seedPrbs ch
      let s2 := s1.setSer ch
        { s1.ser ch with
          txAt := s1.now, txUi := 0, rd := false, scr := 2 ^ 58 - 1, second := false, slips := 0, skip := 0, headers := [], rxPend := [],
          rxRd := false, dscr := 0, rxSecond := false, rxWords := [], adapted := false }
      (.okay, if s2.reg (O.CH_STATE ch) = 0 then s2.setReg (O.CH_STATE ch) 3 else s2)
  else if !s.serOn ch then (.okay, s)
  else
    let s1 := (((s.setReg (O.SER_SER_EN ch) 0).setReg (O.SER_CDR_LOCK ch) 0).setReg (O.SER_ALIGNED ch) 0).setReg (O.SER_PRBS_LOCK ch) 0
    let x := s1.ser ch
    let s2 := s1.setSer ch { x with eye := x.eye.map fun y => { y with lock := false, ending := true } }
    (.okay,
      if s2.reg (O.CH_STATE ch) = 3 then
        ((s2.setReg (O.CH_STATE ch) 0).setChan ch { s2.chan ch with parkedAt := s2.now }).parkLevels ch
      else s2)

/-- SER_EN. -/
def execSerEn (t : Nat) (r : Requester) (ch : Fin 144) (v : Bool) (s : State) : Host.Outcome State Fault Refusal :=
  .next ((s.tickTo t).writeObj r (O.SER_SER_EN ch.val) (b2n v) (ownSerEn ch.val))

/-- The owner of FFE: PRE to 12, POST to 24, their sum to 24 (R253). -/
def ownFfe (ch : Nat) : Owner := fun v s =>
  if bits v 3 0 > 12 ∨ bits v 3 0 + bits v 8 4 > 24 then (.refused, s) else (.okay, s.setReg (O.SER_FFE ch) v)

/-- The owner of DFE: each tap from −64 to 63 (R253). -/
def ownDfe (ch : Nat) : Owner := fun v s =>
  let ok := (List.range 5).all fun k => let x := signed 8 (bits v (8 * k + 7) (8 * k)); decide (-64 ≤ x) && decide (x ≤ 63)
  if ok then (.okay, s.setReg (O.SER_DFE ch) v) else (.refused, s)

/-! ### Line codes (*Table 9.1*) -/

/-- Bits of a number, bit 0 first. -/
def lsbBits : Nat → Nat → List Bool
  | 0, _ => []
  | n + 1, v => v.testBit 0 :: lsbBits n (v / 2)

/-- Bits of a number, most significant first. -/
def msbBits (n v : Nat) : List Bool := (lsbBits n v).reverse

/-- The six-bit sub-blocks of 8b/10b at negative disparity, a first, for values 0 to 31 and K28. -/
def sixTable : List Nat :=
  [0b100111, 0b011101, 0b101101, 0b110001, 0b110101, 0b101001, 0b011001, 0b111000, 0b111001, 0b100101, 0b010101] ++
  [0b110100, 0b001101, 0b101100, 0b011100, 0b010111, 0b011011, 0b100011, 0b010011, 0b110010, 0b001011, 0b101010] ++
  [0b011010, 0b111010, 0b110011, 0b100110, 0b010110, 0b110110, 0b001110, 0b101110, 0b011110, 0b101011, 0b001111]

/-- The four-bit sub-blocks of data at negative disparity, f first; entry 8 is the alternate of x.7. -/
def fourTable : List Nat := [0b1011, 0b1001, 0b0101, 0b1100, 0b1101, 0b1010, 0b0110, 0b1110, 0b0111]

/-- The four-bit sub-blocks of control characters at negative disparity; at positive disparity they are inverted. -/
def fourControl : List Nat := [0b1011, 0b0110, 0b1010, 0b1100, 0b1101, 0b0101, 0b1001, 0b0111]

/-- A sub-block of n bits sent at a running disparity, and the disparity after it: an unbalanced block, and the balanced one that
starts or ends with half its bits alike, is inverted at positive disparity. -/
def subBlock (n : Nat) (always : Bool) (v : Nat) (rd : Bool) : List Bool × Bool :=
  let ones := (List.range n).countP fun i => v.testBit i
  let flip := rd && (always || decide (2 * ones ≠ n) || v == 0b111000 || v == 0b1100)
  let l := (msbBits n v).map (· != flip)
  let up := l.countP id
  (l, if 2 * up > n then true else if 2 * up < n then false else rd)

/-- The bytes of the twelve control characters of 8b/10b. -/
def controlBytes : List Nat := [0x1C, 0x3C, 0x5C, 0x7C, 0x9C, 0xBC, 0xDC, 0xFC, 0xF7, 0xFB, 0xFD, 0xFE]

/-- One symbol of 8b/10b: its ten line bits and the disparity after it. -/
def symbol10 (k : Bool) (b : Nat) (rd : Bool) : List Bool × Bool :=
  let x := b % 32
  let y := b / 32
  let (l6, rd1) := subBlock 6 false (sixTable.getD (if k ∧ x = 28 then 32 else x) 0) rd
  let alt := !k && y == 7 && ((!rd1 && (x == 17 || x == 18 || x == 20)) || (rd1 && (x == 11 || x == 13 || x == 14)))
  let (l4, rd2) := if k then subBlock 4 true (fourControl.getD y 0) rd1 else subBlock 4 false (fourTable.getD (if alt then 8 else y) 0) rd1
  (l6 ++ l4, rd2)

/-- The scrambler x^58 + x^39 + 1 of 64b/66b over bits in order of sending. -/
def scramble64 : List Bool → Nat → List Bool × Nat
  | [], st => ([], st)
  | b :: r, st =>
    let o := b != (st.testBit 38 != st.testBit 57)
    let (l, st1) := scramble64 r (st * 2 % 2 ^ 58 + b2n o)
    (o :: l, st1)

/-- What a transmit word becomes on the line under LINE_CODE: UI, line bits, symbols in error, and the lane after it. `ctl` is bit 0
of the paired expect word. -/
def encodeLine (code w : Nat) (ctl : Bool) (x : SerLane) : List Bool × Nat × SerLane :=
  match code with
  | 1 =>
    (List.range 4).foldl
      (fun (l, n, y) j =>
        let k := w.testBit (16 * j + 8)
        let b := bits w (16 * j + 7) (16 * j)
        let bad := k && !controlBytes.contains b
        let (sym, rd) := symbol10 k (if bad then 0xFE else b) y.rd
        (l ++ sym, n + b2n bad, { y with rd := rd })) ([], 0, x)
  | 2 =>
    let (l, st) := scramble64 (lsbBits 64 w) x.scr
    ((if ctl then [true, false] else [false, true]) ++ l, 0, { x with scr := st })
  | 3 =>
    if x.second then (lsbBits 64 w, 0, { x with second := false })
    else ((if ctl then [true, false] else [false, true]) ++ lsbBits 64 w, 0, { x with second := true })
  | _ => (lsbBits 64 w, 0, x)

/-- The word that the fill of a line code stands for, and its control bit (*Table 9.1*). -/
def fillWord (code pattern : Nat) : Nat × Bool :=
  match code with
  | 0 => (pattern, false)
  | 1 => (0x01BC01BC01BC01BC, false)
  | 2 => (0x1E, true)
  | _ => (0, false)

/-! ### The receiver: word boundary, decoding and alignment (R252, R302) -/

/-- The descrambler of 64b/66b over bits in order of arrival. -/
def descramble64 : List Bool → Nat → List Bool × Nat
  | [], st => ([], st)
  | b :: r, st =>
    let (l, st1) := descramble64 r (st * 2 % 2 ^ 58 + b2n b)
    ((b != (st.testBit 38 != st.testBit 57)) :: l, st1)

/-- The number whose bits are given, bit 0 first. -/
def lsbVal (l : List Bool) : Nat := l.foldr (fun b n => 2 * n + b2n b) 0

/-- The symbol, [8] K and [7:0] byte, that ten line bits stand for at a running disparity. -/
def decode10 (l : List Bool) (rd : Bool) : Option Nat :=
  ((controlBytes.find? fun b => (symbol10 true b rd).1 == l).map (· + 256)).or ((List.range 256).find? fun b => (symbol10 false b rd).1 == l)

/-- Slip the word boundary by one UI; sixty-four slips return it to its starting point. -/
def State.slip (s : State) (ch : Nat) : State :=
  let x := s.ser ch
  let n := [64, 40, 66, 130].getD (s.reg (O.SER_LINE_CODE ch)) 64
  s.setSer ch { x with slips := (x.slips + 1) % 64, skip := x.skip + (if x.slips = 63 then (2 * n - 63) % n else 1) }

/-- A symbol of 8b/10b arrives: its DATA, whether it is in error, and the lane after it. A wrong disparity is an error; what a symbol
that is no code stands for is a free value. -/
def State.rxSymbol (s : State) (ch : Nat) (l : List Bool) : Nat × Bool × State :=
  let x := s.ser ch
  let up := l.countP id
  let s1 := s.setSer ch { x with rxRd := if 5 < up then true else if up < 5 then false else x.rxRd }
  match decode10 l x.rxRd with
  | some v => (v, false, s1)
  | none =>
    let s2 := s1.bump (O.SER_CODE_ERRORS ch) 1
    match decode10 l (!x.rxRd) with
    | some v => (v, true, s2)
    | none => let (v, s3) := s2.drawNat; (v % 512, true, s3)

/-- A word goes on to the fabric receive port where RX_SINK is 1 (R252). -/
def State.rxDeliver (s : State) (ch : Nat) (w : Nat × Nat) : State :=
  if s.reg (O.SER_RX_SINK ch) = 1 then s.setSer ch { s.ser ch with rxWords := (s.ser ch).rxWords ++ [w] } else s

/-- A sync header arrives: an invalid one counts; ALIGN 2 aligns on 64 valid ones in a row and loses alignment on 16 invalid of 64. -/
def State.rxHeader (s : State) (ch : Nat) (valid : Bool) : State :=
  let s1 := if valid then s else s.bump (O.SER_CODE_ERRORS ch) 1
  if s1.reg (O.SER_ALIGN ch) ≠ 2 then s1
  else
    let x := s1.ser ch
    let h := (valid :: x.headers).take 64
    if s1.isSet (O.SER_ALIGNED ch) then
      if 16 ≤ h.countP (!·) then (s1.setSer ch { x with headers := [] }).setReg (O.SER_ALIGNED ch) 0 else s1.setSer ch { x with headers := h }
    else if !valid then (s1.setSer ch { x with headers := [] }).slip ch
    else if h.length = 64 then (s1.setSer ch { x with headers := h }).setReg (O.SER_ALIGNED ch) 1
    else s1.setSer ch { x with headers := h }

/-- A received word at its boundary under LINE_CODE: DATA and CTRL of R302, and the lane after it. -/
def State.rxWord (s : State) (ch : Nat) (l : List Bool) : (Nat × Nat) × State :=
  let x := s.ser ch
  match s.reg (O.SER_LINE_CODE ch) with
  | 1 =>
    (List.range 4).foldl
      (fun (w, (s : State)) j =>
        let (v, bad, s1) := s.rxSymbol ch ((l.drop (10 * j)).take 10)
        ((w.1 + v * 2 ^ (16 * j), w.2 + b2n bad * 2 ^ j), s1)) ((0, 0), s)
  | 2 =>
    let (d, st) := descramble64 (l.drop 2) x.dscr
    let valid := l.getD 0 false != l.getD 1 false
    ((lsbVal d, b2n (valid && l.getD 0 false) + 2 * b2n (!valid)), (s.setSer ch { x with dscr := st }).rxHeader ch valid)
  | 3 =>
    if x.rxSecond then ((lsbVal l, 0), s.setSer ch { x with rxSecond := false })
    else
      let valid := l.getD 0 false != l.getD 1 false
      ((lsbVal (l.drop 2), b2n (valid && l.getD 0 false) + 2 * b2n (!valid)), (s.setSer ch { x with rxSecond := true }).rxHeader ch valid)
  | _ => ((lsbVal l, 0), s)

/-- Where a comma of 8b/10b begins in line bits. -/
def commaAt (l : List Bool) : Option Nat :=
  (List.range 40).find? fun i =>
    let c := (l.drop i).take 7
    c == [false, false, true, true, true, true, true] || c == [true, true, false, false, false, false, false]

/-- Line bits of the next word under LINE_CODE. -/
def State.rxLen (s : State) (ch : Nat) : Nat :=
  match s.reg (O.SER_LINE_CODE ch) with
  | 1 => 40
  | 2 => 66
  | 3 => if (s.ser ch).rxSecond then 64 else 66
  | _ => 64

/-- One step of the receiver over the line bits it holds: a bit that a slip passes over, the comma that it searches, or a word. -/
def State.rxStep (s : State) (ch : Nat) : State :=
  let x := s.ser ch
  let code := s.reg (O.SER_LINE_CODE ch)
  let align := s.reg (O.SER_ALIGN ch)
  let al := s.isSet (O.SER_ALIGNED ch)
  let n := s.rxLen ch
  let search := code == 1 && align == 2 && !al
  if 0 < x.skip then (if x.rxPend = [] then s else s.setSer ch { x with skip := x.skip - 1, rxPend := x.rxPend.drop 1 })
  else if x.rxPend.length < (if search then n + 6 else n) then s
  else
    match if search then commaAt x.rxPend else none with
    | some i => (s.setSer ch { x with rxPend := x.rxPend.drop i }).setReg (O.SER_ALIGNED ch) 1
    | none =>
      let (w, s1) := (s.setSer ch { x with rxPend := x.rxPend.drop n }).rxWord ch (x.rxPend.take n)
      let s2 := s1.rxDeliver ch w
      if align = 1 ∧ !al then (if w.1 % 2 ^ 32 = s2.reg (O.SER_ALIGN_PATTERN ch) then s2.setReg (O.SER_ALIGNED ch) 1 else s2.slip ch) else s2

/-- Line bits arrive at the receiver of a channel: they feed the PRBS checker and the decoder (R252). -/
def State.rxBits (s : State) (ch : Nat) (line : List Bool) : State :=
  let s1 := line.foldl (fun (s : State) b => s.checkBit ch b) s
  let s2 := s1.setSer ch { s1.ser ch with rxPend := (s1.ser ch).rxPend ++ line }
  Nat.repeat (fun (s : State) => s.rxStep ch) ((s2.ser ch).rxPend.length + 1) s2

/-- Line bits arrive on CMH: ignored under the near-end loopbacks, and sent again on DRV under the far-end one (*Table 9.2*). -/
def State.rxCmh (s : State) (ch : Nat) (line : List Bool) : State :=
  let lb := s.reg (O.SER_LOOPBACK ch)
  if !s.serOn ch || lb == 1 || lb == 2 then s
  else if lb = 3 then (s.setSer ch { s.ser ch with txLine := line }).rxBits ch line
  else s.rxBits ch line

/-- PRBS_LOCK: line bits arrive on CMH, in order; the checker follows R257. -/
def execPrbsLock (t : Nat) (ch : Fin 144) (line : List Bool) (s : State) : Host.Outcome State Fault Refusal :=
  .next ((s.tickTo t).rxCmh ch.val line)

/-- ALIGNMENT: line bits arrive on CMH, in order; the word boundary follows R252. -/
def execAlignment (t : Nat) (ch : Fin 144) (line : List Bool) (s : State) : Host.Outcome State Fault Refusal :=
  .next ((s.tickTo t).rxCmh ch.val line)

/-! ### The transmitter -/

/-- The transmitter puts a word's line bits on DRV, or on the path of a near-end loopback (*Table 9.2*). -/
def State.txPut (s : State) (ch : Nat) (l : List Bool) (w : Nat) : State :=
  let x := s.ser ch
  let s1 := s.setSer ch { x with txLine := l, txWord := w, txUi := x.txUi + l.length }
  let code := s.reg (O.SER_LINE_CODE ch)
  match s.reg (O.SER_LOOPBACK ch) with
  | 1 => s1.rxBits ch l
  | 2 =>
    (l.foldl (fun (s : State) b => s.checkBit ch b) s1).rxDeliver ch
      (if code = 1 then List.foldl (fun n j => n + bits w (16 * j + 8) (16 * j) * 2 ^ (16 * j)) 0 [0, 1, 2, 3] else w,
       b2n ((code == 2 || (code == 3 && l.length == 66)) && l.headD false))
  | _ => s1.setChan ch { s1.chan ch with drvLevel := l.getLastD false }

/-- Send a word under the lane's line code. -/
def State.serSend (s : State) (ch w : Nat) (ctl : Bool) : State :=
  let (l, bad, y) := encodeLine (s.reg (O.SER_LINE_CODE ch)) w ctl (s.ser ch)
  ((s.setSer ch y).bump (O.SER_CODE_ERRORS ch) bad).txPut ch l w

/-- Units of 0.5 ps that n UI take at a rate in kb/s. -/
def uiUnits (rate n : Nat) : Nat := n * (2 * 10 ^ 9) / rate

/-- Whether the next transmit word is due (R250). -/
def State.serDue (s : State) (ch : Nat) : Bool :=
  let x := s.ser ch
  s.serOn ch && !s.isSet (O.CH_PAD_LATCHED ch) && s.reg (O.SER_LOOPBACK ch) != 3 && decide (x.txAt + uiUnits (s.reg (O.SER_RATE ch)) x.txUi ≤ s.now)

/-- The head of a FIFO in S-mode, where it is there: bare stops carry no word and are dropped. -/
def serHead (now : Nat) (fifo : List LaneWord) : List LaneWord :=
  let l := fifo.dropWhile fun w => w.vecs == 0
  match l with
  | w :: _ => if w.inst ≤ now then l else []
  | [] => []

/-- SERIAL_TRANSMIT_WORD: the due word is there and is serialised (R250): from the channel map, or the generator, or PATTERN. What the
generator sends under PRBS code 0 is a free value. -/
def execSerialTransmitWord (t : Nat) (ch : Fin 144) (s : State) : Host.Outcome State Fault Refusal :=
  let s1 := (s.tickTo t).switchOut ch.val
  let c := s1.chan ch.val
  let x := s1.ser ch.val
  .next
    (if !s1.serDue ch.val then s1
     else
       match s1.reg (O.SER_TX_SRC ch.val) with
       | 0 =>
         let v := s1.reg (O.SER_PRBS ch.val)
         let (deg, tap) := prbsTaps (v % 8)
         if v % 8 = 0 then (let (b, s2) := s1.drawBytes 8; s2.txPut ch.val (lsbBits 64 (leNat b)) (leNat b))
         else
           let (l, g) := prbsBits deg tap 64 (x.gen % 2 ^ deg)
           let out := l.map (· != v.testBit 3)
           (s1.setSer ch.val { x with gen := g }).txPut ch.val out (lsbVal out)
       | 1 =>
         if c.drvOut = srcNone then s1
         else
           match serHead s1.now c.drv with
           | [] => s1
           | w :: drv =>
             if c.expOut = srcNone then (s1.setChan ch.val { c with drv := drv }).serSend ch.val w.word false
             else
               match serHead s1.now c.exp with
               | [] => s1
               | e :: exp => (s1.setChan ch.val { c with drv := drv, exp := exp }).serSend ch.val w.word (e.word.testBit 0)
       | _ =>
         let p := s1.reg (O.SER_PATTERN ch.val)
         s1.txPut ch.val (lsbBits 64 p) p)

/-- SERIAL_FILL: a due word of the channel map is absent; the fill goes out in its place and counts as an underrun. A channel
without a drive source sends the fill all the time (R250, R251). -/
def execSerialFill (t : Nat) (ch : Fin 144) (s : State) : Host.Outcome State Fault Refusal :=
  let s1 := (s.tickTo t).switchOut ch.val
  let c := s1.chan ch.val
  let absent := c.drvOut == srcNone || (serHead s1.now c.drv).isEmpty || (c.expOut != srcNone && (serHead s1.now c.exp).isEmpty)
  .next
    (if !s1.serDue ch.val || s1.reg (O.SER_TX_SRC ch.val) != 1 || !absent then s1
     else
       let (w, ctl) := fillWord (s1.reg (O.SER_LINE_CODE ch.val)) (s1.reg (O.SER_PATTERN ch.val))
       let s2 := s1.serSend ch.val w ctl
       if c.drvOut = srcNone then s2
       else ((s2.chanPulse ch.val 7).setFlag (O.CH_UNDERRUN ch.val) 0 (O.CH_UNDERRUN_COUNT ch.val) 1).invalidate ch.val)

/-! ### Alignment (R252) -/

/-- The owner of BITSLIP. -/
def ownBitslip (ch : Nat) : Owner := command fun s => if s.reg (O.SER_ALIGN ch) ≠ 0 then (.refused, s) else (.okay, s.slip ch)

/-- BITSLIP. -/
def execBitslip (t : Nat) (r : Requester) (ch : Fin 144) (v : Bool) (s : State) : Host.Outcome State Fault Refusal :=
  .next ((s.tickTo t).writeObj r (O.SER_BITSLIP ch.val) (b2n v) (ownBitslip ch.val))

/-- ALIGNED as it reads: 1 under manual alignment and near-end parallel loopback. -/
def State.aligned (s : State) (ch : Nat) : Nat :=
  if s.serOn ch && (s.reg (O.SER_ALIGN ch) == 0 || s.reg (O.SER_LOOPBACK ch) == 2) then 1 else s.reg (O.SER_ALIGNED ch)

/-! ### Clock recovery and adaptation (R253, R254) -/

/-- CDR_LOCK: clock recovery locks to a valid signal. -/
def execCdrLock (t : Nat) (ch : Fin 144) (s : State) : Host.Outcome State Fault Refusal :=
  let s1 := s.tickTo t
  .next (if s1.serOn ch.val && !s1.isSet (O.SER_CDR_LOCK ch.val) then
    (s1.setSer ch.val { s1.ser ch.val with adapted := false }).setReg (O.SER_CDR_LOCK ch.val) 1 else s1)

/-- LOCK_LOSS: clock recovery loses lock. -/
def execLockLoss (t : Nat) (ch : Fin 144) (s : State) : Host.Outcome State Fault Refusal :=
  let s1 := s.tickTo t
  let c := ch.val
  .next
    (if !s1.isSet (O.SER_CDR_LOCK c) then s1
     else
       let s2 := (((s1.setReg (O.SER_CDR_LOCK c) 0).setFlag (O.SER_LOCK_LOSS c) 0 (O.SER_LOCK_LOSS_COUNT c) 1).setReg (O.SER_ALIGNED c) 0)
       s2.setSer c { s2.ser c with headers := [], eye := (s2.ser c).eye.map fun y => { y with lock := false } })

/-- A value of ADAPTED: CTLE to 15 dB, and taps from −64 to 63 as signed bytes (*Table 9.4*). -/
def adaptedWord (v : Nat) : Nat :=
  (List.range 5).foldl (fun n k => let x := bits v (8 * k + 6) (8 * k); n + (x + x / 64 * 128) * 2 ^ (8 * k)) (bits v 43 40 * 2 ^ 40)

/-- RX_ADAPT_DONE: adaptation gives values of CTLE and DFE: once after lock, and held, under RX_ADAPT 1; continuously under 2. -/
def execRxAdaptDone (t : Nat) (ch : Fin 144) (v : Nat) (s : State) : Host.Outcome State Fault Refusal :=
  let s1 := s.tickTo t
  let c := ch.val
  let mode := s1.reg (O.SER_RX_ADAPT c)
  .next (if s1.serOn c && s1.isSet (O.SER_CDR_LOCK c) && mode != 0 && (mode != 1 || !(s1.ser c).adapted) then
    (s1.setSer c { s1.ser c with adapted := true }).setReg (O.SER_ADAPTED c) (adaptedWord v) else s1)

/-! ### Eye scan (R258) -/

/-- The owner of EYE_TABLE: 1 to 4,096 points, while no scan runs (*Table 9.3*). -/
def ownEyeTable (ch : Nat) : ImgOwner := unscheduled fun img s =>
  let pts := (List.range (img.length / 4)).map fun i => (signed 8 (byteAt img (4 * i)), signed 8 (byteAt img (4 * i + 1)))
  if s.reg (O.SER_EYE_STATE ch) ≠ 0 ∨ img.length = 0 ∨ img.length % 4 ≠ 0 ∨ 16384 < img.length ∨
      pts.any (fun p => decide (p.1 < -127) || decide (p.2 < -32) || decide (32 < p.2)) then (.refused, s)
  else (.okay, s.setImage (O.SER_EYE_TABLE ch) img)

/-- The owner of EYE_START. -/
def ownEyeStart (ch : Nat) : Owner := command fun s =>
  if s.reg (O.SER_EYE_STATE ch) ≠ 0 then (.busy, s)
  else if !s.serOn ch ∨ !s.isSet (O.SER_CDR_LOCK ch) then (.refused, s)
  else
    let s1 := s.setImage (O.SER_EYE_RESULTS ch) []
    (.okay, if s1.image (O.SER_EYE_TABLE ch) = [] then s1
            else (s1.setSer ch { s1.ser ch with eye := some ⟨0, s1.now, true, false⟩ }).setReg (O.SER_EYE_STATE ch) 1)

/-- EYE_START. -/
def execEyeStart (t : Nat) (r : Requester) (ch : Fin 144) (v : Bool) (s : State) : Host.Outcome State Fault Refusal :=
  .next ((s.tickTo t).writeObj r (O.SER_EYE_START ch.val) (b2n v) (ownEyeStart ch.val))

/-- A result entry goes to every lane that names the channel in RETCH (R180). -/
def State.deliverResult (s : State) (ch : Nat) (r : ResEntry) : State :=
  (List.range 512).foldl
    (fun (s : State) e => (List.range 4).foldl (fun (s : State) k => if s.retch e k = ch then s.resDeliver e k r else s) s) s

/-- EYE_POINT_END: the dwell of the present point ends with so many disagreements. -/
def execEyePointEnd (t : Nat) (ch : Fin 144) (errors : Nat) (s : State) : Host.Outcome State Fault Refusal :=
  let s1 := s.tickTo t
  let c := ch.val
  let dwell := s1.reg (O.SER_EYE_DWELL c)
  .next
    (match (s1.ser c).eye with
     | none => s1
     | some y =>
       if s1.now < y.start + uiUnits (s1.reg (O.SER_RATE c)) (dwell + 64) then s1
       else
         let e := min errors dwell
         let s2 := (s1.setImage (O.SER_EYE_RESULTS c) (s1.image (O.SER_EYE_RESULTS c) ++ leBytes 4 e ++ leBytes 4 (b2n y.lock))).deliverResult c
           ⟨min e 131071, min (dwell - e) 131071, y.lock⟩
         if y.ending ∨ (s2.image (O.SER_EYE_TABLE c)).length ≤ 4 * (y.point + 1) then
           (s2.setSer c { s2.ser c with eye := none }).setReg (O.SER_EYE_STATE c) 0
         else s2.setSer c { s2.ser c with eye := some ⟨y.point + 1, s2.now, s2.isSet (O.SER_CDR_LOCK c), false⟩ })

end Sys2Proof.Machine
end

