-- ==== Sys2Proof/Machine/Yard.lean ====
section
/-! DEFINITION. The yard ports (R260 to R278): frames, their checks, scrambling and encryption; training; virtual channels and
credit; the transmitter's frame slots; retry; tags; key rotation; entry into DOWN. -/

namespace Sys2Proof.Machine

def State.yard (s : State) (p : Nat) : YPort := Tbl.get {} s.yards p
def State.setYard (s : State) (p : Nat) (x : YPort) : State := { s with yards := Tbl.set {} s.yards p x }
def State.setTrain (s : State) (p : Nat) (x : YTrain) : State := s.setYard p { s.yard p with train := x }
def YPort.vc (y : YPort) (v : Nat) : YVc := Tbl.get {} y.vcs v
def YPort.setVc (y : YPort) (v : Nat) (x : YVc) : YPort := { y with vcs := Tbl.set {} y.vcs v x }
def State.setVc (s : State) (p v : Nat) (x : YVc) : State := s.setYard p ((s.yard p).setVc v x)

/-- Whether a port is UP. -/
def State.yardUp (s : State) (p : Nat) : Bool := s.reg (O.YARD_STATE p) == 7

/-- The states in which RWL objects of a port are writable (R278). -/
def State.yardSafe (s : State) (p : Nat) : Bool := s.reg (O.YARD_STATE p) == 0 || s.reg (O.YARD_STATE p) == 8

/-! ### Frames (R261, R262) -/

/-- The number of bits given most significant first. -/
def msbVal (l : List Bool) : Nat := l.foldl (fun n b => 2 * n + b2n b) 0

/-- CRC-32 of R262 over bits in order of transmission, not reflected, no final inversion. -/
def crc32Msb (l : List Bool) : Nat :=
  l.foldl (fun r b => let s := r * 2 % 2 ^ 32; if r.testBit 31 = b then s else s ^^^ 0x04C11DB7) 0xFFFFFFFF

/-- The bits of bytes, most significant first, and back. -/
def bytesBits (l : List Byte) : List Bool := l.flatMap fun b => msbBits 8 b.toNat
def bitsBytes (n : Nat) (l : List Bool) : List Byte :=
  (List.range n).map fun i => BitVec.ofNat 8 (msbVal ((l.drop (8 * i)).take 8))

/-- The 336 bits of a frame, its checks computed (R262). -/
def frameBits (hdr halter payload : Nat) : List Bool :=
  let a := msbBits 32 hdr ++ msbBits 128 halter
  let b := a ++ msbBits 16 (crc16 a) ++ msbBits 128 payload
  b ++ msbBits 32 (crc32Msb b)

/-- The next n bits of the additive sequence x^31 + x^28 + 1: the oldest bit of the register, and the register after them. -/
def scrSeq : Nat → Nat → List Bool × Nat
  | 0, g => ([], g)
  | n + 1, g =>
    let (r, g1) := scrSeq n (g * 2 % 2 ^ 31 + b2n (g.testBit 30 != g.testBit 27))
    (g.testBit 30 :: r, g1)

def xorBits (a b : List Bool) : List Bool := List.zipWith (fun x y => x != y) a b

/-- Scramble or unscramble a frame in UP: bits 2j and 2j + 1 take bit j of their lanes' sequences. -/
def scrambleUp (l : List Bool) (g : Nat) : List Bool × Nat :=
  let (q, g1) := scrSeq 168 g
  (xorBits l (q.flatMap fun b => [b, b]), g1)

/-- Scramble or unscramble a frame of training, whose sequence starts anew. -/
def scrambleTrain (l : List Bool) : List Bool := xorBits l (scrSeq 336 (2 ^ 31 - 1)).1

/-- A field of a frame: n bits from frame bit b on. -/
def frameField (l : List Bool) (b n : Nat) : Nat := msbVal ((l.drop b).take n)

/-- Whether the two checks of a frame hold. -/
def hcrcOk (l : List Bool) : Bool := crc16 (l.take 160) == frameField l 160 16
def pcrcOk (l : List Bool) : Bool := crc32Msb (l.take 304) == frameField l 304 32

/-- Correct a single-bit error in frame bits 0 to 175 (R263): the frame, or none where it is uncorrectable. -/
def hcrcCorrect (l : List Bool) : Option (List Bool) :=
  (List.range 176).findSome? fun i =>
    let m := l.set i (!(l.getD i false))
    if hcrcOk m then some m else none

/-- A header of *Table 9.7*. -/
def yardHeader (ftype seq ack : Nat) (nak : Bool) (vc : Nat) (half : Bool) (key : Nat) : Nat :=
  ftype * 2 ^ 30 + seq * 2 ^ 23 + ack * 2 ^ 16 + b2n nak * 2 ^ 15 + vc * 2 ^ 12 + b2n half * 2 ^ 11 + key * 2 ^ 10

/-- The sixteen bytes of half a granule as a payload, and back. -/
def halfPayload (g : List Byte) : Nat := leNat (g.take 16)

/-! ### Link encryption (R271, R272) -/

/-- The key in a slot; `none` while the slot is empty. -/
def State.linkKey (s : State) (p slot : Nat) : Option (List Byte) :=
  let k := s.image (O.YARD_LINK_KEY0 p + slot)
  if k = [] then none else some k

/-- AES-256 of NONCE ‖ n, both parts 64 bits, as a number of 128 bits. -/
def keyBlock (key : List Byte) (nonce n : Nat) : Nat :=
  (blockNat (aes256 key (natBlock (BitVec.ofNat 128 (nonce % 2 ^ 64 * 2 ^ 64 + n % 2 ^ 64))))).toNat

/-- The keystream for the Halter field and the payload of frame f. -/
def State.keystream (s : State) (p slot nonce f : Nat) : Nat × Nat :=
  match s.linkKey p slot with
  | some k => (keyBlock k nonce (2 * f), keyBlock k nonce (2 * f + 1))
  | none => (0, 0)

/-- The TAG over ciphertext blocks: the first 64 bits of GHASH over them and the bit count, XORed with AES of NONCE ‖ 2^63 + t. -/
def State.tagOf (s : State) (p slot nonce t : Nat) (blocks : List Nat) : Nat :=
  match s.linkKey p slot with
  | some k =>
    let h := blockNat (aes256 k (fill 16 0))
    let g := ghash h ((blocks.map fun b => BitVec.ofNat 128 b) ++ [BitVec.ofNat 128 (128 * blocks.length)])
    (g.toNat ^^^ keyBlock k nonce (2 ^ 63 + t)) / 2 ^ 64
  | none => 0

def State.encrypts (s : State) (p : Nat) : Bool := s.isSet (O.YARD_ENCRYPT p)

/-! ### Virtual channels (R267, R268, *Table 9.12*) -/

/-- Entry v of a port's VC_CFG in force. -/
def State.vcCfg (s : State) (p v : Nat) : Nat × Nat × Nat × Nat := vcEntry (s.image (O.YARD_VC_CFG p)) v
def State.vcOn (s : State) (p v : Nat) : Bool := (s.vcCfg p v).2.2.2.testBit 0
def State.vcLow (s : State) (p v : Nat) : Bool := (s.vcCfg p v).2.2.2.testBit 1
def State.vcTx (s : State) (p v : Nat) : Option Nat := let q := (s.vcCfg p v).1; if q < 32768 then some q else none
def State.vcRx (s : State) (p v : Nat) : Option Nat := let q := (s.vcCfg p v).2.1; if q < 32768 then some q else none

/-- The producer number of a virtual channel. -/
def vcWho (p v : Nat) : Nat := Producer.yard.who (8 * p + v)

/-- Credit reservations of a virtual channel that carry no granule yet. -/
def State.vcOpen (s : State) (p v : Nat) : Nat :=
  match s.vcRx p v with
  | some q => (s.queue q).resvs.countP fun r => r.who == vcWho p v && r.gran == []
  | none => 0

/-- ENQ_SEQ and CREDIT_SEQ of a virtual channel. -/
def State.vcReport (s : State) (p v : Nat) : Nat × Nat :=
  let e := ((s.yard p).vc v).rxEnq
  (e, (e + s.vcOpen p v) % 65536)

/-- Reserve ring granules up to CREDIT_MAX, as far as the queue is ENABLED and has room (R267, R275). -/
def State.topUp (s : State) (p v : Nat) : State :=
  match s.vcRx p v with
  | some q =>
    if !s.vcOn p v || ((s.yard p).vc v).lost then s
    else
      let n := min ((s.vcCfg p v).2.2.1 - s.vcOpen p v) (if s.reg (O.Q_STATE q) = 1 then (s.queue q).room else 0)
      ((Nat.repeat (fun (s : State) => s.reserve q (vcWho p v) []) n s).ledAdd 0x1062 0 n).ledAdd 0x1062 2 n
  | none => s

/-- Release the credit reservations of a virtual channel; later reservations move up, and one that was written is written again. -/
def State.releaseCredit (s : State) (p v : Nat) : State :=
  match s.vcRx p v with
  | some q =>
    let c := s.queue q
    let mine := fun (r : Resv) => r.who == vcWho p v && r.gran == []
    let n := c.resvs.countP mine
    let kept := c.resvs.takeWhile fun r => !mine r
    let tail := c.resvs.drop kept.length
    let from_ := (tail.head?.map (·.place)).getD 0
    let rest := ((tail.filter fun r => !mine r).zipIdx).map fun (r, i) => { r with written := false, place := (advance c.size from_ false i).1 }
    if n = 0 then s
    else ((s.setQueue q { c with resvs := kept ++ rest }).ledMove 0x1051 2 1 n).ledMove 0x1062 2 3 n
  | none => s

/-- A granule arrives on a virtual channel: it takes the channel's first reserved place; its ring write follows. -/
def State.yardEnqueue (s : State) (p v : Nat) (g : List Byte) : State :=
  let x := (s.yard p).vc v
  match s.vcRx p v with
  | some q =>
    let c := s.queue q
    match c.resvs.findIdx? fun r => r.who == vcWho p v && r.gran == [] with
    | some i =>
      let s1 := s.setQueue q { c with resvs := c.resvs.modify i fun r => { r with gran := g } }
      (((((s1.setVc p v { x with rxEnq := (x.rxEnq + 1) % 65536, first := none }).ledAdd 0x1050 0 1).ledAdd 0x1050 2 1).ledMove 0x1062 2 1 1).ledMove
        0x1061 2 1 1)
    | none => (s.setVc p v { x with lost := true, first := none }).ledMove 0x1061 2 3 1
  | none => (s.setVc p v { x with first := none }).ledMove 0x1061 2 3 1

/-- A CREDIT message (R267, R268): ENQ_SEQ covers granules, which are consumed; CREDIT_SEQ is what may be sent. -/
def State.takeCredit (s : State) (p : Nat) (payload : Nat) : State :=
  let v := bits payload 114 112
  let enq := bits payload 111 96
  let x := (s.yard p).vc v
  let n := (enq + 65536 - x.txEnq) % 65536
  match s.vcTx p v with
  | some q =>
    if !s.vcOn p v ∨ n > 32767 ∨ n > (s.queue q).fill then s
    else
      let out := (x.txNext + 65536 - x.txEnq) % 65536
      let s1 := (s.setVc p v { x with txEnq := enq, txNext := if out < n then enq else x.txNext, credit := bits payload 95 80, known := true }).ledMove
        0x1060 2 1 (min n out)
      if n = 0 then s1 else (s1.consume q n).queueMoved q
  | none => s

/-! ### DOWN (R274, R275) -/

/-- A port goes DOWN with a cause of *Table 9.13*. -/
def State.yardDown (s : State) (p cause : Nat) : State :=
  if s.yardSafe p then s
  else
    let y := s.yard p
    let s1 := (List.range 8).foldl
      (fun (s : State) v =>
        let x := (s.yard p).vc v
        let out := (x.txNext + 65536 - x.txEnq) % 65536
        let s2 := (s.releaseCredit p v).ledMove 0x1060 2 3 out
        let s3 := if x.first.isSome then s2.ledMove 0x1061 2 3 1 else s2
        s3.setVc p v { x with txNext := x.txEnq, known := false, first := none, told := none, lost := false }) s
    let s2 := s1.ledMove 0x1061 2 3 (y.heldFrames.countP fun f => f.ftype == 1 && !f.half)
    let s3 := s2.setYard p { s2.yard p with
      downAt := s.now, replay := [], replayAt := none, replayRuns := 0, ctl := [], second := none, nak := false, nakOpen := false,
      nakGot := none, badRun := 0, rxBad := false, inbox := [], heldFrames := [], txBlocks := [], rxBlocks := [], rot := none }
    let s4 := if y.rot.any (·.initiator) then s3.setReg (O.YARD_ROTATE_STATUS p) Status.aborted.code else s3
    (((s4.setReg (O.YARD_STATE p) 8).setReg (O.YARD_RATE p) 0xFF).setReg (O.YARD_DOWN_CAUSE p) cause).setFlag (O.YARD_LINK_DOWN p) 0
      (O.YARD_LINK_DOWN_COUNT p) 1

/-- LINK_DOWN: a port meets a cause of *Table 9.13*; loss of lock counts from ALIGN on, loss of alignment in UP. -/
def execLinkDown (t : Nat) (p : Fin 4) (cause : Fin 10) (s : State) : Host.Outcome State Fault Refusal :=
  let s1 := s.tickTo t
  let st := s1.reg (O.YARD_STATE p.val)
  .next
    (if cause.val = 0 ∨ (cause.val = 2 ∧ st = 1) ∨ (cause.val = 3 ∧ st ≠ 7) then s1 else s1.yardDown p.val cause.val)

/-! ### Training (R265, R266) -/

/-- UI of 336 bits in units of 0.5 ps at a rate code (*Table 9.5*), in kb/s. -/
def yardKbps (code : Nat) : Nat := [1250000, 2500000, 5000000, 10000000, 16000000, 25000000, 32000000].getD code 1250000

/-- Enter a training step. -/
def State.trainStep (s : State) (p st : Nat) : State :=
  (s.setTrain p { (s.yard p).train with
    stepAt := s.now, heard0 := 0, heard1 := 0, sent := 0, bad := false, adapted := false,
    good0 := if st = 1 then 0 else (s.yard p).train.good0, good1 := if st = 1 then 0 else (s.yard p).train.good1,
    pState := if st = 1 then 0 else (s.yard p).train.pState }).setReg (O.YARD_STATE p) st

/-- Training begins at DETECT and 1.25 Gb/s, with a nonce of its own (R266). -/
def State.startTraining (s : State) (p : Nat) : State :=
  let (n, s1) := s.drawBytes 8
  ((s1.setTrain p { trainAt := s1.now, nonce := leNat n }).setReg (O.YARD_RATE p) 0).trainStep p 1

/-- The owner of ENABLE of a port: 1 starts training from DISABLED or DOWN; 0 takes it DOWN with cause 1, and from DOWN to
DISABLED. -/
def ownYardEnable (p : Nat) : Owner := fun v s =>
  let s1 := s.setReg (O.YARD_ENABLE p) v
  (.okay,
    if v = 1 then (if s.yardSafe p then s1.startTraining p else s1)
    else if s.reg (O.YARD_STATE p) = 8 then s1.setReg (O.YARD_STATE p) 0
    else s1.yardDown p 1)

/-- YARD_ENABLE. -/
def execYardEnable (t : Nat) (r : Requester) (p : Fin 4) (v : Bool) (s : State) : Host.Outcome State Fault Refusal :=
  .next ((s.tickTo t).writeObj r (O.YARD_ENABLE p.val) (b2n v) (ownYardEnable p.val))

/-- AUTO_RETRAIN: 10 µs after DOWN the port begins DETECT (R274). -/
def execAutoRetrain (t : Nat) (p : Fin 4) (s : State) : Host.Outcome State Fault Refusal :=
  let s1 := s.tickTo t
  .next
    (if s1.reg (O.YARD_STATE p.val) = 8 ∧ s1.isSet (O.YARD_AUTO_RETRAIN p.val) ∧ s1.isSet (O.YARD_ENABLE p.val) ∧
        (s1.yard p.val).downAt + 10 * Config.usUnits ≤ s1.now ∧ s1.shedOn (quadStop p.val 22) then s1.startTraining p.val
     else s1)

/-- The highest rate code that training may step to. -/
def State.topRate (s : State) (p : Nat) : Nat :=
  let tr := (s.yard p).train
  min (min (s.reg (O.YARD_MAX_RATE p)) tr.pMax) (min tr.limit 6)

/-- The rate code an end proposes in STEP. -/
def State.rateReq (s : State) (p : Nat) : Nat :=
  let r := s.reg (O.YARD_RATE p)
  if (s.yard p).train.back then r - 1 else r + 1

/-- Go back to the previous rate, which becomes the limit (R266). -/
def State.rateBack (s : State) (p : Nat) : State :=
  let r := s.reg (O.YARD_RATE p) - 1
  ((s.setTrain p { (s.yard p).train with limit := r, stepped := false, back := false }).setReg (O.YARD_RATE p) r).trainStep p 1

/-- The slot that the end with the lower SERIAL names (R265). -/
def State.trainSlot (s : State) (p : Nat) : Nat :=
  let tr := (s.yard p).train
  if s.reg O.ID_SERIAL ≤ tr.pSerial then s.reg (O.YARD_KEY_ACTIVE p) else tr.pSlot

/-- The checks of ALIGN (R265). -/
def State.alignOk (s : State) (p : Nat) : Bool :=
  let tr := (s.yard p).train
  let slot := s.trainSlot p
  tr.pYard == s.reg O.ID_YARD_ID && tr.pYard != 0xFF && s.ttValid && tr.pEnc == s.encrypts p &&
    (!s.encrypts p || ((s.linkKey p slot).isSome && (tr.pSlot == slot || tr.pOther)))

/-- Advance the training step where its condition holds (*Table 9.9*); READY ends at LINK_UP. -/
def State.trainAdvance (s : State) (p : Nat) : State :=
  let tr := (s.yard p).train
  let both := fun n => decide (n ≤ tr.heard0) && decide (n ≤ tr.heard1)
  match s.reg (O.YARD_STATE p) with
  | 1 => if 8 ≤ tr.good0 ∧ 8 ≤ tr.good1 then s.trainStep p 2 else s
  | 2 =>
    if !both 16 then s
    else if !s.alignOk p then s.yardDown p 7
    else
      (((s.setReg (O.YARD_KEY_ACTIVE p) (if s.encrypts p then s.trainSlot p else s.reg (O.YARD_KEY_ACTIVE p))).setReg (O.YARD_PARTNER_POS p)
        tr.pPos).setReg (O.YARD_PARTNER_SERIAL p) tr.pSerial).trainStep p 3
  | 3 => if tr.adapted ∧ 3 ≤ tr.pState then s.trainStep p 4 else s
  | 4 =>
    if !both 4096 ∨ tr.pState < 4 then s
    else
      let s1 := s.setTrain p { tr with qual := !tr.bad, back := tr.bad }
      if tr.bad then (if s.reg (O.YARD_RATE p) = 0 then s1.yardDown p 6 else s1.trainStep p 5)
      else if s.reg (O.YARD_RATE p) < s.topRate p then s1.trainStep p 5
      else s1.trainStep p 6
  | 5 =>
    if tr.pState = 5 ∧ !tr.pQual ∧ !tr.back then (s.setTrain p { tr with back := true }).trainStep p 5
    else if !both 16 ∨ tr.sent < 16 then s
    else if tr.back then s.rateBack p
    else ((s.setTrain p { tr with stepped := true }).setReg (O.YARD_RATE p) (s.rateReq p)).trainStep p 1
  | 6 => if tr.pState = 5 ∧ !tr.pQual then (s.setTrain p { tr with back := true }).trainStep p 5 else s
  | _ => s

/-- A frame of training that a lane received (*Table 9.8*): its checks, what it says of the partner, and what it counts for. -/
def State.trainFrame (s : State) (p : Nat) (lane : Bool) (l : List Bool) : State :=
  let st := s.reg (O.YARD_STATE p)
  let tr := (s.yard p).train
  let sound := hcrcOk l && pcrcOk l
  let good := sound && frameField l 0 2 == 3 && frameField l 8 1 == b2n lane && frameField l 16 16 == 0xE4B1
  let f := frameField l
  let seen : YTrain :=
    if good then
      { tr with
        pState := f 2 6, pQual := f 196 1 == 1, pMax := f 188 4, pSerial := f 96 64, pYard := f 176 8, pPos := f 184 4, pEnc := f 197 1 == 1,
        pSlot := f 198 1, pOther := f 199 1 == 1, pNonce := f 32 64,
        pre := if f 200 1 = 1 then f 201 4 else tr.pre, post := if f 200 1 = 1 then f 205 5 else tr.post }
    else tr
  let counts :=
    match st with
    | 2 => good && decide (2 ≤ f 2 6)
    | 4 => true
    | 5 => good && f 2 6 == 5 && f 192 4 == s.rateReq p
    | 6 => good && f 2 6 == 6
    | _ => false
  let run := fun n => if good then n + 1 else 0
  s.setTrain p { seen with
    good0 := if lane then seen.good0 else run seen.good0, good1 := if lane then run seen.good1 else seen.good1,
    heard0 := seen.heard0 + b2n (counts && !lane && decide (seen.heard0 < 4096)), heard1 := seen.heard1 + b2n (counts && lane && decide (seen.heard1 < 4096)),
    bad := seen.bad || (st == 4 && !sound && decide ((if lane then seen.heard1 else seen.heard0) < 4096)) }

/-- TRAIN: a lane receives a TRAIN frame of 42 bytes; `adapted` says that the receiver's adaptation is done by now. -/
def execTrain (t : Nat) (p : Fin 4) (lane : Bool) (frame : List Byte) (adapted : Bool) (s : State) : Host.Outcome State Fault Refusal :=
  let s1 := s.tickTo t
  let st := s1.reg (O.YARD_STATE p.val)
  .next
    (if st = 0 ∨ 7 ≤ st ∨ frame.length ≠ 42 then s1
     else
       let s2 := s1.trainFrame p.val lane (scrambleTrain (bytesBits frame))
       let s3 := s2.setTrain p.val { (s2.yard p.val).train with adapted := (s2.yard p.val).train.adapted || (adapted && st == 3) }
       s3.trainAdvance p.val)

/-- The limit of a training step in units of 0.5 ps; a DETECT after a step up locks within 5 ms (R266). -/
def trainLimit (st : Nat) (stepped : Bool) : Nat :=
  (match st with
   | 1 => if stepped then 5 else 10
   | 2 => 1
   | 3 => 2
   | 4 => 5
   | _ => 1) * Config.msUnits

/-- TRAINING_LIMIT. -/
def execTrainingLimit (t : Nat) (p : Fin 4) (s : State) : Host.Outcome State Fault Refusal :=
  let s1 := s.tickTo t
  let st := s1.reg (O.YARD_STATE p.val)
  let tr := (s1.yard p.val).train
  .next
    (if st = 0 ∨ 7 ≤ st ∨ s1.now < tr.stepAt + trainLimit st tr.stepped then s1
     else if st = 1 ∧ tr.stepped then s1.rateBack p.val
     else s1.yardDown p.val 6)

/-- LINK_UP: sixteen READY frames sent and received; UP begins at the next frame boundary (R266). -/
def execLinkUp (t : Nat) (p : Fin 4) (s : State) : Host.Outcome State Fault Refusal :=
  let s1 := s.tickTo t
  let tr := (s1.yard p.val).train
  .next
    (if s1.reg (O.YARD_STATE p.val) ≠ 6 ∨ tr.sent < 16 ∨ tr.heard0 < 16 ∨ tr.heard1 < 16 then s1
     else
       let y := s1.yard p.val
       let s2 := s1.setYard p.val
         { train := tr, ackAt := s1.now, txSlot := s1.reg (O.YARD_KEY_ACTIVE p.val), vcs := y.vcs, codeErrors := y.codeErrors,
           haltSent := s1.wc + yardDelay }
       let s3 := (s2.forgetCauses.setReg (O.YARD_STATE p.val) 7).setReg (O.YARD_TRAIN_TIME p.val) ((s1.now - tr.trainAt) / Config.usUnits)
       (List.range 8).foldl
         (fun (s : State) v =>
           if s.vcOn p.val v then
             let x := (s.yard p.val).vc v
             (s.setVc p.val v { x with known := false, first := none, told := none, lost := false, txNext := x.txEnq }).topUp p.val v
           else s) s3)

/-! ### Retry (R270) -/

/-- Begin a replay from the oldest frame that is not acknowledged; the eighth at one SEQ takes the port DOWN. -/
def State.beginReplay (s : State) (p : Nat) : State :=
  let y := s.yard p
  if y.replay = [] then s
  else if 8 ≤ y.replayRuns + 1 then s.yardDown p 4
  else s.setYard p { y with replayAt := some 0, replayRuns := y.replayRuns + 1, ackAt := s.now }

/-- An ACK arrives: it releases the frames before it. -/
def State.takeAck (s : State) (p ack : Nat) : State :=
  let y := s.yard p
  match y.replay with
  | [] => s
  | e :: _ =>
    let n := (ack + 128 - e.seq) % 128
    if n = 0 ∨ y.replay.length < n then s
    else s.setYard p { y with replay := y.replay.drop n, replayAt := y.replayAt.bind (fun i => if i < n then (if y.replay.length = n then none else some 0) else some (i - n)), replayRuns := 0, ackAt := s.now }

/-- NAK: a received NAK makes the transmitter send again from ACK. -/
def execNak (t : Nat) (p : Fin 4) (s : State) : Host.Outcome State Fault Refusal :=
  let s1 := s.tickTo t
  .next
    (match (s1.yard p.val).nakGot with
     | none => s1
     | some a => ((s1.setYard p.val { s1.yard p.val with nakGot := none }).takeAck p.val a).beginReplay p.val)

/-- REPLAY_TIMEOUT: ACK has not advanced for 1 µs while frames are outstanding. -/
def execReplayTimeout (t : Nat) (p : Fin 4) (s : State) : Host.Outcome State Fault Refusal :=
  let s1 := s.tickTo t
  let y := s1.yard p.val
  .next (if s1.yardUp p.val ∧ y.replay ≠ [] ∧ y.ackAt + Config.usUnits ≤ s1.now then s1.beginReplay p.val else s1)

/-! ### Sending (R264, R269) -/

/-- The Halter field that a port sends (R212): what came in from the other side, shifted, with the local sources, which are the
assertions that have reached the port since its last frame. -/
def State.halterOut (s : State) (p : Nat) : Nat :=
  let cw := s.reg O.HALT_YARD_CW == p
  let ccw := s.reg O.HALT_YARD_CCW == p
  if !cw && !ccw then 0
  else
    (List.range 8).foldl
      (fun acc k =>
        let l := s.hline k
        let pair := match l.yard with
          | x :: _ => x.2
          | [] => (0, 0)
        let vin := if cw then pair.2 else pair.1
        let din := if cw then l.degCcw else l.degCw
        let local_ := !recDivided (s.hrec k) &&
          (s.hunit k 0).asserts.any fun w => decide ((s.yard p).haltSent < w) && decide (w ≤ s.wc + yardDelay)
        let down := s.anySideDown && recYard (s.hrec k)
        acc + (vin * 2 % 256 + b2n local_) * 2 ^ (8 * k) + (din * 2 % 256 + b2n down) * 2 ^ (64 + 8 * k)) 0

/-- The ACK of a port's frames: the next SEQ expected, or the oldest that is held for a tag. -/
def YPort.ack (y : YPort) : Nat :=
  match y.heldFrames with
  | f :: _ => f.seq
  | [] => y.rxSeq

/-- Whether every enabled virtual channel has sent its CREDIT since UP, before which no DATA goes (R266). -/
def State.creditsSent (s : State) (p : Nat) : Bool := (List.range 8).all fun v => !s.vcOn p v || ((s.yard p).vc v).told.isSome

/-- A virtual channel of a priority, after `last` in round-robin order, that has data and credit. -/
def State.vcReady (s : State) (p : Nat) (low : Bool) (last : Nat) : Option Nat :=
  ((List.range 8).map fun i => (last + 1 + i) % 8).find? fun v =>
    let x := (s.yard p).vc v
    s.creditsSent p && s.vcOn p v && s.vcLow p v == low && x.known && decide (1 ≤ (x.credit + 65536 - x.txNext) % 65536) &&
      decide ((x.credit + 65536 - x.txNext) % 65536 ≤ 32767) &&
      (match s.vcTx p v with
       | some q => decide ((x.txNext + 65536 - x.txEnq) % 65536 < (s.queue q).fill)
       | none => false)

/-- A virtual channel whose CREDIT message is due, in round-robin order. -/
def State.creditDue (s : State) (p : Nat) : Option Nat :=
  ((List.range 8).map fun i => ((s.yard p).rrc + 1 + i) % 8).find? fun v => s.vcOn p v && ((s.yard p).vc v).told != some (s.vcReport p v)

/-- What fills a slot: type, sequence number where it is a replay, channel, half, payload. -/
structure Slot where
  ftype : Nat
  seq : Option Nat := none
  vc : Nat := 0
  half : Bool := false
  payload : Nat := 0

/-- A new sequenced frame takes the next SEQ and waits for its acknowledgement. -/
def State.sequence (s : State) (p : Nat) (x : Slot) : Slot × State :=
  let y := s.yard p
  let e : TxEntry := ⟨y.txSeq, x.ftype, x.vc, x.half, x.payload⟩
  ({ x with seq := some y.txSeq },
   s.setYard p { y with txSeq := (y.txSeq + 1) % 128, replay := y.replay ++ [e], ackAt := if y.replay = [] then s.now else y.ackAt,
                        sinceCtl := if x.ftype = 2 then 0 else y.sinceCtl + 1 })

/-- Begin a granule of a virtual channel: its first half goes out, its second follows in the next slot that is free. -/
def State.sendGranule (s : State) (p v : Nat) (low : Bool) : Option (Slot × State) :=
  let y := s.yard p
  let x := y.vc v
  match s.vcTx p v with
  | some q =>
    let c := s.queue q
    match s.ringRead c (advance c.size c.cons c.consPh ((x.txNext + 65536 - x.txEnq) % 65536)).1 with
    | (some (.okay, g), s1) =>
      let y1 := (s1.yard p).setVc v { x with txNext := (x.txNext + 1) % 65536 }
      let s2 := s1.setYard p { y1 with
        second := some (v, halfPayload (g.drop 16)), rr0 := if low then y.rr0 else v, rr1 := if low then v else y.rr1 }
      some (((s2.ledAdd 0x1060 0 1).ledAdd 0x1060 2 1).sequence p { ftype := 1, vc := v, payload := halfPayload g })
    | _ => none
  | none => none

/-- The CREDIT payload of a virtual channel (*Table 9.11*). -/
def creditPayload (v : Nat) (r : Nat × Nat) : Nat := 0x01 * 2 ^ 120 + v * 2 ^ 112 + r.1 * 2 ^ 96 + r.2 * 2 ^ 80

/-- Fill a frame slot in UP with the first that applies (R269). -/
def State.fillSlot (s : State) (p : Nat) : Slot × State :=
  let y := s.yard p
  let idle : Slot × State := ({ ftype := 0 }, s.setYard p { y with sinceCtl := y.sinceCtl + 1 })
  let room := decide (y.replay.length < 127)
  match y.replayAt.bind fun i => (y.replay[i]?).map fun e => (i, e) with
  | some (i, e) =>
    (⟨e.ftype, some e.seq, e.vc, e.half, e.payload⟩,
     (s.setYard p { y with replayAt := if i + 1 < y.replay.length then some (i + 1) else none, sinceCtl := if e.ftype = 2 then 0 else y.sinceCtl + 1 }).bump
       (O.YARD_REPLAYS p) 1)
  | none =>
    if s.encrypts p && y.txF % 32 == 31 then
      ({ ftype := 3, payload := s.tagOf p y.txSlot y.train.nonce y.txTags y.txBlocks }, s.setYard p { y with sinceCtl := y.sinceCtl + 1 })
    else if !room then idle
    else
      match y.second with
      | some (v, d) => (s.setYard p { y with second := none }).sequence p { ftype := 1, vc := v, half := true, payload := d }
      | none =>
        match (if 3 ≤ y.sinceCtl then some (y.ctl, s.creditDue p) else none) with
        | some (m :: rest, _) => (s.setYard p { y with ctl := rest }).sequence p { ftype := 2, payload := m }
        | some ([], some v) =>
          (s.setYard p { y.setVc v { y.vc v with told := some (s.vcReport p v) } with rrc := v }).sequence p { ftype := 2, payload := creditPayload v (s.vcReport p v) }
        | _ =>
          match (s.vcReady p false y.rr0).bind fun v => s.sendGranule p v false with
          | some r => r
          | none =>
            match (if (s.vcReady p false y.rr0).isSome then none else s.vcReady p true y.rr1).bind fun v => s.sendGranule p v true with
            | some r => r
            | none => idle

/-- Both directions of a rotation run under the new slot: KEY_ACTIVE takes it (R273). -/
def State.rotDone (s : State) (p : Nat) : State :=
  match (s.yard p).rot with
  | some r =>
    if r.sent && r.got then
      let s1 := (s.setYard p { s.yard p with rot := none }).setReg (O.YARD_KEY_ACTIVE p) r.slot
      if r.initiator then s1.setReg (O.YARD_ROTATE_STATUS p) Status.okay.code else s1
    else s
  | none => s

/-- Send one frame in UP. -/
def State.sendFrame (s0 : State) (p : Nat) : State :=
  let s := (List.range 8).foldl (fun (s : State) v => s.topUp p v) s0
  let y0 := s.yard p
  let enc := s.encrypts p
  let switch := enc && y0.txF % 32 == 0 && y0.rot.any (·.may)
  let s1 := if switch then s.setYard p { y0 with txSlot := (y0.rot.map (·.slot)).getD 0, rot := y0.rot.map fun r => { r with sent := true } } else s
  let (x, s2) := s1.fillSlot p
  let y := s2.yard p
  let (kh, kp) := if enc then s2.keystream p y.txSlot y.train.nonce y.txF else (0, 0)
  let h := s2.halterOut p ^^^ kh
  let d := x.payload ^^^ kp
  let hdr := yardHeader x.ftype (x.seq.getD y.txSeq) y.ack y.nak x.vc x.half (if enc then y.txSlot else 0)
  let (line, g) := scrambleUp (frameBits hdr h d) y.txScr
  let y1 := { y with
    txF := y.txF + 1, txScr := g, nak := false, haltSent := s2.wc + yardDelay,
    txBlocks := if enc then (if y.txF % 32 = 31 then [] else y.txBlocks ++ [h, d]) else [],
    txTags := if x.ftype = 3 then y.txTags + 1 else y.txTags }
  ((s2.setYard p y1).send (2 + p) (bitsBytes 42 line)).rotDone p

/-- The 336 bits of a TRAIN frame (*Table 9.8*); the taps it asks for are the receiver's own choice, a free value. -/
def State.trainBits (s : State) (p st lane : Nat) : List Bool × State :=
  let tr := (s.yard p).train
  let ask := st == 3
  let (n, s1) := if ask then s.drawNat else (0, s)
  let slot := s.reg (O.YARD_KEY_ACTIVE p)
  let hdr := 3 * 2 ^ 30 + st * 2 ^ 24 + lane * 2 ^ 23 + 0xE4B1
  let pay := s.reg O.ID_YARD_ID * 2 ^ 120 + s.reg O.HALT_YARD_POS * 2 ^ 116 + s.reg (O.YARD_MAX_RATE p) * 2 ^ 112 +
    (if st = 5 then s.rateReq p else 0) * 2 ^ 108 + b2n tr.qual * 2 ^ 107 + b2n (s.encrypts p) * 2 ^ 106 + slot * 2 ^ 105 +
    b2n (s.linkKey p (1 - slot)).isSome * 2 ^ 104 + b2n ask * 2 ^ 103 + (if ask then n % 13 * 2 ^ 99 + n / 13 % 25 * 2 ^ 94 else 0)
  (frameBits hdr (tr.nonce * 2 ^ 64 + s.reg O.ID_SERIAL) pay, s1)

/-- Send one TRAIN frame on each lane. -/
def State.sendTrain (s : State) (p st : Nat) : State :=
  let (a, s1) := s.trainBits p st 0
  let (b, s2) := s1.trainBits p st 1
  let s3 := (s2.send (2 + p) (bitsBytes 42 (scrambleTrain a))).send (2 + p) (bitsBytes 42 (scrambleTrain b))
  s3.setTrain p { (s3.yard p).train with sent := (s3.yard p).train.sent + 1 }

/-- YARD_FRAME_SLOT: a frame slot of the transmitter, in UP, in training, or with WAKE_SEND in DISABLED (R269, R265, R277). -/
def execYardFrameSlot (t : Nat) (p : Fin 4) (s : State) : Host.Outcome State Fault Refusal :=
  let s1 := (s.tickTo t).haltPump
  let st := s1.reg (O.YARD_STATE p.val)
  .next
    (if !s1.domainRunning (388 + 2 * p.val) then s1
     else if st = 7 then s1.sendFrame p.val
     else if 1 ≤ st ∧ st ≤ 6 then (s1.sendTrain p.val st).trainAdvance p.val
     else if st = 0 ∧ s1.isSet (O.YARD_WAKE_SEND p.val) then s1.sendTrain p.val 7
     else s1)

/-! ### Receiving (R263, R270) -/

/-- The Halter field of a named port is used (R212, R264): `none` for an uncorrectable frame. -/
def State.halterIn (s : State) (p : Nat) (h : Option Nat) : State :=
  let cw := s.reg O.HALT_YARD_CW == p
  let ccw := s.reg O.HALT_YARD_CCW == p
  if !cw && !ccw then s
  else
    ((List.range 8).foldl
      (fun (s : State) k =>
        let r := s.hrec k
        let v := match h with
          | some x => bits x (8 * k + 7) (8 * k)
          | none => if recYard r && recFailsafe r then 1 else 0
        let d := match h with
          | some x => bits x (64 + 8 * k + 7) (64 + 8 * k)
          | none => 0
        let w := s.wc + yardDelay
        let l := s.hline k
        let (w0, old) := match l.yard with
          | x :: _ => (x.1, x.2)
          | [] => (w, (0, 0))
        let new := (if cw then v else old.1, if ccw then v else old.2)
        let n := if recYard r ∧ old.1 ||| old.2 ≠ 0 then ((List.range (w - w0)).countP fun i => !((s.hunit k 0).asserts.contains (w0 + i))) else 0
        let s1 := if n = 0 then s else s.haltCount k n
        let s2 := s1.setHline k { l with
          yard := if new = old ∧ n = 0 then l.yard else (w, new) :: l.yard,
          degCw := if cw then d else l.degCw, degCcw := if ccw then d else l.degCcw }
        if recYard r ∧ new.1 ||| new.2 ≠ 0 then s2.haltTrace k true else s2) s).forgetCauses

/-- The frames held for a tag are thrown away: the transmitter sends them again (R272). -/
def State.dropHeld (s : State) (p : Nat) : State :=
  let y := s.yard p
  match y.heldFrames with
  | [] => s
  | f :: _ =>
    (s.setYard p { y with rxSeq := f.seq, heldFrames := [], nak := true, nakOpen := true }).ledMove 0x1061 2 3
      (y.heldFrames.countP fun f => f.ftype == 1 && !f.half)

/-- YARD_FRAME: a frame of 42 bytes arrives in UP: HCRC, Halter field, header; what is to be acted on waits in order. -/
def execYardFrame (t : Nat) (p : Fin 4) (frame : List Byte) (s : State) : Host.Outcome State Fault Refusal :=
  let s1 := (s.tickTo t).haltPump
  let y := s1.yard p.val
  .next
    (if !s1.yardUp p.val ∨ frame.length ≠ 42 then s1
     else
       let (raw, g) := scrambleUp (bytesBits frame) y.rxScr
       let fixed := if hcrcOk raw then some raw else hcrcCorrect raw
       let enc := s1.encrypts p.val
       let f := y.rxF
       let l := fixed.getD raw
       let last := enc && f % 32 == 31
       let blocks := if enc && !last then y.rxBlocks ++ [frameField l 32 128, frameField l 176 128] else y.rxBlocks
       let y1 := { y with rxF := f + 1, rxScr := g, rxBlocks := blocks }
       let missedTag := fun (s : State) =>
         if last then
           (s.setYard p.val { s.yard p.val with rxBlocks := [], rxBad := false, rxTags := y.rxTags + 1, tagFrom := f + 1 }).dropHeld p.val
         else s
       match fixed with
       | none =>
         let s2 := (s1.setYard p.val { y1 with badRun := y.badRun + 1, rxBad := true }).bump (O.YARD_HCRC_BAD p.val) 1
         let s3 := missedTag (s2.halterIn p.val none)
         if 4 ≤ y.badRun + 1 then s3.yardDown p.val 3 else s3
       | some l =>
         let hdr := frameField l 0 32
         let ok := pcrcOk l
         let key := b2n (hdr.testBit 10)
         let (kh, kp) := if enc then s1.keystream p.val key y.train.pNonce f else (0, 0)
         let ftype := bits hdr 31 30
         let payload := frameField l 176 128 ^^^ kp
         let fr : RxFrame :=
           ⟨ftype, bits hdr 29 23, bits hdr 14 12, hdr.testBit 11, ok, payload, hdr.testBit 10, f,
            ftype == 3 && s1.tagOf p.val key y.train.pNonce y.rxTags y.rxBlocks == payload % 2 ^ 64, y.rxBad⟩
         let y2 := { y1 with
           badRun := 0, rxBad := y.rxBad || !ok, nakGot := if hdr.testBit 15 then some (bits hdr 22 16) else y.nakGot,
           inbox := if ftype = 0 then y.inbox else y.inbox ++ [fr],
           rot := if enc then y.rot.map fun r => { r with got := r.got || r.slot == key } else y.rot }
         let s2 := if hcrcOk raw then s1 else s1.bump (O.YARD_HCRC_CORRECTED p.val) 1
         let s3 := if ok then s2 else s2.bump (O.YARD_PCRC_BAD p.val) 1
         let s4 := ((s3.setYard p.val y2).takeAck p.val (bits hdr 22 16)).halterIn p.val (some (frameField l 32 128 ^^^ kh))
         (if ftype ≠ 3 then missedTag s4
          else s4.setYard p.val { s4.yard p.val with rxBlocks := [], rxBad := false, rxTags := y.rxTags + 1 }).rotDone p.val)

/-- The sequence check of R270: whether the frame is accepted, and the port after it. A frame whose TAG was lost is not. -/
def State.acceptFrame (s : State) (p : Nat) (f : RxFrame) : Bool × State :=
  let y := s.yard p
  if f.ok ∧ f.seq = y.rxSeq ∧ (s.encrypts p → y.tagFrom ≤ f.f) then (true, s.setYard p { y with rxSeq := (y.rxSeq + 1) % 128, nakOpen := false })
  else (false, s.setYard p { y with nak := y.nak || !y.nakOpen, nakOpen := true })

/-- The slot of a rotation message. -/
def rotSlot (payload : Nat) : Nat := bits payload 112 112

/-- A REKEY message (R273). -/
def State.takeRekey (s : State) (p payload : Nat) : State :=
  let slot := rotSlot payload
  let ok := (s.linkKey p slot).isSome
  let y := s.yard p
  s.setYard p { y with
    ctl := y.ctl ++ [0x03 * 2 ^ 120 + b2n ok * 2 ^ 113 + slot * 2 ^ 112],
    rot := if ok then some { slot := slot, initiator := false, may := true } else y.rot }

/-- A REKEY_ACK message (R273, R275). -/
def State.takeRekeyAck (s : State) (p payload : Nat) : State :=
  let y := s.yard p
  match y.rot with
  | some r =>
    if !r.initiator ∨ rotSlot payload ≠ r.slot then s
    else if payload.testBit 113 then s.setYard p { y with rot := some { r with may := true } }
    else (s.setYard p { y with rot := none }).setReg (O.YARD_ROTATE_STATUS p) Status.refused.code
  | none => s

/-- Act on an accepted frame: halves make granules, messages take effect, an unknown KIND is counted. -/
def State.actFrame (s : State) (p : Nat) (f : RxFrame) : State :=
  if f.ftype = 1 then
    let x := (s.yard p).vc f.vc
    if !f.half then s.setVc p f.vc { x with first := some f.payload }
    else
      match x.first with
      | some a =>
        if x.lost then (s.setVc p f.vc { x with first := none }).ledMove 0x1061 2 3 1
        else s.yardEnqueue p f.vc (leBytes 16 a ++ leBytes 16 f.payload)
      | none => s
  else
    match bits f.payload 127 120 with
    | 1 => s.takeCredit p f.payload
    | 2 => s.takeRekey p f.payload
    | 3 => s.takeRekeyAck p f.payload
    | _ => s.setYard p { s.yard p with codeErrors := (s.yard p).codeErrors + 1 }

/-- A sequenced frame at the head of the inbox is taken where `mine` says so: accepted or discarded with a NAK; held for its tag on an
encrypted link, acted on at once otherwise. -/
def State.takeFrame (s : State) (p : Nat) (mine : RxFrame → Bool) : State :=
  let y := s.yard p
  match y.inbox with
  | [] => s
  | f :: rest =>
    if f.ftype = 3 ∨ !mine f then s
    else
      match (s.setYard p { y with inbox := rest }).acceptFrame p f with
      | (false, s1) => s1
      | (true, s1) =>
        let s2 := if f.ftype = 1 ∧ !f.half then (s1.ledAdd 0x1061 0 1).ledAdd 0x1061 2 1 else s1
        if s2.encrypts p then s2.setYard p { s2.yard p with heldFrames := (s2.yard p).heldFrames ++ [f] } else s2.actFrame p f

/-- Whether a frame is a sound CONTROL frame of a KIND. -/
def isKind (k : Nat) (f : RxFrame) : Bool := f.ftype == 2 && f.ok && bits f.payload 127 120 == k

/-- DATA: also takes sequenced frames with a bad PCRC and CONTROL frames of an unknown KIND. -/
def execData (t : Nat) (p : Fin 4) (s : State) : Host.Outcome State Fault Refusal :=
  .next ((s.tickTo t).takeFrame p.val fun f => !(isKind 1 f || isKind 2 f || isKind 3 f))

/-- CREDIT. -/
def execCredit (t : Nat) (p : Fin 4) (s : State) : Host.Outcome State Fault Refusal := .next ((s.tickTo t).takeFrame p.val (isKind 1))

/-- REKEY. -/
def execRekey (t : Nat) (p : Fin 4) (s : State) : Host.Outcome State Fault Refusal := .next ((s.tickTo t).takeFrame p.val (isKind 2))

/-- REKEY_ACK. -/
def execRekeyAck (t : Nat) (p : Fin 4) (s : State) : Host.Outcome State Fault Refusal := .next ((s.tickTo t).takeFrame p.val (isKind 3))

/-- TAG: a TAG frame verifies the frames before it and releases them, or throws them away, or takes the port DOWN (R272). -/
def execTag (t : Nat) (p : Fin 4) (s : State) : Host.Outcome State Fault Refusal :=
  let s1 := s.tickTo t
  let y := s1.yard p.val
  .next
    (match y.inbox with
     | [] => s1
     | f :: rest =>
       if f.ftype ≠ 3 then s1
       else
         let s2 := s1.setYard p.val { y with inbox := rest }
         if !s1.encrypts p.val then s2
         else if !f.ok then s2.dropHeld p.val
         else if f.tagOk then
           y.heldFrames.foldl (fun (s : State) f => s.actFrame p.val f) (s2.setYard p.val { s2.yard p.val with heldFrames := [] })
         else if f.covBad then s2.dropHeld p.val
         else (s2.bump (O.YARD_TAG_FAILS p.val) 1).yardDown p.val 5)

/-! ### Keys and configuration -/

/-- The owner of KEY_ROTATE (R273). -/
def ownKeyRotate (p : Nat) : Owner := command fun s =>
  let y := s.yard p
  let slot := 1 - s.reg (O.YARD_KEY_ACTIVE p)
  if y.rot.isSome then (.busy, s.setReg (O.YARD_ROTATE_STATUS p) Status.busy.code)
  else if !s.yardUp p ∨ !s.encrypts p ∨ (s.linkKey p slot).isNone then (.refused, s.setReg (O.YARD_ROTATE_STATUS p) Status.refused.code)
  else (.okay, s.setYard p { y with rot := some { slot := slot, initiator := true }, ctl := y.ctl ++ [0x02 * 2 ^ 120 + slot * 2 ^ 112] })

/-- KEY_ROTATE. -/
def execKeyRotate (t : Nat) (r : Requester) (p : Fin 4) (v : Bool) (s : State) : Host.Outcome State Fault Refusal :=
  .next ((s.tickTo t).writeObj r (O.YARD_KEY_ROTATE p.val) (b2n v) (ownKeyRotate p.val))

/-- The owner of a link key slot. -/
def ownLinkKey (p slot : Nat) : ImgOwner := unscheduled fun img s =>
  if img.length ≠ 32 ∨ (s.encrypts p ∧ slot = s.reg (O.YARD_KEY_ACTIVE p)) then (.refused, s)
  else (.okay, s.setImage (O.YARD_LINK_KEY0 p + slot) img)

/-- LINK_KEY_COMMIT. -/
def execLinkKeyCommit (t : Nat) (r : Requester) (p : Fin 4) (slot : Fin 2) (crc tt : Nat) (s : State) : Host.Outcome State Fault Refusal :=
  .next ((s.tickTo t).commitObj r (O.YARD_LINK_KEY0 p.val + slot.val) crc tt (ownLinkKey p.val slot.val))

/-- The queues that the enabled channels of the device name, with port p's image replaced. -/
def State.vcQueues (s : State) (p : Nat) (img : List Byte) (tx : Bool) : List Nat :=
  (List.range 32).filterMap fun i =>
    let e := vcEntry (if i / 8 = p then img else s.image (O.YARD_VC_CFG (i / 8))) (i % 8)
    let q := if tx then e.1 else e.2.1
    if e.2.2.2.testBit 0 && decide (q ≠ 0xFFFF) then some q else none

/-- Whether a list names a number twice. -/
def twice : List Nat → Bool
  | [] => false
  | q :: r => r.contains q || twice r

/-- What makes a VC_CFG commit REFUSED (R268, R304): also a number that is no queue, and a TX_QUEUE bound to the fabric. -/
def State.vcRefused (s : State) (p : Nat) (img : List Byte) : Bool :=
  img.length != 64 || !s.yardSafe p || twice (s.vcQueues p img true) || twice (s.vcQueues p img false) ||
    (List.range 8).any fun v =>
      let e := vcEntry img v
      let off := fun (q : Nat) => decide (32768 ≤ q) && q != 0xFFFF
      e.2.2.1 == 0 || off e.1 || off e.2.1 ||
        (e.1 != 0xFFFF && (List.range 4).any fun a => s.reg (O.FP_QC0 a) == e.1 || s.reg (O.FP_QC1 a) == e.1)

/-- The owner of VC_CFG: granule numbers start anew. -/
def ownVcCfg (p : Nat) : ImgOwner := unscheduled fun img s =>
  if s.vcRefused p img then (.refused, s)
  else
    let kept := (List.range 8).flatMap fun v => let e := vcEntry img v; leBytes 2 e.1 ++ leBytes 2 e.2.1 ++ leBytes 1 e.2.2.1 ++ leBytes 1 (e.2.2.2 % 4) ++ leBytes 2 0
    (.okay, (s.setImage (O.YARD_VC_CFG p) kept).setYard p { s.yard p with vcs := [] })

/-- VC_CFG_COMMIT. -/
def execVcCfgCommit (t : Nat) (r : Requester) (p : Fin 4) (crc tt : Nat) (s : State) : Host.Outcome State Fault Refusal :=
  .next ((s.tickTo t).commitObj r (O.YARD_VC_CFG p.val) crc tt (ownVcCfg p.val))

/-! ### Yard wake (R277) -/

/-- YARD_WAKE: the low-power detector of lane 0 has heard these frames in a row. -/
def execYardWake (t : Nat) (p : Fin 4) (frames : List (List Byte)) (s : State) : Host.Outcome State Fault Refusal :=
  let s1 := s.tickTo t
  let good := fun (b : List Byte) =>
    let l := scrambleTrain (bytesBits b)
    b.length == 42 && hcrcOk l && pcrcOk l && frameField l 0 2 == 3 && frameField l 2 6 == 7 && frameField l 16 16 == 0xE4B1 &&
      frameField l 176 8 == s1.reg O.ID_YARD_ID
  .next
    (if s1.reg (O.YARD_STATE p.val) = 0 ∧ s1.isSet (O.YARD_WAKE_EN p.val) ∧ s1.reg (O.SHED_STATE (quadStop p.val 22)) ≠ 3 ∧
        64 ≤ frames.length ∧ (frames.drop (frames.length - 64)).all good then
       (s1.setFlag (O.YARD_WAKE_SEEN p.val) 0 (O.YARD_WAKE_COUNT p.val) 1).wakeAt (3 + p.val)
     else s1)

end Sys2Proof.Machine
end

