-- ==== Sys2Proof/Machine/Mgmt.lean ====
section
/-! DEFINITION. The management ports (R279 to R282): frames as they are taken apart, the answers the ports give by themselves, the wake
pattern, and the link. Formats of the protocols named come from their standards (PRESUMED, notes/assumptions). -/

namespace Sys2Proof.Machine

/-- The parts of a frame accepted at a port: source address, EtherType and payload. -/
structure EthFrame where
  dst : List Byte
  src : List Byte
  kind : Nat
  body : List Byte

/-- Whether a frame is sound and within the VLAN rule of R279: its parts. The last four bytes are the FCS. -/
def State.ethParse (s : State) (m : Nat) (f : List Byte) : Option EthFrame :=
  let n := f.length - 4
  let vid := s.reg (O.MGT_VLAN_ID m)
  let tagged := fieldBE f 12 2 == 0x8100
  if f.length < 18 ∨ 1522 < f.length ∨ crc32 (f.take n) ≠ fieldLE f n 4 then none
  else if vid = 0 then (if tagged then none else some ⟨f.take 6, slice 6 6 f, fieldBE f 12 2, (f.take n).drop 14⟩)
  else if tagged ∧ fieldBE f 14 2 % 4096 = vid then some ⟨f.take 6, slice 6 6 f, fieldBE f 16 2, (f.take n).drop 18⟩
  else none

/-- The link-local address of a port: modified EUI-64 of its MAC_ADDR (R280). -/
def State.linkLocal (s : State) (m : Nat) : List Byte :=
  let a := s.mgtMac m
  [0xFE#8, 0x80#8] ++ fill 6 0 ++ [(a.headD 0) ^^^ 0x02#8] ++ slice 1 2 a ++ [0xFF#8, 0xFE#8] ++ slice 3 3 a

/-- Whether an IPv6 address is one of the port's. -/
def State.isOwn6 (s : State) (m : Nat) (a : List Byte) : Bool :=
  a == s.linkLocal m || (a == s.image (O.MGT_IPV6_ADDR m) && a != fill 16 0)

/-- The reply to an ARP request for IPV4_ADDR. -/
def State.arpReply (s : State) (m : Nat) (f : EthFrame) : Option (List Byte) :=
  let a := s.reg (O.MGT_IPV4_ADDR m)
  if a ≠ 0 ∧ fieldBE f.body 0 8 = 0x0001080006040001 ∧ 28 ≤ f.body.length ∧ fieldBE f.body 24 4 = a then
    some (beBytes 8 0x0001080006040002 ++ s.mgtMac m ++ beBytes 4 a ++ slice 8 10 f.body)
  else none

/-- What an IP packet for the port is: the packet that answers it, or a UDP datagram for the device and who sent it. -/
abbrev Inet := Sum (List Byte) (Peer × List Byte)

/-- The datagram of a UDP message from a peer whose Ethernet, network and own addresses are given, if its length and checksum are right; a
checksum of 0 over IPv4 stands for none. -/
def udpTaken (p : Peer) (src dst msg : List Byte) : Option Inet :=
  let n := fieldBE msg 4 2
  let u := msg.take n
  if n < 8 ∨ msg.length < n then none
  else if (p.v6 ∨ fieldBE u 6 2 ≠ 0) ∧ udpSum src dst u ≠ 0 then none
  else some (.inr ({ p with port := fieldBE u 0 2, dport := fieldBE u 2 2 }, u.drop 8))

/-- The UDP ports of PTP event and general messages (R89). -/
def isPtpPort (n : Nat) : Bool := n == 319 || n == 320

/-- A packet sent to a group is for the device only if it is a PTP message. -/
def ptpOnly : Option Inet → Option Inet
  | some (.inr (p, d)) => if isPtpPort p.dport then some (.inr (p, d)) else none
  | _ => none

/-- What an IPv4 packet for the port is: an echo request, or a UDP datagram. -/
def State.ip4 (s : State) (m : Nat) (f : EthFrame) : Option Inet :=
  let a := s.reg (O.MGT_IPV4_ADDR m)
  let b := f.body
  let hl := bits (byteAt b 0) 3 0 * 4
  let total := fieldBE b 2 2
  let multicast := bits (byteAt b 16) 7 4 == 14
  if a = 0 ∨ bits (byteAt b 0) 7 4 ≠ 4 ∨ hl < 20 ∨ b.length < total ∨ total < hl + 8 ∨ inetSum (b.take hl) ≠ 0 ∨ fieldBE b 6 2 % 2 ^ 14 ≠ 0 ∨
      !(fieldBE b 16 4 == a || multicast) then none
  else
    let p := (b.take total).drop hl
    if byteAt b 9 = 1 then
      if byteAt p 0 = 8 ∧ inetSum p = 0 ∧ !multicast then
        let q := fill 4 0 ++ p.drop 4
        some (.inl (b.take 12 ++ slice 16 4 b ++ slice 12 4 b ++ (b.take hl).drop 20 ++ fill 2 0 ++ beBytes 2 (inetSum q) ++ p.drop 4))
      else none
    else if byteAt b 9 = 17 then
      let u := udpTaken { mac := beNat f.src, addr := fieldBE b 12 4, own := a } (slice 12 4 b) (slice 16 4 b) p
      if multicast then ptpOnly u else u
    else none

/-- An ICMPv6 message with its checksum, in a packet with hop limit `hop`. -/
def icmp6 (src dst msg : List Byte) (hop : Nat) : List Byte :=
  let z := msg.take 2 ++ fill 2 0 ++ msg.drop 4
  let c := inetSum (src ++ dst ++ beBytes 4 msg.length ++ beBytes 4 58 ++ z)
  beBytes 4 0x60000000 ++ beBytes 2 msg.length ++ beBytes 1 58 ++ beBytes 1 hop ++ src ++ dst ++ msg.take 2 ++ beBytes 2 c ++ msg.drop 4

/-- What an IPv6 packet for the port is. -/
def State.ip6 (s : State) (m : Nat) (f : EthFrame) : Option Inet :=
  let b := f.body
  let n := fieldBE b 4 2
  let src := slice 8 16 b
  let dst := slice 24 16 b
  let p := slice 40 n b
  if bits (byteAt b 0) 7 4 ≠ 6 ∨ b.length < 40 + n ∨ n < 8 then none
  else if byteAt b 6 = 58 then
    if inetSum (src ++ dst ++ beBytes 4 n ++ beBytes 4 58 ++ p) ≠ 0 then none
    else if byteAt p 0 = 128 ∧ s.isOwn6 m dst then some (.inl (icmp6 dst src (beBytes 1 129 ++ p.drop 1) (byteAt b 7)))
    else if byteAt p 0 = 135 ∧ byteAt b 7 = 255 ∧ s.isOwn6 m (slice 8 16 p) then
      let dest := if src = fill 16 0 then beBytes 16 0xFF020000000000000000000000000001 else src
      let flags := if src = fill 16 0 then 0x20000000 else 0x60000000
      some (.inl (icmp6 (slice 8 16 p) dest (beBytes 4 0x88000000 ++ beBytes 4 flags ++ slice 8 16 p ++ beBytes 2 0x0201 ++ s.mgtMac m) 255))
    else none
  else if byteAt b 6 = 17 then
    let own := s.isOwn6 m dst
    let u := udpTaken { mac := beNat f.src, v6 := true, addr := beNat src, own := beNat (if own then dst else s.linkLocal m) } src dst p
    if own then u else if byteAt dst 0 = 0xFF then ptpOnly u else none
  else none

/-- Whether a port takes frames: its link is up and its domain runs. -/
def State.mgtLive (s : State) (m : Nat) : Bool := s.isSet (O.MGT_LINK_UP m) && s.domainRunning (404 + 2 * m)

/-- Whether bytes contain others. -/
def hasBytes (pat : List Byte) : List Byte → Bool
  | [] => pat.isEmpty
  | b :: r => (b :: r).take pat.length == pat || hasBytes pat r

/-- MANAGEMENT_WAKE: a frame that carries the wake pattern (R281). -/
def execManagementWake (t : Nat) (c : Ctl) (frame : List Byte) (s : State) : Host.Outcome State Fault Refusal :=
  let s1 := s.tickTo t
  let m := c.num
  let pat := [0x45#8, 0x56#8, 0x53#8, 0x57#8] ++ leBytes 8 (s1.reg O.ID_SERIAL)
  .next
    (match s1.ethParse m frame with
     | none => s1
     | some f =>
       if s1.isSet (O.MGT_WAKE_EN m) ∧ s1.reg (O.SHED_STATE (93 + m)) ≠ 3 ∧ (f.dst = s1.mgtMac m ∨ f.dst = fill 6 0xFF) ∧
           hasBytes pat (f.body.take 256) then
         (s1.setFlag (O.MGT_WAKE_SEEN m) 0 (O.MGT_WAKE_COUNT m) 1).wakeAt (1 + m)
       else s1)

/-- The link goes up at a speed, or down. -/
def State.mgtLink (s : State) (m : Nat) (up : Bool) (speed : Nat) : State :=
  let s1 := (s.setBool (O.MGT_LINK_UP m) up).setReg (O.MGT_SPEED m) (if up then speed else 0)
  if s.isSet (O.MGT_LINK_UP m) = up then s1 else s1.setFlag (O.MGT_LINK_CHANGE m) 0 (O.MGT_LINK_CHANGE_COUNT m) 1

/-- MGT_LINK_CHANGE: auto-negotiation ends, at the speed of the SGMII exchange or 1,000 Mb/s; or the link is lost (R279). -/
def execMgtLinkChange (t : Nat) (c : Ctl) (up : Bool) (speed : Fin 3) (s : State) : Host.Outcome State Fault Refusal :=
  let s1 := s.tickTo t
  .next (s1.mgtLink c.num up (if s1.reg (O.MGT_PHY_MODE c.num) = 1 then speed.val + 1 else 3))

/-- The owner of PHY_MODE. -/
def ownPhyMode (m : Nat) : Owner := fun v s => (.okay, (s.setReg (O.MGT_PHY_MODE m) v).mgtLink m false 0)

/-- PHY_MODE. -/
def execPhyMode (t : Nat) (r : Requester) (c : Ctl) (v : Nat) (s : State) : Host.Outcome State Fault Refusal :=
  .next ((s.tickTo t).writeObj r (O.MGT_PHY_MODE c.num) v (ownPhyMode c.num))

/-- The owner of IPV6_ADDR. -/
def ownIpv6Addr (m : Nat) : ImgOwner := unscheduled fun img s =>
  if img.length ≠ 16 then (.refused, s) else (.okay, s.setImage (O.MGT_IPV6_ADDR m) img)

end Sys2Proof.Machine
end

