-- ==== Sys2Proof/Machine/Loader.lean ====
section
/-! DEFINITION. The bit-stream loader (R308 to R319) and the planes it writes: packets, frames and their checks, stream errors; the
Paddocks' shadow planes and swaps (R323 to R329); the readback audit (R330, R331). -/

namespace Sys2Proof.Machine

/-! ### Geometry (R283, R284) -/

/-- Kinds of column, *Table 10.1*. -/
inductive ColKind where
  | logic | mac | memory | port
  deriving DecidableEq

/-- The kind of a column; column c from 104 on is as column 151 − c. -/
def colKind (c0 : Nat) : ColKind :=
  let c := if c0 < 104 then c0 else 151 - c0
  if c = 0 ∨ c = 48 then .port
  else if [11, 23, 35, 65, 84, 102].contains c then .mac
  else if [12, 24, 36, 47, 66, 67, 85, 103].contains c then .memory
  else .logic

/-- The B columns of a quadrant in ascending order. -/
def memCols : List Nat := [12, 24, 36, 47, 66, 67, 85, 103, 104, 115, 127, 139]

/-- Fields of a frame locator (*Table 11.5*). -/
def locCol (l : Nat) : Nat := bits l 31 24
def locRow (l : Nat) : Nat := bits l 23 16
def locSeg (l : Nat) : Nat := bits l 15 12
def locQuad (l : Nat) : Nat := bits l 11 10
def locPlane (l : Nat) : Nat := bits l 9 8
def mkLoc (col row seg quad plane : Nat) : Nat := col * 2 ^ 24 + row * 2 ^ 16 + seg * 2 ^ 12 + quad * 2 ^ 10 + plane * 2 ^ 8

/-- The Paddock whose columns and rows a place lies in; `none` for the static region (R284). -/
def paddockOf (quad col row : Nat) : Option Nat :=
  if 192 ≤ row ∨ 152 ≤ col then none
  else if col < 48 then some (6 * quad + 2 * (row / 64))
  else if 104 ≤ col then some (6 * quad + 2 * (row / 64) + 1)
  else none

/-- The frame map of a Paddock (R324). -/
def inPaddock (p l : Nat) : Bool := locPlane l ≤ 1 && paddockOf (locQuad l) (locCol l) (locRow l) == some p

/-- Whether a frame locator is valid (R314). -/
def locValid (l : Nat) : Bool :=
  match locPlane l with
  | 0 => locCol l ≤ 151 && locRow l ≤ 191 && locSeg l == 0
  | 1 => locCol l ≤ 151 && colKind (locCol l) == .memory && locRow l % 4 == 0 && locRow l ≤ 188
  | 2 => locCol l == 0 && locRow l == 0 && locSeg l == 0
  | _ => false

/-- LOC after a frame (R314): `none` past quadrant 3. -/
def locNext (l : Nat) : Option Nat :=
  let c := locCol l
  let r := locRow l
  let q := locQuad l
  let quad := fun (plane : Nat) => if q < 3 then some (mkLoc 0 0 0 (q + 1) plane) else none
  match locPlane l with
  | 0 => if r < 191 then some (mkLoc c (r + 1) 0 q 0) else if c < 151 then some (mkLoc (c + 1) 0 0 q 0) else quad 0
  | 1 =>
    if locSeg l < 15 then some (mkLoc c r (locSeg l + 1) q 1)
    else if r < 188 then some (mkLoc c (r + 4) 0 q 1)
    else if c < 151 then some (mkLoc (c + 1) 0 0 q 1)
    else quad 1
  | _ => quad 2

/-! ### Frames (R291, R292, R313, R315) -/

/-- The unconfigured frame at a locator: the Reset column of every field. -/
def frameDefault (l : Nat) : List Byte :=
  match locPlane l with
  | 0 =>
    (if colKind (locCol l) = .memory ∧ locRow l % 4 = 0 then leBytes 8 0xF800000000000000 ++ fill 152 0 else fill 160 0) ++ leBytes 4 0xF8000000 ++
      fill 156 0
  | 2 => repeatBytes 12 (leBytes 4 0x00010000) ++ fill 272 0
  | _ => fill 320 0

/-- Clear a byte range's bits outside a mask. -/
def maskField (img : List Byte) (o n mask : Nat) : List Byte := splice img o (leBytes n (fieldLE img o n &&& mask))

/-- A frame as it is stored: reserved bits 0. -/
def frameStored (l : Nat) (img : List Byte) : List Byte :=
  match locPlane l with
  | 0 =>
    let cells :=
      match colKind (locCol l) with
      | .logic => (List.range 16).foldl (fun m i => maskField m (10 * i) 10 (2 ^ 80 - 1 - 3 * 2 ^ 64)) img
      | .mac => if locRow l % 2 = 0 then splice (maskField img 0 8 0xFFFFF00000) 8 (fill 152 0) else splice img 0 (fill 160 0)
      | .memory => if locRow l % 4 = 0 then splice (maskField img 0 8 0xFFFFC00000000000) 8 (fill 152 0) else splice img 0 (fill 160 0)
      | .port => splice img 0 (fill 160 0)
    splice (maskField cells 312 1 0x3F) 313 (fill 7 0)
  | 1 => splice img 288 (fill 32 0)
  | _ => splice ((List.range 12).foldl (fun m g => maskField m (4 * g) 4 0x03FFFE00) img) 48 (fill 272 0)

/-- Whether a frame holds a reserved encoding (R315). -/
def frameReserved (l : Nat) (img : List Byte) : Bool :=
  match locPlane l with
  | 0 =>
    let w := fieldLE img 0 8
    bits (fieldLE img 160 4) 25 24 == 3 ||
      (match colKind (locCol l) with
       | .mac => locRow l % 2 == 0 && (bits w 29 28 == 3 || bits w 26 25 == 3 || bits w 24 23 == 3 || decide (48 ≤ bits w 39 34))
       | .memory =>
         locRow l % 4 == 0 && (bits w 58 56 == 7 || bits w 55 53 == 7 || (bits w 58 56 == 6) != (bits w 55 53 == 6) || bits w 52 51 == 3 ||
           bits w 50 49 == 3)
       | _ => false)
  | 1 => false
  | _ => (List.range 12).any fun g => let w := fieldLE img (4 * g) 4; bits w 17 16 == 3 || bits w 15 14 == 3 || bits w 10 9 == 3

/-- A frame of the live or the shadow plane. -/
def State.frame (s : State) (shadow : Bool) (l : Nat) : List Byte := Tbl.get (frameDefault l) (if shadow then s.shadow else s.live) l

/-- Number of a block memory: quadrant, B column and place (*Table 10.13*). -/
def memId (quad col row : Nat) : Nat := 576 * quad + 48 * ((memCols.idxOf? col).getD 0) + row / 4

/-- The locator of segment 0 of a memory's contents, and of its lowest tile. -/
def memLoc (m seg plane : Nat) : Nat := mkLoc (memCols.getD (m / 48 % 12) 12) (4 * (m % 48)) seg (m / 576) plane

/-- Load the 32 internal words of a PLANE 1 frame into the memory's array. -/
def State.loadSegment (s : State) (l : Nat) (img : List Byte) : State :=
  let k := memId (locQuad l) (locCol l) (locRow l) * 512 + 32 * locSeg l
  (List.range 32).foldl
    (fun (s : State) w =>
      { s with bram := Tbl.set 0 s.bram (k + w) (fieldLE img (9 * w) 9), bramUpset := Tbl.set 0 s.bramUpset (k + w) 0 }) s

/-- Store a frame in a plane; a live frame takes effect (R313). -/
def State.putFrame (s : State) (shadow : Bool) (l : Nat) (img : List Byte) : State :=
  let f := frameStored l img
  let s1 := s.bump O.CFG_FRAMES 1
  if shadow then { s1 with shadow := Tbl.set (frameDefault l) s1.shadow l f }
  else
    let s2 := { s1 with live := Tbl.set (frameDefault l) s1.live l f }
    match locPlane l with
    | 1 => s2.loadSegment l f
    | 2 =>
      (List.range 12).foldl
        (fun (s : State) g =>
          let w := fieldLE f (4 * g) 4
          (s.setReg (O.GPIO_CONFIG (12 * locQuad l + g)) w).setReg (O.GPIO_IDELAY (12 * locQuad l + g)) (bits w 25 19)) s2
    | _ => s2

/-! ### Firmware images (*Table 2.19*, R69) -/

/-- Whether MAGIC, CODE_LEN and SIGNATURE of a firmware image check. -/
def State.firmwareOk (s : State) (img : List Byte) : Bool :=
  let n := fieldLE img 8 4
  fieldLE img 0 4 == 0x5746434D && img.length == 64 + n && hmac (s.image O.KEYS_KEY_FIRMWARE) (img.drop 64) == slice 32 32 img

/-! ### The startup payload (R321) -/

/-- Whether masks cover every bit of a set exactly once. -/
def coversOnce (full : Nat) (masks : List Nat) : Bool :=
  (List.range 32).all fun b => masks.countP (fun m => m.testBit b) == b2n (full.testBit b)

/-- Arguments of the steps of an operation. -/
def stepArgs (l : List Nat) (op : Nat) : List Nat := l.filterMap fun w => if bits w 31 28 = op then some (bits w 27 0) else none

/-- Whether a startup step holds a reserved value. -/
def stepReserved (w : Nat) : Bool :=
  let a := bits w 27 0
  match bits w 31 28 with
  | 0 => a != 0
  | 1 => bits a 7 5 != 0
  | 2 => decide (2 ^ 20 ≤ a) || a == 0
  | 3 => decide (16 ≤ a)
  | 4 => decide (16 ≤ a)
  | 5 => decide (16 ≤ a)
  | 6 => decide (4 ≤ a)
  | 7 => decide (4 ≤ a)
  | 8 => a != 0
  | _ => true

/-- Whether a startup program keeps the rules that do not depend on the firmware in the stream. -/
def startupOk (l : List Nat) : Bool :=
  !l.any stepReserved && (stepArgs l 0).length == 1 && l.getLast? == some 0 && coversOnce 0xF (stepArgs l 3) && coversOnce 0xF (stepArgs l 4) &&
    coversOnce 0xF (stepArgs l 5) && coversOnce 3 (stepArgs l 6) && (stepArgs l 8).length == 1 &&
    (stepArgs l 7).any (· != 0) && (List.range 2).all fun b => decide ((stepArgs l 7).countP (fun m => m.testBit b) ≤ 1)

/-- The default program for the controllers that a stream loads. -/
def startupDefault (fw : Nat) : List Nat :=
  [0x1000001F + 100000 * 256, 0x3000000F, 0x4000000F, 0x5000000F, 0x70000000 + fw, 0x60000003, 0x80000000, 0x00000000]

/-! ### Taking words -/

/-- Where a stream goes: the full stream of the configuration port, or the partial stream of a Paddock. -/
abbrev Target := Option Nat

/-- What taking a word comes to: the loader goes on, or a stream error of *Table 11.6* with the locator it names. -/
inductive Took where
  | on (d : Loader) (s : State)
  | err (cause addr : Nat) (s : State)

/-- The locator a stream error names where no frame is involved. -/
def Loader.addr (d : Loader) : Nat := d.loc.getD 0xFFFFFFFF

/-- Write one frame of 80 words at LOC (R314, R315, R325). -/
def State.writeFrame (s : State) (tg : Target) (d : Loader) (ws : List Nat) : Took :=
  match d.loc with
  | none => .err 4 d.addr s
  | some l0 =>
    let l := l0 / 256 * 256
    let img := ws.flatMap (leBytes 4)
    let outside := match tg with
      | some p => !inPaddock p l
      | none => false
    if outside then .err 5 l s
    else if !locValid l then .err 4 l s
    else if frameReserved l img then .err 12 l s
    else .on { d with loc := locNext l } (s.putFrame tg.isSome l img)

/-- Write a frame to n addresses, up to the first error. -/
def State.writeMany (s : State) (tg : Target) (d : Loader) (ws : List Nat) : Nat → Took
  | 0 => .on d s
  | n + 1 =>
    match s.writeFrame tg d ws with
    | .on d1 s1 => s1.writeMany tg d1 ws n
    | e => e

/-- Words of a compressed frame once its three mask words are known (R316). -/
def zNeed (masks : List Nat) : Nat :=
  3 + (List.range 80).countP fun i => (masks.getD (i / 32) 0).testBit (i % 32)

/-- The frame of a compressed frame: masks, then literals in order. -/
def zFrame (masks lits : List Nat) : List Nat :=
  ((List.range 80).foldl
    (fun (acc : List Nat × List Nat) i =>
      if (masks.getD (i / 32) 0).testBit (i % 32) then (acc.2.headD 0 :: acc.1, acc.2.drop 1) else (0 :: acc.1, acc.2)) ([], lits)).1.reverse

/-- The cause that word 0 of a HEADER payload reveals (*Table 11.4*). -/
def headerCause (tg : Target) (w : Nat) : Option Nat :=
  let shape := match tg with
    | none => bits w 15 8 == 0 && bits w 7 0 == 0xFF
    | some _ => bits w 15 8 == 1 && decide (bits w 7 0 ≤ 23)
  if bits w 31 16 ≠ 1 ∨ !shape then some 1 else if tg.any (fun p => p != bits w 7 0) then some 10 else none

/-- The cause that word 0 of an FWLOAD payload reveals: a COUNT that does not fit BYTES, a TARGET that is none, a second load. -/
def Loader.firmwareCause (d : Loader) (w : Nat) : Option Nat :=
  let x := w % 4
  if d.count ≠ 1 + (bits w 31 8 + 3) / 4 then some 3
  else if x = 0 ∨ x = 3 then some 9
  else if d.firmware.testBit (x - 1) then some 2
  else none

/-- The cause that a payload word of a HEADER or an FWLOAD reveals as it comes; `d` has taken the word (R318). -/
def State.wordCause (s : State) (tg : Target) (d : Loader) (w : Nat) : Option Nat :=
  let serial := s.reg O.ID_SERIAL
  match d.cmd, d.buf with
  | 1, [_] => headerCause tg w
  | 1, [_, _, _] => if w ≠ 0 ∧ w ≠ serial % 2 ^ 32 then some 7 else none
  | 1, [_, lo, _, _] => if lo + w * 2 ^ 32 ≠ 0 ∧ lo + w * 2 ^ 32 ≠ serial then some 7 else none
  | 8, [_] => d.firmwareCause w
  | _, _ => none

/-- The last word of an FWLOAD: the image is checked and loaded (R319). -/
def State.takeFirmware (s : State) (d : Loader) (ws : List Nat) : Took :=
  let w := ws.headD 0
  let n := bits w 31 8
  let x := w % 4
  let img := (ws.drop 1).flatMap (leBytes 4)
  if !s.firmwareOk (img.take n) then .err 9 d.addr s
  else .on { d with firmware := d.firmware + 2 ^ (x - 1) } (s.setImage (O.MC_IMAGE (x - 1)) (img.take n))

/-- A packet header word (*Table 11.3*). -/
def State.takePacket (s : State) (tg : Target) (d0 : Loader) (w : Nat) : Took :=
  let cmd := w / 2 ^ 24
  let n := w % 2 ^ 24
  let d := { d0 with cmd := cmd, count := n, left := n, buf := [], afterCrc := false }
  let len := match cmd with
    | 0 => n == 0
    | 1 => n == 4
    | 2 => n == 1
    | 3 => n % 80 == 0
    | 4 => n == 81
    | 5 => decide (3 ≤ n)
    | 6 => n == 1
    | 7 => decide (1 ≤ n) && decide (n ≤ 32)
    | 8 => decide (1 ≤ n)
    | _ => n == 0
  if !d0.header ∧ cmd ≠ 1 then .err 1 d.addr s
  else if d0.header ∧ cmd = 1 then .err 1 d.addr s
  else if cmd = 9 ∨ 10 < cmd ∨ ((cmd = 7 ∨ cmd = 8) ∧ tg.isSome) ∨ (cmd = 7 ∧ d0.startup.isSome) then .err 2 d.addr s
  else if !len then .err 3 d.addr s
  else if cmd = 10 then
    if !d0.afterCrc then .err 11 d.addr s
    else
      let noFw := fun (l : List Nat) => (stepArgs l 7).any fun m => decide (m &&& (3 - d.firmware) ≠ 0)
      if tg.isNone && (match d.startup with
          | some l => noFw l
          | none => d.firmware == 0) then .err 8 d.addr s
      else .on { d with sealed := true } s
  else .on d s

/-- The last word of a packet's payload. -/
def State.endPacket (s : State) (d : Loader) : Took :=
  let ws := d.buf.reverse
  match d.cmd with
  | 1 => .on { d with header := true, id := ws.getD 1 0 } s
  | 2 => .on { d with loc := some (ws.headD 0) } s
  | 5 => if d.buf = [] then .on d s else .err 3 d.addr s
  | 7 => if startupOk ws then .on { d with startup := some ws } s else .err 8 d.addr s
  | 8 => s.takeFirmware d ws
  | _ => .on d s

/-- One payload word: whole frames are written as they are complete. -/
def State.takePayload (s : State) (tg : Target) (d0 : Loader) (w : Nat) : Took :=
  let d := { d0 with left := d0.left - 1, buf := w :: d0.buf }
  let unit_ :=
    match d.cmd with
    | 3 => if d.buf.length = 80 then s.writeFrame tg { d with buf := [] } d.buf.reverse else .on d s
    | 4 =>
      let ws := d.buf.reverse
      if d.buf.length = 1 ∧ w % 2 ^ 24 = 0 then .err 3 d.addr s
      else if d.buf.length = 81 then s.writeMany tg { d with buf := [] } (ws.drop 1) (ws.headD 0 % 2 ^ 24)
      else .on d s
    | 5 =>
      let ws := d.buf.reverse
      if 3 ≤ ws.length ∧ ws.length = zNeed (ws.take 3) then s.writeFrame tg { d with buf := [] } (zFrame (ws.take 3) (ws.drop 3)) else .on d s
    | _ => .on d s
  match s.wordCause tg d w with
  | some cause => .err cause d.addr s
  | none =>
    match unit_ with
    | .on d1 s1 => if d1.left = 0 then s1.endPacket d1 else .on d1 s1
    | e => e

/-- Take one word after SYNC (R317: the CRC covers every word but those of CRC packets). -/
def State.takeWord (s : State) (tg : Target) (d0 : Loader) (w : Nat) : Took :=
  let d := { d0 with words := d0.words + 1 }
  if d.sealed then .err 11 d.addr s
  else if d.left = 0 then
    if w / 2 ^ 24 = 6 then s.takePacket tg d w
    else s.takePacket tg { d with crc := (leBytes 4 w).foldl crc32Byte d.crc } w
  else if d.cmd = 6 then
    if d.crc ^^^ 0xFFFFFFFF = w then .on { d with left := 0, crc := 0xFFFFFFFF, afterCrc := true } s else .err 6 d.addr s
  else s.takePayload tg { d with crc := (leBytes 4 w).foldl crc32Byte d.crc } w

/-- Take words up to the first error; an error keeps the loader as it stood for its word offset. -/
def State.takeWords (s : State) (tg : Target) (d : Loader) : List Nat → Took × Loader
  | [] => (.on d s, d)
  | w :: r =>
    match s.takeWord tg d w with
    | .on d1 s1 => s1.takeWords tg d1 r
    | e => (e, d)

/-! ### The full stream at the configuration port (R308 to R319) -/

def State.setCfg (s : State) (c : CfgPort) : State := { s with cfg := c }

/-- A stream error in the full stream (R318): it is recorded, and clearing begins. -/
def State.fullError (s : State) (cause addr word : Nat) : State :=
  let s1 := ((((s.bump O.CFG_STREAM_ERRORS 1).setReg O.CFG_LAST_ERR_CAUSE cause).setReg O.CFG_LAST_ERR_ADDR addr).setReg O.CFG_LAST_ERR_WORD
    word).setReg O.CFG_CFG_STATE 0
  s1.setCfg { s1.cfg with errLow := true, initLow := true }

/-- The configuration memory is cleared: every frame, memory word and firmware image (R318). -/
def State.clearConfig (s : State) : State :=
  let s1 := { s with live := [], shadow := [], refs := [], bram := [], bramUpset := [], ffs := [], wregs := [], macs := [] }
  let s2 := (s1.setImage (O.MC_IMAGE 0) []).setImage (O.MC_IMAGE 1) []
  (List.range 48).foldl (fun (s : State) g => (s.setReg (O.GPIO_CONFIG g) 0x00010000).setReg (O.GPIO_IDELAY g) 0) s2

/-- Whether the configuration port takes words in a state. -/
def State.portTakes (s : State) (st : Nat) : Bool := s.reg O.CFG_CFG_STATE == st && s.reg O.CFG_CFG_MODE ≤ 1

/-- The frames of an audit region in their order: a Paddock's (bit 5: its shadow plane), or a quadrant's static region (R330). -/
def auditLocs (region : Nat) : List Nat :=
  let r := region % 32
  if r < 24 then
    let c0 := if r % 2 = 0 then 0 else 104
    (List.range 48).flatMap fun c => (List.range 64).map fun i => mkLoc (c0 + c) (64 * (r % 6 / 2) + i) 0 (r / 6) 0
  else ((List.range 56).flatMap fun c => (List.range 192).map fun i => mkLoc (48 + c) i 0 (r - 24) 0) ++ [mkLoc 0 0 0 (r - 24) 2]

/-- The CRC-32 of a plane's frames, given by their locators. -/
def framesCrc (f : Nat → List Byte) (region : Nat) : Nat := ((auditLocs region).foldl (fun r l => (f l).foldl crc32Byte r) 0xFFFFFFFF) ^^^ 0xFFFFFFFF

/-- The CRC of a plane as its cells stand. -/
def State.planeCrc (s : State) (region : Nat) : Nat := framesCrc (s.frame (region.testBit 5)) region

/-- The reference of a plane: as it was computed when its frames were complete, or that of an unconfigured plane. -/
def State.auditRef (s : State) (region : Nat) : Nat := Tbl.get (framesCrc frameDefault region) s.refs region
def State.setRef (s : State) (region v : Nat) : State := { s with refs := Tbl.set (framesCrc frameDefault region) s.refs region v }

/-- A full stream's SEAL: the references of the live planes are computed, and the startup program begins (R311, R321, R330). -/
def State.sealFull (s0 : State) (d : Loader) : State :=
  let s := (List.range 28).foldl (fun (s : State) r => s.setRef r (s.planeCrc r)) s0
  let p := match d.startup with
    | some l => l
    | none => startupDefault d.firmware
  ((s.setReg O.CFG_CFG_STATE 3).setReg O.CFG_STATIC_ID d.id).setCfg
    { s.cfg with loader := d, doutLow := true, program := p, step := 0, stepAt := s.now }

/-- The loader takes a whole word of a stream in progress at the port. -/
def State.portWord (s : State) (w : Nat) : State :=
  let d := s.cfg.loader
  match s.takeWord none d w with
  | .on d1 s1 => if d1.sealed then s1.sealFull d1 else s1.setCfg { s1.cfg with loader := d1 }
  | .err cause addr s1 => s1.fullError cause addr (d.words + 1)

/-- SYNC. -/
def syncWord : Nat := 0x5A3C96E1

/-- SYNC is found: packets are taken, and CFG_ERR_N goes high (R312, R318). -/
def State.syncFound (s : State) : State :=
  (s.setReg O.CFG_CFG_STATE 2).setCfg { s.cfg with loader := {}, nibs := [], errLow := false }

/-- Nibbles, newest first, as a word whose most significant nibble came first (R309). -/
def nibWord (l : List Nat) : Nat := l.foldr (fun x n => n * 16 + x) 0

/-- A rising edge of CFG_CLK: where the device is selected, the word or the nibble on CFG_D is taken. While SYNC is sought every word is
tested, and in serial mode every nibble position (R309, R312). -/
def State.portEdge (s : State) (e : PortEdge) : State :=
  let v := e.d.toNat
  let serial := s.reg O.CFG_CFG_MODE == 0
  if e.csN then s
  else if s.portTakes 1 then
    if serial then
      let l := (v % 16 :: s.cfg.nibs).take 8
      if nibWord l = syncWord then s.syncFound else s.setCfg { s.cfg with nibs := l }
    else if v = syncWord then s.syncFound
    else s
  else if s.portTakes 2 then
    if serial then
      let l := v % 16 :: s.cfg.nibs
      if l.length < 8 then s.setCfg { s.cfg with nibs := l } else (s.setCfg { s.cfg with nibs := [] }).portWord (nibWord l)
    else s.portWord v
  else s

/-- CFG_BUSY, `none` while the device is not selected. It is high while the memory is cleared after a stream error; its other two causes
end within the command (R310). -/
def State.cfgBusy (s : State) (csN : Bool) : Option Bool := if csN then none else some (s.reg O.CFG_CFG_STATE == 0 && s.cfg.errLow)

/-- The command of the packet that a run of edges goes on with: that in progress, or that of the header word the edges bring. -/
def State.busCmd (s : State) (bus : List PortEdge) : Option Nat :=
  let taken := bus.filterMap fun e => if e.csN then none else some e.d.toNat
  if s.cfg.loader.left ≠ 0 then some s.cfg.loader.cmd
  else if s.reg O.CFG_CFG_MODE = 0 then
    (let l := s.cfg.nibs.reverse ++ taken.map (· % 16)
     if l.length < 8 then none else some (nibWord (l.take 8).reverse / 2 ^ 24))
  else taken.head?.map (· / 2 ^ 24)

/-- A run of edges that goes on with a packet of a stream in progress, of a command named. -/
def State.portRun (s : State) (cmd : Nat → Bool) (bus : List PortEdge) : State :=
  if s.portTakes 2 ∧ (s.busCmd bus).all cmd then bus.foldl State.portEdge s else s

/-- SYNC: edges at the port while the loader searches for the SYNC word. -/
def execSync (t : Nat) (bus : List PortEdge) (s : State) : Host.Outcome State Fault Refusal :=
  let s1 := s.tickTo t
  .next (if s1.portTakes 1 then bus.foldl State.portEdge s1 else s1)

/-- HEADER; also any packet of a reserved command. -/
def execHeader (t : Nat) (bus : List PortEdge) (s : State) : Host.Outcome State Fault Refusal :=
  .next ((s.tickTo t).portRun (fun c => c == 1 || c == 9 || decide (10 < c)) bus)

/-- LOCATE. -/
def execLocate (t : Nat) (bus : List PortEdge) (s : State) : Host.Outcome State Fault Refusal := .next ((s.tickTo t).portRun (· == 2) bus)

/-- WRITE. -/
def execWriteFrames (t : Nat) (bus : List PortEdge) (s : State) : Host.Outcome State Fault Refusal := .next ((s.tickTo t).portRun (· == 3) bus)

/-- REPEAT. -/
def execRepeat (t : Nat) (bus : List PortEdge) (s : State) : Host.Outcome State Fault Refusal := .next ((s.tickTo t).portRun (· == 4) bus)

/-- ZWRITE. -/
def execZwrite (t : Nat) (bus : List PortEdge) (s : State) : Host.Outcome State Fault Refusal := .next ((s.tickTo t).portRun (· == 5) bus)

/-- CRC. -/
def execCrc (t : Nat) (bus : List PortEdge) (s : State) : Host.Outcome State Fault Refusal := .next ((s.tickTo t).portRun (· == 6) bus)

/-- STARTUP. -/
def execStartup (t : Nat) (bus : List PortEdge) (s : State) : Host.Outcome State Fault Refusal := .next ((s.tickTo t).portRun (· == 7) bus)

/-- FWLOAD. -/
def execFwload (t : Nat) (bus : List PortEdge) (s : State) : Host.Outcome State Fault Refusal := .next ((s.tickTo t).portRun (· == 8) bus)

/-- SEAL. -/
def execSeal (t : Nat) (bus : List PortEdge) (s : State) : Host.Outcome State Fault Refusal := .next ((s.tickTo t).portRun (· == 10) bus)

/-- NOP. -/
def execNop (t : Nat) (bus : List PortEdge) (s : State) : Host.Outcome State Fault Refusal := .next ((s.tickTo t).portRun (· == 0) bus)

/-- CONFIG_CLEAR_DONE: clearing after a stream error ends; the loader searches for SYNC again (R318). -/
def execConfigClearDone (t : Nat) (s : State) : Host.Outcome State Fault Refusal :=
  let s1 := s.tickTo t
  .next
    (if s1.reg O.CFG_CFG_STATE ≠ 0 ∨ !s1.cfg.errLow then s1
     else (s1.clearConfig.setReg O.CFG_CFG_STATE 1).setCfg { s1.cfg with loader := {}, nibs := [], initLow := false })

/-! ### Partial streams (R323 to R325) -/

def State.pad (s : State) (p : Nat) : Pad := Tbl.get {} s.pads p
def State.setPad (s : State) (p : Nat) (x : Pad) : State := { s with pads := Tbl.set {} s.pads p x }

/-- The shed of a Paddock (R405). -/
def padShed (p : Nat) : Nat := quadStop (p / 6) (13 + p % 6)

/-- The shadow plane of a Paddock returns to the unconfigured state. -/
def State.clearShadow (s : State) (p : Nat) : State :=
  { s with shadow := s.shadow.filter (fun e => !inPaddock p e.1), refs := s.refs.filter fun e => e.1 != 32 + p }

/-- An open of STREAM (R323): its own statuses, and the clear that it starts. -/
def State.streamOpen (s : State) (p : Nat) : Status × State :=
  if s.reg (O.PAD_SHADOW_STATE p) = 2 ∨ (s.sched .swap p).isSome then (.busy, s)
  else if !s.shedOn (padShed p) then (.fenced, s)
  else (.okay, ((s.clearShadow p).setPad p { s.pad p with loader := {}, clearing := true, fed := 0 }).setReg (O.PAD_SHADOW_STATE p) 1)

/-- A partial stream ends with nothing committed: the shadow plane is discarded (R323). -/
def State.dropShadow (s : State) (p : Nat) : State :=
  (((s.clearShadow p).setPad p { s.pad p with loader := {}, clearing := false, fed := 0 }).setReg (O.PAD_SHADOW_STATE p) 0).setReg (O.PAD_SHADOW_ID p) 0

/-- A stream error in a partial stream (R325). -/
def State.partialError (s : State) (p cause addr : Nat) : State :=
  let s1 := ((((s.setXfer (O.PAD_STREAM p) none).dropShadow p).bump O.KISKO_SEG_ABORTS 1).setReg (O.PAD_ABORT_CAUSE p) cause).setReg (O.PAD_ABORT_ADDR p) addr
  let s2 := s1.setFlag (O.PAD_ABORTED p) 0 (O.PAD_ABORT_COUNT p) 1
  if cause = 5 then s2.bump (O.PAD_OOR_COUNT p) 1 else s2

/-- The loader takes what has come of a partial stream; ABORTED at its first error. A segment that comes during the clear completes after
it (R323): the clear has ended. -/
def State.streamPump (s0 : State) (p : Nat) : Status × State :=
  let s := s0.setPad p { s0.pad p with clearing := false }
  match s.xfer (O.PAD_STREAM p) with
  | none => (.okay, s)
  | some x =>
    let y := s.pad p
    let b := x.data.drop y.fed
    let n := b.length / 4
    let ws := (List.range n).map fun i => fieldLE b (4 * i) 4
    let go := fun (s : State) (d : Loader) (ws : List Nat) =>
      match s.takeWords (some p) d ws with
      | (.on d1 s1, _) => (Status.okay, s1.setPad p { s1.pad p with loader := d1, fed := y.fed + 4 * n })
      | (.err cause addr s1, _) => (Status.aborted, s1.partialError p cause addr)
    match ws with
    | [] => (.okay, s)
    | w :: r =>
      if y.fed = 0 then (if w = syncWord then go s y.loader r else (.aborted, s.partialError p 1 y.loader.addr)) else go s y.loader ws

/-- The owner of STREAM at a commit (R323). -/
def ownStream (p : Nat) : ImgOwner := unscheduled fun img s =>
  match (s.setXfer (O.PAD_STREAM p) (some ⟨.debugPort, img.length, img, s.now⟩)).streamPump p with
  | (.okay, s1) =>
    let d := (s1.pad p).loader
    if d.sealed ∧ img.length % 4 = 0 then
      (.okay,
        ((((s1.setXfer (O.PAD_STREAM p) none).setPad p { s1.pad p with loader := {}, fed := 0 }).setRef (32 + p) (s1.planeCrc (32 + p))).setReg
          (O.PAD_SHADOW_STATE p) 2).setReg (O.PAD_SHADOW_ID p) d.id)
    else (.aborted, s1.partialError p (if d.sealed ∨ d.left = 0 then 11 else 3) d.addr)
  | r => r

/-- A commit of STREAM that has ended with nothing loaded leaves the shadow plane empty (R323). -/
def State.settleShadow (s : State) (p : Nat) : State :=
  if s.reg (O.PAD_SHADOW_STATE p) = 1 ∧ (s.xfer (O.PAD_STREAM p)).isNone then s.dropShadow p else s

/-- SHADOW_CLEAR_DONE: the clear ends (R323). -/
def execShadowClearDone (t : Nat) (p : Fin 24) (s : State) : Host.Outcome State Fault Refusal :=
  let s1 := s.tickTo t
  .next (s1.setPad p.val { s1.pad p.val with clearing := false })

/-- The owner of SHADOW_DISCARD (R323, R329). -/
def ownShadowDiscard (p : Nat) : Owner := command fun s =>
  if (s.sched .swap p).isSome then (.busy, s)
  else if s.reg (O.PAD_SHADOW_STATE p) ≠ 2 then (.refused, s)
  else (.okay, s.dropShadow p)

/-- SHADOW_DISCARD. -/
def execShadowDiscard (t : Nat) (r : Requester) (p : Fin 24) (v : Bool) (s : State) : Host.Outcome State Fault Refusal :=
  .next ((s.tickTo t).writeObj r (O.PAD_SHADOW_DISCARD p.val) (b2n v) (ownShadowDiscard p.val))

/-! ### The swap (R326 to R329) -/

/-- The owner of SWAP_ARM. -/
def ownSwapArm (p : Nat) : Owner := arming (O.PAD_SWAP_AT p) false fun s =>
  if (s.sched .swap p).isSome then (.busy, s)
  else if s.reg (O.PAD_SHADOW_STATE p) ≠ 2 then (.refused, s)
  else s.armAction .swap p (s.reg (O.PAD_SWAP_AT p)) 0

/-- SWAP_ARM. -/
def execSwapArm (t : Nat) (r : Requester) (p : Fin 24) (v : Bool) (s : State) : Host.Outcome State Fault Refusal :=
  .next ((s.tickTo t).writeObj r (O.PAD_SWAP_ARM p.val) (b2n v) (ownSwapArm p.val))

/-- The owner of SWAP_CANCEL (R87). -/
def ownSwapCancel (p : Nat) : Owner := command fun s => s.cancelAction .swap p

/-- SWAP_CANCEL. -/
def execSwapCancel (t : Nat) (r : Requester) (p : Fin 24) (v : Bool) (s : State) : Host.Outcome State Fault Refusal :=
  .next ((s.tickTo t).writeObj r (O.PAD_SWAP_CANCEL p.val) (b2n v) (ownSwapCancel p.val))

/-- Registers of fabric logic in the tiles that a test of their locators names hold their first values. -/
def State.dropLogic (s : State) (f : Nat → Bool) : State :=
  { s with
    ffs := s.ffs.filter (fun e => !f (e.1 / 32 * 1024)), wregs := s.wregs.filter (fun e => !f (e.1 / 32 * 1024)),
    macs := s.macs.filter fun e => !f (e.1 * 1024) }

/-- The references of the two planes of a Paddock exchange. -/
def State.swapRefs (s : State) (p : Nat) : State := (s.setRef p (s.auditRef (32 + p))).setRef (32 + p) (s.auditRef p)

/-- Exchange the two planes of a Paddock, and their references (R327). -/
def State.exchange (s : State) (p : Nat) : State :=
  let mine := fun (e : Nat × List Byte) => inPaddock p e.1
  let merge := fun (keep add : Tbl (List Byte)) => (add.filter mine).foldl (fun m e => Tbl.set (frameDefault e.1) m e.1 e.2) (keep.filter fun e => !mine e)
  { s with live := merge s.live s.shadow, shadow := merge s.shadow s.live }.swapRefs p

/-- Numbers of a Paddock's block memories. -/
def padMems (p : Nat) : List Nat :=
  let cols := if p % 2 = 0 then [12, 24, 36, 47] else [104, 115, 127, 139]
  cols.flatMap fun c => (List.range 16).map fun i => memId (p / 6) c (64 * (p % 6 / 2) + 4 * i)

/-- The configuration word of a block memory in force (*Table 10.9*). -/
def State.memCfg (s : State) (m : Nat) : Nat := fieldLE (s.frame false (memLoc m 0 0)) 0 8

/-- Load a memory's contents from the live plane. -/
def State.reloadMem (s : State) (m : Nat) : State :=
  (List.range 16).foldl (fun (s : State) seg => s.loadSegment (memLoc m seg 1) (s.frame false (memLoc m seg 1))) s

/-- The audit of either plane of a Paddock that meets a swap completes with ABORTED (R329). -/
def State.abortAudit (s : State) (p : Nat) : State :=
  let hit := fun (a : Option Audit) => a.any fun x => x.region % 32 == p
  let s1 := if hit s.hostAudit then ({ s with hostAudit := none }.setReg O.AUD_AUDIT_STATUS Status.aborted.code) else s
  let s2 := if hit s1.autoAudit then { s1 with autoAudit := none } else s1
  s2.setReg O.AUD_AUDIT_STATE (if s2.hostAudit.isSome then 1 else if s2.autoAudit.isSome then 2 else 0)

/-! ### The audit (R330, R331) -/

/-- How long an audit takes (R330). -/
def auditUnits (region : Nat) : Nat := (auditLocs region).length * 100 * Config.nsUnits

/-- The owner of AUDIT_START: it starts once an automatic audit in progress is done. -/
def ownAuditStart : Owner := command fun s =>
  let r := s.reg O.AUD_AUDIT_REGION
  if s.hostAudit.isSome then (.busy, s)
  else
    let at_ := match s.autoAudit with
      | some a => max s.now (a.start + auditUnits a.region)
      | none => s.now
    (.okay, ({ s with hostAudit := some ⟨r, at_⟩ }).setReg O.AUD_AUDIT_STATE 1)

/-- AUDIT_START. -/
def execAuditStart (t : Nat) (r : Requester) (v : Bool) (s : State) : Host.Outcome State Fault Refusal :=
  .next ((s.tickTo t).writeObj r O.AUD_AUDIT_START (b2n v) ownAuditStart)

/-- The owner of AUDIT_REGION: 28 to 31 are reserved, and a static region has no shadow plane. -/
def ownAuditRegion : Owner := fun v s =>
  if v % 32 ≥ 28 ∨ (v % 32 ≥ 24 ∧ v.testBit 5) then (.refused, s) else (.okay, s.setReg O.AUD_AUDIT_REGION v)

/-- An audit ends with the CRC it read back. -/
def State.auditEnd (s : State) (region crc : Nat) : State :=
  let s1 := s.bump O.AUD_AUDITS 1
  if crc = s.auditRef region then s1 else (s1.setFlag O.AUD_AUDIT_MISMATCH 0 O.AUD_AUDIT_MISMATCH_COUNT 1).fault 8

/-- AUDIT_COMPLETE: the audit in progress ends, an automatic one first. `changed` names the CRC that the cells give where they no
longer hold what was loaded. -/
def execAuditComplete (t : Nat) (changed : Option (BitVec 32)) (s : State) : Host.Outcome State Fault Refusal :=
  let s1 := s.tickTo t
  let crc := fun (region : Nat) => match changed with
    | some c => c.toNat
    | none => s1.planeCrc region
  .next
    (match s1.autoAudit, s1.hostAudit with
     | some a, h =>
       if s1.now < a.start + auditUnits a.region then s1
       else ({ s1 with autoAudit := none }.auditEnd a.region (crc a.region)).setReg O.AUD_AUDIT_STATE (if h.isSome then 1 else 0)
     | none, some a =>
       if s1.now < a.start + auditUnits a.region then s1
       else
         let s2 := { s1 with hostAudit := none }.auditEnd a.region (crc a.region)
         ((s2.setReg O.AUD_AUDIT_STATE 0).setReg O.AUD_AUDIT_STATUS Status.okay.code).setReg O.AUD_AUDIT_CRC (crc a.region)
     | none, none => s1)

/-- AUTO_AUDIT: every AUTO_PERIOD ms the next live region is audited (R331). -/
def execAutoAudit (t : Nat) (s : State) : Host.Outcome State Fault Refusal :=
  let s1 := s.tickTo t
  let n := s1.reg O.AUD_AUTO_PERIOD
  .next
    (if n = 0 ∨ s1.now < s1.autoAt + n * Config.msUnits ∨ s1.hostAudit.isSome ∨ s1.autoAudit.isSome then s1
     else ({ s1 with autoAudit := some ⟨s1.autoNext, s1.now⟩, autoNext := (s1.autoNext + 1) % 28, autoAt := s1.now }).setReg O.AUD_AUDIT_STATE 2)

end Sys2Proof.Machine
end

