-- ==== Sys2Proof/Machine/Fabric.lean ====
section
/-! DEFINITION. The blocks at the ports of the programmable fabric (R295 to R307): block memories, fabric lane ports, queue ports, probe
sources and input delays. -/

namespace Sys2Proof.Machine

/-! ### Clocks of fabric places (R286, R292) -/

/-- The clock domain that a CLKSEL code names at a place (*Table 10.4*). -/
def clockOf (code quad col row : Nat) : Option Nat :=
  if code < 16 then some (340 + code) else if code = 16 then (paddockOf quad col row).map (356 + ·) else none

/-- The shed that holds a place of the fabric (R405). -/
def placeShed (quad col row : Nat) : Nat :=
  match paddockOf quad col row with
  | some p => padShed p
  | none => quadStop quad 19

/-- Whether a unit at a place is clocked: its clock runs and its shed is ON. -/
def State.placeRuns (s : State) (clock : Option Nat) (quad col row : Nat) : Bool :=
  clock.any s.domainRunning && s.shedOn (placeShed quad col row)

/-- Whether flip-flops and wire registers at a place run: they are clocked, and the global set/reset of their quadrant is released
(R320). -/
def State.unitRuns (s : State) (clock : Option Nat) (quad col row : Nat) : Bool :=
  s.placeRuns clock quad col row && (s.reg O.CFG_RELEASED).testBit quad

/-- The clock that the CLKSEL of a tile's control word names, and whether it is the falling edge. -/
def State.tileClock (s : State) (quad col row : Nat) : Option Nat × Bool :=
  let ctl := fieldLE (s.frame false (mkLoc col row 0 quad 0)) 160 4
  (clockOf (bits ctl 31 27) quad col row, ctl.testBit 26)

/-- Edges of a clock of f kHz in an interval after `a` up to `b`, in units of 0.5 ps; `half` for falling edges. Clocks are in step with TT. -/
def edgesIn (khz a b : Nat) (half : Bool) : List Nat :=
  let period := 2 * 10 ^ 9
  let h := b2n half
  let upTo := fun (t : Nat) => (2 * t * khz + period * h) / (2 * period) + (1 - h)
  (List.range (upTo b - upTo a)).map fun i => (period * (2 * (upTo a + i) + h) + 2 * khz - 1) / (2 * khz)

/-- Frequency of a fabric clock. -/
def State.fabricKhz (s : State) (d : Nat) : Nat := if d < 356 then s.srcKhz (s.reg (O.GCLK_SRC (d - 340))) else s.regionalKhz (d - 356)

/-- Whether the present instant is an edge of a clock, of the kind that a place takes, while the place is clocked. -/
def State.edgeNow (s : State) (clock : Option Nat × Bool) (quad col row : Nat) : Bool :=
  s.placeRuns clock.1 quad col row && clock.1.any fun d => !(edgesIn (s.fabricKhz d) (s.now - 1) s.now clock.2).isEmpty

/-- Whether the present instant is an edge of the clock of the unit whose lowest tile is at a place (R292). -/
def State.tileEdgeNow (s : State) (quad col row : Nat) : Bool := s.edgeNow (s.tileClock quad col row) quad col row

/-! ### Block memories (R295 to R298) -/

/-- Bits of a port word by WIDTH code. -/
def bmWidth (code : Nat) : Nat := [1, 2, 4, 9, 18, 36, 72].getD code 1

/-- Where a port word lies: its internal word, and the place in it of the port word's bit 0 counted in port bits. The bits of the
widths below ×9 lie in the lower eight of each lane of nine (PRESUMED, notes/assumptions). -/
def bmPlace (code addr : Nat) : Nat × Nat :=
  let w := bmWidth code
  let per := (if w < 9 then 64 else 72) / w
  (addr % (512 * per) / per, addr % per * w)

/-- The internal bit of bit `i`, counted in port bits. -/
def bmBit (code i : Nat) : Nat := if bmWidth code < 9 then 9 * (i / 8) + i % 8 else i

/-- A port word out of an internal word. -/
def bmTake (code off v : Nat) : Nat :=
  (List.range (bmWidth code)).foldl (fun n i => n + b2n (v.testBit (bmBit code (off + i))) * 2 ^ i) 0

/-- The internal bits that a port word's enabled lanes write, and their values. -/
def bmPut (code off din we : Nat) : Nat × Nat :=
  (List.range (bmWidth code)).foldl
    (fun (m, v) i =>
      if we.testBit (if bmWidth code < 9 then 0 else i / 9) then
        (m + 2 ^ bmBit code (off + i), v + b2n (din.testBit i) * 2 ^ bmBit code (off + i))
      else (m, v)) (0, 0)

/-- The 72 bits of an internal word as it was last written, and its upset bits of 80. -/
def State.bmWord (s : State) (m w : Nat) : Nat × Nat := (Tbl.get 0 s.bram (m * 512 + w), Tbl.get 0 s.bramUpset (m * 512 + w))

/-- How many of the 80 bits of a word are upset. -/
def upsetCount (u : Nat) : Nat := (List.range 80).countP fun b => u.testBit b

/-- What a read of a word gives (R296): the data, SBE and DBE. -/
def bmRead (x : Nat × Nat) : Nat × Bool × Bool :=
  match upsetCount x.2 with
  | 0 => (x.1, false, false)
  | 1 => (x.1, true, false)
  | _ => (x.1 ^^^ (x.2 % 2 ^ 72), false, true)

/-- A word after a write of some of its bits: it is merged with the corrected word; a word with a double-bit error keeps its error
until all 72 bits are written. -/
def bmMerge (x : Nat × Nat) (mask v : Nat) : Nat × Nat :=
  let merge := fun (d : Nat) => (d &&& ((2 ^ 72 - 1) ^^^ mask)) ||| v
  if mask = 0 then x
  else if upsetCount x.2 ≤ 1 ∨ mask = 2 ^ 72 - 1 then (merge x.1, 0)
  else
    let flips := x.2 % 2 ^ 72
    (merge (x.1 ^^^ flips) ^^^ flips, x.2)

/-- Whether a memory is failed (R298). -/
def State.bmFailed (s : State) (m : Nat) : Bool := imgBit (s.image O.FAB_BM_FAILED) m

/-- A read counts its errors (R296, R383). -/
def State.bmCount (s : State) (sbe dbe failed : Bool) : State :=
  let s1 := if sbe then (s.bump O.FAB_BM_CORRECTED 1).bumpImage O.PATROL_SRAM_CORRECTED 9 1 else s
  if dbe then
    let s2 := (s1.bump O.FAB_BM_UNCORRECTABLE 1).setFlag O.FAB_BM_ERR 0 O.FAB_BM_ERR_COUNT 1
    if failed then s2 else s2.sramBad 9
  else s1

/-- A port at an edge of its clock: what was read, if anything, goes to its outputs, through the output register with OREG. -/
def State.bmShow (s : State) (m port : Nat) (oreg orst : Bool) (rd : Option (Nat × Bool × Bool)) : State :=
  let o0 := Tbl.get ({} : BmOut) s.bramOut (m * 2 + port)
  let o : BmOut := { o0 with wasAt := s.now, wasDout := o0.dout, wasSbe := o0.sbe, wasDbe := o0.dbe }
  let p : BmOut := match rd with
    | some (d, sb, db) => { o with preDout := d, preSbe := sb, preDbe := db }
    | none => o
  let q : BmOut :=
    if !oreg then { p with dout := p.preDout, sbe := p.preSbe, dbe := p.preDbe }
    else if orst then { p with dout := 0, sbe := false, dbe := false }
    else { p with dout := o.preDout, sbe := o.preSbe, dbe := o.preDbe }
  { s with bramOut := Tbl.set {} s.bramOut (m * 2 + port) q }

/-- What a port does in a cycle: the word it reads or writes, bits and values it writes, and its place for reading. -/
structure BmCycle where
  on : Bool := false
  word : Nat := 0
  off : Nat := 0
  mask : Nat := 0
  val : Nat := 0
  deriving DecidableEq, Repr

/-- The inputs of a block-memory port (R295). -/
structure BmPort where
  addr : Nat
  din : Nat
  we : Nat
  en : Bool
  orst : Bool
  deriving DecidableEq, Repr

/-- A port's cycle for a width below ×72. -/
def bmCycle (code : Nat) (x : BmPort) : BmCycle :=
  if !x.en then {}
  else
    let (w, off) := bmPlace code x.addr
    let (mask, v) := bmPut code off x.din x.we
    { on := true, word := w, off := off, mask := mask, val := v }

/-- What a port's read gives: the word as it stood before where the other port writes it; its own SAR where it writes the address
itself; `none` where DOUT holds (R297). -/
def bmLook (code sar : Nat) (x other : BmCycle) (old new : Nat × Nat) : Option (Nat × Bool × Bool) :=
  let cut := fun (r : Nat × Bool × Bool) => (bmTake code x.off r.1, r.2)
  if !x.on then none
  else if other.mask ≠ 0 ∧ other.word = x.word then some (cut (bmRead old))
  else if x.mask = 0 then some (cut (bmRead old))
  else match sar with
    | 0 => some (cut (bmRead new))
    | 1 => some (cut (bmRead old))
    | _ => none

/-- Write bits of a word. -/
def State.bmWrite (s : State) (m : Nat) (x : BmCycle) : State :=
  if x.mask = 0 then s
  else
    let (d, u) := bmMerge (s.bmWord m x.word) x.mask x.val
    { s with bram := Tbl.set 0 s.bram (m * 512 + x.word) d, bramUpset := Tbl.set 0 s.bramUpset (m * 512 + x.word) u }

/-- One cycle of the ports of a memory whose clocks have an edge: the inputs of both, and which have. ×72 writes at port A's edge with the
upper DIN and WE from port B's inputs, and reads at port B's. -/
def State.bmAccess (s : State) (m : Nat) (a b : BmPort) (onA onB : Bool) : State :=
  let cfg := s.memCfg m
  let wa := bits cfg 58 56
  let wide := wa == 6
  let wb := bits cfg 55 53
  let failed := s.bmFailed m
  let may := (s.reg O.CFG_RELEASED).testBit (4 + m / 576) && !failed
  let x0 : BmCycle :=
    if !onA then {}
    else if wide then
      if !a.en then {}
      else
        let (mask, v) := bmPut 6 0 (a.din % 2 ^ 36 + b.din % 2 ^ 36 * 2 ^ 36) (a.we % 16 + b.we % 16 * 16)
        { on := false, word := a.addr % 512, mask := mask, val := v }
    else bmCycle wa a
  let y0 : BmCycle := if !onB then {} else if wide then { on := b.en, word := b.addr % 512 } else bmCycle wb b
  let x := if may then x0 else { x0 with mask := 0 }
  let y := if may then y0 else { y0 with mask := 0 }
  let same := x.word == y.word
  -- bits written by both ports take port A's data
  let both := if same then x.mask &&& y.mask else 0
  let s1 := (s.bmWrite m { y with mask := y.mask - both, val := y.val &&& (y.mask - both) }).bmWrite m x
  let s2 := if both ≠ 0 then s1.bump O.FAB_BM_COLLISIONS 1 else s1
  let look := fun (code sar : Nat) (p o : BmCycle) =>
    if failed then (if p.on then some (0, false, true) else none) else bmLook code sar p o (s.bmWord m p.word) (s2.bmWord m p.word)
  let ra := look wa (bits cfg 52 51) x y
  let rb := look wb (bits cfg 50 49) y x
  let tell := fun (s : State) (r : Option (Nat × Bool × Bool)) => match r with
    | some (_, sb, db) => s.bmCount sb db failed
    | none => s
  let s3 := tell (tell s2 ra) rb
  if wide then
    if onB then
      (s3.bmShow m 0 (cfg.testBit 48) b.orst (rb.map fun r => (r.1 % 2 ^ 36, false, false))).bmShow m 1 (cfg.testBit 47) b.orst
        (rb.map fun r => (r.1 / 2 ^ 36, r.2))
    else s3
  else
    let s4 := if onA then s3.bmShow m 0 (cfg.testBit 48) a.orst ra else s3
    if onB then s4.bmShow m 1 (cfg.testBit 47) b.orst rb else s4

/-! ### Fabric lane ports (R299, R300) -/

/-- Column and row of a fabric lane port's lowest tile. -/
def flPlace (i : Nat) : Nat × Nat :=
  if i < 16 then (48, 3 * i) else (if (i - 16) / 8 % 2 = 0 then 0 else 151, 64 * ((i - 16) / 16) + 8 * ((i - 16) % 8))

def State.flPort (s : State) (k : Nat) : FlPort := Tbl.get {} s.flPorts k
def State.setFlPort (s : State) (k : Nat) (x : FlPort) : State := { s with flPorts := Tbl.set {} s.flPorts k x }

/-- A lane port's buffer changes: logic finds the old READY up to the present instant. -/
def State.setFlBuf (s : State) (k : Nat) (buf : List (FabricWord × Nat)) (movedAt : Nat) : State :=
  let x := s.flPort k
  s.setFlPort k
    { buf := buf, movedAt := movedAt, wasAt := s.now, wasReady := if x.wasAt = s.now then x.wasReady else decide (x.buf.length < 8) }

/-- READY of a lane port as logic finds it at an instant. -/
def FlPort.ready (x : FlPort) (at_ : Nat) : Bool := if at_ ≤ x.wasAt then x.wasReady else decide (x.buf.length < 8)

/-- The lane word that a buffered word becomes; it is in the FIFOs 3 word clocks on (R17, R157). -/
def flLane (k wc : Nat) (w : FabricWord) : LaneWord :=
  { word := w.word % 2 ^ 64, vecs := if w.stop && w.half then 1 else 2, stop := w.stop, mark0 := w.mark, a0 := w.a0 % 2 ^ 48, p0 := w.p0 % 2 ^ 48,
    a1 := w.a1 % 2 ^ 48, p1 := w.p1 % 2 ^ 48, src := 0x800 + k, inst := (wc + 3) * Config.wordUnits }

/-- The buffer moves at most one word per word clock: to the FIFOs once they have room, or nowhere, and then it is counted. -/
def State.flMove (s : State) (k : Nat) : State :=
  let x := s.flPort k
  let wc := s.now / Config.wordUnits
  match x.buf with
  | [] => s
  | (w, at_) :: rest =>
    if wc < x.movedAt ∨ wc ≤ at_ ∨ !s.laneRoom (0x800 + k) 1 then s
    else
      let s1 := s.setFlBuf k rest (wc + 1)
      if (s.targets (0x800 + k)).isEmpty then s1.bump (O.FP_FL_DISCARDED (k / 64)) 1 else s1.pushLane (flLane k wc w)

/-! ### Queue ports (R303, R304) -/

def State.qport (s : State) (k : Nat) : QPort := Tbl.get {} s.qports k
def State.setQport (s : State) (k : Nat) (p : QPort) : State := { s with qports := Tbl.set {} s.qports k p }

/-- PREADY and the presented granule of a queue port as they stand: fewer than 8 offers in flight, a granule in the ring of the bound
queue, and 4 ns since the last one. -/
def QPort.ready (p : QPort) (at_ : Nat) : Bool := decide (p.offers.countP (·.isNone) < 8) && decide (p.readyAt ≤ at_)
def State.presented (s : State) (u b at_ : Nat) : Option (List Byte) :=
  let c := s.queue b
  if b = 0xFFFF ∨ c.fill = 0 ∨ at_ < (s.qport u).readyAt then none
  else match (s.ringRead c c.cons).1 with
    | some (.okay, d) => some d
    | _ => none

/-- The queue that producer or consumer port k of quadrant q is bound to. -/
def State.boundTo (s : State) (consumer : Bool) (q k : Nat) : Nat :=
  if consumer then s.reg (if k = 0 then O.FP_QC0 q else O.FP_QC1 q) else s.reg (if k = 0 then O.FP_QP0 q else O.FP_QP1 q)

/-- The object of a queue port's binding. -/
def qportObj (consumer : Bool) (q k : Nat) : Nat :=
  if consumer then (if k = 0 then O.FP_QC0 q else O.FP_QC1 q) else (if k = 0 then O.FP_QP0 q else O.FP_QP1 q)

/-- Whether another fabric consumer port names a queue. -/
def State.otherConsumer (s : State) (q k v : Nat) : Bool :=
  (List.range 4).any fun a => (List.range 2).any fun b => (a != q || b != k) && s.boundTo true a b == v

/-- The owner of QPk: writable while no offer is outstanding (R307). -/
def ownProducerBind (q k : Nat) : Owner := fun v s =>
  if (s.qport (2 * q + k)).offers.any (·.isNone) ∨ (0x8000 ≤ v ∧ v ≠ 0xFFFF) then (.refused, s)
  else (.okay, (s.setReg (qportObj false q k) v).deisolate (quadStop q 19) (2 ^ k))

/-- The owner of QCk (R304). -/
def ownConsumerBind (q k : Nat) : Owner := fun v s =>
  if v = 0xFFFF then (.okay, s.setReg (qportObj true q k) v)
  else if 0x8000 ≤ v then (.refused, s)
  else if (s.queue v).ckind ≠ 0 ∨ s.otherConsumer q k v ∨ s.yardConsumes v then (.busy, s)
  else (.okay, (s.setReg (qportObj true q k) v).deisolate (quadStop q 19) (4 * 2 ^ k))

/-- QUEUE_PORT_BIND. Binding a queue rebinds the port of the region's stop (R352): ports 0 and 1 for the producers, 2 and 3 for the
consumers (DESIGN CHOICE, notes/assumptions). -/
def execQueuePortBind (t : Nat) (r : Requester) (q : Fin 4) (consumer : Bool) (k : Fin 2) (v : Nat) (s : State) :
    Host.Outcome State Fault Refusal :=
  .next ((s.tickTo t).writeObj r (qportObj consumer q.val k.val) v
    (if consumer then ownConsumerBind q.val k.val else ownProducerBind q.val k.val))

/-! ### Probes and pads (R305, R306) -/

/-- Whether a value names a source: a class that is not reserved, and an index within its class (R306). -/
def sourceOk (v : Nat) : Bool :=
  let i := v % 2 ^ 12
  match v / 2 ^ 12 with
  | 0 => decide (i = 0)
  | 1 => decide (i ≤ 255)
  | 2 => decide (i ≤ 287)
  | 3 => decide (i ≤ 511)
  | 4 => decide (i ≤ 7)
  | 5 => decide (i ≤ 2)
  | _ => false

/-- The owner of SOURCE: a reserved class, or an index beyond its class, is refused. -/
def ownSource (p : Nat) : Owner := fun v s =>
  if sourceOk v then (.okay, s.setReg (O.PROBE_SOURCE p) v) else (.refused, s)

/-- SOURCE. -/
def execSource (t : Nat) (r : Requester) (p : Fin 8) (v : Nat) (s : State) : Host.Outcome State Fault Refusal :=
  .next ((s.tickTo t).writeObj r (O.PROBE_SOURCE p.val) v (ownSource p.val))

/-- IDELAY. -/
def execIdelay (t : Nat) (r : Requester) (g : Fin 48) (v : Nat) (s : State) : Host.Outcome State Fault Refusal :=
  .next ((s.tickTo t).writeObj r (O.GPIO_IDELAY g.val) v (store (O.GPIO_IDELAY g.val)))

end Sys2Proof.Machine
end

