-- ==== Sys2Proof/Machine/FabricLogic.lean ====
section
/-! DEFINITION. Fabric logic (R285 to R294, R301 to R305): what the configured cells, wires and MAC slices compute, their registers and the
outputs of receive, queue, TT and pad ports at the edges of the fabric clocks, and a Paddock's swap (R327, R328). -/

namespace Sys2Proof.Machine

/-! ### Tiles -/

/-- The number of a tile, and its locator in plane 0. -/
def tileNo (q c r : Nat) : Nat := mkLoc c r 0 q 0 / 1024
def tileLoc (tl : Nat) : Nat := tl * 1024
def tileQuad (tl : Nat) : Nat := locQuad (tileLoc tl)
def tileCol (tl : Nat) : Nat := locCol (tileLoc tl)
def tileRow (tl : Nat) : Nat := locRow (tileLoc tl)

/-- The live image of a tile (*Table 10.7*), its control word and the select of a multiplexer. -/
def State.tile (s : State) (tl : Nat) : List Byte := s.frame false (tileLoc tl)
def tileCtl (img : List Byte) : Nat := fieldLE img 160 4
def muxSel (img : List Byte) (m : Nat) : Nat := fieldLE img 164 149 / 2 ^ (7 * m) % 128

/-- A cell's word (*Table 10.3*). -/
def cellWord (img : List Byte) (i : Nat) : Nat := fieldLE img (10 * i) 10

/-- Whether a column lies in a Paddock. -/
def inPad (c : Nat) : Bool := decide (c < 48) || decide (104 ≤ c)

/-- The tile a wire of length n travelling in direction d comes from; `none` beyond the array (R283, R287). -/
def wireFrom (tl d n : Nat) : Option Nat :=
  let q := tileQuad tl
  let c := tileCol tl
  let r := tileRow tl
  match d with
  | 0 => if n ≤ r then some (tileNo q c (r - n)) else none
  | 1 => if n ≤ c then some (tileNo q (c - n) r) else none
  | 2 => if r + n ≤ 191 then some (tileNo q c (r + n)) else none
  | _ => if c + n ≤ 151 then some (tileNo q (c + n) r) else none

/-- The tile that a wire of length n driven in direction d goes to. -/
def wireTo (tl d n : Nat) : Option Nat := wireFrom tl ((d + 2) % 4) n

/-- The tile that a multiplexer's wire is driven to: outputs 0 to 39 (R291). -/
def muxTo (tl m : Nat) : Option Nat :=
  if m < 16 then wireTo tl (m / 4) 1 else if m < 32 then wireTo tl ((m - 16) / 4) 4 else wireTo tl ((m - 32) / 2) 16

/-! ### Registers -/

/-- A flip-flop's key, and its value: a flip-flop of cell i, 0 FFA and 1 FFB, is held as what differs from its INIT_FF. -/
def ffKey (tl i b : Nat) : Nat := tl * 32 + 2 * i + b
def ffInit (w b : Nat) : Bool := w.testBit (76 + b)
def State.ffValue (s : State) (tl i b : Nat) : Bool := (Tbl.get false s.ffs (ffKey tl i b)) ^^ ffInit (cellWord (s.tile tl) i) b
def State.setFf (s : State) (tl i b : Nat) (init v : Bool) : State := { s with ffs := Tbl.set false s.ffs (ffKey tl i b) (v ^^ init) }

/-- The wire register on output j of a tile: length 4 first, then length 16. -/
def State.wreg (s : State) (tl j : Nat) : Bool := Tbl.get false s.wregs (tl * 32 + j)

def State.macRegs (s : State) (tl : Nat) : MacRegs := Tbl.get {} s.macs tl

/-! ### What logic computes -/

/-- A value in the fabric: the signal of a select code at a tile; the outputs F, G and COUT of a cell; or, of a MAC slice by its lowest tile,
SUM as it goes on, the sum before its register, and Y after its stages. -/
inductive FabNode where
  | signal (tl code : Nat)
  | f (tl i : Nat)
  | g (tl i : Nat)
  | cout (tl i : Nat)
  | sum (tl : Nat)
  | next (tl : Nat)
  | y (tl : Nat)
  deriving DecidableEq, Repr

/-- A number of its own for a value, for free signals. -/
def FabNode.id : FabNode → Nat
  | .signal tl code => (tl * 256 + code) * 8
  | .f tl i => (tl * 256 + i) * 8 + 1
  | .g tl i => (tl * 256 + i) * 8 + 2
  | .cout tl i => (tl * 256 + i) * 8 + 3
  | .sum tl => tl * 2048 + 4
  | .next tl => tl * 2048 + 5
  | .y tl => tl * 2048 + 7

/-- Bits of a MAC configuration word (*Table 10.8*). -/
def State.macCfg (s : State) (tl : Nat) : Nat := fieldLE (s.tile tl) 0 8

section
variable (s : State) (ev : FabNode → Nat)

/-- The signal that a multiplexer of a tile selects. -/
def muxIn (tl m : Nat) : Nat := ev (.signal tl (muxSel (s.tile tl) m))

/-- Whether an asynchronous SR of a tile is 1 (R286). -/
def asyncSr (tl : Nat) : Bool := bits (tileCtl (s.tile tl)) 25 24 == 2 && muxIn s ev tl 169 % 2 == 1

/-- The wire that multiplexer m drives: through its register where it has one (R289). -/
def wireOut (tl m : Nat) : Nat :=
  let ctl := tileCtl (s.tile tl)
  if (16 ≤ m ∧ m < 32 ∧ ctl.testBit (8 + (m - 16))) ∨ (32 ≤ m ∧ ctl.testBit (m - 32)) then b2n (s.wreg tl (m - 16) && !asyncSr s ev tl)
  else muxIn s ev tl m

/-- The shed in which a tile lies (*Table 12.1*). -/
def tileShed (tl : Nat) : Nat :=
  match paddockOf (tileQuad tl) (tileCol tl) (tileRow tl) with
  | some p => quadStop (p / 6) (13 + p % 6)
  | none => quadStop (tileQuad tl) 19

/-- A wire as it arrives at a tile: a border output of a Paddock that holds shows what it carried before E0 (R328), and a signal from a
shed that is not ON into another is clamped to 0 (*Table 15.9*). -/
def arrives (tl d n m : Nat) : Nat :=
  match wireFrom tl d n with
  | none => 0
  | some src =>
    if tileShed src ≠ tileShed tl ∧ !s.shedOn (tileShed src) then 0
    else match paddockOf (tileQuad src) (tileCol src) (tileRow src) with
    | none => wireOut s ev src m
    | some p =>
      if (s.pad p).holdUntil ≠ 0 ∧ s.fabAt ≤ (s.pad p).holdUntil ∧ paddockOf (tileQuad tl) (tileCol tl) (tileRow tl) ≠ some p then b2n ((s.pad p).border.contains (src * 64 + m))
      else wireOut s ev src m

/-- The LUT address of a cell from inputs I0 to I(n − 1). -/
def lutAddr (tl i n : Nat) : Nat := (List.range n).foldl (fun a j => a + muxIn s ev tl (40 + 8 * i + j) % 2 * 2 ^ j) 0

/-- CIN of a cell (R285): the chain ends at row 0 and at the first row of a Paddock band. -/
def carryIn (tl i : Nat) : Nat :=
  let r := tileRow tl
  if i ≠ 0 then ev (.cout tl (i - 1))
  else if r = 0 ∨ (r % 64 = 0 ∧ inPad (tileCol tl)) then 0
  else ev (.cout (tileNo (tileQuad tl) (tileCol tl) (r - 1)) 15)

/-- A flip-flop as it is read: an asynchronous SR holds it at INIT_FF. -/
def ffOut (tl i b : Nat) : Bool :=
  if asyncSr s ev tl then ffInit (cellWord (s.tile tl) i) b else s.ffValue tl i b

/-- The data input of a flip-flop. -/
def ffData (tl i b : Nat) : Bool :=
  let w := cellWord (s.tile tl) i
  (match bits w (73 + 2 * b) (72 + 2 * b) with
   | 0 => ev (.f tl i)
   | 1 => ev (.g tl i)
   | 2 => muxIn s ev tl (46 + 8 * i + b)
   | _ => ev (.f tl i) + carryIn ev tl i) % 2 == 1

/-- Outputs OA and OB of a cell. -/
def cellOut (tl i : Nat) (b : Bool) : Nat :=
  let w := cellWord (s.tile tl) i
  match b, bits w 69 68, bits w 71 70 with
  | false, 0, _ => ev (.f tl i)
  | false, 1, _ => ev (.g tl i)
  | false, 2, _ => b2n (ffOut s ev tl i 0)
  | false, _, _ => b2n (ffOut s ev tl i 1)
  | true, _, 0 => ev (.f tl i)
  | true, _, 1 => ev (.g tl i)
  | true, _, 2 => b2n (ffOut s ev tl i 1)
  | true, _, _ => ev (.cout tl i)

/-! MAC slices (R293, R294) -/

/-- n input bits of a unit from input position p; position 128t + k belongs to its tile t (R292). -/
def unitIn (tl p n : Nat) : Nat :=
  let at_ := fun (k : Nat) => tileNo (tileQuad tl) (tileCol tl) (tileRow tl + k / 128)
  (List.range n).foldl (fun v j => v + muxIn s ev (at_ (p + j)) (40 + (p + j) % 128) % 2 * 2 ^ j) 0

/-- The slice one position down, unless the chain breaks there. -/
def chainFrom (tl : Nat) : Option Nat :=
  let k := tileRow tl / 2
  if k = 0 ∨ (k % 32 = 0 ∧ inPad (tileCol tl)) then none else some (tileNo (tileQuad tl) (tileCol tl) (2 * k - 2))

/-- The operand on Y before its stages. -/
def macY (tl : Nat) : Nat :=
  if (s.macCfg tl).testBit 27 then (match chainFrom tl with
    | some d => ev (.y d)
    | none => 0)
  else unitIn s ev tl 54 24

/-- An operand after its stages. -/
def staged (n direct one two : Nat) : Nat := match n with
  | 0 => direct
  | 1 => one
  | _ => two

/-- PRE × Y. -/
def macProd (tl : Nat) : Int :=
  let c := s.macCfg tl
  let m := s.macRegs tl
  let x := signed 27 (staged (bits c 26 25) (unitIn s ev tl 0 27) m.x1 m.x2)
  let w := signed 27 (staged (bits c 26 25) (unitIn s ev tl 27 27) m.w1 m.w2)
  let pre : Int := match bits c 29 28 with
    | 0 => x
    | 1 => x + w
    | _ => x - w
  signed 27 (unsigned 27 pre) * signed 24 (ev (.y tl) % 2 ^ 24)

/-- The exact sum, before it wraps or is clamped. -/
def macExact (tl : Nat) : Int :=
  let c := s.macCfg tl
  let m := s.macRegs tl
  let t : Int := match bits c 32 31 with
    | 0 => 0
    | 1 => signed 48 (if c.testBit 22 then m.k else unitIn s ev tl 78 48)
    | 2 => signed 48 (ev (.sum tl))
    | _ => match chainFrom tl with
      | some d => signed 48 (ev (.sum d))
      | none => 0
  let p : Int := if c.testBit 21 then m.prod else macProd s ev tl
  let rc : Int := if bits c 39 34 = 0 then 0 else 2 ^ (bits c 39 34 - 1)
  (if c.testBit 30 != (unitIn s ev tl 128 1 == 1) then t - p else t + p) + rc

/-- Whether SAT clamps the sum; and the sum as it goes to its register. -/
def macClamps (tl : Nat) : Bool :=
  (s.macCfg tl).testBit 33 && (decide (macExact s ev tl < -2 ^ 47) || decide (2 ^ 47 - 1 < macExact s ev tl))
def macNext (tl : Nat) : Nat :=
  let v := macExact s ev tl
  unsigned 48 (if (s.macCfg tl).testBit 33 then max (-2 ^ 47) (min (2 ^ 47 - 1) v) else v)

/-! Outputs of units that are not logic tiles (*Table 10.10*, R292 to R304) -/

/-- Bit i of a number as a signal. -/
def sigBit (v i : Nat) : Nat := b2n (v.testBit i)

/-- Output position i of a port that spans tiles; column 48, or the lane ports of a Paddock. -/
def portOut (q c r k : Nat) : Nat :=
  let lane := fun (i : Nat) => if k = 0 then b2n ((s.flPort (64 * q + i)).ready s.fabAt) else 0
  if c ≠ 48 then
    (let j := r % 64 / 8
     if r % 8 < 3 then lane (16 + 8 * (2 * (r / 64) + (if c = 0 then 0 else 1)) + j) else 0)
  else if r < 48 then lane (r / 3)
  else if r < 156 then
    match Tbl.get none s.rxOut (36 * q + (r - 48) / 3) with
    | none => 0
    | some e => if k < 64 then sigBit e.1 k else if k < 68 then sigBit e.2 (k - 64) else if k = 68 then 1 else 0
  else if r < 174 then
    let i := (r - 156) / 9
    let p := s.qport (2 * q + i)
    let x := s.qport (8 + 2 * q + i)
    let shown := if s.fabAt ≤ x.wasAt then x.wasGran else s.presented (8 + 2 * q + i) (s.boundTo true q i) s.fabAt
    if k = 0 then b2n (if s.fabAt ≤ p.wasAt then p.wasReady else p.ready s.fabAt)
    else if k ≤ 5 then
      match p.pst with
      | none => 0
      | some st => if k = 5 then 1 else sigBit st.code (k - 1)
    else
      match shown with
      | none => 0
      | some d => if k = 262 then 1 else if k < 262 then sigBit (leNat d) (k - 6) else 0
  else if r < 176 then (if k < 44 then sigBit (Tbl.get 0 s.ttPorts q) k else 0)
  else if r < 188 ∧ k < 8 then sigBit (Tbl.get ({} : GpioPad) s.gpios (12 * q + (r - 176))).rxd k
  else 0

/-- Output position i of a tile (codes 2 to 33). -/
def tileOut (tl i : Nat) : Nat :=
  let q := tileQuad tl
  let c := tileCol tl
  let r := tileRow tl
  match colKind c with
  | .logic => cellOut s ev tl (i / 2) (i % 2 == 1)
  | .mac =>
    let low := tileNo q c (r - r % 2)
    let k := 32 * (r % 2) + i
    if k < 48 then sigBit (ev (.sum low)) k else if k = 48 then b2n (s.macRegs low).sats else 0
  | .memory =>
    let m := memId q c (r - r % 4)
    let k := 32 * (r % 4) + i
    let o := Tbl.get ({} : BmOut) s.bramOut (2 * m + k / 38)
    let j := k % 38
    let was := decide (s.fabAt ≤ o.wasAt)
    if 76 ≤ k then 0
    else if j < 36 then sigBit (if was then o.wasDout else o.dout) j
    else if j = 36 then b2n (if was then o.wasSbe else o.sbe)
    else b2n (if was then o.wasDbe else o.dbe)
  | .port =>
    let low := if c ≠ 48 then r % 8 else if r < 156 then r % 3 else if r < 174 then (r - 156) % 9 else if r < 176 then r % 2 else 0
    portOut s q c r (32 * low + i)

/-- A value from the values it depends on. -/
def nodeStep : FabNode → Nat
  | .signal tl code =>
    if code = 1 then 1
    else if code < 2 ∨ 74 ≤ code then 0
    else if code < 34 then tileOut s ev tl (code - 2)
    else if code < 50 then arrives s ev tl ((code - 34) / 4) 1 (code - 34)
    else if code < 66 then arrives s ev tl ((code - 50) / 4) 4 (16 + (code - 50))
    else arrives s ev tl ((code - 66) / 2) 16 (32 + (code - 66))
  | .f tl i =>
    let w := cellWord (s.tile tl) i
    if w.testBit 67 then sigBit w (32 + lutAddr s ev tl i 5) else sigBit w (lutAddr s ev tl i 6)
  | .g tl i => sigBit (cellWord (s.tile tl) i) (lutAddr s ev tl i 5)
  | .cout tl i =>
    let cin := carryIn ev tl i
    if colKind (tileCol tl) ≠ .logic then 0
    else if !(cellWord (s.tile tl) i).testBit 66 then cin
    else if ev (.g tl i) = 1 then 1
    else ev (.f tl i) * cin
  | .sum tl => if (s.macCfg tl).testBit 20 then (s.macRegs tl).sum else ev (.next tl)
  | .next tl => macNext s ev tl
  | .y tl =>
    let m := s.macRegs tl
    staged (bits (s.macCfg tl) 24 23) (macY s ev tl) m.y1 m.y2

end

/-- The longest chain of logic between registers that a value is followed along: longer than any that the array can hold. What is longer is
a loop, and free. -/
def logicDepth : Nat := 2 ^ 24

/-- A value in the fabric, followed through at most n steps of logic. -/
def State.node (s : State) : Nat → FabNode → Nat
  | 0, x => b2n (Config.inputBit s.fabAt x.id)
  | n + 1, x => nodeStep s (s.node n) x

/-- A value in the fabric. -/
def State.fab (s : State) (x : FabNode) : Nat := s.node logicDepth x

/-- n bits that a unit whose lowest tile is at a place finds at its inputs, from input position p (R292). -/
def State.unitInput (s : State) (q c r p n : Nat) : Nat := unitIn s s.fab (tileNo q c r) p n

/-! ### Registers at an edge -/

/-- Whether a tile's registers load, and whether SR resets them, at an edge of a set of clocks. SR takes precedence over HOLD (R286). -/
def State.tileEdge (s : State) (tl : Nat) (clocks : List (Nat × Bool)) : Bool × Bool :=
  let ctl := tileCtl (s.tile tl)
  let q := tileQuad tl
  let c := tileCol tl
  let r := tileRow tl
  let clock := clockOf (bits ctl 31 27) q c r
  let on := clock.any (fun d => clocks.contains (d, ctl.testBit 26)) && s.unitRuns clock q c r
  let sr := (s.fab (.signal tl (muxSel (s.tile tl) 169))) % 2 == 1
  (on && (s.fab (.signal tl (muxSel (s.tile tl) 168))) % 2 == 0, sr && ((bits ctl 25 24 == 1 && on) || bits ctl 25 24 == 2))

/-- The flip-flops of a logic tile after an edge; `s` is the state before it. -/
def State.cellsEdge (s : State) (tl : Nat) (load reset : Bool) (x : State) : State :=
  (List.range 32).foldl
    (fun (x : State) k =>
      let init := ffInit (cellWord (s.tile tl) (k / 2)) (k % 2)
      if reset then x.setFf tl (k / 2) (k % 2) init init
      else if load then x.setFf tl (k / 2) (k % 2) init (ffData s s.fab tl (k / 2) (k % 2))
      else x) x

/-- The wire registers of a tile after an edge. -/
def State.wiresEdge (s : State) (tl : Nat) (load reset : Bool) (x : State) : State :=
  let img := s.tile tl
  let put := fun (x : State) (j : Nat) (v : Bool) => { x with wregs := Tbl.set false x.wregs (tl * 32 + j) v }
  (List.range 24).foldl
    (fun (x : State) j =>
      let used := if j < 16 then (tileCtl img).testBit (8 + j) else (tileCtl img).testBit (j - 16)
      if !used then x
      else if reset then put x j false
      else if load then put x j ((s.fab (.signal tl (muxSel img (16 + j)))) % 2 == 1)
      else x) x

/-- The stage registers of a MAC slice after an edge of its clock: CLR clears them, EN 0 holds them (R293, R294). -/
def State.macEdge (s : State) (tl : Nat) (x : State) : State :=
  let c := s.macCfg tl
  let m := s.macRegs tl
  let ctl := fun (p : Nat) => unitIn s s.fab tl p 1 == 1
  if ctl 127 then { x with macs := Tbl.set {} x.macs tl {} }
  else if !ctl 126 then x
  else
    let n : MacRegs :=
      { x1 := unitIn s s.fab tl 0 27, x2 := m.x1, w1 := unitIn s s.fab tl 27 27, w2 := m.w1, y1 := macY s s.fab tl, y2 := m.y1,
        k := unitIn s s.fab tl 78 48, prod := macProd s s.fab tl, sum := macNext s s.fab tl, sats := m.sats || macClamps s s.fab tl }
    -- only the stages that the slice has
    let n1 : MacRegs :=
      { x1 := if 1 ≤ bits c 26 25 then n.x1 else 0, x2 := if bits c 26 25 = 2 then n.x2 else 0, w1 := if 1 ≤ bits c 26 25 then n.w1 else 0,
        w2 := if bits c 26 25 = 2 then n.w2 else 0, y1 := if 1 ≤ bits c 24 23 then n.y1 else 0, y2 := if bits c 24 23 = 2 then n.y2 else 0,
        k := if c.testBit 22 then n.k else 0, prod := if c.testBit 21 then n.prod else 0, sum := if c.testBit 20 then n.sum else 0, sats := n.sats }
    { x with macs := Tbl.set {} x.macs tl n1 }

/-- One tile at an edge of a set of clocks. -/
def State.tileTick (s : State) (tl : Nat) (clocks : List (Nat × Bool)) (x : State) : State :=
  let (load, reset) := s.tileEdge tl clocks
  let x1 := s.wiresEdge tl load reset x
  match colKind (tileCol tl) with
  | .logic => s.cellsEdge tl load reset x1
  | .mac =>
    let ctl := tileCtl (s.tile tl)
    let clock := clockOf (bits ctl 31 27) (tileQuad tl) (tileCol tl) (tileRow tl)
    if tileRow tl % 2 = 0 ∧ clock.any (fun d => clocks.contains (d, ctl.testBit 26)) ∧ s.placeRuns clock (tileQuad tl) (tileCol tl) (tileRow tl) then
      s.macEdge tl x1
    else x1
  | _ => x1

/-- Configured tiles: those whose live frame is not the unconfigured one. -/
def State.tiles (s : State) : List Nat := s.live.filterMap fun e => if locPlane e.1 = 0 then some (e.1 / 1024) else none

/-- The instants at which a pad samples the bits of RXD that end at an edge: RATIO bits per cycle, the first one earliest, each IDELAY steps
of 8 ps before it leaves its receiver (R305). -/
def padSamples (edge khz ratio delay : Nat) : List Nat :=
  (List.range ratio).map fun j => edge - cycleUnits khz (ratio - 1 - j) / ratio - 16 * delay

/-- The bits that a pad's word of *Table 10.11* sends and receives per cycle. -/
def padRatio (cfg : Nat) : Nat := 2 ^ bits cfg 12 11

/-- A pad port at an edge: TXD and OE are taken, and RXD gives the bits of the last cycle; what the ball carried is free. -/
def State.padEdge (s : State) (q g khz : Nat) (x : State) : State :=
  let n := 12 * q + g
  let l := padSamples s.fabAt khz (padRatio (s.reg (O.GPIO_CONFIG n))) (s.reg (O.GPIO_IDELAY n))
  let rxd := (List.range 8).foldl (fun v j => v + b2n (l[j]?.any fun at_ => Config.inputBit at_ n) * 2 ^ j) 0
  { x with gpios := Tbl.set {} x.gpios n { txd := s.unitInput q 48 (176 + g) 0 8, oe := s.unitInput q 48 (176 + g) 8 1 == 1, at_ := s.fabAt, rxd := rxd } }

/-- A receive port at an edge: its oldest word goes out, or none (R302). -/
def State.rxEdge (ch : Nat) (x : State) : State :=
  match Tbl.get [] x.rxBuf ch with
  | [] => { x with rxOut := Tbl.set none x.rxOut ch none }
  | e :: rest => { x with rxBuf := Tbl.set [] x.rxBuf ch rest, rxOut := Tbl.set none x.rxOut ch (some e) }

/-- A producer port at an edge: PSTATUS shows the status of the oldest offer, once it has one (R303). -/
def State.pstEdge (u : Nat) (x : State) : State :=
  let p := x.qport u
  x.setQport u
    (match p.offers with
     | some st :: rest => { p with offers := rest, pst := some st }
     | _ => { p with pst := none })

/-- A TT port at an edge: TICK, PHASE and TT_VALID as they stood 2 word clocks before (R301). -/
def State.ttEdgeAt (s : State) (q : Nat) (x : State) : State :=
  let past := s.fabAt - 2 * Config.wordUnits
  let valid := if s.ttEdge ≤ past then s.ttValid else !s.ttValid
  { x with
    ttPorts := Tbl.set 0 x.ttPorts q
      ((past / Config.tickUnits + s.ttOff) % 2 ^ 40 + past % Config.tickUnits / Config.wordUnits * 2 ^ 40 + b2n valid * 2 ^ 43) }

/-- A port whose lowest tile has an edge of its clock; `s` is the state before it (R301 to R305). -/
def State.portEdgeAt (s : State) (q r khz : Nat) (x : State) : State :=
  if 48 ≤ r ∧ r < 156 ∧ r % 3 = 0 then x.rxEdge (36 * q + (r - 48) / 3)
  else if r = 156 ∨ r = 165 then x.pstEdge (2 * q + (r - 156) / 9)
  else if r = 174 then s.ttEdgeAt q x
  else if 176 ≤ r ∧ r < 188 then s.padEdge q (r - 176) khz x
  else x

/-- A port tile of the static region at an edge of a set of clocks. -/
def State.portTick (s : State) (tl : Nat) (clocks : List (Nat × Bool)) (x : State) : State :=
  let clock := s.tileClock (tileQuad tl) (tileCol tl) (tileRow tl)
  match clock.1 with
  | none => x
  | some d =>
    if tileCol tl = 48 ∧ clocks.contains (d, clock.2) ∧ s.placeRuns (some d) (tileQuad tl) (tileCol tl) (tileRow tl) then
      s.portEdgeAt (tileQuad tl) (tileRow tl) (s.fabricKhz d) x
    else x

/-- An edge of a set of clocks: every register takes what it found before the edge. -/
def State.fabricEdge (s : State) (clocks : List (Nat × Bool)) : State :=
  s.tiles.foldl (fun (x : State) tl => s.portTick tl clocks (s.tileTick tl clocks x)) s

/-- Asynchronous SR forces the registers of the tiles where it is 1 (R286). -/
def State.asyncOnce (s : State) : State :=
  s.tiles.foldl
    (fun (x : State) tl =>
      if !asyncSr s s.fab tl then x
      else
        let x1 := s.wiresEdge tl false true x
        if colKind (tileCol tl) = .logic then s.cellsEdge tl false true x1 else x1) s

/-- What an asynchronous SR resets can raise another: as many rounds as there are tiles. -/
def State.asyncSettle (s : State) : Nat → State
  | 0 => s
  | n + 1 => s.asyncOnce.asyncSettle n

/-! ### Fabric clocks (R400, R401) -/

/-- The running fabric clocks with their frequencies. -/
def State.fabricClocks (s : State) : List (Nat × Nat) :=
  ((List.range 16).map fun g => (340 + g, s.srcKhz (s.reg (O.GCLK_SRC g)))) ++ ((List.range 24).map fun p => (356 + p, s.regionalKhz p)) |>.filter
    fun c => s.domainRunning c.1 && c.2 != 0

/-- The edges of every running fabric clock in an interval after `a` up to `b`, in order of time. -/
def State.fabricEdges (s : State) (a b : Nat) : Tbl (List (Nat × Bool)) :=
  s.fabricClocks.foldl
    (fun m c =>
      [false, true].foldl
        (fun m half => (edgesIn c.2 a b half).foldl (fun m t => Tbl.set [] m t ((c.1, half) :: Tbl.get [] m t)) m) m) []

/-- Fabric logic runs up to an instant (DESIGN CHOICE: the table has no row for its clocks; what happened between is followed once something
depends on it). -/
def State.fabricTo (s : State) (b : Nat) : State :=
  if b ≤ s.fabAt then s
  else if s.tiles = [] then { s with fabAt := b }
  else
    let s1 := (s.fabricEdges s.fabAt b).foldl (fun (s : State) e => ({ s with fabAt := e.1 }.fabricEdge e.2).asyncSettle s.tiles.length) s
    { s1 with fabAt := b }.asyncSettle s.tiles.length

/-- Fabric logic runs up to the present instant, before its clocks or its configuration change. -/
def State.fabricNow (s : State) : State := s.fabricTo s.now

/-- What the clocks have done by now is done and counted, before one of them changes. -/
def State.clocksNow (s : State) : State := s.fabricNow.countMc

/-- Fabric logic as a port finds it at an edge of its clock at the present instant: before that edge. -/
def State.fabricPre (s : State) : State := s.fabricTo (s.now - 1)

/-- n bits that a unit whose lowest tile is at a place finds at its inputs at the present instant, from input position p (R292). -/
def State.portIn (s : State) (q c r p n : Nat) : Nat := { s with fabAt := s.now }.unitInput q c r p n

/-! ### Swaps (R327, R328) -/

/-- Border outputs of a Paddock that carry 1: wires from its tiles to tiles outside it. -/
def State.borderOnes (s : State) (p : Nat) : List Nat :=
  let inside := fun (tl : Nat) => paddockOf (tileQuad tl) (tileCol tl) (tileRow tl) == some p
  (s.tiles.filter inside).flatMap fun tl =>
    ((List.range 40).filter fun m => (muxTo tl m).any (fun d => !inside d) && wireOut s s.fab tl m % 2 == 1).map fun m => tl * 64 + m

/-- The flip-flops of a Paddock across a swap: those whose new word has PERSIST keep their value, the others take INIT_FF; `s` is the state
before it. -/
def State.swapFfs (s : State) (p : Nat) (x : State) : State :=
  let inside := fun (tl : Nat) => paddockOf (tileQuad tl) (tileCol tl) (tileRow tl) == some p
  let x1 : State := { x with ffs := x.ffs.filter (fun e => !inside (e.1 / 32)), wregs := x.wregs.filter (fun e => !inside (e.1 / 32)) }
  (x1.tiles.filter fun tl => inside tl && decide (colKind (tileCol tl) = .logic)).foldl
    (fun (x : State) tl =>
      (List.range 32).foldl
        (fun (x : State) k =>
          let w := cellWord (x.tile tl) (k / 2)
          if w.testBit (78 + k % 2) then x.setFf tl (k / 2) (k % 2) (ffInit w (k % 2)) (s.ffValue tl (k / 2) (k % 2)) else x) x) x1

/-- Stage registers with values that the spec does not give. -/
def State.drawMac (s : State) (tl : Nat) : State :=
  let n := fun (k : Nat) => Config.freeNat (s.draws + k)
  { s with
    draws := s.draws + 10,
    macs := Tbl.set {} s.macs tl
      ⟨n 0 % 2 ^ 27, n 1 % 2 ^ 27, n 2 % 2 ^ 27, n 3 % 2 ^ 27, n 4 % 2 ^ 24, n 5 % 2 ^ 24, n 6 % 2 ^ 48, signed 51 (n 7 % 2 ^ 51), n 8 % 2 ^ 48, n 9 % 2 == 1⟩ }

/-- The MAC slices of a Paddock across a swap: what their stage registers then hold is not given. -/
def State.swapMacs (s : State) (p : Nat) : State :=
  (s.tiles.filter fun tl =>
      paddockOf (tileQuad tl) (tileCol tl) (tileRow tl) == some p && decide (colKind (tileCol tl) = .mac) && tileRow tl % 2 == 0).foldl State.drawMac
    { s with macs := s.macs.filter fun e => paddockOf (tileQuad e.1) (tileCol e.1) (tileRow e.1) != some p }

/-- PADDOCK_SWAP: the first edge E0 of the regional clock at or after S has come (R326 to R328). -/
def execPaddockSwap (t : Nat) (p : Fin 24) (s : State) : Host.Outcome State Fault Refusal :=
  let s1 := s.tickTo t
  let k := p.val
  .next
    (match s1.sched .swap k with
     | none => s1
     | some a =>
       if !s1.due .swap k a then s1
       else if !s1.domainRunning (356 + k) || !s1.shedOn (padShed k) then
         (s1.endAction .swap k 2).setReg (O.PAD_SWAP_STATUS k) Status.refused.code
       else
         let e0 := s1.effectAt .swap k a
         let s0 := s1.fabricTo (e0 - 1)
         let held := s0.borderOnes k
         let s2 := (s0.swapFfs k ((((s0.fabricTo e0).endAction .swap k 1).abortAudit k).exchange k)).swapMacs k
         let s3 := (padMems k).foldl (fun (s : State) m => if (s.memCfg m).testBit 46 then s else s.reloadMem m) s2
         let live := s3.reg (O.PAD_LIVE_ID k)
         let s4 := (((((s3.setReg (O.PAD_LIVE_ID k) (s3.reg (O.PAD_SHADOW_ID k))).setReg (O.PAD_SHADOW_ID k) live).bump (O.PAD_SWAPS k) 1).setReg
           (O.PAD_SWAP_STATUS k) Status.okay.code).setReg (O.PAD_LAST_SWAP_TT k) (s3.ttOf e0))
         s4.setPad k { s4.pad k with holdUntil := e0 + cycleUnits (s4.regionalKhz k) (s4.reg (O.PAD_HOLD_CYCLES k)), border := held })

/-- HOLD_END: HOLD_CYCLES after E0 the border outputs show the new logic (R328). -/
def execHoldEnd (t : Nat) (p : Fin 24) (s : State) : Host.Outcome State Fault Refusal :=
  let s1 := s.tickTo t
  let x := s1.pad p.val
  .next
    (if x.holdUntil ≠ 0 ∧ x.holdUntil ≤ s1.now then
      let s2 := s1.fabricTo x.holdUntil
      s2.setPad p.val { s2.pad p.val with holdUntil := 0, border := [] }
     else s1)

end Sys2Proof.Machine
end

