-- ==== Sys2Proof/Machine/OnChip.lean ====
section
/-! DEFINITION. On-chip memories (R383 to R392): the start-up march and the march on request, and the patrol scrubber. -/

namespace Sys2Proof.Machine

/-! ### The march (R385 to R387) -/

/-- STARTUP_MARCH: CLKREF is judged stable and the spine PLL has locked, and the start-up march begins (R386). -/
def execStartupMarch (t : Nat) (s : State) : Host.Outcome State Fault Refusal :=
  let s1 := s.tickTo t
  .next
    (if s1.reg O.MARCH_MARCH_STATE = 1 ∧ s1.marchAt.isNone ∧ s1.isSet O.DEV_CLKREF_STABLE ∧ s1.pllLocked pllSpll then
      { s1 with marchAt := some s1.now }
     else s1)

/-- The visible engine that a physical slot serves, if any. -/
def State.engineOn (s : State) (slot : Nat) : Option Nat :=
  let c := slot / 33
  let i := slot % 33
  if i = 32 then (if s.reg (O.CLU_SPARE_STATE c) = 1 then some (s.reg (O.CLU_SPARE_FOR c)) else none)
  else if s.reg (O.ENG_PHYS (32 * c + i)) = i then some (32 * c + i)
  else none

/-- The stores of a physical slot are failed (*Table 14.3*). -/
def State.slotFailed (s : State) (slot : Nat) : State :=
  let s1 := match s.engineOn slot with
    | some e => s.setEngine e { s.engine e with failed := true }
    | none => s
  if slot % 33 = 32 then s1.setReg (O.CLU_SPARE_STATE (slot / 33)) 2 else s1

/-- Words of an array that no spare row replaces. -/
def State.wordsFailed (s : State) (target : Nat) (l : List (Nat × Nat)) : State :=
  if l = [] then s
  else { s with hardBad := l.foldl (fun (m : Tbl Bool) (p : Nat × Nat) => Tbl.set false m (badKey target p.1 p.2) true) s.hardBad }.fault 4

/-- A spine array of STARTUP_RESULT's byte 69 as its target and array (*Table 14.1*). -/
def spineArray (k : Nat) : Nat × Nat :=
  match k with
  | 0 => (4, 0)
  | 1 => (5, 1)
  | 2 => (6, 1)
  | 3 => (7, 0)
  | 4 => (8, 0)
  | _ => (8, 1)

/-- A bit of STARTUP_RESULT is set. -/
def State.resultBit (s : State) (n : Nat) : State :=
  s.setImage O.MARCH_STARTUP_RESULT (setImgBit (s.image O.MARCH_STARTUP_RESULT) n true)

/-- A block memory with failing columns: repair entries name up to two, with those it had; it is failed beyond (R298, R386). -/
def State.columnsFound (s : State) (m : Nat) (found : List Nat) : State :=
  let old := Tbl.get [] s.bramRepair m
  let all := (old ++ found).eraseDups
  let cols := all.length
  let count := fun (s : State) (o : Nat) =>
    let img := s.image O.MARCH_STARTUP_RESULT
    s.setImage O.MARCH_STARTUP_RESULT (splice img o (leBytes 2 (fieldLE img o 2 + 1)))
  if found = [] then s
  else if cols ≤ 2 then (count { s with bramRepair := Tbl.set [] s.bramRepair m all } 70).bump O.FAB_BM_REPAIRED (b2n (old == []))
  else (count (s.setImage O.FAB_BM_FAILED (setImgBit (s.image O.FAB_BM_FAILED) m true)) 72).bump O.FAB_BM_FAILED_COUNT 1

/-- STARTUP_MARCH_DONE: the start-up march ends after its longest arrays, and its outcomes are recorded; the configuration port is
ready, unless it is halted under a reserved CFG_MODE (R308, R386). -/
def execStartupMarchDone (t : Nat) (x : MarchFinds) (s : State) : Host.Outcome State Fault Refusal :=
  let s1 := s.tickTo t
  .next
    (match s1.marchAt with
     | none => s1
     | some at_ =>
       if s1.reg O.MARCH_MARCH_STATE ≠ 1 ∨ s1.now < at_ + 21 * 65536 * Config.wordUnits then s1
       else
         let s2 := x.slots.foldl (fun (s : State) i => (s.slotFailed i).resultBit i) s1
         let s3 := (x.feeds.foldl (fun (s : State) p => s.resultBit (66 * 8 + p.1)) s2).wordsFailed 2 x.feeds
         let s4 := (x.carafe.foldl (fun (s : State) p => s.resultBit (68 * 8 + p.1)) s3).wordsFailed 3 x.carafe
         let s5 := x.spine.foldl
           (fun (s : State) p => (s.resultBit (69 * 8 + p.1)).wordsFailed (spineArray p.1).1 [((spineArray p.1).2, p.2)]) s4
         let s6 := x.columns.foldl (fun (s : State) p => s.columnsFound p.1 p.2) s5
         let s7 : State := State.setReg { s6 with marchAt := none } O.MARCH_MARCH_STATE 0
         if s7.reg O.CFG_CFG_MODE ≤ 1 then (s7.setReg O.CFG_CFG_STATE 1).setCfg { s7.cfg with initLow := false } else s7)

/-- The owner of MARCH_TARGET (*Table 14.8*). -/
def ownMarchTarget : Owner := fun v s =>
  let n := v % 1024
  let lim := match bits v 31 28 with
    | 0 => 528
    | 1 => 528
    | 2 => 528
    | 3 => 16
    | 4 => 4
    | _ => 0
  if n < lim then (.okay, s.setReg O.MARCH_MARCH_TARGET v) else (.refused, s)

/-- Engines whose stores a march target names: a visible engine, or the one that runs on a spare. -/
def State.marchEngines (s : State) (n : Nat) : List Nat := if n < 512 then [n] else (s.engineOn (33 * (n - 512) + 32)).toList

/-- Whether a march of a target may start (R387). -/
def State.marchAllowed (s : State) (target : Nat) : Bool :=
  let n := target % 1024
  match bits target 31 28 with
  | 3 => (List.range 32).all fun i => !([3, 4, 7].contains (s.reg (O.ENG_STATE (32 * n + i))))
  | 4 => (List.range 512).all fun k => (s.port n k).st == 0
  | _ => (s.marchEngines n).all fun e => [0, 2, 5, 6].contains (s.reg (O.ENG_STATE e))

/-- The owner of MARCH_START. -/
def ownMarchStart : Owner := command fun s =>
  if s.reg O.MARCH_MARCH_STATE ≠ 0 then (.busy, s)
  else if !s.marchAllowed (s.reg O.MARCH_MARCH_TARGET) then (.refused, s)
  else (.okay, ({ s with marchAt := some s.now }).setReg O.MARCH_MARCH_STATE 2)

/-- MARCH_START. -/
def execMarchStart (t : Nat) (r : Requester) (v : Bool) (s : State) : Host.Outcome State Fault Refusal :=
  .next ((s.tickTo t).writeObj r O.MARCH_MARCH_START (b2n v) ownMarchStart)

/-- How long a march on request takes (*Table 14.4*); both engine stores are marched side by side. -/
def marchUnits (target mode : Nat) : Nat :=
  let words := match bits target 31 28 with
    | 0 => 2048
    | 1 => 4096
    | 2 => 4096
    | _ => 65536
  (if mode = 1 then 5 else 21) * words * Config.wordUnits

/-- The instruction words of a program image become 0. -/
def zeroProgram (img : List Byte) : List Byte := splice img (64 + 8 * progEvents img) (fill (16 * progCount img) 0)

/-- A destructive march leaves its stores zeroed, with valid check bits (R385). -/
def State.marchZero (s : State) (target : Nat) : State :=
  let n := target % 1024
  let kind := bits target 31 28
  let good := fun (s : State) (tg a : Nat) => s.freshWords fun x y _ => x == tg && y == a
  let slot := if n < 512 then s.physSlot n else 33 * (n - 512) + 32
  let wipe := fun (s : State) (data : Bool) =>
    { s with spareMem := s.spareMem.filter fun c => !(c.1 / 2 ^ 16 == slot && decide (0x8000 ≤ c.1 % 2 ^ 16) == data) }
  let prog := fun (s : State) => (s.marchEngines n).foldl (fun (s : State) e => (s.dropPatch e).setImage (O.ENG_PROGRAM e) (zeroProgram (s.image (O.ENG_PROGRAM e)))) (wipe (good s 0 slot) false)
  let data := fun (s : State) =>
    (s.marchEngines n).foldl (fun (s : State) e => { s with data := s.data.filter fun c => c.1 / 2 ^ 14 != e }) (wipe (good s 1 slot) true)
  match kind with
  | 0 => prog s
  | 1 => data s
  | 2 => data (prog s)
  | 3 => good { s with feed := s.feed.filter fun c => c.1 / feedBytes != n } 2 n
  | _ => good s 3 n

/-- MARCH_DONE: a march on request ends: `found` words failed, the first at `first`; of a Feed store or a Carafe slice `left` are
the words that no spare row replaces (R387). -/
def execMarchDone (t : Nat) (found first : Nat) (left : List Nat) (s : State) : Host.Outcome State Fault Refusal :=
  let s1 := s.tickTo t
  let target := s1.reg O.MARCH_MARCH_TARGET
  let mode := s1.reg O.MARCH_MARCH_MODE
  let n := target % 1024
  .next
    (match s1.marchAt with
     | none => s1
     | some at_ =>
       if s1.reg O.MARCH_MARCH_STATE ≠ 2 ∨ s1.now < at_ + marchUnits target mode then s1
       else
         let s2 := if mode = 0 then s1.marchZero target else s1
         let (s3, remain) := match bits target 31 28 with
           | 3 => (s2.wordsFailed 2 (left.map (n, ·)), !left.isEmpty)
           | 4 => (s2.wordsFailed 3 (left.map (n, ·)), !left.isEmpty)
           | _ => (if found = 0 then s2 else s2.slotFailed (if n < 512 then s2.physSlot n else 33 * (n - 512) + 32), decide (found ≠ 0))
         ((({ s3 with marchAt := none }.setReg O.MARCH_MARCH_STATE 0).setReg O.MARCH_MARCH_STATUS
           (if remain then Status.aborted else Status.okay).code).setReg O.MARCH_MARCH_RESULT
           (if found = 0 then 0 else min found 4095 * 2 ^ 20 + first % 2 ^ 20)).bump O.MARCH_MARCH_RUNS 1)

/-! ### The scrub schedule (R388) -/

def scrubOp (w : Nat) : Nat := bits w 63 60
def scrubTarget (w : Nat) : Nat := bits w 59 56
def scrubCount (w : Nat) : Nat := bits w 55 32
def scrubArg (w : Nat) : Nat := w % 2 ^ 32

/-- Whether a step keeps the rules of *Table 14.5*. -/
def scrubStepOk (w : Nat) : Bool :=
  match scrubOp w with
  | 1 => decide (scrubTarget w ≤ 10) && decide (4 ≤ scrubArg w)
  | 0 => scrubTarget w == 0 && scrubCount w == 0
  | 2 => scrubTarget w == 0 && scrubCount w == 0
  | _ => false

/-- Step k of a schedule. -/
def scrubStep (img : List Byte) (k : Nat) : Nat := fieldLE img (8 * k) 8

/-- The owner of SCRUB_PROGRAM: a new schedule starts again from step 0. -/
def ownScrubProgram : ImgOwner := unscheduled fun img s =>
  let n := img.length / 8
  if n = 0 ∨ 64 < n ∨ img.length % 8 ≠ 0 ∨ !(List.range n).all (fun k => scrubStepOk (scrubStep img k)) ∨ scrubOp (scrubStep img (n - 1)) ≠ 0 then
    (.refused, s)
  else
    let s1 := (s.setImage O.PATROL_SCRUB_PROGRAM img).setReg O.PATROL_SCRUB_STEP 0
    (.okay, { s1 with patrol := { s1.patrol with left := none, stopped := false, unitAt := s1.now } })

/-- SCRUB_PROGRAM. -/
def execScrubProgram (t : Nat) (r : Requester) (crc tt : Nat) (s : State) : Host.Outcome State Fault Refusal :=
  .next ((s.tickTo t).commitObj r O.PATROL_SCRUB_PROGRAM crc tt ownScrubProgram)

/-- The owner of SCRUB_ENABLE; a schedule that has ended starts again when the patrol is enabled anew. -/
def ownScrubEnable : Owner := fun v s =>
  let s1 := s.setReg O.PATROL_SCRUB_ENABLE v
  (.okay,
    if v = 1 ∧ !s.isSet O.PATROL_SCRUB_ENABLE ∧ s.patrol.stopped then
      { s1.setReg O.PATROL_SCRUB_STEP 0 with patrol := { s1.patrol with left := none, stopped := false, unitAt := s1.now } }
    else s1)

/-- The owner of FORCE_AFTER: 0, or at least 65,536 word clocks. -/
def ownForceAfter : Owner := fun v s =>
  if v ≠ 0 ∧ v < 65536 then (.refused, s) else (.okay, s.setReg O.PATROL_FORCE_AFTER v)

/-- The step in progress. -/
def State.scrubNow (s : State) : Nat := scrubStep (s.image O.PATROL_SCRUB_PROGRAM) (s.reg O.PATROL_SCRUB_STEP)

/-- The schedule goes on to its next step; an END restarts it or stops it (*Table 14.5*). -/
def State.scrubNext (s : State) : State :=
  let k := s.reg O.PATROL_SCRUB_STEP + 1
  let w := scrubStep (s.image O.PATROL_SCRUB_PROGRAM) k
  let s1 := { s with patrol := { s.patrol with left := none, unitAt := s.now } }
  if scrubOp w ≠ 0 then s1.setReg O.PATROL_SCRUB_STEP k
  else if w.testBit 0 then s1.setReg O.PATROL_SCRUB_STEP 0
  else { s1.setReg O.PATROL_SCRUB_STEP k with patrol := { s1.patrol with stopped := true } }

/-- Whether the patrol runs, at a step of an operation; it has no clock while CLKREF is lost (R402). -/
def State.patrolAt (s : State) (op : Nat) : Bool := !s.clkLost && s.isSet O.PATROL_SCRUB_ENABLE && !s.patrol.stopped && scrubOp s.scrubNow == op

/-! ### The patrol (R389 to R392) -/

/-- Units of a pass, by target (R389). -/
def patrolUnits (target : Nat) : Nat := [2048, 4096, 65536, 1048576, 16384, 32768, 2048, 131072, 1048576, 512].getD target 0

/-- The cursor of a target. -/
def State.cursor (s : State) (target : Nat) : Nat := Tbl.get 0 s.patrol.cursors target
def State.setCursor (s : State) (target v : Nat) : State := { s with patrol := { s.patrol with cursors := Tbl.set 0 s.patrol.cursors target v } }

/-- A pass of a target ends. -/
def State.passDone (s : State) (target : Nat) : State := (s.bumpImage O.PATROL_PASSES target 1).setCursor target 0

/-- The patrol finds an uncorrectable word (R383, R389). -/
def State.patrolBad (s : State) : State :=
  ((s.bump O.PATROL_UNCORRECTABLE_SCRUB 1).setFlag O.PATROL_SRAM_ERR 0 O.PATROL_SRAM_ERR_COUNT 1).fault 4

/-- An error in the unit at a word of an array of a target (*Table 14.1*). In the arrays that hold their errors by word it stays there, for
the patrol or a demand read to find. -/
def State.patrolErr (s : State) (target word : Nat) (e : PatrolErr) : State :=
  match e with
  | .flip _ _ => s
  | .single a =>
    if target ≤ 3 ∨ target = 7 ∨ target = 8 then s.upset target a word
    else
      { s with upWords := if target = 6 then Tbl.set false s.upWords (badKey 6 0 a) false else s.upWords }.bump O.PATROL_CORRECTED_SCRUB 1
  | .double a both =>
    if target ≤ 3 ∨ target = 7 ∨ target = 8 then s.setBad target a word 1 true
    else if (target = 5 ∨ target = 6) ∧ !both then s.bump O.PATROL_CORRECTED_SCRUB 1
    else
      let s1 := s.patrolBad
      match target with
      | 4 =>
        match (Tbl.get [] s1.tagCache (word / 16))[word % 16]? with
        | some w => s1.cacheBad w
        | none => s1
      | 5 => if s1.reg (O.Q_STATE word) = 1 ∨ s1.reg (O.Q_STATE word) = 2 then s1.ringFault word 0 .poisoned else s1
      | 6 => s1.setBad 6 0 a 1 true
      | _ => s1

/-- Words of on-chip memories have been upset since the last unit, by target, array and word: of the counter and tag cache a line, of the
queue table a copy and a descriptor, of the Tack store a KID. -/
def State.upsets (s : State) (l : List (Nat × Nat × Nat)) : State :=
  l.foldl
    (fun (s : State) (tg, a, w) =>
      if tg = 4 then
        let ways := Tbl.get [] s.tagCache (w / 16)
        { s with tagCache := Tbl.set [] s.tagCache (w / 16) ((List.range ways.length).zip ways |>.map fun p =>
            if p.1 = w % 16 then { p.2 with upset := p.2.upset + 1 } else p.2) }
      else if tg ≤ 8 then s.upset tg a w
      else s) s

/-- Whether an array of a target is under a march, and is passed over. -/
def State.underMarch (s : State) (target array : Nat) : Bool :=
  s.reg O.MARCH_MARCH_STATE == 1 ||
    (s.reg O.MARCH_MARCH_STATE == 2 &&
      match target with
      | 0 => (s.engineOn array).any s.marchEngine
      | 1 => (s.engineOn array).any s.marchEngine
      | 2 => s.marchOn 3 array
      | 3 => s.marchOn 4 array
      | _ => false)

/-- Arrays that keep their own credits (R390). -/
def creditTarget (target : Nat) : Bool := target ≤ 2 || target == 9

/-- Whether the port of an array may have had no free cycle: an engine store's has all but those its engine takes (R384). -/
def State.mayBusy (s : State) (target array : Nat) : Bool :=
  decide (1 < target) || (s.engineOn array).any fun e => [1, 4].contains (s.reg (O.ENG_STATE e))

/-- Credits that an array holds, and those it has lost. -/
def State.heldCredits (s : State) (target array : Nat) : Nat := (Tbl.get (0, 0) s.patrol.credits (target * 4096 + array)).1
def State.lostCredits (s : State) (target array : Nat) : Nat := Tbl.get 0 s.patrol.lags (target * 4096 + array)

/-- The word at which an array that keeps its own position stands, behind the target cursor (R390). -/
def State.arrayWord (s : State) (target cur array : Nat) : Nat :=
  let n := patrolUnits target
  (cur + n - (s.heldCredits target array + s.lostCredits target array) % n) % n

/-- Whether the unit at the target cursor patrols a word of an array: the cursor's word, and of an array that keeps its own position and
has a free cycle for each credit, those that its credits reach (R389, R390). Arrays under a march are passed over. -/
def State.visits (s : State) (target cur : Nat) (busy : List Nat) (array word : Nat) : Bool :=
  let n := patrolUnits target
  !s.underMarch target array &&
    (if creditTarget target then
       !busy.contains array && decide ((word + n - s.arrayWord target cur array) % n ≤ s.heldCredits target array)
     else word == cur)

/-- The unit gives each array a credit: an array whose port has a free cycle spends what it holds; another keeps up to 64 (R390). -/
def State.giveCredits (s : State) (target : Nat) (busy : List Nat) : State :=
  let p := s.patrol
  let old := p.credits
  let keep := old.filter fun c => c.1 / 4096 != target
  let wc := s.now / Config.wordUnits
  let lost := busy.filter fun a => decide (64 ≤ s.heldCredits target a)
  let credits := busy.foldl
    (fun m a =>
      let (n, since) := Tbl.get (0, 0) old (target * 4096 + a)
      Tbl.set (0, 0) m (target * 4096 + a) (min 64 (n + 1), if n = 0 then wc else since)) keep
  let lags := lost.foldl
    (fun m a => Tbl.set 0 m (target * 4096 + a) ((Tbl.get 0 m (target * 4096 + a) + 1) % patrolUnits target)) p.lags
  { s with patrol := { p with credits := credits, lags := lags } }.bump O.PATROL_LAG lost.length

/-- The patrol reads one word: an upset is corrected and written back, a double-bit error counted; in the queue table a copy that cannot
correct its word is repaired from the other (R389). -/
def State.patrolWord (s : State) (target array word : Nat) : State :=
  let k := badKey target array word
  if s.badWord target array word then
    if target = 5 ∧ !s.badWord 5 (1 - array) word then (s.setBad 5 array word 1 false).bump O.PATROL_CORRECTED_SCRUB 1
    else s.patrolBad
  else if Tbl.get false s.upWords k then { s with upWords := Tbl.set false s.upWords k false }.bump O.PATROL_CORRECTED_SCRUB 1
  else s

/-- Every word with an error that the unit visits. The Tack store's keys have no place among its units; their errors come with them. -/
def State.patrolWords (s : State) (target cur : Nat) (busy : List Nat) : State :=
  let keys := ((s.badWords ++ s.hardBad ++ s.upWords).map (·.1)).eraseDups.filter fun k =>
    k / 2 ^ 48 == target && target != 6 && s.visits target cur busy (k / 2 ^ 24 % 2 ^ 24) (k % 2 ^ 24)
  keys.foldl (fun (s : State) k => s.patrolWord target (k / 2 ^ 24 % 2 ^ 24) (k % 2 ^ 24)) s

/-- The patrol of line u of the counter and tag cache: an upset is corrected, a second one makes the line uncorrectable. -/
def State.patrolCache (s : State) (u : Nat) : State :=
  let ways := Tbl.get [] s.tagCache (u / 16)
  match ways[u % 16]? with
  | none => s
  | some w =>
    if w.upset = 0 then s
    else if w.upset = 1 then
      { s with tagCache := Tbl.set [] s.tagCache (u / 16) (ways.map fun (x : TagLine) => if x.line = w.line then { x with upset := 0 } else x) }.bump
        O.PATROL_CORRECTED_SCRUB 1
    else (s.patrolBad).cacheBad w

/-- The patrol of block memories: every memory whose ports leave it a cycle is read, and a single upset is written back (R389, R390). -/
def State.patrolMemories (s : State) (cur : Nat) (busy : List Nat) : State :=
  let hits := s.bramUpset.filter fun p => s.visits 9 cur busy (p.1 / 512) (p.1 % 512)
  hits.foldl
    (fun (s : State) p =>
      match upsetCount p.2 with
      | 0 => s
      | 1 => { s with bramUpset := Tbl.set 0 s.bramUpset p.1 0 }.bump O.PATROL_CORRECTED_SCRUB 1
      | _ => s.patrolBad) s

/-- The patrol of a Feed store is a request of its network port, for each credit it spends (R168, R390). -/
def State.patrolFeeds (s : State) (cur : Nat) (busy : List Nat) : State :=
  (List.range 16).foldl
    (fun (s : State) c =>
      if busy.contains c ∨ s.underMarch 2 c ∨ !s.domainRunning (324 + c) then s
      else s.netFeed c (16 * s.arrayWord 2 cur c) (16 * (s.heldCredits 2 c + 1))) s

/-- The regions that the patrol of LPDDR4X sweeps: MODE 1 or 3 with SCRUB set (R369). -/
def State.scrubRegions (s : State) : List Region :=
  ((List.range 16).map (regionAt (s.image O.MEM_REGIONS))).filter fun r => r.valid && (r.mode == 1 || r.mode == 3) && r.flags.testBit 1

/-- The next line at or after a physical address that the patrol sweeps. -/
def State.scrubLine (s : State) (pa : Nat) : Option (Region × Nat) :=
  (s.scrubRegions.filter fun r => decide (pa < r.base + r.size)).foldl
    (fun best r =>
      let a := max pa r.base
      match best with
      | some (_, b) => if a < b then some (r, a) else best
      | none => some (r, a)) none

/-- The patrol of one LPDDR4X line (R369): a corrected symbol is written back, an uncorrectable line counted. -/
def State.patrolLine (s : State) (r : Region) (pa : Nat) (errs : List PatrolErr) : State :=
  let m := s.memCtl pa
  if s.reg (O.MEMC_STATE m) ≠ 2 ∨ !s.domainRunning (380 + m) then s
  else
    let tag := r.tagAddr (r.lineNo pa)
    let n := if r.mode = 3 then 16 else 8
    let put := fun (m : List Host.Cell) (b : List Byte) => dramWrite (dramWrite m pa (b.take 64)) tag (slice 64 n b)
    let raw := dramRead s.dram pa 64 ++ dramRead s.dram tag n
    let hit := errs.foldl
      (fun (l : List Byte) e => match e with
        | .flip b x => splice l (b % (64 + n)) (leBytes 1 (byteAt l (b % (64 + n)) ^^^ (x % 256)))
        | _ => l) raw
    let s1 := { s with dram := put s.dram hit }
    match if s1.lostLine pa then RsResult.uncorrectable else rsDecode hit with
    | .clean => s1
    | .corrected l => { s1 with dram := put s1.dram l }
    | .uncorrectable => (s1.bump O.MEM_SCRUB_UNCORRECTABLE 1).fault 4

/-- A unit has been patrolled: the cursor, the pass and the step go on. -/
def State.unitDone (s : State) (target left next : Nat) (wrap : Bool) : State :=
  let s1 := if wrap then s.passDone target else s.setCursor target next
  let s2 := { s1 with patrol := { s1.patrol with left := some (left - 1), unitAt := s1.now } }
  if left ≤ 1 ∨ (wrap ∧ scrubCount s.scrubNow = 0) then s2.scrubNext else s2

/-- The patrol visits one unit of a target of the die: its errors are put in place, and every word it reads is checked. -/
def State.patrolVisit (s : State) (tg cur : Nat) (errs : List PatrolErr) (bs : List Nat) : State :=
  let s1 := errs.foldl
    (fun (s : State) e =>
      let a := match e with
        | .single a => a
        | .double a _ => a
        | .flip a _ => a
      if s.underMarch tg a ∨ (tg = 9 ∧ bs.contains a) then s else s.patrolErr tg cur e) s
  let s2 := s1.patrolWords tg cur bs
  match tg with
  | 2 => s2.patrolFeeds cur bs
  | 4 => if s2.underMarch 4 0 then s2 else s2.patrolCache cur
  | 9 => s2.patrolMemories cur bs
  | _ => s2

/-- PATROL_UNIT: the patrol visits one unit. `ups` are words upset since the last one, `errs` the errors that have come into this unit;
`busy` names the arrays that keep their own position and whose port has had no free cycle for it (R390), and `wait` is the wait in slots
of an LPDDR4X line (R372). -/
def execPatrolUnit (t : Nat) (ups : List (Nat × Nat × Nat)) (errs : List PatrolErr) (busy : List Nat) (wait : Nat) (s : State) :
    Host.Outcome State Fault Refusal :=
  let s1 := (s.tickTo t).upsets ups
  let w := s1.scrubNow
  let tg := scrubTarget w
  let cur := s1.cursor tg
  .next
    (if !s1.patrolAt 1 ∨ s1.now < s1.patrol.unitAt + scrubArg w * Config.nsUnits then s1
     else if tg = 10 then
       match s1.scrubLine cur with
       | none =>
         if s1.scrubRegions.isEmpty then s1.scrubNext
         else if scrubCount w = 0 then (s1.passDone 10).scrubNext
         else s1.passDone 10
       | some (r, pa) =>
         let s2 := (s1.pipeWait 3 wait).patrolLine r pa errs
         let left := s1.patrol.left.getD (if scrubCount w = 0 then 2 ^ 64 else scrubCount w)
         s2.unitDone 10 left (pa + 64) (s2.scrubLine (pa + 64)).isNone
     else
       let n := patrolUnits tg
       let left := s1.patrol.left.getD (if scrubCount w = 0 then n - cur else scrubCount w)
       let bs := if creditTarget tg then busy.filter (s1.mayBusy tg) else []
       let s2 := s1.patrolVisit tg cur errs bs
       let s3 := if creditTarget tg then s2.giveCredits tg bs else s2
       s3.unitDone tg left (cur + 1) (decide (n ≤ cur + 1)))

/-- The port of a slot's store is taken for a word clock: the engine and its gang stall in it. -/
def State.stealWord (s : State) (slot : Nat) : State :=
  match s.engineOn slot with
  | none => s
  | some e =>
    if s.reg (O.ENG_STATE e) ≠ 4 then s
    else (s.gangOf e).foldl (fun (s : State) m => s.stallEngine m (max s.wc (s.engine m).free) {}) s

/-- FORCED_STEAL: a store that has held a credit for FORCE_AFTER word clocks takes its port for the word at its own position: the engine
and its gang stall for a word clock (R390). -/
def execForcedSteal (t : Nat) (data : Bool) (slot : Fin 528) (s : State) : Host.Outcome State Fault Refusal :=
  let s1 := s.tickTo t
  let tg := b2n data
  let key := tg * 4096 + slot.val
  let (n, since) := Tbl.get (0, 0) s1.patrol.credits key
  let f := s1.reg O.PATROL_FORCE_AFTER
  let wc := s1.now / Config.wordUnits
  .next
    (if f = 0 ∨ n = 0 ∨ wc < since + f then s1
     else
       let u := s1.patrolWord tg slot.val (s1.arrayWord tg (s1.cursor tg) slot.val)
       (({ u with patrol := { u.patrol with credits := Tbl.set (0, 0) u.patrol.credits key (if n = 1 then (0, 0) else (n - 1, wc)) } }).bump
         O.PATROL_STEALS 1).stealWord slot.val)

/-- SCRUB_WAIT_END: a WAIT step ends. -/
def execScrubWaitEnd (t : Nat) (s : State) : Host.Outcome State Fault Refusal :=
  let s1 := s.tickTo t
  .next (if s1.patrolAt 2 ∧ s1.patrol.unitAt + scrubArg s1.scrubNow * Config.usUnits ≤ s1.now then s1.scrubNext else s1)

end Sys2Proof.Machine
end

