-- ==== Sys2Proof/Machine/Network.lean ====
section
/-! DEFINITION. The on-die network (R332 to R352): routes, packets, credits and reservations, fences, isolation, and its objects. A
command is the arrival of a packet or a control flit, or a limit that passes; between commands the stops inject by the rotation of R339. The
positions of flits in their slots are timing and are left out. -/

namespace Sys2Proof.Machine

/-! ### Rings and routes (R332 to R337) -/

/-- The X-ring a ring stop injects on, and the Y-ring it ejects from (*Table 12.1*). -/
def xRing (rs : Nat) : Nat := if rs < 92 then rs / 23 else [0, 1, 2, 3, 1, 2].getD (rs - 92) 0
def yRing (rs : Nat) : Nat :=
  if rs < 92 then
    (let j := rs % 23
     if j < 19 then j % 4 else [3, 0, 1, 2].getD (j - 19) 0)
  else [3, 1, 2, 3, 0, 3].getD (rs - 92) 0

/-- The crossing router at which a packet turns: CR(x, y), Xy of its source and Yx of its destination (R336). -/
def crossing (src dst : Nat) : Nat × Nat := (yRing dst, xRing src)

/-- Flits of n bytes of data. -/
def dataFlits (n : Nat) : Nat := (n + 63) / 64

/-- The clock domain of the block behind a port; `none` where the port has none of its own (R396). -/
def portDomain (rs port : Nat) : Option Nat :=
  let q := rs / 23
  let j := rs % 23
  if rs < 92 then
    if j < 9 then (if port < 4 then some (36 * q + 4 * j + port) else none)
    else if j < 13 then some (324 + 4 * q + (j - 9))
    else if j < 19 then some (356 + 6 * q + (j - 13))
    else if j = 20 then some (380 + 2 * q + port % 2)
    else if j = 22 then some (388 + 2 * q)
    else none
  else if rs = 93 then some 404
  else if rs = 94 then some 406
  else none

/-- Destination and port of a system address: an alias goes to its owner's stop, LPDDR4X to the pipeline of its controller; `none`
where it names nothing (R335, R40, R359, R372). -/
def State.netDecode (s : State) (addr : Nat) : Option (Nat × Nat) :=
  if addr / 2 ^ 40 = 0xC0 then
    let o := addr % 2 ^ 40 / 0x4000 * 256 + addr % 0x4000 / 0x40
    if (cardOf o).isNone then none
    else if inBlock (o / 256) 0x1140 64 then some (if s.reg (O.SES_CONTROLLER (o / 256 - 0x1140)) = 0 then 93 else 94, 0)
    else some (stopOf (o / 256), 0)
  else if addr / 2 ^ 40 ≤ 0x3F then
    if s.memStatus addr = .decode then none
    else
      let m := s.memCtl (paOf addr)
      some (if m < 4 then 96 else 97, m % 4)
  else none

/-! ### Packets (R334) -/

/-- The 128-bit header of a packet (*Table 12.2*). -/
def NetPkt.header (p : NetPkt) : Nat :=
  let kind := match p.kind with
    | .read => 0
    | .write => 1
    | .response _ _ => 2
    | _ => 3
  let st := match p.kind with
    | .response st _ => st.code
    | _ => 0
  (p.flits - 1) * 2 ^ 124 + p.n * 2 ^ 114 + p.addr * 2 ^ 64 + p.dst * 2 ^ 57 + p.dport * 2 ^ 53 + p.src * 2 ^ 46 + p.sport * 2 ^ 42 + p.cls * 2 ^ 40 +
    kind * 2 ^ 38 + st * 2 ^ 34 + p.rsv * 2 ^ 23 + p.txn % 2 ^ 11 * 2 ^ 11

/-- Whether a packet is a request. -/
def NetPkt.request (p : NetPkt) : Bool := p.kind == .read || p.kind == .write

/-- Whether a packet is a response, a reservation request, or a notice of a fence or of its end. -/
def NetPkt.isResponse (p : NetPkt) : Bool := match p.kind with
  | .response _ _ => true
  | _ => false

def NetPkt.isAsk (p : NetPkt) : Bool := match p.kind with
  | .rsvReq _ => true
  | _ => false

def NetPkt.isNotice (p : NetPkt) : Bool := match p.kind with
  | .fence _ => true
  | .unfence _ => true
  | _ => false

/-- Flits of the largest response that a request can draw (R342). -/
def NetPkt.respFlits (p : NetPkt) : Nat := if p.kind = .read then 1 + dataFlits p.n else 1

/-! ### Standing reservations (R343, R344) -/

/-- A used entry of STANDING. -/
structure NetEntry where
  src : Nat
  sport : Nat
  dport : Nat
  dst : Nat
  credits : Nat
  deriving DecidableEq, Repr

/-- The entries of an image after its header, with whether each holds a reserved value; `none` for an unused one. -/
def entriesOf : List Byte → List (Option NetEntry × Bool)
  | a :: b :: c :: _ :: e :: f :: _ :: _ :: r =>
    let credits := e.toNat + 256 * f.toNat
    (if a = 0xFF#8 then (none, false)
     else
       (some ⟨a.toNat, b.toNat / 16, b.toNat % 16, c.toNat, credits⟩,
         decide (97 < a.toNat) || decide (97 < c.toNat) || credits == 0 || decide (128 < credits))) :: entriesOf r
  | _ => []

/-- The used entries of a STANDING image with their numbers. -/
def standing (img : List Byte) : List (Nat × NetEntry) :=
  (((entriesOf (img.drop 16)).map (·.1)).zipIdx).filterMap fun p => p.1.map fun e => (p.2, e)

/-- Entry r of the committed image. -/
def State.entry (s : State) (r : Nat) : Option NetEntry := ((standing (s.image O.NET_STANDING)).find? fun p => p.1 == r).map (·.2)

def State.netResv (s : State) (r : Nat) : NetResv := Tbl.get {} s.netResvs r
def State.setNetResv (s : State) (r : Nat) (x : NetResv) : State := { s with netResvs := Tbl.set {} s.netResvs r x }

/-- Credits of a reservation that its source holds. -/
def State.atSource (s : State) (r : Nat) : Nat :=
  match s.entry r with
  | some e => e.credits - (s.netResv r).away - (s.netResv r).freed
  | none => 0

def State.stop (s : State) (rs : Nat) : NetStop := Tbl.get {} s.stops rs
def State.setStop (s : State) (rs : Nat) (x : NetStop) : State := { s with stops := Tbl.set {} s.stops rs x }

/-- Whether L network cycles have passed since an instant; while the device waits for CLKREF none counts (R402). -/
def State.netPast (s : State) (start l : Nat) : Bool := !s.devWaits && decide (start * 3 + l * 5000 ≤ s.now * 3)

/-! ### Injection (R338 to R340, R342) -/

def NetStop.queue (x : NetStop) (cls : Nat) : List NetPkt := match cls with
  | 0 => x.resp
  | 1 => x.rsv
  | _ => x.demand

def NetStop.setQueue (x : NetStop) (cls : Nat) (l : List NetPkt) : NetStop := match cls with
  | 0 => { x with resp := l }
  | 1 => { x with rsv := l }
  | _ => { x with demand := l }

/-- Flits of the head of a class queue that may go now: those its turn credits and its standing credits allow. A packet to its own
stop is turned inside it. -/
def State.flitsFree (s : State) (rs cls : Nat) (p : NetPkt) : Nat :=
  let turn := if p.dst = rs then p.left else 8 - Tbl.get 0 (s.stop rs).turns ((crossing rs p.dst).1 * 3 + cls)
  let std := if p.request && cls == 1 then s.atSource p.rsv else p.left
  min p.left (min turn std)

/-- A flit of the head of a class queue is injected, and spends its credits. -/
def State.spend (s : State) (rs cls : Nat) (p : NetPkt) : State :=
  let key := (crossing rs p.dst).1 * 3 + cls
  let x := s.stop rs
  let s1 :=
    if p.dst = rs then s
    else (s.setStop rs { x with turns := Tbl.set 0 x.turns key (Tbl.get 0 x.turns key + 1) }).ledMove 0x105A 1 2 1
  if !p.request then s1
  else if cls = 1 then
    let v := s1.netResv p.rsv
    (s1.setNetResv p.rsv { v with away := v.away + 1 }).ledMove 0x1058 1 2 1
  else s1.ledMove 0x1059 2 3 1

/-- Whether a class has a flit that may be injected. -/
def State.mayInject (s : State) (rs cls : Nat) : Bool :=
  match (s.stop rs).queue cls with
  | [] => false
  | p :: _ => decide (0 < s.flitsFree rs cls p)

/-- Inject the next flit of a class; with its last flit a packet is on the network. -/
def State.injectFlit (s : State) (rs cls : Nat) : State :=
  match (s.stop rs).queue cls with
  | [] => s
  | p :: rest =>
    let s1 := s.spend rs cls p
    let p1 := { p with left := p.left - 1 }
    if p1.left = 0 then { s1.setStop rs ((s1.stop rs).setQueue cls rest) with pkts := s1.pkts ++ [p1] }
    else s1.setStop rs ((s1.stop rs).setQueue cls (p1 :: rest))

/-- The rotation of a station's owned slots: RESP, RSV, RESP, DEMAND. -/
def rotClass (n : Nat) : Nat := [0, 1, 0, 2].getD (n % 4) 0

/-- The class that a slot goes to (R339): of an owned slot the one due, if it has a flit waiting; else the highest that has one. -/
def State.slotClass (s : State) (rs : Nat) (own : Bool) : Option Nat :=
  let due := rotClass (s.stop rs).rot
  if own && s.mayInject rs due then some due else [0, 1, 2].find? fun c => s.mayInject rs c

/-- Serve the flits that wait at a stop with the slots that pass it, at most the given number. Which empty slot passes next, an owned or
an unowned one, follows from positions that are left out: a free value. Flits for the stop itself turn inside it and take no slot. -/
def State.serve (s : State) (rs : Nat) : Nat → State
  | 0 => s
  | fuel + 1 =>
    match [0, 1, 2].find? fun c => s.mayInject rs c && (((s.stop rs).queue c).head?.any fun p => p.dst == rs) with
    | some c => (s.injectFlit rs c).serve rs fuel
    | none =>
      match s.slotClass rs false with
      | none => s
      | some _ =>
        let (own, s1) := s.drawBool
        match s1.slotClass rs own with
        | none => s1
        | some c =>
          let s2 := s1.injectFlit rs c
          (if own then s2.setStop rs { s2.stop rs with rot := ((s2.stop rs).rot + 1) % 4 } else s2).serve rs fuel

/-- The network cycle of an instant. -/
def netCycle (t : Nat) : Nat := t * 3 / 5000

/-- Flits that wait at a stop for injection. -/
def NetStop.flitsWaiting (x : NetStop) : Nat := ((x.resp ++ x.rsv ++ x.demand).map (·.left)).foldl (· + ·) 0

/-- n network cycles pass a stop: its flits are served, and each cycle in which one waits counts as an event (*Table 16.10*). -/
def State.serveCounted (s : State) (rs n : Nat) : State :=
  let before := (s.stop rs).flitsWaiting
  let s1 := s.serve rs (2 * n)
  let waited := if (s1.stop rs).flitsWaiting = 0 then min n ((before + 1) / 2) else n
  if before = 0 ∨ n = 0 then s1 else s1.countEvent 2 rs 1 waited

/-- The network as it stands now: in each network cycle since the last command one slot of each lane has passed every stop; none while the
device waits for CLKREF (R402). -/
def State.netTurn (s : State) : State :=
  let c := netCycle s.now
  let n := if s.devWaits then 0 else c - s.netAt
  (s.stops.map (·.1)).foldl (fun (s : State) rs => s.serveCounted rs n) { s with netAt := c }

/-- Put a packet at the end of its class queue. -/
def State.enqueue (s : State) (rs : Nat) (p : NetPkt) : State :=
  let x := s.stop rs
  s.setStop rs (x.setQueue p.cls (x.queue p.cls ++ [p]))

/-- Send a control flit of one flit from a stop. -/
def State.control (s : State) (p : NetPkt) : State := s.enqueue p.src { p with flits := 1, left := 1 }

/-- Ask for the pool on behalf of the oldest ungranted request of a port, one at a time (R345). -/
def State.ask (s : State) (rs port : Nat) : State :=
  let x := s.stop rs
  match x.ungranted.find? fun p => p.sport == port with
  | none => s
  | some p =>
    if x.asking.testBit port then s
    else (s.setStop rs { x with asking := setBit x.asking port true }).control { p with cls := 0, kind := .rsvReq p.flits, data := [], n := 0, addr := 0 }

/-- A request whose response has its place goes on its way: under its standing reservation, or on demand. -/
def State.launch (s : State) (p : NetPkt) : State :=
  let x := s.stop p.src
  let s1 := s.setStop p.src { x with out := x.out ++ [⟨p.txn, p.sport, s.now, p.respFlits, p.addr / 2 ^ 40 == 0xC0⟩] }
  if p.cls = 1 then s1.enqueue p.src p
  else
    let y := s1.stop p.src
    (s1.setStop p.src { y with ungranted := y.ungranted ++ [p] }).ask p.src p.sport

/-- Flits of the RESP area that are reserved. -/
def NetStop.respUsed (x : NetStop) : Nat := (x.out.map (·.resp)).foldl (· + ·) 0

/-- Launch the waiting requests whose responses find room, in order; the last argument bounds them. -/
def State.launchReady (s : State) (rs : Nat) : Nat → State
  | 0 => s
  | fuel + 1 =>
    let x := s.stop rs
    match x.waiting with
    | [] => s
    | p :: rest => if x.respUsed + p.respFlits ≤ 64 then ((s.setStop rs { x with waiting := rest }).launch p).launchReady rs fuel else s

/-- The standing reservation of a route. -/
def State.reservationOf (s : State) (src sport dst dport : Nat) : Option Nat :=
  ((standing (s.image O.NET_STANDING)).find? fun p => p.2 == { p.2 with src := src, sport := sport, dst := dst, dport := dport }).map (·.1)

/-- The answer of a request as the requester sees it. -/
def State.netReply (s : State) (st : Status) (data : List Byte) : State := { s with reply := ⟨st, data⟩ }

/-- A firmware access through an alias that ends on the network with a status other than OKAY latches it and faults (R41). What the target
itself answers it latches there. -/
def State.busFault (s : State) (rs : Nat) (via : Bool) (st : Status) : State :=
  if via ∧ (rs = 93 ∨ rs = 94) ∧ st ≠ .okay then
    (s.setReg (O.MC_LAST_BUS_STATUS (rs - 93)) st.code).raise .controllerAccess 0 (if rs = 93 then .a else .b)
  else s

/-- NETWORK_REQUEST: a block behind a stop asks to read n bytes or to write `data` at a system address (R335, R342, R345, R348). -/
def execNetworkRequest (t : Nat) (src : Fin 98) (sport : Fin 16) (write : Bool) (addr n : Nat) (data : List Byte) (s : State) :
    Host.Outcome State Fault Refusal :=
  let s1 := (s.tickTo t).netTurn
  let bytes := if write then data.length else n
  let flits := 1 + (if write then dataFlits data.length else 0)
  .next
    (if (s1.reg (O.RS_ISOLATED_PORTS src.val)).testBit sport.val then s1.bump (O.RS_DISCARDED src.val) flits
     else
       match s1.netDecode addr with
       | none => ((s1.tally false src.val .decode).busFault src.val (addr / 2 ^ 40 == 0xC0) .decode).netReply .decode []
       | some (dst, dport) =>
         let r := s1.reservationOf src.val sport.val dst dport
         let s2 := s1.ledAdd 0x105B 0 1
         if r.any (fun r => (s2.netResv r).fenced) then
           ((s2.ledAdd 0x105B 2 1).busFault src.val (addr / 2 ^ 40 == 0xC0) .fenced).netReply .fenced []
         else
           let p : NetPkt :=
             { txn := s2.txns, src := src.val, sport := sport.val, dst := dst, dport := dport, cls := if r.isSome then 1 else 2,
               kind := if write then .write else .read, rsv := r.getD 0x7FF, addr := addr, n := bytes, data := data, flits := flits, left := flits }
           let x := s2.stop src.val
           ({ (s2.setStop src.val { x with waiting := x.waiting ++ [p] }) with txns := s2.txns + 1 }.ledAdd 0x105B 4 1).launchReady src.val
             (x.waiting.length + 1))

/-! ### Completion -/

/-- The first packet on the network between two stops that a test names. -/
def State.findPkt (s : State) (src dst : Nat) (f : NetPkt → Bool) : Option NetPkt := s.pkts.find? fun p => p.src == src && p.dst == dst && f p

/-- Take a packet off the network. -/
def State.dropPkt (s : State) (p : NetPkt) : State := { s with pkts := s.pkts.erase p }

/-- The flits of a request have left the ejection buffer of its destination (R344, R345): a standing credit is freed, a flit of the
pool free. -/
def State.freeFlits (s : State) (p : NetPkt) : State :=
  if p.cls = 1 then
    let v := s.netResv p.rsv
    (s.setNetResv p.rsv { v with away := v.away - p.flits, freed := v.freed + p.flits, freedAt := if v.freed = 0 then s.now else v.freedAt }).ledMove
      0x1058 2 3 p.flits
  else
    let x := s.stop p.dst
    (s.setStop p.dst { x with pool := x.pool - p.flits }).ledMove 0x1059 3 1 p.flits

/-- Grant the pool in FIFO order (R345); the last argument bounds the grants. -/
def State.grantPool (s : State) (rs : Nat) : Nat → State
  | 0 => s
  | fuel + 1 =>
    let x := s.stop rs
    match x.fifo with
    | [] => s
    | (p, since) :: rest =>
      let n := match p.kind with
        | .rsvReq n => n
        | _ => 1
      if 64 < x.pool + n then s
      else
        let s1 := ((s.setStop rs { x with fifo := rest, pool := x.pool + n }).ledMove 0x1059 1 2 n).raiseMax O.NET_MAX_DEMAND_WAIT
          ((s.now - since) * 3 / 5000)
        (s1.control { p with src := p.dst, sport := p.dport, dst := p.src, dport := p.sport, kind := .grant }).grantPool rs fuel

/-- A response to a request goes out from its destination, in class RESP. -/
def State.respond (s : State) (p : NetPkt) (st : Status) (byStop : Bool) (data : List Byte) : State :=
  let flits := 1 + dataFlits data.length
  s.enqueue p.dst
    { txn := p.txn, src := p.dst, sport := p.dport, dst := p.src, dport := p.sport, cls := 0, kind := .response st byStop, data := data, flits := flits,
      left := flits }

/-- A destination stop answers a request itself (R347): its flits are free at once. -/
def State.stopAnswers (s : State) (p : NetPkt) (st : Status) : State :=
  let s1 := (((s.freeFlits p).bump (O.RS_ANSWERED p.dst) 1).countEvent 2 p.dst 2 1)
  let s2 := if st = .gated then s1.bump O.CLK_GATED_COUNT 1 else s1
  (s2.respond p st true []).grantPool p.dst 64

/-- A request completes at its requester with a term of ledger 0x105B; waiting requests go on. -/
def State.netDone (s : State) (rs txn term : Nat) (st : Status) (data : List Byte) : State :=
  let x := s.stop rs
  let via := term != 1 && x.out.any fun o => o.txn == txn && o.alias_
  ((((s.setStop rs { x with out := x.out.filter fun o => o.txn != txn }).ledMove 0x105B 4 term 1).busFault rs via st).netReply st data).launchReady
    rs x.waiting.length

/-- Whether the last conditions of R351 for FENCED hold. -/
def State.drained (s : State) (rs : Nat) : Bool :=
  let x := s.stop rs
  x.acks == 0 && x.buf.isEmpty && x.held.isEmpty && x.out.isEmpty && x.waiting.isEmpty

/-- A draining stop enters FENCED once it can. -/
def State.checkFenced (s : State) (rs : Nat) : State :=
  if s.reg (O.RS_FENCE_STATE rs) = 1 ∧ s.drained rs then s.setReg (O.RS_FENCE_STATE rs) 2 else s

/-- The request of a port that waited for the pool is withdrawn, and the next one of the port asks. -/
def State.granted (s : State) (rs txn : Nat) (f : State → NetPkt → State) : State :=
  let x := s.stop rs
  match x.ungranted.find? fun p => p.txn == txn with
  | none => s
  | some p =>
    let s1 := s.setStop rs { x with ungranted := x.ungranted.filter (fun q => q.txn != txn), asking := setBit x.asking p.sport false }
    (f s1 p).ask rs p.sport

/-- RESPONSE: the oldest response from a stop reaches its requester (R335, R349). -/
def execResponse (t : Nat) (src dst : Fin 98) (s : State) : Host.Outcome State Fault Refusal :=
  let s1 := (s.tickTo t).netTurn
  .next
    (match s1.findPkt src.val dst.val NetPkt.isResponse with
     | none => s1
     | some p =>
       let s2 := ((s1.dropPkt p).bump (O.RS_FLITS dst.val) p.flits).countEvent 2 dst.val 0 p.flits
       match p.kind with
       | .response st byStop =>
         if (s2.stop dst.val).out.any (fun o => o.txn == p.txn) then ((s2.netDone dst.val p.txn (if byStop then 2 else 1) st p.data).granted dst.val p.txn fun s _ => s).checkFenced dst.val
         else s2.bump O.NET_LATE_RESPONSES 1
       | _ => s2)

/-- REQ_LIMIT: the oldest request of a stop has had no response for REQ_LIMIT network cycles (R349). -/
def execReqLimit (t : Nat) (rs : Fin 98) (s : State) : Host.Outcome State Fault Refusal :=
  let s1 := (s.tickTo t).netTurn
  .next
    (match (s1.stop rs.val).out with
     | o :: _ =>
       if s1.netPast o.start (s1.reg O.NET_REQ_LIMIT) then
         ((s1.bump O.NET_TIMEOUTS 1).bump O.DEV_TIMEOUT_COUNT 1).netDone rs.val o.txn 3 .timeout [] |>.checkFenced rs.val
       else s1
     | [] => s1)

/-! ### On-demand reservations (R345) -/

/-- A reservation request is refused with FENCED (R350). -/
def State.refuseAsk (s : State) (p : NetPkt) : State :=
  ((s.bump (O.RS_ANSWERED p.dst) 1).countEvent 2 p.dst 2 1).control
    { p with src := p.dst, sport := p.dport, dst := p.src, dport := p.sport, kind := .response .fenced true }

/-- RSV_REQ: the oldest reservation request from a stop reaches its destination (R345, R350). -/
def execRsvReq (t : Nat) (src dst : Fin 98) (s : State) : Host.Outcome State Fault Refusal :=
  let s1 := (s.tickTo t).netTurn
  .next
    (match s1.findPkt src.val dst.val NetPkt.isAsk with
     | none => s1
     | some p =>
       let s2 := s1.dropPkt p
       if s2.reg (O.RS_FENCE_STATE dst.val) ≠ 0 then s2.refuseAsk p
       else
         let x := s2.stop dst.val
         (s2.setStop dst.val { x with fifo := x.fifo ++ [(p, s2.now)] }).grantPool dst.val (x.fifo.length + 1))

/-- RSV_GRANT: the oldest grant from a destination (`src`) reaches the source stop `dst`, which injects the packet in class DEMAND. -/
def execRsvGrant (t : Nat) (src dst : Fin 98) (s : State) : Host.Outcome State Fault Refusal :=
  let s1 := (s.tickTo t).netTurn
  .next
    (match s1.findPkt src.val dst.val (fun p => p.kind == .grant) with
     | none => s1
     | some g => (s1.dropPkt g).granted dst.val g.txn fun s p => s.enqueue dst.val p)

/-! ### Credits (R340, R344) -/

/-- CREDIT_RETURN: freed credits of reservation r come back to its source: 8 have accrued, or 32 network cycles have passed; none
while the destination is fenced. -/
def execCreditReturn (t : Nat) (r : Fin 2048) (s : State) : Host.Outcome State Fault Refusal :=
  let s1 := (s.tickTo t).netTurn
  let v := s1.netResv r.val
  .next
    (match s1.entry r.val with
     | none => s1
     | some e =>
       if v.freed = 0 ∨ s1.reg (O.RS_FENCE_STATE e.dst) ≠ 0 ∨ (v.freed < 8 ∧ !s1.netPast v.freedAt 32) then s1
       else
         (s1.setNetResv r.val { v with freed := 0, freedAt := 0 }).ledMove 0x1058 3 1 v.freed)

/-- TURN_CREDIT_RETURN: a turn credit of a stop for a crossing router and a class comes back. -/
def execTurnCreditReturn (t : Nat) (rs : Fin 98) (y : Fin 4) (cls : Fin 3) (s : State) : Host.Outcome State Fault Refusal :=
  let s1 := (s.tickTo t).netTurn
  let x := s1.stop rs.val
  let key := y.val * 3 + cls.val
  let n := Tbl.get 0 x.turns key
  .next
    (if n = 0 then s1
     else (s1.setStop rs.val { x with turns := Tbl.set 0 x.turns key (n - 1) }).ledMove 0x105A 2 1 1)

/-! ### STANDING (R343) -/

/-- What makes a STANDING commit REFUSED. -/
def standingRefused (img : List Byte) : Bool :=
  let all := entriesOf (img.drop 16)
  let used := all.filterMap (·.1)
  img.length != 16400 || fieldLE img 0 4 != 0x5253564E || all.any (·.2) || (all.getLast?.any fun e => e.1.isSome) ||
    (List.range 98).any (fun d => decide (128 < ((used.filter fun e => e.dst == d).map (·.credits)).foldl (· + ·) 0)) ||
    (List.range used.length).any fun i => (List.range i).any fun j =>
      match used[i]?, used[j]? with
      | some a, some b => a.src == b.src && a.sport == b.sport && a.dst == b.dst && a.dport == b.dport
      | _, _ => false

/-- The owner of STANDING. -/
def ownStanding : ImgOwner := unscheduled fun img s =>
  if standingRefused img then (.refused, s)
  else
    let old := standing (s.image O.NET_STANDING)
    let new := standing img
    let gone := old.filter fun p => !new.contains p
    if gone.any fun p => (s.netResv p.1).away + (s.netResv p.1).freed != 0 then (.busy, s)
    else
      let sum := fun (l : List (Nat × NetEntry)) => (l.map fun p => p.2.credits).foldl (· + ·) 0
      let s1 := ((s.ledSub 0x1058 0 (sum old)).ledSub 0x1058 1 (sum gone)).setImage O.NET_STANDING img
      (.okay, ((s1.ledAdd 0x1058 0 (sum new)).ledAdd 0x1058 1 (sum (new.filter fun p => !old.contains p))))

/-- STANDING. -/
def execStanding (t : Nat) (r : Requester) (crc tt : Nat) (s : State) : Host.Outcome State Fault Refusal :=
  .next ((s.tickTo t).commitObj r O.NET_STANDING crc tt ownStanding)

/-! ### Isolation (R348) -/

/-- Answer a request with ISOLATED. -/
def State.answerIsolated (s : State) (p : NetPkt) (buffered : Bool) : State :=
  if buffered then s.stopAnswers p .isolated
  else ((s.bump (O.RS_ANSWERED p.dst) 1).countEvent 2 p.dst 2 1).respond p .isolated true []

/-- A port is isolated. -/
def State.isolate (s : State) (rs port : Nat) : State :=
  if (s.reg (O.RS_ISOLATED_PORTS rs)).testBit port then s
  else
    let s1 := (((s.setReg (O.RS_ISOLATED_PORTS rs) (setBit (s.reg (O.RS_ISOLATED_PORTS rs)) port true)).fault 5).recovery 5 true).setFlag
      (O.RS_ISOLATIONS rs) 0 (O.RS_ISOLATION_COUNT rs) 1
    let x := s1.stop rs
    let mine := fun (p : NetPkt × Nat) => p.1.dport == port
    let s2 := s1.setStop rs { x with
      buf := x.buf.filter (fun p => !mine p), held := x.held.filter (fun p => !mine p), resetPorts := setBit x.resetPorts port false }
    let s3 := (x.buf.filter mine).foldl (fun (s : State) p => s.answerIsolated p.1 true) s2
    ((x.held.filter mine).foldl (fun (s : State) p => s.answerIsolated p.1 false) s3).checkFenced rs

/-- The shed behind a ring stop is reset: its isolated ports may be freed. -/
def State.noteShedReset (s : State) (rs : Nat) : State := s.setStop rs { s.stop rs with resetPorts := s.reg (O.RS_ISOLATED_PORTS rs) }

/-- STALL_LIMIT: a flit has stood untaken at a port's tether for STALL_LIMIT network cycles. -/
def execStallLimit (t : Nat) (rs : Fin 98) (port : Fin 16) (s : State) : Host.Outcome State Fault Refusal :=
  let s1 := (s.tickTo t).netTurn
  .next (if (s1.stop rs.val).buf.any (fun p => p.1.dport == port.val && s1.netPast p.2 (s1.reg O.NET_STALL_LIMIT)) then s1.isolate rs.val port.val else s1)

/-- RESP_LIMIT: a block has held a request unanswered for RESP_LIMIT network cycles. -/
def execRespLimit (t : Nat) (rs : Fin 98) (port : Fin 16) (s : State) : Host.Outcome State Fault Refusal :=
  let s1 := (s.tickTo t).netTurn
  .next (if (s1.stop rs.val).held.any (fun p => p.1.dport == port.val && s1.netPast p.2 (s1.reg O.NET_RESP_LIMIT)) then s1.isolate rs.val port.val else s1)

/-- The owner of ISOLATE. -/
def ownIsolate (rs : Nat) : Owner := fun v s => (.okay, s.isolate rs (v % 16))

/-- ISOLATE. -/
def execIsolate (t : Nat) (r : Requester) (rs : Fin 98) (v : Nat) (s : State) : Host.Outcome State Fault Refusal :=
  .next ((s.tickTo t).writeObj r (O.RS_ISOLATE rs.val) v (ownIsolate rs.val))

/-- The owner of DEISOLATE. -/
def ownDeisolate (rs : Nat) : Owner := fun v s =>
  if (s.stop rs).resetPorts.testBit (v % 16) && (s.reg (O.RS_ISOLATED_PORTS rs)).testBit (v % 16) then (.okay, s.deisolate rs (2 ^ (v % 16)))
  else (.refused, s)

/-- DEISOLATE. -/
def execDeisolate (t : Nat) (r : Requester) (rs : Fin 98) (v : Nat) (s : State) : Host.Outcome State Fault Refusal :=
  .next ((s.tickTo t).writeObj r (O.RS_DEISOLATE rs.val) v (ownDeisolate rs.val))

/-! ### Bindings (R352) -/

/-- The owner of BINDING: entries that change are rebound, which ends the isolation of their ports. -/
def ownBinding (rs : Nat) : ImgOwner := unscheduled fun img s =>
  if img.length ≠ 32 then (.refused, s)
  else
    let stored := (List.range 16).flatMap fun p => leBytes 2 (byteAt img (2 * p))
    let mask := (List.range 16).foldl (fun m p => if byteAt img (2 * p) = s.binding rs p then m else m + 2 ^ p) 0
    (.okay, (s.setImage (O.RS_BINDING rs) stored).deisolate rs mask)

/-- BINDING. -/
def execBinding (t : Nat) (r : Requester) (rs : Fin 98) (crc tt : Nat) (s : State) : Host.Outcome State Fault Refusal :=
  .next ((s.tickTo t).commitObj r (O.RS_BINDING rs.val) crc tt (ownBinding rs.val))

/-! ### Fences (R350, R351) -/

/-- The standing reservations into a stop. -/
def State.into (s : State) (rs : Nat) : List (Nat × NetEntry) := (standing (s.image O.NET_STANDING)).filter fun p => p.2.dst == rs

/-- A fence moves an OPEN stop to DRAINING: notices go out, and requests on demand are refused. -/
def State.fenceStop (s : State) (rs : Nat) : State :=
  if s.reg (O.RS_FENCE_STATE rs) ≠ 0 then s
  else
    let rsvs := s.into rs
    let x := s.stop rs
    let s1 := (s.setReg (O.RS_FENCE_STATE rs) 1).setStop rs { x with fenceAt := s.now, acks := rsvs.length, fifo := [] }
    let s2 := x.fifo.foldl (fun (s : State) p => s.refuseAsk p.1) s1
    let s3 := rsvs.foldl
      (fun (s : State) p =>
        s.control { txn := 0, src := rs, sport := p.2.dport, dst := p.2.src, dport := p.2.sport, cls := 0, kind := .fence p.1, rsv := p.1, flits := 1, left := 1 }) s2
    s3.checkFenced rs

/-- UNFENCE returns a FENCED stop to OPEN: notices go out, and every held credit may return. -/
def State.unfenceStop (s : State) (rs : Nat) : State :=
  if s.reg (O.RS_FENCE_STATE rs) ≠ 2 then s
  else
    (s.into rs).foldl
      (fun (s : State) p =>
        (s.setNetResv p.1 { s.netResv p.1 with freedAt := 0 }).control
          { txn := 0, src := rs, sport := p.2.dport, dst := p.2.src, dport := p.2.sport, cls := 0, kind := .unfence p.1, rsv := p.1, flits := 1, left := 1 })
      (s.setReg (O.RS_FENCE_STATE rs) 0)

/-- FENCE_NOTICE: the oldest notice, of a fence or of its end, from stop `src` reaches the source stop `dst` of a reservation
(R351). -/
def execFenceNotice (t : Nat) (src dst : Fin 98) (s : State) : Host.Outcome State Fault Refusal :=
  let s1 := (s.tickTo t).netTurn
  .next
    (match s1.findPkt src.val dst.val NetPkt.isNotice with
     | none => s1
     | some p =>
       let s2 := s1.dropPkt p
       match p.kind with
       | .unfence r => s2.setNetResv r { s2.netResv r with fenced := false }
       | .fence r =>
         let x := s2.stop dst.val
         -- packets of the reservation that have not begun complete here with FENCED
         let cut := fun (q : NetPkt) => q.request && q.rsv == r && q.left == q.flits
         let s3 := (s2.setStop dst.val { x with rsv := x.rsv.filter (fun q => !cut q), waiting := x.waiting.filter fun q => !cut q }).setNetResv r { s2.netResv r with fenced := true }
         let s4 := (x.rsv.filter cut ++ x.waiting.filter cut).foldl (fun (s : State) q => s.netDone dst.val q.txn 2 .fenced []) s3
         s4.control { p with src := p.dst, sport := p.dport, dst := p.src, dport := p.sport, cls := 1, kind := .fenceAck r }
       | _ => s2)

/-- FENCE_ACK: an acknowledgement from stop `src` reaches the fenced stop `dst`, behind the reservation's last packet. -/
def execFenceAck (t : Nat) (src dst : Fin 98) (s : State) : Host.Outcome State Fault Refusal :=
  let s1 := (s.tickTo t).netTurn
  .next
    (match s1.findPkt src.val dst.val (fun p => p.cls == 1) with
     | none => s1
     | some p =>
       match p.kind with
       | .fenceAck _ =>
         let s2 := s1.dropPkt p
         let x := s2.stop dst.val
         (s2.setStop dst.val { x with acks := x.acks - 1 }).checkFenced dst.val
       | _ => s1)

/-- DRAIN_LIMIT: FENCED has not been reached within DRAIN_LIMIT network cycles: the ports that still hold work are isolated. -/
def execDrainLimit (t : Nat) (rs : Fin 98) (s : State) : Host.Outcome State Fault Refusal :=
  let s1 := (s.tickTo t).netTurn
  let x := s1.stop rs.val
  .next
    (if s1.reg (O.RS_FENCE_STATE rs.val) ≠ 1 ∨ !s1.netPast x.fenceAt (s1.reg O.NET_DRAIN_LIMIT) then s1
     else
       let ports := (List.range 16).filter fun p =>
         x.buf.any (fun q => q.1.dport == p) || x.held.any (fun q => q.1.dport == p) || x.out.any (fun o => o.sport == p)
       let s2 := ports.foldl (fun (s : State) p => s.isolate rs.val p) s1
       (s2.setStop rs.val { s2.stop rs.val with acks := 0 }).setReg (O.RS_FENCE_STATE rs.val) 2)

/-! ### Events (R341) -/

/-- NETWORK_EVENT: a block behind a port raises its event; the cause stays at the stop, and the event reaches the stop of the controller of
its half, or of that one's partner (R15). The X-ring of a spine stop gives its half. -/
def execNetworkEvent (t : Nat) (rs : Fin 98) (port : Fin 16) (s : State) : Host.Outcome State Fault Refusal :=
  let s1 := s.tickTo t
  .next ((s1.setFlag (O.RS_EVENT_PENDING rs.val) port.val (O.RS_EVENT_COUNT rs.val) 1).raise .network (16 * rs.val + port.val)
    (s1.halfCtl (xRing rs.val)))

/-! ### Limits -/

/-- The owner of RESP_LIMIT: REQ_LIMIT stays at least twice it (R349). -/
def ownRespLimit : Owner := fun v s =>
  if s.reg O.NET_REQ_LIMIT < 2 * v then (.refused, s) else (.okay, s.setReg O.NET_RESP_LIMIT v)

/-- The owner of REQ_LIMIT. -/
def ownReqLimit : Owner := fun v s =>
  if v < 2 * s.reg O.NET_RESP_LIMIT then (.refused, s) else (.okay, s.setReg O.NET_REQ_LIMIT v)

end Sys2Proof.Machine
end

