-- ==== Sys2Proof/Machine/Triggers.lean ====
section
/-! DEFINITION. The trigger units (R95 to R97): output trains, their pulses, cancels and mode writes; input edges and their records. -/

namespace Sys2Proof.Machine

def State.trig (s : State) (u : Nat) : Trig := Tbl.get {} s.trigs u
def State.setTrig (s : State) (u : Nat) (x : Trig) : State := { s with trigs := Tbl.set {} s.trigs u x }

/-! ### Output trains (R95) -/

/-- The first tick boundary strictly after now (R87). -/
def State.nextTick (s : State) : Nat := (s.now / Config.tickUnits + 1) * Config.tickUnits

/-- Whether a running train has ended: no pulse is in progress, and none is left or a cancel has taken effect before the next. -/
def State.trainOver (s : State) (u : Nat) : Bool :=
  let x := s.trig u
  !x.inPulse && (x.left == 0 || x.cancelAt != 0 && decide (x.cancelAt ≤ x.nextEdge) && decide (x.cancelAt ≤ s.now))

/-- OUT_STATE as it reads. -/
def State.outState (s : State) (u : Nat) : Nat := if s.reg (O.TRIG_OUT_STATE u) = 2 ∧ s.trainOver u then 0 else s.reg (O.TRIG_OUT_STATE u)

/-- A train that has ended leaves its unit idle. -/
def State.settleTrain (s : State) (u : Nat) : State :=
  if s.reg (O.TRIG_OUT_STATE u) = 2 ∧ s.trainOver u then (s.setReg (O.TRIG_OUT_STATE u) 0).setTrig u { rcd := (s.trig u).rcd, holds := (s.trig u).holds } else s

/-- The owner of ARM. -/
def ownTrigArm (u : Nat) : Owner := arming (O.TRIG_AT u) false fun s0 =>
  let s := s0.settleTrain u
  let count := s.reg (O.TRIG_COUNT u)
  let width := 2 * s.reg (O.TRIG_WIDTH u)
  let period := s.reg (O.TRIG_PERIOD u)
  if s.reg (O.TRIG_OUT_STATE u) ≠ 0 then (.busy, s)
  else if count = 0 ∨ period < 40000 ∨ (count > 1 ∧ width ≥ period) then (.refused, s)
  else
    match s.armAction .trigger u (s.reg (O.TRIG_AT u)) 0 with
    | (.okay, s1) =>
      (.okay, (s1.setTrig u { s1.trig u with count := count, width := width, period := period }).setReg (O.TRIG_OUT_STATE u) 1)
    | r => r

/-- ARM. -/
def execArm (t : Nat) (r : Requester) (u : Fin 16) (v : Bool) (s : State) : Host.Outcome State Fault Refusal :=
  .next ((s.tickTo t).writeObj r (O.TRIG_ARM u.val) (b2n v) (ownTrigArm u.val))

/-- Cancel a train (R87, R95): a pending one as any action; of a running one, the pulses whose leading edges fall at or after the next
tick boundary. -/
def State.cancelTrain (s0 : State) (u : Nat) : Status × State :=
  let s := s0.settleTrain u
  let x := s.trig u
  match s.reg (O.TRIG_OUT_STATE u) with
  | 1 =>
    match s.cancelAction .trigger u with
    | (.okay, s1) => (.okay, s1.setReg (O.TRIG_OUT_STATE u) 0)
    | r => r
  | 2 =>
    if x.left = 0 ∨ x.cancelAt ≠ 0 ∨ x.nextEdge + (x.left - 1) * x.period < s.nextTick then (.refused, s)
    else (.okay, s.setTrig u { x with cancelAt := s.nextTick })
  | _ => (.refused, s)

/-- The owner of CANCEL. -/
def ownTrigCancel (u : Nat) : Owner := command fun s => s.cancelTrain u

/-- CANCEL. -/
def execCancel (t : Nat) (r : Requester) (u : Fin 16) (v : Bool) (s : State) : Host.Outcome State Fault Refusal :=
  .next ((s.tickTo t).writeObj r (O.TRIG_CANCEL u.val) (b2n v) (ownTrigCancel u.val))

/-- A pulse begins at an instant; `left` more follow. -/
def State.beginPulse (s : State) (u edge left : Nat) : State :=
  let x := s.trig u
  (s.setTrig u { x with left := left, nextEdge := edge + x.period, inPulse := true, pulseEnd := edge + x.width }).bump (O.TRIG_PULSES u) 1

/-- TRIGGER_PULSE: the leading edge of the first pulse at AT, or of the next one; a train whose unit is not in output mode at its
instant completes with REFUSED and counts as cancelled. -/
def execTriggerPulse (t : Nat) (u : Fin 16) (s : State) : Host.Outcome State Fault Refusal :=
  let s1 := (s.tickTo t).settleTrain u.val
  let x := s1.trig u.val
  .next
    (match s1.sched .trigger u.val with
     | some a =>
       if !s1.due .trigger u.val a then s1
       else if s1.reg (O.TRIG_MODE u.val) ≠ 1 then (s1.endAction .trigger u.val 2).setReg (O.TRIG_OUT_STATE u.val) 0
       else ((s1.endAction .trigger u.val 1).setReg (O.TRIG_OUT_STATE u.val) 2).beginPulse u.val (s1.schedInstant a) (x.count - 1)
     | none =>
       if s1.reg (O.TRIG_OUT_STATE u.val) = 2 ∧ 0 < x.left ∧ x.nextEdge ≤ s1.now ∧ (x.cancelAt = 0 ∨ x.nextEdge < x.cancelAt) then
         s1.beginPulse u.val x.nextEdge (x.left - 1)
       else s1)

/-- PULSE_END: a pulse ends after WIDTH, and with the last one the train. -/
def execPulseEnd (t : Nat) (u : Fin 16) (s : State) : Host.Outcome State Fault Refusal :=
  let s1 := s.tickTo t
  let x := s1.trig u.val
  .next (if x.inPulse ∧ x.pulseEnd ≤ s1.now then (s1.setTrig u.val { x with inPulse := false }).settleTrain u.val else s1)

/-- The level a trigger pad drives, `none` where it does not drive: the pulse under POLARITY; a pulse that has begun completes before
the pad takes another mode. While the pad-state latch is engaged it is *Table 15.9*'s level, and high impedance until start-up has
released it (*Table 11.7*). -/
def State.trigPad (s : State) (u : Nat) : Option Bool :=
  let x := s.trig u
  if x.holds.testBit 0 then none
  else if x.holds ≠ 0 then (if s.reg (O.TRIG_MODE u) = 1 then some (s.reg (O.TRIG_POLARITY u) == 1) else none)
  else if s.reg (O.TRIG_MODE u) = 1 ∨ x.inPulse then some (x.inPulse != (s.reg (O.TRIG_POLARITY u) == 1)) else none

/-- Engage or release the pad-state latch of a trigger for a cause; a pulse in progress is cut (*Table 15.9*). -/
def State.holdTrig (s : State) (u cause : Nat) (on : Bool) : State :=
  let x := s.trig u
  s.setTrig u { x with holds := setBit x.holds cause on, inPulse := x.inPulse && !on }

/-! ### Input records (R96) -/

/-- The granule of a record (*Table 3.11*). -/
def TrigRec.granule (r : TrigRec) (u : Nat) : List Byte :=
  leBytes 20 r.stamp ++ leBytes 1 u ++ leBytes 1 r.edge ++ leBytes 2 r.coalesced ++ fill 8 0

/-- Close an open record: it is offered to QUEUE. -/
def State.closeTrigRec (s : State) (u : Nat) : State :=
  let x := s.trig u
  match x.rcd with
  | none => s
  | some r => (s.setTrig u { x with rcd := none }).offer (s.reg (O.TRIG_QUEUE u)) (Producer.trigger.who (u + 16 * r.beyond)) (r.granule u)

/-- Whether DEADTIME of an open record has ended. -/
def State.deadOver (s : State) (u : Nat) : Bool :=
  match (s.trig u).rcd with
  | some r => decide (r.openAt + 2 * s.reg (O.TRIG_DEADTIME u) ≤ s.now)
  | none => false

/-- TRIGGER_INPUT_EDGE: an edge at a trigger ball; a selected one opens a record or joins the open one, and is the event of wake source
7 for the trigger that WAKE_TRIG names (R415). -/
def execTriggerInputEdge (t : Nat) (u : Fin 16) (rising : Bool) (s : State) : Host.Outcome State Fault Refusal :=
  let s0 := s.tickTo t
  let pol := s0.reg (O.TRIG_POLARITY u.val)
  .next
    (if s0.reg (O.TRIG_MODE u.val) ≠ 2 ∨ (s0.trig u.val).holds.testBit 0 ∨ !(pol == 2 || rising == (pol == 0)) then s0
     else
       let s00 := if s0.reg O.PWR_WAKE_TRIG = u.val then s0.wakeAt 7 else s0
       let s1 := if s00.deadOver u.val then s00.closeTrigRec u.val else s00
       let s2 := (s1.ledAdd 0x1046 0 1).ledAdd 0x1046 3 1
       let x := s2.trig u.val
       match x.rcd with
       | none => s2.setTrig u.val { x with rcd := some ⟨s2.stampNow, b2n rising, 0, 0, s2.now⟩ }
       | some r =>
         s2.setTrig u.val { x with
           rcd := some (if r.coalesced < 65535 then { r with coalesced := r.coalesced + 1 } else { r with beyond := r.beyond + 1 }) })

/-- DEADTIME_END: the record is written to its queue or dropped. -/
def execDeadtimeEnd (t : Nat) (u : Fin 16) (s : State) : Host.Outcome State Fault Refusal :=
  let s1 := s.tickTo t
  .next (if s1.deadOver u.val then s1.closeTrigRec u.val else s1)

/-- The owner of MODE of a trigger (R95, R96). -/
def ownTrigMode (u : Nat) : Owner := fun v s =>
  let old := s.reg (O.TRIG_MODE u)
  let s1 := if old = 2 ∧ v ≠ 2 then s.closeTrigRec u else s
  let s2 := if old = 1 ∧ v ≠ 1 ∧ s1.reg (O.TRIG_OUT_STATE u) = 2 then (s1.cancelTrain u).2 else s1
  (.okay, s2.setReg (O.TRIG_MODE u) v)

/-- TRIGGER_MODE_WRITE. -/
def execTriggerModeWrite (t : Nat) (r : Requester) (u : Fin 16) (v : Nat) (s : State) : Host.Outcome State Fault Refusal :=
  .next ((s.tickTo t).writeObj r (O.TRIG_MODE u.val) v (ownTrigMode u.val))

/-- The owner of QUEUE of a trigger: 0 to 32,767. -/
def ownTrigQueue (u : Nat) : Owner := fun v s => if v < 32768 then (.okay, s.setReg (O.TRIG_QUEUE u) v) else (.refused, s)

end Sys2Proof.Machine
end

