-- ==== Sys2Proof/Machine/Sessions.lean ====
section
/-! DEFINITION. Kisko sessions and streams as they open and close (R55 to R61), and the charge latch with its heartbeats (R62 to
R68). -/

namespace Sys2Proof.Machine

/-! ### Transfers that are aborted (R44) -/

/-- An open transfer is aborted with nothing committed; a partial stream's shadow plane is discarded, and a program's hold on the load
buffer ends. -/
def State.abortXfer (s : State) (o : Nat) : State :=
  let s1 := (s.setXfer o none).bump O.KISKO_SEG_ABORTS 1
  let i := o / 256
  if inBlock i 0x1810 24 then (if o = O.PAD_STREAM (i - 0x1810) then s1.dropShadow (i - 0x1810) else s1)
  else if inBlock i 0x2400 512 then (if o = O.ENG_PROGRAM (i - 0x2400) then s1.settleBuffer (i - 0x2400) else s1)
  else s1

/-- Abort every open transfer that an opener holds. -/
def State.abortOf (s : State) (r : Requester) : State :=
  s.xfers.foldl (fun (s : State) e => if e.2.any (fun x => x.opener == r) then s.abortXfer e.1 else s) s

/-! ### Streams (R60, R61, R229) -/

/-- Open streams of the device, and those of a session. -/
def State.openStreams (s : State) : List (Nat × Stream) := s.streams.filter fun p => p.2.isOpen
def State.streamsOf (s : State) (slot : Nat) : List (Nat × Stream) := s.openStreams.filter fun p => p.2.slot == slot

/-- Open a stream on a queue: `toDevice` makes it the producer. STREAM is the lowest free number. -/
def State.openStream (s : State) (slot q : Nat) (toDevice : Bool) (credit : Nat) : Status × Nat × State :=
  let c := s.queue q
  let taken := if toDevice then c.pkind != 0 else c.ckind != 0 || s.fabricConsumes q || s.yardConsumes q
  if (s.streamsOf slot).length ≥ 4 ∨ s.openStreams.length ≥ 128 ∨ taken ∨ (s.streamOn q toDevice).isSome then (.busy, 0, s)
  else
    let i := ((List.range 128).find? fun i => !(s.stream i).isOpen).getD 0
    let c1 := if toDevice then { c with pkind := 6 } else { c with ckind := 6 }
    let s1 := (s.setQueue q c1).setStream i
      { isOpen := true, slot := slot, queue := q, toDevice := toDevice, credit := if toDevice then 0 else credit, lastAck := s.now }
    (.okay, i, s1)

/-- Close a stream: what a device-to-host stream sent and had not acknowledged stays in the ring, and the queue's kind returns to 0. -/
def State.closeStream (s : State) (i : Nat) : State :=
  let x := s.stream i
  if !x.isOpen then s
  else
    let c := s.queue x.queue
    let c1 := if x.toDevice then { c with pkind := 0 } else { c with ckind := 0 }
    let s1 := (s.setStream i {}).setQueue x.queue c1
    if x.toDevice then s1 else s1.ledMove 0x1042 2 3 (x.next - x.acked)

/-! ### Sessions (R55, R58, R59) -/

/-- A slot is freed: a challenged one, or a session with its transfers and streams; OPENINGS of the slot counts a session that was
open. -/
def State.closeSession (s : State) (i : Nat) : State :=
  if h : i < 64 then
    let st := s.reg (O.SES_STATE i)
    if st = 0 then s
    else if st = 1 then ((s.setSession i { opens := (s.session i).opens }).setReg (O.SES_STATE i) 0).ledMove 0x1041 2 1 1
    else
      let s1 := (s.streamsOf i).foldl (fun (s : State) p => s.closeStream p.1) (s.abortOf (.session ⟨i, h⟩))
      ((s1.setSession i { opens := (s1.session i).opens + 1 }).setReg (O.SES_STATE i) 0).ledMove 0x1041 3 1 1
  else s

/-- Close every session bound to a controller. -/
def State.closeSessions (s : State) (c : Ctl) : State :=
  (List.range 64).foldl (fun (s : State) i => if s.reg (O.SES_CONTROLLER i) = c.num then s.closeSession i else s) s

/-- The owner of CLOSE of a slot. -/
def ownClose (i : Nat) : Owner := command fun s => (.okay, s.closeSession i)

/-- SESSION_TIMEOUT: no datagram with a correct MAC has come for SESSION_TIMEOUT; not counted while the controller is absent (R431). -/
def execSessionTimeout (t : Nat) (slot : Fin 64) (s : State) : Host.Outcome State Fault Refusal :=
  let s1 := s.tickTo t
  let i := slot.val
  .next
    (if s1.reg (O.SES_STATE i) ≠ 0 ∧ !s1.isSet (O.MC_DEBUG_ABSENT (s1.reg (O.SES_CONTROLLER i))) ∧
        (s1.session i).lastGood + s1.reg O.KISKO_SESSION_TIMEOUT * Config.msUnits ≤ s1.now then s1.closeSession i
     else s1)

/-! ### The charge latch (R62 to R68) -/

def State.ctl (s : State) (c : Ctl) : CtlState := Tbl.get {} s.ctls c.num
def State.setCtl (s : State) (c : Ctl) (x : CtlState) : State := { s with ctls := Tbl.set {} s.ctls c.num x }

/-- HOLDER's code for a controller (*Table 2.16*). -/
def holderCode (c : Ctl) : Nat := c.num + 1

/-- A controller becomes holder: EPOCH increments and CHANGE is set. -/
def State.setHolder (s : State) (c : Ctl) : State :=
  (((s.setReg O.LATCH_HOLDER (holderCode c)).setReg O.LATCH_LATCH_STATE 1).bump O.LATCH_EPOCH 1).setFlag O.LATCH_CHANGE 0 O.LATCH_CHANGE_COUNT 1

/-- The owner of CLAIM as a controller writes it: allowed in NONE. -/
def ownClaim (c : Ctl) : Owner := fun v s =>
  if v ≠ 0x5A ∨ s.reg O.LATCH_LATCH_STATE ≠ 0 then (.refused, s) else (.okay, s.setHolder c)

/-- CLAIM: one write, or the CLAIMs of both controllers in one cycle, of which MC-A's is taken first (R68). -/
def execClaim (t : Nat) (w : Claimants) (s : State) : Host.Outcome State Fault Refusal :=
  let s1 := s.tickTo t
  .next
    (match w with
     | .one r v => s1.writeObj r O.LATCH_CLAIM v (ownClaim (s1.ctlOf r))
     | .both va vb => (s1.writeObj (.firmware .a) O.LATCH_CLAIM va (ownClaim .a)).writeObj (.firmware .b) O.LATCH_CLAIM vb (ownClaim .b))

/-- The owner of OFFER: the holder, in HELD (R67). -/
def ownOffer (c : Ctl) : Owner := fun v s =>
  if v ≠ 0x5A ∨ s.reg O.LATCH_LATCH_STATE ≠ 1 ∨ s.holder ≠ some c then (.refused, s)
  else (.okay, { s.setReg O.LATCH_LATCH_STATE 2 with offerAt := s.now })

/-- OFFER. -/
def execOffer (t : Nat) (r : Requester) (v : Nat) (s : State) : Host.Outcome State Fault Refusal :=
  let s1 := s.tickTo t
  .next (s1.writeObj r O.LATCH_OFFER v (ownOffer (s1.ctlOf r)))

/-- The owner of ACCEPT: the partner of the holder, in OFFERED. -/
def ownAccept (c : Ctl) : Owner := fun v s =>
  if v ≠ 0x5A ∨ s.reg O.LATCH_LATCH_STATE ≠ 2 ∨ s.holder ≠ some c.partner then (.refused, s) else (.okay, s.setHolder c)

/-- ACCEPT. -/
def execAccept (t : Nat) (r : Requester) (v : Nat) (s : State) : Host.Outcome State Fault Refusal :=
  let s1 := s.tickTo t
  .next (s1.writeObj r O.LATCH_ACCEPT v (ownAccept (s1.ctlOf r)))

/-- OFFER_TIMEOUT: the offer has stood open for OFFER_TIMEOUT; the latch returns to HELD and the holder is interrupted (R67). An ACCEPT in
the always-on cycle in which the time ends is taken (R68): that cycle has passed. If the holder has missed its third window meanwhile,
HOLDER_LOST follows at its next missed window. -/
def execOfferTimeout (t : Nat) (s : State) : Host.Outcome State Fault Refusal :=
  let s1 := s.tickTo t
  .next
    (if s1.reg O.LATCH_LATCH_STATE = 2 ∧ (s1.offerAt + s1.reg O.LATCH_OFFER_TIMEOUT * Config.msUnits) / Config.aonUnits < s1.now / Config.aonUnits then
      match s1.holder with
      | some c => (s1.setReg O.LATCH_LATCH_STATE 1).raise .offerAborted 0 c
      | none => s1
     else s1)

/-- A heartbeat of a controller (R65). -/
def State.heartbeat (s : State) (c : Ctl) : State :=
  let s1 := (s.setCtl c { s.ctl c with hbSeen := true }).setReg (O.MC_HB_MISSED c.num) 0
  let s2 := if s1.reg (O.MC_FW_STATE c.num) = 1 then s1 else s1.setReg (O.MC_FW_STATE c.num) 1
  if s2.reg O.LATCH_LATCH_STATE = 3 ∧ s2.holder = some c then s2.setReg O.LATCH_LATCH_STATE 1 else s2

/-- The owner of HEARTBEAT of controller x. -/
def ownHeartbeat (x : Ctl) : Owner := fun _ s => (.okay, s.heartbeat x)

/-- HEARTBEAT. -/
def execHeartbeat (t : Nat) (r : Requester) (x : Ctl) (v : Nat) (s : State) : Host.Outcome State Fault Refusal :=
  .next ((s.tickTo t).writeObj r (O.MC_HEARTBEAT x.num) v (ownHeartbeat x))

/-- The owner of TAKE: the partner of the holder, in HOLDER_LOST. -/
def ownTake (c : Ctl) : Owner := fun v s =>
  if v ≠ 0x5A ∨ s.reg O.LATCH_LATCH_STATE ≠ 3 ∨ s.holder ≠ some c.partner then (.refused, s) else (.okay, s.setHolder c)

/-- TAKE; with a heartbeat of the holder in the same cycle, the heartbeat is taken first (R68). -/
def execTake (t : Nat) (r : Requester) (v : Nat) (heartbeat : Bool) (s : State) : Host.Outcome State Fault Refusal :=
  let s1 := s.tickTo t
  let s2 := match heartbeat, s1.holder with
    | true, some c => s1.heartbeat c
    | _, _ => s1
  .next (s2.writeObj r O.LATCH_TAKE v (ownTake (s2.ctlOf r)))

/-- The owner of HANDOVER_REQUEST: an interrupt at the holder. -/
def ownHandoverRequest : Owner := command fun s =>
  match s.holder with
  | some c => (.okay, s.raise .handoverRequest 0 c)
  | none => (.okay, s)

/-- HANDOVER_REQUEST. -/
def execHandoverRequest (t : Nat) (r : Requester) (v : Bool) (s : State) : Host.Outcome State Fault Refusal :=
  .next ((s.tickTo t).writeObj r O.LATCH_HANDOVER_REQUEST (b2n v) ownHandoverRequest)

/-- The window of R65 ends for one controller: not counted while DEVICE_STATE is 4 (R402), DEBUG_ABSENT is set or its shed is not ON
(R408, R431), nor where it began before a release. -/
def State.windowEnd (s : State) (c : Ctl) : State :=
  let x := s.ctl c
  if s.devWaits ∨ s.isSet (O.MC_DEBUG_ABSENT c.num) ∨ s.reg (O.SHED_STATE (93 + c.num)) ≠ 0 then s.setCtl c { x with hbSeen := false, skipWindow := true }
  else
    let s1 := (s.setCtl c { x with hbSeen := false, skipWindow := false }).setBool (O.MC_PRESENT c.num) x.hbSeen
    if x.hbSeen ∨ x.skipWindow then s1
    else
      let s2 := s1.setReg (O.MC_HB_MISSED c.num) (min 255 (s1.reg (O.MC_HB_MISSED c.num) + 1))
      if s2.holder = some c ∧ s2.reg O.LATCH_LATCH_STATE = 1 ∧ s2.reg (O.MC_HB_MISSED c.num) ≥ 3 then
        (s2.setReg O.LATCH_LATCH_STATE 3).fault 7
      else s2

/-- The edge at which the present 1 ms window of TT began, at a multiple of 100,000 ticks. -/
def State.windowEdge (s : State) : Nat := s.now / Config.tickUnits - s.tick % 100000

/-- HEARTBEAT_WINDOW_END: the end of a window, at both controllers, in the always-on cycle after the one in which it falls: an OFFER in that
cycle is taken first (R68). -/
def execHeartbeatWindowEnd (t : Nat) (s : State) : Host.Outcome State Fault Refusal :=
  let s1 := s.tickTo t
  .next
    (if s1.now / Config.aonUnits = s1.windowEdge * Config.tickUnits / Config.aonUnits + 1 ∧ s1.windowEdge ≠ s1.windowAt then
      { (s1.windowEnd .a).windowEnd .b with windowAt := s1.windowEdge }
     else s1)

end Sys2Proof.Machine
end

