-- ==== Sys2Proof/Machine/Sheds.lean ====
section
/-! DEFINITION. Sheds and their resets (R405 to R409), shed programs (R410 to R412), sleep and wake (R414 to R417), and the watchdogs'
counts as sheds and halts freeze them (R432, R433). -/

namespace Sys2Proof.Machine

/-! ### Watchdog counts (R432, R433) -/

/-- Whether the watchdog of a controller is frozen. -/
def State.wdFrozen (s : State) (c : Ctl) : Bool :=
  s.reg (O.RUN_RUN_STATE c.num) == 2 || (s.ctl c).stepping || s.reg (O.SHED_STATE (93 + c.num)) != 0 || s.devWaits

/-- REMAINING as it reads. -/
def State.wdRemaining (s : State) (c : Ctl) : Nat :=
  let x := s.ctl c
  if s.isSet (O.WD_ENABLE c.num) ∧ !s.wdFrozen c then x.wdLeft - (s.now - x.wdAt) / Config.usUnits else x.wdLeft

/-- REMAINING is kept as it stands, before a freeze begins. -/
def State.wdKeep (s : State) (c : Ctl) : State := s.setCtl c { s.ctl c with wdLeft := s.wdRemaining c, wdAt := s.now }

/-- REMAINING reloads to TIMEOUT. -/
def State.wdReload (s : State) (c : Ctl) : State :=
  s.setCtl c { s.ctl c with wdLeft := s.reg (O.WD_TIMEOUT c.num), wdAt := s.now, wdPre := false }

/-! ### What a shed reset resets (R9, R407, R409) -/

/-- Objects return to their defaults: those `f` names, with the transfers open on them. -/
def State.resetObjs (s : State) (f : Nat → Bool) : State :=
  let s1 := s.xfers.foldl (fun (s : State) e => if e.2.isSome && f e.1 then s.abortXfer e.1 else s) s
  { s1 with
    regs := s1.regs.filter (fun e => !f e.1), images := s1.images.filter (fun e => !f e.1), past := s1.past.filter (fun e => !f e.1), held := s1.held.filter (fun e => !f e.1),
    aliasWins := s1.aliasWins.filter (fun e => !f e.1), flagCycle := s1.flagCycle.filter (fun e => !f (e.1 / 64)) }

/-- Objects behind a ring stop that a shed reset leaves: the engine remaps with the state of the spares (R166, R407), and the link keys,
which lie in the Tack store (*Table 9.14*). -/
def shedKeeps (o : Nat) : Bool :=
  let i := o / 256
  (inBlock i 0x2400 512 && (o % 256 == 0x22 || o % 256 == 0x23)) || (List.range 16).any (fun c => o == O.CLU_SPARE_STATE c || o == O.CLU_SPARE_FOR c) ||
    (List.range 4).any fun p => o == O.YARD_LINK_KEY0 p || o == O.YARD_LINK_KEY0 p + 1

/-- Whether an object lies in a shed: the objects behind its ring stop that are not kept; and for a controller its port and its debug
registers. -/
def shedHas (sh o : Nat) : Bool :=
  let i := o / 256
  if sh = 93 ∨ sh = 94 then i == 0x1100 + (sh - 93) || i == 0x3A10 + (sh - 93)
  else decide (sh < 92) && stopOf i == sh && !shedKeeps o

/-- The Paddock in which a block memory lies. -/
def memPaddock (m : Nat) : Option Nat := let l := memLoc m 0 0; paddockOf (locQuad l) (locCol l) (locRow l)

/-- Block memories of the shed at block j of quadrant q (a Paddock or the static fabric) hold nothing. -/
def State.clearMems (s : State) (f : Nat → Bool) : State :=
  { s with
    bram := s.bram.filter (fun e => !f (e.1 / 512)), bramUpset := s.bramUpset.filter (fun e => !f (e.1 / 512)),
    bramOut := s.bramOut.filter (fun e => !f (e.1 / 2)) }

/-- The state of a shed's blocks behind their objects takes its reset value. Configuration cells are fields too: a Paddock's planes and
the static region's frames return to the unconfigured state. -/
def State.resetBlock (s : State) (sh : Nat) : State :=
  let q := sh / 23
  let j := sh % 23
  if 92 ≤ sh then s
  else if j < 9 then
    let s1 := (List.range 4).foldl
      (fun (s : State) i =>
        let ch := 36 * q + 4 * j + i
        let h := (s.chan ch).holds
        let s0 := s.dropFails ch
        let s1 := { s0.setChan ch { holds := h } with sers := Tbl.set {} s.sers ch {} }
        (s1.setBool (O.CH_PAD_LATCHED ch) (h != 0)).setReg (O.CH_STATE ch) (if h = 0 then 0 else 4)) s
    { s1 with hbits := s1.hbits.filter fun b => b.ch / 4 != 9 * q + j }
  else if j < 13 then
    let c := 4 * q + (j - 9)
    let s1 := (List.range 32).foldl
      (fun (s : State) i => let s1 := s.resFlush (32 * c + i); s1.setEngine (32 * c + i) { failed := (s1.engine (32 * c + i)).failed }) s
    { s1 with clusters := Tbl.set {} s1.clusters c {}, progPatch := s1.progPatch.filter fun p => p.1 / 2 ^ 11 / 32 != c }
  else if j < 19 then
    let p := 6 * q + (j - 13)
    let s1 := { s.clearShadow p with live := s.live.filter (fun e => !inPaddock p e.1), refs := (s.clearShadow p).refs.filter fun e => e.1 != p }.dropLogic (inPaddock p)
    ((((s1.setPad p {}).setReg (O.PAD_LIVE_ID p) 0).setReg (O.PAD_SHADOW_STATE p) 0).setReg (O.PAD_SHADOW_ID p) 0).clearMems fun m =>
      memPaddock m == some p
  else if j = 19 then
    let mine := fun (k n : Nat) => k / n == q
    { s with
      qports := s.qports.filter (fun e => !(mine (e.1 % 8) 2)), flPorts := s.flPorts.filter (fun e => !mine e.1 64),
      rxBuf := s.rxBuf.filter (fun e => !mine e.1 36), rxOut := s.rxOut.filter (fun e => !mine e.1 36), ttPorts := Tbl.set 0 s.ttPorts q 0,
      gpios := s.gpios.filter (fun e => !mine e.1 12),
      live := s.live.filter fun e => !(locQuad e.1 == q && (paddockOf (locQuad e.1) (locCol e.1) (locRow e.1)).isNone) }.dropLogic (fun l =>
        locQuad l == q && (paddockOf (locQuad l) (locCol l) (locRow l)).isNone) |>.clearMems fun m =>
        m / 576 == q && (memPaddock m).isNone
  else if j = 20 then
    { s with
      refresh := s.refresh.filter (fun e => e.1 / 2 != q), dqDelay := s.dqDelay.filter (fun e => e.1 / 2 != q),
      zqAt := s.zqAt.filter (fun e => e.1 / 2 != q), retrainAt := s.retrainAt.filter (fun e => e.1 / 2 != q), grind := s.grind.filter fun e => e.1 / 512 != q }
  else if j = 21 then
    let s1 := (s.dropRecords q).routeAll q
    { s1 with fcs := Tbl.set {} s1.fcs q {}, reps := Tbl.set {} s1.reps q {} }
  else s.setYard q {}

/-- The arrays of a shed that leaves OFF are marched destructively (R407). -/
def State.marchShed (s : State) (sh : Nat) : State :=
  let q := sh / 23
  let j := sh % 23
  if 92 ≤ sh then s
  else if 9 ≤ j ∧ j < 13 then
    let c := 4 * q + (j - 9)
    { s with
      data := s.data.filter (fun e => e.1 / 2 ^ 14 / 32 != c), feed := s.feed.filter (fun e => e.1 / feedBytes != c),
      spareMem := s.spareMem.filter (fun e => e.1 / 2 ^ 16 / 33 != c) }.freshWords
      fun tg a _ => (decide (tg ≤ 1) && a / 33 == c) || (tg == 2 && a == c)
  else if j = 20 then s.freshWords fun tg a _ => tg == 3 && a == q
  else s

/-- A controller boots its image (R319, R409): BOOT_COUNT counts, FW_STATE tells why, FW_VERSION takes the image's VERSION. -/
def State.bootMc (s : State) (c : Ctl) (why : Nat) : State :=
  let x := c.num
  let img := s.image (O.MC_IMAGE x)
  let s1 := if img = [] then s else s.setReg (O.MC_FW_VERSION x) (fieldLE img 4 4)
  ((s1.bump (O.MC_BOOT_COUNT x) 1).setReg (O.MC_FW_STATE x) why).setReg (O.RUN_RUN_STATE x) 0 |>.deisolate (93 + x) (2 ^ 16 - 1)

/-- A halt of a controller ends with a reset of its shed (R428, R431). -/
def State.endAbsence (s : State) (c : Ctl) : State :=
  if s.isSet (O.MC_DEBUG_ABSENT c.num) then
    ((s.setReg (O.MC_DEBUG_ABSENT c.num) 0).setReg (O.MC_HB_MISSED c.num) 0).raise .partnerPresent 0 c.partner
  else s

/-- Reset the fields of a shed (R9): RESETS counts, isolated ports may be freed. A controller's sessions and port close, its watchdog's
ENABLE clears (R432), and if START_MC has released it, it boots. -/
def State.shedReset (s : State) (sh why : Nat) : State :=
  let s1 := (s.clocksNow.bump (O.SHED_RESETS sh) 1).noteShedReset sh
  let keep := (List.range 2).map fun i => s.reg (O.MEMC_STATE (2 * (sh / 23) + i))
  let s2 := if sh = 93 then s1.closeSessions .a else if sh = 94 then s1.closeSessions .b else s1
  let s3 := (s2.resetObjs (shedHas sh)).resetBlock sh
  if sh = 93 ∨ sh = 94 then
    let c : Ctl := if sh = 93 then .a else .b
    let s4 := (s3.endAbsence c).setReg (O.WD_ENABLE c.num) 0
    let s5 := (s4.setCtl c { hbSeen := false, skipWindow := true }).wdReload c
    if (s5.reg O.CFG_RELEASED).testBit (14 + c.num) ∧ s5.shedOn sh then s5.bootMc c why else s5
  else if sh < 92 ∧ sh % 23 = 20 then
    (List.range 2).foldl
      (fun (s : State) i => if 2 ≤ keep.getD i 0 ∧ keep.getD i 0 ≤ 3 then s.setReg (O.MEMC_STATE (2 * (sh / 23) + i)) 3 else s) s3
  else s3

/-! ### Shed states (R405 to R408) -/

/-- The condition of *Table 15.6* for leaving ON, besides FENCED. -/
def State.mayLeave (s : State) (sh : Nat) : Bool :=
  let q := sh / 23
  let j := sh % 23
  if 92 ≤ sh then true
  else if j < 9 then (List.range 4).all fun i => s.parked (36 * q + 4 * j + i)
  else if j < 13 then (List.range 32).all fun i => !([1, 3, 4, 7].contains (s.reg (O.ENG_STATE (32 * (4 * q + (j - 9)) + i))))
  else if j < 19 then (s.sched .swap (6 * q + (j - 13))).isNone
  else true

/-- Engage or release the pad-state latches of a channel quad's shed; other sheds have none (R407). -/
def State.holdQuad (s : State) (sh : Nat) (on : Bool) : State :=
  if sh < 92 ∧ sh % 23 < 9 then (List.range 4).foldl (fun (s : State) i => s.holdPad (36 * (sh / 23) + 4 * (sh % 23) + i) 3 on) s else s

/-- What a shed does as it leaves ON: pads are held, memory devices enter self-refresh, a controller's sessions close and its link goes
down. -/
def State.leaveOn (s : State) (sh : Nat) : State :=
  if sh < 92 then
    let s1 := s.holdQuad sh true
    if sh % 23 = 20 then
      (List.range 2).foldl
        (fun (s : State) i => let m := 2 * (sh / 23) + i; if s.reg (O.MEMC_STATE m) = 2 then s.setReg (O.MEMC_STATE m) 3 else s)
        (s1.pagesDone fun page => s1.memCtl (page * 4096) / 2 == sh / 23)
    else s1
  else if sh = 93 ∨ sh = 94 then
    let c : Ctl := if sh = 93 then .a else .b
    (((s.wdKeep c).closeSessions c).mgtLink c.num false 0).setReg (O.RUN_RUN_STATE c.num) 3
  else s

/-- The PLLs of a shed (*Table 15.1*). -/
def shedPlls (sh : Nat) : List Nat :=
  if sh = 93 then [pllMgt 0]
  else if sh = 94 then [pllMgt 1]
  else if 92 ≤ sh then []
  else if sh % 23 < 9 then [pllQ (9 * (sh / 23) + sh % 23)]
  else if sh % 23 = 20 then [pllM (sh / 23)]
  else if sh % 23 = 22 then [pllYard (sh / 23)]
  else []

/-- Set or clear a bit of PLL_LOCKED, and LOCKED of an FPLL with it. -/
def State.setPll (s : State) (n : Nat) (b : Bool) : State :=
  let s1 := s.setImage O.CLK_PLL_LOCKED (setImgBit (s.image O.CLK_PLL_LOCKED) n b)
  if 37 ≤ n ∧ n < 41 then s1.setBool (O.FPLL_LOCKED (n - 37)) b else s1

/-- A shed moves to a state. Leaving OFF takes a shed reset and a march of its arrays; a controller that returns runs on. -/
def State.moveShed (s : State) (sh st : Nat) : State :=
  let old := s.reg (O.SHED_STATE sh)
  if old = st then s
  else
    let s0 := s.clocksNow
    let s1 := if old = 0 then s0.leaveOn sh else s0
    let s2 := if old = 3 then (s1.shedReset sh 0).marchShed sh else s1
    let s3 := ((s2.setReg (O.SHED_STATE sh) st).bump (O.SHED_TRANSITIONS sh) 1).ledMove 0x1069 (1 + old) (1 + st) 1
    let s4 := if 2 ≤ st then (shedPlls sh).foldl (fun (s : State) n => s.setPll n false) s3 else s3
    if st = 0 ∧ (sh = 93 ∨ sh = 94) then
      let c : Ctl := if sh = 93 then .a else .b
      ((if (s4.reg O.CFG_RELEASED).testBit (14 + c.num) then s4.setReg (O.RUN_RUN_STATE c.num) 0 else s4).wdReload c)
    else s4

/-- A shed's fence begins; a yard port goes DOWN with cause 8 (R407). -/
def State.fenceShed (s : State) (sh : Nat) : State :=
  let open_ := s.reg (O.RS_FENCE_STATE sh) == 0
  let s1 := s.fenceStop sh
  if open_ ∧ sh < 92 ∧ sh % 23 = 22 then s1.yardDown (sh / 23) 8 else s1

/-- A fenced shed, or one whose fence has not ended, returns to traffic; a channel quad's latches release (R407). -/
def State.unfenceShed (s : State) (sh : Nat) : State :=
  if s.reg (O.RS_FENCE_STATE sh) = 0 then s
  else
    let s1 := if s.reg (O.RS_FENCE_STATE sh) = 1 then s.setReg (O.RS_FENCE_STATE sh) 2 else s
    (s1.unfenceStop sh).holdQuad sh false

/-! ### SHED_RESET (R409) -/

/-- A shed whose reset has begun is fenced: it is reset and returns to traffic. `why` is the FW_STATE with which a controller boots. -/
def State.finishReset (s : State) (sh : Nat) : State :=
  if s.resetting.contains sh ∧ s.reg (O.RS_FENCE_STATE sh) = 2 then
    let why := if (sh = 93 ∨ sh = 94) ∧ s.reg (O.MC_FW_STATE (sh - 93)) = 2 then 2 else 0
    ({ s with resetting := s.resetting.erase sh }.shedReset sh why).unfenceShed sh
  else s

/-- A shed reset begins with the fence of its stop, and ends at once where that is FENCED at once. -/
def State.beginReset (s : State) (sh : Nat) : State := ({ s.fenceShed sh with resetting := s.resetting ++ [sh] }).finishReset sh

/-- The owner of SHED_RESET of shed sh. -/
def ownShedReset (sh : Nat) : Owner := command fun s =>
  if s.reg O.PWR_PROG_RUN ≠ 0 then (.busy, s)
  else if sh = 92 ∨ sh = 95 ∨ (sh = 93 ∧ s.holder = some .a) ∨ (sh = 94 ∧ s.holder = some .b) ∨ !s.shedOn sh ∨ !s.mayLeave sh then (.refused, s)
  else (.okay, s.beginReset sh)

/-- SHED_RESET. -/
def execShedReset (t : Nat) (r : Requester) (sh : Fin 98) (v : Bool) (s : State) : Host.Outcome State Fault Refusal :=
  .next ((s.tickTo t).writeObj r (O.SHED_SHED_RESET sh.val) (b2n v) (ownShedReset sh.val))

/-! ### Shed programs (R410 to R412) -/

/-- The steps of a program image. -/
def progSteps (img : List Byte) : List Nat := (List.range (img.length / 4)).map fun i => fieldLE img (4 * i) 4

/-- Fields of a step (*Table 15.7*). -/
def stepOp (w : Nat) : Nat := bits w 31 28
def stepState (w : Nat) : Nat := bits w 25 24
def stepCount (w : Nat) : Nat := bits w 22 16
def stepFirst (w : Nat) : Nat := bits w 6 0
def stepArg (w : Nat) : Nat := bits w 19 0
def stepSheds (w : Nat) : List Nat := (List.range (stepCount w)).map (stepFirst w + ·)

/-- Whether a step holds a reserved value, or names sheds that do not exist. -/
def stepBad (w : Nat) : Bool :=
  match stepOp w with
  | 4 => bits w 27 20 != 0 || stepArg w == 0
  | 0 => bits w 27 0 != 0
  | 5 => bits w 27 0 != 0
  | 6 => bits w 27 2 != 0 || bits w 1 0 == 0
  | 3 => bits w 27 26 != 0 || w.testBit 23 || bits w 15 7 != 0 || stepCount w == 0 || decide (stepFirst w + stepCount w > 98)
  | 1 => bits w 27 23 != 0 || bits w 15 7 != 0 || stepCount w == 0 || decide (stepFirst w + stepCount w > 98)
  | 2 => bits w 27 23 != 0 || bits w 15 7 != 0 || stepCount w == 0 || decide (stepFirst w + stepCount w > 98)
  | _ => true

/-- Whether a commit of program k completes with REFUSED (R411). -/
def State.progRefused (s : State) (k : Nat) (img : List Byte) : Bool :=
  let l := progSteps img
  let ops := l.map stepOp
  let commits := ops.countP (· == 5)
  let before := ops.takeWhile (· != 5)
  decide (img.length < 4) || decide (img.length > 128) || img.length % 4 != 0 || ops.countP (· == 0) != 1 || ops.getLast? != some 0 ||
    l.any stepBad ||
    (l.any fun w => stepOp w == 3 && (stepSheds w).any fun sh => !(s.reg (O.SHED_ALLOWED sh)).testBit (stepState w)) ||
    (if k < 2 then commits != 1 || before.any (fun o => o != 1 && o != 4) else commits != 0 || (k == 3 && ops.contains 6))

/-- The owner of PROGRAM k. -/
def ownShedProgram (k : Nat) : ImgOwner := unscheduled fun img s =>
  if s.progRefused k img then (.refused, s)
  else if s.reg O.PWR_PROG_RUN ≠ 0 then (.busy, s)
  else (.okay, s.setImage (O.SPROG_PROGRAM k) img)

/-- SHED_PROGRAM_COMMIT. -/
def execShedProgramCommit (t : Nat) (r : Requester) (k : Fin 4) (crc tt : Nat) (s : State) : Host.Outcome State Fault Refusal :=
  .next ((s.tickTo t).commitObj r (O.SPROG_PROGRAM k.val) crc tt (ownShedProgram k.val))

/-- Program k begins: its first step issues in the next always-on cycle. -/
def State.startProgram (s : State) (k : Nat) : State :=
  { (s.setReg O.PWR_PROG_RUN (1 + k)).setReg O.PWR_PROG_STEP 0 with seq := { stepAt := s.now } }

/-- The step in progress of the running program. -/
def State.progStep (s : State) : Option Nat :=
  if s.reg O.PWR_PROG_RUN = 0 then none else (progSteps (s.image (O.SPROG_PROGRAM (s.reg O.PWR_PROG_RUN - 1))))[s.reg O.PWR_PROG_STEP]?

/-- The running program, where the step in progress has the operation named, has issued, and the program does not pause (R402). -/
def State.stepNow (s : State) (op : Nat) : Option Nat :=
  match s.progStep with
  | some w => if stepOp w = op ∧ s.seq.stepAt ≤ s.now ∧ !s.devWaits then some w else none
  | none => none

/-- A step completes: the next one issues in the next always-on cycle. -/
def State.stepDone (s : State) : State :=
  { s.setReg O.PWR_PROG_STEP (s.reg O.PWR_PROG_STEP + 1) with
    seq := { s.seq with stepAt := (s.now / Config.aonUnits + 1) * Config.aonUnits, begun := false } }

/-- An entry before its commit point is aborted (R416): every shed that the program fenced is unfenced. -/
def State.abortEntry (s : State) (cause : Nat) : State :=
  let s1 := s.seq.fenced.foldl State.unfenceShed s
  { ((s1.setReg O.PWR_SLEEP_STATUS Status.aborted.code).setReg O.PWR_SLEEP_CAUSE cause).setReg O.PWR_PROG_RUN 0 with seq := {} }

/-- Program 2 begins; events latched after the commit point started it (R416, R417). -/
def State.runWake (s : State) : State :=
  let n := s.reg (ledTerm 0x1068 3)
  ((s.ledMove 0x1068 3 2 n).setReg O.PWR_WAKE_PENDING 0).startProgram 2

/-- A step is refused (R412): the program stops there. -/
def State.stepRefused (s : State) : State :=
  let k := s.reg O.PWR_PROG_RUN - 1
  let s1 := { s.setReg O.PWR_PROG_RUN 0 with seq := {} }
  if k < 2 then ((s1.setReg O.PWR_SLEEP_STATUS Status.refused.code).setReg O.PWR_SLEEP_CAUSE 3).runWake
  else if k = 3 then s1.setReg O.PWR_USER_STATUS Status.refused.code
  else s1

/-- FENCE_STEP: the named sheds are fenced together, and the step completes when all are FENCED. -/
def execFenceStep (t : Nat) (s : State) : Host.Outcome State Fault Refusal :=
  let s1 := s.tickTo t
  .next
    (match s1.stepNow 1 with
     | none => s1
     | some w =>
       let l := stepSheds w
       let s2 :=
         if s1.seq.begun then s1
         else
           let s2 := l.foldl State.fenceShed s1
           { s2 with seq := { s2.seq with begun := true, fenced := s2.seq.fenced ++ l.filter fun sh => s1.reg (O.RS_FENCE_STATE sh) == 0 } }
       if l.all fun sh => s2.reg (O.RS_FENCE_STATE sh) == 2 then s2.stepDone else s2)

/-- UNFENCE_STEP: the named sheds that are fenced return to OPEN; a shed that is not ON refuses the step. -/
def execUnfenceStep (t : Nat) (s : State) : Host.Outcome State Fault Refusal :=
  let s1 := s.tickTo t
  .next
    (match s1.stepNow 2 with
     | none => s1
     | some w => if (stepSheds w).any fun sh => !s1.shedOn sh then s1.stepRefused else ((stepSheds w).foldl State.unfenceShed s1).stepDone)

/-- FENCE: one of the sheds that the running FENCE step names is fenced. -/
def execFence (t : Nat) (rs : Fin 98) (s : State) : Host.Outcome State Fault Refusal :=
  let s1 := s.tickTo t
  .next
    (match s1.stepNow 1 with
     | some w =>
       if (stepSheds w).contains rs.val ∧ s1.reg (O.RS_FENCE_STATE rs.val) = 0 then
         { s1.fenceShed rs.val with seq := { s1.seq with fenced := s1.seq.fenced ++ [rs.val] } }
       else s1
     | none => s1)

/-- UNFENCE: one of the sheds that the running UNFENCE step names returns to OPEN; or a shed whose reset waited for its fence is reset
and returns to OPEN (R409). -/
def execUnfence (t : Nat) (rs : Fin 98) (s : State) : Host.Outcome State Fault Refusal :=
  let s1 := (s.tickTo t).finishReset rs.val
  .next
    (match s1.stepNow 2 with
     | some w => if (stepSheds w).contains rs.val ∧ s1.shedOn rs.val then s1.unfenceShed rs.val else s1
     | none => s1)

/-- Whether SET_SHED may move a shed: leaving ON needs the fence, the condition of *Table 15.6*, and for a controller a program past its
COMMIT (R408). -/
def State.maySet (s : State) (sh st : Nat) : Bool :=
  s.reg (O.SHED_STATE sh) == st || !s.shedOn sh ||
    (s.reg (O.RS_FENCE_STATE sh) == 2 && s.mayLeave sh && (!(sh == 93 || sh == 94) || s.seq.commitAt != 0))

/-- SET_SHED. -/
def execSetShed (t : Nat) (s : State) : Host.Outcome State Fault Refusal :=
  let s1 := s.tickTo t
  .next
    (match s1.stepNow 3 with
     | none => s1
     | some w =>
       if (stepSheds w).all fun sh => s1.maySet sh (stepState w) then
         ((stepSheds w).foldl (fun (s : State) sh => s.moveShed sh (stepState w)) s1).stepDone
       else s1.stepRefused)

/-- SHED_WAIT: a WAIT step's time has passed. -/
def execShedWait (t : Nat) (s : State) : Host.Outcome State Fault Refusal :=
  let s1 := s.tickTo t
  .next
    (match s1.stepNow 4 with
     | none => s1
     | some w => if s1.seq.stepAt + stepArg w * Config.usUnits ≤ s1.now then s1.stepDone else s1)

/-- SET_STATE. -/
def execSetState (t : Nat) (s : State) : Host.Outcome State Fault Refusal :=
  let s1 := s.tickTo t
  .next
    (match s1.stepNow 6 with
     | none => s1
     | some w => (s1.setReg O.DEV_DEVICE_STATE (bits w 1 0)).stepDone)

/-- PROGRAM_END: a program ends with OKAY; wakes latched after COMMIT start program 2 at once (R414, R416). -/
def execProgramEnd (t : Nat) (s : State) : Host.Outcome State Fault Refusal :=
  let s1 := s.tickTo t
  .next
    (match s1.stepNow 0 with
     | none => s1
     | some _ =>
       let k := s1.reg O.PWR_PROG_RUN - 1
       let s2 := { s1.setReg O.PWR_PROG_RUN 0 with seq := {} }
       if k < 2 then
         let s3 : State := (State.setReg s2 O.PWR_SLEEP_STATUS Status.okay.code).setReg O.PWR_SLEEP_CAUSE 0
         if s3.reg O.PWR_WAKE_PENDING ≠ 0 then s3.runWake else s3
       else if k = 3 then s2.setReg O.PWR_USER_STATUS Status.okay.code
       else s2)

/-! ### Wake events (R415 to R417) -/

/-- One wake event of source b and its outcome. -/
def State.wakeEvent (s : State) (b : Nat) : State :=
  let s1 := (s.setFlag O.PWR_WAKE_EVENT b O.PWR_WAKE_EVENT_COUNT 1).ledAdd 0x1068 0 1
  let k := s1.reg O.PWR_PROG_RUN
  let st := s1.reg O.DEV_DEVICE_STATE
  if k = 1 ∨ k = 2 then
    if s1.seq.commitAt = 0 ∨ s1.now / Config.aonUnits + 1 ≤ s1.seq.commitAt then (s1.ledAdd 0x1068 1 1).abortEntry 1
    else (s1.ledAdd 0x1068 3 1).setReg O.PWR_WAKE_PENDING (setBit (s1.reg O.PWR_WAKE_PENDING) b true)
  else if k = 0 ∧ (st = 2 ∨ st = 3) then (s1.ledAdd 0x1068 2 1).startProgram 2
  else s1.ledAdd 0x1068 4 1

/-- The wake latch takes the events that have come, in order of their sources; one whose bit of WAKE_ENABLE is 0 is no wake event. -/
def State.takeWakes (s : State) : State :=
  (List.range 8).foldl
    (fun (x : State) b => if s.wakeIn.testBit b && (s.reg O.PWR_WAKE_ENABLE).testBit b then x.wakeEvent b else x) { s with wakeIn := 0 }

/-- WAKE_EVENT. -/
def execWakeEvent (t : Nat) (s : State) : Host.Outcome State Fault Refusal := .next (s.tickTo t).takeWakes

/-- The owner of WAKE_REQUEST. -/
def ownWakeRequest : Owner := command fun s => (.okay, s.wakeAt 0)

/-- WAKE_REQUEST. -/
def execWakeRequest (t : Nat) (r : Requester) (v : Bool) (s : State) : Host.Outcome State Fault Refusal :=
  .next ((s.tickTo t).writeObj r O.PWR_WAKE_REQUEST (b2n v) ownWakeRequest)

/-- COMMIT: the commit point of an entry. A wake event in the same cycle aborts it (R416). -/
def execCommit (t : Nat) (s : State) : Host.Outcome State Fault Refusal :=
  let s1 := (s.tickTo t).takeWakes
  .next
    (match s1.stepNow 5 with
     | none => s1
     | some _ => { s1.stepDone with seq := { s1.stepDone.seq with commitAt := s1.now / Config.aonUnits + 1 } })

/-! ### Sleep requests (R414) -/

/-- The owner of SLEEP_ARM. -/
def ownSleepArm : Owner := arming O.PWR_SLEEP_AT true fun s =>
  if s.reg O.DEV_DEVICE_STATE ≠ 1 then (.refused, s)
  else if (s.sched .sleep 0).isSome ∨ s.reg O.PWR_PROG_RUN ≠ 0 then (.busy, s)
  else s.armAction .sleep 0 (s.reg O.PWR_SLEEP_AT) (s.reg O.PWR_SLEEP_TARGET)

/-- SLEEP_ARM. -/
def execSleepArm (t : Nat) (r : Requester) (v : Bool) (s : State) : Host.Outcome State Fault Refusal :=
  .next ((s.tickTo t).writeObj r O.PWR_SLEEP_ARM (b2n v) ownSleepArm)

/-- The owner of SLEEP_CANCEL (R87). -/
def ownSleepCancel : Owner := command fun s => s.cancelAction .sleep 0

/-- SLEEP_CANCEL. -/
def execSleepCancel (t : Nat) (r : Requester) (v : Bool) (s : State) : Host.Outcome State Fault Refusal :=
  .next ((s.tickTo t).writeObj r O.PWR_SLEEP_CANCEL (b2n v) ownSleepCancel)

/-- SLEEP_ENTRY: at S, program 0 or 1 runs. Where the device has left state 1 or another program runs, the entry is REFUSED and the
action counts as cancelled. -/
def execSleepEntry (t : Nat) (s : State) : Host.Outcome State Fault Refusal :=
  let s1 := s.tickTo t
  .next
    (match s1.sched .sleep 0 with
     | none => s1
     | some a =>
       if !s1.due .sleep 0 a then s1
       else if s1.reg O.DEV_DEVICE_STATE ≠ 1 ∨ s1.reg O.PWR_PROG_RUN ≠ 0 then
         ((s1.endAction .sleep 0 2).setReg O.PWR_SLEEP_STATUS Status.refused.code).setReg O.PWR_SLEEP_CAUSE 0
       else (s1.endAction .sleep 0 1).startProgram (if a.arg = 3 then 1 else 0))

/-- The owner of RUN_USER. -/
def ownRunUser : Owner := command fun s => if s.reg O.PWR_PROG_RUN ≠ 0 then (.busy, s) else (.okay, s.startProgram 3)

/-- RUN_USER. -/
def execRunUser (t : Nat) (r : Requester) (v : Bool) (s : State) : Host.Outcome State Fault Refusal :=
  .next ((s.tickTo t).writeObj r O.PWR_RUN_USER (b2n v) ownRunUser)

end Sys2Proof.Machine
end

