-- ==== Sys2Proof/Machine/Clocks.lean ====
section
/-! DEFINITION. CLKREF, its loss and recovery (R393, R394, R402, R403), the PLLs (R395, R404), clock enables and sources (R397 to R401),
and the startup program (R320 to R322). -/

namespace Sys2Proof.Machine

/-! ### Holds (R402, R403, R413) -/

/-- Engage or release the pad-state latches of every channel and trigger for a cause. -/
def State.holdAll (s : State) (cause : Nat) (on : Bool) : State :=
  (List.range 16).foldl (fun (s : State) u => s.holdTrig u cause on) ((List.range 144).foldl (fun (s : State) ch => s.holdPad ch cause on) s)

/-- The end of recovery: the first instant at which its steps 1 to 3 are done and TT_VALID is 1; with AUTO_RELEASE the holds of the loss
are released there (R403). -/
def State.endRecovery (s : State) : State :=
  if s.clk.ending ∧ s.ttValid ∧ !s.devWaits then
    let s1 := { s with clk := { s.clk with ending := false } }
    if s1.isSet O.CLKREF_AUTO_RELEASE then s1.holdAll 1 false else s1
  else s

/-- MARKER_FRAME_SEARCH: symbols while the decoder searches and verifies (R77); where TT becomes valid a recovery may end. -/
def execMarkerFrameSearch (t : Nat) (falls : List (Option Nat)) (s : State) : Host.Outcome State Fault Refusal :=
  .next ((s.tickTo t).markerEdges t falls).endRecovery

/-- MARKER_FRAME_SLOT: the symbols of a frame slot once TT is valid (R79). -/
def execMarkerFrameSlot (t : Nat) (falls : List (Option Nat)) (s : State) : Host.Outcome State Fault Refusal :=
  .next ((s.tickTo t).markerEdges t falls)

/-! ### Loss of CLKREF (R81, R402) -/

/-- A pending scheduled action completes with ABORTED; what its own block shows of it follows (R81). -/
def State.abortAction (s : State) (key : Nat) : State :=
  let u := key % 65536
  let s1 := ((({ s with scheds := Tbl.set none s.scheds key none }.ledMove 0x1045 3 2 1).setReg O.SCHED_PENDING (s.reg O.SCHED_PENDING - 1)).bump
    O.SCHED_ABORTED_ON_LOSS 1)
  match key / 65536 with
  | 0 => s1.setReg (O.TRIG_OUT_STATE u) 0
  | 1 => if s1.reg (O.ENG_STATE u) = 3 then s1.setReg (O.ENG_STATE u) (s1.engine u).armedFrom else s1
  | 2 =>
    let chs := if u < 256 then [u] else ((List.range 4).filter u.testBit).map (4 * ((u - 256) / 16) + ·)
    chs.foldl (fun (s : State) ch => s.setReg (O.CH_SCHEDULE_PENDING ch) 0) s1
  | 3 => s1.setReg (O.PAD_SWAP_STATUS u) Status.aborted.code
  | 4 => (s1.setReg O.PWR_SLEEP_STATUS Status.aborted.code).setReg O.PWR_SLEEP_CAUSE 2
  | 6 => s1.switchDone .aborted
  | 7 => s1.settleBuffer u
  | _ => s1

/-- Every pending scheduled action is aborted, and the images that waited for their instants are dropped; a program whose load waits for
an HCLAIM is no scheduled action any more. -/
def State.abortActions (s : State) : State :=
  let s1 := { s with staged := s.staged.filter fun e => inBlock (e.1 / 256) 0x2400 512 && (s.engine (e.1 / 256 - 0x2400)).loadWaits }
  s.scheds.foldl (fun (s : State) e => if e.2.isSome then s.abortAction e.1 else s) s1

/-- What R81 does besides the scheduled actions: TT is not valid, the decoder searches, PTP domains listen. -/
def State.loseTt (s : State) : State :=
  let s1 := (s.ttGone.setReg O.MARK_TT_VALID 0).setReg O.MARK_MARKER_STATE 0
  let s2 := { s1 with marker := {} }
  s2.ptpListen

/-- An entry whose commit point has not passed (R416). -/
def State.beforeCommit (s : State) : Bool :=
  let k := s.reg O.PWR_PROG_RUN
  (k == 1 || k == 2) && (s.seq.commitAt == 0 || decide (s.now / Config.aonUnits + 1 ≤ s.seq.commitAt))

/-- The actions of *Table 15.3* at time 0: pads are held, R81 is done, the loss is recorded, and an entry that has not passed its commit
point ends (R416). -/
def State.lossNow (s0 : State) : State :=
  let s := s0.clocksNow
  let waits := s.devWaits
  let clk : ClkMon :=
    { s.clk with due := true, prior := if waits then s.clk.prior else s.reg O.DEV_DEVICE_STATE, since := if waits then s.clk.since else s.now,
                 ending := false, bySpll := false }
  let s1 := (((s.wdKeep .a).wdKeep .b).setReg O.CLKREF_LOSS_TT s.ttTickNow).holdAll 1 true
  let s2 := s1.abortActions.loseTt
  let s3 := (((s2.fault 0).recovery 0 true).setFlag O.CLKREF_CLKREF_LOST 0 O.CLKREF_CLKREF_LOST_COUNT 1).setReg O.DEV_DEVICE_STATE 4
  let s4 := if s3.beforeCommit then s3.abortEntry 2 else s3
  { s4 with clk := clk }

/-- CLKREF_STABLE falls from 1: CLKREF is lost (R394). -/
def State.loseClkref (s : State) : State := if s.isSet O.DEV_CLKREF_STABLE then (s.setReg O.DEV_CLKREF_STABLE 0).lossNow else s

/-- CLKREF_GATE: a gate ends with its count of CLKREF edges (R393). -/
def execClkrefGate (t count : Nat) (s : State) : Host.Outcome State Fault Refusal :=
  let s1 := (s.tickTo t).setReg O.CLKREF_LAST_GATE (count % 65536)
  .next
    (if count < 9933 ∨ 10547 < count ∨ s1.clk.missing then
      ({ s1 with clk := { s1.clk with good := 0, missing := false } }.bump O.CLKREF_BAD_GATES 1).loseClkref
     else { s1 with clk := { s1.clk with good := s1.clk.good + 1 } })

/-- MISSING_EDGE: the missing-edge detector fires (R394). -/
def execMissingEdge (t : Nat) (s : State) : Host.Outcome State Fault Refusal :=
  let s1 := s.tickTo t
  .next ({ s1 with clk := { s1.clk with good := 0, missing := true } }.bump O.CLKREF_MISSING_EDGES 1).loseClkref

/-- Discard the words of a channel's FIFOs, and park it by force. -/
def State.discardPark (s : State) (ch : Nat) : State :=
  let c := s.chan ch
  (s.bump O.CLK_DISCARDED (c.drv.length + c.exp.length)).forcePark ch

/-- Every RUNNING engine stops as by a stop request, at the present word clock. -/
def State.stopEngines (s : State) : State :=
  (List.range 512).foldl (fun (s : State) e => if s.reg (O.ENG_STATE e) = 4 then s.stopNow e (s.now / Config.wordUnits + 1) else s) s

/-- A running train ends where it stands. -/
def State.cutTrain (s : State) (u : Nat) : State :=
  if s.reg (O.TRIG_OUT_STATE u) = 2 then (s.setReg (O.TRIG_OUT_STATE u) 0).setTrig u { rcd := (s.trig u).rcd, holds := (s.trig u).holds } else s

/-- CLKREF_LOSS: the actions of *Table 15.3* after time 0: engines stop, channels park, links go down, memory enters self-refresh, and
every PLL is held in reset. -/
def execClkrefLoss (t : Nat) (s : State) : Host.Outcome State Fault Refusal :=
  let s1 := s.tickTo t
  .next
    (if !s1.clk.due then s1
     else
       let s2 := (List.range 144).foldl State.discardPark s1.fabricNow.stopEngines
       let s3 := (List.range 4).foldl (fun (s : State) p => s.yardDown p 9) ((List.range 16).foldl State.cutTrain s2)
       let s4 := (s3.mgtLink 0 false 0).mgtLink 1 false 0
       let s5 := (List.range 8).foldl (fun (s : State) m => if s.reg (O.MEMC_STATE m) = 2 then s.setReg (O.MEMC_STATE m) 3 else s)
         (s4.pagesDone fun _ => true)
       let s6 := (List.range 51).foldl (fun (s : State) n => s.setPll n false) s5
       { s6 with clk := { s6.clk with due := false } })

/-! ### Recovery (R403) -/

/-- A startup program that paused goes on: a WAIT_LOCK with its full timeout (R322). -/
def State.resumeProgram (s : State) : State :=
  let lock := bits ((s.cfg.program[s.cfg.step]?).getD 0) 31 28 == 1
  s.setCfg { s.cfg with stepAt := if lock then s.now else s.cfg.stepAt + (s.now - s.clk.since) }

/-- CLKREF_STABLE: enough good gates in a row. -/
def execClkrefStable (t : Nat) (s : State) : Host.Outcome State Fault Refusal :=
  let s1 := s.tickTo t
  .next
    (if s1.isSet O.DEV_CLKREF_STABLE ∨ s1.clk.good < s1.reg O.CLKREF_STABLE_GATES then s1
     else
       let s2 := s1.setReg O.DEV_CLKREF_STABLE 1
       if s2.devWaits then s2.resumeProgram else s2)

/-- The shed of a PLL (*Table 15.1*). -/
def pllShed (n : Nat) : Nat :=
  if n = 0 then 95
  else if n < 37 then quadStop ((n - 1) / 9) ((n - 1) % 9)
  else if n < 41 then 95
  else if n < 45 then quadStop (n - 41) 20
  else if n < 49 then quadStop (n - 45) 22
  else 93 + (n - 49)

/-- Whether a startup program pauses: CLKREF is lost and not yet stable again, or SPLL, whose unlock is handled so, has not relocked (R322,
R404). -/
def State.paused (s : State) : Bool := s.devWaits && (if s.clk.bySpll then !s.pllLocked pllSpll else !s.isSet O.DEV_CLKREF_STABLE)

/-- PLL_LOCK: a PLL that may lock does: CLKREF is stable, its shed is ON, and after a loss SPLL comes first (R395, R403, R404). -/
def execPllLock (t : Nat) (n : Fin 51) (s : State) : Host.Outcome State Fault Refusal :=
  let s1 := s.tickTo t
  .next
    (if s1.isSet O.DEV_CLKREF_STABLE ∧ s1.shedOn (pllShed n.val) ∧ !s1.clk.due ∧ (n.val = 0 ∨ !s1.clkLost) then
      let s2 := if n.val = 0 ∧ s1.paused then s1.resumeProgram else s1
      s2.clocksNow.setPll n.val true
     else s1)

/-- Instants from which network limits count move on by the time the device waited (R402). -/
def State.shiftLimits (s : State) (d : Nat) : State :=
  let late := fun (l : List (NetPkt × Nat)) => l.map fun p => (p.1, p.2 + d)
  { s with
    stops := s.stops.map fun e =>
      let x := e.2
      (e.1, { x with
        out := x.out.map (fun o => { o with start := o.start + d }), fifo := late x.fifo, buf := late x.buf, held := late x.held,
        fenceAt := x.fenceAt + d }) }

/-- CLKREF_RECOVERY: steps 1 to 3 of R403 are done: every PLL whose shed is ON has locked, and no controller whose shed is ON is in
self-refresh. DEVICE_STATE returns, and what paused goes on. -/
def execClkrefRecovery (t : Nat) (s : State) : Host.Outcome State Fault Refusal :=
  let s1 := s.tickTo t
  .next
    (if !s1.devWaits ∨ s1.clk.due ∨ !s1.isSet O.DEV_CLKREF_STABLE ∨
        !((List.range 51).all fun n => s1.pllLocked n || !s1.shedOn (pllShed n)) ∨
        (List.range 8).any (fun m => s1.reg (O.MEMC_STATE m) == 3 && s1.shedOn (quadStop (m / 2) 20)) then s1
     else
       let d := s1.now - s1.clk.since
       let s2 := ((s1.clocksNow.setReg O.DEV_DEVICE_STATE s1.clk.prior).recovery 0 false).shiftLimits d
       ({ (s2.wdReload .a).wdReload .b with
          clk := { s2.clk with ending := true }, seq := { s2.seq with stepAt := s2.seq.stepAt + d } }).endRecovery)

/-- The owner of PAD_RELEASE: holds of a CLKREF loss, and those of a QPLL unlock once it has relocked. -/
def ownPadRelease : Owner := command fun s =>
  if !s.ttValid then (.refused, s)
  else
    (.okay, (List.range 144).foldl (fun (s : State) ch => if s.pllLocked (pllQ (ch / 4)) then s.holdPad ch 2 false else s) (s.holdAll 1 false))

/-- PAD_RELEASE. -/
def execPadRelease (t : Nat) (r : Requester) (v : Bool) (s : State) : Host.Outcome State Fault Refusal :=
  .next ((s.tickTo t).writeObj r O.CLKREF_PAD_RELEASE (b2n v) ownPadRelease)

/-! ### A PLL that loses lock (R404) -/

/-- PLL_UNLOCK: a locked PLL loses lock while CLKREF is stable; the outcomes are *Table 15.4*'s. -/
def execPllUnlock (t : Nat) (n : Fin 51) (s : State) : Host.Outcome State Fault Refusal :=
  let s1 := s.tickTo t
  let k := n.val
  .next
    (if !s1.isSet O.DEV_CLKREF_STABLE ∨ !s1.pllLocked k then s1
     else
       let s2 := ((s1.clocksNow.setPll k false).setFlag O.CLK_UNLOCK 0 O.CLK_UNLOCK_COUNT 1).setReg O.CLK_LAST_UNLOCK k
       if k = 0 then
         let s3 := s2.lossNow
         { s3 with clk := { s3.clk with bySpll := true } }
       else if k < 37 then
         (List.range 4).foldl
           (fun (s : State) i => let ch := 4 * (k - 1) + i; ((s.holdPad ch 2 true).invalidate ch).discardPark ch) s2
       else if k < 41 then s2
       else if k < 45 then
         (List.range 2).foldl
           (fun (s : State) i => let m := 2 * (k - 41) + i; if s.reg (O.MEMC_STATE m) = 2 then s.setReg (O.MEMC_STATE m) 3 else s) s2
       else if k < 49 then s2.yardDown (k - 45) 2
       else s2.mgtLink (k - 49) false 0)

/-! ### Enables (R397, R398) -/

/-- Whether another running domain depends on one (R398). -/
def State.domainNeeded (s : State) (d : Nat) : Bool :=
  if 288 ≤ d ∧ d < 324 then
    (List.range 4).any fun i =>
      let ch := 4 * (d - 288) + i
      s.domainRunning ch || (s.reg (O.CH_MODE ch) == 0 && s.domainRunning (144 + ch))
  else if 340 ≤ d ∧ d < 356 then (List.range 24).any fun p => s.reg (O.RCLK_SRC p) == d - 340 && s.domainRunning (356 + p)
  else false

/-- Whether the block of a domain is in its safe state (R398). -/
def State.domainSafe (s : State) (d : Nat) : Bool :=
  if d < 288 then s.parked (d % 144)
  else if 324 ≤ d ∧ d < 340 then (List.range 32).all fun i => !([1, 3, 4, 7].contains (s.reg (O.ENG_STATE (32 * (d - 324) + i))))
  else if 356 ≤ d ∧ d < 380 then (s.sched .swap (d - 356)).isNone
  else if 380 ≤ d ∧ d < 388 then s.reg O.MEM_MEM_STATE == 0
  else if 388 ≤ d ∧ d < 404 then s.yardSafe ((d - 388) % 8 / 2)
  else true

/-- The owner of CLK_ENABLE. -/
def ownClkEnable : ImgOwner := unscheduled fun img s =>
  let old := s.image O.CLK_CLK_ENABLE
  let set := fun d => imgBit img d && !imgBit old d
  let cleared := fun d => imgBit old d && !imgBit img d
  if img.length ≠ 52 ∨ byteAt img 51 ≠ byteAt old 51 ∨
      (List.range 408).any (fun d => (set d && !s.domainReady d) || (cleared d && (s.domainNeeded d || !s.domainSafe d))) then
    (.refused, s.bump O.CLK_ENABLE_REFUSED 1)
  else (.okay, s.fabricNow.setImage O.CLK_CLK_ENABLE img)

/-- CLK_ENABLE. -/
def execClkEnable (t : Nat) (r : Requester) (crc tt : Nat) (s : State) : Host.Outcome State Fault Refusal :=
  .next ((s.tickTo t).commitObj r O.CLK_CLK_ENABLE crc tt ownClkEnable)

/-! ### Sources (R400, R401) -/

/-- A switch to a source that is READY is made; any other is refused and counted. -/
def State.switchTo (s : State) (ready : Bool) (o v : Nat) : Status × State :=
  if ready then (.okay, s.fabricNow.setReg o v) else (.refused, s.bump O.CLK_SWITCH_REFUSED 1)

/-- The owner of SRC of global clock g. -/
def ownGclkSrc (g : Nat) : Owner := fun v s => s.switchTo (s.gclkSource v) (O.GCLK_SRC g) v

/-- The owner of SRC of regional clock p. -/
def ownRclkSrc (p : Nat) : Owner := fun v s => s.switchTo (s.domainReady (340 + v)) (O.RCLK_SRC p) v

/-- The owner of DIV of regional clock p. -/
def ownRclkDiv (p : Nat) : Owner := fun v s => s.switchTo (s.domainReady (340 + s.reg (O.RCLK_SRC p))) (O.RCLK_DIV p) v

/-- SRC. -/
def execSrc (t : Nat) (r : Requester) (w : ClockSet) (v : Nat) (s : State) : Host.Outcome State Fault Refusal :=
  let s1 := s.tickTo t
  .next
    (match w with
     | .global g => s1.writeObj r (O.GCLK_SRC g.val) v (ownGclkSrc g.val)
     | .regional p => s1.writeObj r (O.RCLK_SRC p.val) v (ownRclkSrc p.val)
     | .divider p => s1.writeObj r (O.RCLK_DIV p.val) v (ownRclkDiv p.val))

/-- Whether a multiplier and dividers give a VCO of 2 to 5 GHz and outputs of 10 to 1,000 MHz (R400). -/
def fpllOk (m div : Nat) : Bool :=
  decide (20 ≤ m) && decide (m ≤ 50) &&
    (List.range 4).all fun k =>
      let d := bits div (8 * k + 7) (8 * k)
      decide (2 ≤ d) && decide (100 * m ≤ 1000 * d) && decide (10 * d ≤ 100 * m)

/-- The owner of M or DIV of FPLL f: writable while no running global clock takes it, and it relocks. -/
def ownFpll (f : Nat) (divider : Bool) : Owner := fun v s =>
  let m := if divider then s.reg (O.FPLL_M f) else v
  let div := if divider then v else s.reg (O.FPLL_DIV f)
  if !fpllOk m div ∨ (List.range 16).any (fun g => s.domainRunning (340 + g) && decide (s.reg (O.GCLK_SRC g) < 16) && s.reg (O.GCLK_SRC g) / 4 == f) then
    (.refused, s)
  else (.okay, (s.setReg (if divider then O.FPLL_DIV f else O.FPLL_M f) v).setPll (pllF f) false)

/-- FPLL_SETTING. -/
def execFpllSetting (t : Nat) (r : Requester) (f : Fin 4) (divider : Bool) (v : Nat) (s : State) : Host.Outcome State Fault Refusal :=
  .next ((s.tickTo t).writeObj r (if divider then O.FPLL_DIV f.val else O.FPLL_M f.val) v (ownFpll f.val divider))

/-! ### The startup program (R320 to R322) -/

/-- The argument of the startup step in progress, where it has the operation named and the program does not pause. -/
def State.startStep (s : State) (op : Nat) : Option Nat :=
  if s.reg O.CFG_CFG_STATE ≠ 3 ∨ s.paused then none
  else
    match s.cfg.program[s.cfg.step]? with
    | some w => if bits w 31 28 = op then some (bits w 27 0) else none
    | none => none

/-- A startup step completes. -/
def State.startDone (s : State) : State :=
  (s.setReg O.CFG_STARTUP_STEP s.cfg.step).setCfg { s.cfg with step := s.cfg.step + 1, stepAt := s.now }

/-- Set bits of RELEASED. -/
def State.release (s : State) (mask : Nat) : State := s.setReg O.CFG_RELEASED (s.reg O.CFG_RELEASED ||| mask)

/-- Whether the conditions that a WAIT_LOCK names hold (*Table 11.8*). -/
def State.locksHold (s : State) (a : Nat) : Bool :=
  (!a.testBit 0 || s.isSet O.DEV_CLKREF_STABLE) && (!a.testBit 1 || (List.range 36).all fun n => s.pllLocked (pllQ n)) &&
    (!a.testBit 2 || (List.range 4).all fun f => s.pllLocked (pllF f)) && (!a.testBit 3 || (List.range 4).all fun q => s.pllLocked (pllM q)) &&
    (!a.testBit 4 || s.ttValid)

/-- WAIT_LOCK. -/
def execWaitLock (t : Nat) (s : State) : Host.Outcome State Fault Refusal :=
  let s1 := s.tickTo t
  .next
    (match s1.startStep 1 with
     | some a => if s1.locksHold a then s1.startDone else s1
     | none => s1)

/-- WAIT_LOCK_TIMEOUT. -/
def execWaitLockTimeout (t : Nat) (s : State) : Host.Outcome State Fault Refusal :=
  let s1 := s.tickTo t
  .next
    (match s1.startStep 1 with
     | some a =>
       if a / 256 = 0 ∨ s1.locksHold a ∨ s1.now < s1.cfg.stepAt + a / 256 * Config.usUnits then s1
       else ((s1.setReg O.CFG_STARTUP_STATUS Status.timeout.code).setReg O.CFG_CFG_STATE 5).setCfg { s1.cfg with errLow := true }
     | none => s1)

/-- WAIT_TIME. -/
def execWaitTime (t : Nat) (s : State) : Host.Outcome State Fault Refusal :=
  let s1 := s.tickTo t
  .next
    (match s1.startStep 2 with
     | some a => if s1.cfg.stepAt + a * Config.usUnits ≤ s1.now then s1.startDone else s1
     | none => s1)

/-- RELEASE_GSR. -/
def execReleaseGsr (t : Nat) (s : State) : Host.Outcome State Fault Refusal :=
  let s1 := s.tickTo t
  .next
    (match s1.startStep 3 with
     | some a => (s1.fabricNow.release a).startDone
     | none => s1)

/-- ENABLE_WRITES. -/
def execEnableWrites (t : Nat) (s : State) : Host.Outcome State Fault Refusal :=
  let s1 := s.tickTo t
  .next
    (match s1.startStep 4 with
     | some a => (s1.release (a * 16)).startDone
     | none => s1)

/-- RELEASE_GPIO. -/
def execReleaseGpio (t : Nat) (s : State) : Host.Outcome State Fault Refusal :=
  let s1 := s.tickTo t
  .next
    (match s1.startStep 5 with
     | some a => (s1.release (a * 256)).startDone
     | none => s1)

/-- RELEASE_OUTPUTS: the start-up holds of channels, of triggers, or of both end. -/
def execReleaseOutputs (t : Nat) (s : State) : Host.Outcome State Fault Refusal :=
  let s1 := s.tickTo t
  .next
    (match s1.startStep 6 with
     | some a =>
       let s2 := if a.testBit 0 then (List.range 144).foldl (fun (s : State) ch => s.holdPad ch 0 false) s1 else s1
       let s3 := if a.testBit 1 then (List.range 16).foldl (fun (s : State) u => s.holdTrig u 0 false) s2 else s2
       (s3.release (a * 4096)).startDone
     | none => s1)

/-- A controller is released from reset: its clock domain's bit is set, and it boots. -/
def State.startMc (s : State) (c : Ctl) : State :=
  ((s.setImage O.CLK_CLK_ENABLE (setImgBit (s.image O.CLK_CLK_ENABLE) (408 + c.num) true)).release (2 ^ (14 + c.num))).bootMc c 0

/-- START_MC. -/
def execStartMc (t : Nat) (s : State) : Host.Outcome State Fault Refusal :=
  let s1 := s.tickTo t
  .next
    (match s1.startStep 7 with
     | some a =>
       let s2 := if a.testBit 0 then s1.countMc.startMc .a else s1.countMc
       (if a.testBit 1 then s2.startMc .b else s2).startDone
     | none => s1)

/-- DONE: CFG_DONE is released. -/
def execDoneStep (t : Nat) (s : State) : Host.Outcome State Fault Refusal :=
  let s1 := s.tickTo t
  .next
    (match s1.startStep 8 with
     | some _ => { (s1.release (2 ^ 16)).startDone with cfg := { s1.startDone.cfg with done := true } }
     | none => s1)

/-- END: the program ends, and the device is Active. -/
def execEndStep (t : Nat) (s : State) : Host.Outcome State Fault Refusal :=
  let s1 := s.tickTo t
  .next
    (match s1.startStep 0 with
     | some _ => ((s1.setReg O.DEV_DEVICE_STATE 1).setReg O.CFG_CFG_STATE 4).setReg O.CFG_STARTUP_STEP s1.cfg.step
     | none => s1)

end Sys2Proof.Machine
end

