-- ==== Sys2Proof/Machine/Power.lean ====
section
/-! DEFINITION. Resets of the device (R9, R71, R424, R446), supplies (R449) and temperature (R450). -/

namespace Sys2Proof.Machine

/-! ### Resets -/

/-- Under a reserved CFG_MODE the loader is halted, with CFG_INIT_N and CFG_ERR_N low (R308). -/
def State.portHalt (s : State) : State :=
  if 2 ≤ s.reg O.CFG_CFG_MODE then (s.setReg O.CFG_CFG_STATE 5).setCfg { s.cfg with initLow := true, errLow := true } else s

/-- What a reset leaves when it ends (R9): every block at its reset value. The key section of the Tack store is non-volatile (R71); the
supplies are measured; BOOT_COUNT and, until power-on reset, the memory devices and what their channels have completed outlive a pin
reset (*Table 2.17*, R446), and so does STREAM_ERRORS. CFG_MODE is sampled from its balls; a reserved one halts the loader (R308). -/
def State.resetDevice (s : State) (por : Bool) (cause mode : Nat) : State :=
  let s1 : State :=
    { pending := s.pending, now := s.now, resetAt := s.now, ttEdge := s.now, fabAt := s.now, mcAt := s.now, draws := s.draws, reply := s.reply, sent := s.sent,
      images := s.images.filter (fun e => e.1 / 256 == 0x1120),
      dbg := if por then {} else { tapIr := s.dbg.tapIr, tapReq := s.dbg.tapReq, tapReply := s.dbg.tapReply },
      dram := if por then [] else s.dram, memStep1 := if por then [] else s.memStep1 }
  let s2 := ((((s1.setReg O.SUP_SUPPLY_OK (s.reg O.SUP_SUPPLY_OK)).setReg O.SUP_VDDQ_LOW (s.reg O.SUP_VDDQ_LOW)).setReg O.CFG_CFG_MODE
    mode).setReg O.DEV_RESET_CAUSE cause).portHalt
  if por then s2 else ((s2.setReg O.CFG_STREAM_ERRORS (s.reg O.CFG_STREAM_ERRORS)).setReg (O.MC_BOOT_COUNT 0) (s.reg (O.MC_BOOT_COUNT 0))).setReg (O.MC_BOOT_COUNT 1) (s.reg (O.MC_BOOT_COUNT 1))

/-- A stored key fails its check at a reset: it is empty from then on (R71). -/
def State.keyFails (s : State) (k : Nat) : State :=
  ((s.setImage (O.KEYS_KEY_OBSERVER + k) []).setReg O.KEYS_KEY_CHECK_FAIL (setBit (s.reg O.KEYS_KEY_CHECK_FAIL) k true)).fault 4

/-- POWER_ON_RESET: power-on reset ends, once every rail of R446 has been above its threshold for 2 ms; `mode` is CFG_MODE at its
balls, and `bad` names the keys that fail their check. -/
def execPowerOnReset (t : Nat) (mode : Fin 4) (bad : List (Fin 5)) (s : State) : Host.Outcome State Fault Refusal :=
  let s1 := s.tickTo t
  .next
    (if s1.porAt.any fun a => decide (s1.now < a + 2 * Config.msUnits) then s1
     else bad.foldl (fun (s : State) k => s.keyFails k.val) (s1.resetDevice true 0 mode.val))

/-- What a low pulse on RESET_N means (*Table 16.4*). -/
inductive LowPulse where
  | nothing | symbol | lineError | undefined | reset
  deriving DecidableEq, Repr

/-- The meaning of a pulse of a width in ns. -/
def lowPulse (w : Nat) : LowPulse :=
  if w < 50 then .nothing
  else if w < 100 then .lineError
  else if w ≤ 400 then .symbol
  else if w < 600 then .lineError
  else if w ≤ 1400 then .symbol
  else if w < 1600 then .lineError
  else if w ≤ 1900 then .symbol
  else if w ≤ 12000 then .lineError
  else if w < 20000 then .undefined
  else .reset

/-- A one-wire frame is abandoned; a request already issued completes, and its reply is discarded (R425). -/
def State.abandonFrame (s : State) : State := { s with dbg := { s.dbg with owFrame := false, owDrop := s.dbg.owReq.isSome } }

/-- A line error on RESET_N. -/
def State.lineError (s : State) : State := s.abandonFrame.bump O.DBG_OW_ERRORS 1

/-- A pin reset with CFG_MODE at its balls, `bad` naming the keys that fail their check. -/
def State.pinReset (s : State) (cause mode : Nat) (bad : List (Fin 5)) : State :=
  bad.foldl (fun (s : State) k => s.keyFails k.val) (s.resetDevice false cause mode)

/-- PIN_RESET: a low pulse on RESET_N of a width in ns. The bits and the BREAK of a one-wire frame are other rows' commands. -/
def execPinReset (t width : Nat) (mode : Fin 4) (bad : List (Fin 5)) (s : State) : Host.Outcome State Fault Refusal :=
  let s1 := s.tickTo t
  .next
    (match lowPulse width with
     | .nothing => s1
     | .symbol => s1
     | .lineError => s1.lineError
     | .reset => s1.pinReset 1 mode.val bad
     | .undefined =>
       let (b, s2) := s1.drawBool
       if b then s2.pinReset 1 mode.val bad else s2.lineError)

/-! ### Supplies (R449); rails are numbered as the bits of SUPPLY_OK -/

/-- VDDQ_MEM, the rail without a reset threshold. -/
def railVddq : Nat := 6

/-- SUPPLY_OUT_OF_RANGE: a rail leaves its range. -/
def execSupplyOutOfRange (t : Nat) (rail : Fin 8) (s : State) : Host.Outcome State Fault Refusal :=
  let s1 := s.tickTo t
  let ok := s1.reg O.SUP_SUPPLY_OK
  .next
    (if ok.testBit rail.val then
      (s1.setReg O.SUP_SUPPLY_OK (setBit ok rail.val false)).setFlag O.SUP_SUPPLY_WARN rail.val O.SUP_SUPPLY_WARN_COUNT 1
     else s1)

/-- SUPPLY_IN_RANGE: a rail returns to its range; VDDQ_MEM is then above 0.54 V. -/
def execSupplyInRange (t : Nat) (rail : Fin 8) (s : State) : Host.Outcome State Fault Refusal :=
  let s1 := s.tickTo t
  let s2 := s1.setReg O.SUP_SUPPLY_OK (setBit (s1.reg O.SUP_SUPPLY_OK) rail.val true)
  .next (if rail.val = railVddq then s2.setReg O.SUP_VDDQ_LOW 0 else s2)

/-- SUPPLY_BELOW_THRESHOLD: a rail of R446 has been below its reset threshold for 1 µs: power-on reset is asserted, and held. -/
def execSupplyBelowThreshold (t : Nat) (rail : Fin 8) (s : State) : Host.Outcome State Fault Refusal :=
  let s1 := s.tickTo t
  .next (if rail.val = railVddq then s1 else { s1.resetDevice true 0 0 with porAt := some s1.now })

/-- VDDQ_LOW: VDDQ_MEM has been below 0.54 V for 1 µs: memory channels that are not OFF fail, and MEM_STATE is FAULT. -/
def execVddqLow (t : Nat) (s : State) : Host.Outcome State Fault Refusal :=
  let s1 := ((s.tickTo t).noteStep1.setReg O.SUP_VDDQ_LOW 1).setReg O.MEM_MEM_STATE 3
  .next ((List.range 8).foldl (fun (s : State) m => if s.reg (O.MEMC_STATE m) = 0 then s else s.setReg (O.MEMC_STATE m) 4) s1)

/-! ### Temperature (R450) -/

/-- TEMP and TEMP_WARN in m°C. -/
def State.temp (s : State) : Int := signed 32 (s.reg O.DEV_TEMP)
def State.tempWarn (s : State) : Int := signed 32 (s.reg O.SUP_TEMP_WARN)

/-- The hottest sensor. -/
def hottest : List Int → Int
  | [] => 0
  | [x] => x
  | x :: r => max x (hottest r)

/-- TEMP_REFRESH: the 20 sensors in m°C and the four sense pairs in mV are read; at TEMP_WARN FAULT bit 2 is set, and it re-arms
5,000 m°C below. -/
def execTempRefresh (t : Nat) (sensors : List Int) (sense : List Nat) (s : State) : Host.Outcome State Fault Refusal :=
  let l := (List.range 20).map fun i => sensors.getD i 0
  let s1 := ((s.tickTo t).setReg O.DEV_TEMP (unsigned 32 (hottest l))).setImage O.SUP_TEMP_SENSORS (l.flatMap fun x => leBytes 4 (unsigned 32 x))
  let s2 := s1.setImage O.SUP_VSENSE ((List.range 4).flatMap fun i => leBytes 2 (sense.getD i 0 % 65536))
  .next
    (if s2.tempWarn ≤ s2.temp then (if s2.hot then s2 else { s2.fault 2 with hot := true })
     else if s2.temp < s2.tempWarn - 5000 then { s2 with hot := false }
     else s2)

/-- THERMAL_TRIP: TEMP has reached 120,000 m°C. -/
def execThermalTrip (t : Nat) (s : State) : Host.Outcome State Fault Refusal :=
  let s1 := s.tickTo t
  .next
    (if s1.tripped ∨ s1.temp < 120000 then s1
     else
       let s2 := (List.range 144).foldl State.forcePark (s1.holdAll 4 true).stopEngines
       { ((s2.setFlag O.SUP_THERM_TRIP 0 O.SUP_THERM_TRIP_COUNT 1).fault 2).recovery 2 true with tripped := true })

/-- The owner of THERM_RELEASE. -/
def ownThermRelease : Owner := command fun s =>
  if s.tempWarn - 5000 ≤ s.temp then (.refused, s)
  else (.okay, { (s.holdAll 4 false).recovery 2 false with tripped := false })

/-- THERM_RELEASE. -/
def execThermRelease (t : Nat) (r : Requester) (v : Bool) (s : State) : Host.Outcome State Fault Refusal :=
  .next ((s.tickTo t).writeObj r O.SUP_THERM_RELEASE (b2n v) ownThermRelease)

end Sys2Proof.Machine
end

