-- ==== Sys2Proof/Machine/RunCtl.lean ====
section
/-! DEFINITION. The debug challenge (R419), run control of controllers and engines (R428 to R431, R434, R435), watchdogs (R432, R433),
the trace buffer and the event counters (R436, R437), keys and controller images (R69, R71), and the ledgers' snapshots (R48). -/

namespace Sys2Proof.Machine

/-! ### The challenge (R419) -/

/-- An ordinary read of CHALLENGE draws a nonce. -/
def State.drawChallenge (s : State) : State :=
  let (n, s1) := s.drawBytes 16
  { s1.setImage O.DBG_CHALLENGE n with dbg := { s1.dbg with nonceAt := some s1.now } }

/-- Whether a response is the right one, in time, on a bench device that has a debug key. -/
def State.responseOk (s : State) (img : List Byte) : Bool :=
  let key := s.image O.KEYS_KEY_DEBUG
  (s.dbg.nonceAt.any fun a => decide (s.now ≤ a + 1000 * Config.msUnits)) && s.reg O.ID_ACCESS_LEVEL != 0 && key != [] &&
    img == hmac key (ascii "EVS-DBG1" ++ s.image O.DBG_CHALLENGE ++ leBytes 8 (s.reg O.ID_SERIAL))

/-- The owner of RESPONSE: each nonce serves one; the eighth failure in a row refuses every response for 10 s. -/
def ownResponse : ImgOwner := unscheduled fun img s =>
  let ok := s.responseOk img
  let s1 : State := { s with dbg := { s.dbg with nonceAt := none } }
  if s.now < s.dbg.lockUntil then (.denied, s1.bump O.DBG_RESPONSE_FAILS 1)
  else if ok then (.okay, { s1 with dbg := { s1.dbg with fails := 0 } }.setReg O.DBG_DEBUG_LEVEL 2)
  else
    let n := s.dbg.fails + 1
    let d := if n ≥ 8 then { s1.dbg with fails := 0, lockUntil := s.now + 10000 * Config.msUnits } else { s1.dbg with fails := n }
    (.denied, { s1 with dbg := d }.bump O.DBG_RESPONSE_FAILS 1)

/-- RESPONSE_WRITE. -/
def execResponseWrite (t : Nat) (r : Requester) (crc tt : Nat) (s : State) : Host.Outcome State Fault Refusal :=
  .next ((s.tickTo t).commitObj r O.DBG_RESPONSE crc tt ownResponse)

/-- The owner of DEBUG_LOCK. -/
def ownDebugLock : Owner := command fun s => (.okay, s.setReg O.DBG_DEBUG_LEVEL 1)

/-- DEBUG_LOCK. -/
def execDebugLock (t : Nat) (r : Requester) (v : Bool) (s : State) : Host.Outcome State Fault Refusal :=
  .next ((s.tickTo t).writeObj r O.DBG_DEBUG_LOCK (b2n v) ownDebugLock)

/-! ### Controller run control (R428 to R431) -/

/-- A halt arises: it takes effect at an instruction boundary, or when the locked sequence ends. -/
def State.haltArises (s : State) (x : Ctl) (cause : Nat) : State := s.setCtl x { s.ctl x with arose := some (s.now, cause) }

/-- The owner of HALT_REQ. -/
def ownHaltReq (x : Ctl) : Owner := command fun s =>
  match s.reg (O.RUN_RUN_STATE x.num) with
  | 0 => (.okay, (s.haltArises x 1).setReg (O.RUN_RUN_STATE x.num) 1)
  | 3 => (.refused, s)
  | _ => (.okay, s)

/-- HALT_REQ. -/
def execHaltReq (t : Nat) (r : Requester) (x : Ctl) (v : Bool) (s : State) : Host.Outcome State Fault Refusal :=
  .next ((s.tickTo t).writeObj r (O.RUN_HALT_REQ x.num) (b2n v) (ownHaltReq x))

/-- The sessions bound to a controller are as old as they were when its halt took effect (R431). -/
def State.sessionsWaited (s : State) (x : Ctl) (d : Nat) : State :=
  (List.range 64).foldl
    (fun (s : State) i =>
      if s.reg (O.SES_STATE i) ≠ 0 ∧ s.reg (O.SES_CONTROLLER i) = x.num then
        s.setSession i { s.session i with lastGood := (s.session i).lastGood + d }
      else s) s

/-- The owner of RESUME: the controller goes on at DPC, present again. -/
def ownResume (x : Ctl) : Owner := command fun s =>
  if s.reg (O.RUN_RUN_STATE x.num) ≠ 2 then (.refused, s)
  else
    let c := s.ctl x
    let s1 := (s.sessionsWaited x (s.now - c.haltedAt)).setCtl x { c with skipWindow := true, stepping := false, arose := none }
    let s2 := (((s1.setReg (O.RUN_RUN_STATE x.num) 0).setReg (O.MC_DEBUG_ABSENT x.num) 0).setReg (O.MC_HB_MISSED x.num) 0).wdReload x
    (.okay, (s2.raise .partnerPresent 0 x.partner).trace 1 x.num 4 (s2.reg (O.RUN_DPC x.num)))

/-- RESUME. -/
def execResume (t : Nat) (r : Requester) (x : Ctl) (v : Bool) (s : State) : Host.Outcome State Fault Refusal :=
  .next ((s.tickTo t).writeObj r (O.RUN_RESUME x.num) (b2n v) (ownResume x))

/-- The owner of STEP: one instruction, then the controller halts again with HALT_CAUSE 2; it stays absent and RUN_STATE stays 2. -/
def ownStep (x : Ctl) : Owner := command fun s =>
  if s.reg (O.RUN_RUN_STATE x.num) ≠ 2 then (.refused, s)
  else (.okay, (s.setCtl x { s.ctl x with stepping := true }).haltArises x 2)

/-- STEP. -/
def execStep (t : Nat) (r : Requester) (x : Ctl) (v : Bool) (s : State) : Host.Outcome State Fault Refusal :=
  .next ((s.tickTo t).writeObj r (O.RUN_STEP x.num) (b2n v) (ownStep x))

/-- A halt takes effect with the program counter and registers the controller holds: it is absent, not lost (R431), and its watchdog
freezes (R433). -/
def State.haltNow (s : State) (x : Ctl) (cause dpc : Nat) (gpr : List Byte) : State :=
  let c := s.ctl x
  let s0 := s.wdKeep x
  let first := !s0.isSet (O.MC_DEBUG_ABSENT x.num)
  let s1 := s0.setCtl x { s0.ctl x with arose := none, stepping := false, haltedAt := if first then s.now else c.haltedAt }
  let s2 := ((s1.setReg (O.RUN_RUN_STATE x.num) 2).setReg (O.RUN_HALT_CAUSE x.num) cause).setReg (O.RUN_DPC x.num) (dpc % 2 ^ 64)
  let s3 := (s2.setImage (O.RUN_GPR x.num) (fill 8 0 ++ (gpr ++ fill 256 0 |>.drop 8 |>.take 248))).setReg (O.MC_DEBUG_ABSENT x.num) 1
  (if first then s3.raise .partnerAbsent 0 x.partner else s3).trace 1 x.num 3 dpc

/-- CONTROLLER_HALT: a halt that arose takes effect. -/
def execControllerHalt (t : Nat) (x : Ctl) (dpc : Nat) (gpr : List Byte) (s : State) : Host.Outcome State Fault Refusal :=
  let s1 := s.tickTo t
  .next
    (match (s1.ctl x).arose with
     | some (_, cause) => s1.haltNow x cause dpc gpr
     | none => s1)

/-- LOCKED_SEQUENCE_LIMIT: a halt that has waited 64 MC cycles (1.0 GHz) for a locked sequence is taken (R430). -/
def execLockedSequenceLimit (t : Nat) (x : Ctl) (dpc : Nat) (gpr : List Byte) (s : State) : Host.Outcome State Fault Refusal :=
  let s1 := s.tickTo t
  .next
    (match (s1.ctl x).arose with
     | some (at0, _) => if at0 + 64 * Config.nsUnits ≤ s1.now then s1.haltNow x 4 dpc gpr else s1
     | none => s1)

/-- CTRL of comparator k of a controller (*Table 16.6*). -/
def State.mcComp (s : State) (x : Ctl) (k : Nat) : Nat := fieldLE (s.image (O.RUN_COMP x.num)) (16 * k + 8) 4

/-- Whether comparator k matches an access (R429). -/
def State.mcMatches (s : State) (x : Ctl) (k : Nat) (how : McAccess) (addr : Nat) : Bool :=
  let c := s.mcComp x k
  let kind := match how with
    | .execute => bits c 5 4 == 0
    | .load => bits c 5 4 == 1 || bits c 5 4 == 3
    | .store => bits c 5 4 == 2 || bits c 5 4 == 3
    | .amo => bits c 5 4 != 0
  c.testBit 0 && kind && (addr % 2 ^ 64 ^^^ fieldLE (s.image (O.RUN_COMP x.num)) (16 * k) 8) / 2 ^ bits c 15 10 == 0

/-- HITS of comparator k counts. -/
def State.mcHit (s : State) (x : Ctl) (k : Nat) : State :=
  let o := O.RUN_COMP x.num
  s.setImage o (splice (s.image o) (16 * k + 12) (leBytes 4 ((fieldLE (s.image o) (16 * k + 12) 4 + 1) % 2 ^ 32)))

/-- A match counts; ACTION 1 and 2 record it, and 2 stops the trace after its record. -/
def State.mcMatch (s : State) (x : Ctl) (k : Nat) : State :=
  let s1 := s.mcHit x k
  match bits (s.mcComp x k) 7 6 with
  | 1 => s1.trace 1 x.num 5 k
  | 2 => (s1.trace 1 x.num 5 k).stopTrace
  | _ => s1

/-- COMPARATOR_MATCH: an instruction of a controller that executes meets its comparators; `first` says that it is the one at which a
RESUME or STEP began. A match of ACTION 0 halts it, unless a halt already waits. -/
def execComparatorMatch (t : Nat) (x : Ctl) (how : McAccess) (addr : Nat) (first : Bool) (s : State) : Host.Outcome State Fault Refusal :=
  let s1 := s.tickTo t
  let runs := decide (s1.reg (O.RUN_RUN_STATE x.num) < 2) || (s1.ctl x).stepping
  let hits := (List.range 8).filter fun k => s1.mcMatches x k how addr && !(how == .execute && first)
  let s2 := hits.foldl (fun (s : State) k => s.mcMatch x k) s1
  .next
    (if !runs then s1
     else if hits.any (fun k => bits (s1.mcComp x k) 7 6 == 0) && (decide (s1.reg (O.RUN_RUN_STATE x.num) = 0) || (s1.ctl x).stepping) then
      let s3 := s2.haltArises x 3
      if s1.reg (O.RUN_RUN_STATE x.num) = 0 then s3.setReg (O.RUN_RUN_STATE x.num) 1 else s3
     else s2)

/-- The owner of COMP: HITS are kept, ACTION 3 is reserved, and a halt needs level 2. -/
def ownComp (x : Ctl) : ImgOwner := unscheduled fun img s =>
  let ctrl := fun k => fieldLE img (16 * k + 8) 4
  if img.length ≠ 128 ∨ (List.range 8).any (fun k => bits (ctrl k) 7 6 == 3) then (.refused, s)
  else if s.reg O.DBG_DEBUG_LEVEL ≠ 2 ∧ (List.range 8).any (fun k => (ctrl k).testBit 0 && bits (ctrl k) 7 6 == 0) then (.denied, s)
  else
    (.okay, s.setImage (O.RUN_COMP x.num) ((List.range 8).flatMap fun k =>
      slice (16 * k) 8 img ++ leBytes 4 (ctrl k &&& 0xFCF1) ++ slice (16 * k + 12) 4 (s.image (O.RUN_COMP x.num))))

/-- The owner of GPR: while halted; x0 stays 0. -/
def ownGpr (x : Ctl) : ImgOwner := unscheduled fun img s =>
  if img.length ≠ 256 ∨ s.reg (O.RUN_RUN_STATE x.num) ≠ 2 then (.refused, s) else (.okay, s.setImage (O.RUN_GPR x.num) (fill 8 0 ++ img.drop 8))

/-- The owner of DPC: while halted. -/
def ownDpc (x : Ctl) : Owner := storeIf (fun s => s.reg (O.RUN_RUN_STATE x.num) == 2) (O.RUN_DPC x.num)

/-! ### Watchdogs (R432, R433) -/

/-- The owner of KICK. -/
def ownKick (x : Ctl) : Owner := fun v s => if v = 0x5A then (.okay, s.wdReload x) else (.refused, s.bump (O.WD_BAD_KICKS x.num) 1)

/-- KICK. -/
def execKick (t : Nat) (r : Requester) (x : Ctl) (v : Nat) (s : State) : Host.Outcome State Fault Refusal :=
  .next ((s.tickTo t).writeObj r (O.WD_KICK x.num) v (ownKick x))

/-- The owner of ENABLE: once set it is cleared by a shed reset only; the count begins at TIMEOUT. -/
def ownWdEnable (x : Ctl) : Owner := fun v s =>
  if v = 0 then (if s.isSet (O.WD_ENABLE x.num) then (.refused, s) else (.okay, s))
  else if s.isSet (O.WD_ENABLE x.num) then (.okay, s)
  else (.okay, (s.setReg (O.WD_ENABLE x.num) 1).wdReload x)

/-- WATCHDOG_ENABLE. -/
def execWatchdogEnable (t : Nat) (r : Requester) (x : Ctl) (v : Bool) (s : State) : Host.Outcome State Fault Refusal :=
  .next ((s.tickTo t).writeObj r (O.WD_ENABLE x.num) (b2n v) (ownWdEnable x))

/-- The owner of TIMEOUT: while ENABLE is 0. -/
def ownWdTimeout (x : Ctl) : Owner := storeIf (fun s => !s.isSet (O.WD_ENABLE x.num)) (O.WD_TIMEOUT x.num)

/-- The owner of PRETIMEOUT: 0, or below TIMEOUT. -/
def ownWdPre (x : Ctl) : Owner := fun v s =>
  if v ≠ 0 ∧ s.reg (O.WD_TIMEOUT x.num) ≤ v then (.refused, s) else (.okay, s.setReg (O.WD_PRETIMEOUT x.num) v)

/-- Whether a watchdog counts. -/
def State.wdCounts (s : State) (x : Ctl) : Bool := s.isSet (O.WD_ENABLE x.num) && !s.wdFrozen x

/-- PRETIMEOUT: REMAINING has reached PRETIMEOUT. -/
def execPretimeout (t : Nat) (x : Ctl) (s : State) : Host.Outcome State Fault Refusal :=
  let s1 := s.tickTo t
  .next
    (if s1.wdCounts x ∧ s1.reg (O.WD_PRETIMEOUT x.num) ≠ 0 ∧ s1.wdRemaining x ≤ s1.reg (O.WD_PRETIMEOUT x.num) ∧ !(s1.ctl x).wdPre then
      ((s1.setCtl x { s1.ctl x with wdPre := true }).raise .preTimeout 0 x).trace 1 x.num 6 0
     else s1)

/-- WATCHDOG_EXPIRY: the MC cycle in which REMAINING reaches 0 has passed, and no KICK or halt came in it (R433); the controller's shed is
fenced, reset and unfenced. -/
def execWatchdogExpiry (t : Nat) (x : Ctl) (s : State) : Host.Outcome State Fault Refusal :=
  let s1 := s.tickTo t
  .next
    (if s1.wdCounts x ∧ (s1.ctl x).wdAt + (s1.ctl x).wdLeft * Config.usUnits + Config.nsUnits ≤ s1.now ∧ !s1.resetting.contains (93 + x.num) then
      ((s1.setFlag (O.WD_EXPIRED x.num) 0 (O.WD_EXPIRED_COUNT x.num) 1).trace 1 x.num 7 0).beginReset (93 + x.num)
     else s1)

/-! ### Engine run control (R434, R435) -/

/-- The owner of ENG_HALT: the gang halts at the next word clock; an HCLAIM stall completes first. -/
def ownEngHalt : Owner := fun v s =>
  let e := v % 512
  if s.reg (O.ENG_STATE e) ≠ 4 then (.refused, s)
  else
    let s1 := (s.haltPump).dspPump e s.wc
    if (s1.gangOf e).any fun m => (s1.engine m).claim.isSome then (.okay, s1.setEngine e { s1.engine e with haltReq := 1 })
    else (.okay, s1.haltGang e (s1.wc + 1) [(e, 1)])

/-- ENG_HALT. -/
def execEngHalt (t : Nat) (r : Requester) (v : Nat) (s : State) : Host.Outcome State Fault Refusal :=
  .next ((s.tickTo t).writeObj r O.ENGDBG_ENG_HALT v ownEngHalt)

/-- The HALTED members of an engine's gang, or itself. -/
def State.haltedGang (s : State) (e : Nat) : List Nat :=
  let g := s.reg (O.ENG_GANG e)
  if g = 0 then [e] else ((List.range 32).map (e / 32 * 32 + ·)).filter fun m => s.reg (O.ENG_GANG m) == g && s.reg (O.ENG_STATE m) == 7

/-- A HALTED engine runs on from a word clock: a WAITC with what it had left, a WAITTT late if its instant has passed, the refresh
timer from its count. -/
def State.resumeEngine (s : State) (e wc : Nat) (step : Bool) : State :=
  let g := s.engine e
  let late := match g.wait with
    | some d => g.waitTt && decide (d < wc)
    | none => false
  let wait := match g.waitLeft with
    | some n => some (wc + n)
    | none => g.wait
  ((s.setEngine e { g with
      wait := wait, waitLeft := none, waitLate := late, refBase := wc - g.refKept, free := max g.free wc, skipMatch := true, stepping := step }).setReg
    (O.ENG_STATE e) 4).engineTrace e 2 0

/-- The owner of ENG_RESUME and ENG_STEP. -/
def ownEngGo (step : Bool) : Owner := fun v s =>
  let e := v % 512
  if s.reg (O.ENG_STATE e) ≠ 7 then (.refused, s)
  else (.okay, (s.haltedGang e).foldl (fun (s : State) m => s.resumeEngine m (s.wc + 1) step) s)

/-- ENG_RESUME. -/
def execEngResume (t : Nat) (r : Requester) (v : Nat) (s : State) : Host.Outcome State Fault Refusal :=
  .next ((s.tickTo t).writeObj r O.ENGDBG_ENG_RESUME v (ownEngGo false))

/-- ENG_STEP. -/
def execEngStep (t : Nat) (r : Requester) (v : Nat) (s : State) : Host.Outcome State Fault Refusal :=
  .next ((s.tickTo t).writeObj r O.ENGDBG_ENG_STEP v (ownEngGo true))

/-- The owner of ENG_COMP: KIND 3 and ACTION 3 are reserved, and a halt needs level 2. -/
def ownEngComp : ImgOwner := unscheduled fun img s =>
  let l := (List.range 1024).map fun k => slice (16 * k) 16 img
  if img.length ≠ 16384 ∨ l.any (fun c => bits (byteAt c 14) 2 1 == 3 || bits (byteAt c 14) 4 3 == 3) then (.refused, s)
  else if s.reg O.DBG_DEBUG_LEVEL ≠ 2 ∧ l.any (fun c => (byteAt c 14).testBit 0 && bits (byteAt c 14) 4 3 == 0) then (.denied, s)
  else
    (.okay, s.setImage O.ENGDBG_ENG_COMP (l.flatMap fun c =>
      slice 0 6 c ++ fill 2 0 ++ slice 8 6 c ++ leBytes 1 (byteAt c 14 % 32) ++ fill 1 0))

/-! ### Trace (R436) -/

/-- The owner of TRACE_RUN: 1 starts a capture with a TIME record, 0 stops it. -/
def ownTraceRun : Owner := fun v s =>
  if v = 0 then (.okay, s.traceDrain.stopTrace)
  else
    let s1 : State := { s.countMc with traceFifo := [], traceAt := s.now, traceCount := 0, traceLossPending := 0 }
    let s2 := ((s1.setReg O.TRACE_TRACE_WPTR 0).setReg O.TRACE_TRACE_WRAPPED 0).setReg O.TRACE_TRACE_RUN 1
    (.okay, s2.tracePut (s2.traceWord 0 0 0 s2.stampTick))

/-- TRACE_RUN. -/
def execTraceRun (t : Nat) (r : Requester) (v : Bool) (s : State) : Host.Outcome State Fault Refusal :=
  .next ((s.tickTo t).writeObj r O.TRACE_TRACE_RUN (b2n v) ownTraceRun)

/-- TRACE_RECORD: an event of a controller's firmware: 0 taken branch or jump, 1 trap entry, 2 trap return, with its target. -/
def execTraceRecord (t : Nat) (x : Ctl) (kind : Fin 3) (target : Nat) (s : State) : Host.Outcome State Fault Refusal :=
  let s1 := s.tickTo t
  .next (if s1.reg (O.RUN_RUN_STATE x.num) < 2 ∨ (s1.ctl x).stepping then s1.trace 1 x.num kind.val target else s1)

/-- TRACE_DRAIN_END: the FIFO of a stopped trace drains into the buffer. -/
def execTraceDrainEnd (t : Nat) (s : State) : Host.Outcome State Fault Refusal :=
  let s1 := s.tickTo t
  .next (if s1.isSet O.TRACE_TRACE_RUN then s1 else s1.traceDrain)

/-- The owner of TRACE_USER: a class 5 record of the writing controller. -/
def ownTraceUser (x : Ctl) : Owner := fun v s => (.okay, s.trace 5 x.num 0 v)

/-- TRACE_USER. -/
def execTraceUser (t : Nat) (r : Requester) (v : Nat) (s : State) : Host.Outcome State Fault Refusal :=
  let s1 := s.tickTo t
  .next (s1.writeObj r O.TRACE_TRACE_USER v (ownTraceUser (s1.ctlOf r)))

/-- The owner of a selection image of n bytes. -/
def ownSelect (o n : Nat) : ImgOwner := unscheduled fun img s => if img.length ≠ n then (.refused, s) else (.okay, s.setImage o img)

/-! ### Event counters (R437) -/

/-- Units and events of each class (*Table 16.10*). -/
def evClass : Nat → Option (Nat × Nat)
  | 0 => some (512, 4)
  | 1 => some (144, 4)
  | 2 => some (98, 3)
  | 3 => some (8, 4)
  | 4 => some (8, 2)
  | 5 => some (2, 3)
  | _ => none

/-- The owner of EVSEL: reserved classes, units, events and gates are refused. -/
def ownEvsel (k : Nat) : Owner := fun v s =>
  match evClass (bits v 31 28) with
  | some (u, e) => if u ≤ bits v 27 16 ∨ e ≤ bits v 15 8 ∨ bits v 1 0 = 3 then (.refused, s) else (.okay, s.countMc.setReg (O.EVC_EVSEL k) v)
  | none => (.refused, s)

/-- The owner of CLEAR of an event counter. -/
def ownCounterClear (k : Nat) : Owner := command fun s => (.okay, s.countMc.setReg (O.EVC_COUNT k) 0)

/-- COUNTER_CLEAR. -/
def execCounterClear (t : Nat) (r : Requester) (k : Fin 16) (v : Bool) (s : State) : Host.Outcome State Fault Refusal :=
  .next ((s.tickTo t).writeObj r (O.EVC_CLEAR k.val) (b2n v) (ownCounterClear k.val))

/-- The owner of SNAP. -/
def ownSnap : Owner := command fun s0 =>
  let s := s0.countMc
  (.okay, (s.setImage O.EVSNAP_SNAP_VALUES ((List.range 16).flatMap fun k => leBytes 8 (s.reg (O.EVC_COUNT k)))).setReg O.EVSNAP_SNAP_TT
    s.ttTickNow)

/-- SNAP. -/
def execSnap (t : Nat) (r : Requester) (v : Bool) (s : State) : Host.Outcome State Fault Refusal :=
  .next ((s.tickTo t).writeObj r O.EVSNAP_SNAP (b2n v) ownSnap)

/-! ### Keys (R71, *Table 2.21*) -/

/-- The owner of key k (0 OBSERVER to 4 debug): it applies from its next use. -/
def ownKey (k : Nat) : ImgOwner := unscheduled fun img s =>
  if img.length > 64 ∨ (k = 4 ∧ img.length ≠ 32 ∧ img ≠ []) then (.refused, s)
  else
    let w := s.image O.KEYS_KEY_WRITES
    (.okay, (s.setImage (O.KEYS_KEY_OBSERVER + k) img).setImage O.KEYS_KEY_WRITES
      (splice w (4 * k) (leBytes 4 ((fieldLE w (4 * k) 4 + 1) % 2 ^ 32))))

/-- KEY_COMMIT. -/
def execKeyCommit (t : Nat) (r : Requester) (k : Fin 5) (crc tt : Nat) (s : State) : Host.Outcome State Fault Refusal :=
  .next ((s.tickTo t).commitObj r (O.KEYS_KEY_OBSERVER + k.val) crc tt (ownKey k.val))

/-! ### Controller images (R69) -/

/-- Whether a controller restarts: its shed's reset waits, or it has booted and not yet written a heartbeat. -/
def State.restarting (s : State) (x : Ctl) : Bool :=
  s.resetting.contains (93 + x.num) || ((s.reg O.CFG_RELEASED).testBit (14 + x.num) && s.reg (O.MC_FW_STATE x.num) != 1)

/-- The owner of a controller's image: the controller not in charge, with its partner present; then its shed is reset. -/
def ownFirmware (x : Ctl) : ImgOwner := unscheduled fun img s =>
  if s.holder = some x ∨ !s.isSet (O.MC_PRESENT x.partner.num) then (.refused, s)
  else if !s.firmwareOk img then (.aborted, s)
  else if s.restarting .a ∨ s.restarting .b then (.busy, s)
  else (.okay, ((s.setImage (O.MC_IMAGE x.num) img).setReg (O.MC_FW_STATE x.num) 2).beginReset (93 + x.num))

/-- FIRMWARE_IMAGE_COMMIT. -/
def execFirmwareImageCommit (t : Nat) (r : Requester) (x : Ctl) (crc tt : Nat) (s : State) : Host.Outcome State Fault Refusal :=
  .next ((s.tickTo t).commitObj r (O.MC_IMAGE x.num) crc tt (ownFirmware x))

/-! ### Ledgers (R48) -/

/-- The owner of SNAP of the ledger at index l: all terms at once, and whether they close. -/
def ownLedgerSnap (l : Nat) : Owner := command fun s =>
  let terms := (List.range 8).map fun k => s.reg (ledTerm l k)
  let n := s.reg (O.LED_NTERMS (l - 0x1041))
  let closes := n = 0 ∨ terms.headD 0 = ((terms.take n).drop 1).sum
  let s1 := (List.range 8).foldl (fun (s : State) k => s.setReg (O.LED_SNAP0 (l - 0x1041) + k) (terms.getD k 0)) s
  let s2 := (s1.setReg (O.LED_SNAP_TT (l - 0x1041)) s.ttTickNow).setBool (O.LED_CLOSED (l - 0x1041)) (decide closes)
  (.okay, if closes then s2 else (s2.setFlag (O.LED_MISMATCH (l - 0x1041)) 0 (O.LED_MISMATCH_COUNT (l - 0x1041)) 1).fault 3)

/-- LEDGER_SNAP. -/
def execLedgerSnap (t : Nat) (r : Requester) (l : Fin 63) (v : Bool) (s : State) : Host.Outcome State Fault Refusal :=
  .next ((s.tickTo t).writeObj r (O.LED_SNAP l.val) (b2n v) (ownLedgerSnap (0x1041 + l.val)))

end Sys2Proof.Machine
end

