-- ==== Sys2Proof/Machine/Owners.lean ====
section
/-! DEFINITION. Who performs a write: the owner of every object that a write or a commit can reach (R10, R42, R459 step 6), and the
longest image a DOMAIN object takes. An object without an owner of its own here only holds its value. -/

namespace Sys2Proof.Machine

/-! ### Owners of scalar objects, block by block -/

/-- An owner that refuses. -/
def refuse : Owner := fun _ s => (.refused, s)

/-- Controller x by its number. -/
def ctlAt (x : Nat) : Ctl := if x = 0 then .a else .b

/-- The owner of KISKO_PORT: while no slot is challenged or open (R51, *Table 2.20*). -/
def ownKiskoPort : Owner := fun v s =>
  if v = 319 ∨ v = 320 ∨ (List.range 64).any (fun i => s.reg (O.SES_STATE i) != 0) then (.refused, s)
  else (.okay, s.setReg O.KISKO_KISKO_PORT v)

/-- Objects of 0x1000 to 0x12FF. -/
def ownCommon (s : State) (r : Requester) (i sub : Nat) : Option Owner :=
  if i = 0x1002 ∧ sub = 0x09 then some ownThermRelease
  else if inBlock i 0x1041 63 ∧ sub = 0x03 then some (ownLedgerSnap i)
  else if inBlock i 0x1100 2 ∧ sub = 0x01 then some (ownPhyMode (i - 0x1100))
  else if i = 0x1110 ∧ sub = 0x01 then some ownKiskoPort
  else if inBlock i 0x1140 64 ∧ sub = 0x09 then some (ownClose (i - 0x1140))
  else if i = 0x1200 then
    (match sub with
     | 0x04 => some (ownClaim (s.ctlOf r))
     | 0x05 => some (ownOffer (s.ctlOf r))
     | 0x06 => some (ownAccept (s.ctlOf r))
     | 0x07 => some (ownTake (s.ctlOf r))
     | 0x09 => some ownHandoverRequest
     | _ => none)
  else if inBlock i 0x1201 2 ∧ sub = 0x01 then some (ownHeartbeat (ctlAt (i - 0x1201)))
  else if inBlock i 0x1210 2 then
    (match sub with
     | 0x01 => some (ownWdEnable (ctlAt (i - 0x1210)))
     | 0x02 => some (ownWdTimeout (ctlAt (i - 0x1210)))
     | 0x03 => some (ownWdPre (ctlAt (i - 0x1210)))
     | 0x04 => some (ownKick (ctlAt (i - 0x1210)))
     | _ => none)
  else none

/-- Objects of 0x1400 to 0x18FF. -/
def ownPlatform (i sub : Nat) : Option Owner :=
  if i = 0x1400 ∧ sub = 0x07 then some ownPadRelease
  else if inBlock i 0x1402 4 ∧ sub = 0x01 then some (ownFpll (i - 0x1402) false)
  else if inBlock i 0x1402 4 ∧ sub = 0x02 then some (ownFpll (i - 0x1402) true)
  else if inBlock i 0x1410 16 ∧ sub = 0x01 then some (ownGclkSrc (i - 0x1410))
  else if inBlock i 0x1420 24 ∧ sub = 0x01 then some (ownRclkSrc (i - 0x1420))
  else if inBlock i 0x1420 24 ∧ sub = 0x02 then some (ownRclkDiv (i - 0x1420))
  else if i = 0x1500 then
    (match sub with
     | 0x03 => some ownSleepArm
     | 0x04 => some ownSleepCancel
     | 0x0D => some ownWakeRequest
     | 0x0F => some ownRunUser
     | _ => none)
  else if inBlock i 0x1510 98 ∧ sub = 0x03 then some (ownShedReset (i - 0x1510))
  else if i = 0x1801 ∧ sub = 0x01 then some ownAuditRegion
  else if i = 0x1801 ∧ sub = 0x02 then some ownAuditStart
  else if inBlock i 0x1810 24 then
    (match sub with
     | 0x05 => some (ownShadowDiscard (i - 0x1810))
     | 0x08 => some (ownSwapArm (i - 0x1810))
     | 0x09 => some (ownSwapCancel (i - 0x1810))
     | _ => none)
  else none

/-- Objects of 0x1A00 to 0x1EFF. -/
def ownServices (i sub : Nat) : Option Owner :=
  if i = 0x1A00 ∧ sub = 0x0A then some ownTtResync
  else if inBlock i 0x1A10 2 then
    (match sub with
     | 0x01 => some (ownPtpEnable (i - 0x1A10))
     | 0x02 => some (storeIf (fun s => !s.isSet (O.PTP_ENABLE (i - 0x1A10))) (O.PTP_DOMAIN_NUMBER (i - 0x1A10)))
     | 0x03 => some (storeIf (fun s => !s.isSet (O.PTP_ENABLE (i - 0x1A10))) (O.PTP_PORT (i - 0x1A10)))
     | _ => none)
  else if i = 0x1A12 ∧ sub = 0x03 then some ownSwitchArm
  else if i = 0x1A12 ∧ sub = 0x04 then some ownSwitchCancel
  else if inBlock i 0x1A20 16 then
    (match sub with
     | 0x01 => some (ownTrigMode (i - 0x1A20))
     | 0x07 => some (ownTrigArm (i - 0x1A20))
     | 0x08 => some (ownTrigCancel (i - 0x1A20))
     | 0x0B => some (ownTrigQueue (i - 0x1A20))
     | _ => none)
  else if i = 0x1C00 then
    (match sub with
     | 0x02 => some ownMemConfig
     | 0x03 => some ownMemEnable
     | 0x14 => some ownWindowAddr
     | 0x17 => some ownWalkCtrl
     | _ => none)
  else if i = 0x1C30 ∧ sub = 0x01 then some ownMarchTarget
  else if i = 0x1C30 ∧ sub = 0x03 then some ownMarchStart
  else if i = 0x1C31 ∧ sub = 0x02 then some ownScrubEnable
  else if i = 0x1C31 ∧ sub = 0x04 then some ownForceAfter
  else if inBlock i 0x1C40 64 ∧ sub = 0x03 then some (ownRetire (i - 0x1C40))
  else if i = 0x1E00 ∧ sub = 0x04 then some ownRespLimit
  else if i = 0x1E00 ∧ sub = 0x05 then some ownReqLimit
  else if inBlock i 0x1E10 98 ∧ sub = 0x03 then some (ownIsolate (i - 0x1E10))
  else if inBlock i 0x1E10 98 ∧ sub = 0x04 then some (ownDeisolate (i - 0x1E10))
  else none

/-- Objects of channel ch (*Table 4.15*). -/
def ownChannel (ch sub : Nat) : Option Owner :=
  match sub with
  | 0x01 => some (ownChMode ch)
  | 0x03 => some (storeIf (fun s => s.parked ch) (O.CH_SITE ch))
  | 0x04 => some (storeIf (fun s => s.parked ch) (O.CH_FIFO_MODE ch))
  | 0x05 => some (ownParkCode ch)
  | 0x07 => some (ownTrim ch)
  | 0x08 => some (storeIf (fun s => s.parked ch) (deskewObj ch 0))
  | 0x09 => some (storeIf (fun s => s.parked ch) (deskewObj ch 1))
  | 0x0A => some (storeIf (fun s => s.parked ch) (deskewObj ch 2))
  | 0x0B => some (storeIf (fun s => s.parked ch) (deskewObj ch 3))
  | 0x14 => some (ownEdgeFault ch)
  | _ => none

/-- The owner of a register of engine e that holds its value in the states of R165; LCTL and EVQ refuse reserved encodings. -/
def ownEngReg (e sub : Nat) : Owner := fun v s =>
  if !s.engineSafe e ∨ (0x09 ≤ sub ∧ sub ≤ 0x0C ∧ !lctlOk v) ∨ (sub = 0x11 ∧ 32768 ≤ v ∧ v ≠ 0xFFFF) then (.refused, s)
  else (.okay, s.setReg ((0x2400 + e) * 256 + sub) v)

/-- Objects of engine e (*Table 5.17*, *Table 6.10*). -/
def ownEngine (e sub : Nat) : Option Owner :=
  match sub with
  | 0x06 => some (ownStartArm e)
  | 0x07 => some (ownStartCancel e)
  | 0x08 => some (ownStopReq e)
  | 0x23 => some (ownFailedMark e)
  | 0x2D => some (ownDspConfig e)
  | 0x2E => some (ownDspFlags e)
  | 0x05 => none
  | 0x12 => none
  | 0x16 => none
  | 0x18 => none
  | 0x1A => none
  | _ => some (ownEngReg e sub)

/-- Objects of 0x2100 to 0x34FF. -/
def ownPattern (i sub : Nat) : Option Owner :=
  if inBlock i 0x2000 144 then ownChannel (i - 0x2000) sub
  else if inBlock i 0x2100 4 ∧ sub = 0x04 then some (ownBankArm (i - 0x2100))
  else if inBlock i 0x2100 4 ∧ sub = 0x05 then some (ownBankCancel (i - 0x2100))
  else if inBlock i 0x2400 512 then ownEngine (i - 0x2400) sub
  else if inBlock i 0x3000 4 then
    (match sub with
     | 0x02 => some (ownQueueNo (O.FC_FAIL_QUEUE (i - 0x3000)))
     | 0x04 => some (ownRunEn (i - 0x3000))
     | 0x07 => some (ownFcFlush (i - 0x3000))
     | _ => none)
  else if inBlock i 0x3004 4 then
    (match sub with
     | 0x01 => some (ownAddrMap (i - 0x3004))
     | 0x04 => some (ownRepairClear (i - 0x3004))
     | 0x05 => some (ownReport (i - 0x3004))
     | 0x06 => some (ownQueueNo (O.RU_REPORT_QUEUE (i - 0x3004)))
     | _ => none)
  else if i = 0x3010 ∧ sub = 0x03 then some ownSiteFailsClear
  else if i = 0x3400 then
    (match sub with
     | 0x01 => some (storeIf (fun s => !s.anyYardLine) O.HALT_YARD_POS)
     | 0x02 => some (ownYardSide O.HALT_YARD_CW)
     | 0x03 => some (ownYardSide O.HALT_YARD_CCW)
     | _ => none)
  else if inBlock i 0x3408 8 ∧ sub = 0x07 then some (ownForceRelease (i - 0x3408))
  else if inBlock i 0x3408 8 ∧ sub = 0x0B then some (ownClearFailsafe (i - 0x3408))
  else none

/-- Objects of serial lane ch (*Table 9.4*). -/
def ownSerial (ch sub : Nat) : Option Owner :=
  match sub with
  | 0x01 => some (ownSerEn ch)
  | 0x02 => some (storeIf (fun s => s.serSafe ch) (O.SER_RATE ch))
  | 0x03 => some (storeIf (fun s => s.serSafe ch) (O.SER_LINE_CODE ch))
  | 0x04 => some (storeIf (fun s => s.serSafe ch) (O.SER_TX_SRC ch))
  | 0x05 => some (storeIf (fun s => s.serSafe ch) (O.SER_RX_SINK ch))
  | 0x06 => some (storeIf (fun s => s.serSafe ch) (O.SER_LOOPBACK ch))
  | 0x07 => some (ownPrbs ch)
  | 0x09 => some (ownFfe ch)
  | 0x0B => some (ownDfe ch)
  | 0x13 => some (ownBitslip ch)
  | 0x18 => some (ownErrClear ch)
  | 0x1B => some (storeIf (fun s => s.serSafe ch) (O.SER_EYE_DWELL ch))
  | 0x1C => some (ownEyeStart ch)
  | _ => none

/-- Objects of 0x3600 to 0x39FF. -/
def ownLinks (i sub : Nat) : Option Owner :=
  if inBlock i 0x3600 144 then ownSerial (i - 0x3600) sub
  else if inBlock i 0x36A0 4 then
    let p := i - 0x36A0
    (match sub with
     | 0x01 => some (ownYardEnable p)
     | 0x03 => some (storeIf (fun s => s.yardSafe p) (O.YARD_MAX_RATE p))
     | 0x0B => some (storeIf (fun s => s.yardSafe p) (O.YARD_ENCRYPT p))
     | 0x0F => some (ownKeyRotate p)
     | _ => none)
  else if inBlock i 0x3804 4 then
    (match sub with
     | 0x06 => some (ownProducerBind (i - 0x3804) 0)
     | 0x07 => some (ownProducerBind (i - 0x3804) 1)
     | 0x08 => some (ownConsumerBind (i - 0x3804) 0)
     | 0x09 => some (ownConsumerBind (i - 0x3804) 1)
     | _ => none)
  else if inBlock i 0x3810 8 ∧ sub = 0x01 then some (ownSource (i - 0x3810))
  else none

/-- Objects of 0x3A00 to 0x3AFF. -/
def ownDebug (s : State) (r : Requester) (i sub : Nat) : Option Owner :=
  if i = 0x3A00 ∧ sub = 0x04 then some ownDebugLock
  else if i = 0x3A01 ∧ sub = 0x01 then some ownTraceRun
  else if i = 0x3A01 ∧ sub = 0x02 then some (storeIf (fun s => !s.isSet O.TRACE_TRACE_RUN) O.TRACE_TRACE_MODE)
  else if i = 0x3A01 ∧ sub = 0x0B then some (ownTraceUser (s.ctlOf r))
  else if inBlock i 0x3A10 2 then
    (match sub with
     | 0x01 => some (ownHaltReq (ctlAt (i - 0x3A10)))
     | 0x02 => some (ownResume (ctlAt (i - 0x3A10)))
     | 0x03 => some (ownStep (ctlAt (i - 0x3A10)))
     | 0x06 => some (ownDpc (ctlAt (i - 0x3A10)))
     | _ => none)
  else if i = 0x3A20 then
    (match sub with
     | 0x01 => some ownEngHalt
     | 0x02 => some (ownEngGo false)
     | 0x03 => some (ownEngGo true)
     | _ => none)
  else if inBlock i 0x3A30 16 ∧ sub = 0x01 then some (ownEvsel (i - 0x3A30))
  else if inBlock i 0x3A30 16 ∧ sub = 0x03 then some (ownCounterClear (i - 0x3A30))
  else if i = 0x3A40 ∧ sub = 0x01 then some ownSnap
  else none

/-- Objects of queue q (*Table 8.7*). -/
def ownQueue (q sub : Nat) : Option Owner :=
  match sub with
  | 0x02 => some (ownEnable q)
  | 0x06 => some (ownProdDoorbell q)
  | 0x07 => some (ownConsDoorbell q)
  | 0x08 => some (ownWmHigh q)
  | 0x09 => some (ownWmLow q)
  | 0x12 => some (ownDeadlineArm q)
  | 0x13 => some (ownDeadlineCancel q)
  | 0x17 => some (ownQueueFlush q)
  | _ => none

/-- The owner that the chapters name for an object, where they name one beyond its access code. -/
def State.namedOwner (s : State) (r : Requester) (i sub : Nat) : Option Owner :=
  if i < 0x1400 then ownCommon s r i sub
  else if i < 0x1A00 then ownPlatform i sub
  else if i < 0x2000 then ownServices i sub
  else if i < 0x3600 then ownPattern i sub
  else if i < 0x3A00 then ownLinks i sub
  else if i < 0x4000 then ownDebug s r i sub
  else ownQueue (i - 0x4000) sub

/-- The owner of a scalar object: the one its chapter names; a W1C object clears its flags, an RW object holds its value (R10). -/
def State.ownerOf (s : State) (r : Requester) (o : Nat) : Owner :=
  match s.namedOwner r (o / 256) (o % 256) with
  | some f => f
  | none =>
    match ((cardOf o).map Card.acc : Option Access) with
    | some .w1c => fun v s => (.okay, s.clearFlags o v)
    | some .rw => store o
    | _ => refuse

/-! ### Owners of DOMAIN objects -/

/-- The owner of a DOMAIN object, and its longest image. -/
def imgOwnerOf (o : Nat) : Option (ImgOwner × Nat) :=
  let i := o / 256
  let sub := o % 256
  if inBlock i 0x1100 2 ∧ sub = 0x08 then some (ownIpv6Addr (i - 0x1100), 16)
  else if i = 0x1120 ∧ 1 ≤ sub ∧ sub ≤ 5 then some (ownKey (sub - 1), 64)
  else if inBlock i 0x1220 2 ∧ sub = 1 then some (ownFirmware (ctlAt (i - 0x1220)), 4194304)
  else if o = O.CLK_CLK_ENABLE then some (ownClkEnable, 52)
  else if inBlock i 0x1501 4 ∧ sub = 1 then some (ownShedProgram (i - 0x1501), 128)
  else if inBlock i 0x1810 24 ∧ sub = 1 then some (ownStream (i - 0x1810), 2097152)
  else if o = O.MEM_REGIONS then some (ownRegions, 512)
  else if o = O.MEM_WINDOW then some (ownWindow, 65536)
  else if o = O.MEM_WALK then some (ownWalkImage, 24)
  else if inBlock i 0x1C20 4 ∧ sub = 1 then some (ownStreams (i - 0x1C20), 16384)
  else if o = O.PATROL_SCRUB_PROGRAM then some (ownScrubProgram, 512)
  else if inBlock i 0x1C40 64 ∧ sub = 2 then some (ownKidKey (i - 0x1C40), 32)
  else if o = O.NET_STANDING then some (ownStanding, 16400)
  else if inBlock i 0x1E10 98 ∧ sub = 7 then some (ownBinding (i - 0x1E10), 32)
  else if inBlock i 0x2000 144 ∧ sub = 0x10 then some (ownTimingSets (i - 0x2000), 10240)
  else if inBlock i 0x2000 144 ∧ sub = 0x11 then some (ownQuadSchedule ((i - 0x2000) / 4), 40976)
  else if inBlock i 0x2100 4 ∧ sub = 1 then some (ownMap (i - 0x2100), 576)
  else if inBlock i 0x2400 512 ∧ sub = 0x10 then some (ownProgram (i - 0x2400), 49472)
  else if inBlock i 0x2400 512 ∧ sub = 0x2C then some (ownDspState (i - 0x2400), 256)
  else if inBlock i 0x2600 16 ∧ sub = 3 then some (ownFeedSched (i - 0x2600), 64)
  else if inBlock i 0x3000 4 ∧ sub = 1 then some (ownChanCfg (i - 0x3000), 72)
  else if inBlock i 0x3004 4 ∧ sub = 2 then some (ownContexts (i - 0x3004), 32768)
  else if o = O.SITES then some (ownSites, 4096)
  else if o = O.HALT_TABLE then some (ownHaltTable, 2512)
  else if inBlock i 0x3410 8 ∧ sub = 1 then some (ownSiteMask (i - 0x3410), 128)
  else if inBlock i 0x3600 144 ∧ sub = 0x1A then some (ownEyeTable (i - 0x3600), 16384)
  else if inBlock i 0x36A0 4 ∧ sub = 0x0C then some (ownLinkKey (i - 0x36A0) 0, 32)
  else if inBlock i 0x36A0 4 ∧ sub = 0x0D then some (ownLinkKey (i - 0x36A0) 1, 32)
  else if inBlock i 0x36A0 4 ∧ sub = 0x11 then some (ownVcCfg (i - 0x36A0), 64)
  else if o = O.DBG_RESPONSE then some (ownResponse, 32)
  else if o = O.TRACE_TRACE_ENGINES then some (ownSelect o 64, 64)
  else if o = O.TRACE_TRACE_CHANNELS then some (ownSelect o 18, 18)
  else if inBlock i 0x3A10 2 ∧ sub = 7 then some (ownGpr (ctlAt (i - 0x3A10)), 256)
  else if inBlock i 0x3A10 2 ∧ sub = 8 then some (ownComp (ctlAt (i - 0x3A10)), 128)
  else if o = O.ENGDBG_ENG_COMP then some (ownEngComp, 16384)
  else if inBlock i 0x4000 0x8000 ∧ sub = 1 then some (ownDesc (i - 0x4000), 16)
  else none

end Sys2Proof.Machine
end

