-- ==== Sys2Proof/Machine/Dictionary.lean ====
section
/-! DEFINITION. The dictionary as requesters see it: what a read returns, the Kisko operations on objects (R39, R54), the segment
interface (R42 to R44, R460), and the alias windows that firmware and debug ports load and store (R40). -/

namespace Sys2Proof.Machine

/-! ### What a read returns -/

/-- State that is worked out when it is looked at catches up before an object of index i is read. -/
def State.settle (s : State) (i : Nat) : State :=
  if inBlock i 0x3400 0x100 then s.haltPump
  else if inBlock i 0x2400 512 then s.dspPump (i - 0x2400) s.wc
  else if i = 0x3A01 then s.traceDrain
  else s

/-- An entry of the ledger directory (*Table 2.5*). -/
def State.ledgerEntry (s : State) (k : Nat) : Nat :=
  if k ≤ 1 then 0xFF000000
  else s.reg (O.LED_KIND (k - 2)) * 2 ^ 24 + s.reg (O.LED_NTERMS (k - 2)) * 2 ^ 16 + s.reg (O.LED_MISMATCH (k - 2))

/-- The frequency in kHz of global clock g while it runs (R400). -/
def State.gclkFreq (s : State) (g : Nat) : Nat := if s.domainRunning (340 + g) then s.srcKhz (s.reg (O.GCLK_SRC g)) else 0

/-- A scalar object whose value is worked out, where it is one. -/
def State.derived (s : State) (i sub : Nat) : Option Nat :=
  if i = 0x1040 then (if sub = 0 then none else some (s.ledgerEntry sub))
  else if i = 0x1000 ∧ sub = 0x09 then
    some (b2n (s.image O.KEYS_KEY_OBSERVER != [] && s.image O.KEYS_KEY_OPERATOR != [] && s.image O.KEYS_KEY_ENGINEER != []))
  else if i = 0x1001 ∧ sub = 0x02 then some ((s.now - s.resetAt) / Config.tickUnits)
  else if i = 0x1110 ∧ sub = 0x04 then some (s.reg (ledTerm 0x1041 3))
  else if i = 0x1110 ∧ sub = 0x05 then some s.openStreams.length
  else if inBlock i 0x1140 64 ∧ sub = 0x01 then
    let k := i - 0x1140
    some (if s.reg (O.SES_STATE k) = 2 ∧ s.reg O.LATCH_HOLDER ≠ s.reg (O.SES_CONTROLLER k) + 1 then 3 else s.reg (O.SES_STATE k))
  else if inBlock i 0x1210 2 ∧ sub = 0x05 then some (s.wdRemaining (ctlAt (i - 0x1210)))
  else if inBlock i 0x1210 2 ∧ sub = 0x06 then some (b2n (s.wdFrozen (ctlAt (i - 0x1210))))
  else if inBlock i 0x1410 16 ∧ sub = 0x02 then some (s.gclkFreq (i - 0x1410))
  else if inBlock i 0x1420 24 ∧ sub = 0x03 then
    let p := i - 0x1420
    some (if s.domainRunning (356 + p) then s.regionalKhz p else 0)
  else if inBlock i 0x3810 8 ∧ sub = 0x01 ∧ !(s.reg O.CFG_RELEASED).testBit (8 + (i - 0x3810) / 2) then some 0
  else if i = 0x1801 ∧ sub = 0x06 then some (s.auditRef (s.reg O.AUD_AUDIT_REGION))
  else if i = 0x1A01 ∧ sub = 0x01 then some s.ttNow
  else if o_residual i sub then some s.residualRead
  else if inBlock i 0x1A20 16 ∧ i * 256 + sub = O.TRIG_OUT_STATE (i - 0x1A20) then some (s.outState (i - 0x1A20))
  else if inBlock i 0x3408 8 ∧ sub = 0x02 then some (s.haltValue (i - 0x3408))
  else if inBlock i 0x3408 8 ∧ sub = 0x04 then some (s.haltSticky (i - 0x3408))
  else if inBlock i 0x3600 144 ∧ i * 256 + sub = O.SER_ALIGNED (i - 0x3600) then some (s.aligned (i - 0x3600))
  else if inBlock i 0x4000 0x8000 then
    let c := s.queue (i - 0x4000)
    match sub with
    | 0x03 => some c.fill
    | 0x04 => some (Queue.ptr c.prod c.prodPh)
    | 0x05 => some (Queue.ptr c.cons c.consPh)
    | _ => none
  else none
where
  /-- RESIDUAL of the active timeline -/
  o_residual (i sub : Nat) : Bool := i * 256 + sub == O.ACT_RESIDUAL

/-- A scalar object as it reads: a WO object reads 0 (R10). -/
def State.regView (s : State) (o : Nat) : Nat :=
  if ((cardOf o).map Card.acc : Option Access) = some Access.wo then 0 else (s.derived (o / 256) (o % 256)).getD (s.reg o)

/-- The string constants (*Table 2.8*). -/
def stringOf (o : Nat) : List Byte :=
  if o = O.ID_DEVICE_NAME then ascii "EVS-6144"
  else if o = O.ID_VENDOR then ascii "Ditowell"
  else if o = O.ID_FAMILY then ascii "Evsera"
  else []

/-- A bitmap of one bit per clock domain. -/
def domainMap (f : Nat → Bool) : List Byte := leBytes 52 ((List.range 415).foldl (fun v d => if f d then v + 2 ^ d else v) 0)

/-- The image of a DOMAIN object as it reads; a WO object reads empty (R10). -/
def State.imageView (s : State) (o : Nat) : List Byte :=
  let i := o / 256
  if ((cardOf o).map Card.acc : Option Access) = some Access.wo then []
  else if o = O.CLK_CLK_READY then domainMap s.domainReady
  else if o = O.CLK_CLK_RUNNING then domainMap s.domainRunning
  else if inBlock i 0x1C20 4 ∧ o = O.GRIND_PORT_STATUS (i - 0x1C20) then s.portStatus (i - 0x1C20)
  else if inBlock i 0x2000 144 ∧ o = O.CH_QUAD_SCHEDULE (i - 0x2000) then s.quadImage ((i - 0x2000) / 4)
  else if inBlock i 0x2400 512 ∧ o = O.ENG_DSP_STATE (i - 0x2400) then s.dspImage (i - 0x2400)
  else if inBlock i 0x3004 4 ∧ o = O.RU_CTX_STATUS (i - 0x3004) then s.ctxStatus (i - 0x3004)
  else if o = O.SITE_FAILS then s.siteFailsImage
  else if o = O.ALLOC_VIEWS then s.haltViews
  else if inBlock i 0x3408 8 ∧ o = O.LINE_HOLDERS (i - 0x3408) then s.haltHolders (i - 0x3408)
  else if inBlock i 0x3410 8 then s.siteMaskImage (i - 0x3410)
  else if inBlock i 0x4000 0x8000 then (s.queue (i - 0x4000)).image
  else s.image o

/-- The length of a DOMAIN object's image. -/
def State.imageLen (s : State) (o : Nat) : Nat :=
  if o = O.TRACE_TRACE_DATA then 1048576 else if o = O.MEM_WINDOW then 65536 else (s.imageView o).length

/-- Bytes of the trace buffer: POISONED where a word of it is bad (*Table 14.1*). -/
def State.traceRead (s : State) (off n : Nat) : Status × List Byte × State :=
  let r0 := off / 16
  let k := (off % 16 + n + 15) / 16
  let w := (off % 8 + n + 7) / 8
  let s1 := s.sramRead 7 0 (off / 8) w
  let d := slice (off % 16) n ((List.range k).flatMap fun j => leBytes 16 (Tbl.get 0 s.traceBuf (r0 + j)))
  if (List.range w).any (fun j => s.badWord 7 0 (off / 8 + j)) then (.poisoned, d, s1.sramBad 7) else (.okay, d, s1)

/-- Bytes of memory at a system address, read as lines; BUSY where a line waits. -/
def State.windowRead (s : State) (addr n : Nat) : Status × List Byte × State :=
  match s.memReadLines (addr / 64 * 64) ((addr % 64 + n + 63) / 64) with
  | (some (st, d), s1) => (st, slice (addr % 64) n d, s1)
  | (none, _) => (.busy, [], s)

/-- Bytes of a DOMAIN image from an offset, as many as exist; an ordinary read of CHALLENGE from its start draws its nonce, a peek does
not (R419, R426). -/
def State.imageRead (s : State) (r : Requester) (o off n : Nat) : Status × List Byte × State :=
  if o = O.DBG_CHALLENGE ∧ off = 0 ∧ r ≠ .debugPort then
    let s1 := s.drawChallenge
    (.okay, slice 0 n (s1.image o), s1)
  else if o = O.TRACE_TRACE_DATA then
    if s.isSet O.TRACE_TRACE_RUN ∨ s.traceFifo ≠ [] then (.busy, [], s)
    else
      let (st, d, s1) := s.traceRead off (min n (1048576 - off))
      (st, d, if r = .debugPort then s else s1)
  else if o = O.MEM_WINDOW then
    if 65536 ≤ off then (.okay, [], s) else s.windowRead (bits (s.reg O.MEM_WINDOW_ADDR) 47 0 + off) (min n (65536 - off))
  else (.okay, slice off n (s.imageView o), s)

/-- The image of a scalar object. A pad's LEVEL is a free value; OE under the fabric's control is what its
port found at its last edge. -/
def State.scalarRead (s : State) (o : Nat) : List Byte × State :=
  match cardOf o with
  | none => ([], s)
  | some c =>
    let g := o / 256 - 0x3820
    let pad := inBlock (o / 256) 0x3820 48
    let dir := bits (s.reg (O.GPIO_CONFIG g)) 10 9
    let free := (s.reg O.CFG_RELEASED).testBit (8 + g / 12)
    if c.ty = .string then (stringOf o, s)
    else if pad && o == O.GPIO_LEVEL g then
      let (b, s1) := s.drawBool
      (leBytes 1 (b2n b), s1)
    else if pad && o == O.GPIO_OE g then
      (leBytes 1 (b2n (free && (dir == 1 || (dir == 2 && (Tbl.get ({} : GpioPad) s.fabricNow.gpios g).oe)))), s)
    else if inBlock (o / 256) 0x3A30 16 ∧ o = O.EVC_COUNT (o / 256 - 0x3A30) then (leBytes 8 (s.countMc.reg o), s.countMc)
    else (leBytes c.ty.bytes (s.regView o), s)

/-- A read by a debug port is a peek (R426): its reply stands, and nothing else has changed; a status other than OKAY is counted as such a
completion is; `seg` says that it is a segment command. -/
def State.peeked (s : State) (r : Requester) (o : Nat) (seg : Bool) (s1 : State) : State :=
  if r ≠ .debugPort then s1
  else { (if s1.reply.status = .okay then s else s.tally seg (stopOf (o / 256)) s1.reply.status) with reply := s1.reply, draws := s1.draws }

/-! ### Kisko operations on objects (R39, R54) -/

/-- The type code of *Table 2.2*. -/
def Ty.code : Ty → Nat
  | .bool => 0x01
  | .u8 => 0x02
  | .u16 => 0x03
  | .u32 => 0x04
  | .u64 => 0x05
  | .i32 => 0x06
  | .i64 => 0x07
  | .tt => 0x08
  | .stamp => 0x09
  | .string => 0x0A
  | .domain => 0x0B

/-- Object I.S. -/
def objOf (idx sub : Nat) : Nat := idx * 256 + sub % 256

/-- A request that fails before it reaches an owner's rules: the statuses of R459 steps 1 to 4 first, then `st`. -/
def State.failObj (s : State) (r : Requester) (o : Nat) (write : Bool) (st : Status) : State :=
  match s.checkAccess r o write with
  | (.okay, _) => s.complete r o write st []
  | (st1, charge) => (if charge then s.bump O.LATCH_CHARGE_DENIED 1 else s).complete r o write st1 []

/-- The same for a SEG_READ, which reads but counts as every segment command does. -/
def State.failSeg (s : State) (r : Requester) (o : Nat) (st : Status) : State :=
  match s.checkAccess r o false with
  | (.okay, _) => s.complete r o true st []
  | (st1, _) => s.complete r o true st1 []

/-- READ: the object's image. -/
def State.readObj (s : State) (r : Requester) (o : Nat) : State :=
  match s.checkAccess r o false with
  | (.okay, _) =>
    let s1 := s.settle (o / 256)
    if ((cardOf o).map Card.ty : Option Ty) = some Ty.domain then
      match s1.imageRead r o 0 (s1.imageLen o) with
      | (st, d, s2) => s2.complete r o false st (if st = .okay then d else [])
    else
      let (d, s2) := s1.scalarRead o
      s2.complete r o false .okay d
  | (st, _) => s.complete r o false st []

/-- WRITE of an image under a type code. -/
def State.writeImage (s : State) (r : Requester) (o ty : Nat) (bytes : List Byte) : State :=
  match cardOf o with
  | some c =>
    if c.ty = .domain ∨ ty ≠ c.ty.code ∨ bytes.length ≠ c.ty.bytes then s.failObj r o true .refused
    else s.writeObj r o (leNat bytes) (s.ownerOf r o)
  | none => s.failObj r o true .decode

/-- The value that a write of some bits leaves: the others keep what the object holds; those of a flag or a WO object are not written. -/
def State.merged (s : State) (o val mask : Nat) : Nat :=
  let old := match ((cardOf o).map Card.acc : Option Access) with
    | some Access.rw => s.regView o
    | some Access.rwl => s.regView o
    | _ => 0
  (val &&& mask) ||| (old &&& (mask ^^^ (2 ^ regBits o - 1)))

/-- MASK_WRITE: only the bits set in the mask are written. -/
def State.maskWrite (s : State) (r : Requester) (o ty : Nat) (val mask : List Byte) : State :=
  match cardOf o with
  | some c =>
    if c.ty = .domain ∨ ty ≠ c.ty.code ∨ val.length ≠ c.ty.bytes ∨ mask.length ≠ c.ty.bytes then s.failObj r o true .refused
    else
      let s1 := s.settle (o / 256)
      s1.writeObj r o (s1.merged o (leNat val) (leNat mask)) (s1.ownerOf r o)
  | none => s.failObj r o true .decode

/-! ### Segments (R42 to R44, R460) -/

/-- A segment command on an object, once its access is granted: REFUSED unless the object is a DOMAIN, and for a command that would
change it, not RO. REFUSED_WRITES counts every segment command, a SEG_READ too (*Table 2.9*). -/
def State.segForm (s : State) (r : Requester) (o : Nat) (write : Bool) (f : State → Status × List Byte × State) : State :=
  match s.checkAccess r o write with
  | (.okay, _) =>
    match cardOf o with
    | some c =>
      if c.ty ≠ .domain ∨ (write ∧ c.acc = .ro) then s.complete r o true .refused []
      else
        match f s with
        | (st, d, s1) => s1.complete r o true st d
    | none => s.complete r o true .decode []
  | (st, charge) => (if charge then s.bump O.LATCH_CHARGE_DENIED 1 else s).complete r o true st []

/-- What an open does beside opening (R163, R323): a program takes the cluster's load buffer, a partial stream a shadow plane. -/
def State.openHook (s : State) (o : Nat) : Status × State :=
  let i := o / 256
  if inBlock i 0x1810 24 then s.streamOpen (i - 0x1810)
  else if inBlock i 0x2400 512 ∧ o = O.ENG_PROGRAM (i - 0x2400) then
    let e := i - 0x2400
    if s.isSet (O.CLU_LOAD_BUSY (e / 32)) ∨ s.marchEngine e then (.busy, s) else (.okay, s.holdBuffer (e / 32) (some e))
  else (.okay, s)

/-- SEG_OPEN. -/
def State.segOpen (s : State) (r : Requester) (o total : Nat) : State :=
  s.segForm r o true fun s =>
    if (imgOwnerOf o).all (fun p => decide (p.2 < total)) then (.refused, [], s)
    else if (s.xfer o).isSome then (.busy, [], s)
    else
      match s.openHook o with
      | (.okay, s1) => (.okay, [], s1.setXfer o (some ⟨s1.openerOf r, total, [], s1.now⟩))
      | (st, s1) => (st, [], s1)

/-- SEG_WRITE, or a DATA store (`cut`), at an offset. -/
def State.segWrite (s : State) (r : Requester) (o off : Nat) (bytes : List Byte) (cut : Bool) : State :=
  s.segForm r o true fun s =>
    match s.xfer o with
    | none => (.refused, [], s)
    | some x =>
      if x.opener ≠ s.openerOf r then (.busy, [], s)
      else if off ≠ x.data.length ∨ (!cut ∧ x.total < off + bytes.length) then (.refused, [], s)
      else
        let s1 := s.setXfer o (some { x with data := x.data ++ bytes.take (x.total - off), last := s.now })
        let i := o / 256
        if inBlock i 0x1810 24 then
          match s1.streamPump (i - 0x1810) with
          | (st, s2) => (st, [], s2)
        else (.okay, [], s1)

/-- SEG_READ: the bytes of the committed image that exist from an offset onwards. -/
def State.segRead (s : State) (r : Requester) (o off n : Nat) : State :=
  s.peeked r o true <| s.segForm r o false fun s =>
    match (s.settle (o / 256)).imageRead r o off n with
    | (st, d, s1) => (st, if st = .okay then d else [], s1)

/-- SEG_COMMIT. -/
def State.segCommit (s : State) (r : Requester) (o crc tt : Nat) : State :=
  let own : ImgOwner := match imgOwnerOf o with
    | some p => p.1
    | none => fun _ _ s => (.refused, s)
  let s1 := s.commitObj r o crc tt own
  let i := o / 256
  if inBlock i 0x2400 512 then s1.settleBuffer (i - 0x2400) else if inBlock i 0x1810 24 then s1.settleShadow (i - 0x1810) else s1

/-- SEG_ABORT. -/
def State.segAbort (s : State) (r : Requester) (o : Nat) : State :=
  s.segForm r o true fun s =>
    match s.xfer o with
    | none => (.refused, [], s)
    | some x => if x.opener ≠ s.openerOf r then (.busy, [], s) else (.okay, [], s.abortXfer o)

/-! ### Alias windows (R40, *Table 2.3*) -/

def State.aliasWin (s : State) (o : Nat) : AliasWin := Tbl.get {} s.aliasWins o
def State.setAliasWin (s : State) (o : Nat) (w : AliasWin) : State := { s with aliasWins := Tbl.set {} s.aliasWins o w }

/-- The 64 bytes of the window of a DOMAIN object as firmware wrote them: SEG_STATUS, TOTAL_LEN, OFFSET, CRC and COMMIT_TT. -/
def AliasWin.bytes (w : AliasWin) (total : Nat) : List Byte :=
  leBytes 1 0 ++ leBytes 1 w.status ++ fill 2 0 ++ leBytes 4 total ++ leBytes 4 w.offset ++ fill 12 0 ++ leBytes 4 w.crc ++ fill 4 0 ++
    leBytes 10 w.commitTT ++ fill 22 0

/-- The 64 bytes of a window after a store of bytes at an offset, and the registers that take their values from them. -/
def AliasWin.stored (w : AliasWin) (off : Nat) (bytes : List Byte) : List Byte := splice (w.bytes w.totalLen) off bytes
def AliasWin.take (w : AliasWin) (img : List Byte) : AliasWin :=
  { w with totalLen := fieldLE img 4 4, offset := fieldLE img 8 4, crc := fieldLE img 0x18 4, commitTT := fieldLE img 0x20 10 }

/-- A load of n bytes at an offset of an object's window. -/
def State.aliasLoad (s : State) (r : Requester) (o off n : Nat) : State :=
  s.peeked r o false <|
  match s.checkAccess r o false with
  | (.okay, _) =>
    let s1 := s.settle (o / 256)
    if ((cardOf o).map Card.ty : Option Ty) = some Ty.domain then
      let w := s1.aliasWin o
      let wo : Bool := ((cardOf o).map Card.acc : Option Access) == some Access.wo
      let total := match s1.xfer o with
        | some x => x.total
        | none => if wo then 0 else s1.imageLen o
      if off < 0x18 ∧ 0x10 < off + n ∧ !wo then
        match s1.imageRead r o w.offset 8 with
        | (st, d, s2) => s2.complete r o false st (slice off n (splice (w.bytes total) 0x10 (d ++ fill (8 - d.length) 0)))
      else s1.complete r o false .okay (slice off n (w.bytes total))
    else
      let (d, s2) := s1.scalarRead o
      s2.complete r o false .okay (slice off n (d ++ fill 64 0))
  | (st, _) => s.complete r o false st []

/-- A store to the window of a DOMAIN object: its registers, then DATA, then the command. Bytes stored to SEG_STATUS, which is RO, and to
the bytes that *Table 2.3* does not name are ignored, and the store completes (DESIGN CHOICE, notes/assumptions). -/
def State.windowStore (s : State) (r : Requester) (o off : Nat) (bytes : List Byte) : State :=
  let img := (s.aliasWin o).stored off bytes
  let s1 := s.setAliasWin o ((s.aliasWin o).take img)
  let data : Bool := decide (off < 0x18) && decide (0x10 < off + bytes.length)
  let whole : Bool := decide (off ≤ 0x10) && decide (0x18 ≤ off + bytes.length)
  let s2 : State :=
    if whole then
      let at_ := (s1.aliasWin o).offset
      let s2 := s1.segWrite r o at_ (slice 0x10 8 img) true
      if s2.reply.status = .okay then s2.setAliasWin o { s2.aliasWin o with offset := (at_ + 8) % 2 ^ 32 } else s2
    else if data then s1.failObj r o true .refused
    else if off ≠ 0 then s1.complete r o true .okay []
    else s1
  if off ≠ 0 ∨ bytes = [] then s2
  else
    let w2 := s2.aliasWin o
    let s3 := match byteAt img 0 with
      | 1 => s2.segOpen r o w2.totalLen
      | 2 => s2.segCommit r o w2.crc w2.commitTT
      | 3 => s2.segAbort r o
      | _ => s2.failObj r o true .refused
    s3.setAliasWin o { s3.aliasWin o with status := s3.reply.status.code }

/-- A store of bytes at an offset of an object's window. A TT or STAMP takes its new value when a store to offset 8 or above completes;
until then its bytes are held. -/
def State.aliasStore (s : State) (r : Requester) (o off : Nat) (bytes : List Byte) : State :=
  match s.checkAccess r o true with
  | (.okay, _) =>
    match cardOf o with
    | none => s.complete r o true .decode []
    | some c =>
      if c.ty = .domain then s.windowStore r o off bytes
      else if c.acc = .ro then s.complete r o true .refused []
      else
        let n := c.ty.bytes
        let m := min bytes.length (n - off)
        let mask := (2 ^ (8 * m) - 1) * 2 ^ (8 * off)
        let val := leNat (bytes.take m) * 2 ^ (8 * off)
        let h := Tbl.get ({} : Held) s.held o
        if n ≤ off then s.complete r o true .okay []
        else if 8 < n ∧ off + bytes.length ≤ 8 then
          { s with held := Tbl.set {} s.held o ⟨h.mask ||| mask, (h.val &&& ((h.mask ||| mask) ^^^ mask)) ||| val⟩ }.complete r o true .okay []
        else
          let s1 : State := (if 8 < n then { s with held := Tbl.set {} s.held o {} } else s).settle (o / 256)
          let all := (h.val &&& ((h.mask ||| mask) ^^^ mask)) ||| val
          s1.writeObj r o (s1.merged o all (h.mask ||| mask)) (s1.ownerOf r o)
  | (st, charge) => (if charge then s.bump O.LATCH_CHARGE_DENIED 1 else s).complete r o true st []

/-! ### The commands -/

/-- REGISTER_WRITE: a WRITE of an object's image by a session, or a store into its alias window. -/
def execRegisterWrite (t : Nat) (r : Requester) (idx sub off : Nat) (bytes : List Byte) (s : State) : Host.Outcome State Fault Refusal :=
  let s1 := s.tickTo t
  let o := objOf idx sub
  .next
    (match r with
     | .session _ => if off = 0 then s1.writeImage r o (((cardOf o).map fun c => c.ty.code).getD 0) bytes else s1.failObj r o true .refused
     | _ => s1.aliasStore r o off bytes)

/-- READ. -/
def execRead (t : Nat) (slot : Fin 64) (idx sub ty : Nat) (s : State) : Host.Outcome State Fault Refusal :=
  .next ((s.tickTo t).readObj (.session slot) (objOf idx sub))

/-- WRITE. -/
def execWrite (t : Nat) (slot : Fin 64) (idx sub ty : Nat) (bytes : List Byte) (s : State) : Host.Outcome State Fault Refusal :=
  .next ((s.tickTo t).writeImage (.session slot) (objOf idx sub) ty bytes)

/-- MASK_WRITE. -/
def execMaskWrite (t : Nat) (slot : Fin 64) (idx sub ty : Nat) (val mask : List Byte) (s : State) : Host.Outcome State Fault Refusal :=
  .next ((s.tickTo t).maskWrite (.session slot) (objOf idx sub) ty val mask)

/-- SEG_OPEN. -/
def execSegOpen (t : Nat) (r : Requester) (idx sub total : Nat) (s : State) : Host.Outcome State Fault Refusal :=
  .next ((s.tickTo t).segOpen r (objOf idx sub) total)

/-- SEG_WRITE. -/
def execSegWrite (t : Nat) (r : Requester) (idx sub off : Nat) (bytes : List Byte) (s : State) : Host.Outcome State Fault Refusal :=
  .next ((s.tickTo t).segWrite r (objOf idx sub) off bytes false)

/-- SEG_READ. -/
def execSegRead (t : Nat) (r : Requester) (idx sub off count : Nat) (s : State) : Host.Outcome State Fault Refusal :=
  .next ((s.tickTo t).segRead r (objOf idx sub) off count)

/-- SEG_COMMIT. -/
def execSegCommit (t : Nat) (r : Requester) (idx sub crc tt : Nat) (s : State) : Host.Outcome State Fault Refusal :=
  .next ((s.tickTo t).segCommit r (objOf idx sub) crc tt)

/-- SEG_ABORT. -/
def execSegAbort (t : Nat) (r : Requester) (idx sub : Nat) (s : State) : Host.Outcome State Fault Refusal :=
  .next ((s.tickTo t).segAbort r (objOf idx sub))

/-- DATA_STORE: an alias store of 8 bytes to DATA. -/
def execDataStore (t : Nat) (c : Ctl) (idx sub : Nat) (v : BitVec 64) (s : State) : Host.Outcome State Fault Refusal :=
  .next ((s.tickTo t).aliasStore (.firmware c) (objOf idx sub) 0x10 (leBytes 8 v.toNat))

/-- SEG_TRANSFER_TIMEOUT: 10 s have passed without a segment or commit (R44). -/
def execSegTransferTimeout (t idx sub : Nat) (s : State) : Host.Outcome State Fault Refusal :=
  let s1 := s.tickTo t
  let o := objOf idx sub
  .next
    (match s1.xfer o with
     | some x => if x.last + 10000 * Config.msUnits ≤ s1.now then s1.abortXfer o else s1
     | none => s1)

/-- The objects that arm and cancel an action (*Table 3.5*). -/
def armObj : Arming → Nat
  | .trigger u => O.TRIG_ARM u.val
  | .start e => O.ENG_START_ARM e.val
  | .swap p => O.PAD_SWAP_ARM p.val
  | .sleep => O.PWR_SLEEP_ARM
  | .deadline q => O.Q_DEADLINE_ARM q.val
  | .ptpSwitch => O.ACT_SWITCH_ARM
  | .bank b => O.BANK_SWITCH_ARM b.val
def cancelObj : Arming → Nat
  | .trigger u => O.TRIG_CANCEL u.val
  | .start e => O.ENG_START_CANCEL e.val
  | .swap p => O.PAD_SWAP_CANCEL p.val
  | .sleep => O.PWR_SLEEP_CANCEL
  | .deadline q => O.Q_DEADLINE_CANCEL q.val
  | .ptpSwitch => O.ACT_SWITCH_CANCEL
  | .bank b => O.BANK_SWITCH_CANCEL b.val

/-- SCHEDULED_ARM. -/
def execScheduledArm (t : Nat) (r : Requester) (a : Arming) (v : Bool) (s : State) : Host.Outcome State Fault Refusal :=
  let s1 := s.tickTo t
  .next (s1.writeObj r (armObj a) (b2n v) (s1.ownerOf r (armObj a)))

/-- SCHEDULED_CANCEL. -/
def execScheduledCancel (t : Nat) (r : Requester) (a : Arming) (v : Bool) (s : State) : Host.Outcome State Fault Refusal :=
  let s1 := s.tickTo t
  .next (s1.writeObj r (cancelObj a) (b2n v) (s1.ownerOf r (cancelObj a)))

/-- PADDOCK_STREAM_OPEN (R323). -/
def execPaddockStreamOpen (t : Nat) (r : Requester) (p : Fin 24) (total : Nat) (s : State) : Host.Outcome State Fault Refusal :=
  .next ((s.tickTo t).segOpen r (O.PAD_STREAM p.val) total)

/-- CHALLENGE: an ordinary read of it (R419). -/
def execChallenge (t : Nat) (r : Requester) (s : State) : Host.Outcome State Fault Refusal :=
  .next ((s.tickTo t).segRead r O.DBG_CHALLENGE 0 16)

end Sys2Proof.Machine
end

