-- ==== Sys2Proof/Machine/Kisko.lean ====
section
/-! DEFINITION. Kisko on the wire (R51 to R61): datagrams and their checks, session setup, requests with their records and the reply
cache, and the datagrams of streams. -/

namespace Sys2Proof.Machine

/-! ### Datagrams (*Table 2.10*) -/

/-- Header fields of a datagram, and its body. -/
def dgType (d : List Byte) : Nat := byteAt d 3
def dgSession (d : List Byte) : Nat := fieldLE d 4 4
def dgSeq (d : List Byte) : Nat := fieldLE d 8 4
def dgLen (d : List Byte) : Nat := fieldLE d 12 2
def dgBody (d : List Byte) : List Byte := slice 16 (dgLen d) d

/-- Whether a UDP datagram comes to Kisko at a port: the port is live, it names KISKO_PORT, and its controller runs. -/
def State.kiskoUp (s : State) (c : Ctl) (p : Peer) : Bool :=
  s.mgtLive c.num && p.dport == s.reg O.KISKO_KISKO_PORT && decide (s.reg (O.RUN_RUN_STATE c.num) < 2)

/-- A datagram that comes in a frame of its own: the frame is counted (R282), and dropped where Kisko does not run (R280, R431). -/
def State.kiskoIn (s : State) (c : Ctl) (p : Peer) (f : State → State) : State :=
  if !s.mgtLive c.num then s
  else (if s.kiskoUp c p then f s else s.bump (O.MGT_RX_DROPPED c.num) 1).bump (O.MGT_RX_FRAMES c.num) 1

/-- The FLAGS of a reply (R53, R66): IN_CHARGE when the controller that answers holds charge, and READ_ONLY when the session that is
answered is read-only. -/
def State.replyFlags (s : State) (c : Ctl) (session : Nat) : Nat :=
  let i := session % 64
  let open_ : Bool := s.reg (O.SES_STATE i) == 2 && s.sessionId i == session
  (if s.holder = some c then 2 else 0) + (if open_ && s.reg O.LATCH_HOLDER != s.reg (O.SES_CONTROLLER i) + 1 then 4 else 0)

/-- An answer with COUNT 0 and one status byte, without a MAC (R53). -/
def State.errorReply (s : State) (c : Ctl) (p : Peer) (d : List Byte) (st : Status) : State :=
  { s.sendKisko c.num p (kiskoDatagram 2 (dgSession d) (dgSeq d) (s.replyFlags c (dgSession d)) 0 (leBytes 1 st.code) none) with
    reply := ⟨st, []⟩ }

/-- A completion that is counted as every completion with its status is (R50). -/
def State.refuseDatagram (s : State) (c : Ctl) (p : Peer) (d : List Byte) (st : Status) : State := (s.tally false 95 st).errorReply c p d st

/-- MAC_FAILS of the slot that a datagram names, where the slot is taken. -/
def State.macFail (s : State) (d : List Byte) : State :=
  let i := dgSession d % 64
  if s.reg (O.SES_STATE i) = 0 then s else s.bump (O.SES_MAC_FAILS i) 1

/-- What is wrong with a datagram of a session, in a slot of state `st`: its status, and whether MAC_FAILS counts it. -/
def State.dgFault (s : State) (c : Ctl) (dtype st : Nat) (d : List Byte) : Option (Status × Bool) :=
  let i := dgSession d % 64
  if fieldLE d 0 2 ≠ 0x4B53 then some (.denied, true)
  else if byteAt d 2 ≠ 0x01 then some (.refused, false)
  else if dgLen d > 1408 ∨ d.length ≠ 32 + dgLen d then some (.denied, true)
  else if dgType d ≠ dtype then some (.refused, false)
  else if s.reg (O.SES_STATE i) ≠ st ∨ dgSession d ≠ s.sessionId i then some (.denied, false)
  else if s.reg (O.SES_CONTROLLER i) ≠ c.num then some (.denied, false)
  else if d.drop (16 + dgLen d) ≠ (hmac (s.session i).key (d.take (16 + dgLen d))).take 16 then some (.denied, true)
  else none

/-- A datagram of a session comes to Kisko at a port: answered with what is wrong with it, or taken with its slot; what the device sends to
the session goes to where it came from. -/
def State.onDatagram (s : State) (c : Ctl) (p : Peer) (dtype st : Nat) (d : List Byte) (f : State → Fin 64 → State) : State :=
  match s.dgFault c dtype st d with
  | some (e, mac) => (if mac then s.macFail d else s).refuseDatagram c p d e
  | none =>
    let i := dgSession d % 64
    f (s.setSession i { s.session i with lastGood := s.now, peer := p }) ⟨i, Nat.mod_lt _ (by decide)⟩

/-! ### Session setup (R55, *Table 2.13*) -/

/-- The image of a role's key. -/
def State.roleKey (s : State) (role : Nat) : List Byte := s.image (O.KEYS_KEY_OBSERVER + (role - 1))

/-- A CHALLENGE. -/
def challenge (st : Status) (session seq : Nat) (nd : List Byte) : List Byte :=
  kiskoDatagram 6 session seq 0 0 (leBytes 1 st.code ++ fill 3 0 ++ leBytes 4 session ++ nd) none

/-- HELLO: a free slot is reserved and challenged. The slot is the lowest free one (DESIGN CHOICE, notes/assumptions). -/
def State.hello (s : State) (c : Ctl) (p : Peer) (d : List Byte) : State :=
  let body := dgBody d
  let role := byteAt body 0
  let (nd, s1) := s.drawBytes 16
  if role = 0 ∨ 3 < role then { s1.sendKisko c.num p (challenge .refused 0 (dgSeq d) nd) with reply := ⟨.refused, []⟩ }
  else
    match (List.range 64).find? fun i => s1.reg (O.SES_STATE i) == 0 with
    | none => { s1.sendKisko c.num p (challenge .busy 0 (dgSeq d) nd) with reply := ⟨.busy, []⟩ }
    | some i =>
      let s2 := (((s1.setReg (O.SES_STATE i) 1).setReg (O.SES_ROLE i) role).setReg (O.SES_CONTROLLER i) c.num).setReg (O.SES_PEER_PORT i) (p.port % 65536)
      let s3 := ((s2.setReg (O.SES_LAST_SEQ i) 0).setReg (O.SES_OPEN_TT i) 0).ledMove 0x1041 1 2 1
      let k := s3.roleKey role
      let nc := slice 4 16 body
      let id := s3.sessionId i
      let s4 := s3.setSession i { s3.session i with
        nc := nc, nd := nd, kRole := k, key := hmac k (ascii "KISKO-S1" ++ nc ++ nd ++ leBytes 4 id), challengeAt := s3.now, lastGood := s3.now,
        peer := p, cache := [] }
      { s4.sendKisko c.num p (challenge .okay id (dgSeq d) nd) with reply := ⟨.okay, []⟩ }

/-- HELLO, as it comes to Kisko. -/
def State.takeHello (s : State) (c : Ctl) (p : Peer) (d : List Byte) : State :=
  if fieldLE d 0 2 ≠ 0x4B53 then s.refuseDatagram c p d .denied
  else if byteAt d 2 ≠ 0x01 then s.refuseDatagram c p d .refused
  else if d.length ≠ 16 + dgLen d ∨ dgLen d ≠ 20 then s.refuseDatagram c p d .denied
  else if dgType d ≠ 5 then s.refuseDatagram c p d .refused
  else if dgSession d ≠ 0 then s.refuseDatagram c p d .denied
  else s.hello c p d

/-- HELLO, as it arrives. -/
def execHello (t : Nat) (port : Ctl) (peer : Peer) (d : List Byte) (s : State) : Host.Outcome State Fault Refusal :=
  .next ((s.tickTo t).kiskoIn port peer fun s => s.takeHello port peer d)

/-- An ACCEPT. -/
def State.accept (s : State) (c : Ctl) (p : Peer) (i : Nat) (st : Status) (seq : Nat) (proof : List Byte) : State :=
  { s.sendKisko c.num p (kiskoDatagram 8 (s.sessionId i) seq 0 0 (leBytes 1 st.code ++ fill 3 0 ++ proof) (some (s.session i).key)) with
    reply := ⟨st, []⟩ }

/-- A PROOF with a right MAC: in time and correct it opens the session. -/
def State.proof (s : State) (c : Ctl) (p : Peer) (d : List Byte) (i : Nat) : State :=
  let x := s.session i
  if dgSeq d = 1 ∧ s.now ≤ x.challengeAt + 1000 * Config.msUnits ∧ dgBody d = hmac x.kRole (ascii "KISKO-P1" ++ x.nc ++ x.nd) then
    let s1 := (((s.setReg (O.SES_STATE i) 2).setReg (O.SES_LAST_SEQ i) 1).setReg (O.SES_OPEN_TT i) s.ttTickNow).ledMove 0x1041 2 3 1
    s1.accept c p i .okay 1 (hmac x.kRole (ascii "KISKO-A1" ++ x.nd ++ x.nc))
  else
    let (b, s1) := s.drawBytes 32
    ((s1.tally false 95 .denied).accept c p i .denied (dgSeq d) b).closeSession i

/-- PROOF, as it comes to Kisko: one with a wrong MAC is wrong too, and frees the slot it names. -/
def State.takeProof (s : State) (c : Ctl) (p : Peer) (d : List Byte) : State :=
  let i := dgSession d % 64
  let bad := s.dgFault c 7 1 d == some (.denied, true) && dgSession d == s.sessionId i && s.reg (O.SES_STATE i) == 1 &&
    s.reg (O.SES_CONTROLLER i) == c.num
  let s1 := s.onDatagram c p 7 1 d fun s i => s.proof c p d i.val
  if bad then s1.closeSession i else s1

/-- PROOF, as it arrives. -/
def execProof (t : Nat) (port : Ctl) (peer : Peer) (d : List Byte) (s : State) : Host.Outcome State Fault Refusal :=
  .next ((s.tickTo t).kiskoIn port peer fun s => s.takeProof port peer d)

/-- CLOSE, as it comes to Kisko. -/
def State.takeClose (s : State) (c : Ctl) (p : Peer) (d : List Byte) : State := s.onDatagram c p 9 2 d fun s i => s.closeSession i.val

/-- CLOSE: by a datagram, or by a write of 1 to CLOSE of the slot (R58). -/
def execClose (t : Nat) (w : Closer) (s : State) : Host.Outcome State Fault Refusal :=
  let s1 := s.tickTo t
  .next
    (match w with
     | .datagram port peer d => s1.kiskoIn port peer fun s => s.takeClose port peer d
     | .write r slot v => s1.writeObj r (O.SES_CLOSE slot.val) (b2n v) (ownClose slot.val))

/-! ### Records (R54, *Table 2.12*) -/

/-- STREAM_OPEN on a queue: checked as a write of the queue's object. -/
def State.openRecord (s : State) (slot : Fin 64) (queue dir credit : Nat) : State :=
  let r : Requester := .session slot
  let o := if queue < 32768 then O.Q_ENABLE queue else 0
  match s.checkAccess r o true with
  | (.okay, _) =>
    if 1 < dir then s.complete r o false .refused []
    else
      match s.openStream slot.val queue (dir == 1) credit with
      | (.okay, i, s1) => s1.complete r o false .okay (leBytes 1 i)
      | (st, _, s1) => s1.complete r o false st []
  | (st, charge) => (if charge then s.bump O.LATCH_CHARGE_DENIED 1 else s).complete r o false st []

/-- STREAM_CLOSE of a stream of the session; one that is not open, or that another session holds, is REFUSED (DESIGN CHOICE,
notes/assumptions). -/
def State.closeRecord (s : State) (slot : Fin 64) (i : Nat) : State :=
  let x := s.stream i
  let r : Requester := .session slot
  let o := O.Q_ENABLE x.queue
  if s.roleOf r = 0 then s.complete r o false .denied []
  else if 128 ≤ i ∨ !x.isOpen ∨ x.slot ≠ slot.val then s.complete r o false .refused []
  else (s.closeStream i).complete r o false .okay []

/-- PING. -/
def State.ping (s : State) (slot : Fin 64) : State :=
  if s.roleOf (.session slot) = 0 then { s.tally false 95 .denied with reply := ⟨.denied, []⟩ }
  else { s with reply := ⟨.okay, leBytes 20 s.stampNow⟩ }

/-- What streams of a session, new or with new room, have to send. -/
def State.pumpStreams (s : State) (slot : Nat) : State := (s.streamsOf slot).foldl (fun (s : State) p => s.queueMoved p.2.queue) s

/-- Run one record; the reply is its status and data. -/
def State.runRecord (s : State) (slot : Fin 64) (op idx sub ty : Nat) (data : List Byte) : State :=
  let r : Requester := .session slot
  let o := objOf idx sub
  let n := data.length
  match op with
  | 0x01 => if n ≠ 0 then s.failObj r o false .refused else s.readObj r o
  | 0x02 => s.writeImage r o ty data
  | 0x03 => if n % 2 = 1 then s.failObj r o true .refused else s.maskWrite r o ty (data.take (n / 2)) (data.drop (n / 2))
  | 0x04 => if n ≠ 4 then s.failObj r o true .refused else s.segOpen r o (leNat data)
  | 0x05 => if n < 4 then s.failObj r o true .refused else s.segWrite r o (fieldLE data 0 4) (data.drop 4) false
  | 0x06 => if n ≠ 6 then s.failSeg r o .refused else s.segRead r o (fieldLE data 0 4) (fieldLE data 4 2)
  | 0x07 => if n ≠ 14 then s.failObj r o true .refused else s.segCommit r o (fieldLE data 0 4) (fieldLE data 4 10)
  | 0x08 => if n ≠ 0 then s.failObj r o true .refused else s.segAbort r o
  | 0x10 =>
    if n ≠ 6 then s.failObj r (O.Q_ENABLE (fieldLE data 0 2)) false .refused
    else s.openRecord slot (fieldLE data 0 2) (byteAt data 2) (fieldLE data 4 2)
  | 0x11 => if n ≠ 1 then { s with reply := ⟨.refused, []⟩ } else s.closeRecord slot (byteAt data 0)
  | 0x20 => if n ≠ 0 then { s with reply := ⟨.refused, []⟩ } else s.ping slot
  | _ => { s with reply := ⟨.refused, []⟩ }

/-- The next multiple of 4. -/
def pad4 (n : Nat) : Nat := (n + 3) / 4 * 4

/-- A reply record. -/
def replyRecord (op idx sub ty : Nat) (st : Status) (data : List Byte) : List Byte :=
  leBytes 1 op ++ leBytes 1 st.code ++ leBytes 2 idx ++ leBytes 1 sub ++ leBytes 1 ty ++ leBytes 2 data.length ++ data ++
    fill (pad4 data.length - data.length) 0

/-- A record that does not complete at its owner within 1 ms: whether it takes effect there is a free value (R54). -/
def State.lateRecord (s : State) (slot : Fin 64) (op idx sub ty : Nat) (data : List Byte) : State :=
  let (b, s1) := s.drawBool
  let s2 := if b then s1.runRecord slot op idx sub ty data else s1
  { s2.tally false 95 .timeout with reply := ⟨.timeout, []⟩ }

/-- Whether REFUSED_WRITES counts a record that is REFUSED (*Table 2.9*): WRITE, MASK_WRITE and every segment command. -/
def countsRefused (op : Nat) : Bool := decide (2 ≤ op) && decide (op ≤ 8)

/-- A record is REFUSED by the device before it comes to an owner. -/
def State.refuseRecord (s : State) (op : Nat) : State :=
  { (if countsRefused op then s.bump O.DEV_REFUSED_WRITES 1 else s) with reply := ⟨.refused, []⟩ }

/-- Run `left` records of a request body in order, the first of them number `k`: `out` is the reply body so far, `stop` says that a record
failed under STOP_ON_ERROR, and `late` names the records that time out. Data that would not fit the reply is not returned, and its record
completes with REFUSED; so does a record that the body cuts short. -/
def State.runRecords (s : State) (slot : Fin 64) (late : List Nat) (stopOnError stop : Bool) (k : Nat) (body out : List Byte) :
    Nat → List Byte × State
  | 0 => (out, s)
  | left + 1 =>
    let op := byteAt body 0
    let idx := fieldLE body 2 2
    let sub := byteAt body 4
    let n := fieldLE body 6 2
    let ty := ((cardOf (objOf idx sub)).map fun c => c.ty.code).getD 0
    let s1 : State :=
      if stop then { s with reply := ⟨.aborted, []⟩ }
      else if body.length < 8 + n then s.refuseRecord op
      else if late.contains k then s.lateRecord slot op idx sub (byteAt body 5) (slice 8 n body)
      else s.runRecord slot op idx sub (byteAt body 5) (slice 8 n body)
    let fits := decide (out.length + 8 + pad4 s1.reply.data.length + 8 * left ≤ 1408)
    let s2 := if fits then s1 else s1.refuseRecord op
    let st := s2.reply.status
    s2.runRecords slot late stopOnError (stop || (stopOnError && st != .okay)) (k + 1) (body.drop (8 + pad4 n))
      (out ++ replyRecord op idx sub ty st s2.reply.data) left

/-- A reply datagram of a session: flags, COUNT and body as cached. -/
def State.sendReply (s : State) (c : Ctl) (p : Peer) (session seq extra : Nat) (key rcd : List Byte) : State :=
  s.sendKisko c.num p (kiskoDatagram 2 session seq (byteAt rcd 0 + extra) (byteAt rcd 1) (rcd.drop 2) (some key))

/-- A request with a right MAC (R57). -/
def State.request (s : State) (c : Ctl) (p : Peer) (d : List Byte) (late : List Nat) (slot : Fin 64) : State :=
  let i := slot.val
  let x := s.session i
  let id := s.sessionId i
  let seq := dgSeq d
  if s.reg (O.SES_LAST_SEQ i) < seq then
    let (out, s1) := (s.setReg (O.SES_LAST_SEQ i) seq).runRecords slot late ((byteAt d 14).testBit 0) false 0 (dgBody d) [] (byteAt d 15)
    let rcd := leBytes 1 (s1.replyFlags c id) ++ leBytes 1 (byteAt d 15) ++ out
    let s2 := s1.sendReply c p id seq 0 x.key rcd
    if s2.reg (O.SES_STATE i) = 2 ∧ s2.sessionId i = id then
      (s2.setSession i { s2.session i with cache := ((seq, rcd) :: (s2.session i).cache).take 16 }).pumpStreams i
    else s2
  else
    match x.cache.find? fun e => e.1 == seq with
    | some e => s.sendReply c p id seq 8 x.key e.2
    | none =>
      let s1 := (s.bump (O.SES_REPLAYS i) 1).tally false 95 .denied
      { s1.sendReply c p id seq 0 x.key (leBytes 1 (s1.replyFlags c id) ++ leBytes 1 0 ++ leBytes 1 Status.denied.code) with
        reply := ⟨.denied, []⟩ }

/-- A request, as it comes to Kisko. -/
def State.takeRequest (s : State) (c : Ctl) (p : Peer) (d : List Byte) (late : List Nat) : State :=
  s.onDatagram c p 1 2 d fun s slot => s.request c p d late slot

/-- REQUEST_DATAGRAM; `late` names the records, from 0, that do not complete at their owner within 1 ms (R54). -/
def execRequestDatagram (t : Nat) (port : Ctl) (peer : Peer) (d : List Byte) (late : List Nat) (s : State) : Host.Outcome State Fault Refusal :=
  .next ((s.tickTo t).kiskoIn port peer fun s => s.takeRequest port peer d late)

/-- STREAM_OPEN as a record of a session. -/
def execStreamOpen (t : Nat) (slot : Fin 64) (queue dir credit : Nat) (s : State) : Host.Outcome State Fault Refusal :=
  .next (((s.tickTo t).openRecord slot queue dir credit).pumpStreams slot.val)

/-- STREAM_CLOSE as a record of a session. -/
def execStreamClose (t : Nat) (slot : Fin 64) (stream : Nat) (s : State) : Host.Outcome State Fault Refusal :=
  .next ((s.tickTo t).closeRecord slot stream)

/-- PING as a record of a session. -/
def execPing (t : Nat) (slot : Fin 64) (s : State) : Host.Outcome State Fault Refusal := .next ((s.tickTo t).ping slot)

/-- RECORD_TIMEOUT: a record has not completed within 1 ms. Whether it takes effect at its owner is a free value (R54). -/
def execRecordTimeout (t : Nat) (slot : Fin 64) (rcd : List Byte) (s : State) : Host.Outcome State Fault Refusal :=
  .next ((s.tickTo t).lateRecord slot (byteAt rcd 0) (fieldLE rcd 2 2) (byteAt rcd 4) (byteAt rcd 5) (slice 8 (fieldLE rcd 6 2) rcd))

/-! ### Stream datagrams (R60, *Table 2.15*) -/

/-- The difference of two 32-bit stream sequences, from −2^31. -/
def seqDiff (a b : Nat) : Int := signed 32 ((a + 2 ^ 32 - b % 2 ^ 32) % 2 ^ 32)

/-- Take granules of a host-to-device stream in order from sequence `seq`: those accepted before are passed over, the next one is enqueued
within the credit, one beyond it is refused and counted; the flag says whether one was refused. -/
def State.takeGranules (s : State) (i seq : Nat) (l : List Byte) : Nat → Bool × State
  | 0 => (false, s)
  | n + 1 =>
    let x := s.stream i
    let g := l.take 32
    let rest := fun (s : State) => s.takeGranules i (seq + 1) (l.drop 32) n
    if seqDiff seq x.next ≠ 0 then rest s
    else if x.credit = 0 ∨ !s.accepts x.queue 1 then
      let (_, s1) := rest ((((s.setStream i { x with refused := x.refused + 1 })).ledAdd 0x1043 0 1).ledAdd 0x1043 2 1)
      (true, s1)
    else
      let s1 := ((s.setStream i { x with next := x.next + 1, credit := x.credit - 1 }).offer x.queue (Producer.stream.who i) g).ledAdd 0x1043 0 1
      rest (s1.ledAdd 0x1043 1 1)

/-- STREAM_DATA: granules from the host. A refused granule and those after it are each refused. Data that names no open stream of the
session to the device, or whose GCOUNT or length is wrong, is ignored (DESIGN CHOICE, notes/assumptions). -/
def State.streamData (s : State) (d : List Byte) (slot : Fin 64) : State :=
  let b := dgBody d
  let i := byteAt b 0
  let n := fieldLE b 2 2
  let x := s.stream i
  if 128 ≤ i ∨ !x.isOpen ∨ !x.toDevice ∨ x.slot ≠ slot.val ∨ 43 < n ∨ b.length ≠ 8 + 32 * n then s
  else
    let first := fieldLE b 4 4
    let (bad, s1) := s.takeGranules i first (b.drop 8) n
    let y := s1.stream i
    -- after the first one refused, the sequence stands still: those that follow it in the datagram lie beyond the credit too
    let beyond : Nat := if bad then (seqDiff (first + n) y.next - 1).toNat else 0
    let s2 := ((s1.setStream i { y with refused := y.refused + beyond }).ledAdd 0x1043 0 beyond).ledAdd 0x1043 2 beyond
    if bad then s2.sendAck slot.val i .refused 0 (y.next % 2 ^ 32)
    else
      let g := if s2.reg (O.Q_STATE y.queue) = 1 then min 65535 ((s2.queue y.queue).room - y.credit) else 0
      (s2.setStream i { y with credit := y.credit + g }).sendAck slot.val i .okay g (y.next % 2 ^ 32)

/-- Stream data, as it comes to Kisko. -/
def State.takeStreamData (s : State) (c : Ctl) (p : Peer) (d : List Byte) : State := s.onDatagram c p 3 2 d fun s slot => s.streamData d slot

/-- STREAM_DATA, as it arrives. -/
def execStreamData (t : Nat) (port : Ctl) (peer : Peer) (d : List Byte) (s : State) : Host.Outcome State Fault Refusal :=
  .next ((s.tickTo t).kiskoIn port peer fun s => s.takeStreamData port peer d)

/-- STREAM_ACK: granules of a device-to-host stream are acknowledged and consumed, and credit is added. A status code that is never
produced is refused (R45); an ack that names no open stream of the session to the host, or of a wrong length, is ignored (DESIGN CHOICE,
notes/assumptions). -/
def State.streamAck (s : State) (c : Ctl) (p : Peer) (d : List Byte) (slot : Fin 64) : State :=
  let b := dgBody d
  let i := byteAt b 0
  let x := s.stream i
  if 0x0B < byteAt b 1 then s.refuseDatagram c p d .refused
  else if 128 ≤ i ∨ !x.isOpen ∨ x.toDevice ∨ x.slot ≠ slot.val ∨ b.length ≠ 8 then s
  else
    let k := (seqDiff (fieldLE b 4 4) x.acked).toNat
    let n := if x.acked + k ≤ x.next then k else 0
    let s1 := (s.setStream i { x with acked := x.acked + n, credit := x.credit + fieldLE b 2 2, lastAck := s.now }).ledMove 0x1042 2 1 n
    (s1.consume x.queue n).queueMoved x.queue

/-- A stream ack, as it comes to Kisko. -/
def State.takeStreamAck (s : State) (c : Ctl) (p : Peer) (d : List Byte) : State := s.onDatagram c p 4 2 d fun s slot => s.streamAck c p d slot

/-- STREAM_ACK, as it arrives. -/
def execStreamAck (t : Nat) (port : Ctl) (peer : Peer) (d : List Byte) (s : State) : Host.Outcome State Fault Refusal :=
  .next ((s.tickTo t).kiskoIn port peer fun s => s.takeStreamAck port peer d)

/-- A datagram comes to Kisko at a port, whatever its DTYPE; one that no host sends is refused as a reserved DTYPE. -/
def State.takeKisko (s : State) (c : Ctl) (p : Peer) (d : List Byte) : State :=
  match dgType d with
  | 0x03 => s.takeStreamData c p d
  | 0x04 => s.takeStreamAck c p d
  | 0x05 => s.takeHello c p d
  | 0x07 => s.takeProof c p d
  | 0x09 => s.takeClose c p d
  | _ => s.takeRequest c p d []

/-- Send granules `first` to `first + n` − 1 again; the last argument bounds the datagrams. -/
def State.resend (s : State) (i first n : Nat) : Nat → State
  | 0 => s
  | k + 1 =>
    if n = 0 then s
    else
      match s.sendGranules i first n with
      | (0, s1) => s1
      | (m, s1) => s1.resend i (first + m) (n - m) k

/-- STREAM_RTO: STREAM_RTO has passed without an ACKED; the device resends from the oldest unacknowledged granule. -/
def execStreamRto (t : Nat) (stream : Fin 128) (s : State) : Host.Outcome State Fault Refusal :=
  let s1 := s.tickTo t
  let i := stream.val
  let x := s1.stream i
  let n := x.next - x.acked
  .next
    (if !x.isOpen ∨ x.toDevice ∨ n = 0 ∨ s1.now < x.lastAck + s1.reg O.KISKO_STREAM_RTO * Config.usUnits then s1
     else (s1.resend i x.acked n (n / 43 + 1)).setStream i { x with lastAck := s1.now })

end Sys2Proof.Machine
end

