-- ==== Sys2Proof/Machine/Ptp.lean ====
section
/-! DEFINITION. The messages of the Precision Time Protocol (R89, R90): Announce and the choice of a master, Sync and Follow_Up, and the
delay request and response that give an exchange of a domain. Message formats and the best master algorithm are those of IEEE 1588
(PRESUMED, notes/assumptions). -/

namespace Sys2Proof.Machine

/-- 2^n seconds in units of 0.5 ps, for a signed byte n. -/
def logSeconds (b : Nat) : Nat :=
  let n := signed 8 b
  if n < 0 then 2000000000000 / 2 ^ n.natAbs else 2000000000000 * 2 ^ n.natAbs

/-- A timestamp of 10 bytes, and a correction field of 2^−16 ns, as PTP time. -/
def ptpStamp (b : List Byte) (o : Nat) : Int := ((fieldBE b o 6 * 1000000000 + fieldBE b (o + 6) 4 : Nat) : Int) * ptpNs
def ptpCorrection (b : List Byte) : Int := signed 64 (fieldBE b 8 8) * ptpNs / 65536

/-- Header fields of a message: type, logMessageInterval, sequenceId, and clockIdentity with port number of its sender. -/
def ptpType (b : List Byte) : Nat := bits (byteAt b 0) 3 0
def ptpLog (b : List Byte) : Nat := byteAt b 33
def ptpSeq (b : List Byte) : Nat := fieldBE b 30 2
def ptpSender (b : List Byte) : Nat := fieldBE b 20 10

/-- The least length of a message of a type that a slave takes; `none` for the others: the peer delay mechanism, management and signalling
are not supported, and a slave ignores delay requests. -/
def ptpLength : Nat → Option Nat
  | 0x0 => some 44
  | 0x8 => some 44
  | 0x9 => some 54
  | 0xB => some 64
  | _ => none

/-- Whether a message is one the device takes: version 2, no other profile's, and long enough. -/
def ptpSound (b : List Byte) : Bool :=
  byteAt b 0 / 16 == 0 && bits (byteAt b 1) 3 0 == 2 && (ptpLength (ptpType b)).any fun n => decide (n ≤ fieldBE b 2 2) && decide (fieldBE b 2 2 ≤ b.length)

/-- clockIdentity and port number of the device at a port: the EUI-64 of MAC_ADDR, and 1. -/
def State.ptpIdentity (s : State) (m : Nat) : List Byte :=
  let a := s.mgtMac m
  a.take 3 ++ [0xFF#8, 0xFE#8] ++ a.drop 3 ++ beBytes 2 1

/-- Whether domain k takes messages of a domainNumber at a port (*Table 3.8*). -/
def State.ptpTakes (s : State) (k m num : Nat) : Bool :=
  s.isSet (O.PTP_ENABLE k) && num == s.reg (O.PTP_DOMAIN_NUMBER k) && (s.reg (O.PTP_PORT k) == 2 || s.reg (O.PTP_PORT k) == m)

/-! ### The master (R89) -/

/-- Whether a list of numbers comes before another. -/
def ranksBefore : List Nat → List Nat → Bool
  | a :: l, b :: r => decide (a < b) || (a == b && ranksBefore l r)
  | _, _ => false

/-- What an Announce gives the comparison of masters, in its order: priority1, clockClass, clockAccuracy, offsetScaledLogVariance, priority2,
grandmasterIdentity, stepsRemoved, the sender, and last the port it came to: MGT-A is preferred on a tie (*Table 3.8*). -/
def ptpRank (b : List Byte) (m : Nat) : List Nat :=
  [byteAt b 47, byteAt b 48, byteAt b 49, fieldBE b 50 2, byteAt b 52, fieldBE b 53 8, fieldBE b 61 2, ptpSender b, m]

/-- Whether a master may be chosen: two Announce messages within four of its intervals, the last within three. -/
def PtpMaster.qualified (x : PtpMaster) (now : Nat) : Bool :=
  match x.heard with
  | a :: b :: _ => decide (a - b ≤ 4 * x.interval) && decide (now ≤ a + 3 * x.interval)
  | _ => false

/-- The best master of a domain at present. -/
def State.ptpBest (s : State) (k : Nat) : Option PtpMaster :=
  (s.ptpDom k).masters.foldl
    (fun best x =>
      if !x.qualified s.now then best
      else if best.all fun y => ranksBefore x.rank y.rank then some x
      else best) none

/-- An Announce: its sender is recorded, and the best master is chosen anew. -/
def State.ptpAnnounce (s : State) (k m : Nat) (b : List Byte) : State :=
  if 255 ≤ fieldBE b 61 2 ∨ slice 20 8 b = (s.ptpIdentity m).take 8 then s
  else
    let p := s.ptpDom k
    let same := fun (x : PtpMaster) => x.sender == ptpSender b && x.mgt == m
    let before := ((p.masters.find? same).map PtpMaster.heard).getD []
    let x : PtpMaster := ⟨ptpSender b, m, ptpRank b m, s.now :: before.take 1, logSeconds (ptpLog b)⟩
    let s1 := s.setPtp k { p with masters := x :: p.masters.filter fun y => !same y }
    match s1.ptpBest k with
    | some y => s1.setReg (O.PTP_MASTER_ID k) (y.sender / 65536)
    | none => s1

/-- Whether a message comes from the selected master of a domain. -/
def State.ptpFromMaster (s : State) (k m : Nat) (b : List Byte) : Bool :=
  (s.ptpBest k).any fun x => x.sender == ptpSender b && x.mgt == m

/-! ### Sync and delay exchanges (R90) -/

/-- A delay request to the master, whose address is known from its Sync. -/
def State.ptpDelayReq (s : State) (k m : Nat) (peer : Peer) : State :=
  let p := s.ptpDom k
  let n := (p.reqSeq + 1) % 65536
  let msg := beBytes 1 0x01 ++ beBytes 1 0x12 ++ beBytes 2 44 ++ beBytes 1 (s.reg (O.PTP_DOMAIN_NUMBER k)) ++ fill 1 0 ++ beBytes 2 0x0400 ++
    fill 12 0 ++ s.ptpIdentity m ++ beBytes 2 n ++ beBytes 1 1 ++ beBytes 1 0x7F ++ fill 10 0
  (s.setPtp k { p with reqSeq := n, reqAt := some s.now }).sendUdp m { peer with port := 319 } 319 msg

/-- The mapping of a domain at an instant. -/
def State.ptpAt (s : State) (k inst : Nat) : Int := s.ptpNow k + ((inst : Int) - s.now) * (10000000000 + s.ptpRate k)

/-- The instant of a Sync is known at both ends: with a mean path delay the exchange is complete; without one it waits for the response to
a delay request (DESIGN CHOICE, notes/assumptions). -/
def State.ptpMeasured (s : State) (k sender sync : Nat) (t1 : Int) : State :=
  let p := s.ptpDom k
  let s1 := s.setPtp k { p with sync := none, last := some (sync, t1) }
  match p.delay with
  | some d => s1.ptpExchange k (sender / 65536) ((s1.ptpAt k sync - t1).tdiv ptpNs - d) d.toNat p.syncInterval
  | none => s1

/-- A Sync of the selected master: stamped at its arrival; a one-step master's carries its own instant, a two-step master's Follow_Up will.
Each is followed by a delay request. -/
def State.ptpSyncMsg (s : State) (k m : Nat) (peer : Peer) (b : List Byte) : State :=
  let log := signed 8 (ptpLog b)
  if !s.ttValid ∨ log < -7 ∨ 0 < log then s
  else
    let s1 := s.setPtp k { s.ptpDom k with sync := some (ptpSeq b, s.now, ptpCorrection b), syncInterval := logSeconds (ptpLog b) }
    let s2 := if (byteAt b 6).testBit 1 then s1 else s1.ptpMeasured k (ptpSender b) s1.now (ptpStamp b 34 + ptpCorrection b)
    s2.ptpDelayReq k m peer

/-- A Follow_Up of the Sync last taken. -/
def State.ptpFollowUp (s : State) (k : Nat) (b : List Byte) : State :=
  match (s.ptpDom k).sync with
  | some (seq, at_, corr) =>
    if seq = ptpSeq b ∧ s.ttValid then s.ptpMeasured k (ptpSender b) at_ (ptpStamp b 34 + ptpCorrection b + corr) else s
  | none => s

/-- The response to the delay request outstanding: the mean path delay of it and of the Sync before it, in ns; and the exchange that waited
for a first one is complete. -/
def State.ptpDelayResp (s : State) (k m : Nat) (b : List Byte) : State :=
  let p := s.ptpDom k
  match p.reqAt, p.last with
  | some t3, some (sync, t1) =>
    if ptpSeq b ≠ p.reqSeq ∨ slice 44 10 b ≠ s.ptpIdentity m ∨ !s.ttValid then s
    else
      let t4 := ptpStamp b 34 - ptpCorrection b
      let d := (s.ptpAt k sync - t1 + (t4 - s.ptpAt k t3)).tdiv (2 * ptpNs)
      let s1 := (s.setPtp k { p with reqAt := none, delay := some d }).setReg (O.PTP_MEAN_PATH_DELAY k) d.toNat
      match p.delay with
      | some _ => s1
      | none => s1.ptpExchange k (ptpSender b / 65536) ((s1.ptpAt k sync - t1).tdiv ptpNs - d) d.toNat p.syncInterval
  | _, _ => s

/-- A message of a domain's number arrives at a port that the domain uses: only the selected master's count, and Announce messages. -/
def State.ptpTake (s : State) (k m : Nat) (peer : Peer) (b : List Byte) : State :=
  if ptpType b = 0xB then s.ptpAnnounce k m b
  else if !s.ptpFromMaster k m b then s
  else
    match ptpType b, peer.dport with
    | 0x0, 319 => s.ptpSyncMsg k m peer b
    | 0x8, 320 => s.ptpFollowUp k b
    | 0x9, 320 => s.ptpDelayResp k m b
    | _, _ => s

/-- A PTP message arrives at a port: each domain that takes it, takes it. -/
def State.ptpMessage (s : State) (m : Nat) (peer : Peer) (b : List Byte) : State :=
  if !ptpSound b then s
  else [0, 1].foldl (fun (s : State) k => if s.ptpTakes k m (byteAt b 4) then s.ptpTake k m peer b else s) s

end Sys2Proof.Machine
end

