-- ==== Sys2Proof/Machine/Carriage.lean ====
section
/-! DEFINITION. A frame at a management port and what it carries: a request the port answers itself, a PTP message, or a Kisko datagram (R51,
R280). -/

namespace Sys2Proof.Machine

/-- A UDP datagram for the device: PTP, Kisko where it runs, or neither. -/
def State.udpIn (s : State) (c : Ctl) (p : Peer) (d : List Byte) : State :=
  if isPtpPort p.dport then s.ptpMessage c.num p d
  else if s.kiskoUp c p then s.takeKisko c p d
  else s.bump (O.MGT_RX_DROPPED c.num) 1

/-- A frame at a live port: answered, taken, or dropped and counted (R280). -/
def State.frameIn (s : State) (c : Ctl) (frame : List Byte) : State :=
  let m := c.num
  let drop := s.bump (O.MGT_RX_DROPPED m) 1
  match s.ethParse m frame with
  | none => drop
  | some f =>
    if f.dst ≠ s.mgtMac m ∧ !(byteAt f.dst 0).testBit 0 then drop
    else
      let answer := fun (r : Option Inet) =>
        match r with
        | some (.inl body) => s.ethSend m f.src f.kind body
        | some (.inr (p, d)) => s.udpIn c p d
        | none => drop
      match f.kind with
      | 0x0806 => answer ((s.arpReply m f).map .inl)
      | 0x0800 => answer (s.ip4 m f)
      | 0x86DD => answer (s.ip6 m f)
      | _ => drop

/-- MANAGEMENT_FRAME: a frame with its FCS arrives (R279, R280). -/
def execManagementFrame (t : Nat) (c : Ctl) (frame : List Byte) (s : State) : Host.Outcome State Fault Refusal :=
  let s1 := s.tickTo t
  .next (if !s1.mgtLive c.num then s1 else (s1.frameIn c frame).bump (O.MGT_RX_FRAMES c.num) 1)

end Sys2Proof.Machine
end

