-- ==== Sys2Proof/Machine/DebugPort.lean ====
section
/-! DEFINITION. The debug ports (R421 to R427): requests and replies, what an address reaches, the test access port and the one-wire
protocol on RESET_N. Pulses and shifts are timing: a command is a whole frame, an Update-DR or an Update-IR. -/

namespace Sys2Proof.Machine

/-! ### Requests (*Table 16.2*) -/

def dbgOp (req : List Byte) : Nat := byteAt req 0
def dbgEnable (req : List Byte) : Nat := byteAt req 1
def dbgAddr (req : List Byte) : Nat := fieldLE req 2 6
def dbgData (req : List Byte) : List Byte := slice 8 8 req

/-- How long a request may go unanswered. -/
def dbgLimit : Nat := 20 * Config.usUnits

/-- What an address of *Table 16.5* reaches: a physical engine slot, a Feed store, a controller's local memory, LPDDR4X, or an object's
alias window; the last number of each is the offset. -/
inductive DebugPlace where
  | engine (slot off : Nat)
  | feed (c off : Nat)
  | local (x off : Nat)
  | memory
  | object (o off : Nat)
  | nothing
  deriving DecidableEq, Repr

/-- Decode of a system address (*Table 16.5*). -/
def debugPlace (addr : Nat) : DebugPlace :=
  let hi := addr / 2 ^ 40
  let lo := addr % 2 ^ 40
  if hi ≤ 0x3F then .memory
  else if hi = 0x80 ∧ lo / 2 ^ 20 < 528 ∧ lo % 2 ^ 20 < 0xC000 then .engine (lo / 2 ^ 20) (lo % 2 ^ 20)
  else if hi = 0x81 ∧ lo / 2 ^ 20 < 16 then .feed (lo / 2 ^ 20) (lo % 2 ^ 20)
  else if hi = 0x82 ∧ lo / 2 ^ 23 < 2 then .local (lo / 2 ^ 23) (lo % 2 ^ 23)
  else if hi = 0xC0 then .object (objOf (lo / 0x4000) (lo % 0x4000 / 0x40)) (lo % 0x40)
  else .nothing

/-- The ring stop that a place lies behind. -/
def DebugPlace.stop : DebugPlace → Nat
  | .engine slot _ => quadStop (slot / 132) (9 + slot / 33 % 4)
  | .feed c _ => quadStop (c / 4) (9 + c % 4)
  | .local x _ => 93 + x
  | _ => 95

/-- What the ring stop of a place answers of itself. -/
def State.placeStatus (s : State) : DebugPlace → Status
  | .engine slot off => s.stopAnswer (DebugPlace.stop (.engine slot off)) 0 (some (324 + slot / 33))
  | .feed c _ => s.feedStatus c
  | .local x _ => s.stopAnswer (93 + x) 0 (some (404 + 2 * x))
  | .nothing => .decode
  | _ => .okay

/-- Whether the debug level allows an access (*Table 16.1*). -/
def State.debugAllowed (s : State) (addr : Nat) (write : Bool) : Bool :=
  s.reg O.DBG_DEBUG_LEVEL == 2 || (!write && (debugPlace addr != .memory || kidOf addr == 0))

/-! ### The stores of a physical engine slot -/

/-- Whether a word that 8 bytes of a slot's stores touch is uncorrectable. -/
def State.slotBad (s : State) (slot off : Nat) : Bool :=
  if off < 0x8000 then s.badWord 0 slot (off / 16)
  else s.badWord 1 slot ((off - 0x8000) / 4) || s.badWord 1 slot ((off - 0x8000) / 4 + 1)

/-- 8 bytes of the stores of a physical slot. -/
def State.slotRead (s : State) (slot off : Nat) : List Byte :=
  match s.engineOn slot with
  | none => dramRead s.spareMem (slot * 2 ^ 16 + off) 8
  | some e =>
    if off < 0x8000 then leBytes 8 (s.progWord e (off / 16) / 2 ^ (8 * (off % 16)))
    else dramRead s.data (e * 2 ^ 14 + (off - 0x8000)) 8

/-- Store 8 bytes to the stores of a physical slot; whole words of the data store are good again. -/
def State.slotWrite (s : State) (slot off : Nat) (b : List Byte) : State :=
  match s.engineOn slot with
  | none => { s with spareMem := dramWrite s.spareMem (slot * 2 ^ 16 + off) b }
  | some e =>
    if off < 0x8000 then
      let w := splice (leBytes 16 (s.progWord e (off / 16))) (off % 16) b
      { s with progPatch := Tbl.set none s.progPatch (e * 2 ^ 11 + off / 16) (some (leNat w)) }
    else { s with data := dramWrite s.data (e * 2 ^ 14 + (off - 0x8000)) b }

/-- The bytes that BYTE_EN enables, over those that stood there. -/
def merge8 (en : Nat) (old new : List Byte) : List Byte :=
  (List.range 8).map fun i => BitVec.ofNat 8 (if en.testBit i then byteAt new i else byteAt old i)

/-- Runs of bytes that BYTE_EN enables: first byte and length. -/
def enabledRuns (en : Nat) : List (Nat × Nat) :=
  (List.range 8).filterMap fun i =>
    if en.testBit i ∧ ¬(i ≠ 0 ∧ en.testBit (i - 1)) then
      some (i, (((List.range 8).drop i).takeWhile fun j => en.testBit j).length)
    else none

/-! ### What a request does -/

/-- A READ: status, data and the state it leaves; `none` while a line of memory waits. It is a peek (R426). -/
def State.debugRead (s : State) (addr : Nat) : Option (Status × List Byte × State) :=
  let place := debugPlace addr
  match place with
  | .object o off =>
    let s1 := if addr % 8 = 0 then s.aliasLoad .debugPort o off 8 else s.failObj .debugPort o false .refused
    some (s1.reply.status, s1.reply.data, s1)
  | .memory =>
    if s.memStatus addr = .decode then some (.decode, [], s.tally false 95 .decode)
    else if !s.debugAllowed addr false then some (.denied, [], s.tally false 95 .denied)
    else if addr % 8 ≠ 0 then some (.refused, [], s.tally false 95 .refused)
    else
      (s.memReadLine addr).1.map fun p =>
        (p.1, slice (addr % 64) 8 p.2, if p.1 = .okay then s else s.tally false 95 p.1)
  | _ =>
    let (st, d) : Status × List Byte :=
      if s.placeStatus place ≠ .okay then (s.placeStatus place, [])
      else if addr % 8 ≠ 0 then (.refused, [])
      else
        match place with
        | .engine slot off => if s.slotBad slot off then (.poisoned, []) else (.okay, s.slotRead slot off)
        | .feed c off =>
          match s.feedNetRead c off 8 with
          | (st, d, _) => (st, d)
        | .local x off => if s.badWord 8 x (off / 8) then (.poisoned, []) else (.okay, dramRead s.mcMem (x * 2 ^ 23 + off) 8)
        | _ => (.decode, [])
    some (st, d, if st = .okay then s else s.tally false place.stop st)

/-- The part of a WRITE that stores enabled bytes of a double word in a store of an engine, a Feed store or a local memory: its status. -/
def State.debugStore (s : State) (place : DebugPlace) (en : Nat) (data : List Byte) : Status × State :=
  match place with
  | .engine slot off =>
    if (s.engineOn slot).any fun e => [1, 3, 4].contains (s.reg (O.ENG_STATE e)) then (.busy, s)
    else
      let s1 := s.slotWrite slot off (merge8 en (s.slotRead slot off) data)
      (.okay,
        if off < 0x8000 then s1
        else
          [0, 1].foldl (fun (s : State) i => if en / 16 ^ i % 16 = 15 then s.setBad 1 slot ((off - 0x8000) / 4 + i) 1 false else s) s1)
  | .feed c off => (.okay, (s.netFeed c off 8).feedWrite c off (merge8 en (s.feedRead c off 8) data))
  | .local x off =>
    let s1 : State := { s with mcMem := dramWrite s.mcMem (x * 2 ^ 23 + off) (merge8 en (dramRead s.mcMem (x * 2 ^ 23 + off) 8) data) }
    (.okay, if en % 256 = 255 then s1.setBad 8 x (off / 8) 1 false else s1)
  | _ => (.decode, s)

/-- A WRITE to pattern memory; `none` while its line waits. -/
def State.debugMemWrite (s : State) (addr en : Nat) (data : List Byte) : Option (Status × State) :=
  if s.memStatus addr = .decode then some (.decode, s.tally true 95 .decode)
  else if !s.debugAllowed addr true then some (.denied, s.tally true 95 .denied)
  else if addr % 8 ≠ 0 then some (.refused, s.tally true 95 .refused)
  else if en = 0 then some (.okay, s)
  else
    match s.memReadLine addr with
    | (none, _) => none
    | (some (_, old), _) =>
      match s.memWriteReq addr (merge8 en (slice (addr % 64) 8 old) data) with
      | (none, _) => none
      | (some st, s1) => some (st, s1)

/-- A WRITE to an object of the dictionary, one store for each run of enabled bytes. -/
def State.debugObjWrite (s : State) (addr o off en : Nat) (data : List Byte) : Status × State :=
  if addr % 8 ≠ 0 ∨ enabledRuns en = [] then
    let s1 := s.failObj .debugPort o true (if addr % 8 ≠ 0 then .refused else .okay)
    (s1.reply.status, s1)
  else
    (enabledRuns en).foldl
      (fun (a : Status × State) p =>
        let s1 := a.2.aliasStore .debugPort o (off + p.1) (slice p.1 p.2 data)
        (if a.1 = .okay then s1.reply.status else a.1, s1)) (.okay, s)

/-- A WRITE, as a write of the controller in DBG_AS (R420); `none` while a line of memory waits. -/
def State.debugWrite (s : State) (addr en : Nat) (data : List Byte) : Option (Status × State) :=
  let place := debugPlace addr
  match place with
  | .object o off => some (s.debugObjWrite addr o off en data)
  | .memory => s.debugMemWrite addr en data
  | _ =>
    let (st, s1) : Status × State :=
      if place = .nothing then (.decode, s)
      else if !s.debugAllowed addr true then (.denied, s)
      else if s.placeStatus place ≠ .okay then (s.placeStatus place, s)
      else if addr % 8 ≠ 0 then (.refused, s)
      else s.debugStore place en data
    some (st, s1.tally true place.stop st)

/-- The data of STATUS. -/
def State.debugStatus (s : State) : List Byte :=
  leBytes 1 (s.reg O.DBG_DEBUG_LEVEL) ++ leBytes 1 (s.reg O.DEV_DEVICE_STATE) ++ leBytes 1 (s.reg (O.RUN_RUN_STATE 0)) ++
    leBytes 1 (s.reg (O.RUN_RUN_STATE 1)) ++ leBytes 1 (s.reg O.CFG_CFG_STATE) ++ fill 3 0

/-- A RESET: OKAY at level 2 with every byte of DATA 0x5A, and a pin reset 10 µs later (R421). -/
def State.debugReset (s : State) (data : List Byte) : Status × State :=
  if s.reg O.DBG_DEBUG_LEVEL ≠ 2 then (.denied, s.tally true 95 .denied)
  else if data ≠ fill 8 0x5A then (.refused, s.tally true 95 .refused)
  else (.okay, { s with dbg := { s.dbg with resetAt := some (s.now + 10 * Config.usUnits) } })

/-- What a request does: its status, its data and the state it leaves; `none` while it cannot be answered. -/
def State.debugDo (s : State) (req : List Byte) : Option (Status × List Byte × State) :=
  match dbgOp req with
  | 1 => s.debugRead (dbgAddr req)
  | 2 => (s.debugWrite (dbgAddr req) (dbgEnable req) (dbgData req)).map fun p => (p.1, [], p.2)
  | 3 => some (.okay, s.debugStatus, s)
  | 4 =>
    let (st, s1) := s.debugReset (dbgData req)
    some (st, [], s1)
  | _ => some (.refused, [], s.tally false 95 .refused)

/-! ### Replies -/

/-- The 9 bytes of a reply; its DATA is 0 unless a READ or STATUS filled it. -/
def debugReply (st : Status) (data : List Byte) : List Byte :=
  let d := if st = .okay then data else []
  leBytes 1 st.code ++ d.take 8 ++ fill (8 - d.length) 0

/-- A one-wire reply and its CRC-8 (R425). -/
def State.sendOneWire (s : State) (r : List Byte) : State := { s with sent := s.sent ++ [⟨6, r ++ leBytes 1 (crc8 r)⟩] }

/-- The request of a port, with the instant of its issue. -/
def State.debugReq (s : State) (tap : Bool) : Option (List Byte × Nat) := if tap then s.dbg.tapReq else s.dbg.owReq

/-- The request of a port completes: the test access port holds its reply, the one-wire port sends it unless its frame was abandoned. -/
def State.debugDone (s : State) (tap : Bool) (st : Status) (data : List Byte) : State :=
  let r := debugReply st data
  let s1 := { s with reply := ⟨st, data⟩ }.bump O.DBG_PORT_TRANSACTIONS 1
  if tap then { s1 with dbg := { s1.dbg with tapReq := none, tapReply := some r } }
  else
    let s2 := { s1 with dbg := { s1.dbg with owReq := none, owDrop := false } }
    if s1.dbg.owDrop then s2 else s2.sendOneWire r

/-- A request that went unanswered for 20 µs: TIMEOUT; whether it had its effect is a free value. -/
def State.debugTimeout (s : State) (tap : Bool) (req : List Byte) : State :=
  let (b, s1) := s.drawBool
  let s2 : State := if b then (match s1.debugDo req with
    | some (_, _, x) => x
    | none => s1) else s1
  (s2.bump O.DEV_TIMEOUT_COUNT 1).debugDone tap .timeout []

/-- A READ of an engine store that has waited 1,024 word clocks has taken its port by force (*Table 16.5*). -/
def State.debugSteal (s : State) (req : List Byte) (since : Nat) : State :=
  match debugPlace (dbgAddr req) with
  | .engine slot _ => if dbgOp req = 1 ∧ since + 1024 * Config.wordUnits ≤ s.now then s.stealWord slot else s
  | _ => s

/-- The request of a port is answered, if it has the operation of the row. -/
def State.debugServe (s : State) (tap : Bool) (op : Nat) : State :=
  match s.debugReq tap with
  | none => s
  | some (req, since) =>
    if dbgOp req ≠ op then s
    else if since + dbgLimit ≤ s.now then s.debugTimeout tap req
    else
      match s.debugDo req with
      | some (st, d, s1) => (s1.debugSteal req since).debugDone tap st d
      | none => s

/-- A request is issued at a port; one with an operation that *Table 16.2* does not list is answered at once. -/
def State.debugIssue (s : State) (tap : Bool) (req : List Byte) : State :=
  let s1 : State :=
    if tap then { s with dbg := { s.dbg with tapReq := some (req, s.now), tapReply := none } }
    else { s with dbg := { s.dbg with owReq := some (req, s.now), owDrop := false } }
  if 1 ≤ dbgOp req ∧ dbgOp req ≤ 4 then s1
  else
    match s1.debugDo req with
    | some (st, d, s2) => s2.debugDone tap st d
    | none => s1

/-! ### The commands -/

/-- DEBUG_READ: the outstanding READ of a port is answered. -/
def execDebugRead (t : Nat) (tap : Bool) (s : State) : Host.Outcome State Fault Refusal := .next ((s.tickTo t).debugServe tap 1)

/-- DEBUG_WRITE: the outstanding WRITE of a port is performed and answered. -/
def execDebugWrite (t : Nat) (tap : Bool) (s : State) : Host.Outcome State Fault Refusal := .next ((s.tickTo t).debugServe tap 2)

/-- DEBUG_STATUS: the outstanding STATUS of a port is answered. -/
def execDebugStatus (t : Nat) (tap : Bool) (s : State) : Host.Outcome State Fault Refusal := .next ((s.tickTo t).debugServe tap 3)

/-- DEBUG_RESET: the outstanding RESET of a port is answered; or, 10 µs after the answer, the pin reset comes, with RESET_CAUSE 2. -/
def execDebugReset (t : Nat) (tap : Bool) (mode : Fin 4) (bad : List (Fin 5)) (s : State) : Host.Outcome State Fault Refusal :=
  let s1 := s.tickTo t
  .next (if s1.dbg.resetAt.any (fun a => decide (a ≤ s1.now)) then s1.pinReset 2 mode.val bad else s1.debugServe tap 4)

/-- DEBUG_REQUEST_TIMEOUT: the outstanding request of a port has gone unanswered for 20 µs. -/
def execDebugRequestTimeout (t : Nat) (tap : Bool) (s : State) : Host.Outcome State Fault Refusal :=
  let s1 := s.tickTo t
  .next
    (match s1.debugReq tap with
     | some (req, since) => if since + dbgLimit ≤ s1.now then s1.debugTimeout tap req else s1
     | none => s1)

/-- The instruction DBG (*Table 16.3*). -/
def tapDbg : Nat := 0x20

/-- IDCODE (R422). -/
def State.idcode (s : State) : Nat := s.reg O.ID_SILICON_REV / 256 % 16 * 2 ^ 28 + 0x6144 * 2 ^ 12 + 0x4E5 * 2 + 1

/-- The length in cells of the data register that the instruction in effect selects (*Table 16.3*, R423). -/
def State.tapCells (s : State) : Nat :=
  match s.dbg.tapIr with
  | 0x00 => 2994
  | 0x01 => 2994
  | 0x0A => 2994
  | 0x0B => 2994
  | 0x02 => 32
  | 0x20 => 128
  | _ => 1

/-- DBG: a scan of the DBG register. Capture-DR loads READY and the last reply; Update-DR issues the request shifted in, or finds one
outstanding (R423). -/
def execDbg (t : Nat) (req : List Byte) (s : State) : Host.Outcome State Fault Refusal :=
  let s1 := s.tickTo t
  .next
    (if s1.dbg.tapIr ≠ tapDbg then s1
     else
       let (seen, s2) : List Byte × State := match s1.dbg.tapReply with
         | some r => (leBytes 16 (1 + 2 * leNat r), s1)
         | none =>
           let (r, s2) := s1.drawBytes 9
           (leBytes 16 (2 * leNat r), s2)
       let s3 : State := { s2 with sent := s2.sent ++ [⟨6, seen⟩] }
       if s3.dbg.tapReq.isSome then s3.bump O.DBG_PORT_OVERRUNS 1 else s3.debugIssue true (slice 0 16 (req ++ fill 16 0)))

/-- Instructions of *Table 16.3* that control the pads. -/
def tapPads (op : Nat) : Bool := [0x00, 0x08, 0x09, 0x0A, 0x0B].contains op

/-- Whether such an instruction may: in WAIT_SYNC, in HALTED or at level 2 (R423). -/
def State.tapMayDrive (s : State) : Bool :=
  s.reg O.CFG_CFG_STATE == 1 || s.reg O.CFG_CFG_STATE == 5 || s.reg O.DBG_DEBUG_LEVEL == 2

/-- TAP_INSTRUCTION: an instruction takes effect at Update-IR, acts as BYPASS where it is not listed, or is blocked (R422, R423). -/
def execTapInstruction (t : Nat) (opcode : BitVec 8) (s : State) : Host.Outcome State Fault Refusal :=
  let s1 := s.tickTo t
  let op := opcode.toNat
  let put := fun (s : State) (v : Nat) => { s with dbg := { s.dbg with tapIr := v } }
  .next
    (if tapPads op ∧ !s1.tapMayDrive then (put s1 0xFF).bump O.DBG_TAP_BLOCKED 1
     else put s1 (if tapPads op ∨ op = 0x01 ∨ op = 0x02 ∨ op = tapDbg then op else 0xFF))

/-- BREAK: a one-wire frame begins, and any frame in progress is abandoned. -/
def execBreak (t : Nat) (s : State) : Host.Outcome State Fault Refusal :=
  let s1 := (s.tickTo t).abandonFrame
  .next { s1 with dbg := { s1.dbg with owFrame := true } }

/-- ONE_WIRE_FRAME: the 136 bits of a frame have come: request bytes 0 to 15 and their CRC-8 (R425). A request outstanding from an
abandoned frame has gone unanswered for longer than 20 µs by then. -/
def execOneWireFrame (t : Nat) (frame : List Byte) (s : State) : Host.Outcome State Fault Refusal :=
  let s1 := s.tickTo t
  .next
    (if !s1.dbg.owFrame ∨ frame.length ≠ 17 then s1
     else
       let s2 : State := match s1.dbg.owReq with
         | some (req, _) => s1.debugTimeout false req
         | none => s1
       let s3 : State := { s2 with dbg := { s2.dbg with owFrame := false } }
       let req := frame.take 16
       if byteAt frame 16 = crc8 req then s3.debugIssue false req
       else (s3.bump O.DBG_OW_ERRORS 1).sendOneWire (debugReply .aborted []))

end Sys2Proof.Machine
end

