-- ==== Sys2Proof/Machine/Ejection.lean ====
section
/-! DEFINITION. Delivery at a destination stop (R335, R347, R348): what the stop answers itself, and what the block behind the port does
with a request. -/

namespace Sys2Proof.Machine

/-- As whom a ring stop's request reaches an object's alias: the controllers have their own stops, the debug ports use others. -/
def aliasUser (src : Nat) : Requester :=
  if src = 93 then .firmware .a else if src = 94 then .firmware .b else .debugPort

/-- The ledger of requests as it stood in an earlier state: a request that crosses the network is counted there when it is accepted and
when its response arrives. -/
def State.keepRequests (s : State) (before : State) : State :=
  (List.range 5).foldl (fun (s : State) k => s.setReg (ledTerm 0x105B k) (before.reg (ledTerm 0x105B k))) s

/-- A request has its effect at its target: status, data and the state it leaves; `none` while a line of memory waits. -/
def State.netPerform (s : State) (p : NetPkt) : Option (Status × List Byte × State) :=
  if p.addr / 2 ^ 40 ≤ 0x3F then
    if p.kind = .read then
      match s.memReadLines (p.addr / 64 * 64) ((p.addr % 64 + p.n + 63) / 64) with
      | (some (st, d), s1) => some (st, if st = .okay then slice (p.addr % 64) p.n d else [], s1)
      | (none, _) => none
    else
      let (st, s1) := s.memWriteBytes p.addr p.data (p.data.length / 64 + 2)
      some (st, [], s1)
  else
    let o := objOf (p.addr % 2 ^ 40 / 0x4000) (p.addr % 0x4000 / 0x40)
    let s1 :=
      if p.kind = .read then s.aliasLoad (aliasUser p.src) o (p.addr % 0x40) p.n
      else s.aliasStore (aliasUser p.src) o (p.addr % 0x40) p.data
    some (s1.reply.status, s1.reply.data, s1.keepRequests s)

/-- Flits pass from the ejection buffer of a stop to its tether. -/
def State.ejectFlits (s : State) (rs n : Nat) : State := (s.bump (O.RS_FLITS rs) n).countEvent 2 rs 0 n

/-- A block takes a request over its tether: its flits are free, and the pool may grant. -/
def State.takeFlits (s : State) (p : NetPkt) : State := ((s.freeFlits p).ejectFlits p.dst p.flits).grantPool p.dst 64

/-- A block holds a request that it has taken, since an instant. -/
def State.holdPkt (s : State) (p : NetPkt) (since : Nat) : State :=
  let x := s.stop p.dst
  s.setStop p.dst { x with held := x.held ++ [(p, since)] }

/-- A block acts on a request that it has taken, and answers; it holds it while a line of memory waits. -/
def State.answerPkt (s : State) (p : NetPkt) (since : Nat) : State :=
  match s.netPerform p with
  | some (st, d, s1) => (s1.respond p st false d).checkFenced p.dst
  | none => s.holdPkt p since

/-- What the destination stop answers of itself, by the first case of R347 that holds; DECODE where the port is bound to no target. -/
def State.ejectAnswer (s : State) (p : NetPkt) : Option Status :=
  let fence := s.reg (O.RS_FENCE_STATE p.dst)
  if (s.reg (O.RS_ISOLATED_PORTS p.dst)).testBit p.dport then some .isolated
  else if fence = 2 ∨ (fence = 1 ∧ p.cls = 2) then some .fenced
  else if (portDomain p.dst p.dport).any fun d => !s.domainRunning d then some .gated
  else if s.binding p.dst p.dport = 0xFF then some .decode
  else none

/-- Take a packet off the network, or out of the buffer at its tether. -/
def State.claimPkt (s : State) (p : NetPkt) : State :=
  let x := s.stop p.dst
  (s.setStop p.dst { x with buf := x.buf.filter fun q => q.1 != p }).dropPkt p

/-- PACKET_EJECTION: the oldest request of a class from stop `src` meets stop `dst`: the stop answers it, or the block behind its port does
as `how` says; with `answer`, the block answers the oldest such request that it holds. -/
def execPacketEjection (t : Nat) (src dst : Fin 98) (cls : Fin 3) (how : Tether) (s : State) : Host.Outcome State Fault Refusal :=
  let s1 := (s.tickTo t).netTurn
  let x := s1.stop dst.val
  let mine := fun (p : NetPkt) => p.request && p.src == src.val && p.cls == cls.val
  let next : Option NetPkt := match x.buf.find? fun q => mine q.1 with
    | some q => some q.1
    | none => s1.findPkt src.val dst.val mine
  .next
    (if how = .answer then
       match x.held.find? fun q => mine q.1 with
       | none => s1
       | some q => (s1.setStop dst.val { x with held := x.held.erase q }).answerPkt q.1 q.2
     else
       match next with
       | none => s1
       | some p =>
         match s1.ejectAnswer p with
         | some .decode =>
           ((((s1.claimPkt p).freeFlits p).bump O.DEV_DECODE_COUNT 1).respond p .decode true []).grantPool p.dst 64 |>.checkFenced p.dst
         | some st => ((s1.claimPkt p).stopAnswers p st).checkFenced p.dst
         | none =>
           match how with
           | .stall =>
             if x.buf.any (fun q => q.1 == p) then s1
             else (s1.setStop dst.val { x with buf := x.buf ++ [(p, s1.now)] }).dropPkt p
           | .hold => ((s1.claimPkt p).takeFlits p).holdPkt p s1.now
           | _ => ((s1.claimPkt p).takeFlits p).answerPkt p s1.now)

end Sys2Proof.Machine
end

