-- ==== Sys2Proof/Machine/FabricPorts.lean ====
section
/-! DEFINITION. Commands at the fabric's ports (R295 to R306): a port acts at the edges of its clock on what logic presents at its input
positions; and the probe outputs. -/

namespace Sys2Proof.Machine

/-! ### Block memories (R295 to R298) -/

/-- The inputs of a port of a block memory, whose list begins at an input position: ADDR, DIN, WE, EN, ORST (R292, R295). -/
def State.bmPort (s : State) (q c r p : Nat) : BmPort :=
  { addr := s.portIn q c r p 15, din := s.portIn q c r (p + 15) 36, we := s.portIn q c r (p + 51) 4, en := s.portIn q c r (p + 55) 1 == 1,
    orst := s.portIn q c r (p + 56) 1 == 1 }

/-- Bits of words of a memory, by word and bit of 80, have been upset. -/
def State.bmUpsets (s : State) (m : Nat) (l : List (Nat × Nat)) : State :=
  l.foldl
    (fun (s : State) (w, b) =>
      let key := m * 512 + w % 512
      let u := Tbl.get 0 s.bramUpset key
      { s with bramUpset := Tbl.set 0 s.bramUpset key (setBit u (b % 80) (!u.testBit (b % 80))) }) s

/-- BLOCK_MEMORY_ACCESS: a memory at an instant that is an edge of the clock of a port, or of both. `upsets` names bits that have been upset
since. -/
def execBlockMemoryAccess (t : Nat) (m : Fin 2304) (upsets : List (Nat × Nat)) (s : State) : Host.Outcome State Fault Refusal :=
  let s1 := (s.tickTo t).fabricPre.bmUpsets m.val upsets
  let k := m.val
  let q := k / 576
  let c := memCols.getD (k / 48 % 12) 12
  let r := 4 * (k % 48)
  let clkB := clockOf (bits (s1.memCfg k) 63 59) q c r
  .next (s1.bmAccess k (s1.bmPort q c r 0) (s1.bmPort q c r 57) (s1.tileEdgeNow q c r) (s1.edgeNow (clkB, (s1.tileClock q c r).2) q c r))

/-! ### Fabric lane ports (R299, R300) -/

/-- The word that logic presents at a lane port, where VALID is 1 (R299). -/
def State.laneInput (s : State) (q c r : Nat) : Option FabricWord :=
  let n := fun (p w : Nat) => s.portIn q c r p w
  let b := fun (p : Nat) => n p 1 == 1
  if b 256 then
    some { word := n 0 64, a0 := n 64 48, p0 := n 112 48, a1 := n 160 48, p1 := n 208 48, mark := b 257, stop := b 258, half := b 259 }
  else none

/-- FABRIC_LANE_WORD: lane port i of quadrant q at an edge of its clock, at which it takes a word on VALID and READY; and in a word clock,
in which its buffer moves a word on. -/
def execFabricLaneWord (t : Nat) (q : Fin 4) (i : Fin 64) (s : State) : Host.Outcome State Fault Refusal :=
  let s1 := (s.tickTo t).fabricPre
  let k := 64 * q.val + i.val
  let x := s1.flPort k
  let (col, row) := flPlace i.val
  .next
    (match s1.laneInput q.val col row with
     | some v =>
       if s1.tileEdgeNow q.val col row ∧ x.buf.length < 8 then
         ((s1.setFlBuf k (x.buf ++ [(v, s1.now / Config.wordUnits)]) x.movedAt).bump (O.FP_FL_WORDS q.val) 1).flMove k
       else s1.flMove k
     | none => s1.flMove k)

/-! ### Receive ports (R302) -/

/-- RECEIVE_PORT_WORD: the oldest word of the receiver comes to the port of its channel, or is dropped where 16 wait. -/
def execReceivePortWord (t : Nat) (ch : Fin 144) (s : State) : Host.Outcome State Fault Refusal :=
  let s1 := (s.tickTo t).fabricPre
  let c := ch.val
  let q := c / 36
  let buf := Tbl.get [] s1.rxBuf c
  let x := s1.ser c
  .next
    (match x.rxWords with
     | e :: rest =>
       let s2 := s1.setSer c { x with rxWords := rest }
       if 16 ≤ buf.length then (s2.bump (O.FP_RXP_DROPS q) 1).setFlag (O.FP_RXP_DROPPED q) 0 (O.FP_RXP_DROPPED_COUNT q) 1
       else { s2 with rxBuf := Tbl.set [] s2.rxBuf c (buf ++ [e]) }
     | [] => s1)

/-! ### Queue ports (R303, R304) -/

/-- A queue port takes a granule: it takes none for 4 ns, and logic finds what it showed up to the present instant. -/
def State.qportBusy (s : State) (u : Nat) (gran : Option (List Byte)) : State :=
  let p := s.qport u
  s.setQport u { p with readyAt := s.now + 4 * Config.nsUnits, wasAt := s.now, wasReady := true, wasGran := gran }

/-- QUEUE_PORT_OFFER: an edge of the clock of producer port k of quadrant q with PVALID and PREADY both 1: PGRAN is offered (R303). -/
def execQueuePortOffer (t : Nat) (q : Fin 4) (k : Fin 2) (s : State) : Host.Outcome State Fault Refusal :=
  let s1 := (s.tickTo t).fabricPre
  let u := 2 * q.val + k.val
  let r := 156 + 9 * k.val
  let b := s1.boundTo false q.val k.val
  .next
    (if !s1.tileEdgeNow q.val 48 r ∨ !(s1.qport u).ready s1.now ∨ s1.portIn q.val 48 r 256 1 = 0 then s1
     else
       let s2 := (s1.bump (O.FP_QP_OFFERS q.val) 1).qportBusy u none
       let p := s2.qport u
       if b = 0xFFFF then (s2.setQport u { p with offers := p.offers ++ [some Status.decode] }).bump (O.FP_QP_NOT_OK q.val) 1
       else (s2.setQport u { p with offers := p.offers ++ [none] }).offer b (Producer.fabric.who u) (leBytes 32 (s1.portIn q.val 48 r 0 256)))

/-- QUEUE_PORT_TAKE: an edge of the clock of consumer port k of quadrant q with CVALID and CTAKE both 1 (R304); the reply shows the
granule. -/
def execQueuePortTake (t : Nat) (q : Fin 4) (k : Fin 2) (s : State) : Host.Outcome State Fault Refusal :=
  let s1 := (s.tickTo t).fabricPre
  let u := 8 + 2 * q.val + k.val
  let r := 156 + 9 * k.val
  let b := s1.boundTo true q.val k.val
  .next
    (if !s1.tileEdgeNow q.val 48 r ∨ s1.portIn q.val 48 r 257 1 = 0 then s1
     else
       match s1.presented u b s1.now with
       | none => s1
       | some g =>
         { ((((s1.qportBusy u (some g)).consume b 1).queueMoved b).bump (O.FP_QC_TAKEN q.val) 1) with reply := ⟨.okay, g⟩ })

/-! ### Pads of the general-purpose I/O (R305, R320) -/

/-- Whether a pad's output driver is enabled: by DIR, and OE as its port found it, once the pad is released. -/
def State.padEnabled (s : State) (g : Nat) : Bool :=
  let dir := bits (s.reg (O.GPIO_CONFIG g)) 10 9
  (s.reg O.CFG_RELEASED).testBit (8 + g / 12) && s.shedOn (quadStop (g / 12) 19) && !s.clkLost && (dir == 1 || (dir == 2 && (Tbl.get ({} : GpioPad) s.gpios g).oe))

/-- What a pad drives, TXD[0] first at RATIO bits per cycle of its port's clock; `none` is high impedance, where it is not enabled and where
an open drain sends 1. -/
def State.padOut (s : State) (g : Nat) : Option Bool :=
  let x := Tbl.get ({} : GpioPad) s.gpios g
  let cfg := s.reg (O.GPIO_CONFIG g)
  let khz := match (s.tileClock (g / 12) 48 (176 + g % 12)).1 with
    | some d => s.fabricKhz d
    | none => 0
  let i := min (padRatio cfg - 1) ((s.fabAt - x.at_) * khz * padRatio cfg / (2 * 10 ^ 9))
  let b := x.txd.testBit i
  if !s.padEnabled g ∨ (cfg.testBit 18 ∧ b) then none else some b

/-! ### Probes (R306) -/

/-- A probe point of a quadrant in the present word clock, by class and index of *Table 10.12*. -/
def State.probePoint (s : State) (q cls i : Nat) : Bool :=
  let seen := Tbl.get 0 s.pulses (q * 2 ^ 16 + cls * 2 ^ 12 + i) == s.now / Config.wordUnits + 1
  match cls with
  | 1 => s.portIn q 48 188 i 1 == 1
  | 2 =>
    let c := Tbl.get ({} : Chan) s.chans (36 * q + i / 8)
    (match i % 8 with
     | 0 => c.drvLevel
     | 1 => c.denLevel
     | 5 => c.cmhS
     | 6 => c.cmlS
     | _ => seen)
  | 3 => if i % 4 = 0 then s.reg (O.ENG_STATE (128 * q + i / 4)) == 4 else seen
  | 4 => (s.haltValue i).testBit 0
  | 5 => if i = 0 then s.now % Config.tickUnits / Config.wordUnits == 0 else if i = 1 then seen else s.now / Config.wordUnits % 2 == 1
  | _ => false

/-- The level of PROBE(p): the point that SOURCE selects, low until RELEASE_GPIO of its quadrant (R306, R320). -/
def State.probeOut (s : State) (p : Nat) : Bool :=
  let v := s.reg (O.PROBE_SOURCE p)
  (s.reg O.CFG_RELEASED).testBit (8 + p / 2) && s.shedOn (quadStop (p / 2) 19) && !s.clkLost && s.probePoint (p / 2) (v / 2 ^ 12) (v % 2 ^ 12)

end Sys2Proof.Machine
end

