-- ==== Sys2Proof/Machine/Dispatch.lean ====
section
/-! DEFINITION. One arm per command: a direct call of its meaning, or a refusal by name. -/

namespace Sys2Proof.Machine

def exec (i : Instr) (s : State) : Host.Outcome State Fault Refusal :=
  match i with
  | .registerWrite t r idx sub off bytes => Sys2Proof.Machine.execRegisterWrite t r idx sub off bytes s
  | .read t slot idx sub ty => Sys2Proof.Machine.execRead t slot idx sub ty s
  | .write t slot idx sub ty bytes => Sys2Proof.Machine.execWrite t slot idx sub ty bytes s
  | .maskWrite t slot idx sub ty val mask => Sys2Proof.Machine.execMaskWrite t slot idx sub ty val mask s
  | .segOpen t r idx sub total => Sys2Proof.Machine.execSegOpen t r idx sub total s
  | .segWrite t r idx sub off bytes => Sys2Proof.Machine.execSegWrite t r idx sub off bytes s
  | .segRead t r idx sub off count => Sys2Proof.Machine.execSegRead t r idx sub off count s
  | .segCommit t r idx sub crc tt => Sys2Proof.Machine.execSegCommit t r idx sub crc tt s
  | .segAbort t r idx sub => Sys2Proof.Machine.execSegAbort t r idx sub s
  | .dataStore t c idx sub v => Sys2Proof.Machine.execDataStore t c idx sub v s
  | .segTransferTimeout t idx sub => Sys2Proof.Machine.execSegTransferTimeout t idx sub s
  | .streamOpen t slot queue dir credit => Sys2Proof.Machine.execStreamOpen t slot queue dir credit s
  | .streamClose t slot stream => Sys2Proof.Machine.execStreamClose t slot stream s
  | .ping t slot => Sys2Proof.Machine.execPing t slot s
  | .hello t port peer d => Sys2Proof.Machine.execHello t port peer d s
  | .proof t port peer d => Sys2Proof.Machine.execProof t port peer d s
  | .close t w => Sys2Proof.Machine.execClose t w s
  | .sessionTimeout t slot => Sys2Proof.Machine.execSessionTimeout t slot s
  | .requestDatagram t port peer d late => Sys2Proof.Machine.execRequestDatagram t port peer d late s
  | .streamData t port peer d => Sys2Proof.Machine.execStreamData t port peer d s
  | .streamAck t port peer d => Sys2Proof.Machine.execStreamAck t port peer d s
  | .streamRto t stream => Sys2Proof.Machine.execStreamRto t stream s
  | .claim t w => Sys2Proof.Machine.execClaim t w s
  | .offer t r v => Sys2Proof.Machine.execOffer t r v s
  | .accept t r v => Sys2Proof.Machine.execAccept t r v s
  | .offerTimeout t => Sys2Proof.Machine.execOfferTimeout t s
  | .take t r v heartbeat => Sys2Proof.Machine.execTake t r v heartbeat s
  | .handoverRequest t r v => Sys2Proof.Machine.execHandoverRequest t r v s
  | .heartbeat t r x v => Sys2Proof.Machine.execHeartbeat t r x v s
  | .heartbeatWindowEnd t => Sys2Proof.Machine.execHeartbeatWindowEnd t s
  | .firmwareImageCommit t r x crc tt => Sys2Proof.Machine.execFirmwareImageCommit t r x crc tt s
  | .keyCommit t r k crc tt => Sys2Proof.Machine.execKeyCommit t r k crc tt s
  | .ledgerSnap t r l v => Sys2Proof.Machine.execLedgerSnap t r l v s
  | .markerFrameSearch t falls => Sys2Proof.Machine.execMarkerFrameSearch t falls s
  | .markerFrameSlot t falls => Sys2Proof.Machine.execMarkerFrameSlot t falls s
  | .ttResync t r v => Sys2Proof.Machine.execTtResync t r v s
  | .scheduledArm t r a v => Sys2Proof.Machine.execScheduledArm t r a v s
  | .scheduledCancel t r a v => Sys2Proof.Machine.execScheduledCancel t r a v s
  | .ptpSync t k master offset delay interval => Sys2Proof.Machine.execPtpSync t k master offset delay interval s
  | .ptpSyncLoss t k => Sys2Proof.Machine.execPtpSyncLoss t k s
  | .holdoverLimit t k => Sys2Proof.Machine.execHoldoverLimit t k s
  | .switchArm t r v => Sys2Proof.Machine.execSwitchArm t r v s
  | .switchCancel t r v => Sys2Proof.Machine.execSwitchCancel t r v s
  | .activeDomainSwitch t => Sys2Proof.Machine.execActiveDomainSwitch t s
  | .slewEnd t => Sys2Proof.Machine.execSlewEnd t s
  | .arm t r u v => Sys2Proof.Machine.execArm t r u v s
  | .cancel t r u v => Sys2Proof.Machine.execCancel t r u v s
  | .triggerPulse t u => Sys2Proof.Machine.execTriggerPulse t u s
  | .triggerModeWrite t r u v => Sys2Proof.Machine.execTriggerModeWrite t r u v s
  | .triggerInputEdge t u rising => Sys2Proof.Machine.execTriggerInputEdge t u rising s
  | .deadtimeEnd t u => Sys2Proof.Machine.execDeadtimeEnd t u s
  | .mapCommit t r b crc tt => Sys2Proof.Machine.execMapCommit t r b crc tt s
  | .bankSwitchArm t r b v => Sys2Proof.Machine.execBankSwitchArm t r b v s
  | .bankSwitchCancel t r b v => Sys2Proof.Machine.execBankSwitchCancel t r b v s
  | .bankSwitch t b => Sys2Proof.Machine.execBankSwitch t b s
  | .fifoOutputSwitch t ch => Sys2Proof.Machine.execFifoOutputSwitch t ch s
  | .timingSetsCommit t ch w => Sys2Proof.Machine.execTimingSetsCommit t ch w s
  | .quadScheduleCommit t n w => Sys2Proof.Machine.execQuadScheduleCommit t n w s
  | .vectorBegin t ch => Sys2Proof.Machine.execVectorBegin t ch s
  | .patternStart t ch => Sys2Proof.Machine.execPatternStart t ch s
  | .strobe t ch look => Sys2Proof.Machine.execStrobe t ch look s
  | .channelStop t ch => Sys2Proof.Machine.execChannelStop t ch s
  | .trimWrite t r ch v => Sys2Proof.Machine.execTrimWrite t r ch v s
  | .parkCodeWrite t r ch v => Sys2Proof.Machine.execParkCodeWrite t r ch v s
  | .modeChange t r ch v => Sys2Proof.Machine.execModeChange t r ch v s
  | .deskewWrite t r ch pair v => Sys2Proof.Machine.execDeskewWrite t r ch pair v s
  | .bgcalMeasurement t n steps => Sys2Proof.Machine.execBgcalMeasurement t n steps s
  | .next t e => Sys2Proof.Machine.execNext t e s
  | .jmp t e => Sys2Proof.Machine.execJmp t e s
  | .call t e => Sys2Proof.Machine.execCall t e s
  | .ret t e => Sys2Proof.Machine.execRet t e s
  | .loop t e => Sys2Proof.Machine.execLoop t e s
  | .ldlci t e => Sys2Proof.Machine.execLdlci t e s
  | .ldlc t e => Sys2Proof.Machine.execLdlc t e s
  | .waittt t e => Sys2Proof.Machine.execWaittt t e s
  | .waitttRetire t e => Sys2Proof.Machine.execWaitttRetire t e s
  | .waitc t e => Sys2Proof.Machine.execWaitc t e s
  | .waitcRetire t e => Sys2Proof.Machine.execWaitcRetire t e s
  | .stop t e => Sys2Proof.Machine.execStop t e s
  | .site t e => Sys2Proof.Machine.execSite t e s
  | .scrld t e => Sys2Proof.Machine.execScrld t e s
  | .hclaim t e => Sys2Proof.Machine.execHclaim t e s
  | .claimDecision t q => Sys2Proof.Machine.execClaimDecision t q s
  | .hrelease t e => Sys2Proof.Machine.execHrelease t e s
  | .releaseDisarm t e => Sys2Proof.Machine.execReleaseDisarm t e s
  | .lds t e => Sys2Proof.Machine.execLds t e s
  | .sts t e => Sys2Proof.Machine.execSts t e s
  | .mov t e => Sys2Proof.Machine.execMov t e s
  | .add t e => Sys2Proof.Machine.execAdd t e s
  | .sub t e => Sys2Proof.Machine.execSub t e s
  | .and t e => Sys2Proof.Machine.execAnd t e s
  | .or t e => Sys2Proof.Machine.execOr t e s
  | .xor t e => Sys2Proof.Machine.execXor t e s
  | .shl t e => Sys2Proof.Machine.execShl t e s
  | .shr t e => Sys2Proof.Machine.execShr t e s
  | .cmp t e => Sys2Proof.Machine.execCmp t e s
  | .tst t e => Sys2Proof.Machine.execTst t e s
  | .movi t e => Sys2Proof.Machine.execMovi t e s
  | .addi t e => Sys2Proof.Machine.execAddi t e s
  | .subi t e => Sys2Proof.Machine.execSubi t e s
  | .andi t e => Sys2Proof.Machine.execAndi t e s
  | .ori t e => Sys2Proof.Machine.execOri t e s
  | .xori t e => Sys2Proof.Machine.execXori t e s
  | .shli t e => Sys2Proof.Machine.execShli t e s
  | .shri t e => Sys2Proof.Machine.execShri t e s
  | .cmpi t e => Sys2Proof.Machine.execCmpi t e s
  | .tsti t e => Sys2Proof.Machine.execTsti t e s
  | .ldk0 t e => Sys2Proof.Machine.execLdk0 t e s
  | .ldk1 t e => Sys2Proof.Machine.execLdk1 t e s
  | .ldk2 t e => Sys2Proof.Machine.execLdk2 t e s
  | .refreshTimer t e => Sys2Proof.Machine.execRefreshTimer t e s
  | .startArm t r e v => Sys2Proof.Machine.execStartArm t r e v s
  | .startCancel t r e v => Sys2Proof.Machine.execStartCancel t r e v s
  | .engineStart t e => Sys2Proof.Machine.execEngineStart t e s
  | .stopReq t r e v => Sys2Proof.Machine.execStopReq t r e v s
  | .programLoad t e w => Sys2Proof.Machine.execProgramLoad t e w s
  | .loadComplete t e => Sys2Proof.Machine.execLoadComplete t e s
  | .failedMark t r e v => Sys2Proof.Machine.execFailedMark t r e v s
  | .feedSchedCommit t c w => Sys2Proof.Machine.execFeedSchedCommit t c w s
  | .mac t e => Sys2Proof.Machine.execMac t e s
  | .mmx t e => Sys2Proof.Machine.execMmx t e s
  | .mmclr t e => Sys2Proof.Machine.execMmclr t e s
  | .accrd t e => Sys2Proof.Machine.execAccrd t e s
  | .mmrd t e => Sys2Proof.Machine.execMmrd t e s
  | .accset t e => Sys2Proof.Machine.execAccset t e s
  | .ldop t e => Sys2Proof.Machine.execLdop t e s
  | .switch t e => Sys2Proof.Machine.execSwitch t e s
  | .resrd t e => Sys2Proof.Machine.execResrd t e s
  | .stepResult t ch => Sys2Proof.Machine.execStepResult t ch s
  | .dspStateCommit t r e crc tt => Sys2Proof.Machine.execDspStateCommit t r e crc tt s
  | .table t w => Sys2Proof.Machine.execTable t w s
  | .siteMask t k w => Sys2Proof.Machine.execSiteMask t k w s
  | .forceRelease t r k v => Sys2Proof.Machine.execForceRelease t r k v s
  | .stickyClear t k u => Sys2Proof.Machine.execStickyClear t k u s
  | .slotWindowEnd t k u => Sys2Proof.Machine.execSlotWindowEnd t k u s
  | .failsafeEntry t => Sys2Proof.Machine.execFailsafeEntry t s
  | .clearFailsafe t r k v => Sys2Proof.Machine.execClearFailsafe t r k v s
  | .sitesCommit t w => Sys2Proof.Machine.execSitesCommit t w s
  | .siteFailsClear t r v => Sys2Proof.Machine.execSiteFailsClear t r v s
  | .chanCfgCommit t r q crc tt => Sys2Proof.Machine.execChanCfgCommit t r q crc tt s
  | .wordRecordClose t q g => Sys2Proof.Machine.execWordRecordClose t q g s
  | .runIdleExpiry t q src => Sys2Proof.Machine.execRunIdleExpiry t q src s
  | .fcFlush t r q v => Sys2Proof.Machine.execFcFlush t r q v s
  | .runEnWrite t r q v => Sys2Proof.Machine.execRunEnWrite t r q v s
  | .recordOffer t q => Sys2Proof.Machine.execRecordOffer t q s
  | .descCommit t r q crc tt => Sys2Proof.Machine.execDescCommit t r q crc tt s
  | .enable t r q v => Sys2Proof.Machine.execEnable t r q v s
  | .drainComplete t q => Sys2Proof.Machine.execDrainComplete t q s
  | .producerOffer t q gran => Sys2Proof.Machine.execProducerOffer t q gran s
  | .ringWriteComplete t q num => Sys2Proof.Machine.execRingWriteComplete t q num s
  | .prodDoorbell t r q n => Sys2Proof.Machine.execProdDoorbell t r q n s
  | .consDoorbell t r q n => Sys2Proof.Machine.execConsDoorbell t r q n s
  | .deadlineArm t r q v => Sys2Proof.Machine.execDeadlineArm t r q v s
  | .deadlineCancel t r q v => Sys2Proof.Machine.execDeadlineCancel t r q v s
  | .queueDeadline t q => Sys2Proof.Machine.execQueueDeadline t q s
  | .deadline t q => Sys2Proof.Machine.execDeadline t q s
  | .queueFlush t r q v => Sys2Proof.Machine.execQueueFlush t r q v s
  | .repairPresentation t q => Sys2Proof.Machine.execRepairPresentation t q s
  | .repairUpdate t q => Sys2Proof.Machine.execRepairUpdate t q s
  | .contextsCommit t r q crc tt => Sys2Proof.Machine.execContextsCommit t r q crc tt s
  | .repairClear t r q v => Sys2Proof.Machine.execRepairClear t r q v s
  | .report t r q v => Sys2Proof.Machine.execReport t r q v s
  | .serEn t r ch v => Sys2Proof.Machine.execSerEn t r ch v s
  | .serialFill t ch => Sys2Proof.Machine.execSerialFill t ch s
  | .bitslip t r ch v => Sys2Proof.Machine.execBitslip t r ch v s
  | .alignment t ch line => Sys2Proof.Machine.execAlignment t ch line s
  | .cdrLock t ch => Sys2Proof.Machine.execCdrLock t ch s
  | .lockLoss t ch => Sys2Proof.Machine.execLockLoss t ch s
  | .rxAdaptDone t ch v => Sys2Proof.Machine.execRxAdaptDone t ch v s
  | .prbsWrite t r ch v => Sys2Proof.Machine.execPrbsWrite t r ch v s
  | .prbsLock t ch line => Sys2Proof.Machine.execPrbsLock t ch line s
  | .errClear t r ch v => Sys2Proof.Machine.execErrClear t r ch v s
  | .eyeStart t r ch v => Sys2Proof.Machine.execEyeStart t r ch v s
  | .eyePointEnd t ch errors => Sys2Proof.Machine.execEyePointEnd t ch errors s
  | .yardEnable t r p v => Sys2Proof.Machine.execYardEnable t r p v s
  | .train t p lane frame adapted => Sys2Proof.Machine.execTrain t p lane frame adapted s
  | .trainingLimit t p => Sys2Proof.Machine.execTrainingLimit t p s
  | .linkUp t p => Sys2Proof.Machine.execLinkUp t p s
  | .yardFrame t p frame => Sys2Proof.Machine.execYardFrame t p frame s
  | .data t p => Sys2Proof.Machine.execData t p s
  | .credit t p => Sys2Proof.Machine.execCredit t p s
  | .rekey t p => Sys2Proof.Machine.execRekey t p s
  | .rekeyAck t p => Sys2Proof.Machine.execRekeyAck t p s
  | .tag t p => Sys2Proof.Machine.execTag t p s
  | .nak t p => Sys2Proof.Machine.execNak t p s
  | .replayTimeout t p => Sys2Proof.Machine.execReplayTimeout t p s
  | .keyRotate t r p v => Sys2Proof.Machine.execKeyRotate t r p v s
  | .linkDown t p cause => Sys2Proof.Machine.execLinkDown t p cause s
  | .autoRetrain t p => Sys2Proof.Machine.execAutoRetrain t p s
  | .vcCfgCommit t r p crc tt => Sys2Proof.Machine.execVcCfgCommit t r p crc tt s
  | .linkKeyCommit t r p slot crc tt => Sys2Proof.Machine.execLinkKeyCommit t r p slot crc tt s
  | .yardWake t p frames => Sys2Proof.Machine.execYardWake t p frames s
  | .managementFrame t c frame => Sys2Proof.Machine.execManagementFrame t c frame s
  | .managementWake t c frame => Sys2Proof.Machine.execManagementWake t c frame s
  | .phyMode t r c v => Sys2Proof.Machine.execPhyMode t r c v s
  | .mgtLinkChange t c up speed => Sys2Proof.Machine.execMgtLinkChange t c up speed s
  | .fabricLaneWord t q n => Sys2Proof.Machine.execFabricLaneWord t q n s
  | .receivePortWord t ch => Sys2Proof.Machine.execReceivePortWord t ch s
  | .queuePortOffer t q k => Sys2Proof.Machine.execQueuePortOffer t q k s
  | .queuePortTake t q k => Sys2Proof.Machine.execQueuePortTake t q k s
  | .queuePortBind t r q consumer k v => Sys2Proof.Machine.execQueuePortBind t r q consumer k v s
  | .source t r p v => Sys2Proof.Machine.execSource t r p v s
  | .idelay t r g v => Sys2Proof.Machine.execIdelay t r g v s
  | .sync t bus => Sys2Proof.Machine.execSync t bus s
  | .header t bus => Sys2Proof.Machine.execHeader t bus s
  | .locate t bus => Sys2Proof.Machine.execLocate t bus s
  | .writeFrames t bus => Sys2Proof.Machine.execWriteFrames t bus s
  | .repeat t bus => Sys2Proof.Machine.execRepeat t bus s
  | .zwrite t bus => Sys2Proof.Machine.execZwrite t bus s
  | .crc t bus => Sys2Proof.Machine.execCrc t bus s
  | .startup t bus => Sys2Proof.Machine.execStartup t bus s
  | .fwload t bus => Sys2Proof.Machine.execFwload t bus s
  | .seal t bus => Sys2Proof.Machine.execSeal t bus s
  | .nop t bus => Sys2Proof.Machine.execNop t bus s
  | .configClearDone t => Sys2Proof.Machine.execConfigClearDone t s
  | .waitLock t => Sys2Proof.Machine.execWaitLock t s
  | .waitLockTimeout t => Sys2Proof.Machine.execWaitLockTimeout t s
  | .waitTime t => Sys2Proof.Machine.execWaitTime t s
  | .releaseGsr t => Sys2Proof.Machine.execReleaseGsr t s
  | .enableWrites t => Sys2Proof.Machine.execEnableWrites t s
  | .releaseGpio t => Sys2Proof.Machine.execReleaseGpio t s
  | .releaseOutputs t => Sys2Proof.Machine.execReleaseOutputs t s
  | .startMc t => Sys2Proof.Machine.execStartMc t s
  | .doneStep t => Sys2Proof.Machine.execDoneStep t s
  | .endStep t => Sys2Proof.Machine.execEndStep t s
  | .paddockStreamOpen t r p total => Sys2Proof.Machine.execPaddockStreamOpen t r p total s
  | .shadowDiscard t r p v => Sys2Proof.Machine.execShadowDiscard t r p v s
  | .swapArm t r p v => Sys2Proof.Machine.execSwapArm t r p v s
  | .swapCancel t r p v => Sys2Proof.Machine.execSwapCancel t r p v s
  | .paddockSwap t p => Sys2Proof.Machine.execPaddockSwap t p s
  | .holdEnd t p => Sys2Proof.Machine.execHoldEnd t p s
  | .auditStart t r v => Sys2Proof.Machine.execAuditStart t r v s
  | .auditComplete t changed => Sys2Proof.Machine.execAuditComplete t changed s
  | .autoAudit t => Sys2Proof.Machine.execAutoAudit t s
  | .networkRequest t src sport write addr n data => Sys2Proof.Machine.execNetworkRequest t src sport write addr n data s
  | .packetEjection t src dst cls how => Sys2Proof.Machine.execPacketEjection t src dst cls how s
  | .response t src dst => Sys2Proof.Machine.execResponse t src dst s
  | .rsvReq t src dst => Sys2Proof.Machine.execRsvReq t src dst s
  | .rsvGrant t src dst => Sys2Proof.Machine.execRsvGrant t src dst s
  | .creditReturn t r => Sys2Proof.Machine.execCreditReturn t r s
  | .turnCreditReturn t rs y cls => Sys2Proof.Machine.execTurnCreditReturn t rs y cls s
  | .standing t r crc tt => Sys2Proof.Machine.execStanding t r crc tt s
  | .fence t rs => Sys2Proof.Machine.execFence t rs s
  | .fenceNotice t src dst => Sys2Proof.Machine.execFenceNotice t src dst s
  | .fenceAck t src dst => Sys2Proof.Machine.execFenceAck t src dst s
  | .drainLimit t rs => Sys2Proof.Machine.execDrainLimit t rs s
  | .unfence t rs => Sys2Proof.Machine.execUnfence t rs s
  | .stallLimit t rs port => Sys2Proof.Machine.execStallLimit t rs port s
  | .respLimit t rs port => Sys2Proof.Machine.execRespLimit t rs port s
  | .reqLimit t rs => Sys2Proof.Machine.execReqLimit t rs s
  | .isolate t r rs v => Sys2Proof.Machine.execIsolate t r rs v s
  | .deisolate t r rs v => Sys2Proof.Machine.execDeisolate t r rs v s
  | .binding t r rs crc tt => Sys2Proof.Machine.execBinding t r rs crc tt s
  | .networkEvent t rs port => Sys2Proof.Machine.execNetworkEvent t rs port s
  | .memEnable t r v => Sys2Proof.Machine.execMemEnable t r v s
  | .trainingStepTimeout t m step => Sys2Proof.Machine.execTrainingStepTimeout t m step s
  | .memInitComplete t => Sys2Proof.Machine.execMemInitComplete t s
  | .retrainInterval t m drift => Sys2Proof.Machine.execRetrainInterval t m drift s
  | .zqLatch t m => Sys2Proof.Machine.execZqLatch t m s
  | .refreshInterval t m waiting => Sys2Proof.Machine.execRefreshInterval t m waiting s
  | .mr4Poll t m code => Sys2Proof.Machine.execMr4Poll t m code s
  | .memoryRead t addr lines lat wait => Sys2Proof.Machine.execMemoryRead t addr lines lat wait s
  | .partialWrite t addr bytes lat wait => Sys2Proof.Machine.execPartialWrite t addr bytes lat wait s
  | .fullLineWrite t addr bytes lat wait => Sys2Proof.Machine.execFullLineWrite t addr bytes lat wait s
  | .pageReencryption t addr bytes => Sys2Proof.Machine.execPageReencryption t addr bytes s
  | .pageReencryptionDone t page wait => Sys2Proof.Machine.execPageReencryptionDone t page wait s
  | .regions t r crc tt => Sys2Proof.Machine.execRegions t r crc tt s
  | .regionInitDone t e wait => Sys2Proof.Machine.execRegionInitDone t e wait s
  | .window t r crc tt => Sys2Proof.Machine.execWindow t r crc tt s
  | .key t r k crc tt => Sys2Proof.Machine.execKey t r k crc tt s
  | .retire t r k v => Sys2Proof.Machine.execRetire t r k v s
  | .retireFlushEnd t k => Sys2Proof.Machine.execRetireFlushEnd t k s
  | .walkStart t r => Sys2Proof.Machine.execWalkStart t r s
  | .walkAbort t r => Sys2Proof.Machine.execWalkAbort t r s
  | .walkPage t wait => Sys2Proof.Machine.execWalkPage t wait s
  | .streamsCommit t r q crc tt => Sys2Proof.Machine.execStreamsCommit t r q crc tt s
  | .portRewind t q k => Sys2Proof.Machine.execPortRewind t q k s
  | .grindLine t q k => Sys2Proof.Machine.execGrindLine t q k s
  | .streamWordTake t q k => Sys2Proof.Machine.execStreamWordTake t q k s
  | .startupMarch t => Sys2Proof.Machine.execStartupMarch t s
  | .startupMarchDone t x => Sys2Proof.Machine.execStartupMarchDone t x s
  | .marchStart t r v => Sys2Proof.Machine.execMarchStart t r v s
  | .marchDone t found first left => Sys2Proof.Machine.execMarchDone t found first left s
  | .scrubProgram t r crc tt => Sys2Proof.Machine.execScrubProgram t r crc tt s
  | .patrolUnit t ups errs busy wait => Sys2Proof.Machine.execPatrolUnit t ups errs busy wait s
  | .forcedSteal t data slot => Sys2Proof.Machine.execForcedSteal t data slot s
  | .scrubWaitEnd t => Sys2Proof.Machine.execScrubWaitEnd t s
  | .clkrefGate t count => Sys2Proof.Machine.execClkrefGate t count s
  | .missingEdge t => Sys2Proof.Machine.execMissingEdge t s
  | .clkrefStable t => Sys2Proof.Machine.execClkrefStable t s
  | .clkrefLoss t => Sys2Proof.Machine.execClkrefLoss t s
  | .clkrefRecovery t => Sys2Proof.Machine.execClkrefRecovery t s
  | .padRelease t r v => Sys2Proof.Machine.execPadRelease t r v s
  | .pllLock t n => Sys2Proof.Machine.execPllLock t n s
  | .pllUnlock t n => Sys2Proof.Machine.execPllUnlock t n s
  | .clkEnable t r crc tt => Sys2Proof.Machine.execClkEnable t r crc tt s
  | .src t r w v => Sys2Proof.Machine.execSrc t r w v s
  | .fpllSetting t r f divider v => Sys2Proof.Machine.execFpllSetting t r f divider v s
  | .shedReset t r sh v => Sys2Proof.Machine.execShedReset t r sh v s
  | .fenceStep t => Sys2Proof.Machine.execFenceStep t s
  | .unfenceStep t => Sys2Proof.Machine.execUnfenceStep t s
  | .setShed t => Sys2Proof.Machine.execSetShed t s
  | .shedWait t => Sys2Proof.Machine.execShedWait t s
  | .commit t => Sys2Proof.Machine.execCommit t s
  | .setState t => Sys2Proof.Machine.execSetState t s
  | .programEnd t => Sys2Proof.Machine.execProgramEnd t s
  | .shedProgramCommit t r k crc tt => Sys2Proof.Machine.execShedProgramCommit t r k crc tt s
  | .sleepArm t r v => Sys2Proof.Machine.execSleepArm t r v s
  | .sleepCancel t r v => Sys2Proof.Machine.execSleepCancel t r v s
  | .sleepEntry t => Sys2Proof.Machine.execSleepEntry t s
  | .wakeEvent t => Sys2Proof.Machine.execWakeEvent t s
  | .wakeRequest t r v => Sys2Proof.Machine.execWakeRequest t r v s
  | .runUser t r v => Sys2Proof.Machine.execRunUser t r v s
  | .challenge t r => Sys2Proof.Machine.execChallenge t r s
  | .responseWrite t r crc tt => Sys2Proof.Machine.execResponseWrite t r crc tt s
  | .debugLock t r v => Sys2Proof.Machine.execDebugLock t r v s
  | .debugRead t tap => Sys2Proof.Machine.execDebugRead t tap s
  | .debugWrite t tap => Sys2Proof.Machine.execDebugWrite t tap s
  | .debugStatus t tap => Sys2Proof.Machine.execDebugStatus t tap s
  | .debugReset t tap mode bad => Sys2Proof.Machine.execDebugReset t tap mode bad s
  | .dbg t req => Sys2Proof.Machine.execDbg t req s
  | .tapInstruction t opcode => Sys2Proof.Machine.execTapInstruction t opcode s
  | .break t => Sys2Proof.Machine.execBreak t s
  | .oneWireFrame t frame => Sys2Proof.Machine.execOneWireFrame t frame s
  | .haltReq t r x v => Sys2Proof.Machine.execHaltReq t r x v s
  | .resume t r x v => Sys2Proof.Machine.execResume t r x v s
  | .step t r x v => Sys2Proof.Machine.execStep t r x v s
  | .controllerHalt t x dpc gpr => Sys2Proof.Machine.execControllerHalt t x dpc gpr s
  | .comparatorMatch t x how addr first => Sys2Proof.Machine.execComparatorMatch t x how addr first s
  | .lockedSequenceLimit t x dpc gpr => Sys2Proof.Machine.execLockedSequenceLimit t x dpc gpr s
  | .kick t r x v => Sys2Proof.Machine.execKick t r x v s
  | .watchdogEnable t r x v => Sys2Proof.Machine.execWatchdogEnable t r x v s
  | .pretimeout t x => Sys2Proof.Machine.execPretimeout t x s
  | .watchdogExpiry t x => Sys2Proof.Machine.execWatchdogExpiry t x s
  | .engHalt t r v => Sys2Proof.Machine.execEngHalt t r v s
  | .engResume t r v => Sys2Proof.Machine.execEngResume t r v s
  | .engStep t r v => Sys2Proof.Machine.execEngStep t r v s
  | .traceRun t r v => Sys2Proof.Machine.execTraceRun t r v s
  | .traceRecord t x kind target => Sys2Proof.Machine.execTraceRecord t x kind target s
  | .traceDrainEnd t => Sys2Proof.Machine.execTraceDrainEnd t s
  | .traceUser t r v => Sys2Proof.Machine.execTraceUser t r v s
  | .counterClear t r k v => Sys2Proof.Machine.execCounterClear t r k v s
  | .snap t r v => Sys2Proof.Machine.execSnap t r v s
  | .powerOnReset t mode bad => Sys2Proof.Machine.execPowerOnReset t mode bad s
  | .pinReset t width mode bad => Sys2Proof.Machine.execPinReset t width mode bad s
  | .supplyOutOfRange t rail => Sys2Proof.Machine.execSupplyOutOfRange t rail s
  | .supplyBelowThreshold t rail => Sys2Proof.Machine.execSupplyBelowThreshold t rail s
  | .vddqLow t => Sys2Proof.Machine.execVddqLow t s
  | .tempRefresh t sensors sense => Sys2Proof.Machine.execTempRefresh t sensors sense s
  | .thermalTrip t => Sys2Proof.Machine.execThermalTrip t s
  | .thermRelease t r v => Sys2Proof.Machine.execThermRelease t r v s
  | .yardFrameSlot t p => Sys2Proof.Machine.execYardFrameSlot t p s
  | .selfRefreshExit t m => Sys2Proof.Machine.execSelfRefreshExit t m s
  | .shadowClearDone t p => Sys2Proof.Machine.execShadowClearDone t p s
  | .recordTimeout t slot rcd => Sys2Proof.Machine.execRecordTimeout t slot rcd s
  | .debugRequestTimeout t tap => Sys2Proof.Machine.execDebugRequestTimeout t tap s
  | .supplyInRange t rail => Sys2Proof.Machine.execSupplyInRange t rail s
  | .pulseEnd t u => Sys2Proof.Machine.execPulseEnd t u s
  | .driveEdge t ch den => Sys2Proof.Machine.execDriveEdge t ch den s
  | .modeChangeDone t ch => Sys2Proof.Machine.execModeChangeDone t ch s
  | .blockMemoryAccess t m upsets => Sys2Proof.Machine.execBlockMemoryAccess t m upsets s
  | .serialTransmitWord t ch => Sys2Proof.Machine.execSerialTransmitWord t ch s

end Sys2Proof.Machine
end

