-- ==== Sys2Proof/Machine/Step.lean ====
section
/-! DEFINITION. One step: the command at the front of the queue has its effect; on an empty queue one word clock passes and fabric logic runs
(DESIGN CHOICE). -/

namespace Sys2Proof.Machine

/-- A state without the front of its queue. -/
def State.popped (s : State) : State := { s with pending := s.pending.tail }

/-- The device idles for one word clock, in which fabric logic and the datapaths run. -/
def State.idle (s : State) : State := ((s.tickTo (s.now + Config.wordUnits)).fabricNow).dspPumpAll

/-- One step of the machine. -/
def step (s : State) : Host.Outcome State Fault Refusal :=
  match s.pending with
  | [] => .next s.idle
  | c :: _ => exec c s.popped

/-- A command put at the front of the queue. -/
def State.push (s : State) (c : Instr) : State := { s with pending := c :: s.pending }

/-- The command that a word spells put at the front of the queue; the state as it is where the word spells none. -/
def State.withFetchWord (s : State) (nbits w : Nat) : State :=
  match decodeTableWord nbits w with
  | some c => s.push c
  | none => s

end Sys2Proof.Machine
end

