-- ==== Sys2Proof/Safety.lean ====
section
/-! DEFINITION. What a well-kept state is, in the terms of the statements: tables and memories in canonical form, a queue of well-formed
commands. -/

namespace Sys2Proof.Machine

/-- Every addressed memory is in canonical form: addresses strictly rising, no byte that an unlisted address reads as. -/
def State.memWf (s : State) : Bool :=
  Memory.wf s.dram && Memory.wf s.feed && Memory.wf s.data && Memory.wf s.mcMem && Memory.wf s.spareMem

/-- The table of registers is in canonical form: an object that rests at its default is not listed. -/
def State.regsWf (s : State) : Bool := Tbl.wf regDefault s.regs

/-- The table of images is in canonical form. -/
def State.imagesWf (s : State) : Bool := Tbl.wf imageDefault s.images

/-- Every command that waits is well-formed. -/
def State.queueWf (s : State) : Bool := s.pending.all wellFormed

/-- A write of value v to object o by requester r passes every check of R459 before its owner's rules, and loses no bit (R7). -/
def State.writable (s : State) (r : Requester) (o v : Nat) : Bool :=
  s.checkAccess r o true == (.okay, false) && formStatus o v == .okay && (cardOf o).map (fun c => c.masked v) == some v

/-- A write, commit or segment command of object o by requester r completes with OKAY. -/
abbrev State.okays (s : State) (r : Requester) (o : Nat) : State := s.complete r o true .okay []

/-- A commit of object o by requester r finds a complete transfer of its own whose CRC matches, and whose bytes, with every reserved field
0, are `img` (R7, R42, R459). -/
def State.commitReady (s : State) (r : Requester) (o crc : Nat) (img : List Byte) : Bool :=
  s.checkAccess r o true == (.okay, false) && (cardOf o).any (fun c => c.ty == .domain && c.acc != .ro) &&
    (s.xfer o).any (fun x => x.opener == s.openerOf r && imageMasked o x.data == img && decide (x.total ≤ x.data.length) && crc32 x.data == crc)

/-- What a run keeps: the queue only shrinks from its front, and time does not run back. -/
def Advances (s u : State) : Prop := u.pending = s.pending.tail ∧ s.now ≤ u.now

/-- The commands that may store into an addressed memory: accesses to pattern memory and the walks over it; a word clock of an engine and
what loads or moves an engine's stores; ring writes into a Feed store; March and patrol; resets; and the requests that carry any of these
(segment commands, datagrams, network packets, the debug port). Every other command stores nothing. -/
def mayStore : Instr → Bool
  | .registerWrite .. | .segCommit .. | .dataStore .. | .requestDatagram .. | .next .. | .jmp .. | .call .. | .ret .. | .loop ..
  | .ldlci .. | .ldlc .. | .waittt .. | .waitttRetire .. | .waitc .. | .waitcRetire .. | .stop .. | .site .. | .scrld .. | .hclaim ..
  | .hrelease .. | .lds .. | .sts .. | .mov .. | .add .. | .sub .. | .and .. | .or .. | .xor .. | .shl .. | .shr .. | .cmp .. | .tst ..
  | .movi .. | .addi .. | .subi .. | .andi .. | .ori .. | .xori .. | .shli .. | .shri .. | .cmpi .. | .tsti .. | .ldk0 .. | .ldk1 ..
  | .ldk2 .. | .programLoad .. | .mac .. | .mmx .. | .mmclr .. | .accrd .. | .mmrd .. | .accset .. | .ldop .. | .switch .. | .resrd ..
  | .ringWriteComplete .. | .managementFrame .. | .packetEjection .. | .partialWrite .. | .fullLineWrite .. | .pageReencryption ..
  | .pageReencryptionDone .. | .regions .. | .regionInitDone .. | .window .. | .walkPage .. | .marchDone .. | .patrolUnit ..
  | .clkrefLoss .. | .setShed .. | .debugRead .. | .debugWrite .. | .debugStatus .. | .debugReset .. | .dbg .. | .oneWireFrame ..
  | .powerOnReset .. | .pinReset .. | .supplyBelowThreshold .. | .selfRefreshExit .. | .recordTimeout .. | .debugRequestTimeout .. => true
  | _ => false

/-- The charge latch: its holder, its state and its epoch (R62, *Table 2.17*). -/
def State.latch (s : State) : Nat × Nat × Nat := (s.reg O.LATCH_HOLDER, s.reg O.LATCH_LATCH_STATE, s.reg O.LATCH_EPOCH)

/-- How many times an interrupt or access fault of a source has been raised at a controller. -/
def State.raised (s : State) (i : Irq) (unit : Nat) (c : Ctl) : Nat := Tbl.get 0 s.irqs ((i.num * 65536 + unit) * 2 + c.num)

/-! ### A word clock of an engine (R139, R140) -/

/-- The commands of an engine that come with one sequence opcode, and that opcode (*Table 5.4*). -/
def seqCommands (t : Nat) (e : Fin 512) : List (Instr × Nat) :=
  [(.next t e, 0x00), (.jmp t e, 0x01), (.call t e, 0x02), (.ret t e, 0x03), (.loop t e, 0x04), (.ldlci t e, 0x05), (.ldlc t e, 0x06),
   (.stop t e, 0x09), (.site t e, 0x0A), (.scrld t e, 0x0B), (.hclaim t e, 0x0C), (.hrelease t e, 0x0D), (.lds t e, 0x0E),
   (.sts t e, 0x0F), (.mov t e, 0x10), (.add t e, 0x11), (.sub t e, 0x12), (.and t e, 0x13), (.or t e, 0x14), (.xor t e, 0x15),
   (.shl t e, 0x16), (.shr t e, 0x17), (.cmp t e, 0x18), (.tst t e, 0x19), (.movi t e, 0x20), (.addi t e, 0x21), (.subi t e, 0x22),
   (.andi t e, 0x23), (.ori t e, 0x24), (.xori t e, 0x25), (.shli t e, 0x26), (.shri t e, 0x27), (.cmpi t e, 0x28), (.tsti t e, 0x29),
   (.ldk0 t e, 0x2A), (.ldk1 t e, 0x2B), (.ldk2 t e, 0x2C)]

/-- The commands of an engine that come with a DSP opcode, and that opcode (*Table 6.2*). -/
def dspCommands (t : Nat) (e : Fin 512) : List (Instr × Nat) :=
  [(.mac t e, 0x01), (.mmx t e, 0x02), (.mmclr t e, 0x03), (.accrd t e, 0x04), (.mmrd t e, 0x05), (.accset t e, 0x06),
   (.ldop t e, 0x07), (.switch t e, 0x08), (.resrd t e, 0x09)]

/-- Command i says that engine e comes to the instruction at its PC: `f` is the state in which it does. -/
def State.comes (f : State) (t : Nat) (e : Fin 512) (i : Instr) : Prop :=
  (∃ op, (i, op) ∈ seqCommands t e ∧ hasOp e.val op f = true) ∨ (∃ op, (i, op) ∈ dspCommands t e ∧ hasDsp e.val op f = true) ∨
    (i = .waittt t e ∧ hasOp e.val 0x07 f = true ∧ f.waitOver e.val = false) ∨
    (i = .waitttRetire t e ∧ hasOp e.val 0x07 f = true ∧ f.waitOver e.val = true) ∨
    (i = .waitc t e ∧ hasOp e.val 0x08 f = true ∧ f.waitOver e.val = false) ∨
    (i = .waitcRetire t e ∧ hasOp e.val 0x08 f = true ∧ f.waitOver e.val = true) ∨
    (i = .next t e ∧ (opListed (iOp (f.insn e.val)) = false ∨ progCount (f.image (O.ENG_PROGRAM e.val)) ≤ f.reg (O.ENG_PC e.val)))

/-- Engine e is RUNNING in no gang, its cluster's clock runs, and it has not yet been through this word clock: `f` is the state after
what is due has come to the Halter and to the datapath, `g` after the Feed store's arbitration too. -/
def State.turnOf (s : State) (e : Nat) (f g : State) : Prop :=
  f = s.haltPump.dspPump e s.wc ∧ ((f.engine e).dsStall = 0 ∨ s.wc < (f.engine e).dsStall) ∧ f.engineReady e s.wc = true ∧
    (f.engine e).claim = none ∧ f.reg (O.ENG_GANG e) = 0 ∧ g = f.feedTurn (e / 32) s.wc ∧ g.reg (O.ENG_GANG e) = 0 ∧
    (g.engine e).free ≤ s.wc ∧ (g.engine e).claim = none

/-- No comparator of the debugger halts the engine at its instruction (R435). -/
def State.noHalt (g : State) (e wc : Nat) : Prop :=
  (g.engine e).fresh = false ∨ (g.illegalCause e wc).isSome = true ∨ g.haltingComp e = none

end Sys2Proof.Machine
end

