-- ==== Sys2Proof/Certificates/Slice0/Obligations.lean ====
section
/-! DEFINITION. The statements for the provers, in two parts: what holds of every step, request and encoding; and, family by family,
where each command completes and the state it leaves. -/

set_option maxRecDepth 100000

open Sys2Proof Sys2Proof.Machine

/-- A step runs the command at the front of the queue on the rest of the queue. For every command c and state s: with c at the front
of its queue, a step of s is exec of c on s with the queue's rest; and a step of s with c pushed at the front is exec of c on s.
The queue is the model's form of a block that takes commands. Rests on 95_what_each_step_holds.md. -/
def Obligations.StepRunsTheFrontCommand : Prop :=
  (∀ (c : Instr) (r : List Instr) (s : State), s.pending = c :: r → step s = exec c { s with pending := r }) ∧
  (∀ (c : Instr) (s : State), step (s.push c) = exec c s)

/-- On an empty queue one word clock passes in the fabric and the datapaths (the model's choice, log entries 2 and 161). With an empty
queue a step answers the state one word clock later, in which every running fabric clock had its edges and every engine datapath
has done the operations due. The table has no row for a clock tick: that a step on an empty queue lets a word clock pass is the
model's choice, log entries 2 and 161. Rests on R4, R286, 95_what_each_step_holds.md. -/
def Obligations.EmptyQueueIdles : Prop :=
  ∀ s : State, s.pending = [] → step s = .next ((s.tickTo (s.now + Config.wordUnits)).fabricNow.dspPumpAll)

/-- No word spells a command (log entry 3). The table gives no row any bits, so decodeTableWord answers none for every word, and
withFetchWord leaves the state as it is (log entry 3). Rests on 95_what_each_step_holds.md. -/
def Obligations.NoWordSpellsACommand : Prop :=
  ∀ (nbits w : Nat) (s : State), decodeTableWord nbits w = none ∧ s.withFetchWord nbits w = s

/-- The state after reset meets the invariants that every step keeps. At reset every addressed memory, the table of registers and the
table of images are in canonical form, and every command that waits (none) is well-formed. The canonical forms are the model's own
(log entries 7 and 10). Rests on R9, R10. -/
def Obligations.ResetIsWellKept : Prop :=
  State.reset.memWf = true ∧ State.reset.regsWf = true ∧ State.reset.imagesWf = true ∧ State.reset.queueWf = true

/-- At reset every register reads its card's default, and the latch, sessions, channels, engines and debug level are as the cards say.
For every object that the dictionary names, the state after reset reads the default of its card; an object it does not name reads
0, and no command waits. The latch is FREE with epoch 0, every session slot is free, every channel reads LATCHED, every engine
IDLE, the memory system is off and DEBUG_LEVEL is 1. Defaults that the cards leave to the device are the model's (log entries 8, 9
and 11). Rests on R9, R10, R62, R126, R418. -/
def Obligations.ResetReadsTheCards : Prop :=
  (∀ (o : Nat) (c : Card), cardOf o = some c → State.reset.reg o = c.dflt) ∧
  (∀ o, cardOf o = none → State.reset.reg o = 0) ∧ State.reset.pending = [] ∧
  State.reset.reg O.LATCH_HOLDER = 0 ∧ State.reset.reg O.LATCH_LATCH_STATE = 0 ∧ State.reset.reg O.LATCH_EPOCH = 0 ∧
  (∀ i < 64, State.reset.reg (O.SES_STATE i) = 0) ∧ (∀ c < 144, State.reset.reg (O.CH_STATE c) = 4) ∧
  (∀ e < 512, State.reset.reg (O.ENG_STATE e) = 0) ∧ State.reset.reg O.MEM_MEM_STATE = 0 ∧ State.reset.reg O.DBG_DEBUG_LEVEL = 1

/-- Every command in every state answers a next state. For every command and every state exec answers a next state: a request that a
rule turns away completes with a status, so no command faults or is refused by the model. Rests on R8, R459,
95_what_each_step_holds.md. -/
def Obligations.EveryCommandCompletes : Prop :=
  ∀ (c : Instr) (s : State), ∃ u, exec c s = .next u

/-- Every step takes one command from the queue and time does not run back. Whenever a step answers a next state, the queue is the old
one without its front command and the instant of the new state is not before that of the old. Time as one count of 0.5 ps is the
model's (log entries 1 and 2). Rests on R4, 95_what_each_step_holds.md. -/
def Obligations.EveryStepAdvances : Prop :=
  ∀ s u : State, step s = .next u → Advances s u

/-- Every step keeps every addressed memory in canonical form. If the LPDDR4X devices, the Feed stores, the engine data stores, the
controllers' local memories and the spare stores are each in canonical form (addresses strictly rising, no byte listed that an
unlisted address reads as), they are so after any step, whatever command it runs. What an unlisted byte reads as is the model's
choice (log entry 10). Rests on R359, R383, 95_what_each_step_holds.md. -/
def Obligations.EveryStepKeepsMemories : Prop :=
  ∀ s u : State, s.memWf = true → step s = .next u → u.memWf = true

/-- Every step keeps the tables of registers and of images in canonical form. If no register and no image is listed at its default and
their keys rise strictly, so it is after any step, whatever command it runs. The tables are the model's form of the dictionary
(log entry 7). Rests on R10, R37. -/
def Obligations.EveryStepKeepsTables : Prop :=
  ∀ s u : State, s.regsWf = true → s.imagesWf = true → step s = .next u → u.regsWf = true ∧ u.imagesWf = true

/-- A command that is not one of the storing commands leaves every byte of every addressed memory. mayStore lists the commands that
may write an addressed memory. For every other command and every state, each byte of the LPDDR4X devices, the Feed stores, the
engine data stores, the controllers' local memories and the spare stores reads after exec as it read before. Rests on R359, R383,
95_what_each_step_holds.md. -/
def Obligations.OtherCommandsStoreNothing : Prop :=
  ∀ (c : Instr) (s u : State), mayStore c = false → exec c s = .next u →
    ∀ a, dramGet u.dram a = dramGet s.dram a ∧ dramGet u.feed a = dramGet s.feed a ∧ dramGet u.data a = dramGet s.data a ∧
      dramGet u.mcMem a = dramGet s.mcMem a ∧ dramGet u.spareMem a = dramGet s.spareMem a

/-- A write of a value answers with the first status of the order of R459 that applies. For every state, requester, object and value
the status of a write is DECODE where the dictionary names no such object; else DENIED for the role; else DENIED for the debug
level; else the answer of the ring stop; else DENIED for an excluded path; else DENIED for a shared object without charge; else
REFUSED for its form; else what the owner of the object answers. How the two DENIED cases of a path and of charge follow each
other is read by inference (log entry 14). Rests on R37, R39, R50, R347, R459. -/
def Obligations.RequestsAnswerInOrder : Prop :=
  ∀ (s : State) (r : Requester) (o v : Nat) (f : Owner),
    (s.writeObj r o v f).reply.status =
      match cardOf o with
      | none => .decode
      | some c =>
        if s.roleOf r < writeRole (o / 256) then .denied
        else if (needsLevel2 o = true ∨ r = .debugPort) ∧ s.reg O.DBG_DEBUG_LEVEL ≠ 2 then .denied
        else if s.objAnswer o ≠ .okay then s.objAnswer o
        else if s.pathExcluded r o = true then .denied
        else if s.isPrivate (s.ctlOf r) o = false ∧ s.mayWriteShared (s.ctlOf r) = false then .denied
        else if c.acc = .ro ∨ c.ty = .domain ∨ c.inRange v = false then .refused
        else (f (c.masked v) s).1

/-- A write that is turned away changes nothing but counters and the last bus status. If the checks of a write do not end in OKAY, or
its form is not OKAY, the state after it is the state before but for the registers, the raised interrupts and the reply, the reply
is not OKAY, and of the registers only the counters of the completion, the event counters and LAST_BUS_STATUS may differ. Which
counters count is read by inference (log entries 15, 16 and 48). Rests on R8, R12, R50, R62, R459. -/
def Obligations.TurnedAwayWritesOnlyCount : Prop :=
  ∀ (s : State) (r : Requester) (o v : Nat) (f : Owner),
    ((s.checkAccess r o true).1 ≠ .okay ∨ formStatus o v ≠ .okay) →
    (∃ m i d, s.writeObj r o v f = { s with regs := m, irqs := i, reply := d } ∧ d.status ≠ .okay) ∧
    ∀ p, (∀ k < 16, p ≠ O.EVC_COUNT k) →
      p ∉ [O.LATCH_CHARGE_DENIED, O.DEV_REFUSED_WRITES, O.DEV_DECODE_COUNT, O.DEV_DENIED_COUNT, O.DEV_TIMEOUT_COUNT, O.CLK_GATED_COUNT,
        O.RS_ANSWERED (stopOf (o / 256)), ledTerm 0x105B 0, ledTerm 0x105B 1, ledTerm 0x105B 2, O.MC_LAST_BUS_STATUS 0,
        O.MC_LAST_BUS_STATUS 1] → (s.writeObj r o v f).reg p = s.reg p

/-- A WRITE of a plain object that is accepted writes its object and counts, and changes nothing else. For every object of access RW
that no command row owns, and every value its card takes: a WRITE from a session that passes the checks answers a next state that
differs from the state at its instant only in the registers and in the reply OKAY; the object reads the value written (unless it
is a term of ledger 0x105B or an event counter), and every other register but those two ledger terms reads as before. That a
completion counts there is read by inference (log entry 15). Rests on R10, R39, R54. -/
def Obligations.AcceptedWritesChangeTheirObject : Prop :=
  ∀ (s u : State) (t : Nat) (slot : Fin 64) (idx sub v : Nat) (bytes : List Byte) (c : Card), u = s.tickTo t →
    u.writable (.session slot) (objOf idx sub) v = true → cardOf (objOf idx sub) = some c → c.acc = .rw → c.ty ≠ .domain →
    bytes.length = c.ty.bytes → leNat bytes = v → u.namedOwner (.session slot) (objOf idx sub / 256) (objOf idx sub % 256) = none →
    ∃ y m, exec (.write t slot idx sub c.ty.code bytes) s = .next y ∧ y = { u with regs := m, reply := ⟨.okay, []⟩ } ∧
      ((∀ k < 16, objOf idx sub ≠ O.EVC_COUNT k) → objOf idx sub ≠ ledTerm 0x105B 0 → objOf idx sub ≠ ledTerm 0x105B 1 → y.reg (objOf idx sub) = v) ∧
      ∀ p, p ≠ objOf idx sub → p ≠ ledTerm 0x105B 0 → p ≠ ledTerm 0x105B 1 → y.reg p = u.reg p

/-- A firmware access that fails raises the access fault once and latches its status; no other access does. When a firmware access
completes with a status other than OKAY, LAST_BUS_STATUS of that controller's object (0x1201.07 or 0x1202.07) takes the status
code and the access fault is raised once more at that controller. An OKAY completion and the completions of sessions and debug
ports raise none and leave LAST_BUS_STATUS (log entry 16). Rests on R41. -/
def Obligations.FailedAccessesFault : Prop :=
  ∀ (s : State) (o : Nat) (w : Bool) (st : Status) (d : List Byte),
    (∀ c : Ctl, st ≠ .okay → (s.complete (.firmware c) o w st d).reg (O.MC_LAST_BUS_STATUS c.num) = st.code ∧
      (s.complete (.firmware c) o w st d).raised .controllerAccess 0 c = s.raised .controllerAccess 0 c + 1) ∧
    (∀ c : Ctl, (s.complete (.firmware c) o w .okay d).irqs = s.irqs ∧
      (s.complete (.firmware c) o w .okay d).reg (O.MC_LAST_BUS_STATUS c.num) = s.reg (O.MC_LAST_BUS_STATUS c.num)) ∧
    (∀ (r : Requester) (c : Ctl), r ≠ .firmware .a → r ≠ .firmware .b → (s.complete r o w st d).irqs = s.irqs ∧
      (s.complete r o w st d).reg (O.MC_LAST_BUS_STATUS c.num) = s.reg (O.MC_LAST_BUS_STATUS c.num)) ∧
    O.MC_LAST_BUS_STATUS (Ctl.num .a) = objOf 0x1201 7 ∧ O.MC_LAST_BUS_STATUS (Ctl.num .b) = objOf 0x1202 7

/-- A write of 1 clears a flag unless hardware set it in the same cycle, and touches no other bit or register. For every object o,
value v and bit b below 64: after the flag clear of v, bit b of o reads 1 exactly if it read 1 before and v did not clear it,
where a bit of v clears unless the flag was set in the present cycle of the clock of its block; every other register reads as
before. Which clock a cycle is of is read by inference (log entry 30). Rests on R10, R46. -/
def Obligations.ClearsWhatIsWritten : Prop :=
  ∀ (s : State) (o v p b : Nat), b < 64 →
    ((s.clearFlags o v).reg o).testBit b =
      ((s.reg o).testBit b && !(v.testBit b && Tbl.get 0 s.flagCycle (flagKey o b) != s.cycleOf o + 1)) ∧
    (p ≠ o → (s.clearFlags o v).reg p = s.reg p)

/-- CLAIM, OFFER, ACCEPT and TAKE are DENIED to Kisko and REFUSED out of state, and then leave the latch. For every state: a Kisko
write to CLAIM, OFFER, ACCEPT or TAKE whose ring stop delivers it answers a next state with the reply DENIED and the latch
(holder, state, epoch) unchanged. A write that passes the checks, in a state that does not allow the command or with a value other
than 0x5A, answers a next state with the reply REFUSED and the latch unchanged. States R64. -/
def Obligations.LatchCommandsAreGuarded : Prop :=
  ∀ (s u : State) (t v : Nat), u = s.tickTo t →
    -- a Kisko write completes with DENIED
    (∀ i : Fin 64, u.objAnswer O.LATCH_CLAIM = .okay →
      ∃ y, exec (.claim t (.one (.session i) v)) s = .next y ∧ y.reply.status = .denied ∧ y.latch = u.latch) ∧
    (∀ i : Fin 64, u.objAnswer O.LATCH_OFFER = .okay →
      ∃ y, exec (.offer t (.session i) v) s = .next y ∧ y.reply.status = .denied ∧ y.latch = u.latch) ∧
    (∀ i : Fin 64, u.objAnswer O.LATCH_ACCEPT = .okay →
      ∃ y, exec (.accept t (.session i) v) s = .next y ∧ y.reply.status = .denied ∧ y.latch = u.latch) ∧
    (∀ i : Fin 64, u.objAnswer O.LATCH_TAKE = .okay →
      ∃ y, exec (.take t (.session i) v false) s = .next y ∧ y.reply.status = .denied ∧ y.latch = u.latch) ∧
    -- a command in a state that does not allow it, or with a value other than 0x5A, is refused
    (∀ r, u.checkAccess r O.LATCH_CLAIM true = (.okay, false) → (v ≠ 0x5A ∨ u.reg O.LATCH_LATCH_STATE ≠ 0) →
      ∃ y, exec (.claim t (.one r v)) s = .next y ∧ y.reply.status = .refused ∧ y.latch = u.latch) ∧
    (∀ r, u.checkAccess r O.LATCH_OFFER true = (.okay, false) →
      (v ≠ 0x5A ∨ u.reg O.LATCH_LATCH_STATE ≠ 1 ∨ u.holder ≠ some (u.ctlOf r)) →
      ∃ y, exec (.offer t r v) s = .next y ∧ y.reply.status = .refused ∧ y.latch = u.latch) ∧
    (∀ r, u.checkAccess r O.LATCH_ACCEPT true = (.okay, false) →
      (v ≠ 0x5A ∨ u.reg O.LATCH_LATCH_STATE ≠ 2 ∨ u.holder ≠ some (u.ctlOf r).partner) →
      ∃ y, exec (.accept t r v) s = .next y ∧ y.reply.status = .refused ∧ y.latch = u.latch) ∧
    (∀ r, u.checkAccess r O.LATCH_TAKE true = (.okay, false) →
      (v ≠ 0x5A ∨ u.reg O.LATCH_LATCH_STATE ≠ 3 ∨ u.holder ≠ some (u.ctlOf r).partner) →
      ∃ y, exec (.take t r v false) s = .next y ∧ y.reply.status = .refused ∧ y.latch = u.latch)

/-- A debug-port write is checked as a write of the controller that DBG_AS names, and never bypasses the charge latch. At debug level
2 a debug-port write of any object has the same check and the same status as a firmware write of the controller that DBG_AS names;
at level 1 it is DENIED; and a write to an object that is not private to that controller, while the latch does not let it write,
is not OKAY and changes nothing but registers that count, raised interrupts and the reply. States R420. -/
def Obligations.DebugWritesActAsTheNamedController : Prop :=
  ∀ (s : State) (o v : Nat) (f : Owner) (c : Ctl), c = (if s.reg O.DBG_DBG_AS = 0 then .a else .b) →
    (s.reg O.DBG_DEBUG_LEVEL = 2 → s.checkAccess .debugPort o true = s.checkAccess (.firmware c) o true ∧
      (s.writeObj .debugPort o v f).reply.status = (s.writeObj (.firmware c) o v f).reply.status) ∧
    (s.reg O.DBG_DEBUG_LEVEL ≠ 2 → ∀ k, cardOf o = some k → (s.writeObj .debugPort o v f).reply.status = .denied) ∧
    (s.isPrivate c o = false → (s.holder ≠ some c ∨ s.reg O.LATCH_LATCH_STATE = 2) → (s.writeObj .debugPort o v f).reply.status ≠ .okay ∧
      ∃ m i d, s.writeObj .debugPort o v f = { s with regs := m, irqs := i, reply := d })

/-- A request to a block whose clock domain does not run is answered GATED and counted. For every object held in a block with a clock
domain of its own that does not run, whose ring stop neither isolates its port nor is fenced: a write and a read from a session
that has the role complete with GATED, code 3; a firmware write does too, latches code 3 and raises the access fault once more;
and GATED_COUNT goes up by one in each case. Rests on R41, R347, R399. -/
def Obligations.StoppedDomainsAnswerGated : Prop :=
  ∀ (s : State) (o v : Nat) (f : Owner) (c : Card) (d : Nat), cardOf o = some c → domainOf (o / 256) = some d → s.domainRunning d = false →
    (s.reg (O.RS_ISOLATED_PORTS (stopOf (o / 256)))).testBit 0 = false → s.reg (O.RS_FENCE_STATE (stopOf (o / 256))) = 0 →
    needsLevel2 o = false →
    (∀ i : Fin 64, writeRole (o / 256) ≤ s.roleOf (.session i) →
      (s.writeObj (.session i) o v f).reply.status = .gated ∧
      (s.writeObj (.session i) o v f).reg O.CLK_GATED_COUNT = (s.reg O.CLK_GATED_COUNT + 1) % 2 ^ regBits O.CLK_GATED_COUNT) ∧
    (∀ i : Fin 64, 2 ≤ s.roleOf (.session i) → (s.readObj (.session i) o).reply.status = .gated ∧
      (s.readObj (.session i) o).reg O.CLK_GATED_COUNT = (s.reg O.CLK_GATED_COUNT + 1) % 2 ^ regBits O.CLK_GATED_COUNT) ∧
    (∀ x : Ctl, (s.writeObj (.firmware x) o v f).reply.status = .gated ∧
      (s.writeObj (.firmware x) o v f).reg O.CLK_GATED_COUNT = (s.reg O.CLK_GATED_COUNT + 1) % 2 ^ regBits O.CLK_GATED_COUNT ∧
      (s.writeObj (.firmware x) o v f).reg (O.MC_LAST_BUS_STATUS x.num) = 3 ∧
      (s.writeObj (.firmware x) o v f).raised .controllerAccess 0 x = s.raised .controllerAccess 0 x + 1) ∧
    Status.code .gated = 3

/-- The results and the carry flag of MOV, ADD, SUB, AND, OR, XOR, SHL, SHR, CMP and TST on 32 bits. For all 32-bit a and b: the ALU
gives MOV b with CF unchanged, the wrapped sum with the carry out, the wrapped difference with the borrow (SUB, CMP), the bitwise
results with CF clear, and the shifts by b mod 32 with CF the last bit shifted out. A shift by 0 clears CF, read by inference (log
entry 64). Rests on R141. -/
def Obligations.AluResultsAndCarry : Prop :=
  ∀ (a b : BitVec 32) (cf : Bool),
    alu 0 a.toNat b.toNat cf = (b.toNat, cf) ∧
    alu 1 a.toNat b.toNat cf = ((a + b).toNat, decide (2 ^ 32 ≤ a.toNat + b.toNat)) ∧
    alu 2 a.toNat b.toNat cf = ((a - b).toNat, a.ult b) ∧
    alu 3 a.toNat b.toNat cf = ((a &&& b).toNat, false) ∧
    alu 4 a.toNat b.toNat cf = ((a ||| b).toNat, false) ∧
    alu 5 a.toNat b.toNat cf = ((a ^^^ b).toNat, false) ∧
    alu 6 a.toNat b.toNat cf = ((a <<< (b.toNat % 32)).toNat, (a.setWidth 33 <<< (b.toNat % 32)).getLsbD 32) ∧
    alu 7 a.toNat b.toNat cf = ((a >>> (b.toNat % 32)).toNat, decide (0 < b.toNat % 32) && a.getLsbD (b.toNat % 32 - 1)) ∧
    alu 8 a.toNat b.toNat cf = ((a - b).toNat, a.ult b) ∧
    alu 9 a.toNat b.toNat cf = ((a &&& b).toNat, false)

/-- Bit j of a physical address is the parity of the logical address under mask j, inverted by INV. For every table, logical address
and j: bit j of the mapped address is, for j below 48, the parity over 48 bits of the address AND mask Mj, exclusive-ored with bit
j of INV, and 0 from bit 48 on. Rests on R146. -/
def Obligations.ScrambleUnitMapsBits : Prop :=
  ∀ (t : List Byte) (a j : Nat),
    (scramble t a).testBit j =
      (decide (j < 48) && (parity 48 (a &&& fieldLE t (8 + 8 * j) 8) != (fieldLE t 392 8).testBit j))

/-- Accumulators hold exact sums of full-scale products, stay in range, and ACCRD rounds as named. 8,191 values of magnitude up to
2^34, and 4,095 up to 2^35, add to their exact sum in any order; an accumulator always stays in −2^47 to 2^47 − 1; rounding by
floor, half up and half even satisfies the bounds that define it, an exact half going to an even result in the third; and a shift
by 0 changes nothing. The clamp of the result to 32 bits is not part of this statement. Rests on R177, R178. -/
def Obligations.AccumulatorsAndRounding : Prop :=
  (∀ l : List Int, l.length ≤ 8191 → (∀ v ∈ l, -(2 ^ 34) ≤ v ∧ v ≤ 2 ^ 34) → l.foldl (accumulate 0) 0 = l.sum) ∧
  (∀ l : List Int, l.length ≤ 4095 → (∀ v ∈ l, -(2 ^ 35) ≤ v ∧ v ≤ 2 ^ 35) → l.foldl (accumulate 0) 0 = l.sum) ∧
  (∀ (aop : Nat) (acc v : Int), -(2 ^ 47) ≤ accumulate aop acc v ∧ accumulate aop acc v ≤ 2 ^ 47 - 1) ∧
  (∀ (v : Int) (sh : Nat), 2 ^ sh * roundShift v sh 0 ≤ v ∧ v < 2 ^ sh * roundShift v sh 0 + 2 ^ sh) ∧
  (∀ (v : Int) (sh : Nat), 2 ^ (sh + 1) * roundShift v (sh + 1) 1 - 2 ^ sh ≤ v ∧ v < 2 ^ (sh + 1) * roundShift v (sh + 1) 1 + 2 ^ sh) ∧
  (∀ (v : Int) (sh : Nat), 2 ^ (sh + 1) * roundShift v (sh + 1) 2 - 2 ^ sh ≤ v ∧ v ≤ 2 ^ (sh + 1) * roundShift v (sh + 1) 2 + 2 ^ sh ∧
    ((v = 2 ^ (sh + 1) * roundShift v (sh + 1) 2 - 2 ^ sh ∨ v = 2 ^ (sh + 1) * roundShift v (sh + 1) 2 + 2 ^ sh) →
      roundShift v (sh + 1) 2 % 2 = 0)) ∧
  (∀ (v : Int) (rnd : Nat), roundShift v 0 rnd = v)

/-- A yard frame holds its fields and checks, descrambles to itself, and any one wrong header bit is found and corrected. For every
header, Halter field and payload of their widths: the frame has 336 bits, both checks hold, its fields read back, scrambling it
twice with one register gives it back in UP and in training, and for every bit from 0 to 175 the frame with that bit wrong fails
the header check and is corrected to the frame that was sent. Rests on R261, R262, R263. -/
def Obligations.FramesCarryTheirFields : Prop :=
  ∀ (hdr halter payload : Nat), hdr < 2 ^ 32 → halter < 2 ^ 128 → payload < 2 ^ 128 →
    let l := frameBits hdr halter payload
    l.length = 336 ∧ hcrcOk l = true ∧ pcrcOk l = true ∧
    frameField l 0 32 = hdr ∧ frameField l 32 128 = halter ∧ frameField l 176 128 = payload ∧
    (∀ g, (scrambleUp (scrambleUp l g).1 g).1 = l) ∧ scrambleTrain (scrambleTrain l) = l ∧
    (∀ i < 176, hcrcOk (l.set i (!l.getD i false)) = false ∧ hcrcCorrect (l.set i (!l.getD i false)) = some l)

/-- A compressed frame expands to the frame it was made from. For every frame of 80 words and masks that mark at least its non-zero
words: the frame expanded from the masks and the marked words in order is that frame, and the words it needs are three masks and
one for each marked word. Rests on R316. -/
def Obligations.CompressedFramesExpand : Prop :=
  ∀ (frame masks : List Nat), frame.length = 80 →
    (∀ i < 80, (masks.getD (i / 32) 0).testBit (i % 32) = false → frame.getD i 0 = 0) →
    (let marked := (List.range 80).filter fun i => (masks.getD (i / 32) 0).testBit (i % 32)
     zFrame masks (marked.map fun i => frame.getD i 0) = frame ∧ zNeed masks = 3 + marked.length)

/-- Encrypting a line twice under one key, address and counters gives the line back. For every key of 32 bytes, line of 64 bytes,
address and counters: the encrypted line has 64 bytes and encrypts back to the line. The byte order of the counter block is read
by inference (log entry 116). Rests on R365. -/
def Obligations.EncryptionInverts : Prop :=
  ∀ (key line : List Byte) (pa major minor : Nat), key.length = 32 → line.length = 64 →
    (cryptLine key pa major minor line).length = 64 ∧ cryptLine key pa major minor (cryptLine key pa major minor line) = line

/-- A line of pattern memory written in any mode reads back with its counters, and nothing outside it and its tags changes. For every
memory, region of MODE 0 to 3 whose tag storage lies apart from it, line of it, key, line contents, MAJOR and MINOR: the line
written reads back with the check passed, uncorrected, with its contents, and in MODE 2 and 3 with its counters; written poisoned
in MODE 1 and 3 it reads as poisoned; and every byte outside the line and the region's tag storage is unchanged. In MODE 3, whose
MAJOR lies in three lines of the page, the MAJOR written is that of the page. Rests on R361, R362, R365, R366, R367. -/
def Obligations.LinesReadBack : Prop :=
  ∀ (m : List Host.Cell) (r : Region) (pa : Nat) (key data : List Byte) (major minor : Nat),
    r.mode ≤ 3 → r.base ≤ pa → pa + 64 ≤ r.base + r.size → (pa - r.base) % 64 = 0 → r.size % 4096 = 0 →
    (r.base + r.size ≤ r.tagBase ∨ r.tagBase + r.tagSize ≤ r.base) →
    key.length = 32 → data.length = 64 → major < 2 ^ 64 → minor < 128 → (r.mode = 3 → majorOf m r (r.lineNo pa) = major) →
    (let l := readLine (writeLine m r pa key major minor false data) r pa key
     l.check = .pass ∧ l.data = data ∧ l.fixed = false ∧ (2 ≤ r.mode → l.major = major ∧ l.minor = minor)) ∧
    (r.mode = 1 ∨ r.mode = 3 → (readLine (writeLine m r pa key major minor true data) r pa key).check = .poisoned) ∧
    ∀ (poison : Bool) (a : Nat), (a < pa ∨ pa + 64 ≤ a) → (a < r.tagBase ∨ r.tagBase + r.tagSize ≤ a) →
      dramGet (writeLine m r pa key major minor poison data) a = dramGet m a

/-- Register writes, reads, segment transfers and their timeout, DATA stores, challenges and Paddock streams complete. Each clause
names a command and conditions on the operands and on u alone, u being the state with its clock at the command's instant t. For
every state and all operands that meet them, exec of the command answers a next state, and it is the one written out from u: what
it does not name stays as it was in u. Where a clause asks only for some next state y, it says of y what it lists. They cover
REGISTER_WRITE of a session and of firmware, READ of a scalar and of an image, WRITE, MASK_WRITE, the segment commands,
SEG_TRANSFER_TIMEOUT, DATA_STORE, CHALLENGE and PADDOCK_STREAM_OPEN. Which counters a completion moves rests on log entry 15.
Rests on R10, R39, R40, R42, R44, R54, R323, R419, R459, R460. -/
def Obligations.DictionaryCommandsComplete : Prop :=
  (∀ (s u : State) (t : Nat) (slot : Fin 64) (idx sub v : Nat) (bytes : List Byte) (c : Card), u = s.tickTo t →
    u.writable (.session slot) (objOf idx sub) v = true →
    cardOf (objOf idx sub) = some c →
    c.acc = .rw →
    c.ty ≠ .domain →
    bytes.length = c.ty.bytes →
    leNat bytes = v →
    u.namedOwner (.session slot) ((objOf idx sub) / 256) ((objOf idx sub) % 256) = none →
    exec (.registerWrite t (.session slot) idx sub 0 bytes) s = .next ((u.setReg (objOf idx sub) v).okays (.session slot) (objOf idx sub))) ∧
  (∀ (s u : State) (t : Nat) (x : Ctl) (idx sub v : Nat) (bytes : List Byte) (c : Card), u = s.tickTo t →
    u.checkAccess (.firmware x) (objOf idx sub) true = (.okay, false) →
    (u.settle ((objOf idx sub) / 256)).writable (.firmware x) (objOf idx sub) v = true →
    cardOf (objOf idx sub) = some c →
    c.acc = .rw →
    c.ty ≠ .domain →
    bytes.length = c.ty.bytes →
    c.ty.bytes ≤ 8 →
    0 < c.ty.bytes →
    leNat bytes = v →
    Tbl.get ({} : Held) u.held (objOf idx sub) = {} →
    (u.settle ((objOf idx sub) / 256)).namedOwner (.firmware x) ((objOf idx sub) / 256) ((objOf idx sub) % 256) = none →
    exec (.registerWrite t (.firmware x) idx sub 0 bytes) s = .next (((u.settle ((objOf idx sub) / 256)).setReg (objOf idx sub) v).okays (.firmware x) (objOf idx sub))) ∧
  (∀ (s u : State) (t : Nat) (slot : Fin 64) (idx sub ty : Nat) (c : Card), u = s.tickTo t →
    u.checkAccess (.session slot) (objOf idx sub) false = (.okay, false) →
    cardOf (objOf idx sub) = some c →
    c.ty ≠ .domain →
    c.ty ≠ .string →
    inBlock ((objOf idx sub) / 256) 0x3820 48 = false →
    inBlock ((objOf idx sub) / 256) 0x3A30 16 = false →
    exec (.read t slot idx sub ty) s = .next ((u.settle ((objOf idx sub) / 256)).complete (.session slot) (objOf idx sub) false .okay (leBytes c.ty.bytes ((u.settle ((objOf idx sub) / 256)).regView (objOf idx sub))))) ∧
  (∀ (s u : State) (t : Nat) (slot : Fin 64) (idx sub ty : Nat) (c : Card), u = s.tickTo t →
    u.checkAccess (.session slot) (objOf idx sub) false = (.okay, false) →
    cardOf (objOf idx sub) = some c →
    c.ty = .string →
    exec (.read t slot idx sub ty) s = .next ((u.settle ((objOf idx sub) / 256)).complete (.session slot) (objOf idx sub) false .okay (stringOf (objOf idx sub)))) ∧
  (∀ (s u : State) (t : Nat) (slot : Fin 64) (k : Fin 16) (ty : Nat) (v : State), u = s.tickTo t →
    v = u.settle (0x3A30 + k.val) →
    u.checkAccess (.session slot) (O.EVC_COUNT k.val) false = (.okay, false) →
    exec (.read t slot (0x3A30 + k.val) 2 ty) s = .next (v.countMc.complete (.session slot) (O.EVC_COUNT k.val) false .okay (leBytes 8 (v.countMc.reg (O.EVC_COUNT k.val))))) ∧
  (∀ (s u : State) (t : Nat) (slot : Fin 64) (g : Fin 48) (ty : Nat) (v : State), u = s.tickTo t →
    v = u.settle (0x3820 + g.val) →
    u.checkAccess (.session slot) (O.GPIO_LEVEL g.val) false = (.okay, false) →
    exec (.read t slot (0x3820 + g.val) 3 ty) s = .next (v.drawBool.2.complete (.session slot) (O.GPIO_LEVEL g.val) false .okay (leBytes 1 (b2n v.drawBool.1)))) ∧
  (∀ (s u : State) (t : Nat) (slot : Fin 64) (g : Fin 48) (ty dir : Nat) (v : State), u = s.tickTo t →
    v = u.settle (0x3820 + g.val) →
    u.checkAccess (.session slot) (O.GPIO_OE g.val) false = (.okay, false) →
    dir = bits (v.reg (O.GPIO_CONFIG g.val)) 10 9 →
    exec (.read t slot (0x3820 + g.val) 4 ty) s = .next (v.complete (.session slot) (O.GPIO_OE g.val) false .okay (leBytes 1 (b2n ((v.reg O.CFG_RELEASED).testBit (8 + g.val / 12) && (dir == 1 || (dir == 2 && (Tbl.get ({} : GpioPad) v.fabricNow.gpios g.val).oe))))))) ∧
  (∀ (s u : State) (t : Nat) (slot : Fin 64) (idx sub ty : Nat), u = s.tickTo t →
    u.checkAccess (.session slot) (objOf idx sub) false = (.okay, false) →
    (cardOf (objOf idx sub)).map Card.ty = some .domain →
    (objOf idx sub) ≠ O.DBG_CHALLENGE →
    (objOf idx sub) ≠ O.TRACE_TRACE_DATA →
    (objOf idx sub) ≠ O.MEM_WINDOW →
    exec (.read t slot idx sub ty) s = .next ((u.settle ((objOf idx sub) / 256)).complete (.session slot) (objOf idx sub) false .okay ((u.settle ((objOf idx sub) / 256)).imageView (objOf idx sub)))) ∧
  (∀ (s u : State) (t : Nat) (slot : Fin 64) (idx sub v : Nat) (bytes : List Byte) (c : Card), u = s.tickTo t →
    u.writable (.session slot) (objOf idx sub) v = true →
    cardOf (objOf idx sub) = some c →
    c.acc = .rw →
    c.ty ≠ .domain →
    bytes.length = c.ty.bytes →
    leNat bytes = v →
    u.namedOwner (.session slot) ((objOf idx sub) / 256) ((objOf idx sub) % 256) = none →
    exec (.write t slot idx sub c.ty.code bytes) s = .next ((u.setReg (objOf idx sub) v).okays (.session slot) (objOf idx sub))) ∧
  (∀ (s u : State) (t : Nat) (slot : Fin 64) (idx sub v : Nat) (val mask : List Byte) (c : Card), u = s.tickTo t →
    (u.settle ((objOf idx sub) / 256)).writable (.session slot) (objOf idx sub) v = true →
    cardOf (objOf idx sub) = some c →
    c.acc = .rw →
    c.ty ≠ .domain →
    val.length = c.ty.bytes →
    mask.length = c.ty.bytes →
    (leNat val &&& leNat mask) ||| ((u.settle ((objOf idx sub) / 256)).regView (objOf idx sub) &&& (leNat mask ^^^ (2 ^ regBits (objOf idx sub) - 1))) = v →
    (u.settle ((objOf idx sub) / 256)).namedOwner (.session slot) ((objOf idx sub) / 256) ((objOf idx sub) % 256) = none →
    exec (.maskWrite t slot idx sub c.ty.code val mask) s = .next (((u.settle ((objOf idx sub) / 256)).setReg (objOf idx sub) v).okays (.session slot) (objOf idx sub))) ∧
  (∀ (s u : State) (t : Nat) (r : Requester) (idx sub total : Nat) (f : ImgOwner) (n : Nat), u = s.tickTo t →
    u.checkAccess r (objOf idx sub) true = (.okay, false) →
    (cardOf (objOf idx sub)).any (fun c => c.ty == .domain && c.acc != .ro) = true →
    imgOwnerOf (objOf idx sub) = some (f, n) →
    total ≤ n →
    u.xfer (objOf idx sub) = none →
    u.openHook (objOf idx sub) = (.okay, u) →
    exec (.segOpen t r idx sub total) s = .next ((u.setXfer (objOf idx sub) (some ⟨u.openerOf r, total, [], u.now⟩)).okays r (objOf idx sub))) ∧
  (∀ (s u : State) (t : Nat) (r : Requester) (idx sub : Nat) (x : Xfer) (bytes : List Byte), u = s.tickTo t →
    u.checkAccess r (objOf idx sub) true = (.okay, false) →
    (cardOf (objOf idx sub)).any (fun c => c.ty == .domain && c.acc != .ro) = true →
    u.xfer (objOf idx sub) = some x →
    x.opener = u.openerOf r →
    x.data.length + bytes.length ≤ x.total →
    inBlock ((objOf idx sub) / 256) 0x1810 24 = false →
    exec (.segWrite t r idx sub x.data.length bytes) s = .next ((u.setXfer (objOf idx sub) (some { x with data := x.data ++ bytes, last := u.now })).okays r (objOf idx sub))) ∧
  (∀ (s u : State) (t : Nat) (r : Requester) (idx sub off count : Nat), u = s.tickTo t →
    r ≠ .debugPort →
    u.checkAccess r (objOf idx sub) false = (.okay, false) →
    (cardOf (objOf idx sub)).map Card.ty = some .domain →
    (objOf idx sub) ≠ O.DBG_CHALLENGE →
    (objOf idx sub) ≠ O.TRACE_TRACE_DATA →
    (objOf idx sub) ≠ O.MEM_WINDOW →
    exec (.segRead t r idx sub off count) s = .next ((u.settle ((objOf idx sub) / 256)).complete r (objOf idx sub) true .okay (slice off count ((u.settle ((objOf idx sub) / 256)).imageView (objOf idx sub))))) ∧
  (∀ (s u : State) (t : Nat) (r : Requester) (idx sub crc z tt : Nat) (img : List Byte) (f : ImgOwner) (n : Nat), u = s.tickTo t →
    u.commitReady r (objOf idx sub) crc img = true →
    imgOwnerOf (objOf idx sub) = some (f, n) →
    inBlock ((objOf idx sub) / 256) 0x2400 512 = false →
    inBlock ((objOf idx sub) / 256) 0x1810 24 = false →
    tt = ttImage (ttTick z) (ttFine z) →
    (f img tt (u.setXfer (objOf idx sub) none)).1 = .okay →
    exec (.segCommit t r idx sub crc z) s = .next ((f img tt (u.setXfer (objOf idx sub) none)).2.okays r (objOf idx sub))) ∧
  (∀ (s u : State) (t : Nat) (r : Requester) (idx sub : Nat) (x : Xfer), u = s.tickTo t →
    u.checkAccess r (objOf idx sub) true = (.okay, false) →
    (cardOf (objOf idx sub)).any (fun c => c.ty == .domain && c.acc != .ro) = true →
    u.xfer (objOf idx sub) = some x →
    x.opener = u.openerOf r →
    exec (.segAbort t r idx sub) s = .next ((u.abortXfer (objOf idx sub)).okays r (objOf idx sub))) ∧
  (∀ (s u : State) (t : Nat) (idx sub : Nat) (x : Xfer), u = s.tickTo t →
    u.xfer (objOf idx sub) = some x →
    x.last + 10000 * Config.msUnits ≤ u.now →
    exec (.segTransferTimeout t idx sub) s = .next (u.abortXfer (objOf idx sub))) ∧
  (∀ (s u : State) (t : Nat) (c : Ctl) (idx sub : Nat) (v : BitVec 64) (x : Xfer), u = s.tickTo t →
    u.checkAccess (.firmware c) (objOf idx sub) true = (.okay, false) →
    (cardOf (objOf idx sub)).any (fun c => c.ty == .domain && c.acc != .ro) = true →
    u.xfer (objOf idx sub) = some x →
    x.opener = .firmware c →
    x.data.length + 8 ≤ x.total →
    x.total < 2 ^ 32 →
    (u.aliasWin (objOf idx sub)).offset = x.data.length →
    inBlock ((objOf idx sub) / 256) 0x1810 24 = false →
    ∃ y, exec (.dataStore t c idx sub v) s = .next y ∧ y.xfer (objOf idx sub) = some { x with data := x.data ++ leBytes 8 v.toNat, last := u.now } ∧ (y.aliasWin (objOf idx sub)).offset = ((u.aliasWin (objOf idx sub)).offset + 8) % 2 ^ 32 ∧ y.reply.status = .okay) ∧
  (∀ (s u : State) (t : Nat) (r : Requester), u = s.tickTo t →
    r ≠ .debugPort →
    u.checkAccess r O.DBG_CHALLENGE false = (.okay, false) →
    exec (.challenge t r) s = .next ((u.settle (O.DBG_CHALLENGE / 256)).drawChallenge.complete r O.DBG_CHALLENGE true .okay (slice 0 16 ((u.settle (O.DBG_CHALLENGE / 256)).drawChallenge.image O.DBG_CHALLENGE)))) ∧
  (∀ (s u : State) (t : Nat) (r : Requester) (p : Fin 24) (total : Nat) (w : State), u = s.tickTo t →
    u.checkAccess r (O.PAD_STREAM p.val) true = (.okay, false) →
    total ≤ 2097152 →
    u.xfer (O.PAD_STREAM p.val) = none →
    u.reg (O.PAD_SHADOW_STATE p.val) ≠ 2 →
    u.sched .swap p.val = none →
    u.shedOn (padShed p.val) = true →
    w = ((u.clearShadow p.val).setPad p.val { u.pad p.val with loader := {}, clearing := true, fed := 0 }).setReg (O.PAD_SHADOW_STATE p.val) 1 →
    exec (.paddockStreamOpen t r p total) s = .next ((w.setXfer (O.PAD_STREAM p.val) (some ⟨w.openerOf r, total, [], w.now⟩)).okays r (O.PAD_STREAM p.val)))

/-- The commands of the charge latch, HANDOVER_REQUEST, HEARTBEAT and the end of a heartbeat window complete. Each clause names a
command and conditions on the operands and on u alone, u being the state with its clock at the command's instant t. For every
state and all operands that meet them, exec of the command answers a next state, and it is the one written out from u: what it
does not name stays as it was in u. Where a clause asks only for some next state y, it says of y what it lists. They cover CLAIM
by one controller and by both in one cycle (log entry 46), OFFER, ACCEPT, OFFER_TIMEOUT, TAKE, HANDOVER_REQUEST, HEARTBEAT and
HEARTBEAT_WINDOW_END (log entry 47). Rests on R63, R65, R67, R68. -/
def Obligations.LatchCommandsComplete : Prop :=
  (∀ (s u : State) (t : Nat) (r : Requester), u = s.tickTo t →
    u.writable r O.LATCH_CLAIM 0x5A = true →
    u.reg O.LATCH_LATCH_STATE = 0 →
    exec (.claim t (.one r 0x5A)) s = .next ((u.setHolder (u.ctlOf r)).okays r O.LATCH_CLAIM)) ∧
  (∀ (s u : State) (t : Nat), u = s.tickTo t →
    u.writable (.firmware .a) O.LATCH_CLAIM 0x5A = true →
    u.reg O.LATCH_LATCH_STATE = 0 →
    ((u.setHolder .a).okays (.firmware .a) O.LATCH_CLAIM).writable (.firmware .b) O.LATCH_CLAIM 0x5A = true →
    ∃ y, exec (.claim t (.both 0x5A 0x5A)) s = .next y ∧ y.reg O.LATCH_HOLDER = 1 ∧ y.reg O.LATCH_LATCH_STATE = 1 ∧ y.reply.status = .refused) ∧
  (∀ (s u : State) (t : Nat) (r : Requester), u = s.tickTo t →
    u.writable r O.LATCH_OFFER 0x5A = true →
    u.reg O.LATCH_LATCH_STATE = 1 →
    u.holder = some (u.ctlOf r) →
    exec (.offer t r 0x5A) s = .next (({ u.setReg O.LATCH_LATCH_STATE 2 with offerAt := u.now }).okays r O.LATCH_OFFER)) ∧
  (∀ (s u : State) (t : Nat) (r : Requester), u = s.tickTo t →
    u.writable r O.LATCH_ACCEPT 0x5A = true →
    u.reg O.LATCH_LATCH_STATE = 2 →
    u.holder = some (u.ctlOf r).partner →
    exec (.accept t r 0x5A) s = .next ((u.setHolder (u.ctlOf r)).okays r O.LATCH_ACCEPT)) ∧
  (∀ (s u : State) (t : Nat) (c : Ctl), u = s.tickTo t →
    u.reg O.LATCH_LATCH_STATE = 2 →
    (u.offerAt + u.reg O.LATCH_OFFER_TIMEOUT * Config.msUnits) / Config.aonUnits < u.now / Config.aonUnits →
    u.holder = some c →
    exec (.offerTimeout t) s = .next ((u.setReg O.LATCH_LATCH_STATE 1).raise .offerAborted 0 c)) ∧
  (∀ (s u : State) (t : Nat) (r : Requester), u = s.tickTo t →
    u.writable r O.LATCH_TAKE 0x5A = true →
    u.reg O.LATCH_LATCH_STATE = 3 →
    u.holder = some (u.ctlOf r).partner →
    exec (.take t r 0x5A false) s = .next ((u.setHolder (u.ctlOf r)).okays r O.LATCH_TAKE)) ∧
  (∀ (s u : State) (t : Nat) (r : Requester) (c : Ctl), u = s.tickTo t →
    u.writable r O.LATCH_HANDOVER_REQUEST 1 = true →
    u.holder = some c →
    exec (.handoverRequest t r true) s = .next ((u.raise .handoverRequest 0 c).okays r O.LATCH_HANDOVER_REQUEST)) ∧
  (∀ (s u : State) (t : Nat) (r : Requester) (x : Ctl) (v : Nat), u = s.tickTo t →
    u.writable r (O.MC_HEARTBEAT x.num) v = true →
    exec (.heartbeat t r x v) s = .next ((u.heartbeat x).okays r (O.MC_HEARTBEAT x.num))) ∧
  (∀ (s u : State) (t : Nat), u = s.tickTo t →
    u.now / Config.aonUnits = u.windowEdge * Config.tickUnits / Config.aonUnits + 1 →
    u.windowEdge ≠ u.windowAt →
    exec (.heartbeatWindowEnd t) s = .next ({ (u.windowEnd .a).windowEnd .b with windowAt := u.windowEdge }))

/-- Kisko sessions, datagrams and streams complete: HELLO to RECORD_TIMEOUT. Each clause names a command and conditions on the
operands and on u alone, u being the state with its clock at the command's instant t. For every state and all operands that meet
them, exec of the command answers a next state, and it is the one written out from u: what it does not name stays as it was in u.
Where a clause asks only for some next state y, it says of y what it lists. They cover HELLO, PROOF, CLOSE by datagram and by
write, SESSION_TIMEOUT, REQUEST_DATAGRAM, STREAM_DATA, STREAM_ACK, STREAM_RTO, STREAM_OPEN, STREAM_CLOSE, PING and RECORD_TIMEOUT.
The order of the errors of a datagram rests on log entry 33. Rests on R51, R53, R54, R55, R57, R58, R60, R61. -/
def Obligations.SessionAndStreamCommandsComplete : Prop :=
  (∀ (s u : State) (t : Nat) (port : Ctl) (p : Peer) (i : Nat) (d : List Byte), u = s.tickTo t →
    u.kiskoUp port p = true →
    fieldLE d 0 2 = 0x4B53 →
    byteAt d 2 = 1 →
    dgType d = 5 →
    dgSession d = 0 →
    dgLen d = 20 →
    d.length = 36 →
    1 ≤ byteAt (dgBody d) 0 →
    byteAt (dgBody d) 0 ≤ 3 →
    (List.range 64).find? (fun i => u.reg (O.SES_STATE i) == 0) = some i →
    ∃ y, exec (.hello t port p d) s = .next y ∧ y.reg (O.SES_STATE i) = 1 ∧ y.reg (O.SES_ROLE i) = byteAt (dgBody d) 0 ∧ y.reg (O.SES_CONTROLLER i) = port.num ∧ (y.session i).nc = slice 4 16 (dgBody d) ∧ y.reply = ⟨.okay, []⟩) ∧
  (∀ (s u : State) (t : Nat) (port : Ctl) (p : Peer) (d : List Byte) (i : Nat), u = s.tickTo t →
    u.kiskoUp port p = true →
    u.dgFault port 7 1 d = none →
    dgSession d % 64 = i →
    dgSeq d = 1 →
    u.now ≤ (u.session i).challengeAt + 1000 * Config.msUnits →
    dgBody d = hmac (u.session i).kRole (ascii "KISKO-P1" ++ (u.session i).nc ++ (u.session i).nd) →
    ∃ y, exec (.proof t port p d) s = .next y ∧ y.reg (O.SES_STATE i) = 2 ∧ y.reg (O.SES_LAST_SEQ i) = 1 ∧ y.reply = ⟨.okay, []⟩) ∧
  (∀ (s u : State) (t : Nat) (port : Ctl) (p : Peer) (d : List Byte), u = s.tickTo t →
    u.kiskoUp port p = true →
    u.dgFault port 9 2 d = none →
    exec (.close t (.datagram port p d)) s = .next (((u.setSession (dgSession d % 64) { u.session (dgSession d % 64) with lastGood := u.now, peer := p }).closeSession (dgSession d % 64)).bump (O.MGT_RX_FRAMES port.num) 1)) ∧
  (∀ (s u : State) (t : Nat) (r : Requester) (slot : Fin 64), u = s.tickTo t →
    u.writable r (O.SES_CLOSE slot.val) 1 = true →
    exec (.close t (.write r slot true)) s = .next ((u.closeSession slot.val).okays r (O.SES_CLOSE slot.val))) ∧
  (∀ (s u : State) (t : Nat) (slot : Fin 64), u = s.tickTo t →
    u.reg (O.SES_STATE slot.val) ≠ 0 →
    u.isSet (O.MC_DEBUG_ABSENT (u.reg (O.SES_CONTROLLER slot.val))) = false →
    (u.session slot.val).lastGood + u.reg O.KISKO_SESSION_TIMEOUT * Config.msUnits ≤ u.now →
    exec (.sessionTimeout t slot) s = .next (u.closeSession slot.val)) ∧
  (∀ (s u : State) (t : Nat) (port : Ctl) (p : Peer) (d : List Byte) (late : List Nat), u = s.tickTo t →
    u.kiskoUp port p = true →
    u.dgFault port 1 2 d = none →
    exec (.requestDatagram t port p d late) s = .next (((u.setSession (dgSession d % 64) { u.session (dgSession d % 64) with lastGood := u.now, peer := p }).request port p d late ⟨dgSession d % 64, Nat.mod_lt _ (by decide)⟩).bump (O.MGT_RX_FRAMES port.num) 1)) ∧
  (∀ (s u : State) (t : Nat) (port : Ctl) (p : Peer) (d : List Byte), u = s.tickTo t →
    u.kiskoUp port p = true →
    u.dgFault port 3 2 d = none →
    exec (.streamData t port p d) s = .next (((u.setSession (dgSession d % 64) { u.session (dgSession d % 64) with lastGood := u.now, peer := p }).streamData d ⟨dgSession d % 64, Nat.mod_lt _ (by decide)⟩).bump (O.MGT_RX_FRAMES port.num) 1)) ∧
  (∀ (s u : State) (t : Nat) (port : Ctl) (p : Peer) (d : List Byte), u = s.tickTo t →
    u.kiskoUp port p = true →
    u.dgFault port 4 2 d = none →
    exec (.streamAck t port p d) s = .next (((u.setSession (dgSession d % 64) { u.session (dgSession d % 64) with lastGood := u.now, peer := p }).streamAck port p d ⟨dgSession d % 64, Nat.mod_lt _ (by decide)⟩).bump (O.MGT_RX_FRAMES port.num) 1)) ∧
  (∀ (s u : State) (t : Nat) (stream : Fin 128), u = s.tickTo t →
    (u.stream stream.val).isOpen = true →
    (u.stream stream.val).toDevice = false →
    (u.stream stream.val).acked < (u.stream stream.val).next →
    (u.stream stream.val).lastAck + u.reg O.KISKO_STREAM_RTO * Config.usUnits ≤ u.now →
    exec (.streamRto t stream) s = .next ((u.resend stream.val (u.stream stream.val).acked ((u.stream stream.val).next - (u.stream stream.val).acked) (((u.stream stream.val).next - (u.stream stream.val).acked) / 43 + 1)).setStream stream.val { u.stream stream.val with lastAck := u.now })) ∧
  (∀ (s u : State) (t : Nat) (slot : Fin 64) (queue dir credit i : Nat) (v : State), u = s.tickTo t →
    queue < 32768 →
    dir ≤ 1 →
    u.checkAccess (.session slot) (O.Q_ENABLE queue) true = (.okay, false) →
    u.openStream slot.val queue (dir == 1) credit = (.okay, i, v) →
    exec (.streamOpen t slot queue dir credit) s = .next ((v.complete (.session slot) (O.Q_ENABLE queue) false .okay (leBytes 1 i)).pumpStreams slot.val)) ∧
  (∀ (s u : State) (t : Nat) (slot : Fin 64) (i : Nat), u = s.tickTo t →
    u.roleOf (.session slot) ≠ 0 →
    i < 128 →
    (u.stream i).isOpen = true →
    (u.stream i).slot = slot.val →
    exec (.streamClose t slot i) s = .next ((u.closeStream i).complete (.session slot) (O.Q_ENABLE (u.stream i).queue) false .okay [])) ∧
  (∀ (s u : State) (t : Nat) (slot : Fin 64), u = s.tickTo t →
    u.roleOf (.session slot) ≠ 0 →
    exec (.ping t slot) s = .next ({ u with reply := ⟨.okay, leBytes 20 u.stampNow⟩ })) ∧
  (∀ (s u : State) (t : Nat) (slot : Fin 64) (rcd : List Byte), u = s.tickTo t →
    ∃ y, exec (.recordTimeout t slot rcd) s = .next y ∧ y.reply = ⟨.timeout, []⟩ ∧ (Config.freeBool u.draws = false → y = { u.drawBool.2.tally false 95 .timeout with reply := ⟨.timeout, []⟩ }))

/-- Keys, firmware images, ledger snapshots and the run control and watchdog of the controllers complete. Each clause names a command
and conditions on the operands and on u alone, u being the state with its clock at the command's instant t. For every state and
all operands that meet them, exec of the command answers a next state, and it is the one written out from u: what it does not name
stays as it was in u. Where a clause asks only for some next state y, it says of y what it lists. They cover KEY_COMMIT,
FIRMWARE_IMAGE_COMMIT, LEDGER_SNAP, DEBUG_LOCK, RESPONSE_WRITE, HALT_REQ, RESUME, STEP, CONTROLLER_HALT, LOCKED_SEQUENCE_LIMIT,
COMPARATOR_MATCH, KICK, WATCHDOG_ENABLE, PRETIMEOUT and WATCHDOG_EXPIRY. What firmware itself does is an operand (log entry 146).
Rests on R48, R69, R71, R419, R428, R429, R430, R431, R432. -/
def Obligations.ControllerAndKeyCommandsComplete : Prop :=
  (∀ (s u : State) (t : Nat) (r : Requester) (crc : Nat) (img : List Byte) (k : Fin 5), u = s.tickTo t →
    u.commitReady r (O.KEYS_KEY_OBSERVER + k.val) crc img = true →
    img.length ≤ 64 →
    k.val ≠ 4 →
    ∃ y, exec (.keyCommit t r k crc 0) s = .next y ∧ y.image (O.KEYS_KEY_OBSERVER + k.val) = img ∧ y.reply.status = .okay) ∧
  (∀ (s u : State) (t : Nat) (r : Requester) (crc : Nat) (img : List Byte) (x : Ctl), u = s.tickTo t →
    u.commitReady r (O.MC_IMAGE x.num) crc img = true →
    u.holder ≠ some x →
    u.isSet (O.MC_PRESENT x.partner.num) = true →
    u.firmwareOk img = true →
    u.restarting .a = false →
    u.restarting .b = false →
    exec (.firmwareImageCommit t r x crc 0) s = .next ((((((u.setXfer (O.MC_IMAGE x.num) none).setImage (O.MC_IMAGE x.num) img).setReg (O.MC_FW_STATE x.num) 2).beginReset (93 + x.num))).okays r (O.MC_IMAGE x.num))) ∧
  (∀ (s u : State) (t : Nat) (r : Requester) (l : Fin 63), u = s.tickTo t →
    u.writable r (O.LED_SNAP l.val) 1 = true →
    u.reg (ledTerm (0x1041 + l.val) 0) = (((List.range 8).map (fun k => u.reg (ledTerm (0x1041 + l.val) k))).take (u.reg (O.LED_NTERMS l.val)) |>.drop 1).sum →
    ∃ y, exec (.ledgerSnap t r l true) s = .next y ∧ (∀ k, k < 8 → y.reg (O.LED_SNAP0 l.val + k) = u.reg (ledTerm (0x1041 + l.val) k)) ∧ y.reg (O.LED_CLOSED l.val) = 1 ∧ y.reply.status = .okay) ∧
  (∀ (s u : State) (t : Nat) (r : Requester), u = s.tickTo t →
    u.writable r O.DBG_DEBUG_LOCK 1 = true →
    exec (.debugLock t r true) s = .next ((u.setReg O.DBG_DEBUG_LEVEL 1).okays r O.DBG_DEBUG_LOCK)) ∧
  (∀ (s u : State) (t : Nat) (r : Requester) (crc : Nat) (img : List Byte), u = s.tickTo t →
    u.commitReady r O.DBG_RESPONSE crc img = true →
    u.responseOk img = true →
    u.dbg.lockUntil ≤ u.now →
    ∃ y, exec (.responseWrite t r crc 0) s = .next y ∧ y.reg O.DBG_DEBUG_LEVEL = 2 ∧ y.dbg.nonceAt = none ∧ y.reply.status = .okay) ∧
  (∀ (s u : State) (t : Nat) (r : Requester) (x : Ctl), u = s.tickTo t →
    u.writable r (O.RUN_HALT_REQ x.num) 1 = true →
    u.reg (O.RUN_RUN_STATE x.num) = 0 →
    exec (.haltReq t r x true) s = .next (((u.haltArises x 1).setReg (O.RUN_RUN_STATE x.num) 1).okays r (O.RUN_HALT_REQ x.num))) ∧
  (∀ (s u : State) (t : Nat) (r : Requester) (x : Ctl), u = s.tickTo t →
    u.writable r (O.RUN_RESUME x.num) 1 = true →
    u.reg (O.RUN_RUN_STATE x.num) = 2 →
    ∃ y, exec (.resume t r x true) s = .next y ∧ y.reply.status = .okay ∧ y.reg (O.RUN_RUN_STATE x.num) = 0 ∧ y.reg (O.MC_DEBUG_ABSENT x.num) = 0) ∧
  (∀ (s u : State) (t : Nat) (r : Requester) (x : Ctl), u = s.tickTo t →
    u.writable r (O.RUN_STEP x.num) 1 = true →
    u.reg (O.RUN_RUN_STATE x.num) = 2 →
    exec (.step t r x true) s = .next (((u.setCtl x { u.ctl x with stepping := true }).haltArises x 2).okays r (O.RUN_STEP x.num))) ∧
  (∀ (s u : State) (t : Nat) (x : Ctl) (dpc a cause : Nat) (gpr : List Byte), u = s.tickTo t →
    (u.ctl x).arose = some (a, cause) →
    exec (.controllerHalt t x dpc gpr) s = .next (u.haltNow x cause dpc gpr)) ∧
  (∀ (s u : State) (t : Nat) (x : Ctl) (dpc a cause : Nat) (gpr : List Byte), u = s.tickTo t →
    (u.ctl x).arose = some (a, cause) →
    a + 64 * Config.nsUnits ≤ u.now →
    exec (.lockedSequenceLimit t x dpc gpr) s = .next (u.haltNow x 4 dpc gpr)) ∧
  (∀ (s u : State) (t : Nat) (x : Ctl) (how : McAccess) (addr k : Nat), u = s.tickTo t →
    u.reg (O.RUN_RUN_STATE x.num) = 0 →
    (List.range 8).filter (fun k => u.mcMatches x k how addr) = [k] →
    bits (u.mcComp x k) 7 6 = 0 →
    exec (.comparatorMatch t x how addr false) s = .next (((u.mcHit x k).haltArises x 3).setReg (O.RUN_RUN_STATE x.num) 1)) ∧
  (∀ (s u : State) (t : Nat) (r : Requester) (x : Ctl), u = s.tickTo t →
    u.writable r (O.WD_KICK x.num) 0x5A = true →
    exec (.kick t r x 0x5A) s = .next ((u.wdReload x).okays r (O.WD_KICK x.num))) ∧
  (∀ (s u : State) (t : Nat) (r : Requester) (x : Ctl), u = s.tickTo t →
    u.writable r (O.WD_ENABLE x.num) 1 = true →
    u.isSet (O.WD_ENABLE x.num) = false →
    exec (.watchdogEnable t r x true) s = .next (((u.setReg (O.WD_ENABLE x.num) 1).wdReload x).okays r (O.WD_ENABLE x.num))) ∧
  (∀ (s u : State) (t : Nat) (x : Ctl), u = s.tickTo t →
    u.wdCounts x = true →
    u.reg (O.WD_PRETIMEOUT x.num) ≠ 0 →
    u.wdRemaining x ≤ u.reg (O.WD_PRETIMEOUT x.num) →
    (u.ctl x).wdPre = false →
    exec (.pretimeout t x) s = .next (((u.setCtl x { u.ctl x with wdPre := true }).raise .preTimeout 0 x).trace 1 x.num 6 0)) ∧
  (∀ (s u : State) (t : Nat) (x : Ctl), u = s.tickTo t →
    u.wdCounts x = true →
    u.resetting.contains (93 + x.num) = false →
    (u.ctl x).wdAt + (u.ctl x).wdLeft * Config.usUnits + Config.nsUnits ≤ u.now →
    exec (.watchdogExpiry t x) s = .next (((u.setFlag (O.WD_EXPIRED x.num) 0 (O.WD_EXPIRED_COUNT x.num) 1).trace 1 x.num 7 0).beginReset (93 + x.num)))

/-- Engine halts and steps, the trace and the event counters complete. Each clause names a command and conditions on the operands and
on u alone, u being the state with its clock at the command's instant t. For every state and all operands that meet them, exec of
the command answers a next state, and it is the one written out from u: what it does not name stays as it was in u. Where a clause
asks only for some next state y, it says of y what it lists. They cover ENG_HALT, ENG_RESUME, ENG_STEP, TRACE_RUN, TRACE_RECORD,
TRACE_DRAIN_END, TRACE_USER, COUNTER_CLEAR and SNAP. Rests on R434, R436, R437. -/
def Obligations.ObservationCommandsComplete : Prop :=
  (∀ (s u : State) (t : Nat) (r : Requester) (v : Nat), u = s.tickTo t →
    u.writable r O.ENGDBG_ENG_HALT v = true →
    u.reg (O.ENG_STATE (v % 512)) = 4 →
    ((u.haltPump.dspPump (v % 512) u.wc).gangOf (v % 512)).any (fun m => ((u.haltPump.dspPump (v % 512) u.wc).engine m).claim.isSome) = false →
    exec (.engHalt t r v) s = .next (((u.haltPump.dspPump (v % 512) u.wc).haltGang (v % 512) ((u.haltPump.dspPump (v % 512) u.wc).wc + 1) [(v % 512, 1)]).okays r O.ENGDBG_ENG_HALT)) ∧
  (∀ (s u : State) (t : Nat) (r : Requester) (v : Nat), u = s.tickTo t →
    u.writable r O.ENGDBG_ENG_RESUME v = true →
    u.reg (O.ENG_STATE (v % 512)) = 7 →
    exec (.engResume t r v) s = .next (((u.haltedGang (v % 512)).foldl (fun (s : State) m => s.resumeEngine m (s.wc + 1) false) u).okays r O.ENGDBG_ENG_RESUME)) ∧
  (∀ (s u : State) (t : Nat) (r : Requester) (v : Nat), u = s.tickTo t →
    u.writable r O.ENGDBG_ENG_STEP v = true →
    u.reg (O.ENG_STATE (v % 512)) = 7 →
    exec (.engStep t r v) s = .next (((u.haltedGang (v % 512)).foldl (fun (s : State) m => s.resumeEngine m (s.wc + 1) true) u).okays r O.ENGDBG_ENG_STEP)) ∧
  (∀ (s u : State) (t : Nat) (r : Requester), u = s.tickTo t →
    u.writable r O.TRACE_TRACE_RUN 1 = true →
    ∃ y, exec (.traceRun t r true) s = .next y ∧ y.reg O.TRACE_TRACE_RUN = 1 ∧ y.reg O.TRACE_TRACE_WPTR = 0 ∧ y.reg O.TRACE_TRACE_WRAPPED = 0 ∧ y.traceFifo.length = 1 ∧ y.reply.status = .okay) ∧
  (∀ (s u : State) (t : Nat) (r : Requester), u = s.tickTo t →
    u.writable r O.TRACE_TRACE_RUN 0 = true →
    exec (.traceRun t r false) s = .next ((u.traceDrain.stopTrace).okays r O.TRACE_TRACE_RUN)) ∧
  (∀ (s u : State) (t : Nat) (x : Ctl) (kind : Fin 3) (target : Nat), u = s.tickTo t →
    u.reg (O.RUN_RUN_STATE x.num) < 2 →
    exec (.traceRecord t x kind target) s = .next (u.trace 1 x.num kind.val target)) ∧
  (∀ (s u : State) (t : Nat), u = s.tickTo t →
    u.isSet O.TRACE_TRACE_RUN = false →
    exec (.traceDrainEnd t) s = .next (u.traceDrain)) ∧
  (∀ (s u : State) (t : Nat) (r : Requester) (v : Nat), u = s.tickTo t →
    u.writable r O.TRACE_TRACE_USER v = true →
    exec (.traceUser t r v) s = .next ((u.trace 5 (u.ctlOf r).num 0 v).okays r O.TRACE_TRACE_USER)) ∧
  (∀ (s u : State) (t : Nat) (r : Requester) (k : Fin 16), u = s.tickTo t →
    u.writable r (O.EVC_CLEAR k.val) 1 = true →
    exec (.counterClear t r k true) s = .next ((u.countMc.setReg (O.EVC_COUNT k.val) 0).okays r (O.EVC_CLEAR k.val))) ∧
  (∀ (s u : State) (t : Nat) (r : Requester), u = s.tickTo t →
    u.writable r O.EVSNAP_SNAP 1 = true →
    exec (.snap t r true) s = .next (((u.countMc.setImage O.EVSNAP_SNAP_VALUES ((List.range 16).flatMap fun k => leBytes 8 (u.countMc.reg (O.EVC_COUNT k)))).setReg O.EVSNAP_SNAP_TT u.countMc.ttTickNow).okays r O.EVSNAP_SNAP))

/-- The marker search and the marker frame slot complete, and a good frame is adopted. Each clause names a command and conditions on
the operands and on u alone, u being the state with its clock at the command's instant t. For every state and all operands that
meet them, exec of the command answers a next state, and it is the one written out from u: what it does not name stays as it was
in u. Each clause asks for some next state y and says of y what it lists: a candidate found, a second frame that agrees, and a
frame in LOCKED. Rests on R75, R77, R79. -/
def Obligations.MarkerCommandsComplete : Prop :=
  (∀ (s u : State) (t : Nat) (f : Option Nat) (b : Bool) (fr : Frame), u = s.tickTo t →
    u.isSet O.DEV_CLKREF_STABLE = true →
    u.pllLocked pllSpll = true →
    u.clk.ending = false →
    symbolOf f = some b →
    frameOf (some b :: u.marker.syms.take 127).reverse = some fr →
    u.reg O.MARK_MARKER_STATE = 0 →
    ∃ y, exec (.markerFrameSearch t [f]) s = .next y ∧ y.reg O.MARK_MARKER_STATE = 1 ∧ y.reg O.MARK_MARKER_AUX = fr.aux ∧ y.reg O.MARK_LAST_FRAME_TT = fr.tt ∧ y.marker.candF = fr.tt ∧ y.marker.candY = fr.yard) ∧
  (∀ (s u : State) (t : Nat) (f : Option Nat) (b : Bool) (fr : Frame), u = s.tickTo t →
    u.isSet O.DEV_CLKREF_STABLE = true →
    u.pllLocked pllSpll = true →
    u.clk.ending = false →
    symbolOf f = some b →
    frameOf (some b :: u.marker.syms.take 127).reverse = some fr →
    u.reg O.MARK_MARKER_STATE = 1 →
    u.marker.count = 127 →
    fr.tt = (u.marker.candF + 128) % 2 ^ 64 →
    fr.yard = u.marker.candY →
    ∃ y, exec (.markerFrameSearch t [f]) s = .next y ∧ y.reg O.MARK_MARKER_STATE = 2 ∧ y.reg O.MARK_TT_VALID = 1 ∧ y.reg O.ID_YARD_ID = fr.yard ∧ y.ttOff = (fr.tt + 128 + 2 ^ 64 - (t / Config.tickUnits + 1) % 2 ^ 64) % 2 ^ 64) ∧
  (∀ (s u : State) (t : Nat) (f : Option Nat) (b : Bool) (fr : Frame), u = s.tickTo t →
    u.isSet O.DEV_CLKREF_STABLE = true →
    u.pllLocked pllSpll = true →
    u.clk.ending = false →
    symbolOf f = some b →
    frameOf (some b :: u.marker.syms.take 127).reverse = some fr →
    u.reg O.MARK_MARKER_STATE = 2 →
    u.marker.count = 127 →
    fr.tt = (t / Config.tickUnits + 1 - 128 + u.ttOff) % 2 ^ 64 →
    fr.yard = u.reg O.ID_YARD_ID →
    ∃ y, exec (.markerFrameSlot t [f]) s = .next y ∧ y.reg O.MARK_MARKER_STATE = 2 ∧ y.marker.matching = u.marker.matching + 1 ∧ y.marker.bad = 0 ∧ y.reg O.MARK_MARKER_AUX = fr.aux)

/-- PTP, domain switches, slews, TT_RESYNC and scheduled arms and cancels complete. Each clause names a command and conditions on the
operands and on u alone, u being the state with its clock at the command's instant t. For every state and all operands that meet
them, exec of the command answers a next state, and it is the one written out from u: what it does not name stays as it was in u.
Where a clause asks only for some next state y, it says of y what it lists. The last clause says that an armed or cancelled action
is the arm or cancel of the row that names it. PTP exchanges and the servo rest on log entries 49 and 50. Rests on R80, R84, R87,
R90, R91, R92, R93, R95, R165, R235, R326, R414. -/
def Obligations.TimelineCommandsComplete : Prop :=
  (∀ (s u : State) (t : Nat) (k : Fin 2) (master : Nat) (offset : Int) (delay interval : Nat), u = s.tickTo t →
    u.reg (O.PTP_STATE k.val) = 1 →
    k.val ≠ u.reg O.ACT_ACTIVE_DOMAIN →
    ∃ y, exec (.ptpSync t k master offset delay interval) s = .next y ∧ y.reg (O.PTP_STATE k.val) = 2 ∧ y.reg (O.PTP_OFFSET k.val) = unsigned 64 offset ∧ y.reg (O.PTP_MASTER_ID k.val) = master % 2 ^ 64 ∧ (y.ptpDom k.val).lastSync = u.now ∧ (y.ptpDom k.val).interval = interval) ∧
  (∀ (s u : State) (t : Nat) (k : Fin 2), u = s.tickTo t →
    u.reg (O.PTP_STATE k.val) = 3 →
    (u.ptpDom k.val).lastSync + 4 * (u.ptpDom k.val).interval ≤ u.now →
    exec (.ptpSyncLoss t k) s = .next ((u.setPtp k.val { u.ptpDom k.val with good := 0, holdoverAt := u.now }).ptpEnter k.val 4)) ∧
  (∀ (s u : State) (t : Nat) (k : Fin 2), u = s.tickTo t →
    u.reg (O.PTP_STATE k.val) = 4 →
    (u.ptpDom k.val).holdoverAt + u.reg (O.PTP_HOLDOVER_LIMIT k.val) * Config.msUnits ≤ u.now →
    exec (.holdoverLimit t k) s = .next (u.ptpLeave k.val 1)) ∧
  (∀ (s u : State) (t : Nat) (r : Requester) (v : State), u = s.tickTo t →
    u.writable r O.ACT_SWITCH_ARM 1 = true →
    u.sched .ptpSwitch 0 = none →
    u.act.slewing = false →
    u.reg (O.PTP_STATE (1 - u.reg O.ACT_ACTIVE_DOMAIN)) = 3 →
    u.mayArm (u.reg O.ACT_SWITCH_AT) true = true →
    u.armAction .ptpSwitch 0 (u.reg O.ACT_SWITCH_AT) (1 - u.reg O.ACT_ACTIVE_DOMAIN) = (.okay, v) →
    exec (.switchArm t r true) s = .next ((v).okays r O.ACT_SWITCH_ARM)) ∧
  (∀ (s u : State) (t : Nat) (r : Requester)  (a : Sched), u = s.tickTo t →
    u.writable r O.ACT_SWITCH_CANCEL 1 = true →
    u.sched .ptpSwitch 0 = some a →
    (u.now / Config.tickUnits + 1) * Config.tickUnits ≤ u.effectAt .ptpSwitch (0) a →
    exec (.switchCancel t r true) s = .next ((u.endAction .ptpSwitch 0 2).okays r O.ACT_SWITCH_CANCEL)) ∧
  (∀ (s u : State) (t : Nat) (a : Sched) (v : State), u = s.tickTo t →
    u.sched .ptpSwitch 0 = some a →
    u.due .ptpSwitch 0 a = true →
    v = u.endAction .ptpSwitch 0 1 →
    v.reg (O.PTP_STATE a.arg) = 3 →
    ((v.ptpNow a.arg - v.actNow).tdiv ptpNs).natAbs ≤ v.reg O.ACT_SWITCH_LIMIT →
    v.reg O.ACT_SWITCH_MODE ≠ 0 →
    exec (.activeDomainSwitch t) s = .next (({ v.setReg O.ACT_ACTIVE_DOMAIN a.arg with act := {} }.followDomain v.actNow).switchDone .okay)) ∧
  (∀ (s u : State) (t : Nat), u = s.tickTo t →
    u.act.slewing = true →
    u.act.paused = false →
    u.residual = 0 →
    exec (.slewEnd t) s = .next ((({ u with act := {} }).setReg O.ACT_RESIDUAL 0).followDomain 0)) ∧
  (∀ (s u : State) (t : Nat) (r : Requester), u = s.tickTo t →
    u.writable r O.MARK_TT_RESYNC 1 = true →
    u.reg O.SCHED_PENDING = 0 →
    u.anyRunning = false →
    2 ≤ u.reg O.MARK_MARKER_STATE →
    exec (.ttResync t r true) s = .next (((((u.ttGone.setReg O.MARK_TT_VALID 0).setReg O.MARK_MARKER_STATE 0).setMarker {}).ptpListen).okays r O.MARK_TT_RESYNC)) ∧
  (∀ (s u : State) (t : Nat) (r : Requester) (a : Arming) (v : State), u = s.tickTo t →
    u.writable r (armObj a) 1 = true →
    u.ownerOf r (armObj a) 1 u = (.okay, v) →
    exec (.scheduledArm t r a true) s = .next (v.okays r (armObj a))) ∧
  (∀ (s u : State) (t : Nat) (r : Requester) (a : Arming) (v : State), u = s.tickTo t →
    u.writable r (cancelObj a) 1 = true →
    u.ownerOf r (cancelObj a) 1 u = (.okay, v) →
    exec (.scheduledCancel t r a true) s = .next (v.okays r (cancelObj a))) ∧
  (∀ (s : State) (t : Nat) (r : Requester) (v : Bool) (u : Fin 16) (e : Fin 512) (p : Fin 24) (q : Fin 32768) (b : Fin 4),
    exec (.scheduledArm t r (.trigger u) v) s = exec (.arm t r u v) s ∧ exec (.scheduledCancel t r (.trigger u) v) s = exec (.cancel t r u v) s ∧
    exec (.scheduledArm t r (.start e) v) s = exec (.startArm t r e v) s ∧ exec (.scheduledCancel t r (.start e) v) s = exec (.startCancel t r e v) s ∧
    exec (.scheduledArm t r (.swap p) v) s = exec (.swapArm t r p v) s ∧ exec (.scheduledCancel t r (.swap p) v) s = exec (.swapCancel t r p v) s ∧
    exec (.scheduledArm t r .sleep v) s = exec (.sleepArm t r v) s ∧ exec (.scheduledCancel t r .sleep v) s = exec (.sleepCancel t r v) s ∧
    exec (.scheduledArm t r (.deadline q) v) s = exec (.deadlineArm t r q v) s ∧
    exec (.scheduledCancel t r (.deadline q) v) s = exec (.deadlineCancel t r q v) s ∧
    exec (.scheduledArm t r .ptpSwitch v) s = exec (.switchArm t r v) s ∧ exec (.scheduledCancel t r .ptpSwitch v) s = exec (.switchCancel t r v) s ∧
    exec (.scheduledArm t r (.bank b) v) s = exec (.bankSwitchArm t r b v) s ∧
    exec (.scheduledCancel t r (.bank b) v) s = exec (.bankSwitchCancel t r b v) s)

/-- Triggers complete: ARM, CANCEL, TRIGGER_PULSE, PULSE_END, TRIGGER_MODE_WRITE, TRIGGER_INPUT_EDGE and DEADTIME_END. Each clause
names a command and conditions on the operands and on u alone, u being the state with its clock at the command's instant t. For
every state and all operands that meet them, exec of the command answers a next state, and it is the one written out from u: what
it does not name stays as it was in u. TRIGGER_PULSE has one clause for a pulse with more of the train to come and one for the
last. Cancelling a running train rests on log entry 53. Rests on R95, R96. -/
def Obligations.TriggerCommandsComplete : Prop :=
  (∀ (s u : State) (t : Nat) (r : Requester) (u0 : Fin 16) (v : State), u = s.tickTo t →
    u.writable r (O.TRIG_ARM u0.val) 1 = true →
    u.mayArm (u.reg (O.TRIG_AT u0.val)) false = true →
    u.settleTrain u0.val = u →
    u.reg (O.TRIG_OUT_STATE u0.val) = 0 →
    0 < u.reg (O.TRIG_COUNT u0.val) →
    u.reg (O.TRIG_COUNT u0.val) ≤ 1 ∨ 2 * u.reg (O.TRIG_WIDTH u0.val) < u.reg (O.TRIG_PERIOD u0.val) →
    40000 ≤ u.reg (O.TRIG_PERIOD u0.val) →
    u.armAction .trigger u0.val (u.reg (O.TRIG_AT u0.val)) 0 = (.okay, v) →
    exec (.arm t r u0 true) s = .next (((v.setTrig u0.val { v.trig u0.val with count := u.reg (O.TRIG_COUNT u0.val), width := 2 * u.reg (O.TRIG_WIDTH u0.val), period := u.reg (O.TRIG_PERIOD u0.val) }).setReg (O.TRIG_OUT_STATE u0.val) 1).okays r (O.TRIG_ARM u0.val))) ∧
  (∀ (s u : State) (t : Nat) (r : Requester) (u0 : Fin 16) (a : Sched), u = s.tickTo t →
    u.writable r (O.TRIG_CANCEL u0.val) 1 = true →
    u.settleTrain u0.val = u →
    u.reg (O.TRIG_OUT_STATE u0.val) = 1 →
    u.sched .trigger u0.val = some a →
    (u.now / Config.tickUnits + 1) * Config.tickUnits ≤ u.effectAt .trigger u0.val a →
    exec (.cancel t r u0 true) s = .next (((u.endAction .trigger u0.val 2).setReg (O.TRIG_OUT_STATE u0.val) 0).okays r (O.TRIG_CANCEL u0.val))) ∧
  (∀ (s u : State) (t : Nat) (u0 : Fin 16) (a : Sched), u = s.tickTo t →
    u.settleTrain u0.val = u →
    u.sched .trigger u0.val = some a →
    u.due .trigger u0.val a = true →
    u.reg (O.TRIG_MODE u0.val) = 1 →
    exec (.triggerPulse t u0) s = .next (((u.endAction .trigger u0.val 1).setReg (O.TRIG_OUT_STATE u0.val) 2).beginPulse u0.val (u.schedInstant a) ((u.trig u0.val).count - 1))) ∧
  (∀ (s u : State) (t : Nat) (u0 : Fin 16), u = s.tickTo t →
    u.settleTrain u0.val = u →
    u.sched .trigger u0.val = none →
    u.reg (O.TRIG_OUT_STATE u0.val) = 2 →
    0 < (u.trig u0.val).left →
    (u.trig u0.val).nextEdge ≤ u.now →
    (u.trig u0.val).cancelAt = 0 →
    exec (.triggerPulse t u0) s = .next (u.beginPulse u0.val (u.trig u0.val).nextEdge ((u.trig u0.val).left - 1))) ∧
  (∀ (s u : State) (t : Nat) (u0 : Fin 16), u = s.tickTo t →
    (u.trig u0.val).inPulse = true →
    (u.trig u0.val).pulseEnd ≤ u.now →
    exec (.pulseEnd t u0) s = .next ((u.setTrig u0.val { u.trig u0.val with inPulse := false }).settleTrain u0.val)) ∧
  (∀ (s u : State) (t : Nat) (r : Requester) (u0 : Fin 16) (v : Nat), u = s.tickTo t →
    u.writable r (O.TRIG_MODE u0.val) v = true →
    u.reg (O.TRIG_MODE u0.val) = 0 →
    exec (.triggerModeWrite t r u0 v) s = .next ((u.setReg (O.TRIG_MODE u0.val) v).okays r (O.TRIG_MODE u0.val))) ∧
  (∀ (s u : State) (t : Nat) (u0 : Fin 16) (rising : Bool), u = s.tickTo t →
    u.reg (O.TRIG_MODE u0.val) = 2 →
    (u.trig u0.val).holds.testBit 0 = false →
    u.reg (O.TRIG_POLARITY u0.val) = 2 →
    u.reg O.PWR_WAKE_TRIG ≠ u0.val →
    (u.trig u0.val).rcd = none →
    exec (.triggerInputEdge t u0 rising) s = .next (((u.ledAdd 0x1046 0 1).ledAdd 0x1046 3 1).setTrig u0.val { u.trig u0.val with rcd := some ⟨((u.ledAdd 0x1046 0 1).ledAdd 0x1046 3 1).stampNow, b2n rising, 0, 0, u.now⟩ })) ∧
  (∀ (s u : State) (t : Nat) (u0 : Fin 16), u = s.tickTo t →
    u.deadOver u0.val = true →
    exec (.deadtimeEnd t u0) s = .next (u.closeTrigRec u0.val))

/-- The clock reference, the PLLs, the clock enables and the clock sources complete. Each clause names a command and conditions on the
operands and on u alone, u being the state with its clock at the command's instant t. For every state and all operands that meet
them, exec of the command answers a next state, and it is the one written out from u: what it does not name stays as it was in u.
Where a clause asks only for some next state y, it says of y what it lists. They cover CLKREF_GATE, MISSING_EDGE, CLKREF_STABLE,
CLKREF_LOSS, CLKREF_RECOVERY, PAD_RELEASE, PLL_LOCK, PLL_UNLOCK, CLK_ENABLE, SRC of each kind of source and FPLL_SETTING. What of
a loss happens at which of its commands rests on log entry 134. Rests on R393, R394, R395, R398, R400, R401, R402, R403, R404. -/
def Obligations.ClockCommandsComplete : Prop :=
  (∀ (s u : State) (t : Nat) (count : Nat), u = s.tickTo t →
    9933 ≤ count →
    count ≤ 10547 →
    u.clk.missing = false →
    ∃ y, exec (.clkrefGate t count) s = .next y ∧ y.reg O.CLKREF_LAST_GATE = count ∧ y.clk.good = u.clk.good + 1) ∧
  (∀ (s u : State) (t : Nat) (count : Nat) (v : State), u = s.tickTo t →
    count < 9933 ∨ 10547 < count ∨ u.clk.missing = true →
    v = u.setReg O.CLKREF_LAST_GATE (count % 65536) →
    exec (.clkrefGate t count) s = .next (({ v with clk := { v.clk with good := 0, missing := false } }.bump O.CLKREF_BAD_GATES 1).loseClkref)) ∧
  (∀ (s u : State) (t : Nat), u = s.tickTo t →
    exec (.missingEdge t) s = .next (({ u with clk := { u.clk with good := 0, missing := true } }.bump O.CLKREF_MISSING_EDGES 1).loseClkref)) ∧
  (∀ (s u : State) (t : Nat), u = s.tickTo t →
    u.isSet O.DEV_CLKREF_STABLE = false →
    u.reg O.CLKREF_STABLE_GATES ≤ u.clk.good →
    u.reg O.DEV_DEVICE_STATE ≠ 4 →
    exec (.clkrefStable t) s = .next (u.setReg O.DEV_CLKREF_STABLE 1)) ∧
  (∀ (s u : State) (t : Nat), u = s.tickTo t →
    u.isSet O.DEV_CLKREF_STABLE = false →
    u.reg O.CLKREF_STABLE_GATES ≤ u.clk.good →
    u.reg O.DEV_DEVICE_STATE = 4 →
    exec (.clkrefStable t) s = .next ((u.setReg O.DEV_CLKREF_STABLE 1).resumeProgram)) ∧
  (∀ (s u : State) (t : Nat), u = s.tickTo t →
    u.clk.due = true →
    ∃ y, exec (.clkrefLoss t) s = .next y ∧ y.clk.due = false) ∧
  (∀ (s u : State) (t : Nat) (w : State), u = s.tickTo t →
    u.reg O.DEV_DEVICE_STATE = 4 →
    u.clk.due = false →
    u.isSet O.DEV_CLKREF_STABLE = true →
    (List.range 51).all (fun n => u.pllLocked n || !u.shedOn (pllShed n)) = true →
    (List.range 8).any (fun m => u.reg (O.MEMC_STATE m) == 3 && u.shedOn (quadStop (m / 2) 20)) = false →
    w = ((u.clocksNow.setReg O.DEV_DEVICE_STATE u.clk.prior).recovery 0 false).shiftLimits (u.now - u.clk.since) →
    ∃ y, exec (.clkrefRecovery t) s = .next y ∧ y = ({ (w.wdReload .a).wdReload .b with clk := { w.clk with ending := true }, seq := { w.seq with stepAt := w.seq.stepAt + (u.now - u.clk.since) } } : State).endRecovery) ∧
  (∀ (s u : State) (t : Nat) (r : Requester), u = s.tickTo t →
    u.writable r O.CLKREF_PAD_RELEASE 1 = true →
    u.ttValid = true →
    exec (.padRelease t r true) s = .next (((List.range 144).foldl (fun (s : State) ch => if s.pllLocked (pllQ (ch / 4)) then s.holdPad ch 2 false else s) (u.holdAll 1 false)).okays r O.CLKREF_PAD_RELEASE)) ∧
  (∀ (s u : State) (t : Nat) (n : Fin 51), u = s.tickTo t →
    u.isSet O.DEV_CLKREF_STABLE = true →
    u.shedOn (pllShed n.val) = true →
    u.clk.due = false →
    n.val = 0 ∨ u.clkLost = false →
    exec (.pllLock t n) s = .next ((if n.val = 0 ∧ u.paused = true then u.resumeProgram else u).clocksNow.setPll n.val true)) ∧
  (∀ (s u : State) (t : Nat) (n : Fin 51) (v : State), u = s.tickTo t →
    u.isSet O.DEV_CLKREF_STABLE = true →
    u.pllLocked n.val = true →
    v = ((u.clocksNow.setPll n.val false).setFlag O.CLK_UNLOCK 0 O.CLK_UNLOCK_COUNT 1).setReg O.CLK_LAST_UNLOCK n.val →
    n.val = 0 →
    exec (.pllUnlock t n) s = .next ({ v.lossNow with clk := { v.lossNow.clk with bySpll := true } })) ∧
  (∀ (s u : State) (t : Nat) (n : Fin 51) (v : State), u = s.tickTo t →
    u.isSet O.DEV_CLKREF_STABLE = true →
    u.pllLocked n.val = true →
    v = ((u.clocksNow.setPll n.val false).setFlag O.CLK_UNLOCK 0 O.CLK_UNLOCK_COUNT 1).setReg O.CLK_LAST_UNLOCK n.val →
    1 ≤ n.val →
    n.val < 37 →
    exec (.pllUnlock t n) s = .next ((List.range 4).foldl (fun (s : State) i => ((s.holdPad (4 * (n.val - 1) + i) 2 true).invalidate (4 * (n.val - 1) + i)).discardPark (4 * (n.val - 1) + i)) v)) ∧
  (∀ (s u : State) (t : Nat) (n : Fin 51) (v : State), u = s.tickTo t →
    u.isSet O.DEV_CLKREF_STABLE = true →
    u.pllLocked n.val = true →
    v = ((u.clocksNow.setPll n.val false).setFlag O.CLK_UNLOCK 0 O.CLK_UNLOCK_COUNT 1).setReg O.CLK_LAST_UNLOCK n.val →
    37 ≤ n.val →
    n.val < 41 →
    exec (.pllUnlock t n) s = .next (v)) ∧
  (∀ (s u : State) (t : Nat) (n : Fin 51) (v : State), u = s.tickTo t →
    u.isSet O.DEV_CLKREF_STABLE = true →
    u.pllLocked n.val = true →
    v = ((u.clocksNow.setPll n.val false).setFlag O.CLK_UNLOCK 0 O.CLK_UNLOCK_COUNT 1).setReg O.CLK_LAST_UNLOCK n.val →
    41 ≤ n.val →
    n.val < 45 →
    exec (.pllUnlock t n) s = .next ((List.range 2).foldl (fun (s : State) i => if s.reg (O.MEMC_STATE (2 * (n.val - 41) + i)) = 2 then s.setReg (O.MEMC_STATE (2 * (n.val - 41) + i)) 3 else s) v)) ∧
  (∀ (s u : State) (t : Nat) (n : Fin 51) (v : State), u = s.tickTo t →
    u.isSet O.DEV_CLKREF_STABLE = true →
    u.pllLocked n.val = true →
    v = ((u.clocksNow.setPll n.val false).setFlag O.CLK_UNLOCK 0 O.CLK_UNLOCK_COUNT 1).setReg O.CLK_LAST_UNLOCK n.val →
    45 ≤ n.val →
    n.val < 49 →
    exec (.pllUnlock t n) s = .next (v.yardDown (n.val - 45) 2)) ∧
  (∀ (s u : State) (t : Nat) (n : Fin 51) (v : State), u = s.tickTo t →
    u.isSet O.DEV_CLKREF_STABLE = true →
    u.pllLocked n.val = true →
    v = ((u.clocksNow.setPll n.val false).setFlag O.CLK_UNLOCK 0 O.CLK_UNLOCK_COUNT 1).setReg O.CLK_LAST_UNLOCK n.val →
    49 ≤ n.val →
    exec (.pllUnlock t n) s = .next (v.mgtLink (n.val - 49) false 0)) ∧
  (∀ (s u : State) (t : Nat) (r : Requester) (crc : Nat) (img : List Byte), u = s.tickTo t →
    u.commitReady r O.CLK_CLK_ENABLE crc img = true →
    (ownClkEnable img 0 (u.setXfer O.CLK_CLK_ENABLE none)).1 = .okay →
    img.length = 52 →
    ∃ y, exec (.clkEnable t r crc 0) s = .next y ∧ y.image O.CLK_CLK_ENABLE = img ∧ y.reply.status = .okay) ∧
  (∀ (s u : State) (t : Nat) (r : Requester) (g : Fin 16) (v : Nat), u = s.tickTo t →
    u.writable r (O.GCLK_SRC g.val) v = true →
    u.gclkSource v = true →
    exec (.src t r (.global g) v) s = .next ((u.fabricNow.setReg (O.GCLK_SRC g.val) v).okays r (O.GCLK_SRC g.val))) ∧
  (∀ (s u : State) (t : Nat) (r : Requester) (g : Fin 24) (v : Nat), u = s.tickTo t →
    u.writable r (O.RCLK_SRC g.val) v = true →
    u.domainReady (340 + v) = true →
    exec (.src t r (.regional g) v) s = .next ((u.fabricNow.setReg (O.RCLK_SRC g.val) v).okays r (O.RCLK_SRC g.val))) ∧
  (∀ (s u : State) (t : Nat) (r : Requester) (g : Fin 24) (v : Nat), u = s.tickTo t →
    u.writable r (O.RCLK_DIV g.val) v = true →
    u.domainReady (340 + u.reg (O.RCLK_SRC g.val)) = true →
    exec (.src t r (.divider g) v) s = .next ((u.fabricNow.setReg (O.RCLK_DIV g.val) v).okays r (O.RCLK_DIV g.val))) ∧
  (∀ (s u : State) (t : Nat) (r : Requester) (f : Fin 4) (v : Nat), u = s.tickTo t →
    u.writable r (O.FPLL_M f.val) v = true →
    fpllOk v (u.reg (O.FPLL_DIV f.val)) = true →
    (List.range 16).any (fun g => u.domainRunning (340 + g) && decide (u.reg (O.GCLK_SRC g) < 16) && u.reg (O.GCLK_SRC g) / 4 == f.val) = false →
    exec (.fpllSetting t r f false v) s = .next (((u.setReg (O.FPLL_M f.val) v).setPll (pllF f.val) false).okays r (O.FPLL_M f.val)))

/-- Shed resets, fences, the steps of shed programs and sleep complete. Each clause names a command and conditions on the operands and
on u alone, u being the state with its clock at the command's instant t. For every state and all operands that meet them, exec of
the command answers a next state, and it is the one written out from u: what it does not name stays as it was in u. Where a clause
asks only for some next state y, it says of y what it lists. They cover SHED_RESET, FENCE_STEP, UNFENCE_STEP, FENCE, UNFENCE,
SET_SHED, SHED_WAIT, COMMIT, SET_STATE, PROGRAM_END, SHED_PROGRAM_COMMIT, SLEEP_ARM, SLEEP_CANCEL, WAKE_EVENT, WAKE_REQUEST,
SLEEP_ENTRY and RUN_USER. The checks of a program before it runs rest on log entry 131. Rests on R87, R350, R351, R409, R410,
R411, R412, R414, R415, R416. -/
def Obligations.PowerProgramCommandsComplete : Prop :=
  (∀ (s u : State) (t : Nat) (r : Requester) (sh : Fin 98), u = s.tickTo t →
    u.writable r (O.SHED_SHED_RESET sh.val) 1 = true →
    u.reg O.PWR_PROG_RUN = 0 →
    sh.val < 92 →
    u.shedOn sh.val = true →
    u.mayLeave sh.val = true →
    exec (.shedReset t r sh true) s = .next ((u.beginReset sh.val).okays r (O.SHED_SHED_RESET sh.val))) ∧
  (∀ (s u : State) (t : Nat) (w : Nat) (v : State), u = s.tickTo t →
    u.stepNow 1 = some w →
    u.seq.begun = false →
    ((stepSheds w).foldl State.fenceShed u) = v →
    (stepSheds w).all (fun sh => v.reg (O.RS_FENCE_STATE sh) == 2) = true →
    exec (.fenceStep t) s = .next (({ v with seq := { v.seq with begun := true, fenced := v.seq.fenced ++ (stepSheds w).filter fun sh => u.reg (O.RS_FENCE_STATE sh) == 0 } } : State).stepDone)) ∧
  (∀ (s u : State) (t : Nat) (w : Nat), u = s.tickTo t →
    u.stepNow 2 = some w →
    (stepSheds w).any (fun sh => !u.shedOn sh) = false →
    exec (.unfenceStep t) s = .next (((stepSheds w).foldl State.unfenceShed u).stepDone)) ∧
  (∀ (s u : State) (t : Nat) (w : Nat) (rs : Fin 98), u = s.tickTo t →
    u.stepNow 1 = some w →
    (stepSheds w).contains rs.val = true →
    u.reg (O.RS_FENCE_STATE rs.val) = 0 →
    exec (.fence t rs) s = .next ({ u.fenceShed rs.val with seq := { u.seq with fenced := u.seq.fenced ++ [rs.val] } })) ∧
  (∀ (s u : State) (t : Nat) (w : Nat) (rs : Fin 98), u = s.tickTo t →
    u.resetting.contains rs.val = false →
    u.stepNow 2 = some w →
    (stepSheds w).contains rs.val = true →
    u.shedOn rs.val = true →
    exec (.unfence t rs) s = .next (u.unfenceShed rs.val)) ∧
  (∀ (s u : State) (t : Nat) (w : Nat), u = s.tickTo t →
    u.stepNow 3 = some w →
    (stepSheds w).all (fun sh => u.maySet sh (stepState w)) = true →
    exec (.setShed t) s = .next (((stepSheds w).foldl (fun (s : State) sh => s.moveShed sh (stepState w)) u).stepDone)) ∧
  (∀ (s u : State) (t : Nat) (w : Nat), u = s.tickTo t →
    u.stepNow 4 = some w →
    u.seq.stepAt + stepArg w * Config.usUnits ≤ u.now →
    exec (.shedWait t) s = .next (u.stepDone)) ∧
  (∀ (s u : State) (t : Nat) (w : Nat), u = s.tickTo t →
    u.wakeIn = 0 →
    u.stepNow 5 = some w →
    exec (.commit t) s = .next ({ u.stepDone with seq := { u.stepDone.seq with commitAt := u.now / Config.aonUnits + 1 } })) ∧
  (∀ (s u : State) (t : Nat) (w : Nat), u = s.tickTo t →
    u.stepNow 6 = some w →
    exec (.setState t) s = .next ((u.setReg O.DEV_DEVICE_STATE (bits w 1 0)).stepDone)) ∧
  (∀ (s u : State) (t : Nat) (w : Nat), u = s.tickTo t →
    u.stepNow 0 = some w →
    u.reg O.PWR_PROG_RUN = 4 →
    exec (.programEnd t) s = .next (({ u.setReg O.PWR_PROG_RUN 0 with seq := {} } : State).setReg O.PWR_USER_STATUS Status.okay.code)) ∧
  (∀ (s u : State) (t : Nat) (r : Requester) (crc : Nat) (img : List Byte) (k : Fin 4), u = s.tickTo t →
    u.commitReady r (O.SPROG_PROGRAM k.val) crc img = true →
    u.progRefused k.val img = false →
    u.reg O.PWR_PROG_RUN = 0 →
    ∃ y, exec (.shedProgramCommit t r k crc 0) s = .next y ∧ y.image (O.SPROG_PROGRAM k.val) = img ∧ y.reply.status = .okay) ∧
  (∀ (s u : State) (t : Nat) (r : Requester) (v : State), u = s.tickTo t →
    u.writable r O.PWR_SLEEP_ARM 1 = true →
    u.reg O.DEV_DEVICE_STATE = 1 →
    u.sched .sleep 0 = none →
    u.reg O.PWR_PROG_RUN = 0 →
    u.mayArm (u.reg O.PWR_SLEEP_AT) true = true →
    u.armAction .sleep 0 (u.reg O.PWR_SLEEP_AT) (u.reg O.PWR_SLEEP_TARGET) = (.okay, v) →
    exec (.sleepArm t r true) s = .next ((v).okays r O.PWR_SLEEP_ARM)) ∧
  (∀ (s u : State) (t : Nat) (r : Requester)  (a : Sched), u = s.tickTo t →
    u.writable r O.PWR_SLEEP_CANCEL 1 = true →
    u.sched .sleep 0 = some a →
    (u.now / Config.tickUnits + 1) * Config.tickUnits ≤ u.effectAt .sleep (0) a →
    exec (.sleepCancel t r true) s = .next ((u.endAction .sleep 0 2).okays r O.PWR_SLEEP_CANCEL)) ∧
  (∀ (s u : State) (t : Nat), u = s.tickTo t →
    exec (.wakeEvent t) s = .next (u.takeWakes)) ∧
  (∀ (s u : State) (t : Nat) (r : Requester), u = s.tickTo t →
    u.writable r O.PWR_WAKE_REQUEST 1 = true →
    exec (.wakeRequest t r true) s = .next ((u.wakeAt 0).okays r O.PWR_WAKE_REQUEST)) ∧
  (∀ (s u : State) (t : Nat) (a : Sched), u = s.tickTo t →
    u.sched .sleep 0 = some a →
    u.due .sleep 0 a = true →
    u.reg O.DEV_DEVICE_STATE = 1 →
    u.reg O.PWR_PROG_RUN = 0 →
    exec (.sleepEntry t) s = .next ((u.endAction .sleep 0 1).startProgram (if a.arg = 3 then 1 else 0))) ∧
  (∀ (s u : State) (t : Nat) (r : Requester), u = s.tickTo t →
    u.writable r O.PWR_RUN_USER 1 = true →
    u.reg O.PWR_PROG_RUN = 0 →
    exec (.runUser t r true) s = .next ((u.startProgram 3).okays r O.PWR_RUN_USER))

/-- Resets, supply supervision and temperatures complete. Each clause names a command and conditions on the operands and on u alone, u
being the state with its clock at the command's instant t. For every state and all operands that meet them, exec of the command
answers a next state, and it is the one written out from u: what it does not name stays as it was in u. Where a clause asks only
for some next state y, it says of y what it lists. They cover POWER_ON_RESET, PIN_RESET, SUPPLY_OUT_OF_RANGE, SUPPLY_IN_RANGE,
SUPPLY_BELOW_THRESHOLD, VDDQ_LOW, TEMP_REFRESH, THERMAL_TRIP and THERM_RELEASE. Which stored keys fail their check at a reset is
an operand (log entry 139). Rests on R424, R446, R449, R450. -/
def Obligations.SupplyAndResetCommandsComplete : Prop :=
  (∀ (s u : State) (t : Nat) (mode : Fin 4) (bad : List (Fin 5)), u = s.tickTo t →
    u.porAt.any (fun a => decide (u.now < a + 2 * Config.msUnits)) = false →
    exec (.powerOnReset t mode bad) s = .next (bad.foldl (fun (s : State) k => s.keyFails k.val) (u.resetDevice true 0 mode.val))) ∧
  (∀ (s u : State) (t : Nat) (width : Nat) (mode : Fin 4) (bad : List (Fin 5)), u = s.tickTo t →
    20000 ≤ width →
    exec (.pinReset t width mode bad) s = .next (bad.foldl (fun (s : State) k => s.keyFails k.val) (u.resetDevice false 1 mode.val))) ∧
  (∀ (s u : State) (t : Nat) (rail : Fin 8), u = s.tickTo t →
    (u.reg O.SUP_SUPPLY_OK).testBit rail.val = true →
    exec (.supplyOutOfRange t rail) s = .next ((u.setReg O.SUP_SUPPLY_OK (setBit (u.reg O.SUP_SUPPLY_OK) rail.val false)).setFlag O.SUP_SUPPLY_WARN rail.val O.SUP_SUPPLY_WARN_COUNT 1)) ∧
  (∀ (s u : State) (t : Nat) (rail : Fin 8), u = s.tickTo t →
    rail.val ≠ railVddq →
    exec (.supplyInRange t rail) s = .next (u.setReg O.SUP_SUPPLY_OK (setBit (u.reg O.SUP_SUPPLY_OK) rail.val true))) ∧
  (∀ (s u : State) (t : Nat) (rail : Fin 8), u = s.tickTo t →
    rail.val = railVddq →
    exec (.supplyInRange t rail) s = .next ((u.setReg O.SUP_SUPPLY_OK (setBit (u.reg O.SUP_SUPPLY_OK) rail.val true)).setReg O.SUP_VDDQ_LOW 0)) ∧
  (∀ (s u : State) (t : Nat) (rail : Fin 8), u = s.tickTo t →
    rail.val ≠ railVddq →
    exec (.supplyBelowThreshold t rail) s = .next ({ u.resetDevice true 0 0 with porAt := some u.now })) ∧
  (∀ (s u : State) (t : Nat), u = s.tickTo t →
    exec (.vddqLow t) s = .next ((List.range 8).foldl (fun (s : State) m => if s.reg (O.MEMC_STATE m) = 0 then s else s.setReg (O.MEMC_STATE m) 4) ((u.noteStep1.setReg O.SUP_VDDQ_LOW 1).setReg O.MEM_MEM_STATE 3))) ∧
  (∀ (s u : State) (t : Nat) (sensors : List Int) (sense : List Nat), u = s.tickTo t →
    sensors.length = 20 →
    u.tempWarn ≤ signed 32 (unsigned 32 (hottest sensors)) →
    u.hot = false →
    ∃ y, exec (.tempRefresh t sensors sense) s = .next y ∧ y.reg O.DEV_TEMP = unsigned 32 (hottest sensors) ∧ y.hot = true ∧ (y.reg O.DEV_FAULT).testBit 2 = true) ∧
  (∀ (s u : State) (t : Nat), u = s.tickTo t →
    u.tripped = false →
    120000 ≤ u.temp →
    ∃ y, exec (.thermalTrip t) s = .next y ∧ y.tripped = true) ∧
  (∀ (s u : State) (t : Nat) (r : Requester), u = s.tickTo t →
    u.writable r O.SUP_THERM_RELEASE 1 = true →
    u.temp < u.tempWarn - 5000 →
    exec (.thermRelease t r true) s = .next (({ (u.holdAll 4 false).recovery 2 false with tripped := false }).okays r O.SUP_THERM_RELEASE))

/-- The steps of the start-up program complete: WAIT_LOCK to END. Each clause names a command and conditions on the operands and on u
alone, u being the state with its clock at the command's instant t. For every state and all operands that meet them, exec of the
command answers a next state, and it is the one written out from u: what it does not name stays as it was in u. They cover
WAIT_LOCK and its timeout, WAIT_TIME, RELEASE_GSR, ENABLE_WRITES, RELEASE_GPIO, RELEASE_OUTPUTS, START_MC with and without an
image, DONE and END. Rests on R319, R320, R321, R322. -/
def Obligations.StartupStepsComplete : Prop :=
  (∀ (s u : State) (t : Nat) (a : Nat), u = s.tickTo t →
    u.startStep 1 = some a →
    u.locksHold a = true →
    exec (.waitLock t) s = .next (u.startDone)) ∧
  (∀ (s u : State) (t : Nat) (a : Nat), u = s.tickTo t →
    u.startStep 1 = some a →
    a / 256 ≠ 0 →
    u.locksHold a = false →
    u.cfg.stepAt + a / 256 * Config.usUnits ≤ u.now →
    exec (.waitLockTimeout t) s = .next (((u.setReg O.CFG_STARTUP_STATUS Status.timeout.code).setReg O.CFG_CFG_STATE 5).setCfg { u.cfg with errLow := true })) ∧
  (∀ (s u : State) (t : Nat) (a : Nat), u = s.tickTo t →
    u.startStep 2 = some a →
    u.cfg.stepAt + a * Config.usUnits ≤ u.now →
    exec (.waitTime t) s = .next (u.startDone)) ∧
  (∀ (s u : State) (t : Nat) (a : Nat), u = s.tickTo t →
    u.startStep 3 = some a →
    exec (.releaseGsr t) s = .next ((u.fabricNow.release a).startDone)) ∧
  (∀ (s u : State) (t : Nat) (a : Nat), u = s.tickTo t →
    u.startStep 4 = some a →
    exec (.enableWrites t) s = .next ((u.release (a * 16)).startDone)) ∧
  (∀ (s u : State) (t : Nat) (a : Nat), u = s.tickTo t →
    u.startStep 5 = some a →
    exec (.releaseGpio t) s = .next ((u.release (a * 256)).startDone)) ∧
  (∀ (s u : State) (t a : Nat), u = s.tickTo t → u.startStep 6 = some a →
    exec (.releaseOutputs t) s = .next (((if a.testBit 1 then (List.range 16).foldl (fun (s : State) n => s.holdTrig n 0 false)
      (if a.testBit 0 then (List.range 144).foldl (fun (s : State) ch => s.holdPad ch 0 false) u else u)
      else (if a.testBit 0 then (List.range 144).foldl (fun (s : State) ch => s.holdPad ch 0 false) u else u)).release (a * 4096)).startDone)) ∧
  (∀ (s u : State) (t : Nat) (a : Nat), u = s.tickTo t →
    u.startStep 7 = some a →
    a.testBit 0 = true →
    a.testBit 1 = false →
    exec (.startMc t) s = .next ((u.countMc.startMc .a).startDone)) ∧
  (∀ (s u : State) (t : Nat) (a : Nat), u = s.tickTo t →
    u.startStep 7 = some a →
    a.testBit 0 = false →
    a.testBit 1 = true →
    exec (.startMc t) s = .next ((u.countMc.startMc .b).startDone)) ∧
  (∀ (s u : State) (t : Nat) (a : Nat), u = s.tickTo t →
    u.startStep 7 = some a →
    a.testBit 0 = true →
    a.testBit 1 = true →
    exec (.startMc t) s = .next (((u.countMc.startMc .a).startMc .b).startDone)) ∧
  (∀ (s u : State) (t : Nat) (a : Nat), u = s.tickTo t →
    u.startStep 8 = some a →
    exec (.doneStep t) s = .next ({ (u.release (2 ^ 16)).startDone with cfg := { u.startDone.cfg with done := true } })) ∧
  (∀ (s u : State) (t : Nat) (a : Nat), u = s.tickTo t →
    u.startStep 0 = some a →
    exec (.endStep t) s = .next (((u.setReg O.DEV_DEVICE_STATE 1).setReg O.CFG_CFG_STATE 4).setReg O.CFG_STARTUP_STEP u.cfg.step))

/-- Requests of the debug ports, the test access port and the one-wire port complete. Each clause names a command and conditions on
the operands and on u alone, u being the state with its clock at the command's instant t. For every state and all operands that
meet them, exec of the command answers a next state, and it is the one written out from u: what it does not name stays as it was
in u. They cover DEBUG_READ, DEBUG_WRITE, DEBUG_STATUS, DEBUG_RESET, DEBUG_REQUEST_TIMEOUT, DBG with the port ready and busy,
BREAK, TAP_INSTRUCTION and ONE_WIRE_FRAME. The bits of DBG that no reply gives are free values (log entry 155). Rests on R420,
R421, R423, R424, R425, R426. -/
def Obligations.DebugCommandsComplete : Prop :=
  (∀ (s u : State) (t : Nat) (tap : Bool) (req : List Byte) (since : Nat) (st : Status) (d : List Byte) (w : State), u = s.tickTo t →
    u.debugReq tap = some (req, since) →
    dbgOp req = 1 →
    u.now < since + dbgLimit →
    u.debugRead (dbgAddr req) = some (st, d, w) →
    exec (.debugRead t tap) s = .next ((w.debugSteal req since).debugDone tap st d)) ∧
  (∀ (s u : State) (t : Nat) (tap : Bool) (req : List Byte) (since : Nat) (st : Status) (w : State), u = s.tickTo t →
    u.debugReq tap = some (req, since) →
    dbgOp req = 2 →
    u.now < since + dbgLimit →
    u.debugWrite (dbgAddr req) (dbgEnable req) (dbgData req) = some (st, w) →
    exec (.debugWrite t tap) s = .next ((w.debugSteal req since).debugDone tap st [])) ∧
  (∀ (s u : State) (t : Nat) (tap : Bool) (req : List Byte) (since : Nat), u = s.tickTo t →
    u.debugReq tap = some (req, since) →
    dbgOp req = 3 →
    u.now < since + dbgLimit →
    exec (.debugStatus t tap) s = .next ((u.debugSteal req since).debugDone tap .okay u.debugStatus)) ∧
  (∀ (s u : State) (t : Nat) (tap : Bool) (mode : Fin 4) (bad : List (Fin 5)) (req : List Byte) (since : Nat), u = s.tickTo t →
    u.dbg.resetAt = none →
    u.debugReq tap = some (req, since) →
    dbgOp req = 4 →
    u.now < since + dbgLimit →
    u.reg O.DBG_DEBUG_LEVEL = 2 →
    dbgData req = fill 8 0x5A →
    exec (.debugReset t tap mode bad) s = .next ((({ u with dbg := { u.dbg with resetAt := some (u.now + 10 * Config.usUnits) } } : State).debugSteal req since).debugDone tap .okay [])) ∧
  (∀ (s u : State) (t : Nat) (tap : Bool) (mode : Fin 4) (bad : List (Fin 5)) (a : Nat), u = s.tickTo t →
    u.dbg.resetAt = some a →
    a ≤ u.now →
    exec (.debugReset t tap mode bad) s = .next (u.pinReset 2 mode.val bad)) ∧
  (∀ (s u : State) (t : Nat) (tap : Bool) (req : List Byte) (since : Nat), u = s.tickTo t →
    u.debugReq tap = some (req, since) →
    since + dbgLimit ≤ u.now →
    exec (.debugRequestTimeout t tap) s = .next (u.debugTimeout tap req)) ∧
  (∀ (s u : State) (t : Nat) (req r : List Byte), u = s.tickTo t →
    u.dbg.tapIr = tapDbg →
    u.dbg.tapReply = some r →
    u.dbg.tapReq = none →
    exec (.dbg t req) s = .next (({ u with sent := u.sent ++ [⟨6, leBytes 16 (1 + 2 * leNat r)⟩] } : State).debugIssue true (slice 0 16 (req ++ fill 16 0)))) ∧
  (∀ (s u : State) (t : Nat) (req r : List Byte) (w : State), u = s.tickTo t →
    u.dbg.tapIr = tapDbg →
    u.dbg.tapReply = none →
    u.drawBytes 9 = (r, w) →
    w.dbg = u.dbg →
    u.dbg.tapReq = none →
    exec (.dbg t req) s = .next (({ w with sent := w.sent ++ [⟨6, leBytes 16 (2 * leNat r)⟩] } : State).debugIssue true (slice 0 16 (req ++ fill 16 0)))) ∧
  (∀ (s u : State) (t : Nat), u = s.tickTo t →
    exec (.break t) s = .next ({ u.abandonFrame with dbg := { u.abandonFrame.dbg with owFrame := true } })) ∧
  (∀ (s u : State) (t : Nat) (op : BitVec 8), u = s.tickTo t →
    tapPads op.toNat = true →
    u.tapMayDrive = true →
    exec (.tapInstruction t op) s = .next ({ u with dbg := { u.dbg with tapIr := op.toNat } })) ∧
  (∀ (s u : State) (t : Nat) (op : BitVec 8), u = s.tickTo t →
    tapPads op.toNat = false →
    op ≠ 1#8 →
    op ≠ 2#8 →
    op ≠ 0x20#8 →
    exec (.tapInstruction t op) s = .next ({ u with dbg := { u.dbg with tapIr := 0xFF } })) ∧
  (∀ (s u : State) (t : Nat) (op : BitVec 8), u = s.tickTo t →
    op = 1#8 ∨ op = 2#8 ∨ op = 0x20#8 →
    exec (.tapInstruction t op) s = .next ({ u with dbg := { u.dbg with tapIr := op.toNat } })) ∧
  (∀ (s u : State) (t : Nat) (frame : List Byte), u = s.tickTo t →
    u.dbg.owFrame = true →
    frame.length = 17 →
    u.dbg.owReq = none →
    byteAt frame 16 = crc8 (frame.take 16) →
    exec (.oneWireFrame t frame) s = .next (({ u with dbg := { u.dbg with owFrame := false } }).debugIssue false (frame.take 16)))

/-- The memory controllers complete: MEM_ENABLE, training, retraining, ZQ, refresh, MR4 and leaving self-refresh. Each clause names a
command and conditions on the operands and on u alone, u being the state with its clock at the command's instant t. For every
state and all operands that meet them, exec of the command answers a next state, and it is the one written out from u: what it
does not name stays as it was in u. MEM_ENABLE has clauses for 1 and for 0. CAPACITY before MEM_INIT_COMPLETE rests on log entry
114, the MR4 codes on log entry 115. Rests on R355, R356, R357, R358. -/
def Obligations.MemoryControllerCommandsComplete : Prop :=
  (∀ (s u : State) (t : Nat) (r : Requester), u = s.tickTo t →
    u.writable r O.MEM_MEM_ENABLE 1 = true →
    u.reg O.MEM_MEM_STATE = 0 ∨ u.reg O.MEM_MEM_STATE = 3 →
    (List.range 4).all (fun q => u.pllLocked (pllM q)) = true →
    u.isSet O.SUP_VDDQ_LOW = false →
    exec (.memEnable t r true) s = .next (((List.range 8).foldl (fun (s : State) m => ((s.setReg (O.MEMC_STATE m) 1).setReg (O.MEMC_TRAIN_STEP m) 0).setReg (O.MEMC_TRAIN_STATUS m) 0) { (u.noteStep1.setReg O.MEM_MEM_ENABLE 1).setReg O.MEM_MEM_STATE 1 with memInitAt := u.now }).okays r O.MEM_MEM_ENABLE)) ∧
  (∀ (s u : State) (t : Nat) (r : Requester), u = s.tickTo t →
    u.writable r O.MEM_MEM_ENABLE 0 = true →
    u.anyRegion = false →
    exec (.memEnable t r false) s = .next (((List.range 8).foldl (fun (s : State) m => s.setReg (O.MEMC_STATE m) 0) (((u.noteStep1.setReg O.MEM_MEM_ENABLE 0).setReg O.MEM_MEM_STATE 0).setReg O.MEM_CAPACITY 0)).okays r O.MEM_MEM_ENABLE)) ∧
  (∀ (s u : State) (t : Nat) (m : Fin 8) (step : Fin 7), u = s.tickTo t →
    u.reg (O.MEMC_STATE m.val) = 1 →
    exec (.trainingStepTimeout t m step) s = .next (((((if step.val = 0 then u else { u with memStep1 := Tbl.set false u.memStep1 m.val true }).setReg (O.MEMC_STATE m.val) 4).setReg (O.MEMC_TRAIN_STEP m.val) (step.val + 1)).setReg (O.MEMC_TRAIN_STATUS m.val) Status.timeout.code).setReg O.MEM_MEM_STATE 3)) ∧
  (∀ (s u : State) (t : Nat), u = s.tickTo t →
    u.reg O.MEM_MEM_STATE = 1 →
    (List.range 8).all (fun m => decide (u.reg (O.MEMC_STATE m) = 1)) = true →
    exec (.memInitComplete t) s = .next ((List.range 8).foldl (fun (s : State) m => ({ s with memStep1 := Tbl.set false s.memStep1 m true }.setReg (O.MEMC_STATE m) 2).setReg (O.MEMC_TRAIN_STEP m) 7) ((u.setReg O.MEM_MEM_STATE 2).setReg O.MEM_CAPACITY (capacityOf (u.reg O.MEM_MEM_CONFIG))))) ∧
  (∀ (s u : State) (t : Nat) (m : Fin 8) (drift : Int), u = s.tickTo t →
    u.reg (O.MEMC_STATE m.val) = 2 →
    Tbl.get 0 u.retrainAt m.val + u.reg (O.MEMC_RETRAIN_INTERVAL m.val) * Config.msUnits ≤ u.now →
    16 < drift.natAbs →
    exec (.retrainInterval t m drift) s = .next ({ { u with retrainAt := Tbl.set 0 u.retrainAt m.val u.now }.bump (O.MEMC_RETRAINS m.val) 1 with dqDelay := Tbl.set 0 u.dqDelay m.val (Tbl.get 0 u.dqDelay m.val + drift) })) ∧
  (∀ (s u : State) (t : Nat) (m : Fin 8) (drift : Int), u = s.tickTo t →
    u.reg (O.MEMC_STATE m.val) = 2 →
    Tbl.get 0 u.retrainAt m.val + u.reg (O.MEMC_RETRAIN_INTERVAL m.val) * Config.msUnits ≤ u.now →
    drift.natAbs ≤ 16 →
    exec (.retrainInterval t m drift) s = .next ({ u with retrainAt := Tbl.set 0 u.retrainAt m.val u.now })) ∧
  (∀ (s u : State) (t : Nat) (m : Fin 8), u = s.tickTo t →
    u.reg (O.MEMC_STATE m.val) = 2 →
    Tbl.get 0 u.zqAt m.val + 64 * Config.msUnits ≤ u.now →
    exec (.zqLatch t m) s = .next ({ u with zqAt := Tbl.set 0 u.zqAt m.val u.now })) ∧
  (∀ (s u : State) (t : Nat) (m : Fin 8) (bank late : Nat), u = s.tickTo t →
    u.reg (O.MEMC_STATE m.val) = 2 →
    Tbl.get (0, 0) u.refresh m.val = (bank, late) →
    late < 8 →
    exec (.refreshInterval t m true) s = .next (({ u with refresh := Tbl.set (0, 0) u.refresh m.val (bank, late + 1) }.bump (O.MEMC_REF_POSTPONED m.val) 1).countEvent 3 m.val 2 1)) ∧
  (∀ (s u : State) (t : Nat) (m : Fin 8) (bank late : Nat), u = s.tickTo t →
    u.reg (O.MEMC_STATE m.val) = 2 →
    Tbl.get (0, 0) u.refresh m.val = (bank, late) →
    8 ≤ late →
    exec (.refreshInterval t m true) s = .next ({ u with refresh := Tbl.set (0, 0) u.refresh m.val ((bank + 1) % 8, late) })) ∧
  (∀ (s u : State) (t : Nat) (m : Fin 8) (bank late : Nat), u = s.tickTo t →
    u.reg (O.MEMC_STATE m.val) = 2 →
    Tbl.get (0, 0) u.refresh m.val = (bank, late) →
    exec (.refreshInterval t m false) s = .next ({ u with refresh := Tbl.set (0, 0) u.refresh m.val ((bank + 1 + late) % 8, 0) })) ∧
  (∀ (s u : State) (t : Nat) (m : Fin 8) (code : Nat), u = s.tickTo t →
    u.reg (O.MEMC_STATE m.val) = 2 →
    5 ≤ code % 8 →
    exec (.mr4Poll t m code) s = .next ((u.setReg (O.MEMC_MR4 m.val) (code % 8)).setFlag (O.MEMC_HOT m.val) 0 (O.MEMC_HOT_COUNT m.val) 1)) ∧
  (∀ (s u : State) (t : Nat) (m : Fin 8) (code : Nat), u = s.tickTo t →
    u.reg (O.MEMC_STATE m.val) = 2 →
    code % 8 < 5 →
    exec (.mr4Poll t m code) s = .next (u.setReg (O.MEMC_MR4 m.val) (code % 8))) ∧
  (∀ (s u : State) (t : Nat) (m : Fin 8), u = s.tickTo t →
    u.reg (O.MEMC_STATE m.val) = 3 →
    u.shedOn (quadStop (m.val / 2) 20) = true →
    u.pllLocked (pllM (m.val / 2)) = true →
    u.clkLost = false →
    u.isSet O.SUP_VDDQ_LOW = false →
    exec (.selfRefreshExit t m) s = .next (((u.setReg (O.MEMC_STATE m.val) 2).setReg (O.MEMC_TRAIN_STEP m.val) 7).memDrain))

/-- Reads and writes of pattern memory complete: MEMORY_READ, FULL_LINE_WRITE, PARTIAL_WRITE, page re-encryption and WINDOW. Each
clause names a command and conditions on the operands and on u alone, u being the state with its clock at the command's instant t.
For every state and all operands that meet them, exec of the command answers a next state, and it is the one written out from u:
what it does not name stays as it was in u. A line written is written with writeLine under its present MAJOR and the next MINOR,
at the line that holds the address; no other byte of memory is written. Latencies and waits are operands (log entry 120); a byte
nothing has written reads 0 (log entry 10). Rests on R362, R364, R365, R366, R367, R368. -/
def Obligations.MemoryAccessCommandsComplete : Prop :=
  (∀ (s u : State) (t : Nat) (addr lat wait e : Nat) (v w : State) (rg : Region) (l : LineRead), u = s.tickTo t →
    v = u.memMeasure addr lat wait →
    v.memStatus (addr / 64 * 64) = .okay →
    v.memWaits (addr / 64 * 64) = false →
    v.regionOf (paOf (addr / 64 * 64)) = some (e, rg) →
    w = ((((if kidOf (addr / 64 * 64) = 0 then v else v.sramRead 6 0 (kidOf (addr / 64 * 64)) 1).bump (O.MEMC_READS (v.memCtl (paOf (addr / 64 * 64)))) 1).countEvent 3 (v.memCtl (paOf (addr / 64 * 64))) 0 1).bump (O.KID_ACCESSES (kidOf (addr / 64 * 64))) 1).tagAccess (v.memCtl (paOf (addr / 64 * 64))) rg (rg.lineNo (paOf (addr / 64 * 64))) false (kidOf (addr / 64 * 64)) →
    l = w.readLineAt rg (paOf (addr / 64 * 64)) (w.kidKey (w.effKid (kidOf (addr / 64 * 64)) (paOf (addr / 64 * 64)))) →
    l.check = .pass →
    exec (.memoryRead t addr 1 lat wait) s = .next (((if l.fixed then w.bump O.MEM_CORRECTED 1 else w).memTally (addr / 64 * 64) false .okay).memReply .okay l.data)) ∧
  (∀ (s u : State) (t : Nat) (addr lat wait e : Nat) (bytes : List Byte) (v w : State) (rg : Region), u = s.tickTo t →
    v = u.memMeasure addr lat wait →
    v.memStatus (addr / 64 * 64) = .okay →
    v.memWaits (addr / 64 * 64) = false →
    v.regionOf (paOf (addr / 64 * 64) / 64 * 64) = some (e, rg) →
    w = ((((if kidOf (addr / 64 * 64) = 0 then v else v.sramRead 6 0 (kidOf (addr / 64 * 64)) 1).bump (O.MEMC_WRITES (v.memCtl (paOf (addr / 64 * 64) / 64 * 64))) 1).countEvent 3 (v.memCtl (paOf (addr / 64 * 64) / 64 * 64)) 1 1).bump (O.KID_ACCESSES (kidOf (addr / 64 * 64))) 1).tagAccess (v.memCtl (paOf (addr / 64 * 64) / 64 * 64)) rg (rg.lineNo (paOf (addr / 64 * 64) / 64 * 64)) true (kidOf (addr / 64 * 64)) →
    bytes.length = 64 →
    rg.mode < 2 ∨ minorOf w.dram rg (rg.lineNo (paOf (addr / 64 * 64) / 64 * 64)) ≠ 127 →
    exec (.fullLineWrite t addr bytes lat wait) s = .next ((({ w with dram := writeLine w.dram rg (paOf (addr / 64 * 64) / 64 * 64) (v.kidKey (v.effKid (kidOf (addr / 64 * 64)) (paOf (addr / 64 * 64) / 64 * 64))) (majorOf w.dram rg (rg.lineNo (paOf (addr / 64 * 64) / 64 * 64))) (minorOf w.dram rg (rg.lineNo (paOf (addr / 64 * 64) / 64 * 64)) + 1) false bytes }.lineWritten (paOf (addr / 64 * 64) / 64 * 64)).memTally (addr / 64 * 64) true .okay).memReply .okay [])) ∧
  (∀ (s u : State) (t : Nat) (addr lat wait e : Nat) (bytes : List Byte) (v w : State) (rg : Region), u = s.tickTo t →
    v = u.memMeasure addr lat wait →
    v.memStatus (addr) = .okay →
    v.memWaits (addr) = false →
    v.regionOf (paOf (addr) / 64 * 64) = some (e, rg) →
    w = ((((if kidOf (addr) = 0 then v else v.sramRead 6 0 (kidOf (addr)) 1).bump (O.MEMC_WRITES (v.memCtl (paOf (addr) / 64 * 64))) 1).countEvent 3 (v.memCtl (paOf (addr) / 64 * 64)) 1 1).bump (O.KID_ACCESSES (kidOf (addr))) 1).tagAccess (v.memCtl (paOf (addr) / 64 * 64)) rg (rg.lineNo (paOf (addr) / 64 * 64)) true (kidOf (addr)) →
    bytes.length < 64 →
    rg.mode = 0 →
    exec (.partialWrite t addr bytes lat wait) s = .next ((({ w with dram := writeLine w.dram rg (paOf (addr) / 64 * 64) (v.kidKey (v.effKid (kidOf (addr)) (paOf (addr) / 64 * 64))) (majorOf w.dram rg (rg.lineNo (paOf (addr) / 64 * 64))) (minorOf w.dram rg (rg.lineNo (paOf (addr) / 64 * 64)) + 1) false (splice (dramRead w.dram (paOf (addr) / 64 * 64) 64) (paOf addr % 64) bytes) }.lineWritten (paOf (addr) / 64 * 64)).memTally (addr) true .okay).memReply .okay [])) ∧
  (∀ (s u : State) (t : Nat) (addr lat wait e : Nat) (bytes : List Byte) (v w : State) (rg : Region) (l : LineRead), u = s.tickTo t →
    v = u.memMeasure addr lat wait →
    v.memStatus (addr) = .okay →
    v.memWaits (addr) = false →
    v.regionOf (paOf (addr) / 64 * 64) = some (e, rg) →
    w = ((((if kidOf (addr) = 0 then v else v.sramRead 6 0 (kidOf (addr)) 1).bump (O.MEMC_WRITES (v.memCtl (paOf (addr) / 64 * 64))) 1).countEvent 3 (v.memCtl (paOf (addr) / 64 * 64)) 1 1).bump (O.KID_ACCESSES (kidOf (addr))) 1).tagAccess (v.memCtl (paOf (addr) / 64 * 64)) rg (rg.lineNo (paOf (addr) / 64 * 64)) true (kidOf (addr)) →
    bytes.length < 64 →
    rg.mode ≠ 0 →
    l = v.readLineAt rg (paOf (addr) / 64 * 64) (v.kidKey (v.effKid (kidOf (addr)) (paOf (addr) / 64 * 64))) →
    l.check = .pass →
    rg.mode < 2 ∨ l.minor ≠ 127 →
    exec (.partialWrite t addr bytes lat wait) s = .next (({ (if l.fixed then w.bump O.MEM_CORRECTED 1 else w) with dram := writeLine (if l.fixed then w.bump O.MEM_CORRECTED 1 else w).dram rg (paOf (addr) / 64 * 64) (v.kidKey (v.effKid (kidOf (addr)) (paOf (addr) / 64 * 64))) l.major (l.minor + 1) false (splice l.data (paOf addr % 64) bytes) }.memTally (addr) true .okay).memReply .okay [])) ∧
  (∀ (s u : State) (t : Nat) (addr e : Nat) (bytes : List Byte) (v w : State) (rg : Region), u = s.tickTo t →
    v = u →
    u.overflows addr = true →
    v.memStatus (addr) = .okay →
    v.memWaits (addr) = false →
    v.regionOf (paOf (addr) / 64 * 64) = some (e, rg) →
    w = ((((if kidOf (addr) = 0 then v else v.sramRead 6 0 (kidOf (addr)) 1).bump (O.MEMC_WRITES (v.memCtl (paOf (addr) / 64 * 64))) 1).countEvent 3 (v.memCtl (paOf (addr) / 64 * 64)) 1 1).bump (O.KID_ACCESSES (kidOf (addr))) 1).tagAccess (v.memCtl (paOf (addr) / 64 * 64)) rg (rg.lineNo (paOf (addr) / 64 * 64)) true (kidOf (addr)) →
    bytes.length = 64 →
    rg.mode = 2 ∨ rg.mode = 3 →
    minorOf w.dram rg (rg.lineNo (paOf (addr) / 64 * 64)) = 127 →
    exec (.pageReencryption t addr bytes) s = .next (w.triggerReenc addr bytes)) ∧
  (∀ (s u : State) (t : Nat) (page wait e : Nat) (v : State) (q : MemReq) (rg : Region) (key data : List Byte) (pa : Nat) (m1 : List Host.Cell), u = s.tickTo t →
    Tbl.get none u.reenc page = some q →
    u.clkLost = false →
    v = u.pipeWait 1 wait →
    v.regionOf (page * 4096) = some (e, rg) →
    key = v.kidKey (v.effKid (kidOf q.addr) (page * 4096)) →
    pa = paOf q.addr / 64 * 64 →
    data = (if q.bytes.length = 64 then q.bytes else splice (v.readLineAt rg pa key).data (paOf q.addr % 64) q.bytes) →
    m1 = (rekeyPage v.dram v.lostLine rg page key key).1 →
    exec (.pageReencryptionDone t page wait) s = .next (((((({ v with dram := writeLine m1 rg pa key (majorOf v.dram rg (rg.lineNo pa) + 1) 0 false data, reenc := Tbl.set none v.reenc page none, lostLines := v.lostLines.filter fun x => x.1 / 64 != page } : State).bump O.MEM_REENCRYPTIONS 1).ledMove 0x1064 2 1 1).ledMove 0x1067 4 1 1).memReply .okay []).memDrain)) ∧
  (∀ (s u : State) (t : Nat) (r : Requester) (crc : Nat) (img : List Byte) (tt : Nat) (w : State) (z : Nat), u = s.tickTo t →
    u.commitReady r O.MEM_WINDOW crc img = true →
    img.length ≤ 65536 →
    (u.setXfer O.MEM_WINDOW none).memWriteBytes (bits (u.reg O.MEM_WINDOW_ADDR) 47 0) img 1025 = (.okay, w) →
    tt = 0 →
    tt = ttImage (ttTick z) (ttFine z) →
    exec (.window t r crc z) s = .next ((w).okays r O.MEM_WINDOW))

/-- Regions, keys, retirement and key walks complete. Each clause names a command and conditions on the operands and on u alone, u
being the state with its clock at the command's instant t. For every state and all operands that meet them, exec of the command
answers a next state, and it is the one written out from u: what it does not name stays as it was in u. They cover REGIONS,
REGION_INIT_DONE, KEY, RETIRE, RETIRE_FLUSH_END, WALK_START, WALK_ABORT and WALK_PAGE. When a region is written rests on log entry
118. Rests on R361, R363, R374, R375. -/
def Obligations.MemoryKeyAndRegionCommandsComplete : Prop :=
  (∀ (s u : State) (t : Nat) (r : Requester) (crc : Nat) (img : List Byte) (tt : Nat) (v : State) (z : Nat), u = s.tickTo t →
    u.commitReady r O.MEM_REGIONS crc img = true →
    u.regionsRefused img = false →
    (List.range 16).any (fun e => regionAt (u.image O.MEM_REGIONS) e != regionAt img e && (regionAt (u.image O.MEM_REGIONS) e).valid && u.regionInUse e (regionAt (u.image O.MEM_REGIONS) e)) = false →
    tt = 0 →
    v = (u.setXfer O.MEM_REGIONS none).pagesDone (fun page => ((List.range 16).filter fun e => regionAt (u.image O.MEM_REGIONS) e != regionAt img e).any fun e => (regionAt (u.image O.MEM_REGIONS) e).has (page * 4096)) →
    tt = ttImage (ttTick z) (ttFine z) →
    exec (.regions t r crc z) s = .next ((((List.range 16).filter fun e => regionAt (u.image O.MEM_REGIONS) e != regionAt img e).foldl
      (fun (s : State) e => { s with regionInit := Tbl.set false s.regionInit e ((regionAt img e).valid && decide (1 ≤ (regionAt img e).mode) && decide ((regionAt img e).mode ≤ 3)) })
      (v.setImage O.MEM_REGIONS img)).okays r O.MEM_REGIONS)) ∧
  (∀ (s u : State) (t : Nat) (e : Fin 16) (wait : Nat) (rg : Region), u = s.tickTo t →
    Tbl.get false u.regionInit e.val = true →
    u.clkLost = false →
    rg = regionAt (u.image O.MEM_REGIONS) e.val →
    exec (.regionInitDone t e wait) s = .next ({ (u.pipeWait 2 (if rg.kid = 0 then 0 else wait)).setReg O.MEM_INIT_STATUS 0 with dram := initRegion (u.kidKey rg.kid) rg u.dram (rg.size / 64), regionInit := Tbl.set false u.regionInit e.val false, lostLines := u.lostLines.filter fun x => !rg.has (64 * x.1) })) ∧
  (∀ (s u : State) (t : Nat) (r : Requester) (crc : Nat) (img : List Byte) (k : Fin 64) (tt : Nat) (z : Nat), u = s.tickTo t →
    u.commitReady r (O.KID_KEY k.val) crc img = true →
    k.val ≠ 0 →
    img.length = 32 →
    u.kidState k.val ≠ 1 →
    u.kidState k.val ≠ 2 →
    tt = 0 →
    tt = ttImage (ttTick z) (ttFine z) →
    exec (.key t r k crc z) s = .next ((((((u.setXfer (O.KID_KEY k.val) none).setImage (O.KID_KEY k.val) img).setBad 6 0 k.val 1 false).setReg (O.KID_KID_STATE k.val) 1).bump (O.KID_KEY_LOADS k.val) 1).okays r (O.KID_KEY k.val))) ∧
  (∀ (s u : State) (t : Nat) (r : Requester) (k : Fin 64), u = s.tickTo t →
    u.writable r (O.KID_RETIRE k.val) 1 = true →
    k.val ≠ 0 →
    u.kidState k.val = 1 →
    u.kidInUse k.val = false →
    exec (.retire t r k true) s = .next ((u.setReg (O.KID_KID_STATE k.val) 2).okays r (O.KID_RETIRE k.val))) ∧
  (∀ (s u : State) (t : Nat) (k : Fin 64) (dirty : Nat) (keep : Tbl (List TagLine)), u = s.tickTo t →
    u.kidState k.val = 2 →
    u.memWait.any (fun q => kidOf q.addr == k.val) = false →
    u.reenc.any (fun p => p.2.any fun q => kidOf q.addr == k.val) = false →
    dirty = (u.tagCache.map fun p => (p.2.filter fun w => w.dirty && w.wroteKid == k.val).length).foldl (· + ·) 0 →
    keep = u.tagCache.foldl
      (fun (acc : Tbl (List TagLine)) p => Tbl.set [] acc p.1 ((p.2.map fun (w : TagLine) => if w.wroteKid == k.val then { w with dirty := false } else w).filter fun w => w.usedKid != k.val)) u.tagCache →
    exec (.retireFlushEnd t k) s = .next ((({ u with tagCache := keep }.bump O.MEM_TC_WRITEBACKS dirty).setReg (O.KID_KID_STATE k.val) 3).setReg (O.KID_RETIRE_STATUS k.val) 0)) ∧
  (∀ (s u : State) (t : Nat) (r : Requester) (base size old new e : Nat) (rg : Region), u = s.tickTo t →
    u.writable r O.MEM_WALK_CTRL 1 = true →
    base = bits (fieldLE (u.image O.MEM_WALK) 0 8) 39 0 →
    size = fieldLE (u.image O.MEM_WALK) 8 8 →
    old = byteAt (u.image O.MEM_WALK) 16 →
    new = byteAt (u.image O.MEM_WALK) 17 →
    u.walkRunning = false →
    u.regionOf base = some (e, rg) →
    rg.mode = 2 ∨ rg.mode = 3 →
    base + size ≤ rg.base + rg.size →
    base % 4096 = 0 →
    size % 4096 = 0 →
    size ≠ 0 →
    old ≠ new →
    old ≠ 0 →
    new ≠ 0 →
    u.kidState old = 1 →
    u.kidState new = 1 →
    exec (.walkStart t r) s = .next (({ u.setReg O.MEM_WALK_CTRL (walkCtrl 1 0 (base / 4096) 0) with walkAborting := false }).okays r O.MEM_WALK_CTRL)) ∧
  (∀ (s u : State) (t : Nat) (r : Requester), u = s.tickTo t →
    u.writable r O.MEM_WALK_CTRL 2 = true →
    u.walkRunning = true →
    exec (.walkAbort t r) s = .next (({ u with walkAborting := true }).okays r O.MEM_WALK_CTRL)) ∧
  (∀ (s u : State) (t : Nat) (wait e l : Nat) (rg : Region) (m1 : List Host.Cell) (w : State), u = s.tickTo t →
    u.walkRunning = true →
    u.clkLost = false →
    u.regionOf (u.walkPtr * 4096) = some (e, rg) →
    Tbl.get none u.reenc u.walkPtr = none →
    m1 = (rekeyPage u.dram u.lostLine rg u.walkPtr (u.kidKey (byteAt (u.image O.MEM_WALK) 16)) (u.kidKey (byteAt (u.image O.MEM_WALK) 17))).1 →
    l = (rekeyPage u.dram u.lostLine rg u.walkPtr (u.kidKey (byteAt (u.image O.MEM_WALK) 16)) (u.kidKey (byteAt (u.image O.MEM_WALK) 17))).2 →
    w = { u.pipeWait 2 wait with dram := m1, lostLines := u.lostLines.filter fun x => x.1 / 64 != u.walkPtr } →
    (bits (fieldLE (u.image O.MEM_WALK) 0 8) 39 0 + fieldLE (u.image O.MEM_WALK) 8 8) / 4096 ≤ u.walkPtr + 1 →
    exec (.walkPage t wait) s = .next ({ w.setReg O.MEM_WALK_CTRL (walkCtrl 2 0 (u.walkPtr + 1) (bits (u.reg O.MEM_WALK_CTRL) 63 40 + l)) with walkAborting := false })) ∧
  (∀ (s u : State) (t : Nat) (wait e l : Nat) (rg : Region) (m1 : List Host.Cell) (w : State), u = s.tickTo t →
    u.walkRunning = true →
    u.clkLost = false →
    u.regionOf (u.walkPtr * 4096) = some (e, rg) →
    Tbl.get none u.reenc u.walkPtr = none →
    m1 = (rekeyPage u.dram u.lostLine rg u.walkPtr (u.kidKey (byteAt (u.image O.MEM_WALK) 16)) (u.kidKey (byteAt (u.image O.MEM_WALK) 17))).1 →
    l = (rekeyPage u.dram u.lostLine rg u.walkPtr (u.kidKey (byteAt (u.image O.MEM_WALK) 16)) (u.kidKey (byteAt (u.image O.MEM_WALK) 17))).2 →
    w = { u.pipeWait 2 wait with dram := m1, lostLines := u.lostLines.filter fun x => x.1 / 64 != u.walkPtr } →
    u.walkPtr + 1 < (bits (fieldLE (u.image O.MEM_WALK) 0 8) 39 0 + fieldLE (u.image O.MEM_WALK) 8 8) / 4096 →
    u.walkAborting = true →
    exec (.walkPage t wait) s = .next ({ w.setReg O.MEM_WALK_CTRL (walkCtrl 0 Status.aborted.code (u.walkPtr + 1) (bits (u.reg O.MEM_WALK_CTRL) 63 40 + l)) with walkAborting := false })) ∧
  (∀ (s u : State) (t : Nat) (wait e l : Nat) (rg : Region) (m1 : List Host.Cell) (w : State), u = s.tickTo t →
    u.walkRunning = true →
    u.clkLost = false →
    u.regionOf (u.walkPtr * 4096) = some (e, rg) →
    Tbl.get none u.reenc u.walkPtr = none →
    m1 = (rekeyPage u.dram u.lostLine rg u.walkPtr (u.kidKey (byteAt (u.image O.MEM_WALK) 16)) (u.kidKey (byteAt (u.image O.MEM_WALK) 17))).1 →
    l = (rekeyPage u.dram u.lostLine rg u.walkPtr (u.kidKey (byteAt (u.image O.MEM_WALK) 16)) (u.kidKey (byteAt (u.image O.MEM_WALK) 17))).2 →
    w = { u.pipeWait 2 wait with dram := m1, lostLines := u.lostLines.filter fun x => x.1 / 64 != u.walkPtr } →
    u.walkPtr + 1 < (bits (fieldLE (u.image O.MEM_WALK) 0 8) 39 0 + fieldLE (u.image O.MEM_WALK) 8 8) / 4096 →
    u.walkAborting = false →
    exec (.walkPage t wait) s = .next (w.setReg O.MEM_WALK_CTRL (walkCtrl 1 0 (u.walkPtr + 1) (bits (u.reg O.MEM_WALK_CTRL) 63 40 + l))))

/-- Resident streams complete: PORT_REWIND, GRIND_LINE, STREAM_WORD_TAKE and STREAMS_COMMIT. Each clause names a command and
conditions on the operands and on u alone, u being the state with its clock at the command's instant t. For every state and all
operands that meet them, exec of the command answers a next state, and it is the one written out from u: what it does not name
stays as it was in u. What a line that fails its check does to words already produced rests on log entry 119. Rests on R376, R378. -/
def Obligations.StreamCommandsComplete : Prop :=
  (∀ (s u : State) (t : Nat) (q : Fin 4) (k : Fin 512) (p : GrindPort), u = s.tickTo t →
    p = u.port q.val k.val →
    (u.desc q.val k.val).valid = true →
    (u.desc q.val k.val).resident = false →
    exec (.portRewind t q k) s = .next ((u.ledMove 0x1065 2 3 p.words.length).setPort q.val k.val { st := 1 })) ∧
  (∀ (s u : State) (t : Nat) (q : Fin 4) (k : Fin 512) (p : GrindPort), u = s.tickTo t →
    p = u.port q.val k.val →
    (u.desc q.val k.val).valid = true →
    (u.desc q.val k.val).resident = true →
    exec (.portRewind t q k) s = .next ((u.ledMove 0x1065 2 3 (if p.ended ∨ p.st = 5 then p.words.length - p.pos else 0)).setPort q.val k.val { st := 1 })) ∧
  (∀ (s u : State) (t : Nat) (q : Fin 4) (k : Fin 512) (d : StreamDesc) (p : GrindPort) (data : List Byte) (w : State), u = s.tickTo t →
    d = u.desc q.val k.val →
    p = u.port q.val k.val →
    p.st ≠ 0 →
    p.st ≠ 5 →
    p.ended = false →
    d.valid = true →
    p.fetched < d.length →
    p.buf.length < 64 →
    u.pipeAnswer (d.base + p.fetched) = .okay →
    (u.memReadLine (d.base + p.fetched)).1 = some (.okay, data) →
    w = (u.memReadLine (d.base + p.fetched)).2 →
    exec (.grindLine t q k) s = .next ((w.setPort q.val k.val { p with buf := p.buf ++ data.take (min 64 (d.length - p.fetched)), fetched := p.fetched + min 64 (d.length - p.fetched) }).grindAdvance q.val k.val)) ∧
  (∀ (s u : State) (t : Nat) (q : Fin 4) (k : Fin 512) (p : GrindPort) (x : BitVec 48) (rest : List (BitVec 48)), u = s.tickTo t →
    p = u.port q.val k.val →
    (u.desc q.val k.val).valid = true →
    (u.desc q.val k.val).resident = false →
    p.st ≠ 0 →
    p.st ≠ 4 →
    p.words = x :: rest →
    u.badWord 3 q.val (carafeWord (u.desc q.val k.val) p) = false →
    exec (.streamWordTake t q k) s = .next ((((((u.sramRead 3 q.val (carafeWord (u.desc q.val k.val) p) 1).setPort q.val k.val { p with words := rest, delivered := p.delivered + 1, st := if p.st = 5 then 5 else if rest = [] ∧ p.ended then 4 else 3 }).ledMove 0x1065 2 1 1).bump (O.GRIND_WORDS_OUT q.val) 1).grindAdvance q.val k.val).memReply .okay (leBytes 6 x.toNat))) ∧
  (∀ (s u : State) (t : Nat) (q : Fin 4) (k : Fin 512) (d : StreamDesc) (p : GrindPort) (x : BitVec 48) (lastWord lastLoop : Bool) (w : State), u = s.tickTo t →
    d = u.desc q.val k.val →
    p = u.port q.val k.val →
    d.valid = true →
    d.resident = true →
    p.st ≠ 0 →
    p.st ≠ 4 →
    p.ended = true →
    p.words[p.pos]? = some x →
    u.badWord 3 q.val (carafeWord d p) = false →
    lastWord = decide (p.words.length ≤ p.pos + 1) →
    lastLoop = (decide (d.loops ≤ p.loopNo) || p.st == 5) →
    w = (((u.sramRead 3 q.val (carafeWord d p) 1).setPort q.val k.val { p with pos := if lastWord = true ∧ lastLoop = false then 0 else p.pos + 1, delivered := p.delivered + 1, loopNo := if lastWord = true ∧ lastLoop = false then p.loopNo + 1 else p.loopNo, st := if p.st = 5 then 5 else if lastWord = true ∧ lastLoop = true then 4 else 3 }).ledMove 0x1065 2 1 1).bump (O.GRIND_WORDS_OUT q.val) 1 →
    exec (.streamWordTake t q k) s = .next ((if lastWord = true ∧ lastLoop = false then (w.ledAdd 0x1065 0 p.words.length).ledAdd 0x1065 2 p.words.length else w).memReply .okay (leBytes 6 x.toNat))) ∧
  (∀ (s u : State) (t : Nat) (r : Requester) (crc : Nat) (img : List Byte) (q : Fin 4) (tt : Nat) (v w y : State) (ch : List Nat) (z : Nat), u = s.tickTo t →
    u.commitReady r (O.GRIND_STREAMS q.val) crc img = true →
    streamsRefused img = false →
    v = u.setXfer (O.GRIND_STREAMS q.val) none →
    ch = (List.range 512).filter (fun k => descAt (u.image (O.GRIND_STREAMS q.val)) k != descAt img k) →
    u.marchOn 4 q.val = false →
    ch.any (fun k => [3, 4, 7].contains (u.reg (O.ENG_STATE (portEngine q.val k)))) = false →
    w = (ch.foldl (fun (s : State) k => s.setPort q.val k { st := if (descAt img k).valid then 1 else 0 }) ((ch.foldl (fun (s : State) k => s.grindRewind q.val k) v).setImage (O.GRIND_STREAMS q.val) img)).setReg (O.GRIND_CARAFE_FREE q.val) (1024 - extentUnits img false - extentUnits img true) →
    y = ((w.ledSub 0x1066 2 (extentUnits (u.image (O.GRIND_STREAMS q.val)) false)).ledSub 0x1066 3 (extentUnits (u.image (O.GRIND_STREAMS q.val)) true)).ledAdd 0x1066 1 (extentUnits (u.image (O.GRIND_STREAMS q.val)) false + extentUnits (u.image (O.GRIND_STREAMS q.val)) true) →
    tt = 0 →
    tt = ttImage (ttTick z) (ttFine z) →
    exec (.streamsCommit t r q crc z) s = .next ((((y.ledSub 0x1066 1 (extentUnits img false + extentUnits img true)).ledAdd 0x1066 2 (extentUnits img false)).ledAdd 0x1066 3 (extentUnits img true)).okays r (O.GRIND_STREAMS q.val)))

/-- Marches, scrub programs and the patrol of on-chip memories complete. Each clause names a command and conditions on the operands
and on u alone, u being the state with its clock at the command's instant t. For every state and all operands that meet them, exec
of the command answers a next state, and it is the one written out from u: what it does not name stays as it was in u. They cover
STARTUP_MARCH, STARTUP_MARCH_DONE, MARCH_START, MARCH_DONE, SCRUB_PROGRAM, PATROL_UNIT, FORCED_STEAL and SCRUB_WAIT_END. What a
march or a patrol finds is an operand (log entries 75, 110, 111). Rests on R386, R387, R388, R389, R390, R410. -/
def Obligations.OnChipMemoryCommandsComplete : Prop :=
  (∀ (s u : State) (t : Nat), u = s.tickTo t →
    u.reg O.MARCH_MARCH_STATE = 1 →
    u.marchAt = none →
    u.isSet O.DEV_CLKREF_STABLE = true →
    u.pllLocked pllSpll = true →
    exec (.startupMarch t) s = .next ({ u with marchAt := some u.now })) ∧
  (∀ (s u : State) (t : Nat) (x : MarchFinds) (a : Nat) (b c d e f g : State), u = s.tickTo t →
    u.marchAt = some a →
    u.reg O.MARCH_MARCH_STATE = 1 →
    a + 21 * 65536 * Config.wordUnits ≤ u.now →
    b = x.slots.foldl (fun (s : State) i => (s.slotFailed i).resultBit i) u →
    c = (x.feeds.foldl (fun (s : State) p => s.resultBit (66 * 8 + p.1)) b).wordsFailed 2 x.feeds →
    d = (x.carafe.foldl (fun (s : State) p => s.resultBit (68 * 8 + p.1)) c).wordsFailed 3 x.carafe →
    e = x.spine.foldl (fun (s : State) p => (s.resultBit (69 * 8 + p.1)).wordsFailed (spineArray p.1).1 [((spineArray p.1).2, p.2)]) d →
    f = x.columns.foldl (fun (s : State) p => s.columnsFound p.1 p.2) e →
    g = State.setReg { f with marchAt := none } O.MARCH_MARCH_STATE 0 →
    g.reg O.CFG_CFG_MODE ≤ 1 →
    exec (.startupMarchDone t x) s = .next ((g.setReg O.CFG_CFG_STATE 1).setCfg { g.cfg with initLow := false })) ∧
  (∀ (s u : State) (t : Nat) (x : MarchFinds) (a : Nat) (b c d e f g : State), u = s.tickTo t →
    u.marchAt = some a →
    u.reg O.MARCH_MARCH_STATE = 1 →
    a + 21 * 65536 * Config.wordUnits ≤ u.now →
    b = x.slots.foldl (fun (s : State) i => (s.slotFailed i).resultBit i) u →
    c = (x.feeds.foldl (fun (s : State) p => s.resultBit (66 * 8 + p.1)) b).wordsFailed 2 x.feeds →
    d = (x.carafe.foldl (fun (s : State) p => s.resultBit (68 * 8 + p.1)) c).wordsFailed 3 x.carafe →
    e = x.spine.foldl (fun (s : State) p => (s.resultBit (69 * 8 + p.1)).wordsFailed (spineArray p.1).1 [((spineArray p.1).2, p.2)]) d →
    f = x.columns.foldl (fun (s : State) p => s.columnsFound p.1 p.2) e →
    g = State.setReg { f with marchAt := none } O.MARCH_MARCH_STATE 0 →
    1 < g.reg O.CFG_CFG_MODE →
    exec (.startupMarchDone t x) s = .next (g)) ∧
  (∀ (s u : State) (t : Nat) (r : Requester), u = s.tickTo t →
    u.writable r O.MARCH_MARCH_START 1 = true →
    u.reg O.MARCH_MARCH_STATE = 0 →
    u.marchAllowed (u.reg O.MARCH_MARCH_TARGET) = true →
    exec (.marchStart t r true) s = .next ((({ u with marchAt := some u.now }).setReg O.MARCH_MARCH_STATE 2).okays r O.MARCH_MARCH_START)) ∧
  (∀ (s u : State) (t : Nat) (found first : Nat) (left : List Nat) (a target : Nat) (w : State), u = s.tickTo t →
    u.marchAt = some a →
    u.reg O.MARCH_MARCH_STATE = 2 →
    target = u.reg O.MARCH_MARCH_TARGET →
    a + marchUnits target (u.reg O.MARCH_MARCH_MODE) ≤ u.now →
    w = (if u.reg O.MARCH_MARCH_MODE = 0 then u.marchZero target else u) →
    bits target 31 28 ≠ 3 →
    bits target 31 28 ≠ 4 →
    exec (.marchDone t found first left) s = .next (((({ (if found = 0 then w else w.slotFailed (if (target % 1024) < 512 then w.physSlot (target % 1024) else 33 * ((target % 1024) - 512) + 32)) with marchAt := none }.setReg O.MARCH_MARCH_STATE 0).setReg O.MARCH_MARCH_STATUS (if found = 0 then Status.okay else Status.aborted).code).setReg O.MARCH_MARCH_RESULT (if found = 0 then 0 else min found 4095 * 2 ^ 20 + first % 2 ^ 20)).bump O.MARCH_MARCH_RUNS 1)) ∧
  (∀ (s u : State) (t : Nat) (found first : Nat) (left : List Nat) (a target : Nat) (w : State), u = s.tickTo t →
    u.marchAt = some a →
    u.reg O.MARCH_MARCH_STATE = 2 →
    target = u.reg O.MARCH_MARCH_TARGET →
    a + marchUnits target (u.reg O.MARCH_MARCH_MODE) ≤ u.now →
    w = (if u.reg O.MARCH_MARCH_MODE = 0 then u.marchZero target else u) →
    bits target 31 28 = 3 →
    exec (.marchDone t found first left) s = .next (((({ (w.wordsFailed 2 (left.map ((target % 1024), ·))) with marchAt := none }.setReg O.MARCH_MARCH_STATE 0).setReg O.MARCH_MARCH_STATUS (if left = [] then Status.okay else Status.aborted).code).setReg O.MARCH_MARCH_RESULT (if found = 0 then 0 else min found 4095 * 2 ^ 20 + first % 2 ^ 20)).bump O.MARCH_MARCH_RUNS 1)) ∧
  (∀ (s u : State) (t : Nat) (found first : Nat) (left : List Nat) (a target : Nat) (w : State), u = s.tickTo t →
    u.marchAt = some a →
    u.reg O.MARCH_MARCH_STATE = 2 →
    target = u.reg O.MARCH_MARCH_TARGET →
    a + marchUnits target (u.reg O.MARCH_MARCH_MODE) ≤ u.now →
    w = (if u.reg O.MARCH_MARCH_MODE = 0 then u.marchZero target else u) →
    bits target 31 28 = 4 →
    exec (.marchDone t found first left) s = .next (((({ (w.wordsFailed 3 (left.map ((target % 1024), ·))) with marchAt := none }.setReg O.MARCH_MARCH_STATE 0).setReg O.MARCH_MARCH_STATUS (if left = [] then Status.okay else Status.aborted).code).setReg O.MARCH_MARCH_RESULT (if found = 0 then 0 else min found 4095 * 2 ^ 20 + first % 2 ^ 20)).bump O.MARCH_MARCH_RUNS 1)) ∧
  (∀ (s u : State) (t : Nat) (r : Requester) (crc : Nat) (img : List Byte) (tt n : Nat) (z : Nat), u = s.tickTo t →
    u.commitReady r O.PATROL_SCRUB_PROGRAM crc img = true →
    n = img.length / 8 →
    1 ≤ n →
    n ≤ 64 →
    img.length % 8 = 0 →
    (List.range n).all (fun k => scrubStepOk (scrubStep img k)) = true →
    scrubOp (scrubStep img (n - 1)) = 0 →
    tt = 0 →
    tt = ttImage (ttTick z) (ttFine z) →
    exec (.scrubProgram t r crc z) s = .next (({ (((u.setXfer O.PATROL_SCRUB_PROGRAM none).setImage O.PATROL_SCRUB_PROGRAM img).setReg O.PATROL_SCRUB_STEP 0) with patrol := { u.patrol with left := none, stopped := false, unitAt := u.now } }).okays r O.PATROL_SCRUB_PROGRAM)) ∧
  (∀ (s u : State) (t : Nat) (ups : List (Nat × Nat × Nat)) (errs : List PatrolErr) (busy : List Nat) (wait : Nat) (v w : State) (tg cur n left : Nat), u = s.tickTo t →
    v = u.upsets ups →
    v.patrolAt 1 = true →
    v.patrol.unitAt + scrubArg v.scrubNow * Config.nsUnits ≤ v.now →
    tg = scrubTarget v.scrubNow →
    tg ≠ 10 →
    cur = v.cursor tg →
    n = patrolUnits tg →
    left = v.patrol.left.getD (if scrubCount v.scrubNow = 0 then n - cur else scrubCount v.scrubNow) →
    w = (v.patrolVisit tg cur errs (busy.filter (v.mayBusy tg))).giveCredits tg (busy.filter (v.mayBusy tg)) →
    creditTarget tg = true →
    exec (.patrolUnit t ups errs busy wait) s = .next (w.unitDone tg left (cur + 1) (decide (n ≤ cur + 1)))) ∧
  (∀ (s u : State) (t : Nat) (ups : List (Nat × Nat × Nat)) (errs : List PatrolErr) (busy : List Nat) (wait : Nat) (v w : State) (tg cur n left : Nat), u = s.tickTo t →
    v = u.upsets ups →
    v.patrolAt 1 = true →
    v.patrol.unitAt + scrubArg v.scrubNow * Config.nsUnits ≤ v.now →
    tg = scrubTarget v.scrubNow →
    tg ≠ 10 →
    cur = v.cursor tg →
    n = patrolUnits tg →
    left = v.patrol.left.getD (if scrubCount v.scrubNow = 0 then n - cur else scrubCount v.scrubNow) →
    w = v.patrolVisit tg cur errs [] →
    creditTarget tg = false →
    exec (.patrolUnit t ups errs busy wait) s = .next (w.unitDone tg left (cur + 1) (decide (n ≤ cur + 1)))) ∧
  (∀ (s u : State) (t : Nat) (ups : List (Nat × Nat × Nat)) (errs : List PatrolErr) (busy : List Nat) (wait : Nat) (v w : State) (rg : Region) (pa : Nat), u = s.tickTo t →
    v = u.upsets ups →
    v.patrolAt 1 = true →
    v.patrol.unitAt + scrubArg v.scrubNow * Config.nsUnits ≤ v.now →
    scrubTarget v.scrubNow = 10 →
    v.scrubLine (v.cursor 10) = some (rg, pa) →
    w = (v.pipeWait 3 wait).patrolLine rg pa errs →
    exec (.patrolUnit t ups errs busy wait) s = .next (w.unitDone 10 (v.patrol.left.getD (if scrubCount v.scrubNow = 0 then 2 ^ 64 else scrubCount v.scrubNow)) (pa + 64) (w.scrubLine (pa + 64)).isNone)) ∧
  (∀ (s u : State) (t : Nat) (data : Bool) (slot : Fin 528) (n since : Nat) (v w : State), u = s.tickTo t →
    v = u.patrolWord (b2n data) slot.val (u.arrayWord (b2n data) (u.cursor (b2n data)) slot.val) →
    Tbl.get (0, 0) u.patrol.credits (b2n data * 4096 + slot.val) = (n, since) →
    u.reg O.PATROL_FORCE_AFTER ≠ 0 →
    n ≠ 0 →
    since + u.reg O.PATROL_FORCE_AFTER ≤ u.now / Config.wordUnits →
    w = ({ v with patrol := { v.patrol with credits := Tbl.set (0, 0) v.patrol.credits (b2n data * 4096 + slot.val) (if n = 1 then (0, 0) else (n - 1, u.now / Config.wordUnits)) } } : State).bump O.PATROL_STEALS 1 →
    w.engineOn slot.val = none →
    exec (.forcedSteal t data slot) s = .next (w)) ∧
  (∀ (s u : State) (t : Nat) (data : Bool) (slot : Fin 528) (n since e : Nat) (v w : State), u = s.tickTo t →
    v = u.patrolWord (b2n data) slot.val (u.arrayWord (b2n data) (u.cursor (b2n data)) slot.val) →
    Tbl.get (0, 0) u.patrol.credits (b2n data * 4096 + slot.val) = (n, since) →
    u.reg O.PATROL_FORCE_AFTER ≠ 0 →
    n ≠ 0 →
    since + u.reg O.PATROL_FORCE_AFTER ≤ u.now / Config.wordUnits →
    w = ({ v with patrol := { v.patrol with credits := Tbl.set (0, 0) v.patrol.credits (b2n data * 4096 + slot.val) (if n = 1 then (0, 0) else (n - 1, u.now / Config.wordUnits)) } } : State).bump O.PATROL_STEALS 1 →
    w.engineOn slot.val = some e →
    w.reg (O.ENG_STATE e) = 4 →
    exec (.forcedSteal t data slot) s = .next ((w.gangOf e).foldl (fun (s : State) m => s.stallEngine m (max (s.now / Config.wordUnits) (s.engine m).free) {}) w)) ∧
  (∀ (s u : State) (t : Nat) (data : Bool) (slot : Fin 528) (n since e : Nat) (v w : State), u = s.tickTo t →
    v = u.patrolWord (b2n data) slot.val (u.arrayWord (b2n data) (u.cursor (b2n data)) slot.val) →
    Tbl.get (0, 0) u.patrol.credits (b2n data * 4096 + slot.val) = (n, since) →
    u.reg O.PATROL_FORCE_AFTER ≠ 0 →
    n ≠ 0 →
    since + u.reg O.PATROL_FORCE_AFTER ≤ u.now / Config.wordUnits →
    w = ({ v with patrol := { v.patrol with credits := Tbl.set (0, 0) v.patrol.credits (b2n data * 4096 + slot.val) (if n = 1 then (0, 0) else (n - 1, u.now / Config.wordUnits)) } } : State).bump O.PATROL_STEALS 1 →
    w.engineOn slot.val = some e →
    w.reg (O.ENG_STATE e) ≠ 4 →
    exec (.forcedSteal t data slot) s = .next (w)) ∧
  (∀ (s u : State) (t : Nat), u = s.tickTo t →
    u.patrolAt 2 = true →
    u.patrol.unitAt + scrubArg u.scrubNow * Config.usUnits ≤ u.now →
    exec (.scrubWaitEnd t) s = .next (u.scrubNext))

/-- Requests on the network complete: PACKET_EJECTION, NETWORK_REQUEST, RESPONSE, REQ_LIMIT, RSV_REQ and RSV_GRANT. Each clause names
a command and conditions on the operands and on u alone, u being the state with its clock at the command's instant t. For every
state and all operands that meet them, exec of the command answers a next state, and it is the one written out from u: what it
does not name stays as it was in u. Flits move slot by slot, by the rotation of their classes, and without latency (log entry
121); a port bound to no target answers DECODE (log entry 126). Rests on R335, R345, R347, R349. -/
def Obligations.NetworkRequestCommandsComplete : Prop :=
  (∀ (s u : State) (t : Nat) (src dst : Fin 98) (cls : Fin 3) (p : NetPkt), u = (s.tickTo t).netTurn →
    (u.stop dst.val).buf.find? (fun q => q.1.request && q.1.src == src.val && q.1.cls == cls.val) = none →
    u.findPkt src.val dst.val (fun p => p.request && p.src == src.val && p.cls == cls.val) = some p →
    u.ejectAnswer p = none →
    exec (.packetEjection t src dst cls .deliver) s = .next (((u.claimPkt p).takeFlits p).answerPkt p u.now)) ∧
  (∀ (s u : State) (t : Nat) (src dst : Fin 98) (cls : Fin 3) (p : NetPkt) (since : Nat), u = (s.tickTo t).netTurn →
    (u.stop dst.val).buf.find? (fun q => q.1.request && q.1.src == src.val && q.1.cls == cls.val) = some (p, since) →
    u.ejectAnswer p = none →
    exec (.packetEjection t src dst cls .deliver) s = .next (((u.claimPkt p).takeFlits p).answerPkt p u.now)) ∧
  (∀ (s u : State) (t : Nat) (src dst : Fin 98) (cls : Fin 3) (p : NetPkt), u = (s.tickTo t).netTurn →
    (u.stop dst.val).buf.find? (fun q => q.1.request && q.1.src == src.val && q.1.cls == cls.val) = none →
    u.findPkt src.val dst.val (fun p => p.request && p.src == src.val && p.cls == cls.val) = some p →
    u.ejectAnswer p = none →
    exec (.packetEjection t src dst cls .hold) s = .next (((u.claimPkt p).takeFlits p).holdPkt p u.now)) ∧
  (∀ (s u : State) (t : Nat) (src dst : Fin 98) (cls : Fin 3) (p : NetPkt), u = (s.tickTo t).netTurn →
    (u.stop dst.val).buf.find? (fun q => q.1.request && q.1.src == src.val && q.1.cls == cls.val) = none →
    u.findPkt src.val dst.val (fun p => p.request && p.src == src.val && p.cls == cls.val) = some p →
    u.ejectAnswer p = none →
    (u.stop dst.val).buf.any (fun q => q.1 == p) = false →
    exec (.packetEjection t src dst cls .stall) s = .next ((u.setStop dst.val { u.stop dst.val with buf := (u.stop dst.val).buf ++ [(p, u.now)] }).dropPkt p)) ∧
  (∀ (s u : State) (t : Nat) (src dst : Fin 98) (cls : Fin 3) (p : NetPkt) (since : Nat), u = (s.tickTo t).netTurn →
    (u.stop dst.val).held.find? (fun q => q.1.request && q.1.src == src.val && q.1.cls == cls.val) = some (p, since) →
    exec (.packetEjection t src dst cls .answer) s = .next ((u.setStop dst.val { u.stop dst.val with held := (u.stop dst.val).held.erase (p, since) }).answerPkt p since)) ∧
  (∀ (s u : State) (t : Nat) (src : Fin 98) (sport : Fin 16) (write : Bool) (addr n dst dport flits : Nat) (data : List Byte) (rv : Option Nat) (w : State) (p : NetPkt), u = (s.tickTo t).netTurn →
    (u.reg (O.RS_ISOLATED_PORTS src.val)).testBit sport.val = false →
    u.netDecode addr = some (dst, dport) →
    rv = u.reservationOf src.val sport.val dst dport →
    w = u.ledAdd 0x105B 0 1 →
    rv.any (fun k => (w.netResv k).fenced) = false →
    flits = 1 + (if write then dataFlits data.length else 0) →
    p = { txn := w.txns, src := src.val, sport := sport.val, dst := dst, dport := dport, cls := if rv.isSome then 1 else 2, kind := if write then .write else .read, rsv := rv.getD 0x7FF, addr := addr, n := if write then data.length else n, data := data, flits := flits, left := flits } →
    exec (.networkRequest t src sport write addr n data) s = .next (({ (w.setStop src.val { w.stop src.val with waiting := (w.stop src.val).waiting ++ [p] }) with txns := w.txns + 1 }.ledAdd 0x105B 4 1).launchReady src.val ((w.stop src.val).waiting.length + 1))) ∧
  (∀ (s u : State) (t : Nat) (src dst : Fin 98) (p : NetPkt) (st : Status) (byStop : Bool) (w : State), u = (s.tickTo t).netTurn →
    u.findPkt src.val dst.val NetPkt.isResponse = some p →
    p.kind = .response st byStop →
    w = ((u.dropPkt p).bump (O.RS_FLITS dst.val) p.flits).countEvent 2 dst.val 0 p.flits →
    (w.stop dst.val).out.any (fun o => o.txn == p.txn) = true →
    exec (.response t src dst) s = .next (((w.netDone dst.val p.txn (if byStop then 2 else 1) st p.data).granted dst.val p.txn fun s _ => s).checkFenced dst.val)) ∧
  (∀ (s u : State) (t : Nat) (src dst : Fin 98) (p : NetPkt) (st : Status) (byStop : Bool) (w : State), u = (s.tickTo t).netTurn →
    u.findPkt src.val dst.val NetPkt.isResponse = some p →
    p.kind = .response st byStop →
    w = ((u.dropPkt p).bump (O.RS_FLITS dst.val) p.flits).countEvent 2 dst.val 0 p.flits →
    (w.stop dst.val).out.any (fun o => o.txn == p.txn) = false →
    exec (.response t src dst) s = .next (w.bump O.NET_LATE_RESPONSES 1)) ∧
  (∀ (s u : State) (t : Nat) (rs : Fin 98) (o : NetOut) (rest : List NetOut), u = (s.tickTo t).netTurn →
    (u.stop rs.val).out = o :: rest →
    u.netPast o.start (u.reg O.NET_REQ_LIMIT) = true →
    exec (.reqLimit t rs) s = .next ((((u.bump O.NET_TIMEOUTS 1).bump O.DEV_TIMEOUT_COUNT 1).netDone rs.val o.txn 3 .timeout []).checkFenced rs.val)) ∧
  (∀ (s u : State) (t : Nat) (src dst : Fin 98) (p : NetPkt) (w : State), u = (s.tickTo t).netTurn →
    u.findPkt src.val dst.val NetPkt.isAsk = some p →
    w = u.dropPkt p →
    u.reg (O.RS_FENCE_STATE dst.val) = 0 →
    exec (.rsvReq t src dst) s = .next ((w.setStop dst.val { w.stop dst.val with fifo := (w.stop dst.val).fifo ++ [(p, w.now)] }).grantPool dst.val ((w.stop dst.val).fifo.length + 1))) ∧
  (∀ (s u : State) (t : Nat) (src dst : Fin 98) (p : NetPkt) (w : State), u = (s.tickTo t).netTurn →
    u.findPkt src.val dst.val NetPkt.isAsk = some p →
    w = u.dropPkt p →
    u.reg (O.RS_FENCE_STATE dst.val) ≠ 0 →
    exec (.rsvReq t src dst) s = .next (w.refuseAsk p)) ∧
  (∀ (s u : State) (t : Nat) (src dst : Fin 98) (g : NetPkt), u = (s.tickTo t).netTurn →
    u.findPkt src.val dst.val (fun p => p.kind == .grant) = some g →
    exec (.rsvGrant t src dst) s = .next ((u.dropPkt g).granted dst.val g.txn fun s p => s.enqueue dst.val p))

/-- Credits, limits, standing reservations, isolation, bindings and fences of the network complete. Each clause names a command and
conditions on the operands and on u alone, u being the state with its clock at the command's instant t. For every state and all
operands that meet them, exec of the command answers a next state, and it is the one written out from u: what it does not name
stays as it was in u. They cover CREDIT_RETURN, TURN_CREDIT_RETURN, STANDING, STALL_LIMIT, RESP_LIMIT, ISOLATE, DEISOLATE,
BINDING, FENCE_NOTICE, FENCE_ACK, DRAIN_LIMIT and NETWORK_EVENT. Fences rest on log entry 122, isolation on 123 and 124. Rests on
R340, R341, R343, R344, R348, R351, R352. -/
def Obligations.NetworkControlCommandsComplete : Prop :=
  (∀ (s u : State) (t : Nat) (k : Fin 2048) (e : NetEntry) (x : NetResv) (w : State), u = (s.tickTo t).netTurn →
    u.entry k.val = some e →
    x = u.netResv k.val →
    x.freed ≠ 0 →
    u.reg (O.RS_FENCE_STATE e.dst) = 0 →
    8 ≤ x.freed ∨ u.netPast x.freedAt 32 = true →
    w = (u.setNetResv k.val { x with freed := 0, freedAt := 0 }).ledMove 0x1058 3 1 x.freed →
    exec (.creditReturn t k) s = .next (w)) ∧
  (∀ (s u : State) (t : Nat) (rs : Fin 98) (y : Fin 4) (cls : Fin 3) (n : Nat) (w : State), u = (s.tickTo t).netTurn →
    Tbl.get 0 (u.stop rs.val).turns (y.val * 3 + cls.val) = n →
    n ≠ 0 →
    w = (u.setStop rs.val { u.stop rs.val with turns := Tbl.set 0 (u.stop rs.val).turns (y.val * 3 + cls.val) (n - 1) }).ledMove 0x105A 2 1 1 →
    exec (.turnCreditReturn t rs y cls) s = .next (w)) ∧
  (∀ (s u : State) (t : Nat) (r : Requester) (crc : Nat) (img : List Byte) (tt : Nat) (old new gone : List (Nat × NetEntry)) (w : State) (z : Nat), u = s.tickTo t →
    u.commitReady r O.NET_STANDING crc img = true →
    standingRefused img = false →
    old = standing (u.image O.NET_STANDING) →
    new = standing img →
    gone = old.filter (fun p => !new.contains p) →
    gone.any (fun p => (u.netResv p.1).away + (u.netResv p.1).freed != 0) = false →
    w = (((u.setXfer O.NET_STANDING none).ledSub 0x1058 0 ((old.map fun p => p.2.credits).foldl (· + ·) 0)).ledSub 0x1058 1 ((gone.map fun p => p.2.credits).foldl (· + ·) 0)).setImage O.NET_STANDING img →
    tt = 0 →
    tt = ttImage (ttTick z) (ttFine z) →
    exec (.standing t r crc z) s = .next (((w.ledAdd 0x1058 0 ((new.map fun p => p.2.credits).foldl (· + ·) 0)).ledAdd 0x1058 1 (((new.filter fun p => !old.contains p).map fun p => p.2.credits).foldl (· + ·) 0)).okays r O.NET_STANDING)) ∧
  (∀ (s u : State) (t : Nat) (rs : Fin 98) (port : Fin 16), u = (s.tickTo t).netTurn →
    (u.stop rs.val).buf.any (fun p => p.1.dport == port.val && u.netPast p.2 (u.reg O.NET_STALL_LIMIT)) = true →
    exec (.stallLimit t rs port) s = .next (u.isolate rs.val port.val)) ∧
  (∀ (s u : State) (t : Nat) (rs : Fin 98) (port : Fin 16), u = (s.tickTo t).netTurn →
    (u.stop rs.val).held.any (fun p => p.1.dport == port.val && u.netPast p.2 (u.reg O.NET_RESP_LIMIT)) = true →
    exec (.respLimit t rs port) s = .next (u.isolate rs.val port.val)) ∧
  (∀ (s u : State) (t : Nat) (r : Requester) (rs : Fin 98) (v : Nat), u = s.tickTo t →
    u.writable r (O.RS_ISOLATE rs.val) v = true →
    exec (.isolate t r rs v) s = .next ((u.isolate rs.val (v % 16)).okays r (O.RS_ISOLATE rs.val))) ∧
  (∀ (s u : State) (t : Nat) (r : Requester) (rs : Fin 98) (v : Nat), u = s.tickTo t →
    u.writable r (O.RS_DEISOLATE rs.val) v = true →
    ((u.stop rs.val).resetPorts.testBit (v % 16) && (u.reg (O.RS_ISOLATED_PORTS rs.val)).testBit (v % 16)) = true →
    exec (.deisolate t r rs v) s = .next ((u.deisolate rs.val (2 ^ (v % 16))).okays r (O.RS_DEISOLATE rs.val))) ∧
  (∀ (s u : State) (t : Nat) (r : Requester) (crc : Nat) (img : List Byte) (rs : Fin 98) (tt : Nat) (v : State) (z : Nat), u = s.tickTo t →
    u.commitReady r (O.RS_BINDING rs.val) crc img = true →
    v = u.setXfer (O.RS_BINDING rs.val) none →
    img.length = 32 →
    tt = 0 →
    tt = ttImage (ttTick z) (ttFine z) →
    exec (.binding t r rs crc z) s = .next (((v.setImage (O.RS_BINDING rs.val) ((List.range 16).flatMap fun p => leBytes 2 (byteAt img (2 * p)))).deisolate rs.val ((List.range 16).foldl (fun m p => if byteAt img (2 * p) = v.binding rs.val p then m else m + 2 ^ p) 0)).okays r (O.RS_BINDING rs.val))) ∧
  (∀ (s u : State) (t : Nat) (src dst : Fin 98) (p : NetPkt) (k : Nat) (w : State), u = (s.tickTo t).netTurn →
    u.findPkt src.val dst.val NetPkt.isNotice = some p →
    w = u.dropPkt p →
    p.kind = .unfence k →
    exec (.fenceNotice t src dst) s = .next (w.setNetResv k { w.netResv k with fenced := false })) ∧
  (∀ (s u : State) (t : Nat) (src dst : Fin 98) (p : NetPkt) (k : Nat) (v w y : State) (cut : NetPkt → Bool), u = (s.tickTo t).netTurn →
    u.findPkt src.val dst.val NetPkt.isNotice = some p →
    w = u.dropPkt p →
    p.kind = .fence k →
    (cut = fun q => q.request && q.rsv == k && q.left == q.flits) →
    v = (w.setStop dst.val { w.stop dst.val with rsv := (w.stop dst.val).rsv.filter (fun q => !cut q), waiting := (w.stop dst.val).waiting.filter fun q => !cut q }).setNetResv k { w.netResv k with fenced := true } →
    y = ((w.stop dst.val).rsv.filter cut ++ (w.stop dst.val).waiting.filter cut).foldl (fun (s : State) q => s.netDone dst.val q.txn 2 .fenced []) v →
    exec (.fenceNotice t src dst) s = .next (y.control { p with src := p.dst, sport := p.dport, dst := p.src, dport := p.sport, cls := 1, kind := .fenceAck k })) ∧
  (∀ (s u : State) (t : Nat) (src dst : Fin 98) (p : NetPkt) (k : Nat) (w : State), u = (s.tickTo t).netTurn →
    u.findPkt src.val dst.val (fun p => p.cls == 1) = some p →
    p.kind = .fenceAck k →
    w = u.dropPkt p →
    exec (.fenceAck t src dst) s = .next ((w.setStop dst.val { w.stop dst.val with acks := (w.stop dst.val).acks - 1 }).checkFenced dst.val)) ∧
  (∀ (s u : State) (t : Nat) (rs : Fin 98) (ports : List Nat) (w : State), u = (s.tickTo t).netTurn →
    u.reg (O.RS_FENCE_STATE rs.val) = 1 →
    u.netPast (u.stop rs.val).fenceAt (u.reg O.NET_DRAIN_LIMIT) = true →
    ports = (List.range 16).filter (fun p => (u.stop rs.val).buf.any (fun q => q.1.dport == p) || (u.stop rs.val).held.any (fun q => q.1.dport == p) || (u.stop rs.val).out.any (fun o => o.sport == p)) →
    w = ports.foldl (fun (s : State) p => s.isolate rs.val p) u →
    exec (.drainLimit t rs) s = .next ((w.setStop rs.val { w.stop rs.val with acks := 0 }).setReg (O.RS_FENCE_STATE rs.val) 2)) ∧
  (∀ (s u : State) (t : Nat) (rs : Fin 98) (port : Fin 16), u = s.tickTo t →
    exec (.networkEvent t rs port) s = .next ((u.setFlag (O.RS_EVENT_PENDING rs.val) port.val (O.RS_EVENT_COUNT rs.val) 1).raise .network (16 * rs.val + port.val) (u.halfCtl (xRing rs.val))))

/-- Channels complete: maps, timing sets, vectors, edges, stops, modes, trims and background calibration. Each clause names a command
and conditions on the operands and on u alone, u being the state with its clock at the command's instant t. For every state and
all operands that meet them, exec of the command answers a next state, and it is the one written out from u: what it does not name
stays as it was in u. They cover MAP_COMMIT, the bank switches, FIFO_OUTPUT_SWITCH, TIMING_SETS_COMMIT, QUAD_SCHEDULE_COMMIT,
PARK_CODE_WRITE, MODE_CHANGE and its end, TRIM_WRITE, DESKEW_WRITE, BGCAL_MEASUREMENT, CHANNEL_STOP, PATTERN_START, VECTOR_BEGIN
and DRIVE_EDGE. Edges queued ahead rest on log entry 55. Rests on R101, R102, R106, R111, R113, R115, R117, R121, R126, R127,
R128, R129. -/
def Obligations.ChannelCommandsComplete : Prop :=
  (∀ (s u : State) (t : Nat) (r : Requester) (crc : Nat) (img : List Byte) (b : Fin 4) (tt : Nat) (z : Nat), u = s.tickTo t →
    u.commitReady r (O.BANK_MAP b.val) crc img = true →
    img.length = 576 →
    ((List.range 144).map fun i => fieldLE img (4 * i) 4).any (fun v => srcReserved (bits v 11 0) || srcReserved (bits v 27 16)) = false →
    u.activeBank ≠ b.val →
    u.pendingBank ≠ some b.val →
    tt = 0 →
    tt = ttImage (ttTick z) (ttFine z) →
    exec (.mapCommit t r b crc z) s = .next (((u.setXfer (O.BANK_MAP b.val) none).setImage (O.BANK_MAP b.val) (((List.range 144).map fun i => fieldLE img (4 * i) 4).flatMap fun v => leBytes 4 (v &&& 0x0FFF0FFF))).okays r (O.BANK_MAP b.val))) ∧
  (∀ (s u : State) (t : Nat) (b : Fin 4) (a : Sched) (old : Nat) (w : State), u = s.tickTo t →
    u.sched .bank b.val = some a →
    u.due .bank b.val a = true →
    old = u.activeBank →
    w = (((u.endAction .bank b.val 1).setReg (O.BANK_ACTIVE old) 0).setReg (O.BANK_ACTIVE b.val) 1).bump (O.BANK_SWITCH_COUNT b.val) 1 →
    exec (.bankSwitch t b) s = .next ((List.range 144).foldl (fun (s : State) ch => if s.mapEntry old ch = s.mapEntry b.val ch then s else (s.setChan ch { s.chan ch with parkedAt := max (s.chan ch).parkedAt s.now }).switchOut ch) w)) ∧
  (∀ (s u : State) (t : Nat) (ch : Fin 144), u = s.tickTo t →
    exec (.fifoOutputSwitch t ch) s = .next (u.switchOut ch.val)) ∧
  (∀ (s u : State) (t : Nat) (r : Requester) (crc : Nat) (img : List Byte) (ch : Fin 144), u = s.tickTo t →
    u.commitReady r (O.CH_TIMING_SETS ch.val) crc img = true →
    img.length = 10240 →
    tableOk img (u.ireg (O.CH_TRIM ch.val)).natAbs = true →
    u.isSet (O.CH_SCHEDULE_PENDING ch.val) = false →
    exec (.timingSetsCommit t ch (.commit r crc 0)) s = .next (((u.setXfer (O.CH_TIMING_SETS ch.val) none).giveTable ch.val (u.now + pipeUnits) img).okays r (O.CH_TIMING_SETS ch.val))) ∧
  (∀ (s u : State) (t : Nat) (r : Requester) (crc : Nat) (img : List Byte) (ch : Fin 144) (tt : Nat) (w : State) (z : Nat), u = s.tickTo t →
    u.commitReady r (O.CH_TIMING_SETS ch.val) crc img = true →
    tt ≠ 0 →
    img.length = 10240 →
    tableOk img (u.ireg (O.CH_TRIM ch.val)).natAbs = true →
    u.isSet (O.CH_SCHEDULE_PENDING ch.val) = false →
    (u.setXfer (O.CH_TIMING_SETS ch.val) none).armAction .timingSets ch.val tt 0 = (.okay, w) →
    u.ttValid = true →
    tt = ttImage (ttTick z) (ttFine z) →
    exec (.timingSetsCommit t ch (.commit r crc z)) s = .next ((({ w with staged := Tbl.set [] w.staged (O.CH_TIMING_SETS ch.val) img } : State).setReg (O.CH_SCHEDULE_PENDING ch.val) 1).okays r (O.CH_TIMING_SETS ch.val))) ∧
  (∀ (s u : State) (t : Nat) (ch : Fin 144) (a : Sched) (w : State), u = s.tickTo t →
    u.sched .timingSets ch.val = some a →
    u.due .timingSets ch.val a = true →
    w = { u.endAction .timingSets ch.val 1 with staged := Tbl.set [] u.staged (O.CH_TIMING_SETS ch.val) [] } →
    exec (.timingSetsCommit t ch .effect) s = .next ((w.setReg (O.CH_SCHEDULE_PENDING ch.val) 0).giveTable ch.val (u.schedInstant a) (Tbl.get [] u.staged (O.CH_TIMING_SETS ch.val)))) ∧
  (∀ (s u : State) (t : Nat) (r : Requester) (crc : Nat) (img : List Byte) (n : Fin 36) (ts : List (Nat × List Byte)), u = s.tickTo t →
    u.commitReady r (O.CH_QUAD_SCHEDULE (4 * n.val)) crc img = true →
    img.length = 40976 →
    fieldLE img 0 4 = 0x44515345 →
    byteAt img 4 = n.val →
    ts = quadTables n.val img →
    (ts.find? fun x => !tableOk x.2 (u.ireg (O.CH_TRIM x.1)).natAbs) = none →
    ts.any (fun x => u.isSet (O.CH_SCHEDULE_PENDING x.1)) = false →
    exec (.quadScheduleCommit t n (.commit r crc 0)) s = .next ((ts.foldl (fun (s : State) x => s.giveTable x.1 (s.now + pipeUnits) x.2) (u.setXfer (O.CH_QUAD_SCHEDULE (4 * n.val)) none)).okays r (O.CH_QUAD_SCHEDULE (4 * n.val)))) ∧
  (∀ (s u : State) (t : Nat) (r : Requester) (crc : Nat) (img : List Byte) (n : Fin 36) (mask tt : Nat) (ts : List (Nat × List Byte)) (w : State) (z : Nat), u = s.tickTo t →
    u.commitReady r (O.CH_QUAD_SCHEDULE (4 * n.val)) crc img = true →
    tt ≠ 0 →
    img.length = 40976 →
    fieldLE img 0 4 = 0x44515345 →
    byteAt img 4 = n.val →
    ts = quadTables n.val img →
    (ts.find? fun x => !tableOk x.2 (u.ireg (O.CH_TRIM x.1)).natAbs) = none →
    ts.any (fun x => u.isSet (O.CH_SCHEDULE_PENDING x.1)) = false →
    mask = byteAt img 5 % 16 →
    (u.setXfer (O.CH_QUAD_SCHEDULE (4 * n.val)) none).armAction .timingSets (quadUnit n.val mask) tt 0 = (.okay, w) →
    u.ttValid = true →
    tt = ttImage (ttTick z) (ttFine z) →
    exec (.quadScheduleCommit t n (.commit r crc z)) s = .next ((ts.foldl (fun (s : State) x => s.setReg (O.CH_SCHEDULE_PENDING x.1) 1) { w with staged := Tbl.set [] w.staged (quadStage n.val mask) img }).okays r (O.CH_QUAD_SCHEDULE (4 * n.val)))) ∧
  (∀ (s u : State) (t : Nat) (n : Fin 36), u = s.tickTo t →
    exec (.quadScheduleCommit t n .effect) s = .next ((List.range 16).foldl (fun (s : State) mask => s.tableEffect (quadUnit n.val mask) (quadStage n.val mask) (quadTables n.val)) u)) ∧
  (∀ (s u : State) (t : Nat) (r : Requester) (ch : Fin 144) (v : Nat), u = s.tickTo t →
    u.writable r (O.CH_PARK_CODE ch.val) v = true →
    (u.setReg (O.CH_PARK_CODE ch.val) v).parked ch.val = true →
    exec (.parkCodeWrite t r ch v) s = .next (((u.setReg (O.CH_PARK_CODE ch.val) v).parkLevels ch.val).okays r (O.CH_PARK_CODE ch.val))) ∧
  (∀ (s u : State) (t : Nat) (r : Requester) (ch : Fin 144) (v : Nat), u = s.tickTo t →
    u.writable r (O.CH_PARK_CODE ch.val) v = true →
    (u.setReg (O.CH_PARK_CODE ch.val) v).parked ch.val = false →
    (u.setReg (O.CH_PARK_CODE ch.val) v).reg (O.CH_STATE ch.val) ≠ 3 →
    exec (.parkCodeWrite t r ch v) s = .next ((u.setReg (O.CH_PARK_CODE ch.val) v).okays r (O.CH_PARK_CODE ch.val))) ∧
  (∀ (s u : State) (t : Nat) (r : Requester) (ch : Fin 144) (v : Nat), u = s.tickTo t →
    u.writable r (O.CH_PARK_CODE ch.val) v = true →
    (u.setReg (O.CH_PARK_CODE ch.val) v).parked ch.val = false →
    (u.setReg (O.CH_PARK_CODE ch.val) v).reg (O.CH_STATE ch.val) = 3 →
    (u.setReg (O.CH_PARK_CODE ch.val) v).reg (O.SER_LOOPBACK ch.val) = 1 ∨ (u.setReg (O.CH_PARK_CODE ch.val) v).reg (O.SER_LOOPBACK ch.val) = 2 →
    exec (.parkCodeWrite t r ch v) s = .next (((u.setReg (O.CH_PARK_CODE ch.val) v).parkLevels ch.val).okays r (O.CH_PARK_CODE ch.val))) ∧
  (∀ (s u : State) (t : Nat) (r : Requester) (ch : Fin 144) (v : Nat), u = s.tickTo t →
    u.writable r (O.CH_PARK_CODE ch.val) v = true →
    (u.setReg (O.CH_PARK_CODE ch.val) v).parked ch.val = false →
    (u.setReg (O.CH_PARK_CODE ch.val) v).reg (O.CH_STATE ch.val) = 3 →
    ¬ ((u.setReg (O.CH_PARK_CODE ch.val) v).reg (O.SER_LOOPBACK ch.val) = 1 ∨ (u.setReg (O.CH_PARK_CODE ch.val) v).reg (O.SER_LOOPBACK ch.val) = 2) →
    exec (.parkCodeWrite t r ch v) s = .next (((u.setReg (O.CH_PARK_CODE ch.val) v).setChan ch.val { (u.setReg (O.CH_PARK_CODE ch.val) v).chan ch.val with denLevel := v.testBit 1 }).okays r (O.CH_PARK_CODE ch.val))) ∧
  (∀ (s u : State) (t : Nat) (r : Requester) (ch : Fin 144) (v : Nat), u = s.tickTo t →
    u.writable r (O.CH_MODE ch.val) v = true →
    u.parked ch.val = true →
    u.reg (O.CH_MODE ch.val) ≠ v →
    exec (.modeChange t r ch v) s = .next (((u.setReg (O.CH_MODE ch.val) v).holdPad ch.val 5 true).okays r (O.CH_MODE ch.val))) ∧
  (∀ (s u : State) (t : Nat) (ch : Fin 144), u = s.tickTo t →
    (u.chan ch.val).holds.testBit 5 = true →
    exec (.modeChangeDone t ch) s = .next (u.holdPad ch.val 5 false)) ∧
  (∀ (s u : State) (t : Nat) (r : Requester) (ch : Fin 144) (v : Nat), u = s.tickTo t →
    u.writable r (O.CH_TRIM ch.val) v = true →
    (signed 32 v).natAbs ≤ minPeriod (u.tsTable ch.val) →
    exec (.trimWrite t r ch v) s = .next ((u.setReg (O.CH_TRIM ch.val) v).okays r (O.CH_TRIM ch.val))) ∧
  (∀ (s u : State) (t : Nat) (r : Requester) (ch : Fin 144) (pair : Fin 4) (v : Nat), u = s.tickTo t →
    u.writable r (deskewObj ch.val pair.val) v = true →
    u.parked ch.val = true →
    exec (.deskewWrite t r ch pair v) s = .next ((u.setReg (deskewObj ch.val pair.val) v).okays r (deskewObj ch.val pair.val))) ∧
  (∀ (s u : State) (t : Nat) (n : Fin 36) (steps : List Int), u = s.tickTo t →
    exec (.bgcalMeasurement t n steps) s = .next ((List.range 4).foldl (fun (s : State) i =>
      if !s.isSet (O.CH_BGCAL_ENABLE (4 * n.val + i)) then s
      else
        let v := s.setChan (4 * n.val + i) { s.chan (4 * n.val + i) with corrNext := (List.range 4).map fun p => max (-1) (min 1 (steps.getD (4 * i + p) 0)) }
        if v.parked (4 * n.val + i) then v.takeCorr (4 * n.val + i) else v) u)) ∧
  (∀ (s u : State) (t : Nat) (ch : Fin 144) (n : Nat), u = s.tickTo t →
    (u.chan ch.val).stopping = true →
    (u.chan ch.val).drvQ = [] →
    (u.chan ch.val).denQ = [] →
    (u.chan ch.val).strobes = [] →
    n = (if (u.chan ch.val).lastEdge < (u.chan ch.val).nextStart ∨ (u.chan ch.val).period = 0 then 0 else ((u.chan ch.val).lastEdge - (u.chan ch.val).nextStart) / (u.chan ch.val).period + 1) →
    (u.chan ch.val).nextStart + n * (u.chan ch.val).period ≤ u.now →
    exec (.channelStop t ch) s = .next (u.enterParked ch.val)) ∧
  (∀ (s u : State) (t : Nat) (ch : Fin 144) (a : Nat) (v : State), u = s.tickTo t →
    v = u.switchOut ch.val →
    v.reg (O.CH_STATE ch.val) = 0 →
    v.reg (O.CH_MODE ch.val) = 0 →
    (v.chan ch.val).drvOut ≠ srcNone ∨ (v.chan ch.val).expOut ≠ srcNone →
    v.patternStart ch.val = some a →
    exec (.patternStart t ch) s = .next ((v.setChan ch.val { v.chan ch.val with nextStart := a + (if v.reg (O.CH_FIFO_MODE ch.val) = 1 then 332 else 32) * Config.nsUnits, period := 0, first := true, lastTs := 0, half := false, stopping := false, lastEdge := 0 }).setReg (O.CH_STATE ch.val) 1)) ∧
  (∀ (s u : State) (t : Nat) (ch : Fin 144), u = s.tickTo t →
    u.reg (O.CH_STATE ch.val) = 1 ∨ u.reg (O.CH_STATE ch.val) = 2 →
    (u.chan ch.val).stopping = false →
    (u.chan ch.val).nextStart ≤ u.now →
    exec (.vectorBegin t ch) s = .next (u.boundary ch.val (u.chan ch.val).nextStart)) ∧
  (∀ (s u : State) (t : Nat) (ch : Fin 144) (q : List Edge) (last : Nat) (level crowded : Bool), u = s.tickTo t →
    placeEdge (u.chan ch.val).denQ (u.chan ch.val).denLast (u.chan ch.val).denLevel u.now = some (q, last, level, crowded) →
    exec (.driveEdge t ch true) s = .next (if crowded = true then (u.setChan ch.val { u.chan ch.val with lastEdge := max (u.chan ch.val).lastEdge last, denQ := q, denLast := last, denLevel := level }).edgeFault ch.val 0 else u.setChan ch.val { u.chan ch.val with lastEdge := max (u.chan ch.val).lastEdge last, denQ := q, denLast := last, denLevel := level })) ∧
  (∀ (s u : State) (t : Nat) (ch : Fin 144) (q : List Edge) (last : Nat) (level crowded : Bool), u = s.tickTo t →
    placeEdge (u.chan ch.val).drvQ (u.chan ch.val).drvLast (u.chan ch.val).drvLevel u.now = some (q, last, level, crowded) →
    exec (.driveEdge t ch false) s = .next (if crowded = true then (u.setChan ch.val { u.chan ch.val with lastEdge := max (u.chan ch.val).lastEdge last, drvQ := q, drvLast := last, drvLevel := level }).edgeFault ch.val 0 else u.setChan ch.val { u.chan ch.val with lastEdge := max (u.chan ch.val).lastEdge last, drvQ := q, drvLast := last, drvLevel := level }))

/-- STROBE completes for edge strobes and for windows, and its result joins its step. Each clause names a command and conditions on
the operands and on u alone, u being the state with its clock at the command's instant t. For every state and all operands that
meet them, exec of the command answers a next state, and it is the one written out from u: what it does not name stays as it was
in u. What a strobe sees at its balls is its operand (log entry 60). Rests on R108, R109. -/
def Obligations.StrobeCommandsComplete : Prop :=
  (∀ (s u : State) (t : Nat) (ch : Fin 144) (look : Look) (x : Strobe) (ball : Nat) (c : Chan) (v w : State), u = s.tickTo t →
    (u.chan ch.val).nextStrobe u.now = some (x, ball, c) →
    v = (u.setChan ch.val (c.sampled look)).chanPulse ch.val 2 →
    w = (List.range x.moved).foldl (fun (s : State) _ => s.edgeFault ch.val 0) v →
    w.isSet (O.CH_PAD_LATCHED ch.val) = true →
    exec (.strobe t ch look) s = .next (w.presentDone ch.val)) ∧
  (∀ (s u : State) (t : Nat) (ch : Fin 144) (look : Look) (x : Strobe) (ball : Nat) (c : Chan) (v w : State) (fail conflict : Bool) (y z : State), u = s.tickTo t →
    (u.chan ch.val).nextStrobe u.now = some (x, ball, c) →
    v = (u.setChan ch.val (c.sampled look)).chanPulse ch.val 2 →
    w = (List.range x.moved).foldl (fun (s : State) _ => s.edgeFault ch.val 0) v →
    w.isSet (O.CH_PAD_LATCHED ch.val) = false →
    w.judge x.code look = (fail, conflict, y) →
    z = (if conflict = true then y.bump (O.CH_CONFLICT ch.val) 1 else y) →
    x.code = 0 →
    exec (.strobe t ch look) s = .next (z.presentDone ch.val)) ∧
  (∀ (s u : State) (t : Nat) (ch : Fin 144) (look : Look) (x : Strobe) (ball : Nat) (c : Chan) (v w : State) (fail conflict : Bool) (y z : State), u = s.tickTo t →
    (u.chan ch.val).nextStrobe u.now = some (x, ball, c) →
    v = (u.setChan ch.val (c.sampled look)).chanPulse ch.val 2 →
    w = (List.range x.moved).foldl (fun (s : State) _ => s.edgeFault ch.val 0) v →
    w.isSet (O.CH_PAD_LATCHED ch.val) = false →
    w.judge x.code look = (fail, conflict, y) →
    z = (if conflict = true then y.bump (O.CH_CONFLICT ch.val) 1 else y) →
    x.code ≠ 0 →
    fail = true →
    exec (.strobe t ch look) s = .next (((z.chanPulse ch.val 3).failBit ch.val ball x conflict).presentDone ch.val)) ∧
  (∀ (s u : State) (t : Nat) (ch : Fin 144) (look : Look) (x : Strobe) (ball : Nat) (c : Chan) (v w : State) (fail conflict : Bool) (y z : State), u = s.tickTo t →
    (u.chan ch.val).nextStrobe u.now = some (x, ball, c) →
    v = (u.setChan ch.val (c.sampled look)).chanPulse ch.val 2 →
    w = (List.range x.moved).foldl (fun (s : State) _ => s.edgeFault ch.val 0) v →
    w.isSet (O.CH_PAD_LATCHED ch.val) = false →
    w.judge x.code look = (fail, conflict, y) →
    z = (if conflict = true then y.bump (O.CH_CONFLICT ch.val) 1 else y) →
    x.code ≠ 0 →
    fail = false →
    exec (.strobe t ch look) s = .next (((z.chanPulse ch.val 4).matchBit ch.val ball x).presentDone ch.val))

/-- Queues complete: DESC_COMMIT, ENABLE, offers, ring writes, doorbells, flushes and deadlines. Each clause names a command and
conditions on the operands and on u alone, u being the state with its clock at the command's instant t. For every state and all
operands that meet them, exec of the command answers a next state, and it is the one written out from u: what it does not name
stays as it was in u. They cover DESC_COMMIT, ENABLE, DRAIN_COMPLETE, PRODUCER_OFFER, RING_WRITE_COMPLETE, PROD_DOORBELL,
CONS_DOORBELL, QUEUE_FLUSH, QUEUE_DEADLINE and DEADLINE. The answer to a ring write rests on log entry 81. Rests on R228, R230,
R231, R233, R235, R236. -/
def Obligations.QueueCommandsComplete : Prop :=
  (∀ (s u : State) (t : Nat) (r : Requester) (crc : Nat) (img : List Byte) (q : Fin 32768) (tt d : Nat) (v : State) (z : Nat), u = s.tickTo t →
    u.commitReady r (O.Q_DESC q.val) crc img = true →
    v = (u.setXfer (O.Q_DESC q.val) none) →
    d = leNat img →
    v.descRefused q.val img = false →
    tt = 0 →
    tt = ttImage (ttTick z) (ttFine z) →
    exec (.descCommit t r q crc z) s = .next ((v.setQueue q.val { v.queue q.val with base := if d.testBit 126 then bits d 18 0 else bits d 42 0, size := bits d 66 43, loc := d.testBit 126, pkind := if (v.streamOn q.val true).isSome then 6 else bits d 119 117, ckind := if (v.streamOn q.val false).isSome then 6 else bits d 122 120, prod := 0, cons := 0, prodPh := false, consPh := false }).okays r (O.Q_DESC q.val))) ∧
  (∀ (s u : State) (t : Nat) (r : Requester) (q : Fin 32768), u = s.tickTo t →
    u.writable r (O.Q_ENABLE q.val) 1 = true →
    u.reg (O.Q_STATE q.val) = 0 →
    exec (.enable t r q true) s = .next ((((((u.setReg (O.Q_STATE q.val) 1).setReg (O.Q_ENABLE q.val) 1).ledAdd 0x1051 0 (u.queue q.val).size).ledAdd 0x1051 1 (u.queue q.val).size).queueMoved q.val).okays r (O.Q_ENABLE q.val))) ∧
  (∀ (s u : State) (t : Nat) (r : Requester) (q : Fin 32768), u = s.tickTo t →
    u.writable r (O.Q_ENABLE q.val) 0 = true →
    u.reg (O.Q_STATE q.val) = 1 ∨ u.reg (O.Q_STATE q.val) = 3 →
    exec (.enable t r q false) s = .next (((u.setReg (O.Q_STATE q.val) 2).setReg (O.Q_ENABLE q.val) 0).okays r (O.Q_ENABLE q.val))) ∧
  (∀ (s u : State) (t : Nat) (q : Fin 32768), u = s.tickTo t →
    u.reg (O.Q_STATE q.val) = 2 →
    (u.queue q.val).fill = 0 →
    (u.queue q.val).resvs = [] →
    exec (.drainComplete t q) s = .next (((u.setReg (O.Q_STATE q.val) 0).ledSub 0x1051 0 (u.queue q.val).size).ledSub 0x1051 1 (u.queue q.val).size)) ∧
  (∀ (s u : State) (t : Nat) (q : Fin 32768) (gran : List Byte) (v : State), u = s.tickTo t →
    v = u.descRead q.val →
    u.accepts q.val 1 = true →
    v.accepts q.val 1 = true →
    exec (.producerOffer t q gran) s = .next ({ ((v.reserve q.val 0 gran).ledAdd 0x1050 0 1).ledAdd 0x1050 2 1 with reply := ⟨.okay, []⟩ })) ∧
  (∀ (s u : State) (t : Nat) (q : Fin 32768) (num : Nat) (x : Resv) (v : State), u = s.tickTo t →
    (u.queue q.val).resvs.find? (fun r => r.num == num) = some x →
    x.written = false →
    x.gran ≠ [] →
    (u.ringWrite (u.queue q.val) x.place x.gran).1 = some .okay →
    v = (u.ringWrite (u.queue q.val) x.place x.gran).2 →
    exec (.ringWriteComplete t q num) s = .next ((v.setQueue q.val { v.queue q.val with resvs := (v.queue q.val).resvs.map fun x => if x.num = num then { x with written := true } else x }).commitHead q.val)) ∧
  (∀ (s u : State) (t : Nat) (r : Requester) (q : Fin 32768) (n : Nat), u = s.tickTo t →
    u.writable r (O.Q_PROD_DOORBELL q.val) n = true →
    (u.queue q.val).pkind = 7 →
    u.reg (O.Q_STATE q.val) = 1 →
    n ≤ (u.queue q.val).size - (u.queue q.val).fill →
    exec (.prodDoorbell t r q n) s = .next ((((((((u.setQueue q.val ((u.queue q.val).advProd n)).ledMove 0x1051 1 3 n).ledAdd 0x1050 0 n).ledAdd 0x1050 2 n).bump (O.Q_ENQUEUED q.val) n).watermarks q.val (u.queue q.val).fill).queueMoved q.val).okays r (O.Q_PROD_DOORBELL q.val))) ∧
  (∀ (s u : State) (t : Nat) (r : Requester) (q : Fin 32768) (n : Nat), u = s.tickTo t →
    u.writable r (O.Q_CONS_DOORBELL q.val) n = true →
    (u.queue q.val).ckind = 7 →
    n ≤ (u.queue q.val).fill →
    exec (.consDoorbell t r q n) s = .next (((u.consume q.val n).queueMoved q.val).okays r (O.Q_CONS_DOORBELL q.val))) ∧
  (∀ (s u : State) (t : Nat) (r : Requester) (q : Fin 32768), u = s.tickTo t →
    u.writable r (O.Q_FLUSH q.val) 1 = true →
    u.reg (O.Q_STATE q.val) = 2 ∨ u.reg (O.Q_STATE q.val) = 3 →
    exec (.queueFlush t r q true) s = .next (((((((u.setQueue q.val { u.queue q.val with cons := (u.queue q.val).prod, consPh := (u.queue q.val).prodPh }).ledMove 0x1051 3 1 (u.queue q.val).fill).ledMove 0x1050 2 5 (u.queue q.val).fill).bump (O.Q_FLUSHED q.val) (u.queue q.val).fill).watermarks q.val (u.queue q.val).fill).queueMoved q.val).okays r (O.Q_FLUSH q.val))) ∧
  (∀ (s u : State) (t : Nat) (q : Fin 32768) (a : Sched) (v w : State), u = s.tickTo t →
    u.sched .deadline q.val = some a →
    u.due .deadline q.val a = true →
    (u.feeders q.val).any (fun x => u.failsBefore x (u.schedInstant a)) = false →
    v = ((u.feeders q.val).foldl State.flushUnit u).endAction .deadline q.val 1 →
    w = (u.feeders q.val).foldl State.representHeld v →
    exec (.queueDeadline t q) s = .next (w.setQueue q.val { w.queue q.val with dlWait := some ((u.feeders q.val).map fun x => (x, (v.fc x).nextRec)), dlStamp := u.ttOf (u.schedInstant a) })) ∧
  (∀ (s u : State) (t : Nat) (q : Fin 32768) (waits : List (Nat × Nat)), u = s.tickTo t →
    (u.queue q.val).dlWait = some waits →
    u.deadlineMet q.val waits = true →
    exec (.deadline t q) s = .next ((u.setQueue q.val { u.queue q.val with dlWait := none }).queueEvent q.val 3))

/-- Fail capture completes: SITES, the channel configuration, word records, offers and flushes. Each clause names a command and
conditions on the operands and on u alone, u being the state with its clock at the command's instant t. For every state and all
operands that meet them, exec of the command answers a next state, and it is the one written out from u: what it does not name
stays as it was in u. They cover SITES_COMMIT, SITE_FAILS_CLEAR, CHAN_CFG_COMMIT, WORD_RECORD_CLOSE, RUN_IDLE_EXPIRY, FC_FLUSH,
RUN_EN_WRITE and RECORD_OFFER. What ledger 0x1052 counts rests on log entry 82. Rests on R218, R219, R220, R223, R224, R225. -/
def Obligations.FailCaptureCommandsComplete : Prop :=
  (∀ (s u : State) (t : Nat) (r : Requester) (crc : Nat) (img : List Byte), u = s.tickTo t →
    u.commitReady r O.SITES crc img = true →
    img.length = 4096 →
    exec (.sitesCommit t (.commit r crc 0)) s = .next (((u.setXfer O.SITES none).swapImage O.SITES u.nextWc img).okays r O.SITES)) ∧
  (∀ (s u : State) (t : Nat) (r : Requester) (crc : Nat) (img : List Byte) (tt : Nat) (w : State) (z : Nat), u = s.tickTo t →
    u.commitReady r O.SITES crc img = true →
    tt ≠ 0 →
    img.length = 4096 →
    u.sched .sites 0 = none →
    (u.setXfer O.SITES none).armAction .sites 0 tt 0 = (.okay, w) →
    u.ttValid = true →
    tt = ttImage (ttTick z) (ttFine z) →
    exec (.sitesCommit t (.commit r crc z)) s = .next (({ w with staged := Tbl.set [] w.staged O.SITES img }).okays r O.SITES)) ∧
  (∀ (s u : State) (t : Nat) (a : Sched), u = s.tickTo t →
    u.sched .sites 0 = some a →
    u.due .sites 0 a = true →
    exec (.sitesCommit t .effect) s = .next (({ u.endAction .sites 0 1 with staged := Tbl.set [] u.staged O.SITES [] } : State).swapImage O.SITES (u.effectAt .sites 0 a / Config.wordUnits) (Tbl.get [] u.staged O.SITES))) ∧
  (∀ (s u : State) (t : Nat) (r : Requester), u = s.tickTo t →
    u.writable r O.SITE_FAILS_CLEAR 1 = true →
    exec (.siteFailsClear t r true) s = .next (({ u with siteFails := [] }).okays r O.SITE_FAILS_CLEAR)) ∧
  (∀ (s u : State) (t : Nat) (r : Requester) (crc : Nat) (img : List Byte) (q : Fin 4) (tt : Nat) (z : Nat), u = s.tickTo t →
    u.commitReady r (O.FC_CHAN_CFG q.val) crc img = true →
    cfgRefused img = false →
    (List.range 36).any (fun i => fieldLE img (2 * i) 2 != u.chanCfg (36 * q.val + i) && !u.parked (36 * q.val + i)) = false →
    tt = 0 →
    tt = ttImage (ttTick z) (ttFine z) →
    exec (.chanCfgCommit t r q crc z) s = .next (((u.setXfer (O.FC_CHAN_CFG q.val) none).setImage (O.FC_CHAN_CFG q.val) img).okays r (O.FC_CHAN_CFG q.val))) ∧
  (∀ (s u : State) (t : Nat) (q : Fin 4) (g : Fin 16) (x : FailRec), u = s.tickTo t →
    Tbl.get none (u.fc q.val).word g.val = some x →
    x.openAt / Config.wordUnits + u.reg (O.FC_MERGE_WINDOW q.val) ≤ u.now / Config.wordUnits →
    exec (.wordRecordClose t q g) s = .next (u.closeWord q.val g.val)) ∧
  (∀ (s u : State) (t : Nat) (q : Fin 4) (src : Fin 52) (x : FailRec), u = s.tickTo t →
    Tbl.get none (u.fc q.val).run src.val = some x →
    x.openAt / Config.wordUnits + u.reg (O.FC_RUN_IDLE q.val) ≤ u.now / Config.wordUnits →
    exec (.runIdleExpiry t q src) s = .next (u.closeRun q.val src.val)) ∧
  (∀ (s u : State) (t : Nat) (r : Requester) (q : Fin 4), u = s.tickTo t →
    u.writable r (O.FC_FLUSH q.val) 1 = true →
    exec (.fcFlush t r q true) s = .next ((u.flushUnit q.val).okays r (O.FC_FLUSH q.val))) ∧
  (∀ (s u : State) (t : Nat) (r : Requester) (q : Fin 4), u = s.tickTo t →
    u.writable r (O.FC_RUN_EN q.val) 1 = true →
    exec (.runEnWrite t r q true) s = .next ((u.setReg (O.FC_RUN_EN q.val) 1).okays r (O.FC_RUN_EN q.val))) ∧
  (∀ (s u : State) (t : Nat) (r : Requester) (q : Fin 4), u = s.tickTo t →
    u.writable r (O.FC_RUN_EN q.val) 0 = true →
    exec (.runEnWrite t r q false) s = .next (((List.range 52).foldl (fun (s : State) k => s.closeRun q.val k) (u.setReg (O.FC_RUN_EN q.val) 0)).okays r (O.FC_RUN_EN q.val))) ∧
  (∀ (s u : State) (t : Nat) (q : Fin 4) (n fq : Nat) (x : FailRec) (rest : List (Nat × FailRec)) (v : State), u = s.tickTo t →
    (u.fc q.val).buffer = (n, x) :: rest →
    fq = u.reg (O.FC_FAIL_QUEUE q.val) →
    fq < 32768 →
    u.earlierOpen q.val x = false →
    (u.fc q.val).offerAt ≠ u.wc + 1 →
    v = u.setFc q.val { u.fc q.val with buffer := rest, offerAt := u.wc + 1 } →
    v.accepts fq 1 = true →
    exec (.recordOffer t q) s = .next ((v.setFc q.val { v.fc q.val with gap := false }).offer fq (Producer.fail.who (q.val + 4 * n)) (x.granule (u.fc q.val).gap)))

/-- Repair analysis completes: REPAIR_PRESENTATION, REPAIR_UPDATE, CONTEXTS_COMMIT, REPAIR_CLEAR and REPORT. Each clause names a
command and conditions on the operands and on u alone, u being the state with its clock at the command's instant t. For every
state and all operands that meet them, exec of the command answers a next state, and it is the one written out from u: what it
does not name stays as it was in u. REPORT in the wrong state rests on log entry 83. Rests on R240, R241, R242, R245, R246. -/
def Obligations.RepairCommandsComplete : Prop :=
  (∀ (s u : State) (t : Nat) (q : Fin 4) (x y : RepUpd) (rest : List RepUpd) (home : Nat) (v w : State), u = s.tickTo t →
    (u.rep q.val).front = x :: rest →
    x.openAt + 8 * Config.wordUnits ≤ u.now →
    home = x.home % 4 →
    v = u.setRep q.val { u.rep q.val with front := rest } →
    w = (if home = q.val then v else v.bump (O.RU_FORWARDED q.val) 1) →
    y = x.decode (w.reg (O.RU_ADDR_MAP home)) →
    (w.rep home).backlog.length < 16384 →
    exec (.repairPresentation t q) s = .next (w.setRep home { w.rep home with backlog := (w.rep home).backlog ++ [y] })) ∧
  (∀ (s u : State) (t : Nat) (q : Fin 4) (x : RepUpd) (rest : List RepUpd), u = s.tickTo t →
    (u.rep q.val).backlog = x :: rest →
    (u.rep q.val).takenAt ≠ u.wc + 1 →
    exec (.repairUpdate t q) s = .next ((u.setRep q.val { u.rep q.val with backlog := rest, takenAt := u.wc + 1 }).repRoute q.val x false)) ∧
  (∀ (s u : State) (t : Nat) (r : Requester) (crc : Nat) (img : List Byte) (q : Fin 4) (tt : Nat) (z : Nat), u = s.tickTo t →
    u.commitReady r (O.RU_CONTEXTS q.val) crc img = true →
    contextsRefused img (bits (u.reg (O.RU_ADDR_MAP q.val)) 30 28) = false →
    tt = 0 →
    tt = ttImage (ttTick z) (ttFine z) →
    exec (.contextsCommit t r q crc z) s = .next ((((u.setXfer (O.RU_CONTEXTS q.val) none).setRep q.val { u.rep q.val with ctxs := (u.rep q.val).ctxs.filter fun c => slice (16 * c.1) 16 img == slice (16 * c.1) 16 (u.image (O.RU_CONTEXTS q.val)) }).setImage (O.RU_CONTEXTS q.val) img).okays r (O.RU_CONTEXTS q.val))) ∧
  (∀ (s u : State) (t : Nat) (r : Requester) (q : Fin 4) (v : Nat), u = s.tickTo t →
    u.writable r (O.RU_CLEAR q.val) v = true →
    exec (.repairClear t r q v) s = .next ((u.setRep q.val { u.rep q.val with ctxs := if v.testBit 15 then [] else Tbl.set none (u.rep q.val).ctxs (v % 2048) none }).okays r (O.RU_CLEAR q.val))) ∧
  (∀ (s u : State) (t : Nat) (r : Requester) (q : Fin 4) (v rq : Nat) (ix : List Nat) (gs : List (List Byte)) (w : State), u = s.tickTo t →
    u.writable r (O.RU_REPORT q.val) v = true →
    w = u.takeUpdate q.val →
    rq = w.reg (O.RU_REPORT_QUEUE q.val) →
    rq < 32768 →
    ix = (if v.testBit 15 then (List.range 2048).filter fun i => (ctxDesc (w.image (O.RU_CONTEXTS q.val)) i).valid else [v % 2048]) →
    ix.any (fun i => !(ctxDesc (w.image (O.RU_CONTEXTS q.val)) i).valid) = false →
    ix ≠ [] →
    gs = ix.flatMap (fun i => repReport i (ctxDesc (w.image (O.RU_CONTEXTS q.val)) i) (w.repCtx q.val i)) →
    w.reg (O.Q_STATE rq) = 1 →
    gs.length ≤ (w.queue rq).room →
    exec (.report t r q v) s = .next ((w.offerAll rq (Producer.repair.who q.val) gs).okays r (O.RU_REPORT q.val)))

/-- The Halter completes: its table, site masks, releases, sticky bits, slots and failsafe. Each clause names a command and conditions
on the operands and on u alone, u being the state with its clock at the command's instant t. For every state and all operands that
meet them, exec of the command answers a next state, and it is the one written out from u: what it does not name stays as it was
in u. They cover TABLE, SITE_MASK, RELEASE_DISARM, FORCE_RELEASE, STICKY_CLEAR, SLOT_WINDOW_END, FAILSAFE_ENTRY and
CLEAR_FAILSAFE. Delays are taken at their bounds (log entry 77). Rests on R193, R200, R201, R204, R208, R210, R215. -/
def Obligations.HalterCommandsComplete : Prop :=
  (∀ (s u : State) (t : Nat) (r : Requester) (crc : Nat) (img : List Byte) (v w : State), u = s.tickTo t →
    u.commitReady r O.HALT_TABLE crc img = true →
    img.length = 2512 →
    tableRefused img (u.reg O.HALT_YARD_POS) = false →
    v = (u.setXfer O.HALT_TABLE none).haltPump →
    v.tableTakes img = false →
    w = v.swapImage O.HALT_TABLE u.nextWc (splice v.haltImg 4 (slice 4 1 img)) →
    exec (.table t (.commit r crc 0)) s = .next ((((List.range 8).foldl (fun (s : State) k => if (byteAt img 4).testBit k then s.applyLine u.nextWc img k else s) w).bump O.HALT_TABLE_COMMITS 1).okays r O.HALT_TABLE)) ∧
  (∀ (s u : State) (t : Nat) (r : Requester) (crc : Nat) (img : List Byte) (tt : Nat) (w : State) (z : Nat), u = s.tickTo t →
    u.commitReady r O.HALT_TABLE crc img = true →
    tt ≠ 0 →
    img.length = 2512 →
    tableRefused img (u.reg O.HALT_YARD_POS) = false →
    u.sched .haltTable 0 = none →
    (u.setXfer O.HALT_TABLE none).armAction .haltTable 0 tt 0 = (.okay, w) →
    u.ttValid = true →
    tt = ttImage (ttTick z) (ttFine z) →
    exec (.table t (.commit r crc z)) s = .next (({ w with staged := Tbl.set [] w.staged O.HALT_TABLE img }).okays r O.HALT_TABLE)) ∧
  (∀ (s u : State) (t : Nat) (a : Sched) (img : List Byte) (v w : State), u = s.tickTo t →
    u.sched .haltTable 0 = some a →
    u.due .haltTable 0 a = true →
    img = Tbl.get [] u.staged O.HALT_TABLE →
    v = { u with staged := Tbl.set [] u.staged O.HALT_TABLE [] }.haltPump →
    v.tableTakes img = false →
    w = v.swapImage O.HALT_TABLE (u.effectAt .haltTable 0 a / Config.wordUnits) (splice v.haltImg 4 (slice 4 1 img)) →
    exec (.table t .effect) s = .next ((((List.range 8).foldl (fun (s : State) k => if (byteAt img 4).testBit k then s.applyLine (u.effectAt .haltTable 0 a / Config.wordUnits) img k else s) w).bump O.HALT_TABLE_COMMITS 1).endAction .haltTable 0 1)) ∧
  (∀ (s u : State) (t : Nat) (r : Requester) (crc : Nat) (img : List Byte) (k : Fin 8), u = s.tickTo t →
    u.commitReady r (O.SMASK_SITE_MASK k.val) crc img = true →
    img.length = 128 →
    exec (.siteMask t k (.commit r crc 0)) s = .next (((u.setXfer (O.SMASK_SITE_MASK k.val) none).applySiteMask u.nextWc k.val img).okays r (O.SMASK_SITE_MASK k.val))) ∧
  (∀ (s u : State) (t : Nat) (r : Requester) (crc : Nat) (img : List Byte) (k : Fin 8) (tt : Nat) (w : State) (z : Nat), u = s.tickTo t →
    u.commitReady r (O.SMASK_SITE_MASK k.val) crc img = true →
    tt ≠ 0 →
    img.length = 128 →
    u.sched .siteMask k.val = none →
    (u.setXfer (O.SMASK_SITE_MASK k.val) none).armAction .siteMask k.val tt 0 = (.okay, w) →
    u.ttValid = true →
    tt = ttImage (ttTick z) (ttFine z) →
    exec (.siteMask t k (.commit r crc z)) s = .next (({ w with staged := Tbl.set [] w.staged (O.SMASK_SITE_MASK k.val) img }).okays r (O.SMASK_SITE_MASK k.val))) ∧
  (∀ (s u : State) (t : Nat) (k : Fin 8) (a : Sched), u = s.tickTo t →
    u.sched .siteMask k.val = some a →
    u.due .siteMask k.val a = true →
    exec (.siteMask t k .effect) s = .next (({ u with staged := Tbl.set [] u.staged (O.SMASK_SITE_MASK k.val) [] }.applySiteMask (u.effectAt .siteMask k.val a / Config.wordUnits) k.val (Tbl.get [] u.staged (O.SMASK_SITE_MASK k.val))).endAction .siteMask k.val 1)) ∧
  (∀ (s u : State) (t : Nat) (e : Fin 512) (k slot d : Nat) (virt : Bool) (rest : List (Nat × Bool × Nat × Nat)) (v w : State), u = s.tickTo t →
    v = u.haltPump →
    (Tbl.get ({} : Engine) v.engines e.val).releases = (k, virt, slot, d) :: rest →
    d ≤ v.wc →
    w = { v with engines := Tbl.set {} v.engines e.val { Tbl.get ({} : Engine) v.engines e.val with releases := rest } } →
    w.holdsUnit e.val k virt slot = true →
    exec (.releaseDisarm t e) s = .next ((w.freeUnits k (tokenUnits virt slot)).bump O.ALLOC_RELEASES (tokenUnits virt slot).length)) ∧
  (∀ (s u : State) (t : Nat) (e : Fin 512) (k slot d : Nat) (virt : Bool) (rest : List (Nat × Bool × Nat × Nat)) (v w : State), u = s.tickTo t →
    v = u.haltPump →
    (Tbl.get ({} : Engine) v.engines e.val).releases = (k, virt, slot, d) :: rest →
    d ≤ v.wc →
    w = { v with engines := Tbl.set {} v.engines e.val { Tbl.get ({} : Engine) v.engines e.val with releases := rest } } →
    w.holdsUnit e.val k virt slot = false →
    exec (.releaseDisarm t e) s = .next (w)) ∧
  (∀ (s u : State) (t : Nat) (r : Requester) (k : Fin 8) (v : Nat) (us held : List Nat), u = s.tickTo t →
    u.writable r (O.LINE_FORCE_RELEASE k.val) v = true →
    us = (if v.testBit 7 ∨ !recDivided (u.hrec k.val) then List.range 16 else [v % 16]) →
    held = us.filter (fun x => (u.hunit k.val x).holding.engine.isSome) →
    held.any (fun x => (u.hunit k.val x).holding.engine.any u.engineLive) = false →
    exec (.forceRelease t r k v) s = .next (((u.haltPump.freeUnits k.val held).bump O.ALLOC_FORCED held.length).okays r (O.LINE_FORCE_RELEASE k.val))) ∧
  (∀ (s u : State) (t : Nat) (k : Fin 8) (x : Fin 16) (v : State), u = s.tickTo t →
    v = u.haltPump →
    exec (.stickyClear t k x) s = .next (v.setHunit k.val x.val { v.hunit k.val x.val with clears := (v.hunit k.val x.val).marks.filter (fun w => decide (w ≤ v.wc)) ++ (v.hunit k.val x.val).clears, marks := (v.hunit k.val x.val).marks.filter fun w => decide (v.wc < w) })) ∧
  (∀ (s u : State) (t : Nat) (k : Fin 8) (x : Fin 16) (edge first at_ : Nat) (arrived : List Nat) (value : Bool) (v w z y : State), u = s.tickTo t →
    v = u.haltPump →
    recDivided (v.hrec k.val) = true →
    v.wcIndex % 96 = (6 * x.val + 6) % 96 →
    edge = v.wc * Config.wordUnits →
    arrived = (v.hunit k.val x.val).slotIn.filter (fun b => decide (b ≤ edge)) →
    value = !arrived.isEmpty →
    at_ = edge + 7 * Config.nsUnits →
    first = arrived.foldl min edge →
    w = (if value then v.haltCount k.val (min 6 ((edge - first + Config.wordUnits - 1) / Config.wordUnits)) else v) →
    z = w.setHunit k.val x.val { v.hunit k.val x.val with slotIn := (v.hunit k.val x.val).slotIn.filter (fun b => decide (edge < b)), slotLast := value, asserts := if value then at_ / Config.wordUnits :: (v.hunit k.val x.val).asserts else (v.hunit k.val x.val).asserts } →
    y = z.takeSample edge k.val →
    exec (.slotWindowEnd t k x) s = .next ((y.setHline k.val { y.hline k.val with sample := some (x.val, value, at_) }).haltTrace k.val (decide (z.haltValue k.val ≠ 0)))) ∧
  (∀ (s u : State) (t : Nat) (v : State), u = s.tickTo t →
    v = u.haltPump →
    exec (.failsafeEntry t) s = .next ((List.range 8).foldl
      (fun (s : State) k =>
        if !s.lineAffected k then s
        else
          let l := s.hline k
          let p := match l.yard with
            | p :: _ => p.2
            | [] => (0, 0)
          let cw := v.sideDown (v.reg O.HALT_YARD_CW)
          let ccw := v.sideDown (v.reg O.HALT_YARD_CCW)
          let y := if cw ∨ ccw then s.setHline k { l with yard := (s.wc, if cw then 0 else p.1, if ccw then 0 else p.2) :: l.yard } else s
          let z := if y.failCauses k ||| (y.hline k).causes = (y.hline k).causes then y else y.setFlag (O.LINE_DEGRADED k) 0 (O.LINE_DEGRADED_COUNT k) 1
          let x := z.setHline k { z.hline k with causes := y.failCauses k }
          if x.isSet (O.LINE_FAILSAFE_ACTIVE k) then x else x.enterFailsafe k) v)) ∧
  (∀ (s u : State) (t : Nat) (r : Requester) (k : Fin 8), u = s.tickTo t →
    u.writable r (O.LINE_CLEAR_FAILSAFE k.val) 1 = true →
    u.lineAffected k.val = false →
    u.isSet (O.LINE_FAILSAFE_ACTIVE k.val) = true →
    exec (.clearFailsafe t r k true) s = .next ((u.haltPump.leaveFailsafe k.val).okays r (O.LINE_CLEAR_FAILSAFE k.val)))

/-- Serial lanes complete: PRBS, words and fills, alignment, clock recovery and the eye scan. Each clause names a command and
conditions on the operands and on u alone, u being the state with its clock at the command's instant t. For every state and all
operands that meet them, exec of the command answers a next state, and it is the one written out from u: what it does not name
stays as it was in u. They cover PRBS_WRITE, PRBS_LOCK, ERR_CLEAR, SER_EN, SERIAL_TRANSMIT_WORD, SERIAL_FILL, BITSLIP, ALIGNMENT,
CDR_LOCK, LOCK_LOSS, RX_ADAPT_DONE, EYE_START and EYE_POINT_END. The line codes rest on log entry 87, under-specified points of
the lane on 84 and 85. Rests on R248, R250, R251, R252, R253, R254, R257, R258. -/
def Obligations.SerialCommandsComplete : Prop :=
  (∀ (s u : State) (t : Nat) (r : Requester) (ch : Fin 144) (v : Nat), u = s.tickTo t →
    u.writable r (O.SER_PRBS ch.val) v = true →
    v % 8 ≤ 4 →
    u.serOn ch.val = true →
    exec (.prbsWrite t r ch v) s = .next (((u.setReg (O.SER_PRBS ch.val) v).seedPrbs ch.val).okays r (O.SER_PRBS ch.val))) ∧
  (∀ (s u : State) (t : Nat) (r : Requester) (ch : Fin 144) (v : Nat), u = s.tickTo t →
    u.writable r (O.SER_PRBS ch.val) v = true →
    v % 8 ≤ 4 →
    u.serOn ch.val = false →
    exec (.prbsWrite t r ch v) s = .next ((u.setReg (O.SER_PRBS ch.val) v).okays r (O.SER_PRBS ch.val))) ∧
  (∀ (s u : State) (t : Nat) (ch : Fin 144) (line : List Bool), u = s.tickTo t →
    u.serOn ch.val = true →
    u.reg (O.SER_LOOPBACK ch.val) = 0 →
    exec (.prbsLock t ch line) s = .next (u.rxBits ch.val line)) ∧
  (∀ (s u : State) (t : Nat) (ch : Fin 144) (line : List Bool), u = s.tickTo t →
    u.serOn ch.val = true →
    u.reg (O.SER_LOOPBACK ch.val) = 3 →
    exec (.prbsLock t ch line) s = .next ((u.setSer ch.val { u.ser ch.val with txLine := line }).rxBits ch.val line)) ∧
  (∀ (s u : State) (t : Nat) (ch : Fin 144) (line : List Bool), u = s.tickTo t →
    u.serOn ch.val = true →
    u.reg (O.SER_LOOPBACK ch.val) = 0 →
    exec (.alignment t ch line) s = .next (u.rxBits ch.val line)) ∧
  (∀ (s u : State) (t : Nat) (ch : Fin 144) (line : List Bool), u = s.tickTo t →
    u.serOn ch.val = true →
    u.reg (O.SER_LOOPBACK ch.val) = 3 →
    exec (.alignment t ch line) s = .next ((u.setSer ch.val { u.ser ch.val with txLine := line }).rxBits ch.val line)) ∧
  (∀ (s u : State) (t : Nat) (ch : Fin 144) (line : List Bool) (v : State) (n : Nat), u = s.tickTo t →
    u.serOn ch.val = true →
    u.reg (O.SER_LOOPBACK ch.val) = 0 →
    v = line.foldl (fun (s : State) b => s.checkBit ch.val b) u →
    n = ((v.ser ch.val).rxPend ++ line).length →
    exec (.prbsLock t ch line) s = .next (Nat.repeat (fun (s : State) => s.rxStep ch.val) (n + 1) (v.setSer ch.val { v.ser ch.val with rxPend := (v.ser ch.val).rxPend ++ line }))) ∧
  (∀ (s u : State) (t : Nat) (r : Requester) (ch : Fin 144), u = s.tickTo t →
    u.writable r (O.SER_ERR_CLEAR ch.val) 1 = true →
    exec (.errClear t r ch true) s = .next (((u.setReg (O.SER_BITS ch.val) 0).setReg (O.SER_ERRORS ch.val) 0).okays r (O.SER_ERR_CLEAR ch.val))) ∧
  (∀ (s u : State) (t : Nat) (r : Requester) (ch : Fin 144) (v w : State), u = s.tickTo t →
    u.writable r (O.SER_SER_EN ch.val) 1 = true →
    u.reg (O.CH_MODE ch.val) ≠ 0 →
    u.serOn ch.val = false →
    v = (u.setReg (O.SER_SER_EN ch.val) 1).seedPrbs ch.val →
    w = v.setSer ch.val { v.ser ch.val with txAt := v.now, txUi := 0, rd := false, scr := 2 ^ 58 - 1, second := false, slips := 0, skip := 0, headers := [], rxPend := [], rxRd := false, dscr := 0, rxSecond := false, rxWords := [], adapted := false } →
    exec (.serEn t r ch true) s = .next ((if w.reg (O.CH_STATE ch.val) = 0 then w.setReg (O.CH_STATE ch.val) 3 else w).okays r (O.SER_SER_EN ch.val))) ∧
  (∀ (s u : State) (t : Nat) (r : Requester) (ch : Fin 144) (v w : State), u = s.tickTo t →
    u.writable r (O.SER_SER_EN ch.val) 0 = true →
    u.serOn ch.val = true →
    v = (((u.setReg (O.SER_SER_EN ch.val) 0).setReg (O.SER_CDR_LOCK ch.val) 0).setReg (O.SER_ALIGNED ch.val) 0).setReg (O.SER_PRBS_LOCK ch.val) 0 →
    w = v.setSer ch.val { v.ser ch.val with eye := (v.ser ch.val).eye.map fun y => { y with lock := false, ending := true } } →
    exec (.serEn t r ch false) s = .next ((if w.reg (O.CH_STATE ch.val) = 3 then ((w.setReg (O.CH_STATE ch.val) 0).setChan ch.val { w.chan ch.val with parkedAt := w.now }).parkLevels ch.val else w).okays r (O.SER_SER_EN ch.val))) ∧
  (∀ (s u : State) (t : Nat) (ch : Fin 144) (v : State) (deg tap g : Nat) (l : List Bool), u = s.tickTo t →
    v = u.switchOut ch.val →
    v.serDue ch.val = true →
    v.reg (O.SER_TX_SRC ch.val) = 0 →
    v.reg (O.SER_PRBS ch.val) % 8 ≠ 0 →
    prbsTaps (v.reg (O.SER_PRBS ch.val) % 8) = (deg, tap) →
    prbsBits deg tap 64 ((v.ser ch.val).gen % 2 ^ deg) = (l, g) →
    exec (.serialTransmitWord t ch) s = .next ((v.setSer ch.val { v.ser ch.val with gen := g }).txPut ch.val (l.map (· != (v.reg (O.SER_PRBS ch.val)).testBit 3)) (lsbVal (l.map (· != (v.reg (O.SER_PRBS ch.val)).testBit 3))))) ∧
  (∀ (s u : State) (t : Nat) (ch : Fin 144) (v w : State) (b : List Byte), u = s.tickTo t →
    v = u.switchOut ch.val →
    v.serDue ch.val = true →
    v.reg (O.SER_TX_SRC ch.val) = 0 →
    v.reg (O.SER_PRBS ch.val) % 8 = 0 →
    v.drawBytes 8 = (b, w) →
    exec (.serialTransmitWord t ch) s = .next (w.txPut ch.val (lsbBits 64 (leNat b)) (leNat b))) ∧
  (∀ (s u : State) (t : Nat) (ch : Fin 144) (s0 : State) (l : List Bool) (w : Nat) (v : State), u = s.tickTo t →
    v = u.switchOut ch.val →
    v.serDue ch.val = true →
    2 ≤ v.reg (O.SER_TX_SRC ch.val) →
    w = v.reg (O.SER_PATTERN ch.val) →
    l = lsbBits 64 w →
    v.reg (O.SER_LOOPBACK ch.val) = 0 →
    s0 = v.setSer ch.val { v.ser ch.val with txLine := l, txWord := w, txUi := (v.ser ch.val).txUi + l.length } →
    exec (.serialTransmitWord t ch) s = .next (s0.setChan ch.val { s0.chan ch.val with drvLevel := l.getLastD false })) ∧
  (∀ (s u : State) (t : Nat) (ch : Fin 144) (v : State) (x : LaneWord) (drv : List LaneWord), u = s.tickTo t →
    v = u.switchOut ch.val →
    v.serDue ch.val = true →
    v.reg (O.SER_TX_SRC ch.val) = 1 →
    (v.chan ch.val).drvOut ≠ srcNone →
    serHead v.now (v.chan ch.val).drv = x :: drv →
    (v.chan ch.val).expOut = srcNone →
    exec (.serialTransmitWord t ch) s = .next ((v.setChan ch.val { v.chan ch.val with drv := drv }).serSend ch.val x.word false)) ∧
  (∀ (s u : State) (t : Nat) (ch : Fin 144) (v : State) (x e : LaneWord) (drv exp : List LaneWord), u = s.tickTo t →
    v = u.switchOut ch.val →
    v.serDue ch.val = true →
    v.reg (O.SER_TX_SRC ch.val) = 1 →
    (v.chan ch.val).drvOut ≠ srcNone →
    serHead v.now (v.chan ch.val).drv = x :: drv →
    (v.chan ch.val).expOut ≠ srcNone →
    serHead v.now (v.chan ch.val).exp = e :: exp →
    exec (.serialTransmitWord t ch) s = .next ((v.setChan ch.val { v.chan ch.val with drv := drv, exp := exp }).serSend ch.val x.word (e.word.testBit 0))) ∧
  (∀ (s u : State) (t : Nat) (ch : Fin 144) (v : State), u = s.tickTo t →
    v = u.switchOut ch.val →
    v.serDue ch.val = true →
    2 ≤ v.reg (O.SER_TX_SRC ch.val) →
    exec (.serialTransmitWord t ch) s = .next (v.txPut ch.val (lsbBits 64 (v.reg (O.SER_PATTERN ch.val))) (v.reg (O.SER_PATTERN ch.val)))) ∧
  (∀ (s u : State) (t : Nat) (ch : Fin 144) (v : State) (x : Nat) (ctl : Bool), u = s.tickTo t →
    v = u.switchOut ch.val →
    v.serDue ch.val = true →
    v.reg (O.SER_TX_SRC ch.val) = 1 →
    (v.chan ch.val).drvOut = srcNone →
    fillWord (v.reg (O.SER_LINE_CODE ch.val)) (v.reg (O.SER_PATTERN ch.val)) = (x, ctl) →
    exec (.serialFill t ch) s = .next (v.serSend ch.val x ctl)) ∧
  (∀ (s u : State) (t : Nat) (ch : Fin 144) (v : State) (x : Nat) (ctl : Bool), u = s.tickTo t →
    v = u.switchOut ch.val →
    v.serDue ch.val = true →
    v.reg (O.SER_TX_SRC ch.val) = 1 →
    (v.chan ch.val).drvOut ≠ srcNone →
    ((serHead v.now (v.chan ch.val).drv).isEmpty || ((v.chan ch.val).expOut != srcNone && (serHead v.now (v.chan ch.val).exp).isEmpty)) = true →
    fillWord (v.reg (O.SER_LINE_CODE ch.val)) (v.reg (O.SER_PATTERN ch.val)) = (x, ctl) →
    exec (.serialFill t ch) s = .next ((((v.serSend ch.val x ctl).chanPulse ch.val 7).setFlag (O.CH_UNDERRUN ch.val) 0 (O.CH_UNDERRUN_COUNT ch.val) 1).invalidate ch.val)) ∧
  (∀ (s u : State) (t : Nat) (r : Requester) (ch : Fin 144), u = s.tickTo t →
    u.writable r (O.SER_BITSLIP ch.val) 1 = true →
    u.reg (O.SER_ALIGN ch.val) = 0 →
    exec (.bitslip t r ch true) s = .next ((u.slip ch.val).okays r (O.SER_BITSLIP ch.val))) ∧
  (∀ (s u : State) (t : Nat) (ch : Fin 144) (line : List Bool) (v w : State), u = s.tickTo t →
    u.serOn ch.val = true →
    u.reg (O.SER_LOOPBACK ch.val) = 0 →
    u.reg (O.SER_PRBS ch.val) % 8 = 0 →
    (u.ser ch.val).rxPend = [] →
    (u.ser ch.val).skip = 0 →
    v = u.setSer ch.val { u.ser ch.val with rxPend := line } →
    w = v.setSer ch.val { v.ser ch.val with rxPend := [] } →
    u.reg (O.SER_LINE_CODE ch.val) = 0 →
    u.reg (O.SER_ALIGN ch.val) = 1 →
    u.isSet (O.SER_ALIGNED ch.val) = false →
    line.length = 64 →
    lsbVal line % 2 ^ 32 = u.reg (O.SER_ALIGN_PATTERN ch.val) →
    exec (.alignment t ch line) s = .next ((w.rxDeliver ch.val (lsbVal line, 0)).setReg (O.SER_ALIGNED ch.val) 1)) ∧
  (∀ (s u : State) (t : Nat) (ch : Fin 144) (line : List Bool) (v w : State), u = s.tickTo t →
    u.serOn ch.val = true →
    u.reg (O.SER_LOOPBACK ch.val) = 0 →
    u.reg (O.SER_PRBS ch.val) % 8 = 0 →
    (u.ser ch.val).rxPend = [] →
    (u.ser ch.val).skip = 0 →
    v = u.setSer ch.val { u.ser ch.val with rxPend := line } →
    w = v.setSer ch.val { v.ser ch.val with rxPend := [] } →
    u.reg (O.SER_LINE_CODE ch.val) = 0 →
    u.reg (O.SER_ALIGN ch.val) = 1 →
    u.isSet (O.SER_ALIGNED ch.val) = false →
    line.length = 64 →
    lsbVal line % 2 ^ 32 ≠ u.reg (O.SER_ALIGN_PATTERN ch.val) →
    exec (.alignment t ch line) s = .next ((w.rxDeliver ch.val (lsbVal line, 0)).slip ch.val)) ∧
  (∀ (s u : State) (t : Nat) (ch : Fin 144) (line : List Bool) (v w : State) (y : State) (valid : Bool) (hdr : List Bool), u = s.tickTo t →
    u.serOn ch.val = true →
    u.reg (O.SER_LOOPBACK ch.val) = 0 →
    u.reg (O.SER_PRBS ch.val) % 8 = 0 →
    (u.ser ch.val).rxPend = [] →
    (u.ser ch.val).skip = 0 →
    v = u.setSer ch.val { u.ser ch.val with rxPend := line } →
    w = v.setSer ch.val { v.ser ch.val with rxPend := [] } →
    u.reg (O.SER_LINE_CODE ch.val) = 2 →
    u.reg (O.SER_ALIGN ch.val) = 2 →
    line.length = 66 →
    valid = (line.getD 0 false != line.getD 1 false) →
    y = (if valid then w.setSer ch.val { w.ser ch.val with dscr := (descramble64 (line.drop 2) (w.ser ch.val).dscr).2 } else (w.setSer ch.val { w.ser ch.val with dscr := (descramble64 (line.drop 2) (w.ser ch.val).dscr).2 }).bump (O.SER_CODE_ERRORS ch.val) 1) →
    hdr = (valid :: (y.ser ch.val).headers).take 64 →
    exec (.alignment t ch line) s = .next ((if u.isSet (O.SER_ALIGNED ch.val) then
        (if 16 ≤ hdr.countP (!·) then (y.setSer ch.val { y.ser ch.val with headers := [] }).setReg (O.SER_ALIGNED ch.val) 0
         else y.setSer ch.val { y.ser ch.val with headers := hdr })
      else if valid = false then (y.setSer ch.val { y.ser ch.val with headers := [] }).slip ch.val
      else if hdr.length = 64 then (y.setSer ch.val { y.ser ch.val with headers := hdr }).setReg (O.SER_ALIGNED ch.val) 1
      else y.setSer ch.val { y.ser ch.val with headers := hdr }).rxDeliver ch.val (lsbVal (descramble64 (line.drop 2) (w.ser ch.val).dscr).1, b2n (valid && line.getD 0 false) + 2 * b2n (!valid)))) ∧
  (∀ (s u : State) (t : Nat) (ch : Fin 144), u = s.tickTo t →
    u.serOn ch.val = true →
    u.isSet (O.SER_CDR_LOCK ch.val) = false →
    exec (.cdrLock t ch) s = .next ((u.setSer ch.val { u.ser ch.val with adapted := false }).setReg (O.SER_CDR_LOCK ch.val) 1)) ∧
  (∀ (s u : State) (t : Nat) (ch : Fin 144) (v : State), u = s.tickTo t →
    u.isSet (O.SER_CDR_LOCK ch.val) = true →
    v = ((u.setReg (O.SER_CDR_LOCK ch.val) 0).setFlag (O.SER_LOCK_LOSS ch.val) 0 (O.SER_LOCK_LOSS_COUNT ch.val) 1).setReg (O.SER_ALIGNED ch.val) 0 →
    exec (.lockLoss t ch) s = .next (v.setSer ch.val { v.ser ch.val with headers := [], eye := (v.ser ch.val).eye.map fun y => { y with lock := false } })) ∧
  (∀ (s u : State) (t : Nat) (ch : Fin 144) (v : Nat), u = s.tickTo t →
    u.serOn ch.val = true →
    u.isSet (O.SER_CDR_LOCK ch.val) = true →
    u.reg (O.SER_RX_ADAPT ch.val) ≠ 0 →
    u.reg (O.SER_RX_ADAPT ch.val) ≠ 1 ∨ (u.ser ch.val).adapted = false →
    exec (.rxAdaptDone t ch v) s = .next ((u.setSer ch.val { u.ser ch.val with adapted := true }).setReg (O.SER_ADAPTED ch.val) (adaptedWord v))) ∧
  (∀ (s u : State) (t : Nat) (r : Requester) (ch : Fin 144) (v : State), u = s.tickTo t →
    u.writable r (O.SER_EYE_START ch.val) 1 = true →
    u.reg (O.SER_EYE_STATE ch.val) = 0 →
    u.serOn ch.val = true →
    u.isSet (O.SER_CDR_LOCK ch.val) = true →
    v = u.setImage (O.SER_EYE_RESULTS ch.val) [] →
    exec (.eyeStart t r ch true) s = .next ((if v.image (O.SER_EYE_TABLE ch.val) = [] then v else (v.setSer ch.val { v.ser ch.val with eye := some ⟨0, v.now, true, false⟩ }).setReg (O.SER_EYE_STATE ch.val) 1).okays r (O.SER_EYE_START ch.val))) ∧
  (∀ (s u : State) (t : Nat) (ch : Fin 144) (errors n dwell : Nat) (y : EyeRun) (v : State), u = s.tickTo t →
    (u.ser ch.val).eye = some y →
    dwell = u.reg (O.SER_EYE_DWELL ch.val) →
    y.start + uiUnits (u.reg (O.SER_RATE ch.val)) (dwell + 64) ≤ u.now →
    n = min errors dwell →
    v = (u.setImage (O.SER_EYE_RESULTS ch.val) (u.image (O.SER_EYE_RESULTS ch.val) ++ leBytes 4 n ++ leBytes 4 (b2n y.lock))).deliverResult ch.val ⟨min n 131071, min (dwell - n) 131071, y.lock⟩ →
    exec (.eyePointEnd t ch errors) s = .next (if y.ending ∨ (v.image (O.SER_EYE_TABLE ch.val)).length ≤ 4 * (y.point + 1) then (v.setSer ch.val { v.ser ch.val with eye := none }).setReg (O.SER_EYE_STATE ch.val) 0 else v.setSer ch.val { v.ser ch.val with eye := some ⟨y.point + 1, v.now, v.isSet (O.SER_CDR_LOCK ch.val), false⟩ }))

/-- The management ports complete: MANAGEMENT_FRAME, MANAGEMENT_WAKE, MGT_LINK_CHANGE and PHY_MODE. Each clause names a command and
conditions on the operands and on u alone, u being the state with its clock at the command's instant t. For every state and all
operands that meet them, exec of the command answers a next state, and it is the one written out from u: what it does not name
stays as it was in u. A good frame is answered, handed to PTP or to Kisko, or counted as dropped. IP, ARP, ICMP, neighbour
solicitation, UDP and Ethernet follow their standards (log entry 99). Rests on R279, R280, R281. -/
def Obligations.ManagementPortCommandsComplete : Prop :=
  (∀ (s u : State) (t : Nat) (c : Ctl) (frame : List Byte), u = s.tickTo t →
    u.mgtLive c.num = false →
    exec (.managementFrame t c frame) s = .next (u)) ∧
  (∀ (s u : State) (t : Nat) (c : Ctl) (frame : List Byte), u = s.tickTo t →
    u.mgtLive c.num = true →
    u.ethParse c.num frame = none →
    exec (.managementFrame t c frame) s = .next ((u.bump (O.MGT_RX_DROPPED c.num) 1).bump (O.MGT_RX_FRAMES c.num) 1)) ∧
  (∀ (s u : State) (t : Nat) (c : Ctl) (frame : List Byte) (f : EthFrame), u = s.tickTo t →
    u.mgtLive c.num = true →
    u.ethParse c.num frame = some f →
    f.dst ≠ u.mgtMac c.num →
    (byteAt f.dst 0).testBit 0 = false →
    exec (.managementFrame t c frame) s = .next ((u.bump (O.MGT_RX_DROPPED c.num) 1).bump (O.MGT_RX_FRAMES c.num) 1)) ∧
  (∀ (s u : State) (t : Nat) (c : Ctl) (frame : List Byte) (f : EthFrame) (body : List Byte), u = s.tickTo t →
    u.mgtLive c.num = true →
    u.ethParse c.num frame = some f →
    f.dst = u.mgtMac c.num ∨ (byteAt f.dst 0).testBit 0 = true →
    f.kind = 0x0806 →
    u.arpReply c.num f = some body →
    exec (.managementFrame t c frame) s = .next ((u.ethSend c.num f.src 0x0806 body).bump (O.MGT_RX_FRAMES c.num) 1)) ∧
  (∀ (s u : State) (t : Nat) (c : Ctl) (frame : List Byte) (f : EthFrame), u = s.tickTo t →
    u.mgtLive c.num = true →
    u.ethParse c.num frame = some f →
    f.dst = u.mgtMac c.num ∨ (byteAt f.dst 0).testBit 0 = true →
    f.kind = 0x0806 →
    u.arpReply c.num f = none →
    exec (.managementFrame t c frame) s = .next ((u.bump (O.MGT_RX_DROPPED c.num) 1).bump (O.MGT_RX_FRAMES c.num) 1)) ∧
  (∀ (s u : State) (t : Nat) (c : Ctl) (frame : List Byte) (f : EthFrame) (body : List Byte), u = s.tickTo t →
    u.mgtLive c.num = true →
    u.ethParse c.num frame = some f →
    f.dst = u.mgtMac c.num ∨ (byteAt f.dst 0).testBit 0 = true →
    f.kind = 0x0800 →
    u.ip4 c.num f = some (.inl body) →
    exec (.managementFrame t c frame) s = .next ((u.ethSend c.num f.src 0x0800 body).bump (O.MGT_RX_FRAMES c.num) 1)) ∧
  (∀ (s u : State) (t : Nat) (c : Ctl) (frame : List Byte) (f : EthFrame) (p : Peer) (d : List Byte), u = s.tickTo t →
    u.mgtLive c.num = true →
    u.ethParse c.num frame = some f →
    f.dst = u.mgtMac c.num ∨ (byteAt f.dst 0).testBit 0 = true →
    f.kind = 0x0800 →
    u.ip4 c.num f = some (.inr (p, d)) →
    isPtpPort p.dport = true →
    exec (.managementFrame t c frame) s = .next ((u.ptpMessage c.num p d).bump (O.MGT_RX_FRAMES c.num) 1)) ∧
  (∀ (s u : State) (t : Nat) (c : Ctl) (frame : List Byte) (f : EthFrame) (p : Peer) (d : List Byte), u = s.tickTo t →
    u.mgtLive c.num = true →
    u.ethParse c.num frame = some f →
    f.dst = u.mgtMac c.num ∨ (byteAt f.dst 0).testBit 0 = true →
    f.kind = 0x0800 →
    u.ip4 c.num f = some (.inr (p, d)) →
    isPtpPort p.dport = false →
    u.kiskoUp c p = true →
    exec (.managementFrame t c frame) s = .next ((u.takeKisko c p d).bump (O.MGT_RX_FRAMES c.num) 1)) ∧
  (∀ (s u : State) (t : Nat) (c : Ctl) (frame : List Byte) (f : EthFrame) (p : Peer) (d : List Byte), u = s.tickTo t →
    u.mgtLive c.num = true →
    u.ethParse c.num frame = some f →
    f.dst = u.mgtMac c.num ∨ (byteAt f.dst 0).testBit 0 = true →
    f.kind = 0x0800 →
    u.ip4 c.num f = some (.inr (p, d)) →
    isPtpPort p.dport = false →
    u.kiskoUp c p = false →
    exec (.managementFrame t c frame) s = .next ((u.bump (O.MGT_RX_DROPPED c.num) 1).bump (O.MGT_RX_FRAMES c.num) 1)) ∧
  (∀ (s u : State) (t : Nat) (c : Ctl) (frame : List Byte) (f : EthFrame), u = s.tickTo t →
    u.mgtLive c.num = true →
    u.ethParse c.num frame = some f →
    f.dst = u.mgtMac c.num ∨ (byteAt f.dst 0).testBit 0 = true →
    f.kind = 0x0800 →
    u.ip4 c.num f = none →
    exec (.managementFrame t c frame) s = .next ((u.bump (O.MGT_RX_DROPPED c.num) 1).bump (O.MGT_RX_FRAMES c.num) 1)) ∧
  (∀ (s u : State) (t : Nat) (c : Ctl) (frame : List Byte) (f : EthFrame) (body : List Byte), u = s.tickTo t →
    u.mgtLive c.num = true →
    u.ethParse c.num frame = some f →
    f.dst = u.mgtMac c.num ∨ (byteAt f.dst 0).testBit 0 = true →
    f.kind = 0x86DD →
    u.ip6 c.num f = some (.inl body) →
    exec (.managementFrame t c frame) s = .next ((u.ethSend c.num f.src 0x86DD body).bump (O.MGT_RX_FRAMES c.num) 1)) ∧
  (∀ (s u : State) (t : Nat) (c : Ctl) (frame : List Byte) (f : EthFrame) (p : Peer) (d : List Byte), u = s.tickTo t →
    u.mgtLive c.num = true →
    u.ethParse c.num frame = some f →
    f.dst = u.mgtMac c.num ∨ (byteAt f.dst 0).testBit 0 = true →
    f.kind = 0x86DD →
    u.ip6 c.num f = some (.inr (p, d)) →
    isPtpPort p.dport = true →
    exec (.managementFrame t c frame) s = .next ((u.ptpMessage c.num p d).bump (O.MGT_RX_FRAMES c.num) 1)) ∧
  (∀ (s u : State) (t : Nat) (c : Ctl) (frame : List Byte) (f : EthFrame) (p : Peer) (d : List Byte), u = s.tickTo t →
    u.mgtLive c.num = true →
    u.ethParse c.num frame = some f →
    f.dst = u.mgtMac c.num ∨ (byteAt f.dst 0).testBit 0 = true →
    f.kind = 0x86DD →
    u.ip6 c.num f = some (.inr (p, d)) →
    isPtpPort p.dport = false →
    u.kiskoUp c p = true →
    exec (.managementFrame t c frame) s = .next ((u.takeKisko c p d).bump (O.MGT_RX_FRAMES c.num) 1)) ∧
  (∀ (s u : State) (t : Nat) (c : Ctl) (frame : List Byte) (f : EthFrame) (p : Peer) (d : List Byte), u = s.tickTo t →
    u.mgtLive c.num = true →
    u.ethParse c.num frame = some f →
    f.dst = u.mgtMac c.num ∨ (byteAt f.dst 0).testBit 0 = true →
    f.kind = 0x86DD →
    u.ip6 c.num f = some (.inr (p, d)) →
    isPtpPort p.dport = false →
    u.kiskoUp c p = false →
    exec (.managementFrame t c frame) s = .next ((u.bump (O.MGT_RX_DROPPED c.num) 1).bump (O.MGT_RX_FRAMES c.num) 1)) ∧
  (∀ (s u : State) (t : Nat) (c : Ctl) (frame : List Byte) (f : EthFrame), u = s.tickTo t →
    u.mgtLive c.num = true →
    u.ethParse c.num frame = some f →
    f.dst = u.mgtMac c.num ∨ (byteAt f.dst 0).testBit 0 = true →
    f.kind = 0x86DD →
    u.ip6 c.num f = none →
    exec (.managementFrame t c frame) s = .next ((u.bump (O.MGT_RX_DROPPED c.num) 1).bump (O.MGT_RX_FRAMES c.num) 1)) ∧
  (∀ (s u : State) (t : Nat) (c : Ctl) (frame : List Byte) (f : EthFrame), u = s.tickTo t →
    u.mgtLive c.num = true →
    u.ethParse c.num frame = some f →
    f.dst = u.mgtMac c.num ∨ (byteAt f.dst 0).testBit 0 = true →
    f.kind ≠ 0x0806 →
    f.kind ≠ 0x0800 →
    f.kind ≠ 0x86DD →
    exec (.managementFrame t c frame) s = .next ((u.bump (O.MGT_RX_DROPPED c.num) 1).bump (O.MGT_RX_FRAMES c.num) 1)) ∧
  (∀ (s u : State) (t : Nat) (c : Ctl) (frame : List Byte) (f : EthFrame), u = s.tickTo t →
    u.ethParse c.num frame = some f →
    u.isSet (O.MGT_WAKE_EN c.num) = true →
    u.reg (O.SHED_STATE (93 + c.num)) ≠ 3 →
    f.dst = u.mgtMac c.num ∨ f.dst = fill 6 0xFF →
    hasBytes ([0x45#8, 0x56#8, 0x53#8, 0x57#8] ++ leBytes 8 (u.reg O.ID_SERIAL)) (f.body.take 256) = true →
    exec (.managementWake t c frame) s = .next ((u.setFlag (O.MGT_WAKE_SEEN c.num) 0 (O.MGT_WAKE_COUNT c.num) 1).wakeAt (1 + c.num))) ∧
  (∀ (s u : State) (t : Nat) (c : Ctl) (up : Bool) (speed : Fin 3), u = s.tickTo t →
    exec (.mgtLinkChange t c up speed) s = .next (u.mgtLink c.num up (if u.reg (O.MGT_PHY_MODE c.num) = 1 then speed.val + 1 else 3))) ∧
  (∀ (s u : State) (t : Nat) (r : Requester) (c : Ctl) (v : Nat), u = s.tickTo t →
    u.writable r (O.MGT_PHY_MODE c.num) v = true →
    exec (.phyMode t r c v) s = .next (((u.setReg (O.MGT_PHY_MODE c.num) v).mgtLink c.num false 0).okays r (O.MGT_PHY_MODE c.num)))

/-- The yard links complete: enabling, training, LINK_UP, NAK, replays and LINK_DOWN. Each clause names a command and conditions on
the operands and on u alone, u being the state with its clock at the command's instant t. For every state and all operands that
meet them, exec of the command answers a next state, and it is the one written out from u: what it does not name stays as it was
in u. They cover YARD_ENABLE, TRAIN, TRAINING_LIMIT, LINK_UP, NAK, REPLAY_TIMEOUT, LINK_DOWN and AUTO_RETRAIN. Training counts
rest on log entry 93, ENABLE and the causes of DOWN on 94. Rests on R265, R266, R270, R274. -/
def Obligations.YardLinkCommandsComplete : Prop :=
  (∀ (s u : State) (t : Nat) (r : Requester) (p : Fin 4), u = s.tickTo t →
    u.writable r (O.YARD_ENABLE p.val) 1 = true →
    u.yardSafe p.val = true →
    exec (.yardEnable t r p true) s = .next (((u.setReg (O.YARD_ENABLE p.val) 1).startTraining p.val).okays r (O.YARD_ENABLE p.val))) ∧
  (∀ (s u : State) (t : Nat) (r : Requester) (p : Fin 4), u = s.tickTo t →
    u.writable r (O.YARD_ENABLE p.val) 1 = true →
    u.yardSafe p.val = false →
    exec (.yardEnable t r p true) s = .next ((u.setReg (O.YARD_ENABLE p.val) 1).okays r (O.YARD_ENABLE p.val))) ∧
  (∀ (s u : State) (t : Nat) (r : Requester) (p : Fin 4), u = s.tickTo t →
    u.writable r (O.YARD_ENABLE p.val) 0 = true →
    u.reg (O.YARD_STATE p.val) = 8 →
    exec (.yardEnable t r p false) s = .next (((u.setReg (O.YARD_ENABLE p.val) 0).setReg (O.YARD_STATE p.val) 0).okays r (O.YARD_ENABLE p.val))) ∧
  (∀ (s u : State) (t : Nat) (r : Requester) (p : Fin 4), u = s.tickTo t →
    u.writable r (O.YARD_ENABLE p.val) 0 = true →
    u.reg (O.YARD_STATE p.val) ≠ 8 →
    exec (.yardEnable t r p false) s = .next (((u.setReg (O.YARD_ENABLE p.val) 0).yardDown p.val 1).okays r (O.YARD_ENABLE p.val))) ∧
  (∀ (s u : State) (t : Nat) (p : Fin 4) (lane : Bool) (frame : List Byte) (adapted : Bool) (w : State), u = s.tickTo t →
    1 ≤ u.reg (O.YARD_STATE p.val) →
    u.reg (O.YARD_STATE p.val) ≤ 6 →
    frame.length = 42 →
    w = u.trainFrame p.val lane (scrambleTrain (bytesBits frame)) →
    exec (.train t p lane frame adapted) s = .next ((w.setTrain p.val { (w.yard p.val).train with adapted := (w.yard p.val).train.adapted || (adapted && u.reg (O.YARD_STATE p.val) == 3) }).trainAdvance p.val)) ∧
  (∀ (s u : State) (t : Nat) (p : Fin 4), u = s.tickTo t →
    u.reg (O.YARD_STATE p.val) = 1 →
    (u.yard p.val).train.stepped = true →
    (u.yard p.val).train.stepAt + 5 * Config.msUnits ≤ u.now →
    exec (.trainingLimit t p) s = .next (u.rateBack p.val)) ∧
  (∀ (s u : State) (t : Nat) (p : Fin 4), u = s.tickTo t →
    1 ≤ u.reg (O.YARD_STATE p.val) →
    u.reg (O.YARD_STATE p.val) ≤ 6 →
    ¬ (u.reg (O.YARD_STATE p.val) = 1 ∧ (u.yard p.val).train.stepped = true) →
    (u.yard p.val).train.stepAt + trainLimit (u.reg (O.YARD_STATE p.val)) (u.yard p.val).train.stepped ≤ u.now →
    exec (.trainingLimit t p) s = .next (u.yardDown p.val 6)) ∧
  (∀ (s u : State) (t : Nat) (p : Fin 4) (v w : State), u = s.tickTo t →
    u.reg (O.YARD_STATE p.val) = 6 →
    16 ≤ (u.yard p.val).train.sent →
    16 ≤ (u.yard p.val).train.heard0 →
    16 ≤ (u.yard p.val).train.heard1 →
    v = u.setYard p.val { train := (u.yard p.val).train, ackAt := u.now, txSlot := u.reg (O.YARD_KEY_ACTIVE p.val), vcs := (u.yard p.val).vcs, codeErrors := (u.yard p.val).codeErrors, haltSent := u.wc + yardDelay } →
    w = (v.forgetCauses.setReg (O.YARD_STATE p.val) 7).setReg (O.YARD_TRAIN_TIME p.val) ((u.now - (u.yard p.val).train.trainAt) / Config.usUnits) →
    exec (.linkUp t p) s = .next ((List.range 8).foldl (fun (s : State) k =>
        if s.vcOn p.val k then
          (s.setVc p.val k { (s.yard p.val).vc k with known := false, first := none, told := none, lost := false, txNext := ((s.yard p.val).vc k).txEnq }).topUp p.val k
        else s) w)) ∧
  (∀ (s u : State) (t : Nat) (p : Fin 4) (ack : Nat), u = s.tickTo t →
    (u.yard p.val).nakGot = some ack →
    exec (.nak t p) s = .next (((u.setYard p.val { u.yard p.val with nakGot := none }).takeAck p.val ack).beginReplay p.val)) ∧
  (∀ (s u : State) (t : Nat) (p : Fin 4), u = s.tickTo t →
    u.yardUp p.val = true →
    (u.yard p.val).replay ≠ [] →
    (u.yard p.val).ackAt + Config.usUnits ≤ u.now →
    7 ≤ (u.yard p.val).replayRuns →
    exec (.replayTimeout t p) s = .next (u.yardDown p.val 4)) ∧
  (∀ (s u : State) (t : Nat) (p : Fin 4), u = s.tickTo t →
    u.yardUp p.val = true →
    (u.yard p.val).replay ≠ [] →
    (u.yard p.val).ackAt + Config.usUnits ≤ u.now →
    (u.yard p.val).replayRuns < 7 →
    exec (.replayTimeout t p) s = .next (u.setYard p.val { u.yard p.val with replayAt := some 0, replayRuns := (u.yard p.val).replayRuns + 1, ackAt := u.now })) ∧
  (∀ (s u : State) (t : Nat) (p : Fin 4) (cause : Fin 10), u = s.tickTo t →
    cause.val ≠ 0 →
    (cause.val = 2 → u.reg (O.YARD_STATE p.val) ≠ 1) →
    (cause.val = 3 → u.reg (O.YARD_STATE p.val) = 7) →
    exec (.linkDown t p cause) s = .next (u.yardDown p.val cause.val)) ∧
  (∀ (s u : State) (t : Nat) (p : Fin 4), u = s.tickTo t →
    u.reg (O.YARD_STATE p.val) = 8 →
    u.isSet (O.YARD_AUTO_RETRAIN p.val) = true →
    u.isSet (O.YARD_ENABLE p.val) = true →
    (u.yard p.val).downAt + 10 * Config.usUnits ≤ u.now →
    u.shedOn (quadStop p.val 22) = true →
    exec (.autoRetrain t p) s = .next (u.startTraining p.val))

/-- YARD_FRAME_SLOT and YARD_FRAME complete. Each clause names a command and conditions on the operands and on u alone, u being the
state with its clock at the command's instant t. For every state and all operands that meet them, exec of the command answers a
next state, and it is the one written out from u: what it does not name stays as it was in u. What a slot sends, and what a frame
with a good, a corrected and an uncorrectable header check does. The rows that act on a received frame rest on log entry 89. Rests
on R260, R263, R269. -/
def Obligations.YardFrameCommandsComplete : Prop :=
  (∀ (s u : State) (t : Nat) (p : Fin 4) (w : State), u = s.tickTo t →
    w = u.haltPump →
    w.domainRunning (388 + 2 * p.val) = true →
    w.reg (O.YARD_STATE p.val) = 7 →
    exec (.yardFrameSlot t p) s = .next (w.sendFrame p.val)) ∧
  (∀ (s u : State) (t : Nat) (p : Fin 4) (w : State), u = s.tickTo t →
    w = u.haltPump →
    w.domainRunning (388 + 2 * p.val) = true →
    1 ≤ w.reg (O.YARD_STATE p.val) →
    w.reg (O.YARD_STATE p.val) ≤ 6 →
    exec (.yardFrameSlot t p) s = .next ((w.sendTrain p.val (w.reg (O.YARD_STATE p.val))).trainAdvance p.val)) ∧
  (∀ (s u : State) (t : Nat) (p : Fin 4) (w : State), u = s.tickTo t →
    w = u.haltPump →
    w.domainRunning (388 + 2 * p.val) = true →
    w.reg (O.YARD_STATE p.val) = 0 →
    w.isSet (O.YARD_WAKE_SEND p.val) = true →
    exec (.yardFrameSlot t p) s = .next (w.sendTrain p.val 7)) ∧
  (∀ (s u : State) (t : Nat) (p : Fin 4) (frame : List Byte) (w v : State) (raw : List Bool) (g : Nat), u = s.tickTo t →
    w = u.haltPump →
    w.yardUp p.val = true →
    frame.length = 42 →
    scrambleUp (bytesBits frame) (w.yard p.val).rxScr = (raw, g) →
    hcrcOk raw = false →
    hcrcCorrect raw = none →
    w.encrypts p.val = false →
    v = ((w.setYard p.val { (w.yard p.val) with rxF := (w.yard p.val).rxF + 1, rxScr := g, rxBlocks := (w.yard p.val).rxBlocks, badRun := (w.yard p.val).badRun + 1, rxBad := true }).bump (O.YARD_HCRC_BAD p.val) 1).halterIn p.val none →
    exec (.yardFrame t p frame) s = .next (if 4 ≤ (w.yard p.val).badRun + 1 then (v).yardDown p.val 3 else v)) ∧
  (∀ (s u : State) (t : Nat) (p : Fin 4) (frame : List Byte) (w v : State) (raw : List Bool) (g : Nat), u = s.tickTo t →
    w = u.haltPump →
    w.yardUp p.val = true →
    frame.length = 42 →
    scrambleUp (bytesBits frame) (w.yard p.val).rxScr = (raw, g) →
    hcrcOk raw = false →
    hcrcCorrect raw = none →
    w.encrypts p.val = true →
    (w.yard p.val).rxF % 32 ≠ 31 →
    v = ((w.setYard p.val { (w.yard p.val) with rxF := (w.yard p.val).rxF + 1, rxScr := g, rxBlocks := (w.yard p.val).rxBlocks ++ [frameField raw 32 128, frameField raw 176 128], badRun := (w.yard p.val).badRun + 1, rxBad := true }).bump (O.YARD_HCRC_BAD p.val) 1).halterIn p.val none →
    exec (.yardFrame t p frame) s = .next (if 4 ≤ (w.yard p.val).badRun + 1 then (v).yardDown p.val 3 else v)) ∧
  (∀ (s u : State) (t : Nat) (p : Fin 4) (frame : List Byte) (w v : State) (raw : List Bool) (g : Nat), u = s.tickTo t →
    w = u.haltPump →
    w.yardUp p.val = true →
    frame.length = 42 →
    scrambleUp (bytesBits frame) (w.yard p.val).rxScr = (raw, g) →
    hcrcOk raw = false →
    hcrcCorrect raw = none →
    w.encrypts p.val = true →
    (w.yard p.val).rxF % 32 = 31 →
    v = ((w.setYard p.val { (w.yard p.val) with rxF := (w.yard p.val).rxF + 1, rxScr := g, rxBlocks := (w.yard p.val).rxBlocks, badRun := (w.yard p.val).badRun + 1, rxBad := true }).bump (O.YARD_HCRC_BAD p.val) 1).halterIn p.val none →
    exec (.yardFrame t p frame) s = .next (if 4 ≤ (w.yard p.val).badRun + 1 then ((v.setYard p.val { v.yard p.val with rxBlocks := [], rxBad := false, rxTags := (w.yard p.val).rxTags + 1, tagFrom := (w.yard p.val).rxF + 1 }).dropHeld p.val).yardDown p.val 3 else (v.setYard p.val { v.yard p.val with rxBlocks := [], rxBad := false, rxTags := (w.yard p.val).rxTags + 1, tagFrom := (w.yard p.val).rxF + 1 }).dropHeld p.val)) ∧
  (∀ (s u : State) (t : Nat) (p : Fin 4) (frame : List Byte) (w v : State) (raw : List Bool) (g hdr : Nat) (ok : Bool) (f : RxFrame) (y : YPort), u = s.tickTo t →
    w = u.haltPump →
    w.yardUp p.val = true →
    frame.length = 42 →
    scrambleUp (bytesBits frame) (w.yard p.val).rxScr = (raw, g) →
    hcrcOk raw = true →
    w.encrypts p.val = false →
    hdr = frameField raw 0 32 →
    ok = pcrcOk raw →
    f = ⟨bits hdr 31 30, bits hdr 29 23, bits hdr 14 12, hdr.testBit 11, ok, frameField raw 176 128, hdr.testBit 10, (w.yard p.val).rxF, bits hdr 31 30 == 3 && w.tagOf p.val (b2n (hdr.testBit 10)) (w.yard p.val).train.pNonce (w.yard p.val).rxTags (w.yard p.val).rxBlocks == (frameField raw 176 128) % 2 ^ 64, (w.yard p.val).rxBad⟩ →
    y = { (w.yard p.val) with rxF := (w.yard p.val).rxF + 1, rxScr := g, rxBlocks := (w.yard p.val).rxBlocks, badRun := 0, rxBad := (w.yard p.val).rxBad || !ok, nakGot := if hdr.testBit 15 then some (bits hdr 22 16) else (w.yard p.val).nakGot, inbox := if f.ftype = 0 then (w.yard p.val).inbox else (w.yard p.val).inbox ++ [f], rot := (w.yard p.val).rot } →
    v = ((((if ok then w else w.bump (O.YARD_PCRC_BAD p.val) 1).setYard p.val y).takeAck p.val (bits hdr 22 16)).halterIn p.val (some (frameField raw 32 128))) →
    exec (.yardFrame t p frame) s = .next ((if f.ftype = 3 then v.setYard p.val { v.yard p.val with rxBlocks := [], rxBad := false, rxTags := (w.yard p.val).rxTags + 1 } else v).rotDone p.val)) ∧
  (∀ (s u : State) (t : Nat) (p : Fin 4) (frame : List Byte) (w v : State) (raw l : List Bool) (g hdr : Nat) (ok : Bool) (f : RxFrame) (y : YPort), u = s.tickTo t →
    w = u.haltPump →
    w.yardUp p.val = true →
    frame.length = 42 →
    scrambleUp (bytesBits frame) (w.yard p.val).rxScr = (raw, g) →
    hcrcOk raw = false →
    hcrcCorrect raw = some l →
    w.encrypts p.val = false →
    hdr = frameField l 0 32 →
    ok = pcrcOk l →
    f = ⟨bits hdr 31 30, bits hdr 29 23, bits hdr 14 12, hdr.testBit 11, ok, frameField l 176 128, hdr.testBit 10, (w.yard p.val).rxF, bits hdr 31 30 == 3 && w.tagOf p.val (b2n (hdr.testBit 10)) (w.yard p.val).train.pNonce (w.yard p.val).rxTags (w.yard p.val).rxBlocks == (frameField l 176 128) % 2 ^ 64, (w.yard p.val).rxBad⟩ →
    y = { (w.yard p.val) with rxF := (w.yard p.val).rxF + 1, rxScr := g, rxBlocks := (w.yard p.val).rxBlocks, badRun := 0, rxBad := (w.yard p.val).rxBad || !ok, nakGot := if hdr.testBit 15 then some (bits hdr 22 16) else (w.yard p.val).nakGot, inbox := if f.ftype = 0 then (w.yard p.val).inbox else (w.yard p.val).inbox ++ [f], rot := (w.yard p.val).rot } →
    v = ((((if ok then w.bump (O.YARD_HCRC_CORRECTED p.val) 1 else (w.bump (O.YARD_HCRC_CORRECTED p.val) 1).bump (O.YARD_PCRC_BAD p.val) 1).setYard p.val y).takeAck p.val (bits hdr 22 16)).halterIn p.val (some (frameField l 32 128))) →
    exec (.yardFrame t p frame) s = .next ((if f.ftype = 3 then v.setYard p.val { v.yard p.val with rxBlocks := [], rxBad := false, rxTags := (w.yard p.val).rxTags + 1 } else v).rotDone p.val)) ∧
  (∀ (s u : State) (t : Nat) (p : Fin 4) (frame : List Byte) (w v : State) (raw : List Bool) (g hdr : Nat) (ok : Bool) (kh kp : Nat) (f : RxFrame) (y : YPort), u = s.tickTo t →
    w = u.haltPump →
    w.yardUp p.val = true →
    frame.length = 42 →
    scrambleUp (bytesBits frame) (w.yard p.val).rxScr = (raw, g) →
    hcrcOk raw = true →
    w.encrypts p.val = true →
    (w.yard p.val).rxF % 32 ≠ 31 →
    hdr = frameField raw 0 32 →
    ok = pcrcOk raw →
    w.keystream p.val (b2n (hdr.testBit 10)) (w.yard p.val).train.pNonce (w.yard p.val).rxF = (kh, kp) →
    f = ⟨bits hdr 31 30, bits hdr 29 23, bits hdr 14 12, hdr.testBit 11, ok, frameField raw 176 128 ^^^ kp, hdr.testBit 10, (w.yard p.val).rxF, bits hdr 31 30 == 3 && w.tagOf p.val (b2n (hdr.testBit 10)) (w.yard p.val).train.pNonce (w.yard p.val).rxTags (w.yard p.val).rxBlocks == (frameField raw 176 128 ^^^ kp) % 2 ^ 64, (w.yard p.val).rxBad⟩ →
    y = { (w.yard p.val) with rxF := (w.yard p.val).rxF + 1, rxScr := g, rxBlocks := (w.yard p.val).rxBlocks ++ [frameField raw 32 128, frameField raw 176 128], badRun := 0, rxBad := (w.yard p.val).rxBad || !ok, nakGot := if hdr.testBit 15 then some (bits hdr 22 16) else (w.yard p.val).nakGot, inbox := if f.ftype = 0 then (w.yard p.val).inbox else (w.yard p.val).inbox ++ [f], rot := (w.yard p.val).rot.map fun r => { r with got := r.got || r.slot == b2n (hdr.testBit 10) } } →
    v = ((((if ok then w else w.bump (O.YARD_PCRC_BAD p.val) 1).setYard p.val y).takeAck p.val (bits hdr 22 16)).halterIn p.val (some (frameField raw 32 128 ^^^ kh))) →
    exec (.yardFrame t p frame) s = .next ((if f.ftype = 3 then v.setYard p.val { v.yard p.val with rxBlocks := [], rxBad := false, rxTags := (w.yard p.val).rxTags + 1 } else v).rotDone p.val)) ∧
  (∀ (s u : State) (t : Nat) (p : Fin 4) (frame : List Byte) (w v : State) (raw : List Bool) (g hdr : Nat) (ok : Bool) (kh kp : Nat) (f : RxFrame) (y : YPort), u = s.tickTo t →
    w = u.haltPump →
    w.yardUp p.val = true →
    frame.length = 42 →
    scrambleUp (bytesBits frame) (w.yard p.val).rxScr = (raw, g) →
    hcrcOk raw = true →
    w.encrypts p.val = true →
    (w.yard p.val).rxF % 32 = 31 →
    hdr = frameField raw 0 32 →
    ok = pcrcOk raw →
    w.keystream p.val (b2n (hdr.testBit 10)) (w.yard p.val).train.pNonce (w.yard p.val).rxF = (kh, kp) →
    bits hdr 31 30 = 3 →
    f = ⟨bits hdr 31 30, bits hdr 29 23, bits hdr 14 12, hdr.testBit 11, ok, frameField raw 176 128 ^^^ kp, hdr.testBit 10, (w.yard p.val).rxF, bits hdr 31 30 == 3 && w.tagOf p.val (b2n (hdr.testBit 10)) (w.yard p.val).train.pNonce (w.yard p.val).rxTags (w.yard p.val).rxBlocks == (frameField raw 176 128 ^^^ kp) % 2 ^ 64, (w.yard p.val).rxBad⟩ →
    y = { (w.yard p.val) with rxF := (w.yard p.val).rxF + 1, rxScr := g, rxBlocks := (w.yard p.val).rxBlocks, badRun := 0, rxBad := (w.yard p.val).rxBad || !ok, nakGot := if hdr.testBit 15 then some (bits hdr 22 16) else (w.yard p.val).nakGot, inbox := if f.ftype = 0 then (w.yard p.val).inbox else (w.yard p.val).inbox ++ [f], rot := (w.yard p.val).rot.map fun r => { r with got := r.got || r.slot == b2n (hdr.testBit 10) } } →
    v = ((((if ok then w else w.bump (O.YARD_PCRC_BAD p.val) 1).setYard p.val y).takeAck p.val (bits hdr 22 16)).halterIn p.val (some (frameField raw 32 128 ^^^ kh))) →
    exec (.yardFrame t p frame) s = .next ((v.setYard p.val { v.yard p.val with rxBlocks := [], rxBad := false, rxTags := (w.yard p.val).rxTags + 1 }).rotDone p.val))

/-- The messages of a yard link complete: DATA, CREDIT, REKEY, REKEY_ACK, TAG, KEY_ROTATE, keys, channels and wakes. Each clause names
a command and conditions on the operands and on u alone, u being the state with its clock at the command's instant t. For every
state and all operands that meet them, exec of the command answers a next state, and it is the one written out from u: what it
does not name stays as it was in u. They cover DATA, CREDIT, REKEY, REKEY_ACK, TAG, KEY_ROTATE, LINK_KEY_COMMIT, VC_CFG_COMMIT and
YARD_WAKE. Acknowledgement on encrypted links rests on log entry 91, credit on 97. Rests on R267, R268, R270, R272, R273, R277. -/
def Obligations.YardMessageCommandsComplete : Prop :=
  (∀ (s u : State) (t : Nat) (p : Fin 4) (f : RxFrame) (rest : List RxFrame) (w : State), u = s.tickTo t →
    (u.yard p.val).inbox = f :: rest →
    f.ftype ≠ 3 →
    (isKind 1 f || isKind 2 f || isKind 3 f) = false →
    w = u.setYard p.val { u.yard p.val with inbox := rest } →
    f.ok = false ∨ f.seq ≠ (w.yard p.val).rxSeq ∨ (w.encrypts p.val = true ∧ f.f < (w.yard p.val).tagFrom) →
    exec (.data t p) s = .next (w.setYard p.val { w.yard p.val with nak := (w.yard p.val).nak || !(w.yard p.val).nakOpen, nakOpen := true })) ∧
  (∀ (s u : State) (t : Nat) (p : Fin 4) (f : RxFrame) (rest : List RxFrame) (w v z : State), u = s.tickTo t →
    (u.yard p.val).inbox = f :: rest →
    f.ftype ≠ 3 →
    (isKind 1 f || isKind 2 f || isKind 3 f) = false →
    w = u.setYard p.val { u.yard p.val with inbox := rest } →
    f.ok = true →
    f.seq = (w.yard p.val).rxSeq →
    (w.encrypts p.val = true → (w.yard p.val).tagFrom ≤ f.f) →
    v = w.setYard p.val { w.yard p.val with rxSeq := ((w.yard p.val).rxSeq + 1) % 128, nakOpen := false } →
    f.ftype = 1 →
    f.half = false →
    z = (v.ledAdd 0x1061 0 1).ledAdd 0x1061 2 1 →
    z.encrypts p.val = false →
    exec (.data t p) s = .next (z.setVc p.val f.vc { (z.yard p.val).vc f.vc with first := some f.payload })) ∧
  (∀ (s u : State) (t : Nat) (p : Fin 4) (f : RxFrame) (rest : List RxFrame) (w v z : State), u = s.tickTo t →
    (u.yard p.val).inbox = f :: rest →
    f.ftype ≠ 3 →
    (isKind 1 f || isKind 2 f || isKind 3 f) = false →
    w = u.setYard p.val { u.yard p.val with inbox := rest } →
    f.ok = true →
    f.seq = (w.yard p.val).rxSeq →
    (w.encrypts p.val = true → (w.yard p.val).tagFrom ≤ f.f) →
    v = w.setYard p.val { w.yard p.val with rxSeq := ((w.yard p.val).rxSeq + 1) % 128, nakOpen := false } →
    f.ftype = 1 →
    f.half = false →
    z = (v.ledAdd 0x1061 0 1).ledAdd 0x1061 2 1 →
    z.encrypts p.val = true →
    exec (.data t p) s = .next (z.setYard p.val { z.yard p.val with heldFrames := (z.yard p.val).heldFrames ++ [f] })) ∧
  (∀ (s u : State) (t : Nat) (p : Fin 4) (f : RxFrame) (rest : List RxFrame) (w v : State), u = s.tickTo t →
    (u.yard p.val).inbox = f :: rest →
    f.ftype ≠ 3 →
    (isKind 1 f || isKind 2 f || isKind 3 f) = false →
    w = u.setYard p.val { u.yard p.val with inbox := rest } →
    f.ok = true →
    f.seq = (w.yard p.val).rxSeq →
    (w.encrypts p.val = true → (w.yard p.val).tagFrom ≤ f.f) →
    v = w.setYard p.val { w.yard p.val with rxSeq := ((w.yard p.val).rxSeq + 1) % 128, nakOpen := false } →
    f.ftype = 1 →
    f.half = true →
    v.encrypts p.val = true →
    exec (.data t p) s = .next (v.setYard p.val { v.yard p.val with heldFrames := (v.yard p.val).heldFrames ++ [f] })) ∧
  (∀ (s u : State) (t : Nat) (p : Fin 4) (f : RxFrame) (rest : List RxFrame) (w v : State) (a : Nat), u = s.tickTo t →
    (u.yard p.val).inbox = f :: rest →
    f.ftype ≠ 3 →
    (isKind 1 f || isKind 2 f || isKind 3 f) = false →
    w = u.setYard p.val { u.yard p.val with inbox := rest } →
    f.ok = true →
    f.seq = (w.yard p.val).rxSeq →
    (w.encrypts p.val = true → (w.yard p.val).tagFrom ≤ f.f) →
    v = w.setYard p.val { w.yard p.val with rxSeq := ((w.yard p.val).rxSeq + 1) % 128, nakOpen := false } →
    f.ftype = 1 →
    f.half = true →
    v.encrypts p.val = false →
    ((v.yard p.val).vc f.vc).first = some a →
    ((v.yard p.val).vc f.vc).lost = false →
    exec (.data t p) s = .next (v.yardEnqueue p.val f.vc (leBytes 16 a ++ leBytes 16 f.payload))) ∧
  (∀ (s u : State) (t : Nat) (p : Fin 4) (f : RxFrame) (rest : List RxFrame) (w v : State) (a : Nat), u = s.tickTo t →
    (u.yard p.val).inbox = f :: rest →
    f.ftype ≠ 3 →
    (isKind 1 f || isKind 2 f || isKind 3 f) = false →
    w = u.setYard p.val { u.yard p.val with inbox := rest } →
    f.ok = true →
    f.seq = (w.yard p.val).rxSeq →
    (w.encrypts p.val = true → (w.yard p.val).tagFrom ≤ f.f) →
    v = w.setYard p.val { w.yard p.val with rxSeq := ((w.yard p.val).rxSeq + 1) % 128, nakOpen := false } →
    f.ftype = 1 →
    f.half = true →
    v.encrypts p.val = false →
    ((v.yard p.val).vc f.vc).first = some a →
    ((v.yard p.val).vc f.vc).lost = true →
    exec (.data t p) s = .next ((v.setVc p.val f.vc { (v.yard p.val).vc f.vc with first := none }).ledMove 0x1061 2 3 1)) ∧
  (∀ (s u : State) (t : Nat) (p : Fin 4) (f : RxFrame) (rest : List RxFrame) (w v : State), u = s.tickTo t →
    (u.yard p.val).inbox = f :: rest →
    f.ftype ≠ 3 →
    (isKind 1 f || isKind 2 f || isKind 3 f) = false →
    w = u.setYard p.val { u.yard p.val with inbox := rest } →
    f.ok = true →
    f.seq = (w.yard p.val).rxSeq →
    (w.encrypts p.val = true → (w.yard p.val).tagFrom ≤ f.f) →
    v = w.setYard p.val { w.yard p.val with rxSeq := ((w.yard p.val).rxSeq + 1) % 128, nakOpen := false } →
    f.ftype = 1 →
    f.half = true →
    v.encrypts p.val = false →
    ((v.yard p.val).vc f.vc).first = none →
    exec (.data t p) s = .next (v)) ∧
  (∀ (s u : State) (t : Nat) (p : Fin 4) (f : RxFrame) (rest : List RxFrame) (w : State), u = s.tickTo t →
    (u.yard p.val).inbox = f :: rest →
    f.ftype = 2 →
    f.ok = true →
    bits f.payload 127 120 = 1 →
    w = u.setYard p.val { u.yard p.val with inbox := rest } →
    f.seq ≠ (w.yard p.val).rxSeq →
    exec (.credit t p) s = .next (w.setYard p.val { w.yard p.val with nak := (w.yard p.val).nak || !(w.yard p.val).nakOpen, nakOpen := true })) ∧
  (∀ (s u : State) (t : Nat) (p : Fin 4) (f : RxFrame) (rest : List RxFrame) (w v : State), u = s.tickTo t →
    (u.yard p.val).inbox = f :: rest →
    f.ftype = 2 →
    f.ok = true →
    bits f.payload 127 120 = 1 →
    w = u.setYard p.val { u.yard p.val with inbox := rest } →
    f.seq = (w.yard p.val).rxSeq →
    (w.encrypts p.val = true → (w.yard p.val).tagFrom ≤ f.f) →
    v = w.setYard p.val { w.yard p.val with rxSeq := ((w.yard p.val).rxSeq + 1) % 128, nakOpen := false } →
    v.encrypts p.val = true →
    exec (.credit t p) s = .next (v.setYard p.val { v.yard p.val with heldFrames := (v.yard p.val).heldFrames ++ [f] })) ∧
  (∀ (s u : State) (t : Nat) (p : Fin 4) (f : RxFrame) (rest : List RxFrame) (w v : State), u = s.tickTo t →
    (u.yard p.val).inbox = f :: rest →
    f.ftype = 2 →
    f.ok = true →
    bits f.payload 127 120 = 1 →
    w = u.setYard p.val { u.yard p.val with inbox := rest } →
    f.seq = (w.yard p.val).rxSeq →
    (w.encrypts p.val = true → (w.yard p.val).tagFrom ≤ f.f) →
    v = w.setYard p.val { w.yard p.val with rxSeq := ((w.yard p.val).rxSeq + 1) % 128, nakOpen := false } →
    v.encrypts p.val = false →
    exec (.credit t p) s = .next (v.takeCredit p.val f.payload)) ∧
  (∀ (s u : State) (t : Nat) (p : Fin 4) (f : RxFrame) (rest : List RxFrame) (w : State), u = s.tickTo t →
    (u.yard p.val).inbox = f :: rest →
    f.ftype = 2 →
    f.ok = true →
    bits f.payload 127 120 = 2 →
    w = u.setYard p.val { u.yard p.val with inbox := rest } →
    f.seq ≠ (w.yard p.val).rxSeq →
    exec (.rekey t p) s = .next (w.setYard p.val { w.yard p.val with nak := (w.yard p.val).nak || !(w.yard p.val).nakOpen, nakOpen := true })) ∧
  (∀ (s u : State) (t : Nat) (p : Fin 4) (f : RxFrame) (rest : List RxFrame) (w v : State), u = s.tickTo t →
    (u.yard p.val).inbox = f :: rest →
    f.ftype = 2 →
    f.ok = true →
    bits f.payload 127 120 = 2 →
    w = u.setYard p.val { u.yard p.val with inbox := rest } →
    f.seq = (w.yard p.val).rxSeq →
    (w.encrypts p.val = true → (w.yard p.val).tagFrom ≤ f.f) →
    v = w.setYard p.val { w.yard p.val with rxSeq := ((w.yard p.val).rxSeq + 1) % 128, nakOpen := false } →
    v.encrypts p.val = true →
    exec (.rekey t p) s = .next (v.setYard p.val { v.yard p.val with heldFrames := (v.yard p.val).heldFrames ++ [f] })) ∧
  (∀ (s u : State) (t : Nat) (p : Fin 4) (f : RxFrame) (rest : List RxFrame) (w v : State), u = s.tickTo t →
    (u.yard p.val).inbox = f :: rest →
    f.ftype = 2 →
    f.ok = true →
    bits f.payload 127 120 = 2 →
    w = u.setYard p.val { u.yard p.val with inbox := rest } →
    f.seq = (w.yard p.val).rxSeq →
    (w.encrypts p.val = true → (w.yard p.val).tagFrom ≤ f.f) →
    v = w.setYard p.val { w.yard p.val with rxSeq := ((w.yard p.val).rxSeq + 1) % 128, nakOpen := false } →
    v.encrypts p.val = false →
    exec (.rekey t p) s = .next (v.takeRekey p.val f.payload)) ∧
  (∀ (s u : State) (t : Nat) (p : Fin 4) (f : RxFrame) (rest : List RxFrame) (w : State), u = s.tickTo t →
    (u.yard p.val).inbox = f :: rest →
    f.ftype = 2 →
    f.ok = true →
    bits f.payload 127 120 = 3 →
    w = u.setYard p.val { u.yard p.val with inbox := rest } →
    f.seq ≠ (w.yard p.val).rxSeq →
    exec (.rekeyAck t p) s = .next (w.setYard p.val { w.yard p.val with nak := (w.yard p.val).nak || !(w.yard p.val).nakOpen, nakOpen := true })) ∧
  (∀ (s u : State) (t : Nat) (p : Fin 4) (f : RxFrame) (rest : List RxFrame) (w v : State), u = s.tickTo t →
    (u.yard p.val).inbox = f :: rest →
    f.ftype = 2 →
    f.ok = true →
    bits f.payload 127 120 = 3 →
    w = u.setYard p.val { u.yard p.val with inbox := rest } →
    f.seq = (w.yard p.val).rxSeq →
    (w.encrypts p.val = true → (w.yard p.val).tagFrom ≤ f.f) →
    v = w.setYard p.val { w.yard p.val with rxSeq := ((w.yard p.val).rxSeq + 1) % 128, nakOpen := false } →
    v.encrypts p.val = true →
    exec (.rekeyAck t p) s = .next (v.setYard p.val { v.yard p.val with heldFrames := (v.yard p.val).heldFrames ++ [f] })) ∧
  (∀ (s u : State) (t : Nat) (p : Fin 4) (f : RxFrame) (rest : List RxFrame) (w v : State), u = s.tickTo t →
    (u.yard p.val).inbox = f :: rest →
    f.ftype = 2 →
    f.ok = true →
    bits f.payload 127 120 = 3 →
    w = u.setYard p.val { u.yard p.val with inbox := rest } →
    f.seq = (w.yard p.val).rxSeq →
    (w.encrypts p.val = true → (w.yard p.val).tagFrom ≤ f.f) →
    v = w.setYard p.val { w.yard p.val with rxSeq := ((w.yard p.val).rxSeq + 1) % 128, nakOpen := false } →
    v.encrypts p.val = false →
    exec (.rekeyAck t p) s = .next (v.takeRekeyAck p.val f.payload)) ∧
  (∀ (s u : State) (t : Nat) (p : Fin 4) (f : RxFrame) (rest : List RxFrame) (w : State), u = s.tickTo t →
    (u.yard p.val).inbox = f :: rest →
    f.ftype = 3 →
    w = u.setYard p.val { u.yard p.val with inbox := rest } →
    u.encrypts p.val = false →
    exec (.tag t p) s = .next (w)) ∧
  (∀ (s u : State) (t : Nat) (p : Fin 4) (f : RxFrame) (rest : List RxFrame) (w : State), u = s.tickTo t →
    (u.yard p.val).inbox = f :: rest →
    f.ftype = 3 →
    w = u.setYard p.val { u.yard p.val with inbox := rest } →
    u.encrypts p.val = true →
    f.ok = false →
    exec (.tag t p) s = .next (w.dropHeld p.val)) ∧
  (∀ (s u : State) (t : Nat) (p : Fin 4) (f : RxFrame) (rest : List RxFrame) (w : State), u = s.tickTo t →
    (u.yard p.val).inbox = f :: rest →
    f.ftype = 3 →
    w = u.setYard p.val { u.yard p.val with inbox := rest } →
    u.encrypts p.val = true →
    f.ok = true →
    f.tagOk = true →
    exec (.tag t p) s = .next ((u.yard p.val).heldFrames.foldl (fun (s : State) f => s.actFrame p.val f) (w.setYard p.val { w.yard p.val with heldFrames := [] }))) ∧
  (∀ (s u : State) (t : Nat) (p : Fin 4) (f : RxFrame) (rest : List RxFrame) (w : State), u = s.tickTo t →
    (u.yard p.val).inbox = f :: rest →
    f.ftype = 3 →
    w = u.setYard p.val { u.yard p.val with inbox := rest } →
    u.encrypts p.val = true →
    f.ok = true →
    f.tagOk = false →
    f.covBad = true →
    exec (.tag t p) s = .next (w.dropHeld p.val)) ∧
  (∀ (s u : State) (t : Nat) (p : Fin 4) (f : RxFrame) (rest : List RxFrame) (w : State), u = s.tickTo t →
    (u.yard p.val).inbox = f :: rest →
    f.ftype = 3 →
    w = u.setYard p.val { u.yard p.val with inbox := rest } →
    u.encrypts p.val = true →
    f.ok = true →
    f.tagOk = false →
    f.covBad = false →
    exec (.tag t p) s = .next ((w.bump (O.YARD_TAG_FAILS p.val) 1).yardDown p.val 5)) ∧
  (∀ (s u : State) (t : Nat) (r : Requester) (p : Fin 4) (slot : Nat), u = s.tickTo t →
    u.writable r (O.YARD_KEY_ROTATE p.val) 1 = true →
    slot = 1 - u.reg (O.YARD_KEY_ACTIVE p.val) →
    (u.yard p.val).rot = none →
    u.yardUp p.val = true →
    u.encrypts p.val = true →
    (u.linkKey p.val slot).isSome = true →
    exec (.keyRotate t r p true) s = .next ((u.setYard p.val { u.yard p.val with rot := some { slot := slot, initiator := true }, ctl := (u.yard p.val).ctl ++ [0x02 * 2 ^ 120 + slot * 2 ^ 112] }).okays r (O.YARD_KEY_ROTATE p.val))) ∧
  (∀ (s u : State) (t : Nat) (r : Requester) (crc : Nat) (img : List Byte) (p : Fin 4) (slot : Fin 2) (tt : Nat) (z : Nat), u = s.tickTo t →
    u.commitReady r (O.YARD_LINK_KEY0 p.val + slot.val) crc img = true →
    img.length = 32 →
    ¬ (u.encrypts p.val = true ∧ slot.val = u.reg (O.YARD_KEY_ACTIVE p.val)) →
    tt = 0 →
    tt = ttImage (ttTick z) (ttFine z) →
    exec (.linkKeyCommit t r p slot crc z) s = .next (((u.setXfer (O.YARD_LINK_KEY0 p.val + slot.val) none).setImage (O.YARD_LINK_KEY0 p.val + slot.val) img).okays r (O.YARD_LINK_KEY0 p.val + slot.val))) ∧
  (∀ (s u : State) (t : Nat) (r : Requester) (crc : Nat) (img : List Byte) (p : Fin 4) (tt : Nat) (w : State) (z : Nat), u = s.tickTo t →
    u.commitReady r (O.YARD_VC_CFG p.val) crc img = true →
    w = u.setXfer (O.YARD_VC_CFG p.val) none →
    w.vcRefused p.val img = false →
    tt = 0 →
    tt = ttImage (ttTick z) (ttFine z) →
    exec (.vcCfgCommit t r p crc z) s = .next (((w.setImage (O.YARD_VC_CFG p.val) ((List.range 8).flatMap fun v =>
        leBytes 2 (vcEntry img v).1 ++ leBytes 2 (vcEntry img v).2.1 ++ leBytes 1 (vcEntry img v).2.2.1 ++ leBytes 1 ((vcEntry img v).2.2.2 % 4) ++
          leBytes 2 0)).setYard p.val { w.yard p.val with vcs := [] }).okays r (O.YARD_VC_CFG p.val))) ∧
  (∀ (s u : State) (t : Nat) (p : Fin 4) (frames : List (List Byte)) (good : List Byte → Bool), u = s.tickTo t →
    u.reg (O.YARD_STATE p.val) = 0 →
    u.isSet (O.YARD_WAKE_EN p.val) = true →
    u.reg (O.SHED_STATE (quadStop p.val 22)) ≠ 3 →
    64 ≤ frames.length →
    good = (fun b => b.length == 42 && hcrcOk (scrambleTrain (bytesBits b)) && pcrcOk (scrambleTrain (bytesBits b)) && frameField (scrambleTrain (bytesBits b)) 0 2 == 3 && frameField (scrambleTrain (bytesBits b)) 2 6 == 7 && frameField (scrambleTrain (bytesBits b)) 16 16 == 0xE4B1 && frameField (scrambleTrain (bytesBits b)) 176 8 == u.reg O.ID_YARD_ID) →
    (frames.drop (frames.length - 64)).all good = true →
    exec (.yardWake t p frames) s = .next ((u.setFlag (O.YARD_WAKE_SEEN p.val) 0 (O.YARD_WAKE_COUNT p.val) 1).wakeAt (3 + p.val)))

/-- The ports of the fabric, its block memories and Paddock swaps complete. Each clause names a command and conditions on the operands
and on u alone, u being the state with its clock at the command's instant t. For every state and all operands that meet them, exec
of the command answers a next state, and it is the one written out from u: what it does not name stays as it was in u. They cover
FABRIC_LANE_WORD, RECEIVE_PORT_WORD, QUEUE_PORT_OFFER, QUEUE_PORT_TAKE, QUEUE_PORT_BIND, SOURCE, IDELAY, BLOCK_MEMORY_ACCESS,
PADDOCK_SWAP and HOLD_END. A row of a port is an edge of that port, and finds what the logic presents in the fabric (log entry
162). Rests on R296, R300, R302, R303, R304, R305, R306, R327, R328. -/
def Obligations.FabricPortCommandsComplete : Prop :=
  (∀ (s u : State) (t : Nat) (q : Fin 4) (i : Fin 64) (k : Nat) (x : FlPort) (v : FabricWord), u = (s.tickTo t).fabricPre →
    k = 64 * q.val + i.val →
    x = u.flPort k →
    u.laneInput q.val (flPlace i.val).1 (flPlace i.val).2 = some v →
    u.tileEdgeNow q.val (flPlace i.val).1 (flPlace i.val).2 = true →
    x.buf.length < 8 →
    exec (.fabricLaneWord t q i) s = .next (((u.setFlBuf k (x.buf ++ [(v, u.now / Config.wordUnits)]) x.movedAt).bump (O.FP_FL_WORDS q.val) 1).flMove k)) ∧
  (∀ (s u : State) (t : Nat) (q : Fin 4) (i : Fin 64) (k : Nat) (x : FlPort), u = (s.tickTo t).fabricPre →
    k = 64 * q.val + i.val →
    x = u.flPort k →
    u.laneInput q.val (flPlace i.val).1 (flPlace i.val).2 = none ∨ u.tileEdgeNow q.val (flPlace i.val).1 (flPlace i.val).2 = false ∨ 8 ≤ x.buf.length →
    exec (.fabricLaneWord t q i) s = .next (u.flMove k)) ∧
  (∀ (s u : State) (t : Nat) (ch : Fin 144) (e : Nat × Nat) (rest : List (Nat × Nat)) (w : State), u = (s.tickTo t).fabricPre →
    (u.ser ch.val).rxWords = e :: rest →
    w = u.setSer ch.val { u.ser ch.val with rxWords := rest } →
    (Tbl.get [] u.rxBuf ch.val).length < 16 →
    exec (.receivePortWord t ch) s = .next ({ w with rxBuf := Tbl.set [] w.rxBuf ch.val (Tbl.get [] u.rxBuf ch.val ++ [e]) })) ∧
  (∀ (s u : State) (t : Nat) (ch : Fin 144) (e : Nat × Nat) (rest : List (Nat × Nat)) (w : State), u = (s.tickTo t).fabricPre →
    (u.ser ch.val).rxWords = e :: rest →
    w = u.setSer ch.val { u.ser ch.val with rxWords := rest } →
    16 ≤ (Tbl.get [] u.rxBuf ch.val).length →
    exec (.receivePortWord t ch) s = .next ((w.bump (O.FP_RXP_DROPS (ch.val / 36)) 1).setFlag (O.FP_RXP_DROPPED (ch.val / 36)) 0 (O.FP_RXP_DROPPED_COUNT (ch.val / 36)) 1)) ∧
  (∀ (s u : State) (t : Nat) (ch : Fin 144), u = (s.tickTo t).fabricPre →
    (u.ser ch.val).rxWords = [] →
    exec (.receivePortWord t ch) s = .next (u)) ∧
  (∀ (s u : State) (t : Nat) (q : Fin 4) (k : Fin 2) (n r b : Nat) (w : State), u = (s.tickTo t).fabricPre →
    n = 2 * q.val + k.val →
    r = 156 + 9 * k.val →
    b = u.boundTo false q.val k.val →
    u.tileEdgeNow q.val 48 r = true →
    (u.qport n).ready u.now = true →
    u.portIn q.val 48 r 256 1 ≠ 0 →
    w = (u.bump (O.FP_QP_OFFERS q.val) 1).qportBusy n none →
    b = 0xFFFF →
    exec (.queuePortOffer t q k) s = .next ((w.setQport n { w.qport n with offers := (w.qport n).offers ++ [some Status.decode] }).bump (O.FP_QP_NOT_OK q.val) 1)) ∧
  (∀ (s u : State) (t : Nat) (q : Fin 4) (k : Fin 2) (n r b : Nat) (w : State), u = (s.tickTo t).fabricPre →
    n = 2 * q.val + k.val →
    r = 156 + 9 * k.val →
    b = u.boundTo false q.val k.val →
    u.tileEdgeNow q.val 48 r = true →
    (u.qport n).ready u.now = true →
    u.portIn q.val 48 r 256 1 ≠ 0 →
    w = (u.bump (O.FP_QP_OFFERS q.val) 1).qportBusy n none →
    b ≠ 0xFFFF →
    exec (.queuePortOffer t q k) s = .next ((w.setQport n { w.qport n with offers := (w.qport n).offers ++ [none] }).offer b (Producer.fabric.who n) (leBytes 32 (u.portIn q.val 48 r 0 256)))) ∧
  (∀ (s u : State) (t : Nat) (q : Fin 4) (k : Fin 2), u = (s.tickTo t).fabricPre →
    u.tileEdgeNow q.val 48 (156 + 9 * k.val) = false ∨ (u.qport (2 * q.val + k.val)).ready u.now = false ∨ u.portIn q.val 48 (156 + 9 * k.val) 256 1 = 0 →
    exec (.queuePortOffer t q k) s = .next (u)) ∧
  (∀ (s u : State) (t : Nat) (q : Fin 4) (k : Fin 2) (n r b : Nat) (g : List Byte), u = (s.tickTo t).fabricPre →
    n = 8 + 2 * q.val + k.val →
    r = 156 + 9 * k.val →
    b = u.boundTo true q.val k.val →
    u.tileEdgeNow q.val 48 r = true →
    u.portIn q.val 48 r 257 1 ≠ 0 →
    u.presented n b u.now = some g →
    exec (.queuePortTake t q k) s = .next ({ ((((u.qportBusy n (some g)).consume b 1).queueMoved b).bump (O.FP_QC_TAKEN q.val) 1) with reply := ⟨.okay, g⟩ })) ∧
  (∀ (s u : State) (t : Nat) (q : Fin 4) (k : Fin 2), u = (s.tickTo t).fabricPre →
    u.tileEdgeNow q.val 48 (156 + 9 * k.val) = false ∨ u.portIn q.val 48 (156 + 9 * k.val) 257 1 = 0 ∨ u.presented (8 + 2 * q.val + k.val) (u.boundTo true q.val k.val) u.now = none →
    exec (.queuePortTake t q k) s = .next (u)) ∧
  (∀ (s u : State) (t : Nat) (r : Requester) (q : Fin 4) (k : Fin 2) (v : Nat), u = s.tickTo t →
    u.writable r (qportObj false q.val k.val) v = true →
    (u.qport (2 * q.val + k.val)).offers.any (·.isNone) = false →
    v < 0x8000 ∨ v = 0xFFFF →
    exec (.queuePortBind t r q false k v) s = .next (((u.setReg (qportObj false q.val k.val) v).deisolate (quadStop q.val 19) (2 ^ k.val)).okays r (qportObj false q.val k.val))) ∧
  (∀ (s u : State) (t : Nat) (r : Requester) (q : Fin 4) (k : Fin 2) (v : Nat), u = s.tickTo t →
    u.writable r (qportObj true q.val k.val) v = true →
    v < 0x8000 →
    (u.queue v).ckind = 0 →
    u.otherConsumer q.val k.val v = false →
    u.yardConsumes v = false →
    exec (.queuePortBind t r q true k v) s = .next (((u.setReg (qportObj true q.val k.val) v).deisolate (quadStop q.val 19) (4 * 2 ^ k.val)).okays r (qportObj true q.val k.val))) ∧
  (∀ (s u : State) (t : Nat) (r : Requester) (q : Fin 4) (k : Fin 2), u = s.tickTo t →
    u.writable r (qportObj true q.val k.val) 0xFFFF = true →
    exec (.queuePortBind t r q true k 0xFFFF) s = .next ((u.setReg (qportObj true q.val k.val) 0xFFFF).okays r (qportObj true q.val k.val))) ∧
  (∀ (s u : State) (t : Nat) (r : Requester) (p : Fin 8) (v : Nat), u = s.tickTo t →
    u.writable r (O.PROBE_SOURCE p.val) v = true →
    v / 2 ^ 12 ≤ 5 →
    (v / 2 ^ 12 = 0 → v % 2 ^ 12 = 0) →
    (v / 2 ^ 12 = 1 → v % 2 ^ 12 ≤ 255) →
    (v / 2 ^ 12 = 2 → v % 2 ^ 12 ≤ 287) →
    (v / 2 ^ 12 = 3 → v % 2 ^ 12 ≤ 511) →
    (v / 2 ^ 12 = 4 → v % 2 ^ 12 ≤ 7) →
    (v / 2 ^ 12 = 5 → v % 2 ^ 12 ≤ 2) →
    exec (.source t r p v) s = .next ((u.setReg (O.PROBE_SOURCE p.val) v).okays r (O.PROBE_SOURCE p.val))) ∧
  (∀ (s u : State) (t : Nat) (r : Requester) (g : Fin 48) (v : Nat), u = s.tickTo t →
    u.writable r (O.GPIO_IDELAY g.val) v = true →
    exec (.idelay t r g v) s = .next ((u.setReg (O.GPIO_IDELAY g.val) v).okays r (O.GPIO_IDELAY g.val))) ∧
  (∀ (s u : State) (t : Nat) (m : Fin 2304) (upsets : List (Nat × Nat)) (q c r : Nat) (w : State), u = (s.tickTo t).fabricPre →
    w = u.bmUpsets m.val upsets →
    q = m.val / 576 →
    c = memCols.getD (m.val / 48 % 12) 12 →
    r = 4 * (m.val % 48) →
    exec (.blockMemoryAccess t m upsets) s = .next (w.bmAccess m.val (w.bmPort q c r 0) (w.bmPort q c r 57) (w.tileEdgeNow q c r) (w.edgeNow (clockOf (bits (w.memCfg m.val) 63 59) q c r, (w.tileClock q c r).2) q c r))) ∧
  (∀ (s u : State) (t : Nat) (p : Fin 24) (a : Sched) (e : Nat) (b w v z : State), u = s.tickTo t →
    u.sched .swap p.val = some a →
    u.due .swap p.val a = true →
    u.domainRunning (356 + p.val) = true →
    u.shedOn (padShed p.val) = true →
    e = u.effectAt .swap p.val a →
    b = u.fabricTo (e - 1) →
    w = (b.swapFfs p.val ((((b.fabricTo e).endAction .swap p.val 1).abortAudit p.val).exchange p.val)).swapMacs p.val →
    v = (padMems p.val).foldl (fun (s : State) m => if (s.memCfg m).testBit 46 then s else s.reloadMem m) w →
    z = (((((v.setReg (O.PAD_LIVE_ID p.val) (v.reg (O.PAD_SHADOW_ID p.val))).setReg (O.PAD_SHADOW_ID p.val) (v.reg (O.PAD_LIVE_ID p.val))).bump (O.PAD_SWAPS p.val) 1).setReg (O.PAD_SWAP_STATUS p.val) Status.okay.code).setReg (O.PAD_LAST_SWAP_TT p.val) (v.ttOf e)) →
    exec (.paddockSwap t p) s = .next (z.setPad p.val { z.pad p.val with holdUntil := e + cycleUnits (z.regionalKhz p.val) (z.reg (O.PAD_HOLD_CYCLES p.val)), border := b.borderOnes p.val })) ∧
  (∀ (s u : State) (t : Nat) (p : Fin 24) (a : Sched), u = s.tickTo t →
    u.sched .swap p.val = some a →
    u.due .swap p.val a = true →
    u.domainRunning (356 + p.val) = false ∨ u.shedOn (padShed p.val) = false →
    exec (.paddockSwap t p) s = .next ((u.endAction .swap p.val 2).setReg (O.PAD_SWAP_STATUS p.val) Status.refused.code)) ∧
  (∀ (s u : State) (t : Nat) (p : Fin 24) (w : State), u = s.tickTo t →
    (u.pad p.val).holdUntil ≠ 0 →
    (u.pad p.val).holdUntil ≤ u.now →
    w = u.fabricTo (u.pad p.val).holdUntil →
    exec (.holdEnd t p) s = .next (w.setPad p.val { w.pad p.val with holdUntil := 0, border := [] }))

/-- Configuration completes: the words of the port, the clearing of planes and audits. Each clause names a command and conditions on
the operands and on u alone, u being the state with its clock at the command's instant t. For every state and all operands that
meet them, exec of the command answers a next state, and it is the one written out from u: what it does not name stays as it was
in u. Where a clause asks only for some next state y, it says of y what it lists. SYNC and the packet rows NOP, LOCATE, CRC,
HEADER and SEAL pass the edges of the configuration bus through the port, in parallel and in serial mode, and the words found go
through the loader; CONFIG_CLEAR_DONE, SHADOW_CLEAR_DONE, SHADOW_DISCARD, AUDIT_START, AUDIT_COMPLETE and AUTO_AUDIT complete as
written. The causes of a stream error rest on log entry 102. Rests on R309, R311, R312, R317, R318, R323, R331. -/
def Obligations.ConfigurationCommandsComplete : Prop :=
  (∀ (s u : State) (t : Nat) (bus : List PortEdge), u = s.tickTo t →
    u.portTakes 1 = true →
    exec (.sync t bus) s = .next (bus.foldl State.portEdge u)) ∧
  (∀ (s u : State) (t : Nat), u = s.tickTo t →
    u.reg O.CFG_CFG_MODE = 1 →
    u.portTakes 1 = true →
    exec (.sync t [⟨false, 0x5A3C96E1⟩]) s = .next ((u.setReg O.CFG_CFG_STATE 2).setCfg { u.cfg with loader := {}, nibs := [], errLow := false })) ∧
  (∀ (s u : State) (t : Nat) (d : BitVec 32), u = s.tickTo t →
    u.reg O.CFG_CFG_MODE = 1 →
    u.portTakes 1 = true →
    d ≠ 0x5A3C96E1 →
    exec (.sync t [⟨false, d⟩]) s = .next (u)) ∧
  (∀ (s u : State) (t : Nat) (d : BitVec 32) (l : List Nat), u = s.tickTo t →
    u.reg O.CFG_CFG_MODE = 0 →
    u.portTakes 1 = true →
    l = (d.toNat % 16 :: u.cfg.nibs).take 8 →
    nibWord l = 0x5A3C96E1 →
    exec (.sync t [⟨false, d⟩]) s = .next ((u.setReg O.CFG_CFG_STATE 2).setCfg { u.cfg with loader := {}, nibs := [], errLow := false })) ∧
  (∀ (s u : State) (t : Nat) (d : BitVec 32) (l : List Nat), u = s.tickTo t →
    u.reg O.CFG_CFG_MODE = 0 →
    u.portTakes 1 = true →
    l = (d.toNat % 16 :: u.cfg.nibs).take 8 →
    nibWord l ≠ 0x5A3C96E1 →
    exec (.sync t [⟨false, d⟩]) s = .next (u.setCfg { u.cfg with nibs := l })) ∧
  (∀ (s u : State) (t n : Nat) (bus : List PortEdge) (i : Instr), u = s.tickTo t →
    ((i = .header t bus ∧ (n = 1 ∨ n = 9 ∨ 10 < n)) ∨ (i = .locate t bus ∧ n = 2) ∨ (i = .writeFrames t bus ∧ n = 3) ∨ (i = .repeat t bus ∧ n = 4) ∨ (i = .zwrite t bus ∧ n = 5) ∨ (i = .crc t bus ∧ n = 6) ∨ (i = .startup t bus ∧ n = 7) ∨ (i = .fwload t bus ∧ n = 8) ∨ (i = .seal t bus ∧ n = 10) ∨ (i = .nop t bus ∧ n = 0)) →
    u.portTakes 2 = true →
    (∀ c, u.busCmd bus = some c → c = n) →
    exec i s = .next (bus.foldl State.portEdge u)) ∧
  (∀ (s u : State) (t n : Nat) (bus : List PortEdge) (i : Instr) (w : BitVec 32) (d : Loader) (x : State), u = s.tickTo t →
    ((i = .header t bus ∧ (n = 1 ∨ n = 9 ∨ 10 < n)) ∨ (i = .locate t bus ∧ n = 2) ∨ (i = .writeFrames t bus ∧ n = 3) ∨ (i = .repeat t bus ∧ n = 4) ∨ (i = .zwrite t bus ∧ n = 5) ∨ (i = .crc t bus ∧ n = 6) ∨ (i = .startup t bus ∧ n = 7) ∨ (i = .fwload t bus ∧ n = 8) ∨ (i = .seal t bus ∧ n = 10) ∨ (i = .nop t bus ∧ n = 0)) →
    u.portTakes 2 = true →
    (u.reg O.CFG_CFG_MODE = 1) →
    (bus = [⟨false, w⟩]) →
    ((if u.cfg.loader.left = 0 then w.toNat / 2 ^ 24 else u.cfg.loader.cmd) = n) →
    (u.takeWord none u.cfg.loader w.toNat = .on d x) →
    (d.sealed = false) →
    exec i s = .next (x.setCfg { x.cfg with loader := d })) ∧
  (∀ (s u : State) (t n : Nat) (bus : List PortEdge) (i : Instr) (w : BitVec 32) (d : Loader) (x : State), u = s.tickTo t →
    ((i = .header t bus ∧ (n = 1 ∨ n = 9 ∨ 10 < n)) ∨ (i = .locate t bus ∧ n = 2) ∨ (i = .writeFrames t bus ∧ n = 3) ∨ (i = .repeat t bus ∧ n = 4) ∨ (i = .zwrite t bus ∧ n = 5) ∨ (i = .crc t bus ∧ n = 6) ∨ (i = .startup t bus ∧ n = 7) ∨ (i = .fwload t bus ∧ n = 8) ∨ (i = .seal t bus ∧ n = 10) ∨ (i = .nop t bus ∧ n = 0)) →
    u.portTakes 2 = true →
    (u.reg O.CFG_CFG_MODE = 1) →
    (bus = [⟨false, w⟩]) →
    ((if u.cfg.loader.left = 0 then w.toNat / 2 ^ 24 else u.cfg.loader.cmd) = n) →
    (u.takeWord none u.cfg.loader w.toNat = .on d x) →
    (d.sealed = true) →
    exec i s = .next (x.sealFull d)) ∧
  (∀ (s u : State) (t n : Nat) (bus : List PortEdge) (i : Instr) (w : BitVec 32) (cause addr : Nat) (x : State), u = s.tickTo t →
    ((i = .header t bus ∧ (n = 1 ∨ n = 9 ∨ 10 < n)) ∨ (i = .locate t bus ∧ n = 2) ∨ (i = .writeFrames t bus ∧ n = 3) ∨ (i = .repeat t bus ∧ n = 4) ∨ (i = .zwrite t bus ∧ n = 5) ∨ (i = .crc t bus ∧ n = 6) ∨ (i = .startup t bus ∧ n = 7) ∨ (i = .fwload t bus ∧ n = 8) ∨ (i = .seal t bus ∧ n = 10) ∨ (i = .nop t bus ∧ n = 0)) →
    u.portTakes 2 = true →
    (u.reg O.CFG_CFG_MODE = 1) →
    (bus = [⟨false, w⟩]) →
    ((if u.cfg.loader.left = 0 then w.toNat / 2 ^ 24 else u.cfg.loader.cmd) = n) →
    (u.takeWord none u.cfg.loader w.toNat = .err cause addr x) →
    exec i s = .next (x.fullError cause addr (u.cfg.loader.words + 1))) ∧
  (∀ (s u : State) (t n : Nat) (bus : List PortEdge) (i : Instr) (e : BitVec 32), u = s.tickTo t →
    ((i = .header t bus ∧ (n = 1 ∨ n = 9 ∨ 10 < n)) ∨ (i = .locate t bus ∧ n = 2) ∨ (i = .writeFrames t bus ∧ n = 3) ∨ (i = .repeat t bus ∧ n = 4) ∨ (i = .zwrite t bus ∧ n = 5) ∨ (i = .crc t bus ∧ n = 6) ∨ (i = .startup t bus ∧ n = 7) ∨ (i = .fwload t bus ∧ n = 8) ∨ (i = .seal t bus ∧ n = 10) ∨ (i = .nop t bus ∧ n = 0)) →
    u.portTakes 2 = true →
    (u.reg O.CFG_CFG_MODE = 0) →
    (bus = [⟨false, e⟩]) →
    (u.cfg.nibs.length < 7) →
    (u.cfg.loader.left = 0 ∨ u.cfg.loader.cmd = n) →
    exec i s = .next (u.setCfg { u.cfg with nibs := e.toNat % 16 :: u.cfg.nibs })) ∧
  (∀ (s u : State) (t n : Nat) (bus : List PortEdge) (i : Instr) (e : BitVec 32) (w : Nat), u = s.tickTo t →
    ((i = .header t bus ∧ (n = 1 ∨ n = 9 ∨ 10 < n)) ∨ (i = .locate t bus ∧ n = 2) ∨ (i = .writeFrames t bus ∧ n = 3) ∨ (i = .repeat t bus ∧ n = 4) ∨ (i = .zwrite t bus ∧ n = 5) ∨ (i = .crc t bus ∧ n = 6) ∨ (i = .startup t bus ∧ n = 7) ∨ (i = .fwload t bus ∧ n = 8) ∨ (i = .seal t bus ∧ n = 10) ∨ (i = .nop t bus ∧ n = 0)) →
    u.portTakes 2 = true →
    (u.reg O.CFG_CFG_MODE = 0) →
    (bus = [⟨false, e⟩]) →
    (u.cfg.nibs.length = 7) →
    (w = nibWord (e.toNat % 16 :: u.cfg.nibs)) →
    ((if u.cfg.loader.left = 0 then w / 2 ^ 24 else u.cfg.loader.cmd) = n) →
    exec i s = .next ((u.setCfg { u.cfg with nibs := [] }).portWord w)) ∧
  (∀ (s u : State) (t : Nat), u = s.tickTo t →
    u.reg O.CFG_CFG_MODE = 1 →
    u.portTakes 2 = true →
    u.cfg.loader.left = 0 →
    u.cfg.loader.sealed = false →
    u.cfg.loader.header = true →
    exec (.nop t [⟨false, 0⟩]) s = .next (u.setCfg { u.cfg with loader := { u.cfg.loader with words := u.cfg.loader.words + 1, crc := (leBytes 4 (0)).foldl crc32Byte u.cfg.loader.crc, cmd := 0, count := 0, left := 0, buf := [], afterCrc := false } })) ∧
  (∀ (s u : State) (t : Nat) (l : BitVec 32), u = s.tickTo t →
    u.reg O.CFG_CFG_MODE = 1 →
    u.portTakes 2 = true →
    u.cfg.loader.left = 0 →
    u.cfg.loader.sealed = false →
    u.cfg.loader.header = true →
    exec (.locate t [⟨false, 0x02000001⟩, ⟨false, l⟩]) s = .next (u.setCfg { u.cfg with loader := { u.cfg.loader with words := u.cfg.loader.words + 2, crc := (leBytes 4 l.toNat).foldl crc32Byte ((leBytes 4 (0x02000001)).foldl crc32Byte u.cfg.loader.crc), cmd := 2, count := 1, left := 0, buf := [l.toNat], afterCrc := false, loc := some l.toNat } })) ∧
  (∀ (s u : State) (t : Nat) (c : BitVec 32), u = s.tickTo t →
    u.reg O.CFG_CFG_MODE = 1 →
    u.portTakes 2 = true →
    u.cfg.loader.left = 0 →
    u.cfg.loader.sealed = false →
    u.cfg.loader.header = true →
    u.cfg.loader.crc ^^^ 0xFFFFFFFF = c.toNat →
    exec (.crc t [⟨false, 0x06000001⟩, ⟨false, c⟩]) s = .next (u.setCfg { u.cfg with loader := { u.cfg.loader with words := u.cfg.loader.words + 2, crc := 0xFFFFFFFF, cmd := 6, count := 1, left := 0, buf := [], afterCrc := true } })) ∧
  (∀ (s u : State) (t : Nat) (c : BitVec 32), u = s.tickTo t →
    u.reg O.CFG_CFG_MODE = 1 →
    u.portTakes 2 = true →
    u.cfg.loader.left = 0 →
    u.cfg.loader.sealed = false →
    u.cfg.loader.header = true →
    u.cfg.loader.crc ^^^ 0xFFFFFFFF ≠ c.toNat →
    exec (.crc t [⟨false, 0x06000001⟩, ⟨false, c⟩]) s = .next ((u.setCfg { u.cfg with loader := { u.cfg.loader with words := u.cfg.loader.words + 1, cmd := 6, count := 1, left := 1, buf := [], afterCrc := false } }).fullError 6 u.cfg.loader.addr (u.cfg.loader.words + 2))) ∧
  (∀ (s u : State) (t : Nat) (b c d : BitVec 32), u = s.tickTo t →
    u.reg O.CFG_CFG_MODE = 1 →
    u.portTakes 2 = true →
    u.cfg.loader.left = 0 →
    u.cfg.loader.sealed = false →
    u.cfg.loader.header = false →
    c.toNat + d.toNat * 2 ^ 32 = 0 ∨ c.toNat + d.toNat * 2 ^ 32 = u.reg O.ID_SERIAL →
    exec (.header t [⟨false, 0x01000004⟩, ⟨false, 0x000100FF⟩, ⟨false, b⟩, ⟨false, c⟩, ⟨false, d⟩]) s = .next (u.setCfg { u.cfg with loader := { u.cfg.loader with words := u.cfg.loader.words + 5, crc := (leBytes 4 (d.toNat)).foldl crc32Byte ((leBytes 4 (c.toNat)).foldl crc32Byte ((leBytes 4 (b.toNat)).foldl crc32Byte ((leBytes 4 (0x000100FF)).foldl crc32Byte ((leBytes 4 (0x01000004)).foldl crc32Byte (u.cfg.loader.crc))))), cmd := 1, count := 4, left := 0, buf := [d.toNat, c.toNat, b.toNat, 0x000100FF], afterCrc := false, header := true, id := b.toNat } })) ∧
  (∀ (s u : State) (t : Nat), u = s.tickTo t →
    u.reg O.CFG_CFG_MODE = 1 →
    u.portTakes 2 = true →
    u.cfg.loader.left = 0 →
    u.cfg.loader.sealed = false →
    u.cfg.loader.header = true →
    u.cfg.loader.afterCrc = true →
    (match u.cfg.loader.startup with | some l => (stepArgs l 7).any (fun m => decide (m &&& (3 - u.cfg.loader.firmware) ≠ 0)) | none => u.cfg.loader.firmware == 0) = false →
    exec (.seal t [⟨false, 0x0A000000⟩]) s = .next (u.sealFull { u.cfg.loader with words := u.cfg.loader.words + 1, crc := (leBytes 4 (0x0A000000)).foldl crc32Byte u.cfg.loader.crc, cmd := 10, count := 0, left := 0, buf := [], afterCrc := false, sealed := true })) ∧
  (∀ (s u : State) (t : Nat) (d : Loader) (w : State), u = s.tickTo t →
    w = (List.range 28).foldl (fun (s : State) r => s.setRef r (s.planeCrc r)) u →
    u.cfg.loader = d →
    u.reg O.CFG_CFG_MODE = 1 →
    u.portTakes 2 = true →
    d.left = 0 →
    d.sealed = false →
    d.header = true →
    d.afterCrc = true →
    d.startup = none →
    d.firmware ≠ 0 →
    ∃ y, exec (.seal t [⟨false, 0x0A000000⟩]) s = .next y ∧ y.cfg.loader.sealed = true ∧ y.reg O.CFG_CFG_STATE = 3 ∧ y.reg O.CFG_STATIC_ID = d.id ∧ y.cfg.doutLow = true ∧ y.cfg.program = startupDefault d.firmware ∧ y.cfg.step = 0 ∧ y.cfg.stepAt = w.now ∧ y.refs = w.refs) ∧
  (∀ (s u : State) (t : Nat), u = s.tickTo t →
    u.reg O.CFG_CFG_STATE = 0 →
    u.cfg.errLow = true →
    exec (.configClearDone t) s = .next ((u.clearConfig.setReg O.CFG_CFG_STATE 1).setCfg { u.cfg with loader := {}, nibs := [], initLow := false })) ∧
  (∀ (s u : State) (t : Nat) (p : Fin 24), u = s.tickTo t →
    exec (.shadowClearDone t p) s = .next (u.setPad p.val { u.pad p.val with clearing := false })) ∧
  (∀ (s u : State) (t : Nat) (r : Requester) (p : Fin 24), u = s.tickTo t →
    u.writable r (O.PAD_SHADOW_DISCARD p.val) 1 = true →
    u.sched .swap p.val = none →
    u.reg (O.PAD_SHADOW_STATE p.val) = 2 →
    exec (.shadowDiscard t r p true) s = .next ((u.dropShadow p.val).okays r (O.PAD_SHADOW_DISCARD p.val))) ∧
  (∀ (s u : State) (t : Nat) (r : Requester) (at_ : Nat), u = s.tickTo t →
    u.writable r O.AUD_AUDIT_START 1 = true →
    u.hostAudit = none →
    at_ = (match u.autoAudit with | some a => max u.now (a.start + auditUnits a.region) | none => u.now) →
    exec (.auditStart t r true) s = .next ((({ u with hostAudit := some ⟨u.reg O.AUD_AUDIT_REGION, at_⟩ }).setReg O.AUD_AUDIT_STATE 1).okays r O.AUD_AUDIT_START)) ∧
  (∀ (s u : State) (t : Nat) (changed : Option (BitVec 32)) (a : Audit) (crc : Nat), u = s.tickTo t →
    u.autoAudit = some a →
    a.start + auditUnits a.region ≤ u.now →
    crc = (match changed with | some c => c.toNat | none => u.planeCrc a.region) →
    exec (.auditComplete t changed) s = .next (({ u with autoAudit := none }.auditEnd a.region crc).setReg O.AUD_AUDIT_STATE (b2n u.hostAudit.isSome))) ∧
  (∀ (s u : State) (t : Nat) (changed : Option (BitVec 32)) (a : Audit) (crc : Nat) (w : State), u = s.tickTo t →
    u.autoAudit = none →
    u.hostAudit = some a →
    a.start + auditUnits a.region ≤ u.now →
    crc = (match changed with | some c => c.toNat | none => u.planeCrc a.region) →
    w = { u with hostAudit := none }.auditEnd a.region crc →
    exec (.auditComplete t changed) s = .next (((w.setReg O.AUD_AUDIT_STATE 0).setReg O.AUD_AUDIT_STATUS Status.okay.code).setReg O.AUD_AUDIT_CRC crc)) ∧
  (∀ (s u : State) (t : Nat), u = s.tickTo t →
    u.reg O.AUD_AUTO_PERIOD ≠ 0 →
    u.autoAt + u.reg O.AUD_AUTO_PERIOD * Config.msUnits ≤ u.now →
    u.hostAudit = none →
    u.autoAudit = none →
    exec (.autoAudit t) s = .next (({ u with autoAudit := some ⟨u.autoNext, u.now⟩, autoNext := (u.autoNext + 1) % 28, autoAt := u.now }).setReg O.AUD_AUDIT_STATE 2))

/-- Every engine instruction completes: it issues, waits, stalls, halts or is illegal as its engine finds it. Safety.State.comes lists
the commands of an engine with the opcode each stands for, so a command i quantified over it is every sequence and DSP row. For an
engine in no gang whose turn it is in this word clock, the clauses give the next state of every such command: the issue of the
instruction, the wait of WAITTT and WAITC, SCRLD's Feed accesses, the claim of HCLAIM, and the cases in which it stalls, is
illegal, meets an uncorrectable word or is halted by a comparator. Each answer is the state written out; nothing else changes.
That a row says that the engine comes to the instruction at its PC rests on log entry 61. Rests on R139, R140, R141, R145, R161,
R162, R202, R435, Tables 5.4 and 6.2. -/
def Obligations.EngineInstructionsComplete : Prop :=
  (∀ (s u f g : State) (t : Nat) (e : Fin 512) (i : Instr) (d : State),
    u = s.tickTo t → f.comes t e i → u.turnOf e.val f g → (g.stalls e.val u.wc).any = false → g.noHalt e.val u.wc →
    (g.engine e.val).wait = none →
    g.readsBad e.val = none →
    d = g.engReads e.val →
    d.illegalCause e.val u.wc = none ∨ (g.engine e.val).fresh = false →
    iOp (g.insn e.val) ≠ 0x07 →
    iOp (g.insn e.val) ≠ 0x08 →
    iOp (g.insn e.val) ≠ 0x0B →
    iOp (g.insn e.val) ≠ 0x0C →
    exec i s = .next (d.issue e.val u.wc false none)) ∧
  (∀ (s u f g : State) (t : Nat) (e : Fin 512) (i : Instr) (d : State) (c : Nat),
    u = s.tickTo t → f.comes t e i → u.turnOf e.val f g → (g.stalls e.val u.wc).any = false → g.noHalt e.val u.wc →
    (g.engine e.val).wait = none →
    g.readsBad e.val = none →
    d = g.engReads e.val →
    (g.engine e.val).fresh = true →
    d.illegalCause e.val u.wc = some c →
    exec i s = .next (d.illegal e.val u.wc c (d.eventAt e.val u.wc))) ∧
  (∀ (s u f g : State) (t : Nat) (e : Fin 512) (i : Instr) (b : Nat),
    u = s.tickTo t → f.comes t e i → u.turnOf e.val f g → (g.stalls e.val u.wc).any = false → g.noHalt e.val u.wc →
    (g.engine e.val).wait = none →
    g.readsBad e.val = some b →
    exec i s = .next ((g.sramBad b).stopEngine e.val u.wc (g.eventAt e.val u.wc))) ∧
  (∀ (s u f g : State) (t : Nat) (e : Fin 512) (i : Instr) (d : State) (n : Nat),
    u = s.tickTo t → f.comes t e i → u.turnOf e.val f g → (g.stalls e.val u.wc).any = false → g.noHalt e.val u.wc →
    (g.engine e.val).wait = none →
    g.readsBad e.val = none →
    d = g.engReads e.val →
    d.illegalCause e.val u.wc = none ∨ (g.engine e.val).fresh = false →
    iOp (g.insn e.val) = 0x07 →
    n = d.beginsWait e.val (g.insn e.val) u.wc →
    0 < n →
    exec i s = .next (d.waitClock e.val u.wc (u.wc + n) true)) ∧
  (∀ (s u f g : State) (t : Nat) (e : Fin 512) (i : Instr) (d : State),
    u = s.tickTo t → f.comes t e i → u.turnOf e.val f g → (g.stalls e.val u.wc).any = false → g.noHalt e.val u.wc →
    (g.engine e.val).wait = none →
    g.readsBad e.val = none →
    d = g.engReads e.val →
    d.illegalCause e.val u.wc = none ∨ (g.engine e.val).fresh = false →
    iOp (g.insn e.val) = 0x07 →
    d.beginsWait e.val (g.insn e.val) u.wc = 0 →
    exec i s = .next (d.issue e.val u.wc true none)) ∧
  (∀ (s u f g : State) (t : Nat) (e : Fin 512) (i : Instr) (d : State) (n : Nat),
    u = s.tickTo t → f.comes t e i → u.turnOf e.val f g → (g.stalls e.val u.wc).any = false → g.noHalt e.val u.wc →
    (g.engine e.val).wait = none →
    g.readsBad e.val = none →
    d = g.engReads e.val →
    d.illegalCause e.val u.wc = none ∨ (g.engine e.val).fresh = false →
    iOp (g.insn e.val) = 0x08 →
    n = d.beginsWait e.val (g.insn e.val) u.wc →
    0 < n →
    exec i s = .next (d.waitClock e.val u.wc (u.wc + n) false)) ∧
  (∀ (s u f g : State) (t : Nat) (e : Fin 512) (i : Instr) (d : State),
    u = s.tickTo t → f.comes t e i → u.turnOf e.val f g → (g.stalls e.val u.wc).any = false → g.noHalt e.val u.wc →
    (g.engine e.val).wait = none →
    g.readsBad e.val = none →
    d = g.engReads e.val →
    d.illegalCause e.val u.wc = none ∨ (g.engine e.val).fresh = false →
    iOp (g.insn e.val) = 0x08 →
    d.beginsWait e.val (g.insn e.val) u.wc = 0 →
    exec i s = .next (d.issue e.val u.wc false none)) ∧
  (∀ (s u f g : State) (t : Nat) (e : Fin 512) (i : Instr) (due : Nat),
    u = s.tickTo t → f.comes t e i → u.turnOf e.val f g → (g.stalls e.val u.wc).any = false → g.noHalt e.val u.wc →
    (g.engine e.val).wait = some due →
    u.wc < due →
    exec i s = .next (g.waitClock e.val u.wc due (g.engine e.val).waitTt)) ∧
  (∀ (s u f g : State) (t : Nat) (e : Fin 512) (i : Instr) (due : Nat),
    u = s.tickTo t → f.comes t e i → u.turnOf e.val f g → (g.stalls e.val u.wc).any = false → g.noHalt e.val u.wc →
    (g.engine e.val).wait = some due →
    due ≤ u.wc →
    (g.engine e.val).waitTt = true →
    exec i s = .next (g.issue e.val u.wc (g.engine e.val).waitLate none)) ∧
  (∀ (s u f g : State) (t : Nat) (e : Fin 512) (i : Instr) (due : Nat),
    u = s.tickTo t → f.comes t e i → u.turnOf e.val f g → (g.stalls e.val u.wc).any = false → g.noHalt e.val u.wc →
    (g.engine e.val).wait = some due →
    due ≤ u.wc →
    (g.engine e.val).waitTt = false →
    exec i s = .next (g.issue e.val u.wc false none)) ∧
  (∀ (s u f g : State) (t : Nat) (e : Fin 512) (i : Instr) (d : State) (b : List Byte),
    u = s.tickTo t → f.comes t e i → u.turnOf e.val f g → (g.stalls e.val u.wc).any = false → g.noHalt e.val u.wc →
    (g.engine e.val).wait = none →
    g.readsBad e.val = none →
    d = g.engReads e.val →
    d.illegalCause e.val u.wc = none ∨ (g.engine e.val).fresh = false →
    iOp (g.insn e.val) = 0x0B →
    (d.engine e.val).scrDone < 31 →
    b = (d.engine e.val).scrBytes ++ d.feedRead (e.val / 32) (d.eG e.val (iD (d.insn e.val)) + 16 * (d.engine e.val).scrDone) 16 →
    exec i s = .next (d.setEngine e.val { d.engine e.val with scrDone := (d.engine e.val).scrDone + 1, scrBytes := b, free := u.wc + 1 })) ∧
  (∀ (s u f g : State) (t : Nat) (e : Fin 512) (i : Instr) (d : State) (b : List Byte),
    u = s.tickTo t → f.comes t e i → u.turnOf e.val f g → (g.stalls e.val u.wc).any = false → g.noHalt e.val u.wc →
    (g.engine e.val).wait = none →
    g.readsBad e.val = none →
    d = g.engReads e.val →
    d.illegalCause e.val u.wc = none ∨ (g.engine e.val).fresh = false →
    iOp (g.insn e.val) = 0x0B →
    (d.engine e.val).scrDone = 31 →
    b = (d.engine e.val).scrBytes ++ d.feedRead (e.val / 32) (d.eG e.val (iD (d.insn e.val)) + 16 * (d.engine e.val).scrDone) 16 →
    fieldLE b 0 4 = 0x53435242 →
    exec i s = .next ((d.setEngine e.val { d.engine e.val with scrBytes := b }).issue e.val u.wc false none)) ∧
  (∀ (s u f g : State) (t : Nat) (e : Fin 512) (i : Instr) (d : State) (b : List Byte),
    u = s.tickTo t → f.comes t e i → u.turnOf e.val f g → (g.stalls e.val u.wc).any = false → g.noHalt e.val u.wc →
    (g.engine e.val).wait = none →
    g.readsBad e.val = none →
    d = g.engReads e.val →
    d.illegalCause e.val u.wc = none ∨ (g.engine e.val).fresh = false →
    iOp (g.insn e.val) = 0x0B →
    (d.engine e.val).scrDone = 31 →
    b = (d.engine e.val).scrBytes ++ d.feedRead (e.val / 32) (d.eG e.val (iD (d.insn e.val)) + 16 * (d.engine e.val).scrDone) 16 →
    fieldLE b 0 4 ≠ 0x53435242 →
    exec i s = .next (d.illegal e.val u.wc 17 (d.eventAt e.val u.wc))) ∧
  (∀ (s u f g : State) (t : Nat) (e : Fin 512) (i : Instr) (d : State),
    u = s.tickTo t → f.comes t e i → u.turnOf e.val f g → (g.stalls e.val u.wc).any = false → g.noHalt e.val u.wc →
    (g.engine e.val).wait = none →
    g.readsBad e.val = none →
    d = g.engReads e.val →
    d.illegalCause e.val u.wc = none ∨ (g.engine e.val).fresh = false →
    iOp (g.insn e.val) = 0x0C →
    exec i s = .next (d.issueClaim e.val u.wc)) ∧
  (∀ (s u f g : State) (t : Nat) (e : Fin 512) (i : Instr),
    u = s.tickTo t → f.comes t e i → u.turnOf e.val f g →
    (g.stalls e.val u.wc).any = true →
    exec i s = .next (g.stallEngine e.val u.wc (g.stalls e.val u.wc))) ∧
  (∀ (s u f g : State) (t : Nat) (e : Fin 512) (i : Instr) (k : Nat) (x : State),
    u = s.tickTo t → f.comes t e i → u.turnOf e.val f g →
    (g.stalls e.val u.wc).any = false →
    (g.engine e.val).fresh = true →
    g.illegalCause e.val u.wc = none →
    g.haltingComp e.val = some k →
    x = [0, 1].foldl (fun (s : State) k => if s.compMatches e.val k && s.compAction e.val k == 0 then s.countMatch e.val k else s) g →
    exec i s = .next (x.haltGang e.val u.wc [(e.val, 2 + k)])) ∧
  (∀ (s u f x g : State) (t : Nat) (e : Fin 512) (c : Claim) (granted : Bool) (w : Nat), u = s.tickTo t → f = u.haltPump.dspPump e.val u.wc →
    f.engineReady e.val u.wc = true → ((f.engine e.val).dsStall = 0 ∨ u.wc < (f.engine e.val).dsStall) → hasOp e.val 0x0C f = true →
    f.reg (O.ENG_GANG e.val) = 0 → x = f.countClaimStall e.val f.wc → x.reg (O.ENG_GANG e.val) = 0 → g = x.feedTurn (e.val / 32) u.wc →
    g.reg (O.ENG_GANG e.val) = 0 → (g.engine e.val).free ≤ u.wc → (g.engine e.val).claim = some c → c.decided = some (granted, w) →
    (g.stalls e.val u.wc).any = false →
    exec (.hclaim t e) s = .next (g.issue e.val u.wc false (some granted)))

/-- The commands around engines complete: refresh, starts, stops, program loads, claims, Feed schedules and DSP state. Each clause
names a command and conditions on the operands and on u alone, u being the state with its clock at the command's instant t. For
every state and all operands that meet them, exec of the command answers a next state, and it is the one written out from u: what
it does not name stays as it was in u. They cover REFRESH_TIMER, ENGINE_START, STOP_REQ, PROGRAM_LOAD, LOAD_COMPLETE, FAILED_MARK,
CLAIM_DECISION, FEED_SCHED_COMMIT, STEP_RESULT and DSP_STATE_COMMIT. LOAD_COMPLETE and STOP_REQ rest on log entry 74. Rests on
R158, R164, R165, R166, R169, R180, R189, R205. -/
def Obligations.EngineControlCommandsComplete : Prop :=
  (∀ (s u : State) (t : Nat) (e : Fin 512) (n m : Nat) (w : State), u = s.tickTo t →
    u.refreshDue e.val = true →
    n = u.reg (O.ENG_REF_PENDING e.val) →
    m = u.reg (O.ENG_REF_MAXDEFER e.val) →
    w = (u.setEngine e.val { u.engine e.val with refBase := (u.engine e.val).refBase + u.reg (O.ENG_RFI e.val) }).setReg (O.ENG_REF_PENDING e.val) (min 15 (n + 1)) →
    n ≤ m →
    m < min 15 (n + 1) →
    exec (.refreshTimer t e) s = .next ((w.setFlag (O.ENG_REF_LATE e.val) 0 (O.ENG_REF_LATE_COUNT e.val) 1).eventRecord e.val 3 (w.eventAt e.val w.wc))) ∧
  (∀ (s u : State) (t : Nat) (e : Fin 512) (n m : Nat) (w : State), u = s.tickTo t →
    u.refreshDue e.val = true →
    n = u.reg (O.ENG_REF_PENDING e.val) →
    m = u.reg (O.ENG_REF_MAXDEFER e.val) →
    w = (u.setEngine e.val { u.engine e.val with refBase := (u.engine e.val).refBase + u.reg (O.ENG_RFI e.val) }).setReg (O.ENG_REF_PENDING e.val) (min 15 (n + 1)) →
    ¬ (n ≤ m ∧ m < min 15 (n + 1)) →
    exec (.refreshTimer t e) s = .next (w)) ∧
  (∀ (s u : State) (t : Nat) (e : Fin 512) (a : Sched), u = s.tickTo t →
    u.sched .start e.val = some a →
    u.due .start e.val a = true →
    u.reg (O.ENG_STATE e.val) = 3 →
    exec (.engineStart t e) s = .next ((u.endAction .start e.val 1).startEngine e.val (u.effectAt .start e.val a / Config.wordUnits))) ∧
  (∀ (s u : State) (t : Nat) (e : Fin 512) (a : Sched), u = s.tickTo t →
    u.sched .start e.val = some a →
    u.due .start e.val a = true →
    u.reg (O.ENG_STATE e.val) ≠ 3 →
    exec (.engineStart t e) s = .next (u.endAction .start e.val 2)) ∧
  (∀ (s u : State) (t : Nat) (r : Requester) (e : Fin 512) (w : State), u = s.tickTo t →
    u.writable r (O.ENG_STOP_REQ e.val) 1 = true →
    u.reg (O.ENG_STATE e.val) = 4 →
    w = u.haltPump.dspPump e.val (u.wc + 1) →
    (w.engine e.val).claim.isSome = true →
    exec (.stopReq t r e true) s = .next ((w.setEngine e.val { w.engine e.val with stopReq := true }).okays r (O.ENG_STOP_REQ e.val))) ∧
  (∀ (s u : State) (t : Nat) (r : Requester) (e : Fin 512) (w : State), u = s.tickTo t →
    u.writable r (O.ENG_STOP_REQ e.val) 1 = true →
    u.reg (O.ENG_STATE e.val) = 4 →
    w = u.haltPump.dspPump e.val (u.wc + 1) →
    (w.engine e.val).claim = none →
    (w.engine e.val).fresh = false ∨ w.illegalCause e.val (u.wc + 1) = none →
    exec (.stopReq t r e true) s = .next ((w.stopEngine e.val (u.wc + 1) (w.eventAt e.val (u.wc + 1))).okays r (O.ENG_STOP_REQ e.val))) ∧
  (∀ (s u : State) (t : Nat) (r : Requester) (e : Fin 512) (w : State) (c : Nat), u = s.tickTo t →
    u.writable r (O.ENG_STOP_REQ e.val) 1 = true →
    u.reg (O.ENG_STATE e.val) = 4 →
    w = u.haltPump.dspPump e.val (u.wc + 1) →
    (w.engine e.val).claim = none →
    (w.engine e.val).fresh = true →
    w.illegalCause e.val (u.wc + 1) = some c →
    exec (.stopReq t r e true) s = .next ((w.illegal e.val (u.wc + 1) c (w.eventAt e.val (u.wc + 1))).okays r (O.ENG_STOP_REQ e.val))) ∧
  (∀ (s u : State) (t : Nat) (e : Fin 512) (r : Requester) (crc : Nat) (img : List Byte) (w : State), u = s.tickTo t →
    u.commitReady r (O.ENG_PROGRAM e.val) crc img = true →
    progRefused img = false →
    (u.setXfer (O.ENG_PROGRAM e.val) none).loadProgram e.val u.wc img = (.okay, w) →
    exec (.programLoad t e (.commit r crc 0)) s = .next ((w.okays r (O.ENG_PROGRAM e.val)).settleBuffer e.val)) ∧
  (∀ (s u : State) (t : Nat) (e : Fin 512) (a : Sched) (w v : State) (st : Status), u = s.tickTo t →
    u.sched .load e.val = some a →
    u.due .load e.val a = true →
    u.marchEngine e.val = false →
    w = { u with staged := Tbl.set [] u.staged (O.ENG_PROGRAM e.val) [] } →
    w.loadProgram e.val (u.effectAt .load e.val a / Config.wordUnits) (Tbl.get [] u.staged (O.ENG_PROGRAM e.val)) = (st, v) →
    exec (.programLoad t e .effect) s = .next ((v.endAction .load e.val (if st = .okay then 1 else 2)).settleBuffer e.val)) ∧
  (∀ (s u : State) (t : Nat) (e : Fin 512), u = s.tickTo t →
    u.reg (O.ENG_STATE e.val) = 1 →
    exec (.loadComplete t e) s = .next ((((u.loadClears e.val).setReg (O.ENG_STATE e.val) 2).holdBuffer (e.val / 32) none).rewindEngine e.val)) ∧
  (∀ (s u : State) (t : Nat) (r : Requester) (e : Fin 512), u = s.tickTo t →
    u.writable r (O.ENG_FAILED_MARK e.val) 1 = true →
    exec (.failedMark t r e true) s = .next ((u.setEngine e.val { u.engine e.val with failed := true }).okays r (O.ENG_FAILED_MARK e.val))) ∧
  (∀ (s u : State) (t : Nat) (q : Fin 4) (x : State) (p : HPort) (all rest cand served : List Nat) (e : Nat) (c : Claim) (granted : Bool) (w : State), u = s.tickTo t →
    x = (List.range q.val).foldl State.portDecide u.tableDue.haltPump.disarmAll →
    p = Tbl.get ({} : HPort) x.hports q.val →
    all = x.claimants q.val x.wc →
    rest = all.filter (fun e => !(if p.last = x.wc then p.served else []).contains e) →
    (if rest = [] then (all, []) else (rest, if p.last = x.wc then p.served else [])) = (e :: cand, served) →
    (x.engine e).claim = some c →
    p.last ≠ x.wc + 1 →
    x.decideClaim e c.line c.virt c.slot (x.wc - 3 - c.issued) = (granted, w) →
    exec (.claimDecision t q) s = .next ({ w.setEngine e { w.engine e with claim := some { c with decided := some (granted, x.wc) } } with hports := Tbl.set {} w.hports q.val ⟨e :: served, x.wc + 1⟩ })) ∧
  (∀ (s u : State) (t : Nat) (q : Fin 4) (x : State), u = s.tickTo t →
    x = (List.range q.val).foldl State.portDecide u.tableDue.haltPump.disarmAll →
    x.claimants q.val x.wc = [] →
    exec (.claimDecision t q) s = .next (x)) ∧
  (∀ (s u : State) (t : Nat) (c : Fin 16) (r : Requester) (crc : Nat) (img : List Byte), u = s.tickTo t →
    u.commitReady r (O.CLU_FEED_SCHED c.val) crc img = true →
    img.length = 64 →
    img.any (fun b => decide (b.toNat > 0x20) && b != 0xFF#8) = false →
    exec (.feedSchedCommit t c (.commit r crc 0)) s = .next (((u.setXfer (O.CLU_FEED_SCHED c.val) none).swapImage (O.CLU_FEED_SCHED c.val) (u.setXfer (O.CLU_FEED_SCHED c.val) none).nextWc img).okays r (O.CLU_FEED_SCHED c.val))) ∧
  (∀ (s u : State) (t : Nat) (c : Fin 16) (a : Sched), u = s.tickTo t →
    u.sched .feed c.val = some a →
    u.due .feed c.val a = true →
    exec (.feedSchedCommit t c .effect) s = .next (({ u.endAction .feed c.val 1 with staged := Tbl.set [] u.staged (O.CLU_FEED_SCHED c.val) [] }).swapImage (O.CLU_FEED_SCHED c.val) (u.effectAt .feed c.val a / Config.wordUnits) (Tbl.get [] u.staged (O.CLU_FEED_SCHED c.val)))) ∧
  (∀ (s u : State) (t : Nat) (ch : Fin 144) (x : StepRec) (rest : List StepRec), u = s.tickTo t →
    (u.chan ch.val).steps = x :: rest →
    x.closed = true →
    (u.chan ch.val).strobes.any (fun y => y.step == x.id) = false →
    (u.retLanes ch.val).any (fun p => decide (64 ≤ ((u.dsp p.1).rf p.2).length) && u.popsNow p.1 p.2) = false →
    exec (.stepResult t ch) s = .next ((u.retLanes ch.val).foldl (fun (s : State) p => s.resDeliver p.1 p.2 ⟨x.fails, x.hits, x.valid⟩)
      (u.setChan ch.val { u.chan ch.val with steps := rest }))) ∧
  (∀ (s u : State) (t : Nat) (ch : Fin 144), u = s.tickTo t →
    (u.chan ch.val).steps = [] →
    exec (.stepResult t ch) s = .next (u)) ∧
  (∀ (s u : State) (t : Nat) (r : Requester) (crc : Nat) (img : List Byte) (e : Fin 512) (tt : Nat) (v w : State) (z : Nat), u = s.tickTo t →
    u.commitReady r (O.ENG_DSP_STATE e.val) crc img = true →
    v = u.setXfer (O.ENG_DSP_STATE e.val) none →
    v.engineSafe e.val = true →
    dspImageOk img = true →
    w = (v.dspPump e.val v.wc).setDsp e.val { (v.dspPump e.val v.wc).dsp e.val with bank := bankAt img 0, ar := (List.range 4).map (fun k => fieldInt img (64 + 4 * k) 4), br := (List.range 4).map (fun k => fieldInt img (80 + 4 * k) 4), shadow := bankAt img 120 } →
    tt = 0 →
    tt = ttImage (ttTick z) (ttFine z) →
    exec (.dspStateCommit t r e crc z) s = .next ((if byteAt img 208 = 1 then w.resFlush e.val else w).okays r (O.ENG_DSP_STATE e.val)))
end

