-- ==== Sys2Proof/Laws/State.lean ====
section
/-! SUPPORT. What each field of the state is after the updates that every family uses: an object of the dictionary written, an image
replaced, the clock moved, the front of the queue taken. -/

namespace Sys2Proof.Machine

@[simp] theorem State.setReg_pending (s : State) (o v : Nat) : (s.setReg o v).pending = s.pending := rfl
@[simp] theorem State.setReg_now (s : State) (o v : Nat) : (s.setReg o v).now = s.now := rfl
@[simp] theorem State.setReg_resetAt (s : State) (o v : Nat) : (s.setReg o v).resetAt = s.resetAt := rfl
@[simp] theorem State.setReg_porAt (s : State) (o v : Nat) : (s.setReg o v).porAt = s.porAt := rfl
@[simp] theorem State.setReg_draws (s : State) (o v : Nat) : (s.setReg o v).draws = s.draws := rfl
@[simp] theorem State.setReg_images (s : State) (o v : Nat) : (s.setReg o v).images = s.images := rfl
@[simp] theorem State.setReg_past (s : State) (o v : Nat) : (s.setReg o v).past = s.past := rfl
@[simp] theorem State.setReg_xfers (s : State) (o v : Nat) : (s.setReg o v).xfers = s.xfers := rfl
@[simp] theorem State.setReg_aliasWins (s : State) (o v : Nat) : (s.setReg o v).aliasWins = s.aliasWins := rfl
@[simp] theorem State.setReg_held (s : State) (o v : Nat) : (s.setReg o v).held = s.held := rfl
@[simp] theorem State.setReg_staged (s : State) (o v : Nat) : (s.setReg o v).staged = s.staged := rfl
@[simp] theorem State.setReg_flagCycle (s : State) (o v : Nat) : (s.setReg o v).flagCycle = s.flagCycle := rfl
@[simp] theorem State.setReg_irqs (s : State) (o v : Nat) : (s.setReg o v).irqs = s.irqs := rfl
@[simp] theorem State.setReg_reply (s : State) (o v : Nat) : (s.setReg o v).reply = s.reply := rfl
@[simp] theorem State.setReg_sent (s : State) (o v : Nat) : (s.setReg o v).sent = s.sent := rfl
@[simp] theorem State.setReg_sessions (s : State) (o v : Nat) : (s.setReg o v).sessions = s.sessions := rfl
@[simp] theorem State.setReg_streams (s : State) (o v : Nat) : (s.setReg o v).streams = s.streams := rfl
@[simp] theorem State.setReg_ctls (s : State) (o v : Nat) : (s.setReg o v).ctls = s.ctls := rfl
@[simp] theorem State.setReg_offerAt (s : State) (o v : Nat) : (s.setReg o v).offerAt = s.offerAt := rfl
@[simp] theorem State.setReg_windowAt (s : State) (o v : Nat) : (s.setReg o v).windowAt = s.windowAt := rfl
@[simp] theorem State.setReg_ttOff (s : State) (o v : Nat) : (s.setReg o v).ttOff = s.ttOff := rfl
@[simp] theorem State.setReg_marker (s : State) (o v : Nat) : (s.setReg o v).marker = s.marker := rfl
@[simp] theorem State.setReg_scheds (s : State) (o v : Nat) : (s.setReg o v).scheds = s.scheds := rfl
@[simp] theorem State.setReg_ptp (s : State) (o v : Nat) : (s.setReg o v).ptp = s.ptp := rfl
@[simp] theorem State.setReg_act (s : State) (o v : Nat) : (s.setReg o v).act = s.act := rfl
@[simp] theorem State.setReg_trigs (s : State) (o v : Nat) : (s.setReg o v).trigs = s.trigs := rfl
@[simp] theorem State.setReg_queues (s : State) (o v : Nat) : (s.setReg o v).queues = s.queues := rfl
@[simp] theorem State.setReg_qports (s : State) (o v : Nat) : (s.setReg o v).qports = s.qports := rfl
@[simp] theorem State.setReg_fcs (s : State) (o v : Nat) : (s.setReg o v).fcs = s.fcs := rfl
@[simp] theorem State.setReg_siteFails (s : State) (o v : Nat) : (s.setReg o v).siteFails = s.siteFails := rfl
@[simp] theorem State.setReg_reps (s : State) (o v : Nat) : (s.setReg o v).reps = s.reps := rfl
@[simp] theorem State.setReg_hunits (s : State) (o v : Nat) : (s.setReg o v).hunits = s.hunits := rfl
@[simp] theorem State.setReg_hlines (s : State) (o v : Nat) : (s.setReg o v).hlines = s.hlines := rfl
@[simp] theorem State.setReg_hsamples (s : State) (o v : Nat) : (s.setReg o v).hsamples = s.hsamples := rfl
@[simp] theorem State.setReg_hbits (s : State) (o v : Nat) : (s.setReg o v).hbits = s.hbits := rfl
@[simp] theorem State.setReg_hports (s : State) (o v : Nat) : (s.setReg o v).hports = s.hports := rfl
@[simp] theorem State.setReg_chans (s : State) (o v : Nat) : (s.setReg o v).chans = s.chans := rfl
@[simp] theorem State.setReg_sers (s : State) (o v : Nat) : (s.setReg o v).sers = s.sers := rfl
@[simp] theorem State.setReg_yards (s : State) (o v : Nat) : (s.setReg o v).yards = s.yards := rfl
@[simp] theorem State.setReg_wakeIn (s : State) (o v : Nat) : (s.setReg o v).wakeIn = s.wakeIn := rfl
@[simp] theorem State.setReg_clk (s : State) (o v : Nat) : (s.setReg o v).clk = s.clk := rfl
@[simp] theorem State.setReg_dbg (s : State) (o v : Nat) : (s.setReg o v).dbg = s.dbg := rfl
@[simp] theorem State.setReg_seq (s : State) (o v : Nat) : (s.setReg o v).seq = s.seq := rfl
@[simp] theorem State.setReg_resetting (s : State) (o v : Nat) : (s.setReg o v).resetting = s.resetting := rfl
@[simp] theorem State.setReg_hot (s : State) (o v : Nat) : (s.setReg o v).hot = s.hot := rfl
@[simp] theorem State.setReg_tripped (s : State) (o v : Nat) : (s.setReg o v).tripped = s.tripped := rfl
@[simp] theorem State.setReg_cfg (s : State) (o v : Nat) : (s.setReg o v).cfg = s.cfg := rfl
@[simp] theorem State.setReg_pads (s : State) (o v : Nat) : (s.setReg o v).pads = s.pads := rfl
@[simp] theorem State.setReg_live (s : State) (o v : Nat) : (s.setReg o v).live = s.live := rfl
@[simp] theorem State.setReg_shadow (s : State) (o v : Nat) : (s.setReg o v).shadow = s.shadow := rfl
@[simp] theorem State.setReg_refs (s : State) (o v : Nat) : (s.setReg o v).refs = s.refs := rfl
@[simp] theorem State.setReg_hostAudit (s : State) (o v : Nat) : (s.setReg o v).hostAudit = s.hostAudit := rfl
@[simp] theorem State.setReg_autoAudit (s : State) (o v : Nat) : (s.setReg o v).autoAudit = s.autoAudit := rfl
@[simp] theorem State.setReg_autoNext (s : State) (o v : Nat) : (s.setReg o v).autoNext = s.autoNext := rfl
@[simp] theorem State.setReg_autoAt (s : State) (o v : Nat) : (s.setReg o v).autoAt = s.autoAt := rfl
@[simp] theorem State.setReg_ffs (s : State) (o v : Nat) : (s.setReg o v).ffs = s.ffs := rfl
@[simp] theorem State.setReg_wregs (s : State) (o v : Nat) : (s.setReg o v).wregs = s.wregs := rfl
@[simp] theorem State.setReg_macs (s : State) (o v : Nat) : (s.setReg o v).macs = s.macs := rfl
@[simp] theorem State.setReg_bram (s : State) (o v : Nat) : (s.setReg o v).bram = s.bram := rfl
@[simp] theorem State.setReg_bramUpset (s : State) (o v : Nat) : (s.setReg o v).bramUpset = s.bramUpset := rfl
@[simp] theorem State.setReg_bramOut (s : State) (o v : Nat) : (s.setReg o v).bramOut = s.bramOut := rfl
@[simp] theorem State.setReg_bramRepair (s : State) (o v : Nat) : (s.setReg o v).bramRepair = s.bramRepair := rfl
@[simp] theorem State.setReg_flPorts (s : State) (o v : Nat) : (s.setReg o v).flPorts = s.flPorts := rfl
@[simp] theorem State.setReg_rxBuf (s : State) (o v : Nat) : (s.setReg o v).rxBuf = s.rxBuf := rfl
@[simp] theorem State.setReg_rxOut (s : State) (o v : Nat) : (s.setReg o v).rxOut = s.rxOut := rfl
@[simp] theorem State.setReg_ttPorts (s : State) (o v : Nat) : (s.setReg o v).ttPorts = s.ttPorts := rfl
@[simp] theorem State.setReg_ttEdge (s : State) (o v : Nat) : (s.setReg o v).ttEdge = s.ttEdge := rfl
@[simp] theorem State.setReg_gpios (s : State) (o v : Nat) : (s.setReg o v).gpios = s.gpios := rfl
@[simp] theorem State.setReg_fabAt (s : State) (o v : Nat) : (s.setReg o v).fabAt = s.fabAt := rfl
@[simp] theorem State.setReg_pulses (s : State) (o v : Nat) : (s.setReg o v).pulses = s.pulses := rfl
@[simp] theorem State.setReg_stops (s : State) (o v : Nat) : (s.setReg o v).stops = s.stops := rfl
@[simp] theorem State.setReg_netResvs (s : State) (o v : Nat) : (s.setReg o v).netResvs = s.netResvs := rfl
@[simp] theorem State.setReg_pkts (s : State) (o v : Nat) : (s.setReg o v).pkts = s.pkts := rfl
@[simp] theorem State.setReg_txns (s : State) (o v : Nat) : (s.setReg o v).txns = s.txns := rfl
@[simp] theorem State.setReg_netAt (s : State) (o v : Nat) : (s.setReg o v).netAt = s.netAt := rfl
@[simp] theorem State.setReg_engines (s : State) (o v : Nat) : (s.setReg o v).engines = s.engines := rfl
@[simp] theorem State.setReg_clusters (s : State) (o v : Nat) : (s.setReg o v).clusters = s.clusters := rfl
@[simp] theorem State.setReg_progPatch (s : State) (o v : Nat) : (s.setReg o v).progPatch = s.progPatch := rfl
@[simp] theorem State.setReg_spareMem (s : State) (o v : Nat) : (s.setReg o v).spareMem = s.spareMem := rfl
@[simp] theorem State.setReg_data (s : State) (o v : Nat) : (s.setReg o v).data = s.data := rfl
@[simp] theorem State.setReg_feed (s : State) (o v : Nat) : (s.setReg o v).feed = s.feed := rfl
@[simp] theorem State.setReg_badWords (s : State) (o v : Nat) : (s.setReg o v).badWords = s.badWords := rfl
@[simp] theorem State.setReg_upWords (s : State) (o v : Nat) : (s.setReg o v).upWords = s.upWords := rfl
@[simp] theorem State.setReg_hardBad (s : State) (o v : Nat) : (s.setReg o v).hardBad = s.hardBad := rfl
@[simp] theorem State.setReg_lostLines (s : State) (o v : Nat) : (s.setReg o v).lostLines = s.lostLines := rfl
@[simp] theorem State.setReg_mcMem (s : State) (o v : Nat) : (s.setReg o v).mcMem = s.mcMem := rfl
@[simp] theorem State.setReg_marchAt (s : State) (o v : Nat) : (s.setReg o v).marchAt = s.marchAt := rfl
@[simp] theorem State.setReg_patrol (s : State) (o v : Nat) : (s.setReg o v).patrol = s.patrol := rfl
@[simp] theorem State.setReg_dram (s : State) (o v : Nat) : (s.setReg o v).dram = s.dram := rfl
@[simp] theorem State.setReg_regionInit (s : State) (o v : Nat) : (s.setReg o v).regionInit = s.regionInit := rfl
@[simp] theorem State.setReg_reenc (s : State) (o v : Nat) : (s.setReg o v).reenc = s.reenc := rfl
@[simp] theorem State.setReg_memWait (s : State) (o v : Nat) : (s.setReg o v).memWait = s.memWait := rfl
@[simp] theorem State.setReg_walkAborting (s : State) (o v : Nat) : (s.setReg o v).walkAborting = s.walkAborting := rfl
@[simp] theorem State.setReg_dqDelay (s : State) (o v : Nat) : (s.setReg o v).dqDelay = s.dqDelay := rfl
@[simp] theorem State.setReg_retrainAt (s : State) (o v : Nat) : (s.setReg o v).retrainAt = s.retrainAt := rfl
@[simp] theorem State.setReg_zqAt (s : State) (o v : Nat) : (s.setReg o v).zqAt = s.zqAt := rfl
@[simp] theorem State.setReg_memInitAt (s : State) (o v : Nat) : (s.setReg o v).memInitAt = s.memInitAt := rfl
@[simp] theorem State.setReg_memStep1 (s : State) (o v : Nat) : (s.setReg o v).memStep1 = s.memStep1 := rfl
@[simp] theorem State.setReg_refresh (s : State) (o v : Nat) : (s.setReg o v).refresh = s.refresh := rfl
@[simp] theorem State.setReg_tagCache (s : State) (o v : Nat) : (s.setReg o v).tagCache = s.tagCache := rfl
@[simp] theorem State.setReg_grind (s : State) (o v : Nat) : (s.setReg o v).grind = s.grind := rfl
@[simp] theorem State.setReg_mcAt (s : State) (o v : Nat) : (s.setReg o v).mcAt = s.mcAt := rfl
@[simp] theorem State.setReg_traceBuf (s : State) (o v : Nat) : (s.setReg o v).traceBuf = s.traceBuf := rfl
@[simp] theorem State.setReg_traceFifo (s : State) (o v : Nat) : (s.setReg o v).traceFifo = s.traceFifo := rfl
@[simp] theorem State.setReg_traceAt (s : State) (o v : Nat) : (s.setReg o v).traceAt = s.traceAt := rfl
@[simp] theorem State.setReg_traceCount (s : State) (o v : Nat) : (s.setReg o v).traceCount = s.traceCount := rfl
@[simp] theorem State.setReg_traceLossPending (s : State) (o v : Nat) : (s.setReg o v).traceLossPending = s.traceLossPending := rfl

@[simp] theorem State.setImage_pending (s : State) (o : Nat) (b : List Byte) : (s.setImage o b).pending = s.pending := rfl
@[simp] theorem State.setImage_now (s : State) (o : Nat) (b : List Byte) : (s.setImage o b).now = s.now := rfl
@[simp] theorem State.setImage_resetAt (s : State) (o : Nat) (b : List Byte) : (s.setImage o b).resetAt = s.resetAt := rfl
@[simp] theorem State.setImage_porAt (s : State) (o : Nat) (b : List Byte) : (s.setImage o b).porAt = s.porAt := rfl
@[simp] theorem State.setImage_draws (s : State) (o : Nat) (b : List Byte) : (s.setImage o b).draws = s.draws := rfl
@[simp] theorem State.setImage_regs (s : State) (o : Nat) (b : List Byte) : (s.setImage o b).regs = s.regs := rfl
@[simp] theorem State.setImage_past (s : State) (o : Nat) (b : List Byte) : (s.setImage o b).past = s.past := rfl
@[simp] theorem State.setImage_xfers (s : State) (o : Nat) (b : List Byte) : (s.setImage o b).xfers = s.xfers := rfl
@[simp] theorem State.setImage_aliasWins (s : State) (o : Nat) (b : List Byte) : (s.setImage o b).aliasWins = s.aliasWins := rfl
@[simp] theorem State.setImage_held (s : State) (o : Nat) (b : List Byte) : (s.setImage o b).held = s.held := rfl
@[simp] theorem State.setImage_staged (s : State) (o : Nat) (b : List Byte) : (s.setImage o b).staged = s.staged := rfl
@[simp] theorem State.setImage_flagCycle (s : State) (o : Nat) (b : List Byte) : (s.setImage o b).flagCycle = s.flagCycle := rfl
@[simp] theorem State.setImage_irqs (s : State) (o : Nat) (b : List Byte) : (s.setImage o b).irqs = s.irqs := rfl
@[simp] theorem State.setImage_reply (s : State) (o : Nat) (b : List Byte) : (s.setImage o b).reply = s.reply := rfl
@[simp] theorem State.setImage_sent (s : State) (o : Nat) (b : List Byte) : (s.setImage o b).sent = s.sent := rfl
@[simp] theorem State.setImage_sessions (s : State) (o : Nat) (b : List Byte) : (s.setImage o b).sessions = s.sessions := rfl
@[simp] theorem State.setImage_streams (s : State) (o : Nat) (b : List Byte) : (s.setImage o b).streams = s.streams := rfl
@[simp] theorem State.setImage_ctls (s : State) (o : Nat) (b : List Byte) : (s.setImage o b).ctls = s.ctls := rfl
@[simp] theorem State.setImage_offerAt (s : State) (o : Nat) (b : List Byte) : (s.setImage o b).offerAt = s.offerAt := rfl
@[simp] theorem State.setImage_windowAt (s : State) (o : Nat) (b : List Byte) : (s.setImage o b).windowAt = s.windowAt := rfl
@[simp] theorem State.setImage_ttOff (s : State) (o : Nat) (b : List Byte) : (s.setImage o b).ttOff = s.ttOff := rfl
@[simp] theorem State.setImage_marker (s : State) (o : Nat) (b : List Byte) : (s.setImage o b).marker = s.marker := rfl
@[simp] theorem State.setImage_scheds (s : State) (o : Nat) (b : List Byte) : (s.setImage o b).scheds = s.scheds := rfl
@[simp] theorem State.setImage_ptp (s : State) (o : Nat) (b : List Byte) : (s.setImage o b).ptp = s.ptp := rfl
@[simp] theorem State.setImage_act (s : State) (o : Nat) (b : List Byte) : (s.setImage o b).act = s.act := rfl
@[simp] theorem State.setImage_trigs (s : State) (o : Nat) (b : List Byte) : (s.setImage o b).trigs = s.trigs := rfl
@[simp] theorem State.setImage_queues (s : State) (o : Nat) (b : List Byte) : (s.setImage o b).queues = s.queues := rfl
@[simp] theorem State.setImage_qports (s : State) (o : Nat) (b : List Byte) : (s.setImage o b).qports = s.qports := rfl
@[simp] theorem State.setImage_fcs (s : State) (o : Nat) (b : List Byte) : (s.setImage o b).fcs = s.fcs := rfl
@[simp] theorem State.setImage_siteFails (s : State) (o : Nat) (b : List Byte) : (s.setImage o b).siteFails = s.siteFails := rfl
@[simp] theorem State.setImage_reps (s : State) (o : Nat) (b : List Byte) : (s.setImage o b).reps = s.reps := rfl
@[simp] theorem State.setImage_hunits (s : State) (o : Nat) (b : List Byte) : (s.setImage o b).hunits = s.hunits := rfl
@[simp] theorem State.setImage_hlines (s : State) (o : Nat) (b : List Byte) : (s.setImage o b).hlines = s.hlines := rfl
@[simp] theorem State.setImage_hsamples (s : State) (o : Nat) (b : List Byte) : (s.setImage o b).hsamples = s.hsamples := rfl
@[simp] theorem State.setImage_hbits (s : State) (o : Nat) (b : List Byte) : (s.setImage o b).hbits = s.hbits := rfl
@[simp] theorem State.setImage_hports (s : State) (o : Nat) (b : List Byte) : (s.setImage o b).hports = s.hports := rfl
@[simp] theorem State.setImage_chans (s : State) (o : Nat) (b : List Byte) : (s.setImage o b).chans = s.chans := rfl
@[simp] theorem State.setImage_sers (s : State) (o : Nat) (b : List Byte) : (s.setImage o b).sers = s.sers := rfl
@[simp] theorem State.setImage_yards (s : State) (o : Nat) (b : List Byte) : (s.setImage o b).yards = s.yards := rfl
@[simp] theorem State.setImage_wakeIn (s : State) (o : Nat) (b : List Byte) : (s.setImage o b).wakeIn = s.wakeIn := rfl
@[simp] theorem State.setImage_clk (s : State) (o : Nat) (b : List Byte) : (s.setImage o b).clk = s.clk := rfl
@[simp] theorem State.setImage_dbg (s : State) (o : Nat) (b : List Byte) : (s.setImage o b).dbg = s.dbg := rfl
@[simp] theorem State.setImage_seq (s : State) (o : Nat) (b : List Byte) : (s.setImage o b).seq = s.seq := rfl
@[simp] theorem State.setImage_resetting (s : State) (o : Nat) (b : List Byte) : (s.setImage o b).resetting = s.resetting := rfl
@[simp] theorem State.setImage_hot (s : State) (o : Nat) (b : List Byte) : (s.setImage o b).hot = s.hot := rfl
@[simp] theorem State.setImage_tripped (s : State) (o : Nat) (b : List Byte) : (s.setImage o b).tripped = s.tripped := rfl
@[simp] theorem State.setImage_cfg (s : State) (o : Nat) (b : List Byte) : (s.setImage o b).cfg = s.cfg := rfl
@[simp] theorem State.setImage_pads (s : State) (o : Nat) (b : List Byte) : (s.setImage o b).pads = s.pads := rfl
@[simp] theorem State.setImage_live (s : State) (o : Nat) (b : List Byte) : (s.setImage o b).live = s.live := rfl
@[simp] theorem State.setImage_shadow (s : State) (o : Nat) (b : List Byte) : (s.setImage o b).shadow = s.shadow := rfl
@[simp] theorem State.setImage_refs (s : State) (o : Nat) (b : List Byte) : (s.setImage o b).refs = s.refs := rfl
@[simp] theorem State.setImage_hostAudit (s : State) (o : Nat) (b : List Byte) : (s.setImage o b).hostAudit = s.hostAudit := rfl
@[simp] theorem State.setImage_autoAudit (s : State) (o : Nat) (b : List Byte) : (s.setImage o b).autoAudit = s.autoAudit := rfl
@[simp] theorem State.setImage_autoNext (s : State) (o : Nat) (b : List Byte) : (s.setImage o b).autoNext = s.autoNext := rfl
@[simp] theorem State.setImage_autoAt (s : State) (o : Nat) (b : List Byte) : (s.setImage o b).autoAt = s.autoAt := rfl
@[simp] theorem State.setImage_ffs (s : State) (o : Nat) (b : List Byte) : (s.setImage o b).ffs = s.ffs := rfl
@[simp] theorem State.setImage_wregs (s : State) (o : Nat) (b : List Byte) : (s.setImage o b).wregs = s.wregs := rfl
@[simp] theorem State.setImage_macs (s : State) (o : Nat) (b : List Byte) : (s.setImage o b).macs = s.macs := rfl
@[simp] theorem State.setImage_bram (s : State) (o : Nat) (b : List Byte) : (s.setImage o b).bram = s.bram := rfl
@[simp] theorem State.setImage_bramUpset (s : State) (o : Nat) (b : List Byte) : (s.setImage o b).bramUpset = s.bramUpset := rfl
@[simp] theorem State.setImage_bramOut (s : State) (o : Nat) (b : List Byte) : (s.setImage o b).bramOut = s.bramOut := rfl
@[simp] theorem State.setImage_bramRepair (s : State) (o : Nat) (b : List Byte) : (s.setImage o b).bramRepair = s.bramRepair := rfl
@[simp] theorem State.setImage_flPorts (s : State) (o : Nat) (b : List Byte) : (s.setImage o b).flPorts = s.flPorts := rfl
@[simp] theorem State.setImage_rxBuf (s : State) (o : Nat) (b : List Byte) : (s.setImage o b).rxBuf = s.rxBuf := rfl
@[simp] theorem State.setImage_rxOut (s : State) (o : Nat) (b : List Byte) : (s.setImage o b).rxOut = s.rxOut := rfl
@[simp] theorem State.setImage_ttPorts (s : State) (o : Nat) (b : List Byte) : (s.setImage o b).ttPorts = s.ttPorts := rfl
@[simp] theorem State.setImage_ttEdge (s : State) (o : Nat) (b : List Byte) : (s.setImage o b).ttEdge = s.ttEdge := rfl
@[simp] theorem State.setImage_gpios (s : State) (o : Nat) (b : List Byte) : (s.setImage o b).gpios = s.gpios := rfl
@[simp] theorem State.setImage_fabAt (s : State) (o : Nat) (b : List Byte) : (s.setImage o b).fabAt = s.fabAt := rfl
@[simp] theorem State.setImage_pulses (s : State) (o : Nat) (b : List Byte) : (s.setImage o b).pulses = s.pulses := rfl
@[simp] theorem State.setImage_stops (s : State) (o : Nat) (b : List Byte) : (s.setImage o b).stops = s.stops := rfl
@[simp] theorem State.setImage_netResvs (s : State) (o : Nat) (b : List Byte) : (s.setImage o b).netResvs = s.netResvs := rfl
@[simp] theorem State.setImage_pkts (s : State) (o : Nat) (b : List Byte) : (s.setImage o b).pkts = s.pkts := rfl
@[simp] theorem State.setImage_txns (s : State) (o : Nat) (b : List Byte) : (s.setImage o b).txns = s.txns := rfl
@[simp] theorem State.setImage_netAt (s : State) (o : Nat) (b : List Byte) : (s.setImage o b).netAt = s.netAt := rfl
@[simp] theorem State.setImage_engines (s : State) (o : Nat) (b : List Byte) : (s.setImage o b).engines = s.engines := rfl
@[simp] theorem State.setImage_clusters (s : State) (o : Nat) (b : List Byte) : (s.setImage o b).clusters = s.clusters := rfl
@[simp] theorem State.setImage_progPatch (s : State) (o : Nat) (b : List Byte) : (s.setImage o b).progPatch = s.progPatch := rfl
@[simp] theorem State.setImage_spareMem (s : State) (o : Nat) (b : List Byte) : (s.setImage o b).spareMem = s.spareMem := rfl
@[simp] theorem State.setImage_data (s : State) (o : Nat) (b : List Byte) : (s.setImage o b).data = s.data := rfl
@[simp] theorem State.setImage_feed (s : State) (o : Nat) (b : List Byte) : (s.setImage o b).feed = s.feed := rfl
@[simp] theorem State.setImage_badWords (s : State) (o : Nat) (b : List Byte) : (s.setImage o b).badWords = s.badWords := rfl
@[simp] theorem State.setImage_upWords (s : State) (o : Nat) (b : List Byte) : (s.setImage o b).upWords = s.upWords := rfl
@[simp] theorem State.setImage_hardBad (s : State) (o : Nat) (b : List Byte) : (s.setImage o b).hardBad = s.hardBad := rfl
@[simp] theorem State.setImage_lostLines (s : State) (o : Nat) (b : List Byte) : (s.setImage o b).lostLines = s.lostLines := rfl
@[simp] theorem State.setImage_mcMem (s : State) (o : Nat) (b : List Byte) : (s.setImage o b).mcMem = s.mcMem := rfl
@[simp] theorem State.setImage_marchAt (s : State) (o : Nat) (b : List Byte) : (s.setImage o b).marchAt = s.marchAt := rfl
@[simp] theorem State.setImage_patrol (s : State) (o : Nat) (b : List Byte) : (s.setImage o b).patrol = s.patrol := rfl
@[simp] theorem State.setImage_dram (s : State) (o : Nat) (b : List Byte) : (s.setImage o b).dram = s.dram := rfl
@[simp] theorem State.setImage_regionInit (s : State) (o : Nat) (b : List Byte) : (s.setImage o b).regionInit = s.regionInit := rfl
@[simp] theorem State.setImage_reenc (s : State) (o : Nat) (b : List Byte) : (s.setImage o b).reenc = s.reenc := rfl
@[simp] theorem State.setImage_memWait (s : State) (o : Nat) (b : List Byte) : (s.setImage o b).memWait = s.memWait := rfl
@[simp] theorem State.setImage_walkAborting (s : State) (o : Nat) (b : List Byte) : (s.setImage o b).walkAborting = s.walkAborting := rfl
@[simp] theorem State.setImage_dqDelay (s : State) (o : Nat) (b : List Byte) : (s.setImage o b).dqDelay = s.dqDelay := rfl
@[simp] theorem State.setImage_retrainAt (s : State) (o : Nat) (b : List Byte) : (s.setImage o b).retrainAt = s.retrainAt := rfl
@[simp] theorem State.setImage_zqAt (s : State) (o : Nat) (b : List Byte) : (s.setImage o b).zqAt = s.zqAt := rfl
@[simp] theorem State.setImage_memInitAt (s : State) (o : Nat) (b : List Byte) : (s.setImage o b).memInitAt = s.memInitAt := rfl
@[simp] theorem State.setImage_memStep1 (s : State) (o : Nat) (b : List Byte) : (s.setImage o b).memStep1 = s.memStep1 := rfl
@[simp] theorem State.setImage_refresh (s : State) (o : Nat) (b : List Byte) : (s.setImage o b).refresh = s.refresh := rfl
@[simp] theorem State.setImage_tagCache (s : State) (o : Nat) (b : List Byte) : (s.setImage o b).tagCache = s.tagCache := rfl
@[simp] theorem State.setImage_grind (s : State) (o : Nat) (b : List Byte) : (s.setImage o b).grind = s.grind := rfl
@[simp] theorem State.setImage_mcAt (s : State) (o : Nat) (b : List Byte) : (s.setImage o b).mcAt = s.mcAt := rfl
@[simp] theorem State.setImage_traceBuf (s : State) (o : Nat) (b : List Byte) : (s.setImage o b).traceBuf = s.traceBuf := rfl
@[simp] theorem State.setImage_traceFifo (s : State) (o : Nat) (b : List Byte) : (s.setImage o b).traceFifo = s.traceFifo := rfl
@[simp] theorem State.setImage_traceAt (s : State) (o : Nat) (b : List Byte) : (s.setImage o b).traceAt = s.traceAt := rfl
@[simp] theorem State.setImage_traceCount (s : State) (o : Nat) (b : List Byte) : (s.setImage o b).traceCount = s.traceCount := rfl
@[simp] theorem State.setImage_traceLossPending (s : State) (o : Nat) (b : List Byte) : (s.setImage o b).traceLossPending = s.traceLossPending := rfl

@[simp] theorem State.tickTo_pending (s : State) (t : Nat) : (s.tickTo t).pending = s.pending := rfl
@[simp] theorem State.tickTo_resetAt (s : State) (t : Nat) : (s.tickTo t).resetAt = s.resetAt := rfl
@[simp] theorem State.tickTo_porAt (s : State) (t : Nat) : (s.tickTo t).porAt = s.porAt := rfl
@[simp] theorem State.tickTo_draws (s : State) (t : Nat) : (s.tickTo t).draws = s.draws := rfl
@[simp] theorem State.tickTo_regs (s : State) (t : Nat) : (s.tickTo t).regs = s.regs := rfl
@[simp] theorem State.tickTo_images (s : State) (t : Nat) : (s.tickTo t).images = s.images := rfl
@[simp] theorem State.tickTo_past (s : State) (t : Nat) : (s.tickTo t).past = s.past := rfl
@[simp] theorem State.tickTo_xfers (s : State) (t : Nat) : (s.tickTo t).xfers = s.xfers := rfl
@[simp] theorem State.tickTo_aliasWins (s : State) (t : Nat) : (s.tickTo t).aliasWins = s.aliasWins := rfl
@[simp] theorem State.tickTo_held (s : State) (t : Nat) : (s.tickTo t).held = s.held := rfl
@[simp] theorem State.tickTo_staged (s : State) (t : Nat) : (s.tickTo t).staged = s.staged := rfl
@[simp] theorem State.tickTo_flagCycle (s : State) (t : Nat) : (s.tickTo t).flagCycle = s.flagCycle := rfl
@[simp] theorem State.tickTo_irqs (s : State) (t : Nat) : (s.tickTo t).irqs = s.irqs := rfl
@[simp] theorem State.tickTo_reply (s : State) (t : Nat) : (s.tickTo t).reply = s.reply := rfl
@[simp] theorem State.tickTo_sent (s : State) (t : Nat) : (s.tickTo t).sent = s.sent := rfl
@[simp] theorem State.tickTo_sessions (s : State) (t : Nat) : (s.tickTo t).sessions = s.sessions := rfl
@[simp] theorem State.tickTo_streams (s : State) (t : Nat) : (s.tickTo t).streams = s.streams := rfl
@[simp] theorem State.tickTo_ctls (s : State) (t : Nat) : (s.tickTo t).ctls = s.ctls := rfl
@[simp] theorem State.tickTo_offerAt (s : State) (t : Nat) : (s.tickTo t).offerAt = s.offerAt := rfl
@[simp] theorem State.tickTo_windowAt (s : State) (t : Nat) : (s.tickTo t).windowAt = s.windowAt := rfl
@[simp] theorem State.tickTo_ttOff (s : State) (t : Nat) : (s.tickTo t).ttOff = s.ttOff := rfl
@[simp] theorem State.tickTo_marker (s : State) (t : Nat) : (s.tickTo t).marker = s.marker := rfl
@[simp] theorem State.tickTo_scheds (s : State) (t : Nat) : (s.tickTo t).scheds = s.scheds := rfl
@[simp] theorem State.tickTo_ptp (s : State) (t : Nat) : (s.tickTo t).ptp = s.ptp := rfl
@[simp] theorem State.tickTo_act (s : State) (t : Nat) : (s.tickTo t).act = s.act := rfl
@[simp] theorem State.tickTo_trigs (s : State) (t : Nat) : (s.tickTo t).trigs = s.trigs := rfl
@[simp] theorem State.tickTo_queues (s : State) (t : Nat) : (s.tickTo t).queues = s.queues := rfl
@[simp] theorem State.tickTo_qports (s : State) (t : Nat) : (s.tickTo t).qports = s.qports := rfl
@[simp] theorem State.tickTo_fcs (s : State) (t : Nat) : (s.tickTo t).fcs = s.fcs := rfl
@[simp] theorem State.tickTo_siteFails (s : State) (t : Nat) : (s.tickTo t).siteFails = s.siteFails := rfl
@[simp] theorem State.tickTo_reps (s : State) (t : Nat) : (s.tickTo t).reps = s.reps := rfl
@[simp] theorem State.tickTo_hunits (s : State) (t : Nat) : (s.tickTo t).hunits = s.hunits := rfl
@[simp] theorem State.tickTo_hlines (s : State) (t : Nat) : (s.tickTo t).hlines = s.hlines := rfl
@[simp] theorem State.tickTo_hsamples (s : State) (t : Nat) : (s.tickTo t).hsamples = s.hsamples := rfl
@[simp] theorem State.tickTo_hbits (s : State) (t : Nat) : (s.tickTo t).hbits = s.hbits := rfl
@[simp] theorem State.tickTo_hports (s : State) (t : Nat) : (s.tickTo t).hports = s.hports := rfl
@[simp] theorem State.tickTo_chans (s : State) (t : Nat) : (s.tickTo t).chans = s.chans := rfl
@[simp] theorem State.tickTo_sers (s : State) (t : Nat) : (s.tickTo t).sers = s.sers := rfl
@[simp] theorem State.tickTo_yards (s : State) (t : Nat) : (s.tickTo t).yards = s.yards := rfl
@[simp] theorem State.tickTo_wakeIn (s : State) (t : Nat) : (s.tickTo t).wakeIn = s.wakeIn := rfl
@[simp] theorem State.tickTo_clk (s : State) (t : Nat) : (s.tickTo t).clk = s.clk := rfl
@[simp] theorem State.tickTo_dbg (s : State) (t : Nat) : (s.tickTo t).dbg = s.dbg := rfl
@[simp] theorem State.tickTo_seq (s : State) (t : Nat) : (s.tickTo t).seq = s.seq := rfl
@[simp] theorem State.tickTo_resetting (s : State) (t : Nat) : (s.tickTo t).resetting = s.resetting := rfl
@[simp] theorem State.tickTo_hot (s : State) (t : Nat) : (s.tickTo t).hot = s.hot := rfl
@[simp] theorem State.tickTo_tripped (s : State) (t : Nat) : (s.tickTo t).tripped = s.tripped := rfl
@[simp] theorem State.tickTo_cfg (s : State) (t : Nat) : (s.tickTo t).cfg = s.cfg := rfl
@[simp] theorem State.tickTo_pads (s : State) (t : Nat) : (s.tickTo t).pads = s.pads := rfl
@[simp] theorem State.tickTo_live (s : State) (t : Nat) : (s.tickTo t).live = s.live := rfl
@[simp] theorem State.tickTo_shadow (s : State) (t : Nat) : (s.tickTo t).shadow = s.shadow := rfl
@[simp] theorem State.tickTo_refs (s : State) (t : Nat) : (s.tickTo t).refs = s.refs := rfl
@[simp] theorem State.tickTo_hostAudit (s : State) (t : Nat) : (s.tickTo t).hostAudit = s.hostAudit := rfl
@[simp] theorem State.tickTo_autoAudit (s : State) (t : Nat) : (s.tickTo t).autoAudit = s.autoAudit := rfl
@[simp] theorem State.tickTo_autoNext (s : State) (t : Nat) : (s.tickTo t).autoNext = s.autoNext := rfl
@[simp] theorem State.tickTo_autoAt (s : State) (t : Nat) : (s.tickTo t).autoAt = s.autoAt := rfl
@[simp] theorem State.tickTo_ffs (s : State) (t : Nat) : (s.tickTo t).ffs = s.ffs := rfl
@[simp] theorem State.tickTo_wregs (s : State) (t : Nat) : (s.tickTo t).wregs = s.wregs := rfl
@[simp] theorem State.tickTo_macs (s : State) (t : Nat) : (s.tickTo t).macs = s.macs := rfl
@[simp] theorem State.tickTo_bram (s : State) (t : Nat) : (s.tickTo t).bram = s.bram := rfl
@[simp] theorem State.tickTo_bramUpset (s : State) (t : Nat) : (s.tickTo t).bramUpset = s.bramUpset := rfl
@[simp] theorem State.tickTo_bramOut (s : State) (t : Nat) : (s.tickTo t).bramOut = s.bramOut := rfl
@[simp] theorem State.tickTo_bramRepair (s : State) (t : Nat) : (s.tickTo t).bramRepair = s.bramRepair := rfl
@[simp] theorem State.tickTo_flPorts (s : State) (t : Nat) : (s.tickTo t).flPorts = s.flPorts := rfl
@[simp] theorem State.tickTo_rxBuf (s : State) (t : Nat) : (s.tickTo t).rxBuf = s.rxBuf := rfl
@[simp] theorem State.tickTo_rxOut (s : State) (t : Nat) : (s.tickTo t).rxOut = s.rxOut := rfl
@[simp] theorem State.tickTo_ttPorts (s : State) (t : Nat) : (s.tickTo t).ttPorts = s.ttPorts := rfl
@[simp] theorem State.tickTo_ttEdge (s : State) (t : Nat) : (s.tickTo t).ttEdge = s.ttEdge := rfl
@[simp] theorem State.tickTo_gpios (s : State) (t : Nat) : (s.tickTo t).gpios = s.gpios := rfl
@[simp] theorem State.tickTo_fabAt (s : State) (t : Nat) : (s.tickTo t).fabAt = s.fabAt := rfl
@[simp] theorem State.tickTo_pulses (s : State) (t : Nat) : (s.tickTo t).pulses = s.pulses := rfl
@[simp] theorem State.tickTo_stops (s : State) (t : Nat) : (s.tickTo t).stops = s.stops := rfl
@[simp] theorem State.tickTo_netResvs (s : State) (t : Nat) : (s.tickTo t).netResvs = s.netResvs := rfl
@[simp] theorem State.tickTo_pkts (s : State) (t : Nat) : (s.tickTo t).pkts = s.pkts := rfl
@[simp] theorem State.tickTo_txns (s : State) (t : Nat) : (s.tickTo t).txns = s.txns := rfl
@[simp] theorem State.tickTo_netAt (s : State) (t : Nat) : (s.tickTo t).netAt = s.netAt := rfl
@[simp] theorem State.tickTo_engines (s : State) (t : Nat) : (s.tickTo t).engines = s.engines := rfl
@[simp] theorem State.tickTo_clusters (s : State) (t : Nat) : (s.tickTo t).clusters = s.clusters := rfl
@[simp] theorem State.tickTo_progPatch (s : State) (t : Nat) : (s.tickTo t).progPatch = s.progPatch := rfl
@[simp] theorem State.tickTo_spareMem (s : State) (t : Nat) : (s.tickTo t).spareMem = s.spareMem := rfl
@[simp] theorem State.tickTo_data (s : State) (t : Nat) : (s.tickTo t).data = s.data := rfl
@[simp] theorem State.tickTo_feed (s : State) (t : Nat) : (s.tickTo t).feed = s.feed := rfl
@[simp] theorem State.tickTo_badWords (s : State) (t : Nat) : (s.tickTo t).badWords = s.badWords := rfl
@[simp] theorem State.tickTo_upWords (s : State) (t : Nat) : (s.tickTo t).upWords = s.upWords := rfl
@[simp] theorem State.tickTo_hardBad (s : State) (t : Nat) : (s.tickTo t).hardBad = s.hardBad := rfl
@[simp] theorem State.tickTo_lostLines (s : State) (t : Nat) : (s.tickTo t).lostLines = s.lostLines := rfl
@[simp] theorem State.tickTo_mcMem (s : State) (t : Nat) : (s.tickTo t).mcMem = s.mcMem := rfl
@[simp] theorem State.tickTo_marchAt (s : State) (t : Nat) : (s.tickTo t).marchAt = s.marchAt := rfl
@[simp] theorem State.tickTo_patrol (s : State) (t : Nat) : (s.tickTo t).patrol = s.patrol := rfl
@[simp] theorem State.tickTo_dram (s : State) (t : Nat) : (s.tickTo t).dram = s.dram := rfl
@[simp] theorem State.tickTo_regionInit (s : State) (t : Nat) : (s.tickTo t).regionInit = s.regionInit := rfl
@[simp] theorem State.tickTo_reenc (s : State) (t : Nat) : (s.tickTo t).reenc = s.reenc := rfl
@[simp] theorem State.tickTo_memWait (s : State) (t : Nat) : (s.tickTo t).memWait = s.memWait := rfl
@[simp] theorem State.tickTo_walkAborting (s : State) (t : Nat) : (s.tickTo t).walkAborting = s.walkAborting := rfl
@[simp] theorem State.tickTo_dqDelay (s : State) (t : Nat) : (s.tickTo t).dqDelay = s.dqDelay := rfl
@[simp] theorem State.tickTo_retrainAt (s : State) (t : Nat) : (s.tickTo t).retrainAt = s.retrainAt := rfl
@[simp] theorem State.tickTo_zqAt (s : State) (t : Nat) : (s.tickTo t).zqAt = s.zqAt := rfl
@[simp] theorem State.tickTo_memInitAt (s : State) (t : Nat) : (s.tickTo t).memInitAt = s.memInitAt := rfl
@[simp] theorem State.tickTo_memStep1 (s : State) (t : Nat) : (s.tickTo t).memStep1 = s.memStep1 := rfl
@[simp] theorem State.tickTo_refresh (s : State) (t : Nat) : (s.tickTo t).refresh = s.refresh := rfl
@[simp] theorem State.tickTo_tagCache (s : State) (t : Nat) : (s.tickTo t).tagCache = s.tagCache := rfl
@[simp] theorem State.tickTo_grind (s : State) (t : Nat) : (s.tickTo t).grind = s.grind := rfl
@[simp] theorem State.tickTo_mcAt (s : State) (t : Nat) : (s.tickTo t).mcAt = s.mcAt := rfl
@[simp] theorem State.tickTo_traceBuf (s : State) (t : Nat) : (s.tickTo t).traceBuf = s.traceBuf := rfl
@[simp] theorem State.tickTo_traceFifo (s : State) (t : Nat) : (s.tickTo t).traceFifo = s.traceFifo := rfl
@[simp] theorem State.tickTo_traceAt (s : State) (t : Nat) : (s.tickTo t).traceAt = s.traceAt := rfl
@[simp] theorem State.tickTo_traceCount (s : State) (t : Nat) : (s.tickTo t).traceCount = s.traceCount := rfl
@[simp] theorem State.tickTo_traceLossPending (s : State) (t : Nat) : (s.tickTo t).traceLossPending = s.traceLossPending := rfl

@[simp] theorem State.popped_now (s : State) : (s.popped).now = s.now := rfl
@[simp] theorem State.popped_resetAt (s : State) : (s.popped).resetAt = s.resetAt := rfl
@[simp] theorem State.popped_porAt (s : State) : (s.popped).porAt = s.porAt := rfl
@[simp] theorem State.popped_draws (s : State) : (s.popped).draws = s.draws := rfl
@[simp] theorem State.popped_regs (s : State) : (s.popped).regs = s.regs := rfl
@[simp] theorem State.popped_images (s : State) : (s.popped).images = s.images := rfl
@[simp] theorem State.popped_past (s : State) : (s.popped).past = s.past := rfl
@[simp] theorem State.popped_xfers (s : State) : (s.popped).xfers = s.xfers := rfl
@[simp] theorem State.popped_aliasWins (s : State) : (s.popped).aliasWins = s.aliasWins := rfl
@[simp] theorem State.popped_held (s : State) : (s.popped).held = s.held := rfl
@[simp] theorem State.popped_staged (s : State) : (s.popped).staged = s.staged := rfl
@[simp] theorem State.popped_flagCycle (s : State) : (s.popped).flagCycle = s.flagCycle := rfl
@[simp] theorem State.popped_irqs (s : State) : (s.popped).irqs = s.irqs := rfl
@[simp] theorem State.popped_reply (s : State) : (s.popped).reply = s.reply := rfl
@[simp] theorem State.popped_sent (s : State) : (s.popped).sent = s.sent := rfl
@[simp] theorem State.popped_sessions (s : State) : (s.popped).sessions = s.sessions := rfl
@[simp] theorem State.popped_streams (s : State) : (s.popped).streams = s.streams := rfl
@[simp] theorem State.popped_ctls (s : State) : (s.popped).ctls = s.ctls := rfl
@[simp] theorem State.popped_offerAt (s : State) : (s.popped).offerAt = s.offerAt := rfl
@[simp] theorem State.popped_windowAt (s : State) : (s.popped).windowAt = s.windowAt := rfl
@[simp] theorem State.popped_ttOff (s : State) : (s.popped).ttOff = s.ttOff := rfl
@[simp] theorem State.popped_marker (s : State) : (s.popped).marker = s.marker := rfl
@[simp] theorem State.popped_scheds (s : State) : (s.popped).scheds = s.scheds := rfl
@[simp] theorem State.popped_ptp (s : State) : (s.popped).ptp = s.ptp := rfl
@[simp] theorem State.popped_act (s : State) : (s.popped).act = s.act := rfl
@[simp] theorem State.popped_trigs (s : State) : (s.popped).trigs = s.trigs := rfl
@[simp] theorem State.popped_queues (s : State) : (s.popped).queues = s.queues := rfl
@[simp] theorem State.popped_qports (s : State) : (s.popped).qports = s.qports := rfl
@[simp] theorem State.popped_fcs (s : State) : (s.popped).fcs = s.fcs := rfl
@[simp] theorem State.popped_siteFails (s : State) : (s.popped).siteFails = s.siteFails := rfl
@[simp] theorem State.popped_reps (s : State) : (s.popped).reps = s.reps := rfl
@[simp] theorem State.popped_hunits (s : State) : (s.popped).hunits = s.hunits := rfl
@[simp] theorem State.popped_hlines (s : State) : (s.popped).hlines = s.hlines := rfl
@[simp] theorem State.popped_hsamples (s : State) : (s.popped).hsamples = s.hsamples := rfl
@[simp] theorem State.popped_hbits (s : State) : (s.popped).hbits = s.hbits := rfl
@[simp] theorem State.popped_hports (s : State) : (s.popped).hports = s.hports := rfl
@[simp] theorem State.popped_chans (s : State) : (s.popped).chans = s.chans := rfl
@[simp] theorem State.popped_sers (s : State) : (s.popped).sers = s.sers := rfl
@[simp] theorem State.popped_yards (s : State) : (s.popped).yards = s.yards := rfl
@[simp] theorem State.popped_wakeIn (s : State) : (s.popped).wakeIn = s.wakeIn := rfl
@[simp] theorem State.popped_clk (s : State) : (s.popped).clk = s.clk := rfl
@[simp] theorem State.popped_dbg (s : State) : (s.popped).dbg = s.dbg := rfl
@[simp] theorem State.popped_seq (s : State) : (s.popped).seq = s.seq := rfl
@[simp] theorem State.popped_resetting (s : State) : (s.popped).resetting = s.resetting := rfl
@[simp] theorem State.popped_hot (s : State) : (s.popped).hot = s.hot := rfl
@[simp] theorem State.popped_tripped (s : State) : (s.popped).tripped = s.tripped := rfl
@[simp] theorem State.popped_cfg (s : State) : (s.popped).cfg = s.cfg := rfl
@[simp] theorem State.popped_pads (s : State) : (s.popped).pads = s.pads := rfl
@[simp] theorem State.popped_live (s : State) : (s.popped).live = s.live := rfl
@[simp] theorem State.popped_shadow (s : State) : (s.popped).shadow = s.shadow := rfl
@[simp] theorem State.popped_refs (s : State) : (s.popped).refs = s.refs := rfl
@[simp] theorem State.popped_hostAudit (s : State) : (s.popped).hostAudit = s.hostAudit := rfl
@[simp] theorem State.popped_autoAudit (s : State) : (s.popped).autoAudit = s.autoAudit := rfl
@[simp] theorem State.popped_autoNext (s : State) : (s.popped).autoNext = s.autoNext := rfl
@[simp] theorem State.popped_autoAt (s : State) : (s.popped).autoAt = s.autoAt := rfl
@[simp] theorem State.popped_ffs (s : State) : (s.popped).ffs = s.ffs := rfl
@[simp] theorem State.popped_wregs (s : State) : (s.popped).wregs = s.wregs := rfl
@[simp] theorem State.popped_macs (s : State) : (s.popped).macs = s.macs := rfl
@[simp] theorem State.popped_bram (s : State) : (s.popped).bram = s.bram := rfl
@[simp] theorem State.popped_bramUpset (s : State) : (s.popped).bramUpset = s.bramUpset := rfl
@[simp] theorem State.popped_bramOut (s : State) : (s.popped).bramOut = s.bramOut := rfl
@[simp] theorem State.popped_bramRepair (s : State) : (s.popped).bramRepair = s.bramRepair := rfl
@[simp] theorem State.popped_flPorts (s : State) : (s.popped).flPorts = s.flPorts := rfl
@[simp] theorem State.popped_rxBuf (s : State) : (s.popped).rxBuf = s.rxBuf := rfl
@[simp] theorem State.popped_rxOut (s : State) : (s.popped).rxOut = s.rxOut := rfl
@[simp] theorem State.popped_ttPorts (s : State) : (s.popped).ttPorts = s.ttPorts := rfl
@[simp] theorem State.popped_ttEdge (s : State) : (s.popped).ttEdge = s.ttEdge := rfl
@[simp] theorem State.popped_gpios (s : State) : (s.popped).gpios = s.gpios := rfl
@[simp] theorem State.popped_fabAt (s : State) : (s.popped).fabAt = s.fabAt := rfl
@[simp] theorem State.popped_pulses (s : State) : (s.popped).pulses = s.pulses := rfl
@[simp] theorem State.popped_stops (s : State) : (s.popped).stops = s.stops := rfl
@[simp] theorem State.popped_netResvs (s : State) : (s.popped).netResvs = s.netResvs := rfl
@[simp] theorem State.popped_pkts (s : State) : (s.popped).pkts = s.pkts := rfl
@[simp] theorem State.popped_txns (s : State) : (s.popped).txns = s.txns := rfl
@[simp] theorem State.popped_netAt (s : State) : (s.popped).netAt = s.netAt := rfl
@[simp] theorem State.popped_engines (s : State) : (s.popped).engines = s.engines := rfl
@[simp] theorem State.popped_clusters (s : State) : (s.popped).clusters = s.clusters := rfl
@[simp] theorem State.popped_progPatch (s : State) : (s.popped).progPatch = s.progPatch := rfl
@[simp] theorem State.popped_spareMem (s : State) : (s.popped).spareMem = s.spareMem := rfl
@[simp] theorem State.popped_data (s : State) : (s.popped).data = s.data := rfl
@[simp] theorem State.popped_feed (s : State) : (s.popped).feed = s.feed := rfl
@[simp] theorem State.popped_badWords (s : State) : (s.popped).badWords = s.badWords := rfl
@[simp] theorem State.popped_upWords (s : State) : (s.popped).upWords = s.upWords := rfl
@[simp] theorem State.popped_hardBad (s : State) : (s.popped).hardBad = s.hardBad := rfl
@[simp] theorem State.popped_lostLines (s : State) : (s.popped).lostLines = s.lostLines := rfl
@[simp] theorem State.popped_mcMem (s : State) : (s.popped).mcMem = s.mcMem := rfl
@[simp] theorem State.popped_marchAt (s : State) : (s.popped).marchAt = s.marchAt := rfl
@[simp] theorem State.popped_patrol (s : State) : (s.popped).patrol = s.patrol := rfl
@[simp] theorem State.popped_dram (s : State) : (s.popped).dram = s.dram := rfl
@[simp] theorem State.popped_regionInit (s : State) : (s.popped).regionInit = s.regionInit := rfl
@[simp] theorem State.popped_reenc (s : State) : (s.popped).reenc = s.reenc := rfl
@[simp] theorem State.popped_memWait (s : State) : (s.popped).memWait = s.memWait := rfl
@[simp] theorem State.popped_walkAborting (s : State) : (s.popped).walkAborting = s.walkAborting := rfl
@[simp] theorem State.popped_dqDelay (s : State) : (s.popped).dqDelay = s.dqDelay := rfl
@[simp] theorem State.popped_retrainAt (s : State) : (s.popped).retrainAt = s.retrainAt := rfl
@[simp] theorem State.popped_zqAt (s : State) : (s.popped).zqAt = s.zqAt := rfl
@[simp] theorem State.popped_memInitAt (s : State) : (s.popped).memInitAt = s.memInitAt := rfl
@[simp] theorem State.popped_memStep1 (s : State) : (s.popped).memStep1 = s.memStep1 := rfl
@[simp] theorem State.popped_refresh (s : State) : (s.popped).refresh = s.refresh := rfl
@[simp] theorem State.popped_tagCache (s : State) : (s.popped).tagCache = s.tagCache := rfl
@[simp] theorem State.popped_grind (s : State) : (s.popped).grind = s.grind := rfl
@[simp] theorem State.popped_mcAt (s : State) : (s.popped).mcAt = s.mcAt := rfl
@[simp] theorem State.popped_traceBuf (s : State) : (s.popped).traceBuf = s.traceBuf := rfl
@[simp] theorem State.popped_traceFifo (s : State) : (s.popped).traceFifo = s.traceFifo := rfl
@[simp] theorem State.popped_traceAt (s : State) : (s.popped).traceAt = s.traceAt := rfl
@[simp] theorem State.popped_traceCount (s : State) : (s.popped).traceCount = s.traceCount := rfl
@[simp] theorem State.popped_traceLossPending (s : State) : (s.popped).traceLossPending = s.traceLossPending := rfl

@[simp] theorem State.push_now (s : State) (c : Instr) : (s.push c).now = s.now := rfl
@[simp] theorem State.push_resetAt (s : State) (c : Instr) : (s.push c).resetAt = s.resetAt := rfl
@[simp] theorem State.push_porAt (s : State) (c : Instr) : (s.push c).porAt = s.porAt := rfl
@[simp] theorem State.push_draws (s : State) (c : Instr) : (s.push c).draws = s.draws := rfl
@[simp] theorem State.push_regs (s : State) (c : Instr) : (s.push c).regs = s.regs := rfl
@[simp] theorem State.push_images (s : State) (c : Instr) : (s.push c).images = s.images := rfl
@[simp] theorem State.push_past (s : State) (c : Instr) : (s.push c).past = s.past := rfl
@[simp] theorem State.push_xfers (s : State) (c : Instr) : (s.push c).xfers = s.xfers := rfl
@[simp] theorem State.push_aliasWins (s : State) (c : Instr) : (s.push c).aliasWins = s.aliasWins := rfl
@[simp] theorem State.push_held (s : State) (c : Instr) : (s.push c).held = s.held := rfl
@[simp] theorem State.push_staged (s : State) (c : Instr) : (s.push c).staged = s.staged := rfl
@[simp] theorem State.push_flagCycle (s : State) (c : Instr) : (s.push c).flagCycle = s.flagCycle := rfl
@[simp] theorem State.push_irqs (s : State) (c : Instr) : (s.push c).irqs = s.irqs := rfl
@[simp] theorem State.push_reply (s : State) (c : Instr) : (s.push c).reply = s.reply := rfl
@[simp] theorem State.push_sent (s : State) (c : Instr) : (s.push c).sent = s.sent := rfl
@[simp] theorem State.push_sessions (s : State) (c : Instr) : (s.push c).sessions = s.sessions := rfl
@[simp] theorem State.push_streams (s : State) (c : Instr) : (s.push c).streams = s.streams := rfl
@[simp] theorem State.push_ctls (s : State) (c : Instr) : (s.push c).ctls = s.ctls := rfl
@[simp] theorem State.push_offerAt (s : State) (c : Instr) : (s.push c).offerAt = s.offerAt := rfl
@[simp] theorem State.push_windowAt (s : State) (c : Instr) : (s.push c).windowAt = s.windowAt := rfl
@[simp] theorem State.push_ttOff (s : State) (c : Instr) : (s.push c).ttOff = s.ttOff := rfl
@[simp] theorem State.push_marker (s : State) (c : Instr) : (s.push c).marker = s.marker := rfl
@[simp] theorem State.push_scheds (s : State) (c : Instr) : (s.push c).scheds = s.scheds := rfl
@[simp] theorem State.push_ptp (s : State) (c : Instr) : (s.push c).ptp = s.ptp := rfl
@[simp] theorem State.push_act (s : State) (c : Instr) : (s.push c).act = s.act := rfl
@[simp] theorem State.push_trigs (s : State) (c : Instr) : (s.push c).trigs = s.trigs := rfl
@[simp] theorem State.push_queues (s : State) (c : Instr) : (s.push c).queues = s.queues := rfl
@[simp] theorem State.push_qports (s : State) (c : Instr) : (s.push c).qports = s.qports := rfl
@[simp] theorem State.push_fcs (s : State) (c : Instr) : (s.push c).fcs = s.fcs := rfl
@[simp] theorem State.push_siteFails (s : State) (c : Instr) : (s.push c).siteFails = s.siteFails := rfl
@[simp] theorem State.push_reps (s : State) (c : Instr) : (s.push c).reps = s.reps := rfl
@[simp] theorem State.push_hunits (s : State) (c : Instr) : (s.push c).hunits = s.hunits := rfl
@[simp] theorem State.push_hlines (s : State) (c : Instr) : (s.push c).hlines = s.hlines := rfl
@[simp] theorem State.push_hsamples (s : State) (c : Instr) : (s.push c).hsamples = s.hsamples := rfl
@[simp] theorem State.push_hbits (s : State) (c : Instr) : (s.push c).hbits = s.hbits := rfl
@[simp] theorem State.push_hports (s : State) (c : Instr) : (s.push c).hports = s.hports := rfl
@[simp] theorem State.push_chans (s : State) (c : Instr) : (s.push c).chans = s.chans := rfl
@[simp] theorem State.push_sers (s : State) (c : Instr) : (s.push c).sers = s.sers := rfl
@[simp] theorem State.push_yards (s : State) (c : Instr) : (s.push c).yards = s.yards := rfl
@[simp] theorem State.push_wakeIn (s : State) (c : Instr) : (s.push c).wakeIn = s.wakeIn := rfl
@[simp] theorem State.push_clk (s : State) (c : Instr) : (s.push c).clk = s.clk := rfl
@[simp] theorem State.push_dbg (s : State) (c : Instr) : (s.push c).dbg = s.dbg := rfl
@[simp] theorem State.push_seq (s : State) (c : Instr) : (s.push c).seq = s.seq := rfl
@[simp] theorem State.push_resetting (s : State) (c : Instr) : (s.push c).resetting = s.resetting := rfl
@[simp] theorem State.push_hot (s : State) (c : Instr) : (s.push c).hot = s.hot := rfl
@[simp] theorem State.push_tripped (s : State) (c : Instr) : (s.push c).tripped = s.tripped := rfl
@[simp] theorem State.push_cfg (s : State) (c : Instr) : (s.push c).cfg = s.cfg := rfl
@[simp] theorem State.push_pads (s : State) (c : Instr) : (s.push c).pads = s.pads := rfl
@[simp] theorem State.push_live (s : State) (c : Instr) : (s.push c).live = s.live := rfl
@[simp] theorem State.push_shadow (s : State) (c : Instr) : (s.push c).shadow = s.shadow := rfl
@[simp] theorem State.push_refs (s : State) (c : Instr) : (s.push c).refs = s.refs := rfl
@[simp] theorem State.push_hostAudit (s : State) (c : Instr) : (s.push c).hostAudit = s.hostAudit := rfl
@[simp] theorem State.push_autoAudit (s : State) (c : Instr) : (s.push c).autoAudit = s.autoAudit := rfl
@[simp] theorem State.push_autoNext (s : State) (c : Instr) : (s.push c).autoNext = s.autoNext := rfl
@[simp] theorem State.push_autoAt (s : State) (c : Instr) : (s.push c).autoAt = s.autoAt := rfl
@[simp] theorem State.push_ffs (s : State) (c : Instr) : (s.push c).ffs = s.ffs := rfl
@[simp] theorem State.push_wregs (s : State) (c : Instr) : (s.push c).wregs = s.wregs := rfl
@[simp] theorem State.push_macs (s : State) (c : Instr) : (s.push c).macs = s.macs := rfl
@[simp] theorem State.push_bram (s : State) (c : Instr) : (s.push c).bram = s.bram := rfl
@[simp] theorem State.push_bramUpset (s : State) (c : Instr) : (s.push c).bramUpset = s.bramUpset := rfl
@[simp] theorem State.push_bramOut (s : State) (c : Instr) : (s.push c).bramOut = s.bramOut := rfl
@[simp] theorem State.push_bramRepair (s : State) (c : Instr) : (s.push c).bramRepair = s.bramRepair := rfl
@[simp] theorem State.push_flPorts (s : State) (c : Instr) : (s.push c).flPorts = s.flPorts := rfl
@[simp] theorem State.push_rxBuf (s : State) (c : Instr) : (s.push c).rxBuf = s.rxBuf := rfl
@[simp] theorem State.push_rxOut (s : State) (c : Instr) : (s.push c).rxOut = s.rxOut := rfl
@[simp] theorem State.push_ttPorts (s : State) (c : Instr) : (s.push c).ttPorts = s.ttPorts := rfl
@[simp] theorem State.push_ttEdge (s : State) (c : Instr) : (s.push c).ttEdge = s.ttEdge := rfl
@[simp] theorem State.push_gpios (s : State) (c : Instr) : (s.push c).gpios = s.gpios := rfl
@[simp] theorem State.push_fabAt (s : State) (c : Instr) : (s.push c).fabAt = s.fabAt := rfl
@[simp] theorem State.push_pulses (s : State) (c : Instr) : (s.push c).pulses = s.pulses := rfl
@[simp] theorem State.push_stops (s : State) (c : Instr) : (s.push c).stops = s.stops := rfl
@[simp] theorem State.push_netResvs (s : State) (c : Instr) : (s.push c).netResvs = s.netResvs := rfl
@[simp] theorem State.push_pkts (s : State) (c : Instr) : (s.push c).pkts = s.pkts := rfl
@[simp] theorem State.push_txns (s : State) (c : Instr) : (s.push c).txns = s.txns := rfl
@[simp] theorem State.push_netAt (s : State) (c : Instr) : (s.push c).netAt = s.netAt := rfl
@[simp] theorem State.push_engines (s : State) (c : Instr) : (s.push c).engines = s.engines := rfl
@[simp] theorem State.push_clusters (s : State) (c : Instr) : (s.push c).clusters = s.clusters := rfl
@[simp] theorem State.push_progPatch (s : State) (c : Instr) : (s.push c).progPatch = s.progPatch := rfl
@[simp] theorem State.push_spareMem (s : State) (c : Instr) : (s.push c).spareMem = s.spareMem := rfl
@[simp] theorem State.push_data (s : State) (c : Instr) : (s.push c).data = s.data := rfl
@[simp] theorem State.push_feed (s : State) (c : Instr) : (s.push c).feed = s.feed := rfl
@[simp] theorem State.push_badWords (s : State) (c : Instr) : (s.push c).badWords = s.badWords := rfl
@[simp] theorem State.push_upWords (s : State) (c : Instr) : (s.push c).upWords = s.upWords := rfl
@[simp] theorem State.push_hardBad (s : State) (c : Instr) : (s.push c).hardBad = s.hardBad := rfl
@[simp] theorem State.push_lostLines (s : State) (c : Instr) : (s.push c).lostLines = s.lostLines := rfl
@[simp] theorem State.push_mcMem (s : State) (c : Instr) : (s.push c).mcMem = s.mcMem := rfl
@[simp] theorem State.push_marchAt (s : State) (c : Instr) : (s.push c).marchAt = s.marchAt := rfl
@[simp] theorem State.push_patrol (s : State) (c : Instr) : (s.push c).patrol = s.patrol := rfl
@[simp] theorem State.push_dram (s : State) (c : Instr) : (s.push c).dram = s.dram := rfl
@[simp] theorem State.push_regionInit (s : State) (c : Instr) : (s.push c).regionInit = s.regionInit := rfl
@[simp] theorem State.push_reenc (s : State) (c : Instr) : (s.push c).reenc = s.reenc := rfl
@[simp] theorem State.push_memWait (s : State) (c : Instr) : (s.push c).memWait = s.memWait := rfl
@[simp] theorem State.push_walkAborting (s : State) (c : Instr) : (s.push c).walkAborting = s.walkAborting := rfl
@[simp] theorem State.push_dqDelay (s : State) (c : Instr) : (s.push c).dqDelay = s.dqDelay := rfl
@[simp] theorem State.push_retrainAt (s : State) (c : Instr) : (s.push c).retrainAt = s.retrainAt := rfl
@[simp] theorem State.push_zqAt (s : State) (c : Instr) : (s.push c).zqAt = s.zqAt := rfl
@[simp] theorem State.push_memInitAt (s : State) (c : Instr) : (s.push c).memInitAt = s.memInitAt := rfl
@[simp] theorem State.push_memStep1 (s : State) (c : Instr) : (s.push c).memStep1 = s.memStep1 := rfl
@[simp] theorem State.push_refresh (s : State) (c : Instr) : (s.push c).refresh = s.refresh := rfl
@[simp] theorem State.push_tagCache (s : State) (c : Instr) : (s.push c).tagCache = s.tagCache := rfl
@[simp] theorem State.push_grind (s : State) (c : Instr) : (s.push c).grind = s.grind := rfl
@[simp] theorem State.push_mcAt (s : State) (c : Instr) : (s.push c).mcAt = s.mcAt := rfl
@[simp] theorem State.push_traceBuf (s : State) (c : Instr) : (s.push c).traceBuf = s.traceBuf := rfl
@[simp] theorem State.push_traceFifo (s : State) (c : Instr) : (s.push c).traceFifo = s.traceFifo := rfl
@[simp] theorem State.push_traceAt (s : State) (c : Instr) : (s.push c).traceAt = s.traceAt := rfl
@[simp] theorem State.push_traceCount (s : State) (c : Instr) : (s.push c).traceCount = s.traceCount := rfl
@[simp] theorem State.push_traceLossPending (s : State) (c : Instr) : (s.push c).traceLossPending = s.traceLossPending := rfl

@[simp] theorem State.setReg_regs (s : State) (o v : Nat) : (s.setReg o v).regs = Tbl.set (regDefault o) s.regs o v := rfl
@[simp] theorem State.setImage_images (s : State) (o : Nat) (b : List Byte) :
    (s.setImage o b).images = Tbl.set (imageDefault o) s.images o b := rfl
@[simp] theorem State.tickTo_now (s : State) (t : Nat) : (s.tickTo t).now = max s.now t := rfl
@[simp] theorem State.popped_pending (s : State) : s.popped.pending = s.pending.tail := rfl
@[simp] theorem State.push_pending (s : State) (c : Instr) : (s.push c).pending = c :: s.pending := rfl

end Sys2Proof.Machine
end

