-- ==== Sys2Proof/Laws/Table.lean ====
section
/-! SUPPORT. Laws of the sparse tables: a read after a write, other keys, and the canonical form. -/

namespace Sys2Proof

section
variable {α : Type}

/-- Without its entries, a key reads as the default. -/
theorem Tbl.get_drop_same (d : α) (m : Tbl α) (k : Nat) : Tbl.get d (Tbl.drop m k) k = d := by
  induction m with
  | nil => rfl
  | cons p r ih =>
    obtain ⟨i, w⟩ := p
    by_cases h : i = k
    · simp [Tbl.drop, h, ih]
    · simp [Tbl.drop, h, Tbl.get, ih, Ne.symm h]

/-- Leaving out one key leaves the others. -/
theorem Tbl.get_drop_ne (d : α) (m : Tbl α) (k j : Nat) (h : j ≠ k) : Tbl.get d (Tbl.drop m k) j = Tbl.get d m j := by
  induction m with
  | nil => rfl
  | cons p r ih =>
    obtain ⟨i, w⟩ := p
    by_cases hi : i = k
    · subst hi
      simp [Tbl.drop, Tbl.get, h, ih]
    · simp [Tbl.drop, hi, Tbl.get, ih]

/-- What is left was there. -/
theorem Tbl.mem_drop (m : Tbl α) (k : Nat) (p : Nat × α) (h : p ∈ Tbl.drop m k) : p ∈ m := by
  induction m with
  | nil => exact h
  | cons q r ih =>
    obtain ⟨i, w⟩ := q
    simp only [Tbl.drop] at h
    split at h
    · exact List.mem_cons_of_mem _ (ih h)
    · rcases List.mem_cons.mp h with h | h
      · simp [h]
      · exact List.mem_cons_of_mem _ (ih h)

end

variable {α : Type} [DecidableEq α]

/-- A read after a write gives the value written. -/
theorem Tbl.get_set_same (d : α) (m : Tbl α) (k : Nat) (v : α) : Tbl.get d (Tbl.set d m k v) k = v := by
  induction m with
  | nil => by_cases hv : v = d <;> simp [Tbl.set, Tbl.get, hv]
  | cons p r ih =>
    obtain ⟨i, w⟩ := p
    simp only [Tbl.set]
    by_cases h1 : k < i
    · have h2 : k ≠ i := by omega
      by_cases hv : v = d <;> simp [h1, hv, Tbl.get, h2, Tbl.get_drop_same]
    · by_cases h2 : k = i
      · by_cases hv : v = d <;> simp [h2, hv, Tbl.get, Tbl.get_drop_same]
      · simp [h1, h2, Tbl.get, ih]

/-- A write leaves every other key as it was, whatever default that key has. -/
theorem Tbl.get_set_ne (d e : α) (m : Tbl α) (k j : Nat) (v : α) (h : j ≠ k) : Tbl.get e (Tbl.set d m k v) j = Tbl.get e m j := by
  induction m with
  | nil => by_cases hv : v = d <;> simp [Tbl.set, Tbl.get, hv, h]
  | cons p r ih =>
    obtain ⟨i, w⟩ := p
    simp only [Tbl.set]
    by_cases h1 : k < i
    · by_cases hv : v = d <;> simp [Tbl.get, h1, hv, h, Tbl.get_drop_ne e r k j h]
    · by_cases h2 : k = i
      · subst h2
        by_cases hv : v = d <;> simp [Tbl.get, hv, h, Tbl.get_drop_ne e r k j h]
      · simp [h1, h2, Tbl.get, ih]

/-- Canonical form, one entry at a time. -/
theorem Tbl.wf_cons (d : Nat → α) (k : Nat) (v : α) (r : Tbl α) :
    Tbl.wf d ((k, v) :: r) = true ↔ v ≠ d k ∧ (∀ p ∈ r, k < p.1) ∧ Tbl.wf d r = true := by
  induction r generalizing k v with
  | nil => simp [Tbl.wf]
  | cons q r ih =>
    obtain ⟨j, w⟩ := q
    have h := ih j w
    simp only [Tbl.wf, Bool.and_eq_true, decide_eq_true_eq, List.mem_cons, forall_eq_or_imp] at *
    constructor
    · rintro ⟨⟨h1, h2⟩, h3⟩
      refine ⟨h1, ⟨h2, fun p hp => ?_⟩, h3⟩
      have := (h.mp h3).2.1 p hp
      omega
    · rintro ⟨h1, ⟨h2, _⟩, h3⟩
      exact ⟨⟨h1, h2⟩, h3⟩

/-- Leaving out a key keeps the canonical form. -/
theorem Tbl.drop_wf (d : Nat → α) (m : Tbl α) (k : Nat) (h : Tbl.wf d m = true) : Tbl.wf d (Tbl.drop m k) = true := by
  induction m with
  | nil => rfl
  | cons p r ih =>
    obtain ⟨i, w⟩ := p
    obtain ⟨hw, hlt, hr⟩ := (Tbl.wf_cons d i w r).mp h
    simp only [Tbl.drop]
    split
    · exact ih hr
    · exact (Tbl.wf_cons d i w _).mpr ⟨hw, fun p hp => hlt p (Tbl.mem_drop _ _ _ hp), ih hr⟩

/-- What a table lists after a write was there before, or is what was written. -/
theorem Tbl.mem_set (d : α) (m : Tbl α) (k : Nat) (v : α) (p : Nat × α) (h : p ∈ Tbl.set d m k v) : p = (k, v) ∨ p ∈ m := by
  induction m with
  | nil => by_cases hv : v = d <;> simp_all [Tbl.set]
  | cons q r ih =>
    obtain ⟨i, w⟩ := q
    simp only [Tbl.set] at h
    split at h
    · split at h
      · rcases List.mem_cons.mp h with h | h
        · simp [h]
        · exact .inr (List.mem_cons_of_mem _ (Tbl.mem_drop _ _ _ h))
      · simp_all
    · split at h
      · split at h
        · exact .inr (List.mem_cons_of_mem _ (Tbl.mem_drop _ _ _ h))
        · rcases List.mem_cons.mp h with h | h <;> simp [h]
      · rcases List.mem_cons.mp h with h | h
        · simp [h]
        · rcases ih h with h | h <;> simp [h]

/-- A write keeps the canonical form. -/
theorem Tbl.set_wf (d : Nat → α) (m : Tbl α) (k : Nat) (v : α) (h : Tbl.wf d m = true) : Tbl.wf d (Tbl.set (d k) m k v) = true := by
  induction m with
  | nil => by_cases hv : v = d k <;> simp [Tbl.set, Tbl.wf, hv]
  | cons p r ih =>
    obtain ⟨i, w⟩ := p
    obtain ⟨hw, hlt, hr⟩ := (Tbl.wf_cons d i w r).mp h
    simp only [Tbl.set]
    split
    · split
      · exact (Tbl.wf_cons d i w _).mpr ⟨hw, fun p hp => hlt p (Tbl.mem_drop _ _ _ hp), Tbl.drop_wf d r k hr⟩
      · refine (Tbl.wf_cons d k v _).mpr ⟨by assumption, fun p hp => ?_, h⟩
        rcases List.mem_cons.mp hp with rfl | hp
        · assumption
        · have := hlt p hp
          omega
    · split
      · split
        · exact Tbl.drop_wf d r k hr
        · subst_vars
          exact (Tbl.wf_cons d i v r).mpr ⟨by assumption, hlt, hr⟩
      · refine (Tbl.wf_cons d i w _).mpr ⟨hw, fun p hp => ?_, ih hr⟩
        rcases Tbl.mem_set _ _ _ _ _ hp with rfl | hp
        · simp only
          omega
        · exact hlt p hp

/-- Leaving entries out keeps the canonical form. -/
theorem Tbl.filter_wf (d : Nat → α) (f : Nat × α → Bool) (m : Tbl α) (h : Tbl.wf d m = true) : Tbl.wf d (m.filter f) = true := by
  induction m with
  | nil => rfl
  | cons p r ih =>
    obtain ⟨i, w⟩ := p
    obtain ⟨hw, hlt, hr⟩ := (Tbl.wf_cons d i w r).mp h
    simp only [List.filter_cons]
    split
    · exact (Tbl.wf_cons d i w _).mpr ⟨hw, fun p hp => hlt p (List.mem_filter.mp hp).1, ih hr⟩
    · exact ih hr

end Sys2Proof
end

