-- ==== Sys2Proof/Laws/Access.lean ====
section
/-! SUPPORT. What the shared dictionary operations can do: reads after writes, a granted write, a commit of a complete transfer, and the
one that an access check turns away. -/

namespace Sys2Proof.Machine

/-! ### Registers and images -/

/-- An object reads what was last written to it. -/
@[simp] theorem State.reg_setReg_same (s : State) (o v : Nat) : (s.setReg o v).reg o = v := Tbl.get_set_same _ s.regs o v

/-- A write leaves every other object. -/
theorem State.reg_setReg_ne (s : State) (o p v : Nat) (h : p ≠ o) : (s.setReg o v).reg p = s.reg p := Tbl.get_set_ne _ _ s.regs o p v h

/-- An object after a write of another or of itself. -/
theorem State.reg_setReg (s : State) (o p v : Nat) : (s.setReg o v).reg p = if p = o then v else s.reg p := by
  by_cases h : p = o
  · simp [h]
  · simp [h, s.reg_setReg_ne o p v h]

/-- A DOMAIN object reads the image last committed. -/
@[simp] theorem State.image_setImage_same (s : State) (o : Nat) (b : List Byte) : (s.setImage o b).image o = b :=
  Tbl.get_set_same _ s.images o b

/-- A new image leaves every other object's. -/
theorem State.image_setImage_ne (s : State) (o p : Nat) (b : List Byte) (h : p ≠ o) : (s.setImage o b).image p = s.image p :=
  Tbl.get_set_ne _ _ s.images o p b h

@[simp] theorem State.reg_setImage (s : State) (o p : Nat) (b : List Byte) : (s.setImage o b).reg p = s.reg p := rfl
@[simp] theorem State.image_setReg (s : State) (o p v : Nat) : (s.setReg o v).image p = s.image p := rfl

/-- A write keeps the table of registers in canonical form. -/
theorem State.setReg_regsWf (s : State) (o v : Nat) (h : s.regsWf = true) : (s.setReg o v).regsWf = true :=
  Tbl.set_wf regDefault s.regs o v h

/-- A new image keeps the table of images in canonical form. -/
theorem State.setImage_imagesWf (s : State) (o : Nat) (b : List Byte) (h : s.imagesWf = true) : (s.setImage o b).imagesWf = true :=
  Tbl.set_wf imageDefault s.images o b h

/-! ### Writes and commits -/

/-- A granted write does what its owner does, and completes with the owner's status. -/
theorem State.writeObj_writable (s : State) (r : Requester) (o v : Nat) (f : Owner) (h : s.writable r o v = true) :
    s.writeObj r o v f = (f v s).2.complete r o true (f v s).1 [] := by
  simp only [State.writable, Bool.and_eq_true, beq_iff_eq] at h
  obtain ⟨⟨h1, h2⟩, h3⟩ := h
  unfold State.writeObj
  cases hc : cardOf o with
  | none => simp [hc] at h3
  | some c =>
    simp only [hc, Option.map_some, Option.some.injEq] at h3
    simp [h1, h2, h3]

/-- A write that the access check turns away changes its counters and its reply only. -/
theorem State.writeObj_turned (s : State) (r : Requester) (o v : Nat) (f : Owner) (st : Status) (ch : Bool)
    (h : s.checkAccess r o true = (st, ch)) (hst : st ≠ .okay) :
    s.writeObj r o v f = (if ch then s.bump O.LATCH_CHARGE_DENIED 1 else s).complete r o true st [] := by
  unfold State.writeObj
  rw [h]
  cases st <;> first | rfl | exact absurd rfl hst

/-- A commit that finds its transfer complete does what the owner does, the transfer ended. -/
theorem State.commitObj_ready (s : State) (r : Requester) (o crc tt : Nat) (img : List Byte) (f : ImgOwner)
    (h : s.commitReady r o crc img = true) :
    s.commitObj r o crc tt f = (f img (ttImage (ttTick tt) (ttFine tt)) (s.setXfer o none)).2.complete r o true
      (f img (ttImage (ttTick tt) (ttFine tt)) (s.setXfer o none)).1 [] := by
  simp only [State.commitReady, Bool.and_eq_true, beq_iff_eq, Option.any_eq_true, bne_iff_ne] at h
  obtain ⟨⟨h1, c, hc, hty, hacc⟩, x, hx, ⟨⟨hop, rfl⟩, hlen⟩, hcrc⟩ := h
  unfold State.commitObj
  have hl : ¬ x.data.length < x.total := by simpa using hlen
  simp [h1, hc, hty, hacc, hx, hop, hl, hcrc]

@[simp] theorem ttImage_zero : ttImage (ttTick 0) (ttFine 0) = 0 := rfl

/-- Bytes of 0 stay so under a mask. -/
@[simp] theorem maskEvery_fill (m : List Nat) (n : Nat) : ∀ i, maskEvery m i (fill n 0) = fill n 0 := by
  induction n with
  | zero => exact fun _ => rfl
  | succ n ih =>
    intro i
    show ((0 : Byte) &&& _) :: maskEvery m (i + 1) (fill n 0) = _
    rw [ih, show ∀ x : Byte, (0 : Byte) &&& x = 0 from fun _ => BitVec.zero_and]
    rfl

/-- A datagram that comes to Kisko is taken, and its frame is counted. -/
theorem State.kiskoIn_up (s : State) (c : Ctl) (p : Peer) (f : State → State) (h : s.kiskoUp c p = true) :
    s.kiskoIn c p f = (f s).bump (O.MGT_RX_FRAMES c.num) 1 := by
  have h1 : s.mgtLive c.num = true := by
    simp only [State.kiskoUp, Bool.and_eq_true] at h
    exact h.1.1
  simp [State.kiskoIn, h, h1]

/-- A WO BOOL command written with 1 runs. -/
@[simp] theorem command_one (f : State → Status × State) (s : State) : command f 1 s = f s := rfl

/-- A WO BOOL command written with 0 completes and does nothing. -/
@[simp] theorem command_zero (f : State → Status × State) (s : State) : command f 0 s = (.okay, s) := rfl

@[simp] theorem store_eq (o v : Nat) (s : State) : store o v s = (.okay, s.setReg o v) := rfl

/-- An RWL object in its safe state takes its value. -/
theorem storeIf_safe (safe : State → Bool) (o v : Nat) (s : State) (h : safe s = true) : storeIf safe o v s = (.okay, s.setReg o v) := by
  simp [storeIf, h]

/-- An RWL object outside its safe state refuses. -/
theorem storeIf_busy (safe : State → Bool) (o v : Nat) (s : State) (h : safe s = false) : storeIf safe o v s = (.refused, s) := by
  simp [storeIf, h]

@[simp] theorem unscheduled_zero (f : List Byte → State → Status × State) (img : List Byte) (s : State) :
    unscheduled f img 0 s = f img s := rfl

end Sys2Proof.Machine
end

