-- ==== Sys2Proof/Laws/Bytes.lean ====
section
/-! SUPPORT. Laws of byte images: little-endian fields, slices and overwritten bytes; and of the registers of an alias window. -/

namespace Sys2Proof

@[simp] theorem leBytes_length : ∀ n v : Nat, (leBytes n v).length = n
  | 0, _ => rfl
  | n + 1, v => by simp [leBytes, leBytes_length n]

@[simp] theorem fill_length (n v : Nat) : (fill n v).length = n := by simp [fill]

/-- A number read back from its bytes is itself modulo the width. -/
theorem leNat_leBytes : ∀ n v : Nat, leNat (leBytes n v) = v % 2 ^ (8 * n)
  | 0, v => by simp [leBytes, leNat, Nat.mod_one]
  | n + 1, v => by
    simp only [leBytes, leNat, leNat_leBytes n, BitVec.toNat_ofNat]
    have : 2 ^ (8 * (n + 1)) = 256 * 2 ^ (8 * n) := by rw [Nat.mul_add, Nat.pow_add, Nat.mul_comm]
    rw [this, Nat.mod_mul]

/-- The number of a list of bytes fits its width. -/
theorem leNat_lt : ∀ l : List Byte, leNat l < 2 ^ (8 * l.length)
  | [] => by simp [leNat]
  | b :: r => by
    have := leNat_lt r
    have hb := b.isLt
    simp only [leNat, List.length_cons, Nat.mul_add, Nat.pow_add]
    omega

@[simp] theorem splice_length (l : List Byte) (o : Nat) (b : List Byte) : (splice l o b).length = l.length := by
  simp [splice]
  omega

/-- A field before the bytes overwritten. -/
theorem slice_splice_before (l : List Byte) (o n p : Nat) (b : List Byte) (h : o + n ≤ p) (hp : p ≤ l.length) :
    slice o n (splice l p b) = slice o n l := by
  apply List.ext_getElem?
  intro i
  simp only [slice, splice, List.getElem?_take, List.getElem?_drop]
  split
  · rw [if_pos (by omega), List.append_assoc, List.getElem?_append_left (by simp; omega), List.getElem?_take, if_pos (by omega)]
  · rfl

/-- The bytes overwritten. -/
theorem slice_splice_same (l : List Byte) (p n : Nat) (b : List Byte) (hn : b.length = n) (h : p + n ≤ l.length) :
    slice p n (splice l p b) = b := by
  subst hn
  apply List.ext_getElem?
  intro i
  simp only [slice, splice, List.getElem?_take, List.getElem?_drop]
  split
  · rw [if_pos (by omega), List.append_assoc, List.getElem?_append_right (by rw [List.length_take]; omega), List.length_take, Nat.min_eq_left (by omega),
      Nat.add_sub_cancel_left, List.getElem?_append_left (by assumption)]
  · exact (List.getElem?_eq_none (by omega)).symm

namespace Machine

theorem AliasWin.bytes_length (w : AliasWin) (n : Nat) : (w.bytes n).length = 64 := by simp [AliasWin.bytes]

/-- OFFSET as the window shows it. -/
theorem AliasWin.bytes_offset (w : AliasWin) (n : Nat) : fieldLE (w.bytes n) 8 4 = w.offset % 2 ^ 32 := by
  have : slice 8 4 (w.bytes n) = leBytes 4 w.offset := by simp [AliasWin.bytes, leBytes, fill, slice, List.replicate]
  rw [fieldLE, this, leNat_leBytes]

end Machine
end Sys2Proof
end

