-- ==== Sys2Proof/Laws/Memory.lean ====
section
/-! SUPPORT. Laws of the addressed memories: reading back what was written, the bytes a write leaves alone, and the canonical form that
every memory operation keeps. -/

namespace Sys2Proof.Machine

/-- One byte written reads back. -/
theorem dramGet_dramSet_same (m : List Host.Cell) (a : Nat) (b : Byte) : dramGet (dramSet m a b) a = b := Tbl.get_set_same _ _ _ _

/-- One byte written leaves every other byte. -/
theorem dramGet_dramSet_ne (m : List Host.Cell) (a c : Nat) (b : Byte) (h : c ≠ a) : dramGet (dramSet m a b) c = dramGet m c :=
  Tbl.get_set_ne _ _ _ _ _ _ h

/-- A write leaves every byte outside its range. -/
theorem dramGet_dramWrite_out (l : List Byte) (m : List Host.Cell) (a c : Nat) (h : c < a ∨ a + l.length ≤ c) :
    dramGet (dramWrite m a l) c = dramGet m c := by
  induction l generalizing m a with
  | nil => rfl
  | cons b r ih =>
    simp only [List.length_cons] at h
    simp only [dramWrite]
    rw [ih _ _ (by omega), dramGet_dramSet_ne _ _ _ _ (by omega)]

/-- A write is read back byte by byte. -/
theorem dramGet_dramWrite_in (l : List Byte) (m : List Host.Cell) (a i : Nat) (h : i < l.length) :
    dramGet (dramWrite m a l) (a + i) = l[i] := by
  induction l generalizing m a i with
  | nil => simp at h
  | cons b r ih =>
    simp only [dramWrite]
    cases i with
    | zero => rw [dramGet_dramWrite_out _ _ _ _ (by omega)]; exact dramGet_dramSet_same m a b
    | succ k =>
      have := ih (dramSet m a b) (a + 1) k (by simpa using h)
      rw [show a + (k + 1) = a + 1 + k by omega, this]; rfl

/-- A read gives as many bytes as it asks for. -/
theorem dramRead_length (n : Nat) (m : List Host.Cell) (a : Nat) : (dramRead m a n).length = n := by
  induction n generalizing a with
  | zero => rfl
  | succ n ih => simp [dramRead, ih]

/-- A read that no write touches reads as before. -/
theorem dramRead_dramWrite_out (n : Nat) (l : List Byte) (m : List Host.Cell) (a c : Nat) (h : c + n ≤ a ∨ a + l.length ≤ c) :
    dramRead (dramWrite m a l) c n = dramRead m c n := by
  induction n generalizing c with
  | zero => rfl
  | succ n ih => simp only [dramRead]; rw [ih _ (by omega), dramGet_dramWrite_out _ _ _ _ (by omega)]

/-- Reading the bytes just written gives them back. -/
theorem dramRead_dramWrite_same (l : List Byte) (m : List Host.Cell) (a : Nat) : dramRead (dramWrite m a l) a l.length = l := by
  induction l generalizing m a with
  | nil => rfl
  | cons b r ih =>
    simp only [List.length_cons, dramRead, dramWrite]
    rw [ih, dramGet_dramWrite_out _ _ _ _ (by omega), dramGet_dramSet_same]

/-- One byte written keeps the canonical form. -/
theorem dramSet_wf (m : List Host.Cell) (a : Nat) (b : Byte) (h : Memory.wf m = true) : Memory.wf (dramSet m a b) = true :=
  Tbl.set_wf (fun _ => 0#8) m a b h

/-- A write keeps the canonical form. -/
theorem dramWrite_wf (l : List Byte) (m : List Host.Cell) (a : Nat) (h : Memory.wf m = true) : Memory.wf (dramWrite m a l) = true := by
  induction l generalizing m a with
  | nil => exact h
  | cons b r ih => exact ih _ _ (dramSet_wf _ _ _ h)

/-- Removing bytes keeps the canonical form. -/
theorem memory_filter_wf (f : Host.Cell → Bool) (m : List Host.Cell) (h : Memory.wf m = true) : Memory.wf (m.filter f) = true :=
  Tbl.filter_wf _ f m h

/-- A MINOR counter written keeps the canonical form. -/
theorem setMinor2_wf (m : List Host.Cell) (r : Region) (i mn : Nat) (h : Memory.wf m = true) : Memory.wf (setMinor2 m r i mn) = true :=
  dramWrite_wf _ _ _ h

/-- A line written under any region mode keeps the canonical form. -/
theorem writeLine_wf (m : List Host.Cell) (r : Region) (pa : Nat) (key : List Byte) (mj mn : Nat) (p : Bool) (d : List Byte)
    (h : Memory.wf m = true) : Memory.wf (writeLine m r pa key mj mn p d) = true := by
  unfold writeLine
  dsimp only
  split
  · exact dramWrite_wf _ _ _ (dramWrite_wf _ _ _ h)
  · exact dramWrite_wf _ _ _ (setMinor2_wf _ _ _ _ (dramWrite_wf _ _ _ (dramWrite_wf _ _ _ h)))
  · exact dramWrite_wf _ _ _ (dramWrite_wf _ _ _ h)
  · exact dramWrite_wf _ _ _ h

/-- Poisoning a line keeps the canonical form. -/
theorem poisonLine_wf (m : List Host.Cell) (r : Region) (pa : Nat) (key : List Byte) (h : Memory.wf m = true) :
    Memory.wf (poisonLine m r pa key) = true := by
  unfold poisonLine
  dsimp only
  split
  · exact dramWrite_wf _ _ _ h
  · exact dramWrite_wf _ _ _ h
  · exact dramWrite_wf _ _ _ h
  · exact h

/-- Re-keying a line keeps the canonical form. -/
theorem rekeyLine_wf (m0 m : List Host.Cell) (lost : Nat → Bool) (r : Region) (pa : Nat) (k1 k2 : List Byte) (mj : Nat)
    (h : Memory.wf m = true) : Memory.wf (rekeyLine m0 m lost r pa k1 k2 mj).1 = true := by
  unfold rekeyLine
  dsimp only
  split <;> exact writeLine_wf _ _ _ _ _ _ _ _ h

/-- Re-keying a page keeps the canonical form. -/
theorem rekeyPage_wf (m : List Host.Cell) (lost : Nat → Bool) (r : Region) (p : Nat) (k1 k2 : List Byte)
    (h : Memory.wf m = true) : Memory.wf (rekeyPage m lost r p k1 k2).1 = true := by
  unfold rekeyPage
  generalize List.range 64 = l
  suffices H : ∀ (a : List Host.Cell × Nat), Memory.wf a.1 = true → Memory.wf (l.foldl (fun acc k =>
      let (m1, bad) := rekeyLine m acc.1 lost r (p * 4096 + 64 * k) k1 k2 (majorOf m r (r.lineNo (p * 4096)) + 1)
      (m1, acc.2 + b2n bad)) a).1 = true from H _ h
  induction l with
  | nil => exact fun a ha => ha
  | cons x l ih => exact fun a ha => ih _ (rekeyLine_wf _ _ _ _ _ _ _ _ ha)

/-- Initialising a region keeps the canonical form. -/
theorem initRegion_wf (key : List Byte) (r : Region) (m : List Host.Cell) (n : Nat) (h : Memory.wf m = true) :
    Memory.wf (initRegion key r m n) = true := by
  induction n with
  | zero => exact h
  | succ n ih => exact writeLine_wf _ _ _ _ _ _ _ _ ih

end Sys2Proof.Machine
end

