-- ==== Sys2Proof/Laws/Ciphers.lean ====
section
/-! SUPPORT. Lengths of the ciphers' outputs, the Reed-Solomon check, and bytes of memory read back. -/

namespace Sys2Proof.Machine

set_option maxRecDepth 20000

/-- The AES key schedule: words of 4 bytes, as many as asked. -/
theorem expand_len : ∀ (n i : Nat) (rc : Byte) (w : List (List Byte)), (∀ x ∈ w, x.length = 4) → 8 ≤ w.length →
    (∀ x ∈ aesExpand n i rc w, x.length = 4) ∧ (aesExpand n i rc w).length = w.length + n
  | 0, _, _, w, h, _ => ⟨h, rfl⟩
  | n + 1, i, rc, w, h, hl => by
    have h0 : (w.getD 0 []).length = 4 := by
      rw [List.getD_eq_getElem?_getD, List.getElem?_eq_getElem (by omega)]
      exact h _ (List.getElem_mem ..)
    have h7 : (w.getD 7 []).length = 4 := by
      rw [List.getD_eq_getElem?_getD, List.getElem?_eq_getElem (by omega)]
      exact h _ (List.getElem_mem ..)
    simp only [aesExpand]
    have ht : ∀ t : List Byte, t.length = 4 → ∀ x ∈ List.zipWith (· ^^^ ·) t (w.getD 7 []) :: w, x.length = 4 := by
      intro t ht x hx
      rcases List.mem_cons.mp hx with rfl | hx
      · rw [List.length_zipWith, ht, h7]
        rfl
      · exact h x hx
    have key : ∀ t : List Byte, t.length = 4 → ∀ rc', (∀ x ∈ aesExpand n (i + 1) rc' (List.zipWith (· ^^^ ·) t (w.getD 7 []) :: w), x.length = 4) ∧
        (aesExpand n (i + 1) rc' (List.zipWith (· ^^^ ·) t (w.getD 7 []) :: w)).length = w.length + (n + 1) := by
      intro t hlen rc'
      have := expand_len n (i + 1) rc' _ (ht t hlen) (by simp only [List.length_cons]; omega)
      refine ⟨this.1, this.2.trans ?_⟩
      simp only [List.length_cons]
      omega
    apply key
    split
    · split
      · rfl
      · rw [List.length_map, h0]
    · split
      · rw [List.length_map, h0]
      · exact h0

/-- Chunks of four bytes. -/
theorem chunks4_len : ∀ (n : Nat) (l : List Byte), 4 * n ≤ l.length → (∀ x ∈ chunks4 n l, x.length = 4) ∧ (chunks4 n l).length = n
  | 0, _, _ => ⟨by simp [chunks4], rfl⟩
  | n + 1, l, h => by
    obtain ⟨h1, h2⟩ := chunks4_len n (l.drop 4) (by rw [List.length_drop]; omega)
    refine ⟨fun x hx => ?_, by simp [chunks4, h2]⟩
    rcases List.mem_cons.mp hx with rfl | hx
    · rw [List.length_take]
      omega
    · exact h1 x hx

/-- The length of a list of chunks of one length, joined. -/
theorem flatten_len (l : List (List Byte)) (n : Nat) (h : ∀ x ∈ l, x.length = n) : l.flatten.length = n * l.length := by
  induction l with
  | nil => simp
  | cons a l ih =>
    rw [List.flatten_cons, List.length_append, ih (fun x hx => h x (List.mem_cons_of_mem _ hx)), h a (List.mem_cons_self ..), List.length_cons,
      Nat.mul_succ]
    omega

/-- Fifteen round keys of 16 bytes. -/
theorem aesKeys_len (key : List Byte) (h : key.length = 32) : (aesKeys key).length = 15 ∧ ∀ k ∈ aesKeys key, k.length = 16 := by
  obtain ⟨c1, c2⟩ := chunks4_len 8 key (by omega)
  obtain ⟨e1, e2⟩ := expand_len 52 8 1 (chunks4 8 key).reverse (fun x hx => c1 x (List.mem_reverse.mp hx)) (by have := c2; simp only [List.length_reverse]; omega)
  refine ⟨by simp [aesKeys], fun k hk => ?_⟩
  simp only [aesKeys, List.mem_map, List.mem_range] at hk
  obtain ⟨r, hr, rfl⟩ := hk
  have hl : ((aesExpand 52 8 1 (chunks4 8 key).reverse).reverse).length = 60 := by
    rw [List.length_reverse, e2, List.length_reverse, c2]
  rw [flatten_len _ 4]
  · simp only [aesKeys.slice4, List.length_take, List.length_drop, hl]
    omega
  · intro x hx
    exact e1 x (List.mem_reverse.mp (List.mem_of_mem_drop (List.mem_of_mem_take hx)))

/-- The rounds of AES give 16 bytes. -/
theorem aesRounds_len : ∀ (l : List (List Byte)) (s : List Byte), l ≠ [] → (∀ k ∈ l, k.length = 16) → (aesRounds l s).length = 16
  | [], _, h, _ => absurd rfl h
  | [k], s, _, h => by
    simp only [aesRounds, xorBytes, List.length_zipWith, aesShift, List.length_map, List.length_range, h k (List.mem_cons_self ..)]
    rfl
  | k :: j :: r, s, _, h => aesRounds_len (j :: r) _ (by simp) (fun x hx => h x (List.mem_cons_of_mem _ hx))

/-- AES gives 16 bytes. -/
theorem aes256_len (key blk : List Byte) (h : key.length = 32) : (aes256 key blk).length = 16 := by
  obtain ⟨h1, h2⟩ := aesKeys_len key h
  unfold aes256
  split
  · rename_i e
    rw [e] at h1
    cases h1
  · rename_i k r e
    rw [e] at h1 h2
    refine aesRounds_len r _ ?_ (fun x hx => h2 x (List.mem_cons_of_mem _ hx))
    rintro rfl
    simp at h1

/-- Exclusive or with the same bytes twice changes nothing. -/
theorem xorBytes_twice (a b : List Byte) (h : a.length ≤ b.length) : xorBytes (xorBytes a b) b = a := by
  induction a generalizing b with
  | nil => rfl
  | cons x a ih =>
    cases b with
    | nil => simp at h
    | cons y b =>
      simp only [xorBytes, List.zipWith_cons_cons] at *
      rw [ih b (by simpa using h), BitVec.xor_assoc, BitVec.xor_self, BitVec.xor_zero]

/-- The four blocks of an encrypted line. -/
theorem cryptLine_eq (key : List Byte) (pa mj mn : Nat) (l : List Byte) : cryptLine key pa mj mn l =
    xorBytes (slice 0 16 l) (aes256 key (counterBlock 0 pa mj mn 0)) ++ xorBytes (slice 16 16 l) (aes256 key (counterBlock 0 pa mj mn 1)) ++
    xorBytes (slice 32 16 l) (aes256 key (counterBlock 0 pa mj mn 2)) ++ xorBytes (slice 48 16 l) (aes256 key (counterBlock 0 pa mj mn 3)) := by
  simp only [cryptLine, List.range, List.range.loop, List.flatMap_cons, List.flatMap_nil, List.append_nil, List.append_assoc, Nat.mul_zero]

/-- The four blocks of four blocks joined. -/
theorem slice4 (a b c d : List Byte) (ha : a.length = 16) (hb : b.length = 16) (hc : c.length = 16) (hd : d.length = 16) :
    slice 0 16 (a ++ b ++ c ++ d) = a ∧ slice 16 16 (a ++ b ++ c ++ d) = b ∧ slice 32 16 (a ++ b ++ c ++ d) = c ∧
      slice 48 16 (a ++ b ++ c ++ d) = d := by
  refine ⟨?_, ?_, ?_, ?_⟩ <;> simp [slice, List.append_assoc, List.drop_append, ha, hb, hc, hd, List.drop_eq_nil_of_le, List.take_of_length_le]

/-- The loop of the product is additive in its first factor. -/
theorem rsMulAux_xor : ∀ (n a a' b acc acc' : Nat), a < 2 ^ 16 → a' < 2 ^ 16 →
    rsMulAux n (a ^^^ a') b (acc ^^^ acc') = rsMulAux n a b acc ^^^ rsMulAux n a' b acc'
  | 0, _, _, _, _, _, _, _ => rfl
  | n + 1, a, a', b, acc, acc', h, h' => by
    simp only [rsMulAux]
    have step : ∀ x : Nat, x < 2 ^ 16 → (if x.testBit 15 then (x * 2 % 0x10000) ^^^ 0x100B else x * 2) < 2 ^ 16 := by
      intro x hx
      split
      · exact Nat.xor_lt_two_pow (Nat.mod_lt _ (by decide)) (by decide)
      · rename_i hb
        have : x < 2 ^ 15 := by
          refine Nat.lt_of_not_le fun hle => hb ?_
          rw [Nat.testBit_eq_decide_div_mod_eq]
          simp only [decide_eq_true_eq]
          omega
        omega
    have lin : (if (a ^^^ a').testBit 15 then ((a ^^^ a') * 2 % 0x10000) ^^^ 0x100B else (a ^^^ a') * 2) =
        (if a.testBit 15 then (a * 2 % 0x10000) ^^^ 0x100B else a * 2) ^^^ (if a'.testBit 15 then (a' * 2 % 0x10000) ^^^ 0x100B else a' * 2) := by
      have dbl : (a ^^^ a') * 2 = a * 2 ^^^ a' * 2 := by
        have := Nat.shiftLeft_xor_distrib (a := a) (b := a') (i := 1)
        simpa [Nat.shiftLeft_eq] using this
      have small : ∀ x : Nat, x < 2 ^ 16 → x.testBit 15 = false → x * 2 % 0x10000 = x * 2 := by
        intro x hx hb
        rw [Nat.testBit_eq_decide_div_mod_eq] at hb
        simp only [decide_eq_false_iff_not] at hb
        omega
      have md : (a ^^^ a') * 2 % 0x10000 = (a * 2 % 0x10000) ^^^ (a' * 2 % 0x10000) := by
        rw [dbl]
        exact Nat.xor_mod_two_pow (n := 16)
      rw [Nat.testBit_xor]
      cases h1 : a.testBit 15 <;> cases h2 : a'.testBit 15
      · simpa using dbl
      · simp only [Bool.false_bne, if_true, Bool.false_eq_true, if_false]
        rw [md, small a h h1, Nat.xor_assoc]
      · simp only [Bool.bne_false, if_true, Bool.false_eq_true, if_false]
        rw [md, small a' h' h2, Nat.xor_assoc, Nat.xor_assoc, Nat.xor_comm 0x100B]
      · simp only [bne_self_eq_false, if_true, Bool.false_eq_true, if_false]
        rw [← small (a ^^^ a') (Nat.xor_lt_two_pow h h') (by rw [Nat.testBit_xor, h1, h2]; rfl), md, Nat.xor_assoc,
          Nat.xor_comm 0x100B, Nat.xor_assoc, Nat.xor_self, Nat.xor_zero]
    rw [lin]
    have lin2 : (if b % 2 = 1 then (acc ^^^ acc') ^^^ (a ^^^ a') else acc ^^^ acc') =
        (if b % 2 = 1 then acc ^^^ a else acc) ^^^ (if b % 2 = 1 then acc' ^^^ a' else acc') := by
      split
      · rw [Nat.xor_assoc, ← Nat.xor_assoc acc' a a', Nat.xor_comm acc' a, Nat.xor_assoc, ← Nat.xor_assoc acc a]
      · rfl
    rw [lin2]
    exact rsMulAux_xor n _ _ _ _ _ (step a h) (step a' h')

/-- The loop of the product stays below 2^16. -/
theorem rsMulAux_lt : ∀ (n a b acc : Nat), a < 2 ^ 16 → acc < 2 ^ 16 → rsMulAux n a b acc < 2 ^ 16
  | 0, _, _, _, _, h => h
  | n + 1, a, b, acc, h, h' => by
    simp only [rsMulAux]
    refine rsMulAux_lt n _ _ _ ?_ ?_
    · split
      · exact Nat.xor_lt_two_pow (Nat.mod_lt _ (by decide)) (by decide)
      · rename_i hb
        rw [Nat.testBit_eq_decide_div_mod_eq] at hb
        simp only [decide_eq_true_eq] at hb
        omega
    · split
      · exact Nat.xor_lt_two_pow h' h
      · exact h'

/-- The product is additive in its first factor. -/
theorem rsMul_xor (a a' b : Nat) (h : a < 2 ^ 16) (h' : a' < 2 ^ 16) : rsMul (a ^^^ a') b = rsMul a b ^^^ rsMul a' b := by
  have := rsMulAux_xor 16 a a' b 0 0 h h'
  simpa [rsMul] using this

/-- The product is below 2^16. -/
theorem rsMul_lt (a b : Nat) (h : a < 2 ^ 16) : rsMul a b < 2 ^ 16 := rsMulAux_lt 16 a b 0 h (by decide)

/-- Two additive maps that agree on the powers of two agree. -/
theorem linear_ext (f g : Nat → Nat) (n : Nat) (hf : ∀ a b, a < 2 ^ n → b < 2 ^ n → f (a ^^^ b) = f a ^^^ f b)
    (hg : ∀ a b, a < 2 ^ n → b < 2 ^ n → g (a ^^^ b) = g a ^^^ g b) (h : ∀ k < n, f (2 ^ k) = g (2 ^ k)) : ∀ x < 2 ^ n, f x = g x := by
  have h0 : ∀ F : Nat → Nat, (∀ a b, a < 2 ^ n → b < 2 ^ n → F (a ^^^ b) = F a ^^^ F b) → F 0 = 0 := by
    intro F hF
    have := hF 0 0 (Nat.two_pow_pos n) (Nat.two_pow_pos n)
    rwa [Nat.xor_self, Nat.xor_self] at this
  suffices H : ∀ m ≤ n, ∀ x < 2 ^ m, f x = g x from H n (Nat.le_refl n)
  intro m
  induction m with
  | zero =>
    intro _ x hx
    have : x = 0 := by simpa using hx
    rw [this, h0 f hf, h0 g hg]
  | succ m ih =>
    intro hm x hx
    have hp : 2 ^ m < 2 ^ n := Nat.pow_lt_pow_right (by decide) hm
    by_cases hb : x < 2 ^ m
    · exact ih (by omega) x hb
    · have hlt : x - 2 ^ m < 2 ^ m := by rw [Nat.pow_succ] at hx; omega
      have e : x = 2 ^ m ^^^ (x - 2 ^ m) := by
        have := Nat.two_pow_add_eq_or_of_lt hlt 1
        rw [Nat.mul_one] at this
        conv => lhs; rw [show x = 2 ^ m + (x - 2 ^ m) by omega, this]
        apply Nat.eq_of_testBit_eq
        intro i
        rw [Nat.testBit_or, Nat.testBit_xor, Nat.testBit_two_pow]
        by_cases hi : m = i
        · subst hi
          simp [Nat.testBit_lt_two_pow hlt]
        · simp [hi]
      rw [e, hf _ _ hp (by omega), hg _ _ hp (by omega), h m (by omega), ih (by omega) _ hlt]

/-- 1 is the unit. -/
theorem rsMul_one : ∀ x < 2 ^ 16, rsMul x 1 = x :=
  linear_ext (fun x => rsMul x 1) id 16 (fun a b ha hb => rsMul_xor a b 1 ha hb) (fun _ _ _ _ => rfl) (by decide)

/-- Two products with α are one with α². -/
theorem rsMul_two_two : ∀ x < 2 ^ 16, rsMul (rsMul x 2) 2 = rsMul x (rsPow 2) :=
  linear_ext (fun x => rsMul (rsMul x 2) 2) (fun x => rsMul x (rsPow 2)) 16
    (fun a b ha hb => by show rsMul (rsMul (a ^^^ b) 2) 2 = _; rw [rsMul_xor a b 2 ha hb, rsMul_xor _ _ 2 (rsMul_lt _ _ ha) (rsMul_lt _ _ hb)])
    (fun a b ha hb => rsMul_xor a b _ ha hb) (by decide)

/-- Division by α + 1. -/
theorem rsMul_inv_three : ∀ x < 2 ^ 16, rsMul (rsMul x (rsInv 3)) 2 ^^^ rsMul x (rsInv 3) = x :=
  linear_ext (fun x => rsMul (rsMul x (rsInv 3)) 2 ^^^ rsMul x (rsInv 3)) id 16
    (fun a b ha hb => by
      show rsMul (rsMul (a ^^^ b) (rsInv 3)) 2 ^^^ rsMul (a ^^^ b) (rsInv 3) = _
      rw [rsMul_xor a b _ ha hb, rsMul_xor _ _ 2 (rsMul_lt _ _ ha) (rsMul_lt _ _ hb)]
      rw [Nat.xor_assoc, Nat.xor_assoc, ← Nat.xor_assoc (rsMul (rsMul b _) 2), Nat.xor_comm (rsMul (rsMul b _) 2) (rsMul a _), Nat.xor_assoc])
    (fun _ _ _ _ => rfl) (by decide)

/-- A value of a polynomial is below 2^16. -/
theorem rsEval_lt (x : Nat) (l : List Nat) (h : ∀ v ∈ l, v < 2 ^ 16) : rsEval x l < 2 ^ 16 := by
  suffices H : ∀ a, a < 2 ^ 16 → l.foldl (fun a s => rsMul a x ^^^ s) a < 2 ^ 16 from H 0 (by decide)
  induction l with
  | nil => exact fun a h => h
  | cons v l ih =>
    intro a ha
    exact ih (fun w hw => h w (List.mem_cons_of_mem _ hw)) _ (Nat.xor_lt_two_pow (rsMul_lt a x ha) (h v (List.mem_cons_self ..)))

/-- A symbol is below 2^16. -/
theorem symbols16_lt : ∀ l : List Byte, ∀ v ∈ symbols16 l, v < 2 ^ 16
  | [], _, h => by simp [symbols16] at h
  | [_], _, h => by simp [symbols16] at h
  | a :: b :: r, v, h => by
    simp only [symbols16, List.mem_cons] at h
    rcases h with rfl | h
    · have := a.isLt
      have := b.isLt
      omega
    · exact symbols16_lt r v h

/-- The symbols of two lists joined. -/
theorem symbols16_append : ∀ a b : List Byte, a.length % 2 = 0 → symbols16 (a ++ b) = symbols16 a ++ symbols16 b
  | [], _, _ => rfl
  | [_], _, h => by simp at h
  | x :: y :: r, b, h => by
    simp only [List.cons_append, symbols16]
    rw [symbols16_append r b (by simp only [List.length_cons] at h; omega)]

/-- The symbol of two bytes. -/
theorem symbols16_leBytes (v : Nat) (h : v < 2 ^ 16) : symbols16 (leBytes 2 v) = [v] := by
  simp only [leBytes, symbols16, BitVec.toNat_ofNat, List.cons.injEq, and_true]
  omega

/-- A message followed by its check symbols is a clean codeword. -/
theorem rsDecode_check (msg : List Byte) (h : msg.length % 2 = 0) : rsDecode (msg ++ rsCheck msg) = .clean := by
  have hs := symbols16_lt msg
  have m1 := rsEval_lt 1 _ hs
  have m2 := rsEval_lt 2 _ hs
  have hx := Nat.xor_lt_two_pow m1 (rsMul_lt _ (rsPow 2) m2)
  have h1 := rsMul_lt _ (rsInv 3) hx
  have h0 := Nat.xor_lt_two_pow m1 h1
  have key := rsMul_inv_three _ hx
  have sy : symbols16 (msg ++ rsCheck msg) = symbols16 msg ++ [rsMul (rsEval 1 (symbols16 msg) ^^^ rsMul (rsEval 2 (symbols16 msg)) (rsPow 2)) (rsInv 3),
      rsEval 1 (symbols16 msg) ^^^ rsMul (rsEval 1 (symbols16 msg) ^^^ rsMul (rsEval 2 (symbols16 msg)) (rsPow 2)) (rsInv 3)] := by
    rw [symbols16_append _ _ h]
    simp only [rsCheck]
    rw [symbols16_append _ _ (by simp), symbols16_leBytes _ h1, symbols16_leBytes _ h0]
    rfl
  unfold rsDecode
  simp only [sy]
  have two : ∀ x (l : List Nat) a b, rsEval x (l ++ [a, b]) = rsMul (rsMul (rsEval x l) x ^^^ a) x ^^^ b := by
    intro x l a b
    simp only [rsEval, List.foldl_append, List.foldl_cons, List.foldl_nil]
  rw [two, two]
  generalize rsEval 1 (symbols16 msg) = M1 at *
  generalize rsEval 2 (symbols16 msg) = M2 at *
  rw [if_pos]
  constructor
  · rw [rsMul_one _ m1, rsMul_one _ h0, Nat.xor_self]
  · rw [rsMul_xor _ _ _ (rsMul_lt _ _ m2) h1, rsMul_two_two _ m2]
    generalize rsMul (M1 ^^^ rsMul M2 (rsPow 2)) (rsInv 3) = r1 at *
    generalize rsMul M2 (rsPow 2) = p at *
    rw [Nat.xor_assoc, Nat.xor_comm M1 r1, ← Nat.xor_assoc (rsMul r1 2), key, Nat.xor_comm M1 p, Nat.xor_assoc p M1 M1, Nat.xor_self,
      Nat.xor_zero, Nat.xor_self]

/-- A MINOR put in its counter line reads back. -/
theorem put_minor (v mn n : Nat) (hn : n < 64) (hv : v < 2 ^ 448) :
    bits ((v - v / 2 ^ (7 * n) % 128 * 2 ^ (7 * n) + mn % 128 * 2 ^ (7 * n)) % 2 ^ 448) (7 * n + 6) (7 * n) = mn % 128 := by
  have hp : 0 < 2 ^ (7 * n) := Nat.two_pow_pos _
  have e448 : 2 ^ 448 = 2 ^ (7 * n) * (128 * 2 ^ (448 - 7 * n - 7)) := by
    rw [show (128 : Nat) = 2 ^ 7 from rfl, ← Nat.pow_add, ← Nat.pow_add]
    congr 1
    omega
  generalize hP : 2 ^ (7 * n) = P at *
  generalize 2 ^ (448 - 7 * n - 7) = Q at *
  have hv1 := Nat.div_add_mod v P
  have hv2 := Nat.div_add_mod (v / P) 128
  have hr := Nat.mod_lt v hp
  have hd := Nat.mod_lt (v / P) (show 0 < 128 by decide)
  generalize v / P = w at *
  generalize v % P = rem at *
  generalize hq : w / 128 = q at *
  generalize hdd : w % 128 = d at *
  have hm := Nat.mod_lt mn (show 0 < 128 by decide)
  generalize mn % 128 = x at *
  have e1 : v - d * P + x * P = P * (128 * q + x) + rem := by
    have : v = P * (128 * q) + P * d + rem := by rw [← Nat.mul_add]; rw [hv2]; omega
    rw [this, Nat.mul_add, Nat.mul_comm d P, Nat.mul_comm x P]
    omega
  have hwlt : w < 128 * Q := by
    rw [e448] at hv
    exact Nat.lt_of_mul_lt_mul_left (a := P) (by omega)
  have hlt : 128 * q + x < 128 * Q := by omega
  have e2 : P * (128 * q + x) + rem < 2 ^ 448 := by
    rw [e448]
    have : P * (128 * q + x + 1) ≤ P * (128 * Q) := Nat.mul_le_mul_left _ hlt
    rw [Nat.mul_add, Nat.mul_one] at this
    omega
  rw [e1, Nat.mod_eq_of_lt e2]
  simp only [bits, hP, show 7 * n + 6 + 1 - 7 * n = 7 by omega]
  rw [Nat.mul_add_div hp, Nat.div_eq_of_lt hr]
  omega

/-- A read of two ranges that meet. -/
theorem dramRead_append (m : List Host.Cell) (a n k : Nat) : dramRead m a (n + k) = dramRead m a n ++ dramRead m (a + n) k := by
  induction n generalizing a with
  | zero => simp [dramRead]
  | succ n ih =>
    rw [show n + 1 + k = (n + k) + 1 by omega]
    simp only [dramRead, List.cons_append]
    rw [ih, show a + 1 + n = a + (n + 1) by omega]

/-- What was written reads back. -/
theorem dramRead_write (m : List Host.Cell) (a n : Nat) (l : List Byte) (h : l.length = n) : dramRead (dramWrite m a l) a n = l := by
  subst h
  exact dramRead_dramWrite_same l m a

/-- The first bytes of what was written read back. -/
theorem dramRead_prefix (m : List Host.Cell) (a n : Nat) (l k : List Byte) (h : l.length = n) : dramRead (dramWrite m a (l ++ k)) a n = l := by
  have := dramRead_dramWrite_same (l ++ k) m a
  rw [List.length_append, dramRead_append] at this
  subst h
  exact (List.append_inj this (dramRead_length _ _ _)).1

/-- Bytes in the middle of what was written read back. -/
theorem dramRead_mid (m : List Host.Cell) (a n : Nat) (j l k : List Byte) (h : l.length = n) :
    dramRead (dramWrite m a (j ++ l ++ k)) (a + j.length) n = l := by
  have := dramRead_dramWrite_same (j ++ l ++ k) m a
  rw [List.length_append, List.length_append, dramRead_append, dramRead_append] at this
  subst h
  have h1 := (List.append_inj this (by simp [dramRead_length])).1
  exact (List.append_inj h1 (dramRead_length _ _ _)).2

/-- The check is four bytes. -/
theorem rsCheck_length (l : List Byte) : (rsCheck l).length = 4 := by simp [rsCheck]

/-- The three parts of MAJOR. -/
theorem major_parts (a b c mj : Nat) (h : bits a 23 0 + bits b 23 0 * 2 ^ 24 + bits c 15 0 * 2 ^ 48 = mj) :
    bits mj 23 0 = bits a 23 0 ∧ bits mj 47 24 = bits b 23 0 ∧ bits mj 63 48 = bits c 15 0 := by
  simp only [bits] at *
  omega

end Sys2Proof.Machine
end

