-- ==== Sys2Proof/Laws/Complete.lean ====
section
/-! SUPPORT. The frame of a completion: whatever its status, only registers (counters), the reply and the interrupts change. -/

namespace Sys2Proof.Machine

/-- Two states that agree on everything but the registers. -/
def OnlyRegs (s u : State) : Prop := ∃ m, u = { s with regs := m }

theorem OnlyRegs.refl (s : State) : OnlyRegs s s := ⟨s.regs, rfl⟩

theorem OnlyRegs.trans {a b c : State} (h : OnlyRegs a b) (k : OnlyRegs b c) : OnlyRegs a c := by
  obtain ⟨m, rfl⟩ := h
  obtain ⟨n, rfl⟩ := k
  exact ⟨n, rfl⟩

theorem OnlyRegs.setReg {a b : State} (h : OnlyRegs a b) (o v : Nat) : OnlyRegs a (b.setReg o v) := h.trans ⟨_, rfl⟩

theorem OnlyRegs.bump {a b : State} (h : OnlyRegs a b) (o n : Nat) : OnlyRegs a (b.bump o n) := h.setReg _ _

theorem OnlyRegs.ledAdd {a b : State} (h : OnlyRegs a b) (l k n : Nat) : OnlyRegs a (b.ledAdd l k n) := h.bump _ _

theorem OnlyRegs.foldl {α : Type} {a : State} (f : State → α → State) (hf : ∀ s x, OnlyRegs s (f s x)) :
    ∀ (l : List α) (b : State), OnlyRegs a b → OnlyRegs a (l.foldl f b)
  | [], _, h => h
  | x :: r, b, h => OnlyRegs.foldl f hf r (f b x) (h.trans (hf b x))

/-- Counting an event changes counters only. -/
theorem OnlyRegs.countEvent {a b : State} (h : OnlyRegs a b) (c w e n : Nat) : OnlyRegs a (b.countEvent c w e n) := by
  refine OnlyRegs.foldl _ (fun s k => ?_) _ _ h
  simp only
  split
  · exact (OnlyRegs.refl s).bump _ _
  · exact OnlyRegs.refl s

/-- The counters of a completion are registers. -/
theorem tally_onlyRegs (s : State) (w : Bool) (rs : Nat) (st : Status) : OnlyRegs s (s.tally w rs st) := by
  have h := OnlyRegs.refl s
  cases st
  case decode => exact ((h.bump _ _).ledAdd _ _ _).ledAdd _ _ _
  case denied => exact h.bump _ _
  case timeout => exact h.bump _ _
  case gated => exact ((((h.bump _ _).bump _ _).countEvent _ _ _ _).ledAdd _ _ _).ledAdd _ _ _
  case fenced => exact (((h.bump _ _).countEvent _ _ _ _).ledAdd _ _ _).ledAdd _ _ _
  case isolated => exact (((h.bump _ _).countEvent _ _ _ _).ledAdd _ _ _).ledAdd _ _ _
  case refused =>
    cases w
    · exact (h.ledAdd _ _ _).ledAdd _ _ _
    · exact ((h.bump _ _).ledAdd _ _ _).ledAdd _ _ _
  all_goals exact (h.ledAdd _ _ _).ledAdd _ _ _

/-- What a completion changes. -/
theorem complete_shape (s : State) (r : Requester) (o : Nat) (w : Bool) (st : Status) (d : List Byte) :
    ∃ m i, s.complete r o w st d = { s with regs := m, irqs := i, reply := ⟨st, d⟩ } := by
  obtain ⟨m, h⟩ := tally_onlyRegs s w (stopOf (o / 256)) st
  unfold State.complete
  rw [h]
  cases r with
  | session i => exact ⟨m, s.irqs, rfl⟩
  | debugPort => exact ⟨m, s.irqs, rfl⟩
  | firmware c =>
    simp only
    split
    · exact ⟨m, s.irqs, rfl⟩
    · exact ⟨_, _, rfl⟩

@[simp] theorem State.complete_reply (s : State) (r : Requester) (o : Nat) (w : Bool) (st : Status) (d : List Byte) :
    (s.complete r o w st d).reply = ⟨st, d⟩ := by
  obtain ⟨m, i, h⟩ := complete_shape s r o w st d
  rw [h]

@[simp] theorem State.complete_pending (s : State) (r : Requester) (o : Nat) (w : Bool) (st : Status) (d : List Byte) :
    (s.complete r o w st d).pending = s.pending := by
  obtain ⟨m, i, h⟩ := complete_shape s r o w st d
  rw [h]
@[simp] theorem State.complete_now (s : State) (r : Requester) (o : Nat) (w : Bool) (st : Status) (d : List Byte) :
    (s.complete r o w st d).now = s.now := by
  obtain ⟨m, i, h⟩ := complete_shape s r o w st d
  rw [h]
@[simp] theorem State.complete_resetAt (s : State) (r : Requester) (o : Nat) (w : Bool) (st : Status) (d : List Byte) :
    (s.complete r o w st d).resetAt = s.resetAt := by
  obtain ⟨m, i, h⟩ := complete_shape s r o w st d
  rw [h]
@[simp] theorem State.complete_porAt (s : State) (r : Requester) (o : Nat) (w : Bool) (st : Status) (d : List Byte) :
    (s.complete r o w st d).porAt = s.porAt := by
  obtain ⟨m, i, h⟩ := complete_shape s r o w st d
  rw [h]
@[simp] theorem State.complete_draws (s : State) (r : Requester) (o : Nat) (w : Bool) (st : Status) (d : List Byte) :
    (s.complete r o w st d).draws = s.draws := by
  obtain ⟨m, i, h⟩ := complete_shape s r o w st d
  rw [h]
@[simp] theorem State.complete_images (s : State) (r : Requester) (o : Nat) (w : Bool) (st : Status) (d : List Byte) :
    (s.complete r o w st d).images = s.images := by
  obtain ⟨m, i, h⟩ := complete_shape s r o w st d
  rw [h]
@[simp] theorem State.complete_past (s : State) (r : Requester) (o : Nat) (w : Bool) (st : Status) (d : List Byte) :
    (s.complete r o w st d).past = s.past := by
  obtain ⟨m, i, h⟩ := complete_shape s r o w st d
  rw [h]
@[simp] theorem State.complete_xfers (s : State) (r : Requester) (o : Nat) (w : Bool) (st : Status) (d : List Byte) :
    (s.complete r o w st d).xfers = s.xfers := by
  obtain ⟨m, i, h⟩ := complete_shape s r o w st d
  rw [h]
@[simp] theorem State.complete_aliasWins (s : State) (r : Requester) (o : Nat) (w : Bool) (st : Status) (d : List Byte) :
    (s.complete r o w st d).aliasWins = s.aliasWins := by
  obtain ⟨m, i, h⟩ := complete_shape s r o w st d
  rw [h]
@[simp] theorem State.complete_held (s : State) (r : Requester) (o : Nat) (w : Bool) (st : Status) (d : List Byte) :
    (s.complete r o w st d).held = s.held := by
  obtain ⟨m, i, h⟩ := complete_shape s r o w st d
  rw [h]
@[simp] theorem State.complete_staged (s : State) (r : Requester) (o : Nat) (w : Bool) (st : Status) (d : List Byte) :
    (s.complete r o w st d).staged = s.staged := by
  obtain ⟨m, i, h⟩ := complete_shape s r o w st d
  rw [h]
@[simp] theorem State.complete_flagCycle (s : State) (r : Requester) (o : Nat) (w : Bool) (st : Status) (d : List Byte) :
    (s.complete r o w st d).flagCycle = s.flagCycle := by
  obtain ⟨m, i, h⟩ := complete_shape s r o w st d
  rw [h]
@[simp] theorem State.complete_sent (s : State) (r : Requester) (o : Nat) (w : Bool) (st : Status) (d : List Byte) :
    (s.complete r o w st d).sent = s.sent := by
  obtain ⟨m, i, h⟩ := complete_shape s r o w st d
  rw [h]
@[simp] theorem State.complete_sessions (s : State) (r : Requester) (o : Nat) (w : Bool) (st : Status) (d : List Byte) :
    (s.complete r o w st d).sessions = s.sessions := by
  obtain ⟨m, i, h⟩ := complete_shape s r o w st d
  rw [h]
@[simp] theorem State.complete_streams (s : State) (r : Requester) (o : Nat) (w : Bool) (st : Status) (d : List Byte) :
    (s.complete r o w st d).streams = s.streams := by
  obtain ⟨m, i, h⟩ := complete_shape s r o w st d
  rw [h]
@[simp] theorem State.complete_ctls (s : State) (r : Requester) (o : Nat) (w : Bool) (st : Status) (d : List Byte) :
    (s.complete r o w st d).ctls = s.ctls := by
  obtain ⟨m, i, h⟩ := complete_shape s r o w st d
  rw [h]
@[simp] theorem State.complete_offerAt (s : State) (r : Requester) (o : Nat) (w : Bool) (st : Status) (d : List Byte) :
    (s.complete r o w st d).offerAt = s.offerAt := by
  obtain ⟨m, i, h⟩ := complete_shape s r o w st d
  rw [h]
@[simp] theorem State.complete_windowAt (s : State) (r : Requester) (o : Nat) (w : Bool) (st : Status) (d : List Byte) :
    (s.complete r o w st d).windowAt = s.windowAt := by
  obtain ⟨m, i, h⟩ := complete_shape s r o w st d
  rw [h]
@[simp] theorem State.complete_ttOff (s : State) (r : Requester) (o : Nat) (w : Bool) (st : Status) (d : List Byte) :
    (s.complete r o w st d).ttOff = s.ttOff := by
  obtain ⟨m, i, h⟩ := complete_shape s r o w st d
  rw [h]
@[simp] theorem State.complete_marker (s : State) (r : Requester) (o : Nat) (w : Bool) (st : Status) (d : List Byte) :
    (s.complete r o w st d).marker = s.marker := by
  obtain ⟨m, i, h⟩ := complete_shape s r o w st d
  rw [h]
@[simp] theorem State.complete_scheds (s : State) (r : Requester) (o : Nat) (w : Bool) (st : Status) (d : List Byte) :
    (s.complete r o w st d).scheds = s.scheds := by
  obtain ⟨m, i, h⟩ := complete_shape s r o w st d
  rw [h]
@[simp] theorem State.complete_ptp (s : State) (r : Requester) (o : Nat) (w : Bool) (st : Status) (d : List Byte) :
    (s.complete r o w st d).ptp = s.ptp := by
  obtain ⟨m, i, h⟩ := complete_shape s r o w st d
  rw [h]
@[simp] theorem State.complete_act (s : State) (r : Requester) (o : Nat) (w : Bool) (st : Status) (d : List Byte) :
    (s.complete r o w st d).act = s.act := by
  obtain ⟨m, i, h⟩ := complete_shape s r o w st d
  rw [h]
@[simp] theorem State.complete_trigs (s : State) (r : Requester) (o : Nat) (w : Bool) (st : Status) (d : List Byte) :
    (s.complete r o w st d).trigs = s.trigs := by
  obtain ⟨m, i, h⟩ := complete_shape s r o w st d
  rw [h]
@[simp] theorem State.complete_queues (s : State) (r : Requester) (o : Nat) (w : Bool) (st : Status) (d : List Byte) :
    (s.complete r o w st d).queues = s.queues := by
  obtain ⟨m, i, h⟩ := complete_shape s r o w st d
  rw [h]
@[simp] theorem State.complete_qports (s : State) (r : Requester) (o : Nat) (w : Bool) (st : Status) (d : List Byte) :
    (s.complete r o w st d).qports = s.qports := by
  obtain ⟨m, i, h⟩ := complete_shape s r o w st d
  rw [h]
@[simp] theorem State.complete_fcs (s : State) (r : Requester) (o : Nat) (w : Bool) (st : Status) (d : List Byte) :
    (s.complete r o w st d).fcs = s.fcs := by
  obtain ⟨m, i, h⟩ := complete_shape s r o w st d
  rw [h]
@[simp] theorem State.complete_siteFails (s : State) (r : Requester) (o : Nat) (w : Bool) (st : Status) (d : List Byte) :
    (s.complete r o w st d).siteFails = s.siteFails := by
  obtain ⟨m, i, h⟩ := complete_shape s r o w st d
  rw [h]
@[simp] theorem State.complete_reps (s : State) (r : Requester) (o : Nat) (w : Bool) (st : Status) (d : List Byte) :
    (s.complete r o w st d).reps = s.reps := by
  obtain ⟨m, i, h⟩ := complete_shape s r o w st d
  rw [h]
@[simp] theorem State.complete_hunits (s : State) (r : Requester) (o : Nat) (w : Bool) (st : Status) (d : List Byte) :
    (s.complete r o w st d).hunits = s.hunits := by
  obtain ⟨m, i, h⟩ := complete_shape s r o w st d
  rw [h]
@[simp] theorem State.complete_hlines (s : State) (r : Requester) (o : Nat) (w : Bool) (st : Status) (d : List Byte) :
    (s.complete r o w st d).hlines = s.hlines := by
  obtain ⟨m, i, h⟩ := complete_shape s r o w st d
  rw [h]
@[simp] theorem State.complete_hsamples (s : State) (r : Requester) (o : Nat) (w : Bool) (st : Status) (d : List Byte) :
    (s.complete r o w st d).hsamples = s.hsamples := by
  obtain ⟨m, i, h⟩ := complete_shape s r o w st d
  rw [h]
@[simp] theorem State.complete_hbits (s : State) (r : Requester) (o : Nat) (w : Bool) (st : Status) (d : List Byte) :
    (s.complete r o w st d).hbits = s.hbits := by
  obtain ⟨m, i, h⟩ := complete_shape s r o w st d
  rw [h]
@[simp] theorem State.complete_hports (s : State) (r : Requester) (o : Nat) (w : Bool) (st : Status) (d : List Byte) :
    (s.complete r o w st d).hports = s.hports := by
  obtain ⟨m, i, h⟩ := complete_shape s r o w st d
  rw [h]
@[simp] theorem State.complete_chans (s : State) (r : Requester) (o : Nat) (w : Bool) (st : Status) (d : List Byte) :
    (s.complete r o w st d).chans = s.chans := by
  obtain ⟨m, i, h⟩ := complete_shape s r o w st d
  rw [h]
@[simp] theorem State.complete_sers (s : State) (r : Requester) (o : Nat) (w : Bool) (st : Status) (d : List Byte) :
    (s.complete r o w st d).sers = s.sers := by
  obtain ⟨m, i, h⟩ := complete_shape s r o w st d
  rw [h]
@[simp] theorem State.complete_yards (s : State) (r : Requester) (o : Nat) (w : Bool) (st : Status) (d : List Byte) :
    (s.complete r o w st d).yards = s.yards := by
  obtain ⟨m, i, h⟩ := complete_shape s r o w st d
  rw [h]
@[simp] theorem State.complete_wakeIn (s : State) (r : Requester) (o : Nat) (w : Bool) (st : Status) (d : List Byte) :
    (s.complete r o w st d).wakeIn = s.wakeIn := by
  obtain ⟨m, i, h⟩ := complete_shape s r o w st d
  rw [h]
@[simp] theorem State.complete_clk (s : State) (r : Requester) (o : Nat) (w : Bool) (st : Status) (d : List Byte) :
    (s.complete r o w st d).clk = s.clk := by
  obtain ⟨m, i, h⟩ := complete_shape s r o w st d
  rw [h]
@[simp] theorem State.complete_dbg (s : State) (r : Requester) (o : Nat) (w : Bool) (st : Status) (d : List Byte) :
    (s.complete r o w st d).dbg = s.dbg := by
  obtain ⟨m, i, h⟩ := complete_shape s r o w st d
  rw [h]
@[simp] theorem State.complete_seq (s : State) (r : Requester) (o : Nat) (w : Bool) (st : Status) (d : List Byte) :
    (s.complete r o w st d).seq = s.seq := by
  obtain ⟨m, i, h⟩ := complete_shape s r o w st d
  rw [h]
@[simp] theorem State.complete_resetting (s : State) (r : Requester) (o : Nat) (w : Bool) (st : Status) (d : List Byte) :
    (s.complete r o w st d).resetting = s.resetting := by
  obtain ⟨m, i, h⟩ := complete_shape s r o w st d
  rw [h]
@[simp] theorem State.complete_hot (s : State) (r : Requester) (o : Nat) (w : Bool) (st : Status) (d : List Byte) :
    (s.complete r o w st d).hot = s.hot := by
  obtain ⟨m, i, h⟩ := complete_shape s r o w st d
  rw [h]
@[simp] theorem State.complete_tripped (s : State) (r : Requester) (o : Nat) (w : Bool) (st : Status) (d : List Byte) :
    (s.complete r o w st d).tripped = s.tripped := by
  obtain ⟨m, i, h⟩ := complete_shape s r o w st d
  rw [h]
@[simp] theorem State.complete_cfg (s : State) (r : Requester) (o : Nat) (w : Bool) (st : Status) (d : List Byte) :
    (s.complete r o w st d).cfg = s.cfg := by
  obtain ⟨m, i, h⟩ := complete_shape s r o w st d
  rw [h]
@[simp] theorem State.complete_pads (s : State) (r : Requester) (o : Nat) (w : Bool) (st : Status) (d : List Byte) :
    (s.complete r o w st d).pads = s.pads := by
  obtain ⟨m, i, h⟩ := complete_shape s r o w st d
  rw [h]
@[simp] theorem State.complete_live (s : State) (r : Requester) (o : Nat) (w : Bool) (st : Status) (d : List Byte) :
    (s.complete r o w st d).live = s.live := by
  obtain ⟨m, i, h⟩ := complete_shape s r o w st d
  rw [h]
@[simp] theorem State.complete_shadow (s : State) (r : Requester) (o : Nat) (w : Bool) (st : Status) (d : List Byte) :
    (s.complete r o w st d).shadow = s.shadow := by
  obtain ⟨m, i, h⟩ := complete_shape s r o w st d
  rw [h]
@[simp] theorem State.complete_refs (s : State) (r : Requester) (o : Nat) (w : Bool) (st : Status) (d : List Byte) :
    (s.complete r o w st d).refs = s.refs := by
  obtain ⟨m, i, h⟩ := complete_shape s r o w st d
  rw [h]
@[simp] theorem State.complete_hostAudit (s : State) (r : Requester) (o : Nat) (w : Bool) (st : Status) (d : List Byte) :
    (s.complete r o w st d).hostAudit = s.hostAudit := by
  obtain ⟨m, i, h⟩ := complete_shape s r o w st d
  rw [h]
@[simp] theorem State.complete_autoAudit (s : State) (r : Requester) (o : Nat) (w : Bool) (st : Status) (d : List Byte) :
    (s.complete r o w st d).autoAudit = s.autoAudit := by
  obtain ⟨m, i, h⟩ := complete_shape s r o w st d
  rw [h]
@[simp] theorem State.complete_autoNext (s : State) (r : Requester) (o : Nat) (w : Bool) (st : Status) (d : List Byte) :
    (s.complete r o w st d).autoNext = s.autoNext := by
  obtain ⟨m, i, h⟩ := complete_shape s r o w st d
  rw [h]
@[simp] theorem State.complete_autoAt (s : State) (r : Requester) (o : Nat) (w : Bool) (st : Status) (d : List Byte) :
    (s.complete r o w st d).autoAt = s.autoAt := by
  obtain ⟨m, i, h⟩ := complete_shape s r o w st d
  rw [h]
@[simp] theorem State.complete_ffs (s : State) (r : Requester) (o : Nat) (w : Bool) (st : Status) (d : List Byte) :
    (s.complete r o w st d).ffs = s.ffs := by
  obtain ⟨m, i, h⟩ := complete_shape s r o w st d
  rw [h]
@[simp] theorem State.complete_wregs (s : State) (r : Requester) (o : Nat) (w : Bool) (st : Status) (d : List Byte) :
    (s.complete r o w st d).wregs = s.wregs := by
  obtain ⟨m, i, h⟩ := complete_shape s r o w st d
  rw [h]
@[simp] theorem State.complete_macs (s : State) (r : Requester) (o : Nat) (w : Bool) (st : Status) (d : List Byte) :
    (s.complete r o w st d).macs = s.macs := by
  obtain ⟨m, i, h⟩ := complete_shape s r o w st d
  rw [h]
@[simp] theorem State.complete_bram (s : State) (r : Requester) (o : Nat) (w : Bool) (st : Status) (d : List Byte) :
    (s.complete r o w st d).bram = s.bram := by
  obtain ⟨m, i, h⟩ := complete_shape s r o w st d
  rw [h]
@[simp] theorem State.complete_bramUpset (s : State) (r : Requester) (o : Nat) (w : Bool) (st : Status) (d : List Byte) :
    (s.complete r o w st d).bramUpset = s.bramUpset := by
  obtain ⟨m, i, h⟩ := complete_shape s r o w st d
  rw [h]
@[simp] theorem State.complete_bramOut (s : State) (r : Requester) (o : Nat) (w : Bool) (st : Status) (d : List Byte) :
    (s.complete r o w st d).bramOut = s.bramOut := by
  obtain ⟨m, i, h⟩ := complete_shape s r o w st d
  rw [h]
@[simp] theorem State.complete_bramRepair (s : State) (r : Requester) (o : Nat) (w : Bool) (st : Status) (d : List Byte) :
    (s.complete r o w st d).bramRepair = s.bramRepair := by
  obtain ⟨m, i, h⟩ := complete_shape s r o w st d
  rw [h]
@[simp] theorem State.complete_flPorts (s : State) (r : Requester) (o : Nat) (w : Bool) (st : Status) (d : List Byte) :
    (s.complete r o w st d).flPorts = s.flPorts := by
  obtain ⟨m, i, h⟩ := complete_shape s r o w st d
  rw [h]
@[simp] theorem State.complete_rxBuf (s : State) (r : Requester) (o : Nat) (w : Bool) (st : Status) (d : List Byte) :
    (s.complete r o w st d).rxBuf = s.rxBuf := by
  obtain ⟨m, i, h⟩ := complete_shape s r o w st d
  rw [h]
@[simp] theorem State.complete_rxOut (s : State) (r : Requester) (o : Nat) (w : Bool) (st : Status) (d : List Byte) :
    (s.complete r o w st d).rxOut = s.rxOut := by
  obtain ⟨m, i, h⟩ := complete_shape s r o w st d
  rw [h]
@[simp] theorem State.complete_ttPorts (s : State) (r : Requester) (o : Nat) (w : Bool) (st : Status) (d : List Byte) :
    (s.complete r o w st d).ttPorts = s.ttPorts := by
  obtain ⟨m, i, h⟩ := complete_shape s r o w st d
  rw [h]
@[simp] theorem State.complete_ttEdge (s : State) (r : Requester) (o : Nat) (w : Bool) (st : Status) (d : List Byte) :
    (s.complete r o w st d).ttEdge = s.ttEdge := by
  obtain ⟨m, i, h⟩ := complete_shape s r o w st d
  rw [h]
@[simp] theorem State.complete_gpios (s : State) (r : Requester) (o : Nat) (w : Bool) (st : Status) (d : List Byte) :
    (s.complete r o w st d).gpios = s.gpios := by
  obtain ⟨m, i, h⟩ := complete_shape s r o w st d
  rw [h]
@[simp] theorem State.complete_fabAt (s : State) (r : Requester) (o : Nat) (w : Bool) (st : Status) (d : List Byte) :
    (s.complete r o w st d).fabAt = s.fabAt := by
  obtain ⟨m, i, h⟩ := complete_shape s r o w st d
  rw [h]
@[simp] theorem State.complete_pulses (s : State) (r : Requester) (o : Nat) (w : Bool) (st : Status) (d : List Byte) :
    (s.complete r o w st d).pulses = s.pulses := by
  obtain ⟨m, i, h⟩ := complete_shape s r o w st d
  rw [h]
@[simp] theorem State.complete_stops (s : State) (r : Requester) (o : Nat) (w : Bool) (st : Status) (d : List Byte) :
    (s.complete r o w st d).stops = s.stops := by
  obtain ⟨m, i, h⟩ := complete_shape s r o w st d
  rw [h]
@[simp] theorem State.complete_netResvs (s : State) (r : Requester) (o : Nat) (w : Bool) (st : Status) (d : List Byte) :
    (s.complete r o w st d).netResvs = s.netResvs := by
  obtain ⟨m, i, h⟩ := complete_shape s r o w st d
  rw [h]
@[simp] theorem State.complete_pkts (s : State) (r : Requester) (o : Nat) (w : Bool) (st : Status) (d : List Byte) :
    (s.complete r o w st d).pkts = s.pkts := by
  obtain ⟨m, i, h⟩ := complete_shape s r o w st d
  rw [h]
@[simp] theorem State.complete_txns (s : State) (r : Requester) (o : Nat) (w : Bool) (st : Status) (d : List Byte) :
    (s.complete r o w st d).txns = s.txns := by
  obtain ⟨m, i, h⟩ := complete_shape s r o w st d
  rw [h]
@[simp] theorem State.complete_netAt (s : State) (r : Requester) (o : Nat) (w : Bool) (st : Status) (d : List Byte) :
    (s.complete r o w st d).netAt = s.netAt := by
  obtain ⟨m, i, h⟩ := complete_shape s r o w st d
  rw [h]
@[simp] theorem State.complete_engines (s : State) (r : Requester) (o : Nat) (w : Bool) (st : Status) (d : List Byte) :
    (s.complete r o w st d).engines = s.engines := by
  obtain ⟨m, i, h⟩ := complete_shape s r o w st d
  rw [h]
@[simp] theorem State.complete_clusters (s : State) (r : Requester) (o : Nat) (w : Bool) (st : Status) (d : List Byte) :
    (s.complete r o w st d).clusters = s.clusters := by
  obtain ⟨m, i, h⟩ := complete_shape s r o w st d
  rw [h]
@[simp] theorem State.complete_progPatch (s : State) (r : Requester) (o : Nat) (w : Bool) (st : Status) (d : List Byte) :
    (s.complete r o w st d).progPatch = s.progPatch := by
  obtain ⟨m, i, h⟩ := complete_shape s r o w st d
  rw [h]
@[simp] theorem State.complete_spareMem (s : State) (r : Requester) (o : Nat) (w : Bool) (st : Status) (d : List Byte) :
    (s.complete r o w st d).spareMem = s.spareMem := by
  obtain ⟨m, i, h⟩ := complete_shape s r o w st d
  rw [h]
@[simp] theorem State.complete_data (s : State) (r : Requester) (o : Nat) (w : Bool) (st : Status) (d : List Byte) :
    (s.complete r o w st d).data = s.data := by
  obtain ⟨m, i, h⟩ := complete_shape s r o w st d
  rw [h]
@[simp] theorem State.complete_feed (s : State) (r : Requester) (o : Nat) (w : Bool) (st : Status) (d : List Byte) :
    (s.complete r o w st d).feed = s.feed := by
  obtain ⟨m, i, h⟩ := complete_shape s r o w st d
  rw [h]
@[simp] theorem State.complete_badWords (s : State) (r : Requester) (o : Nat) (w : Bool) (st : Status) (d : List Byte) :
    (s.complete r o w st d).badWords = s.badWords := by
  obtain ⟨m, i, h⟩ := complete_shape s r o w st d
  rw [h]
@[simp] theorem State.complete_upWords (s : State) (r : Requester) (o : Nat) (w : Bool) (st : Status) (d : List Byte) :
    (s.complete r o w st d).upWords = s.upWords := by
  obtain ⟨m, i, h⟩ := complete_shape s r o w st d
  rw [h]
@[simp] theorem State.complete_hardBad (s : State) (r : Requester) (o : Nat) (w : Bool) (st : Status) (d : List Byte) :
    (s.complete r o w st d).hardBad = s.hardBad := by
  obtain ⟨m, i, h⟩ := complete_shape s r o w st d
  rw [h]
@[simp] theorem State.complete_lostLines (s : State) (r : Requester) (o : Nat) (w : Bool) (st : Status) (d : List Byte) :
    (s.complete r o w st d).lostLines = s.lostLines := by
  obtain ⟨m, i, h⟩ := complete_shape s r o w st d
  rw [h]
@[simp] theorem State.complete_mcMem (s : State) (r : Requester) (o : Nat) (w : Bool) (st : Status) (d : List Byte) :
    (s.complete r o w st d).mcMem = s.mcMem := by
  obtain ⟨m, i, h⟩ := complete_shape s r o w st d
  rw [h]
@[simp] theorem State.complete_marchAt (s : State) (r : Requester) (o : Nat) (w : Bool) (st : Status) (d : List Byte) :
    (s.complete r o w st d).marchAt = s.marchAt := by
  obtain ⟨m, i, h⟩ := complete_shape s r o w st d
  rw [h]
@[simp] theorem State.complete_patrol (s : State) (r : Requester) (o : Nat) (w : Bool) (st : Status) (d : List Byte) :
    (s.complete r o w st d).patrol = s.patrol := by
  obtain ⟨m, i, h⟩ := complete_shape s r o w st d
  rw [h]
@[simp] theorem State.complete_dram (s : State) (r : Requester) (o : Nat) (w : Bool) (st : Status) (d : List Byte) :
    (s.complete r o w st d).dram = s.dram := by
  obtain ⟨m, i, h⟩ := complete_shape s r o w st d
  rw [h]
@[simp] theorem State.complete_regionInit (s : State) (r : Requester) (o : Nat) (w : Bool) (st : Status) (d : List Byte) :
    (s.complete r o w st d).regionInit = s.regionInit := by
  obtain ⟨m, i, h⟩ := complete_shape s r o w st d
  rw [h]
@[simp] theorem State.complete_reenc (s : State) (r : Requester) (o : Nat) (w : Bool) (st : Status) (d : List Byte) :
    (s.complete r o w st d).reenc = s.reenc := by
  obtain ⟨m, i, h⟩ := complete_shape s r o w st d
  rw [h]
@[simp] theorem State.complete_memWait (s : State) (r : Requester) (o : Nat) (w : Bool) (st : Status) (d : List Byte) :
    (s.complete r o w st d).memWait = s.memWait := by
  obtain ⟨m, i, h⟩ := complete_shape s r o w st d
  rw [h]
@[simp] theorem State.complete_walkAborting (s : State) (r : Requester) (o : Nat) (w : Bool) (st : Status) (d : List Byte) :
    (s.complete r o w st d).walkAborting = s.walkAborting := by
  obtain ⟨m, i, h⟩ := complete_shape s r o w st d
  rw [h]
@[simp] theorem State.complete_dqDelay (s : State) (r : Requester) (o : Nat) (w : Bool) (st : Status) (d : List Byte) :
    (s.complete r o w st d).dqDelay = s.dqDelay := by
  obtain ⟨m, i, h⟩ := complete_shape s r o w st d
  rw [h]
@[simp] theorem State.complete_retrainAt (s : State) (r : Requester) (o : Nat) (w : Bool) (st : Status) (d : List Byte) :
    (s.complete r o w st d).retrainAt = s.retrainAt := by
  obtain ⟨m, i, h⟩ := complete_shape s r o w st d
  rw [h]
@[simp] theorem State.complete_zqAt (s : State) (r : Requester) (o : Nat) (w : Bool) (st : Status) (d : List Byte) :
    (s.complete r o w st d).zqAt = s.zqAt := by
  obtain ⟨m, i, h⟩ := complete_shape s r o w st d
  rw [h]
@[simp] theorem State.complete_memInitAt (s : State) (r : Requester) (o : Nat) (w : Bool) (st : Status) (d : List Byte) :
    (s.complete r o w st d).memInitAt = s.memInitAt := by
  obtain ⟨m, i, h⟩ := complete_shape s r o w st d
  rw [h]
@[simp] theorem State.complete_memStep1 (s : State) (r : Requester) (o : Nat) (w : Bool) (st : Status) (d : List Byte) :
    (s.complete r o w st d).memStep1 = s.memStep1 := by
  obtain ⟨m, i, h⟩ := complete_shape s r o w st d
  rw [h]
@[simp] theorem State.complete_refresh (s : State) (r : Requester) (o : Nat) (w : Bool) (st : Status) (d : List Byte) :
    (s.complete r o w st d).refresh = s.refresh := by
  obtain ⟨m, i, h⟩ := complete_shape s r o w st d
  rw [h]
@[simp] theorem State.complete_tagCache (s : State) (r : Requester) (o : Nat) (w : Bool) (st : Status) (d : List Byte) :
    (s.complete r o w st d).tagCache = s.tagCache := by
  obtain ⟨m, i, h⟩ := complete_shape s r o w st d
  rw [h]
@[simp] theorem State.complete_grind (s : State) (r : Requester) (o : Nat) (w : Bool) (st : Status) (d : List Byte) :
    (s.complete r o w st d).grind = s.grind := by
  obtain ⟨m, i, h⟩ := complete_shape s r o w st d
  rw [h]
@[simp] theorem State.complete_mcAt (s : State) (r : Requester) (o : Nat) (w : Bool) (st : Status) (d : List Byte) :
    (s.complete r o w st d).mcAt = s.mcAt := by
  obtain ⟨m, i, h⟩ := complete_shape s r o w st d
  rw [h]
@[simp] theorem State.complete_traceBuf (s : State) (r : Requester) (o : Nat) (w : Bool) (st : Status) (d : List Byte) :
    (s.complete r o w st d).traceBuf = s.traceBuf := by
  obtain ⟨m, i, h⟩ := complete_shape s r o w st d
  rw [h]
@[simp] theorem State.complete_traceFifo (s : State) (r : Requester) (o : Nat) (w : Bool) (st : Status) (d : List Byte) :
    (s.complete r o w st d).traceFifo = s.traceFifo := by
  obtain ⟨m, i, h⟩ := complete_shape s r o w st d
  rw [h]
@[simp] theorem State.complete_traceAt (s : State) (r : Requester) (o : Nat) (w : Bool) (st : Status) (d : List Byte) :
    (s.complete r o w st d).traceAt = s.traceAt := by
  obtain ⟨m, i, h⟩ := complete_shape s r o w st d
  rw [h]
@[simp] theorem State.complete_traceCount (s : State) (r : Requester) (o : Nat) (w : Bool) (st : Status) (d : List Byte) :
    (s.complete r o w st d).traceCount = s.traceCount := by
  obtain ⟨m, i, h⟩ := complete_shape s r o w st d
  rw [h]
@[simp] theorem State.complete_traceLossPending (s : State) (r : Requester) (o : Nat) (w : Bool) (st : Status) (d : List Byte) :
    (s.complete r o w st d).traceLossPending = s.traceLossPending := by
  obtain ⟨m, i, h⟩ := complete_shape s r o w st d
  rw [h]

@[simp] theorem State.image_complete (s : State) (r : Requester) (o p : Nat) (w : Bool) (st : Status) (d : List Byte) :
    (s.complete r o w st d).image p = s.image p := by simp [State.image]

@[simp] theorem State.xfer_complete (s : State) (r : Requester) (o p : Nat) (w : Bool) (st : Status) (d : List Byte) :
    (s.complete r o w st d).xfer p = s.xfer p := by simp [State.xfer]

@[simp] theorem State.aliasWin_complete (s : State) (r : Requester) (o p : Nat) (w : Bool) (st : Status) (d : List Byte) :
    (s.complete r o w st d).aliasWin p = s.aliasWin p := by simp [State.aliasWin]

@[simp] theorem State.setAliasWin_reply (s : State) (o : Nat) (w : AliasWin) : (s.setAliasWin o w).reply = s.reply := rfl
@[simp] theorem State.setAliasWin_now (s : State) (o : Nat) (w : AliasWin) : (s.setAliasWin o w).now = s.now := rfl

end Sys2Proof.Machine
end

