-- ==== Sys2Proof/Laws/Units.lean ====
section
/-! SUPPORT. Reading one numbered unit after writing it, or after writing a unit of another kind. -/

namespace Sys2Proof.Machine

@[simp] theorem State.setChan_now (s : State) (ch : Nat) (c : Chan) : (s.setChan ch c).now = s.now := rfl
@[simp] theorem State.chan_setChan_same (s : State) (ch : Nat) (c : Chan) : (s.setChan ch c).chan ch = c := Tbl.get_set_same _ _ _ _
@[simp] theorem State.aliasWin_setChan (s : State) (ch : Nat) (c : Chan) (o : Nat) : (s.setChan ch c).aliasWin o = s.aliasWin o := rfl
@[simp] theorem State.engine_setChan (s : State) (ch : Nat) (c : Chan) (e : Nat) : (s.setChan ch c).engine e = s.engine e := rfl
@[simp] theorem State.cluster_setChan (s : State) (ch : Nat) (c : Chan) (c' : Nat) : (s.setChan ch c).cluster c' = s.cluster c' := rfl
@[simp] theorem State.flPort_setChan (s : State) (ch : Nat) (c : Chan) (k : Nat) : (s.setChan ch c).flPort k = s.flPort k := rfl
@[simp] theorem State.qport_setChan (s : State) (ch : Nat) (c : Chan) (k : Nat) : (s.setChan ch c).qport k = s.qport k := rfl
@[simp] theorem State.macRegs_setChan (s : State) (ch : Nat) (c : Chan) (tl : Nat) : (s.setChan ch c).macRegs tl = s.macRegs tl := rfl
@[simp] theorem State.fc_setChan (s : State) (ch : Nat) (c : Chan) (q : Nat) : (s.setChan ch c).fc q = s.fc q := rfl
@[simp] theorem State.port_setChan (s : State) (ch : Nat) (c : Chan) (q k : Nat) : (s.setChan ch c).port q k = s.port q k := rfl
@[simp] theorem State.hunit_setChan (s : State) (ch : Nat) (c : Chan) (k u : Nat) : (s.setChan ch c).hunit k u = s.hunit k u := rfl
@[simp] theorem State.hline_setChan (s : State) (ch : Nat) (c : Chan) (k : Nat) : (s.setChan ch c).hline k = s.hline k := rfl
@[simp] theorem State.pad_setChan (s : State) (ch : Nat) (c : Chan) (p : Nat) : (s.setChan ch c).pad p = s.pad p := rfl
@[simp] theorem State.heldByPage_setChan (s : State) (ch : Nat) (c : Chan) (addr : Nat) (b : List Byte) : (s.setChan ch c).heldByPage addr b = s.heldByPage addr b := rfl
@[simp] theorem State.netResv_setChan (s : State) (ch : Nat) (c : Chan) (r : Nat) : (s.setChan ch c).netResv r = s.netResv r := rfl
@[simp] theorem State.stop_setChan (s : State) (ch : Nat) (c : Chan) (rs : Nat) : (s.setChan ch c).stop rs = s.stop rs := rfl
@[simp] theorem State.xfer_setChan (s : State) (ch : Nat) (c : Chan) (o : Nat) : (s.setChan ch c).xfer o = s.xfer o := rfl
@[simp] theorem State.sched_setChan (s : State) (ch : Nat) (c : Chan) (k : ActKind) (unit : Nat) : (s.setChan ch c).sched k unit = s.sched k unit := rfl
@[simp] theorem State.reg_setChan (s : State) (ch : Nat) (c : Chan) (o : Nat) : (s.setChan ch c).reg o = s.reg o := rfl
@[simp] theorem State.image_setChan (s : State) (ch : Nat) (c : Chan) (o : Nat) : (s.setChan ch c).image o = s.image o := rfl
@[simp] theorem State.queue_setChan (s : State) (ch : Nat) (c : Chan) (q : Nat) : (s.setChan ch c).queue q = s.queue q := rfl
@[simp] theorem State.stream_setChan (s : State) (ch : Nat) (c : Chan) (i : Nat) : (s.setChan ch c).stream i = s.stream i := rfl
@[simp] theorem State.session_setChan (s : State) (ch : Nat) (c : Chan) (i : Nat) : (s.setChan ch c).session i = s.session i := rfl
@[simp] theorem State.rep_setChan (s : State) (ch : Nat) (c : Chan) (q : Nat) : (s.setChan ch c).rep q = s.rep q := rfl
@[simp] theorem State.ser_setChan (s : State) (ch : Nat) (c : Chan) (ch' : Nat) : (s.setChan ch c).ser ch' = s.ser ch' := rfl
@[simp] theorem State.ctl_setChan (s : State) (ch : Nat) (c : Chan) (c' : Ctl) : (s.setChan ch c).ctl c' = s.ctl c' := rfl
@[simp] theorem State.ptpDom_setChan (s : State) (ch : Nat) (c : Chan) (k : Nat) : (s.setChan ch c).ptpDom k = s.ptpDom k := rfl
@[simp] theorem State.trig_setChan (s : State) (ch : Nat) (c : Chan) (u : Nat) : (s.setChan ch c).trig u = s.trig u := rfl
@[simp] theorem State.yard_setChan (s : State) (ch : Nat) (c : Chan) (p : Nat) : (s.setChan ch c).yard p = s.yard p := rfl
@[simp] theorem State.chan_setAliasWin (s : State) (o : Nat) (w : AliasWin) (ch : Nat) : (s.setAliasWin o w).chan ch = s.chan ch := rfl
@[simp] theorem State.aliasWin_setAliasWin_same (s : State) (o : Nat) (w : AliasWin) : (s.setAliasWin o w).aliasWin o = w := Tbl.get_set_same _ _ _ _
@[simp] theorem State.engine_setAliasWin (s : State) (o : Nat) (w : AliasWin) (e : Nat) : (s.setAliasWin o w).engine e = s.engine e := rfl
@[simp] theorem State.cluster_setAliasWin (s : State) (o : Nat) (w : AliasWin) (c : Nat) : (s.setAliasWin o w).cluster c = s.cluster c := rfl
@[simp] theorem State.flPort_setAliasWin (s : State) (o : Nat) (w : AliasWin) (k : Nat) : (s.setAliasWin o w).flPort k = s.flPort k := rfl
@[simp] theorem State.qport_setAliasWin (s : State) (o : Nat) (w : AliasWin) (k : Nat) : (s.setAliasWin o w).qport k = s.qport k := rfl
@[simp] theorem State.macRegs_setAliasWin (s : State) (o : Nat) (w : AliasWin) (tl : Nat) : (s.setAliasWin o w).macRegs tl = s.macRegs tl := rfl
@[simp] theorem State.fc_setAliasWin (s : State) (o : Nat) (w : AliasWin) (q : Nat) : (s.setAliasWin o w).fc q = s.fc q := rfl
@[simp] theorem State.port_setAliasWin (s : State) (o : Nat) (w : AliasWin) (q k : Nat) : (s.setAliasWin o w).port q k = s.port q k := rfl
@[simp] theorem State.hunit_setAliasWin (s : State) (o : Nat) (w : AliasWin) (k u : Nat) : (s.setAliasWin o w).hunit k u = s.hunit k u := rfl
@[simp] theorem State.hline_setAliasWin (s : State) (o : Nat) (w : AliasWin) (k : Nat) : (s.setAliasWin o w).hline k = s.hline k := rfl
@[simp] theorem State.pad_setAliasWin (s : State) (o : Nat) (w : AliasWin) (p : Nat) : (s.setAliasWin o w).pad p = s.pad p := rfl
@[simp] theorem State.heldByPage_setAliasWin (s : State) (o : Nat) (w : AliasWin) (addr : Nat) (b : List Byte) : (s.setAliasWin o w).heldByPage addr b = s.heldByPage addr b := rfl
@[simp] theorem State.netResv_setAliasWin (s : State) (o : Nat) (w : AliasWin) (r : Nat) : (s.setAliasWin o w).netResv r = s.netResv r := rfl
@[simp] theorem State.stop_setAliasWin (s : State) (o : Nat) (w : AliasWin) (rs : Nat) : (s.setAliasWin o w).stop rs = s.stop rs := rfl
@[simp] theorem State.xfer_setAliasWin (s : State) (o : Nat) (w : AliasWin) (o' : Nat) : (s.setAliasWin o w).xfer o' = s.xfer o' := rfl
@[simp] theorem State.sched_setAliasWin (s : State) (o : Nat) (w : AliasWin) (k : ActKind) (unit : Nat) : (s.setAliasWin o w).sched k unit = s.sched k unit := rfl
@[simp] theorem State.reg_setAliasWin (s : State) (o : Nat) (w : AliasWin) (o' : Nat) : (s.setAliasWin o w).reg o' = s.reg o' := rfl
@[simp] theorem State.image_setAliasWin (s : State) (o : Nat) (w : AliasWin) (o' : Nat) : (s.setAliasWin o w).image o' = s.image o' := rfl
@[simp] theorem State.queue_setAliasWin (s : State) (o : Nat) (w : AliasWin) (q : Nat) : (s.setAliasWin o w).queue q = s.queue q := rfl
@[simp] theorem State.stream_setAliasWin (s : State) (o : Nat) (w : AliasWin) (i : Nat) : (s.setAliasWin o w).stream i = s.stream i := rfl
@[simp] theorem State.session_setAliasWin (s : State) (o : Nat) (w : AliasWin) (i : Nat) : (s.setAliasWin o w).session i = s.session i := rfl
@[simp] theorem State.rep_setAliasWin (s : State) (o : Nat) (w : AliasWin) (q : Nat) : (s.setAliasWin o w).rep q = s.rep q := rfl
@[simp] theorem State.ser_setAliasWin (s : State) (o : Nat) (w : AliasWin) (ch : Nat) : (s.setAliasWin o w).ser ch = s.ser ch := rfl
@[simp] theorem State.ctl_setAliasWin (s : State) (o : Nat) (w : AliasWin) (c : Ctl) : (s.setAliasWin o w).ctl c = s.ctl c := rfl
@[simp] theorem State.ptpDom_setAliasWin (s : State) (o : Nat) (w : AliasWin) (k : Nat) : (s.setAliasWin o w).ptpDom k = s.ptpDom k := rfl
@[simp] theorem State.trig_setAliasWin (s : State) (o : Nat) (w : AliasWin) (u : Nat) : (s.setAliasWin o w).trig u = s.trig u := rfl
@[simp] theorem State.yard_setAliasWin (s : State) (o : Nat) (w : AliasWin) (p : Nat) : (s.setAliasWin o w).yard p = s.yard p := rfl
@[simp] theorem State.setEngine_now (s : State) (e : Nat) (g : Engine) : (s.setEngine e g).now = s.now := rfl
@[simp] theorem State.chan_setEngine (s : State) (e : Nat) (g : Engine) (ch : Nat) : (s.setEngine e g).chan ch = s.chan ch := rfl
@[simp] theorem State.aliasWin_setEngine (s : State) (e : Nat) (g : Engine) (o : Nat) : (s.setEngine e g).aliasWin o = s.aliasWin o := rfl
@[simp] theorem State.engine_setEngine_same (s : State) (e : Nat) (g : Engine) : (s.setEngine e g).engine e = g := Tbl.get_set_same _ _ _ _
@[simp] theorem State.cluster_setEngine (s : State) (e : Nat) (g : Engine) (c : Nat) : (s.setEngine e g).cluster c = s.cluster c := rfl
@[simp] theorem State.flPort_setEngine (s : State) (e : Nat) (g : Engine) (k : Nat) : (s.setEngine e g).flPort k = s.flPort k := rfl
@[simp] theorem State.qport_setEngine (s : State) (e : Nat) (g : Engine) (k : Nat) : (s.setEngine e g).qport k = s.qport k := rfl
@[simp] theorem State.macRegs_setEngine (s : State) (e : Nat) (g : Engine) (tl : Nat) : (s.setEngine e g).macRegs tl = s.macRegs tl := rfl
@[simp] theorem State.fc_setEngine (s : State) (e : Nat) (g : Engine) (q : Nat) : (s.setEngine e g).fc q = s.fc q := rfl
@[simp] theorem State.port_setEngine (s : State) (e : Nat) (g : Engine) (q k : Nat) : (s.setEngine e g).port q k = s.port q k := rfl
@[simp] theorem State.hunit_setEngine (s : State) (e : Nat) (g : Engine) (k u : Nat) : (s.setEngine e g).hunit k u = s.hunit k u := rfl
@[simp] theorem State.hline_setEngine (s : State) (e : Nat) (g : Engine) (k : Nat) : (s.setEngine e g).hline k = s.hline k := rfl
@[simp] theorem State.pad_setEngine (s : State) (e : Nat) (g : Engine) (p : Nat) : (s.setEngine e g).pad p = s.pad p := rfl
@[simp] theorem State.heldByPage_setEngine (s : State) (e : Nat) (g : Engine) (addr : Nat) (b : List Byte) : (s.setEngine e g).heldByPage addr b = s.heldByPage addr b := rfl
@[simp] theorem State.netResv_setEngine (s : State) (e : Nat) (g : Engine) (r : Nat) : (s.setEngine e g).netResv r = s.netResv r := rfl
@[simp] theorem State.stop_setEngine (s : State) (e : Nat) (g : Engine) (rs : Nat) : (s.setEngine e g).stop rs = s.stop rs := rfl
@[simp] theorem State.xfer_setEngine (s : State) (e : Nat) (g : Engine) (o : Nat) : (s.setEngine e g).xfer o = s.xfer o := rfl
@[simp] theorem State.sched_setEngine (s : State) (e : Nat) (g : Engine) (k : ActKind) (unit : Nat) : (s.setEngine e g).sched k unit = s.sched k unit := rfl
@[simp] theorem State.reg_setEngine (s : State) (e : Nat) (g : Engine) (o : Nat) : (s.setEngine e g).reg o = s.reg o := rfl
@[simp] theorem State.image_setEngine (s : State) (e : Nat) (g : Engine) (o : Nat) : (s.setEngine e g).image o = s.image o := rfl
@[simp] theorem State.queue_setEngine (s : State) (e : Nat) (g : Engine) (q : Nat) : (s.setEngine e g).queue q = s.queue q := rfl
@[simp] theorem State.stream_setEngine (s : State) (e : Nat) (g : Engine) (i : Nat) : (s.setEngine e g).stream i = s.stream i := rfl
@[simp] theorem State.session_setEngine (s : State) (e : Nat) (g : Engine) (i : Nat) : (s.setEngine e g).session i = s.session i := rfl
@[simp] theorem State.rep_setEngine (s : State) (e : Nat) (g : Engine) (q : Nat) : (s.setEngine e g).rep q = s.rep q := rfl
@[simp] theorem State.ser_setEngine (s : State) (e : Nat) (g : Engine) (ch : Nat) : (s.setEngine e g).ser ch = s.ser ch := rfl
@[simp] theorem State.ctl_setEngine (s : State) (e : Nat) (g : Engine) (c : Ctl) : (s.setEngine e g).ctl c = s.ctl c := rfl
@[simp] theorem State.ptpDom_setEngine (s : State) (e : Nat) (g : Engine) (k : Nat) : (s.setEngine e g).ptpDom k = s.ptpDom k := rfl
@[simp] theorem State.trig_setEngine (s : State) (e : Nat) (g : Engine) (u : Nat) : (s.setEngine e g).trig u = s.trig u := rfl
@[simp] theorem State.yard_setEngine (s : State) (e : Nat) (g : Engine) (p : Nat) : (s.setEngine e g).yard p = s.yard p := rfl
@[simp] theorem State.setCluster_now (s : State) (c : Nat) (x : Cluster) : (s.setCluster c x).now = s.now := rfl
@[simp] theorem State.chan_setCluster (s : State) (c : Nat) (x : Cluster) (ch : Nat) : (s.setCluster c x).chan ch = s.chan ch := rfl
@[simp] theorem State.aliasWin_setCluster (s : State) (c : Nat) (x : Cluster) (o : Nat) : (s.setCluster c x).aliasWin o = s.aliasWin o := rfl
@[simp] theorem State.engine_setCluster (s : State) (c : Nat) (x : Cluster) (e : Nat) : (s.setCluster c x).engine e = s.engine e := rfl
@[simp] theorem State.cluster_setCluster_same (s : State) (c : Nat) (x : Cluster) : (s.setCluster c x).cluster c = x := Tbl.get_set_same _ _ _ _
@[simp] theorem State.flPort_setCluster (s : State) (c : Nat) (x : Cluster) (k : Nat) : (s.setCluster c x).flPort k = s.flPort k := rfl
@[simp] theorem State.qport_setCluster (s : State) (c : Nat) (x : Cluster) (k : Nat) : (s.setCluster c x).qport k = s.qport k := rfl
@[simp] theorem State.macRegs_setCluster (s : State) (c : Nat) (x : Cluster) (tl : Nat) : (s.setCluster c x).macRegs tl = s.macRegs tl := rfl
@[simp] theorem State.fc_setCluster (s : State) (c : Nat) (x : Cluster) (q : Nat) : (s.setCluster c x).fc q = s.fc q := rfl
@[simp] theorem State.port_setCluster (s : State) (c : Nat) (x : Cluster) (q k : Nat) : (s.setCluster c x).port q k = s.port q k := rfl
@[simp] theorem State.hunit_setCluster (s : State) (c : Nat) (x : Cluster) (k u : Nat) : (s.setCluster c x).hunit k u = s.hunit k u := rfl
@[simp] theorem State.hline_setCluster (s : State) (c : Nat) (x : Cluster) (k : Nat) : (s.setCluster c x).hline k = s.hline k := rfl
@[simp] theorem State.pad_setCluster (s : State) (c : Nat) (x : Cluster) (p : Nat) : (s.setCluster c x).pad p = s.pad p := rfl
@[simp] theorem State.heldByPage_setCluster (s : State) (c : Nat) (x : Cluster) (addr : Nat) (b : List Byte) : (s.setCluster c x).heldByPage addr b = s.heldByPage addr b := rfl
@[simp] theorem State.netResv_setCluster (s : State) (c : Nat) (x : Cluster) (r : Nat) : (s.setCluster c x).netResv r = s.netResv r := rfl
@[simp] theorem State.stop_setCluster (s : State) (c : Nat) (x : Cluster) (rs : Nat) : (s.setCluster c x).stop rs = s.stop rs := rfl
@[simp] theorem State.xfer_setCluster (s : State) (c : Nat) (x : Cluster) (o : Nat) : (s.setCluster c x).xfer o = s.xfer o := rfl
@[simp] theorem State.sched_setCluster (s : State) (c : Nat) (x : Cluster) (k : ActKind) (unit : Nat) : (s.setCluster c x).sched k unit = s.sched k unit := rfl
@[simp] theorem State.reg_setCluster (s : State) (c : Nat) (x : Cluster) (o : Nat) : (s.setCluster c x).reg o = s.reg o := rfl
@[simp] theorem State.image_setCluster (s : State) (c : Nat) (x : Cluster) (o : Nat) : (s.setCluster c x).image o = s.image o := rfl
@[simp] theorem State.queue_setCluster (s : State) (c : Nat) (x : Cluster) (q : Nat) : (s.setCluster c x).queue q = s.queue q := rfl
@[simp] theorem State.stream_setCluster (s : State) (c : Nat) (x : Cluster) (i : Nat) : (s.setCluster c x).stream i = s.stream i := rfl
@[simp] theorem State.session_setCluster (s : State) (c : Nat) (x : Cluster) (i : Nat) : (s.setCluster c x).session i = s.session i := rfl
@[simp] theorem State.rep_setCluster (s : State) (c : Nat) (x : Cluster) (q : Nat) : (s.setCluster c x).rep q = s.rep q := rfl
@[simp] theorem State.ser_setCluster (s : State) (c : Nat) (x : Cluster) (ch : Nat) : (s.setCluster c x).ser ch = s.ser ch := rfl
@[simp] theorem State.ctl_setCluster (s : State) (c : Nat) (x : Cluster) (c' : Ctl) : (s.setCluster c x).ctl c' = s.ctl c' := rfl
@[simp] theorem State.ptpDom_setCluster (s : State) (c : Nat) (x : Cluster) (k : Nat) : (s.setCluster c x).ptpDom k = s.ptpDom k := rfl
@[simp] theorem State.trig_setCluster (s : State) (c : Nat) (x : Cluster) (u : Nat) : (s.setCluster c x).trig u = s.trig u := rfl
@[simp] theorem State.yard_setCluster (s : State) (c : Nat) (x : Cluster) (p : Nat) : (s.setCluster c x).yard p = s.yard p := rfl
@[simp] theorem State.setFlPort_now (s : State) (k : Nat) (x : FlPort) : (s.setFlPort k x).now = s.now := rfl
@[simp] theorem State.chan_setFlPort (s : State) (k : Nat) (x : FlPort) (ch : Nat) : (s.setFlPort k x).chan ch = s.chan ch := rfl
@[simp] theorem State.aliasWin_setFlPort (s : State) (k : Nat) (x : FlPort) (o : Nat) : (s.setFlPort k x).aliasWin o = s.aliasWin o := rfl
@[simp] theorem State.engine_setFlPort (s : State) (k : Nat) (x : FlPort) (e : Nat) : (s.setFlPort k x).engine e = s.engine e := rfl
@[simp] theorem State.cluster_setFlPort (s : State) (k : Nat) (x : FlPort) (c : Nat) : (s.setFlPort k x).cluster c = s.cluster c := rfl
@[simp] theorem State.flPort_setFlPort_same (s : State) (k : Nat) (x : FlPort) : (s.setFlPort k x).flPort k = x := Tbl.get_set_same _ _ _ _
@[simp] theorem State.qport_setFlPort (s : State) (k : Nat) (x : FlPort) (k' : Nat) : (s.setFlPort k x).qport k' = s.qport k' := rfl
@[simp] theorem State.macRegs_setFlPort (s : State) (k : Nat) (x : FlPort) (tl : Nat) : (s.setFlPort k x).macRegs tl = s.macRegs tl := rfl
@[simp] theorem State.fc_setFlPort (s : State) (k : Nat) (x : FlPort) (q : Nat) : (s.setFlPort k x).fc q = s.fc q := rfl
@[simp] theorem State.port_setFlPort (s : State) (k : Nat) (x : FlPort) (q k' : Nat) : (s.setFlPort k x).port q k' = s.port q k' := rfl
@[simp] theorem State.hunit_setFlPort (s : State) (k : Nat) (x : FlPort) (k' u : Nat) : (s.setFlPort k x).hunit k' u = s.hunit k' u := rfl
@[simp] theorem State.hline_setFlPort (s : State) (k : Nat) (x : FlPort) (k' : Nat) : (s.setFlPort k x).hline k' = s.hline k' := rfl
@[simp] theorem State.pad_setFlPort (s : State) (k : Nat) (x : FlPort) (p : Nat) : (s.setFlPort k x).pad p = s.pad p := rfl
@[simp] theorem State.heldByPage_setFlPort (s : State) (k : Nat) (x : FlPort) (addr : Nat) (b : List Byte) : (s.setFlPort k x).heldByPage addr b = s.heldByPage addr b := rfl
@[simp] theorem State.netResv_setFlPort (s : State) (k : Nat) (x : FlPort) (r : Nat) : (s.setFlPort k x).netResv r = s.netResv r := rfl
@[simp] theorem State.stop_setFlPort (s : State) (k : Nat) (x : FlPort) (rs : Nat) : (s.setFlPort k x).stop rs = s.stop rs := rfl
@[simp] theorem State.xfer_setFlPort (s : State) (k : Nat) (x : FlPort) (o : Nat) : (s.setFlPort k x).xfer o = s.xfer o := rfl
@[simp] theorem State.sched_setFlPort (s : State) (k : Nat) (x : FlPort) (k' : ActKind) (unit : Nat) : (s.setFlPort k x).sched k' unit = s.sched k' unit := rfl
@[simp] theorem State.reg_setFlPort (s : State) (k : Nat) (x : FlPort) (o : Nat) : (s.setFlPort k x).reg o = s.reg o := rfl
@[simp] theorem State.image_setFlPort (s : State) (k : Nat) (x : FlPort) (o : Nat) : (s.setFlPort k x).image o = s.image o := rfl
@[simp] theorem State.queue_setFlPort (s : State) (k : Nat) (x : FlPort) (q : Nat) : (s.setFlPort k x).queue q = s.queue q := rfl
@[simp] theorem State.stream_setFlPort (s : State) (k : Nat) (x : FlPort) (i : Nat) : (s.setFlPort k x).stream i = s.stream i := rfl
@[simp] theorem State.session_setFlPort (s : State) (k : Nat) (x : FlPort) (i : Nat) : (s.setFlPort k x).session i = s.session i := rfl
@[simp] theorem State.rep_setFlPort (s : State) (k : Nat) (x : FlPort) (q : Nat) : (s.setFlPort k x).rep q = s.rep q := rfl
@[simp] theorem State.ser_setFlPort (s : State) (k : Nat) (x : FlPort) (ch : Nat) : (s.setFlPort k x).ser ch = s.ser ch := rfl
@[simp] theorem State.ctl_setFlPort (s : State) (k : Nat) (x : FlPort) (c : Ctl) : (s.setFlPort k x).ctl c = s.ctl c := rfl
@[simp] theorem State.ptpDom_setFlPort (s : State) (k : Nat) (x : FlPort) (k' : Nat) : (s.setFlPort k x).ptpDom k' = s.ptpDom k' := rfl
@[simp] theorem State.trig_setFlPort (s : State) (k : Nat) (x : FlPort) (u : Nat) : (s.setFlPort k x).trig u = s.trig u := rfl
@[simp] theorem State.yard_setFlPort (s : State) (k : Nat) (x : FlPort) (p : Nat) : (s.setFlPort k x).yard p = s.yard p := rfl
@[simp] theorem State.setQport_now (s : State) (k : Nat) (p : QPort) : (s.setQport k p).now = s.now := rfl
@[simp] theorem State.chan_setQport (s : State) (k : Nat) (p : QPort) (ch : Nat) : (s.setQport k p).chan ch = s.chan ch := rfl
@[simp] theorem State.aliasWin_setQport (s : State) (k : Nat) (p : QPort) (o : Nat) : (s.setQport k p).aliasWin o = s.aliasWin o := rfl
@[simp] theorem State.engine_setQport (s : State) (k : Nat) (p : QPort) (e : Nat) : (s.setQport k p).engine e = s.engine e := rfl
@[simp] theorem State.cluster_setQport (s : State) (k : Nat) (p : QPort) (c : Nat) : (s.setQport k p).cluster c = s.cluster c := rfl
@[simp] theorem State.flPort_setQport (s : State) (k : Nat) (p : QPort) (k' : Nat) : (s.setQport k p).flPort k' = s.flPort k' := rfl
@[simp] theorem State.qport_setQport_same (s : State) (k : Nat) (p : QPort) : (s.setQport k p).qport k = p := Tbl.get_set_same _ _ _ _
@[simp] theorem State.macRegs_setQport (s : State) (k : Nat) (p : QPort) (tl : Nat) : (s.setQport k p).macRegs tl = s.macRegs tl := rfl
@[simp] theorem State.fc_setQport (s : State) (k : Nat) (p : QPort) (q : Nat) : (s.setQport k p).fc q = s.fc q := rfl
@[simp] theorem State.port_setQport (s : State) (k : Nat) (p : QPort) (q k' : Nat) : (s.setQport k p).port q k' = s.port q k' := rfl
@[simp] theorem State.hunit_setQport (s : State) (k : Nat) (p : QPort) (k' u : Nat) : (s.setQport k p).hunit k' u = s.hunit k' u := rfl
@[simp] theorem State.hline_setQport (s : State) (k : Nat) (p : QPort) (k' : Nat) : (s.setQport k p).hline k' = s.hline k' := rfl
@[simp] theorem State.pad_setQport (s : State) (k : Nat) (p : QPort) (p' : Nat) : (s.setQport k p).pad p' = s.pad p' := rfl
@[simp] theorem State.heldByPage_setQport (s : State) (k : Nat) (p : QPort) (addr : Nat) (b : List Byte) : (s.setQport k p).heldByPage addr b = s.heldByPage addr b := rfl
@[simp] theorem State.netResv_setQport (s : State) (k : Nat) (p : QPort) (r : Nat) : (s.setQport k p).netResv r = s.netResv r := rfl
@[simp] theorem State.stop_setQport (s : State) (k : Nat) (p : QPort) (rs : Nat) : (s.setQport k p).stop rs = s.stop rs := rfl
@[simp] theorem State.xfer_setQport (s : State) (k : Nat) (p : QPort) (o : Nat) : (s.setQport k p).xfer o = s.xfer o := rfl
@[simp] theorem State.sched_setQport (s : State) (k : Nat) (p : QPort) (k' : ActKind) (unit : Nat) : (s.setQport k p).sched k' unit = s.sched k' unit := rfl
@[simp] theorem State.reg_setQport (s : State) (k : Nat) (p : QPort) (o : Nat) : (s.setQport k p).reg o = s.reg o := rfl
@[simp] theorem State.image_setQport (s : State) (k : Nat) (p : QPort) (o : Nat) : (s.setQport k p).image o = s.image o := rfl
@[simp] theorem State.queue_setQport (s : State) (k : Nat) (p : QPort) (q : Nat) : (s.setQport k p).queue q = s.queue q := rfl
@[simp] theorem State.stream_setQport (s : State) (k : Nat) (p : QPort) (i : Nat) : (s.setQport k p).stream i = s.stream i := rfl
@[simp] theorem State.session_setQport (s : State) (k : Nat) (p : QPort) (i : Nat) : (s.setQport k p).session i = s.session i := rfl
@[simp] theorem State.rep_setQport (s : State) (k : Nat) (p : QPort) (q : Nat) : (s.setQport k p).rep q = s.rep q := rfl
@[simp] theorem State.ser_setQport (s : State) (k : Nat) (p : QPort) (ch : Nat) : (s.setQport k p).ser ch = s.ser ch := rfl
@[simp] theorem State.ctl_setQport (s : State) (k : Nat) (p : QPort) (c : Ctl) : (s.setQport k p).ctl c = s.ctl c := rfl
@[simp] theorem State.ptpDom_setQport (s : State) (k : Nat) (p : QPort) (k' : Nat) : (s.setQport k p).ptpDom k' = s.ptpDom k' := rfl
@[simp] theorem State.trig_setQport (s : State) (k : Nat) (p : QPort) (u : Nat) : (s.setQport k p).trig u = s.trig u := rfl
@[simp] theorem State.yard_setQport (s : State) (k : Nat) (p : QPort) (p' : Nat) : (s.setQport k p).yard p' = s.yard p' := rfl
@[simp] theorem State.setPort_now (s : State) (q k : Nat) (p : GrindPort) : (s.setPort q k p).now = s.now := rfl
@[simp] theorem State.chan_setPort (s : State) (q k : Nat) (p : GrindPort) (ch : Nat) : (s.setPort q k p).chan ch = s.chan ch := rfl
@[simp] theorem State.aliasWin_setPort (s : State) (q k : Nat) (p : GrindPort) (o : Nat) : (s.setPort q k p).aliasWin o = s.aliasWin o := rfl
@[simp] theorem State.engine_setPort (s : State) (q k : Nat) (p : GrindPort) (e : Nat) : (s.setPort q k p).engine e = s.engine e := rfl
@[simp] theorem State.cluster_setPort (s : State) (q k : Nat) (p : GrindPort) (c : Nat) : (s.setPort q k p).cluster c = s.cluster c := rfl
@[simp] theorem State.flPort_setPort (s : State) (q k : Nat) (p : GrindPort) (k' : Nat) : (s.setPort q k p).flPort k' = s.flPort k' := rfl
@[simp] theorem State.qport_setPort (s : State) (q k : Nat) (p : GrindPort) (k' : Nat) : (s.setPort q k p).qport k' = s.qport k' := rfl
@[simp] theorem State.macRegs_setPort (s : State) (q k : Nat) (p : GrindPort) (tl : Nat) : (s.setPort q k p).macRegs tl = s.macRegs tl := rfl
@[simp] theorem State.fc_setPort (s : State) (q k : Nat) (p : GrindPort) (q' : Nat) : (s.setPort q k p).fc q' = s.fc q' := rfl
@[simp] theorem State.port_setPort_same (s : State) (q k : Nat) (p : GrindPort) : (s.setPort q k p).port q k = p := Tbl.get_set_same _ _ _ _
@[simp] theorem State.hunit_setPort (s : State) (q k : Nat) (p : GrindPort) (k' u : Nat) : (s.setPort q k p).hunit k' u = s.hunit k' u := rfl
@[simp] theorem State.hline_setPort (s : State) (q k : Nat) (p : GrindPort) (k' : Nat) : (s.setPort q k p).hline k' = s.hline k' := rfl
@[simp] theorem State.pad_setPort (s : State) (q k : Nat) (p : GrindPort) (p' : Nat) : (s.setPort q k p).pad p' = s.pad p' := rfl
@[simp] theorem State.heldByPage_setPort (s : State) (q k : Nat) (p : GrindPort) (addr : Nat) (b : List Byte) : (s.setPort q k p).heldByPage addr b = s.heldByPage addr b := rfl
@[simp] theorem State.netResv_setPort (s : State) (q k : Nat) (p : GrindPort) (r : Nat) : (s.setPort q k p).netResv r = s.netResv r := rfl
@[simp] theorem State.stop_setPort (s : State) (q k : Nat) (p : GrindPort) (rs : Nat) : (s.setPort q k p).stop rs = s.stop rs := rfl
@[simp] theorem State.xfer_setPort (s : State) (q k : Nat) (p : GrindPort) (o : Nat) : (s.setPort q k p).xfer o = s.xfer o := rfl
@[simp] theorem State.sched_setPort (s : State) (q k : Nat) (p : GrindPort) (k' : ActKind) (unit : Nat) : (s.setPort q k p).sched k' unit = s.sched k' unit := rfl
@[simp] theorem State.reg_setPort (s : State) (q k : Nat) (p : GrindPort) (o : Nat) : (s.setPort q k p).reg o = s.reg o := rfl
@[simp] theorem State.image_setPort (s : State) (q k : Nat) (p : GrindPort) (o : Nat) : (s.setPort q k p).image o = s.image o := rfl
@[simp] theorem State.queue_setPort (s : State) (q k : Nat) (p : GrindPort) (q' : Nat) : (s.setPort q k p).queue q' = s.queue q' := rfl
@[simp] theorem State.stream_setPort (s : State) (q k : Nat) (p : GrindPort) (i : Nat) : (s.setPort q k p).stream i = s.stream i := rfl
@[simp] theorem State.session_setPort (s : State) (q k : Nat) (p : GrindPort) (i : Nat) : (s.setPort q k p).session i = s.session i := rfl
@[simp] theorem State.rep_setPort (s : State) (q k : Nat) (p : GrindPort) (q' : Nat) : (s.setPort q k p).rep q' = s.rep q' := rfl
@[simp] theorem State.ser_setPort (s : State) (q k : Nat) (p : GrindPort) (ch : Nat) : (s.setPort q k p).ser ch = s.ser ch := rfl
@[simp] theorem State.ctl_setPort (s : State) (q k : Nat) (p : GrindPort) (c : Ctl) : (s.setPort q k p).ctl c = s.ctl c := rfl
@[simp] theorem State.ptpDom_setPort (s : State) (q k : Nat) (p : GrindPort) (k' : Nat) : (s.setPort q k p).ptpDom k' = s.ptpDom k' := rfl
@[simp] theorem State.trig_setPort (s : State) (q k : Nat) (p : GrindPort) (u : Nat) : (s.setPort q k p).trig u = s.trig u := rfl
@[simp] theorem State.yard_setPort (s : State) (q k : Nat) (p : GrindPort) (p' : Nat) : (s.setPort q k p).yard p' = s.yard p' := rfl
@[simp] theorem State.setHunit_now (s : State) (k u : Nat) (x : HUnit) : (s.setHunit k u x).now = s.now := rfl
@[simp] theorem State.chan_setHunit (s : State) (k u : Nat) (x : HUnit) (ch : Nat) : (s.setHunit k u x).chan ch = s.chan ch := rfl
@[simp] theorem State.aliasWin_setHunit (s : State) (k u : Nat) (x : HUnit) (o : Nat) : (s.setHunit k u x).aliasWin o = s.aliasWin o := rfl
@[simp] theorem State.engine_setHunit (s : State) (k u : Nat) (x : HUnit) (e : Nat) : (s.setHunit k u x).engine e = s.engine e := rfl
@[simp] theorem State.cluster_setHunit (s : State) (k u : Nat) (x : HUnit) (c : Nat) : (s.setHunit k u x).cluster c = s.cluster c := rfl
@[simp] theorem State.flPort_setHunit (s : State) (k u : Nat) (x : HUnit) (k' : Nat) : (s.setHunit k u x).flPort k' = s.flPort k' := rfl
@[simp] theorem State.qport_setHunit (s : State) (k u : Nat) (x : HUnit) (k' : Nat) : (s.setHunit k u x).qport k' = s.qport k' := rfl
@[simp] theorem State.macRegs_setHunit (s : State) (k u : Nat) (x : HUnit) (tl : Nat) : (s.setHunit k u x).macRegs tl = s.macRegs tl := rfl
@[simp] theorem State.fc_setHunit (s : State) (k u : Nat) (x : HUnit) (q : Nat) : (s.setHunit k u x).fc q = s.fc q := rfl
@[simp] theorem State.port_setHunit (s : State) (k u : Nat) (x : HUnit) (q k' : Nat) : (s.setHunit k u x).port q k' = s.port q k' := rfl
@[simp] theorem State.hunit_setHunit_same (s : State) (k u : Nat) (x : HUnit) : (s.setHunit k u x).hunit k u = x := Tbl.get_set_same _ _ _ _
@[simp] theorem State.hline_setHunit (s : State) (k u : Nat) (x : HUnit) (k' : Nat) : (s.setHunit k u x).hline k' = s.hline k' := rfl
@[simp] theorem State.pad_setHunit (s : State) (k u : Nat) (x : HUnit) (p : Nat) : (s.setHunit k u x).pad p = s.pad p := rfl
@[simp] theorem State.heldByPage_setHunit (s : State) (k u : Nat) (x : HUnit) (addr : Nat) (b : List Byte) : (s.setHunit k u x).heldByPage addr b = s.heldByPage addr b := rfl
@[simp] theorem State.netResv_setHunit (s : State) (k u : Nat) (x : HUnit) (r : Nat) : (s.setHunit k u x).netResv r = s.netResv r := rfl
@[simp] theorem State.stop_setHunit (s : State) (k u : Nat) (x : HUnit) (rs : Nat) : (s.setHunit k u x).stop rs = s.stop rs := rfl
@[simp] theorem State.xfer_setHunit (s : State) (k u : Nat) (x : HUnit) (o : Nat) : (s.setHunit k u x).xfer o = s.xfer o := rfl
@[simp] theorem State.sched_setHunit (s : State) (k u : Nat) (x : HUnit) (k' : ActKind) (unit : Nat) : (s.setHunit k u x).sched k' unit = s.sched k' unit := rfl
@[simp] theorem State.reg_setHunit (s : State) (k u : Nat) (x : HUnit) (o : Nat) : (s.setHunit k u x).reg o = s.reg o := rfl
@[simp] theorem State.image_setHunit (s : State) (k u : Nat) (x : HUnit) (o : Nat) : (s.setHunit k u x).image o = s.image o := rfl
@[simp] theorem State.queue_setHunit (s : State) (k u : Nat) (x : HUnit) (q : Nat) : (s.setHunit k u x).queue q = s.queue q := rfl
@[simp] theorem State.stream_setHunit (s : State) (k u : Nat) (x : HUnit) (i : Nat) : (s.setHunit k u x).stream i = s.stream i := rfl
@[simp] theorem State.session_setHunit (s : State) (k u : Nat) (x : HUnit) (i : Nat) : (s.setHunit k u x).session i = s.session i := rfl
@[simp] theorem State.rep_setHunit (s : State) (k u : Nat) (x : HUnit) (q : Nat) : (s.setHunit k u x).rep q = s.rep q := rfl
@[simp] theorem State.ser_setHunit (s : State) (k u : Nat) (x : HUnit) (ch : Nat) : (s.setHunit k u x).ser ch = s.ser ch := rfl
@[simp] theorem State.ctl_setHunit (s : State) (k u : Nat) (x : HUnit) (c : Ctl) : (s.setHunit k u x).ctl c = s.ctl c := rfl
@[simp] theorem State.ptpDom_setHunit (s : State) (k u : Nat) (x : HUnit) (k' : Nat) : (s.setHunit k u x).ptpDom k' = s.ptpDom k' := rfl
@[simp] theorem State.trig_setHunit (s : State) (k u : Nat) (x : HUnit) (u' : Nat) : (s.setHunit k u x).trig u' = s.trig u' := rfl
@[simp] theorem State.yard_setHunit (s : State) (k u : Nat) (x : HUnit) (p : Nat) : (s.setHunit k u x).yard p = s.yard p := rfl
@[simp] theorem State.setHline_now (s : State) (k : Nat) (x : HLine) : (s.setHline k x).now = s.now := rfl
@[simp] theorem State.chan_setHline (s : State) (k : Nat) (x : HLine) (ch : Nat) : (s.setHline k x).chan ch = s.chan ch := rfl
@[simp] theorem State.aliasWin_setHline (s : State) (k : Nat) (x : HLine) (o : Nat) : (s.setHline k x).aliasWin o = s.aliasWin o := rfl
@[simp] theorem State.engine_setHline (s : State) (k : Nat) (x : HLine) (e : Nat) : (s.setHline k x).engine e = s.engine e := rfl
@[simp] theorem State.cluster_setHline (s : State) (k : Nat) (x : HLine) (c : Nat) : (s.setHline k x).cluster c = s.cluster c := rfl
@[simp] theorem State.flPort_setHline (s : State) (k : Nat) (x : HLine) (k' : Nat) : (s.setHline k x).flPort k' = s.flPort k' := rfl
@[simp] theorem State.qport_setHline (s : State) (k : Nat) (x : HLine) (k' : Nat) : (s.setHline k x).qport k' = s.qport k' := rfl
@[simp] theorem State.macRegs_setHline (s : State) (k : Nat) (x : HLine) (tl : Nat) : (s.setHline k x).macRegs tl = s.macRegs tl := rfl
@[simp] theorem State.fc_setHline (s : State) (k : Nat) (x : HLine) (q : Nat) : (s.setHline k x).fc q = s.fc q := rfl
@[simp] theorem State.port_setHline (s : State) (k : Nat) (x : HLine) (q k' : Nat) : (s.setHline k x).port q k' = s.port q k' := rfl
@[simp] theorem State.hunit_setHline (s : State) (k : Nat) (x : HLine) (k' u : Nat) : (s.setHline k x).hunit k' u = s.hunit k' u := rfl
@[simp] theorem State.hline_setHline_same (s : State) (k : Nat) (x : HLine) : (s.setHline k x).hline k = x := Tbl.get_set_same _ _ _ _
@[simp] theorem State.pad_setHline (s : State) (k : Nat) (x : HLine) (p : Nat) : (s.setHline k x).pad p = s.pad p := rfl
@[simp] theorem State.heldByPage_setHline (s : State) (k : Nat) (x : HLine) (addr : Nat) (b : List Byte) : (s.setHline k x).heldByPage addr b = s.heldByPage addr b := rfl
@[simp] theorem State.netResv_setHline (s : State) (k : Nat) (x : HLine) (r : Nat) : (s.setHline k x).netResv r = s.netResv r := rfl
@[simp] theorem State.stop_setHline (s : State) (k : Nat) (x : HLine) (rs : Nat) : (s.setHline k x).stop rs = s.stop rs := rfl
@[simp] theorem State.xfer_setHline (s : State) (k : Nat) (x : HLine) (o : Nat) : (s.setHline k x).xfer o = s.xfer o := rfl
@[simp] theorem State.sched_setHline (s : State) (k : Nat) (x : HLine) (k' : ActKind) (unit : Nat) : (s.setHline k x).sched k' unit = s.sched k' unit := rfl
@[simp] theorem State.reg_setHline (s : State) (k : Nat) (x : HLine) (o : Nat) : (s.setHline k x).reg o = s.reg o := rfl
@[simp] theorem State.image_setHline (s : State) (k : Nat) (x : HLine) (o : Nat) : (s.setHline k x).image o = s.image o := rfl
@[simp] theorem State.queue_setHline (s : State) (k : Nat) (x : HLine) (q : Nat) : (s.setHline k x).queue q = s.queue q := rfl
@[simp] theorem State.stream_setHline (s : State) (k : Nat) (x : HLine) (i : Nat) : (s.setHline k x).stream i = s.stream i := rfl
@[simp] theorem State.session_setHline (s : State) (k : Nat) (x : HLine) (i : Nat) : (s.setHline k x).session i = s.session i := rfl
@[simp] theorem State.rep_setHline (s : State) (k : Nat) (x : HLine) (q : Nat) : (s.setHline k x).rep q = s.rep q := rfl
@[simp] theorem State.ser_setHline (s : State) (k : Nat) (x : HLine) (ch : Nat) : (s.setHline k x).ser ch = s.ser ch := rfl
@[simp] theorem State.ctl_setHline (s : State) (k : Nat) (x : HLine) (c : Ctl) : (s.setHline k x).ctl c = s.ctl c := rfl
@[simp] theorem State.ptpDom_setHline (s : State) (k : Nat) (x : HLine) (k' : Nat) : (s.setHline k x).ptpDom k' = s.ptpDom k' := rfl
@[simp] theorem State.trig_setHline (s : State) (k : Nat) (x : HLine) (u : Nat) : (s.setHline k x).trig u = s.trig u := rfl
@[simp] theorem State.yard_setHline (s : State) (k : Nat) (x : HLine) (p : Nat) : (s.setHline k x).yard p = s.yard p := rfl
@[simp] theorem State.setPad_now (s : State) (p : Nat) (x : Pad) : (s.setPad p x).now = s.now := rfl
@[simp] theorem State.chan_setPad (s : State) (p : Nat) (x : Pad) (ch : Nat) : (s.setPad p x).chan ch = s.chan ch := rfl
@[simp] theorem State.aliasWin_setPad (s : State) (p : Nat) (x : Pad) (o : Nat) : (s.setPad p x).aliasWin o = s.aliasWin o := rfl
@[simp] theorem State.engine_setPad (s : State) (p : Nat) (x : Pad) (e : Nat) : (s.setPad p x).engine e = s.engine e := rfl
@[simp] theorem State.cluster_setPad (s : State) (p : Nat) (x : Pad) (c : Nat) : (s.setPad p x).cluster c = s.cluster c := rfl
@[simp] theorem State.flPort_setPad (s : State) (p : Nat) (x : Pad) (k : Nat) : (s.setPad p x).flPort k = s.flPort k := rfl
@[simp] theorem State.qport_setPad (s : State) (p : Nat) (x : Pad) (k : Nat) : (s.setPad p x).qport k = s.qport k := rfl
@[simp] theorem State.macRegs_setPad (s : State) (p : Nat) (x : Pad) (tl : Nat) : (s.setPad p x).macRegs tl = s.macRegs tl := rfl
@[simp] theorem State.fc_setPad (s : State) (p : Nat) (x : Pad) (q : Nat) : (s.setPad p x).fc q = s.fc q := rfl
@[simp] theorem State.port_setPad (s : State) (p : Nat) (x : Pad) (q k : Nat) : (s.setPad p x).port q k = s.port q k := rfl
@[simp] theorem State.hunit_setPad (s : State) (p : Nat) (x : Pad) (k u : Nat) : (s.setPad p x).hunit k u = s.hunit k u := rfl
@[simp] theorem State.hline_setPad (s : State) (p : Nat) (x : Pad) (k : Nat) : (s.setPad p x).hline k = s.hline k := rfl
@[simp] theorem State.pad_setPad_same (s : State) (p : Nat) (x : Pad) : (s.setPad p x).pad p = x := Tbl.get_set_same _ _ _ _
@[simp] theorem State.heldByPage_setPad (s : State) (p : Nat) (x : Pad) (addr : Nat) (b : List Byte) : (s.setPad p x).heldByPage addr b = s.heldByPage addr b := rfl
@[simp] theorem State.netResv_setPad (s : State) (p : Nat) (x : Pad) (r : Nat) : (s.setPad p x).netResv r = s.netResv r := rfl
@[simp] theorem State.stop_setPad (s : State) (p : Nat) (x : Pad) (rs : Nat) : (s.setPad p x).stop rs = s.stop rs := rfl
@[simp] theorem State.xfer_setPad (s : State) (p : Nat) (x : Pad) (o : Nat) : (s.setPad p x).xfer o = s.xfer o := rfl
@[simp] theorem State.sched_setPad (s : State) (p : Nat) (x : Pad) (k : ActKind) (unit : Nat) : (s.setPad p x).sched k unit = s.sched k unit := rfl
@[simp] theorem State.reg_setPad (s : State) (p : Nat) (x : Pad) (o : Nat) : (s.setPad p x).reg o = s.reg o := rfl
@[simp] theorem State.image_setPad (s : State) (p : Nat) (x : Pad) (o : Nat) : (s.setPad p x).image o = s.image o := rfl
@[simp] theorem State.queue_setPad (s : State) (p : Nat) (x : Pad) (q : Nat) : (s.setPad p x).queue q = s.queue q := rfl
@[simp] theorem State.stream_setPad (s : State) (p : Nat) (x : Pad) (i : Nat) : (s.setPad p x).stream i = s.stream i := rfl
@[simp] theorem State.session_setPad (s : State) (p : Nat) (x : Pad) (i : Nat) : (s.setPad p x).session i = s.session i := rfl
@[simp] theorem State.rep_setPad (s : State) (p : Nat) (x : Pad) (q : Nat) : (s.setPad p x).rep q = s.rep q := rfl
@[simp] theorem State.ser_setPad (s : State) (p : Nat) (x : Pad) (ch : Nat) : (s.setPad p x).ser ch = s.ser ch := rfl
@[simp] theorem State.ctl_setPad (s : State) (p : Nat) (x : Pad) (c : Ctl) : (s.setPad p x).ctl c = s.ctl c := rfl
@[simp] theorem State.ptpDom_setPad (s : State) (p : Nat) (x : Pad) (k : Nat) : (s.setPad p x).ptpDom k = s.ptpDom k := rfl
@[simp] theorem State.trig_setPad (s : State) (p : Nat) (x : Pad) (u : Nat) : (s.setPad p x).trig u = s.trig u := rfl
@[simp] theorem State.yard_setPad (s : State) (p : Nat) (x : Pad) (p' : Nat) : (s.setPad p x).yard p' = s.yard p' := rfl
@[simp] theorem State.setNetResv_now (s : State) (r : Nat) (x : NetResv) : (s.setNetResv r x).now = s.now := rfl
@[simp] theorem State.chan_setNetResv (s : State) (r : Nat) (x : NetResv) (ch : Nat) : (s.setNetResv r x).chan ch = s.chan ch := rfl
@[simp] theorem State.aliasWin_setNetResv (s : State) (r : Nat) (x : NetResv) (o : Nat) : (s.setNetResv r x).aliasWin o = s.aliasWin o := rfl
@[simp] theorem State.engine_setNetResv (s : State) (r : Nat) (x : NetResv) (e : Nat) : (s.setNetResv r x).engine e = s.engine e := rfl
@[simp] theorem State.cluster_setNetResv (s : State) (r : Nat) (x : NetResv) (c : Nat) : (s.setNetResv r x).cluster c = s.cluster c := rfl
@[simp] theorem State.flPort_setNetResv (s : State) (r : Nat) (x : NetResv) (k : Nat) : (s.setNetResv r x).flPort k = s.flPort k := rfl
@[simp] theorem State.qport_setNetResv (s : State) (r : Nat) (x : NetResv) (k : Nat) : (s.setNetResv r x).qport k = s.qport k := rfl
@[simp] theorem State.macRegs_setNetResv (s : State) (r : Nat) (x : NetResv) (tl : Nat) : (s.setNetResv r x).macRegs tl = s.macRegs tl := rfl
@[simp] theorem State.fc_setNetResv (s : State) (r : Nat) (x : NetResv) (q : Nat) : (s.setNetResv r x).fc q = s.fc q := rfl
@[simp] theorem State.port_setNetResv (s : State) (r : Nat) (x : NetResv) (q k : Nat) : (s.setNetResv r x).port q k = s.port q k := rfl
@[simp] theorem State.hunit_setNetResv (s : State) (r : Nat) (x : NetResv) (k u : Nat) : (s.setNetResv r x).hunit k u = s.hunit k u := rfl
@[simp] theorem State.hline_setNetResv (s : State) (r : Nat) (x : NetResv) (k : Nat) : (s.setNetResv r x).hline k = s.hline k := rfl
@[simp] theorem State.pad_setNetResv (s : State) (r : Nat) (x : NetResv) (p : Nat) : (s.setNetResv r x).pad p = s.pad p := rfl
@[simp] theorem State.heldByPage_setNetResv (s : State) (r : Nat) (x : NetResv) (addr : Nat) (b : List Byte) : (s.setNetResv r x).heldByPage addr b = s.heldByPage addr b := rfl
@[simp] theorem State.netResv_setNetResv_same (s : State) (r : Nat) (x : NetResv) : (s.setNetResv r x).netResv r = x := Tbl.get_set_same _ _ _ _
@[simp] theorem State.stop_setNetResv (s : State) (r : Nat) (x : NetResv) (rs : Nat) : (s.setNetResv r x).stop rs = s.stop rs := rfl
@[simp] theorem State.xfer_setNetResv (s : State) (r : Nat) (x : NetResv) (o : Nat) : (s.setNetResv r x).xfer o = s.xfer o := rfl
@[simp] theorem State.sched_setNetResv (s : State) (r : Nat) (x : NetResv) (k : ActKind) (unit : Nat) : (s.setNetResv r x).sched k unit = s.sched k unit := rfl
@[simp] theorem State.reg_setNetResv (s : State) (r : Nat) (x : NetResv) (o : Nat) : (s.setNetResv r x).reg o = s.reg o := rfl
@[simp] theorem State.image_setNetResv (s : State) (r : Nat) (x : NetResv) (o : Nat) : (s.setNetResv r x).image o = s.image o := rfl
@[simp] theorem State.queue_setNetResv (s : State) (r : Nat) (x : NetResv) (q : Nat) : (s.setNetResv r x).queue q = s.queue q := rfl
@[simp] theorem State.stream_setNetResv (s : State) (r : Nat) (x : NetResv) (i : Nat) : (s.setNetResv r x).stream i = s.stream i := rfl
@[simp] theorem State.session_setNetResv (s : State) (r : Nat) (x : NetResv) (i : Nat) : (s.setNetResv r x).session i = s.session i := rfl
@[simp] theorem State.rep_setNetResv (s : State) (r : Nat) (x : NetResv) (q : Nat) : (s.setNetResv r x).rep q = s.rep q := rfl
@[simp] theorem State.ser_setNetResv (s : State) (r : Nat) (x : NetResv) (ch : Nat) : (s.setNetResv r x).ser ch = s.ser ch := rfl
@[simp] theorem State.ctl_setNetResv (s : State) (r : Nat) (x : NetResv) (c : Ctl) : (s.setNetResv r x).ctl c = s.ctl c := rfl
@[simp] theorem State.ptpDom_setNetResv (s : State) (r : Nat) (x : NetResv) (k : Nat) : (s.setNetResv r x).ptpDom k = s.ptpDom k := rfl
@[simp] theorem State.trig_setNetResv (s : State) (r : Nat) (x : NetResv) (u : Nat) : (s.setNetResv r x).trig u = s.trig u := rfl
@[simp] theorem State.yard_setNetResv (s : State) (r : Nat) (x : NetResv) (p : Nat) : (s.setNetResv r x).yard p = s.yard p := rfl
@[simp] theorem State.setStop_now (s : State) (rs : Nat) (x : NetStop) : (s.setStop rs x).now = s.now := rfl
@[simp] theorem State.chan_setStop (s : State) (rs : Nat) (x : NetStop) (ch : Nat) : (s.setStop rs x).chan ch = s.chan ch := rfl
@[simp] theorem State.aliasWin_setStop (s : State) (rs : Nat) (x : NetStop) (o : Nat) : (s.setStop rs x).aliasWin o = s.aliasWin o := rfl
@[simp] theorem State.engine_setStop (s : State) (rs : Nat) (x : NetStop) (e : Nat) : (s.setStop rs x).engine e = s.engine e := rfl
@[simp] theorem State.cluster_setStop (s : State) (rs : Nat) (x : NetStop) (c : Nat) : (s.setStop rs x).cluster c = s.cluster c := rfl
@[simp] theorem State.flPort_setStop (s : State) (rs : Nat) (x : NetStop) (k : Nat) : (s.setStop rs x).flPort k = s.flPort k := rfl
@[simp] theorem State.qport_setStop (s : State) (rs : Nat) (x : NetStop) (k : Nat) : (s.setStop rs x).qport k = s.qport k := rfl
@[simp] theorem State.macRegs_setStop (s : State) (rs : Nat) (x : NetStop) (tl : Nat) : (s.setStop rs x).macRegs tl = s.macRegs tl := rfl
@[simp] theorem State.fc_setStop (s : State) (rs : Nat) (x : NetStop) (q : Nat) : (s.setStop rs x).fc q = s.fc q := rfl
@[simp] theorem State.port_setStop (s : State) (rs : Nat) (x : NetStop) (q k : Nat) : (s.setStop rs x).port q k = s.port q k := rfl
@[simp] theorem State.hunit_setStop (s : State) (rs : Nat) (x : NetStop) (k u : Nat) : (s.setStop rs x).hunit k u = s.hunit k u := rfl
@[simp] theorem State.hline_setStop (s : State) (rs : Nat) (x : NetStop) (k : Nat) : (s.setStop rs x).hline k = s.hline k := rfl
@[simp] theorem State.pad_setStop (s : State) (rs : Nat) (x : NetStop) (p : Nat) : (s.setStop rs x).pad p = s.pad p := rfl
@[simp] theorem State.heldByPage_setStop (s : State) (rs : Nat) (x : NetStop) (addr : Nat) (b : List Byte) : (s.setStop rs x).heldByPage addr b = s.heldByPage addr b := rfl
@[simp] theorem State.netResv_setStop (s : State) (rs : Nat) (x : NetStop) (r : Nat) : (s.setStop rs x).netResv r = s.netResv r := rfl
@[simp] theorem State.stop_setStop_same (s : State) (rs : Nat) (x : NetStop) : (s.setStop rs x).stop rs = x := Tbl.get_set_same _ _ _ _
@[simp] theorem State.xfer_setStop (s : State) (rs : Nat) (x : NetStop) (o : Nat) : (s.setStop rs x).xfer o = s.xfer o := rfl
@[simp] theorem State.sched_setStop (s : State) (rs : Nat) (x : NetStop) (k : ActKind) (unit : Nat) : (s.setStop rs x).sched k unit = s.sched k unit := rfl
@[simp] theorem State.reg_setStop (s : State) (rs : Nat) (x : NetStop) (o : Nat) : (s.setStop rs x).reg o = s.reg o := rfl
@[simp] theorem State.image_setStop (s : State) (rs : Nat) (x : NetStop) (o : Nat) : (s.setStop rs x).image o = s.image o := rfl
@[simp] theorem State.queue_setStop (s : State) (rs : Nat) (x : NetStop) (q : Nat) : (s.setStop rs x).queue q = s.queue q := rfl
@[simp] theorem State.stream_setStop (s : State) (rs : Nat) (x : NetStop) (i : Nat) : (s.setStop rs x).stream i = s.stream i := rfl
@[simp] theorem State.session_setStop (s : State) (rs : Nat) (x : NetStop) (i : Nat) : (s.setStop rs x).session i = s.session i := rfl
@[simp] theorem State.rep_setStop (s : State) (rs : Nat) (x : NetStop) (q : Nat) : (s.setStop rs x).rep q = s.rep q := rfl
@[simp] theorem State.ser_setStop (s : State) (rs : Nat) (x : NetStop) (ch : Nat) : (s.setStop rs x).ser ch = s.ser ch := rfl
@[simp] theorem State.ctl_setStop (s : State) (rs : Nat) (x : NetStop) (c : Ctl) : (s.setStop rs x).ctl c = s.ctl c := rfl
@[simp] theorem State.ptpDom_setStop (s : State) (rs : Nat) (x : NetStop) (k : Nat) : (s.setStop rs x).ptpDom k = s.ptpDom k := rfl
@[simp] theorem State.trig_setStop (s : State) (rs : Nat) (x : NetStop) (u : Nat) : (s.setStop rs x).trig u = s.trig u := rfl
@[simp] theorem State.yard_setStop (s : State) (rs : Nat) (x : NetStop) (p : Nat) : (s.setStop rs x).yard p = s.yard p := rfl
@[simp] theorem State.setXfer_now (s : State) (o : Nat) (x : Option Xfer) : (s.setXfer o x).now = s.now := rfl
@[simp] theorem State.chan_setXfer (s : State) (o : Nat) (x : Option Xfer) (ch : Nat) : (s.setXfer o x).chan ch = s.chan ch := rfl
@[simp] theorem State.aliasWin_setXfer (s : State) (o : Nat) (x : Option Xfer) (o' : Nat) : (s.setXfer o x).aliasWin o' = s.aliasWin o' := rfl
@[simp] theorem State.engine_setXfer (s : State) (o : Nat) (x : Option Xfer) (e : Nat) : (s.setXfer o x).engine e = s.engine e := rfl
@[simp] theorem State.cluster_setXfer (s : State) (o : Nat) (x : Option Xfer) (c : Nat) : (s.setXfer o x).cluster c = s.cluster c := rfl
@[simp] theorem State.flPort_setXfer (s : State) (o : Nat) (x : Option Xfer) (k : Nat) : (s.setXfer o x).flPort k = s.flPort k := rfl
@[simp] theorem State.qport_setXfer (s : State) (o : Nat) (x : Option Xfer) (k : Nat) : (s.setXfer o x).qport k = s.qport k := rfl
@[simp] theorem State.macRegs_setXfer (s : State) (o : Nat) (x : Option Xfer) (tl : Nat) : (s.setXfer o x).macRegs tl = s.macRegs tl := rfl
@[simp] theorem State.fc_setXfer (s : State) (o : Nat) (x : Option Xfer) (q : Nat) : (s.setXfer o x).fc q = s.fc q := rfl
@[simp] theorem State.port_setXfer (s : State) (o : Nat) (x : Option Xfer) (q k : Nat) : (s.setXfer o x).port q k = s.port q k := rfl
@[simp] theorem State.hunit_setXfer (s : State) (o : Nat) (x : Option Xfer) (k u : Nat) : (s.setXfer o x).hunit k u = s.hunit k u := rfl
@[simp] theorem State.hline_setXfer (s : State) (o : Nat) (x : Option Xfer) (k : Nat) : (s.setXfer o x).hline k = s.hline k := rfl
@[simp] theorem State.pad_setXfer (s : State) (o : Nat) (x : Option Xfer) (p : Nat) : (s.setXfer o x).pad p = s.pad p := rfl
@[simp] theorem State.heldByPage_setXfer (s : State) (o : Nat) (x : Option Xfer) (addr : Nat) (b : List Byte) : (s.setXfer o x).heldByPage addr b = s.heldByPage addr b := rfl
@[simp] theorem State.netResv_setXfer (s : State) (o : Nat) (x : Option Xfer) (r : Nat) : (s.setXfer o x).netResv r = s.netResv r := rfl
@[simp] theorem State.stop_setXfer (s : State) (o : Nat) (x : Option Xfer) (rs : Nat) : (s.setXfer o x).stop rs = s.stop rs := rfl
@[simp] theorem State.xfer_setXfer_same (s : State) (o : Nat) (x : Option Xfer) : (s.setXfer o x).xfer o = x := Tbl.get_set_same _ _ _ _
@[simp] theorem State.sched_setXfer (s : State) (o : Nat) (x : Option Xfer) (k : ActKind) (unit : Nat) : (s.setXfer o x).sched k unit = s.sched k unit := rfl
@[simp] theorem State.reg_setXfer (s : State) (o : Nat) (x : Option Xfer) (o' : Nat) : (s.setXfer o x).reg o' = s.reg o' := rfl
@[simp] theorem State.image_setXfer (s : State) (o : Nat) (x : Option Xfer) (o' : Nat) : (s.setXfer o x).image o' = s.image o' := rfl
@[simp] theorem State.queue_setXfer (s : State) (o : Nat) (x : Option Xfer) (q : Nat) : (s.setXfer o x).queue q = s.queue q := rfl
@[simp] theorem State.stream_setXfer (s : State) (o : Nat) (x : Option Xfer) (i : Nat) : (s.setXfer o x).stream i = s.stream i := rfl
@[simp] theorem State.session_setXfer (s : State) (o : Nat) (x : Option Xfer) (i : Nat) : (s.setXfer o x).session i = s.session i := rfl
@[simp] theorem State.rep_setXfer (s : State) (o : Nat) (x : Option Xfer) (q : Nat) : (s.setXfer o x).rep q = s.rep q := rfl
@[simp] theorem State.ser_setXfer (s : State) (o : Nat) (x : Option Xfer) (ch : Nat) : (s.setXfer o x).ser ch = s.ser ch := rfl
@[simp] theorem State.ctl_setXfer (s : State) (o : Nat) (x : Option Xfer) (c : Ctl) : (s.setXfer o x).ctl c = s.ctl c := rfl
@[simp] theorem State.ptpDom_setXfer (s : State) (o : Nat) (x : Option Xfer) (k : Nat) : (s.setXfer o x).ptpDom k = s.ptpDom k := rfl
@[simp] theorem State.trig_setXfer (s : State) (o : Nat) (x : Option Xfer) (u : Nat) : (s.setXfer o x).trig u = s.trig u := rfl
@[simp] theorem State.yard_setXfer (s : State) (o : Nat) (x : Option Xfer) (p : Nat) : (s.setXfer o x).yard p = s.yard p := rfl
@[simp] theorem State.chan_setReg (s : State) (o v : Nat) (ch : Nat) : (s.setReg o v).chan ch = s.chan ch := rfl
@[simp] theorem State.aliasWin_setReg (s : State) (o v : Nat) (o' : Nat) : (s.setReg o v).aliasWin o' = s.aliasWin o' := rfl
@[simp] theorem State.engine_setReg (s : State) (o v : Nat) (e : Nat) : (s.setReg o v).engine e = s.engine e := rfl
@[simp] theorem State.cluster_setReg (s : State) (o v : Nat) (c : Nat) : (s.setReg o v).cluster c = s.cluster c := rfl
@[simp] theorem State.flPort_setReg (s : State) (o v : Nat) (k : Nat) : (s.setReg o v).flPort k = s.flPort k := rfl
@[simp] theorem State.qport_setReg (s : State) (o v : Nat) (k : Nat) : (s.setReg o v).qport k = s.qport k := rfl
@[simp] theorem State.macRegs_setReg (s : State) (o v : Nat) (tl : Nat) : (s.setReg o v).macRegs tl = s.macRegs tl := rfl
@[simp] theorem State.fc_setReg (s : State) (o v : Nat) (q : Nat) : (s.setReg o v).fc q = s.fc q := rfl
@[simp] theorem State.port_setReg (s : State) (o v : Nat) (q k : Nat) : (s.setReg o v).port q k = s.port q k := rfl
@[simp] theorem State.hunit_setReg (s : State) (o v : Nat) (k u : Nat) : (s.setReg o v).hunit k u = s.hunit k u := rfl
@[simp] theorem State.hline_setReg (s : State) (o v : Nat) (k : Nat) : (s.setReg o v).hline k = s.hline k := rfl
@[simp] theorem State.pad_setReg (s : State) (o v : Nat) (p : Nat) : (s.setReg o v).pad p = s.pad p := rfl
@[simp] theorem State.heldByPage_setReg (s : State) (o v : Nat) (addr : Nat) (b : List Byte) : (s.setReg o v).heldByPage addr b = s.heldByPage addr b := rfl
@[simp] theorem State.netResv_setReg (s : State) (o v : Nat) (r : Nat) : (s.setReg o v).netResv r = s.netResv r := rfl
@[simp] theorem State.stop_setReg (s : State) (o v : Nat) (rs : Nat) : (s.setReg o v).stop rs = s.stop rs := rfl
@[simp] theorem State.xfer_setReg (s : State) (o v : Nat) (o' : Nat) : (s.setReg o v).xfer o' = s.xfer o' := rfl
@[simp] theorem State.sched_setReg (s : State) (o v : Nat) (k : ActKind) (unit : Nat) : (s.setReg o v).sched k unit = s.sched k unit := rfl
@[simp] theorem State.queue_setReg (s : State) (o v : Nat) (q : Nat) : (s.setReg o v).queue q = s.queue q := rfl
@[simp] theorem State.stream_setReg (s : State) (o v : Nat) (i : Nat) : (s.setReg o v).stream i = s.stream i := rfl
@[simp] theorem State.session_setReg (s : State) (o v : Nat) (i : Nat) : (s.setReg o v).session i = s.session i := rfl
@[simp] theorem State.rep_setReg (s : State) (o v : Nat) (q : Nat) : (s.setReg o v).rep q = s.rep q := rfl
@[simp] theorem State.ser_setReg (s : State) (o v : Nat) (ch : Nat) : (s.setReg o v).ser ch = s.ser ch := rfl
@[simp] theorem State.ctl_setReg (s : State) (o v : Nat) (c : Ctl) : (s.setReg o v).ctl c = s.ctl c := rfl
@[simp] theorem State.ptpDom_setReg (s : State) (o v : Nat) (k : Nat) : (s.setReg o v).ptpDom k = s.ptpDom k := rfl
@[simp] theorem State.trig_setReg (s : State) (o v : Nat) (u : Nat) : (s.setReg o v).trig u = s.trig u := rfl
@[simp] theorem State.yard_setReg (s : State) (o v : Nat) (p : Nat) : (s.setReg o v).yard p = s.yard p := rfl
@[simp] theorem State.chan_setImage (s : State) (o : Nat) (b : List Byte) (ch : Nat) : (s.setImage o b).chan ch = s.chan ch := rfl
@[simp] theorem State.aliasWin_setImage (s : State) (o : Nat) (b : List Byte) (o' : Nat) : (s.setImage o b).aliasWin o' = s.aliasWin o' := rfl
@[simp] theorem State.engine_setImage (s : State) (o : Nat) (b : List Byte) (e : Nat) : (s.setImage o b).engine e = s.engine e := rfl
@[simp] theorem State.cluster_setImage (s : State) (o : Nat) (b : List Byte) (c : Nat) : (s.setImage o b).cluster c = s.cluster c := rfl
@[simp] theorem State.flPort_setImage (s : State) (o : Nat) (b : List Byte) (k : Nat) : (s.setImage o b).flPort k = s.flPort k := rfl
@[simp] theorem State.qport_setImage (s : State) (o : Nat) (b : List Byte) (k : Nat) : (s.setImage o b).qport k = s.qport k := rfl
@[simp] theorem State.macRegs_setImage (s : State) (o : Nat) (b : List Byte) (tl : Nat) : (s.setImage o b).macRegs tl = s.macRegs tl := rfl
@[simp] theorem State.fc_setImage (s : State) (o : Nat) (b : List Byte) (q : Nat) : (s.setImage o b).fc q = s.fc q := rfl
@[simp] theorem State.port_setImage (s : State) (o : Nat) (b : List Byte) (q k : Nat) : (s.setImage o b).port q k = s.port q k := rfl
@[simp] theorem State.hunit_setImage (s : State) (o : Nat) (b : List Byte) (k u : Nat) : (s.setImage o b).hunit k u = s.hunit k u := rfl
@[simp] theorem State.hline_setImage (s : State) (o : Nat) (b : List Byte) (k : Nat) : (s.setImage o b).hline k = s.hline k := rfl
@[simp] theorem State.pad_setImage (s : State) (o : Nat) (b : List Byte) (p : Nat) : (s.setImage o b).pad p = s.pad p := rfl
@[simp] theorem State.heldByPage_setImage (s : State) (o : Nat) (b : List Byte) (addr : Nat) (b' : List Byte) : (s.setImage o b).heldByPage addr b' = s.heldByPage addr b' := rfl
@[simp] theorem State.netResv_setImage (s : State) (o : Nat) (b : List Byte) (r : Nat) : (s.setImage o b).netResv r = s.netResv r := rfl
@[simp] theorem State.stop_setImage (s : State) (o : Nat) (b : List Byte) (rs : Nat) : (s.setImage o b).stop rs = s.stop rs := rfl
@[simp] theorem State.xfer_setImage (s : State) (o : Nat) (b : List Byte) (o' : Nat) : (s.setImage o b).xfer o' = s.xfer o' := rfl
@[simp] theorem State.sched_setImage (s : State) (o : Nat) (b : List Byte) (k : ActKind) (unit : Nat) : (s.setImage o b).sched k unit = s.sched k unit := rfl
@[simp] theorem State.queue_setImage (s : State) (o : Nat) (b : List Byte) (q : Nat) : (s.setImage o b).queue q = s.queue q := rfl
@[simp] theorem State.stream_setImage (s : State) (o : Nat) (b : List Byte) (i : Nat) : (s.setImage o b).stream i = s.stream i := rfl
@[simp] theorem State.session_setImage (s : State) (o : Nat) (b : List Byte) (i : Nat) : (s.setImage o b).session i = s.session i := rfl
@[simp] theorem State.rep_setImage (s : State) (o : Nat) (b : List Byte) (q : Nat) : (s.setImage o b).rep q = s.rep q := rfl
@[simp] theorem State.ser_setImage (s : State) (o : Nat) (b : List Byte) (ch : Nat) : (s.setImage o b).ser ch = s.ser ch := rfl
@[simp] theorem State.ctl_setImage (s : State) (o : Nat) (b : List Byte) (c : Ctl) : (s.setImage o b).ctl c = s.ctl c := rfl
@[simp] theorem State.ptpDom_setImage (s : State) (o : Nat) (b : List Byte) (k : Nat) : (s.setImage o b).ptpDom k = s.ptpDom k := rfl
@[simp] theorem State.trig_setImage (s : State) (o : Nat) (b : List Byte) (u : Nat) : (s.setImage o b).trig u = s.trig u := rfl
@[simp] theorem State.yard_setImage (s : State) (o : Nat) (b : List Byte) (p : Nat) : (s.setImage o b).yard p = s.yard p := rfl
@[simp] theorem State.setQueue_now (s : State) (q : Nat) (c : Queue) : (s.setQueue q c).now = s.now := rfl
@[simp] theorem State.chan_setQueue (s : State) (q : Nat) (c : Queue) (ch : Nat) : (s.setQueue q c).chan ch = s.chan ch := rfl
@[simp] theorem State.aliasWin_setQueue (s : State) (q : Nat) (c : Queue) (o : Nat) : (s.setQueue q c).aliasWin o = s.aliasWin o := rfl
@[simp] theorem State.engine_setQueue (s : State) (q : Nat) (c : Queue) (e : Nat) : (s.setQueue q c).engine e = s.engine e := rfl
@[simp] theorem State.cluster_setQueue (s : State) (q : Nat) (c : Queue) (c' : Nat) : (s.setQueue q c).cluster c' = s.cluster c' := rfl
@[simp] theorem State.flPort_setQueue (s : State) (q : Nat) (c : Queue) (k : Nat) : (s.setQueue q c).flPort k = s.flPort k := rfl
@[simp] theorem State.qport_setQueue (s : State) (q : Nat) (c : Queue) (k : Nat) : (s.setQueue q c).qport k = s.qport k := rfl
@[simp] theorem State.macRegs_setQueue (s : State) (q : Nat) (c : Queue) (tl : Nat) : (s.setQueue q c).macRegs tl = s.macRegs tl := rfl
@[simp] theorem State.fc_setQueue (s : State) (q : Nat) (c : Queue) (q' : Nat) : (s.setQueue q c).fc q' = s.fc q' := rfl
@[simp] theorem State.port_setQueue (s : State) (q : Nat) (c : Queue) (q' k : Nat) : (s.setQueue q c).port q' k = s.port q' k := rfl
@[simp] theorem State.hunit_setQueue (s : State) (q : Nat) (c : Queue) (k u : Nat) : (s.setQueue q c).hunit k u = s.hunit k u := rfl
@[simp] theorem State.hline_setQueue (s : State) (q : Nat) (c : Queue) (k : Nat) : (s.setQueue q c).hline k = s.hline k := rfl
@[simp] theorem State.pad_setQueue (s : State) (q : Nat) (c : Queue) (p : Nat) : (s.setQueue q c).pad p = s.pad p := rfl
@[simp] theorem State.heldByPage_setQueue (s : State) (q : Nat) (c : Queue) (addr : Nat) (b : List Byte) : (s.setQueue q c).heldByPage addr b = s.heldByPage addr b := rfl
@[simp] theorem State.netResv_setQueue (s : State) (q : Nat) (c : Queue) (r : Nat) : (s.setQueue q c).netResv r = s.netResv r := rfl
@[simp] theorem State.stop_setQueue (s : State) (q : Nat) (c : Queue) (rs : Nat) : (s.setQueue q c).stop rs = s.stop rs := rfl
@[simp] theorem State.xfer_setQueue (s : State) (q : Nat) (c : Queue) (o : Nat) : (s.setQueue q c).xfer o = s.xfer o := rfl
@[simp] theorem State.sched_setQueue (s : State) (q : Nat) (c : Queue) (k : ActKind) (unit : Nat) : (s.setQueue q c).sched k unit = s.sched k unit := rfl
@[simp] theorem State.reg_setQueue (s : State) (q : Nat) (c : Queue) (o : Nat) : (s.setQueue q c).reg o = s.reg o := rfl
@[simp] theorem State.image_setQueue (s : State) (q : Nat) (c : Queue) (o : Nat) : (s.setQueue q c).image o = s.image o := rfl
@[simp] theorem State.queue_setQueue_same (s : State) (q : Nat) (c : Queue) : (s.setQueue q c).queue q = c := Tbl.get_set_same _ _ _ _
@[simp] theorem State.stream_setQueue (s : State) (q : Nat) (c : Queue) (i : Nat) : (s.setQueue q c).stream i = s.stream i := rfl
@[simp] theorem State.session_setQueue (s : State) (q : Nat) (c : Queue) (i : Nat) : (s.setQueue q c).session i = s.session i := rfl
@[simp] theorem State.rep_setQueue (s : State) (q : Nat) (c : Queue) (q' : Nat) : (s.setQueue q c).rep q' = s.rep q' := rfl
@[simp] theorem State.ser_setQueue (s : State) (q : Nat) (c : Queue) (ch : Nat) : (s.setQueue q c).ser ch = s.ser ch := rfl
@[simp] theorem State.ctl_setQueue (s : State) (q : Nat) (c : Queue) (c' : Ctl) : (s.setQueue q c).ctl c' = s.ctl c' := rfl
@[simp] theorem State.ptpDom_setQueue (s : State) (q : Nat) (c : Queue) (k : Nat) : (s.setQueue q c).ptpDom k = s.ptpDom k := rfl
@[simp] theorem State.trig_setQueue (s : State) (q : Nat) (c : Queue) (u : Nat) : (s.setQueue q c).trig u = s.trig u := rfl
@[simp] theorem State.yard_setQueue (s : State) (q : Nat) (c : Queue) (p : Nat) : (s.setQueue q c).yard p = s.yard p := rfl
@[simp] theorem State.setStream_now (s : State) (i : Nat) (x : Stream) : (s.setStream i x).now = s.now := rfl
@[simp] theorem State.chan_setStream (s : State) (i : Nat) (x : Stream) (ch : Nat) : (s.setStream i x).chan ch = s.chan ch := rfl
@[simp] theorem State.aliasWin_setStream (s : State) (i : Nat) (x : Stream) (o : Nat) : (s.setStream i x).aliasWin o = s.aliasWin o := rfl
@[simp] theorem State.engine_setStream (s : State) (i : Nat) (x : Stream) (e : Nat) : (s.setStream i x).engine e = s.engine e := rfl
@[simp] theorem State.cluster_setStream (s : State) (i : Nat) (x : Stream) (c : Nat) : (s.setStream i x).cluster c = s.cluster c := rfl
@[simp] theorem State.flPort_setStream (s : State) (i : Nat) (x : Stream) (k : Nat) : (s.setStream i x).flPort k = s.flPort k := rfl
@[simp] theorem State.qport_setStream (s : State) (i : Nat) (x : Stream) (k : Nat) : (s.setStream i x).qport k = s.qport k := rfl
@[simp] theorem State.macRegs_setStream (s : State) (i : Nat) (x : Stream) (tl : Nat) : (s.setStream i x).macRegs tl = s.macRegs tl := rfl
@[simp] theorem State.fc_setStream (s : State) (i : Nat) (x : Stream) (q : Nat) : (s.setStream i x).fc q = s.fc q := rfl
@[simp] theorem State.port_setStream (s : State) (i : Nat) (x : Stream) (q k : Nat) : (s.setStream i x).port q k = s.port q k := rfl
@[simp] theorem State.hunit_setStream (s : State) (i : Nat) (x : Stream) (k u : Nat) : (s.setStream i x).hunit k u = s.hunit k u := rfl
@[simp] theorem State.hline_setStream (s : State) (i : Nat) (x : Stream) (k : Nat) : (s.setStream i x).hline k = s.hline k := rfl
@[simp] theorem State.pad_setStream (s : State) (i : Nat) (x : Stream) (p : Nat) : (s.setStream i x).pad p = s.pad p := rfl
@[simp] theorem State.heldByPage_setStream (s : State) (i : Nat) (x : Stream) (addr : Nat) (b : List Byte) : (s.setStream i x).heldByPage addr b = s.heldByPage addr b := rfl
@[simp] theorem State.netResv_setStream (s : State) (i : Nat) (x : Stream) (r : Nat) : (s.setStream i x).netResv r = s.netResv r := rfl
@[simp] theorem State.stop_setStream (s : State) (i : Nat) (x : Stream) (rs : Nat) : (s.setStream i x).stop rs = s.stop rs := rfl
@[simp] theorem State.xfer_setStream (s : State) (i : Nat) (x : Stream) (o : Nat) : (s.setStream i x).xfer o = s.xfer o := rfl
@[simp] theorem State.sched_setStream (s : State) (i : Nat) (x : Stream) (k : ActKind) (unit : Nat) : (s.setStream i x).sched k unit = s.sched k unit := rfl
@[simp] theorem State.reg_setStream (s : State) (i : Nat) (x : Stream) (o : Nat) : (s.setStream i x).reg o = s.reg o := rfl
@[simp] theorem State.image_setStream (s : State) (i : Nat) (x : Stream) (o : Nat) : (s.setStream i x).image o = s.image o := rfl
@[simp] theorem State.queue_setStream (s : State) (i : Nat) (x : Stream) (q : Nat) : (s.setStream i x).queue q = s.queue q := rfl
@[simp] theorem State.stream_setStream_same (s : State) (i : Nat) (x : Stream) : (s.setStream i x).stream i = x := Tbl.get_set_same _ _ _ _
@[simp] theorem State.session_setStream (s : State) (i : Nat) (x : Stream) (i' : Nat) : (s.setStream i x).session i' = s.session i' := rfl
@[simp] theorem State.rep_setStream (s : State) (i : Nat) (x : Stream) (q : Nat) : (s.setStream i x).rep q = s.rep q := rfl
@[simp] theorem State.ser_setStream (s : State) (i : Nat) (x : Stream) (ch : Nat) : (s.setStream i x).ser ch = s.ser ch := rfl
@[simp] theorem State.ctl_setStream (s : State) (i : Nat) (x : Stream) (c : Ctl) : (s.setStream i x).ctl c = s.ctl c := rfl
@[simp] theorem State.ptpDom_setStream (s : State) (i : Nat) (x : Stream) (k : Nat) : (s.setStream i x).ptpDom k = s.ptpDom k := rfl
@[simp] theorem State.trig_setStream (s : State) (i : Nat) (x : Stream) (u : Nat) : (s.setStream i x).trig u = s.trig u := rfl
@[simp] theorem State.yard_setStream (s : State) (i : Nat) (x : Stream) (p : Nat) : (s.setStream i x).yard p = s.yard p := rfl
@[simp] theorem State.setSession_now (s : State) (i : Nat) (x : Session) : (s.setSession i x).now = s.now := rfl
@[simp] theorem State.chan_setSession (s : State) (i : Nat) (x : Session) (ch : Nat) : (s.setSession i x).chan ch = s.chan ch := rfl
@[simp] theorem State.aliasWin_setSession (s : State) (i : Nat) (x : Session) (o : Nat) : (s.setSession i x).aliasWin o = s.aliasWin o := rfl
@[simp] theorem State.engine_setSession (s : State) (i : Nat) (x : Session) (e : Nat) : (s.setSession i x).engine e = s.engine e := rfl
@[simp] theorem State.cluster_setSession (s : State) (i : Nat) (x : Session) (c : Nat) : (s.setSession i x).cluster c = s.cluster c := rfl
@[simp] theorem State.flPort_setSession (s : State) (i : Nat) (x : Session) (k : Nat) : (s.setSession i x).flPort k = s.flPort k := rfl
@[simp] theorem State.qport_setSession (s : State) (i : Nat) (x : Session) (k : Nat) : (s.setSession i x).qport k = s.qport k := rfl
@[simp] theorem State.macRegs_setSession (s : State) (i : Nat) (x : Session) (tl : Nat) : (s.setSession i x).macRegs tl = s.macRegs tl := rfl
@[simp] theorem State.fc_setSession (s : State) (i : Nat) (x : Session) (q : Nat) : (s.setSession i x).fc q = s.fc q := rfl
@[simp] theorem State.port_setSession (s : State) (i : Nat) (x : Session) (q k : Nat) : (s.setSession i x).port q k = s.port q k := rfl
@[simp] theorem State.hunit_setSession (s : State) (i : Nat) (x : Session) (k u : Nat) : (s.setSession i x).hunit k u = s.hunit k u := rfl
@[simp] theorem State.hline_setSession (s : State) (i : Nat) (x : Session) (k : Nat) : (s.setSession i x).hline k = s.hline k := rfl
@[simp] theorem State.pad_setSession (s : State) (i : Nat) (x : Session) (p : Nat) : (s.setSession i x).pad p = s.pad p := rfl
@[simp] theorem State.heldByPage_setSession (s : State) (i : Nat) (x : Session) (addr : Nat) (b : List Byte) : (s.setSession i x).heldByPage addr b = s.heldByPage addr b := rfl
@[simp] theorem State.netResv_setSession (s : State) (i : Nat) (x : Session) (r : Nat) : (s.setSession i x).netResv r = s.netResv r := rfl
@[simp] theorem State.stop_setSession (s : State) (i : Nat) (x : Session) (rs : Nat) : (s.setSession i x).stop rs = s.stop rs := rfl
@[simp] theorem State.xfer_setSession (s : State) (i : Nat) (x : Session) (o : Nat) : (s.setSession i x).xfer o = s.xfer o := rfl
@[simp] theorem State.sched_setSession (s : State) (i : Nat) (x : Session) (k : ActKind) (unit : Nat) : (s.setSession i x).sched k unit = s.sched k unit := rfl
@[simp] theorem State.reg_setSession (s : State) (i : Nat) (x : Session) (o : Nat) : (s.setSession i x).reg o = s.reg o := rfl
@[simp] theorem State.image_setSession (s : State) (i : Nat) (x : Session) (o : Nat) : (s.setSession i x).image o = s.image o := rfl
@[simp] theorem State.queue_setSession (s : State) (i : Nat) (x : Session) (q : Nat) : (s.setSession i x).queue q = s.queue q := rfl
@[simp] theorem State.stream_setSession (s : State) (i : Nat) (x : Session) (i' : Nat) : (s.setSession i x).stream i' = s.stream i' := rfl
@[simp] theorem State.session_setSession_same (s : State) (i : Nat) (x : Session) : (s.setSession i x).session i = x := Tbl.get_set_same _ _ _ _
@[simp] theorem State.rep_setSession (s : State) (i : Nat) (x : Session) (q : Nat) : (s.setSession i x).rep q = s.rep q := rfl
@[simp] theorem State.ser_setSession (s : State) (i : Nat) (x : Session) (ch : Nat) : (s.setSession i x).ser ch = s.ser ch := rfl
@[simp] theorem State.ctl_setSession (s : State) (i : Nat) (x : Session) (c : Ctl) : (s.setSession i x).ctl c = s.ctl c := rfl
@[simp] theorem State.ptpDom_setSession (s : State) (i : Nat) (x : Session) (k : Nat) : (s.setSession i x).ptpDom k = s.ptpDom k := rfl
@[simp] theorem State.trig_setSession (s : State) (i : Nat) (x : Session) (u : Nat) : (s.setSession i x).trig u = s.trig u := rfl
@[simp] theorem State.yard_setSession (s : State) (i : Nat) (x : Session) (p : Nat) : (s.setSession i x).yard p = s.yard p := rfl
@[simp] theorem State.setSer_now (s : State) (ch : Nat) (x : SerLane) : (s.setSer ch x).now = s.now := rfl
@[simp] theorem State.chan_setSer (s : State) (ch : Nat) (x : SerLane) (ch' : Nat) : (s.setSer ch x).chan ch' = s.chan ch' := rfl
@[simp] theorem State.aliasWin_setSer (s : State) (ch : Nat) (x : SerLane) (o : Nat) : (s.setSer ch x).aliasWin o = s.aliasWin o := rfl
@[simp] theorem State.engine_setSer (s : State) (ch : Nat) (x : SerLane) (e : Nat) : (s.setSer ch x).engine e = s.engine e := rfl
@[simp] theorem State.cluster_setSer (s : State) (ch : Nat) (x : SerLane) (c : Nat) : (s.setSer ch x).cluster c = s.cluster c := rfl
@[simp] theorem State.flPort_setSer (s : State) (ch : Nat) (x : SerLane) (k : Nat) : (s.setSer ch x).flPort k = s.flPort k := rfl
@[simp] theorem State.qport_setSer (s : State) (ch : Nat) (x : SerLane) (k : Nat) : (s.setSer ch x).qport k = s.qport k := rfl
@[simp] theorem State.macRegs_setSer (s : State) (ch : Nat) (x : SerLane) (tl : Nat) : (s.setSer ch x).macRegs tl = s.macRegs tl := rfl
@[simp] theorem State.fc_setSer (s : State) (ch : Nat) (x : SerLane) (q : Nat) : (s.setSer ch x).fc q = s.fc q := rfl
@[simp] theorem State.port_setSer (s : State) (ch : Nat) (x : SerLane) (q k : Nat) : (s.setSer ch x).port q k = s.port q k := rfl
@[simp] theorem State.hunit_setSer (s : State) (ch : Nat) (x : SerLane) (k u : Nat) : (s.setSer ch x).hunit k u = s.hunit k u := rfl
@[simp] theorem State.hline_setSer (s : State) (ch : Nat) (x : SerLane) (k : Nat) : (s.setSer ch x).hline k = s.hline k := rfl
@[simp] theorem State.pad_setSer (s : State) (ch : Nat) (x : SerLane) (p : Nat) : (s.setSer ch x).pad p = s.pad p := rfl
@[simp] theorem State.heldByPage_setSer (s : State) (ch : Nat) (x : SerLane) (addr : Nat) (b : List Byte) : (s.setSer ch x).heldByPage addr b = s.heldByPage addr b := rfl
@[simp] theorem State.netResv_setSer (s : State) (ch : Nat) (x : SerLane) (r : Nat) : (s.setSer ch x).netResv r = s.netResv r := rfl
@[simp] theorem State.stop_setSer (s : State) (ch : Nat) (x : SerLane) (rs : Nat) : (s.setSer ch x).stop rs = s.stop rs := rfl
@[simp] theorem State.xfer_setSer (s : State) (ch : Nat) (x : SerLane) (o : Nat) : (s.setSer ch x).xfer o = s.xfer o := rfl
@[simp] theorem State.sched_setSer (s : State) (ch : Nat) (x : SerLane) (k : ActKind) (unit : Nat) : (s.setSer ch x).sched k unit = s.sched k unit := rfl
@[simp] theorem State.reg_setSer (s : State) (ch : Nat) (x : SerLane) (o : Nat) : (s.setSer ch x).reg o = s.reg o := rfl
@[simp] theorem State.image_setSer (s : State) (ch : Nat) (x : SerLane) (o : Nat) : (s.setSer ch x).image o = s.image o := rfl
@[simp] theorem State.queue_setSer (s : State) (ch : Nat) (x : SerLane) (q : Nat) : (s.setSer ch x).queue q = s.queue q := rfl
@[simp] theorem State.stream_setSer (s : State) (ch : Nat) (x : SerLane) (i : Nat) : (s.setSer ch x).stream i = s.stream i := rfl
@[simp] theorem State.session_setSer (s : State) (ch : Nat) (x : SerLane) (i : Nat) : (s.setSer ch x).session i = s.session i := rfl
@[simp] theorem State.rep_setSer (s : State) (ch : Nat) (x : SerLane) (q : Nat) : (s.setSer ch x).rep q = s.rep q := rfl
@[simp] theorem State.ser_setSer_same (s : State) (ch : Nat) (x : SerLane) : (s.setSer ch x).ser ch = x := Tbl.get_set_same _ _ _ _
@[simp] theorem State.ctl_setSer (s : State) (ch : Nat) (x : SerLane) (c : Ctl) : (s.setSer ch x).ctl c = s.ctl c := rfl
@[simp] theorem State.ptpDom_setSer (s : State) (ch : Nat) (x : SerLane) (k : Nat) : (s.setSer ch x).ptpDom k = s.ptpDom k := rfl
@[simp] theorem State.trig_setSer (s : State) (ch : Nat) (x : SerLane) (u : Nat) : (s.setSer ch x).trig u = s.trig u := rfl
@[simp] theorem State.yard_setSer (s : State) (ch : Nat) (x : SerLane) (p : Nat) : (s.setSer ch x).yard p = s.yard p := rfl
@[simp] theorem State.setCtl_now (s : State) (c : Ctl) (x : CtlState) : (s.setCtl c x).now = s.now := rfl
@[simp] theorem State.chan_setCtl (s : State) (c : Ctl) (x : CtlState) (ch : Nat) : (s.setCtl c x).chan ch = s.chan ch := rfl
@[simp] theorem State.aliasWin_setCtl (s : State) (c : Ctl) (x : CtlState) (o : Nat) : (s.setCtl c x).aliasWin o = s.aliasWin o := rfl
@[simp] theorem State.engine_setCtl (s : State) (c : Ctl) (x : CtlState) (e : Nat) : (s.setCtl c x).engine e = s.engine e := rfl
@[simp] theorem State.cluster_setCtl (s : State) (c : Ctl) (x : CtlState) (c' : Nat) : (s.setCtl c x).cluster c' = s.cluster c' := rfl
@[simp] theorem State.flPort_setCtl (s : State) (c : Ctl) (x : CtlState) (k : Nat) : (s.setCtl c x).flPort k = s.flPort k := rfl
@[simp] theorem State.qport_setCtl (s : State) (c : Ctl) (x : CtlState) (k : Nat) : (s.setCtl c x).qport k = s.qport k := rfl
@[simp] theorem State.macRegs_setCtl (s : State) (c : Ctl) (x : CtlState) (tl : Nat) : (s.setCtl c x).macRegs tl = s.macRegs tl := rfl
@[simp] theorem State.fc_setCtl (s : State) (c : Ctl) (x : CtlState) (q : Nat) : (s.setCtl c x).fc q = s.fc q := rfl
@[simp] theorem State.port_setCtl (s : State) (c : Ctl) (x : CtlState) (q k : Nat) : (s.setCtl c x).port q k = s.port q k := rfl
@[simp] theorem State.hunit_setCtl (s : State) (c : Ctl) (x : CtlState) (k u : Nat) : (s.setCtl c x).hunit k u = s.hunit k u := rfl
@[simp] theorem State.hline_setCtl (s : State) (c : Ctl) (x : CtlState) (k : Nat) : (s.setCtl c x).hline k = s.hline k := rfl
@[simp] theorem State.pad_setCtl (s : State) (c : Ctl) (x : CtlState) (p : Nat) : (s.setCtl c x).pad p = s.pad p := rfl
@[simp] theorem State.heldByPage_setCtl (s : State) (c : Ctl) (x : CtlState) (addr : Nat) (b : List Byte) : (s.setCtl c x).heldByPage addr b = s.heldByPage addr b := rfl
@[simp] theorem State.netResv_setCtl (s : State) (c : Ctl) (x : CtlState) (r : Nat) : (s.setCtl c x).netResv r = s.netResv r := rfl
@[simp] theorem State.stop_setCtl (s : State) (c : Ctl) (x : CtlState) (rs : Nat) : (s.setCtl c x).stop rs = s.stop rs := rfl
@[simp] theorem State.xfer_setCtl (s : State) (c : Ctl) (x : CtlState) (o : Nat) : (s.setCtl c x).xfer o = s.xfer o := rfl
@[simp] theorem State.sched_setCtl (s : State) (c : Ctl) (x : CtlState) (k : ActKind) (unit : Nat) : (s.setCtl c x).sched k unit = s.sched k unit := rfl
@[simp] theorem State.reg_setCtl (s : State) (c : Ctl) (x : CtlState) (o : Nat) : (s.setCtl c x).reg o = s.reg o := rfl
@[simp] theorem State.image_setCtl (s : State) (c : Ctl) (x : CtlState) (o : Nat) : (s.setCtl c x).image o = s.image o := rfl
@[simp] theorem State.queue_setCtl (s : State) (c : Ctl) (x : CtlState) (q : Nat) : (s.setCtl c x).queue q = s.queue q := rfl
@[simp] theorem State.stream_setCtl (s : State) (c : Ctl) (x : CtlState) (i : Nat) : (s.setCtl c x).stream i = s.stream i := rfl
@[simp] theorem State.session_setCtl (s : State) (c : Ctl) (x : CtlState) (i : Nat) : (s.setCtl c x).session i = s.session i := rfl
@[simp] theorem State.rep_setCtl (s : State) (c : Ctl) (x : CtlState) (q : Nat) : (s.setCtl c x).rep q = s.rep q := rfl
@[simp] theorem State.ser_setCtl (s : State) (c : Ctl) (x : CtlState) (ch : Nat) : (s.setCtl c x).ser ch = s.ser ch := rfl
@[simp] theorem State.ctl_setCtl_same (s : State) (c : Ctl) (x : CtlState) : (s.setCtl c x).ctl c = x := Tbl.get_set_same _ _ _ _
@[simp] theorem State.ptpDom_setCtl (s : State) (c : Ctl) (x : CtlState) (k : Nat) : (s.setCtl c x).ptpDom k = s.ptpDom k := rfl
@[simp] theorem State.trig_setCtl (s : State) (c : Ctl) (x : CtlState) (u : Nat) : (s.setCtl c x).trig u = s.trig u := rfl
@[simp] theorem State.yard_setCtl (s : State) (c : Ctl) (x : CtlState) (p : Nat) : (s.setCtl c x).yard p = s.yard p := rfl
@[simp] theorem State.setPtp_now (s : State) (k : Nat) (p : Ptp) : (s.setPtp k p).now = s.now := rfl
@[simp] theorem State.chan_setPtp (s : State) (k : Nat) (p : Ptp) (ch : Nat) : (s.setPtp k p).chan ch = s.chan ch := rfl
@[simp] theorem State.aliasWin_setPtp (s : State) (k : Nat) (p : Ptp) (o : Nat) : (s.setPtp k p).aliasWin o = s.aliasWin o := rfl
@[simp] theorem State.engine_setPtp (s : State) (k : Nat) (p : Ptp) (e : Nat) : (s.setPtp k p).engine e = s.engine e := rfl
@[simp] theorem State.cluster_setPtp (s : State) (k : Nat) (p : Ptp) (c : Nat) : (s.setPtp k p).cluster c = s.cluster c := rfl
@[simp] theorem State.flPort_setPtp (s : State) (k : Nat) (p : Ptp) (k' : Nat) : (s.setPtp k p).flPort k' = s.flPort k' := rfl
@[simp] theorem State.qport_setPtp (s : State) (k : Nat) (p : Ptp) (k' : Nat) : (s.setPtp k p).qport k' = s.qport k' := rfl
@[simp] theorem State.macRegs_setPtp (s : State) (k : Nat) (p : Ptp) (tl : Nat) : (s.setPtp k p).macRegs tl = s.macRegs tl := rfl
@[simp] theorem State.fc_setPtp (s : State) (k : Nat) (p : Ptp) (q : Nat) : (s.setPtp k p).fc q = s.fc q := rfl
@[simp] theorem State.port_setPtp (s : State) (k : Nat) (p : Ptp) (q k' : Nat) : (s.setPtp k p).port q k' = s.port q k' := rfl
@[simp] theorem State.hunit_setPtp (s : State) (k : Nat) (p : Ptp) (k' u : Nat) : (s.setPtp k p).hunit k' u = s.hunit k' u := rfl
@[simp] theorem State.hline_setPtp (s : State) (k : Nat) (p : Ptp) (k' : Nat) : (s.setPtp k p).hline k' = s.hline k' := rfl
@[simp] theorem State.pad_setPtp (s : State) (k : Nat) (p : Ptp) (p' : Nat) : (s.setPtp k p).pad p' = s.pad p' := rfl
@[simp] theorem State.heldByPage_setPtp (s : State) (k : Nat) (p : Ptp) (addr : Nat) (b : List Byte) : (s.setPtp k p).heldByPage addr b = s.heldByPage addr b := rfl
@[simp] theorem State.netResv_setPtp (s : State) (k : Nat) (p : Ptp) (r : Nat) : (s.setPtp k p).netResv r = s.netResv r := rfl
@[simp] theorem State.stop_setPtp (s : State) (k : Nat) (p : Ptp) (rs : Nat) : (s.setPtp k p).stop rs = s.stop rs := rfl
@[simp] theorem State.xfer_setPtp (s : State) (k : Nat) (p : Ptp) (o : Nat) : (s.setPtp k p).xfer o = s.xfer o := rfl
@[simp] theorem State.sched_setPtp (s : State) (k : Nat) (p : Ptp) (k' : ActKind) (unit : Nat) : (s.setPtp k p).sched k' unit = s.sched k' unit := rfl
@[simp] theorem State.reg_setPtp (s : State) (k : Nat) (p : Ptp) (o : Nat) : (s.setPtp k p).reg o = s.reg o := rfl
@[simp] theorem State.image_setPtp (s : State) (k : Nat) (p : Ptp) (o : Nat) : (s.setPtp k p).image o = s.image o := rfl
@[simp] theorem State.queue_setPtp (s : State) (k : Nat) (p : Ptp) (q : Nat) : (s.setPtp k p).queue q = s.queue q := rfl
@[simp] theorem State.stream_setPtp (s : State) (k : Nat) (p : Ptp) (i : Nat) : (s.setPtp k p).stream i = s.stream i := rfl
@[simp] theorem State.session_setPtp (s : State) (k : Nat) (p : Ptp) (i : Nat) : (s.setPtp k p).session i = s.session i := rfl
@[simp] theorem State.rep_setPtp (s : State) (k : Nat) (p : Ptp) (q : Nat) : (s.setPtp k p).rep q = s.rep q := rfl
@[simp] theorem State.ser_setPtp (s : State) (k : Nat) (p : Ptp) (ch : Nat) : (s.setPtp k p).ser ch = s.ser ch := rfl
@[simp] theorem State.ctl_setPtp (s : State) (k : Nat) (p : Ptp) (c : Ctl) : (s.setPtp k p).ctl c = s.ctl c := rfl
@[simp] theorem State.ptpDom_setPtp_same (s : State) (k : Nat) (p : Ptp) : (s.setPtp k p).ptpDom k = p := Tbl.get_set_same _ _ _ _
@[simp] theorem State.trig_setPtp (s : State) (k : Nat) (p : Ptp) (u : Nat) : (s.setPtp k p).trig u = s.trig u := rfl
@[simp] theorem State.yard_setPtp (s : State) (k : Nat) (p : Ptp) (p' : Nat) : (s.setPtp k p).yard p' = s.yard p' := rfl
@[simp] theorem State.setTrig_now (s : State) (u : Nat) (x : Trig) : (s.setTrig u x).now = s.now := rfl
@[simp] theorem State.chan_setTrig (s : State) (u : Nat) (x : Trig) (ch : Nat) : (s.setTrig u x).chan ch = s.chan ch := rfl
@[simp] theorem State.aliasWin_setTrig (s : State) (u : Nat) (x : Trig) (o : Nat) : (s.setTrig u x).aliasWin o = s.aliasWin o := rfl
@[simp] theorem State.engine_setTrig (s : State) (u : Nat) (x : Trig) (e : Nat) : (s.setTrig u x).engine e = s.engine e := rfl
@[simp] theorem State.cluster_setTrig (s : State) (u : Nat) (x : Trig) (c : Nat) : (s.setTrig u x).cluster c = s.cluster c := rfl
@[simp] theorem State.flPort_setTrig (s : State) (u : Nat) (x : Trig) (k : Nat) : (s.setTrig u x).flPort k = s.flPort k := rfl
@[simp] theorem State.qport_setTrig (s : State) (u : Nat) (x : Trig) (k : Nat) : (s.setTrig u x).qport k = s.qport k := rfl
@[simp] theorem State.macRegs_setTrig (s : State) (u : Nat) (x : Trig) (tl : Nat) : (s.setTrig u x).macRegs tl = s.macRegs tl := rfl
@[simp] theorem State.fc_setTrig (s : State) (u : Nat) (x : Trig) (q : Nat) : (s.setTrig u x).fc q = s.fc q := rfl
@[simp] theorem State.port_setTrig (s : State) (u : Nat) (x : Trig) (q k : Nat) : (s.setTrig u x).port q k = s.port q k := rfl
@[simp] theorem State.hunit_setTrig (s : State) (u : Nat) (x : Trig) (k u' : Nat) : (s.setTrig u x).hunit k u' = s.hunit k u' := rfl
@[simp] theorem State.hline_setTrig (s : State) (u : Nat) (x : Trig) (k : Nat) : (s.setTrig u x).hline k = s.hline k := rfl
@[simp] theorem State.pad_setTrig (s : State) (u : Nat) (x : Trig) (p : Nat) : (s.setTrig u x).pad p = s.pad p := rfl
@[simp] theorem State.heldByPage_setTrig (s : State) (u : Nat) (x : Trig) (addr : Nat) (b : List Byte) : (s.setTrig u x).heldByPage addr b = s.heldByPage addr b := rfl
@[simp] theorem State.netResv_setTrig (s : State) (u : Nat) (x : Trig) (r : Nat) : (s.setTrig u x).netResv r = s.netResv r := rfl
@[simp] theorem State.stop_setTrig (s : State) (u : Nat) (x : Trig) (rs : Nat) : (s.setTrig u x).stop rs = s.stop rs := rfl
@[simp] theorem State.xfer_setTrig (s : State) (u : Nat) (x : Trig) (o : Nat) : (s.setTrig u x).xfer o = s.xfer o := rfl
@[simp] theorem State.sched_setTrig (s : State) (u : Nat) (x : Trig) (k : ActKind) (unit : Nat) : (s.setTrig u x).sched k unit = s.sched k unit := rfl
@[simp] theorem State.reg_setTrig (s : State) (u : Nat) (x : Trig) (o : Nat) : (s.setTrig u x).reg o = s.reg o := rfl
@[simp] theorem State.image_setTrig (s : State) (u : Nat) (x : Trig) (o : Nat) : (s.setTrig u x).image o = s.image o := rfl
@[simp] theorem State.queue_setTrig (s : State) (u : Nat) (x : Trig) (q : Nat) : (s.setTrig u x).queue q = s.queue q := rfl
@[simp] theorem State.stream_setTrig (s : State) (u : Nat) (x : Trig) (i : Nat) : (s.setTrig u x).stream i = s.stream i := rfl
@[simp] theorem State.session_setTrig (s : State) (u : Nat) (x : Trig) (i : Nat) : (s.setTrig u x).session i = s.session i := rfl
@[simp] theorem State.rep_setTrig (s : State) (u : Nat) (x : Trig) (q : Nat) : (s.setTrig u x).rep q = s.rep q := rfl
@[simp] theorem State.ser_setTrig (s : State) (u : Nat) (x : Trig) (ch : Nat) : (s.setTrig u x).ser ch = s.ser ch := rfl
@[simp] theorem State.ctl_setTrig (s : State) (u : Nat) (x : Trig) (c : Ctl) : (s.setTrig u x).ctl c = s.ctl c := rfl
@[simp] theorem State.ptpDom_setTrig (s : State) (u : Nat) (x : Trig) (k : Nat) : (s.setTrig u x).ptpDom k = s.ptpDom k := rfl
@[simp] theorem State.trig_setTrig_same (s : State) (u : Nat) (x : Trig) : (s.setTrig u x).trig u = x := Tbl.get_set_same _ _ _ _
@[simp] theorem State.yard_setTrig (s : State) (u : Nat) (x : Trig) (p : Nat) : (s.setTrig u x).yard p = s.yard p := rfl
@[simp] theorem State.setYard_now (s : State) (p : Nat) (x : YPort) : (s.setYard p x).now = s.now := rfl
@[simp] theorem State.chan_setYard (s : State) (p : Nat) (x : YPort) (ch : Nat) : (s.setYard p x).chan ch = s.chan ch := rfl
@[simp] theorem State.aliasWin_setYard (s : State) (p : Nat) (x : YPort) (o : Nat) : (s.setYard p x).aliasWin o = s.aliasWin o := rfl
@[simp] theorem State.engine_setYard (s : State) (p : Nat) (x : YPort) (e : Nat) : (s.setYard p x).engine e = s.engine e := rfl
@[simp] theorem State.cluster_setYard (s : State) (p : Nat) (x : YPort) (c : Nat) : (s.setYard p x).cluster c = s.cluster c := rfl
@[simp] theorem State.flPort_setYard (s : State) (p : Nat) (x : YPort) (k : Nat) : (s.setYard p x).flPort k = s.flPort k := rfl
@[simp] theorem State.qport_setYard (s : State) (p : Nat) (x : YPort) (k : Nat) : (s.setYard p x).qport k = s.qport k := rfl
@[simp] theorem State.macRegs_setYard (s : State) (p : Nat) (x : YPort) (tl : Nat) : (s.setYard p x).macRegs tl = s.macRegs tl := rfl
@[simp] theorem State.fc_setYard (s : State) (p : Nat) (x : YPort) (q : Nat) : (s.setYard p x).fc q = s.fc q := rfl
@[simp] theorem State.port_setYard (s : State) (p : Nat) (x : YPort) (q k : Nat) : (s.setYard p x).port q k = s.port q k := rfl
@[simp] theorem State.hunit_setYard (s : State) (p : Nat) (x : YPort) (k u : Nat) : (s.setYard p x).hunit k u = s.hunit k u := rfl
@[simp] theorem State.hline_setYard (s : State) (p : Nat) (x : YPort) (k : Nat) : (s.setYard p x).hline k = s.hline k := rfl
@[simp] theorem State.pad_setYard (s : State) (p : Nat) (x : YPort) (p' : Nat) : (s.setYard p x).pad p' = s.pad p' := rfl
@[simp] theorem State.heldByPage_setYard (s : State) (p : Nat) (x : YPort) (addr : Nat) (b : List Byte) : (s.setYard p x).heldByPage addr b = s.heldByPage addr b := rfl
@[simp] theorem State.netResv_setYard (s : State) (p : Nat) (x : YPort) (r : Nat) : (s.setYard p x).netResv r = s.netResv r := rfl
@[simp] theorem State.stop_setYard (s : State) (p : Nat) (x : YPort) (rs : Nat) : (s.setYard p x).stop rs = s.stop rs := rfl
@[simp] theorem State.xfer_setYard (s : State) (p : Nat) (x : YPort) (o : Nat) : (s.setYard p x).xfer o = s.xfer o := rfl
@[simp] theorem State.sched_setYard (s : State) (p : Nat) (x : YPort) (k : ActKind) (unit : Nat) : (s.setYard p x).sched k unit = s.sched k unit := rfl
@[simp] theorem State.reg_setYard (s : State) (p : Nat) (x : YPort) (o : Nat) : (s.setYard p x).reg o = s.reg o := rfl
@[simp] theorem State.image_setYard (s : State) (p : Nat) (x : YPort) (o : Nat) : (s.setYard p x).image o = s.image o := rfl
@[simp] theorem State.queue_setYard (s : State) (p : Nat) (x : YPort) (q : Nat) : (s.setYard p x).queue q = s.queue q := rfl
@[simp] theorem State.stream_setYard (s : State) (p : Nat) (x : YPort) (i : Nat) : (s.setYard p x).stream i = s.stream i := rfl
@[simp] theorem State.session_setYard (s : State) (p : Nat) (x : YPort) (i : Nat) : (s.setYard p x).session i = s.session i := rfl
@[simp] theorem State.rep_setYard (s : State) (p : Nat) (x : YPort) (q : Nat) : (s.setYard p x).rep q = s.rep q := rfl
@[simp] theorem State.ser_setYard (s : State) (p : Nat) (x : YPort) (ch : Nat) : (s.setYard p x).ser ch = s.ser ch := rfl
@[simp] theorem State.ctl_setYard (s : State) (p : Nat) (x : YPort) (c : Ctl) : (s.setYard p x).ctl c = s.ctl c := rfl
@[simp] theorem State.ptpDom_setYard (s : State) (p : Nat) (x : YPort) (k : Nat) : (s.setYard p x).ptpDom k = s.ptpDom k := rfl
@[simp] theorem State.trig_setYard (s : State) (p : Nat) (x : YPort) (u : Nat) : (s.setYard p x).trig u = s.trig u := rfl
@[simp] theorem State.yard_setYard_same (s : State) (p : Nat) (x : YPort) : (s.setYard p x).yard p = x := Tbl.get_set_same _ _ _ _
@[simp] theorem State.chan_tickTo (s : State) (t : Nat) (ch : Nat) : (s.tickTo t).chan ch = s.chan ch := rfl
@[simp] theorem State.aliasWin_tickTo (s : State) (t : Nat) (o : Nat) : (s.tickTo t).aliasWin o = s.aliasWin o := rfl
@[simp] theorem State.engine_tickTo (s : State) (t : Nat) (e : Nat) : (s.tickTo t).engine e = s.engine e := rfl
@[simp] theorem State.cluster_tickTo (s : State) (t : Nat) (c : Nat) : (s.tickTo t).cluster c = s.cluster c := rfl
@[simp] theorem State.flPort_tickTo (s : State) (t : Nat) (k : Nat) : (s.tickTo t).flPort k = s.flPort k := rfl
@[simp] theorem State.qport_tickTo (s : State) (t : Nat) (k : Nat) : (s.tickTo t).qport k = s.qport k := rfl
@[simp] theorem State.macRegs_tickTo (s : State) (t : Nat) (tl : Nat) : (s.tickTo t).macRegs tl = s.macRegs tl := rfl
@[simp] theorem State.fc_tickTo (s : State) (t : Nat) (q : Nat) : (s.tickTo t).fc q = s.fc q := rfl
@[simp] theorem State.port_tickTo (s : State) (t : Nat) (q k : Nat) : (s.tickTo t).port q k = s.port q k := rfl
@[simp] theorem State.hunit_tickTo (s : State) (t : Nat) (k u : Nat) : (s.tickTo t).hunit k u = s.hunit k u := rfl
@[simp] theorem State.hline_tickTo (s : State) (t : Nat) (k : Nat) : (s.tickTo t).hline k = s.hline k := rfl
@[simp] theorem State.pad_tickTo (s : State) (t : Nat) (p : Nat) : (s.tickTo t).pad p = s.pad p := rfl
@[simp] theorem State.heldByPage_tickTo (s : State) (t : Nat) (addr : Nat) (b : List Byte) : (s.tickTo t).heldByPage addr b = s.heldByPage addr b := rfl
@[simp] theorem State.netResv_tickTo (s : State) (t : Nat) (r : Nat) : (s.tickTo t).netResv r = s.netResv r := rfl
@[simp] theorem State.stop_tickTo (s : State) (t : Nat) (rs : Nat) : (s.tickTo t).stop rs = s.stop rs := rfl
@[simp] theorem State.xfer_tickTo (s : State) (t : Nat) (o : Nat) : (s.tickTo t).xfer o = s.xfer o := rfl
@[simp] theorem State.sched_tickTo (s : State) (t : Nat) (k : ActKind) (unit : Nat) : (s.tickTo t).sched k unit = s.sched k unit := rfl
@[simp] theorem State.reg_tickTo (s : State) (t : Nat) (o : Nat) : (s.tickTo t).reg o = s.reg o := rfl
@[simp] theorem State.image_tickTo (s : State) (t : Nat) (o : Nat) : (s.tickTo t).image o = s.image o := rfl
@[simp] theorem State.queue_tickTo (s : State) (t : Nat) (q : Nat) : (s.tickTo t).queue q = s.queue q := rfl
@[simp] theorem State.stream_tickTo (s : State) (t : Nat) (i : Nat) : (s.tickTo t).stream i = s.stream i := rfl
@[simp] theorem State.session_tickTo (s : State) (t : Nat) (i : Nat) : (s.tickTo t).session i = s.session i := rfl
@[simp] theorem State.rep_tickTo (s : State) (t : Nat) (q : Nat) : (s.tickTo t).rep q = s.rep q := rfl
@[simp] theorem State.ser_tickTo (s : State) (t : Nat) (ch : Nat) : (s.tickTo t).ser ch = s.ser ch := rfl
@[simp] theorem State.ctl_tickTo (s : State) (t : Nat) (c : Ctl) : (s.tickTo t).ctl c = s.ctl c := rfl
@[simp] theorem State.ptpDom_tickTo (s : State) (t : Nat) (k : Nat) : (s.tickTo t).ptpDom k = s.ptpDom k := rfl
@[simp] theorem State.trig_tickTo (s : State) (t : Nat) (u : Nat) : (s.tickTo t).trig u = s.trig u := rfl
@[simp] theorem State.yard_tickTo (s : State) (t : Nat) (p : Nat) : (s.tickTo t).yard p = s.yard p := rfl
@[simp] theorem State.send_now (s : State) (port : Nat) (b : List Byte) : (s.send port b).now = s.now := rfl
@[simp] theorem State.chan_send (s : State) (port : Nat) (b : List Byte) (ch : Nat) : (s.send port b).chan ch = s.chan ch := rfl
@[simp] theorem State.aliasWin_send (s : State) (port : Nat) (b : List Byte) (o : Nat) : (s.send port b).aliasWin o = s.aliasWin o := rfl
@[simp] theorem State.engine_send (s : State) (port : Nat) (b : List Byte) (e : Nat) : (s.send port b).engine e = s.engine e := rfl
@[simp] theorem State.cluster_send (s : State) (port : Nat) (b : List Byte) (c : Nat) : (s.send port b).cluster c = s.cluster c := rfl
@[simp] theorem State.flPort_send (s : State) (port : Nat) (b : List Byte) (k : Nat) : (s.send port b).flPort k = s.flPort k := rfl
@[simp] theorem State.qport_send (s : State) (port : Nat) (b : List Byte) (k : Nat) : (s.send port b).qport k = s.qport k := rfl
@[simp] theorem State.macRegs_send (s : State) (port : Nat) (b : List Byte) (tl : Nat) : (s.send port b).macRegs tl = s.macRegs tl := rfl
@[simp] theorem State.fc_send (s : State) (port : Nat) (b : List Byte) (q : Nat) : (s.send port b).fc q = s.fc q := rfl
@[simp] theorem State.port_send (s : State) (port : Nat) (b : List Byte) (q k : Nat) : (s.send port b).port q k = s.port q k := rfl
@[simp] theorem State.hunit_send (s : State) (port : Nat) (b : List Byte) (k u : Nat) : (s.send port b).hunit k u = s.hunit k u := rfl
@[simp] theorem State.hline_send (s : State) (port : Nat) (b : List Byte) (k : Nat) : (s.send port b).hline k = s.hline k := rfl
@[simp] theorem State.pad_send (s : State) (port : Nat) (b : List Byte) (p : Nat) : (s.send port b).pad p = s.pad p := rfl
@[simp] theorem State.heldByPage_send (s : State) (port : Nat) (b : List Byte) (addr : Nat) (b' : List Byte) : (s.send port b).heldByPage addr b' = s.heldByPage addr b' := rfl
@[simp] theorem State.netResv_send (s : State) (port : Nat) (b : List Byte) (r : Nat) : (s.send port b).netResv r = s.netResv r := rfl
@[simp] theorem State.stop_send (s : State) (port : Nat) (b : List Byte) (rs : Nat) : (s.send port b).stop rs = s.stop rs := rfl
@[simp] theorem State.xfer_send (s : State) (port : Nat) (b : List Byte) (o : Nat) : (s.send port b).xfer o = s.xfer o := rfl
@[simp] theorem State.sched_send (s : State) (port : Nat) (b : List Byte) (k : ActKind) (unit : Nat) : (s.send port b).sched k unit = s.sched k unit := rfl
@[simp] theorem State.reg_send (s : State) (port : Nat) (b : List Byte) (o : Nat) : (s.send port b).reg o = s.reg o := rfl
@[simp] theorem State.image_send (s : State) (port : Nat) (b : List Byte) (o : Nat) : (s.send port b).image o = s.image o := rfl
@[simp] theorem State.queue_send (s : State) (port : Nat) (b : List Byte) (q : Nat) : (s.send port b).queue q = s.queue q := rfl
@[simp] theorem State.stream_send (s : State) (port : Nat) (b : List Byte) (i : Nat) : (s.send port b).stream i = s.stream i := rfl
@[simp] theorem State.session_send (s : State) (port : Nat) (b : List Byte) (i : Nat) : (s.send port b).session i = s.session i := rfl
@[simp] theorem State.rep_send (s : State) (port : Nat) (b : List Byte) (q : Nat) : (s.send port b).rep q = s.rep q := rfl
@[simp] theorem State.ser_send (s : State) (port : Nat) (b : List Byte) (ch : Nat) : (s.send port b).ser ch = s.ser ch := rfl
@[simp] theorem State.ctl_send (s : State) (port : Nat) (b : List Byte) (c : Ctl) : (s.send port b).ctl c = s.ctl c := rfl
@[simp] theorem State.ptpDom_send (s : State) (port : Nat) (b : List Byte) (k : Nat) : (s.send port b).ptpDom k = s.ptpDom k := rfl
@[simp] theorem State.trig_send (s : State) (port : Nat) (b : List Byte) (u : Nat) : (s.send port b).trig u = s.trig u := rfl
@[simp] theorem State.yard_send (s : State) (port : Nat) (b : List Byte) (p : Nat) : (s.send port b).yard p = s.yard p := rfl
@[simp] theorem State.memReply_now (s : State) (st : Status) (d : List Byte) : (s.memReply st d).now = s.now := rfl
@[simp] theorem State.chan_memReply (s : State) (st : Status) (d : List Byte) (ch : Nat) : (s.memReply st d).chan ch = s.chan ch := rfl
@[simp] theorem State.aliasWin_memReply (s : State) (st : Status) (d : List Byte) (o : Nat) : (s.memReply st d).aliasWin o = s.aliasWin o := rfl
@[simp] theorem State.engine_memReply (s : State) (st : Status) (d : List Byte) (e : Nat) : (s.memReply st d).engine e = s.engine e := rfl
@[simp] theorem State.cluster_memReply (s : State) (st : Status) (d : List Byte) (c : Nat) : (s.memReply st d).cluster c = s.cluster c := rfl
@[simp] theorem State.flPort_memReply (s : State) (st : Status) (d : List Byte) (k : Nat) : (s.memReply st d).flPort k = s.flPort k := rfl
@[simp] theorem State.qport_memReply (s : State) (st : Status) (d : List Byte) (k : Nat) : (s.memReply st d).qport k = s.qport k := rfl
@[simp] theorem State.macRegs_memReply (s : State) (st : Status) (d : List Byte) (tl : Nat) : (s.memReply st d).macRegs tl = s.macRegs tl := rfl
@[simp] theorem State.fc_memReply (s : State) (st : Status) (d : List Byte) (q : Nat) : (s.memReply st d).fc q = s.fc q := rfl
@[simp] theorem State.port_memReply (s : State) (st : Status) (d : List Byte) (q k : Nat) : (s.memReply st d).port q k = s.port q k := rfl
@[simp] theorem State.hunit_memReply (s : State) (st : Status) (d : List Byte) (k u : Nat) : (s.memReply st d).hunit k u = s.hunit k u := rfl
@[simp] theorem State.hline_memReply (s : State) (st : Status) (d : List Byte) (k : Nat) : (s.memReply st d).hline k = s.hline k := rfl
@[simp] theorem State.pad_memReply (s : State) (st : Status) (d : List Byte) (p : Nat) : (s.memReply st d).pad p = s.pad p := rfl
@[simp] theorem State.heldByPage_memReply (s : State) (st : Status) (d : List Byte) (addr : Nat) (b : List Byte) : (s.memReply st d).heldByPage addr b = s.heldByPage addr b := rfl
@[simp] theorem State.netResv_memReply (s : State) (st : Status) (d : List Byte) (r : Nat) : (s.memReply st d).netResv r = s.netResv r := rfl
@[simp] theorem State.stop_memReply (s : State) (st : Status) (d : List Byte) (rs : Nat) : (s.memReply st d).stop rs = s.stop rs := rfl
@[simp] theorem State.xfer_memReply (s : State) (st : Status) (d : List Byte) (o : Nat) : (s.memReply st d).xfer o = s.xfer o := rfl
@[simp] theorem State.sched_memReply (s : State) (st : Status) (d : List Byte) (k : ActKind) (unit : Nat) : (s.memReply st d).sched k unit = s.sched k unit := rfl
@[simp] theorem State.reg_memReply (s : State) (st : Status) (d : List Byte) (o : Nat) : (s.memReply st d).reg o = s.reg o := rfl
@[simp] theorem State.image_memReply (s : State) (st : Status) (d : List Byte) (o : Nat) : (s.memReply st d).image o = s.image o := rfl
@[simp] theorem State.queue_memReply (s : State) (st : Status) (d : List Byte) (q : Nat) : (s.memReply st d).queue q = s.queue q := rfl
@[simp] theorem State.stream_memReply (s : State) (st : Status) (d : List Byte) (i : Nat) : (s.memReply st d).stream i = s.stream i := rfl
@[simp] theorem State.session_memReply (s : State) (st : Status) (d : List Byte) (i : Nat) : (s.memReply st d).session i = s.session i := rfl
@[simp] theorem State.rep_memReply (s : State) (st : Status) (d : List Byte) (q : Nat) : (s.memReply st d).rep q = s.rep q := rfl
@[simp] theorem State.ser_memReply (s : State) (st : Status) (d : List Byte) (ch : Nat) : (s.memReply st d).ser ch = s.ser ch := rfl
@[simp] theorem State.ctl_memReply (s : State) (st : Status) (d : List Byte) (c : Ctl) : (s.memReply st d).ctl c = s.ctl c := rfl
@[simp] theorem State.ptpDom_memReply (s : State) (st : Status) (d : List Byte) (k : Nat) : (s.memReply st d).ptpDom k = s.ptpDom k := rfl
@[simp] theorem State.trig_memReply (s : State) (st : Status) (d : List Byte) (u : Nat) : (s.memReply st d).trig u = s.trig u := rfl
@[simp] theorem State.yard_memReply (s : State) (st : Status) (d : List Byte) (p : Nat) : (s.memReply st d).yard p = s.yard p := rfl
@[simp] theorem State.netReply_now (s : State) (st : Status) (data : List Byte) : (s.netReply st data).now = s.now := rfl
@[simp] theorem State.chan_netReply (s : State) (st : Status) (data : List Byte) (ch : Nat) : (s.netReply st data).chan ch = s.chan ch := rfl
@[simp] theorem State.aliasWin_netReply (s : State) (st : Status) (data : List Byte) (o : Nat) : (s.netReply st data).aliasWin o = s.aliasWin o := rfl
@[simp] theorem State.engine_netReply (s : State) (st : Status) (data : List Byte) (e : Nat) : (s.netReply st data).engine e = s.engine e := rfl
@[simp] theorem State.cluster_netReply (s : State) (st : Status) (data : List Byte) (c : Nat) : (s.netReply st data).cluster c = s.cluster c := rfl
@[simp] theorem State.flPort_netReply (s : State) (st : Status) (data : List Byte) (k : Nat) : (s.netReply st data).flPort k = s.flPort k := rfl
@[simp] theorem State.qport_netReply (s : State) (st : Status) (data : List Byte) (k : Nat) : (s.netReply st data).qport k = s.qport k := rfl
@[simp] theorem State.macRegs_netReply (s : State) (st : Status) (data : List Byte) (tl : Nat) : (s.netReply st data).macRegs tl = s.macRegs tl := rfl
@[simp] theorem State.fc_netReply (s : State) (st : Status) (data : List Byte) (q : Nat) : (s.netReply st data).fc q = s.fc q := rfl
@[simp] theorem State.port_netReply (s : State) (st : Status) (data : List Byte) (q k : Nat) : (s.netReply st data).port q k = s.port q k := rfl
@[simp] theorem State.hunit_netReply (s : State) (st : Status) (data : List Byte) (k u : Nat) : (s.netReply st data).hunit k u = s.hunit k u := rfl
@[simp] theorem State.hline_netReply (s : State) (st : Status) (data : List Byte) (k : Nat) : (s.netReply st data).hline k = s.hline k := rfl
@[simp] theorem State.pad_netReply (s : State) (st : Status) (data : List Byte) (p : Nat) : (s.netReply st data).pad p = s.pad p := rfl
@[simp] theorem State.heldByPage_netReply (s : State) (st : Status) (data : List Byte) (addr : Nat) (b : List Byte) : (s.netReply st data).heldByPage addr b = s.heldByPage addr b := rfl
@[simp] theorem State.netResv_netReply (s : State) (st : Status) (data : List Byte) (r : Nat) : (s.netReply st data).netResv r = s.netResv r := rfl
@[simp] theorem State.stop_netReply (s : State) (st : Status) (data : List Byte) (rs : Nat) : (s.netReply st data).stop rs = s.stop rs := rfl
@[simp] theorem State.xfer_netReply (s : State) (st : Status) (data : List Byte) (o : Nat) : (s.netReply st data).xfer o = s.xfer o := rfl
@[simp] theorem State.sched_netReply (s : State) (st : Status) (data : List Byte) (k : ActKind) (unit : Nat) : (s.netReply st data).sched k unit = s.sched k unit := rfl
@[simp] theorem State.reg_netReply (s : State) (st : Status) (data : List Byte) (o : Nat) : (s.netReply st data).reg o = s.reg o := rfl
@[simp] theorem State.image_netReply (s : State) (st : Status) (data : List Byte) (o : Nat) : (s.netReply st data).image o = s.image o := rfl
@[simp] theorem State.queue_netReply (s : State) (st : Status) (data : List Byte) (q : Nat) : (s.netReply st data).queue q = s.queue q := rfl
@[simp] theorem State.stream_netReply (s : State) (st : Status) (data : List Byte) (i : Nat) : (s.netReply st data).stream i = s.stream i := rfl
@[simp] theorem State.session_netReply (s : State) (st : Status) (data : List Byte) (i : Nat) : (s.netReply st data).session i = s.session i := rfl
@[simp] theorem State.rep_netReply (s : State) (st : Status) (data : List Byte) (q : Nat) : (s.netReply st data).rep q = s.rep q := rfl
@[simp] theorem State.ser_netReply (s : State) (st : Status) (data : List Byte) (ch : Nat) : (s.netReply st data).ser ch = s.ser ch := rfl
@[simp] theorem State.ctl_netReply (s : State) (st : Status) (data : List Byte) (c : Ctl) : (s.netReply st data).ctl c = s.ctl c := rfl
@[simp] theorem State.ptpDom_netReply (s : State) (st : Status) (data : List Byte) (k : Nat) : (s.netReply st data).ptpDom k = s.ptpDom k := rfl
@[simp] theorem State.trig_netReply (s : State) (st : Status) (data : List Byte) (u : Nat) : (s.netReply st data).trig u = s.trig u := rfl
@[simp] theorem State.yard_netReply (s : State) (st : Status) (data : List Byte) (p : Nat) : (s.netReply st data).yard p = s.yard p := rfl
@[simp] theorem State.setCfg_now (s : State) (c : CfgPort) : (s.setCfg c).now = s.now := rfl
@[simp] theorem State.chan_setCfg (s : State) (c : CfgPort) (ch : Nat) : (s.setCfg c).chan ch = s.chan ch := rfl
@[simp] theorem State.aliasWin_setCfg (s : State) (c : CfgPort) (o : Nat) : (s.setCfg c).aliasWin o = s.aliasWin o := rfl
@[simp] theorem State.engine_setCfg (s : State) (c : CfgPort) (e : Nat) : (s.setCfg c).engine e = s.engine e := rfl
@[simp] theorem State.cluster_setCfg (s : State) (c : CfgPort) (c' : Nat) : (s.setCfg c).cluster c' = s.cluster c' := rfl
@[simp] theorem State.flPort_setCfg (s : State) (c : CfgPort) (k : Nat) : (s.setCfg c).flPort k = s.flPort k := rfl
@[simp] theorem State.qport_setCfg (s : State) (c : CfgPort) (k : Nat) : (s.setCfg c).qport k = s.qport k := rfl
@[simp] theorem State.macRegs_setCfg (s : State) (c : CfgPort) (tl : Nat) : (s.setCfg c).macRegs tl = s.macRegs tl := rfl
@[simp] theorem State.fc_setCfg (s : State) (c : CfgPort) (q : Nat) : (s.setCfg c).fc q = s.fc q := rfl
@[simp] theorem State.port_setCfg (s : State) (c : CfgPort) (q k : Nat) : (s.setCfg c).port q k = s.port q k := rfl
@[simp] theorem State.hunit_setCfg (s : State) (c : CfgPort) (k u : Nat) : (s.setCfg c).hunit k u = s.hunit k u := rfl
@[simp] theorem State.hline_setCfg (s : State) (c : CfgPort) (k : Nat) : (s.setCfg c).hline k = s.hline k := rfl
@[simp] theorem State.pad_setCfg (s : State) (c : CfgPort) (p : Nat) : (s.setCfg c).pad p = s.pad p := rfl
@[simp] theorem State.heldByPage_setCfg (s : State) (c : CfgPort) (addr : Nat) (b : List Byte) : (s.setCfg c).heldByPage addr b = s.heldByPage addr b := rfl
@[simp] theorem State.netResv_setCfg (s : State) (c : CfgPort) (r : Nat) : (s.setCfg c).netResv r = s.netResv r := rfl
@[simp] theorem State.stop_setCfg (s : State) (c : CfgPort) (rs : Nat) : (s.setCfg c).stop rs = s.stop rs := rfl
@[simp] theorem State.xfer_setCfg (s : State) (c : CfgPort) (o : Nat) : (s.setCfg c).xfer o = s.xfer o := rfl
@[simp] theorem State.sched_setCfg (s : State) (c : CfgPort) (k : ActKind) (unit : Nat) : (s.setCfg c).sched k unit = s.sched k unit := rfl
@[simp] theorem State.reg_setCfg (s : State) (c : CfgPort) (o : Nat) : (s.setCfg c).reg o = s.reg o := rfl
@[simp] theorem State.image_setCfg (s : State) (c : CfgPort) (o : Nat) : (s.setCfg c).image o = s.image o := rfl
@[simp] theorem State.queue_setCfg (s : State) (c : CfgPort) (q : Nat) : (s.setCfg c).queue q = s.queue q := rfl
@[simp] theorem State.stream_setCfg (s : State) (c : CfgPort) (i : Nat) : (s.setCfg c).stream i = s.stream i := rfl
@[simp] theorem State.session_setCfg (s : State) (c : CfgPort) (i : Nat) : (s.setCfg c).session i = s.session i := rfl
@[simp] theorem State.rep_setCfg (s : State) (c : CfgPort) (q : Nat) : (s.setCfg c).rep q = s.rep q := rfl
@[simp] theorem State.ser_setCfg (s : State) (c : CfgPort) (ch : Nat) : (s.setCfg c).ser ch = s.ser ch := rfl
@[simp] theorem State.ctl_setCfg (s : State) (c : CfgPort) (c' : Ctl) : (s.setCfg c).ctl c' = s.ctl c' := rfl
@[simp] theorem State.ptpDom_setCfg (s : State) (c : CfgPort) (k : Nat) : (s.setCfg c).ptpDom k = s.ptpDom k := rfl
@[simp] theorem State.trig_setCfg (s : State) (c : CfgPort) (u : Nat) : (s.setCfg c).trig u = s.trig u := rfl
@[simp] theorem State.yard_setCfg (s : State) (c : CfgPort) (p : Nat) : (s.setCfg c).yard p = s.yard p := rfl
@[simp] theorem State.wakeAt_now (s : State) (b : Nat) : (s.wakeAt b).now = s.now := rfl
@[simp] theorem State.chan_wakeAt (s : State) (b : Nat) (ch : Nat) : (s.wakeAt b).chan ch = s.chan ch := rfl
@[simp] theorem State.aliasWin_wakeAt (s : State) (b : Nat) (o : Nat) : (s.wakeAt b).aliasWin o = s.aliasWin o := rfl
@[simp] theorem State.engine_wakeAt (s : State) (b : Nat) (e : Nat) : (s.wakeAt b).engine e = s.engine e := rfl
@[simp] theorem State.cluster_wakeAt (s : State) (b : Nat) (c : Nat) : (s.wakeAt b).cluster c = s.cluster c := rfl
@[simp] theorem State.flPort_wakeAt (s : State) (b : Nat) (k : Nat) : (s.wakeAt b).flPort k = s.flPort k := rfl
@[simp] theorem State.qport_wakeAt (s : State) (b : Nat) (k : Nat) : (s.wakeAt b).qport k = s.qport k := rfl
@[simp] theorem State.macRegs_wakeAt (s : State) (b : Nat) (tl : Nat) : (s.wakeAt b).macRegs tl = s.macRegs tl := rfl
@[simp] theorem State.fc_wakeAt (s : State) (b : Nat) (q : Nat) : (s.wakeAt b).fc q = s.fc q := rfl
@[simp] theorem State.port_wakeAt (s : State) (b : Nat) (q k : Nat) : (s.wakeAt b).port q k = s.port q k := rfl
@[simp] theorem State.hunit_wakeAt (s : State) (b : Nat) (k u : Nat) : (s.wakeAt b).hunit k u = s.hunit k u := rfl
@[simp] theorem State.hline_wakeAt (s : State) (b : Nat) (k : Nat) : (s.wakeAt b).hline k = s.hline k := rfl
@[simp] theorem State.pad_wakeAt (s : State) (b : Nat) (p : Nat) : (s.wakeAt b).pad p = s.pad p := rfl
@[simp] theorem State.heldByPage_wakeAt (s : State) (b : Nat) (addr : Nat) (b' : List Byte) : (s.wakeAt b).heldByPage addr b' = s.heldByPage addr b' := rfl
@[simp] theorem State.netResv_wakeAt (s : State) (b : Nat) (r : Nat) : (s.wakeAt b).netResv r = s.netResv r := rfl
@[simp] theorem State.stop_wakeAt (s : State) (b : Nat) (rs : Nat) : (s.wakeAt b).stop rs = s.stop rs := rfl
@[simp] theorem State.xfer_wakeAt (s : State) (b : Nat) (o : Nat) : (s.wakeAt b).xfer o = s.xfer o := rfl
@[simp] theorem State.sched_wakeAt (s : State) (b : Nat) (k : ActKind) (unit : Nat) : (s.wakeAt b).sched k unit = s.sched k unit := rfl
@[simp] theorem State.reg_wakeAt (s : State) (b : Nat) (o : Nat) : (s.wakeAt b).reg o = s.reg o := rfl
@[simp] theorem State.image_wakeAt (s : State) (b : Nat) (o : Nat) : (s.wakeAt b).image o = s.image o := rfl
@[simp] theorem State.queue_wakeAt (s : State) (b : Nat) (q : Nat) : (s.wakeAt b).queue q = s.queue q := rfl
@[simp] theorem State.stream_wakeAt (s : State) (b : Nat) (i : Nat) : (s.wakeAt b).stream i = s.stream i := rfl
@[simp] theorem State.session_wakeAt (s : State) (b : Nat) (i : Nat) : (s.wakeAt b).session i = s.session i := rfl
@[simp] theorem State.rep_wakeAt (s : State) (b : Nat) (q : Nat) : (s.wakeAt b).rep q = s.rep q := rfl
@[simp] theorem State.ser_wakeAt (s : State) (b : Nat) (ch : Nat) : (s.wakeAt b).ser ch = s.ser ch := rfl
@[simp] theorem State.ctl_wakeAt (s : State) (b : Nat) (c : Ctl) : (s.wakeAt b).ctl c = s.ctl c := rfl
@[simp] theorem State.ptpDom_wakeAt (s : State) (b : Nat) (k : Nat) : (s.wakeAt b).ptpDom k = s.ptpDom k := rfl
@[simp] theorem State.trig_wakeAt (s : State) (b : Nat) (u : Nat) : (s.wakeAt b).trig u = s.trig u := rfl
@[simp] theorem State.yard_wakeAt (s : State) (b : Nat) (p : Nat) : (s.wakeAt b).yard p = s.yard p := rfl
@[simp] theorem State.setMarker_now (s : State) (m : Marker) : (s.setMarker m).now = s.now := rfl
@[simp] theorem State.chan_setMarker (s : State) (m : Marker) (ch : Nat) : (s.setMarker m).chan ch = s.chan ch := rfl
@[simp] theorem State.aliasWin_setMarker (s : State) (m : Marker) (o : Nat) : (s.setMarker m).aliasWin o = s.aliasWin o := rfl
@[simp] theorem State.engine_setMarker (s : State) (m : Marker) (e : Nat) : (s.setMarker m).engine e = s.engine e := rfl
@[simp] theorem State.cluster_setMarker (s : State) (m : Marker) (c : Nat) : (s.setMarker m).cluster c = s.cluster c := rfl
@[simp] theorem State.flPort_setMarker (s : State) (m : Marker) (k : Nat) : (s.setMarker m).flPort k = s.flPort k := rfl
@[simp] theorem State.qport_setMarker (s : State) (m : Marker) (k : Nat) : (s.setMarker m).qport k = s.qport k := rfl
@[simp] theorem State.macRegs_setMarker (s : State) (m : Marker) (tl : Nat) : (s.setMarker m).macRegs tl = s.macRegs tl := rfl
@[simp] theorem State.fc_setMarker (s : State) (m : Marker) (q : Nat) : (s.setMarker m).fc q = s.fc q := rfl
@[simp] theorem State.port_setMarker (s : State) (m : Marker) (q k : Nat) : (s.setMarker m).port q k = s.port q k := rfl
@[simp] theorem State.hunit_setMarker (s : State) (m : Marker) (k u : Nat) : (s.setMarker m).hunit k u = s.hunit k u := rfl
@[simp] theorem State.hline_setMarker (s : State) (m : Marker) (k : Nat) : (s.setMarker m).hline k = s.hline k := rfl
@[simp] theorem State.pad_setMarker (s : State) (m : Marker) (p : Nat) : (s.setMarker m).pad p = s.pad p := rfl
@[simp] theorem State.heldByPage_setMarker (s : State) (m : Marker) (addr : Nat) (b : List Byte) : (s.setMarker m).heldByPage addr b = s.heldByPage addr b := rfl
@[simp] theorem State.netResv_setMarker (s : State) (m : Marker) (r : Nat) : (s.setMarker m).netResv r = s.netResv r := rfl
@[simp] theorem State.stop_setMarker (s : State) (m : Marker) (rs : Nat) : (s.setMarker m).stop rs = s.stop rs := rfl
@[simp] theorem State.xfer_setMarker (s : State) (m : Marker) (o : Nat) : (s.setMarker m).xfer o = s.xfer o := rfl
@[simp] theorem State.sched_setMarker (s : State) (m : Marker) (k : ActKind) (unit : Nat) : (s.setMarker m).sched k unit = s.sched k unit := rfl
@[simp] theorem State.reg_setMarker (s : State) (m : Marker) (o : Nat) : (s.setMarker m).reg o = s.reg o := rfl
@[simp] theorem State.image_setMarker (s : State) (m : Marker) (o : Nat) : (s.setMarker m).image o = s.image o := rfl
@[simp] theorem State.queue_setMarker (s : State) (m : Marker) (q : Nat) : (s.setMarker m).queue q = s.queue q := rfl
@[simp] theorem State.stream_setMarker (s : State) (m : Marker) (i : Nat) : (s.setMarker m).stream i = s.stream i := rfl
@[simp] theorem State.session_setMarker (s : State) (m : Marker) (i : Nat) : (s.setMarker m).session i = s.session i := rfl
@[simp] theorem State.rep_setMarker (s : State) (m : Marker) (q : Nat) : (s.setMarker m).rep q = s.rep q := rfl
@[simp] theorem State.ser_setMarker (s : State) (m : Marker) (ch : Nat) : (s.setMarker m).ser ch = s.ser ch := rfl
@[simp] theorem State.ctl_setMarker (s : State) (m : Marker) (c : Ctl) : (s.setMarker m).ctl c = s.ctl c := rfl
@[simp] theorem State.ptpDom_setMarker (s : State) (m : Marker) (k : Nat) : (s.setMarker m).ptpDom k = s.ptpDom k := rfl
@[simp] theorem State.trig_setMarker (s : State) (m : Marker) (u : Nat) : (s.setMarker m).trig u = s.trig u := rfl
@[simp] theorem State.yard_setMarker (s : State) (m : Marker) (p : Nat) : (s.setMarker m).yard p = s.yard p := rfl
@[simp] theorem State.bump_now (s : State) (o n : Nat) : (s.bump o n).now = s.now := rfl
@[simp] theorem State.chan_bump (s : State) (o n : Nat) (ch : Nat) : (s.bump o n).chan ch = s.chan ch := rfl
@[simp] theorem State.aliasWin_bump (s : State) (o n : Nat) (o' : Nat) : (s.bump o n).aliasWin o' = s.aliasWin o' := rfl
@[simp] theorem State.engine_bump (s : State) (o n : Nat) (e : Nat) : (s.bump o n).engine e = s.engine e := rfl
@[simp] theorem State.cluster_bump (s : State) (o n : Nat) (c : Nat) : (s.bump o n).cluster c = s.cluster c := rfl
@[simp] theorem State.flPort_bump (s : State) (o n : Nat) (k : Nat) : (s.bump o n).flPort k = s.flPort k := rfl
@[simp] theorem State.qport_bump (s : State) (o n : Nat) (k : Nat) : (s.bump o n).qport k = s.qport k := rfl
@[simp] theorem State.macRegs_bump (s : State) (o n : Nat) (tl : Nat) : (s.bump o n).macRegs tl = s.macRegs tl := rfl
@[simp] theorem State.fc_bump (s : State) (o n : Nat) (q : Nat) : (s.bump o n).fc q = s.fc q := rfl
@[simp] theorem State.port_bump (s : State) (o n : Nat) (q k : Nat) : (s.bump o n).port q k = s.port q k := rfl
@[simp] theorem State.hunit_bump (s : State) (o n : Nat) (k u : Nat) : (s.bump o n).hunit k u = s.hunit k u := rfl
@[simp] theorem State.hline_bump (s : State) (o n : Nat) (k : Nat) : (s.bump o n).hline k = s.hline k := rfl
@[simp] theorem State.pad_bump (s : State) (o n : Nat) (p : Nat) : (s.bump o n).pad p = s.pad p := rfl
@[simp] theorem State.heldByPage_bump (s : State) (o n : Nat) (addr : Nat) (b : List Byte) : (s.bump o n).heldByPage addr b = s.heldByPage addr b := rfl
@[simp] theorem State.netResv_bump (s : State) (o n : Nat) (r : Nat) : (s.bump o n).netResv r = s.netResv r := rfl
@[simp] theorem State.stop_bump (s : State) (o n : Nat) (rs : Nat) : (s.bump o n).stop rs = s.stop rs := rfl
@[simp] theorem State.xfer_bump (s : State) (o n : Nat) (o' : Nat) : (s.bump o n).xfer o' = s.xfer o' := rfl
@[simp] theorem State.sched_bump (s : State) (o n : Nat) (k : ActKind) (unit : Nat) : (s.bump o n).sched k unit = s.sched k unit := rfl
@[simp] theorem State.image_bump (s : State) (o n : Nat) (o' : Nat) : (s.bump o n).image o' = s.image o' := rfl
@[simp] theorem State.queue_bump (s : State) (o n : Nat) (q : Nat) : (s.bump o n).queue q = s.queue q := rfl
@[simp] theorem State.stream_bump (s : State) (o n : Nat) (i : Nat) : (s.bump o n).stream i = s.stream i := rfl
@[simp] theorem State.session_bump (s : State) (o n : Nat) (i : Nat) : (s.bump o n).session i = s.session i := rfl
@[simp] theorem State.rep_bump (s : State) (o n : Nat) (q : Nat) : (s.bump o n).rep q = s.rep q := rfl
@[simp] theorem State.ser_bump (s : State) (o n : Nat) (ch : Nat) : (s.bump o n).ser ch = s.ser ch := rfl
@[simp] theorem State.ctl_bump (s : State) (o n : Nat) (c : Ctl) : (s.bump o n).ctl c = s.ctl c := rfl
@[simp] theorem State.ptpDom_bump (s : State) (o n : Nat) (k : Nat) : (s.bump o n).ptpDom k = s.ptpDom k := rfl
@[simp] theorem State.trig_bump (s : State) (o n : Nat) (u : Nat) : (s.bump o n).trig u = s.trig u := rfl
@[simp] theorem State.yard_bump (s : State) (o n : Nat) (p : Nat) : (s.bump o n).yard p = s.yard p := rfl
@[simp] theorem State.setBool_now (s : State) (o : Nat) (b : Bool) : (s.setBool o b).now = s.now := rfl
@[simp] theorem State.chan_setBool (s : State) (o : Nat) (b : Bool) (ch : Nat) : (s.setBool o b).chan ch = s.chan ch := rfl
@[simp] theorem State.aliasWin_setBool (s : State) (o : Nat) (b : Bool) (o' : Nat) : (s.setBool o b).aliasWin o' = s.aliasWin o' := rfl
@[simp] theorem State.engine_setBool (s : State) (o : Nat) (b : Bool) (e : Nat) : (s.setBool o b).engine e = s.engine e := rfl
@[simp] theorem State.cluster_setBool (s : State) (o : Nat) (b : Bool) (c : Nat) : (s.setBool o b).cluster c = s.cluster c := rfl
@[simp] theorem State.flPort_setBool (s : State) (o : Nat) (b : Bool) (k : Nat) : (s.setBool o b).flPort k = s.flPort k := rfl
@[simp] theorem State.qport_setBool (s : State) (o : Nat) (b : Bool) (k : Nat) : (s.setBool o b).qport k = s.qport k := rfl
@[simp] theorem State.macRegs_setBool (s : State) (o : Nat) (b : Bool) (tl : Nat) : (s.setBool o b).macRegs tl = s.macRegs tl := rfl
@[simp] theorem State.fc_setBool (s : State) (o : Nat) (b : Bool) (q : Nat) : (s.setBool o b).fc q = s.fc q := rfl
@[simp] theorem State.port_setBool (s : State) (o : Nat) (b : Bool) (q k : Nat) : (s.setBool o b).port q k = s.port q k := rfl
@[simp] theorem State.hunit_setBool (s : State) (o : Nat) (b : Bool) (k u : Nat) : (s.setBool o b).hunit k u = s.hunit k u := rfl
@[simp] theorem State.hline_setBool (s : State) (o : Nat) (b : Bool) (k : Nat) : (s.setBool o b).hline k = s.hline k := rfl
@[simp] theorem State.pad_setBool (s : State) (o : Nat) (b : Bool) (p : Nat) : (s.setBool o b).pad p = s.pad p := rfl
@[simp] theorem State.heldByPage_setBool (s : State) (o : Nat) (b : Bool) (addr : Nat) (b' : List Byte) : (s.setBool o b).heldByPage addr b' = s.heldByPage addr b' := rfl
@[simp] theorem State.netResv_setBool (s : State) (o : Nat) (b : Bool) (r : Nat) : (s.setBool o b).netResv r = s.netResv r := rfl
@[simp] theorem State.stop_setBool (s : State) (o : Nat) (b : Bool) (rs : Nat) : (s.setBool o b).stop rs = s.stop rs := rfl
@[simp] theorem State.xfer_setBool (s : State) (o : Nat) (b : Bool) (o' : Nat) : (s.setBool o b).xfer o' = s.xfer o' := rfl
@[simp] theorem State.sched_setBool (s : State) (o : Nat) (b : Bool) (k : ActKind) (unit : Nat) : (s.setBool o b).sched k unit = s.sched k unit := rfl
@[simp] theorem State.image_setBool (s : State) (o : Nat) (b : Bool) (o' : Nat) : (s.setBool o b).image o' = s.image o' := rfl
@[simp] theorem State.queue_setBool (s : State) (o : Nat) (b : Bool) (q : Nat) : (s.setBool o b).queue q = s.queue q := rfl
@[simp] theorem State.stream_setBool (s : State) (o : Nat) (b : Bool) (i : Nat) : (s.setBool o b).stream i = s.stream i := rfl
@[simp] theorem State.session_setBool (s : State) (o : Nat) (b : Bool) (i : Nat) : (s.setBool o b).session i = s.session i := rfl
@[simp] theorem State.rep_setBool (s : State) (o : Nat) (b : Bool) (q : Nat) : (s.setBool o b).rep q = s.rep q := rfl
@[simp] theorem State.ser_setBool (s : State) (o : Nat) (b : Bool) (ch : Nat) : (s.setBool o b).ser ch = s.ser ch := rfl
@[simp] theorem State.ctl_setBool (s : State) (o : Nat) (b : Bool) (c : Ctl) : (s.setBool o b).ctl c = s.ctl c := rfl
@[simp] theorem State.ptpDom_setBool (s : State) (o : Nat) (b : Bool) (k : Nat) : (s.setBool o b).ptpDom k = s.ptpDom k := rfl
@[simp] theorem State.trig_setBool (s : State) (o : Nat) (b : Bool) (u : Nat) : (s.setBool o b).trig u = s.trig u := rfl
@[simp] theorem State.yard_setBool (s : State) (o : Nat) (b : Bool) (p : Nat) : (s.setBool o b).yard p = s.yard p := rfl
@[simp] theorem State.ledAdd_now (s : State) (l k n : Nat) : (s.ledAdd l k n).now = s.now := rfl
@[simp] theorem State.chan_ledAdd (s : State) (l k n : Nat) (ch : Nat) : (s.ledAdd l k n).chan ch = s.chan ch := rfl
@[simp] theorem State.aliasWin_ledAdd (s : State) (l k n : Nat) (o : Nat) : (s.ledAdd l k n).aliasWin o = s.aliasWin o := rfl
@[simp] theorem State.engine_ledAdd (s : State) (l k n : Nat) (e : Nat) : (s.ledAdd l k n).engine e = s.engine e := rfl
@[simp] theorem State.cluster_ledAdd (s : State) (l k n : Nat) (c : Nat) : (s.ledAdd l k n).cluster c = s.cluster c := rfl
@[simp] theorem State.flPort_ledAdd (s : State) (l k n : Nat) (k' : Nat) : (s.ledAdd l k n).flPort k' = s.flPort k' := rfl
@[simp] theorem State.qport_ledAdd (s : State) (l k n : Nat) (k' : Nat) : (s.ledAdd l k n).qport k' = s.qport k' := rfl
@[simp] theorem State.macRegs_ledAdd (s : State) (l k n : Nat) (tl : Nat) : (s.ledAdd l k n).macRegs tl = s.macRegs tl := rfl
@[simp] theorem State.fc_ledAdd (s : State) (l k n : Nat) (q : Nat) : (s.ledAdd l k n).fc q = s.fc q := rfl
@[simp] theorem State.port_ledAdd (s : State) (l k n : Nat) (q k' : Nat) : (s.ledAdd l k n).port q k' = s.port q k' := rfl
@[simp] theorem State.hunit_ledAdd (s : State) (l k n : Nat) (k' u : Nat) : (s.ledAdd l k n).hunit k' u = s.hunit k' u := rfl
@[simp] theorem State.hline_ledAdd (s : State) (l k n : Nat) (k' : Nat) : (s.ledAdd l k n).hline k' = s.hline k' := rfl
@[simp] theorem State.pad_ledAdd (s : State) (l k n : Nat) (p : Nat) : (s.ledAdd l k n).pad p = s.pad p := rfl
@[simp] theorem State.heldByPage_ledAdd (s : State) (l k n : Nat) (addr : Nat) (b : List Byte) : (s.ledAdd l k n).heldByPage addr b = s.heldByPage addr b := rfl
@[simp] theorem State.netResv_ledAdd (s : State) (l k n : Nat) (r : Nat) : (s.ledAdd l k n).netResv r = s.netResv r := rfl
@[simp] theorem State.stop_ledAdd (s : State) (l k n : Nat) (rs : Nat) : (s.ledAdd l k n).stop rs = s.stop rs := rfl
@[simp] theorem State.xfer_ledAdd (s : State) (l k n : Nat) (o : Nat) : (s.ledAdd l k n).xfer o = s.xfer o := rfl
@[simp] theorem State.sched_ledAdd (s : State) (l k n : Nat) (k' : ActKind) (unit : Nat) : (s.ledAdd l k n).sched k' unit = s.sched k' unit := rfl
@[simp] theorem State.image_ledAdd (s : State) (l k n : Nat) (o : Nat) : (s.ledAdd l k n).image o = s.image o := rfl
@[simp] theorem State.queue_ledAdd (s : State) (l k n : Nat) (q : Nat) : (s.ledAdd l k n).queue q = s.queue q := rfl
@[simp] theorem State.stream_ledAdd (s : State) (l k n : Nat) (i : Nat) : (s.ledAdd l k n).stream i = s.stream i := rfl
@[simp] theorem State.session_ledAdd (s : State) (l k n : Nat) (i : Nat) : (s.ledAdd l k n).session i = s.session i := rfl
@[simp] theorem State.rep_ledAdd (s : State) (l k n : Nat) (q : Nat) : (s.ledAdd l k n).rep q = s.rep q := rfl
@[simp] theorem State.ser_ledAdd (s : State) (l k n : Nat) (ch : Nat) : (s.ledAdd l k n).ser ch = s.ser ch := rfl
@[simp] theorem State.ctl_ledAdd (s : State) (l k n : Nat) (c : Ctl) : (s.ledAdd l k n).ctl c = s.ctl c := rfl
@[simp] theorem State.ptpDom_ledAdd (s : State) (l k n : Nat) (k' : Nat) : (s.ledAdd l k n).ptpDom k' = s.ptpDom k' := rfl
@[simp] theorem State.trig_ledAdd (s : State) (l k n : Nat) (u : Nat) : (s.ledAdd l k n).trig u = s.trig u := rfl
@[simp] theorem State.yard_ledAdd (s : State) (l k n : Nat) (p : Nat) : (s.ledAdd l k n).yard p = s.yard p := rfl
@[simp] theorem State.ledSub_now (s : State) (l k n : Nat) : (s.ledSub l k n).now = s.now := rfl
@[simp] theorem State.chan_ledSub (s : State) (l k n : Nat) (ch : Nat) : (s.ledSub l k n).chan ch = s.chan ch := rfl
@[simp] theorem State.aliasWin_ledSub (s : State) (l k n : Nat) (o : Nat) : (s.ledSub l k n).aliasWin o = s.aliasWin o := rfl
@[simp] theorem State.engine_ledSub (s : State) (l k n : Nat) (e : Nat) : (s.ledSub l k n).engine e = s.engine e := rfl
@[simp] theorem State.cluster_ledSub (s : State) (l k n : Nat) (c : Nat) : (s.ledSub l k n).cluster c = s.cluster c := rfl
@[simp] theorem State.flPort_ledSub (s : State) (l k n : Nat) (k' : Nat) : (s.ledSub l k n).flPort k' = s.flPort k' := rfl
@[simp] theorem State.qport_ledSub (s : State) (l k n : Nat) (k' : Nat) : (s.ledSub l k n).qport k' = s.qport k' := rfl
@[simp] theorem State.macRegs_ledSub (s : State) (l k n : Nat) (tl : Nat) : (s.ledSub l k n).macRegs tl = s.macRegs tl := rfl
@[simp] theorem State.fc_ledSub (s : State) (l k n : Nat) (q : Nat) : (s.ledSub l k n).fc q = s.fc q := rfl
@[simp] theorem State.port_ledSub (s : State) (l k n : Nat) (q k' : Nat) : (s.ledSub l k n).port q k' = s.port q k' := rfl
@[simp] theorem State.hunit_ledSub (s : State) (l k n : Nat) (k' u : Nat) : (s.ledSub l k n).hunit k' u = s.hunit k' u := rfl
@[simp] theorem State.hline_ledSub (s : State) (l k n : Nat) (k' : Nat) : (s.ledSub l k n).hline k' = s.hline k' := rfl
@[simp] theorem State.pad_ledSub (s : State) (l k n : Nat) (p : Nat) : (s.ledSub l k n).pad p = s.pad p := rfl
@[simp] theorem State.heldByPage_ledSub (s : State) (l k n : Nat) (addr : Nat) (b : List Byte) : (s.ledSub l k n).heldByPage addr b = s.heldByPage addr b := rfl
@[simp] theorem State.netResv_ledSub (s : State) (l k n : Nat) (r : Nat) : (s.ledSub l k n).netResv r = s.netResv r := rfl
@[simp] theorem State.stop_ledSub (s : State) (l k n : Nat) (rs : Nat) : (s.ledSub l k n).stop rs = s.stop rs := rfl
@[simp] theorem State.xfer_ledSub (s : State) (l k n : Nat) (o : Nat) : (s.ledSub l k n).xfer o = s.xfer o := rfl
@[simp] theorem State.sched_ledSub (s : State) (l k n : Nat) (k' : ActKind) (unit : Nat) : (s.ledSub l k n).sched k' unit = s.sched k' unit := rfl
@[simp] theorem State.image_ledSub (s : State) (l k n : Nat) (o : Nat) : (s.ledSub l k n).image o = s.image o := rfl
@[simp] theorem State.queue_ledSub (s : State) (l k n : Nat) (q : Nat) : (s.ledSub l k n).queue q = s.queue q := rfl
@[simp] theorem State.stream_ledSub (s : State) (l k n : Nat) (i : Nat) : (s.ledSub l k n).stream i = s.stream i := rfl
@[simp] theorem State.session_ledSub (s : State) (l k n : Nat) (i : Nat) : (s.ledSub l k n).session i = s.session i := rfl
@[simp] theorem State.rep_ledSub (s : State) (l k n : Nat) (q : Nat) : (s.ledSub l k n).rep q = s.rep q := rfl
@[simp] theorem State.ser_ledSub (s : State) (l k n : Nat) (ch : Nat) : (s.ledSub l k n).ser ch = s.ser ch := rfl
@[simp] theorem State.ctl_ledSub (s : State) (l k n : Nat) (c : Ctl) : (s.ledSub l k n).ctl c = s.ctl c := rfl
@[simp] theorem State.ptpDom_ledSub (s : State) (l k n : Nat) (k' : Nat) : (s.ledSub l k n).ptpDom k' = s.ptpDom k' := rfl
@[simp] theorem State.trig_ledSub (s : State) (l k n : Nat) (u : Nat) : (s.ledSub l k n).trig u = s.trig u := rfl
@[simp] theorem State.yard_ledSub (s : State) (l k n : Nat) (p : Nat) : (s.ledSub l k n).yard p = s.yard p := rfl
@[simp] theorem State.ledMove_now (s : State) (l i j n : Nat) : (s.ledMove l i j n).now = s.now := rfl
@[simp] theorem State.chan_ledMove (s : State) (l i j n : Nat) (ch : Nat) : (s.ledMove l i j n).chan ch = s.chan ch := rfl
@[simp] theorem State.aliasWin_ledMove (s : State) (l i j n : Nat) (o : Nat) : (s.ledMove l i j n).aliasWin o = s.aliasWin o := rfl
@[simp] theorem State.engine_ledMove (s : State) (l i j n : Nat) (e : Nat) : (s.ledMove l i j n).engine e = s.engine e := rfl
@[simp] theorem State.cluster_ledMove (s : State) (l i j n : Nat) (c : Nat) : (s.ledMove l i j n).cluster c = s.cluster c := rfl
@[simp] theorem State.flPort_ledMove (s : State) (l i j n : Nat) (k : Nat) : (s.ledMove l i j n).flPort k = s.flPort k := rfl
@[simp] theorem State.qport_ledMove (s : State) (l i j n : Nat) (k : Nat) : (s.ledMove l i j n).qport k = s.qport k := rfl
@[simp] theorem State.macRegs_ledMove (s : State) (l i j n : Nat) (tl : Nat) : (s.ledMove l i j n).macRegs tl = s.macRegs tl := rfl
@[simp] theorem State.fc_ledMove (s : State) (l i j n : Nat) (q : Nat) : (s.ledMove l i j n).fc q = s.fc q := rfl
@[simp] theorem State.port_ledMove (s : State) (l i j n : Nat) (q k : Nat) : (s.ledMove l i j n).port q k = s.port q k := rfl
@[simp] theorem State.hunit_ledMove (s : State) (l i j n : Nat) (k u : Nat) : (s.ledMove l i j n).hunit k u = s.hunit k u := rfl
@[simp] theorem State.hline_ledMove (s : State) (l i j n : Nat) (k : Nat) : (s.ledMove l i j n).hline k = s.hline k := rfl
@[simp] theorem State.pad_ledMove (s : State) (l i j n : Nat) (p : Nat) : (s.ledMove l i j n).pad p = s.pad p := rfl
@[simp] theorem State.heldByPage_ledMove (s : State) (l i j n : Nat) (addr : Nat) (b : List Byte) : (s.ledMove l i j n).heldByPage addr b = s.heldByPage addr b := rfl
@[simp] theorem State.netResv_ledMove (s : State) (l i j n : Nat) (r : Nat) : (s.ledMove l i j n).netResv r = s.netResv r := rfl
@[simp] theorem State.stop_ledMove (s : State) (l i j n : Nat) (rs : Nat) : (s.ledMove l i j n).stop rs = s.stop rs := rfl
@[simp] theorem State.xfer_ledMove (s : State) (l i j n : Nat) (o : Nat) : (s.ledMove l i j n).xfer o = s.xfer o := rfl
@[simp] theorem State.sched_ledMove (s : State) (l i j n : Nat) (k : ActKind) (unit : Nat) : (s.ledMove l i j n).sched k unit = s.sched k unit := rfl
@[simp] theorem State.image_ledMove (s : State) (l i j n : Nat) (o : Nat) : (s.ledMove l i j n).image o = s.image o := rfl
@[simp] theorem State.queue_ledMove (s : State) (l i j n : Nat) (q : Nat) : (s.ledMove l i j n).queue q = s.queue q := rfl
@[simp] theorem State.stream_ledMove (s : State) (l i j n : Nat) (i' : Nat) : (s.ledMove l i j n).stream i' = s.stream i' := rfl
@[simp] theorem State.session_ledMove (s : State) (l i j n : Nat) (i' : Nat) : (s.ledMove l i j n).session i' = s.session i' := rfl
@[simp] theorem State.rep_ledMove (s : State) (l i j n : Nat) (q : Nat) : (s.ledMove l i j n).rep q = s.rep q := rfl
@[simp] theorem State.ser_ledMove (s : State) (l i j n : Nat) (ch : Nat) : (s.ledMove l i j n).ser ch = s.ser ch := rfl
@[simp] theorem State.ctl_ledMove (s : State) (l i j n : Nat) (c : Ctl) : (s.ledMove l i j n).ctl c = s.ctl c := rfl
@[simp] theorem State.ptpDom_ledMove (s : State) (l i j n : Nat) (k : Nat) : (s.ledMove l i j n).ptpDom k = s.ptpDom k := rfl
@[simp] theorem State.trig_ledMove (s : State) (l i j n : Nat) (u : Nat) : (s.ledMove l i j n).trig u = s.trig u := rfl
@[simp] theorem State.yard_ledMove (s : State) (l i j n : Nat) (p : Nat) : (s.ledMove l i j n).yard p = s.yard p := rfl
@[simp] theorem State.raise_now (s : State) (i : Irq) (unit : Nat) (c : Ctl) : (s.raise i unit c).now = s.now := rfl
@[simp] theorem State.chan_raise (s : State) (i : Irq) (unit : Nat) (c : Ctl) (ch : Nat) : (s.raise i unit c).chan ch = s.chan ch := rfl
@[simp] theorem State.aliasWin_raise (s : State) (i : Irq) (unit : Nat) (c : Ctl) (o : Nat) : (s.raise i unit c).aliasWin o = s.aliasWin o := rfl
@[simp] theorem State.engine_raise (s : State) (i : Irq) (unit : Nat) (c : Ctl) (e : Nat) : (s.raise i unit c).engine e = s.engine e := rfl
@[simp] theorem State.cluster_raise (s : State) (i : Irq) (unit : Nat) (c : Ctl) (c' : Nat) : (s.raise i unit c).cluster c' = s.cluster c' := rfl
@[simp] theorem State.flPort_raise (s : State) (i : Irq) (unit : Nat) (c : Ctl) (k : Nat) : (s.raise i unit c).flPort k = s.flPort k := rfl
@[simp] theorem State.qport_raise (s : State) (i : Irq) (unit : Nat) (c : Ctl) (k : Nat) : (s.raise i unit c).qport k = s.qport k := rfl
@[simp] theorem State.macRegs_raise (s : State) (i : Irq) (unit : Nat) (c : Ctl) (tl : Nat) : (s.raise i unit c).macRegs tl = s.macRegs tl := rfl
@[simp] theorem State.fc_raise (s : State) (i : Irq) (unit : Nat) (c : Ctl) (q : Nat) : (s.raise i unit c).fc q = s.fc q := rfl
@[simp] theorem State.port_raise (s : State) (i : Irq) (unit : Nat) (c : Ctl) (q k : Nat) : (s.raise i unit c).port q k = s.port q k := rfl
@[simp] theorem State.hunit_raise (s : State) (i : Irq) (unit : Nat) (c : Ctl) (k u : Nat) : (s.raise i unit c).hunit k u = s.hunit k u := rfl
@[simp] theorem State.hline_raise (s : State) (i : Irq) (unit : Nat) (c : Ctl) (k : Nat) : (s.raise i unit c).hline k = s.hline k := rfl
@[simp] theorem State.pad_raise (s : State) (i : Irq) (unit : Nat) (c : Ctl) (p : Nat) : (s.raise i unit c).pad p = s.pad p := rfl
@[simp] theorem State.heldByPage_raise (s : State) (i : Irq) (unit : Nat) (c : Ctl) (addr : Nat) (b : List Byte) : (s.raise i unit c).heldByPage addr b = s.heldByPage addr b := rfl
@[simp] theorem State.netResv_raise (s : State) (i : Irq) (unit : Nat) (c : Ctl) (r : Nat) : (s.raise i unit c).netResv r = s.netResv r := rfl
@[simp] theorem State.stop_raise (s : State) (i : Irq) (unit : Nat) (c : Ctl) (rs : Nat) : (s.raise i unit c).stop rs = s.stop rs := rfl
@[simp] theorem State.xfer_raise (s : State) (i : Irq) (unit : Nat) (c : Ctl) (o : Nat) : (s.raise i unit c).xfer o = s.xfer o := rfl
@[simp] theorem State.sched_raise (s : State) (i : Irq) (unit : Nat) (c : Ctl) (k : ActKind) (unit' : Nat) : (s.raise i unit c).sched k unit' = s.sched k unit' := rfl
@[simp] theorem State.reg_raise (s : State) (i : Irq) (unit : Nat) (c : Ctl) (o : Nat) : (s.raise i unit c).reg o = s.reg o := rfl
@[simp] theorem State.image_raise (s : State) (i : Irq) (unit : Nat) (c : Ctl) (o : Nat) : (s.raise i unit c).image o = s.image o := rfl
@[simp] theorem State.queue_raise (s : State) (i : Irq) (unit : Nat) (c : Ctl) (q : Nat) : (s.raise i unit c).queue q = s.queue q := rfl
@[simp] theorem State.stream_raise (s : State) (i : Irq) (unit : Nat) (c : Ctl) (i' : Nat) : (s.raise i unit c).stream i' = s.stream i' := rfl
@[simp] theorem State.session_raise (s : State) (i : Irq) (unit : Nat) (c : Ctl) (i' : Nat) : (s.raise i unit c).session i' = s.session i' := rfl
@[simp] theorem State.rep_raise (s : State) (i : Irq) (unit : Nat) (c : Ctl) (q : Nat) : (s.raise i unit c).rep q = s.rep q := rfl
@[simp] theorem State.ser_raise (s : State) (i : Irq) (unit : Nat) (c : Ctl) (ch : Nat) : (s.raise i unit c).ser ch = s.ser ch := rfl
@[simp] theorem State.ctl_raise (s : State) (i : Irq) (unit : Nat) (c : Ctl) (c' : Ctl) : (s.raise i unit c).ctl c' = s.ctl c' := rfl
@[simp] theorem State.ptpDom_raise (s : State) (i : Irq) (unit : Nat) (c : Ctl) (k : Nat) : (s.raise i unit c).ptpDom k = s.ptpDom k := rfl
@[simp] theorem State.trig_raise (s : State) (i : Irq) (unit : Nat) (c : Ctl) (u : Nat) : (s.raise i unit c).trig u = s.trig u := rfl
@[simp] theorem State.yard_raise (s : State) (i : Irq) (unit : Nat) (c : Ctl) (p : Nat) : (s.raise i unit c).yard p = s.yard p := rfl
@[simp] theorem State.pulse_now (s : State) (q v : Nat) : (s.pulse q v).now = s.now := rfl
@[simp] theorem State.chan_pulse (s : State) (q v : Nat) (ch : Nat) : (s.pulse q v).chan ch = s.chan ch := rfl
@[simp] theorem State.aliasWin_pulse (s : State) (q v : Nat) (o : Nat) : (s.pulse q v).aliasWin o = s.aliasWin o := rfl
@[simp] theorem State.engine_pulse (s : State) (q v : Nat) (e : Nat) : (s.pulse q v).engine e = s.engine e := rfl
@[simp] theorem State.cluster_pulse (s : State) (q v : Nat) (c : Nat) : (s.pulse q v).cluster c = s.cluster c := rfl
@[simp] theorem State.flPort_pulse (s : State) (q v : Nat) (k : Nat) : (s.pulse q v).flPort k = s.flPort k := rfl
@[simp] theorem State.qport_pulse (s : State) (q v : Nat) (k : Nat) : (s.pulse q v).qport k = s.qport k := rfl
@[simp] theorem State.macRegs_pulse (s : State) (q v : Nat) (tl : Nat) : (s.pulse q v).macRegs tl = s.macRegs tl := rfl
@[simp] theorem State.fc_pulse (s : State) (q v : Nat) (q' : Nat) : (s.pulse q v).fc q' = s.fc q' := rfl
@[simp] theorem State.port_pulse (s : State) (q v : Nat) (q' k : Nat) : (s.pulse q v).port q' k = s.port q' k := rfl
@[simp] theorem State.hunit_pulse (s : State) (q v : Nat) (k u : Nat) : (s.pulse q v).hunit k u = s.hunit k u := rfl
@[simp] theorem State.hline_pulse (s : State) (q v : Nat) (k : Nat) : (s.pulse q v).hline k = s.hline k := rfl
@[simp] theorem State.pad_pulse (s : State) (q v : Nat) (p : Nat) : (s.pulse q v).pad p = s.pad p := rfl
@[simp] theorem State.heldByPage_pulse (s : State) (q v : Nat) (addr : Nat) (b : List Byte) : (s.pulse q v).heldByPage addr b = s.heldByPage addr b := rfl
@[simp] theorem State.netResv_pulse (s : State) (q v : Nat) (r : Nat) : (s.pulse q v).netResv r = s.netResv r := rfl
@[simp] theorem State.stop_pulse (s : State) (q v : Nat) (rs : Nat) : (s.pulse q v).stop rs = s.stop rs := rfl
@[simp] theorem State.xfer_pulse (s : State) (q v : Nat) (o : Nat) : (s.pulse q v).xfer o = s.xfer o := rfl
@[simp] theorem State.sched_pulse (s : State) (q v : Nat) (k : ActKind) (unit : Nat) : (s.pulse q v).sched k unit = s.sched k unit := rfl
@[simp] theorem State.reg_pulse (s : State) (q v : Nat) (o : Nat) : (s.pulse q v).reg o = s.reg o := rfl
@[simp] theorem State.image_pulse (s : State) (q v : Nat) (o : Nat) : (s.pulse q v).image o = s.image o := rfl
@[simp] theorem State.queue_pulse (s : State) (q v : Nat) (q' : Nat) : (s.pulse q v).queue q' = s.queue q' := rfl
@[simp] theorem State.stream_pulse (s : State) (q v : Nat) (i : Nat) : (s.pulse q v).stream i = s.stream i := rfl
@[simp] theorem State.session_pulse (s : State) (q v : Nat) (i : Nat) : (s.pulse q v).session i = s.session i := rfl
@[simp] theorem State.rep_pulse (s : State) (q v : Nat) (q' : Nat) : (s.pulse q v).rep q' = s.rep q' := rfl
@[simp] theorem State.ser_pulse (s : State) (q v : Nat) (ch : Nat) : (s.pulse q v).ser ch = s.ser ch := rfl
@[simp] theorem State.ctl_pulse (s : State) (q v : Nat) (c : Ctl) : (s.pulse q v).ctl c = s.ctl c := rfl
@[simp] theorem State.ptpDom_pulse (s : State) (q v : Nat) (k : Nat) : (s.pulse q v).ptpDom k = s.ptpDom k := rfl
@[simp] theorem State.trig_pulse (s : State) (q v : Nat) (u : Nat) : (s.pulse q v).trig u = s.trig u := rfl
@[simp] theorem State.yard_pulse (s : State) (q v : Nat) (p : Nat) : (s.pulse q v).yard p = s.yard p := rfl
@[simp] theorem State.chan_setFlag (s : State) (o b cnt n : Nat) (ch : Nat) : (s.setFlag o b cnt n).chan ch = s.chan ch := by
  unfold State.setFlag
  split <;> rfl
@[simp] theorem State.chan_fault (s : State) (n : Nat) (ch : Nat) : (s.fault n).chan ch = s.chan ch := by simp [State.fault]
@[simp] theorem State.chan_complete (s : State) (r : Requester) (o : Nat) (w : Bool) (st : Status) (d : List Byte) (ch : Nat) :
    (s.complete r o w st d).chan ch = s.chan ch := by simp [State.chan]
@[simp] theorem State.engine_setFlag (s : State) (o b cnt n : Nat) (e : Nat) : (s.setFlag o b cnt n).engine e = s.engine e := by
  unfold State.setFlag
  split <;> rfl
@[simp] theorem State.engine_fault (s : State) (n : Nat) (e : Nat) : (s.fault n).engine e = s.engine e := by simp [State.fault]
@[simp] theorem State.engine_complete (s : State) (r : Requester) (o : Nat) (w : Bool) (st : Status) (d : List Byte) (e : Nat) :
    (s.complete r o w st d).engine e = s.engine e := by simp [State.engine]
@[simp] theorem State.cluster_setFlag (s : State) (o b cnt n : Nat) (c : Nat) : (s.setFlag o b cnt n).cluster c = s.cluster c := by
  unfold State.setFlag
  split <;> rfl
@[simp] theorem State.cluster_fault (s : State) (n : Nat) (c : Nat) : (s.fault n).cluster c = s.cluster c := by simp [State.fault]
@[simp] theorem State.cluster_complete (s : State) (r : Requester) (o : Nat) (w : Bool) (st : Status) (d : List Byte) (c : Nat) :
    (s.complete r o w st d).cluster c = s.cluster c := by simp [State.cluster]
@[simp] theorem State.flPort_setFlag (s : State) (o b cnt n : Nat) (k : Nat) : (s.setFlag o b cnt n).flPort k = s.flPort k := by
  unfold State.setFlag
  split <;> rfl
@[simp] theorem State.flPort_fault (s : State) (n : Nat) (k : Nat) : (s.fault n).flPort k = s.flPort k := by simp [State.fault]
@[simp] theorem State.flPort_complete (s : State) (r : Requester) (o : Nat) (w : Bool) (st : Status) (d : List Byte) (k : Nat) :
    (s.complete r o w st d).flPort k = s.flPort k := by simp [State.flPort]
@[simp] theorem State.qport_setFlag (s : State) (o b cnt n : Nat) (k : Nat) : (s.setFlag o b cnt n).qport k = s.qport k := by
  unfold State.setFlag
  split <;> rfl
@[simp] theorem State.qport_fault (s : State) (n : Nat) (k : Nat) : (s.fault n).qport k = s.qport k := by simp [State.fault]
@[simp] theorem State.qport_complete (s : State) (r : Requester) (o : Nat) (w : Bool) (st : Status) (d : List Byte) (k : Nat) :
    (s.complete r o w st d).qport k = s.qport k := by simp [State.qport]
@[simp] theorem State.macRegs_setFlag (s : State) (o b cnt n : Nat) (tl : Nat) : (s.setFlag o b cnt n).macRegs tl = s.macRegs tl := by
  unfold State.setFlag
  split <;> rfl
@[simp] theorem State.macRegs_fault (s : State) (n : Nat) (tl : Nat) : (s.fault n).macRegs tl = s.macRegs tl := by simp [State.fault]
@[simp] theorem State.macRegs_complete (s : State) (r : Requester) (o : Nat) (w : Bool) (st : Status) (d : List Byte) (tl : Nat) :
    (s.complete r o w st d).macRegs tl = s.macRegs tl := by simp [State.macRegs]
@[simp] theorem State.fc_setFlag (s : State) (o b cnt n : Nat) (q : Nat) : (s.setFlag o b cnt n).fc q = s.fc q := by
  unfold State.setFlag
  split <;> rfl
@[simp] theorem State.fc_fault (s : State) (n : Nat) (q : Nat) : (s.fault n).fc q = s.fc q := by simp [State.fault]
@[simp] theorem State.fc_complete (s : State) (r : Requester) (o : Nat) (w : Bool) (st : Status) (d : List Byte) (q : Nat) :
    (s.complete r o w st d).fc q = s.fc q := by simp [State.fc]
@[simp] theorem State.port_setFlag (s : State) (o b cnt n : Nat) (q k : Nat) : (s.setFlag o b cnt n).port q k = s.port q k := by
  unfold State.setFlag
  split <;> rfl
@[simp] theorem State.port_fault (s : State) (n : Nat) (q k : Nat) : (s.fault n).port q k = s.port q k := by simp [State.fault]
@[simp] theorem State.port_complete (s : State) (r : Requester) (o : Nat) (w : Bool) (st : Status) (d : List Byte) (q k : Nat) :
    (s.complete r o w st d).port q k = s.port q k := by simp [State.port]
@[simp] theorem State.hunit_setFlag (s : State) (o b cnt n : Nat) (k u : Nat) : (s.setFlag o b cnt n).hunit k u = s.hunit k u := by
  unfold State.setFlag
  split <;> rfl
@[simp] theorem State.hunit_fault (s : State) (n : Nat) (k u : Nat) : (s.fault n).hunit k u = s.hunit k u := by simp [State.fault]
@[simp] theorem State.hunit_complete (s : State) (r : Requester) (o : Nat) (w : Bool) (st : Status) (d : List Byte) (k u : Nat) :
    (s.complete r o w st d).hunit k u = s.hunit k u := by simp [State.hunit]
@[simp] theorem State.hline_setFlag (s : State) (o b cnt n : Nat) (k : Nat) : (s.setFlag o b cnt n).hline k = s.hline k := by
  unfold State.setFlag
  split <;> rfl
@[simp] theorem State.hline_fault (s : State) (n : Nat) (k : Nat) : (s.fault n).hline k = s.hline k := by simp [State.fault]
@[simp] theorem State.hline_complete (s : State) (r : Requester) (o : Nat) (w : Bool) (st : Status) (d : List Byte) (k : Nat) :
    (s.complete r o w st d).hline k = s.hline k := by simp [State.hline]
@[simp] theorem State.pad_setFlag (s : State) (o b cnt n : Nat) (p : Nat) : (s.setFlag o b cnt n).pad p = s.pad p := by
  unfold State.setFlag
  split <;> rfl
@[simp] theorem State.pad_fault (s : State) (n : Nat) (p : Nat) : (s.fault n).pad p = s.pad p := by simp [State.fault]
@[simp] theorem State.pad_complete (s : State) (r : Requester) (o : Nat) (w : Bool) (st : Status) (d : List Byte) (p : Nat) :
    (s.complete r o w st d).pad p = s.pad p := by simp [State.pad]
@[simp] theorem State.heldByPage_setFlag (s : State) (o b cnt n : Nat) (addr : Nat) (b' : List Byte) : (s.setFlag o b cnt n).heldByPage addr b' = s.heldByPage addr b' := by
  unfold State.setFlag
  split <;> rfl
@[simp] theorem State.heldByPage_fault (s : State) (n : Nat) (addr : Nat) (b' : List Byte) : (s.fault n).heldByPage addr b' = s.heldByPage addr b' := by simp [State.fault]
@[simp] theorem State.heldByPage_complete (s : State) (r : Requester) (o : Nat) (w : Bool) (st : Status) (d : List Byte) (addr : Nat) (b' : List Byte) :
    (s.complete r o w st d).heldByPage addr b' = s.heldByPage addr b' := by simp [State.heldByPage]
@[simp] theorem State.netResv_setFlag (s : State) (o b cnt n : Nat) (r' : Nat) : (s.setFlag o b cnt n).netResv r' = s.netResv r' := by
  unfold State.setFlag
  split <;> rfl
@[simp] theorem State.netResv_fault (s : State) (n : Nat) (r' : Nat) : (s.fault n).netResv r' = s.netResv r' := by simp [State.fault]
@[simp] theorem State.netResv_complete (s : State) (r : Requester) (o : Nat) (w : Bool) (st : Status) (d : List Byte) (r' : Nat) :
    (s.complete r o w st d).netResv r' = s.netResv r' := by simp [State.netResv]
@[simp] theorem State.stop_setFlag (s : State) (o b cnt n : Nat) (rs : Nat) : (s.setFlag o b cnt n).stop rs = s.stop rs := by
  unfold State.setFlag
  split <;> rfl
@[simp] theorem State.stop_fault (s : State) (n : Nat) (rs : Nat) : (s.fault n).stop rs = s.stop rs := by simp [State.fault]
@[simp] theorem State.stop_complete (s : State) (r : Requester) (o : Nat) (w : Bool) (st : Status) (d : List Byte) (rs : Nat) :
    (s.complete r o w st d).stop rs = s.stop rs := by simp [State.stop]
@[simp] theorem State.sched_setFlag (s : State) (o b cnt n : Nat) (k : ActKind) (unit : Nat) : (s.setFlag o b cnt n).sched k unit = s.sched k unit := by
  unfold State.setFlag
  split <;> rfl
@[simp] theorem State.sched_fault (s : State) (n : Nat) (k : ActKind) (unit : Nat) : (s.fault n).sched k unit = s.sched k unit := by simp [State.fault]
@[simp] theorem State.sched_complete (s : State) (r : Requester) (o : Nat) (w : Bool) (st : Status) (d : List Byte) (k : ActKind) (unit : Nat) :
    (s.complete r o w st d).sched k unit = s.sched k unit := by simp [State.sched]
@[simp] theorem State.queue_setFlag (s : State) (o b cnt n : Nat) (q : Nat) : (s.setFlag o b cnt n).queue q = s.queue q := by
  unfold State.setFlag
  split <;> rfl
@[simp] theorem State.queue_fault (s : State) (n : Nat) (q : Nat) : (s.fault n).queue q = s.queue q := by simp [State.fault]
@[simp] theorem State.queue_complete (s : State) (r : Requester) (o : Nat) (w : Bool) (st : Status) (d : List Byte) (q : Nat) :
    (s.complete r o w st d).queue q = s.queue q := by simp [State.queue]
@[simp] theorem State.stream_setFlag (s : State) (o b cnt n : Nat) (i : Nat) : (s.setFlag o b cnt n).stream i = s.stream i := by
  unfold State.setFlag
  split <;> rfl
@[simp] theorem State.stream_fault (s : State) (n : Nat) (i : Nat) : (s.fault n).stream i = s.stream i := by simp [State.fault]
@[simp] theorem State.stream_complete (s : State) (r : Requester) (o : Nat) (w : Bool) (st : Status) (d : List Byte) (i : Nat) :
    (s.complete r o w st d).stream i = s.stream i := by simp [State.stream]
@[simp] theorem State.session_setFlag (s : State) (o b cnt n : Nat) (i : Nat) : (s.setFlag o b cnt n).session i = s.session i := by
  unfold State.setFlag
  split <;> rfl
@[simp] theorem State.session_fault (s : State) (n : Nat) (i : Nat) : (s.fault n).session i = s.session i := by simp [State.fault]
@[simp] theorem State.session_complete (s : State) (r : Requester) (o : Nat) (w : Bool) (st : Status) (d : List Byte) (i : Nat) :
    (s.complete r o w st d).session i = s.session i := by simp [State.session]
@[simp] theorem State.rep_setFlag (s : State) (o b cnt n : Nat) (q : Nat) : (s.setFlag o b cnt n).rep q = s.rep q := by
  unfold State.setFlag
  split <;> rfl
@[simp] theorem State.rep_fault (s : State) (n : Nat) (q : Nat) : (s.fault n).rep q = s.rep q := by simp [State.fault]
@[simp] theorem State.rep_complete (s : State) (r : Requester) (o : Nat) (w : Bool) (st : Status) (d : List Byte) (q : Nat) :
    (s.complete r o w st d).rep q = s.rep q := by simp [State.rep]
@[simp] theorem State.ser_setFlag (s : State) (o b cnt n : Nat) (ch : Nat) : (s.setFlag o b cnt n).ser ch = s.ser ch := by
  unfold State.setFlag
  split <;> rfl
@[simp] theorem State.ser_fault (s : State) (n : Nat) (ch : Nat) : (s.fault n).ser ch = s.ser ch := by simp [State.fault]
@[simp] theorem State.ser_complete (s : State) (r : Requester) (o : Nat) (w : Bool) (st : Status) (d : List Byte) (ch : Nat) :
    (s.complete r o w st d).ser ch = s.ser ch := by simp [State.ser]
@[simp] theorem State.ctl_setFlag (s : State) (o b cnt n : Nat) (c : Ctl) : (s.setFlag o b cnt n).ctl c = s.ctl c := by
  unfold State.setFlag
  split <;> rfl
@[simp] theorem State.ctl_fault (s : State) (n : Nat) (c : Ctl) : (s.fault n).ctl c = s.ctl c := by simp [State.fault]
@[simp] theorem State.ctl_complete (s : State) (r : Requester) (o : Nat) (w : Bool) (st : Status) (d : List Byte) (c : Ctl) :
    (s.complete r o w st d).ctl c = s.ctl c := by simp [State.ctl]
@[simp] theorem State.ptpDom_setFlag (s : State) (o b cnt n : Nat) (k : Nat) : (s.setFlag o b cnt n).ptpDom k = s.ptpDom k := by
  unfold State.setFlag
  split <;> rfl
@[simp] theorem State.ptpDom_fault (s : State) (n : Nat) (k : Nat) : (s.fault n).ptpDom k = s.ptpDom k := by simp [State.fault]
@[simp] theorem State.ptpDom_complete (s : State) (r : Requester) (o : Nat) (w : Bool) (st : Status) (d : List Byte) (k : Nat) :
    (s.complete r o w st d).ptpDom k = s.ptpDom k := by simp [State.ptpDom]
@[simp] theorem State.trig_setFlag (s : State) (o b cnt n : Nat) (u : Nat) : (s.setFlag o b cnt n).trig u = s.trig u := by
  unfold State.setFlag
  split <;> rfl
@[simp] theorem State.trig_fault (s : State) (n : Nat) (u : Nat) : (s.fault n).trig u = s.trig u := by simp [State.fault]
@[simp] theorem State.trig_complete (s : State) (r : Requester) (o : Nat) (w : Bool) (st : Status) (d : List Byte) (u : Nat) :
    (s.complete r o w st d).trig u = s.trig u := by simp [State.trig]
@[simp] theorem State.yard_setFlag (s : State) (o b cnt n : Nat) (p : Nat) : (s.setFlag o b cnt n).yard p = s.yard p := by
  unfold State.setFlag
  split <;> rfl
@[simp] theorem State.yard_fault (s : State) (n : Nat) (p : Nat) : (s.fault n).yard p = s.yard p := by simp [State.fault]
@[simp] theorem State.yard_complete (s : State) (r : Requester) (o : Nat) (w : Bool) (st : Status) (d : List Byte) (p : Nat) :
    (s.complete r o w st d).yard p = s.yard p := by simp [State.yard]

end Sys2Proof.Machine
end

