-- ==== Sys2Proof/Laws/Registers.lean ====
section
/-! SUPPORT. What a register reads after a counter, a ledger, a flag or a completion has been recorded. -/

namespace Sys2Proof.Machine

theorem State.reg_bump (s : State) (o n p : Nat) : (s.bump o n).reg p = if p = o then (s.reg o + n) % 2 ^ regBits o else s.reg p :=
  State.reg_setReg s o p _

theorem State.reg_setBool (s : State) (o p : Nat) (b : Bool) : (s.setBool o b).reg p = if p = o then b2n b else s.reg p :=
  State.reg_setReg s o p _

theorem State.reg_ledAdd (s : State) (l k n p : Nat) :
    (s.ledAdd l k n).reg p = if p = ledTerm l k then (s.reg (ledTerm l k) + n) % 2 ^ regBits (ledTerm l k) else s.reg p :=
  s.reg_bump _ _ _

theorem State.reg_ledSub (s : State) (l k n p : Nat) :
    (s.ledSub l k n).reg p = if p = ledTerm l k then s.reg (ledTerm l k) - n else s.reg p :=
  State.reg_setReg s _ p _

/-- A ledger's move leaves every register but its two terms. -/
theorem State.reg_ledMove_ne (s : State) (l i j n p : Nat) (hi : p ≠ ledTerm l i) (hj : p ≠ ledTerm l j) :
    (s.ledMove l i j n).reg p = s.reg p := by
  simp [State.ledMove, State.reg_ledAdd, State.reg_ledSub, hi, hj]

/-- A flag that hardware sets is set, its counter counts, and every other register is as it was. -/
theorem State.reg_setFlag (s : State) (o b cnt n p : Nat) (hn : n ≠ 0) (hc : o ≠ cnt) :
    (s.setFlag o b cnt n).reg p =
      if p = o then setBit (s.reg o) b true else if p = cnt then (s.reg cnt + n) % 2 ^ regBits cnt else s.reg p := by
  have h : (s.setFlag o b cnt n).reg p = ((s.setReg o (setBit (s.reg o) b true)).bump cnt n).reg p := by
    simp only [State.setFlag, if_neg hn]
    rfl
  rw [h, State.reg_bump, State.reg_setReg, State.reg_setReg]
  by_cases h1 : p = cnt
  · have h2 : ¬ cnt = o := fun e => hc e.symm
    simp [h1, h2]
  · simp [h1]

/-- A completion with OKAY leaves every register but two terms of ledger 0x105B. -/
theorem State.reg_complete_okay (s : State) (r : Requester) (o p : Nat) (w : Bool) (d : List Byte)
    (h0 : p ≠ ledTerm 0x105B 0) (h1 : p ≠ ledTerm 0x105B 1) : (s.complete r o w .okay d).reg p = s.reg p := by
  have h : (s.complete r o w .okay d).reg p = ((s.ledAdd 0x105B 0 1).ledAdd 0x105B 1 1).reg p := by
    unfold State.complete
    cases r <;> rfl
  rw [h]
  simp [State.reg_ledAdd, h0, h1]

/-! A drawn value leaves every register. -/

@[simp] theorem State.drawBool_reg (s : State) (p : Nat) : s.drawBool.2.reg p = s.reg p := rfl
@[simp] theorem State.drawNat_reg (s : State) (p : Nat) : s.drawNat.2.reg p = s.reg p := rfl
@[simp] theorem State.drawBytes_reg (s : State) (n p : Nat) : (s.drawBytes n).2.reg p = s.reg p := rfl

/-- Sending a datagram changes what has been sent, and nothing else. -/
theorem State.sendKisko_sends (s : State) (m : Nat) (p : Peer) (d : List Byte) : ∃ b, s.sendKisko m p d = s.send m b := by
  unfold State.sendKisko State.sendUdp State.ethSend
  split
  · exact ⟨_, rfl⟩
  · exact ⟨_, rfl⟩

@[simp] theorem State.reg_sendKisko (s : State) (m : Nat) (p : Peer) (d : List Byte) (o : Nat) : (s.sendKisko m p d).reg o = s.reg o := by
  obtain ⟨b, h⟩ := s.sendKisko_sends m p d
  rw [h]
  rfl

@[simp] theorem State.session_sendKisko (s : State) (m : Nat) (p : Peer) (d : List Byte) (i : Nat) :
    (s.sendKisko m p d).session i = s.session i := by
  obtain ⟨b, h⟩ := s.sendKisko_sends m p d
  rw [h]
  rfl

end Sys2Proof.Machine
end

