-- ==== Sys2Proof/Laws/Counts.lean ====
section
/-! SUPPORT. Which registers a completion counts in. -/

namespace Sys2Proof.Machine

/-- The registers a completion of a write to object o may count in, event counters aside. -/
def wcount (o : Nat) : List Nat :=
  [O.LATCH_CHARGE_DENIED, O.DEV_REFUSED_WRITES, O.DEV_DECODE_COUNT, O.DEV_DENIED_COUNT, O.DEV_TIMEOUT_COUNT, O.CLK_GATED_COUNT,
    O.RS_ANSWERED (stopOf (o / 256)), ledTerm 0x105B 0, ledTerm 0x105B 1, ledTerm 0x105B 2, O.MC_LAST_BUS_STATUS 0, O.MC_LAST_BUS_STATUS 1]

/-- Event counters are all that an event writes (R437). -/
theorem reg_countEvent (s : State) (c w e n p : Nat) (h : ∀ k < 16, p ≠ O.EVC_COUNT k) : (s.countEvent c w e n).reg p = s.reg p := by
  unfold State.countEvent
  have : ∀ (l : List Nat) (u : State), (∀ k ∈ l, k < 16) → u.reg p = s.reg p → (l.foldl (fun (s : State) k =>
      let e' := s.reg (O.EVC_EVSEL k)
      if e' ≠ 0 ∧ bits e' 31 28 = c ∧ bits e' 27 16 = w ∧ bits e' 15 8 = e ∧
          (bits e' 1 0 = 1 ∨ (bits e' 1 0 = 2 ∧ s.isSet O.TRACE_TRACE_RUN)) then s.bump (O.EVC_COUNT k) n
      else s) u).reg p = s.reg p := by
    intro l
    induction l with
    | nil => exact fun u _ h => h
    | cons k l ih =>
      intro u hl hu
      refine ih _ (fun j hj => hl j (List.mem_cons_of_mem _ hj)) ?_
      dsimp only
      split
      · rw [State.reg_bump, if_neg (h k (hl k (List.mem_cons_self ..)))]
        exact hu
      · exact hu
  exact this _ s (fun k hk => List.mem_range.mp hk) rfl

/-- The counters of a completion are all that it writes. -/
theorem reg_tally (s : State) (w : Bool) (rs p : Nat) (st : Status) (hk : ∀ k < 16, p ≠ O.EVC_COUNT k)
    (h : p ∉ [O.DEV_REFUSED_WRITES, O.DEV_DECODE_COUNT, O.DEV_DENIED_COUNT, O.DEV_TIMEOUT_COUNT, O.CLK_GATED_COUNT,
      O.RS_ANSWERED rs, ledTerm 0x105B 0, ledTerm 0x105B 1, ledTerm 0x105B 2]) : (s.tally w rs st).reg p = s.reg p := by
  simp only [List.mem_cons, List.not_mem_nil, or_false, not_or] at h
  obtain ⟨h1, h2, h3, h4, h5, h6, h7, h8, h9⟩ := h
  cases st
  case refused => cases w <;> simp only [State.tally, State.reg_ledAdd, State.reg_bump, Bool.false_eq_true, if_true, if_false, h1, h7, h8]
  all_goals simp only [State.tally, State.reg_ledAdd, State.reg_bump, reg_countEvent _ _ _ _ _ _ hk, if_false, h2, h3, h4, h5, h6, h7, h8, h9]

/-- A completion writes the counters of its object and LAST_BUS_STATUS, and no other register. -/
theorem reg_complete (s : State) (r : Requester) (o p : Nat) (w : Bool) (st : Status) (d : List Byte) (hk : ∀ k < 16, p ≠ O.EVC_COUNT k)
    (h : p ∉ wcount o) : (s.complete r o w st d).reg p = s.reg p := by
  simp only [wcount, List.mem_cons, List.not_mem_nil, or_false, not_or] at h
  obtain ⟨h0, h1, h2, h3, h4, h5, h6, h7, h8, h9, h10, h11⟩ := h
  have ht := reg_tally s w (stopOf (o / 256)) p st hk (by simp [h1, h2, h3, h4, h5, h6, h7, h8, h9])
  unfold State.complete
  cases r with
  | session i => exact ht
  | debugPort => exact ht
  | firmware c =>
    dsimp only
    split
    · exact ht
    · have : ∀ (u : State) (x : Nat) , (({ u with reply := ⟨st, d⟩ } : State).setReg (O.MC_LAST_BUS_STATUS c.num) x).reg p = u.reg p := by
        intro u x
        rw [State.reg_setReg, if_neg]
        · rfl
        · cases c
          · exact h10
          · exact h11
      exact (this _ _).trans ht

/-- A GATED completion counts in GATED_COUNT. -/
theorem gated_count (s : State) (w : Bool) (rs : Nat) : (s.tally w rs .gated).reg O.CLK_GATED_COUNT = (s.reg O.CLK_GATED_COUNT + 1) % 2 ^ regBits O.CLK_GATED_COUNT := by
  have hk : ∀ k < 16, O.CLK_GATED_COUNT ≠ O.EVC_COUNT k := by decide
  have h1 : O.CLK_GATED_COUNT ≠ O.RS_ANSWERED rs := by
    simp only [O.CLK_GATED_COUNT, O.RS_ANSWERED]
    omega
  have h2 : O.CLK_GATED_COUNT ≠ ledTerm 0x105B 0 := by decide
  have h3 : O.CLK_GATED_COUNT ≠ ledTerm 0x105B 2 := by decide
  simp only [State.tally, State.reg_ledAdd, State.reg_bump, reg_countEvent _ _ _ _ _ _ hk, h1, h2, h3, if_false, if_true]

/-- But for LAST_BUS_STATUS, a completion writes what its counters write. -/
theorem complete_reg (s : State) (r : Requester) (o p : Nat) (w : Bool) (st : Status) (d : List Byte) (ha : p ≠ O.MC_LAST_BUS_STATUS 0)
    (hb : p ≠ O.MC_LAST_BUS_STATUS 1) : (s.complete r o w st d).reg p = (s.tally w (stopOf (o / 256)) st).reg p := by
  unfold State.complete
  cases r with
  | session i => rfl
  | debugPort => rfl
  | firmware c =>
    dsimp only
    split
    · rfl
    · have : ∀ (u : State) (x : Nat) , (({ u with reply := ⟨st, d⟩ } : State).setReg (O.MC_LAST_BUS_STATUS c.num) x).reg p = u.reg p := by
        intro u x
        rw [State.reg_setReg, if_neg]
        · rfl
        · cases c
          · exact ha
          · exact hb
      exact this _ _

end Sys2Proof.Machine
end

