-- ==== Sys2Proof/Laws/Dispatch.lean ====
section
/-! SUPPORT. Each arm of exec, as an equation that simp can use. -/

namespace Sys2Proof.Machine

@[simp] theorem exec_registerWrite (t) (r) (idx) (sub) (off) (bytes) (s) : exec (.registerWrite t r idx sub off bytes) s = execRegisterWrite t r idx sub off bytes s := rfl
@[simp] theorem exec_read (t) (slot) (idx) (sub) (ty) (s) : exec (.read t slot idx sub ty) s = execRead t slot idx sub ty s := rfl
@[simp] theorem exec_write (t) (slot) (idx) (sub) (ty) (bytes) (s) : exec (.write t slot idx sub ty bytes) s = execWrite t slot idx sub ty bytes s := rfl
@[simp] theorem exec_maskWrite (t) (slot) (idx) (sub) (ty) (val) (mask) (s) : exec (.maskWrite t slot idx sub ty val mask) s = execMaskWrite t slot idx sub ty val mask s := rfl
@[simp] theorem exec_segOpen (t) (r) (idx) (sub) (total) (s) : exec (.segOpen t r idx sub total) s = execSegOpen t r idx sub total s := rfl
@[simp] theorem exec_segWrite (t) (r) (idx) (sub) (off) (bytes) (s) : exec (.segWrite t r idx sub off bytes) s = execSegWrite t r idx sub off bytes s := rfl
@[simp] theorem exec_segRead (t) (r) (idx) (sub) (off) (count) (s) : exec (.segRead t r idx sub off count) s = execSegRead t r idx sub off count s := rfl
@[simp] theorem exec_segCommit (t) (r) (idx) (sub) (crc) (tt) (s) : exec (.segCommit t r idx sub crc tt) s = execSegCommit t r idx sub crc tt s := rfl
@[simp] theorem exec_segAbort (t) (r) (idx) (sub) (s) : exec (.segAbort t r idx sub) s = execSegAbort t r idx sub s := rfl
@[simp] theorem exec_dataStore (t) (c) (idx) (sub) (v) (s) : exec (.dataStore t c idx sub v) s = execDataStore t c idx sub v s := rfl
@[simp] theorem exec_segTransferTimeout (t) (idx) (sub) (s) : exec (.segTransferTimeout t idx sub) s = execSegTransferTimeout t idx sub s := rfl
@[simp] theorem exec_streamOpen (t) (slot) (queue) (dir) (credit) (s) : exec (.streamOpen t slot queue dir credit) s = execStreamOpen t slot queue dir credit s := rfl
@[simp] theorem exec_streamClose (t) (slot) (stream) (s) : exec (.streamClose t slot stream) s = execStreamClose t slot stream s := rfl
@[simp] theorem exec_ping (t) (slot) (s) : exec (.ping t slot) s = execPing t slot s := rfl
@[simp] theorem exec_hello (t) (port) (peer) (d) (s) : exec (.hello t port peer d) s = execHello t port peer d s := rfl
@[simp] theorem exec_proof (t) (port) (peer) (d) (s) : exec (.proof t port peer d) s = execProof t port peer d s := rfl
@[simp] theorem exec_close (t) (w) (s) : exec (.close t w) s = execClose t w s := rfl
@[simp] theorem exec_sessionTimeout (t) (slot) (s) : exec (.sessionTimeout t slot) s = execSessionTimeout t slot s := rfl
@[simp] theorem exec_requestDatagram (t) (port) (peer) (d) (late) (s) : exec (.requestDatagram t port peer d late) s = execRequestDatagram t port peer d late s := rfl
@[simp] theorem exec_streamData (t) (port) (peer) (d) (s) : exec (.streamData t port peer d) s = execStreamData t port peer d s := rfl
@[simp] theorem exec_streamAck (t) (port) (peer) (d) (s) : exec (.streamAck t port peer d) s = execStreamAck t port peer d s := rfl
@[simp] theorem exec_streamRto (t) (stream) (s) : exec (.streamRto t stream) s = execStreamRto t stream s := rfl
@[simp] theorem exec_claim (t) (w) (s) : exec (.claim t w) s = execClaim t w s := rfl
@[simp] theorem exec_offer (t) (r) (v) (s) : exec (.offer t r v) s = execOffer t r v s := rfl
@[simp] theorem exec_accept (t) (r) (v) (s) : exec (.accept t r v) s = execAccept t r v s := rfl
@[simp] theorem exec_offerTimeout (t) (s) : exec (.offerTimeout t) s = execOfferTimeout t s := rfl
@[simp] theorem exec_take (t) (r) (v) (heartbeat) (s) : exec (.take t r v heartbeat) s = execTake t r v heartbeat s := rfl
@[simp] theorem exec_handoverRequest (t) (r) (v) (s) : exec (.handoverRequest t r v) s = execHandoverRequest t r v s := rfl
@[simp] theorem exec_heartbeat (t) (r) (x) (v) (s) : exec (.heartbeat t r x v) s = execHeartbeat t r x v s := rfl
@[simp] theorem exec_heartbeatWindowEnd (t) (s) : exec (.heartbeatWindowEnd t) s = execHeartbeatWindowEnd t s := rfl
@[simp] theorem exec_firmwareImageCommit (t) (r) (x) (crc) (tt) (s) : exec (.firmwareImageCommit t r x crc tt) s = execFirmwareImageCommit t r x crc tt s := rfl
@[simp] theorem exec_keyCommit (t) (r) (k) (crc) (tt) (s) : exec (.keyCommit t r k crc tt) s = execKeyCommit t r k crc tt s := rfl
@[simp] theorem exec_ledgerSnap (t) (r) (l) (v) (s) : exec (.ledgerSnap t r l v) s = execLedgerSnap t r l v s := rfl
@[simp] theorem exec_markerFrameSearch (t) (falls) (s) : exec (.markerFrameSearch t falls) s = execMarkerFrameSearch t falls s := rfl
@[simp] theorem exec_markerFrameSlot (t) (falls) (s) : exec (.markerFrameSlot t falls) s = execMarkerFrameSlot t falls s := rfl
@[simp] theorem exec_ttResync (t) (r) (v) (s) : exec (.ttResync t r v) s = execTtResync t r v s := rfl
@[simp] theorem exec_scheduledArm (t) (r) (a) (v) (s) : exec (.scheduledArm t r a v) s = execScheduledArm t r a v s := rfl
@[simp] theorem exec_scheduledCancel (t) (r) (a) (v) (s) : exec (.scheduledCancel t r a v) s = execScheduledCancel t r a v s := rfl
@[simp] theorem exec_ptpSync (t) (k) (master) (offset) (delay) (interval) (s) : exec (.ptpSync t k master offset delay interval) s = execPtpSync t k master offset delay interval s := rfl
@[simp] theorem exec_ptpSyncLoss (t) (k) (s) : exec (.ptpSyncLoss t k) s = execPtpSyncLoss t k s := rfl
@[simp] theorem exec_holdoverLimit (t) (k) (s) : exec (.holdoverLimit t k) s = execHoldoverLimit t k s := rfl
@[simp] theorem exec_switchArm (t) (r) (v) (s) : exec (.switchArm t r v) s = execSwitchArm t r v s := rfl
@[simp] theorem exec_switchCancel (t) (r) (v) (s) : exec (.switchCancel t r v) s = execSwitchCancel t r v s := rfl
@[simp] theorem exec_activeDomainSwitch (t) (s) : exec (.activeDomainSwitch t) s = execActiveDomainSwitch t s := rfl
@[simp] theorem exec_slewEnd (t) (s) : exec (.slewEnd t) s = execSlewEnd t s := rfl
@[simp] theorem exec_arm (t) (r) (u) (v) (s) : exec (.arm t r u v) s = execArm t r u v s := rfl
@[simp] theorem exec_cancel (t) (r) (u) (v) (s) : exec (.cancel t r u v) s = execCancel t r u v s := rfl
@[simp] theorem exec_triggerPulse (t) (u) (s) : exec (.triggerPulse t u) s = execTriggerPulse t u s := rfl
@[simp] theorem exec_triggerModeWrite (t) (r) (u) (v) (s) : exec (.triggerModeWrite t r u v) s = execTriggerModeWrite t r u v s := rfl
@[simp] theorem exec_triggerInputEdge (t) (u) (rising) (s) : exec (.triggerInputEdge t u rising) s = execTriggerInputEdge t u rising s := rfl
@[simp] theorem exec_deadtimeEnd (t) (u) (s) : exec (.deadtimeEnd t u) s = execDeadtimeEnd t u s := rfl
@[simp] theorem exec_mapCommit (t) (r) (b) (crc) (tt) (s) : exec (.mapCommit t r b crc tt) s = execMapCommit t r b crc tt s := rfl
@[simp] theorem exec_bankSwitchArm (t) (r) (b) (v) (s) : exec (.bankSwitchArm t r b v) s = execBankSwitchArm t r b v s := rfl
@[simp] theorem exec_bankSwitchCancel (t) (r) (b) (v) (s) : exec (.bankSwitchCancel t r b v) s = execBankSwitchCancel t r b v s := rfl
@[simp] theorem exec_bankSwitch (t) (b) (s) : exec (.bankSwitch t b) s = execBankSwitch t b s := rfl
@[simp] theorem exec_fifoOutputSwitch (t) (ch) (s) : exec (.fifoOutputSwitch t ch) s = execFifoOutputSwitch t ch s := rfl
@[simp] theorem exec_timingSetsCommit (t) (ch) (w) (s) : exec (.timingSetsCommit t ch w) s = execTimingSetsCommit t ch w s := rfl
@[simp] theorem exec_quadScheduleCommit (t) (n) (w) (s) : exec (.quadScheduleCommit t n w) s = execQuadScheduleCommit t n w s := rfl
@[simp] theorem exec_vectorBegin (t) (ch) (s) : exec (.vectorBegin t ch) s = execVectorBegin t ch s := rfl
@[simp] theorem exec_patternStart (t) (ch) (s) : exec (.patternStart t ch) s = execPatternStart t ch s := rfl
@[simp] theorem exec_strobe (t) (ch) (look) (s) : exec (.strobe t ch look) s = execStrobe t ch look s := rfl
@[simp] theorem exec_channelStop (t) (ch) (s) : exec (.channelStop t ch) s = execChannelStop t ch s := rfl
@[simp] theorem exec_trimWrite (t) (r) (ch) (v) (s) : exec (.trimWrite t r ch v) s = execTrimWrite t r ch v s := rfl
@[simp] theorem exec_parkCodeWrite (t) (r) (ch) (v) (s) : exec (.parkCodeWrite t r ch v) s = execParkCodeWrite t r ch v s := rfl
@[simp] theorem exec_modeChange (t) (r) (ch) (v) (s) : exec (.modeChange t r ch v) s = execModeChange t r ch v s := rfl
@[simp] theorem exec_deskewWrite (t) (r) (ch) (pair) (v) (s) : exec (.deskewWrite t r ch pair v) s = execDeskewWrite t r ch pair v s := rfl
@[simp] theorem exec_bgcalMeasurement (t) (n) (steps) (s) : exec (.bgcalMeasurement t n steps) s = execBgcalMeasurement t n steps s := rfl
@[simp] theorem exec_next (t) (e) (s) : exec (.next t e) s = execNext t e s := rfl
@[simp] theorem exec_jmp (t) (e) (s) : exec (.jmp t e) s = execJmp t e s := rfl
@[simp] theorem exec_call (t) (e) (s) : exec (.call t e) s = execCall t e s := rfl
@[simp] theorem exec_ret (t) (e) (s) : exec (.ret t e) s = execRet t e s := rfl
@[simp] theorem exec_loop (t) (e) (s) : exec (.loop t e) s = execLoop t e s := rfl
@[simp] theorem exec_ldlci (t) (e) (s) : exec (.ldlci t e) s = execLdlci t e s := rfl
@[simp] theorem exec_ldlc (t) (e) (s) : exec (.ldlc t e) s = execLdlc t e s := rfl
@[simp] theorem exec_waittt (t) (e) (s) : exec (.waittt t e) s = execWaittt t e s := rfl
@[simp] theorem exec_waitttRetire (t) (e) (s) : exec (.waitttRetire t e) s = execWaitttRetire t e s := rfl
@[simp] theorem exec_waitc (t) (e) (s) : exec (.waitc t e) s = execWaitc t e s := rfl
@[simp] theorem exec_waitcRetire (t) (e) (s) : exec (.waitcRetire t e) s = execWaitcRetire t e s := rfl
@[simp] theorem exec_stop (t) (e) (s) : exec (.stop t e) s = execStop t e s := rfl
@[simp] theorem exec_site (t) (e) (s) : exec (.site t e) s = execSite t e s := rfl
@[simp] theorem exec_scrld (t) (e) (s) : exec (.scrld t e) s = execScrld t e s := rfl
@[simp] theorem exec_hclaim (t) (e) (s) : exec (.hclaim t e) s = execHclaim t e s := rfl
@[simp] theorem exec_claimDecision (t) (q) (s) : exec (.claimDecision t q) s = execClaimDecision t q s := rfl
@[simp] theorem exec_hrelease (t) (e) (s) : exec (.hrelease t e) s = execHrelease t e s := rfl
@[simp] theorem exec_releaseDisarm (t) (e) (s) : exec (.releaseDisarm t e) s = execReleaseDisarm t e s := rfl
@[simp] theorem exec_lds (t) (e) (s) : exec (.lds t e) s = execLds t e s := rfl
@[simp] theorem exec_sts (t) (e) (s) : exec (.sts t e) s = execSts t e s := rfl
@[simp] theorem exec_mov (t) (e) (s) : exec (.mov t e) s = execMov t e s := rfl
@[simp] theorem exec_add (t) (e) (s) : exec (.add t e) s = execAdd t e s := rfl
@[simp] theorem exec_sub (t) (e) (s) : exec (.sub t e) s = execSub t e s := rfl
@[simp] theorem exec_and (t) (e) (s) : exec (.and t e) s = execAnd t e s := rfl
@[simp] theorem exec_or (t) (e) (s) : exec (.or t e) s = execOr t e s := rfl
@[simp] theorem exec_xor (t) (e) (s) : exec (.xor t e) s = execXor t e s := rfl
@[simp] theorem exec_shl (t) (e) (s) : exec (.shl t e) s = execShl t e s := rfl
@[simp] theorem exec_shr (t) (e) (s) : exec (.shr t e) s = execShr t e s := rfl
@[simp] theorem exec_cmp (t) (e) (s) : exec (.cmp t e) s = execCmp t e s := rfl
@[simp] theorem exec_tst (t) (e) (s) : exec (.tst t e) s = execTst t e s := rfl
@[simp] theorem exec_movi (t) (e) (s) : exec (.movi t e) s = execMovi t e s := rfl
@[simp] theorem exec_addi (t) (e) (s) : exec (.addi t e) s = execAddi t e s := rfl
@[simp] theorem exec_subi (t) (e) (s) : exec (.subi t e) s = execSubi t e s := rfl
@[simp] theorem exec_andi (t) (e) (s) : exec (.andi t e) s = execAndi t e s := rfl
@[simp] theorem exec_ori (t) (e) (s) : exec (.ori t e) s = execOri t e s := rfl
@[simp] theorem exec_xori (t) (e) (s) : exec (.xori t e) s = execXori t e s := rfl
@[simp] theorem exec_shli (t) (e) (s) : exec (.shli t e) s = execShli t e s := rfl
@[simp] theorem exec_shri (t) (e) (s) : exec (.shri t e) s = execShri t e s := rfl
@[simp] theorem exec_cmpi (t) (e) (s) : exec (.cmpi t e) s = execCmpi t e s := rfl
@[simp] theorem exec_tsti (t) (e) (s) : exec (.tsti t e) s = execTsti t e s := rfl
@[simp] theorem exec_ldk0 (t) (e) (s) : exec (.ldk0 t e) s = execLdk0 t e s := rfl
@[simp] theorem exec_ldk1 (t) (e) (s) : exec (.ldk1 t e) s = execLdk1 t e s := rfl
@[simp] theorem exec_ldk2 (t) (e) (s) : exec (.ldk2 t e) s = execLdk2 t e s := rfl
@[simp] theorem exec_refreshTimer (t) (e) (s) : exec (.refreshTimer t e) s = execRefreshTimer t e s := rfl
@[simp] theorem exec_startArm (t) (r) (e) (v) (s) : exec (.startArm t r e v) s = execStartArm t r e v s := rfl
@[simp] theorem exec_startCancel (t) (r) (e) (v) (s) : exec (.startCancel t r e v) s = execStartCancel t r e v s := rfl
@[simp] theorem exec_engineStart (t) (e) (s) : exec (.engineStart t e) s = execEngineStart t e s := rfl
@[simp] theorem exec_stopReq (t) (r) (e) (v) (s) : exec (.stopReq t r e v) s = execStopReq t r e v s := rfl
@[simp] theorem exec_programLoad (t) (e) (w) (s) : exec (.programLoad t e w) s = execProgramLoad t e w s := rfl
@[simp] theorem exec_loadComplete (t) (e) (s) : exec (.loadComplete t e) s = execLoadComplete t e s := rfl
@[simp] theorem exec_failedMark (t) (r) (e) (v) (s) : exec (.failedMark t r e v) s = execFailedMark t r e v s := rfl
@[simp] theorem exec_feedSchedCommit (t) (c) (w) (s) : exec (.feedSchedCommit t c w) s = execFeedSchedCommit t c w s := rfl
@[simp] theorem exec_mac (t) (e) (s) : exec (.mac t e) s = execMac t e s := rfl
@[simp] theorem exec_mmx (t) (e) (s) : exec (.mmx t e) s = execMmx t e s := rfl
@[simp] theorem exec_mmclr (t) (e) (s) : exec (.mmclr t e) s = execMmclr t e s := rfl
@[simp] theorem exec_accrd (t) (e) (s) : exec (.accrd t e) s = execAccrd t e s := rfl
@[simp] theorem exec_mmrd (t) (e) (s) : exec (.mmrd t e) s = execMmrd t e s := rfl
@[simp] theorem exec_accset (t) (e) (s) : exec (.accset t e) s = execAccset t e s := rfl
@[simp] theorem exec_ldop (t) (e) (s) : exec (.ldop t e) s = execLdop t e s := rfl
@[simp] theorem exec_switch (t) (e) (s) : exec (.switch t e) s = execSwitch t e s := rfl
@[simp] theorem exec_resrd (t) (e) (s) : exec (.resrd t e) s = execResrd t e s := rfl
@[simp] theorem exec_stepResult (t) (ch) (s) : exec (.stepResult t ch) s = execStepResult t ch s := rfl
@[simp] theorem exec_dspStateCommit (t) (r) (e) (crc) (tt) (s) : exec (.dspStateCommit t r e crc tt) s = execDspStateCommit t r e crc tt s := rfl
@[simp] theorem exec_table (t) (w) (s) : exec (.table t w) s = execTable t w s := rfl
@[simp] theorem exec_siteMask (t) (k) (w) (s) : exec (.siteMask t k w) s = execSiteMask t k w s := rfl
@[simp] theorem exec_forceRelease (t) (r) (k) (v) (s) : exec (.forceRelease t r k v) s = execForceRelease t r k v s := rfl
@[simp] theorem exec_stickyClear (t) (k) (u) (s) : exec (.stickyClear t k u) s = execStickyClear t k u s := rfl
@[simp] theorem exec_slotWindowEnd (t) (k) (u) (s) : exec (.slotWindowEnd t k u) s = execSlotWindowEnd t k u s := rfl
@[simp] theorem exec_failsafeEntry (t) (s) : exec (.failsafeEntry t) s = execFailsafeEntry t s := rfl
@[simp] theorem exec_clearFailsafe (t) (r) (k) (v) (s) : exec (.clearFailsafe t r k v) s = execClearFailsafe t r k v s := rfl
@[simp] theorem exec_sitesCommit (t) (w) (s) : exec (.sitesCommit t w) s = execSitesCommit t w s := rfl
@[simp] theorem exec_siteFailsClear (t) (r) (v) (s) : exec (.siteFailsClear t r v) s = execSiteFailsClear t r v s := rfl
@[simp] theorem exec_chanCfgCommit (t) (r) (q) (crc) (tt) (s) : exec (.chanCfgCommit t r q crc tt) s = execChanCfgCommit t r q crc tt s := rfl
@[simp] theorem exec_wordRecordClose (t) (q) (g) (s) : exec (.wordRecordClose t q g) s = execWordRecordClose t q g s := rfl
@[simp] theorem exec_runIdleExpiry (t) (q) (src) (s) : exec (.runIdleExpiry t q src) s = execRunIdleExpiry t q src s := rfl
@[simp] theorem exec_fcFlush (t) (r) (q) (v) (s) : exec (.fcFlush t r q v) s = execFcFlush t r q v s := rfl
@[simp] theorem exec_runEnWrite (t) (r) (q) (v) (s) : exec (.runEnWrite t r q v) s = execRunEnWrite t r q v s := rfl
@[simp] theorem exec_recordOffer (t) (q) (s) : exec (.recordOffer t q) s = execRecordOffer t q s := rfl
@[simp] theorem exec_descCommit (t) (r) (q) (crc) (tt) (s) : exec (.descCommit t r q crc tt) s = execDescCommit t r q crc tt s := rfl
@[simp] theorem exec_enable (t) (r) (q) (v) (s) : exec (.enable t r q v) s = execEnable t r q v s := rfl
@[simp] theorem exec_drainComplete (t) (q) (s) : exec (.drainComplete t q) s = execDrainComplete t q s := rfl
@[simp] theorem exec_producerOffer (t) (q) (gran) (s) : exec (.producerOffer t q gran) s = execProducerOffer t q gran s := rfl
@[simp] theorem exec_ringWriteComplete (t) (q) (num) (s) : exec (.ringWriteComplete t q num) s = execRingWriteComplete t q num s := rfl
@[simp] theorem exec_prodDoorbell (t) (r) (q) (n) (s) : exec (.prodDoorbell t r q n) s = execProdDoorbell t r q n s := rfl
@[simp] theorem exec_consDoorbell (t) (r) (q) (n) (s) : exec (.consDoorbell t r q n) s = execConsDoorbell t r q n s := rfl
@[simp] theorem exec_deadlineArm (t) (r) (q) (v) (s) : exec (.deadlineArm t r q v) s = execDeadlineArm t r q v s := rfl
@[simp] theorem exec_deadlineCancel (t) (r) (q) (v) (s) : exec (.deadlineCancel t r q v) s = execDeadlineCancel t r q v s := rfl
@[simp] theorem exec_queueDeadline (t) (q) (s) : exec (.queueDeadline t q) s = execQueueDeadline t q s := rfl
@[simp] theorem exec_deadline (t) (q) (s) : exec (.deadline t q) s = execDeadline t q s := rfl
@[simp] theorem exec_queueFlush (t) (r) (q) (v) (s) : exec (.queueFlush t r q v) s = execQueueFlush t r q v s := rfl
@[simp] theorem exec_repairPresentation (t) (q) (s) : exec (.repairPresentation t q) s = execRepairPresentation t q s := rfl
@[simp] theorem exec_repairUpdate (t) (q) (s) : exec (.repairUpdate t q) s = execRepairUpdate t q s := rfl
@[simp] theorem exec_contextsCommit (t) (r) (q) (crc) (tt) (s) : exec (.contextsCommit t r q crc tt) s = execContextsCommit t r q crc tt s := rfl
@[simp] theorem exec_repairClear (t) (r) (q) (v) (s) : exec (.repairClear t r q v) s = execRepairClear t r q v s := rfl
@[simp] theorem exec_report (t) (r) (q) (v) (s) : exec (.report t r q v) s = execReport t r q v s := rfl
@[simp] theorem exec_serEn (t) (r) (ch) (v) (s) : exec (.serEn t r ch v) s = execSerEn t r ch v s := rfl
@[simp] theorem exec_serialFill (t) (ch) (s) : exec (.serialFill t ch) s = execSerialFill t ch s := rfl
@[simp] theorem exec_bitslip (t) (r) (ch) (v) (s) : exec (.bitslip t r ch v) s = execBitslip t r ch v s := rfl
@[simp] theorem exec_alignment (t) (ch) (line) (s) : exec (.alignment t ch line) s = execAlignment t ch line s := rfl
@[simp] theorem exec_cdrLock (t) (ch) (s) : exec (.cdrLock t ch) s = execCdrLock t ch s := rfl
@[simp] theorem exec_lockLoss (t) (ch) (s) : exec (.lockLoss t ch) s = execLockLoss t ch s := rfl
@[simp] theorem exec_rxAdaptDone (t) (ch) (v) (s) : exec (.rxAdaptDone t ch v) s = execRxAdaptDone t ch v s := rfl
@[simp] theorem exec_prbsWrite (t) (r) (ch) (v) (s) : exec (.prbsWrite t r ch v) s = execPrbsWrite t r ch v s := rfl
@[simp] theorem exec_prbsLock (t) (ch) (line) (s) : exec (.prbsLock t ch line) s = execPrbsLock t ch line s := rfl
@[simp] theorem exec_errClear (t) (r) (ch) (v) (s) : exec (.errClear t r ch v) s = execErrClear t r ch v s := rfl
@[simp] theorem exec_eyeStart (t) (r) (ch) (v) (s) : exec (.eyeStart t r ch v) s = execEyeStart t r ch v s := rfl
@[simp] theorem exec_eyePointEnd (t) (ch) (errors) (s) : exec (.eyePointEnd t ch errors) s = execEyePointEnd t ch errors s := rfl
@[simp] theorem exec_yardEnable (t) (r) (p) (v) (s) : exec (.yardEnable t r p v) s = execYardEnable t r p v s := rfl
@[simp] theorem exec_train (t) (p) (lane) (frame) (adapted) (s) : exec (.train t p lane frame adapted) s = execTrain t p lane frame adapted s := rfl
@[simp] theorem exec_trainingLimit (t) (p) (s) : exec (.trainingLimit t p) s = execTrainingLimit t p s := rfl
@[simp] theorem exec_linkUp (t) (p) (s) : exec (.linkUp t p) s = execLinkUp t p s := rfl
@[simp] theorem exec_yardFrame (t) (p) (frame) (s) : exec (.yardFrame t p frame) s = execYardFrame t p frame s := rfl
@[simp] theorem exec_data (t) (p) (s) : exec (.data t p) s = execData t p s := rfl
@[simp] theorem exec_credit (t) (p) (s) : exec (.credit t p) s = execCredit t p s := rfl
@[simp] theorem exec_rekey (t) (p) (s) : exec (.rekey t p) s = execRekey t p s := rfl
@[simp] theorem exec_rekeyAck (t) (p) (s) : exec (.rekeyAck t p) s = execRekeyAck t p s := rfl
@[simp] theorem exec_tag (t) (p) (s) : exec (.tag t p) s = execTag t p s := rfl
@[simp] theorem exec_nak (t) (p) (s) : exec (.nak t p) s = execNak t p s := rfl
@[simp] theorem exec_replayTimeout (t) (p) (s) : exec (.replayTimeout t p) s = execReplayTimeout t p s := rfl
@[simp] theorem exec_keyRotate (t) (r) (p) (v) (s) : exec (.keyRotate t r p v) s = execKeyRotate t r p v s := rfl
@[simp] theorem exec_linkDown (t) (p) (cause) (s) : exec (.linkDown t p cause) s = execLinkDown t p cause s := rfl
@[simp] theorem exec_autoRetrain (t) (p) (s) : exec (.autoRetrain t p) s = execAutoRetrain t p s := rfl
@[simp] theorem exec_vcCfgCommit (t) (r) (p) (crc) (tt) (s) : exec (.vcCfgCommit t r p crc tt) s = execVcCfgCommit t r p crc tt s := rfl
@[simp] theorem exec_linkKeyCommit (t) (r) (p) (slot) (crc) (tt) (s) : exec (.linkKeyCommit t r p slot crc tt) s = execLinkKeyCommit t r p slot crc tt s := rfl
@[simp] theorem exec_yardWake (t) (p) (frames) (s) : exec (.yardWake t p frames) s = execYardWake t p frames s := rfl
@[simp] theorem exec_managementFrame (t) (c) (frame) (s) : exec (.managementFrame t c frame) s = execManagementFrame t c frame s := rfl
@[simp] theorem exec_managementWake (t) (c) (frame) (s) : exec (.managementWake t c frame) s = execManagementWake t c frame s := rfl
@[simp] theorem exec_phyMode (t) (r) (c) (v) (s) : exec (.phyMode t r c v) s = execPhyMode t r c v s := rfl
@[simp] theorem exec_mgtLinkChange (t) (c) (up) (speed) (s) : exec (.mgtLinkChange t c up speed) s = execMgtLinkChange t c up speed s := rfl
@[simp] theorem exec_fabricLaneWord (t) (q) (n) (s) : exec (.fabricLaneWord t q n) s = execFabricLaneWord t q n s := rfl
@[simp] theorem exec_receivePortWord (t) (ch) (s) : exec (.receivePortWord t ch) s = execReceivePortWord t ch s := rfl
@[simp] theorem exec_queuePortOffer (t) (q) (k) (s) : exec (.queuePortOffer t q k) s = execQueuePortOffer t q k s := rfl
@[simp] theorem exec_queuePortTake (t) (q) (k) (s) : exec (.queuePortTake t q k) s = execQueuePortTake t q k s := rfl
@[simp] theorem exec_queuePortBind (t) (r) (q) (consumer) (k) (v) (s) : exec (.queuePortBind t r q consumer k v) s = execQueuePortBind t r q consumer k v s := rfl
@[simp] theorem exec_source (t) (r) (p) (v) (s) : exec (.source t r p v) s = execSource t r p v s := rfl
@[simp] theorem exec_idelay (t) (r) (g) (v) (s) : exec (.idelay t r g v) s = execIdelay t r g v s := rfl
@[simp] theorem exec_sync (t) (bus) (s) : exec (.sync t bus) s = execSync t bus s := rfl
@[simp] theorem exec_header (t) (bus) (s) : exec (.header t bus) s = execHeader t bus s := rfl
@[simp] theorem exec_locate (t) (bus) (s) : exec (.locate t bus) s = execLocate t bus s := rfl
@[simp] theorem exec_writeFrames (t) (bus) (s) : exec (.writeFrames t bus) s = execWriteFrames t bus s := rfl
@[simp] theorem exec_repeat (t) (bus) (s) : exec (.repeat t bus) s = execRepeat t bus s := rfl
@[simp] theorem exec_zwrite (t) (bus) (s) : exec (.zwrite t bus) s = execZwrite t bus s := rfl
@[simp] theorem exec_crc (t) (bus) (s) : exec (.crc t bus) s = execCrc t bus s := rfl
@[simp] theorem exec_startup (t) (bus) (s) : exec (.startup t bus) s = execStartup t bus s := rfl
@[simp] theorem exec_fwload (t) (bus) (s) : exec (.fwload t bus) s = execFwload t bus s := rfl
@[simp] theorem exec_seal (t) (bus) (s) : exec (.seal t bus) s = execSeal t bus s := rfl
@[simp] theorem exec_nop (t) (bus) (s) : exec (.nop t bus) s = execNop t bus s := rfl
@[simp] theorem exec_configClearDone (t) (s) : exec (.configClearDone t) s = execConfigClearDone t s := rfl
@[simp] theorem exec_waitLock (t) (s) : exec (.waitLock t) s = execWaitLock t s := rfl
@[simp] theorem exec_waitLockTimeout (t) (s) : exec (.waitLockTimeout t) s = execWaitLockTimeout t s := rfl
@[simp] theorem exec_waitTime (t) (s) : exec (.waitTime t) s = execWaitTime t s := rfl
@[simp] theorem exec_releaseGsr (t) (s) : exec (.releaseGsr t) s = execReleaseGsr t s := rfl
@[simp] theorem exec_enableWrites (t) (s) : exec (.enableWrites t) s = execEnableWrites t s := rfl
@[simp] theorem exec_releaseGpio (t) (s) : exec (.releaseGpio t) s = execReleaseGpio t s := rfl
@[simp] theorem exec_releaseOutputs (t) (s) : exec (.releaseOutputs t) s = execReleaseOutputs t s := rfl
@[simp] theorem exec_startMc (t) (s) : exec (.startMc t) s = execStartMc t s := rfl
@[simp] theorem exec_doneStep (t) (s) : exec (.doneStep t) s = execDoneStep t s := rfl
@[simp] theorem exec_endStep (t) (s) : exec (.endStep t) s = execEndStep t s := rfl
@[simp] theorem exec_paddockStreamOpen (t) (r) (p) (total) (s) : exec (.paddockStreamOpen t r p total) s = execPaddockStreamOpen t r p total s := rfl
@[simp] theorem exec_shadowDiscard (t) (r) (p) (v) (s) : exec (.shadowDiscard t r p v) s = execShadowDiscard t r p v s := rfl
@[simp] theorem exec_swapArm (t) (r) (p) (v) (s) : exec (.swapArm t r p v) s = execSwapArm t r p v s := rfl
@[simp] theorem exec_swapCancel (t) (r) (p) (v) (s) : exec (.swapCancel t r p v) s = execSwapCancel t r p v s := rfl
@[simp] theorem exec_paddockSwap (t) (p) (s) : exec (.paddockSwap t p) s = execPaddockSwap t p s := rfl
@[simp] theorem exec_holdEnd (t) (p) (s) : exec (.holdEnd t p) s = execHoldEnd t p s := rfl
@[simp] theorem exec_auditStart (t) (r) (v) (s) : exec (.auditStart t r v) s = execAuditStart t r v s := rfl
@[simp] theorem exec_auditComplete (t) (changed) (s) : exec (.auditComplete t changed) s = execAuditComplete t changed s := rfl
@[simp] theorem exec_autoAudit (t) (s) : exec (.autoAudit t) s = execAutoAudit t s := rfl
@[simp] theorem exec_networkRequest (t) (src) (sport) (write) (addr) (n) (data) (s) : exec (.networkRequest t src sport write addr n data) s = execNetworkRequest t src sport write addr n data s := rfl
@[simp] theorem exec_packetEjection (t) (src) (dst) (cls) (how) (s) : exec (.packetEjection t src dst cls how) s = execPacketEjection t src dst cls how s := rfl
@[simp] theorem exec_response (t) (src) (dst) (s) : exec (.response t src dst) s = execResponse t src dst s := rfl
@[simp] theorem exec_rsvReq (t) (src) (dst) (s) : exec (.rsvReq t src dst) s = execRsvReq t src dst s := rfl
@[simp] theorem exec_rsvGrant (t) (src) (dst) (s) : exec (.rsvGrant t src dst) s = execRsvGrant t src dst s := rfl
@[simp] theorem exec_creditReturn (t) (r) (s) : exec (.creditReturn t r) s = execCreditReturn t r s := rfl
@[simp] theorem exec_turnCreditReturn (t) (rs) (y) (cls) (s) : exec (.turnCreditReturn t rs y cls) s = execTurnCreditReturn t rs y cls s := rfl
@[simp] theorem exec_standing (t) (r) (crc) (tt) (s) : exec (.standing t r crc tt) s = execStanding t r crc tt s := rfl
@[simp] theorem exec_fence (t) (rs) (s) : exec (.fence t rs) s = execFence t rs s := rfl
@[simp] theorem exec_fenceNotice (t) (src) (dst) (s) : exec (.fenceNotice t src dst) s = execFenceNotice t src dst s := rfl
@[simp] theorem exec_fenceAck (t) (src) (dst) (s) : exec (.fenceAck t src dst) s = execFenceAck t src dst s := rfl
@[simp] theorem exec_drainLimit (t) (rs) (s) : exec (.drainLimit t rs) s = execDrainLimit t rs s := rfl
@[simp] theorem exec_unfence (t) (rs) (s) : exec (.unfence t rs) s = execUnfence t rs s := rfl
@[simp] theorem exec_stallLimit (t) (rs) (port) (s) : exec (.stallLimit t rs port) s = execStallLimit t rs port s := rfl
@[simp] theorem exec_respLimit (t) (rs) (port) (s) : exec (.respLimit t rs port) s = execRespLimit t rs port s := rfl
@[simp] theorem exec_reqLimit (t) (rs) (s) : exec (.reqLimit t rs) s = execReqLimit t rs s := rfl
@[simp] theorem exec_isolate (t) (r) (rs) (v) (s) : exec (.isolate t r rs v) s = execIsolate t r rs v s := rfl
@[simp] theorem exec_deisolate (t) (r) (rs) (v) (s) : exec (.deisolate t r rs v) s = execDeisolate t r rs v s := rfl
@[simp] theorem exec_binding (t) (r) (rs) (crc) (tt) (s) : exec (.binding t r rs crc tt) s = execBinding t r rs crc tt s := rfl
@[simp] theorem exec_networkEvent (t) (rs) (port) (s) : exec (.networkEvent t rs port) s = execNetworkEvent t rs port s := rfl
@[simp] theorem exec_memEnable (t) (r) (v) (s) : exec (.memEnable t r v) s = execMemEnable t r v s := rfl
@[simp] theorem exec_trainingStepTimeout (t) (m) (step) (s) : exec (.trainingStepTimeout t m step) s = execTrainingStepTimeout t m step s := rfl
@[simp] theorem exec_memInitComplete (t) (s) : exec (.memInitComplete t) s = execMemInitComplete t s := rfl
@[simp] theorem exec_retrainInterval (t) (m) (drift) (s) : exec (.retrainInterval t m drift) s = execRetrainInterval t m drift s := rfl
@[simp] theorem exec_zqLatch (t) (m) (s) : exec (.zqLatch t m) s = execZqLatch t m s := rfl
@[simp] theorem exec_refreshInterval (t) (m) (waiting) (s) : exec (.refreshInterval t m waiting) s = execRefreshInterval t m waiting s := rfl
@[simp] theorem exec_mr4Poll (t) (m) (code) (s) : exec (.mr4Poll t m code) s = execMr4Poll t m code s := rfl
@[simp] theorem exec_memoryRead (t) (addr) (lines) (lat) (wait) (s) : exec (.memoryRead t addr lines lat wait) s = execMemoryRead t addr lines lat wait s := rfl
@[simp] theorem exec_partialWrite (t) (addr) (bytes) (lat) (wait) (s) : exec (.partialWrite t addr bytes lat wait) s = execPartialWrite t addr bytes lat wait s := rfl
@[simp] theorem exec_fullLineWrite (t) (addr) (bytes) (lat) (wait) (s) : exec (.fullLineWrite t addr bytes lat wait) s = execFullLineWrite t addr bytes lat wait s := rfl
@[simp] theorem exec_pageReencryption (t) (addr) (bytes) (s) : exec (.pageReencryption t addr bytes) s = execPageReencryption t addr bytes s := rfl
@[simp] theorem exec_pageReencryptionDone (t) (page) (wait) (s) : exec (.pageReencryptionDone t page wait) s = execPageReencryptionDone t page wait s := rfl
@[simp] theorem exec_regions (t) (r) (crc) (tt) (s) : exec (.regions t r crc tt) s = execRegions t r crc tt s := rfl
@[simp] theorem exec_regionInitDone (t) (e) (wait) (s) : exec (.regionInitDone t e wait) s = execRegionInitDone t e wait s := rfl
@[simp] theorem exec_window (t) (r) (crc) (tt) (s) : exec (.window t r crc tt) s = execWindow t r crc tt s := rfl
@[simp] theorem exec_key (t) (r) (k) (crc) (tt) (s) : exec (.key t r k crc tt) s = execKey t r k crc tt s := rfl
@[simp] theorem exec_retire (t) (r) (k) (v) (s) : exec (.retire t r k v) s = execRetire t r k v s := rfl
@[simp] theorem exec_retireFlushEnd (t) (k) (s) : exec (.retireFlushEnd t k) s = execRetireFlushEnd t k s := rfl
@[simp] theorem exec_walkStart (t) (r) (s) : exec (.walkStart t r) s = execWalkStart t r s := rfl
@[simp] theorem exec_walkAbort (t) (r) (s) : exec (.walkAbort t r) s = execWalkAbort t r s := rfl
@[simp] theorem exec_walkPage (t) (wait) (s) : exec (.walkPage t wait) s = execWalkPage t wait s := rfl
@[simp] theorem exec_streamsCommit (t) (r) (q) (crc) (tt) (s) : exec (.streamsCommit t r q crc tt) s = execStreamsCommit t r q crc tt s := rfl
@[simp] theorem exec_portRewind (t) (q) (k) (s) : exec (.portRewind t q k) s = execPortRewind t q k s := rfl
@[simp] theorem exec_grindLine (t) (q) (k) (s) : exec (.grindLine t q k) s = execGrindLine t q k s := rfl
@[simp] theorem exec_streamWordTake (t) (q) (k) (s) : exec (.streamWordTake t q k) s = execStreamWordTake t q k s := rfl
@[simp] theorem exec_startupMarch (t) (s) : exec (.startupMarch t) s = execStartupMarch t s := rfl
@[simp] theorem exec_startupMarchDone (t) (x) (s) : exec (.startupMarchDone t x) s = execStartupMarchDone t x s := rfl
@[simp] theorem exec_marchStart (t) (r) (v) (s) : exec (.marchStart t r v) s = execMarchStart t r v s := rfl
@[simp] theorem exec_marchDone (t) (found) (first) (left) (s) : exec (.marchDone t found first left) s = execMarchDone t found first left s := rfl
@[simp] theorem exec_scrubProgram (t) (r) (crc) (tt) (s) : exec (.scrubProgram t r crc tt) s = execScrubProgram t r crc tt s := rfl
@[simp] theorem exec_patrolUnit (t) (ups) (errs) (busy) (wait) (s) : exec (.patrolUnit t ups errs busy wait) s = execPatrolUnit t ups errs busy wait s := rfl
@[simp] theorem exec_forcedSteal (t) (data) (slot) (s) : exec (.forcedSteal t data slot) s = execForcedSteal t data slot s := rfl
@[simp] theorem exec_scrubWaitEnd (t) (s) : exec (.scrubWaitEnd t) s = execScrubWaitEnd t s := rfl
@[simp] theorem exec_clkrefGate (t) (count) (s) : exec (.clkrefGate t count) s = execClkrefGate t count s := rfl
@[simp] theorem exec_missingEdge (t) (s) : exec (.missingEdge t) s = execMissingEdge t s := rfl
@[simp] theorem exec_clkrefStable (t) (s) : exec (.clkrefStable t) s = execClkrefStable t s := rfl
@[simp] theorem exec_clkrefLoss (t) (s) : exec (.clkrefLoss t) s = execClkrefLoss t s := rfl
@[simp] theorem exec_clkrefRecovery (t) (s) : exec (.clkrefRecovery t) s = execClkrefRecovery t s := rfl
@[simp] theorem exec_padRelease (t) (r) (v) (s) : exec (.padRelease t r v) s = execPadRelease t r v s := rfl
@[simp] theorem exec_pllLock (t) (n) (s) : exec (.pllLock t n) s = execPllLock t n s := rfl
@[simp] theorem exec_pllUnlock (t) (n) (s) : exec (.pllUnlock t n) s = execPllUnlock t n s := rfl
@[simp] theorem exec_clkEnable (t) (r) (crc) (tt) (s) : exec (.clkEnable t r crc tt) s = execClkEnable t r crc tt s := rfl
@[simp] theorem exec_src (t) (r) (w) (v) (s) : exec (.src t r w v) s = execSrc t r w v s := rfl
@[simp] theorem exec_fpllSetting (t) (r) (f) (divider) (v) (s) : exec (.fpllSetting t r f divider v) s = execFpllSetting t r f divider v s := rfl
@[simp] theorem exec_shedReset (t) (r) (sh) (v) (s) : exec (.shedReset t r sh v) s = execShedReset t r sh v s := rfl
@[simp] theorem exec_fenceStep (t) (s) : exec (.fenceStep t) s = execFenceStep t s := rfl
@[simp] theorem exec_unfenceStep (t) (s) : exec (.unfenceStep t) s = execUnfenceStep t s := rfl
@[simp] theorem exec_setShed (t) (s) : exec (.setShed t) s = execSetShed t s := rfl
@[simp] theorem exec_shedWait (t) (s) : exec (.shedWait t) s = execShedWait t s := rfl
@[simp] theorem exec_commit (t) (s) : exec (.commit t) s = execCommit t s := rfl
@[simp] theorem exec_setState (t) (s) : exec (.setState t) s = execSetState t s := rfl
@[simp] theorem exec_programEnd (t) (s) : exec (.programEnd t) s = execProgramEnd t s := rfl
@[simp] theorem exec_shedProgramCommit (t) (r) (k) (crc) (tt) (s) : exec (.shedProgramCommit t r k crc tt) s = execShedProgramCommit t r k crc tt s := rfl
@[simp] theorem exec_sleepArm (t) (r) (v) (s) : exec (.sleepArm t r v) s = execSleepArm t r v s := rfl
@[simp] theorem exec_sleepCancel (t) (r) (v) (s) : exec (.sleepCancel t r v) s = execSleepCancel t r v s := rfl
@[simp] theorem exec_sleepEntry (t) (s) : exec (.sleepEntry t) s = execSleepEntry t s := rfl
@[simp] theorem exec_wakeEvent (t) (s) : exec (.wakeEvent t) s = execWakeEvent t s := rfl
@[simp] theorem exec_wakeRequest (t) (r) (v) (s) : exec (.wakeRequest t r v) s = execWakeRequest t r v s := rfl
@[simp] theorem exec_runUser (t) (r) (v) (s) : exec (.runUser t r v) s = execRunUser t r v s := rfl
@[simp] theorem exec_challenge (t) (r) (s) : exec (.challenge t r) s = execChallenge t r s := rfl
@[simp] theorem exec_responseWrite (t) (r) (crc) (tt) (s) : exec (.responseWrite t r crc tt) s = execResponseWrite t r crc tt s := rfl
@[simp] theorem exec_debugLock (t) (r) (v) (s) : exec (.debugLock t r v) s = execDebugLock t r v s := rfl
@[simp] theorem exec_debugRead (t) (tap) (s) : exec (.debugRead t tap) s = execDebugRead t tap s := rfl
@[simp] theorem exec_debugWrite (t) (tap) (s) : exec (.debugWrite t tap) s = execDebugWrite t tap s := rfl
@[simp] theorem exec_debugStatus (t) (tap) (s) : exec (.debugStatus t tap) s = execDebugStatus t tap s := rfl
@[simp] theorem exec_debugReset (t) (tap) (mode) (bad) (s) : exec (.debugReset t tap mode bad) s = execDebugReset t tap mode bad s := rfl
@[simp] theorem exec_dbg (t) (req) (s) : exec (.dbg t req) s = execDbg t req s := rfl
@[simp] theorem exec_tapInstruction (t) (opcode) (s) : exec (.tapInstruction t opcode) s = execTapInstruction t opcode s := rfl
@[simp] theorem exec_break (t) (s) : exec (.break t) s = execBreak t s := rfl
@[simp] theorem exec_oneWireFrame (t) (frame) (s) : exec (.oneWireFrame t frame) s = execOneWireFrame t frame s := rfl
@[simp] theorem exec_haltReq (t) (r) (x) (v) (s) : exec (.haltReq t r x v) s = execHaltReq t r x v s := rfl
@[simp] theorem exec_resume (t) (r) (x) (v) (s) : exec (.resume t r x v) s = execResume t r x v s := rfl
@[simp] theorem exec_step (t) (r) (x) (v) (s) : exec (.step t r x v) s = execStep t r x v s := rfl
@[simp] theorem exec_controllerHalt (t) (x) (dpc) (gpr) (s) : exec (.controllerHalt t x dpc gpr) s = execControllerHalt t x dpc gpr s := rfl
@[simp] theorem exec_comparatorMatch (t) (x) (how) (addr) (first) (s) : exec (.comparatorMatch t x how addr first) s = execComparatorMatch t x how addr first s := rfl
@[simp] theorem exec_lockedSequenceLimit (t) (x) (dpc) (gpr) (s) : exec (.lockedSequenceLimit t x dpc gpr) s = execLockedSequenceLimit t x dpc gpr s := rfl
@[simp] theorem exec_kick (t) (r) (x) (v) (s) : exec (.kick t r x v) s = execKick t r x v s := rfl
@[simp] theorem exec_watchdogEnable (t) (r) (x) (v) (s) : exec (.watchdogEnable t r x v) s = execWatchdogEnable t r x v s := rfl
@[simp] theorem exec_pretimeout (t) (x) (s) : exec (.pretimeout t x) s = execPretimeout t x s := rfl
@[simp] theorem exec_watchdogExpiry (t) (x) (s) : exec (.watchdogExpiry t x) s = execWatchdogExpiry t x s := rfl
@[simp] theorem exec_engHalt (t) (r) (v) (s) : exec (.engHalt t r v) s = execEngHalt t r v s := rfl
@[simp] theorem exec_engResume (t) (r) (v) (s) : exec (.engResume t r v) s = execEngResume t r v s := rfl
@[simp] theorem exec_engStep (t) (r) (v) (s) : exec (.engStep t r v) s = execEngStep t r v s := rfl
@[simp] theorem exec_traceRun (t) (r) (v) (s) : exec (.traceRun t r v) s = execTraceRun t r v s := rfl
@[simp] theorem exec_traceRecord (t) (x) (kind) (target) (s) : exec (.traceRecord t x kind target) s = execTraceRecord t x kind target s := rfl
@[simp] theorem exec_traceDrainEnd (t) (s) : exec (.traceDrainEnd t) s = execTraceDrainEnd t s := rfl
@[simp] theorem exec_traceUser (t) (r) (v) (s) : exec (.traceUser t r v) s = execTraceUser t r v s := rfl
@[simp] theorem exec_counterClear (t) (r) (k) (v) (s) : exec (.counterClear t r k v) s = execCounterClear t r k v s := rfl
@[simp] theorem exec_snap (t) (r) (v) (s) : exec (.snap t r v) s = execSnap t r v s := rfl
@[simp] theorem exec_powerOnReset (t) (mode) (bad) (s) : exec (.powerOnReset t mode bad) s = execPowerOnReset t mode bad s := rfl
@[simp] theorem exec_pinReset (t) (width) (mode) (bad) (s) : exec (.pinReset t width mode bad) s = execPinReset t width mode bad s := rfl
@[simp] theorem exec_supplyOutOfRange (t) (rail) (s) : exec (.supplyOutOfRange t rail) s = execSupplyOutOfRange t rail s := rfl
@[simp] theorem exec_supplyBelowThreshold (t) (rail) (s) : exec (.supplyBelowThreshold t rail) s = execSupplyBelowThreshold t rail s := rfl
@[simp] theorem exec_vddqLow (t) (s) : exec (.vddqLow t) s = execVddqLow t s := rfl
@[simp] theorem exec_tempRefresh (t) (sensors) (sense) (s) : exec (.tempRefresh t sensors sense) s = execTempRefresh t sensors sense s := rfl
@[simp] theorem exec_thermalTrip (t) (s) : exec (.thermalTrip t) s = execThermalTrip t s := rfl
@[simp] theorem exec_thermRelease (t) (r) (v) (s) : exec (.thermRelease t r v) s = execThermRelease t r v s := rfl
@[simp] theorem exec_yardFrameSlot (t) (p) (s) : exec (.yardFrameSlot t p) s = execYardFrameSlot t p s := rfl
@[simp] theorem exec_selfRefreshExit (t) (m) (s) : exec (.selfRefreshExit t m) s = execSelfRefreshExit t m s := rfl
@[simp] theorem exec_shadowClearDone (t) (p) (s) : exec (.shadowClearDone t p) s = execShadowClearDone t p s := rfl
@[simp] theorem exec_recordTimeout (t) (slot) (rcd) (s) : exec (.recordTimeout t slot rcd) s = execRecordTimeout t slot rcd s := rfl
@[simp] theorem exec_debugRequestTimeout (t) (tap) (s) : exec (.debugRequestTimeout t tap) s = execDebugRequestTimeout t tap s := rfl
@[simp] theorem exec_supplyInRange (t) (rail) (s) : exec (.supplyInRange t rail) s = execSupplyInRange t rail s := rfl
@[simp] theorem exec_pulseEnd (t) (u) (s) : exec (.pulseEnd t u) s = execPulseEnd t u s := rfl
@[simp] theorem exec_driveEdge (t) (ch) (den) (s) : exec (.driveEdge t ch den) s = execDriveEdge t ch den s := rfl
@[simp] theorem exec_modeChangeDone (t) (ch) (s) : exec (.modeChangeDone t ch) s = execModeChangeDone t ch s := rfl
@[simp] theorem exec_blockMemoryAccess (t) (m) (upsets) (s) : exec (.blockMemoryAccess t m upsets) s = execBlockMemoryAccess t m upsets s := rfl
@[simp] theorem exec_serialTransmitWord (t) (ch) (s) : exec (.serialTransmitWord t ch) s = execSerialTransmitWord t ch s := rfl

end Sys2Proof.Machine
end

