-- ==== Sys2Proof/Laws/Frames.lean ====
section
/-! SUPPORT. Bits of yard frames and their checks. -/

namespace Sys2Proof.Machine

/-- The bits of a number, n of them. -/
theorem lsbBits_length : ∀ n v : Nat, (lsbBits n v).length = n := by
  intro n
  induction n with
  | zero => exact fun _ => rfl
  | succ n ih => exact fun v => by rw [lsbBits, List.length_cons, ih]

/-- The bits of a number, n of them. -/
theorem msbBits_length (n v : Nat) : (msbBits n v).length = n := by simp [msbBits, lsbBits_length]

/-- One more bit at the end. -/
theorem msbVal_snoc (a : List Bool) (b : Bool) : msbVal (a ++ [b]) = 2 * msbVal a + b2n b := by
  simp [msbVal, List.foldl_append]

/-- A number from its bits. -/
theorem msbVal_msbBits (n v : Nat) : msbVal (msbBits n v) = v % 2 ^ n := by
  induction n generalizing v with
  | zero => simp [msbBits, lsbBits, msbVal, Nat.mod_one]
  | succ n ih =>
    have e : msbBits (n + 1) v = msbBits n (v / 2) ++ [v.testBit 0] := by
      simp only [msbBits, lsbBits, List.reverse_cons]
    rw [e, msbVal_snoc, ih, Nat.pow_succ]
    have : b2n (v.testBit 0) = v % 2 := by
      rw [Nat.testBit_zero]
      rcases Nat.mod_two_eq_zero_or_one v with h | h <;> simp [h, b2n]
    rw [this]
    have := Nat.mod_mul (x := v) (a := 2) (b := 2 ^ n)
    rw [Nat.mul_comm (2 ^ n) 2, this]
    omega

/-- A register shifted by n zero bits. -/
def zeroShift (n x : Nat) : Nat := Nat.repeat (fun r => crc16Bit r false) n x

/-- The CRC-16 register stays below 2^16. -/
theorem crc16Bit_lt (r : Nat) (b : Bool) : crc16Bit r b < 2 ^ 16 := by
  unfold crc16Bit
  dsimp only
  split
  · exact Nat.mod_lt _ (by decide)
  · exact Nat.xor_lt_two_pow (Nat.mod_lt _ (by decide)) (by decide)

/-- A step of the CRC-16 register is additive. -/
theorem crc16Bit_xor (r x : Nat) (b : Bool) : crc16Bit (r ^^^ x) b = crc16Bit r b ^^^ crc16Bit x false := by
  have md : (r ^^^ x) * 2 % 0x10000 = (r * 2 % 0x10000) ^^^ (x * 2 % 0x10000) := by
    have := Nat.shiftLeft_xor_distrib (a := r) (b := x) (i := 1)
    rw [show (r ^^^ x) * 2 = r * 2 ^^^ x * 2 by simpa [Nat.shiftLeft_eq] using this]
    exact Nat.xor_mod_two_pow (n := 16)
  simp only [crc16Bit, md, Nat.testBit_xor]
  cases hr : r.testBit 15 <;> cases hx : x.testBit 15 <;> cases b <;>
    simp only [Bool.false_bne, Bool.true_bne, Bool.not_true, Bool.not_false, if_true, if_false, Bool.false_eq_true, Bool.true_eq_false]
  all_goals
    apply Nat.eq_of_testBit_eq
    intro i
    simp only [Nat.testBit_xor]
    cases Nat.testBit (r * 2 % 65536) i <;> cases Nat.testBit (x * 2 % 65536) i <;> cases Nat.testBit 4129 i <;> rfl

/-- The CRC-16 register is additive. -/
theorem foldl_crc16_xor (l : List Bool) : ∀ r x, l.foldl crc16Bit (r ^^^ x) = l.foldl crc16Bit r ^^^ Nat.repeat (fun r => crc16Bit r false) l.length x := by
  have rep : ∀ (n : Nat) (f : Nat → Nat) (x : Nat), Nat.repeat f (n + 1) x = Nat.repeat f n (f x) := by
    intro n f
    induction n with
    | zero => exact fun _ => rfl
    | succ n ih => exact fun x => congrArg f (ih x)
  induction l with
  | nil => exact fun _ _ => rfl
  | cons b l ih =>
    intro r x
    rw [List.foldl_cons, List.foldl_cons, crc16Bit_xor, ih, List.length_cons, rep]

/-- What one wrong bit does to a CRC-16. -/
theorem crc16_flip (l : List Bool) : ∀ (r i : Nat), i < l.length → (l.set i (!l.getD i false)).foldl crc16Bit r =
    l.foldl crc16Bit r ^^^ zeroShift (l.length - 1 - i) 0x1021 := by
  induction l with
  | nil => intro r i h; simp at h
  | cons b l ih =>
    intro r i h
    cases i with
    | zero =>
      have e : crc16Bit r (!b) = crc16Bit r b ^^^ 0x1021 := by
        simp only [crc16Bit]
        cases hr : r.testBit 15 <;> cases b <;> simp [Nat.xor_assoc]
      simp only [List.getD_cons_zero, List.set_cons_zero, List.foldl_cons, List.length_cons]
      rw [e, foldl_crc16_xor]
      rfl
    | succ i =>
      simp only [List.getD_cons_succ, List.set_cons_succ, List.foldl_cons, List.length_cons]
      rw [ih _ i (by simpa using h)]
      rw [show l.length + 1 - 1 - (i + 1) = l.length - 1 - i by omega]

/-- A number of n bits. -/
theorem msbVal_lt : ∀ l : List Bool, msbVal l < 2 ^ l.length := by
  intro l
  rw [← List.reverse_reverse l]
  induction l.reverse with
  | nil => simp [msbVal]
  | cons b r ih =>
    rw [List.reverse_cons, msbVal_snoc, List.length_append, List.length_singleton, Nat.pow_succ]
    simp only [List.length_reverse] at *
    cases b <;> simp only [b2n] <;> simp <;> omega

/-- Doubling and exclusive or. -/
theorem two_mul_xor (a b : Nat) (c : Bool) : 2 * (a ^^^ b) + b2n c = (2 * a + b2n c) ^^^ (2 * b) := by
  apply Nat.eq_of_testBit_eq
  intro i
  have h1 : ∀ x : Nat, (2 * x + b2n c) / 2 = x := fun x => by cases c <;> simp only [b2n] <;> simp <;> omega
  have h2 : ∀ x : Nat, (2 * x) / 2 = x := fun x => by omega
  cases i with
  | zero =>
    rw [Nat.testBit_xor]
    simp only [Nat.testBit_zero]
    have : ∀ x : Nat, (2 * x + b2n c) % 2 = b2n c % 2 := fun x => by omega
    rw [this, this]
    simp
  | succ i => rw [Nat.testBit_succ, h1, Nat.testBit_xor, Nat.testBit_xor, Nat.testBit_succ, h1, Nat.testBit_succ, h2]

/-- Reading a number is additive. -/
theorem foldl_msb_xor (l : List Bool) : ∀ a x : Nat, l.foldl (fun n b => 2 * n + b2n b) (a ^^^ x) =
    l.foldl (fun n b => 2 * n + b2n b) a ^^^ (x * 2 ^ l.length) := by
  induction l with
  | nil => intro a x; simp
  | cons b l ih =>
    intro a x
    rw [List.foldl_cons, List.foldl_cons, two_mul_xor, ih, List.length_cons, Nat.pow_succ]
    congr 1
    rw [Nat.mul_comm 2 x, Nat.mul_assoc, Nat.mul_comm 2]

/-- What one wrong bit does to a number. -/
theorem msbVal_flip (l : List Bool) : ∀ (a i : Nat), i < l.length → (l.set i (!l.getD i false)).foldl (fun n b => 2 * n + b2n b) a =
    l.foldl (fun n b => 2 * n + b2n b) a ^^^ 2 ^ (l.length - 1 - i) := by
  induction l with
  | nil => intro r i h; simp at h
  | cons b l ih =>
    intro a i h
    cases i with
    | zero =>
      have e : 2 * a + b2n (!b) = (2 * a + b2n b) ^^^ 1 := by
        apply Nat.eq_of_testBit_eq
        intro j
        cases j with
        | zero => cases b <;> simp [b2n] <;> omega
        | succ j =>
          rw [Nat.testBit_xor, Nat.testBit_succ, Nat.testBit_succ, Nat.testBit_succ]
          rw [show (2 * a + b2n !b) / 2 = a by cases b <;> simp [b2n] <;> omega, show (2 * a + b2n b) / 2 = a by cases b <;> simp [b2n] <;> omega]
          simp
      simp only [List.getD_cons_zero, List.set_cons_zero, List.foldl_cons, List.length_cons]
      rw [e, foldl_msb_xor]
      simp
    | succ i =>
      simp only [List.getD_cons_succ, List.set_cons_succ, List.foldl_cons, List.length_cons]
      rw [ih _ i (by simpa using h)]
      rw [show l.length + 1 - 1 - (i + 1) = l.length - 1 - i by omega]

/-- The syndrome of a frame's header check. -/
def syndrome (l : List Bool) : Nat := crc16 (l.take 160) ^^^ frameField l 160 16

/-- The syndrome of one wrong bit. -/
def bitSyndrome (i : Nat) : Nat := if i < 160 then zeroShift (159 - i) 0x1021 else 2 ^ (175 - i)

/-- The header check holds when its syndrome is 0. -/
theorem hcrcOk_iff (l : List Bool) : hcrcOk l = true ↔ syndrome l = 0 := by
  simp only [hcrcOk, syndrome, beq_iff_eq]
  constructor
  · intro h
    rw [h, Nat.xor_self]
  · intro h
    rw [← Nat.xor_zero (crc16 _), ← Nat.xor_self (frameField l 160 16), ← Nat.xor_assoc, h, Nat.zero_xor]

/-- What one wrong bit does to the syndrome. -/
theorem syndrome_flip (l : List Bool) (i : Nat) (h : i < 176) (hl : 176 ≤ l.length) :
    syndrome (l.set i (!l.getD i false)) = syndrome l ^^^ bitSyndrome i := by
  unfold syndrome bitSyndrome
  by_cases hi : i < 160
  · have h1 : (l.set i (!l.getD i false)).take 160 = (l.take 160).set i (!(l.take 160).getD i false) := by
      rw [List.take_set]
      congr 2
      simp [List.getD_eq_getElem?_getD, hi]
    have h2 : frameField (l.set i (!l.getD i false)) 160 16 = frameField l 160 16 := by
      unfold frameField
      rw [List.drop_set_of_lt (by omega)]
    rw [h1, h2, if_pos hi, crc16, crc16_flip _ _ _ (by rw [List.length_take]; omega), List.length_take]
    rw [show min 160 l.length - 1 - i = 159 - i by omega, crc16, Nat.xor_assoc, Nat.xor_comm (zeroShift _ _), ← Nat.xor_assoc]
  · have h1 : (l.set i (!l.getD i false)).take 160 = l.take 160 := by
      rw [List.take_set, List.set_eq_of_length_le (by rw [List.length_take]; omega)]
    have h2 : frameField (l.set i (!l.getD i false)) 160 16 = frameField l 160 16 ^^^ 2 ^ (175 - i) := by
      unfold frameField msbVal
      have : ((l.set i (!l.getD i false)).drop 160).take 16 = ((l.drop 160).take 16).set (i - 160) (!((l.drop 160).take 16).getD (i - 160) false) := by
        rw [List.drop_set, if_neg (by omega), List.take_set]
        congr 2
        simp only [List.getD_eq_getElem?_getD, List.getElem?_take, List.getElem?_drop]
        rw [if_pos (by omega), show 160 + (i - 160) = i by omega]
      rw [this, msbVal_flip _ _ _ (by rw [List.length_take, List.length_drop]; omega), List.length_take, List.length_drop]
      rw [show min 16 (l.length - 160) - 1 - (i - 160) = 175 - i by omega]
    rw [h1, h2, if_neg hi, Nat.xor_assoc]

/-- The syndromes of single bits differ. -/
theorem bitSyndrome_nodup : ((List.range 176).map bitSyndrome).Nodup := by decide +kernel

/-- No syndrome of a single bit is 0. -/
theorem bitSyndrome_ne : ∀ x ∈ (List.range 176).map bitSyndrome, x ≠ 0 := by decide +kernel

/-- The syndrome names the wrong bit. -/
theorem bitSyndrome_inj (i j : Nat) (hi : i < 176) (hj : j < 176) (h : bitSyndrome i = bitSyndrome j) : i = j := by
  have key : ∀ a b, a < b → b < 176 → bitSyndrome a ≠ bitSyndrome b := by
    intro a b hab hb
    have := List.pairwise_iff_getElem.mp bitSyndrome_nodup a b (by simp; omega) (by simp; omega) hab
    simpa using this
  rcases Nat.lt_trichotomy i j with hl | hl | hl
  · exact absurd h (key i j hl hj)
  · exact hl
  · exact absurd h.symm (key j i hl hi)

/-- A bit flipped twice. -/
theorem set_set_back (l : List Bool) (i : Nat) (h : i < l.length) :
    (l.set i (!l.getD i false)).set i (!(l.set i (!l.getD i false)).getD i false) = l := by
  apply List.ext_getElem?
  intro j
  simp only [List.set_set, List.getElem?_set, List.getD_eq_getElem?_getD]
  by_cases hj : i = j
  · subst hj
    simp [h]
  · simp [hj]

/-- A search that only one element ends. -/
theorem findSome_only {α β : Type} (f : α → Option β) (y : β) (i : α) (h : f i = some y) : ∀ l : List α, i ∈ l → (∀ j ∈ l, j ≠ i → f j = none) →
    l.findSome? f = some y
  | [], hm, _ => by simp at hm
  | a :: l, hm, hn => by
    classical
    by_cases ha : a = i
    · subst ha
      simp [h]
    · rw [List.findSome?_cons, hn a (List.mem_cons_self ..) ha]
      exact findSome_only f y i h l ((List.mem_cons.mp hm).resolve_left (fun e => ha e.symm)) (fun j hj => hn j (List.mem_cons_of_mem _ hj))

/-- Scrambling twice with the same sequence. -/
theorem xorBits_twice : ∀ l k : List Bool, l.length ≤ k.length → xorBits (xorBits l k) k = l
  | [], _, _ => rfl
  | a :: l, [], h => by simp at h
  | a :: l, b :: k, h => by
    have := xorBits_twice l k (by simpa using h)
    simp only [xorBits, List.zipWith_cons_cons] at *
    rw [this]
    cases a <;> cases b <;> rfl

/-- The sequence has the length asked. -/
theorem scrSeq_length : ∀ n g : Nat, (scrSeq n g).1.length = n
  | 0, _ => rfl
  | n + 1, g => by
    simp only [scrSeq, List.length_cons, scrSeq_length n]

/-- A CRC-16 is below 2^16. -/
theorem crc16_lt (l : List Bool) : crc16 l < 2 ^ 16 := by
  unfold crc16
  rw [← List.reverse_reverse l]
  cases l.reverse with
  | nil => decide
  | cons b r =>
    rw [List.reverse_cons, List.foldl_append]
    exact crc16Bit_lt _ _

/-- A CRC-32 is below 2^32. -/
theorem crc32Msb_lt (l : List Bool) : crc32Msb l < 2 ^ 32 := by
  unfold crc32Msb
  rw [← List.reverse_reverse l]
  cases l.reverse with
  | nil => decide
  | cons b r =>
    rw [List.reverse_cons, List.foldl_append]
    simp only [List.foldl_cons, List.foldl_nil]
    split
    · exact Nat.mod_lt _ (by decide)
    · exact Nat.xor_lt_two_pow (Nat.mod_lt _ (by decide)) (by decide)

/-- A field of a list of fields. -/
theorem field_of (a b c : List Bool) (n m : Nat) (ha : a.length = n) (hb : b.length = m) : frameField (a ++ b ++ c) n m = msbVal b := by
  subst ha hb
  rw [frameField, List.append_assoc, List.drop_left, List.take_left]

end Sys2Proof.Machine
end

