-- ==== Sys2Proof/Laws/Kept.lean ====
section
/-! SUPPORT. What no command breaks: the queue is left alone, time does not run back, tables and memories stay in canonical form; and, with
the parameter `true`, every addressed memory stays as it was. The rules below take a function of a state apart; the files that follow
state the law once for each function of the model. -/

namespace Sys2Proof.Machine

/-- What every command keeps from state s to state u; `m` says whether the addressed memories stay as they were too. -/
def Kept (m : Bool) (s u : State) : Prop :=
  u.pending = s.pending ∧ s.now ≤ u.now ∧ (s.memWf = true → u.memWf = true) ∧ (s.regsWf = true → u.regsWf = true) ∧
    (s.imagesWf = true → u.imagesWf = true) ∧
    (m = true → u.dram = s.dram ∧ u.feed = s.feed ∧ u.data = s.data ∧ u.mcMem = s.mcMem ∧ u.spareMem = s.spareMem)

variable {m : Bool}

/-- A state keeps itself. -/
theorem Kept.refl (s : State) : Kept m s s := ⟨rfl, Nat.le_refl _, id, id, id, fun _ => ⟨rfl, rfl, rfl, rfl, rfl⟩⟩

/-- Two steps that keep make one. -/
theorem Kept.trans {a b c : State} (h : Kept m a b) (k : Kept m b c) : Kept m a c :=
  ⟨k.1.trans h.1, Nat.le_trans h.2.1 k.2.1, fun x => k.2.2.1 (h.2.2.1 x), fun x => k.2.2.2.1 (h.2.2.2.1 x),
    fun x => k.2.2.2.2.1 (h.2.2.2.2.1 x), fun x => by
      obtain ⟨h1, h2, h3, h4, h5⟩ := h.2.2.2.2.2 x
      obtain ⟨k1, k2, k3, k4, k5⟩ := k.2.2.2.2.2 x
      exact ⟨k1.trans h1, k2.trans h2, k3.trans h3, k4.trans h4, k5.trans h5⟩⟩

/-- What keeps the memories keeps the rest. -/
theorem Kept.weaken {s u : State} (h : Kept true s u) : Kept m s u := ⟨h.1, h.2.1, h.2.2.1, h.2.2.2.1, h.2.2.2.2.1, fun _ => h.2.2.2.2.2 rfl⟩

/-- An outcome is a next state that keeps. -/
def KeptN (m : Bool) (s : State) (o : Host.Outcome State Fault Refusal) : Prop := ∃ u, o = .next u ∧ Kept m s u

/-- The state in an optional result keeps. -/
def KeptO {α : Type} (m : Bool) (s : State) (f : α → State) (o : Option α) : Prop := ∀ r, o = some r → Kept m s (f r)

/-- The owner named, if one is, keeps. -/
def KeptOO (m : Bool) (o : Option Owner) : Prop := ∀ f, o = some f → ∀ (s : State) (v : Nat) (u : State), Kept m s u → Kept m s (f v u).2

/-- The owner of images named, if one is, keeps. -/
def KeptOI (m : Bool) (o : Option (ImgOwner × Nat)) : Prop :=
  ∀ f, o = some f → ∀ (s : State) (i : List Byte) (t : Nat) (u : State), Kept m s u → Kept m s (f.1 i t u).2

/-! ### Taking a function apart -/

theorem Kept.ite {s a b : State} {c : Prop} [Decidable c] (ha : c → Kept m s a) (hb : ¬ c → Kept m s b) : Kept m s (if c then a else b) := by
  split
  · exact ha ‹_›
  · exact hb ‹_›

theorem Kept.ite_snd {α : Type} {s : State} {a b : α × State} {c : Prop} [Decidable c] (ha : c → Kept m s a.2) (hb : ¬ c → Kept m s b.2) :
    Kept m s (if c then a else b).2 := by
  split
  · exact ha ‹_›
  · exact hb ‹_›

theorem Kept.ite_snd2 {α β : Type} {s : State} {a b : α × β × State} {c : Prop} [Decidable c] (ha : c → Kept m s a.2.2)
    (hb : ¬ c → Kept m s b.2.2) : Kept m s (if c then a else b).2.2 := by
  split
  · exact ha ‹_›
  · exact hb ‹_›

theorem Kept.of_eq2 {α : Type} {s b : State} {a : α} {p : α × State} (e : p = (a, b)) (h : Kept m s p.2) : Kept m s b := by
  subst e
  exact h

theorem Kept.of_eq3 {α β : Type} {s b : State} {a : α} {c : β} {p : α × β × State} (e : p = (a, c, b)) (h : Kept m s p.2.2) : Kept m s b := by
  subst e
  exact h

theorem Kept.foldl {α : Type} {s : State} (f : State → α → State) (hf : ∀ u x, Kept m s u → Kept m s (f u x)) :
    ∀ (l : List α) (u : State), Kept m s u → Kept m s (l.foldl f u)
  | [], _, h => h
  | x :: r, u, h => Kept.foldl f hf r (f u x) (hf u x h)

theorem Kept.foldl2 {α β : Type} {s : State} (f : β × State → α → β × State) (hf : ∀ u x, Kept m s u.2 → Kept m s (f u x).2) :
    ∀ (l : List α) (u : β × State), Kept m s u.2 → Kept m s (l.foldl f u).2
  | [], _, h => h
  | x :: r, u, h => Kept.foldl2 f hf r (f u x) (hf u x h)

theorem Kept.repeat {s : State} (f : State → State) (hf : ∀ u, Kept m s u → Kept m s (f u)) :
    ∀ (n : Nat) (u : State), Kept m s u → Kept m s (Nat.repeat f n u)
  | 0, _, h => h
  | n + 1, u, h => hf _ (Kept.repeat f hf n u h)

theorem KeptN.next {s u : State} (h : Kept m s u) : KeptN m s (.next u) := ⟨u, rfl, h⟩

theorem KeptN.ite {s : State} {a b : Host.Outcome State Fault Refusal} {c : Prop} [Decidable c] (ha : c → KeptN m s a)
    (hb : ¬ c → KeptN m s b) : KeptN m s (if c then a else b) := by
  split
  · exact ha ‹_›
  · exact hb ‹_›

theorem KeptO.none {α : Type} {s : State} {f : α → State} : KeptO m s f none := fun _ h => nomatch h

theorem KeptO.some {α : Type} {s : State} {f : α → State} {r : α} (h : Kept m s (f r)) : KeptO m s f (some r) := by
  intro r h
  cases h
  assumption

theorem KeptO.bind {α β : Type} {s : State} {f : α → State} {o : Option β} {g : β → Option α} (h : ∀ a, KeptO m s f (g a)) :
    KeptO m s f (o.bind g) := by
  cases o
  · exact KeptO.none
  · exact h _

theorem KeptO.map {α β : Type} {s : State} {f : α → State} {o : Option β} {g : β → α} (h : ∀ a, o = .some a → Kept m s (f (g a))) :
    KeptO m s f (o.map g) := by
  intro r e
  cases o with
  | none => cases e
  | some a =>
    cases e
    exact h a rfl

theorem KeptO.ite {α : Type} {s : State} {f : α → State} {a b : Option α} {c : Prop} [Decidable c] (ha : c → KeptO m s f a)
    (hb : ¬ c → KeptO m s f b) : KeptO m s f (if c then a else b) := by
  split
  · exact ha ‹_›
  · exact hb ‹_›

theorem KeptO.atp {α : Type} {s : State} {p : α × State} {o : Option (α × State)} (e : o = .some p) (h : KeptO m s Prod.snd o) :
    Kept m s p.2 := h _ e

theorem KeptO.at2 {α : Type} {s b : State} {a : α} {p : Option (α × State)} (e : p = .some (a, b)) (h : KeptO m s Prod.snd p) :
    Kept m s b := h _ e

theorem KeptO.at3 {α β : Type} {s b : State} {a : α} {c : β} {p : Option (α × β × State)} (e : p = .some (a, c, b))
    (h : KeptO m s (fun r => r.2.2) p) : Kept m s b := h _ e

theorem KeptOO.none : KeptOO m none := fun _ h => nomatch h

theorem KeptOO.some {f : Owner} (h : ∀ (s : State) (v : Nat) (u : State), Kept m s u → Kept m s (f v u).2) : KeptOO m (some f) := by
  intro g e
  cases e
  exact h

theorem KeptOO.ite {a b : Option (Owner)} {c : Prop} [Decidable c] (ha : c → KeptOO m a) (hb : ¬ c → KeptOO m b) :
    KeptOO m (if c then a else b) := by
  split
  · exact ha ‹_›
  · exact hb ‹_›

theorem KeptOO.at {o : Option (Owner)} {f : Owner} {s u : State} {v : Nat} (e : o = .some f)
    (h : KeptOO m o) (hk : Kept m s u) : Kept m s (f v u).2 := h _ e _ _ _ hk

theorem KeptOI.none : KeptOI m none := fun _ h => nomatch h

theorem KeptOI.some {f : ImgOwner} {n : Nat} (h : ∀ (s : State) (i : List Byte) (t : Nat) (u : State), Kept m s u → Kept m s (f i t u).2) : KeptOI m (some (f, n)) := by
  intro g e
  cases e
  exact h

theorem KeptOI.ite {a b : Option (ImgOwner × Nat)} {c : Prop} [Decidable c] (ha : c → KeptOI m a) (hb : ¬ c → KeptOI m b) :
    KeptOI m (if c then a else b) := by
  split
  · exact ha ‹_›
  · exact hb ‹_›

theorem KeptOI.at {o : Option (ImgOwner × Nat)} {f : ImgOwner} {n : Nat} {s u : State} {i : List Byte} {t : Nat} (e : o = .some (f, n))
    (h : KeptOI m o) (hk : Kept m s u) : Kept m s (f i t u).2 := h _ e _ _ _ _ hk


/-! ### Changing fields -/

/-- Registers go through `setReg`. -/
theorem Kept.setReg {s u : State} (h : Kept m s u) (o v : Nat) : Kept m s (u.setReg o v) :=
  ⟨h.1, h.2.1, h.2.2.1, fun x => State.setReg_regsWf u o v (h.2.2.2.1 x), h.2.2.2.2⟩

/-- Images go through `setImage`. -/
theorem Kept.setImage {s u : State} (h : Kept m s u) (o : Nat) (b : List Byte) : Kept m s (u.setImage o b) :=
  ⟨h.1, h.2.1, h.2.2.1, h.2.2.2.1, fun x => State.setImage_imagesWf u o b (h.2.2.2.2.1 x), h.2.2.2.2.2⟩

/-- Time goes through `tickTo`. -/
theorem Kept.tickTo {s u : State} (h : Kept m s u) (t : Nat) : Kept m s (u.tickTo t) :=
  ⟨h.1, Nat.le_trans h.2.1 (Nat.le_max_left _ _), h.2.2.1, h.2.2.2.1, h.2.2.2.2⟩

/-- A state that differs in ways each of which keeps its part. -/
theorem Kept.memOf {s u w : State} (h : Kept false s u) (hp : w.pending = u.pending) (hn : u.now ≤ w.now)
    (h1 : Memory.wf u.dram = true → Memory.wf w.dram = true) (h2 : Memory.wf u.feed = true → Memory.wf w.feed = true)
    (h3 : Memory.wf u.data = true → Memory.wf w.data = true) (h4 : Memory.wf u.mcMem = true → Memory.wf w.mcMem = true)
    (h5 : Memory.wf u.spareMem = true → Memory.wf w.spareMem = true) (hr : u.regsWf = true → w.regsWf = true)
    (hi : u.imagesWf = true → w.imagesWf = true) : Kept false s w := by
  refine ⟨hp.trans h.1, Nat.le_trans h.2.1 hn, fun x => ?_, fun x => hr (h.2.2.2.1 x), fun x => hi (h.2.2.2.2.1 x), fun x => nomatch x⟩
  have k := h.2.2.1 x
  simp only [State.memWf, Bool.and_eq_true] at k ⊢
  exact ⟨⟨⟨⟨h1 k.1.1.1.1, h2 k.1.1.1.2⟩, h3 k.1.1.2⟩, h4 k.1.2⟩, h5 k.2⟩

/-- Memories, registers, images, the queue and time may only be replaced in ways that keep. -/
theorem Kept.tabOf {s u w : State} (h : Kept m s u) (hp : w.pending = u.pending) (hn : u.now ≤ w.now) (h1 : w.dram = u.dram)
    (h2 : w.feed = u.feed) (h3 : w.data = u.data) (h4 : w.mcMem = u.mcMem) (h5 : w.spareMem = u.spareMem)
    (hr : u.regsWf = true → w.regsWf = true) (hi : u.imagesWf = true → w.imagesWf = true) : Kept m s w := by
  refine ⟨hp.trans h.1, Nat.le_trans h.2.1 hn, fun x => ?_, fun x => hr (h.2.2.2.1 x), fun x => hi (h.2.2.2.2.1 x), fun x => ?_⟩
  · have k := h.2.2.1 x
    simpa only [State.memWf, h1, h2, h3, h4, h5] using k
  · rw [h1, h2, h3, h4, h5]
    exact h.2.2.2.2.2 x

/-- A memory equal to one in canonical form is in canonical form. -/
theorem Memory.ofWf {a b : List Host.Cell} (h : Memory.wf a = true) (e : a = b) : Memory.wf b = true := e ▸ h

/-- A state from its fields, opaque to the rules below. -/
def State.built (pending : List Instr) (now : Nat) (resetAt : Nat) (porAt : Option Nat) (draws : Nat) (regs : Tbl Nat) (images : Tbl (List
    Byte)) (past : Tbl (List (Nat × List Byte))) (xfers : Tbl (Option Xfer)) (aliasWins : Tbl AliasWin) (held : Tbl Held) (staged : Tbl
    (List Byte)) (flagCycle : Tbl Nat) (irqs : Tbl Nat) (reply : Reply) (sent : List Sent) (sessions : Tbl Session) (streams : Tbl Stream)
    (ctls : Tbl CtlState) (offerAt : Nat) (windowAt : Nat) (ttOff : Nat) (marker : Marker) (scheds : Tbl (Option Sched)) (ptp : Tbl Ptp)
    (act : Timeline) (trigs : Tbl Trig) (queues : Tbl Queue) (qports : Tbl QPort) (fcs : Tbl FcUnit) (siteFails : Tbl Nat) (reps : Tbl
    RepUnit) (hunits : Tbl HUnit) (hlines : Tbl HLine) (hsamples : Tbl HSample) (hbits : List HBit) (hports : Tbl HPort) (chans : Tbl Chan)
    (sers : Tbl SerLane) (yards : Tbl YPort) (wakeIn : Nat) (clk : ClkMon) (dbg : DebugState) (seq : Sequencer) (resetting : List Nat) (hot
    : Bool) (tripped : Bool) (cfg : CfgPort) (pads : Tbl Pad) (live : Tbl (List Byte)) (shadow : Tbl (List Byte)) (refs : Tbl Nat)
    (hostAudit : Option Audit) (autoAudit : Option Audit) (autoNext : Nat) (autoAt : Nat) (ffs : Tbl Bool) (wregs : Tbl Bool) (macs : Tbl
    MacRegs) (bram : Tbl Nat) (bramUpset : Tbl Nat) (bramOut : Tbl BmOut) (bramRepair : Tbl (List Nat)) (flPorts : Tbl FlPort) (rxBuf : Tbl
    (List (Nat × Nat))) (rxOut : Tbl (Option (Nat × Nat))) (ttPorts : Tbl Nat) (ttEdge : Nat) (gpios : Tbl GpioPad) (fabAt : Nat) (pulses :
    Tbl Nat) (stops : Tbl NetStop) (netResvs : Tbl NetResv) (pkts : List NetPkt) (txns : Nat) (netAt : Nat) (engines : Tbl Engine) (clusters
    : Tbl Cluster) (progPatch : Tbl (Option Nat)) (spareMem : List Host.Cell) (data : List Host.Cell) (feed : List Host.Cell) (badWords :
    Tbl Bool) (upWords : Tbl Bool) (hardBad : Tbl Bool) (lostLines : Tbl Bool) (mcMem : List Host.Cell) (marchAt : Option Nat) (patrol :
    Patrol) (dram : List Host.Cell) (regionInit : Tbl Bool) (reenc : Tbl (Option MemReq)) (memWait : List MemReq) (walkAborting : Bool)
    (dqDelay : Tbl Int) (retrainAt : Tbl Nat) (zqAt : Tbl Nat) (memInitAt : Nat) (memStep1 : Tbl Bool) (refresh : Tbl (Nat × Nat)) (tagCache
    : Tbl (List TagLine)) (grind : Tbl GrindPort) (mcAt : Nat) (traceBuf : Tbl Nat) (traceFifo : List Nat) (traceAt : Nat) (traceCount :
    Nat) (traceLossPending : Nat) : State :=
  ⟨pending, now, resetAt, porAt, draws, regs, images, past, xfers, aliasWins, held, staged, flagCycle, irqs, reply, sent, sessions, streams,
    ctls, offerAt, windowAt, ttOff, marker, scheds, ptp, act, trigs, queues, qports, fcs, siteFails, reps, hunits, hlines, hsamples, hbits,
    hports, chans, sers, yards, wakeIn, clk, dbg, seq, resetting, hot, tripped, cfg, pads, live, shadow, refs, hostAudit, autoAudit,
    autoNext, autoAt, ffs, wregs, macs, bram, bramUpset, bramOut, bramRepair, flPorts, rxBuf, rxOut, ttPorts, ttEdge, gpios, fabAt, pulses,
    stops, netResvs, pkts, txns, netAt, engines, clusters, progPatch, spareMem, data, feed, badWords, upWords, hardBad, lostLines, mcMem,
    marchAt, patrol, dram, regionInit, reenc, memWait, walkAborting, dqDelay, retrainAt, zqAt, memInitAt, memStep1, refresh, tagCache,
    grind, mcAt, traceBuf, traceFifo, traceAt, traceCount, traceLossPending⟩

theorem State.mk_built (pending : List Instr) (now : Nat) (resetAt : Nat) (porAt : Option Nat) (draws : Nat) (regs : Tbl Nat) (images : Tbl
    (List Byte)) (past : Tbl (List (Nat × List Byte))) (xfers : Tbl (Option Xfer)) (aliasWins : Tbl AliasWin) (held : Tbl Held) (staged :
    Tbl (List Byte)) (flagCycle : Tbl Nat) (irqs : Tbl Nat) (reply : Reply) (sent : List Sent) (sessions : Tbl Session) (streams : Tbl
    Stream) (ctls : Tbl CtlState) (offerAt : Nat) (windowAt : Nat) (ttOff : Nat) (marker : Marker) (scheds : Tbl (Option Sched)) (ptp : Tbl
    Ptp) (act : Timeline) (trigs : Tbl Trig) (queues : Tbl Queue) (qports : Tbl QPort) (fcs : Tbl FcUnit) (siteFails : Tbl Nat) (reps : Tbl
    RepUnit) (hunits : Tbl HUnit) (hlines : Tbl HLine) (hsamples : Tbl HSample) (hbits : List HBit) (hports : Tbl HPort) (chans : Tbl Chan)
    (sers : Tbl SerLane) (yards : Tbl YPort) (wakeIn : Nat) (clk : ClkMon) (dbg : DebugState) (seq : Sequencer) (resetting : List Nat) (hot
    : Bool) (tripped : Bool) (cfg : CfgPort) (pads : Tbl Pad) (live : Tbl (List Byte)) (shadow : Tbl (List Byte)) (refs : Tbl Nat)
    (hostAudit : Option Audit) (autoAudit : Option Audit) (autoNext : Nat) (autoAt : Nat) (ffs : Tbl Bool) (wregs : Tbl Bool) (macs : Tbl
    MacRegs) (bram : Tbl Nat) (bramUpset : Tbl Nat) (bramOut : Tbl BmOut) (bramRepair : Tbl (List Nat)) (flPorts : Tbl FlPort) (rxBuf : Tbl
    (List (Nat × Nat))) (rxOut : Tbl (Option (Nat × Nat))) (ttPorts : Tbl Nat) (ttEdge : Nat) (gpios : Tbl GpioPad) (fabAt : Nat) (pulses :
    Tbl Nat) (stops : Tbl NetStop) (netResvs : Tbl NetResv) (pkts : List NetPkt) (txns : Nat) (netAt : Nat) (engines : Tbl Engine) (clusters
    : Tbl Cluster) (progPatch : Tbl (Option Nat)) (spareMem : List Host.Cell) (data : List Host.Cell) (feed : List Host.Cell) (badWords :
    Tbl Bool) (upWords : Tbl Bool) (hardBad : Tbl Bool) (lostLines : Tbl Bool) (mcMem : List Host.Cell) (marchAt : Option Nat) (patrol :
    Patrol) (dram : List Host.Cell) (regionInit : Tbl Bool) (reenc : Tbl (Option MemReq)) (memWait : List MemReq) (walkAborting : Bool)
    (dqDelay : Tbl Int) (retrainAt : Tbl Nat) (zqAt : Tbl Nat) (memInitAt : Nat) (memStep1 : Tbl Bool) (refresh : Tbl (Nat × Nat)) (tagCache
    : Tbl (List TagLine)) (grind : Tbl GrindPort) (mcAt : Nat) (traceBuf : Tbl Nat) (traceFifo : List Nat) (traceAt : Nat) (traceCount :
    Nat) (traceLossPending : Nat) : State.mk pending now resetAt porAt draws regs images past xfers aliasWins held staged flagCycle irqs
    reply sent sessions streams ctls offerAt windowAt ttOff marker scheds ptp act trigs queues qports fcs siteFails reps hunits hlines
    hsamples hbits hports chans sers yards wakeIn clk dbg seq resetting hot tripped cfg pads live shadow refs hostAudit autoAudit autoNext
    autoAt ffs wregs macs bram bramUpset bramOut bramRepair flPorts rxBuf rxOut ttPorts ttEdge gpios fabAt pulses stops netResvs pkts txns
    netAt engines clusters progPatch spareMem data feed badWords upWords hardBad lostLines mcMem marchAt patrol dram regionInit reenc
    memWait walkAborting dqDelay retrainAt zqAt memInitAt memStep1 refresh tagCache grind mcAt traceBuf traceFifo traceAt traceCount
    traceLossPending = State.built pending now resetAt porAt draws regs images past xfers aliasWins held staged flagCycle irqs reply sent
    sessions streams ctls offerAt windowAt ttOff marker scheds ptp act trigs queues qports fcs siteFails reps hunits hlines hsamples hbits
    hports chans sers yards wakeIn clk dbg seq resetting hot tripped cfg pads live shadow refs hostAudit autoAudit autoNext autoAt ffs wregs
    macs bram bramUpset bramOut bramRepair flPorts rxBuf rxOut ttPorts ttEdge gpios fabAt pulses stops netResvs pkts txns netAt engines
    clusters progPatch spareMem data feed badWords upWords hardBad lostLines mcMem marchAt patrol dram regionInit reenc memWait walkAborting
    dqDelay retrainAt zqAt memInitAt memStep1 refresh tagCache grind mcAt traceBuf traceFifo traceAt traceCount traceLossPending := rfl

/-- Every other field may change at will. -/
theorem Kept.upd {s u : State} (h : Kept m s u) {resetAt : Nat} {porAt : Option Nat} {draws : Nat} {past : Tbl (List (Nat × List Byte))}
    {xfers : Tbl (Option Xfer)} {aliasWins : Tbl AliasWin} {held : Tbl Held} {staged : Tbl (List Byte)} {flagCycle : Tbl Nat} {irqs : Tbl
    Nat} {reply : Reply} {sent : List Sent} {sessions : Tbl Session} {streams : Tbl Stream} {ctls : Tbl CtlState} {offerAt : Nat} {windowAt
    : Nat} {ttOff : Nat} {marker : Marker} {scheds : Tbl (Option Sched)} {ptp : Tbl Ptp} {act : Timeline} {trigs : Tbl Trig} {queues : Tbl
    Queue} {qports : Tbl QPort} {fcs : Tbl FcUnit} {siteFails : Tbl Nat} {reps : Tbl RepUnit} {hunits : Tbl HUnit} {hlines : Tbl HLine}
    {hsamples : Tbl HSample} {hbits : List HBit} {hports : Tbl HPort} {chans : Tbl Chan} {sers : Tbl SerLane} {yards : Tbl YPort} {wakeIn :
    Nat} {clk : ClkMon} {dbg : DebugState} {seq : Sequencer} {resetting : List Nat} {hot : Bool} {tripped : Bool} {cfg : CfgPort} {pads :
    Tbl Pad} {live : Tbl (List Byte)} {shadow : Tbl (List Byte)} {refs : Tbl Nat} {hostAudit : Option Audit} {autoAudit : Option Audit}
    {autoNext : Nat} {autoAt : Nat} {ffs : Tbl Bool} {wregs : Tbl Bool} {macs : Tbl MacRegs} {bram : Tbl Nat} {bramUpset : Tbl Nat} {bramOut
    : Tbl BmOut} {bramRepair : Tbl (List Nat)} {flPorts : Tbl FlPort} {rxBuf : Tbl (List (Nat × Nat))} {rxOut : Tbl (Option (Nat × Nat))}
    {ttPorts : Tbl Nat} {ttEdge : Nat} {gpios : Tbl GpioPad} {fabAt : Nat} {pulses : Tbl Nat} {stops : Tbl NetStop} {netResvs : Tbl NetResv}
    {pkts : List NetPkt} {txns : Nat} {netAt : Nat} {engines : Tbl Engine} {clusters : Tbl Cluster} {progPatch : Tbl (Option Nat)} {badWords
    : Tbl Bool} {upWords : Tbl Bool} {hardBad : Tbl Bool} {lostLines : Tbl Bool} {marchAt : Option Nat} {patrol : Patrol} {regionInit : Tbl
    Bool} {reenc : Tbl (Option MemReq)} {memWait : List MemReq} {walkAborting : Bool} {dqDelay : Tbl Int} {retrainAt : Tbl Nat} {zqAt : Tbl
    Nat} {memInitAt : Nat} {memStep1 : Tbl Bool} {refresh : Tbl (Nat × Nat)} {tagCache : Tbl (List TagLine)} {grind : Tbl GrindPort} {mcAt :
    Nat} {traceBuf : Tbl Nat} {traceFifo : List Nat} {traceAt : Nat} {traceCount : Nat} {traceLossPending : Nat} : Kept m s (State.built
    u.pending u.now resetAt porAt draws u.regs u.images past xfers aliasWins held staged flagCycle irqs reply sent sessions streams ctls
    offerAt windowAt ttOff marker scheds ptp act trigs queues qports fcs siteFails reps hunits hlines hsamples hbits hports chans sers yards
    wakeIn clk dbg seq resetting hot tripped cfg pads live shadow refs hostAudit autoAudit autoNext autoAt ffs wregs macs bram bramUpset
    bramOut bramRepair flPorts rxBuf rxOut ttPorts ttEdge gpios fabAt pulses stops netResvs pkts txns netAt engines clusters progPatch
    u.spareMem u.data u.feed badWords upWords hardBad lostLines u.mcMem marchAt patrol u.dram regionInit reenc memWait walkAborting dqDelay
    retrainAt zqAt memInitAt memStep1 refresh tagCache grind mcAt traceBuf traceFifo traceAt traceCount traceLossPending) := h

/-- A memory may be replaced by one in canonical form. -/
theorem Kept.mem {s u : State} (h : Kept false s u) {resetAt : Nat} {porAt : Option Nat} {draws : Nat} {past : Tbl (List (Nat × List Byte))}
    {xfers : Tbl (Option Xfer)} {aliasWins : Tbl AliasWin} {held : Tbl Held} {staged : Tbl (List Byte)} {flagCycle : Tbl Nat} {irqs : Tbl
    Nat} {reply : Reply} {sent : List Sent} {sessions : Tbl Session} {streams : Tbl Stream} {ctls : Tbl CtlState} {offerAt : Nat} {windowAt
    : Nat} {ttOff : Nat} {marker : Marker} {scheds : Tbl (Option Sched)} {ptp : Tbl Ptp} {act : Timeline} {trigs : Tbl Trig} {queues : Tbl
    Queue} {qports : Tbl QPort} {fcs : Tbl FcUnit} {siteFails : Tbl Nat} {reps : Tbl RepUnit} {hunits : Tbl HUnit} {hlines : Tbl HLine}
    {hsamples : Tbl HSample} {hbits : List HBit} {hports : Tbl HPort} {chans : Tbl Chan} {sers : Tbl SerLane} {yards : Tbl YPort} {wakeIn :
    Nat} {clk : ClkMon} {dbg : DebugState} {seq : Sequencer} {resetting : List Nat} {hot : Bool} {tripped : Bool} {cfg : CfgPort} {pads :
    Tbl Pad} {live : Tbl (List Byte)} {shadow : Tbl (List Byte)} {refs : Tbl Nat} {hostAudit : Option Audit} {autoAudit : Option Audit}
    {autoNext : Nat} {autoAt : Nat} {ffs : Tbl Bool} {wregs : Tbl Bool} {macs : Tbl MacRegs} {bram : Tbl Nat} {bramUpset : Tbl Nat} {bramOut
    : Tbl BmOut} {bramRepair : Tbl (List Nat)} {flPorts : Tbl FlPort} {rxBuf : Tbl (List (Nat × Nat))} {rxOut : Tbl (Option (Nat × Nat))}
    {ttPorts : Tbl Nat} {ttEdge : Nat} {gpios : Tbl GpioPad} {fabAt : Nat} {pulses : Tbl Nat} {stops : Tbl NetStop} {netResvs : Tbl NetResv}
    {pkts : List NetPkt} {txns : Nat} {netAt : Nat} {engines : Tbl Engine} {clusters : Tbl Cluster} {progPatch : Tbl (Option Nat)} {badWords
    : Tbl Bool} {upWords : Tbl Bool} {hardBad : Tbl Bool} {lostLines : Tbl Bool} {marchAt : Option Nat} {patrol : Patrol} {regionInit : Tbl
    Bool} {reenc : Tbl (Option MemReq)} {memWait : List MemReq} {walkAborting : Bool} {dqDelay : Tbl Int} {retrainAt : Tbl Nat} {zqAt : Tbl
    Nat} {memInitAt : Nat} {memStep1 : Tbl Bool} {refresh : Tbl (Nat × Nat)} {tagCache : Tbl (List TagLine)} {grind : Tbl GrindPort} {mcAt :
    Nat} {traceBuf : Tbl Nat} {traceFifo : List Nat} {traceAt : Nat} {traceCount : Nat} {traceLossPending : Nat} {spareMem : List Host.Cell}
    {data : List Host.Cell} {feed : List Host.Cell} {mcMem : List Host.Cell} {dram : List Host.Cell} (h_spareMem : Memory.wf u.spareMem =
    true → Memory.wf spareMem = true) (h_data : Memory.wf u.data = true → Memory.wf data = true) (h_feed : Memory.wf u.feed = true →
    Memory.wf feed = true) (h_mcMem : Memory.wf u.mcMem = true → Memory.wf mcMem = true) (h_dram : Memory.wf u.dram = true → Memory.wf dram
    = true) : Kept false s (State.built u.pending u.now resetAt porAt draws u.regs u.images past xfers aliasWins held staged flagCycle irqs
    reply sent sessions streams ctls offerAt windowAt ttOff marker scheds ptp act trigs queues qports fcs siteFails reps hunits hlines
    hsamples hbits hports chans sers yards wakeIn clk dbg seq resetting hot tripped cfg pads live shadow refs hostAudit autoAudit autoNext
    autoAt ffs wregs macs bram bramUpset bramOut bramRepair flPorts rxBuf rxOut ttPorts ttEdge gpios fabAt pulses stops netResvs pkts txns
    netAt engines clusters progPatch spareMem data feed badWords upWords hardBad lostLines mcMem marchAt patrol dram regionInit reenc
    memWait walkAborting dqDelay retrainAt zqAt memInitAt memStep1 refresh tagCache grind mcAt traceBuf traceFifo traceAt traceCount
    traceLossPending) := h.memOf rfl (Nat.le_refl _) h_dram h_feed h_data h_mcMem h_spareMem id id

end Sys2Proof.Machine
end

