-- ==== Sys2Proof/Laws/KeptBasics.lean ====
section
/-! SUPPORT. Basic operations, the dictionary forms, tester time and the frames sent: what every function of a state keeps (`Kept`), one law a function, and one a command. Laws with the
parameter `mm` hold with the addressed memories unchanged too; those with `false` are of the functions that may write one. -/

namespace Sys2Proof.Machine

theorem State.setBool_kept {mm : Bool} {sK : State} (s : State) (o : Nat) (b : Bool) (hk : Kept mm sK s) : Kept mm sK (State.setBool s o b) := by
  unfold State.setBool
  repeat' with_reducible first | assumption | apply Kept.setReg

theorem State.bump_kept {mm : Bool} {sK : State} (s : State) (o n : Nat) (hk : Kept mm sK s) : Kept mm sK (State.bump s o n) := by
  unfold State.bump
  repeat' with_reducible first | assumption | apply Kept.setReg

theorem State.raiseMax_kept {mm : Bool} {sK : State} (s : State) (o v : Nat) (hk : Kept mm sK s) : Kept mm sK (State.raiseMax s o v) := by
  unfold State.raiseMax
  repeat' with_reducible first | assumption | refine Kept.ite (fun _ => ?_) (fun _ => ?_) | apply Kept.setReg

theorem State.swapImage_kept {mm : Bool} {sK : State} (s : State) (o w : Nat) (b : List Byte) (hk : Kept mm sK s) : Kept mm sK
    (State.swapImage s o w b) := by
  unfold State.swapImage
  repeat' with_reducible first | assumption | apply Kept.setImage | (rw [State.mk_built]; apply Kept.upd)

theorem State.pulse_kept {mm : Bool} {sK : State} (s : State) (q v : Nat) (hk : Kept mm sK s) : Kept mm sK (State.pulse s q v) := by
  unfold State.pulse
  repeat' with_reducible first | assumption | (rw [State.mk_built]; apply Kept.upd)

theorem State.chanPulse_kept {mm : Bool} {sK : State} (s : State) (ch k : Nat) (hk : Kept mm sK s) : Kept mm sK (State.chanPulse s ch k) := by
  unfold State.chanPulse
  repeat' with_reducible first | assumption | apply State.pulse_kept

theorem State.engPulse_kept {mm : Bool} {sK : State} (s : State) (e k : Nat) (hk : Kept mm sK s) : Kept mm sK (State.engPulse s e k) := by
  unfold State.engPulse
  repeat' with_reducible first | assumption | apply State.pulse_kept

theorem State.drawNat_kept {mm : Bool} {sK : State} (s : State) (hk : Kept mm sK s) : Kept mm sK (State.drawNat s).2 := by
  unfold State.drawNat
  repeat' with_reducible first | assumption | (rw [State.mk_built]; apply Kept.upd)

theorem State.drawBool_kept {mm : Bool} {sK : State} (s : State) (hk : Kept mm sK s) : Kept mm sK (State.drawBool s).2 := by
  unfold State.drawBool
  repeat' with_reducible first | assumption | (rw [State.mk_built]; apply Kept.upd)

theorem State.drawBytes_kept {mm : Bool} {sK : State} (s : State) (n : Nat) (hk : Kept mm sK s) : Kept mm sK (State.drawBytes s n).2 := by
  unfold State.drawBytes
  repeat' with_reducible first | assumption | (rw [State.mk_built]; apply Kept.upd)

theorem State.setFlag_kept {mm : Bool} {sK : State} (s : State) (o b cnt n : Nat) (hk : Kept mm sK s) : Kept mm sK (State.setFlag s o b cnt
    n) := by
  unfold State.setFlag
  repeat' with_reducible first
      | assumption | refine Kept.ite (fun _ => ?_) (fun _ => ?_) | apply Kept.setReg | apply State.bump_kept
      | (rw [State.mk_built]; apply Kept.upd)

theorem State.clearFlags_kept {mm : Bool} {sK : State} (s : State) (o v : Nat) (hk : Kept mm sK s) : Kept mm sK (State.clearFlags s o v) := by
  unfold State.clearFlags
  repeat' with_reducible first | assumption | apply Kept.setReg

theorem State.fault_kept {mm : Bool} {sK : State} (s : State) (n : Nat) (hk : Kept mm sK s) : Kept mm sK (State.fault s n) := by
  unfold State.fault
  repeat' with_reducible first | assumption | apply State.setFlag_kept

theorem State.recovery_kept {mm : Bool} {sK : State} (s : State) (n : Nat) (b : Bool) (hk : Kept mm sK s) : Kept mm sK (State.recovery s n
    b) := by
  unfold State.recovery
  repeat' with_reducible first | assumption | apply Kept.setReg

theorem State.setBad_kept {mm : Bool} {sK : State} (s : State) (target array w n : Nat) (b : Bool) (hk : Kept mm sK s) : Kept mm sK
    (State.setBad s target array w n b) := by
  unfold State.setBad
  repeat' with_reducible first | assumption | (rw [State.mk_built]; apply Kept.upd)

theorem State.freshWords_kept {mm : Bool} {sK : State} (s : State) (f : Nat → Nat → Nat → Bool) (hk : Kept mm sK s) : Kept mm sK
    (State.freshWords s f) := by
  unfold State.freshWords
  repeat' with_reducible first | assumption | (rw [State.mk_built]; apply Kept.upd)

theorem State.upset_kept {mm : Bool} {sK : State} (s : State) (target array word : Nat) (hk : Kept mm sK s) : Kept mm sK (State.upset s
    target array word) := by
  unfold State.upset
  repeat' with_reducible first
      | assumption | refine Kept.ite (fun _ => ?_) (fun _ => ?_) | apply State.setBad_kept | (rw [State.mk_built]; apply Kept.upd)

theorem State.bumpImage_kept {mm : Bool} {sK : State} (s : State) (o i n : Nat) (hk : Kept mm sK s) : Kept mm sK (State.bumpImage s o i n) := by
  unfold State.bumpImage
  repeat' with_reducible first | assumption | apply Kept.setImage

theorem State.sramRead_kept {mm : Bool} {sK : State} (s : State) (target array word n : Nat) (hk : Kept mm sK s) : Kept mm sK
    (State.sramRead s target array word n) := by
  unfold State.sramRead
  repeat' with_reducible first | assumption | refine Kept.ite (fun _ => ?_) (fun _ => ?_) | apply State.bumpImage_kept

theorem State.sramBad_kept {mm : Bool} {sK : State} (s : State) (target : Nat) (hk : Kept mm sK s) : Kept mm sK (State.sramBad s target) := by
  unfold State.sramBad
  repeat' with_reducible first | assumption | apply State.bumpImage_kept | apply State.setFlag_kept | apply State.fault_kept

theorem State.raise_kept {mm : Bool} {sK : State} (s : State) (i : Irq) (unit : Nat) (c : Ctl) (hk : Kept mm sK s) : Kept mm sK (State.raise
    s i unit c) := by
  unfold State.raise
  repeat' with_reducible first | assumption | (rw [State.mk_built]; apply Kept.upd)

theorem State.wakeAt_kept {mm : Bool} {sK : State} (s : State) (b : Nat) (hk : Kept mm sK s) : Kept mm sK (State.wakeAt s b) := by
  unfold State.wakeAt
  repeat' with_reducible first | assumption | (rw [State.mk_built]; apply Kept.upd)

theorem State.ledAdd_kept {mm : Bool} {sK : State} (s : State) (l k n : Nat) (hk : Kept mm sK s) : Kept mm sK (State.ledAdd s l k n) := by
  unfold State.ledAdd
  repeat' with_reducible first | assumption | apply State.bump_kept

theorem State.ledSub_kept {mm : Bool} {sK : State} (s : State) (l k n : Nat) (hk : Kept mm sK s) : Kept mm sK (State.ledSub s l k n) := by
  unfold State.ledSub
  repeat' with_reducible first | assumption | apply Kept.setReg

theorem State.ledMove_kept {mm : Bool} {sK : State} (s : State) (l i j n : Nat) (hk : Kept mm sK s) : Kept mm sK (State.ledMove s l i j n) := by
  unfold State.ledMove
  repeat' with_reducible first | assumption | apply State.ledSub_kept | apply State.ledAdd_kept

theorem State.countEvent_kept {mm : Bool} {sK : State} (s : State) (cls unit ev n : Nat) (hk : Kept mm sK s) : Kept mm sK (State.countEvent
    s cls unit ev n) := by
  unfold State.countEvent
  repeat' with_reducible first
      | assumption | refine Kept.ite (fun _ => ?_) (fun _ => ?_) | refine Kept.foldl _ (fun _ _ _ => ?_) _ _ ?_ | apply State.bump_kept

theorem State.countMc_kept {mm : Bool} {sK : State} (s : State) (hk : Kept mm sK s) : Kept mm sK (State.countMc s) := by
  unfold State.countMc
  repeat' with_reducible first
      | assumption | refine Kept.ite (fun _ => ?_) (fun _ => ?_) | refine Kept.foldl _ (fun _ _ _ => ?_) _ _ ?_ | apply State.bump_kept
      | apply State.drawNat_kept | (rw [State.mk_built]; apply Kept.upd)

theorem State.stopTrace_kept {mm : Bool} {sK : State} (s : State) (hk : Kept mm sK s) : Kept mm sK (State.stopTrace s) := by
  unfold State.stopTrace
  repeat' with_reducible first | assumption | apply Kept.setReg | apply State.countMc_kept

theorem State.traceStore_kept {mm : Bool} {sK : State} (s : State) (w : Nat) (hk : Kept mm sK s) : Kept mm sK (State.traceStore s w) := by
  unfold State.traceStore
  repeat' with_reducible first
      | assumption | refine Kept.ite (fun _ => ?_) (fun _ => ?_) | apply Kept.setReg | apply State.setBad_kept
      | apply State.stopTrace_kept | (rw [State.mk_built]; apply Kept.upd)

theorem State.traceDrain_kept {mm : Bool} {sK : State} (s : State) (hk : Kept mm sK s) : Kept mm sK (State.traceDrain s) := by
  unfold State.traceDrain
  repeat' with_reducible first
      | assumption | refine Kept.foldl _ (fun _ _ _ => ?_) _ _ ?_ | apply State.traceStore_kept | (rw [State.mk_built]; apply Kept.upd)

theorem State.tracePut_kept {mm : Bool} {sK : State} (s : State) (w : Nat) (hk : Kept mm sK s) : Kept mm sK (State.tracePut s w) := by
  unfold State.tracePut
  repeat' with_reducible first
      | assumption | refine Kept.ite (fun _ => ?_) (fun _ => ?_) | apply State.bump_kept | (rw [State.mk_built]; apply Kept.upd)

theorem State.traceEnter_kept {mm : Bool} {sK : State} (s : State) (cls unit kind payload : Nat) (hk : Kept mm sK s) : Kept mm sK
    (State.traceEnter s cls unit kind payload) := by
  unfold State.traceEnter
  repeat' with_reducible first
      | assumption | refine Kept.ite (fun _ => ?_) (fun _ => ?_) | apply State.traceDrain_kept | apply State.tracePut_kept
      | (rw [State.mk_built]; apply Kept.upd)

theorem State.trace_kept {mm : Bool} {sK : State} (s : State) (cls unit kind payload : Nat) (hk : Kept mm sK s) : Kept mm sK (State.trace s
    cls unit kind payload) := by
  unfold State.trace
  repeat' with_reducible first | assumption | refine Kept.ite (fun _ => ?_) (fun _ => ?_) | apply State.traceEnter_kept

theorem State.deisolate_kept {mm : Bool} {sK : State} (s : State) (rs mask : Nat) (hk : Kept mm sK s) : Kept mm sK (State.deisolate s rs
    mask) := by
  unfold State.deisolate
  repeat' with_reducible first | assumption | refine Kept.ite (fun _ => ?_) (fun _ => ?_) | apply Kept.setReg | apply State.recovery_kept

theorem State.tally_kept {mm : Bool} {sK : State} (s : State) (write : Bool) (rs : Nat) (st : Status) (hk : Kept mm sK s) : Kept mm sK
    (State.tally s write rs st) := by
  unfold State.tally
  repeat' with_reducible first
      | assumption | refine Kept.ite (fun _ => ?_) (fun _ => ?_) | apply State.ledAdd_kept | apply State.bump_kept
      | apply State.countEvent_kept | split

theorem State.complete_kept {mm : Bool} {sK : State} (s : State) (r : Requester) (o : Nat) (write : Bool) (st : Status) (data : List Byte)
    (hk : Kept mm sK s) : Kept mm sK (State.complete s r o write st data) := by
  unfold State.complete
  repeat' with_reducible first
      | assumption | refine Kept.ite (fun _ => ?_) (fun _ => ?_) | apply Kept.setReg | apply State.tally_kept | apply State.raise_kept
      | (rw [State.mk_built]; apply Kept.upd) | split | dsimp only

theorem State.writeObj_kept {mm : Bool} {sK : State} (s : State) (r : Requester) (o v : Nat) (owner : Owner) (hk : Kept mm sK s) (h_owner :
    ∀ v s, Kept mm sK s → Kept mm sK (owner v s).2) : Kept mm sK (State.writeObj s r o v owner) := by
  unfold State.writeObj
  repeat' with_reducible first
      | assumption | refine Kept.ite (fun _ => ?_) (fun _ => ?_) | apply State.complete_kept | apply State.bump_kept
      | refine h_owner _ _ ?_ | split

theorem command_kept {mm : Bool} {sK : State} (f : State → Status × State) (vO : Nat) (sO : State) (hk : Kept mm sK sO) (h_f : ∀ s, Kept mm
    sK s → Kept mm sK (f s).2) : Kept mm sK (command f vO sO).2 := by
  unfold command
  repeat' with_reducible first | assumption | refine Kept.ite_snd (fun _ => ?_) (fun _ => ?_) | refine h_f _ ?_

theorem store_kept {mm : Bool} {sK : State} (o : Nat) (vO : Nat) (sO : State) (hk : Kept mm sK sO) : Kept mm sK (store o vO sO).2 := by
  unfold store
  repeat' with_reducible first | assumption | apply Kept.setReg

theorem storeIf_kept {mm : Bool} {sK : State} (safe : State → Bool) (o : Nat) (vO : Nat) (sO : State) (hk : Kept mm sK sO) : Kept mm sK
    (storeIf safe o vO sO).2 := by
  unfold storeIf
  repeat' with_reducible first | assumption | apply Kept.setReg | refine Kept.ite_snd (fun _ => ?_) (fun _ => ?_)

theorem State.setXfer_kept {mm : Bool} {sK : State} (s : State) (o : Nat) (x : Option Xfer) (hk : Kept mm sK s) : Kept mm sK (State.setXfer
    s o x) := by
  unfold State.setXfer
  repeat' with_reducible first | assumption | (rw [State.mk_built]; apply Kept.upd)

theorem unscheduled_kept {mm : Bool} {sK : State} (f : List Byte → State → Status × State) (imgO : List Byte) (ttO : Nat) (sO : State) (hk :
    Kept mm sK sO) (h_f : ∀ v s, Kept mm sK s → Kept mm sK (f v s).2) : Kept mm sK (unscheduled f imgO ttO sO).2 := by
  unfold unscheduled
  repeat' with_reducible first | assumption | refine Kept.ite_snd (fun _ => ?_) (fun _ => ?_) | refine h_f _ _ ?_

theorem State.commitObj_kept {mm : Bool} {sK : State} (s : State) (r : Requester) (o crc tt : Nat) (owner : ImgOwner) (hk : Kept mm sK s)
    (h_owner : ∀ i v s, Kept mm sK s → Kept mm sK (owner i v s).2) : Kept mm sK (State.commitObj s r o crc tt owner) := by
  unfold State.commitObj
  repeat' with_reducible first
      | assumption | refine Kept.ite (fun _ => ?_) (fun _ => ?_) | apply State.complete_kept | apply State.setXfer_kept
      | apply State.bump_kept | refine h_owner _ _ _ ?_ | split

theorem arming_kept {mm : Bool} {sK : State} (o : Nat) (whole : Bool) (f : State → Status × State) (vO : Nat) (sO : State) (hk : Kept mm sK
    sO) (h_f : ∀ s, Kept mm sK s → Kept mm sK (f s).2) : Kept mm sK (arming o whole f vO sO).2 := by
  unfold arming
  repeat' with_reducible first | assumption | apply command_kept | refine h_f _ ?_ | exact id | split | intro _

theorem scheduled_kept {mm : Bool} {sK : State} (f : List Byte → Nat → State → Status × State) (imgO : List Byte) (ttO : Nat) (sO : State)
    (hk : Kept mm sK sO) (h_f : ∀ i v s, Kept mm sK s → Kept mm sK (f i v s).2) : Kept mm sK (scheduled f imgO ttO sO).2 := by
  unfold scheduled
  repeat' with_reducible first | assumption | refine Kept.ite_snd (fun _ => ?_) (fun _ => ?_) | refine h_f _ _ _ ?_

theorem State.armAction_kept {mm : Bool} {sK : State} (s : State) (k : ActKind) (unit tt arg : Nat) (hk : Kept mm sK s) : Kept mm sK
    (State.armAction s k unit tt arg).2 := by
  unfold State.armAction
  repeat' with_reducible first
      | assumption | refine Kept.ite_snd (fun _ => ?_) (fun _ => ?_) | apply State.ledAdd_kept | apply State.bump_kept
      | (rw [State.mk_built]; apply Kept.upd)

theorem State.endAction_kept {mm : Bool} {sK : State} (s : State) (k : ActKind) (unit term : Nat) (hk : Kept mm sK s) : Kept mm sK
    (State.endAction s k unit term) := by
  unfold State.endAction
  repeat' with_reducible first | assumption | apply Kept.setReg | apply State.ledMove_kept | (rw [State.mk_built]; apply Kept.upd)

theorem State.cancelAction_kept {mm : Bool} {sK : State} (s : State) (k : ActKind) (unit : Nat) (hk : Kept mm sK s) : Kept mm sK
    (State.cancelAction s k unit).2 := by
  unfold State.cancelAction
  repeat' with_reducible first | assumption | refine Kept.ite_snd (fun _ => ?_) (fun _ => ?_) | apply State.endAction_kept | split

theorem State.setMarker_kept {mm : Bool} {sK : State} (s : State) (m : Marker) (hk : Kept mm sK s) : Kept mm sK (State.setMarker s m) := by
  unfold State.setMarker
  repeat' with_reducible first | assumption | (rw [State.mk_built]; apply Kept.upd)

theorem State.noteFrame_kept {mm : Bool} {sK : State} (s : State) (f : Frame) (hk : Kept mm sK s) : Kept mm sK (State.noteFrame s f) := by
  unfold State.noteFrame
  repeat' with_reducible first | assumption | apply Kept.setReg | apply State.setBool_kept

theorem State.enterLocked_kept {mm : Bool} {sK : State} (s : State) (edge : Nat) (hk : Kept mm sK s) : Kept mm sK (State.enterLocked s edge) := by
  unfold State.enterLocked
  repeat' with_reducible first | assumption | apply Kept.setReg | apply State.recovery_kept

theorem State.markerSlot_kept {mm : Bool} {sK : State} (s1 : State) (fr : Option Frame) (edge : Nat) (hk : Kept mm sK s1) : Kept mm sK
    (State.markerSlot s1 fr edge) := by
  unfold State.markerSlot
  repeat' with_reducible first
      | assumption | refine Kept.ite (fun _ => ?_) (fun _ => ?_) | refine Kept.foldl _ (fun _ _ _ => ?_) _ _ ?_ | apply Kept.setReg
      | apply State.pulse_kept | apply State.setMarker_kept | apply State.ledAdd_kept | apply State.fault_kept | apply State.recovery_kept
      | apply State.noteFrame_kept | apply State.enterLocked_kept | apply State.setFlag_kept | split

theorem State.acquire_kept {mm : Bool} {sK : State} (s : State) (f : Frame) (edge : Nat) (hk : Kept mm sK s) : Kept mm sK (State.acquire s f
    edge) := by
  unfold State.acquire
  repeat' with_reducible first
      | assumption | apply Kept.setReg | apply State.setMarker_kept | apply State.enterLocked_kept | apply State.bump_kept
      | (rw [State.mk_built]; apply Kept.upd)

theorem State.feedSymbol_kept {mm : Bool} {sK : State} (s : State) (edge : Nat) (x : Option Bool) (hk : Kept mm sK s) : Kept mm sK
    (State.feedSymbol s edge x) := by
  unfold State.feedSymbol
  repeat' with_reducible first
      | assumption | refine Kept.ite (fun _ => ?_) (fun _ => ?_) | apply Kept.setReg | apply State.bump_kept | apply State.setMarker_kept
      | apply State.noteFrame_kept | apply State.acquire_kept | apply State.markerSlot_kept | split | dsimp only

theorem State.feedSymbols_kept {mm : Bool} {sK : State} (s : State) (edge : Nat) (fuel : List (Option Nat)) (hk : Kept mm sK s) : Kept mm sK
    (State.feedSymbols s edge fuel) := by
  induction fuel generalizing s edge with
  | nil =>
    unfold State.feedSymbols
    repeat' with_reducible first | assumption | apply State.feedSymbol_kept
  | cons x l ih =>
    unfold State.feedSymbols
    repeat' with_reducible first | assumption | apply State.feedSymbol_kept | refine ih _ _ ?_

theorem State.markerEdges_kept {mm : Bool} {sK : State} (s : State) (t : Nat) (falls : List (Option Nat)) (hk : Kept mm sK s) : Kept mm sK
    (State.markerEdges s t falls) := by
  unfold State.markerEdges
  repeat' with_reducible first | assumption | apply Kept.tickTo | apply State.feedSymbols_kept

theorem State.setPtp_kept {mm : Bool} {sK : State} (s : State) (k : Nat) (p : Ptp) (hk : Kept mm sK s) : Kept mm sK (State.setPtp s k p) := by
  unfold State.setPtp
  repeat' with_reducible first | assumption | (rw [State.mk_built]; apply Kept.upd)

theorem State.followDomain_kept {mm : Bool} {sK : State} (s : State) (v : Int) (hk : Kept mm sK s) : Kept mm sK (State.followDomain s v) := by
  unfold State.followDomain
  repeat' with_reducible first | assumption | refine Kept.ite (fun _ => ?_) (fun _ => ?_) | (rw [State.mk_built]; apply Kept.upd)

theorem State.pauseSlew_kept {mm : Bool} {sK : State} (s : State) (k : Nat) (hk : Kept mm sK s) : Kept mm sK (State.pauseSlew s k) := by
  unfold State.pauseSlew
  repeat' with_reducible first
      | assumption | refine Kept.ite (fun _ => ?_) (fun _ => ?_) | apply Kept.setReg | (rw [State.mk_built]; apply Kept.upd)

theorem State.ptpEnter_kept {mm : Bool} {sK : State} (s : State) (k st : Nat) (hk : Kept mm sK s) : Kept mm sK (State.ptpEnter s k st) := by
  unfold State.ptpEnter
  repeat' with_reducible first | assumption | refine Kept.ite (fun _ => ?_) (fun _ => ?_) | apply Kept.setReg | apply State.setFlag_kept

theorem State.ptpLeave_kept {mm : Bool} {sK : State} (s : State) (k st : Nat) (hk : Kept mm sK s) : Kept mm sK (State.ptpLeave s k st) := by
  unfold State.ptpLeave
  repeat' with_reducible first | assumption | apply State.pauseSlew_kept | apply State.ptpEnter_kept

theorem State.ptpDirect_kept {mm : Bool} {sK : State} (s : State) (k : Nat) (offset : Int) (hk : Kept mm sK s) : Kept mm sK (State.ptpDirect
    s k offset) := by
  unfold State.ptpDirect
  repeat' with_reducible first | assumption | apply State.setPtp_kept

theorem State.ptpServo_kept {mm : Bool} {sK : State} (s : State) (k : Nat) (hk : Kept mm sK s) : Kept mm sK (State.ptpServo s k) := by
  unfold State.ptpServo
  repeat' with_reducible first
      | assumption | apply Kept.setReg | apply State.drawNat_kept | apply State.drawBool_kept | apply State.setPtp_kept

theorem State.ptpSync_kept {mm : Bool} {sK : State} (s : State) (k : Nat) (offset : Int) (hk : Kept mm sK s) : Kept mm sK (State.ptpSync s k
    offset) := by
  unfold State.ptpSync
  repeat' with_reducible first
      | assumption | refine Kept.ite (fun _ => ?_) (fun _ => ?_) | apply State.ptpEnter_kept | apply State.ptpDirect_kept
      | apply State.setPtp_kept | apply State.ptpServo_kept | apply State.ptpLeave_kept | split

theorem State.ptpExchange_kept {mm : Bool} {sK : State} (s : State) (k master : Nat) (offset : Int) (delay interval : Nat) (hk : Kept mm sK
    s) : Kept mm sK (State.ptpExchange s k master offset delay interval) := by
  unfold State.ptpExchange
  repeat' with_reducible first
      | assumption | refine Kept.ite (fun _ => ?_) (fun _ => ?_) | apply Kept.setReg | apply State.setPtp_kept | apply State.ptpSync_kept
      | apply State.followDomain_kept

theorem execPtpSync_kept {mm : Bool} (t : Nat) (k : Fin 2) (master : Nat) (offset : Int) (delay interval : Nat) (s : State) : KeptN mm s
    (execPtpSync t k master offset delay interval s) := by
  unfold execPtpSync
  repeat' with_reducible first | exact Kept.refl _ | apply KeptN.next | apply Kept.tickTo | apply State.ptpExchange_kept

theorem execPtpSyncLoss_kept {mm : Bool} (t : Nat) (k : Fin 2) (s : State) : KeptN mm s (execPtpSyncLoss t k s) := by
  unfold execPtpSyncLoss
  repeat' with_reducible first
      | exact Kept.refl _ | apply KeptN.next | refine Kept.ite (fun _ => ?_) (fun _ => ?_) | apply Kept.tickTo | apply State.setPtp_kept
      | apply State.ptpEnter_kept

theorem execHoldoverLimit_kept {mm : Bool} (t : Nat) (k : Fin 2) (s : State) : KeptN mm s (execHoldoverLimit t k s) := by
  unfold execHoldoverLimit
  repeat' with_reducible first
      | exact Kept.refl _ | apply KeptN.next | refine Kept.ite (fun _ => ?_) (fun _ => ?_) | apply Kept.tickTo | apply State.ptpLeave_kept

theorem State.ptpForget_kept {mm : Bool} {sK : State} (s : State) (k : Nat) (hk : Kept mm sK s) : Kept mm sK (State.ptpForget s k) := by
  unfold State.ptpForget
  repeat' with_reducible first | assumption | apply State.setPtp_kept

theorem State.ptpListen_kept {mm : Bool} {sK : State} (s : State) (hk : Kept mm sK s) : Kept mm sK (State.ptpListen s) := by
  unfold State.ptpListen
  repeat' with_reducible first
      | assumption | refine Kept.ite (fun _ => ?_) (fun _ => ?_) | refine Kept.foldl _ (fun _ _ _ => ?_) _ _ ?_
      | apply State.ptpForget_kept | apply State.ptpLeave_kept

theorem ownPtpEnable_kept {mm : Bool} {sK : State} (k : Nat) (vO : Nat) (sO : State) (hk : Kept mm sK sO) : Kept mm sK (ownPtpEnable k vO
    sO).2 := by
  unfold ownPtpEnable
  repeat' with_reducible first
      | assumption | apply Kept.setReg | refine Kept.ite_snd (fun _ => ?_) (fun _ => ?_) | apply State.ptpForget_kept
      | apply State.setPtp_kept | apply State.ptpLeave_kept | apply State.ptpEnter_kept

theorem ownSwitchArm_kept {mm : Bool} {sK : State} (vO : Nat) (sO : State) (hk : Kept mm sK sO) : Kept mm sK (ownSwitchArm vO sO).2 := by
  unfold ownSwitchArm
  repeat' with_reducible first | assumption | apply arming_kept | apply State.armAction_kept | exact id | split | dsimp only | intro _

theorem execSwitchArm_kept {mm : Bool} (t : Nat) (r : Requester) (v : Bool) (s : State) : KeptN mm s (execSwitchArm t r v s) := by
  unfold execSwitchArm
  repeat' with_reducible first
      | exact Kept.refl _ | apply KeptN.next | apply Kept.tickTo | apply State.writeObj_kept | apply ownSwitchArm_kept

theorem ownSwitchCancel_kept {mm : Bool} {sK : State} (vO : Nat) (sO : State) (hk : Kept mm sK sO) : Kept mm sK (ownSwitchCancel vO sO).2 := by
  unfold ownSwitchCancel
  repeat' with_reducible first | assumption | apply command_kept | apply State.cancelAction_kept | intro _

theorem execSwitchCancel_kept {mm : Bool} (t : Nat) (r : Requester) (v : Bool) (s : State) : KeptN mm s (execSwitchCancel t r v s) := by
  unfold execSwitchCancel
  repeat' with_reducible first
      | exact Kept.refl _ | apply KeptN.next | apply Kept.tickTo | apply State.writeObj_kept | apply ownSwitchCancel_kept

theorem State.switchDone_kept {mm : Bool} {sK : State} (s : State) (st : Status) (hk : Kept mm sK s) : Kept mm sK (State.switchDone s st) := by
  unfold State.switchDone
  repeat' with_reducible first | assumption | apply Kept.setReg | apply State.setFlag_kept

theorem execActiveDomainSwitch_kept {mm : Bool} (t : Nat) (s : State) : KeptN mm s (execActiveDomainSwitch t s) := by
  unfold execActiveDomainSwitch
  repeat' with_reducible first
      | exact Kept.refl _ | apply KeptN.next | refine Kept.ite (fun _ => ?_) (fun _ => ?_) | apply Kept.setReg | apply Kept.tickTo
      | apply State.endAction_kept | apply State.switchDone_kept | apply State.followDomain_kept | (rw [State.mk_built]; apply Kept.upd)
      | split

theorem execSlewEnd_kept {mm : Bool} (t : Nat) (s : State) : KeptN mm s (execSlewEnd t s) := by
  unfold execSlewEnd
  repeat' with_reducible first
      | exact Kept.refl _ | apply KeptN.next | refine Kept.ite (fun _ => ?_) (fun _ => ?_) | apply Kept.setReg | apply Kept.tickTo
      | apply State.followDomain_kept | (rw [State.mk_built]; apply Kept.upd)

theorem State.ttGone_kept {mm : Bool} {sK : State} (s : State) (hk : Kept mm sK s) : Kept mm sK (State.ttGone s) := by
  unfold State.ttGone
  repeat' with_reducible first | assumption | (rw [State.mk_built]; apply Kept.upd)

theorem ownTtResync_kept {mm : Bool} {sK : State} (vO : Nat) (sO : State) (hk : Kept mm sK sO) : Kept mm sK (ownTtResync vO sO).2 := by
  unfold ownTtResync
  repeat' with_reducible first
      | assumption | apply Kept.setReg | apply command_kept | apply State.ttGone_kept | apply State.setMarker_kept
      | apply State.ptpListen_kept | exact id | split | dsimp only | intro _

theorem execTtResync_kept {mm : Bool} (t : Nat) (r : Requester) (v : Bool) (s : State) : KeptN mm s (execTtResync t r v s) := by
  unfold execTtResync
  repeat' with_reducible first
      | exact Kept.refl _ | apply KeptN.next | apply Kept.tickTo | apply State.writeObj_kept | apply ownTtResync_kept

theorem State.send_kept {mm : Bool} {sK : State} (s : State) (port : Nat) (b : List Byte) (hk : Kept mm sK s) : Kept mm sK (State.send s
    port b) := by
  unfold State.send
  repeat' with_reducible first | assumption | (rw [State.mk_built]; apply Kept.upd)

theorem State.ethSend_kept {mm : Bool} {sK : State} (s : State) (m : Nat) (dst : List Byte) (kind : Nat) (body : List Byte) (hk : Kept mm sK
    s) : Kept mm sK (State.ethSend s m dst kind body) := by
  unfold State.ethSend
  repeat' with_reducible first | assumption | apply State.send_kept

theorem State.sendUdp_kept {mm : Bool} {sK : State} (s : State) (m : Nat) (p : Peer) (sport : Nat) (d : List Byte) (hk : Kept mm sK s) :
    Kept mm sK (State.sendUdp s m p sport d) := by
  unfold State.sendUdp
  repeat' with_reducible first | assumption | refine Kept.ite (fun _ => ?_) (fun _ => ?_) | apply State.ethSend_kept

theorem State.sendKisko_kept {mm : Bool} {sK : State} (s : State) (m : Nat) (p : Peer) (d : List Byte) (hk : Kept mm sK s) : Kept mm sK
    (State.sendKisko s m p d) := by
  unfold State.sendKisko
  repeat' with_reducible first | assumption | apply State.sendUdp_kept

end Sys2Proof.Machine
end

