-- ==== Sys2Proof/Laws/KeptMemory.lean ====
section
/-! SUPPORT. Pattern memory: what every function of a state keeps (`Kept`), one law a function, and one a command. Laws with the
parameter `mm` hold with the addressed memories unchanged too; those with `false` are of the functions that may write one. -/

namespace Sys2Proof.Machine

theorem State.poke_kept {sK : State} (s : State) (a : Nat) (b : List Byte) (hk : Kept false sK s) : Kept false sK (State.poke s a b) := by
  unfold State.poke
  repeat' with_reducible first | assumption | (rw [State.mk_built]; apply Kept.mem) | exact id | apply dramWrite_wf

theorem ownMemConfig_kept {mm : Bool} {sK : State} (vO : Nat) (sO : State) (hk : Kept mm sK sO) : Kept mm sK (ownMemConfig vO sO).2 := by
  unfold ownMemConfig
  repeat' with_reducible first | assumption | apply Kept.setReg | refine Kept.ite_snd (fun _ => ?_) (fun _ => ?_)

theorem State.noteStep1_kept {mm : Bool} {sK : State} (s : State) (hk : Kept mm sK s) : Kept mm sK (State.noteStep1 s) := by
  unfold State.noteStep1
  repeat' with_reducible first | assumption | (rw [State.mk_built]; apply Kept.upd)

theorem ownMemEnable_kept {mm : Bool} {sK : State} (vO : Nat) (sO : State) (hk : Kept mm sK sO) : Kept mm sK (ownMemEnable vO sO).2 := by
  unfold ownMemEnable
  repeat' with_reducible first
      | assumption | refine Kept.foldl _ (fun _ _ _ => ?_) _ _ ?_ | apply Kept.setReg | refine Kept.ite_snd (fun _ => ?_) (fun _ => ?_)
      | apply State.noteStep1_kept | (rw [State.mk_built]; apply Kept.upd)

theorem execMemEnable_kept {mm : Bool} (t : Nat) (r : Requester) (v : Bool) (s : State) : KeptN mm s (execMemEnable t r v s) := by
  unfold execMemEnable
  repeat' with_reducible first
      | exact Kept.refl _ | apply KeptN.next | apply Kept.tickTo | apply State.writeObj_kept | apply ownMemEnable_kept

theorem State.memChannelFail_kept {mm : Bool} {sK : State} (s : State) (m step : Nat) (st : Status) (hk : Kept mm sK s) : Kept mm sK
    (State.memChannelFail s m step st) := by
  unfold State.memChannelFail
  repeat' with_reducible first | assumption | apply Kept.setReg

theorem execTrainingStepTimeout_kept {mm : Bool} (t : Nat) (m : Fin 8) (step : Fin 7) (s : State) : KeptN mm s (execTrainingStepTimeout t m
    step s) := by
  unfold execTrainingStepTimeout
  repeat' with_reducible first
      | exact Kept.refl _ | apply KeptN.next | refine Kept.ite (fun _ => ?_) (fun _ => ?_) | apply Kept.tickTo
      | apply State.memChannelFail_kept | (rw [State.mk_built]; apply Kept.upd)

theorem execMemInitComplete_kept {mm : Bool} (t : Nat) (s : State) : KeptN mm s (execMemInitComplete t s) := by
  unfold execMemInitComplete
  repeat' with_reducible first
      | assumption | exact Kept.refl _ | apply KeptN.next | refine Kept.ite (fun _ => ?_) (fun _ => ?_)
      | refine Kept.foldl _ (fun _ _ _ => ?_) _ _ ?_ | apply Kept.setReg | apply Kept.tickTo | (rw [State.mk_built]; apply Kept.upd)

theorem execRetrainInterval_kept {mm : Bool} (t : Nat) (m : Fin 8) (drift : Int) (s : State) : KeptN mm s (execRetrainInterval t m drift s) := by
  unfold execRetrainInterval
  repeat' with_reducible first
      | exact Kept.refl _ | apply KeptN.next | refine Kept.ite (fun _ => ?_) (fun _ => ?_) | apply Kept.tickTo | apply State.bump_kept
      | (rw [State.mk_built]; apply Kept.upd)

theorem execZqLatch_kept {mm : Bool} (t : Nat) (m : Fin 8) (s : State) : KeptN mm s (execZqLatch t m s) := by
  unfold execZqLatch
  repeat' with_reducible first
      | exact Kept.refl _ | apply KeptN.next | refine Kept.ite (fun _ => ?_) (fun _ => ?_) | apply Kept.tickTo
      | (rw [State.mk_built]; apply Kept.upd)

theorem execRefreshInterval_kept {mm : Bool} (t : Nat) (m : Fin 8) (waiting : Bool) (s : State) : KeptN mm s (execRefreshInterval t m
    waiting s) := by
  unfold execRefreshInterval
  repeat' with_reducible first
      | exact Kept.refl _ | apply KeptN.next | refine Kept.ite (fun _ => ?_) (fun _ => ?_) | apply Kept.tickTo | apply State.bump_kept
      | apply State.countEvent_kept | (rw [State.mk_built]; apply Kept.upd)

theorem execMr4Poll_kept {mm : Bool} (t : Nat) (m : Fin 8) (code : Nat) (s : State) : KeptN mm s (execMr4Poll t m code s) := by
  unfold execMr4Poll
  repeat' with_reducible first
      | exact Kept.refl _ | apply KeptN.next | refine Kept.ite (fun _ => ?_) (fun _ => ?_) | apply Kept.setReg | apply Kept.tickTo
      | apply State.setFlag_kept

theorem State.cacheBad_kept {mm : Bool} {sK : State} (s : State) (w : TagLine) (hk : Kept mm sK s) : Kept mm sK (State.cacheBad s w) := by
  unfold State.cacheBad
  repeat' with_reducible first | assumption | refine Kept.ite (fun _ => ?_) (fun _ => ?_) | (rw [State.mk_built]; apply Kept.upd)

theorem State.cacheCheck_kept {mm : Bool} {sK : State} (s : State) (line : Nat) (hk : Kept mm sK s) : Kept mm sK (State.cacheCheck s line) := by
  unfold State.cacheCheck
  repeat' with_reducible first
      | assumption | refine Kept.ite (fun _ => ?_) (fun _ => ?_) | apply State.bumpImage_kept | apply State.sramBad_kept
      | apply State.cacheBad_kept | split

theorem State.tagTouch_kept {mm : Bool} {sK : State} (s0 : State) (m line : Nat) (write : Bool) (kid : Nat) (hk : Kept mm sK s0) : Kept mm
    sK (State.tagTouch s0 m line write kid) := by
  unfold State.tagTouch
  repeat' with_reducible first
      | assumption | apply State.cacheCheck_kept | apply State.bump_kept | apply State.countEvent_kept
      | (rw [State.mk_built]; apply Kept.upd) | split | dsimp only

theorem State.tagAccess_kept {mm : Bool} {sK : State} (s : State) (m : Nat) (r : Region) (i : Nat) (write : Bool) (kid : Nat) (hk : Kept mm
    sK s) : Kept mm sK (State.tagAccess s m r i write kid) := by
  unfold State.tagAccess
  repeat' with_reducible first | assumption | refine Kept.foldl _ (fun _ _ _ => ?_) _ _ ?_ | apply State.tagTouch_kept | split

theorem State.lineWritten_kept {mm : Bool} {sK : State} (s : State) (pa : Nat) (hk : Kept mm sK s) : Kept mm sK (State.lineWritten s pa) := by
  unfold State.lineWritten
  repeat' with_reducible first | assumption | (rw [State.mk_built]; apply Kept.upd)

theorem State.memTally_kept {mm : Bool} {sK : State} (s : State) (addr : Nat) (write : Bool) (st : Status) (hk : Kept mm sK s) : Kept mm sK
    (State.memTally s addr write st) := by
  unfold State.memTally
  repeat' with_reducible first
      | assumption | refine Kept.ite (fun _ => ?_) (fun _ => ?_) | apply State.tally_kept | apply State.bump_kept
      | apply State.ledAdd_kept

theorem State.integrityFail_kept {mm : Bool} {sK : State} (s : State) (hk : Kept mm sK s) : Kept mm sK (State.integrityFail s) := by
  unfold State.integrityFail
  repeat' with_reducible first | assumption | apply State.setFlag_kept | apply State.fault_kept

theorem State.memRefuse_kept {mm : Bool} {sK : State} (s : State) (addr : Nat) (write part : Bool) (st : Status) (hk : Kept mm sK s) : Kept
    mm sK (State.memRefuse s addr write part st) := by
  unfold State.memRefuse
  repeat' with_reducible first
      | assumption | refine Kept.ite (fun _ => ?_) (fun _ => ?_) | apply State.sramBad_kept | apply State.bump_kept
      | apply State.memTally_kept

theorem State.memReadLine_kept {mm : Bool} {sK : State} (s : State) (addr : Nat) (hk : Kept mm sK s) : Kept mm sK (State.memReadLine s
    addr).2 := by
  unfold State.memReadLine
  repeat' with_reducible first
      | assumption | refine Kept.ite (fun _ => ?_) (fun _ => ?_) | refine Kept.ite_snd (fun _ => ?_) (fun _ => ?_)
      | apply State.memRefuse_kept | apply State.memTally_kept | apply State.sramRead_kept | apply State.bump_kept
      | apply State.countEvent_kept | apply State.tagAccess_kept | apply State.integrityFail_kept | split | dsimp only

theorem State.triggerReenc_kept {mm : Bool} {sK : State} (s : State) (addr : Nat) (b : List Byte) (hk : Kept mm sK s) : Kept mm sK
    (State.triggerReenc s addr b) := by
  unfold State.triggerReenc
  repeat' with_reducible first | assumption | apply State.ledAdd_kept | (rw [State.mk_built]; apply Kept.upd)

theorem State.memWriteLine_kept {sK : State} (s : State) (addr : Nat) (b : List Byte) (hk : Kept false sK s) : Kept false sK
    (State.memWriteLine s addr b).2 := by
  unfold State.memWriteLine
  repeat' with_reducible first
      | assumption | refine Kept.ite (fun _ => ?_) (fun _ => ?_) | refine Kept.ite_snd (fun _ => ?_) (fun _ => ?_)
      | apply State.memRefuse_kept | apply State.memTally_kept | apply State.sramRead_kept | apply State.bump_kept
      | apply State.countEvent_kept | apply State.tagAccess_kept | apply State.triggerReenc_kept | apply State.lineWritten_kept
      | apply State.integrityFail_kept | (rw [State.mk_built]; apply Kept.mem) | exact id | apply writeLine_wf | apply poisonLine_wf
      | split | dsimp only

theorem State.pipeWait_kept {mm : Bool} {sK : State} (s : State) (cls wait : Nat) (hk : Kept mm sK s) : Kept mm sK (State.pipeWait s cls
    wait) := by
  unfold State.pipeWait
  repeat' with_reducible first | assumption | apply Kept.setReg

theorem State.memMeasure_kept {mm : Bool} {sK : State} (s : State) (addr lat wait : Nat) (hk : Kept mm sK s) : Kept mm sK (State.memMeasure
    s addr lat wait) := by
  unfold State.memMeasure
  repeat' with_reducible first | assumption | apply State.raiseMax_kept | apply State.pipeWait_kept

theorem State.memReadLines_kept {mm : Bool} {sK : State} (s : State) (addr : Nat) (fuel : Nat) (hk : Kept mm sK s) : Kept mm sK
    (State.memReadLines s addr fuel).2 := by
  induction fuel generalizing s addr with
  | zero =>
    unfold State.memReadLines
    repeat' with_reducible first | assumption | apply State.memReadLine_kept | refine Kept.of_eq2 (by assumption) ?_ | split
  | succ k ih =>
    unfold State.memReadLines
    repeat' with_reducible first
        | assumption | apply State.memReadLine_kept | refine ih _ _ ?_ | refine Kept.of_eq2 (by assumption) ?_ | split

theorem State.memPark_kept {mm : Bool} {sK : State} (s : State) (q : MemReq) (hk : Kept mm sK s) : Kept mm sK (State.memPark s q) := by
  unfold State.memPark
  repeat' with_reducible first
      | assumption | refine Kept.ite (fun _ => ?_) (fun _ => ?_) | apply State.ledAdd_kept | (rw [State.mk_built]; apply Kept.upd)

theorem State.memWriteReq_kept {sK : State} (s : State) (addr : Nat) (b : List Byte) (hk : Kept false sK s) : Kept false sK
    (State.memWriteReq s addr b).2 := by
  unfold State.memWriteReq
  repeat' with_reducible first
      | assumption | refine Kept.ite_snd (fun _ => ?_) (fun _ => ?_) | apply State.memPark_kept | apply State.memWriteLine_kept

theorem State.memWriteBytes_kept {sK : State} (s : State) (addr : Nat) (b : List Byte) (fuel : Nat) (hk : Kept false sK s) : Kept false sK
    (State.memWriteBytes s addr b fuel).2 := by
  induction fuel generalizing s addr b with
  | zero =>
    unfold State.memWriteBytes
    repeat' with_reducible first | assumption | refine Kept.ite_snd (fun _ => ?_) (fun _ => ?_) | apply State.memWriteReq_kept
  | succ k ih =>
    unfold State.memWriteBytes
    repeat' with_reducible first
        | assumption | refine Kept.ite_snd (fun _ => ?_) (fun _ => ?_) | apply State.memWriteReq_kept | refine ih _ _ _ ?_

theorem State.memReply_kept {mm : Bool} {sK : State} (s : State) (st : Status) (d : List Byte) (hk : Kept mm sK s) : Kept mm sK
    (State.memReply s st d) := by
  unfold State.memReply
  repeat' with_reducible first | assumption | (rw [State.mk_built]; apply Kept.upd)

theorem execMemoryRead_kept {mm : Bool} (t addr lines lat wait : Nat) (s : State) : KeptN mm s (execMemoryRead t addr lines lat wait s) := by
  unfold execMemoryRead
  repeat' with_reducible first
      | exact Kept.refl _ | apply KeptN.next | apply Kept.tickTo | apply State.memMeasure_kept | apply State.memReadLines_kept
      | apply State.memReply_kept | apply State.memPark_kept | refine Kept.of_eq2 (by assumption) ?_ | split

theorem execPartialWrite_kept (t addr : Nat) (bytes : List Byte) (lat wait : Nat) (s : State) : KeptN false s (execPartialWrite t addr bytes
    lat wait s) := by
  unfold execPartialWrite
  repeat' with_reducible first
      | exact Kept.refl _ | apply KeptN.next | apply Kept.tickTo | apply State.memMeasure_kept | apply State.memWriteReq_kept
      | apply State.memReply_kept | split

theorem execFullLineWrite_kept (t addr : Nat) (bytes : List Byte) (lat wait : Nat) (s : State) : KeptN false s (execFullLineWrite t addr
    bytes lat wait s) := by
  unfold execFullLineWrite
  repeat' with_reducible first
      | exact Kept.refl _ | apply KeptN.next | apply Kept.tickTo | apply State.memMeasure_kept | apply State.memWriteReq_kept
      | apply State.memReply_kept | split

theorem execPageReencryption_kept (t addr : Nat) (bytes : List Byte) (s : State) : KeptN false s (execPageReencryption t addr bytes s) := by
  unfold execPageReencryption
  repeat' with_reducible first
      | exact Kept.refl _ | apply KeptN.next | refine Kept.ite (fun _ => ?_) (fun _ => ?_) | apply Kept.tickTo
      | apply State.memWriteReq_kept | apply State.memReply_kept | refine Kept.of_eq2 (by assumption) ?_ | split

theorem State.asAccepted_kept {mm : Bool} {sK : State} (s : State) (kid : Nat) (f : State → State) (hk : Kept mm sK s) (h_f : ∀ s, Kept mm
    sK s → Kept mm sK (f s)) : Kept mm sK (State.asAccepted s kid f) := by
  unfold State.asAccepted
  repeat' with_reducible first | assumption | refine Kept.ite (fun _ => ?_) (fun _ => ?_) | apply Kept.setReg | refine h_f _ ?_

theorem State.memDrain_kept {sK : State} (s : State) (hk : Kept false sK s) : Kept false sK (State.memDrain s) := by
  unfold State.memDrain
  repeat' with_reducible first
      | assumption | refine Kept.foldl _ (fun _ _ _ => ?_) _ _ ?_ | apply State.asAccepted_kept | apply State.ledSub_kept
      | apply State.memWriteLine_kept | apply State.memReply_kept | apply State.memReadLines_kept | (rw [State.mk_built]; apply Kept.upd)
      | refine Kept.of_eq2 (by assumption) ?_ | split | dsimp only | intro _

theorem State.pageDone_kept {sK : State} (s : State) (page : Nat) (hk : Kept false sK s) : Kept false sK (State.pageDone s page) := by
  unfold State.pageDone
  repeat' with_reducible first
      | assumption | apply State.bump_kept | apply State.ledMove_kept | apply State.memReply_kept | apply State.memDrain_kept
      | (rw [State.mk_built]; apply Kept.mem) | exact id | apply writeLine_wf | apply rekeyPage_wf | split | intro _

theorem State.pagesDone_kept {sK : State} (s : State) (f : Nat → Bool) (hk : Kept false sK s) : Kept false sK (State.pagesDone s f) := by
  unfold State.pagesDone
  repeat' with_reducible first | assumption | refine Kept.foldl _ (fun _ _ _ => ?_) _ _ ?_ | apply State.pageDone_kept

theorem execPageReencryptionDone_kept (t page wait : Nat) (s : State) : KeptN false s (execPageReencryptionDone t page wait s) := by
  unfold execPageReencryptionDone
  repeat' with_reducible first
      | exact Kept.refl _ | apply KeptN.next | refine Kept.ite (fun _ => ?_) (fun _ => ?_) | apply Kept.tickTo | apply State.pipeWait_kept
      | apply State.pageDone_kept

theorem execSelfRefreshExit_kept (t : Nat) (m : Fin 8) (s : State) : KeptN false s (execSelfRefreshExit t m s) := by
  unfold execSelfRefreshExit
  repeat' with_reducible first
      | exact Kept.refl _ | apply KeptN.next | refine Kept.ite (fun _ => ?_) (fun _ => ?_) | apply Kept.setReg | apply Kept.tickTo
      | apply State.memDrain_kept

theorem ownRegions_kept {sK : State} (imgO : List Byte) (ttO : Nat) (sO : State) (hk : Kept false sK sO) : Kept false sK (ownRegions imgO
    ttO sO).2 := by
  unfold ownRegions
  repeat' with_reducible first
      | assumption | refine Kept.foldl _ (fun _ _ _ => ?_) _ _ ?_ | apply Kept.setImage | apply unscheduled_kept
      | apply State.pagesDone_kept | (rw [State.mk_built]; apply Kept.upd) | exact id | split | dsimp only | intro _

theorem execRegions_kept (t : Nat) (r : Requester) (crc tt : Nat) (s : State) : KeptN false s (execRegions t r crc tt s) := by
  unfold execRegions
  repeat' with_reducible first
      | exact Kept.refl _ | apply KeptN.next | apply Kept.tickTo | apply State.commitObj_kept | apply ownRegions_kept

theorem execRegionInitDone_kept (t : Nat) (e : Fin 16) (wait : Nat) (s : State) : KeptN false s (execRegionInitDone t e wait s) := by
  unfold execRegionInitDone
  repeat' with_reducible first
      | exact Kept.refl _ | apply KeptN.next | refine Kept.ite (fun _ => ?_) (fun _ => ?_) | apply Kept.setReg | apply Kept.tickTo
      | apply State.pipeWait_kept | (rw [State.mk_built]; apply Kept.mem) | exact id | apply initRegion_wf | split | intro _
      | refine Memory.ofWf (by assumption) (by with_unfolding_all rfl)

theorem ownWindow_kept {sK : State} (imgO : List Byte) (ttO : Nat) (sO : State) (hk : Kept false sK sO) : Kept false sK (ownWindow imgO ttO
    sO).2 := by
  unfold ownWindow
  repeat' with_reducible first
      | assumption | apply unscheduled_kept | apply State.memWriteBytes_kept | exact id | split | dsimp only | intro _

theorem execWindow_kept (t : Nat) (r : Requester) (crc tt : Nat) (s : State) : KeptN false s (execWindow t r crc tt s) := by
  unfold execWindow
  repeat' with_reducible first
      | exact Kept.refl _ | apply KeptN.next | apply Kept.tickTo | apply State.commitObj_kept | apply ownWindow_kept

theorem ownWindowAddr_kept {mm : Bool} {sK : State} (vO : Nat) (sO : State) (hk : Kept mm sK sO) : Kept mm sK (ownWindowAddr vO sO).2 := by
  unfold ownWindowAddr
  repeat' with_reducible first | assumption | apply Kept.setReg | refine Kept.ite_snd (fun _ => ?_) (fun _ => ?_)

theorem ownKidKey_kept {mm : Bool} {sK : State} (k : Nat) (imgO : List Byte) (ttO : Nat) (sO : State) (hk : Kept mm sK sO) : Kept mm sK
    (ownKidKey k imgO ttO sO).2 := by
  unfold ownKidKey
  repeat' with_reducible first
      | assumption | apply Kept.setReg | apply Kept.setImage | apply unscheduled_kept | apply State.setBad_kept | apply State.bump_kept
      | exact id | split | dsimp only | intro _

theorem execKey_kept {mm : Bool} (t : Nat) (r : Requester) (k : Fin 64) (crc tt : Nat) (s : State) : KeptN mm s (execKey t r k crc tt s) := by
  unfold execKey
  repeat' with_reducible first
      | exact Kept.refl _ | apply KeptN.next | apply Kept.tickTo | apply State.commitObj_kept | apply ownKidKey_kept

theorem ownRetire_kept {mm : Bool} {sK : State} (k : Nat) (vO : Nat) (sO : State) (hk : Kept mm sK sO) : Kept mm sK (ownRetire k vO sO).2 := by
  unfold ownRetire
  repeat' with_reducible first | assumption | apply Kept.setReg | apply command_kept | exact id | split | dsimp only | intro _

theorem execRetire_kept {mm : Bool} (t : Nat) (r : Requester) (k : Fin 64) (v : Bool) (s : State) : KeptN mm s (execRetire t r k v s) := by
  unfold execRetire
  repeat' with_reducible first
      | exact Kept.refl _ | apply KeptN.next | apply Kept.tickTo | apply State.writeObj_kept | apply ownRetire_kept

theorem execRetireFlushEnd_kept {mm : Bool} (t : Nat) (k : Fin 64) (s : State) : KeptN mm s (execRetireFlushEnd t k s) := by
  unfold execRetireFlushEnd
  repeat' with_reducible first
      | exact Kept.refl _ | apply KeptN.next | refine Kept.ite (fun _ => ?_) (fun _ => ?_) | apply Kept.setReg | apply Kept.tickTo
      | apply State.bump_kept | (rw [State.mk_built]; apply Kept.upd)

theorem ownWalkImage_kept {mm : Bool} {sK : State} (imgO : List Byte) (ttO : Nat) (sO : State) (hk : Kept mm sK sO) : Kept mm sK
    (ownWalkImage imgO ttO sO).2 := by
  unfold ownWalkImage
  repeat' with_reducible first | assumption | apply Kept.setImage | apply unscheduled_kept | exact id | split | dsimp only | intro _

theorem walkStart_kept {mm : Bool} {sK : State} (s : State) (hk : Kept mm sK s) : Kept mm sK (walkStart s).2 := by
  unfold walkStart
  repeat' with_reducible first
      | assumption | apply Kept.setReg | refine Kept.ite_snd (fun _ => ?_) (fun _ => ?_) | (rw [State.mk_built]; apply Kept.upd)

theorem walkAbort_kept {mm : Bool} {sK : State} (s : State) (hk : Kept mm sK s) : Kept mm sK (walkAbort s).2 := by
  unfold walkAbort
  repeat' with_reducible first | assumption | refine Kept.ite_snd (fun _ => ?_) (fun _ => ?_) | (rw [State.mk_built]; apply Kept.upd)

theorem ownWalkCtrl_kept {mm : Bool} {sK : State} (vO : Nat) (sO : State) (hk : Kept mm sK sO) : Kept mm sK (ownWalkCtrl vO sO).2 := by
  unfold ownWalkCtrl
  repeat' with_reducible first
      | assumption | refine Kept.ite_snd (fun _ => ?_) (fun _ => ?_) | apply walkStart_kept | apply walkAbort_kept

theorem execWalkStart_kept {mm : Bool} (t : Nat) (r : Requester) (s : State) : KeptN mm s (execWalkStart t r s) := by
  unfold execWalkStart
  repeat' with_reducible first
      | exact Kept.refl _ | apply KeptN.next | apply Kept.tickTo | apply State.writeObj_kept | apply ownWalkCtrl_kept

theorem execWalkAbort_kept {mm : Bool} (t : Nat) (r : Requester) (s : State) : KeptN mm s (execWalkAbort t r s) := by
  unfold execWalkAbort
  repeat' with_reducible first
      | exact Kept.refl _ | apply KeptN.next | apply Kept.tickTo | apply State.writeObj_kept | apply ownWalkCtrl_kept

theorem execWalkPage_kept (t wait : Nat) (s : State) : KeptN false s (execWalkPage t wait s) := by
  unfold execWalkPage
  repeat' with_reducible first
      | exact Kept.refl _ | apply KeptN.next | refine Kept.ite (fun _ => ?_) (fun _ => ?_) | apply Kept.setReg | apply Kept.tickTo
      | apply State.pipeWait_kept | (rw [State.mk_built]; apply Kept.upd) | (rw [State.mk_built]; apply Kept.mem) | exact id
      | apply rekeyPage_wf | split | intro _ | refine Memory.ofWf (by assumption) (by with_unfolding_all rfl)

end Sys2Proof.Machine
end

