-- ==== Sys2Proof/Laws/KeptQueues.lean ====
section
/-! SUPPORT. Queues, fail capture, the Halter and repair: what every function of a state keeps (`Kept`), one law a function, and one a command. Laws with the
parameter `mm` hold with the addressed memories unchanged too; those with `false` are of the functions that may write one. -/

namespace Sys2Proof.Machine

theorem State.feedWrite_kept {sK : State} (s : State) (cluster off : Nat) (b : List Byte) (hk : Kept false sK s) : Kept false sK
    (State.feedWrite s cluster off b) := by
  unfold State.feedWrite
  repeat' with_reducible first
      | assumption | apply State.setBad_kept | (rw [State.mk_built]; apply Kept.mem) | exact id | apply dramWrite_wf

theorem State.netFeed_kept {mm : Bool} {sK : State} (s : State) (cluster off n : Nat) (hk : Kept mm sK s) : Kept mm sK (State.netFeed s
    cluster off n) := by
  unfold State.netFeed
  repeat' with_reducible first | assumption | apply State.bump_kept | (rw [State.mk_built]; apply Kept.upd)

theorem State.feedNetRead_kept {mm : Bool} {sK : State} (s : State) (cluster off n : Nat) (hk : Kept mm sK s) : Kept mm sK
    (State.feedNetRead s cluster off n).2.2 := by
  unfold State.feedNetRead
  repeat' with_reducible first
      | assumption | refine Kept.ite_snd2 (fun _ => ?_) (fun _ => ?_) | apply State.netFeed_kept | apply State.sramRead_kept
      | apply State.sramBad_kept

theorem State.setQueue_kept {mm : Bool} {sK : State} (s : State) (q : Nat) (c : Queue) (hk : Kept mm sK s) : Kept mm sK (State.setQueue s q
    c) := by
  unfold State.setQueue
  repeat' with_reducible first | assumption | (rw [State.mk_built]; apply Kept.upd)

theorem State.ringRead_kept {mm : Bool} {sK : State} (s : State) (c : Queue) (i : Nat) (hk : Kept mm sK s) : Kept mm sK (State.ringRead s c
    i).2 := by
  unfold State.ringRead
  repeat' with_reducible first
      | assumption | refine Kept.ite_snd (fun _ => ?_) (fun _ => ?_) | apply State.feedNetRead_kept | apply State.memReadLine_kept
      | refine Kept.of_eq2 (by assumption) ?_ | split

theorem State.ringWrite_kept {sK : State} (s : State) (c : Queue) (i : Nat) (g : List Byte) (hk : Kept false sK s) : Kept false sK
    (State.ringWrite s c i g).2 := by
  unfold State.ringWrite
  repeat' with_reducible first
      | assumption | refine Kept.ite (fun _ => ?_) (fun _ => ?_) | refine Kept.ite_snd (fun _ => ?_) (fun _ => ?_)
      | apply State.netFeed_kept | apply State.feedWrite_kept | apply State.memWriteLine_kept

theorem State.queueEvent_kept {mm : Bool} {sK : State} (s : State) (q b : Nat) (hk : Kept mm sK s) : Kept mm sK (State.queueEvent s q b) := by
  unfold State.queueEvent
  repeat' with_reducible first | assumption | apply State.setFlag_kept | apply State.raise_kept | split

theorem State.watermarks_kept {mm : Bool} {sK : State} (s : State) (q before : Nat) (hk : Kept mm sK s) : Kept mm sK (State.watermarks s q
    before) := by
  unfold State.watermarks
  repeat' with_reducible first
      | assumption | refine Kept.ite (fun _ => ?_) (fun _ => ?_) | apply State.setQueue_kept | apply State.queueEvent_kept

theorem State.setStream_kept {mm : Bool} {sK : State} (s : State) (i : Nat) (x : Stream) (hk : Kept mm sK s) : Kept mm sK (State.setStream s
    i x) := by
  unfold State.setStream
  repeat' with_reducible first | assumption | (rw [State.mk_built]; apply Kept.upd)

theorem State.setSession_kept {mm : Bool} {sK : State} (s : State) (i : Nat) (x : Session) (hk : Kept mm sK s) : Kept mm sK
    (State.setSession s i x) := by
  unfold State.setSession
  repeat' with_reducible first | assumption | (rw [State.mk_built]; apply Kept.upd)

theorem State.sendSession_kept {mm : Bool} {sK : State} (s : State) (i dtype : Nat) (body : List Byte) (hk : Kept mm sK s) : Kept mm sK
    (State.sendSession s i dtype body) := by
  unfold State.sendSession
  repeat' with_reducible first | assumption | apply State.drawNat_kept | apply State.sendKisko_kept

theorem State.sendAck_kept {mm : Bool} {sK : State} (s : State) (slot i : Nat) (st : Status) (credit acked : Nat) (hk : Kept mm sK s) : Kept
    mm sK (State.sendAck s slot i st credit acked) := by
  unfold State.sendAck
  repeat' with_reducible first | assumption | apply State.sendSession_kept

theorem State.ringGranules_kept {mm : Bool} {sK : State} (s : State) (c : Queue) (k : Nat) (fuel : Nat) (hk : Kept mm sK s) : Kept mm sK
    (State.ringGranules s c k fuel).2.2 := by
  induction fuel generalizing s c k with
  | zero =>
    unfold State.ringGranules
    repeat' with_reducible first | assumption | apply State.ringRead_kept | refine Kept.of_eq2 (by assumption) ?_ | split
  | succ k ih =>
    unfold State.ringGranules
    repeat' with_reducible first
        | assumption | apply State.ringRead_kept | refine ih _ _ _ ?_ | refine Kept.of_eq2 (by assumption) ?_ | split

theorem State.sendGranules_kept {mm : Bool} {sK : State} (s : State) (i first n : Nat) (hk : Kept mm sK s) : Kept mm sK (State.sendGranules
    s i first n).2 := by
  unfold State.sendGranules
  repeat' with_reducible first
      | assumption | refine Kept.ite_snd (fun _ => ?_) (fun _ => ?_) | apply State.ringGranules_kept | apply State.sendSession_kept

theorem State.pumpStream_kept {mm : Bool} {sK : State} (s : State) (i : Nat) (fuel : Nat) (hk : Kept mm sK s) : Kept mm sK (State.pumpStream
    s i fuel) := by
  induction fuel generalizing s i with
  | zero =>
    unfold State.pumpStream
    repeat' with_reducible first
        | assumption | refine Kept.ite (fun _ => ?_) (fun _ => ?_) | apply State.sendGranules_kept | apply State.setStream_kept
        | apply State.ledAdd_kept | refine Kept.of_eq2 (by assumption) ?_ | split
  | succ k ih =>
    unfold State.pumpStream
    repeat' with_reducible first
        | assumption | refine Kept.ite (fun _ => ?_) (fun _ => ?_) | apply State.sendGranules_kept | apply State.setStream_kept
        | apply State.ledAdd_kept | refine ih _ _ ?_ | refine Kept.of_eq2 (by assumption) ?_ | split

theorem State.grantStream_kept {mm : Bool} {sK : State} (s : State) (i : Nat) (hk : Kept mm sK s) : Kept mm sK (State.grantStream s i) := by
  unfold State.grantStream
  repeat' with_reducible first
      | assumption | refine Kept.ite (fun _ => ?_) (fun _ => ?_) | apply State.setStream_kept | apply State.sendAck_kept

theorem State.queueMoved_kept {mm : Bool} {sK : State} (s : State) (q : Nat) (hk : Kept mm sK s) : Kept mm sK (State.queueMoved s q) := by
  unfold State.queueMoved
  repeat' with_reducible first | assumption | apply State.pumpStream_kept | apply State.grantStream_kept | split | dsimp only

theorem State.offerDone_kept {mm : Bool} {sK : State} (s : State) (who : Nat) (g : List Byte) (st : Status) (hk : Kept mm sK s) : Kept mm sK
    (State.offerDone s who g st) := by
  unfold State.offerDone
  repeat' with_reducible first
      | assumption | refine Kept.ite (fun _ => ?_) (fun _ => ?_) | apply Kept.setReg | apply State.ledMove_kept | apply State.setFlag_kept
      | apply State.bump_kept | (rw [State.mk_built]; apply Kept.upd) | split

theorem State.reserve_kept {mm : Bool} {sK : State} (s : State) (q who : Nat) (g : List Byte) (hk : Kept mm sK s) : Kept mm sK
    (State.reserve s q who g) := by
  unfold State.reserve
  repeat' with_reducible first | assumption | apply State.setQueue_kept | apply State.ledMove_kept

theorem State.refuseOffer_kept {mm : Bool} {sK : State} (s : State) (q who : Nat) (g : List Byte) (hk : Kept mm sK s) : Kept mm sK
    (State.refuseOffer s q who g) := by
  unfold State.refuseOffer
  repeat' with_reducible first | assumption | apply State.ledAdd_kept | apply State.queueEvent_kept | apply State.offerDone_kept

theorem State.ringFault_kept {mm : Bool} {sK : State} (s : State) (q num : Nat) (st : Status) (hk : Kept mm sK s) : Kept mm sK
    (State.ringFault s q num st) := by
  unfold State.ringFault
  repeat' with_reducible first
      | assumption | refine Kept.foldl _ (fun _ _ _ => ?_) _ _ ?_ | apply Kept.setReg | apply State.setQueue_kept
      | apply State.ledMove_kept | apply State.queueEvent_kept | apply State.offerDone_kept

theorem State.descRead_kept {mm : Bool} {sK : State} (s : State) (q : Nat) (hk : Kept mm sK s) : Kept mm sK (State.descRead s q) := by
  unfold State.descRead
  repeat' with_reducible first
      | assumption | refine Kept.ite (fun _ => ?_) (fun _ => ?_) | refine Kept.foldl _ (fun _ _ _ => ?_) _ _ ?_ | apply State.sramBad_kept
      | apply State.sramRead_kept | apply State.setBad_kept | apply State.ringFault_kept

theorem State.offer_kept {mm : Bool} {sK : State} (s : State) (q who : Nat) (g : List Byte) (hk : Kept mm sK s) : Kept mm sK (State.offer s
    q who g) := by
  unfold State.offer
  repeat' with_reducible first
      | assumption | refine Kept.ite (fun _ => ?_) (fun _ => ?_) | apply State.descRead_kept | apply State.reserve_kept
      | apply State.ledAdd_kept | apply State.refuseOffer_kept

theorem execProducerOffer_kept {mm : Bool} (t : Nat) (q : Fin 32768) (gran : List Byte) (s : State) : KeptN mm s (execProducerOffer t q gran
    s) := by
  unfold execProducerOffer
  repeat' with_reducible first
      | exact Kept.refl _ | apply KeptN.next | apply Kept.tickTo | apply State.offer_kept | (rw [State.mk_built]; apply Kept.upd)

theorem State.commitGranules_kept {mm : Bool} {sK : State} (s : State) (q n : Nat) (hk : Kept mm sK s) : Kept mm sK (State.commitGranules s
    q n) := by
  unfold State.commitGranules
  repeat' with_reducible first | assumption | apply State.setQueue_kept | apply State.ledMove_kept | apply State.bump_kept

theorem State.commitHead_kept {mm : Bool} {sK : State} (s : State) (q : Nat) (hk : Kept mm sK s) : Kept mm sK (State.commitHead s q) := by
  unfold State.commitHead
  repeat' with_reducible first
      | assumption | refine Kept.ite (fun _ => ?_) (fun _ => ?_) | refine Kept.foldl _ (fun _ _ _ => ?_) _ _ ?_
      | apply State.commitGranules_kept | apply State.offerDone_kept | apply State.watermarks_kept | apply State.queueMoved_kept

theorem execRingWriteComplete_kept (t : Nat) (q : Fin 32768) (num : Nat) (s : State) : KeptN false s (execRingWriteComplete t q num s) := by
  unfold execRingWriteComplete
  repeat' with_reducible first
      | exact Kept.refl _ | apply KeptN.next | refine Kept.ite (fun _ => ?_) (fun _ => ?_) | apply Kept.tickTo
      | apply State.ringWrite_kept | apply State.setQueue_kept | apply State.commitHead_kept | apply State.ringFault_kept
      | refine Kept.of_eq2 (by assumption) ?_ | split

theorem State.consume_kept {mm : Bool} {sK : State} (s : State) (q n : Nat) (hk : Kept mm sK s) : Kept mm sK (State.consume s q n) := by
  unfold State.consume
  repeat' with_reducible first
      | assumption | apply State.descRead_kept | apply State.setQueue_kept | apply State.ledMove_kept | apply State.bump_kept
      | apply State.watermarks_kept

theorem ownDesc_kept {mm : Bool} {sK : State} (q : Nat) (imgO : List Byte) (ttO : Nat) (sO : State) (hk : Kept mm sK sO) : Kept mm sK
    (ownDesc q imgO ttO sO).2 := by
  unfold ownDesc
  repeat' with_reducible first | assumption | apply unscheduled_kept | apply State.setQueue_kept | exact id | split | dsimp only | intro _

theorem execDescCommit_kept {mm : Bool} (t : Nat) (r : Requester) (q : Fin 32768) (crc tt : Nat) (s : State) : KeptN mm s (execDescCommit t
    r q crc tt s) := by
  unfold execDescCommit
  repeat' with_reducible first
      | exact Kept.refl _ | apply KeptN.next | apply Kept.tickTo | apply State.commitObj_kept | apply ownDesc_kept

theorem ownEnable_kept {mm : Bool} {sK : State} (q : Nat) (vO : Nat) (sO : State) (hk : Kept mm sK sO) : Kept mm sK (ownEnable q vO sO).2 := by
  unfold ownEnable
  repeat' with_reducible first
      | assumption | apply Kept.setReg | refine Kept.ite_snd (fun _ => ?_) (fun _ => ?_) | apply State.ledAdd_kept
      | apply State.queueMoved_kept

theorem execEnable_kept {mm : Bool} (t : Nat) (r : Requester) (q : Fin 32768) (v : Bool) (s : State) : KeptN mm s (execEnable t r q v s) := by
  unfold execEnable
  repeat' with_reducible first
      | exact Kept.refl _ | apply KeptN.next | apply Kept.tickTo | apply State.writeObj_kept | apply ownEnable_kept

theorem execDrainComplete_kept {mm : Bool} (t : Nat) (q : Fin 32768) (s : State) : KeptN mm s (execDrainComplete t q s) := by
  unfold execDrainComplete
  repeat' with_reducible first
      | exact Kept.refl _ | apply KeptN.next | refine Kept.ite (fun _ => ?_) (fun _ => ?_) | apply Kept.setReg | apply Kept.tickTo
      | apply State.ledSub_kept

theorem ownProdDoorbell_kept {mm : Bool} {sK : State} (q : Nat) (vO : Nat) (sO : State) (hk : Kept mm sK sO) : Kept mm sK (ownProdDoorbell q
    vO sO).2 := by
  unfold ownProdDoorbell
  repeat' with_reducible first
      | assumption | refine Kept.ite_snd (fun _ => ?_) (fun _ => ?_) | apply State.setQueue_kept | apply State.ledMove_kept
      | apply State.ledAdd_kept | apply State.bump_kept | apply State.watermarks_kept | apply State.queueMoved_kept

theorem execProdDoorbell_kept {mm : Bool} (t : Nat) (r : Requester) (q : Fin 32768) (n : Nat) (s : State) : KeptN mm s (execProdDoorbell t r
    q n s) := by
  unfold execProdDoorbell
  repeat' with_reducible first
      | exact Kept.refl _ | apply KeptN.next | apply Kept.tickTo | apply State.writeObj_kept | apply ownProdDoorbell_kept

theorem ownConsDoorbell_kept {mm : Bool} {sK : State} (q : Nat) (vO : Nat) (sO : State) (hk : Kept mm sK sO) : Kept mm sK (ownConsDoorbell q
    vO sO).2 := by
  unfold ownConsDoorbell
  repeat' with_reducible first
      | assumption | refine Kept.ite_snd (fun _ => ?_) (fun _ => ?_) | apply State.consume_kept | apply State.queueMoved_kept

theorem execConsDoorbell_kept {mm : Bool} (t : Nat) (r : Requester) (q : Fin 32768) (n : Nat) (s : State) : KeptN mm s (execConsDoorbell t r
    q n s) := by
  unfold execConsDoorbell
  repeat' with_reducible first
      | exact Kept.refl _ | apply KeptN.next | apply Kept.tickTo | apply State.writeObj_kept | apply ownConsDoorbell_kept

theorem ownWmHigh_kept {mm : Bool} {sK : State} (q : Nat) (vO : Nat) (sO : State) (hk : Kept mm sK sO) : Kept mm sK (ownWmHigh q vO sO).2 := by
  unfold ownWmHigh
  repeat' with_reducible first | assumption | apply Kept.setReg | refine Kept.ite_snd (fun _ => ?_) (fun _ => ?_)

theorem ownWmLow_kept {mm : Bool} {sK : State} (q : Nat) (vO : Nat) (sO : State) (hk : Kept mm sK sO) : Kept mm sK (ownWmLow q vO sO).2 := by
  unfold ownWmLow
  repeat' with_reducible first | assumption | apply Kept.setReg | refine Kept.ite_snd (fun _ => ?_) (fun _ => ?_)

theorem ownDeadlineArm_kept {mm : Bool} {sK : State} (q : Nat) (vO : Nat) (sO : State) (hk : Kept mm sK sO) : Kept mm sK (ownDeadlineArm q
    vO sO).2 := by
  unfold ownDeadlineArm
  repeat' with_reducible first | assumption | apply arming_kept | apply State.armAction_kept | exact id | split | intro _

theorem execDeadlineArm_kept {mm : Bool} (t : Nat) (r : Requester) (q : Fin 32768) (v : Bool) (s : State) : KeptN mm s (execDeadlineArm t r
    q v s) := by
  unfold execDeadlineArm
  repeat' with_reducible first
      | exact Kept.refl _ | apply KeptN.next | apply Kept.tickTo | apply State.writeObj_kept | apply ownDeadlineArm_kept

theorem ownDeadlineCancel_kept {mm : Bool} {sK : State} (q : Nat) (vO : Nat) (sO : State) (hk : Kept mm sK sO) : Kept mm sK
    (ownDeadlineCancel q vO sO).2 := by
  unfold ownDeadlineCancel
  repeat' with_reducible first | assumption | apply command_kept | apply State.cancelAction_kept | intro _

theorem execDeadlineCancel_kept {mm : Bool} (t : Nat) (r : Requester) (q : Fin 32768) (v : Bool) (s : State) : KeptN mm s
    (execDeadlineCancel t r q v s) := by
  unfold execDeadlineCancel
  repeat' with_reducible first
      | exact Kept.refl _ | apply KeptN.next | apply Kept.tickTo | apply State.writeObj_kept | apply ownDeadlineCancel_kept

theorem ownQueueFlush_kept {mm : Bool} {sK : State} (q : Nat) (vO : Nat) (sO : State) (hk : Kept mm sK sO) : Kept mm sK (ownQueueFlush q vO
    sO).2 := by
  unfold ownQueueFlush
  repeat' with_reducible first
      | assumption | apply command_kept | apply State.setQueue_kept | apply State.ledMove_kept | apply State.bump_kept
      | apply State.watermarks_kept | apply State.queueMoved_kept | exact id | split | dsimp only | intro _

theorem execQueueFlush_kept {mm : Bool} (t : Nat) (r : Requester) (q : Fin 32768) (v : Bool) (s : State) : KeptN mm s (execQueueFlush t r q
    v s) := by
  unfold execQueueFlush
  repeat' with_reducible first
      | exact Kept.refl _ | apply KeptN.next | apply Kept.tickTo | apply State.writeObj_kept | apply ownQueueFlush_kept

theorem State.applySites_kept {mm : Bool} {sK : State} (s : State) (w : Nat) (img : List Byte) (hk : Kept mm sK s) : Kept mm sK
    (State.applySites s w img) := by
  unfold State.applySites
  repeat' with_reducible first | assumption | apply State.swapImage_kept

theorem ownSites_kept {mm : Bool} {sK : State} (imgO : List Byte) (ttO : Nat) (sO : State) (hk : Kept mm sK sO) : Kept mm sK (ownSites imgO
    ttO sO).2 := by
  unfold ownSites
  repeat' with_reducible first
      | assumption | apply scheduled_kept | apply State.applySites_kept | apply State.armAction_kept
      | (rw [State.mk_built]; apply Kept.upd) | exact id | split | dsimp only | intro _

theorem execSitesCommit_kept {mm : Bool} (t : Nat) (w : CommitStep) (s : State) : KeptN mm s (execSitesCommit t w s) := by
  unfold execSitesCommit
  repeat' with_reducible first
      | exact Kept.refl _ | apply KeptN.next | refine Kept.ite (fun _ => ?_) (fun _ => ?_) | apply Kept.tickTo
      | apply State.commitObj_kept | apply ownSites_kept | apply State.endAction_kept | apply State.applySites_kept
      | (rw [State.mk_built]; apply Kept.upd) | split

theorem State.countSite_kept {mm : Bool} {sK : State} (s : State) (site : Nat) (hk : Kept mm sK s) : Kept mm sK (State.countSite s site) := by
  unfold State.countSite
  repeat' with_reducible first | assumption | (rw [State.mk_built]; apply Kept.upd)

theorem ownSiteFailsClear_kept {mm : Bool} {sK : State} (vO : Nat) (sO : State) (hk : Kept mm sK sO) : Kept mm sK (ownSiteFailsClear vO
    sO).2 := by
  unfold ownSiteFailsClear
  repeat' with_reducible first | assumption | apply command_kept | (rw [State.mk_built]; apply Kept.upd) | dsimp only | intro _

theorem execSiteFailsClear_kept {mm : Bool} (t : Nat) (r : Requester) (v : Bool) (s : State) : KeptN mm s (execSiteFailsClear t r v s) := by
  unfold execSiteFailsClear
  repeat' with_reducible first
      | exact Kept.refl _ | apply KeptN.next | apply Kept.tickTo | apply State.writeObj_kept | apply ownSiteFailsClear_kept

theorem ownChanCfg_kept {mm : Bool} {sK : State} (q : Nat) (imgO : List Byte) (ttO : Nat) (sO : State) (hk : Kept mm sK sO) : Kept mm sK
    (ownChanCfg q imgO ttO sO).2 := by
  unfold ownChanCfg
  repeat' with_reducible first | assumption | apply Kept.setImage | apply unscheduled_kept | exact id | split | dsimp only | intro _

theorem execChanCfgCommit_kept {mm : Bool} (t : Nat) (r : Requester) (q : Fin 4) (crc tt : Nat) (s : State) : KeptN mm s (execChanCfgCommit
    t r q crc tt s) := by
  unfold execChanCfgCommit
  repeat' with_reducible first
      | exact Kept.refl _ | apply KeptN.next | apply Kept.tickTo | apply State.commitObj_kept | apply ownChanCfg_kept

theorem ownQueueNo_kept {mm : Bool} {sK : State} (o : Nat) (vO : Nat) (sO : State) (hk : Kept mm sK sO) : Kept mm sK (ownQueueNo o vO sO).2 := by
  unfold ownQueueNo
  repeat' with_reducible first | assumption | apply Kept.setReg | refine Kept.ite_snd (fun _ => ?_) (fun _ => ?_)

theorem State.setFc_kept {mm : Bool} {sK : State} (s : State) (q : Nat) (u : FcUnit) (hk : Kept mm sK s) : Kept mm sK (State.setFc s q u) := by
  unfold State.setFc
  repeat' with_reducible first | assumption | apply Kept.setReg | apply State.raiseMax_kept | (rw [State.mk_built]; apply Kept.upd)

theorem State.fcOutput_kept {mm : Bool} {sK : State} (s : State) (q : Nat) (r : FailRec) (hk : Kept mm sK s) : Kept mm sK (State.fcOutput s
    q r) := by
  unfold State.fcOutput
  repeat' with_reducible first
      | assumption | refine Kept.ite (fun _ => ?_) (fun _ => ?_) | apply State.setFc_kept | apply State.ledMove_kept
      | apply State.bump_kept | apply State.setFlag_kept

theorem State.closeRun_kept {mm : Bool} {sK : State} (s : State) (q src : Nat) (hk : Kept mm sK s) : Kept mm sK (State.closeRun s q src) := by
  unfold State.closeRun
  repeat' with_reducible first | assumption | apply State.setFc_kept | apply State.fcOutput_kept | split

theorem State.runMerge_kept {mm : Bool} {sK : State} (s : State) (q : Nat) (r : FailRec) (hk : Kept mm sK s) : Kept mm sK (State.runMerge s
    q r) := by
  unfold State.runMerge
  repeat' with_reducible first
      | assumption | refine Kept.ite (fun _ => ?_) (fun _ => ?_) | apply State.fcOutput_kept | apply State.setFc_kept
      | apply State.closeRun_kept | split

theorem State.presentFail_kept {mm : Bool} {sK : State} (s : State) (v : FailVec) (hk : Kept mm sK s) : Kept mm sK (State.presentFail s v) := by
  unfold State.presentFail
  repeat' with_reducible first
      | assumption | refine Kept.ite (fun _ => ?_) (fun _ => ?_) | apply State.setFc_kept | apply State.runMerge_kept | split

theorem State.releaseHeld_kept {mm : Bool} {sK : State} (s : State) (q src : Nat) (hk : Kept mm sK s) : Kept mm sK (State.releaseHeld s q
    src) := by
  unfold State.releaseHeld
  repeat' with_reducible first
      | assumption | refine Kept.foldl _ (fun _ _ _ => ?_) _ _ ?_ | apply State.presentFail_kept | apply State.setFc_kept

theorem State.closeWord_kept {mm : Bool} {sK : State} (s : State) (q src : Nat) (hk : Kept mm sK s) : Kept mm sK (State.closeWord s q src) := by
  unfold State.closeWord
  repeat' with_reducible first
      | assumption | refine Kept.ite (fun _ => ?_) (fun _ => ?_) | apply State.setFc_kept | apply State.runMerge_kept
      | apply State.releaseHeld_kept | apply State.closeRun_kept | split

theorem execWordRecordClose_kept {mm : Bool} (t : Nat) (q : Fin 4) (g : Fin 16) (s : State) : KeptN mm s (execWordRecordClose t q g s) := by
  unfold execWordRecordClose
  repeat' with_reducible first
      | exact Kept.refl _ | apply KeptN.next | refine Kept.ite (fun _ => ?_) (fun _ => ?_) | apply Kept.tickTo
      | apply State.closeWord_kept | split

theorem execRunIdleExpiry_kept {mm : Bool} (t : Nat) (q : Fin 4) (src : Fin 52) (s : State) : KeptN mm s (execRunIdleExpiry t q src s) := by
  unfold execRunIdleExpiry
  repeat' with_reducible first
      | exact Kept.refl _ | apply KeptN.next | refine Kept.ite (fun _ => ?_) (fun _ => ?_) | apply Kept.tickTo | apply State.closeRun_kept
      | split

theorem State.presentOpen_kept {mm : Bool} {sK : State} (s : State) (q : Nat) (hk : Kept mm sK s) : Kept mm sK (State.presentOpen s q) := by
  unfold State.presentOpen
  repeat' with_reducible first
      | assumption | refine Kept.ite (fun _ => ?_) (fun _ => ?_) | refine Kept.foldl _ (fun _ _ _ => ?_) _ _ ?_
      | apply State.presentFail_kept | (rw [State.mk_built]; apply Kept.upd)

theorem State.closeWords_kept {mm : Bool} {sK : State} (s : State) (q src : Nat) (fuel : Nat) (hk : Kept mm sK s) : Kept mm sK
    (State.closeWords s q src fuel) := by
  induction fuel generalizing s q src with
  | zero =>
    unfold State.closeWords
    repeat' with_reducible first | assumption | apply State.closeWord_kept | split
  | succ k ih =>
    unfold State.closeWords
    repeat' with_reducible first | assumption | apply State.closeWord_kept | refine ih _ _ _ ?_ | split

theorem State.flushUnit_kept {mm : Bool} {sK : State} (s : State) (q : Nat) (hk : Kept mm sK s) : Kept mm sK (State.flushUnit s q) := by
  unfold State.flushUnit
  repeat' with_reducible first
      | assumption | refine Kept.foldl _ (fun _ _ _ => ?_) _ _ ?_ | apply State.presentOpen_kept | apply State.closeWords_kept
      | apply State.closeRun_kept

theorem ownFcFlush_kept {mm : Bool} {sK : State} (q : Nat) (vO : Nat) (sO : State) (hk : Kept mm sK sO) : Kept mm sK (ownFcFlush q vO sO).2 := by
  unfold ownFcFlush
  repeat' with_reducible first | assumption | apply command_kept | apply State.flushUnit_kept | dsimp only | intro _

theorem execFcFlush_kept {mm : Bool} (t : Nat) (r : Requester) (q : Fin 4) (v : Bool) (s : State) : KeptN mm s (execFcFlush t r q v s) := by
  unfold execFcFlush
  repeat' with_reducible first
      | exact Kept.refl _ | apply KeptN.next | apply Kept.tickTo | apply State.writeObj_kept | apply ownFcFlush_kept

theorem ownRunEn_kept {mm : Bool} {sK : State} (q : Nat) (vO : Nat) (sO : State) (hk : Kept mm sK sO) : Kept mm sK (ownRunEn q vO sO).2 := by
  unfold ownRunEn
  repeat' with_reducible first
      | assumption | refine Kept.ite (fun _ => ?_) (fun _ => ?_) | refine Kept.foldl _ (fun _ _ _ => ?_) _ _ ?_ | apply Kept.setReg
      | apply State.closeRun_kept

theorem execRunEnWrite_kept {mm : Bool} (t : Nat) (r : Requester) (q : Fin 4) (v : Bool) (s : State) : KeptN mm s (execRunEnWrite t r q v s) := by
  unfold execRunEnWrite
  repeat' with_reducible first
      | exact Kept.refl _ | apply KeptN.next | apply Kept.tickTo | apply State.writeObj_kept | apply ownRunEn_kept

theorem State.parkCapture_kept {mm : Bool} {sK : State} (s : State) (ch : Nat) (hk : Kept mm sK s) : Kept mm sK (State.parkCapture s ch) := by
  unfold State.parkCapture
  repeat' with_reducible first
      | assumption | refine Kept.ite (fun _ => ?_) (fun _ => ?_) | apply State.closeRun_kept | apply State.setFc_kept

theorem execRecordOffer_kept {mm : Bool} (t : Nat) (q : Fin 4) (s : State) : KeptN mm s (execRecordOffer t q s) := by
  unfold execRecordOffer
  repeat' with_reducible first
      | exact Kept.refl _ | apply KeptN.next | refine Kept.ite (fun _ => ?_) (fun _ => ?_) | apply Kept.tickTo | apply State.setFc_kept
      | apply State.offerDone_kept | apply State.offer_kept | split

theorem State.dropRecords_kept {mm : Bool} {sK : State} (s : State) (q : Nat) (hk : Kept mm sK s) : Kept mm sK (State.dropRecords s q) := by
  unfold State.dropRecords
  repeat' with_reducible first | assumption | apply State.ledMove_kept

theorem State.dropFails_kept {mm : Bool} {sK : State} (s : State) (ch : Nat) (hk : Kept mm sK s) : Kept mm sK (State.dropFails s ch) := by
  unfold State.dropFails
  repeat' with_reducible first | assumption | apply State.ledMove_kept

theorem State.countFail_kept {mm : Bool} {sK : State} (s : State) (ch site inst : Nat) (hk : Kept mm sK s) : Kept mm sK (State.countFail s
    ch site inst) := by
  unfold State.countFail
  repeat' with_reducible first | assumption | apply State.countSite_kept | apply State.ledAdd_kept

theorem State.representHeld_kept {mm : Bool} {sK : State} (s : State) (u : Nat) (hk : Kept mm sK s) : Kept mm sK (State.representHeld s u) := by
  unfold State.representHeld
  repeat' with_reducible first | assumption | refine Kept.foldl _ (fun _ _ _ => ?_) _ _ ?_ | apply State.releaseHeld_kept

theorem execQueueDeadline_kept {mm : Bool} (t : Nat) (q : Fin 32768) (s : State) : KeptN mm s (execQueueDeadline t q s) := by
  unfold execQueueDeadline
  repeat' with_reducible first
      | assumption | exact Kept.refl _ | apply KeptN.next | refine Kept.ite (fun _ => ?_) (fun _ => ?_)
      | refine Kept.foldl _ (fun _ _ _ => ?_) _ _ ?_ | apply Kept.tickTo | apply State.flushUnit_kept | apply State.endAction_kept
      | apply State.representHeld_kept | apply State.setQueue_kept | split

theorem execDeadline_kept {mm : Bool} (t : Nat) (q : Fin 32768) (s : State) : KeptN mm s (execDeadline t q s) := by
  unfold execDeadline
  repeat' with_reducible first
      | exact Kept.refl _ | apply KeptN.next | refine Kept.ite (fun _ => ?_) (fun _ => ?_) | apply Kept.tickTo | apply State.setQueue_kept
      | apply State.queueEvent_kept | split

theorem State.setHunit_kept {mm : Bool} {sK : State} (s : State) (k u : Nat) (x : HUnit) (hk : Kept mm sK s) : Kept mm sK (State.setHunit s
    k u x) := by
  unfold State.setHunit
  repeat' with_reducible first | assumption | (rw [State.mk_built]; apply Kept.upd)

theorem State.setHline_kept {mm : Bool} {sK : State} (s : State) (k : Nat) (x : HLine) (hk : Kept mm sK s) : Kept mm sK (State.setHline s k
    x) := by
  unfold State.setHline
  repeat' with_reducible first | assumption | (rw [State.mk_built]; apply Kept.upd)

theorem State.holdUnitAt_kept {mm : Bool} {sK : State} (s : State) (w k u : Nat) (h : Holding) (hk : Kept mm sK s) : Kept mm sK
    (State.holdUnitAt s w k u h) := by
  unfold State.holdUnitAt
  repeat' with_reducible first | assumption | apply State.setHunit_kept

theorem State.clearStickyAt_kept {mm : Bool} {sK : State} (s : State) (w k u : Nat) (hk : Kept mm sK s) : Kept mm sK (State.clearStickyAt s
    w k u) := by
  unfold State.clearStickyAt
  repeat' with_reducible first | assumption | apply State.setHunit_kept

theorem State.holdUnit_kept {mm : Bool} {sK : State} (s : State) (k u : Nat) (h : Holding) (hk : Kept mm sK s) : Kept mm sK (State.holdUnit
    s k u h) := by
  unfold State.holdUnit
  repeat' with_reducible first | assumption | apply State.holdUnitAt_kept

theorem State.clearSticky_kept {mm : Bool} {sK : State} (s : State) (k u : Nat) (hk : Kept mm sK s) : Kept mm sK (State.clearSticky s k u) := by
  unfold State.clearSticky
  repeat' with_reducible first | assumption | apply State.clearStickyAt_kept

theorem State.haltLedger_kept {mm : Bool} {sK : State} (s : State) (k : Nat) (hk : Kept mm sK s) : Kept mm sK (State.haltLedger s k) := by
  unfold State.haltLedger
  repeat' with_reducible first | assumption | apply Kept.setReg

theorem State.freeUnits_kept {mm : Bool} {sK : State} (s : State) (k : Nat) (us : List Nat) (hk : Kept mm sK s) : Kept mm sK
    (State.freeUnits s k us) := by
  unfold State.freeUnits
  repeat' with_reducible first
      | assumption | refine Kept.foldl _ (fun _ _ _ => ?_) _ _ ?_ | apply State.holdUnit_kept | apply State.clearSticky_kept
      | apply State.haltLedger_kept

theorem State.haltCount_kept {mm : Bool} {sK : State} (s : State) (k n : Nat) (hk : Kept mm sK s) : Kept mm sK (State.haltCount s k n) := by
  unfold State.haltCount
  repeat' with_reducible first | assumption | apply State.bump_kept | apply State.countEvent_kept

theorem State.haltTrace_kept {mm : Bool} {sK : State} (s : State) (k : Nat) (level : Bool) (hk : Kept mm sK s) : Kept mm sK (State.haltTrace
    s k level) := by
  unfold State.haltTrace
  repeat' with_reducible first
      | assumption | refine Kept.ite (fun _ => ?_) (fun _ => ?_) | apply State.setHline_kept | apply State.trace_kept

theorem State.assertUnit_kept {mm : Bool} {sK : State} (s : State) (k u w : Nat) (hk : Kept mm sK s) : Kept mm sK (State.assertUnit s k u w) := by
  unfold State.assertUnit
  repeat' with_reducible first
      | assumption | refine Kept.ite (fun _ => ?_) (fun _ => ?_) | apply State.haltCount_kept | apply State.setHunit_kept
      | apply State.haltTrace_kept

theorem State.contribute_kept {mm : Bool} {sK : State} (s : State) (b : HBit) (hk : Kept mm sK s) : Kept mm sK (State.contribute s b) := by
  unfold State.contribute
  repeat' with_reducible first
      | assumption | refine Kept.ite (fun _ => ?_) (fun _ => ?_) | refine Kept.foldl _ (fun _ _ _ => ?_) _ _ ?_
      | apply State.setHunit_kept | apply State.assertUnit_kept

theorem State.takeSample_kept {mm : Bool} {sK : State} (s : State) (upto k : Nat) (hk : Kept mm sK s) : Kept mm sK (State.takeSample s upto
    k) := by
  unfold State.takeSample
  repeat' with_reducible first
      | assumption | refine Kept.ite (fun _ => ?_) (fun _ => ?_) | refine Kept.foldl _ (fun _ _ _ => ?_) _ _ ?_
      | apply State.setHline_kept | (rw [State.mk_built]; apply Kept.upd) | split

theorem State.takeSamples_kept {mm : Bool} {sK : State} (s : State) (upto : Nat) (hk : Kept mm sK s) : Kept mm sK (State.takeSamples s upto) := by
  unfold State.takeSamples
  repeat' with_reducible first | assumption | refine Kept.foldl _ (fun _ _ _ => ?_) _ _ ?_ | apply State.takeSample_kept

theorem State.haltPump_kept {mm : Bool} {sK : State} (s : State) (hk : Kept mm sK s) : Kept mm sK (State.haltPump s) := by
  unfold State.haltPump
  repeat' with_reducible first
      | assumption | refine Kept.ite (fun _ => ?_) (fun _ => ?_) | refine Kept.foldl _ (fun _ _ _ => ?_) _ _ ?_
      | apply State.contribute_kept | apply State.haltTrace_kept | apply State.takeSamples_kept | (rw [State.mk_built]; apply Kept.upd)

theorem State.haltBit_kept {mm : Bool} {sK : State} (s : State) (b ch site : Nat) (fail : Bool) (hk : Kept mm sK s) : Kept mm sK
    (State.haltBit s b ch site fail) := by
  unfold State.haltBit
  repeat' with_reducible first | assumption | (rw [State.mk_built]; apply Kept.upd)

theorem State.applyLine_kept {mm : Bool} {sK : State} (s : State) (w : Nat) (img : List Byte) (k : Nat) (hk : Kept mm sK s) : Kept mm sK
    (State.applyLine s w img k) := by
  unfold State.applyLine
  repeat' with_reducible first
      | assumption | refine Kept.foldl _ (fun _ _ _ => ?_) _ _ ?_ | apply Kept.setReg | apply State.swapImage_kept
      | apply State.holdUnitAt_kept | apply State.clearStickyAt_kept | apply State.setHunit_kept | apply State.haltLedger_kept

theorem State.applyTable_kept {mm : Bool} {sK : State} (s : State) (w : Nat) (img : List Byte) (hk : Kept mm sK s) : Kept mm sK
    (State.applyTable s w img).2 := by
  unfold State.applyTable
  repeat' with_reducible first
      | assumption | refine Kept.ite (fun _ => ?_) (fun _ => ?_) | refine Kept.foldl _ (fun _ _ _ => ?_) _ _ ?_
      | refine Kept.ite_snd (fun _ => ?_) (fun _ => ?_) | apply State.haltPump_kept | apply State.bump_kept | apply State.swapImage_kept
      | apply State.applyLine_kept

theorem ownHaltTable_kept {mm : Bool} {sK : State} (imgO : List Byte) (ttO : Nat) (sO : State) (hk : Kept mm sK sO) : Kept mm sK
    (ownHaltTable imgO ttO sO).2 := by
  unfold ownHaltTable
  repeat' with_reducible first
      | assumption | apply scheduled_kept | apply State.bump_kept | apply State.applyTable_kept | apply State.armAction_kept
      | (rw [State.mk_built]; apply Kept.upd) | exact id | split | dsimp only | intro _

theorem State.tableDue_kept {mm : Bool} {sK : State} (s : State) (hk : Kept mm sK s) : Kept mm sK (State.tableDue s) := by
  unfold State.tableDue
  repeat' with_reducible first
      | assumption | refine Kept.ite (fun _ => ?_) (fun _ => ?_) | apply State.applyTable_kept | apply State.endAction_kept
      | (rw [State.mk_built]; apply Kept.upd) | split

theorem execTable_kept {mm : Bool} (t : Nat) (w : CommitStep) (s : State) : KeptN mm s (execTable t w s) := by
  unfold execTable
  repeat' with_reducible first
      | exact Kept.refl _ | apply KeptN.next | apply Kept.tickTo | apply State.commitObj_kept | apply ownHaltTable_kept
      | apply State.tableDue_kept | split

theorem State.applySiteMask_kept {mm : Bool} {sK : State} (s : State) (w k : Nat) (img : List Byte) (hk : Kept mm sK s) : Kept mm sK
    (State.applySiteMask s w k img) := by
  unfold State.applySiteMask
  repeat' with_reducible first | assumption | apply State.haltPump_kept | apply State.swapImage_kept

theorem ownSiteMask_kept {mm : Bool} {sK : State} (k : Nat) (imgO : List Byte) (ttO : Nat) (sO : State) (hk : Kept mm sK sO) : Kept mm sK
    (ownSiteMask k imgO ttO sO).2 := by
  unfold ownSiteMask
  repeat' with_reducible first
      | assumption | apply scheduled_kept | apply State.applySiteMask_kept | apply State.armAction_kept
      | (rw [State.mk_built]; apply Kept.upd) | exact id | split | dsimp only | intro _

theorem execSiteMask_kept {mm : Bool} (t : Nat) (k : Fin 8) (w : CommitStep) (s : State) : KeptN mm s (execSiteMask t k w s) := by
  unfold execSiteMask
  repeat' with_reducible first
      | exact Kept.refl _ | apply KeptN.next | refine Kept.ite (fun _ => ?_) (fun _ => ?_) | apply Kept.tickTo
      | apply State.commitObj_kept | apply ownSiteMask_kept | apply State.applySiteMask_kept | apply State.endAction_kept
      | (rw [State.mk_built]; apply Kept.upd) | split

theorem ownYardSide_kept {mm : Bool} {sK : State} (o : Nat) (vO : Nat) (sO : State) (hk : Kept mm sK sO) : Kept mm sK (ownYardSide o vO
    sO).2 := by
  unfold ownYardSide
  repeat' with_reducible first | assumption | apply Kept.setReg | refine Kept.ite_snd (fun _ => ?_) (fun _ => ?_)

theorem State.decideClaim_kept {mm : Bool} {sK : State} (s : State) (e k : Nat) (virt : Bool) (slot w : Nat) (hk : Kept mm sK s) : Kept mm
    sK (State.decideClaim s e k virt slot w).2 := by
  unfold State.decideClaim
  repeat' with_reducible first
      | assumption | refine Kept.ite (fun _ => ?_) (fun _ => ?_) | refine Kept.foldl _ (fun _ _ _ => ?_) _ _ ?_ | apply Kept.setReg
      | apply State.haltPump_kept | apply State.bump_kept | apply State.raiseMax_kept | apply State.holdUnit_kept
      | apply State.clearSticky_kept | apply State.haltLedger_kept | apply State.countEvent_kept | apply State.trace_kept | split
      | dsimp only

theorem State.releaseAll_kept {mm : Bool} {sK : State} (s : State) (e : Nat) (hk : Kept mm sK s) : Kept mm sK (State.releaseAll s e) := by
  unfold State.releaseAll
  repeat' with_reducible first
      | assumption | refine Kept.ite (fun _ => ?_) (fun _ => ?_) | refine Kept.foldl _ (fun _ _ _ => ?_) _ _ ?_
      | apply State.freeUnits_kept | apply State.bump_kept | apply State.haltPump_kept

theorem State.disarm_kept {mm : Bool} {sK : State} (s : State) (e : Nat) (hk : Kept mm sK s) : Kept mm sK (State.disarm s e) := by
  unfold State.disarm
  repeat' with_reducible first
      | assumption | refine Kept.ite (fun _ => ?_) (fun _ => ?_) | apply State.freeUnits_kept | apply State.bump_kept
      | (rw [State.mk_built]; apply Kept.upd) | split | dsimp only

theorem execReleaseDisarm_kept {mm : Bool} (t : Nat) (e : Fin 512) (s : State) : KeptN mm s (execReleaseDisarm t e s) := by
  unfold execReleaseDisarm
  repeat' with_reducible first
      | exact Kept.refl _ | apply KeptN.next | apply Kept.tickTo | apply State.haltPump_kept | apply State.disarm_kept

theorem State.disarmAll_kept {mm : Bool} {sK : State} (s : State) (hk : Kept mm sK s) : Kept mm sK (State.disarmAll s) := by
  unfold State.disarmAll
  repeat' with_reducible first | assumption | refine Kept.foldl _ (fun _ _ _ => ?_) _ _ ?_ | apply State.disarm_kept

theorem ownForceRelease_kept {mm : Bool} {sK : State} (k : Nat) (vO : Nat) (sO : State) (hk : Kept mm sK sO) : Kept mm sK (ownForceRelease k
    vO sO).2 := by
  unfold ownForceRelease
  repeat' with_reducible first
      | assumption | refine Kept.ite_snd (fun _ => ?_) (fun _ => ?_) | apply State.haltPump_kept | apply State.freeUnits_kept
      | apply State.bump_kept

theorem execForceRelease_kept {mm : Bool} (t : Nat) (r : Requester) (k : Fin 8) (v : Nat) (s : State) : KeptN mm s (execForceRelease t r k v
    s) := by
  unfold execForceRelease
  repeat' with_reducible first
      | exact Kept.refl _ | apply KeptN.next | apply Kept.tickTo | apply State.writeObj_kept | apply ownForceRelease_kept

theorem State.markUnits_kept {mm : Bool} {sK : State} (s : State) (e w : Nat) (hk : Kept mm sK s) : Kept mm sK (State.markUnits s e w) := by
  unfold State.markUnits
  repeat' with_reducible first
      | assumption | refine Kept.ite (fun _ => ?_) (fun _ => ?_) | refine Kept.foldl _ (fun _ _ _ => ?_) _ _ ?_
      | apply State.setHunit_kept

theorem execStickyClear_kept {mm : Bool} (t : Nat) (k : Fin 8) (u : Fin 16) (s : State) : KeptN mm s (execStickyClear t k u s) := by
  unfold execStickyClear
  repeat' with_reducible first
      | exact Kept.refl _ | apply KeptN.next | apply Kept.tickTo | apply State.haltPump_kept | apply State.setHunit_kept

theorem execSlotWindowEnd_kept {mm : Bool} (t : Nat) (k : Fin 8) (u : Fin 16) (s : State) : KeptN mm s (execSlotWindowEnd t k u s) := by
  unfold execSlotWindowEnd
  repeat' with_reducible first
      | exact Kept.refl _ | apply KeptN.next | refine Kept.ite (fun _ => ?_) (fun _ => ?_) | apply Kept.tickTo | apply State.haltPump_kept
      | apply State.haltCount_kept | apply State.setHunit_kept | apply State.takeSample_kept | apply State.setHline_kept
      | apply State.haltTrace_kept

theorem State.enterFailsafe_kept {mm : Bool} {sK : State} (s : State) (k : Nat) (hk : Kept mm sK s) : Kept mm sK (State.enterFailsafe s k) := by
  unfold State.enterFailsafe
  repeat' with_reducible first | assumption | apply Kept.setReg | apply State.setHline_kept

theorem State.forgetCauses_kept {mm : Bool} {sK : State} (s : State) (hk : Kept mm sK s) : Kept mm sK (State.forgetCauses s) := by
  unfold State.forgetCauses
  repeat' with_reducible first
      | assumption | refine Kept.ite (fun _ => ?_) (fun _ => ?_) | refine Kept.foldl _ (fun _ _ _ => ?_) _ _ ?_
      | apply State.setHline_kept

theorem execFailsafeEntry_kept {mm : Bool} (t : Nat) (s : State) : KeptN mm s (execFailsafeEntry t s) := by
  unfold execFailsafeEntry
  repeat' with_reducible first
      | assumption | exact Kept.refl _ | apply KeptN.next | refine Kept.ite (fun _ => ?_) (fun _ => ?_)
      | refine Kept.foldl _ (fun _ _ _ => ?_) _ _ ?_ | apply Kept.tickTo | apply State.haltPump_kept | apply State.setHline_kept
      | apply State.setFlag_kept | apply State.enterFailsafe_kept

theorem State.leaveFailsafe_kept {mm : Bool} {sK : State} (s : State) (k : Nat) (hk : Kept mm sK s) : Kept mm sK (State.leaveFailsafe s k) := by
  unfold State.leaveFailsafe
  repeat' with_reducible first
      | assumption | refine Kept.ite (fun _ => ?_) (fun _ => ?_) | apply Kept.setReg | apply State.setHline_kept
      | apply State.setHunit_kept | apply State.clearSticky_kept

theorem ownClearFailsafe_kept {mm : Bool} {sK : State} (k : Nat) (vO : Nat) (sO : State) (hk : Kept mm sK sO) : Kept mm sK (ownClearFailsafe
    k vO sO).2 := by
  unfold ownClearFailsafe
  repeat' with_reducible first
      | assumption | apply command_kept | apply State.haltPump_kept | apply State.leaveFailsafe_kept | exact id | split | dsimp only
      | intro _

theorem execClearFailsafe_kept {mm : Bool} (t : Nat) (r : Requester) (k : Fin 8) (v : Bool) (s : State) : KeptN mm s (execClearFailsafe t r
    k v s) := by
  unfold execClearFailsafe
  repeat' with_reducible first
      | exact Kept.refl _ | apply KeptN.next | apply Kept.tickTo | apply State.writeObj_kept | apply ownClearFailsafe_kept

theorem State.setRep_kept {mm : Bool} {sK : State} (s : State) (q : Nat) (u : RepUnit) (hk : Kept mm sK s) : Kept mm sK (State.setRep s q u) := by
  unfold State.setRep
  repeat' with_reducible first | assumption | apply Kept.setReg | apply State.raiseMax_kept | (rw [State.mk_built]; apply Kept.upd)

theorem State.presentRepair_kept {mm : Bool} {sK : State} (s : State) (leave ch start site p inst : Nat) (invalid : Bool) (hk : Kept mm sK
    s) : Kept mm sK (State.presentRepair s leave ch start site p inst invalid) := by
  unfold State.presentRepair
  repeat' with_reducible first
      | assumption | refine Kept.ite (fun _ => ?_) (fun _ => ?_) | apply State.setRep_kept | apply State.ledAdd_kept

theorem ownContexts_kept {mm : Bool} {sK : State} (q : Nat) (imgO : List Byte) (ttO : Nat) (sO : State) (hk : Kept mm sK sO) : Kept mm sK
    (ownContexts q imgO ttO sO).2 := by
  unfold ownContexts
  repeat' with_reducible first
      | assumption | apply Kept.setImage | apply unscheduled_kept | apply State.setRep_kept | exact id | split | dsimp only | intro _

theorem execContextsCommit_kept {mm : Bool} (t : Nat) (r : Requester) (q : Fin 4) (crc tt : Nat) (s : State) : KeptN mm s
    (execContextsCommit t r q crc tt s) := by
  unfold execContextsCommit
  repeat' with_reducible first
      | exact Kept.refl _ | apply KeptN.next | apply Kept.tickTo | apply State.commitObj_kept | apply ownContexts_kept

theorem State.setRepCtx_kept {mm : Bool} {sK : State} (s : State) (q i : Nat) (c : RepCtx) (hk : Kept mm sK s) : Kept mm sK (State.setRepCtx
    s q i c) := by
  unfold State.setRepCtx
  repeat' with_reducible first | assumption | apply State.setRep_kept

theorem ownAddrMap_kept {mm : Bool} {sK : State} (q : Nat) (vO : Nat) (sO : State) (hk : Kept mm sK sO) : Kept mm sK (ownAddrMap q vO sO).2 := by
  unfold ownAddrMap
  repeat' with_reducible first | assumption | apply Kept.setReg | refine Kept.ite_snd (fun _ => ?_) (fun _ => ?_)

theorem State.verdictFlag_kept {mm : Bool} {sK : State} (s : State) (q old new : Nat) (hk : Kept mm sK s) : Kept mm sK (State.verdictFlag s
    q old new) := by
  unfold State.verdictFlag
  repeat' with_reducible first | assumption | refine Kept.ite (fun _ => ?_) (fun _ => ?_) | apply State.setFlag_kept

theorem State.repRoute_kept {mm : Bool} {sK : State} (s : State) (q : Nat) (x : RepUpd) (full : Bool) (hk : Kept mm sK s) : Kept mm sK
    (State.repRoute s q x full) := by
  unfold State.repRoute
  repeat' with_reducible first
      | assumption | refine Kept.ite (fun _ => ?_) (fun _ => ?_) | apply State.ledMove_kept | apply State.setRepCtx_kept
      | apply State.bump_kept | apply State.verdictFlag_kept | split

theorem execRepairPresentation_kept {mm : Bool} (t : Nat) (q : Fin 4) (s : State) : KeptN mm s (execRepairPresentation t q s) := by
  unfold execRepairPresentation
  repeat' with_reducible first
      | exact Kept.refl _ | apply KeptN.next | refine Kept.ite (fun _ => ?_) (fun _ => ?_) | apply Kept.tickTo | apply State.setRep_kept
      | apply State.bump_kept | apply State.repRoute_kept | split

theorem State.takeUpdate_kept {mm : Bool} {sK : State} (s : State) (q : Nat) (hk : Kept mm sK s) : Kept mm sK (State.takeUpdate s q) := by
  unfold State.takeUpdate
  repeat' with_reducible first
      | assumption | refine Kept.ite (fun _ => ?_) (fun _ => ?_) | apply State.setRep_kept | apply State.repRoute_kept | split
      | dsimp only

theorem execRepairUpdate_kept {mm : Bool} (t : Nat) (q : Fin 4) (s : State) : KeptN mm s (execRepairUpdate t q s) := by
  unfold execRepairUpdate
  repeat' with_reducible first | exact Kept.refl _ | apply KeptN.next | apply Kept.tickTo | apply State.takeUpdate_kept

theorem State.routeAll_kept {mm : Bool} {sK : State} (s : State) (q : Nat) (hk : Kept mm sK s) : Kept mm sK (State.routeAll s q) := by
  unfold State.routeAll
  repeat' with_reducible first
      | assumption | refine Kept.foldl _ (fun _ _ _ => ?_) _ _ ?_ | apply State.ledMove_kept | apply State.setRep_kept

theorem ownRepairClear_kept {mm : Bool} {sK : State} (q : Nat) (vO : Nat) (sO : State) (hk : Kept mm sK sO) : Kept mm sK (ownRepairClear q
    vO sO).2 := by
  unfold ownRepairClear
  repeat' with_reducible first | assumption | apply State.setRep_kept

theorem execRepairClear_kept {mm : Bool} (t : Nat) (r : Requester) (q : Fin 4) (v : Nat) (s : State) : KeptN mm s (execRepairClear t r q v
    s) := by
  unfold execRepairClear
  repeat' with_reducible first
      | exact Kept.refl _ | apply KeptN.next | apply Kept.tickTo | apply State.writeObj_kept | apply ownRepairClear_kept

theorem State.offerAll_kept {mm : Bool} {sK : State} (s : State) (q who : Nat) (gs : List (List Byte)) (hk : Kept mm sK s) : Kept mm sK
    (State.offerAll s q who gs) := by
  unfold State.offerAll
  repeat' with_reducible first
      | assumption | refine Kept.foldl _ (fun _ _ _ => ?_) _ _ ?_ | apply State.reserve_kept | apply State.ledAdd_kept

theorem ownReport_kept {mm : Bool} {sK : State} (q : Nat) (vO : Nat) (sO : State) (hk : Kept mm sK sO) : Kept mm sK (ownReport q vO sO).2 := by
  unfold ownReport
  repeat' with_reducible first
      | assumption | apply Kept.setReg | refine Kept.ite_snd (fun _ => ?_) (fun _ => ?_) | apply State.takeUpdate_kept
      | apply State.ledAdd_kept | apply State.queueEvent_kept | apply State.offerAll_kept

theorem execReport_kept {mm : Bool} (t : Nat) (r : Requester) (q : Fin 4) (v : Nat) (s : State) : KeptN mm s (execReport t r q v s) := by
  unfold execReport
  repeat' with_reducible first
      | exact Kept.refl _ | apply KeptN.next | apply Kept.tickTo | apply State.writeObj_kept | apply ownReport_kept

end Sys2Proof.Machine
end

