-- ==== Sys2Proof/Laws/KeptChannels.lean ====
section
/-! SUPPORT. Channels and the grind units: what every function of a state keeps (`Kept`), one law a function, and one a command. Laws with the
parameter `mm` hold with the addressed memories unchanged too; those with `false` are of the functions that may write one. -/

namespace Sys2Proof.Machine

theorem State.setChan_kept {mm : Bool} {sK : State} (s : State) (ch : Nat) (c : Chan) (hk : Kept mm sK s) : Kept mm sK (State.setChan s ch
    c) := by
  unfold State.setChan
  repeat' with_reducible first | assumption | (rw [State.mk_built]; apply Kept.upd)

theorem ownMap_kept {mm : Bool} {sK : State} (b : Nat) (imgO : List Byte) (ttO : Nat) (sO : State) (hk : Kept mm sK sO) : Kept mm sK (ownMap
    b imgO ttO sO).2 := by
  unfold ownMap
  repeat' with_reducible first | assumption | apply Kept.setImage | apply unscheduled_kept | exact id | split | dsimp only | intro _

theorem execMapCommit_kept {mm : Bool} (t : Nat) (r : Requester) (b : Fin 4) (crc tt : Nat) (s : State) : KeptN mm s (execMapCommit t r b
    crc tt s) := by
  unfold execMapCommit
  repeat' with_reducible first | exact Kept.refl _ | apply KeptN.next | apply Kept.tickTo | apply State.commitObj_kept | apply ownMap_kept

theorem ownBankArm_kept {mm : Bool} {sK : State} (b : Nat) (vO : Nat) (sO : State) (hk : Kept mm sK sO) : Kept mm sK (ownBankArm b vO sO).2 := by
  unfold ownBankArm
  repeat' with_reducible first | assumption | apply arming_kept | apply State.armAction_kept | exact id | split | intro _

theorem execBankSwitchArm_kept {mm : Bool} (t : Nat) (r : Requester) (b : Fin 4) (v : Bool) (s : State) : KeptN mm s (execBankSwitchArm t r
    b v s) := by
  unfold execBankSwitchArm
  repeat' with_reducible first
      | exact Kept.refl _ | apply KeptN.next | apply Kept.tickTo | apply State.writeObj_kept | apply ownBankArm_kept

theorem ownBankCancel_kept {mm : Bool} {sK : State} (b : Nat) (vO : Nat) (sO : State) (hk : Kept mm sK sO) : Kept mm sK (ownBankCancel b vO
    sO).2 := by
  unfold ownBankCancel
  repeat' with_reducible first | assumption | apply command_kept | apply State.cancelAction_kept | intro _

theorem execBankSwitchCancel_kept {mm : Bool} (t : Nat) (r : Requester) (b : Fin 4) (v : Bool) (s : State) : KeptN mm s
    (execBankSwitchCancel t r b v s) := by
  unfold execBankSwitchCancel
  repeat' with_reducible first
      | exact Kept.refl _ | apply KeptN.next | apply Kept.tickTo | apply State.writeObj_kept | apply ownBankCancel_kept

theorem State.switchOut_kept {mm : Bool} {sK : State} (s : State) (ch : Nat) (hk : Kept mm sK s) : Kept mm sK (State.switchOut s ch) := by
  unfold State.switchOut
  repeat' with_reducible first | assumption | apply State.setChan_kept

theorem execFifoOutputSwitch_kept {mm : Bool} (t : Nat) (ch : Fin 144) (s : State) : KeptN mm s (execFifoOutputSwitch t ch s) := by
  unfold execFifoOutputSwitch
  repeat' with_reducible first | exact Kept.refl _ | apply KeptN.next | apply Kept.tickTo | apply State.switchOut_kept

theorem execBankSwitch_kept {mm : Bool} (t : Nat) (b : Fin 4) (s : State) : KeptN mm s (execBankSwitch t b s) := by
  unfold execBankSwitch
  repeat' with_reducible first
      | assumption | exact Kept.refl _ | apply KeptN.next | refine Kept.ite (fun _ => ?_) (fun _ => ?_)
      | refine Kept.foldl _ (fun _ _ _ => ?_) _ _ ?_ | apply Kept.setReg | apply Kept.tickTo | apply State.endAction_kept
      | apply State.bump_kept | apply State.setChan_kept | apply State.switchOut_kept | split

theorem State.pushLane_kept {mm : Bool} {sK : State} (s : State) (w : LaneWord) (hk : Kept mm sK s) : Kept mm sK (State.pushLane s w) := by
  unfold State.pushLane
  repeat' with_reducible first
      | assumption | refine Kept.ite (fun _ => ?_) (fun _ => ?_) | refine Kept.foldl _ (fun _ _ _ => ?_) _ _ ?_ | apply State.bump_kept
      | apply State.setChan_kept

theorem State.takeTables_kept {mm : Bool} {sK : State} (s : State) (ch lim : Nat) (hk : Kept mm sK s) : Kept mm sK (State.takeTables s ch
    lim) := by
  unfold State.takeTables
  repeat' with_reducible first
      | assumption | refine Kept.foldl _ (fun _ _ _ => ?_) _ _ ?_ | apply Kept.setImage | apply State.setChan_kept

theorem State.giveTable_kept {mm : Bool} {sK : State} (s : State) (ch inst : Nat) (img : List Byte) (hk : Kept mm sK s) : Kept mm sK
    (State.giveTable s ch inst img) := by
  unfold State.giveTable
  repeat' with_reducible first
      | assumption | refine Kept.ite (fun _ => ?_) (fun _ => ?_) | apply Kept.setImage | apply State.takeTables_kept
      | apply State.setChan_kept

theorem State.tableEffect_kept {mm : Bool} {sK : State} (s : State) (unit o : Nat) (tables : List Byte → List (Nat × List Byte)) (hk : Kept
    mm sK s) : Kept mm sK (State.tableEffect s unit o tables) := by
  unfold State.tableEffect
  repeat' with_reducible first
      | assumption | refine Kept.ite (fun _ => ?_) (fun _ => ?_) | refine Kept.foldl _ (fun _ _ _ => ?_) _ _ ?_ | apply Kept.setReg
      | apply State.endAction_kept | apply State.giveTable_kept | (rw [State.mk_built]; apply Kept.upd) | split

theorem State.tableCommit_kept {mm : Bool} {sK : State} (s : State) (unit o tt : Nat) (img : List Byte) (ts : List (Nat × List Byte)) (hk :
    Kept mm sK s) : Kept mm sK (State.tableCommit s unit o tt img ts).2 := by
  unfold State.tableCommit
  repeat' with_reducible first
      | assumption | refine Kept.foldl _ (fun _ _ _ => ?_) _ _ ?_ | apply Kept.setReg | refine Kept.ite_snd (fun _ => ?_) (fun _ => ?_)
      | apply State.bump_kept | apply State.giveTable_kept | apply State.armAction_kept | (rw [State.mk_built]; apply Kept.upd) | split

theorem ownTimingSets_kept {mm : Bool} {sK : State} (ch : Nat) (imgO : List Byte) (ttO : Nat) (sO : State) (hk : Kept mm sK sO) : Kept mm sK
    (ownTimingSets ch imgO ttO sO).2 := by
  unfold ownTimingSets
  repeat' with_reducible first
      | assumption | apply scheduled_kept | apply State.tableCommit_kept | exact id | split | dsimp only | intro _

theorem execTimingSetsCommit_kept {mm : Bool} (t : Nat) (ch : Fin 144) (w : CommitStep) (s : State) : KeptN mm s (execTimingSetsCommit t ch
    w s) := by
  unfold execTimingSetsCommit
  repeat' with_reducible first
      | exact Kept.refl _ | apply KeptN.next | apply Kept.tickTo | apply State.commitObj_kept | apply ownTimingSets_kept
      | apply State.tableEffect_kept | split

theorem ownQuadSchedule_kept {mm : Bool} {sK : State} (n : Nat) (imgO : List Byte) (ttO : Nat) (sO : State) (hk : Kept mm sK sO) : Kept mm
    sK (ownQuadSchedule n imgO ttO sO).2 := by
  unfold ownQuadSchedule
  repeat' with_reducible first
      | assumption | apply scheduled_kept | apply State.tableCommit_kept | exact id | split | dsimp only | intro _

theorem execQuadScheduleCommit_kept {mm : Bool} (t : Nat) (n : Fin 36) (w : CommitStep) (s : State) : KeptN mm s (execQuadScheduleCommit t n
    w s) := by
  unfold execQuadScheduleCommit
  repeat' with_reducible first
      | assumption | exact Kept.refl _ | apply KeptN.next | refine Kept.foldl _ (fun _ _ _ => ?_) _ _ ?_ | apply Kept.tickTo
      | apply State.commitObj_kept | apply ownQuadSchedule_kept | apply State.tableEffect_kept | split

theorem State.parkLevels_kept {mm : Bool} {sK : State} (s : State) (ch : Nat) (hk : Kept mm sK s) : Kept mm sK (State.parkLevels s ch) := by
  unfold State.parkLevels
  repeat' with_reducible first | assumption | apply State.setChan_kept

theorem State.holdPad_kept {mm : Bool} {sK : State} (s : State) (ch cause : Nat) (on : Bool) (hk : Kept mm sK s) : Kept mm sK (State.holdPad
    s ch cause on) := by
  unfold State.holdPad
  repeat' with_reducible first
      | assumption | refine Kept.ite (fun _ => ?_) (fun _ => ?_) | apply Kept.setReg | apply State.setChan_kept | apply State.setBool_kept

theorem ownParkCode_kept {mm : Bool} {sK : State} (ch : Nat) (vO : Nat) (sO : State) (hk : Kept mm sK sO) : Kept mm sK (ownParkCode ch vO
    sO).2 := by
  unfold ownParkCode
  repeat' with_reducible first
      | assumption | refine Kept.ite (fun _ => ?_) (fun _ => ?_) | apply Kept.setReg | apply State.parkLevels_kept
      | apply State.setChan_kept

theorem execParkCodeWrite_kept {mm : Bool} (t : Nat) (r : Requester) (ch : Fin 144) (v : Nat) (s : State) : KeptN mm s (execParkCodeWrite t
    r ch v s) := by
  unfold execParkCodeWrite
  repeat' with_reducible first
      | exact Kept.refl _ | apply KeptN.next | apply Kept.tickTo | apply State.writeObj_kept | apply ownParkCode_kept

theorem ownChMode_kept {mm : Bool} {sK : State} (ch : Nat) (vO : Nat) (sO : State) (hk : Kept mm sK sO) : Kept mm sK (ownChMode ch vO sO).2 := by
  unfold ownChMode
  repeat' with_reducible first
      | assumption | apply Kept.setReg | refine Kept.ite_snd (fun _ => ?_) (fun _ => ?_) | apply State.holdPad_kept

theorem execModeChange_kept {mm : Bool} (t : Nat) (r : Requester) (ch : Fin 144) (v : Nat) (s : State) : KeptN mm s (execModeChange t r ch v
    s) := by
  unfold execModeChange
  repeat' with_reducible first
      | exact Kept.refl _ | apply KeptN.next | apply Kept.tickTo | apply State.writeObj_kept | apply ownChMode_kept

theorem execModeChangeDone_kept {mm : Bool} (t : Nat) (ch : Fin 144) (s : State) : KeptN mm s (execModeChangeDone t ch s) := by
  unfold execModeChangeDone
  repeat' with_reducible first
      | exact Kept.refl _ | apply KeptN.next | refine Kept.ite (fun _ => ?_) (fun _ => ?_) | apply Kept.tickTo | apply State.holdPad_kept

theorem ownTrim_kept {mm : Bool} {sK : State} (ch : Nat) (vO : Nat) (sO : State) (hk : Kept mm sK sO) : Kept mm sK (ownTrim ch vO sO).2 := by
  unfold ownTrim
  repeat' with_reducible first | assumption | apply Kept.setReg | refine Kept.ite_snd (fun _ => ?_) (fun _ => ?_)

theorem execTrimWrite_kept {mm : Bool} (t : Nat) (r : Requester) (ch : Fin 144) (v : Nat) (s : State) : KeptN mm s (execTrimWrite t r ch v
    s) := by
  unfold execTrimWrite
  repeat' with_reducible first | exact Kept.refl _ | apply KeptN.next | apply Kept.tickTo | apply State.writeObj_kept | apply ownTrim_kept

theorem execDeskewWrite_kept {mm : Bool} (t : Nat) (r : Requester) (ch : Fin 144) (pair : Fin 4) (v : Nat) (s : State) : KeptN mm s
    (execDeskewWrite t r ch pair v s) := by
  unfold execDeskewWrite
  repeat' with_reducible first | exact Kept.refl _ | apply KeptN.next | apply Kept.tickTo | apply State.writeObj_kept | apply storeIf_kept

theorem ownEdgeFault_kept {mm : Bool} {sK : State} (ch : Nat) (vO : Nat) (sO : State) (hk : Kept mm sK sO) : Kept mm sK (ownEdgeFault ch vO
    sO).2 := by
  unfold ownEdgeFault
  repeat' with_reducible first
      | assumption | refine Kept.ite (fun _ => ?_) (fun _ => ?_) | apply Kept.setReg | apply State.clearFlags_kept

theorem State.takeCorr_kept {mm : Bool} {sK : State} (s : State) (ch : Nat) (hk : Kept mm sK s) : Kept mm sK (State.takeCorr s ch) := by
  unfold State.takeCorr
  repeat' with_reducible first
      | assumption | refine Kept.ite (fun _ => ?_) (fun _ => ?_) | apply State.setChan_kept | apply State.bump_kept

theorem execBgcalMeasurement_kept {mm : Bool} (t : Nat) (n : Fin 36) (steps : List Int) (s : State) : KeptN mm s (execBgcalMeasurement t n
    steps s) := by
  unfold execBgcalMeasurement
  repeat' with_reducible first
      | assumption | exact Kept.refl _ | apply KeptN.next | refine Kept.ite (fun _ => ?_) (fun _ => ?_)
      | refine Kept.foldl _ (fun _ _ _ => ?_) _ _ ?_ | apply Kept.tickTo | apply State.setChan_kept | apply State.takeCorr_kept

theorem State.invalidate_kept {mm : Bool} {sK : State} (s : State) (ch : Nat) (hk : Kept mm sK s) : Kept mm sK (State.invalidate s ch) := by
  unfold State.invalidate
  repeat' with_reducible first
      | assumption | refine Kept.ite (fun _ => ?_) (fun _ => ?_) | apply Kept.setReg | apply State.setChan_kept | apply State.bump_kept
      | apply State.trace_kept

theorem State.edgeFault_kept {mm : Bool} {sK : State} (s : State) (ch cause : Nat) (hk : Kept mm sK s) : Kept mm sK (State.edgeFault s ch
    cause) := by
  unfold State.edgeFault
  repeat' with_reducible first
      | assumption | apply Kept.setReg | apply State.setFlag_kept | apply State.trace_kept | apply State.invalidate_kept

theorem State.closeStep_kept {mm : Bool} {sK : State} (s : State) (ch : Nat) (hk : Kept mm sK s) : Kept mm sK (State.closeStep s ch) := by
  unfold State.closeStep
  repeat' with_reducible first | assumption | apply State.setChan_kept

theorem State.openStep_kept {mm : Bool} {sK : State} (s : State) (ch : Nat) (hk : Kept mm sK s) : Kept mm sK (State.openStep s ch) := by
  unfold State.openStep
  repeat' with_reducible first | assumption | apply Kept.setReg | apply State.setChan_kept

theorem State.updStep_kept {mm : Bool} {sK : State} (s : State) (ch id : Nat) (f : StepRec → StepRec) (hk : Kept mm sK s) : Kept mm sK
    (State.updStep s ch id f) := by
  unfold State.updStep
  repeat' with_reducible first | assumption | apply State.setChan_kept

theorem State.queueEdge_kept {mm : Bool} {sK : State} (s : State) (ch : Nat) (den : Bool) (from_ : Nat) (prog : Int) (level : Bool) (hk :
    Kept mm sK s) : Kept mm sK (State.queueEdge s ch den from_ prog level) := by
  unfold State.queueEdge
  repeat' with_reducible first
      | assumption | refine Kept.ite (fun _ => ?_) (fun _ => ?_) | apply State.edgeFault_kept | apply State.setChan_kept

theorem State.queueStrobe_kept {mm : Bool} {sK : State} (s : State) (ch from_ : Nat) (x : Strobe) (hk : Kept mm sK s) : Kept mm sK
    (State.queueStrobe s ch from_ x) := by
  unfold State.queueStrobe
  repeat' with_reducible first
      | assumption | refine Kept.ite (fun _ => ?_) (fun _ => ?_) | apply State.edgeFault_kept | apply State.setChan_kept

theorem State.beginVector_kept {mm : Bool} {sK : State} (s : State) (ch P i : Nat) (t : TSet) (v : VecData) (hk : Kept mm sK s) : Kept mm sK
    (State.beginVector s ch P i t v) := by
  unfold State.beginVector
  repeat' with_reducible first
      | assumption | refine Kept.ite (fun _ => ?_) (fun _ => ?_) | refine Kept.foldl _ (fun _ _ _ => ?_) _ _ ?_ | apply Kept.setReg
      | apply State.queueEdge_kept | apply State.queueStrobe_kept | apply State.setChan_kept | apply State.updStep_kept
      | apply State.bump_kept | apply State.countEvent_kept

theorem State.parkVector_kept {mm : Bool} {sK : State} (s : State) (ch P : Nat) (hk : Kept mm sK s) : Kept mm sK (State.parkVector s ch P) := by
  unfold State.parkVector
  repeat' with_reducible first | assumption | apply State.beginVector_kept | apply State.countEvent_kept

theorem State.enterParked_kept {mm : Bool} {sK : State} (s : State) (ch : Nat) (hk : Kept mm sK s) : Kept mm sK (State.enterParked s ch) := by
  unfold State.enterParked
  repeat' with_reducible first
      | assumption | apply Kept.setReg | apply State.setChan_kept | apply State.parkLevels_kept | apply State.takeTables_kept
      | apply State.closeStep_kept | apply State.takeCorr_kept | apply State.parkCapture_kept | apply State.trace_kept

theorem State.forcePark_kept {mm : Bool} {sK : State} (s : State) (ch : Nat) (hk : Kept mm sK s) : Kept mm sK (State.forcePark s ch) := by
  unfold State.forcePark
  repeat' with_reducible first
      | assumption | refine Kept.ite (fun _ => ?_) (fun _ => ?_) | refine Kept.foldl _ (fun _ _ _ => ?_) _ _ ?_ | apply State.setChan_kept
      | apply State.presentFail_kept | apply State.enterParked_kept

theorem execChannelStop_kept {mm : Bool} (t : Nat) (ch : Fin 144) (s : State) : KeptN mm s (execChannelStop t ch s) := by
  unfold execChannelStop
  repeat' with_reducible first
      | exact Kept.refl _ | apply KeptN.next | refine Kept.ite (fun _ => ?_) (fun _ => ?_) | apply Kept.tickTo
      | apply State.enterParked_kept

theorem execPatternStart_kept {mm : Bool} (t : Nat) (ch : Fin 144) (s : State) : KeptN mm s (execPatternStart t ch s) := by
  unfold execPatternStart
  repeat' with_reducible first
      | exact Kept.refl _ | apply KeptN.next | refine Kept.ite (fun _ => ?_) (fun _ => ?_) | apply Kept.setReg | apply Kept.tickTo
      | apply State.switchOut_kept | apply State.setChan_kept | split

theorem State.underrun_kept {mm : Bool} {sK : State} (s : State) (ch P : Nat) (hk : Kept mm sK s) : Kept mm sK (State.underrun s ch P) := by
  unfold State.underrun
  repeat' with_reducible first
      | assumption | refine Kept.ite (fun _ => ?_) (fun _ => ?_) | apply Kept.setReg | apply State.chanPulse_kept
      | apply State.setFlag_kept | apply State.trace_kept | apply State.parkVector_kept | apply State.invalidate_kept

theorem State.stepAt_kept {mm : Bool} {sK : State} (s : State) (ch : Nat) (mark : Bool) (hk : Kept mm sK s) : Kept mm sK (State.stepAt s ch
    mark) := by
  unfold State.stepAt
  repeat' with_reducible first
      | assumption | refine Kept.ite (fun _ => ?_) (fun _ => ?_) | apply State.closeStep_kept | apply State.openStep_kept

theorem State.consumeVector_kept {mm : Bool} {sK : State} (s : State) (ch : Nat) (lead : LaneWord) (hk : Kept mm sK s) : Kept mm sK
    (State.consumeVector s ch lead) := by
  unfold State.consumeVector
  repeat' with_reducible first | assumption | refine Kept.ite (fun _ => ?_) (fun _ => ?_) | apply State.setChan_kept

theorem State.wordVector_kept {mm : Bool} {sK : State} (s : State) (ch P : Nat) (lead exp : LaneWord) (haveDrv haveExp : Bool) (hk : Kept mm
    sK s) : Kept mm sK (State.wordVector s ch P lead exp haveDrv haveExp) := by
  unfold State.wordVector
  repeat' with_reducible first
      | assumption | refine Kept.ite (fun _ => ?_) (fun _ => ?_) | apply Kept.setReg | apply State.stepAt_kept
      | apply State.consumeVector_kept | apply State.parkVector_kept | apply State.edgeFault_kept | apply State.beginVector_kept | split

theorem State.boundary_kept {mm : Bool} {sK : State} (s : State) (ch P : Nat) (hk : Kept mm sK s) : Kept mm sK (State.boundary s ch P) := by
  unfold State.boundary
  repeat' with_reducible first
      | assumption | refine Kept.ite (fun _ => ?_) (fun _ => ?_) | apply State.switchOut_kept | apply State.takeTables_kept
      | apply State.takeCorr_kept | apply State.setChan_kept | apply State.stepAt_kept | apply State.underrun_kept
      | apply State.wordVector_kept | split | dsimp only

theorem execVectorBegin_kept {mm : Bool} (t : Nat) (ch : Fin 144) (s : State) : KeptN mm s (execVectorBegin t ch s) := by
  unfold execVectorBegin
  repeat' with_reducible first
      | exact Kept.refl _ | apply KeptN.next | refine Kept.ite (fun _ => ?_) (fun _ => ?_) | apply Kept.tickTo | apply State.boundary_kept

theorem execDriveEdge_kept {mm : Bool} (t : Nat) (ch : Fin 144) (den : Bool) (s : State) : KeptN mm s (execDriveEdge t ch den s) := by
  unfold execDriveEdge
  repeat' with_reducible first
      | exact Kept.refl _ | apply KeptN.next | refine Kept.ite (fun _ => ?_) (fun _ => ?_) | apply Kept.tickTo | apply State.setChan_kept
      | apply State.edgeFault_kept | split

theorem State.detects_kept {mm : Bool} {sK : State} (s : State) (len : Nat) (hk : Kept mm sK s) : Kept mm sK (State.detects s len).2 := by
  unfold State.detects
  repeat' with_reducible first | assumption | refine Kept.ite_snd (fun _ => ?_) (fun _ => ?_) | apply State.drawBool_kept

theorem State.judge_kept {mm : Bool} {sK : State} (s : State) (code : Nat) (look : Look) (hk : Kept mm sK s) : Kept mm sK (State.judge s
    code look).2.2 := by
  unfold State.judge
  repeat' with_reducible first | assumption | apply State.detects_kept

theorem State.failSlot_kept {mm : Bool} {sK : State} (s : State) (ch : Nat) (x : Strobe) (flags leave : Nat) (hk : Kept mm sK s) : Kept mm
    sK (State.failSlot s ch x flags leave) := by
  unfold State.failSlot
  repeat' with_reducible first | assumption | apply State.setChan_kept

theorem State.failBit_kept {mm : Bool} {sK : State} (s : State) (ch ball : Nat) (x : Strobe) (conflict : Bool) (hk : Kept mm sK s) : Kept mm
    sK (State.failBit s ch ball x conflict) := by
  unfold State.failBit
  repeat' with_reducible first
      | assumption | refine Kept.ite (fun _ => ?_) (fun _ => ?_) | apply State.countFail_kept | apply State.failSlot_kept
      | apply State.presentRepair_kept | apply State.haltBit_kept | apply State.updStep_kept | apply State.countEvent_kept

theorem State.matchBit_kept {mm : Bool} {sK : State} (s : State) (ch ball : Nat) (x : Strobe) (hk : Kept mm sK s) : Kept mm sK
    (State.matchBit s ch ball x) := by
  unfold State.matchBit
  repeat' with_reducible first | assumption | apply State.haltBit_kept | apply State.updStep_kept | apply State.countEvent_kept

theorem State.presentDone_kept {mm : Bool} {sK : State} (s : State) (ch : Nat) (hk : Kept mm sK s) : Kept mm sK (State.presentDone s ch) := by
  unfold State.presentDone
  repeat' with_reducible first
      | assumption | refine Kept.foldl _ (fun _ _ _ => ?_) _ _ ?_ | apply State.presentFail_kept | apply State.setChan_kept

theorem execStrobe_kept {mm : Bool} (t : Nat) (ch : Fin 144) (look : Look) (s : State) : KeptN mm s (execStrobe t ch look s) := by
  unfold execStrobe
  repeat' with_reducible first
      | assumption | exact Kept.refl _ | apply KeptN.next | refine Kept.ite (fun _ => ?_) (fun _ => ?_)
      | refine Kept.foldl _ (fun _ _ _ => ?_) _ _ ?_ | apply Kept.tickTo | apply State.edgeFault_kept | apply State.setChan_kept
      | apply State.chanPulse_kept | apply State.presentDone_kept | apply State.judge_kept | apply State.bump_kept
      | apply State.failBit_kept | apply State.matchBit_kept | split

theorem State.setPort_kept {mm : Bool} {sK : State} (s : State) (q k : Nat) (p : GrindPort) (hk : Kept mm sK s) : Kept mm sK (State.setPort
    s q k p) := by
  unfold State.setPort
  repeat' with_reducible first | assumption | (rw [State.mk_built]; apply Kept.upd)

theorem State.grindError_kept {mm : Bool} {sK : State} (s : State) (q k cause memStatus : Nat) (p : GrindPort) (hk : Kept mm sK s) : Kept mm
    sK (State.grindError s q k cause memStatus p) := by
  unfold State.grindError
  repeat' with_reducible first | assumption | apply State.ledAdd_kept | apply State.setPort_kept | apply State.setFlag_kept

theorem State.carafeWritten_kept {mm : Bool} {sK : State} (s : State) (q : Nat) (d : StreamDesc) (p p1 : GrindPort) (hk : Kept mm sK s) :
    Kept mm sK (State.carafeWritten s q d p p1) := by
  unfold State.carafeWritten
  repeat' with_reducible first | assumption | apply State.freshWords_kept

theorem State.grindAdvance_kept {mm : Bool} {sK : State} (s : State) (q k : Nat) (hk : Kept mm sK s) : Kept mm sK (State.grindAdvance s q k) := by
  unfold State.grindAdvance
  repeat' with_reducible first
      | assumption | refine Kept.ite (fun _ => ?_) (fun _ => ?_) | apply State.carafeWritten_kept | apply State.ledAdd_kept
      | apply State.grindError_kept | apply State.setPort_kept | split

theorem State.grindRewind_kept {mm : Bool} {sK : State} (s : State) (q k : Nat) (hk : Kept mm sK s) : Kept mm sK (State.grindRewind s q k) := by
  unfold State.grindRewind
  repeat' with_reducible first | assumption | apply State.ledMove_kept | apply State.setPort_kept

theorem execPortRewind_kept {mm : Bool} (t : Nat) (q : Fin 4) (k : Fin 512) (s : State) : KeptN mm s (execPortRewind t q k s) := by
  unfold execPortRewind
  repeat' with_reducible first | exact Kept.refl _ | apply KeptN.next | apply Kept.tickTo | apply State.grindRewind_kept

theorem State.rewindEngine_kept {mm : Bool} {sK : State} (s : State) (e : Nat) (hk : Kept mm sK s) : Kept mm sK (State.rewindEngine s e) := by
  unfold State.rewindEngine
  repeat' with_reducible first
      | assumption | refine Kept.ite (fun _ => ?_) (fun _ => ?_) | refine Kept.foldl _ (fun _ _ _ => ?_) _ _ ?_
      | apply State.grindRewind_kept

theorem execGrindLine_kept {mm : Bool} (t : Nat) (q : Fin 4) (k : Fin 512) (s : State) : KeptN mm s (execGrindLine t q k s) := by
  unfold execGrindLine
  repeat' with_reducible first
      | exact Kept.refl _ | apply KeptN.next | refine Kept.ite (fun _ => ?_) (fun _ => ?_) | apply Kept.tickTo
      | apply State.grindError_kept | apply State.memReadLine_kept | apply State.setPort_kept | apply State.grindAdvance_kept
      | refine Kept.of_eq2 (by assumption) ?_ | split

theorem State.carafeBad_kept {mm : Bool} {sK : State} (s : State) (q k : Nat) (hk : Kept mm sK s) : Kept mm sK (State.carafeBad s q k) := by
  unfold State.carafeBad
  repeat' with_reducible first | assumption | apply State.sramBad_kept | apply State.ledMove_kept | apply State.grindError_kept

theorem State.portTake_kept {mm : Bool} {sK : State} (s0 : State) (q k : Nat) (hk : Kept mm sK s0) : Kept mm sK (State.portTake s0 q k).2 := by
  unfold State.portTake
  repeat' with_reducible first
      | assumption | refine Kept.ite (fun _ => ?_) (fun _ => ?_) | refine Kept.ite_snd (fun _ => ?_) (fun _ => ?_)
      | apply State.sramRead_kept | apply State.carafeBad_kept | apply State.setPort_kept | apply State.ledMove_kept
      | apply State.bump_kept | apply State.ledAdd_kept | apply State.grindAdvance_kept | split

theorem execStreamWordTake_kept {mm : Bool} (t : Nat) (q : Fin 4) (k : Fin 512) (s : State) : KeptN mm s (execStreamWordTake t q k s) := by
  unfold execStreamWordTake
  repeat' with_reducible first
      | exact Kept.refl _ | apply KeptN.next | apply Kept.tickTo | apply State.portTake_kept | apply State.memReply_kept | split

theorem ownStreams_kept {mm : Bool} {sK : State} (q : Nat) (imgO : List Byte) (ttO : Nat) (sO : State) (hk : Kept mm sK sO) : Kept mm sK
    (ownStreams q imgO ttO sO).2 := by
  unfold ownStreams
  repeat' with_reducible first
      | assumption | refine Kept.foldl _ (fun _ _ _ => ?_) _ _ ?_ | apply Kept.setReg | apply Kept.setImage | apply unscheduled_kept
      | apply State.grindRewind_kept | apply State.setPort_kept | apply State.ledSub_kept | apply State.ledAdd_kept | exact id | split
      | dsimp only | intro _

theorem execStreamsCommit_kept {mm : Bool} (t : Nat) (r : Requester) (q : Fin 4) (crc tt : Nat) (s : State) : KeptN mm s (execStreamsCommit
    t r q crc tt s) := by
  unfold execStreamsCommit
  repeat' with_reducible first
      | exact Kept.refl _ | apply KeptN.next | apply Kept.tickTo | apply State.commitObj_kept | apply ownStreams_kept

end Sys2Proof.Machine
end

