-- ==== Sys2Proof/Laws/KeptEngines.lean ====
section
/-! SUPPORT. The engines: what every function of a state keeps (`Kept`), one law a function, and one a command. Laws with the
parameter `mm` hold with the addressed memories unchanged too; those with `false` are of the functions that may write one. -/

namespace Sys2Proof.Machine

theorem State.setEngine_kept {mm : Bool} {sK : State} (s : State) (e : Nat) (g : Engine) (hk : Kept mm sK s) : Kept mm sK (State.setEngine s
    e g) := by
  unfold State.setEngine
  repeat' with_reducible first | assumption | (rw [State.mk_built]; apply Kept.upd)

theorem State.setEFlag_kept {mm : Bool} {sK : State} (s : State) (e n : Nat) (b : Bool) (hk : Kept mm sK s) : Kept mm sK (State.setEFlag s e
    n b) := by
  unfold State.setEFlag
  repeat' with_reducible first | assumption | apply Kept.setReg

theorem State.dropPatch_kept {mm : Bool} {sK : State} (s : State) (e : Nat) (hk : Kept mm sK s) : Kept mm sK (State.dropPatch s e) := by
  unfold State.dropPatch
  repeat' with_reducible first | assumption | (rw [State.mk_built]; apply Kept.upd)

theorem State.setDsp_kept {mm : Bool} {sK : State} (s : State) (e : Nat) (d : Dsp) (hk : Kept mm sK s) : Kept mm sK (State.setDsp s e d) := by
  unfold State.setDsp
  repeat' with_reducible first | assumption | apply State.setEngine_kept

theorem State.dspFlag_kept {mm : Bool} {sK : State} (s : State) (e n w : Nat) (hk : Kept mm sK s) : Kept mm sK (State.dspFlag s e n w) := by
  unfold State.dspFlag
  repeat' with_reducible first
      | assumption | refine Kept.ite (fun _ => ?_) (fun _ => ?_) | apply Kept.setReg | apply State.setDsp_kept | apply State.raise_kept
      | (rw [State.mk_built]; apply Kept.upd)

theorem State.dspApply_kept {mm : Bool} {sK : State} (s : State) (e w : Nat) (op : DspOp) (hk : Kept mm sK s) : Kept mm sK (State.dspApply s
    e w op) := by
  unfold State.dspApply
  repeat' with_reducible first
      | assumption | refine Kept.ite (fun _ => ?_) (fun _ => ?_) | apply State.setDsp_kept | apply State.dspFlag_kept
      | apply State.raise_kept | split

theorem State.dspPump_kept {mm : Bool} {sK : State} (s : State) (e w : Nat) (hk : Kept mm sK s) : Kept mm sK (State.dspPump s e w) := by
  unfold State.dspPump
  repeat' with_reducible first
      | assumption | refine Kept.foldl _ (fun _ _ _ => ?_) _ _ ?_ | apply State.dspApply_kept | apply State.setDsp_kept

theorem State.dspPumpAll_kept {mm : Bool} {sK : State} (s : State) (hk : Kept mm sK s) : Kept mm sK (State.dspPumpAll s) := by
  unfold State.dspPumpAll
  repeat' with_reducible first
      | assumption | refine Kept.ite (fun _ => ?_) (fun _ => ?_) | refine Kept.foldl _ (fun _ _ _ => ?_) _ _ ?_ | apply State.dspPump_kept

theorem State.dspPush_kept {mm : Bool} {sK : State} (s : State) (e w : Nat) (op : DspOp) (hk : Kept mm sK s) : Kept mm sK (State.dspPush s e
    w op) := by
  unfold State.dspPush
  repeat' with_reducible first | assumption | apply State.setDsp_kept

theorem State.resPop_kept {mm : Bool} {sK : State} (s : State) (e k : Nat) (hk : Kept mm sK s) : Kept mm sK (State.resPop s e k) := by
  unfold State.resPop
  repeat' with_reducible first
      | assumption | refine Kept.ite (fun _ => ?_) (fun _ => ?_) | apply State.setDsp_kept | apply State.ledMove_kept

theorem State.dspIssue_kept {mm : Bool} {sK : State} (s f : State) (e w slot stream : Nat) (hk : Kept mm sK s) : Kept mm sK (State.dspIssue
    s f e w slot stream).1 := by
  unfold State.dspIssue
  repeat' with_reducible first
      | assumption | refine Kept.ite (fun _ => ?_) (fun _ => ?_) | refine Kept.foldl _ (fun _ _ _ => ?_) _ _ ?_ | apply State.resPop_kept
      | apply State.setDsp_kept | apply State.dspPush_kept | split

theorem State.resDeliver_kept {mm : Bool} {sK : State} (s : State) (e k : Nat) (r : ResEntry) (hk : Kept mm sK s) : Kept mm sK
    (State.resDeliver s e k r) := by
  unfold State.resDeliver
  repeat' with_reducible first
      | assumption | refine Kept.ite (fun _ => ?_) (fun _ => ?_) | apply State.ledAdd_kept | apply State.setDsp_kept
      | apply State.dspFlag_kept

theorem execStepResult_kept {mm : Bool} (t : Nat) (ch : Fin 144) (s : State) : KeptN mm s (execStepResult t ch s) := by
  unfold execStepResult
  repeat' with_reducible first
      | assumption | exact Kept.refl _ | apply KeptN.next | refine Kept.ite (fun _ => ?_) (fun _ => ?_)
      | refine Kept.foldl _ (fun _ _ _ => ?_) _ _ ?_ | apply Kept.tickTo | apply State.resDeliver_kept | apply State.setChan_kept | split

theorem State.resFlush_kept {mm : Bool} {sK : State} (s : State) (e : Nat) (hk : Kept mm sK s) : Kept mm sK (State.resFlush s e) := by
  unfold State.resFlush
  repeat' with_reducible first | assumption | apply State.setDsp_kept | apply State.ledMove_kept

theorem ownDspState_kept {mm : Bool} {sK : State} (e : Nat) (imgO : List Byte) (ttO : Nat) (sO : State) (hk : Kept mm sK sO) : Kept mm sK
    (ownDspState e imgO ttO sO).2 := by
  unfold ownDspState
  repeat' with_reducible first
      | assumption | apply unscheduled_kept | apply State.dspPump_kept | apply State.setDsp_kept | apply State.resFlush_kept | exact id
      | split | dsimp only | intro _

theorem execDspStateCommit_kept {mm : Bool} (t : Nat) (r : Requester) (e : Fin 512) (crc tt : Nat) (s : State) : KeptN mm s
    (execDspStateCommit t r e crc tt s) := by
  unfold execDspStateCommit
  repeat' with_reducible first
      | exact Kept.refl _ | apply KeptN.next | apply Kept.tickTo | apply State.commitObj_kept | apply ownDspState_kept

theorem ownDspConfig_kept {mm : Bool} {sK : State} (e : Nat) (vO : Nat) (sO : State) (hk : Kept mm sK sO) : Kept mm sK (ownDspConfig e vO
    sO).2 := by
  unfold ownDspConfig
  repeat' with_reducible first
      | assumption | apply Kept.setReg | refine Kept.ite_snd (fun _ => ?_) (fun _ => ?_) | apply State.dspPump_kept

theorem ownDspFlags_kept {mm : Bool} {sK : State} (e : Nat) (vO : Nat) (sO : State) (hk : Kept mm sK sO) : Kept mm sK (ownDspFlags e vO
    sO).2 := by
  unfold ownDspFlags
  repeat' with_reducible first | assumption | apply State.dspPump_kept | apply State.clearFlags_kept

theorem State.setCluster_kept {mm : Bool} {sK : State} (s : State) (c : Nat) (x : Cluster) (hk : Kept mm sK s) : Kept mm sK
    (State.setCluster s c x) := by
  unfold State.setCluster
  repeat' with_reducible first | assumption | (rw [State.mk_built]; apply Kept.upd)

theorem State.setLane_kept {mm : Bool} {sK : State} (s : State) (e k : Nat) (l : Lane) (hk : Kept mm sK s) : Kept mm sK (State.setLane s e k
    l) := by
  unfold State.setLane
  repeat' with_reducible first | assumption | apply State.setEngine_kept

theorem State.addVec_kept {mm : Bool} {sK : State} (s : State) (e k wc : Nat) (v : HalfWord) (hk : Kept mm sK s) : Kept mm sK (State.addVec
    s e k wc v) := by
  unfold State.addVec
  repeat' with_reducible first | assumption | apply State.setLane_kept | apply State.pushLane_kept | split | dsimp only

theorem State.addStream_kept {mm : Bool} {sK : State} (s : State) (e k wc : Nat) (word : BitVec 48) (v0 v1 : Vec) (hk : Kept mm sK s) : Kept
    mm sK (State.addStream s e k wc word v0 v1) := by
  unfold State.addStream
  repeat' with_reducible first | assumption | apply State.setLane_kept | apply State.pushLane_kept

theorem State.placeMark_kept {mm : Bool} {sK : State} (s : State) (e w wc : Nat) (hk : Kept mm sK s) : Kept mm sK (State.placeMark s e w wc) := by
  unfold State.placeMark
  repeat' with_reducible first
      | assumption | refine Kept.ite (fun _ => ?_) (fun _ => ?_) | refine Kept.foldl _ (fun _ _ _ => ?_) _ _ ?_ | apply State.setLane_kept
      | apply State.setEngine_kept | apply State.markUnits_kept

theorem State.emitSlot_kept {mm : Bool} {sK : State} (s f : State) (e w wc : Nat) (hk : Kept mm sK s) : Kept mm sK (State.emitSlot s f e w
    wc) := by
  unfold State.emitSlot
  repeat' with_reducible first
      | assumption | refine Kept.ite (fun _ => ?_) (fun _ => ?_) | refine Kept.foldl _ (fun _ _ _ => ?_) _ _ ?_
      | apply State.portTake_kept | apply State.addStream_kept | apply State.addVec_kept | apply State.placeMark_kept
      | refine Kept.of_eq2 (by assumption) ?_ | split

theorem State.stopLanes_kept {mm : Bool} {sK : State} (s : State) (e wc : Nat) (hk : Kept mm sK s) : Kept mm sK (State.stopLanes s e wc) := by
  unfold State.stopLanes
  repeat' with_reducible first
      | assumption | refine Kept.ite (fun _ => ?_) (fun _ => ?_) | refine Kept.foldl _ (fun _ _ _ => ?_) _ _ ?_ | apply State.setLane_kept
      | apply State.pushLane_kept | split

theorem State.eventRecord_kept {mm : Bool} {sK : State} (s : State) (e kind : Nat) (x : EventInfo) (hk : Kept mm sK s) : Kept mm sK
    (State.eventRecord s e kind x) := by
  unfold State.eventRecord
  repeat' with_reducible first
      | assumption | refine Kept.ite (fun _ => ?_) (fun _ => ?_) | apply State.ledAdd_kept | apply State.offer_kept

theorem State.engineTrace_kept {mm : Bool} {sK : State} (s : State) (e kind comp : Nat) (hk : Kept mm sK s) : Kept mm sK (State.engineTrace
    s e kind comp) := by
  unfold State.engineTrace
  repeat' with_reducible first | assumption | apply State.trace_kept

theorem State.endRun_kept {mm : Bool} {sK : State} (s : State) (e st : Nat) (hk : Kept mm sK s) : Kept mm sK (State.endRun s e st) := by
  unfold State.endRun
  repeat' with_reducible first | assumption | apply Kept.setReg | apply State.setEngine_kept | apply State.rewindEngine_kept

theorem State.stopEngine_kept {mm : Bool} {sK : State} (s : State) (e wc : Nat) (x : EventInfo) (hk : Kept mm sK s) : Kept mm sK
    (State.stopEngine s e wc x) := by
  unfold State.stopEngine
  repeat' with_reducible first
      | assumption | apply Kept.setReg | apply State.stopLanes_kept | apply State.eventRecord_kept | apply State.engineTrace_kept
      | apply State.endRun_kept

theorem State.illegal_kept {mm : Bool} {sK : State} (s : State) (e wc cause : Nat) (x : EventInfo) (hk : Kept mm sK s) : Kept mm sK
    (State.illegal s e wc cause x) := by
  unfold State.illegal
  repeat' with_reducible first
      | assumption | apply Kept.setReg | apply State.setFlag_kept | apply State.stopLanes_kept | apply State.eventRecord_kept
      | apply State.engineTrace_kept | apply State.endRun_kept

theorem State.setHaltCause_kept {mm : Bool} {sK : State} (s : State) (e c : Nat) (hk : Kept mm sK s) : Kept mm sK (State.setHaltCause s e c) := by
  unfold State.setHaltCause
  repeat' with_reducible first | assumption | apply Kept.setImage

theorem State.haltEngine_kept {mm : Bool} {sK : State} (s : State) (e wc cause : Nat) (hk : Kept mm sK s) : Kept mm sK (State.haltEngine s e
    wc cause) := by
  unfold State.haltEngine
  repeat' with_reducible first
      | assumption | refine Kept.ite (fun _ => ?_) (fun _ => ?_) | apply Kept.setReg | apply State.setEngine_kept
      | apply State.setHaltCause_kept | apply State.engineTrace_kept

theorem State.haltGang_kept {mm : Bool} {sK : State} (s : State) (e wc : Nat) (causes : List (Nat × Nat)) (hk : Kept mm sK s) : Kept mm sK
    (State.haltGang s e wc causes) := by
  unfold State.haltGang
  repeat' with_reducible first | assumption | refine Kept.foldl _ (fun _ _ _ => ?_) _ _ ?_ | apply State.haltEngine_kept

theorem State.countMatch_kept {mm : Bool} {sK : State} (s : State) (e k : Nat) (hk : Kept mm sK s) : Kept mm sK (State.countMatch s e k) := by
  unfold State.countMatch
  repeat' with_reducible first | assumption | apply Kept.setImage

theorem State.traceMatches_kept {mm : Bool} {sK : State} (s : State) (e : Nat) (hk : Kept mm sK s) : Kept mm sK (State.traceMatches s e) := by
  unfold State.traceMatches
  repeat' with_reducible first
      | assumption | refine Kept.ite (fun _ => ?_) (fun _ => ?_) | refine Kept.foldl _ (fun _ _ _ => ?_) _ _ ?_
      | apply State.countMatch_kept | apply State.engineTrace_kept | apply State.stopTrace_kept | split | dsimp only

theorem State.feedTurn_kept {mm : Bool} {sK : State} (s : State) (c wc : Nat) (hk : Kept mm sK s) : Kept mm sK (State.feedTurn s c wc) := by
  unfold State.feedTurn
  repeat' with_reducible first
      | assumption | refine Kept.ite (fun _ => ?_) (fun _ => ?_) | refine Kept.foldl _ (fun _ _ _ => ?_) _ _ ?_
      | apply State.setCluster_kept | apply State.raiseMax_kept | apply State.bump_kept | apply State.setEngine_kept

theorem State.stallEngine_kept {mm : Bool} {sK : State} (s : State) (e wc : Nat) (c : Stalls) (hk : Kept mm sK s) : Kept mm sK
    (State.stallEngine s e wc c) := by
  unfold State.stallEngine
  repeat' with_reducible first
      | assumption | refine Kept.ite (fun _ => ?_) (fun _ => ?_) | apply State.bump_kept | apply State.countEvent_kept
      | apply State.engPulse_kept | apply State.setEngine_kept

theorem State.gangTurn_kept {mm : Bool} {sK : State} (s : State) (e wc : Nat) (hk : Kept mm sK s) : Kept mm sK (State.gangTurn s e wc).2 := by
  unfold State.gangTurn
  repeat' with_reducible first
      | assumption | refine Kept.ite (fun _ => ?_) (fun _ => ?_) | refine Kept.foldl _ (fun _ _ _ => ?_) _ _ ?_
      | refine Kept.ite_snd (fun _ => ?_) (fun _ => ?_) | apply State.feedTurn_kept | apply State.stallEngine_kept
      | apply State.countMatch_kept | apply State.haltGang_kept | apply State.setCluster_kept

theorem State.holdBuffer_kept {mm : Bool} {sK : State} (s : State) (c : Nat) (e : Option Nat) (hk : Kept mm sK s) : Kept mm sK
    (State.holdBuffer s c e) := by
  unfold State.holdBuffer
  repeat' with_reducible first | assumption | apply State.setCluster_kept | apply State.setBool_kept

theorem State.loadData_kept {sK : State} (s : State) (e : Nat) (b : List Byte) (hk : Kept false sK s) : Kept false sK (State.loadData s e b) := by
  unfold State.loadData
  repeat' with_reducible first
      | assumption | (rw [State.mk_built]; apply Kept.mem) | exact id | apply dramWrite_wf | apply memory_filter_wf | intro _

theorem State.leaveStores_kept {sK : State} (s : State) (slot e : Nat) (hk : Kept false sK s) : Kept false sK (State.leaveStores s slot e) := by
  unfold State.leaveStores
  repeat' with_reducible first | assumption | (rw [State.mk_built]; apply Kept.mem) | exact id | apply dramWrite_wf | intro _

theorem State.remap_kept {sK : State} (s0 : State) (e wc : Nat) (hk : Kept false sK s0) : Kept false sK (State.remap s0 e wc) := by
  unfold State.remap
  repeat' with_reducible first
      | assumption | apply Kept.setReg | apply State.dspPump_kept | apply State.leaveStores_kept | apply State.bump_kept
      | apply State.ledMove_kept | apply State.fault_kept | apply State.resFlush_kept | apply State.setEngine_kept
      | apply State.deisolate_kept | apply State.eventRecord_kept

theorem State.storesWritten_kept {mm : Bool} {sK : State} (s : State) (slot : Nat) (hk : Kept mm sK s) : Kept mm sK (State.storesWritten s
    slot) := by
  unfold State.storesWritten
  repeat' with_reducible first | assumption | apply State.freshWords_kept

theorem State.stopNow_kept {mm : Bool} {sK : State} (s : State) (e wc : Nat) (hk : Kept mm sK s) : Kept mm sK (State.stopNow s e wc) := by
  unfold State.stopNow
  repeat' with_reducible first
      | assumption | refine Kept.ite (fun _ => ?_) (fun _ => ?_) | apply State.haltPump_kept | apply State.dspPump_kept
      | apply State.setEngine_kept | apply State.illegal_kept | apply State.stopEngine_kept | split

theorem State.loadNow_kept {sK : State} (s : State) (e wc : Nat) (img : List Byte) (hk : Kept false sK s) : Kept false sK (State.loadNow s e
    wc img).2 := by
  unfold State.loadNow
  repeat' with_reducible first
      | assumption | refine Kept.ite (fun _ => ?_) (fun _ => ?_) | apply Kept.setReg | apply Kept.setImage
      | refine Kept.ite_snd (fun _ => ?_) (fun _ => ?_) | apply State.holdBuffer_kept | apply State.cancelAction_kept
      | apply State.stopNow_kept | apply State.stopEngine_kept | apply State.releaseAll_kept | apply State.remap_kept
      | apply State.setEngine_kept | apply State.loadData_kept | apply State.dropPatch_kept | apply State.storesWritten_kept

theorem State.loadClears_kept {mm : Bool} {sK : State} (s : State) (e : Nat) (hk : Kept mm sK s) : Kept mm sK (State.loadClears s e) := by
  unfold State.loadClears
  repeat' with_reducible first | assumption | apply Kept.setReg | apply State.setEngine_kept

theorem State.loadProgram_kept {sK : State} (s : State) (e wc : Nat) (img : List Byte) (hk : Kept false sK s) : Kept false sK
    (State.loadProgram s e wc img).2 := by
  unfold State.loadProgram
  repeat' with_reducible first
      | assumption | refine Kept.ite_snd (fun _ => ?_) (fun _ => ?_) | apply State.setEngine_kept | apply State.holdBuffer_kept
      | apply State.loadNow_kept | (rw [State.mk_built]; apply Kept.upd)

theorem State.waitedLoad_kept {sK : State} (s : State) (e wc : Nat) (hk : Kept false sK s) : Kept false sK (State.waitedLoad s e wc) := by
  unfold State.waitedLoad
  repeat' with_reducible first
      | assumption | refine Kept.ite (fun _ => ?_) (fun _ => ?_) | apply State.setEngine_kept | apply State.loadNow_kept
      | (rw [State.mk_built]; apply Kept.upd)

theorem State.firePoints_kept {mm : Bool} {sK : State} (s : State) (e : Nat) (x : EventInfo) (hk : Kept mm sK s) : Kept mm sK
    (State.firePoints s e x) := by
  unfold State.firePoints
  repeat' with_reducible first
      | assumption | refine Kept.ite (fun _ => ?_) (fun _ => ?_) | refine Kept.foldl _ (fun _ _ _ => ?_) _ _ ?_
      | apply State.engPulse_kept | apply State.bump_kept | apply State.engineTrace_kept | apply State.eventRecord_kept
      | apply State.raise_kept

theorem State.refreshCall_kept {mm : Bool} {sK : State} (s : State) (e w : Nat) (hk : Kept mm sK s) : Kept mm sK (State.refreshCall s e w) := by
  unfold State.refreshCall
  repeat' with_reducible first | assumption | refine Kept.ite (fun _ => ?_) (fun _ => ?_) | apply Kept.setReg | apply State.setEngine_kept

theorem State.afterIssue_kept {sK : State} (s : State) (e wc : Nat) (hk : Kept false sK s) : Kept false sK (State.afterIssue s e wc) := by
  unfold State.afterIssue
  repeat' with_reducible first
      | assumption | refine Kept.ite (fun _ => ?_) (fun _ => ?_) | apply State.stopEngine_kept | apply State.waitedLoad_kept
      | apply State.haltGang_kept | apply State.haltEngine_kept

theorem State.retire_kept {sK : State} (s : State) (e w wc : Nat) (x : EventInfo) (late : Bool) (hk : Kept false sK s) : Kept false sK
    (State.retire s e w wc x late) := by
  unfold State.retire
  repeat' with_reducible first
      | assumption | refine Kept.ite (fun _ => ?_) (fun _ => ?_) | apply State.setEngine_kept | apply State.engPulse_kept
      | apply State.bump_kept | apply State.countEvent_kept | apply State.firePoints_kept | apply State.setFlag_kept
      | apply State.eventRecord_kept | apply State.stopEngine_kept | apply State.refreshCall_kept | apply State.afterIssue_kept

theorem State.writeAll_kept {mm : Bool} {sK : State} (s : State) (l : List (Nat × Nat)) (hk : Kept mm sK s) : Kept mm sK (State.writeAll s
    l) := by
  unfold State.writeAll
  repeat' with_reducible first | assumption | refine Kept.foldl _ (fun _ _ _ => ?_) _ _ ?_ | apply Kept.setReg

theorem State.recordSite_kept {mm : Bool} {sK : State} (s : State) (e w v : Nat) (hk : Kept mm sK s) : Kept mm sK (State.recordSite s e w v) := by
  unfold State.recordSite
  repeat' with_reducible first
      | assumption | refine Kept.ite (fun _ => ?_) (fun _ => ?_) | refine Kept.foldl _ (fun _ _ _ => ?_) _ _ ?_ | apply Kept.setReg
      | apply State.setLane_kept

theorem State.seqEffects_kept {sK : State} (s f : State) (e w wc : Nat) (hk : Kept false sK s) : Kept false sK (State.seqEffects s f e w wc) := by
  unfold State.seqEffects
  repeat' with_reducible first
      | assumption | refine Kept.ite (fun _ => ?_) (fun _ => ?_) | apply Kept.setReg | apply State.recordSite_kept
      | apply State.setEngine_kept | apply State.bump_kept | (rw [State.mk_built]; apply Kept.mem) | exact id | apply dramWrite_wf | split

theorem State.takeDspStream_kept {mm : Bool} {sK : State} (s : State) (e w : Nat) (hk : Kept mm sK s) : Kept mm sK (State.takeDspStream s e
    w).2 := by
  unfold State.takeDspStream
  repeat' with_reducible first | assumption | apply State.portTake_kept | refine Kept.of_eq2 (by assumption) ?_ | split

theorem State.issue_kept {sK : State} (s0 : State) (e wc : Nat) (late : Bool) (cf : Option Bool) (hk : Kept false sK s0) : Kept false sK
    (State.issue s0 e wc late cf) := by
  unfold State.issue
  repeat' with_reducible first
      | assumption | refine Kept.ite (fun _ => ?_) (fun _ => ?_) | apply Kept.setReg | apply State.illegal_kept
      | apply State.setEFlag_kept | apply State.traceMatches_kept | apply State.seqEffects_kept | apply State.emitSlot_kept
      | apply State.takeDspStream_kept | apply State.dspIssue_kept | apply State.writeAll_kept | apply State.setEngine_kept
      | apply State.retire_kept | split

theorem State.engReads_kept {mm : Bool} {sK : State} (s : State) (e : Nat) (hk : Kept mm sK s) : Kept mm sK (State.engReads s e) := by
  unfold State.engReads
  repeat' with_reducible first | assumption | refine Kept.foldl _ (fun _ _ _ => ?_) _ _ ?_ | apply State.sramRead_kept

theorem State.waitClock_kept {mm : Bool} {sK : State} (s : State) (e wc due : Nat) (tt : Bool) (hk : Kept mm sK s) : Kept mm sK
    (State.waitClock s e wc due tt) := by
  unfold State.waitClock
  repeat' with_reducible first
      | assumption | refine Kept.ite (fun _ => ?_) (fun _ => ?_) | apply State.setEngine_kept | apply State.emitSlot_kept

theorem State.scrAccess_kept {sK : State} (s : State) (e wc : Nat) (hk : Kept false sK s) : Kept false sK (State.scrAccess s e wc) := by
  unfold State.scrAccess
  repeat' with_reducible first
      | assumption | refine Kept.ite (fun _ => ?_) (fun _ => ?_) | apply State.setEngine_kept | apply State.illegal_kept
      | apply State.issue_kept

theorem State.issueClaim_kept {mm : Bool} {sK : State} (s0 : State) (e wc : Nat) (hk : Kept mm sK s0) : Kept mm sK (State.issueClaim s0 e
    wc) := by
  unfold State.issueClaim
  repeat' with_reducible first | assumption | apply State.takeSamples_kept | apply State.setEngine_kept

theorem State.countClaimStall_kept {mm : Bool} {sK : State} (s : State) (e wc : Nat) (hk : Kept mm sK s) : Kept mm sK (State.countClaimStall
    s e wc) := by
  unfold State.countClaimStall
  repeat' with_reducible first
      | assumption | refine Kept.ite (fun _ => ?_) (fun _ => ?_) | refine Kept.foldl _ (fun _ _ _ => ?_) _ _ ?_ | apply State.bump_kept
      | apply State.countEvent_kept | apply State.setEngine_kept | split

theorem State.retireClaim_kept {sK : State} (s : State) (e wc : Nat) (c : Claim) (hk : Kept false sK s) : Kept false sK (State.retireClaim s
    e wc c) := by
  unfold State.retireClaim
  repeat' with_reducible first | assumption | apply State.issue_kept | split

theorem State.goOn_kept {sK : State} (s : State) (e wc : Nat) (hk : Kept false sK s) : Kept false sK (State.goOn s e wc) := by
  unfold State.goOn
  repeat' with_reducible first
      | assumption | refine Kept.ite (fun _ => ?_) (fun _ => ?_) | apply State.retireClaim_kept | apply State.waitClock_kept
      | apply State.issue_kept | apply State.sramBad_kept | apply State.stopEngine_kept | apply State.engReads_kept
      | apply State.illegal_kept | apply State.scrAccess_kept | apply State.issueClaim_kept | split | dsimp only

theorem State.engineTurn_kept {sK : State} (s : State) (e : Nat) (kind : State → Bool) (hk : Kept false sK s) : Kept false sK
    (State.engineTurn s e kind) := by
  unfold State.engineTurn
  repeat' with_reducible first
      | assumption | refine Kept.ite (fun _ => ?_) (fun _ => ?_) | refine Kept.foldl _ (fun _ _ _ => ?_) _ _ ?_
      | apply State.haltPump_kept | apply State.dspPump_kept | apply State.stallEngine_kept | apply State.countClaimStall_kept
      | apply State.gangTurn_kept | apply State.goOn_kept | refine Kept.of_eq2 (by assumption) ?_ | split | dsimp only

theorem execNext_kept (t : Nat) (e : Fin 512) (s : State) : KeptN false s (execNext t e s) := by
  unfold execNext
  repeat' with_reducible first | exact Kept.refl _ | apply KeptN.next | apply Kept.tickTo | apply State.engineTurn_kept

theorem execJmp_kept (t : Nat) (e : Fin 512) (s : State) : KeptN false s (execJmp t e s) := by
  unfold execJmp
  repeat' with_reducible first | exact Kept.refl _ | apply KeptN.next | apply Kept.tickTo | apply State.engineTurn_kept

theorem execCall_kept (t : Nat) (e : Fin 512) (s : State) : KeptN false s (execCall t e s) := by
  unfold execCall
  repeat' with_reducible first | exact Kept.refl _ | apply KeptN.next | apply Kept.tickTo | apply State.engineTurn_kept

theorem execRet_kept (t : Nat) (e : Fin 512) (s : State) : KeptN false s (execRet t e s) := by
  unfold execRet
  repeat' with_reducible first | exact Kept.refl _ | apply KeptN.next | apply Kept.tickTo | apply State.engineTurn_kept

theorem execLoop_kept (t : Nat) (e : Fin 512) (s : State) : KeptN false s (execLoop t e s) := by
  unfold execLoop
  repeat' with_reducible first | exact Kept.refl _ | apply KeptN.next | apply Kept.tickTo | apply State.engineTurn_kept

theorem execLdlci_kept (t : Nat) (e : Fin 512) (s : State) : KeptN false s (execLdlci t e s) := by
  unfold execLdlci
  repeat' with_reducible first | exact Kept.refl _ | apply KeptN.next | apply Kept.tickTo | apply State.engineTurn_kept

theorem execLdlc_kept (t : Nat) (e : Fin 512) (s : State) : KeptN false s (execLdlc t e s) := by
  unfold execLdlc
  repeat' with_reducible first | exact Kept.refl _ | apply KeptN.next | apply Kept.tickTo | apply State.engineTurn_kept

theorem execWaittt_kept (t : Nat) (e : Fin 512) (s : State) : KeptN false s (execWaittt t e s) := by
  unfold execWaittt
  repeat' with_reducible first | exact Kept.refl _ | apply KeptN.next | apply Kept.tickTo | apply State.engineTurn_kept

theorem execWaitttRetire_kept (t : Nat) (e : Fin 512) (s : State) : KeptN false s (execWaitttRetire t e s) := by
  unfold execWaitttRetire
  repeat' with_reducible first | exact Kept.refl _ | apply KeptN.next | apply Kept.tickTo | apply State.engineTurn_kept

theorem execWaitc_kept (t : Nat) (e : Fin 512) (s : State) : KeptN false s (execWaitc t e s) := by
  unfold execWaitc
  repeat' with_reducible first | exact Kept.refl _ | apply KeptN.next | apply Kept.tickTo | apply State.engineTurn_kept

theorem execWaitcRetire_kept (t : Nat) (e : Fin 512) (s : State) : KeptN false s (execWaitcRetire t e s) := by
  unfold execWaitcRetire
  repeat' with_reducible first | exact Kept.refl _ | apply KeptN.next | apply Kept.tickTo | apply State.engineTurn_kept

theorem execStop_kept (t : Nat) (e : Fin 512) (s : State) : KeptN false s (execStop t e s) := by
  unfold execStop
  repeat' with_reducible first | exact Kept.refl _ | apply KeptN.next | apply Kept.tickTo | apply State.engineTurn_kept

theorem execSite_kept (t : Nat) (e : Fin 512) (s : State) : KeptN false s (execSite t e s) := by
  unfold execSite
  repeat' with_reducible first | exact Kept.refl _ | apply KeptN.next | apply Kept.tickTo | apply State.engineTurn_kept

theorem execScrld_kept (t : Nat) (e : Fin 512) (s : State) : KeptN false s (execScrld t e s) := by
  unfold execScrld
  repeat' with_reducible first | exact Kept.refl _ | apply KeptN.next | apply Kept.tickTo | apply State.engineTurn_kept

theorem execHclaim_kept (t : Nat) (e : Fin 512) (s : State) : KeptN false s (execHclaim t e s) := by
  unfold execHclaim
  repeat' with_reducible first | exact Kept.refl _ | apply KeptN.next | apply Kept.tickTo | apply State.engineTurn_kept

theorem execHrelease_kept (t : Nat) (e : Fin 512) (s : State) : KeptN false s (execHrelease t e s) := by
  unfold execHrelease
  repeat' with_reducible first | exact Kept.refl _ | apply KeptN.next | apply Kept.tickTo | apply State.engineTurn_kept

theorem execLds_kept (t : Nat) (e : Fin 512) (s : State) : KeptN false s (execLds t e s) := by
  unfold execLds
  repeat' with_reducible first | exact Kept.refl _ | apply KeptN.next | apply Kept.tickTo | apply State.engineTurn_kept

theorem execSts_kept (t : Nat) (e : Fin 512) (s : State) : KeptN false s (execSts t e s) := by
  unfold execSts
  repeat' with_reducible first | exact Kept.refl _ | apply KeptN.next | apply Kept.tickTo | apply State.engineTurn_kept

theorem execMov_kept (t : Nat) (e : Fin 512) (s : State) : KeptN false s (execMov t e s) := by
  unfold execMov
  repeat' with_reducible first | exact Kept.refl _ | apply KeptN.next | apply Kept.tickTo | apply State.engineTurn_kept

theorem execAdd_kept (t : Nat) (e : Fin 512) (s : State) : KeptN false s (execAdd t e s) := by
  unfold execAdd
  repeat' with_reducible first | exact Kept.refl _ | apply KeptN.next | apply Kept.tickTo | apply State.engineTurn_kept

theorem execSub_kept (t : Nat) (e : Fin 512) (s : State) : KeptN false s (execSub t e s) := by
  unfold execSub
  repeat' with_reducible first | exact Kept.refl _ | apply KeptN.next | apply Kept.tickTo | apply State.engineTurn_kept

theorem execAnd_kept (t : Nat) (e : Fin 512) (s : State) : KeptN false s (execAnd t e s) := by
  unfold execAnd
  repeat' with_reducible first | exact Kept.refl _ | apply KeptN.next | apply Kept.tickTo | apply State.engineTurn_kept

theorem execOr_kept (t : Nat) (e : Fin 512) (s : State) : KeptN false s (execOr t e s) := by
  unfold execOr
  repeat' with_reducible first | exact Kept.refl _ | apply KeptN.next | apply Kept.tickTo | apply State.engineTurn_kept

theorem execXor_kept (t : Nat) (e : Fin 512) (s : State) : KeptN false s (execXor t e s) := by
  unfold execXor
  repeat' with_reducible first | exact Kept.refl _ | apply KeptN.next | apply Kept.tickTo | apply State.engineTurn_kept

theorem execShl_kept (t : Nat) (e : Fin 512) (s : State) : KeptN false s (execShl t e s) := by
  unfold execShl
  repeat' with_reducible first | exact Kept.refl _ | apply KeptN.next | apply Kept.tickTo | apply State.engineTurn_kept

theorem execShr_kept (t : Nat) (e : Fin 512) (s : State) : KeptN false s (execShr t e s) := by
  unfold execShr
  repeat' with_reducible first | exact Kept.refl _ | apply KeptN.next | apply Kept.tickTo | apply State.engineTurn_kept

theorem execCmp_kept (t : Nat) (e : Fin 512) (s : State) : KeptN false s (execCmp t e s) := by
  unfold execCmp
  repeat' with_reducible first | exact Kept.refl _ | apply KeptN.next | apply Kept.tickTo | apply State.engineTurn_kept

theorem execTst_kept (t : Nat) (e : Fin 512) (s : State) : KeptN false s (execTst t e s) := by
  unfold execTst
  repeat' with_reducible first | exact Kept.refl _ | apply KeptN.next | apply Kept.tickTo | apply State.engineTurn_kept

theorem execMovi_kept (t : Nat) (e : Fin 512) (s : State) : KeptN false s (execMovi t e s) := by
  unfold execMovi
  repeat' with_reducible first | exact Kept.refl _ | apply KeptN.next | apply Kept.tickTo | apply State.engineTurn_kept

theorem execAddi_kept (t : Nat) (e : Fin 512) (s : State) : KeptN false s (execAddi t e s) := by
  unfold execAddi
  repeat' with_reducible first | exact Kept.refl _ | apply KeptN.next | apply Kept.tickTo | apply State.engineTurn_kept

theorem execSubi_kept (t : Nat) (e : Fin 512) (s : State) : KeptN false s (execSubi t e s) := by
  unfold execSubi
  repeat' with_reducible first | exact Kept.refl _ | apply KeptN.next | apply Kept.tickTo | apply State.engineTurn_kept

theorem execAndi_kept (t : Nat) (e : Fin 512) (s : State) : KeptN false s (execAndi t e s) := by
  unfold execAndi
  repeat' with_reducible first | exact Kept.refl _ | apply KeptN.next | apply Kept.tickTo | apply State.engineTurn_kept

theorem execOri_kept (t : Nat) (e : Fin 512) (s : State) : KeptN false s (execOri t e s) := by
  unfold execOri
  repeat' with_reducible first | exact Kept.refl _ | apply KeptN.next | apply Kept.tickTo | apply State.engineTurn_kept

theorem execXori_kept (t : Nat) (e : Fin 512) (s : State) : KeptN false s (execXori t e s) := by
  unfold execXori
  repeat' with_reducible first | exact Kept.refl _ | apply KeptN.next | apply Kept.tickTo | apply State.engineTurn_kept

theorem execShli_kept (t : Nat) (e : Fin 512) (s : State) : KeptN false s (execShli t e s) := by
  unfold execShli
  repeat' with_reducible first | exact Kept.refl _ | apply KeptN.next | apply Kept.tickTo | apply State.engineTurn_kept

theorem execShri_kept (t : Nat) (e : Fin 512) (s : State) : KeptN false s (execShri t e s) := by
  unfold execShri
  repeat' with_reducible first | exact Kept.refl _ | apply KeptN.next | apply Kept.tickTo | apply State.engineTurn_kept

theorem execCmpi_kept (t : Nat) (e : Fin 512) (s : State) : KeptN false s (execCmpi t e s) := by
  unfold execCmpi
  repeat' with_reducible first | exact Kept.refl _ | apply KeptN.next | apply Kept.tickTo | apply State.engineTurn_kept

theorem execTsti_kept (t : Nat) (e : Fin 512) (s : State) : KeptN false s (execTsti t e s) := by
  unfold execTsti
  repeat' with_reducible first | exact Kept.refl _ | apply KeptN.next | apply Kept.tickTo | apply State.engineTurn_kept

theorem execLdk0_kept (t : Nat) (e : Fin 512) (s : State) : KeptN false s (execLdk0 t e s) := by
  unfold execLdk0
  repeat' with_reducible first | exact Kept.refl _ | apply KeptN.next | apply Kept.tickTo | apply State.engineTurn_kept

theorem execLdk1_kept (t : Nat) (e : Fin 512) (s : State) : KeptN false s (execLdk1 t e s) := by
  unfold execLdk1
  repeat' with_reducible first | exact Kept.refl _ | apply KeptN.next | apply Kept.tickTo | apply State.engineTurn_kept

theorem execLdk2_kept (t : Nat) (e : Fin 512) (s : State) : KeptN false s (execLdk2 t e s) := by
  unfold execLdk2
  repeat' with_reducible first | exact Kept.refl _ | apply KeptN.next | apply Kept.tickTo | apply State.engineTurn_kept

theorem execMac_kept (t : Nat) (e : Fin 512) (s : State) : KeptN false s (execMac t e s) := by
  unfold execMac
  repeat' with_reducible first | exact Kept.refl _ | apply KeptN.next | apply Kept.tickTo | apply State.engineTurn_kept

theorem execMmx_kept (t : Nat) (e : Fin 512) (s : State) : KeptN false s (execMmx t e s) := by
  unfold execMmx
  repeat' with_reducible first | exact Kept.refl _ | apply KeptN.next | apply Kept.tickTo | apply State.engineTurn_kept

theorem execMmclr_kept (t : Nat) (e : Fin 512) (s : State) : KeptN false s (execMmclr t e s) := by
  unfold execMmclr
  repeat' with_reducible first | exact Kept.refl _ | apply KeptN.next | apply Kept.tickTo | apply State.engineTurn_kept

theorem execAccrd_kept (t : Nat) (e : Fin 512) (s : State) : KeptN false s (execAccrd t e s) := by
  unfold execAccrd
  repeat' with_reducible first | exact Kept.refl _ | apply KeptN.next | apply Kept.tickTo | apply State.engineTurn_kept

theorem execMmrd_kept (t : Nat) (e : Fin 512) (s : State) : KeptN false s (execMmrd t e s) := by
  unfold execMmrd
  repeat' with_reducible first | exact Kept.refl _ | apply KeptN.next | apply Kept.tickTo | apply State.engineTurn_kept

theorem execAccset_kept (t : Nat) (e : Fin 512) (s : State) : KeptN false s (execAccset t e s) := by
  unfold execAccset
  repeat' with_reducible first | exact Kept.refl _ | apply KeptN.next | apply Kept.tickTo | apply State.engineTurn_kept

theorem execLdop_kept (t : Nat) (e : Fin 512) (s : State) : KeptN false s (execLdop t e s) := by
  unfold execLdop
  repeat' with_reducible first | exact Kept.refl _ | apply KeptN.next | apply Kept.tickTo | apply State.engineTurn_kept

theorem execSwitch_kept (t : Nat) (e : Fin 512) (s : State) : KeptN false s (execSwitch t e s) := by
  unfold execSwitch
  repeat' with_reducible first | exact Kept.refl _ | apply KeptN.next | apply Kept.tickTo | apply State.engineTurn_kept

theorem execResrd_kept (t : Nat) (e : Fin 512) (s : State) : KeptN false s (execResrd t e s) := by
  unfold execResrd
  repeat' with_reducible first | exact Kept.refl _ | apply KeptN.next | apply Kept.tickTo | apply State.engineTurn_kept

theorem execRefreshTimer_kept {mm : Bool} (t : Nat) (e : Fin 512) (s : State) : KeptN mm s (execRefreshTimer t e s) := by
  unfold execRefreshTimer
  repeat' with_reducible first
      | exact Kept.refl _ | apply KeptN.next | refine Kept.ite (fun _ => ?_) (fun _ => ?_) | apply Kept.setReg | apply Kept.tickTo
      | apply State.setEngine_kept | apply State.setFlag_kept | apply State.eventRecord_kept

theorem ownStartArm_kept {mm : Bool} {sK : State} (e : Nat) (vO : Nat) (sO : State) (hk : Kept mm sK sO) : Kept mm sK (ownStartArm e vO
    sO).2 := by
  unfold ownStartArm
  repeat' with_reducible first
      | assumption | apply Kept.setReg | apply arming_kept | apply State.armAction_kept | apply State.setEngine_kept | exact id
      | refine Kept.of_eq2 (by assumption) ?_ | split | dsimp only | intro _

theorem execStartArm_kept {mm : Bool} (t : Nat) (r : Requester) (e : Fin 512) (v : Bool) (s : State) : KeptN mm s (execStartArm t r e v s) := by
  unfold execStartArm
  repeat' with_reducible first
      | exact Kept.refl _ | apply KeptN.next | apply Kept.tickTo | apply State.writeObj_kept | apply ownStartArm_kept

theorem ownStartCancel_kept {mm : Bool} {sK : State} (e : Nat) (vO : Nat) (sO : State) (hk : Kept mm sK sO) : Kept mm sK (ownStartCancel e
    vO sO).2 := by
  unfold ownStartCancel
  repeat' with_reducible first
      | assumption | apply Kept.setReg | apply command_kept | apply State.cancelAction_kept | refine Kept.of_eq2 (by assumption) ?_
      | split | dsimp only | intro _

theorem execStartCancel_kept {mm : Bool} (t : Nat) (r : Requester) (e : Fin 512) (v : Bool) (s : State) : KeptN mm s (execStartCancel t r e
    v s) := by
  unfold execStartCancel
  repeat' with_reducible first
      | exact Kept.refl _ | apply KeptN.next | apply Kept.tickTo | apply State.writeObj_kept | apply ownStartCancel_kept

theorem State.startEngine_kept {mm : Bool} {sK : State} (s : State) (e wc : Nat) (hk : Kept mm sK s) : Kept mm sK (State.startEngine s e wc) := by
  unfold State.startEngine
  repeat' with_reducible first | assumption | apply Kept.setReg | apply State.setEngine_kept

theorem execEngineStart_kept {mm : Bool} (t : Nat) (e : Fin 512) (s : State) : KeptN mm s (execEngineStart t e s) := by
  unfold execEngineStart
  repeat' with_reducible first
      | exact Kept.refl _ | apply KeptN.next | refine Kept.ite (fun _ => ?_) (fun _ => ?_) | apply Kept.tickTo
      | apply State.endAction_kept | apply State.startEngine_kept | split

theorem ownStopReq_kept {mm : Bool} {sK : State} (e : Nat) (vO : Nat) (sO : State) (hk : Kept mm sK sO) : Kept mm sK (ownStopReq e vO sO).2 := by
  unfold ownStopReq
  repeat' with_reducible first | assumption | apply command_kept | apply State.stopNow_kept | exact id | split | intro _

theorem execStopReq_kept {mm : Bool} (t : Nat) (r : Requester) (e : Fin 512) (v : Bool) (s : State) : KeptN mm s (execStopReq t r e v s) := by
  unfold execStopReq
  repeat' with_reducible first
      | exact Kept.refl _ | apply KeptN.next | apply Kept.tickTo | apply State.writeObj_kept | apply ownStopReq_kept

theorem ownProgram_kept {sK : State} (e : Nat) (imgO : List Byte) (ttO : Nat) (sO : State) (hk : Kept false sK sO) : Kept false sK
    (ownProgram e imgO ttO sO).2 := by
  unfold ownProgram
  repeat' with_reducible first
      | assumption | apply scheduled_kept | apply State.loadProgram_kept | apply State.armAction_kept
      | (rw [State.mk_built]; apply Kept.upd) | exact id | split | dsimp only | intro _

theorem State.settleBuffer_kept {mm : Bool} {sK : State} (s : State) (e : Nat) (hk : Kept mm sK s) : Kept mm sK (State.settleBuffer s e) := by
  unfold State.settleBuffer
  repeat' with_reducible first | assumption | refine Kept.ite (fun _ => ?_) (fun _ => ?_) | apply State.holdBuffer_kept

theorem execProgramLoad_kept (t : Nat) (e : Fin 512) (w : CommitStep) (s : State) : KeptN false s (execProgramLoad t e w s) := by
  unfold execProgramLoad
  repeat' with_reducible first
      | exact Kept.refl _ | apply KeptN.next | refine Kept.ite (fun _ => ?_) (fun _ => ?_) | apply Kept.tickTo
      | refine Kept.ite_snd (fun _ => ?_) (fun _ => ?_) | apply State.commitObj_kept | apply ownProgram_kept
      | apply State.settleBuffer_kept | apply State.loadProgram_kept | apply State.endAction_kept | (rw [State.mk_built]; apply Kept.upd)
      | split

theorem execLoadComplete_kept {mm : Bool} (t : Nat) (e : Fin 512) (s : State) : KeptN mm s (execLoadComplete t e s) := by
  unfold execLoadComplete
  repeat' with_reducible first
      | exact Kept.refl _ | apply KeptN.next | refine Kept.ite (fun _ => ?_) (fun _ => ?_) | apply Kept.setReg | apply Kept.tickTo
      | apply State.loadClears_kept | apply State.holdBuffer_kept | apply State.rewindEngine_kept

theorem ownFailedMark_kept {mm : Bool} {sK : State} (e : Nat) (vO : Nat) (sO : State) (hk : Kept mm sK sO) : Kept mm sK (ownFailedMark e vO
    sO).2 := by
  unfold ownFailedMark
  repeat' with_reducible first | assumption | apply command_kept | apply State.setEngine_kept | dsimp only | intro _

theorem execFailedMark_kept {mm : Bool} (t : Nat) (r : Requester) (e : Fin 512) (v : Bool) (s : State) : KeptN mm s (execFailedMark t r e v
    s) := by
  unfold execFailedMark
  repeat' with_reducible first
      | exact Kept.refl _ | apply KeptN.next | apply Kept.tickTo | apply State.writeObj_kept | apply ownFailedMark_kept

theorem State.portDecide_kept {mm : Bool} {sK : State} (s : State) (q : Nat) (hk : Kept mm sK s) : Kept mm sK (State.portDecide s q) := by
  unfold State.portDecide
  repeat' with_reducible first
      | assumption | refine Kept.ite (fun _ => ?_) (fun _ => ?_) | apply State.decideClaim_kept | apply State.setEngine_kept
      | (rw [State.mk_built]; apply Kept.upd) | split | dsimp only

theorem execClaimDecision_kept {mm : Bool} (t : Nat) (q : Fin 4) (s : State) : KeptN mm s (execClaimDecision t q s) := by
  unfold execClaimDecision
  repeat' with_reducible first
      | assumption | exact Kept.refl _ | apply KeptN.next | refine Kept.foldl _ (fun _ _ _ => ?_) _ _ ?_ | apply Kept.tickTo
      | apply State.portDecide_kept | apply State.tableDue_kept | apply State.haltPump_kept | apply State.disarmAll_kept

theorem ownFeedSched_kept {mm : Bool} {sK : State} (c : Nat) (imgO : List Byte) (ttO : Nat) (sO : State) (hk : Kept mm sK sO) : Kept mm sK
    (ownFeedSched c imgO ttO sO).2 := by
  unfold ownFeedSched
  repeat' with_reducible first
      | assumption | apply scheduled_kept | apply State.swapImage_kept | apply State.armAction_kept
      | (rw [State.mk_built]; apply Kept.upd) | exact id | split | dsimp only | intro _

theorem execFeedSchedCommit_kept {mm : Bool} (t : Nat) (c : Fin 16) (w : CommitStep) (s : State) : KeptN mm s (execFeedSchedCommit t c w s) := by
  unfold execFeedSchedCommit
  repeat' with_reducible first
      | exact Kept.refl _ | apply KeptN.next | refine Kept.ite (fun _ => ?_) (fun _ => ?_) | apply Kept.tickTo
      | apply State.commitObj_kept | apply ownFeedSched_kept | apply State.endAction_kept | apply State.swapImage_kept
      | (rw [State.mk_built]; apply Kept.upd) | split

end Sys2Proof.Machine
end

