-- ==== Sys2Proof/Laws/KeptLinks.lean ====
section
/-! SUPPORT. Serial lanes, yard links and management ports: what every function of a state keeps (`Kept`), one law a function, and one a command. Laws with the
parameter `mm` hold with the addressed memories unchanged too; those with `false` are of the functions that may write one. -/

namespace Sys2Proof.Machine

theorem State.setSer_kept {mm : Bool} {sK : State} (s : State) (ch : Nat) (x : SerLane) (hk : Kept mm sK s) : Kept mm sK (State.setSer s ch
    x) := by
  unfold State.setSer
  repeat' with_reducible first | assumption | (rw [State.mk_built]; apply Kept.upd)

theorem State.seedPrbs_kept {mm : Bool} {sK : State} (s : State) (ch : Nat) (hk : Kept mm sK s) : Kept mm sK (State.seedPrbs s ch) := by
  unfold State.seedPrbs
  repeat' with_reducible first | assumption | apply Kept.setReg | apply State.setSer_kept

theorem ownPrbs_kept {mm : Bool} {sK : State} (ch : Nat) (vO : Nat) (sO : State) (hk : Kept mm sK sO) : Kept mm sK (ownPrbs ch vO sO).2 := by
  unfold ownPrbs
  repeat' with_reducible first
      | assumption | refine Kept.ite (fun _ => ?_) (fun _ => ?_) | apply Kept.setReg | refine Kept.ite_snd (fun _ => ?_) (fun _ => ?_)
      | apply State.seedPrbs_kept

theorem execPrbsWrite_kept {mm : Bool} (t : Nat) (r : Requester) (ch : Fin 144) (v : Nat) (s : State) : KeptN mm s (execPrbsWrite t r ch v
    s) := by
  unfold execPrbsWrite
  repeat' with_reducible first | exact Kept.refl _ | apply KeptN.next | apply Kept.tickTo | apply State.writeObj_kept | apply ownPrbs_kept

theorem State.checkBit_kept {mm : Bool} {sK : State} (s : State) (ch : Nat) (line : Bool) (hk : Kept mm sK s) : Kept mm sK (State.checkBit s
    ch line) := by
  unfold State.checkBit
  repeat' with_reducible first
      | assumption | refine Kept.ite (fun _ => ?_) (fun _ => ?_) | apply Kept.setReg | apply State.setSer_kept | apply State.bump_kept

theorem ownErrClear_kept {mm : Bool} {sK : State} (ch : Nat) (vO : Nat) (sO : State) (hk : Kept mm sK sO) : Kept mm sK (ownErrClear ch vO
    sO).2 := by
  unfold ownErrClear
  repeat' with_reducible first | assumption | apply Kept.setReg | apply command_kept | dsimp only | intro _

theorem execErrClear_kept {mm : Bool} (t : Nat) (r : Requester) (ch : Fin 144) (v : Bool) (s : State) : KeptN mm s (execErrClear t r ch v s) := by
  unfold execErrClear
  repeat' with_reducible first
      | exact Kept.refl _ | apply KeptN.next | apply Kept.tickTo | apply State.writeObj_kept | apply ownErrClear_kept

theorem ownSerEn_kept {mm : Bool} {sK : State} (ch : Nat) (vO : Nat) (sO : State) (hk : Kept mm sK sO) : Kept mm sK (ownSerEn ch vO sO).2 := by
  unfold ownSerEn
  repeat' with_reducible first
      | assumption | refine Kept.ite (fun _ => ?_) (fun _ => ?_) | apply Kept.setReg | refine Kept.ite_snd (fun _ => ?_) (fun _ => ?_)
      | apply State.seedPrbs_kept | apply State.setSer_kept | apply State.setChan_kept | apply State.parkLevels_kept

theorem execSerEn_kept {mm : Bool} (t : Nat) (r : Requester) (ch : Fin 144) (v : Bool) (s : State) : KeptN mm s (execSerEn t r ch v s) := by
  unfold execSerEn
  repeat' with_reducible first
      | exact Kept.refl _ | apply KeptN.next | apply Kept.tickTo | apply State.writeObj_kept | apply ownSerEn_kept

theorem ownFfe_kept {mm : Bool} {sK : State} (ch : Nat) (vO : Nat) (sO : State) (hk : Kept mm sK sO) : Kept mm sK (ownFfe ch vO sO).2 := by
  unfold ownFfe
  repeat' with_reducible first | assumption | apply Kept.setReg | refine Kept.ite_snd (fun _ => ?_) (fun _ => ?_)

theorem ownDfe_kept {mm : Bool} {sK : State} (ch : Nat) (vO : Nat) (sO : State) (hk : Kept mm sK sO) : Kept mm sK (ownDfe ch vO sO).2 := by
  unfold ownDfe
  repeat' with_reducible first | assumption | apply Kept.setReg | refine Kept.ite_snd (fun _ => ?_) (fun _ => ?_)

theorem State.slip_kept {mm : Bool} {sK : State} (s : State) (ch : Nat) (hk : Kept mm sK s) : Kept mm sK (State.slip s ch) := by
  unfold State.slip
  repeat' with_reducible first | assumption | apply State.setSer_kept

theorem State.rxSymbol_kept {mm : Bool} {sK : State} (s : State) (ch : Nat) (l : List Bool) (hk : Kept mm sK s) : Kept mm sK (State.rxSymbol
    s ch l).2.2 := by
  unfold State.rxSymbol
  repeat' with_reducible first
      | assumption | apply State.setSer_kept | apply State.bump_kept | apply State.drawNat_kept | split | dsimp only

theorem State.rxDeliver_kept {mm : Bool} {sK : State} (s : State) (ch : Nat) (w : Nat × Nat) (hk : Kept mm sK s) : Kept mm sK
    (State.rxDeliver s ch w) := by
  unfold State.rxDeliver
  repeat' with_reducible first | assumption | refine Kept.ite (fun _ => ?_) (fun _ => ?_) | apply State.setSer_kept

theorem State.rxHeader_kept {mm : Bool} {sK : State} (s : State) (ch : Nat) (valid : Bool) (hk : Kept mm sK s) : Kept mm sK (State.rxHeader
    s ch valid) := by
  unfold State.rxHeader
  repeat' with_reducible first
      | assumption | refine Kept.ite (fun _ => ?_) (fun _ => ?_) | apply Kept.setReg | apply State.bump_kept | apply State.setSer_kept
      | apply State.slip_kept

theorem State.rxWord_kept {mm : Bool} {sK : State} (s : State) (ch : Nat) (l : List Bool) (hk : Kept mm sK s) : Kept mm sK (State.rxWord s
    ch l).2 := by
  unfold State.rxWord
  repeat' with_reducible first
      | assumption | refine Kept.foldl2 _ (fun _ _ _ => ?_) _ _ ?_ | refine Kept.ite_snd (fun _ => ?_) (fun _ => ?_)
      | apply State.rxSymbol_kept | apply State.setSer_kept | apply State.rxHeader_kept | split

theorem State.rxStep_kept {mm : Bool} {sK : State} (s : State) (ch : Nat) (hk : Kept mm sK s) : Kept mm sK (State.rxStep s ch) := by
  unfold State.rxStep
  repeat' with_reducible first
      | assumption | refine Kept.ite (fun _ => ?_) (fun _ => ?_) | apply Kept.setReg | apply State.setSer_kept | apply State.rxWord_kept
      | apply State.rxDeliver_kept | apply State.slip_kept | split

theorem State.rxBits_kept {mm : Bool} {sK : State} (s : State) (ch : Nat) (line : List Bool) (hk : Kept mm sK s) : Kept mm sK (State.rxBits
    s ch line) := by
  unfold State.rxBits
  repeat' with_reducible first
      | assumption | refine Kept.foldl _ (fun _ _ _ => ?_) _ _ ?_ | refine Kept.repeat _ (fun _ _ => ?_) _ _ ?_
      | apply State.checkBit_kept | apply State.setSer_kept | apply State.rxStep_kept

theorem State.rxCmh_kept {mm : Bool} {sK : State} (s : State) (ch : Nat) (line : List Bool) (hk : Kept mm sK s) : Kept mm sK (State.rxCmh s
    ch line) := by
  unfold State.rxCmh
  repeat' with_reducible first
      | assumption | refine Kept.ite (fun _ => ?_) (fun _ => ?_) | apply State.setSer_kept | apply State.rxBits_kept

theorem execPrbsLock_kept {mm : Bool} (t : Nat) (ch : Fin 144) (line : List Bool) (s : State) : KeptN mm s (execPrbsLock t ch line s) := by
  unfold execPrbsLock
  repeat' with_reducible first | exact Kept.refl _ | apply KeptN.next | apply Kept.tickTo | apply State.rxCmh_kept

theorem execAlignment_kept {mm : Bool} (t : Nat) (ch : Fin 144) (line : List Bool) (s : State) : KeptN mm s (execAlignment t ch line s) := by
  unfold execAlignment
  repeat' with_reducible first | exact Kept.refl _ | apply KeptN.next | apply Kept.tickTo | apply State.rxCmh_kept

theorem State.txPut_kept {mm : Bool} {sK : State} (s : State) (ch : Nat) (l : List Bool) (w : Nat) (hk : Kept mm sK s) : Kept mm sK
    (State.txPut s ch l w) := by
  unfold State.txPut
  repeat' with_reducible first
      | assumption | refine Kept.foldl _ (fun _ _ _ => ?_) _ _ ?_ | apply State.setSer_kept | apply State.rxBits_kept
      | apply State.checkBit_kept | apply State.rxDeliver_kept | apply State.setChan_kept | split

theorem State.serSend_kept {mm : Bool} {sK : State} (s : State) (ch w : Nat) (ctl : Bool) (hk : Kept mm sK s) : Kept mm sK (State.serSend s
    ch w ctl) := by
  unfold State.serSend
  repeat' with_reducible first | assumption | apply State.setSer_kept | apply State.bump_kept | apply State.txPut_kept

theorem execSerialTransmitWord_kept {mm : Bool} (t : Nat) (ch : Fin 144) (s : State) : KeptN mm s (execSerialTransmitWord t ch s) := by
  unfold execSerialTransmitWord
  repeat' with_reducible first
      | exact Kept.refl _ | apply KeptN.next | refine Kept.ite (fun _ => ?_) (fun _ => ?_) | apply Kept.tickTo
      | apply State.switchOut_kept | apply State.drawBytes_kept | apply State.txPut_kept | apply State.setSer_kept
      | apply State.setChan_kept | apply State.serSend_kept | split

theorem execSerialFill_kept {mm : Bool} (t : Nat) (ch : Fin 144) (s : State) : KeptN mm s (execSerialFill t ch s) := by
  unfold execSerialFill
  repeat' with_reducible first
      | exact Kept.refl _ | apply KeptN.next | refine Kept.ite (fun _ => ?_) (fun _ => ?_) | apply Kept.tickTo
      | apply State.switchOut_kept | apply State.serSend_kept | apply State.chanPulse_kept | apply State.setFlag_kept
      | apply State.invalidate_kept

theorem ownBitslip_kept {mm : Bool} {sK : State} (ch : Nat) (vO : Nat) (sO : State) (hk : Kept mm sK sO) : Kept mm sK (ownBitslip ch vO
    sO).2 := by
  unfold ownBitslip
  repeat' with_reducible first | assumption | apply command_kept | apply State.slip_kept | exact id | split | intro _

theorem execBitslip_kept {mm : Bool} (t : Nat) (r : Requester) (ch : Fin 144) (v : Bool) (s : State) : KeptN mm s (execBitslip t r ch v s) := by
  unfold execBitslip
  repeat' with_reducible first
      | exact Kept.refl _ | apply KeptN.next | apply Kept.tickTo | apply State.writeObj_kept | apply ownBitslip_kept

theorem execCdrLock_kept {mm : Bool} (t : Nat) (ch : Fin 144) (s : State) : KeptN mm s (execCdrLock t ch s) := by
  unfold execCdrLock
  repeat' with_reducible first
      | exact Kept.refl _ | apply KeptN.next | refine Kept.ite (fun _ => ?_) (fun _ => ?_) | apply Kept.setReg | apply Kept.tickTo
      | apply State.setSer_kept

theorem execLockLoss_kept {mm : Bool} (t : Nat) (ch : Fin 144) (s : State) : KeptN mm s (execLockLoss t ch s) := by
  unfold execLockLoss
  repeat' with_reducible first
      | exact Kept.refl _ | apply KeptN.next | refine Kept.ite (fun _ => ?_) (fun _ => ?_) | apply Kept.setReg | apply Kept.tickTo
      | apply State.setFlag_kept | apply State.setSer_kept

theorem execRxAdaptDone_kept {mm : Bool} (t : Nat) (ch : Fin 144) (v : Nat) (s : State) : KeptN mm s (execRxAdaptDone t ch v s) := by
  unfold execRxAdaptDone
  repeat' with_reducible first
      | exact Kept.refl _ | apply KeptN.next | refine Kept.ite (fun _ => ?_) (fun _ => ?_) | apply Kept.setReg | apply Kept.tickTo
      | apply State.setSer_kept

theorem ownEyeTable_kept {mm : Bool} {sK : State} (ch : Nat) (imgO : List Byte) (ttO : Nat) (sO : State) (hk : Kept mm sK sO) : Kept mm sK
    (ownEyeTable ch imgO ttO sO).2 := by
  unfold ownEyeTable
  repeat' with_reducible first | assumption | apply Kept.setImage | apply unscheduled_kept | exact id | split | dsimp only | intro _

theorem ownEyeStart_kept {mm : Bool} {sK : State} (ch : Nat) (vO : Nat) (sO : State) (hk : Kept mm sK sO) : Kept mm sK (ownEyeStart ch vO
    sO).2 := by
  unfold ownEyeStart
  repeat' with_reducible first
      | assumption | apply Kept.setReg | apply Kept.setImage | apply command_kept | apply State.setSer_kept | exact id | split
      | dsimp only | intro _

theorem execEyeStart_kept {mm : Bool} (t : Nat) (r : Requester) (ch : Fin 144) (v : Bool) (s : State) : KeptN mm s (execEyeStart t r ch v s) := by
  unfold execEyeStart
  repeat' with_reducible first
      | exact Kept.refl _ | apply KeptN.next | apply Kept.tickTo | apply State.writeObj_kept | apply ownEyeStart_kept

theorem State.deliverResult_kept {mm : Bool} {sK : State} (s : State) (ch : Nat) (r : ResEntry) (hk : Kept mm sK s) : Kept mm sK
    (State.deliverResult s ch r) := by
  unfold State.deliverResult
  repeat' with_reducible first
      | assumption | refine Kept.ite (fun _ => ?_) (fun _ => ?_) | refine Kept.foldl _ (fun _ _ _ => ?_) _ _ ?_
      | apply State.resDeliver_kept

theorem execEyePointEnd_kept {mm : Bool} (t : Nat) (ch : Fin 144) (errors : Nat) (s : State) : KeptN mm s (execEyePointEnd t ch errors s) := by
  unfold execEyePointEnd
  repeat' with_reducible first
      | exact Kept.refl _ | apply KeptN.next | refine Kept.ite (fun _ => ?_) (fun _ => ?_) | apply Kept.setReg | apply Kept.setImage
      | apply Kept.tickTo | apply State.deliverResult_kept | apply State.setSer_kept | split

theorem State.setYard_kept {mm : Bool} {sK : State} (s : State) (p : Nat) (x : YPort) (hk : Kept mm sK s) : Kept mm sK (State.setYard s p x) := by
  unfold State.setYard
  repeat' with_reducible first | assumption | (rw [State.mk_built]; apply Kept.upd)

theorem State.setTrain_kept {mm : Bool} {sK : State} (s : State) (p : Nat) (x : YTrain) (hk : Kept mm sK s) : Kept mm sK (State.setTrain s p
    x) := by
  unfold State.setTrain
  repeat' with_reducible first | assumption | apply State.setYard_kept

theorem State.setVc_kept {mm : Bool} {sK : State} (s : State) (p v : Nat) (x : YVc) (hk : Kept mm sK s) : Kept mm sK (State.setVc s p v x) := by
  unfold State.setVc
  repeat' with_reducible first | assumption | apply State.setYard_kept

theorem State.topUp_kept {mm : Bool} {sK : State} (s : State) (p v : Nat) (hk : Kept mm sK s) : Kept mm sK (State.topUp s p v) := by
  unfold State.topUp
  repeat' with_reducible first
      | assumption | refine Kept.ite (fun _ => ?_) (fun _ => ?_) | refine Kept.repeat _ (fun _ _ => ?_) _ _ ?_ | apply State.reserve_kept
      | apply State.ledAdd_kept | split

theorem State.releaseCredit_kept {mm : Bool} {sK : State} (s : State) (p v : Nat) (hk : Kept mm sK s) : Kept mm sK (State.releaseCredit s p
    v) := by
  unfold State.releaseCredit
  repeat' with_reducible first
      | assumption | refine Kept.ite (fun _ => ?_) (fun _ => ?_) | apply State.setQueue_kept | apply State.ledMove_kept | split

theorem State.yardEnqueue_kept {mm : Bool} {sK : State} (s : State) (p v : Nat) (g : List Byte) (hk : Kept mm sK s) : Kept mm sK
    (State.yardEnqueue s p v g) := by
  unfold State.yardEnqueue
  repeat' with_reducible first
      | assumption | apply State.setQueue_kept | apply State.setVc_kept | apply State.ledAdd_kept | apply State.ledMove_kept | split
      | dsimp only

theorem State.takeCredit_kept {mm : Bool} {sK : State} (s : State) (p : Nat) (payload : Nat) (hk : Kept mm sK s) : Kept mm sK
    (State.takeCredit s p payload) := by
  unfold State.takeCredit
  repeat' with_reducible first
      | assumption | refine Kept.ite (fun _ => ?_) (fun _ => ?_) | apply State.setVc_kept | apply State.ledMove_kept
      | apply State.consume_kept | apply State.queueMoved_kept | split | dsimp only

theorem State.yardDown_kept {mm : Bool} {sK : State} (s : State) (p cause : Nat) (hk : Kept mm sK s) : Kept mm sK (State.yardDown s p cause) := by
  unfold State.yardDown
  repeat' with_reducible first
      | assumption | refine Kept.ite (fun _ => ?_) (fun _ => ?_) | refine Kept.foldl _ (fun _ _ _ => ?_) _ _ ?_ | apply Kept.setReg
      | apply State.releaseCredit_kept | apply State.ledMove_kept | apply State.setVc_kept | apply State.setYard_kept
      | apply State.setFlag_kept

theorem execLinkDown_kept {mm : Bool} (t : Nat) (p : Fin 4) (cause : Fin 10) (s : State) : KeptN mm s (execLinkDown t p cause s) := by
  unfold execLinkDown
  repeat' with_reducible first
      | exact Kept.refl _ | apply KeptN.next | refine Kept.ite (fun _ => ?_) (fun _ => ?_) | apply Kept.tickTo | apply State.yardDown_kept

theorem State.trainStep_kept {mm : Bool} {sK : State} (s : State) (p st : Nat) (hk : Kept mm sK s) : Kept mm sK (State.trainStep s p st) := by
  unfold State.trainStep
  repeat' with_reducible first | assumption | apply Kept.setReg | apply State.setTrain_kept

theorem State.startTraining_kept {mm : Bool} {sK : State} (s : State) (p : Nat) (hk : Kept mm sK s) : Kept mm sK (State.startTraining s p) := by
  unfold State.startTraining
  repeat' with_reducible first
      | assumption | apply Kept.setReg | apply State.drawBytes_kept | apply State.setTrain_kept | apply State.trainStep_kept

theorem ownYardEnable_kept {mm : Bool} {sK : State} (p : Nat) (vO : Nat) (sO : State) (hk : Kept mm sK sO) : Kept mm sK (ownYardEnable p vO
    sO).2 := by
  unfold ownYardEnable
  repeat' with_reducible first
      | assumption | refine Kept.ite (fun _ => ?_) (fun _ => ?_) | apply Kept.setReg | apply State.startTraining_kept
      | apply State.yardDown_kept

theorem execYardEnable_kept {mm : Bool} (t : Nat) (r : Requester) (p : Fin 4) (v : Bool) (s : State) : KeptN mm s (execYardEnable t r p v s) := by
  unfold execYardEnable
  repeat' with_reducible first
      | exact Kept.refl _ | apply KeptN.next | apply Kept.tickTo | apply State.writeObj_kept | apply ownYardEnable_kept

theorem execAutoRetrain_kept {mm : Bool} (t : Nat) (p : Fin 4) (s : State) : KeptN mm s (execAutoRetrain t p s) := by
  unfold execAutoRetrain
  repeat' with_reducible first
      | exact Kept.refl _ | apply KeptN.next | refine Kept.ite (fun _ => ?_) (fun _ => ?_) | apply Kept.tickTo
      | apply State.startTraining_kept

theorem State.rateBack_kept {mm : Bool} {sK : State} (s : State) (p : Nat) (hk : Kept mm sK s) : Kept mm sK (State.rateBack s p) := by
  unfold State.rateBack
  repeat' with_reducible first | assumption | apply Kept.setReg | apply State.setTrain_kept | apply State.trainStep_kept

theorem State.trainAdvance_kept {mm : Bool} {sK : State} (s : State) (p : Nat) (hk : Kept mm sK s) : Kept mm sK (State.trainAdvance s p) := by
  unfold State.trainAdvance
  repeat' with_reducible first
      | assumption | refine Kept.ite (fun _ => ?_) (fun _ => ?_) | apply Kept.setReg | apply State.trainStep_kept
      | apply State.yardDown_kept | apply State.setTrain_kept | apply State.rateBack_kept | split

theorem State.trainFrame_kept {mm : Bool} {sK : State} (s : State) (p : Nat) (lane : Bool) (l : List Bool) (hk : Kept mm sK s) : Kept mm sK
    (State.trainFrame s p lane l) := by
  unfold State.trainFrame
  repeat' with_reducible first | assumption | apply State.setTrain_kept

theorem execTrain_kept {mm : Bool} (t : Nat) (p : Fin 4) (lane : Bool) (frame : List Byte) (adapted : Bool) (s : State) : KeptN mm s
    (execTrain t p lane frame adapted s) := by
  unfold execTrain
  repeat' with_reducible first
      | exact Kept.refl _ | apply KeptN.next | refine Kept.ite (fun _ => ?_) (fun _ => ?_) | apply Kept.tickTo
      | apply State.trainFrame_kept | apply State.setTrain_kept | apply State.trainAdvance_kept

theorem execTrainingLimit_kept {mm : Bool} (t : Nat) (p : Fin 4) (s : State) : KeptN mm s (execTrainingLimit t p s) := by
  unfold execTrainingLimit
  repeat' with_reducible first
      | exact Kept.refl _ | apply KeptN.next | refine Kept.ite (fun _ => ?_) (fun _ => ?_) | apply Kept.tickTo | apply State.rateBack_kept
      | apply State.yardDown_kept

theorem execLinkUp_kept {mm : Bool} (t : Nat) (p : Fin 4) (s : State) : KeptN mm s (execLinkUp t p s) := by
  unfold execLinkUp
  repeat' with_reducible first
      | assumption | exact Kept.refl _ | apply KeptN.next | refine Kept.ite (fun _ => ?_) (fun _ => ?_)
      | refine Kept.foldl _ (fun _ _ _ => ?_) _ _ ?_ | apply Kept.setReg | apply Kept.tickTo | apply State.setYard_kept
      | apply State.forgetCauses_kept | apply State.setVc_kept | apply State.topUp_kept

theorem State.beginReplay_kept {mm : Bool} {sK : State} (s : State) (p : Nat) (hk : Kept mm sK s) : Kept mm sK (State.beginReplay s p) := by
  unfold State.beginReplay
  repeat' with_reducible first
      | assumption | refine Kept.ite (fun _ => ?_) (fun _ => ?_) | apply State.yardDown_kept | apply State.setYard_kept

theorem State.takeAck_kept {mm : Bool} {sK : State} (s : State) (p ack : Nat) (hk : Kept mm sK s) : Kept mm sK (State.takeAck s p ack) := by
  unfold State.takeAck
  repeat' with_reducible first | assumption | refine Kept.ite (fun _ => ?_) (fun _ => ?_) | apply State.setYard_kept | split | dsimp only

theorem execNak_kept {mm : Bool} (t : Nat) (p : Fin 4) (s : State) : KeptN mm s (execNak t p s) := by
  unfold execNak
  repeat' with_reducible first
      | exact Kept.refl _ | apply KeptN.next | apply Kept.tickTo | apply State.setYard_kept | apply State.takeAck_kept
      | apply State.beginReplay_kept | split

theorem execReplayTimeout_kept {mm : Bool} (t : Nat) (p : Fin 4) (s : State) : KeptN mm s (execReplayTimeout t p s) := by
  unfold execReplayTimeout
  repeat' with_reducible first
      | exact Kept.refl _ | apply KeptN.next | refine Kept.ite (fun _ => ?_) (fun _ => ?_) | apply Kept.tickTo
      | apply State.beginReplay_kept

theorem State.sequence_kept {mm : Bool} {sK : State} (s : State) (p : Nat) (x : Slot) (hk : Kept mm sK s) : Kept mm sK (State.sequence s p
    x).2 := by
  unfold State.sequence
  repeat' with_reducible first | assumption | apply State.setYard_kept

theorem State.sendGranule_kept {mm : Bool} {sK : State} (s : State) (p v : Nat) (low : Bool) (hk : Kept mm sK s) : KeptO mm sK Prod.snd
    (State.sendGranule s p v low) := by
  unfold State.sendGranule
  repeat' with_reducible first
      | assumption | exact KeptO.none | apply KeptO.some | apply State.ringRead_kept | apply State.setYard_kept | apply State.ledAdd_kept
      | apply State.sequence_kept | refine Kept.of_eq2 (by assumption) ?_ | split | dsimp only

theorem State.fillSlot_kept {mm : Bool} {sK : State} (s : State) (p : Nat) (hk : Kept mm sK s) : Kept mm sK (State.fillSlot s p).2 := by
  unfold State.fillSlot
  repeat' with_reducible first
      | assumption | refine KeptO.atp (by assumption) ?_ | refine KeptO.bind (fun _ => ?_)
      | refine Kept.ite_snd (fun _ => ?_) (fun _ => ?_) | apply State.setYard_kept | apply State.bump_kept | apply State.sequence_kept
      | apply State.sendGranule_kept | split | dsimp only

theorem State.rotDone_kept {mm : Bool} {sK : State} (s : State) (p : Nat) (hk : Kept mm sK s) : Kept mm sK (State.rotDone s p) := by
  unfold State.rotDone
  repeat' with_reducible first
      | assumption | refine Kept.ite (fun _ => ?_) (fun _ => ?_) | apply Kept.setReg | apply State.setYard_kept | split

theorem State.sendFrame_kept {mm : Bool} {sK : State} (s0 : State) (p : Nat) (hk : Kept mm sK s0) : Kept mm sK (State.sendFrame s0 p) := by
  unfold State.sendFrame
  repeat' with_reducible first
      | assumption | refine Kept.ite (fun _ => ?_) (fun _ => ?_) | refine Kept.foldl _ (fun _ _ _ => ?_) _ _ ?_ | apply State.topUp_kept
      | apply State.setYard_kept | apply State.fillSlot_kept | apply State.send_kept | apply State.rotDone_kept

theorem State.trainBits_kept {mm : Bool} {sK : State} (s : State) (p st lane : Nat) (hk : Kept mm sK s) : Kept mm sK (State.trainBits s p st
    lane).2 := by
  unfold State.trainBits
  repeat' with_reducible first | assumption | refine Kept.ite_snd (fun _ => ?_) (fun _ => ?_) | apply State.drawNat_kept

theorem State.sendTrain_kept {mm : Bool} {sK : State} (s : State) (p st : Nat) (hk : Kept mm sK s) : Kept mm sK (State.sendTrain s p st) := by
  unfold State.sendTrain
  repeat' with_reducible first | assumption | apply State.trainBits_kept | apply State.send_kept | apply State.setTrain_kept

theorem execYardFrameSlot_kept {mm : Bool} (t : Nat) (p : Fin 4) (s : State) : KeptN mm s (execYardFrameSlot t p s) := by
  unfold execYardFrameSlot
  repeat' with_reducible first
      | exact Kept.refl _ | apply KeptN.next | refine Kept.ite (fun _ => ?_) (fun _ => ?_) | apply Kept.tickTo | apply State.haltPump_kept
      | apply State.sendFrame_kept | apply State.sendTrain_kept | apply State.trainAdvance_kept

theorem State.halterIn_kept {mm : Bool} {sK : State} (s : State) (p : Nat) (h : Option Nat) (hk : Kept mm sK s) : Kept mm sK (State.halterIn
    s p h) := by
  unfold State.halterIn
  repeat' with_reducible first
      | assumption | refine Kept.ite (fun _ => ?_) (fun _ => ?_) | refine Kept.foldl _ (fun _ _ _ => ?_) _ _ ?_
      | apply State.haltCount_kept | apply State.setHline_kept | apply State.haltTrace_kept | apply State.forgetCauses_kept

theorem State.dropHeld_kept {mm : Bool} {sK : State} (s : State) (p : Nat) (hk : Kept mm sK s) : Kept mm sK (State.dropHeld s p) := by
  unfold State.dropHeld
  repeat' with_reducible first | assumption | apply State.setYard_kept | apply State.ledMove_kept | split | dsimp only

theorem execYardFrame_kept {mm : Bool} (t : Nat) (p : Fin 4) (frame : List Byte) (s : State) : KeptN mm s (execYardFrame t p frame s) := by
  unfold execYardFrame
  repeat' with_reducible first
      | exact Kept.refl _ | apply KeptN.next | refine Kept.ite (fun _ => ?_) (fun _ => ?_) | apply Kept.tickTo | apply State.haltPump_kept
      | apply State.setYard_kept | apply State.dropHeld_kept | apply State.bump_kept | apply State.halterIn_kept
      | apply State.yardDown_kept | apply State.takeAck_kept | apply State.rotDone_kept | split | dsimp only

theorem State.acceptFrame_kept {mm : Bool} {sK : State} (s : State) (p : Nat) (f : RxFrame) (hk : Kept mm sK s) : Kept mm sK
    (State.acceptFrame s p f).2 := by
  unfold State.acceptFrame
  repeat' with_reducible first | assumption | refine Kept.ite_snd (fun _ => ?_) (fun _ => ?_) | apply State.setYard_kept

theorem State.takeRekey_kept {mm : Bool} {sK : State} (s : State) (p payload : Nat) (hk : Kept mm sK s) : Kept mm sK (State.takeRekey s p
    payload) := by
  unfold State.takeRekey
  repeat' with_reducible first | assumption | apply State.setYard_kept

theorem State.takeRekeyAck_kept {mm : Bool} {sK : State} (s : State) (p payload : Nat) (hk : Kept mm sK s) : Kept mm sK (State.takeRekeyAck
    s p payload) := by
  unfold State.takeRekeyAck
  repeat' with_reducible first
      | assumption | refine Kept.ite (fun _ => ?_) (fun _ => ?_) | apply Kept.setReg | apply State.setYard_kept | split | dsimp only

theorem State.actFrame_kept {mm : Bool} {sK : State} (s : State) (p : Nat) (f : RxFrame) (hk : Kept mm sK s) : Kept mm sK (State.actFrame s
    p f) := by
  unfold State.actFrame
  repeat' with_reducible first
      | assumption | refine Kept.ite (fun _ => ?_) (fun _ => ?_) | apply State.setVc_kept | apply State.ledMove_kept
      | apply State.yardEnqueue_kept | apply State.takeCredit_kept | apply State.takeRekey_kept | apply State.takeRekeyAck_kept
      | apply State.setYard_kept | split

theorem State.takeFrame_kept {mm : Bool} {sK : State} (s : State) (p : Nat) (mine : RxFrame → Bool) (hk : Kept mm sK s) : Kept mm sK
    (State.takeFrame s p mine) := by
  unfold State.takeFrame
  repeat' with_reducible first
      | assumption | refine Kept.ite (fun _ => ?_) (fun _ => ?_) | apply State.setYard_kept | apply State.acceptFrame_kept
      | apply State.ledAdd_kept | apply State.actFrame_kept | refine Kept.of_eq2 (by assumption) ?_ | split | dsimp only

theorem execData_kept {mm : Bool} (t : Nat) (p : Fin 4) (s : State) : KeptN mm s (execData t p s) := by
  unfold execData
  repeat' with_reducible first | exact Kept.refl _ | apply KeptN.next | apply Kept.tickTo | apply State.takeFrame_kept

theorem execCredit_kept {mm : Bool} (t : Nat) (p : Fin 4) (s : State) : KeptN mm s (execCredit t p s) := by
  unfold execCredit
  repeat' with_reducible first | exact Kept.refl _ | apply KeptN.next | apply Kept.tickTo | apply State.takeFrame_kept

theorem execRekey_kept {mm : Bool} (t : Nat) (p : Fin 4) (s : State) : KeptN mm s (execRekey t p s) := by
  unfold execRekey
  repeat' with_reducible first | exact Kept.refl _ | apply KeptN.next | apply Kept.tickTo | apply State.takeFrame_kept

theorem execRekeyAck_kept {mm : Bool} (t : Nat) (p : Fin 4) (s : State) : KeptN mm s (execRekeyAck t p s) := by
  unfold execRekeyAck
  repeat' with_reducible first | exact Kept.refl _ | apply KeptN.next | apply Kept.tickTo | apply State.takeFrame_kept

theorem execTag_kept {mm : Bool} (t : Nat) (p : Fin 4) (s : State) : KeptN mm s (execTag t p s) := by
  unfold execTag
  repeat' with_reducible first
      | assumption | exact Kept.refl _ | apply KeptN.next | refine Kept.ite (fun _ => ?_) (fun _ => ?_)
      | refine Kept.foldl _ (fun _ _ _ => ?_) _ _ ?_ | apply Kept.tickTo | apply State.setYard_kept | apply State.dropHeld_kept
      | apply State.actFrame_kept | apply State.bump_kept | apply State.yardDown_kept | split

theorem ownKeyRotate_kept {mm : Bool} {sK : State} (p : Nat) (vO : Nat) (sO : State) (hk : Kept mm sK sO) : Kept mm sK (ownKeyRotate p vO
    sO).2 := by
  unfold ownKeyRotate
  repeat' with_reducible first
      | assumption | apply Kept.setReg | apply command_kept | apply State.setYard_kept | split | dsimp only | intro _

theorem execKeyRotate_kept {mm : Bool} (t : Nat) (r : Requester) (p : Fin 4) (v : Bool) (s : State) : KeptN mm s (execKeyRotate t r p v s) := by
  unfold execKeyRotate
  repeat' with_reducible first
      | exact Kept.refl _ | apply KeptN.next | apply Kept.tickTo | apply State.writeObj_kept | apply ownKeyRotate_kept

theorem ownLinkKey_kept {mm : Bool} {sK : State} (p slot : Nat) (imgO : List Byte) (ttO : Nat) (sO : State) (hk : Kept mm sK sO) : Kept mm
    sK (ownLinkKey p slot imgO ttO sO).2 := by
  unfold ownLinkKey
  repeat' with_reducible first | assumption | apply Kept.setImage | apply unscheduled_kept | exact id | split | dsimp only | intro _

theorem execLinkKeyCommit_kept {mm : Bool} (t : Nat) (r : Requester) (p : Fin 4) (slot : Fin 2) (crc tt : Nat) (s : State) : KeptN mm s
    (execLinkKeyCommit t r p slot crc tt s) := by
  unfold execLinkKeyCommit
  repeat' with_reducible first
      | exact Kept.refl _ | apply KeptN.next | apply Kept.tickTo | apply State.commitObj_kept | apply ownLinkKey_kept

theorem ownVcCfg_kept {mm : Bool} {sK : State} (p : Nat) (imgO : List Byte) (ttO : Nat) (sO : State) (hk : Kept mm sK sO) : Kept mm sK
    (ownVcCfg p imgO ttO sO).2 := by
  unfold ownVcCfg
  repeat' with_reducible first
      | assumption | apply Kept.setImage | apply unscheduled_kept | apply State.setYard_kept | exact id | split | dsimp only | intro _

theorem execVcCfgCommit_kept {mm : Bool} (t : Nat) (r : Requester) (p : Fin 4) (crc tt : Nat) (s : State) : KeptN mm s (execVcCfgCommit t r
    p crc tt s) := by
  unfold execVcCfgCommit
  repeat' with_reducible first
      | exact Kept.refl _ | apply KeptN.next | apply Kept.tickTo | apply State.commitObj_kept | apply ownVcCfg_kept

theorem execYardWake_kept {mm : Bool} (t : Nat) (p : Fin 4) (frames : List (List Byte)) (s : State) : KeptN mm s (execYardWake t p frames s) := by
  unfold execYardWake
  repeat' with_reducible first
      | exact Kept.refl _ | apply KeptN.next | refine Kept.ite (fun _ => ?_) (fun _ => ?_) | apply Kept.tickTo | apply State.setFlag_kept
      | apply State.wakeAt_kept

theorem execManagementWake_kept {mm : Bool} (t : Nat) (c : Ctl) (frame : List Byte) (s : State) : KeptN mm s (execManagementWake t c frame
    s) := by
  unfold execManagementWake
  repeat' with_reducible first
      | exact Kept.refl _ | apply KeptN.next | refine Kept.ite (fun _ => ?_) (fun _ => ?_) | apply Kept.tickTo | apply State.setFlag_kept
      | apply State.wakeAt_kept | split

theorem State.mgtLink_kept {mm : Bool} {sK : State} (s : State) (m : Nat) (up : Bool) (speed : Nat) (hk : Kept mm sK s) : Kept mm sK
    (State.mgtLink s m up speed) := by
  unfold State.mgtLink
  repeat' with_reducible first
      | assumption | refine Kept.ite (fun _ => ?_) (fun _ => ?_) | apply Kept.setReg | apply State.setBool_kept | apply State.setFlag_kept

theorem execMgtLinkChange_kept {mm : Bool} (t : Nat) (c : Ctl) (up : Bool) (speed : Fin 3) (s : State) : KeptN mm s (execMgtLinkChange t c
    up speed s) := by
  unfold execMgtLinkChange
  repeat' with_reducible first | exact Kept.refl _ | apply KeptN.next | apply Kept.tickTo | apply State.mgtLink_kept

theorem ownPhyMode_kept {mm : Bool} {sK : State} (m : Nat) (vO : Nat) (sO : State) (hk : Kept mm sK sO) : Kept mm sK (ownPhyMode m vO sO).2 := by
  unfold ownPhyMode
  repeat' with_reducible first | assumption | apply Kept.setReg | apply State.mgtLink_kept

theorem execPhyMode_kept {mm : Bool} (t : Nat) (r : Requester) (c : Ctl) (v : Nat) (s : State) : KeptN mm s (execPhyMode t r c v s) := by
  unfold execPhyMode
  repeat' with_reducible first
      | exact Kept.refl _ | apply KeptN.next | apply Kept.tickTo | apply State.writeObj_kept | apply ownPhyMode_kept

theorem ownIpv6Addr_kept {mm : Bool} {sK : State} (m : Nat) (imgO : List Byte) (ttO : Nat) (sO : State) (hk : Kept mm sK sO) : Kept mm sK
    (ownIpv6Addr m imgO ttO sO).2 := by
  unfold ownIpv6Addr
  repeat' with_reducible first | assumption | apply Kept.setImage | apply unscheduled_kept | exact id | split | dsimp only | intro _

end Sys2Proof.Machine
end

