-- ==== Sys2Proof/Laws/KeptFabric.lean ====
section
/-! SUPPORT. The loader and the fabric: what every function of a state keeps (`Kept`), one law a function, and one a command. Laws with the
parameter `mm` hold with the addressed memories unchanged too; those with `false` are of the functions that may write one. -/

namespace Sys2Proof.Machine

/-- The state a word taken leaves. -/
def Took.state : Took → State
  | .on _ s => s
  | .err _ _ s => s

/-- The state that a word taken leaves keeps. -/
def KeptT (m : Bool) (s : State) (k : Took) : Prop := Kept m s k.state

section
variable {m : Bool} {s u b : State} {c a : Nat} {d x : Loader}

theorem KeptT.on (h : Kept m s u) : KeptT m s (.on d u) := h

theorem KeptT.err (h : Kept m s u) : KeptT m s (.err c a u) := h

theorem KeptT.ite {p q : Took} {c : Prop} [Decidable c] (ha : c → KeptT m s p) (hb : ¬ c → KeptT m s q) :
    KeptT m s (if c then p else q) := by
  split
  · exact ha ‹_›
  · exact hb ‹_›

theorem KeptT.of {p : Took} (e : p = .on d b) (h : KeptT m s p) : Kept m s b := by
  subst e
  exact h

theorem KeptT.of3 {p : Took} (e : p = .err c a b) (h : KeptT m s p) : Kept m s b := by
  subst e
  exact h

theorem KeptT.of1 {p : Took × Loader} (e : p = (.on d b, x)) (h : KeptT m s p.1) : Kept m s b := by
  subst e
  exact h

theorem KeptT.of2 {p : Took × Loader} (e : p = (.err c a b, x)) (h : KeptT m s p.1) : Kept m s b := by
  subst e
  exact h

end

theorem State.loadSegment_kept {mm : Bool} {sK : State} (s : State) (l : Nat) (img : List Byte) (hk : Kept mm sK s) : Kept mm sK
    (State.loadSegment s l img) := by
  unfold State.loadSegment
  repeat' with_reducible first | assumption | refine Kept.foldl _ (fun _ _ _ => ?_) _ _ ?_ | (rw [State.mk_built]; apply Kept.upd)

theorem State.putFrame_kept {mm : Bool} {sK : State} (s : State) (shadow : Bool) (l : Nat) (img : List Byte) (hk : Kept mm sK s) : Kept mm
    sK (State.putFrame s shadow l img) := by
  unfold State.putFrame
  repeat' with_reducible first
      | assumption | refine Kept.ite (fun _ => ?_) (fun _ => ?_) | refine Kept.foldl _ (fun _ _ _ => ?_) _ _ ?_ | apply Kept.setReg
      | apply State.bump_kept | apply State.loadSegment_kept | (rw [State.mk_built]; apply Kept.upd) | split

theorem State.writeFrame_kept {mm : Bool} {sK : State} (s : State) (tg : Target) (d : Loader) (ws : List Nat) (hk : Kept mm sK s) : KeptT mm
    sK (State.writeFrame s tg d ws) := by
  unfold State.writeFrame
  repeat' with_reducible first
      | assumption | apply KeptT.on | apply KeptT.err | refine KeptT.ite (fun _ => ?_) (fun _ => ?_) | apply State.putFrame_kept | split

theorem State.writeMany_kept {mm : Bool} {sK : State} (s : State) (tg : Target) (d : Loader) (ws : List Nat) (fuel : Nat) (hk : Kept mm sK
    s) : KeptT mm sK (State.writeMany s tg d ws fuel) := by
  induction fuel generalizing s tg d ws with
  | zero =>
    unfold State.writeMany
    repeat' with_reducible first | assumption | apply KeptT.on | refine KeptT.of (by assumption) ?_ | apply State.writeFrame_kept | split
  | succ k ih =>
    unfold State.writeMany
    repeat' with_reducible first
        | assumption | apply KeptT.on | refine KeptT.of (by assumption) ?_ | apply State.writeFrame_kept | refine ih _ _ _ _ ?_ | split

theorem State.takeFirmware_kept {mm : Bool} {sK : State} (s : State) (d : Loader) (ws : List Nat) (hk : Kept mm sK s) : KeptT mm sK
    (State.takeFirmware s d ws) := by
  unfold State.takeFirmware
  repeat' with_reducible first
      | assumption | apply Kept.setImage | apply KeptT.on | apply KeptT.err | refine KeptT.ite (fun _ => ?_) (fun _ => ?_)

theorem State.takePacket_kept {mm : Bool} {sK : State} (s : State) (tg : Target) (d0 : Loader) (w : Nat) (hk : Kept mm sK s) : KeptT mm sK
    (State.takePacket s tg d0 w) := by
  unfold State.takePacket
  repeat' with_reducible first | assumption | apply KeptT.on | apply KeptT.err | refine KeptT.ite (fun _ => ?_) (fun _ => ?_)

theorem State.endPacket_kept {mm : Bool} {sK : State} (s : State) (d : Loader) (hk : Kept mm sK s) : KeptT mm sK (State.endPacket s d) := by
  unfold State.endPacket
  repeat' with_reducible first
      | assumption | apply KeptT.on | apply KeptT.err | refine KeptT.ite (fun _ => ?_) (fun _ => ?_) | apply State.takeFirmware_kept
      | split

theorem State.takePayload_kept {mm : Bool} {sK : State} (s : State) (tg : Target) (d0 : Loader) (w : Nat) (hk : Kept mm sK s) : KeptT mm sK
    (State.takePayload s tg d0 w) := by
  unfold State.takePayload
  repeat' with_reducible first
      | assumption | apply KeptT.on | apply KeptT.err | refine KeptT.ite (fun _ => ?_) (fun _ => ?_) | refine KeptT.of (by assumption) ?_
      | apply State.writeFrame_kept | apply State.writeMany_kept | apply State.endPacket_kept | split | dsimp only

theorem State.takeWord_kept {mm : Bool} {sK : State} (s : State) (tg : Target) (d0 : Loader) (w : Nat) (hk : Kept mm sK s) : KeptT mm sK
    (State.takeWord s tg d0 w) := by
  unfold State.takeWord
  repeat' with_reducible first
      | assumption | apply KeptT.on | apply KeptT.err | refine KeptT.ite (fun _ => ?_) (fun _ => ?_) | apply State.takePacket_kept
      | apply State.takePayload_kept

theorem State.takeWords_kept {mm : Bool} {sK : State} (s : State) (tg : Target) (d : Loader) (fuel : List Nat) (hk : Kept mm sK s) : KeptT
    mm sK (State.takeWords s tg d fuel).1 := by
  induction fuel generalizing s tg d with
  | nil =>
    unfold State.takeWords
    repeat' with_reducible first | assumption | apply KeptT.on | refine KeptT.of (by assumption) ?_ | apply State.takeWord_kept | split
  | cons x l ih =>
    unfold State.takeWords
    repeat' with_reducible first
        | assumption | apply KeptT.on | refine KeptT.of (by assumption) ?_ | apply State.takeWord_kept | refine ih _ _ _ ?_ | split

theorem State.setCfg_kept {mm : Bool} {sK : State} (s : State) (c : CfgPort) (hk : Kept mm sK s) : Kept mm sK (State.setCfg s c) := by
  unfold State.setCfg
  repeat' with_reducible first | assumption | (rw [State.mk_built]; apply Kept.upd)

theorem State.fullError_kept {mm : Bool} {sK : State} (s : State) (cause addr word : Nat) (hk : Kept mm sK s) : Kept mm sK (State.fullError
    s cause addr word) := by
  unfold State.fullError
  repeat' with_reducible first | assumption | apply Kept.setReg | apply State.bump_kept | apply State.setCfg_kept

theorem State.clearConfig_kept {mm : Bool} {sK : State} (s : State) (hk : Kept mm sK s) : Kept mm sK (State.clearConfig s) := by
  unfold State.clearConfig
  repeat' with_reducible first
      | assumption | refine Kept.foldl _ (fun _ _ _ => ?_) _ _ ?_ | apply Kept.setReg | apply Kept.setImage
      | (rw [State.mk_built]; apply Kept.upd)

theorem State.setRef_kept {mm : Bool} {sK : State} (s : State) (region v : Nat) (hk : Kept mm sK s) : Kept mm sK (State.setRef s region v) := by
  unfold State.setRef
  repeat' with_reducible first | assumption | (rw [State.mk_built]; apply Kept.upd)

theorem State.sealFull_kept {mm : Bool} {sK : State} (s0 : State) (d : Loader) (hk : Kept mm sK s0) : Kept mm sK (State.sealFull s0 d) := by
  unfold State.sealFull
  repeat' with_reducible first
      | assumption | refine Kept.foldl _ (fun _ _ _ => ?_) _ _ ?_ | apply Kept.setReg | apply State.setRef_kept | apply State.setCfg_kept

theorem State.portWord_kept {mm : Bool} {sK : State} (s : State) (w : Nat) (hk : Kept mm sK s) : Kept mm sK (State.portWord s w) := by
  unfold State.portWord
  repeat' with_reducible first
      | assumption | refine Kept.ite (fun _ => ?_) (fun _ => ?_) | refine KeptT.of (by assumption) ?_
      | refine KeptT.of3 (by assumption) ?_ | apply State.takeWord_kept | apply State.sealFull_kept | apply State.setCfg_kept
      | apply State.fullError_kept | split | dsimp only

theorem State.syncFound_kept {mm : Bool} {sK : State} (s : State) (hk : Kept mm sK s) : Kept mm sK (State.syncFound s) := by
  unfold State.syncFound
  repeat' with_reducible first | assumption | apply Kept.setReg | apply State.setCfg_kept

theorem State.portEdge_kept {mm : Bool} {sK : State} (s : State) (e : PortEdge) (hk : Kept mm sK s) : Kept mm sK (State.portEdge s e) := by
  unfold State.portEdge
  repeat' with_reducible first
      | assumption | refine Kept.ite (fun _ => ?_) (fun _ => ?_) | apply State.syncFound_kept | apply State.setCfg_kept
      | apply State.portWord_kept

theorem State.portRun_kept {mm : Bool} {sK : State} (s : State) (cmd : Nat → Bool) (bus : List PortEdge) (hk : Kept mm sK s) : Kept mm sK
    (State.portRun s cmd bus) := by
  unfold State.portRun
  repeat' with_reducible first
      | assumption | refine Kept.ite (fun _ => ?_) (fun _ => ?_) | refine Kept.foldl _ (fun _ _ _ => ?_) _ _ ?_
      | apply State.portEdge_kept

theorem execSync_kept {mm : Bool} (t : Nat) (bus : List PortEdge) (s : State) : KeptN mm s (execSync t bus s) := by
  unfold execSync
  repeat' with_reducible first
      | assumption | exact Kept.refl _ | apply KeptN.next | refine Kept.ite (fun _ => ?_) (fun _ => ?_)
      | refine Kept.foldl _ (fun _ _ _ => ?_) _ _ ?_ | apply Kept.tickTo | apply State.portEdge_kept

theorem execHeader_kept {mm : Bool} (t : Nat) (bus : List PortEdge) (s : State) : KeptN mm s (execHeader t bus s) := by
  unfold execHeader
  repeat' with_reducible first | exact Kept.refl _ | apply KeptN.next | apply Kept.tickTo | apply State.portRun_kept

theorem execLocate_kept {mm : Bool} (t : Nat) (bus : List PortEdge) (s : State) : KeptN mm s (execLocate t bus s) := by
  unfold execLocate
  repeat' with_reducible first | exact Kept.refl _ | apply KeptN.next | apply Kept.tickTo | apply State.portRun_kept

theorem execWriteFrames_kept {mm : Bool} (t : Nat) (bus : List PortEdge) (s : State) : KeptN mm s (execWriteFrames t bus s) := by
  unfold execWriteFrames
  repeat' with_reducible first | exact Kept.refl _ | apply KeptN.next | apply Kept.tickTo | apply State.portRun_kept

theorem execRepeat_kept {mm : Bool} (t : Nat) (bus : List PortEdge) (s : State) : KeptN mm s (execRepeat t bus s) := by
  unfold execRepeat
  repeat' with_reducible first | exact Kept.refl _ | apply KeptN.next | apply Kept.tickTo | apply State.portRun_kept

theorem execZwrite_kept {mm : Bool} (t : Nat) (bus : List PortEdge) (s : State) : KeptN mm s (execZwrite t bus s) := by
  unfold execZwrite
  repeat' with_reducible first | exact Kept.refl _ | apply KeptN.next | apply Kept.tickTo | apply State.portRun_kept

theorem execCrc_kept {mm : Bool} (t : Nat) (bus : List PortEdge) (s : State) : KeptN mm s (execCrc t bus s) := by
  unfold execCrc
  repeat' with_reducible first | exact Kept.refl _ | apply KeptN.next | apply Kept.tickTo | apply State.portRun_kept

theorem execStartup_kept {mm : Bool} (t : Nat) (bus : List PortEdge) (s : State) : KeptN mm s (execStartup t bus s) := by
  unfold execStartup
  repeat' with_reducible first | exact Kept.refl _ | apply KeptN.next | apply Kept.tickTo | apply State.portRun_kept

theorem execFwload_kept {mm : Bool} (t : Nat) (bus : List PortEdge) (s : State) : KeptN mm s (execFwload t bus s) := by
  unfold execFwload
  repeat' with_reducible first | exact Kept.refl _ | apply KeptN.next | apply Kept.tickTo | apply State.portRun_kept

theorem execSeal_kept {mm : Bool} (t : Nat) (bus : List PortEdge) (s : State) : KeptN mm s (execSeal t bus s) := by
  unfold execSeal
  repeat' with_reducible first | exact Kept.refl _ | apply KeptN.next | apply Kept.tickTo | apply State.portRun_kept

theorem execNop_kept {mm : Bool} (t : Nat) (bus : List PortEdge) (s : State) : KeptN mm s (execNop t bus s) := by
  unfold execNop
  repeat' with_reducible first | exact Kept.refl _ | apply KeptN.next | apply Kept.tickTo | apply State.portRun_kept

theorem execConfigClearDone_kept {mm : Bool} (t : Nat) (s : State) : KeptN mm s (execConfigClearDone t s) := by
  unfold execConfigClearDone
  repeat' with_reducible first
      | exact Kept.refl _ | apply KeptN.next | refine Kept.ite (fun _ => ?_) (fun _ => ?_) | apply Kept.setReg | apply Kept.tickTo
      | apply State.clearConfig_kept | apply State.setCfg_kept

theorem State.setPad_kept {mm : Bool} {sK : State} (s : State) (p : Nat) (x : Pad) (hk : Kept mm sK s) : Kept mm sK (State.setPad s p x) := by
  unfold State.setPad
  repeat' with_reducible first | assumption | (rw [State.mk_built]; apply Kept.upd)

theorem State.clearShadow_kept {mm : Bool} {sK : State} (s : State) (p : Nat) (hk : Kept mm sK s) : Kept mm sK (State.clearShadow s p) := by
  unfold State.clearShadow
  repeat' with_reducible first | assumption | (rw [State.mk_built]; apply Kept.upd)

theorem State.streamOpen_kept {mm : Bool} {sK : State} (s : State) (p : Nat) (hk : Kept mm sK s) : Kept mm sK (State.streamOpen s p).2 := by
  unfold State.streamOpen
  repeat' with_reducible first
      | assumption | apply Kept.setReg | refine Kept.ite_snd (fun _ => ?_) (fun _ => ?_) | apply State.clearShadow_kept
      | apply State.setPad_kept

theorem State.dropShadow_kept {mm : Bool} {sK : State} (s : State) (p : Nat) (hk : Kept mm sK s) : Kept mm sK (State.dropShadow s p) := by
  unfold State.dropShadow
  repeat' with_reducible first | assumption | apply Kept.setReg | apply State.clearShadow_kept | apply State.setPad_kept

theorem State.partialError_kept {mm : Bool} {sK : State} (s : State) (p cause addr : Nat) (hk : Kept mm sK s) : Kept mm sK
    (State.partialError s p cause addr) := by
  unfold State.partialError
  repeat' with_reducible first
      | assumption | refine Kept.ite (fun _ => ?_) (fun _ => ?_) | apply Kept.setReg | apply State.setXfer_kept
      | apply State.dropShadow_kept | apply State.bump_kept | apply State.setFlag_kept

theorem State.streamPump_kept {mm : Bool} {sK : State} (s0 : State) (p : Nat) (hk : Kept mm sK s0) : Kept mm sK (State.streamPump s0 p).2 := by
  unfold State.streamPump
  repeat' with_reducible first
      | assumption | refine Kept.ite_snd (fun _ => ?_) (fun _ => ?_) | refine KeptT.of1 (by assumption) ?_
      | refine KeptT.of2 (by assumption) ?_ | apply State.setPad_kept | apply State.takeWords_kept | apply State.partialError_kept | split
      | dsimp only

theorem ownStream_kept {mm : Bool} {sK : State} (p : Nat) (imgO : List Byte) (ttO : Nat) (sO : State) (hk : Kept mm sK sO) : Kept mm sK
    (ownStream p imgO ttO sO).2 := by
  unfold ownStream
  repeat' with_reducible first
      | assumption | apply Kept.setReg | apply unscheduled_kept | apply State.setXfer_kept | apply State.streamPump_kept
      | apply State.setPad_kept | apply State.setRef_kept | apply State.partialError_kept | refine Kept.of_eq2 (by assumption) ?_ | split
      | dsimp only | intro _

theorem State.settleShadow_kept {mm : Bool} {sK : State} (s : State) (p : Nat) (hk : Kept mm sK s) : Kept mm sK (State.settleShadow s p) := by
  unfold State.settleShadow
  repeat' with_reducible first | assumption | refine Kept.ite (fun _ => ?_) (fun _ => ?_) | apply State.dropShadow_kept

theorem execShadowClearDone_kept {mm : Bool} (t : Nat) (p : Fin 24) (s : State) : KeptN mm s (execShadowClearDone t p s) := by
  unfold execShadowClearDone
  repeat' with_reducible first | exact Kept.refl _ | apply KeptN.next | apply Kept.tickTo | apply State.setPad_kept

theorem ownShadowDiscard_kept {mm : Bool} {sK : State} (p : Nat) (vO : Nat) (sO : State) (hk : Kept mm sK sO) : Kept mm sK (ownShadowDiscard
    p vO sO).2 := by
  unfold ownShadowDiscard
  repeat' with_reducible first | assumption | apply command_kept | apply State.dropShadow_kept | exact id | split | intro _

theorem execShadowDiscard_kept {mm : Bool} (t : Nat) (r : Requester) (p : Fin 24) (v : Bool) (s : State) : KeptN mm s (execShadowDiscard t r
    p v s) := by
  unfold execShadowDiscard
  repeat' with_reducible first
      | exact Kept.refl _ | apply KeptN.next | apply Kept.tickTo | apply State.writeObj_kept | apply ownShadowDiscard_kept

theorem ownSwapArm_kept {mm : Bool} {sK : State} (p : Nat) (vO : Nat) (sO : State) (hk : Kept mm sK sO) : Kept mm sK (ownSwapArm p vO sO).2 := by
  unfold ownSwapArm
  repeat' with_reducible first | assumption | apply arming_kept | apply State.armAction_kept | exact id | split | intro _

theorem execSwapArm_kept {mm : Bool} (t : Nat) (r : Requester) (p : Fin 24) (v : Bool) (s : State) : KeptN mm s (execSwapArm t r p v s) := by
  unfold execSwapArm
  repeat' with_reducible first
      | exact Kept.refl _ | apply KeptN.next | apply Kept.tickTo | apply State.writeObj_kept | apply ownSwapArm_kept

theorem ownSwapCancel_kept {mm : Bool} {sK : State} (p : Nat) (vO : Nat) (sO : State) (hk : Kept mm sK sO) : Kept mm sK (ownSwapCancel p vO
    sO).2 := by
  unfold ownSwapCancel
  repeat' with_reducible first | assumption | apply command_kept | apply State.cancelAction_kept | intro _

theorem execSwapCancel_kept {mm : Bool} (t : Nat) (r : Requester) (p : Fin 24) (v : Bool) (s : State) : KeptN mm s (execSwapCancel t r p v
    s) := by
  unfold execSwapCancel
  repeat' with_reducible first
      | exact Kept.refl _ | apply KeptN.next | apply Kept.tickTo | apply State.writeObj_kept | apply ownSwapCancel_kept

theorem State.dropLogic_kept {mm : Bool} {sK : State} (s : State) (f : Nat → Bool) (hk : Kept mm sK s) : Kept mm sK (State.dropLogic s f) := by
  unfold State.dropLogic
  repeat' with_reducible first | assumption | (rw [State.mk_built]; apply Kept.upd)

theorem State.swapRefs_kept {mm : Bool} {sK : State} (s : State) (p : Nat) (hk : Kept mm sK s) : Kept mm sK (State.swapRefs s p) := by
  unfold State.swapRefs
  repeat' with_reducible first | assumption | apply State.setRef_kept

theorem State.exchange_kept {mm : Bool} {sK : State} (s : State) (p : Nat) (hk : Kept mm sK s) : Kept mm sK (State.exchange s p) := by
  unfold State.exchange
  repeat' with_reducible first | assumption | apply State.swapRefs_kept | (rw [State.mk_built]; apply Kept.upd)

theorem State.reloadMem_kept {mm : Bool} {sK : State} (s : State) (m : Nat) (hk : Kept mm sK s) : Kept mm sK (State.reloadMem s m) := by
  unfold State.reloadMem
  repeat' with_reducible first | assumption | refine Kept.foldl _ (fun _ _ _ => ?_) _ _ ?_ | apply State.loadSegment_kept

theorem State.abortAudit_kept {mm : Bool} {sK : State} (s : State) (p : Nat) (hk : Kept mm sK s) : Kept mm sK (State.abortAudit s p) := by
  unfold State.abortAudit
  repeat' with_reducible first
      | assumption | refine Kept.ite (fun _ => ?_) (fun _ => ?_) | apply Kept.setReg | (rw [State.mk_built]; apply Kept.upd)

theorem ownAuditStart_kept {mm : Bool} {sK : State} (vO : Nat) (sO : State) (hk : Kept mm sK sO) : Kept mm sK (ownAuditStart vO sO).2 := by
  unfold ownAuditStart
  repeat' with_reducible first
      | assumption | apply Kept.setReg | apply command_kept | (rw [State.mk_built]; apply Kept.upd) | exact id | split | dsimp only
      | intro _

theorem execAuditStart_kept {mm : Bool} (t : Nat) (r : Requester) (v : Bool) (s : State) : KeptN mm s (execAuditStart t r v s) := by
  unfold execAuditStart
  repeat' with_reducible first
      | exact Kept.refl _ | apply KeptN.next | apply Kept.tickTo | apply State.writeObj_kept | apply ownAuditStart_kept

theorem ownAuditRegion_kept {mm : Bool} {sK : State} (vO : Nat) (sO : State) (hk : Kept mm sK sO) : Kept mm sK (ownAuditRegion vO sO).2 := by
  unfold ownAuditRegion
  repeat' with_reducible first | assumption | apply Kept.setReg | refine Kept.ite_snd (fun _ => ?_) (fun _ => ?_)

theorem State.auditEnd_kept {mm : Bool} {sK : State} (s : State) (region crc : Nat) (hk : Kept mm sK s) : Kept mm sK (State.auditEnd s
    region crc) := by
  unfold State.auditEnd
  repeat' with_reducible first
      | assumption | refine Kept.ite (fun _ => ?_) (fun _ => ?_) | apply State.bump_kept | apply State.setFlag_kept
      | apply State.fault_kept

theorem execAuditComplete_kept {mm : Bool} (t : Nat) (changed : Option (BitVec 32)) (s : State) : KeptN mm s (execAuditComplete t changed s) := by
  unfold execAuditComplete
  repeat' with_reducible first
      | exact Kept.refl _ | apply KeptN.next | refine Kept.ite (fun _ => ?_) (fun _ => ?_) | apply Kept.setReg | apply Kept.tickTo
      | apply State.auditEnd_kept | (rw [State.mk_built]; apply Kept.upd) | split

theorem execAutoAudit_kept {mm : Bool} (t : Nat) (s : State) : KeptN mm s (execAutoAudit t s) := by
  unfold execAutoAudit
  repeat' with_reducible first
      | exact Kept.refl _ | apply KeptN.next | refine Kept.ite (fun _ => ?_) (fun _ => ?_) | apply Kept.setReg | apply Kept.tickTo
      | (rw [State.mk_built]; apply Kept.upd)

theorem State.bmCount_kept {mm : Bool} {sK : State} (s : State) (sbe dbe failed : Bool) (hk : Kept mm sK s) : Kept mm sK (State.bmCount s
    sbe dbe failed) := by
  unfold State.bmCount
  repeat' with_reducible first
      | assumption | refine Kept.ite (fun _ => ?_) (fun _ => ?_) | apply State.bump_kept | apply State.bumpImage_kept
      | apply State.setFlag_kept | apply State.sramBad_kept

theorem State.bmShow_kept {mm : Bool} {sK : State} (s : State) (m port : Nat) (oreg orst : Bool) (rd : Option (Nat × Bool × Bool)) (hk :
    Kept mm sK s) : Kept mm sK (State.bmShow s m port oreg orst rd) := by
  unfold State.bmShow
  repeat' with_reducible first | assumption | (rw [State.mk_built]; apply Kept.upd)

theorem State.bmWrite_kept {mm : Bool} {sK : State} (s : State) (m : Nat) (x : BmCycle) (hk : Kept mm sK s) : Kept mm sK (State.bmWrite s m
    x) := by
  unfold State.bmWrite
  repeat' with_reducible first | assumption | refine Kept.ite (fun _ => ?_) (fun _ => ?_) | (rw [State.mk_built]; apply Kept.upd) | split

theorem State.bmAccess_kept {mm : Bool} {sK : State} (s : State) (m : Nat) (a b : BmPort) (onA onB : Bool) (hk : Kept mm sK s) : Kept mm sK
    (State.bmAccess s m a b onA onB) := by
  unfold State.bmAccess
  extract_lets cfg wa wide wb failed may x0 y0 x y same both s1 s2 look ra rb tell s3
  have h1 : Kept mm sK s1 := State.bmWrite_kept _ _ _ (State.bmWrite_kept _ _ _ hk)
  have h2 : Kept mm sK s2 := Kept.ite (fun _ => State.bump_kept _ _ _ h1) (fun _ => h1)
  have ht : ∀ u r, Kept mm sK u → Kept mm sK (tell u r) := by
    intro u r h
    dsimp only [tell]
    split
    · exact State.bmCount_kept _ _ _ _ h
    · exact h
  have h3 : Kept mm sK s3 := ht _ _ (ht _ _ h2)
  clear_value s3
  split
  · exact Kept.ite (fun _ => State.bmShow_kept _ _ _ _ _ _ (State.bmShow_kept _ _ _ _ _ _ h3)) (fun _ => h3)
  · have h4 : Kept mm sK (if onA then s3.bmShow m 0 (cfg.testBit 48) a.orst ra else s3) :=
      Kept.ite (fun _ => State.bmShow_kept _ _ _ _ _ _ h3) (fun _ => h3)
    exact Kept.ite (fun _ => State.bmShow_kept _ _ _ _ _ _ h4) (fun _ => h4)

theorem State.setFlPort_kept {mm : Bool} {sK : State} (s : State) (k : Nat) (x : FlPort) (hk : Kept mm sK s) : Kept mm sK (State.setFlPort s
    k x) := by
  unfold State.setFlPort
  repeat' with_reducible first | assumption | (rw [State.mk_built]; apply Kept.upd)

theorem State.setFlBuf_kept {mm : Bool} {sK : State} (s : State) (k : Nat) (buf : List (FabricWord × Nat)) (movedAt : Nat) (hk : Kept mm sK
    s) : Kept mm sK (State.setFlBuf s k buf movedAt) := by
  unfold State.setFlBuf
  repeat' with_reducible first | assumption | apply State.setFlPort_kept

theorem State.flMove_kept {mm : Bool} {sK : State} (s : State) (k : Nat) (hk : Kept mm sK s) : Kept mm sK (State.flMove s k) := by
  unfold State.flMove
  repeat' with_reducible first
      | assumption | refine Kept.ite (fun _ => ?_) (fun _ => ?_) | apply State.setFlBuf_kept | apply State.bump_kept
      | apply State.pushLane_kept | split | dsimp only

theorem State.setQport_kept {mm : Bool} {sK : State} (s : State) (k : Nat) (p : QPort) (hk : Kept mm sK s) : Kept mm sK (State.setQport s k
    p) := by
  unfold State.setQport
  repeat' with_reducible first | assumption | (rw [State.mk_built]; apply Kept.upd)

theorem ownProducerBind_kept {mm : Bool} {sK : State} (q k : Nat) (vO : Nat) (sO : State) (hk : Kept mm sK sO) : Kept mm sK (ownProducerBind
    q k vO sO).2 := by
  unfold ownProducerBind
  repeat' with_reducible first
      | assumption | apply Kept.setReg | refine Kept.ite_snd (fun _ => ?_) (fun _ => ?_) | apply State.deisolate_kept

theorem ownConsumerBind_kept {mm : Bool} {sK : State} (q k : Nat) (vO : Nat) (sO : State) (hk : Kept mm sK sO) : Kept mm sK (ownConsumerBind
    q k vO sO).2 := by
  unfold ownConsumerBind
  repeat' with_reducible first
      | assumption | apply Kept.setReg | refine Kept.ite_snd (fun _ => ?_) (fun _ => ?_) | apply State.deisolate_kept

theorem execQueuePortBind_kept {mm : Bool} (t : Nat) (r : Requester) (q : Fin 4) (consumer : Bool) (k : Fin 2) (v : Nat) (s : State) : KeptN
    mm s (execQueuePortBind t r q consumer k v s) := by
  unfold execQueuePortBind
  repeat' with_reducible first
      | exact Kept.refl _ | apply KeptN.next | apply Kept.tickTo | apply State.writeObj_kept | apply ownConsumerBind_kept
      | apply ownProducerBind_kept | split

theorem ownSource_kept {mm : Bool} {sK : State} (p : Nat) (vO : Nat) (sO : State) (hk : Kept mm sK sO) : Kept mm sK (ownSource p vO sO).2 := by
  unfold ownSource
  repeat' with_reducible first | assumption | apply Kept.setReg | refine Kept.ite_snd (fun _ => ?_) (fun _ => ?_)

theorem execSource_kept {mm : Bool} (t : Nat) (r : Requester) (p : Fin 8) (v : Nat) (s : State) : KeptN mm s (execSource t r p v s) := by
  unfold execSource
  repeat' with_reducible first
      | exact Kept.refl _ | apply KeptN.next | apply Kept.tickTo | apply State.writeObj_kept | apply ownSource_kept

theorem execIdelay_kept {mm : Bool} (t : Nat) (r : Requester) (g : Fin 48) (v : Nat) (s : State) : KeptN mm s (execIdelay t r g v s) := by
  unfold execIdelay
  repeat' with_reducible first | exact Kept.refl _ | apply KeptN.next | apply Kept.tickTo | apply State.writeObj_kept | apply store_kept

theorem State.setFf_kept {mm : Bool} {sK : State} (s : State) (tl i b : Nat) (init v : Bool) (hk : Kept mm sK s) : Kept mm sK (State.setFf s
    tl i b init v) := by
  unfold State.setFf
  repeat' with_reducible first | assumption | (rw [State.mk_built]; apply Kept.upd)

theorem State.cellsEdge_kept {mm : Bool} {sK : State} (s : State) (tl : Nat) (load reset : Bool) (x : State) (hk : Kept mm sK x) : Kept mm
    sK (State.cellsEdge s tl load reset x) := by
  unfold State.cellsEdge
  repeat' with_reducible first
      | assumption | refine Kept.ite (fun _ => ?_) (fun _ => ?_) | refine Kept.foldl _ (fun _ _ _ => ?_) _ _ ?_ | apply State.setFf_kept

theorem State.wiresEdge_kept {mm : Bool} {sK : State} (s : State) (tl : Nat) (load reset : Bool) (x : State) (hk : Kept mm sK x) : Kept mm
    sK (State.wiresEdge s tl load reset x) := by
  unfold State.wiresEdge
  repeat' with_reducible first
      | assumption | refine Kept.ite (fun _ => ?_) (fun _ => ?_) | refine Kept.foldl _ (fun _ _ _ => ?_) _ _ ?_
      | (rw [State.mk_built]; apply Kept.upd) | dsimp only

theorem State.macEdge_kept {mm : Bool} {sK : State} (s : State) (tl : Nat) (x : State) (hk : Kept mm sK x) : Kept mm sK (State.macEdge s tl
    x) := by
  unfold State.macEdge
  repeat' with_reducible first | assumption | refine Kept.ite (fun _ => ?_) (fun _ => ?_) | (rw [State.mk_built]; apply Kept.upd)

theorem State.tileTick_kept {mm : Bool} {sK : State} (s : State) (tl : Nat) (clocks : List (Nat × Bool)) (x : State) (hk : Kept mm sK x) :
    Kept mm sK (State.tileTick s tl clocks x) := by
  unfold State.tileTick
  repeat' with_reducible first
      | assumption | refine Kept.ite (fun _ => ?_) (fun _ => ?_) | apply State.wiresEdge_kept | apply State.cellsEdge_kept
      | apply State.macEdge_kept | split

theorem State.padEdge_kept {mm : Bool} {sK : State} (s : State) (q g khz : Nat) (x : State) (hk : Kept mm sK x) : Kept mm sK (State.padEdge
    s q g khz x) := by
  unfold State.padEdge
  repeat' with_reducible first | assumption | (rw [State.mk_built]; apply Kept.upd)

theorem State.rxEdge_kept {mm : Bool} {sK : State} (ch : Nat) (x : State) (hk : Kept mm sK x) : Kept mm sK (State.rxEdge ch x) := by
  unfold State.rxEdge
  repeat' with_reducible first | assumption | (rw [State.mk_built]; apply Kept.upd) | split

theorem State.pstEdge_kept {mm : Bool} {sK : State} (u : Nat) (x : State) (hk : Kept mm sK x) : Kept mm sK (State.pstEdge u x) := by
  unfold State.pstEdge
  repeat' with_reducible first | assumption | apply State.setQport_kept

theorem State.ttEdgeAt_kept {mm : Bool} {sK : State} (s : State) (q : Nat) (x : State) (hk : Kept mm sK x) : Kept mm sK (State.ttEdgeAt s q
    x) := by
  unfold State.ttEdgeAt
  repeat' with_reducible first | assumption | (rw [State.mk_built]; apply Kept.upd)

theorem State.portEdgeAt_kept {mm : Bool} {sK : State} (s : State) (q r khz : Nat) (x : State) (hk : Kept mm sK x) : Kept mm sK
    (State.portEdgeAt s q r khz x) := by
  unfold State.portEdgeAt
  repeat' with_reducible first
      | assumption | refine Kept.ite (fun _ => ?_) (fun _ => ?_) | apply State.rxEdge_kept | apply State.pstEdge_kept
      | apply State.ttEdgeAt_kept | apply State.padEdge_kept

theorem State.portTick_kept {mm : Bool} {sK : State} (s : State) (tl : Nat) (clocks : List (Nat × Bool)) (x : State) (hk : Kept mm sK x) :
    Kept mm sK (State.portTick s tl clocks x) := by
  unfold State.portTick
  repeat' with_reducible first
      | assumption | refine Kept.ite (fun _ => ?_) (fun _ => ?_) | apply State.portEdgeAt_kept | split | dsimp only

theorem State.fabricEdge_kept {mm : Bool} {sK : State} (s : State) (clocks : List (Nat × Bool)) (hk : Kept mm sK s) : Kept mm sK
    (State.fabricEdge s clocks) := by
  unfold State.fabricEdge
  repeat' with_reducible first
      | assumption | refine Kept.foldl _ (fun _ _ _ => ?_) _ _ ?_ | apply State.portTick_kept | apply State.tileTick_kept

theorem State.asyncOnce_kept {mm : Bool} {sK : State} (s : State) (hk : Kept mm sK s) : Kept mm sK (State.asyncOnce s) := by
  unfold State.asyncOnce
  repeat' with_reducible first
      | assumption | refine Kept.ite (fun _ => ?_) (fun _ => ?_) | refine Kept.foldl _ (fun _ _ _ => ?_) _ _ ?_
      | apply State.wiresEdge_kept | apply State.cellsEdge_kept

theorem State.asyncSettle_kept {mm : Bool} {sK : State} (s : State) (fuel : Nat) (hk : Kept mm sK s) : Kept mm sK (State.asyncSettle s fuel) := by
  induction fuel generalizing s with
  | zero =>
    unfold State.asyncSettle
    repeat' with_reducible first | assumption | apply State.asyncOnce_kept
  | succ k ih =>
    unfold State.asyncSettle
    repeat' with_reducible first | assumption | apply State.asyncOnce_kept | refine ih _ ?_

theorem State.fabricTo_kept {mm : Bool} {sK : State} (s : State) (b : Nat) (hk : Kept mm sK s) : Kept mm sK (State.fabricTo s b) := by
  unfold State.fabricTo
  repeat' with_reducible first
      | assumption | refine Kept.ite (fun _ => ?_) (fun _ => ?_) | refine Kept.foldl _ (fun _ _ _ => ?_) _ _ ?_
      | apply State.fabricEdge_kept | apply State.asyncSettle_kept | (rw [State.mk_built]; apply Kept.upd)

theorem State.fabricNow_kept {mm : Bool} {sK : State} (s : State) (hk : Kept mm sK s) : Kept mm sK (State.fabricNow s) := by
  unfold State.fabricNow
  repeat' with_reducible first | assumption | apply State.fabricTo_kept

theorem State.clocksNow_kept {mm : Bool} {sK : State} (s : State) (hk : Kept mm sK s) : Kept mm sK (State.clocksNow s) := by
  unfold State.clocksNow
  repeat' with_reducible first | assumption | apply State.fabricNow_kept | apply State.countMc_kept

theorem State.fabricPre_kept {mm : Bool} {sK : State} (s : State) (hk : Kept mm sK s) : Kept mm sK (State.fabricPre s) := by
  unfold State.fabricPre
  repeat' with_reducible first | assumption | apply State.fabricTo_kept

theorem State.swapFfs_kept {mm : Bool} {sK : State} (s : State) (p : Nat) (x : State) (hk : Kept mm sK x) : Kept mm sK (State.swapFfs s p x) := by
  unfold State.swapFfs
  repeat' with_reducible first
      | assumption | refine Kept.ite (fun _ => ?_) (fun _ => ?_) | refine Kept.foldl _ (fun _ _ _ => ?_) _ _ ?_ | apply State.setFf_kept
      | (rw [State.mk_built]; apply Kept.upd)

theorem State.drawMac_kept {mm : Bool} {sK : State} (s : State) (tl : Nat) (hk : Kept mm sK s) : Kept mm sK (State.drawMac s tl) := by
  unfold State.drawMac
  repeat' with_reducible first | assumption | (rw [State.mk_built]; apply Kept.upd)

theorem State.swapMacs_kept {mm : Bool} {sK : State} (s : State) (p : Nat) (hk : Kept mm sK s) : Kept mm sK (State.swapMacs s p) := by
  unfold State.swapMacs
  repeat' with_reducible first
      | assumption | refine Kept.foldl _ (fun _ _ _ => ?_) _ _ ?_ | apply State.drawMac_kept | (rw [State.mk_built]; apply Kept.upd)

theorem execPaddockSwap_kept {mm : Bool} (t : Nat) (p : Fin 24) (s : State) : KeptN mm s (execPaddockSwap t p s) := by
  unfold execPaddockSwap
  repeat' with_reducible first
      | assumption | exact Kept.refl _ | apply KeptN.next | refine Kept.ite (fun _ => ?_) (fun _ => ?_)
      | refine Kept.foldl _ (fun _ _ _ => ?_) _ _ ?_ | apply Kept.setReg | apply Kept.tickTo | apply State.endAction_kept
      | apply State.fabricTo_kept | apply State.swapFfs_kept | apply State.abortAudit_kept | apply State.exchange_kept
      | apply State.swapMacs_kept | apply State.reloadMem_kept | apply State.bump_kept | apply State.setPad_kept | split

theorem execHoldEnd_kept {mm : Bool} (t : Nat) (p : Fin 24) (s : State) : KeptN mm s (execHoldEnd t p s) := by
  unfold execHoldEnd
  repeat' with_reducible first
      | exact Kept.refl _ | apply KeptN.next | refine Kept.ite (fun _ => ?_) (fun _ => ?_) | apply Kept.tickTo | apply State.fabricTo_kept
      | apply State.setPad_kept

end Sys2Proof.Machine
end

