-- ==== Sys2Proof/Laws/KeptNetwork.lean ====
section
/-! SUPPORT. On-chip memories, the network and triggers: what every function of a state keeps (`Kept`), one law a function, and one a command. Laws with the
parameter `mm` hold with the addressed memories unchanged too; those with `false` are of the functions that may write one. -/

namespace Sys2Proof.Machine

theorem execStartupMarch_kept {mm : Bool} (t : Nat) (s : State) : KeptN mm s (execStartupMarch t s) := by
  unfold execStartupMarch
  repeat' with_reducible first
      | exact Kept.refl _ | apply KeptN.next | refine Kept.ite (fun _ => ?_) (fun _ => ?_) | apply Kept.tickTo
      | (rw [State.mk_built]; apply Kept.upd)

theorem State.slotFailed_kept {mm : Bool} {sK : State} (s : State) (slot : Nat) (hk : Kept mm sK s) : Kept mm sK (State.slotFailed s slot) := by
  unfold State.slotFailed
  repeat' with_reducible first
      | assumption | refine Kept.ite (fun _ => ?_) (fun _ => ?_) | apply Kept.setReg | apply State.setEngine_kept | split

theorem State.wordsFailed_kept {mm : Bool} {sK : State} (s : State) (target : Nat) (l : List (Nat × Nat)) (hk : Kept mm sK s) : Kept mm sK
    (State.wordsFailed s target l) := by
  unfold State.wordsFailed
  repeat' with_reducible first
      | assumption | refine Kept.ite (fun _ => ?_) (fun _ => ?_) | apply State.fault_kept | (rw [State.mk_built]; apply Kept.upd)

theorem State.resultBit_kept {mm : Bool} {sK : State} (s : State) (n : Nat) (hk : Kept mm sK s) : Kept mm sK (State.resultBit s n) := by
  unfold State.resultBit
  repeat' with_reducible first | assumption | apply Kept.setImage

theorem State.columnsFound_kept {mm : Bool} {sK : State} (s : State) (m : Nat) (found : List Nat) (hk : Kept mm sK s) : Kept mm sK
    (State.columnsFound s m found) := by
  unfold State.columnsFound
  repeat' with_reducible first
      | assumption | refine Kept.ite (fun _ => ?_) (fun _ => ?_) | apply Kept.setImage | apply State.bump_kept
      | (rw [State.mk_built]; apply Kept.upd)

theorem execStartupMarchDone_kept {mm : Bool} (t : Nat) (x : MarchFinds) (s : State) : KeptN mm s (execStartupMarchDone t x s) := by
  unfold execStartupMarchDone
  repeat' with_reducible first
      | assumption | exact Kept.refl _ | apply KeptN.next | refine Kept.ite (fun _ => ?_) (fun _ => ?_)
      | refine Kept.foldl _ (fun _ _ _ => ?_) _ _ ?_ | apply Kept.setReg | apply Kept.tickTo | apply State.slotFailed_kept
      | apply State.resultBit_kept | apply State.wordsFailed_kept | apply State.columnsFound_kept | apply State.setCfg_kept
      | (rw [State.mk_built]; apply Kept.upd) | split

theorem ownMarchTarget_kept {mm : Bool} {sK : State} (vO : Nat) (sO : State) (hk : Kept mm sK sO) : Kept mm sK (ownMarchTarget vO sO).2 := by
  unfold ownMarchTarget
  repeat' with_reducible first | assumption | apply Kept.setReg | refine Kept.ite_snd (fun _ => ?_) (fun _ => ?_)

theorem ownMarchStart_kept {mm : Bool} {sK : State} (vO : Nat) (sO : State) (hk : Kept mm sK sO) : Kept mm sK (ownMarchStart vO sO).2 := by
  unfold ownMarchStart
  repeat' with_reducible first
      | assumption | apply Kept.setReg | apply command_kept | (rw [State.mk_built]; apply Kept.upd) | exact id | split | dsimp only
      | intro _

theorem execMarchStart_kept {mm : Bool} (t : Nat) (r : Requester) (v : Bool) (s : State) : KeptN mm s (execMarchStart t r v s) := by
  unfold execMarchStart
  repeat' with_reducible first
      | exact Kept.refl _ | apply KeptN.next | apply Kept.tickTo | apply State.writeObj_kept | apply ownMarchStart_kept

theorem State.marchZero_kept {sK : State} (s : State) (target : Nat) (hk : Kept false sK s) : Kept false sK (State.marchZero s target) := by
  unfold State.marchZero
  repeat' with_reducible first
      | assumption | refine Kept.foldl _ (fun _ _ _ => ?_) _ _ ?_ | apply Kept.setImage | apply State.freshWords_kept
      | apply State.dropPatch_kept | (rw [State.mk_built]; apply Kept.mem) | exact id | apply memory_filter_wf | split | dsimp only

theorem execMarchDone_kept (t : Nat) (found first : Nat) (left : List Nat) (s : State) : KeptN false s (execMarchDone t found first left s) := by
  unfold execMarchDone
  repeat' with_reducible first
      | exact Kept.refl _ | apply KeptN.next | refine Kept.ite (fun _ => ?_) (fun _ => ?_) | apply Kept.setReg | apply Kept.tickTo
      | apply State.marchZero_kept | apply State.wordsFailed_kept | apply State.slotFailed_kept | apply State.bump_kept
      | (rw [State.mk_built]; apply Kept.upd) | split

theorem ownScrubProgram_kept {mm : Bool} {sK : State} (imgO : List Byte) (ttO : Nat) (sO : State) (hk : Kept mm sK sO) : Kept mm sK
    (ownScrubProgram imgO ttO sO).2 := by
  unfold ownScrubProgram
  repeat' with_reducible first
      | assumption | apply Kept.setReg | apply Kept.setImage | apply unscheduled_kept | (rw [State.mk_built]; apply Kept.upd) | exact id
      | split | dsimp only | intro _

theorem execScrubProgram_kept {mm : Bool} (t : Nat) (r : Requester) (crc tt : Nat) (s : State) : KeptN mm s (execScrubProgram t r crc tt s) := by
  unfold execScrubProgram
  repeat' with_reducible first
      | exact Kept.refl _ | apply KeptN.next | apply Kept.tickTo | apply State.commitObj_kept | apply ownScrubProgram_kept

theorem ownScrubEnable_kept {mm : Bool} {sK : State} (vO : Nat) (sO : State) (hk : Kept mm sK sO) : Kept mm sK (ownScrubEnable vO sO).2 := by
  unfold ownScrubEnable
  repeat' with_reducible first
      | assumption | refine Kept.ite (fun _ => ?_) (fun _ => ?_) | apply Kept.setReg | (rw [State.mk_built]; apply Kept.upd)

theorem ownForceAfter_kept {mm : Bool} {sK : State} (vO : Nat) (sO : State) (hk : Kept mm sK sO) : Kept mm sK (ownForceAfter vO sO).2 := by
  unfold ownForceAfter
  repeat' with_reducible first | assumption | apply Kept.setReg | refine Kept.ite_snd (fun _ => ?_) (fun _ => ?_)

theorem State.scrubNext_kept {mm : Bool} {sK : State} (s : State) (hk : Kept mm sK s) : Kept mm sK (State.scrubNext s) := by
  unfold State.scrubNext
  repeat' with_reducible first
      | assumption | refine Kept.ite (fun _ => ?_) (fun _ => ?_) | apply Kept.setReg | (rw [State.mk_built]; apply Kept.upd)

theorem State.setCursor_kept {mm : Bool} {sK : State} (s : State) (target v : Nat) (hk : Kept mm sK s) : Kept mm sK (State.setCursor s
    target v) := by
  unfold State.setCursor
  repeat' with_reducible first | assumption | (rw [State.mk_built]; apply Kept.upd)

theorem State.passDone_kept {mm : Bool} {sK : State} (s : State) (target : Nat) (hk : Kept mm sK s) : Kept mm sK (State.passDone s target) := by
  unfold State.passDone
  repeat' with_reducible first | assumption | apply State.bumpImage_kept | apply State.setCursor_kept

theorem State.patrolBad_kept {mm : Bool} {sK : State} (s : State) (hk : Kept mm sK s) : Kept mm sK (State.patrolBad s) := by
  unfold State.patrolBad
  repeat' with_reducible first | assumption | apply State.bump_kept | apply State.setFlag_kept | apply State.fault_kept

theorem State.patrolErr_kept {mm : Bool} {sK : State} (s : State) (target word : Nat) (e : PatrolErr) (hk : Kept mm sK s) : Kept mm sK
    (State.patrolErr s target word e) := by
  unfold State.patrolErr
  repeat' with_reducible first
      | assumption | refine Kept.ite (fun _ => ?_) (fun _ => ?_) | apply State.upset_kept | apply State.bump_kept
      | apply State.setBad_kept | apply State.patrolBad_kept | apply State.cacheBad_kept | apply State.ringFault_kept
      | (rw [State.mk_built]; apply Kept.upd) | split | dsimp only

theorem State.upsets_kept {mm : Bool} {sK : State} (s : State) (l : List (Nat × Nat × Nat)) (hk : Kept mm sK s) : Kept mm sK (State.upsets s
    l) := by
  unfold State.upsets
  repeat' with_reducible first
      | assumption | refine Kept.ite (fun _ => ?_) (fun _ => ?_) | refine Kept.foldl _ (fun _ _ _ => ?_) _ _ ?_ | apply State.upset_kept
      | (rw [State.mk_built]; apply Kept.upd)

theorem State.giveCredits_kept {mm : Bool} {sK : State} (s : State) (target : Nat) (busy : List Nat) (hk : Kept mm sK s) : Kept mm sK
    (State.giveCredits s target busy) := by
  unfold State.giveCredits
  repeat' with_reducible first | assumption | apply State.bump_kept | (rw [State.mk_built]; apply Kept.upd)

theorem State.patrolWord_kept {mm : Bool} {sK : State} (s : State) (target array word : Nat) (hk : Kept mm sK s) : Kept mm sK
    (State.patrolWord s target array word) := by
  unfold State.patrolWord
  repeat' with_reducible first
      | assumption | refine Kept.ite (fun _ => ?_) (fun _ => ?_) | apply State.setBad_kept | apply State.bump_kept
      | apply State.patrolBad_kept | (rw [State.mk_built]; apply Kept.upd)

theorem State.patrolWords_kept {mm : Bool} {sK : State} (s : State) (target cur : Nat) (busy : List Nat) (hk : Kept mm sK s) : Kept mm sK
    (State.patrolWords s target cur busy) := by
  unfold State.patrolWords
  repeat' with_reducible first | assumption | refine Kept.foldl _ (fun _ _ _ => ?_) _ _ ?_ | apply State.patrolWord_kept

theorem State.patrolCache_kept {mm : Bool} {sK : State} (s : State) (u : Nat) (hk : Kept mm sK s) : Kept mm sK (State.patrolCache s u) := by
  unfold State.patrolCache
  repeat' with_reducible first
      | assumption | refine Kept.ite (fun _ => ?_) (fun _ => ?_) | apply State.bump_kept | apply State.patrolBad_kept
      | apply State.cacheBad_kept | (rw [State.mk_built]; apply Kept.upd) | split | dsimp only

theorem State.patrolMemories_kept {mm : Bool} {sK : State} (s : State) (cur : Nat) (busy : List Nat) (hk : Kept mm sK s) : Kept mm sK
    (State.patrolMemories s cur busy) := by
  unfold State.patrolMemories
  repeat' with_reducible first
      | assumption | refine Kept.foldl _ (fun _ _ _ => ?_) _ _ ?_ | apply State.bump_kept | apply State.patrolBad_kept
      | (rw [State.mk_built]; apply Kept.upd) | split

theorem State.patrolFeeds_kept {mm : Bool} {sK : State} (s : State) (cur : Nat) (busy : List Nat) (hk : Kept mm sK s) : Kept mm sK
    (State.patrolFeeds s cur busy) := by
  unfold State.patrolFeeds
  repeat' with_reducible first
      | assumption | refine Kept.ite (fun _ => ?_) (fun _ => ?_) | refine Kept.foldl _ (fun _ _ _ => ?_) _ _ ?_ | apply State.netFeed_kept

theorem State.patrolLine_kept {sK : State} (s : State) (r : Region) (pa : Nat) (errs : List PatrolErr) (hk : Kept false sK s) : Kept false
    sK (State.patrolLine s r pa errs) := by
  unfold State.patrolLine
  repeat' with_reducible first
      | assumption | refine Kept.ite (fun _ => ?_) (fun _ => ?_) | apply State.bump_kept | apply State.fault_kept
      | (rw [State.mk_built]; apply Kept.mem) | exact id | apply dramWrite_wf | split | dsimp only | intro _

theorem State.unitDone_kept {mm : Bool} {sK : State} (s : State) (target left next : Nat) (wrap : Bool) (hk : Kept mm sK s) : Kept mm sK
    (State.unitDone s target left next wrap) := by
  unfold State.unitDone
  repeat' with_reducible first
      | assumption | refine Kept.ite (fun _ => ?_) (fun _ => ?_) | apply State.passDone_kept | apply State.setCursor_kept
      | apply State.scrubNext_kept | (rw [State.mk_built]; apply Kept.upd)

theorem State.patrolVisit_kept {mm : Bool} {sK : State} (s : State) (tg cur : Nat) (errs : List PatrolErr) (bs : List Nat) (hk : Kept mm sK
    s) : Kept mm sK (State.patrolVisit s tg cur errs bs) := by
  unfold State.patrolVisit
  repeat' with_reducible first
      | assumption | refine Kept.ite (fun _ => ?_) (fun _ => ?_) | refine Kept.foldl _ (fun _ _ _ => ?_) _ _ ?_
      | apply State.patrolErr_kept | apply State.patrolWords_kept | apply State.patrolFeeds_kept | apply State.patrolCache_kept
      | apply State.patrolMemories_kept | split

theorem execPatrolUnit_kept (t : Nat) (ups : List (Nat × Nat × Nat)) (errs : List PatrolErr) (busy : List Nat) (wait : Nat) (s : State) :
    KeptN false s (execPatrolUnit t ups errs busy wait s) := by
  unfold execPatrolUnit
  repeat' with_reducible first
      | exact Kept.refl _ | apply KeptN.next | refine Kept.ite (fun _ => ?_) (fun _ => ?_) | apply Kept.tickTo | apply State.upsets_kept
      | apply State.scrubNext_kept | apply State.passDone_kept | apply State.pipeWait_kept | apply State.patrolLine_kept
      | apply State.unitDone_kept | apply State.patrolVisit_kept | apply State.giveCredits_kept | split

theorem State.stealWord_kept {mm : Bool} {sK : State} (s : State) (slot : Nat) (hk : Kept mm sK s) : Kept mm sK (State.stealWord s slot) := by
  unfold State.stealWord
  repeat' with_reducible first
      | assumption | refine Kept.ite (fun _ => ?_) (fun _ => ?_) | refine Kept.foldl _ (fun _ _ _ => ?_) _ _ ?_
      | apply State.stallEngine_kept | split

theorem execForcedSteal_kept {mm : Bool} (t : Nat) (data : Bool) (slot : Fin 528) (s : State) : KeptN mm s (execForcedSteal t data slot s) := by
  unfold execForcedSteal
  repeat' with_reducible first
      | exact Kept.refl _ | apply KeptN.next | refine Kept.ite (fun _ => ?_) (fun _ => ?_) | apply Kept.tickTo
      | apply State.patrolWord_kept | apply State.bump_kept | apply State.stealWord_kept | (rw [State.mk_built]; apply Kept.upd)

theorem execScrubWaitEnd_kept {mm : Bool} (t : Nat) (s : State) : KeptN mm s (execScrubWaitEnd t s) := by
  unfold execScrubWaitEnd
  repeat' with_reducible first
      | exact Kept.refl _ | apply KeptN.next | refine Kept.ite (fun _ => ?_) (fun _ => ?_) | apply Kept.tickTo
      | apply State.scrubNext_kept

theorem State.setNetResv_kept {mm : Bool} {sK : State} (s : State) (r : Nat) (x : NetResv) (hk : Kept mm sK s) : Kept mm sK
    (State.setNetResv s r x) := by
  unfold State.setNetResv
  repeat' with_reducible first | assumption | (rw [State.mk_built]; apply Kept.upd)

theorem State.setStop_kept {mm : Bool} {sK : State} (s : State) (rs : Nat) (x : NetStop) (hk : Kept mm sK s) : Kept mm sK (State.setStop s
    rs x) := by
  unfold State.setStop
  repeat' with_reducible first | assumption | (rw [State.mk_built]; apply Kept.upd)

theorem State.spend_kept {mm : Bool} {sK : State} (s : State) (rs cls : Nat) (p : NetPkt) (hk : Kept mm sK s) : Kept mm sK (State.spend s rs
    cls p) := by
  unfold State.spend
  repeat' with_reducible first
      | assumption | refine Kept.ite (fun _ => ?_) (fun _ => ?_) | apply State.setStop_kept | apply State.ledMove_kept
      | apply State.setNetResv_kept

theorem State.injectFlit_kept {mm : Bool} {sK : State} (s : State) (rs cls : Nat) (hk : Kept mm sK s) : Kept mm sK (State.injectFlit s rs
    cls) := by
  unfold State.injectFlit
  repeat' with_reducible first
      | assumption | refine Kept.ite (fun _ => ?_) (fun _ => ?_) | apply State.spend_kept | apply State.setStop_kept
      | (rw [State.mk_built]; apply Kept.upd) | split

theorem State.serve_kept {mm : Bool} {sK : State} (s : State) (rs : Nat) (fuel : Nat) (hk : Kept mm sK s) : Kept mm sK (State.serve s rs
    fuel) := by
  induction fuel generalizing s rs with
  | zero =>
    unfold State.serve
    repeat' with_reducible first
        | assumption | refine Kept.ite (fun _ => ?_) (fun _ => ?_) | apply State.injectFlit_kept | apply State.drawBool_kept
        | apply State.setStop_kept | refine Kept.of_eq2 (by assumption) ?_ | split
  | succ k ih =>
    unfold State.serve
    repeat' with_reducible first
        | assumption | refine Kept.ite (fun _ => ?_) (fun _ => ?_) | apply State.injectFlit_kept | apply State.drawBool_kept
        | apply State.setStop_kept | refine ih _ _ ?_ | refine Kept.of_eq2 (by assumption) ?_ | split

theorem State.serveCounted_kept {mm : Bool} {sK : State} (s : State) (rs n : Nat) (hk : Kept mm sK s) : Kept mm sK (State.serveCounted s rs
    n) := by
  unfold State.serveCounted
  repeat' with_reducible first
      | assumption | refine Kept.ite (fun _ => ?_) (fun _ => ?_) | apply State.serve_kept | apply State.countEvent_kept

theorem State.netTurn_kept {mm : Bool} {sK : State} (s : State) (hk : Kept mm sK s) : Kept mm sK (State.netTurn s) := by
  unfold State.netTurn
  repeat' with_reducible first
      | assumption | refine Kept.foldl _ (fun _ _ _ => ?_) _ _ ?_ | apply State.serveCounted_kept | (rw [State.mk_built]; apply Kept.upd)

theorem State.enqueue_kept {mm : Bool} {sK : State} (s : State) (rs : Nat) (p : NetPkt) (hk : Kept mm sK s) : Kept mm sK (State.enqueue s rs
    p) := by
  unfold State.enqueue
  repeat' with_reducible first | assumption | apply State.setStop_kept

theorem State.control_kept {mm : Bool} {sK : State} (s : State) (p : NetPkt) (hk : Kept mm sK s) : Kept mm sK (State.control s p) := by
  unfold State.control
  repeat' with_reducible first | assumption | apply State.enqueue_kept

theorem State.ask_kept {mm : Bool} {sK : State} (s : State) (rs port : Nat) (hk : Kept mm sK s) : Kept mm sK (State.ask s rs port) := by
  unfold State.ask
  repeat' with_reducible first
      | assumption | refine Kept.ite (fun _ => ?_) (fun _ => ?_) | apply State.setStop_kept | apply State.control_kept | split
      | dsimp only

theorem State.launch_kept {mm : Bool} {sK : State} (s : State) (p : NetPkt) (hk : Kept mm sK s) : Kept mm sK (State.launch s p) := by
  unfold State.launch
  repeat' with_reducible first
      | assumption | refine Kept.ite (fun _ => ?_) (fun _ => ?_) | apply State.setStop_kept | apply State.enqueue_kept
      | apply State.ask_kept

theorem State.launchReady_kept {mm : Bool} {sK : State} (s : State) (rs : Nat) (fuel : Nat) (hk : Kept mm sK s) : Kept mm sK
    (State.launchReady s rs fuel) := by
  induction fuel generalizing s rs with
  | zero =>
    unfold State.launchReady
    repeat' with_reducible first
        | assumption | refine Kept.ite (fun _ => ?_) (fun _ => ?_) | apply State.setStop_kept | apply State.launch_kept | split
        | dsimp only
  | succ k ih =>
    unfold State.launchReady
    repeat' with_reducible first
        | assumption | refine Kept.ite (fun _ => ?_) (fun _ => ?_) | apply State.setStop_kept | apply State.launch_kept | refine ih _ _ ?_
        | split | dsimp only

theorem State.netReply_kept {mm : Bool} {sK : State} (s : State) (st : Status) (data : List Byte) (hk : Kept mm sK s) : Kept mm sK
    (State.netReply s st data) := by
  unfold State.netReply
  repeat' with_reducible first | assumption | (rw [State.mk_built]; apply Kept.upd)

theorem State.busFault_kept {mm : Bool} {sK : State} (s : State) (rs : Nat) (via : Bool) (st : Status) (hk : Kept mm sK s) : Kept mm sK
    (State.busFault s rs via st) := by
  unfold State.busFault
  repeat' with_reducible first | assumption | refine Kept.ite (fun _ => ?_) (fun _ => ?_) | apply Kept.setReg | apply State.raise_kept

theorem execNetworkRequest_kept {mm : Bool} (t : Nat) (src : Fin 98) (sport : Fin 16) (write : Bool) (addr n : Nat) (data : List Byte) (s :
    State) : KeptN mm s (execNetworkRequest t src sport write addr n data s) := by
  unfold execNetworkRequest
  repeat' with_reducible first
      | exact Kept.refl _ | apply KeptN.next | refine Kept.ite (fun _ => ?_) (fun _ => ?_) | apply Kept.tickTo | apply State.netTurn_kept
      | apply State.bump_kept | apply State.tally_kept | apply State.busFault_kept | apply State.netReply_kept | apply State.ledAdd_kept
      | apply State.setStop_kept | apply State.launchReady_kept | (rw [State.mk_built]; apply Kept.upd) | split

theorem State.dropPkt_kept {mm : Bool} {sK : State} (s : State) (p : NetPkt) (hk : Kept mm sK s) : Kept mm sK (State.dropPkt s p) := by
  unfold State.dropPkt
  repeat' with_reducible first | assumption | (rw [State.mk_built]; apply Kept.upd)

theorem State.freeFlits_kept {mm : Bool} {sK : State} (s : State) (p : NetPkt) (hk : Kept mm sK s) : Kept mm sK (State.freeFlits s p) := by
  unfold State.freeFlits
  repeat' with_reducible first
      | assumption | refine Kept.ite (fun _ => ?_) (fun _ => ?_) | apply State.setNetResv_kept | apply State.ledMove_kept
      | apply State.setStop_kept

theorem State.grantPool_kept {mm : Bool} {sK : State} (s : State) (rs : Nat) (fuel : Nat) (hk : Kept mm sK s) : Kept mm sK (State.grantPool
    s rs fuel) := by
  induction fuel generalizing s rs with
  | zero =>
    unfold State.grantPool
    repeat' with_reducible first
        | assumption | refine Kept.ite (fun _ => ?_) (fun _ => ?_) | apply State.setStop_kept | apply State.ledMove_kept
        | apply State.raiseMax_kept | apply State.control_kept | split | dsimp only
  | succ k ih =>
    unfold State.grantPool
    repeat' with_reducible first
        | assumption | refine Kept.ite (fun _ => ?_) (fun _ => ?_) | apply State.setStop_kept | apply State.ledMove_kept
        | apply State.raiseMax_kept | apply State.control_kept | refine ih _ _ ?_ | split | dsimp only

theorem State.respond_kept {mm : Bool} {sK : State} (s : State) (p : NetPkt) (st : Status) (byStop : Bool) (data : List Byte) (hk : Kept mm
    sK s) : Kept mm sK (State.respond s p st byStop data) := by
  unfold State.respond
  repeat' with_reducible first | assumption | apply State.enqueue_kept

theorem State.stopAnswers_kept {mm : Bool} {sK : State} (s : State) (p : NetPkt) (st : Status) (hk : Kept mm sK s) : Kept mm sK
    (State.stopAnswers s p st) := by
  unfold State.stopAnswers
  repeat' with_reducible first
      | assumption | refine Kept.ite (fun _ => ?_) (fun _ => ?_) | apply State.freeFlits_kept | apply State.bump_kept
      | apply State.countEvent_kept | apply State.respond_kept | apply State.grantPool_kept

theorem State.netDone_kept {mm : Bool} {sK : State} (s : State) (rs txn term : Nat) (st : Status) (data : List Byte) (hk : Kept mm sK s) :
    Kept mm sK (State.netDone s rs txn term st data) := by
  unfold State.netDone
  repeat' with_reducible first
      | assumption | apply State.setStop_kept | apply State.ledMove_kept | apply State.busFault_kept | apply State.netReply_kept
      | apply State.launchReady_kept

theorem State.checkFenced_kept {mm : Bool} {sK : State} (s : State) (rs : Nat) (hk : Kept mm sK s) : Kept mm sK (State.checkFenced s rs) := by
  unfold State.checkFenced
  repeat' with_reducible first | assumption | refine Kept.ite (fun _ => ?_) (fun _ => ?_) | apply Kept.setReg

theorem State.granted_kept {mm : Bool} {sK : State} (s : State) (rs txn : Nat) (f : State → NetPkt → State) (hk : Kept mm sK s) (h_f : ∀ s
    p, Kept mm sK s → Kept mm sK (f s p)) : Kept mm sK (State.granted s rs txn f) := by
  unfold State.granted
  repeat' with_reducible first | assumption | apply State.setStop_kept | apply State.ask_kept | refine h_f _ _ ?_ | split | dsimp only

theorem execResponse_kept {mm : Bool} (t : Nat) (src dst : Fin 98) (s : State) : KeptN mm s (execResponse t src dst s) := by
  unfold execResponse
  repeat' with_reducible first
      | exact Kept.refl _ | apply KeptN.next | refine Kept.ite (fun _ => ?_) (fun _ => ?_) | apply Kept.tickTo | apply State.netTurn_kept
      | apply State.dropPkt_kept | apply State.bump_kept | apply State.countEvent_kept | apply State.netDone_kept
      | apply State.granted_kept | apply State.checkFenced_kept | exact id | split | intro _

theorem execReqLimit_kept {mm : Bool} (t : Nat) (rs : Fin 98) (s : State) : KeptN mm s (execReqLimit t rs s) := by
  unfold execReqLimit
  repeat' with_reducible first
      | exact Kept.refl _ | apply KeptN.next | refine Kept.ite (fun _ => ?_) (fun _ => ?_) | apply Kept.tickTo | apply State.netTurn_kept
      | apply State.bump_kept | apply State.netDone_kept | apply State.checkFenced_kept | split

theorem State.refuseAsk_kept {mm : Bool} {sK : State} (s : State) (p : NetPkt) (hk : Kept mm sK s) : Kept mm sK (State.refuseAsk s p) := by
  unfold State.refuseAsk
  repeat' with_reducible first | assumption | apply State.bump_kept | apply State.countEvent_kept | apply State.control_kept

theorem execRsvReq_kept {mm : Bool} (t : Nat) (src dst : Fin 98) (s : State) : KeptN mm s (execRsvReq t src dst s) := by
  unfold execRsvReq
  repeat' with_reducible first
      | exact Kept.refl _ | apply KeptN.next | refine Kept.ite (fun _ => ?_) (fun _ => ?_) | apply Kept.tickTo | apply State.netTurn_kept
      | apply State.dropPkt_kept | apply State.refuseAsk_kept | apply State.setStop_kept | apply State.grantPool_kept | split

theorem execRsvGrant_kept {mm : Bool} (t : Nat) (src dst : Fin 98) (s : State) : KeptN mm s (execRsvGrant t src dst s) := by
  unfold execRsvGrant
  repeat' with_reducible first
      | exact Kept.refl _ | apply KeptN.next | apply Kept.tickTo | apply State.netTurn_kept | apply State.dropPkt_kept
      | apply State.granted_kept | apply State.enqueue_kept | split | intro _

theorem execCreditReturn_kept {mm : Bool} (t : Nat) (r : Fin 2048) (s : State) : KeptN mm s (execCreditReturn t r s) := by
  unfold execCreditReturn
  repeat' with_reducible first
      | exact Kept.refl _ | apply KeptN.next | refine Kept.ite (fun _ => ?_) (fun _ => ?_) | apply Kept.tickTo | apply State.netTurn_kept
      | apply State.setNetResv_kept | apply State.ledMove_kept | split

theorem execTurnCreditReturn_kept {mm : Bool} (t : Nat) (rs : Fin 98) (y : Fin 4) (cls : Fin 3) (s : State) : KeptN mm s
    (execTurnCreditReturn t rs y cls s) := by
  unfold execTurnCreditReturn
  repeat' with_reducible first
      | exact Kept.refl _ | apply KeptN.next | refine Kept.ite (fun _ => ?_) (fun _ => ?_) | apply Kept.tickTo | apply State.netTurn_kept
      | apply State.setStop_kept | apply State.ledMove_kept

theorem ownStanding_kept {mm : Bool} {sK : State} (imgO : List Byte) (ttO : Nat) (sO : State) (hk : Kept mm sK sO) : Kept mm sK (ownStanding
    imgO ttO sO).2 := by
  unfold ownStanding
  repeat' with_reducible first
      | assumption | apply Kept.setImage | apply unscheduled_kept | apply State.ledSub_kept | apply State.ledAdd_kept | exact id | split
      | dsimp only | intro _

theorem execStanding_kept {mm : Bool} (t : Nat) (r : Requester) (crc tt : Nat) (s : State) : KeptN mm s (execStanding t r crc tt s) := by
  unfold execStanding
  repeat' with_reducible first
      | exact Kept.refl _ | apply KeptN.next | apply Kept.tickTo | apply State.commitObj_kept | apply ownStanding_kept

theorem State.answerIsolated_kept {mm : Bool} {sK : State} (s : State) (p : NetPkt) (buffered : Bool) (hk : Kept mm sK s) : Kept mm sK
    (State.answerIsolated s p buffered) := by
  unfold State.answerIsolated
  repeat' with_reducible first
      | assumption | refine Kept.ite (fun _ => ?_) (fun _ => ?_) | apply State.stopAnswers_kept | apply State.bump_kept
      | apply State.countEvent_kept | apply State.respond_kept

theorem State.isolate_kept {mm : Bool} {sK : State} (s : State) (rs port : Nat) (hk : Kept mm sK s) : Kept mm sK (State.isolate s rs port) := by
  unfold State.isolate
  repeat' with_reducible first
      | assumption | refine Kept.ite (fun _ => ?_) (fun _ => ?_) | refine Kept.foldl _ (fun _ _ _ => ?_) _ _ ?_ | apply Kept.setReg
      | apply State.fault_kept | apply State.recovery_kept | apply State.setFlag_kept | apply State.setStop_kept
      | apply State.answerIsolated_kept | apply State.checkFenced_kept

theorem State.noteShedReset_kept {mm : Bool} {sK : State} (s : State) (rs : Nat) (hk : Kept mm sK s) : Kept mm sK (State.noteShedReset s rs) := by
  unfold State.noteShedReset
  repeat' with_reducible first | assumption | apply State.setStop_kept

theorem execStallLimit_kept {mm : Bool} (t : Nat) (rs : Fin 98) (port : Fin 16) (s : State) : KeptN mm s (execStallLimit t rs port s) := by
  unfold execStallLimit
  repeat' with_reducible first
      | exact Kept.refl _ | apply KeptN.next | refine Kept.ite (fun _ => ?_) (fun _ => ?_) | apply Kept.tickTo | apply State.netTurn_kept
      | apply State.isolate_kept

theorem execRespLimit_kept {mm : Bool} (t : Nat) (rs : Fin 98) (port : Fin 16) (s : State) : KeptN mm s (execRespLimit t rs port s) := by
  unfold execRespLimit
  repeat' with_reducible first
      | exact Kept.refl _ | apply KeptN.next | refine Kept.ite (fun _ => ?_) (fun _ => ?_) | apply Kept.tickTo | apply State.netTurn_kept
      | apply State.isolate_kept

theorem ownIsolate_kept {mm : Bool} {sK : State} (rs : Nat) (vO : Nat) (sO : State) (hk : Kept mm sK sO) : Kept mm sK (ownIsolate rs vO
    sO).2 := by
  unfold ownIsolate
  repeat' with_reducible first | assumption | apply State.isolate_kept

theorem execIsolate_kept {mm : Bool} (t : Nat) (r : Requester) (rs : Fin 98) (v : Nat) (s : State) : KeptN mm s (execIsolate t r rs v s) := by
  unfold execIsolate
  repeat' with_reducible first
      | exact Kept.refl _ | apply KeptN.next | apply Kept.tickTo | apply State.writeObj_kept | apply ownIsolate_kept

theorem ownDeisolate_kept {mm : Bool} {sK : State} (rs : Nat) (vO : Nat) (sO : State) (hk : Kept mm sK sO) : Kept mm sK (ownDeisolate rs vO
    sO).2 := by
  unfold ownDeisolate
  repeat' with_reducible first | assumption | refine Kept.ite_snd (fun _ => ?_) (fun _ => ?_) | apply State.deisolate_kept

theorem execDeisolate_kept {mm : Bool} (t : Nat) (r : Requester) (rs : Fin 98) (v : Nat) (s : State) : KeptN mm s (execDeisolate t r rs v s) := by
  unfold execDeisolate
  repeat' with_reducible first
      | exact Kept.refl _ | apply KeptN.next | apply Kept.tickTo | apply State.writeObj_kept | apply ownDeisolate_kept

theorem ownBinding_kept {mm : Bool} {sK : State} (rs : Nat) (imgO : List Byte) (ttO : Nat) (sO : State) (hk : Kept mm sK sO) : Kept mm sK
    (ownBinding rs imgO ttO sO).2 := by
  unfold ownBinding
  repeat' with_reducible first
      | assumption | apply Kept.setImage | apply unscheduled_kept | apply State.deisolate_kept | exact id | split | dsimp only | intro _

theorem execBinding_kept {mm : Bool} (t : Nat) (r : Requester) (rs : Fin 98) (crc tt : Nat) (s : State) : KeptN mm s (execBinding t r rs crc
    tt s) := by
  unfold execBinding
  repeat' with_reducible first
      | exact Kept.refl _ | apply KeptN.next | apply Kept.tickTo | apply State.commitObj_kept | apply ownBinding_kept

theorem State.fenceStop_kept {mm : Bool} {sK : State} (s : State) (rs : Nat) (hk : Kept mm sK s) : Kept mm sK (State.fenceStop s rs) := by
  unfold State.fenceStop
  repeat' with_reducible first
      | assumption | refine Kept.ite (fun _ => ?_) (fun _ => ?_) | refine Kept.foldl _ (fun _ _ _ => ?_) _ _ ?_ | apply Kept.setReg
      | apply State.setStop_kept | apply State.refuseAsk_kept | apply State.control_kept | apply State.checkFenced_kept

theorem State.unfenceStop_kept {mm : Bool} {sK : State} (s : State) (rs : Nat) (hk : Kept mm sK s) : Kept mm sK (State.unfenceStop s rs) := by
  unfold State.unfenceStop
  repeat' with_reducible first
      | assumption | refine Kept.ite (fun _ => ?_) (fun _ => ?_) | refine Kept.foldl _ (fun _ _ _ => ?_) _ _ ?_ | apply Kept.setReg
      | apply State.setNetResv_kept | apply State.control_kept

theorem execFenceNotice_kept {mm : Bool} (t : Nat) (src dst : Fin 98) (s : State) : KeptN mm s (execFenceNotice t src dst s) := by
  unfold execFenceNotice
  repeat' with_reducible first
      | assumption | exact Kept.refl _ | apply KeptN.next | refine Kept.foldl _ (fun _ _ _ => ?_) _ _ ?_ | apply Kept.tickTo
      | apply State.netTurn_kept | apply State.dropPkt_kept | apply State.setNetResv_kept | apply State.setStop_kept
      | apply State.netDone_kept | apply State.control_kept | split

theorem execFenceAck_kept {mm : Bool} (t : Nat) (src dst : Fin 98) (s : State) : KeptN mm s (execFenceAck t src dst s) := by
  unfold execFenceAck
  repeat' with_reducible first
      | exact Kept.refl _ | apply KeptN.next | apply Kept.tickTo | apply State.netTurn_kept | apply State.dropPkt_kept
      | apply State.setStop_kept | apply State.checkFenced_kept | split

theorem execDrainLimit_kept {mm : Bool} (t : Nat) (rs : Fin 98) (s : State) : KeptN mm s (execDrainLimit t rs s) := by
  unfold execDrainLimit
  repeat' with_reducible first
      | assumption | exact Kept.refl _ | apply KeptN.next | refine Kept.ite (fun _ => ?_) (fun _ => ?_)
      | refine Kept.foldl _ (fun _ _ _ => ?_) _ _ ?_ | apply Kept.setReg | apply Kept.tickTo | apply State.netTurn_kept
      | apply State.isolate_kept | apply State.setStop_kept

theorem execNetworkEvent_kept {mm : Bool} (t : Nat) (rs : Fin 98) (port : Fin 16) (s : State) : KeptN mm s (execNetworkEvent t rs port s) := by
  unfold execNetworkEvent
  repeat' with_reducible first
      | exact Kept.refl _ | apply KeptN.next | apply Kept.tickTo | apply State.setFlag_kept | apply State.raise_kept

theorem ownRespLimit_kept {mm : Bool} {sK : State} (vO : Nat) (sO : State) (hk : Kept mm sK sO) : Kept mm sK (ownRespLimit vO sO).2 := by
  unfold ownRespLimit
  repeat' with_reducible first | assumption | apply Kept.setReg | refine Kept.ite_snd (fun _ => ?_) (fun _ => ?_)

theorem ownReqLimit_kept {mm : Bool} {sK : State} (vO : Nat) (sO : State) (hk : Kept mm sK sO) : Kept mm sK (ownReqLimit vO sO).2 := by
  unfold ownReqLimit
  repeat' with_reducible first | assumption | apply Kept.setReg | refine Kept.ite_snd (fun _ => ?_) (fun _ => ?_)

theorem State.setTrig_kept {mm : Bool} {sK : State} (s : State) (u : Nat) (x : Trig) (hk : Kept mm sK s) : Kept mm sK (State.setTrig s u x) := by
  unfold State.setTrig
  repeat' with_reducible first | assumption | (rw [State.mk_built]; apply Kept.upd)

theorem State.settleTrain_kept {mm : Bool} {sK : State} (s : State) (u : Nat) (hk : Kept mm sK s) : Kept mm sK (State.settleTrain s u) := by
  unfold State.settleTrain
  repeat' with_reducible first | assumption | refine Kept.ite (fun _ => ?_) (fun _ => ?_) | apply Kept.setReg | apply State.setTrig_kept

theorem ownTrigArm_kept {mm : Bool} {sK : State} (u : Nat) (vO : Nat) (sO : State) (hk : Kept mm sK sO) : Kept mm sK (ownTrigArm u vO sO).2 := by
  unfold ownTrigArm
  repeat' with_reducible first
      | assumption | apply Kept.setReg | apply arming_kept | apply State.settleTrain_kept | apply State.armAction_kept
      | apply State.setTrig_kept | refine Kept.of_eq2 (by assumption) ?_ | split | dsimp only | intro _

theorem execArm_kept {mm : Bool} (t : Nat) (r : Requester) (u : Fin 16) (v : Bool) (s : State) : KeptN mm s (execArm t r u v s) := by
  unfold execArm
  repeat' with_reducible first
      | exact Kept.refl _ | apply KeptN.next | apply Kept.tickTo | apply State.writeObj_kept | apply ownTrigArm_kept

theorem State.cancelTrain_kept {mm : Bool} {sK : State} (s0 : State) (u : Nat) (hk : Kept mm sK s0) : Kept mm sK (State.cancelTrain s0 u).2 := by
  unfold State.cancelTrain
  repeat' with_reducible first
      | assumption | apply Kept.setReg | refine Kept.ite_snd (fun _ => ?_) (fun _ => ?_) | apply State.settleTrain_kept
      | apply State.cancelAction_kept | apply State.setTrig_kept | refine Kept.of_eq2 (by assumption) ?_ | split | dsimp only

theorem ownTrigCancel_kept {mm : Bool} {sK : State} (u : Nat) (vO : Nat) (sO : State) (hk : Kept mm sK sO) : Kept mm sK (ownTrigCancel u vO
    sO).2 := by
  unfold ownTrigCancel
  repeat' with_reducible first | assumption | apply command_kept | apply State.cancelTrain_kept | intro _

theorem execCancel_kept {mm : Bool} (t : Nat) (r : Requester) (u : Fin 16) (v : Bool) (s : State) : KeptN mm s (execCancel t r u v s) := by
  unfold execCancel
  repeat' with_reducible first
      | exact Kept.refl _ | apply KeptN.next | apply Kept.tickTo | apply State.writeObj_kept | apply ownTrigCancel_kept

theorem State.beginPulse_kept {mm : Bool} {sK : State} (s : State) (u edge left : Nat) (hk : Kept mm sK s) : Kept mm sK (State.beginPulse s
    u edge left) := by
  unfold State.beginPulse
  repeat' with_reducible first | assumption | apply State.setTrig_kept | apply State.bump_kept

theorem execTriggerPulse_kept {mm : Bool} (t : Nat) (u : Fin 16) (s : State) : KeptN mm s (execTriggerPulse t u s) := by
  unfold execTriggerPulse
  repeat' with_reducible first
      | exact Kept.refl _ | apply KeptN.next | refine Kept.ite (fun _ => ?_) (fun _ => ?_) | apply Kept.setReg | apply Kept.tickTo
      | apply State.settleTrain_kept | apply State.endAction_kept | apply State.beginPulse_kept | split

theorem execPulseEnd_kept {mm : Bool} (t : Nat) (u : Fin 16) (s : State) : KeptN mm s (execPulseEnd t u s) := by
  unfold execPulseEnd
  repeat' with_reducible first
      | exact Kept.refl _ | apply KeptN.next | refine Kept.ite (fun _ => ?_) (fun _ => ?_) | apply Kept.tickTo | apply State.setTrig_kept
      | apply State.settleTrain_kept

theorem State.holdTrig_kept {mm : Bool} {sK : State} (s : State) (u cause : Nat) (on : Bool) (hk : Kept mm sK s) : Kept mm sK
    (State.holdTrig s u cause on) := by
  unfold State.holdTrig
  repeat' with_reducible first | assumption | apply State.setTrig_kept

theorem State.closeTrigRec_kept {mm : Bool} {sK : State} (s : State) (u : Nat) (hk : Kept mm sK s) : Kept mm sK (State.closeTrigRec s u) := by
  unfold State.closeTrigRec
  repeat' with_reducible first | assumption | apply State.setTrig_kept | apply State.offer_kept | split | dsimp only

theorem execTriggerInputEdge_kept {mm : Bool} (t : Nat) (u : Fin 16) (rising : Bool) (s : State) : KeptN mm s (execTriggerInputEdge t u
    rising s) := by
  unfold execTriggerInputEdge
  repeat' with_reducible first
      | exact Kept.refl _ | apply KeptN.next | refine Kept.ite (fun _ => ?_) (fun _ => ?_) | apply Kept.tickTo | apply State.wakeAt_kept
      | apply State.closeTrigRec_kept | apply State.ledAdd_kept | apply State.setTrig_kept | split | dsimp only

theorem execDeadtimeEnd_kept {mm : Bool} (t : Nat) (u : Fin 16) (s : State) : KeptN mm s (execDeadtimeEnd t u s) := by
  unfold execDeadtimeEnd
  repeat' with_reducible first
      | exact Kept.refl _ | apply KeptN.next | refine Kept.ite (fun _ => ?_) (fun _ => ?_) | apply Kept.tickTo
      | apply State.closeTrigRec_kept

theorem ownTrigMode_kept {mm : Bool} {sK : State} (u : Nat) (vO : Nat) (sO : State) (hk : Kept mm sK sO) : Kept mm sK (ownTrigMode u vO
    sO).2 := by
  unfold ownTrigMode
  repeat' with_reducible first
      | assumption | refine Kept.ite (fun _ => ?_) (fun _ => ?_) | apply Kept.setReg | apply State.closeTrigRec_kept
      | apply State.cancelTrain_kept

theorem execTriggerModeWrite_kept {mm : Bool} (t : Nat) (r : Requester) (u : Fin 16) (v : Nat) (s : State) : KeptN mm s
    (execTriggerModeWrite t r u v s) := by
  unfold execTriggerModeWrite
  repeat' with_reducible first
      | exact Kept.refl _ | apply KeptN.next | apply Kept.tickTo | apply State.writeObj_kept | apply ownTrigMode_kept

theorem ownTrigQueue_kept {mm : Bool} {sK : State} (u : Nat) (vO : Nat) (sO : State) (hk : Kept mm sK sO) : Kept mm sK (ownTrigQueue u vO
    sO).2 := by
  unfold ownTrigQueue
  repeat' with_reducible first | assumption | apply Kept.setReg | refine Kept.ite_snd (fun _ => ?_) (fun _ => ?_)

end Sys2Proof.Machine
end

