-- ==== Sys2Proof/Laws/KeptControl.lean ====
section
/-! SUPPORT. Sessions, sheds, clocks, power and run control: what every function of a state keeps (`Kept`), one law a function, and one a command. Laws with the
parameter `mm` hold with the addressed memories unchanged too; those with `false` are of the functions that may write one. -/

namespace Sys2Proof.Machine

theorem State.abortXfer_kept {mm : Bool} {sK : State} (s : State) (o : Nat) (hk : Kept mm sK s) : Kept mm sK (State.abortXfer s o) := by
  unfold State.abortXfer
  repeat' with_reducible first
      | assumption | refine Kept.ite (fun _ => ?_) (fun _ => ?_) | apply State.setXfer_kept | apply State.bump_kept
      | apply State.dropShadow_kept | apply State.settleBuffer_kept

theorem State.abortOf_kept {mm : Bool} {sK : State} (s : State) (r : Requester) (hk : Kept mm sK s) : Kept mm sK (State.abortOf s r) := by
  unfold State.abortOf
  repeat' with_reducible first
      | assumption | refine Kept.ite (fun _ => ?_) (fun _ => ?_) | refine Kept.foldl _ (fun _ _ _ => ?_) _ _ ?_
      | apply State.abortXfer_kept

theorem State.openStream_kept {mm : Bool} {sK : State} (s : State) (slot q : Nat) (toDevice : Bool) (credit : Nat) (hk : Kept mm sK s) :
    Kept mm sK (State.openStream s slot q toDevice credit).2.2 := by
  unfold State.openStream
  repeat' with_reducible first
      | assumption | refine Kept.ite_snd2 (fun _ => ?_) (fun _ => ?_) | apply State.setQueue_kept | apply State.setStream_kept

theorem State.closeStream_kept {mm : Bool} {sK : State} (s : State) (i : Nat) (hk : Kept mm sK s) : Kept mm sK (State.closeStream s i) := by
  unfold State.closeStream
  repeat' with_reducible first
      | assumption | refine Kept.ite (fun _ => ?_) (fun _ => ?_) | apply State.setStream_kept | apply State.setQueue_kept
      | apply State.ledMove_kept

theorem State.closeSession_kept {mm : Bool} {sK : State} (s : State) (i : Nat) (hk : Kept mm sK s) : Kept mm sK (State.closeSession s i) := by
  unfold State.closeSession
  repeat' with_reducible first
      | assumption | refine Kept.ite (fun _ => ?_) (fun _ => ?_) | refine Kept.foldl _ (fun _ _ _ => ?_) _ _ ?_ | apply Kept.setReg
      | apply State.setSession_kept | apply State.ledMove_kept | apply State.closeStream_kept | apply State.abortOf_kept | split

theorem State.closeSessions_kept {mm : Bool} {sK : State} (s : State) (c : Ctl) (hk : Kept mm sK s) : Kept mm sK (State.closeSessions s c) := by
  unfold State.closeSessions
  repeat' with_reducible first
      | assumption | refine Kept.ite (fun _ => ?_) (fun _ => ?_) | refine Kept.foldl _ (fun _ _ _ => ?_) _ _ ?_
      | apply State.closeSession_kept

theorem ownClose_kept {mm : Bool} {sK : State} (i : Nat) (vO : Nat) (sO : State) (hk : Kept mm sK sO) : Kept mm sK (ownClose i vO sO).2 := by
  unfold ownClose
  repeat' with_reducible first | assumption | apply command_kept | apply State.closeSession_kept | dsimp only | intro _

theorem execSessionTimeout_kept {mm : Bool} (t : Nat) (slot : Fin 64) (s : State) : KeptN mm s (execSessionTimeout t slot s) := by
  unfold execSessionTimeout
  repeat' with_reducible first
      | exact Kept.refl _ | apply KeptN.next | refine Kept.ite (fun _ => ?_) (fun _ => ?_) | apply Kept.tickTo
      | apply State.closeSession_kept

theorem State.setCtl_kept {mm : Bool} {sK : State} (s : State) (c : Ctl) (x : CtlState) (hk : Kept mm sK s) : Kept mm sK (State.setCtl s c
    x) := by
  unfold State.setCtl
  repeat' with_reducible first | assumption | (rw [State.mk_built]; apply Kept.upd)

theorem State.setHolder_kept {mm : Bool} {sK : State} (s : State) (c : Ctl) (hk : Kept mm sK s) : Kept mm sK (State.setHolder s c) := by
  unfold State.setHolder
  repeat' with_reducible first | assumption | apply Kept.setReg | apply State.bump_kept | apply State.setFlag_kept

theorem ownClaim_kept {mm : Bool} {sK : State} (c : Ctl) (vO : Nat) (sO : State) (hk : Kept mm sK sO) : Kept mm sK (ownClaim c vO sO).2 := by
  unfold ownClaim
  repeat' with_reducible first | assumption | refine Kept.ite_snd (fun _ => ?_) (fun _ => ?_) | apply State.setHolder_kept

theorem execClaim_kept {mm : Bool} (t : Nat) (w : Claimants) (s : State) : KeptN mm s (execClaim t w s) := by
  unfold execClaim
  repeat' with_reducible first
      | exact Kept.refl _ | apply KeptN.next | apply Kept.tickTo | apply State.writeObj_kept | apply ownClaim_kept | split

theorem ownOffer_kept {mm : Bool} {sK : State} (c : Ctl) (vO : Nat) (sO : State) (hk : Kept mm sK sO) : Kept mm sK (ownOffer c vO sO).2 := by
  unfold ownOffer
  repeat' with_reducible first
      | assumption | apply Kept.setReg | refine Kept.ite_snd (fun _ => ?_) (fun _ => ?_) | (rw [State.mk_built]; apply Kept.upd)

theorem execOffer_kept {mm : Bool} (t : Nat) (r : Requester) (v : Nat) (s : State) : KeptN mm s (execOffer t r v s) := by
  unfold execOffer
  repeat' with_reducible first
      | exact Kept.refl _ | apply KeptN.next | apply Kept.tickTo | apply State.writeObj_kept | apply ownOffer_kept

theorem ownAccept_kept {mm : Bool} {sK : State} (c : Ctl) (vO : Nat) (sO : State) (hk : Kept mm sK sO) : Kept mm sK (ownAccept c vO sO).2 := by
  unfold ownAccept
  repeat' with_reducible first | assumption | refine Kept.ite_snd (fun _ => ?_) (fun _ => ?_) | apply State.setHolder_kept

theorem execAccept_kept {mm : Bool} (t : Nat) (r : Requester) (v : Nat) (s : State) : KeptN mm s (execAccept t r v s) := by
  unfold execAccept
  repeat' with_reducible first
      | exact Kept.refl _ | apply KeptN.next | apply Kept.tickTo | apply State.writeObj_kept | apply ownAccept_kept

theorem execOfferTimeout_kept {mm : Bool} (t : Nat) (s : State) : KeptN mm s (execOfferTimeout t s) := by
  unfold execOfferTimeout
  repeat' with_reducible first
      | exact Kept.refl _ | apply KeptN.next | refine Kept.ite (fun _ => ?_) (fun _ => ?_) | apply Kept.setReg | apply Kept.tickTo
      | apply State.raise_kept | split

theorem State.heartbeat_kept {mm : Bool} {sK : State} (s : State) (c : Ctl) (hk : Kept mm sK s) : Kept mm sK (State.heartbeat s c) := by
  unfold State.heartbeat
  repeat' with_reducible first | assumption | refine Kept.ite (fun _ => ?_) (fun _ => ?_) | apply Kept.setReg | apply State.setCtl_kept

theorem ownHeartbeat_kept {mm : Bool} {sK : State} (x : Ctl) (vO : Nat) (sO : State) (hk : Kept mm sK sO) : Kept mm sK (ownHeartbeat x vO
    sO).2 := by
  unfold ownHeartbeat
  repeat' with_reducible first | assumption | apply State.heartbeat_kept

theorem execHeartbeat_kept {mm : Bool} (t : Nat) (r : Requester) (x : Ctl) (v : Nat) (s : State) : KeptN mm s (execHeartbeat t r x v s) := by
  unfold execHeartbeat
  repeat' with_reducible first
      | exact Kept.refl _ | apply KeptN.next | apply Kept.tickTo | apply State.writeObj_kept | apply ownHeartbeat_kept

theorem ownTake_kept {mm : Bool} {sK : State} (c : Ctl) (vO : Nat) (sO : State) (hk : Kept mm sK sO) : Kept mm sK (ownTake c vO sO).2 := by
  unfold ownTake
  repeat' with_reducible first | assumption | refine Kept.ite_snd (fun _ => ?_) (fun _ => ?_) | apply State.setHolder_kept

theorem execTake_kept {mm : Bool} (t : Nat) (r : Requester) (v : Nat) (heartbeat : Bool) (s : State) : KeptN mm s (execTake t r v heartbeat
    s) := by
  unfold execTake
  repeat' with_reducible first
      | exact Kept.refl _ | apply KeptN.next | apply Kept.tickTo | apply State.heartbeat_kept | apply State.writeObj_kept
      | apply ownTake_kept | split

theorem ownHandoverRequest_kept {mm : Bool} {sK : State} (vO : Nat) (sO : State) (hk : Kept mm sK sO) : Kept mm sK (ownHandoverRequest vO
    sO).2 := by
  unfold ownHandoverRequest
  repeat' with_reducible first | assumption | apply command_kept | apply State.raise_kept | exact id | split | intro _

theorem execHandoverRequest_kept {mm : Bool} (t : Nat) (r : Requester) (v : Bool) (s : State) : KeptN mm s (execHandoverRequest t r v s) := by
  unfold execHandoverRequest
  repeat' with_reducible first
      | exact Kept.refl _ | apply KeptN.next | apply Kept.tickTo | apply State.writeObj_kept | apply ownHandoverRequest_kept

theorem State.windowEnd_kept {mm : Bool} {sK : State} (s : State) (c : Ctl) (hk : Kept mm sK s) : Kept mm sK (State.windowEnd s c) := by
  unfold State.windowEnd
  repeat' with_reducible first
      | assumption | refine Kept.ite (fun _ => ?_) (fun _ => ?_) | apply Kept.setReg | apply State.setCtl_kept | apply State.setBool_kept
      | apply State.fault_kept

theorem execHeartbeatWindowEnd_kept {mm : Bool} (t : Nat) (s : State) : KeptN mm s (execHeartbeatWindowEnd t s) := by
  unfold execHeartbeatWindowEnd
  repeat' with_reducible first
      | exact Kept.refl _ | apply KeptN.next | refine Kept.ite (fun _ => ?_) (fun _ => ?_) | apply Kept.tickTo
      | apply State.windowEnd_kept | (rw [State.mk_built]; apply Kept.upd)

theorem State.wdKeep_kept {mm : Bool} {sK : State} (s : State) (c : Ctl) (hk : Kept mm sK s) : Kept mm sK (State.wdKeep s c) := by
  unfold State.wdKeep
  repeat' with_reducible first | assumption | apply State.setCtl_kept

theorem State.wdReload_kept {mm : Bool} {sK : State} (s : State) (c : Ctl) (hk : Kept mm sK s) : Kept mm sK (State.wdReload s c) := by
  unfold State.wdReload
  repeat' with_reducible first | assumption | apply State.setCtl_kept

theorem State.resetObjs_kept {mm : Bool} {sK : State} (s : State) (f : Nat → Bool) (hk : Kept mm sK s) : Kept mm sK (State.resetObjs s f) := by
  unfold State.resetObjs
  extract_lets s1
  have h1 : Kept mm sK s1 := by
    refine Kept.foldl _ (fun u e h => ?_) _ _ hk
    split
    · exact State.abortXfer_kept _ _ h
    · exact h
  exact h1.tabOf rfl (Nat.le_refl _) rfl rfl rfl rfl rfl (fun h => Tbl.filter_wf _ _ _ h) (fun h => Tbl.filter_wf _ _ _ h)

theorem State.clearMems_kept {mm : Bool} {sK : State} (s : State) (f : Nat → Bool) (hk : Kept mm sK s) : Kept mm sK (State.clearMems s f) := by
  unfold State.clearMems
  repeat' with_reducible first | assumption | (rw [State.mk_built]; apply Kept.upd)

theorem State.resetBlock_kept {mm : Bool} {sK : State} (s : State) (sh : Nat) (hk : Kept mm sK s) : Kept mm sK (State.resetBlock s sh) := by
  unfold State.resetBlock
  repeat' with_reducible first
      | assumption | refine Kept.ite (fun _ => ?_) (fun _ => ?_) | refine Kept.foldl _ (fun _ _ _ => ?_) _ _ ?_ | apply Kept.setReg
      | apply State.dropFails_kept | apply State.setChan_kept | apply State.setBool_kept | apply State.resFlush_kept
      | apply State.setEngine_kept | apply State.clearShadow_kept | apply State.dropLogic_kept | apply State.setPad_kept
      | apply State.clearMems_kept | apply State.dropRecords_kept | apply State.routeAll_kept | apply State.setYard_kept
      | (rw [State.mk_built]; apply Kept.upd)

theorem State.marchShed_kept {sK : State} (s : State) (sh : Nat) (hk : Kept false sK s) : Kept false sK (State.marchShed s sh) := by
  unfold State.marchShed
  repeat' with_reducible first
      | assumption | refine Kept.ite (fun _ => ?_) (fun _ => ?_) | apply State.freshWords_kept | (rw [State.mk_built]; apply Kept.mem)
      | exact id | apply memory_filter_wf

theorem State.bootMc_kept {mm : Bool} {sK : State} (s : State) (c : Ctl) (why : Nat) (hk : Kept mm sK s) : Kept mm sK (State.bootMc s c why) := by
  unfold State.bootMc
  repeat' with_reducible first
      | assumption | refine Kept.ite (fun _ => ?_) (fun _ => ?_) | apply Kept.setReg | apply State.bump_kept | apply State.deisolate_kept

theorem State.endAbsence_kept {mm : Bool} {sK : State} (s : State) (c : Ctl) (hk : Kept mm sK s) : Kept mm sK (State.endAbsence s c) := by
  unfold State.endAbsence
  repeat' with_reducible first | assumption | refine Kept.ite (fun _ => ?_) (fun _ => ?_) | apply Kept.setReg | apply State.raise_kept

theorem State.shedReset_kept {mm : Bool} {sK : State} (s : State) (sh why : Nat) (hk : Kept mm sK s) : Kept mm sK (State.shedReset s sh why) := by
  unfold State.shedReset
  repeat' with_reducible first
      | assumption | refine Kept.ite (fun _ => ?_) (fun _ => ?_) | refine Kept.foldl _ (fun _ _ _ => ?_) _ _ ?_ | apply Kept.setReg
      | apply State.clocksNow_kept | apply State.bump_kept | apply State.noteShedReset_kept | apply State.closeSessions_kept
      | apply State.resetObjs_kept | apply State.resetBlock_kept | apply State.endAbsence_kept | apply State.setCtl_kept
      | apply State.wdReload_kept | apply State.bootMc_kept

theorem State.holdQuad_kept {mm : Bool} {sK : State} (s : State) (sh : Nat) (on : Bool) (hk : Kept mm sK s) : Kept mm sK (State.holdQuad s
    sh on) := by
  unfold State.holdQuad
  repeat' with_reducible first
      | assumption | refine Kept.ite (fun _ => ?_) (fun _ => ?_) | refine Kept.foldl _ (fun _ _ _ => ?_) _ _ ?_ | apply State.holdPad_kept

theorem State.leaveOn_kept {sK : State} (s : State) (sh : Nat) (hk : Kept false sK s) : Kept false sK (State.leaveOn s sh) := by
  unfold State.leaveOn
  repeat' with_reducible first
      | assumption | refine Kept.ite (fun _ => ?_) (fun _ => ?_) | refine Kept.foldl _ (fun _ _ _ => ?_) _ _ ?_ | apply Kept.setReg
      | apply State.holdQuad_kept | apply State.pagesDone_kept | apply State.wdKeep_kept | apply State.closeSessions_kept
      | apply State.mgtLink_kept

theorem State.setPll_kept {mm : Bool} {sK : State} (s : State) (n : Nat) (b : Bool) (hk : Kept mm sK s) : Kept mm sK (State.setPll s n b) := by
  unfold State.setPll
  repeat' with_reducible first | assumption | refine Kept.ite (fun _ => ?_) (fun _ => ?_) | apply Kept.setImage | apply State.setBool_kept

theorem State.moveShed_kept {sK : State} (s : State) (sh st : Nat) (hk : Kept false sK s) : Kept false sK (State.moveShed s sh st) := by
  unfold State.moveShed
  repeat' with_reducible first
      | assumption | refine Kept.ite (fun _ => ?_) (fun _ => ?_) | refine Kept.foldl _ (fun _ _ _ => ?_) _ _ ?_ | apply Kept.setReg
      | apply State.clocksNow_kept | apply State.leaveOn_kept | apply State.shedReset_kept | apply State.marchShed_kept
      | apply State.bump_kept | apply State.ledMove_kept | apply State.setPll_kept | apply State.wdReload_kept

theorem State.fenceShed_kept {mm : Bool} {sK : State} (s : State) (sh : Nat) (hk : Kept mm sK s) : Kept mm sK (State.fenceShed s sh) := by
  unfold State.fenceShed
  repeat' with_reducible first
      | assumption | refine Kept.ite (fun _ => ?_) (fun _ => ?_) | apply State.fenceStop_kept | apply State.yardDown_kept

theorem State.unfenceShed_kept {mm : Bool} {sK : State} (s : State) (sh : Nat) (hk : Kept mm sK s) : Kept mm sK (State.unfenceShed s sh) := by
  unfold State.unfenceShed
  repeat' with_reducible first
      | assumption | refine Kept.ite (fun _ => ?_) (fun _ => ?_) | apply Kept.setReg | apply State.unfenceStop_kept
      | apply State.holdQuad_kept

theorem State.finishReset_kept {mm : Bool} {sK : State} (s : State) (sh : Nat) (hk : Kept mm sK s) : Kept mm sK (State.finishReset s sh) := by
  unfold State.finishReset
  repeat' with_reducible first
      | assumption | refine Kept.ite (fun _ => ?_) (fun _ => ?_) | apply State.shedReset_kept | apply State.unfenceShed_kept
      | (rw [State.mk_built]; apply Kept.upd)

theorem State.beginReset_kept {mm : Bool} {sK : State} (s : State) (sh : Nat) (hk : Kept mm sK s) : Kept mm sK (State.beginReset s sh) := by
  unfold State.beginReset
  repeat' with_reducible first
      | assumption | apply State.fenceShed_kept | apply State.finishReset_kept | (rw [State.mk_built]; apply Kept.upd)

theorem ownShedReset_kept {mm : Bool} {sK : State} (sh : Nat) (vO : Nat) (sO : State) (hk : Kept mm sK sO) : Kept mm sK (ownShedReset sh vO
    sO).2 := by
  unfold ownShedReset
  repeat' with_reducible first | assumption | apply command_kept | apply State.beginReset_kept | exact id | split | intro _

theorem execShedReset_kept {mm : Bool} (t : Nat) (r : Requester) (sh : Fin 98) (v : Bool) (s : State) : KeptN mm s (execShedReset t r sh v
    s) := by
  unfold execShedReset
  repeat' with_reducible first
      | exact Kept.refl _ | apply KeptN.next | apply Kept.tickTo | apply State.writeObj_kept | apply ownShedReset_kept

theorem ownShedProgram_kept {mm : Bool} {sK : State} (k : Nat) (imgO : List Byte) (ttO : Nat) (sO : State) (hk : Kept mm sK sO) : Kept mm sK
    (ownShedProgram k imgO ttO sO).2 := by
  unfold ownShedProgram
  repeat' with_reducible first | assumption | apply Kept.setImage | apply unscheduled_kept | exact id | split | dsimp only | intro _

theorem execShedProgramCommit_kept {mm : Bool} (t : Nat) (r : Requester) (k : Fin 4) (crc tt : Nat) (s : State) : KeptN mm s
    (execShedProgramCommit t r k crc tt s) := by
  unfold execShedProgramCommit
  repeat' with_reducible first
      | exact Kept.refl _ | apply KeptN.next | apply Kept.tickTo | apply State.commitObj_kept | apply ownShedProgram_kept

theorem State.startProgram_kept {mm : Bool} {sK : State} (s : State) (k : Nat) (hk : Kept mm sK s) : Kept mm sK (State.startProgram s k) := by
  unfold State.startProgram
  repeat' with_reducible first | assumption | apply Kept.setReg | (rw [State.mk_built]; apply Kept.upd)

theorem State.stepDone_kept {mm : Bool} {sK : State} (s : State) (hk : Kept mm sK s) : Kept mm sK (State.stepDone s) := by
  unfold State.stepDone
  repeat' with_reducible first | assumption | apply Kept.setReg | (rw [State.mk_built]; apply Kept.upd)

theorem State.abortEntry_kept {mm : Bool} {sK : State} (s : State) (cause : Nat) (hk : Kept mm sK s) : Kept mm sK (State.abortEntry s cause) := by
  unfold State.abortEntry
  repeat' with_reducible first
      | assumption | refine Kept.foldl _ (fun _ _ _ => ?_) _ _ ?_ | apply Kept.setReg | apply State.unfenceShed_kept
      | (rw [State.mk_built]; apply Kept.upd)

theorem State.runWake_kept {mm : Bool} {sK : State} (s : State) (hk : Kept mm sK s) : Kept mm sK (State.runWake s) := by
  unfold State.runWake
  repeat' with_reducible first | assumption | apply Kept.setReg | apply State.ledMove_kept | apply State.startProgram_kept

theorem State.stepRefused_kept {mm : Bool} {sK : State} (s : State) (hk : Kept mm sK s) : Kept mm sK (State.stepRefused s) := by
  unfold State.stepRefused
  repeat' with_reducible first
      | assumption | refine Kept.ite (fun _ => ?_) (fun _ => ?_) | apply Kept.setReg | apply State.runWake_kept
      | (rw [State.mk_built]; apply Kept.upd)

theorem execFenceStep_kept {mm : Bool} (t : Nat) (s : State) : KeptN mm s (execFenceStep t s) := by
  unfold execFenceStep
  repeat' with_reducible first
      | assumption | exact Kept.refl _ | apply KeptN.next | refine Kept.ite (fun _ => ?_) (fun _ => ?_)
      | refine Kept.foldl _ (fun _ _ _ => ?_) _ _ ?_ | apply Kept.tickTo | apply State.fenceShed_kept | apply State.stepDone_kept
      | (rw [State.mk_built]; apply Kept.upd) | split

theorem execUnfenceStep_kept {mm : Bool} (t : Nat) (s : State) : KeptN mm s (execUnfenceStep t s) := by
  unfold execUnfenceStep
  repeat' with_reducible first
      | assumption | exact Kept.refl _ | apply KeptN.next | refine Kept.ite (fun _ => ?_) (fun _ => ?_)
      | refine Kept.foldl _ (fun _ _ _ => ?_) _ _ ?_ | apply Kept.tickTo | apply State.stepRefused_kept | apply State.unfenceShed_kept
      | apply State.stepDone_kept | split

theorem execFence_kept {mm : Bool} (t : Nat) (rs : Fin 98) (s : State) : KeptN mm s (execFence t rs s) := by
  unfold execFence
  repeat' with_reducible first
      | exact Kept.refl _ | apply KeptN.next | refine Kept.ite (fun _ => ?_) (fun _ => ?_) | apply Kept.tickTo
      | apply State.fenceShed_kept | (rw [State.mk_built]; apply Kept.upd) | split

theorem execUnfence_kept {mm : Bool} (t : Nat) (rs : Fin 98) (s : State) : KeptN mm s (execUnfence t rs s) := by
  unfold execUnfence
  repeat' with_reducible first
      | exact Kept.refl _ | apply KeptN.next | refine Kept.ite (fun _ => ?_) (fun _ => ?_) | apply Kept.tickTo
      | apply State.finishReset_kept | apply State.unfenceShed_kept | split

theorem execSetShed_kept (t : Nat) (s : State) : KeptN false s (execSetShed t s) := by
  unfold execSetShed
  repeat' with_reducible first
      | assumption | exact Kept.refl _ | apply KeptN.next | refine Kept.ite (fun _ => ?_) (fun _ => ?_)
      | refine Kept.foldl _ (fun _ _ _ => ?_) _ _ ?_ | apply Kept.tickTo | apply State.moveShed_kept | apply State.stepDone_kept
      | apply State.stepRefused_kept | split

theorem execShedWait_kept {mm : Bool} (t : Nat) (s : State) : KeptN mm s (execShedWait t s) := by
  unfold execShedWait
  repeat' with_reducible first
      | exact Kept.refl _ | apply KeptN.next | refine Kept.ite (fun _ => ?_) (fun _ => ?_) | apply Kept.tickTo | apply State.stepDone_kept
      | split

theorem execSetState_kept {mm : Bool} (t : Nat) (s : State) : KeptN mm s (execSetState t s) := by
  unfold execSetState
  repeat' with_reducible first
      | exact Kept.refl _ | apply KeptN.next | apply Kept.setReg | apply Kept.tickTo | apply State.stepDone_kept | split

theorem execProgramEnd_kept {mm : Bool} (t : Nat) (s : State) : KeptN mm s (execProgramEnd t s) := by
  unfold execProgramEnd
  repeat' with_reducible first
      | exact Kept.refl _ | apply KeptN.next | refine Kept.ite (fun _ => ?_) (fun _ => ?_) | apply Kept.setReg | apply Kept.tickTo
      | apply State.runWake_kept | (rw [State.mk_built]; apply Kept.upd) | split

theorem State.wakeEvent_kept {mm : Bool} {sK : State} (s : State) (b : Nat) (hk : Kept mm sK s) : Kept mm sK (State.wakeEvent s b) := by
  unfold State.wakeEvent
  repeat' with_reducible first
      | assumption | refine Kept.ite (fun _ => ?_) (fun _ => ?_) | apply Kept.setReg | apply State.setFlag_kept | apply State.ledAdd_kept
      | apply State.abortEntry_kept | apply State.startProgram_kept

theorem State.takeWakes_kept {mm : Bool} {sK : State} (s : State) (hk : Kept mm sK s) : Kept mm sK (State.takeWakes s) := by
  unfold State.takeWakes
  repeat' with_reducible first
      | assumption | refine Kept.ite (fun _ => ?_) (fun _ => ?_) | refine Kept.foldl _ (fun _ _ _ => ?_) _ _ ?_
      | apply State.wakeEvent_kept | (rw [State.mk_built]; apply Kept.upd)

theorem execWakeEvent_kept {mm : Bool} (t : Nat) (s : State) : KeptN mm s (execWakeEvent t s) := by
  unfold execWakeEvent
  repeat' with_reducible first | exact Kept.refl _ | apply KeptN.next | apply Kept.tickTo | apply State.takeWakes_kept

theorem ownWakeRequest_kept {mm : Bool} {sK : State} (vO : Nat) (sO : State) (hk : Kept mm sK sO) : Kept mm sK (ownWakeRequest vO sO).2 := by
  unfold ownWakeRequest
  repeat' with_reducible first | assumption | apply command_kept | apply State.wakeAt_kept | dsimp only | intro _

theorem execWakeRequest_kept {mm : Bool} (t : Nat) (r : Requester) (v : Bool) (s : State) : KeptN mm s (execWakeRequest t r v s) := by
  unfold execWakeRequest
  repeat' with_reducible first
      | exact Kept.refl _ | apply KeptN.next | apply Kept.tickTo | apply State.writeObj_kept | apply ownWakeRequest_kept

theorem execCommit_kept {mm : Bool} (t : Nat) (s : State) : KeptN mm s (execCommit t s) := by
  unfold execCommit
  repeat' with_reducible first
      | exact Kept.refl _ | apply KeptN.next | apply Kept.tickTo | apply State.takeWakes_kept | apply State.stepDone_kept
      | (rw [State.mk_built]; apply Kept.upd) | split

theorem ownSleepArm_kept {mm : Bool} {sK : State} (vO : Nat) (sO : State) (hk : Kept mm sK sO) : Kept mm sK (ownSleepArm vO sO).2 := by
  unfold ownSleepArm
  repeat' with_reducible first | assumption | apply arming_kept | apply State.armAction_kept | exact id | split | intro _

theorem execSleepArm_kept {mm : Bool} (t : Nat) (r : Requester) (v : Bool) (s : State) : KeptN mm s (execSleepArm t r v s) := by
  unfold execSleepArm
  repeat' with_reducible first
      | exact Kept.refl _ | apply KeptN.next | apply Kept.tickTo | apply State.writeObj_kept | apply ownSleepArm_kept

theorem ownSleepCancel_kept {mm : Bool} {sK : State} (vO : Nat) (sO : State) (hk : Kept mm sK sO) : Kept mm sK (ownSleepCancel vO sO).2 := by
  unfold ownSleepCancel
  repeat' with_reducible first | assumption | apply command_kept | apply State.cancelAction_kept | intro _

theorem execSleepCancel_kept {mm : Bool} (t : Nat) (r : Requester) (v : Bool) (s : State) : KeptN mm s (execSleepCancel t r v s) := by
  unfold execSleepCancel
  repeat' with_reducible first
      | exact Kept.refl _ | apply KeptN.next | apply Kept.tickTo | apply State.writeObj_kept | apply ownSleepCancel_kept

theorem execSleepEntry_kept {mm : Bool} (t : Nat) (s : State) : KeptN mm s (execSleepEntry t s) := by
  unfold execSleepEntry
  repeat' with_reducible first
      | exact Kept.refl _ | apply KeptN.next | refine Kept.ite (fun _ => ?_) (fun _ => ?_) | apply Kept.setReg | apply Kept.tickTo
      | apply State.endAction_kept | apply State.startProgram_kept | split

theorem ownRunUser_kept {mm : Bool} {sK : State} (vO : Nat) (sO : State) (hk : Kept mm sK sO) : Kept mm sK (ownRunUser vO sO).2 := by
  unfold ownRunUser
  repeat' with_reducible first | assumption | apply command_kept | apply State.startProgram_kept | exact id | split | intro _

theorem execRunUser_kept {mm : Bool} (t : Nat) (r : Requester) (v : Bool) (s : State) : KeptN mm s (execRunUser t r v s) := by
  unfold execRunUser
  repeat' with_reducible first
      | exact Kept.refl _ | apply KeptN.next | apply Kept.tickTo | apply State.writeObj_kept | apply ownRunUser_kept

theorem State.holdAll_kept {mm : Bool} {sK : State} (s : State) (cause : Nat) (on : Bool) (hk : Kept mm sK s) : Kept mm sK (State.holdAll s
    cause on) := by
  unfold State.holdAll
  repeat' with_reducible first
      | assumption | refine Kept.foldl _ (fun _ _ _ => ?_) _ _ ?_ | apply State.holdTrig_kept | apply State.holdPad_kept

theorem State.endRecovery_kept {mm : Bool} {sK : State} (s : State) (hk : Kept mm sK s) : Kept mm sK (State.endRecovery s) := by
  unfold State.endRecovery
  repeat' with_reducible first
      | assumption | refine Kept.ite (fun _ => ?_) (fun _ => ?_) | apply State.holdAll_kept | (rw [State.mk_built]; apply Kept.upd)

theorem execMarkerFrameSearch_kept {mm : Bool} (t : Nat) (falls : List (Option Nat)) (s : State) : KeptN mm s (execMarkerFrameSearch t falls
    s) := by
  unfold execMarkerFrameSearch
  repeat' with_reducible first
      | exact Kept.refl _ | apply KeptN.next | apply Kept.tickTo | apply State.markerEdges_kept | apply State.endRecovery_kept

theorem execMarkerFrameSlot_kept {mm : Bool} (t : Nat) (falls : List (Option Nat)) (s : State) : KeptN mm s (execMarkerFrameSlot t falls s) := by
  unfold execMarkerFrameSlot
  repeat' with_reducible first | exact Kept.refl _ | apply KeptN.next | apply Kept.tickTo | apply State.markerEdges_kept

theorem State.abortAction_kept {mm : Bool} {sK : State} (s : State) (key : Nat) (hk : Kept mm sK s) : Kept mm sK (State.abortAction s key) := by
  unfold State.abortAction
  repeat' with_reducible first
      | assumption | refine Kept.ite (fun _ => ?_) (fun _ => ?_) | refine Kept.foldl _ (fun _ _ _ => ?_) _ _ ?_ | apply Kept.setReg
      | apply State.ledMove_kept | apply State.bump_kept | apply State.switchDone_kept | apply State.settleBuffer_kept
      | (rw [State.mk_built]; apply Kept.upd) | split

theorem State.abortActions_kept {mm : Bool} {sK : State} (s : State) (hk : Kept mm sK s) : Kept mm sK (State.abortActions s) := by
  unfold State.abortActions
  repeat' with_reducible first
      | assumption | refine Kept.ite (fun _ => ?_) (fun _ => ?_) | refine Kept.foldl _ (fun _ _ _ => ?_) _ _ ?_
      | apply State.abortAction_kept | (rw [State.mk_built]; apply Kept.upd)

theorem State.loseTt_kept {mm : Bool} {sK : State} (s : State) (hk : Kept mm sK s) : Kept mm sK (State.loseTt s) := by
  unfold State.loseTt
  repeat' with_reducible first
      | assumption | apply Kept.setReg | apply State.ttGone_kept | apply State.ptpListen_kept | (rw [State.mk_built]; apply Kept.upd)

theorem State.lossNow_kept {mm : Bool} {sK : State} (s0 : State) (hk : Kept mm sK s0) : Kept mm sK (State.lossNow s0) := by
  unfold State.lossNow
  repeat' with_reducible first
      | assumption | refine Kept.ite (fun _ => ?_) (fun _ => ?_) | apply Kept.setReg | apply State.clocksNow_kept
      | apply State.wdKeep_kept | apply State.holdAll_kept | apply State.abortActions_kept | apply State.loseTt_kept
      | apply State.fault_kept | apply State.recovery_kept | apply State.setFlag_kept | apply State.abortEntry_kept
      | (rw [State.mk_built]; apply Kept.upd)

theorem State.loseClkref_kept {mm : Bool} {sK : State} (s : State) (hk : Kept mm sK s) : Kept mm sK (State.loseClkref s) := by
  unfold State.loseClkref
  repeat' with_reducible first | assumption | refine Kept.ite (fun _ => ?_) (fun _ => ?_) | apply Kept.setReg | apply State.lossNow_kept

theorem execClkrefGate_kept {mm : Bool} (t count : Nat) (s : State) : KeptN mm s (execClkrefGate t count s) := by
  unfold execClkrefGate
  repeat' with_reducible first
      | exact Kept.refl _ | apply KeptN.next | refine Kept.ite (fun _ => ?_) (fun _ => ?_) | apply Kept.setReg | apply Kept.tickTo
      | apply State.bump_kept | apply State.loseClkref_kept | (rw [State.mk_built]; apply Kept.upd)

theorem execMissingEdge_kept {mm : Bool} (t : Nat) (s : State) : KeptN mm s (execMissingEdge t s) := by
  unfold execMissingEdge
  repeat' with_reducible first
      | exact Kept.refl _ | apply KeptN.next | apply Kept.tickTo | apply State.bump_kept | apply State.loseClkref_kept
      | (rw [State.mk_built]; apply Kept.upd)

theorem State.discardPark_kept {mm : Bool} {sK : State} (s : State) (ch : Nat) (hk : Kept mm sK s) : Kept mm sK (State.discardPark s ch) := by
  unfold State.discardPark
  repeat' with_reducible first | assumption | apply State.bump_kept | apply State.forcePark_kept

theorem State.stopEngines_kept {mm : Bool} {sK : State} (s : State) (hk : Kept mm sK s) : Kept mm sK (State.stopEngines s) := by
  unfold State.stopEngines
  repeat' with_reducible first
      | assumption | refine Kept.ite (fun _ => ?_) (fun _ => ?_) | refine Kept.foldl _ (fun _ _ _ => ?_) _ _ ?_ | apply State.stopNow_kept

theorem State.cutTrain_kept {mm : Bool} {sK : State} (s : State) (u : Nat) (hk : Kept mm sK s) : Kept mm sK (State.cutTrain s u) := by
  unfold State.cutTrain
  repeat' with_reducible first | assumption | refine Kept.ite (fun _ => ?_) (fun _ => ?_) | apply Kept.setReg | apply State.setTrig_kept

theorem execClkrefLoss_kept (t : Nat) (s : State) : KeptN false s (execClkrefLoss t s) := by
  unfold execClkrefLoss
  repeat' with_reducible first
      | assumption | exact Kept.refl _ | apply KeptN.next | refine Kept.ite (fun _ => ?_) (fun _ => ?_)
      | refine Kept.foldl _ (fun _ _ _ => ?_) _ _ ?_ | apply Kept.setReg | apply Kept.tickTo | apply State.discardPark_kept
      | apply State.fabricNow_kept | apply State.stopEngines_kept | apply State.yardDown_kept | apply State.cutTrain_kept
      | apply State.mgtLink_kept | apply State.pagesDone_kept | apply State.setPll_kept | (rw [State.mk_built]; apply Kept.upd)

theorem State.resumeProgram_kept {mm : Bool} {sK : State} (s : State) (hk : Kept mm sK s) : Kept mm sK (State.resumeProgram s) := by
  unfold State.resumeProgram
  repeat' with_reducible first | assumption | apply State.setCfg_kept

theorem execClkrefStable_kept {mm : Bool} (t : Nat) (s : State) : KeptN mm s (execClkrefStable t s) := by
  unfold execClkrefStable
  repeat' with_reducible first
      | exact Kept.refl _ | apply KeptN.next | refine Kept.ite (fun _ => ?_) (fun _ => ?_) | apply Kept.setReg | apply Kept.tickTo
      | apply State.resumeProgram_kept

theorem execPllLock_kept {mm : Bool} (t : Nat) (n : Fin 51) (s : State) : KeptN mm s (execPllLock t n s) := by
  unfold execPllLock
  repeat' with_reducible first
      | exact Kept.refl _ | apply KeptN.next | refine Kept.ite (fun _ => ?_) (fun _ => ?_) | apply Kept.tickTo
      | apply State.resumeProgram_kept | apply State.clocksNow_kept | apply State.setPll_kept

theorem State.shiftLimits_kept {mm : Bool} {sK : State} (s : State) (d : Nat) (hk : Kept mm sK s) : Kept mm sK (State.shiftLimits s d) := by
  unfold State.shiftLimits
  repeat' with_reducible first | assumption | (rw [State.mk_built]; apply Kept.upd)

theorem execClkrefRecovery_kept {mm : Bool} (t : Nat) (s : State) : KeptN mm s (execClkrefRecovery t s) := by
  unfold execClkrefRecovery
  repeat' with_reducible first
      | exact Kept.refl _ | apply KeptN.next | refine Kept.ite (fun _ => ?_) (fun _ => ?_) | apply Kept.setReg | apply Kept.tickTo
      | apply State.clocksNow_kept | apply State.recovery_kept | apply State.shiftLimits_kept | apply State.wdReload_kept
      | apply State.endRecovery_kept | (rw [State.mk_built]; apply Kept.upd)

theorem ownPadRelease_kept {mm : Bool} {sK : State} (vO : Nat) (sO : State) (hk : Kept mm sK sO) : Kept mm sK (ownPadRelease vO sO).2 := by
  unfold ownPadRelease
  repeat' with_reducible first
      | assumption | refine Kept.ite (fun _ => ?_) (fun _ => ?_) | refine Kept.foldl _ (fun _ _ _ => ?_) _ _ ?_ | apply command_kept
      | apply State.holdPad_kept | apply State.holdAll_kept | exact id | split | dsimp only | intro _

theorem execPadRelease_kept {mm : Bool} (t : Nat) (r : Requester) (v : Bool) (s : State) : KeptN mm s (execPadRelease t r v s) := by
  unfold execPadRelease
  repeat' with_reducible first
      | exact Kept.refl _ | apply KeptN.next | apply Kept.tickTo | apply State.writeObj_kept | apply ownPadRelease_kept

theorem execPllUnlock_kept {mm : Bool} (t : Nat) (n : Fin 51) (s : State) : KeptN mm s (execPllUnlock t n s) := by
  unfold execPllUnlock
  repeat' with_reducible first
      | assumption | exact Kept.refl _ | apply KeptN.next | refine Kept.ite (fun _ => ?_) (fun _ => ?_)
      | refine Kept.foldl _ (fun _ _ _ => ?_) _ _ ?_ | apply Kept.setReg | apply Kept.tickTo | apply State.clocksNow_kept
      | apply State.setPll_kept | apply State.setFlag_kept | apply State.lossNow_kept | apply State.holdPad_kept
      | apply State.invalidate_kept | apply State.discardPark_kept | apply State.yardDown_kept | apply State.mgtLink_kept
      | (rw [State.mk_built]; apply Kept.upd)

theorem ownClkEnable_kept {mm : Bool} {sK : State} (imgO : List Byte) (ttO : Nat) (sO : State) (hk : Kept mm sK sO) : Kept mm sK
    (ownClkEnable imgO ttO sO).2 := by
  unfold ownClkEnable
  repeat' with_reducible first
      | assumption | apply Kept.setImage | apply unscheduled_kept | apply State.bump_kept | apply State.fabricNow_kept | split
      | dsimp only | intro _

theorem execClkEnable_kept {mm : Bool} (t : Nat) (r : Requester) (crc tt : Nat) (s : State) : KeptN mm s (execClkEnable t r crc tt s) := by
  unfold execClkEnable
  repeat' with_reducible first
      | exact Kept.refl _ | apply KeptN.next | apply Kept.tickTo | apply State.commitObj_kept | apply ownClkEnable_kept

theorem State.switchTo_kept {mm : Bool} {sK : State} (s : State) (ready : Bool) (o v : Nat) (hk : Kept mm sK s) : Kept mm sK (State.switchTo
    s ready o v).2 := by
  unfold State.switchTo
  repeat' with_reducible first
      | assumption | apply Kept.setReg | refine Kept.ite_snd (fun _ => ?_) (fun _ => ?_) | apply State.fabricNow_kept
      | apply State.bump_kept

theorem ownGclkSrc_kept {mm : Bool} {sK : State} (g : Nat) (vO : Nat) (sO : State) (hk : Kept mm sK sO) : Kept mm sK (ownGclkSrc g vO sO).2 := by
  unfold ownGclkSrc
  repeat' with_reducible first | assumption | apply State.switchTo_kept

theorem ownRclkSrc_kept {mm : Bool} {sK : State} (p : Nat) (vO : Nat) (sO : State) (hk : Kept mm sK sO) : Kept mm sK (ownRclkSrc p vO sO).2 := by
  unfold ownRclkSrc
  repeat' with_reducible first | assumption | apply State.switchTo_kept

theorem ownRclkDiv_kept {mm : Bool} {sK : State} (p : Nat) (vO : Nat) (sO : State) (hk : Kept mm sK sO) : Kept mm sK (ownRclkDiv p vO sO).2 := by
  unfold ownRclkDiv
  repeat' with_reducible first | assumption | apply State.switchTo_kept

theorem execSrc_kept {mm : Bool} (t : Nat) (r : Requester) (w : ClockSet) (v : Nat) (s : State) : KeptN mm s (execSrc t r w v s) := by
  unfold execSrc
  repeat' with_reducible first
      | exact Kept.refl _ | apply KeptN.next | apply Kept.tickTo | apply State.writeObj_kept | apply ownGclkSrc_kept
      | apply ownRclkSrc_kept | apply ownRclkDiv_kept | split

theorem ownFpll_kept {mm : Bool} {sK : State} (f : Nat) (divider : Bool) (vO : Nat) (sO : State) (hk : Kept mm sK sO) : Kept mm sK (ownFpll
    f divider vO sO).2 := by
  unfold ownFpll
  repeat' with_reducible first
      | assumption | apply Kept.setReg | refine Kept.ite_snd (fun _ => ?_) (fun _ => ?_) | apply State.setPll_kept

theorem execFpllSetting_kept {mm : Bool} (t : Nat) (r : Requester) (f : Fin 4) (divider : Bool) (v : Nat) (s : State) : KeptN mm s
    (execFpllSetting t r f divider v s) := by
  unfold execFpllSetting
  repeat' with_reducible first | exact Kept.refl _ | apply KeptN.next | apply Kept.tickTo | apply State.writeObj_kept | apply ownFpll_kept

theorem State.startDone_kept {mm : Bool} {sK : State} (s : State) (hk : Kept mm sK s) : Kept mm sK (State.startDone s) := by
  unfold State.startDone
  repeat' with_reducible first | assumption | apply Kept.setReg | apply State.setCfg_kept

theorem State.release_kept {mm : Bool} {sK : State} (s : State) (mask : Nat) (hk : Kept mm sK s) : Kept mm sK (State.release s mask) := by
  unfold State.release
  repeat' with_reducible first | assumption | apply Kept.setReg

theorem execWaitLock_kept {mm : Bool} (t : Nat) (s : State) : KeptN mm s (execWaitLock t s) := by
  unfold execWaitLock
  repeat' with_reducible first
      | exact Kept.refl _ | apply KeptN.next | refine Kept.ite (fun _ => ?_) (fun _ => ?_) | apply Kept.tickTo
      | apply State.startDone_kept | split

theorem execWaitLockTimeout_kept {mm : Bool} (t : Nat) (s : State) : KeptN mm s (execWaitLockTimeout t s) := by
  unfold execWaitLockTimeout
  repeat' with_reducible first
      | exact Kept.refl _ | apply KeptN.next | refine Kept.ite (fun _ => ?_) (fun _ => ?_) | apply Kept.setReg | apply Kept.tickTo
      | apply State.setCfg_kept | split

theorem execWaitTime_kept {mm : Bool} (t : Nat) (s : State) : KeptN mm s (execWaitTime t s) := by
  unfold execWaitTime
  repeat' with_reducible first
      | exact Kept.refl _ | apply KeptN.next | refine Kept.ite (fun _ => ?_) (fun _ => ?_) | apply Kept.tickTo
      | apply State.startDone_kept | split

theorem execReleaseGsr_kept {mm : Bool} (t : Nat) (s : State) : KeptN mm s (execReleaseGsr t s) := by
  unfold execReleaseGsr
  repeat' with_reducible first
      | exact Kept.refl _ | apply KeptN.next | apply Kept.tickTo | apply State.fabricNow_kept | apply State.release_kept
      | apply State.startDone_kept | split

theorem execEnableWrites_kept {mm : Bool} (t : Nat) (s : State) : KeptN mm s (execEnableWrites t s) := by
  unfold execEnableWrites
  repeat' with_reducible first
      | exact Kept.refl _ | apply KeptN.next | apply Kept.tickTo | apply State.release_kept | apply State.startDone_kept | split

theorem execReleaseGpio_kept {mm : Bool} (t : Nat) (s : State) : KeptN mm s (execReleaseGpio t s) := by
  unfold execReleaseGpio
  repeat' with_reducible first
      | exact Kept.refl _ | apply KeptN.next | apply Kept.tickTo | apply State.release_kept | apply State.startDone_kept | split

theorem execReleaseOutputs_kept {mm : Bool} (t : Nat) (s : State) : KeptN mm s (execReleaseOutputs t s) := by
  unfold execReleaseOutputs
  repeat' with_reducible first
      | assumption | exact Kept.refl _ | apply KeptN.next | refine Kept.ite (fun _ => ?_) (fun _ => ?_)
      | refine Kept.foldl _ (fun _ _ _ => ?_) _ _ ?_ | apply Kept.tickTo | apply State.holdPad_kept | apply State.holdTrig_kept
      | apply State.release_kept | apply State.startDone_kept | split

theorem State.startMc_kept {mm : Bool} {sK : State} (s : State) (c : Ctl) (hk : Kept mm sK s) : Kept mm sK (State.startMc s c) := by
  unfold State.startMc
  repeat' with_reducible first | assumption | apply Kept.setImage | apply State.release_kept | apply State.bootMc_kept

theorem execStartMc_kept {mm : Bool} (t : Nat) (s : State) : KeptN mm s (execStartMc t s) := by
  unfold execStartMc
  repeat' with_reducible first
      | exact Kept.refl _ | apply KeptN.next | refine Kept.ite (fun _ => ?_) (fun _ => ?_) | apply Kept.tickTo | apply State.countMc_kept
      | apply State.startMc_kept | apply State.startDone_kept | split

theorem execDoneStep_kept {mm : Bool} (t : Nat) (s : State) : KeptN mm s (execDoneStep t s) := by
  unfold execDoneStep
  repeat' with_reducible first
      | exact Kept.refl _ | apply KeptN.next | apply Kept.tickTo | apply State.release_kept | apply State.startDone_kept
      | (rw [State.mk_built]; apply Kept.upd) | split

theorem execEndStep_kept {mm : Bool} (t : Nat) (s : State) : KeptN mm s (execEndStep t s) := by
  unfold execEndStep
  repeat' with_reducible first | exact Kept.refl _ | apply KeptN.next | apply Kept.setReg | apply Kept.tickTo | split

theorem State.portHalt_kept {mm : Bool} {sK : State} (s : State) (hk : Kept mm sK s) : Kept mm sK (State.portHalt s) := by
  unfold State.portHalt
  repeat' with_reducible first | assumption | refine Kept.ite (fun _ => ?_) (fun _ => ?_) | apply Kept.setReg | apply State.setCfg_kept

theorem State.resetDevice_kept {sK : State} (s : State) (por : Bool) (cause mode : Nat) (hk : Kept false sK s) : Kept false sK
    (State.resetDevice s por cause mode) := by
  unfold State.resetDevice
  extract_lets s1 s2
  have h1 : Kept false sK s1 := hk.memOf rfl (Nat.le_refl _) (by
      dsimp only [s1]
      split
      · exact fun _ => rfl
      · exact id) (fun _ => rfl) (fun _ => rfl) (fun _ => rfl) (fun _ => rfl) (fun _ => rfl)
    (fun h => Tbl.filter_wf _ _ _ h)
  have h2 : Kept false sK s2 := State.portHalt_kept _ ((((h1.setReg _ _).setReg _ _).setReg _ _).setReg _ _)
  clear_value s2
  exact Kept.ite (fun _ => h2) (fun _ => ((h2.setReg _ _).setReg _ _).setReg _ _)

theorem State.keyFails_kept {mm : Bool} {sK : State} (s : State) (k : Nat) (hk : Kept mm sK s) : Kept mm sK (State.keyFails s k) := by
  unfold State.keyFails
  repeat' with_reducible first | assumption | apply Kept.setReg | apply Kept.setImage | apply State.fault_kept

theorem execPowerOnReset_kept (t : Nat) (mode : Fin 4) (bad : List (Fin 5)) (s : State) : KeptN false s (execPowerOnReset t mode bad s) := by
  unfold execPowerOnReset
  repeat' with_reducible first
      | assumption | exact Kept.refl _ | apply KeptN.next | refine Kept.ite (fun _ => ?_) (fun _ => ?_)
      | refine Kept.foldl _ (fun _ _ _ => ?_) _ _ ?_ | apply Kept.tickTo | apply State.keyFails_kept | apply State.resetDevice_kept

theorem State.abandonFrame_kept {mm : Bool} {sK : State} (s : State) (hk : Kept mm sK s) : Kept mm sK (State.abandonFrame s) := by
  unfold State.abandonFrame
  repeat' with_reducible first | assumption | (rw [State.mk_built]; apply Kept.upd)

theorem State.lineError_kept {mm : Bool} {sK : State} (s : State) (hk : Kept mm sK s) : Kept mm sK (State.lineError s) := by
  unfold State.lineError
  repeat' with_reducible first | assumption | apply State.abandonFrame_kept | apply State.bump_kept

theorem State.pinReset_kept {sK : State} (s : State) (cause mode : Nat) (bad : List (Fin 5)) (hk : Kept false sK s) : Kept false sK
    (State.pinReset s cause mode bad) := by
  unfold State.pinReset
  repeat' with_reducible first
      | assumption | refine Kept.foldl _ (fun _ _ _ => ?_) _ _ ?_ | apply State.keyFails_kept | apply State.resetDevice_kept

theorem execPinReset_kept (t width : Nat) (mode : Fin 4) (bad : List (Fin 5)) (s : State) : KeptN false s (execPinReset t width mode bad s) := by
  unfold execPinReset
  repeat' with_reducible first
      | exact Kept.refl _ | apply KeptN.next | refine Kept.ite (fun _ => ?_) (fun _ => ?_) | apply Kept.tickTo
      | apply State.lineError_kept | apply State.pinReset_kept | apply State.drawBool_kept | split

theorem execSupplyOutOfRange_kept {mm : Bool} (t : Nat) (rail : Fin 8) (s : State) : KeptN mm s (execSupplyOutOfRange t rail s) := by
  unfold execSupplyOutOfRange
  repeat' with_reducible first
      | exact Kept.refl _ | apply KeptN.next | refine Kept.ite (fun _ => ?_) (fun _ => ?_) | apply Kept.setReg | apply Kept.tickTo
      | apply State.setFlag_kept

theorem execSupplyInRange_kept {mm : Bool} (t : Nat) (rail : Fin 8) (s : State) : KeptN mm s (execSupplyInRange t rail s) := by
  unfold execSupplyInRange
  repeat' with_reducible first
      | exact Kept.refl _ | apply KeptN.next | refine Kept.ite (fun _ => ?_) (fun _ => ?_) | apply Kept.setReg | apply Kept.tickTo

theorem execSupplyBelowThreshold_kept (t : Nat) (rail : Fin 8) (s : State) : KeptN false s (execSupplyBelowThreshold t rail s) := by
  unfold execSupplyBelowThreshold
  repeat' with_reducible first
      | exact Kept.refl _ | apply KeptN.next | refine Kept.ite (fun _ => ?_) (fun _ => ?_) | apply Kept.tickTo
      | apply State.resetDevice_kept | (rw [State.mk_built]; apply Kept.upd)

theorem execVddqLow_kept {mm : Bool} (t : Nat) (s : State) : KeptN mm s (execVddqLow t s) := by
  unfold execVddqLow
  repeat' with_reducible first
      | assumption | exact Kept.refl _ | apply KeptN.next | refine Kept.ite (fun _ => ?_) (fun _ => ?_)
      | refine Kept.foldl _ (fun _ _ _ => ?_) _ _ ?_ | apply Kept.setReg | apply Kept.tickTo | apply State.noteStep1_kept

theorem execTempRefresh_kept {mm : Bool} (t : Nat) (sensors : List Int) (sense : List Nat) (s : State) : KeptN mm s (execTempRefresh t
    sensors sense s) := by
  unfold execTempRefresh
  repeat' with_reducible first
      | exact Kept.refl _ | apply KeptN.next | refine Kept.ite (fun _ => ?_) (fun _ => ?_) | apply Kept.setReg | apply Kept.setImage
      | apply Kept.tickTo | apply State.fault_kept | (rw [State.mk_built]; apply Kept.upd)

theorem execThermalTrip_kept {mm : Bool} (t : Nat) (s : State) : KeptN mm s (execThermalTrip t s) := by
  unfold execThermalTrip
  repeat' with_reducible first
      | assumption | exact Kept.refl _ | apply KeptN.next | refine Kept.ite (fun _ => ?_) (fun _ => ?_)
      | refine Kept.foldl _ (fun _ _ _ => ?_) _ _ ?_ | apply Kept.tickTo | apply State.forcePark_kept | apply State.holdAll_kept
      | apply State.stopEngines_kept | apply State.setFlag_kept | apply State.fault_kept | apply State.recovery_kept
      | (rw [State.mk_built]; apply Kept.upd)

theorem ownThermRelease_kept {mm : Bool} {sK : State} (vO : Nat) (sO : State) (hk : Kept mm sK sO) : Kept mm sK (ownThermRelease vO sO).2 := by
  unfold ownThermRelease
  repeat' with_reducible first
      | assumption | apply command_kept | apply State.holdAll_kept | apply State.recovery_kept | (rw [State.mk_built]; apply Kept.upd)
      | exact id | split | dsimp only | intro _

theorem execThermRelease_kept {mm : Bool} (t : Nat) (r : Requester) (v : Bool) (s : State) : KeptN mm s (execThermRelease t r v s) := by
  unfold execThermRelease
  repeat' with_reducible first
      | exact Kept.refl _ | apply KeptN.next | apply Kept.tickTo | apply State.writeObj_kept | apply ownThermRelease_kept

theorem State.drawChallenge_kept {mm : Bool} {sK : State} (s : State) (hk : Kept mm sK s) : Kept mm sK (State.drawChallenge s) := by
  unfold State.drawChallenge
  repeat' with_reducible first
      | assumption | apply Kept.setImage | apply State.drawBytes_kept | (rw [State.mk_built]; apply Kept.upd)
      | refine Kept.of_eq2 (by assumption) ?_ | split

theorem ownResponse_kept {mm : Bool} {sK : State} (imgO : List Byte) (ttO : Nat) (sO : State) (hk : Kept mm sK sO) : Kept mm sK (ownResponse
    imgO ttO sO).2 := by
  unfold ownResponse
  repeat' with_reducible first
      | assumption | apply Kept.setReg | apply unscheduled_kept | apply State.bump_kept | (rw [State.mk_built]; apply Kept.upd) | split
      | dsimp only | intro _

theorem execResponseWrite_kept {mm : Bool} (t : Nat) (r : Requester) (crc tt : Nat) (s : State) : KeptN mm s (execResponseWrite t r crc tt
    s) := by
  unfold execResponseWrite
  repeat' with_reducible first
      | exact Kept.refl _ | apply KeptN.next | apply Kept.tickTo | apply State.commitObj_kept | apply ownResponse_kept

theorem ownDebugLock_kept {mm : Bool} {sK : State} (vO : Nat) (sO : State) (hk : Kept mm sK sO) : Kept mm sK (ownDebugLock vO sO).2 := by
  unfold ownDebugLock
  repeat' with_reducible first | assumption | apply Kept.setReg | apply command_kept | dsimp only | intro _

theorem execDebugLock_kept {mm : Bool} (t : Nat) (r : Requester) (v : Bool) (s : State) : KeptN mm s (execDebugLock t r v s) := by
  unfold execDebugLock
  repeat' with_reducible first
      | exact Kept.refl _ | apply KeptN.next | apply Kept.tickTo | apply State.writeObj_kept | apply ownDebugLock_kept

theorem State.haltArises_kept {mm : Bool} {sK : State} (s : State) (x : Ctl) (cause : Nat) (hk : Kept mm sK s) : Kept mm sK
    (State.haltArises s x cause) := by
  unfold State.haltArises
  repeat' with_reducible first | assumption | apply State.setCtl_kept

theorem ownHaltReq_kept {mm : Bool} {sK : State} (x : Ctl) (vO : Nat) (sO : State) (hk : Kept mm sK sO) : Kept mm sK (ownHaltReq x vO sO).2 := by
  unfold ownHaltReq
  repeat' with_reducible first
      | assumption | apply Kept.setReg | apply command_kept | apply State.haltArises_kept | exact id | split | dsimp only | intro _

theorem execHaltReq_kept {mm : Bool} (t : Nat) (r : Requester) (x : Ctl) (v : Bool) (s : State) : KeptN mm s (execHaltReq t r x v s) := by
  unfold execHaltReq
  repeat' with_reducible first
      | exact Kept.refl _ | apply KeptN.next | apply Kept.tickTo | apply State.writeObj_kept | apply ownHaltReq_kept

theorem State.sessionsWaited_kept {mm : Bool} {sK : State} (s : State) (x : Ctl) (d : Nat) (hk : Kept mm sK s) : Kept mm sK
    (State.sessionsWaited s x d) := by
  unfold State.sessionsWaited
  repeat' with_reducible first
      | assumption | refine Kept.ite (fun _ => ?_) (fun _ => ?_) | refine Kept.foldl _ (fun _ _ _ => ?_) _ _ ?_
      | apply State.setSession_kept

theorem ownResume_kept {mm : Bool} {sK : State} (x : Ctl) (vO : Nat) (sO : State) (hk : Kept mm sK sO) : Kept mm sK (ownResume x vO sO).2 := by
  unfold ownResume
  repeat' with_reducible first
      | assumption | apply Kept.setReg | apply command_kept | apply State.sessionsWaited_kept | apply State.setCtl_kept
      | apply State.wdReload_kept | apply State.raise_kept | apply State.trace_kept | exact id | split | dsimp only | intro _

theorem execResume_kept {mm : Bool} (t : Nat) (r : Requester) (x : Ctl) (v : Bool) (s : State) : KeptN mm s (execResume t r x v s) := by
  unfold execResume
  repeat' with_reducible first
      | exact Kept.refl _ | apply KeptN.next | apply Kept.tickTo | apply State.writeObj_kept | apply ownResume_kept

theorem ownStep_kept {mm : Bool} {sK : State} (x : Ctl) (vO : Nat) (sO : State) (hk : Kept mm sK sO) : Kept mm sK (ownStep x vO sO).2 := by
  unfold ownStep
  repeat' with_reducible first
      | assumption | apply command_kept | apply State.setCtl_kept | apply State.haltArises_kept | exact id | split | dsimp only | intro _

theorem execStep_kept {mm : Bool} (t : Nat) (r : Requester) (x : Ctl) (v : Bool) (s : State) : KeptN mm s (execStep t r x v s) := by
  unfold execStep
  repeat' with_reducible first | exact Kept.refl _ | apply KeptN.next | apply Kept.tickTo | apply State.writeObj_kept | apply ownStep_kept

theorem State.haltNow_kept {mm : Bool} {sK : State} (s : State) (x : Ctl) (cause dpc : Nat) (gpr : List Byte) (hk : Kept mm sK s) : Kept mm
    sK (State.haltNow s x cause dpc gpr) := by
  unfold State.haltNow
  repeat' with_reducible first
      | assumption | refine Kept.ite (fun _ => ?_) (fun _ => ?_) | apply Kept.setReg | apply Kept.setImage | apply State.wdKeep_kept
      | apply State.setCtl_kept | apply State.raise_kept | apply State.trace_kept

theorem execControllerHalt_kept {mm : Bool} (t : Nat) (x : Ctl) (dpc : Nat) (gpr : List Byte) (s : State) : KeptN mm s (execControllerHalt t
    x dpc gpr s) := by
  unfold execControllerHalt
  repeat' with_reducible first | exact Kept.refl _ | apply KeptN.next | apply Kept.tickTo | apply State.haltNow_kept | split

theorem execLockedSequenceLimit_kept {mm : Bool} (t : Nat) (x : Ctl) (dpc : Nat) (gpr : List Byte) (s : State) : KeptN mm s
    (execLockedSequenceLimit t x dpc gpr s) := by
  unfold execLockedSequenceLimit
  repeat' with_reducible first
      | exact Kept.refl _ | apply KeptN.next | refine Kept.ite (fun _ => ?_) (fun _ => ?_) | apply Kept.tickTo | apply State.haltNow_kept
      | split

theorem State.mcHit_kept {mm : Bool} {sK : State} (s : State) (x : Ctl) (k : Nat) (hk : Kept mm sK s) : Kept mm sK (State.mcHit s x k) := by
  unfold State.mcHit
  repeat' with_reducible first | assumption | apply Kept.setImage

theorem State.mcMatch_kept {mm : Bool} {sK : State} (s : State) (x : Ctl) (k : Nat) (hk : Kept mm sK s) : Kept mm sK (State.mcMatch s x k) := by
  unfold State.mcMatch
  repeat' with_reducible first | assumption | apply State.mcHit_kept | apply State.trace_kept | apply State.stopTrace_kept | split

theorem execComparatorMatch_kept {mm : Bool} (t : Nat) (x : Ctl) (how : McAccess) (addr : Nat) (first : Bool) (s : State) : KeptN mm s
    (execComparatorMatch t x how addr first s) := by
  unfold execComparatorMatch
  repeat' with_reducible first
      | assumption | exact Kept.refl _ | apply KeptN.next | refine Kept.ite (fun _ => ?_) (fun _ => ?_)
      | refine Kept.foldl _ (fun _ _ _ => ?_) _ _ ?_ | apply Kept.setReg | apply Kept.tickTo | apply State.mcMatch_kept
      | apply State.haltArises_kept

theorem ownComp_kept {mm : Bool} {sK : State} (x : Ctl) (imgO : List Byte) (ttO : Nat) (sO : State) (hk : Kept mm sK sO) : Kept mm sK
    (ownComp x imgO ttO sO).2 := by
  unfold ownComp
  repeat' with_reducible first | assumption | apply Kept.setImage | apply unscheduled_kept | exact id | split | dsimp only | intro _

theorem ownGpr_kept {mm : Bool} {sK : State} (x : Ctl) (imgO : List Byte) (ttO : Nat) (sO : State) (hk : Kept mm sK sO) : Kept mm sK (ownGpr
    x imgO ttO sO).2 := by
  unfold ownGpr
  repeat' with_reducible first | assumption | apply Kept.setImage | apply unscheduled_kept | exact id | split | dsimp only | intro _

theorem ownDpc_kept {mm : Bool} {sK : State} (x : Ctl) (vO : Nat) (sO : State) (hk : Kept mm sK sO) : Kept mm sK (ownDpc x vO sO).2 := by
  unfold ownDpc
  repeat' with_reducible first | assumption | apply storeIf_kept

theorem ownKick_kept {mm : Bool} {sK : State} (x : Ctl) (vO : Nat) (sO : State) (hk : Kept mm sK sO) : Kept mm sK (ownKick x vO sO).2 := by
  unfold ownKick
  repeat' with_reducible first
      | assumption | refine Kept.ite_snd (fun _ => ?_) (fun _ => ?_) | apply State.wdReload_kept | apply State.bump_kept

theorem execKick_kept {mm : Bool} (t : Nat) (r : Requester) (x : Ctl) (v : Nat) (s : State) : KeptN mm s (execKick t r x v s) := by
  unfold execKick
  repeat' with_reducible first | exact Kept.refl _ | apply KeptN.next | apply Kept.tickTo | apply State.writeObj_kept | apply ownKick_kept

theorem ownWdEnable_kept {mm : Bool} {sK : State} (x : Ctl) (vO : Nat) (sO : State) (hk : Kept mm sK sO) : Kept mm sK (ownWdEnable x vO
    sO).2 := by
  unfold ownWdEnable
  repeat' with_reducible first
      | assumption | apply Kept.setReg | refine Kept.ite_snd (fun _ => ?_) (fun _ => ?_) | apply State.wdReload_kept

theorem execWatchdogEnable_kept {mm : Bool} (t : Nat) (r : Requester) (x : Ctl) (v : Bool) (s : State) : KeptN mm s (execWatchdogEnable t r
    x v s) := by
  unfold execWatchdogEnable
  repeat' with_reducible first
      | exact Kept.refl _ | apply KeptN.next | apply Kept.tickTo | apply State.writeObj_kept | apply ownWdEnable_kept

theorem ownWdTimeout_kept {mm : Bool} {sK : State} (x : Ctl) (vO : Nat) (sO : State) (hk : Kept mm sK sO) : Kept mm sK (ownWdTimeout x vO
    sO).2 := by
  unfold ownWdTimeout
  repeat' with_reducible first | assumption | apply storeIf_kept

theorem ownWdPre_kept {mm : Bool} {sK : State} (x : Ctl) (vO : Nat) (sO : State) (hk : Kept mm sK sO) : Kept mm sK (ownWdPre x vO sO).2 := by
  unfold ownWdPre
  repeat' with_reducible first | assumption | apply Kept.setReg | refine Kept.ite_snd (fun _ => ?_) (fun _ => ?_)

theorem execPretimeout_kept {mm : Bool} (t : Nat) (x : Ctl) (s : State) : KeptN mm s (execPretimeout t x s) := by
  unfold execPretimeout
  repeat' with_reducible first
      | exact Kept.refl _ | apply KeptN.next | refine Kept.ite (fun _ => ?_) (fun _ => ?_) | apply Kept.tickTo | apply State.setCtl_kept
      | apply State.raise_kept | apply State.trace_kept

theorem execWatchdogExpiry_kept {mm : Bool} (t : Nat) (x : Ctl) (s : State) : KeptN mm s (execWatchdogExpiry t x s) := by
  unfold execWatchdogExpiry
  repeat' with_reducible first
      | exact Kept.refl _ | apply KeptN.next | refine Kept.ite (fun _ => ?_) (fun _ => ?_) | apply Kept.tickTo | apply State.setFlag_kept
      | apply State.trace_kept | apply State.beginReset_kept

theorem ownEngHalt_kept {mm : Bool} {sK : State} (vO : Nat) (sO : State) (hk : Kept mm sK sO) : Kept mm sK (ownEngHalt vO sO).2 := by
  unfold ownEngHalt
  repeat' with_reducible first
      | assumption | refine Kept.ite_snd (fun _ => ?_) (fun _ => ?_) | apply State.haltPump_kept | apply State.dspPump_kept
      | apply State.setEngine_kept | apply State.haltGang_kept

theorem execEngHalt_kept {mm : Bool} (t : Nat) (r : Requester) (v : Nat) (s : State) : KeptN mm s (execEngHalt t r v s) := by
  unfold execEngHalt
  repeat' with_reducible first
      | exact Kept.refl _ | apply KeptN.next | apply Kept.tickTo | apply State.writeObj_kept | apply ownEngHalt_kept

theorem State.resumeEngine_kept {mm : Bool} {sK : State} (s : State) (e wc : Nat) (step : Bool) (hk : Kept mm sK s) : Kept mm sK
    (State.resumeEngine s e wc step) := by
  unfold State.resumeEngine
  repeat' with_reducible first | assumption | apply Kept.setReg | apply State.setEngine_kept | apply State.engineTrace_kept

theorem ownEngGo_kept {mm : Bool} {sK : State} (step : Bool) (vO : Nat) (sO : State) (hk : Kept mm sK sO) : Kept mm sK (ownEngGo step vO
    sO).2 := by
  unfold ownEngGo
  repeat' with_reducible first
      | assumption | refine Kept.foldl _ (fun _ _ _ => ?_) _ _ ?_ | refine Kept.ite_snd (fun _ => ?_) (fun _ => ?_)
      | apply State.resumeEngine_kept

theorem execEngResume_kept {mm : Bool} (t : Nat) (r : Requester) (v : Nat) (s : State) : KeptN mm s (execEngResume t r v s) := by
  unfold execEngResume
  repeat' with_reducible first
      | exact Kept.refl _ | apply KeptN.next | apply Kept.tickTo | apply State.writeObj_kept | apply ownEngGo_kept

theorem execEngStep_kept {mm : Bool} (t : Nat) (r : Requester) (v : Nat) (s : State) : KeptN mm s (execEngStep t r v s) := by
  unfold execEngStep
  repeat' with_reducible first
      | exact Kept.refl _ | apply KeptN.next | apply Kept.tickTo | apply State.writeObj_kept | apply ownEngGo_kept

theorem ownEngComp_kept {mm : Bool} {sK : State} (imgO : List Byte) (ttO : Nat) (sO : State) (hk : Kept mm sK sO) : Kept mm sK (ownEngComp
    imgO ttO sO).2 := by
  unfold ownEngComp
  repeat' with_reducible first | assumption | apply Kept.setImage | apply unscheduled_kept | exact id | split | dsimp only | intro _

theorem ownTraceRun_kept {mm : Bool} {sK : State} (vO : Nat) (sO : State) (hk : Kept mm sK sO) : Kept mm sK (ownTraceRun vO sO).2 := by
  unfold ownTraceRun
  repeat' with_reducible first
      | assumption | apply Kept.setReg | refine Kept.ite_snd (fun _ => ?_) (fun _ => ?_) | apply State.traceDrain_kept
      | apply State.stopTrace_kept | apply State.countMc_kept | apply State.tracePut_kept | (rw [State.mk_built]; apply Kept.upd)

theorem execTraceRun_kept {mm : Bool} (t : Nat) (r : Requester) (v : Bool) (s : State) : KeptN mm s (execTraceRun t r v s) := by
  unfold execTraceRun
  repeat' with_reducible first
      | exact Kept.refl _ | apply KeptN.next | apply Kept.tickTo | apply State.writeObj_kept | apply ownTraceRun_kept

theorem execTraceRecord_kept {mm : Bool} (t : Nat) (x : Ctl) (kind : Fin 3) (target : Nat) (s : State) : KeptN mm s (execTraceRecord t x
    kind target s) := by
  unfold execTraceRecord
  repeat' with_reducible first
      | exact Kept.refl _ | apply KeptN.next | refine Kept.ite (fun _ => ?_) (fun _ => ?_) | apply Kept.tickTo | apply State.trace_kept

theorem execTraceDrainEnd_kept {mm : Bool} (t : Nat) (s : State) : KeptN mm s (execTraceDrainEnd t s) := by
  unfold execTraceDrainEnd
  repeat' with_reducible first
      | exact Kept.refl _ | apply KeptN.next | refine Kept.ite (fun _ => ?_) (fun _ => ?_) | apply Kept.tickTo
      | apply State.traceDrain_kept

theorem ownTraceUser_kept {mm : Bool} {sK : State} (x : Ctl) (vO : Nat) (sO : State) (hk : Kept mm sK sO) : Kept mm sK (ownTraceUser x vO
    sO).2 := by
  unfold ownTraceUser
  repeat' with_reducible first | assumption | apply State.trace_kept

theorem execTraceUser_kept {mm : Bool} (t : Nat) (r : Requester) (v : Nat) (s : State) : KeptN mm s (execTraceUser t r v s) := by
  unfold execTraceUser
  repeat' with_reducible first
      | exact Kept.refl _ | apply KeptN.next | apply Kept.tickTo | apply State.writeObj_kept | apply ownTraceUser_kept

theorem ownSelect_kept {mm : Bool} {sK : State} (o n : Nat) (imgO : List Byte) (ttO : Nat) (sO : State) (hk : Kept mm sK sO) : Kept mm sK
    (ownSelect o n imgO ttO sO).2 := by
  unfold ownSelect
  repeat' with_reducible first | assumption | apply Kept.setImage | apply unscheduled_kept | exact id | split | dsimp only | intro _

theorem ownEvsel_kept {mm : Bool} {sK : State} (k : Nat) (vO : Nat) (sO : State) (hk : Kept mm sK sO) : Kept mm sK (ownEvsel k vO sO).2 := by
  unfold ownEvsel
  repeat' with_reducible first
      | assumption | apply Kept.setReg | refine Kept.ite_snd (fun _ => ?_) (fun _ => ?_) | apply State.countMc_kept | split

theorem ownCounterClear_kept {mm : Bool} {sK : State} (k : Nat) (vO : Nat) (sO : State) (hk : Kept mm sK sO) : Kept mm sK (ownCounterClear k
    vO sO).2 := by
  unfold ownCounterClear
  repeat' with_reducible first | assumption | apply Kept.setReg | apply command_kept | apply State.countMc_kept | dsimp only | intro _

theorem execCounterClear_kept {mm : Bool} (t : Nat) (r : Requester) (k : Fin 16) (v : Bool) (s : State) : KeptN mm s (execCounterClear t r k
    v s) := by
  unfold execCounterClear
  repeat' with_reducible first
      | exact Kept.refl _ | apply KeptN.next | apply Kept.tickTo | apply State.writeObj_kept | apply ownCounterClear_kept

theorem ownSnap_kept {mm : Bool} {sK : State} (vO : Nat) (sO : State) (hk : Kept mm sK sO) : Kept mm sK (ownSnap vO sO).2 := by
  unfold ownSnap
  repeat' with_reducible first
      | assumption | apply Kept.setReg | apply Kept.setImage | apply command_kept | apply State.countMc_kept | dsimp only | intro _

theorem execSnap_kept {mm : Bool} (t : Nat) (r : Requester) (v : Bool) (s : State) : KeptN mm s (execSnap t r v s) := by
  unfold execSnap
  repeat' with_reducible first | exact Kept.refl _ | apply KeptN.next | apply Kept.tickTo | apply State.writeObj_kept | apply ownSnap_kept

theorem ownKey_kept {mm : Bool} {sK : State} (k : Nat) (imgO : List Byte) (ttO : Nat) (sO : State) (hk : Kept mm sK sO) : Kept mm sK (ownKey
    k imgO ttO sO).2 := by
  unfold ownKey
  repeat' with_reducible first | assumption | apply Kept.setImage | apply unscheduled_kept | exact id | split | dsimp only | intro _

theorem execKeyCommit_kept {mm : Bool} (t : Nat) (r : Requester) (k : Fin 5) (crc tt : Nat) (s : State) : KeptN mm s (execKeyCommit t r k
    crc tt s) := by
  unfold execKeyCommit
  repeat' with_reducible first | exact Kept.refl _ | apply KeptN.next | apply Kept.tickTo | apply State.commitObj_kept | apply ownKey_kept

theorem ownFirmware_kept {mm : Bool} {sK : State} (x : Ctl) (imgO : List Byte) (ttO : Nat) (sO : State) (hk : Kept mm sK sO) : Kept mm sK
    (ownFirmware x imgO ttO sO).2 := by
  unfold ownFirmware
  repeat' with_reducible first
      | assumption | apply Kept.setReg | apply Kept.setImage | apply unscheduled_kept | apply State.beginReset_kept | exact id | split
      | dsimp only | intro _

theorem execFirmwareImageCommit_kept {mm : Bool} (t : Nat) (r : Requester) (x : Ctl) (crc tt : Nat) (s : State) : KeptN mm s
    (execFirmwareImageCommit t r x crc tt s) := by
  unfold execFirmwareImageCommit
  repeat' with_reducible first
      | exact Kept.refl _ | apply KeptN.next | apply Kept.tickTo | apply State.commitObj_kept | apply ownFirmware_kept

theorem ownLedgerSnap_kept {mm : Bool} {sK : State} (l : Nat) (vO : Nat) (sO : State) (hk : Kept mm sK sO) : Kept mm sK (ownLedgerSnap l vO
    sO).2 := by
  unfold ownLedgerSnap
  repeat' with_reducible first
      | assumption | refine Kept.foldl _ (fun _ _ _ => ?_) _ _ ?_ | apply Kept.setReg | apply command_kept | apply State.setBool_kept
      | apply State.setFlag_kept | apply State.fault_kept | split | dsimp only | intro _

theorem execLedgerSnap_kept {mm : Bool} (t : Nat) (r : Requester) (l : Fin 63) (v : Bool) (s : State) : KeptN mm s (execLedgerSnap t r l v
    s) := by
  unfold execLedgerSnap
  repeat' with_reducible first
      | exact Kept.refl _ | apply KeptN.next | apply Kept.tickTo | apply State.writeObj_kept | apply ownLedgerSnap_kept

end Sys2Proof.Machine
end

