-- ==== Sys2Proof/Laws/KeptDictionary.lean ====
section
/-! SUPPORT. The owners of objects and the dictionary: what every function of a state keeps (`Kept`), one law a function, and one a command. Laws with the
parameter `mm` hold with the addressed memories unchanged too; those with `false` are of the functions that may write one. -/

namespace Sys2Proof.Machine

theorem refuse_kept {mm : Bool} {sK : State} (vO : Nat) (sO : State) (hk : Kept mm sK sO) : Kept mm sK (refuse vO sO).2 := by
  unfold refuse
  assumption

theorem ownKiskoPort_kept {mm : Bool} {sK : State} (vO : Nat) (sO : State) (hk : Kept mm sK sO) : Kept mm sK (ownKiskoPort vO sO).2 := by
  unfold ownKiskoPort
  repeat' with_reducible first | assumption | apply Kept.setReg | refine Kept.ite_snd (fun _ => ?_) (fun _ => ?_)

theorem ownCommon_kept {mm : Bool} (s : State) (r : Requester) (i sub : Nat) : KeptOO mm (ownCommon s r i sub) := by
  unfold ownCommon
  repeat' with_reducible first
      | exact KeptOO.none | apply KeptOO.some | refine KeptOO.ite (fun _ => ?_) (fun _ => ?_) | apply ownThermRelease_kept
      | apply ownLedgerSnap_kept | apply ownPhyMode_kept | apply ownKiskoPort_kept | apply ownClose_kept | apply ownClaim_kept
      | apply ownOffer_kept | apply ownAccept_kept | apply ownTake_kept | apply ownHandoverRequest_kept | apply ownHeartbeat_kept
      | apply ownWdEnable_kept | apply ownWdTimeout_kept | apply ownWdPre_kept | apply ownKick_kept | split | intro _

theorem ownPlatform_kept {mm : Bool} (i sub : Nat) : KeptOO mm (ownPlatform i sub) := by
  unfold ownPlatform
  repeat' with_reducible first
      | exact KeptOO.none | apply KeptOO.some | refine KeptOO.ite (fun _ => ?_) (fun _ => ?_) | apply ownPadRelease_kept
      | apply ownFpll_kept | apply ownGclkSrc_kept | apply ownRclkSrc_kept | apply ownRclkDiv_kept | apply ownSleepArm_kept
      | apply ownSleepCancel_kept | apply ownWakeRequest_kept | apply ownRunUser_kept | apply ownShedReset_kept
      | apply ownAuditRegion_kept | apply ownAuditStart_kept | apply ownShadowDiscard_kept | apply ownSwapArm_kept
      | apply ownSwapCancel_kept | split | intro _

theorem ownServices_kept {mm : Bool} (i sub : Nat) : KeptOO mm (ownServices i sub) := by
  unfold ownServices
  repeat' with_reducible first
      | exact KeptOO.none | apply KeptOO.some | refine KeptOO.ite (fun _ => ?_) (fun _ => ?_) | apply ownTtResync_kept
      | apply ownPtpEnable_kept | apply storeIf_kept | apply ownSwitchArm_kept | apply ownSwitchCancel_kept | apply ownTrigMode_kept
      | apply ownTrigArm_kept | apply ownTrigCancel_kept | apply ownTrigQueue_kept | apply ownMemConfig_kept | apply ownMemEnable_kept
      | apply ownWindowAddr_kept | apply ownWalkCtrl_kept | apply ownMarchTarget_kept | apply ownMarchStart_kept
      | apply ownScrubEnable_kept | apply ownForceAfter_kept | apply ownRetire_kept | apply ownRespLimit_kept | apply ownReqLimit_kept
      | apply ownIsolate_kept | apply ownDeisolate_kept | split | intro _

theorem ownChannel_kept {mm : Bool} (ch sub : Nat) : KeptOO mm (ownChannel ch sub) := by
  unfold ownChannel
  repeat' with_reducible first
      | exact KeptOO.none | apply KeptOO.some | apply ownChMode_kept | apply storeIf_kept | apply ownParkCode_kept | apply ownTrim_kept
      | apply ownEdgeFault_kept | split | intro _

theorem ownEngReg_kept {mm : Bool} {sK : State} (e sub : Nat) (vO : Nat) (sO : State) (hk : Kept mm sK sO) : Kept mm sK (ownEngReg e sub vO
    sO).2 := by
  unfold ownEngReg
  repeat' with_reducible first | assumption | apply Kept.setReg | refine Kept.ite_snd (fun _ => ?_) (fun _ => ?_)

theorem ownEngine_kept {mm : Bool} (e sub : Nat) : KeptOO mm (ownEngine e sub) := by
  unfold ownEngine
  repeat' with_reducible first
      | exact KeptOO.none | apply KeptOO.some | apply ownStartArm_kept | apply ownStartCancel_kept | apply ownStopReq_kept
      | apply ownFailedMark_kept | apply ownDspConfig_kept | apply ownDspFlags_kept | apply ownEngReg_kept | split | intro _

theorem ownPattern_kept {mm : Bool} (i sub : Nat) : KeptOO mm (ownPattern i sub) := by
  unfold ownPattern
  repeat' with_reducible first
      | exact KeptOO.none | apply KeptOO.some | refine KeptOO.ite (fun _ => ?_) (fun _ => ?_) | apply ownChannel_kept
      | apply ownBankArm_kept | apply ownBankCancel_kept | apply ownEngine_kept | apply ownQueueNo_kept | apply ownRunEn_kept
      | apply ownFcFlush_kept | apply ownAddrMap_kept | apply ownRepairClear_kept | apply ownReport_kept | apply ownSiteFailsClear_kept
      | apply storeIf_kept | apply ownYardSide_kept | apply ownForceRelease_kept | apply ownClearFailsafe_kept | split | intro _

theorem ownSerial_kept {mm : Bool} (ch sub : Nat) : KeptOO mm (ownSerial ch sub) := by
  unfold ownSerial
  repeat' with_reducible first
      | exact KeptOO.none | apply KeptOO.some | apply ownSerEn_kept | apply storeIf_kept | apply ownPrbs_kept | apply ownFfe_kept
      | apply ownDfe_kept | apply ownBitslip_kept | apply ownErrClear_kept | apply ownEyeStart_kept | split | intro _

theorem ownLinks_kept {mm : Bool} (i sub : Nat) : KeptOO mm (ownLinks i sub) := by
  unfold ownLinks
  repeat' with_reducible first
      | exact KeptOO.none | apply KeptOO.some | refine KeptOO.ite (fun _ => ?_) (fun _ => ?_) | apply ownSerial_kept
      | apply ownYardEnable_kept | apply storeIf_kept | apply ownKeyRotate_kept | apply ownProducerBind_kept | apply ownConsumerBind_kept
      | apply ownSource_kept | split | intro _

theorem ownDebug_kept {mm : Bool} (s : State) (r : Requester) (i sub : Nat) : KeptOO mm (ownDebug s r i sub) := by
  unfold ownDebug
  repeat' with_reducible first
      | exact KeptOO.none | apply KeptOO.some | refine KeptOO.ite (fun _ => ?_) (fun _ => ?_) | apply ownDebugLock_kept
      | apply ownTraceRun_kept | apply storeIf_kept | apply ownTraceUser_kept | apply ownHaltReq_kept | apply ownResume_kept
      | apply ownStep_kept | apply ownDpc_kept | apply ownEngHalt_kept | apply ownEngGo_kept | apply ownEvsel_kept
      | apply ownCounterClear_kept | apply ownSnap_kept | split | intro _

theorem ownQueue_kept {mm : Bool} (q sub : Nat) : KeptOO mm (ownQueue q sub) := by
  unfold ownQueue
  repeat' with_reducible first
      | exact KeptOO.none | apply KeptOO.some | apply ownEnable_kept | apply ownProdDoorbell_kept | apply ownConsDoorbell_kept
      | apply ownWmHigh_kept | apply ownWmLow_kept | apply ownDeadlineArm_kept | apply ownDeadlineCancel_kept | apply ownQueueFlush_kept
      | split | intro _

theorem State.namedOwner_kept {mm : Bool} (s : State) (r : Requester) (i sub : Nat) : KeptOO mm (State.namedOwner s r i sub) := by
  unfold State.namedOwner
  repeat' with_reducible first
      | refine KeptOO.ite (fun _ => ?_) (fun _ => ?_) | apply ownCommon_kept | apply ownPlatform_kept | apply ownServices_kept
      | apply ownPattern_kept | apply ownLinks_kept | apply ownDebug_kept | apply ownQueue_kept

theorem State.ownerOf_kept {mm : Bool} {sK : State} (s : State) (r : Requester) (o : Nat) (vO : Nat) (sO : State) (hk : Kept mm sK sO) :
    Kept mm sK (State.ownerOf s r o vO sO).2 := by
  unfold State.ownerOf
  have hq := State.namedOwner_kept (mm := mm) s r (o / 256) (o % 256)
  generalize s.namedOwner r (o / 256) (o % 256) = q at hq
  cases q with
  | some f => exact hq f rfl _ _ _ hk
  | none =>
    repeat' with_reducible first | assumption | apply State.clearFlags_kept | apply store_kept | apply refuse_kept | split

theorem imgOwnerOf_kept (o : Nat) : KeptOI false (imgOwnerOf o) := by
  unfold imgOwnerOf
  repeat' with_reducible first
      | exact KeptOI.none | apply KeptOI.some | refine KeptOI.ite (fun _ => ?_) (fun _ => ?_) | apply ownIpv6Addr_kept | apply ownKey_kept
      | apply ownFirmware_kept | apply ownClkEnable_kept | apply ownShedProgram_kept | apply ownStream_kept | apply ownRegions_kept
      | apply ownWindow_kept | apply ownWalkImage_kept | apply ownStreams_kept | apply ownScrubProgram_kept | apply ownKidKey_kept
      | apply ownStanding_kept | apply ownBinding_kept | apply ownTimingSets_kept | apply ownQuadSchedule_kept | apply ownMap_kept
      | apply ownProgram_kept | apply ownDspState_kept | apply ownFeedSched_kept | apply ownChanCfg_kept | apply ownContexts_kept
      | apply ownSites_kept | apply ownHaltTable_kept | apply ownSiteMask_kept | apply ownEyeTable_kept | apply ownLinkKey_kept
      | apply ownVcCfg_kept | apply ownResponse_kept | apply ownSelect_kept | apply ownGpr_kept | apply ownComp_kept
      | apply ownEngComp_kept | apply ownDesc_kept | intro _

theorem State.settle_kept {mm : Bool} {sK : State} (s : State) (i : Nat) (hk : Kept mm sK s) : Kept mm sK (State.settle s i) := by
  unfold State.settle
  repeat' with_reducible first
      | assumption | refine Kept.ite (fun _ => ?_) (fun _ => ?_) | apply State.haltPump_kept | apply State.dspPump_kept
      | apply State.traceDrain_kept

theorem State.traceRead_kept {mm : Bool} {sK : State} (s : State) (off n : Nat) (hk : Kept mm sK s) : Kept mm sK (State.traceRead s off
    n).2.2 := by
  unfold State.traceRead
  repeat' with_reducible first
      | assumption | refine Kept.ite_snd2 (fun _ => ?_) (fun _ => ?_) | apply State.sramRead_kept | apply State.sramBad_kept

theorem State.windowRead_kept {mm : Bool} {sK : State} (s : State) (addr n : Nat) (hk : Kept mm sK s) : Kept mm sK (State.windowRead s addr
    n).2.2 := by
  unfold State.windowRead
  repeat' with_reducible first | assumption | apply State.memReadLines_kept | refine Kept.of_eq2 (by assumption) ?_ | split

theorem State.imageRead_kept {mm : Bool} {sK : State} (s : State) (r : Requester) (o off n : Nat) (hk : Kept mm sK s) : Kept mm sK
    (State.imageRead s r o off n).2.2 := by
  unfold State.imageRead
  repeat' with_reducible first
      | assumption | refine Kept.ite (fun _ => ?_) (fun _ => ?_) | refine Kept.ite_snd2 (fun _ => ?_) (fun _ => ?_)
      | apply State.drawChallenge_kept | apply State.traceRead_kept | apply State.windowRead_kept

theorem State.scalarRead_kept {mm : Bool} {sK : State} (s : State) (o : Nat) (hk : Kept mm sK s) : Kept mm sK (State.scalarRead s o).2 := by
  unfold State.scalarRead
  repeat' with_reducible first
      | assumption | refine Kept.ite_snd (fun _ => ?_) (fun _ => ?_) | apply State.drawBool_kept | apply State.countMc_kept | split

theorem State.peeked_kept {mm : Bool} {sK : State} (s : State) (r : Requester) (o : Nat) (seg : Bool) (s1 : State) (hk : Kept mm sK s1) (h_s
    : Kept mm sK s) : Kept mm sK (State.peeked s r o seg s1) := by
  unfold State.peeked
  repeat' with_reducible first
      | assumption | refine Kept.ite (fun _ => ?_) (fun _ => ?_) | apply State.tally_kept | (rw [State.mk_built]; apply Kept.upd)

theorem State.failObj_kept {mm : Bool} {sK : State} (s : State) (r : Requester) (o : Nat) (write : Bool) (st : Status) (hk : Kept mm sK s) :
    Kept mm sK (State.failObj s r o write st) := by
  unfold State.failObj
  repeat' with_reducible first
      | assumption | refine Kept.ite (fun _ => ?_) (fun _ => ?_) | apply State.complete_kept | apply State.bump_kept | split

theorem State.failSeg_kept {mm : Bool} {sK : State} (s : State) (r : Requester) (o : Nat) (st : Status) (hk : Kept mm sK s) : Kept mm sK
    (State.failSeg s r o st) := by
  unfold State.failSeg
  repeat' with_reducible first | assumption | apply State.complete_kept | split

theorem State.readObj_kept {mm : Bool} {sK : State} (s : State) (r : Requester) (o : Nat) (hk : Kept mm sK s) : Kept mm sK (State.readObj s
    r o) := by
  unfold State.readObj
  repeat' with_reducible first
      | assumption | refine Kept.ite (fun _ => ?_) (fun _ => ?_) | apply State.settle_kept | apply State.imageRead_kept
      | apply State.complete_kept | apply State.scalarRead_kept | split

theorem State.writeImage_kept {mm : Bool} {sK : State} (s : State) (r : Requester) (o ty : Nat) (bytes : List Byte) (hk : Kept mm sK s) :
    Kept mm sK (State.writeImage s r o ty bytes) := by
  unfold State.writeImage
  repeat' with_reducible first
      | assumption | refine Kept.ite (fun _ => ?_) (fun _ => ?_) | apply State.failObj_kept | apply State.writeObj_kept
      | apply State.ownerOf_kept | split

theorem State.maskWrite_kept {mm : Bool} {sK : State} (s : State) (r : Requester) (o ty : Nat) (val mask : List Byte) (hk : Kept mm sK s) :
    Kept mm sK (State.maskWrite s r o ty val mask) := by
  unfold State.maskWrite
  repeat' with_reducible first
      | assumption | refine Kept.ite (fun _ => ?_) (fun _ => ?_) | apply State.failObj_kept | apply State.settle_kept
      | apply State.writeObj_kept | apply State.ownerOf_kept | split

theorem State.segForm_kept {mm : Bool} {sK : State} (s : State) (r : Requester) (o : Nat) (write : Bool) (f : State → Status × List Byte ×
    State) (hk : Kept mm sK s) (h_f : ∀ s, Kept mm sK s → Kept mm sK (f s).2.2) : Kept mm sK (State.segForm s r o write f) := by
  unfold State.segForm
  repeat' with_reducible first
      | assumption | refine Kept.ite (fun _ => ?_) (fun _ => ?_) | apply State.complete_kept | apply State.bump_kept | refine h_f _ ?_
      | split

theorem State.openHook_kept {mm : Bool} {sK : State} (s : State) (o : Nat) (hk : Kept mm sK s) : Kept mm sK (State.openHook s o).2 := by
  unfold State.openHook
  repeat' with_reducible first
      | assumption | refine Kept.ite_snd (fun _ => ?_) (fun _ => ?_) | apply State.streamOpen_kept | apply State.holdBuffer_kept

theorem State.segOpen_kept {mm : Bool} {sK : State} (s : State) (r : Requester) (o total : Nat) (hk : Kept mm sK s) : Kept mm sK
    (State.segOpen s r o total) := by
  unfold State.segOpen
  repeat' with_reducible first
      | assumption | apply State.segForm_kept | apply State.openHook_kept | apply State.setXfer_kept | exact id
      | refine Kept.of_eq2 (by assumption) ?_ | split | dsimp only | intro _

theorem State.segWrite_kept {mm : Bool} {sK : State} (s : State) (r : Requester) (o off : Nat) (bytes : List Byte) (cut : Bool) (hk : Kept
    mm sK s) : Kept mm sK (State.segWrite s r o off bytes cut) := by
  unfold State.segWrite
  repeat' with_reducible first
      | assumption | apply State.segForm_kept | apply State.setXfer_kept | apply State.streamPump_kept | exact id | split | dsimp only
      | intro _

theorem State.segRead_kept {mm : Bool} {sK : State} (s : State) (r : Requester) (o off n : Nat) (hk : Kept mm sK s) : Kept mm sK
    (State.segRead s r o off n) := by
  unfold State.segRead
  repeat' with_reducible first
      | assumption | apply State.peeked_kept | apply State.segForm_kept | apply State.settle_kept | apply State.imageRead_kept
      | dsimp only | intro _

theorem State.segCommit_kept {sK : State} (s : State) (r : Requester) (o crc tt : Nat) (hk : Kept false sK s) : Kept false sK
    (State.segCommit s r o crc tt) := by
  unfold State.segCommit
  have hq := imgOwnerOf_kept o
  generalize imgOwnerOf o = q at hq
  extract_lets own s1 i
  have hw : ∀ i t u, Kept false sK u → Kept false sK (own i t u).2 := by
    intro i t u h
    dsimp only [own]
    cases q with
    | some f => exact hq f rfl _ _ _ _ h
    | none => exact h
  have h1 : Kept false sK s1 := State.commitObj_kept _ _ _ _ _ _ hk hw
  clear_value s1 own
  repeat' with_reducible first
      | assumption | refine Kept.ite (fun _ => ?_) (fun _ => ?_) | apply State.settleBuffer_kept | apply State.settleShadow_kept

theorem State.segAbort_kept {mm : Bool} {sK : State} (s : State) (r : Requester) (o : Nat) (hk : Kept mm sK s) : Kept mm sK (State.segAbort
    s r o) := by
  unfold State.segAbort
  repeat' with_reducible first | assumption | apply State.segForm_kept | apply State.abortXfer_kept | exact id | split | intro _

theorem State.setAliasWin_kept {mm : Bool} {sK : State} (s : State) (o : Nat) (w : AliasWin) (hk : Kept mm sK s) : Kept mm sK
    (State.setAliasWin s o w) := by
  unfold State.setAliasWin
  repeat' with_reducible first | assumption | (rw [State.mk_built]; apply Kept.upd)

theorem State.aliasLoad_kept {mm : Bool} {sK : State} (s : State) (r : Requester) (o off n : Nat) (hk : Kept mm sK s) : Kept mm sK
    (State.aliasLoad s r o off n) := by
  unfold State.aliasLoad
  repeat' with_reducible first
      | assumption | refine Kept.ite (fun _ => ?_) (fun _ => ?_) | apply State.peeked_kept | apply State.settle_kept
      | apply State.imageRead_kept | apply State.complete_kept | apply State.scalarRead_kept | split

theorem State.windowStore_kept {sK : State} (s : State) (r : Requester) (o off : Nat) (bytes : List Byte) (hk : Kept false sK s) : Kept
    false sK (State.windowStore s r o off bytes) := by
  unfold State.windowStore
  repeat' with_reducible first
      | assumption | refine Kept.ite (fun _ => ?_) (fun _ => ?_) | apply State.setAliasWin_kept | apply State.segWrite_kept
      | apply State.failObj_kept | apply State.complete_kept | apply State.segOpen_kept | apply State.segCommit_kept
      | apply State.segAbort_kept | split

theorem State.aliasStore_kept {sK : State} (s : State) (r : Requester) (o off : Nat) (bytes : List Byte) (hk : Kept false sK s) : Kept false
    sK (State.aliasStore s r o off bytes) := by
  unfold State.aliasStore
  repeat' with_reducible first
      | assumption | refine Kept.ite (fun _ => ?_) (fun _ => ?_) | apply State.complete_kept | apply State.windowStore_kept
      | apply State.settle_kept | apply State.writeObj_kept | apply State.ownerOf_kept | apply State.bump_kept
      | (rw [State.mk_built]; apply Kept.upd) | split

theorem execRegisterWrite_kept (t : Nat) (r : Requester) (idx sub off : Nat) (bytes : List Byte) (s : State) : KeptN false s
    (execRegisterWrite t r idx sub off bytes s) := by
  unfold execRegisterWrite
  repeat' with_reducible first
      | exact Kept.refl _ | apply KeptN.next | refine Kept.ite (fun _ => ?_) (fun _ => ?_) | apply Kept.tickTo
      | apply State.writeImage_kept | apply State.failObj_kept | apply State.aliasStore_kept | split

theorem execRead_kept {mm : Bool} (t : Nat) (slot : Fin 64) (idx sub ty : Nat) (s : State) : KeptN mm s (execRead t slot idx sub ty s) := by
  unfold execRead
  repeat' with_reducible first | exact Kept.refl _ | apply KeptN.next | apply Kept.tickTo | apply State.readObj_kept

theorem execWrite_kept {mm : Bool} (t : Nat) (slot : Fin 64) (idx sub ty : Nat) (bytes : List Byte) (s : State) : KeptN mm s (execWrite t
    slot idx sub ty bytes s) := by
  unfold execWrite
  repeat' with_reducible first | exact Kept.refl _ | apply KeptN.next | apply Kept.tickTo | apply State.writeImage_kept

theorem execMaskWrite_kept {mm : Bool} (t : Nat) (slot : Fin 64) (idx sub ty : Nat) (val mask : List Byte) (s : State) : KeptN mm s
    (execMaskWrite t slot idx sub ty val mask s) := by
  unfold execMaskWrite
  repeat' with_reducible first | exact Kept.refl _ | apply KeptN.next | apply Kept.tickTo | apply State.maskWrite_kept

theorem execSegOpen_kept {mm : Bool} (t : Nat) (r : Requester) (idx sub total : Nat) (s : State) : KeptN mm s (execSegOpen t r idx sub total
    s) := by
  unfold execSegOpen
  repeat' with_reducible first | exact Kept.refl _ | apply KeptN.next | apply Kept.tickTo | apply State.segOpen_kept

theorem execSegWrite_kept {mm : Bool} (t : Nat) (r : Requester) (idx sub off : Nat) (bytes : List Byte) (s : State) : KeptN mm s
    (execSegWrite t r idx sub off bytes s) := by
  unfold execSegWrite
  repeat' with_reducible first | exact Kept.refl _ | apply KeptN.next | apply Kept.tickTo | apply State.segWrite_kept

theorem execSegRead_kept {mm : Bool} (t : Nat) (r : Requester) (idx sub off count : Nat) (s : State) : KeptN mm s (execSegRead t r idx sub
    off count s) := by
  unfold execSegRead
  repeat' with_reducible first | exact Kept.refl _ | apply KeptN.next | apply Kept.tickTo | apply State.segRead_kept

theorem execSegCommit_kept (t : Nat) (r : Requester) (idx sub crc tt : Nat) (s : State) : KeptN false s (execSegCommit t r idx sub crc tt s) := by
  unfold execSegCommit
  repeat' with_reducible first | exact Kept.refl _ | apply KeptN.next | apply Kept.tickTo | apply State.segCommit_kept

theorem execSegAbort_kept {mm : Bool} (t : Nat) (r : Requester) (idx sub : Nat) (s : State) : KeptN mm s (execSegAbort t r idx sub s) := by
  unfold execSegAbort
  repeat' with_reducible first | exact Kept.refl _ | apply KeptN.next | apply Kept.tickTo | apply State.segAbort_kept

theorem execDataStore_kept (t : Nat) (c : Ctl) (idx sub : Nat) (v : BitVec 64) (s : State) : KeptN false s (execDataStore t c idx sub v s) := by
  unfold execDataStore
  repeat' with_reducible first | exact Kept.refl _ | apply KeptN.next | apply Kept.tickTo | apply State.aliasStore_kept

theorem execSegTransferTimeout_kept {mm : Bool} (t idx sub : Nat) (s : State) : KeptN mm s (execSegTransferTimeout t idx sub s) := by
  unfold execSegTransferTimeout
  repeat' with_reducible first
      | exact Kept.refl _ | apply KeptN.next | refine Kept.ite (fun _ => ?_) (fun _ => ?_) | apply Kept.tickTo
      | apply State.abortXfer_kept | split

theorem execScheduledArm_kept {mm : Bool} (t : Nat) (r : Requester) (a : Arming) (v : Bool) (s : State) : KeptN mm s (execScheduledArm t r a
    v s) := by
  unfold execScheduledArm
  repeat' with_reducible first
      | exact Kept.refl _ | apply KeptN.next | apply Kept.tickTo | apply State.writeObj_kept | apply State.ownerOf_kept

theorem execScheduledCancel_kept {mm : Bool} (t : Nat) (r : Requester) (a : Arming) (v : Bool) (s : State) : KeptN mm s (execScheduledCancel
    t r a v s) := by
  unfold execScheduledCancel
  repeat' with_reducible first
      | exact Kept.refl _ | apply KeptN.next | apply Kept.tickTo | apply State.writeObj_kept | apply State.ownerOf_kept

theorem execPaddockStreamOpen_kept {mm : Bool} (t : Nat) (r : Requester) (p : Fin 24) (total : Nat) (s : State) : KeptN mm s
    (execPaddockStreamOpen t r p total s) := by
  unfold execPaddockStreamOpen
  repeat' with_reducible first | exact Kept.refl _ | apply KeptN.next | apply Kept.tickTo | apply State.segOpen_kept

theorem execChallenge_kept {mm : Bool} (t : Nat) (r : Requester) (s : State) : KeptN mm s (execChallenge t r s) := by
  unfold execChallenge
  repeat' with_reducible first | exact Kept.refl _ | apply KeptN.next | apply Kept.tickTo | apply State.segRead_kept

end Sys2Proof.Machine
end

