-- ==== Sys2Proof/Laws/KeptPorts.lean ====
section
/-! SUPPORT. Kisko, PTP, the carriage of frames, the debug port, packet ejection and the ports of the fabric: what every function of a state keeps (`Kept`), one law a function, and one a command. Laws with the
parameter `mm` hold with the addressed memories unchanged too; those with `false` are of the functions that may write one. -/

namespace Sys2Proof.Machine

theorem State.kiskoIn_kept {mm : Bool} {sK : State} (s : State) (c : Ctl) (p : Peer) (f : State → State) (hk : Kept mm sK s) (h_f : ∀ s,
    Kept mm sK s → Kept mm sK (f s)) : Kept mm sK (State.kiskoIn s c p f) := by
  unfold State.kiskoIn
  repeat' with_reducible first | assumption | refine Kept.ite (fun _ => ?_) (fun _ => ?_) | apply State.bump_kept | refine h_f _ ?_

theorem State.errorReply_kept {mm : Bool} {sK : State} (s : State) (c : Ctl) (p : Peer) (d : List Byte) (st : Status) (hk : Kept mm sK s) :
    Kept mm sK (State.errorReply s c p d st) := by
  unfold State.errorReply
  repeat' with_reducible first | assumption | apply State.sendKisko_kept | (rw [State.mk_built]; apply Kept.upd)

theorem State.refuseDatagram_kept {mm : Bool} {sK : State} (s : State) (c : Ctl) (p : Peer) (d : List Byte) (st : Status) (hk : Kept mm sK
    s) : Kept mm sK (State.refuseDatagram s c p d st) := by
  unfold State.refuseDatagram
  repeat' with_reducible first | assumption | apply State.tally_kept | apply State.errorReply_kept

theorem State.macFail_kept {mm : Bool} {sK : State} (s : State) (d : List Byte) (hk : Kept mm sK s) : Kept mm sK (State.macFail s d) := by
  unfold State.macFail
  repeat' with_reducible first | assumption | refine Kept.ite (fun _ => ?_) (fun _ => ?_) | apply State.bump_kept

theorem State.onDatagram_kept {mm : Bool} {sK : State} (s : State) (c : Ctl) (p : Peer) (dtype st : Nat) (d : List Byte) (f : State → Fin 64
    → State) (hk : Kept mm sK s) (h_f : ∀ s p, Kept mm sK s → Kept mm sK (f s p)) : Kept mm sK (State.onDatagram s c p dtype st d f) := by
  unfold State.onDatagram
  repeat' with_reducible first
      | assumption | refine Kept.ite (fun _ => ?_) (fun _ => ?_) | apply State.macFail_kept | apply State.refuseDatagram_kept
      | apply State.setSession_kept | refine h_f _ _ ?_ | split

theorem State.hello_kept {mm : Bool} {sK : State} (s : State) (c : Ctl) (p : Peer) (d : List Byte) (hk : Kept mm sK s) : Kept mm sK
    (State.hello s c p d) := by
  unfold State.hello
  repeat' with_reducible first
      | assumption | refine Kept.ite (fun _ => ?_) (fun _ => ?_) | apply Kept.setReg | apply State.drawBytes_kept
      | apply State.sendKisko_kept | apply State.ledMove_kept | apply State.setSession_kept | (rw [State.mk_built]; apply Kept.upd)
      | split

theorem State.takeHello_kept {mm : Bool} {sK : State} (s : State) (c : Ctl) (p : Peer) (d : List Byte) (hk : Kept mm sK s) : Kept mm sK
    (State.takeHello s c p d) := by
  unfold State.takeHello
  repeat' with_reducible first
      | assumption | refine Kept.ite (fun _ => ?_) (fun _ => ?_) | apply State.refuseDatagram_kept | apply State.hello_kept

theorem execHello_kept {mm : Bool} (t : Nat) (port : Ctl) (peer : Peer) (d : List Byte) (s : State) : KeptN mm s (execHello t port peer d s) := by
  unfold execHello
  repeat' with_reducible first
      | exact Kept.refl _ | apply KeptN.next | apply Kept.tickTo | apply State.kiskoIn_kept | apply State.takeHello_kept | intro _

theorem State.accept_kept {mm : Bool} {sK : State} (s : State) (c : Ctl) (p : Peer) (i : Nat) (st : Status) (seq : Nat) (proof : List Byte)
    (hk : Kept mm sK s) : Kept mm sK (State.accept s c p i st seq proof) := by
  unfold State.accept
  repeat' with_reducible first | assumption | apply State.sendKisko_kept | (rw [State.mk_built]; apply Kept.upd)

theorem State.proof_kept {mm : Bool} {sK : State} (s : State) (c : Ctl) (p : Peer) (d : List Byte) (i : Nat) (hk : Kept mm sK s) : Kept mm
    sK (State.proof s c p d i) := by
  unfold State.proof
  repeat' with_reducible first
      | assumption | refine Kept.ite (fun _ => ?_) (fun _ => ?_) | apply Kept.setReg | apply State.ledMove_kept | apply State.accept_kept
      | apply State.drawBytes_kept | apply State.tally_kept | apply State.closeSession_kept

theorem State.takeProof_kept {mm : Bool} {sK : State} (s : State) (c : Ctl) (p : Peer) (d : List Byte) (hk : Kept mm sK s) : Kept mm sK
    (State.takeProof s c p d) := by
  unfold State.takeProof
  repeat' with_reducible first
      | assumption | refine Kept.ite (fun _ => ?_) (fun _ => ?_) | apply State.onDatagram_kept | apply State.proof_kept
      | apply State.closeSession_kept | intro _

theorem execProof_kept {mm : Bool} (t : Nat) (port : Ctl) (peer : Peer) (d : List Byte) (s : State) : KeptN mm s (execProof t port peer d s) := by
  unfold execProof
  repeat' with_reducible first
      | exact Kept.refl _ | apply KeptN.next | apply Kept.tickTo | apply State.kiskoIn_kept | apply State.takeProof_kept | intro _

theorem State.takeClose_kept {mm : Bool} {sK : State} (s : State) (c : Ctl) (p : Peer) (d : List Byte) (hk : Kept mm sK s) : Kept mm sK
    (State.takeClose s c p d) := by
  unfold State.takeClose
  repeat' with_reducible first | assumption | apply State.onDatagram_kept | apply State.closeSession_kept | intro _

theorem execClose_kept {mm : Bool} (t : Nat) (w : Closer) (s : State) : KeptN mm s (execClose t w s) := by
  unfold execClose
  repeat' with_reducible first
      | exact Kept.refl _ | apply KeptN.next | apply Kept.tickTo | apply State.kiskoIn_kept | apply State.takeClose_kept
      | apply State.writeObj_kept | apply ownClose_kept | split | intro _

theorem State.openRecord_kept {mm : Bool} {sK : State} (s : State) (slot : Fin 64) (queue dir credit : Nat) (hk : Kept mm sK s) : Kept mm sK
    (State.openRecord s slot queue dir credit) := by
  unfold State.openRecord
  repeat' with_reducible first
      | assumption | refine Kept.ite (fun _ => ?_) (fun _ => ?_) | apply State.complete_kept | apply State.openStream_kept
      | apply State.bump_kept | refine Kept.of_eq3 (by assumption) ?_ | split | dsimp only

theorem State.closeRecord_kept {mm : Bool} {sK : State} (s : State) (slot : Fin 64) (i : Nat) (hk : Kept mm sK s) : Kept mm sK
    (State.closeRecord s slot i) := by
  unfold State.closeRecord
  repeat' with_reducible first
      | assumption | refine Kept.ite (fun _ => ?_) (fun _ => ?_) | apply State.complete_kept | apply State.closeStream_kept

theorem State.ping_kept {mm : Bool} {sK : State} (s : State) (slot : Fin 64) (hk : Kept mm sK s) : Kept mm sK (State.ping s slot) := by
  unfold State.ping
  repeat' with_reducible first
      | assumption | refine Kept.ite (fun _ => ?_) (fun _ => ?_) | apply State.tally_kept | (rw [State.mk_built]; apply Kept.upd)

theorem State.pumpStreams_kept {mm : Bool} {sK : State} (s : State) (slot : Nat) (hk : Kept mm sK s) : Kept mm sK (State.pumpStreams s slot) := by
  unfold State.pumpStreams
  repeat' with_reducible first | assumption | refine Kept.foldl _ (fun _ _ _ => ?_) _ _ ?_ | apply State.queueMoved_kept

theorem State.runRecord_kept {sK : State} (s : State) (slot : Fin 64) (op idx sub ty : Nat) (data : List Byte) (hk : Kept false sK s) : Kept
    false sK (State.runRecord s slot op idx sub ty data) := by
  unfold State.runRecord
  repeat' with_reducible first
      | assumption | refine Kept.ite (fun _ => ?_) (fun _ => ?_) | apply State.failObj_kept | apply State.readObj_kept
      | apply State.writeImage_kept | apply State.maskWrite_kept | apply State.segOpen_kept | apply State.segWrite_kept
      | apply State.failSeg_kept | apply State.segRead_kept | apply State.segCommit_kept | apply State.segAbort_kept
      | apply State.openRecord_kept | apply State.closeRecord_kept | apply State.ping_kept | (rw [State.mk_built]; apply Kept.upd) | split

theorem State.lateRecord_kept {sK : State} (s : State) (slot : Fin 64) (op idx sub ty : Nat) (data : List Byte) (hk : Kept false sK s) :
    Kept false sK (State.lateRecord s slot op idx sub ty data) := by
  unfold State.lateRecord
  repeat' with_reducible first
      | assumption | refine Kept.ite (fun _ => ?_) (fun _ => ?_) | apply State.drawBool_kept | apply State.runRecord_kept
      | apply State.tally_kept | (rw [State.mk_built]; apply Kept.upd) | refine Kept.of_eq2 (by assumption) ?_ | split

theorem State.refuseRecord_kept {mm : Bool} {sK : State} (s : State) (op : Nat) (hk : Kept mm sK s) : Kept mm sK (State.refuseRecord s op) := by
  unfold State.refuseRecord
  repeat' with_reducible first
      | assumption | refine Kept.ite (fun _ => ?_) (fun _ => ?_) | apply State.bump_kept | (rw [State.mk_built]; apply Kept.upd)

theorem State.runRecords_kept {sK : State} (s : State) (slot : Fin 64) (late : List Nat) (stopOnError stop : Bool) (k : Nat) (body out :
    List Byte) (fuel : Nat) (hk : Kept false sK s) : Kept false sK (State.runRecords s slot late stopOnError stop k body out fuel).2 := by
  induction fuel generalizing s slot late stopOnError stop k body out with
  | zero =>
    unfold State.runRecords
    repeat' with_reducible first
        | assumption | refine Kept.ite (fun _ => ?_) (fun _ => ?_) | apply State.refuseRecord_kept | apply State.lateRecord_kept
        | apply State.runRecord_kept | (rw [State.mk_built]; apply Kept.upd)
  | succ k ih =>
    unfold State.runRecords
    repeat' with_reducible first
        | assumption | refine Kept.ite (fun _ => ?_) (fun _ => ?_) | apply State.refuseRecord_kept | apply State.lateRecord_kept
        | apply State.runRecord_kept | refine ih _ _ _ _ _ _ _ _ ?_ | (rw [State.mk_built]; apply Kept.upd)

theorem State.sendReply_kept {mm : Bool} {sK : State} (s : State) (c : Ctl) (p : Peer) (session seq extra : Nat) (key rcd : List Byte) (hk :
    Kept mm sK s) : Kept mm sK (State.sendReply s c p session seq extra key rcd) := by
  unfold State.sendReply
  repeat' with_reducible first | assumption | apply State.sendKisko_kept

theorem State.request_kept {sK : State} (s : State) (c : Ctl) (p : Peer) (d : List Byte) (late : List Nat) (slot : Fin 64) (hk : Kept false
    sK s) : Kept false sK (State.request s c p d late slot) := by
  unfold State.request
  repeat' with_reducible first
      | assumption | refine Kept.ite (fun _ => ?_) (fun _ => ?_) | apply Kept.setReg | apply State.runRecords_kept
      | apply State.sendReply_kept | apply State.setSession_kept | apply State.pumpStreams_kept | apply State.bump_kept
      | apply State.tally_kept | (rw [State.mk_built]; apply Kept.upd) | split

theorem State.takeRequest_kept {sK : State} (s : State) (c : Ctl) (p : Peer) (d : List Byte) (late : List Nat) (hk : Kept false sK s) : Kept
    false sK (State.takeRequest s c p d late) := by
  unfold State.takeRequest
  repeat' with_reducible first | assumption | apply State.onDatagram_kept | apply State.request_kept | intro _

theorem execRequestDatagram_kept (t : Nat) (port : Ctl) (peer : Peer) (d : List Byte) (late : List Nat) (s : State) : KeptN false s
    (execRequestDatagram t port peer d late s) := by
  unfold execRequestDatagram
  repeat' with_reducible first
      | exact Kept.refl _ | apply KeptN.next | apply Kept.tickTo | apply State.kiskoIn_kept | apply State.takeRequest_kept | intro _

theorem execStreamOpen_kept {mm : Bool} (t : Nat) (slot : Fin 64) (queue dir credit : Nat) (s : State) : KeptN mm s (execStreamOpen t slot
    queue dir credit s) := by
  unfold execStreamOpen
  repeat' with_reducible first
      | exact Kept.refl _ | apply KeptN.next | apply Kept.tickTo | apply State.openRecord_kept | apply State.pumpStreams_kept

theorem execStreamClose_kept {mm : Bool} (t : Nat) (slot : Fin 64) (stream : Nat) (s : State) : KeptN mm s (execStreamClose t slot stream s) := by
  unfold execStreamClose
  repeat' with_reducible first | exact Kept.refl _ | apply KeptN.next | apply Kept.tickTo | apply State.closeRecord_kept

theorem execPing_kept {mm : Bool} (t : Nat) (slot : Fin 64) (s : State) : KeptN mm s (execPing t slot s) := by
  unfold execPing
  repeat' with_reducible first | exact Kept.refl _ | apply KeptN.next | apply Kept.tickTo | apply State.ping_kept

theorem execRecordTimeout_kept (t : Nat) (slot : Fin 64) (rcd : List Byte) (s : State) : KeptN false s (execRecordTimeout t slot rcd s) := by
  unfold execRecordTimeout
  repeat' with_reducible first | exact Kept.refl _ | apply KeptN.next | apply Kept.tickTo | apply State.lateRecord_kept

theorem State.takeGranules_kept {mm : Bool} {sK : State} (s : State) (i seq : Nat) (l : List Byte) (fuel : Nat) (hk : Kept mm sK s) : Kept
    mm sK (State.takeGranules s i seq l fuel).2 := by
  induction fuel generalizing s seq l with
  | zero => exact hk
  | succ k ih =>
    rw [State.takeGranules]
    generalize hx : s.stream i = x
    by_cases c1 : seqDiff seq x.next ≠ 0
    · simp only [c1, if_true, ne_eq, not_false_eq_true]
      exact ih _ _ _ hk
    · by_cases c2 : x.credit = 0 ∨ !s.accepts x.queue 1
      · simp only [c1, c2, if_true, if_false]
        exact ih _ _ _ (State.ledAdd_kept _ _ _ _ (State.ledAdd_kept _ _ _ _ (State.setStream_kept _ _ _ hk)))
      · simp only [c1, c2, if_false]
        exact ih _ _ _ (State.ledAdd_kept _ _ _ _ (State.ledAdd_kept _ _ _ _ (State.offer_kept _ _ _ _ (State.setStream_kept _ _ _ hk))))

theorem State.streamData_kept {mm : Bool} {sK : State} (s : State) (d : List Byte) (slot : Fin 64) (hk : Kept mm sK s) : Kept mm sK
    (State.streamData s d slot) := by
  unfold State.streamData
  repeat' with_reducible first
      | assumption | refine Kept.ite (fun _ => ?_) (fun _ => ?_) | apply State.takeGranules_kept | apply State.setStream_kept
      | apply State.ledAdd_kept | apply State.sendAck_kept

theorem State.takeStreamData_kept {mm : Bool} {sK : State} (s : State) (c : Ctl) (p : Peer) (d : List Byte) (hk : Kept mm sK s) : Kept mm sK
    (State.takeStreamData s c p d) := by
  unfold State.takeStreamData
  repeat' with_reducible first | assumption | apply State.onDatagram_kept | apply State.streamData_kept | intro _

theorem execStreamData_kept {mm : Bool} (t : Nat) (port : Ctl) (peer : Peer) (d : List Byte) (s : State) : KeptN mm s (execStreamData t port
    peer d s) := by
  unfold execStreamData
  repeat' with_reducible first
      | exact Kept.refl _ | apply KeptN.next | apply Kept.tickTo | apply State.kiskoIn_kept | apply State.takeStreamData_kept | intro _

theorem State.streamAck_kept {mm : Bool} {sK : State} (s : State) (c : Ctl) (p : Peer) (d : List Byte) (slot : Fin 64) (hk : Kept mm sK s) :
    Kept mm sK (State.streamAck s c p d slot) := by
  unfold State.streamAck
  repeat' with_reducible first
      | assumption | refine Kept.ite (fun _ => ?_) (fun _ => ?_) | apply State.refuseDatagram_kept | apply State.setStream_kept
      | apply State.ledMove_kept | apply State.consume_kept | apply State.queueMoved_kept

theorem State.takeStreamAck_kept {mm : Bool} {sK : State} (s : State) (c : Ctl) (p : Peer) (d : List Byte) (hk : Kept mm sK s) : Kept mm sK
    (State.takeStreamAck s c p d) := by
  unfold State.takeStreamAck
  repeat' with_reducible first | assumption | apply State.onDatagram_kept | apply State.streamAck_kept | intro _

theorem execStreamAck_kept {mm : Bool} (t : Nat) (port : Ctl) (peer : Peer) (d : List Byte) (s : State) : KeptN mm s (execStreamAck t port
    peer d s) := by
  unfold execStreamAck
  repeat' with_reducible first
      | exact Kept.refl _ | apply KeptN.next | apply Kept.tickTo | apply State.kiskoIn_kept | apply State.takeStreamAck_kept | intro _

theorem State.takeKisko_kept {sK : State} (s : State) (c : Ctl) (p : Peer) (d : List Byte) (hk : Kept false sK s) : Kept false sK
    (State.takeKisko s c p d) := by
  unfold State.takeKisko
  repeat' with_reducible first
      | assumption | apply State.takeStreamData_kept | apply State.takeStreamAck_kept | apply State.takeHello_kept
      | apply State.takeProof_kept | apply State.takeClose_kept | apply State.takeRequest_kept | split

theorem State.resend_kept {mm : Bool} {sK : State} (s : State) (i first n : Nat) (fuel : Nat) (hk : Kept mm sK s) : Kept mm sK (State.resend
    s i first n fuel) := by
  induction fuel generalizing s i first n with
  | zero =>
    unfold State.resend
    repeat' with_reducible first
        | assumption | refine Kept.ite (fun _ => ?_) (fun _ => ?_) | apply State.sendGranules_kept | refine Kept.of_eq2 (by assumption) ?_
        | split
  | succ k ih =>
    unfold State.resend
    repeat' with_reducible first
        | assumption | refine Kept.ite (fun _ => ?_) (fun _ => ?_) | apply State.sendGranules_kept | refine ih _ _ _ _ ?_
        | refine Kept.of_eq2 (by assumption) ?_ | split

theorem execStreamRto_kept {mm : Bool} (t : Nat) (stream : Fin 128) (s : State) : KeptN mm s (execStreamRto t stream s) := by
  unfold execStreamRto
  repeat' with_reducible first
      | exact Kept.refl _ | apply KeptN.next | refine Kept.ite (fun _ => ?_) (fun _ => ?_) | apply Kept.tickTo | apply State.resend_kept
      | apply State.setStream_kept

theorem State.ptpAnnounce_kept {mm : Bool} {sK : State} (s : State) (k m : Nat) (b : List Byte) (hk : Kept mm sK s) : Kept mm sK
    (State.ptpAnnounce s k m b) := by
  unfold State.ptpAnnounce
  repeat' with_reducible first
      | assumption | refine Kept.ite (fun _ => ?_) (fun _ => ?_) | apply Kept.setReg | apply State.setPtp_kept | split | dsimp only

theorem State.ptpDelayReq_kept {mm : Bool} {sK : State} (s : State) (k m : Nat) (peer : Peer) (hk : Kept mm sK s) : Kept mm sK
    (State.ptpDelayReq s k m peer) := by
  unfold State.ptpDelayReq
  repeat' with_reducible first | assumption | apply State.setPtp_kept | apply State.sendUdp_kept

theorem State.ptpMeasured_kept {mm : Bool} {sK : State} (s : State) (k sender sync : Nat) (t1 : Int) (hk : Kept mm sK s) : Kept mm sK
    (State.ptpMeasured s k sender sync t1) := by
  unfold State.ptpMeasured
  repeat' with_reducible first | assumption | apply State.setPtp_kept | apply State.ptpExchange_kept | split | dsimp only

theorem State.ptpSyncMsg_kept {mm : Bool} {sK : State} (s : State) (k m : Nat) (peer : Peer) (b : List Byte) (hk : Kept mm sK s) : Kept mm
    sK (State.ptpSyncMsg s k m peer b) := by
  unfold State.ptpSyncMsg
  repeat' with_reducible first
      | assumption | refine Kept.ite (fun _ => ?_) (fun _ => ?_) | apply State.setPtp_kept | apply State.ptpMeasured_kept
      | apply State.ptpDelayReq_kept

theorem State.ptpFollowUp_kept {mm : Bool} {sK : State} (s : State) (k : Nat) (b : List Byte) (hk : Kept mm sK s) : Kept mm sK
    (State.ptpFollowUp s k b) := by
  unfold State.ptpFollowUp
  repeat' with_reducible first | assumption | refine Kept.ite (fun _ => ?_) (fun _ => ?_) | apply State.ptpMeasured_kept | split

theorem State.ptpDelayResp_kept {mm : Bool} {sK : State} (s : State) (k m : Nat) (b : List Byte) (hk : Kept mm sK s) : Kept mm sK
    (State.ptpDelayResp s k m b) := by
  unfold State.ptpDelayResp
  repeat' with_reducible first
      | assumption | refine Kept.ite (fun _ => ?_) (fun _ => ?_) | apply Kept.setReg | apply State.setPtp_kept
      | apply State.ptpExchange_kept | split | dsimp only

theorem State.ptpTake_kept {mm : Bool} {sK : State} (s : State) (k m : Nat) (peer : Peer) (b : List Byte) (hk : Kept mm sK s) : Kept mm sK
    (State.ptpTake s k m peer b) := by
  unfold State.ptpTake
  repeat' with_reducible first
      | assumption | refine Kept.ite (fun _ => ?_) (fun _ => ?_) | apply State.ptpAnnounce_kept | apply State.ptpSyncMsg_kept
      | apply State.ptpFollowUp_kept | apply State.ptpDelayResp_kept | split

theorem State.ptpMessage_kept {mm : Bool} {sK : State} (s : State) (m : Nat) (peer : Peer) (b : List Byte) (hk : Kept mm sK s) : Kept mm sK
    (State.ptpMessage s m peer b) := by
  unfold State.ptpMessage
  repeat' with_reducible first
      | assumption | refine Kept.ite (fun _ => ?_) (fun _ => ?_) | refine Kept.foldl _ (fun _ _ _ => ?_) _ _ ?_ | apply State.ptpTake_kept

theorem State.udpIn_kept {sK : State} (s : State) (c : Ctl) (p : Peer) (d : List Byte) (hk : Kept false sK s) : Kept false sK (State.udpIn s
    c p d) := by
  unfold State.udpIn
  repeat' with_reducible first
      | assumption | refine Kept.ite (fun _ => ?_) (fun _ => ?_) | apply State.ptpMessage_kept | apply State.takeKisko_kept
      | apply State.bump_kept

theorem State.frameIn_kept {sK : State} (s : State) (c : Ctl) (frame : List Byte) (hk : Kept false sK s) : Kept false sK (State.frameIn s c
    frame) := by
  unfold State.frameIn
  repeat' with_reducible first
      | assumption | refine Kept.ite (fun _ => ?_) (fun _ => ?_) | apply State.bump_kept | apply State.ethSend_kept
      | apply State.udpIn_kept | split | dsimp only

theorem execManagementFrame_kept (t : Nat) (c : Ctl) (frame : List Byte) (s : State) : KeptN false s (execManagementFrame t c frame s) := by
  unfold execManagementFrame
  repeat' with_reducible first
      | exact Kept.refl _ | apply KeptN.next | refine Kept.ite (fun _ => ?_) (fun _ => ?_) | apply Kept.tickTo | apply State.frameIn_kept
      | apply State.bump_kept

theorem State.slotWrite_kept {sK : State} (s : State) (slot off : Nat) (b : List Byte) (hk : Kept false sK s) : Kept false sK
    (State.slotWrite s slot off b) := by
  unfold State.slotWrite
  repeat' with_reducible first
      | assumption | refine Kept.ite (fun _ => ?_) (fun _ => ?_) | (rw [State.mk_built]; apply Kept.upd)
      | (rw [State.mk_built]; apply Kept.mem) | exact id | apply dramWrite_wf | split

theorem State.debugRead_kept {mm : Bool} {sK : State} (s : State) (addr : Nat) (hk : Kept mm sK s) : KeptO mm sK (fun r => r.2.2)
    (State.debugRead s addr) := by
  unfold State.debugRead
  repeat' with_reducible first
      | assumption | apply KeptO.some | refine KeptO.map (fun _ _ => ?_) | refine Kept.ite (fun _ => ?_) (fun _ => ?_)
      | apply State.aliasLoad_kept | apply State.failObj_kept | apply State.tally_kept | split | dsimp only

theorem State.debugStore_kept {sK : State} (s : State) (place : DebugPlace) (en : Nat) (data : List Byte) (hk : Kept false sK s) : Kept
    false sK (State.debugStore s place en data).2 := by
  unfold State.debugStore
  repeat' with_reducible first
      | assumption | refine Kept.ite (fun _ => ?_) (fun _ => ?_) | refine Kept.foldl _ (fun _ _ _ => ?_) _ _ ?_
      | refine Kept.ite_snd (fun _ => ?_) (fun _ => ?_) | apply State.slotWrite_kept | apply State.setBad_kept | apply State.netFeed_kept
      | apply State.feedWrite_kept | (rw [State.mk_built]; apply Kept.mem) | exact id | apply dramWrite_wf | split

theorem State.debugMemWrite_kept {sK : State} (s : State) (addr en : Nat) (data : List Byte) (hk : Kept false sK s) : KeptO false sK
    Prod.snd (State.debugMemWrite s addr en data) := by
  unfold State.debugMemWrite
  repeat' with_reducible first
      | assumption | exact KeptO.none | apply KeptO.some | refine KeptO.ite (fun _ => ?_) (fun _ => ?_) | apply State.tally_kept
      | apply State.memWriteReq_kept | refine Kept.of_eq2 (by assumption) ?_ | split

theorem State.debugObjWrite_kept {sK : State} (s : State) (addr o off en : Nat) (data : List Byte) (hk : Kept false sK s) : Kept false sK
    (State.debugObjWrite s addr o off en data).2 := by
  unfold State.debugObjWrite
  repeat' with_reducible first
      | assumption | refine Kept.foldl2 _ (fun _ _ _ => ?_) _ _ ?_ | refine Kept.ite_snd (fun _ => ?_) (fun _ => ?_)
      | apply State.failObj_kept | apply State.aliasStore_kept

theorem State.debugWrite_kept {sK : State} (s : State) (addr en : Nat) (data : List Byte) (hk : Kept false sK s) : KeptO false sK Prod.snd
    (State.debugWrite s addr en data) := by
  unfold State.debugWrite
  repeat' with_reducible first
      | assumption | apply KeptO.some | refine Kept.ite_snd (fun _ => ?_) (fun _ => ?_) | apply State.debugObjWrite_kept
      | apply State.debugMemWrite_kept | apply State.debugStore_kept | apply State.tally_kept | split | dsimp only

theorem State.debugReset_kept {mm : Bool} {sK : State} (s : State) (data : List Byte) (hk : Kept mm sK s) : Kept mm sK (State.debugReset s
    data).2 := by
  unfold State.debugReset
  repeat' with_reducible first
      | assumption | refine Kept.ite_snd (fun _ => ?_) (fun _ => ?_) | apply State.tally_kept | (rw [State.mk_built]; apply Kept.upd)

theorem State.debugDo_kept {sK : State} (s : State) (req : List Byte) (hk : Kept false sK s) : KeptO false sK (fun r => r.2.2)
    (State.debugDo s req) := by
  unfold State.debugDo
  repeat' with_reducible first
      | assumption | apply KeptO.some | refine KeptO.map (fun _ _ => ?_) | apply State.debugRead_kept | apply State.debugWrite_kept
      | apply State.debugReset_kept | apply State.tally_kept | refine KeptO.at2 (by assumption) ?_ | split

theorem State.sendOneWire_kept {mm : Bool} {sK : State} (s : State) (r : List Byte) (hk : Kept mm sK s) : Kept mm sK (State.sendOneWire s r) := by
  unfold State.sendOneWire
  repeat' with_reducible first | assumption | (rw [State.mk_built]; apply Kept.upd)

theorem State.debugDone_kept {mm : Bool} {sK : State} (s : State) (tap : Bool) (st : Status) (data : List Byte) (hk : Kept mm sK s) : Kept
    mm sK (State.debugDone s tap st data) := by
  unfold State.debugDone
  repeat' with_reducible first
      | assumption | refine Kept.ite (fun _ => ?_) (fun _ => ?_) | apply State.bump_kept | apply State.sendOneWire_kept
      | (rw [State.mk_built]; apply Kept.upd)

theorem State.debugTimeout_kept {sK : State} (s : State) (tap : Bool) (req : List Byte) (hk : Kept false sK s) : Kept false sK
    (State.debugTimeout s tap req) := by
  unfold State.debugTimeout
  repeat' with_reducible first
      | assumption | refine Kept.ite (fun _ => ?_) (fun _ => ?_) | apply State.drawBool_kept | apply State.debugDo_kept
      | apply State.bump_kept | apply State.debugDone_kept | refine KeptO.at3 (by assumption) ?_ | split

theorem State.debugSteal_kept {mm : Bool} {sK : State} (s : State) (req : List Byte) (since : Nat) (hk : Kept mm sK s) : Kept mm sK
    (State.debugSteal s req since) := by
  unfold State.debugSteal
  repeat' with_reducible first | assumption | refine Kept.ite (fun _ => ?_) (fun _ => ?_) | apply State.stealWord_kept | split

theorem State.debugServe_kept {sK : State} (s : State) (tap : Bool) (op : Nat) (hk : Kept false sK s) : Kept false sK (State.debugServe s
    tap op) := by
  unfold State.debugServe
  repeat' with_reducible first
      | assumption | refine Kept.ite (fun _ => ?_) (fun _ => ?_) | apply State.debugTimeout_kept | apply State.debugDo_kept
      | apply State.debugSteal_kept | apply State.debugDone_kept | refine KeptO.at3 (by assumption) ?_ | split

theorem State.debugIssue_kept {sK : State} (s : State) (tap : Bool) (req : List Byte) (hk : Kept false sK s) : Kept false sK
    (State.debugIssue s tap req) := by
  unfold State.debugIssue
  repeat' with_reducible first
      | assumption | refine Kept.ite (fun _ => ?_) (fun _ => ?_) | apply State.debugDo_kept | apply State.debugDone_kept
      | (rw [State.mk_built]; apply Kept.upd) | refine KeptO.at3 (by assumption) ?_ | split

theorem execDebugRead_kept (t : Nat) (tap : Bool) (s : State) : KeptN false s (execDebugRead t tap s) := by
  unfold execDebugRead
  repeat' with_reducible first | exact Kept.refl _ | apply KeptN.next | apply Kept.tickTo | apply State.debugServe_kept

theorem execDebugWrite_kept (t : Nat) (tap : Bool) (s : State) : KeptN false s (execDebugWrite t tap s) := by
  unfold execDebugWrite
  repeat' with_reducible first | exact Kept.refl _ | apply KeptN.next | apply Kept.tickTo | apply State.debugServe_kept

theorem execDebugStatus_kept (t : Nat) (tap : Bool) (s : State) : KeptN false s (execDebugStatus t tap s) := by
  unfold execDebugStatus
  repeat' with_reducible first | exact Kept.refl _ | apply KeptN.next | apply Kept.tickTo | apply State.debugServe_kept

theorem execDebugReset_kept (t : Nat) (tap : Bool) (mode : Fin 4) (bad : List (Fin 5)) (s : State) : KeptN false s (execDebugReset t tap
    mode bad s) := by
  unfold execDebugReset
  repeat' with_reducible first
      | exact Kept.refl _ | apply KeptN.next | refine Kept.ite (fun _ => ?_) (fun _ => ?_) | apply Kept.tickTo | apply State.pinReset_kept
      | apply State.debugServe_kept

theorem execDebugRequestTimeout_kept (t : Nat) (tap : Bool) (s : State) : KeptN false s (execDebugRequestTimeout t tap s) := by
  unfold execDebugRequestTimeout
  repeat' with_reducible first
      | exact Kept.refl _ | apply KeptN.next | refine Kept.ite (fun _ => ?_) (fun _ => ?_) | apply Kept.tickTo
      | apply State.debugTimeout_kept | split

theorem execDbg_kept (t : Nat) (req : List Byte) (s : State) : KeptN false s (execDbg t req s) := by
  unfold execDbg
  repeat' with_reducible first
      | exact Kept.refl _ | apply KeptN.next | refine Kept.ite (fun _ => ?_) (fun _ => ?_) | apply Kept.tickTo
      | apply State.drawBytes_kept | apply State.bump_kept | apply State.debugIssue_kept | (rw [State.mk_built]; apply Kept.upd) | split

theorem execTapInstruction_kept {mm : Bool} (t : Nat) (opcode : BitVec 8) (s : State) : KeptN mm s (execTapInstruction t opcode s) := by
  unfold execTapInstruction
  repeat' with_reducible first
      | exact Kept.refl _ | apply KeptN.next | refine Kept.ite (fun _ => ?_) (fun _ => ?_) | apply Kept.tickTo | apply State.bump_kept
      | (rw [State.mk_built]; apply Kept.upd) | split | dsimp only

theorem execBreak_kept {mm : Bool} (t : Nat) (s : State) : KeptN mm s (execBreak t s) := by
  unfold execBreak
  repeat' with_reducible first
      | exact Kept.refl _ | apply KeptN.next | apply Kept.tickTo | apply State.abandonFrame_kept | (rw [State.mk_built]; apply Kept.upd)

theorem execOneWireFrame_kept (t : Nat) (frame : List Byte) (s : State) : KeptN false s (execOneWireFrame t frame s) := by
  unfold execOneWireFrame
  repeat' with_reducible first
      | exact Kept.refl _ | apply KeptN.next | refine Kept.ite (fun _ => ?_) (fun _ => ?_) | apply Kept.tickTo
      | apply State.debugTimeout_kept | apply State.debugIssue_kept | apply State.bump_kept | apply State.sendOneWire_kept
      | (rw [State.mk_built]; apply Kept.upd) | split

theorem State.keepRequests_kept {mm : Bool} {sK : State} (s : State) (before : State) (hk : Kept mm sK s) : Kept mm sK (State.keepRequests s
    before) := by
  unfold State.keepRequests
  repeat' with_reducible first | assumption | refine Kept.foldl _ (fun _ _ _ => ?_) _ _ ?_ | apply Kept.setReg

theorem State.netPerform_kept {sK : State} (s : State) (p : NetPkt) (hk : Kept false sK s) : KeptO false sK (fun r => r.2.2)
    (State.netPerform s p) := by
  unfold State.netPerform
  repeat' with_reducible first
      | assumption | exact KeptO.none | apply KeptO.some | refine KeptO.ite (fun _ => ?_) (fun _ => ?_)
      | refine Kept.ite (fun _ => ?_) (fun _ => ?_) | apply State.memReadLines_kept | apply State.memWriteBytes_kept
      | apply State.aliasLoad_kept | apply State.aliasStore_kept | apply State.keepRequests_kept | refine Kept.of_eq2 (by assumption) ?_
      | split

theorem State.ejectFlits_kept {mm : Bool} {sK : State} (s : State) (rs n : Nat) (hk : Kept mm sK s) : Kept mm sK (State.ejectFlits s rs n) := by
  unfold State.ejectFlits
  repeat' with_reducible first | assumption | apply State.bump_kept | apply State.countEvent_kept

theorem State.takeFlits_kept {mm : Bool} {sK : State} (s : State) (p : NetPkt) (hk : Kept mm sK s) : Kept mm sK (State.takeFlits s p) := by
  unfold State.takeFlits
  repeat' with_reducible first | assumption | apply State.freeFlits_kept | apply State.ejectFlits_kept | apply State.grantPool_kept

theorem State.holdPkt_kept {mm : Bool} {sK : State} (s : State) (p : NetPkt) (since : Nat) (hk : Kept mm sK s) : Kept mm sK (State.holdPkt s
    p since) := by
  unfold State.holdPkt
  repeat' with_reducible first | assumption | apply State.setStop_kept

theorem State.answerPkt_kept {sK : State} (s : State) (p : NetPkt) (since : Nat) (hk : Kept false sK s) : Kept false sK (State.answerPkt s p
    since) := by
  unfold State.answerPkt
  repeat' with_reducible first
      | assumption | apply State.netPerform_kept | apply State.respond_kept | apply State.checkFenced_kept | apply State.holdPkt_kept
      | refine KeptO.at3 (by assumption) ?_ | split

theorem State.claimPkt_kept {mm : Bool} {sK : State} (s : State) (p : NetPkt) (hk : Kept mm sK s) : Kept mm sK (State.claimPkt s p) := by
  unfold State.claimPkt
  repeat' with_reducible first | assumption | apply State.setStop_kept | apply State.dropPkt_kept

theorem execPacketEjection_kept (t : Nat) (src dst : Fin 98) (cls : Fin 3) (how : Tether) (s : State) : KeptN false s (execPacketEjection t
    src dst cls how s) := by
  unfold execPacketEjection
  repeat' with_reducible first
      | exact Kept.refl _ | apply KeptN.next | refine Kept.ite (fun _ => ?_) (fun _ => ?_) | apply Kept.tickTo | apply State.netTurn_kept
      | apply State.setStop_kept | apply State.answerPkt_kept | apply State.claimPkt_kept | apply State.freeFlits_kept
      | apply State.bump_kept | apply State.respond_kept | apply State.grantPool_kept | apply State.checkFenced_kept
      | apply State.stopAnswers_kept | apply State.dropPkt_kept | apply State.takeFlits_kept | apply State.holdPkt_kept | split

theorem State.bmUpsets_kept {mm : Bool} {sK : State} (s : State) (m : Nat) (l : List (Nat × Nat)) (hk : Kept mm sK s) : Kept mm sK
    (State.bmUpsets s m l) := by
  unfold State.bmUpsets
  repeat' with_reducible first | assumption | refine Kept.foldl _ (fun _ _ _ => ?_) _ _ ?_ | (rw [State.mk_built]; apply Kept.upd) | split

theorem execBlockMemoryAccess_kept {mm : Bool} (t : Nat) (m : Fin 2304) (upsets : List (Nat × Nat)) (s : State) : KeptN mm s
    (execBlockMemoryAccess t m upsets s) := by
  unfold execBlockMemoryAccess
  repeat' with_reducible first
      | exact Kept.refl _ | apply KeptN.next | apply Kept.tickTo | apply State.fabricPre_kept | apply State.bmUpsets_kept
      | apply State.bmAccess_kept

theorem execFabricLaneWord_kept {mm : Bool} (t : Nat) (q : Fin 4) (i : Fin 64) (s : State) : KeptN mm s (execFabricLaneWord t q i s) := by
  unfold execFabricLaneWord
  repeat' with_reducible first
      | exact Kept.refl _ | apply KeptN.next | refine Kept.ite (fun _ => ?_) (fun _ => ?_) | apply Kept.tickTo
      | apply State.fabricPre_kept | apply State.setFlBuf_kept | apply State.bump_kept | apply State.flMove_kept | split

theorem execReceivePortWord_kept {mm : Bool} (t : Nat) (ch : Fin 144) (s : State) : KeptN mm s (execReceivePortWord t ch s) := by
  unfold execReceivePortWord
  repeat' with_reducible first
      | exact Kept.refl _ | apply KeptN.next | refine Kept.ite (fun _ => ?_) (fun _ => ?_) | apply Kept.tickTo
      | apply State.fabricPre_kept | apply State.setSer_kept | apply State.bump_kept | apply State.setFlag_kept
      | (rw [State.mk_built]; apply Kept.upd) | split

theorem State.qportBusy_kept {mm : Bool} {sK : State} (s : State) (u : Nat) (gran : Option (List Byte)) (hk : Kept mm sK s) : Kept mm sK
    (State.qportBusy s u gran) := by
  unfold State.qportBusy
  repeat' with_reducible first | assumption | apply State.setQport_kept

theorem execQueuePortOffer_kept {mm : Bool} (t : Nat) (q : Fin 4) (k : Fin 2) (s : State) : KeptN mm s (execQueuePortOffer t q k s) := by
  unfold execQueuePortOffer
  repeat' with_reducible first
      | exact Kept.refl _ | apply KeptN.next | refine Kept.ite (fun _ => ?_) (fun _ => ?_) | apply Kept.tickTo
      | apply State.fabricPre_kept | apply State.bump_kept | apply State.qportBusy_kept | apply State.setQport_kept
      | apply State.offer_kept

theorem execQueuePortTake_kept {mm : Bool} (t : Nat) (q : Fin 4) (k : Fin 2) (s : State) : KeptN mm s (execQueuePortTake t q k s) := by
  unfold execQueuePortTake
  repeat' with_reducible first
      | exact Kept.refl _ | apply KeptN.next | refine Kept.ite (fun _ => ?_) (fun _ => ?_) | apply Kept.tickTo
      | apply State.fabricPre_kept | apply State.qportBusy_kept | apply State.consume_kept | apply State.queueMoved_kept
      | apply State.bump_kept | (rw [State.mk_built]; apply Kept.upd) | split

end Sys2Proof.Machine
end

