-- ==== Sys2Proof/Laws/KeptExec.lean ====
section
/-! SUPPORT. Every command keeps the queue, time, tables and memories as `Kept` says; and a command that stores nothing leaves every
addressed memory as it was. -/

namespace Sys2Proof.Machine

/-- Every command answers a next state that keeps. -/
theorem exec_kept (c : Instr) (s : State) : KeptN false s (exec c s) := by
  cases c
  · rw [exec_registerWrite]; exact execRegisterWrite_kept ..
  · rw [exec_read]; exact execRead_kept (ty := 0) ..
  · rw [exec_write]; exact execWrite_kept ..
  · rw [exec_maskWrite]; exact execMaskWrite_kept ..
  · rw [exec_segOpen]; exact execSegOpen_kept ..
  · rw [exec_segWrite]; exact execSegWrite_kept ..
  · rw [exec_segRead]; exact execSegRead_kept ..
  · rw [exec_segCommit]; exact execSegCommit_kept ..
  · rw [exec_segAbort]; exact execSegAbort_kept ..
  · rw [exec_dataStore]; exact execDataStore_kept ..
  · rw [exec_segTransferTimeout]; exact execSegTransferTimeout_kept ..
  · rw [exec_streamOpen]; exact execStreamOpen_kept ..
  · rw [exec_streamClose]; exact execStreamClose_kept ..
  · rw [exec_ping]; exact execPing_kept ..
  · rw [exec_hello]; exact execHello_kept ..
  · rw [exec_proof]; exact execProof_kept ..
  · rw [exec_close]; exact execClose_kept ..
  · rw [exec_sessionTimeout]; exact execSessionTimeout_kept ..
  · rw [exec_requestDatagram]; exact execRequestDatagram_kept ..
  · rw [exec_streamData]; exact execStreamData_kept ..
  · rw [exec_streamAck]; exact execStreamAck_kept ..
  · rw [exec_streamRto]; exact execStreamRto_kept ..
  · rw [exec_claim]; exact execClaim_kept ..
  · rw [exec_offer]; exact execOffer_kept ..
  · rw [exec_accept]; exact execAccept_kept ..
  · rw [exec_offerTimeout]; exact execOfferTimeout_kept ..
  · rw [exec_take]; exact execTake_kept ..
  · rw [exec_handoverRequest]; exact execHandoverRequest_kept ..
  · rw [exec_heartbeat]; exact execHeartbeat_kept ..
  · rw [exec_heartbeatWindowEnd]; exact execHeartbeatWindowEnd_kept ..
  · rw [exec_firmwareImageCommit]; exact execFirmwareImageCommit_kept ..
  · rw [exec_keyCommit]; exact execKeyCommit_kept ..
  · rw [exec_ledgerSnap]; exact execLedgerSnap_kept ..
  · rw [exec_markerFrameSearch]; exact execMarkerFrameSearch_kept ..
  · rw [exec_markerFrameSlot]; exact execMarkerFrameSlot_kept ..
  · rw [exec_ttResync]; exact execTtResync_kept ..
  · rw [exec_scheduledArm]; exact execScheduledArm_kept ..
  · rw [exec_scheduledCancel]; exact execScheduledCancel_kept ..
  · rw [exec_ptpSync]; exact execPtpSync_kept ..
  · rw [exec_ptpSyncLoss]; exact execPtpSyncLoss_kept ..
  · rw [exec_holdoverLimit]; exact execHoldoverLimit_kept ..
  · rw [exec_switchArm]; exact execSwitchArm_kept ..
  · rw [exec_switchCancel]; exact execSwitchCancel_kept ..
  · rw [exec_activeDomainSwitch]; exact execActiveDomainSwitch_kept ..
  · rw [exec_slewEnd]; exact execSlewEnd_kept ..
  · rw [exec_arm]; exact execArm_kept ..
  · rw [exec_cancel]; exact execCancel_kept ..
  · rw [exec_triggerPulse]; exact execTriggerPulse_kept ..
  · rw [exec_triggerModeWrite]; exact execTriggerModeWrite_kept ..
  · rw [exec_triggerInputEdge]; exact execTriggerInputEdge_kept ..
  · rw [exec_deadtimeEnd]; exact execDeadtimeEnd_kept ..
  · rw [exec_mapCommit]; exact execMapCommit_kept ..
  · rw [exec_bankSwitchArm]; exact execBankSwitchArm_kept ..
  · rw [exec_bankSwitchCancel]; exact execBankSwitchCancel_kept ..
  · rw [exec_bankSwitch]; exact execBankSwitch_kept ..
  · rw [exec_fifoOutputSwitch]; exact execFifoOutputSwitch_kept ..
  · rw [exec_timingSetsCommit]; exact execTimingSetsCommit_kept ..
  · rw [exec_quadScheduleCommit]; exact execQuadScheduleCommit_kept ..
  · rw [exec_vectorBegin]; exact execVectorBegin_kept ..
  · rw [exec_patternStart]; exact execPatternStart_kept ..
  · rw [exec_strobe]; exact execStrobe_kept ..
  · rw [exec_channelStop]; exact execChannelStop_kept ..
  · rw [exec_trimWrite]; exact execTrimWrite_kept ..
  · rw [exec_parkCodeWrite]; exact execParkCodeWrite_kept ..
  · rw [exec_modeChange]; exact execModeChange_kept ..
  · rw [exec_deskewWrite]; exact execDeskewWrite_kept ..
  · rw [exec_bgcalMeasurement]; exact execBgcalMeasurement_kept ..
  · rw [exec_next]; exact execNext_kept ..
  · rw [exec_jmp]; exact execJmp_kept ..
  · rw [exec_call]; exact execCall_kept ..
  · rw [exec_ret]; exact execRet_kept ..
  · rw [exec_loop]; exact execLoop_kept ..
  · rw [exec_ldlci]; exact execLdlci_kept ..
  · rw [exec_ldlc]; exact execLdlc_kept ..
  · rw [exec_waittt]; exact execWaittt_kept ..
  · rw [exec_waitttRetire]; exact execWaitttRetire_kept ..
  · rw [exec_waitc]; exact execWaitc_kept ..
  · rw [exec_waitcRetire]; exact execWaitcRetire_kept ..
  · rw [exec_stop]; exact execStop_kept ..
  · rw [exec_site]; exact execSite_kept ..
  · rw [exec_scrld]; exact execScrld_kept ..
  · rw [exec_hclaim]; exact execHclaim_kept ..
  · rw [exec_claimDecision]; exact execClaimDecision_kept ..
  · rw [exec_hrelease]; exact execHrelease_kept ..
  · rw [exec_releaseDisarm]; exact execReleaseDisarm_kept ..
  · rw [exec_lds]; exact execLds_kept ..
  · rw [exec_sts]; exact execSts_kept ..
  · rw [exec_mov]; exact execMov_kept ..
  · rw [exec_add]; exact execAdd_kept ..
  · rw [exec_sub]; exact execSub_kept ..
  · rw [exec_and]; exact execAnd_kept ..
  · rw [exec_or]; exact execOr_kept ..
  · rw [exec_xor]; exact execXor_kept ..
  · rw [exec_shl]; exact execShl_kept ..
  · rw [exec_shr]; exact execShr_kept ..
  · rw [exec_cmp]; exact execCmp_kept ..
  · rw [exec_tst]; exact execTst_kept ..
  · rw [exec_movi]; exact execMovi_kept ..
  · rw [exec_addi]; exact execAddi_kept ..
  · rw [exec_subi]; exact execSubi_kept ..
  · rw [exec_andi]; exact execAndi_kept ..
  · rw [exec_ori]; exact execOri_kept ..
  · rw [exec_xori]; exact execXori_kept ..
  · rw [exec_shli]; exact execShli_kept ..
  · rw [exec_shri]; exact execShri_kept ..
  · rw [exec_cmpi]; exact execCmpi_kept ..
  · rw [exec_tsti]; exact execTsti_kept ..
  · rw [exec_ldk0]; exact execLdk0_kept ..
  · rw [exec_ldk1]; exact execLdk1_kept ..
  · rw [exec_ldk2]; exact execLdk2_kept ..
  · rw [exec_refreshTimer]; exact execRefreshTimer_kept ..
  · rw [exec_startArm]; exact execStartArm_kept ..
  · rw [exec_startCancel]; exact execStartCancel_kept ..
  · rw [exec_engineStart]; exact execEngineStart_kept ..
  · rw [exec_stopReq]; exact execStopReq_kept ..
  · rw [exec_programLoad]; exact execProgramLoad_kept ..
  · rw [exec_loadComplete]; exact execLoadComplete_kept ..
  · rw [exec_failedMark]; exact execFailedMark_kept ..
  · rw [exec_feedSchedCommit]; exact execFeedSchedCommit_kept ..
  · rw [exec_mac]; exact execMac_kept ..
  · rw [exec_mmx]; exact execMmx_kept ..
  · rw [exec_mmclr]; exact execMmclr_kept ..
  · rw [exec_accrd]; exact execAccrd_kept ..
  · rw [exec_mmrd]; exact execMmrd_kept ..
  · rw [exec_accset]; exact execAccset_kept ..
  · rw [exec_ldop]; exact execLdop_kept ..
  · rw [exec_switch]; exact execSwitch_kept ..
  · rw [exec_resrd]; exact execResrd_kept ..
  · rw [exec_stepResult]; exact execStepResult_kept ..
  · rw [exec_dspStateCommit]; exact execDspStateCommit_kept ..
  · rw [exec_table]; exact execTable_kept ..
  · rw [exec_siteMask]; exact execSiteMask_kept ..
  · rw [exec_forceRelease]; exact execForceRelease_kept ..
  · rw [exec_stickyClear]; exact execStickyClear_kept ..
  · rw [exec_slotWindowEnd]; exact execSlotWindowEnd_kept ..
  · rw [exec_failsafeEntry]; exact execFailsafeEntry_kept ..
  · rw [exec_clearFailsafe]; exact execClearFailsafe_kept ..
  · rw [exec_sitesCommit]; exact execSitesCommit_kept ..
  · rw [exec_siteFailsClear]; exact execSiteFailsClear_kept ..
  · rw [exec_chanCfgCommit]; exact execChanCfgCommit_kept ..
  · rw [exec_wordRecordClose]; exact execWordRecordClose_kept ..
  · rw [exec_runIdleExpiry]; exact execRunIdleExpiry_kept ..
  · rw [exec_fcFlush]; exact execFcFlush_kept ..
  · rw [exec_runEnWrite]; exact execRunEnWrite_kept ..
  · rw [exec_recordOffer]; exact execRecordOffer_kept ..
  · rw [exec_descCommit]; exact execDescCommit_kept ..
  · rw [exec_enable]; exact execEnable_kept ..
  · rw [exec_drainComplete]; exact execDrainComplete_kept ..
  · rw [exec_producerOffer]; exact execProducerOffer_kept ..
  · rw [exec_ringWriteComplete]; exact execRingWriteComplete_kept ..
  · rw [exec_prodDoorbell]; exact execProdDoorbell_kept ..
  · rw [exec_consDoorbell]; exact execConsDoorbell_kept ..
  · rw [exec_deadlineArm]; exact execDeadlineArm_kept ..
  · rw [exec_deadlineCancel]; exact execDeadlineCancel_kept ..
  · rw [exec_queueDeadline]; exact execQueueDeadline_kept ..
  · rw [exec_deadline]; exact execDeadline_kept ..
  · rw [exec_queueFlush]; exact execQueueFlush_kept ..
  · rw [exec_repairPresentation]; exact execRepairPresentation_kept ..
  · rw [exec_repairUpdate]; exact execRepairUpdate_kept ..
  · rw [exec_contextsCommit]; exact execContextsCommit_kept ..
  · rw [exec_repairClear]; exact execRepairClear_kept ..
  · rw [exec_report]; exact execReport_kept ..
  · rw [exec_serEn]; exact execSerEn_kept ..
  · rw [exec_serialFill]; exact execSerialFill_kept ..
  · rw [exec_bitslip]; exact execBitslip_kept ..
  · rw [exec_alignment]; exact execAlignment_kept ..
  · rw [exec_cdrLock]; exact execCdrLock_kept ..
  · rw [exec_lockLoss]; exact execLockLoss_kept ..
  · rw [exec_rxAdaptDone]; exact execRxAdaptDone_kept ..
  · rw [exec_prbsWrite]; exact execPrbsWrite_kept ..
  · rw [exec_prbsLock]; exact execPrbsLock_kept ..
  · rw [exec_errClear]; exact execErrClear_kept ..
  · rw [exec_eyeStart]; exact execEyeStart_kept ..
  · rw [exec_eyePointEnd]; exact execEyePointEnd_kept ..
  · rw [exec_yardEnable]; exact execYardEnable_kept ..
  · rw [exec_train]; exact execTrain_kept ..
  · rw [exec_trainingLimit]; exact execTrainingLimit_kept ..
  · rw [exec_linkUp]; exact execLinkUp_kept ..
  · rw [exec_yardFrame]; exact execYardFrame_kept ..
  · rw [exec_data]; exact execData_kept ..
  · rw [exec_credit]; exact execCredit_kept ..
  · rw [exec_rekey]; exact execRekey_kept ..
  · rw [exec_rekeyAck]; exact execRekeyAck_kept ..
  · rw [exec_tag]; exact execTag_kept ..
  · rw [exec_nak]; exact execNak_kept ..
  · rw [exec_replayTimeout]; exact execReplayTimeout_kept ..
  · rw [exec_keyRotate]; exact execKeyRotate_kept ..
  · rw [exec_linkDown]; exact execLinkDown_kept ..
  · rw [exec_autoRetrain]; exact execAutoRetrain_kept ..
  · rw [exec_vcCfgCommit]; exact execVcCfgCommit_kept ..
  · rw [exec_linkKeyCommit]; exact execLinkKeyCommit_kept ..
  · rw [exec_yardWake]; exact execYardWake_kept ..
  · rw [exec_managementFrame]; exact execManagementFrame_kept ..
  · rw [exec_managementWake]; exact execManagementWake_kept ..
  · rw [exec_phyMode]; exact execPhyMode_kept ..
  · rw [exec_mgtLinkChange]; exact execMgtLinkChange_kept ..
  · rw [exec_fabricLaneWord]; exact execFabricLaneWord_kept ..
  · rw [exec_receivePortWord]; exact execReceivePortWord_kept ..
  · rw [exec_queuePortOffer]; exact execQueuePortOffer_kept ..
  · rw [exec_queuePortTake]; exact execQueuePortTake_kept ..
  · rw [exec_queuePortBind]; exact execQueuePortBind_kept ..
  · rw [exec_source]; exact execSource_kept ..
  · rw [exec_idelay]; exact execIdelay_kept ..
  · rw [exec_sync]; exact execSync_kept ..
  · rw [exec_header]; exact execHeader_kept ..
  · rw [exec_locate]; exact execLocate_kept ..
  · rw [exec_writeFrames]; exact execWriteFrames_kept ..
  · rw [exec_repeat]; exact execRepeat_kept ..
  · rw [exec_zwrite]; exact execZwrite_kept ..
  · rw [exec_crc]; exact execCrc_kept ..
  · rw [exec_startup]; exact execStartup_kept ..
  · rw [exec_fwload]; exact execFwload_kept ..
  · rw [exec_seal]; exact execSeal_kept ..
  · rw [exec_nop]; exact execNop_kept ..
  · rw [exec_configClearDone]; exact execConfigClearDone_kept ..
  · rw [exec_waitLock]; exact execWaitLock_kept ..
  · rw [exec_waitLockTimeout]; exact execWaitLockTimeout_kept ..
  · rw [exec_waitTime]; exact execWaitTime_kept ..
  · rw [exec_releaseGsr]; exact execReleaseGsr_kept ..
  · rw [exec_enableWrites]; exact execEnableWrites_kept ..
  · rw [exec_releaseGpio]; exact execReleaseGpio_kept ..
  · rw [exec_releaseOutputs]; exact execReleaseOutputs_kept ..
  · rw [exec_startMc]; exact execStartMc_kept ..
  · rw [exec_doneStep]; exact execDoneStep_kept ..
  · rw [exec_endStep]; exact execEndStep_kept ..
  · rw [exec_paddockStreamOpen]; exact execPaddockStreamOpen_kept ..
  · rw [exec_shadowDiscard]; exact execShadowDiscard_kept ..
  · rw [exec_swapArm]; exact execSwapArm_kept ..
  · rw [exec_swapCancel]; exact execSwapCancel_kept ..
  · rw [exec_paddockSwap]; exact execPaddockSwap_kept ..
  · rw [exec_holdEnd]; exact execHoldEnd_kept ..
  · rw [exec_auditStart]; exact execAuditStart_kept ..
  · rw [exec_auditComplete]; exact execAuditComplete_kept ..
  · rw [exec_autoAudit]; exact execAutoAudit_kept ..
  · rw [exec_networkRequest]; exact execNetworkRequest_kept ..
  · rw [exec_packetEjection]; exact execPacketEjection_kept ..
  · rw [exec_response]; exact execResponse_kept ..
  · rw [exec_rsvReq]; exact execRsvReq_kept ..
  · rw [exec_rsvGrant]; exact execRsvGrant_kept ..
  · rw [exec_creditReturn]; exact execCreditReturn_kept ..
  · rw [exec_turnCreditReturn]; exact execTurnCreditReturn_kept ..
  · rw [exec_standing]; exact execStanding_kept ..
  · rw [exec_fence]; exact execFence_kept ..
  · rw [exec_fenceNotice]; exact execFenceNotice_kept ..
  · rw [exec_fenceAck]; exact execFenceAck_kept ..
  · rw [exec_drainLimit]; exact execDrainLimit_kept ..
  · rw [exec_unfence]; exact execUnfence_kept ..
  · rw [exec_stallLimit]; exact execStallLimit_kept ..
  · rw [exec_respLimit]; exact execRespLimit_kept ..
  · rw [exec_reqLimit]; exact execReqLimit_kept ..
  · rw [exec_isolate]; exact execIsolate_kept ..
  · rw [exec_deisolate]; exact execDeisolate_kept ..
  · rw [exec_binding]; exact execBinding_kept ..
  · rw [exec_networkEvent]; exact execNetworkEvent_kept ..
  · rw [exec_memEnable]; exact execMemEnable_kept ..
  · rw [exec_trainingStepTimeout]; exact execTrainingStepTimeout_kept ..
  · rw [exec_memInitComplete]; exact execMemInitComplete_kept ..
  · rw [exec_retrainInterval]; exact execRetrainInterval_kept ..
  · rw [exec_zqLatch]; exact execZqLatch_kept ..
  · rw [exec_refreshInterval]; exact execRefreshInterval_kept ..
  · rw [exec_mr4Poll]; exact execMr4Poll_kept ..
  · rw [exec_memoryRead]; exact execMemoryRead_kept ..
  · rw [exec_partialWrite]; exact execPartialWrite_kept ..
  · rw [exec_fullLineWrite]; exact execFullLineWrite_kept ..
  · rw [exec_pageReencryption]; exact execPageReencryption_kept ..
  · rw [exec_pageReencryptionDone]; exact execPageReencryptionDone_kept ..
  · rw [exec_regions]; exact execRegions_kept ..
  · rw [exec_regionInitDone]; exact execRegionInitDone_kept ..
  · rw [exec_window]; exact execWindow_kept ..
  · rw [exec_key]; exact execKey_kept ..
  · rw [exec_retire]; exact execRetire_kept ..
  · rw [exec_retireFlushEnd]; exact execRetireFlushEnd_kept ..
  · rw [exec_walkStart]; exact execWalkStart_kept ..
  · rw [exec_walkAbort]; exact execWalkAbort_kept ..
  · rw [exec_walkPage]; exact execWalkPage_kept ..
  · rw [exec_streamsCommit]; exact execStreamsCommit_kept ..
  · rw [exec_portRewind]; exact execPortRewind_kept ..
  · rw [exec_grindLine]; exact execGrindLine_kept ..
  · rw [exec_streamWordTake]; exact execStreamWordTake_kept ..
  · rw [exec_startupMarch]; exact execStartupMarch_kept ..
  · rw [exec_startupMarchDone]; exact execStartupMarchDone_kept ..
  · rw [exec_marchStart]; exact execMarchStart_kept ..
  · rw [exec_marchDone]; exact execMarchDone_kept ..
  · rw [exec_scrubProgram]; exact execScrubProgram_kept ..
  · rw [exec_patrolUnit]; exact execPatrolUnit_kept ..
  · rw [exec_forcedSteal]; exact execForcedSteal_kept ..
  · rw [exec_scrubWaitEnd]; exact execScrubWaitEnd_kept ..
  · rw [exec_clkrefGate]; exact execClkrefGate_kept ..
  · rw [exec_missingEdge]; exact execMissingEdge_kept ..
  · rw [exec_clkrefStable]; exact execClkrefStable_kept ..
  · rw [exec_clkrefLoss]; exact execClkrefLoss_kept ..
  · rw [exec_clkrefRecovery]; exact execClkrefRecovery_kept ..
  · rw [exec_padRelease]; exact execPadRelease_kept ..
  · rw [exec_pllLock]; exact execPllLock_kept ..
  · rw [exec_pllUnlock]; exact execPllUnlock_kept ..
  · rw [exec_clkEnable]; exact execClkEnable_kept ..
  · rw [exec_src]; exact execSrc_kept ..
  · rw [exec_fpllSetting]; exact execFpllSetting_kept ..
  · rw [exec_shedReset]; exact execShedReset_kept ..
  · rw [exec_fenceStep]; exact execFenceStep_kept ..
  · rw [exec_unfenceStep]; exact execUnfenceStep_kept ..
  · rw [exec_setShed]; exact execSetShed_kept ..
  · rw [exec_shedWait]; exact execShedWait_kept ..
  · rw [exec_commit]; exact execCommit_kept ..
  · rw [exec_setState]; exact execSetState_kept ..
  · rw [exec_programEnd]; exact execProgramEnd_kept ..
  · rw [exec_shedProgramCommit]; exact execShedProgramCommit_kept ..
  · rw [exec_sleepArm]; exact execSleepArm_kept ..
  · rw [exec_sleepCancel]; exact execSleepCancel_kept ..
  · rw [exec_sleepEntry]; exact execSleepEntry_kept ..
  · rw [exec_wakeEvent]; exact execWakeEvent_kept ..
  · rw [exec_wakeRequest]; exact execWakeRequest_kept ..
  · rw [exec_runUser]; exact execRunUser_kept ..
  · rw [exec_challenge]; exact execChallenge_kept ..
  · rw [exec_responseWrite]; exact execResponseWrite_kept ..
  · rw [exec_debugLock]; exact execDebugLock_kept ..
  · rw [exec_debugRead]; exact execDebugRead_kept ..
  · rw [exec_debugWrite]; exact execDebugWrite_kept ..
  · rw [exec_debugStatus]; exact execDebugStatus_kept ..
  · rw [exec_debugReset]; exact execDebugReset_kept ..
  · rw [exec_dbg]; exact execDbg_kept ..
  · rw [exec_tapInstruction]; exact execTapInstruction_kept ..
  · rw [exec_break]; exact execBreak_kept ..
  · rw [exec_oneWireFrame]; exact execOneWireFrame_kept ..
  · rw [exec_haltReq]; exact execHaltReq_kept ..
  · rw [exec_resume]; exact execResume_kept ..
  · rw [exec_step]; exact execStep_kept ..
  · rw [exec_controllerHalt]; exact execControllerHalt_kept ..
  · rw [exec_comparatorMatch]; exact execComparatorMatch_kept ..
  · rw [exec_lockedSequenceLimit]; exact execLockedSequenceLimit_kept ..
  · rw [exec_kick]; exact execKick_kept ..
  · rw [exec_watchdogEnable]; exact execWatchdogEnable_kept ..
  · rw [exec_pretimeout]; exact execPretimeout_kept ..
  · rw [exec_watchdogExpiry]; exact execWatchdogExpiry_kept ..
  · rw [exec_engHalt]; exact execEngHalt_kept ..
  · rw [exec_engResume]; exact execEngResume_kept ..
  · rw [exec_engStep]; exact execEngStep_kept ..
  · rw [exec_traceRun]; exact execTraceRun_kept ..
  · rw [exec_traceRecord]; exact execTraceRecord_kept ..
  · rw [exec_traceDrainEnd]; exact execTraceDrainEnd_kept ..
  · rw [exec_traceUser]; exact execTraceUser_kept ..
  · rw [exec_counterClear]; exact execCounterClear_kept ..
  · rw [exec_snap]; exact execSnap_kept ..
  · rw [exec_powerOnReset]; exact execPowerOnReset_kept ..
  · rw [exec_pinReset]; exact execPinReset_kept ..
  · rw [exec_supplyOutOfRange]; exact execSupplyOutOfRange_kept ..
  · rw [exec_supplyBelowThreshold]; exact execSupplyBelowThreshold_kept ..
  · rw [exec_vddqLow]; exact execVddqLow_kept ..
  · rw [exec_tempRefresh]; exact execTempRefresh_kept ..
  · rw [exec_thermalTrip]; exact execThermalTrip_kept ..
  · rw [exec_thermRelease]; exact execThermRelease_kept ..
  · rw [exec_yardFrameSlot]; exact execYardFrameSlot_kept ..
  · rw [exec_selfRefreshExit]; exact execSelfRefreshExit_kept ..
  · rw [exec_shadowClearDone]; exact execShadowClearDone_kept ..
  · rw [exec_recordTimeout]; exact execRecordTimeout_kept ..
  · rw [exec_debugRequestTimeout]; exact execDebugRequestTimeout_kept ..
  · rw [exec_supplyInRange]; exact execSupplyInRange_kept ..
  · rw [exec_pulseEnd]; exact execPulseEnd_kept ..
  · rw [exec_driveEdge]; exact execDriveEdge_kept ..
  · rw [exec_modeChangeDone]; exact execModeChangeDone_kept ..
  · rw [exec_blockMemoryAccess]; exact execBlockMemoryAccess_kept ..
  · rw [exec_serialTransmitWord]; exact execSerialTransmitWord_kept ..

/-- A command that stores nothing leaves the addressed memories as they were. -/
theorem exec_kept_memories (c : Instr) (s : State) (h : mayStore c = false) : KeptN true s (exec c s) := by
  cases c
  · cases h
  · rw [exec_read]; exact execRead_kept (ty := 0) ..
  · rw [exec_write]; exact execWrite_kept ..
  · rw [exec_maskWrite]; exact execMaskWrite_kept ..
  · rw [exec_segOpen]; exact execSegOpen_kept ..
  · rw [exec_segWrite]; exact execSegWrite_kept ..
  · rw [exec_segRead]; exact execSegRead_kept ..
  · cases h
  · rw [exec_segAbort]; exact execSegAbort_kept ..
  · cases h
  · rw [exec_segTransferTimeout]; exact execSegTransferTimeout_kept ..
  · rw [exec_streamOpen]; exact execStreamOpen_kept ..
  · rw [exec_streamClose]; exact execStreamClose_kept ..
  · rw [exec_ping]; exact execPing_kept ..
  · rw [exec_hello]; exact execHello_kept ..
  · rw [exec_proof]; exact execProof_kept ..
  · rw [exec_close]; exact execClose_kept ..
  · rw [exec_sessionTimeout]; exact execSessionTimeout_kept ..
  · cases h
  · rw [exec_streamData]; exact execStreamData_kept ..
  · rw [exec_streamAck]; exact execStreamAck_kept ..
  · rw [exec_streamRto]; exact execStreamRto_kept ..
  · rw [exec_claim]; exact execClaim_kept ..
  · rw [exec_offer]; exact execOffer_kept ..
  · rw [exec_accept]; exact execAccept_kept ..
  · rw [exec_offerTimeout]; exact execOfferTimeout_kept ..
  · rw [exec_take]; exact execTake_kept ..
  · rw [exec_handoverRequest]; exact execHandoverRequest_kept ..
  · rw [exec_heartbeat]; exact execHeartbeat_kept ..
  · rw [exec_heartbeatWindowEnd]; exact execHeartbeatWindowEnd_kept ..
  · rw [exec_firmwareImageCommit]; exact execFirmwareImageCommit_kept ..
  · rw [exec_keyCommit]; exact execKeyCommit_kept ..
  · rw [exec_ledgerSnap]; exact execLedgerSnap_kept ..
  · rw [exec_markerFrameSearch]; exact execMarkerFrameSearch_kept ..
  · rw [exec_markerFrameSlot]; exact execMarkerFrameSlot_kept ..
  · rw [exec_ttResync]; exact execTtResync_kept ..
  · rw [exec_scheduledArm]; exact execScheduledArm_kept ..
  · rw [exec_scheduledCancel]; exact execScheduledCancel_kept ..
  · rw [exec_ptpSync]; exact execPtpSync_kept ..
  · rw [exec_ptpSyncLoss]; exact execPtpSyncLoss_kept ..
  · rw [exec_holdoverLimit]; exact execHoldoverLimit_kept ..
  · rw [exec_switchArm]; exact execSwitchArm_kept ..
  · rw [exec_switchCancel]; exact execSwitchCancel_kept ..
  · rw [exec_activeDomainSwitch]; exact execActiveDomainSwitch_kept ..
  · rw [exec_slewEnd]; exact execSlewEnd_kept ..
  · rw [exec_arm]; exact execArm_kept ..
  · rw [exec_cancel]; exact execCancel_kept ..
  · rw [exec_triggerPulse]; exact execTriggerPulse_kept ..
  · rw [exec_triggerModeWrite]; exact execTriggerModeWrite_kept ..
  · rw [exec_triggerInputEdge]; exact execTriggerInputEdge_kept ..
  · rw [exec_deadtimeEnd]; exact execDeadtimeEnd_kept ..
  · rw [exec_mapCommit]; exact execMapCommit_kept ..
  · rw [exec_bankSwitchArm]; exact execBankSwitchArm_kept ..
  · rw [exec_bankSwitchCancel]; exact execBankSwitchCancel_kept ..
  · rw [exec_bankSwitch]; exact execBankSwitch_kept ..
  · rw [exec_fifoOutputSwitch]; exact execFifoOutputSwitch_kept ..
  · rw [exec_timingSetsCommit]; exact execTimingSetsCommit_kept ..
  · rw [exec_quadScheduleCommit]; exact execQuadScheduleCommit_kept ..
  · rw [exec_vectorBegin]; exact execVectorBegin_kept ..
  · rw [exec_patternStart]; exact execPatternStart_kept ..
  · rw [exec_strobe]; exact execStrobe_kept ..
  · rw [exec_channelStop]; exact execChannelStop_kept ..
  · rw [exec_trimWrite]; exact execTrimWrite_kept ..
  · rw [exec_parkCodeWrite]; exact execParkCodeWrite_kept ..
  · rw [exec_modeChange]; exact execModeChange_kept ..
  · rw [exec_deskewWrite]; exact execDeskewWrite_kept ..
  · rw [exec_bgcalMeasurement]; exact execBgcalMeasurement_kept ..
  iterate 15 (· cases h)
  · rw [exec_claimDecision]; exact execClaimDecision_kept ..
  · cases h
  · rw [exec_releaseDisarm]; exact execReleaseDisarm_kept ..
  iterate 25 (· cases h)
  · rw [exec_refreshTimer]; exact execRefreshTimer_kept ..
  · rw [exec_startArm]; exact execStartArm_kept ..
  · rw [exec_startCancel]; exact execStartCancel_kept ..
  · rw [exec_engineStart]; exact execEngineStart_kept ..
  · rw [exec_stopReq]; exact execStopReq_kept ..
  · cases h
  · rw [exec_loadComplete]; exact execLoadComplete_kept ..
  · rw [exec_failedMark]; exact execFailedMark_kept ..
  · rw [exec_feedSchedCommit]; exact execFeedSchedCommit_kept ..
  iterate 9 (· cases h)
  · rw [exec_stepResult]; exact execStepResult_kept ..
  · rw [exec_dspStateCommit]; exact execDspStateCommit_kept ..
  · rw [exec_table]; exact execTable_kept ..
  · rw [exec_siteMask]; exact execSiteMask_kept ..
  · rw [exec_forceRelease]; exact execForceRelease_kept ..
  · rw [exec_stickyClear]; exact execStickyClear_kept ..
  · rw [exec_slotWindowEnd]; exact execSlotWindowEnd_kept ..
  · rw [exec_failsafeEntry]; exact execFailsafeEntry_kept ..
  · rw [exec_clearFailsafe]; exact execClearFailsafe_kept ..
  · rw [exec_sitesCommit]; exact execSitesCommit_kept ..
  · rw [exec_siteFailsClear]; exact execSiteFailsClear_kept ..
  · rw [exec_chanCfgCommit]; exact execChanCfgCommit_kept ..
  · rw [exec_wordRecordClose]; exact execWordRecordClose_kept ..
  · rw [exec_runIdleExpiry]; exact execRunIdleExpiry_kept ..
  · rw [exec_fcFlush]; exact execFcFlush_kept ..
  · rw [exec_runEnWrite]; exact execRunEnWrite_kept ..
  · rw [exec_recordOffer]; exact execRecordOffer_kept ..
  · rw [exec_descCommit]; exact execDescCommit_kept ..
  · rw [exec_enable]; exact execEnable_kept ..
  · rw [exec_drainComplete]; exact execDrainComplete_kept ..
  · rw [exec_producerOffer]; exact execProducerOffer_kept ..
  · cases h
  · rw [exec_prodDoorbell]; exact execProdDoorbell_kept ..
  · rw [exec_consDoorbell]; exact execConsDoorbell_kept ..
  · rw [exec_deadlineArm]; exact execDeadlineArm_kept ..
  · rw [exec_deadlineCancel]; exact execDeadlineCancel_kept ..
  · rw [exec_queueDeadline]; exact execQueueDeadline_kept ..
  · rw [exec_deadline]; exact execDeadline_kept ..
  · rw [exec_queueFlush]; exact execQueueFlush_kept ..
  · rw [exec_repairPresentation]; exact execRepairPresentation_kept ..
  · rw [exec_repairUpdate]; exact execRepairUpdate_kept ..
  · rw [exec_contextsCommit]; exact execContextsCommit_kept ..
  · rw [exec_repairClear]; exact execRepairClear_kept ..
  · rw [exec_report]; exact execReport_kept ..
  · rw [exec_serEn]; exact execSerEn_kept ..
  · rw [exec_serialFill]; exact execSerialFill_kept ..
  · rw [exec_bitslip]; exact execBitslip_kept ..
  · rw [exec_alignment]; exact execAlignment_kept ..
  · rw [exec_cdrLock]; exact execCdrLock_kept ..
  · rw [exec_lockLoss]; exact execLockLoss_kept ..
  · rw [exec_rxAdaptDone]; exact execRxAdaptDone_kept ..
  · rw [exec_prbsWrite]; exact execPrbsWrite_kept ..
  · rw [exec_prbsLock]; exact execPrbsLock_kept ..
  · rw [exec_errClear]; exact execErrClear_kept ..
  · rw [exec_eyeStart]; exact execEyeStart_kept ..
  · rw [exec_eyePointEnd]; exact execEyePointEnd_kept ..
  · rw [exec_yardEnable]; exact execYardEnable_kept ..
  · rw [exec_train]; exact execTrain_kept ..
  · rw [exec_trainingLimit]; exact execTrainingLimit_kept ..
  · rw [exec_linkUp]; exact execLinkUp_kept ..
  · rw [exec_yardFrame]; exact execYardFrame_kept ..
  · rw [exec_data]; exact execData_kept ..
  · rw [exec_credit]; exact execCredit_kept ..
  · rw [exec_rekey]; exact execRekey_kept ..
  · rw [exec_rekeyAck]; exact execRekeyAck_kept ..
  · rw [exec_tag]; exact execTag_kept ..
  · rw [exec_nak]; exact execNak_kept ..
  · rw [exec_replayTimeout]; exact execReplayTimeout_kept ..
  · rw [exec_keyRotate]; exact execKeyRotate_kept ..
  · rw [exec_linkDown]; exact execLinkDown_kept ..
  · rw [exec_autoRetrain]; exact execAutoRetrain_kept ..
  · rw [exec_vcCfgCommit]; exact execVcCfgCommit_kept ..
  · rw [exec_linkKeyCommit]; exact execLinkKeyCommit_kept ..
  · rw [exec_yardWake]; exact execYardWake_kept ..
  · cases h
  · rw [exec_managementWake]; exact execManagementWake_kept ..
  · rw [exec_phyMode]; exact execPhyMode_kept ..
  · rw [exec_mgtLinkChange]; exact execMgtLinkChange_kept ..
  · rw [exec_fabricLaneWord]; exact execFabricLaneWord_kept ..
  · rw [exec_receivePortWord]; exact execReceivePortWord_kept ..
  · rw [exec_queuePortOffer]; exact execQueuePortOffer_kept ..
  · rw [exec_queuePortTake]; exact execQueuePortTake_kept ..
  · rw [exec_queuePortBind]; exact execQueuePortBind_kept ..
  · rw [exec_source]; exact execSource_kept ..
  · rw [exec_idelay]; exact execIdelay_kept ..
  · rw [exec_sync]; exact execSync_kept ..
  · rw [exec_header]; exact execHeader_kept ..
  · rw [exec_locate]; exact execLocate_kept ..
  · rw [exec_writeFrames]; exact execWriteFrames_kept ..
  · rw [exec_repeat]; exact execRepeat_kept ..
  · rw [exec_zwrite]; exact execZwrite_kept ..
  · rw [exec_crc]; exact execCrc_kept ..
  · rw [exec_startup]; exact execStartup_kept ..
  · rw [exec_fwload]; exact execFwload_kept ..
  · rw [exec_seal]; exact execSeal_kept ..
  · rw [exec_nop]; exact execNop_kept ..
  · rw [exec_configClearDone]; exact execConfigClearDone_kept ..
  · rw [exec_waitLock]; exact execWaitLock_kept ..
  · rw [exec_waitLockTimeout]; exact execWaitLockTimeout_kept ..
  · rw [exec_waitTime]; exact execWaitTime_kept ..
  · rw [exec_releaseGsr]; exact execReleaseGsr_kept ..
  · rw [exec_enableWrites]; exact execEnableWrites_kept ..
  · rw [exec_releaseGpio]; exact execReleaseGpio_kept ..
  · rw [exec_releaseOutputs]; exact execReleaseOutputs_kept ..
  · rw [exec_startMc]; exact execStartMc_kept ..
  · rw [exec_doneStep]; exact execDoneStep_kept ..
  · rw [exec_endStep]; exact execEndStep_kept ..
  · rw [exec_paddockStreamOpen]; exact execPaddockStreamOpen_kept ..
  · rw [exec_shadowDiscard]; exact execShadowDiscard_kept ..
  · rw [exec_swapArm]; exact execSwapArm_kept ..
  · rw [exec_swapCancel]; exact execSwapCancel_kept ..
  · rw [exec_paddockSwap]; exact execPaddockSwap_kept ..
  · rw [exec_holdEnd]; exact execHoldEnd_kept ..
  · rw [exec_auditStart]; exact execAuditStart_kept ..
  · rw [exec_auditComplete]; exact execAuditComplete_kept ..
  · rw [exec_autoAudit]; exact execAutoAudit_kept ..
  · rw [exec_networkRequest]; exact execNetworkRequest_kept ..
  · cases h
  · rw [exec_response]; exact execResponse_kept ..
  · rw [exec_rsvReq]; exact execRsvReq_kept ..
  · rw [exec_rsvGrant]; exact execRsvGrant_kept ..
  · rw [exec_creditReturn]; exact execCreditReturn_kept ..
  · rw [exec_turnCreditReturn]; exact execTurnCreditReturn_kept ..
  · rw [exec_standing]; exact execStanding_kept ..
  · rw [exec_fence]; exact execFence_kept ..
  · rw [exec_fenceNotice]; exact execFenceNotice_kept ..
  · rw [exec_fenceAck]; exact execFenceAck_kept ..
  · rw [exec_drainLimit]; exact execDrainLimit_kept ..
  · rw [exec_unfence]; exact execUnfence_kept ..
  · rw [exec_stallLimit]; exact execStallLimit_kept ..
  · rw [exec_respLimit]; exact execRespLimit_kept ..
  · rw [exec_reqLimit]; exact execReqLimit_kept ..
  · rw [exec_isolate]; exact execIsolate_kept ..
  · rw [exec_deisolate]; exact execDeisolate_kept ..
  · rw [exec_binding]; exact execBinding_kept ..
  · rw [exec_networkEvent]; exact execNetworkEvent_kept ..
  · rw [exec_memEnable]; exact execMemEnable_kept ..
  · rw [exec_trainingStepTimeout]; exact execTrainingStepTimeout_kept ..
  · rw [exec_memInitComplete]; exact execMemInitComplete_kept ..
  · rw [exec_retrainInterval]; exact execRetrainInterval_kept ..
  · rw [exec_zqLatch]; exact execZqLatch_kept ..
  · rw [exec_refreshInterval]; exact execRefreshInterval_kept ..
  · rw [exec_mr4Poll]; exact execMr4Poll_kept ..
  · rw [exec_memoryRead]; exact execMemoryRead_kept ..
  iterate 7 (· cases h)
  · rw [exec_key]; exact execKey_kept ..
  · rw [exec_retire]; exact execRetire_kept ..
  · rw [exec_retireFlushEnd]; exact execRetireFlushEnd_kept ..
  · rw [exec_walkStart]; exact execWalkStart_kept ..
  · rw [exec_walkAbort]; exact execWalkAbort_kept ..
  · cases h
  · rw [exec_streamsCommit]; exact execStreamsCommit_kept ..
  · rw [exec_portRewind]; exact execPortRewind_kept ..
  · rw [exec_grindLine]; exact execGrindLine_kept ..
  · rw [exec_streamWordTake]; exact execStreamWordTake_kept ..
  · rw [exec_startupMarch]; exact execStartupMarch_kept ..
  · rw [exec_startupMarchDone]; exact execStartupMarchDone_kept ..
  · rw [exec_marchStart]; exact execMarchStart_kept ..
  · cases h
  · rw [exec_scrubProgram]; exact execScrubProgram_kept ..
  · cases h
  · rw [exec_forcedSteal]; exact execForcedSteal_kept ..
  · rw [exec_scrubWaitEnd]; exact execScrubWaitEnd_kept ..
  · rw [exec_clkrefGate]; exact execClkrefGate_kept ..
  · rw [exec_missingEdge]; exact execMissingEdge_kept ..
  · rw [exec_clkrefStable]; exact execClkrefStable_kept ..
  · cases h
  · rw [exec_clkrefRecovery]; exact execClkrefRecovery_kept ..
  · rw [exec_padRelease]; exact execPadRelease_kept ..
  · rw [exec_pllLock]; exact execPllLock_kept ..
  · rw [exec_pllUnlock]; exact execPllUnlock_kept ..
  · rw [exec_clkEnable]; exact execClkEnable_kept ..
  · rw [exec_src]; exact execSrc_kept ..
  · rw [exec_fpllSetting]; exact execFpllSetting_kept ..
  · rw [exec_shedReset]; exact execShedReset_kept ..
  · rw [exec_fenceStep]; exact execFenceStep_kept ..
  · rw [exec_unfenceStep]; exact execUnfenceStep_kept ..
  · cases h
  · rw [exec_shedWait]; exact execShedWait_kept ..
  · rw [exec_commit]; exact execCommit_kept ..
  · rw [exec_setState]; exact execSetState_kept ..
  · rw [exec_programEnd]; exact execProgramEnd_kept ..
  · rw [exec_shedProgramCommit]; exact execShedProgramCommit_kept ..
  · rw [exec_sleepArm]; exact execSleepArm_kept ..
  · rw [exec_sleepCancel]; exact execSleepCancel_kept ..
  · rw [exec_sleepEntry]; exact execSleepEntry_kept ..
  · rw [exec_wakeEvent]; exact execWakeEvent_kept ..
  · rw [exec_wakeRequest]; exact execWakeRequest_kept ..
  · rw [exec_runUser]; exact execRunUser_kept ..
  · rw [exec_challenge]; exact execChallenge_kept ..
  · rw [exec_responseWrite]; exact execResponseWrite_kept ..
  · rw [exec_debugLock]; exact execDebugLock_kept ..
  iterate 5 (· cases h)
  · rw [exec_tapInstruction]; exact execTapInstruction_kept ..
  · rw [exec_break]; exact execBreak_kept ..
  · cases h
  · rw [exec_haltReq]; exact execHaltReq_kept ..
  · rw [exec_resume]; exact execResume_kept ..
  · rw [exec_step]; exact execStep_kept ..
  · rw [exec_controllerHalt]; exact execControllerHalt_kept ..
  · rw [exec_comparatorMatch]; exact execComparatorMatch_kept ..
  · rw [exec_lockedSequenceLimit]; exact execLockedSequenceLimit_kept ..
  · rw [exec_kick]; exact execKick_kept ..
  · rw [exec_watchdogEnable]; exact execWatchdogEnable_kept ..
  · rw [exec_pretimeout]; exact execPretimeout_kept ..
  · rw [exec_watchdogExpiry]; exact execWatchdogExpiry_kept ..
  · rw [exec_engHalt]; exact execEngHalt_kept ..
  · rw [exec_engResume]; exact execEngResume_kept ..
  · rw [exec_engStep]; exact execEngStep_kept ..
  · rw [exec_traceRun]; exact execTraceRun_kept ..
  · rw [exec_traceRecord]; exact execTraceRecord_kept ..
  · rw [exec_traceDrainEnd]; exact execTraceDrainEnd_kept ..
  · rw [exec_traceUser]; exact execTraceUser_kept ..
  · rw [exec_counterClear]; exact execCounterClear_kept ..
  · rw [exec_snap]; exact execSnap_kept ..
  · cases h
  · cases h
  · rw [exec_supplyOutOfRange]; exact execSupplyOutOfRange_kept ..
  · cases h
  · rw [exec_vddqLow]; exact execVddqLow_kept ..
  · rw [exec_tempRefresh]; exact execTempRefresh_kept ..
  · rw [exec_thermalTrip]; exact execThermalTrip_kept ..
  · rw [exec_thermRelease]; exact execThermRelease_kept ..
  · rw [exec_yardFrameSlot]; exact execYardFrameSlot_kept ..
  · cases h
  · rw [exec_shadowClearDone]; exact execShadowClearDone_kept ..
  · cases h
  · cases h
  · rw [exec_supplyInRange]; exact execSupplyInRange_kept ..
  · rw [exec_pulseEnd]; exact execPulseEnd_kept ..
  · rw [exec_driveEdge]; exact execDriveEdge_kept ..
  · rw [exec_modeChangeDone]; exact execModeChangeDone_kept ..
  · rw [exec_blockMemoryAccess]; exact execBlockMemoryAccess_kept ..
  · rw [exec_serialTransmitWord]; exact execSerialTransmitWord_kept ..

end Sys2Proof.Machine
end

