-- ==== Sys2Proof/Laws/Numbers.lean ====
section
/-! SUPPORT. Bits of numbers built bit by bit, and sums in an accumulator. -/

namespace Sys2Proof.Machine

/-- The bits of a number to which a power of two is added whose bit is 0. -/
theorem testBit_add_two_pow (n : Nat) : ∀ v b, v.testBit n = false → (v + 2 ^ n).testBit b = (decide (b = n) || v.testBit b) := by
  induction n with
  | zero =>
    intro v b h
    rw [Nat.testBit_zero, decide_eq_false_iff_not] at h
    cases b with
    | zero =>
      simp only [Nat.testBit_zero]
      simp
      omega
    | succ b =>
      simp only [Nat.testBit_succ]
      rw [show (v + 2 ^ 0) / 2 = v / 2 by omega]
      simp
  | succ n ih =>
    intro v b h
    rw [Nat.testBit_succ] at h
    cases b with
    | zero =>
      simp only [Nat.testBit_zero]
      rw [show (v + 2 ^ (n + 1)) % 2 = v % 2 by rw [Nat.pow_succ]; omega]
      simp
    | succ b =>
      simp only [Nat.testBit_succ]
      rw [show (v + 2 ^ (n + 1)) / 2 = v / 2 + 2 ^ n by rw [Nat.pow_succ]; omega, ih _ _ h]
      simp

/-- The bits of a number with one bit set or cleared. -/
theorem setBit_testBit (v n b : Nat) (x : Bool) : (setBit v n x).testBit b = if b = n then x else v.testBit b := by
  unfold setBit
  by_cases hx : v.testBit n = x
  · rw [if_pos hx]
    by_cases hb : b = n
    · subst hb
      simp [hx]
    · simp [hb]
  · rw [if_neg hx]
    cases x
    · have hv : v.testBit n = true := by simpa using hx
      have hle : 2 ^ n ≤ v := Nat.ge_two_pow_of_testBit hv
      have hf : (v - 2 ^ n).testBit n = false := by
        have := Nat.testBit_two_pow_add_eq (v - 2 ^ n) n
        rw [show 2 ^ n + (v - 2 ^ n) = v by omega, hv] at this
        simpa using this.symm
      have := testBit_add_two_pow n (v - 2 ^ n) b hf
      rw [show v - 2 ^ n + 2 ^ n = v by omega] at this
      simp only [Bool.false_eq_true, if_false]
      by_cases hb : b = n
      · subst hb
        simp [hf]
      · simpa [hb] using this.symm
    · have hv : v.testBit n = false := by simpa using hx
      simp only [if_true]
      rw [testBit_add_two_pow n v b hv]
      by_cases hb : b = n <;> simp [hb]

/-- The bits of a number built from a predicate, bit by bit. -/
theorem foldl_pick (f : Nat → Bool) (n : Nat) : ∀ b, ((List.range n).foldl (fun acc b => if f b then acc + 2 ^ b else acc) 0).testBit b =
    (decide (b < n) && f b) := by
  induction n with
  | zero => simp
  | succ n ih =>
    intro b
    rw [List.range_succ, List.foldl_append]
    simp only [List.foldl_cons, List.foldl_nil]
    by_cases hf : f n = true
    · rw [if_pos hf, testBit_add_two_pow n _ b (by rw [ih]; simp), ih]
      by_cases hb : b = n
      · subst hb
        simp [hf]
      · simp [hb, show (b < n + 1) = (b < n) by simp; omega]
    · rw [if_neg hf, ih]
      by_cases hb : b = n
      · subst hb
        simp [hf]
      · simp [show (b < n + 1) = (b < n) by simp; omega]

/-- The bits of a number cleared by a predicate, bit by bit. -/
theorem foldl_clear (f : Nat → Bool) (n : Nat) : ∀ v b, ((List.range n).foldl (fun acc b => if f b then setBit acc b false else acc) v).testBit b =
    (v.testBit b && !(decide (b < n) && f b)) := by
  induction n with
  | zero => simp
  | succ n ih =>
    intro v b
    rw [List.range_succ, List.foldl_append]
    simp only [List.foldl_cons, List.foldl_nil]
    by_cases hf : f n = true
    · rw [if_pos hf, setBit_testBit, ih]
      by_cases hb : b = n
      · subst hb
        simp [hf]
      · simp [hb, show (b < n + 1) = (b < n) by simp; omega]
    · rw [if_neg hf, ih]
      by_cases hb : b = n
      · subst hb
        simp [hf]
      · simp [show (b < n + 1) = (b < n) by simp; omega]

/-- An accumulator that adds values within a bound holds their sum while the bound times their number stays in range. -/
theorem acc_fold (b : Int) (hb : 0 ≤ b) : ∀ (l : List Int) (a : Int) (k : Nat), (∀ v ∈ l, -b ≤ v ∧ v ≤ b) → -(k * b) ≤ a → a ≤ k * b →
    (k + l.length : Nat) * b < 2 ^ 47 → l.foldl (accumulate 0) a = a + l.sum
  | [], a, k, _, _, _, _ => by simp
  | v :: l, a, k, h, h1, h2, h3 => by
    have hv := h v (List.mem_cons_self ..)
    have e : accumulate 0 a v = a + v := by
      simp only [accumulate, clampTo, if_true]
      have : ((k : Int) + 1) * b < 2 ^ 47 := by
        refine Int.lt_of_le_of_lt ?_ h3
        refine Int.mul_le_mul_of_nonneg_right ?_ hb
        simp only [List.length_cons]
        omega
      have : (k : Int) * b + b < 2 ^ 47 := by
        rw [Int.add_mul] at this
        omega
      omega
    have step : ((k + 1 : Nat) : Int) * b = k * b + b := by
      push_cast
      rw [Int.add_mul]
      omega
    simp only [List.foldl_cons, List.sum_cons, e]
    rw [acc_fold b hb l (a + v) (k + 1) (fun w hw => h w (List.mem_cons_of_mem _ hw))]
    · omega
    · omega
    · omega
    · refine Int.lt_of_le_of_lt (Int.le_of_eq ?_) h3
      simp only [List.length_cons]
      congr 2
      omega

end Sys2Proof.Machine
end

