-- ==== Sys2Proof/Laws/Owners.lean ====
section
/-! SUPPORT. The owners of the objects that arm and cancel the scheduled actions of *Table 3.5*: those of the commands named after them. -/

namespace Sys2Proof.Machine

set_option linter.unusedSimpArgs false

theorem ownerOf_ownTrigArm (s : State) (r : Requester) (u : Fin 16) : s.ownerOf r (O.TRIG_ARM u.val) = ownTrigArm u.val := by
  have h := u.isLt
  have i1 : (O.TRIG_ARM u.val) / 256 = 0x1A20 + u.val := by simp only [O.TRIG_ARM]; omega
  have i2 : (O.TRIG_ARM u.val) % 256 = 7 := by simp only [O.TRIG_ARM]; omega
  have key : s.namedOwner r (0x1A20 + u.val) 7 = some (ownTrigArm u.val) := by
    unfold State.namedOwner
    delta ownServices
    simp only [inBlock, Bool.and_eq_true, decide_eq_true_eq, Nat.add_sub_cancel_left]
    simp (disch := omega) only [if_neg, if_pos, and_true]
  rw [State.ownerOf, i1, i2, key]

theorem ownerOf_ownTrigCancel (s : State) (r : Requester) (u : Fin 16) : s.ownerOf r (O.TRIG_CANCEL u.val) = ownTrigCancel u.val := by
  have h := u.isLt
  have i1 : (O.TRIG_CANCEL u.val) / 256 = 0x1A20 + u.val := by simp only [O.TRIG_CANCEL]; omega
  have i2 : (O.TRIG_CANCEL u.val) % 256 = 8 := by simp only [O.TRIG_CANCEL]; omega
  have key : s.namedOwner r (0x1A20 + u.val) 8 = some (ownTrigCancel u.val) := by
    unfold State.namedOwner
    delta ownServices
    simp only [inBlock, Bool.and_eq_true, decide_eq_true_eq, Nat.add_sub_cancel_left]
    simp (disch := omega) only [if_neg, if_pos, and_true]
  rw [State.ownerOf, i1, i2, key]

theorem ownerOf_ownStartArm (s : State) (r : Requester) (e : Fin 512) : s.ownerOf r (O.ENG_START_ARM e.val) = ownStartArm e.val := by
  have h := e.isLt
  have i1 : (O.ENG_START_ARM e.val) / 256 = 0x2400 + e.val := by simp only [O.ENG_START_ARM]; omega
  have i2 : (O.ENG_START_ARM e.val) % 256 = 6 := by simp only [O.ENG_START_ARM]; omega
  have key : s.namedOwner r (0x2400 + e.val) 6 = some (ownStartArm e.val) := by
    unfold State.namedOwner
    delta ownPattern ownEngine
    simp only [inBlock, Bool.and_eq_true, decide_eq_true_eq, Nat.add_sub_cancel_left]
    simp (disch := omega) only [if_neg, if_pos, and_true]
  rw [State.ownerOf, i1, i2, key]

theorem ownerOf_ownStartCancel (s : State) (r : Requester) (e : Fin 512) : s.ownerOf r (O.ENG_START_CANCEL e.val) = ownStartCancel e.val := by
  have h := e.isLt
  have i1 : (O.ENG_START_CANCEL e.val) / 256 = 0x2400 + e.val := by simp only [O.ENG_START_CANCEL]; omega
  have i2 : (O.ENG_START_CANCEL e.val) % 256 = 7 := by simp only [O.ENG_START_CANCEL]; omega
  have key : s.namedOwner r (0x2400 + e.val) 7 = some (ownStartCancel e.val) := by
    unfold State.namedOwner
    delta ownPattern ownEngine
    simp only [inBlock, Bool.and_eq_true, decide_eq_true_eq, Nat.add_sub_cancel_left]
    simp (disch := omega) only [if_neg, if_pos, and_true]
  rw [State.ownerOf, i1, i2, key]

theorem ownerOf_ownSwapArm (s : State) (r : Requester) (p : Fin 24) : s.ownerOf r (O.PAD_SWAP_ARM p.val) = ownSwapArm p.val := by
  have h := p.isLt
  have i1 : (O.PAD_SWAP_ARM p.val) / 256 = 0x1810 + p.val := by simp only [O.PAD_SWAP_ARM]; omega
  have i2 : (O.PAD_SWAP_ARM p.val) % 256 = 8 := by simp only [O.PAD_SWAP_ARM]; omega
  have key : s.namedOwner r (0x1810 + p.val) 8 = some (ownSwapArm p.val) := by
    unfold State.namedOwner
    delta ownPlatform
    simp only [inBlock, Bool.and_eq_true, decide_eq_true_eq, Nat.add_sub_cancel_left]
    simp (disch := omega) only [if_neg, if_pos, and_true]
  rw [State.ownerOf, i1, i2, key]

theorem ownerOf_ownSwapCancel (s : State) (r : Requester) (p : Fin 24) : s.ownerOf r (O.PAD_SWAP_CANCEL p.val) = ownSwapCancel p.val := by
  have h := p.isLt
  have i1 : (O.PAD_SWAP_CANCEL p.val) / 256 = 0x1810 + p.val := by simp only [O.PAD_SWAP_CANCEL]; omega
  have i2 : (O.PAD_SWAP_CANCEL p.val) % 256 = 9 := by simp only [O.PAD_SWAP_CANCEL]; omega
  have key : s.namedOwner r (0x1810 + p.val) 9 = some (ownSwapCancel p.val) := by
    unfold State.namedOwner
    delta ownPlatform
    simp only [inBlock, Bool.and_eq_true, decide_eq_true_eq, Nat.add_sub_cancel_left]
    simp (disch := omega) only [if_neg, if_pos, and_true]
  rw [State.ownerOf, i1, i2, key]

theorem ownerOf_ownSleepArm (s : State) (r : Requester) : s.ownerOf r O.PWR_SLEEP_ARM = ownSleepArm := by
  rfl

theorem ownerOf_ownSleepCancel (s : State) (r : Requester) : s.ownerOf r O.PWR_SLEEP_CANCEL = ownSleepCancel := by
  rfl

theorem ownerOf_ownDeadlineArm (s : State) (r : Requester) (q : Fin 32768) : s.ownerOf r (O.Q_DEADLINE_ARM q.val) = ownDeadlineArm q.val := by
  have h := q.isLt
  have i1 : (O.Q_DEADLINE_ARM q.val) / 256 = 0x4000 + q.val := by simp only [O.Q_DEADLINE_ARM]; omega
  have i2 : (O.Q_DEADLINE_ARM q.val) % 256 = 18 := by simp only [O.Q_DEADLINE_ARM]; omega
  have key : s.namedOwner r (0x4000 + q.val) 18 = some (ownDeadlineArm q.val) := by
    unfold State.namedOwner
    delta ownQueue
    simp only [inBlock, Bool.and_eq_true, decide_eq_true_eq, Nat.add_sub_cancel_left]
    simp (disch := omega) only [if_neg, if_pos, and_true]
  rw [State.ownerOf, i1, i2, key]

theorem ownerOf_ownDeadlineCancel (s : State) (r : Requester) (q : Fin 32768) : s.ownerOf r (O.Q_DEADLINE_CANCEL q.val) = ownDeadlineCancel q.val := by
  have h := q.isLt
  have i1 : (O.Q_DEADLINE_CANCEL q.val) / 256 = 0x4000 + q.val := by simp only [O.Q_DEADLINE_CANCEL]; omega
  have i2 : (O.Q_DEADLINE_CANCEL q.val) % 256 = 19 := by simp only [O.Q_DEADLINE_CANCEL]; omega
  have key : s.namedOwner r (0x4000 + q.val) 19 = some (ownDeadlineCancel q.val) := by
    unfold State.namedOwner
    delta ownQueue
    simp only [inBlock, Bool.and_eq_true, decide_eq_true_eq, Nat.add_sub_cancel_left]
    simp (disch := omega) only [if_neg, if_pos, and_true]
  rw [State.ownerOf, i1, i2, key]

theorem ownerOf_ownSwitchArm (s : State) (r : Requester) : s.ownerOf r O.ACT_SWITCH_ARM = ownSwitchArm := by
  rfl

theorem ownerOf_ownSwitchCancel (s : State) (r : Requester) : s.ownerOf r O.ACT_SWITCH_CANCEL = ownSwitchCancel := by
  rfl

theorem ownerOf_ownBankArm (s : State) (r : Requester) (b : Fin 4) : s.ownerOf r (O.BANK_SWITCH_ARM b.val) = ownBankArm b.val := by
  have h := b.isLt
  have i1 : (O.BANK_SWITCH_ARM b.val) / 256 = 0x2100 + b.val := by simp only [O.BANK_SWITCH_ARM]; omega
  have i2 : (O.BANK_SWITCH_ARM b.val) % 256 = 4 := by simp only [O.BANK_SWITCH_ARM]; omega
  have key : s.namedOwner r (0x2100 + b.val) 4 = some (ownBankArm b.val) := by
    unfold State.namedOwner
    delta ownPattern
    simp only [inBlock, Bool.and_eq_true, decide_eq_true_eq, Nat.add_sub_cancel_left]
    simp (disch := omega) only [if_neg, if_pos, and_true]
  rw [State.ownerOf, i1, i2, key]

theorem ownerOf_ownBankCancel (s : State) (r : Requester) (b : Fin 4) : s.ownerOf r (O.BANK_SWITCH_CANCEL b.val) = ownBankCancel b.val := by
  have h := b.isLt
  have i1 : (O.BANK_SWITCH_CANCEL b.val) / 256 = 0x2100 + b.val := by simp only [O.BANK_SWITCH_CANCEL]; omega
  have i2 : (O.BANK_SWITCH_CANCEL b.val) % 256 = 5 := by simp only [O.BANK_SWITCH_CANCEL]; omega
  have key : s.namedOwner r (0x2100 + b.val) 5 = some (ownBankCancel b.val) := by
    unfold State.namedOwner
    delta ownPattern
    simp only [inBlock, Bool.and_eq_true, decide_eq_true_eq, Nat.add_sub_cancel_left]
    simp (disch := omega) only [if_neg, if_pos, and_true]
  rw [State.ownerOf, i1, i2, key]

end Sys2Proof.Machine
end

