-- ==== Sys2Proof/Laws/Serial.lean ====
section
/-! SUPPORT. The receiver of a serial lane: it rests without line bits, and a burst that holds one word is one step of it. -/

namespace Sys2Proof.Machine

/-- A word has line bits. -/
theorem State.rxLen_pos (s : State) (ch : Nat) : 0 < s.rxLen ch := by
  unfold State.rxLen
  split
  · decide
  · decide
  · split <;> decide
  · decide

/-- Without line bits the receiver does nothing. -/
theorem State.rxStep_empty (s : State) (ch : Nat) (h : (s.ser ch).rxPend = []) : s.rxStep ch = s := by
  unfold State.rxStep
  simp only [h, List.length_nil, if_true]
  split
  · rfl
  · rw [if_pos]
    split
    · exact Nat.add_pos_left (s.rxLen_pos ch) 6
    · exact s.rxLen_pos ch

/-- A step that a second one leaves as it is may be repeated. -/
theorem repeat_once {α : Type} (f : α → α) (a : α) (h : f (f a) = f a) : ∀ n, Nat.repeat f (n + 1) a = f a
  | 0 => rfl
  | n + 1 => by
    show f (Nat.repeat f (n + 1) a) = f a
    rw [repeat_once f a h n, h]

/-- Line bits that are just the next word: it is decoded and goes on, and manual alignment by pattern looks at it. -/
theorem State.rxStep_word (v : State) (ch : Nat) (hs : (v.ser ch).skip = 0)
    (hf : (v.reg (O.SER_LINE_CODE ch) == 1 && v.reg (O.SER_ALIGN ch) == 2 && !v.isSet (O.SER_ALIGNED ch)) = false)
    (hn : (v.ser ch).rxPend.length = v.rxLen ch) :
    v.rxStep ch =
      (let (x, s1) := (v.setSer ch { v.ser ch with rxPend := [] }).rxWord ch (v.ser ch).rxPend
       let s2 := s1.rxDeliver ch x
       if v.reg (O.SER_ALIGN ch) = 1 ∧ !v.isSet (O.SER_ALIGNED ch) then
         (if x.1 % 2 ^ 32 = s2.reg (O.SER_ALIGN_PATTERN ch) then s2.setReg (O.SER_ALIGNED ch) 1 else s2.slip ch)
       else s2) := by
  unfold State.rxStep
  dsimp only
  rw [if_neg (show ¬ 0 < (v.ser ch).skip by omega), hf, if_neg Bool.false_ne_true, if_neg Bool.false_ne_true, ← hn,
    if_neg (Nat.lt_irrefl _), List.drop_length, List.take_length]

/-- Under PRBS code 0 the checker ignores what arrives. -/
theorem State.checkBits_off (ch : Nat) (line : List Bool) (s : State) (h : s.reg (O.SER_PRBS ch) % 8 = 0) :
    line.foldl (fun (s : State) b => s.checkBit ch b) s = s := by
  induction line with
  | nil => rfl
  | cons b l ih =>
    have e : s.checkBit ch b = s := by simp only [State.checkBit, h, if_true]
    rw [List.foldl_cons, e, ih]

/-- Line bits that one step of the receiver takes in whole. -/
theorem State.rxBits_one (s w : State) (ch : Nat) (line : List Bool) (h : s.reg (O.SER_PRBS ch) % 8 = 0)
    (hw : w = s.setSer ch { s.ser ch with rxPend := (s.ser ch).rxPend ++ line }) (he : ((w.rxStep ch).ser ch).rxPend = []) :
    s.rxBits ch line = w.rxStep ch := by
  subst hw
  unfold State.rxBits
  rw [State.checkBits_off ch line s h]
  exact repeat_once _ _ (State.rxStep_empty _ _ he) _

end Sys2Proof.Machine
end

