-- ==== Sys2Proof/Laws/Trace.lean ====
section
/-! SUPPORT. What recording a trace event can change: the trace buffer and FIFO, and the registers of the trace. -/

namespace Sys2Proof.Machine

/-- The registers that recording changes: those of the trace, and, when it stops, the counts of events measured in cycles. -/
def isTraceReg (o : Nat) : Bool :=
  o == O.TRACE_TRACE_RUN || o == O.TRACE_TRACE_WPTR || o == O.TRACE_TRACE_WRAPPED || o == O.TRACE_TRACE_LOST ||
    (List.range 16).any fun k => o == O.EVC_COUNT k

theorem isTraceReg_ne {o : Nat} (h : isTraceReg o = false) :
    o ≠ O.TRACE_TRACE_RUN ∧ o ≠ O.TRACE_TRACE_WPTR ∧ o ≠ O.TRACE_TRACE_WRAPPED ∧ o ≠ O.TRACE_TRACE_LOST := by
  simp only [isTraceReg, Bool.or_eq_false_iff, beq_eq_false_iff_ne, ne_eq] at h
  obtain ⟨⟨⟨⟨h1, h2⟩, h3⟩, h4⟩, -⟩ := h
  exact ⟨h1, h2, h3, h4⟩

theorem isTraceReg_count {o : Nat} (h : isTraceReg o = false) (k : Nat) (hk : k ∈ List.range 16) : o ≠ O.EVC_COUNT k := by
  simp only [isTraceReg, Bool.or_eq_false_iff, List.any_eq_false] at h
  simpa using h.2 k hk

/-- Counting cycles leaves every other register. -/
theorem reg_countMc (s : State) (o : Nat) (h : isTraceReg o = false) : s.countMc.reg o = s.reg o := by
  unfold State.countMc
  refine List.foldlRecOn (motive := fun u : State => u.reg o = s.reg o) _ _ rfl fun u hu k hk => ?_
  have hb : ∀ (w : State) (n : Nat), (w.bump (O.EVC_COUNT k) n).reg o = w.reg o := fun w n =>
    State.reg_setReg_ne _ _ _ _ (isTraceReg_count h k hk)
  simp only [State.drawNat]
  repeat' split
  all_goals first | exact hu | (rw [hb]; exact hu)

theorem reg_traceStore (s : State) (w o : Nat) (h : isTraceReg o = false) : (s.traceStore w).reg o = s.reg o := by
  obtain ⟨h1, h2, h3, _⟩ := isTraceReg_ne h
  unfold State.traceStore
  simp only [State.stopTrace]
  repeat' split
  all_goals simp only [State.reg_setReg, h1, h2, h3, if_false, reg_countMc _ _ h]
  all_goals rfl

theorem reg_traceStores (o : Nat) (h : isTraceReg o = false) : ∀ (l : List Nat) (s : State), (l.foldl State.traceStore s).reg o = s.reg o
  | [], _ => rfl
  | x :: r, s => by rw [List.foldl_cons, reg_traceStores o h r, reg_traceStore s x o h]

theorem reg_traceDrain (s : State) (o : Nat) (h : isTraceReg o = false) : s.traceDrain.reg o = s.reg o :=
  reg_traceStores o h _ { s with traceFifo := s.traceFifo.drop ((s.now - s.traceAt) / Config.nsUnits) }

theorem reg_tracePut (s : State) (w o : Nat) (h : isTraceReg o = false) : (s.tracePut w).reg o = s.reg o := by
  unfold State.tracePut
  split
  · rfl
  · exact State.reg_setReg_ne _ _ _ _ (isTraceReg_ne h).2.2.2

theorem reg_traceEnter (s : State) (c u k p o : Nat) (h : isTraceReg o = false) : (s.traceEnter c u k p).reg o = s.reg o := by
  have hp : ∀ (X : State) (w n : Nat), ({ X.tracePut w with traceLossPending := n } : State).reg o = (X.tracePut w).reg o := fun _ _ _ => rfl
  have hq : ∀ (X : State) (w n : Nat), ({ X.tracePut w with traceCount := n } : State).reg o = (X.tracePut w).reg o := fun _ _ _ => rfl
  unfold State.traceEnter
  simp only
  split
  · rfl
  · rw [hq, reg_tracePut _ _ _ h]
    repeat' split
    all_goals simp only [hp, reg_tracePut _ _ _ h, reg_traceDrain _ _ h]

/-- Recording an event leaves every register but those of the trace. -/
theorem reg_trace (s : State) (c u k p o : Nat) (h : isTraceReg o = false) : (s.trace c u k p).reg o = s.reg o := by
  unfold State.trace
  simp only
  repeat' split
  all_goals first | rfl | exact reg_traceEnter _ _ _ _ _ _ h

end Sys2Proof.Machine
end

