-- ==== Sys2Proof/Laws/Turns.lean ====
section
/-! SUPPORT. Words of the loader, and the turn of an engine in a word clock. -/

namespace Sys2Proof.Machine

/-- A word that begins a packet. -/
theorem takeWord_new (s : State) (tg : Target) (d : Loader) (w : Nat) (h : d.sealed = false) (hl : d.left = 0) (hw : w / 2 ^ 24 ≠ 6) :
    s.takeWord tg d w = s.takePacket tg { d with words := d.words + 1, crc := (leBytes 4 w).foldl crc32Byte d.crc } w := by
  simp only [State.takeWord, h, hl, Bool.false_eq_true, if_false, if_true, hw]

/-- A HEADER packet that begins a stream. -/
theorem takePacket_header (s : State) (d : Loader) (w : Nat) (h : d.header = false) (h1 : w / 2 ^ 24 = 1) (h2 : w % 2 ^ 24 = 4) :
    s.takePacket none d w = .on { d with cmd := 1, count := 4, left := 4, buf := [], afterCrc := false } s := by
  simp [State.takePacket, h, h1, h2, -Nat.reducePow]

/-- What a word of a HEADER reveals depends on the words that came only. -/
theorem wordCause_header (s : State) (d x : Loader) (w : Nat) (h : x.cmd = 1) (hx : d.cmd = 1) (hb : d.buf = x.buf) :
    s.wordCause none d w = s.wordCause none x w := by
  unfold State.wordCause
  rw [h, hx, hb]
  generalize x.buf = b
  rcases b with _ | ⟨_, _ | ⟨_, _ | ⟨_, _ | ⟨_, _ | ⟨_, _⟩⟩⟩⟩⟩ <;> rfl

/-- A payload word of a packet with more to come. -/
theorem takeWord_more (s : State) (d : Loader) (w k : Nat) (h : d.sealed = false) (hl : d.left = k + 2) (hc : d.cmd = 1)
    (hq : s.wordCause none { d with buf := w :: d.buf } w = none) : s.takeWord none d w =
      .on { d with words := d.words + 1, crc := (leBytes 4 w).foldl crc32Byte d.crc, left := k + 1, buf := w :: d.buf } s := by
  have e : ¬ (d.left = 0) := by omega
  have e2 : d.left - 1 = k + 1 := by omega
  have e3 : ¬ (k + 1 = 0) := by omega
  have hq' : s.wordCause none
      { d with words := d.words + 1, crc := (leBytes 4 w).foldl crc32Byte d.crc, cmd := 1, left := k + 1, buf := w :: d.buf, sealed := false } w = none := by
    refine Eq.trans (wordCause_header s _ _ w ?_ ?_ ?_) hq <;> first | rfl | exact hc
  simp only [State.takeWord, h, e, hc, State.takePayload, e2, e3, hq', Bool.false_eq_true, if_false, if_neg (show ¬ (1 = 6) by decide)]

/-- The last payload word of a packet. -/
theorem takeWord_last (s : State) (d : Loader) (w : Nat) (h : d.sealed = false) (hl : d.left = 1) (hc : d.cmd = 1)
    (hq : s.wordCause none { d with buf := w :: d.buf } w = none) :
    s.takeWord none d w =
      .on { d with words := d.words + 1, crc := (leBytes 4 w).foldl crc32Byte d.crc, left := 0, buf := w :: d.buf, header := true,
                   id := (w :: d.buf).reverse.getD 1 0 } s := by
  have e : ¬ (d.left = 0) := by omega
  have e2 : d.left - 1 = 0 := by omega
  have hq' : s.wordCause none
      { d with words := d.words + 1, crc := (leBytes 4 w).foldl crc32Byte d.crc, cmd := 1, left := 0, buf := w :: d.buf, sealed := false } w = none := by
    refine Eq.trans (wordCause_header s _ _ w ?_ ?_ ?_) hq <;> first | rfl | exact hc
  simp only [State.takeWord, h, e, hc, State.takePayload, e2, hq', State.endPacket, Bool.false_eq_true, if_false, if_true,
    if_neg (show ¬ (1 = 6) by decide)]

/-- A command of an engine is a turn of it, for an instruction of its kind. -/
theorem exec_comes (s u f : State) (t : Nat) (e : Fin 512) (i : Instr) (hu : u = s.tickTo t) (h : f.comes t e i) :
    ∃ kind : State → Bool, kind f = true ∧ exec i s = .next (u.engineTurn e.val kind) := by
  subst hu
  rcases h with ⟨op, hm, hk⟩ | ⟨op, hm, hk⟩ | ⟨rfl, hk, hw⟩ | ⟨rfl, hk, hw⟩ | ⟨rfl, hk, hw⟩ | ⟨rfl, hk, hw⟩ | ⟨rfl, hk⟩
  · simp only [seqCommands, List.mem_cons, Prod.mk.injEq, List.not_mem_nil, or_false] at hm
    rcases hm with ⟨rfl, rfl⟩ | hm
    · exact ⟨_, by simp only [hk, Bool.true_or], rfl⟩
    · repeat' refine Or.elim hm (fun hm => ?_) fun hm => ?_
      all_goals obtain ⟨rfl, rfl⟩ := hm
      all_goals exact ⟨_, hk, rfl⟩
  · simp only [dspCommands, List.mem_cons, Prod.mk.injEq, List.not_mem_nil, or_false] at hm
    repeat' refine Or.elim hm (fun hm => ?_) fun hm => ?_
    all_goals obtain ⟨rfl, rfl⟩ := hm
    all_goals exact ⟨_, hk, rfl⟩
  iterate 4 (· exact ⟨_, by simp [hk, hw], rfl⟩)
  · exact ⟨_, by rcases hk with hk | hk <;> simp [hk], rfl⟩

/-- The turn of an engine outside gangs: it stalls, a comparator halts it, or it goes on. -/
theorem turn_alone (u f g : State) (e : Nat) (kind : State → Bool) (h : u.turnOf e f g) (hk : kind f = true) :
    u.engineTurn e kind =
      if (g.stalls e u.wc).any then g.stallEngine e u.wc (g.stalls e u.wc)
      else if (g.engine e).fresh = true ∧ (g.illegalCause e u.wc).isNone = true then
        (match g.haltingComp e with
         | some k =>
           ([0, 1].foldl (fun (s : State) k => if s.compMatches e k && s.compAction e k == 0 then s.countMatch e k else s) g).haltGang e u.wc
             [(e, 2 + k)]
         | none => g.goOn e u.wc)
      else g.goOn e u.wc := by
  obtain ⟨hf, hd, hr, hc, hr0, hgt, hg2, hfree, hc2⟩ := h
  have e1 : ¬ ((f.engine e).dsStall ≠ 0 ∧ (f.engine e).dsStall ≤ u.wc) := by omega
  have e2 : ¬ ((!f.engineReady e u.wc) = true ∨ (!kind f) = true) := by simp [hr, hk]
  have e3 : g.gangOf e = [e] := by simp [State.gangOf, hg2]
  unfold State.engineTurn
  have e0 : f.gangOf e = [e] := by simp [State.gangOf, hr0]
  simp only [← hf, e1, if_false, e2, e0, List.foldl_cons, List.foldl_nil, State.countClaimStall, hc]
  unfold State.gangTurn
  simp only [hr0, ne_eq, not_true_eq_false, false_and, if_false, ← hgt, e3, List.filter_cons, hfree, decide_true, if_true, List.filter_nil, List.map_cons,
    List.map_nil, List.any_cons, List.any_nil, Bool.or_false, List.foldl_cons, List.foldl_nil]
  by_cases hs : (g.stalls e u.wc).any = true
  · simp only [hs, if_true]
  · simp only [hs, if_false, Bool.false_eq_true]
    by_cases hq : (g.engine e).fresh = true ∧ (g.illegalCause e u.wc).isNone = true
    · simp only [hq, and_self, if_true, List.filterMap_cons, List.filterMap_nil]
      cases hh : g.haltingComp e <;> simp
    · have hq' : ((g.engine e).fresh && (g.illegalCause e u.wc).isNone) = false := by
        rw [← Bool.not_eq_true]
        simpa using hq
      simp only [hq, if_false, List.filterMap_cons, hq', List.filterMap_nil, Bool.false_eq_true, not_true_eq_false]

/-- The engine goes on. -/
theorem turn_goes (s u f g : State) (t : Nat) (e : Fin 512) (i : Instr) (hu : u = s.tickTo t) (hc : f.comes t e i) (h : u.turnOf e.val f g)
    (hs : (g.stalls e.val u.wc).any = false) (hn : g.noHalt e.val u.wc) : exec i s = .next (g.goOn e.val u.wc) := by
  obtain ⟨kind, hk, hx⟩ := exec_comes s u f t e i hu hc
  rw [hx, turn_alone u f g e.val kind h hk, hs]
  simp only [Bool.false_eq_true, if_false]
  rcases hn with hn | hn | hn
  · simp [hn]
  · have : (g.illegalCause e.val u.wc).isNone = false := by cases hh : g.illegalCause e.val u.wc <;> simp_all
    simp [this]
  · simp [hn]

end Sys2Proof.Machine
end

