-- ==== Sys2Proof/Tests/Slice0.lean ====
section
/-! SUPPORT. Small tests: ill-formed commands are refused, no word spells a command, a few results against the spec's own examples, and for
every statement with hypotheses a state and operands that meet them. -/

set_option maxRecDepth 100000
set_option linter.unusedVariables false
set_option Elab.async false

open Sys2Proof Sys2Proof.Machine

/-! ### Ill-formed commands, one for each check of wellFormed -/

theorem test_wellFormed_read : wellFormed (.read 0 0 0xFFFF 0xFF 4) = true := by decide +kernel
theorem test_illFormed_index : wellFormed (.read 0 0 0x10000 1 4) = false := by decide +kernel
theorem test_illFormed_subindex : wellFormed (.read 0 0 0x1110 0x100 4) = false := by decide +kernel
theorem test_illFormed_window : wellFormed (.registerWrite 0 (.firmware .a) 0x1110 2 60 (fill 5 0)) = false := by decide +kernel
theorem test_illFormed_mask : wellFormed (.maskWrite 0 0 0x1110 2 4 (fill 4 0) (fill 3 0)) = false := by decide +kernel
theorem test_illFormed_total : wellFormed (.segOpen 0 (.firmware .a) 0x1120 1 (2 ^ 32)) = false := by decide +kernel
theorem test_illFormed_crc : wellFormed (.segCommit 0 (.firmware .a) 0x1120 1 (2 ^ 32) 0) = false := by decide +kernel
theorem test_illFormed_tt : wellFormed (.timingSetsCommit 0 0 (.commit (.firmware .a) 0 (2 ^ 80))) = false := by decide +kernel
theorem test_illFormed_value : wellFormed (.offer 0 (.firmware .a) (2 ^ 64)) = false := by decide +kernel
theorem test_illFormed_marker : wellFormed (.markerFrameSlot 0 []) = false := by decide +kernel
theorem test_illFormed_bgcal : wellFormed (.bgcalMeasurement 0 0 []) = false := by decide +kernel
theorem test_illFormed_granule : wellFormed (.producerOffer 0 0 (fill 31 0)) = false := by decide +kernel
theorem test_illFormed_doorbell : wellFormed (.prodDoorbell 0 (.firmware .a) 0 (2 ^ 32)) = false := by decide +kernel
theorem test_illFormed_frame : wellFormed (.yardFrame 0 0 (fill 41 0)) = false := by decide +kernel
theorem test_illFormed_line : wellFormed (.fullLineWrite 0 32 (fill 64 0) 0 0) = false := by decide +kernel
theorem test_illFormed_partial : wellFormed (.partialWrite 0 60 (fill 5 0) 0 0) = false := by decide +kernel
theorem test_illFormed_empty : wellFormed (.partialWrite 0 60 [] 0 0) = false := by decide +kernel
theorem test_illFormed_address : wellFormed (.memoryRead 0 (2 ^ 48) 0 0 0) = false := by decide +kernel
theorem test_illFormed_mr4 : wellFormed (.mr4Poll 0 0 8) = false := by decide +kernel
theorem test_illFormed_dbg : wellFormed (.dbg 0 (fill 15 0)) = false := by decide +kernel
theorem test_illFormed_oneWire : wellFormed (.oneWireFrame 0 (fill 16 0)) = false := by decide +kernel
theorem test_illFormed_halt : wellFormed (.controllerHalt 0 .a 0 (fill 255 0)) = false := by decide +kernel
theorem test_illFormed_sensors : wellFormed (.tempRefresh 0 [] []) = false := by decide +kernel

theorem test_no_word_spells_a_command : decodeTableWord 16 0x1234 = none := rfl

/-! ### The spec's own examples -/

/-- *Table 6.5*: 5 over 2 is 2, 3 and 2; −5 over 2 is −3, −2 and −2; −7 over 2 is −4, −3 and −4. -/
theorem test_rounding : ((List.range 3).map fun r => (roundShift 5 1 r, roundShift (-5) 1 r, roundShift (-7) 1 r, roundShift 6 1 r)) =
    [(2, -3, -4, 3), (3, -2, -3, 3), (2, -2, -4, 3)] := by decide +kernel

/-- The header of the example under *Table 9.7*: DATA, SEQ 0x2A, ACK 0x13, VC 2, HALF 1, KEY 1. -/
theorem test_yard_header : yardHeader 1 0x2A 0x13 false 2 true 1 = 0x55132C00 := by decide +kernel

/-! ### Check values of the standards the spec names -/

/-- CRC-32 of "123456789" (R42), CRC-16 from 0xFFFF (R75) and CRC-8 (R425) of the same. -/
theorem test_crc : crc32 (ascii "123456789") = 0xCBF43926 ∧ crc16 (bytesBits (ascii "123456789")) = 0x29B1 ∧ crc8 (ascii "123456789") = 0xF4 := by
  decide +kernel

/-- FIPS 197, C.3. -/
theorem test_aes : aes256 ((List.range 32).map (BitVec.ofNat 8)) ((List.range 16).map fun i => BitVec.ofNat 8 (0x11 * i)) =
    (leBytes 16 0x8ea2b7ca516745bfeafc49904b496089).reverse := by decide +kernel

/-- FIPS 180-4: SHA-256 of "abc". -/
theorem test_sha : sha256 (ascii "abc") =
    (leBytes 32 0xba7816bf8f01cfea414140de5dae2223b00361a396177a9cb410ff61f20015ad).reverse := by decide +kernel

/-- RFC 4231, case 2: HMAC-SHA-256 of "what do ya want for nothing?" under "Jefe". -/
theorem test_hmac : hmac (ascii "Jefe") (ascii "what do ya want for nothing?") =
    (leBytes 32 0x5bdcc146bf60754e6a042426089575c75a003f089d2739839dec58b964ec3843).reverse := by decide +kernel


/-! ### States the witnesses use -/

namespace Sys2Proof.Machine

/-- A device at work: MC-A holds charge, both controllers run, the management links are up, every clock domain is enabled and every PLL
locked. -/
def base : State :=
  ((((((((State.reset.setReg O.LATCH_HOLDER 1).setReg O.LATCH_LATCH_STATE 1).setReg (O.RUN_RUN_STATE 0) 0).setReg (O.RUN_RUN_STATE 1)
    0).setReg (O.MGT_LINK_UP 0) 1).setReg (O.MGT_LINK_UP 1) 1).setImage O.CLK_CLK_ENABLE (fill 51 255 ++ [0x7F#8])).setImage O.CLK_PLL_LOCKED
    (fill 7 255))

/-- The same, with an open session of role ENGINEER in slot 0. -/
def based : State := ((base.setReg (O.SES_STATE 0) 2).setReg (O.SES_ROLE 0) 3)

/-- The 128 symbols of a good marker frame, latest first. -/
def goodSyms (tt yard flags aux : Nat) : List (Option Bool) :=
  let body := msbBits 64 tt ++ msbBits 8 yard ++ msbBits 8 flags ++ msbBits 16 aux
  ((msbBits 16 0xF628 ++ body ++ msbBits 16 (crc16 body)).map some).reverse

/-- The falling edge, in ps after its rising edge, that measures as a symbol. -/
def fallOf : Option Bool → Option Nat
  | some true => some 3000
  | some false => some 5000
  | none => none

/-- A device whose decoder has taken 127 symbols of a good frame with the given TT, in a marker state and with a candidate. -/
def marked (st tt count cand : Nat) : State :=
  { (base.setReg O.DEV_CLKREF_STABLE 1).setReg O.MARK_MARKER_STATE st with
    marker := { syms := (goodSyms tt 5 0 9).drop 1, count := count, candF := cand, candY := 5 } }

/-- A REGIONS image whose one valid entry covers the first MiB; its tag bytes would lie at 2 MiB. -/
def regionImage (mode kid : Nat) : List Byte :=
  fill 8 0 ++ leBytes 8 0x100000 ++ leBytes 8 0x200000 ++ [BitVec.ofNat 8 mode, 1#8, BitVec.ofNat 8 kid] ++ fill 485 0

/-- A device whose pattern memory is READY with such a region, KID 1 and KID 2 ACTIVE. -/
def memBase (mode kid : Nat) : State :=
  ((((((base.setReg O.MEM_MEM_STATE 2).setReg O.MEM_CAPACITY (2 ^ 33)).setReg (O.MEMC_STATE 0) 2).setReg (O.KID_KID_STATE 1) 1).setReg
    (O.KID_KID_STATE 2) 1).setImage O.MEM_REGIONS (regionImage mode kid))

/-- A transfer of requester r over nothing, with the image in place, is ready to be committed. -/
theorem State.commitReady_intro (s : State) (r : Requester) (o : Nat) (img : List Byte) (last : Nat) (h0 : imageMasked o img = img)
    (h1 : s.checkAccess r o true = (.okay, false)) (h2 : (cardOf o).any (fun c => c.ty == .domain && c.acc != .ro) = true)
    (h3 : s.xfer o = some ⟨s.openerOf r, 0, img, last⟩) : s.commitReady r o (crc32 img) img = true := by
  simp [State.commitReady, h0, h1, h2, h3]

theorem slice_fill (a n m : Nat) : slice a n (fill m 0) = fill (min n (m - a)) 0 := by simp [slice, fill]

theorem leNat_fill (n : Nat) : leNat (fill n 0) = 0 := by
  induction n with
  | zero => rfl
  | succ n ih =>
    have e : fill (n + 1) 0 = 0#8 :: fill n 0 := rfl
    rw [e, leNat, ih]
    rfl

theorem byteAt_fill (m k : Nat) : byteAt (fill m 0) k = 0 := by
  simp only [byteAt, fill, List.drop_replicate]
  cases m - k <;> rfl

theorem any_fill (n : Nat) : (fill n 0).any (fun b => b != 0#8) = false := by simp [fill]

/-- A STREAMS image of zeros lists no stream. -/
theorem streams_zero : streamsRefused (fill 16384 0) = false := by
  have e : ∀ k, descAt (fill 16384 0) k = ⟨0, 0, 0, 0, 0, 0⟩ := by
    intro k
    simp [descAt, fieldLE, slice_fill, leNat_fill, byteAt_fill]
  have b : ∀ k, byteAt (fill 16384 0) k = 0 := byteAt_fill _
  have f : ∀ a n, fieldLE (fill 16384 0) a n = 0 := fun a n => by rw [fieldLE, slice_fill, leNat_fill]
  have g : ∀ a n, (slice a n (fill 16384 0)).any (fun b => b != 0#8) = false := fun a n => by rw [slice_fill, any_fill]
  have l : (fill 16384 0).length = 16384 := fill_length _ _
  generalize fill 16384 0 = img at *
  have v : ((List.range 512).map (descAt img)).filter (·.valid) = [] := by simp [e, StreamDesc.valid]
  simp only [streamsRefused, v, b, f, g, l]
  simp

theorem streams_same (s : State) (h : s.image (O.GRIND_STREAMS 0) = fill 16384 0) (p : Nat → Bool) :
    ((List.range 512).filter fun k => descAt (s.image (O.GRIND_STREAMS 0)) k != descAt (fill 16384 0) k).any p = false := by
  rw [h]
  generalize fill 16384 0 = img
  simp

/-- A QUAD_SCHEDULE image that gives the first channel of quad 3 the default table. -/
def quadImg : List Byte := leBytes 4 0x44515345 ++ leBytes 1 3 ++ leBytes 1 1 ++ fill 10 0 ++ timingSetsDefault ++ fill 30720 0

theorem quad_length : quadImg.length = 40976 := by
  have e : timingSetsDefault.length = 10240 := by decide +kernel
  simp only [quadImg, List.length_append, e, fill_length, leBytes_length]

theorem tsRec_zero : tsRec timingSetsDefault 0 = timingSetZero := by
  have e : timingSetZero.length = 160 := by decide +kernel
  simp only [tsRec, timingSetsDefault, slice, Nat.mul_zero, List.drop_zero]
  rw [List.take_append_of_le_length (by omega), ← e, List.take_length]

theorem tsetAt_rec (a b : List Byte) (i : Nat) (h : tsRec a i = tsRec b 0) : tsetAt a i = tsetAt b 0 := by simp only [tsetAt, h]

theorem ts_zero : tsetAt timingSetsDefault 0 = tsetAt timingSetZero 0 := by
  apply tsetAt_rec
  rw [tsRec_zero]
  decide

theorem ts_rest (i : Nat) (h : i ≠ 0) : (tsetAt timingSetsDefault i).valid = false := by
  have e : timingSetZero.length = 160 := by decide +kernel
  have r : tsRec timingSetsDefault i = fill (min 160 (10080 - (160 * i - 160))) 0 := by
    simp only [tsRec, timingSetsDefault, slice]
    rw [List.drop_append, List.drop_of_length_le (by omega), e, List.nil_append]
    exact slice_fill _ _ _
  have b : ∀ n k, byteAt (fill n 0) k = 0 := byteAt_fill
  simp only [tsetAt, r, b]
  rfl

theorem table_ok : tableOk timingSetsDefault 0 = true := by
  have hz : (tsetAt timingSetsDefault 0).valid = true := by rw [ts_zero]; decide
  have hr : recordOk timingSetsDefault 0 0 = recordOk timingSetZero 0 0 := by
    have e : tsRec timingSetZero 0 = timingSetZero := by decide +kernel
    simp only [recordOk, ts_zero, tsRec_zero, e]
  simp only [tableOk, hz, Bool.true_and, List.all_eq_true]
  intro i _
  by_cases h : i = 0
  · subst h
    rw [hr]
    decide
  · simp [ts_rest i h]

theorem min_period : minPeriod timingSetsDefault = (tsetAt timingSetZero 0).period := by
  have e : (fun (m i : Nat) => if (tsetAt timingSetsDefault i).valid then min m (tsetAt timingSetsDefault i).period else m) =
      fun m i => if i = 0 then min m (tsetAt timingSetZero 0).period else m := by
    funext m i
    by_cases h : i = 0
    · subst h
      rw [ts_zero]
      have : (tsetAt timingSetZero 0).valid = true := by decide +kernel
      simp only [this, if_true]
    · simp only [ts_rest i h, Bool.false_eq_true, if_false, h]
  rw [minPeriod, e]
  decide

theorem quad_tables : quadTables 3 quadImg = [(12, timingSetsDefault)] := by
  have hd : quadImg = (leBytes 4 0x44515345 ++ leBytes 1 3 ++ leBytes 1 1 ++ fill 10 0) ++ (timingSetsDefault ++ fill 30720 0) := by
    simp only [quadImg, List.append_assoc]
  have e : timingSetsDefault.length = 10240 := by decide +kernel
  have hs : slice 16 10240 quadImg = timingSetsDefault := by
    rw [hd, slice, List.drop_append, List.drop_of_length_le (by decide +kernel)]
    have z : 16 - (leBytes 4 0x44515345 ++ leBytes 1 3 ++ leBytes 1 1 ++ fill 10 0).length = 0 := by decide +kernel
    rw [z, List.drop_zero, List.nil_append, List.take_append_of_le_length (by omega), ← e, List.take_length]
  have hb : byteAt quadImg 5 = 1 := by decide +kernel
  have hf : ((List.range 4).filter fun i => (1 : Nat).testBit i) = [0] := by decide +kernel
  simp only [quadTables, hb, hf, List.map_cons, List.map_nil, Nat.mul_zero, Nat.add_zero, hs]

theorem maskEvery_append (m : List Nat) (b : List Byte) : ∀ (a : List Byte) (i : Nat),
    maskEvery m i (a ++ b) = maskEvery m i a ++ maskEvery m (i + a.length) b
  | [], i => by simp [maskEvery]
  | x :: a, i => by simp [maskEvery, maskEvery_append m b a (i + 1), Nat.add_comm 1, Nat.add_assoc]

theorem quad_masked : imageMasked (O.CH_QUAD_SCHEDULE 12) quadImg = quadImg := by
  have hq : quadImg = (leBytes 4 0x44515345 ++ leBytes 1 3 ++ leBytes 1 1 ++ fill 10 0) ++ (timingSetZero ++ (fill 10080 0 ++ fill 30720 0)) := by
    simp only [quadImg, timingSetsDefault, List.append_assoc]
  have hl : (leBytes 4 0x44515345 ++ leBytes 1 3 ++ leBytes 1 1 ++ fill 10 0).length = 16 := by decide +kernel
  have h2 : maskEvery (defined 5 ++ [0x0F] ++ reserved 10) 0 (leBytes 4 0x44515345 ++ leBytes 1 3 ++ leBytes 1 1 ++ fill 10 0) =
      leBytes 4 0x44515345 ++ leBytes 1 3 ++ leBytes 1 1 ++ fill 10 0 := by decide +kernel
  have hz : maskEvery timingSetMask 0 timingSetZero = timingSetZero := by decide +kernel
  have e : imageMasked (O.CH_QUAD_SCHEDULE 12) quadImg =
      maskEvery (defined 5 ++ [0x0F] ++ reserved 10) 0 (quadImg.take 16) ++ maskEvery timingSetMask 0 (quadImg.drop 16) := rfl
  rw [e, hq, List.take_left' hl, List.drop_left' hl, h2, maskEvery_append, maskEvery_append, maskEvery_fill, maskEvery_fill, hz]

theorem quad_find (f : Nat × List Byte → Bool) (h : f (12, timingSetsDefault) = false) : (quadTables 3 quadImg).find? f = none := by
  rw [quad_tables]
  simp [h]

theorem quad_any (f : Nat × List Byte → Bool) (h : f (12, timingSetsDefault) = false) : (quadTables 3 quadImg).any f = false := by
  rw [quad_tables]
  simp [h]

theorem contexts_zero (n : Nat) : contextsRefused (fill 32768 0) n = false := by
  have e : ∀ i, (ctxDesc (fill 32768 0) i).valid = false := by
    intro i
    simp [ctxDesc, fieldLE, slice_fill, leNat_fill]
  have l : (fill 32768 0).length = 32768 := fill_length _ _
  generalize fill 32768 0 = img at *
  have v : ((List.range 2048).map (ctxDesc img)).filter (·.valid) = [] := by simp [e]
  simp only [contextsRefused, v, l]
  simp [noClash]

/-- A sound frame to the port's reset MAC_ADDR, from a station. -/
def ethFor (kind : Nat) (body : List Byte) : List Byte :=
  let p := fill 6 0 ++ beBytes 6 0x020000000007 ++ beBytes 2 kind ++ body
  p ++ leBytes 4 (crc32 p)

/-- An ARP request for 10.0.0.1. -/
def arpFor : List Byte := beBytes 8 0x0001080006040001 ++ beBytes 6 0x020000000007 ++ beBytes 4 0x0A000002 ++ fill 6 0 ++ beBytes 4 0x0A000001

/-- An IPv4 packet from 10.0.0.2 to 10.0.0.1 with a good header checksum. -/
def ipFor (proto : Nat) (p : List Byte) : List Byte :=
  let h (c : Nat) := beBytes 2 0x4500 ++ beBytes 2 (20 + p.length) ++ beBytes 4 0 ++ beBytes 1 64 ++ beBytes 1 proto ++ beBytes 2 c ++
    beBytes 4 0x0A000002 ++ beBytes 4 0x0A000001
  h (inetSum (h 0)) ++ p

/-- An echo request. -/
def echoFor : List Byte :=
  let h (c : Nat) := beBytes 2 0x0800 ++ beBytes 2 c ++ beBytes 4 0x00010001
  h (inetSum (h 0))

/-- An IPv6 packet to the port's link-local address, and an echo request and datagrams in one. -/
def ip6For (next : Nat) (p : List Byte) : List Byte :=
  beBytes 4 0x60000000 ++ beBytes 2 p.length ++ beBytes 1 next ++ beBytes 1 64 ++ fill 16 7 ++ base.linkLocal 1 ++ p
def echo6 : List Byte := icmp6 (fill 16 7) (base.linkLocal 1) (beBytes 8 0x8000000000010001) 64
def udp6For (port : Nat) : List Byte := ip6For 17 (udpMessage (fill 16 7) (base.linkLocal 1) 7 port [])

/-- A UDP message without a checksum. -/
def udp4For (port : Nat) : List Byte := beBytes 2 7 ++ beBytes 2 port ++ beBytes 2 8 ++ beBytes 2 0

/-- A good wake frame for the device's YARD_ID, scrambled as in training. -/
def wakeFrame : List Byte := bitsBytes 42 (scrambleTrain (frameBits (3 * 2 ^ 30 + 7 * 2 ^ 24 + 0xE4B1) 0 (base.reg O.ID_YARD_ID * 2 ^ 120)))

/-- The device at work with the fabric released and the sheds of its general part and of its Paddocks ON. -/
def relBase : State := ((base.setReg O.CFG_RELEASED 0xFF).setReg (O.SHED_STATE 19) 0).setReg (O.SHED_STATE 16) 0

/-- The same, with global clock 0 at 800 MHz, and tiles of a lane port and a queue port on it whose inputs VALID, PVALID and CTAKE are 1;
fabric logic stands as before the edge that comes 1,024 word clocks after the device's start. -/
def fabBase : State :=
  let one (m : Nat) : List Byte := fill 164 0 ++ leBytes 149 (2 ^ (7 * m))
  { (relBase.setReg (O.GCLK_SRC 0) 16) with
    fabAt := 2559999
    live := [(mkLoc 48 0 0 0 0, fill 313 0), (mkLoc 48 2 0 0 0, one 40), (mkLoc 48 156 0 0 0, fill 313 0),
      (mkLoc 48 158 0 0 0, fill 164 0 ++ leBytes 149 (2 ^ (7 * 40) + 2 ^ (7 * 41)))] }

theorem audit_units : auditUnits 0 = 3072 * 100 * Config.nsUnits := by
  have e : (auditLocs 0).length = 3072 := by
    simp [auditLocs] <;> decide
  rw [auditUnits, e]

/-- A program of one instruction. -/
def progImg (w : Nat) : List Byte := leBytes 4 0x4E475045 ++ leBytes 2 1 ++ leBytes 2 0 ++ fill 56 0 ++ leBytes 16 w

/-- No result FIFO is full where no engine has been touched. -/
theorem no_full (s : State) (h : s.engines = []) (l : List (Nat × Nat)) :
    l.any (fun p => decide (64 ≤ ((s.dsp p.1).rf p.2).length) && s.popsNow p.1 p.2) = false := by
  have e : ∀ x k, (s.dsp x).rf k = [] := by
    intro x k
    have z : s.dsp x = {} := by simp [State.dsp, State.engine, h, Tbl.get]
    rw [z]
    unfold Dsp.rf
    split <;> rfl
  simp [e]

/-- Engine 0 RUNNING a program of one instruction, with sequence opcode, OPND, TARGET and DSP slot. -/
def engBase (op opnd target dsp : Nat) : State :=
  (base.setReg (O.ENG_STATE 0) 4).setImage (O.ENG_PROGRAM 0) (progImg (op * 2 ^ 122 + target * 2 ^ 106 + opnd * 2 ^ 97 + dsp))

end Sys2Proof.Machine

/-! ### A state and operands that meet the hypotheses of each clause -/

theorem witness_StepRunsTheFrontCommand_1 : ∃ (c : Instr) (r : List Instr) (s : State), s.pending = c :: r :=
  ⟨.seal 5 [], [], State.reset.push (.seal 5 []), rfl⟩

theorem witness_EmptyQueueIdles_1 : ∃ s : State, s.pending = [] := ⟨State.reset, rfl⟩

theorem witness_ResetReadsTheCards_1 : ∃ (o : Nat) (c : Card), cardOf o = some c := ⟨O.LATCH_EPOCH, _, rfl⟩

theorem witness_ResetReadsTheCards_2 : ∃ o : Nat, cardOf o = none := ⟨0, by decide +kernel⟩

theorem witness_EveryStepAdvances_1 : ∃ s u : State, step s = .next u := ⟨State.reset, _, rfl⟩

theorem witness_EveryStepKeepsMemories_1 : ∃ s u : State, s.memWf = true ∧ step s = .next u := ⟨State.reset, _, rfl, rfl⟩

theorem witness_EveryStepKeepsTables_1 : ∃ s u : State, s.regsWf = true ∧ s.imagesWf = true ∧ step s = .next u :=
  ⟨State.reset, _, rfl, rfl, rfl⟩

theorem witness_OtherCommandsStoreNothing_1 : ∃ (c : Instr) (s u : State), mayStore c = false ∧ exec c s = .next u :=
  ⟨.seal 5 [], State.reset, _, rfl, rfl⟩

theorem witness_TurnedAwayWritesOnlyCount_1 : ∃ (s : State) (r : Requester) (o v : Nat),
    (s.checkAccess r o true).1 ≠ .okay ∨ formStatus o v ≠ .okay := ⟨State.reset, .session 63, O.LATCH_CLAIM, 0x5A, .inl (by decide +kernel)⟩

theorem witness_TurnedAwayWritesOnlyCount_2 : ∃ (s : State) (r : Requester) (o v p : Nat), formStatus o v ≠ .okay ∧
    s.checkAccess r o true = (.okay, false) ∧ (∀ k < 16, p ≠ O.EVC_COUNT k) ∧
    p ∉ [O.LATCH_CHARGE_DENIED, O.DEV_REFUSED_WRITES, O.DEV_DECODE_COUNT, O.DEV_DENIED_COUNT, O.DEV_TIMEOUT_COUNT, O.CLK_GATED_COUNT,
      O.RS_ANSWERED (stopOf (o / 256)), ledTerm 0x105B 0, ledTerm 0x105B 1, ledTerm 0x105B 2, O.MC_LAST_BUS_STATUS 0,
      O.MC_LAST_BUS_STATUS 1] :=
  ⟨State.reset, .firmware .a, O.LATCH_CLAIM, 256, O.LATCH_EPOCH, by decide +kernel, by decide +kernel, by decide +kernel, by decide +kernel⟩

theorem witness_AcceptedWritesChangeTheirObject_1 : ∃ (s u : State) (t : Nat) (slot : Fin 64) (idx sub v : Nat) (bytes : List Byte) (c : Card),
    u = s.tickTo t ∧ u.writable (.session slot) (objOf idx sub) v = true ∧ cardOf (objOf idx sub) = some c ∧ c.acc = .rw ∧ c.ty ≠ .domain ∧
    bytes.length = c.ty.bytes ∧ leNat bytes = v ∧ u.namedOwner (.session slot) (objOf idx sub / 256) (objOf idx sub % 256) = none ∧
    (∀ k < 16, objOf idx sub ≠ O.EVC_COUNT k) ∧ objOf idx sub ≠ ledTerm 0x105B 0 ∧ objOf idx sub ≠ ledTerm 0x105B 1 :=
  ⟨based, based.tickTo 7, 7, 0, 0x1110, 2, 1000, [0xE8#8, 3#8, 0#8, 0#8], (cardOf (objOf 0x1110 2)).get (by decide +kernel), rfl, by decide +kernel, by decide +kernel,
    by decide +kernel, by decide +kernel, by decide +kernel, by decide +kernel, by decide +kernel, by decide +kernel, by decide +kernel, by decide +kernel⟩

theorem witness_AcceptedWritesChangeTheirObject_2 : ∃ p : Nat, p ≠ objOf 0x1110 2 ∧ p ≠ ledTerm 0x105B 0 ∧ p ≠ ledTerm 0x105B 1 :=
  ⟨O.LATCH_EPOCH, by decide +kernel, by decide +kernel, by decide +kernel⟩

theorem witness_FailedAccessesFault_1 : ∃ st : Status, st ≠ .okay := ⟨.decode, by decide +kernel⟩

theorem witness_FailedAccessesFault_2 : ∃ r : Requester, r ≠ .firmware .a ∧ r ≠ .firmware .b := ⟨.debugPort, by decide +kernel, by decide +kernel⟩

theorem witness_ClearsWhatIsWritten_1 : ∃ (s : State) (o v p b : Nat), b < 64 ∧ p ≠ o ∧
    ((s.reg o).testBit b && !(v.testBit b && Tbl.get 0 s.flagCycle (flagKey o b) != s.cycleOf o + 1)) = false ∧
    (s.reg o).testBit b = true := ⟨State.reset.setReg O.LATCH_EPOCH (2 ^ 63), O.LATCH_EPOCH, 2 ^ 63, 0, 63, by decide +kernel, by decide +kernel, by decide +kernel, by decide +kernel⟩

theorem witness_ClearsWhatIsWritten_2 : ∃ p o : Nat, p ≠ o := ⟨0, 1, by decide +kernel⟩

theorem witness_LatchCommandsAreGuarded_1 : ∃ (s u : State) (t : Nat), u = s.tickTo t ∧ u.objAnswer O.LATCH_CLAIM = .okay ∧
    u.objAnswer O.LATCH_OFFER = .okay ∧ u.objAnswer O.LATCH_ACCEPT = .okay ∧ u.objAnswer O.LATCH_TAKE = .okay :=
  ⟨based, based.tickTo 7, 7, rfl, by decide +kernel, by decide +kernel, by decide +kernel, by decide +kernel⟩

theorem witness_LatchCommandsAreGuarded_2 : ∃ (s u : State) (t v : Nat) (r : Requester), u = s.tickTo t ∧
    u.checkAccess r O.LATCH_CLAIM true = (.okay, false) ∧ v = 0x5A ∧ u.reg O.LATCH_LATCH_STATE ≠ 0 :=
  ⟨based, based.tickTo 7, 7, 0x5A, .firmware .b, rfl, by decide +kernel, rfl, by decide +kernel⟩

theorem witness_LatchCommandsAreGuarded_3 : ∃ (s u : State) (t v : Nat) (r : Requester), u = s.tickTo t ∧
    u.checkAccess r O.LATCH_OFFER true = (.okay, false) ∧ v = 0x5A ∧ u.reg O.LATCH_LATCH_STATE = 1 ∧ u.holder ≠ some (u.ctlOf r) :=
  ⟨based, based.tickTo 7, 7, 0x5A, .firmware .b, rfl, by decide +kernel, rfl, by decide +kernel, by decide +kernel⟩

theorem witness_LatchCommandsAreGuarded_4 : ∃ (s u : State) (t v : Nat) (r : Requester), u = s.tickTo t ∧
    u.checkAccess r O.LATCH_ACCEPT true = (.okay, false) ∧ v = 0x5A ∧ u.reg O.LATCH_LATCH_STATE ≠ 2 :=
  ⟨based, based.tickTo 7, 7, 0x5A, .firmware .b, rfl, by decide +kernel, rfl, by decide +kernel⟩

theorem witness_LatchCommandsAreGuarded_5 : ∃ (s u : State) (t v : Nat) (r : Requester), u = s.tickTo t ∧
    u.checkAccess r O.LATCH_TAKE true = (.okay, false) ∧ v ≠ 0x5A :=
  ⟨based, based.tickTo 7, 7, 0x5B, .firmware .b, rfl, by decide +kernel, by decide +kernel⟩

theorem witness_DebugWritesActAsTheNamedController_1 : ∃ (s : State) (c : Ctl), c = (if s.reg O.DBG_DBG_AS = 0 then .a else .b) ∧
    s.reg O.DBG_DEBUG_LEVEL = 2 := ⟨State.reset.setReg O.DBG_DEBUG_LEVEL 2, .a, by decide +kernel, by decide +kernel⟩

theorem witness_DebugWritesActAsTheNamedController_2 : ∃ (s : State) (o : Nat) (c : Ctl) (k : Card),
    c = (if s.reg O.DBG_DBG_AS = 0 then .a else .b) ∧ s.reg O.DBG_DEBUG_LEVEL ≠ 2 ∧ cardOf o = some k :=
  ⟨State.reset, O.LATCH_CLAIM, .a, _, by decide +kernel, by decide +kernel, rfl⟩

theorem witness_DebugWritesActAsTheNamedController_3 : ∃ (s : State) (o : Nat) (c : Ctl), c = (if s.reg O.DBG_DBG_AS = 0 then .a else .b) ∧
    s.reg O.DBG_DEBUG_LEVEL = 2 ∧ s.isPrivate c o = false ∧ s.holder ≠ some c :=
  ⟨(State.reset.setReg O.DBG_DEBUG_LEVEL 2).setReg O.DBG_DBG_AS 1, O.LATCH_OFFER_TIMEOUT, .b, by decide +kernel, by decide +kernel, by decide +kernel, by decide +kernel⟩

theorem witness_StoppedDomainsAnswerGated_1 : ∃ (s : State) (o : Nat) (c : Card) (d : Nat) (i : Fin 64), cardOf o = some c ∧
    domainOf (o / 256) = some d ∧ s.domainRunning d = false ∧ (s.reg (O.RS_ISOLATED_PORTS (stopOf (o / 256)))).testBit 0 = false ∧
    s.reg (O.RS_FENCE_STATE (stopOf (o / 256))) = 0 ∧ needsLevel2 o = false ∧ writeRole (o / 256) ≤ s.roleOf (.session i) ∧
    2 ≤ s.roleOf (.session i) :=
  ⟨(State.reset.setReg (O.SES_STATE 63) 2).setReg (O.SES_ROLE 63) 3, O.CH_STATE 143, _, 143, 63, rfl, by decide +kernel, by decide +kernel, by decide +kernel, by decide +kernel,
    by decide +kernel, by decide +kernel, by decide +kernel⟩

theorem witness_AccumulatorsAndRounding_1 : ∃ l : List Int, l.length = 3 ∧ l.length ≤ 4095 ∧ (∀ v ∈ l, -(2 ^ 34) ≤ v ∧ v ≤ 2 ^ 34) ∧ 2 ^ 34 ∈ l :=
  ⟨[2 ^ 34, -(2 ^ 34), 1], by decide +kernel, by decide +kernel, by decide +kernel, by decide +kernel⟩

theorem witness_AccumulatorsAndRounding_2 : ∃ l : List Int, l.length ≤ 8191 ∧ (∀ v ∈ l, -(2 ^ 34) ≤ v ∧ v ≤ 2 ^ 34) ∧ l.length = 8191 :=
  ⟨List.replicate 8191 (2 ^ 34), by simp, fun v h => by rw [List.eq_of_mem_replicate h]; decide, by simp⟩

theorem witness_AccumulatorsAndRounding_3 : ∃ l : List Int, l.length ≤ 4095 ∧ (∀ v ∈ l, -(2 ^ 35) ≤ v ∧ v ≤ 2 ^ 35) ∧ l.length = 4095 :=
  ⟨List.replicate 4095 (-(2 ^ 35)), by simp, fun v h => by rw [List.eq_of_mem_replicate h]; decide, by simp⟩

theorem witness_AccumulatorsAndRounding_4 : ∃ (v : Int) (sh : Nat), v = 2 ^ (sh + 1) * roundShift v (sh + 1) 2 - 2 ^ sh := ⟨-5, 0, by decide +kernel⟩

theorem witness_FramesCarryTheirFields_1 : ∃ hdr halter payload i : Nat, hdr < 2 ^ 32 ∧ halter < 2 ^ 128 ∧ payload < 2 ^ 128 ∧ i < 176 :=
  ⟨2 ^ 32 - 1, 2 ^ 128 - 1, 2 ^ 128 - 1, 175, by decide +kernel, by decide +kernel, by decide +kernel, by decide +kernel⟩

theorem witness_CompressedFramesExpand_1 : ∃ frame masks : List Nat, frame.length = 80 ∧
    (∀ i < 80, (masks.getD (i / 32) 0).testBit (i % 32) = false → frame.getD i 0 = 0) ∧ frame.getD 79 0 ≠ 0 :=
  ⟨List.replicate 79 0 ++ [7], [0, 0, 0x8000], by decide +kernel, by decide +kernel, by decide +kernel⟩

theorem witness_EncryptionInverts_1 : ∃ key line : List Byte, key.length = 32 ∧ line.length = 64 := ⟨fill 32 1, fill 64 2, by decide +kernel, by decide +kernel⟩

theorem witness_LinesReadBack_1 : ∀ mode ≤ 3, ∃ (m : List Host.Cell) (r : Region) (pa : Nat) (key data : List Byte) (major minor : Nat),
    r.mode = mode ∧ r.mode ≤ 3 ∧ r.base ≤ pa ∧ pa + 64 = r.base + r.size ∧ (pa - r.base) % 64 = 0 ∧ r.size % 4096 = 0 ∧
    (r.base + r.size ≤ r.tagBase ∨ r.tagBase + r.tagSize ≤ r.base) ∧ key.length = 32 ∧ data.length = 64 ∧ major < 2 ^ 64 ∧ minor < 128 ∧
    (r.mode = 3 → majorOf m r (r.lineNo pa) = major) := by
  intro mode h
  refine ⟨[], ⟨0, 0x100000, 0x100000, mode, 1, 0⟩, 0xFFFC0, fill 32 1, fill 64 2, 0, 127, rfl, h, Nat.zero_le _, (by show 0xFFFC0 + 64 = 0 + 0x100000; decide), (by show (0xFFFC0 - 0) % 64 = 0; decide), (by show 0x100000 % 4096 = 0; decide),
    .inl (by show 0 + 0x100000 ≤ 0x100000; decide), by decide +kernel, by decide +kernel, by decide +kernel, by decide +kernel, ?_⟩
  rintro rfl
  decide

theorem witness_LinesReadBack_2 : ∃ (pa a : Nat) (r : Region), (a < pa ∨ pa + 64 ≤ a) ∧ (a < r.tagBase ∨ r.tagBase + r.tagSize ≤ a) :=
  ⟨0xFFFC0, 0xFFFBF, ⟨0, 0x100000, 0x100000, 3, 1, 0⟩, .inl (by decide +kernel), .inl (by decide +kernel)⟩

theorem witness_DictionaryCommandsComplete_1 : ∃ (s u : State) (t : Nat) (slot : Fin 64) (idx sub v : Nat) (bytes : List Byte) (c : Card),
    u = s.tickTo t ∧ u.writable (.session slot) (objOf idx sub) v = true ∧ cardOf (objOf idx sub) = some c ∧ c.acc = .rw ∧ c.ty ≠ .domain ∧ bytes.length = c.ty.bytes ∧ leNat bytes = v ∧ u.namedOwner (.session slot) ((objOf idx sub) / 256) ((objOf idx sub) % 256) = none := by
  refine ⟨based, (based).tickTo (7), 7, ⟨0, by decide +kernel⟩, 0x1110, 2, 1000, [0xE8#8, 3#8, 0#8, 0#8], (cardOf (objOf 0x1110 2)).get (by decide +kernel), rfl, ?_, ?_, ?_, ?_, ?_, ?_, ?_⟩ <;> decide +kernel

theorem witness_DictionaryCommandsComplete_2 : ∃ (s u : State) (t : Nat) (x : Ctl) (idx sub v : Nat) (bytes : List Byte) (c : Card),
    u = s.tickTo t ∧ u.checkAccess (.firmware x) (objOf idx sub) true = (.okay, false) ∧ (u.settle ((objOf idx sub) / 256)).writable (.firmware x) (objOf idx sub) v = true ∧ cardOf (objOf idx sub) = some c ∧ c.acc = .rw ∧ c.ty ≠ .domain ∧ bytes.length = c.ty.bytes ∧ c.ty.bytes ≤ 8 ∧ 0 < c.ty.bytes ∧ leNat bytes = v ∧ Tbl.get ({} : Held) u.held (objOf idx sub) = {} ∧ (u.settle ((objOf idx sub) / 256)).namedOwner (.firmware x) ((objOf idx sub) / 256) ((objOf idx sub) % 256) = none := by
  refine ⟨based, (based).tickTo (7), 7, .a, 0x1110, 2, 1000, [0xE8#8, 3#8, 0#8, 0#8], (cardOf (objOf 0x1110 2)).get (by decide +kernel), rfl, ?_, ?_, ?_, ?_, ?_, ?_, ?_, ?_, ?_, ?_, ?_⟩ <;> decide +kernel

theorem witness_DictionaryCommandsComplete_3 : ∃ (s u : State) (t : Nat) (slot : Fin 64) (idx sub ty : Nat) (c : Card),
    u = s.tickTo t ∧ u.checkAccess (.session slot) (objOf idx sub) false = (.okay, false) ∧ cardOf (objOf idx sub) = some c ∧ c.ty ≠ .domain ∧ c.ty ≠ .string ∧ inBlock ((objOf idx sub) / 256) 0x3820 48 = false ∧ inBlock ((objOf idx sub) / 256) 0x3A30 16 = false := by
  refine ⟨based, (based).tickTo (7), 7, ⟨0, by decide +kernel⟩, 0x1110, 2, 4, (cardOf (objOf 0x1110 2)).get (by decide +kernel), rfl, ?_, ?_, ?_, ?_, ?_, ?_⟩ <;> decide +kernel

theorem witness_DictionaryCommandsComplete_4 : ∃ (s u : State) (t : Nat) (slot : Fin 64) (idx sub ty : Nat) (c : Card),
    u = s.tickTo t ∧ u.checkAccess (.session slot) (objOf idx sub) false = (.okay, false) ∧ cardOf (objOf idx sub) = some c ∧ c.ty = .string :=
  ⟨based, (based).tickTo (7), 7, ⟨0, by decide +kernel⟩, 0x1000, 1, 10, (cardOf (objOf 0x1000 1)).get (by decide +kernel), rfl, by decide +kernel, by decide +kernel, by decide +kernel⟩

theorem witness_DictionaryCommandsComplete_5 : ∃ (s u : State) (t : Nat) (slot : Fin 64) (k : Fin 16) (ty : Nat) (v : State),
    u = s.tickTo t ∧ v = u.settle (0x3A30 + k.val) ∧ u.checkAccess (.session slot) (O.EVC_COUNT k.val) false = (.okay, false) :=
  ⟨based, (based).tickTo (7), 7, ⟨0, by decide +kernel⟩, 3, 5, _, rfl, rfl, by decide +kernel⟩

theorem witness_DictionaryCommandsComplete_6 : ∃ (s u : State) (t : Nat) (slot : Fin 64) (g : Fin 48) (ty : Nat) (v : State),
    u = s.tickTo t ∧ v = u.settle (0x3820 + g.val) ∧ u.checkAccess (.session slot) (O.GPIO_LEVEL g.val) false = (.okay, false) :=
  ⟨based, (based).tickTo (7), 7, ⟨0, by decide +kernel⟩, 3, 1, _, rfl, rfl, by decide +kernel⟩

theorem witness_DictionaryCommandsComplete_7 : ∃ (s u : State) (t : Nat) (slot : Fin 64) (g : Fin 48) (ty dir : Nat) (v : State),
    u = s.tickTo t ∧ v = u.settle (0x3820 + g.val) ∧ u.checkAccess (.session slot) (O.GPIO_OE g.val) false = (.okay, false) ∧ dir = bits (v.reg (O.GPIO_CONFIG g.val)) 10 9 :=
  ⟨based, (based).tickTo (7), 7, ⟨0, by decide +kernel⟩, 3, 1, 0, _, rfl, rfl, by decide +kernel, rfl⟩

theorem witness_DictionaryCommandsComplete_8 : ∃ (s u : State) (t : Nat) (slot : Fin 64) (idx sub ty : Nat),
    u = s.tickTo t ∧ u.checkAccess (.session slot) (objOf idx sub) false = (.okay, false) ∧ (cardOf (objOf idx sub)).map Card.ty = some .domain ∧ (objOf idx sub) ≠ O.DBG_CHALLENGE ∧ (objOf idx sub) ≠ O.TRACE_TRACE_DATA ∧ (objOf idx sub) ≠ O.MEM_WINDOW := by
  refine ⟨based, (based).tickTo (7), 7, ⟨0, by decide +kernel⟩, 0x1120, 6, 11, rfl, ?_, ?_, ?_, ?_, ?_⟩ <;> decide +kernel

theorem witness_DictionaryCommandsComplete_9 : ∃ (s u : State) (t : Nat) (slot : Fin 64) (idx sub v : Nat) (bytes : List Byte) (c : Card),
    u = s.tickTo t ∧ u.writable (.session slot) (objOf idx sub) v = true ∧ cardOf (objOf idx sub) = some c ∧ c.acc = .rw ∧ c.ty ≠ .domain ∧ bytes.length = c.ty.bytes ∧ leNat bytes = v ∧ u.namedOwner (.session slot) ((objOf idx sub) / 256) ((objOf idx sub) % 256) = none := by
  refine ⟨based, (based).tickTo (7), 7, ⟨0, by decide +kernel⟩, 0x1110, 2, 1000, [0xE8#8, 3#8, 0#8, 0#8], (cardOf (objOf 0x1110 2)).get (by decide +kernel), rfl, ?_, ?_, ?_, ?_, ?_, ?_, ?_⟩ <;> decide +kernel

theorem witness_DictionaryCommandsComplete_10 : ∃ (s u : State) (t : Nat) (slot : Fin 64) (idx sub v : Nat) (val mask : List Byte) (c : Card),
    u = s.tickTo t ∧ (u.settle ((objOf idx sub) / 256)).writable (.session slot) (objOf idx sub) v = true ∧ cardOf (objOf idx sub) = some c ∧ c.acc = .rw ∧ c.ty ≠ .domain ∧ val.length = c.ty.bytes ∧ mask.length = c.ty.bytes ∧ (leNat val &&& leNat mask) ||| ((u.settle ((objOf idx sub) / 256)).regView (objOf idx sub) &&& (leNat mask ^^^ (2 ^ regBits (objOf idx sub) - 1))) = v ∧ (u.settle ((objOf idx sub) / 256)).namedOwner (.session slot) ((objOf idx sub) / 256) ((objOf idx sub) % 256) = none := by
  refine ⟨based, (based).tickTo (7), 7, ⟨0, by decide +kernel⟩, 0x1110, 2, 10000 + 1, [1#8, 0#8, 0#8, 0#8], [0xF#8, 0#8, 0#8, 0#8], (cardOf (objOf 0x1110 2)).get (by decide +kernel), rfl, ?_, ?_, ?_, ?_, ?_, ?_, ?_, ?_⟩ <;> decide +kernel

theorem witness_DictionaryCommandsComplete_11 : ∃ (s u : State) (t : Nat) (r : Requester) (idx sub total : Nat) (f : ImgOwner) (n : Nat),
    u = s.tickTo t ∧ u.checkAccess r (objOf idx sub) true = (.okay, false) ∧ (cardOf (objOf idx sub)).any (fun c => c.ty == .domain && c.acc != .ro) = true ∧ imgOwnerOf (objOf idx sub) = some (f, n) ∧ total ≤ n ∧ u.xfer (objOf idx sub) = none ∧ u.openHook (objOf idx sub) = (.okay, u) := by
  refine ⟨based, (based).tickTo (7), 7, .firmware .a, 0x1120, 1, 32, (imgOwnerOf (objOf 0x1120 1)).get (by decide +kernel) |>.1, 64, rfl, ?_, ?_, rfl, ?_, ?_, ?_⟩ <;> decide +kernel

theorem witness_DictionaryCommandsComplete_12 : ∃ (s u : State) (t : Nat) (r : Requester) (idx sub : Nat) (x : Xfer) (bytes : List Byte),
    u = s.tickTo t ∧ u.checkAccess r (objOf idx sub) true = (.okay, false) ∧ (cardOf (objOf idx sub)).any (fun c => c.ty == .domain && c.acc != .ro) = true ∧ u.xfer (objOf idx sub) = some x ∧ x.opener = u.openerOf r ∧ x.data.length + bytes.length ≤ x.total ∧ inBlock ((objOf idx sub) / 256) 0x1810 24 = false := by
  refine ⟨based.setXfer (objOf 0x1120 1) (some ⟨.firmware .a, 3, [1#8], 0⟩), (based.setXfer (objOf 0x1120 1) (some ⟨.firmware .a, 3, [1#8], 0⟩)).tickTo (7), 7, .firmware .a, 0x1120, 1, ⟨.firmware .a, 3, [1#8], 0⟩, [2#8, 3#8], rfl, ?_, ?_, ?_, ?_, ?_, ?_⟩ <;> decide +kernel

theorem witness_DictionaryCommandsComplete_13 : ∃ (s u : State) (t : Nat) (r : Requester) (idx sub off count : Nat),
    u = s.tickTo t ∧ r ≠ .debugPort ∧ u.checkAccess r (objOf idx sub) false = (.okay, false) ∧ (cardOf (objOf idx sub)).map Card.ty = some .domain ∧ (objOf idx sub) ≠ O.DBG_CHALLENGE ∧ (objOf idx sub) ≠ O.TRACE_TRACE_DATA ∧ (objOf idx sub) ≠ O.MEM_WINDOW := by
  refine ⟨based, (based).tickTo (7), 7, .firmware .a, 0x1120, 6, 2, 3, rfl, ?_, ?_, ?_, ?_, ?_, ?_⟩ <;> decide +kernel

theorem witness_DictionaryCommandsComplete_14 : ∃ (s u : State) (t : Nat) (r : Requester) (idx sub crc z tt : Nat) (img : List Byte) (f : ImgOwner) (n : Nat),
    u = s.tickTo t ∧ u.commitReady r (objOf idx sub) crc img = true ∧ imgOwnerOf (objOf idx sub) = some (f, n) ∧ inBlock ((objOf idx sub) / 256) 0x2400 512 = false ∧ inBlock ((objOf idx sub) / 256) 0x1810 24 = false ∧ tt = ttImage (ttTick z) (ttFine z) ∧ (f img tt (u.setXfer (objOf idx sub) none)).1 = .okay :=
  ⟨based.setXfer (objOf 0x1120 1) (some ⟨.firmware .a, 0, [1#8], 0⟩), (based.setXfer (objOf 0x1120 1) (some ⟨.firmware .a, 0, [1#8], 0⟩)).tickTo (7), 7, .firmware .a, 0x1120, 1, crc32 [1#8], 0, 0, [1#8], ((imgOwnerOf (objOf 0x1120 1)).get (by decide +kernel)).1, 64, rfl, State.commitReady_intro _ _ _ _ 0 (by first | rfl | decide) (by decide +kernel) (by decide +kernel) rfl, rfl, by decide +kernel, by decide +kernel, rfl, by decide +kernel⟩

theorem witness_DictionaryCommandsComplete_15 : ∃ (s u : State) (t : Nat) (r : Requester) (idx sub : Nat) (x : Xfer),
    u = s.tickTo t ∧ u.checkAccess r (objOf idx sub) true = (.okay, false) ∧ (cardOf (objOf idx sub)).any (fun c => c.ty == .domain && c.acc != .ro) = true ∧ u.xfer (objOf idx sub) = some x ∧ x.opener = u.openerOf r := by
  refine ⟨based.setXfer (objOf 0x1120 1) (some ⟨.firmware .a, 3, [1#8], 0⟩), (based.setXfer (objOf 0x1120 1) (some ⟨.firmware .a, 3, [1#8], 0⟩)).tickTo (7), 7, .firmware .a, 0x1120, 1, ⟨.firmware .a, 3, [1#8], 0⟩, rfl, ?_, ?_, ?_, ?_⟩ <;> decide +kernel

theorem witness_DictionaryCommandsComplete_16 : ∃ (s u : State) (t : Nat) (idx sub : Nat) (x : Xfer),
    u = s.tickTo t ∧ u.xfer (objOf idx sub) = some x ∧ x.last + 10000 * Config.msUnits ≤ u.now :=
  ⟨based.setXfer (objOf 0x1120 1) (some ⟨.firmware .a, 3, [1#8], 0⟩), (based.setXfer (objOf 0x1120 1) (some ⟨.firmware .a, 3, [1#8], 0⟩)).tickTo (10000 * Config.msUnits), 10000 * Config.msUnits, 0x1120, 1, ⟨.firmware .a, 3, [1#8], 0⟩, rfl, by decide +kernel, by decide +kernel⟩

theorem witness_DictionaryCommandsComplete_17 : ∃ (s u : State) (t : Nat) (c : Ctl) (idx sub : Nat) (v : BitVec 64) (x : Xfer),
    u = s.tickTo t ∧ u.checkAccess (.firmware c) (objOf idx sub) true = (.okay, false) ∧ (cardOf (objOf idx sub)).any (fun c => c.ty == .domain && c.acc != .ro) = true ∧ u.xfer (objOf idx sub) = some x ∧ x.opener = .firmware c ∧ x.data.length + 8 ≤ x.total ∧ x.total < 2 ^ 32 ∧ (u.aliasWin (objOf idx sub)).offset = x.data.length ∧ inBlock ((objOf idx sub) / 256) 0x1810 24 = false := by
  refine ⟨(based.setXfer (objOf 0x1120 1) (some ⟨.firmware .a, 8, [], 0⟩)), ((based.setXfer (objOf 0x1120 1) (some ⟨.firmware .a, 8, [], 0⟩))).tickTo (7), 7, .a, 0x1120, 1, 5#64, ⟨.firmware .a, 8, [], 0⟩, rfl, ?_, ?_, ?_, ?_, ?_, ?_, ?_, ?_⟩ <;> decide +kernel

theorem witness_DictionaryCommandsComplete_18 : ∃ (s u : State) (t : Nat) (r : Requester),
    u = s.tickTo t ∧ r ≠ .debugPort ∧ u.checkAccess r O.DBG_CHALLENGE false = (.okay, false) :=
  ⟨based, (based).tickTo (7), 7, .session 0, rfl, by decide +kernel, by decide +kernel⟩

theorem witness_DictionaryCommandsComplete_19 : ∃ (s u : State) (t : Nat) (r : Requester) (p : Fin 24) (total : Nat) (w : State),
    u = s.tickTo t ∧ u.checkAccess r (O.PAD_STREAM p.val) true = (.okay, false) ∧ total ≤ 2097152 ∧ u.xfer (O.PAD_STREAM p.val) = none ∧ u.reg (O.PAD_SHADOW_STATE p.val) ≠ 2 ∧ u.sched .swap p.val = none ∧ u.shedOn (padShed p.val) = true ∧ w = ((u.clearShadow p.val).setPad p.val { u.pad p.val with loader := {}, clearing := true, fed := 0 }).setReg (O.PAD_SHADOW_STATE p.val) 1 := by
  refine ⟨base, (base).tickTo (7), 7, .firmware .a, 0, 4096, _, rfl, ?_, ?_, ?_, ?_, ?_, ?_, rfl⟩ <;> decide +kernel

theorem witness_LatchCommandsComplete_1 : ∃ (s u : State) (t : Nat) (r : Requester),
    u = s.tickTo t ∧ u.writable r O.LATCH_CLAIM 0x5A = true ∧ u.reg O.LATCH_LATCH_STATE = 0 :=
  ⟨State.reset, (State.reset).tickTo (7), 7, .firmware .b, rfl, by decide +kernel, by decide +kernel⟩

theorem witness_LatchCommandsComplete_2 : ∃ (s u : State) (t : Nat),
    u = s.tickTo t ∧ u.writable (.firmware .a) O.LATCH_CLAIM 0x5A = true ∧ u.reg O.LATCH_LATCH_STATE = 0 ∧ ((u.setHolder .a).okays (.firmware .a) O.LATCH_CLAIM).writable (.firmware .b) O.LATCH_CLAIM 0x5A = true :=
  ⟨State.reset, (State.reset).tickTo (7), 7, rfl, by decide +kernel, by decide +kernel, by decide +kernel⟩

theorem witness_LatchCommandsComplete_3 : ∃ (s u : State) (t : Nat) (r : Requester),
    u = s.tickTo t ∧ u.writable r O.LATCH_OFFER 0x5A = true ∧ u.reg O.LATCH_LATCH_STATE = 1 ∧ u.holder = some (u.ctlOf r) :=
  ⟨based, (based).tickTo (7), 7, .firmware .a, rfl, by decide +kernel, by decide +kernel, by decide +kernel⟩

theorem witness_LatchCommandsComplete_4 : ∃ (s u : State) (t : Nat) (r : Requester),
    u = s.tickTo t ∧ u.writable r O.LATCH_ACCEPT 0x5A = true ∧ u.reg O.LATCH_LATCH_STATE = 2 ∧ u.holder = some (u.ctlOf r).partner :=
  ⟨(based.setReg O.LATCH_LATCH_STATE 2), ((based.setReg O.LATCH_LATCH_STATE 2)).tickTo (7), 7, .firmware .b, rfl, by decide +kernel, by decide +kernel, by decide +kernel⟩

theorem witness_LatchCommandsComplete_5 : ∃ (s u : State) (t : Nat) (c : Ctl),
    u = s.tickTo t ∧ u.reg O.LATCH_LATCH_STATE = 2 ∧ (u.offerAt + u.reg O.LATCH_OFFER_TIMEOUT * Config.msUnits) / Config.aonUnits < u.now / Config.aonUnits ∧ u.holder = some c :=
  ⟨(based.setReg O.LATCH_LATCH_STATE 2), ((based.setReg O.LATCH_LATCH_STATE 2)).tickTo (10000 * Config.msUnits + Config.aonUnits), 10000 * Config.msUnits + Config.aonUnits, .a, rfl, by decide +kernel, by decide +kernel, by decide +kernel⟩

theorem witness_LatchCommandsComplete_6 : ∃ (s u : State) (t : Nat) (r : Requester),
    u = s.tickTo t ∧ u.writable r O.LATCH_TAKE 0x5A = true ∧ u.reg O.LATCH_LATCH_STATE = 3 ∧ u.holder = some (u.ctlOf r).partner :=
  ⟨(based.setReg O.LATCH_LATCH_STATE 3), ((based.setReg O.LATCH_LATCH_STATE 3)).tickTo (7), 7, .firmware .b, rfl, by decide +kernel, by decide +kernel, by decide +kernel⟩

theorem witness_LatchCommandsComplete_7 : ∃ (s u : State) (t : Nat) (r : Requester) (c : Ctl),
    u = s.tickTo t ∧ u.writable r O.LATCH_HANDOVER_REQUEST 1 = true ∧ u.holder = some c :=
  ⟨based, (based).tickTo (7), 7, .firmware .a, .a, rfl, by decide +kernel, by decide +kernel⟩

theorem witness_LatchCommandsComplete_8 : ∃ (s u : State) (t : Nat) (r : Requester) (x : Ctl) (v : Nat),
    u = s.tickTo t ∧ u.writable r (O.MC_HEARTBEAT x.num) v = true :=
  ⟨based, (based).tickTo (7), 7, .firmware .a, .a, 5, rfl, by decide +kernel⟩

theorem witness_LatchCommandsComplete_9 : ∃ (s u : State) (t : Nat),
    u = s.tickTo t ∧ u.now / Config.aonUnits = u.windowEdge * Config.tickUnits / Config.aonUnits + 1 ∧ u.windowEdge ≠ u.windowAt :=
  ⟨base, (base).tickTo (100000 * Config.tickUnits + Config.aonUnits), 100000 * Config.tickUnits + Config.aonUnits, rfl, by decide +kernel, by decide +kernel⟩

theorem witness_SessionAndStreamCommandsComplete_1 : ∃ (s u : State) (t : Nat) (port : Ctl) (p : Peer) (i : Nat) (d : List Byte),
    u = s.tickTo t ∧ u.kiskoUp port p = true ∧ fieldLE d 0 2 = 0x4B53 ∧ byteAt d 2 = 1 ∧ dgType d = 5 ∧ dgSession d = 0 ∧ dgLen d = 20 ∧ d.length = 36 ∧ 1 ≤ byteAt (dgBody d) 0 ∧ byteAt (dgBody d) 0 ≤ 3 ∧ (List.range 64).find? (fun i => u.reg (O.SES_STATE i) == 0) = some i := by
  refine ⟨based, (based).tickTo (7), 7, .a, { mac := 7, addr := 0x0A000002, port := 999, own := 0x0A000001, dport := based.reg O.KISKO_KISKO_PORT }, 1, (kiskoDatagram 5 0 0 0 0 ([2#8, 0#8, 0#8, 0#8] ++ fill 16 7) none), rfl, ?_, ?_, ?_, ?_, ?_, ?_, ?_, ?_, ?_, ?_⟩ <;> decide +kernel

theorem witness_SessionAndStreamCommandsComplete_2 : ∃ (s u : State) (t : Nat) (port : Ctl) (p : Peer) (d : List Byte) (i : Nat),
    u = s.tickTo t ∧ u.kiskoUp port p = true ∧ u.dgFault port 7 1 d = none ∧ dgSession d % 64 = i ∧ dgSeq d = 1 ∧ u.now ≤ (u.session i).challengeAt + 1000 * Config.msUnits ∧ dgBody d = hmac (u.session i).kRole (ascii "KISKO-P1" ++ (u.session i).nc ++ (u.session i).nd) := by
  refine ⟨(based.setReg (O.SES_STATE 0) 1), ((based.setReg (O.SES_STATE 0) 1)).tickTo (7), 7, .a, { mac := 7, addr := 0x0A000002, port := 999, own := 0x0A000001, dport := based.reg O.KISKO_KISKO_PORT }, (kiskoDatagram 7 0 1 0 0 (hmac [] (ascii "KISKO-P1")) (some [])), 0, rfl, ?_, ?_, ?_, ?_, ?_, ?_⟩ <;> decide +kernel

theorem witness_SessionAndStreamCommandsComplete_3 : ∃ (s u : State) (t : Nat) (port : Ctl) (p : Peer) (d : List Byte),
    u = s.tickTo t ∧ u.kiskoUp port p = true ∧ u.dgFault port 9 2 d = none :=
  ⟨based, (based).tickTo (7), 7, .a, { mac := 7, addr := 0x0A000002, port := 999, own := 0x0A000001, dport := based.reg O.KISKO_KISKO_PORT }, (kiskoDatagram 9 0 1 0 0 [] (some [])), rfl, by decide +kernel, by decide +kernel⟩

theorem witness_SessionAndStreamCommandsComplete_4 : ∃ (s u : State) (t : Nat) (r : Requester) (slot : Fin 64),
    u = s.tickTo t ∧ u.writable r (O.SES_CLOSE slot.val) 1 = true :=
  ⟨based, (based).tickTo (7), 7, .firmware .a, 0, rfl, by decide +kernel⟩

theorem witness_SessionAndStreamCommandsComplete_5 : ∃ (s u : State) (t : Nat) (slot : Fin 64),
    u = s.tickTo t ∧ u.reg (O.SES_STATE slot.val) ≠ 0 ∧ u.isSet (O.MC_DEBUG_ABSENT (u.reg (O.SES_CONTROLLER slot.val))) = false ∧ (u.session slot.val).lastGood + u.reg O.KISKO_SESSION_TIMEOUT * Config.msUnits ≤ u.now :=
  ⟨based, (based).tickTo (10000 * Config.msUnits), 10000 * Config.msUnits, 0, rfl, by decide +kernel, by decide +kernel, by decide +kernel⟩

theorem witness_SessionAndStreamCommandsComplete_6 : ∃ (s u : State) (t : Nat) (port : Ctl) (p : Peer) (d : List Byte) (late : List Nat),
    u = s.tickTo t ∧ u.kiskoUp port p = true ∧ u.dgFault port 1 2 d = none :=
  ⟨based, (based).tickTo (7), 7, .a, { mac := 7, addr := 0x0A000002, port := 999, own := 0x0A000001, dport := based.reg O.KISKO_KISKO_PORT }, (kiskoDatagram 1 0 1 0 0 [] (some [])), [0], rfl, by decide +kernel, by decide +kernel⟩

theorem witness_SessionAndStreamCommandsComplete_7 : ∃ (s u : State) (t : Nat) (port : Ctl) (p : Peer) (d : List Byte),
    u = s.tickTo t ∧ u.kiskoUp port p = true ∧ u.dgFault port 3 2 d = none :=
  ⟨based, (based).tickTo (7), 7, .a, { mac := 7, addr := 0x0A000002, port := 999, own := 0x0A000001, dport := based.reg O.KISKO_KISKO_PORT }, (kiskoDatagram 3 0 1 0 0 [] (some [])), rfl, by decide +kernel, by decide +kernel⟩

theorem witness_SessionAndStreamCommandsComplete_8 : ∃ (s u : State) (t : Nat) (port : Ctl) (p : Peer) (d : List Byte),
    u = s.tickTo t ∧ u.kiskoUp port p = true ∧ u.dgFault port 4 2 d = none :=
  ⟨based, (based).tickTo (7), 7, .a, { mac := 7, addr := 0x0A000002, port := 999, own := 0x0A000001, dport := based.reg O.KISKO_KISKO_PORT }, (kiskoDatagram 4 0 1 0 0 [] (some [])), rfl, by decide +kernel, by decide +kernel⟩

theorem witness_SessionAndStreamCommandsComplete_9 : ∃ (s u : State) (t : Nat) (stream : Fin 128),
    u = s.tickTo t ∧ (u.stream stream.val).isOpen = true ∧ (u.stream stream.val).toDevice = false ∧ (u.stream stream.val).acked < (u.stream stream.val).next ∧ (u.stream stream.val).lastAck + u.reg O.KISKO_STREAM_RTO * Config.usUnits ≤ u.now := by
  refine ⟨(based.setStream 0 { isOpen := true, next := 1 }), ((based.setStream 0 { isOpen := true, next := 1 })).tickTo (5000 * Config.usUnits), 5000 * Config.usUnits, 0, rfl, ?_, ?_, ?_, ?_⟩ <;> decide +kernel

theorem witness_SessionAndStreamCommandsComplete_10 : ∃ (s u : State) (t : Nat) (slot : Fin 64) (queue dir credit i : Nat) (v : State),
    u = s.tickTo t ∧ queue < 32768 ∧ dir ≤ 1 ∧ u.checkAccess (.session slot) (O.Q_ENABLE queue) true = (.okay, false) ∧ u.openStream slot.val queue (dir == 1) credit = (.okay, i, v) := by
  refine ⟨based, (based).tickTo (7), 7, 0, 9, 0, 16, 0, (((based.tickTo 7).openStream 0 9 false 16).2.2), rfl, ?_, ?_, ?_, ?_⟩ <;> decide +kernel

theorem witness_SessionAndStreamCommandsComplete_11 : ∃ (s u : State) (t : Nat) (slot : Fin 64) (i : Nat),
    u = s.tickTo t ∧ u.roleOf (.session slot) ≠ 0 ∧ i < 128 ∧ (u.stream i).isOpen = true ∧ (u.stream i).slot = slot.val := by
  refine ⟨(based.setStream 0 { isOpen := true, next := 1 }), ((based.setStream 0 { isOpen := true, next := 1 })).tickTo (7), 7, 0, 0, rfl, ?_, ?_, ?_, ?_⟩ <;> decide +kernel

theorem witness_SessionAndStreamCommandsComplete_12 : ∃ (s u : State) (t : Nat) (slot : Fin 64),
    u = s.tickTo t ∧ u.roleOf (.session slot) ≠ 0 :=
  ⟨based, (based).tickTo (7), 7, 0, rfl, by decide +kernel⟩

theorem witness_ControllerAndKeyCommandsComplete_1 : ∃ (s u : State) (t : Nat) (r : Requester) (crc : Nat) (img : List Byte) (k : Fin 5),
    u = s.tickTo t ∧ u.commitReady r (O.KEYS_KEY_OBSERVER + k.val) crc img = true ∧ img.length ≤ 64 ∧ k.val ≠ 4 :=
  ⟨(base.setXfer (O.KEYS_KEY_OBSERVER + 1) (some ⟨.firmware .a, 0, [1#8, 2#8], 0⟩)), ((base.setXfer (O.KEYS_KEY_OBSERVER + 1) (some ⟨.firmware .a, 0, [1#8, 2#8], 0⟩))).tickTo (7), 7, .firmware .a, crc32 ([1#8, 2#8]), [1#8, 2#8], 1, rfl, State.commitReady_intro _ _ _ _ 0 (by first | rfl | decide) (by decide +kernel) (by decide +kernel) rfl, by decide +kernel, by decide +kernel⟩

theorem witness_ControllerAndKeyCommandsComplete_2 : ∃ (s u : State) (t : Nat) (r : Requester) (crc : Nat) (img : List Byte) (x : Ctl),
    u = s.tickTo t ∧ u.commitReady r (O.MC_IMAGE x.num) crc img = true ∧ u.holder ≠ some x ∧ u.isSet (O.MC_PRESENT x.partner.num) = true ∧ u.firmwareOk img = true ∧ u.restarting .a = false ∧ u.restarting .b = false := by
  refine ⟨(((base.setReg (O.MC_PRESENT 0) 1).setReg (O.MC_FW_STATE 0) 1 |>.setReg (O.MC_FW_STATE 1) 1).setXfer (O.MC_IMAGE 1) (some ⟨.firmware .a, 0, (leBytes 4 0x5746434D ++ fill 28 0 ++ hmac [] []), 0⟩)), ((((base.setReg (O.MC_PRESENT 0) 1).setReg (O.MC_FW_STATE 0) 1 |>.setReg (O.MC_FW_STATE 1) 1).setXfer (O.MC_IMAGE 1) (some ⟨.firmware .a, 0, (leBytes 4 0x5746434D ++ fill 28 0 ++ hmac [] []), 0⟩))).tickTo (7), 7, .firmware .a, crc32 ((leBytes 4 0x5746434D ++ fill 28 0 ++ hmac [] [])), (leBytes 4 0x5746434D ++ fill 28 0 ++ hmac [] []), .b, rfl, State.commitReady_intro _ _ _ _ 0 (by first | rfl | decide) (by decide +kernel) (by decide +kernel) rfl, ?_, ?_, ?_, ?_, ?_⟩ <;> decide +kernel

theorem witness_ControllerAndKeyCommandsComplete_3 : ∃ (s u : State) (t : Nat) (r : Requester) (l : Fin 63),
    u = s.tickTo t ∧ u.writable r (O.LED_SNAP l.val) 1 = true ∧ u.reg (ledTerm (0x1041 + l.val) 0) = (((List.range 8).map (fun k => u.reg (ledTerm (0x1041 + l.val) k))).take (u.reg (O.LED_NTERMS l.val)) |>.drop 1).sum :=
  ⟨base, (base).tickTo (7), 7, .firmware .a, 4, rfl, by decide +kernel, by decide +kernel⟩

theorem witness_ControllerAndKeyCommandsComplete_4 : ∃ (s u : State) (t : Nat) (r : Requester),
    u = s.tickTo t ∧ u.writable r O.DBG_DEBUG_LOCK 1 = true :=
  ⟨(base.setReg O.DBG_DEBUG_LEVEL 2), ((base.setReg O.DBG_DEBUG_LEVEL 2)).tickTo (7), 7, .firmware .a, rfl, by decide +kernel⟩

theorem witness_ControllerAndKeyCommandsComplete_5 : ∃ (s u : State) (t : Nat) (r : Requester) (crc : Nat) (img : List Byte),
    u = s.tickTo t ∧ u.commitReady r O.DBG_RESPONSE crc img = true ∧ u.responseOk img = true ∧ u.dbg.lockUntil ≤ u.now :=
  ⟨({ (base.setReg O.ID_ACCESS_LEVEL 1).setImage O.KEYS_KEY_DEBUG [1#8] with dbg := { nonceAt := some 0 } }.setXfer O.DBG_RESPONSE (some ⟨.firmware .a, 0, (hmac [1#8] (ascii "EVS-DBG1" ++ fill 16 0 ++ leBytes 8 0)), 0⟩)), (({ (base.setReg O.ID_ACCESS_LEVEL 1).setImage O.KEYS_KEY_DEBUG [1#8] with dbg := { nonceAt := some 0 } }.setXfer O.DBG_RESPONSE (some ⟨.firmware .a, 0, (hmac [1#8] (ascii "EVS-DBG1" ++ fill 16 0 ++ leBytes 8 0)), 0⟩))).tickTo (7), 7, .firmware .a, crc32 ((hmac [1#8] (ascii "EVS-DBG1" ++ fill 16 0 ++ leBytes 8 0))), (hmac [1#8] (ascii "EVS-DBG1" ++ fill 16 0 ++ leBytes 8 0)), rfl, State.commitReady_intro _ _ _ _ 0 (by first | rfl | decide) (by decide +kernel) (by decide +kernel) rfl, by decide +kernel, by decide +kernel⟩

theorem witness_ControllerAndKeyCommandsComplete_6 : ∃ (s u : State) (t : Nat) (r : Requester) (x : Ctl),
    u = s.tickTo t ∧ u.writable r (O.RUN_HALT_REQ x.num) 1 = true ∧ u.reg (O.RUN_RUN_STATE x.num) = 0 :=
  ⟨(base.setReg O.DBG_DEBUG_LEVEL 2), ((base.setReg O.DBG_DEBUG_LEVEL 2)).tickTo (7), 7, .firmware .a, .b, rfl, by decide +kernel, by decide +kernel⟩

theorem witness_ControllerAndKeyCommandsComplete_7 : ∃ (s u : State) (t : Nat) (r : Requester) (x : Ctl),
    u = s.tickTo t ∧ u.writable r (O.RUN_RESUME x.num) 1 = true ∧ u.reg (O.RUN_RUN_STATE x.num) = 2 :=
  ⟨((base.setReg O.DBG_DEBUG_LEVEL 2).setReg (O.RUN_RUN_STATE 1) 2), (((base.setReg O.DBG_DEBUG_LEVEL 2).setReg (O.RUN_RUN_STATE 1) 2)).tickTo (7), 7, .firmware .a, .b, rfl, by decide +kernel, by decide +kernel⟩

theorem witness_ControllerAndKeyCommandsComplete_8 : ∃ (s u : State) (t : Nat) (r : Requester) (x : Ctl),
    u = s.tickTo t ∧ u.writable r (O.RUN_STEP x.num) 1 = true ∧ u.reg (O.RUN_RUN_STATE x.num) = 2 :=
  ⟨((base.setReg O.DBG_DEBUG_LEVEL 2).setReg (O.RUN_RUN_STATE 1) 2), (((base.setReg O.DBG_DEBUG_LEVEL 2).setReg (O.RUN_RUN_STATE 1) 2)).tickTo (7), 7, .firmware .a, .b, rfl, by decide +kernel, by decide +kernel⟩

theorem witness_ControllerAndKeyCommandsComplete_9 : ∃ (s u : State) (t : Nat) (x : Ctl) (dpc a cause : Nat) (gpr : List Byte),
    u = s.tickTo t ∧ (u.ctl x).arose = some (a, cause) :=
  ⟨(base.setCtl .a { arose := some (3, 1) }), ((base.setCtl .a { arose := some (3, 1) })).tickTo (7), 7, .a, 64, 3, 1, [], rfl, by decide +kernel⟩

theorem witness_ControllerAndKeyCommandsComplete_10 : ∃ (s u : State) (t : Nat) (x : Ctl) (dpc a cause : Nat) (gpr : List Byte),
    u = s.tickTo t ∧ (u.ctl x).arose = some (a, cause) ∧ a + 64 * Config.nsUnits ≤ u.now :=
  ⟨(base.setCtl .a { arose := some (3, 1) }), ((base.setCtl .a { arose := some (3, 1) })).tickTo (3 + 64 * Config.nsUnits), 3 + 64 * Config.nsUnits, .a, 64, 3, 1, [], rfl, by decide +kernel, by decide +kernel⟩

theorem witness_ControllerAndKeyCommandsComplete_11 : ∃ (s u : State) (t : Nat) (x : Ctl) (how : McAccess) (addr k : Nat),
    u = s.tickTo t ∧ u.reg (O.RUN_RUN_STATE x.num) = 0 ∧ (List.range 8).filter (fun k => u.mcMatches x k how addr) = [k] ∧ bits (u.mcComp x k) 7 6 = 0 :=
  ⟨(base.setImage (O.RUN_COMP 0) (fill 8 0 ++ [1#8] ++ fill 119 0)), ((base.setImage (O.RUN_COMP 0) (fill 8 0 ++ [1#8] ++ fill 119 0))).tickTo (7), 7, .a, .execute, 0, 0, rfl, by decide +kernel, by decide +kernel, by decide +kernel⟩

theorem witness_ControllerAndKeyCommandsComplete_12 : ∃ (s u : State) (t : Nat) (r : Requester) (x : Ctl),
    u = s.tickTo t ∧ u.writable r (O.WD_KICK x.num) 0x5A = true :=
  ⟨base, (base).tickTo (7), 7, .firmware .a, .a, rfl, by decide +kernel⟩

theorem witness_ControllerAndKeyCommandsComplete_13 : ∃ (s u : State) (t : Nat) (r : Requester) (x : Ctl),
    u = s.tickTo t ∧ u.writable r (O.WD_ENABLE x.num) 1 = true ∧ u.isSet (O.WD_ENABLE x.num) = false :=
  ⟨base, (base).tickTo (7), 7, .firmware .a, .a, rfl, by decide +kernel, by decide +kernel⟩

theorem witness_ControllerAndKeyCommandsComplete_14 : ∃ (s u : State) (t : Nat) (x : Ctl),
    u = s.tickTo t ∧ u.wdCounts x = true ∧ u.reg (O.WD_PRETIMEOUT x.num) ≠ 0 ∧ u.wdRemaining x ≤ u.reg (O.WD_PRETIMEOUT x.num) ∧ (u.ctl x).wdPre = false := by
  refine ⟨(((base.setReg (O.WD_ENABLE 0) 1).setReg (O.WD_PRETIMEOUT 0) 1000).wdReload .a), ((((base.setReg (O.WD_ENABLE 0) 1).setReg (O.WD_PRETIMEOUT 0) 1000).wdReload .a)).tickTo (10000 * Config.msUnits), 10000 * Config.msUnits, .a, rfl, ?_, ?_, ?_, ?_⟩ <;> decide +kernel

theorem witness_ControllerAndKeyCommandsComplete_15 : ∃ (s u : State) (t : Nat) (x : Ctl),
    u = s.tickTo t ∧ u.wdCounts x = true ∧ u.resetting.contains (93 + x.num) = false ∧ (u.ctl x).wdAt + (u.ctl x).wdLeft * Config.usUnits + Config.nsUnits ≤ u.now :=
  ⟨((base.setReg (O.WD_ENABLE 0) 1).wdReload .a), (((base.setReg (O.WD_ENABLE 0) 1).wdReload .a)).tickTo (10000 * Config.msUnits + Config.nsUnits), 10000 * Config.msUnits + Config.nsUnits, .a, rfl, by decide +kernel, by decide +kernel, by decide +kernel⟩

theorem witness_ObservationCommandsComplete_1 : ∃ (s u : State) (t : Nat) (r : Requester) (v : Nat),
    u = s.tickTo t ∧ u.writable r O.ENGDBG_ENG_HALT v = true ∧ u.reg (O.ENG_STATE (v % 512)) = 4 ∧ ((u.haltPump.dspPump (v % 512) u.wc).gangOf (v % 512)).any (fun m => ((u.haltPump.dspPump (v % 512) u.wc).engine m).claim.isSome) = false :=
  ⟨((base.setReg O.DBG_DEBUG_LEVEL 2).setReg (O.ENG_STATE 3) 4), (((base.setReg O.DBG_DEBUG_LEVEL 2).setReg (O.ENG_STATE 3) 4)).tickTo (7), 7, .firmware .a, 3, rfl, by decide +kernel, by decide +kernel, by decide +kernel⟩

theorem witness_ObservationCommandsComplete_2 : ∃ (s u : State) (t : Nat) (r : Requester) (v : Nat),
    u = s.tickTo t ∧ u.writable r O.ENGDBG_ENG_RESUME v = true ∧ u.reg (O.ENG_STATE (v % 512)) = 7 :=
  ⟨((base.setReg O.DBG_DEBUG_LEVEL 2).setReg (O.ENG_STATE 3) 7), (((base.setReg O.DBG_DEBUG_LEVEL 2).setReg (O.ENG_STATE 3) 7)).tickTo (7), 7, .firmware .a, 3, rfl, by decide +kernel, by decide +kernel⟩

theorem witness_ObservationCommandsComplete_3 : ∃ (s u : State) (t : Nat) (r : Requester) (v : Nat),
    u = s.tickTo t ∧ u.writable r O.ENGDBG_ENG_STEP v = true ∧ u.reg (O.ENG_STATE (v % 512)) = 7 :=
  ⟨((base.setReg O.DBG_DEBUG_LEVEL 2).setReg (O.ENG_STATE 3) 7), (((base.setReg O.DBG_DEBUG_LEVEL 2).setReg (O.ENG_STATE 3) 7)).tickTo (7), 7, .firmware .a, 3, rfl, by decide +kernel, by decide +kernel⟩

theorem witness_ObservationCommandsComplete_4 : ∃ (s u : State) (t : Nat) (r : Requester),
    u = s.tickTo t ∧ u.writable r O.TRACE_TRACE_RUN 1 = true :=
  ⟨base, (base).tickTo (7), 7, .firmware .a, rfl, by decide +kernel⟩

theorem witness_ObservationCommandsComplete_5 : ∃ (s u : State) (t : Nat) (r : Requester),
    u = s.tickTo t ∧ u.writable r O.TRACE_TRACE_RUN 0 = true :=
  ⟨base, (base).tickTo (7), 7, .firmware .a, rfl, by decide +kernel⟩

theorem witness_ObservationCommandsComplete_6 : ∃ (s u : State) (t : Nat) (x : Ctl) (kind : Fin 3) (target : Nat),
    u = s.tickTo t ∧ u.reg (O.RUN_RUN_STATE x.num) < 2 :=
  ⟨base, (base).tickTo (7), 7, .a, 1, 64, rfl, by decide +kernel⟩

theorem witness_ObservationCommandsComplete_7 : ∃ (s u : State) (t : Nat),
    u = s.tickTo t ∧ u.isSet O.TRACE_TRACE_RUN = false :=
  ⟨base, (base).tickTo (7), 7, rfl, by decide +kernel⟩

theorem witness_ObservationCommandsComplete_8 : ∃ (s u : State) (t : Nat) (r : Requester) (v : Nat),
    u = s.tickTo t ∧ u.writable r O.TRACE_TRACE_USER v = true :=
  ⟨base, (base).tickTo (7), 7, .firmware .a, 9, rfl, by decide +kernel⟩

theorem witness_ObservationCommandsComplete_9 : ∃ (s u : State) (t : Nat) (r : Requester) (k : Fin 16),
    u = s.tickTo t ∧ u.writable r (O.EVC_CLEAR k.val) 1 = true :=
  ⟨base, (base).tickTo (7), 7, .firmware .a, 9, rfl, by decide +kernel⟩

theorem witness_ObservationCommandsComplete_10 : ∃ (s u : State) (t : Nat) (r : Requester),
    u = s.tickTo t ∧ u.writable r O.EVSNAP_SNAP 1 = true :=
  ⟨base, (base).tickTo (7), 7, .firmware .a, rfl, by decide +kernel⟩

theorem witness_MarkerCommandsComplete_1 : ∃ (s u : State) (t : Nat) (f : Option Nat) (b : Bool) (fr : Frame),
    u = s.tickTo t ∧ u.isSet O.DEV_CLKREF_STABLE = true ∧ u.pllLocked pllSpll = true ∧ u.clk.ending = false ∧ symbolOf f = some b ∧ frameOf (some b :: u.marker.syms.take 127).reverse = some fr ∧ u.reg O.MARK_MARKER_STATE = 0 := by
  refine ⟨(marked 0 4096 0 0), ((marked 0 4096 0 0)).tickTo (7), 7, (fallOf ((goodSyms 4096 5 0 9).headD none)), ((goodSyms 4096 5 0 9).headD none).getD false, ⟨4096, 5, 0, 9⟩, rfl, ?_, ?_, ?_, ?_, ?_, ?_⟩ <;> decide +kernel

theorem witness_MarkerCommandsComplete_2 : ∃ (s u : State) (t : Nat) (f : Option Nat) (b : Bool) (fr : Frame),
    u = s.tickTo t ∧ u.isSet O.DEV_CLKREF_STABLE = true ∧ u.pllLocked pllSpll = true ∧ u.clk.ending = false ∧ symbolOf f = some b ∧ frameOf (some b :: u.marker.syms.take 127).reverse = some fr ∧ u.reg O.MARK_MARKER_STATE = 1 ∧ u.marker.count = 127 ∧ fr.tt = (u.marker.candF + 128) % 2 ^ 64 ∧ fr.yard = u.marker.candY := by
  refine ⟨(marked 1 4096 127 (4096 - 128)), ((marked 1 4096 127 (4096 - 128))).tickTo (7), 7, (fallOf ((goodSyms 4096 5 0 9).headD none)), ((goodSyms 4096 5 0 9).headD none).getD false, ⟨4096, 5, 0, 9⟩, rfl, ?_, ?_, ?_, ?_, ?_, ?_, ?_, ?_, ?_⟩ <;> decide +kernel

theorem witness_MarkerCommandsComplete_3 : ∃ (s u : State) (t : Nat) (f : Option Nat) (b : Bool) (fr : Frame),
    u = s.tickTo t ∧ u.isSet O.DEV_CLKREF_STABLE = true ∧ u.pllLocked pllSpll = true ∧ u.clk.ending = false ∧ symbolOf f = some b ∧ frameOf (some b :: u.marker.syms.take 127).reverse = some fr ∧ u.reg O.MARK_MARKER_STATE = 2 ∧ u.marker.count = 127 ∧ fr.tt = (t / Config.tickUnits + 1 - 128 + u.ttOff) % 2 ^ 64 ∧ fr.yard = u.reg O.ID_YARD_ID := by
  refine ⟨({ (marked 2 4096 127 0).setReg O.ID_YARD_ID 5 with ttOff := 4096 + 128 - 1001 }), (({ (marked 2 4096 127 0).setReg O.ID_YARD_ID 5 with ttOff := 4096 + 128 - 1001 })).tickTo ((1000 * Config.tickUnits)), (1000 * Config.tickUnits), (fallOf ((goodSyms 4096 5 0 9).headD none)), ((goodSyms 4096 5 0 9).headD none).getD false, ⟨4096, 5, 0, 9⟩, rfl, ?_, ?_, ?_, ?_, ?_, ?_, ?_, ?_, ?_⟩ <;> decide +kernel

theorem witness_TimelineCommandsComplete_1 : ∃ (s u : State) (t : Nat) (k : Fin 2) (master : Nat) (offset : Int) (delay interval : Nat),
    u = s.tickTo t ∧ u.reg (O.PTP_STATE k.val) = 1 ∧ k.val ≠ u.reg O.ACT_ACTIVE_DOMAIN :=
  ⟨(base.setReg (O.PTP_STATE 1) 1), ((base.setReg (O.PTP_STATE 1) 1)).tickTo (7), 7, 1, 5, (-3), 2, 9, rfl, by decide +kernel, by decide +kernel⟩

theorem witness_TimelineCommandsComplete_2 : ∃ (s u : State) (t : Nat) (k : Fin 2),
    u = s.tickTo t ∧ u.reg (O.PTP_STATE k.val) = 3 ∧ (u.ptpDom k.val).lastSync + 4 * (u.ptpDom k.val).interval ≤ u.now :=
  ⟨(base.setReg (O.PTP_STATE 1) 3), ((base.setReg (O.PTP_STATE 1) 3)).tickTo (7), 7, 1, rfl, by decide +kernel, by decide +kernel⟩

theorem witness_TimelineCommandsComplete_3 : ∃ (s u : State) (t : Nat) (k : Fin 2),
    u = s.tickTo t ∧ u.reg (O.PTP_STATE k.val) = 4 ∧ (u.ptpDom k.val).holdoverAt + u.reg (O.PTP_HOLDOVER_LIMIT k.val) * Config.msUnits ≤ u.now :=
  ⟨(base.setReg (O.PTP_STATE 1) 4), ((base.setReg (O.PTP_STATE 1) 4)).tickTo (100000000 * Config.msUnits), 100000000 * Config.msUnits, 1, rfl, by decide +kernel, by decide +kernel⟩

theorem witness_TimelineCommandsComplete_4 : ∃ (s u : State) (t : Nat) (r : Requester) (v : State),
    u = s.tickTo t ∧ u.writable r O.ACT_SWITCH_ARM 1 = true ∧ u.sched .ptpSwitch 0 = none ∧ u.act.slewing = false ∧ u.reg (O.PTP_STATE (1 - u.reg O.ACT_ACTIVE_DOMAIN)) = 3 ∧ u.mayArm (u.reg O.ACT_SWITCH_AT) true = true ∧ u.armAction .ptpSwitch 0 (u.reg O.ACT_SWITCH_AT) (1 - u.reg O.ACT_ACTIVE_DOMAIN) = (.okay, v) := by
  refine ⟨(((base.setReg O.MARK_TT_VALID 1).setReg (O.PTP_STATE 1) 3).setReg O.ACT_SWITCH_AT (ttImage 100 0)), ((((base.setReg O.MARK_TT_VALID 1).setReg (O.PTP_STATE 1) 3).setReg O.ACT_SWITCH_AT (ttImage 100 0))).tickTo (7), 7, .firmware .a, (((((base.setReg O.MARK_TT_VALID 1).setReg (O.PTP_STATE 1) 3).setReg O.ACT_SWITCH_AT (ttImage 100 0)).tickTo 7).armAction .ptpSwitch 0 (ttImage 100 0) 1).2, rfl, ?_, ?_, ?_, ?_, ?_, ?_⟩ <;> decide +kernel

theorem witness_TimelineCommandsComplete_5 : ∃ (s u : State) (t : Nat) (r : Requester)  (a : Sched),
    u = s.tickTo t ∧ u.writable r O.ACT_SWITCH_CANCEL 1 = true ∧ u.sched .ptpSwitch 0 = some a ∧ (u.now / Config.tickUnits + 1) * Config.tickUnits ≤ u.effectAt .ptpSwitch (0) a :=
  ⟨{ base with scheds := [(schedKey .ptpSwitch 0, some ⟨100, 0, 0⟩)] }, ({ base with scheds := [(schedKey .ptpSwitch 0, some ⟨100, 0, 0⟩)] }).tickTo (7), 7, .firmware .a, ⟨100, 0, 0⟩, rfl, by decide +kernel, by decide +kernel, by decide +kernel⟩

theorem witness_TimelineCommandsComplete_6 : ∃ (s u : State) (t : Nat) (a : Sched) (v : State),
    u = s.tickTo t ∧ u.sched .ptpSwitch 0 = some a ∧ u.due .ptpSwitch 0 a = true ∧ v = u.endAction .ptpSwitch 0 1 ∧ v.reg (O.PTP_STATE a.arg) = 3 ∧ ((v.ptpNow a.arg - v.actNow).tdiv ptpNs).natAbs ≤ v.reg O.ACT_SWITCH_LIMIT ∧ v.reg O.ACT_SWITCH_MODE ≠ 0 := by
  refine ⟨(({ base with scheds := [(schedKey .ptpSwitch 0, some ⟨3, 0, 1⟩)] }.setReg (O.PTP_STATE 1) 3).setReg O.ACT_SWITCH_MODE 1), ((({ base with scheds := [(schedKey .ptpSwitch 0, some ⟨3, 0, 1⟩)] }.setReg (O.PTP_STATE 1) 3).setReg O.ACT_SWITCH_MODE 1)).tickTo (10 * Config.tickUnits), 10 * Config.tickUnits, ⟨3, 0, 1⟩, _, rfl, ?_, ?_, rfl, ?_, ?_, ?_⟩ <;> decide +kernel

theorem witness_TimelineCommandsComplete_7 : ∃ (s u : State) (t : Nat),
    u = s.tickTo t ∧ u.act.slewing = true ∧ u.act.paused = false ∧ u.residual = 0 :=
  ⟨{ base with act := { slewing := true } }, ({ base with act := { slewing := true } }).tickTo (7), 7, rfl, by decide +kernel, by decide +kernel, by decide +kernel⟩

theorem witness_TimelineCommandsComplete_8 : ∃ (s u : State) (t : Nat) (r : Requester),
    u = s.tickTo t ∧ u.writable r O.MARK_TT_RESYNC 1 = true ∧ u.reg O.SCHED_PENDING = 0 ∧ u.anyRunning = false ∧ 2 ≤ u.reg O.MARK_MARKER_STATE := by
  refine ⟨(base.setReg O.MARK_MARKER_STATE 2), ((base.setReg O.MARK_MARKER_STATE 2)).tickTo (7), 7, .firmware .a, rfl, ?_, ?_, ?_, ?_⟩ <;> decide +kernel

theorem witness_TimelineCommandsComplete_9 : ∃ (s u : State) (t : Nat) (r : Requester) (a : Arming) (v : State),
    u = s.tickTo t ∧ u.writable r (armObj a) 1 = true ∧ u.ownerOf r (armObj a) 1 u = (.okay, v) :=
  ⟨(((base.setReg O.MARK_TT_VALID 1).setReg (O.PTP_STATE 1) 3).setReg O.ACT_SWITCH_AT (ttImage 100 0)), ((((base.setReg O.MARK_TT_VALID 1).setReg (O.PTP_STATE 1) 3).setReg O.ACT_SWITCH_AT (ttImage 100 0))).tickTo (7), 7, .firmware .a, .ptpSwitch, (((((base.setReg O.MARK_TT_VALID 1).setReg (O.PTP_STATE 1) 3).setReg O.ACT_SWITCH_AT (ttImage 100 0)).tickTo 7).armAction .ptpSwitch 0 (ttImage 100 0) 1).2, rfl, by decide +kernel, by decide +kernel⟩

theorem witness_TimelineCommandsComplete_10 : ∃ (s u : State) (t : Nat) (r : Requester) (a : Arming) (v : State),
    u = s.tickTo t ∧ u.writable r (cancelObj a) 1 = true ∧ u.ownerOf r (cancelObj a) 1 u = (.okay, v) :=
  ⟨{ base with scheds := [(schedKey .ptpSwitch 0, some ⟨100, 0, 0⟩)] }, ({ base with scheds := [(schedKey .ptpSwitch 0, some ⟨100, 0, 0⟩)] }).tickTo (7), 7, .firmware .a, .ptpSwitch, ({ base with scheds := [(schedKey .ptpSwitch 0, some ⟨100, 0, 0⟩)] }.tickTo 7).endAction .ptpSwitch 0 2, rfl, by decide +kernel, by decide +kernel⟩

theorem witness_TriggerCommandsComplete_1 : ∃ (s u : State) (t : Nat) (r : Requester) (u0 : Fin 16) (v : State),
    u = s.tickTo t ∧ u.writable r (O.TRIG_ARM u0.val) 1 = true ∧ u.mayArm (u.reg (O.TRIG_AT u0.val)) false = true ∧ u.settleTrain u0.val = u ∧ u.reg (O.TRIG_OUT_STATE u0.val) = 0 ∧ 0 < u.reg (O.TRIG_COUNT u0.val) ∧ (u.reg (O.TRIG_COUNT u0.val) ≤ 1 ∨ 2 * u.reg (O.TRIG_WIDTH u0.val) < u.reg (O.TRIG_PERIOD u0.val)) ∧ 40000 ≤ u.reg (O.TRIG_PERIOD u0.val) ∧ u.armAction .trigger u0.val (u.reg (O.TRIG_AT u0.val)) 0 = (.okay, v) := by
  refine ⟨((((base.setReg O.MARK_TT_VALID 1).setReg (O.TRIG_COUNT 2) 1).setReg (O.TRIG_WIDTH 2) 100).setReg (O.TRIG_PERIOD 2) 40000 |>.setReg (O.TRIG_AT 2) (ttImage 100 0)), (((((base.setReg O.MARK_TT_VALID 1).setReg (O.TRIG_COUNT 2) 1).setReg (O.TRIG_WIDTH 2) 100).setReg (O.TRIG_PERIOD 2) 40000 |>.setReg (O.TRIG_AT 2) (ttImage 100 0))).tickTo (7), 7, .firmware .a, 2, ((((((base.setReg O.MARK_TT_VALID 1).setReg (O.TRIG_COUNT 2) 1).setReg (O.TRIG_WIDTH 2) 100).setReg (O.TRIG_PERIOD 2) 40000 |>.setReg (O.TRIG_AT 2) (ttImage 100 0)).tickTo 7).armAction .trigger 2 (ttImage 100 0) 0).2, rfl, ?_, ?_, ?_, ?_, ?_, ?_, ?_, ?_⟩ <;> decide +kernel

theorem witness_TriggerCommandsComplete_2 : ∃ (s u : State) (t : Nat) (r : Requester) (u0 : Fin 16) (a : Sched),
    u = s.tickTo t ∧ u.writable r (O.TRIG_CANCEL u0.val) 1 = true ∧ u.settleTrain u0.val = u ∧ u.reg (O.TRIG_OUT_STATE u0.val) = 1 ∧ u.sched .trigger u0.val = some a ∧ (u.now / Config.tickUnits + 1) * Config.tickUnits ≤ u.effectAt .trigger u0.val a := by
  refine ⟨({ base with scheds := [(schedKey .trigger 2, some ⟨100, 0, 0⟩)] }.setReg (O.TRIG_OUT_STATE 2) 1), (({ base with scheds := [(schedKey .trigger 2, some ⟨100, 0, 0⟩)] }.setReg (O.TRIG_OUT_STATE 2) 1)).tickTo (7), 7, .firmware .a, 2, ⟨100, 0, 0⟩, rfl, ?_, ?_, ?_, ?_, ?_⟩ <;> decide +kernel

theorem witness_TriggerCommandsComplete_3 : ∃ (s u : State) (t : Nat) (u0 : Fin 16) (a : Sched),
    u = s.tickTo t ∧ u.settleTrain u0.val = u ∧ u.sched .trigger u0.val = some a ∧ u.due .trigger u0.val a = true ∧ u.reg (O.TRIG_MODE u0.val) = 1 := by
  refine ⟨({ base with scheds := [(schedKey .trigger 2, some ⟨3, 0, 0⟩)] }.setReg (O.TRIG_MODE 2) 1), (({ base with scheds := [(schedKey .trigger 2, some ⟨3, 0, 0⟩)] }.setReg (O.TRIG_MODE 2) 1)).tickTo (10 * Config.tickUnits), 10 * Config.tickUnits, 2, ⟨3, 0, 0⟩, rfl, ?_, ?_, ?_, ?_⟩ <;> decide +kernel

theorem witness_TriggerCommandsComplete_4 : ∃ (s u : State) (t : Nat) (u0 : Fin 16),
    u = s.tickTo t ∧ u.settleTrain u0.val = u ∧ u.sched .trigger u0.val = none ∧ u.reg (O.TRIG_OUT_STATE u0.val) = 2 ∧ 0 < (u.trig u0.val).left ∧ (u.trig u0.val).nextEdge ≤ u.now ∧ (u.trig u0.val).cancelAt = 0 := by
  refine ⟨((base.setReg (O.TRIG_OUT_STATE 2) 2).setTrig 2 { left := 1 }), (((base.setReg (O.TRIG_OUT_STATE 2) 2).setTrig 2 { left := 1 })).tickTo (7), 7, 2, rfl, ?_, ?_, ?_, ?_, ?_, ?_⟩ <;> decide +kernel

theorem witness_TriggerCommandsComplete_5 : ∃ (s u : State) (t : Nat) (u0 : Fin 16),
    u = s.tickTo t ∧ (u.trig u0.val).inPulse = true ∧ (u.trig u0.val).pulseEnd ≤ u.now :=
  ⟨(base.setTrig 2 { inPulse := true }), ((base.setTrig 2 { inPulse := true })).tickTo (7), 7, 2, rfl, by decide +kernel, by decide +kernel⟩

theorem witness_TriggerCommandsComplete_6 : ∃ (s u : State) (t : Nat) (r : Requester) (u0 : Fin 16) (v : Nat),
    u = s.tickTo t ∧ u.writable r (O.TRIG_MODE u0.val) v = true ∧ u.reg (O.TRIG_MODE u0.val) = 0 :=
  ⟨base, (base).tickTo (7), 7, .firmware .a, 2, 1, rfl, by decide +kernel, by decide +kernel⟩

theorem witness_TriggerCommandsComplete_7 : ∃ (s u : State) (t : Nat) (u0 : Fin 16) (rising : Bool),
    u = s.tickTo t ∧ u.reg (O.TRIG_MODE u0.val) = 2 ∧ (u.trig u0.val).holds.testBit 0 = false ∧ u.reg (O.TRIG_POLARITY u0.val) = 2 ∧ u.reg O.PWR_WAKE_TRIG ≠ u0.val ∧ (u.trig u0.val).rcd = none := by
  refine ⟨(((base.setReg (O.TRIG_MODE 2) 2).setReg (O.TRIG_POLARITY 2) 2).setReg O.PWR_WAKE_TRIG 9 |>.setTrig 2 { holds := 0 }), ((((base.setReg (O.TRIG_MODE 2) 2).setReg (O.TRIG_POLARITY 2) 2).setReg O.PWR_WAKE_TRIG 9 |>.setTrig 2 { holds := 0 })).tickTo (7), 7, 2, true, rfl, ?_, ?_, ?_, ?_, ?_⟩ <;> decide +kernel

theorem witness_TriggerCommandsComplete_8 : ∃ (s u : State) (t : Nat) (u0 : Fin 16),
    u = s.tickTo t ∧ u.deadOver u0.val = true :=
  ⟨(base.setTrig 2 { rcd := some ⟨0, 1, 0, 0, 0⟩ }), ((base.setTrig 2 { rcd := some ⟨0, 1, 0, 0, 0⟩ })).tickTo (1000 * Config.msUnits), 1000 * Config.msUnits, 2, rfl, by decide +kernel⟩

theorem witness_ClockCommandsComplete_1 : ∃ (s u : State) (t : Nat) (count : Nat),
    u = s.tickTo t ∧ 9933 ≤ count ∧ count ≤ 10547 ∧ u.clk.missing = false :=
  ⟨base, (base).tickTo (7), 7, 10240, rfl, by decide +kernel, by decide +kernel, by decide +kernel⟩

theorem witness_ClockCommandsComplete_2 : ∃ (s u : State) (t : Nat) (count : Nat) (v : State),
    u = s.tickTo t ∧ (count < 9933 ∨ 10547 < count ∨ u.clk.missing = true) ∧ v = u.setReg O.CLKREF_LAST_GATE (count % 65536) :=
  ⟨base, (base).tickTo (7), 7, 3, _, rfl, by decide +kernel, rfl⟩

theorem witness_ClockCommandsComplete_4 : ∃ (s u : State) (t : Nat),
    u = s.tickTo t ∧ u.isSet O.DEV_CLKREF_STABLE = false ∧ u.reg O.CLKREF_STABLE_GATES ≤ u.clk.good ∧ u.reg O.DEV_DEVICE_STATE ≠ 4 :=
  ⟨{ base with clk := { good := 1000 } }, ({ base with clk := { good := 1000 } }).tickTo (7), 7, rfl, by decide +kernel, by decide +kernel, by decide +kernel⟩

theorem witness_ClockCommandsComplete_5 : ∃ (s u : State) (t : Nat),
    u = s.tickTo t ∧ u.isSet O.DEV_CLKREF_STABLE = false ∧ u.reg O.CLKREF_STABLE_GATES ≤ u.clk.good ∧ u.reg O.DEV_DEVICE_STATE = 4 :=
  ⟨{ base.setReg O.DEV_DEVICE_STATE 4 with clk := { good := 1000 } }, ({ base.setReg O.DEV_DEVICE_STATE 4 with clk := { good := 1000 } }).tickTo (7), 7, rfl, by decide +kernel, by decide +kernel, by decide +kernel⟩

theorem witness_ClockCommandsComplete_6 : ∃ (s u : State) (t : Nat),
    u = s.tickTo t ∧ u.clk.due = true :=
  ⟨{ base with clk := { due := true } }, ({ base with clk := { due := true } }).tickTo (7), 7, rfl, by decide +kernel⟩

theorem witness_ClockCommandsComplete_7 : ∃ (s u : State) (t : Nat) (w : State),
    u = s.tickTo t ∧ u.reg O.DEV_DEVICE_STATE = 4 ∧ u.clk.due = false ∧ u.isSet O.DEV_CLKREF_STABLE = true ∧ (List.range 51).all (fun n => u.pllLocked n || !u.shedOn (pllShed n)) = true ∧ (List.range 8).any (fun m => u.reg (O.MEMC_STATE m) == 3 && u.shedOn (quadStop (m / 2) 20)) = false ∧ w = ((u.clocksNow.setReg O.DEV_DEVICE_STATE u.clk.prior).recovery 0 false).shiftLimits (u.now - u.clk.since) := by
  refine ⟨((base.setReg O.DEV_CLKREF_STABLE 1).setReg O.DEV_DEVICE_STATE 4), (((base.setReg O.DEV_CLKREF_STABLE 1).setReg O.DEV_DEVICE_STATE 4)).tickTo (7), 7, _, rfl, ?_, ?_, ?_, ?_, ?_, rfl⟩ <;> decide +kernel

theorem witness_ClockCommandsComplete_8 : ∃ (s u : State) (t : Nat) (r : Requester),
    u = s.tickTo t ∧ u.writable r O.CLKREF_PAD_RELEASE 1 = true ∧ u.ttValid = true :=
  ⟨(base.setReg O.MARK_TT_VALID 1), ((base.setReg O.MARK_TT_VALID 1)).tickTo (7), 7, .firmware .a, rfl, by decide +kernel, by decide +kernel⟩

theorem witness_ClockCommandsComplete_9 : ∃ (s u : State) (t : Nat) (n : Fin 51),
    u = s.tickTo t ∧ u.isSet O.DEV_CLKREF_STABLE = true ∧ u.shedOn (pllShed n.val) = true ∧ u.clk.due = false ∧ (n.val = 0 ∨ u.clkLost = false) := by
  refine ⟨(base.setReg O.DEV_CLKREF_STABLE 1), ((base.setReg O.DEV_CLKREF_STABLE 1)).tickTo (7), 7, 5, rfl, ?_, ?_, ?_, ?_⟩ <;> decide +kernel

theorem witness_ClockCommandsComplete_10 : ∃ (s u : State) (t : Nat) (n : Fin 51) (v : State),
    u = s.tickTo t ∧ u.isSet O.DEV_CLKREF_STABLE = true ∧ u.pllLocked n.val = true ∧ v = ((u.clocksNow.setPll n.val false).setFlag O.CLK_UNLOCK 0 O.CLK_UNLOCK_COUNT 1).setReg O.CLK_LAST_UNLOCK n.val ∧ n.val = 0 :=
  ⟨(base.setReg O.DEV_CLKREF_STABLE 1), ((base.setReg O.DEV_CLKREF_STABLE 1)).tickTo (7), 7, 0, _, rfl, by decide +kernel, by decide +kernel, rfl, by decide +kernel⟩

theorem witness_ClockCommandsComplete_11 : ∃ (s u : State) (t : Nat) (n : Fin 51) (v : State),
    u = s.tickTo t ∧ u.isSet O.DEV_CLKREF_STABLE = true ∧ u.pllLocked n.val = true ∧ v = ((u.clocksNow.setPll n.val false).setFlag O.CLK_UNLOCK 0 O.CLK_UNLOCK_COUNT 1).setReg O.CLK_LAST_UNLOCK n.val ∧ 1 ≤ n.val ∧ n.val < 37 := by
  refine ⟨(base.setReg O.DEV_CLKREF_STABLE 1), ((base.setReg O.DEV_CLKREF_STABLE 1)).tickTo (7), 7, 5, _, rfl, ?_, ?_, rfl, ?_, ?_⟩ <;> decide +kernel

theorem witness_ClockCommandsComplete_12 : ∃ (s u : State) (t : Nat) (n : Fin 51) (v : State),
    u = s.tickTo t ∧ u.isSet O.DEV_CLKREF_STABLE = true ∧ u.pllLocked n.val = true ∧ v = ((u.clocksNow.setPll n.val false).setFlag O.CLK_UNLOCK 0 O.CLK_UNLOCK_COUNT 1).setReg O.CLK_LAST_UNLOCK n.val ∧ 37 ≤ n.val ∧ n.val < 41 := by
  refine ⟨(base.setReg O.DEV_CLKREF_STABLE 1), ((base.setReg O.DEV_CLKREF_STABLE 1)).tickTo (7), 7, 38, _, rfl, ?_, ?_, rfl, ?_, ?_⟩ <;> decide +kernel

theorem witness_ClockCommandsComplete_13 : ∃ (s u : State) (t : Nat) (n : Fin 51) (v : State),
    u = s.tickTo t ∧ u.isSet O.DEV_CLKREF_STABLE = true ∧ u.pllLocked n.val = true ∧ v = ((u.clocksNow.setPll n.val false).setFlag O.CLK_UNLOCK 0 O.CLK_UNLOCK_COUNT 1).setReg O.CLK_LAST_UNLOCK n.val ∧ 41 ≤ n.val ∧ n.val < 45 := by
  refine ⟨(base.setReg O.DEV_CLKREF_STABLE 1), ((base.setReg O.DEV_CLKREF_STABLE 1)).tickTo (7), 7, 42, _, rfl, ?_, ?_, rfl, ?_, ?_⟩ <;> decide +kernel

theorem witness_ClockCommandsComplete_14 : ∃ (s u : State) (t : Nat) (n : Fin 51) (v : State),
    u = s.tickTo t ∧ u.isSet O.DEV_CLKREF_STABLE = true ∧ u.pllLocked n.val = true ∧ v = ((u.clocksNow.setPll n.val false).setFlag O.CLK_UNLOCK 0 O.CLK_UNLOCK_COUNT 1).setReg O.CLK_LAST_UNLOCK n.val ∧ 45 ≤ n.val ∧ n.val < 49 := by
  refine ⟨(base.setReg O.DEV_CLKREF_STABLE 1), ((base.setReg O.DEV_CLKREF_STABLE 1)).tickTo (7), 7, 46, _, rfl, ?_, ?_, rfl, ?_, ?_⟩ <;> decide +kernel

theorem witness_ClockCommandsComplete_15 : ∃ (s u : State) (t : Nat) (n : Fin 51) (v : State),
    u = s.tickTo t ∧ u.isSet O.DEV_CLKREF_STABLE = true ∧ u.pllLocked n.val = true ∧ v = ((u.clocksNow.setPll n.val false).setFlag O.CLK_UNLOCK 0 O.CLK_UNLOCK_COUNT 1).setReg O.CLK_LAST_UNLOCK n.val ∧ 49 ≤ n.val :=
  ⟨(base.setReg O.DEV_CLKREF_STABLE 1), ((base.setReg O.DEV_CLKREF_STABLE 1)).tickTo (7), 7, 50, _, rfl, by decide +kernel, by decide +kernel, rfl, by decide +kernel⟩

theorem witness_ClockCommandsComplete_16 : ∃ (s u : State) (t : Nat) (r : Requester) (crc : Nat) (img : List Byte),
    u = s.tickTo t ∧ u.commitReady r O.CLK_CLK_ENABLE crc img = true ∧ (ownClkEnable img 0 (u.setXfer O.CLK_CLK_ENABLE none)).1 = .okay ∧ img.length = 52 :=
  ⟨((base.setReg O.DEV_CLKREF_STABLE 1).setXfer O.CLK_CLK_ENABLE (some ⟨.firmware .a, 0, (fill 51 255 ++ [0x7F#8]), 0⟩)), (((base.setReg O.DEV_CLKREF_STABLE 1).setXfer O.CLK_CLK_ENABLE (some ⟨.firmware .a, 0, (fill 51 255 ++ [0x7F#8]), 0⟩))).tickTo (7), 7, .firmware .a, crc32 ((fill 51 255 ++ [0x7F#8])), (fill 51 255 ++ [0x7F#8]), rfl, State.commitReady_intro _ _ _ _ 0 (by first | rfl | decide) (by decide +kernel) (by decide +kernel) rfl, by decide +kernel, by decide +kernel⟩

theorem witness_ClockCommandsComplete_17 : ∃ (s u : State) (t : Nat) (r : Requester) (g : Fin 16) (v : Nat),
    u = s.tickTo t ∧ u.writable r (O.GCLK_SRC g.val) v = true ∧ u.gclkSource v = true :=
  ⟨(base.setReg O.DEV_CLKREF_STABLE 1), ((base.setReg O.DEV_CLKREF_STABLE 1)).tickTo (7), 7, .firmware .a, 3, 2, rfl, by decide +kernel, by decide +kernel⟩

theorem witness_ClockCommandsComplete_18 : ∃ (s u : State) (t : Nat) (r : Requester) (g : Fin 24) (v : Nat),
    u = s.tickTo t ∧ u.writable r (O.RCLK_SRC g.val) v = true ∧ u.domainReady (340 + v) = true :=
  ⟨(base.setReg O.DEV_CLKREF_STABLE 1), ((base.setReg O.DEV_CLKREF_STABLE 1)).tickTo (7), 7, .firmware .a, 3, 2, rfl, by decide +kernel, by decide +kernel⟩

theorem witness_ClockCommandsComplete_19 : ∃ (s u : State) (t : Nat) (r : Requester) (g : Fin 24) (v : Nat),
    u = s.tickTo t ∧ u.writable r (O.RCLK_DIV g.val) v = true ∧ u.domainReady (340 + u.reg (O.RCLK_SRC g.val)) = true :=
  ⟨(base.setReg O.DEV_CLKREF_STABLE 1), ((base.setReg O.DEV_CLKREF_STABLE 1)).tickTo (7), 7, .firmware .a, 3, 2, rfl, by decide +kernel, by decide +kernel⟩

theorem witness_ClockCommandsComplete_20 : ∃ (s u : State) (t : Nat) (r : Requester) (f : Fin 4) (v : Nat),
    u = s.tickTo t ∧ u.writable r (O.FPLL_M f.val) v = true ∧ fpllOk v (u.reg (O.FPLL_DIV f.val)) = true ∧ (List.range 16).any (fun g => u.domainRunning (340 + g) && decide (u.reg (O.GCLK_SRC g) < 16) && u.reg (O.GCLK_SRC g) / 4 == f.val) = false :=
  ⟨State.reset.setReg O.LATCH_HOLDER 1 |>.setReg O.LATCH_LATCH_STATE 1, (State.reset.setReg O.LATCH_HOLDER 1 |>.setReg O.LATCH_LATCH_STATE 1).tickTo (7), 7, .firmware .a, 1, 40, rfl, by decide +kernel, by decide +kernel, by decide +kernel⟩

theorem witness_PowerProgramCommandsComplete_1 : ∃ (s u : State) (t : Nat) (r : Requester) (sh : Fin 98),
    u = s.tickTo t ∧ u.writable r (O.SHED_SHED_RESET sh.val) 1 = true ∧ u.reg O.PWR_PROG_RUN = 0 ∧ sh.val < 92 ∧ u.shedOn sh.val = true ∧ u.mayLeave sh.val = true := by
  refine ⟨base, (base).tickTo (7), 7, .firmware .a, 20, rfl, ?_, ?_, ?_, ?_, ?_⟩ <;> decide +kernel

theorem witness_PowerProgramCommandsComplete_2 : ∃ (s u : State) (t : Nat) (w : Nat) (v : State),
    u = s.tickTo t ∧ u.stepNow 1 = some w ∧ u.seq.begun = false ∧ ((stepSheds w).foldl State.fenceShed u) = v ∧ (stepSheds w).all (fun sh => v.reg (O.RS_FENCE_STATE sh) == 2) = true := by
  refine ⟨((base.setImage (O.SPROG_PROGRAM 3) (leBytes 4 0x10010005 ++ leBytes 4 0)).setReg O.PWR_PROG_RUN 4), (((base.setImage (O.SPROG_PROGRAM 3) (leBytes 4 0x10010005 ++ leBytes 4 0)).setReg O.PWR_PROG_RUN 4)).tickTo (7), 7, 0x10010005, (((base.setImage (O.SPROG_PROGRAM 3) (leBytes 4 0x10010005 ++ leBytes 4 0)).setReg O.PWR_PROG_RUN 4).tickTo 7).fenceShed 5, rfl, ?_, ?_, ?_, ?_⟩ <;> decide +kernel

theorem witness_PowerProgramCommandsComplete_3 : ∃ (s u : State) (t : Nat) (w : Nat),
    u = s.tickTo t ∧ u.stepNow 2 = some w ∧ (stepSheds w).any (fun sh => !u.shedOn sh) = false :=
  ⟨((base.setImage (O.SPROG_PROGRAM 3) (leBytes 4 0x20010005 ++ leBytes 4 0)).setReg O.PWR_PROG_RUN 4), (((base.setImage (O.SPROG_PROGRAM 3) (leBytes 4 0x20010005 ++ leBytes 4 0)).setReg O.PWR_PROG_RUN 4)).tickTo (7), 7, 0x20010005, rfl, by decide +kernel, by decide +kernel⟩

theorem witness_PowerProgramCommandsComplete_4 : ∃ (s u : State) (t : Nat) (w : Nat) (rs : Fin 98),
    u = s.tickTo t ∧ u.stepNow 1 = some w ∧ (stepSheds w).contains rs.val = true ∧ u.reg (O.RS_FENCE_STATE rs.val) = 0 :=
  ⟨((base.setImage (O.SPROG_PROGRAM 3) (leBytes 4 0x10010005 ++ leBytes 4 0)).setReg O.PWR_PROG_RUN 4), (((base.setImage (O.SPROG_PROGRAM 3) (leBytes 4 0x10010005 ++ leBytes 4 0)).setReg O.PWR_PROG_RUN 4)).tickTo (7), 7, 0x10010005, 5, rfl, by decide +kernel, by decide +kernel, by decide +kernel⟩

theorem witness_PowerProgramCommandsComplete_5 : ∃ (s u : State) (t : Nat) (w : Nat) (rs : Fin 98),
    u = s.tickTo t ∧ u.resetting.contains rs.val = false ∧ u.stepNow 2 = some w ∧ (stepSheds w).contains rs.val = true ∧ u.shedOn rs.val = true := by
  refine ⟨((base.setImage (O.SPROG_PROGRAM 3) (leBytes 4 0x20010005 ++ leBytes 4 0)).setReg O.PWR_PROG_RUN 4), (((base.setImage (O.SPROG_PROGRAM 3) (leBytes 4 0x20010005 ++ leBytes 4 0)).setReg O.PWR_PROG_RUN 4)).tickTo (7), 7, 0x20010005, 5, rfl, ?_, ?_, ?_, ?_⟩ <;> decide +kernel

theorem witness_PowerProgramCommandsComplete_6 : ∃ (s u : State) (t : Nat) (w : Nat),
    u = s.tickTo t ∧ u.stepNow 3 = some w ∧ (stepSheds w).all (fun sh => u.maySet sh (stepState w)) = true :=
  ⟨(((base.setImage (O.SPROG_PROGRAM 3) (leBytes 4 0x31010005 ++ leBytes 4 0)).setReg O.PWR_PROG_RUN 4).setReg (O.RS_FENCE_STATE 5) 2), ((((base.setImage (O.SPROG_PROGRAM 3) (leBytes 4 0x31010005 ++ leBytes 4 0)).setReg O.PWR_PROG_RUN 4).setReg (O.RS_FENCE_STATE 5) 2)).tickTo (7), 7, 0x31010005, rfl, by decide +kernel, by decide +kernel⟩

theorem witness_PowerProgramCommandsComplete_7 : ∃ (s u : State) (t : Nat) (w : Nat),
    u = s.tickTo t ∧ u.stepNow 4 = some w ∧ u.seq.stepAt + stepArg w * Config.usUnits ≤ u.now :=
  ⟨((base.setImage (O.SPROG_PROGRAM 3) (leBytes 4 0x40000002 ++ leBytes 4 0)).setReg O.PWR_PROG_RUN 4), (((base.setImage (O.SPROG_PROGRAM 3) (leBytes 4 0x40000002 ++ leBytes 4 0)).setReg O.PWR_PROG_RUN 4)).tickTo (2 * Config.usUnits), 2 * Config.usUnits, 0x40000002, rfl, by decide +kernel, by decide +kernel⟩

theorem witness_PowerProgramCommandsComplete_8 : ∃ (s u : State) (t : Nat) (w : Nat),
    u = s.tickTo t ∧ u.wakeIn = 0 ∧ u.stepNow 5 = some w :=
  ⟨((base.setImage (O.SPROG_PROGRAM 0) (leBytes 4 0x50000000 ++ leBytes 4 0)).setReg O.PWR_PROG_RUN 1), (((base.setImage (O.SPROG_PROGRAM 0) (leBytes 4 0x50000000 ++ leBytes 4 0)).setReg O.PWR_PROG_RUN 1)).tickTo (7), 7, 0x50000000, rfl, by decide +kernel, by decide +kernel⟩

theorem witness_PowerProgramCommandsComplete_9 : ∃ (s u : State) (t : Nat) (w : Nat),
    u = s.tickTo t ∧ u.stepNow 6 = some w :=
  ⟨((base.setImage (O.SPROG_PROGRAM 3) (leBytes 4 0x60000002 ++ leBytes 4 0)).setReg O.PWR_PROG_RUN 4), (((base.setImage (O.SPROG_PROGRAM 3) (leBytes 4 0x60000002 ++ leBytes 4 0)).setReg O.PWR_PROG_RUN 4)).tickTo (7), 7, 0x60000002, rfl, by decide +kernel⟩

theorem witness_PowerProgramCommandsComplete_10 : ∃ (s u : State) (t : Nat) (w : Nat),
    u = s.tickTo t ∧ u.stepNow 0 = some w ∧ u.reg O.PWR_PROG_RUN = 4 :=
  ⟨((base.setImage (O.SPROG_PROGRAM 3) (leBytes 4 0)).setReg O.PWR_PROG_RUN 4), (((base.setImage (O.SPROG_PROGRAM 3) (leBytes 4 0)).setReg O.PWR_PROG_RUN 4)).tickTo (7), 7, 0, rfl, by decide +kernel, by decide +kernel⟩

theorem witness_PowerProgramCommandsComplete_11 : ∃ (s u : State) (t : Nat) (r : Requester) (crc : Nat) (img : List Byte) (k : Fin 4),
    u = s.tickTo t ∧ u.commitReady r (O.SPROG_PROGRAM k.val) crc img = true ∧ u.progRefused k.val img = false ∧ u.reg O.PWR_PROG_RUN = 0 :=
  ⟨(base.setXfer (O.SPROG_PROGRAM 3) (some ⟨.firmware .a, 0, (leBytes 4 0x40000002 ++ leBytes 4 0), 0⟩)), ((base.setXfer (O.SPROG_PROGRAM 3) (some ⟨.firmware .a, 0, (leBytes 4 0x40000002 ++ leBytes 4 0), 0⟩))).tickTo (7), 7, .firmware .a, crc32 ((leBytes 4 0x40000002 ++ leBytes 4 0)), (leBytes 4 0x40000002 ++ leBytes 4 0), 3, rfl, State.commitReady_intro _ _ _ _ 0 (by first | rfl | decide) (by decide +kernel) (by decide +kernel) rfl, by decide +kernel, by decide +kernel⟩

theorem witness_PowerProgramCommandsComplete_12 : ∃ (s u : State) (t : Nat) (r : Requester) (v : State),
    u = s.tickTo t ∧ u.writable r O.PWR_SLEEP_ARM 1 = true ∧ u.reg O.DEV_DEVICE_STATE = 1 ∧ u.sched .sleep 0 = none ∧ u.reg O.PWR_PROG_RUN = 0 ∧ u.mayArm (u.reg O.PWR_SLEEP_AT) true = true ∧ u.armAction .sleep 0 (u.reg O.PWR_SLEEP_AT) (u.reg O.PWR_SLEEP_TARGET) = (.okay, v) := by
  refine ⟨((base.setReg O.MARK_TT_VALID 1).setReg O.DEV_DEVICE_STATE 1 |>.setReg O.PWR_SLEEP_AT (ttImage 100 0)), (((base.setReg O.MARK_TT_VALID 1).setReg O.DEV_DEVICE_STATE 1 |>.setReg O.PWR_SLEEP_AT (ttImage 100 0))).tickTo (7), 7, .firmware .a, (((((base.setReg O.MARK_TT_VALID 1).setReg O.DEV_DEVICE_STATE 1 |>.setReg O.PWR_SLEEP_AT (ttImage 100 0)).tickTo 7).armAction .sleep 0 (ttImage 100 0) 2).2), rfl, ?_, ?_, ?_, ?_, ?_, ?_⟩ <;> decide +kernel

theorem witness_PowerProgramCommandsComplete_13 : ∃ (s u : State) (t : Nat) (r : Requester)  (a : Sched),
    u = s.tickTo t ∧ u.writable r O.PWR_SLEEP_CANCEL 1 = true ∧ u.sched .sleep 0 = some a ∧ (u.now / Config.tickUnits + 1) * Config.tickUnits ≤ u.effectAt .sleep (0) a :=
  ⟨{ base with scheds := [(schedKey .sleep 0, some ⟨100, 0, 0⟩)] }, ({ base with scheds := [(schedKey .sleep 0, some ⟨100, 0, 0⟩)] }).tickTo (7), 7, .firmware .a, ⟨100, 0, 0⟩, rfl, by decide +kernel, by decide +kernel, by decide +kernel⟩

theorem witness_PowerProgramCommandsComplete_15 : ∃ (s u : State) (t : Nat) (r : Requester),
    u = s.tickTo t ∧ u.writable r O.PWR_WAKE_REQUEST 1 = true :=
  ⟨base, (base).tickTo (7), 7, .firmware .a, rfl, by decide +kernel⟩

theorem witness_PowerProgramCommandsComplete_16 : ∃ (s u : State) (t : Nat) (a : Sched),
    u = s.tickTo t ∧ u.sched .sleep 0 = some a ∧ u.due .sleep 0 a = true ∧ u.reg O.DEV_DEVICE_STATE = 1 ∧ u.reg O.PWR_PROG_RUN = 0 := by
  refine ⟨({ base with scheds := [(schedKey .sleep 0, some ⟨3, 0, 0⟩)] }.setReg O.DEV_DEVICE_STATE 1), (({ base with scheds := [(schedKey .sleep 0, some ⟨3, 0, 0⟩)] }.setReg O.DEV_DEVICE_STATE 1)).tickTo (10 * Config.tickUnits), 10 * Config.tickUnits, ⟨3, 0, 0⟩, rfl, ?_, ?_, ?_, ?_⟩ <;> decide +kernel

theorem witness_PowerProgramCommandsComplete_17 : ∃ (s u : State) (t : Nat) (r : Requester),
    u = s.tickTo t ∧ u.writable r O.PWR_RUN_USER 1 = true ∧ u.reg O.PWR_PROG_RUN = 0 :=
  ⟨base, (base).tickTo (7), 7, .firmware .a, rfl, by decide +kernel, by decide +kernel⟩

theorem witness_SupplyAndResetCommandsComplete_1 : ∃ (s u : State) (t : Nat) (mode : Fin 4) (bad : List (Fin 5)),
    u = s.tickTo t ∧ u.porAt.any (fun a => decide (u.now < a + 2 * Config.msUnits)) = false :=
  ⟨{ base with porAt := some 0 }, ({ base with porAt := some 0 }).tickTo (2 * Config.msUnits), 2 * Config.msUnits, 0, [], rfl, by decide +kernel⟩

theorem witness_SupplyAndResetCommandsComplete_2 : ∃ (s u : State) (t : Nat) (width : Nat) (mode : Fin 4) (bad : List (Fin 5)),
    u = s.tickTo t ∧ 20000 ≤ width :=
  ⟨base, (base).tickTo (7), 7, 20000, 0, [], rfl, by decide +kernel⟩

theorem witness_SupplyAndResetCommandsComplete_3 : ∃ (s u : State) (t : Nat) (rail : Fin 8),
    u = s.tickTo t ∧ (u.reg O.SUP_SUPPLY_OK).testBit rail.val = true :=
  ⟨(base.setReg O.SUP_SUPPLY_OK 255), ((base.setReg O.SUP_SUPPLY_OK 255)).tickTo (7), 7, 3, rfl, by decide +kernel⟩

theorem witness_SupplyAndResetCommandsComplete_4 : ∃ (s u : State) (t : Nat) (rail : Fin 8),
    u = s.tickTo t ∧ rail.val ≠ railVddq :=
  ⟨base, (base).tickTo (7), 7, 3, rfl, by decide +kernel⟩

theorem witness_SupplyAndResetCommandsComplete_5 : ∃ (s u : State) (t : Nat) (rail : Fin 8),
    u = s.tickTo t ∧ rail.val = railVddq :=
  ⟨base, (base).tickTo (7), 7, 6, rfl, by decide +kernel⟩

theorem witness_SupplyAndResetCommandsComplete_6 : ∃ (s u : State) (t : Nat) (rail : Fin 8),
    u = s.tickTo t ∧ rail.val ≠ railVddq :=
  ⟨base, (base).tickTo (7), 7, 3, rfl, by decide +kernel⟩

theorem witness_SupplyAndResetCommandsComplete_8 : ∃ (s u : State) (t : Nat) (sensors : List Int) (sense : List Nat),
    u = s.tickTo t ∧ sensors.length = 20 ∧ u.tempWarn ≤ signed 32 (unsigned 32 (hottest sensors)) ∧ u.hot = false :=
  ⟨base, (base).tickTo (7), 7, (List.replicate 20 119000), [], rfl, by decide +kernel, by decide +kernel, by decide +kernel⟩

theorem witness_SupplyAndResetCommandsComplete_9 : ∃ (s u : State) (t : Nat),
    u = s.tickTo t ∧ u.tripped = false ∧ 120000 ≤ u.temp :=
  ⟨(base.setReg O.DEV_TEMP 120000), ((base.setReg O.DEV_TEMP 120000)).tickTo (7), 7, rfl, by decide +kernel, by decide +kernel⟩

theorem witness_SupplyAndResetCommandsComplete_10 : ∃ (s u : State) (t : Nat) (r : Requester),
    u = s.tickTo t ∧ u.writable r O.SUP_THERM_RELEASE 1 = true ∧ u.temp < u.tempWarn - 5000 :=
  ⟨base, (base).tickTo (7), 7, .firmware .a, rfl, by decide +kernel, by decide +kernel⟩

theorem witness_StartupStepsComplete_1 : ∃ (s u : State) (t : Nat) (a : Nat),
    u = s.tickTo t ∧ u.startStep 1 = some a ∧ u.locksHold a = true :=
  ⟨{ base.setReg O.CFG_CFG_STATE 3 with cfg := { program := [1 * 2^28 + 0] } }, ({ base.setReg O.CFG_CFG_STATE 3 with cfg := { program := [1 * 2^28 + 0] } }).tickTo (7), 7, 0, rfl, by decide +kernel, by decide +kernel⟩

theorem witness_StartupStepsComplete_2 : ∃ (s u : State) (t : Nat) (a : Nat),
    u = s.tickTo t ∧ u.startStep 1 = some a ∧ a / 256 ≠ 0 ∧ u.locksHold a = false ∧ u.cfg.stepAt + a / 256 * Config.usUnits ≤ u.now := by
  refine ⟨{ base.setReg O.CFG_CFG_STATE 3 with cfg := { program := [1 * 2^28 + 257] } }, ({ base.setReg O.CFG_CFG_STATE 3 with cfg := { program := [1 * 2^28 + 257] } }).tickTo (Config.usUnits), Config.usUnits, 257, rfl, ?_, ?_, ?_, ?_⟩ <;> decide +kernel

theorem witness_StartupStepsComplete_3 : ∃ (s u : State) (t : Nat) (a : Nat),
    u = s.tickTo t ∧ u.startStep 2 = some a ∧ u.cfg.stepAt + a * Config.usUnits ≤ u.now :=
  ⟨{ base.setReg O.CFG_CFG_STATE 3 with cfg := { program := [2 * 2^28 + 1] } }, ({ base.setReg O.CFG_CFG_STATE 3 with cfg := { program := [2 * 2^28 + 1] } }).tickTo (Config.usUnits), Config.usUnits, 1, rfl, by decide +kernel, by decide +kernel⟩

theorem witness_StartupStepsComplete_4 : ∃ (s u : State) (t : Nat) (a : Nat),
    u = s.tickTo t ∧ u.startStep 3 = some a :=
  ⟨{ base.setReg O.CFG_CFG_STATE 3 with cfg := { program := [3 * 2^28 + 3] } }, ({ base.setReg O.CFG_CFG_STATE 3 with cfg := { program := [3 * 2^28 + 3] } }).tickTo (7), 7, 3, rfl, by decide +kernel⟩

theorem witness_StartupStepsComplete_5 : ∃ (s u : State) (t : Nat) (a : Nat),
    u = s.tickTo t ∧ u.startStep 4 = some a :=
  ⟨{ base.setReg O.CFG_CFG_STATE 3 with cfg := { program := [4 * 2^28 + 3] } }, ({ base.setReg O.CFG_CFG_STATE 3 with cfg := { program := [4 * 2^28 + 3] } }).tickTo (7), 7, 3, rfl, by decide +kernel⟩

theorem witness_StartupStepsComplete_6 : ∃ (s u : State) (t : Nat) (a : Nat),
    u = s.tickTo t ∧ u.startStep 5 = some a :=
  ⟨{ base.setReg O.CFG_CFG_STATE 3 with cfg := { program := [5 * 2^28 + 3] } }, ({ base.setReg O.CFG_CFG_STATE 3 with cfg := { program := [5 * 2^28 + 3] } }).tickTo (7), 7, 3, rfl, by decide +kernel⟩

theorem witness_StartupStepsComplete_7 : ∃ (s u : State) (t a : Nat), u = s.tickTo t ∧ u.startStep 6 = some a :=
  ⟨{ base.setReg O.CFG_CFG_STATE 3 with cfg := { program := [6 * 2^28 + 2] } }, ({ base.setReg O.CFG_CFG_STATE 3 with cfg := { program := [6 * 2^28 + 2] } }).tickTo 7, 7, 2, rfl, by decide +kernel⟩

theorem witness_StartupStepsComplete_8 : ∃ (s u : State) (t : Nat) (a : Nat),
    u = s.tickTo t ∧ u.startStep 7 = some a ∧ a.testBit 0 = true ∧ a.testBit 1 = false :=
  ⟨{ base.setReg O.CFG_CFG_STATE 3 with cfg := { program := [7 * 2^28 + 1] } }, ({ base.setReg O.CFG_CFG_STATE 3 with cfg := { program := [7 * 2^28 + 1] } }).tickTo (7), 7, 1, rfl, by decide +kernel, by decide +kernel, by decide +kernel⟩

theorem witness_StartupStepsComplete_9 : ∃ (s u : State) (t : Nat) (a : Nat),
    u = s.tickTo t ∧ u.startStep 7 = some a ∧ a.testBit 0 = false ∧ a.testBit 1 = true :=
  ⟨{ base.setReg O.CFG_CFG_STATE 3 with cfg := { program := [7 * 2^28 + 2] } }, ({ base.setReg O.CFG_CFG_STATE 3 with cfg := { program := [7 * 2^28 + 2] } }).tickTo (7), 7, 2, rfl, by decide +kernel, by decide +kernel, by decide +kernel⟩

theorem witness_StartupStepsComplete_10 : ∃ (s u : State) (t : Nat) (a : Nat),
    u = s.tickTo t ∧ u.startStep 7 = some a ∧ a.testBit 0 = true ∧ a.testBit 1 = true :=
  ⟨{ base.setReg O.CFG_CFG_STATE 3 with cfg := { program := [7 * 2^28 + 3] } }, ({ base.setReg O.CFG_CFG_STATE 3 with cfg := { program := [7 * 2^28 + 3] } }).tickTo (7), 7, 3, rfl, by decide +kernel, by decide +kernel, by decide +kernel⟩

theorem witness_StartupStepsComplete_11 : ∃ (s u : State) (t : Nat) (a : Nat),
    u = s.tickTo t ∧ u.startStep 8 = some a :=
  ⟨{ base.setReg O.CFG_CFG_STATE 3 with cfg := { program := [8 * 2^28 + 0] } }, ({ base.setReg O.CFG_CFG_STATE 3 with cfg := { program := [8 * 2^28 + 0] } }).tickTo (7), 7, 0, rfl, by decide +kernel⟩

theorem witness_StartupStepsComplete_12 : ∃ (s u : State) (t : Nat) (a : Nat),
    u = s.tickTo t ∧ u.startStep 0 = some a :=
  ⟨{ base.setReg O.CFG_CFG_STATE 3 with cfg := { program := [0 * 2^28 + 0] } }, ({ base.setReg O.CFG_CFG_STATE 3 with cfg := { program := [0 * 2^28 + 0] } }).tickTo (7), 7, 0, rfl, by decide +kernel⟩

theorem witness_DebugCommandsComplete_1 : ∃ (s u : State) (t : Nat) (tap : Bool) (req : List Byte) (since : Nat) (st : Status) (d : List Byte) (w : State),
    u = s.tickTo t ∧ u.debugReq tap = some (req, since) ∧ dbgOp req = 1 ∧ u.now < since + dbgLimit ∧ u.debugRead (dbgAddr req) = some (st, d, w) := by
  refine ⟨({ base.setReg O.DBG_DEBUG_LEVEL 2 with dbg := { tapReq := some (([1#8, 0#8, 0#8, 0#8, 0#8, 0#8, 0#8, 0x82#8] ++ fill 8 0), 0) } } : State), (({ base.setReg O.DBG_DEBUG_LEVEL 2 with dbg := { tapReq := some (([1#8, 0#8, 0#8, 0#8, 0#8, 0#8, 0#8, 0x82#8] ++ fill 8 0), 0) } } : State)).tickTo (7), 7, true, ([1#8, 0#8, 0#8, 0#8, 0#8, 0#8, 0#8, 0x82#8] ++ fill 8 0), 0, .okay, ((({ base.setReg O.DBG_DEBUG_LEVEL 2 with dbg := { tapReq := some (([1#8, 0#8, 0#8, 0#8, 0#8, 0#8, 0#8, 0x82#8] ++ fill 8 0), 0) } } : State).tickTo 7).debugRead (dbgAddr ([1#8, 0#8, 0#8, 0#8, 0#8, 0#8, 0#8, 0x82#8] ++ fill 8 0))).get (by decide +kernel) |>.2.1, ((({ base.setReg O.DBG_DEBUG_LEVEL 2 with dbg := { tapReq := some (([1#8, 0#8, 0#8, 0#8, 0#8, 0#8, 0#8, 0x82#8] ++ fill 8 0), 0) } } : State).tickTo 7).debugRead (dbgAddr ([1#8, 0#8, 0#8, 0#8, 0#8, 0#8, 0#8, 0x82#8] ++ fill 8 0))).get (by decide +kernel) |>.2.2, rfl, ?_, ?_, ?_, ?_⟩ <;> decide +kernel

theorem witness_DebugCommandsComplete_2 : ∃ (s u : State) (t : Nat) (tap : Bool) (req : List Byte) (since : Nat) (st : Status) (w : State),
    u = s.tickTo t ∧ u.debugReq tap = some (req, since) ∧ dbgOp req = 2 ∧ u.now < since + dbgLimit ∧ u.debugWrite (dbgAddr req) (dbgEnable req) (dbgData req) = some (st, w) := by
  refine ⟨({ base.setReg O.DBG_DEBUG_LEVEL 2 with dbg := { tapReq := some (([2#8, 0xFF#8, 0#8, 0#8, 0#8, 0#8, 0#8, 0x82#8] ++ fill 8 7), 0) } } : State), (({ base.setReg O.DBG_DEBUG_LEVEL 2 with dbg := { tapReq := some (([2#8, 0xFF#8, 0#8, 0#8, 0#8, 0#8, 0#8, 0x82#8] ++ fill 8 7), 0) } } : State)).tickTo (7), 7, true, ([2#8, 0xFF#8, 0#8, 0#8, 0#8, 0#8, 0#8, 0x82#8] ++ fill 8 7), 0, .okay, ((({ base.setReg O.DBG_DEBUG_LEVEL 2 with dbg := { tapReq := some (([2#8, 0xFF#8, 0#8, 0#8, 0#8, 0#8, 0#8, 0x82#8] ++ fill 8 7), 0) } } : State).tickTo 7).debugWrite (dbgAddr ([2#8, 0xFF#8, 0#8, 0#8, 0#8, 0#8, 0#8, 0x82#8] ++ fill 8 7)) (dbgEnable ([2#8, 0xFF#8, 0#8, 0#8, 0#8, 0#8, 0#8, 0x82#8] ++ fill 8 7)) (dbgData ([2#8, 0xFF#8, 0#8, 0#8, 0#8, 0#8, 0#8, 0x82#8] ++ fill 8 7))).get (by decide +kernel) |>.2, rfl, ?_, ?_, ?_, ?_⟩ <;> decide +kernel

theorem witness_DebugCommandsComplete_3 : ∃ (s u : State) (t : Nat) (tap : Bool) (req : List Byte) (since : Nat),
    u = s.tickTo t ∧ u.debugReq tap = some (req, since) ∧ dbgOp req = 3 ∧ u.now < since + dbgLimit :=
  ⟨({ base.setReg O.DBG_DEBUG_LEVEL 2 with dbg := { tapReq := some (([3#8, 0xFF#8] ++ fill 14 0x5A), 0) } } : State), (({ base.setReg O.DBG_DEBUG_LEVEL 2 with dbg := { tapReq := some (([3#8, 0xFF#8] ++ fill 14 0x5A), 0) } } : State)).tickTo (7), 7, true, ([3#8, 0xFF#8] ++ fill 14 0x5A), 0, rfl, by decide +kernel, by decide +kernel, by decide +kernel⟩

theorem witness_DebugCommandsComplete_4 : ∃ (s u : State) (t : Nat) (tap : Bool) (mode : Fin 4) (bad : List (Fin 5)) (req : List Byte) (since : Nat),
    u = s.tickTo t ∧ u.dbg.resetAt = none ∧ u.debugReq tap = some (req, since) ∧ dbgOp req = 4 ∧ u.now < since + dbgLimit ∧ u.reg O.DBG_DEBUG_LEVEL = 2 ∧ dbgData req = fill 8 0x5A := by
  refine ⟨({ base.setReg O.DBG_DEBUG_LEVEL 2 with dbg := { tapReq := some (([4#8, 0xFF#8] ++ fill 14 0x5A), 0) } } : State), (({ base.setReg O.DBG_DEBUG_LEVEL 2 with dbg := { tapReq := some (([4#8, 0xFF#8] ++ fill 14 0x5A), 0) } } : State)).tickTo (7), 7, true, 0, [], ([4#8, 0xFF#8] ++ fill 14 0x5A), 0, rfl, ?_, ?_, ?_, ?_, ?_, ?_⟩ <;> decide +kernel

theorem witness_DebugCommandsComplete_5 : ∃ (s u : State) (t : Nat) (tap : Bool) (mode : Fin 4) (bad : List (Fin 5)) (a : Nat),
    u = s.tickTo t ∧ u.dbg.resetAt = some a ∧ a ≤ u.now :=
  ⟨({ base with dbg := { resetAt := some 3 } } : State), (({ base with dbg := { resetAt := some 3 } } : State)).tickTo (7), 7, true, 0, [], 3, rfl, by decide +kernel, by decide +kernel⟩

theorem witness_DebugCommandsComplete_6 : ∃ (s u : State) (t : Nat) (tap : Bool) (req : List Byte) (since : Nat),
    u = s.tickTo t ∧ u.debugReq tap = some (req, since) ∧ since + dbgLimit ≤ u.now :=
  ⟨({ base.setReg O.DBG_DEBUG_LEVEL 2 with dbg := { tapReq := some (([1#8, 0xFF#8] ++ fill 14 0x5A), 0) } } : State), (({ base.setReg O.DBG_DEBUG_LEVEL 2 with dbg := { tapReq := some (([1#8, 0xFF#8] ++ fill 14 0x5A), 0) } } : State)).tickTo (dbgLimit), dbgLimit, true, ([1#8, 0xFF#8] ++ fill 14 0x5A), 0, rfl, by decide +kernel, by decide +kernel⟩

theorem witness_DebugCommandsComplete_7 : ∃ (s u : State) (t : Nat) (req r : List Byte),
    u = s.tickTo t ∧ u.dbg.tapIr = tapDbg ∧ u.dbg.tapReply = some r ∧ u.dbg.tapReq = none :=
  ⟨({ base with dbg := { tapIr := 0x20, tapReply := some [] } } : State), (({ base with dbg := { tapIr := 0x20, tapReply := some [] } } : State)).tickTo (7), 7, [], [], rfl, by decide +kernel, by decide +kernel, by decide +kernel⟩

theorem witness_DebugCommandsComplete_8 : ∃ (s u : State) (t : Nat) (req r : List Byte) (w : State),
    u = s.tickTo t ∧ u.dbg.tapIr = tapDbg ∧ u.dbg.tapReply = none ∧ u.drawBytes 9 = (r, w) ∧ w.dbg = u.dbg ∧ u.dbg.tapReq = none := by
  refine ⟨({ base with dbg := { tapIr := 0x20 } } : State), (({ base with dbg := { tapIr := 0x20 } } : State)).tickTo (7), 7, [], ((({ base with dbg := { tapIr := 0x20 } } : State).tickTo 7).drawBytes 9).1, ((({ base with dbg := { tapIr := 0x20 } } : State).tickTo 7).drawBytes 9).2, rfl, ?_, ?_, rfl, ?_, ?_⟩ <;> decide +kernel

theorem witness_DebugCommandsComplete_10 : ∃ (s u : State) (t : Nat) (op : BitVec 8),
    u = s.tickTo t ∧ tapPads op.toNat = true ∧ u.tapMayDrive = true :=
  ⟨(base.setReg O.DBG_DEBUG_LEVEL 2), ((base.setReg O.DBG_DEBUG_LEVEL 2)).tickTo (7), 7, 8#8, rfl, by decide +kernel, by decide +kernel⟩

theorem witness_DebugCommandsComplete_11 : ∃ (s u : State) (t : Nat) (op : BitVec 8),
    u = s.tickTo t ∧ tapPads op.toNat = false ∧ op ≠ 1#8 ∧ op ≠ 2#8 ∧ op ≠ 0x20#8 := by
  refine ⟨base, (base).tickTo (7), 7, 3#8, rfl, ?_, ?_, ?_, ?_⟩ <;> decide +kernel

theorem witness_DebugCommandsComplete_12 : ∃ (s u : State) (t : Nat) (op : BitVec 8),
    u = s.tickTo t ∧ (op = 1#8 ∨ op = 2#8 ∨ op = 0x20#8) :=
  ⟨base, (base).tickTo (7), 7, 0x20#8, rfl, by decide +kernel⟩

theorem witness_DebugCommandsComplete_13 : ∃ (s u : State) (t : Nat) (frame : List Byte),
    u = s.tickTo t ∧ u.dbg.owFrame = true ∧ frame.length = 17 ∧ u.dbg.owReq = none ∧ byteAt frame 16 = crc8 (frame.take 16) := by
  refine ⟨({ base with dbg := { owFrame := true } } : State), (({ base with dbg := { owFrame := true } } : State)).tickTo (7), 7, fill 17 0, rfl, ?_, ?_, ?_, ?_⟩ <;> decide +kernel

theorem witness_MemoryControllerCommandsComplete_1 : ∃ (s u : State) (t : Nat) (r : Requester),
    u = s.tickTo t ∧ u.writable r O.MEM_MEM_ENABLE 1 = true ∧ (u.reg O.MEM_MEM_STATE = 0 ∨ u.reg O.MEM_MEM_STATE = 3) ∧ (List.range 4).all (fun q => u.pllLocked (pllM q)) = true ∧ u.isSet O.SUP_VDDQ_LOW = false := by
  refine ⟨base, (base).tickTo (7), 7, .firmware .a, rfl, ?_, ?_, ?_, ?_⟩ <;> decide +kernel

theorem witness_MemoryControllerCommandsComplete_2 : ∃ (s u : State) (t : Nat) (r : Requester),
    u = s.tickTo t ∧ u.writable r O.MEM_MEM_ENABLE 0 = true ∧ u.anyRegion = false :=
  ⟨base, (base).tickTo (7), 7, .firmware .a, rfl, by decide +kernel, by decide +kernel⟩

theorem witness_MemoryControllerCommandsComplete_3 : ∃ (s u : State) (t : Nat) (m : Fin 8) (step : Fin 7),
    u = s.tickTo t ∧ u.reg (O.MEMC_STATE m.val) = 1 :=
  ⟨(base.setReg (O.MEMC_STATE 1) 1), ((base.setReg (O.MEMC_STATE 1) 1)).tickTo (7), 7, 1, 2, rfl, by decide +kernel⟩

theorem witness_MemoryControllerCommandsComplete_4 : ∃ (s u : State) (t : Nat),
    u = s.tickTo t ∧ u.reg O.MEM_MEM_STATE = 1 ∧ (List.range 8).all (fun m => decide (u.reg (O.MEMC_STATE m) = 1)) = true :=
  ⟨((List.range 8).foldl (fun (s : State) m => s.setReg (O.MEMC_STATE m) 1) (base.setReg O.MEM_MEM_STATE 1)), (((List.range 8).foldl (fun (s : State) m => s.setReg (O.MEMC_STATE m) 1) (base.setReg O.MEM_MEM_STATE 1))).tickTo (7), 7, rfl, by decide +kernel, by decide +kernel⟩

theorem witness_MemoryControllerCommandsComplete_5 : ∃ (s u : State) (t : Nat) (m : Fin 8) (drift : Int),
    u = s.tickTo t ∧ u.reg (O.MEMC_STATE m.val) = 2 ∧ Tbl.get 0 u.retrainAt m.val + u.reg (O.MEMC_RETRAIN_INTERVAL m.val) * Config.msUnits ≤ u.now ∧ 16 < drift.natAbs :=
  ⟨(base.setReg (O.MEMC_STATE 1) 2), ((base.setReg (O.MEMC_STATE 1) 2)).tickTo (2^32 * Config.msUnits), 2^32 * Config.msUnits, 1, 17, rfl, by decide +kernel, by decide +kernel, by decide +kernel⟩

theorem witness_MemoryControllerCommandsComplete_6 : ∃ (s u : State) (t : Nat) (m : Fin 8) (drift : Int),
    u = s.tickTo t ∧ u.reg (O.MEMC_STATE m.val) = 2 ∧ Tbl.get 0 u.retrainAt m.val + u.reg (O.MEMC_RETRAIN_INTERVAL m.val) * Config.msUnits ≤ u.now ∧ drift.natAbs ≤ 16 :=
  ⟨(base.setReg (O.MEMC_STATE 1) 2), ((base.setReg (O.MEMC_STATE 1) 2)).tickTo (2^32 * Config.msUnits), 2^32 * Config.msUnits, 1, 16, rfl, by decide +kernel, by decide +kernel, by decide +kernel⟩

theorem witness_MemoryControllerCommandsComplete_7 : ∃ (s u : State) (t : Nat) (m : Fin 8),
    u = s.tickTo t ∧ u.reg (O.MEMC_STATE m.val) = 2 ∧ Tbl.get 0 u.zqAt m.val + 64 * Config.msUnits ≤ u.now :=
  ⟨(base.setReg (O.MEMC_STATE 1) 2), ((base.setReg (O.MEMC_STATE 1) 2)).tickTo (64 * Config.msUnits), 64 * Config.msUnits, 1, rfl, by decide +kernel, by decide +kernel⟩

theorem witness_MemoryControllerCommandsComplete_8 : ∃ (s u : State) (t : Nat) (m : Fin 8) (bank late : Nat),
    u = s.tickTo t ∧ u.reg (O.MEMC_STATE m.val) = 2 ∧ Tbl.get (0, 0) u.refresh m.val = (bank, late) ∧ late < 8 :=
  ⟨(base.setReg (O.MEMC_STATE 1) 2), ((base.setReg (O.MEMC_STATE 1) 2)).tickTo (7), 7, 1, 0, 0, rfl, by decide +kernel, by decide +kernel, by decide +kernel⟩

theorem witness_MemoryControllerCommandsComplete_9 : ∃ (s u : State) (t : Nat) (m : Fin 8) (bank late : Nat),
    u = s.tickTo t ∧ u.reg (O.MEMC_STATE m.val) = 2 ∧ Tbl.get (0, 0) u.refresh m.val = (bank, late) ∧ 8 ≤ late :=
  ⟨{ (base.setReg (O.MEMC_STATE 1) 2) with refresh := [(1, (0, 8))] }, ({ (base.setReg (O.MEMC_STATE 1) 2) with refresh := [(1, (0, 8))] }).tickTo (7), 7, 1, 0, 8, rfl, by decide +kernel, by decide +kernel, by decide +kernel⟩

theorem witness_MemoryControllerCommandsComplete_10 : ∃ (s u : State) (t : Nat) (m : Fin 8) (bank late : Nat),
    u = s.tickTo t ∧ u.reg (O.MEMC_STATE m.val) = 2 ∧ Tbl.get (0, 0) u.refresh m.val = (bank, late) :=
  ⟨(base.setReg (O.MEMC_STATE 1) 2), ((base.setReg (O.MEMC_STATE 1) 2)).tickTo (7), 7, 1, 0, 0, rfl, by decide +kernel, by decide +kernel⟩

theorem witness_MemoryControllerCommandsComplete_11 : ∃ (s u : State) (t : Nat) (m : Fin 8) (code : Nat),
    u = s.tickTo t ∧ u.reg (O.MEMC_STATE m.val) = 2 ∧ 5 ≤ code % 8 :=
  ⟨(base.setReg (O.MEMC_STATE 1) 2), ((base.setReg (O.MEMC_STATE 1) 2)).tickTo (7), 7, 1, 5, rfl, by decide +kernel, by decide +kernel⟩

theorem witness_MemoryControllerCommandsComplete_12 : ∃ (s u : State) (t : Nat) (m : Fin 8) (code : Nat),
    u = s.tickTo t ∧ u.reg (O.MEMC_STATE m.val) = 2 ∧ code % 8 < 5 :=
  ⟨(base.setReg (O.MEMC_STATE 1) 2), ((base.setReg (O.MEMC_STATE 1) 2)).tickTo (7), 7, 1, 3, rfl, by decide +kernel, by decide +kernel⟩

theorem witness_MemoryControllerCommandsComplete_13 : ∃ (s u : State) (t : Nat) (m : Fin 8),
    u = s.tickTo t ∧ u.reg (O.MEMC_STATE m.val) = 3 ∧ u.shedOn (quadStop (m.val / 2) 20) = true ∧ u.pllLocked (pllM (m.val / 2)) = true ∧ u.clkLost = false ∧ u.isSet O.SUP_VDDQ_LOW = false := by
  refine ⟨(base.setReg (O.MEMC_STATE 1) 3), ((base.setReg (O.MEMC_STATE 1) 3)).tickTo (7), 7, 1, rfl, ?_, ?_, ?_, ?_, ?_⟩ <;> decide +kernel

theorem witness_MemoryAccessCommandsComplete_1 : ∃ (s u : State) (t : Nat) (addr lat wait e : Nat) (v w : State) (rg : Region) (l : LineRead),
    u = s.tickTo t ∧ v = u.memMeasure addr lat wait ∧ v.memStatus (addr / 64 * 64) = .okay ∧ v.memWaits (addr / 64 * 64) = false ∧ v.regionOf (paOf (addr / 64 * 64)) = some (e, rg) ∧ w = ((((if kidOf (addr / 64 * 64) = 0 then v else v.sramRead 6 0 (kidOf (addr / 64 * 64)) 1).bump (O.MEMC_READS (v.memCtl (paOf (addr / 64 * 64)))) 1).countEvent 3 (v.memCtl (paOf (addr / 64 * 64))) 0 1).bump (O.KID_ACCESSES (kidOf (addr / 64 * 64))) 1).tagAccess (v.memCtl (paOf (addr / 64 * 64))) rg (rg.lineNo (paOf (addr / 64 * 64))) false (kidOf (addr / 64 * 64)) ∧ l = w.readLineAt rg (paOf (addr / 64 * 64)) (w.kidKey (w.effKid (kidOf (addr / 64 * 64)) (paOf (addr / 64 * 64)))) ∧ l.check = .pass := by
  refine ⟨(memBase 0 0), ((memBase 0 0)).tickTo (7), 7, 64, 5, 6, 0, _, _, (regionAt (regionImage 0 0) 0), _, rfl, rfl, ?_, ?_, ?_, rfl, rfl, ?_⟩ <;> decide +kernel

theorem witness_MemoryAccessCommandsComplete_2 : ∃ (s u : State) (t : Nat) (addr lat wait e : Nat) (bytes : List Byte) (v w : State) (rg : Region),
    u = s.tickTo t ∧ v = u.memMeasure addr lat wait ∧ v.memStatus (addr / 64 * 64) = .okay ∧ v.memWaits (addr / 64 * 64) = false ∧ v.regionOf (paOf (addr / 64 * 64) / 64 * 64) = some (e, rg) ∧ w = ((((if kidOf (addr / 64 * 64) = 0 then v else v.sramRead 6 0 (kidOf (addr / 64 * 64)) 1).bump (O.MEMC_WRITES (v.memCtl (paOf (addr / 64 * 64) / 64 * 64))) 1).countEvent 3 (v.memCtl (paOf (addr / 64 * 64) / 64 * 64)) 1 1).bump (O.KID_ACCESSES (kidOf (addr / 64 * 64))) 1).tagAccess (v.memCtl (paOf (addr / 64 * 64) / 64 * 64)) rg (rg.lineNo (paOf (addr / 64 * 64) / 64 * 64)) true (kidOf (addr / 64 * 64)) ∧ bytes.length = 64 ∧ (rg.mode < 2 ∨ minorOf w.dram rg (rg.lineNo (paOf (addr / 64 * 64) / 64 * 64)) ≠ 127) := by
  refine ⟨(memBase 0 0), ((memBase 0 0)).tickTo (7), 7, 64, 5, 6, 0, fill 64 9, _, _, (regionAt (regionImage 0 0) 0), rfl, rfl, ?_, ?_, ?_, rfl, ?_, ?_⟩ <;> decide +kernel

theorem witness_MemoryAccessCommandsComplete_3 : ∃ (s u : State) (t : Nat) (addr lat wait e : Nat) (bytes : List Byte) (v w : State) (rg : Region),
    u = s.tickTo t ∧ v = u.memMeasure addr lat wait ∧ v.memStatus (addr) = .okay ∧ v.memWaits (addr) = false ∧ v.regionOf (paOf (addr) / 64 * 64) = some (e, rg) ∧ w = ((((if kidOf (addr) = 0 then v else v.sramRead 6 0 (kidOf (addr)) 1).bump (O.MEMC_WRITES (v.memCtl (paOf (addr) / 64 * 64))) 1).countEvent 3 (v.memCtl (paOf (addr) / 64 * 64)) 1 1).bump (O.KID_ACCESSES (kidOf (addr))) 1).tagAccess (v.memCtl (paOf (addr) / 64 * 64)) rg (rg.lineNo (paOf (addr) / 64 * 64)) true (kidOf (addr)) ∧ bytes.length < 64 ∧ rg.mode = 0 := by
  refine ⟨(memBase 0 0), ((memBase 0 0)).tickTo (7), 7, 64, 5, 6, 0, fill 4 9, _, _, (regionAt (regionImage 0 0) 0), rfl, rfl, ?_, ?_, ?_, rfl, ?_, ?_⟩ <;> decide +kernel

theorem witness_MemoryAccessCommandsComplete_4 : ∃ (s u : State) (t : Nat) (addr lat wait e : Nat) (bytes : List Byte) (v w : State) (rg : Region) (l : LineRead),
    u = s.tickTo t ∧ v = u.memMeasure addr lat wait ∧ v.memStatus (addr) = .okay ∧ v.memWaits (addr) = false ∧ v.regionOf (paOf (addr) / 64 * 64) = some (e, rg) ∧ w = ((((if kidOf (addr) = 0 then v else v.sramRead 6 0 (kidOf (addr)) 1).bump (O.MEMC_WRITES (v.memCtl (paOf (addr) / 64 * 64))) 1).countEvent 3 (v.memCtl (paOf (addr) / 64 * 64)) 1 1).bump (O.KID_ACCESSES (kidOf (addr))) 1).tagAccess (v.memCtl (paOf (addr) / 64 * 64)) rg (rg.lineNo (paOf (addr) / 64 * 64)) true (kidOf (addr)) ∧ bytes.length < 64 ∧ rg.mode ≠ 0 ∧ l = v.readLineAt rg (paOf (addr) / 64 * 64) (v.kidKey (v.effKid (kidOf (addr)) (paOf (addr) / 64 * 64))) ∧ l.check = .pass ∧ (rg.mode < 2 ∨ l.minor ≠ 127) := by
  refine ⟨(memBase 1 0), ((memBase 1 0)).tickTo (7), 7, 64, 5, 6, 0, fill 4 9, _, _, (regionAt (regionImage 1 0) 0), _, rfl, rfl, ?_, ?_, ?_, rfl, ?_, ?_, rfl, ?_, ?_⟩ <;> decide +kernel

theorem witness_MemoryAccessCommandsComplete_5 : ∃ (s u : State) (t : Nat) (addr e : Nat) (bytes : List Byte) (v w : State) (rg : Region),
    u = s.tickTo t ∧ v = u ∧ u.overflows addr = true ∧ v.memStatus (addr) = .okay ∧ v.memWaits (addr) = false ∧ v.regionOf (paOf (addr) / 64 * 64) = some (e, rg) ∧ w = ((((if kidOf (addr) = 0 then v else v.sramRead 6 0 (kidOf (addr)) 1).bump (O.MEMC_WRITES (v.memCtl (paOf (addr) / 64 * 64))) 1).countEvent 3 (v.memCtl (paOf (addr) / 64 * 64)) 1 1).bump (O.KID_ACCESSES (kidOf (addr))) 1).tagAccess (v.memCtl (paOf (addr) / 64 * 64)) rg (rg.lineNo (paOf (addr) / 64 * 64)) true (kidOf (addr)) ∧ bytes.length = 64 ∧ (rg.mode = 2 ∨ rg.mode = 3) ∧ minorOf w.dram rg (rg.lineNo (paOf (addr) / 64 * 64)) = 127 := by
  refine ⟨{ memBase 2 1 with dram := [(0x220008, 0x80#8), (0x220009, 0x3F#8)] }, ({ memBase 2 1 with dram := [(0x220008, 0x80#8), (0x220009, 0x3F#8)] }).tickTo (7), 7, (2 ^ 40 + 64), 0, fill 64 9, _, _, (regionAt (regionImage 2 1) 0), rfl, rfl, ?_, ?_, ?_, ?_, rfl, ?_, ?_, ?_⟩ <;> decide +kernel

theorem witness_MemoryAccessCommandsComplete_6 : ∃ (s u : State) (t : Nat) (page wait e : Nat) (v : State) (q : MemReq) (rg : Region) (key data : List Byte) (pa : Nat) (m1 : List Host.Cell),
    u = s.tickTo t ∧ Tbl.get none u.reenc page = some q ∧ u.clkLost = false ∧ v = u.pipeWait 1 wait ∧ v.regionOf (page * 4096) = some (e, rg) ∧ key = v.kidKey (v.effKid (kidOf q.addr) (page * 4096)) ∧ pa = paOf q.addr / 64 * 64 ∧ data = (if q.bytes.length = 64 then q.bytes else splice (v.readLineAt rg pa key).data (paOf q.addr % 64) q.bytes) ∧ m1 = (rekeyPage v.dram v.lostLine rg page key key).1 :=
  ⟨{ memBase 0 0 with reenc := [(0, some ⟨true, 64, fill 64 9, 64⟩)] }, ({ memBase 0 0 with reenc := [(0, some ⟨true, 64, fill 64 9, 64⟩)] }).tickTo (7), 7, 0, 3, 0, _, ⟨true, 64, fill 64 9, 64⟩, (regionAt (regionImage 0 0) 0), _, _, _, _, rfl, by decide +kernel, by decide +kernel, rfl, by decide +kernel, rfl, rfl, rfl, rfl⟩

theorem witness_MemoryAccessCommandsComplete_7 : ∃ (s u : State) (t : Nat) (r : Requester) (crc : Nat) (img : List Byte) (tt : Nat) (w : State) (z : Nat),
    u = s.tickTo t ∧ u.commitReady r O.MEM_WINDOW crc img = true ∧ img.length ≤ 65536 ∧ (u.setXfer O.MEM_WINDOW none).memWriteBytes (bits (u.reg O.MEM_WINDOW_ADDR) 47 0) img 1025 = (.okay, w) ∧ tt = 0 ∧ tt = ttImage (ttTick z) (ttFine z) :=
  ⟨((memBase 0 0).setXfer O.MEM_WINDOW (some ⟨.firmware .a, 0, [9#8], 0⟩)), (((memBase 0 0).setXfer O.MEM_WINDOW (some ⟨.firmware .a, 0, [9#8], 0⟩))).tickTo (7), 7, .firmware .a, crc32 ([9#8]), [9#8], 0, ((((memBase 0 0).setXfer O.MEM_WINDOW (some ⟨.firmware .a, 0, [9#8], 0⟩)).tickTo 7).setXfer O.MEM_WINDOW none).memWriteBytes 0 [9#8] 1025 |>.2, 0, rfl, State.commitReady_intro _ _ _ _ 0 (by first | rfl | decide) (by decide +kernel) (by decide +kernel) rfl, by decide +kernel, by decide +kernel, rfl, rfl⟩

theorem witness_MemoryKeyAndRegionCommandsComplete_1 : ∃ (s u : State) (t : Nat) (r : Requester) (crc : Nat) (img : List Byte) (tt : Nat) (v : State) (z : Nat),
    u = s.tickTo t ∧ u.commitReady r O.MEM_REGIONS crc img = true ∧ u.regionsRefused img = false ∧ (List.range 16).any (fun e => regionAt (u.image O.MEM_REGIONS) e != regionAt img e && (regionAt (u.image O.MEM_REGIONS) e).valid && u.regionInUse e (regionAt (u.image O.MEM_REGIONS) e)) = false ∧ tt = 0 ∧ v = (u.setXfer O.MEM_REGIONS none).pagesDone (fun page => ((List.range 16).filter fun e => regionAt (u.image O.MEM_REGIONS) e != regionAt img e).any fun e => (regionAt (u.image O.MEM_REGIONS) e).has (page * 4096)) ∧ tt = ttImage (ttTick z) (ttFine z) :=
  ⟨((base.setReg O.MEM_CAPACITY (2 ^ 33)).setXfer O.MEM_REGIONS (some ⟨.firmware .a, 0, regionImage 0 0, 0⟩)), (((base.setReg O.MEM_CAPACITY (2 ^ 33)).setXfer O.MEM_REGIONS (some ⟨.firmware .a, 0, regionImage 0 0, 0⟩))).tickTo (7), 7, .firmware .a, crc32 (regionImage 0 0), regionImage 0 0, 0, _, 0, rfl, State.commitReady_intro _ _ _ _ 0 (by first | rfl | decide) (by decide +kernel) (by decide +kernel) rfl, by decide +kernel, by decide +kernel, rfl, rfl, rfl⟩

theorem witness_MemoryKeyAndRegionCommandsComplete_2 : ∃ (s u : State) (t : Nat) (e : Fin 16) (wait : Nat) (rg : Region),
    u = s.tickTo t ∧ Tbl.get false u.regionInit e.val = true ∧ u.clkLost = false ∧ rg = regionAt (u.image O.MEM_REGIONS) e.val :=
  ⟨{ memBase 1 0 with regionInit := [(0, true)] }, ({ memBase 1 0 with regionInit := [(0, true)] }).tickTo (7), 7, 0, 9, (regionAt (regionImage 1 0) 0), rfl, by decide +kernel, by decide +kernel, rfl⟩

theorem witness_MemoryKeyAndRegionCommandsComplete_3 : ∃ (s u : State) (t : Nat) (r : Requester) (crc : Nat) (img : List Byte) (k : Fin 64) (tt : Nat) (z : Nat),
    u = s.tickTo t ∧ u.commitReady r (O.KID_KEY k.val) crc img = true ∧ k.val ≠ 0 ∧ img.length = 32 ∧ u.kidState k.val ≠ 1 ∧ u.kidState k.val ≠ 2 ∧ tt = 0 ∧ tt = ttImage (ttTick z) (ttFine z) := by
  refine ⟨(based.setXfer (O.KID_KEY 5) (some ⟨.firmware .a, 0, fill 32 7, 0⟩)), ((based.setXfer (O.KID_KEY 5) (some ⟨.firmware .a, 0, fill 32 7, 0⟩))).tickTo (7), 7, .firmware .a, crc32 (fill 32 7), fill 32 7, 5, 0, 0, rfl, State.commitReady_intro _ _ _ _ 0 (by first | rfl | decide) (by decide +kernel) (by decide +kernel) rfl, ?_, ?_, ?_, ?_, rfl, rfl⟩ <;> decide +kernel

theorem witness_MemoryKeyAndRegionCommandsComplete_4 : ∃ (s u : State) (t : Nat) (r : Requester) (k : Fin 64),
    u = s.tickTo t ∧ u.writable r (O.KID_RETIRE k.val) 1 = true ∧ k.val ≠ 0 ∧ u.kidState k.val = 1 ∧ u.kidInUse k.val = false := by
  refine ⟨((List.range 4).foldl (fun (s : State) q => s.setImage (O.GRIND_STREAMS q) []) (memBase 0 0)), (((List.range 4).foldl (fun (s : State) q => s.setImage (O.GRIND_STREAMS q) []) (memBase 0 0))).tickTo (7), 7, .firmware .a, 2, rfl, ?_, ?_, ?_, ?_⟩ <;> decide +kernel

theorem witness_MemoryKeyAndRegionCommandsComplete_5 : ∃ (s u : State) (t : Nat) (k : Fin 64) (dirty : Nat) (keep : Tbl (List TagLine)),
    u = s.tickTo t ∧ u.kidState k.val = 2 ∧ u.memWait.any (fun q => kidOf q.addr == k.val) = false ∧ u.reenc.any (fun p => p.2.any fun q => kidOf q.addr == k.val) = false ∧ dirty = (u.tagCache.map fun p => (p.2.filter fun w => w.dirty && w.wroteKid == k.val).length).foldl (· + ·) 0 ∧ keep = u.tagCache.foldl
      (fun (acc : Tbl (List TagLine)) p => Tbl.set [] acc p.1 ((p.2.map fun (w : TagLine) => if w.wroteKid == k.val then { w with dirty := false } else w).filter fun w => w.usedKid != k.val)) u.tagCache :=
  ⟨((memBase 0 0).setReg (O.KID_KID_STATE 2) 2), (((memBase 0 0).setReg (O.KID_KID_STATE 2) 2)).tickTo (7), 7, 2, 0, [], rfl, by decide +kernel, by decide +kernel, by decide +kernel, rfl, rfl⟩

theorem witness_MemoryKeyAndRegionCommandsComplete_6 : ∃ (s u : State) (t : Nat) (r : Requester) (base size old new e : Nat) (rg : Region),
    u = s.tickTo t ∧ u.writable r O.MEM_WALK_CTRL 1 = true ∧ base = bits (fieldLE (u.image O.MEM_WALK) 0 8) 39 0 ∧ size = fieldLE (u.image O.MEM_WALK) 8 8 ∧ old = byteAt (u.image O.MEM_WALK) 16 ∧ new = byteAt (u.image O.MEM_WALK) 17 ∧ u.walkRunning = false ∧ u.regionOf base = some (e, rg) ∧ (rg.mode = 2 ∨ rg.mode = 3) ∧ base + size ≤ rg.base + rg.size ∧ base % 4096 = 0 ∧ size % 4096 = 0 ∧ size ≠ 0 ∧ old ≠ new ∧ old ≠ 0 ∧ new ≠ 0 ∧ u.kidState old = 1 ∧ u.kidState new = 1 := by
  refine ⟨((memBase 2 1).setImage O.MEM_WALK (fill 8 0 ++ leBytes 8 4096 ++ [1#8, 2#8] ++ fill 6 0)), (((memBase 2 1).setImage O.MEM_WALK (fill 8 0 ++ leBytes 8 4096 ++ [1#8, 2#8] ++ fill 6 0))).tickTo (7), 7, .firmware .a, 0, 4096, 1, 2, 0, (regionAt (regionImage 2 1) 0), rfl, ?_, rfl, rfl, rfl, rfl, ?_, ?_, ?_, ?_, ?_, ?_, ?_, ?_, ?_, ?_, ?_, ?_⟩ <;> decide +kernel

theorem witness_MemoryKeyAndRegionCommandsComplete_7 : ∃ (s u : State) (t : Nat) (r : Requester),
    u = s.tickTo t ∧ u.writable r O.MEM_WALK_CTRL 2 = true ∧ u.walkRunning = true :=
  ⟨((memBase 2 1).setReg O.MEM_WALK_CTRL 4), (((memBase 2 1).setReg O.MEM_WALK_CTRL 4)).tickTo (7), 7, .firmware .a, rfl, by decide +kernel, by decide +kernel⟩

theorem witness_MemoryKeyAndRegionCommandsComplete_8 : ∃ (s u : State) (t : Nat) (wait e l : Nat) (rg : Region) (m1 : List Host.Cell) (w : State),
    u = s.tickTo t ∧ u.walkRunning = true ∧ u.clkLost = false ∧ u.regionOf (u.walkPtr * 4096) = some (e, rg) ∧ Tbl.get none u.reenc u.walkPtr = none ∧ m1 = (rekeyPage u.dram u.lostLine rg u.walkPtr (u.kidKey (byteAt (u.image O.MEM_WALK) 16)) (u.kidKey (byteAt (u.image O.MEM_WALK) 17))).1 ∧ l = (rekeyPage u.dram u.lostLine rg u.walkPtr (u.kidKey (byteAt (u.image O.MEM_WALK) 16)) (u.kidKey (byteAt (u.image O.MEM_WALK) 17))).2 ∧ w = { u.pipeWait 2 wait with dram := m1, lostLines := u.lostLines.filter fun x => x.1 / 64 != u.walkPtr } ∧ (bits (fieldLE (u.image O.MEM_WALK) 0 8) 39 0 + fieldLE (u.image O.MEM_WALK) 8 8) / 4096 ≤ u.walkPtr + 1 := by
  refine ⟨(((memBase 0 0).setReg O.MEM_WALK_CTRL 4).setImage O.MEM_WALK (fill 8 0 ++ leBytes 8 4096 ++ [1#8, 2#8] ++ fill 6 0)), ((((memBase 0 0).setReg O.MEM_WALK_CTRL 4).setImage O.MEM_WALK (fill 8 0 ++ leBytes 8 4096 ++ [1#8, 2#8] ++ fill 6 0))).tickTo (7), 7, 2, 0, _, (regionAt (regionImage 0 0) 0), _, _, rfl, ?_, ?_, ?_, ?_, rfl, rfl, rfl, ?_⟩ <;> decide +kernel

theorem witness_MemoryKeyAndRegionCommandsComplete_9 : ∃ (s u : State) (t : Nat) (wait e l : Nat) (rg : Region) (m1 : List Host.Cell) (w : State),
    u = s.tickTo t ∧ u.walkRunning = true ∧ u.clkLost = false ∧ u.regionOf (u.walkPtr * 4096) = some (e, rg) ∧ Tbl.get none u.reenc u.walkPtr = none ∧ m1 = (rekeyPage u.dram u.lostLine rg u.walkPtr (u.kidKey (byteAt (u.image O.MEM_WALK) 16)) (u.kidKey (byteAt (u.image O.MEM_WALK) 17))).1 ∧ l = (rekeyPage u.dram u.lostLine rg u.walkPtr (u.kidKey (byteAt (u.image O.MEM_WALK) 16)) (u.kidKey (byteAt (u.image O.MEM_WALK) 17))).2 ∧ w = { u.pipeWait 2 wait with dram := m1, lostLines := u.lostLines.filter fun x => x.1 / 64 != u.walkPtr } ∧ u.walkPtr + 1 < (bits (fieldLE (u.image O.MEM_WALK) 0 8) 39 0 + fieldLE (u.image O.MEM_WALK) 8 8) / 4096 ∧ u.walkAborting = true := by
  refine ⟨{ (((memBase 0 0).setReg O.MEM_WALK_CTRL 4).setImage O.MEM_WALK (fill 8 0 ++ leBytes 8 8192 ++ [1#8, 2#8] ++ fill 6 0)) with walkAborting := true }, ({ (((memBase 0 0).setReg O.MEM_WALK_CTRL 4).setImage O.MEM_WALK (fill 8 0 ++ leBytes 8 8192 ++ [1#8, 2#8] ++ fill 6 0)) with walkAborting := true }).tickTo (7), 7, 2, 0, _, (regionAt (regionImage 0 0) 0), _, _, rfl, ?_, ?_, ?_, ?_, rfl, rfl, rfl, ?_, ?_⟩ <;> decide +kernel

theorem witness_MemoryKeyAndRegionCommandsComplete_10 : ∃ (s u : State) (t : Nat) (wait e l : Nat) (rg : Region) (m1 : List Host.Cell) (w : State),
    u = s.tickTo t ∧ u.walkRunning = true ∧ u.clkLost = false ∧ u.regionOf (u.walkPtr * 4096) = some (e, rg) ∧ Tbl.get none u.reenc u.walkPtr = none ∧ m1 = (rekeyPage u.dram u.lostLine rg u.walkPtr (u.kidKey (byteAt (u.image O.MEM_WALK) 16)) (u.kidKey (byteAt (u.image O.MEM_WALK) 17))).1 ∧ l = (rekeyPage u.dram u.lostLine rg u.walkPtr (u.kidKey (byteAt (u.image O.MEM_WALK) 16)) (u.kidKey (byteAt (u.image O.MEM_WALK) 17))).2 ∧ w = { u.pipeWait 2 wait with dram := m1, lostLines := u.lostLines.filter fun x => x.1 / 64 != u.walkPtr } ∧ u.walkPtr + 1 < (bits (fieldLE (u.image O.MEM_WALK) 0 8) 39 0 + fieldLE (u.image O.MEM_WALK) 8 8) / 4096 ∧ u.walkAborting = false := by
  refine ⟨(((memBase 0 0).setReg O.MEM_WALK_CTRL 4).setImage O.MEM_WALK (fill 8 0 ++ leBytes 8 8192 ++ [1#8, 2#8] ++ fill 6 0)), ((((memBase 0 0).setReg O.MEM_WALK_CTRL 4).setImage O.MEM_WALK (fill 8 0 ++ leBytes 8 8192 ++ [1#8, 2#8] ++ fill 6 0))).tickTo (7), 7, 2, 0, _, (regionAt (regionImage 0 0) 0), _, _, rfl, ?_, ?_, ?_, ?_, rfl, rfl, rfl, ?_, ?_⟩ <;> decide +kernel

theorem witness_StreamCommandsComplete_1 : ∃ (s u : State) (t : Nat) (q : Fin 4) (k : Fin 512) (p : GrindPort),
    u = s.tickTo t ∧ p = u.port q.val k.val ∧ (u.desc q.val k.val).valid = true ∧ (u.desc q.val k.val).resident = false :=
  ⟨((memBase 0 0).setImage (O.GRIND_STREAMS 0) (leBytes 8 0 ++ leBytes 4 64 ++ leBytes 4 1 ++ leBytes 2 0 ++ leBytes 2 1 ++ [1#8])), (((memBase 0 0).setImage (O.GRIND_STREAMS 0) (leBytes 8 0 ++ leBytes 4 64 ++ leBytes 4 1 ++ leBytes 2 0 ++ leBytes 2 1 ++ [1#8]))).tickTo (7), 7, 0, 0, _, rfl, rfl, by decide +kernel, by decide +kernel⟩

theorem witness_StreamCommandsComplete_2 : ∃ (s u : State) (t : Nat) (q : Fin 4) (k : Fin 512) (p : GrindPort),
    u = s.tickTo t ∧ p = u.port q.val k.val ∧ (u.desc q.val k.val).valid = true ∧ (u.desc q.val k.val).resident = true :=
  ⟨((memBase 0 0).setImage (O.GRIND_STREAMS 0) ((leBytes 8 0 ++ leBytes 4 64 ++ leBytes 4 1 ++ leBytes 2 0 ++ leBytes 2 1 ++ [3#8]))), (((memBase 0 0).setImage (O.GRIND_STREAMS 0) ((leBytes 8 0 ++ leBytes 4 64 ++ leBytes 4 1 ++ leBytes 2 0 ++ leBytes 2 1 ++ [3#8])))).tickTo (7), 7, 0, 0, _, rfl, rfl, by decide +kernel, by decide +kernel⟩

theorem witness_StreamCommandsComplete_3 : ∃ (s u : State) (t : Nat) (q : Fin 4) (k : Fin 512) (d : StreamDesc) (p : GrindPort) (data : List Byte) (w : State),
    u = s.tickTo t ∧ d = u.desc q.val k.val ∧ p = u.port q.val k.val ∧ p.st ≠ 0 ∧ p.st ≠ 5 ∧ p.ended = false ∧ d.valid = true ∧ p.fetched < d.length ∧ p.buf.length < 64 ∧ u.pipeAnswer (d.base + p.fetched) = .okay ∧ (u.memReadLine (d.base + p.fetched)).1 = some (.okay, data) ∧ w = (u.memReadLine (d.base + p.fetched)).2 := by
  refine ⟨(((memBase 0 0).setImage (O.GRIND_STREAMS 0) (leBytes 8 0 ++ leBytes 4 64 ++ leBytes 4 1 ++ leBytes 2 0 ++ leBytes 2 1 ++ [1#8])).setPort 0 0 { st := 1 }), ((((memBase 0 0).setImage (O.GRIND_STREAMS 0) (leBytes 8 0 ++ leBytes 4 64 ++ leBytes 4 1 ++ leBytes 2 0 ++ leBytes 2 1 ++ [1#8])).setPort 0 0 { st := 1 })).tickTo (7), 7, 0, 0, _, _, fill 64 0, _, rfl, rfl, rfl, ?_, ?_, ?_, ?_, ?_, ?_, ?_, ?_, rfl⟩ <;> decide +kernel

theorem witness_StreamCommandsComplete_4 : ∃ (s u : State) (t : Nat) (q : Fin 4) (k : Fin 512) (p : GrindPort) (x : BitVec 48) (rest : List (BitVec 48)),
    u = s.tickTo t ∧ p = u.port q.val k.val ∧ (u.desc q.val k.val).valid = true ∧ (u.desc q.val k.val).resident = false ∧ p.st ≠ 0 ∧ p.st ≠ 4 ∧ p.words = x :: rest ∧ u.badWord 3 q.val (carafeWord (u.desc q.val k.val) p) = false := by
  refine ⟨(((memBase 0 0).setImage (O.GRIND_STREAMS 0) (leBytes 8 0 ++ leBytes 4 64 ++ leBytes 4 1 ++ leBytes 2 0 ++ leBytes 2 1 ++ [1#8])).setPort 0 0 { st := 2, words := [5#48], produced := 1, ended := true }), ((((memBase 0 0).setImage (O.GRIND_STREAMS 0) (leBytes 8 0 ++ leBytes 4 64 ++ leBytes 4 1 ++ leBytes 2 0 ++ leBytes 2 1 ++ [1#8])).setPort 0 0 { st := 2, words := [5#48], produced := 1, ended := true })).tickTo (7), 7, 0, 0, _, 5#48, [], rfl, rfl, ?_, ?_, ?_, ?_, ?_, ?_⟩ <;> decide +kernel

theorem witness_StreamCommandsComplete_5 : ∃ (s u : State) (t : Nat) (q : Fin 4) (k : Fin 512) (d : StreamDesc) (p : GrindPort) (x : BitVec 48) (lastWord lastLoop : Bool) (w : State),
    u = s.tickTo t ∧ d = u.desc q.val k.val ∧ p = u.port q.val k.val ∧ d.valid = true ∧ d.resident = true ∧ p.st ≠ 0 ∧ p.st ≠ 4 ∧ p.ended = true ∧ p.words[p.pos]? = some x ∧ u.badWord 3 q.val (carafeWord d p) = false ∧ lastWord = decide (p.words.length ≤ p.pos + 1) ∧ lastLoop = (decide (d.loops ≤ p.loopNo) || p.st == 5) ∧ w = (((u.sramRead 3 q.val (carafeWord d p) 1).setPort q.val k.val { p with pos := if lastWord = true ∧ lastLoop = false then 0 else p.pos + 1, delivered := p.delivered + 1, loopNo := if lastWord = true ∧ lastLoop = false then p.loopNo + 1 else p.loopNo, st := if p.st = 5 then 5 else if lastWord = true ∧ lastLoop = true then 4 else 3 }).ledMove 0x1065 2 1 1).bump (O.GRIND_WORDS_OUT q.val) 1 := by
  refine ⟨(((memBase 0 0).setImage (O.GRIND_STREAMS 0) ((leBytes 8 0 ++ leBytes 4 64 ++ leBytes 4 1 ++ leBytes 2 0 ++ leBytes 2 1 ++ [3#8]))).setPort 0 0 { st := 2, words := [5#48], produced := 1, ended := true, loopNo := 1 }), ((((memBase 0 0).setImage (O.GRIND_STREAMS 0) ((leBytes 8 0 ++ leBytes 4 64 ++ leBytes 4 1 ++ leBytes 2 0 ++ leBytes 2 1 ++ [3#8]))).setPort 0 0 { st := 2, words := [5#48], produced := 1, ended := true, loopNo := 1 })).tickTo (7), 7, 0, 0, _, _, 5#48, _, _, _, rfl, rfl, rfl, ?_, ?_, ?_, ?_, ?_, ?_, ?_, rfl, rfl, rfl⟩ <;> decide +kernel

theorem witness_StreamCommandsComplete_6 : ∃ (s u : State) (t : Nat) (r : Requester) (crc : Nat) (img : List Byte) (q : Fin 4) (tt : Nat) (v w y : State) (ch : List Nat) (z : Nat),
    u = s.tickTo t ∧ u.commitReady r (O.GRIND_STREAMS q.val) crc img = true ∧ streamsRefused img = false ∧ v = u.setXfer (O.GRIND_STREAMS q.val) none ∧ ch = (List.range 512).filter (fun k => descAt (u.image (O.GRIND_STREAMS q.val)) k != descAt img k) ∧ u.marchOn 4 q.val = false ∧ ch.any (fun k => [3, 4, 7].contains (u.reg (O.ENG_STATE (portEngine q.val k)))) = false ∧ w = (ch.foldl (fun (s : State) k => s.setPort q.val k { st := if (descAt img k).valid then 1 else 0 }) ((ch.foldl (fun (s : State) k => s.grindRewind q.val k) v).setImage (O.GRIND_STREAMS q.val) img)).setReg (O.GRIND_CARAFE_FREE q.val) (1024 - extentUnits img false - extentUnits img true) ∧ y = ((w.ledSub 0x1066 2 (extentUnits (u.image (O.GRIND_STREAMS q.val)) false)).ledSub 0x1066 3 (extentUnits (u.image (O.GRIND_STREAMS q.val)) true)).ledAdd 0x1066 1 (extentUnits (u.image (O.GRIND_STREAMS q.val)) false + extentUnits (u.image (O.GRIND_STREAMS q.val)) true) ∧ tt = 0 ∧ tt = ttImage (ttTick z) (ttFine z) :=
  ⟨((memBase 0 0).setXfer (O.GRIND_STREAMS 0) (some ⟨.firmware .a, 0, fill 16384 0, 0⟩)), (((memBase 0 0).setXfer (O.GRIND_STREAMS 0) (some ⟨.firmware .a, 0, fill 16384 0, 0⟩))).tickTo (7), 7, .firmware .a, crc32 (fill 16384 0), fill 16384 0, 0, 0, _, _, _, _, 0, rfl, State.commitReady_intro _ _ _ _ 0 (by first | rfl | decide) (by decide +kernel) (by decide +kernel) rfl, streams_zero, rfl, rfl, by decide +kernel, streams_same _ rfl _, rfl, rfl, rfl, rfl⟩

theorem witness_OnChipMemoryCommandsComplete_1 : ∃ (s u : State) (t : Nat),
    u = s.tickTo t ∧ u.reg O.MARCH_MARCH_STATE = 1 ∧ u.marchAt = none ∧ u.isSet O.DEV_CLKREF_STABLE = true ∧ u.pllLocked pllSpll = true := by
  refine ⟨({ (base.setReg O.DEV_CLKREF_STABLE 1).setReg O.MARCH_MARCH_STATE 1 with marchAt := none } : State), (({ (base.setReg O.DEV_CLKREF_STABLE 1).setReg O.MARCH_MARCH_STATE 1 with marchAt := none } : State)).tickTo (7), 7, rfl, ?_, ?_, ?_, ?_⟩ <;> decide +kernel

theorem witness_OnChipMemoryCommandsComplete_2 : ∃ (s u : State) (t : Nat) (x : MarchFinds) (a : Nat) (b c d e f g : State),
    u = s.tickTo t ∧ u.marchAt = some a ∧ u.reg O.MARCH_MARCH_STATE = 1 ∧ a + 21 * 65536 * Config.wordUnits ≤ u.now ∧ b = x.slots.foldl (fun (s : State) i => (s.slotFailed i).resultBit i) u ∧ c = (x.feeds.foldl (fun (s : State) p => s.resultBit (66 * 8 + p.1)) b).wordsFailed 2 x.feeds ∧ d = (x.carafe.foldl (fun (s : State) p => s.resultBit (68 * 8 + p.1)) c).wordsFailed 3 x.carafe ∧ e = x.spine.foldl (fun (s : State) p => (s.resultBit (69 * 8 + p.1)).wordsFailed (spineArray p.1).1 [((spineArray p.1).2, p.2)]) d ∧ f = x.columns.foldl (fun (s : State) p => s.columnsFound p.1 p.2) e ∧ g = State.setReg { f with marchAt := none } O.MARCH_MARCH_STATE 0 ∧ g.reg O.CFG_CFG_MODE ≤ 1 := by
  refine ⟨({ (base.setReg O.DEV_CLKREF_STABLE 1).setReg O.MARCH_MARCH_STATE 1 with marchAt := some 0 } : State), (({ (base.setReg O.DEV_CLKREF_STABLE 1).setReg O.MARCH_MARCH_STATE 1 with marchAt := some 0 } : State)).tickTo (21 * 65536 * Config.wordUnits), 21 * 65536 * Config.wordUnits, ⟨[], [], [], [], []⟩, 0, _, _, _, _, _, _, rfl, ?_, ?_, ?_, rfl, rfl, rfl, rfl, rfl, rfl, ?_⟩ <;> decide +kernel

theorem witness_OnChipMemoryCommandsComplete_3 : ∃ (s u : State) (t : Nat) (x : MarchFinds) (a : Nat) (b c d e f g : State),
    u = s.tickTo t ∧ u.marchAt = some a ∧ u.reg O.MARCH_MARCH_STATE = 1 ∧ a + 21 * 65536 * Config.wordUnits ≤ u.now ∧ b = x.slots.foldl (fun (s : State) i => (s.slotFailed i).resultBit i) u ∧ c = (x.feeds.foldl (fun (s : State) p => s.resultBit (66 * 8 + p.1)) b).wordsFailed 2 x.feeds ∧ d = (x.carafe.foldl (fun (s : State) p => s.resultBit (68 * 8 + p.1)) c).wordsFailed 3 x.carafe ∧ e = x.spine.foldl (fun (s : State) p => (s.resultBit (69 * 8 + p.1)).wordsFailed (spineArray p.1).1 [((spineArray p.1).2, p.2)]) d ∧ f = x.columns.foldl (fun (s : State) p => s.columnsFound p.1 p.2) e ∧ g = State.setReg { f with marchAt := none } O.MARCH_MARCH_STATE 0 ∧ 1 < g.reg O.CFG_CFG_MODE := by
  refine ⟨({ ((base.setReg O.DEV_CLKREF_STABLE 1).setReg O.CFG_CFG_MODE 3).setReg O.MARCH_MARCH_STATE 1 with marchAt := some 0 } : State), (({ ((base.setReg O.DEV_CLKREF_STABLE 1).setReg O.CFG_CFG_MODE 3).setReg O.MARCH_MARCH_STATE 1 with marchAt := some 0 } : State)).tickTo (21 * 65536 * Config.wordUnits), 21 * 65536 * Config.wordUnits, ⟨[], [], [], [], []⟩, 0, _, _, _, _, _, _, rfl, ?_, ?_, ?_, rfl, rfl, rfl, rfl, rfl, rfl, ?_⟩ <;> decide +kernel

theorem witness_OnChipMemoryCommandsComplete_4 : ∃ (s u : State) (t : Nat) (r : Requester),
    u = s.tickTo t ∧ u.writable r O.MARCH_MARCH_START 1 = true ∧ u.reg O.MARCH_MARCH_STATE = 0 ∧ u.marchAllowed (u.reg O.MARCH_MARCH_TARGET) = true :=
  ⟨((base.setReg O.DEV_CLKREF_STABLE 1).setReg O.MARCH_MARCH_STATE 0), (((base.setReg O.DEV_CLKREF_STABLE 1).setReg O.MARCH_MARCH_STATE 0)).tickTo (7), 7, .firmware .a, rfl, by decide +kernel, by decide +kernel, by decide +kernel⟩

theorem witness_OnChipMemoryCommandsComplete_5 : ∃ (s u : State) (t : Nat) (found first : Nat) (left : List Nat) (a target : Nat) (w : State),
    u = s.tickTo t ∧ u.marchAt = some a ∧ u.reg O.MARCH_MARCH_STATE = 2 ∧ target = u.reg O.MARCH_MARCH_TARGET ∧ a + marchUnits target (u.reg O.MARCH_MARCH_MODE) ≤ u.now ∧ w = (if u.reg O.MARCH_MARCH_MODE = 0 then u.marchZero target else u) ∧ bits target 31 28 ≠ 3 ∧ bits target 31 28 ≠ 4 := by
  refine ⟨({ (((base.setReg O.DEV_CLKREF_STABLE 1).setReg O.MARCH_MARCH_STATE 2).setReg O.MARCH_MARCH_TARGET (5)).setReg O.MARCH_MARCH_MODE 1 with marchAt := some 0 } : State), (({ (((base.setReg O.DEV_CLKREF_STABLE 1).setReg O.MARCH_MARCH_STATE 2).setReg O.MARCH_MARCH_TARGET (5)).setReg O.MARCH_MARCH_MODE 1 with marchAt := some 0 } : State)).tickTo (21 * 65536 * Config.wordUnits), 21 * 65536 * Config.wordUnits, 0, 0, [], 0, _, _, rfl, ?_, ?_, rfl, ?_, rfl, ?_, ?_⟩ <;> decide +kernel

theorem witness_OnChipMemoryCommandsComplete_6 : ∃ (s u : State) (t : Nat) (found first : Nat) (left : List Nat) (a target : Nat) (w : State),
    u = s.tickTo t ∧ u.marchAt = some a ∧ u.reg O.MARCH_MARCH_STATE = 2 ∧ target = u.reg O.MARCH_MARCH_TARGET ∧ a + marchUnits target (u.reg O.MARCH_MARCH_MODE) ≤ u.now ∧ w = (if u.reg O.MARCH_MARCH_MODE = 0 then u.marchZero target else u) ∧ bits target 31 28 = 3 := by
  refine ⟨({ (((base.setReg O.DEV_CLKREF_STABLE 1).setReg O.MARCH_MARCH_STATE 2).setReg O.MARCH_MARCH_TARGET (3 * 2 ^ 28)).setReg O.MARCH_MARCH_MODE 1 with marchAt := some 0 } : State), (({ (((base.setReg O.DEV_CLKREF_STABLE 1).setReg O.MARCH_MARCH_STATE 2).setReg O.MARCH_MARCH_TARGET (3 * 2 ^ 28)).setReg O.MARCH_MARCH_MODE 1 with marchAt := some 0 } : State)).tickTo (21 * 65536 * Config.wordUnits), 21 * 65536 * Config.wordUnits, 0, 0, [], 0, _, _, rfl, ?_, ?_, rfl, ?_, rfl, ?_⟩ <;> decide +kernel

theorem witness_OnChipMemoryCommandsComplete_7 : ∃ (s u : State) (t : Nat) (found first : Nat) (left : List Nat) (a target : Nat) (w : State),
    u = s.tickTo t ∧ u.marchAt = some a ∧ u.reg O.MARCH_MARCH_STATE = 2 ∧ target = u.reg O.MARCH_MARCH_TARGET ∧ a + marchUnits target (u.reg O.MARCH_MARCH_MODE) ≤ u.now ∧ w = (if u.reg O.MARCH_MARCH_MODE = 0 then u.marchZero target else u) ∧ bits target 31 28 = 4 := by
  refine ⟨({ (((base.setReg O.DEV_CLKREF_STABLE 1).setReg O.MARCH_MARCH_STATE 2).setReg O.MARCH_MARCH_TARGET (4 * 2 ^ 28)).setReg O.MARCH_MARCH_MODE 1 with marchAt := some 0 } : State), (({ (((base.setReg O.DEV_CLKREF_STABLE 1).setReg O.MARCH_MARCH_STATE 2).setReg O.MARCH_MARCH_TARGET (4 * 2 ^ 28)).setReg O.MARCH_MARCH_MODE 1 with marchAt := some 0 } : State)).tickTo (21 * 65536 * Config.wordUnits), 21 * 65536 * Config.wordUnits, 0, 0, [], 0, _, _, rfl, ?_, ?_, rfl, ?_, rfl, ?_⟩ <;> decide +kernel

theorem witness_OnChipMemoryCommandsComplete_8 : ∃ (s u : State) (t : Nat) (r : Requester) (crc : Nat) (img : List Byte) (tt n : Nat) (z : Nat),
    u = s.tickTo t ∧ u.commitReady r O.PATROL_SCRUB_PROGRAM crc img = true ∧ n = img.length / 8 ∧ 1 ≤ n ∧ n ≤ 64 ∧ img.length % 8 = 0 ∧ (List.range n).all (fun k => scrubStepOk (scrubStep img k)) = true ∧ scrubOp (scrubStep img (n - 1)) = 0 ∧ tt = 0 ∧ tt = ttImage (ttTick z) (ttFine z) := by
  refine ⟨((base.setReg O.DEV_CLKREF_STABLE 1).setXfer O.PATROL_SCRUB_PROGRAM (some ⟨.firmware .a, 0, fill 8 0, 0⟩)), (((base.setReg O.DEV_CLKREF_STABLE 1).setXfer O.PATROL_SCRUB_PROGRAM (some ⟨.firmware .a, 0, fill 8 0, 0⟩))).tickTo (7), 7, .firmware .a, crc32 (fill 8 0), fill 8 0, 0, 1, 0, rfl, State.commitReady_intro _ _ _ _ 0 (by first | rfl | decide) (by decide +kernel) (by decide +kernel) rfl, rfl, ?_, ?_, ?_, ?_, ?_, rfl, rfl⟩ <;> decide +kernel

theorem witness_OnChipMemoryCommandsComplete_9 : ∃ (s u : State) (t : Nat) (ups : List (Nat × Nat × Nat)) (errs : List PatrolErr) (busy : List Nat) (wait : Nat) (v w : State) (tg cur n left : Nat),
    u = s.tickTo t ∧ v = u.upsets ups ∧ v.patrolAt 1 = true ∧ v.patrol.unitAt + scrubArg v.scrubNow * Config.nsUnits ≤ v.now ∧ tg = scrubTarget v.scrubNow ∧ tg ≠ 10 ∧ cur = v.cursor tg ∧ n = patrolUnits tg ∧ left = v.patrol.left.getD (if scrubCount v.scrubNow = 0 then n - cur else scrubCount v.scrubNow) ∧ w = (v.patrolVisit tg cur errs (busy.filter (v.mayBusy tg))).giveCredits tg (busy.filter (v.mayBusy tg)) ∧ creditTarget tg = true := by
  refine ⟨((base.setReg O.DEV_CLKREF_STABLE 1).setReg O.PATROL_SCRUB_ENABLE 1), (((base.setReg O.DEV_CLKREF_STABLE 1).setReg O.PATROL_SCRUB_ENABLE 1)).tickTo (10000 * Config.nsUnits), 10000 * Config.nsUnits, [(0, 0, 1)], [.single 3], [7], 3, _, _, 0, 0, _, _, rfl, rfl, ?_, ?_, rfl, ?_, rfl, rfl, rfl, rfl, ?_⟩ <;> decide +kernel

theorem witness_OnChipMemoryCommandsComplete_10 : ∃ (s u : State) (t : Nat) (ups : List (Nat × Nat × Nat)) (errs : List PatrolErr) (busy : List Nat) (wait : Nat) (v w : State) (tg cur n left : Nat),
    u = s.tickTo t ∧ v = u.upsets ups ∧ v.patrolAt 1 = true ∧ v.patrol.unitAt + scrubArg v.scrubNow * Config.nsUnits ≤ v.now ∧ tg = scrubTarget v.scrubNow ∧ tg ≠ 10 ∧ cur = v.cursor tg ∧ n = patrolUnits tg ∧ left = v.patrol.left.getD (if scrubCount v.scrubNow = 0 then n - cur else scrubCount v.scrubNow) ∧ w = v.patrolVisit tg cur errs [] ∧ creditTarget tg = false := by
  refine ⟨((base.setReg O.DEV_CLKREF_STABLE 1).setReg O.PATROL_SCRUB_ENABLE 1).setReg O.PATROL_SCRUB_STEP 3, (((base.setReg O.DEV_CLKREF_STABLE 1).setReg O.PATROL_SCRUB_ENABLE 1).setReg O.PATROL_SCRUB_STEP 3).tickTo (10000 * Config.nsUnits), 10000 * Config.nsUnits, [(0, 0, 1)], [.single 3], [7], 3, _, _, 3, 0, _, _, rfl, rfl, ?_, ?_, rfl, ?_, rfl, rfl, rfl, rfl, ?_⟩ <;> decide +kernel

theorem witness_OnChipMemoryCommandsComplete_11 : ∃ (s u : State) (t : Nat) (ups : List (Nat × Nat × Nat)) (errs : List PatrolErr) (busy : List Nat) (wait : Nat) (v w : State) (rg : Region) (pa : Nat),
    u = s.tickTo t ∧ v = u.upsets ups ∧ v.patrolAt 1 = true ∧ v.patrol.unitAt + scrubArg v.scrubNow * Config.nsUnits ≤ v.now ∧ scrubTarget v.scrubNow = 10 ∧ v.scrubLine (v.cursor 10) = some (rg, pa) ∧ w = (v.pipeWait 3 wait).patrolLine rg pa errs := by
  refine ⟨((((memBase 1 0).setImage O.MEM_REGIONS (splice (regionImage 1 0) 25 [3#8])).setReg O.PATROL_SCRUB_ENABLE 1).setReg O.PATROL_SCRUB_STEP 10), (((((memBase 1 0).setImage O.MEM_REGIONS (splice (regionImage 1 0) 25 [3#8])).setReg O.PATROL_SCRUB_ENABLE 1).setReg O.PATROL_SCRUB_STEP 10)).tickTo (10000 * Config.nsUnits), 10000 * Config.nsUnits, [], [], [], 3, _, _, (regionAt (splice (regionImage 1 0) 25 [3#8]) 0), 0, rfl, rfl, ?_, ?_, ?_, ?_, rfl⟩ <;> decide +kernel

theorem witness_OnChipMemoryCommandsComplete_12 : ∃ (s u : State) (t : Nat) (data : Bool) (slot : Fin 528) (n since : Nat) (v w : State),
    u = s.tickTo t ∧ v = u.patrolWord (b2n data) slot.val (u.arrayWord (b2n data) (u.cursor (b2n data)) slot.val) ∧ Tbl.get (0, 0) u.patrol.credits (b2n data * 4096 + slot.val) = (n, since) ∧ u.reg O.PATROL_FORCE_AFTER ≠ 0 ∧ n ≠ 0 ∧ since + u.reg O.PATROL_FORCE_AFTER ≤ u.now / Config.wordUnits ∧ w = ({ v with patrol := { v.patrol with credits := Tbl.set (0, 0) v.patrol.credits (b2n data * 4096 + slot.val) (if n = 1 then (0, 0) else (n - 1, u.now / Config.wordUnits)) } } : State).bump O.PATROL_STEALS 1 ∧ w.engineOn slot.val = none := by
  refine ⟨({ base.setReg O.PATROL_FORCE_AFTER 65536 with patrol := { base.patrol with credits := [(32, (1, 5))] } } : State), (({ base.setReg O.PATROL_FORCE_AFTER 65536 with patrol := { base.patrol with credits := [(32, (1, 5))] } } : State)).tickTo (65550 * Config.wordUnits), 65550 * Config.wordUnits, false, 32, 1, 5, _, _, rfl, rfl, ?_, ?_, ?_, ?_, rfl, ?_⟩ <;> decide +kernel

theorem witness_OnChipMemoryCommandsComplete_13 : ∃ (s u : State) (t : Nat) (data : Bool) (slot : Fin 528) (n since e : Nat) (v w : State),
    u = s.tickTo t ∧ v = u.patrolWord (b2n data) slot.val (u.arrayWord (b2n data) (u.cursor (b2n data)) slot.val) ∧ Tbl.get (0, 0) u.patrol.credits (b2n data * 4096 + slot.val) = (n, since) ∧ u.reg O.PATROL_FORCE_AFTER ≠ 0 ∧ n ≠ 0 ∧ since + u.reg O.PATROL_FORCE_AFTER ≤ u.now / Config.wordUnits ∧ w = ({ v with patrol := { v.patrol with credits := Tbl.set (0, 0) v.patrol.credits (b2n data * 4096 + slot.val) (if n = 1 then (0, 0) else (n - 1, u.now / Config.wordUnits)) } } : State).bump O.PATROL_STEALS 1 ∧ w.engineOn slot.val = some e ∧ w.reg (O.ENG_STATE e) = 4 := by
  refine ⟨({ (base.setReg (O.ENG_STATE 3) 4).setReg O.PATROL_FORCE_AFTER 65536 with patrol := { base.patrol with credits := [(3, (1, 5))] } } : State), (({ (base.setReg (O.ENG_STATE 3) 4).setReg O.PATROL_FORCE_AFTER 65536 with patrol := { base.patrol with credits := [(3, (1, 5))] } } : State)).tickTo (65550 * Config.wordUnits), 65550 * Config.wordUnits, false, 3, 1, 5, 3, _, _, rfl, rfl, ?_, ?_, ?_, ?_, rfl, ?_, ?_⟩ <;> decide +kernel

theorem witness_OnChipMemoryCommandsComplete_14 : ∃ (s u : State) (t : Nat) (data : Bool) (slot : Fin 528) (n since e : Nat) (v w : State),
    u = s.tickTo t ∧ v = u.patrolWord (b2n data) slot.val (u.arrayWord (b2n data) (u.cursor (b2n data)) slot.val) ∧ Tbl.get (0, 0) u.patrol.credits (b2n data * 4096 + slot.val) = (n, since) ∧ u.reg O.PATROL_FORCE_AFTER ≠ 0 ∧ n ≠ 0 ∧ since + u.reg O.PATROL_FORCE_AFTER ≤ u.now / Config.wordUnits ∧ w = ({ v with patrol := { v.patrol with credits := Tbl.set (0, 0) v.patrol.credits (b2n data * 4096 + slot.val) (if n = 1 then (0, 0) else (n - 1, u.now / Config.wordUnits)) } } : State).bump O.PATROL_STEALS 1 ∧ w.engineOn slot.val = some e ∧ w.reg (O.ENG_STATE e) ≠ 4 := by
  refine ⟨({ base.setReg O.PATROL_FORCE_AFTER 65536 with patrol := { base.patrol with credits := [(3, (1, 5))] } } : State), (({ base.setReg O.PATROL_FORCE_AFTER 65536 with patrol := { base.patrol with credits := [(3, (1, 5))] } } : State)).tickTo (65550 * Config.wordUnits), 65550 * Config.wordUnits, false, 3, 1, 5, 3, _, _, rfl, rfl, ?_, ?_, ?_, ?_, rfl, ?_, ?_⟩ <;> decide +kernel

theorem witness_OnChipMemoryCommandsComplete_15 : ∃ (s u : State) (t : Nat),
    u = s.tickTo t ∧ u.patrolAt 2 = true ∧ u.patrol.unitAt + scrubArg u.scrubNow * Config.usUnits ≤ u.now :=
  ⟨(((base.setReg O.DEV_CLKREF_STABLE 1).setImage O.PATROL_SCRUB_PROGRAM (leBytes 8 (2 * 2 ^ 60))).setReg O.PATROL_SCRUB_ENABLE 1), ((((base.setReg O.DEV_CLKREF_STABLE 1).setImage O.PATROL_SCRUB_PROGRAM (leBytes 8 (2 * 2 ^ 60))).setReg O.PATROL_SCRUB_ENABLE 1)).tickTo (7), 7, rfl, by decide +kernel, by decide +kernel⟩

theorem witness_NetworkRequestCommandsComplete_1 : ∃ (s u : State) (t : Nat) (src dst : Fin 98) (cls : Fin 3) (p : NetPkt),
    u = (s.tickTo t).netTurn ∧ (u.stop dst.val).buf.find? (fun q => q.1.request && q.1.src == src.val && q.1.cls == cls.val) = none ∧ u.findPkt src.val dst.val (fun p => p.request && p.src == src.val && p.cls == cls.val) = some p ∧ u.ejectAnswer p = none :=
  ⟨({ base with pkts := [({ txn := 1, src := 93, sport := 0, dst := 13, dport := 0, cls := 2, kind := .write, rsv := 0x7FF, data := [], flits := 1, left := 1 } : NetPkt)] } : State), ((({ base with pkts := [({ txn := 1, src := 93, sport := 0, dst := 13, dport := 0, cls := 2, kind := .write, rsv := 0x7FF, data := [], flits := 1, left := 1 } : NetPkt)] } : State)).tickTo (7)).netTurn, 7, 93, 13, 2, ({ txn := 1, src := 93, sport := 0, dst := 13, dport := 0, cls := 2, kind := .write, rsv := 0x7FF, data := [], flits := 1, left := 1 } : NetPkt), rfl, by decide +kernel, by decide +kernel, by decide +kernel⟩

theorem witness_NetworkRequestCommandsComplete_2 : ∃ (s u : State) (t : Nat) (src dst : Fin 98) (cls : Fin 3) (p : NetPkt) (since : Nat),
    u = (s.tickTo t).netTurn ∧ (u.stop dst.val).buf.find? (fun q => q.1.request && q.1.src == src.val && q.1.cls == cls.val) = some (p, since) ∧ u.ejectAnswer p = none :=
  ⟨base.setStop 13 { buf := [(({ txn := 1, src := 93, sport := 0, dst := 13, dport := 0, cls := 2, kind := .write, rsv := 0x7FF, data := [], flits := 1, left := 1 } : NetPkt), 3)] }, ((base.setStop 13 { buf := [(({ txn := 1, src := 93, sport := 0, dst := 13, dport := 0, cls := 2, kind := .write, rsv := 0x7FF, data := [], flits := 1, left := 1 } : NetPkt), 3)] }).tickTo (7)).netTurn, 7, 93, 13, 2, ({ txn := 1, src := 93, sport := 0, dst := 13, dport := 0, cls := 2, kind := .write, rsv := 0x7FF, data := [], flits := 1, left := 1 } : NetPkt), 3, rfl, by decide +kernel, by decide +kernel⟩

theorem witness_NetworkRequestCommandsComplete_3 : ∃ (s u : State) (t : Nat) (src dst : Fin 98) (cls : Fin 3) (p : NetPkt),
    u = (s.tickTo t).netTurn ∧ (u.stop dst.val).buf.find? (fun q => q.1.request && q.1.src == src.val && q.1.cls == cls.val) = none ∧ u.findPkt src.val dst.val (fun p => p.request && p.src == src.val && p.cls == cls.val) = some p ∧ u.ejectAnswer p = none :=
  ⟨({ base with pkts := [({ txn := 1, src := 93, sport := 0, dst := 13, dport := 0, cls := 2, kind := .write, rsv := 0x7FF, data := [], flits := 1, left := 1 } : NetPkt)] } : State), ((({ base with pkts := [({ txn := 1, src := 93, sport := 0, dst := 13, dport := 0, cls := 2, kind := .write, rsv := 0x7FF, data := [], flits := 1, left := 1 } : NetPkt)] } : State)).tickTo (7)).netTurn, 7, 93, 13, 2, ({ txn := 1, src := 93, sport := 0, dst := 13, dport := 0, cls := 2, kind := .write, rsv := 0x7FF, data := [], flits := 1, left := 1 } : NetPkt), rfl, by decide +kernel, by decide +kernel, by decide +kernel⟩

theorem witness_NetworkRequestCommandsComplete_4 : ∃ (s u : State) (t : Nat) (src dst : Fin 98) (cls : Fin 3) (p : NetPkt),
    u = (s.tickTo t).netTurn ∧ (u.stop dst.val).buf.find? (fun q => q.1.request && q.1.src == src.val && q.1.cls == cls.val) = none ∧ u.findPkt src.val dst.val (fun p => p.request && p.src == src.val && p.cls == cls.val) = some p ∧ u.ejectAnswer p = none ∧ (u.stop dst.val).buf.any (fun q => q.1 == p) = false := by
  refine ⟨({ base with pkts := [({ txn := 1, src := 93, sport := 0, dst := 13, dport := 0, cls := 2, kind := .write, rsv := 0x7FF, data := [], flits := 1, left := 1 } : NetPkt)] } : State), ((({ base with pkts := [({ txn := 1, src := 93, sport := 0, dst := 13, dport := 0, cls := 2, kind := .write, rsv := 0x7FF, data := [], flits := 1, left := 1 } : NetPkt)] } : State)).tickTo (7)).netTurn, 7, 93, 13, 2, ({ txn := 1, src := 93, sport := 0, dst := 13, dport := 0, cls := 2, kind := .write, rsv := 0x7FF, data := [], flits := 1, left := 1 } : NetPkt), rfl, ?_, ?_, ?_, ?_⟩ <;> decide +kernel

theorem witness_NetworkRequestCommandsComplete_5 : ∃ (s u : State) (t : Nat) (src dst : Fin 98) (cls : Fin 3) (p : NetPkt) (since : Nat),
    u = (s.tickTo t).netTurn ∧ (u.stop dst.val).held.find? (fun q => q.1.request && q.1.src == src.val && q.1.cls == cls.val) = some (p, since) :=
  ⟨base.setStop 13 { held := [(({ txn := 1, src := 93, sport := 0, dst := 13, dport := 0, cls := 2, kind := .write, rsv := 0x7FF, data := [], flits := 1, left := 1 } : NetPkt), 3)] }, ((base.setStop 13 { held := [(({ txn := 1, src := 93, sport := 0, dst := 13, dport := 0, cls := 2, kind := .write, rsv := 0x7FF, data := [], flits := 1, left := 1 } : NetPkt), 3)] }).tickTo (7)).netTurn, 7, 93, 13, 2, ({ txn := 1, src := 93, sport := 0, dst := 13, dport := 0, cls := 2, kind := .write, rsv := 0x7FF, data := [], flits := 1, left := 1 } : NetPkt), 3, rfl, by decide +kernel⟩

theorem witness_NetworkRequestCommandsComplete_6 : ∃ (s u : State) (t : Nat) (src : Fin 98) (sport : Fin 16) (write : Bool) (addr n dst dport flits : Nat) (data : List Byte) (rv : Option Nat) (w : State) (p : NetPkt),
    u = (s.tickTo t).netTurn ∧ (u.reg (O.RS_ISOLATED_PORTS src.val)).testBit sport.val = false ∧ u.netDecode addr = some (dst, dport) ∧ rv = u.reservationOf src.val sport.val dst dport ∧ w = u.ledAdd 0x105B 0 1 ∧ rv.any (fun k => (w.netResv k).fenced) = false ∧ flits = 1 + (if write then dataFlits data.length else 0) ∧ p = { txn := w.txns, src := src.val, sport := sport.val, dst := dst, dport := dport, cls := if rv.isSome then 1 else 2, kind := if write then .write else .read, rsv := rv.getD 0x7FF, addr := addr, n := if write then data.length else n, data := data, flits := flits, left := flits } :=
  ⟨(base.setImage O.NET_STANDING []), (((base.setImage O.NET_STANDING [])).tickTo (7)).netTurn, 7, 93, 0, true, 0xC0 * 2 ^ 40 + 0x1110 * 0x4000 + 2 * 0x40, 0, 95, 0, _, [], _, _, _, rfl, by decide +kernel, by decide +kernel, rfl, rfl, by decide +kernel, rfl, rfl⟩

theorem witness_NetworkRequestCommandsComplete_7 : ∃ (s u : State) (t : Nat) (src dst : Fin 98) (p : NetPkt) (st : Status) (byStop : Bool) (w : State),
    u = (s.tickTo t).netTurn ∧ u.findPkt src.val dst.val NetPkt.isResponse = some p ∧ p.kind = .response st byStop ∧ w = ((u.dropPkt p).bump (O.RS_FLITS dst.val) p.flits).countEvent 2 dst.val 0 p.flits ∧ (w.stop dst.val).out.any (fun o => o.txn == p.txn) = true :=
  ⟨(({ base with pkts := [({ txn := 1, src := 93, sport := 0, dst := 13, dport := 0, cls := 2, kind := .response .okay false, rsv := 0x7FF, data := [], flits := 1, left := 1 } : NetPkt)] } : State).setStop 13 { out := [⟨1, 0, 0, 1, false⟩] }), (((({ base with pkts := [({ txn := 1, src := 93, sport := 0, dst := 13, dport := 0, cls := 2, kind := .response .okay false, rsv := 0x7FF, data := [], flits := 1, left := 1 } : NetPkt)] } : State).setStop 13 { out := [⟨1, 0, 0, 1, false⟩] })).tickTo (7)).netTurn, 7, 93, 13, ({ txn := 1, src := 93, sport := 0, dst := 13, dport := 0, cls := 2, kind := .response .okay false, rsv := 0x7FF, data := [], flits := 1, left := 1 } : NetPkt), .okay, false, _, rfl, by decide +kernel, by decide +kernel, rfl, by decide +kernel⟩

theorem witness_NetworkRequestCommandsComplete_8 : ∃ (s u : State) (t : Nat) (src dst : Fin 98) (p : NetPkt) (st : Status) (byStop : Bool) (w : State),
    u = (s.tickTo t).netTurn ∧ u.findPkt src.val dst.val NetPkt.isResponse = some p ∧ p.kind = .response st byStop ∧ w = ((u.dropPkt p).bump (O.RS_FLITS dst.val) p.flits).countEvent 2 dst.val 0 p.flits ∧ (w.stop dst.val).out.any (fun o => o.txn == p.txn) = false :=
  ⟨({ base with pkts := [({ txn := 1, src := 93, sport := 0, dst := 13, dport := 0, cls := 2, kind := .response .okay false, rsv := 0x7FF, data := [], flits := 1, left := 1 } : NetPkt)] } : State), ((({ base with pkts := [({ txn := 1, src := 93, sport := 0, dst := 13, dport := 0, cls := 2, kind := .response .okay false, rsv := 0x7FF, data := [], flits := 1, left := 1 } : NetPkt)] } : State)).tickTo (7)).netTurn, 7, 93, 13, ({ txn := 1, src := 93, sport := 0, dst := 13, dport := 0, cls := 2, kind := .response .okay false, rsv := 0x7FF, data := [], flits := 1, left := 1 } : NetPkt), .okay, false, _, rfl, by decide +kernel, by decide +kernel, rfl, by decide +kernel⟩

theorem witness_NetworkRequestCommandsComplete_9 : ∃ (s u : State) (t : Nat) (rs : Fin 98) (o : NetOut) (rest : List NetOut),
    u = (s.tickTo t).netTurn ∧ (u.stop rs.val).out = o :: rest ∧ u.netPast o.start (u.reg O.NET_REQ_LIMIT) = true :=
  ⟨(base.setStop 13 { out := [⟨1, 0, 0, 1, false⟩] }), (((base.setStop 13 { out := [⟨1, 0, 0, 1, false⟩] })).tickTo (2 ^ 60)).netTurn, 2 ^ 60, 13, ⟨1, 0, 0, 1, false⟩, [], rfl, by decide +kernel, by decide +kernel⟩

theorem witness_NetworkRequestCommandsComplete_10 : ∃ (s u : State) (t : Nat) (src dst : Fin 98) (p : NetPkt) (w : State),
    u = (s.tickTo t).netTurn ∧ u.findPkt src.val dst.val NetPkt.isAsk = some p ∧ w = u.dropPkt p ∧ u.reg (O.RS_FENCE_STATE dst.val) = 0 :=
  ⟨({ base with pkts := [({ txn := 1, src := 93, sport := 0, dst := 13, dport := 0, cls := 2, kind := .rsvReq 2, rsv := 0x7FF, data := [], flits := 1, left := 1 } : NetPkt)] } : State), ((({ base with pkts := [({ txn := 1, src := 93, sport := 0, dst := 13, dport := 0, cls := 2, kind := .rsvReq 2, rsv := 0x7FF, data := [], flits := 1, left := 1 } : NetPkt)] } : State)).tickTo (7)).netTurn, 7, 93, 13, ({ txn := 1, src := 93, sport := 0, dst := 13, dport := 0, cls := 2, kind := .rsvReq 2, rsv := 0x7FF, data := [], flits := 1, left := 1 } : NetPkt), _, rfl, by decide +kernel, rfl, by decide +kernel⟩

theorem witness_NetworkRequestCommandsComplete_11 : ∃ (s u : State) (t : Nat) (src dst : Fin 98) (p : NetPkt) (w : State),
    u = (s.tickTo t).netTurn ∧ u.findPkt src.val dst.val NetPkt.isAsk = some p ∧ w = u.dropPkt p ∧ u.reg (O.RS_FENCE_STATE dst.val) ≠ 0 :=
  ⟨(({ base with pkts := [({ txn := 1, src := 93, sport := 0, dst := 13, dport := 0, cls := 2, kind := .rsvReq 2, rsv := 0x7FF, data := [], flits := 1, left := 1 } : NetPkt)] } : State).setReg (O.RS_FENCE_STATE 13) 2), (((({ base with pkts := [({ txn := 1, src := 93, sport := 0, dst := 13, dport := 0, cls := 2, kind := .rsvReq 2, rsv := 0x7FF, data := [], flits := 1, left := 1 } : NetPkt)] } : State).setReg (O.RS_FENCE_STATE 13) 2)).tickTo (7)).netTurn, 7, 93, 13, ({ txn := 1, src := 93, sport := 0, dst := 13, dport := 0, cls := 2, kind := .rsvReq 2, rsv := 0x7FF, data := [], flits := 1, left := 1 } : NetPkt), _, rfl, by decide +kernel, rfl, by decide +kernel⟩

theorem witness_NetworkRequestCommandsComplete_12 : ∃ (s u : State) (t : Nat) (src dst : Fin 98) (g : NetPkt),
    u = (s.tickTo t).netTurn ∧ u.findPkt src.val dst.val (fun p => p.kind == .grant) = some g :=
  ⟨({ base with pkts := [({ txn := 1, src := 93, sport := 0, dst := 13, dport := 0, cls := 2, kind := .grant, rsv := 0x7FF, data := [], flits := 1, left := 1 } : NetPkt)] } : State), ((({ base with pkts := [({ txn := 1, src := 93, sport := 0, dst := 13, dport := 0, cls := 2, kind := .grant, rsv := 0x7FF, data := [], flits := 1, left := 1 } : NetPkt)] } : State)).tickTo (7)).netTurn, 7, 93, 13, ({ txn := 1, src := 93, sport := 0, dst := 13, dport := 0, cls := 2, kind := .grant, rsv := 0x7FF, data := [], flits := 1, left := 1 } : NetPkt), rfl, by decide +kernel⟩

theorem witness_NetworkControlCommandsComplete_1 : ∃ (s u : State) (t : Nat) (k : Fin 2048) (e : NetEntry) (x : NetResv) (w : State),
    u = (s.tickTo t).netTurn ∧ u.entry k.val = some e ∧ x = u.netResv k.val ∧ x.freed ≠ 0 ∧ u.reg (O.RS_FENCE_STATE e.dst) = 0 ∧ (8 ≤ x.freed ∨ u.netPast x.freedAt 32 = true) ∧ w = (u.setNetResv k.val { x with freed := 0, freedAt := 0 }).ledMove 0x1058 3 1 x.freed := by
  refine ⟨((base.setImage O.NET_STANDING ((leBytes 4 0x5253564E ++ fill 12 0) ++ ([93#8, 0#8, 13#8, 0#8, 4#8, 0#8, 0#8, 0#8] ++ fill 64 0xFF))).setNetResv 0 { freed := 2 }), ((((base.setImage O.NET_STANDING ((leBytes 4 0x5253564E ++ fill 12 0) ++ ([93#8, 0#8, 13#8, 0#8, 4#8, 0#8, 0#8, 0#8] ++ fill 64 0xFF))).setNetResv 0 { freed := 2 })).tickTo (2 ^ 60)).netTurn, 2 ^ 60, 0, ⟨93, 0, 0, 13, 4⟩, _, _, rfl, ?_, rfl, ?_, ?_, ?_, rfl⟩ <;> decide +kernel

theorem witness_NetworkControlCommandsComplete_2 : ∃ (s u : State) (t : Nat) (rs : Fin 98) (y : Fin 4) (cls : Fin 3) (n : Nat) (w : State),
    u = (s.tickTo t).netTurn ∧ Tbl.get 0 (u.stop rs.val).turns (y.val * 3 + cls.val) = n ∧ n ≠ 0 ∧ w = (u.setStop rs.val { u.stop rs.val with turns := Tbl.set 0 (u.stop rs.val).turns (y.val * 3 + cls.val) (n - 1) }).ledMove 0x105A 2 1 1 :=
  ⟨(base.setStop 13 { turns := [(5, 2)] }), (((base.setStop 13 { turns := [(5, 2)] })).tickTo (7)).netTurn, 7, 13, 1, 2, 2, _, rfl, by decide +kernel, by decide +kernel, rfl⟩

theorem witness_NetworkControlCommandsComplete_3 : ∃ (s u : State) (t : Nat) (r : Requester) (crc : Nat) (img : List Byte) (tt : Nat) (old new gone : List (Nat × NetEntry)) (w : State) (z : Nat),
    u = s.tickTo t ∧ u.commitReady r O.NET_STANDING crc img = true ∧ standingRefused img = false ∧ old = standing (u.image O.NET_STANDING) ∧ new = standing img ∧ gone = old.filter (fun p => !new.contains p) ∧ gone.any (fun p => (u.netResv p.1).away + (u.netResv p.1).freed != 0) = false ∧ w = (((u.setXfer O.NET_STANDING none).ledSub 0x1058 0 ((old.map fun p => p.2.credits).foldl (· + ·) 0)).ledSub 0x1058 1 ((gone.map fun p => p.2.credits).foldl (· + ·) 0)).setImage O.NET_STANDING img ∧ tt = 0 ∧ tt = ttImage (ttTick z) (ttFine z) :=
  ⟨((base.setImage O.NET_STANDING []).setXfer O.NET_STANDING (some ⟨.firmware .a, 0, standingDefault, 0⟩)), (((base.setImage O.NET_STANDING []).setXfer O.NET_STANDING (some ⟨.firmware .a, 0, standingDefault, 0⟩))).tickTo (7), 7, .firmware .a, crc32 (standingDefault), standingDefault, 0, _, _, _, _, 0, rfl, State.commitReady_intro _ _ _ _ 0 (by first | rfl | decide) (by decide +kernel) (by decide +kernel) rfl, by decide +kernel, rfl, rfl, rfl, by decide +kernel, rfl, rfl, rfl⟩

theorem witness_NetworkControlCommandsComplete_4 : ∃ (s u : State) (t : Nat) (rs : Fin 98) (port : Fin 16),
    u = (s.tickTo t).netTurn ∧ (u.stop rs.val).buf.any (fun p => p.1.dport == port.val && u.netPast p.2 (u.reg O.NET_STALL_LIMIT)) = true :=
  ⟨(base.setStop 13 { buf := [(({ txn := 1, src := 93, sport := 0, dst := 13, dport := 0, cls := 2, kind := .write, rsv := 0x7FF, data := [], flits := 1, left := 1 } : NetPkt), 3)] }), (((base.setStop 13 { buf := [(({ txn := 1, src := 93, sport := 0, dst := 13, dport := 0, cls := 2, kind := .write, rsv := 0x7FF, data := [], flits := 1, left := 1 } : NetPkt), 3)] })).tickTo (2 ^ 60)).netTurn, 2 ^ 60, 13, 0, rfl, by decide +kernel⟩

theorem witness_NetworkControlCommandsComplete_5 : ∃ (s u : State) (t : Nat) (rs : Fin 98) (port : Fin 16),
    u = (s.tickTo t).netTurn ∧ (u.stop rs.val).held.any (fun p => p.1.dport == port.val && u.netPast p.2 (u.reg O.NET_RESP_LIMIT)) = true :=
  ⟨(base.setStop 13 { held := [(({ txn := 1, src := 93, sport := 0, dst := 13, dport := 0, cls := 2, kind := .write, rsv := 0x7FF, data := [], flits := 1, left := 1 } : NetPkt), 3)] }), (((base.setStop 13 { held := [(({ txn := 1, src := 93, sport := 0, dst := 13, dport := 0, cls := 2, kind := .write, rsv := 0x7FF, data := [], flits := 1, left := 1 } : NetPkt), 3)] })).tickTo (2 ^ 60)).netTurn, 2 ^ 60, 13, 0, rfl, by decide +kernel⟩

theorem witness_NetworkControlCommandsComplete_6 : ∃ (s u : State) (t : Nat) (r : Requester) (rs : Fin 98) (v : Nat),
    u = s.tickTo t ∧ u.writable r (O.RS_ISOLATE rs.val) v = true :=
  ⟨base, (base).tickTo (7), 7, .firmware .a, 13, 3, rfl, by decide +kernel⟩

theorem witness_NetworkControlCommandsComplete_7 : ∃ (s u : State) (t : Nat) (r : Requester) (rs : Fin 98) (v : Nat),
    u = s.tickTo t ∧ u.writable r (O.RS_DEISOLATE rs.val) v = true ∧ ((u.stop rs.val).resetPorts.testBit (v % 16) && (u.reg (O.RS_ISOLATED_PORTS rs.val)).testBit (v % 16)) = true :=
  ⟨((base.setStop 13 { resetPorts := 8 }).setReg (O.RS_ISOLATED_PORTS 13) 8), (((base.setStop 13 { resetPorts := 8 }).setReg (O.RS_ISOLATED_PORTS 13) 8)).tickTo (7), 7, .firmware .a, 13, 3, rfl, by decide +kernel, by decide +kernel⟩

theorem witness_NetworkControlCommandsComplete_8 : ∃ (s u : State) (t : Nat) (r : Requester) (crc : Nat) (img : List Byte) (rs : Fin 98) (tt : Nat) (v : State) (z : Nat),
    u = s.tickTo t ∧ u.commitReady r (O.RS_BINDING rs.val) crc img = true ∧ v = u.setXfer (O.RS_BINDING rs.val) none ∧ img.length = 32 ∧ tt = 0 ∧ tt = ttImage (ttTick z) (ttFine z) :=
  ⟨(base.setXfer (O.RS_BINDING 13) (some ⟨.firmware .a, 0, fill 32 0, 0⟩)), ((base.setXfer (O.RS_BINDING 13) (some ⟨.firmware .a, 0, fill 32 0, 0⟩))).tickTo (7), 7, .firmware .a, crc32 (fill 32 0), fill 32 0, 13, 0, _, 0, rfl, State.commitReady_intro _ _ _ _ 0 (by first | rfl | decide) (by decide +kernel) (by decide +kernel) rfl, rfl, by decide +kernel, rfl, rfl⟩

theorem witness_NetworkControlCommandsComplete_9 : ∃ (s u : State) (t : Nat) (src dst : Fin 98) (p : NetPkt) (k : Nat) (w : State),
    u = (s.tickTo t).netTurn ∧ u.findPkt src.val dst.val NetPkt.isNotice = some p ∧ w = u.dropPkt p ∧ p.kind = .unfence k :=
  ⟨({ base with pkts := [({ txn := 1, src := 93, sport := 0, dst := 13, dport := 0, cls := 2, kind := .unfence 0, rsv := 0x7FF, data := [], flits := 1, left := 1 } : NetPkt)] } : State), ((({ base with pkts := [({ txn := 1, src := 93, sport := 0, dst := 13, dport := 0, cls := 2, kind := .unfence 0, rsv := 0x7FF, data := [], flits := 1, left := 1 } : NetPkt)] } : State)).tickTo (7)).netTurn, 7, 93, 13, ({ txn := 1, src := 93, sport := 0, dst := 13, dport := 0, cls := 2, kind := .unfence 0, rsv := 0x7FF, data := [], flits := 1, left := 1 } : NetPkt), 0, _, rfl, by decide +kernel, rfl, by decide +kernel⟩

theorem witness_NetworkControlCommandsComplete_10 : ∃ (s u : State) (t : Nat) (src dst : Fin 98) (p : NetPkt) (k : Nat) (v w y : State) (cut : NetPkt → Bool),
    u = (s.tickTo t).netTurn ∧ u.findPkt src.val dst.val NetPkt.isNotice = some p ∧ w = u.dropPkt p ∧ p.kind = .fence k ∧ (cut = fun q => q.request && q.rsv == k && q.left == q.flits) ∧ v = (w.setStop dst.val { w.stop dst.val with rsv := (w.stop dst.val).rsv.filter (fun q => !cut q), waiting := (w.stop dst.val).waiting.filter fun q => !cut q }).setNetResv k { w.netResv k with fenced := true } ∧ y = ((w.stop dst.val).rsv.filter cut ++ (w.stop dst.val).waiting.filter cut).foldl (fun (s : State) q => s.netDone dst.val q.txn 2 .fenced []) v :=
  ⟨({ base with pkts := [({ txn := 1, src := 93, sport := 0, dst := 13, dport := 0, cls := 2, kind := .fence 0, rsv := 0x7FF, data := [], flits := 1, left := 1 } : NetPkt)] } : State), ((({ base with pkts := [({ txn := 1, src := 93, sport := 0, dst := 13, dport := 0, cls := 2, kind := .fence 0, rsv := 0x7FF, data := [], flits := 1, left := 1 } : NetPkt)] } : State)).tickTo (7)).netTurn, 7, 93, 13, ({ txn := 1, src := 93, sport := 0, dst := 13, dport := 0, cls := 2, kind := .fence 0, rsv := 0x7FF, data := [], flits := 1, left := 1 } : NetPkt), 0, _, _, _, _, rfl, by decide +kernel, rfl, by decide +kernel, rfl, rfl, rfl⟩

theorem witness_NetworkControlCommandsComplete_11 : ∃ (s u : State) (t : Nat) (src dst : Fin 98) (p : NetPkt) (k : Nat) (w : State),
    u = (s.tickTo t).netTurn ∧ u.findPkt src.val dst.val (fun p => p.cls == 1) = some p ∧ p.kind = .fenceAck k ∧ w = u.dropPkt p :=
  ⟨({ base with pkts := [({ txn := 1, src := 93, sport := 0, dst := 13, dport := 0, cls := 1, kind := .fenceAck 0, rsv := 0x7FF, data := [], flits := 1, left := 1 } : NetPkt)] } : State), ((({ base with pkts := [({ txn := 1, src := 93, sport := 0, dst := 13, dport := 0, cls := 1, kind := .fenceAck 0, rsv := 0x7FF, data := [], flits := 1, left := 1 } : NetPkt)] } : State)).tickTo (7)).netTurn, 7, 93, 13, ({ txn := 1, src := 93, sport := 0, dst := 13, dport := 0, cls := 1, kind := .fenceAck 0, rsv := 0x7FF, data := [], flits := 1, left := 1 } : NetPkt), 0, _, rfl, by decide +kernel, by decide +kernel, rfl⟩

theorem witness_NetworkControlCommandsComplete_12 : ∃ (s u : State) (t : Nat) (rs : Fin 98) (ports : List Nat) (w : State),
    u = (s.tickTo t).netTurn ∧ u.reg (O.RS_FENCE_STATE rs.val) = 1 ∧ u.netPast (u.stop rs.val).fenceAt (u.reg O.NET_DRAIN_LIMIT) = true ∧ ports = (List.range 16).filter (fun p => (u.stop rs.val).buf.any (fun q => q.1.dport == p) || (u.stop rs.val).held.any (fun q => q.1.dport == p) || (u.stop rs.val).out.any (fun o => o.sport == p)) ∧ w = ports.foldl (fun (s : State) p => s.isolate rs.val p) u :=
  ⟨(base.setReg (O.RS_FENCE_STATE 13) 1), (((base.setReg (O.RS_FENCE_STATE 13) 1)).tickTo (2 ^ 60)).netTurn, 2 ^ 60, 13, _, _, rfl, by decide +kernel, by decide +kernel, rfl, rfl⟩

theorem witness_ChannelCommandsComplete_1 : ∃ (s u : State) (t : Nat) (r : Requester) (crc : Nat) (img : List Byte) (b : Fin 4) (tt : Nat) (z : Nat),
    u = s.tickTo t ∧ u.commitReady r (O.BANK_MAP b.val) crc img = true ∧ img.length = 576 ∧ ((List.range 144).map fun i => fieldLE img (4 * i) 4).any (fun v => srcReserved (bits v 11 0) || srcReserved (bits v 27 16)) = false ∧ u.activeBank ≠ b.val ∧ u.pendingBank ≠ some b.val ∧ tt = 0 ∧ tt = ttImage (ttTick z) (ttFine z) := by
  refine ⟨(base.setXfer (O.BANK_MAP 2) (some ⟨.firmware .a, 0, fill 576 0, 0⟩)), ((base.setXfer (O.BANK_MAP 2) (some ⟨.firmware .a, 0, fill 576 0, 0⟩))).tickTo (7), 7, .firmware .a, crc32 (fill 576 0), fill 576 0, 2, 0, 0, rfl, State.commitReady_intro _ _ _ _ 0 (by first | rfl | decide) (by decide +kernel) (by decide +kernel) rfl, ?_, ?_, ?_, ?_, rfl, rfl⟩ <;> decide +kernel

theorem witness_ChannelCommandsComplete_2 : ∃ (s u : State) (t : Nat) (b : Fin 4) (a : Sched) (old : Nat) (w : State),
    u = s.tickTo t ∧ u.sched .bank b.val = some a ∧ u.due .bank b.val a = true ∧ old = u.activeBank ∧ w = (((u.endAction .bank b.val 1).setReg (O.BANK_ACTIVE old) 0).setReg (O.BANK_ACTIVE b.val) 1).bump (O.BANK_SWITCH_COUNT b.val) 1 :=
  ⟨({ base with scheds := [(schedKey .bank 2, some ⟨3, 0, 0⟩)] } : State), (({ base with scheds := [(schedKey .bank 2, some ⟨3, 0, 0⟩)] } : State)).tickTo (10 * Config.tickUnits), 10 * Config.tickUnits, 2, ⟨3, 0, 0⟩, _, _, rfl, by decide +kernel, by decide +kernel, rfl, rfl⟩

theorem witness_ChannelCommandsComplete_4 : ∃ (s u : State) (t : Nat) (r : Requester) (crc : Nat) (img : List Byte) (ch : Fin 144),
    u = s.tickTo t ∧ u.commitReady r (O.CH_TIMING_SETS ch.val) crc img = true ∧ img.length = 10240 ∧ tableOk img (u.ireg (O.CH_TRIM ch.val)).natAbs = true ∧ u.isSet (O.CH_SCHEDULE_PENDING ch.val) = false :=
  ⟨(base.setXfer (O.CH_TIMING_SETS 3) (some ⟨.firmware .a, 0, timingSetsDefault, 0⟩)), ((base.setXfer (O.CH_TIMING_SETS 3) (some ⟨.firmware .a, 0, timingSetsDefault, 0⟩))).tickTo (7), 7, .firmware .a, crc32 (timingSetsDefault), timingSetsDefault, 3, rfl, State.commitReady_intro _ _ _ _ 0 (by first | rfl | decide) (by decide +kernel) (by decide +kernel) rfl, by decide +kernel, table_ok, by decide +kernel⟩

theorem witness_ChannelCommandsComplete_5 : ∃ (s u : State) (t : Nat) (r : Requester) (crc : Nat) (img : List Byte) (ch : Fin 144) (tt : Nat) (w : State) (z : Nat),
    u = s.tickTo t ∧ u.commitReady r (O.CH_TIMING_SETS ch.val) crc img = true ∧ tt ≠ 0 ∧ img.length = 10240 ∧ tableOk img (u.ireg (O.CH_TRIM ch.val)).natAbs = true ∧ u.isSet (O.CH_SCHEDULE_PENDING ch.val) = false ∧ (u.setXfer (O.CH_TIMING_SETS ch.val) none).armAction .timingSets ch.val tt 0 = (.okay, w) ∧ u.ttValid = true ∧ tt = ttImage (ttTick z) (ttFine z) := by
  refine ⟨((base.setReg O.MARK_TT_VALID 1).setXfer (O.CH_TIMING_SETS 3) (some ⟨.firmware .a, 0, timingSetsDefault, 0⟩)), (((base.setReg O.MARK_TT_VALID 1).setXfer (O.CH_TIMING_SETS 3) (some ⟨.firmware .a, 0, timingSetsDefault, 0⟩))).tickTo (7), 7, .firmware .a, crc32 (timingSetsDefault), timingSetsDefault, 3, (ttImage 100 0), _, (ttImage 100 0), rfl, State.commitReady_intro _ _ _ _ 0 (by first | rfl | decide) (by decide +kernel) (by decide +kernel) rfl, ?_, ?_, table_ok, ?_, Prod.ext (by decide +kernel) rfl, ?_, rfl⟩ <;> decide +kernel

theorem witness_ChannelCommandsComplete_6 : ∃ (s u : State) (t : Nat) (ch : Fin 144) (a : Sched) (w : State),
    u = s.tickTo t ∧ u.sched .timingSets ch.val = some a ∧ u.due .timingSets ch.val a = true ∧ w = { u.endAction .timingSets ch.val 1 with staged := Tbl.set [] u.staged (O.CH_TIMING_SETS ch.val) [] } :=
  ⟨({ base with scheds := [(schedKey .timingSets 3, some ⟨3, 0, 0⟩)] } : State), (({ base with scheds := [(schedKey .timingSets 3, some ⟨3, 0, 0⟩)] } : State)).tickTo (10 * Config.tickUnits), 10 * Config.tickUnits, 3, ⟨3, 0, 0⟩, _, rfl, by decide +kernel, by decide +kernel, rfl⟩

theorem witness_ChannelCommandsComplete_7 : ∃ (s u : State) (t : Nat) (r : Requester) (crc : Nat) (img : List Byte) (n : Fin 36) (ts : List (Nat × List Byte)),
    u = s.tickTo t ∧ u.commitReady r (O.CH_QUAD_SCHEDULE (4 * n.val)) crc img = true ∧ img.length = 40976 ∧ fieldLE img 0 4 = 0x44515345 ∧ byteAt img 4 = n.val ∧ ts = quadTables n.val img ∧ (ts.find? fun x => !tableOk x.2 (u.ireg (O.CH_TRIM x.1)).natAbs) = none ∧ ts.any (fun x => u.isSet (O.CH_SCHEDULE_PENDING x.1)) = false :=
  ⟨(base.setXfer (O.CH_QUAD_SCHEDULE 12) (some ⟨.firmware .a, 0, quadImg, 0⟩)), ((base.setXfer (O.CH_QUAD_SCHEDULE 12) (some ⟨.firmware .a, 0, quadImg, 0⟩))).tickTo (7), 7, .firmware .a, crc32 (quadImg), quadImg, 3, _, rfl, State.commitReady_intro _ _ _ _ 0 quad_masked (by decide +kernel) (by decide +kernel) rfl, quad_length, by decide +kernel, by decide +kernel, rfl, quad_find _ (congrArg Bool.not table_ok), quad_any _ (by decide +kernel)⟩

theorem witness_ChannelCommandsComplete_8 : ∃ (s u : State) (t : Nat) (r : Requester) (crc : Nat) (img : List Byte) (n : Fin 36) (mask tt : Nat) (ts : List (Nat × List Byte)) (w : State) (z : Nat),
    u = s.tickTo t ∧ u.commitReady r (O.CH_QUAD_SCHEDULE (4 * n.val)) crc img = true ∧ tt ≠ 0 ∧ img.length = 40976 ∧ fieldLE img 0 4 = 0x44515345 ∧ byteAt img 4 = n.val ∧ ts = quadTables n.val img ∧ (ts.find? fun x => !tableOk x.2 (u.ireg (O.CH_TRIM x.1)).natAbs) = none ∧ ts.any (fun x => u.isSet (O.CH_SCHEDULE_PENDING x.1)) = false ∧ mask = byteAt img 5 % 16 ∧ (u.setXfer (O.CH_QUAD_SCHEDULE (4 * n.val)) none).armAction .timingSets (quadUnit n.val mask) tt 0 = (.okay, w) ∧ u.ttValid = true ∧ tt = ttImage (ttTick z) (ttFine z) := by
  refine ⟨((base.setReg O.MARK_TT_VALID 1).setXfer (O.CH_QUAD_SCHEDULE 12) (some ⟨.firmware .a, 0, quadImg, 0⟩)), (((base.setReg O.MARK_TT_VALID 1).setXfer (O.CH_QUAD_SCHEDULE 12) (some ⟨.firmware .a, 0, quadImg, 0⟩))).tickTo (7), 7, .firmware .a, crc32 (quadImg), quadImg, 3, (byteAt quadImg 5 % 16), (ttImage 100 0), _, _, (ttImage 100 0), rfl, State.commitReady_intro _ _ _ _ 0 quad_masked (by decide +kernel) (by decide +kernel) rfl, ?_, quad_length, ?_, ?_, rfl, quad_find _ (congrArg Bool.not table_ok), quad_any _ (by decide +kernel), rfl, Prod.ext (by decide +kernel) rfl, ?_, rfl⟩ <;> decide +kernel

theorem witness_ChannelCommandsComplete_10 : ∃ (s u : State) (t : Nat) (r : Requester) (ch : Fin 144) (v : Nat),
    u = s.tickTo t ∧ u.writable r (O.CH_PARK_CODE ch.val) v = true ∧ (u.setReg (O.CH_PARK_CODE ch.val) v).parked ch.val = true :=
  ⟨base, (base).tickTo (7), 7, .firmware .a, 3, 1, rfl, by decide +kernel, by decide +kernel⟩

theorem witness_ChannelCommandsComplete_11 : ∃ (s u : State) (t : Nat) (r : Requester) (ch : Fin 144) (v : Nat),
    u = s.tickTo t ∧ u.writable r (O.CH_PARK_CODE ch.val) v = true ∧ (u.setReg (O.CH_PARK_CODE ch.val) v).parked ch.val = false ∧ (u.setReg (O.CH_PARK_CODE ch.val) v).reg (O.CH_STATE ch.val) ≠ 3 :=
  ⟨(base.setReg (O.CH_STATE 3) 1), ((base.setReg (O.CH_STATE 3) 1)).tickTo (7), 7, .firmware .a, 3, 1, rfl, by decide +kernel, by decide +kernel, by decide +kernel⟩

theorem witness_ChannelCommandsComplete_12 : ∃ (s u : State) (t : Nat) (r : Requester) (ch : Fin 144) (v : Nat),
    u = s.tickTo t ∧ u.writable r (O.CH_PARK_CODE ch.val) v = true ∧ (u.setReg (O.CH_PARK_CODE ch.val) v).parked ch.val = false ∧ (u.setReg (O.CH_PARK_CODE ch.val) v).reg (O.CH_STATE ch.val) = 3 ∧ ((u.setReg (O.CH_PARK_CODE ch.val) v).reg (O.SER_LOOPBACK ch.val) = 1 ∨ (u.setReg (O.CH_PARK_CODE ch.val) v).reg (O.SER_LOOPBACK ch.val) = 2) := by
  refine ⟨((base.setReg (O.CH_STATE 3) 3).setReg (O.SER_LOOPBACK 3) 1), (((base.setReg (O.CH_STATE 3) 3).setReg (O.SER_LOOPBACK 3) 1)).tickTo (7), 7, .firmware .a, 3, 2, rfl, ?_, ?_, ?_, ?_⟩ <;> decide +kernel

theorem witness_ChannelCommandsComplete_13 : ∃ (s u : State) (t : Nat) (r : Requester) (ch : Fin 144) (v : Nat),
    u = s.tickTo t ∧ u.writable r (O.CH_PARK_CODE ch.val) v = true ∧ (u.setReg (O.CH_PARK_CODE ch.val) v).parked ch.val = false ∧ (u.setReg (O.CH_PARK_CODE ch.val) v).reg (O.CH_STATE ch.val) = 3 ∧ (¬ ((u.setReg (O.CH_PARK_CODE ch.val) v).reg (O.SER_LOOPBACK ch.val) = 1 ∨ (u.setReg (O.CH_PARK_CODE ch.val) v).reg (O.SER_LOOPBACK ch.val) = 2)) := by
  refine ⟨((base.setReg (O.CH_STATE 3) 3).setReg (O.SER_LOOPBACK 3) 0), (((base.setReg (O.CH_STATE 3) 3).setReg (O.SER_LOOPBACK 3) 0)).tickTo (7), 7, .firmware .a, 3, 2, rfl, ?_, ?_, ?_, ?_⟩ <;> decide +kernel

theorem witness_ChannelCommandsComplete_14 : ∃ (s u : State) (t : Nat) (r : Requester) (ch : Fin 144) (v : Nat),
    u = s.tickTo t ∧ u.writable r (O.CH_MODE ch.val) v = true ∧ u.parked ch.val = true ∧ u.reg (O.CH_MODE ch.val) ≠ v :=
  ⟨base, (base).tickTo (7), 7, .firmware .a, 3, 1, rfl, by decide +kernel, by decide +kernel, by decide +kernel⟩

theorem witness_ChannelCommandsComplete_15 : ∃ (s u : State) (t : Nat) (ch : Fin 144),
    u = s.tickTo t ∧ (u.chan ch.val).holds.testBit 5 = true :=
  ⟨(base.setChan 3 { holds := 32 }), ((base.setChan 3 { holds := 32 })).tickTo (7), 7, 3, rfl, by decide +kernel⟩

theorem witness_ChannelCommandsComplete_16 : ∃ (s u : State) (t : Nat) (r : Requester) (ch : Fin 144) (v : Nat),
    u = s.tickTo t ∧ u.writable r (O.CH_TRIM ch.val) v = true ∧ (signed 32 v).natAbs ≤ minPeriod (u.tsTable ch.val) :=
  ⟨base, (base).tickTo (7), 7, .firmware .a, 3, 5, rfl, by decide +kernel, Nat.le_trans (by decide +kernel) (Nat.le_of_eq min_period.symm)⟩

theorem witness_ChannelCommandsComplete_17 : ∃ (s u : State) (t : Nat) (r : Requester) (ch : Fin 144) (pair : Fin 4) (v : Nat),
    u = s.tickTo t ∧ u.writable r (deskewObj ch.val pair.val) v = true ∧ u.parked ch.val = true :=
  ⟨base, (base).tickTo (7), 7, .firmware .a, 3, 1, 5, rfl, by decide +kernel, by decide +kernel⟩

theorem witness_ChannelCommandsComplete_19 : ∃ (s u : State) (t : Nat) (ch : Fin 144) (n : Nat),
    u = s.tickTo t ∧ (u.chan ch.val).stopping = true ∧ (u.chan ch.val).drvQ = [] ∧ (u.chan ch.val).denQ = [] ∧ (u.chan ch.val).strobes = [] ∧ (n = (if (u.chan ch.val).lastEdge < (u.chan ch.val).nextStart ∨ (u.chan ch.val).period = 0 then 0 else ((u.chan ch.val).lastEdge - (u.chan ch.val).nextStart) / (u.chan ch.val).period + 1)) ∧ (u.chan ch.val).nextStart + n * (u.chan ch.val).period ≤ u.now := by
  refine ⟨(base.setChan 3 { stopping := true }), ((base.setChan 3 { stopping := true })).tickTo (7), 7, 3, _, rfl, ?_, ?_, ?_, ?_, rfl, ?_⟩ <;> decide +kernel

theorem witness_ChannelCommandsComplete_20 : ∃ (s u : State) (t : Nat) (ch : Fin 144) (a : Nat) (v : State),
    u = s.tickTo t ∧ v = u.switchOut ch.val ∧ v.reg (O.CH_STATE ch.val) = 0 ∧ v.reg (O.CH_MODE ch.val) = 0 ∧ ((v.chan ch.val).drvOut ≠ srcNone ∨ (v.chan ch.val).expOut ≠ srcNone) ∧ v.patternStart ch.val = some a := by
  refine ⟨({ (((base.setReg (O.CH_STATE 0) 0).setReg (O.BANK_ACTIVE 0) 1).setImage (O.BANK_MAP 0) (fill 576 0)) with engines := [(0, { startAt := some 0 })] } : State), (({ (((base.setReg (O.CH_STATE 0) 0).setReg (O.BANK_ACTIVE 0) 1).setImage (O.BANK_MAP 0) (fill 576 0)) with engines := [(0, { startAt := some 0 })] } : State)).tickTo (7), 7, 0, 0, _, rfl, rfl, ?_, ?_, ?_, ?_⟩ <;> decide +kernel

theorem witness_ChannelCommandsComplete_21 : ∃ (s u : State) (t : Nat) (ch : Fin 144),
    u = s.tickTo t ∧ (u.reg (O.CH_STATE ch.val) = 1 ∨ u.reg (O.CH_STATE ch.val) = 2) ∧ (u.chan ch.val).stopping = false ∧ (u.chan ch.val).nextStart ≤ u.now :=
  ⟨(base.setReg (O.CH_STATE 3) 1), ((base.setReg (O.CH_STATE 3) 1)).tickTo (7), 7, 3, rfl, by decide +kernel, by decide +kernel, by decide +kernel⟩

theorem witness_ChannelCommandsComplete_22 : ∃ (s u : State) (t : Nat) (ch : Fin 144) (q : List Edge) (last : Nat) (level crowded : Bool),
    u = s.tickTo t ∧ placeEdge (u.chan ch.val).denQ (u.chan ch.val).denLast (u.chan ch.val).denLevel u.now = some (q, last, level, crowded) :=
  ⟨(base.setChan 3 { denQ := [⟨5, true, false⟩] }), ((base.setChan 3 { denQ := [⟨5, true, false⟩] })).tickTo (7), 7, 3, [], 5, true, false, rfl, by decide +kernel⟩

theorem witness_ChannelCommandsComplete_23 : ∃ (s u : State) (t : Nat) (ch : Fin 144) (q : List Edge) (last : Nat) (level crowded : Bool),
    u = s.tickTo t ∧ placeEdge (u.chan ch.val).drvQ (u.chan ch.val).drvLast (u.chan ch.val).drvLevel u.now = some (q, last, level, crowded) :=
  ⟨(base.setChan 3 { drvQ := [⟨5, true, false⟩] }), ((base.setChan 3 { drvQ := [⟨5, true, false⟩] })).tickTo (7), 7, 3, [], 5, true, false, rfl, by decide +kernel⟩

theorem witness_StrobeCommandsComplete_1 : ∃ (s u : State) (t : Nat) (ch : Fin 144) (look : Look) (x : Strobe) (ball : Nat) (c : Chan) (v w : State),
    u = s.tickTo t ∧ (u.chan ch.val).nextStrobe u.now = some (x, ball, c) ∧ v = (u.setChan ch.val (c.sampled look)).chanPulse ch.val 2 ∧ w = (List.range x.moved).foldl (fun (s : State) _ => s.edgeFault ch.val 0) v ∧ w.isSet (O.CH_PAD_LATCHED ch.val) = true :=
  ⟨((base.setChan 3 { strobes := [{ prog := 5, ballH := 5, ballL := 5, closeH := 5, closeL := 5, window := false, abuts := false, late := false, slot := 0, code := 1, start := 0, site := 0, a := 0, p := 0, step := 0 }] }).setReg (O.CH_PAD_LATCHED 3) 1), (((base.setChan 3 { strobes := [{ prog := 5, ballH := 5, ballL := 5, closeH := 5, closeL := 5, window := false, abuts := false, late := false, slot := 0, code := 1, start := 0, site := 0, a := 0, p := 0, step := 0 }] }).setReg (O.CH_PAD_LATCHED 3) 1)).tickTo (7), 7, 3, .edge true true, { prog := 5, ballH := 5, ballL := 5, closeH := 5, closeL := 5, window := false, abuts := false, late := false, slot := 0, code := 1, start := 0, site := 0, a := 0, p := 0, step := 0, atH := some 5, atL := some 5, endH := some 5, endL := some 5 }, 5, { strobes := [], cmhLast := 5, cmlLast := 5, lastEdge := 5 }, _, _, rfl, by decide +kernel, rfl, rfl, by decide +kernel⟩

theorem witness_StrobeCommandsComplete_2 : ∃ (s u : State) (t : Nat) (ch : Fin 144) (look : Look) (x : Strobe) (ball : Nat) (c : Chan) (v w : State) (fail conflict : Bool) (y z : State),
    u = s.tickTo t ∧ (u.chan ch.val).nextStrobe u.now = some (x, ball, c) ∧ v = (u.setChan ch.val (c.sampled look)).chanPulse ch.val 2 ∧ w = (List.range x.moved).foldl (fun (s : State) _ => s.edgeFault ch.val 0) v ∧ w.isSet (O.CH_PAD_LATCHED ch.val) = false ∧ w.judge x.code look = (fail, conflict, y) ∧ z = (if conflict = true then y.bump (O.CH_CONFLICT ch.val) 1 else y) ∧ x.code = 0 :=
  ⟨((base.setChan 3 { strobes := [{ prog := 5, ballH := 5, ballL := 5, closeH := 5, closeL := 5, window := false, abuts := false, late := false, slot := 0, code := 0, start := 0, site := 0, a := 0, p := 0, step := 0 }] }).setReg (O.CH_PAD_LATCHED 3) 0), (((base.setChan 3 { strobes := [{ prog := 5, ballH := 5, ballL := 5, closeH := 5, closeL := 5, window := false, abuts := false, late := false, slot := 0, code := 0, start := 0, site := 0, a := 0, p := 0, step := 0 }] }).setReg (O.CH_PAD_LATCHED 3) 0)).tickTo (7), 7, 3, .edge true true, { prog := 5, ballH := 5, ballL := 5, closeH := 5, closeL := 5, window := false, abuts := false, late := false, slot := 0, code := 0, start := 0, site := 0, a := 0, p := 0, step := 0, atH := some 5, atL := some 5, endH := some 5, endL := some 5 }, 5, { strobes := [], cmhLast := 5, cmlLast := 5, lastEdge := 5 }, _, _, false, true, _, _, rfl, by decide +kernel, rfl, rfl, by decide +kernel, rfl, rfl, by decide +kernel⟩

theorem witness_StrobeCommandsComplete_3 : ∃ (s u : State) (t : Nat) (ch : Fin 144) (look : Look) (x : Strobe) (ball : Nat) (c : Chan) (v w : State) (fail conflict : Bool) (y z : State),
    u = s.tickTo t ∧ (u.chan ch.val).nextStrobe u.now = some (x, ball, c) ∧ v = (u.setChan ch.val (c.sampled look)).chanPulse ch.val 2 ∧ w = (List.range x.moved).foldl (fun (s : State) _ => s.edgeFault ch.val 0) v ∧ w.isSet (O.CH_PAD_LATCHED ch.val) = false ∧ w.judge x.code look = (fail, conflict, y) ∧ z = (if conflict = true then y.bump (O.CH_CONFLICT ch.val) 1 else y) ∧ x.code ≠ 0 ∧ fail = true :=
  ⟨((base.setChan 3 { strobes := [{ prog := 5, ballH := 5, ballL := 5, closeH := 5, closeL := 5, window := false, abuts := false, late := false, slot := 0, code := 1, start := 0, site := 0, a := 0, p := 0, step := 0 }] }).setReg (O.CH_PAD_LATCHED 3) 0), (((base.setChan 3 { strobes := [{ prog := 5, ballH := 5, ballL := 5, closeH := 5, closeL := 5, window := false, abuts := false, late := false, slot := 0, code := 1, start := 0, site := 0, a := 0, p := 0, step := 0 }] }).setReg (O.CH_PAD_LATCHED 3) 0)).tickTo (7), 7, 3, .edge false true, { prog := 5, ballH := 5, ballL := 5, closeH := 5, closeL := 5, window := false, abuts := false, late := false, slot := 0, code := 1, start := 0, site := 0, a := 0, p := 0, step := 0, atH := some 5, atL := some 5, endH := some 5, endL := some 5 }, 5, { strobes := [], cmhLast := 5, cmlLast := 5, lastEdge := 5 }, _, _, true, false, _, _, rfl, by decide +kernel, rfl, rfl, by decide +kernel, rfl, rfl, by decide +kernel, rfl⟩

theorem witness_StrobeCommandsComplete_4 : ∃ (s u : State) (t : Nat) (ch : Fin 144) (look : Look) (x : Strobe) (ball : Nat) (c : Chan) (v w : State) (fail conflict : Bool) (y z : State),
    u = s.tickTo t ∧ (u.chan ch.val).nextStrobe u.now = some (x, ball, c) ∧ v = (u.setChan ch.val (c.sampled look)).chanPulse ch.val 2 ∧ w = (List.range x.moved).foldl (fun (s : State) _ => s.edgeFault ch.val 0) v ∧ w.isSet (O.CH_PAD_LATCHED ch.val) = false ∧ w.judge x.code look = (fail, conflict, y) ∧ z = (if conflict = true then y.bump (O.CH_CONFLICT ch.val) 1 else y) ∧ x.code ≠ 0 ∧ fail = false :=
  ⟨((base.setChan 3 { strobes := [{ prog := 5, ballH := 5, ballL := 5, closeH := 5, closeL := 5, window := false, abuts := false, late := false, slot := 0, code := 1, start := 0, site := 0, a := 0, p := 0, step := 0 }] }).setReg (O.CH_PAD_LATCHED 3) 0), (((base.setChan 3 { strobes := [{ prog := 5, ballH := 5, ballL := 5, closeH := 5, closeL := 5, window := false, abuts := false, late := false, slot := 0, code := 1, start := 0, site := 0, a := 0, p := 0, step := 0 }] }).setReg (O.CH_PAD_LATCHED 3) 0)).tickTo (7), 7, 3, .edge true false, { prog := 5, ballH := 5, ballL := 5, closeH := 5, closeL := 5, window := false, abuts := false, late := false, slot := 0, code := 1, start := 0, site := 0, a := 0, p := 0, step := 0, atH := some 5, atL := some 5, endH := some 5, endL := some 5 }, 5, { strobes := [], cmhLast := 5, cmlLast := 5, lastEdge := 5 }, _, _, false, false, _, _, rfl, by decide +kernel, rfl, rfl, by decide +kernel, rfl, rfl, by decide +kernel, rfl⟩

theorem witness_QueueCommandsComplete_1 : ∃ (s u : State) (t : Nat) (r : Requester) (crc : Nat) (img : List Byte) (q : Fin 32768) (tt d : Nat) (v : State) (z : Nat),
    u = s.tickTo t ∧ u.commitReady r (O.Q_DESC q.val) crc img = true ∧ v = (u.setXfer (O.Q_DESC q.val) none) ∧ d = leNat img ∧ v.descRefused q.val img = false ∧ tt = 0 ∧ tt = ttImage (ttTick z) (ttFine z) :=
  ⟨(base.setXfer (O.Q_DESC 5) (some ⟨.firmware .a, 0, leBytes 16 (64 * 2 ^ 43), 0⟩)), ((base.setXfer (O.Q_DESC 5) (some ⟨.firmware .a, 0, leBytes 16 (64 * 2 ^ 43), 0⟩))).tickTo (7), 7, .firmware .a, crc32 (leBytes 16 (64 * 2 ^ 43)), leBytes 16 (64 * 2 ^ 43), 5, 0, _, _, 0, rfl, State.commitReady_intro _ _ _ _ 0 (by first | rfl | decide) (by decide +kernel) (by decide +kernel) rfl, rfl, rfl, by decide +kernel, rfl, rfl⟩

theorem witness_QueueCommandsComplete_2 : ∃ (s u : State) (t : Nat) (r : Requester) (q : Fin 32768),
    u = s.tickTo t ∧ u.writable r (O.Q_ENABLE q.val) 1 = true ∧ u.reg (O.Q_STATE q.val) = 0 :=
  ⟨(base.setQueue 5 { size := 64 }), ((base.setQueue 5 { size := 64 })).tickTo (7), 7, .firmware .a, 5, rfl, by decide +kernel, by decide +kernel⟩

theorem witness_QueueCommandsComplete_3 : ∃ (s u : State) (t : Nat) (r : Requester) (q : Fin 32768),
    u = s.tickTo t ∧ u.writable r (O.Q_ENABLE q.val) 0 = true ∧ (u.reg (O.Q_STATE q.val) = 1 ∨ u.reg (O.Q_STATE q.val) = 3) :=
  ⟨((base.setQueue 5 { size := 64, pkind := 7, ckind := 7 }).setReg (O.Q_STATE 5) 1), (((base.setQueue 5 { size := 64, pkind := 7, ckind := 7 }).setReg (O.Q_STATE 5) 1)).tickTo (7), 7, .firmware .a, 5, rfl, by decide +kernel, by decide +kernel⟩

theorem witness_QueueCommandsComplete_4 : ∃ (s u : State) (t : Nat) (q : Fin 32768),
    u = s.tickTo t ∧ u.reg (O.Q_STATE q.val) = 2 ∧ (u.queue q.val).fill = 0 ∧ (u.queue q.val).resvs = [] :=
  ⟨((base.setQueue 5 { size := 64 }).setReg (O.Q_STATE 5) 2), (((base.setQueue 5 { size := 64 }).setReg (O.Q_STATE 5) 2)).tickTo (7), 7, 5, rfl, by decide +kernel, by decide +kernel, by decide +kernel⟩

theorem witness_QueueCommandsComplete_5 : ∃ (s u : State) (t : Nat) (q : Fin 32768) (gran : List Byte) (v : State),
    u = s.tickTo t ∧ v = u.descRead q.val ∧ u.accepts q.val 1 = true ∧ v.accepts q.val 1 = true :=
  ⟨((base.setQueue 5 { size := 64, pkind := 7, ckind := 7 }).setReg (O.Q_STATE 5) 1), (((base.setQueue 5 { size := 64, pkind := 7, ckind := 7 }).setReg (O.Q_STATE 5) 1)).tickTo (7), 7, 5, fill 32 1, _, rfl, rfl, by decide +kernel, by decide +kernel⟩

theorem witness_QueueCommandsComplete_6 : ∃ (s u : State) (t : Nat) (q : Fin 32768) (num : Nat) (x : Resv) (v : State),
    u = s.tickTo t ∧ (u.queue q.val).resvs.find? (fun r => r.num == num) = some x ∧ x.written = false ∧ x.gran ≠ [] ∧ (u.ringWrite (u.queue q.val) x.place x.gran).1 = some .okay ∧ v = (u.ringWrite (u.queue q.val) x.place x.gran).2 := by
  refine ⟨((base.setQueue 5 { size := 64, resvs := [⟨0, fill 32 1, 0, false, 0⟩], loc := true }).setReg (O.Q_STATE 5) 1), (((base.setQueue 5 { size := 64, resvs := [⟨0, fill 32 1, 0, false, 0⟩], loc := true }).setReg (O.Q_STATE 5) 1)).tickTo (7), 7, 5, 0, ⟨0, fill 32 1, 0, false, 0⟩, _, rfl, ?_, ?_, ?_, ?_, rfl⟩ <;> decide +kernel

theorem witness_QueueCommandsComplete_7 : ∃ (s u : State) (t : Nat) (r : Requester) (q : Fin 32768) (n : Nat),
    u = s.tickTo t ∧ u.writable r (O.Q_PROD_DOORBELL q.val) n = true ∧ (u.queue q.val).pkind = 7 ∧ u.reg (O.Q_STATE q.val) = 1 ∧ n ≤ (u.queue q.val).size - (u.queue q.val).fill := by
  refine ⟨((base.setQueue 5 { size := 64, pkind := 7, ckind := 7 }).setReg (O.Q_STATE 5) 1), (((base.setQueue 5 { size := 64, pkind := 7, ckind := 7 }).setReg (O.Q_STATE 5) 1)).tickTo (7), 7, .firmware .a, 5, 3, rfl, ?_, ?_, ?_, ?_⟩ <;> decide +kernel

theorem witness_QueueCommandsComplete_8 : ∃ (s u : State) (t : Nat) (r : Requester) (q : Fin 32768) (n : Nat),
    u = s.tickTo t ∧ u.writable r (O.Q_CONS_DOORBELL q.val) n = true ∧ (u.queue q.val).ckind = 7 ∧ n ≤ (u.queue q.val).fill :=
  ⟨((base.setQueue 5 { size := 64, pkind := 7, ckind := 7, prod := 9 }).setReg (O.Q_STATE 5) 1), (((base.setQueue 5 { size := 64, pkind := 7, ckind := 7, prod := 9 }).setReg (O.Q_STATE 5) 1)).tickTo (7), 7, .firmware .a, 5, 3, rfl, by decide +kernel, by decide +kernel, by decide +kernel⟩

theorem witness_QueueCommandsComplete_9 : ∃ (s u : State) (t : Nat) (r : Requester) (q : Fin 32768),
    u = s.tickTo t ∧ u.writable r (O.Q_FLUSH q.val) 1 = true ∧ (u.reg (O.Q_STATE q.val) = 2 ∨ u.reg (O.Q_STATE q.val) = 3) :=
  ⟨((base.setQueue 5 { size := 64 }).setReg (O.Q_STATE 5) 3), (((base.setQueue 5 { size := 64 }).setReg (O.Q_STATE 5) 3)).tickTo (7), 7, .firmware .a, 5, rfl, by decide +kernel, by decide +kernel⟩

theorem witness_QueueCommandsComplete_10 : ∃ (s u : State) (t : Nat) (q : Fin 32768) (a : Sched) (v w : State),
    u = s.tickTo t ∧ u.sched .deadline q.val = some a ∧ u.due .deadline q.val a = true ∧ (u.feeders q.val).any (fun x => u.failsBefore x (u.schedInstant a)) = false ∧ v = ((u.feeders q.val).foldl State.flushUnit u).endAction .deadline q.val 1 ∧ w = (u.feeders q.val).foldl State.representHeld v :=
  ⟨({ base with scheds := [(schedKey .deadline 5, some ⟨3, 0, 0⟩)] } : State), (({ base with scheds := [(schedKey .deadline 5, some ⟨3, 0, 0⟩)] } : State)).tickTo (10 * Config.tickUnits), 10 * Config.tickUnits, 5, ⟨3, 0, 0⟩, _, _, rfl, by decide +kernel, by decide +kernel, by decide +kernel, rfl, rfl⟩

theorem witness_QueueCommandsComplete_11 : ∃ (s u : State) (t : Nat) (q : Fin 32768) (waits : List (Nat × Nat)),
    u = s.tickTo t ∧ (u.queue q.val).dlWait = some waits ∧ u.deadlineMet q.val waits = true :=
  ⟨(base.setQueue 5 { dlWait := some [] }), ((base.setQueue 5 { dlWait := some [] })).tickTo (7), 7, 5, [], rfl, by decide +kernel, by decide +kernel⟩

theorem witness_FailCaptureCommandsComplete_1 : ∃ (s u : State) (t : Nat) (r : Requester) (crc : Nat) (img : List Byte),
    u = s.tickTo t ∧ u.commitReady r O.SITES crc img = true ∧ img.length = 4096 :=
  ⟨(base.setXfer O.SITES (some ⟨.firmware .a, 0, fill 4096 0, 0⟩)), ((base.setXfer O.SITES (some ⟨.firmware .a, 0, fill 4096 0, 0⟩))).tickTo (7), 7, .firmware .a, crc32 (fill 4096 0), fill 4096 0, rfl, State.commitReady_intro _ _ _ _ 0 (by first | rfl | decide) (by decide +kernel) (by decide +kernel) rfl, fill_length _ _⟩

theorem witness_FailCaptureCommandsComplete_2 : ∃ (s u : State) (t : Nat) (r : Requester) (crc : Nat) (img : List Byte) (tt : Nat) (w : State) (z : Nat),
    u = s.tickTo t ∧ u.commitReady r O.SITES crc img = true ∧ tt ≠ 0 ∧ img.length = 4096 ∧ u.sched .sites 0 = none ∧ (u.setXfer O.SITES none).armAction .sites 0 tt 0 = (.okay, w) ∧ u.ttValid = true ∧ tt = ttImage (ttTick z) (ttFine z) :=
  ⟨((base.setReg O.MARK_TT_VALID 1).setXfer O.SITES (some ⟨.firmware .a, 0, fill 4096 0, 0⟩)), (((base.setReg O.MARK_TT_VALID 1).setXfer O.SITES (some ⟨.firmware .a, 0, fill 4096 0, 0⟩))).tickTo (7), 7, .firmware .a, crc32 (fill 4096 0), fill 4096 0, (ttImage 100 0), _, (ttImage 100 0), rfl, State.commitReady_intro _ _ _ _ 0 (by first | rfl | decide) (by decide +kernel) (by decide +kernel) rfl, by decide +kernel, fill_length _ _, by decide +kernel, Prod.ext (by decide +kernel) rfl, by decide +kernel, rfl⟩

theorem witness_FailCaptureCommandsComplete_3 : ∃ (s u : State) (t : Nat) (a : Sched),
    u = s.tickTo t ∧ u.sched .sites 0 = some a ∧ u.due .sites 0 a = true :=
  ⟨({ base with scheds := [(schedKey .sites 0, some ⟨3, 0, 0⟩)] } : State), (({ base with scheds := [(schedKey .sites 0, some ⟨3, 0, 0⟩)] } : State)).tickTo (10 * Config.tickUnits), 10 * Config.tickUnits, ⟨3, 0, 0⟩, rfl, by decide +kernel, by decide +kernel⟩

theorem witness_FailCaptureCommandsComplete_4 : ∃ (s u : State) (t : Nat) (r : Requester),
    u = s.tickTo t ∧ u.writable r O.SITE_FAILS_CLEAR 1 = true :=
  ⟨base, (base).tickTo (7), 7, .firmware .a, rfl, by decide +kernel⟩

theorem witness_FailCaptureCommandsComplete_5 : ∃ (s u : State) (t : Nat) (r : Requester) (crc : Nat) (img : List Byte) (q : Fin 4) (tt : Nat) (z : Nat),
    u = s.tickTo t ∧ u.commitReady r (O.FC_CHAN_CFG q.val) crc img = true ∧ cfgRefused img = false ∧ (List.range 36).any (fun i => fieldLE img (2 * i) 2 != u.chanCfg (36 * q.val + i) && !u.parked (36 * q.val + i)) = false ∧ tt = 0 ∧ tt = ttImage (ttTick z) (ttFine z) :=
  ⟨(base.setXfer (O.FC_CHAN_CFG 2) (some ⟨.firmware .a, 0, fill 72 0, 0⟩)), ((base.setXfer (O.FC_CHAN_CFG 2) (some ⟨.firmware .a, 0, fill 72 0, 0⟩))).tickTo (7), 7, .firmware .a, crc32 (fill 72 0), fill 72 0, 2, 0, 0, rfl, State.commitReady_intro _ _ _ _ 0 (by first | rfl | decide) (by decide +kernel) (by decide +kernel) rfl, by decide +kernel, by decide +kernel, rfl, rfl⟩

theorem witness_FailCaptureCommandsComplete_6 : ∃ (s u : State) (t : Nat) (q : Fin 4) (g : Fin 16) (x : FailRec),
    u = s.tickTo t ∧ Tbl.get none (u.fc q.val).word g.val = some x ∧ x.openAt / Config.wordUnits + u.reg (O.FC_MERGE_WINDOW q.val) ≤ u.now / Config.wordUnits :=
  ⟨(base.setFc 1 { word := [(3, some ⟨3, 0, 0, 0, 0, 0, 1, 1, 0, 1, 0, 0, 0⟩)] }), ((base.setFc 1 { word := [(3, some ⟨3, 0, 0, 0, 0, 0, 1, 1, 0, 1, 0, 0, 0⟩)] })).tickTo (1000000 * Config.wordUnits), 1000000 * Config.wordUnits, 1, 3, ⟨3, 0, 0, 0, 0, 0, 1, 1, 0, 1, 0, 0, 0⟩, rfl, by decide +kernel, by decide +kernel⟩

theorem witness_FailCaptureCommandsComplete_7 : ∃ (s u : State) (t : Nat) (q : Fin 4) (src : Fin 52) (x : FailRec),
    u = s.tickTo t ∧ Tbl.get none (u.fc q.val).run src.val = some x ∧ x.openAt / Config.wordUnits + u.reg (O.FC_RUN_IDLE q.val) ≤ u.now / Config.wordUnits :=
  ⟨(base.setFc 1 { run := [(3, some ⟨3, 0, 0, 0, 0, 0, 1, 1, 0, 1, 0, 0, 0⟩)] }), ((base.setFc 1 { run := [(3, some ⟨3, 0, 0, 0, 0, 0, 1, 1, 0, 1, 0, 0, 0⟩)] })).tickTo (10000000000 * Config.wordUnits), 10000000000 * Config.wordUnits, 1, 3, ⟨3, 0, 0, 0, 0, 0, 1, 1, 0, 1, 0, 0, 0⟩, rfl, by decide +kernel, by decide +kernel⟩

theorem witness_FailCaptureCommandsComplete_8 : ∃ (s u : State) (t : Nat) (r : Requester) (q : Fin 4),
    u = s.tickTo t ∧ u.writable r (O.FC_FLUSH q.val) 1 = true :=
  ⟨base, (base).tickTo (7), 7, .firmware .a, 1, rfl, by decide +kernel⟩

theorem witness_FailCaptureCommandsComplete_9 : ∃ (s u : State) (t : Nat) (r : Requester) (q : Fin 4),
    u = s.tickTo t ∧ u.writable r (O.FC_RUN_EN q.val) 1 = true :=
  ⟨base, (base).tickTo (7), 7, .firmware .a, 1, rfl, by decide +kernel⟩

theorem witness_FailCaptureCommandsComplete_10 : ∃ (s u : State) (t : Nat) (r : Requester) (q : Fin 4),
    u = s.tickTo t ∧ u.writable r (O.FC_RUN_EN q.val) 0 = true :=
  ⟨base, (base).tickTo (7), 7, .firmware .a, 1, rfl, by decide +kernel⟩

theorem witness_FailCaptureCommandsComplete_11 : ∃ (s u : State) (t : Nat) (q : Fin 4) (n fq : Nat) (x : FailRec) (rest : List (Nat × FailRec)) (v : State),
    u = s.tickTo t ∧ (u.fc q.val).buffer = (n, x) :: rest ∧ fq = u.reg (O.FC_FAIL_QUEUE q.val) ∧ fq < 32768 ∧ u.earlierOpen q.val x = false ∧ (u.fc q.val).offerAt ≠ u.wc + 1 ∧ v = u.setFc q.val { u.fc q.val with buffer := rest, offerAt := u.wc + 1 } ∧ v.accepts fq 1 = true := by
  refine ⟨((((base.setQueue 5 { size := 64, pkind := 7, ckind := 7 }).setReg (O.Q_STATE 5) 1).setReg (O.FC_FAIL_QUEUE 1) 5).setFc 1 { buffer := [(7, ⟨3, 0, 0, 0, 0, 0, 1, 1, 0, 1, 0, 0, 0⟩)] }), (((((base.setQueue 5 { size := 64, pkind := 7, ckind := 7 }).setReg (O.Q_STATE 5) 1).setReg (O.FC_FAIL_QUEUE 1) 5).setFc 1 { buffer := [(7, ⟨3, 0, 0, 0, 0, 0, 1, 1, 0, 1, 0, 0, 0⟩)] })).tickTo (7), 7, 1, 7, _, ⟨3, 0, 0, 0, 0, 0, 1, 1, 0, 1, 0, 0, 0⟩, [], _, rfl, ?_, rfl, ?_, ?_, ?_, rfl, ?_⟩ <;> decide +kernel

theorem witness_RepairCommandsComplete_1 : ∃ (s u : State) (t : Nat) (q : Fin 4) (x y : RepUpd) (rest : List RepUpd) (home : Nat) (v w : State),
    u = s.tickTo t ∧ (u.rep q.val).front = x :: rest ∧ x.openAt + 8 * Config.wordUnits ≤ u.now ∧ home = x.home % 4 ∧ v = u.setRep q.val { u.rep q.val with front := rest } ∧ w = (if home = q.val then v else v.bump (O.RU_FORWARDED q.val) 1) ∧ y = x.decode (w.reg (O.RU_ADDR_MAP home)) ∧ (w.rep home).backlog.length < 16384 :=
  ⟨(base.setRep 1 { front := [⟨0, 9, 0, false, 1, 1, 0, 0, 0, 0, 0⟩] }), ((base.setRep 1 { front := [⟨0, 9, 0, false, 1, 1, 0, 0, 0, 0, 0⟩] })).tickTo (10 * Config.wordUnits), 10 * Config.wordUnits, 1, ⟨0, 9, 0, false, 1, 1, 0, 0, 0, 0, 0⟩, _, [], _, _, _, rfl, by decide +kernel, by decide +kernel, rfl, rfl, rfl, rfl, by decide +kernel⟩

theorem witness_RepairCommandsComplete_2 : ∃ (s u : State) (t : Nat) (q : Fin 4) (x : RepUpd) (rest : List RepUpd),
    u = s.tickTo t ∧ (u.rep q.val).backlog = x :: rest ∧ (u.rep q.val).takenAt ≠ u.wc + 1 :=
  ⟨(base.setRep 1 { backlog := [⟨0, 9, 0, false, 1, 1, 0, 0, 0, 0, 0⟩] }), ((base.setRep 1 { backlog := [⟨0, 9, 0, false, 1, 1, 0, 0, 0, 0, 0⟩] })).tickTo (7), 7, 1, ⟨0, 9, 0, false, 1, 1, 0, 0, 0, 0, 0⟩, [], rfl, by decide +kernel, by decide +kernel⟩

theorem witness_RepairCommandsComplete_3 : ∃ (s u : State) (t : Nat) (r : Requester) (crc : Nat) (img : List Byte) (q : Fin 4) (tt : Nat) (z : Nat),
    u = s.tickTo t ∧ u.commitReady r (O.RU_CONTEXTS q.val) crc img = true ∧ contextsRefused img (bits (u.reg (O.RU_ADDR_MAP q.val)) 30 28) = false ∧ tt = 0 ∧ tt = ttImage (ttTick z) (ttFine z) :=
  ⟨(base.setXfer (O.RU_CONTEXTS 1) (some ⟨.firmware .a, 0, fill 32768 0, 0⟩)), ((base.setXfer (O.RU_CONTEXTS 1) (some ⟨.firmware .a, 0, fill 32768 0, 0⟩))).tickTo (7), 7, .firmware .a, crc32 (fill 32768 0), fill 32768 0, 1, 0, 0, rfl, State.commitReady_intro _ _ _ _ 0 (by first | rfl | decide) (by decide +kernel) (by decide +kernel) rfl, contexts_zero _, rfl, rfl⟩

theorem witness_RepairCommandsComplete_4 : ∃ (s u : State) (t : Nat) (r : Requester) (q : Fin 4) (v : Nat),
    u = s.tickTo t ∧ u.writable r (O.RU_CLEAR q.val) v = true :=
  ⟨base, (base).tickTo (7), 7, .firmware .a, 1, 3, rfl, by decide +kernel⟩

theorem witness_RepairCommandsComplete_5 : ∃ (s u : State) (t : Nat) (r : Requester) (q : Fin 4) (v rq : Nat) (ix : List Nat) (gs : List (List Byte)) (w : State),
    u = s.tickTo t ∧ u.writable r (O.RU_REPORT q.val) v = true ∧ w = u.takeUpdate q.val ∧ rq = w.reg (O.RU_REPORT_QUEUE q.val) ∧ rq < 32768 ∧ ix = (if v.testBit 15 then (List.range 2048).filter fun i => (ctxDesc (w.image (O.RU_CONTEXTS q.val)) i).valid else [v % 2048]) ∧ ix.any (fun i => !(ctxDesc (w.image (O.RU_CONTEXTS q.val)) i).valid) = false ∧ ix ≠ [] ∧ gs = ix.flatMap (fun i => repReport i (ctxDesc (w.image (O.RU_CONTEXTS q.val)) i) (w.repCtx q.val i)) ∧ w.reg (O.Q_STATE rq) = 1 ∧ gs.length ≤ (w.queue rq).room := by
  refine ⟨((((base.setQueue 5 { size := 64, pkind := 7, ckind := 7 }).setReg (O.Q_STATE 5) 1).setReg (O.RU_REPORT_QUEUE 1) 5).setImage (O.RU_CONTEXTS 1) [9#8, 0x80#8]), (((((base.setQueue 5 { size := 64, pkind := 7, ckind := 7 }).setReg (O.Q_STATE 5) 1).setReg (O.RU_REPORT_QUEUE 1) 5).setImage (O.RU_CONTEXTS 1) [9#8, 0x80#8])).tickTo (7), 7, .firmware .a, 1, 0, _, _, _, _, rfl, ?_, rfl, rfl, ?_, rfl, ?_, ?_, rfl, ?_, ?_⟩ <;> decide +kernel

theorem witness_HalterCommandsComplete_1 : ∃ (s u : State) (t : Nat) (r : Requester) (crc : Nat) (img : List Byte) (v w : State),
    u = s.tickTo t ∧ u.commitReady r O.HALT_TABLE crc img = true ∧ img.length = 2512 ∧ tableRefused img (u.reg O.HALT_YARD_POS) = false ∧ v = (u.setXfer O.HALT_TABLE none).haltPump ∧ v.tableTakes img = false ∧ w = v.swapImage O.HALT_TABLE u.nextWc (splice v.haltImg 4 (slice 4 1 img)) :=
  ⟨(base.setXfer O.HALT_TABLE (some ⟨.firmware .a, 0, leBytes 4 0x48544C41 ++ fill 2508 0, 0⟩)), ((base.setXfer O.HALT_TABLE (some ⟨.firmware .a, 0, leBytes 4 0x48544C41 ++ fill 2508 0, 0⟩))).tickTo (7), 7, .firmware .a, crc32 (leBytes 4 0x48544C41 ++ fill 2508 0), leBytes 4 0x48544C41 ++ fill 2508 0, _, _, rfl, State.commitReady_intro _ _ _ _ 0 (by first | rfl | decide) (by decide +kernel) (by decide +kernel) rfl, by decide +kernel, by decide +kernel, rfl, by decide +kernel, rfl⟩

theorem witness_HalterCommandsComplete_2 : ∃ (s u : State) (t : Nat) (r : Requester) (crc : Nat) (img : List Byte) (tt : Nat) (w : State) (z : Nat),
    u = s.tickTo t ∧ u.commitReady r O.HALT_TABLE crc img = true ∧ tt ≠ 0 ∧ img.length = 2512 ∧ tableRefused img (u.reg O.HALT_YARD_POS) = false ∧ u.sched .haltTable 0 = none ∧ (u.setXfer O.HALT_TABLE none).armAction .haltTable 0 tt 0 = (.okay, w) ∧ u.ttValid = true ∧ tt = ttImage (ttTick z) (ttFine z) := by
  refine ⟨((base.setReg O.MARK_TT_VALID 1).setXfer O.HALT_TABLE (some ⟨.firmware .a, 0, leBytes 4 0x48544C41 ++ fill 2508 0, 0⟩)), (((base.setReg O.MARK_TT_VALID 1).setXfer O.HALT_TABLE (some ⟨.firmware .a, 0, leBytes 4 0x48544C41 ++ fill 2508 0, 0⟩))).tickTo (7), 7, .firmware .a, crc32 (leBytes 4 0x48544C41 ++ fill 2508 0), leBytes 4 0x48544C41 ++ fill 2508 0, (ttImage 100 0), _, (ttImage 100 0), rfl, State.commitReady_intro _ _ _ _ 0 (by first | rfl | decide) (by decide +kernel) (by decide +kernel) rfl, ?_, ?_, ?_, ?_, Prod.ext (by decide +kernel) rfl, ?_, rfl⟩ <;> decide +kernel

theorem witness_HalterCommandsComplete_3 : ∃ (s u : State) (t : Nat) (a : Sched) (img : List Byte) (v w : State),
    u = s.tickTo t ∧ u.sched .haltTable 0 = some a ∧ u.due .haltTable 0 a = true ∧ img = Tbl.get [] u.staged O.HALT_TABLE ∧ v = { u with staged := Tbl.set [] u.staged O.HALT_TABLE [] }.haltPump ∧ v.tableTakes img = false ∧ w = v.swapImage O.HALT_TABLE (u.effectAt .haltTable 0 a / Config.wordUnits) (splice v.haltImg 4 (slice 4 1 img)) :=
  ⟨({ base with scheds := [(schedKey .haltTable 0, some ⟨3, 0, 0⟩)] } : State), (({ base with scheds := [(schedKey .haltTable 0, some ⟨3, 0, 0⟩)] } : State)).tickTo (10 * Config.tickUnits), 10 * Config.tickUnits, ⟨3, 0, 0⟩, _, _, _, rfl, by decide +kernel, by decide +kernel, rfl, rfl, by decide +kernel, rfl⟩

theorem witness_HalterCommandsComplete_4 : ∃ (s u : State) (t : Nat) (r : Requester) (crc : Nat) (img : List Byte) (k : Fin 8),
    u = s.tickTo t ∧ u.commitReady r (O.SMASK_SITE_MASK k.val) crc img = true ∧ img.length = 128 :=
  ⟨(base.setXfer (O.SMASK_SITE_MASK 2) (some ⟨.firmware .a, 0, fill 128 0, 0⟩)), ((base.setXfer (O.SMASK_SITE_MASK 2) (some ⟨.firmware .a, 0, fill 128 0, 0⟩))).tickTo (7), 7, .firmware .a, crc32 (fill 128 0), fill 128 0, 2, rfl, State.commitReady_intro _ _ _ _ 0 (by first | rfl | decide) (by decide +kernel) (by decide +kernel) rfl, by decide +kernel⟩

theorem witness_HalterCommandsComplete_5 : ∃ (s u : State) (t : Nat) (r : Requester) (crc : Nat) (img : List Byte) (k : Fin 8) (tt : Nat) (w : State) (z : Nat),
    u = s.tickTo t ∧ u.commitReady r (O.SMASK_SITE_MASK k.val) crc img = true ∧ tt ≠ 0 ∧ img.length = 128 ∧ u.sched .siteMask k.val = none ∧ (u.setXfer (O.SMASK_SITE_MASK k.val) none).armAction .siteMask k.val tt 0 = (.okay, w) ∧ u.ttValid = true ∧ tt = ttImage (ttTick z) (ttFine z) := by
  refine ⟨((base.setReg O.MARK_TT_VALID 1).setXfer (O.SMASK_SITE_MASK 2) (some ⟨.firmware .a, 0, fill 128 0, 0⟩)), (((base.setReg O.MARK_TT_VALID 1).setXfer (O.SMASK_SITE_MASK 2) (some ⟨.firmware .a, 0, fill 128 0, 0⟩))).tickTo (7), 7, .firmware .a, crc32 (fill 128 0), fill 128 0, 2, (ttImage 100 0), _, (ttImage 100 0), rfl, State.commitReady_intro _ _ _ _ 0 (by first | rfl | decide) (by decide +kernel) (by decide +kernel) rfl, ?_, ?_, ?_, Prod.ext (by decide +kernel) rfl, ?_, rfl⟩ <;> decide +kernel

theorem witness_HalterCommandsComplete_6 : ∃ (s u : State) (t : Nat) (k : Fin 8) (a : Sched),
    u = s.tickTo t ∧ u.sched .siteMask k.val = some a ∧ u.due .siteMask k.val a = true :=
  ⟨({ base with scheds := [(schedKey .siteMask 2, some ⟨3, 0, 0⟩)] } : State), (({ base with scheds := [(schedKey .siteMask 2, some ⟨3, 0, 0⟩)] } : State)).tickTo (10 * Config.tickUnits), 10 * Config.tickUnits, 2, ⟨3, 0, 0⟩, rfl, by decide +kernel, by decide +kernel⟩

theorem witness_HalterCommandsComplete_7 : ∃ (s u : State) (t : Nat) (e : Fin 512) (k slot d : Nat) (virt : Bool) (rest : List (Nat × Bool × Nat × Nat)) (v w : State),
    u = s.tickTo t ∧ v = u.haltPump ∧ (Tbl.get ({} : Engine) v.engines e.val).releases = (k, virt, slot, d) :: rest ∧ d ≤ v.wc ∧ w = { v with engines := Tbl.set {} v.engines e.val { Tbl.get ({} : Engine) v.engines e.val with releases := rest } } ∧ w.holdsUnit e.val k virt slot = true :=
  ⟨({ (base.setHunit 2 0 { holding := .held 3 }) with engines := [(3, { releases := [(2, false, 0, 1)] })] } : State), (({ (base.setHunit 2 0 { holding := .held 3 }) with engines := [(3, { releases := [(2, false, 0, 1)] })] } : State)).tickTo (10 * Config.wordUnits), 10 * Config.wordUnits, 3, 2, 0, 1, false, [], _, _, rfl, rfl, by decide +kernel, by decide +kernel, rfl, by decide +kernel⟩

theorem witness_HalterCommandsComplete_8 : ∃ (s u : State) (t : Nat) (e : Fin 512) (k slot d : Nat) (virt : Bool) (rest : List (Nat × Bool × Nat × Nat)) (v w : State),
    u = s.tickTo t ∧ v = u.haltPump ∧ (Tbl.get ({} : Engine) v.engines e.val).releases = (k, virt, slot, d) :: rest ∧ d ≤ v.wc ∧ w = { v with engines := Tbl.set {} v.engines e.val { Tbl.get ({} : Engine) v.engines e.val with releases := rest } } ∧ w.holdsUnit e.val k virt slot = false :=
  ⟨({ base with engines := [(3, { releases := [(2, false, 0, 1)] })] } : State), (({ base with engines := [(3, { releases := [(2, false, 0, 1)] })] } : State)).tickTo (10 * Config.wordUnits), 10 * Config.wordUnits, 3, 2, 0, 1, false, [], _, _, rfl, rfl, by decide +kernel, by decide +kernel, rfl, by decide +kernel⟩

theorem witness_HalterCommandsComplete_9 : ∃ (s u : State) (t : Nat) (r : Requester) (k : Fin 8) (v : Nat) (us held : List Nat),
    u = s.tickTo t ∧ u.writable r (O.LINE_FORCE_RELEASE k.val) v = true ∧ (us = (if v.testBit 7 ∨ !recDivided (u.hrec k.val) then List.range 16 else [v % 16])) ∧ held = us.filter (fun x => (u.hunit k.val x).holding.engine.isSome) ∧ held.any (fun x => (u.hunit k.val x).holding.engine.any u.engineLive) = false :=
  ⟨base, (base).tickTo (7), 7, .firmware .a, 2, 128, _, _, rfl, by decide +kernel, rfl, rfl, by decide +kernel⟩

theorem witness_HalterCommandsComplete_10 : ∃ (s u : State) (t : Nat) (k : Fin 8) (x : Fin 16) (v : State),
    u = s.tickTo t ∧ v = u.haltPump :=
  ⟨base, (base).tickTo (7), 7, 2, 3, _, rfl, rfl⟩

theorem witness_HalterCommandsComplete_11 : ∃ (s u : State) (t : Nat) (k : Fin 8) (x : Fin 16) (edge first at_ : Nat) (arrived : List Nat) (value : Bool) (v w z y : State),
    u = s.tickTo t ∧ v = u.haltPump ∧ recDivided (v.hrec k.val) = true ∧ v.wcIndex % 96 = (6 * x.val + 6) % 96 ∧ edge = v.wc * Config.wordUnits ∧ arrived = (v.hunit k.val x.val).slotIn.filter (fun b => decide (b ≤ edge)) ∧ value = !arrived.isEmpty ∧ at_ = edge + 7 * Config.nsUnits ∧ first = arrived.foldl min edge ∧ w = (if value then v.haltCount k.val (min 6 ((edge - first + Config.wordUnits - 1) / Config.wordUnits)) else v) ∧ z = w.setHunit k.val x.val { v.hunit k.val x.val with slotIn := (v.hunit k.val x.val).slotIn.filter (fun b => decide (edge < b)), slotLast := value, asserts := if value then at_ / Config.wordUnits :: (v.hunit k.val x.val).asserts else (v.hunit k.val x.val).asserts } ∧ y = z.takeSample edge k.val :=
  ⟨(((base.setImage O.HALT_TABLE (splice haltTableDefault 96 [1#8])).setHunit 2 3 { slotIn := [5] })), ((((base.setImage O.HALT_TABLE (splice haltTableDefault 96 [1#8])).setHunit 2 3 { slotIn := [5] }))).tickTo (24 * Config.wordUnits), 24 * Config.wordUnits, 2, 3, _, _, _, _, _, _, _, _, _, rfl, rfl, by decide +kernel, by decide +kernel, rfl, rfl, rfl, rfl, rfl, rfl, rfl, rfl⟩

theorem witness_HalterCommandsComplete_12 : ∃ (s u : State) (t : Nat) (v : State),
    u = s.tickTo t ∧ v = u.haltPump :=
  ⟨base, (base).tickTo (7), 7, _, rfl, rfl⟩

theorem witness_HalterCommandsComplete_13 : ∃ (s u : State) (t : Nat) (r : Requester) (k : Fin 8),
    u = s.tickTo t ∧ u.writable r (O.LINE_CLEAR_FAILSAFE k.val) 1 = true ∧ u.lineAffected k.val = false ∧ u.isSet (O.LINE_FAILSAFE_ACTIVE k.val) = true :=
  ⟨(base.setReg (O.LINE_FAILSAFE_ACTIVE 2) 1), ((base.setReg (O.LINE_FAILSAFE_ACTIVE 2) 1)).tickTo (7), 7, .firmware .a, 2, rfl, by decide +kernel, by decide +kernel, by decide +kernel⟩

theorem witness_SerialCommandsComplete_1 : ∃ (s u : State) (t : Nat) (r : Requester) (ch : Fin 144) (v : Nat),
    u = s.tickTo t ∧ u.writable r (O.SER_PRBS ch.val) v = true ∧ v % 8 ≤ 4 ∧ u.serOn ch.val = true :=
  ⟨((base.setReg (O.SER_SER_EN 3) 1).setSer 3 {  }), (((base.setReg (O.SER_SER_EN 3) 1).setSer 3 {  })).tickTo (7), 7, .firmware .a, 3, 2, rfl, by decide +kernel, by decide +kernel, by decide +kernel⟩

theorem witness_SerialCommandsComplete_2 : ∃ (s u : State) (t : Nat) (r : Requester) (ch : Fin 144) (v : Nat),
    u = s.tickTo t ∧ u.writable r (O.SER_PRBS ch.val) v = true ∧ v % 8 ≤ 4 ∧ u.serOn ch.val = false :=
  ⟨base, (base).tickTo (7), 7, .firmware .a, 3, 2, rfl, by decide +kernel, by decide +kernel, by decide +kernel⟩

theorem witness_SerialCommandsComplete_3 : ∃ (s u : State) (t : Nat) (ch : Fin 144) (line : List Bool),
    u = s.tickTo t ∧ u.serOn ch.val = true ∧ u.reg (O.SER_LOOPBACK ch.val) = 0 :=
  ⟨((base.setReg (O.SER_SER_EN 3) 1).setSer 3 {  }), (((base.setReg (O.SER_SER_EN 3) 1).setSer 3 {  })).tickTo (7), 7, 3, [true], rfl, by decide +kernel, by decide +kernel⟩

theorem witness_SerialCommandsComplete_4 : ∃ (s u : State) (t : Nat) (ch : Fin 144) (line : List Bool),
    u = s.tickTo t ∧ u.serOn ch.val = true ∧ u.reg (O.SER_LOOPBACK ch.val) = 3 :=
  ⟨(((base.setReg (O.SER_SER_EN 3) 1).setSer 3 {  }).setReg (O.SER_LOOPBACK 3) 3), ((((base.setReg (O.SER_SER_EN 3) 1).setSer 3 {  }).setReg (O.SER_LOOPBACK 3) 3)).tickTo (7), 7, 3, [true], rfl, by decide +kernel, by decide +kernel⟩

theorem witness_SerialCommandsComplete_5 : ∃ (s u : State) (t : Nat) (ch : Fin 144) (line : List Bool),
    u = s.tickTo t ∧ u.serOn ch.val = true ∧ u.reg (O.SER_LOOPBACK ch.val) = 0 :=
  ⟨((base.setReg (O.SER_SER_EN 3) 1).setSer 3 {  }), (((base.setReg (O.SER_SER_EN 3) 1).setSer 3 {  })).tickTo (7), 7, 3, [true], rfl, by decide +kernel, by decide +kernel⟩

theorem witness_SerialCommandsComplete_6 : ∃ (s u : State) (t : Nat) (ch : Fin 144) (line : List Bool),
    u = s.tickTo t ∧ u.serOn ch.val = true ∧ u.reg (O.SER_LOOPBACK ch.val) = 3 :=
  ⟨(((base.setReg (O.SER_SER_EN 3) 1).setSer 3 {  }).setReg (O.SER_LOOPBACK 3) 3), ((((base.setReg (O.SER_SER_EN 3) 1).setSer 3 {  }).setReg (O.SER_LOOPBACK 3) 3)).tickTo (7), 7, 3, [true], rfl, by decide +kernel, by decide +kernel⟩

theorem witness_SerialCommandsComplete_7 : ∃ (s u : State) (t : Nat) (ch : Fin 144) (line : List Bool) (v : State) (n : Nat),
    u = s.tickTo t ∧ u.serOn ch.val = true ∧ u.reg (O.SER_LOOPBACK ch.val) = 0 ∧ v = line.foldl (fun (s : State) b => s.checkBit ch.val b) u ∧ n = ((v.ser ch.val).rxPend ++ line).length :=
  ⟨((base.setReg (O.SER_SER_EN 3) 1).setSer 3 {  }), (((base.setReg (O.SER_SER_EN 3) 1).setSer 3 {  })).tickTo (7), 7, 3, [true], _, _, rfl, by decide +kernel, by decide +kernel, rfl, rfl⟩

theorem witness_SerialCommandsComplete_8 : ∃ (s u : State) (t : Nat) (r : Requester) (ch : Fin 144),
    u = s.tickTo t ∧ u.writable r (O.SER_ERR_CLEAR ch.val) 1 = true :=
  ⟨base, (base).tickTo (7), 7, .firmware .a, 3, rfl, by decide +kernel⟩

theorem witness_SerialCommandsComplete_9 : ∃ (s u : State) (t : Nat) (r : Requester) (ch : Fin 144) (v w : State),
    u = s.tickTo t ∧ u.writable r (O.SER_SER_EN ch.val) 1 = true ∧ u.reg (O.CH_MODE ch.val) ≠ 0 ∧ u.serOn ch.val = false ∧ v = (u.setReg (O.SER_SER_EN ch.val) 1).seedPrbs ch.val ∧ w = v.setSer ch.val { v.ser ch.val with txAt := v.now, txUi := 0, rd := false, scr := 2 ^ 58 - 1, second := false, slips := 0, skip := 0, headers := [], rxPend := [], rxRd := false, dscr := 0, rxSecond := false, rxWords := [], adapted := false } :=
  ⟨(base.setReg (O.CH_MODE 3) 1), ((base.setReg (O.CH_MODE 3) 1)).tickTo (7), 7, .firmware .a, 3, _, _, rfl, by decide +kernel, by decide +kernel, by decide +kernel, rfl, rfl⟩

theorem witness_SerialCommandsComplete_10 : ∃ (s u : State) (t : Nat) (r : Requester) (ch : Fin 144) (v w : State),
    u = s.tickTo t ∧ u.writable r (O.SER_SER_EN ch.val) 0 = true ∧ u.serOn ch.val = true ∧ v = (((u.setReg (O.SER_SER_EN ch.val) 0).setReg (O.SER_CDR_LOCK ch.val) 0).setReg (O.SER_ALIGNED ch.val) 0).setReg (O.SER_PRBS_LOCK ch.val) 0 ∧ w = v.setSer ch.val { v.ser ch.val with eye := (v.ser ch.val).eye.map fun y => { y with lock := false, ending := true } } :=
  ⟨((base.setReg (O.SER_SER_EN 3) 1).setSer 3 {  }), (((base.setReg (O.SER_SER_EN 3) 1).setSer 3 {  })).tickTo (7), 7, .firmware .a, 3, _, _, rfl, by decide +kernel, by decide +kernel, rfl, rfl⟩

theorem witness_SerialCommandsComplete_11 : ∃ (s u : State) (t : Nat) (ch : Fin 144) (v : State) (deg tap g : Nat) (l : List Bool),
    u = s.tickTo t ∧ v = u.switchOut ch.val ∧ v.serDue ch.val = true ∧ v.reg (O.SER_TX_SRC ch.val) = 0 ∧ v.reg (O.SER_PRBS ch.val) % 8 ≠ 0 ∧ prbsTaps (v.reg (O.SER_PRBS ch.val) % 8) = (deg, tap) ∧ prbsBits deg tap 64 ((v.ser ch.val).gen % 2 ^ deg) = (l, g) := by
  refine ⟨((((base.setReg (O.SER_SER_EN 3) 1).setReg (O.CH_PAD_LATCHED 3) 0).setReg (O.SER_TX_SRC 3) 0).setReg (O.SER_PRBS 3) 4), (((((base.setReg (O.SER_SER_EN 3) 1).setReg (O.CH_PAD_LATCHED 3) 0).setReg (O.SER_TX_SRC 3) 0).setReg (O.SER_PRBS 3) 4)).tickTo (2 ^ 50), 2 ^ 50, 3, _, 31, 28, (prbsBits 31 28 64 (2 ^ 31 - 1)).2, (prbsBits 31 28 64 (2 ^ 31 - 1)).1, rfl, rfl, ?_, ?_, ?_, ?_, ?_⟩ <;> decide +kernel

theorem witness_SerialCommandsComplete_12 : ∃ (s u : State) (t : Nat) (ch : Fin 144) (v w : State) (b : List Byte),
    u = s.tickTo t ∧ v = u.switchOut ch.val ∧ v.serDue ch.val = true ∧ v.reg (O.SER_TX_SRC ch.val) = 0 ∧ v.reg (O.SER_PRBS ch.val) % 8 = 0 ∧ v.drawBytes 8 = (b, w) :=
  ⟨((((base.setReg (O.SER_SER_EN 3) 1).setReg (O.CH_PAD_LATCHED 3) 0).setReg (O.SER_TX_SRC 3) 0).setReg (O.SER_PRBS 3) 0), (((((base.setReg (O.SER_SER_EN 3) 1).setReg (O.CH_PAD_LATCHED 3) 0).setReg (O.SER_TX_SRC 3) 0).setReg (O.SER_PRBS 3) 0)).tickTo (2 ^ 50), 2 ^ 50, 3, _, _, _, rfl, rfl, by decide +kernel, by decide +kernel, by decide +kernel, rfl⟩

theorem witness_SerialCommandsComplete_13 : ∃ (s u : State) (t : Nat) (ch : Fin 144) (s0 : State) (l : List Bool) (w : Nat) (v : State),
    u = s.tickTo t ∧ v = u.switchOut ch.val ∧ v.serDue ch.val = true ∧ 2 ≤ v.reg (O.SER_TX_SRC ch.val) ∧ w = v.reg (O.SER_PATTERN ch.val) ∧ l = lsbBits 64 w ∧ v.reg (O.SER_LOOPBACK ch.val) = 0 ∧ s0 = v.setSer ch.val { v.ser ch.val with txLine := l, txWord := w, txUi := (v.ser ch.val).txUi + l.length } :=
  ⟨(((base.setReg (O.SER_SER_EN 3) 1).setReg (O.CH_PAD_LATCHED 3) 0).setReg (O.SER_TX_SRC 3) 2), ((((base.setReg (O.SER_SER_EN 3) 1).setReg (O.CH_PAD_LATCHED 3) 0).setReg (O.SER_TX_SRC 3) 2)).tickTo (2 ^ 50), 2 ^ 50, 3, _, _, _, _, rfl, rfl, by decide +kernel, by decide +kernel, rfl, rfl, by decide +kernel, rfl⟩

theorem witness_SerialCommandsComplete_14 : ∃ (s u : State) (t : Nat) (ch : Fin 144) (v : State) (x : LaneWord) (drv : List LaneWord),
    u = s.tickTo t ∧ v = u.switchOut ch.val ∧ v.serDue ch.val = true ∧ v.reg (O.SER_TX_SRC ch.val) = 1 ∧ (v.chan ch.val).drvOut ≠ srcNone ∧ serHead v.now (v.chan ch.val).drv = x :: drv ∧ (v.chan ch.val).expOut = srcNone := by
  refine ⟨(((((((base.setReg (O.SER_SER_EN 3) 1).setReg (O.CH_PAD_LATCHED 3) 0).setReg (O.SER_TX_SRC 3) 1).setReg (O.BANK_ACTIVE 0) 1).setImage (O.BANK_MAP 0) (repeatBytes 144 (leBytes 4 0xFFF0000))).setChan 3 { drv := [⟨5, 2, false, false, false, none, 0, 0, 0, 0, 0, 0⟩] }).setReg (O.SER_LINE_CODE 3) 3), ((((((((base.setReg (O.SER_SER_EN 3) 1).setReg (O.CH_PAD_LATCHED 3) 0).setReg (O.SER_TX_SRC 3) 1).setReg (O.BANK_ACTIVE 0) 1).setImage (O.BANK_MAP 0) (repeatBytes 144 (leBytes 4 0xFFF0000))).setChan 3 { drv := [⟨5, 2, false, false, false, none, 0, 0, 0, 0, 0, 0⟩] }).setReg (O.SER_LINE_CODE 3) 3)).tickTo (2 ^ 50), 2 ^ 50, 3, _, ⟨5, 2, false, false, false, none, 0, 0, 0, 0, 0, 0⟩, [], rfl, rfl, ?_, ?_, ?_, ?_, ?_⟩ <;> decide +kernel

theorem witness_SerialCommandsComplete_15 : ∃ (s u : State) (t : Nat) (ch : Fin 144) (v : State) (x e : LaneWord) (drv exp : List LaneWord),
    u = s.tickTo t ∧ v = u.switchOut ch.val ∧ v.serDue ch.val = true ∧ v.reg (O.SER_TX_SRC ch.val) = 1 ∧ (v.chan ch.val).drvOut ≠ srcNone ∧ serHead v.now (v.chan ch.val).drv = x :: drv ∧ (v.chan ch.val).expOut ≠ srcNone ∧ serHead v.now (v.chan ch.val).exp = e :: exp := by
  refine ⟨(((((((base.setReg (O.SER_SER_EN 3) 1).setReg (O.CH_PAD_LATCHED 3) 0).setReg (O.SER_TX_SRC 3) 1).setReg (O.BANK_ACTIVE 0) 1).setImage (O.BANK_MAP 0) (repeatBytes 144 (leBytes 4 0))).setChan 3 { drv := [⟨5, 2, false, false, false, none, 0, 0, 0, 0, 0, 0⟩], exp := [⟨5, 2, false, false, false, none, 0, 0, 0, 0, 0, 0⟩] }).setReg (O.SER_LINE_CODE 3) 3), ((((((((base.setReg (O.SER_SER_EN 3) 1).setReg (O.CH_PAD_LATCHED 3) 0).setReg (O.SER_TX_SRC 3) 1).setReg (O.BANK_ACTIVE 0) 1).setImage (O.BANK_MAP 0) (repeatBytes 144 (leBytes 4 0))).setChan 3 { drv := [⟨5, 2, false, false, false, none, 0, 0, 0, 0, 0, 0⟩], exp := [⟨5, 2, false, false, false, none, 0, 0, 0, 0, 0, 0⟩] }).setReg (O.SER_LINE_CODE 3) 3)).tickTo (2 ^ 50), 2 ^ 50, 3, _, ⟨5, 2, false, false, false, none, 0, 0, 0, 0, 0, 0⟩, ⟨5, 2, false, false, false, none, 0, 0, 0, 0, 0, 0⟩, [], [], rfl, rfl, ?_, ?_, ?_, ?_, ?_, ?_⟩ <;> decide +kernel

theorem witness_SerialCommandsComplete_16 : ∃ (s u : State) (t : Nat) (ch : Fin 144) (v : State),
    u = s.tickTo t ∧ v = u.switchOut ch.val ∧ v.serDue ch.val = true ∧ 2 ≤ v.reg (O.SER_TX_SRC ch.val) :=
  ⟨(((base.setReg (O.SER_SER_EN 3) 1).setReg (O.CH_PAD_LATCHED 3) 0).setReg (O.SER_TX_SRC 3) 2), ((((base.setReg (O.SER_SER_EN 3) 1).setReg (O.CH_PAD_LATCHED 3) 0).setReg (O.SER_TX_SRC 3) 2)).tickTo (2 ^ 50), 2 ^ 50, 3, _, rfl, rfl, by decide +kernel, by decide +kernel⟩

theorem witness_SerialCommandsComplete_17 : ∃ (s u : State) (t : Nat) (ch : Fin 144) (v : State) (x : Nat) (ctl : Bool),
    u = s.tickTo t ∧ v = u.switchOut ch.val ∧ v.serDue ch.val = true ∧ v.reg (O.SER_TX_SRC ch.val) = 1 ∧ (v.chan ch.val).drvOut = srcNone ∧ fillWord (v.reg (O.SER_LINE_CODE ch.val)) (v.reg (O.SER_PATTERN ch.val)) = (x, ctl) := by
  refine ⟨((((base.setReg (O.SER_SER_EN 3) 1).setReg (O.CH_PAD_LATCHED 3) 0).setReg (O.SER_TX_SRC 3) 1).setReg (O.SER_LINE_CODE 3) 3), (((((base.setReg (O.SER_SER_EN 3) 1).setReg (O.CH_PAD_LATCHED 3) 0).setReg (O.SER_TX_SRC 3) 1).setReg (O.SER_LINE_CODE 3) 3)).tickTo (2 ^ 50), 2 ^ 50, 3, _, 0, false, rfl, rfl, ?_, ?_, ?_, ?_⟩ <;> decide +kernel

theorem witness_SerialCommandsComplete_18 : ∃ (s u : State) (t : Nat) (ch : Fin 144) (v : State) (x : Nat) (ctl : Bool),
    u = s.tickTo t ∧ v = u.switchOut ch.val ∧ v.serDue ch.val = true ∧ v.reg (O.SER_TX_SRC ch.val) = 1 ∧ (v.chan ch.val).drvOut ≠ srcNone ∧ ((serHead v.now (v.chan ch.val).drv).isEmpty || ((v.chan ch.val).expOut != srcNone && (serHead v.now (v.chan ch.val).exp).isEmpty)) = true ∧ fillWord (v.reg (O.SER_LINE_CODE ch.val)) (v.reg (O.SER_PATTERN ch.val)) = (x, ctl) := by
  refine ⟨(((((((base.setReg (O.SER_SER_EN 3) 1).setReg (O.CH_PAD_LATCHED 3) 0).setReg (O.SER_TX_SRC 3) 1).setReg (O.BANK_ACTIVE 0) 1).setImage (O.BANK_MAP 0) (repeatBytes 144 (leBytes 4 0))).setChan 3 {  }).setReg (O.SER_LINE_CODE 3) 3), ((((((((base.setReg (O.SER_SER_EN 3) 1).setReg (O.CH_PAD_LATCHED 3) 0).setReg (O.SER_TX_SRC 3) 1).setReg (O.BANK_ACTIVE 0) 1).setImage (O.BANK_MAP 0) (repeatBytes 144 (leBytes 4 0))).setChan 3 {  }).setReg (O.SER_LINE_CODE 3) 3)).tickTo (2 ^ 50), 2 ^ 50, 3, _, 0, false, rfl, rfl, ?_, ?_, ?_, ?_, ?_⟩ <;> decide +kernel

theorem witness_SerialCommandsComplete_19 : ∃ (s u : State) (t : Nat) (r : Requester) (ch : Fin 144),
    u = s.tickTo t ∧ u.writable r (O.SER_BITSLIP ch.val) 1 = true ∧ u.reg (O.SER_ALIGN ch.val) = 0 :=
  ⟨(base.setReg (O.SER_ALIGN 3) 0), ((base.setReg (O.SER_ALIGN 3) 0)).tickTo (7), 7, .firmware .a, 3, rfl, by decide +kernel, by decide +kernel⟩

theorem witness_SerialCommandsComplete_20 : ∃ (s u : State) (t : Nat) (ch : Fin 144) (line : List Bool) (v w : State),
    u = s.tickTo t ∧ u.serOn ch.val = true ∧ u.reg (O.SER_LOOPBACK ch.val) = 0 ∧ u.reg (O.SER_PRBS ch.val) % 8 = 0 ∧ (u.ser ch.val).rxPend = [] ∧ (u.ser ch.val).skip = 0 ∧ v = u.setSer ch.val { u.ser ch.val with rxPend := line } ∧ w = v.setSer ch.val { v.ser ch.val with rxPend := [] } ∧ u.reg (O.SER_LINE_CODE ch.val) = 0 ∧ u.reg (O.SER_ALIGN ch.val) = 1 ∧ u.isSet (O.SER_ALIGNED ch.val) = false ∧ line.length = 64 ∧ lsbVal line % 2 ^ 32 = u.reg (O.SER_ALIGN_PATTERN ch.val) := by
  refine ⟨(((((base.setReg (O.SER_PRBS 3) 0).setReg (O.SER_SER_EN 3) 1).setReg (O.SER_ALIGN 3) 1).setReg (O.SER_LINE_CODE 3) 0).setReg (O.SER_ALIGN_PATTERN 3) 0), ((((((base.setReg (O.SER_PRBS 3) 0).setReg (O.SER_SER_EN 3) 1).setReg (O.SER_ALIGN 3) 1).setReg (O.SER_LINE_CODE 3) 0).setReg (O.SER_ALIGN_PATTERN 3) 0)).tickTo (7), 7, 3, List.replicate 64 false, _, _, rfl, ?_, ?_, ?_, ?_, ?_, rfl, rfl, ?_, ?_, ?_, ?_, ?_⟩ <;> decide +kernel

theorem witness_SerialCommandsComplete_21 : ∃ (s u : State) (t : Nat) (ch : Fin 144) (line : List Bool) (v w : State),
    u = s.tickTo t ∧ u.serOn ch.val = true ∧ u.reg (O.SER_LOOPBACK ch.val) = 0 ∧ u.reg (O.SER_PRBS ch.val) % 8 = 0 ∧ (u.ser ch.val).rxPend = [] ∧ (u.ser ch.val).skip = 0 ∧ v = u.setSer ch.val { u.ser ch.val with rxPend := line } ∧ w = v.setSer ch.val { v.ser ch.val with rxPend := [] } ∧ u.reg (O.SER_LINE_CODE ch.val) = 0 ∧ u.reg (O.SER_ALIGN ch.val) = 1 ∧ u.isSet (O.SER_ALIGNED ch.val) = false ∧ line.length = 64 ∧ lsbVal line % 2 ^ 32 ≠ u.reg (O.SER_ALIGN_PATTERN ch.val) := by
  refine ⟨(((((base.setReg (O.SER_PRBS 3) 0).setReg (O.SER_SER_EN 3) 1).setReg (O.SER_ALIGN 3) 1).setReg (O.SER_LINE_CODE 3) 0).setReg (O.SER_ALIGN_PATTERN 3) 1), ((((((base.setReg (O.SER_PRBS 3) 0).setReg (O.SER_SER_EN 3) 1).setReg (O.SER_ALIGN 3) 1).setReg (O.SER_LINE_CODE 3) 0).setReg (O.SER_ALIGN_PATTERN 3) 1)).tickTo (7), 7, 3, List.replicate 64 false, _, _, rfl, ?_, ?_, ?_, ?_, ?_, rfl, rfl, ?_, ?_, ?_, ?_, ?_⟩ <;> decide +kernel

theorem witness_SerialCommandsComplete_22 : ∃ (s u : State) (t : Nat) (ch : Fin 144) (line : List Bool) (v w : State) (y : State) (valid : Bool) (hdr : List Bool),
    u = s.tickTo t ∧ u.serOn ch.val = true ∧ u.reg (O.SER_LOOPBACK ch.val) = 0 ∧ u.reg (O.SER_PRBS ch.val) % 8 = 0 ∧ (u.ser ch.val).rxPend = [] ∧ (u.ser ch.val).skip = 0 ∧ v = u.setSer ch.val { u.ser ch.val with rxPend := line } ∧ w = v.setSer ch.val { v.ser ch.val with rxPend := [] } ∧ u.reg (O.SER_LINE_CODE ch.val) = 2 ∧ u.reg (O.SER_ALIGN ch.val) = 2 ∧ line.length = 66 ∧ valid = (line.getD 0 false != line.getD 1 false) ∧ y = (if valid then w.setSer ch.val { w.ser ch.val with dscr := (descramble64 (line.drop 2) (w.ser ch.val).dscr).2 } else (w.setSer ch.val { w.ser ch.val with dscr := (descramble64 (line.drop 2) (w.ser ch.val).dscr).2 }).bump (O.SER_CODE_ERRORS ch.val) 1) ∧ hdr = (valid :: (y.ser ch.val).headers).take 64 := by
  refine ⟨((((base.setReg (O.SER_PRBS 3) 0).setReg (O.SER_SER_EN 3) 1).setReg (O.SER_ALIGN 3) 2).setReg (O.SER_LINE_CODE 3) 2), (((((base.setReg (O.SER_PRBS 3) 0).setReg (O.SER_SER_EN 3) 1).setReg (O.SER_ALIGN 3) 2).setReg (O.SER_LINE_CODE 3) 2)).tickTo (7), 7, 3, (true :: List.replicate 65 false), _, _, _, true, [true], rfl, ?_, ?_, ?_, ?_, ?_, rfl, rfl, ?_, ?_, ?_, rfl, rfl, rfl⟩ <;> decide +kernel

theorem witness_SerialCommandsComplete_23 : ∃ (s u : State) (t : Nat) (ch : Fin 144),
    u = s.tickTo t ∧ u.serOn ch.val = true ∧ u.isSet (O.SER_CDR_LOCK ch.val) = false :=
  ⟨((base.setReg (O.SER_SER_EN 3) 1).setSer 3 {  }), (((base.setReg (O.SER_SER_EN 3) 1).setSer 3 {  })).tickTo (7), 7, 3, rfl, by decide +kernel, by decide +kernel⟩

theorem witness_SerialCommandsComplete_24 : ∃ (s u : State) (t : Nat) (ch : Fin 144) (v : State),
    u = s.tickTo t ∧ u.isSet (O.SER_CDR_LOCK ch.val) = true ∧ v = ((u.setReg (O.SER_CDR_LOCK ch.val) 0).setFlag (O.SER_LOCK_LOSS ch.val) 0 (O.SER_LOCK_LOSS_COUNT ch.val) 1).setReg (O.SER_ALIGNED ch.val) 0 :=
  ⟨(base.setReg (O.SER_CDR_LOCK 3) 1), ((base.setReg (O.SER_CDR_LOCK 3) 1)).tickTo (7), 7, 3, _, rfl, by decide +kernel, rfl⟩

theorem witness_SerialCommandsComplete_25 : ∃ (s u : State) (t : Nat) (ch : Fin 144) (v : Nat),
    u = s.tickTo t ∧ u.serOn ch.val = true ∧ u.isSet (O.SER_CDR_LOCK ch.val) = true ∧ u.reg (O.SER_RX_ADAPT ch.val) ≠ 0 ∧ (u.reg (O.SER_RX_ADAPT ch.val) ≠ 1 ∨ (u.ser ch.val).adapted = false) := by
  refine ⟨((((base.setReg (O.SER_SER_EN 3) 1).setSer 3 {  }).setReg (O.SER_CDR_LOCK 3) 1).setReg (O.SER_RX_ADAPT 3) 1), (((((base.setReg (O.SER_SER_EN 3) 1).setSer 3 {  }).setReg (O.SER_CDR_LOCK 3) 1).setReg (O.SER_RX_ADAPT 3) 1)).tickTo (7), 7, 3, 5, rfl, ?_, ?_, ?_, ?_⟩ <;> decide +kernel

theorem witness_SerialCommandsComplete_26 : ∃ (s u : State) (t : Nat) (r : Requester) (ch : Fin 144) (v : State),
    u = s.tickTo t ∧ u.writable r (O.SER_EYE_START ch.val) 1 = true ∧ u.reg (O.SER_EYE_STATE ch.val) = 0 ∧ u.serOn ch.val = true ∧ u.isSet (O.SER_CDR_LOCK ch.val) = true ∧ v = u.setImage (O.SER_EYE_RESULTS ch.val) [] := by
  refine ⟨(((base.setReg (O.SER_SER_EN 3) 1).setSer 3 {  }).setReg (O.SER_CDR_LOCK 3) 1), ((((base.setReg (O.SER_SER_EN 3) 1).setSer 3 {  }).setReg (O.SER_CDR_LOCK 3) 1)).tickTo (7), 7, .firmware .a, 3, _, rfl, ?_, ?_, ?_, ?_, rfl⟩ <;> decide +kernel

theorem witness_SerialCommandsComplete_27 : ∃ (s u : State) (t : Nat) (ch : Fin 144) (errors n dwell : Nat) (y : EyeRun) (v : State),
    u = s.tickTo t ∧ (u.ser ch.val).eye = some y ∧ dwell = u.reg (O.SER_EYE_DWELL ch.val) ∧ y.start + uiUnits (u.reg (O.SER_RATE ch.val)) (dwell + 64) ≤ u.now ∧ n = min errors dwell ∧ v = (u.setImage (O.SER_EYE_RESULTS ch.val) (u.image (O.SER_EYE_RESULTS ch.val) ++ leBytes 4 n ++ leBytes 4 (b2n y.lock))).deliverResult ch.val ⟨min n 131071, min (dwell - n) 131071, y.lock⟩ :=
  ⟨((base.setReg (O.SER_SER_EN 3) 1).setSer 3 { eye := some ⟨0, 0, true, false⟩ }), (((base.setReg (O.SER_SER_EN 3) 1).setSer 3 { eye := some ⟨0, 0, true, false⟩ })).tickTo (2 ^ 60), 2 ^ 60, 3, 5, _, _, ⟨0, 0, true, false⟩, _, rfl, by decide +kernel, rfl, by decide +kernel, rfl, rfl⟩

theorem witness_ManagementPortCommandsComplete_1 : ∃ (s u : State) (t : Nat) (c : Ctl) (frame : List Byte),
    u = s.tickTo t ∧ u.mgtLive c.num = false :=
  ⟨(base.setReg (O.MGT_LINK_UP 1) 0), ((base.setReg (O.MGT_LINK_UP 1) 0)).tickTo (7), 7, .b, [], rfl, by decide +kernel⟩

theorem witness_ManagementPortCommandsComplete_2 : ∃ (s u : State) (t : Nat) (c : Ctl) (frame : List Byte),
    u = s.tickTo t ∧ u.mgtLive c.num = true ∧ u.ethParse c.num frame = none :=
  ⟨(base.setReg (O.MGT_IPV4_ADDR 1) 0x0A000001), ((base.setReg (O.MGT_IPV4_ADDR 1) 0x0A000001)).tickTo (7), 7, .b, [], rfl, by decide +kernel, by decide +kernel⟩

theorem witness_ManagementPortCommandsComplete_3 : ∃ (s u : State) (t : Nat) (c : Ctl) (frame : List Byte) (f : EthFrame),
    u = s.tickTo t ∧ u.mgtLive c.num = true ∧ u.ethParse c.num frame = some f ∧ f.dst ≠ u.mgtMac c.num ∧ (byteAt f.dst 0).testBit 0 = false :=
  ⟨((base.setReg (O.MGT_IPV4_ADDR 1) 0x0A000001).setReg (O.MGT_MAC_ADDR 1) 6), (((base.setReg (O.MGT_IPV4_ADDR 1) 0x0A000001).setReg (O.MGT_MAC_ADDR 1) 6)).tickTo (7), 7, .b, ethFor 0x0806 arpFor, ⟨fill 6 0, beBytes 6 0x020000000007, fieldBE (ethFor 0x0806 arpFor) 12 2, ((ethFor 0x0806 arpFor).drop 14).take ((ethFor 0x0806 arpFor).length - 18)⟩, rfl, by decide +kernel, rfl, by decide +kernel, by decide +kernel⟩

theorem witness_ManagementPortCommandsComplete_4 : ∃ (s u : State) (t : Nat) (c : Ctl) (frame : List Byte) (f : EthFrame) (body : List Byte),
    u = s.tickTo t ∧ u.mgtLive c.num = true ∧ u.ethParse c.num frame = some f ∧ (f.dst = u.mgtMac c.num ∨ (byteAt f.dst 0).testBit 0 = true) ∧ f.kind = 0x0806 ∧ u.arpReply c.num f = some body :=
  ⟨(base.setReg (O.MGT_IPV4_ADDR 1) 0x0A000001), ((base.setReg (O.MGT_IPV4_ADDR 1) 0x0A000001)).tickTo (7), 7, .b, ethFor 0x0806 arpFor, ⟨fill 6 0, beBytes 6 0x020000000007, fieldBE (ethFor 0x0806 arpFor) 12 2, ((ethFor 0x0806 arpFor).drop 14).take ((ethFor 0x0806 arpFor).length - 18)⟩, _, rfl, by decide +kernel, rfl, by decide +kernel, by decide +kernel, rfl⟩

theorem witness_ManagementPortCommandsComplete_5 : ∃ (s u : State) (t : Nat) (c : Ctl) (frame : List Byte) (f : EthFrame),
    u = s.tickTo t ∧ u.mgtLive c.num = true ∧ u.ethParse c.num frame = some f ∧ (f.dst = u.mgtMac c.num ∨ (byteAt f.dst 0).testBit 0 = true) ∧ f.kind = 0x0806 ∧ u.arpReply c.num f = none :=
  ⟨(base.setReg (O.MGT_IPV4_ADDR 1) 0x0A000001), ((base.setReg (O.MGT_IPV4_ADDR 1) 0x0A000001)).tickTo (7), 7, .b, ethFor 0x0806 echoFor, ⟨fill 6 0, beBytes 6 0x020000000007, fieldBE (ethFor 0x0806 echoFor) 12 2, ((ethFor 0x0806 echoFor).drop 14).take ((ethFor 0x0806 echoFor).length - 18)⟩, rfl, by decide +kernel, rfl, by decide +kernel, by decide +kernel, rfl⟩

theorem witness_ManagementPortCommandsComplete_6 : ∃ (s u : State) (t : Nat) (c : Ctl) (frame : List Byte) (f : EthFrame) (body : List Byte),
    u = s.tickTo t ∧ u.mgtLive c.num = true ∧ u.ethParse c.num frame = some f ∧ (f.dst = u.mgtMac c.num ∨ (byteAt f.dst 0).testBit 0 = true) ∧ f.kind = 0x0800 ∧ u.ip4 c.num f = some (.inl body) :=
  ⟨(base.setReg (O.MGT_IPV4_ADDR 1) 0x0A000001), ((base.setReg (O.MGT_IPV4_ADDR 1) 0x0A000001)).tickTo (7), 7, .b, ethFor 0x0800 (ipFor 1 echoFor), ⟨fill 6 0, beBytes 6 0x020000000007, fieldBE (ethFor 0x0800 (ipFor 1 echoFor)) 12 2, ((ethFor 0x0800 (ipFor 1 echoFor)).drop 14).take ((ethFor 0x0800 (ipFor 1 echoFor)).length - 18)⟩, _, rfl, by decide +kernel, rfl, by decide +kernel, by decide +kernel, rfl⟩

theorem witness_ManagementPortCommandsComplete_7 : ∃ (s u : State) (t : Nat) (c : Ctl) (frame : List Byte) (f : EthFrame) (p : Peer) (d : List Byte),
    u = s.tickTo t ∧ u.mgtLive c.num = true ∧ u.ethParse c.num frame = some f ∧ (f.dst = u.mgtMac c.num ∨ (byteAt f.dst 0).testBit 0 = true) ∧ f.kind = 0x0800 ∧ u.ip4 c.num f = some (.inr (p, d)) ∧ isPtpPort p.dport = true := by
  refine ⟨(base.setReg (O.MGT_IPV4_ADDR 1) 0x0A000001), ((base.setReg (O.MGT_IPV4_ADDR 1) 0x0A000001)).tickTo (7), 7, .b, ethFor 0x0800 (ipFor 17 (udp4For (319))), ⟨fill 6 0, beBytes 6 0x020000000007, fieldBE (ethFor 0x0800 (ipFor 17 (udp4For (319)))) 12 2, ((ethFor 0x0800 (ipFor 17 (udp4For (319)))).drop 14).take ((ethFor 0x0800 (ipFor 17 (udp4For (319)))).length - 18)⟩, _, _, rfl, ?_, rfl, ?_, ?_, rfl, ?_⟩ <;> decide +kernel

theorem witness_ManagementPortCommandsComplete_8 : ∃ (s u : State) (t : Nat) (c : Ctl) (frame : List Byte) (f : EthFrame) (p : Peer) (d : List Byte),
    u = s.tickTo t ∧ u.mgtLive c.num = true ∧ u.ethParse c.num frame = some f ∧ (f.dst = u.mgtMac c.num ∨ (byteAt f.dst 0).testBit 0 = true) ∧ f.kind = 0x0800 ∧ u.ip4 c.num f = some (.inr (p, d)) ∧ isPtpPort p.dport = false ∧ u.kiskoUp c p = true := by
  refine ⟨(base.setReg (O.MGT_IPV4_ADDR 1) 0x0A000001), ((base.setReg (O.MGT_IPV4_ADDR 1) 0x0A000001)).tickTo (7), 7, .b, ethFor 0x0800 (ipFor 17 (udp4For (base.reg O.KISKO_KISKO_PORT))), ⟨fill 6 0, beBytes 6 0x020000000007, fieldBE (ethFor 0x0800 (ipFor 17 (udp4For (base.reg O.KISKO_KISKO_PORT)))) 12 2, ((ethFor 0x0800 (ipFor 17 (udp4For (base.reg O.KISKO_KISKO_PORT)))).drop 14).take ((ethFor 0x0800 (ipFor 17 (udp4For (base.reg O.KISKO_KISKO_PORT)))).length - 18)⟩, _, _, rfl, ?_, rfl, ?_, ?_, rfl, ?_, ?_⟩ <;> decide +kernel

theorem witness_ManagementPortCommandsComplete_9 : ∃ (s u : State) (t : Nat) (c : Ctl) (frame : List Byte) (f : EthFrame) (p : Peer) (d : List Byte),
    u = s.tickTo t ∧ u.mgtLive c.num = true ∧ u.ethParse c.num frame = some f ∧ (f.dst = u.mgtMac c.num ∨ (byteAt f.dst 0).testBit 0 = true) ∧ f.kind = 0x0800 ∧ u.ip4 c.num f = some (.inr (p, d)) ∧ isPtpPort p.dport = false ∧ u.kiskoUp c p = false := by
  refine ⟨(base.setReg (O.MGT_IPV4_ADDR 1) 0x0A000001), ((base.setReg (O.MGT_IPV4_ADDR 1) 0x0A000001)).tickTo (7), 7, .b, ethFor 0x0800 (ipFor 17 (udp4For (321))), ⟨fill 6 0, beBytes 6 0x020000000007, fieldBE (ethFor 0x0800 (ipFor 17 (udp4For (321)))) 12 2, ((ethFor 0x0800 (ipFor 17 (udp4For (321)))).drop 14).take ((ethFor 0x0800 (ipFor 17 (udp4For (321)))).length - 18)⟩, _, _, rfl, ?_, rfl, ?_, ?_, rfl, ?_, ?_⟩ <;> decide +kernel

theorem witness_ManagementPortCommandsComplete_10 : ∃ (s u : State) (t : Nat) (c : Ctl) (frame : List Byte) (f : EthFrame),
    u = s.tickTo t ∧ u.mgtLive c.num = true ∧ u.ethParse c.num frame = some f ∧ (f.dst = u.mgtMac c.num ∨ (byteAt f.dst 0).testBit 0 = true) ∧ f.kind = 0x0800 ∧ u.ip4 c.num f = none :=
  ⟨(base.setReg (O.MGT_IPV4_ADDR 1) 0x0A000001), ((base.setReg (O.MGT_IPV4_ADDR 1) 0x0A000001)).tickTo (7), 7, .b, ethFor 0x0800 (ipFor 6 (fill 8 0)), ⟨fill 6 0, beBytes 6 0x020000000007, fieldBE (ethFor 0x0800 (ipFor 6 (fill 8 0))) 12 2, ((ethFor 0x0800 (ipFor 6 (fill 8 0))).drop 14).take ((ethFor 0x0800 (ipFor 6 (fill 8 0))).length - 18)⟩, rfl, by decide +kernel, rfl, by decide +kernel, by decide +kernel, rfl⟩

theorem witness_ManagementPortCommandsComplete_11 : ∃ (s u : State) (t : Nat) (c : Ctl) (frame : List Byte) (f : EthFrame) (body : List Byte),
    u = s.tickTo t ∧ u.mgtLive c.num = true ∧ u.ethParse c.num frame = some f ∧ (f.dst = u.mgtMac c.num ∨ (byteAt f.dst 0).testBit 0 = true) ∧ f.kind = 0x86DD ∧ u.ip6 c.num f = some (.inl body) :=
  ⟨(base.setReg (O.MGT_IPV4_ADDR 1) 0x0A000001), ((base.setReg (O.MGT_IPV4_ADDR 1) 0x0A000001)).tickTo (7), 7, .b, ethFor 0x86DD echo6, ⟨fill 6 0, beBytes 6 0x020000000007, fieldBE (ethFor 0x86DD echo6) 12 2, ((ethFor 0x86DD echo6).drop 14).take ((ethFor 0x86DD echo6).length - 18)⟩, _, rfl, by decide +kernel, rfl, by decide +kernel, by decide +kernel, rfl⟩

theorem witness_ManagementPortCommandsComplete_12 : ∃ (s u : State) (t : Nat) (c : Ctl) (frame : List Byte) (f : EthFrame) (p : Peer) (d : List Byte),
    u = s.tickTo t ∧ u.mgtLive c.num = true ∧ u.ethParse c.num frame = some f ∧ (f.dst = u.mgtMac c.num ∨ (byteAt f.dst 0).testBit 0 = true) ∧ f.kind = 0x86DD ∧ u.ip6 c.num f = some (.inr (p, d)) ∧ isPtpPort p.dport = true := by
  refine ⟨(base.setReg (O.MGT_IPV4_ADDR 1) 0x0A000001), ((base.setReg (O.MGT_IPV4_ADDR 1) 0x0A000001)).tickTo (7), 7, .b, ethFor 0x86DD (udp6For (319)), ⟨fill 6 0, beBytes 6 0x020000000007, fieldBE (ethFor 0x86DD (udp6For (319))) 12 2, ((ethFor 0x86DD (udp6For (319))).drop 14).take ((ethFor 0x86DD (udp6For (319))).length - 18)⟩, _, _, rfl, ?_, rfl, ?_, ?_, rfl, ?_⟩ <;> decide +kernel

theorem witness_ManagementPortCommandsComplete_13 : ∃ (s u : State) (t : Nat) (c : Ctl) (frame : List Byte) (f : EthFrame) (p : Peer) (d : List Byte),
    u = s.tickTo t ∧ u.mgtLive c.num = true ∧ u.ethParse c.num frame = some f ∧ (f.dst = u.mgtMac c.num ∨ (byteAt f.dst 0).testBit 0 = true) ∧ f.kind = 0x86DD ∧ u.ip6 c.num f = some (.inr (p, d)) ∧ isPtpPort p.dport = false ∧ u.kiskoUp c p = true := by
  refine ⟨(base.setReg (O.MGT_IPV4_ADDR 1) 0x0A000001), ((base.setReg (O.MGT_IPV4_ADDR 1) 0x0A000001)).tickTo (7), 7, .b, ethFor 0x86DD (udp6For (base.reg O.KISKO_KISKO_PORT)), ⟨fill 6 0, beBytes 6 0x020000000007, fieldBE (ethFor 0x86DD (udp6For (base.reg O.KISKO_KISKO_PORT))) 12 2, ((ethFor 0x86DD (udp6For (base.reg O.KISKO_KISKO_PORT))).drop 14).take ((ethFor 0x86DD (udp6For (base.reg O.KISKO_KISKO_PORT))).length - 18)⟩, _, _, rfl, ?_, rfl, ?_, ?_, rfl, ?_, ?_⟩ <;> decide +kernel

theorem witness_ManagementPortCommandsComplete_14 : ∃ (s u : State) (t : Nat) (c : Ctl) (frame : List Byte) (f : EthFrame) (p : Peer) (d : List Byte),
    u = s.tickTo t ∧ u.mgtLive c.num = true ∧ u.ethParse c.num frame = some f ∧ (f.dst = u.mgtMac c.num ∨ (byteAt f.dst 0).testBit 0 = true) ∧ f.kind = 0x86DD ∧ u.ip6 c.num f = some (.inr (p, d)) ∧ isPtpPort p.dport = false ∧ u.kiskoUp c p = false := by
  refine ⟨(base.setReg (O.MGT_IPV4_ADDR 1) 0x0A000001), ((base.setReg (O.MGT_IPV4_ADDR 1) 0x0A000001)).tickTo (7), 7, .b, ethFor 0x86DD (udp6For (321)), ⟨fill 6 0, beBytes 6 0x020000000007, fieldBE (ethFor 0x86DD (udp6For (321))) 12 2, ((ethFor 0x86DD (udp6For (321))).drop 14).take ((ethFor 0x86DD (udp6For (321))).length - 18)⟩, _, _, rfl, ?_, rfl, ?_, ?_, rfl, ?_, ?_⟩ <;> decide +kernel

theorem witness_ManagementPortCommandsComplete_15 : ∃ (s u : State) (t : Nat) (c : Ctl) (frame : List Byte) (f : EthFrame),
    u = s.tickTo t ∧ u.mgtLive c.num = true ∧ u.ethParse c.num frame = some f ∧ (f.dst = u.mgtMac c.num ∨ (byteAt f.dst 0).testBit 0 = true) ∧ f.kind = 0x86DD ∧ u.ip6 c.num f = none :=
  ⟨(base.setReg (O.MGT_IPV4_ADDR 1) 0x0A000001), ((base.setReg (O.MGT_IPV4_ADDR 1) 0x0A000001)).tickTo (7), 7, .b, ethFor 0x86DD (fill 60 0), ⟨fill 6 0, beBytes 6 0x020000000007, fieldBE (ethFor 0x86DD (fill 60 0)) 12 2, ((ethFor 0x86DD (fill 60 0)).drop 14).take ((ethFor 0x86DD (fill 60 0)).length - 18)⟩, rfl, by decide +kernel, rfl, by decide +kernel, by decide +kernel, rfl⟩

theorem witness_ManagementPortCommandsComplete_16 : ∃ (s u : State) (t : Nat) (c : Ctl) (frame : List Byte) (f : EthFrame),
    u = s.tickTo t ∧ u.mgtLive c.num = true ∧ u.ethParse c.num frame = some f ∧ (f.dst = u.mgtMac c.num ∨ (byteAt f.dst 0).testBit 0 = true) ∧ f.kind ≠ 0x0806 ∧ f.kind ≠ 0x0800 ∧ f.kind ≠ 0x86DD := by
  refine ⟨(base.setReg (O.MGT_IPV4_ADDR 1) 0x0A000001), ((base.setReg (O.MGT_IPV4_ADDR 1) 0x0A000001)).tickTo (7), 7, .b, ethFor 7 [], ⟨fill 6 0, beBytes 6 0x020000000007, fieldBE (ethFor 7 []) 12 2, ((ethFor 7 []).drop 14).take ((ethFor 7 []).length - 18)⟩, rfl, ?_, rfl, ?_, ?_, ?_, ?_⟩ <;> decide +kernel

theorem witness_ManagementPortCommandsComplete_17 : ∃ (s u : State) (t : Nat) (c : Ctl) (frame : List Byte) (f : EthFrame),
    u = s.tickTo t ∧ u.ethParse c.num frame = some f ∧ u.isSet (O.MGT_WAKE_EN c.num) = true ∧ u.reg (O.SHED_STATE (93 + c.num)) ≠ 3 ∧ (f.dst = u.mgtMac c.num ∨ f.dst = fill 6 0xFF) ∧ hasBytes ([0x45#8, 0x56#8, 0x53#8, 0x57#8] ++ leBytes 8 (u.reg O.ID_SERIAL)) (f.body.take 256) = true := by
  refine ⟨(((base.setReg (O.MGT_IPV4_ADDR 1) 0x0A000001).setReg (O.MGT_WAKE_EN 1) 1).setReg (O.SHED_STATE 94) 0), ((((base.setReg (O.MGT_IPV4_ADDR 1) 0x0A000001).setReg (O.MGT_WAKE_EN 1) 1).setReg (O.SHED_STATE 94) 0)).tickTo (7), 7, .b, ethFor 0x0842 ([0x45#8, 0x56#8, 0x53#8, 0x57#8] ++ fill 8 0), ⟨fill 6 0, beBytes 6 0x020000000007, 0x0842, [0x45#8, 0x56#8, 0x53#8, 0x57#8] ++ fill 8 0⟩, rfl, rfl, ?_, ?_, ?_, ?_⟩ <;> decide +kernel

theorem witness_ManagementPortCommandsComplete_19 : ∃ (s u : State) (t : Nat) (r : Requester) (c : Ctl) (v : Nat),
    u = s.tickTo t ∧ u.writable r (O.MGT_PHY_MODE c.num) v = true :=
  ⟨base, (base).tickTo (7), 7, .firmware .a, .b, 1, rfl, by decide +kernel⟩

theorem witness_YardLinkCommandsComplete_1 : ∃ (s u : State) (t : Nat) (r : Requester) (p : Fin 4),
    u = s.tickTo t ∧ u.writable r (O.YARD_ENABLE p.val) 1 = true ∧ u.yardSafe p.val = true :=
  ⟨(base.setReg (O.YARD_STATE 1) 0), ((base.setReg (O.YARD_STATE 1) 0)).tickTo (7), 7, .firmware .a, 1, rfl, by decide +kernel, by decide +kernel⟩

theorem witness_YardLinkCommandsComplete_2 : ∃ (s u : State) (t : Nat) (r : Requester) (p : Fin 4),
    u = s.tickTo t ∧ u.writable r (O.YARD_ENABLE p.val) 1 = true ∧ u.yardSafe p.val = false :=
  ⟨(base.setReg (O.YARD_STATE 1) 7), ((base.setReg (O.YARD_STATE 1) 7)).tickTo (7), 7, .firmware .a, 1, rfl, by decide +kernel, by decide +kernel⟩

theorem witness_YardLinkCommandsComplete_3 : ∃ (s u : State) (t : Nat) (r : Requester) (p : Fin 4),
    u = s.tickTo t ∧ u.writable r (O.YARD_ENABLE p.val) 0 = true ∧ u.reg (O.YARD_STATE p.val) = 8 :=
  ⟨(base.setReg (O.YARD_STATE 1) 8), ((base.setReg (O.YARD_STATE 1) 8)).tickTo (7), 7, .firmware .a, 1, rfl, by decide +kernel, by decide +kernel⟩

theorem witness_YardLinkCommandsComplete_4 : ∃ (s u : State) (t : Nat) (r : Requester) (p : Fin 4),
    u = s.tickTo t ∧ u.writable r (O.YARD_ENABLE p.val) 0 = true ∧ u.reg (O.YARD_STATE p.val) ≠ 8 :=
  ⟨(base.setReg (O.YARD_STATE 1) 7), ((base.setReg (O.YARD_STATE 1) 7)).tickTo (7), 7, .firmware .a, 1, rfl, by decide +kernel, by decide +kernel⟩

theorem witness_YardLinkCommandsComplete_5 : ∃ (s u : State) (t : Nat) (p : Fin 4) (lane : Bool) (frame : List Byte) (adapted : Bool) (w : State),
    u = s.tickTo t ∧ 1 ≤ u.reg (O.YARD_STATE p.val) ∧ u.reg (O.YARD_STATE p.val) ≤ 6 ∧ frame.length = 42 ∧ w = u.trainFrame p.val lane (scrambleTrain (bytesBits frame)) :=
  ⟨(base.setReg (O.YARD_STATE 1) 1), ((base.setReg (O.YARD_STATE 1) 1)).tickTo (7), 7, 1, false, fill 42 0, true, _, rfl, by decide +kernel, by decide +kernel, by decide +kernel, rfl⟩

theorem witness_YardLinkCommandsComplete_6 : ∃ (s u : State) (t : Nat) (p : Fin 4),
    u = s.tickTo t ∧ u.reg (O.YARD_STATE p.val) = 1 ∧ (u.yard p.val).train.stepped = true ∧ (u.yard p.val).train.stepAt + 5 * Config.msUnits ≤ u.now :=
  ⟨((base.setReg (O.YARD_STATE 1) 1).setYard 1 { train := { stepped := true } }), (((base.setReg (O.YARD_STATE 1) 1).setYard 1 { train := { stepped := true } })).tickTo (2 ^ 60), 2 ^ 60, 1, rfl, by decide +kernel, by decide +kernel, by decide +kernel⟩

theorem witness_YardLinkCommandsComplete_7 : ∃ (s u : State) (t : Nat) (p : Fin 4),
    u = s.tickTo t ∧ 1 ≤ u.reg (O.YARD_STATE p.val) ∧ u.reg (O.YARD_STATE p.val) ≤ 6 ∧ ¬ (u.reg (O.YARD_STATE p.val) = 1 ∧ (u.yard p.val).train.stepped = true) ∧ (u.yard p.val).train.stepAt + trainLimit (u.reg (O.YARD_STATE p.val)) (u.yard p.val).train.stepped ≤ u.now := by
  refine ⟨(base.setReg (O.YARD_STATE 1) 3), ((base.setReg (O.YARD_STATE 1) 3)).tickTo (2 ^ 60), 2 ^ 60, 1, rfl, ?_, ?_, ?_, ?_⟩ <;> decide +kernel

theorem witness_YardLinkCommandsComplete_8 : ∃ (s u : State) (t : Nat) (p : Fin 4) (v w : State),
    u = s.tickTo t ∧ u.reg (O.YARD_STATE p.val) = 6 ∧ 16 ≤ (u.yard p.val).train.sent ∧ 16 ≤ (u.yard p.val).train.heard0 ∧ 16 ≤ (u.yard p.val).train.heard1 ∧ v = u.setYard p.val { train := (u.yard p.val).train, ackAt := u.now, txSlot := u.reg (O.YARD_KEY_ACTIVE p.val), vcs := (u.yard p.val).vcs, codeErrors := (u.yard p.val).codeErrors, haltSent := u.wc + yardDelay } ∧ w = (v.forgetCauses.setReg (O.YARD_STATE p.val) 7).setReg (O.YARD_TRAIN_TIME p.val) ((u.now - (u.yard p.val).train.trainAt) / Config.usUnits) := by
  refine ⟨((base.setReg (O.YARD_STATE 1) 6).setYard 1 { train := { sent := 16, heard0 := 16, heard1 := 16 } }), (((base.setReg (O.YARD_STATE 1) 6).setYard 1 { train := { sent := 16, heard0 := 16, heard1 := 16 } })).tickTo (2 ^ 40), 2 ^ 40, 1, _, _, rfl, ?_, ?_, ?_, ?_, rfl, rfl⟩ <;> decide +kernel

theorem witness_YardLinkCommandsComplete_9 : ∃ (s u : State) (t : Nat) (p : Fin 4) (ack : Nat),
    u = s.tickTo t ∧ (u.yard p.val).nakGot = some ack :=
  ⟨((base.setReg (O.YARD_STATE 1) 7).setYard 1 { nakGot := some 3 }), (((base.setReg (O.YARD_STATE 1) 7).setYard 1 { nakGot := some 3 })).tickTo (7), 7, 1, 3, rfl, by decide +kernel⟩

theorem witness_YardLinkCommandsComplete_10 : ∃ (s u : State) (t : Nat) (p : Fin 4),
    u = s.tickTo t ∧ u.yardUp p.val = true ∧ (u.yard p.val).replay ≠ [] ∧ (u.yard p.val).ackAt + Config.usUnits ≤ u.now ∧ 7 ≤ (u.yard p.val).replayRuns := by
  refine ⟨((base.setReg (O.YARD_STATE 1) 7).setYard 1 { replay := [⟨0, 1, 0, false, 0⟩], replayRuns := 7 }), (((base.setReg (O.YARD_STATE 1) 7).setYard 1 { replay := [⟨0, 1, 0, false, 0⟩], replayRuns := 7 })).tickTo (2 ^ 40), 2 ^ 40, 1, rfl, ?_, ?_, ?_, ?_⟩ <;> decide +kernel

theorem witness_YardLinkCommandsComplete_11 : ∃ (s u : State) (t : Nat) (p : Fin 4),
    u = s.tickTo t ∧ u.yardUp p.val = true ∧ (u.yard p.val).replay ≠ [] ∧ (u.yard p.val).ackAt + Config.usUnits ≤ u.now ∧ (u.yard p.val).replayRuns < 7 := by
  refine ⟨((base.setReg (O.YARD_STATE 1) 7).setYard 1 { replay := [⟨0, 1, 0, false, 0⟩], replayRuns := 2 }), (((base.setReg (O.YARD_STATE 1) 7).setYard 1 { replay := [⟨0, 1, 0, false, 0⟩], replayRuns := 2 })).tickTo (2 ^ 40), 2 ^ 40, 1, rfl, ?_, ?_, ?_, ?_⟩ <;> decide +kernel

theorem witness_YardLinkCommandsComplete_12 : ∃ (s u : State) (t : Nat) (p : Fin 4) (cause : Fin 10),
    u = s.tickTo t ∧ cause.val ≠ 0 ∧ ((cause.val = 2 → u.reg (O.YARD_STATE p.val) ≠ 1)) ∧ ((cause.val = 3 → u.reg (O.YARD_STATE p.val) = 7)) :=
  ⟨(base.setReg (O.YARD_STATE 1) 7), ((base.setReg (O.YARD_STATE 1) 7)).tickTo (7), 7, 1, 3, rfl, by decide +kernel, by decide +kernel, by decide +kernel⟩

theorem witness_YardLinkCommandsComplete_13 : ∃ (s u : State) (t : Nat) (p : Fin 4),
    u = s.tickTo t ∧ u.reg (O.YARD_STATE p.val) = 8 ∧ u.isSet (O.YARD_AUTO_RETRAIN p.val) = true ∧ u.isSet (O.YARD_ENABLE p.val) = true ∧ (u.yard p.val).downAt + 10 * Config.usUnits ≤ u.now ∧ u.shedOn (quadStop p.val 22) = true := by
  refine ⟨((((base.setReg (O.YARD_STATE 1) 8).setReg (O.YARD_AUTO_RETRAIN 1) 1).setReg (O.YARD_ENABLE 1) 1).setReg (O.SHED_STATE 45) 0), (((((base.setReg (O.YARD_STATE 1) 8).setReg (O.YARD_AUTO_RETRAIN 1) 1).setReg (O.YARD_ENABLE 1) 1).setReg (O.SHED_STATE 45) 0)).tickTo (2 ^ 60), 2 ^ 60, 1, rfl, ?_, ?_, ?_, ?_, ?_⟩ <;> decide +kernel

theorem witness_YardFrameCommandsComplete_1 : ∃ (s u : State) (t : Nat) (p : Fin 4) (w : State),
    u = s.tickTo t ∧ w = u.haltPump ∧ w.domainRunning (388 + 2 * p.val) = true ∧ w.reg (O.YARD_STATE p.val) = 7 :=
  ⟨(base.setReg (O.YARD_STATE 1) 7), ((base.setReg (O.YARD_STATE 1) 7)).tickTo (2 ^ 10), 2 ^ 10, 1, _, rfl, rfl, by decide +kernel, by decide +kernel⟩

theorem witness_YardFrameCommandsComplete_2 : ∃ (s u : State) (t : Nat) (p : Fin 4) (w : State),
    u = s.tickTo t ∧ w = u.haltPump ∧ w.domainRunning (388 + 2 * p.val) = true ∧ 1 ≤ w.reg (O.YARD_STATE p.val) ∧ w.reg (O.YARD_STATE p.val) ≤ 6 :=
  ⟨(base.setReg (O.YARD_STATE 1) 2), ((base.setReg (O.YARD_STATE 1) 2)).tickTo (2 ^ 10), 2 ^ 10, 1, _, rfl, rfl, by decide +kernel, by decide +kernel, by decide +kernel⟩

theorem witness_YardFrameCommandsComplete_3 : ∃ (s u : State) (t : Nat) (p : Fin 4) (w : State),
    u = s.tickTo t ∧ w = u.haltPump ∧ w.domainRunning (388 + 2 * p.val) = true ∧ w.reg (O.YARD_STATE p.val) = 0 ∧ w.isSet (O.YARD_WAKE_SEND p.val) = true :=
  ⟨((base.setReg (O.YARD_STATE 1) 0).setReg (O.YARD_WAKE_SEND 1) 1), (((base.setReg (O.YARD_STATE 1) 0).setReg (O.YARD_WAKE_SEND 1) 1)).tickTo (2 ^ 10), 2 ^ 10, 1, _, rfl, rfl, by decide +kernel, by decide +kernel, by decide +kernel⟩

theorem witness_YardFrameCommandsComplete_4 : ∃ (s u : State) (t : Nat) (p : Fin 4) (frame : List Byte) (w v : State) (raw : List Bool) (g : Nat),
    u = s.tickTo t ∧ w = u.haltPump ∧ w.yardUp p.val = true ∧ frame.length = 42 ∧ scrambleUp (bytesBits frame) (w.yard p.val).rxScr = (raw, g) ∧ hcrcOk raw = false ∧ hcrcCorrect raw = none ∧ w.encrypts p.val = false ∧ v = ((w.setYard p.val { (w.yard p.val) with rxF := (w.yard p.val).rxF + 1, rxScr := g, rxBlocks := (w.yard p.val).rxBlocks, badRun := (w.yard p.val).badRun + 1, rxBad := true }).bump (O.YARD_HCRC_BAD p.val) 1).halterIn p.val none := by
  refine ⟨(base.setReg (O.YARD_STATE 1) 7), ((base.setReg (O.YARD_STATE 1) 7)).tickTo (2 ^ 10), 2 ^ 10, 1, fill 42 0, _, _, _, _, rfl, rfl, ?_, ?_, Prod.ext rfl rfl, ?_, ?_, ?_, rfl⟩ <;> decide +kernel

theorem witness_YardFrameCommandsComplete_5 : ∃ (s u : State) (t : Nat) (p : Fin 4) (frame : List Byte) (w v : State) (raw : List Bool) (g : Nat),
    u = s.tickTo t ∧ w = u.haltPump ∧ w.yardUp p.val = true ∧ frame.length = 42 ∧ scrambleUp (bytesBits frame) (w.yard p.val).rxScr = (raw, g) ∧ hcrcOk raw = false ∧ hcrcCorrect raw = none ∧ w.encrypts p.val = true ∧ (w.yard p.val).rxF % 32 ≠ 31 ∧ v = ((w.setYard p.val { (w.yard p.val) with rxF := (w.yard p.val).rxF + 1, rxScr := g, rxBlocks := (w.yard p.val).rxBlocks ++ [frameField raw 32 128, frameField raw 176 128], badRun := (w.yard p.val).badRun + 1, rxBad := true }).bump (O.YARD_HCRC_BAD p.val) 1).halterIn p.val none := by
  refine ⟨((base.setReg (O.YARD_STATE 1) 7).setReg (O.YARD_ENCRYPT 1) 1), (((base.setReg (O.YARD_STATE 1) 7).setReg (O.YARD_ENCRYPT 1) 1)).tickTo (2 ^ 10), 2 ^ 10, 1, fill 42 0, _, _, _, _, rfl, rfl, ?_, ?_, Prod.ext rfl rfl, ?_, ?_, ?_, ?_, rfl⟩ <;> decide +kernel

theorem witness_YardFrameCommandsComplete_6 : ∃ (s u : State) (t : Nat) (p : Fin 4) (frame : List Byte) (w v : State) (raw : List Bool) (g : Nat),
    u = s.tickTo t ∧ w = u.haltPump ∧ w.yardUp p.val = true ∧ frame.length = 42 ∧ scrambleUp (bytesBits frame) (w.yard p.val).rxScr = (raw, g) ∧ hcrcOk raw = false ∧ hcrcCorrect raw = none ∧ w.encrypts p.val = true ∧ (w.yard p.val).rxF % 32 = 31 ∧ v = ((w.setYard p.val { (w.yard p.val) with rxF := (w.yard p.val).rxF + 1, rxScr := g, rxBlocks := (w.yard p.val).rxBlocks, badRun := (w.yard p.val).badRun + 1, rxBad := true }).bump (O.YARD_HCRC_BAD p.val) 1).halterIn p.val none := by
  refine ⟨(((base.setReg (O.YARD_STATE 1) 7).setReg (O.YARD_ENCRYPT 1) 1).setYard 1 { rxF := 31, rxScr := 2 ^ 31 - 1 }), ((((base.setReg (O.YARD_STATE 1) 7).setReg (O.YARD_ENCRYPT 1) 1).setYard 1 { rxF := 31, rxScr := 2 ^ 31 - 1 })).tickTo (2 ^ 10), 2 ^ 10, 1, fill 42 0, _, _, _, _, rfl, rfl, ?_, ?_, Prod.ext rfl rfl, ?_, ?_, ?_, ?_, rfl⟩ <;> decide +kernel

theorem witness_YardFrameCommandsComplete_7 : ∃ (s u : State) (t : Nat) (p : Fin 4) (frame : List Byte) (w v : State) (raw : List Bool) (g hdr : Nat) (ok : Bool) (f : RxFrame) (y : YPort),
    u = s.tickTo t ∧ w = u.haltPump ∧ w.yardUp p.val = true ∧ frame.length = 42 ∧ scrambleUp (bytesBits frame) (w.yard p.val).rxScr = (raw, g) ∧ hcrcOk raw = true ∧ w.encrypts p.val = false ∧ hdr = frameField raw 0 32 ∧ ok = pcrcOk raw ∧ f = ⟨bits hdr 31 30, bits hdr 29 23, bits hdr 14 12, hdr.testBit 11, ok, frameField raw 176 128, hdr.testBit 10, (w.yard p.val).rxF, bits hdr 31 30 == 3 && w.tagOf p.val (b2n (hdr.testBit 10)) (w.yard p.val).train.pNonce (w.yard p.val).rxTags (w.yard p.val).rxBlocks == (frameField raw 176 128) % 2 ^ 64, (w.yard p.val).rxBad⟩ ∧ y = { (w.yard p.val) with rxF := (w.yard p.val).rxF + 1, rxScr := g, rxBlocks := (w.yard p.val).rxBlocks, badRun := 0, rxBad := (w.yard p.val).rxBad || !ok, nakGot := if hdr.testBit 15 then some (bits hdr 22 16) else (w.yard p.val).nakGot, inbox := if f.ftype = 0 then (w.yard p.val).inbox else (w.yard p.val).inbox ++ [f], rot := (w.yard p.val).rot } ∧ v = ((((if ok then w else w.bump (O.YARD_PCRC_BAD p.val) 1).setYard p.val y).takeAck p.val (bits hdr 22 16)).halterIn p.val (some (frameField raw 32 128))) := by
  refine ⟨(base.setReg (O.YARD_STATE 1) 7), ((base.setReg (O.YARD_STATE 1) 7)).tickTo (2 ^ 10), 2 ^ 10, 1, bitsBytes 42 (scrambleUp (frameBits (yardHeader 0 3 4 false 0 false 0) 5 9) (2 ^ 31 - 1)).1, _, _, _, _, _, _, _, _, rfl, rfl, ?_, ?_, Prod.ext rfl rfl, ?_, ?_, rfl, rfl, rfl, rfl, rfl⟩ <;> decide +kernel

theorem witness_YardFrameCommandsComplete_8 : ∃ (s u : State) (t : Nat) (p : Fin 4) (frame : List Byte) (w v : State) (raw l : List Bool) (g hdr : Nat) (ok : Bool) (f : RxFrame) (y : YPort),
    u = s.tickTo t ∧ w = u.haltPump ∧ w.yardUp p.val = true ∧ frame.length = 42 ∧ scrambleUp (bytesBits frame) (w.yard p.val).rxScr = (raw, g) ∧ hcrcOk raw = false ∧ hcrcCorrect raw = some l ∧ w.encrypts p.val = false ∧ hdr = frameField l 0 32 ∧ ok = pcrcOk l ∧ f = ⟨bits hdr 31 30, bits hdr 29 23, bits hdr 14 12, hdr.testBit 11, ok, frameField l 176 128, hdr.testBit 10, (w.yard p.val).rxF, bits hdr 31 30 == 3 && w.tagOf p.val (b2n (hdr.testBit 10)) (w.yard p.val).train.pNonce (w.yard p.val).rxTags (w.yard p.val).rxBlocks == (frameField l 176 128) % 2 ^ 64, (w.yard p.val).rxBad⟩ ∧ y = { (w.yard p.val) with rxF := (w.yard p.val).rxF + 1, rxScr := g, rxBlocks := (w.yard p.val).rxBlocks, badRun := 0, rxBad := (w.yard p.val).rxBad || !ok, nakGot := if hdr.testBit 15 then some (bits hdr 22 16) else (w.yard p.val).nakGot, inbox := if f.ftype = 0 then (w.yard p.val).inbox else (w.yard p.val).inbox ++ [f], rot := (w.yard p.val).rot } ∧ v = ((((if ok then w.bump (O.YARD_HCRC_CORRECTED p.val) 1 else (w.bump (O.YARD_HCRC_CORRECTED p.val) 1).bump (O.YARD_PCRC_BAD p.val) 1).setYard p.val y).takeAck p.val (bits hdr 22 16)).halterIn p.val (some (frameField l 32 128))) := by
  refine ⟨(base.setReg (O.YARD_STATE 1) 7), ((base.setReg (O.YARD_STATE 1) 7)).tickTo (2 ^ 10), 2 ^ 10, 1, bitsBytes 42 (scrambleUp ((frameBits (yardHeader 0 3 4 false 0 false 0) 5 9).set 7 (!((frameBits (yardHeader 0 3 4 false 0 false 0) 5 9).getD 7 false))) (2 ^ 31 - 1)).1, _, _, _, frameBits (yardHeader 0 3 4 false 0 false 0) 5 9, _, _, _, _, _, rfl, rfl, ?_, ?_, Prod.ext rfl rfl, ?_, ?_, ?_, rfl, rfl, rfl, rfl, rfl⟩ <;> decide +kernel

theorem witness_YardFrameCommandsComplete_9 : ∃ (s u : State) (t : Nat) (p : Fin 4) (frame : List Byte) (w v : State) (raw : List Bool) (g hdr : Nat) (ok : Bool) (kh kp : Nat) (f : RxFrame) (y : YPort),
    u = s.tickTo t ∧ w = u.haltPump ∧ w.yardUp p.val = true ∧ frame.length = 42 ∧ scrambleUp (bytesBits frame) (w.yard p.val).rxScr = (raw, g) ∧ hcrcOk raw = true ∧ w.encrypts p.val = true ∧ (w.yard p.val).rxF % 32 ≠ 31 ∧ hdr = frameField raw 0 32 ∧ ok = pcrcOk raw ∧ w.keystream p.val (b2n (hdr.testBit 10)) (w.yard p.val).train.pNonce (w.yard p.val).rxF = (kh, kp) ∧ f = ⟨bits hdr 31 30, bits hdr 29 23, bits hdr 14 12, hdr.testBit 11, ok, frameField raw 176 128 ^^^ kp, hdr.testBit 10, (w.yard p.val).rxF, bits hdr 31 30 == 3 && w.tagOf p.val (b2n (hdr.testBit 10)) (w.yard p.val).train.pNonce (w.yard p.val).rxTags (w.yard p.val).rxBlocks == (frameField raw 176 128 ^^^ kp) % 2 ^ 64, (w.yard p.val).rxBad⟩ ∧ y = { (w.yard p.val) with rxF := (w.yard p.val).rxF + 1, rxScr := g, rxBlocks := (w.yard p.val).rxBlocks ++ [frameField raw 32 128, frameField raw 176 128], badRun := 0, rxBad := (w.yard p.val).rxBad || !ok, nakGot := if hdr.testBit 15 then some (bits hdr 22 16) else (w.yard p.val).nakGot, inbox := if f.ftype = 0 then (w.yard p.val).inbox else (w.yard p.val).inbox ++ [f], rot := (w.yard p.val).rot.map fun r => { r with got := r.got || r.slot == b2n (hdr.testBit 10) } } ∧ v = ((((if ok then w else w.bump (O.YARD_PCRC_BAD p.val) 1).setYard p.val y).takeAck p.val (bits hdr 22 16)).halterIn p.val (some (frameField raw 32 128 ^^^ kh))) := by
  refine ⟨((base.setReg (O.YARD_STATE 1) 7).setReg (O.YARD_ENCRYPT 1) 1), (((base.setReg (O.YARD_STATE 1) 7).setReg (O.YARD_ENCRYPT 1) 1)).tickTo (2 ^ 10), 2 ^ 10, 1, bitsBytes 42 (scrambleUp (frameBits (yardHeader 0 3 4 false 0 false 0) 5 9) (2 ^ 31 - 1)).1, _, _, _, _, _, _, _, _, _, _, rfl, rfl, ?_, ?_, Prod.ext rfl rfl, ?_, ?_, ?_, rfl, rfl, Prod.ext (by exact rfl) (by exact rfl), rfl, rfl, rfl⟩ <;> decide +kernel

theorem witness_YardFrameCommandsComplete_10 : ∃ (s u : State) (t : Nat) (p : Fin 4) (frame : List Byte) (w v : State) (raw : List Bool) (g hdr : Nat) (ok : Bool) (kh kp : Nat) (f : RxFrame) (y : YPort),
    u = s.tickTo t ∧ w = u.haltPump ∧ w.yardUp p.val = true ∧ frame.length = 42 ∧ scrambleUp (bytesBits frame) (w.yard p.val).rxScr = (raw, g) ∧ hcrcOk raw = true ∧ w.encrypts p.val = true ∧ (w.yard p.val).rxF % 32 = 31 ∧ hdr = frameField raw 0 32 ∧ ok = pcrcOk raw ∧ w.keystream p.val (b2n (hdr.testBit 10)) (w.yard p.val).train.pNonce (w.yard p.val).rxF = (kh, kp) ∧ bits hdr 31 30 = 3 ∧ f = ⟨bits hdr 31 30, bits hdr 29 23, bits hdr 14 12, hdr.testBit 11, ok, frameField raw 176 128 ^^^ kp, hdr.testBit 10, (w.yard p.val).rxF, bits hdr 31 30 == 3 && w.tagOf p.val (b2n (hdr.testBit 10)) (w.yard p.val).train.pNonce (w.yard p.val).rxTags (w.yard p.val).rxBlocks == (frameField raw 176 128 ^^^ kp) % 2 ^ 64, (w.yard p.val).rxBad⟩ ∧ y = { (w.yard p.val) with rxF := (w.yard p.val).rxF + 1, rxScr := g, rxBlocks := (w.yard p.val).rxBlocks, badRun := 0, rxBad := (w.yard p.val).rxBad || !ok, nakGot := if hdr.testBit 15 then some (bits hdr 22 16) else (w.yard p.val).nakGot, inbox := if f.ftype = 0 then (w.yard p.val).inbox else (w.yard p.val).inbox ++ [f], rot := (w.yard p.val).rot.map fun r => { r with got := r.got || r.slot == b2n (hdr.testBit 10) } } ∧ v = ((((if ok then w else w.bump (O.YARD_PCRC_BAD p.val) 1).setYard p.val y).takeAck p.val (bits hdr 22 16)).halterIn p.val (some (frameField raw 32 128 ^^^ kh))) := by
  refine ⟨(((base.setReg (O.YARD_STATE 1) 7).setReg (O.YARD_ENCRYPT 1) 1).setYard 1 { rxF := 31, rxScr := 2 ^ 31 - 1 }), ((((base.setReg (O.YARD_STATE 1) 7).setReg (O.YARD_ENCRYPT 1) 1).setYard 1 { rxF := 31, rxScr := 2 ^ 31 - 1 })).tickTo (2 ^ 10), 2 ^ 10, 1, bitsBytes 42 (scrambleUp (frameBits (yardHeader 3 3 4 false 0 false 0) 5 9) (2 ^ 31 - 1)).1, _, _, _, _, _, _, _, _, _, _, rfl, rfl, ?_, ?_, Prod.ext rfl rfl, ?_, ?_, ?_, rfl, rfl, Prod.ext (by exact rfl) (by exact rfl), ?_, rfl, rfl, rfl⟩ <;> decide +kernel

theorem witness_YardMessageCommandsComplete_1 : ∃ (s u : State) (t : Nat) (p : Fin 4) (f : RxFrame) (rest : List RxFrame) (w : State),
    u = s.tickTo t ∧ (u.yard p.val).inbox = f :: rest ∧ f.ftype ≠ 3 ∧ (isKind 1 f || isKind 2 f || isKind 3 f) = false ∧ w = u.setYard p.val { u.yard p.val with inbox := rest } ∧ (f.ok = false ∨ f.seq ≠ (w.yard p.val).rxSeq ∨ (w.encrypts p.val = true ∧ f.f < (w.yard p.val).tagFrom)) := by
  refine ⟨((base.setReg (O.YARD_STATE 1) 7).setYard 1 { inbox := [⟨1, 5, 0, false, true, 0, false, 0, false, false⟩] }), (((base.setReg (O.YARD_STATE 1) 7).setYard 1 { inbox := [⟨1, 5, 0, false, true, 0, false, 0, false, false⟩] })).tickTo (7), 7, 1, ⟨1, 5, 0, false, true, 0, false, 0, false, false⟩, [], _, rfl, ?_, ?_, ?_, rfl, ?_⟩ <;> decide +kernel

theorem witness_YardMessageCommandsComplete_2 : ∃ (s u : State) (t : Nat) (p : Fin 4) (f : RxFrame) (rest : List RxFrame) (w v z : State),
    u = s.tickTo t ∧ (u.yard p.val).inbox = f :: rest ∧ f.ftype ≠ 3 ∧ (isKind 1 f || isKind 2 f || isKind 3 f) = false ∧ w = u.setYard p.val { u.yard p.val with inbox := rest } ∧ f.ok = true ∧ f.seq = (w.yard p.val).rxSeq ∧ ((w.encrypts p.val = true → (w.yard p.val).tagFrom ≤ f.f)) ∧ v = w.setYard p.val { w.yard p.val with rxSeq := ((w.yard p.val).rxSeq + 1) % 128, nakOpen := false } ∧ f.ftype = 1 ∧ f.half = false ∧ z = (v.ledAdd 0x1061 0 1).ledAdd 0x1061 2 1 ∧ z.encrypts p.val = false := by
  refine ⟨((base.setReg (O.YARD_STATE 1) 7).setYard 1 { inbox := [⟨1, 0, 0, false, true, 0, false, 0, false, false⟩] }), (((base.setReg (O.YARD_STATE 1) 7).setYard 1 { inbox := [⟨1, 0, 0, false, true, 0, false, 0, false, false⟩] })).tickTo (7), 7, 1, ⟨1, 0, 0, false, true, 0, false, 0, false, false⟩, [], _, _, _, rfl, ?_, ?_, ?_, rfl, ?_, ?_, ?_, rfl, ?_, ?_, rfl, ?_⟩ <;> decide +kernel

theorem witness_YardMessageCommandsComplete_3 : ∃ (s u : State) (t : Nat) (p : Fin 4) (f : RxFrame) (rest : List RxFrame) (w v z : State),
    u = s.tickTo t ∧ (u.yard p.val).inbox = f :: rest ∧ f.ftype ≠ 3 ∧ (isKind 1 f || isKind 2 f || isKind 3 f) = false ∧ w = u.setYard p.val { u.yard p.val with inbox := rest } ∧ f.ok = true ∧ f.seq = (w.yard p.val).rxSeq ∧ ((w.encrypts p.val = true → (w.yard p.val).tagFrom ≤ f.f)) ∧ v = w.setYard p.val { w.yard p.val with rxSeq := ((w.yard p.val).rxSeq + 1) % 128, nakOpen := false } ∧ f.ftype = 1 ∧ f.half = false ∧ z = (v.ledAdd 0x1061 0 1).ledAdd 0x1061 2 1 ∧ z.encrypts p.val = true := by
  refine ⟨(((base.setReg (O.YARD_STATE 1) 7).setReg (O.YARD_ENCRYPT 1) 1).setYard 1 { inbox := [⟨1, 0, 0, false, true, 0, false, 0, false, false⟩] }), ((((base.setReg (O.YARD_STATE 1) 7).setReg (O.YARD_ENCRYPT 1) 1).setYard 1 { inbox := [⟨1, 0, 0, false, true, 0, false, 0, false, false⟩] })).tickTo (7), 7, 1, ⟨1, 0, 0, false, true, 0, false, 0, false, false⟩, [], _, _, _, rfl, ?_, ?_, ?_, rfl, ?_, ?_, ?_, rfl, ?_, ?_, rfl, ?_⟩ <;> decide +kernel

theorem witness_YardMessageCommandsComplete_4 : ∃ (s u : State) (t : Nat) (p : Fin 4) (f : RxFrame) (rest : List RxFrame) (w v : State),
    u = s.tickTo t ∧ (u.yard p.val).inbox = f :: rest ∧ f.ftype ≠ 3 ∧ (isKind 1 f || isKind 2 f || isKind 3 f) = false ∧ w = u.setYard p.val { u.yard p.val with inbox := rest } ∧ f.ok = true ∧ f.seq = (w.yard p.val).rxSeq ∧ ((w.encrypts p.val = true → (w.yard p.val).tagFrom ≤ f.f)) ∧ v = w.setYard p.val { w.yard p.val with rxSeq := ((w.yard p.val).rxSeq + 1) % 128, nakOpen := false } ∧ f.ftype = 1 ∧ f.half = true ∧ v.encrypts p.val = true := by
  refine ⟨(((base.setReg (O.YARD_STATE 1) 7).setReg (O.YARD_ENCRYPT 1) 1).setYard 1 { inbox := [⟨1, 0, 0, true, true, 0, false, 0, false, false⟩] }), ((((base.setReg (O.YARD_STATE 1) 7).setReg (O.YARD_ENCRYPT 1) 1).setYard 1 { inbox := [⟨1, 0, 0, true, true, 0, false, 0, false, false⟩] })).tickTo (7), 7, 1, ⟨1, 0, 0, true, true, 0, false, 0, false, false⟩, [], _, _, rfl, ?_, ?_, ?_, rfl, ?_, ?_, ?_, rfl, ?_, ?_, ?_⟩ <;> decide +kernel

theorem witness_YardMessageCommandsComplete_5 : ∃ (s u : State) (t : Nat) (p : Fin 4) (f : RxFrame) (rest : List RxFrame) (w v : State) (a : Nat),
    u = s.tickTo t ∧ (u.yard p.val).inbox = f :: rest ∧ f.ftype ≠ 3 ∧ (isKind 1 f || isKind 2 f || isKind 3 f) = false ∧ w = u.setYard p.val { u.yard p.val with inbox := rest } ∧ f.ok = true ∧ f.seq = (w.yard p.val).rxSeq ∧ ((w.encrypts p.val = true → (w.yard p.val).tagFrom ≤ f.f)) ∧ v = w.setYard p.val { w.yard p.val with rxSeq := ((w.yard p.val).rxSeq + 1) % 128, nakOpen := false } ∧ f.ftype = 1 ∧ f.half = true ∧ v.encrypts p.val = false ∧ ((v.yard p.val).vc f.vc).first = some a ∧ ((v.yard p.val).vc f.vc).lost = false := by
  refine ⟨((base.setReg (O.YARD_STATE 1) 7).setYard 1 { inbox := [⟨1, 0, 0, true, true, 0, false, 0, false, false⟩], vcs := [(0, { first := some 6 })] }), (((base.setReg (O.YARD_STATE 1) 7).setYard 1 { inbox := [⟨1, 0, 0, true, true, 0, false, 0, false, false⟩], vcs := [(0, { first := some 6 })] })).tickTo (7), 7, 1, ⟨1, 0, 0, true, true, 0, false, 0, false, false⟩, [], _, _, 6, rfl, ?_, ?_, ?_, rfl, ?_, ?_, ?_, rfl, ?_, ?_, ?_, ?_, ?_⟩ <;> decide +kernel

theorem witness_YardMessageCommandsComplete_6 : ∃ (s u : State) (t : Nat) (p : Fin 4) (f : RxFrame) (rest : List RxFrame) (w v : State) (a : Nat),
    u = s.tickTo t ∧ (u.yard p.val).inbox = f :: rest ∧ f.ftype ≠ 3 ∧ (isKind 1 f || isKind 2 f || isKind 3 f) = false ∧ w = u.setYard p.val { u.yard p.val with inbox := rest } ∧ f.ok = true ∧ f.seq = (w.yard p.val).rxSeq ∧ ((w.encrypts p.val = true → (w.yard p.val).tagFrom ≤ f.f)) ∧ v = w.setYard p.val { w.yard p.val with rxSeq := ((w.yard p.val).rxSeq + 1) % 128, nakOpen := false } ∧ f.ftype = 1 ∧ f.half = true ∧ v.encrypts p.val = false ∧ ((v.yard p.val).vc f.vc).first = some a ∧ ((v.yard p.val).vc f.vc).lost = true := by
  refine ⟨((base.setReg (O.YARD_STATE 1) 7).setYard 1 { inbox := [⟨1, 0, 0, true, true, 0, false, 0, false, false⟩], vcs := [(0, { first := some 6, lost := true })] }), (((base.setReg (O.YARD_STATE 1) 7).setYard 1 { inbox := [⟨1, 0, 0, true, true, 0, false, 0, false, false⟩], vcs := [(0, { first := some 6, lost := true })] })).tickTo (7), 7, 1, ⟨1, 0, 0, true, true, 0, false, 0, false, false⟩, [], _, _, 6, rfl, ?_, ?_, ?_, rfl, ?_, ?_, ?_, rfl, ?_, ?_, ?_, ?_, ?_⟩ <;> decide +kernel

theorem witness_YardMessageCommandsComplete_7 : ∃ (s u : State) (t : Nat) (p : Fin 4) (f : RxFrame) (rest : List RxFrame) (w v : State),
    u = s.tickTo t ∧ (u.yard p.val).inbox = f :: rest ∧ f.ftype ≠ 3 ∧ (isKind 1 f || isKind 2 f || isKind 3 f) = false ∧ w = u.setYard p.val { u.yard p.val with inbox := rest } ∧ f.ok = true ∧ f.seq = (w.yard p.val).rxSeq ∧ ((w.encrypts p.val = true → (w.yard p.val).tagFrom ≤ f.f)) ∧ v = w.setYard p.val { w.yard p.val with rxSeq := ((w.yard p.val).rxSeq + 1) % 128, nakOpen := false } ∧ f.ftype = 1 ∧ f.half = true ∧ v.encrypts p.val = false ∧ ((v.yard p.val).vc f.vc).first = none := by
  refine ⟨((base.setReg (O.YARD_STATE 1) 7).setYard 1 { inbox := [⟨1, 0, 0, true, true, 0, false, 0, false, false⟩] }), (((base.setReg (O.YARD_STATE 1) 7).setYard 1 { inbox := [⟨1, 0, 0, true, true, 0, false, 0, false, false⟩] })).tickTo (7), 7, 1, ⟨1, 0, 0, true, true, 0, false, 0, false, false⟩, [], _, _, rfl, ?_, ?_, ?_, rfl, ?_, ?_, ?_, rfl, ?_, ?_, ?_, ?_⟩ <;> decide +kernel

theorem witness_YardMessageCommandsComplete_8 : ∃ (s u : State) (t : Nat) (p : Fin 4) (f : RxFrame) (rest : List RxFrame) (w : State),
    u = s.tickTo t ∧ (u.yard p.val).inbox = f :: rest ∧ f.ftype = 2 ∧ f.ok = true ∧ bits f.payload 127 120 = 1 ∧ w = u.setYard p.val { u.yard p.val with inbox := rest } ∧ f.seq ≠ (w.yard p.val).rxSeq := by
  refine ⟨((base.setReg (O.YARD_STATE 1) 7).setYard 1 { inbox := [⟨2, 5, 0, false, true, (1 * 2 ^ 120), false, 0, false, false⟩] }), (((base.setReg (O.YARD_STATE 1) 7).setYard 1 { inbox := [⟨2, 5, 0, false, true, (1 * 2 ^ 120), false, 0, false, false⟩] })).tickTo (7), 7, 1, ⟨2, 5, 0, false, true, (1 * 2 ^ 120), false, 0, false, false⟩, [], _, rfl, ?_, ?_, ?_, ?_, rfl, ?_⟩ <;> decide +kernel

theorem witness_YardMessageCommandsComplete_9 : ∃ (s u : State) (t : Nat) (p : Fin 4) (f : RxFrame) (rest : List RxFrame) (w v : State),
    u = s.tickTo t ∧ (u.yard p.val).inbox = f :: rest ∧ f.ftype = 2 ∧ f.ok = true ∧ bits f.payload 127 120 = 1 ∧ w = u.setYard p.val { u.yard p.val with inbox := rest } ∧ f.seq = (w.yard p.val).rxSeq ∧ ((w.encrypts p.val = true → (w.yard p.val).tagFrom ≤ f.f)) ∧ v = w.setYard p.val { w.yard p.val with rxSeq := ((w.yard p.val).rxSeq + 1) % 128, nakOpen := false } ∧ v.encrypts p.val = true := by
  refine ⟨(((base.setReg (O.YARD_STATE 1) 7).setReg (O.YARD_ENCRYPT 1) 1).setYard 1 { inbox := [⟨2, 0, 0, false, true, (1 * 2 ^ 120), false, 0, false, false⟩] }), ((((base.setReg (O.YARD_STATE 1) 7).setReg (O.YARD_ENCRYPT 1) 1).setYard 1 { inbox := [⟨2, 0, 0, false, true, (1 * 2 ^ 120), false, 0, false, false⟩] })).tickTo (7), 7, 1, ⟨2, 0, 0, false, true, (1 * 2 ^ 120), false, 0, false, false⟩, [], _, _, rfl, ?_, ?_, ?_, ?_, rfl, ?_, ?_, rfl, ?_⟩ <;> decide +kernel

theorem witness_YardMessageCommandsComplete_10 : ∃ (s u : State) (t : Nat) (p : Fin 4) (f : RxFrame) (rest : List RxFrame) (w v : State),
    u = s.tickTo t ∧ (u.yard p.val).inbox = f :: rest ∧ f.ftype = 2 ∧ f.ok = true ∧ bits f.payload 127 120 = 1 ∧ w = u.setYard p.val { u.yard p.val with inbox := rest } ∧ f.seq = (w.yard p.val).rxSeq ∧ ((w.encrypts p.val = true → (w.yard p.val).tagFrom ≤ f.f)) ∧ v = w.setYard p.val { w.yard p.val with rxSeq := ((w.yard p.val).rxSeq + 1) % 128, nakOpen := false } ∧ v.encrypts p.val = false := by
  refine ⟨((base.setReg (O.YARD_STATE 1) 7).setYard 1 { inbox := [⟨2, 0, 0, false, true, (1 * 2 ^ 120), false, 0, false, false⟩] }), (((base.setReg (O.YARD_STATE 1) 7).setYard 1 { inbox := [⟨2, 0, 0, false, true, (1 * 2 ^ 120), false, 0, false, false⟩] })).tickTo (7), 7, 1, ⟨2, 0, 0, false, true, (1 * 2 ^ 120), false, 0, false, false⟩, [], _, _, rfl, ?_, ?_, ?_, ?_, rfl, ?_, ?_, rfl, ?_⟩ <;> decide +kernel

theorem witness_YardMessageCommandsComplete_11 : ∃ (s u : State) (t : Nat) (p : Fin 4) (f : RxFrame) (rest : List RxFrame) (w : State),
    u = s.tickTo t ∧ (u.yard p.val).inbox = f :: rest ∧ f.ftype = 2 ∧ f.ok = true ∧ bits f.payload 127 120 = 2 ∧ w = u.setYard p.val { u.yard p.val with inbox := rest } ∧ f.seq ≠ (w.yard p.val).rxSeq := by
  refine ⟨((base.setReg (O.YARD_STATE 1) 7).setYard 1 { inbox := [⟨2, 5, 0, false, true, (2 * 2 ^ 120), false, 0, false, false⟩] }), (((base.setReg (O.YARD_STATE 1) 7).setYard 1 { inbox := [⟨2, 5, 0, false, true, (2 * 2 ^ 120), false, 0, false, false⟩] })).tickTo (7), 7, 1, ⟨2, 5, 0, false, true, (2 * 2 ^ 120), false, 0, false, false⟩, [], _, rfl, ?_, ?_, ?_, ?_, rfl, ?_⟩ <;> decide +kernel

theorem witness_YardMessageCommandsComplete_12 : ∃ (s u : State) (t : Nat) (p : Fin 4) (f : RxFrame) (rest : List RxFrame) (w v : State),
    u = s.tickTo t ∧ (u.yard p.val).inbox = f :: rest ∧ f.ftype = 2 ∧ f.ok = true ∧ bits f.payload 127 120 = 2 ∧ w = u.setYard p.val { u.yard p.val with inbox := rest } ∧ f.seq = (w.yard p.val).rxSeq ∧ ((w.encrypts p.val = true → (w.yard p.val).tagFrom ≤ f.f)) ∧ v = w.setYard p.val { w.yard p.val with rxSeq := ((w.yard p.val).rxSeq + 1) % 128, nakOpen := false } ∧ v.encrypts p.val = true := by
  refine ⟨(((base.setReg (O.YARD_STATE 1) 7).setReg (O.YARD_ENCRYPT 1) 1).setYard 1 { inbox := [⟨2, 0, 0, false, true, (2 * 2 ^ 120), false, 0, false, false⟩] }), ((((base.setReg (O.YARD_STATE 1) 7).setReg (O.YARD_ENCRYPT 1) 1).setYard 1 { inbox := [⟨2, 0, 0, false, true, (2 * 2 ^ 120), false, 0, false, false⟩] })).tickTo (7), 7, 1, ⟨2, 0, 0, false, true, (2 * 2 ^ 120), false, 0, false, false⟩, [], _, _, rfl, ?_, ?_, ?_, ?_, rfl, ?_, ?_, rfl, ?_⟩ <;> decide +kernel

theorem witness_YardMessageCommandsComplete_13 : ∃ (s u : State) (t : Nat) (p : Fin 4) (f : RxFrame) (rest : List RxFrame) (w v : State),
    u = s.tickTo t ∧ (u.yard p.val).inbox = f :: rest ∧ f.ftype = 2 ∧ f.ok = true ∧ bits f.payload 127 120 = 2 ∧ w = u.setYard p.val { u.yard p.val with inbox := rest } ∧ f.seq = (w.yard p.val).rxSeq ∧ ((w.encrypts p.val = true → (w.yard p.val).tagFrom ≤ f.f)) ∧ v = w.setYard p.val { w.yard p.val with rxSeq := ((w.yard p.val).rxSeq + 1) % 128, nakOpen := false } ∧ v.encrypts p.val = false := by
  refine ⟨((base.setReg (O.YARD_STATE 1) 7).setYard 1 { inbox := [⟨2, 0, 0, false, true, (2 * 2 ^ 120), false, 0, false, false⟩] }), (((base.setReg (O.YARD_STATE 1) 7).setYard 1 { inbox := [⟨2, 0, 0, false, true, (2 * 2 ^ 120), false, 0, false, false⟩] })).tickTo (7), 7, 1, ⟨2, 0, 0, false, true, (2 * 2 ^ 120), false, 0, false, false⟩, [], _, _, rfl, ?_, ?_, ?_, ?_, rfl, ?_, ?_, rfl, ?_⟩ <;> decide +kernel

theorem witness_YardMessageCommandsComplete_14 : ∃ (s u : State) (t : Nat) (p : Fin 4) (f : RxFrame) (rest : List RxFrame) (w : State),
    u = s.tickTo t ∧ (u.yard p.val).inbox = f :: rest ∧ f.ftype = 2 ∧ f.ok = true ∧ bits f.payload 127 120 = 3 ∧ w = u.setYard p.val { u.yard p.val with inbox := rest } ∧ f.seq ≠ (w.yard p.val).rxSeq := by
  refine ⟨((base.setReg (O.YARD_STATE 1) 7).setYard 1 { inbox := [⟨2, 5, 0, false, true, (3 * 2 ^ 120), false, 0, false, false⟩] }), (((base.setReg (O.YARD_STATE 1) 7).setYard 1 { inbox := [⟨2, 5, 0, false, true, (3 * 2 ^ 120), false, 0, false, false⟩] })).tickTo (7), 7, 1, ⟨2, 5, 0, false, true, (3 * 2 ^ 120), false, 0, false, false⟩, [], _, rfl, ?_, ?_, ?_, ?_, rfl, ?_⟩ <;> decide +kernel

theorem witness_YardMessageCommandsComplete_15 : ∃ (s u : State) (t : Nat) (p : Fin 4) (f : RxFrame) (rest : List RxFrame) (w v : State),
    u = s.tickTo t ∧ (u.yard p.val).inbox = f :: rest ∧ f.ftype = 2 ∧ f.ok = true ∧ bits f.payload 127 120 = 3 ∧ w = u.setYard p.val { u.yard p.val with inbox := rest } ∧ f.seq = (w.yard p.val).rxSeq ∧ ((w.encrypts p.val = true → (w.yard p.val).tagFrom ≤ f.f)) ∧ v = w.setYard p.val { w.yard p.val with rxSeq := ((w.yard p.val).rxSeq + 1) % 128, nakOpen := false } ∧ v.encrypts p.val = true := by
  refine ⟨(((base.setReg (O.YARD_STATE 1) 7).setReg (O.YARD_ENCRYPT 1) 1).setYard 1 { inbox := [⟨2, 0, 0, false, true, (3 * 2 ^ 120), false, 0, false, false⟩] }), ((((base.setReg (O.YARD_STATE 1) 7).setReg (O.YARD_ENCRYPT 1) 1).setYard 1 { inbox := [⟨2, 0, 0, false, true, (3 * 2 ^ 120), false, 0, false, false⟩] })).tickTo (7), 7, 1, ⟨2, 0, 0, false, true, (3 * 2 ^ 120), false, 0, false, false⟩, [], _, _, rfl, ?_, ?_, ?_, ?_, rfl, ?_, ?_, rfl, ?_⟩ <;> decide +kernel

theorem witness_YardMessageCommandsComplete_16 : ∃ (s u : State) (t : Nat) (p : Fin 4) (f : RxFrame) (rest : List RxFrame) (w v : State),
    u = s.tickTo t ∧ (u.yard p.val).inbox = f :: rest ∧ f.ftype = 2 ∧ f.ok = true ∧ bits f.payload 127 120 = 3 ∧ w = u.setYard p.val { u.yard p.val with inbox := rest } ∧ f.seq = (w.yard p.val).rxSeq ∧ ((w.encrypts p.val = true → (w.yard p.val).tagFrom ≤ f.f)) ∧ v = w.setYard p.val { w.yard p.val with rxSeq := ((w.yard p.val).rxSeq + 1) % 128, nakOpen := false } ∧ v.encrypts p.val = false := by
  refine ⟨((base.setReg (O.YARD_STATE 1) 7).setYard 1 { inbox := [⟨2, 0, 0, false, true, (3 * 2 ^ 120), false, 0, false, false⟩] }), (((base.setReg (O.YARD_STATE 1) 7).setYard 1 { inbox := [⟨2, 0, 0, false, true, (3 * 2 ^ 120), false, 0, false, false⟩] })).tickTo (7), 7, 1, ⟨2, 0, 0, false, true, (3 * 2 ^ 120), false, 0, false, false⟩, [], _, _, rfl, ?_, ?_, ?_, ?_, rfl, ?_, ?_, rfl, ?_⟩ <;> decide +kernel

theorem witness_YardMessageCommandsComplete_17 : ∃ (s u : State) (t : Nat) (p : Fin 4) (f : RxFrame) (rest : List RxFrame) (w : State),
    u = s.tickTo t ∧ (u.yard p.val).inbox = f :: rest ∧ f.ftype = 3 ∧ w = u.setYard p.val { u.yard p.val with inbox := rest } ∧ u.encrypts p.val = false :=
  ⟨((base.setReg (O.YARD_STATE 1) 7).setYard 1 { inbox := [⟨3, 0, 0, false, true, 0, false, 0, false, false⟩] }), (((base.setReg (O.YARD_STATE 1) 7).setYard 1 { inbox := [⟨3, 0, 0, false, true, 0, false, 0, false, false⟩] })).tickTo (7), 7, 1, ⟨3, 0, 0, false, true, 0, false, 0, false, false⟩, [], _, rfl, by decide +kernel, by decide +kernel, rfl, by decide +kernel⟩

theorem witness_YardMessageCommandsComplete_18 : ∃ (s u : State) (t : Nat) (p : Fin 4) (f : RxFrame) (rest : List RxFrame) (w : State),
    u = s.tickTo t ∧ (u.yard p.val).inbox = f :: rest ∧ f.ftype = 3 ∧ w = u.setYard p.val { u.yard p.val with inbox := rest } ∧ u.encrypts p.val = true ∧ f.ok = false := by
  refine ⟨(((base.setReg (O.YARD_STATE 1) 7).setReg (O.YARD_ENCRYPT 1) 1).setYard 1 { inbox := [⟨3, 0, 0, false, false, 0, false, 0, false, false⟩] }), ((((base.setReg (O.YARD_STATE 1) 7).setReg (O.YARD_ENCRYPT 1) 1).setYard 1 { inbox := [⟨3, 0, 0, false, false, 0, false, 0, false, false⟩] })).tickTo (7), 7, 1, ⟨3, 0, 0, false, false, 0, false, 0, false, false⟩, [], _, rfl, ?_, ?_, rfl, ?_, ?_⟩ <;> decide +kernel

theorem witness_YardMessageCommandsComplete_19 : ∃ (s u : State) (t : Nat) (p : Fin 4) (f : RxFrame) (rest : List RxFrame) (w : State),
    u = s.tickTo t ∧ (u.yard p.val).inbox = f :: rest ∧ f.ftype = 3 ∧ w = u.setYard p.val { u.yard p.val with inbox := rest } ∧ u.encrypts p.val = true ∧ f.ok = true ∧ f.tagOk = true := by
  refine ⟨(((base.setReg (O.YARD_STATE 1) 7).setReg (O.YARD_ENCRYPT 1) 1).setYard 1 { inbox := [⟨3, 0, 0, false, true, 0, false, 0, true, false⟩] }), ((((base.setReg (O.YARD_STATE 1) 7).setReg (O.YARD_ENCRYPT 1) 1).setYard 1 { inbox := [⟨3, 0, 0, false, true, 0, false, 0, true, false⟩] })).tickTo (7), 7, 1, ⟨3, 0, 0, false, true, 0, false, 0, true, false⟩, [], _, rfl, ?_, ?_, rfl, ?_, ?_, ?_⟩ <;> decide +kernel

theorem witness_YardMessageCommandsComplete_20 : ∃ (s u : State) (t : Nat) (p : Fin 4) (f : RxFrame) (rest : List RxFrame) (w : State),
    u = s.tickTo t ∧ (u.yard p.val).inbox = f :: rest ∧ f.ftype = 3 ∧ w = u.setYard p.val { u.yard p.val with inbox := rest } ∧ u.encrypts p.val = true ∧ f.ok = true ∧ f.tagOk = false ∧ f.covBad = true := by
  refine ⟨(((base.setReg (O.YARD_STATE 1) 7).setReg (O.YARD_ENCRYPT 1) 1).setYard 1 { inbox := [⟨3, 0, 0, false, true, 5, false, 0, false, true⟩] }), ((((base.setReg (O.YARD_STATE 1) 7).setReg (O.YARD_ENCRYPT 1) 1).setYard 1 { inbox := [⟨3, 0, 0, false, true, 5, false, 0, false, true⟩] })).tickTo (7), 7, 1, ⟨3, 0, 0, false, true, 5, false, 0, false, true⟩, [], _, rfl, ?_, ?_, rfl, ?_, ?_, ?_, ?_⟩ <;> decide +kernel

theorem witness_YardMessageCommandsComplete_21 : ∃ (s u : State) (t : Nat) (p : Fin 4) (f : RxFrame) (rest : List RxFrame) (w : State),
    u = s.tickTo t ∧ (u.yard p.val).inbox = f :: rest ∧ f.ftype = 3 ∧ w = u.setYard p.val { u.yard p.val with inbox := rest } ∧ u.encrypts p.val = true ∧ f.ok = true ∧ f.tagOk = false ∧ f.covBad = false := by
  refine ⟨(((base.setReg (O.YARD_STATE 1) 7).setReg (O.YARD_ENCRYPT 1) 1).setYard 1 { inbox := [⟨3, 0, 0, false, true, 5, false, 0, false, false⟩] }), ((((base.setReg (O.YARD_STATE 1) 7).setReg (O.YARD_ENCRYPT 1) 1).setYard 1 { inbox := [⟨3, 0, 0, false, true, 5, false, 0, false, false⟩] })).tickTo (7), 7, 1, ⟨3, 0, 0, false, true, 5, false, 0, false, false⟩, [], _, rfl, ?_, ?_, rfl, ?_, ?_, ?_, ?_⟩ <;> decide +kernel

theorem witness_YardMessageCommandsComplete_22 : ∃ (s u : State) (t : Nat) (r : Requester) (p : Fin 4) (slot : Nat),
    u = s.tickTo t ∧ u.writable r (O.YARD_KEY_ROTATE p.val) 1 = true ∧ slot = 1 - u.reg (O.YARD_KEY_ACTIVE p.val) ∧ (u.yard p.val).rot = none ∧ u.yardUp p.val = true ∧ u.encrypts p.val = true ∧ (u.linkKey p.val slot).isSome = true := by
  refine ⟨(((base.setReg (O.YARD_STATE 1) 7).setReg (O.YARD_ENCRYPT 1) 1).setImage (O.YARD_LINK_KEY0 1 + 1) (fill 32 3)), ((((base.setReg (O.YARD_STATE 1) 7).setReg (O.YARD_ENCRYPT 1) 1).setImage (O.YARD_LINK_KEY0 1 + 1) (fill 32 3))).tickTo (7), 7, .firmware .a, 1, 1, rfl, ?_, rfl, ?_, ?_, ?_, ?_⟩ <;> decide +kernel

theorem witness_YardMessageCommandsComplete_23 : ∃ (s u : State) (t : Nat) (r : Requester) (crc : Nat) (img : List Byte) (p : Fin 4) (slot : Fin 2) (tt : Nat) (z : Nat),
    u = s.tickTo t ∧ u.commitReady r (O.YARD_LINK_KEY0 p.val + slot.val) crc img = true ∧ img.length = 32 ∧ ¬ (u.encrypts p.val = true ∧ slot.val = u.reg (O.YARD_KEY_ACTIVE p.val)) ∧ tt = 0 ∧ tt = ttImage (ttTick z) (ttFine z) :=
  ⟨(base.setXfer (O.YARD_LINK_KEY0 1 + 1) (some ⟨.firmware .a, 0, fill 32 7, 0⟩)), ((base.setXfer (O.YARD_LINK_KEY0 1 + 1) (some ⟨.firmware .a, 0, fill 32 7, 0⟩))).tickTo (7), 7, .firmware .a, crc32 (fill 32 7), fill 32 7, 1, 1, 0, 0, rfl, State.commitReady_intro _ _ _ _ 0 (by first | rfl | decide) (by decide +kernel) (by decide +kernel) rfl, by decide +kernel, by decide +kernel, rfl, rfl⟩

theorem witness_YardMessageCommandsComplete_24 : ∃ (s u : State) (t : Nat) (r : Requester) (crc : Nat) (img : List Byte) (p : Fin 4) (tt : Nat) (w : State) (z : Nat),
    u = s.tickTo t ∧ u.commitReady r (O.YARD_VC_CFG p.val) crc img = true ∧ w = u.setXfer (O.YARD_VC_CFG p.val) none ∧ w.vcRefused p.val img = false ∧ tt = 0 ∧ tt = ttImage (ttTick z) (ttFine z) :=
  ⟨((base.setReg (O.YARD_STATE 1) 0).setXfer (O.YARD_VC_CFG 1) (some ⟨.firmware .a, 0, (List.range 8).flatMap fun _ => [0xFF#8, 0xFF#8, 0xFF#8, 0xFF#8, 1#8, 0#8, 0#8, 0#8], 0⟩)), (((base.setReg (O.YARD_STATE 1) 0).setXfer (O.YARD_VC_CFG 1) (some ⟨.firmware .a, 0, (List.range 8).flatMap fun _ => [0xFF#8, 0xFF#8, 0xFF#8, 0xFF#8, 1#8, 0#8, 0#8, 0#8], 0⟩))).tickTo (7), 7, .firmware .a, crc32 ((List.range 8).flatMap fun _ => [0xFF#8, 0xFF#8, 0xFF#8, 0xFF#8, 1#8, 0#8, 0#8, 0#8]), (List.range 8).flatMap fun _ => [0xFF#8, 0xFF#8, 0xFF#8, 0xFF#8, 1#8, 0#8, 0#8, 0#8], 1, 0, _, 0, rfl, State.commitReady_intro _ _ _ _ 0 (by first | rfl | decide) (by decide +kernel) (by decide +kernel) rfl, rfl, by decide +kernel, rfl, rfl⟩

theorem witness_YardMessageCommandsComplete_25 : ∃ (s u : State) (t : Nat) (p : Fin 4) (frames : List (List Byte)) (good : List Byte → Bool),
    u = s.tickTo t ∧ u.reg (O.YARD_STATE p.val) = 0 ∧ u.isSet (O.YARD_WAKE_EN p.val) = true ∧ u.reg (O.SHED_STATE (quadStop p.val 22)) ≠ 3 ∧ 64 ≤ frames.length ∧ good = (fun b => b.length == 42 && hcrcOk (scrambleTrain (bytesBits b)) && pcrcOk (scrambleTrain (bytesBits b)) && frameField (scrambleTrain (bytesBits b)) 0 2 == 3 && frameField (scrambleTrain (bytesBits b)) 2 6 == 7 && frameField (scrambleTrain (bytesBits b)) 16 16 == 0xE4B1 && frameField (scrambleTrain (bytesBits b)) 176 8 == u.reg O.ID_YARD_ID) ∧ (frames.drop (frames.length - 64)).all good = true := by
  refine ⟨(((base.setReg (O.YARD_STATE 1) 0).setReg (O.YARD_WAKE_EN 1) 1).setReg (O.SHED_STATE 45) 0), ((((base.setReg (O.YARD_STATE 1) 0).setReg (O.YARD_WAKE_EN 1) 1).setReg (O.SHED_STATE 45) 0)).tickTo (7), 7, 1, List.replicate 64 wakeFrame, _, rfl, ?_, ?_, ?_, ?_, rfl, (by simp only [List.length_replicate, List.drop_replicate, Nat.sub_self, Nat.sub_zero, List.all_replicate]; decide +kernel)⟩ <;> decide +kernel

theorem witness_FabricPortCommandsComplete_1 : ∃ (s u : State) (t : Nat) (q : Fin 4) (i : Fin 64) (k : Nat) (x : FlPort) (v : FabricWord),
    u = (s.tickTo t).fabricPre ∧ k = 64 * q.val + i.val ∧ x = u.flPort k ∧ u.laneInput q.val (flPlace i.val).1 (flPlace i.val).2 = some v ∧ u.tileEdgeNow q.val (flPlace i.val).1 (flPlace i.val).2 = true ∧ x.buf.length < 8 :=
  ⟨fabBase, ((fabBase).tickTo (2560000)).fabricPre, 2560000, 0, 0, _, _, ⟨0, 0, 0, 0, 0, false, false, false⟩, rfl, rfl, rfl, (by decide +kernel), (by decide +kernel), by decide +kernel⟩

theorem witness_FabricPortCommandsComplete_2 : ∃ (s u : State) (t : Nat) (q : Fin 4) (i : Fin 64) (k : Nat) (x : FlPort),
    u = (s.tickTo t).fabricPre ∧ k = 64 * q.val + i.val ∧ x = u.flPort k ∧ (u.laneInput q.val (flPlace i.val).1 (flPlace i.val).2 = none ∨ u.tileEdgeNow q.val (flPlace i.val).1 (flPlace i.val).2 = false ∨ 8 ≤ x.buf.length) :=
  ⟨base, ((base).tickTo (7)).fabricPre, 7, 0, 0, _, _, rfl, rfl, rfl, (.inr (.inl (by decide +kernel)))⟩

theorem witness_FabricPortCommandsComplete_3 : ∃ (s u : State) (t : Nat) (ch : Fin 144) (e : Nat × Nat) (rest : List (Nat × Nat)) (w : State),
    u = (s.tickTo t).fabricPre ∧ (u.ser ch.val).rxWords = e :: rest ∧ w = u.setSer ch.val { u.ser ch.val with rxWords := rest } ∧ (Tbl.get [] u.rxBuf ch.val).length < 16 :=
  ⟨(base.setSer 3 { rxWords := [(7, 1)] }), (((base.setSer 3 { rxWords := [(7, 1)] })).tickTo (7)).fabricPre, 7, 3, (7, 1), [], _, rfl, by decide +kernel, rfl, by decide +kernel⟩

theorem witness_FabricPortCommandsComplete_4 : ∃ (s u : State) (t : Nat) (ch : Fin 144) (e : Nat × Nat) (rest : List (Nat × Nat)) (w : State),
    u = (s.tickTo t).fabricPre ∧ (u.ser ch.val).rxWords = e :: rest ∧ w = u.setSer ch.val { u.ser ch.val with rxWords := rest } ∧ 16 ≤ (Tbl.get [] u.rxBuf ch.val).length :=
  ⟨{ (base.setSer 3 { rxWords := [(7, 1)] }) with rxBuf := [(3, List.replicate 16 (0, 0))] }, (({ (base.setSer 3 { rxWords := [(7, 1)] }) with rxBuf := [(3, List.replicate 16 (0, 0))] }).tickTo (7)).fabricPre, 7, 3, (7, 1), [], _, rfl, by decide +kernel, rfl, by decide +kernel⟩

theorem witness_FabricPortCommandsComplete_5 : ∃ (s u : State) (t : Nat) (ch : Fin 144),
    u = (s.tickTo t).fabricPre ∧ (u.ser ch.val).rxWords = [] :=
  ⟨base, ((base).tickTo (7)).fabricPre, 7, 3, rfl, by decide +kernel⟩

theorem witness_FabricPortCommandsComplete_6 : ∃ (s u : State) (t : Nat) (q : Fin 4) (k : Fin 2) (n r b : Nat) (w : State),
    u = (s.tickTo t).fabricPre ∧ n = 2 * q.val + k.val ∧ r = 156 + 9 * k.val ∧ b = u.boundTo false q.val k.val ∧ u.tileEdgeNow q.val 48 r = true ∧ (u.qport n).ready u.now = true ∧ u.portIn q.val 48 r 256 1 ≠ 0 ∧ w = (u.bump (O.FP_QP_OFFERS q.val) 1).qportBusy n none ∧ b = 0xFFFF :=
  ⟨(fabBase.setReg (O.FP_QP0 0) 0xFFFF), (((fabBase.setReg (O.FP_QP0 0) 0xFFFF)).tickTo (2560000)).fabricPre, 2560000, 0, 0, _, _, _, _, rfl, rfl, rfl, rfl, (by decide +kernel), (by decide +kernel), (by decide +kernel), rfl, rfl⟩

theorem witness_FabricPortCommandsComplete_7 : ∃ (s u : State) (t : Nat) (q : Fin 4) (k : Fin 2) (n r b : Nat) (w : State),
    u = (s.tickTo t).fabricPre ∧ n = 2 * q.val + k.val ∧ r = 156 + 9 * k.val ∧ b = u.boundTo false q.val k.val ∧ u.tileEdgeNow q.val 48 r = true ∧ (u.qport n).ready u.now = true ∧ u.portIn q.val 48 r 256 1 ≠ 0 ∧ w = (u.bump (O.FP_QP_OFFERS q.val) 1).qportBusy n none ∧ b ≠ 0xFFFF := by
  refine ⟨(fabBase.setReg (O.FP_QP0 0) 9), (((fabBase.setReg (O.FP_QP0 0) 9)).tickTo (2560000)).fabricPre, 2560000, 0, 0, _, _, _, _, rfl, rfl, rfl, rfl, ?_, ?_, ?_, rfl, ?_⟩ <;> decide +kernel

theorem witness_FabricPortCommandsComplete_8 : ∃ (s u : State) (t : Nat) (q : Fin 4) (k : Fin 2),
    u = (s.tickTo t).fabricPre ∧ (u.tileEdgeNow q.val 48 (156 + 9 * k.val) = false ∨ (u.qport (2 * q.val + k.val)).ready u.now = false ∨ u.portIn q.val 48 (156 + 9 * k.val) 256 1 = 0) :=
  ⟨base, ((base).tickTo (7)).fabricPre, 7, 0, 0, rfl, (.inl (by decide +kernel))⟩

theorem witness_FabricPortCommandsComplete_9 : ∃ (s u : State) (t : Nat) (q : Fin 4) (k : Fin 2) (n r b : Nat) (g : List Byte),
    u = (s.tickTo t).fabricPre ∧ n = 8 + 2 * q.val + k.val ∧ r = 156 + 9 * k.val ∧ b = u.boundTo true q.val k.val ∧ u.tileEdgeNow q.val 48 r = true ∧ u.portIn q.val 48 r 257 1 ≠ 0 ∧ u.presented n b u.now = some g :=
  ⟨((fabBase.setReg (O.FP_QC0 0) 9).setQueue 9 { base := 0, size := 4, loc := true, prod := 1 }), ((((fabBase.setReg (O.FP_QC0 0) 9).setQueue 9 { base := 0, size := 4, loc := true, prod := 1 })).tickTo (2560000)).fabricPre, 2560000, 0, 0, _, _, _, _, rfl, rfl, rfl, rfl, (by decide +kernel), (by decide +kernel), rfl⟩

theorem witness_FabricPortCommandsComplete_10 : ∃ (s u : State) (t : Nat) (q : Fin 4) (k : Fin 2),
    u = (s.tickTo t).fabricPre ∧ (u.tileEdgeNow q.val 48 (156 + 9 * k.val) = false ∨ u.portIn q.val 48 (156 + 9 * k.val) 257 1 = 0 ∨ u.presented (8 + 2 * q.val + k.val) (u.boundTo true q.val k.val) u.now = none) :=
  ⟨base, ((base).tickTo (7)).fabricPre, 7, 0, 0, rfl, (.inl (by decide +kernel))⟩

theorem witness_FabricPortCommandsComplete_11 : ∃ (s u : State) (t : Nat) (r : Requester) (q : Fin 4) (k : Fin 2) (v : Nat),
    u = s.tickTo t ∧ u.writable r (qportObj false q.val k.val) v = true ∧ (u.qport (2 * q.val + k.val)).offers.any (·.isNone) = false ∧ (v < 0x8000 ∨ v = 0xFFFF) :=
  ⟨base, (base).tickTo (7), 7, .firmware .a, 0, 1, 9, rfl, by decide +kernel, by decide +kernel, by decide +kernel⟩

theorem witness_FabricPortCommandsComplete_12 : ∃ (s u : State) (t : Nat) (r : Requester) (q : Fin 4) (k : Fin 2) (v : Nat),
    u = s.tickTo t ∧ u.writable r (qportObj true q.val k.val) v = true ∧ v < 0x8000 ∧ (u.queue v).ckind = 0 ∧ u.otherConsumer q.val k.val v = false ∧ u.yardConsumes v = false := by
  refine ⟨base, (base).tickTo (7), 7, .firmware .a, 0, 1, 9, rfl, ?_, ?_, ?_, ?_, ?_⟩ <;> decide +kernel

theorem witness_FabricPortCommandsComplete_13 : ∃ (s u : State) (t : Nat) (r : Requester) (q : Fin 4) (k : Fin 2),
    u = s.tickTo t ∧ u.writable r (qportObj true q.val k.val) 0xFFFF = true :=
  ⟨base, (base).tickTo (7), 7, .firmware .a, 0, 1, rfl, by decide +kernel⟩

theorem witness_FabricPortCommandsComplete_14 : ∃ (s u : State) (t : Nat) (r : Requester) (p : Fin 8) (v : Nat),
    u = s.tickTo t ∧ u.writable r (O.PROBE_SOURCE p.val) v = true ∧ v / 2 ^ 12 ≤ 5 ∧ ((v / 2 ^ 12 = 0 → v % 2 ^ 12 = 0)) ∧ ((v / 2 ^ 12 = 1 → v % 2 ^ 12 ≤ 255)) ∧ ((v / 2 ^ 12 = 2 → v % 2 ^ 12 ≤ 287)) ∧ ((v / 2 ^ 12 = 3 → v % 2 ^ 12 ≤ 511)) ∧ ((v / 2 ^ 12 = 4 → v % 2 ^ 12 ≤ 7)) ∧ ((v / 2 ^ 12 = 5 → v % 2 ^ 12 ≤ 2)) := by
  refine ⟨base, (base).tickTo (7), 7, .firmware .a, 3, 0x1005, rfl, ?_, ?_, ?_, ?_, ?_, ?_, ?_, ?_⟩ <;> decide +kernel

theorem witness_FabricPortCommandsComplete_15 : ∃ (s u : State) (t : Nat) (r : Requester) (g : Fin 48) (v : Nat),
    u = s.tickTo t ∧ u.writable r (O.GPIO_IDELAY g.val) v = true :=
  ⟨base, (base).tickTo (7), 7, .firmware .a, 3, 5, rfl, by decide +kernel⟩

theorem witness_FabricPortCommandsComplete_16 : ∃ (s u : State) (t : Nat) (m : Fin 2304) (upsets : List (Nat × Nat)) (q c r : Nat) (w : State),
    u = (s.tickTo t).fabricPre ∧ w = u.bmUpsets m.val upsets ∧ q = m.val / 576 ∧ c = memCols.getD (m.val / 48 % 12) 12 ∧ r = 4 * (m.val % 48) :=
  ⟨base, ((base).tickTo (7)).fabricPre, 7, 3, [(5, 9)], _, _, _, _, rfl, rfl, rfl, rfl, rfl⟩

theorem witness_FabricPortCommandsComplete_17 : ∃ (s u : State) (t : Nat) (p : Fin 24) (a : Sched) (e : Nat) (b w v z : State),
    u = s.tickTo t ∧ u.sched .swap p.val = some a ∧ u.due .swap p.val a = true ∧ u.domainRunning (356 + p.val) = true ∧ u.shedOn (padShed p.val) = true ∧ e = u.effectAt .swap p.val a ∧ b = u.fabricTo (e - 1) ∧ w = (b.swapFfs p.val ((((b.fabricTo e).endAction .swap p.val 1).abortAudit p.val).exchange p.val)).swapMacs p.val ∧ v = (padMems p.val).foldl (fun (s : State) m => if (s.memCfg m).testBit 46 then s else s.reloadMem m) w ∧ z = (((((v.setReg (O.PAD_LIVE_ID p.val) (v.reg (O.PAD_SHADOW_ID p.val))).setReg (O.PAD_SHADOW_ID p.val) (v.reg (O.PAD_LIVE_ID p.val))).bump (O.PAD_SWAPS p.val) 1).setReg (O.PAD_SWAP_STATUS p.val) Status.okay.code).setReg (O.PAD_LAST_SWAP_TT p.val) (v.ttOf e)) := by
  refine ⟨({ relBase with scheds := [(schedKey .swap 3, some ⟨3, 0, 0⟩)] } : State), (({ relBase with scheds := [(schedKey .swap 3, some ⟨3, 0, 0⟩)] } : State)).tickTo (2 ^ 60), 2 ^ 60, 3, ⟨3, 0, 0⟩, _, _, _, _, _, rfl, ?_, ?_, ?_, ?_, rfl, rfl, rfl, rfl, rfl⟩ <;> decide +kernel

theorem witness_FabricPortCommandsComplete_18 : ∃ (s u : State) (t : Nat) (p : Fin 24) (a : Sched),
    u = s.tickTo t ∧ u.sched .swap p.val = some a ∧ u.due .swap p.val a = true ∧ (u.domainRunning (356 + p.val) = false ∨ u.shedOn (padShed p.val) = false) :=
  ⟨({ (base.setReg (O.SHED_STATE 16) 3) with scheds := [(schedKey .swap 3, some ⟨3, 0, 0⟩)] } : State), (({ (base.setReg (O.SHED_STATE 16) 3) with scheds := [(schedKey .swap 3, some ⟨3, 0, 0⟩)] } : State)).tickTo (2 ^ 60), 2 ^ 60, 3, ⟨3, 0, 0⟩, rfl, by decide +kernel, by decide +kernel, by decide +kernel⟩

theorem witness_FabricPortCommandsComplete_19 : ∃ (s u : State) (t : Nat) (p : Fin 24) (w : State),
    u = s.tickTo t ∧ (u.pad p.val).holdUntil ≠ 0 ∧ (u.pad p.val).holdUntil ≤ u.now ∧ w = u.fabricTo (u.pad p.val).holdUntil :=
  ⟨(base.setPad 3 { holdUntil := 9 }), ((base.setPad 3 { holdUntil := 9 })).tickTo (2 ^ 10), 2 ^ 10, 3, _, rfl, by decide +kernel, by decide +kernel, rfl⟩

theorem witness_ConfigurationCommandsComplete_1 : ∃ (s u : State) (t : Nat) (bus : List PortEdge),
    u = s.tickTo t ∧ u.portTakes 1 = true :=
  ⟨(((base.setReg O.CFG_CFG_STATE 1).setReg O.CFG_CFG_MODE 0).setCfg {  }), ((((base.setReg O.CFG_CFG_STATE 1).setReg O.CFG_CFG_MODE 0).setCfg {  })).tickTo (7), 7, [⟨false, 5⟩], rfl, by decide +kernel⟩

theorem witness_ConfigurationCommandsComplete_2 : ∃ (s u : State) (t : Nat),
    u = s.tickTo t ∧ u.reg O.CFG_CFG_MODE = 1 ∧ u.portTakes 1 = true :=
  ⟨(((base.setReg O.CFG_CFG_STATE 1).setReg O.CFG_CFG_MODE 1).setCfg {  }), ((((base.setReg O.CFG_CFG_STATE 1).setReg O.CFG_CFG_MODE 1).setCfg {  })).tickTo (7), 7, rfl, by decide +kernel, by decide +kernel⟩

theorem witness_ConfigurationCommandsComplete_3 : ∃ (s u : State) (t : Nat) (d : BitVec 32),
    u = s.tickTo t ∧ u.reg O.CFG_CFG_MODE = 1 ∧ u.portTakes 1 = true ∧ d ≠ 0x5A3C96E1 :=
  ⟨(((base.setReg O.CFG_CFG_STATE 1).setReg O.CFG_CFG_MODE 1).setCfg {  }), ((((base.setReg O.CFG_CFG_STATE 1).setReg O.CFG_CFG_MODE 1).setCfg {  })).tickTo (7), 7, 5, rfl, by decide +kernel, by decide +kernel, by decide +kernel⟩

theorem witness_ConfigurationCommandsComplete_4 : ∃ (s u : State) (t : Nat) (d : BitVec 32) (l : List Nat),
    u = s.tickTo t ∧ u.reg O.CFG_CFG_MODE = 0 ∧ u.portTakes 1 = true ∧ l = (d.toNat % 16 :: u.cfg.nibs).take 8 ∧ nibWord l = 0x5A3C96E1 :=
  ⟨(((base.setReg O.CFG_CFG_STATE 1).setReg O.CFG_CFG_MODE 0).setCfg { nibs := [0xE, 6, 9, 0xC, 3, 0xA, 5] }), ((((base.setReg O.CFG_CFG_STATE 1).setReg O.CFG_CFG_MODE 0).setCfg { nibs := [0xE, 6, 9, 0xC, 3, 0xA, 5] })).tickTo (7), 7, 1, _, rfl, by decide +kernel, by decide +kernel, rfl, by decide +kernel⟩

theorem witness_ConfigurationCommandsComplete_5 : ∃ (s u : State) (t : Nat) (d : BitVec 32) (l : List Nat),
    u = s.tickTo t ∧ u.reg O.CFG_CFG_MODE = 0 ∧ u.portTakes 1 = true ∧ l = (d.toNat % 16 :: u.cfg.nibs).take 8 ∧ nibWord l ≠ 0x5A3C96E1 :=
  ⟨(((base.setReg O.CFG_CFG_STATE 1).setReg O.CFG_CFG_MODE 0).setCfg { nibs := [0xE, 6, 9] }), ((((base.setReg O.CFG_CFG_STATE 1).setReg O.CFG_CFG_MODE 0).setCfg { nibs := [0xE, 6, 9] })).tickTo (7), 7, 1, _, rfl, by decide +kernel, by decide +kernel, rfl, by decide +kernel⟩

theorem witness_ConfigurationCommandsComplete_6 : ∃ (s u : State) (t n : Nat) (bus : List PortEdge) (i : Instr), u = s.tickTo t ∧
    ((i = .header t bus ∧ (n = 1 ∨ n = 9 ∨ 10 < n)) ∨ (i = .locate t bus ∧ n = 2) ∨ (i = .writeFrames t bus ∧ n = 3) ∨ (i = .repeat t bus ∧ n = 4) ∨ (i = .zwrite t bus ∧ n = 5) ∨ (i = .crc t bus ∧ n = 6) ∨ (i = .startup t bus ∧ n = 7) ∨ (i = .fwload t bus ∧ n = 8) ∨ (i = .seal t bus ∧ n = 10) ∨ (i = .nop t bus ∧ n = 0)) ∧ u.portTakes 2 = true ∧ (∀ c, u.busCmd bus = some c → c = n) :=
  ⟨(((base.setReg O.CFG_CFG_STATE 2).setReg O.CFG_CFG_MODE 1).setCfg { loader := { header := true } }), ((((base.setReg O.CFG_CFG_STATE 2).setReg O.CFG_CFG_MODE 1).setCfg { loader := { header := true } })).tickTo 7, 7, 0, [⟨false, 0⟩], .nop 7 [⟨false, 0⟩], rfl, .inr (.inr (.inr (.inr (.inr (.inr (.inr (.inr (.inr (⟨rfl, rfl⟩))))))))), by decide +kernel, (by intro c h; exact Option.some.inj h.symm)⟩

theorem witness_ConfigurationCommandsComplete_7 : ∃ (s u : State) (t n : Nat) (bus : List PortEdge) (i : Instr) (w : BitVec 32) (d : Loader) (x : State), u = s.tickTo t ∧
    ((i = .header t bus ∧ (n = 1 ∨ n = 9 ∨ 10 < n)) ∨ (i = .locate t bus ∧ n = 2) ∨ (i = .writeFrames t bus ∧ n = 3) ∨ (i = .repeat t bus ∧ n = 4) ∨ (i = .zwrite t bus ∧ n = 5) ∨ (i = .crc t bus ∧ n = 6) ∨ (i = .startup t bus ∧ n = 7) ∨ (i = .fwload t bus ∧ n = 8) ∨ (i = .seal t bus ∧ n = 10) ∨ (i = .nop t bus ∧ n = 0)) ∧ u.portTakes 2 = true ∧ (u.reg O.CFG_CFG_MODE = 1) ∧ (bus = [⟨false, w⟩]) ∧ ((if u.cfg.loader.left = 0 then w.toNat / 2 ^ 24 else u.cfg.loader.cmd) = n) ∧ (u.takeWord none u.cfg.loader w.toNat = .on d x) ∧ (d.sealed = false) :=
  ⟨(((base.setReg O.CFG_CFG_STATE 2).setReg O.CFG_CFG_MODE 1).setCfg { loader := { header := true } }), ((((base.setReg O.CFG_CFG_STATE 2).setReg O.CFG_CFG_MODE 1).setCfg { loader := { header := true } })).tickTo 7, 7, 0, [⟨false, 0⟩], .nop 7 [⟨false, 0⟩], 0, _, _, rfl, .inr (.inr (.inr (.inr (.inr (.inr (.inr (.inr (.inr (⟨rfl, rfl⟩))))))))), by decide +kernel, by decide +kernel, rfl, by decide +kernel, rfl, rfl⟩

theorem witness_ConfigurationCommandsComplete_8 : ∃ (s u : State) (t n : Nat) (bus : List PortEdge) (i : Instr) (w : BitVec 32) (d : Loader) (x : State), u = s.tickTo t ∧
    ((i = .header t bus ∧ (n = 1 ∨ n = 9 ∨ 10 < n)) ∨ (i = .locate t bus ∧ n = 2) ∨ (i = .writeFrames t bus ∧ n = 3) ∨ (i = .repeat t bus ∧ n = 4) ∨ (i = .zwrite t bus ∧ n = 5) ∨ (i = .crc t bus ∧ n = 6) ∨ (i = .startup t bus ∧ n = 7) ∨ (i = .fwload t bus ∧ n = 8) ∨ (i = .seal t bus ∧ n = 10) ∨ (i = .nop t bus ∧ n = 0)) ∧ u.portTakes 2 = true ∧ (u.reg O.CFG_CFG_MODE = 1) ∧ (bus = [⟨false, w⟩]) ∧ ((if u.cfg.loader.left = 0 then w.toNat / 2 ^ 24 else u.cfg.loader.cmd) = n) ∧ (u.takeWord none u.cfg.loader w.toNat = .on d x) ∧ (d.sealed = true) :=
  ⟨(((base.setReg O.CFG_CFG_STATE 2).setReg O.CFG_CFG_MODE 1).setCfg { loader := { header := true, afterCrc := true, firmware := 1 } }), ((((base.setReg O.CFG_CFG_STATE 2).setReg O.CFG_CFG_MODE 1).setCfg { loader := { header := true, afterCrc := true, firmware := 1 } })).tickTo 7, 7, 10, [⟨false, 0x0A000000⟩], .seal 7 [⟨false, 0x0A000000⟩], 0x0A000000, _, _, rfl, .inr (.inr (.inr (.inr (.inr (.inr (.inr (.inr (.inl ⟨rfl, rfl⟩)))))))), by decide +kernel, by decide +kernel, rfl, by decide +kernel, rfl, rfl⟩

theorem witness_ConfigurationCommandsComplete_9 : ∃ (s u : State) (t n : Nat) (bus : List PortEdge) (i : Instr) (w : BitVec 32) (cause addr : Nat) (x : State), u = s.tickTo t ∧
    ((i = .header t bus ∧ (n = 1 ∨ n = 9 ∨ 10 < n)) ∨ (i = .locate t bus ∧ n = 2) ∨ (i = .writeFrames t bus ∧ n = 3) ∨ (i = .repeat t bus ∧ n = 4) ∨ (i = .zwrite t bus ∧ n = 5) ∨ (i = .crc t bus ∧ n = 6) ∨ (i = .startup t bus ∧ n = 7) ∨ (i = .fwload t bus ∧ n = 8) ∨ (i = .seal t bus ∧ n = 10) ∨ (i = .nop t bus ∧ n = 0)) ∧ u.portTakes 2 = true ∧ (u.reg O.CFG_CFG_MODE = 1) ∧ (bus = [⟨false, w⟩]) ∧ ((if u.cfg.loader.left = 0 then w.toNat / 2 ^ 24 else u.cfg.loader.cmd) = n) ∧ (u.takeWord none u.cfg.loader w.toNat = .err cause addr x) :=
  ⟨(((base.setReg O.CFG_CFG_STATE 2).setReg O.CFG_CFG_MODE 1).setCfg {  }), ((((base.setReg O.CFG_CFG_STATE 2).setReg O.CFG_CFG_MODE 1).setCfg {  })).tickTo 7, 7, 11, [⟨false, 0x0B000000⟩], .header 7 [⟨false, 0x0B000000⟩], 0x0B000000, _, _, _, rfl, .inl ⟨rfl, (by decide +kernel)⟩, by decide +kernel, by decide +kernel, rfl, by decide +kernel, rfl⟩

theorem witness_ConfigurationCommandsComplete_10 : ∃ (s u : State) (t n : Nat) (bus : List PortEdge) (i : Instr) (e : BitVec 32), u = s.tickTo t ∧
    ((i = .header t bus ∧ (n = 1 ∨ n = 9 ∨ 10 < n)) ∨ (i = .locate t bus ∧ n = 2) ∨ (i = .writeFrames t bus ∧ n = 3) ∨ (i = .repeat t bus ∧ n = 4) ∨ (i = .zwrite t bus ∧ n = 5) ∨ (i = .crc t bus ∧ n = 6) ∨ (i = .startup t bus ∧ n = 7) ∨ (i = .fwload t bus ∧ n = 8) ∨ (i = .seal t bus ∧ n = 10) ∨ (i = .nop t bus ∧ n = 0)) ∧ u.portTakes 2 = true ∧ (u.reg O.CFG_CFG_MODE = 0) ∧ (bus = [⟨false, e⟩]) ∧ (u.cfg.nibs.length < 7) ∧ (u.cfg.loader.left = 0 ∨ u.cfg.loader.cmd = n) :=
  ⟨(((base.setReg O.CFG_CFG_STATE 2).setReg O.CFG_CFG_MODE 0).setCfg { loader := { header := true } }), ((((base.setReg O.CFG_CFG_STATE 2).setReg O.CFG_CFG_MODE 0).setCfg { loader := { header := true } })).tickTo 7, 7, 0, [⟨false, 0⟩], .nop 7 [⟨false, 0⟩], 0, rfl, .inr (.inr (.inr (.inr (.inr (.inr (.inr (.inr (.inr (⟨rfl, rfl⟩))))))))), by decide +kernel, by decide +kernel, rfl, by decide +kernel, by decide +kernel⟩

theorem witness_ConfigurationCommandsComplete_11 : ∃ (s u : State) (t n : Nat) (bus : List PortEdge) (i : Instr) (e : BitVec 32) (w : Nat), u = s.tickTo t ∧
    ((i = .header t bus ∧ (n = 1 ∨ n = 9 ∨ 10 < n)) ∨ (i = .locate t bus ∧ n = 2) ∨ (i = .writeFrames t bus ∧ n = 3) ∨ (i = .repeat t bus ∧ n = 4) ∨ (i = .zwrite t bus ∧ n = 5) ∨ (i = .crc t bus ∧ n = 6) ∨ (i = .startup t bus ∧ n = 7) ∨ (i = .fwload t bus ∧ n = 8) ∨ (i = .seal t bus ∧ n = 10) ∨ (i = .nop t bus ∧ n = 0)) ∧ u.portTakes 2 = true ∧ (u.reg O.CFG_CFG_MODE = 0) ∧ (bus = [⟨false, e⟩]) ∧ (u.cfg.nibs.length = 7) ∧ (w = nibWord (e.toNat % 16 :: u.cfg.nibs)) ∧ ((if u.cfg.loader.left = 0 then w / 2 ^ 24 else u.cfg.loader.cmd) = n) :=
  ⟨(((base.setReg O.CFG_CFG_STATE 2).setReg O.CFG_CFG_MODE 0).setCfg { loader := { header := true }, nibs := [0, 0, 0, 0, 0, 0, 0] }), ((((base.setReg O.CFG_CFG_STATE 2).setReg O.CFG_CFG_MODE 0).setCfg { loader := { header := true }, nibs := [0, 0, 0, 0, 0, 0, 0] })).tickTo 7, 7, 0, [⟨false, 0⟩], .nop 7 [⟨false, 0⟩], 0, _, rfl, .inr (.inr (.inr (.inr (.inr (.inr (.inr (.inr (.inr (⟨rfl, rfl⟩))))))))), by decide +kernel, by decide +kernel, rfl, by decide +kernel, rfl, by decide +kernel⟩

theorem witness_ConfigurationCommandsComplete_12 : ∃ (s u : State) (t : Nat),
    u = s.tickTo t ∧ u.reg O.CFG_CFG_MODE = 1 ∧ u.portTakes 2 = true ∧ u.cfg.loader.left = 0 ∧ u.cfg.loader.sealed = false ∧ u.cfg.loader.header = true := by
  refine ⟨(((base.setReg O.CFG_CFG_STATE 2).setReg O.CFG_CFG_MODE 1).setCfg { loader := { header := true } }), ((((base.setReg O.CFG_CFG_STATE 2).setReg O.CFG_CFG_MODE 1).setCfg { loader := { header := true } })).tickTo (7), 7, rfl, ?_, ?_, ?_, ?_, ?_⟩ <;> decide +kernel

theorem witness_ConfigurationCommandsComplete_13 : ∃ (s u : State) (t : Nat) (l : BitVec 32),
    u = s.tickTo t ∧ u.reg O.CFG_CFG_MODE = 1 ∧ u.portTakes 2 = true ∧ u.cfg.loader.left = 0 ∧ u.cfg.loader.sealed = false ∧ u.cfg.loader.header = true := by
  refine ⟨(((base.setReg O.CFG_CFG_STATE 2).setReg O.CFG_CFG_MODE 1).setCfg { loader := { header := true } }), ((((base.setReg O.CFG_CFG_STATE 2).setReg O.CFG_CFG_MODE 1).setCfg { loader := { header := true } })).tickTo (7), 7, 77#32, rfl, ?_, ?_, ?_, ?_, ?_⟩ <;> decide +kernel

theorem witness_ConfigurationCommandsComplete_14 : ∃ (s u : State) (t : Nat) (c : BitVec 32),
    u = s.tickTo t ∧ u.reg O.CFG_CFG_MODE = 1 ∧ u.portTakes 2 = true ∧ u.cfg.loader.left = 0 ∧ u.cfg.loader.sealed = false ∧ u.cfg.loader.header = true ∧ u.cfg.loader.crc ^^^ 0xFFFFFFFF = c.toNat := by
  refine ⟨(((base.setReg O.CFG_CFG_STATE 2).setReg O.CFG_CFG_MODE 1).setCfg { loader := { header := true } }), ((((base.setReg O.CFG_CFG_STATE 2).setReg O.CFG_CFG_MODE 1).setCfg { loader := { header := true } })).tickTo (7), 7, 0#32, rfl, ?_, ?_, ?_, ?_, ?_, ?_⟩ <;> decide +kernel

theorem witness_ConfigurationCommandsComplete_15 : ∃ (s u : State) (t : Nat) (c : BitVec 32),
    u = s.tickTo t ∧ u.reg O.CFG_CFG_MODE = 1 ∧ u.portTakes 2 = true ∧ u.cfg.loader.left = 0 ∧ u.cfg.loader.sealed = false ∧ u.cfg.loader.header = true ∧ u.cfg.loader.crc ^^^ 0xFFFFFFFF ≠ c.toNat := by
  refine ⟨(((base.setReg O.CFG_CFG_STATE 2).setReg O.CFG_CFG_MODE 1).setCfg { loader := { header := true } }), ((((base.setReg O.CFG_CFG_STATE 2).setReg O.CFG_CFG_MODE 1).setCfg { loader := { header := true } })).tickTo (7), 7, 5#32, rfl, ?_, ?_, ?_, ?_, ?_, ?_⟩ <;> decide +kernel

theorem witness_ConfigurationCommandsComplete_16 : ∃ (s u : State) (t : Nat) (b c d : BitVec 32),
    u = s.tickTo t ∧ u.reg O.CFG_CFG_MODE = 1 ∧ u.portTakes 2 = true ∧ u.cfg.loader.left = 0 ∧ u.cfg.loader.sealed = false ∧ u.cfg.loader.header = false ∧ (c.toNat + d.toNat * 2 ^ 32 = 0 ∨ c.toNat + d.toNat * 2 ^ 32 = u.reg O.ID_SERIAL) := by
  refine ⟨(((base.setReg O.CFG_CFG_STATE 2).setReg O.CFG_CFG_MODE 1).setCfg {  }), ((((base.setReg O.CFG_CFG_STATE 2).setReg O.CFG_CFG_MODE 1).setCfg {  })).tickTo (7), 7, 7#32, 0#32, 0#32, rfl, ?_, ?_, ?_, ?_, ?_, ?_⟩ <;> decide +kernel

theorem witness_ConfigurationCommandsComplete_17 : ∃ (s u : State) (t : Nat),
    u = s.tickTo t ∧ u.reg O.CFG_CFG_MODE = 1 ∧ u.portTakes 2 = true ∧ u.cfg.loader.left = 0 ∧ u.cfg.loader.sealed = false ∧ u.cfg.loader.header = true ∧ u.cfg.loader.afterCrc = true ∧ (match u.cfg.loader.startup with | some l => (stepArgs l 7).any (fun m => decide (m &&& (3 - u.cfg.loader.firmware) ≠ 0)) | none => u.cfg.loader.firmware == 0) = false := by
  refine ⟨(((base.setReg O.CFG_CFG_STATE 2).setReg O.CFG_CFG_MODE 1).setCfg { loader := { header := true, afterCrc := true, firmware := 1 } }), ((((base.setReg O.CFG_CFG_STATE 2).setReg O.CFG_CFG_MODE 1).setCfg { loader := { header := true, afterCrc := true, firmware := 1 } })).tickTo (7), 7, rfl, ?_, ?_, ?_, ?_, ?_, ?_, ?_⟩ <;> decide +kernel

theorem witness_ConfigurationCommandsComplete_18 : ∃ (s u : State) (t : Nat) (d : Loader) (w : State),
    u = s.tickTo t ∧ w = (List.range 28).foldl (fun (s : State) r => s.setRef r (s.planeCrc r)) u ∧ u.cfg.loader = d ∧ u.reg O.CFG_CFG_MODE = 1 ∧ u.portTakes 2 = true ∧ d.left = 0 ∧ d.sealed = false ∧ d.header = true ∧ d.afterCrc = true ∧ d.startup = none ∧ d.firmware ≠ 0 := by
  refine ⟨(((base.setReg O.CFG_CFG_STATE 2).setReg O.CFG_CFG_MODE 1).setCfg { loader := { header := true, afterCrc := true, firmware := 1 } }), ((((base.setReg O.CFG_CFG_STATE 2).setReg O.CFG_CFG_MODE 1).setCfg { loader := { header := true, afterCrc := true, firmware := 1 } })).tickTo (7), 7, _, _, rfl, rfl, rfl, ?_, ?_, ?_, ?_, ?_, ?_, ?_, ?_⟩ <;> decide +kernel

theorem witness_ConfigurationCommandsComplete_19 : ∃ (s u : State) (t : Nat),
    u = s.tickTo t ∧ u.reg O.CFG_CFG_STATE = 0 ∧ u.cfg.errLow = true :=
  ⟨(((base.setReg O.CFG_CFG_STATE 0).setReg O.CFG_CFG_MODE 0).setCfg { errLow := true }), ((((base.setReg O.CFG_CFG_STATE 0).setReg O.CFG_CFG_MODE 0).setCfg { errLow := true })).tickTo (7), 7, rfl, by decide +kernel, by decide +kernel⟩

theorem witness_ConfigurationCommandsComplete_20 : ∃ (s u : State) (t : Nat) (p : Fin 24),
    u = s.tickTo t :=
  ⟨(base.setPad 3 { clearing := true }), ((base.setPad 3 { clearing := true })).tickTo (7), 7, 3, rfl⟩

theorem witness_ConfigurationCommandsComplete_21 : ∃ (s u : State) (t : Nat) (r : Requester) (p : Fin 24),
    u = s.tickTo t ∧ u.writable r (O.PAD_SHADOW_DISCARD p.val) 1 = true ∧ u.sched .swap p.val = none ∧ u.reg (O.PAD_SHADOW_STATE p.val) = 2 :=
  ⟨(base.setReg (O.PAD_SHADOW_STATE 3) 2), ((base.setReg (O.PAD_SHADOW_STATE 3) 2)).tickTo (7), 7, .firmware .a, 3, rfl, by decide +kernel, by decide +kernel, by decide +kernel⟩

theorem witness_ConfigurationCommandsComplete_22 : ∃ (s u : State) (t : Nat) (r : Requester) (at_ : Nat),
    u = s.tickTo t ∧ u.writable r O.AUD_AUDIT_START 1 = true ∧ u.hostAudit = none ∧ at_ = (match u.autoAudit with | some a => max u.now (a.start + auditUnits a.region) | none => u.now) :=
  ⟨base, (base).tickTo (7), 7, .firmware .a, _, rfl, by decide +kernel, by decide +kernel, rfl⟩

theorem witness_ConfigurationCommandsComplete_23 : ∃ (s u : State) (t : Nat) (changed : Option (BitVec 32)) (a : Audit) (crc : Nat),
    u = s.tickTo t ∧ u.autoAudit = some a ∧ a.start + auditUnits a.region ≤ u.now ∧ crc = (match changed with | some c => c.toNat | none => u.planeCrc a.region) :=
  ⟨({ base with autoAudit := some ⟨0, 0⟩ } : State), (({ base with autoAudit := some ⟨0, 0⟩ } : State)).tickTo (2 ^ 60), 2 ^ 60, some 7#32, ⟨0, 0⟩, _, rfl, by decide +kernel, (by simp only [audit_units]; decide), rfl⟩

theorem witness_ConfigurationCommandsComplete_24 : ∃ (s u : State) (t : Nat) (changed : Option (BitVec 32)) (a : Audit) (crc : Nat) (w : State),
    u = s.tickTo t ∧ u.autoAudit = none ∧ u.hostAudit = some a ∧ a.start + auditUnits a.region ≤ u.now ∧ crc = (match changed with | some c => c.toNat | none => u.planeCrc a.region) ∧ w = { u with hostAudit := none }.auditEnd a.region crc :=
  ⟨({ base with hostAudit := some ⟨0, 0⟩ } : State), (({ base with hostAudit := some ⟨0, 0⟩ } : State)).tickTo (2 ^ 60), 2 ^ 60, some 7#32, ⟨0, 0⟩, _, _, rfl, by decide +kernel, by decide +kernel, (by simp only [audit_units]; decide), rfl, rfl⟩

theorem witness_ConfigurationCommandsComplete_25 : ∃ (s u : State) (t : Nat),
    u = s.tickTo t ∧ u.reg O.AUD_AUTO_PERIOD ≠ 0 ∧ u.autoAt + u.reg O.AUD_AUTO_PERIOD * Config.msUnits ≤ u.now ∧ u.hostAudit = none ∧ u.autoAudit = none := by
  refine ⟨(base.setReg O.AUD_AUTO_PERIOD 1), ((base.setReg O.AUD_AUTO_PERIOD 1)).tickTo (2 ^ 60), 2 ^ 60, rfl, ?_, ?_, ?_, ?_⟩ <;> decide +kernel

theorem witness_EngineInstructionsComplete_1 : ∃ (s u f g : State) (t : Nat) (e : Fin 512) (i : Instr) (d : State),
    u = s.tickTo t ∧ f.comes t e i ∧ u.turnOf e.val f g ∧ (g.stalls e.val u.wc).any = false ∧ g.noHalt e.val u.wc ∧ (g.engine e.val).wait = none ∧ g.readsBad e.val = none ∧ d = g.engReads e.val ∧ (d.illegalCause e.val u.wc = none ∨ (g.engine e.val).fresh = false) ∧ iOp (g.insn e.val) ≠ 0x07 ∧ iOp (g.insn e.val) ≠ 0x08 ∧ iOp (g.insn e.val) ≠ 0x0B ∧ iOp (g.insn e.val) ≠ 0x0C :=
  ⟨engBase 0x21 5 7 0, (engBase 0x21 5 7 0).tickTo (2 ^ 40), _, _, 2 ^ 40, 0, .addi (2 ^ 40) 0, _, rfl, .inl ⟨0x21, by simp [seqCommands], (by decide +kernel)⟩, ⟨rfl, (by decide +kernel), (by decide +kernel), (by decide +kernel), (by decide +kernel), rfl, (by decide +kernel), (by decide +kernel), (by decide +kernel)⟩, (by decide +kernel), .inr (.inr (by decide +kernel)), (by decide +kernel), (by decide +kernel), rfl, .inl (by decide +kernel), (by decide +kernel), (by decide +kernel), (by decide +kernel), (by decide +kernel)⟩

theorem witness_EngineInstructionsComplete_2 : ∃ (s u f g : State) (t : Nat) (e : Fin 512) (i : Instr) (d : State) (c : Nat),
    u = s.tickTo t ∧ f.comes t e i ∧ u.turnOf e.val f g ∧ (g.stalls e.val u.wc).any = false ∧ g.noHalt e.val u.wc ∧ (g.engine e.val).wait = none ∧ g.readsBad e.val = none ∧ d = g.engReads e.val ∧ (g.engine e.val).fresh = true ∧ d.illegalCause e.val u.wc = some c :=
  ⟨engBase 0x3F 5 7 0, (engBase 0x3F 5 7 0).tickTo (2 ^ 40), _, _, 2 ^ 40, 0, .next (2 ^ 40) 0, _, 1, rfl, .inr (.inr (.inr (.inr (.inr (.inr ⟨rfl, .inl (by decide +kernel)⟩))))), ⟨rfl, (by decide +kernel), (by decide +kernel), (by decide +kernel), (by decide +kernel), rfl, (by decide +kernel), (by decide +kernel), (by decide +kernel)⟩, (by decide +kernel), .inr (.inl (by decide +kernel)), (by decide +kernel), (by decide +kernel), rfl, (by decide +kernel), (by decide +kernel)⟩

theorem witness_EngineInstructionsComplete_3 : ∃ (s u f g : State) (t : Nat) (e : Fin 512) (i : Instr) (b : Nat),
    u = s.tickTo t ∧ f.comes t e i ∧ u.turnOf e.val f g ∧ (g.stalls e.val u.wc).any = false ∧ g.noHalt e.val u.wc ∧ (g.engine e.val).wait = none ∧ g.readsBad e.val = some b :=
  ⟨{ engBase 0x21 5 7 0 with badWords := [(badKey 0 0 0, true)] }, ({ engBase 0x21 5 7 0 with badWords := [(badKey 0 0 0, true)] }).tickTo (2 ^ 40), _, _, 2 ^ 40, 0, .addi (2 ^ 40) 0, 0, rfl, .inl ⟨0x21, by simp [seqCommands], (by decide +kernel)⟩, ⟨rfl, (by decide +kernel), (by decide +kernel), (by decide +kernel), (by decide +kernel), rfl, (by decide +kernel), (by decide +kernel), (by decide +kernel)⟩, (by decide +kernel), .inr (.inr (by decide +kernel)), (by decide +kernel), (by decide +kernel)⟩

theorem witness_EngineInstructionsComplete_4 : ∃ (s u f g : State) (t : Nat) (e : Fin 512) (i : Instr) (d : State) (n : Nat),
    u = s.tickTo t ∧ f.comes t e i ∧ u.turnOf e.val f g ∧ (g.stalls e.val u.wc).any = false ∧ g.noHalt e.val u.wc ∧ (g.engine e.val).wait = none ∧ g.readsBad e.val = none ∧ d = g.engReads e.val ∧ (d.illegalCause e.val u.wc = none ∨ (g.engine e.val).fresh = false) ∧ iOp (g.insn e.val) = 0x07 ∧ n = d.beginsWait e.val (g.insn e.val) u.wc ∧ 0 < n :=
  ⟨((engBase 0x07 0 0 0).setReg (O.ENG_G0 0) 200), (((engBase 0x07 0 0 0).setReg (O.ENG_G0 0) 200)).tickTo (2 ^ 20), _, _, 2 ^ 20, 0, .waittt (2 ^ 20) 0, _, _, rfl, .inr (.inr (.inl ⟨rfl, (by decide +kernel), (by decide +kernel)⟩)), ⟨rfl, (by decide +kernel), (by decide +kernel), (by decide +kernel), (by decide +kernel), rfl, (by decide +kernel), (by decide +kernel), (by decide +kernel)⟩, (by decide +kernel), .inr (.inr (by decide +kernel)), (by decide +kernel), (by decide +kernel), rfl, .inl (by decide +kernel), (by decide +kernel), rfl, (by decide +kernel)⟩

theorem witness_EngineInstructionsComplete_5 : ∃ (s u f g : State) (t : Nat) (e : Fin 512) (i : Instr) (d : State),
    u = s.tickTo t ∧ f.comes t e i ∧ u.turnOf e.val f g ∧ (g.stalls e.val u.wc).any = false ∧ g.noHalt e.val u.wc ∧ (g.engine e.val).wait = none ∧ g.readsBad e.val = none ∧ d = g.engReads e.val ∧ (d.illegalCause e.val u.wc = none ∨ (g.engine e.val).fresh = false) ∧ iOp (g.insn e.val) = 0x07 ∧ d.beginsWait e.val (g.insn e.val) u.wc = 0 :=
  ⟨engBase 0x07 0 0 0, (engBase 0x07 0 0 0).tickTo (2 ^ 40), _, _, 2 ^ 40, 0, .waittt (2 ^ 40) 0, _, rfl, .inr (.inr (.inl ⟨rfl, (by decide +kernel), (by decide +kernel)⟩)), ⟨rfl, (by decide +kernel), (by decide +kernel), (by decide +kernel), (by decide +kernel), rfl, (by decide +kernel), (by decide +kernel), (by decide +kernel)⟩, (by decide +kernel), .inr (.inr (by decide +kernel)), (by decide +kernel), (by decide +kernel), rfl, .inl (by decide +kernel), (by decide +kernel), (by decide +kernel)⟩

theorem witness_EngineInstructionsComplete_6 : ∃ (s u f g : State) (t : Nat) (e : Fin 512) (i : Instr) (d : State) (n : Nat),
    u = s.tickTo t ∧ f.comes t e i ∧ u.turnOf e.val f g ∧ (g.stalls e.val u.wc).any = false ∧ g.noHalt e.val u.wc ∧ (g.engine e.val).wait = none ∧ g.readsBad e.val = none ∧ d = g.engReads e.val ∧ (d.illegalCause e.val u.wc = none ∨ (g.engine e.val).fresh = false) ∧ iOp (g.insn e.val) = 0x08 ∧ n = d.beginsWait e.val (g.insn e.val) u.wc ∧ 0 < n :=
  ⟨((engBase 0x08 0 0 0).setReg (O.ENG_G0 0) 200), (((engBase 0x08 0 0 0).setReg (O.ENG_G0 0) 200)).tickTo (2 ^ 20), _, _, 2 ^ 20, 0, .waitc (2 ^ 20) 0, _, _, rfl, .inr (.inr (.inr (.inr (.inl ⟨rfl, (by decide +kernel), (by decide +kernel)⟩)))), ⟨rfl, (by decide +kernel), (by decide +kernel), (by decide +kernel), (by decide +kernel), rfl, (by decide +kernel), (by decide +kernel), (by decide +kernel)⟩, (by decide +kernel), .inr (.inr (by decide +kernel)), (by decide +kernel), (by decide +kernel), rfl, .inl (by decide +kernel), (by decide +kernel), rfl, (by decide +kernel)⟩

theorem witness_EngineInstructionsComplete_7 : ∃ (s u f g : State) (t : Nat) (e : Fin 512) (i : Instr) (d : State),
    u = s.tickTo t ∧ f.comes t e i ∧ u.turnOf e.val f g ∧ (g.stalls e.val u.wc).any = false ∧ g.noHalt e.val u.wc ∧ (g.engine e.val).wait = none ∧ g.readsBad e.val = none ∧ d = g.engReads e.val ∧ (d.illegalCause e.val u.wc = none ∨ (g.engine e.val).fresh = false) ∧ iOp (g.insn e.val) = 0x08 ∧ d.beginsWait e.val (g.insn e.val) u.wc = 0 :=
  ⟨engBase 0x08 0 0 0, (engBase 0x08 0 0 0).tickTo (2 ^ 40), _, _, 2 ^ 40, 0, .waitc (2 ^ 40) 0, _, rfl, .inr (.inr (.inr (.inr (.inl ⟨rfl, (by decide +kernel), (by decide +kernel)⟩)))), ⟨rfl, (by decide +kernel), (by decide +kernel), (by decide +kernel), (by decide +kernel), rfl, (by decide +kernel), (by decide +kernel), (by decide +kernel)⟩, (by decide +kernel), .inr (.inr (by decide +kernel)), (by decide +kernel), (by decide +kernel), rfl, .inl (by decide +kernel), (by decide +kernel), (by decide +kernel)⟩

theorem witness_EngineInstructionsComplete_8 : ∃ (s u f g : State) (t : Nat) (e : Fin 512) (i : Instr) (due : Nat),
    u = s.tickTo t ∧ f.comes t e i ∧ u.turnOf e.val f g ∧ (g.stalls e.val u.wc).any = false ∧ g.noHalt e.val u.wc ∧ (g.engine e.val).wait = some due ∧ u.wc < due :=
  ⟨((engBase 0x07 0 0 0).setEngine 0 { wait := some (2 ^ 60), waitTt := true }), (((engBase 0x07 0 0 0).setEngine 0 { wait := some (2 ^ 60), waitTt := true })).tickTo (2 ^ 20), _, _, 2 ^ 20, 0, .waittt (2 ^ 20) 0, 2 ^ 60, rfl, .inr (.inr (.inl ⟨rfl, (by decide +kernel), (by decide +kernel)⟩)), ⟨rfl, (by decide +kernel), (by decide +kernel), (by decide +kernel), (by decide +kernel), rfl, (by decide +kernel), (by decide +kernel), (by decide +kernel)⟩, (by decide +kernel), .inl (by decide +kernel), (by decide +kernel), (by decide +kernel)⟩

theorem witness_EngineInstructionsComplete_9 : ∃ (s u f g : State) (t : Nat) (e : Fin 512) (i : Instr) (due : Nat),
    u = s.tickTo t ∧ f.comes t e i ∧ u.turnOf e.val f g ∧ (g.stalls e.val u.wc).any = false ∧ g.noHalt e.val u.wc ∧ (g.engine e.val).wait = some due ∧ due ≤ u.wc ∧ (g.engine e.val).waitTt = true :=
  ⟨((engBase 0x07 0 0 0).setEngine 0 { wait := some 5, waitTt := true }), (((engBase 0x07 0 0 0).setEngine 0 { wait := some 5, waitTt := true })).tickTo (2 ^ 40), _, _, 2 ^ 40, 0, .waitttRetire (2 ^ 40) 0, 5, rfl, .inr (.inr (.inr (.inl ⟨rfl, (by decide +kernel), (by decide +kernel)⟩))), ⟨rfl, (by decide +kernel), (by decide +kernel), (by decide +kernel), (by decide +kernel), rfl, (by decide +kernel), (by decide +kernel), (by decide +kernel)⟩, (by decide +kernel), .inl (by decide +kernel), (by decide +kernel), (by decide +kernel), (by decide +kernel)⟩

theorem witness_EngineInstructionsComplete_10 : ∃ (s u f g : State) (t : Nat) (e : Fin 512) (i : Instr) (due : Nat),
    u = s.tickTo t ∧ f.comes t e i ∧ u.turnOf e.val f g ∧ (g.stalls e.val u.wc).any = false ∧ g.noHalt e.val u.wc ∧ (g.engine e.val).wait = some due ∧ due ≤ u.wc ∧ (g.engine e.val).waitTt = false :=
  ⟨((engBase 0x08 0 0 0).setEngine 0 { wait := some 5, waitTt := false }), (((engBase 0x08 0 0 0).setEngine 0 { wait := some 5, waitTt := false })).tickTo (2 ^ 40), _, _, 2 ^ 40, 0, .waitcRetire (2 ^ 40) 0, 5, rfl, .inr (.inr (.inr (.inr (.inr (.inl ⟨rfl, (by decide +kernel), (by decide +kernel)⟩))))), ⟨rfl, (by decide +kernel), (by decide +kernel), (by decide +kernel), (by decide +kernel), rfl, (by decide +kernel), (by decide +kernel), (by decide +kernel)⟩, (by decide +kernel), .inl (by decide +kernel), (by decide +kernel), (by decide +kernel), (by decide +kernel)⟩

theorem witness_EngineInstructionsComplete_11 : ∃ (s u f g : State) (t : Nat) (e : Fin 512) (i : Instr) (d : State) (b : List Byte),
    u = s.tickTo t ∧ f.comes t e i ∧ u.turnOf e.val f g ∧ (g.stalls e.val u.wc).any = false ∧ g.noHalt e.val u.wc ∧ (g.engine e.val).wait = none ∧ g.readsBad e.val = none ∧ d = g.engReads e.val ∧ (d.illegalCause e.val u.wc = none ∨ (g.engine e.val).fresh = false) ∧ iOp (g.insn e.val) = 0x0B ∧ (d.engine e.val).scrDone < 31 ∧ b = (d.engine e.val).scrBytes ++ d.feedRead (e.val / 32) (d.eG e.val (iD (d.insn e.val)) + 16 * (d.engine e.val).scrDone) 16 :=
  ⟨engBase 0x0B 0 0 0, (engBase 0x0B 0 0 0).tickTo (2 ^ 40), _, _, 2 ^ 40, 0, .scrld (2 ^ 40) 0, _, _, rfl, .inl ⟨0x0B, by simp [seqCommands], (by decide +kernel)⟩, ⟨rfl, (by decide +kernel), (by decide +kernel), (by decide +kernel), (by decide +kernel), rfl, (by decide +kernel), (by decide +kernel), (by decide +kernel)⟩, (by decide +kernel), .inr (.inr (by decide +kernel)), (by decide +kernel), (by decide +kernel), rfl, .inl (by decide +kernel), (by decide +kernel), (by decide +kernel), rfl⟩

theorem witness_EngineInstructionsComplete_12 : ∃ (s u f g : State) (t : Nat) (e : Fin 512) (i : Instr) (d : State) (b : List Byte),
    u = s.tickTo t ∧ f.comes t e i ∧ u.turnOf e.val f g ∧ (g.stalls e.val u.wc).any = false ∧ g.noHalt e.val u.wc ∧ (g.engine e.val).wait = none ∧ g.readsBad e.val = none ∧ d = g.engReads e.val ∧ (d.illegalCause e.val u.wc = none ∨ (g.engine e.val).fresh = false) ∧ iOp (g.insn e.val) = 0x0B ∧ (d.engine e.val).scrDone = 31 ∧ b = (d.engine e.val).scrBytes ++ d.feedRead (e.val / 32) (d.eG e.val (iD (d.insn e.val)) + 16 * (d.engine e.val).scrDone) 16 ∧ fieldLE b 0 4 = 0x53435242 :=
  ⟨((engBase 0x0B 0 0 0).setEngine 0 { scrDone := 31, scrBytes := [0x42#8, 0x52#8, 0x43#8, 0x53#8] }), (((engBase 0x0B 0 0 0).setEngine 0 { scrDone := 31, scrBytes := [0x42#8, 0x52#8, 0x43#8, 0x53#8] })).tickTo (2 ^ 40), _, _, 2 ^ 40, 0, .scrld (2 ^ 40) 0, _, _, rfl, .inl ⟨0x0B, by simp [seqCommands], (by decide +kernel)⟩, ⟨rfl, (by decide +kernel), (by decide +kernel), (by decide +kernel), (by decide +kernel), rfl, (by decide +kernel), (by decide +kernel), (by decide +kernel)⟩, (by decide +kernel), .inl (by decide +kernel), (by decide +kernel), (by decide +kernel), rfl, .inr (by decide +kernel), (by decide +kernel), (by decide +kernel), rfl, (by decide +kernel)⟩

theorem witness_EngineInstructionsComplete_13 : ∃ (s u f g : State) (t : Nat) (e : Fin 512) (i : Instr) (d : State) (b : List Byte),
    u = s.tickTo t ∧ f.comes t e i ∧ u.turnOf e.val f g ∧ (g.stalls e.val u.wc).any = false ∧ g.noHalt e.val u.wc ∧ (g.engine e.val).wait = none ∧ g.readsBad e.val = none ∧ d = g.engReads e.val ∧ (d.illegalCause e.val u.wc = none ∨ (g.engine e.val).fresh = false) ∧ iOp (g.insn e.val) = 0x0B ∧ (d.engine e.val).scrDone = 31 ∧ b = (d.engine e.val).scrBytes ++ d.feedRead (e.val / 32) (d.eG e.val (iD (d.insn e.val)) + 16 * (d.engine e.val).scrDone) 16 ∧ fieldLE b 0 4 ≠ 0x53435242 :=
  ⟨((engBase 0x0B 0 0 0).setEngine 0 { scrDone := 31, scrBytes := [] }), (((engBase 0x0B 0 0 0).setEngine 0 { scrDone := 31, scrBytes := [] })).tickTo (2 ^ 40), _, _, 2 ^ 40, 0, .scrld (2 ^ 40) 0, _, _, rfl, .inl ⟨0x0B, by simp [seqCommands], (by decide +kernel)⟩, ⟨rfl, (by decide +kernel), (by decide +kernel), (by decide +kernel), (by decide +kernel), rfl, (by decide +kernel), (by decide +kernel), (by decide +kernel)⟩, (by decide +kernel), .inl (by decide +kernel), (by decide +kernel), (by decide +kernel), rfl, .inr (by decide +kernel), (by decide +kernel), (by decide +kernel), rfl, (by decide +kernel)⟩

theorem witness_EngineInstructionsComplete_14 : ∃ (s u f g : State) (t : Nat) (e : Fin 512) (i : Instr) (d : State),
    u = s.tickTo t ∧ f.comes t e i ∧ u.turnOf e.val f g ∧ (g.stalls e.val u.wc).any = false ∧ g.noHalt e.val u.wc ∧ (g.engine e.val).wait = none ∧ g.readsBad e.val = none ∧ d = g.engReads e.val ∧ (d.illegalCause e.val u.wc = none ∨ (g.engine e.val).fresh = false) ∧ iOp (g.insn e.val) = 0x0C :=
  ⟨engBase 0x0C 0 0 0, (engBase 0x0C 0 0 0).tickTo (2 ^ 40), _, _, 2 ^ 40, 0, .hclaim (2 ^ 40) 0, _, rfl, .inl ⟨0x0C, by simp [seqCommands], (by decide +kernel)⟩, ⟨rfl, (by decide +kernel), (by decide +kernel), (by decide +kernel), (by decide +kernel), rfl, (by decide +kernel), (by decide +kernel), (by decide +kernel)⟩, (by decide +kernel), .inr (.inr (by decide +kernel)), (by decide +kernel), (by decide +kernel), rfl, .inl (by decide +kernel), (by decide +kernel)⟩

theorem witness_EngineInstructionsComplete_15 : ∃ (s u f g : State) (t : Nat) (e : Fin 512) (i : Instr),
    u = s.tickTo t ∧ f.comes t e i ∧ u.turnOf e.val f g ∧ (g.stalls e.val u.wc).any = true :=
  ⟨((engBase 0x21 5 7 (9 * 2 ^ 28)).setReg (O.ENG_DSP_CONFIG 0) 0), (((engBase 0x21 5 7 (9 * 2 ^ 28)).setReg (O.ENG_DSP_CONFIG 0) 0)).tickTo (2 ^ 40), _, _, 2 ^ 40, 0, .addi (2 ^ 40) 0, rfl, .inl ⟨0x21, by simp [seqCommands], (by decide +kernel)⟩, ⟨rfl, (by decide +kernel), (by decide +kernel), (by decide +kernel), (by decide +kernel), rfl, (by decide +kernel), (by decide +kernel), (by decide +kernel)⟩, (by decide +kernel)⟩

theorem witness_EngineInstructionsComplete_16 : ∃ (s u f g : State) (t : Nat) (e : Fin 512) (i : Instr) (k : Nat) (x : State),
    u = s.tickTo t ∧ f.comes t e i ∧ u.turnOf e.val f g ∧ (g.stalls e.val u.wc).any = false ∧ (g.engine e.val).fresh = true ∧ g.illegalCause e.val u.wc = none ∧ g.haltingComp e.val = some k ∧ x = [0, 1].foldl (fun (s : State) k => if s.compMatches e.val k && s.compAction e.val k == 0 then s.countMatch e.val k else s) g :=
  ⟨((engBase 0x21 5 7 0).setImage O.ENGDBG_ENG_COMP (fill 14 0 ++ [1#8])), (((engBase 0x21 5 7 0).setImage O.ENGDBG_ENG_COMP (fill 14 0 ++ [1#8]))).tickTo (2 ^ 40), _, _, 2 ^ 40, 0, .addi (2 ^ 40) 0, 0, _, rfl, .inl ⟨0x21, by simp [seqCommands], (by decide +kernel)⟩, ⟨rfl, (by decide +kernel), (by decide +kernel), (by decide +kernel), (by decide +kernel), rfl, (by decide +kernel), (by decide +kernel), (by decide +kernel)⟩, (by decide +kernel), (by decide +kernel), (by decide +kernel), (by decide +kernel), rfl⟩

theorem witness_EngineInstructionsComplete_17 : ∃ (s u f x g : State) (t : Nat) (e : Fin 512) (c : Claim) (granted : Bool) (w : Nat), u = s.tickTo t ∧ f = u.haltPump.dspPump e.val u.wc ∧
    f.engineReady e.val u.wc = true ∧ ((f.engine e.val).dsStall = 0 ∨ u.wc < (f.engine e.val).dsStall) ∧ hasOp e.val 0x0C f = true ∧
    f.reg (O.ENG_GANG e.val) = 0 ∧ x = f.countClaimStall e.val f.wc ∧ x.reg (O.ENG_GANG e.val) = 0 ∧ g = x.feedTurn (e.val / 32) u.wc ∧
    g.reg (O.ENG_GANG e.val) = 0 ∧ (g.engine e.val).free ≤ u.wc ∧ (g.engine e.val).claim = some c ∧ c.decided = some (granted, w) ∧
    (g.stalls e.val u.wc).any = false :=
  ⟨(engBase 0x0C 0 0 0).setEngine 0 { claim := some ⟨0, false, 0, 0, some (true, 5)⟩ }, _, _, _, _, 2 ^ 40, 0, ⟨0, false, 0, 0, some (true, 5)⟩, true, 5,
    rfl, rfl, (by decide +kernel), (by decide +kernel), (by decide +kernel), (by decide +kernel), rfl, (by decide +kernel), rfl, (by decide +kernel), (by decide +kernel), (by decide +kernel), (by decide +kernel), (by decide +kernel)⟩

theorem witness_EngineControlCommandsComplete_1 : ∃ (s u : State) (t : Nat) (e : Fin 512) (n m : Nat) (w : State),
    u = s.tickTo t ∧ u.refreshDue e.val = true ∧ n = u.reg (O.ENG_REF_PENDING e.val) ∧ m = u.reg (O.ENG_REF_MAXDEFER e.val) ∧ w = (u.setEngine e.val { u.engine e.val with refBase := (u.engine e.val).refBase + u.reg (O.ENG_RFI e.val) }).setReg (O.ENG_REF_PENDING e.val) (min 15 (n + 1)) ∧ n ≤ m ∧ m < min 15 (n + 1) :=
  ⟨(((engBase 0x21 5 7 0).setReg (O.ENG_RFI 0) 1).setReg (O.ENG_REF_MAXDEFER 0) 0), ((((engBase 0x21 5 7 0).setReg (O.ENG_RFI 0) 1).setReg (O.ENG_REF_MAXDEFER 0) 0)).tickTo (2 ^ 40), 2 ^ 40, 0, _, _, _, rfl, by decide +kernel, rfl, rfl, rfl, (by decide +kernel), (by decide +kernel)⟩

theorem witness_EngineControlCommandsComplete_2 : ∃ (s u : State) (t : Nat) (e : Fin 512) (n m : Nat) (w : State),
    u = s.tickTo t ∧ u.refreshDue e.val = true ∧ n = u.reg (O.ENG_REF_PENDING e.val) ∧ m = u.reg (O.ENG_REF_MAXDEFER e.val) ∧ w = (u.setEngine e.val { u.engine e.val with refBase := (u.engine e.val).refBase + u.reg (O.ENG_RFI e.val) }).setReg (O.ENG_REF_PENDING e.val) (min 15 (n + 1)) ∧ ¬ (n ≤ m ∧ m < min 15 (n + 1)) :=
  ⟨(((engBase 0x21 5 7 0).setReg (O.ENG_RFI 0) 1).setReg (O.ENG_REF_MAXDEFER 0) 3), ((((engBase 0x21 5 7 0).setReg (O.ENG_RFI 0) 1).setReg (O.ENG_REF_MAXDEFER 0) 3)).tickTo (2 ^ 40), 2 ^ 40, 0, _, _, _, rfl, by decide +kernel, rfl, rfl, rfl, (by decide +kernel)⟩

theorem witness_EngineControlCommandsComplete_3 : ∃ (s u : State) (t : Nat) (e : Fin 512) (a : Sched),
    u = s.tickTo t ∧ u.sched .start e.val = some a ∧ u.due .start e.val a = true ∧ u.reg (O.ENG_STATE e.val) = 3 :=
  ⟨({ ((engBase 0x21 5 7 0).setReg (O.ENG_STATE 0) 3) with scheds := [(schedKey .start 0, some ⟨3, 0, 0⟩)] } : State), (({ ((engBase 0x21 5 7 0).setReg (O.ENG_STATE 0) 3) with scheds := [(schedKey .start 0, some ⟨3, 0, 0⟩)] } : State)).tickTo (2 ^ 50), 2 ^ 50, 0, ⟨3, 0, 0⟩, rfl, by decide +kernel, by decide +kernel, by decide +kernel⟩

theorem witness_EngineControlCommandsComplete_4 : ∃ (s u : State) (t : Nat) (e : Fin 512) (a : Sched),
    u = s.tickTo t ∧ u.sched .start e.val = some a ∧ u.due .start e.val a = true ∧ u.reg (O.ENG_STATE e.val) ≠ 3 :=
  ⟨({ (engBase 0x21 5 7 0) with scheds := [(schedKey .start 0, some ⟨3, 0, 0⟩)] } : State), (({ (engBase 0x21 5 7 0) with scheds := [(schedKey .start 0, some ⟨3, 0, 0⟩)] } : State)).tickTo (2 ^ 50), 2 ^ 50, 0, ⟨3, 0, 0⟩, rfl, by decide +kernel, by decide +kernel, by decide +kernel⟩

theorem witness_EngineControlCommandsComplete_5 : ∃ (s u : State) (t : Nat) (r : Requester) (e : Fin 512) (w : State),
    u = s.tickTo t ∧ u.writable r (O.ENG_STOP_REQ e.val) 1 = true ∧ u.reg (O.ENG_STATE e.val) = 4 ∧ w = u.haltPump.dspPump e.val (u.wc + 1) ∧ (w.engine e.val).claim.isSome = true :=
  ⟨((engBase 0x21 5 7 0).setEngine 0 { claim := some ⟨0, false, 0, 0, none⟩ }), (((engBase 0x21 5 7 0).setEngine 0 { claim := some ⟨0, false, 0, 0, none⟩ })).tickTo (2 ^ 40), 2 ^ 40, .firmware .a, 0, _, rfl, by decide +kernel, by decide +kernel, rfl, by decide +kernel⟩

theorem witness_EngineControlCommandsComplete_6 : ∃ (s u : State) (t : Nat) (r : Requester) (e : Fin 512) (w : State),
    u = s.tickTo t ∧ u.writable r (O.ENG_STOP_REQ e.val) 1 = true ∧ u.reg (O.ENG_STATE e.val) = 4 ∧ w = u.haltPump.dspPump e.val (u.wc + 1) ∧ (w.engine e.val).claim = none ∧ ((w.engine e.val).fresh = false ∨ w.illegalCause e.val (u.wc + 1) = none) :=
  ⟨(engBase 0x21 5 7 0), ((engBase 0x21 5 7 0)).tickTo (2 ^ 40), 2 ^ 40, .firmware .a, 0, _, rfl, by decide +kernel, by decide +kernel, rfl, by decide +kernel, .inr (by decide +kernel)⟩

theorem witness_EngineControlCommandsComplete_7 : ∃ (s u : State) (t : Nat) (r : Requester) (e : Fin 512) (w : State) (c : Nat),
    u = s.tickTo t ∧ u.writable r (O.ENG_STOP_REQ e.val) 1 = true ∧ u.reg (O.ENG_STATE e.val) = 4 ∧ w = u.haltPump.dspPump e.val (u.wc + 1) ∧ (w.engine e.val).claim = none ∧ (w.engine e.val).fresh = true ∧ w.illegalCause e.val (u.wc + 1) = some c := by
  refine ⟨(engBase 0x3F 5 7 0), ((engBase 0x3F 5 7 0)).tickTo (2 ^ 40), 2 ^ 40, .firmware .a, 0, _, 1, rfl, ?_, ?_, rfl, ?_, ?_, ?_⟩ <;> decide +kernel

theorem witness_EngineControlCommandsComplete_8 : ∃ (s u : State) (t : Nat) (e : Fin 512) (r : Requester) (crc : Nat) (img : List Byte) (w : State),
    u = s.tickTo t ∧ u.commitReady r (O.ENG_PROGRAM e.val) crc img = true ∧ progRefused img = false ∧ (u.setXfer (O.ENG_PROGRAM e.val) none).loadProgram e.val u.wc img = (.okay, w) :=
  ⟨((base.setReg (O.ENG_STATE 0) 0).setXfer (O.ENG_PROGRAM 0) (some ⟨.firmware .a, 0, progImg 0, 0⟩)), (((base.setReg (O.ENG_STATE 0) 0).setXfer (O.ENG_PROGRAM 0) (some ⟨.firmware .a, 0, progImg 0, 0⟩))).tickTo (7), 7, 0, .firmware .a, _, progImg 0, _, rfl, State.commitReady_intro _ _ _ _ 0 (by first | rfl | decide) (by decide +kernel) (by decide +kernel) rfl, by decide +kernel, Prod.ext (by decide +kernel) rfl⟩

theorem witness_EngineControlCommandsComplete_9 : ∃ (s u : State) (t : Nat) (e : Fin 512) (a : Sched) (w v : State) (st : Status),
    u = s.tickTo t ∧ u.sched .load e.val = some a ∧ u.due .load e.val a = true ∧ u.marchEngine e.val = false ∧ w = { u with staged := Tbl.set [] u.staged (O.ENG_PROGRAM e.val) [] } ∧ w.loadProgram e.val (u.effectAt .load e.val a / Config.wordUnits) (Tbl.get [] u.staged (O.ENG_PROGRAM e.val)) = (st, v) :=
  ⟨({ (base.setReg O.MARCH_MARCH_STATE 0) with scheds := [(schedKey .load 0, some ⟨3, 0, 0⟩)] } : State), (({ (base.setReg O.MARCH_MARCH_STATE 0) with scheds := [(schedKey .load 0, some ⟨3, 0, 0⟩)] } : State)).tickTo (2 ^ 50), 2 ^ 50, 0, ⟨3, 0, 0⟩, _, _, _, rfl, by decide +kernel, by decide +kernel, by decide +kernel, rfl, Prod.ext rfl rfl⟩

theorem witness_EngineControlCommandsComplete_10 : ∃ (s u : State) (t : Nat) (e : Fin 512),
    u = s.tickTo t ∧ u.reg (O.ENG_STATE e.val) = 1 :=
  ⟨(base.setReg (O.ENG_STATE 0) 1), ((base.setReg (O.ENG_STATE 0) 1)).tickTo (7), 7, 0, rfl, by decide +kernel⟩

theorem witness_EngineControlCommandsComplete_11 : ∃ (s u : State) (t : Nat) (r : Requester) (e : Fin 512),
    u = s.tickTo t ∧ u.writable r (O.ENG_FAILED_MARK e.val) 1 = true :=
  ⟨base, (base).tickTo (7), 7, .firmware .a, 0, rfl, by decide +kernel⟩

theorem witness_EngineControlCommandsComplete_12 : ∃ (s u : State) (t : Nat) (q : Fin 4) (x : State) (p : HPort) (all rest cand served : List Nat) (e : Nat) (c : Claim) (granted : Bool) (w : State),
    u = s.tickTo t ∧ x = (List.range q.val).foldl State.portDecide u.tableDue.haltPump.disarmAll ∧ p = Tbl.get ({} : HPort) x.hports q.val ∧ all = x.claimants q.val x.wc ∧ rest = all.filter (fun e => !(if p.last = x.wc then p.served else []).contains e) ∧ (if rest = [] then (all, []) else (rest, if p.last = x.wc then p.served else [])) = (e :: cand, served) ∧ (x.engine e).claim = some c ∧ p.last ≠ x.wc + 1 ∧ x.decideClaim e c.line c.virt c.slot (x.wc - 3 - c.issued) = (granted, w) := by
  refine ⟨(base.setEngine 0 { claim := some ⟨0, false, 0, 0, none⟩ }), ((base.setEngine 0 { claim := some ⟨0, false, 0, 0, none⟩ })).tickTo (2 ^ 40), 2 ^ 40, 0, _, _, [0], [0], [], [], 0, ⟨0, false, 0, 0, none⟩, _, _, rfl, rfl, rfl, ?_, ?_, ?_, ?_, ?_, Prod.ext rfl rfl⟩ <;> decide +kernel

theorem witness_EngineControlCommandsComplete_13 : ∃ (s u : State) (t : Nat) (q : Fin 4) (x : State),
    u = s.tickTo t ∧ x = (List.range q.val).foldl State.portDecide u.tableDue.haltPump.disarmAll ∧ x.claimants q.val x.wc = [] :=
  ⟨base, (base).tickTo (2 ^ 20), 2 ^ 20, 0, _, rfl, rfl, (by decide +kernel)⟩

theorem witness_EngineControlCommandsComplete_14 : ∃ (s u : State) (t : Nat) (c : Fin 16) (r : Requester) (crc : Nat) (img : List Byte),
    u = s.tickTo t ∧ u.commitReady r (O.CLU_FEED_SCHED c.val) crc img = true ∧ img.length = 64 ∧ img.any (fun b => decide (b.toNat > 0x20) && b != 0xFF#8) = false :=
  ⟨(base.setXfer (O.CLU_FEED_SCHED 3) (some ⟨.firmware .a, 0, fill 64 0xFF, 0⟩)), ((base.setXfer (O.CLU_FEED_SCHED 3) (some ⟨.firmware .a, 0, fill 64 0xFF, 0⟩))).tickTo (7), 7, 3, .firmware .a, _, fill 64 0xFF, rfl, State.commitReady_intro _ _ _ _ 0 (by first | rfl | decide) (by decide +kernel) (by decide +kernel) rfl, by decide +kernel, by decide +kernel⟩

theorem witness_EngineControlCommandsComplete_15 : ∃ (s u : State) (t : Nat) (c : Fin 16) (a : Sched),
    u = s.tickTo t ∧ u.sched .feed c.val = some a ∧ u.due .feed c.val a = true :=
  ⟨({ base with scheds := [(schedKey .feed 3, some ⟨3, 0, 0⟩)] } : State), (({ base with scheds := [(schedKey .feed 3, some ⟨3, 0, 0⟩)] } : State)).tickTo (2 ^ 50), 2 ^ 50, 3, ⟨3, 0, 0⟩, rfl, by decide +kernel, by decide +kernel⟩

theorem witness_EngineControlCommandsComplete_16 : ∃ (s u : State) (t : Nat) (ch : Fin 144) (x : StepRec) (rest : List StepRec),
    u = s.tickTo t ∧ (u.chan ch.val).steps = x :: rest ∧ x.closed = true ∧ (u.chan ch.val).strobes.any (fun y => y.step == x.id) = false ∧ (u.retLanes ch.val).any (fun p => decide (64 ≤ ((u.dsp p.1).rf p.2).length) && u.popsNow p.1 p.2) = false :=
  ⟨(base.setChan 3 { steps := [⟨1, 0, 3, true, 0, true⟩] }), ((base.setChan 3 { steps := [⟨1, 0, 3, true, 0, true⟩] })).tickTo (7), 7, 3, ⟨1, 0, 3, true, 0, true⟩, [], rfl, by decide +kernel, by decide +kernel, by decide +kernel, (no_full _ rfl _)⟩

theorem witness_EngineControlCommandsComplete_17 : ∃ (s u : State) (t : Nat) (ch : Fin 144),
    u = s.tickTo t ∧ (u.chan ch.val).steps = [] :=
  ⟨base, (base).tickTo (7), 7, 3, rfl, by decide +kernel⟩

theorem witness_EngineControlCommandsComplete_18 : ∃ (s u : State) (t : Nat) (r : Requester) (crc : Nat) (img : List Byte) (e : Fin 512) (tt : Nat) (v w : State) (z : Nat),
    u = s.tickTo t ∧ u.commitReady r (O.ENG_DSP_STATE e.val) crc img = true ∧ v = u.setXfer (O.ENG_DSP_STATE e.val) none ∧ v.engineSafe e.val = true ∧ dspImageOk img = true ∧ w = (v.dspPump e.val v.wc).setDsp e.val { (v.dspPump e.val v.wc).dsp e.val with bank := bankAt img 0, ar := (List.range 4).map (fun k => fieldInt img (64 + 4 * k) 4), br := (List.range 4).map (fun k => fieldInt img (80 + 4 * k) 4), shadow := bankAt img 120 } ∧ tt = 0 ∧ tt = ttImage (ttTick z) (ttFine z) :=
  ⟨(base.setXfer (O.ENG_DSP_STATE 0) (some ⟨.firmware .a, 0, fill 256 0, 0⟩)), ((base.setXfer (O.ENG_DSP_STATE 0) (some ⟨.firmware .a, 0, fill 256 0, 0⟩))).tickTo (7), 7, .firmware .a, crc32 (fill 256 0), fill 256 0, 0, 0, _, _, 0, rfl, State.commitReady_intro _ _ _ _ 0 (by first | rfl | decide) (by decide +kernel) (by decide +kernel) rfl, rfl, by decide +kernel, by decide +kernel, rfl, rfl, rfl⟩
end

section
/-! How a step takes the front of its queue, and what it keeps: the statements on the queue, on time, on the tables of registers and
of images, and on completion. -/

namespace Sys2Proof.Machine

/-! ### Steps -/

/-- On an empty queue a step idles for one word clock. -/
theorem step_of_empty (s : State) (h : s.pending = []) : step s = .next s.idle := by
  simp only [step, h]

/-- Otherwise it runs the front command on the rest of the queue. -/
theorem step_of_front (s : State) (c : Instr) (r : List Instr) (h : s.pending = c :: r) : step s = exec c s.popped := by
  simp only [step, h]

/-- A state whose queue is empty has no front to lose. -/
theorem State.popped_of_empty (s : State) (h : s.pending = []) : s.popped = s := by
  simp only [State.popped, h, List.tail_nil]
  rw [← h]

/-- An idle word clock keeps what every command keeps. -/
theorem State.idle_kept (s : State) : Kept false s s.idle :=
  State.dspPumpAll_kept _ (State.fabricNow_kept _ ((Kept.refl s).tickTo _))

/-- Whatever a step answers keeps what the state without the front of its queue held. -/
theorem step_kept (s u : State) (h : step s = .next u) : Kept false s.popped u := by
  cases hp : s.pending with
  | nil =>
    rw [step_of_empty s hp] at h
    cases h
    rw [s.popped_of_empty hp]
    exact s.idle_kept
  | cons c r =>
    rw [step_of_front s c r hp] at h
    obtain ⟨w, hw, hk⟩ := exec_kept c s.popped
    rw [h] at hw
    cases hw
    exact hk

/-- Settles O7: what every step keeps holds the rest of the queue and does not let time run back. -/
theorem everyStepAdvances : Obligations.EveryStepAdvances := by
  intro s u h
  obtain ⟨hqueue, htime, -⟩ := step_kept s u h
  exact ⟨hqueue, htime⟩

/-- Settles O9: what every step keeps holds the canonical form of both tables. -/
theorem everyStepKeepsTables : Obligations.EveryStepKeepsTables := by
  intro s u hregs himages h
  obtain ⟨-, -, -, kregs, kimages, -⟩ := step_kept s u h
  exact ⟨kregs hregs, kimages himages⟩

/-- Settles O6: the law of every command gives the state it answers. -/
theorem everyCommandCompletes : Obligations.EveryCommandCompletes := by
  intro c s
  obtain ⟨u, hu, -⟩ := exec_kept c s
  exact ⟨u, hu⟩

/-- Settles O2: idling is one word clock of the fabric and of the datapaths. -/
theorem emptyQueueIdles : Obligations.EmptyQueueIdles := fun s h => step_of_empty s h

end Sys2Proof.Machine
end

section
/-! What a write of flags clears, and what a write that is turned away changes. -/

namespace Sys2Proof.Machine

/-! ### Flags (R46) -/

/-- The bits below 64 that a flag write clears: those written that hardware did not set in the same cycle. -/
theorem State.clearable_testBit (s : State) (o v b : Nat) (h : b < 64) :
    (s.clearable o v).testBit b = (v.testBit b && Tbl.get 0 s.flagCycle (flagKey o b) != s.cycleOf o + 1) := by
  rw [State.clearable, foldl_pick, decide_eq_true h, Bool.true_and]

/-- A flag after a flag write. -/
theorem State.clearFlags_testBit (s : State) (o v b : Nat) (h : b < 64) :
    ((s.clearFlags o v).reg o).testBit b = ((s.reg o).testBit b && !(s.clearable o v).testBit b) := by
  rw [State.clearFlags, State.reg_setReg_same, foldl_clear, decide_eq_true h, Bool.true_and]

/-- Settles O15: the flag write clears the clearable bits of its object, and is a write of that object alone. -/
theorem clearsWhatIsWritten : Obligations.ClearsWhatIsWritten := by
  intro s o v p b hb
  refine ⟨?_, fun hp => State.reg_setReg_ne s o p _ hp⟩
  rw [s.clearFlags_testBit o v b hb, s.clearable_testBit o v b hb]

/-! ### Writes that are turned away (R459) -/

/-- A write that is turned away completes with a status other than OKAY, and counts before that a charge denied at most. -/
theorem State.writeObj_turnedAway (s : State) (r : Requester) (o v : Nat) (f : Owner)
    (h : (s.checkAccess r o true).1 ≠ .okay ∨ formStatus o v ≠ .okay) :
    ∃ (u : State) (st : Status), (u = s ∨ u = s.bump O.LATCH_CHARGE_DENIED 1) ∧ st ≠ .okay ∧
      s.writeObj r o v f = u.complete r o true st [] := by
  rcases hc : s.checkAccess r o true with ⟨st, ch⟩
  rw [hc] at h
  by_cases hst : st = .okay
  · have hform : formStatus o v ≠ .okay := h.resolve_left fun hne => hne hst
    refine ⟨s, formStatus o v, .inl rfl, hform, ?_⟩
    subst hst
    simp only [State.writeObj, hc]
    split
    · contradiction
    · rfl
  · refine ⟨_, st, ?_, hst, s.writeObj_turned r o v f st ch hc hst⟩
    cases ch
    · exact .inl rfl
    · exact .inr rfl

/-- Settles O12: such a write is a completion with a status other than OKAY, whose frame is known. -/
theorem turnedAwayWritesOnlyCount : Obligations.TurnedAwayWritesOnlyCount := by
  intro s r o v f h
  obtain ⟨u, st, hu, hst, hw⟩ := s.writeObj_turnedAway r o v f h
  rw [hw]
  constructor
  · obtain ⟨m, i, hc⟩ := complete_shape u r o true st []
    refine ⟨m, i, ⟨st, []⟩, ?_, hst⟩
    rcases hu with rfl | rfl <;> exact hc
  · intro p hp hcount
    rw [reg_complete u r o p true st [] hp hcount]
    rcases hu with rfl | rfl
    · rfl
    · have hne : p ≠ O.LATCH_CHARGE_DENIED := fun e => hcount (by simp [e])
      rw [State.reg_bump, if_neg hne]

end Sys2Proof.Machine
end

section
/-! The state after reset. -/

namespace Sys2Proof.Machine

/-- After reset every register reads its default. -/
theorem State.reg_reset (o : Nat) : State.reset.reg o = regDefault o := rfl

/-- The default of an object is that of its card. -/
theorem regDefault_of_card (o : Nat) (c : Card) (h : cardOf o = some c) : regDefault o = c.dflt := by
  simp only [regDefault, h]

/-- An object without a card has the default 0. -/
theorem regDefault_of_none (o : Nat) (h : cardOf o = none) : regDefault o = 0 := by
  simp only [regDefault, h]

/-- The card of an object under its index and subindex. -/
theorem cardOf_index (i sub : Nat) (top : Nat) (cs : List Card) (hi : cardsOf i = some (top, cs)) (h0 : 0 < sub) (h1 : sub < 256) :
    cardOf (i * 256 + sub) = cs.find? fun c => c.sub == sub := by
  have e1 : (i * 256 + sub) / 256 = i := by omega
  have e2 : (i * 256 + sub) % 256 = sub := by omega
  simp only [cardOf, e1, e2, hi, if_neg (Nat.ne_of_gt h0)]

/-- STATE of session slot i rests at FREE. -/
theorem regDefault_sesState (i : Nat) (h : i < 64) : regDefault (O.SES_STATE i) = 0 := by
  have hc : cardsOf (0x1140 + i) = some (0x09, cards_SES i) := by
    simp only [cardsOf, inBlock, Bool.and_eq_true, decide_eq_true_eq, Nat.add_sub_cancel_left]
    simp (disch := omega) only [if_neg, if_pos]
  have e : O.SES_STATE i = (0x1140 + i) * 256 + 1 := by simp only [O.SES_STATE]; omega
  rw [e, regDefault_of_card _ _ (cardOf_index _ 1 _ _ hc (by decide) (by decide))]

/-- The cards of a channel are those of its quad but for QUAD_SCHEDULE (R113). -/
theorem find_quadOnly (ch sub : Nat) (cs : List Card) (h : sub ≠ 0x11) :
    (quadOnly ch cs).find? (fun c => c.sub == sub) = cs.find? fun c => c.sub == sub := by
  unfold quadOnly
  split
  · rfl
  · rw [List.find?_filter]
    congr 1
    funext c
    by_cases hc : c.sub = sub
    · simp [hc, h]
    · simp [hc]

/-- STATE of channel c rests at LATCHED. -/
theorem regDefault_chState (c : Nat) (h : c < 144) : regDefault (O.CH_STATE c) = 4 := by
  have hc : cardsOf (0x2000 + c) = some (0x1C, quadOnly c (cards_CH c)) := by
    simp only [cardsOf, inBlock, Bool.and_eq_true, decide_eq_true_eq, Nat.add_sub_cancel_left]
    simp (disch := omega) only [if_neg, if_pos]
  have e : O.CH_STATE c = (0x2000 + c) * 256 + 2 := by simp only [O.CH_STATE]; omega
  rw [e, regDefault_of_card _ _ ((cardOf_index _ 2 _ _ hc (by decide) (by decide)).trans (find_quadOnly c 2 _ (by decide)))]

/-- STATE of engine e rests at IDLE. -/
theorem regDefault_engState (e : Nat) (h : e < 512) : regDefault (O.ENG_STATE e) = 0 := by
  have hc : cardsOf (0x2400 + e) = some (0x60, cards_ENG e) := by
    simp only [cardsOf, inBlock, Bool.and_eq_true, decide_eq_true_eq, Nat.add_sub_cancel_left]
    simp (disch := omega) only [if_neg, if_pos]
  have e : O.ENG_STATE e = (0x2400 + e) * 256 + 1 := by simp only [O.ENG_STATE]; omega
  rw [e, regDefault_of_card _ _ (cardOf_index _ 1 _ _ hc (by decide) (by decide))]

/-- Settles O4: at reset every table, memory and queue is empty. -/
theorem resetIsWellKept : Obligations.ResetIsWellKept := ⟨rfl, rfl, rfl, rfl⟩

/-- Settles O5: a register after reset reads its default, which is that of its card. -/
theorem resetReadsTheCards : Obligations.ResetReadsTheCards := by
  refine ⟨fun o c h => regDefault_of_card o c h, fun o h => regDefault_of_none o h, rfl, ?_, ?_, ?_,
    fun i hi => regDefault_sesState i hi, fun c hc => regDefault_chState c hc, fun e he => regDefault_engState e he, ?_, ?_⟩
  all_goals rfl

end Sys2Proof.Machine
end

section
/-! Writes and reads of single objects: what a session's WRITE and MASK_WRITE, a store of firmware and a READ of each kind of object
leave. -/

namespace Sys2Proof.Machine

/-! ### Plain objects: of access RW, with no owner but their value -/

/-- A write of value v to a plain object o, whose card is c, that passes every check. -/
structure State.PlainWrite (s : State) (r : Requester) (o v : Nat) (c : Card) : Prop where
  granted : s.writable r o v = true
  card : cardOf o = some c
  readWrite : c.acc = .rw
  scalar : c.ty ≠ .domain
  unowned : s.namedOwner r (o / 256) (o % 256) = none

section
variable {s : State} {r : Requester} {o v : Nat} {c : Card}

/-- A plain object is owned by its value. -/
theorem State.PlainWrite.ownerOf (p : s.PlainWrite r o v c) : s.ownerOf r o = store o := by
  simp only [State.ownerOf, p.unowned, p.card, p.readWrite, Option.map_some]

/-- The write writes the object and completes. -/
theorem State.PlainWrite.writeObj (p : s.PlainWrite r o v c) : s.writeObj r o v (s.ownerOf r o) = (s.setReg o v).okays r o := by
  rw [s.writeObj_writable r o v _ p.granted, p.ownerOf, store_eq]

/-- So does a WRITE of its image. -/
theorem State.PlainWrite.writeImage (p : s.PlainWrite r o v c) {bytes : List Byte} (hlen : bytes.length = c.ty.bytes)
    (hv : leNat bytes = v) : s.writeImage r o c.ty.code bytes = (s.setReg o v).okays r o := by
  simp only [State.writeImage, p.card, p.scalar, hlen, ne_eq, not_true, or_false, if_false, hv, p.writeObj]

/-- What a write of some bits of a plain object leaves: the others as the object reads. -/
theorem State.PlainWrite.merged (p : s.PlainWrite r o v c) (val mask : Nat) :
    s.merged o val mask = (val &&& mask) ||| (s.regView o &&& (mask ^^^ (2 ^ regBits o - 1))) := by
  simp only [State.merged, p.card, p.readWrite, Option.map_some]

/-- What a write of every bit of it leaves: the value written. -/
theorem State.PlainWrite.merged_full (p : s.PlainWrite r o v c) (hlt : v < 2 ^ (8 * c.ty.bytes)) :
    s.merged o v (2 ^ (8 * c.ty.bytes) - 1) = v := by
  have hbits : regBits o = 8 * c.ty.bytes := by simp only [regBits, p.card]
  rw [p.merged, hbits, Nat.xor_self, Nat.and_zero, Nat.or_zero, Nat.and_two_pow_sub_one_eq_mod, Nat.mod_eq_of_lt hlt]

end

/-- A WRITE of a plain object by a session. -/
theorem exec_write_plain (s : State) (t : Nat) (slot : Fin 64) (idx sub v : Nat) (bytes : List Byte) (c : Card)
    (p : (s.tickTo t).PlainWrite (.session slot) (objOf idx sub) v c) (hlen : bytes.length = c.ty.bytes) (hv : leNat bytes = v) :
    exec (.write t slot idx sub c.ty.code bytes) s =
      .next (((s.tickTo t).setReg (objOf idx sub) v).okays (.session slot) (objOf idx sub)) := by
  rw [exec_write, execWrite, p.writeImage hlen hv]

/-- The completion of a session's request changes registers and the reply. -/
theorem complete_session_shape (s : State) (slot : Fin 64) (o : Nat) (w : Bool) (st : Status) (d : List Byte) :
    ∃ m, s.complete (.session slot) o w st d = { s with regs := m, reply := ⟨st, d⟩ } := by
  obtain ⟨m, h⟩ := tally_onlyRegs s w (stopOf (o / 256)) st
  exact ⟨m, by simp only [State.complete, h]⟩

/-- Settles O13: the write of the object and the completion each have their frame. -/
theorem acceptedWritesChangeTheirObject : Obligations.AcceptedWritesChangeTheirObject := by
  rintro s _ t slot idx sub v bytes c rfl hw hc hacc hty hlen hv hn
  obtain ⟨m, hm⟩ := complete_session_shape ((s.tickTo t).setReg (objOf idx sub) v) slot (objOf idx sub) true .okay []
  refine ⟨_, m, exec_write_plain s t slot idx sub v bytes c ⟨hw, hc, hacc, hty, hn⟩ hlen hv, hm, fun _ h0 h1 => ?_,
    fun p hp h0 h1 => ?_⟩
  · rw [State.reg_complete_okay _ _ _ _ _ _ h0 h1, State.reg_setReg_same]
  · rw [State.reg_complete_okay _ _ _ _ _ _ h0 h1, State.reg_setReg_ne _ _ _ _ hp]

/-- A REGISTER_WRITE of a plain object by a session is a WRITE of it. -/
theorem exec_registerWrite_session (s : State) (t : Nat) (slot : Fin 64) (idx sub v : Nat) (bytes : List Byte) (c : Card)
    (p : (s.tickTo t).PlainWrite (.session slot) (objOf idx sub) v c) (hlen : bytes.length = c.ty.bytes) (hv : leNat bytes = v) :
    exec (.registerWrite t (.session slot) idx sub 0 bytes) s =
      .next (((s.tickTo t).setReg (objOf idx sub) v).okays (.session slot) (objOf idx sub)) := by
  rw [exec_registerWrite, execRegisterWrite]
  simp only [if_true, p.card, Option.map_some, Option.getD_some, p.writeImage hlen hv]

/-- A MASK_WRITE of a plain object by a session. -/
theorem exec_maskWrite_plain (s w : State) (t : Nat) (slot : Fin 64) (idx sub v : Nat) (val mask : List Byte) (c : Card)
    (hs : w = (s.tickTo t).settle (objOf idx sub / 256)) (p : w.PlainWrite (.session slot) (objOf idx sub) v c)
    (hval : val.length = c.ty.bytes) (hmask : mask.length = c.ty.bytes)
    (hv : (leNat val &&& leNat mask) ||| (w.regView (objOf idx sub) &&& (leNat mask ^^^ (2 ^ regBits (objOf idx sub) - 1))) = v) :
    exec (.maskWrite t slot idx sub c.ty.code val mask) s =
      .next ((w.setReg (objOf idx sub) v).okays (.session slot) (objOf idx sub)) := by
  rw [exec_maskWrite, execMaskWrite, State.maskWrite]
  simp only [p.card, p.scalar, hval, hmask, ne_eq, not_true, or_false, if_false, ← hs]
  rw [p.merged, hv, p.writeObj]

/-- A REGISTER_WRITE of firmware is a store to the object's window. -/
theorem exec_registerWrite_window (s : State) (t : Nat) (x : Ctl) (idx sub off : Nat) (bytes : List Byte) :
    exec (.registerWrite t (.firmware x) idx sub off bytes) s = .next ((s.tickTo t).aliasStore (.firmware x) (objOf idx sub) off bytes) :=
  rfl

/-- A store that covers a plain object of at most 8 bytes, of which none is held, is a write of it. -/
theorem State.aliasStore_whole (s w : State) (r : Requester) (o v : Nat) (bytes : List Byte) (c : Card) (hs : w = s.settle (o / 256))
    (h : s.checkAccess r o true = (.okay, false)) (p : w.PlainWrite r o v c) (hlen : bytes.length = c.ty.bytes) (h8 : c.ty.bytes ≤ 8)
    (h0 : 0 < c.ty.bytes) (hv : leNat bytes = v) (hheld : Tbl.get ({} : Held) s.held o = {}) :
    s.aliasStore r o 0 bytes = (w.setReg o v).okays r o := by
  have hro : c.acc ≠ .ro := by rw [p.readWrite]; decide
  have hlt : v < 2 ^ (8 * c.ty.bytes) := by rw [← hv, ← hlen]; exact leNat_lt bytes
  have htake : bytes.take c.ty.bytes = bytes := by rw [← hlen, List.take_length]
  simp only [State.aliasStore, h, p.card, if_neg p.scalar, if_neg hro, hlen, Nat.sub_zero, Nat.min_self, Nat.mul_zero, Nat.pow_zero,
    Nat.mul_one, htake, hv, hheld, if_neg (Nat.not_le_of_lt h0), Nat.zero_or, Nat.zero_and, Nat.not_lt_of_le h8, false_and, if_false,
    ← hs]
  rw [p.merged_full hlt, p.writeObj]

/-! ### Reads -/

/-- A granted read of a scalar object completes with its bytes. -/
theorem State.readObj_scalar (s : State) (r : Requester) (o : Nat) (c : Card) (h : s.checkAccess r o false = (.okay, false))
    (hc : cardOf o = some c) (hty : c.ty ≠ .domain) :
    s.readObj r o = ((s.settle (o / 256)).scalarRead o).2.complete r o false .okay ((s.settle (o / 256)).scalarRead o).1 := by
  simp only [State.readObj, h, hc, Option.map_some, Option.some.injEq, if_neg hty]

/-- A string reads as its constant. -/
theorem State.scalarRead_string (s : State) (o : Nat) (c : Card) (hc : cardOf o = some c) (hty : c.ty = .string) :
    s.scalarRead o = (stringOf o, s) := by
  simp only [State.scalarRead, hc, if_pos hty]

/-- An object that is neither of a pad nor of an event counter reads as its register shows. -/
theorem State.scalarRead_plain (s : State) (o : Nat) (c : Card) (hc : cardOf o = some c) (hty : c.ty ≠ .string)
    (hpad : inBlock (o / 256) 0x3820 48 = false) (hevc : inBlock (o / 256) 0x3A30 16 = false) :
    s.scalarRead o = (leBytes c.ty.bytes (s.regView o), s) := by
  simp only [State.scalarRead, hc, if_neg hty, hpad, hevc, Bool.false_and, Bool.false_eq_true, false_and, if_false]

/-! The event counters' COUNT and the pads' LEVEL and OE: number, index and card (*Table 16.15*, *Table 10.16*). -/

theorem objOf_evcCount (k : Nat) : objOf (0x3A30 + k) 2 = O.EVC_COUNT k := by simp only [objOf, O.EVC_COUNT]; omega
theorem objOf_gpioLevel (g : Nat) : objOf (0x3820 + g) 3 = O.GPIO_LEVEL g := by simp only [objOf, O.GPIO_LEVEL]; omega
theorem objOf_gpioOe (g : Nat) : objOf (0x3820 + g) 4 = O.GPIO_OE g := by simp only [objOf, O.GPIO_OE]; omega

theorem evcCount_index (k : Nat) : O.EVC_COUNT k / 256 = 0x3A30 + k := by simp only [O.EVC_COUNT]; omega
theorem gpioLevel_index (g : Nat) : O.GPIO_LEVEL g / 256 = 0x3820 + g := by simp only [O.GPIO_LEVEL]; omega
theorem gpioOe_index (g : Nat) : O.GPIO_OE g / 256 = 0x3820 + g := by simp only [O.GPIO_OE]; omega

theorem cardOf_evcCount : ∀ k : Fin 16,
    cardOf (O.EVC_COUNT k.val) = some ⟨0x02, .u64, .ro, false, 0, 0xFFFFFFFFFFFFFFFF, 0, 18446744073709551615⟩ := by decide +kernel
theorem cardOf_gpioLevel : ∀ g : Fin 48, cardOf (O.GPIO_LEVEL g.val) = some ⟨0x03, .bool, .ro, false, 0, 0x1, 0, 255⟩ := by
  decide +kernel
theorem cardOf_gpioOe : ∀ g : Fin 48, cardOf (O.GPIO_OE g.val) = some ⟨0x04, .bool, .ro, false, 0, 0x1, 0, 255⟩ := by decide +kernel

theorem inBlock_pad (g : Fin 48) : inBlock (0x3820 + g.val) 0x3820 48 = true := by simp [inBlock]; omega

/-- COUNT of an event counter reads with the controllers' cycles counted up to now. -/
theorem State.scalarRead_evcCount (s : State) (k : Fin 16) :
    s.scalarRead (O.EVC_COUNT k.val) = (leBytes 8 (s.countMc.reg (O.EVC_COUNT k.val)), s.countMc) := by
  have hpad : inBlock (0x3A30 + k.val) 0x3820 48 = false := by simp [inBlock]; omega
  have hevc : inBlock (0x3A30 + k.val) 0x3A30 16 = true := by simp [inBlock]; omega
  simp [State.scalarRead, cardOf_evcCount, evcCount_index, hpad, hevc]

/-- LEVEL of a pad reads as a free value. -/
theorem State.scalarRead_gpioLevel (s : State) (g : Fin 48) :
    s.scalarRead (O.GPIO_LEVEL g.val) = (leBytes 1 (b2n s.drawBool.1), s.drawBool.2) := by
  simp [State.scalarRead, cardOf_gpioLevel, gpioLevel_index, inBlock_pad]

/-- OE of a pad reads what its configuration and, under the fabric's control, its port say, once the pad is released. -/
theorem State.scalarRead_gpioOe (s : State) (g : Fin 48) :
    s.scalarRead (O.GPIO_OE g.val) = (leBytes 1 (b2n ((s.reg O.CFG_RELEASED).testBit (8 + g.val / 12) &&
      (bits (s.reg (O.GPIO_CONFIG g.val)) 10 9 == 1 || (bits (s.reg (O.GPIO_CONFIG g.val)) 10 9 == 2 &&
        (Tbl.get ({} : GpioPad) s.fabricNow.gpios g.val).oe)))), s) := by
  simp [State.scalarRead, cardOf_gpioOe, gpioOe_index, inBlock_pad]

/-- A READ of a scalar object, by what it reads. -/
theorem exec_read_scalar (s w u : State) (t : Nat) (slot : Fin 64) (idx sub ty o : Nat) (c : Card) (d : List Byte)
    (ho : objOf idx sub = o) (hs : (s.tickTo t).settle (o / 256) = w) (h : (s.tickTo t).checkAccess (.session slot) o false = (.okay, false))
    (hc : cardOf o = some c) (hty : c.ty ≠ .domain) (hr : w.scalarRead o = (d, u)) :
    exec (.read t slot idx sub ty) s = .next (u.complete (.session slot) o false .okay d) := by
  rw [exec_read, execRead, ho, State.readObj_scalar _ _ _ c h hc hty, hs, hr]

/-- An image that no read changes reads as it is, from any offset. -/
theorem State.imageRead_plain (s : State) (r : Requester) (o off n : Nat) (h1 : o ≠ O.DBG_CHALLENGE) (h2 : o ≠ O.TRACE_TRACE_DATA)
    (h3 : o ≠ O.MEM_WINDOW) : s.imageRead r o off n = (.okay, slice off n (s.imageView o), s) := by
  simp only [State.imageRead, h1, h2, h3, false_and, if_false]

/-- It is as long as its image. -/
theorem State.imageLen_plain (s : State) (o : Nat) (h2 : o ≠ O.TRACE_TRACE_DATA) (h3 : o ≠ O.MEM_WINDOW) :
    s.imageLen o = (s.imageView o).length := by
  simp only [State.imageLen, h2, h3, if_false]

theorem slice_all (l : List Byte) : slice 0 l.length l = l := by simp [slice]

/-- A READ of an image. -/
theorem exec_read_image (s w : State) (t : Nat) (slot : Fin 64) (idx sub ty : Nat) (hs : w = (s.tickTo t).settle (objOf idx sub / 256))
    (h : (s.tickTo t).checkAccess (.session slot) (objOf idx sub) false = (.okay, false))
    (hty : (cardOf (objOf idx sub)).map Card.ty = some .domain) (h1 : objOf idx sub ≠ O.DBG_CHALLENGE)
    (h2 : objOf idx sub ≠ O.TRACE_TRACE_DATA) (h3 : objOf idx sub ≠ O.MEM_WINDOW) :
    exec (.read t slot idx sub ty) s = .next (w.complete (.session slot) (objOf idx sub) false .okay (w.imageView (objOf idx sub))) := by
  rw [exec_read, execRead]
  simp only [State.readObj, h, hty, if_true, ← hs, w.imageLen_plain _ h2 h3, w.imageRead_plain _ _ _ _ h1 h2 h3, slice_all]

end Sys2Proof.Machine
end

section
/-! The segment interface: what each command does once its access is granted. -/

namespace Sys2Proof.Machine

/-! ### Segment commands (R42 to R44, R460) -/

/-- An object whose card is an image that may be written. -/
abbrev writtenImage (o : Nat) : Bool := (cardOf o).any fun c => c.ty == .domain && c.acc != .ro

theorem card_of_writtenImage (o : Nat) (h : writtenImage o = true) : ∃ c, cardOf o = some c ∧ c.ty = .domain ∧ c.acc ≠ .ro := by
  simpa [writtenImage, Option.any_eq_true] using h

/-- A granted segment command on an image, RO only if the command changes nothing, does what it does and completes with its status. -/
theorem State.segForm_granted (s : State) (r : Requester) (o : Nat) (w : Bool) (f : State → Status × List Byte × State) (c : Card)
    (h : s.checkAccess r o w = (.okay, false)) (hc : cardOf o = some c) (hty : c.ty = .domain) (hacc : w = true → c.acc ≠ .ro) :
    s.segForm r o w f = (f s).2.2.complete r o true (f s).1 (f s).2.1 := by
  have hform : ¬ (c.ty ≠ .domain ∨ (w = true ∧ c.acc = .ro)) := by
    rintro (hne | ⟨hw, hro⟩)
    · exact hne hty
    · exact hacc hw hro
  simp only [State.segForm, h, hc, if_neg hform]

/-- The same for a command that changes its image. -/
theorem State.segForm_written (s : State) (r : Requester) (o : Nat) (f : State → Status × List Byte × State)
    (h : s.checkAccess r o true = (.okay, false)) (hc : writtenImage o = true) :
    s.segForm r o true f = (f s).2.2.complete r o true (f s).1 (f s).2.1 := by
  obtain ⟨c, hcard, hty, hacc⟩ := card_of_writtenImage o hc
  exact s.segForm_granted r o true f c h hcard hty fun _ => hacc

/-- SEG_OPEN of an image that no transfer holds, and that needs nothing beside, opens a transfer of the length asked. -/
theorem State.segOpen_opens (s w : State) (r : Requester) (o total n : Nat) (f : ImgOwner) (h : s.checkAccess r o true = (.okay, false))
    (hc : writtenImage o = true) (hf : imgOwnerOf o = some (f, n)) (hlen : total ≤ n)
    (hx : s.xfer o = none) (hw : s.openHook o = (.okay, w)) :
    s.segOpen r o total = (w.setXfer o (some ⟨w.openerOf r, total, [], w.now⟩)).okays r o := by
  rw [State.segOpen, s.segForm_written r o _ h hc]
  simp [hf, Nat.not_lt_of_le hlen, hx, hw]

/-- SEG_WRITE, or a DATA store, of the requester's own transfer at its end adds its bytes. -/
theorem State.segWrite_appends (s : State) (r : Requester) (o : Nat) (x : Xfer) (bytes : List Byte) (cut : Bool)
    (h : s.checkAccess r o true = (.okay, false)) (hc : writtenImage o = true)
    (hx : s.xfer o = some x) (hop : x.opener = s.openerOf r) (hlen : x.data.length + bytes.length ≤ x.total)
    (hpad : inBlock (o / 256) 0x1810 24 = false) :
    s.segWrite r o x.data.length bytes cut =
      (s.setXfer o (some { x with data := x.data ++ bytes, last := s.now })).okays r o := by
  have htake : bytes.take (x.total - x.data.length) = bytes := List.take_of_length_le (by omega)
  rw [State.segWrite, s.segForm_written r o _ h hc]
  simp [hx, hop, Nat.not_lt_of_le hlen, htake, hpad]

/-- A read of the segment interface by any but a debug port completes with the bytes read. -/
theorem State.segRead_granted (s w u : State) (r : Requester) (o off n : Nat) (d : List Byte) (hr : r ≠ .debugPort)
    (h : s.checkAccess r o false = (.okay, false)) (hty : (cardOf o).map Card.ty = some .domain) (hs : w = s.settle (o / 256))
    (hi : w.imageRead r o off n = (.okay, d, u)) : s.segRead r o off n = u.complete r o true .okay d := by
  obtain ⟨c, hcard, hdom⟩ := Option.map_eq_some_iff.mp hty
  rw [State.segRead, State.peeked, if_pos hr, s.segForm_granted r o false _ c h hcard hdom (fun e => Bool.noConfusion e), ← hs]
  simp only [hi, if_true]

/-- SEG_COMMIT of an image that is neither a program nor a Paddock stream is its owner's commit. -/
theorem State.segCommit_ready (s : State) (r : Requester) (o crc z n : Nat) (img : List Byte) (f : ImgOwner)
    (h : s.commitReady r o crc img = true) (hf : imgOwnerOf o = some (f, n)) (heng : inBlock (o / 256) 0x2400 512 = false)
    (hpad : inBlock (o / 256) 0x1810 24 = false) :
    s.segCommit r o crc z = (f img (ttImage (ttTick z) (ttFine z)) (s.setXfer o none)).2.complete r o true
      (f img (ttImage (ttTick z) (ttFine z)) (s.setXfer o none)).1 [] := by
  rw [← s.commitObj_ready r o crc z img f h, State.segCommit]
  simp only [hf, heng, hpad, Bool.false_eq_true, if_false]

/-- SEG_ABORT of the requester's own transfer ends it. -/
theorem State.segAbort_aborts (s : State) (r : Requester) (o : Nat) (x : Xfer) (h : s.checkAccess r o true = (.okay, false))
    (hc : writtenImage o = true) (hx : s.xfer o = some x) (hop : x.opener = s.openerOf r) :
    s.segAbort r o = (s.abortXfer o).okays r o := by
  rw [State.segAbort, s.segForm_written r o _ h hc]
  simp [hx, hop]

/-- SEG_TRANSFER_TIMEOUT ends a transfer that has been still for 10 s (R44). -/
theorem exec_segTransferTimeout_due (s : State) (t idx sub : Nat) (x : Xfer) (hx : (s.tickTo t).xfer (objOf idx sub) = some x)
    (hdue : x.last + 10000 * Config.msUnits ≤ (s.tickTo t).now) :
    exec (.segTransferTimeout t idx sub) s = .next ((s.tickTo t).abortXfer (objOf idx sub)) := by
  rw [exec_segTransferTimeout, execSegTransferTimeout]
  simp only [hx, if_pos hdue]

/-! ### A DATA store (R40) -/

/-- A store of 8 bytes to DATA leaves OFFSET. -/
theorem AliasWin.take_stored_offset (w : AliasWin) (bytes : List Byte) (h : w.offset < 2 ^ 32) :
    (w.take (w.stored 0x10 bytes)).offset = w.offset := by
  have hkeep : fieldLE (splice (w.bytes w.totalLen) 0x10 bytes) 8 4 = fieldLE (w.bytes w.totalLen) 8 4 := by
    rw [fieldLE, slice_splice_before _ 8 4 0x10 bytes (by decide) (by rw [AliasWin.bytes_length]; decide), ← fieldLE]
  simp only [AliasWin.take, AliasWin.stored, hkeep, AliasWin.bytes_offset, Nat.mod_eq_of_lt h]

/-- Its bytes stand in DATA. -/
theorem AliasWin.stored_data (w : AliasWin) (bytes : List Byte) (h : bytes.length = 8) : slice 0x10 8 (w.stored 0x10 bytes) = bytes :=
  slice_splice_same _ _ _ _ h (by rw [AliasWin.bytes_length]; decide)

/-- A store to DATA of the whole 8 bytes, none to SEG_CMD, is a segment at OFFSET, which it moves on. -/
theorem State.windowStore_data (s w u : State) (r : Requester) (o : Nat) (bytes : List Byte) (hlen : bytes.length = 8)
    (hlt : (s.aliasWin o).offset < 2 ^ 32) (hs : w = s.setAliasWin o ((s.aliasWin o).take ((s.aliasWin o).stored 0x10 bytes)))
    (hu : w.segWrite r o (s.aliasWin o).offset bytes true = u) (hok : u.reply.status = .okay) :
    s.windowStore r o 0x10 bytes = u.setAliasWin o { u.aliasWin o with offset := ((s.aliasWin o).offset + 8) % 2 ^ 32 } := by
  have hoff : (w.aliasWin o).offset = (s.aliasWin o).offset := by
    rw [hs, State.aliasWin_setAliasWin_same, AliasWin.take_stored_offset _ _ hlt]
  simp [State.windowStore, hlen, ← hs, hoff, AliasWin.stored_data _ _ hlen, hu, hok]

/-- A granted store to the window of an image. -/
theorem State.aliasStore_image (s : State) (r : Requester) (o off : Nat) (bytes : List Byte) (h : s.checkAccess r o true = (.okay, false))
    (hc : writtenImage o = true) : s.aliasStore r o off bytes = s.windowStore r o off bytes := by
  obtain ⟨c, hcard, hty, -⟩ := card_of_writtenImage o hc
  simp only [State.aliasStore, h, hcard, if_pos hty]

/-- DATA_STORE into a controller's own transfer, at its end. -/
theorem exec_dataStore_appends (s u : State) (t : Nat) (c : Ctl) (idx sub : Nat) (v : BitVec 64) (x : Xfer) (hu : u = s.tickTo t)
    (h : u.checkAccess (.firmware c) (objOf idx sub) true = (.okay, false))
    (hc : writtenImage (objOf idx sub) = true) (hx : u.xfer (objOf idx sub) = some x)
    (hop : x.opener = .firmware c) (hlen : x.data.length + 8 ≤ x.total) (htot : x.total < 2 ^ 32)
    (hoff : (u.aliasWin (objOf idx sub)).offset = x.data.length) (hpad : inBlock (objOf idx sub / 256) 0x1810 24 = false) :
    ∃ y, exec (.dataStore t c idx sub v) s = .next y ∧
      y.xfer (objOf idx sub) = some { x with data := x.data ++ leBytes 8 v.toNat, last := u.now } ∧
      (y.aliasWin (objOf idx sub)).offset = ((u.aliasWin (objOf idx sub)).offset + 8) % 2 ^ 32 ∧ y.reply.status = .okay := by
  generalize ho : objOf idx sub = o at *
  obtain ⟨w, hw⟩ : ∃ w, w = u.setAliasWin o ((u.aliasWin o).take ((u.aliasWin o).stored 0x10 (leBytes 8 v.toNat))) := ⟨_, rfl⟩
  have hseg : w.segWrite (.firmware c) o (u.aliasWin o).offset (leBytes 8 v.toNat) true =
      (w.setXfer o (some { x with data := x.data ++ leBytes 8 v.toNat, last := w.now })).okays (.firmware c) o := by
    subst hw
    rw [hoff]
    exact State.segWrite_appends _ _ _ _ _ _ h hc hx hop (by rw [leBytes_length]; exact hlen) hpad
  have hstore := u.windowStore_data w _ (.firmware c) o _ (leBytes_length 8 v.toNat) (by omega) hw hseg (by rw [State.complete_reply])
  refine ⟨_, by rw [exec_dataStore, execDataStore, ← hu, ho, u.aliasStore_image _ _ _ _ h hc, hstore], ?_, ?_, ?_⟩
  · simp [hw]
  · simp
  · simp

/-! ### Challenges and Paddock streams (R419, R323) -/

/-- A read of CHALLENGE from its start draws its nonce. -/
theorem State.imageRead_challenge (s : State) (r : Requester) (n : Nat) (hr : r ≠ .debugPort) :
    s.imageRead r O.DBG_CHALLENGE 0 n = (.okay, slice 0 n (s.drawChallenge.image O.DBG_CHALLENGE), s.drawChallenge) := by
  simp only [State.imageRead, hr, ne_eq, not_false_eq_true, and_self, if_true]

theorem padStream_index (p : Nat) : O.PAD_STREAM p / 256 = 0x1810 + p := by simp only [O.PAD_STREAM]; omega

/-- STREAM of a Paddock is an image that is written. -/
theorem writtenImage_padStream : ∀ p : Fin 24, writtenImage (O.PAD_STREAM p.val) = true := by decide +kernel

/-- Its owner, and the longest partial stream. -/
theorem imgOwnerOf_padStream (p : Fin 24) : imgOwnerOf (O.PAD_STREAM p.val) = some (ownStream p.val, 2097152) := by
  have hp := p.isLt
  have i1 : O.PAD_STREAM p.val / 256 = 0x1810 + p.val := padStream_index p.val
  have i2 : O.PAD_STREAM p.val % 256 = 1 := by simp only [O.PAD_STREAM]; omega
  have hclk : O.PAD_STREAM p.val ≠ O.CLK_CLK_ENABLE := by simp only [O.PAD_STREAM, O.CLK_CLK_ENABLE]; omega
  simp only [imgOwnerOf, i1, i2, inBlock, Bool.and_eq_true, decide_eq_true_eq, Nat.add_sub_cancel_left]
  rw [if_neg (by omega), if_neg (by omega), if_neg (by omega), if_neg hclk, if_neg (by omega), if_pos ⟨⟨by omega, by omega⟩, trivial⟩]

/-- The open of a partial stream clears the shadow plane, which it takes. -/
theorem State.openHook_padStream (s : State) (p : Fin 24) (hswap : s.sched .swap p.val = none)
    (hstate : s.reg (O.PAD_SHADOW_STATE p.val) ≠ 2) (hshed : s.shedOn (padShed p.val) = true) :
    s.openHook (O.PAD_STREAM p.val) = (.okay, ((s.clearShadow p.val).setPad p.val
      { s.pad p.val with loader := {}, clearing := true, fed := 0 }).setReg (O.PAD_SHADOW_STATE p.val) 1) := by
  have hpad : inBlock (0x1810 + p.val) 0x1810 24 = true := by simp [inBlock]; omega
  simp only [State.openHook, padStream_index, hpad, if_true, Nat.add_sub_cancel_left, State.streamOpen, hstate, hswap, hshed,
    Option.isSome_none, Bool.false_eq_true, or_false, if_false, Bool.not_true]

/-- A CHALLENGE by any but a debug port draws a nonce and answers it. -/
theorem exec_challenge_draws (s w : State) (t : Nat) (r : Requester) (hs : w = (s.tickTo t).settle (O.DBG_CHALLENGE / 256))
    (hr : r ≠ .debugPort) (h : (s.tickTo t).checkAccess r O.DBG_CHALLENGE false = (.okay, false)) :
    exec (.challenge t r) s = .next (w.drawChallenge.complete r O.DBG_CHALLENGE true .okay
      (slice 0 16 (w.drawChallenge.image O.DBG_CHALLENGE))) := by
  rw [exec_challenge, execChallenge, State.segRead_granted _ w _ r _ 0 16 _ hr h rfl hs (w.imageRead_challenge r 16 hr)]

/-- Settles O26: each clause is the law of its command. -/
theorem dictionaryCommandsComplete : Obligations.DictionaryCommandsComplete := by
  refine ⟨?_, ?_, ?_, ?_, ?_, ?_, ?_, ?_, ?_, ?_, ?_, ?_, ?_, ?_, ?_, ?_, ?_, ?_, ?_⟩
  · rintro s _ t slot idx sub v bytes c rfl hw hc hacc hty hlen hv hn
    exact exec_registerWrite_session s t slot idx sub v bytes c ⟨hw, hc, hacc, hty, hn⟩ hlen hv
  · rintro s _ t x idx sub v bytes c rfl hacs hw hc hacc hty hlen h8 h0 hv hheld hn
    rw [exec_registerWrite_window, State.aliasStore_whole _ _ _ _ v bytes c rfl hacs ⟨hw, hc, hacc, hty, hn⟩ hlen h8 h0 hv hheld]
  · rintro s _ t slot idx sub ty c rfl h hc hdom hstr hpad hevc
    exact exec_read_scalar s _ _ t slot idx sub ty _ c _ rfl rfl h hc hdom (State.scalarRead_plain _ _ c hc hstr hpad hevc)
  · rintro s _ t slot idx sub ty c rfl h hc hstr
    exact exec_read_scalar s _ _ t slot idx sub ty _ c _ rfl rfl h hc (by rw [hstr]; decide) (State.scalarRead_string _ _ c hc hstr)
  · rintro s _ t slot k ty v rfl hv h
    exact exec_read_scalar s v _ t slot _ 2 ty _ _ _ (objOf_evcCount k) (by rw [evcCount_index, hv]) h (cardOf_evcCount k) (by decide)
      (v.scalarRead_evcCount k)
  · rintro s _ t slot g ty v rfl hv h
    exact exec_read_scalar s v _ t slot _ 3 ty _ _ _ (objOf_gpioLevel g) (by rw [gpioLevel_index, hv]) h (cardOf_gpioLevel g) (by decide)
      (v.scalarRead_gpioLevel g)
  · rintro s _ t slot g ty dir v rfl hv h rfl
    exact exec_read_scalar s v _ t slot _ 4 ty _ _ _ (objOf_gpioOe g) (by rw [gpioOe_index, hv]) h (cardOf_gpioOe g) (by decide)
      (v.scalarRead_gpioOe g)
  · rintro s _ t slot idx sub ty rfl h hty h1 h2 h3
    exact exec_read_image s _ t slot idx sub ty rfl h hty h1 h2 h3
  · rintro s _ t slot idx sub v bytes c rfl hw hc hacc hty hlen hv hn
    exact exec_write_plain s t slot idx sub v bytes c ⟨hw, hc, hacc, hty, hn⟩ hlen hv
  · rintro s _ t slot idx sub v val mask c rfl hw hc hacc hty hval hmask hv hn
    exact exec_maskWrite_plain s _ t slot idx sub v val mask c rfl ⟨hw, hc, hacc, hty, hn⟩ hval hmask hv
  · rintro s _ t r idx sub total f n rfl h hc hf hlen hx hhook
    rw [exec_segOpen, execSegOpen, State.segOpen_opens _ _ r _ total n f h hc hf hlen hx hhook]
  · rintro s _ t r idx sub x bytes rfl h hc hx hop hlen hpad
    rw [exec_segWrite, execSegWrite, State.segWrite_appends _ r _ x bytes _ h hc hx hop hlen hpad]
  · rintro s _ t r idx sub off count rfl hr h hty h1 h2 h3
    rw [exec_segRead, execSegRead,
      State.segRead_granted _ _ _ r _ off count _ hr h hty rfl (State.imageRead_plain _ r _ off count h1 h2 h3)]
  · rintro s _ t r idx sub crc z tt img f n rfl h hf heng hpad rfl hok
    rw [exec_segCommit, execSegCommit, State.segCommit_ready _ r _ crc z n img f h hf heng hpad, hok]
  · rintro s _ t r idx sub x rfl h hc hx hop
    rw [exec_segAbort, execSegAbort, State.segAbort_aborts _ r _ x h hc hx hop]
  · rintro s _ t idx sub x rfl hx hdue
    exact exec_segTransferTimeout_due s t idx sub x hx hdue
  · rintro s u t c idx sub v x hu h hc hx hop hlen htot hoff hpad
    exact exec_dataStore_appends s u t c idx sub v x hu h hc hx hop hlen htot hoff hpad
  · rintro s _ t r rfl hr h
    exact exec_challenge_draws s _ t r rfl hr h
  · rintro s u t r p total _ rfl h hlen hx hstate hswap hshed rfl
    rw [exec_paddockStreamOpen, execPaddockStreamOpen, State.segOpen_opens _ _ r _ total _ _ h (writtenImage_padStream p)
      (imgOwnerOf_padStream p) hlen hx (State.openHook_padStream _ p hswap hstate hshed)]

end Sys2Proof.Machine
end

section
/-! How a write of a value is answered, in the order of R459: its status, what an access that fails leaves at its controller, the latch
under the commands it turns away, and blocks whose clock does not run. -/

namespace Sys2Proof.Machine

/-! ### The order of the statuses (R459) -/

/-- An access to an object that the dictionary does not name is answered DECODE. -/
theorem State.checkAccess_unnamed (s : State) (r : Requester) (o : Nat) (w : Bool) (h : cardOf o = none) :
    s.checkAccess r o w = (.decode, false) := by
  simp only [State.checkAccess, h]

/-- Steps 1 to 4 of a write of a named object, in their order. -/
theorem State.checkAccess_write_fst (s : State) (r : Requester) (o : Nat) (c : Card) (h : cardOf o = some c) :
    (s.checkAccess r o true).1 =
      if s.roleOf r < writeRole (o / 256) then .denied
      else if (needsLevel2 o = true ∨ r = .debugPort) ∧ s.reg O.DBG_DEBUG_LEVEL ≠ 2 then .denied
      else if s.objAnswer o ≠ .okay then s.objAnswer o
      else if s.pathExcluded r o = true then .denied
      else if s.isPrivate (s.ctlOf r) o = false ∧ s.mayWriteShared (s.ctlOf r) = false then .denied
      else .okay := by
  simp [State.checkAccess, h, apply_ite Prod.fst]

/-- Step 5 for a named object. -/
theorem formStatus_of_card (o v : Nat) (c : Card) (h : cardOf o = some c) :
    formStatus o v = if c.acc = .ro ∨ c.ty = .domain ∨ c.inRange v = false then .refused else .okay := by
  simp [formStatus, h]

/-- A write that steps 1 to 4 turn away is answered with their status. -/
theorem State.writeObj_status_turned (s : State) (r : Requester) (o v : Nat) (f : Owner) (h : (s.checkAccess r o true).1 ≠ .okay) :
    (s.writeObj r o v f).reply.status = (s.checkAccess r o true).1 := by
  rcases hk : s.checkAccess r o true with ⟨st, ch⟩
  rw [hk] at h
  rw [s.writeObj_turned r o v f st ch hk h, State.complete_reply]

/-- One that is turned away before the charge check completes with its status, and does nothing more. -/
theorem State.writeObj_uncharged (s : State) (r : Requester) (o v : Nat) (f : Owner) (st : Status)
    (h : s.checkAccess r o true = (st, false)) (hst : st ≠ .okay) : s.writeObj r o v f = s.complete r o true st [] := by
  rw [s.writeObj_turned r o v f st false h hst, if_neg Bool.false_ne_true]

/-- One that they grant, but whose form is wrong, completes with REFUSED and does nothing more. -/
theorem State.writeObj_malformed (s : State) (r : Requester) (o v : Nat) (f : Owner) (c : Card) (h : (s.checkAccess r o true).1 = .okay)
    (hc : cardOf o = some c) (hf : formStatus o v ≠ .okay) : s.writeObj r o v f = s.complete r o true .refused [] := by
  rcases hk : s.checkAccess r o true with ⟨st, ch⟩
  obtain rfl : st = .okay := by rw [hk] at h; exact h
  have hr : formStatus o v = .refused := by
    rw [formStatus_of_card o v c hc] at hf ⊢
    split
    · rfl
    · next hwell => rw [if_neg hwell] at hf; exact absurd rfl hf
  simp only [State.writeObj, hk, hc, hr]

/-- One that they grant and whose form is right is its owner's. -/
theorem State.writeObj_owned (s : State) (r : Requester) (o v : Nat) (f : Owner) (c : Card) (h : (s.checkAccess r o true).1 = .okay)
    (hc : cardOf o = some c) (hf : formStatus o v = .okay) :
    s.writeObj r o v f = (f (c.masked v) s).2.complete r o true (f (c.masked v) s).1 [] := by
  rcases hk : s.checkAccess r o true with ⟨st, ch⟩
  obtain rfl : st = .okay := by rw [hk] at h; exact h
  simp only [State.writeObj, hk, hc, hf]

/-- The status of a write of a named object: that of the checks, of its form, of its owner. -/
theorem State.writeObj_status_named (s : State) (r : Requester) (o v : Nat) (f : Owner) (c : Card) (hc : cardOf o = some c) :
    (s.writeObj r o v f).reply.status =
      if (s.checkAccess r o true).1 ≠ .okay then (s.checkAccess r o true).1
      else if c.acc = .ro ∨ c.ty = .domain ∨ c.inRange v = false then .refused
      else (f (c.masked v) s).1 := by
  have hform := formStatus_of_card o v c hc
  split
  · next hk => exact s.writeObj_status_turned r o v f hk
  next hk =>
    have hk := not_not.mp hk
    split
    · next hbad =>
      rw [s.writeObj_malformed r o v f c hk hc (by rw [hform, if_pos hbad]; decide), State.complete_reply]
    · next hwell =>
      rw [s.writeObj_owned r o v f c hk hc (by rw [hform, if_neg hwell]), State.complete_reply]

/-- Settles O11: the order of the access checks, then the form, then the owner. -/
theorem requestsAnswerInOrder : Obligations.RequestsAnswerInOrder := by
  intro s r o v f
  cases hc : cardOf o with
  | none =>
    have hk := s.checkAccess_unnamed r o true hc
    rw [s.writeObj_status_turned r o v f (by rw [hk]; decide), hk]
  | some c =>
    rw [s.writeObj_status_named r o v f c hc, s.checkAccess_write_fst r o c hc]
    dsimp only
    by_cases hrole : s.roleOf r < writeRole (o / 256)
    · simp only [if_pos hrole]; rfl
    by_cases hlevel : (needsLevel2 o = true ∨ r = .debugPort) ∧ s.reg O.DBG_DEBUG_LEVEL ≠ 2
    · simp only [if_neg hrole, if_pos hlevel]; rfl
    by_cases hstop : s.objAnswer o ≠ .okay
    · simp only [if_neg hrole, if_neg hlevel, if_pos hstop]
    by_cases hpath : s.pathExcluded r o = true
    · simp only [if_neg hrole, if_neg hlevel, if_neg hstop, if_pos hpath]; rfl
    by_cases hcharge : s.isPrivate (s.ctlOf r) o = false ∧ s.mayWriteShared (s.ctlOf r) = false
    · simp only [if_neg hrole, if_neg hlevel, if_neg hstop, if_neg hpath, if_pos hcharge]; rfl
    · simp only [if_neg hrole, if_neg hlevel, if_neg hstop, if_neg hpath, if_neg hcharge]; rfl

/-! ### Failed accesses (R41) -/

/-- Counters are no interrupts. -/
@[simp] theorem State.tally_irqs (s : State) (w : Bool) (rs : Nat) (st : Status) : (s.tally w rs st).irqs = s.irqs := by
  obtain ⟨m, h⟩ := tally_onlyRegs s w rs st
  rw [h]

/-- The counters of a completion that no ring stop holds. -/
def deviceCounts : List Nat :=
  [O.DEV_REFUSED_WRITES, O.DEV_DECODE_COUNT, O.DEV_DENIED_COUNT, O.DEV_TIMEOUT_COUNT, O.CLK_GATED_COUNT, ledTerm 0x105B 0,
    ledTerm 0x105B 1, ledTerm 0x105B 2]

/-- They are all that it counts in below the registers of the ring stops, above which the event counters lie. -/
theorem State.reg_tally_below (s : State) (w : Bool) (rs p : Nat) (st : Status) (hp : p < O.RS_ANSWERED 0) (h : p ∉ deviceCounts) :
    (s.tally w rs st).reg p = s.reg p := by
  refine reg_tally s w rs p st (fun k _ => ?_) ?_
  · simp only [O.RS_ANSWERED, O.EVC_COUNT] at hp ⊢
    omega
  · have hrs : p ≠ O.RS_ANSWERED rs := by
      simp only [O.RS_ANSWERED] at hp ⊢
      omega
    simp only [deviceCounts, List.mem_cons, not_or] at h ⊢
    tauto

/-- The counters of a completion leave LAST_BUS_STATUS. -/
theorem State.lastBusStatus_tally (s : State) (w : Bool) (rs : Nat) (st : Status) (c : Ctl) :
    (s.tally w rs st).reg (O.MC_LAST_BUS_STATUS c.num) = s.reg (O.MC_LAST_BUS_STATUS c.num) := by
  cases c <;> exact s.reg_tally_below w rs _ st (by decide) (by decide)

/-- An interrupt raised has been raised once more. -/
theorem State.raised_raise (s : State) (i : Irq) (unit : Nat) (c : Ctl) : (s.raise i unit c).raised i unit c = s.raised i unit c + 1 :=
  Tbl.get_set_same _ _ _ _

/-- A firmware access that fails latches its status and raises the access fault once more. -/
theorem State.complete_firmware_faults (s : State) (c : Ctl) (o : Nat) (w : Bool) (st : Status) (d : List Byte) (h : st ≠ .okay) :
    (s.complete (.firmware c) o w st d).reg (O.MC_LAST_BUS_STATUS c.num) = st.code ∧
      (s.complete (.firmware c) o w st d).raised .controllerAccess 0 c = s.raised .controllerAccess 0 c + 1 := by
  simp only [State.complete, if_neg h]
  constructor
  · rw [State.reg_raise, State.reg_setReg_same]
  · rw [State.raised_raise]
    simp only [State.raised, State.setReg_irqs, State.tally_irqs]

/-- Any other completion leaves the interrupts and LAST_BUS_STATUS. -/
theorem State.complete_faultless (s : State) (r : Requester) (o : Nat) (w : Bool) (st : Status) (d : List Byte) (c : Ctl)
    (h : st = .okay ∨ ∀ x, r ≠ .firmware x) :
    (s.complete r o w st d).irqs = s.irqs ∧
      (s.complete r o w st d).reg (O.MC_LAST_BUS_STATUS c.num) = s.reg (O.MC_LAST_BUS_STATUS c.num) := by
  have hc : s.complete r o w st d = { s.tally w (stopOf (o / 256)) st with reply := ⟨st, d⟩ } := by
    cases r with
    | session i => rfl
    | debugPort => rfl
    | firmware x =>
      have hst : st = .okay := h.resolve_right fun hne => hne x rfl
      simp only [State.complete, if_pos hst]
  rw [hc]
  exact ⟨s.tally_irqs w _ st, s.lastBusStatus_tally w _ st c⟩

/-- Settles O14: only a firmware access that fails goes past its counters and its reply. -/
theorem failedAccessesFault : Obligations.FailedAccessesFault := by
  intro s o w st d
  refine ⟨fun c hst => s.complete_firmware_faults c o w st d hst, fun c => s.complete_faultless _ o w .okay d c (.inl rfl), ?_, rfl, rfl⟩
  intro r c ha hb
  refine s.complete_faultless r o w st d c (.inr fun x => ?_)
  cases x
  · exact ha
  · exact hb

/-! ### The commands of the latch (R64) -/

/-- CLAIM, OFFER, ACCEPT and TAKE (*Table 2.16*). -/
def latchCommands : List Nat := [O.LATCH_CLAIM, O.LATCH_OFFER, O.LATCH_ACCEPT, O.LATCH_TAKE]

/-- Each is a WO byte. -/
theorem cardOf_latchCommand : ∀ o ∈ latchCommands, cardOf o = some ⟨o % 256, .u8, .wo, false, 0, 0xFF, 0, 255⟩ := by decide +kernel

/-- A completion counts in no register of the latch. -/
@[simp] theorem State.latch_complete (s : State) (r : Requester) (o : Nat) (w : Bool) (st : Status) (d : List Byte) :
    (s.complete r o w st d).latch = s.latch := by
  have hcount : ∀ p ∈ [O.LATCH_HOLDER, O.LATCH_LATCH_STATE, O.LATCH_EPOCH], (s.complete r o w st d).reg p = s.reg p := by
    intro p hp
    obtain ⟨ha, hb, hlow, hmem⟩ : p ≠ O.MC_LAST_BUS_STATUS 0 ∧ p ≠ O.MC_LAST_BUS_STATUS 1 ∧ p < O.RS_ANSWERED 0 ∧ p ∉ deviceCounts := by
      revert p
      decide
    rw [complete_reg s r o p w st d ha hb, s.reg_tally_below w _ p st hlow hmem]
  simp only [State.latch, hcount, List.mem_cons, true_or, or_true]

/-- A Kisko write of one, delivered, is turned away. -/
theorem State.checkAccess_latch_session (s : State) (i : Fin 64) (o : Nat) (ho : o ∈ latchCommands) (h : s.objAnswer o = .okay) :
    s.checkAccess (.session i) o true = (.denied, false) := by
  have hlevel : needsLevel2 o = false := (by decide : ∀ o ∈ latchCommands, needsLevel2 o = false) o ho
  have hpath : s.pathExcluded (.session i) o = true := by
    simp only [latchCommands, List.mem_cons, List.not_mem_nil, or_false] at ho
    rcases ho with rfl | rfl | rfl | rfl <;> rfl
  simp [State.checkAccess, cardOf_latchCommand o ho, hlevel, h, hpath]

/-- So it completes with DENIED and leaves the latch. -/
theorem State.latchWrite_session (s : State) (i : Fin 64) (o v : Nat) (f : Owner) (ho : o ∈ latchCommands) (h : s.objAnswer o = .okay) :
    (s.writeObj (.session i) o v f).reply.status = .denied ∧ (s.writeObj (.session i) o v f).latch = s.latch := by
  rw [s.writeObj_uncharged _ o v f _ (s.checkAccess_latch_session i o ho h) (by decide)]
  exact ⟨by rw [State.complete_reply], State.latch_complete ..⟩

/-- A value that has the form of a command's byte loses no bit. -/
theorem masked_latchCommand (o v : Nat) (c : Card) (ho : o ∈ latchCommands) (hc : cardOf o = some c) (hf : formStatus o v = .okay) :
    c.masked v = v := by
  rw [formStatus_of_card o v c hc] at hf
  obtain rfl : _ = c := Option.some.inj ((cardOf_latchCommand o ho).symm.trans hc)
  have hrange : v < 256 := by
    by_contra hv
    simp [Card.inRange, Ty.bytes, hv] at hf
  exact Nat.and_two_pow_sub_one_of_lt_two_pow (n := 8) hrange

/-- A granted write that its owner refuses, or whose form is wrong, completes with REFUSED and leaves the latch. -/
theorem State.latchWrite_refused (s : State) (r : Requester) (o v : Nat) (f : Owner) (ho : o ∈ latchCommands)
    (h : s.checkAccess r o true = (.okay, false)) (hf : f v s = (.refused, s)) :
    (s.writeObj r o v f).reply.status = .refused ∧ (s.writeObj r o v f).latch = s.latch := by
  have hk : (s.checkAccess r o true).1 = .okay := by rw [h]
  have hc := cardOf_latchCommand o ho
  have hw : s.writeObj r o v f = s.complete r o true .refused [] := by
    by_cases hform : formStatus o v = .okay
    · rw [s.writeObj_owned r o v f _ hk hc hform, masked_latchCommand o v _ ho hc hform, hf]
    · exact s.writeObj_malformed r o v f _ hk hc hform
  rw [hw]
  exact ⟨by rw [State.complete_reply], State.latch_complete ..⟩

/-- Settles O16: Kisko is turned away on its path, and the owners refuse what their state does not allow. -/
theorem latchCommandsAreGuarded : Obligations.LatchCommandsAreGuarded := by
  rintro s _ t v rfl
  refine ⟨?_, ?_, ?_, ?_, ?_, ?_, ?_, ?_⟩
  · exact fun i h => ⟨_, rfl, State.latchWrite_session _ i _ v _ (by decide) h⟩
  · exact fun i h => ⟨_, rfl, State.latchWrite_session _ i _ v _ (by decide) h⟩
  · exact fun i h => ⟨_, rfl, State.latchWrite_session _ i _ v _ (by decide) h⟩
  · exact fun i h => ⟨_, rfl, State.latchWrite_session _ i _ v _ (by decide) h⟩
  · exact fun r h hv => ⟨_, rfl, State.latchWrite_refused _ r _ v _ (by decide) h (if_pos hv)⟩
  · exact fun r h hv => ⟨_, rfl, State.latchWrite_refused _ r _ v _ (by decide) h (if_pos hv)⟩
  · exact fun r h hv => ⟨_, rfl, State.latchWrite_refused _ r _ v _ (by decide) h (if_pos hv)⟩
  · exact fun r h hv => ⟨_, rfl, State.latchWrite_refused _ r _ v _ (by decide) h (if_pos hv)⟩

/-! ### Stopped clock domains (R347, R399) -/

/-- Session slots lie in no clock domain of their own. -/
theorem domainOf_session (i : Nat) (h : inBlock i 0x1140 64 = true) : domainOf i = none := by
  simp only [inBlock, Bool.and_eq_true, decide_eq_true_eq] at h
  simp only [domainOf, inBlock, Bool.and_eq_true, decide_eq_true_eq]
  simp (disch := omega) only [if_neg]

/-- An object o whose ring stop delivers and whose clock domain does not run. -/
structure State.Stopped (s : State) (o d : Nat) : Prop where
  domain : domainOf (o / 256) = some d
  stopped : s.domainRunning d = false
  joined : (s.reg (O.RS_ISOLATED_PORTS (stopOf (o / 256)))).testBit 0 = false
  unfenced : s.reg (O.RS_FENCE_STATE (stopOf (o / 256))) = 0

/-- Its ring stop answers GATED. -/
theorem State.Stopped.objAnswer {s : State} {o d : Nat} (g : s.Stopped o d) : s.objAnswer o = .gated := by
  have hslot : inBlock (o / 256) 0x1140 64 = false := by
    by_contra hne
    have hnone := domainOf_session (o / 256) (by simpa using hne)
    rw [g.domain] at hnone
    cases hnone
  simp [State.objAnswer, hslot, State.stopAnswer, g.domain, g.stopped, g.joined, g.unfenced]

/-- So a write by a role that may write it, not by a debug port, is GATED before any later check. -/
theorem State.Stopped.writeObj {s : State} {o d : Nat} (g : s.Stopped o d) {c : Card} (hc : cardOf o = some c)
    (hlevel : needsLevel2 o = false) (r : Requester) (hr : r ≠ .debugPort) (hrole : writeRole (o / 256) ≤ s.roleOf r) (v : Nat) (f : Owner) :
    s.writeObj r o v f = s.complete r o true .gated [] := by
  have h : s.checkAccess r o true = (.gated, false) := by
    simp [State.checkAccess, hc, hlevel, hr, Nat.not_lt_of_le hrole, g.objAnswer]
  exact s.writeObj_uncharged r o v f _ h (by decide)

/-- And a read by a role that sees every object. -/
theorem State.Stopped.readObj {s : State} {o d : Nat} (g : s.Stopped o d) {c : Card} (hc : cardOf o = some c) (r : Requester)
    (hrole : 2 ≤ s.roleOf r) : s.readObj r o = s.complete r o false .gated [] := by
  have h : s.checkAccess r o false = (.gated, false) := by
    simp [State.checkAccess, hc, Nat.not_lt_of_le hrole, Nat.ne_of_gt (Nat.lt_of_lt_of_le Nat.two_pos hrole), g.objAnswer]
  simp only [State.readObj, h]

/-- A completion with GATED counts in GATED_COUNT. -/
theorem State.gatedCount_complete (s : State) (r : Requester) (o : Nat) (w : Bool) (d : List Byte) :
    (s.complete r o w .gated d).reg O.CLK_GATED_COUNT = (s.reg O.CLK_GATED_COUNT + 1) % 2 ^ regBits O.CLK_GATED_COUNT := by
  rw [complete_reg s r o _ w .gated d (by decide) (by decide), gated_count]

/-- No index asks for more than ENGINEER. -/
theorem writeRole_le (i : Nat) : writeRole i ≤ 3 := by
  unfold writeRole
  split <;> decide

/-- Settles O18: the ring stop's answer comes before every check but those of the role and the debug level, and its completion counts. -/
theorem stoppedDomainsAnswerGated : Obligations.StoppedDomainsAnswerGated := by
  intro s o v f c d hc hdom hrun hiso hfence hlevel
  have g : s.Stopped o d := ⟨hdom, hrun, hiso, hfence⟩
  refine ⟨fun i hrole => ?_, fun i hrole => ?_, fun x => ?_, rfl⟩
  · rw [g.writeObj hc hlevel _ (by simp) hrole]
    exact ⟨by rw [State.complete_reply], State.gatedCount_complete ..⟩
  · rw [g.readObj hc _ hrole]
    exact ⟨by rw [State.complete_reply], State.gatedCount_complete ..⟩
  · rw [g.writeObj hc hlevel _ (by simp) (writeRole_le _)]
    obtain ⟨hlatched, hraised⟩ := s.complete_firmware_faults x o true .gated [] (by decide)
    exact ⟨by rw [State.complete_reply], State.gatedCount_complete .., hlatched, hraised⟩

end Sys2Proof.Machine
end

section
/-! The charge latch: what each of its commands does once its write is granted, and what the ends of an offer and of a heartbeat window
do. -/

namespace Sys2Proof.Machine

/-! ### Owners that perform -/

/-- A granted write that its owner performs completes with OKAY. -/
theorem State.writeObj_okays (s w : State) (r : Requester) (o v : Nat) (f : Owner) (h : s.writable r o v = true)
    (hf : f v s = (.okay, w)) : s.writeObj r o v f = w.okays r o := by
  rw [s.writeObj_writable r o v f h, hf]

/-! ### The latch (R63, R67) -/

/-- CLAIM is performed in NONE. -/
theorem ownClaim_free (c : Ctl) (s : State) (h : s.reg O.LATCH_LATCH_STATE = 0) : ownClaim c 0x5A s = (.okay, s.setHolder c) := by
  simp [ownClaim, h]

/-- And refused in every other state. -/
theorem ownClaim_taken (c : Ctl) (s : State) (v : Nat) (h : s.reg O.LATCH_LATCH_STATE ≠ 0) : ownClaim c v s = (.refused, s) :=
  if_pos (.inr h)

/-- OFFER is performed for the holder, in HELD. -/
theorem ownOffer_held (c : Ctl) (s : State) (h : s.reg O.LATCH_LATCH_STATE = 1) (hc : s.holder = some c) :
    ownOffer c 0x5A s = (.okay, { s.setReg O.LATCH_LATCH_STATE 2 with offerAt := s.now }) := by
  simp [ownOffer, h, hc]

/-- ACCEPT is performed for the holder's partner, in OFFERED. -/
theorem ownAccept_offered (c : Ctl) (s : State) (h : s.reg O.LATCH_LATCH_STATE = 2) (hc : s.holder = some c.partner) :
    ownAccept c 0x5A s = (.okay, s.setHolder c) := by
  simp [ownAccept, h, hc]

/-- TAKE is performed for the holder's partner, in HOLDER_LOST. -/
theorem ownTake_lost (c : Ctl) (s : State) (h : s.reg O.LATCH_LATCH_STATE = 3) (hc : s.holder = some c.partner) :
    ownTake c 0x5A s = (.okay, s.setHolder c) := by
  simp [ownTake, h, hc]

/-- A TAKE with no heartbeat in its cycle is a write of TAKE. -/
theorem exec_take_alone (s : State) (t : Nat) (r : Requester) (v : Nat) :
    exec (.take t r v false) s = .next ((s.tickTo t).writeObj r O.LATCH_TAKE v (ownTake ((s.tickTo t).ctlOf r))) := rfl

/-- HANDOVER_REQUEST interrupts the holder. -/
theorem ownHandoverRequest_held (c : Ctl) (s : State) (h : s.holder = some c) :
    ownHandoverRequest 1 s = (.okay, s.raise .handoverRequest 0 c) := by
  simp only [ownHandoverRequest, command_one, h]

/-- A new holder: HELD, under the next epoch. -/
theorem State.latch_setHolder (s : State) (c : Ctl) :
    (s.setHolder c).latch = (holderCode c, 1, (s.reg O.LATCH_EPOCH + 1) % 2 ^ regBits O.LATCH_EPOCH) := by
  simp [State.latch, State.setHolder, State.reg_setFlag, State.reg_bump, State.reg_setReg]

/-- Of two CLAIMs of one cycle MC-A's is performed, and MC-B's finds the latch HELD (R68). -/
theorem exec_claim_both (s u : State) (t : Nat) (hu : u = s.tickTo t) (ha : u.writable (.firmware .a) O.LATCH_CLAIM 0x5A = true)
    (h : u.reg O.LATCH_LATCH_STATE = 0)
    (hb : ((u.setHolder .a).okays (.firmware .a) O.LATCH_CLAIM).writable (.firmware .b) O.LATCH_CLAIM 0x5A = true) :
    ∃ y, exec (.claim t (.both 0x5A 0x5A)) s = .next y ∧ y.reg O.LATCH_HOLDER = 1 ∧ y.reg O.LATCH_LATCH_STATE = 1 ∧
      y.reply.status = .refused := by
  obtain ⟨w, hw⟩ : ∃ w, w = (u.setHolder .a).okays (.firmware .a) O.LATCH_CLAIM := ⟨_, rfl⟩
  rw [← hw] at hb
  have hlatch : w.latch = (1, 1, (u.reg O.LATCH_EPOCH + 1) % 2 ^ regBits O.LATCH_EPOCH) := by
    rw [hw, State.latch_complete, State.latch_setHolder]
    rfl
  have hheld : w.reg O.LATCH_LATCH_STATE = 1 := congrArg (·.2.1) hlatch
  have hy : exec (.claim t (.both 0x5A 0x5A)) s = .next (w.complete (.firmware .b) O.LATCH_CLAIM true .refused []) := by
    rw [exec_claim, execClaim]
    rw [← hu, u.writeObj_okays _ _ _ _ _ ha (ownClaim_free .a u h), ← hw, w.writeObj_writable _ _ _ _ hb,
      ownClaim_taken .b w 0x5A (by rw [hheld]; decide)]
  have hlast := (w.latch_complete (.firmware .b) O.LATCH_CLAIM true .refused []).trans hlatch
  exact ⟨_, hy, congrArg (·.1) hlast, congrArg (·.2.1) hlast, by rw [State.complete_reply]⟩

/-- An offer whose time ended in an always-on cycle before this one is withdrawn, and the holder is interrupted. -/
theorem exec_offerTimeout_due (s u : State) (t : Nat) (c : Ctl) (hu : u = s.tickTo t) (h : u.reg O.LATCH_LATCH_STATE = 2)
    (hdue : (u.offerAt + u.reg O.LATCH_OFFER_TIMEOUT * Config.msUnits) / Config.aonUnits < u.now / Config.aonUnits)
    (hc : u.holder = some c) :
    exec (.offerTimeout t) s = .next ((u.setReg O.LATCH_LATCH_STATE 1).raise .offerAborted 0 c) := by
  rw [exec_offerTimeout, execOfferTimeout]
  simp only [← hu, if_pos (And.intro h hdue), hc]

/-! ### Heartbeats (R65) -/

/-- A window that ended in the always-on cycle before this one, and has not been judged, is judged at both controllers. -/
theorem exec_heartbeatWindowEnd_due (s u : State) (t : Nat) (hu : u = s.tickTo t)
    (hcycle : u.now / Config.aonUnits = u.windowEdge * Config.tickUnits / Config.aonUnits + 1) (hnew : u.windowEdge ≠ u.windowAt) :
    exec (.heartbeatWindowEnd t) s = .next { (u.windowEnd .a).windowEnd .b with windowAt := u.windowEdge } := by
  rw [exec_heartbeatWindowEnd, execHeartbeatWindowEnd]
  simp only [← hu, if_pos (And.intro hcycle hnew)]

/-- Settles O27: each clause is what the owner of its object does, or the law of what falls due. -/
theorem latchCommandsComplete : Obligations.LatchCommandsComplete := by
  refine ⟨?_, ?_, ?_, ?_, ?_, ?_, ?_, ?_, ?_⟩
  · rintro s _ t r rfl hw h
    rw [exec_claim, execClaim]
    exact congrArg _ (State.writeObj_okays _ _ _ _ _ _ hw (ownClaim_free _ _ h))
  · exact exec_claim_both
  · rintro s _ t r rfl hw h hc
    rw [exec_offer, execOffer]
    exact congrArg _ (State.writeObj_okays _ _ _ _ _ _ hw (ownOffer_held _ _ h hc))
  · rintro s _ t r rfl hw h hc
    rw [exec_accept, execAccept]
    exact congrArg _ (State.writeObj_okays _ _ _ _ _ _ hw (ownAccept_offered _ _ h hc))
  · exact exec_offerTimeout_due
  · rintro s _ t r rfl hw h hc
    rw [exec_take_alone]
    exact congrArg _ (State.writeObj_okays _ _ _ _ _ _ hw (ownTake_lost _ _ h hc))
  · rintro s _ t r c rfl hw hc
    rw [exec_handoverRequest, execHandoverRequest]
    exact congrArg _ (State.writeObj_okays _ _ _ _ _ _ hw (ownHandoverRequest_held c _ hc))
  · rintro s _ t r x v rfl hw
    rw [exec_heartbeat, execHeartbeat]
    exact congrArg _ (State.writeObj_okays _ _ _ _ _ _ hw rfl)
  · exact exec_heartbeatWindowEnd_due

end Sys2Proof.Machine
end

section
/-! Keys, controller images, ledger snapshots, the debug challenge, and the run control and watchdogs of the controllers: what each command
does once it is granted or falls due. -/

namespace Sys2Proof.Machine

/-! ### Commits -/

/-- A commit that finds its transfer complete, carries no TT and is performed by its owner completes with OKAY. -/
theorem State.commitObj_okays (s w : State) (r : Requester) (o crc : Nat) (img : List Byte) (f : ImgOwner)
    (h : s.commitReady r o crc img = true) (hf : f img 0 (s.setXfer o none) = (.okay, w)) : s.commitObj r o crc 0 f = w.okays r o := by
  rw [s.commitObj_ready r o crc 0 img f h, ttImage_zero, hf]

/-- A completion with OKAY leaves every object whose subindex is not that of the terms it counts in. -/
theorem State.reg_okays_apart (s : State) (r : Requester) (o p : Nat) (h : p % 256 < 0x10 ∨ 0x12 ≤ p % 256) :
    (s.okays r o).reg p = s.reg p :=
  State.reg_complete_okay _ _ _ _ _ _ (by simp only [ledTerm]; omega) (by simp only [ledTerm]; omega)

/-! ### Keys and images (R69, R71) -/

/-- A key of at most 64 bytes, not the debug key, is stored, and its write is counted. -/
theorem ownKey_stores (k : Nat) (img : List Byte) (s : State) (hlen : img.length ≤ 64) (hk : k ≠ 4) :
    ∃ w, ownKey k img 0 s = (.okay, (s.setImage (O.KEYS_KEY_OBSERVER + k) img).setImage O.KEYS_KEY_WRITES w) := by
  simp [ownKey, Nat.not_lt_of_le hlen, hk]

/-- KEY_COMMIT of such a key: it reads as the image committed. -/
theorem exec_keyCommit_stores (s u : State) (t : Nat) (r : Requester) (crc : Nat) (img : List Byte) (k : Fin 5) (hu : u = s.tickTo t)
    (h : u.commitReady r (O.KEYS_KEY_OBSERVER + k.val) crc img = true) (hlen : img.length ≤ 64) (hk : k.val ≠ 4) :
    ∃ y, exec (.keyCommit t r k crc 0) s = .next y ∧ y.image (O.KEYS_KEY_OBSERVER + k.val) = img ∧ y.reply.status = .okay := by
  obtain ⟨w, hw⟩ := ownKey_stores k.val img (u.setXfer (O.KEYS_KEY_OBSERVER + k.val) none) hlen hk
  have hne : O.KEYS_KEY_OBSERVER + k.val ≠ O.KEYS_KEY_WRITES := by
    have hlt := k.isLt
    simp only [O.KEYS_KEY_OBSERVER, O.KEYS_KEY_WRITES]
    omega
  refine ⟨_, by rw [exec_keyCommit, execKeyCommit, ← hu, u.commitObj_okays _ r _ crc img _ h hw], ?_, by rw [State.complete_reply]⟩
  rw [State.image_complete, State.image_setImage_ne _ _ _ _ hne, State.image_setImage_same]

/-- The image of a controller that is not in charge, whose partner is present and neither of which restarts, is stored and booted. -/
theorem ownFirmware_boots (x : Ctl) (img : List Byte) (s : State) (hc : s.holder ≠ some x)
    (hp : s.isSet (O.MC_PRESENT x.partner.num) = true) (himg : s.firmwareOk img = true) (ha : s.restarting .a = false)
    (hb : s.restarting .b = false) :
    ownFirmware x img 0 s =
      (.okay, ((s.setImage (O.MC_IMAGE x.num) img).setReg (O.MC_FW_STATE x.num) 2).beginReset (93 + x.num)) := by
  simp [ownFirmware, hc, hp, himg, ha, hb]

/-! ### Ledgers (R48) -/

/-- Objects in a row, written one after the other. -/
theorem State.reg_setRegs (s : State) (base : Nat) (g : Nat → Nat) (n p : Nat) :
    ((List.range n).foldl (fun (s : State) k => s.setReg (base + k) (g k)) s).reg p =
      if base ≤ p ∧ p < base + n then g (p - base) else s.reg p := by
  induction n with
  | zero => rw [if_neg (by omega)]; rfl
  | succ n ih =>
    rw [List.range_succ, List.foldl_append, List.foldl_cons, List.foldl_nil, State.reg_setReg, ih]
    by_cases h : p = base + n
    · subst h
      rw [if_pos rfl, if_pos (by omega), Nat.add_sub_cancel_left]
    · rw [if_neg h]
      congr 1
      simp only [eq_iff_iff]
      omega

/-- The terms of a ledger, as its snapshot finds them. -/
def State.ledTerms (s : State) (l : Nat) : List Nat := (List.range 8).map fun k => s.reg (ledTerm l k)

/-- A ledger's terms stand in its SNAP objects, with the tick at which they were taken. -/
def State.snapTaken (s : State) (l : Nat) : State :=
  ((List.range 8).foldl (fun (s' : State) k => s'.setReg (O.LED_SNAP0 l + k) ((s.ledTerms (0x1041 + l)).getD k 0)) s).setReg
    (O.LED_SNAP_TT l) s.ttTickNow

/-- A ledger whose terms close is taken with CLOSED set. -/
theorem ownLedgerSnap_closes (l : Nat) (s : State)
    (h : s.reg (ledTerm (0x1041 + l) 0) = (((s.ledTerms (0x1041 + l)).take (s.reg (O.LED_NTERMS l))).drop 1).sum) :
    ownLedgerSnap (0x1041 + l) 1 s = (.okay, (s.snapTaken l).setBool (O.LED_CLOSED l) true) := by
  have hhead : (s.ledTerms (0x1041 + l)).headD 0 = s.reg (ledTerm (0x1041 + l) 0) := rfl
  rw [← hhead] at h
  simp only [State.ledTerms] at h
  simp only [ownLedgerSnap, command_one, Nat.add_sub_cancel_left, h, or_true, decide_true, if_true]
  rfl

/-- Its SNAP objects read as the terms did. -/
theorem State.reg_snapTaken (s : State) (l k : Nat) (hk : k < 8) :
    (s.snapTaken l).reg (O.LED_SNAP0 l + k) = s.reg (ledTerm (0x1041 + l) k) := by
  have hne : O.LED_SNAP0 l + k ≠ O.LED_SNAP_TT l := by
    simp only [O.LED_SNAP0, O.LED_SNAP_TT]
    omega
  rw [State.snapTaken, State.reg_setReg_ne _ _ _ _ hne, State.reg_setRegs, if_pos (by omega), Nat.add_sub_cancel_left]
  simp [State.ledTerms, hk]

/-- SNAP of a ledger whose terms close. -/
theorem exec_ledgerSnap_closes (s u : State) (t : Nat) (r : Requester) (l : Fin 63) (hu : u = s.tickTo t)
    (h : u.writable r (O.LED_SNAP l.val) 1 = true)
    (hsum : u.reg (ledTerm (0x1041 + l.val) 0) =
      (((u.ledTerms (0x1041 + l.val)).take (u.reg (O.LED_NTERMS l.val))).drop 1).sum) :
    ∃ y, exec (.ledgerSnap t r l true) s = .next y ∧
      (∀ k, k < 8 → y.reg (O.LED_SNAP0 l.val + k) = u.reg (ledTerm (0x1041 + l.val) k)) ∧ y.reg (O.LED_CLOSED l.val) = 1 ∧
      y.reply.status = .okay := by
  have hy : exec (.ledgerSnap t r l true) s =
      .next (((u.snapTaken l.val).setBool (O.LED_CLOSED l.val) true).okays r (O.LED_SNAP l.val)) := by
    rw [exec_ledgerSnap, execLedgerSnap, ← hu]
    exact congrArg _ (u.writeObj_okays _ r _ 1 _ h (ownLedgerSnap_closes l.val u hsum))
  refine ⟨_, hy, fun k hk => ?_, ?_, by rw [State.complete_reply]⟩
  · have hne : O.LED_SNAP0 l.val + k ≠ O.LED_CLOSED l.val := by
      simp only [O.LED_SNAP0, O.LED_CLOSED]
      omega
    rw [State.reg_okays_apart _ _ _ _ (by simp only [O.LED_SNAP0]; omega), State.reg_setBool, if_neg hne, u.reg_snapTaken _ k hk]
  · rw [State.reg_okays_apart _ _ _ _ (by simp only [O.LED_CLOSED]; omega), State.reg_setBool, if_pos rfl]
    rfl

/-! ### The debug challenge (R419) -/

/-- A right response, outside the time in which all are refused, opens level 2 and uses up its nonce. -/
theorem ownResponse_opens (img : List Byte) (s : State) (h : s.responseOk img = true) (hlock : s.dbg.lockUntil ≤ s.now) :
    ownResponse img 0 s =
      (.okay, ({ s with dbg := { s.dbg with nonceAt := none, fails := 0 } } : State).setReg O.DBG_DEBUG_LEVEL 2) := by
  simp [ownResponse, h, Nat.not_lt_of_le hlock]

/-- RESPONSE_WRITE of a right response. -/
theorem exec_responseWrite_opens (s u : State) (t : Nat) (r : Requester) (crc : Nat) (img : List Byte) (hu : u = s.tickTo t)
    (h : u.commitReady r O.DBG_RESPONSE crc img = true) (hok : u.responseOk img = true) (hlock : u.dbg.lockUntil ≤ u.now) :
    ∃ y, exec (.responseWrite t r crc 0) s = .next y ∧ y.reg O.DBG_DEBUG_LEVEL = 2 ∧ y.dbg.nonceAt = none ∧ y.reply.status = .okay := by
  have hy := u.commitObj_okays _ r _ crc img _ h (ownResponse_opens img (u.setXfer O.DBG_RESPONSE none) hok hlock)
  refine ⟨_, by rw [exec_responseWrite, execResponseWrite, ← hu, hy], ?_, ?_, by rw [State.complete_reply]⟩
  · rw [State.reg_okays_apart _ _ _ _ (by decide), State.reg_setReg_same]
  · rw [State.complete_dbg, State.setReg_dbg]

/-! ### Run control (R428 to R431) -/

/-- HALT_REQ of a running controller makes a halt arise. -/
theorem ownHaltReq_running (x : Ctl) (s : State) (h : s.reg (O.RUN_RUN_STATE x.num) = 0) :
    ownHaltReq x 1 s = (.okay, (s.haltArises x 1).setReg (O.RUN_RUN_STATE x.num) 1) := by
  simp only [ownHaltReq, command_one, h]

/-- STEP of a halted controller lets it run to a halt that has arisen. -/
theorem ownStep_halted (x : Ctl) (s : State) (h : s.reg (O.RUN_RUN_STATE x.num) = 2) :
    ownStep x 1 s = (.okay, (s.setCtl x { s.ctl x with stepping := true }).haltArises x 2) := by
  simp only [ownStep, command_one, h, ne_eq, not_true, if_false]

/-- RESUME of a halted controller: it runs, present again. -/
theorem ownResume_halted (x : Ctl) (s : State) (h : s.reg (O.RUN_RUN_STATE x.num) = 2) :
    ∃ w, ownResume x 1 s = (.okay, w) ∧ w.reg (O.RUN_RUN_STATE x.num) = 0 ∧ w.reg (O.MC_DEBUG_ABSENT x.num) = 0 := by
  refine ⟨_, by simp only [ownResume, command_one, h, ne_eq, not_true, if_false]; rfl, ?_, ?_⟩
  all_goals
    rw [reg_trace _ _ _ _ _ _ (by cases x <;> decide)]
    cases x <;> simp [State.wdReload, State.reg_setReg, Ctl.num]

/-- RESUME, as it arrives. -/
theorem exec_resume_halted (s u : State) (t : Nat) (r : Requester) (x : Ctl) (hu : u = s.tickTo t)
    (h : u.writable r (O.RUN_RESUME x.num) 1 = true) (hrun : u.reg (O.RUN_RUN_STATE x.num) = 2) :
    ∃ y, exec (.resume t r x true) s = .next y ∧ y.reply.status = .okay ∧ y.reg (O.RUN_RUN_STATE x.num) = 0 ∧
      y.reg (O.MC_DEBUG_ABSENT x.num) = 0 := by
  obtain ⟨w, hw, hstate, habsent⟩ := ownResume_halted x u hrun
  have hy : exec (.resume t r x true) s = .next (w.okays r (O.RUN_RESUME x.num)) := by
    rw [exec_resume, execResume, ← hu]
    exact congrArg _ (u.writeObj_okays w r _ 1 _ h hw)
  refine ⟨_, hy, by rw [State.complete_reply], ?_, ?_⟩
  · rw [State.reg_okays_apart _ _ _ _ (by simp only [O.RUN_RUN_STATE]; omega), hstate]
  · rw [State.reg_okays_apart _ _ _ _ (by simp only [O.MC_DEBUG_ABSENT]; omega), habsent]

/-- A halt that arose takes effect. -/
theorem exec_controllerHalt_arose (s u : State) (t : Nat) (x : Ctl) (dpc a cause : Nat) (gpr : List Byte) (hu : u = s.tickTo t)
    (h : (u.ctl x).arose = some (a, cause)) : exec (.controllerHalt t x dpc gpr) s = .next (u.haltNow x cause dpc gpr) := by
  rw [exec_controllerHalt, execControllerHalt]
  simp only [← hu, h]

/-- One that has waited 64 MC cycles for a locked sequence is taken (R430). -/
theorem exec_lockedSequenceLimit_due (s u : State) (t : Nat) (x : Ctl) (dpc a cause : Nat) (gpr : List Byte) (hu : u = s.tickTo t)
    (h : (u.ctl x).arose = some (a, cause)) (hdue : a + 64 * Config.nsUnits ≤ u.now) :
    exec (.lockedSequenceLimit t x dpc gpr) s = .next (u.haltNow x 4 dpc gpr) := by
  rw [exec_lockedSequenceLimit, execLockedSequenceLimit]
  simp only [← hu, h, if_pos hdue]

/-- A match of ACTION 0 counts in HITS, and no more. -/
theorem State.mcMatch_halting (s : State) (x : Ctl) (k : Nat) (h : bits (s.mcComp x k) 7 6 = 0) : s.mcMatch x k = s.mcHit x k := by
  simp only [State.mcMatch, h]

/-- The one match of a running controller's instruction, of ACTION 0, makes a halt arise (R429). -/
theorem exec_comparatorMatch_halts (s u : State) (t : Nat) (x : Ctl) (how : McAccess) (addr k : Nat) (hu : u = s.tickTo t)
    (hrun : u.reg (O.RUN_RUN_STATE x.num) = 0) (hone : (List.range 8).filter (fun k => u.mcMatches x k how addr) = [k])
    (hact : bits (u.mcComp x k) 7 6 = 0) :
    exec (.comparatorMatch t x how addr false) s =
      .next (((u.mcHit x k).haltArises x 3).setReg (O.RUN_RUN_STATE x.num) 1) := by
  rw [exec_comparatorMatch, execComparatorMatch]
  simp [← hu, hone, hrun, hact, u.mcMatch_halting x k hact]

/-! ### Watchdogs (R432, R433) -/

/-- ENABLE of a watchdog that is off starts its count at TIMEOUT. -/
theorem ownWdEnable_off (x : Ctl) (s : State) (h : s.isSet (O.WD_ENABLE x.num) = false) :
    ownWdEnable x 1 s = (.okay, (s.setReg (O.WD_ENABLE x.num) 1).wdReload x) := by
  simp [ownWdEnable, h]

/-- REMAINING has come to PRETIMEOUT for the first time since the reload. -/
theorem exec_pretimeout_due (s u : State) (t : Nat) (x : Ctl) (hu : u = s.tickTo t) (hcount : u.wdCounts x = true)
    (hpre : u.reg (O.WD_PRETIMEOUT x.num) ≠ 0) (hdue : u.wdRemaining x ≤ u.reg (O.WD_PRETIMEOUT x.num)) (hnew : (u.ctl x).wdPre = false) :
    exec (.pretimeout t x) s =
      .next (((u.setCtl x { u.ctl x with wdPre := true }).raise .preTimeout 0 x).trace 1 x.num 6 0) := by
  rw [exec_pretimeout, execPretimeout, ← hu]
  exact congrArg _ (if_pos ⟨hcount, hpre, hdue, by rw [hnew]; rfl⟩)

/-- The MC cycle in which REMAINING reached 0 has passed. -/
theorem exec_watchdogExpiry_due (s u : State) (t : Nat) (x : Ctl) (hu : u = s.tickTo t) (hcount : u.wdCounts x = true)
    (hreset : u.resetting.contains (93 + x.num) = false)
    (hdue : (u.ctl x).wdAt + (u.ctl x).wdLeft * Config.usUnits + Config.nsUnits ≤ u.now) :
    exec (.watchdogExpiry t x) s =
      .next (((u.setFlag (O.WD_EXPIRED x.num) 0 (O.WD_EXPIRED_COUNT x.num) 1).trace 1 x.num 7 0).beginReset (93 + x.num)) := by
  rw [exec_watchdogExpiry, execWatchdogExpiry, ← hu]
  exact congrArg _ (if_pos ⟨hcount, hdue, by rw [hreset]; rfl⟩)

/-- Settles O29: each clause is what the owner of its object does, or the law of what falls due. -/
theorem controllerAndKeyCommandsComplete : Obligations.ControllerAndKeyCommandsComplete := by
  refine ⟨?_, ?_, ?_, ?_, ?_, ?_, ?_, ?_, ?_, ?_, ?_, ?_, ?_, ?_, ?_⟩
  · exact exec_keyCommit_stores
  · rintro s _ t r crc img x rfl h hc hp himg ha hb
    rw [exec_firmwareImageCommit, execFirmwareImageCommit]
    exact congrArg _ (State.commitObj_okays _ _ r _ crc img _ h (ownFirmware_boots x img _ hc hp himg ha hb))
  · exact exec_ledgerSnap_closes
  · rintro s _ t r rfl h
    rw [exec_debugLock, execDebugLock]
    exact congrArg _ (State.writeObj_okays _ _ _ _ _ _ h rfl)
  · exact exec_responseWrite_opens
  · rintro s _ t r x rfl h hrun
    rw [exec_haltReq, execHaltReq]
    exact congrArg _ (State.writeObj_okays _ _ _ _ _ _ h (ownHaltReq_running x _ hrun))
  · exact exec_resume_halted
  · rintro s _ t r x rfl h hrun
    rw [exec_step, execStep]
    exact congrArg _ (State.writeObj_okays _ _ _ _ _ _ h (ownStep_halted x _ hrun))
  · exact exec_controllerHalt_arose
  · exact exec_lockedSequenceLimit_due
  · exact exec_comparatorMatch_halts
  · rintro s _ t r x rfl h
    rw [exec_kick, execKick]
    exact congrArg _ (State.writeObj_okays _ _ _ _ _ _ h rfl)
  · rintro s _ t r x rfl h hoff
    rw [exec_watchdogEnable, execWatchdogEnable]
    exact congrArg _ (State.writeObj_okays _ _ _ _ _ _ h (ownWdEnable_off x _ hoff))
  · exact exec_pretimeout_due
  · exact exec_watchdogExpiry_due

end Sys2Proof.Machine
end

section
/-! Kisko sessions and streams: what each datagram does once it comes to Kisko and passes its checks, what the records of streams do, and
what the timeouts do. -/

namespace Sys2Proof.Machine

/-! ### Datagrams of a session (R51 to R53) -/

/-- The slot of the session that a datagram names. -/
def dgSlot (d : List Byte) : Fin 64 := ⟨dgSession d % 64, Nat.mod_lt _ (by decide)⟩

/-- A datagram that is not wrong renews its session, and goes to where its kind goes. -/
theorem State.onDatagram_right (s : State) (c : Ctl) (p : Peer) (dtype st : Nat) (d : List Byte) (f : State → Fin 64 → State)
    (h : s.dgFault c dtype st d = none) :
    s.onDatagram c p dtype st d f =
      f (s.setSession (dgSession d % 64) { s.session (dgSession d % 64) with lastGood := s.now, peer := p }) (dgSlot d) := by
  simp only [State.onDatagram, h, dgSlot]

/-- As it comes in its frame to a port where Kisko runs. -/
theorem State.kiskoIn_right (s : State) (c : Ctl) (p : Peer) (dtype st : Nat) (d : List Byte) (f : State → Fin 64 → State)
    (hup : s.kiskoUp c p = true) (h : s.dgFault c dtype st d = none) :
    (s.kiskoIn c p fun s => s.onDatagram c p dtype st d f) =
      (f (s.setSession (dgSession d % 64) { s.session (dgSession d % 64) with lastGood := s.now, peer := p }) (dgSlot d)).bump
        (O.MGT_RX_FRAMES c.num) 1 := by
  rw [s.kiskoIn_up c p _ hup, s.onDatagram_right c p dtype st d f h]

/-- The count of a frame leaves the objects of the session slots. -/
theorem State.reg_frameCounted (s : State) (c : Ctl) (o : Nat) (h : 0x114000 ≤ o) :
    (s.bump (O.MGT_RX_FRAMES c.num) 1).reg o = s.reg o := by
  have hne : o ≠ O.MGT_RX_FRAMES c.num := by cases c <;> simp only [O.MGT_RX_FRAMES, Ctl.num] <;> omega
  rw [State.reg_bump, if_neg hne]

/-- So does a move in their ledger. -/
theorem State.reg_slotMoved (s : State) (a b o : Nat) (ha : a < 8) (hb : b < 8) (h : 0x114000 ≤ o) :
    (s.ledMove 0x1041 a b 1).reg o = s.reg o :=
  s.reg_ledMove_ne _ _ _ _ _ (by simp only [ledTerm]; omega) (by simp only [ledTerm]; omega)

/-- An answer that is sent leaves every register. -/
theorem State.reg_answered (s : State) (m : Nat) (p : Peer) (g : List Byte) (a : Reply) (o : Nat) :
    ({ s.sendKisko m p g with reply := a } : State).reg o = s.reg o :=
  s.reg_sendKisko m p g o

/-! ### Session setup (R55) -/

/-- A free slot that is challenged for a role at a controller's port. -/
def State.slotChallenged (s : State) (c : Ctl) (p : Peer) (role i : Nat) : State :=
  ((((((s.setReg (O.SES_STATE i) 1).setReg (O.SES_ROLE i) role).setReg (O.SES_CONTROLLER i) c.num).setReg (O.SES_PEER_PORT i)
    (p.port % 65536)).setReg (O.SES_LAST_SEQ i) 0).setReg (O.SES_OPEN_TT i) 0).ledMove 0x1041 1 2 1

/-- Its objects say so. -/
theorem State.slotChallenged_reads (s : State) (c : Ctl) (p : Peer) (role i : Nat) :
    (s.slotChallenged c p role i).reg (O.SES_STATE i) = 1 ∧ (s.slotChallenged c p role i).reg (O.SES_ROLE i) = role ∧
      (s.slotChallenged c p role i).reg (O.SES_CONTROLLER i) = c.num := by
  refine ⟨?_, ?_, ?_⟩ <;> rw [State.slotChallenged, State.reg_slotMoved _ _ _ _ (by decide) (by decide) (Nat.le_add_right_of_le (by decide))] <;>
    simp [State.reg_setReg]

/-- HELLO for a role, while slot i is the lowest free one, challenges that slot with the host's nonce kept. -/
theorem State.hello_free (s : State) (c : Ctl) (p : Peer) (d : List Byte) (i : Nat) (h1 : 1 ≤ byteAt (dgBody d) 0)
    (h3 : byteAt (dgBody d) 0 ≤ 3) (hi : (List.range 64).find? (fun i => s.reg (O.SES_STATE i) == 0) = some i) :
    ∃ (x : Session) (g : List Byte), x.nc = slice 4 16 (dgBody d) ∧
      s.hello c p d = { (((s.drawBytes 16).2.slotChallenged c p (byteAt (dgBody d) 0) i).setSession i x).sendKisko c.num p g with
        reply := ⟨.okay, []⟩ } := by
  have hrole : ¬ (byteAt (dgBody d) 0 = 0 ∨ 3 < byteAt (dgBody d) 0) := by omega
  refine ⟨_, _, ?nonce, by simp only [State.hello, if_neg hrole, State.drawBytes_reg, hi]; rfl⟩
  case nonce => rfl

/-- HELLO in its form, as it arrives. -/
theorem exec_hello_free (s u : State) (t : Nat) (port : Ctl) (p : Peer) (i : Nat) (d : List Byte) (hu : u = s.tickTo t)
    (hup : u.kiskoUp port p = true) (hmagic : fieldLE d 0 2 = 0x4B53) (hversion : byteAt d 2 = 1) (htype : dgType d = 5)
    (hsession : dgSession d = 0) (hlen : dgLen d = 20) (hd : d.length = 36) (h1 : 1 ≤ byteAt (dgBody d) 0)
    (h3 : byteAt (dgBody d) 0 ≤ 3) (hi : (List.range 64).find? (fun i => u.reg (O.SES_STATE i) == 0) = some i) :
    ∃ y, exec (.hello t port p d) s = .next y ∧ y.reg (O.SES_STATE i) = 1 ∧ y.reg (O.SES_ROLE i) = byteAt (dgBody d) 0 ∧
      y.reg (O.SES_CONTROLLER i) = port.num ∧ (y.session i).nc = slice 4 16 (dgBody d) ∧ y.reply = ⟨.okay, []⟩ := by
  obtain ⟨x, g, hnc, hw⟩ := u.hello_free port p d i h1 h3 hi
  have htake : u.takeHello port p d = u.hello port p d := by
    simp [State.takeHello, hmagic, hversion, htype, hsession, hlen, hd]
  obtain ⟨hstate, hrole, hctl⟩ := (u.drawBytes 16).2.slotChallenged_reads port p (byteAt (dgBody d) 0) i
  refine ⟨_, by rw [exec_hello, execHello, ← hu, u.kiskoIn_up port p _ hup, htake, hw], ?_, ?_, ?_, ?_, rfl⟩
  · rw [State.reg_frameCounted _ _ _ (Nat.le_add_right_of_le (by decide)), State.reg_answered, State.reg_setSession, hstate]
  · rw [State.reg_frameCounted _ _ _ (Nat.le_add_right_of_le (by decide)), State.reg_answered, State.reg_setSession, hrole]
  · rw [State.reg_frameCounted _ _ _ (Nat.le_add_right_of_le (by decide)), State.reg_answered, State.reg_setSession, hctl]
  · rw [State.session_bump]
    exact (congrArg Session.nc ((State.session_sendKisko ..).trans (State.session_setSession_same ..))).trans hnc

/-- A session that opens in its challenged slot. -/
def State.sessionOpened (s : State) (i : Nat) : State :=
  (((s.setReg (O.SES_STATE i) 2).setReg (O.SES_LAST_SEQ i) 1).setReg (O.SES_OPEN_TT i) s.ttTickNow).ledMove 0x1041 2 3 1

/-- It is open, and the SEQ of its PROOF is the last. -/
theorem State.sessionOpened_reads (s : State) (i : Nat) :
    (s.sessionOpened i).reg (O.SES_STATE i) = 2 ∧ (s.sessionOpened i).reg (O.SES_LAST_SEQ i) = 1 := by
  refine ⟨?_, ?_⟩ <;> rw [State.sessionOpened, State.reg_slotMoved _ _ _ _ (by decide) (by decide) (Nat.le_add_right_of_le (by decide))] <;>
    simp [State.reg_setReg]

/-- A correct PROOF in time opens its session. -/
theorem State.proof_opens (s : State) (c : Ctl) (p : Peer) (d : List Byte) (i : Nat) (hseq : dgSeq d = 1)
    (htime : s.now ≤ (s.session i).challengeAt + 1000 * Config.msUnits)
    (hbody : dgBody d = hmac (s.session i).kRole (ascii "KISKO-P1" ++ (s.session i).nc ++ (s.session i).nd)) :
    ∃ g, s.proof c p d i = { (s.sessionOpened i).sendKisko c.num p g with reply := ⟨.okay, []⟩ } :=
  ⟨_, if_pos ⟨hseq, htime, hbody⟩⟩

/-- PROOF, as it arrives. -/
theorem exec_proof_opens (s u : State) (t : Nat) (port : Ctl) (p : Peer) (d : List Byte) (i : Nat) (hu : u = s.tickTo t)
    (hup : u.kiskoUp port p = true) (h : u.dgFault port 7 1 d = none) (hi : dgSession d % 64 = i) (hseq : dgSeq d = 1)
    (htime : u.now ≤ (u.session i).challengeAt + 1000 * Config.msUnits)
    (hbody : dgBody d = hmac (u.session i).kRole (ascii "KISKO-P1" ++ (u.session i).nc ++ (u.session i).nd)) :
    ∃ y, exec (.proof t port p d) s = .next y ∧ y.reg (O.SES_STATE i) = 2 ∧ y.reg (O.SES_LAST_SEQ i) = 1 ∧ y.reply = ⟨.okay, []⟩ := by
  obtain ⟨w, hw⟩ : ∃ w, w = u.setSession i { u.session i with lastGood := u.now, peer := p } := ⟨_, rfl⟩
  have hsession : w.session i = { u.session i with lastGood := u.now, peer := p } := by rw [hw, State.session_setSession_same]
  have hnow : w.now = u.now := by rw [hw]; rfl
  obtain ⟨g, hg⟩ := w.proof_opens port p d i hseq (by rw [hsession, hnow]; exact htime) (by rw [hsession]; exact hbody)
  have htake : u.takeProof port p d = w.proof port p d i := by
    simp only [State.takeProof, h, u.onDatagram_right port p 7 1 d _ h, hi, ← hw, dgSlot]
    rfl
  obtain ⟨hstate, hlast⟩ := w.sessionOpened_reads i
  refine ⟨_, by rw [exec_proof, execProof, ← hu, u.kiskoIn_up port p _ hup, htake, hg], ?_, ?_, rfl⟩
  · rw [State.reg_frameCounted _ _ _ (Nat.le_add_right_of_le (by decide)), State.reg_answered, hstate]
  · rw [State.reg_frameCounted _ _ _ (Nat.le_add_right_of_le (by decide)), State.reg_answered, hlast]

/-! ### Timeouts (R54, R58, R61) -/

/-- A slot from which nothing right has come for SESSION_TIMEOUT, its controller present, is freed. -/
theorem exec_sessionTimeout_due (s u : State) (t : Nat) (slot : Fin 64) (hu : u = s.tickTo t) (htaken : u.reg (O.SES_STATE slot.val) ≠ 0)
    (hpresent : u.isSet (O.MC_DEBUG_ABSENT (u.reg (O.SES_CONTROLLER slot.val))) = false)
    (hdue : (u.session slot.val).lastGood + u.reg O.KISKO_SESSION_TIMEOUT * Config.msUnits ≤ u.now) :
    exec (.sessionTimeout t slot) s = .next (u.closeSession slot.val) := by
  rw [exec_sessionTimeout, execSessionTimeout, ← hu]
  exact congrArg _ (if_pos ⟨htaken, by rw [hpresent]; rfl, hdue⟩)

/-- What a stream to the host has sent and not had acknowledged for STREAM_RTO is sent again. -/
theorem exec_streamRto_due (s u : State) (t : Nat) (stream : Fin 128) (x : Stream) (hu : u = s.tickTo t) (hx : u.stream stream.val = x)
    (hopen : x.isOpen = true) (hdir : x.toDevice = false) (hsent : x.acked < x.next)
    (hdue : x.lastAck + u.reg O.KISKO_STREAM_RTO * Config.usUnits ≤ u.now) :
    exec (.streamRto t stream) s =
      .next ((u.resend stream.val x.acked (x.next - x.acked) ((x.next - x.acked) / 43 + 1)).setStream stream.val
        { x with lastAck := u.now }) := by
  have hwait : ¬ (x.next - x.acked = 0) := by omega
  rw [exec_streamRto, execStreamRto, ← hu]
  simp only [hx, hopen, hdir, hwait, Nat.not_lt_of_le hdue, Bool.not_true, Bool.false_eq_true, or_self, if_false]

/-- A record that does not complete in time completes with TIMEOUT; where the free value says that it takes no effect, that is all. -/
theorem State.lateRecord_completes (s : State) (slot : Fin 64) (op idx sub ty : Nat) (data : List Byte) :
    (s.lateRecord slot op idx sub ty data).reply = ⟨.timeout, []⟩ ∧
      (Config.freeBool s.draws = false → s.lateRecord slot op idx sub ty data =
        { s.drawBool.2.tally false 95 .timeout with reply := ⟨.timeout, []⟩ }) := by
  refine ⟨rfl, fun h => ?_⟩
  have hb : s.drawBool.1 = false := h
  simp only [State.lateRecord, hb, Bool.false_eq_true, if_false]

/-! ### Records of streams (R54, R60) -/

/-- A granted STREAM_OPEN on a queue that takes a stream opens it. -/
theorem State.openRecord_opens (s v : State) (slot : Fin 64) (queue dir credit i : Nat) (hq : queue < 32768) (hdir : dir ≤ 1)
    (h : s.checkAccess (.session slot) (O.Q_ENABLE queue) true = (.okay, false))
    (hopen : s.openStream slot.val queue (dir == 1) credit = (.okay, i, v)) :
    s.openRecord slot queue dir credit = v.complete (.session slot) (O.Q_ENABLE queue) false .okay (leBytes 1 i) := by
  simp only [State.openRecord, if_pos hq, h, if_neg (Nat.not_lt_of_le hdir), hopen]

/-- STREAM_CLOSE of an open stream of the session closes it. -/
theorem State.closeRecord_closes (s : State) (slot : Fin 64) (i : Nat) (hrole : s.roleOf (.session slot) ≠ 0) (hi : i < 128)
    (hopen : (s.stream i).isOpen = true) (hslot : (s.stream i).slot = slot.val) :
    s.closeRecord slot i = (s.closeStream i).complete (.session slot) (O.Q_ENABLE (s.stream i).queue) false .okay [] := by
  simp only [State.closeRecord, if_neg hrole, Nat.not_le_of_lt hi, hopen, hslot, Bool.not_true, Bool.false_eq_true, ne_eq, not_true,
    or_self, if_false]

/-- Settles O28: each clause is the law of its datagram, its record or its timeout. -/
theorem sessionAndStreamCommandsComplete : Obligations.SessionAndStreamCommandsComplete := by
  refine ⟨?_, ?_, ?_, ?_, ?_, ?_, ?_, ?_, ?_, ?_, ?_, ?_, ?_⟩
  · exact exec_hello_free
  · exact exec_proof_opens
  · rintro s _ t port p d rfl hup h
    rw [exec_close, execClose]
    exact congrArg _ (State.kiskoIn_right _ _ _ _ _ _ _ hup h)
  · rintro s _ t r slot rfl h
    rw [exec_close, execClose]
    exact congrArg _ (State.writeObj_okays _ _ _ _ _ _ h rfl)
  · exact exec_sessionTimeout_due
  · rintro s _ t port p d late rfl hup h
    rw [exec_requestDatagram, execRequestDatagram]
    exact congrArg _ (State.kiskoIn_right _ _ _ _ _ _ _ hup h)
  · rintro s _ t port p d rfl hup h
    rw [exec_streamData, execStreamData]
    exact congrArg _ (State.kiskoIn_right _ _ _ _ _ _ _ hup h)
  · rintro s _ t port p d rfl hup h
    rw [exec_streamAck, execStreamAck]
    exact congrArg _ (State.kiskoIn_right _ _ _ _ _ _ _ hup h)
  · exact fun s u t stream hu hopen hdir hsent hdue => exec_streamRto_due s u t stream _ hu rfl hopen hdir hsent hdue
  · rintro s _ t slot queue dir credit i v rfl hq hdir h hopen
    rw [exec_streamOpen, execStreamOpen, State.openRecord_opens _ v slot queue dir credit i hq hdir h hopen]
  · rintro s _ t slot i rfl hrole hi hopen hslot
    rw [exec_streamClose, execStreamClose, State.closeRecord_closes _ slot i hrole hi hopen hslot]
  · rintro s _ t slot rfl hrole
    rw [exec_ping, execPing, State.ping, if_neg hrole]
  · rintro s _ t slot rcd rfl
    obtain ⟨hreply, hnone⟩ := State.lateRecord_completes (s.tickTo t) slot (byteAt rcd 0) (fieldLE rcd 2 2) (byteAt rcd 4)
      (byteAt rcd 5) (slice 8 (fieldLE rcd 6 2) rcd)
    exact ⟨_, rfl, hreply, hnone⟩

end Sys2Proof.Machine
end

section
/-! Actions that are armed and cancelled: what the arms and cancels of *Table 3.5* have in common, and the rows that name one of them by
its kind. -/

namespace Sys2Proof.Machine

/-- An arm whose S the device can arm at is judged by the rules of its own kind (R78, R85). -/
theorem arming_mayArm (o : Nat) (whole : Bool) (f : State → Status × State) (s : State) (h : s.mayArm (s.reg o) whole = true) :
    arming o whole f 1 s = f s := if_pos h

/-- A cancel of an action that takes effect no earlier than the next tick boundary ends it as cancelled (R87). -/
theorem State.cancelAction_ahead (s : State) (k : ActKind) (unit : Nat) (a : Sched) (h : s.sched k unit = some a)
    (hahead : (s.now / Config.tickUnits + 1) * Config.tickUnits ≤ s.effectAt k unit a) :
    s.cancelAction k unit = (.okay, s.endAction k unit 2) := by
  simp only [State.cancelAction, h, if_neg (Nat.not_lt_of_le hahead)]

/-- SCHEDULED_ARM is a write of the object that arms, by that object's owner. -/
theorem exec_scheduledArm_owned (s : State) (t : Nat) (r : Requester) (a : Arming) (v : Bool) (f : Owner)
    (h : (s.tickTo t).ownerOf r (armObj a) = f) :
    exec (.scheduledArm t r a v) s = .next ((s.tickTo t).writeObj r (armObj a) (b2n v) f) := by
  rw [exec_scheduledArm, execScheduledArm, h]

/-- SCHEDULED_CANCEL is a write of the object that cancels, by that object's owner. -/
theorem exec_scheduledCancel_owned (s : State) (t : Nat) (r : Requester) (a : Arming) (v : Bool) (f : Owner)
    (h : (s.tickTo t).ownerOf r (cancelObj a) = f) :
    exec (.scheduledCancel t r a v) s = .next ((s.tickTo t).writeObj r (cancelObj a) (b2n v) f) := by
  rw [exec_scheduledCancel, execScheduledCancel, h]

end Sys2Proof.Machine
end

section
/-! Tester time: exchanges of a PTP domain and the loss of them, the switch of the active timeline and the end of its slew, and TT_RESYNC. -/

namespace Sys2Proof.Machine

/-! ### PTP domains (R90) -/

/-- A domain that enters a state is in it. -/
theorem State.ptpState_ptpEnter (s : State) (k st : Nat) : (s.ptpEnter k st).reg (O.PTP_STATE k) = st := by
  unfold State.ptpEnter
  split
  · assumption
  · rw [State.reg_setFlag _ _ _ _ _ _ (by decide) (by simp only [O.PTP_STATE_CHANGE, O.PTP_STATE_CHANGE_COUNT]; omega),
      if_neg (by simp only [O.PTP_STATE, O.PTP_STATE_CHANGE]; omega),
      if_neg (by simp only [O.PTP_STATE, O.PTP_STATE_CHANGE_COUNT]; omega), State.reg_setReg_same]

/-- Entering a state writes STATE, STATE_CHANGE and its count, and no other register. -/
theorem State.reg_ptpEnter_ne (s : State) (k st p : Nat)
    (h : p ∉ [O.PTP_STATE k, O.PTP_STATE_CHANGE k, O.PTP_STATE_CHANGE_COUNT k]) : (s.ptpEnter k st).reg p = s.reg p := by
  simp only [List.mem_cons, List.not_mem_nil, or_false, not_or] at h
  obtain ⟨hstate, hchange, hcount⟩ := h
  unfold State.ptpEnter
  split
  · rfl
  · rw [State.reg_setFlag _ _ _ _ _ _ (by decide) (by simp only [O.PTP_STATE_CHANGE, O.PTP_STATE_CHANGE_COUNT]; omega), if_neg hchange,
      if_neg hcount, State.reg_setReg_ne _ _ _ _ hstate]

/-- Nor does it touch what a domain holds behind its objects. -/
@[simp] theorem State.ptpDom_ptpEnter (s : State) (k st j : Nat) : (s.ptpEnter k st).ptpDom j = s.ptpDom j := by
  unfold State.ptpEnter
  split
  · rfl
  · rw [State.ptpDom_setFlag, State.ptpDom_setReg]

/-- The direct correction writes no register. -/
@[simp] theorem State.reg_ptpDirect (s : State) (k : Nat) (offset : Int) (p : Nat) : (s.ptpDirect k offset).reg p = s.reg p := rfl

/-- The direct correction sets a domain's mapping, and its count of good offsets starts again. -/
@[simp] theorem State.ptpDom_ptpDirect (s : State) (k : Nat) (offset : Int) :
    (s.ptpDirect k offset).ptpDom k = { s.ptpDom k with base := s.ptpNow k - offset * ptpNs, baseAt := s.now, good := 0 } :=
  State.ptpDom_setPtp_same ..

/-- The Sync that a LISTENING domain hears makes it ACQUIRING and is its direct correction. -/
theorem State.ptpSync_listening (s : State) (k : Nat) (offset : Int) (h : s.reg (O.PTP_STATE k) = 1) :
    s.ptpSync k offset = (s.ptpEnter k 2).ptpDirect k offset := by
  simp only [State.ptpSync, h]

/-- What an exchange measured stands in its domain's objects, and the domain has heard a Sync. -/
def State.ptpNoted (s : State) (k master : Nat) (offset : Int) (delay interval : Nat) : State :=
  let w := ((s.setReg (O.PTP_MASTER_ID k) (master % 2 ^ 64)).setReg (O.PTP_OFFSET k) (unsigned 64 offset)).setReg
    (O.PTP_MEAN_PATH_DELAY k) (delay % 2 ^ 64)
  w.setPtp k { w.ptpDom k with lastSync := w.now, interval := interval }

/-- MASTER_ID, OFFSET and MEAN_PATH_DELAY are all that it writes. -/
theorem State.reg_ptpNoted (s : State) (k master : Nat) (offset : Int) (delay interval p : Nat) :
    (s.ptpNoted k master offset delay interval).reg p =
      if p = O.PTP_MEAN_PATH_DELAY k then delay % 2 ^ 64 else if p = O.PTP_OFFSET k then unsigned 64 offset
      else if p = O.PTP_MASTER_ID k then master % 2 ^ 64 else s.reg p := by
  simp only [State.ptpNoted, State.reg_setPtp, State.reg_setReg]

/-- The Sync was heard now, and the interval is its own. -/
theorem State.ptpDom_ptpNoted (s : State) (k master : Nat) (offset : Int) (delay interval : Nat) :
    (s.ptpNoted k master offset delay interval).ptpDom k = { s.ptpDom k with lastSync := s.now, interval := interval } :=
  State.ptpDom_setPtp_same ..

/-- An exchange of an enabled domain that the active timeline does not follow moves that domain alone. -/
theorem State.ptpExchange_apart (s : State) (k master : Nat) (offset : Int) (delay interval : Nat) (h : s.reg (O.PTP_STATE k) ≠ 0)
    (hk : k ≠ ((s.ptpNoted k master offset delay interval).ptpSync k offset).reg O.ACT_ACTIVE_DOMAIN) :
    s.ptpExchange k master offset delay interval = (s.ptpNoted k master offset delay interval).ptpSync k offset := by
  rw [State.ptpExchange, if_neg h]
  exact if_neg hk

/-- What an exchange measures, and ACTIVE_DOMAIN, are not what a change of state writes. -/
theorem ptpMeasures_apart : ∀ k : Fin 2, ∀ p ∈ [O.ACT_ACTIVE_DOMAIN, O.PTP_OFFSET k.val, O.PTP_MASTER_ID k.val],
    p ∉ [O.PTP_STATE k.val, O.PTP_STATE_CHANGE k.val, O.PTP_STATE_CHANGE_COUNT k.val] := by decide

/-- ACTIVE_DOMAIN and a domain's STATE are not what an exchange measures. -/
theorem ptpStates_apart : ∀ k : Fin 2, ∀ p ∈ [O.ACT_ACTIVE_DOMAIN, O.PTP_STATE k.val],
    p ≠ O.PTP_MEAN_PATH_DELAY k.val ∧ p ≠ O.PTP_OFFSET k.val ∧ p ≠ O.PTP_MASTER_ID k.val := by decide

/-- PTP_SYNC of a LISTENING domain that is not the active one: the exchange is noted, and the domain is ACQUIRING. -/
theorem exec_ptpSync_listening (s u : State) (t : Nat) (k : Fin 2) (master : Nat) (offset : Int) (delay interval : Nat) (hu : u = s.tickTo t)
    (h : u.reg (O.PTP_STATE k.val) = 1) (hk : k.val ≠ u.reg O.ACT_ACTIVE_DOMAIN) :
    ∃ y, exec (.ptpSync t k master offset delay interval) s = .next y ∧ y.reg (O.PTP_STATE k.val) = 2 ∧
      y.reg (O.PTP_OFFSET k.val) = unsigned 64 offset ∧ y.reg (O.PTP_MASTER_ID k.val) = master % 2 ^ 64 ∧
      (y.ptpDom k.val).lastSync = u.now ∧ (y.ptpDom k.val).interval = interval := by
  obtain ⟨w, hw⟩ : ∃ w, w = u.ptpNoted k.val master offset delay interval := ⟨_, rfl⟩
  have hnoted : ∀ p ∈ [O.ACT_ACTIVE_DOMAIN, O.PTP_STATE k.val], w.reg p = u.reg p := fun p hp => by
    obtain ⟨hdelay, hoffset, hmaster⟩ := ptpStates_apart k p hp
    rw [hw, State.reg_ptpNoted, if_neg hdelay, if_neg hoffset, if_neg hmaster]
  have hsync : w.ptpSync k.val offset = (w.ptpEnter k.val 2).ptpDirect k.val offset :=
    w.ptpSync_listening k.val offset ((hnoted _ (by simp)).trans h)
  have hkept : ∀ p ∈ [O.ACT_ACTIVE_DOMAIN, O.PTP_OFFSET k.val, O.PTP_MASTER_ID k.val], (w.ptpSync k.val offset).reg p = w.reg p :=
    fun p hp => by rw [hsync, State.reg_ptpDirect, State.reg_ptpEnter_ne _ _ _ _ (ptpMeasures_apart k p hp)]
  have hy : u.ptpExchange k.val master offset delay interval = w.ptpSync k.val offset := by
    rw [hw]
    refine u.ptpExchange_apart k.val master offset delay interval (by rw [h]; decide) ?_
    rwa [← hw, hkept _ (by simp), hnoted _ (by simp)]
  refine ⟨w.ptpSync k.val offset, by rw [exec_ptpSync, execPtpSync, ← hu, hy], ?_, ?_, ?_, ?_, ?_⟩
  · rw [hsync, State.reg_ptpDirect, State.ptpState_ptpEnter]
  · rw [hkept _ (by simp), hw, State.reg_ptpNoted]
    simp
  · rw [hkept _ (by simp), hw, State.reg_ptpNoted]
    simp
  · rw [hsync, State.ptpDom_ptpDirect, State.ptpDom_ptpEnter, hw, State.ptpDom_ptpNoted]
  · rw [hsync, State.ptpDom_ptpDirect, State.ptpDom_ptpEnter, hw, State.ptpDom_ptpNoted]

/-- PTP_SYNC_LOSS of a LOCKED domain that has heard no Sync for 4 intervals. -/
theorem exec_ptpSyncLoss_due (s u : State) (t : Nat) (k : Fin 2) (hu : u = s.tickTo t) (h : u.reg (O.PTP_STATE k.val) = 3)
    (hdue : (u.ptpDom k.val).lastSync + 4 * (u.ptpDom k.val).interval ≤ u.now) :
    exec (.ptpSyncLoss t k) s = .next ((u.setPtp k.val { u.ptpDom k.val with good := 0, holdoverAt := u.now }).ptpEnter k.val 4) := by
  rw [exec_ptpSyncLoss, execPtpSyncLoss, ← hu]
  exact congrArg _ (if_pos ⟨h, hdue⟩)

/-- HOLDOVER_LIMIT of a domain whose time in HOLDOVER is over. -/
theorem exec_holdoverLimit_due (s u : State) (t : Nat) (k : Fin 2) (hu : u = s.tickTo t) (h : u.reg (O.PTP_STATE k.val) = 4)
    (hdue : (u.ptpDom k.val).holdoverAt + u.reg (O.PTP_HOLDOVER_LIMIT k.val) * Config.msUnits ≤ u.now) :
    exec (.holdoverLimit t k) s = .next (u.ptpLeave k.val 1) := by
  rw [exec_holdoverLimit, execHoldoverLimit, ← hu]
  exact congrArg _ (if_pos ⟨h, hdue⟩)

/-! ### The active timeline (R91, R92) -/

/-- SWITCH_ARM towards a LOCKED domain, while no switch is armed and no slew is under way, arms the switch. -/
theorem ownSwitchArm_locked (s : State) (hnone : s.sched .ptpSwitch 0 = none) (hslew : s.act.slewing = false)
    (hlocked : s.reg (O.PTP_STATE (1 - s.reg O.ACT_ACTIVE_DOMAIN)) = 3) (hmay : s.mayArm (s.reg O.ACT_SWITCH_AT) true = true) :
    ownSwitchArm 1 s = s.armAction .ptpSwitch 0 (s.reg O.ACT_SWITCH_AT) (1 - s.reg O.ACT_ACTIVE_DOMAIN) := by
  rw [ownSwitchArm, arming_mayArm _ _ _ _ hmay]
  simp [hnone, hslew, hlocked]

/-- At S, towards a domain that is LOCKED and within SWITCH_LIMIT, a switch whose MODE is not to slew steps to the new domain. -/
theorem exec_activeDomainSwitch_steps (s u v : State) (t : Nat) (a : Sched) (hu : u = s.tickTo t) (h : u.sched .ptpSwitch 0 = some a)
    (hdue : u.due .ptpSwitch 0 a = true) (hv : v = u.endAction .ptpSwitch 0 1) (hlocked : v.reg (O.PTP_STATE a.arg) = 3)
    (hlimit : ((v.ptpNow a.arg - v.actNow).tdiv ptpNs).natAbs ≤ v.reg O.ACT_SWITCH_LIMIT) (hmode : v.reg O.ACT_SWITCH_MODE ≠ 0) :
    exec (.activeDomainSwitch t) s =
      .next (({ v.setReg O.ACT_ACTIVE_DOMAIN a.arg with act := {} }.followDomain v.actNow).switchDone .okay) := by
  have hmode' : (v.setReg O.ACT_ACTIVE_DOMAIN a.arg).reg O.ACT_SWITCH_MODE ≠ 0 := by
    rwa [State.reg_setReg_ne _ _ _ _ (by decide)]
  rw [exec_activeDomainSwitch, execActiveDomainSwitch]
  simp only [← hu, h, hdue, ← hv, hlocked, Nat.not_lt_of_le hlimit, hmode', Bool.not_true, Bool.false_eq_true, if_false, ne_eq, not_true,
    or_self, false_and]

/-- A slew whose residual has come to 0 ends. -/
theorem exec_slewEnd_done (s u : State) (t : Nat) (hu : u = s.tickTo t) (hslew : u.act.slewing = true) (hrun : u.act.paused = false)
    (hzero : u.residual = 0) : exec (.slewEnd t) s = .next ((({ u with act := {} }).setReg O.ACT_RESIDUAL 0).followDomain 0) := by
  rw [exec_slewEnd, execSlewEnd, ← hu]
  exact congrArg _ (if_pos ⟨hslew, by rw [hrun]; rfl, hzero⟩)

/-! ### TT_RESYNC (R80) -/

/-- TT_RESYNC with nothing pending, no engine running and a marker that was acquired: TT is not valid, and acquisition begins again. -/
theorem ownTtResync_idle (s : State) (hpend : s.reg O.SCHED_PENDING = 0) (hrun : s.anyRunning = false) (h : 2 ≤ s.reg O.MARK_MARKER_STATE) :
    ownTtResync 1 s =
      (.okay, (((s.ttGone.setReg O.MARK_TT_VALID 0).setReg O.MARK_MARKER_STATE 0).setMarker {}).ptpListen) := by
  have hmay : ¬(s.reg O.SCHED_PENDING ≠ 0 ∨ s.anyRunning = true ∨ s.reg O.MARK_MARKER_STATE < 2) := by
    simp only [hpend, hrun, ne_eq, not_true, Bool.false_eq_true, false_or]
    omega
  simp only [ownTtResync, command_one, if_neg hmay]

/-- Settles O32: each clause is what the owner of its object does, the law of what falls due, or the row that the action names. -/
theorem timelineCommandsComplete : Obligations.TimelineCommandsComplete := by
  refine ⟨?_, ?_, ?_, ?_, ?_, ?_, ?_, ?_, ?_, ?_, ?_⟩
  · exact exec_ptpSync_listening
  · exact exec_ptpSyncLoss_due
  · exact exec_holdoverLimit_due
  · rintro s _ t r v rfl hw hnone hslew hlocked hmay harm
    rw [exec_switchArm, execSwitchArm]
    exact congrArg _ (State.writeObj_okays _ _ _ _ _ _ hw ((ownSwitchArm_locked _ hnone hslew hlocked hmay).trans harm))
  · rintro s _ t r a rfl hw h hahead
    rw [exec_switchCancel, execSwitchCancel]
    exact congrArg _ (State.writeObj_okays _ _ _ _ _ _ hw (State.cancelAction_ahead _ _ _ a h hahead))
  · exact fun s u t a v hu h hdue hv hlocked hlimit hmode => exec_activeDomainSwitch_steps s u v t a hu h hdue hv hlocked hlimit hmode
  · exact exec_slewEnd_done
  · rintro s _ t r rfl hw hpend hrun h
    rw [exec_ttResync, execTtResync]
    exact congrArg _ (State.writeObj_okays _ _ _ _ _ _ hw (ownTtResync_idle _ hpend hrun h))
  · rintro s _ t r a v rfl hw hf
    rw [exec_scheduledArm, execScheduledArm]
    exact congrArg _ (State.writeObj_okays _ _ _ _ _ _ hw hf)
  · rintro s _ t r a v rfl hw hf
    rw [exec_scheduledCancel, execScheduledCancel]
    exact congrArg _ (State.writeObj_okays _ _ _ _ _ _ hw hf)
  · exact fun s t r v u e p q b =>
      ⟨exec_scheduledArm_owned s t r (.trigger u) v _ (ownerOf_ownTrigArm _ r u),
        exec_scheduledCancel_owned s t r (.trigger u) v _ (ownerOf_ownTrigCancel _ r u),
        exec_scheduledArm_owned s t r (.start e) v _ (ownerOf_ownStartArm _ r e),
        exec_scheduledCancel_owned s t r (.start e) v _ (ownerOf_ownStartCancel _ r e),
        exec_scheduledArm_owned s t r (.swap p) v _ (ownerOf_ownSwapArm _ r p),
        exec_scheduledCancel_owned s t r (.swap p) v _ (ownerOf_ownSwapCancel _ r p),
        exec_scheduledArm_owned s t r .sleep v _ (ownerOf_ownSleepArm _ r),
        exec_scheduledCancel_owned s t r .sleep v _ (ownerOf_ownSleepCancel _ r),
        exec_scheduledArm_owned s t r (.deadline q) v _ (ownerOf_ownDeadlineArm _ r q),
        exec_scheduledCancel_owned s t r (.deadline q) v _ (ownerOf_ownDeadlineCancel _ r q),
        exec_scheduledArm_owned s t r .ptpSwitch v _ (ownerOf_ownSwitchArm _ r),
        exec_scheduledCancel_owned s t r .ptpSwitch v _ (ownerOf_ownSwitchCancel _ r),
        exec_scheduledArm_owned s t r (.bank b) v _ (ownerOf_ownBankArm _ r b),
        exec_scheduledCancel_owned s t r (.bank b) v _ (ownerOf_ownBankCancel _ r b)⟩

end Sys2Proof.Machine
end

section
/-! Trigger units: what arms, cancels and moves their trains, the mode of a unit that was off, and the records of its edges. -/

namespace Sys2Proof.Machine

/-! ### Output trains (R95) -/

/-- ARM of an idle unit whose train is well formed arms its first pulse and keeps the train's COUNT, WIDTH and PERIOD. -/
theorem ownTrigArm_idle (k : Nat) (s v : State) (hmay : s.mayArm (s.reg (O.TRIG_AT k)) false = true) (hsettled : s.settleTrain k = s)
    (hidle : s.reg (O.TRIG_OUT_STATE k) = 0) (hcount : 0 < s.reg (O.TRIG_COUNT k))
    (hwidth : s.reg (O.TRIG_COUNT k) ≤ 1 ∨ 2 * s.reg (O.TRIG_WIDTH k) < s.reg (O.TRIG_PERIOD k)) (hperiod : 40000 ≤ s.reg (O.TRIG_PERIOD k))
    (harm : s.armAction .trigger k (s.reg (O.TRIG_AT k)) 0 = (.okay, v)) :
    ownTrigArm k 1 s =
      (.okay, (v.setTrig k { v.trig k with
        count := s.reg (O.TRIG_COUNT k), width := 2 * s.reg (O.TRIG_WIDTH k), period := s.reg (O.TRIG_PERIOD k) }).setReg
          (O.TRIG_OUT_STATE k) 1) := by
  have hformed : ¬(s.reg (O.TRIG_COUNT k) = 0 ∨ s.reg (O.TRIG_PERIOD k) < 40000 ∨
      (s.reg (O.TRIG_COUNT k) > 1 ∧ 2 * s.reg (O.TRIG_WIDTH k) ≥ s.reg (O.TRIG_PERIOD k))) := by omega
  rw [ownTrigArm, arming_mayArm _ _ _ _ hmay]
  simp only [hsettled, hidle, ne_eq, not_true, if_false, if_neg hformed, harm]

/-- CANCEL of a train that is still to come cancels its action and leaves the unit idle (R87). -/
theorem State.cancelTrain_armed (s : State) (k : Nat) (a : Sched) (hsettled : s.settleTrain k = s) (harmed : s.reg (O.TRIG_OUT_STATE k) = 1)
    (h : s.sched .trigger k = some a) (hahead : (s.now / Config.tickUnits + 1) * Config.tickUnits ≤ s.effectAt .trigger k a) :
    s.cancelTrain k = (.okay, (s.endAction .trigger k 2).setReg (O.TRIG_OUT_STATE k) 0) := by
  simp only [State.cancelTrain, hsettled, harmed, s.cancelAction_ahead .trigger k a h hahead]

/-- The first pulse of a train, at AT. -/
theorem exec_triggerPulse_first (s u : State) (t : Nat) (k : Fin 16) (a : Sched) (hu : u = s.tickTo t) (hsettled : u.settleTrain k.val = u)
    (h : u.sched .trigger k.val = some a) (hdue : u.due .trigger k.val a = true) (hmode : u.reg (O.TRIG_MODE k.val) = 1) :
    exec (.triggerPulse t k) s =
      .next (((u.endAction .trigger k.val 1).setReg (O.TRIG_OUT_STATE k.val) 2).beginPulse k.val (u.schedInstant a)
        ((u.trig k.val).count - 1)) := by
  rw [exec_triggerPulse, execTriggerPulse]
  simp only [← hu, hsettled, h, hdue, hmode, Bool.not_true, Bool.false_eq_true, if_false, ne_eq, not_true]

/-- A later pulse of a running train that nothing has cancelled. -/
theorem exec_triggerPulse_next (s u : State) (t : Nat) (k : Fin 16) (hu : u = s.tickTo t) (hsettled : u.settleTrain k.val = u)
    (hnone : u.sched .trigger k.val = none) (hrun : u.reg (O.TRIG_OUT_STATE k.val) = 2) (hleft : 0 < (u.trig k.val).left)
    (hdue : (u.trig k.val).nextEdge ≤ u.now) (hcancel : (u.trig k.val).cancelAt = 0) :
    exec (.triggerPulse t k) s = .next (u.beginPulse k.val (u.trig k.val).nextEdge ((u.trig k.val).left - 1)) := by
  rw [exec_triggerPulse, execTriggerPulse]
  simp only [← hu, hsettled, hnone, if_pos (And.intro hrun (And.intro hleft (And.intro hdue (Or.inl hcancel))))]

/-- A pulse whose WIDTH has passed ends. -/
theorem exec_pulseEnd_due (s u : State) (t : Nat) (k : Fin 16) (hu : u = s.tickTo t) (h : (u.trig k.val).inPulse = true)
    (hdue : (u.trig k.val).pulseEnd ≤ u.now) :
    exec (.pulseEnd t k) s = .next ((u.setTrig k.val { u.trig k.val with inPulse := false }).settleTrain k.val) := by
  rw [exec_pulseEnd, execPulseEnd, ← hu]
  exact congrArg _ (if_pos ⟨h, hdue⟩)

/-- A unit that was off, and so has no train and no record, takes its new MODE. -/
theorem ownTrigMode_off (k v : Nat) (s : State) (h : s.reg (O.TRIG_MODE k) = 0) : ownTrigMode k v s = (.okay, s.setReg (O.TRIG_MODE k) v) := by
  simp [ownTrigMode, h]

/-! ### Input records (R96) -/

/-- A unit without an open record has no DEADTIME to wait for. -/
theorem State.deadOver_closed (s : State) (k : Nat) (h : (s.trig k).rcd = none) : s.deadOver k = false := by
  simp only [State.deadOver, h]

/-- An edge of a unit that takes both, and that is not the wake trigger, opens a record where none is open, and is counted. -/
theorem exec_triggerInputEdge_opens (s u : State) (t : Nat) (k : Fin 16) (rising : Bool) (hu : u = s.tickTo t)
    (hmode : u.reg (O.TRIG_MODE k.val) = 2) (hfree : (u.trig k.val).holds.testBit 0 = false) (hpol : u.reg (O.TRIG_POLARITY k.val) = 2)
    (hwake : u.reg O.PWR_WAKE_TRIG ≠ k.val) (hnone : (u.trig k.val).rcd = none) :
    exec (.triggerInputEdge t k rising) s =
      .next (((u.ledAdd 0x1046 0 1).ledAdd 0x1046 3 1).setTrig k.val
        { u.trig k.val with rcd := some ⟨((u.ledAdd 0x1046 0 1).ledAdd 0x1046 3 1).stampNow, b2n rising, 0, 0, u.now⟩ }) := by
  have hselected : ¬(u.reg (O.TRIG_MODE k.val) ≠ 2 ∨ (u.trig k.val).holds.testBit 0 = true ∨
      (!(u.reg (O.TRIG_POLARITY k.val) == 2 || rising == (u.reg (O.TRIG_POLARITY k.val) == 0))) = true) := by
    simp [hmode, hfree, hpol]
  rw [exec_triggerInputEdge, execTriggerInputEdge]
  simp only [← hu, if_neg hselected, if_neg hwake, u.deadOver_closed _ hnone, Bool.false_eq_true, if_false, State.trig_ledAdd, hnone,
    State.ledAdd_now]

/-- A record whose DEADTIME has ended is closed. -/
theorem exec_deadtimeEnd_due (s u : State) (t : Nat) (k : Fin 16) (hu : u = s.tickTo t) (h : u.deadOver k.val = true) :
    exec (.deadtimeEnd t k) s = .next (u.closeTrigRec k.val) := by
  rw [exec_deadtimeEnd, execDeadtimeEnd, ← hu]
  exact congrArg _ (if_pos h)

/-- Settles O33: each clause is what the owner of its object does, or the law of what falls due. -/
theorem triggerCommandsComplete : Obligations.TriggerCommandsComplete := by
  refine ⟨?_, ?_, ?_, ?_, ?_, ?_, ?_, ?_⟩
  · rintro s _ t r k v rfl hw hmay hsettled hidle hcount hwidth hperiod harm
    rw [exec_arm, execArm]
    exact congrArg _ (State.writeObj_okays _ _ _ _ _ _ hw (ownTrigArm_idle _ _ v hmay hsettled hidle hcount hwidth hperiod harm))
  · rintro s _ t r k a rfl hw hsettled harmed h hahead
    rw [exec_cancel, execCancel]
    exact congrArg _ (State.writeObj_okays _ _ _ _ _ _ hw (State.cancelTrain_armed _ _ a hsettled harmed h hahead))
  · exact exec_triggerPulse_first
  · exact exec_triggerPulse_next
  · exact exec_pulseEnd_due
  · rintro s _ t r k v rfl hw h
    rw [exec_triggerModeWrite, execTriggerModeWrite]
    exact congrArg _ (State.writeObj_okays _ _ _ _ _ _ hw (ownTrigMode_off _ v _ h))
  · exact exec_triggerInputEdge_opens
  · exact exec_deadtimeEnd_due

end Sys2Proof.Machine
end

section
/-! Power programs: shed resets, the steps of a shed program, their commits, and the requests to sleep, to wake and to run. -/

namespace Sys2Proof.Machine

/-! ### Shed resets (R409) -/

/-- SHED_RESET of a shed of a quadrant that is ON and may leave it, while no program runs, begins its reset. -/
theorem ownShedReset_ready (sh : Nat) (s : State) (hprog : s.reg O.PWR_PROG_RUN = 0) (hsh : sh < 92) (hon : s.shedOn sh = true)
    (hleave : s.mayLeave sh = true) : ownShedReset sh 1 s = (.okay, s.beginReset sh) := by
  have hready : ¬(sh = 92 ∨ sh = 95 ∨ (sh = 93 ∧ s.holder = some .a) ∨ (sh = 94 ∧ s.holder = some .b) ∨ (!s.shedOn sh) = true ∨
      (!s.mayLeave sh) = true) := by
    rw [hon, hleave]
    simp
    omega
  simp only [ownShedReset, command_one, hprog, ne_eq, not_true, if_false, if_neg hready]

/-- A shed that is not being reset has no reset to finish. -/
theorem State.finishReset_idle (s : State) (sh : Nat) (h : s.resetting.contains sh = false) : s.finishReset sh = s := by
  simp only [State.finishReset, h, Bool.false_eq_true, false_and, if_false]

/-! ### Steps of a program (R410 to R412) -/

/-- A FENCE step that issues, and whose sheds are all FENCED at once, completes; the sheds it found OPEN are those it fenced. -/
theorem exec_fenceStep_fences (s u v : State) (t w : Nat) (hu : u = s.tickTo t) (h : u.stepNow 1 = some w) (hnew : u.seq.begun = false)
    (hv : (stepSheds w).foldl State.fenceShed u = v) (hall : (stepSheds w).all (fun sh => v.reg (O.RS_FENCE_STATE sh) == 2) = true) :
    exec (.fenceStep t) s =
      .next (({ v with seq := { v.seq with
        begun := true, fenced := v.seq.fenced ++ (stepSheds w).filter fun sh => u.reg (O.RS_FENCE_STATE sh) == 0 } } : State).stepDone) := by
  rw [exec_fenceStep, execFenceStep]
  simp only [← hu, h, hnew, Bool.false_eq_true, if_false, hv]
  exact congrArg _ (if_pos hall)

/-- An UNFENCE step whose sheds are all ON returns them to traffic. -/
theorem exec_unfenceStep_opens (s u : State) (t w : Nat) (hu : u = s.tickTo t) (h : u.stepNow 2 = some w)
    (hon : (stepSheds w).any (fun sh => !u.shedOn sh) = false) :
    exec (.unfenceStep t) s = .next ((stepSheds w).foldl State.unfenceShed u).stepDone := by
  rw [exec_unfenceStep, execUnfenceStep]
  simp only [← hu, h, hon, Bool.false_eq_true, if_false]

/-- FENCE of an OPEN shed that the running FENCE step names. -/
theorem exec_fence_named (s u : State) (t w : Nat) (rs : Fin 98) (hu : u = s.tickTo t) (h : u.stepNow 1 = some w)
    (hnamed : (stepSheds w).contains rs.val = true) (hopen : u.reg (O.RS_FENCE_STATE rs.val) = 0) :
    exec (.fence t rs) s = .next { u.fenceShed rs.val with seq := { u.seq with fenced := u.seq.fenced ++ [rs.val] } } := by
  rw [exec_fence, execFence]
  simp only [← hu, h, if_pos (And.intro hnamed hopen)]

/-- UNFENCE of a shed that is ON, that no reset holds and that the running UNFENCE step names. -/
theorem exec_unfence_named (s u : State) (t w : Nat) (rs : Fin 98) (hu : u = s.tickTo t) (hidle : u.resetting.contains rs.val = false)
    (h : u.stepNow 2 = some w) (hnamed : (stepSheds w).contains rs.val = true) (hon : u.shedOn rs.val = true) :
    exec (.unfence t rs) s = .next (u.unfenceShed rs.val) := by
  rw [exec_unfence, execUnfence]
  simp only [← hu, u.finishReset_idle rs.val hidle, h, if_pos (And.intro hnamed hon)]

/-- A SET_SHED step each of whose sheds may move moves them. -/
theorem exec_setShed_moves (s u : State) (t w : Nat) (hu : u = s.tickTo t) (h : u.stepNow 3 = some w)
    (hmay : (stepSheds w).all (fun sh => u.maySet sh (stepState w)) = true) :
    exec (.setShed t) s = .next ((stepSheds w).foldl (fun (s : State) sh => s.moveShed sh (stepState w)) u).stepDone := by
  rw [exec_setShed, execSetShed]
  simp only [← hu, h, hmay, if_true]

/-- A WAIT step whose time has passed completes. -/
theorem exec_shedWait_due (s u : State) (t w : Nat) (hu : u = s.tickTo t) (h : u.stepNow 4 = some w)
    (hdue : u.seq.stepAt + stepArg w * Config.usUnits ≤ u.now) : exec (.shedWait t) s = .next u.stepDone := by
  rw [exec_shedWait, execShedWait]
  simp only [← hu, h, if_pos hdue]

/-- Where no event has come, the wake latch takes none. -/
theorem State.takeWakes_none (s : State) (h : s.wakeIn = 0) : s.takeWakes = s := by
  have hsame : { s with wakeIn := 0 } = s := by rw [← h]
  simp only [State.takeWakes, h, Nat.zero_testBit, Bool.false_and, Bool.false_eq_true, if_false, List.foldl_fixed, hsame]

/-- A COMMIT step in whose cycle no wake event comes makes the next always-on cycle the commit point (R416). -/
theorem exec_commit_unwoken (s u : State) (t w : Nat) (hu : u = s.tickTo t) (hwake : u.wakeIn = 0) (h : u.stepNow 5 = some w) :
    exec (.commit t) s = .next { u.stepDone with seq := { u.stepDone.seq with commitAt := u.now / Config.aonUnits + 1 } } := by
  rw [exec_commit, execCommit]
  simp only [← hu, u.takeWakes_none hwake, h]

/-- A SET_STATE step writes DEVICE_STATE. -/
theorem exec_setState_writes (s u : State) (t w : Nat) (hu : u = s.tickTo t) (h : u.stepNow 6 = some w) :
    exec (.setState t) s = .next (u.setReg O.DEV_DEVICE_STATE (bits w 1 0)).stepDone := by
  rw [exec_setState, execSetState]
  simp only [← hu, h]

/-- The END of program 3, the user's, reports OKAY in USER_STATUS. -/
theorem exec_programEnd_user (s u : State) (t w : Nat) (hu : u = s.tickTo t) (h : u.stepNow 0 = some w)
    (hrun : u.reg O.PWR_PROG_RUN = 4) :
    exec (.programEnd t) s = .next (({ u.setReg O.PWR_PROG_RUN 0 with seq := {} } : State).setReg O.PWR_USER_STATUS Status.okay.code) := by
  rw [exec_programEnd, execProgramEnd]
  simp only [← hu, h, hrun, if_true]
  exact congrArg _ (if_neg (by decide))

/-! ### Commits of programs (R411) -/

/-- A program that passes the checks of its commit is stored while none runs. -/
theorem ownShedProgram_stores (k : Nat) (img : List Byte) (s : State) (h : s.progRefused k img = false) (hrun : s.reg O.PWR_PROG_RUN = 0) :
    ownShedProgram k img 0 s = (.okay, s.setImage (O.SPROG_PROGRAM k) img) := by
  simp only [ownShedProgram, unscheduled_zero, h, hrun, Bool.false_eq_true, ne_eq, not_true, if_false]

/-- SHED_PROGRAM_COMMIT of such a program: it reads as the image committed. -/
theorem exec_shedProgramCommit_stores (s u : State) (t : Nat) (r : Requester) (crc : Nat) (img : List Byte) (k : Fin 4) (hu : u = s.tickTo t)
    (h : u.commitReady r (O.SPROG_PROGRAM k.val) crc img = true) (hok : u.progRefused k.val img = false)
    (hrun : u.reg O.PWR_PROG_RUN = 0) :
    ∃ y, exec (.shedProgramCommit t r k crc 0) s = .next y ∧ y.image (O.SPROG_PROGRAM k.val) = img ∧ y.reply.status = .okay := by
  have hy := u.commitObj_okays _ r _ crc img _ h (ownShedProgram_stores k.val img (u.setXfer (O.SPROG_PROGRAM k.val) none) hok hrun)
  refine ⟨_, by rw [exec_shedProgramCommit, execShedProgramCommit, ← hu, hy], ?_, by rw [State.complete_reply]⟩
  rw [State.image_complete, State.image_setImage_same]

/-! ### Sleep, and the user's program (R411, R414) -/

/-- SLEEP_ARM in DEVICE_STATE 1, with no sleep armed and no program running, arms the entry. -/
theorem ownSleepArm_awake (s : State) (hstate : s.reg O.DEV_DEVICE_STATE = 1) (hnone : s.sched .sleep 0 = none)
    (hrun : s.reg O.PWR_PROG_RUN = 0) (hmay : s.mayArm (s.reg O.PWR_SLEEP_AT) true = true) :
    ownSleepArm 1 s = s.armAction .sleep 0 (s.reg O.PWR_SLEEP_AT) (s.reg O.PWR_SLEEP_TARGET) := by
  rw [ownSleepArm, arming_mayArm _ _ _ _ hmay]
  simp [hstate, hnone, hrun]

/-- At S the entry's program begins: program 1 for target 3, else program 0. -/
theorem exec_sleepEntry_begins (s u : State) (t : Nat) (a : Sched) (hu : u = s.tickTo t) (h : u.sched .sleep 0 = some a)
    (hdue : u.due .sleep 0 a = true) (hstate : u.reg O.DEV_DEVICE_STATE = 1) (hrun : u.reg O.PWR_PROG_RUN = 0) :
    exec (.sleepEntry t) s = .next ((u.endAction .sleep 0 1).startProgram (if a.arg = 3 then 1 else 0)) := by
  rw [exec_sleepEntry, execSleepEntry]
  simp only [← hu, h, hdue, hstate, hrun, Bool.not_true, Bool.false_eq_true, if_false, ne_eq, not_true, or_self]

/-- RUN_USER begins program 3 while none runs. -/
theorem ownRunUser_idle (s : State) (h : s.reg O.PWR_PROG_RUN = 0) : ownRunUser 1 s = (.okay, s.startProgram 3) := by
  simp only [ownRunUser, command_one, h, ne_eq, not_true, if_false]

/-- Settles O35: each clause is what the owner of its object does, the law of a step of a program, or the law of what falls due. -/
theorem powerProgramCommandsComplete : Obligations.PowerProgramCommandsComplete := by
  refine ⟨?_, ?_, ?_, ?_, ?_, ?_, ?_, ?_, ?_, ?_, ?_, ?_, ?_, ?_, ?_, ?_, ?_⟩
  · rintro s _ t r sh rfl hw hprog hsh hon hleave
    rw [exec_shedReset, execShedReset]
    exact congrArg _ (State.writeObj_okays _ _ _ _ _ _ hw (ownShedReset_ready _ _ hprog hsh hon hleave))
  · exact fun s u t w v hu h hnew hv hall => exec_fenceStep_fences s u v t w hu h hnew hv hall
  · exact exec_unfenceStep_opens
  · exact exec_fence_named
  · exact exec_unfence_named
  · exact exec_setShed_moves
  · exact exec_shedWait_due
  · exact exec_commit_unwoken
  · exact exec_setState_writes
  · exact exec_programEnd_user
  · exact exec_shedProgramCommit_stores
  · rintro s _ t r v rfl hw hstate hnone hrun hmay harm
    rw [exec_sleepArm, execSleepArm]
    exact congrArg _ (State.writeObj_okays _ _ _ _ _ _ hw ((ownSleepArm_awake _ hstate hnone hrun hmay).trans harm))
  · rintro s _ t r a rfl hw h hahead
    rw [exec_sleepCancel, execSleepCancel]
    exact congrArg _ (State.writeObj_okays _ _ _ _ _ _ hw (State.cancelAction_ahead _ _ _ a h hahead))
  · rintro s _ t rfl
    rw [exec_wakeEvent, execWakeEvent]
  · rintro s _ t r rfl hw
    rw [exec_wakeRequest, execWakeRequest]
    exact congrArg _ (State.writeObj_okays _ _ _ _ _ _ hw rfl)
  · exact exec_sleepEntry_begins
  · rintro s _ t r rfl hw h
    rw [exec_runUser, execRunUser]
    exact congrArg _ (State.writeObj_okays _ _ _ _ _ _ hw (ownRunUser_idle _ h))

end Sys2Proof.Machine
end

section
/-! Channels: commits of the channel map and of timing sets, bank switches, the pad-state latch and the mappings of a parked channel, stops and
pattern starts, vectors and edges. -/

namespace Sys2Proof.Machine

/-! ### Commits that carry a TT (R7, R42) -/

/-- A commit that finds its transfer complete, and whose owner performs it at the TT that the commit's image holds, completes with OKAY. -/
theorem State.commitObj_okays_at (s w : State) (r : Requester) (o crc z tt : Nat) (img : List Byte) (f : ImgOwner)
    (h : s.commitReady r o crc img = true) (htt : tt = ttImage (ttTick z) (ttFine z))
    (hf : f img tt (s.setXfer o none) = (.okay, w)) : s.commitObj r o crc z f = w.okays r o := by
  rw [s.commitObj_ready r o crc z img f h, ← htt, hf]

/-- An object that can be scheduled takes a commit without a TT. -/
theorem scheduled_zero (f : List Byte → Nat → State → Status × State) (img : List Byte) (s : State) :
    scheduled f img 0 s = f img 0 s := rfl

/-- It takes one with a TT while TT is valid (R78). -/
theorem scheduled_valid (f : List Byte → Nat → State → Status × State) (img : List Byte) (tt : Nat) (s : State) (h : s.ttValid = true) :
    scheduled f img tt s = f img tt s := by
  simp only [scheduled, h, Bool.not_true, Bool.false_eq_true, and_false, if_false]

/-! ### The channel map (R101, R102) -/

/-- A map of 144 entries that name no reserved source is stored in a bank that is neither active nor about to be. -/
theorem ownMap_stores (b : Nat) (img : List Byte) (s : State) (hlen : img.length = 576)
    (hsrc : ((List.range 144).map fun i => fieldLE img (4 * i) 4).any (fun v => srcReserved (bits v 11 0) || srcReserved (bits v 27 16)) = false)
    (hactive : s.activeBank ≠ b) (hpending : s.pendingBank ≠ some b) :
    ownMap b img 0 s =
      (.okay, s.setImage (O.BANK_MAP b) (((List.range 144).map fun i => fieldLE img (4 * i) 4).flatMap fun v => leBytes 4 (v &&& 0x0FFF0FFF))) := by
  simp only [ownMap, unscheduled_zero, hlen, hsrc, ne_eq, not_true, Bool.false_eq_true, or_self, if_false, if_neg hactive, if_neg hpending]

/-- A bank switch whose instant has come makes its bank the active one and switches the channels whose entries differ. -/
theorem exec_bankSwitch_due (s u : State) (t : Nat) (b : Fin 4) (a : Sched) (old : Nat) (w : State) (hu : u = s.tickTo t)
    (h : u.sched .bank b.val = some a) (hdue : u.due .bank b.val a = true) (hold : old = u.activeBank)
    (hw : w = (((u.endAction .bank b.val 1).setReg (O.BANK_ACTIVE old) 0).setReg (O.BANK_ACTIVE b.val) 1).bump (O.BANK_SWITCH_COUNT b.val) 1) :
    exec (.bankSwitch t b) s =
      .next ((List.range 144).foldl (fun (s : State) ch =>
        if s.mapEntry old ch = s.mapEntry b.val ch then s
        else (s.setChan ch { s.chan ch with parkedAt := max (s.chan ch).parkedAt s.now }).switchOut ch) w) := by
  rw [exec_bankSwitch, execBankSwitch]
  simp only [← hu, h, hdue, ← hold, ← hw, Bool.not_true, Bool.false_eq_true, if_false]

/-! ### Timing sets (R111 to R113) -/

/-- Tables that pass the checks, none of their channels waiting for another, are given out at once where the commit carries no TT. -/
theorem State.tableCommit_now (s : State) (unit o : Nat) (img : List Byte) (ts : List (Nat × List Byte))
    (hok : (ts.find? fun x => !tableOk x.2 (s.ireg (O.CH_TRIM x.1)).natAbs) = none)
    (hfree : ts.any (fun x => s.isSet (O.CH_SCHEDULE_PENDING x.1)) = false) :
    s.tableCommit unit o 0 img ts = (.okay, ts.foldl (fun (s : State) x => s.giveTable x.1 (s.now + pipeUnits) x.2) s) := by
  simp only [State.tableCommit, hok, hfree, Bool.false_eq_true, if_false, if_true]

/-- With a TT that can be armed they wait as the image staged, and their channels show it. -/
theorem State.tableCommit_armed (s w : State) (unit o tt : Nat) (img : List Byte) (ts : List (Nat × List Byte)) (htt : tt ≠ 0)
    (harm : s.armAction .timingSets unit tt 0 = (.okay, w))
    (hok : (ts.find? fun x => !tableOk x.2 (s.ireg (O.CH_TRIM x.1)).natAbs) = none)
    (hfree : ts.any (fun x => s.isSet (O.CH_SCHEDULE_PENDING x.1)) = false) :
    s.tableCommit unit o tt img ts =
      (.okay, ts.foldl (fun (s : State) x => s.setReg (O.CH_SCHEDULE_PENDING x.1) 1) { w with staged := Tbl.set [] w.staged o img }) := by
  simp only [State.tableCommit, hok, hfree, harm, if_neg htt, Bool.false_eq_true, if_false, if_true]

/-- At its instant the staged image leaves, and its tables are given out (R112). -/
theorem State.tableEffect_due (s : State) (unit o : Nat) (tables : List Byte → List (Nat × List Byte)) (a : Sched)
    (h : s.sched .timingSets unit = some a) (hdue : s.due .timingSets unit a = true) :
    s.tableEffect unit o tables =
      (tables (Tbl.get [] s.staged o)).foldl
        (fun (v : State) x => (v.setReg (O.CH_SCHEDULE_PENDING x.1) 0).giveTable x.1 (v.schedInstant a) x.2)
        { s.endAction .timingSets unit 1 with staged := Tbl.set [] s.staged o [] } := by
  simp only [State.tableEffect, h, hdue, Bool.not_true, Bool.false_eq_true, if_false]

/-- The one table of a channel's image passes the check of a commit. -/
theorem find_oneTable (s : State) (ch : Nat) (img : List Byte) (hok : tableOk img (s.ireg (O.CH_TRIM ch)).natAbs = true) :
    ([(ch, img)].find? fun x => !tableOk x.2 (s.ireg (O.CH_TRIM x.1)).natAbs) = none := by
  simp only [List.find?_singleton, hok, Bool.not_true, Bool.false_eq_true, if_false]

/-- Its one channel waits for no other table. -/
theorem any_oneTable (s : State) (ch : Nat) (img : List Byte) (hfree : s.isSet (O.CH_SCHEDULE_PENDING ch) = false) :
    [(ch, img)].any (fun x => s.isSet (O.CH_SCHEDULE_PENDING x.1)) = false := by
  simp only [List.any_cons, List.any_nil, hfree, Bool.or_self]

/-- A table of 10240 bytes is the commit of that table to its channel. -/
theorem ownTimingSets_valid (ch tt : Nat) (img : List Byte) (s : State) (htt : tt = 0 ∨ s.ttValid = true) (hlen : img.length = 10240) :
    ownTimingSets ch img tt s = s.tableCommit ch (O.CH_TIMING_SETS ch) tt img [(ch, img)] := by
  rcases htt with rfl | hvalid
  · rw [ownTimingSets, scheduled_zero, if_neg (not_not_intro hlen)]
  · rw [ownTimingSets, scheduled_valid _ _ _ _ hvalid, if_neg (not_not_intro hlen)]

/-- An image of a quad's own form is the commit of the tables that its CH_MASK names. -/
theorem ownQuadSchedule_valid (n tt : Nat) (img : List Byte) (s : State) (htt : tt = 0 ∨ s.ttValid = true) (hlen : img.length = 40976)
    (hmagic : fieldLE img 0 4 = 0x44515345) (hquad : byteAt img 4 = n) :
    ownQuadSchedule n img tt s =
      s.tableCommit (quadUnit n (byteAt img 5 % 16)) (quadStage n (byteAt img 5 % 16)) tt img (quadTables n img) := by
  have hform : ¬(img.length ≠ 40976 ∨ fieldLE img 0 4 ≠ 0x44515345 ∨ byteAt img 4 ≠ n) := by
    simp only [hlen, hmagic, hquad, ne_eq, not_true, or_self, not_false_eq_true]
  rcases htt with rfl | hvalid
  · rw [ownQuadSchedule, scheduled_zero, if_neg hform]
  · rw [ownQuadSchedule, scheduled_valid _ _ _ _ hvalid, if_neg hform]

/-! ### PARK_CODE, MODE and TRIM (R117, R126, R127) -/

/-- PARK_CODE reaches the pads of a PARKED channel. -/
theorem ownParkCode_parked (ch v : Nat) (s : State) (h : (s.setReg (O.CH_PARK_CODE ch) v).parked ch = true) :
    ownParkCode ch v s = (.okay, (s.setReg (O.CH_PARK_CODE ch) v).parkLevels ch) := by
  rw [ownParkCode]
  exact congrArg _ (if_pos h)

/-- A channel that runs in P-mode keeps its levels. -/
theorem ownParkCode_running (ch v : Nat) (s : State) (h : (s.setReg (O.CH_PARK_CODE ch) v).parked ch = false)
    (hrun : (s.setReg (O.CH_PARK_CODE ch) v).reg (O.CH_STATE ch) ≠ 3) :
    ownParkCode ch v s = (.okay, s.setReg (O.CH_PARK_CODE ch) v) := by
  simp only [ownParkCode, h, Bool.false_eq_true, if_false, if_neg hrun]

/-- In S-mode with a loopback before the pads it reaches both pads. -/
theorem ownParkCode_looped (ch v : Nat) (s : State) (h : (s.setReg (O.CH_PARK_CODE ch) v).parked ch = false)
    (hser : (s.setReg (O.CH_PARK_CODE ch) v).reg (O.CH_STATE ch) = 3)
    (hloop : (s.setReg (O.CH_PARK_CODE ch) v).reg (O.SER_LOOPBACK ch) = 1 ∨ (s.setReg (O.CH_PARK_CODE ch) v).reg (O.SER_LOOPBACK ch) = 2) :
    ownParkCode ch v s = (.okay, (s.setReg (O.CH_PARK_CODE ch) v).parkLevels ch) := by
  simp only [ownParkCode, h, Bool.false_eq_true, if_false, if_pos hser, if_pos hloop]

/-- In S-mode otherwise it reaches DEN alone. -/
theorem ownParkCode_serial (ch v : Nat) (s : State) (h : (s.setReg (O.CH_PARK_CODE ch) v).parked ch = false)
    (hser : (s.setReg (O.CH_PARK_CODE ch) v).reg (O.CH_STATE ch) = 3)
    (hloop : ¬((s.setReg (O.CH_PARK_CODE ch) v).reg (O.SER_LOOPBACK ch) = 1 ∨ (s.setReg (O.CH_PARK_CODE ch) v).reg (O.SER_LOOPBACK ch) = 2)) :
    ownParkCode ch v s =
      (.okay, (s.setReg (O.CH_PARK_CODE ch) v).setChan ch { (s.setReg (O.CH_PARK_CODE ch) v).chan ch with denLevel := v.testBit 1 }) := by
  simp only [ownParkCode, h, Bool.false_eq_true, if_false, if_pos hser, if_neg hloop]

/-- A new MODE of a PARKED channel is stored, and the latch holds its pads for the change. -/
theorem ownChMode_changes (ch v : Nat) (s : State) (hparked : s.parked ch = true) (hnew : s.reg (O.CH_MODE ch) ≠ v) :
    ownChMode ch v s = (.okay, (s.setReg (O.CH_MODE ch) v).holdPad ch 5 true) := by
  simp only [ownChMode, hparked, Bool.not_true, Bool.false_eq_true, if_false, if_neg hnew]

/-- The end of a change of MODE that is under way lets the pads go. -/
theorem exec_modeChangeDone_held (s u : State) (t : Nat) (ch : Fin 144) (hu : u = s.tickTo t) (h : (u.chan ch.val).holds.testBit 5 = true) :
    exec (.modeChangeDone t ch) s = .next (u.holdPad ch.val 5 false) := by
  rw [exec_modeChangeDone, execModeChangeDone, ← hu]
  exact congrArg _ (if_pos h)

/-- A TRIM no longer than the shortest period in effect is stored. -/
theorem ownTrim_within (ch v : Nat) (s : State) (h : (signed 32 v).natAbs ≤ minPeriod (s.tsTable ch)) :
    ownTrim ch v s = (.okay, s.setReg (O.CH_TRIM ch) v) :=
  if_neg (Nat.not_lt_of_le h)

/-! ### Stops, pattern starts and vectors (R115, R121) -/

/-- A stopping channel with nothing queued parks at the first period boundary after its last edge. -/
theorem exec_channelStop_due (s u : State) (t : Nat) (ch : Fin 144) (n : Nat) (hu : u = s.tickTo t) (hstop : (u.chan ch.val).stopping = true)
    (hdrv : (u.chan ch.val).drvQ = []) (hden : (u.chan ch.val).denQ = []) (hstrobes : (u.chan ch.val).strobes = [])
    (hn : n = (if (u.chan ch.val).lastEdge < (u.chan ch.val).nextStart ∨ (u.chan ch.val).period = 0 then 0
      else ((u.chan ch.val).lastEdge - (u.chan ch.val).nextStart) / (u.chan ch.val).period + 1))
    (hdue : (u.chan ch.val).nextStart + n * (u.chan ch.val).period ≤ u.now) :
    exec (.channelStop t ch) s = .next (u.enterParked ch.val) := by
  rw [exec_channelStop, execChannelStop]
  simp only [← hu, hstop, hdrv, hden, hstrobes, ← hn, Nat.not_lt_of_le hdue, Bool.not_true, Bool.false_eq_true, ne_eq, not_true, or_self,
    if_false]

/-- A PARKED channel in P-mode with a source whose pattern has started begins START_OFFSET after the start. -/
theorem exec_patternStart_starts (s u : State) (t : Nat) (ch : Fin 144) (a : Nat) (v : State) (hu : u = s.tickTo t)
    (hv : v = u.switchOut ch.val) (hstate : v.reg (O.CH_STATE ch.val) = 0) (hmode : v.reg (O.CH_MODE ch.val) = 0)
    (hsrc : (v.chan ch.val).drvOut ≠ srcNone ∨ (v.chan ch.val).expOut ≠ srcNone) (h : v.patternStart ch.val = some a) :
    exec (.patternStart t ch) s =
      .next ((v.setChan ch.val { v.chan ch.val with
        nextStart := a + (if v.reg (O.CH_FIFO_MODE ch.val) = 1 then 332 else 32) * Config.nsUnits, period := 0, first := true, lastTs := 0,
        half := false, stopping := false, lastEdge := 0 }).setReg (O.CH_STATE ch.val) 1) := by
  have hmay : ¬(v.reg (O.CH_STATE ch.val) ≠ 0 ∨ v.reg (O.CH_MODE ch.val) ≠ 0 ∨
      ((v.chan ch.val).drvOut = srcNone ∧ (v.chan ch.val).expOut = srcNone)) := by
    rw [not_or, not_or, not_not, not_not, not_and_or]
    exact ⟨hstate, hmode, hsrc⟩
  rw [exec_patternStart, execPatternStart]
  simp only [← hu, ← hv, if_neg hmay, h]

/-- A running channel comes to its next period boundary. -/
theorem exec_vectorBegin_due (s u : State) (t : Nat) (ch : Fin 144) (hu : u = s.tickTo t)
    (hrun : u.reg (O.CH_STATE ch.val) = 1 ∨ u.reg (O.CH_STATE ch.val) = 2) (hstop : (u.chan ch.val).stopping = false)
    (hdue : (u.chan ch.val).nextStart ≤ u.now) :
    exec (.vectorBegin t ch) s = .next (u.boundary ch.val (u.chan ch.val).nextStart) := by
  have hrun' : ¬(u.reg (O.CH_STATE ch.val) ≠ 1 ∧ u.reg (O.CH_STATE ch.val) ≠ 2) := by omega
  rw [exec_vectorBegin, execVectorBegin]
  simp only [← hu, hrun', hstop, Nat.not_lt_of_le hdue, Bool.false_eq_true, or_self, if_false]

/-! ### Edges (R106) -/

/-- An edge of DEN that is due is placed; one moved for crowding is a fault. -/
theorem exec_driveEdge_den (s u : State) (t : Nat) (ch : Fin 144) (q : List Edge) (last : Nat) (level crowded : Bool) (hu : u = s.tickTo t)
    (h : placeEdge (u.chan ch.val).denQ (u.chan ch.val).denLast (u.chan ch.val).denLevel u.now = some (q, last, level, crowded)) :
    exec (.driveEdge t ch true) s =
      .next (if crowded = true then (u.setChan ch.val { u.chan ch.val with
          lastEdge := max (u.chan ch.val).lastEdge last, denQ := q, denLast := last, denLevel := level }).edgeFault ch.val 0
        else u.setChan ch.val { u.chan ch.val with
          lastEdge := max (u.chan ch.val).lastEdge last, denQ := q, denLast := last, denLevel := level }) := by
  rw [exec_driveEdge, execDriveEdge]
  simp only [← hu, if_true, h]

/-- So is an edge of DRV. -/
theorem exec_driveEdge_drv (s u : State) (t : Nat) (ch : Fin 144) (q : List Edge) (last : Nat) (level crowded : Bool) (hu : u = s.tickTo t)
    (h : placeEdge (u.chan ch.val).drvQ (u.chan ch.val).drvLast (u.chan ch.val).drvLevel u.now = some (q, last, level, crowded)) :
    exec (.driveEdge t ch false) s =
      .next (if crowded = true then (u.setChan ch.val { u.chan ch.val with
          lastEdge := max (u.chan ch.val).lastEdge last, drvQ := q, drvLast := last, drvLevel := level }).edgeFault ch.val 0
        else u.setChan ch.val { u.chan ch.val with
          lastEdge := max (u.chan ch.val).lastEdge last, drvQ := q, drvLast := last, drvLevel := level }) := by
  rw [exec_driveEdge, execDriveEdge]
  simp only [← hu, Bool.false_eq_true, if_false, h]

/-- Settles O46: each clause is what the owner of its object does, or the law of what falls due. -/
theorem channelCommandsComplete : Obligations.ChannelCommandsComplete := by
  refine ⟨?_, ?_, ?_, ?_, ?_, ?_, ?_, ?_, ?_, ?_, ?_, ?_, ?_, ?_, ?_, ?_, ?_, ?_, ?_, ?_, ?_, ?_, ?_⟩
  · rintro s _ t r crc img b _ z rfl h hlen hsrc hactive hpending rfl htt
    rw [exec_mapCommit, execMapCommit]
    exact congrArg _ (State.commitObj_okays_at _ _ r _ crc z 0 img _ h htt (ownMap_stores _ _ _ hlen hsrc hactive hpending))
  · exact exec_bankSwitch_due
  · rintro s _ t ch rfl
    rw [exec_fifoOutputSwitch, execFifoOutputSwitch]
  · rintro s _ t r crc img ch rfl h hlen hok hfree
    rw [exec_timingSetsCommit, execTimingSetsCommit]
    exact congrArg _ (State.commitObj_okays _ _ r _ crc img _ h ((ownTimingSets_valid _ 0 _ _ (.inl rfl) hlen).trans
      (State.tableCommit_now _ _ _ _ _ (find_oneTable _ _ _ hok) (any_oneTable _ _ _ hfree))))
  · rintro s _ t r crc img ch tt w z rfl h htt hlen hok hfree harm hvalid hz
    rw [exec_timingSetsCommit, execTimingSetsCommit]
    exact congrArg _ (State.commitObj_okays_at _ _ r _ crc z tt img _ h hz
      ((ownTimingSets_valid _ tt _ ((s.tickTo t).setXfer _ none) (.inr hvalid) hlen).trans
        (State.tableCommit_armed _ w _ _ tt _ _ htt harm (find_oneTable _ _ _ hok) (any_oneTable _ _ _ hfree))))
  · rintro s _ t ch a _ rfl h hdue rfl
    rw [exec_timingSetsCommit, execTimingSetsCommit]
    exact congrArg _ (State.tableEffect_due _ _ _ _ a h hdue)
  · rintro s _ t r crc img n _ rfl h hlen hmagic hquad rfl hok hfree
    rw [exec_quadScheduleCommit, execQuadScheduleCommit]
    exact congrArg _ (State.commitObj_okays _ _ r _ crc img _ h ((ownQuadSchedule_valid _ 0 _ _ (.inl rfl) hlen hmagic hquad).trans
      (State.tableCommit_now _ _ _ _ _ hok hfree)))
  · rintro s _ t r crc img n _ tt _ w z rfl h htt hlen hmagic hquad rfl hok hfree rfl harm hvalid hz
    rw [exec_quadScheduleCommit, execQuadScheduleCommit]
    exact congrArg _ (State.commitObj_okays_at _ _ r _ crc z tt img _ h hz
      ((ownQuadSchedule_valid _ tt _ ((s.tickTo t).setXfer _ none) (.inr hvalid) hlen hmagic hquad).trans
        (State.tableCommit_armed _ w _ _ tt _ _ htt harm hok hfree)))
  · rintro s _ t n rfl
    rw [exec_quadScheduleCommit, execQuadScheduleCommit]
  · rintro s _ t r ch v rfl hw h
    rw [exec_parkCodeWrite, execParkCodeWrite]
    exact congrArg _ (State.writeObj_okays _ _ _ _ _ _ hw (ownParkCode_parked _ v _ h))
  · rintro s _ t r ch v rfl hw h hrun
    rw [exec_parkCodeWrite, execParkCodeWrite]
    exact congrArg _ (State.writeObj_okays _ _ _ _ _ _ hw (ownParkCode_running _ v _ h hrun))
  · rintro s _ t r ch v rfl hw h hser hloop
    rw [exec_parkCodeWrite, execParkCodeWrite]
    exact congrArg _ (State.writeObj_okays _ _ _ _ _ _ hw (ownParkCode_looped _ v _ h hser hloop))
  · rintro s _ t r ch v rfl hw h hser hloop
    rw [exec_parkCodeWrite, execParkCodeWrite]
    exact congrArg _ (State.writeObj_okays _ _ _ _ _ _ hw (ownParkCode_serial _ v _ h hser hloop))
  · rintro s _ t r ch v rfl hw hparked hnew
    rw [exec_modeChange, execModeChange]
    exact congrArg _ (State.writeObj_okays _ _ _ _ _ _ hw (ownChMode_changes _ v _ hparked hnew))
  · exact exec_modeChangeDone_held
  · rintro s _ t r ch v rfl hw h
    rw [exec_trimWrite, execTrimWrite]
    exact congrArg _ (State.writeObj_okays _ _ _ _ _ _ hw (ownTrim_within _ v _ h))
  · rintro s _ t r ch pair v rfl hw hparked
    rw [exec_deskewWrite, execDeskewWrite]
    exact congrArg _ (State.writeObj_okays _ _ _ _ _ _ hw (storeIf_safe _ _ v _ hparked))
  · rintro s _ t n steps rfl
    rw [exec_bgcalMeasurement, execBgcalMeasurement]
  · exact exec_channelStop_due
  · exact exec_patternStart_starts
  · exact exec_vectorBegin_due
  · exact exec_driveEdge_den
  · exact exec_driveEdge_drv

end Sys2Proof.Machine
end

section
/-! Strobes (R108, R109): the state in which one that has ended is judged, and what its judgement leaves. -/

namespace Sys2Proof.Machine

/-- The state in which a strobe that has ended is judged: what it sampled is kept, its pulse is sent, and each edge of it that was moved is
a fault (R116). -/
def State.strobeEnded (s : State) (ch : Nat) (look : Look) (x : Strobe) (c : Chan) : State :=
  (List.range x.moved).foldl (fun (s : State) _ => s.edgeFault ch 0) ((s.setChan ch (c.sampled look)).chanPulse ch 2)

/-- A strobe of a channel whose pads are latched is not judged. -/
theorem exec_strobe_latched (s u : State) (t : Nat) (ch : Fin 144) (look : Look) (x : Strobe) (ball : Nat) (c : Chan) (hu : u = s.tickTo t)
    (h : (u.chan ch.val).nextStrobe u.now = some (x, ball, c)) (hlatched : (u.strobeEnded ch.val look x c).isSet (O.CH_PAD_LATCHED ch.val) = true) :
    exec (.strobe t ch look) s = .next ((u.strobeEnded ch.val look x c).presentDone ch.val) := by
  rw [State.strobeEnded] at hlatched ⊢
  rw [exec_strobe, execStrobe]
  simp only [← hu, h, if_pos hlatched]

/-- Any other is judged by its code: a code that compares nothing counts a conflict alone, another sends a fail or a match bit. -/
theorem exec_strobe_judged (s u : State) (t : Nat) (ch : Fin 144) (look : Look) (x : Strobe) (ball : Nat) (c : Chan) (fail conflict : Bool)
    (y z : State) (hu : u = s.tickTo t) (h : (u.chan ch.val).nextStrobe u.now = some (x, ball, c))
    (hfree : (u.strobeEnded ch.val look x c).isSet (O.CH_PAD_LATCHED ch.val) = false)
    (hjudge : (u.strobeEnded ch.val look x c).judge x.code look = (fail, conflict, y))
    (hz : z = (if conflict = true then y.bump (O.CH_CONFLICT ch.val) 1 else y)) :
    exec (.strobe t ch look) s =
      .next ((if x.code = 0 then z
        else if fail = true then (z.chanPulse ch.val 3).failBit ch.val ball x conflict
        else (z.chanPulse ch.val 4).matchBit ch.val ball x).presentDone ch.val) := by
  rw [State.strobeEnded] at hfree hjudge
  rw [exec_strobe, execStrobe]
  simp only [← hu, h, hfree, Bool.false_eq_true, if_false, hjudge, ← hz]

/-- Settles O47: a strobe whose channel is latched is not judged, and any other is judged by its code. -/
theorem strobeCommandsComplete : Obligations.StrobeCommandsComplete := by
  refine ⟨?_, ?_, ?_, ?_⟩
  · rintro s u t ch look x ball c _ _ hu h rfl rfl hlatched
    exact exec_strobe_latched s u t ch look x ball c hu h hlatched
  · rintro s u t ch look x ball c _ _ fail conflict y z hu h rfl rfl hfree hjudge hz hcode
    rw [exec_strobe_judged s u t ch look x ball c fail conflict y z hu h hfree hjudge hz, if_pos hcode]
  · rintro s u t ch look x ball c _ _ fail conflict y z hu h rfl rfl hfree hjudge hz hcode hfail
    rw [exec_strobe_judged s u t ch look x ball c fail conflict y z hu h hfree hjudge hz, if_neg hcode, if_pos hfail]
  · rintro s u t ch look x ball c _ _ fail conflict y z hu h rfl rfl hfree hjudge hz hcode hfail
    rw [exec_strobe_judged s u t ch look x ball c fail conflict y z hu h hfree hjudge hz, if_neg hcode, if_neg (by rw [hfail]; decide)]

end Sys2Proof.Machine
end

section
/-! The ALU of a pattern engine and its scramble unit. -/

namespace Sys2Proof.Machine

/-! ### The ALU (R141) -/

section
variable (a b : BitVec 32) (cf : Bool)

/-- ADD: the sum modulo 2^32, with the carry. -/
theorem alu_add : alu 1 a.toNat b.toNat cf = ((a + b).toNat, decide (2 ^ 32 ≤ a.toNat + b.toNat)) := by
  rw [BitVec.toNat_add]
  rfl

/-- SUB: the difference modulo 2^32, with the borrow. -/
theorem alu_sub : alu 2 a.toNat b.toNat cf = ((a - b).toNat, a.ult b) := by
  have hdiff : a.toNat + 2 ^ 32 - b.toNat = 2 ^ 32 - b.toNat + a.toNat := by
    have := b.isLt
    omega
  rw [alu, hdiff, BitVec.toNat_sub, BitVec.ult]

theorem alu_and : alu 3 a.toNat b.toNat cf = ((a &&& b).toNat, false) := by
  rw [alu, BitVec.toNat_and]

theorem alu_or : alu 4 a.toNat b.toNat cf = ((a ||| b).toNat, false) := by
  rw [alu, BitVec.toNat_or]

theorem alu_xor : alu 5 a.toNat b.toNat cf = ((a ^^^ b).toNat, false) := by
  rw [alu, BitVec.toNat_xor]

/-- The bit that a shift to the left by n moves out of the word last: none for a shift by 0. -/
theorem shl_carry (n : Nat) (hn : n < 32) :
    (a.setWidth 33 <<< n).getLsbD 32 = (decide (0 < n) && a.toNat.testBit (32 - n)) := by
  have hbit : (a.setWidth 33 <<< n).getLsbD 32 = a.getLsbD (32 - n) := by
    simp only [BitVec.getLsbD_shiftLeft, BitVec.getLsbD_setWidth, show 32 < 33 by decide, show ¬ 32 < n by omega, show 32 - n < 33 by omega,
      decide_true, decide_false, Bool.not_false, Bool.true_and]
  rw [hbit, BitVec.testBit_toNat]
  by_cases h0 : 0 < n
  · rw [decide_eq_true h0, Bool.true_and]
  · rw [decide_eq_false h0, Bool.false_and, BitVec.getLsbD_of_ge a (32 - n) (by omega)]

/-- SHL: the word shifted by b mod 32, with the last bit that left at the top. -/
theorem alu_shl : alu 6 a.toNat b.toNat cf = ((a <<< (b.toNat % 32)).toNat, (a.setWidth 33 <<< (b.toNat % 32)).getLsbD 32) := by
  rw [alu, BitVec.toNat_shiftLeft, Nat.shiftLeft_eq, shl_carry a _ (Nat.mod_lt _ (by decide))]

/-- SHR: the word shifted by b mod 32, with the last bit that left at the bottom. -/
theorem alu_shr : alu 7 a.toNat b.toNat cf =
    ((a >>> (b.toNat % 32)).toNat, decide (0 < b.toNat % 32) && a.getLsbD (b.toNat % 32 - 1)) := by
  rw [alu, BitVec.toNat_ushiftRight, Nat.shiftRight_eq_div_pow, BitVec.testBit_toNat]

end

/-- Settles O19: each operation has its law, CMP is a SUB and TST an AND whose result is not kept. -/
theorem aluResultsAndCarry : Obligations.AluResultsAndCarry := fun a b cf =>
  ⟨rfl, alu_add a b cf, alu_sub a b cf, alu_and a b cf, alu_or a b cf, alu_xor a b cf, alu_shl a b cf, alu_shr a b cf, alu_sub a b cf,
    alu_and a b cf⟩

/-! ### The scramble unit (R146) -/

/-- Settles O20: the unit builds its address bit by bit, each bit from its own mask and its own bit of INV. -/
theorem scrambleUnitMapsBits : Obligations.ScrambleUnitMapsBits := by
  intro t a j
  rw [scramble]
  exact foldl_pick (fun j => parity 48 (a &&& fieldLE t (8 + 8 * j) 8) != (fieldLE t 392 8).testBit j) 48 j

end Sys2Proof.Machine
end

section
/-! Instructions of a pattern engine: what an engine that nothing stalls does in its word clock, and the word clocks in which it stalls, is
halted or retires a claim. -/

namespace Sys2Proof.Machine

/-! ### Waits and claims in progress (R155, R205) -/

/-- A wait that is not over goes on. -/
theorem State.goOn_waits (g : State) (e wc due : Nat) (hclaim : (g.engine e).claim = none) (hwait : (g.engine e).wait = some due)
    (hdue : wc < due) : g.goOn e wc = g.waitClock e wc due (g.engine e).waitTt := by
  simp only [State.goOn, hclaim, hwait, if_pos hdue]

/-- At its end the instruction issues; a WAITTT remembers whether it is late. -/
theorem State.goOn_waited (g : State) (e wc due : Nat) (hclaim : (g.engine e).claim = none) (hwait : (g.engine e).wait = some due)
    (hdue : due ≤ wc) : g.goOn e wc = g.issue e wc ((g.engine e).waitTt && (g.engine e).waitLate) none := by
  simp only [State.goOn, hclaim, hwait, if_neg (Nat.not_lt_of_le hdue)]

/-- An HCLAIM whose claim is decided issues with its outcome. -/
theorem State.goOn_claimed (g : State) (e wc : Nat) (c : Claim) (granted : Bool) (w : Nat) (hclaim : (g.engine e).claim = some c)
    (hdecided : c.decided = some (granted, w)) : g.goOn e wc = g.issue e wc false (some granted) := by
  simp only [State.goOn, hclaim, State.retireClaim, hdecided]

/-! ### Fresh instructions (R139, R161) -/

/-- What a legal instruction does, by its sequence opcode: WAITTT and WAITC may begin a wait, SCRLD makes an access, HCLAIM claims, and
every other one issues. -/
def State.perform (d : State) (e w wc : Nat) : State :=
  match iOp w with
  | 0x07 => if 0 < d.beginsWait e w wc then d.waitClock e wc (wc + d.beginsWait e w wc) true else d.issue e wc true none
  | 0x08 => if 0 < d.beginsWait e w wc then d.waitClock e wc (wc + d.beginsWait e w wc) false else d.issue e wc false none
  | 0x0B => d.scrAccess e wc
  | 0x0C => d.issueClaim e wc
  | _ => d.issue e wc false none

section
variable (d : State) (e w wc : Nat)

theorem State.perform_waittt (h : iOp w = 0x07) : d.perform e w wc =
    if 0 < d.beginsWait e w wc then d.waitClock e wc (wc + d.beginsWait e w wc) true else d.issue e wc true none := by
  simp only [State.perform, h]

theorem State.perform_waitc (h : iOp w = 0x08) : d.perform e w wc =
    if 0 < d.beginsWait e w wc then d.waitClock e wc (wc + d.beginsWait e w wc) false else d.issue e wc false none := by
  simp only [State.perform, h]

theorem State.perform_scrld (h : iOp w = 0x0B) : d.perform e w wc = d.scrAccess e wc := by
  simp only [State.perform, h]

theorem State.perform_hclaim (h : iOp w = 0x0C) : d.perform e w wc = d.issueClaim e wc := by
  simp only [State.perform, h]

theorem State.perform_other (h7 : iOp w ≠ 0x07) (h8 : iOp w ≠ 0x08) (hB : iOp w ≠ 0x0B) (hC : iOp w ≠ 0x0C) :
    d.perform e w wc = d.issue e wc false none := by
  unfold State.perform
  split
  iterate 4 contradiction
  rfl

end

section
variable (g : State) (e wc : Nat) (hclaim : (g.engine e).claim = none) (hwait : (g.engine e).wait = none)
include hclaim hwait

/-- A word that cannot be corrected stops the engine. -/
theorem State.goOn_unreadable (b : Nat) (hread : g.readsBad e = some b) :
    g.goOn e wc = (g.sramBad b).stopEngine e wc (g.eventAt e wc) := by
  simp only [State.goOn, hclaim, hwait, hread]

/-- A fresh instruction that is illegal does not issue. -/
theorem State.goOn_illegal (c : Nat) (hread : g.readsBad e = none) (hfresh : (g.engine e).fresh = true)
    (hcause : (g.engReads e).illegalCause e wc = some c) :
    g.goOn e wc = (g.engReads e).illegal e wc c ((g.engReads e).eventAt e wc) := by
  simp only [State.goOn, hclaim, hwait, hread, hfresh, if_true, hcause]

/-- A legal one is performed on the state in which its words have been read. -/
theorem State.goOn_legal (hread : g.readsBad e = none)
    (hlegal : (g.engReads e).illegalCause e wc = none ∨ (g.engine e).fresh = false) :
    g.goOn e wc = (g.engReads e).perform e (g.insn e) wc := by
  have hnone : (if (g.engine e).fresh = true then (g.engReads e).illegalCause e wc else none) = none := by
    rcases hlegal with h | h <;> simp only [h, Bool.false_eq_true, if_false, ite_self]
  simp only [State.goOn, hclaim, hwait, hread, hnone]
  rfl

end

/-! ### SCRLD (R146) -/

/-- An access of SCRLD that is not its last keeps what it read. -/
theorem State.scrAccess_more (d : State) (e wc : Nat) (b : List Byte) (hmore : (d.engine e).scrDone < 31)
    (hb : b = (d.engine e).scrBytes ++ d.feedRead (e / 32) (d.eG e (iD (d.insn e)) + 16 * (d.engine e).scrDone) 16) :
    d.scrAccess e wc =
      d.setEngine e { d.engine e with scrDone := (d.engine e).scrDone + 1, scrBytes := b, free := wc + 1 } := by
  simp only [State.scrAccess, if_pos hmore, ← hb]

/-- The last one issues the instruction if the table has its MAGIC. -/
theorem State.scrAccess_last (d : State) (e wc : Nat) (b : List Byte) (hlast : (d.engine e).scrDone = 31)
    (hb : b = (d.engine e).scrBytes ++ d.feedRead (e / 32) (d.eG e (iD (d.insn e)) + 16 * (d.engine e).scrDone) 16)
    (hmagic : fieldLE b 0 4 = 0x53435242) :
    d.scrAccess e wc = (d.setEngine e { d.engine e with scrBytes := b }).issue e wc false none := by
  have hdone : ¬ (d.engine e).scrDone < 31 := by omega
  simp only [State.scrAccess, if_neg hdone, ← hb, hmagic, ne_eq, not_true, if_false]

/-- And is illegal if it has not. -/
theorem State.scrAccess_foreign (d : State) (e wc : Nat) (b : List Byte) (hlast : (d.engine e).scrDone = 31)
    (hb : b = (d.engine e).scrBytes ++ d.feedRead (e / 32) (d.eG e (iD (d.insn e)) + 16 * (d.engine e).scrDone) 16)
    (hmagic : fieldLE b 0 4 ≠ 0x53435242) : d.scrAccess e wc = d.illegal e wc 17 (d.eventAt e wc) := by
  have hdone : ¬ (d.engine e).scrDone < 31 := by omega
  simp only [State.scrAccess, if_neg hdone, ← hb, if_pos hmagic]

/-! ### Turns of an engine in no gang (R139, R161) -/

/-- An engine that has a turn holds no claim. -/
theorem State.turnOf_unclaimed (u f g : State) (e : Nat) (h : u.turnOf e f g) : (g.engine e).claim = none := by
  obtain ⟨-, -, -, -, -, -, -, -, hclaim⟩ := h
  exact hclaim

/-- A legal instruction that nothing stalls or halts is performed. -/
theorem turn_performs (s u f g : State) (t : Nat) (e : Fin 512) (i : Instr) (hu : u = s.tickTo t) (hc : f.comes t e i)
    (h : u.turnOf e.val f g) (hs : (g.stalls e.val u.wc).any = false) (hn : g.noHalt e.val u.wc) (hwait : (g.engine e.val).wait = none)
    (hread : g.readsBad e.val = none)
    (hlegal : (g.engReads e.val).illegalCause e.val u.wc = none ∨ (g.engine e.val).fresh = false) :
    exec i s = .next ((g.engReads e.val).perform e.val (g.insn e.val) u.wc) := by
  rw [turn_goes s u f g t e i hu hc h hs hn, g.goOn_legal _ _ (u.turnOf_unclaimed f g _ h) hwait hread hlegal]

/-! ### Turns in which the instruction does not go on, and the retirement of a claim (R162, R205, R435) -/

/-- An engine that has a stall counts it. -/
theorem turn_stalls (s u f g : State) (t : Nat) (e : Fin 512) (i : Instr) (hu : u = s.tickTo t) (hc : f.comes t e i) (h : u.turnOf e.val f g)
    (hs : (g.stalls e.val u.wc).any = true) : exec i s = .next (g.stallEngine e.val u.wc (g.stalls e.val u.wc)) := by
  obtain ⟨kind, hk, hx⟩ := exec_comes s u f t e i hu hc
  rw [hx, turn_alone u f g e.val kind h hk, if_pos hs]

/-- A comparator that matches a fresh legal instruction halts the engine, and every halting match is counted. -/
theorem turn_halts (s u f g : State) (t : Nat) (e : Fin 512) (i : Instr) (k : Nat) (hu : u = s.tickTo t) (hc : f.comes t e i)
    (h : u.turnOf e.val f g) (hs : (g.stalls e.val u.wc).any = false) (hfresh : (g.engine e.val).fresh = true)
    (hlegal : g.illegalCause e.val u.wc = none) (hcomp : g.haltingComp e.val = some k) :
    exec i s = .next (([0, 1].foldl (fun (s : State) k =>
      if s.compMatches e.val k && s.compAction e.val k == 0 then s.countMatch e.val k else s) g).haltGang e.val u.wc [(e.val, 2 + k)]) := by
  obtain ⟨kind, hk, hx⟩ := exec_comes s u f t e i hu hc
  rw [hx, turn_alone u f g e.val kind h hk, hs, hfresh, hlegal, hcomp]
  rfl

/-- An engine in no gang is its own gang. -/
theorem State.gangOf_alone (s : State) (e : Nat) (h : s.reg (O.ENG_GANG e) = 0) : s.gangOf e = [e] := by
  rw [State.gangOf]
  exact if_pos h

/-- The word clock of an engine in no gang whose instruction has begun: without a stall it goes on after the Feed store's arbitration. -/
theorem State.gangTurn_begun (x g : State) (e wc : Nat) (halone : x.reg (O.ENG_GANG e) = 0) (hg : g = x.feedTurn (e / 32) wc)
    (hstill : g.reg (O.ENG_GANG e) = 0) (hfree : (g.engine e).free ≤ wc) (hbegun : (g.engine e).fresh = false)
    (hs : (g.stalls e wc).any = false) : x.gangTurn e wc = (true, g) := by
  simp only [State.gangTurn, halone, ne_eq, not_true, false_and, if_false, ← hg, g.gangOf_alone e hstill, List.filter_cons, List.filter_nil,
    hfree, decide_true, if_true, List.map_cons, List.map_nil, List.any_cons, List.any_nil, hs, Bool.or_false, Bool.false_eq_true,
    List.filterMap_cons, List.filterMap_nil, hbegun, Bool.false_and]

/-- An HCLAIM whose claim is decided retires in its turn, once the word clocks that it stalled for it have been counted. -/
theorem exec_hclaim_decided (s u f x g : State) (t : Nat) (e : Fin 512) (c : Claim) (granted : Bool) (w : Nat) (hu : u = s.tickTo t)
    (hf : f = u.haltPump.dspPump e.val u.wc) (hready : f.engineReady e.val u.wc = true)
    (hds : (f.engine e.val).dsStall = 0 ∨ u.wc < (f.engine e.val).dsStall) (hop : hasOp e.val 0x0C f = true)
    (halone : f.reg (O.ENG_GANG e.val) = 0) (hx : x = f.countClaimStall e.val f.wc) (hxalone : x.reg (O.ENG_GANG e.val) = 0)
    (hg : g = x.feedTurn (e.val / 32) u.wc) (hgalone : g.reg (O.ENG_GANG e.val) = 0) (hfree : (g.engine e.val).free ≤ u.wc)
    (hclaim : (g.engine e.val).claim = some c) (hdecided : c.decided = some (granted, w)) (hs : (g.stalls e.val u.wc).any = false) :
    exec (.hclaim t e) s = .next (g.issue e.val u.wc false (some granted)) := by
  have hmissed : ¬ ((f.engine e.val).dsStall ≠ 0 ∧ (f.engine e.val).dsStall ≤ u.wc) := by omega
  have hbegun : (g.engine e.val).fresh = false := by
    simp only [Engine.fresh, hclaim, Option.isNone_some, Bool.and_false, Bool.false_and]
  rw [exec_hclaim, execHclaim, ← hu, ← g.goOn_claimed e.val u.wc c granted w hclaim hdecided]
  simp only [State.engineTurn, ← hf, if_neg hmissed, hready, hop, Bool.not_true, Bool.false_eq_true, or_self, if_false,
    f.gangOf_alone e.val halone, List.foldl_cons, List.foldl_nil, ← hx, x.gangTurn_begun g e.val u.wc hxalone hg hgalone hfree hbegun hs]

/-- Settles O59: an engine that goes on does what its wait or its opcode says, and the other turns have a law each. -/
theorem engineInstructionsComplete : Obligations.EngineInstructionsComplete := by
  refine ⟨?_, ?_, ?_, ?_, ?_, ?_, ?_, ?_, ?_, ?_, ?_, ?_, ?_, ?_, turn_stalls, ?_, exec_hclaim_decided⟩
  · rintro s u f g t e i _ hu hc ht hs hn hwait hread rfl hlegal h7 h8 hB hC
    rw [turn_performs s u f g t e i hu hc ht hs hn hwait hread hlegal, State.perform_other _ _ _ _ h7 h8 hB hC]
  · rintro s u f g t e i _ c hu hc ht hs hn hwait hread rfl hfresh hcause
    rw [turn_goes s u f g t e i hu hc ht hs hn, g.goOn_illegal _ _ (u.turnOf_unclaimed f g _ ht) hwait c hread hfresh hcause]
  · rintro s u f g t e i b hu hc ht hs hn hwait hread
    rw [turn_goes s u f g t e i hu hc ht hs hn, g.goOn_unreadable _ _ (u.turnOf_unclaimed f g _ ht) hwait b hread]
  · rintro s u f g t e i _ _ hu hc ht hs hn hwait hread rfl hlegal hop rfl hwaits
    rw [turn_performs s u f g t e i hu hc ht hs hn hwait hread hlegal, State.perform_waittt _ _ _ _ hop, if_pos hwaits]
  · rintro s u f g t e i _ hu hc ht hs hn hwait hread rfl hlegal hop hzero
    rw [turn_performs s u f g t e i hu hc ht hs hn hwait hread hlegal, State.perform_waittt _ _ _ _ hop, if_neg (Nat.not_lt_of_le hzero.le)]
  · rintro s u f g t e i _ _ hu hc ht hs hn hwait hread rfl hlegal hop rfl hwaits
    rw [turn_performs s u f g t e i hu hc ht hs hn hwait hread hlegal, State.perform_waitc _ _ _ _ hop, if_pos hwaits]
  · rintro s u f g t e i _ hu hc ht hs hn hwait hread rfl hlegal hop hzero
    rw [turn_performs s u f g t e i hu hc ht hs hn hwait hread hlegal, State.perform_waitc _ _ _ _ hop, if_neg (Nat.not_lt_of_le hzero.le)]
  · rintro s u f g t e i due hu hc ht hs hn hwait hdue
    rw [turn_goes s u f g t e i hu hc ht hs hn, g.goOn_waits _ _ due (u.turnOf_unclaimed f g _ ht) hwait hdue]
  · rintro s u f g t e i due hu hc ht hs hn hwait hdue htt
    rw [turn_goes s u f g t e i hu hc ht hs hn, g.goOn_waited _ _ due (u.turnOf_unclaimed f g _ ht) hwait hdue, htt, Bool.true_and]
  · rintro s u f g t e i due hu hc ht hs hn hwait hdue htt
    rw [turn_goes s u f g t e i hu hc ht hs hn, g.goOn_waited _ _ due (u.turnOf_unclaimed f g _ ht) hwait hdue, htt, Bool.false_and]
  · rintro s u f g t e i _ b hu hc ht hs hn hwait hread rfl hlegal hop hmore hb
    rw [turn_performs s u f g t e i hu hc ht hs hn hwait hread hlegal, State.perform_scrld _ _ _ _ hop, State.scrAccess_more _ _ _ b hmore hb]
  · rintro s u f g t e i _ b hu hc ht hs hn hwait hread rfl hlegal hop hlast hb hmagic
    rw [turn_performs s u f g t e i hu hc ht hs hn hwait hread hlegal, State.perform_scrld _ _ _ _ hop,
      State.scrAccess_last _ _ _ b hlast hb hmagic]
  · rintro s u f g t e i _ b hu hc ht hs hn hwait hread rfl hlegal hop hlast hb hmagic
    rw [turn_performs s u f g t e i hu hc ht hs hn hwait hread hlegal, State.perform_scrld _ _ _ _ hop,
      State.scrAccess_foreign _ _ _ b hlast hb hmagic]
  · rintro s u f g t e i _ hu hc ht hs hn hwait hread rfl hlegal hop
    rw [turn_performs s u f g t e i hu hc ht hs hn hwait hread hlegal, State.perform_hclaim _ _ _ _ hop]
  · rintro s u f g t e i k _ hu hc ht hs hfresh hlegal hcomp rfl
    exact turn_halts s u f g t e i k hu hc ht hs hfresh hlegal hcomp

end Sys2Proof.Machine
end

section
/-! The commands around the instructions of pattern engines: refresh timers, starts and stops, program loads, the claim ports, Feed schedules,
step results and DSP state. -/

namespace Sys2Proof.Machine

/-! ### Refresh (R158) -/

/-- A refresh timer that is due adds a refresh to those that wait; one above the limit is late. -/
theorem exec_refreshTimer_due (s u : State) (t : Nat) (e : Fin 512) (n m : Nat) (w : State) (hu : u = s.tickTo t)
    (hdue : u.refreshDue e.val = true) (hn : n = u.reg (O.ENG_REF_PENDING e.val)) (hm : m = u.reg (O.ENG_REF_MAXDEFER e.val))
    (hw : w = (u.setEngine e.val { u.engine e.val with refBase := (u.engine e.val).refBase + u.reg (O.ENG_RFI e.val) }).setReg
      (O.ENG_REF_PENDING e.val) (min 15 (n + 1))) :
    exec (.refreshTimer t e) s =
      .next (if n ≤ m ∧ m < min 15 (n + 1) then
          (w.setFlag (O.ENG_REF_LATE e.val) 0 (O.ENG_REF_LATE_COUNT e.val) 1).eventRecord e.val 3 (w.eventAt e.val w.wc)
        else w) := by
  rw [exec_refreshTimer, execRefreshTimer]
  simp only [← hu, hdue, Bool.not_true, Bool.false_eq_true, if_false, ← hn, ← hm, ← hw]

/-! ### Starts and stops (R164, R165) -/

/-- At the instant of its start an ARMED engine runs; any other counts the start as cancelled. -/
theorem exec_engineStart_due (s u : State) (t : Nat) (e : Fin 512) (a : Sched) (hu : u = s.tickTo t) (h : u.sched .start e.val = some a)
    (hdue : u.due .start e.val a = true) :
    exec (.engineStart t e) s =
      .next (if u.reg (O.ENG_STATE e.val) ≠ 3 then u.endAction .start e.val 2
        else (u.endAction .start e.val 1).startEngine e.val (u.effectAt .start e.val a / Config.wordUnits)) := by
  rw [exec_engineStart, execEngineStart]
  simp only [← hu, h, hdue, Bool.not_true, Bool.false_eq_true, if_false]

/-- A RUNNING engine takes a stop request for the next word clock. -/
theorem ownStopReq_running (e : Nat) (s : State) (h : s.reg (O.ENG_STATE e) = 4) :
    ownStopReq e 1 s = (.okay, s.stopNow e (s.wc + 1)) :=
  if_neg (not_not_intro h)

/-- A stop waits for a claim. -/
theorem State.stopNow_claimed (s w : State) (e wc : Nat) (hw : w = s.haltPump.dspPump e wc) (h : (w.engine e).claim.isSome = true) :
    s.stopNow e wc = w.setEngine e { w.engine e with stopReq := true } := by
  simp only [State.stopNow, ← hw, if_pos h]

/-- Without one it ends the run, an instruction in progress or a legal one abandoned. -/
theorem State.stopNow_stops (s w : State) (e wc : Nat) (hw : w = s.haltPump.dspPump e wc) (h : (w.engine e).claim = none)
    (hlegal : (w.engine e).fresh = false ∨ w.illegalCause e wc = none) :
    s.stopNow e wc = w.stopEngine e wc (w.eventAt e wc) := by
  have hnone : (if (w.engine e).fresh = true then w.illegalCause e wc else none) = none := by
    rcases hlegal with h | h <;> simp only [h, Bool.false_eq_true, if_false, ite_self]
  simp only [State.stopNow, ← hw, h, Option.isSome_none, Bool.false_eq_true, if_false, hnone]

/-- The fault of a fresh illegal instruction goes first. -/
theorem State.stopNow_illegal (s w : State) (e wc c : Nat) (hw : w = s.haltPump.dspPump e wc) (h : (w.engine e).claim = none)
    (hfresh : (w.engine e).fresh = true) (hcause : w.illegalCause e wc = some c) :
    s.stopNow e wc = w.illegal e wc c (w.eventAt e wc) := by
  simp only [State.stopNow, ← hw, h, Option.isSome_none, Bool.false_eq_true, if_false, hfresh, if_true, hcause]

/-- A granted stop request of a RUNNING engine completes with OKAY. -/
theorem exec_stopReq_running (s u w : State) (t : Nat) (r : Requester) (e : Fin 512) (hu : u = s.tickTo t)
    (hwrite : u.writable r (O.ENG_STOP_REQ e.val) 1 = true) (hrun : u.reg (O.ENG_STATE e.val) = 4)
    (hw : u.stopNow e.val (u.wc + 1) = w) : exec (.stopReq t r e true) s = .next (w.okays r (O.ENG_STOP_REQ e.val)) := by
  rw [exec_stopReq, execStopReq, ← hu, ← hw]
  exact congrArg _ (State.writeObj_okays _ _ _ _ 1 _ hwrite (ownStopReq_running _ _ hrun))

/-! ### Program loads (R164) -/

/-- A program that passes the checks loads at once where its commit carries no TT. -/
theorem ownProgram_now (e : Nat) (img : List Byte) (s : State) (h : progRefused img = false) :
    ownProgram e img 0 s = s.loadProgram e s.wc img := by
  simp only [ownProgram, scheduled_zero, h, Bool.false_eq_true, if_false, if_true]

/-- At the instant of a scheduled load the staged program leaves, and loads unless the engine's stores are under a march. -/
theorem exec_programLoad_due (s u : State) (t : Nat) (e : Fin 512) (a : Sched) (w v : State) (st : Status) (hu : u = s.tickTo t)
    (h : u.sched .load e.val = some a) (hdue : u.due .load e.val a = true) (hmarch : u.marchEngine e.val = false)
    (hw : w = { u with staged := Tbl.set [] u.staged (O.ENG_PROGRAM e.val) [] })
    (hload : w.loadProgram e.val (u.effectAt .load e.val a / Config.wordUnits) (Tbl.get [] u.staged (O.ENG_PROGRAM e.val)) = (st, v)) :
    exec (.programLoad t e .effect) s = .next ((v.endAction .load e.val (if st = .okay then 1 else 2)).settleBuffer e.val) := by
  rw [exec_programLoad, execProgramLoad]
  simp only [← hu, h, hdue, hmarch, Bool.not_true, Bool.false_eq_true, if_false, ← hw, hload]

/-- The copy of an engine that is LOADING ends. -/
theorem exec_loadComplete_loading (s u : State) (t : Nat) (e : Fin 512) (hu : u = s.tickTo t) (h : u.reg (O.ENG_STATE e.val) = 1) :
    exec (.loadComplete t e) s =
      .next ((((u.loadClears e.val).setReg (O.ENG_STATE e.val) 2).holdBuffer (e.val / 32) none).rewindEngine e.val) := by
  rw [exec_loadComplete, execLoadComplete]
  simp only [← hu, h, ne_eq, not_true, if_false]

/-! ### The claim ports (R205) -/

/-- A port without a claimant passes nothing. -/
theorem State.portDecide_idle (x : State) (q : Nat) (h : x.claimants q x.wc = []) : x.portDecide q = x := by
  simp only [State.portDecide, h, List.filter_nil, if_true]

/-- A port that has passed none in this word clock passes its first candidate, and the allocator decides its claim. -/
theorem State.portDecide_claim (x : State) (q : Nat) (p : HPort) (all rest cand served : List Nat) (e : Nat) (c : Claim) (granted : Bool)
    (w : State) (hp : p = Tbl.get ({} : HPort) x.hports q) (hall : all = x.claimants q x.wc)
    (hrest : rest = all.filter (fun e => !(if p.last = x.wc then p.served else []).contains e))
    (hcand : (if rest = [] then (all, []) else (rest, if p.last = x.wc then p.served else [])) = (e :: cand, served))
    (hclaim : (x.engine e).claim = some c) (hlast : p.last ≠ x.wc + 1)
    (hdecide : x.decideClaim e c.line c.virt c.slot (x.wc - 3 - c.issued) = (granted, w)) :
    x.portDecide q =
      { w.setEngine e { w.engine e with claim := some { c with decided := some (granted, x.wc) } } with
        hports := Tbl.set {} w.hports q ⟨e :: served, x.wc + 1⟩ } := by
  simp only [State.portDecide, ← hp, ← hall, ← hrest, hcand, hclaim, if_neg hlast, hdecide]

/-- CLAIM_DECISION of a quadrant is its port's turn, after the ports below it. -/
theorem exec_claimDecision_port (s u x : State) (t : Nat) (q : Fin 4) (hu : u = s.tickTo t)
    (hx : x = (List.range q.val).foldl State.portDecide u.tableDue.haltPump.disarmAll) :
    exec (.claimDecision t q) s = .next (x.portDecide q.val) := by
  rw [exec_claimDecision, execClaimDecision, ← hu, List.range_succ, List.foldl_append, ← hx]
  rfl

/-! ### Feed schedules (R169) -/

/-- A schedule of 64 owners replaces the one in force from the next word clock. -/
theorem ownFeedSched_swaps (c : Nat) (img : List Byte) (s : State) (hlen : img.length = 64)
    (howners : img.any (fun b => decide (b.toNat > 0x20) && b != 0xFF#8) = false) :
    ownFeedSched c img 0 s = (.okay, s.swapImage (O.CLU_FEED_SCHED c) s.nextWc img) := by
  simp only [ownFeedSched, scheduled_zero, hlen, howners, ne_eq, not_true, Bool.false_eq_true, or_self, if_false, if_true]

/-- At its instant a staged schedule leaves and replaces it. -/
theorem exec_feedSchedCommit_due (s u : State) (t : Nat) (c : Fin 16) (a : Sched) (hu : u = s.tickTo t) (h : u.sched .feed c.val = some a)
    (hdue : u.due .feed c.val a = true) :
    exec (.feedSchedCommit t c .effect) s =
      .next (({ u.endAction .feed c.val 1 with staged := Tbl.set [] u.staged (O.CLU_FEED_SCHED c.val) [] }).swapImage
        (O.CLU_FEED_SCHED c.val) (u.effectAt .feed c.val a / Config.wordUnits) (Tbl.get [] u.staged (O.CLU_FEED_SCHED c.val))) := by
  rw [exec_feedSchedCommit, execFeedSchedCommit]
  simp only [← hu, h, hdue, Bool.not_true, Bool.false_eq_true, if_false]

/-! ### Step results and DSP state (R180, R189) -/

/-- The oldest step of a channel, closed and judged, goes to every lane that names the channel unless a pop goes first. -/
theorem exec_stepResult_delivers (s u : State) (t : Nat) (ch : Fin 144) (x : StepRec) (rest : List StepRec) (hu : u = s.tickTo t)
    (hsteps : (u.chan ch.val).steps = x :: rest) (hclosed : x.closed = true)
    (hjudged : (u.chan ch.val).strobes.any (fun y => y.step == x.id) = false)
    (hroom : (u.retLanes ch.val).any (fun p => decide (64 ≤ ((u.dsp p.1).rf p.2).length) && u.popsNow p.1 p.2) = false) :
    exec (.stepResult t ch) s =
      .next ((u.retLanes ch.val).foldl (fun (s : State) p => s.resDeliver p.1 p.2 ⟨x.fails, x.hits, x.valid⟩)
        (u.setChan ch.val { u.chan ch.val with steps := rest })) := by
  rw [exec_stepResult, execStepResult]
  simp only [← hu, hsteps, hclosed, hjudged, hroom, Bool.not_true, Bool.false_eq_true, or_self, if_false]

/-- A channel without a step delivers nothing. -/
theorem exec_stepResult_empty (s u : State) (t : Nat) (ch : Fin 144) (hu : u = s.tickTo t) (h : (u.chan ch.val).steps = []) :
    exec (.stepResult t ch) s = .next u := by
  rw [exec_stepResult, execStepResult]
  simp only [← hu, h]

/-- An image in range replaces the DSP state of an engine in a safe state; a flush on request follows it. -/
theorem ownDspState_takes (e : Nat) (img : List Byte) (v w : State) (hsafe : v.engineSafe e = true) (hok : dspImageOk img = true)
    (hw : w = (v.dspPump e v.wc).setDsp e { (v.dspPump e v.wc).dsp e with
      bank := bankAt img 0, ar := (List.range 4).map (fun k => fieldInt img (64 + 4 * k) 4),
      br := (List.range 4).map (fun k => fieldInt img (80 + 4 * k) 4), shadow := bankAt img 120 }) :
    ownDspState e img 0 v = (.okay, if byteAt img 208 = 1 then w.resFlush e else w) := by
  simp only [ownDspState, unscheduled_zero, hsafe, hok, Bool.not_true, Bool.false_eq_true, or_self, if_false, ← hw]

/-- Settles O60: each clause is what the owner of its object does, or the law of what falls due. -/
theorem engineControlCommandsComplete : Obligations.EngineControlCommandsComplete := by
  refine ⟨?_, ?_, ?_, ?_, ?_, ?_, ?_, ?_, ?_, ?_, ?_, ?_, ?_, ?_, ?_, ?_, ?_, ?_⟩
  · rintro s u t e n m w hu hdue hn hm hw hdeferred hlate
    rw [exec_refreshTimer_due s u t e n m w hu hdue hn hm hw, if_pos ⟨hdeferred, hlate⟩]
  · rintro s u t e n m w hu hdue hn hm hw hlate
    rw [exec_refreshTimer_due s u t e n m w hu hdue hn hm hw, if_neg hlate]
  · rintro s u t e a hu h hdue harmed
    rw [exec_engineStart_due s u t e a hu h hdue, if_neg (not_not_intro harmed)]
  · rintro s u t e a hu h hdue harmed
    rw [exec_engineStart_due s u t e a hu h hdue, if_pos harmed]
  · rintro s u t r e w hu hwrite hrun hw hclaim
    exact exec_stopReq_running s u _ t r e hu hwrite hrun (u.stopNow_claimed w _ _ hw hclaim)
  · rintro s u t r e w hu hwrite hrun hw hclaim hlegal
    exact exec_stopReq_running s u _ t r e hu hwrite hrun (u.stopNow_stops w _ _ hw hclaim hlegal)
  · rintro s u t r e w c hu hwrite hrun hw hclaim hfresh hcause
    exact exec_stopReq_running s u _ t r e hu hwrite hrun (u.stopNow_illegal w _ _ c hw hclaim hfresh hcause)
  · rintro s _ t e r crc img w rfl h hform hload
    rw [exec_programLoad, execProgramLoad]
    exact congrArg (fun v : State => Host.Outcome.next (v.settleBuffer e.val))
      (State.commitObj_okays _ _ r _ crc img _ h ((ownProgram_now _ img _ hform).trans hload))
  · exact exec_programLoad_due
  · exact exec_loadComplete_loading
  · rintro s _ t r e rfl hwrite
    rw [exec_failedMark, execFailedMark]
    exact congrArg _ (State.writeObj_okays _ _ r _ 1 (ownFailedMark e.val) hwrite rfl)
  · rintro s u t q x p all rest cand served e c granted w hu hx hp hall hrest hcand hclaim hlast hdecide
    rw [exec_claimDecision_port s u x t q hu hx,
      x.portDecide_claim _ p all rest cand served e c granted w hp hall hrest hcand hclaim hlast hdecide]
  · rintro s u t q x hu hx h
    rw [exec_claimDecision_port s u x t q hu hx, x.portDecide_idle _ h]
  · rintro s _ t c r crc img rfl h hlen howners
    rw [exec_feedSchedCommit, execFeedSchedCommit]
    exact congrArg _ (State.commitObj_okays _ _ r _ crc img _ h (ownFeedSched_swaps _ img _ hlen howners))
  · exact exec_feedSchedCommit_due
  · exact exec_stepResult_delivers
  · exact exec_stepResult_empty
  · rintro s u t r crc img e tt v w z hu h hv hsafe hok hw htt hz
    rw [exec_dspStateCommit, execDspStateCommit, ← hu]
    refine congrArg _ (State.commitObj_okays_at u _ r _ crc z tt img _ h hz ?_)
    rw [htt, ← hv]
    exact ownDspState_takes e.val img v w hsafe hok hw

end Sys2Proof.Machine
end

section
/-! The numbers of an engine's datapath: sums in the accumulators, their range, and the rounding of ACCRD. -/

namespace Sys2Proof.Machine

/-! ### Accumulators (R177) -/

/-- A value clamped to n bits is a signed number of n bits. -/
theorem clampTo_range (n : Nat) (v : Int) : -(2 : Int) ^ (n - 1) ≤ clampTo n v ∧ clampTo n v ≤ 2 ^ (n - 1) - 1 := by
  have hpos : (0 : Int) < 2 ^ (n - 1) := by positivity
  rw [clampTo]
  omega

theorem accumulate_range (aop : Nat) (acc v : Int) : -(2 ^ 47) ≤ accumulate aop acc v ∧ accumulate aop acc v ≤ 2 ^ 47 - 1 :=
  clampTo_range 48 _

/-- An accumulator that adds from 0 holds the exact sum while the bound of its values times their number stays in range. -/
theorem foldl_accumulate_eq_sum (b : Int) (l : List Int) (hb : 0 ≤ b) (hl : (l.length : Int) * b < 2 ^ 47)
    (h : ∀ v ∈ l, -b ≤ v ∧ v ≤ b) : l.foldl (accumulate 0) 0 = l.sum := by
  rw [acc_fold b hb l 0 0 h (by simp) (by simp) (by simpa using hl), zero_add]

/-! ### Rounding (R178) -/

section
variable (v : Int) (sh : Nat)

theorem roundShift_zero (rnd : Nat) : roundShift v 0 rnd = v := by
  rw [roundShift, if_pos rfl]

/-- Floor is the quotient rounded down, for a shift by 0 too. -/
theorem roundShift_floor : roundShift v sh 0 = v / 2 ^ sh := by
  cases sh with
  | zero => rw [roundShift_zero, pow_zero, Int.ediv_one]
  | succ n => exact if_neg n.succ_ne_zero

/-- Half up is the floor of the quotient with half a unit added. -/
theorem roundShift_halfUp : roundShift v (sh + 1) 1 = (v + 2 ^ sh) / 2 ^ (sh + 1) :=
  if_neg sh.succ_ne_zero

/-- Half even is half up, less one where an exact half went to an odd result. -/
theorem roundShift_halfEven : roundShift v (sh + 1) 2 =
    if v % 2 ^ (sh + 1) = 2 ^ sh ∧ roundShift v (sh + 1) 1 % 2 = 1 then roundShift v (sh + 1) 1 - 1 else roundShift v (sh + 1) 1 := by
  rw [roundShift_halfUp]
  exact if_neg sh.succ_ne_zero

theorem floor_bounds : 2 ^ sh * roundShift v sh 0 ≤ v ∧ v < 2 ^ sh * roundShift v sh 0 + 2 ^ sh := by
  have hpos : (0 : Int) < 2 ^ sh := by positivity
  rw [roundShift_floor]
  exact ⟨Int.mul_ediv_self_le hpos.ne', Int.lt_mul_ediv_self_add hpos⟩

theorem halfUp_bounds : 2 ^ (sh + 1) * roundShift v (sh + 1) 1 - 2 ^ sh ≤ v ∧ v < 2 ^ (sh + 1) * roundShift v (sh + 1) 1 + 2 ^ sh := by
  have hunit : (2 : Int) ^ (sh + 1) = 2 * 2 ^ sh := pow_succ' 2 sh
  obtain ⟨hlow, hhigh⟩ := floor_bounds (v + 2 ^ sh) (sh + 1)
  rw [roundShift_floor, ← roundShift_halfUp] at hlow hhigh
  omega

/-- Half a unit more than a whole multiple leaves half a unit. -/
theorem emod_of_half_above (q : Int) (h : v = 2 ^ (sh + 1) * q + 2 ^ sh) : v % 2 ^ (sh + 1) = 2 ^ sh := by
  have hpos : (0 : Int) < 2 ^ sh := by positivity
  rw [h, Int.mul_add_emod_self_left, Int.emod_eq_of_lt hpos.le (by rw [pow_succ']; omega)]

/-- So does half a unit less. -/
theorem emod_of_half_below (q : Int) (h : v = 2 ^ (sh + 1) * q - 2 ^ sh) : v % 2 ^ (sh + 1) = 2 ^ sh :=
  emod_of_half_above v sh (q - 1) (by rw [h, pow_succ']; ring)

/-- An exact half goes up by half a unit under half up. -/
theorem halfUp_of_half (h : v % 2 ^ (sh + 1) = 2 ^ sh) : v = 2 ^ (sh + 1) * roundShift v (sh + 1) 1 - 2 ^ sh := by
  have hdiv := Int.mul_ediv_add_emod v (2 ^ (sh + 1))
  rw [h] at hdiv
  have hdvd : (2 : Int) ^ (sh + 1) ∣ v + 2 ^ sh := ⟨v / 2 ^ (sh + 1) + 1, by linear_combination -hdiv⟩
  rw [roundShift_halfUp, Int.mul_ediv_cancel' hdvd, add_sub_cancel_right]

/-- An exact half lies half a unit from an even result; anything else is rounded half up. -/
theorem halfEven_cases :
    (roundShift v (sh + 1) 2 % 2 = 0 ∧
      (v = 2 ^ (sh + 1) * roundShift v (sh + 1) 2 - 2 ^ sh ∨ v = 2 ^ (sh + 1) * roundShift v (sh + 1) 2 + 2 ^ sh)) ∨
    (v % 2 ^ (sh + 1) ≠ 2 ^ sh ∧ roundShift v (sh + 1) 2 = roundShift v (sh + 1) 1) := by
  by_cases hhalf : v % 2 ^ (sh + 1) = 2 ^ sh
  · have hup := halfUp_of_half v sh hhalf
    by_cases hodd : roundShift v (sh + 1) 1 % 2 = 1
    · rw [roundShift_halfEven, if_pos ⟨hhalf, hodd⟩]
      refine .inl ⟨by omega, .inr ?_⟩
      calc v = 2 ^ (sh + 1) * roundShift v (sh + 1) 1 - 2 ^ sh := hup
        _ = 2 ^ (sh + 1) * (roundShift v (sh + 1) 1 - 1) + 2 ^ sh := by rw [pow_succ']; ring
    · rw [roundShift_halfEven, if_neg fun h => hodd h.2]
      exact .inl ⟨by omega, .inl hup⟩
  · rw [roundShift_halfEven, if_neg fun h => hhalf h.1]
    exact .inr ⟨hhalf, rfl⟩

theorem halfEven_bounds :
    2 ^ (sh + 1) * roundShift v (sh + 1) 2 - 2 ^ sh ≤ v ∧ v ≤ 2 ^ (sh + 1) * roundShift v (sh + 1) 2 + 2 ^ sh := by
  have hpos : (0 : Int) < 2 ^ sh := by positivity
  obtain ⟨-, hhalf⟩ | ⟨-, hup⟩ := halfEven_cases v sh
  · omega
  · rw [hup]
    exact ⟨(halfUp_bounds v sh).1, (halfUp_bounds v sh).2.le⟩

theorem halfEven_even_of_half
    (h : v = 2 ^ (sh + 1) * roundShift v (sh + 1) 2 - 2 ^ sh ∨ v = 2 ^ (sh + 1) * roundShift v (sh + 1) 2 + 2 ^ sh) :
    roundShift v (sh + 1) 2 % 2 = 0 := by
  obtain ⟨heven, -⟩ | ⟨hno, -⟩ := halfEven_cases v sh
  · exact heven
  · exact absurd (h.elim (emod_of_half_below v sh _) (emod_of_half_above v sh _)) hno

end

/-- Settles O21: sums within range never clamp, a clamp stays in range, and each rounding has its bounds. -/
theorem accumulatorsAndRounding : Obligations.AccumulatorsAndRounding :=
  ⟨fun l hl => foldl_accumulate_eq_sum (2 ^ 34) l (by positivity) (by omega),
    fun l hl => foldl_accumulate_eq_sum (2 ^ 35) l (by positivity) (by omega),
    accumulate_range, floor_bounds, halfUp_bounds,
    fun v sh => ⟨(halfEven_bounds v sh).1, (halfEven_bounds v sh).2, halfEven_even_of_half v sh⟩,
    roundShift_zero⟩

end Sys2Proof.Machine
end

section
/-! The Halter: tables and site masks that their commits or their instants put in force, the releases of units, and the end of failsafe. -/

namespace Sys2Proof.Machine

/-! ### Tables (R198 to R200) -/

/-- A table that takes no unit from a live engine is applied to every line it names, and its commit counts. -/
theorem State.applyTable_applies (s v w : State) (wc : Nat) (img : List Byte) (hv : v = s.haltPump) (htakes : v.tableTakes img = false)
    (hw : w = v.swapImage O.HALT_TABLE wc (splice v.haltImg 4 (slice 4 1 img))) :
    s.applyTable wc img =
      (.okay, ((List.range 8).foldl (fun (s : State) k => if (byteAt img 4).testBit k then s.applyLine wc img k else s) w).bump
        O.HALT_TABLE_COMMITS 1) := by
  simp only [State.applyTable, ← hv, htakes, Bool.false_eq_true, if_false, ← hw]

/-- A table of the right form is applied from the next word clock where its commit carries no TT. -/
theorem ownHaltTable_now (img : List Byte) (s : State) (hlen : img.length = 2512)
    (hform : tableRefused img (s.reg O.HALT_YARD_POS) = false) : ownHaltTable img 0 s = s.applyTable s.nextWc img := by
  simp only [ownHaltTable, scheduled_zero, hlen, hform, ne_eq, not_true, Bool.false_eq_true, if_false, if_true]

/-- With a TT that can be armed it is staged, where no table waits already. -/
theorem ownHaltTable_armed (img : List Byte) (tt : Nat) (s w : State) (hlen : img.length = 2512)
    (hform : tableRefused img (s.reg O.HALT_YARD_POS) = false) (htt : tt ≠ 0) (hvalid : s.ttValid = true)
    (hnone : s.sched .haltTable 0 = none) (harm : s.armAction .haltTable 0 tt 0 = (.okay, w)) :
    ownHaltTable img tt s = (.okay, { w with staged := Tbl.set [] w.staged O.HALT_TABLE img }) := by
  rw [ownHaltTable, scheduled_valid _ _ _ _ hvalid]
  simp only [hlen, hform, htt, hnone, harm, ne_eq, not_true, Bool.false_eq_true, Option.isSome_none, if_false, if_true]

/-- At its instant the staged table leaves and is applied. -/
theorem State.tableDue_applies (s w : State) (a : Sched) (h : s.sched .haltTable 0 = some a) (hdue : s.due .haltTable 0 a = true)
    (happly : { s with staged := Tbl.set [] s.staged O.HALT_TABLE [] }.applyTable (s.effectAt .haltTable 0 a / Config.wordUnits)
      (Tbl.get [] s.staged O.HALT_TABLE) = (.okay, w)) : s.tableDue = w.endAction .haltTable 0 1 := by
  simp only [State.tableDue, h, hdue, if_true, happly]

/-! ### Site masks (R201) -/

/-- A site mask of 128 bytes replaces that of its line from the next word clock where its commit carries no TT. -/
theorem ownSiteMask_now (k : Nat) (img : List Byte) (s : State) (hlen : img.length = 128) :
    ownSiteMask k img 0 s = (.okay, s.applySiteMask s.nextWc k img) := by
  simp only [ownSiteMask, scheduled_zero, hlen, ne_eq, not_true, if_false, if_true]

/-- With a TT that can be armed it is staged, where no mask of the line waits already. -/
theorem ownSiteMask_armed (k : Nat) (img : List Byte) (tt : Nat) (s w : State) (hlen : img.length = 128) (htt : tt ≠ 0)
    (hvalid : s.ttValid = true) (hnone : s.sched .siteMask k = none) (harm : s.armAction .siteMask k tt 0 = (.okay, w)) :
    ownSiteMask k img tt s = (.okay, { w with staged := Tbl.set [] w.staged (O.SMASK_SITE_MASK k) img }) := by
  rw [ownSiteMask, scheduled_valid _ _ _ _ hvalid]
  simp only [hlen, htt, hnone, harm, ne_eq, not_true, Bool.false_eq_true, Option.isSome_none, if_false, if_true]

/-- At its instant the staged mask leaves and replaces that of its line. -/
theorem exec_siteMask_due (s u : State) (t : Nat) (k : Fin 8) (a : Sched) (hu : u = s.tickTo t) (h : u.sched .siteMask k.val = some a)
    (hdue : u.due .siteMask k.val a = true) :
    exec (.siteMask t k .effect) s =
      .next (({ u with staged := Tbl.set [] u.staged (O.SMASK_SITE_MASK k.val) [] }.applySiteMask
        (u.effectAt .siteMask k.val a / Config.wordUnits) k.val (Tbl.get [] u.staged (O.SMASK_SITE_MASK k.val))).endAction
          .siteMask k.val 1) := by
  rw [exec_siteMask, execSiteMask]
  simp only [← hu, h, hdue, if_true]

/-! ### Releases (R204, R208) -/

/-- The oldest release of an engine, once due, leaves the engine; it frees the units of its token if the engine still holds them. -/
theorem State.disarm_due (s w : State) (e k slot due : Nat) (virt : Bool) (rest : List (Nat × Bool × Nat × Nat))
    (h : (Tbl.get ({} : Engine) s.engines e).releases = (k, virt, slot, due) :: rest) (hdue : due ≤ s.wc)
    (hw : w = { s with engines := Tbl.set {} s.engines e { Tbl.get ({} : Engine) s.engines e with releases := rest } }) :
    s.disarm e =
      if w.holdsUnit e k virt slot = true then (w.freeUnits k (tokenUnits virt slot)).bump O.ALLOC_RELEASES (tokenUnits virt slot).length
      else w := by
  simp only [State.disarm, h, if_neg (Nat.not_lt_of_le hdue), ← hw]

/-- FORCE_RELEASE frees the held units that it names where no live engine holds one of them. -/
theorem ownForceRelease_frees (k v : Nat) (s : State) (us held : List Nat)
    (hus : us = (if v.testBit 7 ∨ !recDivided (s.hrec k) then List.range 16 else [v % 16]))
    (hheld : held = us.filter (fun x => (s.hunit k x).holding.engine.isSome))
    (hlive : held.any (fun x => (s.hunit k x).holding.engine.any s.engineLive) = false) :
    ownForceRelease k v s = (.okay, (s.haltPump.freeUnits k held).bump O.ALLOC_FORCED held.length) := by
  simp only [ownForceRelease, ← hus, ← hheld, hlive, Bool.false_eq_true, if_false]

/-! ### Failsafe (R215) -/

/-- CLEAR_FAILSAFE lets a line leave failsafe once nothing affects it. -/
theorem ownClearFailsafe_leaves (k : Nat) (s : State) (haffected : s.lineAffected k = false)
    (hactive : s.isSet (O.LINE_FAILSAFE_ACTIVE k) = true) : ownClearFailsafe k 1 s = (.okay, s.haltPump.leaveFailsafe k) := by
  simp only [ownClearFailsafe, command_one, haffected, hactive, Bool.false_eq_true, if_false, if_true]

/-- Settles O51: each clause is what the owner of its object does, the law of what falls due, or its row where the row is not idle. -/
theorem halterCommandsComplete : Obligations.HalterCommandsComplete := by
  refine ⟨?_, ?_, ?_, ?_, ?_, ?_, ?_, ?_, ?_, ?_, ?_, ?_, ?_⟩
  · rintro s _ t r crc img v w rfl h hlen hform hv htakes hw
    rw [exec_table, execTable]
    exact congrArg _ (State.commitObj_okays _ _ r _ crc img _ h
      ((ownHaltTable_now img ((s.tickTo t).setXfer _ none) hlen hform).trans (State.applyTable_applies _ v w _ img hv htakes hw)))
  · rintro s _ t r crc img tt w z rfl h htt hlen hform hnone harm hvalid hz
    rw [exec_table, execTable]
    exact congrArg _ (State.commitObj_okays_at _ _ r _ crc z tt img _ h hz
      (ownHaltTable_armed img tt ((s.tickTo t).setXfer _ none) w hlen hform htt hvalid hnone harm))
  · rintro s _ t a _ v w rfl h hdue rfl hv htakes hw
    rw [exec_table, execTable]
    exact congrArg _ (State.tableDue_applies _ _ a h hdue (State.applyTable_applies _ v w _ _ hv htakes hw))
  · rintro s _ t r crc img k rfl h hlen
    rw [exec_siteMask, execSiteMask]
    exact congrArg _ (State.commitObj_okays _ _ r _ crc img _ h (ownSiteMask_now _ img _ hlen))
  · rintro s _ t r crc img k tt w z rfl h htt hlen hnone harm hvalid hz
    rw [exec_siteMask, execSiteMask]
    exact congrArg _ (State.commitObj_okays_at _ _ r _ crc z tt img _ h hz
      (ownSiteMask_armed k.val img tt ((s.tickTo t).setXfer _ none) w hlen htt hvalid hnone harm))
  · exact exec_siteMask_due
  · rintro s u t e k slot d virt rest v w hu hv h hdue hw hholds
    rw [exec_releaseDisarm, execReleaseDisarm, ← hu, ← hv, v.disarm_due w _ k slot d virt rest h hdue hw, if_pos hholds]
  · rintro s u t e k slot d virt rest v w hu hv h hdue hw hholds
    rw [exec_releaseDisarm, execReleaseDisarm, ← hu, ← hv, v.disarm_due w _ k slot d virt rest h hdue hw, if_neg (by rw [hholds]; decide)]
  · rintro s _ t r k v us held rfl hw hus hheld hlive
    rw [exec_forceRelease, execForceRelease]
    exact congrArg _ (State.writeObj_okays _ _ _ _ _ _ hw (ownForceRelease_frees _ v _ us held hus hheld hlive))
  · rintro s u t k x v hu hv
    rw [exec_stickyClear, execStickyClear, ← hu, ← hv]
  · rintro s u t k x _ _ _ _ _ v w z y hu hv hdivided hclock rfl rfl rfl rfl rfl hw hz hy
    rw [exec_slotWindowEnd, execSlotWindowEnd, ← hu, ← hv, hy, hz, hw]
    exact congrArg _ (if_neg (by simp [hdivided, hclock]))
  · rintro s u t v hu hv
    rw [hv, hu]
    exact exec_failsafeEntry t s
  · rintro s _ t r k rfl hw haffected hactive
    rw [exec_clearFailsafe, execClearFailsafe]
    exact congrArg _ (State.writeObj_okays _ _ _ _ _ _ hw (ownClearFailsafe_leaves _ _ haffected hactive))

end Sys2Proof.Machine
end

section
/-! Queues: what the owners of their objects do with a request they perform, an offer that the queue accepts, a ring write that completes,
and the two parts of a deadline. -/

namespace Sys2Proof.Machine

/-! ### Descriptors, ENABLE and draining (R228, R230) -/

/-- A descriptor that is not refused describes the queue anew, which is then empty; the kind of a side with an open stream reads 6. -/
theorem ownDesc_describes (q d : Nat) (img : List Byte) (s : State) (hd : d = leNat img) (h : s.descRefused q img = false) :
    ownDesc q img 0 s =
      (.okay, s.setQueue q
        { s.queue q with
          base := if d.testBit 126 then bits d 18 0 else bits d 42 0, size := bits d 66 43, loc := d.testBit 126,
          pkind := if (s.streamOn q true).isSome then 6 else bits d 119 117,
          ckind := if (s.streamOn q false).isSome then 6 else bits d 122 120,
          prod := 0, cons := 0, prodPh := false, consPh := false }) := by
  simp only [ownDesc, unscheduled_zero, h, Bool.false_eq_true, if_false, ← hd]

/-- ENABLE of a DISABLED queue: it enters ENABLED, and its granules join ledger 0x1051. -/
theorem ownEnable_enables (q : Nat) (s : State) (h : s.reg (O.Q_STATE q) = 0) :
    ownEnable q 1 s =
      (.okay, ((((s.setReg (O.Q_STATE q) 1).setReg (O.Q_ENABLE q) 1).ledAdd 0x1051 0 (s.queue q).size).ledAdd 0x1051 1
        (s.queue q).size).queueMoved q) := by
  simp only [ownEnable, h, if_true]

/-- A write of 0 sends an ENABLED or FAULTED queue into DRAINING. -/
theorem ownEnable_drains (q : Nat) (s : State) (h : s.reg (O.Q_STATE q) = 1 ∨ s.reg (O.Q_STATE q) = 3) :
    ownEnable q 0 s = (.okay, (s.setReg (O.Q_STATE q) 2).setReg (O.Q_ENABLE q) 0) := by
  simp only [ownEnable, h, Nat.zero_ne_one, if_false, if_true]

/-- A DRAINING queue that holds no granule and no reservation enters DISABLED, and its granules leave ledger 0x1051. -/
theorem exec_drainComplete_empty (s u : State) (t : Nat) (q : Fin 32768) (hu : u = s.tickTo t) (hstate : u.reg (O.Q_STATE q.val) = 2)
    (hfill : (u.queue q.val).fill = 0) (hresvs : (u.queue q.val).resvs = []) :
    exec (.drainComplete t q) s =
      .next (((u.setReg (O.Q_STATE q.val) 0).ledSub 0x1051 0 (u.queue q.val).size).ledSub 0x1051 1 (u.queue q.val).size) := by
  rw [exec_drainComplete, execDrainComplete, ← hu]
  exact congrArg _ (if_pos ⟨hstate, hfill, hresvs⟩)

/-! ### Offers and ring writes (R231) -/

/-- A queue whose descriptor, once read, lets it accept a granule reserves the next place for an offer. -/
theorem State.offer_accepted (s v : State) (q who : Nat) (g : List Byte) (hv : v = s.descRead q) (h : v.accepts q 1 = true) :
    s.offer q who g = ((v.reserve q who g).ledAdd 0x1050 0 1).ledAdd 0x1050 2 1 := by
  simp only [State.offer, ← hv, h, if_true]

/-- A ring write that completes with OKAY marks its reservation as written, and the head of the ring commits what it can. -/
theorem exec_ringWriteComplete_okay (s u : State) (t : Nat) (q : Fin 32768) (num : Nat) (x : Resv) (v : State) (hu : u = s.tickTo t)
    (hx : (u.queue q.val).resvs.find? (fun r => r.num == num) = some x) (hwritten : x.written = false) (hgran : x.gran ≠ [])
    (hokay : (u.ringWrite (u.queue q.val) x.place x.gran).1 = some .okay)
    (hv : v = (u.ringWrite (u.queue q.val) x.place x.gran).2) :
    exec (.ringWriteComplete t q num) s =
      .next ((v.setQueue q.val
        { v.queue q.val with
          resvs := (v.queue q.val).resvs.map fun x => if x.num = num then { x with written := true } else x }).commitHead q.val) := by
  have hwrite : u.ringWrite (u.queue q.val) x.place x.gran = (some .okay, v) := Prod.ext hokay hv.symm
  rw [exec_ringWriteComplete, execRingWriteComplete, ← hu]
  simp only [hx, hwritten, hgran, Bool.false_eq_true, or_self, if_false, hwrite]

/-! ### Doorbells (R233) -/

/-- The producer doorbell of an ENABLED queue that software fills commits the granules it names where they find room. -/
theorem ownProdDoorbell_rings (q n : Nat) (s : State) (hkind : (s.queue q).pkind = 7) (hstate : s.reg (O.Q_STATE q) = 1)
    (hroom : n ≤ (s.queue q).size - (s.queue q).fill) :
    ownProdDoorbell q n s =
      (.okay, ((((((s.setQueue q ((s.queue q).advProd n)).ledMove 0x1051 1 3 n).ledAdd 0x1050 0 n).ledAdd 0x1050 2 n).bump
        (O.Q_ENQUEUED q) n).watermarks q (s.queue q).fill).queueMoved q) := by
  simp only [ownProdDoorbell, hkind, hstate, Nat.not_lt_of_le hroom, ne_eq, not_true, or_self, if_false]

/-- The consumer doorbell of a queue that software empties consumes the granules it names where the queue holds them. -/
theorem ownConsDoorbell_rings (q n : Nat) (s : State) (hkind : (s.queue q).ckind = 7) (hfill : n ≤ (s.queue q).fill) :
    ownConsDoorbell q n s = (.okay, (s.consume q n).queueMoved q) := by
  simp only [ownConsDoorbell, hkind, Nat.not_lt_of_le hfill, ne_eq, not_true, if_false]

/-! ### Flushes and deadlines (R235, R236) -/

/-- FLUSH of a DRAINING or FAULTED queue drops the granules it holds. -/
theorem ownQueueFlush_flushes (q : Nat) (s : State) (h : s.reg (O.Q_STATE q) = 2 ∨ s.reg (O.Q_STATE q) = 3) :
    ownQueueFlush q 1 s =
      (.okay, (((((s.setQueue q { s.queue q with cons := (s.queue q).prod, consPh := (s.queue q).prodPh }).ledMove 0x1051 3 1
        (s.queue q).fill).ledMove 0x1050 2 5 (s.queue q).fill).bump (O.Q_FLUSHED q) (s.queue q).fill).watermarks q
          (s.queue q).fill).queueMoved q) := by
  rw [ownQueueFlush, command_one]
  exact if_neg (not_and_or.mpr (h.imp not_not_intro not_not_intro))

/-- A deadline that is due, and before which no fail bit is still to come, flushes the units that feed the queue, and waits for their
records. -/
theorem exec_queueDeadline_due (s u : State) (t : Nat) (q : Fin 32768) (a : Sched) (v w : State) (hu : u = s.tickTo t)
    (h : u.sched .deadline q.val = some a) (hdue : u.due .deadline q.val a = true)
    (hfails : (u.feeders q.val).any (fun x => u.failsBefore x (u.schedInstant a)) = false)
    (hv : v = ((u.feeders q.val).foldl State.flushUnit u).endAction .deadline q.val 1)
    (hw : w = (u.feeders q.val).foldl State.representHeld v) :
    exec (.queueDeadline t q) s =
      .next (w.setQueue q.val
        { w.queue q.val with
          dlWait := some ((u.feeders q.val).map fun x => (x, (v.fc x).nextRec)), dlStamp := u.ttOf (u.schedInstant a) }) := by
  rw [exec_queueDeadline, execQueueDeadline, ← hu]
  simp only [h, hdue, hfails, Bool.not_true, Bool.false_eq_true, or_self, if_false, ← hv, ← hw]

/-- Once those records are committed or dropped, the wait ends with the event DEADLINE. -/
theorem exec_deadline_met (s u : State) (t : Nat) (q : Fin 32768) (waits : List (Nat × Nat)) (hu : u = s.tickTo t)
    (h : (u.queue q.val).dlWait = some waits) (hmet : u.deadlineMet q.val waits = true) :
    exec (.deadline t q) s = .next ((u.setQueue q.val { u.queue q.val with dlWait := none }).queueEvent q.val 3) := by
  rw [exec_deadline, execDeadline, ← hu]
  simp only [h, hmet, if_true]

/-- Settles O48: each clause is what the owner of its object does, an accepted offer, or its row's own law. -/
theorem queueCommandsComplete : Obligations.QueueCommandsComplete := by
  refine ⟨?_, ?_, ?_, exec_drainComplete_empty, ?_, exec_ringWriteComplete_okay, ?_, ?_, ?_, exec_queueDeadline_due, exec_deadline_met⟩
  · rintro s _ t r crc img q _ d _ z rfl h rfl hd hform rfl hz
    rw [exec_descCommit, execDescCommit]
    exact congrArg _ (State.commitObj_okays_at _ _ r _ crc z _ img _ h hz (ownDesc_describes q.val d img _ hd hform))
  · rintro s _ t r q rfl hw hstate
    rw [exec_enable, execEnable]
    exact congrArg _ (State.writeObj_okays _ _ _ _ _ _ hw (ownEnable_enables _ _ hstate))
  · rintro s _ t r q rfl hw hstate
    rw [exec_enable, execEnable]
    exact congrArg _ (State.writeObj_okays _ _ _ _ _ _ hw (ownEnable_drains _ _ hstate))
  · rintro s u t q gran v hu hv haccepts hreads
    rw [exec_producerOffer, execProducerOffer, ← hu]
    simp only [haccepts, if_true, u.offer_accepted v _ 0 gran hv hreads]
  · rintro s _ t r q n rfl hw hkind hstate hroom
    rw [exec_prodDoorbell, execProdDoorbell]
    exact congrArg _ (State.writeObj_okays _ _ _ _ _ _ hw (ownProdDoorbell_rings _ n _ hkind hstate hroom))
  · rintro s _ t r q n rfl hw hkind hfill
    rw [exec_consDoorbell, execConsDoorbell]
    exact congrArg _ (State.writeObj_okays _ _ _ _ _ _ hw (ownConsDoorbell_rings _ n _ hkind hfill))
  · rintro s _ t r q rfl hw hstate
    rw [exec_queueFlush, execQueueFlush]
    exact congrArg _ (State.writeObj_okays _ _ _ _ _ _ hw (ownQueueFlush_flushes _ _ hstate))

end Sys2Proof.Machine
end

section
/-! Fail capture: the site table that its commit or its instant puts in force, the channel configuration, what closes the open records of a
unit, and the offer of its oldest record. -/

namespace Sys2Proof.Machine

/-! ### Sites (R218) -/

/-- A site table of 4,096 bytes is in force from the next word clock where its commit carries no TT. -/
theorem ownSites_now (img : List Byte) (s : State) (hlen : img.length = 4096) :
    ownSites img 0 s = (.okay, s.swapImage O.SITES s.nextWc img) := by
  simp only [ownSites, scheduled_zero, hlen, ne_eq, not_true, if_false, if_true, State.applySites]

/-- With a TT that can be armed it is staged, where no table waits already. -/
theorem ownSites_armed (img : List Byte) (tt : Nat) (s w : State) (hlen : img.length = 4096) (htt : tt ≠ 0) (hvalid : s.ttValid = true)
    (hnone : s.sched .sites 0 = none) (harm : s.armAction .sites 0 tt 0 = (.okay, w)) :
    ownSites img tt s = (.okay, { w with staged := Tbl.set [] w.staged O.SITES img }) := by
  rw [ownSites, scheduled_valid _ _ _ _ hvalid]
  simp only [hlen, htt, hnone, harm, ne_eq, not_true, Bool.false_eq_true, Option.isSome_none, if_false, if_true]

/-- At its instant the staged table leaves and is in force. -/
theorem exec_sitesCommit_due (s u : State) (t : Nat) (a : Sched) (hu : u = s.tickTo t) (h : u.sched .sites 0 = some a)
    (hdue : u.due .sites 0 a = true) :
    exec (.sitesCommit t .effect) s =
      .next (({ u.endAction .sites 0 1 with staged := Tbl.set [] u.staged O.SITES [] } : State).swapImage O.SITES
        (u.effectAt .sites 0 a / Config.wordUnits) (Tbl.get [] u.staged O.SITES)) := by
  rw [exec_sitesCommit, execSitesCommit, ← hu]
  simp only [h, hdue, if_true, State.applySites]

/-! ### Channel configuration (R220) -/

/-- A configuration of the right form, which changes no channel but those that are PARKED, is stored. -/
theorem ownChanCfg_stores (q : Nat) (img : List Byte) (s : State) (hform : cfgRefused img = false)
    (hparked : (List.range 36).any (fun i => fieldLE img (2 * i) 2 != s.chanCfg (36 * q + i) && !s.parked (36 * q + i)) = false) :
    ownChanCfg q img 0 s = (.okay, s.setImage (O.FC_CHAN_CFG q) img) := by
  simp only [ownChanCfg, unscheduled_zero, hform, hparked, Bool.false_eq_true, if_false]

/-! ### Open records (R223, R224) -/

/-- A word record closes once MERGE_WINDOW word clocks have passed since it opened. -/
theorem exec_wordRecordClose_due (s u : State) (t : Nat) (q : Fin 4) (g : Fin 16) (x : FailRec) (hu : u = s.tickTo t)
    (hx : Tbl.get none (u.fc q.val).word g.val = some x)
    (hdue : x.openAt / Config.wordUnits + u.reg (O.FC_MERGE_WINDOW q.val) ≤ u.now / Config.wordUnits) :
    exec (.wordRecordClose t q g) s = .next (u.closeWord q.val g.val) := by
  rw [exec_wordRecordClose, execWordRecordClose, ← hu]
  simp only [hx, hdue, if_true]

/-- A run record closes once RUN_IDLE word clocks have passed without an absorption. -/
theorem exec_runIdleExpiry_due (s u : State) (t : Nat) (q : Fin 4) (src : Fin 52) (x : FailRec) (hu : u = s.tickTo t)
    (hx : Tbl.get none (u.fc q.val).run src.val = some x)
    (hdue : x.openAt / Config.wordUnits + u.reg (O.FC_RUN_IDLE q.val) ≤ u.now / Config.wordUnits) :
    exec (.runIdleExpiry t q src) s = .next (u.closeRun q.val src.val) := by
  rw [exec_runIdleExpiry, execRunIdleExpiry, ← hu]
  simp only [hx, hdue, if_true]

/-! ### Offers of records (R225) -/

/-- The oldest record of a buffer, one in a word clock, goes to an accepting fail queue once nothing of its source can come before it; it
tells of a gap, which ends with it. -/
theorem exec_recordOffer_accepted (s u : State) (t : Nat) (q : Fin 4) (n fq : Nat) (x : FailRec) (rest : List (Nat × FailRec)) (v : State)
    (hu : u = s.tickTo t) (hbuffer : (u.fc q.val).buffer = (n, x) :: rest) (hfq : fq = u.reg (O.FC_FAIL_QUEUE q.val)) (hlt : fq < 32768)
    (hearlier : u.earlierOpen q.val x = false) (honce : (u.fc q.val).offerAt ≠ u.wc + 1)
    (hv : v = u.setFc q.val { u.fc q.val with buffer := rest, offerAt := u.wc + 1 }) (haccepts : v.accepts fq 1 = true) :
    exec (.recordOffer t q) s =
      .next ((v.setFc q.val { v.fc q.val with gap := false }).offer fq (Producer.fail.who (q.val + 4 * n))
        (x.granule (u.fc q.val).gap)) := by
  rw [exec_recordOffer, execRecordOffer, ← hu]
  simp only [hbuffer, ← hfq, hearlier, honce, Nat.not_le_of_lt hlt, ← hv, haccepts, Bool.false_eq_true, or_self, if_false, if_true]

/-- Settles O49: each clause is what the owner of its object does, or its row's law at its instant. -/
theorem failCaptureCommandsComplete : Obligations.FailCaptureCommandsComplete := by
  refine ⟨?_, ?_, exec_sitesCommit_due, ?_, ?_, exec_wordRecordClose_due, exec_runIdleExpiry_due, ?_, ?_, ?_, exec_recordOffer_accepted⟩
  · rintro s _ t r crc img rfl h hlen
    rw [exec_sitesCommit, execSitesCommit]
    exact congrArg _ (State.commitObj_okays _ _ r _ crc img _ h (ownSites_now img _ hlen))
  · rintro s _ t r crc img tt w z rfl h htt hlen hnone harm hvalid hz
    rw [exec_sitesCommit, execSitesCommit]
    exact congrArg _ (State.commitObj_okays_at _ _ r _ crc z tt img _ h hz
      (ownSites_armed img tt ((s.tickTo t).setXfer _ none) w hlen htt hvalid hnone harm))
  · rintro s _ t r rfl hw
    rw [exec_siteFailsClear, execSiteFailsClear]
    exact congrArg _ (State.writeObj_okays _ _ _ _ _ _ hw (command_one _ _))
  · rintro s _ t r crc img q _ z rfl h hform hparked rfl hz
    rw [exec_chanCfgCommit, execChanCfgCommit]
    exact congrArg _ (State.commitObj_okays_at _ _ r _ crc z _ img _ h hz
      (ownChanCfg_stores q.val img ((s.tickTo t).setXfer _ none) hform hparked))
  · rintro s _ t r q rfl hw
    rw [exec_fcFlush, execFcFlush]
    exact congrArg _ (State.writeObj_okays _ _ _ _ _ _ hw (command_one _ _))
  · rintro s _ t r q rfl hw
    rw [exec_runEnWrite, execRunEnWrite]
    exact congrArg _ (State.writeObj_okays _ _ _ _ _ _ hw rfl)
  · rintro s _ t r q rfl hw
    rw [exec_runEnWrite, execRunEnWrite]
    exact congrArg _ (State.writeObj_okays _ _ _ _ _ _ hw rfl)

end Sys2Proof.Machine
end

section
/-! Repair analysis: the updates that a unit presents and takes, its contexts, and the reports it offers. -/

namespace Sys2Proof.Machine

/-! ### Updates (R240, R242) -/

/-- The oldest update of a front stage, its 8 word clocks over, enters the backlog of its home unit where that has room, decoded by the
home unit's map; one that goes to another quadrant is counted. -/
theorem exec_repairPresentation_queues (s u : State) (t : Nat) (q : Fin 4) (x y : RepUpd) (rest : List RepUpd) (home : Nat) (v w : State)
    (hu : u = s.tickTo t) (hfront : (u.rep q.val).front = x :: rest) (hdue : x.openAt + 8 * Config.wordUnits ≤ u.now)
    (hhome : home = x.home % 4) (hv : v = u.setRep q.val { u.rep q.val with front := rest })
    (hw : w = if home = q.val then v else v.bump (O.RU_FORWARDED q.val) 1) (hy : y = x.decode (w.reg (O.RU_ADDR_MAP home)))
    (hroom : (w.rep home).backlog.length < 16384) :
    exec (.repairPresentation t q) s = .next (w.setRep home { w.rep home with backlog := (w.rep home).backlog ++ [y] }) := by
  rw [exec_repairPresentation, execRepairPresentation, ← hu]
  simp only [hfront, Nat.not_lt_of_le hdue, if_false, ← hhome, ← hv, ← hw, ← hy, hroom, if_true]

/-- A unit that has taken no update in this word clock takes the head of its backlog and routes it. -/
theorem State.takeUpdate_routes (s : State) (q : Nat) (x : RepUpd) (rest : List RepUpd) (h : (s.rep q).backlog = x :: rest)
    (honce : (s.rep q).takenAt ≠ s.wc + 1) :
    s.takeUpdate q = (s.setRep q { s.rep q with backlog := rest, takenAt := s.wc + 1 }).repRoute q x false := by
  simp only [State.takeUpdate, h, honce, if_false]

/-! ### Contexts (R241) -/

/-- A context table of the right form is stored, and of the contexts' states only those stay whose entries it leaves as they are. -/
theorem ownContexts_stores (q : Nat) (img : List Byte) (s : State)
    (h : contextsRefused img (bits (s.reg (O.RU_ADDR_MAP q)) 30 28) = false) :
    ownContexts q img 0 s =
      (.okay, (s.setRep q
        { s.rep q with
          ctxs := (s.rep q).ctxs.filter fun c =>
            slice (16 * c.1) 16 img == slice (16 * c.1) 16 (s.image (O.RU_CONTEXTS q)) }).setImage (O.RU_CONTEXTS q) img) := by
  simp only [ownContexts, unscheduled_zero, h, Bool.false_eq_true, if_false]

/-! ### Reports (R245, R246) -/

/-- The report of valid contexts, read after the update of this word clock, is offered whole to an ENABLED queue that has room for it. -/
theorem ownReport_offers (q v rq : Nat) (ix : List Nat) (gs : List (List Byte)) (s w : State) (hw : w = s.takeUpdate q)
    (hrq : rq = w.reg (O.RU_REPORT_QUEUE q)) (hlt : rq < 32768)
    (hix : ix = if v.testBit 15 then (List.range 2048).filter fun i => (ctxDesc (w.image (O.RU_CONTEXTS q)) i).valid else [v % 2048])
    (hvalid : ix.any (fun i => !(ctxDesc (w.image (O.RU_CONTEXTS q)) i).valid) = false) (hne : ix ≠ [])
    (hgs : gs = ix.flatMap fun i => repReport i (ctxDesc (w.image (O.RU_CONTEXTS q)) i) (w.repCtx q i))
    (hstate : w.reg (O.Q_STATE rq) = 1) (hroom : gs.length ≤ (w.queue rq).room) :
    ownReport q v s = (.okay, w.offerAll rq (Producer.repair.who q) gs) := by
  simp only [ownReport, ← hw, ← hrq, ← hix, hvalid, hne, ← hgs, hstate, Nat.not_le_of_lt hlt, Nat.not_lt_of_le hroom,
    Bool.false_eq_true, or_self, ne_eq, not_true, if_false]

/-- Settles O50: each clause is what the owner of its object does, or what becomes of an update that is presented or taken. -/
theorem repairCommandsComplete : Obligations.RepairCommandsComplete := by
  refine ⟨exec_repairPresentation_queues, ?_, ?_, ?_, ?_⟩
  · rintro s u t q x rest hu h honce
    rw [exec_repairUpdate, execRepairUpdate, ← hu, u.takeUpdate_routes _ x rest h honce]
  · rintro s _ t r crc img q _ z rfl h hform rfl hz
    rw [exec_contextsCommit, execContextsCommit]
    exact congrArg _ (State.commitObj_okays_at _ _ r _ crc z _ img _ h hz
      (ownContexts_stores q.val img ((s.tickTo t).setXfer _ none) hform))
  · rintro s _ t r q v rfl hw
    rw [exec_repairClear, execRepairClear]
    exact congrArg _ (State.writeObj_okays _ _ _ _ _ _ hw rfl)
  · rintro s _ t r q v rq ix gs w rfl hwr hw hrq hlt hix hvalid hne hgs hstate hroom
    rw [exec_report, execReport]
    exact congrArg _ (State.writeObj_okays _ _ _ _ _ _ hwr (ownReport_offers _ v rq ix gs _ w hw hrq hlt hix hvalid hne hgs hstate hroom))

end Sys2Proof.Machine
end

section
/-! Frames of a yard link: where a frame holds its fields and its checks, the scrambling that undoes itself, and the correction of one wrong
bit that its header check covers. -/

namespace Sys2Proof.Machine

/-! ### Fields and checks (R261, R262) -/

/-- The bits that the header check covers: header and Halter field. -/
def headBits (hdr halter : Nat) : List Bool := msbBits 32 hdr ++ msbBits 128 halter

/-- The bits that the payload check covers: those, the header check and the payload. -/
def checkedBits (hdr halter payload : Nat) : List Bool :=
  headBits hdr halter ++ msbBits 16 (crc16 (headBits hdr halter)) ++ msbBits 128 payload

section
variable (hdr halter payload : Nat)

theorem headBits_length : (headBits hdr halter).length = 160 := by
  rw [headBits, List.length_append, msbBits_length, msbBits_length]

theorem checkedBits_length : (checkedBits hdr halter payload).length = 304 := by
  rw [checkedBits, List.length_append, List.length_append, headBits_length, msbBits_length, msbBits_length]

theorem frameBits_eq_checked :
    frameBits hdr halter payload = checkedBits hdr halter payload ++ msbBits 32 (crc32Msb (checkedBits hdr halter payload)) := rfl

theorem frameBits_length : (frameBits hdr halter payload).length = 336 := by
  rw [frameBits_eq_checked, List.length_append, checkedBits_length, msbBits_length]

/-- A frame from the bits that its header check covers on. -/
theorem frameBits_eq_head :
    frameBits hdr halter payload =
      headBits hdr halter ++ msbBits 16 (crc16 (headBits hdr halter)) ++
        (msbBits 128 payload ++ msbBits 32 (crc32Msb (checkedBits hdr halter payload))) := by
  rw [frameBits_eq_checked, checkedBits, List.append_assoc]

/-- Bits that stand between others, and hold a number of their width, read as that number. -/
theorem frameField_of_msbBits (a c : List Bool) (n m v : Nat) (ha : a.length = n) (hv : v < 2 ^ m) :
    frameField (a ++ msbBits m v ++ c) n m = v := by
  rw [field_of a _ c n m ha (msbBits_length m v), msbVal_msbBits, Nat.mod_eq_of_lt hv]

theorem frameBits_header (h : hdr < 2 ^ 32) : frameField (frameBits hdr halter payload) 0 32 = hdr := by
  rw [frameBits_eq_head, headBits]
  simpa only [List.nil_append, List.append_assoc] using frameField_of_msbBits [] _ 0 32 hdr rfl h

theorem frameBits_halter (h : halter < 2 ^ 128) : frameField (frameBits hdr halter payload) 32 128 = halter := by
  rw [frameBits_eq_head, headBits, List.append_assoc]
  exact frameField_of_msbBits _ _ 32 128 halter (msbBits_length 32 hdr) h

theorem frameBits_payload (h : payload < 2 ^ 128) : frameField (frameBits hdr halter payload) 176 128 = payload := by
  have hlen : (headBits hdr halter ++ msbBits 16 (crc16 (headBits hdr halter))).length = 176 := by
    rw [List.length_append, headBits_length, msbBits_length]
  rw [frameBits_eq_head, ← List.append_assoc]
  exact frameField_of_msbBits _ _ 176 128 payload hlen h

/-- The header check of a frame holds. -/
theorem frameBits_hcrcOk : hcrcOk (frameBits hdr halter payload) = true := by
  have hcheck : frameField (frameBits hdr halter payload) 160 16 = crc16 (headBits hdr halter) := by
    rw [frameBits_eq_head]
    exact frameField_of_msbBits _ _ 160 16 _ (headBits_length hdr halter) (crc16_lt _)
  have hcovered : (frameBits hdr halter payload).take 160 = headBits hdr halter := by
    rw [frameBits_eq_head, List.append_assoc]
    exact List.take_left' (headBits_length hdr halter)
  rw [hcrcOk, hcheck, hcovered, beq_self_eq_true]

/-- The payload check of a frame holds. -/
theorem frameBits_pcrcOk : pcrcOk (frameBits hdr halter payload) = true := by
  have hcheck : frameField (frameBits hdr halter payload) 304 32 = crc32Msb (checkedBits hdr halter payload) := by
    rw [frameBits_eq_checked, ← List.append_nil (_ ++ msbBits 32 _)]
    exact frameField_of_msbBits _ _ 304 32 _ (checkedBits_length hdr halter payload) (crc32Msb_lt _)
  have hcovered : (frameBits hdr halter payload).take 304 = checkedBits hdr halter payload := by
    rw [frameBits_eq_checked]
    exact List.take_left' (checkedBits_length hdr halter payload)
  rw [pcrcOk, hcheck, hcovered, beq_self_eq_true]

end

/-! ### Scrambling (R261) -/

/-- Each bit of a sequence, for both lanes. -/
theorem bothLanes_length (q : List Bool) : (q.flatMap fun b => [b, b]).length = 2 * q.length := by
  induction q with
  | nil => rfl
  | cons b q ih =>
    simp only [List.flatMap_cons, List.length_append, ih, List.length_cons, List.length_nil]
    omega

/-- In UP a frame is combined with a sequence of one bit for both lanes. -/
theorem scrambleUp_fst (l : List Bool) (g : Nat) : (scrambleUp l g).1 = xorBits l ((scrSeq 168 g).1.flatMap fun b => [b, b]) := by
  unfold scrambleUp
  generalize scrSeq 168 g = q
  rfl

/-- In UP, scrambling a frame again from the same register gives it back. -/
theorem scrambleUp_scrambleUp (l : List Bool) (g : Nat) (h : l.length ≤ 336) : (scrambleUp (scrambleUp l g).1 g).1 = l := by
  have hq : ((scrSeq 168 g).1.flatMap fun b => [b, b]).length = 336 := by rw [bothLanes_length, scrSeq_length]
  rw [scrambleUp_fst, scrambleUp_fst, xorBits_twice l _ (h.trans hq.ge)]

/-- So it does in training. -/
theorem scrambleTrain_scrambleTrain (l : List Bool) (h : l.length ≤ 336) : scrambleTrain (scrambleTrain l) = l :=
  xorBits_twice l _ (h.trans (scrSeq_length 336 _).ge)

/-! ### One wrong bit (R263) -/

/-- A frame with one bit wrong. -/
def flipBit (l : List Bool) (i : Nat) : List Bool := l.set i (!l.getD i false)

theorem flipBit_length (l : List Bool) (i : Nat) : (flipBit l i).length = l.length := List.length_set

theorem flipBit_flipBit (l : List Bool) (i : Nat) (h : i < l.length) : flipBit (flipBit l i) i = l := set_set_back l i h

section
variable (l : List Bool) (i : Nat) (hok : hcrcOk l = true) (hl : 176 ≤ l.length) (hi : i < 176)
include hok hl hi

/-- The syndrome of a sound frame with one bit wrong is that bit's own. -/
theorem syndrome_flipBit : syndrome (flipBit l i) = bitSyndrome i := by
  rw [flipBit, syndrome_flip l i hi hl, (hcrcOk_iff l).mp hok, Nat.zero_xor]

/-- It is not 0, so that the header check fails. -/
theorem flipBit_hcrcBad : hcrcOk (flipBit l i) = false := by
  rw [← Bool.not_eq_true, hcrcOk_iff, syndrome_flipBit l i hok hl hi]
  exact bitSyndrome_ne _ (List.mem_map_of_mem (List.mem_range.mpr hi))

/-- And it is no other bit's, so that flipping another bit does not mend the frame. -/
theorem flipBit_flipBit_hcrcBad (j : Nat) (hj : j < 176) (hne : j ≠ i) : hcrcOk (flipBit (flipBit l i) j) = false := by
  have hsyn : syndrome (flipBit (flipBit l i) j) = bitSyndrome i ^^^ bitSyndrome j := by
    rw [flipBit, syndrome_flip _ j hj (by rw [flipBit_length]; exact hl), syndrome_flipBit l i hok hl hi]
  rw [← Bool.not_eq_true, hcrcOk_iff, hsyn, Nat.xor_eq_zero_iff]
  exact fun h => hne (bitSyndrome_inj i j hi hj h).symm

/-- The search for the wrong bit ends at it, with the frame that was sent. -/
theorem hcrcCorrect_flipBit : hcrcCorrect (flipBit l i) = some l := by
  refine findSome_only _ l i ?_ _ (List.mem_range.mpr hi) fun j hj hne => ?_
  · have hback : flipBit (flipBit l i) i = l := flipBit_flipBit l i (Nat.lt_of_lt_of_le hi hl)
    rw [flipBit] at hback
    simp only [hback, hok, if_true]
  · have hbad : hcrcOk (flipBit (flipBit l i) j) = false := flipBit_flipBit_hcrcBad l i hok hl hi j (List.mem_range.mp hj) hne
    rw [flipBit] at hbad
    simp only [hbad, Bool.false_eq_true, if_false]

end

/-- Settles O22: a frame is its fields between its checks, its scrambling undoes itself, and the syndrome of a wrong bit names it. -/
theorem framesCarryTheirFields : Obligations.FramesCarryTheirFields := by
  intro hdr halter payload hhdr hhalter hpayload
  have hlen := frameBits_length hdr halter payload
  have hok := frameBits_hcrcOk hdr halter payload
  have hlong : 176 ≤ (frameBits hdr halter payload).length := by
    rw [hlen]
    decide
  exact ⟨hlen, hok, frameBits_pcrcOk hdr halter payload, frameBits_header hdr halter payload hhdr,
    frameBits_halter hdr halter payload hhalter, frameBits_payload hdr halter payload hpayload,
    fun g => scrambleUp_scrambleUp _ g hlen.le, scrambleTrain_scrambleTrain _ hlen.le,
    fun i hi => ⟨flipBit_hcrcBad _ i hok hlong hi, hcrcCorrect_flipBit _ i hok hlong hi⟩⟩

end Sys2Proof.Machine
end

section
/-! Serial lanes: the transmitter and its sources, the receiver from the line to its word boundary, clock recovery, and the eye scan. -/

namespace Sys2Proof.Machine

/-- Objects of one unit are told apart by their own numbers. -/
theorem object_ne {a b : Nat} (i : Nat) (h : a ≠ b) : a + i * 256 ≠ b + i * 256 := fun e => h (Nat.add_right_cancel e)

/-- A flag keeps its value where another object is written. -/
theorem State.isSet_setReg_ne (s : State) (o p v : Nat) (h : p ≠ o) : (s.setReg o v).isSet p = s.isSet p := by
  rw [State.isSet, State.isSet, s.reg_setReg_ne o p v h]

/-! ### PRBS and SER_EN (R248, R256, R257) -/

/-- PRBS with a code that is not reserved is stored, and seeds the generator and the checker of a lane that runs. -/
theorem ownPrbs_stores (ch v : Nat) (s : State) (hcode : v % 8 ≤ 4) :
    ownPrbs ch v s =
      (.okay, if s.serOn ch then (s.setReg (O.SER_PRBS ch) v).seedPrbs ch else s.setReg (O.SER_PRBS ch) v) := by
  have hon : (s.setReg (O.SER_PRBS ch) v).serOn ch = s.serOn ch := s.isSet_setReg_ne _ _ v (object_ne ch (by decide))
  simp only [ownPrbs, gt_iff_lt, Nat.not_lt_of_le hcode, if_false, hon]

/-- SER_EN written with 1 starts a lane that is off, in a channel whose MODE is not 0: its transmitter, its receiver and its checker begin
anew. -/
theorem ownSerEn_enables (ch : Nat) (s v w : State) (hmode : s.reg (O.CH_MODE ch) ≠ 0) (hoff : s.serOn ch = false)
    (hv : v = (s.setReg (O.SER_SER_EN ch) 1).seedPrbs ch)
    (hw : w = v.setSer ch { v.ser ch with
      txAt := v.now, txUi := 0, rd := false, scr := 2 ^ 58 - 1, second := false, slips := 0, skip := 0, headers := [], rxPend := [],
      rxRd := false, dscr := 0, rxSecond := false, rxWords := [], adapted := false }) :
    ownSerEn ch 1 s = (.okay, if w.reg (O.CH_STATE ch) = 0 then w.setReg (O.CH_STATE ch) 3 else w) := by
  simp only [ownSerEn, if_true, hmode, hoff, Bool.false_eq_true, if_false, ← hv, ← hw]

/-- SER_EN written with 0 stops a lane that runs: it loses its locks, its eye scan ends, and its channel parks. -/
theorem ownSerEn_disables (ch : Nat) (s v w : State) (hon : s.serOn ch = true)
    (hv : v = (((s.setReg (O.SER_SER_EN ch) 0).setReg (O.SER_CDR_LOCK ch) 0).setReg (O.SER_ALIGNED ch) 0).setReg (O.SER_PRBS_LOCK ch) 0)
    (hw : w = v.setSer ch { v.ser ch with eye := (v.ser ch).eye.map fun y => { y with lock := false, ending := true } }) :
    ownSerEn ch 0 s =
      (.okay,
        if w.reg (O.CH_STATE ch) = 3 then
          ((w.setReg (O.CH_STATE ch) 0).setChan ch { w.chan ch with parkedAt := w.now }).parkLevels ch
        else w) := by
  simp only [ownSerEn, Nat.zero_ne_one, hon, Bool.not_true, Bool.false_eq_true, if_false, ← hv, ← hw]

/-! ### The transmitter (R250, R251) -/

section
variable (s u v : State) (t : Nat) (ch : Fin 144) (hu : u = s.tickTo t) (hv : v = u.switchOut ch.val) (hdue : v.serDue ch.val = true)
include hu hv hdue

/-- The generator sends its next 64 bits, inverted where PRBS says so. -/
theorem exec_serialTransmitWord_prbs (deg tap g : Nat) (l : List Bool) (hsrc : v.reg (O.SER_TX_SRC ch.val) = 0)
    (hcode : v.reg (O.SER_PRBS ch.val) % 8 ≠ 0) (htaps : prbsTaps (v.reg (O.SER_PRBS ch.val) % 8) = (deg, tap))
    (hbits : prbsBits deg tap 64 ((v.ser ch.val).gen % 2 ^ deg) = (l, g)) :
    exec (.serialTransmitWord t ch) s =
      .next ((v.setSer ch.val { v.ser ch.val with gen := g }).txPut ch.val (l.map (· != (v.reg (O.SER_PRBS ch.val)).testBit 3))
        (lsbVal (l.map (· != (v.reg (O.SER_PRBS ch.val)).testBit 3)))) := by
  rw [exec_serialTransmitWord, execSerialTransmitWord]
  simp only [← hu, ← hv, hdue, Bool.not_true, Bool.false_eq_true, if_false, hsrc, hcode, htaps, hbits]

/-- Under PRBS code 0 it sends a free value. -/
theorem exec_serialTransmitWord_free (w : State) (b : List Byte) (hsrc : v.reg (O.SER_TX_SRC ch.val) = 0)
    (hcode : v.reg (O.SER_PRBS ch.val) % 8 = 0) (hdraw : v.drawBytes 8 = (b, w)) :
    exec (.serialTransmitWord t ch) s = .next (w.txPut ch.val (lsbBits 64 (leNat b)) (leNat b)) := by
  rw [exec_serialTransmitWord, execSerialTransmitWord]
  simp only [← hu, ← hv, hdue, Bool.not_true, Bool.false_eq_true, if_false, hsrc, hcode, if_true, hdraw]

/-- The word of the channel map goes out with control bit 0 where nothing is expected beside it. -/
theorem exec_serialTransmitWord_drive (x : LaneWord) (drv : List LaneWord) (hsrc : v.reg (O.SER_TX_SRC ch.val) = 1)
    (hdrv : (v.chan ch.val).drvOut ≠ srcNone) (hword : serHead v.now (v.chan ch.val).drv = x :: drv)
    (hexp : (v.chan ch.val).expOut = srcNone) :
    exec (.serialTransmitWord t ch) s = .next ((v.setChan ch.val { v.chan ch.val with drv := drv }).serSend ch.val x.word false) := by
  rw [exec_serialTransmitWord, execSerialTransmitWord]
  simp only [← hu, ← hv, hdue, Bool.not_true, Bool.false_eq_true, if_false, hsrc, hdrv, hword, hexp, if_true]

/-- With the control bit of its paired expect word otherwise. -/
theorem exec_serialTransmitWord_paired (x e : LaneWord) (drv exp : List LaneWord) (hsrc : v.reg (O.SER_TX_SRC ch.val) = 1)
    (hdrv : (v.chan ch.val).drvOut ≠ srcNone) (hword : serHead v.now (v.chan ch.val).drv = x :: drv)
    (hexp : (v.chan ch.val).expOut ≠ srcNone) (hpair : serHead v.now (v.chan ch.val).exp = e :: exp) :
    exec (.serialTransmitWord t ch) s =
      .next ((v.setChan ch.val { v.chan ch.val with drv := drv, exp := exp }).serSend ch.val x.word (e.word.testBit 0)) := by
  rw [exec_serialTransmitWord, execSerialTransmitWord]
  simp only [← hu, ← hv, hdue, Bool.not_true, Bool.false_eq_true, if_false, hsrc, hdrv, hword, hexp, hpair]

/-- Every other source is PATTERN. -/
theorem exec_serialTransmitWord_pattern (hsrc : 2 ≤ v.reg (O.SER_TX_SRC ch.val)) :
    exec (.serialTransmitWord t ch) s =
      .next (v.txPut ch.val (lsbBits 64 (v.reg (O.SER_PATTERN ch.val))) (v.reg (O.SER_PATTERN ch.val))) := by
  obtain ⟨k, hk⟩ := Nat.exists_eq_add_of_le' hsrc
  rw [exec_serialTransmitWord, execSerialTransmitWord]
  simp only [← hu, ← hv, hdue, Bool.not_true, Bool.false_eq_true, if_false, hk]

/-- A channel without a drive source sends the fill, and that is no underrun. -/
theorem exec_serialFill_undriven (x : Nat) (ctl : Bool) (hsrc : v.reg (O.SER_TX_SRC ch.val) = 1) (hdrv : (v.chan ch.val).drvOut = srcNone)
    (hfill : fillWord (v.reg (O.SER_LINE_CODE ch.val)) (v.reg (O.SER_PATTERN ch.val)) = (x, ctl)) :
    exec (.serialFill t ch) s = .next (v.serSend ch.val x ctl) := by
  rw [exec_serialFill, execSerialFill]
  simp only [← hu, ← hv, hdue, hsrc, hdrv, hfill, bne_self_eq_false, beq_self_eq_true, Bool.not_true, Bool.true_or, Bool.or_self,
    Bool.false_eq_true, if_false, if_true]

/-- The fill in place of an absent word is an underrun. -/
theorem exec_serialFill_absent (x : Nat) (ctl : Bool) (hsrc : v.reg (O.SER_TX_SRC ch.val) = 1) (hdrv : (v.chan ch.val).drvOut ≠ srcNone)
    (habsent : ((serHead v.now (v.chan ch.val).drv).isEmpty ||
      ((v.chan ch.val).expOut != srcNone && (serHead v.now (v.chan ch.val).exp).isEmpty)) = true)
    (hfill : fillWord (v.reg (O.SER_LINE_CODE ch.val)) (v.reg (O.SER_PATTERN ch.val)) = (x, ctl)) :
    exec (.serialFill t ch) s =
      .next ((((v.serSend ch.val x ctl).chanPulse ch.val 7).setFlag (O.CH_UNDERRUN ch.val) 0 (O.CH_UNDERRUN_COUNT ch.val) 1).invalidate
        ch.val) := by
  rw [exec_serialFill, execSerialFill]
  simp only [← hu, ← hv, hdue, hsrc, hdrv, habsent, hfill, Bool.or_assoc, bne_self_eq_false, Bool.or_true, Bool.not_true, Bool.or_self,
    Bool.false_eq_true, if_false]

end

/-- Without a loopback the line bits of a word go out on DRV, which stays at the last of them. -/
theorem State.txPut_line (s s0 : State) (ch : Nat) (l : List Bool) (w : Nat) (hloop : s.reg (O.SER_LOOPBACK ch) = 0)
    (hs0 : s0 = s.setSer ch { s.ser ch with txLine := l, txWord := w, txUi := (s.ser ch).txUi + l.length }) :
    s.txPut ch l w = s0.setChan ch { s0.chan ch with drvLevel := l.getLastD false } := by
  simp only [State.txPut, hloop, ← hs0]

/-! ### The receiver (R252) -/

/-- Line bits come to the receiver of a lane that runs without a loopback. -/
theorem State.rxCmh_line (s : State) (ch : Nat) (line : List Bool) (hon : s.serOn ch = true) (hloop : s.reg (O.SER_LOOPBACK ch) = 0) :
    s.rxCmh ch line = s.rxBits ch line := by
  simp only [State.rxCmh, hon, hloop, Bool.not_true, Nat.reduceBEq, Bool.or_self, Bool.false_eq_true, if_false, OfNat.zero_ne_ofNat]

/-- Under the far-end loopback they are sent again too. -/
theorem State.rxCmh_farEnd (s : State) (ch : Nat) (line : List Bool) (hon : s.serOn ch = true) (hloop : s.reg (O.SER_LOOPBACK ch) = 3) :
    s.rxCmh ch line = (s.setSer ch { s.ser ch with txLine := line }).rxBits ch line := by
  simp only [State.rxCmh, hon, hloop, Bool.not_true, Nat.reduceBEq, Bool.or_self, Bool.false_eq_true, if_false, if_true]

/-- They pass the checker one by one, wait with what the receiver holds, and are decoded as far as they go. -/
theorem State.rxBits_steps (s v : State) (ch n : Nat) (line : List Bool)
    (hv : v = line.foldl (fun (s : State) b => s.checkBit ch b) s) (hn : n = ((v.ser ch).rxPend ++ line).length) :
    s.rxBits ch line =
      Nat.repeat (fun (s : State) => s.rxStep ch) (n + 1) (v.setSer ch { v.ser ch with rxPend := (v.ser ch).rxPend ++ line }) := by
  simp only [State.rxBits, ← hv, State.ser_setSer_same, ← hn]

/-- A word that goes on leaves every object as it is. -/
theorem State.reg_rxDeliver (s : State) (ch : Nat) (x : Nat × Nat) (o : Nat) : (s.rxDeliver ch x).reg o = s.reg o := by
  unfold State.rxDeliver
  split <;> rfl

/-! What the receiver does with a word it has taken leaves the line bits it holds. -/

theorem State.rxPend_slip (s : State) (ch : Nat) : ((s.slip ch).ser ch).rxPend = (s.ser ch).rxPend := by
  rw [State.slip, State.ser_setSer_same]

theorem State.rxPend_rxDeliver (s : State) (ch : Nat) (x : Nat × Nat) : ((s.rxDeliver ch x).ser ch).rxPend = (s.ser ch).rxPend := by
  unfold State.rxDeliver
  split
  · rw [State.ser_setSer_same]
  · rfl

/-- A sync header under alignment by headers (R252): sixteen invalid ones of 64 lose the alignment, and 64 valid ones in a row find it. -/
theorem State.rxHeader_searched (s y : State) (ch : Nat) (valid : Bool) (h : List Bool) (halign : s.reg (O.SER_ALIGN ch) = 2)
    (hy : y = if valid then s else s.bump (O.SER_CODE_ERRORS ch) 1) (hh : h = (valid :: (y.ser ch).headers).take 64) :
    s.rxHeader ch valid =
      if s.isSet (O.SER_ALIGNED ch) then
        (if 16 ≤ h.countP (!·) then (y.setSer ch { y.ser ch with headers := [] }).setReg (O.SER_ALIGNED ch) 0
         else y.setSer ch { y.ser ch with headers := h })
      else if valid = false then (y.setSer ch { y.ser ch with headers := [] }).slip ch
      else if h.length = 64 then (y.setSer ch { y.ser ch with headers := h }).setReg (O.SER_ALIGNED ch) 1
      else y.setSer ch { y.ser ch with headers := h } := by
  have hreg : ∀ o, o ≠ O.SER_CODE_ERRORS ch → y.reg o = s.reg o := by
    intro o ho
    rw [hy]
    split
    · rfl
    · rw [State.reg_bump, if_neg ho]
  have haligned : y.isSet (O.SER_ALIGNED ch) = s.isSet (O.SER_ALIGNED ch) := by
    rw [State.isSet, State.isSet, hreg _ (object_ne ch (by decide))]
  have hsearch : y.reg (O.SER_ALIGN ch) = 2 := by
    rw [hreg _ (object_ne ch (by decide)), halign]
  simp only [State.rxHeader, ← hy, hsearch, ne_eq, not_true, if_false, haligned, ← hh, Bool.not_eq_true']

/-- A sync header leaves the line bits that wait. -/
theorem State.rxPend_rxHeader (s : State) (ch : Nat) (valid : Bool) : ((s.rxHeader ch valid).ser ch).rxPend = (s.ser ch).rxPend := by
  have hcounted : ((if valid then s else s.bump (O.SER_CODE_ERRORS ch) 1).ser ch).rxPend = (s.ser ch).rxPend := by
    split <;> rfl
  unfold State.rxHeader
  generalize (if valid then s else s.bump (O.SER_CODE_ERRORS ch) 1) = y at hcounted ⊢
  rw [← hcounted]
  dsimp only
  split
  · rfl
  · split
    · split <;> simp only [State.ser_setReg, State.ser_setSer_same]
    · split
      · rw [State.rxPend_slip, State.ser_setSer_same]
      · split <;> simp only [State.ser_setReg, State.ser_setSer_same]

section
variable (u v w : State) (ch : Nat) (line : List Bool) (hprbs : u.reg (O.SER_PRBS ch) % 8 = 0) (hpend : (u.ser ch).rxPend = [])
  (hskip : (u.ser ch).skip = 0) (hv : v = u.setSer ch { u.ser ch with rxPend := line })
  (hw : w = v.setSer ch { v.ser ch with rxPend := [] })
include hprbs hpend hskip hv hw

/-- Line bits that are just the next word, where no comma is searched: the word goes on, and alignment by pattern looks at it. -/
theorem State.rxBits_word (x : Nat × Nat) (z : State)
    (hplain : (u.reg (O.SER_LINE_CODE ch) == 1 && u.reg (O.SER_ALIGN ch) == 2 && !u.isSet (O.SER_ALIGNED ch)) = false)
    (hlen : line.length = u.rxLen ch) (hword : w.rxWord ch line = (x, z)) (hz : (z.ser ch).rxPend = []) :
    u.rxBits ch line =
      if u.reg (O.SER_ALIGN ch) = 1 ∧ !u.isSet (O.SER_ALIGNED ch) then
        (if x.1 % 2 ^ 32 = z.reg (O.SER_ALIGN_PATTERN ch) then (z.rxDeliver ch x).setReg (O.SER_ALIGNED ch) 1
         else (z.rxDeliver ch x).slip ch)
      else z.rxDeliver ch x := by
  have hser : v.ser ch = { u.ser ch with rxPend := line } := by rw [hv, State.ser_setSer_same]
  have hreg : ∀ o, v.reg o = u.reg o := fun o => by rw [hv, State.reg_setSer]
  have hset : ∀ o, v.isSet o = u.isSet o := fun o => congrArg (· == 1) (hreg o)
  have hwhole : (v.ser ch).rxPend.length = v.rxLen ch := by
    simp only [State.rxLen, hser, hreg] at hlen ⊢
    exact hlen
  have hstep := State.rxStep_word v ch (by rw [hser, hskip]) (by rw [hreg, hreg, hset, hplain]) hwhole
  rw [← hw] at hstep
  simp only [hser, hword, hreg, hset, State.reg_rxDeliver] at hstep
  have hempty : ((v.rxStep ch).ser ch).rxPend = [] := by
    have hdone : ((z.rxDeliver ch x).ser ch).rxPend = [] := by rw [State.rxPend_rxDeliver, hz]
    rw [hstep]
    split
    · split
      · exact hdone
      · rw [State.rxPend_slip, hdone]
    · exact hdone
  rw [State.rxBits_one u v ch line hprbs (by rw [hpend, List.nil_append, hv]) hempty, hstep]

/-- An uncoded word under alignment by pattern: one that ends in the pattern aligns the receiver, and any other slips its boundary. -/
theorem State.rxBits_raw (hcode : u.reg (O.SER_LINE_CODE ch) = 0) (halign : u.reg (O.SER_ALIGN ch) = 1)
    (hsearching : u.isSet (O.SER_ALIGNED ch) = false) (hlen : line.length = 64) :
    u.rxBits ch line =
      if lsbVal line % 2 ^ 32 = u.reg (O.SER_ALIGN_PATTERN ch) then (w.rxDeliver ch (lsbVal line, 0)).setReg (O.SER_ALIGNED ch) 1
      else (w.rxDeliver ch (lsbVal line, 0)).slip ch := by
  have hreg : ∀ o, w.reg o = u.reg o := fun o => by rw [hw, State.reg_setSer, hv, State.reg_setSer]
  have hword : w.rxWord ch line = ((lsbVal line, 0), w) := by simp only [State.rxWord, hreg, hcode]
  have hempty : (w.ser ch).rxPend = [] := by rw [hw, State.ser_setSer_same]
  rw [State.rxBits_word u v w ch line hprbs hpend hskip hv hw _ w (by rw [hcode]; rfl) (by simp only [hlen, State.rxLen, hcode]) hword hempty,
    if_pos ⟨halign, by rw [hsearching]; rfl⟩, hreg]

/-- A word of 64b/66b under alignment by headers: its header is looked at, and the word goes on descrambled. -/
theorem State.rxBits_headers (z : State) (d : List Bool) (st : Nat) (valid : Bool) (hcode : u.reg (O.SER_LINE_CODE ch) = 2)
    (halign : u.reg (O.SER_ALIGN ch) = 2) (hlen : line.length = 66) (hvalid : valid = (line.getD 0 false != line.getD 1 false))
    (hd : descramble64 (line.drop 2) (w.ser ch).dscr = (d, st))
    (hz : z = (w.setSer ch { w.ser ch with dscr := st }).rxHeader ch valid) :
    u.rxBits ch line = z.rxDeliver ch (lsbVal d, b2n (valid && line.getD 0 false) + 2 * b2n (!valid)) := by
  have hreg : ∀ o, w.reg o = u.reg o := fun o => by rw [hw, State.reg_setSer, hv, State.reg_setSer]
  have hword : w.rxWord ch line = ((lsbVal d, b2n (valid && line.getD 0 false) + 2 * b2n (!valid)), z) := by
    simp only [State.rxWord, hreg, hcode, hd, ← hvalid, ← hz]
  have hempty : (z.ser ch).rxPend = [] := by
    rw [hz, State.rxPend_rxHeader, State.ser_setSer_same, hw, State.ser_setSer_same]
  rw [State.rxBits_word u v w ch line hprbs hpend hskip hv hw _ z (by rw [hcode]; rfl) (by simp only [hlen, State.rxLen, hcode]) hword hempty,
    if_neg (by rw [halign]; omega)]

end

/-! ### Alignment by hand, and clock recovery (R252, R253, R254) -/

/-- BITSLIP slips the word boundary under manual alignment. -/
theorem ownBitslip_slips (ch : Nat) (s : State) (h : s.reg (O.SER_ALIGN ch) = 0) : ownBitslip ch 1 s = (.okay, s.slip ch) := by
  rw [ownBitslip, command_one]
  exact if_neg (not_not_intro h)

/-- A lane that runs locks to a valid signal, and has yet to adapt to it. -/
theorem exec_cdrLock_locks (s u : State) (t : Nat) (ch : Fin 144) (hu : u = s.tickTo t) (hon : u.serOn ch.val = true)
    (hlost : u.isSet (O.SER_CDR_LOCK ch.val) = false) :
    exec (.cdrLock t ch) s = .next ((u.setSer ch.val { u.ser ch.val with adapted := false }).setReg (O.SER_CDR_LOCK ch.val) 1) := by
  rw [exec_cdrLock, execCdrLock]
  simp only [← hu, hon, hlost, Bool.not_false, Bool.and_self, if_true]

/-- A lock that is lost is counted, and takes the alignment and the eye scan's lock with it. -/
theorem exec_lockLoss_loses (s u : State) (t : Nat) (ch : Fin 144) (v : State) (hu : u = s.tickTo t)
    (hlock : u.isSet (O.SER_CDR_LOCK ch.val) = true)
    (hv : v = ((u.setReg (O.SER_CDR_LOCK ch.val) 0).setFlag (O.SER_LOCK_LOSS ch.val) 0 (O.SER_LOCK_LOSS_COUNT ch.val) 1).setReg
      (O.SER_ALIGNED ch.val) 0) :
    exec (.lockLoss t ch) s =
      .next (v.setSer ch.val { v.ser ch.val with headers := [], eye := (v.ser ch.val).eye.map fun y => { y with lock := false } }) := by
  rw [exec_lockLoss, execLockLoss]
  simp only [← hu, hlock, Bool.not_true, Bool.false_eq_true, if_false, ← hv]

/-- Adaptation gives its values in a lane that runs and is locked: once after lock under RX_ADAPT 1, and every time under 2. -/
theorem exec_rxAdaptDone_adapts (s u : State) (t : Nat) (ch : Fin 144) (v : Nat) (hu : u = s.tickTo t) (hon : u.serOn ch.val = true)
    (hlock : u.isSet (O.SER_CDR_LOCK ch.val) = true) (hmode : u.reg (O.SER_RX_ADAPT ch.val) ≠ 0)
    (honce : u.reg (O.SER_RX_ADAPT ch.val) ≠ 1 ∨ (u.ser ch.val).adapted = false) :
    exec (.rxAdaptDone t ch v) s =
      .next ((u.setSer ch.val { u.ser ch.val with adapted := true }).setReg (O.SER_ADAPTED ch.val) (adaptedWord v)) := by
  have hdue : (u.reg (O.SER_RX_ADAPT ch.val) != 1 || !(u.ser ch.val).adapted) = true := by
    rw [Bool.or_eq_true, bne_iff_ne, Bool.not_eq_true']
    exact honce
  rw [exec_rxAdaptDone, execRxAdaptDone]
  simp only [← hu, hon, hlock, bne_iff_ne.mpr hmode, hdue, Bool.and_self, if_true]

/-! ### Eye scan (R258) -/

/-- EYE_START of an idle scan, in a lane that runs and is locked, drops the old results and begins at the first point of the table. -/
theorem ownEyeStart_starts (ch : Nat) (s v : State) (hidle : s.reg (O.SER_EYE_STATE ch) = 0) (hon : s.serOn ch = true)
    (hlock : s.isSet (O.SER_CDR_LOCK ch) = true) (hv : v = s.setImage (O.SER_EYE_RESULTS ch) []) :
    ownEyeStart ch 1 s =
      (.okay,
        if v.image (O.SER_EYE_TABLE ch) = [] then v
        else (v.setSer ch { v.ser ch with eye := some ⟨0, v.now, true, false⟩ }).setReg (O.SER_EYE_STATE ch) 1) := by
  rw [ownEyeStart, command_one]
  simp only [hidle, hon, hlock, ne_eq, not_true, Bool.not_true, Bool.false_eq_true, or_self, if_false, ← hv]

/-- Once the dwell of a point is over its result is kept and goes on, and the scan ends or comes to its next point. -/
theorem exec_eyePointEnd_due (s u : State) (t : Nat) (ch : Fin 144) (errors n dwell : Nat) (y : EyeRun) (v : State) (hu : u = s.tickTo t)
    (heye : (u.ser ch.val).eye = some y) (hdwell : dwell = u.reg (O.SER_EYE_DWELL ch.val))
    (hdue : y.start + uiUnits (u.reg (O.SER_RATE ch.val)) (dwell + 64) ≤ u.now) (hn : n = min errors dwell)
    (hv : v = (u.setImage (O.SER_EYE_RESULTS ch.val)
      (u.image (O.SER_EYE_RESULTS ch.val) ++ leBytes 4 n ++ leBytes 4 (b2n y.lock))).deliverResult ch.val
        ⟨min n 131071, min (dwell - n) 131071, y.lock⟩) :
    exec (.eyePointEnd t ch errors) s =
      .next (if y.ending ∨ (v.image (O.SER_EYE_TABLE ch.val)).length ≤ 4 * (y.point + 1) then
          (v.setSer ch.val { v.ser ch.val with eye := none }).setReg (O.SER_EYE_STATE ch.val) 0
        else v.setSer ch.val { v.ser ch.val with eye := some ⟨y.point + 1, v.now, v.isSet (O.SER_CDR_LOCK ch.val), false⟩ }) := by
  rw [exec_eyePointEnd, execEyePointEnd]
  simp only [← hu, heye, ← hdwell, Nat.not_lt_of_le hdue, if_false, ← hn, ← hv]

/-- Settles O52: each clause is what the owner of its object does, or its row's law on a lane that is in the state it asks for. -/
theorem serialCommandsComplete : Obligations.SerialCommandsComplete := by
  refine ⟨?_, ?_, ?_, ?_, ?_, ?_, ?_, ?_, ?_, ?_, ?_, ?_, ?_, ?_, ?_, ?_, ?_, ?_, ?_, ?_, ?_, ?_, exec_cdrLock_locks, exec_lockLoss_loses,
    exec_rxAdaptDone_adapts, ?_, exec_eyePointEnd_due⟩
  · rintro s _ t r ch v rfl hw hcode hon
    rw [exec_prbsWrite, execPrbsWrite]
    exact congrArg _ (State.writeObj_okays _ _ _ _ _ _ hw ((ownPrbs_stores _ v _ hcode).trans (by rw [hon]; rfl)))
  · rintro s _ t r ch v rfl hw hcode hoff
    rw [exec_prbsWrite, execPrbsWrite]
    exact congrArg _ (State.writeObj_okays _ _ _ _ _ _ hw ((ownPrbs_stores _ v _ hcode).trans (by rw [hoff]; rfl)))
  · rintro s _ t ch line rfl hon hloop
    rw [exec_prbsLock, execPrbsLock, State.rxCmh_line _ _ _ hon hloop]
  · rintro s _ t ch line rfl hon hloop
    rw [exec_prbsLock, execPrbsLock, State.rxCmh_farEnd _ _ _ hon hloop]
  · rintro s _ t ch line rfl hon hloop
    rw [exec_alignment, execAlignment, State.rxCmh_line _ _ _ hon hloop]
  · rintro s _ t ch line rfl hon hloop
    rw [exec_alignment, execAlignment, State.rxCmh_farEnd _ _ _ hon hloop]
  · rintro s _ t ch line v n rfl hon hloop hv hn
    rw [exec_prbsLock, execPrbsLock, State.rxCmh_line _ _ _ hon hloop, State.rxBits_steps _ v _ n _ hv hn]
  · rintro s _ t r ch rfl hw
    rw [exec_errClear, execErrClear]
    exact congrArg _ (State.writeObj_okays _ _ _ _ _ _ hw (command_one _ _))
  · rintro s _ t r ch v w rfl hwr hmode hoff hv hw
    rw [exec_serEn, execSerEn]
    exact congrArg _ (State.writeObj_okays _ _ _ _ _ _ hwr (ownSerEn_enables _ _ v w hmode hoff hv hw))
  · rintro s _ t r ch v w rfl hwr hon hv hw
    rw [exec_serEn, execSerEn]
    exact congrArg _ (State.writeObj_okays _ _ _ _ _ _ hwr (ownSerEn_disables _ _ v w hon hv hw))
  · exact fun s u t ch v deg tap g l hu hv hdue => exec_serialTransmitWord_prbs s u v t ch hu hv hdue deg tap g l
  · exact fun s u t ch v w b hu hv hdue => exec_serialTransmitWord_free s u v t ch hu hv hdue w b
  · rintro s u t ch s0 _ _ v hu hv hdue hsrc rfl rfl hloop hs0
    rw [exec_serialTransmitWord_pattern s u v t ch hu hv hdue hsrc, v.txPut_line s0 _ _ _ hloop hs0]
  · exact fun s u t ch v x drv hu hv hdue => exec_serialTransmitWord_drive s u v t ch hu hv hdue x drv
  · exact fun s u t ch v x e drv exp hu hv hdue => exec_serialTransmitWord_paired s u v t ch hu hv hdue x e drv exp
  · exact fun s u t ch v => exec_serialTransmitWord_pattern s u v t ch
  · exact fun s u t ch v x ctl hu hv hdue => exec_serialFill_undriven s u v t ch hu hv hdue x ctl
  · exact fun s u t ch v x ctl hu hv hdue => exec_serialFill_absent s u v t ch hu hv hdue x ctl
  · rintro s _ t r ch rfl hw halign
    rw [exec_bitslip, execBitslip]
    exact congrArg _ (State.writeObj_okays _ _ _ _ _ _ hw (ownBitslip_slips _ _ halign))
  · rintro s _ t ch line v w rfl hon hloop hprbs hpend hskip hv hw hcode halign hsearching hlen hpattern
    rw [exec_alignment, execAlignment, State.rxCmh_line _ _ _ hon hloop,
      State.rxBits_raw _ v w _ line hprbs hpend hskip hv hw hcode halign hsearching hlen, if_pos hpattern]
  · rintro s _ t ch line v w rfl hon hloop hprbs hpend hskip hv hw hcode halign hsearching hlen hpattern
    rw [exec_alignment, execAlignment, State.rxCmh_line _ _ _ hon hloop,
      State.rxBits_raw _ v w _ line hprbs hpend hskip hv hw hcode halign hsearching hlen, if_neg hpattern]
  · rintro s u t ch line v w y valid hdr hu hon hloop hprbs hpend hskip hv hw hcode halign hlen hvalid hy hhdr
    have hreg : ∀ o, w.reg o = u.reg o := fun o => by rw [hw, State.reg_setSer, hv, State.reg_setSer]
    rw [exec_alignment, execAlignment, ← hu, u.rxCmh_line _ _ hon hloop,
      u.rxBits_headers v w _ line hprbs hpend hskip hv hw _ _ _ valid hcode halign hlen hvalid rfl rfl,
      State.rxHeader_searched _ y _ valid hdr (by rw [State.reg_setSer, hreg, halign]) hy hhdr]
    simp only [State.isSet, State.reg_setSer, hreg]
  · rintro s _ t r ch v rfl hw hidle hon hlock hv
    rw [exec_eyeStart, execEyeStart]
    exact congrArg _ (State.writeObj_okays _ _ _ _ _ _ hw (ownEyeStart_starts _ _ v hidle hon hlock hv))

end Sys2Proof.Machine
end

section
/-! Management ports: what a frame asks of its port and what becomes of it, the wake pattern, and the link. -/

namespace Sys2Proof.Machine

/-! ### Frames (R279, R280) -/

/-- What a frame asks of its port, by its EtherType: an answer of the port's own, that a datagram is taken, or nothing. -/
def State.asked (s : State) (m : Nat) (f : EthFrame) : Option Inet :=
  match f.kind with
  | 0x0806 => (s.arpReply m f).map .inl
  | 0x0800 => s.ip4 m f
  | 0x86DD => s.ip6 m f
  | _ => none

/-- What the port does with it: it answers, takes the datagram, or drops the frame and counts it. -/
def State.attend (s : State) (c : Ctl) (f : EthFrame) : Option Inet → State
  | some (.inl body) => s.ethSend c.num f.src f.kind body
  | some (.inr (p, d)) => s.udpIn c p d
  | none => s.bump (O.MGT_RX_DROPPED c.num) 1

section
variable (s : State) (m : Nat) (f : EthFrame)

theorem State.asked_arp (h : f.kind = 0x0806) : s.asked m f = (s.arpReply m f).map .inl := by simp only [State.asked, h]
theorem State.asked_ip4 (h : f.kind = 0x0800) : s.asked m f = s.ip4 m f := by simp only [State.asked, h]
theorem State.asked_ip6 (h : f.kind = 0x86DD) : s.asked m f = s.ip6 m f := by simp only [State.asked, h]

/-- A frame of any other kind asks nothing. -/
theorem State.asked_other (harp : f.kind ≠ 0x0806) (hip4 : f.kind ≠ 0x0800) (hip6 : f.kind ≠ 0x86DD) : s.asked m f = none := by
  unfold State.asked
  split
  iterate 3 contradiction
  rfl

end

section
variable (s : State) (c : Ctl) (p : Peer) (d : List Byte)

theorem State.udpIn_ptp (h : isPtpPort p.dport = true) : s.udpIn c p d = s.ptpMessage c.num p d := if_pos h

theorem State.udpIn_kisko (h : isPtpPort p.dport = false) (hup : s.kiskoUp c p = true) : s.udpIn c p d = s.takeKisko c p d := by
  simp only [State.udpIn, h, hup, Bool.false_eq_true, if_false, if_true]

/-- A datagram that is neither is dropped. -/
theorem State.udpIn_drops (h : isPtpPort p.dport = false) (hup : s.kiskoUp c p = false) :
    s.udpIn c p d = s.bump (O.MGT_RX_DROPPED c.num) 1 := by
  simp only [State.udpIn, h, hup, Bool.false_eq_true, if_false]

end

/-- A frame that is not sound, or outside the VLAN rule, is dropped. -/
theorem State.frameIn_unsound (s : State) (c : Ctl) (frame : List Byte) (h : s.ethParse c.num frame = none) :
    s.frameIn c frame = s.bump (O.MGT_RX_DROPPED c.num) 1 := by
  simp only [State.frameIn, h]

/-- So is one for another station. -/
theorem State.frameIn_foreign (s : State) (c : Ctl) (frame : List Byte) (f : EthFrame) (h : s.ethParse c.num frame = some f)
    (hdst : f.dst ≠ s.mgtMac c.num) (hone : (byteAt f.dst 0).testBit 0 = false) :
    s.frameIn c frame = s.bump (O.MGT_RX_DROPPED c.num) 1 := by
  simp only [State.frameIn, h, hdst, hone, ne_eq, not_false_eq_true, Bool.not_false, and_self, if_true]

/-- A frame for the port or for a group is attended to. -/
theorem State.frameIn_addressed (s : State) (c : Ctl) (frame : List Byte) (f : EthFrame) (h : s.ethParse c.num frame = some f)
    (hdst : f.dst = s.mgtMac c.num ∨ (byteAt f.dst 0).testBit 0 = true) :
    s.frameIn c frame = s.attend c f (s.asked c.num f) := by
  have hours : ¬ (f.dst ≠ s.mgtMac c.num ∧ (!(byteAt f.dst 0).testBit 0) = true) := by
    rw [Bool.not_eq_true', ← Bool.not_eq_true, ← not_or]
    exact not_not_intro hdst
  simp only [State.frameIn, h, if_neg hours]
  split
  next harp => rw [s.asked_arp _ f harp]; rfl
  next hip4 => rw [s.asked_ip4 _ f hip4]; rfl
  next hip6 => rw [s.asked_ip6 _ f hip6]; rfl
  next harp hip4 hip6 => rw [s.asked_other _ f harp hip4 hip6]; rfl

section
variable (s u : State) (t : Nat) (c : Ctl) (frame : List Byte) (hu : u = s.tickTo t)
include hu

/-- A port whose link is down, or whose domain is stopped, takes no frame. -/
theorem exec_managementFrame_dead (hlive : u.mgtLive c.num = false) : exec (.managementFrame t c frame) s = .next u := by
  rw [exec_managementFrame, execManagementFrame]
  simp only [← hu, hlive, Bool.not_false, if_true]

/-- A live port counts every frame. -/
theorem exec_managementFrame_live (hlive : u.mgtLive c.num = true) :
    exec (.managementFrame t c frame) s = .next ((u.frameIn c frame).bump (O.MGT_RX_FRAMES c.num) 1) := by
  rw [exec_managementFrame, execManagementFrame]
  simp only [← hu, hlive, Bool.not_true, Bool.false_eq_true, if_false]

section
variable (f : EthFrame) (hlive : u.mgtLive c.num = true) (hparse : u.ethParse c.num frame = some f)
  (hdst : f.dst = u.mgtMac c.num ∨ (byteAt f.dst 0).testBit 0 = true)
include hlive hparse hdst

/-- And attends to those that are for it. -/
theorem exec_managementFrame_attends (r : Option Inet) (hr : u.asked c.num f = r) :
    exec (.managementFrame t c frame) s = .next ((u.attend c f r).bump (O.MGT_RX_FRAMES c.num) 1) := by
  rw [exec_managementFrame_live s u t c frame hu hlive, u.frameIn_addressed c frame f hparse hdst, hr]

/-! What becomes of such a frame, by what it asks. -/

theorem exec_managementFrame_answers (kind : Nat) (body : List Byte) (hkind : f.kind = kind) (hr : u.asked c.num f = some (.inl body)) :
    exec (.managementFrame t c frame) s = .next ((u.ethSend c.num f.src kind body).bump (O.MGT_RX_FRAMES c.num) 1) := by
  rw [exec_managementFrame_attends s u t c frame hu f hlive hparse hdst _ hr, ← hkind]
  rfl

theorem exec_managementFrame_drops (hr : u.asked c.num f = none) :
    exec (.managementFrame t c frame) s = .next ((u.bump (O.MGT_RX_DROPPED c.num) 1).bump (O.MGT_RX_FRAMES c.num) 1) :=
  exec_managementFrame_attends s u t c frame hu f hlive hparse hdst _ hr

section
variable (p : Peer) (d : List Byte) (hr : u.asked c.num f = some (.inr (p, d)))
include hr

theorem exec_managementFrame_udp : exec (.managementFrame t c frame) s = .next ((u.udpIn c p d).bump (O.MGT_RX_FRAMES c.num) 1) :=
  exec_managementFrame_attends s u t c frame hu f hlive hparse hdst _ hr

theorem exec_managementFrame_ptp (hptp : isPtpPort p.dport = true) :
    exec (.managementFrame t c frame) s = .next ((u.ptpMessage c.num p d).bump (O.MGT_RX_FRAMES c.num) 1) := by
  rw [exec_managementFrame_udp s u t c frame hu f hlive hparse hdst p d hr, u.udpIn_ptp c p d hptp]

theorem exec_managementFrame_kisko (hptp : isPtpPort p.dport = false) (hup : u.kiskoUp c p = true) :
    exec (.managementFrame t c frame) s = .next ((u.takeKisko c p d).bump (O.MGT_RX_FRAMES c.num) 1) := by
  rw [exec_managementFrame_udp s u t c frame hu f hlive hparse hdst p d hr, u.udpIn_kisko c p d hptp hup]

theorem exec_managementFrame_unserved (hptp : isPtpPort p.dport = false) (hup : u.kiskoUp c p = false) :
    exec (.managementFrame t c frame) s = .next ((u.bump (O.MGT_RX_DROPPED c.num) 1).bump (O.MGT_RX_FRAMES c.num) 1) := by
  rw [exec_managementFrame_udp s u t c frame hu f hlive hparse hdst p d hr, u.udpIn_drops c p d hptp hup]

end

end

end

/-! ### Wake (R281) -/

/-- A frame for the port or for all stations that carries the wake pattern wakes a shed that is not on. -/
theorem exec_managementWake_wakes (s u : State) (t : Nat) (c : Ctl) (frame : List Byte) (f : EthFrame) (hu : u = s.tickTo t)
    (hparse : u.ethParse c.num frame = some f) (hen : u.isSet (O.MGT_WAKE_EN c.num) = true)
    (hshed : u.reg (O.SHED_STATE (93 + c.num)) ≠ 3) (hdst : f.dst = u.mgtMac c.num ∨ f.dst = fill 6 0xFF)
    (hpattern : hasBytes ([0x45#8, 0x56#8, 0x53#8, 0x57#8] ++ leBytes 8 (u.reg O.ID_SERIAL)) (f.body.take 256) = true) :
    exec (.managementWake t c frame) s =
      .next ((u.setFlag (O.MGT_WAKE_SEEN c.num) 0 (O.MGT_WAKE_COUNT c.num) 1).wakeAt (1 + c.num)) := by
  rw [exec_managementWake, execManagementWake, ← hu]
  simp only [hparse]
  exact congrArg _ (if_pos ⟨hen, hshed, hdst, hpattern⟩)

/-- Settles O53: a live port attends to the frames that are for it by what they ask, and drops the others; the other rows have their own
laws. -/
theorem managementPortCommandsComplete : Obligations.ManagementPortCommandsComplete := by
  refine ⟨exec_managementFrame_dead, ?_, ?_, ?_, ?_, ?_, ?_, ?_, ?_, ?_, ?_, ?_, ?_, ?_, ?_, ?_, exec_managementWake_wakes, ?_, ?_⟩
  · rintro s u t c frame hu hlive hparse
    rw [exec_managementFrame_live s u t c frame hu hlive, u.frameIn_unsound c frame hparse]
  · rintro s u t c frame f hu hlive hparse hdst hone
    rw [exec_managementFrame_live s u t c frame hu hlive, u.frameIn_foreign c frame f hparse hdst hone]
  · rintro s u t c frame f body hu hlive hparse hdst hkind hr
    exact exec_managementFrame_answers s u t c frame hu f hlive hparse hdst _ body hkind ((u.asked_arp _ f hkind).trans (by rw [hr]; rfl))
  · rintro s u t c frame f hu hlive hparse hdst hkind hr
    exact exec_managementFrame_drops s u t c frame hu f hlive hparse hdst ((u.asked_arp _ f hkind).trans (by rw [hr]; rfl))
  · rintro s u t c frame f body hu hlive hparse hdst hkind hr
    exact exec_managementFrame_answers s u t c frame hu f hlive hparse hdst _ body hkind ((u.asked_ip4 _ f hkind).trans hr)
  · rintro s u t c frame f p d hu hlive hparse hdst hkind hr hptp
    exact exec_managementFrame_ptp s u t c frame hu f hlive hparse hdst p d ((u.asked_ip4 _ f hkind).trans hr) hptp
  · rintro s u t c frame f p d hu hlive hparse hdst hkind hr hptp hup
    exact exec_managementFrame_kisko s u t c frame hu f hlive hparse hdst p d ((u.asked_ip4 _ f hkind).trans hr) hptp hup
  · rintro s u t c frame f p d hu hlive hparse hdst hkind hr hptp hup
    exact exec_managementFrame_unserved s u t c frame hu f hlive hparse hdst p d ((u.asked_ip4 _ f hkind).trans hr) hptp hup
  · rintro s u t c frame f hu hlive hparse hdst hkind hr
    exact exec_managementFrame_drops s u t c frame hu f hlive hparse hdst ((u.asked_ip4 _ f hkind).trans hr)
  · rintro s u t c frame f body hu hlive hparse hdst hkind hr
    exact exec_managementFrame_answers s u t c frame hu f hlive hparse hdst _ body hkind ((u.asked_ip6 _ f hkind).trans hr)
  · rintro s u t c frame f p d hu hlive hparse hdst hkind hr hptp
    exact exec_managementFrame_ptp s u t c frame hu f hlive hparse hdst p d ((u.asked_ip6 _ f hkind).trans hr) hptp
  · rintro s u t c frame f p d hu hlive hparse hdst hkind hr hptp hup
    exact exec_managementFrame_kisko s u t c frame hu f hlive hparse hdst p d ((u.asked_ip6 _ f hkind).trans hr) hptp hup
  · rintro s u t c frame f p d hu hlive hparse hdst hkind hr hptp hup
    exact exec_managementFrame_unserved s u t c frame hu f hlive hparse hdst p d ((u.asked_ip6 _ f hkind).trans hr) hptp hup
  · rintro s u t c frame f hu hlive hparse hdst hkind hr
    exact exec_managementFrame_drops s u t c frame hu f hlive hparse hdst ((u.asked_ip6 _ f hkind).trans hr)
  · rintro s u t c frame f hu hlive hparse hdst harp hip4 hip6
    exact exec_managementFrame_drops s u t c frame hu f hlive hparse hdst (u.asked_other _ f harp hip4 hip6)
  · rintro s _ t c up speed rfl
    rw [exec_mgtLinkChange, execMgtLinkChange]
  · rintro s _ t r c v rfl hw
    rw [exec_phyMode, execPhyMode]
    exact congrArg _ (State.writeObj_okays _ _ _ _ _ _ hw rfl)

end Sys2Proof.Machine
end

section
/-! Yard links: ENABLE, the steps of training and their limits, entry into UP, replays, and entry into DOWN. -/

namespace Sys2Proof.Machine

/-! ### ENABLE (R265, R274) -/

/-- ENABLE written with 1 starts training of a port that is DISABLED or DOWN. -/
theorem ownYardEnable_trains (p : Nat) (s : State) (hsafe : s.yardSafe p = true) :
    ownYardEnable p 1 s = (.okay, (s.setReg (O.YARD_ENABLE p) 1).startTraining p) := by
  simp only [ownYardEnable, hsafe, if_true]

/-- Any other port keeps to what it does. -/
theorem ownYardEnable_enabled (p : Nat) (s : State) (hsafe : s.yardSafe p = false) :
    ownYardEnable p 1 s = (.okay, s.setReg (O.YARD_ENABLE p) 1) := by
  simp only [ownYardEnable, hsafe, if_true, Bool.false_eq_true, if_false]

/-- Written with 0 it takes a port that is DOWN to DISABLED. -/
theorem ownYardEnable_disables (p : Nat) (s : State) (hdown : s.reg (O.YARD_STATE p) = 8) :
    ownYardEnable p 0 s = (.okay, (s.setReg (O.YARD_ENABLE p) 0).setReg (O.YARD_STATE p) 0) := by
  simp only [ownYardEnable, hdown, Nat.zero_ne_one, if_true, if_false]

/-- And any other port DOWN. -/
theorem ownYardEnable_downs (p : Nat) (s : State) (hdown : s.reg (O.YARD_STATE p) ≠ 8) :
    ownYardEnable p 0 s = (.okay, (s.setReg (O.YARD_ENABLE p) 0).yardDown p 1) := by
  simp only [ownYardEnable, hdown, Nat.zero_ne_one, if_false]

/-! ### Training (R265, R266) -/

section
variable (s u : State) (t : Nat) (p : Fin 4) (hu : u = s.tickTo t)
include hu

/-- A whole TRAIN frame counts for the step that a port is in, and may end it. -/
theorem exec_train_counts (lane : Bool) (frame : List Byte) (adapted : Bool) (w : State) (hfrom : 1 ≤ u.reg (O.YARD_STATE p.val))
    (hto : u.reg (O.YARD_STATE p.val) ≤ 6) (hlen : frame.length = 42)
    (hw : w = u.trainFrame p.val lane (scrambleTrain (bytesBits frame))) :
    exec (.train t p lane frame adapted) s =
      .next ((w.setTrain p.val { (w.yard p.val).train with
        adapted := (w.yard p.val).train.adapted || (adapted && u.reg (O.YARD_STATE p.val) == 3) }).trainAdvance p.val) := by
  have htaken : ¬ (u.reg (O.YARD_STATE p.val) = 0 ∨ 7 ≤ u.reg (O.YARD_STATE p.val) ∨ frame.length ≠ 42) := by omega
  rw [exec_train, execTrain, ← hu]
  simp only [if_neg htaken, ← hw]

/-- A DETECT that does not lock in time after a step up goes back to the rate before it. -/
theorem exec_trainingLimit_steppedBack (hdetect : u.reg (O.YARD_STATE p.val) = 1) (hstepped : (u.yard p.val).train.stepped = true)
    (hdue : (u.yard p.val).train.stepAt + 5 * Config.msUnits ≤ u.now) :
    exec (.trainingLimit t p) s = .next (u.rateBack p.val) := by
  have hover : (u.yard p.val).train.stepAt + trainLimit 1 true ≤ u.now := hdue
  rw [exec_trainingLimit, execTrainingLimit]
  simp only [← hu, hdetect, hstepped, Nat.one_ne_zero, Nat.not_lt_of_le hover, Nat.not_ofNat_le_one, or_self, and_self, if_false, if_true]

/-- Any other step that passes its limit takes the port DOWN. -/
theorem exec_trainingLimit_downs (hfrom : 1 ≤ u.reg (O.YARD_STATE p.val)) (hto : u.reg (O.YARD_STATE p.val) ≤ 6)
    (hfirst : ¬ (u.reg (O.YARD_STATE p.val) = 1 ∧ (u.yard p.val).train.stepped = true))
    (hdue : (u.yard p.val).train.stepAt + trainLimit (u.reg (O.YARD_STATE p.val)) (u.yard p.val).train.stepped ≤ u.now) :
    exec (.trainingLimit t p) s = .next (u.yardDown p.val 6) := by
  have hover : ¬ (u.reg (O.YARD_STATE p.val) = 0 ∨ 7 ≤ u.reg (O.YARD_STATE p.val) ∨
      u.now < (u.yard p.val).train.stepAt + trainLimit (u.reg (O.YARD_STATE p.val)) (u.yard p.val).train.stepped) := by omega
  rw [exec_trainingLimit, execTrainingLimit]
  simp only [← hu, if_neg hover, if_neg hfirst]

/-- Sixteen READY frames sent and heard on both lanes bring the port UP, each enabled channel without credit. -/
theorem exec_linkUp_ups (v w : State) (hready : u.reg (O.YARD_STATE p.val) = 6) (hsent : 16 ≤ (u.yard p.val).train.sent)
    (h0 : 16 ≤ (u.yard p.val).train.heard0) (h1 : 16 ≤ (u.yard p.val).train.heard1)
    (hv : v = u.setYard p.val
      { train := (u.yard p.val).train, ackAt := u.now, txSlot := u.reg (O.YARD_KEY_ACTIVE p.val), vcs := (u.yard p.val).vcs,
        codeErrors := (u.yard p.val).codeErrors, haltSent := u.wc + yardDelay })
    (hw : w = (v.forgetCauses.setReg (O.YARD_STATE p.val) 7).setReg (O.YARD_TRAIN_TIME p.val)
      ((u.now - (u.yard p.val).train.trainAt) / Config.usUnits)) :
    exec (.linkUp t p) s = .next ((List.range 8).foldl (fun (s : State) k =>
      if s.vcOn p.val k then
        (s.setVc p.val k
          { (s.yard p.val).vc k with
            known := false, first := none, told := none, lost := false, txNext := ((s.yard p.val).vc k).txEnq }).topUp p.val k
      else s) w) := by
  have hdone : ¬ (u.reg (O.YARD_STATE p.val) ≠ 6 ∨ (u.yard p.val).train.sent < 16 ∨ (u.yard p.val).train.heard0 < 16 ∨
      (u.yard p.val).train.heard1 < 16) := by omega
  rw [exec_linkUp, execLinkUp, ← hu]
  simp only [if_neg hdone, ← hv, ← hw]

/-! ### Retry (R270) -/

/-- A NAK releases the frames before its ACK and begins a replay. -/
theorem exec_nak_replays (ack : Nat) (hgot : (u.yard p.val).nakGot = some ack) :
    exec (.nak t p) s =
      .next (((u.setYard p.val { u.yard p.val with nakGot := none }).takeAck p.val ack).beginReplay p.val) := by
  rw [exec_nak, execNak]
  simp only [← hu, hgot]

section
variable (hup : u.yardUp p.val = true) (hreplay : (u.yard p.val).replay ≠ []) (hdue : (u.yard p.val).ackAt + Config.usUnits ≤ u.now)
include hup hreplay hdue

/-- Frames that are not acknowledged within 1 µs in UP are sent again. -/
theorem exec_replayTimeout_replays : exec (.replayTimeout t p) s = .next (u.beginReplay p.val) := by
  rw [exec_replayTimeout, execReplayTimeout]
  simp only [← hu, hup, hreplay, hdue, ne_eq, not_false_eq_true, and_self, if_true]

/-- For the eighth time they take the port DOWN. -/
theorem exec_replayTimeout_downs (hruns : 7 ≤ (u.yard p.val).replayRuns) :
    exec (.replayTimeout t p) s = .next (u.yardDown p.val 4) := by
  have heighth : 8 ≤ (u.yard p.val).replayRuns + 1 := by omega
  rw [exec_replayTimeout_replays s u t p hu hup hreplay hdue]
  simp only [State.beginReplay, hreplay, heighth, if_false, if_true]

/-- Before that they begin a replay from the oldest. -/
theorem exec_replayTimeout_begins (hruns : (u.yard p.val).replayRuns < 7) :
    exec (.replayTimeout t p) s =
      .next (u.setYard p.val
        { u.yard p.val with replayAt := some 0, replayRuns := (u.yard p.val).replayRuns + 1, ackAt := u.now }) := by
  have hfewer : ¬ 8 ≤ (u.yard p.val).replayRuns + 1 := by omega
  rw [exec_replayTimeout_replays s u t p hu hup hreplay hdue]
  simp only [State.beginReplay, hreplay, hfewer, if_false]

end

/-! ### DOWN (R274) -/

/-- A cause takes the port DOWN: loss of lock outside DETECT, loss of alignment in UP, and every other cause always. -/
theorem exec_linkDown_downs (cause : Fin 10) (hcause : cause.val ≠ 0) (hlock : cause.val = 2 → u.reg (O.YARD_STATE p.val) ≠ 1)
    (halign : cause.val = 3 → u.reg (O.YARD_STATE p.val) = 7) :
    exec (.linkDown t p cause) s = .next (u.yardDown p.val cause.val) := by
  have hmet : ¬ (cause.val = 0 ∨ (cause.val = 2 ∧ u.reg (O.YARD_STATE p.val) = 1) ∨
      (cause.val = 3 ∧ u.reg (O.YARD_STATE p.val) ≠ 7)) := by
    rintro (h | ⟨h, hdetect⟩ | ⟨h, hlower⟩)
    · exact hcause h
    · exact hlock h hdetect
    · exact hlower (halign h)
  rw [exec_linkDown, execLinkDown, ← hu]
  simp only [if_neg hmet]

/-- 10 µs after DOWN a port that is enabled, retrains by itself and whose shed is on begins training. -/
theorem exec_autoRetrain_trains (hdown : u.reg (O.YARD_STATE p.val) = 8) (hauto : u.isSet (O.YARD_AUTO_RETRAIN p.val) = true)
    (hen : u.isSet (O.YARD_ENABLE p.val) = true) (hdue : (u.yard p.val).downAt + 10 * Config.usUnits ≤ u.now)
    (hshed : u.shedOn (quadStop p.val 22) = true) :
    exec (.autoRetrain t p) s = .next (u.startTraining p.val) := by
  rw [exec_autoRetrain, execAutoRetrain, ← hu]
  exact congrArg _ (if_pos ⟨hdown, hauto, hen, hdue, hshed⟩)

end

/-- Settles O54: each clause is what the owner of ENABLE does, or its row's law on a port in the state it asks for. -/
theorem yardLinkCommandsComplete : Obligations.YardLinkCommandsComplete := by
  refine ⟨?_, ?_, ?_, ?_, ?_, ?_, ?_, ?_, ?_, ?_, ?_, ?_, ?_⟩
  · rintro s _ t r p rfl hw hsafe
    rw [exec_yardEnable, execYardEnable]
    exact congrArg _ (State.writeObj_okays _ _ _ _ _ _ hw (ownYardEnable_trains _ _ hsafe))
  · rintro s _ t r p rfl hw hsafe
    rw [exec_yardEnable, execYardEnable]
    exact congrArg _ (State.writeObj_okays _ _ _ _ _ _ hw (ownYardEnable_enabled _ _ hsafe))
  · rintro s _ t r p rfl hw hdown
    rw [exec_yardEnable, execYardEnable]
    exact congrArg _ (State.writeObj_okays _ _ _ _ _ _ hw (ownYardEnable_disables _ _ hdown))
  · rintro s _ t r p rfl hw hdown
    rw [exec_yardEnable, execYardEnable]
    exact congrArg _ (State.writeObj_okays _ _ _ _ _ _ hw (ownYardEnable_downs _ _ hdown))
  · exact fun s u t p lane frame adapted w hu => exec_train_counts s u t p hu lane frame adapted w
  · exact exec_trainingLimit_steppedBack
  · exact exec_trainingLimit_downs
  · exact fun s u t p v w hu => exec_linkUp_ups s u t p hu v w
  · exact fun s u t p ack hu => exec_nak_replays s u t p hu ack
  · exact exec_replayTimeout_downs
  · exact exec_replayTimeout_begins
  · exact fun s u t p cause hu => exec_linkDown_downs s u t p hu cause
  · exact exec_autoRetrain_trains

end Sys2Proof.Machine
end

section
/-! Frames of a yard link: what a slot sends, and what a received frame leaves, by its header check and by its place between the TAGs of an
encrypted link. -/

namespace Sys2Proof.Machine

/-! ### Frame slots (R264, R265, R269, R277) -/

section
variable (s u : State) (t : Nat) (p : Fin 4) (w : State) (hu : u = s.tickTo t) (hw : w = u.haltPump)
  (hrun : w.domainRunning (388 + 2 * p.val) = true)
include hu hw hrun

/-- A slot in UP sends the frame that is due. -/
theorem exec_yardFrameSlot_up (hup : w.reg (O.YARD_STATE p.val) = 7) : exec (.yardFrameSlot t p) s = .next (w.sendFrame p.val) := by
  rw [exec_yardFrameSlot, execYardFrameSlot]
  simp only [← hu, ← hw, hrun, hup, Bool.not_true, Bool.false_eq_true, if_false, if_true]

/-- In training it sends a TRAIN frame, with which the step may end. -/
theorem exec_yardFrameSlot_trains (hfrom : 1 ≤ w.reg (O.YARD_STATE p.val)) (hto : w.reg (O.YARD_STATE p.val) ≤ 6) :
    exec (.yardFrameSlot t p) s = .next ((w.sendTrain p.val (w.reg (O.YARD_STATE p.val))).trainAdvance p.val) := by
  have hnotUp : w.reg (O.YARD_STATE p.val) ≠ 7 := by omega
  rw [exec_yardFrameSlot, execYardFrameSlot]
  simp only [← hu, ← hw, hrun, hnotUp, hfrom, hto, Bool.not_true, Bool.false_eq_true, and_self, if_false, if_true]

/-- In DISABLED it wakes the partner where WAKE_SEND asks for it. -/
theorem exec_yardFrameSlot_wakes (hoff : w.reg (O.YARD_STATE p.val) = 0) (hsend : w.isSet (O.YARD_WAKE_SEND p.val) = true) :
    exec (.yardFrameSlot t p) s = .next (w.sendTrain p.val 7) := by
  rw [exec_yardFrameSlot, execYardFrameSlot]
  simp only [← hu, ← hw, hrun, hoff, hsend, Bool.not_true, Bool.false_eq_true, OfNat.zero_ne_ofNat, Nat.reduceLeDiff,
    false_and, and_self, if_false, if_true]

end

/-! ### Received frames (R263, R270, R272) -/

/-- Whether the next frame that a port receives stands where an encrypted link sends its TAG. -/
def State.tagPlace (w : State) (p : Nat) : Bool := w.encrypts p && (w.yard p).rxF % 32 == 31

/-- The ciphertext blocks that the next TAG covers, once a frame with these bits has come. -/
def State.coveredBlocks (w : State) (p : Nat) (l : List Bool) : List Nat :=
  if w.encrypts p && !w.tagPlace p then (w.yard p).rxBlocks ++ [frameField l 32 128, frameField l 176 128] else (w.yard p).rxBlocks

/-- The keystream of the next frame; a link without encryption has none. -/
def State.rxKeystream (w : State) (p slot : Nat) : Nat × Nat :=
  if w.encrypts p then w.keystream p slot (w.yard p).train.pNonce (w.yard p).rxF else (0, 0)

/-- A port v after a frame that was no TAG, received by port w: in the place of a TAG it throws away what it holds for it. -/
def State.missTag (w v : State) (p : Nat) : State :=
  if w.tagPlace p then
    (v.setYard p
      { v.yard p with rxBlocks := [], rxBad := false, rxTags := (w.yard p).rxTags + 1, tagFrom := (w.yard p).rxF + 1 }).dropHeld p
  else v

section
variable (w v : State) (p : Nat) (l : List Bool)

section
variable (h : w.encrypts p = false)
include h

theorem State.coveredBlocks_plain : w.coveredBlocks p l = (w.yard p).rxBlocks := by
  simp only [State.coveredBlocks, h, Bool.false_and, Bool.false_eq_true, if_false]

theorem State.missTag_plain : w.missTag v p = v := by
  simp only [State.missTag, State.tagPlace, h, Bool.false_and, Bool.false_eq_true, if_false]

theorem State.rxKeystream_plain (slot : Nat) : w.rxKeystream p slot = (0, 0) := by
  simp only [State.rxKeystream, h, Bool.false_eq_true, if_false]

end

theorem State.rxKeystream_encrypted (slot : Nat) (h : w.encrypts p = true) :
    w.rxKeystream p slot = w.keystream p slot (w.yard p).train.pNonce (w.yard p).rxF := if_pos h

section
variable (h : w.encrypts p = true) (hf : (w.yard p).rxF % 32 ≠ 31)
include h hf

theorem State.tagPlace_between : w.tagPlace p = false := by
  rw [State.tagPlace, h, beq_false_of_ne hf]
  rfl

theorem State.coveredBlocks_between : w.coveredBlocks p l = (w.yard p).rxBlocks ++ [frameField l 32 128, frameField l 176 128] := by
  simp only [State.coveredBlocks, h, w.tagPlace_between p h hf, Bool.not_false, Bool.and_self, if_true]

theorem State.missTag_between : w.missTag v p = v := by
  simp only [State.missTag, w.tagPlace_between p h hf, Bool.false_eq_true, if_false]

end

section
variable (h : w.encrypts p = true) (hf : (w.yard p).rxF % 32 = 31)
include h hf

theorem State.tagPlace_last : w.tagPlace p = true := by
  rw [State.tagPlace, h, hf]
  rfl

theorem State.coveredBlocks_last : w.coveredBlocks p l = (w.yard p).rxBlocks := by
  simp only [State.coveredBlocks, w.tagPlace_last p h hf, Bool.not_true, Bool.and_false, Bool.false_eq_true, if_false]

theorem State.missTag_last :
    w.missTag v p =
      (v.setYard p
        { v.yard p with rxBlocks := [], rxBad := false, rxTags := (w.yard p).rxTags + 1, tagFrom := (w.yard p).rxF + 1 }).dropHeld p :=
  if_pos (w.tagPlace_last p h hf)

end

end

section
variable (s u : State) (t : Nat) (p : Fin 4) (frame : List Byte) (w v : State) (raw : List Bool) (g : Nat) (hu : u = s.tickTo t)
  (hw : w = u.haltPump) (hup : w.yardUp p.val = true) (hlen : frame.length = 42)
  (hraw : scrambleUp (bytesBits frame) (w.yard p.val).rxScr = (raw, g))
include hu hw hup hlen hraw

/-- A frame whose header is wrong in more than one bit is counted and its Halter field not used; the fourth in a row takes the port DOWN. -/
theorem exec_yardFrame_uncorrectable (b : List Nat) (hbad : hcrcOk raw = false) (hnone : hcrcCorrect raw = none)
    (hb : w.coveredBlocks p.val raw = b)
    (hv : v = ((w.setYard p.val
      { (w.yard p.val) with
        rxF := (w.yard p.val).rxF + 1, rxScr := g, rxBlocks := b, badRun := (w.yard p.val).badRun + 1, rxBad := true }).bump
          (O.YARD_HCRC_BAD p.val) 1).halterIn p.val none) :
    exec (.yardFrame t p frame) s =
      .next (if 4 ≤ (w.yard p.val).badRun + 1 then (w.missTag v p.val).yardDown p.val 3 else w.missTag v p.val) := by
  subst hb hv
  rw [exec_yardFrame, execYardFrame]
  simp only [← hu, ← hw, hup, hlen, hraw, hbad, hnone, Bool.not_true, Bool.false_eq_true, ne_eq, not_true, or_self, if_false,
    Option.getD_none]
  rfl

/-- Any other frame l, as it came or corrected, gives its acknowledgement and its Halter field, and waits if it is to be acted on. Its payload
check, where it fails, is counted. -/
theorem exec_yardFrame_taken (l : List Bool) (hdr kh kp : Nat) (ok : Bool) (b : List Nat) (rot : Option YRot) (f : RxFrame)
    (y : YPort) (n : State)
    (hl : (if hcrcOk raw then some raw else hcrcCorrect raw) = some l)
    (hn : (if hcrcOk raw then w else w.bump (O.YARD_HCRC_CORRECTED p.val) 1) = n)
    (hhdr : hdr = frameField l 0 32) (hok : ok = pcrcOk l) (hb : w.coveredBlocks p.val l = b)
    (hk : w.rxKeystream p.val (b2n (hdr.testBit 10)) = (kh, kp))
    (hrot : (if w.encrypts p.val then
      (w.yard p.val).rot.map fun r => { r with got := r.got || r.slot == b2n (hdr.testBit 10) } else (w.yard p.val).rot) = rot)
    (hf : f = ⟨bits hdr 31 30, bits hdr 29 23, bits hdr 14 12, hdr.testBit 11, ok, frameField l 176 128 ^^^ kp, hdr.testBit 10,
      (w.yard p.val).rxF,
      bits hdr 31 30 == 3 && w.tagOf p.val (b2n (hdr.testBit 10)) (w.yard p.val).train.pNonce (w.yard p.val).rxTags
        (w.yard p.val).rxBlocks == (frameField l 176 128 ^^^ kp) % 2 ^ 64, (w.yard p.val).rxBad⟩)
    (hy : y = { (w.yard p.val) with
      rxF := (w.yard p.val).rxF + 1, rxScr := g, rxBlocks := b, badRun := 0, rxBad := (w.yard p.val).rxBad || !ok,
      nakGot := if hdr.testBit 15 then some (bits hdr 22 16) else (w.yard p.val).nakGot,
      inbox := if f.ftype = 0 then (w.yard p.val).inbox else (w.yard p.val).inbox ++ [f], rot := rot })
    (hv : v = ((((if ok then n else n.bump (O.YARD_PCRC_BAD p.val) 1).setYard p.val y).takeAck p.val (bits hdr 22 16)).halterIn p.val
      (some (frameField l 32 128 ^^^ kh)))) :
    exec (.yardFrame t p frame) s =
      .next ((if f.ftype = 3 then v.setYard p.val { v.yard p.val with rxBlocks := [], rxBad := false, rxTags := (w.yard p.val).rxTags + 1 }
        else w.missTag v p.val).rotDone p.val) := by
  subst hb hv hy hf hok hrot hn hhdr
  rw [State.rxKeystream] at hk
  rw [exec_yardFrame, execYardFrame]
  simp only [← hu, ← hw, hup, hlen, hraw, hl, hk, Bool.not_true, Bool.false_eq_true, ne_eq, not_true, or_self, if_false,
    Option.getD_some, ite_not]
  rfl

end

/-- Settles O55: a slot sends by the state of its port, and a frame is uncorrectable or taken; what an encrypted link does beside that shows in
the blocks its TAG covers, in the keystream, and in the place of the TAG. -/
theorem yardFrameCommandsComplete : Obligations.YardFrameCommandsComplete := by
  refine ⟨exec_yardFrameSlot_up, exec_yardFrameSlot_trains, exec_yardFrameSlot_wakes, ?_, ?_, ?_, ?_, ?_, ?_, ?_⟩
  · rintro s u t p frame w v raw g hu hw hup hlen hraw hbad hnone hplain hv
    rw [exec_yardFrame_uncorrectable s u t p frame w v raw g hu hw hup hlen hraw _ hbad hnone (w.coveredBlocks_plain _ raw hplain) hv,
      w.missTag_plain v _ hplain]
  · rintro s u t p frame w v raw g hu hw hup hlen hraw hbad hnone henc hf hv
    rw [exec_yardFrame_uncorrectable s u t p frame w v raw g hu hw hup hlen hraw _ hbad hnone (w.coveredBlocks_between _ raw henc hf) hv,
      w.missTag_between v _ henc hf]
  · rintro s u t p frame w v raw g hu hw hup hlen hraw hbad hnone henc hf hv
    rw [exec_yardFrame_uncorrectable s u t p frame w v raw g hu hw hup hlen hraw _ hbad hnone (w.coveredBlocks_last _ raw henc hf) hv,
      w.missTag_last v _ henc hf]
  · rintro s u t p frame w v raw g hdr ok f y hu hw hup hlen hraw hgood hplain hhdr hok hf hy hv
    rw [exec_yardFrame_taken s u t p frame w v raw g hu hw hup hlen hraw raw hdr 0 0 ok _ _ f y w (if_pos hgood) (if_pos hgood) hhdr hok
      (w.coveredBlocks_plain _ raw hplain) (w.rxKeystream_plain _ hplain _) (if_neg (by rw [hplain]; decide))
      (by rw [Nat.xor_zero]; exact hf) hy (by rw [Nat.xor_zero]; exact hv), w.missTag_plain v _ hplain]
  · rintro s u t p frame w v raw l g hdr ok f y hu hw hup hlen hraw hbad hfixed hplain hhdr hok hf hy hv
    have hwrong : ¬ hcrcOk raw = true := by rw [hbad]; decide
    rw [exec_yardFrame_taken s u t p frame w v raw g hu hw hup hlen hraw l hdr 0 0 ok _ _ f y _ ((if_neg hwrong).trans hfixed)
      (if_neg hwrong) hhdr hok (w.coveredBlocks_plain _ l hplain) (w.rxKeystream_plain _ hplain _) (if_neg (by rw [hplain]; decide))
      (by rw [Nat.xor_zero]; exact hf) hy (by rw [Nat.xor_zero]; exact hv), w.missTag_plain v _ hplain]
  · rintro s u t p frame w v raw g hdr ok kh kp f y hu hw hup hlen hraw hgood henc hplace hhdr hok hk hf hy hv
    rw [exec_yardFrame_taken s u t p frame w v raw g hu hw hup hlen hraw raw hdr kh kp ok _ _ f y w (if_pos hgood) (if_pos hgood) hhdr hok
      (w.coveredBlocks_between _ raw henc hplace) ((w.rxKeystream_encrypted _ _ henc).trans hk) (if_pos henc) hf hy hv,
      w.missTag_between v _ henc hplace]
  · rintro s u t p frame w v raw g hdr ok kh kp f y hu hw hup hlen hraw hgood henc hplace hhdr hok hk htag hf hy hv
    have hftype : f.ftype = 3 := by
      rw [hf]
      exact htag
    rw [exec_yardFrame_taken s u t p frame w v raw g hu hw hup hlen hraw raw hdr kh kp ok _ _ f y w (if_pos hgood) (if_pos hgood) hhdr hok
      (w.coveredBlocks_last _ raw henc hplace) ((w.rxKeystream_encrypted _ _ henc).trans hk) (if_pos henc) hf hy hv, if_pos hftype]

end Sys2Proof.Machine
end

section
/-! Messages of a yard link: frames taken in sequence, what an accepted one does, TAGs, key rotation, the commits of keys and of channels,
and the wake sequence. -/

namespace Sys2Proof.Machine

/-! ### The sequence check (R270) -/

section
variable (s : State) (p : Nat) (f : RxFrame)

/-- A sound frame with the SEQ expected, whose TAG was not lost, is accepted. -/
theorem State.acceptFrame_accepts (hok : f.ok = true) (hseq : f.seq = (s.yard p).rxSeq)
    (htag : s.encrypts p = true → (s.yard p).tagFrom ≤ f.f) :
    s.acceptFrame p f = (true, s.setYard p { s.yard p with rxSeq := ((s.yard p).rxSeq + 1) % 128, nakOpen := false }) :=
  if_pos ⟨hok, hseq, htag⟩

/-- Any other is discarded, and asks for a NAK where none is open. -/
theorem State.acceptFrame_discards
    (h : f.ok = false ∨ f.seq ≠ (s.yard p).rxSeq ∨ (s.encrypts p = true ∧ f.f < (s.yard p).tagFrom)) :
    s.acceptFrame p f = (false, s.setYard p { s.yard p with nak := (s.yard p).nak || !(s.yard p).nakOpen, nakOpen := true }) := by
  refine if_neg ?_
  rintro ⟨hok, hseq, htag⟩
  rcases h with hbad | hother | ⟨henc, hlost⟩
  · rw [hbad] at hok
    exact Bool.false_ne_true hok
  · exact hother hseq
  · exact Nat.not_lt_of_le (htag henc) hlost

end

/-! What an accepted frame counts for. -/

/-- A first half of a granule is counted when it is accepted. -/
theorem granule_counted (f : RxFrame) (v : State) (hdata : f.ftype = 1) (hhalf : f.half = false) :
    (if f.ftype = 1 ∧ !f.half then (v.ledAdd 0x1061 0 1).ledAdd 0x1061 2 1 else v) = (v.ledAdd 0x1061 0 1).ledAdd 0x1061 2 1 :=
  if_pos ⟨hdata, by rw [hhalf]; rfl⟩

/-- A second half is not. -/
theorem granule_uncounted (f : RxFrame) (v : State) (hhalf : f.half = true) :
    (if f.ftype = 1 ∧ !f.half then (v.ledAdd 0x1061 0 1).ledAdd 0x1061 2 1 else v) = v :=
  if_neg (not_and_of_not_right _ (by rw [hhalf]; decide))

/-- Nor is a message. -/
theorem message_uncounted (f : RxFrame) (v : State) (hcontrol : f.ftype = 2) :
    (if f.ftype = 1 ∧ !f.half then (v.ledAdd 0x1061 0 1).ledAdd 0x1061 2 1 else v) = v := by
  have hdata : f.ftype ≠ 1 := by
    rw [hcontrol]
    decide
  exact if_neg (not_and_of_not_left _ hdata)

section
variable (u : State) (p : Nat) (mine : RxFrame → Bool) (f : RxFrame) (rest : List RxFrame) (w : State)
  (hin : (u.yard p).inbox = f :: rest) (hftype : f.ftype ≠ 3) (hmine : mine f = true)
  (hw : w = u.setYard p { u.yard p with inbox := rest })
include hin hftype hmine hw

/-- The frame at the head of the inbox is discarded. -/
theorem State.takeFrame_discards
    (h : f.ok = false ∨ f.seq ≠ (w.yard p).rxSeq ∨ (w.encrypts p = true ∧ f.f < (w.yard p).tagFrom)) :
    u.takeFrame p mine =
      w.setYard p { w.yard p with nak := (w.yard p).nak || !(w.yard p).nakOpen, nakOpen := true } := by
  simp only [State.takeFrame, hin, hftype, hmine, Bool.not_true, Bool.false_eq_true, or_self, if_false, ← hw, w.acceptFrame_discards p f h]

section
variable (v z : State) (hok : f.ok = true) (hseq : f.seq = (w.yard p).rxSeq)
  (htag : w.encrypts p = true → (w.yard p).tagFrom ≤ f.f)
  (hv : v = w.setYard p { w.yard p with rxSeq := ((w.yard p).rxSeq + 1) % 128, nakOpen := false })
  (hz : (if f.ftype = 1 ∧ !f.half then (v.ledAdd 0x1061 0 1).ledAdd 0x1061 2 1 else v) = z)
include hok hseq htag hv hz

/-- Or it is accepted, its granule counted with its first half, and held for its TAG on an encrypted link. -/
theorem State.takeFrame_holds (henc : z.encrypts p = true) :
    u.takeFrame p mine = z.setYard p { z.yard p with heldFrames := (z.yard p).heldFrames ++ [f] } := by
  simp only [State.takeFrame, hin, hftype, hmine, Bool.not_true, Bool.false_eq_true, or_self, if_false, ← hw,
    w.acceptFrame_accepts p f hok hseq htag, ← hv, hz, henc, if_true]

/-- On a plain one it is acted on at once. -/
theorem State.takeFrame_acts (hplain : z.encrypts p = false) : u.takeFrame p mine = z.actFrame p f := by
  simp only [State.takeFrame, hin, hftype, hmine, Bool.not_true, Bool.false_eq_true, or_self, if_false, ← hw,
    w.acceptFrame_accepts p f hok hseq htag, ← hv, hz, hplain]

end

end

/-! ### What an accepted frame does (R267, R268, R273) -/

section
variable (s : State) (p : Nat) (f : RxFrame)

section
variable (hdata : f.ftype = 1)
include hdata

/-- A first half waits for its second. -/
theorem State.actFrame_first (hhalf : f.half = false) :
    s.actFrame p f = s.setVc p f.vc { (s.yard p).vc f.vc with first := some f.payload } := by
  simp only [State.actFrame, hdata, hhalf, Bool.not_false, if_true]

section
variable (hhalf : f.half = true)
include hhalf

/-- A second half completes the granule. -/
theorem State.actFrame_second (a : Nat) (hfirst : ((s.yard p).vc f.vc).first = some a) (hlost : ((s.yard p).vc f.vc).lost = false) :
    s.actFrame p f = s.yardEnqueue p f.vc (leBytes 16 a ++ leBytes 16 f.payload) := by
  simp only [State.actFrame, hdata, hhalf, hfirst, hlost, Bool.not_true, Bool.false_eq_true, if_false, if_true]

/-- A granule of a channel that has lost one before is lost too. -/
theorem State.actFrame_lost (a : Nat) (hfirst : ((s.yard p).vc f.vc).first = some a) (hlost : ((s.yard p).vc f.vc).lost = true) :
    s.actFrame p f = (s.setVc p f.vc { (s.yard p).vc f.vc with first := none }).ledMove 0x1061 2 3 1 := by
  simp only [State.actFrame, hdata, hhalf, hfirst, hlost, Bool.not_true, Bool.false_eq_true, if_false, if_true]

/-- A second half without its first does nothing. -/
theorem State.actFrame_orphan (hfirst : ((s.yard p).vc f.vc).first = none) : s.actFrame p f = s := by
  simp only [State.actFrame, hdata, hhalf, hfirst, Bool.not_true, Bool.false_eq_true, if_false, if_true]

end

end

/-! A sound CONTROL frame does what its KIND says. -/

section
variable (hcontrol : f.ftype = 2)
include hcontrol

theorem State.actFrame_credit (hkind : bits f.payload 127 120 = 1) : s.actFrame p f = s.takeCredit p f.payload := by
  simp only [State.actFrame, hcontrol, hkind, OfNat.ofNat_ne_one, if_false]

theorem State.actFrame_rekey (hkind : bits f.payload 127 120 = 2) : s.actFrame p f = s.takeRekey p f.payload := by
  simp only [State.actFrame, hcontrol, hkind, OfNat.ofNat_ne_one, if_false]

theorem State.actFrame_rekeyAck (hkind : bits f.payload 127 120 = 3) : s.actFrame p f = s.takeRekeyAck p f.payload := by
  simp only [State.actFrame, hcontrol, hkind, OfNat.ofNat_ne_one, if_false]

end

end

/-- A sound CONTROL frame of a KIND is one. -/
theorem isKind_control (k : Nat) (f : RxFrame) (hcontrol : f.ftype = 2) (hok : f.ok = true) (hkind : bits f.payload 127 120 = k) :
    isKind k f = true := by
  simp only [isKind, hcontrol, hok, hkind, beq_self_eq_true, Bool.and_self]

/-! ### Messages of a KIND (R267, R268, R273) -/

section
variable (u : State) (p k : Nat) (f : RxFrame) (rest : List RxFrame) (w : State) (hin : (u.yard p).inbox = f :: rest)
  (hcontrol : f.ftype = 2) (hok : f.ok = true) (hkind : bits f.payload 127 120 = k)
  (hw : w = u.setYard p { u.yard p with inbox := rest })
include hin hcontrol hok hkind hw

/-- A message out of sequence is discarded. -/
theorem State.takeKind_discards (hseq : f.seq ≠ (w.yard p).rxSeq) :
    u.takeFrame p (isKind k) =
      w.setYard p { w.yard p with nak := (w.yard p).nak || !(w.yard p).nakOpen, nakOpen := true } :=
  u.takeFrame_discards p _ f rest w hin (by rw [hcontrol]; decide) (isKind_control k f hcontrol hok hkind) hw (.inr (.inl hseq))

section
variable (v : State) (hseq : f.seq = (w.yard p).rxSeq) (htag : w.encrypts p = true → (w.yard p).tagFrom ≤ f.f)
  (hv : v = w.setYard p { w.yard p with rxSeq := ((w.yard p).rxSeq + 1) % 128, nakOpen := false })
include hseq htag hv

/-- One in sequence is held for its TAG on an encrypted link. -/
theorem State.takeKind_holds (henc : v.encrypts p = true) :
    u.takeFrame p (isKind k) = v.setYard p { v.yard p with heldFrames := (v.yard p).heldFrames ++ [f] } :=
  u.takeFrame_holds p _ f rest w hin (by rw [hcontrol]; decide) (isKind_control k f hcontrol hok hkind) hw v v hok hseq htag hv
    (message_uncounted f v hcontrol) henc

/-- On a plain one it takes effect at once. -/
theorem State.takeKind_acts (hplain : v.encrypts p = false) : u.takeFrame p (isKind k) = v.actFrame p f :=
  u.takeFrame_acts p _ f rest w hin (by rw [hcontrol]; decide) (isKind_control k f hcontrol hok hkind) hw v v hok hseq htag hv
    (message_uncounted f v hcontrol) hplain

end

end

/-! ### DATA (R267) -/

section
variable (s u : State) (t : Nat) (p : Fin 4) (f : RxFrame) (rest : List RxFrame) (w : State) (hu : u = s.tickTo t)
  (hin : (u.yard p.val).inbox = f :: rest) (hftype : f.ftype ≠ 3) (hother : (isKind 1 f || isKind 2 f || isKind 3 f) = false)
  (hw : w = u.setYard p.val { u.yard p.val with inbox := rest })
include hu hin hftype hother hw

/-- A frame that is no message of a known KIND is discarded where it is not sound or not in sequence. -/
theorem exec_data_discards
    (h : f.ok = false ∨ f.seq ≠ (w.yard p.val).rxSeq ∨ (w.encrypts p.val = true ∧ f.f < (w.yard p.val).tagFrom)) :
    exec (.data t p) s =
      .next (w.setYard p.val { w.yard p.val with nak := (w.yard p.val).nak || !(w.yard p.val).nakOpen, nakOpen := true }) := by
  rw [exec_data, execData, ← hu, u.takeFrame_discards p.val _ f rest w hin hftype (by rw [hother]; rfl) hw h]

section
variable (v z : State) (hok : f.ok = true) (hseq : f.seq = (w.yard p.val).rxSeq)
  (htag : w.encrypts p.val = true → (w.yard p.val).tagFrom ≤ f.f)
  (hv : v = w.setYard p.val { w.yard p.val with rxSeq := ((w.yard p.val).rxSeq + 1) % 128, nakOpen := false })
  (hz : (if f.ftype = 1 ∧ !f.half then (v.ledAdd 0x1061 0 1).ledAdd 0x1061 2 1 else v) = z)
include hok hseq htag hv hz

/-- Otherwise it is held on an encrypted link. -/
theorem exec_data_holds (henc : z.encrypts p.val = true) :
    exec (.data t p) s = .next (z.setYard p.val { z.yard p.val with heldFrames := (z.yard p.val).heldFrames ++ [f] }) := by
  rw [exec_data, execData, ← hu,
    u.takeFrame_holds p.val _ f rest w hin hftype (by rw [hother]; rfl) hw v z hok hseq htag hv hz henc]

/-- And acted on at once on a plain one. -/
theorem exec_data_acts (hplain : z.encrypts p.val = false) : exec (.data t p) s = .next (z.actFrame p.val f) := by
  rw [exec_data, execData, ← hu,
    u.takeFrame_acts p.val _ f rest w hin hftype (by rw [hother]; rfl) hw v z hok hseq htag hv hz hplain]

end

end

/-! ### TAG (R272) -/

section
variable (s u : State) (t : Nat) (p : Fin 4) (f : RxFrame) (rest : List RxFrame) (w : State) (hu : u = s.tickTo t)
  (hin : (u.yard p.val).inbox = f :: rest) (hftype : f.ftype = 3) (hw : w = u.setYard p.val { u.yard p.val with inbox := rest })
include hu hin hftype hw

/-- A TAG on a plain link is taken, and that is all. -/
theorem exec_tag_plain (hplain : u.encrypts p.val = false) : exec (.tag t p) s = .next w := by
  rw [exec_tag, execTag]
  simp only [← hu, hin, hftype, ← hw, hplain, ne_eq, not_true, Bool.not_false, if_false, if_true]

section
variable (henc : u.encrypts p.val = true)
include henc

/-- On an encrypted one a TAG whose payload check fails throws away the frames that wait for it. -/
theorem exec_tag_unsound (hok : f.ok = false) : exec (.tag t p) s = .next (w.dropHeld p.val) := by
  rw [exec_tag, execTag]
  simp only [← hu, hin, hftype, ← hw, henc, hok, ne_eq, not_true, Bool.not_true, Bool.not_false, Bool.false_eq_true, if_false, if_true]

section
variable (hok : f.ok = true)
include hok

/-- One that verifies releases them in order. -/
theorem exec_tag_verifies (htag : f.tagOk = true) :
    exec (.tag t p) s = .next ((u.yard p.val).heldFrames.foldl (fun (s : State) f => s.actFrame p.val f)
      (w.setYard p.val { w.yard p.val with heldFrames := [] })) := by
  rw [exec_tag, execTag]
  simp only [← hu, hin, hftype, ← hw, henc, hok, htag, ne_eq, not_true, Bool.not_true, Bool.false_eq_true, if_false, if_true]

/-- One that does not, but covers a frame that did not come whole, throws them away. -/
theorem exec_tag_uncovered (htag : f.tagOk = false) (hcov : f.covBad = true) : exec (.tag t p) s = .next (w.dropHeld p.val) := by
  rw [exec_tag, execTag]
  simp only [← hu, hin, hftype, ← hw, henc, hok, htag, hcov, ne_eq, not_true, Bool.not_true, Bool.false_eq_true, if_false, if_true]

/-- Any other is counted as a failure and takes the port DOWN. -/
theorem exec_tag_fails (htag : f.tagOk = false) (hcov : f.covBad = false) :
    exec (.tag t p) s = .next ((w.bump (O.YARD_TAG_FAILS p.val) 1).yardDown p.val 5) := by
  rw [exec_tag, execTag]
  simp only [← hu, hin, hftype, ← hw, henc, hok, htag, hcov, ne_eq, not_true, Bool.not_true, Bool.false_eq_true, if_false]

end

end

end

/-! ### Keys, channels and wakes (R268, R271, R273, R277) -/

/-- KEY_ROTATE in UP, on an encrypted link with a key in the other slot and no rotation under way, begins one with a REKEY. -/
theorem ownKeyRotate_begins (p slot : Nat) (s : State) (hslot : slot = 1 - s.reg (O.YARD_KEY_ACTIVE p)) (hnone : (s.yard p).rot = none)
    (hup : s.yardUp p = true) (henc : s.encrypts p = true) (hkey : (s.linkKey p slot).isSome = true) :
    ownKeyRotate p 1 s =
      (.okay, s.setYard p { s.yard p with
        rot := some { slot := slot, initiator := true }, ctl := (s.yard p).ctl ++ [0x02 * 2 ^ 120 + slot * 2 ^ 112] }) := by
  have hheld : (s.linkKey p slot).isNone = false := by rw [← Option.not_isSome, hkey, Bool.not_true]
  rw [ownKeyRotate, command_one]
  simp only [← hslot, hnone, hup, henc, hheld, Option.isSome_none, Bool.not_true, Bool.false_eq_true, or_self, if_false]

/-- A key of 32 bytes is stored in a slot that is not in use. -/
theorem ownLinkKey_stores (p slot : Nat) (img : List Byte) (s : State) (hlen : img.length = 32)
    (hfree : ¬ (s.encrypts p = true ∧ slot = s.reg (O.YARD_KEY_ACTIVE p))) :
    ownLinkKey p slot img 0 s = (.okay, s.setImage (O.YARD_LINK_KEY0 p + slot) img) := by
  rw [ownLinkKey, unscheduled_zero]
  exact if_neg (not_or.mpr ⟨not_not_intro hlen, hfree⟩)

/-- A channel configuration that nothing refuses is stored without its reserved bits, and granules are numbered anew. -/
theorem ownVcCfg_stores (p : Nat) (img : List Byte) (s : State) (hform : s.vcRefused p img = false) :
    ownVcCfg p img 0 s =
      (.okay, (s.setImage (O.YARD_VC_CFG p) ((List.range 8).flatMap fun v =>
        leBytes 2 (vcEntry img v).1 ++ leBytes 2 (vcEntry img v).2.1 ++ leBytes 1 (vcEntry img v).2.2.1 ++
          leBytes 1 ((vcEntry img v).2.2.2 % 4) ++ leBytes 2 0)).setYard p { s.yard p with vcs := [] }) := by
  simp only [ownVcCfg, unscheduled_zero, hform, Bool.false_eq_true, if_false]

/-- Sixty-four sound wake frames of this yard in a row wake a port that is DISABLED and whose shed is not on. -/
theorem exec_yardWake_wakes (s u : State) (t : Nat) (p : Fin 4) (frames : List (List Byte)) (good : List Byte → Bool)
    (hu : u = s.tickTo t) (hoff : u.reg (O.YARD_STATE p.val) = 0) (hen : u.isSet (O.YARD_WAKE_EN p.val) = true)
    (hshed : u.reg (O.SHED_STATE (quadStop p.val 22)) ≠ 3) (hmany : 64 ≤ frames.length)
    (hgood : good = (fun b => b.length == 42 && hcrcOk (scrambleTrain (bytesBits b)) && pcrcOk (scrambleTrain (bytesBits b)) &&
      frameField (scrambleTrain (bytesBits b)) 0 2 == 3 && frameField (scrambleTrain (bytesBits b)) 2 6 == 7 &&
      frameField (scrambleTrain (bytesBits b)) 16 16 == 0xE4B1 && frameField (scrambleTrain (bytesBits b)) 176 8 == u.reg O.ID_YARD_ID))
    (hall : (frames.drop (frames.length - 64)).all good = true) :
    exec (.yardWake t p frames) s = .next ((u.setFlag (O.YARD_WAKE_SEEN p.val) 0 (O.YARD_WAKE_COUNT p.val) 1).wakeAt (3 + p.val)) := by
  subst hgood
  rw [exec_yardWake, execYardWake, ← hu]
  exact congrArg _ (if_pos ⟨hoff, hen, hshed, hmany, hall⟩)

/-- Settles O56: frames are taken in sequence and then held or acted on; TAGs, rotations, commits and wakes have their own laws. -/
theorem yardMessageCommandsComplete : Obligations.YardMessageCommandsComplete := by
  refine ⟨exec_data_discards, ?_, ?_, ?_, ?_, ?_, ?_, ?_, ?_, ?_, ?_, ?_, ?_, ?_, ?_, ?_, exec_tag_plain, exec_tag_unsound,
    exec_tag_verifies, exec_tag_uncovered, exec_tag_fails, ?_, ?_, ?_, exec_yardWake_wakes⟩
  · rintro s u t p f rest w v z hu hin hftype hother hw hok hseq htag hv hdata hhalf rfl hplain
    rw [exec_data_acts s u t p f rest w hu hin hftype hother hw v _ hok hseq htag hv (granule_counted f v hdata hhalf) hplain,
      State.actFrame_first _ _ f hdata hhalf]
  · rintro s u t p f rest w v z hu hin hftype hother hw hok hseq htag hv hdata hhalf rfl henc
    rw [exec_data_holds s u t p f rest w hu hin hftype hother hw v _ hok hseq htag hv (granule_counted f v hdata hhalf) henc]
  · rintro s u t p f rest w v hu hin hftype hother hw hok hseq htag hv _ hhalf henc
    rw [exec_data_holds s u t p f rest w hu hin hftype hother hw v v hok hseq htag hv (granule_uncounted f v hhalf) henc]
  · rintro s u t p f rest w v a hu hin hftype hother hw hok hseq htag hv hdata hhalf hplain hfirst hlost
    rw [exec_data_acts s u t p f rest w hu hin hftype hother hw v v hok hseq htag hv (granule_uncounted f v hhalf) hplain,
      v.actFrame_second _ f hdata hhalf a hfirst hlost]
  · rintro s u t p f rest w v a hu hin hftype hother hw hok hseq htag hv hdata hhalf hplain hfirst hlost
    rw [exec_data_acts s u t p f rest w hu hin hftype hother hw v v hok hseq htag hv (granule_uncounted f v hhalf) hplain,
      v.actFrame_lost _ f hdata hhalf a hfirst hlost]
  · rintro s u t p f rest w v hu hin hftype hother hw hok hseq htag hv hdata hhalf hplain hfirst
    rw [exec_data_acts s u t p f rest w hu hin hftype hother hw v v hok hseq htag hv (granule_uncounted f v hhalf) hplain,
      v.actFrame_orphan _ f hdata hhalf hfirst]
  · rintro s u t p f rest w hu hin hcontrol hok hkind hw hseq
    rw [exec_credit, execCredit, ← hu, u.takeKind_discards _ _ f rest w hin hcontrol hok hkind hw hseq]
  · rintro s u t p f rest w v hu hin hcontrol hok hkind hw hseq htag hv henc
    rw [exec_credit, execCredit, ← hu, u.takeKind_holds _ _ f rest w hin hcontrol hok hkind hw v hseq htag hv henc]
  · rintro s u t p f rest w v hu hin hcontrol hok hkind hw hseq htag hv hplain
    rw [exec_credit, execCredit, ← hu, u.takeKind_acts _ _ f rest w hin hcontrol hok hkind hw v hseq htag hv hplain,
      v.actFrame_credit _ f hcontrol hkind]
  · rintro s u t p f rest w hu hin hcontrol hok hkind hw hseq
    rw [exec_rekey, execRekey, ← hu, u.takeKind_discards _ _ f rest w hin hcontrol hok hkind hw hseq]
  · rintro s u t p f rest w v hu hin hcontrol hok hkind hw hseq htag hv henc
    rw [exec_rekey, execRekey, ← hu, u.takeKind_holds _ _ f rest w hin hcontrol hok hkind hw v hseq htag hv henc]
  · rintro s u t p f rest w v hu hin hcontrol hok hkind hw hseq htag hv hplain
    rw [exec_rekey, execRekey, ← hu, u.takeKind_acts _ _ f rest w hin hcontrol hok hkind hw v hseq htag hv hplain,
      v.actFrame_rekey _ f hcontrol hkind]
  · rintro s u t p f rest w hu hin hcontrol hok hkind hw hseq
    rw [exec_rekeyAck, execRekeyAck, ← hu, u.takeKind_discards _ _ f rest w hin hcontrol hok hkind hw hseq]
  · rintro s u t p f rest w v hu hin hcontrol hok hkind hw hseq htag hv henc
    rw [exec_rekeyAck, execRekeyAck, ← hu, u.takeKind_holds _ _ f rest w hin hcontrol hok hkind hw v hseq htag hv henc]
  · rintro s u t p f rest w v hu hin hcontrol hok hkind hw hseq htag hv hplain
    rw [exec_rekeyAck, execRekeyAck, ← hu, u.takeKind_acts _ _ f rest w hin hcontrol hok hkind hw v hseq htag hv hplain,
      v.actFrame_rekeyAck _ f hcontrol hkind]
  · rintro s _ t r p slot rfl hw hslot hnone hup henc hkey
    rw [exec_keyRotate, execKeyRotate]
    exact congrArg _ (State.writeObj_okays _ _ _ _ _ _ hw (ownKeyRotate_begins _ slot _ hslot hnone hup henc hkey))
  · rintro s _ t r crc img p slot _ z rfl h hlen hfree rfl hz
    rw [exec_linkKeyCommit, execLinkKeyCommit]
    exact congrArg _ (State.commitObj_okays_at _ _ r _ crc z _ img _ h hz
      (ownLinkKey_stores _ _ img ((s.tickTo t).setXfer _ none) hlen hfree))
  · rintro s _ t r crc img p _ _ z rfl h rfl hform rfl hz
    rw [exec_vcCfgCommit, execVcCfgCommit]
    exact congrArg _ (State.commitObj_okays_at _ _ r _ crc z _ img _ h hz (ownVcCfg_stores _ img _ hform))

end Sys2Proof.Machine
end

section
/-! Ports of the fabric at an edge of their clock, the bindings of queue ports and the sources of probes, and the swaps of a Paddock. -/

namespace Sys2Proof.Machine

/-! ### Fabric lane ports (R300) -/

section
variable (s u : State) (t : Nat) (q : Fin 4) (i : Fin 64) (k : Nat) (x : FlPort) (hu : u = (s.tickTo t).fabricPre)
  (hk : k = 64 * q.val + i.val) (hx : x = u.flPort k)
include hu hk hx

/-- At an edge a lane port with room takes the word that logic presents. -/
theorem exec_fabricLaneWord_takes (v : FabricWord) (hword : u.laneInput q.val (flPlace i.val).1 (flPlace i.val).2 = some v)
    (hedge : u.tileEdgeNow q.val (flPlace i.val).1 (flPlace i.val).2 = true) (hroom : x.buf.length < 8) :
    exec (.fabricLaneWord t q i) s =
      .next (((u.setFlBuf k (x.buf ++ [(v, u.now / Config.wordUnits)]) x.movedAt).bump (O.FP_FL_WORDS q.val) 1).flMove k) := by
  rw [exec_fabricLaneWord, execFabricLaneWord]
  simp only [← hu, ← hk, ← hx, hword, hedge, hroom, and_self, if_true]

/-- Where no word is presented, or the port has no edge or no room, its buffer moves on and that is all. -/
theorem exec_fabricLaneWord_moves
    (h : u.laneInput q.val (flPlace i.val).1 (flPlace i.val).2 = none ∨
      u.tileEdgeNow q.val (flPlace i.val).1 (flPlace i.val).2 = false ∨ 8 ≤ x.buf.length) :
    exec (.fabricLaneWord t q i) s = .next (u.flMove k) := by
  rw [exec_fabricLaneWord, execFabricLaneWord]
  rcases h with hnone | hedge | hfull
  · simp only [← hu, ← hk, hnone]
  · simp only [← hu, ← hk, hedge, Bool.false_eq_true, false_and, if_false]
    split <;> rfl
  · simp only [← hu, ← hk, ← hx, Nat.not_lt_of_le hfull, and_false, if_false]
    split <;> rfl

end

/-! ### Receive ports (R302) -/

section
variable (s u : State) (t : Nat) (ch : Fin 144) (hu : u = (s.tickTo t).fabricPre)
include hu

section
variable (e : Nat × Nat) (rest : List (Nat × Nat)) (w : State) (hwords : (u.ser ch.val).rxWords = e :: rest)
  (hw : w = u.setSer ch.val { u.ser ch.val with rxWords := rest })
include hwords hw

/-- The oldest word of a receiver comes to its port where fewer than 16 wait. -/
theorem exec_receivePortWord_comes (hroom : (Tbl.get [] u.rxBuf ch.val).length < 16) :
    exec (.receivePortWord t ch) s =
      .next { w with rxBuf := Tbl.set [] w.rxBuf ch.val (Tbl.get [] u.rxBuf ch.val ++ [e]) } := by
  rw [exec_receivePortWord, execReceivePortWord]
  simp only [← hu, hwords, ← hw, Nat.not_le_of_lt hroom, if_false]

/-- Otherwise it is dropped. -/
theorem exec_receivePortWord_drops (hfull : 16 ≤ (Tbl.get [] u.rxBuf ch.val).length) :
    exec (.receivePortWord t ch) s =
      .next ((w.bump (O.FP_RXP_DROPS (ch.val / 36)) 1).setFlag (O.FP_RXP_DROPPED (ch.val / 36)) 0
        (O.FP_RXP_DROPPED_COUNT (ch.val / 36)) 1) := by
  rw [exec_receivePortWord, execReceivePortWord]
  simp only [← hu, hwords, ← hw, hfull, if_true]

end

/-- A receiver without a word leaves its port as it is. -/
theorem exec_receivePortWord_idle (hnone : (u.ser ch.val).rxWords = []) : exec (.receivePortWord t ch) s = .next u := by
  rw [exec_receivePortWord, execReceivePortWord]
  simp only [← hu, hnone]

end

/-! ### Queue ports (R303, R304) -/

section
variable (s u : State) (t : Nat) (q : Fin 4) (k : Fin 2) (hu : u = (s.tickTo t).fabricPre)
include hu

section
variable (n r b : Nat) (w : State) (hn : n = 2 * q.val + k.val) (hr : r = 156 + 9 * k.val) (hb : b = u.boundTo false q.val k.val)
  (hedge : u.tileEdgeNow q.val 48 r = true) (hready : (u.qport n).ready u.now = true) (hvalid : u.portIn q.val 48 r 256 1 ≠ 0)
  (hw : w = (u.bump (O.FP_QP_OFFERS q.val) 1).qportBusy n none)
include hn hr hb hedge hready hvalid hw

/-- An offer at a port bound to no queue ends at once with DECODE. -/
theorem exec_queuePortOffer_unbound (hunbound : b = 0xFFFF) :
    exec (.queuePortOffer t q k) s =
      .next ((w.setQport n { w.qport n with offers := (w.qport n).offers ++ [some Status.decode] }).bump (O.FP_QP_NOT_OK q.val) 1) := by
  rw [exec_queuePortOffer, execQueuePortOffer]
  simp only [← hu, ← hn, ← hr, ← hb, hedge, hready, hvalid, Bool.not_true, Bool.false_eq_true, or_self, if_false, ← hw, if_pos hunbound]

/-- At a bound one PGRAN is offered to the queue, and the port waits for its status. -/
theorem exec_queuePortOffer_offers (hbound : b ≠ 0xFFFF) :
    exec (.queuePortOffer t q k) s =
      .next ((w.setQport n { w.qport n with offers := (w.qport n).offers ++ [none] }).offer b (Producer.fabric.who n)
        (leBytes 32 (u.portIn q.val 48 r 0 256))) := by
  rw [exec_queuePortOffer, execQueuePortOffer]
  simp only [← hu, ← hn, ← hr, ← hb, hedge, hready, hvalid, Bool.not_true, Bool.false_eq_true, or_self, if_false, ← hw, if_neg hbound]

end

/-- Without an edge, PREADY or PVALID nothing is offered. -/
theorem exec_queuePortOffer_idle
    (h : u.tileEdgeNow q.val 48 (156 + 9 * k.val) = false ∨ (u.qport (2 * q.val + k.val)).ready u.now = false ∨
      u.portIn q.val 48 (156 + 9 * k.val) 256 1 = 0) :
    exec (.queuePortOffer t q k) s = .next u := by
  rw [exec_queuePortOffer, execQueuePortOffer, ← hu]
  simp only [Bool.not_eq_true', if_pos h]

/-- At an edge with CTAKE a port takes the granule that its queue presents, and the reply shows it. -/
theorem exec_queuePortTake_takes (n r b : Nat) (g : List Byte) (hn : n = 8 + 2 * q.val + k.val) (hr : r = 156 + 9 * k.val)
    (hb : b = u.boundTo true q.val k.val) (hedge : u.tileEdgeNow q.val 48 r = true) (htake : u.portIn q.val 48 r 257 1 ≠ 0)
    (hgran : u.presented n b u.now = some g) :
    exec (.queuePortTake t q k) s =
      .next { ((((u.qportBusy n (some g)).consume b 1).queueMoved b).bump (O.FP_QC_TAKEN q.val) 1) with reply := ⟨.okay, g⟩ } := by
  rw [exec_queuePortTake, execQueuePortTake]
  simp only [← hu, ← hn, ← hr, ← hb, hedge, htake, Bool.not_true, Bool.false_eq_true, or_self, if_false, hgran]

/-- Without an edge, CTAKE or a granule nothing is taken. -/
theorem exec_queuePortTake_idle
    (h : u.tileEdgeNow q.val 48 (156 + 9 * k.val) = false ∨ u.portIn q.val 48 (156 + 9 * k.val) 257 1 = 0 ∨
      u.presented (8 + 2 * q.val + k.val) (u.boundTo true q.val k.val) u.now = none) :
    exec (.queuePortTake t q k) s = .next u := by
  rw [exec_queuePortTake, execQueuePortTake]
  rcases h with hedge | htake | hgran
  · simp only [← hu, hedge, Bool.not_false, true_or, if_true]
  · simp only [← hu, htake, or_true, if_true]
  · simp only [← hu, hgran, ite_self]

end

/-! ### Bindings, sources and delays (R303 to R306) -/

/-- A producer port without an outstanding offer is bound to a queue that exists, or to none. -/
theorem ownProducerBind_binds (q k v : Nat) (s : State) (hnone : (s.qport (2 * q + k)).offers.any (·.isNone) = false)
    (hv : v < 0x8000 ∨ v = 0xFFFF) :
    ownProducerBind q k v s = (.okay, (s.setReg (qportObj false q k) v).deisolate (quadStop q 19) (2 ^ k)) := by
  have hallowed : ¬ (0x8000 ≤ v ∧ v ≠ 0xFFFF) := by omega
  simp only [ownProducerBind, hnone, hallowed, Bool.false_eq_true, or_self, if_false]

/-- A consumer port is bound to a queue that nothing else empties. -/
theorem ownConsumerBind_binds (q k v : Nat) (s : State) (hv : v < 0x8000) (hkind : (s.queue v).ckind = 0)
    (hother : s.otherConsumer q k v = false) (hyard : s.yardConsumes v = false) :
    ownConsumerBind q k v s = (.okay, (s.setReg (qportObj true q k) v).deisolate (quadStop q 19) (4 * 2 ^ k)) := by
  have hnamed : v ≠ 0xFFFF := by omega
  simp only [ownConsumerBind, hnamed, Nat.not_le_of_lt hv, hkind, hother, hyard, ne_eq, not_true, Bool.false_eq_true, or_self, if_false]

/-- Or to none. -/
theorem ownConsumerBind_unbinds (q k : Nat) (s : State) :
    ownConsumerBind q k 0xFFFF s = (.okay, s.setReg (qportObj true q k) 0xFFFF) := if_pos rfl

/-- An index within its class names a source (*Table 10.12*). -/
theorem sourceOk_of_index_le (v : Nat) (hclass : v / 2 ^ 12 ≤ 5) (h0 : v / 2 ^ 12 = 0 → v % 2 ^ 12 = 0)
    (h1 : v / 2 ^ 12 = 1 → v % 2 ^ 12 ≤ 255) (h2 : v / 2 ^ 12 = 2 → v % 2 ^ 12 ≤ 287) (h3 : v / 2 ^ 12 = 3 → v % 2 ^ 12 ≤ 511)
    (h4 : v / 2 ^ 12 = 4 → v % 2 ^ 12 ≤ 7) (h5 : v / 2 ^ 12 = 5 → v % 2 ^ 12 ≤ 2) : sourceOk v = true := by
  unfold sourceOk
  split
  next h => exact decide_eq_true (h0 h)
  next h => exact decide_eq_true (h1 h)
  next h => exact decide_eq_true (h2 h)
  next h => exact decide_eq_true (h3 h)
  next h => exact decide_eq_true (h4 h)
  next h => exact decide_eq_true (h5 h)
  next =>
    simp only [imp_false] at *
    omega

/-- SOURCE stores a value that names a source. -/
theorem ownSource_stores (p v : Nat) (s : State) (h : sourceOk v = true) : ownSource p v s = (.okay, s.setReg (O.PROBE_SOURCE p) v) :=
  if_pos h

/-! ### Swaps of a Paddock (R327, R328) -/

section
variable (s u : State) (t : Nat) (p : Fin 24) (a : Sched) (hu : u = s.tickTo t)
include hu

section
variable (hsched : u.sched .swap p.val = some a) (hdue : u.due .swap p.val a = true)
include hsched hdue

/-- A swap that is due exchanges the planes at its edge e, and holds the border outputs as they were before it. -/
theorem exec_paddockSwap_swaps (hclock : u.domainRunning (356 + p.val) = true) (hshed : u.shedOn (padShed p.val) = true) (e : Nat)
    (b w v z : State) (he : e = u.effectAt .swap p.val a) (hb : b = u.fabricTo (e - 1))
    (hw : w = (b.swapFfs p.val ((((b.fabricTo e).endAction .swap p.val 1).abortAudit p.val).exchange p.val)).swapMacs p.val)
    (hv : v = (padMems p.val).foldl (fun (s : State) m => if (s.memCfg m).testBit 46 then s else s.reloadMem m) w)
    (hz : z = (((((v.setReg (O.PAD_LIVE_ID p.val) (v.reg (O.PAD_SHADOW_ID p.val))).setReg (O.PAD_SHADOW_ID p.val)
      (v.reg (O.PAD_LIVE_ID p.val))).bump (O.PAD_SWAPS p.val) 1).setReg (O.PAD_SWAP_STATUS p.val) Status.okay.code).setReg
        (O.PAD_LAST_SWAP_TT p.val) (v.ttOf e))) :
    exec (.paddockSwap t p) s =
      .next (z.setPad p.val { z.pad p.val with
        holdUntil := e + cycleUnits (z.regionalKhz p.val) (z.reg (O.PAD_HOLD_CYCLES p.val)), border := b.borderOnes p.val }) := by
  rw [exec_paddockSwap, execPaddockSwap]
  simp only [← hu, hsched, hdue, hclock, hshed, Bool.not_true, Bool.or_self, Bool.false_eq_true, if_false, ← he, ← hb, ← hw, ← hv, ← hz]

/-- It is refused where the regional clock or the shed of the Paddock is off. -/
theorem exec_paddockSwap_refused (hoff : u.domainRunning (356 + p.val) = false ∨ u.shedOn (padShed p.val) = false) :
    exec (.paddockSwap t p) s = .next ((u.endAction .swap p.val 2).setReg (O.PAD_SWAP_STATUS p.val) Status.refused.code) := by
  have hstopped : (!u.domainRunning (356 + p.val) || !u.shedOn (padShed p.val)) = true := by
    simpa only [Bool.or_eq_true, Bool.not_eq_true'] using hoff
  rw [exec_paddockSwap, execPaddockSwap]
  simp only [← hu, hsched, hdue, hstopped, Bool.not_true, Bool.false_eq_true, if_false, if_true]

end

/-- Once the hold is over the border outputs show the new logic. -/
theorem exec_holdEnd_releases (w : State) (hheld : (u.pad p.val).holdUntil ≠ 0) (hover : (u.pad p.val).holdUntil ≤ u.now)
    (hw : w = u.fabricTo (u.pad p.val).holdUntil) :
    exec (.holdEnd t p) s = .next (w.setPad p.val { w.pad p.val with holdUntil := 0, border := [] }) := by
  rw [exec_holdEnd, execHoldEnd]
  simp only [← hu, hheld, hover, ne_eq, not_false_eq_true, and_self, if_true, ← hw]

end

/-- Settles O57: a port acts by what it finds at its edge, bindings and sources are what their owners do, and a swap is performed or refused. -/
theorem fabricPortCommandsComplete : Obligations.FabricPortCommandsComplete := by
  refine ⟨?_, exec_fabricLaneWord_moves, ?_, ?_, exec_receivePortWord_idle, ?_, ?_, exec_queuePortOffer_idle, ?_,
    exec_queuePortTake_idle, ?_, ?_, ?_, ?_, ?_, ?_, ?_, exec_paddockSwap_refused, ?_⟩
  · exact fun s u t q i k x v hu hk hx => exec_fabricLaneWord_takes s u t q i k x hu hk hx v
  · exact fun s u t ch e rest w hu => exec_receivePortWord_comes s u t ch hu e rest w
  · exact fun s u t ch e rest w hu => exec_receivePortWord_drops s u t ch hu e rest w
  · exact fun s u t q k n r b w hu => exec_queuePortOffer_unbound s u t q k hu n r b w
  · exact fun s u t q k n r b w hu => exec_queuePortOffer_offers s u t q k hu n r b w
  · exact fun s u t q k n r b g hu => exec_queuePortTake_takes s u t q k hu n r b g
  · rintro s _ t r q k v rfl hw hnone hv
    rw [exec_queuePortBind, execQueuePortBind]
    exact congrArg _ (State.writeObj_okays _ _ _ _ _ _ hw (ownProducerBind_binds _ _ v _ hnone hv))
  · rintro s _ t r q k v rfl hw hv hkind hother hyard
    rw [exec_queuePortBind, execQueuePortBind]
    exact congrArg _ (State.writeObj_okays _ _ _ _ _ _ hw (ownConsumerBind_binds _ _ v _ hv hkind hother hyard))
  · rintro s _ t r q k rfl hw
    rw [exec_queuePortBind, execQueuePortBind]
    exact congrArg _ (State.writeObj_okays _ _ _ _ _ _ hw (ownConsumerBind_unbinds _ _ _))
  · rintro s _ t r p v rfl hw hclass h0 h1 h2 h3 h4 h5
    rw [exec_source, execSource]
    exact congrArg _ (State.writeObj_okays _ _ _ _ _ _ hw (ownSource_stores _ v _ (sourceOk_of_index_le v hclass h0 h1 h2 h3 h4 h5)))
  · rintro s _ t r g v rfl hw
    rw [exec_idelay, execIdelay]
    exact congrArg _ (State.writeObj_okays _ _ _ _ _ _ hw rfl)
  · rintro s u t m upsets _ _ _ w hu hw rfl rfl rfl
    rw [exec_blockMemoryAccess, execBlockMemoryAccess]
    simp only [← hu, ← hw]
  · exact fun s u t p a e b w v z hu hsched hdue hclock hshed =>
      exec_paddockSwap_swaps s u t p a hu hsched hdue hclock hshed e b w v z
  · exact fun s u t p w hu => exec_holdEnd_releases s u t p hu w

end Sys2Proof.Machine
end

section
/-! Compressed frames of a configuration stream. -/

namespace Sys2Proof.Machine

/-! ### Compressed frames (R316) -/

/-- One place of a compressed frame as it is expanded: the next literal where its mask bit is set, and 0 elsewhere. -/
def zPlace (p : Nat → Bool) (acc : List Nat × List Nat) (i : Nat) : List Nat × List Nat :=
  if p i then (acc.2.headD 0 :: acc.1, acc.2.drop 1) else (0 :: acc.1, acc.2)

/-- The expansion of a compressed frame goes through its places in order. -/
theorem zFrame_eq_foldl (masks lits : List Nat) :
    zFrame masks lits =
      ((List.range 80).foldl (zPlace fun i => (masks.getD (i / 32) 0).testBit (i % 32)) ([], lits)).1.reverse := rfl

/-- Places expanded from the values of the marked ones in order hold those values, and 0 where unmarked; literals beyond them stay. -/
theorem foldl_zPlace_marked (p : Nat → Bool) (f : Nat → Nat) (places done rest : List Nat) :
    places.foldl (zPlace p) (done, (places.filter p).map f ++ rest) =
      ((places.map fun i => if p i then f i else 0).reverse ++ done, rest) := by
  induction places generalizing done with
  | nil => rfl
  | cons i is ih =>
    by_cases hi : p i = true
    · have hplace : zPlace p (done, ((i :: is).filter p).map f ++ rest) i = (f i :: done, (is.filter p).map f ++ rest) := by
        simp [zPlace, hi]
      rw [List.foldl_cons, hplace, ih]
      simp [hi]
    · have hplace : zPlace p (done, ((i :: is).filter p).map f ++ rest) i = (0 :: done, (is.filter p).map f ++ rest) := by
        simp [zPlace, hi]
      rw [List.foldl_cons, hplace, ih]
      simp [hi]

/-- A list is its entries, read in order. -/
theorem map_range_getD (l : List Nat) : (List.range l.length).map (fun i => l.getD i 0) = l := by
  refine List.ext_getElem (by simp) fun i _ hi => ?_
  simp [List.getElem?_eq_getElem hi]

/-- Settles O23: expansion puts each marked word back in its place, and an unmarked word is 0. -/
theorem compressedFramesExpand : Obligations.CompressedFramesExpand := by
  intro frame masks hlen hzero
  refine ⟨?_, congrArg (3 + ·) List.countP_eq_length_filter⟩
  have hplace : ∀ i ∈ List.range 80,
      (if (masks.getD (i / 32) 0).testBit (i % 32) then frame.getD i 0 else 0) = frame.getD i 0 := by
    intro i hi
    split
    next => rfl
    next hclear => exact (hzero i (List.mem_range.mp hi) (Bool.eq_false_iff.mpr hclear)).symm
  rw [zFrame_eq_foldl, ← List.append_nil (List.map _ _), foldl_zPlace_marked, List.append_nil, List.reverse_reverse,
    List.map_congr_left hplace, ← hlen, map_range_getD]

end Sys2Proof.Machine
end

section
/-! The steps of the start-up program: what each does once its turn has come. -/

namespace Sys2Proof.Machine

/-! ### Steps (R320 to R322) -/

section
variable (s u : State) (t a : Nat) (hu : u = s.tickTo t)
include hu

/-- A WAIT_LOCK whose conditions hold completes. -/
theorem exec_waitLock_holds (hstep : u.startStep 1 = some a) (hlocks : u.locksHold a = true) :
    exec (.waitLock t) s = .next u.startDone := by
  rw [exec_waitLock, execWaitLock]
  simp only [← hu, hstep, hlocks, if_true]

/-- One whose conditions do not hold within its limit ends the program with TIMEOUT, and CFG_ERR_N goes low. -/
theorem exec_waitLockTimeout_late (hstep : u.startStep 1 = some a) (hlimit : a / 256 ≠ 0) (hlocks : u.locksHold a = false)
    (hlate : u.cfg.stepAt + a / 256 * Config.usUnits ≤ u.now) :
    exec (.waitLockTimeout t) s =
      .next (((u.setReg O.CFG_STARTUP_STATUS Status.timeout.code).setReg O.CFG_CFG_STATE 5).setCfg { u.cfg with errLow := true }) := by
  rw [exec_waitLockTimeout, execWaitLockTimeout]
  simp only [← hu, hstep, hlimit, hlocks, Nat.not_lt_of_le hlate, Bool.false_eq_true, or_self, if_false]

/-- A WAIT_TIME completes once its time has passed. -/
theorem exec_waitTime_over (hstep : u.startStep 2 = some a) (hover : u.cfg.stepAt + a * Config.usUnits ≤ u.now) :
    exec (.waitTime t) s = .next u.startDone := by
  rw [exec_waitTime, execWaitTime]
  simp only [← hu, hstep, hover, if_true]

/-- RELEASE_GSR ends the global set/reset of the quadrants it names. -/
theorem exec_releaseGsr_releases (hstep : u.startStep 3 = some a) :
    exec (.releaseGsr t) s = .next (u.fabricNow.release a).startDone := by
  rw [exec_releaseGsr, execReleaseGsr]
  simp only [← hu, hstep]

/-- ENABLE_WRITES releases the write enables it names. -/
theorem exec_enableWrites_releases (hstep : u.startStep 4 = some a) :
    exec (.enableWrites t) s = .next (u.release (a * 16)).startDone := by
  rw [exec_enableWrites, execEnableWrites]
  simp only [← hu, hstep]

/-- RELEASE_GPIO releases the pads it names. -/
theorem exec_releaseGpio_releases (hstep : u.startStep 5 = some a) :
    exec (.releaseGpio t) s = .next (u.release (a * 256)).startDone := by
  rw [exec_releaseGpio, execReleaseGpio]
  simp only [← hu, hstep]

/-- RELEASE_OUTPUTS ends the start-up holds of the channels, then those of the triggers, as its mask names them. -/
theorem exec_releaseOutputs_releases (hstep : u.startStep 6 = some a) :
    exec (.releaseOutputs t) s =
      .next (((if a.testBit 1 then (List.range 16).foldl (fun (s : State) n => s.holdTrig n 0 false)
          (if a.testBit 0 then (List.range 144).foldl (fun (s : State) ch => s.holdPad ch 0 false) u else u)
        else (if a.testBit 0 then (List.range 144).foldl (fun (s : State) ch => s.holdPad ch 0 false) u else u)).release
          (a * 4096)).startDone) := by
  rw [exec_releaseOutputs, execReleaseOutputs]
  simp only [← hu, hstep]

/-- START_MC counts the controllers' time, and then starts A and B as its mask names them. -/
theorem exec_startMc_starts (hstep : u.startStep 7 = some a) :
    exec (.startMc t) s =
      .next ((if a.testBit 1 then (if a.testBit 0 then u.countMc.startMc .a else u.countMc).startMc .b
        else if a.testBit 0 then u.countMc.startMc .a else u.countMc).startDone) := by
  rw [exec_startMc, execStartMc]
  simp only [← hu, hstep]

/-- DONE releases CFG_DONE. -/
theorem exec_doneStep_releases (hstep : u.startStep 8 = some a) :
    exec (.doneStep t) s =
      .next { (u.release (2 ^ 16)).startDone with cfg := { u.startDone.cfg with done := true } } := by
  rw [exec_doneStep, execDoneStep]
  simp only [← hu, hstep]

/-- END ends the program, and the device is Active. -/
theorem exec_endStep_ends (hstep : u.startStep 0 = some a) :
    exec (.endStep t) s =
      .next (((u.setReg O.DEV_DEVICE_STATE 1).setReg O.CFG_CFG_STATE 4).setReg O.CFG_STARTUP_STEP u.cfg.step) := by
  rw [exec_endStep, execEndStep]
  simp only [← hu, hstep]

end

/-- Settles O37: each clause is its step's law; those of START_MC read it at the mask they name. -/
theorem startupStepsComplete : Obligations.StartupStepsComplete := by
  refine ⟨exec_waitLock_holds, exec_waitLockTimeout_late, exec_waitTime_over, exec_releaseGsr_releases, exec_enableWrites_releases,
    exec_releaseGpio_releases, exec_releaseOutputs_releases, ?_, ?_, ?_, exec_doneStep_releases, exec_endStep_ends⟩
  all_goals
    intro s u t a hu hstep hfirst hsecond
    rw [exec_startMc_starts s u t a hu hstep]
    simp only [hfirst, hsecond, Bool.false_eq_true, if_true, if_false]

end Sys2Proof.Machine
end

section
/-! The configuration port: the words it finds at its edges, and what each packet of a full stream leaves of the loader. -/

namespace Sys2Proof.Machine

/-! ### Edges of the port (R309, R312) -/

/-- A port that takes words in one state takes none in another. -/
theorem State.portTakes_ne {u : State} {a b : Nat} (h : u.portTakes a = true) (hab : a ≠ b) : u.portTakes b = false := by
  simp only [State.portTakes, Bool.and_eq_true, beq_iff_eq] at h
  simp [State.portTakes, h.1, hab]

section
variable (u : State) (hsearch : u.portTakes 1 = true)
include hsearch

/-- While SYNC is sought in parallel mode a word is tested. -/
theorem State.portEdge_search_word (hmode : u.reg O.CFG_CFG_MODE = 1) (d : BitVec 32) :
    u.portEdge ⟨false, d⟩ = if d.toNat = syncWord then u.syncFound else u := by
  simp only [State.portEdge, hsearch, hmode, Bool.false_eq_true, if_false, if_true, Nat.reduceBEq]

/-- In serial mode the last eight nibbles are. -/
theorem State.portEdge_search_nibble (hmode : u.reg O.CFG_CFG_MODE = 0) (d : BitVec 32) :
    u.portEdge ⟨false, d⟩ =
      if nibWord ((d.toNat % 16 :: u.cfg.nibs).take 8) = syncWord then u.syncFound
      else u.setCfg { u.cfg with nibs := (d.toNat % 16 :: u.cfg.nibs).take 8 } := by
  simp only [State.portEdge, hsearch, hmode, Bool.false_eq_true, if_false, if_true, beq_self_eq_true]

end

section
variable (u : State) (htakes : u.portTakes 2 = true)
include htakes

/-- In a stream in progress the loader takes each word of a parallel port. -/
theorem State.portEdge_word (hmode : u.reg O.CFG_CFG_MODE = 1) (w : BitVec 32) : u.portEdge ⟨false, w⟩ = u.portWord w.toNat := by
  simp only [State.portEdge, htakes, State.portTakes_ne htakes (show 2 ≠ 1 by decide), hmode, Bool.false_eq_true, if_false, if_true,
    Nat.reduceBEq]

/-- A nibble short of a word waits. -/
theorem State.portEdge_nibble_waits (hmode : u.reg O.CFG_CFG_MODE = 0) (hshort : u.cfg.nibs.length < 7) (e : BitVec 32) :
    u.portEdge ⟨false, e⟩ = u.setCfg { u.cfg with nibs := e.toNat % 16 :: u.cfg.nibs } := by
  have hlen : (e.toNat % 16 :: u.cfg.nibs).length < 8 := Nat.succ_lt_succ hshort
  simp only [State.portEdge, htakes, State.portTakes_ne htakes (show 2 ≠ 1 by decide), hmode, hlen, Bool.false_eq_true, if_false, if_true,
    beq_self_eq_true]

/-- The eighth nibble makes a word. -/
theorem State.portEdge_nibble_word (hmode : u.reg O.CFG_CFG_MODE = 0) (hseven : u.cfg.nibs.length = 7) (e : BitVec 32) :
    u.portEdge ⟨false, e⟩ = (u.setCfg { u.cfg with nibs := [] }).portWord (nibWord (e.toNat % 16 :: u.cfg.nibs)) := by
  have hlen : ¬ (e.toNat % 16 :: u.cfg.nibs).length < 8 := by simp [hseven]
  simp only [State.portEdge, htakes, State.portTakes_ne htakes (show 2 ≠ 1 by decide), hmode, hlen, Bool.false_eq_true, if_false, if_true,
    beq_self_eq_true]

end

/-- SYNC passes its edges through the port while it is sought. -/
theorem exec_sync_searches (s u : State) (t : Nat) (bus : List PortEdge) (hu : u = s.tickTo t) (hsearch : u.portTakes 1 = true) :
    exec (.sync t bus) s = .next (bus.foldl State.portEdge u) := by
  rw [exec_sync, execSync, ← hu]
  exact congrArg _ (if_pos hsearch)

/-- A single edge is the port's edge. -/
theorem exec_sync_edge (s u : State) (t : Nat) (e : PortEdge) (hu : u = s.tickTo t) (hsearch : u.portTakes 1 = true) :
    exec (.sync t [e]) s = .next (u.portEdge e) := exec_sync_searches s u t [e] hu hsearch

/-! ### Words at the port (R311, R318) -/

/-- The port with a loader in place of its own. -/
def State.withLoader (s : State) (d : Loader) : State := s.setCfg { s.cfg with loader := d }

section
variable (u x : State) (w : Nat)

/-- A word that the loader takes moves it on. -/
theorem State.portWord_on (d : Loader) (h : u.takeWord none u.cfg.loader w = .on d x) (hopen : d.sealed = false) :
    u.portWord w = x.withLoader d := by
  simp only [State.portWord, h, hopen, Bool.false_eq_true, if_false, State.withLoader]

/-- The word of a SEAL ends the stream. -/
theorem State.portWord_sealed (d : Loader) (h : u.takeWord none u.cfg.loader w = .on d x) (hsealed : d.sealed = true) :
    u.portWord w = x.sealFull d := by
  simp only [State.portWord, h, hsealed, if_true]

/-- A word in error ends it too. -/
theorem State.portWord_err (cause addr : Nat) (h : u.takeWord none u.cfg.loader w = .err cause addr x) :
    u.portWord w = x.fullError cause addr (u.cfg.loader.words + 1) := by
  simp only [State.portWord, h]

end

/-! ### The packet that edges go on with -/

section
variable (u : State)

/-- Edges go on with the packet in progress. -/
theorem State.busCmd_inProgress (bus : List PortEdge) (hleft : u.cfg.loader.left ≠ 0) : u.busCmd bus = some u.cfg.loader.cmd := by
  simp only [State.busCmd, if_pos hleft]

/-- Where none is, a word begins the one it names. -/
theorem State.busCmd_word (hmode : u.reg O.CFG_CFG_MODE = 1) (w : BitVec 32) (rest : List PortEdge) :
    u.busCmd (⟨false, w⟩ :: rest) = some (if u.cfg.loader.left = 0 then w.toNat / 2 ^ 24 else u.cfg.loader.cmd) := by
  by_cases hleft : u.cfg.loader.left = 0
  · simp [State.busCmd, hleft, hmode]
  · rw [u.busCmd_inProgress _ hleft, if_neg hleft]

section
variable (hmode : u.reg O.CFG_CFG_MODE = 0) (hleft : u.cfg.loader.left = 0)
include hmode hleft

/-- A nibble short of a word begins none yet. -/
theorem State.busCmd_nibble_waits (hshort : u.cfg.nibs.length < 7) (e : BitVec 32) : u.busCmd [⟨false, e⟩] = none := by
  have hlen : u.cfg.nibs.length + 1 < 8 := Nat.succ_lt_succ hshort
  simp [State.busCmd, hleft, hmode, hlen]

/-- The eighth nibble makes the word that begins it. -/
theorem State.busCmd_nibble_word (hseven : u.cfg.nibs.length = 7) (e : BitVec 32) :
    u.busCmd [⟨false, e⟩] = some (nibWord (e.toNat % 16 :: u.cfg.nibs) / 2 ^ 24) := by
  have hlen : (u.cfg.nibs.reverse ++ [e.toNat % 16]).length = 8 := by simp [hseven]
  have hnibs : ((u.cfg.nibs.reverse ++ [e.toNat % 16]).take 8).reverse = e.toNat % 16 :: u.cfg.nibs := by
    rw [List.take_of_length_le hlen.le, List.reverse_append, List.reverse_reverse, List.reverse_singleton, List.singleton_append]
  simp only [State.busCmd, hleft, hmode, ne_eq, not_true, if_false, if_true, List.filterMap_cons, List.filterMap_nil, List.map_cons,
    List.map_nil, Bool.false_eq_true, hlen, Nat.lt_irrefl, hnibs]

end

end

/-! ### Packet rows -/

/-- A command of a packet row, and the packet command it stands for. -/
def PacketRow (t : Nat) (bus : List PortEdge) (i : Instr) (n : Nat) : Prop :=
  (i = .header t bus ∧ (n = 1 ∨ n = 9 ∨ 10 < n)) ∨ (i = .locate t bus ∧ n = 2) ∨ (i = .writeFrames t bus ∧ n = 3) ∨
    (i = .repeat t bus ∧ n = 4) ∨ (i = .zwrite t bus ∧ n = 5) ∨ (i = .crc t bus ∧ n = 6) ∨ (i = .startup t bus ∧ n = 7) ∨
    (i = .fwload t bus ∧ n = 8) ∨ (i = .seal t bus ∧ n = 10) ∨ (i = .nop t bus ∧ n = 0)

/-- Every packet row runs its edges through the port for the commands it names. -/
theorem PacketRow.exec_eq {t n : Nat} {bus : List PortEdge} {i : Instr} (h : PacketRow t bus i n) (s : State) :
    ∃ f : Nat → Bool, f n = true ∧ exec i s = .next ((s.tickTo t).portRun f bus) := by
  rcases h with ⟨rfl, hn⟩ | ⟨rfl, rfl⟩ | ⟨rfl, rfl⟩ | ⟨rfl, rfl⟩ | ⟨rfl, rfl⟩ | ⟨rfl, rfl⟩ | ⟨rfl, rfl⟩ | ⟨rfl, rfl⟩ |
    ⟨rfl, rfl⟩ | ⟨rfl, rfl⟩
  · exact ⟨fun c => c == 1 || c == 9 || decide (10 < c), by simpa [or_assoc] using hn, exec_header ..⟩
  · exact ⟨_, rfl, exec_locate ..⟩
  · exact ⟨_, rfl, exec_writeFrames ..⟩
  · exact ⟨_, rfl, exec_repeat ..⟩
  · exact ⟨_, rfl, exec_zwrite ..⟩
  · exact ⟨_, rfl, exec_crc ..⟩
  · exact ⟨_, rfl, exec_startup ..⟩
  · exact ⟨_, rfl, exec_fwload ..⟩
  · exact ⟨_, rfl, exec_seal ..⟩
  · exact ⟨_, rfl, exec_nop ..⟩

section
variable (s u : State) (t n : Nat) (bus : List PortEdge) (i : Instr) (hu : u = s.tickTo t) (hrow : PacketRow t bus i n)
  (htakes : u.portTakes 2 = true)
include hu hrow htakes

/-- The edges of a packet row whose packet is the one in progress, or the one that they bring, go through the port. -/
theorem exec_packetRow (hcmd : ∀ c, u.busCmd bus = some c → c = n) : exec i s = .next (bus.foldl State.portEdge u) := by
  obtain ⟨f, hf, hexec⟩ := hrow.exec_eq s
  have hall : (u.busCmd bus).all f = true := by
    rw [Option.all_eq_true]
    intro c hc
    rwa [hcmd c hc]
  rw [hexec, ← hu, State.portRun, if_pos ⟨htakes, hall⟩]

/-- A run of words at a parallel port begins with the first. -/
theorem exec_packetRow_word (hmode : u.reg O.CFG_CFG_MODE = 1) (w : BitVec 32) (rest : List PortEdge) (hbus : bus = ⟨false, w⟩ :: rest)
    (hcmd : (if u.cfg.loader.left = 0 then w.toNat / 2 ^ 24 else u.cfg.loader.cmd) = n) :
    exec i s = .next (rest.foldl State.portEdge (u.portWord w.toNat)) := by
  rw [exec_packetRow s u t n bus i hu hrow htakes, hbus, List.foldl_cons, u.portEdge_word htakes hmode]
  intro c hc
  rw [hbus, u.busCmd_word hmode, hcmd, Option.some_inj] at hc
  exact hc.symm

/-- An edge that brings a nibble of a word in progress, or of the packet in progress. -/
theorem exec_packetRow_nibble (hmode : u.reg O.CFG_CFG_MODE = 0) (e : BitVec 32) (hbus : bus = [⟨false, e⟩])
    (hshort : u.cfg.nibs.length < 7) (hcmd : u.cfg.loader.left = 0 ∨ u.cfg.loader.cmd = n) :
    exec i s = .next (u.setCfg { u.cfg with nibs := e.toNat % 16 :: u.cfg.nibs }) := by
  rw [exec_packetRow s u t n bus i hu hrow htakes, hbus, List.foldl_cons, List.foldl_nil, u.portEdge_nibble_waits htakes hmode hshort]
  intro c hc
  rw [hbus] at hc
  by_cases hleft : u.cfg.loader.left = 0
  · rw [u.busCmd_nibble_waits hmode hleft hshort] at hc
    cases hc
  · rw [u.busCmd_inProgress _ hleft, hcmd.resolve_left hleft, Option.some_inj] at hc
    exact hc.symm

/-- An edge that brings the last nibble of a word. -/
theorem exec_packetRow_lastNibble (hmode : u.reg O.CFG_CFG_MODE = 0) (e : BitVec 32) (hbus : bus = [⟨false, e⟩])
    (hseven : u.cfg.nibs.length = 7) (w : Nat) (hw : w = nibWord (e.toNat % 16 :: u.cfg.nibs))
    (hcmd : (if u.cfg.loader.left = 0 then w / 2 ^ 24 else u.cfg.loader.cmd) = n) :
    exec i s = .next ((u.setCfg { u.cfg with nibs := [] }).portWord w) := by
  rw [exec_packetRow s u t n bus i hu hrow htakes, hbus, List.foldl_cons, List.foldl_nil, u.portEdge_nibble_word htakes hmode hseven, hw]
  intro c hc
  rw [hbus] at hc
  by_cases hleft : u.cfg.loader.left = 0
  · rw [if_pos hleft] at hcmd
    rw [u.busCmd_nibble_word hmode hleft hseven, ← hw, hcmd, Option.some_inj] at hc
    exact hc.symm
  · rw [if_neg hleft] at hcmd
    rw [u.busCmd_inProgress _ hleft, hcmd, Option.some_inj] at hc
    exact hc.symm

end

/-! ### Packets of a full stream (R311, R314, R317) -/

/-- A loader has no image for a controller that its start-up program starts (*Table 11.4*, cause 8). -/
def Loader.lacksFirmware (d : Loader) : Bool :=
  match d.startup with
  | some l => (stepArgs l 7).any fun m => decide (m &&& (3 - d.firmware) ≠ 0)
  | none => d.firmware == 0

section
variable (s : State) (d : Loader) (tg : Target)

/-- A NOP packet is its header word. -/
theorem takePacket_nop (hheader : d.header = true) :
    s.takePacket tg d 0 = .on { d with cmd := 0, count := 0, left := 0, buf := [], afterCrc := false } s := by
  simp [State.takePacket, hheader]

/-- A LOCATE or a CRC packet has one word of payload. -/
theorem takePacket_oneWord (w : Nat) (hheader : d.header = true) (hcmd : w / 2 ^ 24 = 2 ∨ w / 2 ^ 24 = 6) (hcount : w % 2 ^ 24 = 1) :
    s.takePacket tg d w = .on { d with cmd := w / 2 ^ 24, count := 1, left := 1, buf := [], afterCrc := false } s := by
  rcases hcmd with hcmd | hcmd <;> simp [State.takePacket, hheader, hcmd, hcount, -Nat.reducePow]

/-- A SEAL that follows a CRC packet, where no firmware is missing, seals the stream. -/
theorem takePacket_seal (hheader : d.header = true) (hcrc : d.afterCrc = true) (hfw : d.lacksFirmware = false) :
    s.takePacket none d 0x0A000000 =
      .on { d with cmd := 10, count := 0, left := 0, buf := [], afterCrc := false, sealed := true } s := by
  unfold Loader.lacksFirmware at hfw
  cases hprog : d.startup with
  | none =>
    simp only [hprog] at hfw
    simp [State.takePacket, hheader, hcrc, hprog, hfw]
  | some l =>
    simp only [hprog] at hfw
    simpa [State.takePacket, hheader, hcrc, hprog] using hfw

end

section
variable (s : State) (d : Loader) (tg : Target) (w : Nat) (hopen : d.sealed = false)
include hopen

/-- The word that begins a CRC packet stays out of the CRC. -/
theorem takeWord_crcPacket (hleft : d.left = 0) (hcmd : w / 2 ^ 24 = 6) :
    s.takeWord tg d w = s.takePacket tg { d with words := d.words + 1 } w := by
  simp only [State.takeWord, hopen, hleft, hcmd, Bool.false_eq_true, if_false, if_true]

section
variable (hleft : d.left = 1) (hcmd : d.cmd = 6)
include hleft hcmd

/-- A CRC that agrees restarts the CRC. -/
theorem takeWord_crc_agrees (hcrc : d.crc ^^^ 0xFFFFFFFF = w) :
    s.takeWord tg d w = .on { d with words := d.words + 1, left := 0, crc := 0xFFFFFFFF, afterCrc := true } s := by
  simp only [State.takeWord, hopen, hleft, hcmd, hcrc, Bool.false_eq_true, if_false, if_true, one_ne_zero]

/-- One that does not is an error of cause 6. -/
theorem takeWord_crc_differs (hcrc : d.crc ^^^ 0xFFFFFFFF ≠ w) : s.takeWord tg d w = .err 6 d.addr s := by
  simp only [State.takeWord, hopen, hleft, hcmd, hcrc, Bool.false_eq_true, if_false, if_true, one_ne_zero]
  rfl

end

/-- The word of a LOCATE is the locator of the next frame. -/
theorem takeWord_locator (hleft : d.left = 1) (hcmd : d.cmd = 2) (hbuf : d.buf = []) :
    s.takeWord tg d w =
      .on { d with words := d.words + 1, crc := (leBytes 4 w).foldl crc32Byte d.crc, left := 0, buf := [w], loc := some w } s := by
  simp [State.takeWord, State.takePayload, State.wordCause, State.endPacket, hopen, hleft, hcmd, hbuf]

end

section
variable (s : State) (d : Loader) (hcmd : d.cmd = 1)
include hcmd

/-- Word 0 of a HEADER of format 1 for the whole device. -/
theorem wordCause_headerFormat (x : Nat) (hbuf : d.buf = [x]) : s.wordCause none d 0x000100FF = none := by
  simp only [State.wordCause, hcmd, hbuf]
  decide

/-- Word 1, the ID, reveals nothing. -/
theorem wordCause_headerId (x y w : Nat) (hbuf : d.buf = [x, y]) : s.wordCause none d w = none := by
  simp only [State.wordCause, hcmd, hbuf]

/-- Word 2 is the low half of the device's serial number, or 0. -/
theorem wordCause_serialLow (x y z w : Nat) (hbuf : d.buf = [x, y, z]) (h : w = 0 ∨ w = s.reg O.ID_SERIAL % 2 ^ 32) :
    s.wordCause none d w = none := by
  have hfits : ¬ (w ≠ 0 ∧ w ≠ s.reg O.ID_SERIAL % 2 ^ 32) := by tauto
  simp only [State.wordCause, hcmd, hbuf, if_neg hfits]

/-- Word 3 is its high half, or both are 0. -/
theorem wordCause_serialHigh (x low y z w : Nat) (hbuf : d.buf = [x, low, y, z])
    (h : low + w * 2 ^ 32 = 0 ∨ low + w * 2 ^ 32 = s.reg O.ID_SERIAL) : s.wordCause none d w = none := by
  have hfits : ¬ (low + w * 2 ^ 32 ≠ 0 ∧ low + w * 2 ^ 32 ≠ s.reg O.ID_SERIAL) := by tauto
  simp only [State.wordCause, hcmd, hbuf, if_neg hfits]

end

/-- A parallel port takes words whatever its loader. -/
theorem State.portEdge_withLoader (u : State) (hmode : u.reg O.CFG_CFG_MODE = 1) (htakes : u.portTakes 2 = true) (d : Loader) (w : BitVec 32) :
    (u.withLoader d).portEdge ⟨false, w⟩ = (u.withLoader d).portWord w.toNat :=
  (u.withLoader d).portEdge_word htakes hmode w

/-- Words that take a loader from one state to another and leave the rest of the device as it is, whatever its port holds. -/
inductive State.Loads (u : State) : Loader → List (BitVec 32) → Loader → Prop
  | done (d : Loader) : u.Loads d [] d
  | word (d e f : Loader) (w : BitVec 32) (ws : List (BitVec 32))
      (htake : ∀ c, (u.setCfg c).takeWord none d w.toNat = .on e (u.setCfg c)) (hopen : e.sealed = false) (hrest : u.Loads e ws f) :
      u.Loads d (w :: ws) f

/-- Such words at a parallel port leave the loader that they lead to. -/
theorem State.Loads.foldl_portEdge {u : State} {d e : Loader} {ws : List (BitVec 32)} (h : u.Loads d ws e)
    (hmode : u.reg O.CFG_CFG_MODE = 1) (htakes : u.portTakes 2 = true) :
    (ws.map (PortEdge.mk false)).foldl State.portEdge (u.withLoader d) = u.withLoader e := by
  induction h with
  | done d => rfl
  | word d e f w ws htake hopen _ ih =>
    rw [List.map_cons, List.foldl_cons, u.portEdge_withLoader hmode htakes,
      State.portWord_on (u.withLoader d) (u.withLoader d) _ e (htake _) hopen]
    exact ih

/-- The header word of a CRC packet. -/
theorem takeWord_crcHeader (s : State) (d : Loader) (hleft : d.left = 0) (hopen : d.sealed = false) (hheader : d.header = true) :
    s.takeWord none d (0x06000001 : BitVec 32).toNat =
      .on { d with words := d.words + 1, cmd := 6, count := 1, left := 1, buf := [], afterCrc := false } s :=
  (takeWord_crcPacket _ _ _ _ hopen hleft (by decide)).trans (takePacket_oneWord _ _ _ _ hheader (.inr (by decide)) (by decide))

/-- A packet of such words at a parallel port, with no other in progress. -/
theorem exec_packetRow_loads (s u : State) (t n : Nat) (i : Instr) (w : BitVec 32) (ws : List (BitVec 32)) (d : Loader) (hu : u = s.tickTo t)
    (hmode : u.reg O.CFG_CFG_MODE = 1) (htakes : u.portTakes 2 = true) (hleft : u.cfg.loader.left = 0)
    (hrow : PacketRow t ((w :: ws).map (PortEdge.mk false)) i n) (hcmd : w.toNat / 2 ^ 24 = n)
    (h : u.Loads u.cfg.loader (w :: ws) d) : exec i s = .next (u.withLoader d) := by
  rw [exec_packetRow s u t n _ i hu hrow htakes]
  · exact congrArg _ (h.foldl_portEdge hmode htakes)
  · intro c hc
    rw [List.map_cons, u.busCmd_word hmode, if_pos hleft, hcmd, Option.some_inj] at hc
    exact hc.symm

section
variable (s u : State) (t : Nat) (hu : u = s.tickTo t)
include hu

section
variable (hmode : u.reg O.CFG_CFG_MODE = 1) (htakes : u.portTakes 2 = true) (hleft : u.cfg.loader.left = 0)
  (hopen : u.cfg.loader.sealed = false)
include hmode htakes hleft hopen

section
variable (hheader : u.cfg.loader.header = true)
include hheader

/-- NOP counts its word. -/
theorem exec_nop_counts :
    exec (.nop t [⟨false, 0⟩]) s = .next (u.withLoader { u.cfg.loader with
      words := u.cfg.loader.words + 1, crc := (leBytes 4 0).foldl crc32Byte u.cfg.loader.crc, cmd := 0, count := 0, left := 0, buf := [],
      afterCrc := false }) := by
  have hword := fun k => (takeWord_new (u.setCfg k) none _ _ hopen hleft (by decide)).trans (takePacket_nop _ _ _ hheader)
  exact exec_packetRow_loads s u t 0 (.nop t [⟨false, 0⟩]) 0 [] _ hu hmode htakes hleft (by simp [PacketRow]) (by decide)
    (.word _ _ _ _ _ hword hopen (.done _))

/-- LOCATE sets the locator of the next frame. -/
theorem exec_locate_sets (l : BitVec 32) :
    exec (.locate t [⟨false, 0x02000001⟩, ⟨false, l⟩]) s = .next (u.withLoader { u.cfg.loader with
      words := u.cfg.loader.words + 2,
      crc := (leBytes 4 l.toNat).foldl crc32Byte ((leBytes 4 0x02000001).foldl crc32Byte u.cfg.loader.crc), cmd := 2, count := 1,
      left := 0, buf := [l.toNat], afterCrc := false, loc := some l.toNat }) := by
  have hfirst : ∀ k, (u.setCfg k).takeWord none u.cfg.loader (0x02000001 : BitVec 32).toNat = _ := fun k =>
    (takeWord_new _ _ _ _ hopen hleft (by decide)).trans (takePacket_oneWord _ _ _ _ hheader (.inl (by decide)) (by decide))
  exact exec_packetRow_loads s u t 2 (.locate t [⟨false, 0x02000001⟩, ⟨false, l⟩]) 0x02000001 [l] _ hu hmode htakes hleft
    (by simp [PacketRow]) (by decide)
    (.word _ _ _ _ _ hfirst hopen (.word _ _ _ _ _ (fun _ => takeWord_locator _ _ _ _ hopen rfl rfl rfl) hopen (.done _)))

/-- A CRC packet that agrees restarts the CRC. -/
theorem exec_crc_agrees (c : BitVec 32) (hcrc : u.cfg.loader.crc ^^^ 0xFFFFFFFF = c.toNat) :
    exec (.crc t [⟨false, 0x06000001⟩, ⟨false, c⟩]) s = .next (u.withLoader { u.cfg.loader with
      words := u.cfg.loader.words + 2, crc := 0xFFFFFFFF, cmd := 6, count := 1, left := 0, buf := [], afterCrc := true }) :=
  exec_packetRow_loads s u t 6 (.crc t [⟨false, 0x06000001⟩, ⟨false, c⟩]) 0x06000001 [c] _ hu hmode htakes hleft
    (by simp [PacketRow]) (by decide)
    (.word _ _ _ _ _ (fun _ => takeWord_crcHeader _ _ hleft hopen hheader) hopen
      (.word _ _ _ _ _ (fun _ => takeWord_crc_agrees _ _ _ _ hopen rfl rfl hcrc) hopen (.done _)))

/-- One that does not ends the stream in an error. -/
theorem exec_crc_differs (c : BitVec 32) (hcrc : u.cfg.loader.crc ^^^ 0xFFFFFFFF ≠ c.toNat) :
    exec (.crc t [⟨false, 0x06000001⟩, ⟨false, c⟩]) s =
      .next ((u.withLoader { u.cfg.loader with
        words := u.cfg.loader.words + 1, cmd := 6, count := 1, left := 1, buf := [], afterCrc := false }).fullError 6 u.cfg.loader.addr
          (u.cfg.loader.words + 2)) := by
  rw [exec_packetRow_word s u t 6 _ _ hu (by simp [PacketRow]) htakes hmode 0x06000001 [⟨false, c⟩] rfl (by rw [if_pos hleft]; decide),
    u.portWord_on u _ _ (takeWord_crcHeader _ _ hleft hopen hheader) hopen, List.foldl_cons, List.foldl_nil,
    u.portEdge_withLoader hmode htakes]
  exact congrArg _ (State.portWord_err (u.withLoader _) _ _ _ _ (takeWord_crc_differs _ _ _ _ (by exact hopen) rfl rfl hcrc))

/-- SEAL ends the stream. -/
theorem exec_seal_seals (hafter : u.cfg.loader.afterCrc = true) (hfw : u.cfg.loader.lacksFirmware = false) :
    exec (.seal t [⟨false, 0x0A000000⟩]) s = .next (u.sealFull { u.cfg.loader with
      words := u.cfg.loader.words + 1, crc := (leBytes 4 0x0A000000).foldl crc32Byte u.cfg.loader.crc, cmd := 10, count := 0, left := 0,
      buf := [], afterCrc := false, sealed := true }) := by
  rw [exec_packetRow_word s u t 10 _ _ hu (by simp [PacketRow]) htakes hmode 0x0A000000 [] rfl (by rw [if_pos hleft]; decide),
    List.foldl_nil]
  exact congrArg _ (u.portWord_sealed u _ _
    ((takeWord_new _ _ _ _ hopen hleft (by decide)).trans (takePacket_seal _ _ hheader hafter hfw)) rfl)

end

/-- HEADER names the design of the stream that it opens. -/
theorem exec_header_opens (hheader : u.cfg.loader.header = false) (b c d : BitVec 32)
    (hserial : c.toNat + d.toNat * 2 ^ 32 = 0 ∨ c.toNat + d.toNat * 2 ^ 32 = u.reg O.ID_SERIAL) :
    exec (.header t [⟨false, 0x01000004⟩, ⟨false, 0x000100FF⟩, ⟨false, b⟩, ⟨false, c⟩, ⟨false, d⟩]) s =
      .next (u.withLoader { u.cfg.loader with
        words := u.cfg.loader.words + 5,
        crc := (leBytes 4 d.toNat).foldl crc32Byte ((leBytes 4 c.toNat).foldl crc32Byte ((leBytes 4 b.toNat).foldl crc32Byte
          ((leBytes 4 0x000100FF).foldl crc32Byte ((leBytes 4 0x01000004).foldl crc32Byte u.cfg.loader.crc)))),
        cmd := 1, count := 4, left := 0, buf := [d.toNat, c.toNat, b.toNat, 0x000100FF], afterCrc := false, header := true,
        id := b.toNat }) := by
  have hlow : c.toNat = 0 ∨ c.toNat = u.reg O.ID_SERIAL % 2 ^ 32 := by
    have hc := c.isLt
    omega
  have hfirst : ∀ k, (u.setCfg k).takeWord none u.cfg.loader (0x01000004 : BitVec 32).toNat = _ := fun k =>
    (takeWord_new _ _ _ _ hopen hleft (by decide)).trans (takePacket_header _ _ _ hheader (by decide) (by decide))
  exact exec_packetRow_loads s u t 1 (.header t [⟨false, 0x01000004⟩, ⟨false, 0x000100FF⟩, ⟨false, b⟩, ⟨false, c⟩, ⟨false, d⟩])
    0x01000004 [0x000100FF, b, c, d] _ hu hmode htakes hleft (by simp [PacketRow]) (by decide)
    (.word _ _ _ _ _ hfirst hopen
    (.word _ _ _ _ _ (fun _ => takeWord_more _ _ _ 2 hopen rfl rfl (wordCause_headerFormat _ _ rfl _ rfl)) hopen
    (.word _ _ _ _ _ (fun _ => takeWord_more _ _ _ 1 hopen rfl rfl (wordCause_headerId _ _ rfl _ _ _ rfl)) hopen
    (.word _ _ _ _ _ (fun _ => takeWord_more _ _ _ 0 hopen rfl rfl (wordCause_serialLow _ _ rfl _ _ _ _ rfl hlow)) hopen
    (.word _ _ _ _ _ (fun _ => takeWord_last _ _ _ hopen rfl rfl (wordCause_serialHigh _ _ rfl _ _ _ _ _ rfl hserial)) hopen
    (.done _))))))

end

end

/-- A SEAL computes the references of the live planes and begins the stream's own start-up program, or else the default one. -/
theorem State.sealFull_eq (s w : State) (d : Loader) (hw : w = (List.range 28).foldl (fun (s : State) r => s.setRef r (s.planeCrc r)) s) :
    s.sealFull d =
      ((w.setReg O.CFG_CFG_STATE 3).setReg O.CFG_STATIC_ID d.id).setCfg
        { w.cfg with loader := d, doutLow := true, program := d.startup.getD (startupDefault d.firmware), step := 0, stepAt := w.now } := by
  cases hprog : d.startup <;> simp only [State.sealFull, ← hw, hprog, Option.getD_none, Option.getD_some]

end Sys2Proof.Machine
end

section
/-! The clearing of configuration planes and their audits, and with them every command of configuration. -/

namespace Sys2Proof.Machine

/-! ### Clearing (R318, R323) -/

/-- The clear after a stream error ends, and SYNC is sought again. -/
theorem exec_configClearDone_clears (s u : State) (t : Nat) (hu : u = s.tickTo t) (hstate : u.reg O.CFG_CFG_STATE = 0)
    (herr : u.cfg.errLow = true) :
    exec (.configClearDone t) s =
      .next ((u.clearConfig.setReg O.CFG_CFG_STATE 1).setCfg { u.cfg with loader := {}, nibs := [], initLow := false }) := by
  rw [exec_configClearDone, execConfigClearDone]
  simp only [← hu, hstate, herr, ne_eq, not_true, Bool.not_true, Bool.false_eq_true, or_self, if_false]

/-- SHADOW_DISCARD of a loaded plane that no swap waits for discards it. -/
theorem ownShadowDiscard_loaded (p : Nat) (s : State) (hnone : s.sched .swap p = none) (hloaded : s.reg (O.PAD_SHADOW_STATE p) = 2) :
    ownShadowDiscard p 1 s = (.okay, s.dropShadow p) := by
  simp only [ownShadowDiscard, command_one, hnone, Option.isSome_none, hloaded, Bool.false_eq_true, ne_eq, not_true, if_false]

/-! ### Audits (R331) -/

/-- AUDIT_START without a host audit in progress begins one, once an automatic audit in progress is done. -/
theorem ownAuditStart_idle (s : State) (at_ : Nat) (hnone : s.hostAudit = none)
    (hat : at_ = match s.autoAudit with
      | some a => max s.now (a.start + auditUnits a.region)
      | none => s.now) :
    ownAuditStart 1 s = (.okay, ({ s with hostAudit := some ⟨s.reg O.AUD_AUDIT_REGION, at_⟩ }).setReg O.AUD_AUDIT_STATE 1) := by
  subst hat
  cases hauto : s.autoAudit <;>
    simp only [ownAuditStart, command_one, hnone, hauto, Option.isSome_none, Bool.false_eq_true, if_false]

section
variable (s u : State) (t : Nat) (changed : Option (BitVec 32)) (a : Audit) (crc : Nat) (hu : u = s.tickTo t)
include hu

/-- An automatic audit whose time has passed ends; a host audit that waited for it is then the one in progress. -/
theorem exec_auditComplete_auto (hauto : u.autoAudit = some a) (hover : a.start + auditUnits a.region ≤ u.now)
    (hcrc : crc = match changed with
      | some c => c.toNat
      | none => u.planeCrc a.region) :
    exec (.auditComplete t changed) s =
      .next (({ u with autoAudit := none }.auditEnd a.region crc).setReg O.AUD_AUDIT_STATE (b2n u.hostAudit.isSome)) := by
  subst hcrc
  rw [exec_auditComplete, execAuditComplete]
  cases changed <;> simp only [← hu, hauto, Nat.not_lt_of_le hover, if_false, b2n]

/-- A host audit ends with OKAY and its CRC. -/
theorem exec_auditComplete_host (w : State) (hauto : u.autoAudit = none) (hhost : u.hostAudit = some a)
    (hover : a.start + auditUnits a.region ≤ u.now)
    (hcrc : crc = match changed with
      | some c => c.toNat
      | none => u.planeCrc a.region)
    (hw : w = { u with hostAudit := none }.auditEnd a.region crc) :
    exec (.auditComplete t changed) s =
      .next (((w.setReg O.AUD_AUDIT_STATE 0).setReg O.AUD_AUDIT_STATUS Status.okay.code).setReg O.AUD_AUDIT_CRC crc) := by
  subst hw hcrc
  rw [exec_auditComplete, execAuditComplete]
  cases changed <;> simp only [← hu, hauto, hhost, Nat.not_lt_of_le hover, if_false]

/-- Where no audit is in progress, the next region's begins once AUTO_PERIOD has passed. -/
theorem exec_autoAudit_begins (hperiod : u.reg O.AUD_AUTO_PERIOD ≠ 0)
    (hdue : u.autoAt + u.reg O.AUD_AUTO_PERIOD * Config.msUnits ≤ u.now) (hhost : u.hostAudit = none) (hauto : u.autoAudit = none) :
    exec (.autoAudit t) s =
      .next (({ u with autoAudit := some ⟨u.autoNext, u.now⟩, autoNext := (u.autoNext + 1) % 28, autoAt := u.now }).setReg
        O.AUD_AUDIT_STATE 2) := by
  rw [exec_autoAudit, execAutoAudit]
  simp only [← hu, hperiod, Nat.not_lt_of_le hdue, hhost, hauto, Option.isSome_none, Bool.false_eq_true, or_self, if_false]

end

/-- Settles O58: a row of the port is what its edges and words leave, and the rest are the laws of their rows. -/
theorem configurationCommandsComplete : Obligations.ConfigurationCommandsComplete := by
  refine ⟨exec_sync_searches, ?_, ?_, ?_, ?_, ?_, ?_, ?_, ?_, ?_, ?_, exec_nop_counts, ?_, ?_, ?_, ?_, ?_, ?_,
    exec_configClearDone_clears, ?_, ?_, ?_, ?_, ?_, ?_⟩
  · intro s u t hu hmode hsearch
    rw [exec_sync_edge s u t _ hu hsearch, u.portEdge_search_word hsearch hmode]
    rfl
  · intro s u t d hu hmode hsearch hd
    have hother : d.toNat ≠ syncWord := fun h => hd (BitVec.eq_of_toNat_eq h)
    rw [exec_sync_edge s u t _ hu hsearch, u.portEdge_search_word hsearch hmode, if_neg hother]
  · rintro s u t d _ hu hmode hsearch rfl hl
    rw [exec_sync_edge s u t _ hu hsearch, u.portEdge_search_nibble hsearch hmode]
    exact congrArg _ (if_pos hl)
  · rintro s u t d _ hu hmode hsearch rfl hl
    rw [exec_sync_edge s u t _ hu hsearch, u.portEdge_search_nibble hsearch hmode]
    exact congrArg _ (if_neg hl)
  · exact fun s u t n bus i hu hrow htakes => exec_packetRow s u t n bus i hu hrow htakes
  · intro s u t n bus i w d x hu hrow htakes hmode hbus hcmd htake hopen
    rw [exec_packetRow_word s u t n bus i hu hrow htakes hmode w [] hbus hcmd]
    exact congrArg _ (u.portWord_on x _ d htake hopen)
  · intro s u t n bus i w d x hu hrow htakes hmode hbus hcmd htake hsealed
    rw [exec_packetRow_word s u t n bus i hu hrow htakes hmode w [] hbus hcmd]
    exact congrArg _ (u.portWord_sealed x _ d htake hsealed)
  · intro s u t n bus i w cause addr x hu hrow htakes hmode hbus hcmd htake
    rw [exec_packetRow_word s u t n bus i hu hrow htakes hmode w [] hbus hcmd]
    exact congrArg _ (u.portWord_err x _ cause addr htake)
  · exact fun s u t n bus i e hu hrow htakes hmode => exec_packetRow_nibble s u t n bus i hu hrow htakes hmode e
  · exact fun s u t n bus i e w hu hrow htakes hmode hbus hseven =>
      exec_packetRow_lastNibble s u t n bus i hu hrow htakes hmode e hbus hseven w
  · exact fun s u t l hu hmode htakes hleft hopen hheader => exec_locate_sets s u t hu hmode htakes hleft hopen hheader l
  · exact fun s u t c hu hmode htakes hleft hopen hheader => exec_crc_agrees s u t hu hmode htakes hleft hopen hheader c
  · exact fun s u t c hu hmode htakes hleft hopen hheader => exec_crc_differs s u t hu hmode htakes hleft hopen hheader c
  · exact fun s u t b c d hu hmode htakes hleft hopen hheader => exec_header_opens s u t hu hmode htakes hleft hopen hheader b c d
  · exact exec_seal_seals
  · rintro s u t _ w hu hw rfl hmode htakes hleft hopen hheader hafter hprog hfw
    have hlacks : u.cfg.loader.lacksFirmware = false := by simp [Loader.lacksFirmware, hprog, hfw]
    refine ⟨_, exec_seal_seals s u t hu hmode htakes hleft hopen hheader hafter hlacks, ?_⟩
    rw [u.sealFull_eq w _ hw]
    refine ⟨rfl, ?_, State.reg_setReg_same .., rfl, ?_, rfl, rfl, rfl⟩
    · rw [State.reg_setCfg, State.reg_setReg_ne _ _ _ _ (by decide), State.reg_setReg_same]
    · exact congrArg (Option.getD · _) hprog
  · rintro s _ t p rfl
    rfl
  · rintro s _ t r p rfl hw hnone hloaded
    rw [exec_shadowDiscard, execShadowDiscard]
    exact congrArg _ (State.writeObj_okays _ _ _ _ _ _ hw (ownShadowDiscard_loaded _ _ hnone hloaded))
  · rintro s _ t r at_ rfl hw hnone hat
    rw [exec_auditStart, execAuditStart]
    exact congrArg _ (State.writeObj_okays _ _ _ _ _ _ hw (ownAuditStart_idle _ at_ hnone hat))
  · exact fun s u t changed a crc hu => exec_auditComplete_auto s u t changed a crc hu
  · exact fun s u t changed a crc w hu => exec_auditComplete_host s u t changed a crc hu w
  · exact exec_autoAudit_begins

end Sys2Proof.Machine
end

section
/-! What a step runs, and what every step and every command leaves of the addressed memories. -/

namespace Sys2Proof.Machine

/-- Settles O1: a command at the front runs on the rest, and the rest of a queue with a command pushed at its front is that queue. -/
theorem stepRunsTheFrontCommand : Obligations.StepRunsTheFrontCommand :=
  ⟨fun c r s h => by rw [step_of_front s c r h, State.popped, h, List.tail_cons], fun c s => step_of_front (s.push c) c s.pending rfl⟩

/-- Settles O3: neither definition looks at the word. -/
theorem noWordSpellsACommand : Obligations.NoWordSpellsACommand := fun _ _ _ => ⟨rfl, rfl⟩

/-- Settles O8: what every step keeps holds the canonical form of the memories. -/
theorem everyStepKeepsMemories : Obligations.EveryStepKeepsMemories := by
  intro s u hmem h
  obtain ⟨-, -, kmem, -⟩ := step_kept s u h
  exact kmem hmem

/-- Settles O10: a command that stores nothing answers a state with the same memories. -/
theorem otherCommandsStoreNothing : Obligations.OtherCommandsStoreNothing := by
  intro c s u hc h a
  obtain ⟨w, hw, -, -, -, -, -, kmem⟩ := exec_kept_memories c s hc
  cases h.symm.trans hw
  obtain ⟨hdram, hfeed, hdata, hmc, hspare⟩ := kmem rfl
  rw [hdram, hfeed, hdata, hmc, hspare]
  exact ⟨rfl, rfl, rfl, rfl, rfl⟩

end Sys2Proof.Machine
end

section
/-! Lines of pattern memory: their encryption, which undoes itself, and each mode's way of holding a line with its check. -/

namespace Sys2Proof.Machine

/-! ### Encryption (R365) -/

/-- Exclusive or with a block of its own length keeps the length. -/
theorem xorBytes_length (a b : List Byte) (h : a.length = b.length) : (xorBytes a b).length = a.length := by
  rw [xorBytes, List.length_zipWith, h, min_self]

/-- A slice of n bytes that lie within a list has n bytes. -/
theorem slice_length (l : List Byte) (o n : Nat) (h : o + n ≤ l.length) : (slice o n l).length = n := by
  rw [slice, List.length_take, List.length_drop]
  omega

/-- A line is its four blocks. -/
theorem slices_of_line (l : List Byte) (h : l.length = 64) : slice 0 16 l ++ slice 16 16 l ++ slice 32 16 l ++ slice 48 16 l = l := by
  have hlast : slice 48 16 l = l.drop 48 := List.take_of_length_le (by rw [List.length_drop]; omega)
  have hcut : ∀ k, slice k 16 l ++ l.drop (k + 16) = l.drop k := fun k => by
    rw [slice, ← List.drop_drop, List.take_append_drop]
  rw [hlast, List.append_assoc, hcut 32, List.append_assoc, hcut 16]
  exact hcut 0

section
variable (key line : List Byte) (pa major minor : Nat) (hkey : key.length = 32) (hline : line.length = 64)
include hkey hline

/-- Each block of a line is as long as its counter block under encryption. -/
theorem block_length_eq (j : Nat) (hj : j < 4) :
    (slice (16 * j) 16 line).length = (aes256 key (counterBlock 0 pa major minor j)).length := by
  rw [aes256_len _ _ hkey, slice_length line (16 * j) 16 (by omega)]

/-- An encrypted block has 16 bytes. -/
theorem xorBlock_length (j : Nat) (hj : j < 4) :
    (xorBytes (slice (16 * j) 16 line) (aes256 key (counterBlock 0 pa major minor j))).length = 16 := by
  rw [xorBytes_length _ _ (block_length_eq key line pa major minor hkey hline j hj), slice_length line _ 16 (by omega)]

theorem cryptLine_length : (cryptLine key pa major minor line).length = 64 := by
  have hblock := xorBlock_length key line pa major minor hkey hline
  have h0 := hblock 0 (by decide)
  have h1 := hblock 1 (by decide)
  have h2 := hblock 2 (by decide)
  have h3 := hblock 3 (by decide)
  rw [cryptLine_eq, List.length_append, List.length_append, List.length_append, h0, h1, h2, h3]

/-- Encryption undoes itself: block by block, the same bytes are exclusive-ored twice. -/
theorem cryptLine_cryptLine : cryptLine key pa major minor (cryptLine key pa major minor line) = line := by
  have hblock := xorBlock_length key line pa major minor hkey hline
  have htwice : ∀ j < 4, xorBytes (xorBytes (slice (16 * j) 16 line) (aes256 key (counterBlock 0 pa major minor j)))
      (aes256 key (counterBlock 0 pa major minor j)) = slice (16 * j) 16 line := fun j hj =>
    xorBytes_twice _ _ (block_length_eq key line pa major minor hkey hline j hj).le
  obtain ⟨h0, h1, h2, h3⟩ := slice4 _ _ _ _ (hblock 0 (by decide)) (hblock 1 (by decide)) (hblock 2 (by decide)) (hblock 3 (by decide))
  rw [cryptLine_eq _ _ _ _ (cryptLine key pa major minor line), cryptLine_eq _ _ _ _ line]
  rw [h0, h1, h2, h3, htwice 0 (by decide), htwice 1 (by decide), htwice 2 (by decide), htwice 3 (by decide)]
  exact slices_of_line line hline

end

/-- Settles O24: the blocks keep their lengths, and encryption undoes itself. -/
theorem encryptionInverts : Obligations.EncryptionInverts := fun key line pa major minor hkey hline =>
  ⟨cryptLine_length key line pa major minor hkey hline, cryptLine_cryptLine key line pa major minor hkey hline⟩

end Sys2Proof.Machine
end

section
/-! Lines of pattern memory in each mode: where a line and its check lie, what is written of them, and that it reads back. -/

namespace Sys2Proof.Machine

/-! ### Where a line and its tag storage lie (R361, *Table 13.4*) -/

/-- pa is the first byte of a line of the entry, whose tag storage lies apart from it. -/
structure LineOf (r : Region) (pa : Nat) : Prop where
  base_le : r.base ≤ pa
  end_le : pa + 64 ≤ r.base + r.size
  aligned : (pa - r.base) % 64 = 0
  pages : r.size % 4096 = 0
  apart : r.base + r.size ≤ r.tagBase ∨ r.tagBase + r.tagSize ≤ r.base

/-- n bytes from a on lie in the entry's tag storage. -/
def Region.InTags (r : Region) (a n : Nat) : Prop := r.tagBase ≤ a ∧ a + n ≤ r.tagBase + r.tagSize

section
variable {r : Region} {pa : Nat} (h : LineOf r pa)
include h

/-- Tag storage does not touch the line. -/
theorem LineOf.tags_apart {a n : Nat} (hin : r.InTags a n) : pa + 64 ≤ a ∨ a + n ≤ pa := by
  obtain ⟨hlow, hhigh⟩ := hin
  have hbase := h.base_le
  have hend := h.end_le
  have hapart := h.apart
  omega

/-- The page of a line lies whole in its entry. -/
theorem LineOf.page_in : 64 * (r.lineNo pa / 64 * 64 + 64) ≤ r.size := by
  have hbase := h.base_le
  have hend := h.end_le
  have hpages := h.pages
  rw [Region.lineNo]
  omega

theorem LineOf.line_in : 64 * r.lineNo pa + 64 ≤ r.size := by
  have hpage := h.page_in
  omega

theorem LineOf.tag1_in (hmode : r.mode = 1) : r.InTags (r.tagAddr (r.lineNo pa)) 8 := by
  have hline := h.line_in
  simp only [Region.InTags, Region.tagAddr, Region.tagSize, hmode, show ¬ 1 = 3 by decide, if_false]
  omega

/-- MODE 2 holds its tags before its counter lines. -/
theorem LineOf.tag2_before (hmode : r.mode = 2) : r.tagAddr (r.lineNo pa) + 8 ≤ r.ctrAddr (r.lineNo pa) := by
  have hline := h.line_in
  simp only [Region.tagAddr, Region.ctrAddr, hmode, show ¬ 2 = 3 by decide, if_false]
  omega

theorem LineOf.ctr_in (hmode : r.mode = 2) : r.InTags (r.ctrAddr (r.lineNo pa)) 64 := by
  have hpage := h.page_in
  have hpages := h.pages
  simp only [Region.InTags, Region.ctrAddr, Region.tagSize, hmode]
  omega

theorem LineOf.tag2_in (hmode : r.mode = 2) : r.InTags (r.tagAddr (r.lineNo pa)) 8 := by
  have hbefore := h.tag2_before hmode
  have hctr := (h.ctr_in hmode).2
  refine ⟨?_, by omega⟩
  simp only [Region.tagAddr, hmode, show ¬ 2 = 3 by decide, if_false]
  omega

theorem LineOf.tag3_in (hmode : r.mode = 3) {j : Nat} (hj : j < r.lineNo pa / 64 * 64 + 64) : r.InTags (r.tagAddr j) 16 := by
  have hpage := h.page_in
  simp only [Region.InTags, Region.tagAddr, Region.tagSize, hmode, if_true]
  omega

end

/-! ### Parts of what was written -/

/-- The middle of three lists joined. -/
theorem slice_middle (a b c : List Byte) (o n : Nat) (ha : a.length = o) (hb : b.length = n) : slice o n (a ++ (b ++ c)) = b := by
  subst ha hb
  rw [slice, List.drop_left, List.take_left]

/-- A number below the width of its bytes reads back from them. -/
theorem leNat_leBytes_lt (n v : Nat) (h : v < 2 ^ (8 * n)) : leNat (leBytes n v) = v := by
  rw [leNat_leBytes, Nat.mod_eq_of_lt h]

theorem lineTag_lt (key : List Byte) (dom pa major minor : Nat) (ct : List Byte) : lineTag key dom pa major minor ct < 2 ^ 64 := by
  rw [lineTag, Nat.div_lt_iff_lt_mul (by decide)]
  exact BitVec.isLt _

/-- The top bit of a number of 32 bits. -/
theorem testBit_top (p : Bool) (v : Nat) (h : v < 2 ^ 31) : (b2n p * 2 ^ 31 + v).testBit 31 = p := by
  rw [Nat.testBit_eq_decide_div_mod_eq]
  cases p <;> simp only [b2n, decide_eq_true_eq, decide_eq_false_iff_not, Bool.false_eq_true, if_true, if_false] <;> omega

/-! ### MODE 0: plain bytes -/

section
variable (m : List Host.Cell) (r : Region) (pa : Nat) (key data : List Byte) (major minor : Nat) (poison : Bool)

theorem writeLine_mode0 (h : r.mode = 0) : writeLine m r pa key major minor poison data = dramWrite m pa data := by
  simp only [writeLine, h]

theorem readLine_mode0 (h : r.mode = 0) : readLine m r pa key = ⟨.pass, dramRead m pa 64, false, 0, 0, dramRead m pa 64⟩ := by
  simp only [readLine, h]

/-! ### MODE 1: a check that corrects (R362) -/

/-- META of MODE 1: POISON. -/
def meta1 (poison : Bool) : List Byte := leBytes 4 (b2n poison * 2 ^ 31)

theorem writeLine_mode1 (h : r.mode = 1) : writeLine m r pa key major minor poison data =
    dramWrite (dramWrite m pa data) (r.tagAddr (r.lineNo pa)) (meta1 poison ++ rsCheck (data ++ meta1 poison)) := by
  simp only [writeLine, h, meta1]

theorem readLine_mode1 (h : r.mode = 1)
    (hclean : rsDecode (dramRead m pa 64 ++ dramRead m (r.tagAddr (r.lineNo pa)) 8) = .clean) :
    readLine m r pa key =
      ⟨if (leNat ((dramRead m (r.tagAddr (r.lineNo pa)) 8).take 4)).testBit 31 then .poisoned else .pass, dramRead m pa 64, false, 0, 0,
        dramRead m pa 64 ++ dramRead m (r.tagAddr (r.lineNo pa)) 8⟩ := by
  simp only [readLine, h, hclean]

/-- A line written in MODE 1 reads back, poisoned as it was written. -/
theorem readLine_writeLine_mode1 (h : r.mode = 1) (hl : LineOf r pa) (hdata : data.length = 64) :
    ∃ raw, readLine (writeLine m r pa key major minor poison data) r pa key =
      ⟨if poison then .poisoned else .pass, data, false, 0, 0, raw⟩ := by
  have hw := writeLine_mode1 m r pa key data major minor poison h
  have hcheck : (meta1 poison ++ rsCheck (data ++ meta1 poison)).length = 8 := by simp [meta1, rsCheck_length]
  have hline : dramRead (writeLine m r pa key major minor poison data) pa 64 = data := by
    rw [hw, dramRead_dramWrite_out _ _ _ _ _ (by rw [hcheck]; exact hl.tags_apart (hl.tag1_in h)), dramRead_write _ _ _ _ hdata]
  have htag : dramRead (writeLine m r pa key major minor poison data) (r.tagAddr (r.lineNo pa)) 8 =
      meta1 poison ++ rsCheck (data ++ meta1 poison) := by
    rw [hw, dramRead_write _ _ _ _ hcheck]
  have htop : (leNat ((meta1 poison ++ rsCheck (data ++ meta1 poison)).take 4)).testBit 31 = poison := by
    rw [List.take_left' (by simp [meta1]), meta1, leNat_leBytes_lt _ _ (by cases poison <;> decide)]
    rw [← Nat.add_zero (b2n poison * 2 ^ 31), testBit_top poison 0 (by decide)]
  have hclean : rsDecode (data ++ (meta1 poison ++ rsCheck (data ++ meta1 poison))) = .clean := by
    rw [← List.append_assoc]
    exact rsDecode_check _ (by simp [meta1, hdata])
  have hread := readLine_mode1 (writeLine m r pa key major minor poison data) r pa key h (by rw [hline, htag, hclean])
  rw [hline, htag, htop] at hread
  exact ⟨_, hread⟩

/-! ### MODE 2: encryption under the counters of a page (R365) -/

/-- The encrypted line with its MAJOR and MINOR written, its tag not yet. -/
def withCounters (ct : List Byte) : List Host.Cell :=
  setMinor2 (dramWrite (dramWrite m pa ct) (r.ctrAddr (r.lineNo pa)) (leBytes 8 major)) r (r.lineNo pa) minor

theorem writeLine_mode2 (h : r.mode = 2) : writeLine m r pa key major minor poison data =
    dramWrite (withCounters m r pa major minor (cryptLine key pa major minor data)) (r.tagAddr (r.lineNo pa))
      (leBytes 8 (lineTag key (if poison then 2 else 1) pa major minor (cryptLine key pa major minor data))) := by
  simp only [writeLine, h, withCounters]

theorem readLine_mode2 (h : r.mode = 2)
    (htag : leNat (dramRead m (r.tagAddr (r.lineNo pa)) 8) =
      lineTag key 1 pa (majorOf m r (r.lineNo pa)) (minorOf m r (r.lineNo pa)) (dramRead m pa 64)) :
    readLine m r pa key =
      ⟨.pass, cryptLine key pa (majorOf m r (r.lineNo pa)) (minorOf m r (r.lineNo pa)) (dramRead m pa 64), false,
        majorOf m r (r.lineNo pa), minorOf m r (r.lineNo pa), dramRead m pa 64 ++ dramRead m (r.tagAddr (r.lineNo pa)) 8⟩ := by
  simp only [readLine, h, htag, if_true]

/-- The minors of a page follow its MAJOR. -/
theorem dramRead_setMinor2_out (a n i mn : Nat) (h : a + n ≤ r.ctrAddr i + 8 ∨ r.ctrAddr i + 64 ≤ a) :
    dramRead (setMinor2 m r i mn) a n = dramRead m a n :=
  dramRead_dramWrite_out _ _ _ _ _ (by rw [leBytes_length]; omega)

/-- A MINOR written reads back. -/
theorem leNat_minors_setMinor2 (i : Nat) (hminor : minor < 128) :
    bits (leNat (dramRead (setMinor2 m r i minor) (r.ctrAddr i + 8) 56)) (7 * (i % 64) + 6) (7 * (i % 64)) = minor := by
  have hold := leNat_lt (dramRead m (r.ctrAddr i + 8) 56)
  rw [dramRead_length, show 8 * 56 = 448 from rfl] at hold
  rw [setMinor2, dramRead_write _ _ _ _ (leBytes_length ..), leNat_leBytes]
  rw [put_minor _ minor (i % 64) (Nat.mod_lt _ (by decide)) hold, Nat.mod_eq_of_lt hminor]

section
variable (hl : LineOf r pa) (h : r.mode = 2)
include hl h

theorem dramRead_withCounters_line (ct : List Byte) (hct : ct.length = 64) :
    dramRead (withCounters m r pa major minor ct) pa 64 = ct := by
  have hapart := hl.tags_apart (hl.ctr_in h)
  rw [withCounters, dramRead_setMinor2_out _ _ _ _ _ _ (by omega),
    dramRead_dramWrite_out _ _ _ _ _ (by rw [leBytes_length]; omega), dramRead_write _ _ _ _ hct]

/-- A tag leaves the counters. -/
theorem counters_of_tag (a : List Host.Cell) (tag : List Byte) (htag : tag.length = 8) :
    majorOf (dramWrite a (r.tagAddr (r.lineNo pa)) tag) r (r.lineNo pa) = majorOf a r (r.lineNo pa) ∧
      minorOf (dramWrite a (r.tagAddr (r.lineNo pa)) tag) r (r.lineNo pa) = minorOf a r (r.lineNo pa) := by
  have hbefore := hl.tag2_before h
  simp only [majorOf, minorOf, h, if_true]
  rw [dramRead_dramWrite_out _ _ _ _ _ (by omega), dramRead_dramWrite_out _ _ _ _ _ (by omega)]
  exact ⟨rfl, rfl⟩

omit hl in
theorem majorOf_withCounters (ct : List Byte) (hmajor : major < 2 ^ 64) :
    majorOf (withCounters m r pa major minor ct) r (r.lineNo pa) = major := by
  simp only [majorOf, h, if_true]
  rw [withCounters, dramRead_setMinor2_out _ _ _ _ _ _ (by omega), dramRead_write _ _ _ _ (leBytes_length ..), leNat_leBytes_lt _ _ hmajor]

omit hl in
theorem minorOf_withCounters (ct : List Byte) (hminor : minor < 128) :
    minorOf (withCounters m r pa major minor ct) r (r.lineNo pa) = minor := by
  simp only [minorOf, h, if_true]
  exact leNat_minors_setMinor2 _ r minor _ hminor

/-- A line written in MODE 2 reads back with its counters. -/
theorem readLine_writeLine_mode2 (hkey : key.length = 32) (hdata : data.length = 64) (hmajor : major < 2 ^ 64) (hminor : minor < 128) :
    ∃ raw, readLine (writeLine m r pa key major minor false data) r pa key = ⟨.pass, data, false, major, minor, raw⟩ := by
  have hw := writeLine_mode2 m r pa key data major minor false h
  obtain ⟨hcrypt, hback⟩ := encryptionInverts key data pa major minor hkey hdata
  generalize cryptLine key pa major minor data = ct at hw hcrypt hback
  obtain ⟨hmj, hmn⟩ := counters_of_tag r pa hl h (withCounters m r pa major minor ct) _
    (leBytes_length 8 (lineTag key 1 pa major minor ct))
  rw [if_neg Bool.false_ne_true] at hw
  rw [← hw, majorOf_withCounters m r pa major minor h ct hmajor] at hmj
  rw [← hw, minorOf_withCounters m r pa major minor h ct hminor] at hmn
  have hline : dramRead (writeLine m r pa key major minor false data) pa 64 = ct := by
    rw [hw, dramRead_dramWrite_out _ _ _ _ _ (by rw [leBytes_length]; exact hl.tags_apart (hl.tag2_in h)),
      dramRead_withCounters_line m r pa major minor hl h ct hcrypt]
  have htag : leNat (dramRead (writeLine m r pa key major minor false data) (r.tagAddr (r.lineNo pa)) 8) =
      lineTag key 1 pa major minor ct := by
    rw [hw, dramRead_write _ _ _ _ (leBytes_length ..), leNat_leBytes_lt _ _ (lineTag_lt ..)]
  have hread := readLine_mode2 (writeLine m r pa key major minor false data) r pa key h (by rw [htag, hmj, hmn, hline])
  rw [hmj, hmn, hline, hback] at hread
  exact ⟨_, hread⟩

end

/-! ### MODE 3: encryption, a check that corrects, and MAJOR in three lines of the page (R365, R367) -/

/-- The part of MAJOR that line i of a page holds. -/
def majorSlice (i : Nat) : Nat :=
  if i % 64 = 0 then bits major 23 0 else if i % 64 = 1 then bits major 47 24 else if i % 64 = 2 then bits major 63 48 else 0

/-- META of MODE 3: POISON, MINOR, and the line's part of MAJOR. -/
def meta3 (i : Nat) : Nat := b2n poison * 2 ^ 31 + minor % 128 * 2 ^ 24 + majorSlice major i

/-- What MODE 3 checks beside the line: its TAG and META. -/
def tag3 (ct : List Byte) : List Byte :=
  leBytes 8 (lineTag key 1 pa major minor ct) ++ leBytes 4 (meta3 major minor poison (r.lineNo pa))

theorem writeLine_mode3 (h : r.mode = 3) : writeLine m r pa key major minor poison data =
    dramWrite (dramWrite m pa (cryptLine key pa major minor data)) (r.tagAddr (r.lineNo pa))
      (tag3 r pa key major minor poison (cryptLine key pa major minor data) ++
        rsCheck (cryptLine key pa major minor data ++ tag3 r pa key major minor poison (cryptLine key pa major minor data))) := by
  simp only [writeLine, h, tag3, meta3, majorSlice]

/-- MAJOR with the part that the line's own META holds. -/
def majorWith (i mj mta : Nat) : Nat :=
  if i % 64 = 0 then mj / 2 ^ 24 * 2 ^ 24 + bits mta 23 0
  else if i % 64 = 1 then mj / 2 ^ 48 * 2 ^ 48 + bits mta 23 0 * 2 ^ 24 + mj % 2 ^ 24
  else if i % 64 = 2 then bits mta 15 0 * 2 ^ 48 + mj % 2 ^ 48
  else mj

section
variable (h : r.mode = 3) (l : List Byte) (hread : dramRead m pa 64 ++ dramRead m (r.tagAddr (r.lineNo pa)) 16 = l)
  (hclean : rsDecode l = .clean) (mta : Nat) (hmeta : fieldLE l 72 4 = mta)
include h hread hclean hmeta

theorem readLine_mode3_poisoned (hpoison : mta.testBit 31 = true) : (readLine m r pa key).check = .poisoned := by
  simp only [readLine, h, hread, hclean, hmeta, hpoison, if_true]

theorem readLine_mode3_pass (hpoison : mta.testBit 31 = false) (mj mn : Nat)
    (hmj : majorWith (r.lineNo pa) (majorOf m r (r.lineNo pa)) mta = mj) (hmn : bits mta 30 24 = mn)
    (htag : fieldLE l 64 8 = lineTag key 1 pa mj mn (l.take 64)) :
    readLine m r pa key = ⟨.pass, cryptLine key pa mj mn (l.take 64), false, mj, mn, l⟩ := by
  rw [majorWith] at hmj
  simp only [readLine, h, hread, hclean, hmeta, hpoison, Bool.false_eq_true, if_false, hmj, hmn, htag, if_true]

end

theorem majorSlice_lt (i : Nat) : majorSlice major i < 2 ^ 24 := by
  rw [majorSlice]
  simp only [bits]
  split_ifs <;> omega

section
variable (i : Nat)

theorem meta3_lt : meta3 major minor poison i < 2 ^ 32 := by
  have hslice := majorSlice_lt major i
  rw [meta3]
  cases poison <;> simp only [b2n, Bool.false_eq_true, if_true, if_false] <;> omega

theorem meta3_poison : (meta3 major minor poison i).testBit 31 = poison := by
  have hslice := majorSlice_lt major i
  rw [meta3, Nat.add_assoc]
  exact testBit_top poison _ (by omega)

theorem meta3_minor (hminor : minor < 128) : bits (meta3 major minor poison i) 30 24 = minor := by
  have hslice := majorSlice_lt major i
  rw [meta3, bits]
  cases poison <;> simp only [b2n, Bool.false_eq_true, if_true, if_false] <;> omega

theorem meta3_slice : bits (meta3 major minor poison i) 23 0 = majorSlice major i := by
  have hslice := majorSlice_lt major i
  rw [meta3, bits]
  cases poison <;> simp only [b2n, Bool.false_eq_true, if_true, if_false] <;> omega

/-- MAJOR, put together again with the part that a line holds of it, is MAJOR. -/
theorem majorWith_meta3 (hmajor : major < 2 ^ 64) : majorWith i major (meta3 major minor poison i) = major := by
  have hslice := meta3_slice major minor poison i
  generalize meta3 major minor poison i = mta at hslice
  rw [majorSlice] at hslice
  rw [majorWith]
  unfold bits at hslice ⊢
  split_ifs at hslice ⊢ <;> omega

end

/-- META of a line of the page after a write of META at another. -/
theorem metaOf_apart (h : r.mode = 3) (hl : LineOf r pa) (ct tag : List Byte) (hct : ct.length = 64) (htag : tag.length = 16) (j : Nat)
    (hj : j < r.lineNo pa / 64 * 64 + 64) (hne : j ≠ r.lineNo pa) :
    metaOf (dramWrite (dramWrite m pa ct) (r.tagAddr (r.lineNo pa)) tag) r j = metaOf m r j := by
  have hapart := hl.tags_apart (hl.tag3_in h hj)
  have hmine : r.tagAddr j + 16 ≤ r.tagAddr (r.lineNo pa) ∨ r.tagAddr (r.lineNo pa) + 16 ≤ r.tagAddr j := by
    simp only [Region.tagAddr, h, if_true]
    omega
  simp only [metaOf, h, if_true]
  rw [dramRead_dramWrite_out _ _ _ _ _ (by omega), dramRead_dramWrite_out _ _ _ _ _ (by omega)]

/-- MAJOR of a page depends on three METAs, and of these on their parts of MAJOR alone. -/
theorem majorOf_congr (h : r.mode = 3) (a b : List Host.Cell) (i : Nat)
    (h0 : bits (metaOf a r (i / 64 * 64)) 23 0 = bits (metaOf b r (i / 64 * 64)) 23 0)
    (h1 : bits (metaOf a r (i / 64 * 64 + 1)) 23 0 = bits (metaOf b r (i / 64 * 64 + 1)) 23 0)
    (h2 : bits (metaOf a r (i / 64 * 64 + 2)) 15 0 = bits (metaOf b r (i / 64 * 64 + 2)) 15 0) : majorOf a r i = majorOf b r i := by
  simp only [majorOf, h, show ¬ 3 = 2 by decide, if_false, if_true, h0, h1, h2]

/-- Writing a line with the MAJOR of its page leaves that MAJOR. -/
theorem majorOf_dramWrite (h : r.mode = 3) (hl : LineOf r pa) (hmajor : majorOf m r (r.lineNo pa) = major) (ct tag : List Byte)
    (hct : ct.length = 64) (htag : tag.length = 16)
    (hmeta : metaOf (dramWrite (dramWrite m pa ct) (r.tagAddr (r.lineNo pa)) tag) r (r.lineNo pa) =
      meta3 major minor poison (r.lineNo pa)) :
    majorOf (dramWrite (dramWrite m pa ct) (r.tagAddr (r.lineNo pa)) tag) r (r.lineNo pa) = major := by
  have hparts := hmajor
  simp only [majorOf, h, show ¬ 3 = 2 by decide, if_false, if_true] at hparts
  obtain ⟨hp0, hp1, hp2⟩ := major_parts _ _ _ _ hparts
  have hslice := meta3_slice major minor poison (r.lineNo pa)
  rw [← hmeta] at hslice
  have hout := metaOf_apart m r pa h hl ct tag hct htag
  rw [← hmajor]
  refine majorOf_congr r h _ _ _ ?_ ?_ ?_
  · by_cases hi : r.lineNo pa / 64 * 64 = r.lineNo pa
    · rw [← hp0, hi, hslice, majorSlice, if_pos (by omega)]
    · rw [hout _ (by omega) hi]
  · by_cases hi : r.lineNo pa / 64 * 64 + 1 = r.lineNo pa
    · rw [← hp1, hi, hslice, majorSlice, if_neg (by omega), if_pos (by omega)]
    · rw [hout _ (by omega) hi]
  · by_cases hi : r.lineNo pa / 64 * 64 + 2 = r.lineNo pa
    · rw [majorSlice, if_neg (by omega), if_neg (by omega), if_pos (by omega)] at hslice
      rw [← hp2, hi]
      simp only [bits] at hslice ⊢
      omega
    · rw [hout _ (by omega) hi]

theorem tag3_length (ct : List Byte) : (tag3 r pa key major minor poison ct).length = 12 := by
  simp [tag3]

/-- What lies in a line of MODE 3 and its tag bytes: the TAG, META and the check. -/
theorem fields_of_codeword (ct : List Byte) (hct : ct.length = 64) :
    fieldLE (ct ++ (tag3 r pa key major minor poison ct ++ rsCheck (ct ++ tag3 r pa key major minor poison ct))) 64 8 =
        lineTag key 1 pa major minor ct ∧
      fieldLE (ct ++ (tag3 r pa key major minor poison ct ++ rsCheck (ct ++ tag3 r pa key major minor poison ct))) 72 4 =
        meta3 major minor poison (r.lineNo pa) := by
  generalize rsCheck _ = check
  simp only [tag3, fieldLE, List.append_assoc]
  constructor
  · rw [slice_middle _ _ _ 64 8 hct (leBytes_length ..), leNat_leBytes_lt _ _ (lineTag_lt ..)]
  · rw [← List.append_assoc, slice_middle _ _ _ 72 4 (by simp [hct]) (leBytes_length ..), leNat_leBytes_lt _ _ (meta3_lt ..)]

/-- META as a line of MODE 3 was written. -/
theorem metaOf_dramWrite (h : r.mode = 3) (a : List Host.Cell) (ct check : List Byte) :
    metaOf (dramWrite a (r.tagAddr (r.lineNo pa)) (tag3 r pa key major minor poison ct ++ check)) r (r.lineNo pa) =
      meta3 major minor poison (r.lineNo pa) := by
  have hmeta := dramRead_mid a (r.tagAddr (r.lineNo pa)) 4 (leBytes 8 (lineTag key 1 pa major minor ct))
    (leBytes 4 (meta3 major minor poison (r.lineNo pa))) check (leBytes_length ..)
  rw [leBytes_length] at hmeta
  simp only [metaOf, h, if_true]
  rw [tag3, hmeta, leNat_leBytes_lt _ _ (meta3_lt ..)]

section
variable (h : r.mode = 3) (hl : LineOf r pa) (hkey : key.length = 32) (hdata : data.length = 64)
include h hl hkey hdata

/-- What a line written in MODE 3 and its tag bytes read as: a clean codeword. -/
theorem codeword_writeLine (ct : List Byte) (hct : ct = cryptLine key pa major minor data) :
    dramRead (writeLine m r pa key major minor poison data) pa 64 ++
        dramRead (writeLine m r pa key major minor poison data) (r.tagAddr (r.lineNo pa)) 16 =
      ct ++ (tag3 r pa key major minor poison ct ++ rsCheck (ct ++ tag3 r pa key major minor poison ct)) ∧
    rsDecode (ct ++ (tag3 r pa key major minor poison ct ++ rsCheck (ct ++ tag3 r pa key major minor poison ct))) = .clean := by
  have hlen : ct.length = 64 := hct ▸ (encryptionInverts key data pa major minor hkey hdata).1
  have htag := tag3_length r pa key major minor poison ct
  have htags : (tag3 r pa key major minor poison ct ++ rsCheck (ct ++ tag3 r pa key major minor poison ct)).length = 16 := by
    rw [List.length_append, htag, rsCheck_length]
  have hapart := hl.tags_apart (hl.tag3_in h (show r.lineNo pa < _ by omega))
  constructor
  · rw [writeLine_mode3 _ _ _ _ _ _ _ _ h, ← hct, dramRead_write _ _ _ _ htags, dramRead_dramWrite_out _ _ _ _ _ (by omega),
      dramRead_write _ _ _ _ hlen]
  · rw [← List.append_assoc]
    exact rsDecode_check _ (by rw [List.length_append, hlen, htag])

/-- A line written poisoned in MODE 3 reads as poisoned. -/
theorem readLine_writeLine_mode3_poisoned : (readLine (writeLine m r pa key major minor true data) r pa key).check = .poisoned := by
  have hct := (encryptionInverts key data pa major minor hkey hdata).1
  obtain ⟨hread, hclean⟩ := codeword_writeLine m r pa key data major minor true h hl hkey hdata _ rfl
  obtain ⟨-, hmeta⟩ := fields_of_codeword r pa key major minor true _ hct
  exact readLine_mode3_poisoned _ r pa key h _ hread hclean _ hmeta (meta3_poison major minor true _)

/-- A line written in MODE 3 with the MAJOR of its page reads back with its counters. -/
theorem readLine_writeLine_mode3 (hmajor : major < 2 ^ 64) (hminor : minor < 128) (hpage : majorOf m r (r.lineNo pa) = major) :
    ∃ raw, readLine (writeLine m r pa key major minor false data) r pa key = ⟨.pass, data, false, major, minor, raw⟩ := by
  obtain ⟨hct, hback⟩ := encryptionInverts key data pa major minor hkey hdata
  obtain ⟨hread, hclean⟩ := codeword_writeLine m r pa key data major minor false h hl hkey hdata _ rfl
  obtain ⟨htag, hmeta⟩ := fields_of_codeword r pa key major minor false _ hct
  have hmj : majorOf (writeLine m r pa key major minor false data) r (r.lineNo pa) = major := by
    rw [writeLine_mode3 _ _ _ _ _ _ _ _ h]
    exact majorOf_dramWrite m r pa major minor false h hl hpage _ _ hct (by rw [List.length_append, tag3_length, rsCheck_length])
      (metaOf_dramWrite r pa key major minor false h _ _ _)
  have hpass := readLine_mode3_pass _ r pa key h _ hread hclean _ hmeta (meta3_poison major minor false _) major minor
    (by rw [hmj]; exact majorWith_meta3 major minor false _ hmajor) (meta3_minor major minor false _ hminor)
    (by rw [htag, List.take_left' hct])
  rw [List.take_left' hct, hback] at hpass
  exact ⟨_, hpass⟩

end

/-! ### What a line's write leaves -/

/-- A write within the line or within tag storage leaves the bytes outside both. -/
theorem dramGet_dramWrite_tags {a x n : Nat} (b : List Byte) (hin : r.InTags x n) (hn : b.length = n)
    (hout : a < r.tagBase ∨ r.tagBase + r.tagSize ≤ a) : dramGet (dramWrite m x b) a = dramGet m a := by
  obtain ⟨hlow, hhigh⟩ := hin
  exact dramGet_dramWrite_out _ _ _ _ (by omega)

/-- A line's write leaves every byte outside the line and the entry's tag storage. -/
theorem dramGet_writeLine_out (hmode : r.mode ≤ 3) (hl : LineOf r pa) (hkey : key.length = 32) (hdata : data.length = 64) (a : Nat)
    (hline : a < pa ∨ pa + 64 ≤ a) (htags : a < r.tagBase ∨ r.tagBase + r.tagSize ≤ a) :
    dramGet (writeLine m r pa key major minor poison data) a = dramGet m a := by
  have hct := (encryptionInverts key data pa major minor hkey hdata).1
  have hbytes : ∀ (b : List Byte), b.length = 64 → dramGet (dramWrite m pa b) a = dramGet m a := fun b hb =>
    dramGet_dramWrite_out _ _ _ _ (by omega)
  obtain h | h | h | h : r.mode = 0 ∨ r.mode = 1 ∨ r.mode = 2 ∨ r.mode = 3 := by omega
  · rw [writeLine_mode0 _ _ _ _ _ _ _ _ h, hbytes _ hdata]
  · rw [writeLine_mode1 _ _ _ _ _ _ _ _ h,
      dramGet_dramWrite_tags _ r _ (hl.tag1_in h) (by simp [meta1, rsCheck_length]) htags, hbytes _ hdata]
  · obtain ⟨hlow, hhigh⟩ := hl.ctr_in h
    rw [writeLine_mode2 _ _ _ _ _ _ _ _ h, dramGet_dramWrite_tags _ r _ (hl.tag2_in h) (leBytes_length ..) htags, withCounters, setMinor2,
      dramGet_dramWrite_tags _ r _ ⟨by omega, by omega⟩ (leBytes_length 56 _) htags,
      dramGet_dramWrite_tags _ r _ ⟨hlow, by omega⟩ (leBytes_length 8 _) htags, hbytes _ hct]
  · rw [writeLine_mode3 _ _ _ _ _ _ _ _ h,
      dramGet_dramWrite_tags _ r _ (hl.tag3_in h (show r.lineNo pa < _ by omega))
        (by rw [List.length_append, tag3_length, rsCheck_length]) htags, hbytes _ hct]

end

/-- Settles O25: each mode has its own reading back, and a write stays within the line and tag storage. -/
theorem linesReadBack : Obligations.LinesReadBack := by
  intro m r pa key data major minor hmode hlow hhigh hal hpages hapart hkey hdata hmajor hminor hpage
  have hl : LineOf r pa := ⟨hlow, hhigh, hal, hpages, hapart⟩
  refine ⟨?_, ?_, fun poison a hline htags => dramGet_writeLine_out m r pa key data major minor poison hmode hl hkey hdata a hline htags⟩
  · obtain h | h | h | h : r.mode = 0 ∨ r.mode = 1 ∨ r.mode = 2 ∨ r.mode = 3 := by omega
    · rw [writeLine_mode0 _ _ _ _ _ _ _ _ h, readLine_mode0 _ _ _ _ h, dramRead_write _ _ _ _ hdata]
      exact ⟨rfl, rfl, rfl, fun h2 => by omega⟩
    · obtain ⟨raw, hread⟩ := readLine_writeLine_mode1 m r pa key data major minor false h hl hdata
      rw [hread]
      exact ⟨rfl, rfl, rfl, fun h2 => by omega⟩
    · obtain ⟨raw, hread⟩ := readLine_writeLine_mode2 m r pa key data major minor hl h hkey hdata hmajor hminor
      rw [hread]
      exact ⟨rfl, rfl, rfl, fun _ => ⟨rfl, rfl⟩⟩
    · obtain ⟨raw, hread⟩ := readLine_writeLine_mode3 m r pa key data major minor h hl hkey hdata hmajor hminor (hpage h)
      rw [hread]
      exact ⟨rfl, rfl, rfl, fun _ => ⟨rfl, rfl⟩⟩
  · rintro (h | h)
    · obtain ⟨raw, hread⟩ := readLine_writeLine_mode1 m r pa key data major minor true h hl hdata
      rw [hread]
      rfl
    · exact readLine_writeLine_mode3_poisoned m r pa key data major minor h hl hkey hdata

end Sys2Proof.Machine
end

section
/-! The memory controllers: MEM_ENABLE, the training of their channels and its end, and the commands that come to a READY channel or to one in
self-refresh. -/

namespace Sys2Proof.Machine

/-! ### MEM_ENABLE and training (R355) -/

/-- MEM_ENABLE 1 in OFF or FAULT, with every memory PLL locked and VDDQ up, takes every channel to TRAINING. -/
theorem ownMemEnable_trains (s : State) (hstate : s.reg O.MEM_MEM_STATE = 0 ∨ s.reg O.MEM_MEM_STATE = 3)
    (hlocked : (List.range 4).all (fun q => s.pllLocked (pllM q)) = true) (hvddq : s.isSet O.SUP_VDDQ_LOW = false) :
    ownMemEnable 1 s =
      (.okay, (List.range 8).foldl
        (fun (s : State) m => ((s.setReg (O.MEMC_STATE m) 1).setReg (O.MEMC_TRAIN_STEP m) 0).setReg (O.MEMC_TRAIN_STATUS m) 0)
        { (s.noteStep1.setReg O.MEM_MEM_ENABLE 1).setReg O.MEM_MEM_STATE 1 with memInitAt := s.now }) := by
  have hup : ((List.range 4).any fun q => !s.pllLocked (pllM q)) = false := by
    rw [← List.not_all_eq_any_not, hlocked]
    rfl
  simp only [ownMemEnable, if_pos hstate, hup, hvddq, Bool.or_self, Bool.false_eq_true, if_false, if_true]

/-- MEM_ENABLE 0 with no valid region takes every channel to OFF. -/
theorem ownMemEnable_off (s : State) (h : s.anyRegion = false) :
    ownMemEnable 0 s =
      (.okay, (List.range 8).foldl (fun (s : State) m => s.setReg (O.MEMC_STATE m) 0)
        (((s.noteStep1.setReg O.MEM_MEM_ENABLE 0).setReg O.MEM_MEM_STATE 0).setReg O.MEM_CAPACITY 0)) := by
  simp only [ownMemEnable, h, Nat.zero_ne_one, Bool.false_eq_true, if_false]

/-- A step of a channel in TRAINING that passes its bound fails the channel. -/
theorem exec_trainingStepTimeout_fails (s u : State) (t : Nat) (m : Fin 8) (step : Fin 7) (hu : u = s.tickTo t)
    (h : u.reg (O.MEMC_STATE m.val) = 1) :
    exec (.trainingStepTimeout t m step) s =
      .next ((if step.val = 0 then u else { u with memStep1 := Tbl.set false u.memStep1 m.val true }).memChannelFail m.val (step.val + 1)
        .timeout) := by
  rw [exec_trainingStepTimeout, execTrainingStepTimeout, ← hu]
  exact congrArg _ (if_pos h)

/-- With every channel in TRAINING the memory becomes READY. -/
theorem exec_memInitComplete_ready (s u : State) (t : Nat) (hu : u = s.tickTo t) (hstate : u.reg O.MEM_MEM_STATE = 1)
    (hall : (List.range 8).all (fun m => decide (u.reg (O.MEMC_STATE m) = 1)) = true) :
    exec (.memInitComplete t) s =
      .next ((List.range 8).foldl
        (fun (s : State) m =>
          ({ s with memStep1 := Tbl.set false s.memStep1 m true }.setReg (O.MEMC_STATE m) 2).setReg (O.MEMC_TRAIN_STEP m) 7)
        ((u.setReg O.MEM_MEM_STATE 2).setReg O.MEM_CAPACITY (capacityOf (u.reg O.MEM_MEM_CONFIG)))) := by
  rw [exec_memInitComplete, execMemInitComplete, ← hu]
  exact congrArg _ (if_pos ⟨hstate, hall⟩)

/-! ### Channels in READY (R356, R357) -/

section
variable (s u : State) (t : Nat) (m : Fin 8) (hu : u = s.tickTo t) (hready : u.reg (O.MEMC_STATE m.val) = 2)
include hu hready

/-- A measurement that is due is taken, and a drift beyond 1/16 UI moves the delays. -/
theorem exec_retrainInterval_due (drift : Int)
    (hdue : Tbl.get 0 u.retrainAt m.val + u.reg (O.MEMC_RETRAIN_INTERVAL m.val) * Config.msUnits ≤ u.now) :
    exec (.retrainInterval t m drift) s =
      .next (if drift.natAbs > 16 then
        { { u with retrainAt := Tbl.set 0 u.retrainAt m.val u.now }.bump (O.MEMC_RETRAINS m.val) 1 with
          dqDelay := Tbl.set 0 u.dqDelay m.val (Tbl.get 0 u.dqDelay m.val + drift) }
      else { u with retrainAt := Tbl.set 0 u.retrainAt m.val u.now }) := by
  rw [exec_retrainInterval, execRetrainInterval, ← hu]
  exact congrArg _ (if_neg (not_or.mpr ⟨not_not_intro hready, Nat.not_lt_of_le hdue⟩))

theorem exec_zqLatch_due (hdue : Tbl.get 0 u.zqAt m.val + 64 * Config.msUnits ≤ u.now) :
    exec (.zqLatch t m) s = .next { u with zqAt := Tbl.set 0 u.zqAt m.val u.now } := by
  rw [exec_zqLatch, execZqLatch, ← hu]
  exact congrArg _ (if_pos ⟨hready, hdue⟩)

/-- A refresh that is due is postponed while its bank has accesses waiting, up to 8 intervals, and issued otherwise. -/
theorem exec_refreshInterval_ready (bank late : Nat) (waiting : Bool) (h : Tbl.get (0, 0) u.refresh m.val = (bank, late)) :
    exec (.refreshInterval t m waiting) s =
      .next (if waiting ∧ late < 8 then
          ({ u with refresh := Tbl.set (0, 0) u.refresh m.val (bank, late + 1) }.bump (O.MEMC_REF_POSTPONED m.val) 1).countEvent 3 m.val 2 1
        else if waiting then { u with refresh := Tbl.set (0, 0) u.refresh m.val ((bank + 1) % 8, late) }
        else { u with refresh := Tbl.set (0, 0) u.refresh m.val ((bank + 1 + late) % 8, 0) }) := by
  rw [exec_refreshInterval, execRefreshInterval, ← hu]
  simp only [h]
  exact congrArg _ (if_neg (not_not_intro hready))

/-- A code that is polled is recorded, and one of a hot device sets HOT. -/
theorem exec_mr4Poll_ready (code : Nat) :
    exec (.mr4Poll t m code) s =
      .next (if code % 8 ≥ 5 then (u.setReg (O.MEMC_MR4 m.val) (code % 8)).setFlag (O.MEMC_HOT m.val) 0 (O.MEMC_HOT_COUNT m.val) 1
        else u.setReg (O.MEMC_MR4 m.val) (code % 8)) := by
  rw [exec_mr4Poll, execMr4Poll, ← hu]
  exact congrArg _ (if_neg (not_not_intro hready))

end

/-! ### Self-refresh (R358) -/

/-- A channel whose shed, PLL, clock and supply are back leaves self-refresh, and what waited for it proceeds. -/
theorem exec_selfRefreshExit_leaves (s u : State) (t : Nat) (m : Fin 8) (hu : u = s.tickTo t) (hstate : u.reg (O.MEMC_STATE m.val) = 3)
    (hon : u.shedOn (quadStop (m.val / 2) 20) = true) (hlocked : u.pllLocked (pllM (m.val / 2)) = true) (hclk : u.clkLost = false)
    (hvddq : u.isSet O.SUP_VDDQ_LOW = false) :
    exec (.selfRefreshExit t m) s =
      .next (((u.setReg (O.MEMC_STATE m.val) 2).setReg (O.MEMC_TRAIN_STEP m.val) 7).memDrain) := by
  rw [exec_selfRefreshExit, execSelfRefreshExit, ← hu]
  exact congrArg _ (if_pos ⟨hstate, hon, hlocked, by rw [hclk]; rfl, by rw [hvddq]; rfl⟩)

/-- Settles O39: each clause is what the owner of MEM_ENABLE does, or its row's law on a channel in the state it asks for. -/
theorem memoryControllerCommandsComplete : Obligations.MemoryControllerCommandsComplete := by
  refine ⟨?_, ?_, exec_trainingStepTimeout_fails, exec_memInitComplete_ready, ?_, ?_, exec_zqLatch_due, ?_, ?_, ?_, ?_, ?_,
    exec_selfRefreshExit_leaves⟩
  · rintro s _ t r rfl hw hstate hlocked hvddq
    rw [exec_memEnable, execMemEnable]
    exact congrArg _ (State.writeObj_okays _ _ _ _ _ _ hw (ownMemEnable_trains _ hstate hlocked hvddq))
  · rintro s _ t r rfl hw h
    rw [exec_memEnable, execMemEnable]
    exact congrArg _ (State.writeObj_okays _ _ _ _ _ _ hw (ownMemEnable_off _ h))
  · intro s u t m drift hu hready hdue hdrift
    rw [exec_retrainInterval_due s u t m hu hready drift hdue, if_pos hdrift]
  · intro s u t m drift hu hready hdue hdrift
    rw [exec_retrainInterval_due s u t m hu hready drift hdue, if_neg (Nat.not_lt_of_le hdrift)]
  · intro s u t m bank late hu hready h hlate
    rw [exec_refreshInterval_ready s u t m hu hready bank late true h, if_pos ⟨rfl, hlate⟩]
  · intro s u t m bank late hu hready h hlate
    rw [exec_refreshInterval_ready s u t m hu hready bank late true h, if_neg fun hno => Nat.not_lt_of_le hlate hno.2, if_pos rfl]
  · intro s u t m bank late hu hready h
    rw [exec_refreshInterval_ready s u t m hu hready bank late false h, if_neg fun hno => Bool.false_ne_true hno.1,
      if_neg Bool.false_ne_true]
  · intro s u t m code hu hready hhot
    rw [exec_mr4Poll_ready s u t m hu hready code, if_pos hhot]
  · intro s u t m code hu hready hcool
    rw [exec_mr4Poll_ready s u t m hu hready code, if_neg (Nat.not_le_of_lt hcool)]

end Sys2Proof.Machine
end

section
/-! Accesses to pattern memory: lines read, lines written whole or in part, the re-encryption of a page whose MINOR overflows, and the memory
window. -/

namespace Sys2Proof.Machine

/-! ### Reads (R364, R367) -/

/-- The line access of a request to an entry: a key taken from its store, the counters of its controller and of its KID, and the tag
lines that it needs. -/
def State.lineAccess (v : State) (rg : Region) (pa kid : Nat) (write : Bool) : State :=
  ((((if kid = 0 then v else v.sramRead 6 0 kid 1).bump (if write then O.MEMC_WRITES (v.memCtl pa) else O.MEMC_READS (v.memCtl pa)) 1).countEvent
    3 (v.memCtl pa) (b2n write) 1).bump (O.KID_ACCESSES kid) 1).tagAccess (v.memCtl pa) rg (rg.lineNo pa) write kid

section
variable (v w : State) (e : Nat) (rg : Region)

/-- A line that passes its check is read, and a corrected symbol is counted. -/
theorem State.memReadLine_pass (addr : Nat) (l : LineRead) (hst : v.memStatus (addr / 64 * 64) = .okay)
    (hwait : v.memWaits (addr / 64 * 64) = false) (hrg : v.regionOf (paOf (addr / 64 * 64)) = some (e, rg))
    (hw : w = v.lineAccess rg (paOf (addr / 64 * 64)) (kidOf (addr / 64 * 64)) false)
    (hl : l = w.readLineAt rg (paOf (addr / 64 * 64)) (w.kidKey (w.effKid (kidOf (addr / 64 * 64)) (paOf (addr / 64 * 64)))))
    (hpass : l.check = .pass) :
    v.memReadLine addr = (some (.okay, l.data), (if l.fixed then w.bump O.MEM_CORRECTED 1 else w).memTally (addr / 64 * 64) false .okay) := by
  simp only [State.lineAccess, Bool.false_eq_true, if_false, b2n] at hw
  simp only [State.memReadLine, hst, hwait, hrg, ne_eq, not_true, Bool.false_eq_true, if_false, ← hw, ← hl, hpass]

/-- A read of one line is the read of that line. -/
theorem State.memReadLines_one (addr : Nat) (d : List Byte) (h : v.memReadLine addr = (some (.okay, d), w)) :
    v.memReadLines addr 1 = (some (.okay, d), w) := by
  simp only [State.memReadLines, h, if_true, List.append_nil]

/-- MEMORY_READ of one line that is read. -/
theorem exec_memoryRead_one (s u : State) (t addr lat wait : Nat) (d : List Byte) (hu : u = s.tickTo t) (hv : v = u.memMeasure addr lat wait)
    (h : v.memReadLine addr = (some (.okay, d), w)) : exec (.memoryRead t addr 1 lat wait) s = .next (w.memReply .okay d) := by
  rw [exec_memoryRead, execMemoryRead, ← hu, ← hv]
  simp only [v.memReadLines_one w addr d h]

/-! ### Writes (R366 to R368) -/

section
variable (addr : Nat) (b : List Byte) (hst : v.memStatus addr = .okay) (hwait : v.memWaits addr = false)
include hst hwait

section
variable (hrg : v.regionOf (paOf addr / 64 * 64) = some (e, rg))
  (hw : w = v.lineAccess rg (paOf addr / 64 * 64) (kidOf addr) true)
include hrg hw

section
variable (hwhole : (b.length == 64 || rg.mode == 0) = true)
include hwhole

/-- A whole line, or bytes of a plain one, is written under the next MINOR, where that does not overflow. -/
theorem State.memWriteLine_whole (hminor : rg.mode < 2 ∨ minorOf w.dram rg (rg.lineNo (paOf addr / 64 * 64)) ≠ 127) :
    v.memWriteLine addr b =
      (some .okay,
        ({ w with dram := writeLine w.dram rg (paOf addr / 64 * 64) (v.kidKey (v.effKid (kidOf addr) (paOf addr / 64 * 64)))
                            (majorOf w.dram rg (rg.lineNo (paOf addr / 64 * 64)))
                            (minorOf w.dram rg (rg.lineNo (paOf addr / 64 * 64)) + 1) false
                            (if b.length = 64 then b else splice (dramRead w.dram (paOf addr / 64 * 64) 64) (paOf addr % 64) b) }.lineWritten
          (paOf addr / 64 * 64)).memTally addr true .okay) := by
  simp only [State.lineAccess, if_true, b2n] at hw
  have hfits : ¬(rg.mode ≥ 2 ∧ minorOf w.dram rg (rg.lineNo (paOf addr / 64 * 64)) = 127) := by omega
  simp only [State.memWriteLine, hst, hwait, hrg, hwhole, Bool.true_or, ne_eq, not_true, Bool.false_eq_true, if_false, if_true, ← hw,
    if_neg hfits]

/-- Where MINOR would overflow, the write triggers the re-encryption of its page and waits for it. -/
theorem State.memWriteLine_overflows (hmode : 2 ≤ rg.mode) (hminor : minorOf w.dram rg (rg.lineNo (paOf addr / 64 * 64)) = 127) :
    v.memWriteLine addr b = (none, w.triggerReenc addr b) := by
  simp only [State.lineAccess, if_true, b2n] at hw
  simp only [State.memWriteLine, hst, hwait, hrg, hwhole, Bool.true_or, ne_eq, not_true, Bool.false_eq_true, if_false, if_true, ← hw,
    hmode, hminor, and_self]

end

/-- Bytes within a line that passes its check are merged into it, where MINOR does not overflow. -/
theorem State.memWriteLine_part (hpart : (b.length == 64 || rg.mode == 0) = false) (l : LineRead)
    (hl : l = v.readLineAt rg (paOf addr / 64 * 64) (v.kidKey (v.effKid (kidOf addr) (paOf addr / 64 * 64)))) (hpass : l.check = .pass)
    (hminor : rg.mode < 2 ∨ l.minor ≠ 127) :
    v.memWriteLine addr b =
      (some .okay,
        { (if l.fixed then w.bump O.MEM_CORRECTED 1 else w) with
          dram := writeLine (if l.fixed then w.bump O.MEM_CORRECTED 1 else w).dram rg (paOf addr / 64 * 64)
            (v.kidKey (v.effKid (kidOf addr) (paOf addr / 64 * 64))) l.major (l.minor + 1) false
            (splice l.data (paOf addr % 64) b) }.memTally addr true .okay) := by
  simp only [State.lineAccess, if_true, b2n] at hw
  have hfits : ¬(rg.mode ≥ 2 ∧ l.minor = 127) := by omega
  simp only [State.memWriteLine, hst, hwait, hrg, hpart, ← hl, hpass, show (Check.pass != Check.poisoned) = true from rfl, Bool.or_true,
    ne_eq, not_true, Bool.false_eq_true, if_false, ← hw, if_neg hfits]

end

end

/-! ### Requests that do not wait -/

section
variable (addr : Nat) (b : List Byte) (hwait : v.memWaits addr = false)
include hwait

/-- A write that does not wait is performed. -/
theorem State.memWriteReq_performs : v.memWriteReq addr b = v.memWriteLine addr b := by
  rw [State.memWriteReq, if_neg fun h => Bool.false_ne_true (hwait ▸ h.2)]

/-- FULL_LINE_WRITE replies what the write of its line answers. -/
theorem exec_fullLineWrite_okay (s u x : State) (t addr' lat wait : Nat) (haddr : addr = addr' / 64 * 64) (hu : u = s.tickTo t)
    (hv : v = u.memMeasure addr' lat wait) (h : v.memWriteLine addr b = (some .okay, x)) :
    exec (.fullLineWrite t addr' b lat wait) s = .next (x.memReply .okay []) := by
  subst haddr
  rw [exec_fullLineWrite, execFullLineWrite, ← hu, ← hv, v.memWriteReq_performs _ b hwait, h]

/-- So does PARTIAL_WRITE. -/
theorem exec_partialWrite_okay (s u x : State) (t lat wait : Nat) (hu : u = s.tickTo t)
    (hv : v = u.memMeasure addr lat wait) (h : v.memWriteLine addr b = (some .okay, x)) :
    exec (.partialWrite t addr b lat wait) s = .next (x.memReply .okay []) := by
  rw [exec_partialWrite, execPartialWrite, ← hu, ← hv, v.memWriteReq_performs _ b hwait, h]

/-- PAGE_REENCRYPTION of a write that overflows MINOR. -/
theorem exec_pageReencryption_waits (s x : State) (t : Nat) (hv : v = s.tickTo t) (hover : v.overflows addr = true)
    (h : v.memWriteLine addr b = (none, x)) : exec (.pageReencryption t addr b) s = .next x := by
  rw [exec_pageReencryption, execPageReencryption, ← hv, if_pos hover, v.memWriteReq_performs _ b hwait, h]

end

end

/-! ### Page re-encryption (R366) -/

/-- A page that is done lies under the next MAJOR, the write that waited for it merged, and what waited for it proceeds. -/
theorem exec_pageReencryptionDone_done (s u : State) (t page wait e : Nat) (v : State) (q : MemReq) (rg : Region) (key data : List Byte)
    (pa : Nat) (m1 : List Host.Cell) (hu : u = s.tickTo t) (hq : Tbl.get none u.reenc page = some q) (hclk : u.clkLost = false)
    (hv : v = u.pipeWait 1 wait) (hrg : v.regionOf (page * 4096) = some (e, rg))
    (hkey : key = v.kidKey (v.effKid (kidOf q.addr) (page * 4096))) (hpa : pa = paOf q.addr / 64 * 64)
    (hdata : data = if q.bytes.length = 64 then q.bytes else splice (v.readLineAt rg pa key).data (paOf q.addr % 64) q.bytes)
    (hm : m1 = (rekeyPage v.dram v.lostLine rg page key key).1) :
    exec (.pageReencryptionDone t page wait) s =
      .next (((((({ v with
        dram := writeLine m1 rg pa key (majorOf v.dram rg (rg.lineNo pa) + 1) 0 false data, reenc := Tbl.set none v.reenc page none,
        lostLines := v.lostLines.filter fun x => x.1 / 64 != page } : State).bump O.MEM_REENCRYPTIONS 1).ledMove 0x1064 2 1 1).ledMove
          0x1067 4 1 1).memReply .okay []).memDrain) := by
  have hqv : Tbl.get none v.reenc page = some q := by
    rw [hv]
    exact hq
  have hdone : Option.isSome (Tbl.get none u.reenc page) = true ∧ (!u.clkLost) = true := by rw [hq, hclk]; exact ⟨rfl, rfl⟩
  rw [exec_pageReencryptionDone, execPageReencryptionDone, ← hu]
  simp only [if_pos hdone, ← hv, State.pageDone, hqv, hrg, ← hkey, ← hpa, ← hdata, ← hm]

/-! ### The memory window (*Table 13.14*) -/

theorem ownWindow_writes (img : List Byte) (s w : State) (hlen : img.length ≤ 65536)
    (h : s.memWriteBytes (bits (s.reg O.MEM_WINDOW_ADDR) 47 0) img 1025 = (.okay, w)) : ownWindow img 0 s = (.okay, w) := by
  simp only [ownWindow, unscheduled_zero, Nat.not_lt_of_le hlen, if_false, h]

/-- Settles O40: a read, a write of a whole line, of part of one, and one that overflows MINOR have a law each. -/
theorem memoryAccessCommandsComplete : Obligations.MemoryAccessCommandsComplete := by
  refine ⟨?_, ?_, ?_, ?_, ?_, exec_pageReencryptionDone_done, ?_⟩
  · intro s u t addr lat wait e v w rg l hu hv hst hwait hrg hw hl hpass
    exact exec_memoryRead_one v _ s u t addr lat wait _ hu hv (v.memReadLine_pass w e rg addr l hst hwait hrg hw hl hpass)
  · intro s u t addr lat wait e b v w rg hu hv hst hwait hrg hw hlen hminor
    have hwrite := v.memWriteLine_whole w e rg _ b hst hwait hrg hw (by rw [hlen]; rfl) hminor
    rw [if_pos hlen] at hwrite
    exact exec_fullLineWrite_okay v _ b hwait s u _ t addr lat wait rfl hu hv hwrite
  · intro s u t addr lat wait e b v w rg hu hv hst hwait hrg hw hlen hmode
    have hwrite := v.memWriteLine_whole w e rg _ b hst hwait hrg hw (by rw [hmode]; exact Bool.or_true _) (.inl (by omega))
    rw [if_neg (Nat.ne_of_lt hlen)] at hwrite
    exact exec_partialWrite_okay v _ b hwait s u _ t lat wait hu hv hwrite
  · intro s u t addr lat wait e b v w rg l hu hv hst hwait hrg hw hlen hmode hl hpass hminor
    have hpart : (b.length == 64 || rg.mode == 0) = false := by simp [Nat.ne_of_lt hlen, hmode]
    exact exec_partialWrite_okay v _ b hwait s u _ t lat wait hu hv
      (v.memWriteLine_part w e rg _ b hst hwait hrg hw hpart l hl hpass hminor)
  · rintro s _ t addr e b v w rg rfl hv hover hst hwait hrg hw hlen hmode hminor
    rw [← hv] at hover
    exact exec_pageReencryption_waits v _ b hwait s _ t hv hover
      (v.memWriteLine_overflows w e rg _ b hst hwait hrg hw (by rw [hlen]; rfl) (by omega) hminor)
  · rintro s _ t r crc img _ w z rfl h hlen hwrite rfl hz
    rw [exec_window, execWindow]
    exact congrArg _ (State.commitObj_okays_at _ _ r _ crc z _ img _ h hz (ownWindow_writes img _ w hlen hwrite))

end Sys2Proof.Machine
end

section
/-! Regions, keys, the retirement of KIDs, and the re-key walk. -/

namespace Sys2Proof.Machine

/-! ### Regions (R361, R363) -/

/-- The entries in which two REGIONS images differ. -/
def regionsChanged (old new : List Byte) : List Nat := (List.range 16).filter fun e => regionAt old e != regionAt new e

/-- Regions that break no rule, and change no entry in use, are stored; the changed entries of MODE 1 to 3 begin their initialisation. -/
theorem ownRegions_stores (img : List Byte) (s v : State) (hform : s.regionsRefused img = false)
    (huse : (List.range 16).any (fun e => regionAt (s.image O.MEM_REGIONS) e != regionAt img e &&
      (regionAt (s.image O.MEM_REGIONS) e).valid && s.regionInUse e (regionAt (s.image O.MEM_REGIONS) e)) = false)
    (hv : v = s.pagesDone fun page => (regionsChanged (s.image O.MEM_REGIONS) img).any fun e =>
      (regionAt (s.image O.MEM_REGIONS) e).has (page * 4096)) :
    ownRegions img 0 s =
      (.okay, (regionsChanged (s.image O.MEM_REGIONS) img).foldl
        (fun (s : State) e =>
          { s with regionInit := Tbl.set false s.regionInit e
                     ((regionAt img e).valid && decide (1 ≤ (regionAt img e).mode) && decide ((regionAt img e).mode ≤ 3)) })
        (v.setImage O.MEM_REGIONS img)) := by
  have hfree : (regionsChanged (s.image O.MEM_REGIONS) img).any (fun e =>
      (regionAt (s.image O.MEM_REGIONS) e).valid && s.regionInUse e (regionAt (s.image O.MEM_REGIONS) e)) = false := by
    simp only [regionsChanged, List.any_filter, ← Bool.and_assoc]
    exact huse
  rw [regionsChanged] at hfree hv ⊢
  simp only [ownRegions, unscheduled_zero, hform, hfree, Bool.false_eq_true, if_false, ← hv]

/-- The lines of an entry are written when its initialisation completes. -/
theorem exec_regionInitDone_done (s u : State) (t : Nat) (e : Fin 16) (wait : Nat) (rg : Region) (hu : u = s.tickTo t)
    (hinit : Tbl.get false u.regionInit e.val = true) (hclk : u.clkLost = false) (hrg : rg = regionAt (u.image O.MEM_REGIONS) e.val) :
    exec (.regionInitDone t e wait) s =
      .next { (u.pipeWait 2 (if rg.kid = 0 then 0 else wait)).setReg O.MEM_INIT_STATUS 0 with
        dram := initRegion (u.kidKey rg.kid) rg u.dram (rg.size / 64), regionInit := Tbl.set false u.regionInit e.val false,
        lostLines := u.lostLines.filter fun x => !rg.has (64 * x.1) } := by
  subst hrg
  rw [exec_regionInitDone, execRegionInitDone, ← hu]
  exact congrArg _ (if_pos ⟨hinit, by rw [hclk]; rfl⟩)

/-! ### Keys (R374) -/

/-- A key of 32 bytes makes an EMPTY or RETIRED KID ACTIVE. -/
theorem ownKidKey_loads (k : Nat) (img : List Byte) (s : State) (hk : k ≠ 0) (hlen : img.length = 32) (hactive : s.kidState k ≠ 1)
    (hretiring : s.kidState k ≠ 2) :
    ownKidKey k img 0 s =
      (.okay, (((s.setImage (O.KID_KEY k) img).setBad 6 0 k 1 false).setReg (O.KID_KID_STATE k) 1).bump (O.KID_KEY_LOADS k) 1) := by
  simp only [ownKidKey, unscheduled_zero, hk, hlen, hactive, hretiring, ne_eq, not_true, or_self, if_false]

/-- An ACTIVE KID that nothing uses begins to retire. -/
theorem ownRetire_begins (k : Nat) (s : State) (hk : k ≠ 0) (hactive : s.kidState k = 1) (huse : s.kidInUse k = false) :
    ownRetire k 1 s = (.okay, s.setReg (O.KID_KID_STATE k) 2) := by
  simp only [ownRetire, command_one, hk, hactive, huse, ne_eq, not_true, or_self, Bool.false_eq_true, if_false]

/-- The flush ends once no request waits under the KID. -/
theorem exec_retireFlushEnd_retires (s u : State) (t : Nat) (k : Fin 64) (dirty : Nat) (keep : Tbl (List TagLine)) (hu : u = s.tickTo t)
    (hretiring : u.kidState k.val = 2) (hwaits : u.memWait.any (fun q => kidOf q.addr == k.val) = false)
    (hpages : u.reenc.any (fun p => p.2.any fun q => kidOf q.addr == k.val) = false)
    (hdirty : dirty = (u.tagCache.map fun p => (p.2.filter fun w => w.dirty && w.wroteKid == k.val).length).foldl (· + ·) 0)
    (hkeep : keep = u.tagCache.foldl
      (fun (acc : Tbl (List TagLine)) p =>
        Tbl.set [] acc p.1 ((p.2.map fun (w : TagLine) => if w.wroteKid == k.val then { w with dirty := false } else w).filter
          fun w => w.usedKid != k.val)) u.tagCache) :
    exec (.retireFlushEnd t k) s =
      .next ((({ u with tagCache := keep }.bump O.MEM_TC_WRITEBACKS dirty).setReg (O.KID_KID_STATE k.val) 3).setReg
        (O.KID_RETIRE_STATUS k.val) 0) := by
  subst hdirty hkeep
  rw [exec_retireFlushEnd, execRetireFlushEnd, ← hu]
  exact congrArg _ (if_pos ⟨hretiring, by rw [hwaits, hpages]; rfl⟩)

/-! ### The re-key walk (R375) -/

/-- A walk over whole pages of one encrypted entry, between two ACTIVE KIDs, starts at its first page. -/
theorem ownWalkCtrl_starts (s : State) (base size old new e : Nat) (rg : Region)
    (hbase : base = bits (fieldLE (s.image O.MEM_WALK) 0 8) 39 0) (hsize : size = fieldLE (s.image O.MEM_WALK) 8 8)
    (hold : old = byteAt (s.image O.MEM_WALK) 16) (hnew : new = byteAt (s.image O.MEM_WALK) 17) (hidle : s.walkRunning = false)
    (hrg : s.regionOf base = some (e, rg)) (hmode : rg.mode = 2 ∨ rg.mode = 3) (hin : base + size ≤ rg.base + rg.size)
    (hpage : base % 4096 = 0) (hpages : size % 4096 = 0) (hsome : size ≠ 0) (hne : old ≠ new) (hold0 : old ≠ 0) (hnew0 : new ≠ 0)
    (holdActive : s.kidState old = 1) (hnewActive : s.kidState new = 1) :
    ownWalkCtrl 1 s = (.okay, { s.setReg O.MEM_WALK_CTRL (walkCtrl 1 0 (base / 4096) 0) with walkAborting := false }) := by
  rw [ownWalkCtrl, if_pos (by decide)]
  simp only [walkStart, ← hbase, ← hsize, ← hold, ← hnew, hidle, hrg, hmode, hin, hpage, hpages, hsome, hne, hold0, hnew0, holdActive,
    hnewActive, ne_eq, not_true, decide_true, Bool.and_self, Bool.not_true, Bool.false_eq_true, or_self, if_false]

/-- A running walk is told to stop after its page. -/
theorem ownWalkCtrl_aborts (s : State) (h : s.walkRunning = true) : ownWalkCtrl 2 s = (.okay, { s with walkAborting := true }) := by
  rw [ownWalkCtrl, if_neg (by decide), if_pos (by decide), walkAbort, if_pos h]

/-- A page of a running walk, not in re-encryption, is re-keyed and counted; after the last page the walk is done, and after an abort it
is idle. -/
theorem exec_walkPage_rekeys (s u : State) (t wait e l : Nat) (rg : Region) (m1 : List Host.Cell) (w : State) (hu : u = s.tickTo t)
    (hrun : u.walkRunning = true) (hclk : u.clkLost = false) (hrg : u.regionOf (u.walkPtr * 4096) = some (e, rg))
    (hfree : Tbl.get none u.reenc u.walkPtr = none)
    (hm : m1 = (rekeyPage u.dram u.lostLine rg u.walkPtr (u.kidKey (byteAt (u.image O.MEM_WALK) 16))
      (u.kidKey (byteAt (u.image O.MEM_WALK) 17))).1)
    (hl : l = (rekeyPage u.dram u.lostLine rg u.walkPtr (u.kidKey (byteAt (u.image O.MEM_WALK) 16))
      (u.kidKey (byteAt (u.image O.MEM_WALK) 17))).2)
    (hw : w = { u.pipeWait 2 wait with dram := m1, lostLines := u.lostLines.filter fun x => x.1 / 64 != u.walkPtr }) :
    exec (.walkPage t wait) s =
      .next (if u.walkPtr + 1 ≥ (bits (fieldLE (u.image O.MEM_WALK) 0 8) 39 0 + fieldLE (u.image O.MEM_WALK) 8 8) / 4096 then
          { w.setReg O.MEM_WALK_CTRL (walkCtrl 2 0 (u.walkPtr + 1) (bits (u.reg O.MEM_WALK_CTRL) 63 40 + l)) with walkAborting := false }
        else if u.walkAborting then
          { w.setReg O.MEM_WALK_CTRL
              (walkCtrl 0 Status.aborted.code (u.walkPtr + 1) (bits (u.reg O.MEM_WALK_CTRL) 63 40 + l)) with walkAborting := false }
        else w.setReg O.MEM_WALK_CTRL (walkCtrl 1 0 (u.walkPtr + 1) (bits (u.reg O.MEM_WALK_CTRL) 63 40 + l))) := by
  rw [exec_walkPage, execWalkPage, ← hu]
  simp only [hrun, hclk, Bool.not_false, Bool.and_self, hrg, hfree, Option.isSome_none, Bool.false_eq_true, if_false, ← hm, ← hl, ← hw]

/-- Settles O41: each clause is what the owner of its object does, or the law of its row where what it waits for has come. -/
theorem memoryKeyAndRegionCommandsComplete : Obligations.MemoryKeyAndRegionCommandsComplete := by
  refine ⟨?_, exec_regionInitDone_done, ?_, ?_, exec_retireFlushEnd_retires, ?_, ?_, ?_, ?_, ?_⟩
  · rintro s _ t r crc img _ v z rfl h hform huse rfl hv hz
    rw [exec_regions, execRegions]
    exact congrArg _ (State.commitObj_okays_at _ _ r _ crc z _ img _ h hz
      (ownRegions_stores img ((s.tickTo t).setXfer _ none) v hform huse hv))
  · rintro s _ t r crc img k _ z rfl h hk hlen hactive hretiring rfl hz
    rw [exec_key, execKey]
    exact congrArg _ (State.commitObj_okays_at _ _ r _ crc z _ img _ h hz
      (ownKidKey_loads k.val img ((s.tickTo t).setXfer _ none) hk hlen hactive hretiring))
  · rintro s _ t r k rfl hw hk hactive huse
    rw [exec_retire, execRetire]
    exact congrArg _ (State.writeObj_okays _ _ _ _ _ _ hw (ownRetire_begins _ _ hk hactive huse))
  · rintro s _ t r base size old new e rg rfl hw hbase hsize hold hnew hidle hrg hmode hin hpage hpages hsome hne hold0 hnew0 ho hn
    rw [exec_walkStart, execWalkStart]
    exact congrArg _ (State.writeObj_okays _ _ _ _ _ _ hw
      (ownWalkCtrl_starts _ base size old new e rg hbase hsize hold hnew hidle hrg hmode hin hpage hpages hsome hne hold0 hnew0 ho hn))
  · rintro s _ t r rfl hw h
    rw [exec_walkAbort, execWalkAbort]
    exact congrArg _ (State.writeObj_okays _ _ _ _ _ _ hw (ownWalkCtrl_aborts _ h))
  · intro s u t wait e l rg m1 w hu hrun hclk hrg hfree hm hl hw hlast
    rw [exec_walkPage_rekeys s u t wait e l rg m1 w hu hrun hclk hrg hfree hm hl hw, if_pos hlast]
  · intro s u t wait e l rg m1 w hu hrun hclk hrg hfree hm hl hw hmore habort
    rw [exec_walkPage_rekeys s u t wait e l rg m1 w hu hrun hclk hrg hfree hm hl hw, if_neg (Nat.not_le_of_lt hmore), if_pos habort]
  · intro s u t wait e l rg m1 w hu hrun hclk hrg hfree hm hl hw hmore habort
    rw [exec_walkPage_rekeys s u t wait e l rg m1 w hu hrun hclk hrg hfree hm hl hw, if_neg (Nat.not_le_of_lt hmore), habort,
      if_neg Bool.false_ne_true]

end Sys2Proof.Machine
end

section
/-! Resident and streamed vectors of a Grind: a port's rewind, the next line of its stream, a word taken from it, and the commit of its
descriptors. -/

namespace Sys2Proof.Machine

/-! ### Rewind and the next line (R378) -/

/-- A valid port that is rewound discards the words it holds and starts from BASE. -/
theorem State.grindRewind_valid (s : State) (q k : Nat) (h : (s.desc q k).valid = true) :
    s.grindRewind q k =
      (s.ledMove 0x1065 2 3
        (if (s.desc q k).resident then (if (s.port q k).ended ∨ (s.port q k).st = 5 then (s.port q k).words.length - (s.port q k).pos else 0)
         else (s.port q k).words.length)).setPort q k { st := 1 } := by
  simp only [State.grindRewind, h, if_true]

/-- A line that a port waits for, and that is read, is added to its bytes and decompressed. -/
theorem exec_grindLine_arrives (s u : State) (t : Nat) (q : Fin 4) (k : Fin 512) (d : StreamDesc) (p : GrindPort) (data : List Byte) (w : State)
    (hu : u = s.tickTo t) (hd : d = u.desc q.val k.val) (hp : p = u.port q.val k.val) (hidle : p.st ≠ 0) (herror : p.st ≠ 5)
    (hended : p.ended = false) (hvalid : d.valid = true) (hmore : p.fetched < d.length) (hroom : p.buf.length < 64)
    (hpipe : u.pipeAnswer (d.base + p.fetched) = .okay) (hread : (u.memReadLine (d.base + p.fetched)).1 = some (.okay, data))
    (hw : w = (u.memReadLine (d.base + p.fetched)).2) :
    exec (.grindLine t q k) s =
      .next ((w.setPort q.val k.val
        { p with buf := p.buf ++ data.take (min 64 (d.length - p.fetched)),
                 fetched := p.fetched + min 64 (d.length - p.fetched) }).grindAdvance q.val k.val) := by
  have hline : u.memReadLine (d.base + p.fetched) = (some (.okay, data), w) := Prod.ext hread hw.symm
  rw [exec_grindLine, execGrindLine, ← hu]
  simp only [← hd, ← hp, hidle, herror, hended, hvalid, Nat.not_le_of_lt hmore, Nat.not_le_of_lt hroom, hpipe, hline, Bool.not_true,
    Bool.false_eq_true, or_self, ne_eq, not_true, if_false]

/-! ### Words taken from a port (R378) -/

section
variable (s : State) (q k : Nat) (d : StreamDesc) (p : GrindPort) (x : BitVec 48) (hd : d = s.desc q k) (hp : p = s.port q k)
  (hvalid : d.valid = true) (hidle : p.st ≠ 0) (hdone : p.st ≠ 4) (hgood : s.badWord 3 q (carafeWord d p) = false)
include hd hp hvalid hidle hdone hgood

/-- A streamed port delivers the first of its words, and decompresses into the room it leaves. -/
theorem State.portTake_streamed (rest : List (BitVec 48)) (hstream : d.resident = false) (hwords : p.words = x :: rest) :
    s.portTake q k =
      (some x, ((((s.sramRead 3 q (carafeWord d p) 1).setPort q k
        { p with words := rest, delivered := p.delivered + 1,
                 st := if p.st = 5 then 5 else if rest = [] ∧ p.ended then 4 else 3 }).ledMove 0x1065 2 1 1).bump (O.GRIND_WORDS_OUT q)
                   1).grindAdvance q k) := by
  simp only [State.portTake, ← hd, ← hp, hvalid, hidle, hdone, hgood, hstream, hwords, Bool.not_true, Bool.false_eq_true, reduceCtorEq,
    or_self, and_false, if_false]

/-- A resident port that has reached END delivers its words in order, and goes round while loops are left. -/
theorem State.portTake_resident (lastWord lastLoop : Bool) (w : State) (hres : d.resident = true) (hended : p.ended = true)
    (hword : p.words[p.pos]? = some x) (hlast : lastWord = decide (p.words.length ≤ p.pos + 1))
    (hloop : lastLoop = (decide (d.loops ≤ p.loopNo) || p.st == 5))
    (hw : w = (((s.sramRead 3 q (carafeWord d p) 1).setPort q k
      { p with pos := if lastWord = true ∧ lastLoop = false then 0 else p.pos + 1, delivered := p.delivered + 1,
               loopNo := if lastWord = true ∧ lastLoop = false then p.loopNo + 1 else p.loopNo,
               st := if p.st = 5 then 5 else if lastWord = true ∧ lastLoop = true then 4 else 3 }).ledMove 0x1065 2 1 1).bump
                 (O.GRIND_WORDS_OUT q) 1) :
    s.portTake q k =
      (some x, if lastWord = true ∧ lastLoop = false then (w.ledAdd 0x1065 0 p.words.length).ledAdd 0x1065 2 p.words.length else w) := by
  have hsome : p.words ≠ [] := by
    intro h
    rw [h] at hword
    cases hword
  rw [hended] at hw
  simp only [State.portTake, ← hd, ← hp, hvalid, hidle, hdone, hgood, hres, hended, hword, hsome, Bool.not_true, Bool.false_eq_true,
    or_self, and_false, false_and, if_false, if_true, ge_iff_le, ← hlast, ← hloop, Bool.not_eq_true', ← hw]

end

/-- STREAM_WORD_TAKE of a word that the port delivers. -/
theorem exec_streamWordTake_word (s u v : State) (t : Nat) (q : Fin 4) (k : Fin 512) (x : BitVec 48) (hu : u = s.tickTo t)
    (h : u.portTake q.val k.val = (some x, v)) : exec (.streamWordTake t q k) s = .next (v.memReply .okay (leBytes 6 x.toNat)) := by
  rw [exec_streamWordTake, execStreamWordTake, ← hu, h]

/-! ### Stream descriptors (R376, R378, R381) -/

/-- Descriptors of the right form are stored while no march and no engine holds what they change: the ports of those that differ start anew,
and the units of extents are counted again. -/
theorem ownStreams_stores (q : Nat) (img : List Byte) (s w y : State) (ch : List Nat) (hform : streamsRefused img = false)
    (hch : ch = (List.range 512).filter fun k => descAt (s.image (O.GRIND_STREAMS q)) k != descAt img k) (hmarch : s.marchOn 4 q = false)
    (hengines : ch.any (fun k => [3, 4, 7].contains (s.reg (O.ENG_STATE (portEngine q k)))) = false)
    (hw : w = (ch.foldl (fun (s : State) k => s.setPort q k { st := if (descAt img k).valid then 1 else 0 })
      ((ch.foldl (fun (s : State) k => s.grindRewind q k) s).setImage (O.GRIND_STREAMS q) img)).setReg (O.GRIND_CARAFE_FREE q)
        (1024 - extentUnits img false - extentUnits img true))
    (hy : y = ((w.ledSub 0x1066 2 (extentUnits (s.image (O.GRIND_STREAMS q)) false)).ledSub 0x1066 3
      (extentUnits (s.image (O.GRIND_STREAMS q)) true)).ledAdd 0x1066 1
        (extentUnits (s.image (O.GRIND_STREAMS q)) false + extentUnits (s.image (O.GRIND_STREAMS q)) true)) :
    ownStreams q img 0 s =
      (.okay, ((y.ledSub 0x1066 1 (extentUnits img false + extentUnits img true)).ledAdd 0x1066 2 (extentUnits img false)).ledAdd 0x1066 3
        (extentUnits img true)) := by
  simp only [ownStreams, unscheduled_zero, hform, hmarch, ← hch, hengines, Bool.false_eq_true, false_and, if_false, ← hw, ← hy]

/-- Settles O42: each clause is what a port does at its rewind, its line or its take, or what the owner of STREAMS does. -/
theorem streamCommandsComplete : Obligations.StreamCommandsComplete := by
  refine ⟨?_, ?_, exec_grindLine_arrives, ?_, ?_, ?_⟩
  · rintro s u t q k _ hu rfl hvalid hstream
    rw [exec_portRewind, execPortRewind, ← hu, u.grindRewind_valid _ _ hvalid, hstream, if_neg Bool.false_ne_true]
  · rintro s u t q k _ hu rfl hvalid hres
    rw [exec_portRewind, execPortRewind, ← hu, u.grindRewind_valid _ _ hvalid, hres, if_pos rfl]
  · intro s u t q k p x rest hu hp hvalid hstream hidle hdone hwords hgood
    exact exec_streamWordTake_word s u _ t q k x hu
      (u.portTake_streamed _ _ _ p x rfl hp hvalid hidle hdone hgood rest hstream hwords)
  · intro s u t q k d p x lastWord lastLoop w hu hd hp hvalid hres hidle hdone hended hword hgood hlast hloop hw
    exact exec_streamWordTake_word s u _ t q k x hu
      (u.portTake_resident _ _ d p x hd hp hvalid hidle hdone hgood lastWord lastLoop w hres hended hword hlast hloop hw)
  · rintro s _ t r crc img q _ v w y ch z rfl h hform rfl hch hmarch hengines hw hy rfl hz
    rw [exec_streamsCommit, execStreamsCommit]
    exact congrArg _ (State.commitObj_okays_at _ _ r _ crc z _ img _ h hz
      (ownStreams_stores q.val img ((s.tickTo t).setXfer _ none) w y ch hform hch hmarch hengines hw hy))

end Sys2Proof.Machine
end

section
/-! On-chip memories: the start-up march and the march on request, the scrub schedule, the units the patrol visits, and the word clocks that a
store takes from its engine. -/

namespace Sys2Proof.Machine

/-! ### The start-up march (R386) -/

theorem exec_startupMarch_begins (s u : State) (t : Nat) (hu : u = s.tickTo t) (hstate : u.reg O.MARCH_MARCH_STATE = 1)
    (hnone : u.marchAt = none) (hclk : u.isSet O.DEV_CLKREF_STABLE = true) (hpll : u.pllLocked pllSpll = true) :
    exec (.startupMarch t) s = .next { u with marchAt := some u.now } := by
  rw [exec_startupMarch, execStartupMarch, ← hu]
  exact congrArg _ (if_pos ⟨hstate, by rw [hnone]; rfl, hclk, hpll⟩)

/-- What a start-up march has found is recorded, array by array, and the march is over. -/
def State.startupFound (s : State) (x : MarchFinds) : State :=
  let slots := x.slots.foldl (fun (s : State) i => (s.slotFailed i).resultBit i) s
  let feeds := (x.feeds.foldl (fun (s : State) p => s.resultBit (66 * 8 + p.1)) slots).wordsFailed 2 x.feeds
  let carafe := (x.carafe.foldl (fun (s : State) p => s.resultBit (68 * 8 + p.1)) feeds).wordsFailed 3 x.carafe
  let spine := x.spine.foldl
    (fun (s : State) p => (s.resultBit (69 * 8 + p.1)).wordsFailed (spineArray p.1).1 [((spineArray p.1).2, p.2)]) carafe
  State.setReg { x.columns.foldl (fun (s : State) p => s.columnsFound p.1 p.2) spine with marchAt := none } O.MARCH_MARCH_STATE 0

/-- After its longest arrays the march ends, and the configuration port is ready under a CFG_MODE that is not reserved. -/
theorem exec_startupMarchDone_ends (s u : State) (t : Nat) (x : MarchFinds) (a : Nat) (g : State) (hu : u = s.tickTo t)
    (hat : u.marchAt = some a) (hstate : u.reg O.MARCH_MARCH_STATE = 1) (hdue : a + 21 * 65536 * Config.wordUnits ≤ u.now)
    (hg : g = u.startupFound x) :
    exec (.startupMarchDone t x) s =
      .next (if g.reg O.CFG_CFG_MODE ≤ 1 then (g.setReg O.CFG_CFG_STATE 1).setCfg { g.cfg with initLow := false } else g) := by
  subst hg
  rw [exec_startupMarchDone, execStartupMarchDone, ← hu]
  simp only [hat, hstate, Nat.not_lt_of_le hdue, ne_eq, not_true, or_self, if_false]
  rfl

/-! ### The march on request (R387) -/

theorem ownMarchStart_starts (s : State) (hstate : s.reg O.MARCH_MARCH_STATE = 0)
    (hallowed : s.marchAllowed (s.reg O.MARCH_MARCH_TARGET) = true) :
    ownMarchStart 1 s = (.okay, { s with marchAt := some s.now }.setReg O.MARCH_MARCH_STATE 2) := by
  simp only [ownMarchStart, command_one, hstate, hallowed, ne_eq, not_true, Bool.not_true, Bool.false_eq_true, if_false]

/-- A march on request is over: its status and its result. -/
def State.marchOver (s : State) (found first : Nat) (st : Status) : State :=
  ((({ s with marchAt := none }.setReg O.MARCH_MARCH_STATE 0).setReg O.MARCH_MARCH_STATUS st.code).setReg O.MARCH_MARCH_RESULT
    (if found = 0 then 0 else min found 4095 * 2 ^ 20 + first % 2 ^ 20)).bump O.MARCH_MARCH_RUNS 1

section
variable (s u : State) (t found first : Nat) (left : List Nat) (a target : Nat) (w : State) (hu : u = s.tickTo t)
  (hat : u.marchAt = some a) (hstate : u.reg O.MARCH_MARCH_STATE = 2) (htarget : target = u.reg O.MARCH_MARCH_TARGET)
  (hdue : a + marchUnits target (u.reg O.MARCH_MARCH_MODE) ≤ u.now)
  (hw : w = if u.reg O.MARCH_MARCH_MODE = 0 then u.marchZero target else u)
include hu hat hstate htarget hdue hw

/-- A Feed store is marched: words remain bad that no spare row replaces. -/
theorem exec_marchDone_feed (hkind : bits target 31 28 = 3) :
    exec (.marchDone t found first left) s =
      .next ((w.wordsFailed 2 (left.map ((target % 1024), ·))).marchOver found first (if left = [] then .okay else .aborted)) := by
  rw [exec_marchDone, execMarchDone, ← hu]
  simp only [hat, hstate, ← htarget, Nat.not_lt_of_le hdue, ne_eq, not_true, or_self, if_false, ← hw, hkind]
  cases left <;> rfl

/-- So of a Carafe slice. -/
theorem exec_marchDone_carafe (hkind : bits target 31 28 = 4) :
    exec (.marchDone t found first left) s =
      .next ((w.wordsFailed 3 (left.map ((target % 1024), ·))).marchOver found first (if left = [] then .okay else .aborted)) := by
  rw [exec_marchDone, execMarchDone, ← hu]
  simp only [hat, hstate, ← htarget, Nat.not_lt_of_le hdue, ne_eq, not_true, or_self, if_false, ← hw, hkind]
  cases left <;> rfl

/-- The stores of an engine are marched: any bad word fails its slot. -/
theorem exec_marchDone_stores (hfeed : bits target 31 28 ≠ 3) (hcarafe : bits target 31 28 ≠ 4) :
    exec (.marchDone t found first left) s =
      .next ((if found = 0 then w
          else w.slotFailed (if target % 1024 < 512 then w.physSlot (target % 1024) else 33 * (target % 1024 - 512) + 32)).marchOver
        found first (if found = 0 then .okay else .aborted)) := by
  have hstatus : (if decide (found ≠ 0) = true then Status.aborted else .okay) = if found = 0 then .okay else .aborted := by
    simp only [decide_eq_true_eq, ne_eq, ite_not]
  rw [exec_marchDone, execMarchDone, ← hu]
  simp only [hat, hstate, ← htarget, Nat.not_lt_of_le hdue, ne_eq, not_true, or_self, if_false, ← hw]
  rw [← hstatus]
  rfl

end

/-! ### The schedule and the patrol (R388 to R390) -/

/-- A schedule of 1 to 64 steps that keep the rules, the last an END, starts again from step 0. -/
theorem ownScrubProgram_starts (img : List Byte) (s : State) (n : Nat) (hn : n = img.length / 8) (hlow : 1 ≤ n) (hhigh : n ≤ 64)
    (hwhole : img.length % 8 = 0) (hsteps : (List.range n).all (fun k => scrubStepOk (scrubStep img k)) = true)
    (hend : scrubOp (scrubStep img (n - 1)) = 0) :
    ownScrubProgram img 0 s =
      (.okay, { (s.setImage O.PATROL_SCRUB_PROGRAM img).setReg O.PATROL_SCRUB_STEP 0 with
        patrol := { s.patrol with left := none, stopped := false, unitAt := s.now } }) := by
  simp only [ownScrubProgram, unscheduled_zero, ← hn, Nat.ne_of_gt hlow, Nat.not_lt_of_le hhigh, hwhole, hsteps, hend, ne_eq, not_true,
    Bool.not_true, Bool.false_eq_true, or_self, if_false]
  rfl

section
variable (s u : State) (t : Nat) (ups : List (Nat × Nat × Nat)) (errs : List PatrolErr) (busy : List Nat) (wait : Nat) (v w : State)
  (hu : u = s.tickTo t) (hv : v = u.upsets ups) (hrun : v.patrolAt 1 = true)
  (hdue : v.patrol.unitAt + scrubArg v.scrubNow * Config.nsUnits ≤ v.now)
include hu hv hrun hdue

/-- A unit of the die is visited; arrays that keep their own position are given a credit. -/
theorem exec_patrolUnit_visits (tg cur n left : Nat) (bs : List Nat) (htg : tg = scrubTarget v.scrubNow) (hdie : tg ≠ 10)
    (hcur : cur = v.cursor tg) (hn : n = patrolUnits tg)
    (hleft : left = v.patrol.left.getD (if scrubCount v.scrubNow = 0 then n - cur else scrubCount v.scrubNow))
    (hbs : bs = if creditTarget tg then busy.filter (v.mayBusy tg) else [])
    (hw : w = if creditTarget tg then (v.patrolVisit tg cur errs bs).giveCredits tg bs else v.patrolVisit tg cur errs bs) :
    exec (.patrolUnit t ups errs busy wait) s = .next (w.unitDone tg left (cur + 1) (decide (n ≤ cur + 1))) := by
  rw [exec_patrolUnit, execPatrolUnit, ← hu]
  simp only [← hv, hrun, Bool.not_true, Bool.false_eq_true, Nat.not_lt_of_le hdue, or_self, if_false, ← htg, hdie, ← hcur, ← hn, ← hleft,
    ← hbs, ← hw]

/-- A line of LPDDR4X is visited. -/
theorem exec_patrolUnit_line (rg : Region) (pa : Nat) (htg : scrubTarget v.scrubNow = 10) (hline : v.scrubLine (v.cursor 10) = some (rg, pa))
    (hw : w = (v.pipeWait 3 wait).patrolLine rg pa errs) :
    exec (.patrolUnit t ups errs busy wait) s =
      .next (w.unitDone 10 (v.patrol.left.getD (if scrubCount v.scrubNow = 0 then 2 ^ 64 else scrubCount v.scrubNow)) (pa + 64)
        (w.scrubLine (pa + 64)).isNone) := by
  rw [exec_patrolUnit, execPatrolUnit, ← hu]
  simp only [← hv, hrun, Bool.not_true, Bool.false_eq_true, Nat.not_lt_of_le hdue, or_self, if_false, htg, hline, if_true, ← hw]

end

/-- A WAIT step whose time has passed ends. -/
theorem exec_scrubWaitEnd_due (s u : State) (t : Nat) (hu : u = s.tickTo t) (hrun : u.patrolAt 2 = true)
    (hdue : u.patrol.unitAt + scrubArg u.scrubNow * Config.usUnits ≤ u.now) : exec (.scrubWaitEnd t) s = .next u.scrubNext := by
  rw [exec_scrubWaitEnd, execScrubWaitEnd, ← hu]
  exact congrArg _ (if_pos ⟨hrun, hdue⟩)

/-! ### Stolen word clocks (R390) -/

section
variable (w : State) (slot : Nat)

/-- A store that serves no engine takes its port from none. -/
theorem State.stealWord_free (h : w.engineOn slot = none) : w.stealWord slot = w := by
  simp only [State.stealWord, h]

/-- Nor does one whose engine does not run. -/
theorem State.stealWord_idle (e : Nat) (h : w.engineOn slot = some e) (hstate : w.reg (O.ENG_STATE e) ≠ 4) : w.stealWord slot = w := by
  simp only [State.stealWord, h, hstate, ne_eq, not_false_eq_true, if_true]

/-- A running engine and its gang stall for a word clock. -/
theorem State.stealWord_stalls (e : Nat) (h : w.engineOn slot = some e) (hstate : w.reg (O.ENG_STATE e) = 4) :
    w.stealWord slot =
      (w.gangOf e).foldl (fun (s : State) m => s.stallEngine m (max (s.now / Config.wordUnits) (s.engine m).free) {}) w := by
  simp only [State.stealWord, h, hstate, ne_eq, not_true, if_false]
  rfl

end

/-- A store that has held a credit for FORCE_AFTER word clocks has its word patrolled, and takes its port for it. -/
theorem exec_forcedSteal_due (s u : State) (t : Nat) (data : Bool) (slot : Fin 528) (n since : Nat) (v w : State) (hu : u = s.tickTo t)
    (hv : v = u.patrolWord (b2n data) slot.val (u.arrayWord (b2n data) (u.cursor (b2n data)) slot.val))
    (hcredits : Tbl.get (0, 0) u.patrol.credits (b2n data * 4096 + slot.val) = (n, since)) (hforce : u.reg O.PATROL_FORCE_AFTER ≠ 0)
    (hn : n ≠ 0) (hdue : since + u.reg O.PATROL_FORCE_AFTER ≤ u.now / Config.wordUnits)
    (hw : w = ({ v with
      patrol := { v.patrol with
        credits := Tbl.set (0, 0) v.patrol.credits (b2n data * 4096 + slot.val)
          (if n = 1 then (0, 0) else (n - 1, u.now / Config.wordUnits)) } } : State).bump O.PATROL_STEALS 1) :
    exec (.forcedSteal t data slot) s = .next (w.stealWord slot.val) := by
  rw [exec_forcedSteal, execForcedSteal, ← hu]
  simp only [hcredits, hforce, hn, Nat.not_lt_of_le hdue, or_self, if_false, ← hv, ← hw]

/-- Settles O43: each clause is what the owner of its object does, or its row's law on what the march or the patrol has come to. -/
theorem onChipMemoryCommandsComplete : Obligations.OnChipMemoryCommandsComplete := by
  refine ⟨exec_startupMarch_begins, ?_, ?_, ?_, ?_, ?_, ?_, ?_, ?_, ?_, ?_, ?_, ?_, ?_, exec_scrubWaitEnd_due⟩
  · rintro s u t x a _ _ _ _ _ g hu hat hstate hdue rfl rfl rfl rfl rfl hg hmode
    rw [exec_startupMarchDone_ends s u t x a g hu hat hstate hdue hg, if_pos hmode]
  · rintro s u t x a _ _ _ _ _ g hu hat hstate hdue rfl rfl rfl rfl rfl hg hmode
    rw [exec_startupMarchDone_ends s u t x a g hu hat hstate hdue hg, if_neg (Nat.not_le_of_lt hmode)]
  · rintro s _ t r rfl hw hstate hallowed
    rw [exec_marchStart, execMarchStart]
    exact congrArg _ (State.writeObj_okays _ _ _ _ _ _ hw (ownMarchStart_starts _ hstate hallowed))
  · intro s u t found first left a target w hu hat hstate htarget hdue hw hfeed hcarafe
    exact exec_marchDone_stores s u t found first left a target w hu hat hstate htarget hdue hw hfeed hcarafe
  · intro s u t found first left a target w hu hat hstate htarget hdue hw hkind
    exact exec_marchDone_feed s u t found first left a target w hu hat hstate htarget hdue hw hkind
  · intro s u t found first left a target w hu hat hstate htarget hdue hw hkind
    exact exec_marchDone_carafe s u t found first left a target w hu hat hstate htarget hdue hw hkind
  · rintro s _ t r crc img _ n z rfl h hn hlow hhigh hwhole hsteps hend rfl hz
    rw [exec_scrubProgram, execScrubProgram]
    exact congrArg _ (State.commitObj_okays_at _ _ r _ crc z _ img _ h hz
      (ownScrubProgram_starts img ((s.tickTo t).setXfer _ none) n hn hlow hhigh hwhole hsteps hend))
  · intro s u t ups errs busy wait v w tg cur n left hu hv hrun hdue htg hdie hcur hn hleft hw hcredit
    exact exec_patrolUnit_visits s u t ups errs busy wait v w hu hv hrun hdue tg cur n left _ htg hdie hcur hn hleft
      (by rw [hcredit, if_pos rfl]) (by rw [hcredit, if_pos rfl, hw])
  · intro s u t ups errs busy wait v w tg cur n left hu hv hrun hdue htg hdie hcur hn hleft hw hcredit
    exact exec_patrolUnit_visits s u t ups errs busy wait v w hu hv hrun hdue tg cur n left _ htg hdie hcur hn hleft
      (by rw [hcredit, if_neg Bool.false_ne_true]) (by rw [hcredit, if_neg Bool.false_ne_true, hw])
  · intro s u t ups errs busy wait v w rg pa hu hv hrun hdue htg hline hw
    exact exec_patrolUnit_line s u t ups errs busy wait v w hu hv hrun hdue rg pa htg hline hw
  · intro s u t data slot n since v w hu hv hcredits hforce hn hdue hw hfree
    rw [exec_forcedSteal_due s u t data slot n since v w hu hv hcredits hforce hn hdue hw, w.stealWord_free _ hfree]
  · intro s u t data slot n since e v w hu hv hcredits hforce hn hdue hw hon hstate
    rw [exec_forcedSteal_due s u t data slot n since v w hu hv hcredits hforce hn hdue hw, w.stealWord_stalls _ e hon hstate]
  · intro s u t data slot n since e v w hu hv hcredits hforce hn hdue hw hon hstate
    rw [exec_forcedSteal_due s u t data slot n since v w hu hv hcredits hforce hn hdue hw, w.stealWord_idle _ e hon hstate]

end Sys2Proof.Machine
end

section
/-! The on-die network: requests and their responses, on-demand reservations, credits, isolation, bindings and fences. -/

namespace Sys2Proof.Machine

/-! ### Ejection at a destination stop (R335, R347, R348) -/

/-- Whether a packet is a request of a class from a stop. -/
def NetPkt.asks (p : NetPkt) (src cls : Nat) : Bool := p.request && p.src == src && p.cls == cls

/-- The oldest request of a class from one stop at another: it waits in the buffer at its tether, or else on the network. -/
inductive State.Oldest (s : State) (src dst cls : Nat) (p : NetPkt) : Prop
  | buffered (since : Nat) (h : (s.stop dst).buf.find? (fun q => q.1.asks src cls) = some (p, since)) : State.Oldest s src dst cls p
  | crossing (hbuf : (s.stop dst).buf.find? (fun q => q.1.asks src cls) = none)
      (h : s.findPkt src dst (fun p => p.asks src cls) = some p) : State.Oldest s src dst cls p

/-- A request meets the block behind its port: it stands in the buffer at the tether, or the block takes it and holds it, or answers. -/
def State.meets (s : State) (how : Tether) (dst : Nat) (p : NetPkt) : State :=
  match how with
  | .stall =>
    if (s.stop dst).buf.any (fun q => q.1 == p) then s
    else (s.setStop dst { s.stop dst with buf := (s.stop dst).buf ++ [(p, s.now)] }).dropPkt p
  | .hold => ((s.claimPkt p).takeFlits p).holdPkt p s.now
  | _ => ((s.claimPkt p).takeFlits p).answerPkt p s.now

section
variable (s u : State) (t : Nat) (src dst : Fin 98) (cls : Fin 3) (p : NetPkt) (hu : u = (s.tickTo t).netTurn)
include hu

/-- What the stop does not answer itself meets the block behind its port. -/
theorem exec_packetEjection_passes (how : Tether) (hhow : how ≠ .answer) (hold : u.Oldest src.val dst.val cls.val p)
    (hans : u.ejectAnswer p = none) :
    exec (.packetEjection t src dst cls how) s = .next (u.meets how dst.val p) := by
  rw [exec_packetEjection, execPacketEjection, ← hu]
  cases hold with
  | buffered since h =>
    simp only [NetPkt.asks] at h
    simp only [hhow, if_false, h, hans]
    rfl
  | crossing hbuf h =>
    simp only [NetPkt.asks] at hbuf h
    simp only [hhow, if_false, hbuf, h, hans]
    rfl

/-- A block answers the oldest request of a class that it holds. -/
theorem exec_packetEjection_answer (since : Nat)
    (h : (u.stop dst.val).held.find? (fun q => q.1.request && q.1.src == src.val && q.1.cls == cls.val) = some (p, since)) :
    exec (.packetEjection t src dst cls .answer) s =
      .next ((u.setStop dst.val { u.stop dst.val with held := (u.stop dst.val).held.erase (p, since) }).answerPkt p since) := by
  rw [exec_packetEjection, execPacketEjection, ← hu]
  simp only [if_true, h]

end

/-! ### Requests and responses (R335, R342, R345, R349) -/

/-- A request is accepted: its packet waits for room for its response, and what finds room goes on its way. -/
theorem exec_networkRequest_accepts (s u : State) (t : Nat) (src : Fin 98) (sport : Fin 16) (write : Bool) (addr n dst dport flits : Nat)
    (data : List Byte) (rv : Option Nat) (w : State) (p : NetPkt) (hu : u = (s.tickTo t).netTurn)
    (hports : (u.reg (O.RS_ISOLATED_PORTS src.val)).testBit sport.val = false) (hroute : u.netDecode addr = some (dst, dport))
    (hrv : rv = u.reservationOf src.val sport.val dst dport) (hw : w = u.ledAdd 0x105B 0 1)
    (hopen : rv.any (fun k => (w.netResv k).fenced) = false) (hflits : flits = 1 + (if write then dataFlits data.length else 0))
    (hp : p = { txn := w.txns, src := src.val, sport := sport.val, dst := dst, dport := dport, cls := if rv.isSome then 1 else 2,
                kind := if write then .write else .read, rsv := rv.getD 0x7FF, addr := addr, n := if write then data.length else n,
                data := data, flits := flits, left := flits }) :
    exec (.networkRequest t src sport write addr n data) s =
      .next (({ (w.setStop src.val { w.stop src.val with waiting := (w.stop src.val).waiting ++ [p] }) with
        txns := w.txns + 1 }.ledAdd 0x105B 4 1).launchReady src.val ((w.stop src.val).waiting.length + 1)) := by
  rw [exec_networkRequest, execNetworkRequest, ← hu]
  simp only [hports, hroute, ← hrv, ← hw, hopen, ← hflits, ← hp, Bool.false_eq_true, if_false]

section
variable (s u : State) (t : Nat) (src dst : Fin 98) (p : NetPkt) (hu : u = (s.tickTo t).netTurn)
include hu

/-- A response completes the request that still waits for it, and is late for any other. -/
theorem exec_response_arrives (st : Status) (byStop : Bool) (w : State) (hp : u.findPkt src.val dst.val NetPkt.isResponse = some p)
    (hkind : p.kind = .response st byStop)
    (hw : w = ((u.dropPkt p).bump (O.RS_FLITS dst.val) p.flits).countEvent 2 dst.val 0 p.flits) :
    exec (.response t src dst) s = .next
      (if (w.stop dst.val).out.any (fun o => o.txn == p.txn) then
        ((w.netDone dst.val p.txn (if byStop then 2 else 1) st p.data).granted dst.val p.txn fun s _ => s).checkFenced dst.val
      else w.bump O.NET_LATE_RESPONSES 1) := by
  rw [exec_response, execResponse, ← hu]
  simp only [hp, hkind, ← hw]

theorem exec_rsvReq_queues (w : State) (hp : u.findPkt src.val dst.val NetPkt.isAsk = some p) (hw : w = u.dropPkt p)
    (hfence : u.reg (O.RS_FENCE_STATE dst.val) = 0) :
    exec (.rsvReq t src dst) s =
      .next ((w.setStop dst.val { w.stop dst.val with fifo := (w.stop dst.val).fifo ++ [(p, w.now)] }).grantPool dst.val
        ((w.stop dst.val).fifo.length + 1)) := by
  have hopen : w.reg (O.RS_FENCE_STATE dst.val) = 0 := by rw [hw]; exact hfence
  rw [exec_rsvReq, execRsvReq, ← hu]
  simp only [hp, ← hw, hopen, ne_eq, not_true, if_false]

theorem exec_rsvReq_refused (w : State) (hp : u.findPkt src.val dst.val NetPkt.isAsk = some p) (hw : w = u.dropPkt p)
    (hfence : u.reg (O.RS_FENCE_STATE dst.val) ≠ 0) : exec (.rsvReq t src dst) s = .next (w.refuseAsk p) := by
  have hclosed : w.reg (O.RS_FENCE_STATE dst.val) ≠ 0 := by rw [hw]; exact hfence
  rw [exec_rsvReq, execRsvReq, ← hu]
  simp only [hp, ← hw]
  exact congrArg _ (if_pos hclosed)

theorem exec_rsvGrant_launches (hp : u.findPkt src.val dst.val (fun p => p.kind == .grant) = some p) :
    exec (.rsvGrant t src dst) s = .next ((u.dropPkt p).granted dst.val p.txn fun s p => s.enqueue dst.val p) := by
  rw [exec_rsvGrant, execRsvGrant, ← hu]
  simp only [hp]

end

theorem exec_reqLimit_passed (s u : State) (t : Nat) (rs : Fin 98) (o : NetOut) (rest : List NetOut) (hu : u = (s.tickTo t).netTurn)
    (hout : (u.stop rs.val).out = o :: rest) (hpast : u.netPast o.start (u.reg O.NET_REQ_LIMIT) = true) :
    exec (.reqLimit t rs) s =
      .next ((((u.bump O.NET_TIMEOUTS 1).bump O.DEV_TIMEOUT_COUNT 1).netDone rs.val o.txn 3 .timeout []).checkFenced rs.val) := by
  rw [exec_reqLimit, execReqLimit, ← hu]
  simp only [hout, hpast, if_true]

/-- Settles O44: what passes a stop goes as `exec_packetEjection_passes` says; each other row is its law on the packet it meets. -/
theorem networkRequestCommandsComplete : Obligations.NetworkRequestCommandsComplete := by
  refine ⟨?_, ?_, ?_, ?_, ?_, exec_networkRequest_accepts, ?_, ?_, exec_reqLimit_passed, ?_, ?_, exec_rsvGrant_launches⟩
  · intro s u t src dst cls p hu hbuf h hans
    exact exec_packetEjection_passes s u t src dst cls p hu .deliver (by decide) (.crossing hbuf h) hans
  · intro s u t src dst cls p since hu h hans
    exact exec_packetEjection_passes s u t src dst cls p hu .deliver (by decide) (.buffered since h) hans
  · intro s u t src dst cls p hu hbuf h hans
    exact exec_packetEjection_passes s u t src dst cls p hu .hold (by decide) (.crossing hbuf h) hans
  · intro s u t src dst cls p hu hbuf h hans hnew
    rw [exec_packetEjection_passes s u t src dst cls p hu .stall (by decide) (.crossing hbuf h) hans]
    simp only [State.meets, hnew, Bool.false_eq_true, if_false]
  · intro s u t src dst cls p since hu h
    exact exec_packetEjection_answer s u t src dst cls p hu since h
  · intro s u t src dst p st byStop w hu hp hkind hw hout
    rw [exec_response_arrives s u t src dst p hu st byStop w hp hkind hw, hout, if_pos rfl]
  · intro s u t src dst p st byStop w hu hp hkind hw hout
    rw [exec_response_arrives s u t src dst p hu st byStop w hp hkind hw, hout, if_neg Bool.false_ne_true]
  · intro s u t src dst p w hu hp hw hfence
    exact exec_rsvReq_queues s u t src dst p hu w hp hw hfence
  · intro s u t src dst p w hu hp hw hfence
    exact exec_rsvReq_refused s u t src dst p hu w hp hw hfence

/-! ### Credits and standing reservations (R340, R343, R344) -/

theorem exec_creditReturn_returns (s u : State) (t : Nat) (k : Fin 2048) (e : NetEntry) (x : NetResv) (w : State)
    (hu : u = (s.tickTo t).netTurn) (he : u.entry k.val = some e) (hx : x = u.netResv k.val) (hfreed : x.freed ≠ 0)
    (hfence : u.reg (O.RS_FENCE_STATE e.dst) = 0) (hdue : 8 ≤ x.freed ∨ u.netPast x.freedAt 32 = true)
    (hw : w = (u.setNetResv k.val { x with freed := 0, freedAt := 0 }).ledMove 0x1058 3 1 x.freed) :
    exec (.creditReturn t k) s = .next w := by
  have hnow : ¬(x.freed < 8 ∧ (!u.netPast x.freedAt 32) = true) := by
    rintro ⟨hfew, hsoon⟩
    rcases hdue with hmany | hpast
    · omega
    · simp [hpast] at hsoon
  rw [exec_creditReturn, execCreditReturn, ← hu]
  simp only [he, ← hx, hfreed, hfence, hnow, ne_eq, not_true, or_self, if_false, ← hw]

theorem exec_turnCreditReturn_returns (s u : State) (t : Nat) (rs : Fin 98) (y : Fin 4) (cls : Fin 3) (n : Nat) (w : State)
    (hu : u = (s.tickTo t).netTurn) (hn : Tbl.get 0 (u.stop rs.val).turns (y.val * 3 + cls.val) = n) (hpos : n ≠ 0)
    (hw : w = (u.setStop rs.val
      { u.stop rs.val with turns := Tbl.set 0 (u.stop rs.val).turns (y.val * 3 + cls.val) (n - 1) }).ledMove 0x105A 2 1 1) :
    exec (.turnCreditReturn t rs y cls) s = .next w := by
  rw [exec_turnCreditReturn, execTurnCreditReturn, ← hu]
  simp only [hn, hpos, if_false, ← hw]

/-- The credits of some reservations. -/
def creditsOf (l : List (Nat × NetEntry)) : Nat := (l.map fun p => p.2.credits).foldl (· + ·) 0

/-- A STANDING image that is not refused is stored once the reservations that go have all their credits at their sources. -/
theorem ownStanding_stores (img : List Byte) (s : State) (old new gone : List (Nat × NetEntry)) (himg : standingRefused img = false)
    (hold : old = standing (s.image O.NET_STANDING)) (hnew : new = standing img) (hgone : gone = old.filter (fun p => !new.contains p))
    (hhome : gone.any (fun p => (s.netResv p.1).away + (s.netResv p.1).freed != 0) = false) :
    ownStanding img 0 s = (.okay,
      (((((s.ledSub 0x1058 0 (creditsOf old)).ledSub 0x1058 1 (creditsOf gone)).setImage O.NET_STANDING img).ledAdd 0x1058 0
        (creditsOf new)).ledAdd 0x1058 1 (creditsOf (new.filter fun p => !old.contains p)))) := by
  simp only [ownStanding, unscheduled_zero, himg, ← hold, ← hnew, ← hgone, hhome, Bool.false_eq_true, if_false]
  rfl

/-! ### Limits, isolation and bindings (R348, R352) -/

theorem ownDeisolate_frees (rs v : Nat) (s : State)
    (h : ((s.stop rs).resetPorts.testBit (v % 16) && (s.reg (O.RS_ISOLATED_PORTS rs)).testBit (v % 16)) = true) :
    ownDeisolate rs v s = (.okay, s.deisolate rs (2 ^ (v % 16))) := if_pos h

/-- A binding of 16 entries stores the target of each port, and the ports that change are isolated no longer. -/
theorem ownBinding_stores (rs : Nat) (img : List Byte) (s : State) (hlen : img.length = 32) :
    ownBinding rs img 0 s = (.okay,
      (s.setImage (O.RS_BINDING rs) ((List.range 16).flatMap fun p => leBytes 2 (byteAt img (2 * p)))).deisolate rs
        ((List.range 16).foldl (fun m p => if byteAt img (2 * p) = s.binding rs p then m else m + 2 ^ p) 0)) := by
  simp only [ownBinding, unscheduled_zero, hlen, ne_eq, not_true, if_false]

theorem exec_stallLimit_isolates (s u : State) (t : Nat) (rs : Fin 98) (port : Fin 16) (hu : u = (s.tickTo t).netTurn)
    (h : (u.stop rs.val).buf.any (fun p => p.1.dport == port.val && u.netPast p.2 (u.reg O.NET_STALL_LIMIT)) = true) :
    exec (.stallLimit t rs port) s = .next (u.isolate rs.val port.val) := by
  rw [exec_stallLimit, execStallLimit, ← hu]
  exact congrArg _ (if_pos h)

theorem exec_respLimit_isolates (s u : State) (t : Nat) (rs : Fin 98) (port : Fin 16) (hu : u = (s.tickTo t).netTurn)
    (h : (u.stop rs.val).held.any (fun p => p.1.dport == port.val && u.netPast p.2 (u.reg O.NET_RESP_LIMIT)) = true) :
    exec (.respLimit t rs port) s = .next (u.isolate rs.val port.val) := by
  rw [exec_respLimit, execRespLimit, ← hu]
  exact congrArg _ (if_pos h)

/-! ### Fences (R351) -/

section
variable (s u : State) (t : Nat) (src dst : Fin 98) (p : NetPkt) (k : Nat) (w : State) (hu : u = (s.tickTo t).netTurn)
  (hw : w = u.dropPkt p)
include hu hw

theorem exec_fenceNotice_ends (hp : u.findPkt src.val dst.val NetPkt.isNotice = some p) (hkind : p.kind = .unfence k) :
    exec (.fenceNotice t src dst) s = .next (w.setNetResv k { w.netResv k with fenced := false }) := by
  rw [exec_fenceNotice, execFenceNotice, ← hu]
  simp only [hp, hkind, ← hw]

/-- A reservation is fenced at its source: packets of it that have not begun complete with FENCED, and the fence is acknowledged. -/
theorem exec_fenceNotice_fences (v y : State) (cut : NetPkt → Bool) (hp : u.findPkt src.val dst.val NetPkt.isNotice = some p)
    (hkind : p.kind = .fence k) (hcut : cut = fun q => q.request && q.rsv == k && q.left == q.flits)
    (hv : v = (w.setStop dst.val { w.stop dst.val with
      rsv := (w.stop dst.val).rsv.filter (fun q => !cut q),
      waiting := (w.stop dst.val).waiting.filter fun q => !cut q }).setNetResv k { w.netResv k with fenced := true })
    (hy : y = ((w.stop dst.val).rsv.filter cut ++ (w.stop dst.val).waiting.filter cut).foldl
      (fun (s : State) q => s.netDone dst.val q.txn 2 .fenced []) v) :
    exec (.fenceNotice t src dst) s =
      .next (y.control { p with src := p.dst, sport := p.dport, dst := p.src, dport := p.sport, cls := 1, kind := .fenceAck k }) := by
  subst hcut
  rw [exec_fenceNotice, execFenceNotice, ← hu]
  simp only [hp, hkind, ← hw, ← hv, ← hy]

theorem exec_fenceAck_counts (hp : u.findPkt src.val dst.val (fun p => p.cls == 1) = some p) (hkind : p.kind = .fenceAck k) :
    exec (.fenceAck t src dst) s =
      .next ((w.setStop dst.val { w.stop dst.val with acks := (w.stop dst.val).acks - 1 }).checkFenced dst.val) := by
  rw [exec_fenceAck, execFenceAck, ← hu]
  simp only [hp, hkind, ← hw]

end

theorem exec_drainLimit_isolates (s u : State) (t : Nat) (rs : Fin 98) (ports : List Nat) (w : State) (hu : u = (s.tickTo t).netTurn)
    (hfence : u.reg (O.RS_FENCE_STATE rs.val) = 1)
    (hpast : u.netPast (u.stop rs.val).fenceAt (u.reg O.NET_DRAIN_LIMIT) = true)
    (hports : ports = (List.range 16).filter (fun p => (u.stop rs.val).buf.any (fun q => q.1.dport == p) ||
      (u.stop rs.val).held.any (fun q => q.1.dport == p) || (u.stop rs.val).out.any (fun o => o.sport == p)))
    (hw : w = ports.foldl (fun (s : State) p => s.isolate rs.val p) u) :
    exec (.drainLimit t rs) s =
      .next ((w.setStop rs.val { w.stop rs.val with acks := 0 }).setReg (O.RS_FENCE_STATE rs.val) 2) := by
  rw [exec_drainLimit, execDrainLimit, ← hu]
  simp only [hfence, hpast, ← hports, ← hw, ne_eq, not_true, Bool.not_true, Bool.false_eq_true, or_self, if_false]

/-- Settles O45: each clause is what the owner of its object does, or its row's law on the packet or the limit it meets. -/
theorem networkControlCommandsComplete : Obligations.NetworkControlCommandsComplete := by
  refine ⟨exec_creditReturn_returns, exec_turnCreditReturn_returns, ?_, exec_stallLimit_isolates, exec_respLimit_isolates, ?_, ?_, ?_, ?_,
    ?_, ?_, exec_drainLimit_isolates, ?_⟩
  · rintro s _ t r crc img _ old new gone _ z rfl h himg hold hnew hgone hhome rfl rfl hz
    rw [exec_standing, execStanding]
    exact congrArg _ (State.commitObj_okays_at _ _ r _ crc z _ img _ h hz
      (ownStanding_stores img ((s.tickTo t).setXfer _ none) old new gone himg hold hnew hgone hhome))
  · rintro s _ t r rs v rfl hw
    rw [exec_isolate, execIsolate]
    exact congrArg _ (State.writeObj_okays _ _ _ _ _ _ hw rfl)
  · rintro s _ t r rs v rfl hw h
    rw [exec_deisolate, execDeisolate]
    exact congrArg _ (State.writeObj_okays _ _ _ _ _ _ hw (ownDeisolate_frees rs.val v _ h))
  · rintro s _ t r crc img rs _ _ z rfl h rfl hlen rfl hz
    rw [exec_binding, execBinding]
    exact congrArg _ (State.commitObj_okays_at _ _ r _ crc z _ img _ h hz
      (ownBinding_stores rs.val img ((s.tickTo t).setXfer _ none) hlen))
  · intro s u t src dst p k w hu hp hw hkind
    exact exec_fenceNotice_ends s u t src dst p k w hu hw hp hkind
  · intro s u t src dst p k v w y cut hu hp hw hkind hcut hv hy
    exact exec_fenceNotice_fences s u t src dst p k w hu hw v y cut hp hkind hcut hv hy
  · intro s u t src dst p k w hu hp hkind hw
    exact exec_fenceAck_counts s u t src dst p k w hu hw hp hkind
  · rintro s _ t rs port rfl
    rw [exec_networkEvent, execNetworkEvent]

end Sys2Proof.Machine
end

section
/-! The clock reference and its loss, the PLLs, the clock enables and the sources of the fabric's clocks. -/

namespace Sys2Proof.Machine

/-! ### The clock reference (R393, R394, R402, R403) -/

section
variable (s u : State) (t count : Nat) (hu : u = s.tickTo t)
include hu

/-- A gate whose count is in range, with no edge missing, is good. -/
theorem exec_clkrefGate_good (hlow : 9933 ≤ count) (hhigh : count ≤ 10547) (hedges : u.clk.missing = false) :
    exec (.clkrefGate t count) s = .next { u.setReg O.CLKREF_LAST_GATE count with clk := { u.clk with good := u.clk.good + 1 } } := by
  have hcount : count % 65536 = count := Nat.mod_eq_of_lt (Nat.lt_of_le_of_lt hhigh (by decide))
  rw [exec_clkrefGate, execClkrefGate, ← hu, hcount]
  simp only [Nat.not_lt_of_le hlow, Nat.not_lt_of_le hhigh, State.setReg_clk, hedges, Bool.false_eq_true, or_self, if_false]

theorem exec_clkrefGate_bad (v : State) (hbad : count < 9933 ∨ 10547 < count ∨ u.clk.missing = true)
    (hv : v = u.setReg O.CLKREF_LAST_GATE (count % 65536)) :
    exec (.clkrefGate t count) s =
      .next (({ v with clk := { v.clk with good := 0, missing := false } }.bump O.CLKREF_BAD_GATES 1).loseClkref) := by
  subst hv
  rw [exec_clkrefGate, execClkrefGate, ← hu]
  exact congrArg _ (if_pos hbad)

/-- Enough good gates in a row make CLKREF stable; a start-up program that paused for its loss goes on. -/
theorem exec_clkrefStable_rises (hwas : u.isSet O.DEV_CLKREF_STABLE = false) (hgates : u.reg O.CLKREF_STABLE_GATES ≤ u.clk.good) :
    exec (.clkrefStable t) s =
      .next (if u.devWaits then (u.setReg O.DEV_CLKREF_STABLE 1).resumeProgram else u.setReg O.DEV_CLKREF_STABLE 1) := by
  have hwaits : (u.setReg O.DEV_CLKREF_STABLE 1).devWaits = u.devWaits := by
    rw [State.devWaits, State.devWaits, State.reg_setReg_ne _ _ _ _ (by decide)]
  rw [exec_clkrefStable, execClkrefStable, ← hu]
  simp only [hwas, Nat.not_lt_of_le hgates, Bool.false_eq_true, or_self, if_false, hwaits]

/-- The later actions of a loss are done once. -/
theorem exec_clkrefLoss_done (hdue : u.clk.due = true) : ∃ y, exec (.clkrefLoss t) s = .next y ∧ y.clk.due = false := by
  rw [exec_clkrefLoss, execClkrefLoss, ← hu, if_neg (by simp only [hdue, Bool.not_true, Bool.false_eq_true, not_false_eq_true])]
  exact ⟨_, rfl, rfl⟩

/-- The device recovers once every PLL whose shed is ON has locked and no controller whose shed is ON is in self-refresh. -/
theorem exec_clkrefRecovery_ends (w : State) (hstate : u.reg O.DEV_DEVICE_STATE = 4) (hdue : u.clk.due = false)
    (hstable : u.isSet O.DEV_CLKREF_STABLE = true) (hplls : (List.range 51).all (fun n => u.pllLocked n || !u.shedOn (pllShed n)) = true)
    (hmem : (List.range 8).any (fun m => u.reg (O.MEMC_STATE m) == 3 && u.shedOn (quadStop (m / 2) 20)) = false)
    (hw : w = ((u.clocksNow.setReg O.DEV_DEVICE_STATE u.clk.prior).recovery 0 false).shiftLimits (u.now - u.clk.since)) :
    exec (.clkrefRecovery t) s =
      .next (({ (w.wdReload .a).wdReload .b with
        clk := { w.clk with ending := true },
        seq := { w.seq with stepAt := w.seq.stepAt + (u.now - u.clk.since) } } : State).endRecovery) := by
  have hwaits : u.devWaits = true := by rw [State.devWaits, hstate]; rfl
  rw [exec_clkrefRecovery, execClkrefRecovery, ← hu]
  simp only [hwaits, hdue, hstable, hplls, hmem, Bool.not_true, Bool.false_eq_true, or_self, if_false, ← hw]

end

theorem ownPadRelease_releases (s : State) (h : s.ttValid = true) :
    ownPadRelease 1 s = (.okay, (List.range 144).foldl
      (fun (s : State) ch => if s.pllLocked (pllQ (ch / 4)) then s.holdPad ch 2 false else s) (s.holdAll 1 false)) := by
  simp only [ownPadRelease, command_one, h, Bool.not_true, Bool.false_eq_true, if_false]

/-! ### The PLLs (R395, R404) -/

section
variable (s u : State) (t : Nat) (n : Fin 51) (hu : u = s.tickTo t) (hstable : u.isSet O.DEV_CLKREF_STABLE = true)
include hu hstable

theorem exec_pllLock_locks (hshed : u.shedOn (pllShed n.val) = true) (hdue : u.clk.due = false) (hfirst : n.val = 0 ∨ u.clkLost = false) :
    exec (.pllLock t n) s =
      .next ((if n.val = 0 ∧ u.paused = true then u.resumeProgram else u).clocksNow.setPll n.val true) := by
  rw [exec_pllLock, execPllLock, ← hu]
  have hready : (!u.clk.due) = true := by rw [hdue]; rfl
  have hturn : n.val = 0 ∨ (!u.clkLost) = true := hfirst.imp_right fun h => by rw [h]; rfl
  exact congrArg _ (if_pos ⟨hstable, hshed, hready, hturn⟩)

/-- What a lost lock does, PLL by PLL (*Table 15.4*). -/
def State.unlocked (s : State) (k : Nat) : State :=
  if k = 0 then { s.lossNow with clk := { s.lossNow.clk with bySpll := true } }
  else if k < 37 then
    (List.range 4).foldl
      (fun (s : State) i => ((s.holdPad (4 * (k - 1) + i) 2 true).invalidate (4 * (k - 1) + i)).discardPark (4 * (k - 1) + i)) s
  else if k < 41 then s
  else if k < 45 then
    (List.range 2).foldl
      (fun (s : State) i =>
        if s.reg (O.MEMC_STATE (2 * (k - 41) + i)) = 2 then s.setReg (O.MEMC_STATE (2 * (k - 41) + i)) 3 else s) s
  else if k < 49 then s.yardDown (k - 45) 2
  else s.mgtLink (k - 49) false 0

/-- A locked PLL that loses lock is recorded, and its users are taken out of service. -/
theorem exec_pllUnlock_unlocks (v : State) (hlocked : u.pllLocked n.val = true)
    (hv : v = ((u.clocksNow.setPll n.val false).setFlag O.CLK_UNLOCK 0 O.CLK_UNLOCK_COUNT 1).setReg O.CLK_LAST_UNLOCK n.val) :
    exec (.pllUnlock t n) s = .next (v.unlocked n.val) := by
  subst hv
  rw [exec_pllUnlock, execPllUnlock, ← hu]
  simp only [hstable, hlocked, Bool.not_true, Bool.false_eq_true, or_self, if_false]
  rfl

end

/-! The groups of *Table 15.4*, in the order of the PLLs' numbers. -/

theorem State.unlocked_spll (s : State) (k : Nat) (h : k = 0) :
    s.unlocked k = { s.lossNow with clk := { s.lossNow.clk with bySpll := true } } := if_pos h

theorem State.unlocked_qpll (s : State) (k : Nat) (hlow : 1 ≤ k) (hhigh : k < 37) :
    s.unlocked k = (List.range 4).foldl
      (fun (s : State) i => ((s.holdPad (4 * (k - 1) + i) 2 true).invalidate (4 * (k - 1) + i)).discardPark (4 * (k - 1) + i)) s := by
  rw [State.unlocked, if_neg (by omega), if_pos hhigh]

theorem State.unlocked_fpll (s : State) (k : Nat) (hlow : 37 ≤ k) (hhigh : k < 41) : s.unlocked k = s := by
  rw [State.unlocked, if_neg (by omega), if_neg (by omega), if_pos hhigh]

theorem State.unlocked_mpll (s : State) (k : Nat) (hlow : 41 ≤ k) (hhigh : k < 45) :
    s.unlocked k = (List.range 2).foldl
      (fun (s : State) i =>
        if s.reg (O.MEMC_STATE (2 * (k - 41) + i)) = 2 then s.setReg (O.MEMC_STATE (2 * (k - 41) + i)) 3 else s) s := by
  rw [State.unlocked, if_neg (by omega), if_neg (by omega), if_neg (by omega), if_pos hhigh]

theorem State.unlocked_ypll (s : State) (k : Nat) (hlow : 45 ≤ k) (hhigh : k < 49) : s.unlocked k = s.yardDown (k - 45) 2 := by
  rw [State.unlocked, if_neg (by omega), if_neg (by omega), if_neg (by omega), if_neg (by omega), if_pos hhigh]

theorem State.unlocked_management (s : State) (k : Nat) (hlow : 49 ≤ k) : s.unlocked k = s.mgtLink (k - 49) false 0 := by
  rw [State.unlocked, if_neg (by omega), if_neg (by omega), if_neg (by omega), if_neg (by omega), if_neg (by omega)]

/-! ### Enables and sources (R398, R400, R401) -/

/-- The owner of CLK_ENABLE that answers OKAY has stored the image. -/
theorem ownClkEnable_okay (img : List Byte) (s : State) (h : (ownClkEnable img 0 s).1 = .okay) :
    ownClkEnable img 0 s = (.okay, s.fabricNow.setImage O.CLK_CLK_ENABLE img) := by
  simp only [ownClkEnable, unscheduled_zero] at h ⊢
  split at h
  · cases h
  · next hok => exact if_neg hok

theorem State.switchTo_ready (s : State) (o v : Nat) : s.switchTo true o v = (.okay, s.fabricNow.setReg o v) := rfl

/-- A multiplier within the VCO's range is taken while no running global clock takes the FPLL, which relocks. -/
theorem ownFpll_multiplies (f v : Nat) (s : State) (hok : fpllOk v (s.reg (O.FPLL_DIV f)) = true)
    (hfree : (List.range 16).any (fun g => s.domainRunning (340 + g) && decide (s.reg (O.GCLK_SRC g) < 16) &&
      s.reg (O.GCLK_SRC g) / 4 == f) = false) :
    ownFpll f false v s = (.okay, (s.setReg (O.FPLL_M f) v).setPll (pllF f) false) := by
  simp only [ownFpll, Bool.false_eq_true, if_false, hok, hfree, Bool.not_true, or_self]

/-- Settles O34: each clause is what the owner of its object does, or its row's law; a lost lock is `State.unlocked` of its PLL. -/
theorem clockCommandsComplete : Obligations.ClockCommandsComplete := by
  refine ⟨?_, ?_, ?_, ?_, ?_, exec_clkrefLoss_done, ?_, ?_, ?_, ?_, ?_, ?_, ?_, ?_, ?_, ?_, ?_, ?_, ?_, ?_⟩
  · intro s u t count hu hlow hhigh hedges
    exact ⟨_, exec_clkrefGate_good s u t count hu hlow hhigh hedges, State.reg_setReg_same _ _ _, rfl⟩
  · intro s u t count v hu hbad hv
    exact exec_clkrefGate_bad s u t count hu v hbad hv
  · rintro s _ t rfl
    rw [exec_missingEdge, execMissingEdge]
  · intro s u t hu hwas hgates hstate
    have hrun : u.devWaits = false := beq_false_of_ne hstate
    rw [exec_clkrefStable_rises s u t hu hwas hgates, hrun, if_neg Bool.false_ne_true]
  · intro s u t hu hwas hgates hstate
    have hwaits : u.devWaits = true := beq_iff_eq.mpr hstate
    rw [exec_clkrefStable_rises s u t hu hwas hgates, hwaits, if_pos rfl]
  · intro s u t w hu hstate hdue hstable hplls hmem hw
    exact ⟨_, exec_clkrefRecovery_ends s u t hu w hstate hdue hstable hplls hmem hw, rfl⟩
  · rintro s _ t r rfl hw hvalid
    rw [exec_padRelease, execPadRelease]
    exact congrArg _ (State.writeObj_okays _ _ _ _ _ _ hw (ownPadRelease_releases _ hvalid))
  · intro s u t n hu hstable hshed hdue hfirst
    exact exec_pllLock_locks s u t n hu hstable hshed hdue hfirst
  · intro s u t n v hu hstable hlocked hv hn
    rw [exec_pllUnlock_unlocks s u t n hu hstable v hlocked hv, v.unlocked_spll _ hn]
  · intro s u t n v hu hstable hlocked hv hlow hhigh
    rw [exec_pllUnlock_unlocks s u t n hu hstable v hlocked hv, v.unlocked_qpll _ hlow hhigh]
  · intro s u t n v hu hstable hlocked hv hlow hhigh
    rw [exec_pllUnlock_unlocks s u t n hu hstable v hlocked hv, v.unlocked_fpll _ hlow hhigh]
  · intro s u t n v hu hstable hlocked hv hlow hhigh
    rw [exec_pllUnlock_unlocks s u t n hu hstable v hlocked hv, v.unlocked_mpll _ hlow hhigh]
  · intro s u t n v hu hstable hlocked hv hlow hhigh
    rw [exec_pllUnlock_unlocks s u t n hu hstable v hlocked hv, v.unlocked_ypll _ hlow hhigh]
  · intro s u t n v hu hstable hlocked hv hlow
    rw [exec_pllUnlock_unlocks s u t n hu hstable v hlocked hv, v.unlocked_management _ hlow]
  · rintro s _ t r crc img rfl h hok -
    refine ⟨_, congrArg Host.Outcome.next (State.commitObj_okays _ _ r _ crc img _ h (ownClkEnable_okay img _ hok)), ?_,
      congrArg Reply.status (State.complete_reply ..)⟩
    rw [State.image_complete, State.image_setImage_same]
  · rintro s _ t r g v rfl hw hready
    exact congrArg _ (State.writeObj_okays _ _ _ _ _ _ hw (by rw [ownGclkSrc, hready, State.switchTo_ready]))
  · rintro s _ t r g v rfl hw hready
    exact congrArg _ (State.writeObj_okays _ _ _ _ _ _ hw (by rw [ownRclkSrc, hready, State.switchTo_ready]))
  · rintro s _ t r g v rfl hw hready
    exact congrArg _ (State.writeObj_okays _ _ _ _ _ _ hw (by rw [ownRclkDiv, hready, State.switchTo_ready]))
  · rintro s _ t r f v rfl hw hok hfree
    exact congrArg _ (State.writeObj_okays _ _ _ _ _ _ hw (ownFpll_multiplies f.val v _ hok hfree))

end Sys2Proof.Machine
end

section
/-! Observation: halts and steps of engines, the trace, and the event counters. -/

namespace Sys2Proof.Machine

/-! ### Engine run control (R434) -/

/-- A RUNNING engine's gang, none of whose members has a claim, halts at the next word clock. -/
theorem ownEngHalt_halts (v : Nat) (s w : State) (hrun : s.reg (O.ENG_STATE (v % 512)) = 4) (hw : w = s.haltPump.dspPump (v % 512) s.wc)
    (hfree : (w.gangOf (v % 512)).any (fun m => (w.engine m).claim.isSome) = false) :
    ownEngHalt v s = (.okay, w.haltGang (v % 512) (w.wc + 1) [(v % 512, 1)]) := by
  simp only [ownEngHalt, hrun, ne_eq, not_true, if_false, ← hw, hfree, Bool.false_eq_true]

/-- A HALTED engine and the halted members of its gang go on from the next word clock. -/
theorem ownEngGo_resumes (step : Bool) (v : Nat) (s : State) (hhalted : s.reg (O.ENG_STATE (v % 512)) = 7) :
    ownEngGo step v s = (.okay, (s.haltedGang (v % 512)).foldl (fun (s : State) m => s.resumeEngine m (s.wc + 1) step) s) := by
  simp only [ownEngGo, hhalted, ne_eq, not_true, if_false]

/-! ### The trace (R436) -/

/-- A capture begins: the FIFO is empty, and the buffer is written from its start. -/
def State.traceBegun (s : State) : State :=
  (((({ s.countMc with traceFifo := [], traceAt := s.now, traceCount := 0, traceLossPending := 0 } : State).setReg O.TRACE_TRACE_WPTR
    0).setReg O.TRACE_TRACE_WRAPPED 0).setReg O.TRACE_TRACE_RUN 1)

/-- An empty FIFO takes a record. -/
theorem State.tracePut_empty (s : State) (w : Nat) (h : s.traceFifo = []) : s.tracePut w = { s with traceFifo := [w] } := by
  simp only [State.tracePut, h, List.length_nil, Nat.zero_lt_succ, if_true, List.nil_append]

/-- The first record of a capture is its TIME record. -/
theorem ownTraceRun_starts (s : State) :
    ownTraceRun 1 s = (.okay, { s.traceBegun with traceFifo := [s.traceBegun.traceWord 0 0 0 s.traceBegun.stampTick] }) := by
  rw [← State.tracePut_empty _ _ rfl]
  rfl

theorem exec_traceRun_starts (s u : State) (t : Nat) (r : Requester) (hu : u = s.tickTo t)
    (hw : u.writable r O.TRACE_TRACE_RUN 1 = true) :
    ∃ y, exec (.traceRun t r true) s = .next y ∧ y.reg O.TRACE_TRACE_RUN = 1 ∧ y.reg O.TRACE_TRACE_WPTR = 0 ∧
      y.reg O.TRACE_TRACE_WRAPPED = 0 ∧ y.traceFifo.length = 1 ∧ y.reply.status = .okay := by
  subst hu
  refine ⟨_, congrArg Host.Outcome.next (State.writeObj_okays _ _ _ _ _ _ hw (ownTraceRun_starts _)), ?_, ?_, ?_, ?_, ?_⟩
  · rw [State.reg_okays_apart _ _ _ _ (by decide)]
    exact State.reg_setReg_same _ _ _
  · rw [State.reg_okays_apart _ _ _ _ (by decide)]
    exact (State.reg_setReg_ne _ _ _ _ (by decide)).trans
      ((State.reg_setReg_ne _ _ _ _ (by decide)).trans (State.reg_setReg_same _ _ _))
  · rw [State.reg_okays_apart _ _ _ _ (by decide)]
    exact (State.reg_setReg_ne _ _ _ _ (by decide)).trans (State.reg_setReg_same _ _ _)
  · rw [State.complete_traceFifo]
    rfl
  · rw [State.complete_reply]

/-- A controller that executes records an event of its firmware. -/
theorem exec_traceRecord_records (s u : State) (t : Nat) (x : Ctl) (kind : Fin 3) (target : Nat) (hu : u = s.tickTo t)
    (hrun : u.reg (O.RUN_RUN_STATE x.num) < 2) : exec (.traceRecord t x kind target) s = .next (u.trace 1 x.num kind.val target) := by
  rw [exec_traceRecord, execTraceRecord, ← hu]
  exact congrArg _ (if_pos (.inl hrun))

theorem exec_traceDrainEnd_drains (s u : State) (t : Nat) (hu : u = s.tickTo t) (hstopped : u.isSet O.TRACE_TRACE_RUN = false) :
    exec (.traceDrainEnd t) s = .next u.traceDrain := by
  rw [exec_traceDrainEnd, execTraceDrainEnd, ← hu]
  simp only [hstopped, Bool.false_eq_true, if_false]

/-! ### The event counters (R437) -/

theorem ownCounterClear_clears (k : Nat) (s : State) : ownCounterClear k 1 s = (.okay, s.countMc.setReg (O.EVC_COUNT k) 0) := by
  rw [ownCounterClear, command_one]

theorem ownSnap_snaps (s : State) :
    ownSnap 1 s = (.okay, (s.countMc.setImage O.EVSNAP_SNAP_VALUES
      ((List.range 16).flatMap fun k => leBytes 8 (s.countMc.reg (O.EVC_COUNT k)))).setReg O.EVSNAP_SNAP_TT s.countMc.ttTickNow) := by
  rw [ownSnap, command_one]

/-- Settles O30: each clause is what the owner of its object does, or its row's law. -/
theorem observationCommandsComplete : Obligations.ObservationCommandsComplete := by
  refine ⟨?_, ?_, ?_, exec_traceRun_starts, ?_, exec_traceRecord_records, exec_traceDrainEnd_drains, ?_, ?_, ?_⟩
  · rintro s _ t r v rfl hw hrun hfree
    exact congrArg _ (State.writeObj_okays _ _ _ _ _ _ hw (ownEngHalt_halts v _ _ hrun rfl hfree))
  · rintro s _ t r v rfl hw hhalted
    exact congrArg _ (State.writeObj_okays _ _ _ _ _ _ hw (ownEngGo_resumes false v _ hhalted))
  · rintro s _ t r v rfl hw hhalted
    exact congrArg _ (State.writeObj_okays _ _ _ _ _ _ hw (ownEngGo_resumes true v _ hhalted))
  · rintro s _ t r rfl hw
    exact congrArg _ (State.writeObj_okays _ _ _ _ _ _ hw (if_pos rfl))
  · rintro s _ t r v rfl hw
    exact congrArg _ (State.writeObj_okays _ _ _ _ _ _ hw rfl)
  · rintro s _ t r k rfl hw
    exact congrArg _ (State.writeObj_okays _ _ _ _ _ _ hw (ownCounterClear_clears k.val _))
  · rintro s _ t r rfl hw
    exact congrArg _ (State.writeObj_okays _ _ _ _ _ _ hw (ownSnap_snaps _))

end Sys2Proof.Machine
end

section
/-! Resets of the device, its supplies and its temperature. -/

namespace Sys2Proof.Machine

/-! ### Resets and supplies (R424, R446, R449) -/

section
variable (s u : State) (t : Nat)

/-- A power-on reset ends 2 ms after the rails have come up. -/
theorem exec_powerOnReset_ends (mode : Fin 4) (bad : List (Fin 5)) (hu : u = s.tickTo t)
    (hup : u.porAt.any (fun a => decide (u.now < a + 2 * Config.msUnits)) = false) :
    exec (.powerOnReset t mode bad) s = .next (bad.foldl (fun (s : State) k => s.keyFails k.val) (u.resetDevice true 0 mode.val)) := by
  rw [exec_powerOnReset, execPowerOnReset, ← hu]
  simp only [hup, Bool.false_eq_true, if_false]

/-- A low pulse of 20 µs or more is a reset (*Table 16.4*). -/
theorem lowPulse_reset (width : Nat) (h : 20000 ≤ width) : lowPulse width = .reset := by
  simp only [lowPulse]
  repeat' rw [if_neg (by omega)]

theorem exec_pinReset_resets (width : Nat) (mode : Fin 4) (bad : List (Fin 5)) (hu : u = s.tickTo t) (hwidth : 20000 ≤ width) :
    exec (.pinReset t width mode bad) s = .next (u.pinReset 1 mode.val bad) := by
  rw [exec_pinReset, execPinReset, ← hu, lowPulse_reset width hwidth]

theorem exec_supplyOutOfRange_warns (rail : Fin 8) (hu : u = s.tickTo t) (hok : (u.reg O.SUP_SUPPLY_OK).testBit rail.val = true) :
    exec (.supplyOutOfRange t rail) s =
      .next ((u.setReg O.SUP_SUPPLY_OK (setBit (u.reg O.SUP_SUPPLY_OK) rail.val false)).setFlag O.SUP_SUPPLY_WARN rail.val
        O.SUP_SUPPLY_WARN_COUNT 1) := by
  rw [exec_supplyOutOfRange, execSupplyOutOfRange, ← hu]
  exact congrArg _ (if_pos hok)

theorem exec_supplyInRange_rail (rail : Fin 8) (hu : u = s.tickTo t) (hrail : rail.val ≠ railVddq) :
    exec (.supplyInRange t rail) s = .next (u.setReg O.SUP_SUPPLY_OK (setBit (u.reg O.SUP_SUPPLY_OK) rail.val true)) := by
  rw [exec_supplyInRange, execSupplyInRange, ← hu]
  exact congrArg _ (if_neg hrail)

theorem exec_supplyInRange_vddq (rail : Fin 8) (hu : u = s.tickTo t) (hrail : rail.val = railVddq) :
    exec (.supplyInRange t rail) s =
      .next ((u.setReg O.SUP_SUPPLY_OK (setBit (u.reg O.SUP_SUPPLY_OK) rail.val true)).setReg O.SUP_VDDQ_LOW 0) := by
  rw [exec_supplyInRange, execSupplyInRange, ← hu]
  exact congrArg _ (if_pos hrail)

theorem exec_supplyBelowThreshold_resets (rail : Fin 8) (hu : u = s.tickTo t) (hrail : rail.val ≠ railVddq) :
    exec (.supplyBelowThreshold t rail) s = .next { u.resetDevice true 0 0 with porAt := some u.now } := by
  rw [exec_supplyBelowThreshold, execSupplyBelowThreshold, ← hu]
  exact congrArg _ (if_neg hrail)

/-! ### Temperature (R450) -/

/-- What a refresh stores: the hottest sensor, the sensors, and the sense pairs. -/
def State.sensed (s : State) (sensors : List Int) (sense : List Nat) : State :=
  ((s.setReg O.DEV_TEMP (unsigned 32 (hottest sensors))).setImage O.SUP_TEMP_SENSORS
    (sensors.flatMap fun x => leBytes 4 (unsigned 32 x))).setImage O.SUP_VSENSE
      ((List.range 4).flatMap fun i => leBytes 2 (sense.getD i 0 % 65536))

theorem State.reg_sensed (sensors : List Int) (sense : List Nat) (p : Nat) :
    (s.sensed sensors sense).reg p = if p = O.DEV_TEMP then unsigned 32 (hottest sensors) else s.reg p :=
  State.reg_setReg _ _ _ _

/-- The first refresh at TEMP_WARN or above sets its FAULT bit, once. -/
theorem exec_tempRefresh_warns (sensors : List Int) (sense : List Nat) (hu : u = s.tickTo t) (hlen : sensors.length = 20)
    (hwarn : u.tempWarn ≤ signed 32 (unsigned 32 (hottest sensors))) (hcold : u.hot = false) :
    exec (.tempRefresh t sensors sense) s = .next { (u.sensed sensors sense).fault 2 with hot := true } := by
  have hall : (List.range 20).map (fun i => sensors.getD i 0) = sensors :=
    List.ext_getElem (by simp [hlen]) fun i _ h => by simp [h]
  have htemp : (u.sensed sensors sense).tempWarn ≤ (u.sensed sensors sense).temp := by
    rw [State.tempWarn, State.reg_sensed, if_neg (by decide), State.temp, State.reg_sensed, if_pos rfl]
    exact hwarn
  have hnot : ¬(u.sensed sensors sense).hot = true := by rw [Bool.not_eq_true]; exact hcold
  rw [exec_tempRefresh, execTempRefresh, ← hu, hall]
  exact congrArg _ ((if_pos htemp).trans (if_neg hnot))

theorem exec_thermalTrip_trips (hu : u = s.tickTo t) (hfirst : u.tripped = false) (htemp : 120000 ≤ u.temp) :
    ∃ y, exec (.thermalTrip t) s = .next y ∧ y.tripped = true := by
  have hdue : ¬(u.tripped = true ∨ u.temp < 120000) := by
    simp only [hfirst, Int.not_lt.mpr htemp, Bool.false_eq_true, or_self, not_false_eq_true]
  rw [exec_thermalTrip, execThermalTrip, ← hu, if_neg hdue]
  exact ⟨_, rfl, rfl⟩

end

/-- The holds of a trip end once TEMP is 5,000 m°C below TEMP_WARN. -/
theorem ownThermRelease_releases (s : State) (h : s.temp < s.tempWarn - 5000) :
    ownThermRelease 1 s = (.okay, { (s.holdAll 4 false).recovery 2 false with tripped := false }) := by
  simp only [ownThermRelease, command_one, Int.not_le.mpr h, if_false]

theorem State.reg_fault (s : State) (n p : Nat) (hbit : p ≠ O.DEV_FAULT) (hcount : p ≠ O.DEV_FAULT_COUNT0 + n) :
    (s.fault n).reg p = s.reg p := by
  have hne : O.DEV_FAULT ≠ O.DEV_FAULT_COUNT0 + n := by simp only [O.DEV_FAULT, O.DEV_FAULT_COUNT0]; omega
  rw [State.fault, State.reg_setFlag _ _ _ _ _ _ Nat.one_ne_zero hne, if_neg hbit, if_neg hcount]

/-- A fault sets its bit. -/
theorem State.fault_testBit (s : State) (n : Nat) : ((s.fault n).reg O.DEV_FAULT).testBit n = true := by
  have hne : O.DEV_FAULT ≠ O.DEV_FAULT_COUNT0 + n := by simp only [O.DEV_FAULT, O.DEV_FAULT_COUNT0]; omega
  rw [State.fault, State.reg_setFlag _ _ _ _ _ _ Nat.one_ne_zero hne, if_pos rfl, setBit_testBit, if_pos rfl]

/-- Settles O36: each clause is its row's law, or what the owner of THERM_RELEASE does. -/
theorem supplyAndResetCommandsComplete : Obligations.SupplyAndResetCommandsComplete := by
  refine ⟨exec_powerOnReset_ends, exec_pinReset_resets, exec_supplyOutOfRange_warns, exec_supplyInRange_rail, exec_supplyInRange_vddq,
    exec_supplyBelowThreshold_resets, ?_, ?_, exec_thermalTrip_trips, ?_⟩
  · rintro s _ t rfl
    rw [exec_vddqLow, execVddqLow]
  · intro s u t sensors sense hu hlen hwarn hcold
    refine ⟨_, exec_tempRefresh_warns s u t sensors sense hu hlen hwarn hcold, ?_, rfl, State.fault_testBit _ 2⟩
    refine (State.reg_fault _ 2 O.DEV_TEMP (by decide) (by decide)).trans ?_
    rw [State.reg_sensed, if_pos rfl]
  · rintro s _ t r rfl hw h
    exact congrArg _ (State.writeObj_okays _ _ _ _ _ _ hw (ownThermRelease_releases _ h))

end Sys2Proof.Machine
end

section
/-! The debug ports: requests and their answers, the test access port and the one-wire port. -/

namespace Sys2Proof.Machine

/-! ### Requests of a port (R420, R421, R424, R426) -/

/-- The outstanding request of a port is answered with what it does, while its 20 µs have not passed. -/
theorem State.debugServe_answers (s : State) (tap : Bool) (op : Nat) (req : List Byte) (since : Nat)
    (hreq : s.debugReq tap = some (req, since)) (st : Status) (d : List Byte) (w : State) (hop : dbgOp req = op)
    (hsoon : s.now < since + dbgLimit) (hdo : s.debugDo req = some (st, d, w)) : s.debugServe tap op = (w.debugSteal req since).debugDone tap st d := by
  simp only [State.debugServe, hreq, hop, ne_eq, not_true, if_false, Nat.not_le_of_lt hsoon, hdo]

theorem State.debugDo_read (s : State) (req : List Byte) (hop : dbgOp req = 1) : s.debugDo req = s.debugRead (dbgAddr req) := by
  simp only [State.debugDo, hop]

theorem State.debugDo_write (s : State) (req : List Byte) (st : Status) (w : State) (hop : dbgOp req = 2)
    (hwrite : s.debugWrite (dbgAddr req) (dbgEnable req) (dbgData req) = some (st, w)) : s.debugDo req = some (st, [], w) := by
  simp only [State.debugDo, hop, hwrite, Option.map_some]

theorem State.debugDo_status (s : State) (req : List Byte) (hop : dbgOp req = 3) : s.debugDo req = some (.okay, s.debugStatus, s) := by
  simp only [State.debugDo, hop]

/-- A RESET with its pattern, at level 2, is followed by a pin reset 10 µs later. -/
theorem State.debugDo_reset (s : State) (req : List Byte) (hop : dbgOp req = 4) (hlevel : s.reg O.DBG_DEBUG_LEVEL = 2)
    (hdata : dbgData req = fill 8 0x5A) :
    s.debugDo req = some (.okay, [], { s with dbg := { s.dbg with resetAt := some (s.now + 10 * Config.usUnits) } }) := by
  simp only [State.debugDo, hop, State.debugReset, hlevel, hdata, ne_eq, not_true, if_false]

section
variable (s u : State) (t : Nat) (tap : Bool) (mode : Fin 4) (bad : List (Fin 5)) (hu : u = s.tickTo t)
include hu

theorem exec_debugReset_serves (hnone : u.dbg.resetAt = none) : exec (.debugReset t tap mode bad) s = .next (u.debugServe tap 4) := by
  rw [exec_debugReset, execDebugReset, ← hu]
  simp only [hnone, Option.any_none, Bool.false_eq_true, if_false]

theorem exec_debugReset_due (a : Nat) (hat : u.dbg.resetAt = some a) (hdue : a ≤ u.now) :
    exec (.debugReset t tap mode bad) s = .next (u.pinReset 2 mode.val bad) := by
  rw [exec_debugReset, execDebugReset, ← hu]
  simp only [hat, Option.any_some, hdue, decide_true, if_true]

theorem exec_debugRequestTimeout_due (req : List Byte) (since : Nat) (hreq : u.debugReq tap = some (req, since))
    (hdue : since + dbgLimit ≤ u.now) : exec (.debugRequestTimeout t tap) s = .next (u.debugTimeout tap req) := by
  rw [exec_debugRequestTimeout, execDebugRequestTimeout, ← hu]
  simp only [hreq, hdue, if_true]

end

/-! ### The test access port (R422, R423) -/

section
variable (s u : State) (t : Nat) (req r : List Byte) (hu : u = s.tickTo t) (hir : u.dbg.tapIr = tapDbg)
include hu hir

/-- A scan of DBG with a reply waiting shifts it out with READY, and issues the request shifted in. -/
theorem exec_dbg_ready (hreply : u.dbg.tapReply = some r) (hfree : u.dbg.tapReq = none) :
    exec (.dbg t req) s =
      .next (({ u with sent := u.sent ++ [⟨6, leBytes 16 (1 + 2 * leNat r)⟩] } : State).debugIssue true
        (slice 0 16 (req ++ fill 16 0))) := by
  rw [exec_dbg, execDbg, ← hu]
  simp only [hir, hreply, hfree, ne_eq, not_true, if_false, Option.isSome_none, Bool.false_eq_true]

/-- Without a reply the bits shifted out are free values, and READY is 0. -/
theorem exec_dbg_waiting (w : State) (hreply : u.dbg.tapReply = none) (hdraw : u.drawBytes 9 = (r, w)) (hkept : w.dbg = u.dbg)
    (hfree : u.dbg.tapReq = none) :
    exec (.dbg t req) s =
      .next (({ w with sent := w.sent ++ [⟨6, leBytes 16 (2 * leNat r)⟩] } : State).debugIssue true
        (slice 0 16 (req ++ fill 16 0))) := by
  rw [exec_dbg, execDbg, ← hu]
  simp only [hir, hreply, hdraw, hkept, hfree, ne_eq, not_true, if_false, Option.isSome_none, Bool.false_eq_true]

end

section
variable (s u : State) (t : Nat) (op : BitVec 8) (hu : u = s.tickTo t)
include hu

/-- An instruction that controls the pads takes effect where it may drive them. -/
theorem exec_tapInstruction_drives (hpads : tapPads op.toNat = true) (hmay : u.tapMayDrive = true) :
    exec (.tapInstruction t op) s = .next { u with dbg := { u.dbg with tapIr := op.toNat } } := by
  rw [exec_tapInstruction, execTapInstruction, ← hu]
  simp only [hpads, hmay, Bool.not_true, Bool.false_eq_true, and_false, if_false, true_or, if_true]

/-- An instruction that does not control them takes effect where it is listed, and acts as BYPASS where it is not. -/
theorem exec_tapInstruction_passive (hpads : tapPads op.toNat = false) :
    exec (.tapInstruction t op) s =
      .next { u with dbg := { u.dbg with tapIr := if op = 1#8 ∨ op = 2#8 ∨ op = 0x20#8 then op.toNat else 0xFF } } := by
  have hlisted : (op.toNat = 0x01 ∨ op.toNat = 0x02 ∨ op.toNat = tapDbg) ↔ (op = 1#8 ∨ op = 2#8 ∨ op = 0x20#8) := by
    simp only [← BitVec.toNat_inj, BitVec.toNat_ofNat, tapDbg]
  rw [exec_tapInstruction, execTapInstruction, ← hu]
  simp only [hpads, Bool.false_eq_true, false_and, if_false, false_or, hlisted]

end

/-! ### The one-wire port (R425) -/

/-- A frame whose CRC-8 is right, with no request outstanding, issues its request. -/
theorem exec_oneWireFrame_issues (s u : State) (t : Nat) (frame : List Byte) (hu : u = s.tickTo t) (hbegun : u.dbg.owFrame = true)
    (hlen : frame.length = 17) (hfree : u.dbg.owReq = none) (hcrc : byteAt frame 16 = crc8 (frame.take 16)) :
    exec (.oneWireFrame t frame) s =
      .next (({ u with dbg := { u.dbg with owFrame := false } } : State).debugIssue false (frame.take 16)) := by
  rw [exec_oneWireFrame, execOneWireFrame, ← hu]
  simp only [hbegun, hlen, hfree, hcrc, Bool.not_true, Bool.false_eq_true, ne_eq, not_true, or_self, if_false, if_true]

/-- Settles O38: a request is answered with what `State.debugDo` gives for its operation; the other rows are their laws. -/
theorem debugCommandsComplete : Obligations.DebugCommandsComplete := by
  refine ⟨?_, ?_, ?_, ?_, ?_, ?_, exec_dbg_ready, ?_, ?_, exec_tapInstruction_drives, ?_, ?_, exec_oneWireFrame_issues⟩
  · rintro s _ t tap req since st d w rfl hreq hop hsoon hread
    exact congrArg _ (State.debugServe_answers _ _ _ _ _ hreq _ _ _ hop hsoon ((State.debugDo_read _ _ hop).trans hread))
  · rintro s _ t tap req since st w rfl hreq hop hsoon hwrite
    exact congrArg _ (State.debugServe_answers _ _ _ _ _ hreq _ _ _ hop hsoon (State.debugDo_write _ _ _ _ hop hwrite))
  · rintro s _ t tap req since rfl hreq hop hsoon
    exact congrArg _ (State.debugServe_answers _ _ _ _ _ hreq _ _ _ hop hsoon (State.debugDo_status _ _ hop))
  · intro s u t tap mode bad req since hu hnone hreq hop hsoon hlevel hdata
    rw [exec_debugReset_serves s u t tap mode bad hu hnone]
    exact congrArg _ (State.debugServe_answers _ _ _ _ _ hreq _ _ _ hop hsoon (State.debugDo_reset _ _ hop hlevel hdata))
  · intro s u t tap mode bad a hu hat hdue
    exact exec_debugReset_due s u t tap mode bad hu a hat hdue
  · intro s u t tap req since hu hreq hdue
    exact exec_debugRequestTimeout_due s u t tap hu req since hreq hdue
  · intro s u t req r w hu hir hreply hdraw hkept hfree
    exact exec_dbg_waiting s u t req r hu hir w hreply hdraw hkept hfree
  · rintro s _ t rfl
    rw [exec_break, execBreak]
  · intro s u t op hu hpads hidcode hsample hdbg
    rw [exec_tapInstruction_passive s u t op hu hpads, if_neg (by simp only [hidcode, hsample, hdbg, or_self, not_false_eq_true])]
  · intro s u t op hu hlisted
    have hpads : tapPads op.toNat = false := by rcases hlisted with rfl | rfl | rfl <;> rfl
    rw [exec_tapInstruction_passive s u t op hu hpads, if_pos hlisted]

end Sys2Proof.Machine
end
